-- ==== Sys2Proof/Word.lean ====
section
/-! DEFINITION. The word types of the model: a register word (R101), a byte, and a binary32 value
(R10), which is kept as its 32 bits. -/

namespace Sys2Proof

/-- A 32-bit register word (R101). -/
abbrev Word := BitVec 32

/-- One byte. -/
abbrev Byte := BitVec 8

/-- A binary32 value of IEEE 754, as its bits (R10). -/
abbrev F32 := BitVec 32

end Sys2Proof
end

