-- ==== Sys2Proof/Syntax.lean ====
section
/-! DEFINITION. The commands of the block: one constructor per row of spec/opcode_table.json.  An
operand carries what the environment supplies: an index, a value written, the bytes received, the
outcome of a measurement, or the site time of an edge. -/

namespace Sys2Proof

/-- An element that can be tested and fenced (R450; unit codes of the reliability chapter). -/
inductive Element where
  /-- SRAM macro -/
  | sram (m : Nat)
  | field (i : Fin 32)
  | aoMon (n : Fin 8)
  /-- control-plane lane: 0 A, 1 B -/
  | lane (l : Fin 2)
  | valve (v : Fin 96)
  | fan (f : Fin 16)
  | sprin (p : Fin 24)
  /-- Millstone physical quad; 16 is the spare -/
  | quad (q : Fin 17)
  /-- die link: 0 P0, 1 P1, 2 door -/
  | link (d : Fin 3)
  /-- DRAM row, by byte address -/
  | dramRow (addr : Nat)
  /-- management core or its memory -/
  | core (c : Fin 2)
  | aon
deriving DecidableEq, Repr

/-- A power-stage or display rail (R61). -/
inductive Rail where
  | vbank (b : Fin 12)
  | vfan
  | vcab
  | vled
  | vepP
  | vepN
deriving DecidableEq, Repr

/-- Measured chopping periods of one channel: bank, on-fraction D in 1/4096, mean sensed current,
supply, number of periods (R374). -/
structure ChopRun where
  bank : Nat
  d : Nat
  ma : Nat
  mv : Nat
  n : Nat
deriving DecidableEq, Repr

/-- Time a bank's high-side switch carried a current (R374). -/
structure HsRun where
  bank : Nat
  ma : Nat
  us : Nat
deriving DecidableEq, Repr


/-- What falls between a sample's latch and its output instant (R303, R318). -/
inductive SampleCut where
  /-- nothing: the outputs are applied -/
  | clean
  /-- a request for OFF reaches the register -/
  | off
  /-- lockstep recovery abandons the sample -/
  | lockstep
  /-- a swap removes the slot's section -/
  | removed
deriving DecidableEq, Repr

/-- A write of the swap key by a requester, and what the loader then finds in the configuration flash: that it runs
in 8D mode, and for each slot which reads of its header or its body fail (R81, R89). -/
structure SwapWrite where
  req : Nat
  octal : Bool
  badA : Fin 4
  badB : Fin 4
deriving DecidableEq, Repr

/-- A tach level change to high: how long it lasted, and its stamp, in µs of site time (R379). -/
structure TachLevel where
  us : Nat
  stampUs : Nat
deriving DecidableEq, Repr

/-- The flush of a sluice: how long it took, in units of 10 µs, and how many of its pages failed their
verification (R65, R440). -/
structure FlushRun where
  time10us : BitVec 12
  bad : Fin 17
deriving DecidableEq, Repr

/-- The mean on-fraction of a probe's 64 periods, in 1/65536, and the ID of a stop that the channel takes
in the cycle of the verdict (R364, R370). -/
structure ProbeMean where
  d : Nat
  stop : Option (BitVec 8) := none
deriving DecidableEq, Repr

/-- The flush of a halt grace: the records flushed, and how many pages failed their verification (R399, R440). -/
structure GraceFlush where
  records : Nat
  bad : Fin 17
deriving DecidableEq, Repr

/-- A LOG READ datagram, and the records that the log flash then fails to read, with the kind of failure (R442). -/
structure LogReadIn where
  dg : List Byte
  bad : List (Nat × Nat)
deriving DecidableEq, Repr

/-- A DATA datagram, and which reads of the written slot then fail (R89, R132). -/
structure DataIn where
  dg : List Byte
  bad : Fin 4
deriving DecidableEq, Repr

/-- A detected error: no code corrects it, and the word of an SRAM macro in which it lies (R450, R459). -/
structure ErrorAt where
  uncorr : Bool
  word : Nat
deriving DecidableEq, Repr

/-- The commands of the block, one constructor per row of the command table. -/
inductive Instr where
  /-- ESTIMATE_TICK (R23): At each 100 µs tick the estimate leat swaps the front and back banks and
      increments the epoch. -/
  | estimateTick
  /-- TIME_BROADCAST (R32): The time unit broadcasts full site time at each 1 ms boundary and the
      planes reload their local copies. -/
  | timeBroadcast
  /-- SETPOINT_REQUEST_DELIVER (R28): A queued set-point leat request, held until its arm has room,
      reaches its register in order. -/
  | setpointRequestDeliver (dataArm : Bool)
  /-- READ_REPLY (R29): A control- or data-plane register read reply returns on the event leat to
      its requester. -/
  | readReply
  /-- LATCH_GROUP_READ (R110): A read of the lowest member of a latch group captures every member
      for that requester. -/
  | latchGroupRead (req : Nat) (addr : Nat)
  /-- REGISTER_WRITE (R106): A write to a register with no behaviour of its own is stored or handled
      as a violation. -/
  | registerWrite (req : Nat) (addr : Nat) (val : Word)
  /-- PFI_BELOW_THRESHOLD (R62): PFI falls below 1.000 V and the deglitch time starts. -/
  | pfiBelowThreshold
  /-- PFAIL_ASSERT (R65): PFI stays below threshold for the deglitch time, PFAIL asserts and the
      sluice starts. -/
  | pfailAssert
  /-- SLUICE_FLUSH_DONE (R67): The sluice pond flush ends and the last-word test decides whether
      step 4 runs. -/
  | sluiceFlushDone (flush : FlushRun)
  /-- SLUICE_LAST_WORD_DONE (R65): The sluice last-word waveform ends and the completion marker
      write starts. -/
  | sluiceLastWordDone
  /-- SLUICE_MARKER_WRITTEN (R70): The completion marker is written and the module enters the
      sluice-done state. -/
  | sluiceMarkerWritten
  /-- SLUICE_RESTART (R63): PFI stays at or above the return threshold for 100 ms and the module
      makes a sluice restart. -/
  | sluiceRestart
  /-- RAIL_DIP (R60): A logic rail out of tolerance for more than 5 µs resets the three planes. -/
  | railDip (rail : Fin 5) (us : Nat)
  /-- LOGIC_RAILS_GOOD (R60): All logic rails within tolerance for 1 ms allows the planes out of
      reset. -/
  | logicRailsGood
  /-- POWER_ON_RESET (R77): Logic rails rise from below 0.5 V, or V1P8 recovers from collapse, and
      everything including the always-on block is reset. -/
  | powerOnReset (straps : BitVec 3)
  /-- POWER_STAGE_RAIL_CHANGE (R61): A power-stage or display rail crosses its low or good threshold
      and the units react. -/
  | powerStageRailChange (rail : Rail) (mv : Nat)
  /-- EXTERNAL_RESET (R77): nRST held low for at least 10 µs resets the three planes. -/
  | externalReset (straps : BitVec 3)
  /-- TESTMODE_ASSERT (R54): TESTMODE going to 1 holds all three planes in reset. -/
  | testmodeAssert
  /-- TEST_RELEASE (R77): TESTMODE returning to 0 restarts the planes with cause 0x08. -/
  | testRelease
  /-- COMMAND_RESET (R77): A write of 0xB007 to PWR_RESET_CMD starts a command reset with sluice
      steps 1-3 and 5. -/
  | commandReset (req : Nat)
  /-- PLL_LOCKED (R74): PLL_LOCK rises once the reference is present and rails are good. -/
  | pllLocked
  /-- PLANE_RELEASE (R74): 1 ms after PLL_LOCK the always-on block releases the planes from reset.
      -/
  | planeRelease (octal : Bool) (badA : Fin 4) (badB : Fin 4) (repaired : List Nat)
  /-- PLL_LOCK_LOSS (R76): PLL_LOCK falls, all planes are held in reset and the PLL is restarted. -/
  | pllLockLoss
  /-- REF_LOST (R75): REF_IN missing or off-frequency switches the PLL to the crystal until the next
      reset. -/
  | refLost
  /-- LIFE_COUNTER_SAVE (R79): Every 64 s of operating time the life counters and site time are
      saved to the log flash. -/
  | lifeCounterSave
  /-- GAUGE_UPDATE (R67): Every 1 ms the hold-up gauge recomputes ENERGY_MJ from VHOLD_SNS. -/
  | gaugeUpdate (code : BitVec 12)
  /-- CADDY_FIRST_PASS_DONE (R91): The first pass over the image ends and the signature is verified.
      -/
  | caddyFirstPassDone (readErr : Bool)
  /-- CADDY_SECOND_PASS_DONE (R91): The second pass ends with matching hash; RWL registers lock,
      firmware starts and slots enter START. -/
  | caddySecondPassDone (altered : Bool) (readErr : Bool) (ms : Nat)
  /-- KEY_PROGRAM (R88): CADDY_KEY_CTRL program command writes the staged hash into a key slot. -/
  | keyProgram (req : Nat) (slot : Fin 4)
  /-- KEY_REVOKE (R88): CADDY_KEY_CTRL revoke command revokes a programmed key slot. -/
  | keyRevoke (req : Nat) (slot : Fin 4)
  /-- CADDY_SWAP (R97): A write of the swap key starts a swap to the inactive slot, or is refused.
      -/
  | caddySwap (x : SwapWrite)
  /-- BODY_SWAP_RESUME (R98): A body paused for a swap resumes after its sections are applied. -/
  | bodySwapResume (k : Fin 16)
  /-- MGMT_FW_RESTART_DONE (R98): The management firmware restart ends and host services resume. -/
  | mgmtFwRestartDone (ms : Nat)
  /-- KMP_HELLO (R124): A HELLO opens a pending session and is answered by WELCOME, or refused. -/
  | kmpHello (src : Nat) (dg : List Byte)
  /-- KMP_BYE (R128): BYE closes the session. -/
  | kmpBye (src : Nat) (dg : List Byte)
  /-- KMP_READ (R129): READ returns the values of up to 64 register addresses. -/
  | kmpRead (src : Nat) (dg : List Byte)
  /-- KMP_WRITE (R129): WRITE writes up to 64 address and value pairs. -/
  | kmpWrite (src : Nat) (dg : List Byte)
  /-- KMP_BLOCK_READ (R129): BLOCK READ returns up to 256 consecutive words. -/
  | kmpBlockRead (src : Nat) (dg : List Byte)
  /-- KMP_LOG_READ (R442): LOG READ returns available records from one capture with HWM and flags.
      -/
  | kmpLogRead (src : Nat) (x : LogReadIn)
  /-- KMP_LOG_FREEZE (R444): LOG FREEZE sets or lifts a freeze through LOG_FREEZE. -/
  | kmpLogFreeze (src : Nat) (dg : List Byte)
  /-- KMP_CUP_READ (R340): CUP READ streams cup bytes as a bulk transfer. -/
  | kmpCupRead (src : Nat) (dg : List Byte)
  /-- KMP_CADDY_WRITE (R133): CADDY WRITE starts a bulk write of an image into a slot. -/
  | kmpCaddyWrite (src : Nat) (dg : List Byte)
  /-- KMP_SNAPSHOT_EXPORT (R298): SNAPSHOT export streams a body's full cell records. -/
  | kmpSnapshotExport (src : Nat) (dg : List Byte)
  /-- KMP_SNAPSHOT_IMPORT (R298): SNAPSHOT import pauses a body, replaces its cells and resumes it,
      or is refused on digest mismatch. -/
  | kmpSnapshotImport (src : Nat) (dg : List Byte)
  /-- KMP_HEARTBEAT (R149): HEARTBEAT makes a heartbeat for the host watchdog. -/
  | kmpHeartbeat (src : Nat) (dg : List Byte)
  /-- KMP_SET_TIME (R164): SET TIME sets site time by a millisecond step and slew, or is refused. -/
  | kmpSetTime (src : Nat) (dg : List Byte)
  /-- KMP_DATA (R132): A DATA datagram of a bulk transfer is stored or programmed. -/
  | kmpData (src : Nat) (x : DataIn)
  /-- KMP_ACK (R132): An ACK advances the acknowledged offset of a bulk transfer. -/
  | kmpAck (src : Nat) (dg : List Byte)
  /-- BULK_DATA_SEND (R132): The module sends the next DATA datagram of a transfer, at most one per
      40 µs. -/
  | bulkDataSend (i : Fin 2)
  /-- BULK_ACK_TIMER (R132): 10 ms without DATA makes the receiver send an ACK. -/
  | bulkAckTimer (i : Fin 2)
  /-- BULK_RESEND_TIMEOUT (R132): 100 ms without advance makes the sender resend from the
      acknowledged offset. -/
  | bulkResendTimeout (i : Fin 2)
  /-- BULK_ABANDON_TIMEOUT (R132): 5 s without advance abandons the transfer with status 0x09. -/
  | bulkAbandonTimeout (i : Fin 2)
  /-- KMP_PENDING_TIMEOUT (R128): A pending session closes after 5 s. -/
  | kmpPendingTimeout (n : Fin 8)
  /-- KMP_IDLE_TIMEOUT (R128): A session closes after 60 s without an accepted datagram. -/
  | kmpIdleTimeout (n : Fin 8)
  /-- KMP_TAG_FAIL_SECOND (R127): At the end of a second with tag failures one record 0xC010 is
      written. -/
  | kmpTagFailSecond
  /-- FRAME_FORWARD (R115): The switch forwards or delivers a received Ethernet frame. -/
  | frameForward (port : Fin 3) (frame : List Byte)
  /-- STORM_SECOND_END (R117): At the end of a second with storm drops one record 0x800C is written.
      -/
  | stormSecondEnd (e : Fin 2)
  /-- MAC_AGE_OUT (R115): A learned MAC address is aged out after 300 s. -/
  | macAgeOut (mac : Nat)
  /-- LINK_CHANGE (R118): A port's link goes up or down. -/
  | linkChange (e : Fin 2) (up : Bool) (speed : Fin 3) (full : Bool)
  /-- ARP_REQUEST (R121): An ARP or neighbour discovery message is answered. -/
  | arpRequest (e : Fin 2) (ip6 : Bool) (target : Nat)
  /-- ECHO_REQUEST (R121): An ICMP echo is answered within the rate limit. -/
  | echoRequest (e : Fin 2)
  /-- UNSERVED_PORT_SEGMENT (R121): TCP to an unserved port is answered with RST; UDP is dropped. -/
  | unservedPortSegment (e : Fin 2) (tcp : Bool) (dport : Nat)
  /-- DHCP_RENEW (R120): At half the lease the DHCP client renews. -/
  | dhcpRenew (lease : Nat)
  /-- DHCP_LEASE_LOST (R120): A lost lease withdraws the IPv4 address. -/
  | dhcpLeaseLost
  /-- ADDRESS_PROBE_DONE (R120): RFC 5227 conflict detection ends and the address is used or marked
      in conflict. -/
  | addressProbeDone (addr : Word) (mask : Word) (gw : Word) (lease : Nat) (conflict : Bool)
  /-- CONFLICT_RETRY (R120): A conflicting address is tried again after 60 s. -/
  | conflictRetry
  /-- MODBUS_CONNECT (R135): A Modbus TCP connection is accepted or closed at once beyond MAX_CONN.
      -/
  | modbusConnect (conn : Nat) (src : Nat)
  /-- MODBUS_IDLE_CLOSE (R135): A Modbus connection idle for IDLE_S is closed. -/
  | modbusIdleClose (conn : Nat)
  /-- MODBUS_READ_HOLDING (R140): FC03 reads mapped holding registers. -/
  | modbusReadHolding (conn : Nat) (adu : List Byte)
  /-- MODBUS_READ_INPUT (R137): FC04 reads estimate-table or mapped input registers. -/
  | modbusReadInput (conn : Nat) (adu : List Byte)
  /-- MODBUS_WRITE_SINGLE (R140): FC06 writes one allow-listed width-1 register. -/
  | modbusWriteSingle (conn : Nat) (adu : List Byte)
  /-- MODBUS_WRITE_MULTIPLE (R140): FC16 writes allow-listed entries in ascending address. -/
  | modbusWriteMultiple (conn : Nat) (adu : List Byte)
  /-- MODBUS_READ_WRITE (R140): FC23 writes then reads. -/
  | modbusReadWrite (conn : Nat) (adu : List Byte)
  /-- CLIENT_POLL (R143): A Modbus client poll writes a server's enabled outputs and reads its
      readback. -/
  | clientPoll (m : Fin 16)
  /-- CLIENT_RESPONSE (R143): A client transaction response arrives. -/
  | clientResponse (m : Fin 16) (pdu : List Byte)
  /-- CLIENT_TRANSACTION_TIMEOUT (R143): No response within 200 ms fails the transaction. -/
  | clientTransactionTimeout (m : Fin 16)
  /-- CLIENT_CONNECTION_LOST (R143): Loss of a server connection makes it DOWN. -/
  | clientConnectionLost (m : Fin 16)
  /-- CLIENT_RECONNECT (R143): The client reconnects to a DOWN server after a doubling interval. -/
  | clientReconnect (m : Fin 16) (ok : Bool)
  /-- HSPI_READ (R146): A host SPI READ frame issues a register read. -/
  | hspiRead (cmd : Word) (data : Word) (clocks : Nat)
  /-- HSPI_WRITE (R145): A host SPI WRITE frame writes a register. -/
  | hspiWrite (cmd : Word) (data : Word) (clocks : Nat)
  /-- HSPI_FETCH (R146): A FETCH frame collects the outstanding read result. -/
  | hspiFetch (cmd : Word) (data : Word) (clocks : Nat)
  /-- HEARTBEAT (R149): A write to NET_HEARTBEAT from an enabled source restarts the watchdog timer.
      -/
  | heartbeat (req : Nat) (val : Word)
  /-- WATCHDOG_TRIP (R150): The watchdog timer reaches TIMEOUT_S and forces the guarded fans. -/
  | watchdogTrip
  /-- PPS_EDGE (R157): A PPS_IN edge is time-stamped and judged valid. -/
  | ppsEdge (falling : Bool) (t : Nat)
  /-- NMEA_SENTENCE (R158): A received NMEA sentence is checked and labels the preceding edge. -/
  | nmeaSentence (text : List Byte) (t : Nat)
  /-- GNSS_LOST (R156): No valid edge for 3 s or no valid sentence for 10 s declares GNSS lost. -/
  | gnssLost
  /-- HOLDOVER_EXPIRE (R155): HOLDOVER_MIN expires and the time unit enters FREE. -/
  | holdoverExpire
  /-- TIME_STEP_APPLY (R165): A decided step takes effect at a 1 ms boundary in every plane. -/
  | timeStepApply
  /-- SLEW_DONE (R163): A phase slew completes. -/
  | slewDone
  /-- TIME_SET_CMD (R164): A write of the key to TIME_SET_CMD sets site time from the TIME_SET
      registers. -/
  | timeSetCmd (req : Nat)
  /-- GNSS_RECEIVER_RESET (R160): After 60 s with nothing valid nGNSS_RST is pulsed low for 100 ms.
      -/
  | gnssReceiverReset
  /-- GNSS_SETUP_SEND (R160): At start and 1 s after each receiver reset the set-up text is sent. -/
  | gnssSetupSend
  /-- TIME_MARK (R168): Every 3,600 s of operating time a time-mark record 0x9002 is written. -/
  | timeMark
  /-- PTP_ANNOUNCE_SEND (R169): A PTP port sends Announce at its interval. -/
  | ptpAnnounceSend (n : Fin 2)
  /-- PTP_SYNC_SEND (R169): A PTP port sends Sync and Follow_Up. -/
  | ptpSyncSend (n : Fin 2)
  /-- PTP_DELAY_REQ (R169): A received Delay_Req is answered with Delay_Resp. -/
  | ptpDelayReq (n : Fin 2) (seq : BitVec 16) (t : Nat)
  /-- PTP_FOREIGN_ANNOUNCE (R170): A better foreign Announce puts the port in PASSIVE. -/
  | ptpForeignAnnounce (n : Fin 2) (domain : BitVec 8) (dataset : List Nat)
  /-- PTP_ANNOUNCE_TIMEOUT (R170): Three announce intervals without the foreign Announce return the
      port to MASTER. -/
  | ptpAnnounceTimeout (n : Fin 2)
  /-- PPS_OUT_EDGE (R171): PPS_OUT rises at each whole second of site time. -/
  | ppsOutEdge
  /-- SPRIN_CYCLE_START (R183): A Sprinline cycle starts with SYNC, then host command, enumeration
      or scan, polls and alarm calls. -/
  | sprinCycleStart (p : Fin 24) (ma : Nat)
  /-- SPRIN_REPLY (R185): A node REPLY is received whole and processed. -/
  | sprinReply (p : Fin 24) (rtt : Nat) (line : List Bool) (last : List Bool)
  /-- SPRIN_REPLY_TIMEOUT (R196): No reply start within t_ML fails the poll and may retry it. -/
  | sprinReplyTimeout (p : Fin 24)
  /-- SPRIN_ALARM_FRAME (R186): A valid ALARM is received and acknowledged with ACK_ALARM. -/
  | sprinAlarmFrame (p : Fin 24) (rtt : Nat) (line : List Bool) (last : List Bool)
  /-- SPRIN_ENUM_PRESENCE (R190): The presence window of an ENUM QUERY ends with or without a hit
      and the search advances. -/
  | sprinEnumPresence (p : Fin 24) (hit : Bool)
  /-- SPRIN_SUPPLY_TRIP (R194): The cable supply stays in current limit for 10 ms and switches off.
      -/
  | sprinSupplyTrip (p : Fin 24) (ma : Nat)
  /-- SPRIN_SUPPLY_RETRY (R194): After RETRY_S a tripped port returns to POWERING. -/
  | sprinSupplyRetry (p : Fin 24)
  /-- SPRIN_BOOT_DONE (R195): BOOT_MS of POWERING ends and the port enters ENUM. -/
  | sprinBootDone (p : Fin 24)
  /-- SPRIN_STUCK (R195): The line stays away from idle for more than 1 ms and the port enters
      STUCK. -/
  | sprinStuck (p : Fin 24)
  /-- SPRIN_STUCK_END (R195): After 1 s off a STUCK port returns to POWERING. -/
  | sprinStuckEnd (p : Fin 24)
  /-- SPRIN_REENUMERATE (R196): SPRIN_CMD ACTION 1 cancels polls and re-enumerates the port. -/
  | sprinReenumerate (req : Nat) (p : Fin 24)
  /-- SPRIN_POWER_CYCLE (R195): SPRIN_CMD ACTION 2 switches the cable supply off for 1 s. -/
  | sprinPowerCycle (req : Nat) (p : Fin 24)
  /-- SPRIN_IDENTIFY (R181): SPRIN_CMD ACTION 3 makes a node IDENTIFY for 10 s. -/
  | sprinIdentify (req : Nat) (p : Fin 24) (addr : BitVec 8)
  /-- SPRIN_NCMD_GO (R183): GO in SPRIN_NCMD queues a host command for the next cycle. -/
  | sprinNcmdGo (req : Nat) (p : Fin 24) (val : Word)
  /-- SPRIN_MINUTE_REPORT (R184): At the end of a minute with deferred polls or line errors one
      record is written. -/
  | sprinMinuteReport (p : Fin 24)
  /-- FIELD_SAMPLE (R203): A field input's filter window ends and value, faults and estimate entry
      are produced. -/
  | fieldSample (i : Fin 32) (raw : BitVec 24) (y : List F32) (t : Nat)
  /-- SHUNT_OVERLOAD (R205): Shunt current above 30 mA for 10 ms opens the shunt. -/
  | shuntOverload (i : Fin 32)
  /-- SHUNT_RECLOSE (R205): 1 s after opening the shunt closes again and the input settles. -/
  | shuntReclose (i : Fin 32)
  /-- AO_MONITOR_SAMPLE (R213): The 1 kS/s monitor writes the analog output read-back. -/
  | aoMonitorSample (n : Fin 8) (value : F32)
  /-- AO_FAULT_ENTER (R213): A deviation or open loop for 10 ms enters a fault and starts a
      reference injection. -/
  | aoFaultEnter (n : Fin 8)
  /-- AO_FAULT_CLEAR (R213): 100 ms without the condition clears the fault. -/
  | aoFaultClear (n : Fin 8)
  /-- PULSE_EDGE (R214): A filtered level change on a pulse input is accepted, stamped and counted.
      -/
  | pulseEdge (n : Fin 4) (rising : Bool) (dur5ns : Nat) (t : Nat)
  /-- PULSE_TIMEOUT (R215): No edge within TIMEOUT sets RATE to 0 and STOPPED. -/
  | pulseTimeout (n : Fin 4)
  /-- PULSE_MINUTE_REPORT (R215): At the end of a minute with OVERRATE one record 0x7030 is written.
      -/
  | pulseMinuteReport (n : Fin 4)
  /-- BODY_STEP_READY (R280): At site time t_e a body's step becomes ready and is queued for
      dispatch. -/
  | bodyStepReady (k : Fin 16)
  /-- TILE_DONE (R237): A quad completes a tile, writes it back after its checks and the next ready
      tile is dispatched. -/
  | tileDone (k : Fin 16) (tile : Nat) (bad : List Nat) (q : Nat)
  /-- READING_ARRIVE (R283): A sensor reading for an anchor arrives and is sorted as on time, late,
      aged or discarded. -/
  | readingArrive (anchor : Nat) (value : F32) (sigma : F32) (stamp : Nat)
  /-- AIRFLOW_SOLVE_DUE (R256): Every PERIOD_S of model time a periodic airflow solve is queued. -/
  | airflowSolveDue (k : Fin 16)
  /-- AIRFLOW_SOLVE_DONE (R255): An airflow solve ends and its field applies from the next step, or
      the old field is kept. -/
  | airflowSolveDone (k : Fin 16) (passes : Nat) (cycles : Nat) (ppm : Nat)
  /-- FORECAST_RUN_START (R293): RUN_PERIOD_S after the last run a forecast run is queued. -/
  | forecastRunStart (k : Fin 16)
  /-- FORECAST_RUN_DONE (R293): A forecast run ends and probe entries are written. -/
  | forecastRunDone (k : Fin 16) (ms : Nat)
  /-- SNAPSHOT_DUE (R295): Every INTERVAL_H a coarse snapshot is started. -/
  | snapshotDue
  /-- SNAPSHOT_WRITE_DONE (R295): A coarse snapshot is programmed and read back into its area. -/
  | snapshotWriteDone (ok : Bool)
  /-- BODY_HOLD (R244): MILL_BODY_CTRL hold stops a body at the end of its step. -/
  | bodyHold (req : Nat) (k : Fin 16)
  /-- BODY_RESUME (R244): MILL_BODY_CTRL resume restarts a held body. -/
  | bodyResume (req : Nat) (k : Fin 16)
  /-- COAST_REPUBLISH (R291): Once a second a held or paused body rewrites its entries with COASTING
      and grown SIGMA. -/
  | coastRepublish (k : Fin 16)
  /-- COLD_SEED (R297): After SEED_WAIT_S a cold body seeds its cells from readings and publishes.
      -/
  | coldSeed (k : Fin 16)
  /-- MILL_CELL_READ (R245): A read of MILL_CELL_W[0] returns one cell record, waiting for any
      write-back. -/
  | millCellRead (req : Nat) (k : Fin 16)
  /-- MILL_MINUTE_REPORT (R242): At the end of a minute with late steps or rollbacks one record per
      body is written. -/
  | millMinuteReport (k : Fin 16) (busy : Nat)
  /-- GOV_SAMPLE (R307): At a slot's sample instant it latches, computes its law and applies outputs
      at t_k + 20 µs. -/
  | govSample (n : Fin 16) (cut : SampleCut)
  /-- GOV_MODE_REQUEST (R302): A write to GOV_SLOT_MODE requests a mode for the next latch. -/
  | govModeRequest (req : Nat) (n : Fin 16) (val : Word)
  /-- GOV_COEF_WRITE (R320): A coefficient window word write takes effect at the next latch and is
      counted. -/
  | govCoefWrite (req : Nat) (n : Fin 16) (off : BitVec 12) (val : Word)
  /-- STALE_TIMEOUT (R330): STALE_MS without a fresh sample makes a measured output suspect. -/
  | staleTimeout (n : Fin 16) (j : Fin 8) (prim : Bool)
  /-- COAST_EXPIRE (R333): A suspect output not restored within COAST makes its ACTION due. -/
  | coastExpire (n : Fin 16) (j : Fin 8)
  /-- TEST_LIMIT_EXPIRE (R302): TEST_MIN minutes in TEST return the slot to CLOSED. -/
  | testLimitExpire (n : Fin 16)
  /-- GOV_MINUTE_REPORT (R318): At the end of a minute with saturations or non-DONE samples one
      record per slot is written. -/
  | govMinuteReport (n : Fin 16)
  /-- CUP_ARM (R339): CUP_CTRL arm arms capture. -/
  | cupArm (req : Nat)
  /-- CUP_STOP (R339): CUP_CTRL stop stops capture. -/
  | cupStop (req : Nat)
  /-- CUP_CLEAR (R339): CUP_CTRL clear resets pointers and counts. -/
  | cupClear (req : Nat)
  /-- CUP_AT_TRIGGER (R337): Site time reaches CUP_AT and an armed capture with TRIGGER 2 starts. -/
  | cupAtTrigger
  /-- CUP_INF_CFG_WRITE (R336): A write of CUP_INF_CFG during TEST restarts the generator at the
      next latch. -/
  | cupInfCfgWrite (req : Nat) (n : Fin 16) (val : Word)
  /-- VALVE_TIMED (R351): A timed VALVE_CMD starts, extends or replaces a profile. -/
  | valveTimed (req : Nat) (v : Fin 96) (id : BitVec 8) (holdMs : BitVec 16)
  /-- VALVE_CONTINUOUS (R351): A continuous VALVE_CMD starts or extends a profile with a continuous
      hold. -/
  | valveContinuous (req : Nat) (v : Fin 96) (id : BitVec 8)
  /-- VALVE_STOP (R351): A stop VALVE_CMD releases or cancels the channel's profile. -/
  | valveStop (req : Nat) (v : Fin 96) (id : BitVec 8)
  /-- PREARM_END (R345): PREARM_US ends and the low-side switch turns on. -/
  | prearmEnd (v : Fin 96)
  /-- PEAK_REACHED (R347): The current reaches the peak target and chopping starts. -/
  | peakReached (v : Fin 96) (samples : List Nat)
  /-- PEAK_TIME_END (R347): The peak time ends and the channel goes to HOLD or RELEASE and may admit
      a deferred command. -/
  | peakTimeEnd (v : Fin 96) (samples : List Nat)
  /-- HOLD_END (R347): The hold ends and the profile enters RELEASE. -/
  | holdEnd (v : Fin 96)
  /-- RELEASE_DONE (R351): The released current falls below 20 mA and the item completes. -/
  | releaseDone (v : Fin 96)
  /-- LINGER_END (R344): LINGER_MS after the last active profile the high-side switch opens. -/
  | lingerEnd (b : Fin 12)
  /-- DEFER_TIMEOUT (R353): A deferred command still waiting after DEFER_MS fails. -/
  | deferTimeout (v : Fin 96)
  /-- VALVE_SHORT_TRIP (R363): Low-side current above 6.0 A switches off and faults the channel
      SHORT. -/
  | valveShortTrip (v : Fin 96)
  /-- PROBE_DONE (R365): The coil-resistance probe ends its 64 periods and gives a verdict. -/
  | probeDone (v : Fin 96) (dMin : Nat) (d : ProbeMean) (ma : Nat) (mv : Nat)
  /-- DUTY_INTERVAL_END (R361): Each 1 ms interval end updates DUTY_USED and sets or clears
      DUTY_LIM. -/
  | dutyIntervalEnd (v : Fin 96)
  /-- VALVE_STAGE_ERROR (R367): A sense or switch disagreement starts the channel's stage check. -/
  | valveStageError (v : Fin 96)
  /-- VALVE_BANK_DISABLE (R368): VALVE_BANK_CTRL disables a bank and settles its work. -/
  | valveBankDisable (req : Nat) (b : Fin 12)
  /-- VALVE_BANK_ENABLE (R368): VALVE_BANK_CTRL enables a bank. -/
  | valveBankEnable (req : Nat) (b : Fin 12)
  /-- VALVE_CHANNEL_DISABLE (R368): VALVE_BANK_CTRL disables a channel and settles its work. -/
  | valveChannelDisable (req : Nat) (v : Fin 96)
  /-- VALVE_CHANNEL_ENABLE (R368): VALVE_BANK_CTRL enables a channel. -/
  | valveChannelEnable (req : Nat) (v : Fin 96)
  /-- VALVE_CLEAR_FAULT (R366): VALVE_BANK_CTRL clear returns a faulted channel to IDLE. -/
  | valveClearFault (req : Nat) (v : Fin 96)
  /-- VALVE_CQ_POP (R371): A POP to VALVE_CQ_CTRL removes the oldest completion entry. -/
  | valveCqPop (req : Nat) (b : Fin 12) (seq : BitVec 8)
  /-- VALVE_CQ_LOSS_MINUTE (R371): At the end of a minute with lost completion entries one record
      per bank is written. -/
  | valveCqLossMinute (b : Fin 12)
  /-- STAGE_BUDGET_CHECK (R374): The 60 s die dissipation estimate exceeds 6,000 mW and a record
      0x3011 is written. -/
  | stageBudgetCheck (die : Fin 2) (c60 : List ChopRun) (c1 : List ChopRun) (h60 : List HsRun) (h1 : List HsRun)
  /-- FAN_PERIOD_START (R377): A fan switching period starts and applies the drive row's duty. -/
  | fanPeriodStart (f : Fin 16)
  /-- FAN_STARTING_END (R377): The 500 ms start at 100 % ends. -/
  | fanStartingEnd (f : Fin 16)
  /-- FAN_WINDOW_START (R378): A measurement window starts and the switch is held on. -/
  | fanWindowStart (f : Fin 16)
  /-- TACH_EDGE (R379): A filtered tach edge is accepted and stamped. -/
  | tachEdge (f : Fin 16) (us : Nat) (stampUs : Nat)
  /-- FAN_WINDOW_END (R380): The window ends after four edges or 120 ms and a verdict is formed. -/
  | fanWindowEnd (f : Fin 16) (ma : List Nat) (us : Nat)
  /-- FAN_RETRY_EXPIRE (R381): RETRY_S off after a stall or short ends and a 2 s burst starts. -/
  | fanRetryExpire (f : Fin 16)
  /-- FAN_BURST_END (R381): A burst ends and is judged over its last 120 ms. -/
  | fanBurstEnd (f : Fin 16) (levels : List TachLevel) (ma : List Nat) (ms : Nat)
  /-- FAN_SHORT (R383): The fan switch in current limit for 20 ms turns off as SHORT. -/
  | fanShort (f : Fin 16)
  /-- FAN_LOOP_TICK (R384): Every 100 ms the fan's PI temperature loop computes its duty. -/
  | fanLoopTick (f : Fin 16)
  /-- FAN_INPUT_STALE (R385): The loop entry's VTIME not advancing for STALE_S makes the input
      stale. -/
  | fanInputStale (f : Fin 16)
  /-- GUARD_SAMPLE (R391): A guard sensor is measured, published and judged against its zones. -/
  | guardSample (n : Fin 22) (rawA : Word) (okA : Bool) (rawB : Word) (okB : Bool)
  /-- ZONE_DWELL_EXPIRE (R396): The dwell below threshold less HYST ends and the zone leaves the
      threshold. -/
  | zoneDwellExpire (z : Fin 8) (cut : Bool)
  /-- HALT_GRACE_END (R399): The halt grace ends and the planes are held in reset. -/
  | haltGraceEnd (used : BitVec 10) (flush : GraceFlush)
  /-- THERMAL_RESTART (R402): After 10 s of cooling with no broken sensor the module makes a thermal
      restart. -/
  | thermalRestart
  /-- PANEL_BLANKING_SLOT (R411): In each blanking slot dirty rows are copied into the scan. -/
  | panelBlankingSlot (vf : Nat)
  /-- GAIN_RECOMPUTE (R409): Every 60 s the ageing gains are recomputed. -/
  | gainRecompute
  /-- STRESS_SAVE (R408): Every 3,600 s the stress counters are saved. -/
  | stressSave
  /-- DISP_FB_WRITE (R411): A write to DISP_FB_DATA stores frame bytes, marks the row dirty and may
      auto-increment. -/
  | dispFbWrite (req : Nat) (val : Word)
  /-- DISP_COMMIT_GO (R412): GO in DISP_COMMIT starts an update item that copies every dirty row at
      the next blanking slot. -/
  | dispCommitGo (req : Nat) (val : Word)
  /-- DISP_PANEL_OFF (R417): DISP_CTRL ACTION 1 discharges and turns the panel off. -/
  | dispPanelOff (req : Nat)
  /-- DISP_WAKE (R417): DISP_CTRL ACTION 2 wakes the panel. -/
  | dispWake (req : Nat)
  /-- DISP_CLEAR_CRACK (R419): DISP_CTRL ACTION 3 clears the crack blank. -/
  | dispClearCrack (req : Nat)
  /-- DISP_CLEAR_STRESS (R408): DISP_CTRL ACTION 4 clears the stress counters. -/
  | dispClearStress (req : Nat)
  /-- BINDING_HOLD_END (R415): A binding's hold time ends and the panel returns to DISP_SOURCE. -/
  | bindingHoldEnd
  /-- DISCHARGE_DONE (R416): A panel discharge of four slots completes. -/
  | dischargeDone
  /-- CRACK_CHECK (R419): Once a second the crack loop is measured and the panel blanked on an open
      loop. -/
  | crackCheck (ohms : Nat)
  /-- STRIP_GO (R425): GO in DISP_STRIP_CMD starts a strip update item that waits for admission. -/
  | stripGo (req : Nat) (val : Word)
  /-- STRIP_FRAME (R421): Every 20 ms the strip drives the next waveform frame or admits a waiting
      waveform. -/
  | stripFrame
  /-- STRIP_MARKER_DONE (R426): A dirty or clean strip marker is programmed. -/
  | stripMarkerDone
  /-- STRIP_WAIT_TIMEOUT (R425): WAIT_S without admission fails the strip item. -/
  | stripWaitTimeout
  /-- EVENT_RECORD_SUBMIT (R436): A unit submits a record to its intake FIFO, which drops it when
      full. -/
  | eventRecordSubmit (port : Fin 16) (code : BitVec 16) (sev : Fin 7) (p0 : Word) (p1 : Word) (p2 : Word) (prov : Bool)
  /-- POND_RECORD_ENTRY (R435): The arbiter moves one record into the pond and stamps SEQ, OPTIME
      and CRC. -/
  | pondRecordEntry
  /-- LOG_PAGE_DUE (R437): 32 waiting records or FLUSH_MS starts a page program. -/
  | logPageDue
  /-- LOG_PAGE_PROGRAMMED (R437): A log page is programmed and verified and its records count as
      flushed. -/
  | logPageProgrammed (ok : Bool)
  /-- SECTOR_ERASE_DONE (R439): A tailrace or headrace sector erase completes and the pool grows. -/
  | sectorEraseDone (headrace : Bool) (sector : Nat) (ok : Bool)
  /-- LOG_CLEAR (R438): LOG_CLEAR_CMD with the right CONFIRM starts a headrace clear. -/
  | logClear (req : Nat) (confirm : BitVec 16)
  /-- HEADRACE_ERASE_DONE (R438): The headrace erase ends, records are copied from the tailrace and
      CLEARING clears. -/
  | headraceEraseDone
  /-- LOG_FREEZE_SET (R444): LOG_FREEZE freeze stops the continuous flush. -/
  | logFreezeSet (req : Nat)
  /-- LOG_FREEZE_LIFT (R444): LOG_FREEZE lift resumes the flush. -/
  | logFreezeLift (req : Nat)
  /-- FREEZE_TIMEOUT (R444): A freeze lifts itself after 10 s. -/
  | freezeTimeout
  /-- SYSLOG_SEND (R446): The next qualifying record is sent as a syslog datagram within RATE. -/
  | syslogSend
  /-- SYSLOG_SKIP_MINUTE (R446): At the end of a minute with skipped records one record 0xA008 is
      written. -/
  | syslogSkipMinute
  /-- GNSS_MINUTE_REPORT (R159): At the end of a minute with invalid sentences one record 0x9007 is
      written. -/
  | gnssMinuteReport
  /-- ELEMENT_ERROR_DETECTED (R450): A detected error starts a self-test of the smallest containing
      element. -/
  | elementErrorDetected (e : Element) (home : Element) (x : ErrorAt)
  /-- SELF_TEST_DONE (R451): A self-test ends TRANSIENT or LASTING and the element is fenced or
      spared. -/
  | selfTestDone (e : Element) (home : Element) (fails : Bool)
  /-- REL_HOST_TEST (R453): REL_TEST_CMD starts a self-test of a chosen element. -/
  | relHostTest (req : Nat) (unit : BitVec 4) (idx : BitVec 12)
  /-- LOCKSTEP_MISMATCH (R455): The comparator finds the lanes disagreeing; outputs hold and the
      tile test starts. -/
  | lockstepMismatch (tile : Nat)
  /-- LOCKSTEP_TEST_DONE (R455): The lanes' tile tests end and re-execution from the checkpoint
      starts. -/
  | lockstepTestDone (passA : Bool) (passB : Bool)
  /-- LOCKSTEP_REEXECUTE_DONE (R456): Re-execution ends and the outcome is resolved or placement
      starts. -/
  | lockstepReexecuteDone (agree : Bool) (ns : Nat) (holdNs : Nat)
  /-- LOCKSTEP_PLACE_DONE (R456): The placement pass ends and the residue decides the outcome. -/
  | lockstepPlaceDone (errA : Bool) (errB : Bool) (ns : Nat) (holdNs : Nat)
  /-- SCRUB_STEP (R459): The scrubber reads and corrects the next DRAM words. -/
  | scrubStep (err : Fin 3)
  /-- ECC_HOUR_REPORT (R459): At the end of an hour with correctable errors one record 0xD006 is
      written. -/
  | eccHourReport
  /-- BOOT_SELF_TEST_DONE (R463): The boot self-test of every tile ends and failed elements are
      fenced. -/
  | bootSelfTestDone (tested : Nat) (failed : List Element) (ms : Nat)
  /-- PFI_RETURN (R62): PFI rises back to or above 1.000 V before the deglitch time has run out, so
      the deglitch is abandoned and PFAIL does not assert. -/
  | pfiReturn
  /-- V1P8_COLLAPSE (R60): V1P8 falls to 1.50 V or below, for example when the hold-up bank is
      exhausted, and the always-on block stops and is itself reset. -/
  | v1p8Collapse
  /-- VALVE_PROBE_START (R364): After a channel has been in HOLD for 10 ms with a probe due, the
      coil-resistance probe starts measuring over 64 chopping periods and PROBE_BUSY becomes 1. -/
  | valveProbeStart (v : Fin 96)
  /-- SPRIN_POWER_CYCLE_END (R195): The 1 s off time of a cable power-cycle that SPRIN_CMD ACTION 2
      started ends, and the port's supply comes back on in POWERING. -/
  | sprinPowerCycleEnd (p : Fin 24)
  /-- LINK_LOCAL_FALLBACK (R94): In bare mode, 10 s without a DHCP lease makes the management plane
      take an IPv4 link-local address under RFC 3927. -/
  | linkLocalFallback (low : BitVec 16)
  /-- GNSS_RESET_RELEASE (R160): The 100 ms low pulse on nGNSS_RST ends, the line is released, and
      the 1 s wait before the set-up text is sent begins. -/
  | gnssResetRelease
deriving DecidableEq, Repr

end Sys2Proof
end

