-- ==== Sys2Proof/Decode.lean ====
section
/-! DEFINITION. The command that a word spells.  No row of the command table of this block gives bits:
its commands are register accesses and events, not encoded words. -/

namespace Sys2Proof

/-- The command a word spells by the table's bits: none, since no row gives bits. -/
def decodeTableWord (_nbits _w : Nat) : Option Instr := none

end Sys2Proof
end

