-- ==== Sys2Proof/Config.lean ====
section
/-! DEFINITION. What the spec leaves open: free values and uninterpreted functions.  Each constant is
opaque and has no body, so nothing can be proved about a value of it. -/

namespace Sys2Proof.Config

/-- A value the spec leaves open; the argument counts the free values taken so far
(`State.freeIdx`). (DESIGN CHOICE, log entry 11.) -/
opaque freeValue (w : Nat) : Nat → BitVec w

/-- Which of the binary32 values within 2 ulp of e^x and of ln x the special-function unit gives: the spec
bounds the error and leaves the bits open (R267). (DEDUCED, log entry 83.) -/
opaque expUlp : F32 → Fin 4
/-- As `expUlp`. (DEDUCED, log entry 83.) -/
opaque lnUlp : F32 → Fin 4

/-- Which of the values within 2 ulp a sine of the infusion generator gives (R336).
(DESIGN CHOICE, log entry 110.) -/
opaque sinUlp : F32 → Fin 4

/-- The phase of an admittance of 0, or of one that is no finite number: the spec states no value.
(DESIGN CHOICE, log entry 88.) -/
opaque phaseOpen : F32 → F32 → Int

/-- An entry of the Modbus map (R138). -/
structure MbEntry where
  /-- holding table, else input -/
  holding : Bool
  addr : Nat
  /-- 1 or 2 registers -/
  width : Nat
  fabric : Nat
  writable : Bool
deriving DecidableEq, Repr, Inhabited

/-- What the network and security section of a caddy holds (R120, R123, R138, R143, R160). -/
structure NetSection where
  /-- register image: address and value -/
  image : List (Nat × Word)
  /-- pre-shared keys of 32 bytes, the first in the low bits, and whether the role is OPERATE -/
  keys : List (BitVec 256 × Bool)
  /-- IPv4 by DHCP, else the static address, mask and gateway -/
  dhcp : Bool
  addr : Word
  mask : Word
  gw : Word
  /-- static IPv6 addresses, at most two, 128 bits each -/
  ip6 : List Nat
  map : List MbEntry
  /-- readback register of each client server that has one -/
  readback : List (Nat × Nat)
  /-- receiver set-up text -/
  setup : List Byte
deriving DecidableEq, Repr, Inhabited

/-- What a network and security section says: the spec lists its contents and gives its body no
layout (R85, R120, R123, R138, R160). (DESIGN CHOICE, log entry 27.) -/
opaque netSection : List Byte → NetSection

/-- The register image of a control-plane tables section: the spec lists what it configures and gives
its body no layout (R85). (DESIGN CHOICE, log entry 27.) -/
opaque controlTables : List Byte → List (Nat × Word)

/-- The allocated cell whose remainder word a DRAM byte address of the firmware region holds, none for
firmware data; the anchor record that an address of the anchor region serves; the body of an address
of the forecast grids (R235, R268, R461): the spec gives these regions no inner layout.
(DESIGN CHOICE, log entry 136.) -/
opaque remainderCell : Nat → Option Nat
/-- DESIGN CHOICE, log entry 136. -/
opaque anchorOf : Nat → Nat
/-- DESIGN CHOICE, log entry 136. -/
opaque forecastOf : Nat → Nat

/-- The row of a DRAM byte address and the bank of a row (R450, R460): the spec gives the die stack no
geometry. (DESIGN CHOICE, log entry 136.) -/
opaque dramRow : Nat → Nat
/-- DESIGN CHOICE, log entry 136. -/
opaque dramBank : Nat → Nat

end Sys2Proof.Config
end

