-- ==== Sys2Proof/Machine/Bits.lean ====
section
/-! DEFINITION. Bit fields of a word, and the sparse tables in canonical form that hold registers,
memories and per-index state. -/

namespace Sys2Proof.Machine

/-- A field: a register address and its most and least significant bit. -/
structure Fld where
  addr : Nat
  hi : Nat
  lo : Nat
deriving DecidableEq, Repr

/-- The bits `hi` to `lo` of a word, as a mask. -/
def maskOf (hi lo : Nat) : Word := BitVec.ofNat 32 ((2 ^ (hi + 1 - lo) - 1) <<< lo)

/-- Bits `hi` to `lo` of a word. -/
def bits (w : Word) (hi lo : Nat) : Nat := (w.toNat >>> lo) % 2 ^ (hi + 1 - lo)

/-- The word with bits `hi` to `lo` replaced by `n`, cut to their width. -/
def setBits (w : Word) (hi lo n : Nat) : Word :=
  (w &&& ~~~(maskOf hi lo)) ||| ((BitVec.ofNat 32 n <<< lo) &&& maskOf hi lo)

/-- A natural number as a field of width `n` saturates (counts that the spec calls saturating). -/
def satInc (w n : Nat) : Nat := if n + 1 < 2 ^ w then n + 1 else 2 ^ w - 1

/-- `n` cut off at the largest value of a field of `w` bits. -/
def satTo (w n : Nat) : Nat := min n (2 ^ w - 1)

/-- The signed value of the low `w` bits of `n`. -/
def toSigned (w n : Nat) : Int :=
  let m := n % 2 ^ w
  if m < 2 ^ (w - 1) then (m : Int) else (m : Int) - 2 ^ w

/-- The low `w` bits of a signed value. -/
def ofSigned (w : Nat) (i : Int) : Nat := (i % (2 ^ w : Int)).toNat

/-- An integer held between two bounds. -/
def clampI (lo hi i : Int) : Int := if i < lo then lo else if hi < i then hi else i

/-! ### Sparse tables

A table is a list of key and value; `d` says what an unlisted key reads as.  The canonical form has
rising keys and lists no entry equal to what its key reads as unlisted, so equal contents are equal
lists. -/

variable {α : Type}

/-- The value at key `k`. (DESIGN CHOICE, log entry 4.) -/
def tget (d : Nat → α) : List (Nat × α) → Nat → α
  | [], k => d k
  | p :: t, k => if p.1 = k then p.2 else tget d t k

/-- The table without key `k`. -/
def terase (t : List (Nat × α)) (k : Nat) : List (Nat × α) := t.filter (fun p => p.1 != k)

/-- The table with an entry put before the first larger key. -/
def tinsert : List (Nat × α) → Nat → α → List (Nat × α)
  | [], k, v => [(k, v)]
  | p :: t, k, v => if k < p.1 then (k, v) :: p :: t else p :: tinsert t k v

/-- The table with `v` at key `k`. -/
def tset [DecidableEq α] (d : Nat → α) (t : List (Nat × α)) (k : Nat) (v : α) : List (Nat × α) :=
  if v = d k then terase t k else tinsert (terase t k) k v

/-- The table cut to the keys that `p` keeps. -/
def tkeep (p : Nat → Bool) (t : List (Nat × α)) : List (Nat × α) := t.filter (fun e => p e.1)

/-- The canonical form: keys rise, and no entry equals what its key reads as unlisted. -/
def twf [DecidableEq α] (d : Nat → α) : List (Nat × α) → Bool
  | [] => true
  | [p] => p.2 ≠ d p.1
  | p :: q :: t => decide (p.1 < q.1) && decide (p.2 ≠ d p.1) && twf d (q :: t)

/-- Insert by rising key, before equal keys. -/
def insertBy (key : α → Nat) (x : α) : List α → List α
  | [] => [x]
  | y :: t => if key x ≤ key y then x :: y :: t else y :: insertBy key x t

/-- In the order of a key; equal keys keep their order. -/
def sortBy (key : α → Nat) (l : List α) : List α := l.foldr (insertBy key) []

end Sys2Proof.Machine
end

