-- ==== Sys2Proof/Machine/Crypto.lean ====
section
/-! DEFINITION. Checks and digests over bytes: CRC-16 (R176), CRC-32 (R83), SHA-2 (R84, R87) and
HMAC-SHA-256 (R126), each as its standard defines it, and little- and big-endian byte strings
(R6). -/

namespace Sys2Proof.Machine

/-- `n` as `k` bytes, least significant first (R6). -/
def leBytes : Nat → Nat → List Byte
  | 0, _ => []
  | k + 1, n => BitVec.ofNat 8 n :: leBytes k (n / 256)

/-- `n` as `k` bytes, most significant first. -/
def beBytes (k n : Nat) : List Byte := (leBytes k n).reverse

/-- The number whose bytes these are, least significant first. -/
def ofLe : List Byte → Nat
  | [] => 0
  | b :: t => b.toNat + 256 * ofLe t

/-- The number whose bytes these are, most significant first. -/
def ofBe (l : List Byte) : Nat := ofLe l.reverse

/-- `n` bytes of `l` from place `i`. -/
def slice (i n : Nat) (l : List Byte) : List Byte := (l.drop i).take n

/-- One byte into a CRC whose register shifts left: width 16, polynomial 0x1021. -/
def crc16Byte (c : Nat) (b : Byte) : Nat :=
  (List.range 8).foldl (fun r _ =>
    let s := r * 2 % 65536
    if 32768 ≤ r then s ^^^ 0x1021 else s) (c ^^^ (b.toNat * 256))

/-- CRC-16 of R176: polynomial 0x1021, start 0xFFFF, no reflection, no final change. -/
def crc16 (l : List Byte) : Nat := l.foldl crc16Byte 0xFFFF

/-- One byte into the reflected CRC-32 of IEEE 802.3. -/
def crc32Byte (c : Nat) (b : Byte) : Nat :=
  (List.range 8).foldl (fun r _ => if r % 2 = 1 then (r / 2) ^^^ 0xEDB88320 else r / 2)
    (c ^^^ b.toNat)

/-- CRC-32 with the IEEE 802.3 polynomial (R83). -/
def crc32 (l : List Byte) : Nat := (l.foldl crc32Byte 0xFFFFFFFF) ^^^ 0xFFFFFFFF

/-! ### SHA-2 (FIPS 180-4), for words of any width -/

/-- The primes below 410: no prime below 20 divides them, but itself. -/
def shaPrimes : List Nat :=
  (List.range 410).filter (fun n => decide (2 ≤ n) &&
    [2, 3, 5, 7, 11, 13, 17, 19].all (fun q => decide (q = n) || decide (n % q ≠ 0)))

/-- The whole part of the `k`-th root of `n`, found bit by bit from bit 68 down. -/
def rootOf (k n : Nat) : Nat :=
  (List.range 69).foldr (fun i r => if (r + 2 ^ i) ^ k ≤ n then r + 2 ^ i else r) 0

/-- The first `w` bits after the point of the `k`-th root of a prime, from its first 64. -/
def rootBits (w k p : Nat) : BitVec w := BitVec.ofNat w (rootOf k (p * 2 ^ (64 * k)) % 2 ^ 64 / 2 ^ (64 - w))

/-- How SHA-2 mixes words of one width: the rotations of its four mixing functions, the third of the last two a
shift, and the number of rounds. -/
structure ShaForm where
  big0 : Nat × Nat × Nat
  big1 : Nat × Nat × Nat
  small0 : Nat × Nat × Nat
  small1 : Nat × Nat × Nat
  rounds : Nat

def sha256Form : ShaForm :=
  { big0 := (2, 13, 22), big1 := (6, 11, 25), small0 := (7, 18, 3), small1 := (17, 19, 10), rounds := 64 }

/-- A mixing function: two rotations, and a rotation or a shift. -/
def shaMix {w : Nat} (x : BitVec w) (r : Nat × Nat × Nat) (shift : Bool) : BitVec w :=
  x.rotateRight r.1 ^^^ x.rotateRight r.2.1 ^^^ (if shift then x >>> r.2.2 else x.rotateRight r.2.2)

/-- The message words of a block, newest first: each new one from those 2, 7, 15 and 16 before it. -/
def shaWords {w : Nat} (f : ShaForm) (first : List (BitVec w)) : List (BitVec w) :=
  (List.range (f.rounds - 16)).foldl (fun l _ =>
    (shaMix (l.getD 1 0) f.small1 true + l.getD 6 0 + shaMix (l.getD 14 0) f.small0 true + l.getD 15 0) :: l)
    first.reverse

/-- The working words: the last four of each of the two chains, newest first. -/
abbrev ShaWork (w : Nat) := List (BitVec w) × List (BitVec w)

/-- One round takes the next word of each chain; `k` is the round's constant and message word. -/
def shaTurn {w : Nat} (f : ShaForm) (s : ShaWork w) (k : BitVec w) : ShaWork w :=
  let at1 (i : Nat) : BitVec w := s.1.getD i 0
  let at2 (i : Nat) : BitVec w := s.2.getD i 0
  let pick := at2 2 ^^^ (at2 0 &&& (at2 1 ^^^ at2 2))
  let most := (at1 0 &&& at1 1) ||| (at1 2 &&& (at1 0 ||| at1 1))
  let x := at2 3 + shaMix (at2 0) f.big1 false + pick + k
  ((x + shaMix (at1 0) f.big0 false + most) :: s.1.take 3, (at1 3 + x) :: s.2.take 3)

/-- One block of 16 words into the chaining words. -/
def shaChain {w : Nat} (f : ShaForm) (consts : List (BitVec w)) (h : List (BitVec w)) (blk : List Byte) :
    List (BitVec w) :=
  let first := (List.range 16).map (fun i => BitVec.ofNat w (ofBe (slice (w / 8 * i) (w / 8) blk)))
  let e := (List.zipWith (fun a b => a + b) consts (shaWords f first).reverse).foldl (shaTurn f) (h.take 4, h.drop 4)
  List.zipWith (fun a b => a + b) h (e.1 ++ e.2)

/-- A message with its closing bit, zeros and length, a whole number of blocks. -/
def shaClosed (w : Nat) (l : List Byte) : List Byte :=
  let zeros := (4 * w - 1 - w / 4 - l.length % (2 * w)) % (2 * w)
  l ++ (0x80 : Byte) :: List.replicate zeros 0 ++ beBytes (w / 4) (8 * l.length)

/-- The digest of a message: eight words, most significant byte first. -/
def shaDigest (w : Nat) (f : ShaForm) (l : List Byte) : List Byte :=
  let m := shaClosed w l
  let consts := (shaPrimes.take f.rounds).map (rootBits w 3)
  let h := (List.range (m.length / (2 * w))).foldl (fun h i => shaChain f consts h (slice (2 * w * i) (2 * w) m))
    ((shaPrimes.take 8).map (rootBits w 2))
  h.flatMap (fun x => beBytes (w / 8) x.toNat)

/-- SHA-256 of a byte string, 32 bytes (R84, R87). -/
def sha256 (l : List Byte) : List Byte := shaDigest 32 sha256Form l

/-- HMAC-SHA-256 (RFC 2104). -/
def hmac256 (key msg : List Byte) : List Byte :=
  let k0 := if 64 < key.length then sha256 key else key
  let k := k0 ++ List.replicate (64 - k0.length) 0
  sha256 (k.map (· ^^^ 0x5C) ++ sha256 (k.map (· ^^^ 0x36) ++ msg))

end Sys2Proof.Machine
end

