-- ==== Sys2Proof/Machine/Ed25519.lean ====
section
/-! DEFINITION. Verification of an Ed25519 signature as R87 lays it down: RFC 8032, section 5.1.7,
with SHA-512 (FIPS 180-4), S below the group order, points that decode, and the cofactored group
equation. -/

namespace Sys2Proof.Machine

/-- SHA-512 of a byte string, 64 bytes. -/
def sha512 (l : List Byte) : List Byte :=
  shaDigest 64
    { big0 := (28, 34, 39), big1 := (14, 18, 41), small0 := (1, 8, 7), small1 := (19, 61, 6), rounds := 80 } l

/-! ### The group of edwards25519 -/

/-- The field prime. -/
def edP : Nat := 2 ^ 255 - 19

/-- The group order. -/
def edL : Nat := 2 ^ 252 + 27742317777372353535851937790883648493

/-- `b ^ e mod p`, over `n` bits of the exponent. -/
def powMod (p : Nat) : Nat → Nat → Nat → Nat
  | 0, _, _ => 1
  | n + 1, b, e =>
    let r := powMod p n (b * b % p) (e / 2)
    if e % 2 = 1 then r * b % p else r

def edInv (x : Nat) : Nat := powMod edP 255 x (edP - 2)

/-- The curve constant d = -121665/121666. -/
def edD : Nat := (edP - 121665) * edInv 121666 % edP

/-- A point in extended coordinates. -/
structure EdPoint where
  x : Nat
  y : Nat
  z : Nat
  t : Nat
deriving DecidableEq, Repr

def edZero : EdPoint := ⟨0, 1, 1, 0⟩

def edAdd (p q : EdPoint) : EdPoint :=
  let a := (p.y + edP - p.x) * (q.y + edP - q.x) % edP
  let b := (p.y + p.x) * (q.y + q.x) % edP
  let c := 2 * p.t * q.t * edD % edP
  let d := 2 * p.z * q.z % edP
  let e := (b + edP - a) % edP
  let f := (d + edP - c) % edP
  let g := (d + c) % edP
  let h := (b + a) % edP
  ⟨e * f % edP, g * h % edP, f * g % edP, e * h % edP⟩

def edMul : Nat → Nat → EdPoint → EdPoint
  | 0, _, _ => edZero
  | n + 1, k, p =>
    let r := edMul n (k / 2) (edAdd p p)
    if k % 2 = 1 then edAdd r p else r

def edEq (p q : EdPoint) : Bool :=
  decide (p.x * q.z % edP = q.x * p.z % edP) && decide (p.y * q.z % edP = q.y * p.z % edP)

/-- The x coordinate for y and the sign bit, if there is one (RFC 8032, 5.1.3). -/
def edRecover (y sign : Nat) : Option Nat :=
  if edP ≤ y then none else
  let x2 := (y * y + edP - 1) * edInv (edD * y * y + 1) % edP
  if x2 = 0 then (if sign = 1 then none else some 0) else
  let c := powMod edP 255 x2 ((edP + 3) / 8)
  let x := if c * c % edP = x2 then c else c * powMod edP 255 2 ((edP - 1) / 4) % edP
  if x * x % edP = x2 then some (if x % 2 = sign then x else edP - x) else none

def edDecode (l : List Byte) : Option EdPoint :=
  let n := ofLe l
  let y := n % 2 ^ 255
  match edRecover y (n / 2 ^ 255 % 2) with
  | some x => some ⟨x, y, 1, x * y % edP⟩
  | none => none

/-- The base point B. -/
def edBase : Option EdPoint :=
  let y := 4 * edInv 5 % edP
  match edRecover y 0 with
  | some x => some ⟨x, y, 1, x * y % edP⟩
  | none => none

/-- The signature verifies over the message with the public key (R87). -/
def ed25519Verify (key msg sig : List Byte) : Bool :=
  let s := ofLe (slice 32 32 sig)
  let k := ofLe (sha512 (sig.take 32 ++ key ++ msg)) % edL
  match edDecode key, edDecode (sig.take 32), edBase with
  | some a, some r, some b =>
    decide (s < edL) &&
      edEq (edMul 4 8 (edMul 256 s b)) (edAdd (edMul 4 8 r) (edMul 4 8 (edMul 256 k a)))
  | _, _, _ => false

end Sys2Proof.Machine
end

