-- ==== Sys2Proof/Machine/Float32.lean ====
section
/-! DEFINITION. binary32 arithmetic of IEEE 754, round to nearest, ties to even, computed exactly and
rounded once (R10, R267, R306). -/

namespace Sys2Proof.Machine

/-- The classes of a binary32 value; a finite value is `± m * 2 ^ e`. -/
inductive FVal where
  | nan
  | inf (neg : Bool)
  | fin (neg : Bool) (m : Nat) (e : Int)
deriving DecidableEq, Repr

/-- The value of a word read as binary32. -/
def fdec (w : F32) : FVal :=
  let n := w.toNat
  let neg := decide (n / 2 ^ 31 = 1)
  let ex : Nat := n / 2 ^ 23 % 256
  let fr : Nat := n % 2 ^ 23
  if ex = 255 then (if fr = 0 then .inf neg else .nan)
  else if ex = 0 then .fin neg fr (-149 : Int)
  else .fin neg (2 ^ 23 + fr) ((ex : Int) - 150)

/-- The quiet NaN the model writes. -/
def fNaN : F32 := 0x7FC00000

/-- Infinity of a sign. -/
def fInf (neg : Bool) : F32 := if neg then 0xFF800000 else 0x7F800000

/-- Zero of a sign. -/
def fZero (neg : Bool) : F32 := if neg then 0x80000000 else 0

/-- Divide by `2 ^ k` rounding to nearest, ties to even. -/
def rneShift (m k : Nat) : Nat :=
  let q := m / 2 ^ k
  let r := 2 * (m % 2 ^ k)
  if r < 2 ^ k then q else if 2 ^ k < r then q + 1 else q + q % 2

/-- Round the exact value `± m * 2 ^ e` to binary32. -/
def fround (neg : Bool) (m : Nat) (e : Int) : F32 :=
  if m = 0 then fZero neg else
  let t : Int := max (e + (Nat.log2 m : Int) - 23) (-149 : Int)
  let q := if t ≤ e then m * 2 ^ (e - t).toNat else rneShift m (t - e).toNat
  let qt : Nat × Int := if q = 2 ^ 24 then (2 ^ 23, t + 1) else (q, t)
  let sg := if neg then 2 ^ 31 else 0
  if qt.1 < 2 ^ 23 then BitVec.ofNat 32 (sg + qt.1)
  else if 104 < qt.2 then fInf neg
  else BitVec.ofNat 32 (sg + (qt.2 + 150).toNat * 2 ^ 23 + (qt.1 - 2 ^ 23))

/-- Round an exact signed value `i * 2 ^ e`. -/
def froundI (i : Int) (e : Int) : F32 := fround (decide (i < 0)) i.natAbs e

/-- The signed mantissa of a finite value. -/
def fsm (neg : Bool) (m : Nat) : Int := if neg then -(m : Int) else m

/-- Sum of two exact values, with the sign of a zero sum as IEEE 754 gives it. -/
def faddFin (n1 : Bool) (m1 : Nat) (e1 : Int) (n2 : Bool) (m2 : Nat) (e2 : Int) : F32 :=
  let e := min e1 e2
  let a := fsm n1 m1 * 2 ^ (e1 - e).toNat + fsm n2 m2 * 2 ^ (e2 - e).toNat
  if a = 0 then fZero (n1 && n2) else froundI a e

def fadd (a b : F32) : F32 :=
  match fdec a, fdec b with
  | .nan, _ => fNaN
  | _, .nan => fNaN
  | .inf x, .inf y => if x = y then fInf x else fNaN
  | .inf x, _ => fInf x
  | _, .inf y => fInf y
  | .fin n1 m1 e1, .fin n2 m2 e2 => faddFin n1 m1 e1 n2 m2 e2

def fneg (a : F32) : F32 := a ^^^ 0x80000000

def fabs (a : F32) : F32 := a &&& 0x7FFFFFFF

def fsub (a b : F32) : F32 := match fdec b with
  | .nan => fNaN
  | _ => fadd a (fneg b)

def fmul (a b : F32) : F32 :=
  match fdec a, fdec b with
  | .nan, _ => fNaN
  | _, .nan => fNaN
  | .inf x, .inf y => fInf (x != y)
  | .inf x, .fin y m _ => if m = 0 then fNaN else fInf (x != y)
  | .fin x m _, .inf y => if m = 0 then fNaN else fInf (x != y)
  | .fin n1 m1 e1, .fin n2 m2 e2 => fround (n1 != n2) (m1 * m2) (e1 + e2)

def fdiv (a b : F32) : F32 :=
  match fdec a, fdec b with
  | .nan, _ => fNaN
  | _, .nan => fNaN
  | .inf _, .inf _ => fNaN
  | .inf x, .fin y _ _ => fInf (x != y)
  | .fin x _ _, .inf y => fZero (x != y)
  | .fin n1 m1 e1, .fin n2 m2 e2 =>
    if m2 = 0 then (if m1 = 0 then fNaN else fInf (n1 != n2)) else
    let q := m1 * 2 ^ 64 / m2
    let r := m1 * 2 ^ 64 % m2
    fround (n1 != n2) (2 * q + (if r = 0 then 0 else 1)) (e1 - e2 - 65)

/-- Fused multiply and add, rounded once. -/
def ffma (a b c : F32) : F32 :=
  match fdec a, fdec b, fdec c with
  | .fin n1 m1 e1, .fin n2 m2 e2, .fin n3 m3 e3 => faddFin (n1 != n2) (m1 * m2) (e1 + e2) n3 m3 e3
  | .fin .., .fin .., _ => fadd 0 c
  | _, _, _ => fadd (fmul a b) c

/-- Integer square root, one bit a step. -/
def isqrtAux : Nat → Nat → Nat → Nat
  | 0, _, r => r
  | k + 1, n, r =>
    let c := r + 2 ^ k
    isqrtAux k n (if c * c ≤ n then c else r)

def isqrt (n : Nat) : Nat := isqrtAux (Nat.log2 n / 2 + 1) n 0

def fsqrt (a : F32) : F32 :=
  match fdec a with
  | .nan => fNaN
  | .inf neg => if neg then fNaN else fInf false
  | .fin neg m e =>
    if m = 0 then fZero neg else if neg then fNaN else
    let odd := e % 2 != 0
    let m' := (if odd then 2 * m else m) * 2 ^ 64
    let e' := (if odd then e - 1 else e) - 64
    let r := isqrt m'
    fround false (2 * r + (if r * r = m' then 0 else 1)) (e' / 2 - 1)

/-- Strict order; false when a side is NaN. -/
def flt (a b : F32) : Bool :=
  match fdec a, fdec b with
  | .nan, _ => false
  | _, .nan => false
  | .inf x, .inf y => x && !y
  | .inf x, .fin .. => x
  | .fin .., .inf y => !y
  | .fin n1 m1 e1, .fin n2 m2 e2 =>
    let e := min e1 e2
    decide (fsm n1 m1 * 2 ^ (e1 - e).toNat < fsm n2 m2 * 2 ^ (e2 - e).toNat)

/-- Equality of values; false when a side is NaN. -/
def feq (a b : F32) : Bool :=
  match fdec a, fdec b with
  | .nan, _ => false
  | _, .nan => false
  | _, _ => !flt a b && !flt b a

def fle (a b : F32) : Bool := flt a b || feq a b

def fIsNaN (a : F32) : Bool := match fdec a with
  | .nan => true
  | _ => false

def fIsFinite (a : F32) : Bool := match fdec a with
  | .fin .. => true
  | _ => false

def fmin (a b : F32) : F32 := if flt b a then b else a
def fmax (a b : F32) : F32 := if flt a b then b else a

/-- `a` held between `lo` and `hi`. -/
def fclamp (lo hi a : F32) : F32 := if flt a lo then lo else if flt hi a then hi else a

/-- An integer, rounded to binary32. -/
def fofInt (i : Int) : F32 := froundI i 0
def fofNat (n : Nat) : F32 := fround false n 0

/-- The rational `p / q`, rounded once. -/
def fofRat (p : Int) (q : Nat) : F32 :=
  if q = 0 then fNaN else
  let n := p.natAbs * 2 ^ 160
  fround (decide (p < 0)) (2 * (n / q) + (if n % q = 0 then 0 else 1)) (-161)

/-- The exact value of a finite word as `p / 2 ^ k`; 0 for NaN and infinities. -/
def fexact (a : F32) : Int × Nat :=
  match fdec a with
  | .fin neg m e => if 0 ≤ e then (fsm neg m * 2 ^ e.toNat, 0) else (fsm neg m, (-e).toNat)
  | _ => (0, 0)

/-- Round half to even of `p / q`. -/
def rneDiv (p : Int) (q : Nat) : Int :=
  let d := p / q
  let r := 2 * (p % q)
  if r < q then d else if (q : Int) < r then d + 1 else d + d % 2

/-- Nearest integer, ties to even, of a finite value times `k`. -/
def ftoIntScaled (k : Nat) (a : F32) : Int :=
  let x := fexact a
  rneDiv (x.1 * k) (2 ^ x.2)

/-- Nearest integer, ties to even (0 for NaN and infinities). -/
def ftoInt (a : F32) : Int := ftoIntScaled 1 a

/-- Towards minus infinity. -/
def ffloor (a : F32) : Int := let x := fexact a; x.1 / 2 ^ x.2

/-- Towards plus infinity. -/
def fceil (a : F32) : Int := -(ffloor (fneg a))

/-- Subnormal values read as zero of their sign (R267). -/
def ftz (a : F32) : F32 := if a.toNat / 2 ^ 23 % 256 = 0 then a &&& 0x80000000 else a

end Sys2Proof.Machine
end

