-- ==== Sys2Proof/Machine/Elementary.lean ====
section
/-! DEFINITION. The exponential, the logarithm, the sine and the arc tangent, from integer series of more places than
binary32 has.  The spec bounds exp and ln to 2 ulp and leaves open which of the values inside the bound a
unit gives (R267): a constant of `Config` picks one. -/

namespace Sys2Proof.Machine

/-- 1 and ln 2 in units of 2^-96. -/
def fxOne : Int := 2 ^ 96
def fxLn2 : Int := 0xB17217F7D1CF79ABC9E3B398

/-- `m * 2 ^ e` cut to binary32 towards zero. -/
def fcut (neg : Bool) (m : Nat) (e : Int) : F32 :=
  let t : Int := max (e + (Nat.log2 m : Int) - 23) (-149 : Int)
  if t ≤ e then fround neg m e else fround neg (m / 2 ^ (t - e).toNat) t

/-- One of the four values within 2 ulp of `± m * 2 ^ e`: the value below it in magnitude, less one, or
up to two more, infinity at most; subnormal results are flushed (R267). (DEDUCED, log entry 83.) -/
def withinTwo (k : Fin 4) (neg : Bool) (m : Nat) (e : Int) : F32 :=
  let w := fcut neg m e
  let a := w.toNat % 2 ^ 31
  if !fIsFinite w || a + k.val = 0 then ftz w
  else ftz (w - BitVec.ofNat 32 a + BitVec.ofNat 32 (min (a + k.val - 1) 0x7F800000))

/-- e^r for 0 ≤ r < ln 2, by its series. -/
def expSeries (r : Int) : Int :=
  (List.range 28).foldl (fun t i => fxOne + r * t / ((28 - i : Nat) * fxOne)) fxOne

/-- e^x (R267). (DEDUCED, log entry 83.) -/
def exp32 (x : F32) : F32 :=
  match fdec x with
  | .nan => fNaN
  | .inf neg => if neg then 0 else fInf false
  | .fin neg m e =>
    if 256 ≤ m * 2 ^ e.toNat / 2 ^ (-e).toNat then (if neg then 0 else fInf false)
    else
      let v := fsm neg m * 2 ^ (e + 96).toNat / 2 ^ (-(e + 96)).toNat
      withinTwo (Config.expUlp x) false (expSeries (v % fxLn2)).toNat (v / fxLn2 - 96)

/-- (1/2) ln ((1 + z) / (1 - z)) for 0 ≤ z ≤ 1/3, by its series. -/
def atanhSeries (z : Int) : Int :=
  let q := z * z / fxOne
  ((List.range 32).foldl (fun (p : Int × Int) i => (p.1 + p.2 / (2 * i + 1 : Nat), p.2 * q / fxOne)) (0, z)).1

/-- ln of `m * 2 ^ e`, in units of 2^-96. -/
def lnFix (m : Nat) (e : Int) : Int :=
  let k := Nat.log2 m
  let f : Int := m * 2 ^ 96 / 2 ^ k
  (e + k) * fxLn2 + 2 * atanhSeries ((f - fxOne) * fxOne / (f + fxOne))

/-- ln x (R267); as in IEEE 754, -∞ at a zero and no number below it. (DEDUCED, log entry 83.) -/
def ln32 (x : F32) : F32 :=
  match fdec (ftz x) with
  | .fin _ 0 _ => fInf true
  | .fin false (m + 1) e =>
    let v := lnFix (m + 1) e
    if v = 0 then 0 else withinTwo (Config.lnUlp x) (decide (v < 0)) v.natAbs (-96 : Int)
  | .inf false => fInf false
  | _ => fNaN

/-- 1 and π in units of 2^-64. -/
def fx64 : Int := 2 ^ 64
def fxPi : Int := 0x3243F6A8885A308D3

/-- arctan z for |z| ≤ tan 22.5°, by its series. -/
def atanSeries (z : Int) : Int :=
  let q := z * z / fx64
  ((List.range 28).foldl (fun (p : Int × Int) i =>
    (p.1 + (if i % 2 = 0 then p.2 else -p.2) / (2 * i + 1 : Nat), p.2 * q / fx64)) (0, z)).1

/-- arctan (b/a) for 0 ≤ b ≤ a, a not 0. -/
def atanFix (a b : Nat) : Int :=
  if 12 * b < 5 * a then atanSeries (b * fx64 / a) else fxPi / 4 + atanSeries (((b : Int) - a) * fx64 / (b + a))

/-- sin r for |r| ≤ π/2, by its series. -/
def sinSeries (r : Int) : Int :=
  let q := r * r / fx64
  r * (List.range 14).foldl (fun t i => fx64 - q * t / ((28 - 2 * i : Nat) * (29 - 2 * i : Nat) * fx64)) fx64 / fx64

/-- sin x, in units of 2^-64. -/
def sinFix (x : Int) : Int :=
  let r := x % (2 * fxPi)
  if 2 * r ≤ fxPi then sinSeries r
  else if 2 * r ≤ 3 * fxPi then sinSeries (fxPi - r)
  else sinSeries (r - 2 * fxPi)

/-- The sine of an angle in radians (R336); the spec bounds no error, and the bound of R267 is taken.
(DESIGN CHOICE, log entry 110.) -/
def sin32 (x : F32) : F32 :=
  match fdec x with
  | .fin neg m e =>
    let v := sinFix (fsm neg m * 2 ^ (e + 64).toNat / 2 ^ (-(e + 64)).toNat)
    if v = 0 then 0 else withinTwo (Config.sinUlp x) (decide (v < 0)) v.natAbs (-64 : Int)
  | _ => fNaN

/-- The phase of `re + j im` in 0.01°, to the nearest unit (R209); free for an admittance of 0 or one that is
no finite number. (DESIGN CHOICE, log entry 88.) -/
def phaseOf (re im : F32) : Int :=
  let x := fexact re
  let y := fexact im
  let a := x.1.natAbs * 2 ^ y.2
  let b := y.1.natAbs * 2 ^ x.2
  if !fIsFinite re || !fIsFinite im || (a = 0 && b = 0) then Config.phaseOpen re im
  else
    let first := if b ≤ a then atanFix a b else fxPi / 2 - atanFix b a
    let ang := if x.1 < 0 then fxPi - first else first
    let n := rneDiv (ang * 18000) fxPi.toNat
    if y.1 < 0 then -n else n

end Sys2Proof.Machine
end

