-- ==== Sys2Proof/Machine/RegMap.lean ====
section
/-! DEFINITION. The register map: the address of every register the spec defines and the place of
every field, from the register tables of the chapters (R104, R113, R114 and the register rules that
close each chapter).  A register is named as the spec names it; a field `<REG>_<FIELD>` is the
register's address with the field's most and least significant bit. -/

namespace Sys2Proof.Machine.Reg

/-! ### Sys registers -/

/-- R114, 05_register_conventions.md. -/
abbrev SYS_ID : Nat := 0x000000
abbrev SYS_ID_ID : Fld := ⟨SYS_ID, 31, 0⟩

/-- R114, 05_register_conventions.md. -/
abbrev SYS_REV : Nat := 0x000004
abbrev SYS_REV_REV_CODE : Fld := ⟨SYS_REV, 15, 0⟩

/-- R114, 05_register_conventions.md. -/
abbrev SYS_UID_LO : Nat := 0x000008
abbrev SYS_UID_LO_UID_LO : Fld := ⟨SYS_UID_LO, 31, 0⟩

/-- R114, 05_register_conventions.md. -/
abbrev SYS_UID_HI : Nat := 0x00000c
abbrev SYS_UID_HI_UID_HI : Fld := ⟨SYS_UID_HI, 31, 0⟩

/-- R114, 05_register_conventions.md. -/
abbrev SYS_STRAPS : Nat := 0x000010
abbrev SYS_STRAPS_BOOTSEL : Fld := ⟨SYS_STRAPS, 2, 2⟩
abbrev SYS_STRAPS_REFSEL : Fld := ⟨SYS_STRAPS, 1, 0⟩

/-- R114, 05_register_conventions.md. -/
abbrev SYS_STATUS : Nat := 0x000014
abbrev SYS_STATUS_WARN_ANY : Fld := ⟨SYS_STATUS, 11, 11⟩
abbrev SYS_STATUS_SAFE : Fld := ⟨SYS_STATUS, 10, 10⟩
abbrev SYS_STATUS_LANE_B_FENCED : Fld := ⟨SYS_STATUS, 9, 9⟩
abbrev SYS_STATUS_LANE_A_FENCED : Fld := ⟨SYS_STATUS, 8, 8⟩
abbrev SYS_STATUS_LOCKED : Fld := ⟨SYS_STATUS, 4, 4⟩
abbrev SYS_STATUS_BARE : Fld := ⟨SYS_STATUS, 3, 3⟩
abbrev SYS_STATUS_MP_FW : Fld := ⟨SYS_STATUS, 2, 2⟩
abbrev SYS_STATUS_DP_RUN : Fld := ⟨SYS_STATUS, 1, 1⟩
abbrev SYS_STATUS_CP_RUN : Fld := ⟨SYS_STATUS, 0, 0⟩

/-- R114, 05_register_conventions.md. -/
abbrev SYS_VIOL_COUNT : Nat := 0x000018
abbrev SYS_VIOL_COUNT_LOADER : Fld := ⟨SYS_VIOL_COUNT, 31, 16⟩
abbrev SYS_VIOL_COUNT_TOTAL : Fld := ⟨SYS_VIOL_COUNT, 15, 0⟩

/-- R114, 05_register_conventions.md. -/
abbrev SYS_SCRATCH : Nat := 0x00001c
abbrev SYS_SCRATCH_DATA : Fld := ⟨SYS_SCRATCH, 31, 0⟩

/-- R114, 05_register_conventions.md. -/
abbrev SYS_CAPS : Nat := 0x000020
abbrev SYS_CAPS_VALVES : Fld := ⟨SYS_CAPS, 31, 24⟩
abbrev SYS_CAPS_PORTS : Fld := ⟨SYS_CAPS, 23, 16⟩
abbrev SYS_CAPS_SLOTS : Fld := ⟨SYS_CAPS, 15, 8⟩
abbrev SYS_CAPS_BODIES : Fld := ⟨SYS_CAPS, 7, 0⟩

/-- R114, 05_register_conventions.md. -/
abbrev SYS_REQUESTER : Nat := 0x000024
abbrev SYS_REQUESTER_REQ_ID : Fld := ⟨SYS_REQUESTER, 7, 0⟩

/-! ### Caddy registers -/

/-- R100, 04_caddy_and_startup.md. -/
abbrev CADDY_STATUS : Nat := 0x010000
abbrev CADDY_STATUS_BARE_REASON : Fld := ⟨CADDY_STATUS, 15, 8⟩
abbrev CADDY_STATUS_SWAP_BUSY : Fld := ⟨CADDY_STATUS, 5, 5⟩
abbrev CADDY_STATUS_LOCKED : Fld := ⟨CADDY_STATUS, 4, 4⟩
abbrev CADDY_STATUS_BARE : Fld := ⟨CADDY_STATUS, 3, 3⟩
abbrev CADDY_STATUS_FALLBACK : Fld := ⟨CADDY_STATUS, 2, 2⟩
abbrev CADDY_STATUS_ACTIVE_SLOT : Fld := ⟨CADDY_STATUS, 1, 1⟩
abbrev CADDY_STATUS_LOADED : Fld := ⟨CADDY_STATUS, 0, 0⟩

/-- R100, 04_caddy_and_startup.md. -/
abbrev CADDY_SLOT_STATUS (n : Nat) : Nat := 0x010004 + 0x4 * n
abbrev CADDY_SLOT_STATUS_SECTIONS (n : Nat) : Fld := ⟨CADDY_SLOT_STATUS n, 23, 16⟩
abbrev CADDY_SLOT_STATUS_REASON (n : Nat) : Fld := ⟨CADDY_SLOT_STATUS n, 15, 8⟩
abbrev CADDY_SLOT_STATUS_CHECKED (n : Nat) : Fld := ⟨CADDY_SLOT_STATUS n, 1, 1⟩
abbrev CADDY_SLOT_STATUS_VALID (n : Nat) : Fld := ⟨CADDY_SLOT_STATUS n, 0, 0⟩

/-- R100, 04_caddy_and_startup.md. -/
abbrev CADDY_SLOT_SEQ (n : Nat) : Nat := 0x01000c + 0x4 * n
abbrev CADDY_SLOT_SEQ_SEQUENCE (n : Nat) : Fld := ⟨CADDY_SLOT_SEQ n, 31, 0⟩

/-- R100, 04_caddy_and_startup.md. -/
abbrev CADDY_KEY_STAGE (n : Nat) : Nat := 0x010040 + 0x4 * n
abbrev CADDY_KEY_STAGE_HASH_WORD (n : Nat) : Fld := ⟨CADDY_KEY_STAGE n, 31, 0⟩

/-- R100, 04_caddy_and_startup.md. -/
abbrev CADDY_KEY_HASH (n : Nat) : Nat := 0x010060 + 0x4 * n
abbrev CADDY_KEY_HASH_HASH_WORD (n : Nat) : Fld := ⟨CADDY_KEY_HASH n, 31, 0⟩

/-- R100, 04_caddy_and_startup.md. -/
abbrev CADDY_KEY_CTRL : Nat := 0x0100e0
abbrev CADDY_KEY_CTRL_KEY : Fld := ⟨CADDY_KEY_CTRL, 31, 16⟩
abbrev CADDY_KEY_CTRL_SLOT : Fld := ⟨CADDY_KEY_CTRL, 9, 8⟩
abbrev CADDY_KEY_CTRL_PROGRAMMED : Fld := ⟨CADDY_KEY_CTRL, 7, 4⟩
abbrev CADDY_KEY_CTRL_REVOKED : Fld := ⟨CADDY_KEY_CTRL, 3, 0⟩

/-- R100, 04_caddy_and_startup.md. -/
abbrev CADDY_SWAP_CMD : Nat := 0x0100f0
abbrev CADDY_SWAP_CMD_KEY : Fld := ⟨CADDY_SWAP_CMD, 31, 16⟩

/-- R100, 04_caddy_and_startup.md. -/
abbrev CADDY_SWAP_STATUS : Nat := 0x0100f4
abbrev CADDY_SWAP_STATUS_STATE : Fld := ⟨CADDY_SWAP_STATUS, 31, 28⟩
abbrev CADDY_SWAP_STATUS_REASON : Fld := ⟨CADDY_SWAP_STATUS, 23, 16⟩
abbrev CADDY_SWAP_STATUS_APPLIED : Fld := ⟨CADDY_SWAP_STATUS, 15, 8⟩
abbrev CADDY_SWAP_STATUS_CHANGED : Fld := ⟨CADDY_SWAP_STATUS, 7, 0⟩

/-- R100, 04_caddy_and_startup.md. -/
abbrev CADDY_BOOT_TIME : Nat := 0x0100f8
abbrev CADDY_BOOT_TIME_CP_MS : Fld := ⟨CADDY_BOOT_TIME, 15, 0⟩

/-! ### Time registers -/

/-- R171, 07_time_reference.md. -/
abbrev TIME_STATUS : Nat := 0x020000
abbrev TIME_STATUS_CLOCK_CLASS : Fld := ⟨TIME_STATUS, 31, 24⟩
abbrev TIME_STATUS_TIME_SOURCE : Fld := ⟨TIME_STATUS, 23, 16⟩
abbrev TIME_STATUS_SLEWING : Fld := ⟨TIME_STATUS, 7, 7⟩
abbrev TIME_STATUS_PPS_OK : Fld := ⟨TIME_STATUS, 6, 6⟩
abbrev TIME_STATUS_MSG_OK : Fld := ⟨TIME_STATUS, 5, 5⟩
abbrev TIME_STATUS_STEPPED : Fld := ⟨TIME_STATUS, 4, 4⟩
abbrev TIME_STATUS_STATE : Fld := ⟨TIME_STATUS, 2, 0⟩

/-- R171, 07_time_reference.md. -/
abbrev TIME_CFG : Nat := 0x020004
abbrev TIME_CFG_AUTO_STEP : Fld := ⟨TIME_CFG, 31, 31⟩
abbrev TIME_CFG_REF_OUT_EN : Fld := ⟨TIME_CFG, 26, 26⟩
abbrev TIME_CFG_REF_OUT_25M : Fld := ⟨TIME_CFG, 25, 25⟩
abbrev TIME_CFG_PPS_OUT_EN : Fld := ⟨TIME_CFG, 24, 24⟩
abbrev TIME_CFG_SOURCE_GNSS : Fld := ⟨TIME_CFG, 16, 16⟩
abbrev TIME_CFG_HOLDOVER_MIN : Fld := ⟨TIME_CFG, 10, 0⟩

/-- R171, 07_time_reference.md. -/
abbrev TIME_GNSS_CFG : Nat := 0x020008
abbrev TIME_GNSS_CFG_PPS_FALLING : Fld := ⟨TIME_GNSS_CFG, 31, 31⟩
abbrev TIME_GNSS_CFG_BAUD : Fld := ⟨TIME_GNSS_CFG, 27, 24⟩
abbrev TIME_GNSS_CFG_PPS_DELAY_NS : Fld := ⟨TIME_GNSS_CFG, 15, 0⟩

/-- R171, 07_time_reference.md. -/
abbrev TIME_NOW_SEC_LO : Nat := 0x020010
abbrev TIME_NOW_SEC_LO_SEC_LO : Fld := ⟨TIME_NOW_SEC_LO, 31, 0⟩

/-- R171, 07_time_reference.md. -/
abbrev TIME_NOW_SEC_HI : Nat := 0x020014
abbrev TIME_NOW_SEC_HI_SEC_HI : Fld := ⟨TIME_NOW_SEC_HI, 15, 0⟩

/-- R171, 07_time_reference.md. -/
abbrev TIME_NOW_NS : Nat := 0x020018
abbrev TIME_NOW_NS_NS : Fld := ⟨TIME_NOW_NS, 29, 0⟩

/-- R171, 07_time_reference.md. -/
abbrev TIME_SET_SEC_LO : Nat := 0x02001c
abbrev TIME_SET_SEC_LO_SEC_LO : Fld := ⟨TIME_SET_SEC_LO, 31, 0⟩

/-- R171, 07_time_reference.md. -/
abbrev TIME_SET_SEC_HI : Nat := 0x020020
abbrev TIME_SET_SEC_HI_SEC_HI : Fld := ⟨TIME_SET_SEC_HI, 15, 0⟩

/-- R171, 07_time_reference.md. -/
abbrev TIME_SET_NS : Nat := 0x020024
abbrev TIME_SET_NS_NS : Fld := ⟨TIME_SET_NS, 29, 0⟩

/-- R171, 07_time_reference.md. -/
abbrev TIME_SET_CMD : Nat := 0x020028
abbrev TIME_SET_CMD_KEY : Fld := ⟨TIME_SET_CMD, 31, 16⟩

/-- R171, 07_time_reference.md. -/
abbrev TIME_UTC : Nat := 0x02002c
abbrev TIME_UTC_LEAP61 : Fld := ⟨TIME_UTC, 17, 17⟩
abbrev TIME_UTC_LEAP59 : Fld := ⟨TIME_UTC, 16, 16⟩
abbrev TIME_UTC_OFFSET_S : Fld := ⟨TIME_UTC, 15, 0⟩

/-- R171, 07_time_reference.md. -/
abbrev TIME_SERVO : Nat := 0x020030
abbrev TIME_SERVO_TRIM : Fld := ⟨TIME_SERVO, 31, 16⟩
abbrev TIME_SERVO_PHASE_ERR : Fld := ⟨TIME_SERVO, 15, 0⟩

/-- R171, 07_time_reference.md. -/
abbrev TIME_PTP_CFG (n : Nat) : Nat := 0x020034 + 0x4 * n
abbrev TIME_PTP_CFG_ENABLE (n : Nat) : Fld := ⟨TIME_PTP_CFG n, 31, 31⟩
abbrev TIME_PTP_CFG_L2 (n : Nat) : Fld := ⟨TIME_PTP_CFG n, 30, 30⟩
abbrev TIME_PTP_CFG_DOMAIN (n : Nat) : Fld := ⟨TIME_PTP_CFG n, 23, 16⟩
abbrev TIME_PTP_CFG_PRIORITY1 (n : Nat) : Fld := ⟨TIME_PTP_CFG n, 15, 8⟩
abbrev TIME_PTP_CFG_PRIORITY2 (n : Nat) : Fld := ⟨TIME_PTP_CFG n, 7, 0⟩

/-- R171, 07_time_reference.md. -/
abbrev TIME_PTP_STATUS (n : Nat) : Nat := 0x02003c + 0x4 * n
abbrev TIME_PTP_STATUS_PORT_STATE (n : Nat) : Fld := ⟨TIME_PTP_STATUS n, 31, 28⟩
abbrev TIME_PTP_STATUS_DELAY_RESP (n : Nat) : Fld := ⟨TIME_PTP_STATUS n, 15, 0⟩

/-! ### Net registers -/

/-- R151, 06_host_interfaces.md. -/
abbrev NET_STATUS : Nat := 0x030000
abbrev NET_STATUS_KMP_SESSIONS : Fld := ⟨NET_STATUS, 23, 20⟩
abbrev NET_STATUS_MB_CONNS : Fld := ⟨NET_STATUS, 19, 16⟩
abbrev NET_STATUS_WDOG_TRIPPED : Fld := ⟨NET_STATUS, 4, 4⟩
abbrev NET_STATUS_IP6_LL_OK : Fld := ⟨NET_STATUS, 3, 3⟩
abbrev NET_STATUS_IP4_OK : Fld := ⟨NET_STATUS, 2, 2⟩
abbrev NET_STATUS_E1_LINK : Fld := ⟨NET_STATUS, 1, 1⟩
abbrev NET_STATUS_E0_LINK : Fld := ⟨NET_STATUS, 0, 0⟩

/-- R151, 06_host_interfaces.md. -/
abbrev NET_PORT_CFG (n : Nat) : Nat := 0x030004 + 0x4 * n
abbrev NET_PORT_CFG_UNUSED (n : Nat) : Fld := ⟨NET_PORT_CFG n, 3, 3⟩
abbrev NET_PORT_CFG_MODE (n : Nat) : Fld := ⟨NET_PORT_CFG n, 2, 1⟩
abbrev NET_PORT_CFG_NO_1000 (n : Nat) : Fld := ⟨NET_PORT_CFG n, 0, 0⟩

/-- R151, 06_host_interfaces.md. -/
abbrev NET_PORT_STATUS (n : Nat) : Nat := 0x03000c + 0x4 * n
abbrev NET_PORT_STATUS_RX_DROPS (n : Nat) : Fld := ⟨NET_PORT_STATUS n, 31, 16⟩
abbrev NET_PORT_STATUS_FULL_DUPLEX (n : Nat) : Fld := ⟨NET_PORT_STATUS n, 3, 3⟩
abbrev NET_PORT_STATUS_SPEED (n : Nat) : Fld := ⟨NET_PORT_STATUS n, 2, 1⟩
abbrev NET_PORT_STATUS_LINK (n : Nat) : Fld := ⟨NET_PORT_STATUS n, 0, 0⟩

/-- R151, 06_host_interfaces.md. -/
abbrev NET_MAC_LO : Nat := 0x030014
abbrev NET_MAC_LO_MAC_LO : Fld := ⟨NET_MAC_LO, 31, 0⟩

/-- R151, 06_host_interfaces.md. -/
abbrev NET_MAC_HI : Nat := 0x030018
abbrev NET_MAC_HI_MAC_HI : Fld := ⟨NET_MAC_HI, 15, 0⟩

/-- R151, 06_host_interfaces.md. -/
abbrev NET_IP4_ADDR : Nat := 0x03001c
abbrev NET_IP4_ADDR_VALUE : Fld := ⟨NET_IP4_ADDR, 31, 0⟩

/-- R151, 06_host_interfaces.md. -/
abbrev NET_IP4_MASK : Nat := 0x030020
abbrev NET_IP4_MASK_VALUE : Fld := ⟨NET_IP4_MASK, 31, 0⟩

/-- R151, 06_host_interfaces.md. -/
abbrev NET_IP4_GW : Nat := 0x030024
abbrev NET_IP4_GW_VALUE : Fld := ⟨NET_IP4_GW, 31, 0⟩

/-- R151, 06_host_interfaces.md. -/
abbrev NET_KMP_STATS : Nat := 0x030028
abbrev NET_KMP_STATS_TAG_FAIL : Fld := ⟨NET_KMP_STATS, 31, 16⟩
abbrev NET_KMP_STATS_REPLAY_DROP : Fld := ⟨NET_KMP_STATS, 15, 0⟩

/-- R151, 06_host_interfaces.md. -/
abbrev NET_MB_CFG : Nat := 0x03002c
abbrev NET_MB_CFG_SERVER_EN : Fld := ⟨NET_MB_CFG, 31, 31⟩
abbrev NET_MB_CFG_IDLE_S : Fld := ⟨NET_MB_CFG, 15, 8⟩
abbrev NET_MB_CFG_MAX_CONN : Fld := ⟨NET_MB_CFG, 3, 0⟩

/-- R151, 06_host_interfaces.md. -/
abbrev NET_MB_STATS : Nat := 0x030030
abbrev NET_MB_STATS_EXCEPTIONS : Fld := ⟨NET_MB_STATS, 31, 16⟩
abbrev NET_MB_STATS_REQUESTS : Fld := ⟨NET_MB_STATS, 15, 0⟩

/-- R151, 06_host_interfaces.md. -/
abbrev NET_WDOG_CFG : Nat := 0x030034
abbrev NET_WDOG_CFG_ENABLE : Fld := ⟨NET_WDOG_CFG, 31, 31⟩
abbrev NET_WDOG_CFG_SOURCES : Fld := ⟨NET_WDOG_CFG, 10, 8⟩
abbrev NET_WDOG_CFG_TIMEOUT_S : Fld := ⟨NET_WDOG_CFG, 5, 0⟩

/-- R151, 06_host_interfaces.md. -/
abbrev NET_WDOG_STATUS : Nat := 0x030038
abbrev NET_WDOG_STATUS_TRIP_COUNT : Fld := ⟨NET_WDOG_STATUS, 31, 24⟩
abbrev NET_WDOG_STATUS_GOOD_COUNT : Fld := ⟨NET_WDOG_STATUS, 19, 18⟩
abbrev NET_WDOG_STATUS_TRIPPED : Fld := ⟨NET_WDOG_STATUS, 16, 16⟩
abbrev NET_WDOG_STATUS_AGE_MS : Fld := ⟨NET_WDOG_STATUS, 15, 0⟩

/-- R151, 06_host_interfaces.md. -/
abbrev NET_HEARTBEAT : Nat := 0x03003c
abbrev NET_HEARTBEAT_BEAT : Fld := ⟨NET_HEARTBEAT, 31, 0⟩

/-- R151, 06_host_interfaces.md. -/
abbrev NET_HSPI_IRQ_STATUS : Nat := 0x030040
abbrev NET_HSPI_IRQ_STATUS_LINK : Fld := ⟨NET_HSPI_IRQ_STATUS, 3, 3⟩
abbrev NET_HSPI_IRQ_STATUS_SWAP : Fld := ⟨NET_HSPI_IRQ_STATUS, 2, 2⟩
abbrev NET_HSPI_IRQ_STATUS_WDOG : Fld := ⟨NET_HSPI_IRQ_STATUS, 1, 1⟩
abbrev NET_HSPI_IRQ_STATUS_EVENT : Fld := ⟨NET_HSPI_IRQ_STATUS, 0, 0⟩

/-- R151, 06_host_interfaces.md. -/
abbrev NET_HSPI_IRQ_EN : Nat := 0x030044
abbrev NET_HSPI_IRQ_EN_EVENT_SEV : Fld := ⟨NET_HSPI_IRQ_EN, 10, 8⟩
abbrev NET_HSPI_IRQ_EN_EN : Fld := ⟨NET_HSPI_IRQ_EN, 3, 0⟩

/-- R151, 06_host_interfaces.md. -/
abbrev NET_HSPI_ERR : Nat := 0x030048
abbrev NET_HSPI_ERR_BAD_FRAMES : Fld := ⟨NET_HSPI_ERR, 31, 16⟩
abbrev NET_HSPI_ERR_READ_BUSY : Fld := ⟨NET_HSPI_ERR, 15, 0⟩

/-- R151, 06_host_interfaces.md. -/
abbrev NET_DHCP_STATUS : Nat := 0x03004c
abbrev NET_DHCP_STATUS_LEASE_S : Fld := ⟨NET_DHCP_STATUS, 31, 8⟩
abbrev NET_DHCP_STATUS_STATE : Fld := ⟨NET_DHCP_STATUS, 1, 0⟩

/-- R151, 06_host_interfaces.md. -/
abbrev NET_SESSION (n : Nat) : Nat := 0x030080 + 0x4 * n
abbrev NET_SESSION_OPEN (n : Nat) : Fld := ⟨NET_SESSION n, 31, 31⟩
abbrev NET_SESSION_OPERATE (n : Nat) : Fld := ⟨NET_SESSION n, 30, 30⟩
abbrev NET_SESSION_KEY (n : Nat) : Fld := ⟨NET_SESSION n, 29, 28⟩
abbrev NET_SESSION_IDLE_S (n : Nat) : Fld := ⟨NET_SESSION n, 15, 0⟩

/-- R151, 06_host_interfaces.md. -/
abbrev NET_IP6_LL (n : Nat) : Nat := 0x0300a0 + 0x4 * n
abbrev NET_IP6_LL_WORD (n : Nat) : Fld := ⟨NET_IP6_LL n, 31, 0⟩

/-- R151, 06_host_interfaces.md. -/
abbrev NET_IP6_STATIC (n : Nat) : Nat := 0x0300b0 + 0x4 * n
abbrev NET_IP6_STATIC_WORD (n : Nat) : Fld := ⟨NET_IP6_STATIC n, 31, 0⟩

/-- R151, 06_host_interfaces.md. -/
abbrev NET_CLIENT_ADDR (m : Nat) : Nat := 0x030100 + 0x10 * m
abbrev NET_CLIENT_ADDR_IP4 (m : Nat) : Fld := ⟨NET_CLIENT_ADDR m, 31, 0⟩

/-- R151, 06_host_interfaces.md. -/
abbrev NET_CLIENT_CFG (m : Nat) : Nat := 0x030104 + 0x10 * m
abbrev NET_CLIENT_CFG_PORT (m : Nat) : Fld := ⟨NET_CLIENT_CFG m, 31, 16⟩
abbrev NET_CLIENT_CFG_UNIT_ID (m : Nat) : Fld := ⟨NET_CLIENT_CFG m, 15, 8⟩
abbrev NET_CLIENT_CFG_PERIOD (m : Nat) : Fld := ⟨NET_CLIENT_CFG m, 7, 0⟩

/-- R151, 06_host_interfaces.md. -/
abbrev NET_CLIENT_STATUS (m : Nat) : Nat := 0x030108 + 0x10 * m
abbrev NET_CLIENT_STATUS_FAIL_COUNT (m : Nat) : Fld := ⟨NET_CLIENT_STATUS m, 31, 16⟩
abbrev NET_CLIENT_STATUS_LAST_EXC (m : Nat) : Fld := ⟨NET_CLIENT_STATUS m, 15, 8⟩
abbrev NET_CLIENT_STATUS_CONNECTED (m : Nat) : Fld := ⟨NET_CLIENT_STATUS m, 1, 1⟩
abbrev NET_CLIENT_STATUS_UP (m : Nat) : Fld := ⟨NET_CLIENT_STATUS m, 0, 0⟩

/-- R151, 06_host_interfaces.md. -/
abbrev NET_CLIENT_READBACK (m : Nat) : Nat := 0x03010c + 0x10 * m
abbrev NET_CLIENT_READBACK_FIRST (m : Nat) : Fld := ⟨NET_CLIENT_READBACK m, 31, 16⟩
abbrev NET_CLIENT_READBACK_SECOND (m : Nat) : Fld := ⟨NET_CLIENT_READBACK m, 15, 0⟩

/-- R151, 06_host_interfaces.md. -/
abbrev NET_NETOUT (n : Nat) : Nat := 0x030200 + 0x4 * n
abbrev NET_NETOUT_SERVER (n : Nat) : Fld := ⟨NET_NETOUT n, 31, 28⟩
abbrev NET_NETOUT_FORMAT (n : Nat) : Fld := ⟨NET_NETOUT n, 27, 26⟩
abbrev NET_NETOUT_ENABLE (n : Nat) : Fld := ⟨NET_NETOUT n, 25, 25⟩
abbrev NET_NETOUT_DECIMAL (n : Nat) : Fld := ⟨NET_NETOUT n, 24, 22⟩
abbrev NET_NETOUT_REG (n : Nat) : Fld := ⟨NET_NETOUT n, 15, 0⟩

/-! ### Log registers -/

/-- R447, 21_event_recorder.md. -/
abbrev LOG_STATUS : Nat := 0x040000
abbrev LOG_STATUS_SYSLOG_SKIPPED : Fld := ⟨LOG_STATUS, 31, 16⟩
abbrev LOG_STATUS_DEGRADED : Fld := ⟨LOG_STATUS, 7, 7⟩
abbrev LOG_STATUS_HEAD_FULL : Fld := ⟨LOG_STATUS, 6, 6⟩
abbrev LOG_STATUS_CLEARING : Fld := ⟨LOG_STATUS, 5, 5⟩
abbrev LOG_STATUS_OVERFLOW : Fld := ⟨LOG_STATUS, 4, 4⟩
abbrev LOG_STATUS_FROZEN : Fld := ⟨LOG_STATUS, 3, 3⟩
abbrev LOG_STATUS_FLUSH_PAUSED : Fld := ⟨LOG_STATUS, 2, 2⟩
abbrev LOG_STATUS_LOST_SEEN : Fld := ⟨LOG_STATUS, 1, 1⟩
abbrev LOG_STATUS_RUNNING : Fld := ⟨LOG_STATUS, 0, 0⟩

/-- R447, 21_event_recorder.md. -/
abbrev LOG_CFG : Nat := 0x040004
abbrev LOG_CFG_WEAR_WARN_PCT : Fld := ⟨LOG_CFG, 15, 8⟩
abbrev LOG_CFG_FLUSH_MS : Fld := ⟨LOG_CFG, 7, 0⟩

/-- R447, 21_event_recorder.md. -/
abbrev LOG_HWM_LO : Nat := 0x040008
abbrev LOG_HWM_LO_HWM_LO : Fld := ⟨LOG_HWM_LO, 31, 0⟩

/-- R447, 21_event_recorder.md. -/
abbrev LOG_HWM_HI : Nat := 0x04000c
abbrev LOG_HWM_HI_HWM_HI : Fld := ⟨LOG_HWM_HI, 15, 0⟩

/-- R447, 21_event_recorder.md. -/
abbrev LOG_TAIL_FIRST_LO : Nat := 0x040010
abbrev LOG_TAIL_FIRST_LO_FIRST_LO : Fld := ⟨LOG_TAIL_FIRST_LO, 31, 0⟩

/-- R447, 21_event_recorder.md. -/
abbrev LOG_TAIL_FIRST_HI : Nat := 0x040014
abbrev LOG_TAIL_FIRST_HI_FIRST_HI : Fld := ⟨LOG_TAIL_FIRST_HI, 15, 0⟩

/-- R447, 21_event_recorder.md. -/
abbrev LOG_HEAD_FIRST_LO : Nat := 0x040018
abbrev LOG_HEAD_FIRST_LO_FIRST_LO : Fld := ⟨LOG_HEAD_FIRST_LO, 31, 0⟩

/-- R447, 21_event_recorder.md. -/
abbrev LOG_HEAD_FIRST_HI : Nat := 0x04001c
abbrev LOG_HEAD_FIRST_HI_FIRST_HI : Fld := ⟨LOG_HEAD_FIRST_HI, 15, 0⟩

/-- R447, 21_event_recorder.md. -/
abbrev LOG_HEAD_COUNT : Nat := 0x040020
abbrev LOG_HEAD_COUNT_COUNT : Fld := ⟨LOG_HEAD_COUNT, 16, 0⟩

/-- R447, 21_event_recorder.md. -/
abbrev LOG_POND : Nat := 0x040024
abbrev LOG_POND_PEAK : Fld := ⟨LOG_POND, 28, 16⟩
abbrev LOG_POND_FILL : Fld := ⟨LOG_POND, 12, 0⟩

/-- R447, 21_event_recorder.md. -/
abbrev LOG_FREEZE : Nat := 0x040028
abbrev LOG_FREEZE_KEY : Fld := ⟨LOG_FREEZE, 31, 16⟩
abbrev LOG_FREEZE_ACTION : Fld := ⟨LOG_FREEZE, 9, 8⟩
abbrev LOG_FREEZE_REMAIN : Fld := ⟨LOG_FREEZE, 7, 0⟩

/-- R447, 21_event_recorder.md. -/
abbrev LOG_CLEAR_CMD : Nat := 0x04002c
abbrev LOG_CLEAR_CMD_KEY : Fld := ⟨LOG_CLEAR_CMD, 31, 16⟩
abbrev LOG_CLEAR_CMD_CONFIRM : Fld := ⟨LOG_CLEAR_CMD, 15, 0⟩

/-- R447, 21_event_recorder.md. -/
abbrev LOG_WEAR : Nat := 0x040030
abbrev LOG_WEAR_RETIRED : Fld := ⟨LOG_WEAR, 31, 24⟩
abbrev LOG_WEAR_MAX_ERASE : Fld := ⟨LOG_WEAR, 23, 0⟩

/-- R447, 21_event_recorder.md. -/
abbrev LOG_LOST : Nat := 0x040034
abbrev LOG_LOST_BOUND : Fld := ⟨LOG_LOST, 31, 31⟩
abbrev LOG_LOST_N : Fld := ⟨LOG_LOST, 23, 0⟩

/-- R447, 21_event_recorder.md. -/
abbrev LOG_SYSLOG_CFG : Nat := 0x040038
abbrev LOG_SYSLOG_CFG_ENABLE : Fld := ⟨LOG_SYSLOG_CFG, 31, 31⟩
abbrev LOG_SYSLOG_CFG_MIN_SEV : Fld := ⟨LOG_SYSLOG_CFG, 30, 28⟩
abbrev LOG_SYSLOG_CFG_FACILITY : Fld := ⟨LOG_SYSLOG_CFG, 27, 24⟩
abbrev LOG_SYSLOG_CFG_RATE : Fld := ⟨LOG_SYSLOG_CFG, 11, 0⟩

/-- R447, 21_event_recorder.md. -/
abbrev LOG_SYSLOG_ADDR : Nat := 0x04003c
abbrev LOG_SYSLOG_ADDR_IP4 : Fld := ⟨LOG_SYSLOG_ADDR, 31, 0⟩

/-- R447, 21_event_recorder.md. -/
abbrev LOG_DROP (n : Nat) : Nat := 0x040040 + 0x4 * n
abbrev LOG_DROP_DROPPED (n : Nat) : Fld := ⟨LOG_DROP n, 31, 0⟩

/-! ### Guard registers -/

/-- R403, 18_thermal_guard.md. -/
abbrev GUARD_STATUS : Nat := 0x050000
abbrev GUARD_STATUS_WARN_ZONES : Fld := ⟨GUARD_STATUS, 23, 16⟩
abbrev GUARD_STATUS_CUT_ZONES : Fld := ⟨GUARD_STATUS, 15, 8⟩
abbrev GUARD_STATUS_OVERRIDE : Fld := ⟨GUARD_STATUS, 2, 2⟩
abbrev GUARD_STATUS_FANS_FORCED : Fld := ⟨GUARD_STATUS, 1, 1⟩
abbrev GUARD_STATUS_USER_ZONES : Fld := ⟨GUARD_STATUS, 0, 0⟩

/-- R403, 18_thermal_guard.md. -/
abbrev GUARD_FAN_MASK : Nat := 0x050004
abbrev GUARD_FAN_MASK_FANS : Fld := ⟨GUARD_FAN_MASK, 15, 0⟩

/-- R403, 18_thermal_guard.md. -/
abbrev GUARD_HALT_LAST : Nat := 0x050008
abbrev GUARD_HALT_LAST_ZONE : Fld := ⟨GUARD_HALT_LAST, 31, 28⟩
abbrev GUARD_HALT_LAST_ABSOLUTE : Fld := ⟨GUARD_HALT_LAST, 27, 27⟩
abbrev GUARD_HALT_LAST_GRACE_FULL : Fld := ⟨GUARD_HALT_LAST, 26, 26⟩
abbrev GUARD_HALT_LAST_GRACE_100US : Fld := ⟨GUARD_HALT_LAST, 25, 16⟩
abbrev GUARD_HALT_LAST_PEAK : Fld := ⟨GUARD_HALT_LAST, 15, 0⟩

/-- R403, 18_thermal_guard.md. -/
abbrev GUARD_STATS : Nat := 0x05000c
abbrev GUARD_STATS_HALTS : Fld := ⟨GUARD_STATS, 31, 24⟩
abbrev GUARD_STATS_CUTS_P0 : Fld := ⟨GUARD_STATS, 23, 16⟩
abbrev GUARD_STATS_CUTS_P1 : Fld := ⟨GUARD_STATS, 15, 8⟩
abbrev GUARD_STATS_USER_CUTS : Fld := ⟨GUARD_STATS, 7, 0⟩

/-- R403, 18_thermal_guard.md. -/
abbrev GUARD_BROKEN : Nat := 0x050010
abbrev GUARD_BROKEN_BROKEN : Fld := ⟨GUARD_BROKEN, 21, 0⟩

/-- R403, 18_thermal_guard.md. -/
abbrev GUARD_FAST : Nat := 0x050014
abbrev GUARD_FAST_FAST : Fld := ⟨GUARD_FAST, 21, 0⟩

/-- R403, 18_thermal_guard.md. -/
abbrev GUARD_SENS_CFG (n : Nat) : Nat := 0x050100 + 0x10 * n
abbrev GUARD_SENS_CFG_OFFSET (n : Nat) : Fld := ⟨GUARD_SENS_CFG n, 31, 16⟩
abbrev GUARD_SENS_CFG_PARAM (n : Nat) : Fld := ⟨GUARD_SENS_CFG n, 15, 4⟩

/-- R403, 18_thermal_guard.md. -/
abbrev GUARD_READING (n : Nat) : Nat := 0x050104 + 0x10 * n
abbrev GUARD_READING_BROKEN (n : Nat) : Fld := ⟨GUARD_READING n, 31, 31⟩
abbrev GUARD_READING_FAST (n : Nat) : Fld := ⟨GUARD_READING n, 30, 30⟩
abbrev GUARD_READING_HALF (n : Nat) : Fld := ⟨GUARD_READING n, 29, 29⟩
abbrev GUARD_READING_TEMP (n : Nat) : Fld := ⟨GUARD_READING n, 15, 0⟩

/-- R403, 18_thermal_guard.md. -/
abbrev GUARD_SENS_STATUS (n : Nat) : Nat := 0x050108 + 0x10 * n
abbrev GUARD_SENS_STATUS_PEAK (n : Nat) : Fld := ⟨GUARD_SENS_STATUS n, 31, 16⟩
abbrev GUARD_SENS_STATUS_BROKEN_COUNT (n : Nat) : Fld := ⟨GUARD_SENS_STATUS n, 7, 0⟩

/-- R403, 18_thermal_guard.md. -/
abbrev GUARD_ZONE_STATUS (z : Nat) : Nat := 0x050408 + 0x10 * z
abbrev GUARD_ZONE_STATUS_ZONE_TEMP (z : Nat) : Fld := ⟨GUARD_ZONE_STATUS z, 31, 16⟩
abbrev GUARD_ZONE_STATUS_BROKEN_IN (z : Nat) : Fld := ⟨GUARD_ZONE_STATUS z, 7, 7⟩
abbrev GUARD_ZONE_STATUS_CUT_DWELL (z : Nat) : Fld := ⟨GUARD_ZONE_STATUS z, 3, 3⟩
abbrev GUARD_ZONE_STATUS_WARN_DWELL (z : Nat) : Fld := ⟨GUARD_ZONE_STATUS z, 2, 2⟩
abbrev GUARD_ZONE_STATUS_CUT (z : Nat) : Fld := ⟨GUARD_ZONE_STATUS z, 1, 1⟩
abbrev GUARD_ZONE_STATUS_WARN (z : Nat) : Fld := ⟨GUARD_ZONE_STATUS z, 0, 0⟩

/-- R403, 18_thermal_guard.md. -/
abbrev GUARD_ZONE_CFG (z : Nat) : Nat := 0x050400 + 0x10 * z
abbrev GUARD_ZONE_CFG_MEMBERS (z : Nat) : Fld := ⟨GUARD_ZONE_CFG z, 31, 16⟩
abbrev GUARD_ZONE_CFG_HYST (z : Nat) : Fld := ⟨GUARD_ZONE_CFG z, 15, 12⟩
abbrev GUARD_ZONE_CFG_WARN_ACT (z : Nat) : Fld := ⟨GUARD_ZONE_CFG z, 11, 8⟩
abbrev GUARD_ZONE_CFG_CUT_ACT (z : Nat) : Fld := ⟨GUARD_ZONE_CFG z, 7, 4⟩

/-- R403, 18_thermal_guard.md. -/
abbrev GUARD_ZONE_THR (z : Nat) : Nat := 0x050404 + 0x10 * z
abbrev GUARD_ZONE_THR_CUT (z : Nat) : Fld := ⟨GUARD_ZONE_THR z, 31, 16⟩
abbrev GUARD_ZONE_THR_WARN (z : Nat) : Fld := ⟨GUARD_ZONE_THR z, 15, 0⟩

/-! ### Pwr registers -/

/-- R80, 03_power_clocks_reset.md. -/
abbrev PWR_STATUS : Nat := 0x060000
abbrev PWR_STATUS_VBANK_OK : Fld := ⟨PWR_STATUS, 23, 12⟩
abbrev PWR_STATUS_VFAN_OK : Fld := ⟨PWR_STATUS, 11, 11⟩
abbrev PWR_STATUS_VCAB_OK : Fld := ⟨PWR_STATUS, 10, 10⟩
abbrev PWR_STATUS_VLED_OK : Fld := ⟨PWR_STATUS, 9, 9⟩
abbrev PWR_STATUS_VEP_OK : Fld := ⟨PWR_STATUS, 8, 8⟩
abbrev PWR_STATUS_GAUGE_VALID : Fld := ⟨PWR_STATUS, 4, 4⟩
abbrev PWR_STATUS_SLUICE_ACTIVE : Fld := ⟨PWR_STATUS, 3, 3⟩
abbrev PWR_STATUS_PFAIL : Fld := ⟨PWR_STATUS, 2, 2⟩
abbrev PWR_STATUS_INPUT_OK : Fld := ⟨PWR_STATUS, 1, 1⟩
abbrev PWR_STATUS_LOGIC_RAILS_OK : Fld := ⟨PWR_STATUS, 0, 0⟩

/-- R80, 03_power_clocks_reset.md. -/
abbrev PWR_PFI_CFG : Nat := 0x060004
abbrev PWR_PFI_CFG_DEGLITCH_US : Fld := ⟨PWR_PFI_CFG, 10, 0⟩

/-- R80, 03_power_clocks_reset.md. -/
abbrev PWR_HOLD_CFG : Nat := 0x060008
abbrev PWR_HOLD_CFG_CAP_10UF : Fld := ⟨PWR_HOLD_CFG, 31, 16⟩
abbrev PWR_HOLD_CFG_EFF : Fld := ⟨PWR_HOLD_CFG, 15, 8⟩
abbrev PWR_HOLD_CFG_VMIN_100MV : Fld := ⟨PWR_HOLD_CFG, 7, 0⟩

/-- R80, 03_power_clocks_reset.md. -/
abbrev PWR_HOLD_CFG2 : Nat := 0x06000c
abbrev PWR_HOLD_CFG2_SENSE_RATIO : Fld := ⟨PWR_HOLD_CFG2, 23, 16⟩
abbrev PWR_HOLD_CFG2_EP_MW : Fld := ⟨PWR_HOLD_CFG2, 15, 0⟩

/-- R80, 03_power_clocks_reset.md. -/
abbrev PWR_GAUGE : Nat := 0x060010
abbrev PWR_GAUGE_ENERGY_MJ : Fld := ⟨PWR_GAUGE, 31, 16⟩
abbrev PWR_GAUGE_VHOLD_10MV : Fld := ⟨PWR_GAUGE, 15, 0⟩

/-- R80, 03_power_clocks_reset.md. -/
abbrev PWR_SLUICE_LAST : Nat := 0x060014
abbrev PWR_SLUICE_LAST_MARKER_FOUND : Fld := ⟨PWR_SLUICE_LAST, 31, 31⟩
abbrev PWR_SLUICE_LAST_LAST_WORD_DONE : Fld := ⟨PWR_SLUICE_LAST, 30, 30⟩
abbrev PWR_SLUICE_LAST_LAST_WORD_SKIPPED : Fld := ⟨PWR_SLUICE_LAST, 29, 29⟩
abbrev PWR_SLUICE_LAST_HALT_DURING : Fld := ⟨PWR_SLUICE_LAST, 28, 28⟩
abbrev PWR_SLUICE_LAST_FLUSH_TIME : Fld := ⟨PWR_SLUICE_LAST, 27, 16⟩
abbrev PWR_SLUICE_LAST_RECORDS_FLUSHED : Fld := ⟨PWR_SLUICE_LAST, 12, 0⟩

/-- R80, 03_power_clocks_reset.md. -/
abbrev PWR_CYCLE_COUNT : Nat := 0x060018
abbrev PWR_CYCLE_COUNT_COUNT : Fld := ⟨PWR_CYCLE_COUNT, 23, 0⟩

/-- R80, 03_power_clocks_reset.md. -/
abbrev PWR_OPTIME_LO : Nat := 0x06001c
abbrev PWR_OPTIME_LO_OPTIME_LO : Fld := ⟨PWR_OPTIME_LO, 31, 0⟩

/-- R80, 03_power_clocks_reset.md. -/
abbrev PWR_OPTIME_HI : Nat := 0x060020
abbrev PWR_OPTIME_HI_OPTIME_HI : Fld := ⟨PWR_OPTIME_HI, 7, 0⟩

/-- R80, 03_power_clocks_reset.md. -/
abbrev PWR_RESET_CAUSE : Nat := 0x060024
abbrev PWR_RESET_CAUSE_CAUSE : Fld := ⟨PWR_RESET_CAUSE, 7, 0⟩

/-- R80, 03_power_clocks_reset.md. -/
abbrev PWR_RESET_CMD : Nat := 0x060028
abbrev PWR_RESET_CMD_KEY : Fld := ⟨PWR_RESET_CMD, 31, 16⟩

/-- R80, 03_power_clocks_reset.md. -/
abbrev PWR_CLK_STATUS : Nat := 0x06002c
abbrev PWR_CLK_STATUS_LOCK_LOSS_COUNT : Fld := ⟨PWR_CLK_STATUS, 31, 16⟩
abbrev PWR_CLK_STATUS_REF_LOST : Fld := ⟨PWR_CLK_STATUS, 2, 2⟩
abbrev PWR_CLK_STATUS_ACTIVE_REF : Fld := ⟨PWR_CLK_STATUS, 1, 1⟩
abbrev PWR_CLK_STATUS_PLL_LOCK : Fld := ⟨PWR_CLK_STATUS, 0, 0⟩

/-! ### Disp registers -/

/-- R420, 19_door_panel.md. -/
abbrev DISP_STATUS : Nat := 0x070000
abbrev DISP_STATUS_STATE : Fld := ⟨DISP_STATUS, 31, 28⟩
abbrev DISP_STATUS_SHOWING : Fld := ⟨DISP_STATUS, 23, 16⟩
abbrev DISP_STATUS_VF0_SET : Fld := ⟨DISP_STATUS, 8, 8⟩
abbrev DISP_STATUS_SWEEP_DONE : Fld := ⟨DISP_STATUS, 7, 7⟩
abbrev DISP_STATUS_CRACK_OPEN : Fld := ⟨DISP_STATUS, 6, 6⟩
abbrev DISP_STATUS_CRACK_SEEN : Fld := ⟨DISP_STATUS, 5, 5⟩
abbrev DISP_STATUS_CLIPPED : Fld := ⟨DISP_STATUS, 4, 4⟩
abbrev DISP_STATUS_BINDING : Fld := ⟨DISP_STATUS, 3, 3⟩
abbrev DISP_STATUS_VLED_OK : Fld := ⟨DISP_STATUS, 2, 2⟩
abbrev DISP_STATUS_DISCHARGED : Fld := ⟨DISP_STATUS, 1, 1⟩

/-- R420, 19_door_panel.md. -/
abbrev DISP_CFG : Nat := 0x070004
abbrev DISP_CFG_PRESENT : Fld := ⟨DISP_CFG, 31, 31⟩
abbrev DISP_CFG_RATE_300 : Fld := ⟨DISP_CFG, 30, 30⟩
abbrev DISP_CFG_SENSE_EN : Fld := ⟨DISP_CFG, 29, 29⟩
abbrev DISP_CFG_USE_SENSE : Fld := ⟨DISP_CFG, 28, 28⟩

/-- R420, 19_door_panel.md. -/
abbrev DISP_CURRENT : Nat := 0x070008
abbrev DISP_CURRENT_BLUE : Fld := ⟨DISP_CURRENT, 23, 16⟩
abbrev DISP_CURRENT_GREEN : Fld := ⟨DISP_CURRENT, 15, 8⟩
abbrev DISP_CURRENT_RED : Fld := ⟨DISP_CURRENT, 7, 0⟩

/-- R420, 19_door_panel.md. -/
abbrev DISP_CTRL : Nat := 0x07000c
abbrev DISP_CTRL_KEY : Fld := ⟨DISP_CTRL, 31, 16⟩
abbrev DISP_CTRL_ACTION : Fld := ⟨DISP_CTRL, 3, 0⟩

/-- R420, 19_door_panel.md. -/
abbrev DISP_SOURCE : Nat := 0x070010
abbrev DISP_SOURCE_IMAGE : Fld := ⟨DISP_SOURCE, 7, 0⟩

/-- R420, 19_door_panel.md. -/
abbrev DISP_FB_SEL : Nat := 0x070014
abbrev DISP_FB_SEL_AUTO_INC : Fld := ⟨DISP_FB_SEL, 31, 31⟩
abbrev DISP_FB_SEL_OFFSET : Fld := ⟨DISP_FB_SEL, 10, 0⟩

/-- R420, 19_door_panel.md. -/
abbrev DISP_FB_DATA : Nat := 0x070018
abbrev DISP_FB_DATA_BYTES : Fld := ⟨DISP_FB_DATA, 31, 0⟩

/-- R420, 19_door_panel.md. -/
abbrev DISP_COMMIT : Nat := 0x07001c
abbrev DISP_COMMIT_GO : Fld := ⟨DISP_COMMIT, 31, 31⟩
abbrev DISP_COMMIT_BUSY : Fld := ⟨DISP_COMMIT, 30, 30⟩
abbrev DISP_COMMIT_HOLD : Fld := ⟨DISP_COMMIT, 29, 29⟩
abbrev DISP_COMMIT_STATUS : Fld := ⟨DISP_COMMIT, 25, 24⟩
abbrev DISP_COMMIT_REASON : Fld := ⟨DISP_COMMIT, 23, 16⟩
abbrev DISP_COMMIT_ID : Fld := ⟨DISP_COMMIT, 15, 8⟩

/-- R420, 19_door_panel.md. -/
abbrev DISP_DIRTY : Nat := 0x070020
abbrev DISP_DIRTY_ROWS : Fld := ⟨DISP_DIRTY, 15, 0⟩

/-- R420, 19_door_panel.md. -/
abbrev DISP_GAMMA_SEL : Nat := 0x070024
abbrev DISP_GAMMA_SEL_COLOUR : Fld := ⟨DISP_GAMMA_SEL, 9, 8⟩
abbrev DISP_GAMMA_SEL_INDEX : Fld := ⟨DISP_GAMMA_SEL, 7, 0⟩

/-- R420, 19_door_panel.md. -/
abbrev DISP_GAMMA_DATA : Nat := 0x070028
abbrev DISP_GAMMA_DATA_PWM : Fld := ⟨DISP_GAMMA_DATA, 11, 0⟩

/-- R420, 19_door_panel.md. -/
abbrev DISP_CURVE_SEL : Nat := 0x07002c
abbrev DISP_CURVE_SEL_COLOUR : Fld := ⟨DISP_CURVE_SEL, 6, 5⟩
abbrev DISP_CURVE_SEL_INDEX : Fld := ⟨DISP_CURVE_SEL, 4, 0⟩

/-- R420, 19_door_panel.md. -/
abbrev DISP_CURVE_DATA : Nat := 0x070030
abbrev DISP_CURVE_DATA_EFF : Fld := ⟨DISP_CURVE_DATA, 15, 0⟩

/-- R420, 19_door_panel.md. -/
abbrev DISP_CURVE_STEP (c : Nat) : Nat := 0x070034 + 0x4 * c
abbrev DISP_CURVE_STEP_STEP (c : Nat) : Fld := ⟨DISP_CURVE_STEP c, 31, 0⟩

/-- R420, 19_door_panel.md. -/
abbrev DISP_AGE_CFG : Nat := 0x070040
abbrev DISP_AGE_CFG_MAX_GAIN : Fld := ⟨DISP_AGE_CFG, 31, 16⟩
abbrev DISP_AGE_CFG_SENSE_K : Fld := ⟨DISP_AGE_CFG, 15, 0⟩

/-- R420, 19_door_panel.md. -/
abbrev DISP_SENSE_TC : Nat := 0x070044
abbrev DISP_SENSE_TC_BLUE : Fld := ⟨DISP_SENSE_TC, 23, 16⟩
abbrev DISP_SENSE_TC_GREEN : Fld := ⟨DISP_SENSE_TC, 15, 8⟩
abbrev DISP_SENSE_TC_RED : Fld := ⟨DISP_SENSE_TC, 7, 0⟩

/-- R420, 19_door_panel.md. -/
abbrev DISP_PIX_SEL : Nat := 0x070048
abbrev DISP_PIX_SEL_K : Fld := ⟨DISP_PIX_SEL, 10, 0⟩

/-- R420, 19_door_panel.md. -/
abbrev DISP_PIX_STRESS : Nat := 0x07004c
abbrev DISP_PIX_STRESS_S : Fld := ⟨DISP_PIX_STRESS, 31, 0⟩

/-- R420, 19_door_panel.md. -/
abbrev DISP_PIX_GAIN : Nat := 0x070050
abbrev DISP_PIX_GAIN_PWM : Fld := ⟨DISP_PIX_GAIN, 27, 16⟩
abbrev DISP_PIX_GAIN_GAIN : Fld := ⟨DISP_PIX_GAIN, 15, 0⟩

/-- R420, 19_door_panel.md. -/
abbrev DISP_PIX_VF : Nat := 0x070054
abbrev DISP_PIX_VF_VF25_MV : Fld := ⟨DISP_PIX_VF, 31, 16⟩
abbrev DISP_PIX_VF_VF0_MV : Fld := ⟨DISP_PIX_VF, 15, 0⟩

/-- R420, 19_door_panel.md. -/
abbrev DISP_STATS : Nat := 0x070058
abbrev DISP_STATS_SWEEPS : Fld := ⟨DISP_STATS, 31, 16⟩
abbrev DISP_STATS_CRACK_OPENS : Fld := ⟨DISP_STATS, 15, 8⟩
abbrev DISP_STATS_CLIPPED_PIX : Fld := ⟨DISP_STATS, 7, 0⟩

/-- R430, 20_last_word_strip.md. -/
abbrev DISP_STRIP_CFG : Nat := 0x070060
abbrev DISP_STRIP_CFG_PRESENT : Fld := ⟨DISP_STRIP_CFG, 31, 31⟩
abbrev DISP_STRIP_CFG_TEMP_SENSOR : Fld := ⟨DISP_STRIP_CFG, 20, 16⟩
abbrev DISP_STRIP_CFG_FALLBACK_BAND : Fld := ⟨DISP_STRIP_CFG, 10, 8⟩
abbrev DISP_STRIP_CFG_WAIT_S : Fld := ⟨DISP_STRIP_CFG, 7, 0⟩

/-- R430, 20_last_word_strip.md. -/
abbrev DISP_STRIP_IMAGE : Nat := 0x070064
abbrev DISP_STRIP_IMAGE_SEGS : Fld := ⟨DISP_STRIP_IMAGE, 23, 0⟩

/-- R430, 20_last_word_strip.md. -/
abbrev DISP_STRIP_LW : Nat := 0x070068
abbrev DISP_STRIP_LW_SEGS : Fld := ⟨DISP_STRIP_LW, 23, 0⟩

/-- R430, 20_last_word_strip.md. -/
abbrev DISP_STRIP_CMD : Nat := 0x07006c
abbrev DISP_STRIP_CMD_GO : Fld := ⟨DISP_STRIP_CMD, 31, 31⟩
abbrev DISP_STRIP_CMD_BUSY : Fld := ⟨DISP_STRIP_CMD, 30, 30⟩
abbrev DISP_STRIP_CMD_STATUS : Fld := ⟨DISP_STRIP_CMD, 25, 24⟩
abbrev DISP_STRIP_CMD_REASON : Fld := ⟨DISP_STRIP_CMD, 23, 16⟩
abbrev DISP_STRIP_CMD_ID : Fld := ⟨DISP_STRIP_CMD, 15, 8⟩

/-- R430, 20_last_word_strip.md. -/
abbrev DISP_STRIP_STATUS : Nat := 0x070070
abbrev DISP_STRIP_STATUS_STATE : Fld := ⟨DISP_STRIP_STATUS, 31, 28⟩
abbrev DISP_STRIP_STATUS_BAND : Fld := ⟨DISP_STRIP_STATUS, 26, 24⟩
abbrev DISP_STRIP_STATUS_WAVE_SUSPECT : Fld := ⟨DISP_STRIP_STATUS, 6, 6⟩
abbrev DISP_STRIP_STATUS_REPEAT_PENDING : Fld := ⟨DISP_STRIP_STATUS, 5, 5⟩
abbrev DISP_STRIP_STATUS_RANGE_CLAMP : Fld := ⟨DISP_STRIP_STATUS, 4, 4⟩
abbrev DISP_STRIP_STATUS_SENSOR_FALLBACK : Fld := ⟨DISP_STRIP_STATUS, 3, 3⟩
abbrev DISP_STRIP_STATUS_VEP_OK : Fld := ⟨DISP_STRIP_STATUS, 2, 2⟩
abbrev DISP_STRIP_STATUS_SHOWN_VALID : Fld := ⟨DISP_STRIP_STATUS, 1, 1⟩

/-- R430, 20_last_word_strip.md. -/
abbrev DISP_STRIP_SHOWN : Nat := 0x070074
abbrev DISP_STRIP_SHOWN_SEGS : Fld := ⟨DISP_STRIP_SHOWN, 23, 0⟩

/-! ### Gov registers -/

/-- R318, 13_governor_loops.md. -/
abbrev GOV_SLOT_CFG (s : Nat) : Nat := 0x100000 + 0x1000 * s
abbrev GOV_SLOT_CFG_PRESENT (s : Nat) : Fld := ⟨GOV_SLOT_CFG s, 31, 31⟩
abbrev GOV_SLOT_CFG_LAW (s : Nat) : Fld := ⟨GOV_SLOT_CFG s, 30, 30⟩
abbrev GOV_SLOT_CFG_NX_M1 (s : Nat) : Fld := ⟨GOV_SLOT_CFG s, 27, 24⟩
abbrev GOV_SLOT_CFG_NY_M1 (s : Nat) : Fld := ⟨GOV_SLOT_CFG s, 22, 20⟩
abbrev GOV_SLOT_CFG_NU_M1 (s : Nat) : Fld := ⟨GOV_SLOT_CFG s, 19, 18⟩
abbrev GOV_SLOT_CFG_NR_M1 (s : Nat) : Fld := ⟨GOV_SLOT_CFG s, 17, 16⟩
abbrev GOV_SLOT_CFG_NI (s : Nat) : Fld := ⟨GOV_SLOT_CFG s, 14, 12⟩
abbrev GOV_SLOT_CFG_NSEC_M1 (s : Nat) : Fld := ⟨GOV_SLOT_CFG s, 10, 8⟩

/-- R318, 13_governor_loops.md. -/
abbrev GOV_PERIOD (s : Nat) : Nat := 0x100004 + 0x1000 * s
abbrev GOV_PERIOD_SLOW (s : Nat) : Fld := ⟨GOV_PERIOD s, 31, 31⟩
abbrev GOV_PERIOD_TICKS_SECONDS (s : Nat) : Fld := ⟨GOV_PERIOD s, 13, 0⟩

/-- R318, 13_governor_loops.md. -/
abbrev GOV_SLOT_MODE (s : Nat) : Nat := 0x100008 + 0x1000 * s
abbrev GOV_SLOT_MODE_KEY (s : Nat) : Fld := ⟨GOV_SLOT_MODE s, 31, 16⟩
abbrev GOV_SLOT_MODE_MODE (s : Nat) : Fld := ⟨GOV_SLOT_MODE s, 3, 0⟩

/-- R318, 13_governor_loops.md. -/
abbrev GOV_SLOT_STATUS (s : Nat) : Nat := 0x10000c + 0x1000 * s
abbrev GOV_SLOT_STATUS_MODE (s : Nat) : Fld := ⟨GOV_SLOT_STATUS s, 31, 28⟩
abbrev GOV_SLOT_STATUS_LAST_STATUS (s : Nat) : Fld := ⟨GOV_SLOT_STATUS s, 27, 26⟩
abbrev GOV_SLOT_STATUS_ARITH_SAT (s : Nat) : Fld := ⟨GOV_SLOT_STATUS s, 25, 25⟩
abbrev GOV_SLOT_STATUS_PENDING (s : Nat) : Fld := ⟨GOV_SLOT_STATUS s, 24, 24⟩
abbrev GOV_SLOT_STATUS_LAST_REASON (s : Nat) : Fld := ⟨GOV_SLOT_STATUS s, 23, 16⟩
abbrev GOV_SLOT_STATUS_FRESH (s : Nat) : Fld := ⟨GOV_SLOT_STATUS s, 15, 8⟩
abbrev GOV_SLOT_STATUS_EXIT_RUN (s : Nat) : Fld := ⟨GOV_SLOT_STATUS s, 7, 0⟩

/-- R318, 13_governor_loops.md. -/
abbrev GOV_START_CFG (s : Nat) : Nat := 0x100010 + 0x1000 * s
abbrev GOV_START_CFG_AUTO (s : Nat) : Fld := ⟨GOV_START_CFG s, 31, 31⟩
abbrev GOV_START_CFG_TEST_MIN (s : Nat) : Fld := ⟨GOV_START_CFG s, 30, 24⟩
abbrev GOV_START_CFG_EXIT_SAMPLES (s : Nat) : Fld := ⟨GOV_START_CFG s, 23, 16⟩
abbrev GOV_START_CFG_BAND (s : Nat) : Fld := ⟨GOV_START_CFG s, 15, 0⟩

/-- R318, 13_governor_loops.md. -/
abbrev GOV_REF_SRC (s : Nat) : Nat := 0x100014 + 0x1000 * s
abbrev GOV_REF_SRC_FROM_SLOT_0 (s : Nat) : Fld := ⟨GOV_REF_SRC s, 7, 7⟩
abbrev GOV_REF_SRC_SLOT_0 (s : Nat) : Fld := ⟨GOV_REF_SRC s, 6, 3⟩
abbrev GOV_REF_SRC_ACT_0 (s : Nat) : Fld := ⟨GOV_REF_SRC s, 2, 1⟩
abbrev GOV_REF_SRC_FROM_SLOT_1 (s : Nat) : Fld := ⟨GOV_REF_SRC s, 15, 15⟩
abbrev GOV_REF_SRC_SLOT_1 (s : Nat) : Fld := ⟨GOV_REF_SRC s, 14, 11⟩
abbrev GOV_REF_SRC_ACT_1 (s : Nat) : Fld := ⟨GOV_REF_SRC s, 10, 9⟩
abbrev GOV_REF_SRC_FROM_SLOT_2 (s : Nat) : Fld := ⟨GOV_REF_SRC s, 23, 23⟩
abbrev GOV_REF_SRC_SLOT_2 (s : Nat) : Fld := ⟨GOV_REF_SRC s, 22, 19⟩
abbrev GOV_REF_SRC_ACT_2 (s : Nat) : Fld := ⟨GOV_REF_SRC s, 18, 17⟩
abbrev GOV_REF_SRC_FROM_SLOT_3 (s : Nat) : Fld := ⟨GOV_REF_SRC s, 31, 31⟩
abbrev GOV_REF_SRC_SLOT_3 (s : Nat) : Fld := ⟨GOV_REF_SRC s, 30, 27⟩
abbrev GOV_REF_SRC_ACT_3 (s : Nat) : Fld := ⟨GOV_REF_SRC s, 26, 25⟩

/-- R318, 13_governor_loops.md. -/
abbrev GOV_ACT_STATUS (s : Nat) : Nat := 0x100018 + 0x1000 * s
abbrev GOV_ACT_STATUS_OVERRIDE_0 (s : Nat) : Fld := ⟨GOV_ACT_STATUS s, 7, 7⟩
abbrev GOV_ACT_STATUS_SAT_HI_0 (s : Nat) : Fld := ⟨GOV_ACT_STATUS s, 6, 6⟩
abbrev GOV_ACT_STATUS_SAT_LO_0 (s : Nat) : Fld := ⟨GOV_ACT_STATUS s, 5, 5⟩
abbrev GOV_ACT_STATUS_RATE_LIM_0 (s : Nat) : Fld := ⟨GOV_ACT_STATUS s, 4, 4⟩
abbrev GOV_ACT_STATUS_OVERRIDE_1 (s : Nat) : Fld := ⟨GOV_ACT_STATUS s, 15, 15⟩
abbrev GOV_ACT_STATUS_SAT_HI_1 (s : Nat) : Fld := ⟨GOV_ACT_STATUS s, 14, 14⟩
abbrev GOV_ACT_STATUS_SAT_LO_1 (s : Nat) : Fld := ⟨GOV_ACT_STATUS s, 13, 13⟩
abbrev GOV_ACT_STATUS_RATE_LIM_1 (s : Nat) : Fld := ⟨GOV_ACT_STATUS s, 12, 12⟩
abbrev GOV_ACT_STATUS_OVERRIDE_2 (s : Nat) : Fld := ⟨GOV_ACT_STATUS s, 23, 23⟩
abbrev GOV_ACT_STATUS_SAT_HI_2 (s : Nat) : Fld := ⟨GOV_ACT_STATUS s, 22, 22⟩
abbrev GOV_ACT_STATUS_SAT_LO_2 (s : Nat) : Fld := ⟨GOV_ACT_STATUS s, 21, 21⟩
abbrev GOV_ACT_STATUS_RATE_LIM_2 (s : Nat) : Fld := ⟨GOV_ACT_STATUS s, 20, 20⟩
abbrev GOV_ACT_STATUS_OVERRIDE_3 (s : Nat) : Fld := ⟨GOV_ACT_STATUS s, 31, 31⟩
abbrev GOV_ACT_STATUS_SAT_HI_3 (s : Nat) : Fld := ⟨GOV_ACT_STATUS s, 30, 30⟩
abbrev GOV_ACT_STATUS_SAT_LO_3 (s : Nat) : Fld := ⟨GOV_ACT_STATUS s, 29, 29⟩
abbrev GOV_ACT_STATUS_RATE_LIM_3 (s : Nat) : Fld := ⟨GOV_ACT_STATUS s, 28, 28⟩

/-- R318, 13_governor_loops.md. -/
abbrev GOV_SAMPLE_STATS (s : Nat) : Nat := 0x10001c + 0x1000 * s
abbrev GOV_SAMPLE_STATS_SAMPLES (s : Nat) : Fld := ⟨GOV_SAMPLE_STATS s, 31, 16⟩
abbrev GOV_SAMPLE_STATS_NOT_DONE (s : Nat) : Fld := ⟨GOV_SAMPLE_STATS s, 15, 8⟩
abbrev GOV_SAMPLE_STATS_CMD_DROPS (s : Nat) : Fld := ⟨GOV_SAMPLE_STATS s, 7, 0⟩

/-- R318, 13_governor_loops.md. -/
abbrev GOV_IN_SRC (s j : Nat) : Nat := 0x100020 + 0x1000 * s + 0x4 * j
abbrev GOV_IN_SRC_CLASS (s j : Nat) : Fld := ⟨GOV_IN_SRC s j, 31, 28⟩
abbrev GOV_IN_SRC_REQ_FIRM (s j : Nat) : Fld := ⟨GOV_IN_SRC s j, 27, 27⟩
abbrev GOV_IN_SRC_INDEX (s j : Nat) : Fld := ⟨GOV_IN_SRC s j, 9, 0⟩

/-- R318, 13_governor_loops.md. -/
abbrev GOV_REF (s l : Nat) : Nat := 0x100040 + 0x1000 * s + 0x4 * l
abbrev GOV_REF_REF (s l : Nat) : Fld := ⟨GOV_REF s l, 31, 0⟩

/-- R318, 13_governor_loops.md. -/
abbrev GOV_ACT_CFG (s a : Nat) : Nat := 0x100050 + 0x1000 * s + 0x4 * a
abbrev GOV_ACT_CFG_TARGET (s a : Nat) : Fld := ⟨GOV_ACT_CFG s a, 31, 28⟩
abbrev GOV_ACT_CFG_INDEX (s a : Nat) : Fld := ⟨GOV_ACT_CFG s a, 7, 0⟩

/-- R318, 13_governor_loops.md. -/
abbrev GOV_XHAT_SEL (s : Nat) : Nat := 0x100060 + 0x1000 * s
abbrev GOV_XHAT_SEL_PRED (s : Nat) : Fld := ⟨GOV_XHAT_SEL s, 4, 4⟩
abbrev GOV_XHAT_SEL_INDEX (s : Nat) : Fld := ⟨GOV_XHAT_SEL s, 3, 0⟩

/-- R318, 13_governor_loops.md. -/
abbrev GOV_XHAT (s : Nat) : Nat := 0x100064 + 0x1000 * s
abbrev GOV_XHAT_VALUE (s : Nat) : Fld := ⟨GOV_XHAT s, 31, 0⟩

/-- R318, 13_governor_loops.md. -/
abbrev GOV_EPOCH_READ (s : Nat) : Nat := 0x100068 + 0x1000 * s
abbrev GOV_EPOCH_READ_EPOCH (s : Nat) : Fld := ⟨GOV_EPOCH_READ s, 31, 0⟩

/-- R340, 14_governor_changes_and_supervision.md. -/
abbrev GOV_COEF_EPOCH (s : Nat) : Nat := 0x10006c + 0x1000 * s
abbrev GOV_COEF_EPOCH_WORDS (s : Nat) : Fld := ⟨GOV_COEF_EPOCH s, 31, 16⟩
abbrev GOV_COEF_EPOCH_LATCHES (s : Nat) : Fld := ⟨GOV_COEF_EPOCH s, 15, 0⟩

/-- R340, 14_governor_changes_and_supervision.md. -/
abbrev GOV_SUP_STATUS (s : Nat) : Nat := 0x100070 + 0x1000 * s
abbrev GOV_SUP_STATUS_SUSPECT (s : Nat) : Fld := ⟨GOV_SUP_STATUS s, 31, 24⟩
abbrev GOV_SUP_STATUS_FELL_BACK (s : Nat) : Fld := ⟨GOV_SUP_STATUS s, 23, 16⟩
abbrev GOV_SUP_STATUS_ON_BACKUP (s : Nat) : Fld := ⟨GOV_SUP_STATUS s, 15, 8⟩
abbrev GOV_SUP_STATUS_ACTION (s : Nat) : Fld := ⟨GOV_SUP_STATUS s, 3, 2⟩
abbrev GOV_SUP_STATUS_CASCADE (s : Nat) : Fld := ⟨GOV_SUP_STATUS s, 1, 1⟩
abbrev GOV_SUP_STATUS_INFUSING (s : Nat) : Fld := ⟨GOV_SUP_STATUS s, 0, 0⟩

/-- R340, 14_governor_changes_and_supervision.md. -/
abbrev GOV_SUP_CAUSE (s : Nat) : Nat := 0x100074 + 0x1000 * s
abbrev GOV_SUP_CAUSE_STALE_0 (s : Nat) : Fld := ⟨GOV_SUP_CAUSE s, 2, 2⟩
abbrev GOV_SUP_CAUSE_FROZEN_0 (s : Nat) : Fld := ⟨GOV_SUP_CAUSE s, 1, 1⟩
abbrev GOV_SUP_CAUSE_IMPLAUS_0 (s : Nat) : Fld := ⟨GOV_SUP_CAUSE s, 0, 0⟩
abbrev GOV_SUP_CAUSE_STALE_1 (s : Nat) : Fld := ⟨GOV_SUP_CAUSE s, 6, 6⟩
abbrev GOV_SUP_CAUSE_FROZEN_1 (s : Nat) : Fld := ⟨GOV_SUP_CAUSE s, 5, 5⟩
abbrev GOV_SUP_CAUSE_IMPLAUS_1 (s : Nat) : Fld := ⟨GOV_SUP_CAUSE s, 4, 4⟩
abbrev GOV_SUP_CAUSE_STALE_2 (s : Nat) : Fld := ⟨GOV_SUP_CAUSE s, 10, 10⟩
abbrev GOV_SUP_CAUSE_FROZEN_2 (s : Nat) : Fld := ⟨GOV_SUP_CAUSE s, 9, 9⟩
abbrev GOV_SUP_CAUSE_IMPLAUS_2 (s : Nat) : Fld := ⟨GOV_SUP_CAUSE s, 8, 8⟩
abbrev GOV_SUP_CAUSE_STALE_3 (s : Nat) : Fld := ⟨GOV_SUP_CAUSE s, 14, 14⟩
abbrev GOV_SUP_CAUSE_FROZEN_3 (s : Nat) : Fld := ⟨GOV_SUP_CAUSE s, 13, 13⟩
abbrev GOV_SUP_CAUSE_IMPLAUS_3 (s : Nat) : Fld := ⟨GOV_SUP_CAUSE s, 12, 12⟩
abbrev GOV_SUP_CAUSE_STALE_4 (s : Nat) : Fld := ⟨GOV_SUP_CAUSE s, 18, 18⟩
abbrev GOV_SUP_CAUSE_FROZEN_4 (s : Nat) : Fld := ⟨GOV_SUP_CAUSE s, 17, 17⟩
abbrev GOV_SUP_CAUSE_IMPLAUS_4 (s : Nat) : Fld := ⟨GOV_SUP_CAUSE s, 16, 16⟩
abbrev GOV_SUP_CAUSE_STALE_5 (s : Nat) : Fld := ⟨GOV_SUP_CAUSE s, 22, 22⟩
abbrev GOV_SUP_CAUSE_FROZEN_5 (s : Nat) : Fld := ⟨GOV_SUP_CAUSE s, 21, 21⟩
abbrev GOV_SUP_CAUSE_IMPLAUS_5 (s : Nat) : Fld := ⟨GOV_SUP_CAUSE s, 20, 20⟩
abbrev GOV_SUP_CAUSE_STALE_6 (s : Nat) : Fld := ⟨GOV_SUP_CAUSE s, 26, 26⟩
abbrev GOV_SUP_CAUSE_FROZEN_6 (s : Nat) : Fld := ⟨GOV_SUP_CAUSE s, 25, 25⟩
abbrev GOV_SUP_CAUSE_IMPLAUS_6 (s : Nat) : Fld := ⟨GOV_SUP_CAUSE s, 24, 24⟩
abbrev GOV_SUP_CAUSE_STALE_7 (s : Nat) : Fld := ⟨GOV_SUP_CAUSE s, 30, 30⟩
abbrev GOV_SUP_CAUSE_FROZEN_7 (s : Nat) : Fld := ⟨GOV_SUP_CAUSE s, 29, 29⟩
abbrev GOV_SUP_CAUSE_IMPLAUS_7 (s : Nat) : Fld := ⟨GOV_SUP_CAUSE s, 28, 28⟩

/-- R340, 14_governor_changes_and_supervision.md. -/
abbrev GOV_TRANSFER_STATUS (s : Nat) : Nat := 0x100078 + 0x1000 * s
abbrev GOV_TRANSFER_STATUS_CLAMPED (s : Nat) : Fld := ⟨GOV_TRANSFER_STATUS s, 31, 31⟩
abbrev GOV_TRANSFER_STATUS_TRANSFERS (s : Nat) : Fld := ⟨GOV_TRANSFER_STATUS s, 15, 0⟩

/-- R340, 14_governor_changes_and_supervision.md. -/
abbrev GOV_SUP_STATS (s : Nat) : Nat := 0x10007c + 0x1000 * s
abbrev GOV_SUP_STATS_SUSPECTS (s : Nat) : Fld := ⟨GOV_SUP_STATS s, 31, 16⟩
abbrev GOV_SUP_STATS_FALLBACKS (s : Nat) : Fld := ⟨GOV_SUP_STATS s, 15, 0⟩

/-! ### Valve registers -/

/-- R360, 15_valve_banks.md. -/
abbrev VALVE_PROFILE (v : Nat) : Nat := 0x200000 + 0x400 * (v / 8) + 0x40 * (v % 8)
abbrev VALVE_PROFILE_DEFER_MS (v : Nat) : Fld := ⟨VALVE_PROFILE v, 31, 24⟩
abbrev VALVE_PROFILE_PEAK_T (v : Nat) : Fld := ⟨VALVE_PROFILE v, 23, 16⟩
abbrev VALVE_PROFILE_HOLD_I (v : Nat) : Fld := ⟨VALVE_PROFILE v, 15, 8⟩
abbrev VALVE_PROFILE_PEAK_I (v : Nat) : Fld := ⟨VALVE_PROFILE v, 7, 0⟩

/-- R360, 15_valve_banks.md. -/
abbrev VALVE_DETECT (v : Nat) : Nat := 0x200004 + 0x400 * (v / 8) + 0x40 * (v % 8)
abbrev VALVE_DETECT_MIN_US (v : Nat) : Fld := ⟨VALVE_DETECT v, 15, 8⟩
abbrev VALVE_DETECT_DIP_THR (v : Nat) : Fld := ⟨VALVE_DETECT v, 7, 0⟩

/-- R360, 15_valve_banks.md. -/
abbrev VALVE_CMD (v : Nat) : Nat := 0x200008 + 0x400 * (v / 8) + 0x40 * (v % 8)
abbrev VALVE_CMD_ID (v : Nat) : Fld := ⟨VALVE_CMD v, 31, 24⟩
abbrev VALVE_CMD_ACTION (v : Nat) : Fld := ⟨VALVE_CMD v, 23, 22⟩
abbrev VALVE_CMD_HOLD_MS (v : Nat) : Fld := ⟨VALVE_CMD v, 15, 0⟩

/-- R360, 15_valve_banks.md. -/
abbrev VALVE_STATUS (v : Nat) : Nat := 0x20000c + 0x400 * (v / 8) + 0x40 * (v % 8)
abbrev VALVE_STATUS_STATE (v : Nat) : Fld := ⟨VALVE_STATUS v, 31, 28⟩
abbrev VALVE_STATUS_ (v : Nat) : Fld := ⟨VALVE_STATUS v, 23, 16⟩
abbrev VALVE_STATUS_ITEM_ID (v : Nat) : Fld := ⟨VALVE_STATUS v, 15, 8⟩
abbrev VALVE_STATUS_MOTION (v : Nat) : Fld := ⟨VALVE_STATUS v, 7, 6⟩
abbrev VALVE_STATUS_PEAK_LOW (v : Nat) : Fld := ⟨VALVE_STATUS v, 5, 5⟩
abbrev VALVE_STATUS_CONT (v : Nat) : Fld := ⟨VALVE_STATUS v, 4, 4⟩

/-- R360, 15_valve_banks.md. -/
abbrev VALVE_MOTION (v : Nat) : Nat := 0x200010 + 0x400 * (v / 8) + 0x40 * (v % 8)
abbrev VALVE_MOTION_MOTION_US (v : Nat) : Fld := ⟨VALVE_MOTION v, 31, 16⟩
abbrev VALVE_MOTION_DIP_MA (v : Nat) : Fld := ⟨VALVE_MOTION v, 15, 0⟩

/-- R374, 16_valve_protection_and_faults.md. -/
abbrev VALVE_PROT (v : Nat) : Nat := 0x200014 + 0x400 * (v / 8) + 0x40 * (v % 8)
abbrev VALVE_PROT_WINDOW_S (v : Nat) : Fld := ⟨VALVE_PROT v, 31, 26⟩
abbrev VALVE_PROT_LIMIT (v : Nat) : Fld := ⟨VALVE_PROT v, 25, 18⟩
abbrev VALVE_PROT_DUTY_USED (v : Nat) : Fld := ⟨VALVE_PROT v, 17, 10⟩
abbrev VALVE_PROT_R_NOM (v : Nat) : Fld := ⟨VALVE_PROT v, 9, 0⟩

/-- R360, 15_valve_banks.md. -/
abbrev VALVE_BANK_CFG (b : Nat) : Nat := 0x200200 + 0x400 * b
abbrev VALVE_BANK_CFG_LINGER_MS (b : Nat) : Fld := ⟨VALVE_BANK_CFG b, 23, 16⟩
abbrev VALVE_BANK_CFG_PREARM_US (b : Nat) : Fld := ⟨VALVE_BANK_CFG b, 13, 8⟩
abbrev VALVE_BANK_CFG_CHOP_KHZ (b : Nat) : Fld := ⟨VALVE_BANK_CFG b, 5, 0⟩

/-- R360, 15_valve_banks.md. -/
abbrev VALVE_BANK_STATUS (b : Nat) : Nat := 0x200204 + 0x400 * b
abbrev VALVE_BANK_STATUS_HS_ON (b : Nat) : Fld := ⟨VALVE_BANK_STATUS b, 31, 31⟩
abbrev VALVE_BANK_STATUS_VBANK_OK (b : Nat) : Fld := ⟨VALVE_BANK_STATUS b, 30, 30⟩
abbrev VALVE_BANK_STATUS_PEAK_BUSY (b : Nat) : Fld := ⟨VALVE_BANK_STATUS b, 29, 29⟩
abbrev VALVE_BANK_STATUS_PEAK_CH (b : Nat) : Fld := ⟨VALVE_BANK_STATUS b, 26, 24⟩
abbrev VALVE_BANK_STATUS_DEFERRED (b : Nat) : Fld := ⟨VALVE_BANK_STATUS b, 23, 20⟩
abbrev VALVE_BANK_STATUS_SUM_MA (b : Nat) : Fld := ⟨VALVE_BANK_STATUS b, 15, 0⟩

/-- R360, 15_valve_banks.md. -/
abbrev VALVE_BANK_STATS (b : Nat) : Nat := 0x200208 + 0x400 * b
abbrev VALVE_BANK_STATS_DEFERRALS (b : Nat) : Fld := ⟨VALVE_BANK_STATS b, 31, 16⟩
abbrev VALVE_BANK_STATS_DEFER_FAILS (b : Nat) : Fld := ⟨VALVE_BANK_STATS b, 15, 8⟩
abbrev VALVE_BANK_STATS_PREARM_CANCELS (b : Nat) : Fld := ⟨VALVE_BANK_STATS b, 7, 0⟩

/-- R374, 16_valve_protection_and_faults.md. -/
abbrev VALVE_BANK_CTRL (b : Nat) : Nat := 0x20020c + 0x400 * b
abbrev VALVE_BANK_CTRL_KEY (b : Nat) : Fld := ⟨VALVE_BANK_CTRL b, 31, 16⟩
abbrev VALVE_BANK_CTRL_CH (b : Nat) : Fld := ⟨VALVE_BANK_CTRL b, 6, 4⟩
abbrev VALVE_BANK_CTRL_ACTION (b : Nat) : Fld := ⟨VALVE_BANK_CTRL b, 3, 0⟩

/-- R374, 16_valve_protection_and_faults.md. -/
abbrev VALVE_BANK_FAULT (b : Nat) : Nat := 0x200210 + 0x400 * b
abbrev VALVE_BANK_FAULT_BANK_DISABLED (b : Nat) : Fld := ⟨VALVE_BANK_FAULT b, 31, 31⟩
abbrev VALVE_BANK_FAULT_CUT (b : Nat) : Fld := ⟨VALVE_BANK_FAULT b, 30, 30⟩
abbrev VALVE_BANK_FAULT_DUTY_LIM (b : Nat) : Fld := ⟨VALVE_BANK_FAULT b, 23, 16⟩
abbrev VALVE_BANK_FAULT_DISABLED (b : Nat) : Fld := ⟨VALVE_BANK_FAULT b, 15, 8⟩
abbrev VALVE_BANK_FAULT_FAULTED (b : Nat) : Fld := ⟨VALVE_BANK_FAULT b, 7, 0⟩

/-- R374, 16_valve_protection_and_faults.md. -/
abbrev VALVE_CQ (b : Nat) : Nat := 0x200214 + 0x400 * b
abbrev VALVE_CQ_ID (b : Nat) : Fld := ⟨VALVE_CQ b, 31, 24⟩
abbrev VALVE_CQ_CH (b : Nat) : Fld := ⟨VALVE_CQ b, 23, 21⟩
abbrev VALVE_CQ_VALID (b : Nat) : Fld := ⟨VALVE_CQ b, 20, 20⟩
abbrev VALVE_CQ_STATUS (b : Nat) : Fld := ⟨VALVE_CQ b, 19, 18⟩
abbrev VALVE_CQ_REASON (b : Nat) : Fld := ⟨VALVE_CQ b, 15, 8⟩
abbrev VALVE_CQ_SEQ (b : Nat) : Fld := ⟨VALVE_CQ b, 7, 0⟩

/-- R374, 16_valve_protection_and_faults.md. -/
abbrev VALVE_CQ_CTRL (b : Nat) : Nat := 0x200218 + 0x400 * b
abbrev VALVE_CQ_CTRL_POP (b : Nat) : Fld := ⟨VALVE_CQ_CTRL b, 31, 31⟩
abbrev VALVE_CQ_CTRL_POP_SEQ (b : Nat) : Fld := ⟨VALVE_CQ_CTRL b, 23, 16⟩
abbrev VALVE_CQ_CTRL_LOST (b : Nat) : Fld := ⟨VALVE_CQ_CTRL b, 15, 8⟩
abbrev VALVE_CQ_CTRL_COUNT (b : Nat) : Fld := ⟨VALVE_CQ_CTRL b, 5, 0⟩

/-- R374, 16_valve_protection_and_faults.md. -/
abbrev VALVE_BANK_POWER (b : Nat) : Nat := 0x20021c + 0x400 * b
abbrev VALVE_BANK_POWER_AVG60_MW (b : Nat) : Fld := ⟨VALVE_BANK_POWER b, 31, 16⟩
abbrev VALVE_BANK_POWER_AVG1_MW (b : Nat) : Fld := ⟨VALVE_BANK_POWER b, 15, 0⟩

/-! ### Fan registers -/

/-- R388, 17_fans.md. -/
abbrev FAN_CFG (f : Nat) : Nat := 0x280000 + 0x40 * f
abbrev FAN_CFG_MODE (f : Nat) : Fld := ⟨FAN_CFG f, 31, 30⟩
abbrev FAN_CFG_REVERSE (f : Nat) : Fld := ⟨FAN_CFG f, 29, 29⟩
abbrev FAN_CFG_WDOG_FORCE (f : Nat) : Fld := ⟨FAN_CFG f, 28, 28⟩
abbrev FAN_CFG_PPR (f : Nat) : Fld := ⟨FAN_CFG f, 27, 26⟩
abbrev FAN_CFG_TACH_FILT (f : Nat) : Fld := ⟨FAN_CFG f, 25, 22⟩
abbrev FAN_CFG_FREQ_HZ (f : Nat) : Fld := ⟨FAN_CFG f, 21, 16⟩
abbrev FAN_CFG_INTERVAL (f : Nat) : Fld := ⟨FAN_CFG f, 13, 8⟩
abbrev FAN_CFG_RETRY_S (f : Nat) : Fld := ⟨FAN_CFG f, 7, 0⟩

/-- R388, 17_fans.md. -/
abbrev FAN_LOOP (f : Nat) : Nat := 0x280004 + 0x40 * f
abbrev FAN_LOOP_ENTRY (f : Nat) : Fld := ⟨FAN_LOOP f, 31, 22⟩
abbrev FAN_LOOP_STALE_S (f : Nat) : Fld := ⟨FAN_LOOP f, 21, 16⟩
abbrev FAN_LOOP_MIN_DUTY (f : Nat) : Fld := ⟨FAN_LOOP f, 15, 8⟩
abbrev FAN_LOOP_FIXED_DUTY (f : Nat) : Fld := ⟨FAN_LOOP f, 7, 0⟩

/-- R388, 17_fans.md. -/
abbrev FAN_SP (f : Nat) : Nat := 0x280008 + 0x40 * f
abbrev FAN_SP_SP (f : Nat) : Fld := ⟨FAN_SP f, 31, 0⟩

/-- R388, 17_fans.md. -/
abbrev FAN_KP (f : Nat) : Nat := 0x28000c + 0x40 * f
abbrev FAN_KP_KP (f : Nat) : Fld := ⟨FAN_KP f, 31, 0⟩

/-- R388, 17_fans.md. -/
abbrev FAN_KI (f : Nat) : Nat := 0x280010 + 0x40 * f
abbrev FAN_KI_KI (f : Nat) : Fld := ⟨FAN_KI f, 31, 0⟩

/-- R388, 17_fans.md. -/
abbrev FAN_STATUS (f : Nat) : Nat := 0x280014 + 0x40 * f
abbrev FAN_STATUS_STATE (f : Nat) : Fld := ⟨FAN_STATUS f, 31, 28⟩
abbrev FAN_STATUS_FORCE (f : Nat) : Fld := ⟨FAN_STATUS f, 27, 24⟩
abbrev FAN_STATUS_DUTY (f : Nat) : Fld := ⟨FAN_STATUS f, 23, 16⟩
abbrev FAN_STATUS_STALE (f : Nat) : Fld := ⟨FAN_STATUS f, 4, 4⟩
abbrev FAN_STATUS_SHORT_SEEN (f : Nat) : Fld := ⟨FAN_STATUS f, 3, 3⟩
abbrev FAN_STATUS_OPEN_SEEN (f : Nat) : Fld := ⟨FAN_STATUS f, 2, 2⟩
abbrev FAN_STATUS_TACH_LOST_SEEN (f : Nat) : Fld := ⟨FAN_STATUS f, 1, 1⟩
abbrev FAN_STATUS_STALL_SEEN (f : Nat) : Fld := ⟨FAN_STATUS f, 0, 0⟩

/-- R388, 17_fans.md. -/
abbrev FAN_SPEED (f : Nat) : Nat := 0x280018 + 0x40 * f
abbrev FAN_SPEED_RPM (f : Nat) : Fld := ⟨FAN_SPEED f, 31, 16⟩
abbrev FAN_SPEED_CURRENT_MA (f : Nat) : Fld := ⟨FAN_SPEED f, 15, 0⟩

/-- R388, 17_fans.md. -/
abbrev FAN_STATS (f : Nat) : Nat := 0x28001c + 0x40 * f
abbrev FAN_STATS_STALL_RETRIES (f : Nat) : Fld := ⟨FAN_STATS f, 31, 16⟩
abbrev FAN_STATS_STALLS (f : Nat) : Fld := ⟨FAN_STATS f, 15, 8⟩
abbrev FAN_STATS_TACH_LOSSES (f : Nat) : Fld := ⟨FAN_STATS f, 7, 0⟩

/-! ### Aio registers -/

/-- R215, 09_field_inputs_and_moisture.md. -/
abbrev AIO_AO_CFG (n : Nat) : Nat := 0x290000 + 0x40 * n
abbrev AIO_AO_CFG_MODE (n : Nat) : Fld := ⟨AIO_AO_CFG n, 31, 30⟩
abbrev AIO_AO_CFG_SAFE_CODE (n : Nat) : Fld := ⟨AIO_AO_CFG n, 15, 0⟩

/-- R215, 09_field_inputs_and_moisture.md. -/
abbrev AIO_AO_SCALE (n : Nat) : Nat := 0x290004 + 0x40 * n
abbrev AIO_AO_SCALE_SCALE (n : Nat) : Fld := ⟨AIO_AO_SCALE n, 31, 0⟩

/-- R215, 09_field_inputs_and_moisture.md. -/
abbrev AIO_AO_OFFSET (n : Nat) : Nat := 0x290008 + 0x40 * n
abbrev AIO_AO_OFFSET_OFFSET (n : Nat) : Fld := ⟨AIO_AO_OFFSET n, 31, 0⟩

/-- R215, 09_field_inputs_and_moisture.md. -/
abbrev AIO_AO_CODE (n : Nat) : Nat := 0x29000c + 0x40 * n
abbrev AIO_AO_CODE_SOURCE (n : Nat) : Fld := ⟨AIO_AO_CODE n, 31, 28⟩
abbrev AIO_AO_CODE_SLOT (n : Nat) : Fld := ⟨AIO_AO_CODE n, 19, 16⟩
abbrev AIO_AO_CODE_CODE (n : Nat) : Fld := ⟨AIO_AO_CODE n, 15, 0⟩

/-- R215, 09_field_inputs_and_moisture.md. -/
abbrev AIO_AO_READBACK (n : Nat) : Nat := 0x290010 + 0x40 * n
abbrev AIO_AO_READBACK_READBACK (n : Nat) : Fld := ⟨AIO_AO_READBACK n, 31, 0⟩

/-- R215, 09_field_inputs_and_moisture.md. -/
abbrev AIO_AO_STATUS (n : Nat) : Nat := 0x290014 + 0x40 * n
abbrev AIO_AO_STATUS_FAULT_COUNT (n : Nat) : Fld := ⟨AIO_AO_STATUS n, 31, 16⟩
abbrev AIO_AO_STATUS_OPEN_LOOP (n : Nat) : Fld := ⟨AIO_AO_STATUS n, 3, 3⟩
abbrev AIO_AO_STATUS_DEVIATION (n : Nat) : Fld := ⟨AIO_AO_STATUS n, 2, 2⟩
abbrev AIO_AO_STATUS_FAULT_SEEN (n : Nat) : Fld := ⟨AIO_AO_STATUS n, 1, 1⟩
abbrev AIO_AO_STATUS_SAFE (n : Nat) : Fld := ⟨AIO_AO_STATUS n, 0, 0⟩

/-- R215, 09_field_inputs_and_moisture.md. -/
abbrev AIO_PI_CFG (n : Nat) : Nat := 0x290200 + 0x40 * n
abbrev AIO_PI_CFG_ENABLE (n : Nat) : Fld := ⟨AIO_PI_CFG n, 31, 31⟩
abbrev AIO_PI_CFG_FALLING (n : Nat) : Fld := ⟨AIO_PI_CFG n, 30, 30⟩
abbrev AIO_PI_CFG_FILTER (n : Nat) : Fld := ⟨AIO_PI_CFG n, 23, 16⟩
abbrev AIO_PI_CFG_GATE (n : Nat) : Fld := ⟨AIO_PI_CFG n, 15, 8⟩
abbrev AIO_PI_CFG_TIMEOUT (n : Nat) : Fld := ⟨AIO_PI_CFG n, 7, 0⟩

/-- R215, 09_field_inputs_and_moisture.md. -/
abbrev AIO_PI_KFACTOR (n : Nat) : Nat := 0x290204 + 0x40 * n
abbrev AIO_PI_KFACTOR_K (n : Nat) : Fld := ⟨AIO_PI_KFACTOR n, 31, 0⟩

/-- R215, 09_field_inputs_and_moisture.md. -/
abbrev AIO_PI_RATE (n : Nat) : Nat := 0x290208 + 0x40 * n
abbrev AIO_PI_RATE_RATE (n : Nat) : Fld := ⟨AIO_PI_RATE n, 31, 0⟩

/-- R215, 09_field_inputs_and_moisture.md. -/
abbrev AIO_PI_COUNT (n : Nat) : Nat := 0x29020c + 0x40 * n
abbrev AIO_PI_COUNT_COUNT (n : Nat) : Fld := ⟨AIO_PI_COUNT n, 31, 0⟩

/-- R215, 09_field_inputs_and_moisture.md. -/
abbrev AIO_PI_LAST_EDGE (n : Nat) : Nat := 0x290210 + 0x40 * n
abbrev AIO_PI_LAST_EDGE_STAMP_US (n : Nat) : Fld := ⟨AIO_PI_LAST_EDGE n, 31, 0⟩

/-- R215, 09_field_inputs_and_moisture.md. -/
abbrev AIO_PI_STATUS (n : Nat) : Nat := 0x290214 + 0x40 * n
abbrev AIO_PI_STATUS_GLITCHES (n : Nat) : Fld := ⟨AIO_PI_STATUS n, 31, 16⟩
abbrev AIO_PI_STATUS_STOPPED (n : Nat) : Fld := ⟨AIO_PI_STATUS n, 2, 2⟩
abbrev AIO_PI_STATUS_OVERRATE (n : Nat) : Fld := ⟨AIO_PI_STATUS n, 1, 1⟩

/-! ### Sprin registers -/

/-- R196, 08_sprinline_bus.md. -/
abbrev SPRIN_CFG (p : Nat) : Nat := 0x300000 + 0x200 * p
abbrev SPRIN_CFG_ENABLE (p : Nat) : Fld := ⟨SPRIN_CFG p, 31, 31⟩
abbrev SPRIN_CFG_TERM (p : Nat) : Fld := ⟨SPRIN_CFG p, 30, 30⟩
abbrev SPRIN_CFG_ENUM_SCAN (p : Nat) : Fld := ⟨SPRIN_CFG p, 23, 16⟩
abbrev SPRIN_CFG_ALARM_CALLS (p : Nat) : Fld := ⟨SPRIN_CFG p, 11, 10⟩
abbrev SPRIN_CFG_PERIOD_MS (p : Nat) : Fld := ⟨SPRIN_CFG p, 9, 0⟩

/-- R196, 08_sprinline_bus.md. -/
abbrev SPRIN_PWR_CFG (p : Nat) : Nat := 0x300004 + 0x200 * p
abbrev SPRIN_PWR_CFG_RETRY_S (p : Nat) : Fld := ⟨SPRIN_PWR_CFG p, 15, 8⟩
abbrev SPRIN_PWR_CFG_BOOT_MS (p : Nat) : Fld := ⟨SPRIN_PWR_CFG p, 7, 0⟩

/-- R196, 08_sprinline_bus.md. -/
abbrev SPRIN_STATUS (p : Nat) : Nat := 0x300008 + 0x200 * p
abbrev SPRIN_STATUS_STATE (p : Nat) : Fld := ⟨SPRIN_STATUS p, 31, 28⟩
abbrev SPRIN_STATUS_PRESENT (p : Nat) : Fld := ⟨SPRIN_STATUS p, 23, 16⟩
abbrev SPRIN_STATUS_MISSING (p : Nat) : Fld := ⟨SPRIN_STATUS p, 15, 8⟩
abbrev SPRIN_STATUS_NEW_NODE (p : Nat) : Fld := ⟨SPRIN_STATUS p, 3, 3⟩
abbrev SPRIN_STATUS_ALARM (p : Nat) : Fld := ⟨SPRIN_STATUS p, 2, 2⟩
abbrev SPRIN_STATUS_TRIP (p : Nat) : Fld := ⟨SPRIN_STATUS p, 1, 1⟩
abbrev SPRIN_STATUS_OVERRUN (p : Nat) : Fld := ⟨SPRIN_STATUS p, 0, 0⟩

/-- R196, 08_sprinline_bus.md. -/
abbrev SPRIN_CMD (p : Nat) : Nat := 0x30000c + 0x200 * p
abbrev SPRIN_CMD_KEY (p : Nat) : Fld := ⟨SPRIN_CMD p, 31, 16⟩
abbrev SPRIN_CMD_ACTION (p : Nat) : Fld := ⟨SPRIN_CMD p, 11, 8⟩
abbrev SPRIN_CMD_ADDR (p : Nat) : Fld := ⟨SPRIN_CMD p, 7, 0⟩

/-- R196, 08_sprinline_bus.md. -/
abbrev SPRIN_NCMD (p : Nat) : Nat := 0x300010 + 0x200 * p
abbrev SPRIN_NCMD_GO (p : Nat) : Fld := ⟨SPRIN_NCMD p, 31, 31⟩
abbrev SPRIN_NCMD_BUSY (p : Nat) : Fld := ⟨SPRIN_NCMD p, 30, 30⟩
abbrev SPRIN_NCMD_ARG_LEN (p : Nat) : Fld := ⟨SPRIN_NCMD p, 26, 24⟩
abbrev SPRIN_NCMD_ARG0 (p : Nat) : Fld := ⟨SPRIN_NCMD p, 23, 16⟩
abbrev SPRIN_NCMD_CODE (p : Nat) : Fld := ⟨SPRIN_NCMD p, 15, 8⟩
abbrev SPRIN_NCMD_ADDR (p : Nat) : Fld := ⟨SPRIN_NCMD p, 7, 0⟩

/-- R196, 08_sprinline_bus.md. -/
abbrev SPRIN_NARG (p : Nat) : Nat := 0x300014 + 0x200 * p
abbrev SPRIN_NARG_ARGS (p : Nat) : Fld := ⟨SPRIN_NARG p, 31, 0⟩

/-- R196, 08_sprinline_bus.md. -/
abbrev SPRIN_NRESULT (p : Nat) : Nat := 0x300018 + 0x200 * p
abbrev SPRIN_NRESULT_RESULT (p : Nat) : Fld := ⟨SPRIN_NRESULT p, 23, 16⟩
abbrev SPRIN_NRESULT_ITEM_STATUS (p : Nat) : Fld := ⟨SPRIN_NRESULT p, 15, 8⟩
abbrev SPRIN_NRESULT_REASON (p : Nat) : Fld := ⟨SPRIN_NRESULT p, 7, 0⟩

/-- R196, 08_sprinline_bus.md. -/
abbrev SPRIN_NDATA (p : Nat) : Nat := 0x30001c + 0x200 * p
abbrev SPRIN_NDATA_DATA (p : Nat) : Fld := ⟨SPRIN_NDATA p, 31, 0⟩

/-- R196, 08_sprinline_bus.md. -/
abbrev SPRIN_ERR (p : Nat) : Nat := 0x300020 + 0x200 * p
abbrev SPRIN_ERR_CRC (p : Nat) : Fld := ⟨SPRIN_ERR p, 31, 24⟩
abbrev SPRIN_ERR_TIMEOUT (p : Nat) : Fld := ⟨SPRIN_ERR p, 23, 16⟩
abbrev SPRIN_ERR_FRAMING (p : Nat) : Fld := ⟨SPRIN_ERR p, 15, 8⟩
abbrev SPRIN_ERR_OTHER (p : Nat) : Fld := ⟨SPRIN_ERR p, 7, 0⟩

/-- R196, 08_sprinline_bus.md. -/
abbrev SPRIN_STATS (p : Nat) : Nat := 0x300024 + 0x200 * p
abbrev SPRIN_STATS_ALARMS (p : Nat) : Fld := ⟨SPRIN_STATS p, 31, 16⟩
abbrev SPRIN_STATS_LATE_POLLS (p : Nat) : Fld := ⟨SPRIN_STATS p, 15, 0⟩

/-- R196, 08_sprinline_bus.md. -/
abbrev SPRIN_PWR_STATUS (p : Nat) : Nat := 0x300028 + 0x200 * p
abbrev SPRIN_PWR_STATUS_TRIP_COUNT (p : Nat) : Fld := ⟨SPRIN_PWR_STATUS p, 31, 16⟩
abbrev SPRIN_PWR_STATUS_CURRENT_MA (p : Nat) : Fld := ⟨SPRIN_PWR_STATUS p, 9, 0⟩

/-- R196, 08_sprinline_bus.md. -/
abbrev SPRIN_CYCLE_STATUS (p : Nat) : Nat := 0x30002c + 0x200 * p
abbrev SPRIN_CYCLE_STATUS_CYCLE (p : Nat) : Fld := ⟨SPRIN_CYCLE_STATUS p, 31, 16⟩
abbrev SPRIN_CYCLE_STATUS_LAST_CYCLE_US (p : Nat) : Fld := ⟨SPRIN_CYCLE_STATUS p, 15, 0⟩

/-! ### Field registers -/

/-- R215, 09_field_inputs_and_moisture.md. -/
abbrev FIELD_CFG (i : Nat) : Nat := 0x340000 + 0x80 * i
abbrev FIELD_CFG_MODE (i : Nat) : Fld := ⟨FIELD_CFG i, 31, 28⟩
abbrev FIELD_CFG_RATE (i : Nat) : Fld := ⟨FIELD_CFG i, 26, 24⟩
abbrev FIELD_CFG_DIEL_SHOW (i : Nat) : Fld := ⟨FIELD_CFG i, 23, 22⟩
abbrev FIELD_CFG_CROP (i : Nat) : Fld := ⟨FIELD_CFG i, 21, 17⟩
abbrev FIELD_CFG_TEMP_EN (i : Nat) : Fld := ⟨FIELD_CFG i, 10, 10⟩
abbrev FIELD_CFG_TEMP_ENTRY (i : Nat) : Fld := ⟨FIELD_CFG i, 9, 0⟩

/-- R215, 09_field_inputs_and_moisture.md. -/
abbrev FIELD_SCALE (i : Nat) : Nat := 0x340004 + 0x80 * i
abbrev FIELD_SCALE_SCALE (i : Nat) : Fld := ⟨FIELD_SCALE i, 31, 0⟩

/-- R215, 09_field_inputs_and_moisture.md. -/
abbrev FIELD_OFFSET (i : Nat) : Nat := 0x340008 + 0x80 * i
abbrev FIELD_OFFSET_OFFSET (i : Nat) : Fld := ⟨FIELD_OFFSET i, 31, 0⟩

/-- R215, 09_field_inputs_and_moisture.md. -/
abbrev FIELD_STATUS (i : Nat) : Nat := 0x34000c + 0x80 * i
abbrev FIELD_STATUS_SAMPLES (i : Nat) : Fld := ⟨FIELD_STATUS i, 31, 16⟩
abbrev FIELD_STATUS_FENCED (i : Nat) : Fld := ⟨FIELD_STATUS i, 7, 7⟩
abbrev FIELD_STATUS_TESTING (i : Nat) : Fld := ⟨FIELD_STATUS i, 6, 6⟩
abbrev FIELD_STATUS_SETTLING (i : Nat) : Fld := ⟨FIELD_STATUS i, 5, 5⟩
abbrev FIELD_STATUS_TEMP_DEFAULT (i : Nat) : Fld := ⟨FIELD_STATUS i, 4, 4⟩
abbrev FIELD_STATUS_OVERLOAD (i : Nat) : Fld := ⟨FIELD_STATUS i, 3, 3⟩
abbrev FIELD_STATUS_OVERRANGE (i : Nat) : Fld := ⟨FIELD_STATUS i, 2, 2⟩
abbrev FIELD_STATUS_BROKEN_SEEN (i : Nat) : Fld := ⟨FIELD_STATUS i, 1, 1⟩
abbrev FIELD_STATUS_BROKEN (i : Nat) : Fld := ⟨FIELD_STATUS i, 0, 0⟩

/-- R215, 09_field_inputs_and_moisture.md. -/
abbrev FIELD_RAW (i : Nat) : Nat := 0x340010 + 0x80 * i
abbrev FIELD_RAW_RAW (i : Nat) : Fld := ⟨FIELD_RAW i, 31, 0⟩

/-- R215, 09_field_inputs_and_moisture.md. -/
abbrev FIELD_VALUE (i : Nat) : Nat := 0x340014 + 0x80 * i
abbrev FIELD_VALUE_VALUE (i : Nat) : Fld := ⟨FIELD_VALUE i, 31, 0⟩

/-- R215, 09_field_inputs_and_moisture.md. -/
abbrev FIELD_AUX (i : Nat) : Nat := 0x340018 + 0x80 * i
abbrev FIELD_AUX_AUX (i : Nat) : Fld := ⟨FIELD_AUX i, 31, 0⟩

/-- R215, 09_field_inputs_and_moisture.md. -/
abbrev FIELD_STAMP (i : Nat) : Nat := 0x34001c + 0x80 * i
abbrev FIELD_STAMP_STAMP_US (i : Nat) : Fld := ⟨FIELD_STAMP i, 31, 0⟩

/-! ### Mill registers -/

/-- R244, 10_millstone_model.md. -/
abbrev MILL_BODY_CFG (k : Nat) : Nat := 0x400000 + 0x4000 * k
abbrev MILL_BODY_CFG_PRESENT (k : Nat) : Fld := ⟨MILL_BODY_CFG k, 31, 31⟩
abbrev MILL_BODY_CFG_TYPE (k : Nat) : Fld := ⟨MILL_BODY_CFG k, 30, 29⟩
abbrev MILL_BODY_CFG_DEFAULT_CROP (k : Nat) : Fld := ⟨MILL_BODY_CFG k, 28, 24⟩
abbrev MILL_BODY_CFG_STEP_S (k : Nat) : Fld := ⟨MILL_BODY_CFG k, 5, 0⟩

/-- R244, 10_millstone_model.md. -/
abbrev MILL_GRID_DIM (k : Nat) : Nat := 0x400004 + 0x4000 * k
abbrev MILL_GRID_DIM_NZ_M1 (k : Nat) : Fld := ⟨MILL_GRID_DIM k, 30, 20⟩
abbrev MILL_GRID_DIM_N2_M1 (k : Nat) : Fld := ⟨MILL_GRID_DIM k, 19, 10⟩
abbrev MILL_GRID_DIM_N1_M1 (k : Nat) : Fld := ⟨MILL_GRID_DIM k, 9, 0⟩

/-- R244, 10_millstone_model.md. -/
abbrev MILL_GRID_EDGE (k : Nat) : Nat := 0x400008 + 0x4000 * k
abbrev MILL_GRID_EDGE_E1_MM (k : Nat) : Fld := ⟨MILL_GRID_EDGE k, 29, 20⟩
abbrev MILL_GRID_EDGE_E2_MM (k : Nat) : Fld := ⟨MILL_GRID_EDGE k, 19, 10⟩
abbrev MILL_GRID_EDGE_EZ_MM (k : Nat) : Fld := ⟨MILL_GRID_EDGE k, 9, 0⟩

/-- R244, 10_millstone_model.md. -/
abbrev MILL_BODY_BASE (k : Nat) : Nat := 0x40000c + 0x4000 * k
abbrev MILL_BODY_BASE_BASE_256 (k : Nat) : Fld := ⟨MILL_BODY_BASE k, 16, 0⟩

/-- R244, 10_millstone_model.md. -/
abbrev MILL_BODY_CELLS (k : Nat) : Nat := 0x400010 + 0x4000 * k
abbrev MILL_BODY_CELLS_CELLS (k : Nat) : Fld := ⟨MILL_BODY_CELLS k, 24, 0⟩

/-- R244, 10_millstone_model.md. -/
abbrev MILL_BODY_ALLOC (k : Nat) : Nat := 0x400014 + 0x4000 * k
abbrev MILL_BODY_ALLOC_ALLOC_256 (k : Nat) : Fld := ⟨MILL_BODY_ALLOC k, 16, 0⟩

/-- R244, 10_millstone_model.md. -/
abbrev MILL_BODY_CTRL (k : Nat) : Nat := 0x400018 + 0x4000 * k
abbrev MILL_BODY_CTRL_KEY (k : Nat) : Fld := ⟨MILL_BODY_CTRL k, 31, 16⟩
abbrev MILL_BODY_CTRL_ACTION (k : Nat) : Fld := ⟨MILL_BODY_CTRL k, 3, 0⟩

/-- R244, 10_millstone_model.md. -/
abbrev MILL_BODY_STATUS (k : Nat) : Nat := 0x40001c + 0x4000 * k
abbrev MILL_BODY_STATUS_STATE (k : Nat) : Fld := ⟨MILL_BODY_STATUS k, 31, 28⟩
abbrev MILL_BODY_STATUS_LATE (k : Nat) : Fld := ⟨MILL_BODY_STATUS k, 24, 24⟩
abbrev MILL_BODY_STATUS_LAG_S (k : Nat) : Fld := ⟨MILL_BODY_STATUS k, 23, 16⟩
abbrev MILL_BODY_STATUS_LAST_STEP_MS (k : Nat) : Fld := ⟨MILL_BODY_STATUS k, 15, 0⟩

/-- R244, 10_millstone_model.md. -/
abbrev MILL_STEP_COUNT (k : Nat) : Nat := 0x400020 + 0x4000 * k
abbrev MILL_STEP_COUNT_STEPS (k : Nat) : Fld := ⟨MILL_STEP_COUNT k, 31, 0⟩

/-- R244, 10_millstone_model.md. -/
abbrev MILL_CELL_SEL (k : Nat) : Nat := 0x400024 + 0x4000 * k
abbrev MILL_CELL_SEL_INDEX (k : Nat) : Fld := ⟨MILL_CELL_SEL k, 24, 0⟩

/-- R244, 10_millstone_model.md. -/
abbrev MILL_CELL_W (k n : Nat) : Nat := 0x400028 + 0x4000 * k + 0x4 * n
abbrev MILL_CELL_W_WORD (k n : Nat) : Fld := ⟨MILL_CELL_W k n, 31, 0⟩

/-- R269, 11_millstone_physics.md. -/
abbrev MILL_MOVE_CFG (k : Nat) : Nat := 0x400038 + 0x4000 * k
abbrev MILL_MOVE_CFG_MODE (k : Nat) : Fld := ⟨MILL_MOVE_CFG k, 31, 30⟩
abbrev MILL_MOVE_CFG_INLET_M_ENTRY (k : Nat) : Fld := ⟨MILL_MOVE_CFG k, 29, 20⟩
abbrev MILL_MOVE_CFG_INLET_T_ENTRY (k : Nat) : Fld := ⟨MILL_MOVE_CFG k, 19, 10⟩
abbrev MILL_MOVE_CFG_CORE_RINGS (k : Nat) : Fld := ⟨MILL_MOVE_CFG k, 9, 0⟩

/-- R269, 11_millstone_physics.md. -/
abbrev MILL_MOVE_SRC (k : Nat) : Nat := 0x40003c + 0x4000 * k
abbrev MILL_MOVE_SRC_UNLOAD_EN (k : Nat) : Fld := ⟨MILL_MOVE_SRC k, 17, 17⟩
abbrev MILL_MOVE_SRC_FILL_EN (k : Nat) : Fld := ⟨MILL_MOVE_SRC k, 16, 16⟩
abbrev MILL_MOVE_SRC_UNLOAD_ENTRY (k : Nat) : Fld := ⟨MILL_MOVE_SRC k, 15, 8⟩
abbrev MILL_MOVE_SRC_FILL_ENTRY (k : Nat) : Fld := ⟨MILL_MOVE_SRC k, 7, 0⟩

/-- R269, 11_millstone_physics.md. -/
abbrev MILL_FILL_GAIN (k : Nat) : Nat := 0x400040 + 0x4000 * k
abbrev MILL_FILL_GAIN_GAIN (k : Nat) : Fld := ⟨MILL_FILL_GAIN k, 31, 0⟩

/-- R269, 11_millstone_physics.md. -/
abbrev MILL_UNLOAD_GAIN (k : Nat) : Nat := 0x400044 + 0x4000 * k
abbrev MILL_UNLOAD_GAIN_GAIN (k : Nat) : Fld := ⟨MILL_UNLOAD_GAIN k, 31, 0⟩

/-- R269, 11_millstone_physics.md. -/
abbrev MILL_MOVE_STATUS (k : Nat) : Nat := 0x400048 + 0x4000 * k
abbrev MILL_MOVE_STATUS_SURFACE (k : Nat) : Fld := ⟨MILL_MOVE_STATUS k, 31, 20⟩
abbrev MILL_MOVE_STATUS_OVERFILL (k : Nat) : Fld := ⟨MILL_MOVE_STATUS k, 17, 17⟩
abbrev MILL_MOVE_STATUS_UNDERRUN (k : Nat) : Fld := ⟨MILL_MOVE_STATUS k, 16, 16⟩
abbrev MILL_MOVE_STATUS_SHIFTS (k : Nat) : Fld := ⟨MILL_MOVE_STATUS k, 15, 0⟩

/-- R269, 11_millstone_physics.md. -/
abbrev MILL_AIR_STATUS (k : Nat) : Nat := 0x40004c + 0x4000 * k
abbrev MILL_AIR_STATUS_SOLVE_AGE_S (k : Nat) : Fld := ⟨MILL_AIR_STATUS k, 31, 24⟩
abbrev MILL_AIR_STATUS_PICARD (k : Nat) : Fld := ⟨MILL_AIR_STATUS k, 23, 20⟩
abbrev MILL_AIR_STATUS_VCYCLES (k : Nat) : Fld := ⟨MILL_AIR_STATUS k, 19, 15⟩
abbrev MILL_AIR_STATUS_UNCONVERGED (k : Nat) : Fld := ⟨MILL_AIR_STATUS k, 14, 14⟩
abbrev MILL_AIR_STATUS_SUBSTEPS (k : Nat) : Fld := ⟨MILL_AIR_STATUS k, 4, 0⟩

/-- R298, 12_millstone_assimilation.md. -/
abbrev MILL_RUN_CFG (k : Nat) : Nat := 0x400050 + 0x4000 * k
abbrev MILL_RUN_CFG_AGE_TAU_S (k : Nat) : Fld := ⟨MILL_RUN_CFG k, 31, 24⟩
abbrev MILL_RUN_CFG_RING_QUOTA (k : Nat) : Fld := ⟨MILL_RUN_CFG k, 23, 16⟩
abbrev MILL_RUN_CFG_SEED_WAIT_S (k : Nat) : Fld := ⟨MILL_RUN_CFG k, 15, 8⟩
abbrev MILL_RUN_CFG_LEAD_S (k : Nat) : Fld := ⟨MILL_RUN_CFG k, 6, 0⟩

/-- R298, 12_millstone_assimilation.md. -/
abbrev MILL_NOISE (k : Nat) : Nat := 0x400054 + 0x4000 * k
abbrev MILL_NOISE_QM_CODE (k : Nat) : Fld := ⟨MILL_NOISE k, 15, 8⟩
abbrev MILL_NOISE_QT_CODE (k : Nat) : Fld := ⟨MILL_NOISE k, 7, 0⟩

/-- R298, 12_millstone_assimilation.md. -/
abbrev MILL_RUN_STATUS (k : Nat) : Nat := 0x400058 + 0x4000 * k
abbrev MILL_RUN_STATUS_FIRM_LAG_S (k : Nat) : Fld := ⟨MILL_RUN_STATUS k, 31, 24⟩
abbrev MILL_RUN_STATUS_LEAD_EFF_S (k : Nat) : Fld := ⟨MILL_RUN_STATUS k, 23, 16⟩
abbrev MILL_RUN_STATUS_CHECKPOINTS (k : Nat) : Fld := ⟨MILL_RUN_STATUS k, 15, 8⟩
abbrev MILL_RUN_STATUS_COLD (k : Nat) : Fld := ⟨MILL_RUN_STATUS k, 3, 3⟩
abbrev MILL_RUN_STATUS_ROLLING (k : Nat) : Fld := ⟨MILL_RUN_STATUS k, 2, 2⟩
abbrev MILL_RUN_STATUS_FROM_SNAPSHOT (k : Nat) : Fld := ⟨MILL_RUN_STATUS k, 1, 1⟩
abbrev MILL_RUN_STATUS_PUBLISHED (k : Nat) : Fld := ⟨MILL_RUN_STATUS k, 0, 0⟩

/-- R298, 12_millstone_assimilation.md. -/
abbrev MILL_RB_STATS (k : Nat) : Nat := 0x40005c + 0x4000 * k
abbrev MILL_RB_STATS_ROLLBACKS (k : Nat) : Fld := ⟨MILL_RB_STATS k, 31, 16⟩
abbrev MILL_RB_STATS_LATE_AGED (k : Nat) : Fld := ⟨MILL_RB_STATS k, 15, 0⟩

/-- R245, 10_millstone_model.md. -/
abbrev MILL_STATUS : Nat := 0x440000
abbrev MILL_STATUS_QUADS : Fld := ⟨MILL_STATUS, 20, 16⟩
abbrev MILL_STATUS_BODIES : Fld := ⟨MILL_STATUS, 4, 0⟩

/-- R245, 10_millstone_model.md. -/
abbrev MILL_QUAD_STATUS : Nat := 0x440004
abbrev MILL_QUAD_STATUS_SPARE_FOR : Fld := ⟨MILL_QUAD_STATUS, 26, 22⟩
abbrev MILL_QUAD_STATUS_FENCED : Fld := ⟨MILL_QUAD_STATUS, 16, 0⟩

/-- R245, 10_millstone_model.md. -/
abbrev MILL_CELLS_USED : Nat := 0x440008
abbrev MILL_CELLS_USED_ALLOCATED : Fld := ⟨MILL_CELLS_USED, 24, 0⟩

/-- R245, 10_millstone_model.md. -/
abbrev MILL_LOAD : Nat := 0x44000c
abbrev MILL_LOAD_PLAN : Fld := ⟨MILL_LOAD, 31, 16⟩
abbrev MILL_LOAD_BUSY : Fld := ⟨MILL_LOAD, 15, 0⟩

/-- R245, 10_millstone_model.md. -/
abbrev MILL_CROP_VALID : Nat := 0x440010
abbrev MILL_CROP_VALID_VALID : Fld := ⟨MILL_CROP_VALID, 31, 0⟩

/-- R245, 10_millstone_model.md. -/
abbrev MILL_SCHED_STATS : Nat := 0x440014
abbrev MILL_SCHED_STATS_LATE_STEPS : Fld := ⟨MILL_SCHED_STATS, 31, 16⟩
abbrev MILL_SCHED_STATS_DEFERRED : Fld := ⟨MILL_SCHED_STATS, 15, 0⟩

/-- R245, 10_millstone_model.md. -/
abbrev MILL_CAPACITY : Nat := 0x440018
abbrev MILL_CAPACITY_KUPS : Fld := ⟨MILL_CAPACITY, 15, 0⟩

/-- R245, 10_millstone_model.md. -/
abbrev MILL_TILE_STATS : Nat := 0x44001c
abbrev MILL_TILE_STATS_TILE_RERUNS : Fld := ⟨MILL_TILE_STATS, 31, 16⟩
abbrev MILL_TILE_STATS_UNCORR_TILES : Fld := ⟨MILL_TILE_STATS, 15, 0⟩

/-- R269, 11_millstone_physics.md. -/
abbrev MILL_AMBIENT_SRC : Nat := 0x440020
abbrev MILL_AMBIENT_SRC_RH_ENTRY : Fld := ⟨MILL_AMBIENT_SRC, 19, 10⟩
abbrev MILL_AMBIENT_SRC_T_ENTRY : Fld := ⟨MILL_AMBIENT_SRC, 9, 0⟩

/-- R269, 11_millstone_physics.md. -/
abbrev MILL_AMBIENT_P : Nat := 0x440024
abbrev MILL_AMBIENT_P_P_AMB : Fld := ⟨MILL_AMBIENT_P, 31, 0⟩

/-- R269, 11_millstone_physics.md. -/
abbrev MILL_HV_COEF : Nat := 0x440028
abbrev MILL_HV_COEF_HV_COEF : Fld := ⟨MILL_HV_COEF, 31, 0⟩

/-- R269, 11_millstone_physics.md. -/
abbrev MILL_SOLVE_CFG : Nat := 0x44002c
abbrev MILL_SOLVE_CFG_FAN_DELTA : Fld := ⟨MILL_SOLVE_CFG, 23, 16⟩
abbrev MILL_SOLVE_CFG_DAMPER_DELTA : Fld := ⟨MILL_SOLVE_CFG, 15, 8⟩
abbrev MILL_SOLVE_CFG_PERIOD_S : Fld := ⟨MILL_SOLVE_CFG, 7, 0⟩

/-- R269, 11_millstone_physics.md. -/
abbrev MILL_SOLVE_STATS : Nat := 0x440030
abbrev MILL_SOLVE_STATS_SOLVES : Fld := ⟨MILL_SOLVE_STATS, 31, 16⟩
abbrev MILL_SOLVE_STATS_SUBST_LIMIT : Fld := ⟨MILL_SOLVE_STATS, 15, 0⟩

/-- R298, 12_millstone_assimilation.md. -/
abbrev MILL_SNAP_CFG : Nat := 0x440034
abbrev MILL_SNAP_CFG_ENABLE : Fld := ⟨MILL_SNAP_CFG, 31, 31⟩
abbrev MILL_SNAP_CFG_INTERVAL_H : Fld := ⟨MILL_SNAP_CFG, 7, 0⟩

/-- R298, 12_millstone_assimilation.md. -/
abbrev MILL_SNAP_STATUS : Nat := 0x440038
abbrev MILL_SNAP_STATUS_AREA_VALID : Fld := ⟨MILL_SNAP_STATUS, 31, 30⟩
abbrev MILL_SNAP_STATUS_LAST_AREA : Fld := ⟨MILL_SNAP_STATUS, 29, 29⟩
abbrev MILL_SNAP_STATUS_AGE_MIN : Fld := ⟨MILL_SNAP_STATUS, 15, 0⟩

/-- R298, 12_millstone_assimilation.md. -/
abbrev MILL_ASSIM_STATS : Nat := 0x44003c
abbrev MILL_ASSIM_STATS_GATED : Fld := ⟨MILL_ASSIM_STATS, 31, 16⟩
abbrev MILL_ASSIM_STATS_DISCARDED : Fld := ⟨MILL_ASSIM_STATS, 15, 0⟩

/-! ### Est registers -/

/-- R298, 12_millstone_assimilation.md. -/
abbrev MILL_EST_EPOCH : Nat := 0x484000
abbrev MILL_EST_EPOCH_EPOCH : Fld := ⟨MILL_EST_EPOCH, 31, 0⟩

/-- R298, 12_millstone_assimilation.md. -/
abbrev MILL_ACT_EPOCH : Nat := 0x484004
abbrev MILL_ACT_EPOCH_EPOCH : Fld := ⟨MILL_ACT_EPOCH, 31, 0⟩

/-- R298, 12_millstone_assimilation.md. -/
abbrev MILL_EST_COUNT : Nat := 0x484008
abbrev MILL_EST_COUNT_PROVISIONAL : Fld := ⟨MILL_EST_COUNT, 26, 16⟩
abbrev MILL_EST_COUNT_VALID : Fld := ⟨MILL_EST_COUNT, 10, 0⟩

/-- R298, 12_millstone_assimilation.md. -/
abbrev MILL_EST_PUBS : Nat := 0x48400c
abbrev MILL_EST_PUBS_PUBLICATIONS : Fld := ⟨MILL_EST_PUBS, 25, 16⟩
abbrev MILL_EST_PUBS_ACT_ENTRIES : Fld := ⟨MILL_EST_PUBS, 8, 0⟩

/-- R298, 12_millstone_assimilation.md. -/
abbrev MILL_FCST_CFG : Nat := 0x484010
abbrev MILL_FCST_CFG_RUN_PERIOD_S : Fld := ⟨MILL_FCST_CFG, 15, 8⟩
abbrev MILL_FCST_CFG_SPEED : Fld := ⟨MILL_FCST_CFG, 7, 0⟩

/-- R298, 12_millstone_assimilation.md. -/
abbrev MILL_FCST_STATUS : Nat := 0x484014
abbrev MILL_FCST_STATUS_RUNS : Fld := ⟨MILL_FCST_STATUS, 31, 16⟩
abbrev MILL_FCST_STATUS_LAST_RUN_MS : Fld := ⟨MILL_FCST_STATUS, 15, 0⟩

/-- R298, 12_millstone_assimilation.md. -/
abbrev MILL_EST_STATS : Nat := 0x484018
abbrev MILL_EST_STATS_HOLDOFFS : Fld := ⟨MILL_EST_STATS, 31, 16⟩
abbrev MILL_EST_STATS_COPY_OVERRIDES : Fld := ⟨MILL_EST_STATS, 15, 0⟩

/-- R298, 12_millstone_assimilation.md. -/
abbrev MILL_PROBE_STATUS : Nat := 0x48401c
abbrev MILL_PROBE_STATUS_PROBES : Fld := ⟨MILL_PROBE_STATUS, 26, 16⟩
abbrev MILL_PROBE_STATUS_FCST_DEFERRED : Fld := ⟨MILL_PROBE_STATUS, 15, 0⟩

/-! ### Cup registers -/

/-- R341, 14_governor_changes_and_supervision.md. -/
abbrev CUP_INF_CFG (s : Nat) : Nat := 0x500000 + 0x40 * s
abbrev CUP_INF_CFG_KIND (s : Nat) : Fld := ⟨CUP_INF_CFG s, 31, 30⟩
abbrev CUP_INF_CFG_TO_REF (s : Nat) : Fld := ⟨CUP_INF_CFG s, 29, 29⟩
abbrev CUP_INF_CFG_INDEX (s : Nat) : Fld := ⟨CUP_INF_CFG s, 28, 27⟩
abbrev CUP_INF_CFG_PRBS_LEN (s : Nat) : Fld := ⟨CUP_INF_CFG s, 26, 23⟩
abbrev CUP_INF_CFG_DWELL (s : Nat) : Fld := ⟨CUP_INF_CFG s, 15, 0⟩

/-- R341, 14_governor_changes_and_supervision.md. -/
abbrev CUP_INF_AMP (s : Nat) : Nat := 0x500004 + 0x40 * s
abbrev CUP_INF_AMP_AMP (s : Nat) : Fld := ⟨CUP_INF_AMP s, 31, 0⟩

/-- R341, 14_governor_changes_and_supervision.md. -/
abbrev CUP_INF_FREQ (s : Nat) : Nat := 0x500008 + 0x40 * s
abbrev CUP_INF_FREQ_F_START (s : Nat) : Fld := ⟨CUP_INF_FREQ s, 31, 16⟩
abbrev CUP_INF_FREQ_F_END_SEED (s : Nat) : Fld := ⟨CUP_INF_FREQ s, 15, 0⟩

/-- R341, 14_governor_changes_and_supervision.md. -/
abbrev CUP_INF_STATUS (s : Nat) : Nat := 0x50000c + 0x40 * s
abbrev CUP_INF_STATUS_ACTIVE (s : Nat) : Fld := ⟨CUP_INF_STATUS s, 31, 31⟩
abbrev CUP_INF_STATUS_DONE (s : Nat) : Fld := ⟨CUP_INF_STATUS s, 30, 30⟩
abbrev CUP_INF_STATUS_SAMPLES (s : Nat) : Fld := ⟨CUP_INF_STATUS s, 29, 0⟩

/-- R341, 14_governor_changes_and_supervision.md. -/
abbrev CUP_CTRL : Nat := 0x500400
abbrev CUP_CTRL_KEY : Fld := ⟨CUP_CTRL, 31, 16⟩
abbrev CUP_CTRL_ACTION : Fld := ⟨CUP_CTRL, 1, 0⟩

/-- R341, 14_governor_changes_and_supervision.md. -/
abbrev CUP_CFG : Nat := 0x500404
abbrev CUP_CFG_SLOTS : Fld := ⟨CUP_CFG, 31, 16⟩
abbrev CUP_CFG_WRAP : Fld := ⟨CUP_CFG, 2, 2⟩
abbrev CUP_CFG_TRIGGER : Fld := ⟨CUP_CFG, 1, 0⟩

/-- R341, 14_governor_changes_and_supervision.md. -/
abbrev CUP_SIGNALS : Nat := 0x500408
abbrev CUP_SIGNALS_GROUPS : Fld := ⟨CUP_SIGNALS, 5, 0⟩

/-- R341, 14_governor_changes_and_supervision.md. -/
abbrev CUP_STATUS : Nat := 0x50040c
abbrev CUP_STATUS_STATE : Fld := ⟨CUP_STATUS, 31, 28⟩

/-- R341, 14_governor_changes_and_supervision.md. -/
abbrev CUP_WRITE_PTR : Nat := 0x500410
abbrev CUP_WRITE_PTR_OFFSET : Fld := ⟨CUP_WRITE_PTR, 26, 0⟩

/-- R341, 14_governor_changes_and_supervision.md. -/
abbrev CUP_FIRST_PTR : Nat := 0x500414
abbrev CUP_FIRST_PTR_OFFSET : Fld := ⟨CUP_FIRST_PTR, 26, 0⟩

/-- R341, 14_governor_changes_and_supervision.md. -/
abbrev CUP_RECORDS : Nat := 0x500418
abbrev CUP_RECORDS_COUNT : Fld := ⟨CUP_RECORDS, 31, 0⟩

/-- R341, 14_governor_changes_and_supervision.md. -/
abbrev CUP_NEXT_SEQ : Nat := 0x50041c
abbrev CUP_NEXT_SEQ_SEQ : Fld := ⟨CUP_NEXT_SEQ, 31, 0⟩

/-- R341, 14_governor_changes_and_supervision.md. -/
abbrev CUP_FIRST_SEQ : Nat := 0x500420
abbrev CUP_FIRST_SEQ_SEQ : Fld := ⟨CUP_FIRST_SEQ, 31, 0⟩

/-- R341, 14_governor_changes_and_supervision.md. -/
abbrev CUP_STOP_AFTER : Nat := 0x500424
abbrev CUP_STOP_AFTER_RECORDS : Fld := ⟨CUP_STOP_AFTER, 31, 0⟩

/-- R341, 14_governor_changes_and_supervision.md. -/
abbrev CUP_AT_SEC_LO : Nat := 0x500428
abbrev CUP_AT_SEC_LO_SEC_LO : Fld := ⟨CUP_AT_SEC_LO, 31, 0⟩

/-- R341, 14_governor_changes_and_supervision.md. -/
abbrev CUP_AT_SEC_HI : Nat := 0x50042c
abbrev CUP_AT_SEC_HI_SEC_HI : Fld := ⟨CUP_AT_SEC_HI, 15, 0⟩

/-- R341, 14_governor_changes_and_supervision.md. -/
abbrev CUP_AT_NS : Nat := 0x500430
abbrev CUP_AT_NS_NS : Fld := ⟨CUP_AT_NS, 29, 0⟩

/-- R341, 14_governor_changes_and_supervision.md. -/
abbrev CUP_LIMIT : Nat := 0x500434
abbrev CUP_LIMIT_MIB : Fld := ⟨CUP_LIMIT, 7, 0⟩

/-- R341, 14_governor_changes_and_supervision.md. -/
abbrev CUP_WRAPS : Nat := 0x500438
abbrev CUP_WRAPS_COUNT : Fld := ⟨CUP_WRAPS, 31, 0⟩

/-- R341, 14_governor_changes_and_supervision.md. -/
abbrev CUP_LAST_STAMP : Nat := 0x50043c
abbrev CUP_LAST_STAMP_STAMP_US : Fld := ⟨CUP_LAST_STAMP, 31, 0⟩

/-! ### Rel registers -/

/-- R466, 22_availability_and_faults.md. -/
abbrev REL_STATUS : Nat := 0x600000
abbrev REL_STATUS_RECOVERY : Fld := ⟨REL_STATUS, 15, 12⟩
abbrev REL_STATUS_HOLD : Fld := ⟨REL_STATUS, 11, 11⟩
abbrev REL_STATUS_SINGLE_LANE : Fld := ⟨REL_STATUS, 10, 10⟩
abbrev REL_STATUS_BOTH_LOST : Fld := ⟨REL_STATUS, 9, 9⟩
abbrev REL_STATUS_DRAM_DEGRADED : Fld := ⟨REL_STATUS, 8, 8⟩
abbrev REL_STATUS_SPARE_QUAD_USED : Fld := ⟨REL_STATUS, 7, 7⟩
abbrev REL_STATUS_FENCED_SEEN : Fld := ⟨REL_STATUS, 1, 1⟩
abbrev REL_STATUS_BOOT_TEST_DONE : Fld := ⟨REL_STATUS, 0, 0⟩

/-- R466, 22_availability_and_faults.md. -/
abbrev REL_CFG : Nat := 0x600004
abbrev REL_CFG_REPEAT_H : Fld := ⟨REL_CFG, 23, 16⟩
abbrev REL_CFG_REPEAT_N : Fld := ⟨REL_CFG, 7, 0⟩

/-- R466, 22_availability_and_faults.md. -/
abbrev REL_LANE_STATUS : Nat := 0x600008
abbrev REL_LANE_STATUS_A_FENCED : Fld := ⟨REL_LANE_STATUS, 31, 31⟩
abbrev REL_LANE_STATUS_B_FENCED : Fld := ⟨REL_LANE_STATUS, 30, 30⟩
abbrev REL_LANE_STATUS_LAST_TILE : Fld := ⟨REL_LANE_STATUS, 27, 24⟩
abbrev REL_LANE_STATUS_MISMATCHES : Fld := ⟨REL_LANE_STATUS, 15, 0⟩

/-- R466, 22_availability_and_faults.md. -/
abbrev REL_LOCKSTEP_STATS : Nat := 0x60000c
abbrev REL_LOCKSTEP_STATS_TRANSIENTS : Fld := ⟨REL_LOCKSTEP_STATS, 31, 16⟩
abbrev REL_LOCKSTEP_STATS_PLACED : Fld := ⟨REL_LOCKSTEP_STATS, 15, 8⟩
abbrev REL_LOCKSTEP_STATS_LASTING : Fld := ⟨REL_LOCKSTEP_STATS, 7, 0⟩

/-- R466, 22_availability_and_faults.md. -/
abbrev REL_LAST_RECOVERY : Nat := 0x600010
abbrev REL_LAST_RECOVERY_OUTCOME : Fld := ⟨REL_LAST_RECOVERY, 31, 28⟩
abbrev REL_LAST_RECOVERY_TILE : Fld := ⟨REL_LAST_RECOVERY, 27, 24⟩
abbrev REL_LAST_RECOVERY_TIME_100NS : Fld := ⟨REL_LAST_RECOVERY, 15, 0⟩

/-- R466, 22_availability_and_faults.md. -/
abbrev REL_TEST_CMD : Nat := 0x600014
abbrev REL_TEST_CMD_KEY : Fld := ⟨REL_TEST_CMD, 31, 16⟩
abbrev REL_TEST_CMD_UNIT : Fld := ⟨REL_TEST_CMD, 15, 12⟩
abbrev REL_TEST_CMD_INDEX : Fld := ⟨REL_TEST_CMD, 11, 0⟩

/-- R466, 22_availability_and_faults.md. -/
abbrev REL_TEST_RESULT : Nat := 0x600018
abbrev REL_TEST_RESULT_STATE : Fld := ⟨REL_TEST_RESULT, 31, 30⟩
abbrev REL_TEST_RESULT_OUTCOME : Fld := ⟨REL_TEST_RESULT, 29, 28⟩
abbrev REL_TEST_RESULT_UNIT : Fld := ⟨REL_TEST_RESULT, 23, 20⟩
abbrev REL_TEST_RESULT_INDEX : Fld := ⟨REL_TEST_RESULT, 19, 8⟩

/-- R466, 22_availability_and_faults.md. -/
abbrev REL_SCRUB_CFG : Nat := 0x60001c
abbrev REL_SCRUB_CFG_ENABLE : Fld := ⟨REL_SCRUB_CFG, 31, 31⟩
abbrev REL_SCRUB_CFG_SCRUB_H : Fld := ⟨REL_SCRUB_CFG, 7, 0⟩

/-- R466, 22_availability_and_faults.md. -/
abbrev REL_SCRUB_STATUS : Nat := 0x600020
abbrev REL_SCRUB_STATUS_PASSES : Fld := ⟨REL_SCRUB_STATUS, 31, 16⟩
abbrev REL_SCRUB_STATUS_PROGRESS_PCT : Fld := ⟨REL_SCRUB_STATUS, 6, 0⟩

/-- R466, 22_availability_and_faults.md. -/
abbrev REL_ECC_COUNT : Nat := 0x600024
abbrev REL_ECC_COUNT_CORRECTED : Fld := ⟨REL_ECC_COUNT, 31, 8⟩
abbrev REL_ECC_COUNT_UNCORRECTED : Fld := ⟨REL_ECC_COUNT, 7, 0⟩

/-- R466, 22_availability_and_faults.md. -/
abbrev REL_ECC_LAST_LO : Nat := 0x600028
abbrev REL_ECC_LAST_LO_ADDR : Fld := ⟨REL_ECC_LAST_LO, 31, 0⟩

/-- R466, 22_availability_and_faults.md. -/
abbrev REL_ECC_LAST_HI : Nat := 0x60002c
abbrev REL_ECC_LAST_HI_UNCORR : Fld := ⟨REL_ECC_LAST_HI, 31, 31⟩
abbrev REL_ECC_LAST_HI_REGION : Fld := ⟨REL_ECC_LAST_HI, 30, 27⟩
abbrev REL_ECC_LAST_HI_ROW_ERRS : Fld := ⟨REL_ECC_LAST_HI, 15, 0⟩

/-- R466, 22_availability_and_faults.md. -/
abbrev REL_DRAM_SPARE : Nat := 0x600030
abbrev REL_DRAM_SPARE_HARD_REPAIRS : Fld := ⟨REL_DRAM_SPARE, 31, 24⟩
abbrev REL_DRAM_SPARE_SPARES_USED : Fld := ⟨REL_DRAM_SPARE, 15, 8⟩
abbrev REL_DRAM_SPARE_SPARES_FREE : Fld := ⟨REL_DRAM_SPARE, 7, 0⟩

/-- R466, 22_availability_and_faults.md. -/
abbrev REL_SRAM_REPAIR : Nat := 0x600034
abbrev REL_SRAM_REPAIR_ROWS_USED : Fld := ⟨REL_SRAM_REPAIR, 31, 16⟩
abbrev REL_SRAM_REPAIR_EXHAUSTED : Fld := ⟨REL_SRAM_REPAIR, 15, 0⟩

/-- R466, 22_availability_and_faults.md. -/
abbrev REL_FENCE_SUMMARY : Nat := 0x600038
abbrev REL_FENCE_SUMMARY_OVERFLOW : Fld := ⟨REL_FENCE_SUMMARY, 23, 16⟩
abbrev REL_FENCE_SUMMARY_COUNT : Fld := ⟨REL_FENCE_SUMMARY, 5, 0⟩

/-- R466, 22_availability_and_faults.md. -/
abbrev REL_TEST_STATS : Nat := 0x60003c
abbrev REL_TEST_STATS_TESTS : Fld := ⟨REL_TEST_STATS, 31, 16⟩
abbrev REL_TEST_STATS_LASTING : Fld := ⟨REL_TEST_STATS, 15, 0⟩

/-- R466, 22_availability_and_faults.md. -/
abbrev REL_HOLD_STATS : Nat := 0x600040
abbrev REL_HOLD_STATS_HOLD_MAX_US : Fld := ⟨REL_HOLD_STATS, 31, 16⟩
abbrev REL_HOLD_STATS_HOLDS : Fld := ⟨REL_HOLD_STATS, 15, 0⟩

/-- R466, 22_availability_and_faults.md. -/
abbrev REL_LEVEL_COUNT (l : Nat) : Nat := 0x600080 + 0x4 * l
abbrev REL_LEVEL_COUNT_TRANSIENT (l : Nat) : Fld := ⟨REL_LEVEL_COUNT l, 31, 16⟩
abbrev REL_LEVEL_COUNT_LASTING (l : Nat) : Fld := ⟨REL_LEVEL_COUNT l, 15, 0⟩

/-- R466, 22_availability_and_faults.md. -/
abbrev REL_FENCE (n : Nat) : Nat := 0x600100 + 0x4 * n
abbrev REL_FENCE_VALID (n : Nat) : Fld := ⟨REL_FENCE n, 31, 31⟩
abbrev REL_FENCE_LEVEL (n : Nat) : Fld := ⟨REL_FENCE n, 30, 28⟩
abbrev REL_FENCE_UNIT (n : Nat) : Fld := ⟨REL_FENCE n, 27, 24⟩
abbrev REL_FENCE_INDEX (n : Nat) : Fld := ⟨REL_FENCE n, 23, 12⟩
abbrev REL_FENCE_SPARED (n : Nat) : Fld := ⟨REL_FENCE n, 11, 11⟩
abbrev REL_FENCE_CAUSE (n : Nat) : Fld := ⟨REL_FENCE n, 7, 0⟩

end Sys2Proof.Machine.Reg
end

