-- ==== Sys2Proof/Machine/RegTable.lean ====
section
/-! DEFINITION. The register table: for every register its address pattern, its reset value, which
bits are writable (RW and RWL), write-one-to-clear (W1C), triggers (WO) or reserved, whether a field
of it is locked by the caddy loader (RWL), and the ranges outside which a field value is a reserved
encoding (R8, R12, R106).  The rows follow the register tables of the chapters; the count of the
registers they cover is the 2,836 of R113. -/

namespace Sys2Proof.Machine

/-- One row of the register table; it stands for `n1 * n2` registers at
`base + s1 * i + s2 * j` (R104). -/
structure RegRow where
  base : Nat
  n1 : Nat := 1
  s1 : Nat := 0
  n2 : Nat := 1
  s2 : Nat := 0
  reset : Nat := 0
  rw : Nat := 0
  wo : Nat := 0
  w1c : Nat := 0
  rsv : Nat := 0
  rwl : Bool := false
  ranges : List (Nat × Nat × Nat × Nat) := []
deriving DecidableEq, Repr

def rowsSys : List RegRow := [
  { base := 0x000000, reset := 0x4b443936 }, -- SYS_ID
  { base := 0x000004, reset := 0x00000a01, rsv := 0xffff0000 }, -- SYS_REV
  { base := 0x000008 }, -- SYS_UID_LO
  { base := 0x00000c }, -- SYS_UID_HI
  { base := 0x000010, rsv := 0xfffffff8 }, -- SYS_STRAPS
  { base := 0x000014, rsv := 0xfffff0e0 }, -- SYS_STATUS
  { base := 0x000018 }, -- SYS_VIOL_COUNT
  { base := 0x00001c, rw := 0xffffffff }, -- SYS_SCRATCH
  { base := 0x000020, reset := 0x60181010 }, -- SYS_CAPS
  { base := 0x000024, rsv := 0xffffff00 }] -- SYS_REQUESTER

def rowsCaddy : List RegRow := [
  { base := 0x010000, rsv := 0xffff00c0 }, -- CADDY_STATUS
  { base := 0x010004, n1 := 2, s1 := 0x4, rsv := 0xff0000fc }, -- CADDY_SLOT_STATUS
  { base := 0x01000c, n1 := 2, s1 := 0x4 }, -- CADDY_SLOT_SEQ
  { base := 0x010040, n1 := 8, s1 := 0x4, rw := 0xffffffff }, -- CADDY_KEY_STAGE
  { base := 0x010060, n1 := 32, s1 := 0x4 }, -- CADDY_KEY_HASH
  { base := 0x0100e0, wo := 0xffff0300, rsv := 0x0000fc00 }, -- CADDY_KEY_CTRL
  { base := 0x0100f0, wo := 0xffff0000, rsv := 0x0000ffff,
    ranges := [(31, 16, 23629, 23629)] }, -- CADDY_SWAP_CMD
  { base := 0x0100f4, rsv := 0x0f000000 }, -- CADDY_SWAP_STATUS
  { base := 0x0100f8, rsv := 0xffff0000 }] -- CADDY_BOOT_TIME

def rowsTime : List RegRow := [
  { base := 0x020000, reset := 0xf8a00000, w1c := 0x00000010, rsv := 0x0000ff08 }, -- TIME_STATUS
  { base := 0x020004, reset := 0x8100003c, rw := 0x870107ff, rsv := 0x78fef800, rwl := true,
    ranges := [(10, 0, 1, 1440)] }, -- TIME_CFG
  { base := 0x020008, reset := 0x01000000, rw := 0x8f00ffff, rsv := 0x70ff0000, rwl := true,
    ranges := [(27, 24, 0, 5)] }, -- TIME_GNSS_CFG
  { base := 0x020010 }, -- TIME_NOW_SEC_LO
  { base := 0x020014, rsv := 0xffff0000 }, -- TIME_NOW_SEC_HI
  { base := 0x020018, rsv := 0xc0000000 }, -- TIME_NOW_NS
  { base := 0x02001c, rw := 0xffffffff }, -- TIME_SET_SEC_LO
  { base := 0x020020, rw := 0x0000ffff, rsv := 0xffff0000 }, -- TIME_SET_SEC_HI
  { base := 0x020024, rw := 0x3fffffff, rsv := 0xc0000000,
    ranges := [(29, 0, 0, 999999999)] }, -- TIME_SET_NS
  { base := 0x020028, wo := 0xffff0000, rsv := 0x0000ffff,
    ranges := [(31, 16, 22505, 22505)] }, -- TIME_SET_CMD
  { base := 0x02002c, reset := 0x00000025, rw := 0x0003ffff, rsv := 0xfffc0000 }, -- TIME_UTC
  { base := 0x020030 }, -- TIME_SERVO
  { base := 0x020034, n1 := 2, s1 := 0x4, reset := 0x00008080, rw := 0xc0ffffff, rsv := 0x3f000000, rwl := true }, -- TIME_PTP_CFG
  { base := 0x02003c, n1 := 2, s1 := 0x4, rsv := 0x0fff0000 }] -- TIME_PTP_STATUS

def rowsNet0 : List RegRow := [
  { base := 0x030000, rsv := 0xff00ffe0 }, -- NET_STATUS
  { base := 0x030004, n1 := 2, s1 := 0x4, rw := 0x0000000f, rsv := 0xfffffff0, rwl := true,
    ranges := [(2, 1, 0, 2)] }, -- NET_PORT_CFG
  { base := 0x03000c, n1 := 2, s1 := 0x4, rsv := 0x0000fff0 }, -- NET_PORT_STATUS
  { base := 0x030014 }, -- NET_MAC_LO
  { base := 0x030018, rsv := 0xffff0000 }, -- NET_MAC_HI
  { base := 0x03001c }, -- NET_IP4_ADDR
  { base := 0x030020 }, -- NET_IP4_MASK
  { base := 0x030024 }, -- NET_IP4_GW
  { base := 0x030028 }, -- NET_KMP_STATS
  { base := 0x03002c, reset := 0x80003c08, rw := 0x8000ff0f, rsv := 0x7fff00f0, rwl := true,
    ranges := [(15, 8, 10, 255), (3, 0, 1, 8)] }, -- NET_MB_CFG
  { base := 0x030030 }, -- NET_MB_STATS
  { base := 0x030034, reset := 0x00000705, rw := 0x8000073f, rsv := 0x7ffff8c0, rwl := true,
    ranges := [(5, 0, 1, 60)] }, -- NET_WDOG_CFG
  { base := 0x030038, rsv := 0x00f20000 }, -- NET_WDOG_STATUS
  { base := 0x03003c, wo := 0xffffffff }, -- NET_HEARTBEAT
  { base := 0x030040, w1c := 0x0000000f, rsv := 0xfffffff0 }, -- NET_HSPI_IRQ_STATUS
  { base := 0x030044, rw := 0x0000070f, rsv := 0xfffff8f0 }, -- NET_HSPI_IRQ_EN
  { base := 0x030048 }, -- NET_HSPI_ERR
  { base := 0x03004c, rsv := 0x000000fc }, -- NET_DHCP_STATUS
  { base := 0x030080, n1 := 8, s1 := 0x4, rsv := 0x0fff0000 }, -- NET_SESSION
  { base := 0x0300a0, n1 := 4, s1 := 0x4 }, -- NET_IP6_LL
  { base := 0x0300b0, n1 := 8, s1 := 0x4 }, -- NET_IP6_STATIC
  { base := 0x030100, n1 := 16, s1 := 0x10, rw := 0xffffffff, rwl := true }, -- NET_CLIENT_ADDR
  { base := 0x030104, n1 := 16, s1 := 0x10, rw := 0xffffffff, rwl := true }, -- NET_CLIENT_CFG
  { base := 0x030108, n1 := 16, s1 := 0x10, rsv := 0x000000fc }, -- NET_CLIENT_STATUS
  { base := 0x03010c, n1 := 16, s1 := 0x10 }] -- NET_CLIENT_READBACK

def rowsNet1 : List RegRow := [
  { base := 0x030200, n1 := 16, s1 := 0x4, rw := 0xffc0ffff, rsv := 0x003f0000, rwl := true }] -- NET_NETOUT

def rowsNet : List RegRow := rowsNet0 ++ rowsNet1

def rowsLog : List RegRow := [
  { base := 0x040000, w1c := 0x00000002, rsv := 0x0000ff00 }, -- LOG_STATUS
  { base := 0x040004, reset := 0x00005064, rw := 0x0000ffff, rsv := 0xffff0000, rwl := true,
    ranges := [(15, 8, 50, 100), (7, 0, 10, 255)] }, -- LOG_CFG
  { base := 0x040008 }, -- LOG_HWM_LO
  { base := 0x04000c, rsv := 0xffff0000 }, -- LOG_HWM_HI
  { base := 0x040010 }, -- LOG_TAIL_FIRST_LO
  { base := 0x040014, rsv := 0xffff0000 }, -- LOG_TAIL_FIRST_HI
  { base := 0x040018 }, -- LOG_HEAD_FIRST_LO
  { base := 0x04001c, rsv := 0xffff0000 }, -- LOG_HEAD_FIRST_HI
  { base := 0x040020, rsv := 0xfffe0000 }, -- LOG_HEAD_COUNT
  { base := 0x040024, rsv := 0xe000e000 }, -- LOG_POND
  { base := 0x040028, wo := 0xffff0300, rsv := 0x0000fc00,
    ranges := [(31, 16, 62702, 62702), (9, 8, 1, 2)] }, -- LOG_FREEZE
  { base := 0x04002c, wo := 0xffffffff,
    ranges := [(31, 16, 49642, 49642)] }, -- LOG_CLEAR_CMD
  { base := 0x040030 }, -- LOG_WEAR
  { base := 0x040034, rsv := 0x7f000000 }, -- LOG_LOST
  { base := 0x040038, reset := 0x00000064, rw := 0xff000fff, rsv := 0x00fff000, rwl := true,
    ranges := [(30, 28, 0, 6), (27, 24, 0, 7), (11, 0, 1, 2000)] }, -- LOG_SYSLOG_CFG
  { base := 0x04003c, rw := 0xffffffff, rwl := true }, -- LOG_SYSLOG_ADDR
  { base := 0x040040, n1 := 16, s1 := 0x4 }] -- LOG_DROP

def rowsGuard : List RegRow := [
  { base := 0x050000, w1c := 0x00000004, rsv := 0xff0000f8 }, -- GUARD_STATUS
  { base := 0x050004, reset := 0x0000ffff, rw := 0x0000ffff, rsv := 0xffff0000, rwl := true }, -- GUARD_FAN_MASK
  { base := 0x050008, reset := 0xf0000000 }, -- GUARD_HALT_LAST
  { base := 0x05000c }, -- GUARD_STATS
  { base := 0x050010, rsv := 0xffc00000 }, -- GUARD_BROKEN
  { base := 0x050014, rsv := 0xffc00000 }, -- GUARD_FAST
  { base := 0x050100, n1 := 16, s1 := 0x10, rw := 0xfffffff0, rsv := 0x0000000f, rwl := true }, -- GUARD_SENS_CFG
  { base := 0x050104, n1 := 22, s1 := 0x10, rsv := 0x1fff0000 }, -- GUARD_READING
  { base := 0x050108, n1 := 22, s1 := 0x10, reset := 0x80000000, rsv := 0x0000ff00 }, -- GUARD_SENS_STATUS
  { base := 0x050200, n1 := 6, s1 := 0x10, rsv := 0x0000000f }, -- GUARD_SENS_CFG_RO
  { base := 0x050400, reset := 0x00005180, rsv := 0x0000000f }, -- GUARD_ZONE_CFG_Z0
  { base := 0x050404, reset := 0x096007d0 }, -- GUARD_ZONE_THR_Z0
  { base := 0x050408, n1 := 8, s1 := 0x10, reset := 0x80000000, rsv := 0x0000ff70 }, -- GUARD_ZONE_STATUS
  { base := 0x050410, reset := 0x00005130, rsv := 0x0000000f }, -- GUARD_ZONE_CFG_Z1
  { base := 0x050414, reset := 0x0a5008c0 }, -- GUARD_ZONE_THR_Z1
  { base := 0x050420, reset := 0x00005150, rsv := 0x0000000f }, -- GUARD_ZONE_CFG_Z2
  { base := 0x050424, reset := 0x0a5008c0 }, -- GUARD_ZONE_THR_Z2
  { base := 0x050430, n1 := 5, s1 := 0x10, reset := 0x00005000, rw := 0xfffffff0, rsv := 0x0000000f, rwl := true,
    ranges := [(15, 12, 2, 15), (11, 8, 0, 7)] }, -- GUARD_ZONE_CFG_Z3
  { base := 0x050434, n1 := 5, s1 := 0x10, reset := 0x7fff7fff, rw := 0xffffffff, rwl := true }] -- GUARD_ZONE_THR_Z3

def rowsPwr : List RegRow := [
  { base := 0x060000, rsv := 0xff0000e0 }, -- PWR_STATUS
  { base := 0x060004, reset := 0x00000014, rw := 0x000007ff, rsv := 0xfffff800, rwl := true,
    ranges := [(10, 0, 20, 2000)] }, -- PWR_PFI_CFG
  { base := 0x060008, rw := 0xffffffff, rwl := true }, -- PWR_HOLD_CFG
  { base := 0x06000c, rw := 0x00ffffff, rsv := 0xff000000, rwl := true,
    ranges := [(23, 16, 0, 64)] }, -- PWR_HOLD_CFG2
  { base := 0x060010 }, -- PWR_GAUGE
  { base := 0x060014, rsv := 0x0000e000 }, -- PWR_SLUICE_LAST
  { base := 0x060018, rsv := 0xff000000 }, -- PWR_CYCLE_COUNT
  { base := 0x06001c }, -- PWR_OPTIME_LO
  { base := 0x060020, rsv := 0xffffff00 }, -- PWR_OPTIME_HI
  { base := 0x060024, rsv := 0xffffff00 }, -- PWR_RESET_CAUSE
  { base := 0x060028, wo := 0xffff0000, rsv := 0x0000ffff,
    ranges := [(31, 16, 45063, 45063)] }, -- PWR_RESET_CMD
  { base := 0x06002c, w1c := 0x00000004, rsv := 0x0000fff8 }] -- PWR_CLK_STATUS

def rowsDisp0 : List RegRow := [
  { base := 0x070000, w1c := 0x000000b0, rsv := 0x0f00fe01 }, -- DISP_STATUS
  { base := 0x070004, rw := 0xf0000000, rsv := 0x0fffffff, rwl := true }, -- DISP_CFG
  { base := 0x070008, reset := 0x00787878, rw := 0x00ffffff, rsv := 0xff000000, rwl := true,
    ranges := [(23, 16, 0, 240), (15, 8, 0, 240), (7, 0, 0, 240)] }, -- DISP_CURRENT
  { base := 0x07000c, wo := 0xffff000f, rsv := 0x0000fff0,
    ranges := [(31, 16, 53598, 53598), (3, 0, 1, 4)] }, -- DISP_CTRL
  { base := 0x070010, reset := 0x000000ff, rw := 0x000000ff, rsv := 0xffffff00 }, -- DISP_SOURCE
  { base := 0x070014, rw := 0x800007ff, rsv := 0x7ffff800,
    ranges := [(10, 0, 0, 1532)] }, -- DISP_FB_SEL
  { base := 0x070018, rw := 0xffffffff }, -- DISP_FB_DATA
  { base := 0x07001c, rw := 0x2000ff00, wo := 0x80000000, rsv := 0x1c0000ff }, -- DISP_COMMIT
  { base := 0x070020, rsv := 0xffff0000 }, -- DISP_DIRTY
  { base := 0x070024, rw := 0x000003ff, rsv := 0xfffffc00,
    ranges := [(9, 8, 0, 2)] }, -- DISP_GAMMA_SEL
  { base := 0x070028, rw := 0x00000fff, rsv := 0xfffff000, rwl := true }, -- DISP_GAMMA_DATA
  { base := 0x07002c, rw := 0x0000007f, rsv := 0xffffff80,
    ranges := [(6, 5, 0, 2)] }, -- DISP_CURVE_SEL
  { base := 0x070030, reset := 0x0000ffff, rw := 0x0000ffff, rsv := 0xffff0000, rwl := true,
    ranges := [(15, 0, 1, 65535)] }, -- DISP_CURVE_DATA
  { base := 0x070034, n1 := 3, s1 := 0x4, reset := 0xffffffff, rw := 0xffffffff, rwl := true,
    ranges := [(31, 0, 1, 4294967295)] }, -- DISP_CURVE_STEP
  { base := 0x070040, reset := 0x50000000, rw := 0xffffffff, rwl := true,
    ranges := [(31, 16, 16384, 65535)] }, -- DISP_AGE_CFG
  { base := 0x070044, reset := 0x00ececec, rw := 0x00ffffff, rsv := 0xff000000, rwl := true }, -- DISP_SENSE_TC
  { base := 0x070048, rw := 0x000007ff, rsv := 0xfffff800,
    ranges := [(10, 0, 0, 1535)] }, -- DISP_PIX_SEL
  { base := 0x07004c }, -- DISP_PIX_STRESS
  { base := 0x070050, reset := 0x00004000, rsv := 0xf0000000 }, -- DISP_PIX_GAIN
  { base := 0x070054 }, -- DISP_PIX_VF
  { base := 0x070058 }, -- DISP_STATS
  { base := 0x070060, reset := 0x0013031e, rw := 0x801f07ff, rsv := 0x7fe0f800, rwl := true,
    ranges := [(20, 16, 0, 21), (7, 0, 1, 255)] }, -- DISP_STRIP_CFG
  { base := 0x070064, rw := 0x00ffffff, rsv := 0xff000000 }, -- DISP_STRIP_IMAGE
  { base := 0x070068, rw := 0x00ffffff, rsv := 0xff000000, rwl := true }, -- DISP_STRIP_LW
  { base := 0x07006c, rw := 0x0000ff00, wo := 0x80000000, rsv := 0x3c0000ff }] -- DISP_STRIP_CMD

def rowsDisp1 : List RegRow := [
  { base := 0x070070, w1c := 0x00000050, rsv := 0x08ffff81 }, -- DISP_STRIP_STATUS
  { base := 0x070074, rsv := 0xff000000 }] -- DISP_STRIP_SHOWN

def rowsDisp : List RegRow := rowsDisp0 ++ rowsDisp1

def rowsGov : List RegRow := [
  { base := 0x100000, n1 := 16, s1 := 0x1000, rw := 0xcf7f7700, rsv := 0x308088ff, rwl := true,
    ranges := [(14, 12, 0, 4)] }, -- GOV_SLOT_CFG
  { base := 0x100004, n1 := 16, s1 := 0x1000, rw := 0x80003fff, rsv := 0x7fffc000, rwl := true }, -- GOV_PERIOD
  { base := 0x100008, n1 := 16, s1 := 0x1000, wo := 0xffff000f, rsv := 0x0000fff0,
    ranges := [(31, 16, 24798, 24798)] }, -- GOV_SLOT_MODE
  { base := 0x10000c, n1 := 16, s1 := 0x1000, w1c := 0x02000000 }, -- GOV_SLOT_STATUS
  { base := 0x100010, n1 := 16, s1 := 0x1000, reset := 0xbc0a0400, rw := 0xffffffff, rwl := true,
    ranges := [(30, 24, 1, 127), (23, 16, 1, 255)] }, -- GOV_START_CFG
  { base := 0x100014, n1 := 16, s1 := 0x1000, rw := 0xfefefefe, rsv := 0x01010101, rwl := true }, -- GOV_REF_SRC
  { base := 0x100018, n1 := 16, s1 := 0x1000, rsv := 0x0f0f0f0f }, -- GOV_ACT_STATUS
  { base := 0x10001c, n1 := 16, s1 := 0x1000 }, -- GOV_SAMPLE_STATS
  { base := 0x100020, n1 := 16, s1 := 0x1000, n2 := 8, s2 := 0x4, reset := 0xf0000000, rw := 0xf80003ff, rsv := 0x07fffc00, rwl := true }, -- GOV_IN_SRC
  { base := 0x100040, n1 := 16, s1 := 0x1000, n2 := 4, s2 := 0x4, rw := 0xffffffff }, -- GOV_REF
  { base := 0x100050, n1 := 16, s1 := 0x1000, n2 := 4, s2 := 0x4, rw := 0xf00000ff, rsv := 0x0fffff00, rwl := true,
    ranges := [(31, 28, 0, 4)] }, -- GOV_ACT_CFG
  { base := 0x100060, n1 := 16, s1 := 0x1000, rw := 0x0000001f, rsv := 0xffffffe0 }, -- GOV_XHAT_SEL
  { base := 0x100064, n1 := 16, s1 := 0x1000 }, -- GOV_XHAT
  { base := 0x100068, n1 := 16, s1 := 0x1000 }, -- GOV_EPOCH_READ
  { base := 0x10006c, n1 := 16, s1 := 0x1000 }, -- GOV_COEF_EPOCH
  { base := 0x100070, n1 := 16, s1 := 0x1000, rsv := 0x000000f0 }, -- GOV_SUP_STATUS
  { base := 0x100074, n1 := 16, s1 := 0x1000, rsv := 0x88888888 }, -- GOV_SUP_CAUSE
  { base := 0x100078, n1 := 16, s1 := 0x1000, w1c := 0x80000000, rsv := 0x7fff0000 }, -- GOV_TRANSFER_STATUS
  { base := 0x10007c, n1 := 16, s1 := 0x1000 }] -- GOV_SUP_STATS

def rowsValve : List RegRow := [
  { base := 0x200000, n1 := 12, s1 := 0x400, n2 := 8, s2 := 0x40, rw := 0xffffffff, rwl := true }, -- VALVE_PROFILE
  { base := 0x200004, n1 := 12, s1 := 0x400, n2 := 8, s2 := 0x40, reset := 0x00000a0d, rw := 0x0000ffff, rsv := 0xffff0000, rwl := true }, -- VALVE_DETECT
  { base := 0x200008, n1 := 12, s1 := 0x400, n2 := 8, s2 := 0x40, wo := 0xffc0ffff, rsv := 0x003f0000,
    ranges := [(23, 22, 1, 3)] }, -- VALVE_CMD
  { base := 0x20000c, n1 := 12, s1 := 0x400, n2 := 8, s2 := 0x40, rsv := 0x0f00000f }, -- VALVE_STATUS
  { base := 0x200010, n1 := 12, s1 := 0x400, n2 := 8, s2 := 0x40 }, -- VALVE_MOTION
  { base := 0x200014, n1 := 12, s1 := 0x400, n2 := 8, s2 := 0x40, reset := 0x28000000, rw := 0xfffc03ff, rwl := true,
    ranges := [(31, 26, 1, 60)] }, -- VALVE_PROT
  { base := 0x200200, n1 := 12, s1 := 0x400, reset := 0x00141414, rw := 0x00ff3f3f, rsv := 0xff00c0c0, rwl := true,
    ranges := [(13, 8, 10, 50), (5, 0, 10, 40)] }, -- VALVE_BANK_CFG
  { base := 0x200204, n1 := 12, s1 := 0x400, rsv := 0x180f0000 }, -- VALVE_BANK_STATUS
  { base := 0x200208, n1 := 12, s1 := 0x400 }, -- VALVE_BANK_STATS
  { base := 0x20020c, n1 := 12, s1 := 0x400, wo := 0xffff007f, rsv := 0x0000ff80,
    ranges := [(31, 16, 31262, 31262), (3, 0, 1, 5)] }, -- VALVE_BANK_CTRL
  { base := 0x200210, n1 := 12, s1 := 0x400, rsv := 0x3f000000 }, -- VALVE_BANK_FAULT
  { base := 0x200214, n1 := 12, s1 := 0x400, rsv := 0x00030000 }, -- VALVE_CQ
  { base := 0x200218, n1 := 12, s1 := 0x400, wo := 0x80ff0000, rsv := 0x7f0000c0 }, -- VALVE_CQ_CTRL
  { base := 0x20021c, n1 := 12, s1 := 0x400 }] -- VALVE_BANK_POWER

def rowsFan : List RegRow := [
  { base := 0x280000, n1 := 16, s1 := 0x40, reset := 0x009e040a, rw := 0xffff3fff, rsv := 0x0000c000, rwl := true,
    ranges := [(31, 30, 0, 2), (25, 22, 1, 15), (21, 16, 20, 60), (13, 8, 1, 40), (7, 0, 1, 255)] }, -- FAN_CFG
  { base := 0x280004, n1 := 16, s1 := 0x40, reset := 0x000a3300, rw := 0xffffffff, rwl := true,
    ranges := [(21, 16, 1, 63), (15, 8, 0, 242)] }, -- FAN_LOOP
  { base := 0x280008, n1 := 16, s1 := 0x40, reset := 0x42200000, rw := 0xffffffff }, -- FAN_SP
  { base := 0x28000c, n1 := 16, s1 := 0x40, reset := 0x3d4ccccd, rw := 0xffffffff, rwl := true }, -- FAN_KP
  { base := 0x280010, n1 := 16, s1 := 0x40, reset := 0x3c23d70a, rw := 0xffffffff, rwl := true }, -- FAN_KI
  { base := 0x280014, n1 := 16, s1 := 0x40, w1c := 0x0000000f, rsv := 0x0000ffe0 }, -- FAN_STATUS
  { base := 0x280018, n1 := 16, s1 := 0x40 }, -- FAN_SPEED
  { base := 0x28001c, n1 := 16, s1 := 0x40 }] -- FAN_STATS

def rowsAio : List RegRow := [
  { base := 0x290000, n1 := 8, s1 := 0x40, rw := 0xc000ffff, rsv := 0x3fff0000, rwl := true,
    ranges := [(31, 30, 0, 2)] }, -- AIO_AO_CFG
  { base := 0x290004, n1 := 8, s1 := 0x40, reset := 0x3f800000, rw := 0xffffffff, rwl := true }, -- AIO_AO_SCALE
  { base := 0x290008, n1 := 8, s1 := 0x40, rw := 0xffffffff, rwl := true }, -- AIO_AO_OFFSET
  { base := 0x29000c, n1 := 8, s1 := 0x40, rsv := 0x0ff00000 }, -- AIO_AO_CODE
  { base := 0x290010, n1 := 8, s1 := 0x40 }, -- AIO_AO_READBACK
  { base := 0x290014, n1 := 8, s1 := 0x40, w1c := 0x00000002, rsv := 0x0000fff0 }, -- AIO_AO_STATUS
  { base := 0x290200, n1 := 4, s1 := 0x40, reset := 0x00006432, rw := 0xc0ffffff, rsv := 0x3f000000, rwl := true,
    ranges := [(15, 8, 1, 255), (7, 0, 1, 255)] }, -- AIO_PI_CFG
  { base := 0x290204, n1 := 4, s1 := 0x40, reset := 0x3f800000, rw := 0xffffffff, rwl := true }, -- AIO_PI_KFACTOR
  { base := 0x290208, n1 := 4, s1 := 0x40 }, -- AIO_PI_RATE
  { base := 0x29020c, n1 := 4, s1 := 0x40 }, -- AIO_PI_COUNT
  { base := 0x290210, n1 := 4, s1 := 0x40 }, -- AIO_PI_LAST_EDGE
  { base := 0x290214, n1 := 4, s1 := 0x40, w1c := 0x00000002, rsv := 0x0000fff9 }] -- AIO_PI_STATUS

def rowsSprin : List RegRow := [
  { base := 0x300000, n1 := 24, s1 := 0x200, reset := 0x400a0464, rw := 0xc0ff0fff, rsv := 0x3f00f000, rwl := true,
    ranges := [(11, 10, 1, 3), (9, 0, 10, 1000)] }, -- SPRIN_CFG
  { base := 0x300004, n1 := 24, s1 := 0x200, reset := 0x00000514, rw := 0x0000ffff, rsv := 0xffff0000, rwl := true,
    ranges := [(15, 8, 1, 60), (7, 0, 1, 255)] }, -- SPRIN_PWR_CFG
  { base := 0x300008, n1 := 24, s1 := 0x200, w1c := 0x0000000f, rsv := 0x0f0000f0 }, -- SPRIN_STATUS
  { base := 0x30000c, n1 := 24, s1 := 0x200, wo := 0xffff0fff, rsv := 0x0000f000,
    ranges := [(31, 16, 24177, 24177), (11, 8, 1, 3), (7, 0, 0, 254)] }, -- SPRIN_CMD
  { base := 0x300010, n1 := 24, s1 := 0x200, rw := 0x07ffffff, wo := 0x80000000, rsv := 0x38000000,
    ranges := [(7, 0, 0, 254)] }, -- SPRIN_NCMD
  { base := 0x300014, n1 := 24, s1 := 0x200, rw := 0xffffffff }, -- SPRIN_NARG
  { base := 0x300018, n1 := 24, s1 := 0x200, rsv := 0xff000000 }, -- SPRIN_NRESULT
  { base := 0x30001c, n1 := 24, s1 := 0x200 }, -- SPRIN_NDATA
  { base := 0x300020, n1 := 24, s1 := 0x200 }, -- SPRIN_ERR
  { base := 0x300024, n1 := 24, s1 := 0x200 }, -- SPRIN_STATS
  { base := 0x300028, n1 := 24, s1 := 0x200, rsv := 0x0000fc00 }, -- SPRIN_PWR_STATUS
  { base := 0x30002c, n1 := 24, s1 := 0x200 }] -- SPRIN_CYCLE_STATUS

def rowsField : List RegRow := [
  { base := 0x340000, n1 := 32, s1 := 0x80, rw := 0xf7fe07ff, rsv := 0x0801f800, rwl := true,
    ranges := [(23, 22, 0, 2)] }, -- FIELD_CFG
  { base := 0x340004, n1 := 32, s1 := 0x80, reset := 0x3f800000, rw := 0xffffffff, rwl := true }, -- FIELD_SCALE
  { base := 0x340008, n1 := 32, s1 := 0x80, rw := 0xffffffff, rwl := true }, -- FIELD_OFFSET
  { base := 0x34000c, n1 := 32, s1 := 0x80, w1c := 0x0000000a, rsv := 0x0000ff00 }, -- FIELD_STATUS
  { base := 0x340010, n1 := 32, s1 := 0x80 }, -- FIELD_RAW
  { base := 0x340014, n1 := 32, s1 := 0x80, reset := 0x7fc00000 }, -- FIELD_VALUE
  { base := 0x340018, n1 := 32, s1 := 0x80 }, -- FIELD_AUX
  { base := 0x34001c, n1 := 32, s1 := 0x80 }] -- FIELD_STAMP

def rowsMill0 : List RegRow := [
  { base := 0x400000, n1 := 16, s1 := 0x4000, rw := 0xff00003f, rsv := 0x00ffffc0, rwl := true }, -- MILL_BODY_CFG
  { base := 0x400004, n1 := 16, s1 := 0x4000, rw := 0x7fffffff, rsv := 0x80000000, rwl := true }, -- MILL_GRID_DIM
  { base := 0x400008, n1 := 16, s1 := 0x4000, rw := 0x3fffffff, rsv := 0xc0000000, rwl := true }, -- MILL_GRID_EDGE
  { base := 0x40000c, n1 := 16, s1 := 0x4000, rsv := 0xfffe0000 }, -- MILL_BODY_BASE
  { base := 0x400010, n1 := 16, s1 := 0x4000, rsv := 0xfe000000 }, -- MILL_BODY_CELLS
  { base := 0x400014, n1 := 16, s1 := 0x4000, rsv := 0xfffe0000 }, -- MILL_BODY_ALLOC
  { base := 0x400018, n1 := 16, s1 := 0x4000, wo := 0xffff000f, rsv := 0x0000fff0,
    ranges := [(31, 16, 27421, 27421), (3, 0, 1, 2)] }, -- MILL_BODY_CTRL
  { base := 0x40001c, n1 := 16, s1 := 0x4000, w1c := 0x01000000, rsv := 0x0e000000 }, -- MILL_BODY_STATUS
  { base := 0x400020, n1 := 16, s1 := 0x4000 }, -- MILL_STEP_COUNT
  { base := 0x400024, n1 := 16, s1 := 0x4000, rw := 0x01ffffff, rsv := 0xfe000000 }, -- MILL_CELL_SEL
  { base := 0x400028, n1 := 16, s1 := 0x4000, n2 := 4, s2 := 0x4 }, -- MILL_CELL_W
  { base := 0x400038, n1 := 16, s1 := 0x4000, rw := 0xffffffff, rwl := true,
    ranges := [(31, 30, 0, 2)] }, -- MILL_MOVE_CFG
  { base := 0x40003c, n1 := 16, s1 := 0x4000, rw := 0x0003ffff, rsv := 0xfffc0000, rwl := true }, -- MILL_MOVE_SRC
  { base := 0x400040, n1 := 16, s1 := 0x4000, rw := 0xffffffff, rwl := true }, -- MILL_FILL_GAIN
  { base := 0x400044, n1 := 16, s1 := 0x4000, rw := 0xffffffff, rwl := true }, -- MILL_UNLOAD_GAIN
  { base := 0x400048, n1 := 16, s1 := 0x4000, reset := 0xfff00000, w1c := 0x00030000, rsv := 0x000c0000 }, -- MILL_MOVE_STATUS
  { base := 0x40004c, n1 := 16, s1 := 0x4000, rsv := 0x00003fe0 }, -- MILL_AIR_STATUS
  { base := 0x400050, n1 := 16, s1 := 0x4000, reset := 0x3c00140a, rw := 0xffffff7f, rsv := 0x00000080, rwl := true,
    ranges := [(31, 24, 1, 255), (23, 16, 0, 64), (15, 8, 1, 50), (6, 0, 0, 120)] }, -- MILL_RUN_CFG
  { base := 0x400054, n1 := 16, s1 := 0x4000, reset := 0x00006a45, rw := 0x0000ffff, rsv := 0xffff0000, rwl := true }, -- MILL_NOISE
  { base := 0x400058, n1 := 16, s1 := 0x4000, rsv := 0x000000f0 }, -- MILL_RUN_STATUS
  { base := 0x40005c, n1 := 16, s1 := 0x4000 }, -- MILL_RB_STATS
  { base := 0x440000, rsv := 0xffe0ffe0 }, -- MILL_STATUS
  { base := 0x440004, reset := 0x07c00000, rsv := 0xf83e0000 }, -- MILL_QUAD_STATUS
  { base := 0x440008, rsv := 0xfe000000 }, -- MILL_CELLS_USED
  { base := 0x44000c }] -- MILL_LOAD

def rowsMill1 : List RegRow := [
  { base := 0x440010 }, -- MILL_CROP_VALID
  { base := 0x440014 }, -- MILL_SCHED_STATS
  { base := 0x440018, reset := 0x00009c40, rsv := 0xffff0000 }, -- MILL_CAPACITY
  { base := 0x44001c }, -- MILL_TILE_STATS
  { base := 0x440020, reset := 0x000fffff, rw := 0x000fffff, rsv := 0xfff00000, rwl := true }, -- MILL_AMBIENT_SRC
  { base := 0x440024, reset := 0x47c5e680, rw := 0xffffffff, rwl := true }, -- MILL_AMBIENT_P
  { base := 0x440028, reset := 0x47c35000, rw := 0xffffffff, rwl := true }, -- MILL_HV_COEF
  { base := 0x44002c, reset := 0x0014323c, rw := 0x00ffffff, rsv := 0xff000000, rwl := true,
    ranges := [(23, 16, 1, 255), (15, 8, 1, 255), (7, 0, 10, 255)] }, -- MILL_SOLVE_CFG
  { base := 0x440030 }, -- MILL_SOLVE_STATS
  { base := 0x440034, reset := 0x80000006, rw := 0x800000ff, rsv := 0x7fffff00, rwl := true,
    ranges := [(7, 0, 1, 24)] }, -- MILL_SNAP_CFG
  { base := 0x440038, rsv := 0x1fff0000 }, -- MILL_SNAP_STATUS
  { base := 0x44003c }] -- MILL_ASSIM_STATS

def rowsMill : List RegRow := rowsMill0 ++ rowsMill1

def rowsEst : List RegRow := [
  { base := 0x484000 }, -- MILL_EST_EPOCH
  { base := 0x484004 }, -- MILL_ACT_EPOCH
  { base := 0x484008, rsv := 0xf800f800 }, -- MILL_EST_COUNT
  { base := 0x48400c, rsv := 0xfc00fe00 }, -- MILL_EST_PUBS
  { base := 0x484010, reset := 0x00003c3c, rw := 0x0000ffff, rsv := 0xffff0000, rwl := true,
    ranges := [(15, 8, 10, 255), (7, 0, 60, 255)] }, -- MILL_FCST_CFG
  { base := 0x484014 }, -- MILL_FCST_STATUS
  { base := 0x484018 }, -- MILL_EST_STATS
  { base := 0x48401c, rsv := 0xf8000000 }] -- MILL_PROBE_STATUS

def rowsCup : List RegRow := [
  { base := 0x500000, n1 := 16, s1 := 0x40, rw := 0xff80ffff, rsv := 0x007f0000,
    ranges := [(31, 30, 0, 2)] }, -- CUP_INF_CFG
  { base := 0x500004, n1 := 16, s1 := 0x40, rw := 0xffffffff }, -- CUP_INF_AMP
  { base := 0x500008, n1 := 16, s1 := 0x40, rw := 0xffffffff }, -- CUP_INF_FREQ
  { base := 0x50000c, n1 := 16, s1 := 0x40 }, -- CUP_INF_STATUS
  { base := 0x500400, wo := 0xffff0003, rsv := 0x0000fffc,
    ranges := [(31, 16, 49399, 49399), (1, 0, 1, 3)] }, -- CUP_CTRL
  { base := 0x500404, rw := 0xffff0007, rsv := 0x0000fff8,
    ranges := [(1, 0, 0, 2)] }, -- CUP_CFG
  { base := 0x500408, rw := 0x0000003f, rsv := 0xffffffc0 }, -- CUP_SIGNALS
  { base := 0x50040c, rsv := 0x0fffffff }, -- CUP_STATUS
  { base := 0x500410, rsv := 0xf8000000 }, -- CUP_WRITE_PTR
  { base := 0x500414, rsv := 0xf8000000 }, -- CUP_FIRST_PTR
  { base := 0x500418 }, -- CUP_RECORDS
  { base := 0x50041c }, -- CUP_NEXT_SEQ
  { base := 0x500420 }, -- CUP_FIRST_SEQ
  { base := 0x500424, rw := 0xffffffff }, -- CUP_STOP_AFTER
  { base := 0x500428, rw := 0xffffffff }, -- CUP_AT_SEC_LO
  { base := 0x50042c, rw := 0x0000ffff, rsv := 0xffff0000 }, -- CUP_AT_SEC_HI
  { base := 0x500430, rw := 0x3fffffff, rsv := 0xc0000000,
    ranges := [(29, 0, 0, 999999999)] }, -- CUP_AT_NS
  { base := 0x500434, reset := 0x00000080, rw := 0x000000ff, rsv := 0xffffff00,
    ranges := [(7, 0, 1, 128)] }, -- CUP_LIMIT
  { base := 0x500438 }, -- CUP_WRAPS
  { base := 0x50043c }] -- CUP_LAST_STAMP

def rowsRel : List RegRow := [
  { base := 0x600000, w1c := 0x00000002, rsv := 0xffff007c }, -- REL_STATUS
  { base := 0x600004, reset := 0x00180003, rw := 0x00ff00ff, rsv := 0xff00ff00, rwl := true,
    ranges := [(23, 16, 1, 168), (7, 0, 2, 15)] }, -- REL_CFG
  { base := 0x600008, rsv := 0x30ff0000 }, -- REL_LANE_STATUS
  { base := 0x60000c }, -- REL_LOCKSTEP_STATS
  { base := 0x600010, rsv := 0x00ff0000 }, -- REL_LAST_RECOVERY
  { base := 0x600014, wo := 0xffffffff,
    ranges := [(31, 16, 32343, 32343), (15, 12, 1, 7)] }, -- REL_TEST_CMD
  { base := 0x600018, rsv := 0x0f0000ff }, -- REL_TEST_RESULT
  { base := 0x60001c, reset := 0x80000018, rw := 0x800000ff, rsv := 0x7fffff00, rwl := true,
    ranges := [(7, 0, 1, 168)] }, -- REL_SCRUB_CFG
  { base := 0x600020, rsv := 0x0000ff80 }, -- REL_SCRUB_STATUS
  { base := 0x600024 }, -- REL_ECC_COUNT
  { base := 0x600028 }, -- REL_ECC_LAST_LO
  { base := 0x60002c, rsv := 0x07ff0000 }, -- REL_ECC_LAST_HI
  { base := 0x600030, rsv := 0x00ff0000 }, -- REL_DRAM_SPARE
  { base := 0x600034 }, -- REL_SRAM_REPAIR
  { base := 0x600038, rsv := 0xff00ffc0 }, -- REL_FENCE_SUMMARY
  { base := 0x60003c }, -- REL_TEST_STATS
  { base := 0x600040 }, -- REL_HOLD_STATS
  { base := 0x600080, n1 := 7, s1 := 0x4 }, -- REL_LEVEL_COUNT
  { base := 0x600100, n1 := 32, s1 := 0x4, rsv := 0x00000700 }] -- REL_FENCE

/-- The rows that can hold address `a`: those of its block window (R102). -/
def rowsAt (a : Nat) : List RegRow :=
  if a ≤ 0x000fff then (if 0x000000 ≤ a then rowsSys else [])
  else if a ≤ 0x010fff then (if 0x010000 ≤ a then rowsCaddy else [])
  else if a ≤ 0x020fff then (if 0x020000 ≤ a then rowsTime else [])
  else if a ≤ 0x030fff then (if 0x030000 ≤ a then rowsNet else [])
  else if a ≤ 0x040fff then (if 0x040000 ≤ a then rowsLog else [])
  else if a ≤ 0x050fff then (if 0x050000 ≤ a then rowsGuard else [])
  else if a ≤ 0x060fff then (if 0x060000 ≤ a then rowsPwr else [])
  else if a ≤ 0x070fff then (if 0x070000 ≤ a then rowsDisp else [])
  else if a ≤ 0x10ffff then (if 0x100000 ≤ a then rowsGov else [])
  else if a ≤ 0x202fff then (if 0x200000 ≤ a then rowsValve else [])
  else if a ≤ 0x2803ff then (if 0x280000 ≤ a then rowsFan else [])
  else if a ≤ 0x2902ff then (if 0x290000 ≤ a then rowsAio else [])
  else if a ≤ 0x302fff then (if 0x300000 ≤ a then rowsSprin else [])
  else if a ≤ 0x340fff then (if 0x340000 ≤ a then rowsField else [])
  else if a ≤ 0x440fff then (if 0x400000 ≤ a then rowsMill else [])
  else if a ≤ 0x4840ff then (if 0x484000 ≤ a then rowsEst else [])
  else if a ≤ 0x5004ff then (if 0x500000 ≤ a then rowsCup else [])
  else if a ≤ 0x600fff then (if 0x600000 ≤ a then rowsRel else [])
  else []

/-- The row covers address `a` (R104). -/
def RegRow.covers (r : RegRow) (a : Nat) : Bool :=
  if a < r.base then false else
  let d := a - r.base
  let i := if r.s1 = 0 then 0 else d / r.s1
  let e := d - i * r.s1
  let j := if r.s2 = 0 then 0 else e / r.s2
  decide (i < r.n1) && decide (j < r.n2) && decide (e = j * r.s2)

/-- The row of the register at address `a`, or none for an unmapped address (R101, R102, R105). -/
def rowOf (a : Nat) : Option RegRow :=
  if a % 4 = 0 then (rowsAt a).find? (fun r => r.covers a) else none

/-- What a register holds after reset (the Reset column of its table; 0 in the RAM windows and at
an unmapped address). -/
def regReset (a : Nat) : BitVec 32 :=
  match rowOf a with
  | some r => BitVec.ofNat 32 r.reset
  | none => 0

/-- How many registers the table covers (R113). -/
def RegRow.count (r : RegRow) : Nat := r.n1 * r.n2

/-- All rows. -/
def allRows : List RegRow :=
  rowsSys ++ rowsCaddy ++ rowsTime ++ rowsNet ++ rowsLog ++ rowsGuard ++
  rowsPwr ++ rowsDisp ++ rowsGov ++ rowsValve ++ rowsFan ++ rowsAio ++
  rowsSprin ++ rowsField ++ rowsMill ++ rowsEst ++ rowsCup ++ rowsRel

end Sys2Proof.Machine
end

