-- ==== Sys2Proof/Machine/State.lean ====
section
/-! DEFINITION. The state of the block as plain data: the register file, the state that no register
shows, the queue of waiting commands, and the state after power-on reset. -/

namespace Sys2Proof.Machine

/-- Why a command stops the machine with a fault.  No command of this block does: the spec gives
every command an effect or none (R106, R107). (DESIGN CHOICE, log entry 12.) -/
inductive Fault where
  /-- Kept for the interface; no meaning raises it.  Safe. -/
  | none
deriving DecidableEq, Repr

/-- Why a command has no meaning here. (DESIGN CHOICE, log entry 12.) -/
inductive Refusal where
  /-- Raised by `exec` alone, for a command whose meaning is not written.  Safe. -/
  | notModelled (mnemonic : String)
deriving DecidableEq, Repr

/-! ### What the block sends out -/

/-- A PTP message: transport, domain, type, sequence, the flags of a two-step clock and of the PTP
timescale, log message interval, and the fields of its body (R169). (DESIGN CHOICE, log entry 72.) -/
structure PtpMsg where
  port : Nat
  /-- IEEE 802.3 transport, else UDP over IPv4 -/
  l2 : Bool
  domain : Nat
  msgType : Nat
  seq : Nat
  twoStep : Bool := false
  timescale : Bool := false
  interval : Int := 0
  body : List Nat := []
deriving DecidableEq, Repr

/-- A message or signal that leaves the block.  The list of them is a trace for the outside; nothing
inside reads it. (DESIGN CHOICE, log entry 10.) -/
inductive Output where
  /-- A KMP datagram to the client of a session, or to the sender, with its tag. -/
  | kmp (datagram : List Byte)
  /-- A Modbus response of the server on a connection: header and PDU. -/
  | modbus (conn : Nat) (adu : List Byte)
  /-- A request of the Modbus client to a server: unit identifier and PDU. -/
  | client (server : Nat) (pdu : List Byte)
  /-- An answer to an ARP or neighbour solicitation: port, target address, MAC address. -/
  | neighbour (port target mac : Nat)
  /-- An ICMP or ICMPv6 echo reply on a port. -/
  | echo (port : Nat)
  /-- A TCP RST on a port, from a TCP port that serves nothing. -/
  | rst (port tcpPort : Nat)
  /-- A DHCP request: a discovery, a renewal. -/
  | dhcp (renewal : Bool)
  /-- An ARP probe of an address (RFC 5227). -/
  | probe (addr : Word)
  /-- The TCP client connects to a server: index, IPv4 address, port. -/
  | connect (server : Nat) (ip : Word) (port : Nat)
  /-- A TCP connection opened (true) or closed (false): listener or client, index. -/
  | tcp (client : Bool) (idx : Nat) (up : Bool)
  /-- An Ethernet frame sent on a port of the switch (0 E0, 1 E1). -/
  | eth (port : Nat) (frame : List Byte)
  /-- A UDP datagram: destination IPv4, destination port, payload. -/
  | udp (ip port : Nat) (payload : List Byte)
  /-- Status and result word of a host SPI frame. -/
  | hspi (status result : Word)
  /-- A frame on a Sprinline port, as the half-bits of its line state, H true (R174). -/
  | sprin (port : Nat) (line : List Bool)
  /-- A PTP message. -/
  | ptp (msg : PtpMsg)
  /-- The clock on REF_OUT, Hz; 0 is off. -/
  | refOut (hz : Nat)
  /-- Bytes on the serial line to the GNSS receiver. -/
  | serial (bytes : List Byte)
  /-- A pin or line driven to a level. -/
  | pin (name : String) (level : Bool)
  /-- Unit 0: a row of the panel scan, with the three column currents and its 96 on-times (R406).
  Unit 1: a frame of the strip, with the level codes of its segments (R421). -/
  | drive (unit idx : Nat) (vals : List Nat)
  /-- The panel's discharge: rows low and columns at ground for four slots (R416). -/
  | discharge
  /-- A value delivered to a fabric requester. -/
  | reply (requester : Nat) (value : Word)
deriving DecidableEq, Repr

/-! ### Register fabric and leats (R21 to R32, R101 to R112) -/

/-- A request on the set-point leat: requester, address, the value of a write or none for a read,
and for a read the transaction and place its reply belongs to (R28, R29). -/
structure LeatReq where
  requester : Nat
  addr : Nat
  val : Option Word := none
  txn : Nat := 0
  idx : Nat := 0
deriving DecidableEq, Repr

/-- A read reply on its way back on the event leat (R29). -/
structure LeatReply where
  requester : Nat
  addr : Nat
  txn : Nat
  idx : Nat
  value : Word
deriving DecidableEq, Repr

/-- What waits for the values of a host read. -/
inductive TxnKind where
  /-- a KMP request: session (0xFF in bare mode), OP, its COUNTER -/
  | kmp (session op ctr : Nat)
  /-- a Modbus request: connection, header of its answer, function code -/
  | modbus (conn : Nat) (hdr : List Byte) (fc : Nat)
  /-- the outstanding read of the host SPI port -/
  | hspi
  /-- a single read whose value is sent as it is -/
  | direct
deriving DecidableEq, Repr

/-- A host read in progress: how many values it needs and those that have come. -/
structure Txn where
  id : Nat
  requester : Nat
  kind : TxnKind
  need : Nat
  got : List (Nat × Word) := []
  /-- For each Modbus register of the reply: which value, and whether its upper half. -/
  shape : List (Nat × Bool) := []
deriving DecidableEq, Repr

/-- The register fabric and the leats. -/
structure Fabric where
  /-- control arm of the set-point leat, at most 64 requests (R28, R103) -/
  ctl : List LeatReq := []
  /-- data arm, at most 64 requests (R28) -/
  dat : List LeatReq := []
  /-- requests the fabric holds because their arm is full, in order of arrival (R28) -/
  held : List LeatReq := []
  /-- read replies on the event leat (R29) -/
  replies : List LeatReply := []
  /-- host reads in progress -/
  txns : List Txn := []
  nextTxn : Nat := 1
  /-- captured members of latch groups, by requester * 2^24 + address (R110) -/
  caps : List (Nat × Word) := []
  /-- management registers that are locked (R108) -/
  locked : Bool := false
deriving DecidableEq, Repr

/-- The estimate leat and the actuation table (R23 to R27). -/
structure Estimates where
  /-- back bank, the words of the entries, keyed 4 n + word (R23) -/
  back : List (Nat × Word) := []
  /-- front bank (R23) -/
  front : List (Nat × Word) := []
  /-- entries written in this epoch (R24) -/
  written : List Nat := []
  /-- actuation values of the front and back bank, binary32, keyed by entry (R27) -/
  actBack : List (Nat × Word) := []
  actFront : List (Nat × Word) := []
  /-- network-output values on the event leat, by output (R36, R143) -/
  netout : List (Nat × F32) := []
  /-- value of each network output last sent to its server since the module started (R305) -/
  netSent : List (Nat × F32) := []
deriving DecidableEq, Repr

/-! ### Event recorder (R431 to R447) -/

/-- The part of a record its source writes (R431). -/
structure Submit where
  code : Nat
  sev : Nat
  p0 : Nat := 0
  p1 : Nat := 0
  p2 : Nat := 0
  prov : Bool := false
deriving DecidableEq, Repr

/-- A record as the pond stamps it (R431, R432). -/
structure LogRec where
  seq : Nat
  optime : Nat
  pcc : Nat
  src : Nat
  flood : Bool
  body : Submit
deriving DecidableEq, Repr

/-- The event recorder: FIFOs, pond, log flash die. -/
structure Recorder where
  /-- intake FIFOs by port, at most 16 records each (R31, R435) -/
  fifos : List (Nat × List Submit) := []
  /-- drops of port 0 while the recorder is in reset, and the operating time of the first (R435, R436) -/
  aonDrops : Nat := 0
  aonSince : Nat := 0
  /-- port the arbiter served last (R435) -/
  rr : Nat := 15
  /-- records in the pond, in SEQ order, not yet flushed (R435, R437) -/
  pond : List LogRec := []
  /-- next SEQ (R434) -/
  nextSeq : Nat := 1
  /-- reservation limit L in the counter area (R434) -/
  limit : Nat := 257
  /-- last flushed SEQ, F (R441) -/
  flushed : Nat := 0
  /-- flush-end entry or completion marker newer than every reservation: last SEQ assigned, A -/
  flushEnd : Option Nat := some 0
  /-- the last 262,144 records flushed, oldest first (R439) -/
  tail : List LogRec := []
  /-- the headrace, oldest first, at most 65,536 records (R438) -/
  head : List LogRec := []
  /-- records of the page being programmed (R437) -/
  inFlight : Option Nat := none
  /-- record place in the ring where the next page goes, 0 to 425,983 (R437) -/
  place : Nat := 0
  /-- erased sectors ahead of the write point, and whether the flush waits for the pool (R439) -/
  pool : Nat := 1280
  paused : Bool := false
  /-- sectors whose erase is due or running, tailrace and headrace (R438, R439) -/
  erasing : Nat := 0
  headErasing : Nat := 0
  /-- erase count of each ring sector (R445) -/
  erases : List (Nat × Nat) := []
  /-- sectors retired from the ring (R445) -/
  retired : List Nat := []
  /-- the next percent of rated wear to report (R445) -/
  wearNext : Nat := 0
  /-- drops since OVERFLOW became 1: count, ports, operating time of the first (R436) -/
  ovCount : Nat := 0
  ovPorts : Nat := 0
  ovSince : Nat := 0
  /-- operating time at which the freeze in force was set (R444) -/
  freeze : Option Nat := none
  /-- SEQ of the 0xA003 record of a clear without its clear-done entry (R438) -/
  clearPending : Option Nat := none
  /-- next SEQ the syslog export looks at, datagrams in this second, skipped this minute (R446) -/
  sysNext : Nat := 1
  sysSecond : Nat := 0
  sysSent : Nat := 0
  sysSkipped : Nat := 0
deriving DecidableEq, Repr

/-! ### Power monitor, resets and life counters (R58 to R80, R498 to R500) -/

/-- A sluice in progress (R65). -/
structure Sluice where
  /-- the sluice of a command reset, with no PFAIL so far (R77, R500) -/
  cmd : Bool
  /-- the step that runs: 3 flush, 4 last word, 5 marker -/
  step : Nat := 3
  /-- PFAIL asserted before step 3 ended (R500) -/
  pfailInTime : Bool := false
  /-- a thermal halt was signalled during the sluice (R69) -/
  halted : Bool := false
  lwDone : Bool := false
  lwSkipped : Bool := false
  flushTime : Nat := 0
  records : Nat := 0
deriving DecidableEq, Repr

/-- The always-on block's power monitor and what it keeps in the counter area of the log flash.
(DESIGN CHOICE, log entry 3.) -/
structure Power where
  /-- PLANE_RST of each plane (R22, R60) -/
  rstCp : Bool := true
  rstDp : Bool := true
  rstMp : Bool := true
  /-- every logic rail within tolerance for 1 ms (R60) -/
  railsReady : Bool := false
  /-- V1P8 fell to 1.50 V or below; the always-on block has stopped (R60) -/
  collapsed : Bool := false
  /-- TESTMODE as sampled (R54) -/
  testmode : Bool := false
  /-- BOOTSEL and REFSEL as sampled, [2] BOOTSEL, [1:0] REFSEL (R54) -/
  straps : Nat := 0
  /-- PFI is below its threshold and the deglitch time runs (R62) -/
  pfiBelow : Bool := false
  /-- the two strip rails, good one by one (R61) -/
  vepP : Bool := false
  vepN : Bool := false
  sluice : Option Sluice := none
  /-- the sluice-done state (R70) -/
  sluiceDone : Bool := false
  /-- a power-fail record was made and no marker has been written since (R70) -/
  unmarked : Bool := false
  /-- the marker of the last sluice says step 4 was skipped; 0x1004 is due at the next start (R67) -/
  skipReport : Bool := false
  /-- PWR_SLUICE_LAST as the last completion marker gives it -/
  marker : Word := 0
  /-- life counters and site time as saved in the log flash (R79, R154) -/
  savedOptime : Nat := 0
  savedPcc : Nat := 0
  savedSite : Nat := 0
  /-- the SAFE line (R22) -/
  safe : Bool := false
  /-- the two CUT lines (R22) -/
  cutP0 : Bool := false
  cutP1 : Bool := false
  /-- nRSTOUT is high (R78) -/
  rstOut : Bool := false
  /-- REF_IN was abandoned since the last reset of the planes (R75) -/
  refLeft : Bool := false
deriving DecidableEq, Repr

/-! ### Caddy and boot (R81 to R100) -/

/-- What the module keeps without power besides the log flash: configuration flash, one-time words.
(DESIGN CHOICE, log entry 3.) -/
structure NonVol where
  /-- configuration flash bytes, erased 0xFF (R81, R82) -/
  flash : List (Nat × Byte) := []
  /-- the flash runs in 8D-8D-8D (R81) -/
  octal : Bool := true
  /-- where a slot gives a read error: 1 within the first checks, 2 from check 7 on, 3 in the sections
  (R89) -/
  bad : List (Nat × Nat) := []
  /-- hash words of the four key slots (R87) -/
  keyHash : List (Nat × Word) := []
  keyProg : Nat := 0
  keyRev : Nat := 0
  /-- module unique number and MAC address, one-time words (R114, R118) -/
  uid : Nat := 0
  mac : Nat := 0
deriving DecidableEq, Repr

/-- One entry of the section table (R84). -/
structure Section where
  type : Nat
  inst : Nat
  version : Nat
  offset : Nat
  length : Nat
  digest : List Byte
deriving DecidableEq, Repr

/-- A swap in progress (R97 to R100). -/
structure Swap where
  /-- the slot that becomes active -/
  slot : Nat
  /-- TYPE and INSTANCE of the sections found changed, in the order of R98 -/
  changed : List (Nat × Nat)
  /-- the slot whose contents the blocks hold where the swap has not reached -/
  base : Nat
  /-- the swap goes back (R100): the section rejected -/
  bad : Option (Nat × Nat) := none
  /-- bodies that were paused when the swap turned back: they hold the state of the other geometry -/
  kept : List Nat := []
  /-- sections applied so far, in order -/
  applied : List (Nat × Nat) := []
  /-- bodies that pause together, and bodies that take their turn for common microcode -/
  together : List Nat := []
  turn : List Nat := []
  /-- the sections of the bodies that pause together are written -/
  written : Bool := false
  /-- operating time at which the swap began -/
  began : Nat := 0
deriving DecidableEq, Repr

/-- The caddy loader. -/
structure Caddy where
  /-- 0 idle, 1 first pass, 2 second pass, 3 loaded, 4 bare mode -/
  phase : Nat := 0
  /-- slot being loaded or active -/
  slot : Nat := 0
  /-- the slot is the second choice (R90) -/
  fallback : Bool := false
  /-- SHA-256 of the signed message in the first pass (R91) -/
  firstHash : List Byte := []
  swap : Option Swap := none
  /-- bodies paused for a swap or an import (R98, R298) -/
  swapPaused : List Nat := []
  /-- the management firmware is restarting (R98) -/
  fwRestart : Bool := false
  /-- a caddy write over KMP runs (R96) -/
  writing : Bool := false
deriving DecidableEq, Repr

/-! ### Time unit (R152 to R171) -/

/-- One PTP port (R169, R170). -/
structure PtpPort where
  /-- sequence numbers of Announce and Sync -/
  annSeq : Nat := 0
  syncSeq : Nat := 0
deriving DecidableEq, Repr

/-- The time unit and the local copies of site time; times are ns on the PTP timescale. (DEDUCED, log entry 8.) -/
structure TimeUnit where
  /-- site time (R152) -/
  site : Nat := 0
  /-- local copies of the planes and the always-on block (R32) -/
  cp : Nat := 0
  dp : Nat := 0
  mp : Nat := 0
  aon : Nat := 0
  /-- the state before ACQUIRE (R155) -/
  prev : Nat := 0
  /-- consecutive valid GNSS seconds in FREE or HOLDOVER -/
  validRun : Nat := 0
  /-- consecutive seconds with a phase error under 100 ns in ACQUIRE -/
  goodRun : Nat := 0
  /-- LOCKED was reached since the start (R163) -/
  locked1 : Bool := false
  /-- a host set site time (R155) -/
  hostSet : Bool := false
  /-- a step decided and not yet applied, ms (R165) -/
  step : Option Int := none
  /-- site time at which it was decided, ns -/
  stepFrom : Nat := 0
  /-- running time since the planes started, µs: it takes no step -/
  mono : Nat := 0
  /-- phase still to slew, ns -/
  slew : Int := 0
  /-- the part of the root trim that corrects frequency, and the trims of the last 60 s with the running
  time at which each took over, newest first; 0.01 ppm (R156, R162) -/
  freq : Int := 0
  trims : List (Nat × Int) := []
  /-- stamp of the last valid PPS edge, compensated (R157) -/
  edge : Option Nat := none
  /-- UTC time of day of the last valid sentence, ns (R158) -/
  utc : Option Nat := none
  /-- the last valid edge has no label yet -/
  edgeFresh : Bool := false
  /-- invalid sentences in the minute (R159) -/
  badMinute : Nat := 0
  /-- nGNSS_RST held low; operating time of the last receiver reset and of the last valid GNSS second
  (R160) -/
  rstLow : Bool := false
  lastRst : Option Nat := none
  lastValid : Nat := 0
  /-- running time of the last PPS_OUT edge, µs (R165) -/
  lastPps : Option Nat := none
  /-- PPS_OUT is high -/
  ppsHigh : Bool := false
  /-- PTP ports E0 and E1 -/
  ptp : List (Nat × PtpPort) := []
  /-- time epoch of Sprinline, and the sizes in ms of the last three steps, newest first (R189) -/
  tepoch : Nat := 0
  steps : List Int := []
  /-- receiver set-up text of the network section (R160) -/
  setup : List Byte := []
deriving DecidableEq, Repr

/-! ### Host interfaces (R115 to R151) -/

/-- A KMP session, beyond its register (R124 to R128). -/
structure Session where
  /-- pending: no datagram accepted yet -/
  pending : Bool := false
  key : List Byte := []
  /-- highest counter accepted and the counters accepted at or below it (R126) -/
  high : Nat := 0
  seen : List Nat := []
  /-- next counter of the module's own direction (R126) -/
  sendCtr : Nat := 1
  /-- client IPv4, and running time of the last accepted datagram, µs -/
  client : Nat := 0
  last : Nat := 0
deriving DecidableEq, Repr

/-- What a bulk transfer carries (R132). -/
inductive XferKind where
  /-- CUP READ from an offset of the cup region -/
  | cup (offset : Nat)
  /-- CADDY WRITE into a slot; a swap follows when asked -/
  | caddy (slot : Nat) (swap : Bool)
  /-- SNAPSHOT export: bodies in the file -/
  | snapOut (bodies : List Nat)
  /-- SNAPSHOT import: the body, or 255 for all -/
  | snapIn (body : Nat)
deriving DecidableEq, Repr

/-- A bulk transfer in progress (R132). -/
structure Xfer where
  /-- 0 to 7, or 0xFF in bare mode -/
  session : Nat
  /-- OP and COUNTER of the request -/
  op : Nat
  ctr : Nat
  kind : XferKind
  /-- length in bytes; none while an import's header is still to come -/
  len : Option Nat
  /-- acknowledged offset: of the client for a stream out, of the module for one in -/
  acked : Nat := 0
  /-- next offset to send, or expected -/
  next : Nat := 0
  /-- DATA datagrams received since the last ACK -/
  since : Nat := 0
  /-- the file of an export, or what an import has received -/
  data : List Byte := []
  /-- an import whose data have come waits for its bodies to pause -/
  ready : Bool := false
deriving DecidableEq, Repr

/-- A poll of a client server in progress or its last outcome (R141 to R143). -/
structure Client where
  /-- transactions of the poll still to send: PDU, and the output and value it carries -/
  todo : List (List Byte × Option (Nat × F32)) := []
  /-- a transaction waits for its response, and its PDU -/
  waiting : Bool := false
  cur : List Byte := []
  /-- a transaction of the poll failed -/
  failed : Bool := false
  /-- the poll runs -/
  polling : Bool := false
  /-- the next poll has fallen due while it ran (R141) -/
  due : Bool := false
  /-- the server has gone DOWN and has not been UP since -/
  down : Bool := false
  /-- consecutive polls with a failed transaction -/
  run : Nat := 0
  /-- seconds to the next reconnect -/
  retry : Nat := 1
deriving DecidableEq, Repr

/-- An outstanding read of the host SPI port: TAG, ADDR, value once it has returned (R146). -/
structure HspiRead where
  tag : Nat
  addr : Nat
  value : Option Word := none
deriving DecidableEq, Repr

/-- The host interfaces, beyond their registers. -/
structure Net where
  /-- the network and security section in use (R120, R123, R138) -/
  keys : List (List Byte × Bool) := []
  dhcp : Bool := false
  stat : List Word := []
  map : List Config.MbEntry := []
  readback : List (Nat × Nat) := []
  /-- nonces of the last 64 HELLOs received, newest first (R124) -/
  nonces : List (List Byte) := []
  sessions : List (Nat × Session) := []
  xfers : List Xfer := []
  /-- tag failures of the second and their last sender (R127) -/
  tagFails : Nat := 0
  tagFrom : Nat := 0
  /-- learned MAC addresses and their ports (R115) -/
  macs : List (Nat × Nat) := []
  /-- broadcast frames and drops of the second, by Ethernet port (R117) -/
  storm : List (Nat × (Nat × Nat)) := []
  /-- IP datagrams to a PTP port whose later fragments may come, newest first (R116) -/
  ptpFrags : List (List Byte) := []
  /-- port LEDs that are high for traffic: port, and running time at which they fall, µs (R118) -/
  leds : List (Nat × Nat) := []
  /-- ICMP echo replies of the second, and that operating second (R121) -/
  echoes : Nat := 0
  echoSec : Nat := 0
  /-- an IPv4 address is being probed (R120); running time at which the lease ends, µs -/
  probing : Bool := false
  leaseEnd : Nat := 0
  /-- DHCP address in conflict, its mask and gateway, and when its lease ends, µs of running time (R120) -/
  cand : Option (Word × Word × Word × Nat) := none
  /-- the address in `stat` is a link-local one of bare mode (R94) -/
  ll : Bool := false
  /-- open Modbus connections, and requests that wait for the one in execution (R135) -/
  conns : List Nat := []
  /-- those over IPv4 -/
  conns4 : List Nat := []
  mbQueue : List (Nat × List Byte) := []
  /-- the request in execution ends after a read: header bytes of its reply are in its transaction -/
  mbBusy : Bool := false
  clients : List (Nat × Client) := []
  hspi : Option HspiRead := none
  /-- running time of the last heartbeat, of the last counted one and of the trip, µs (R149 to R151) -/
  beat : Nat := 0
  counted : Option Nat := none
  tripAt : Nat := 0
deriving DecidableEq, Repr

/-! ### Sprinline (R172 to R197) -/

/-- A Sprinline node record (R272). -/
structure NodeRec where
  p : Nat
  addr : Nat
  pollDiv : Nat
  uid : Nat
  periodMs : Nat
deriving DecidableEq, Repr

/-- An entry of the node table (R197), and what the master keeps of the node. -/
structure SprinNode where
  uid : Nat := 0
  /-- 0 empty, 1 present, 2 missing -/
  state : Nat := 0
  inMap : Bool := false
  uncal : Bool := false
  status : Nat := 0
  delay : Nat := 0
  v01 : Word := 0
  v23 : Word := 0
  sample : Word := 0
  fails : Nat := 0
  pollDiv : Nat := 0
  alarmCode : Nat := 0
  alarmSeq : Nat := 0
  alarmValue : Nat := 0
  /-- an alarm of the node has been acknowledged since the entry was made (R186) -/
  alarmed : Bool := false
  /-- the address was assigned since the cable was last powered (R190) -/
  assigned : Bool := false
  /-- consecutive cycles in which the poll failed, and the last reason (R185) -/
  run : Nat := 0
  reason : Nat := 0
  /-- the last reply showed ALARM_PENDING (R187) -/
  pending : Bool := false
deriving DecidableEq, Repr

/-- A work item that has ended: what it was (an address, a step end), DONE 0, FAILED 1 or CANCELLED 2,
and its reason byte (R14). -/
structure ItemEnd where
  item : Nat
  status : Nat
  reason : Nat
deriving DecidableEq, Repr

/-- What the master of a port waits for after its last frame (R183 to R192). -/
inductive BusWait where
  | idle
  | host (addr code : Nat)
  | identify (addr : Nat)
  | poll (addr : Nat) (retry alarmReq : Bool)
  | call
  /-- an ENUM QUERY: prefix length and prefix, or the new-node scan -/
  | query (n pfx : Nat)
  | scan
  | assign (uid addr : Nat)
  /-- MEASURE: address, values of RTT − TURN_NS in ns so far (none: the set has failed), set number -/
  | measure (addr : Nat) (got : List (Option Int)) (set : Nat)
  | setDelay (addr : Nat)
  | setSample (addr : Nat)
deriving DecidableEq, Repr

/-- What the search of R190 does next. -/
inductive SearchStep where
  | start
  | root
  | bit (n pfx : Nat)
  | assign (uid : Nat)
  | measure (addr : Nat) (got : List (Option Int)) (set : Nat)
  | delay (addr ns : Nat)
  | sample (addr : Nat)
deriving DecidableEq, Repr

/-- An enumeration search in progress (R190). -/
structure Search where
  todo : SearchStep := .start
  failures : Nat := 0
  /-- running time at its start, µs -/
  began : Nat := 0
deriving DecidableEq, Repr

/-- A Sprinline port, beyond its registers. -/
structure SprinPort where
  nodes : List (Nat × SprinNode) := []
  wait : BusWait := .idle
  /-- site time of the cycle start, ns; within the cycle, ns: the bus is free, and the last frame
  ended -/
  start : Nat := 0
  free : Nat := 0
  busy : Nat := 0
  /-- the cycle's steps still to do: identify and host command, search or scan, polls, alarm calls -/
  identify : Option Nat := none
  hostTurn : Bool := false
  searchTurn : Bool := false
  polls : List Nat := []
  calls : Nat := 0
  running : Bool := false
  /-- the next cycle starts this many ns after `start` (R183, R196) -/
  limit : Nat := 0
  /-- the sensor map's nodes of the port, as the running cycle took them (R196) -/
  recs : List NodeRec := []
  /-- the search has had a transaction in this cycle (R192) -/
  searched : Bool := false
  /-- the new-node scan is due in this cycle (R192) -/
  scanDue : Bool := false
  /-- polls that have ended, newest first (R14, R196) -/
  ends : List ItemEnd := []
  /-- polls deferred from the previous cycle (R184) -/
  deferred : List Nat := []
  search : Option Search := none
  cycle : Nat := 0
  /-- the supply is off for the 1 s of ACTION 2 -/
  cycling : Bool := false
  /-- operating time of the last entry to STUCK (R195) -/
  stuckAt : Option Nat := none
  /-- FAULTED by a LASTING self-test outcome (R195, R450) -/
  lasting : Bool := false
  /-- state before TEST (R195) -/
  prev : Nat := 0
  /-- counts of the minute: deferred polls, CRC and framing errors, timeouts, others -/
  mDeferred : Nat := 0
  mErrors : Nat := 0
  mTimeouts : Nat := 0
  mOther : Nat := 0
deriving DecidableEq, Repr

/-! ### Sensor map and crop tables (R232, R253, R270 to R274, R290, R292) -/

/-- A calibration record of a field input (R272); words are binary32. -/
structure FieldCal where
  sigmaSet : Bool := false
  ntcSet : Bool := false
  a : F32 := 0
  b : F32 := 0
  c : F32 := 0
  c0 : F32 := 0
  /-- Re and Im of Y_open at 1, 5 and 20 MHz -/
  yopen : List F32 := []
  sigma : F32 := 0
deriving DecidableEq, Repr

/-- An anchor record (R274). -/
structure Anchor where
  source : Word
  body : Nat
  qty : Nat
  gain : Nat
  noHold : Bool
  cell : Nat
  rh : Nat
  rv : Nat
  sigma : F32
  bias : F32
  gate : F32
deriving DecidableEq, Repr

/-- A publication record (R290). -/
structure Pub where
  entry : Nat
  kind : Nat
  body : Nat
  arg0 : Word
  qty : Nat
  firm : Bool
deriving DecidableEq, Repr

/-- An air boundary record (R253). -/
structure AirBound where
  kind : Nat
  body : Nat
  face : Nat
  sEntry : Nat
  tEntry : Nat
  n1lo : Nat
  n1hi : Nat
  n2lo : Nat
  n2hi : Nat
  n3lo : Nat
  n3hi : Nat
  a0 : F32
  a2 : F32
deriving DecidableEq, Repr

/-- A forecast probe record (R292). -/
structure Probe where
  body : Nat
  probe : Nat
  qty : Nat
  mode : Nat
  tile : Nat
  horizon : Nat
deriving DecidableEq, Repr

/-- The loaded sensor map (R270). -/
structure SensorMap where
  cal : List (Nat × FieldCal) := []
  nodes : List NodeRec := []
  anchors : List Anchor := []
  pubs : List Pub := []
  /-- actuation map words, entry 0 first (R273) -/
  acts : List Word := []
  bounds : List AirBound := []
  probes : List Probe := []
deriving DecidableEq, Repr

/-! ### Field inputs, analog outputs, pulse inputs (R198 to R215) -/

/-- A field input, beyond its registers. -/
structure FieldIn where
  /-- output periods still to settle (R204) -/
  settle : Nat := 0
  /-- consecutive samples without a BROKEN condition (R205) -/
  goodRun : Nat := 0
  /-- the current shunt is open (R205) -/
  shuntOpen : Bool := false
deriving DecidableEq, Repr

/-- A pulse input, beyond its registers; stamps in ns of site time (R214, R215). -/
structure Pulse where
  /-- accepted edges that a gate can still hold, newest first -/
  edges : List Nat := []
  /-- the last accepted edge, and the interval between the last two -/
  last : Option Nat := none
  interval : Option Nat := none
  /-- the accepted level; none before the first accepted change -/
  level : Option Bool := none
  /-- OVERRATE was set in this minute -/
  overMinute : Bool := false
deriving DecidableEq, Repr

/-! ### Millstone (R216 to R298) -/

/-- A cell record, as codes, with its remainder word (R226, R268). -/
structure Cell where
  tg : Nat := 0
  mg : Nat := 0
  ta : Nat := 0
  wa : Nat := 0
  ps : Nat := 0
  dml : Nat := 0
  fill : Nat := 0
  cf : Nat := 0
  um : Nat := 0
  ut : Nat := 0
  /-- remainders of MG, TG and DML in 1/1,024 code -/
  rmg : Int := 0
  rtg : Int := 0
  rdml : Int := 0
  /-- property word (R231) -/
  prop : Nat := 0x8080
deriving DecidableEq, Repr

/-- The fluxes through a cell's three high faces, in 2^-20 kg/(m² s) (R254). -/
structure Flux where
  g1 : Int := 0
  g2 : Int := 0
  gz : Int := 0
deriving DecidableEq, Repr

/-- A sensor reading for an anchor (R274, R283). -/
structure Reading where
  /-- anchor record -/
  anchor : Nat
  value : F32
  sigma : F32
  /-- site time, ns -/
  stamp : Nat
  /-- an aged reading: the next step takes it (R283) -/
  aged : Bool := false
deriving DecidableEq, Repr

/-- What an airflow solve gives: face fluxes and PS codes by cell (R254). -/
abbrev AirField := List (Nat × Flux) × List (Nat × Nat)

/-- An airflow solve in progress, with its class, and what it gives: the field, the Picard passes, the most
V-cycles of one pass and the largest imbalance of a cell in ppm (R255, R256). -/
structure SolveRun where
  cls : Nat
  field : AirField := ([], [])
  passes : Nat := 1
  cycles : Nat := 1
  ppm : Nat := 0
deriving DecidableEq, Repr

/-- The inputs a step reads: the actuation table and the estimate entries (R257, R280). -/
structure StepInputs where
  /-- the actuation table, by entry -/
  acts : List (Nat × Word) := []
  /-- VALUE, SIGMA and VALID of the entries the step reads -/
  ests : List (Nat × (Word × Word × Bool)) := []
deriving DecidableEq, Repr

/-- What a step leaves besides cells: the plug-flow accumulator, the volume carried to the next step,
the core in use (R264 to R266). -/
structure MoveAcc where
  s : F32 := 0
  carry : F32 := 0
  /-- volume still to unload -/
  owe : F32 := 0
  core : Nat := 0
  /-- the step before filled (R266) -/
  filling : Bool := false
deriving DecidableEq, Repr

/-- A delta of the rollback ring (R284). -/
structure Delta where
  /-- step end, ms, and the end of the step before -/
  te : Nat
  prev : Nat
  /-- pre-step records of the cells that changed -/
  cells : List (Nat × Cell)
  tiles : Nat
  inputs : StepInputs
  acc : MoveAcc
  /-- the field that a solve replaced before this step -/
  oldFlux : Option (List (Nat × Flux)) := none
  /-- the field that the step took into use -/
  field : Option AirField := none
  /-- readings assimilated in the step -/
  readings : List Reading := []
  /-- publication results at the step end: VALUE, SIGMA, VALID by record (R291) -/
  pubs : List (Nat × (F32 × F32 × Bool)) := []
  /-- those at the end of the step before -/
  prevPubs : List (Nat × (F32 × F32 × Bool)) := []
deriving DecidableEq, Repr

/-- A step in progress, tile by tile (R237). -/
structure StepRun where
  te : Nat
  inputs : StepInputs
  /-- tiles still to compute -/
  tiles : List Nat
  /-- cells whose inputs hold an uncorrectable error (R239) -/
  bad : List Nat := []
  /-- site time at which the step started, ns -/
  began : Nat
  /-- the step runs again in a rollback (R285), with the readings recorded for it -/
  again : Bool := false
  recorded : List Reading := []
  /-- a new field applies from this step (R256): fluxes, and PS codes by cell -/
  field : Option AirField := none
deriving DecidableEq, Repr

/-- A step that a rollback runs again: its end, its inputs, the readings recorded for it and the field it took
into use (R284, R285). -/
structure ReStep where
  te : Nat
  inputs : StepInputs
  readings : List Reading := []
  field : Option AirField := none
deriving DecidableEq, Repr

/-- A grain body, beyond its registers. -/
structure Body where
  /-- geometry (R220, R221, R222, R233) -/
  rings : List Nat := []
  azimuth : F32 := 0
  wallU : F32 := 0
  zCool : Nat := 0
  zTemper : Nat := 0
  reserve : Nat := 0
  digest : List Byte := []
  base : Nat := 0
  alloc : Nat := 0
  /-- cells, and face fluxes (R254), by cell index -/
  cells : List (Nat × Cell) := []
  flux : List (Nat × Flux) := []
  /-- model time, ms of site time (R280) -/
  tm : Nat := 0
  run : Option StepRun := none
  /-- steps that are due and not begun: their ends and the actuation tables then current (R280) -/
  ready : List (Nat × List (Nat × Word)) := []
  acc : MoveAcc := {}
  /-- deltas, newest first (R284) -/
  ring : List Delta := []
  /-- readings to assimilate, and late ones that a rollback will take (R283, R285) -/
  readings : List Reading := []
  late : List Reading := []
  /-- a rollback in progress: the model time to reach again, and the steps still to run (R285) -/
  rollTo : Option Nat := none
  rollSteps : List ReStep := []
  /-- stamp of the latest reading of each source, ns (R281) -/
  lastStamp : List (Nat × Nat) := []
  /-- an airflow solve queued or in progress, and the class of one further queued (R256) -/
  solving : Option SolveRun := none
  solveAgain : Option Nat := none
  /-- a solved field waits for the next step to start (R256) -/
  newField : Option AirField := none
  /-- model time of the field in use, and end of the latest re-solve step (R495) -/
  solvedAt : Nat := 0
  resolveTe : Option Nat := none
  /-- fan speeds and damper openings of the last solve begun, by air boundary record (R256) -/
  solveS : List (Nat × Word) := []
  /-- a hold and a swap pause wait for the step or the rollback in progress (R243, R286) -/
  holdDue : Bool := false
  pauseDue : Bool := false
  /-- the body is held, whether or not a swap has paused it too, and the site time of the hold, ns (R244) -/
  heldOn : Bool := false
  heldAt : Nat := 0
  /-- a hold longer than the lead was lifted while a swap paused the body: it resumes as from a snapshot (R244) -/
  snapDue : Bool := false
  /-- steps that have ended, by step end, newest first (R14, R243) -/
  ends : List ItemEnd := []
  /-- site time of the hold or pause, ns, and the coarse snapshot taken at it (R244, R294) -/
  stoppedAt : Nat := 0
  staged : List (Nat × Cell) := []
  /-- publication results of the latest step end, and those at firm time with that time, ms (R291) -/
  lastPubs : List (Nat × (F32 × F32 × Bool)) := []
  firmPubs : List (Nat × (F32 × F32 × Bool)) := []
  firm : Nat := 0
  /-- last valid VALUE and SIGMA received of the entries that steps read (R280) -/
  held : List (Nat × (Word × Word)) := []
  /-- cells whose words the scrubber found uncorrectable, for the next step (R461) -/
  badCells : List Nat := []
  /-- an export of the body streams: steps wait (R298) -/
  exporting : Bool := false
  /-- model time at which the next periodic solve is due -/
  nextSolve : Nat := 0
  /-- site time at which the body started, ns, for SEED_WAIT_S (R297) -/
  startedAt : Nat := 0
  /-- counts of the minute, for the records 0x6012, 0x6021 to 0x6023, 0x6030 to 0x6033 -/
  mLate : Nat := 0
  mLag : Nat := 0
  mSubst : Nat := 0
  /-- volume lost above the top layer, m³ (R265) -/
  mLost : F32 := 0
  mUnder : Nat := 0
  mRoll : Nat := 0
  mDeep : Nat := 0
  mAged : Nat := 0
  mOldest : Nat := 0
  mGated : Nat := 0
  mGatedLast : Nat := 0
  mDropped : Bool := false
deriving DecidableEq, Repr

/-- A forecast run: model time and tile records of its start state, whether that was provisional, the inputs
it holds, and the tile-mean SIGMA of each probe (R293). -/
structure FcRun where
  tm : Nat := 0
  prov : Bool := false
  cells : List (Nat × Cell) := []
  inputs : StepInputs := {}
  acc : MoveAcc := {}
  sigma : List (Nat × F32) := []
  /-- the next run fell due while this one ran -/
  next : Bool := false
  /-- it has been counted as waiting under overload (R242) -/
  waited : Bool := false
deriving DecidableEq, Repr

/-- A piece of work that a quad takes whole (R237, R241). -/
inductive Work where
  /-- a tile of the step of a body -/
  | tile (k t : Nat)
  | solve (k : Nat)
  | forecast (k : Nat)
  | snapshot
deriving DecidableEq, Repr

/-- The Millstone. -/
structure Millstone where
  /-- what each logical quad does (R241) -/
  quads : List (Nat × Work) := []
  bodies : List (Nat × Body) := []
  /-- crop table words, keyed 64 crop + word (R232) -/
  crops : List (Nat × Word) := []
  /-- microcode sections loaded, by INSTANCE (R234) -/
  microcode : List Nat := []
  /-- a forecast run queued or in progress, by body (R293) -/
  forecasts : List (Nat × FcRun) := []
  /-- a snapshot in progress: bodies still to contribute, contributions so far: model time, geometry digest,
  tile records (R295) -/
  snapWait : List Nat := []
  snapGot : List (Nat × (Nat × List Byte × List (Nat × Cell))) := []
  snapBusy : Bool := false
  /-- its write has been counted as waiting under overload (R242) -/
  snapWaited : Bool := false
  /-- highest SNAP_SEQ used -/
  snapSeq : Nat := 0
  /-- readings forwarded to anchors that have not arrived yet, oldest first (R185, R283) -/
  inbox : List Reading := []
deriving DecidableEq, Repr

/-! ### Governor and cup (R299 to R341) -/

/-- What a source showed at a slot's latest latch (R309): VTIME and UPDATES of an entry, or the count
of windows or monitor samples. -/
structure Mark where
  vtime : Word := 0
  count : Nat := 0
deriving DecidableEq, Repr

/-- Supervision of one source of a measured output (R330 to R334). -/
structure Track where
  /-- the last FREEZE_N fresh values, newest first, with the prediction at each, engineering units -/
  hist : List (F32 × F32) := []
  /-- consecutive fresh samples outside PLAUS_BOUND -/
  plaus : Nat := 0
  /-- why it is suspect: 1 stale, 2 frozen, 4 implausible; 0 not suspect -/
  cause : Nat := 0
  /-- running time at which it was found, µs -/
  found : Nat := 0
  /-- consecutive samples that meet R332 -/
  restore : Nat := 0
  /-- first value of the frozen run -/
  ref : Option F32 := none
  /-- the coast has ended; its ACTION is not yet taken -/
  coasted : Bool := false
  owed : Bool := false
  /-- samples counted after the primary source passed R332 (R334) -/
  good : Option Nat := none
deriving DecidableEq, Repr

/-- Supervision of one measured output. -/
structure Supervision where
  cur : Track := {}
  /-- the primary source while the backup replaces it -/
  prim : Track := {}
  onBackup : Bool := false
  /-- running time at which the backup took over, µs -/
  since : Nat := 0
  /-- fall-back in force for this output: 0 none, 1 backup, 2 hold, 3 safe -/
  level : Nat := 0
deriving DecidableEq, Repr

/-- The infusion generator of a slot (R336). -/
structure Infusion where
  k : Nat := 0
  /-- LFSR, and the bit it shifted out last -/
  lfsr : Nat := 0
  bit : Bool := false
  /-- phase in radians, binary32 -/
  phi : F32 := 0
  done : Bool := false
deriving DecidableEq, Repr

/-- A loop slot, beyond its registers. -/
structure Slot where
  /-- requested mode that waits for a latch, and whether a swap asked for it (R303, R323) -/
  request : Option Nat := none
  bySwap : Bool := false
  /-- the open-loop path of a swap: 1 OPEN is asked for, 2 the words are written, 0 none (R98, R323) -/
  swapStep : Nat := 0
  /-- a swap added the slot: START at its latch (R302) -/
  added : Bool := false
  /-- window words in use, by offset; the registers hold the words as written (R319, R320) -/
  win : List (Nat × Word) := []
  /-- words written and not yet in use, oldest first, and whether they reached the window at or before
  the previous latch (R320, R492) -/
  waiting : List (Nat × Word × Bool) := []
  /-- xp and x (R315), section states (R317), Q8.24 -/
  xp : List (Nat × Int) := []
  x : List (Nat × Int) := []
  s1 : List (Nat × Int) := []
  s2 : List (Nat × Int) := []
  /-- last fresh y_0 of the biquad law (R310) -/
  y0 : Int := 0
  /-- u that the last sample applied and whether one has, u_prev, and u_prev as entry to START set it, by
  actuator -/
  u : List (Nat × Int) := []
  ran : Bool := false
  uPrev : List (Nat × Int) := []
  uStart : List (Nat × Int) := []
  /-- last output in engineering units, by actuator; what it was before the outputs of instant `outAt`, which
  leave 20 µs after it (R307) -/
  out : List (Nat × F32) := []
  outPrev : List (Nat × F32) := []
  outAt : Option Nat := none
  /-- running time at which an actuator stopped following, µs, by actuator (R314) -/
  away : List (Nat × Nat) := []
  /-- a network output's server was UP since entry to START; value fed while it is DOWN (R314) -/
  everUp : List (Nat × Bool) := []
  netHold : List (Nat × Int) := []
  /-- last reference that was no NaN, engineering units and normalised (R311) -/
  ref : List (Nat × F32) := []
  rq : List (Nat × Int) := []
  /-- references that come from a slot (R327) -/
  casc : List Nat := []
  /-- what the sources showed at the last latch, keyed 2 j, 2 j + 1 for a backup (R309) -/
  marks : List (Nat × Mark) := []
  sup : List (Nat × Supervision) := []
  /-- TEST_MIN minutes in TEST have passed -/
  testOver : Bool := false
  inf : Infusion := {}
  /-- the generator restarts at the next latch -/
  infRestart : Bool := false
  /-- samples not run in a lockstep hold (R318) -/
  missed : Nat := 0
  /-- counts of the minute for the records 0x5004 and 0x5005, and the last outcome not DONE -/
  mSat : Nat := 0
  mBad : Nat := 0
  mLast : Nat := 0
deriving DecidableEq, Repr

/-- The cup (R337 to R340). -/
structure Cup where
  /-- records formed and not yet carried to the data plane, without SEQ, and their t_k in ns (R337) -/
  formed : List (Nat × List Byte) := []
  /-- bytes of the cup region -/
  mem : List (Nat × Byte) := []
  /-- place and length of the records held, oldest first -/
  held : List (Nat × Nat) := []
  /-- byte after the last complete record, and records since the capture started -/
  place : Nat := 0
  count : Nat := 0
deriving DecidableEq, Repr

/-! ### Valve banks (R342 to R374) -/

/-- A valve channel, beyond its registers (R346 to R368). -/
structure Channel where
  /-- ID of the profile's item in force (R351) -/
  item : Option Nat := none
  /-- HOLD_MS of the profile, and the hold end in µs of running time (R347, R351) -/
  hold : Nat := 0
  holdEnd : Nat := 0
  /-- the profile started from IDLE (R357, R363) -/
  fromIdle : Bool := false
  /-- the peak target was reached (R347) -/
  reached : Bool := false
  /-- the motion window is open (R357) -/
  window : Bool := false
  /-- MOTION of the latest profile that judged motion: 1 moved, 2 no motion, 0 none since reset (R359) -/
  judged : Nat := 0
  /-- reason of a STUCK or NONE verdict given in this profile (R365) -/
  verdict : Option Nat := none
  /-- a third STUCK verdict faults the channel when this profile's release ends (R365) -/
  stuck : Bool := false
  /-- the probe is due in this profile: 1 after MOTION 2, 2 for a stage self-test (R364, R367) -/
  probeDue : Nat := 0
  /-- the next profile runs the probe of a stage self-test (R367) -/
  probeNext : Bool := false
  /-- deferred command: ID, continuous, HOLD_MS (R353) -/
  deferred : Option (Nat × Bool × Nat) := none
  /-- current still decays through the freewheel diode after a release (R349) -/
  decay : Bool := false
  /-- the released profile's item with its outcome, which ends with the release (R351) -/
  relItem : Option (Nat × Nat × Nat) := none
  /-- disabled by itself (R368) -/
  disSelf : Bool := false
  /-- ended 1 ms intervals, and those in which the channel was energised, newest first (R361) -/
  intervals : Nat := 0
  energised : List Nat := []
  /-- energised at some instant of the interval in progress (R361) -/
  touched : Bool := false
  /-- words of a swap that wait for the end of the work item: offset and word, oldest first (R98) -/
  table : List (Nat × Word) := []
deriving DecidableEq, Repr

/-- An entry of a completion queue (R371). -/
structure CqEntry where
  id : Nat
  ch : Nat
  status : Nat
  reason : Nat
  seq : Nat
deriving DecidableEq, Repr

/-- A valve bank, beyond its registers. -/
structure Bank where
  /-- channels with a deferred command, oldest first (R353) -/
  queue : List Nat := []
  /-- completion queue, oldest first, at most 32 entries (R371) -/
  cq : List CqEntry := []
  nextSeq : Nat := 0
  /-- entries lost in the minute (R371) -/
  lostMinute : Nat := 0
deriving DecidableEq, Repr

/-- The valve stages. -/
structure Valves where
  chans : List (Nat × Channel) := []
  banks : List (Nat × Bank) := []
  /-- operating time of the last record 0x3011, by die (R374) -/
  budgetAt : List (Nat × Nat) := []
  /-- channels that a reset of the planes took out of FAULTED, to report (R366) -/
  cleared : List Nat := []
deriving DecidableEq, Repr

/-! ### Fans (R375 to R388) -/

/-- A fan channel, beyond its registers. -/
structure Fan where
  /-- the loop's integral and duty d, binary32; d is 1 until the loop first runs (R384, R385) -/
  integ : F32 := 0
  duty : F32 := 0x3F800000
  /-- VTIME the loop last saw, and that it has not advanced for STALE_S (R385) -/
  vtime : Word := 0
  vstale : Bool := false
  /-- duty code a Governor slot gives (R312, R376) -/
  slot : Option Nat := none
  /-- a measurement window is open (R378) -/
  window : Bool := false
  /-- stamps of the rising edges accepted in the window, µs of site time, oldest first (R379) -/
  edges : List Nat := []
  /-- a stall or short run: 0 none, 1 stall run, 2 short run (R381, R383) -/
  run : Nat := 0
  retries : Nat := 0
  /-- operating time at which the run began -/
  runAt : Nat := 0
  /-- words of a swap's control-plane tables that wait for the end of the run, and that they loaded (R387) -/
  table : List (Nat × Word) := []
  reload : Bool := false
  /-- speed of the last window, rpm; none before the first (R388) -/
  speed : Option F32 := none
  /-- windows that measured a speed (R388) -/
  speeds : Nat := 0
deriving DecidableEq, Repr

/-! ### Thermal guard (R389 to R403) -/

/-- The thermal guard, beyond its registers; thresholds are keyed 2 z + 1 for CUT, 2 z for WARN. -/
structure Guard where
  /-- consecutive samples at or above a threshold, keyed 32 (2 z + t) + n (R396) -/
  counts : List (Nat × Nat) := []
  /-- sensors measured since power-on (R395) -/
  seen : List Nat := []
  /-- consecutive good samples of a broken sensor and of a lost element (R392) -/
  good : List (Nat × Nat) := []
  goodHalf : List (Nat × Nat) := []
  /-- the lost element of a die sensor: 1 the first, 2 the second (R392) -/
  lost : List (Nat × Nat) := []
  /-- fans that the FANS action takes from policy (R398) -/
  fansOver : Nat := 0
  /-- the latest sample of a member lay above the threshold less HYST, keyed as `counts` (R396) -/
  high : List (Nat × Bool) := []
  /-- operating time at which a threshold was entered (R396) -/
  entered : List (Nat × Nat) := []
  /-- thermal halt in force, its zone, its start; the planes are held in reset (R399, R401) -/
  halted : Bool := false
  haltZone : Nat := 0
  haltAt : Nat := 0
  /-- the halt grace runs (R399) -/
  grace : Bool := false
  /-- zones whose HALT action was taken in this halt (R402) -/
  haltZones : List Nat := []
  /-- sensors of the dies whose latest sample was above 110 °C or broken (R402) -/
  hot : List Nat := []
  /-- the cooling test has held, and no sample since was hot; the input is still to return (R402) -/
  cooled : Bool := false
  /-- the last halt was left by a thermal restart: time halted in s, peak, zone, to report (R402) -/
  restarted : Option (Nat × Nat × Nat) := none
deriving DecidableEq, Repr

/-! ### Door panel and last-word strip (R404 to R430) -/

/-- A binding of an event code to an image (R415). -/
structure Binding where
  code : Nat
  image : Nat
  prio : Nat
  hold : Nat
deriving DecidableEq, Repr

/-- The door panel: frame store, tables, scan and ageing state.  Subpixels are keyed by k of R405. -/
structure Display where
  /-- the display assets have loaded (R418) -/
  assets : Bool := false
  /-- frame store bytes (R405) -/
  fb : List (Nat × Byte) := []
  /-- gamma entries, keyed 256 c + index, and curve entries, keyed 32 c + index (R407, R409) -/
  gamma : List (Nat × Nat) := []
  curve : List (Nat × Nat) := []
  /-- bytes of the images, keyed 1536 n + k, and how many images there are (R414) -/
  images : List (Nat × Byte) := []
  imageCount : Nat := 0
  bindings : List Binding := []
  /-- the binding that shows (R415) -/
  showing : Option Binding := none
  /-- rows of the shown image still to copy (R411, R413) -/
  imgDirty : Nat := 0
  /-- on-time of each subpixel in the scan (R407) -/
  pwm : List (Nat × Nat) := []
  /-- column currents of the frame in progress, 0.1 mA, by colour, and its RATE_300 (R413) -/
  current : List (Nat × Nat) := []
  rate300 : Bool := false
  /-- the panel lights from the next frame (R417, R418) -/
  lightNext : Bool := false
  /-- the panel whose VLED is low is lit when VLED returns, else off (R417, R418) -/
  back : Bool := true
  /-- the state a crack blank or discharge returns to or ends in (R416, R419) -/
  prev : Nat := 1
  after : Nat := 1
  /-- operating time at which the crack loop was found open (R419) -/
  crackAt : Nat := 0
  /-- gains in Q2.14 (R409) -/
  gain : List (Nat × Nat) := []
  /-- sense factors in 2^-16 (R410) -/
  sense : List (Nat × Nat) := []
  /-- last Vf_25 and captured VF0, mV (R410) -/
  vf25 : List (Nat × Nat) := []
  vf0 : List (Nat × Nat) := []
  /-- next subpixel of the sense sweep; the sweep began at 0 since the counters were cleared -/
  sweepK : Nat := 0
  sweepFull : Bool := true
  /-- hour in which 0xB005 was last written, by colour, plus one (R409) -/
  heldHour : List (Nat × Nat) := []
deriving DecidableEq, Repr

/-- Stress counters of the panel, which outlive resets of the planes (R408). (DEDUCED, log entry 20.) -/
structure Stress where
  /-- whole LSBs and the carried fraction in 0.1 mA * 40 ns, by subpixel -/
  s : List (Nat × Nat) := []
  frac : List (Nat × Nat) := []
  /-- the counter area's copies -/
  savedS : List (Nat × Nat) := []
  savedFrac : List (Nat × Nat) := []
  savedVf0 : List (Nat × Nat) := []
  savedVf0Set : Bool := false
deriving DecidableEq, Repr

/-- A strip waveform record (R422). -/
structure Wave where
  frames : Nat := 0
  seq0 : Nat := 0
  seq1 : Nat := 0
  seq2 : Nat := 0
  seq3 : Nat := 0
deriving DecidableEq, Repr

/-- A strip waveform in progress (R421 to R428). -/
structure WaveRun where
  /-- 0 normal (host item), 1 sluice, 2 clear, 3 repeat -/
  kind : Nat
  band : Nat
  wave : Wave
  /-- next frame; the dirty marker is being programmed before frame 0 -/
  frame : Nat := 0
  marking : Bool := true
  /-- the last frame is driven and the clean marker is being programmed -/
  ending : Bool := false
  fromSegs : Nat
  toSegs : Nat
  /-- a frame has seen a band two or more away (R424) -/
  seen : Bool := false
deriving DecidableEq, Repr

/-- The last-word strip. -/
structure Strip where
  /-- waveform records, keyed 3 band + kind (R422) -/
  waves : List (Nat × Wave) := []
  run : Option WaveRun := none
  /-- a host item waits (R425) -/
  waiting : Bool := false
  /-- a repeat that waits: the image it drives towards (R424) -/
  repeatTo : Option Nat := none
  /-- a clear that waits: 1 dirty at start, 2 VEP returned (R428) -/
  clear : Nat := 0
  /-- step 4 of the sluice waits, with its band (R427) -/
  lastWord : Option Nat := none
  /-- a dirty marker without a later clean or completion marker, and the image of the last clean
  marker; both in the counter area (R426) -/
  dirty : Bool := false
  cleanShown : Nat := 0
deriving DecidableEq, Repr

/-! ### Reliability (R448 to R466) -/

/-- A self-test that runs or waits for its unit (R453). -/
structure RelTest where
  elem : Element
  /-- started by REL_TEST_CMD -/
  host : Bool := false
  running : Bool := false
deriving DecidableEq, Repr

/-- Fences, tests, lockstep recovery and memory protection. -/
structure Reliability where
  /-- every fenced element (R451, R464) -/
  fenced : List Element := []
  /-- tests in order of detection (R453) -/
  tests : List RelTest := []
  /-- TRANSIENT outcomes: element and operating time (R452) -/
  history : List (Element × Nat) := []
  /-- words of the SRAM macros that have had a correctable error: macro and word (R450) -/
  sramWords : List (Nat × Nat) := []
  /-- redundant rows used by SRAM macro (R450) -/
  sramRows : List (Nat × Nat) := []
  /-- errors of a DRAM row since reset (R450, R459) -/
  rowErrs : List (Nat × Nat) := []
  /-- operating time of the last correctable error of a DRAM row (R450) -/
  rowTime : List (Nat × Nat) := []
  /-- DRAM rows that stay in use without a spare (R460) -/
  unspared : List Nat := []
  /-- correctable DRAM errors in the hour and the last address (R459) -/
  eccHour : Nat := 0
  eccLast : Nat := 0
  /-- words of the DRAM read in this scrub pass (R459) -/
  scrubAt : Nat := 0
  /-- lockstep recovery: mismatching tiles, test verdicts, slots with a FAILED sample (R455) -/
  tiles : List Nat := []
  laneA : Bool := true
  laneB : Bool := true
  failedSlots : Nat := 0
  /-- the lane known to have erred, if one is (R452, R457) -/
  errLane : Option Nat := none
  /-- the checkpoint of the lanes: estimate epoch, MODE and state of each slot, and the inputs and references
  each slot latched since, slot by slot (R454) -/
  ckptEpoch : Word := 0
  ckpt : List (Nat × (Nat × Slot)) := []
  ckptIn : List (Nat × List F32 × List F32) := []
  /-- physical quad that serves each logical quad, where it is the spare (R238) -/
  quadMap : List (Nat × Nat) := []
deriving DecidableEq, Repr

/-- The DRAM spare map in the always-on block (R460): spared row addresses. -/
structure SpareMap where
  rows : List Nat := []
deriving DecidableEq, Repr

/-! ### The whole state -/

/-- The state of the block. -/
structure State where
  /-- commands waiting, first in, first out -/
  pending : List Instr := []
  /-- the registers: address and value, where the value differs from reset (R101) -/
  regs : List (Nat × Word) := []
  /-- how many free values have been taken; the model's own field -/
  freeIdx : Nat := 0
  /-- what the block has sent out, newest first; the model's own field -/
  out : List Output := []
  fab : Fabric := {}
  est : Estimates := {}
  log : Recorder := {}
  pwr : Power := {}
  nv : NonVol := {}
  caddy : Caddy := {}
  net : Net := {}
  tim : TimeUnit := {}
  sprin : List (Nat × SprinPort) := []
  disp : Display := {}
  stress : Stress := {}
  strip : Strip := {}
  rel : Reliability := {}
  spare : SpareMap := {}
  valve : Valves := {}
  fans : List (Nat × Fan) := []
  gov : List (Nat × Slot) := []
  cup : Cup := {}
  /-- monitor samples of each analog output (R309) -/
  aoSeen : List (Nat × Nat) := []
  guard : Guard := {}
  smap : SensorMap := {}
  field : List (Nat × FieldIn) := []
  pulse : List (Nat × Pulse) := []
  mill : Millstone := {}
  /-- the bytes of the two coarse snapshot areas of the configuration flash, none when erased (R82, R295) -/
  snaps : List (Nat × List Byte) := []
deriving DecidableEq, Repr

/-- The machine right after its first power-on reset: every register at its reset value, but the
power-cycle count, the operating time and the cause, which the reset sets (R77, R79), and with every
controller spare row free (R460). (DESIGN CHOICE, log entries 3, 5, 11.) -/
def State.reset : State :=
  { regs := [(Reg.PWR_CYCLE_COUNT, 1), (Reg.PWR_OPTIME_LO, 1), (Reg.PWR_RESET_CAUSE, 1), (Reg.REL_DRAM_SPARE, 64)] }

end Sys2Proof.Machine
end

