-- ==== Sys2Proof/Machine/MillPhysics.lean ====
section
/-! DEFINITION. The equations of a Millstone step: grids, cell records, moist air, equilibrium
moisture, drying, the air march, grain heat and moisture (R217 to R230, R246 to R263, R267, R268).
The spec gives the equations and the tolerance of R269; where it gives no order of evaluation the one
written here is the model's choice. -/

namespace Sys2Proof.Machine

/-! ### Arithmetic (R267): subnormal inputs and results are zero of the same sign -/

def madd (a b : F32) : F32 := ftz (fadd (ftz a) (ftz b))
def msub (a b : F32) : F32 := ftz (fsub (ftz a) (ftz b))
def mmul (a b : F32) : F32 := ftz (fmul (ftz a) (ftz b))
def mdiv (a b : F32) : F32 := ftz (fdiv (ftz a) (ftz b))

/-! ### Grids (R217 to R220) -/

/-- A grid: edges in mm, rings inside the wall by layer for a cylindrical body. -/
structure Grid where
  cyl : Bool := false
  n1 : Nat := 1
  n2 : Nat := 1
  nz : Nat := 1
  e1 : Nat := 0
  e2 : Nat := 0
  ez : Nat := 0
  rings : List Nat := []
deriving DecidableEq, Repr

def Grid.count (g : Grid) : Nat := g.n1 * g.n2 * g.nz
/-- Coordinates and index of a cell (R219). -/
def Grid.c1 (g : Grid) (i : Nat) : Nat := i % g.n1
def Grid.c2 (g : Grid) (i : Nat) : Nat := i / g.n1 % g.n2
def Grid.c3 (g : Grid) (i : Nat) : Nat := i / (g.n1 * g.n2)
def Grid.cell (g : Grid) (a b c : Nat) : Nat := a + g.n1 * (b + g.n2 * c)

/-- A void cell lies outside the wall (R220). -/
def Grid.isVoid (g : Grid) (i : Nat) : Bool :=
  g.cyl && decide (g.rings.getD (g.c3 i) g.n2 ≤ g.c2 i)

/-- Directions in the order of R258 step 1: +z, -z, +n2, -n2, +n1, -n1. -/
def dirs : List Nat := [0, 1, 2, 3, 4, 5]

/-- The neighbour of a cell; θ wraps round. -/
def Grid.nb (g : Grid) (i d : Nat) : Option Nat :=
  let a := g.c1 i
  let b := g.c2 i
  let c := g.c3 i
  match d with
  | 0 => if c + 1 < g.nz then some (g.cell a b (c + 1)) else none
  | 1 => if c = 0 then none else some (g.cell a b (c - 1))
  | 2 => if b + 1 < g.n2 then some (g.cell a (b + 1) c) else none
  | 3 => if b = 0 then none else some (g.cell a (b - 1) c)
  | 4 => if a + 1 < g.n1 then some (g.cell (a + 1) b c) else if g.cyl then some (g.cell 0 b c) else none
  | _ => if a = 0 then (if g.cyl then some (g.cell (g.n1 - 1) b c) else none) else some (g.cell (a - 1) b c)

/-- The neighbour of a cell inside the container: none at an edge of the grid and towards a void cell, such as
outwards at the wall of a cylindrical body (R220, R253). -/
def Grid.inner (g : Grid) (i d : Nat) : Option Nat := (g.nb i d).filter (fun j => !g.isVoid j)

/-- Δθ = 2π/N1. -/
def Grid.dTheta (g : Grid) : F32 := mdiv 0x40C90FDB (fofNat g.n1)

/-- Area of a face, m² (R248). -/
def Grid.area (g : Grid) (i d : Nat) : F32 :=
  let b := g.c2 i
  if d < 2 then
    if g.cyl then mmul (fofRat (g.e2 * g.e2 * (2 * b + 1) : Nat) 2000000) g.dTheta
    else fofRat (g.e1 * g.e2 : Nat) 1000000
  else if d < 4 then
    if g.cyl then mmul (fofRat ((if d = 2 then b + 1 else b) * g.e2 * g.ez : Nat) 1000000) g.dTheta
    else fofRat (g.e1 * g.ez : Nat) 1000000
  else fofRat (g.e2 * g.ez : Nat) 1000000

/-- Volume of a cell, m³ (R248). -/
def Grid.volume (g : Grid) (i : Nat) : F32 :=
  if g.cyl then mmul (fofRat (g.e2 * g.e2 * (2 * g.c2 i + 1) * g.ez : Nat) 2000000000) g.dTheta
  else fofRat (g.e1 * g.e2 * g.ez : Nat) 1000000000

/-- Distance between the centres of neighbours, m. -/
def Grid.dist (g : Grid) (i d : Nat) : F32 :=
  if d < 2 then fofRat g.ez 1000
  else if d < 4 then fofRat g.e2 1000
  else if g.cyl then mmul (fofRat ((2 * g.c2 i + 1) * g.e2 : Nat) 2000) g.dTheta
  else fofRat g.e1 1000

/-- Tile of a cell, and how many there are (R237). -/
def Grid.t1 (g : Grid) : Nat := (g.n1 + 7) / 8
def Grid.t2 (g : Grid) : Nat := (g.n2 + 7) / 8
def Grid.tile (g : Grid) (i : Nat) : Nat :=
  g.c1 i / 8 + g.t1 * (g.c2 i / 8 + g.t2 * (g.c3 i / 8))
def Grid.tiles (g : Grid) : Nat := g.t1 * g.t2 * ((g.nz + 7) / 8)
def Grid.tileCells (g : Grid) (t : Nat) : List Nat := (List.range g.count).filter (fun i => g.tile i = t)

/-! ### Cell records (R226 to R230, R246, R268) -/

/-- A cell as a step computes it. -/
structure Live where
  fill : Nat := 0
  crop : Nat := 0
  /-- [0] BOUNDARY, [1] FIXED, [2] ANCHORED -/
  flags : Nat := 0
  th : F32 := 0
  m : F32 := 0
  ta : F32 := 0
  w : F32 := 0
  dml : F32 := 0
  ps : Int := 0
  um : Nat := 255
  ut : Nat := 255
  rmg : Int := 0
  rtg : Int := 0
  rdml : Int := 0
  /-- property word of the grain (R231) -/
  prop : Nat := 0x8080
deriving DecidableEq, Repr

/-- No-value codes read as NaN. -/
def temperatureOf (code : Nat) : F32 := if code = 0xFFFF then fNaN else fofRat ((code : Int) - 6000) 100
def moistureOf (code : Nat) : F32 := if code = 0xFFFF then fNaN else fofRat code 1000
def humidityOf (code : Nat) : F32 := if code = 0xFFFF then fNaN else fofRat code 1000000
def dmlOf (code : Nat) : F32 := if code = 0xFFFF then fNaN else fofNat code

def Cell.live (c : Cell) : Live :=
  { fill := c.fill, crop := c.cf % 32, flags := c.cf / 32, th := temperatureOf c.tg, m := moistureOf c.mg,
    ta := temperatureOf c.ta, w := humidityOf c.wa, dml := dmlOf c.dml,
    ps := if c.ps = 0x8000 then 0 else toSigned 16 c.ps, um := c.um, ut := c.ut,
    rmg := c.rmg, rtg := c.rtg, rdml := c.rdml, prop := c.prop }

def Live.fixed (x : Live) : Bool := x.flags.testBit 1
def Live.grain (x : Live) : Bool := decide (x.fill ≠ 0)
def Live.isVoid (x : Live) : Bool := x.fixed && !x.grain
def Live.headspace (x : Live) : Bool := !x.fixed && !x.grain
def Cell.grain (c : Cell) : Bool := decide (c.fill ≠ 0)

/-- A void cell and a headspace cell (R230). -/
def Cell.voidCell : Cell :=
  { tg := 0xFFFF, mg := 0xFFFF, ta := 0xFFFF, wa := 0xFFFF, ps := 0x8000, dml := 0xFFFF, fill := 0,
    cf := 64, um := 255, ut := 255 }

/-- `(x * mul + off)` codes of a finite binary32, as numerator and denominator. -/
def codeOf (x : F32) (mul off : Int) : Int × Nat :=
  let e := fexact x
  (e.1 * mul + off * (2 ^ e.2 : Nat), 2 ^ e.2)

/-- Store a value without a remainder: nearest code, ties to even, saturating (R227). -/
def storeCode (x : F32) (mul off : Int) : Nat :=
  if fIsNaN x then 0xFFFF
  else if !fIsFinite x then (if flt x 0 then 0 else 65534)
  else let c := codeOf x mul off; (clampI 0 65534 (rneDiv c.1 c.2)).toNat

/-- Store a value with its remainder in 1/1,024 code: the code and the new remainder (R268). -/
def storeRem (x : F32) (mul off rem lim : Int) : Nat × Int :=
  if !fIsFinite x then (storeCode x mul off, 0)
  else
    let c := codeOf x mul off
    let num := 1024 * c.1 + rem * c.2
    let den := 1024 * c.2
    let v := clampI 0 65534 (rneDiv num den)
    (v.toNat, clampI (-lim) (lim - 1) (rneDiv (num - v * den) c.2))

/-- Store a cell (R227, R230, R268); DML never decreases below `floor`. -/
def Live.store (x : Live) (floor : Nat) : Cell :=
  let cf := x.flags * 32 + x.crop
  if x.isVoid then { Cell.voidCell with cf := x.flags * 32 }
  else if x.headspace then
    { Cell.voidCell with ta := storeCode x.ta 100 6000, wa := storeCode x.w 1000000 0,
                         ps := ofSigned 16 x.ps, cf := x.flags * 32, prop := x.prop }
  else
    let mg := storeRem x.m 1000 0 x.rmg 512
    let tg := storeRem x.th 100 6000 x.rtg 1024
    let dm := storeRem x.dml 1 0 x.rdml 1024
    { tg := tg.1, mg := mg.1, ta := storeCode x.ta 100 6000, wa := storeCode x.w 1000000 0,
      ps := ofSigned 16 x.ps, dml := if dm.1 = 0xFFFF then dm.1 else max floor dm.1, fill := x.fill, cf := cf,
      um := x.um, ut := x.ut, rmg := mg.2, rtg := tg.2, rdml := dm.2, prop := x.prop }

/-! ### Variance codes (R228) -/

/-- 2^(u/8) in binary32. -/
def pow8 (u : Nat) : F32 :=
  let base : F32 := [0x3F800000, 0x3F8B95C2, 0x3F9837F0, 0x3FA5FED7, 0x3FB504F3, 0x3FC5672A, 0x3FD744FD, 0x3FEAC0C7].getD (u % 8) 0x3F800000
  mmul base (fofNat (2 ^ (u / 8)))

/-- σ² of a code; V₀ is 1/`inv`; code 255 counts as 10⁶ (R277). (DEDUCED, log entry 100.) -/
def varOf (inv u : Nat) : F32 := if u = 255 then fofNat 1000000 else mdiv (pow8 u) (fofNat inv)

/-- The code of a variance: round(8 log₂(σ²/V₀)), saturated to 0 to 254. -/
def varCode (inv : Nat) (x : F32) : Nat :=
  let e := fexact x
  if e.1 ≤ 0 then 0
  else
    let p := e.1.toNat * inv
    let l : Int := (Nat.log2 (p ^ 16) : Int) - 16 * e.2
    (clampI 0 254 ((l + 1) / 2)).toNat

/-! ### Moist air and grain (R247 to R251) -/

def fK (n : Nat) : F32 := fofNat n
def kelvin (t : F32) : F32 := madd t (fofRat 27315 100)
/-- x^y = exp(y ln x) (R267). -/
def fpow (x y : F32) : F32 := exp32 (mmul y (ln32 x))

def pws (t : F32) : F32 :=
  mmul (fofRat 61094 100) (exp32 (mdiv (mmul (fofRat 17625 1000) t) (madd t (fofRat 24304 100))))
def epsW : F32 := fofRat 621945 1000000
def relHum (t w p : F32) : F32 := mdiv (mdiv (mmul w p) (madd epsW w)) (pws t)
def rhClamp (rh : F32) : F32 := fclamp (fofRat 5 1000) (fofRat 995 1000) rh
def satW (t p : F32) : F32 := let x := pws t; mdiv (mmul epsW x) (msub p x)
def wOfRh (t rh p : F32) : F32 := let x := mmul rh (pws t); mdiv (mmul epsW x) (msub p x)
def airDensity (t w p : F32) : F32 :=
  mdiv p (mmul (mmul (fofRat 287055 1000) (kelvin t)) (madd (fK 1) (mmul (fofRat 16078 10000) w)))
def hfg (t : F32) : F32 := msub (fK 2501000) (mmul (fK 2361) t)
def airHeat (w : F32) : F32 := madd (fK 1006) (mmul (fK 1860) w)

/-- Grain moisture, dry basis and back. -/
def dryBasis (m : F32) : F32 := mdiv m (msub (fK 100) m)
def wetBasis (md : F32) : F32 := mdiv (mmul (fK 100) md) (madd (fK 1) md)

/-- A crop entry by byte offset (R232). -/
abbrev CropF := Nat → F32

/-- Equilibrium moisture, % dry basis, before the adsorption shift (R249). (DEDUCED, log entry 91.) -/
def emcRaw (form : Nat) (q : CropF) (t rh : F32) : F32 :=
  let c0 := q 52
  let c1 := q 56
  let c2 := q 60
  match form with
  | 0 => fpow (mdiv (ln32 (msub (fK 1) rh)) (mmul (fneg c0) (madd t c2))) (mdiv (fK 1) c1)
  | 1 => mmul (fneg (mdiv (fK 1) c1)) (ln32 (mdiv (mmul (fneg (madd t c2)) (ln32 rh)) c0))
  | 2 => mmul (madd c0 (mmul c1 t)) (fpow (mdiv rh (msub (fK 1) rh)) (mdiv (fK 1) c2))
  | _ => fpow (mdiv (fneg (exp32 (madd c0 (mmul c1 t)))) (ln32 rh)) (mdiv (fK 1) c2)

def cleanEmc (x : F32) : F32 := if fIsFinite x && !flt x 0 then mdiv x (fK 100) else 0

/-- Me and Me_ads, kg/kg dry basis. -/
def emc (form : Nat) (q : CropF) (t rh : F32) : F32 × F32 :=
  let x := emcRaw form q t (rhClamp rh)
  (cleanEmc x, cleanEmc (msub x (q 64)))

/-- The drying rate r (R250), with Me and Me_ads; `dry` is DRY_FORM. -/
def dryRate (dry : Nat) (q : CropF) (md me ads tm v : F32) : F32 :=
  let k := mmul (mmul (q 20) (exp32 (fneg (mdiv (q 24) (kelvin tm)))))
    (fpow (mdiv (fmax v (q 48)) (fofRat 1 10)) (q 28))
  let n := if dry = 0 then fK 1 else fclamp (fofRat 2 10) (fK 2) (madd (q 32) (mmul (q 36) tm))
  let kn := if dry = 0 then k else fpow k (mdiv (fK 1) n)
  if flt me md then
    if dry = 0 then fneg (mmul k (msub md me))
    else
      let mr := fclamp (fofRat 1 (2 ^ 20)) (fofRat 999 1000) (mdiv (msub md me) (msub (q 40) me))
      let l := fpow (fneg (ln32 mr)) (mdiv (msub n (fK 1)) n)
      fneg (mmul (mmul (mmul (mmul n kn) mr) l) (msub (q 40) me))
  else if flt md ads then mmul (mmul (q 44) kn) (msub ads md)
  else 0

def grainHeat (q : CropF) (m : F32) : F32 := madd (q 80) (mmul (q 84) m)
def desorption (q : CropF) (th md : F32) : F32 :=
  mmul (hfg th) (madd (fK 1) (mmul (q 88) (exp32 (fneg (mmul (q 92) md)))))

/-! ### What a step knows besides its cells -/

/-- The surroundings of a step of one body. -/
structure StepEnv where
  grid : Grid
  /-- crop entries: crop, byte offset; EMC_FORM and DRY_FORM -/
  crop : Nat → CropF
  form : Nat → Nat
  dry : Nat → Nat
  flux : Nat → Flux
  /-- inflow air temperature of a grid-edge face -/
  inflow : Nat → Nat → F32
  pAmb : F32
  tAmb : F32
  wAmb : F32
  hv : F32
  wallU : F32

/-- The dry-air mass flux out through a face, in 2^-20 kg/(m² s): the low faces at an edge are kept as the fluxes of
index count + i (R254). (DESIGN CHOICE, log entry 101.) -/
def StepEnv.fluxOut (e : StepEnv) (i d : Nat) : Int :=
  match d, e.grid.inner i d with
  | 0, _ => (e.flux i).gz
  | 2, _ => (e.flux i).g2
  | 4, _ => (e.flux i).g1
  | 1, some j => -(e.flux j).gz
  | 3, some j => -(e.flux j).g2
  | 5, some j => -(e.flux j).g1
  | 1, none => -(e.flux (e.grid.count + i)).gz
  | 3, none => -(e.flux (e.grid.count + i)).g2
  | _, none => -(e.flux (e.grid.count + i)).g1
  | _, some _ => 0

/-- The inflow faces of a cell: mass flow, area, direction. -/
def StepEnv.inflows (e : StepEnv) (i : Nat) : List (F32 × F32 × Nat) :=
  (dirs.filter (fun d => decide (e.fluxOut i d < 0))).map (fun d =>
    let a := e.grid.area i d
    (mmul (fofRat (-(e.fluxOut i d)) (2 ^ 20)) a, a, d))

def fsum (l : List F32) : F32 := l.foldl madd 0

/-- Wet bulk density, with DENS_MULT (R231, R248). -/
def StepEnv.rhoW (e : StepEnv) (x : Live) : F32 :=
  mmul (madd (e.crop x.crop 68) (mmul (e.crop x.crop 72) x.m)) (fofRat (384 + x.prop % 256 : Nat) 512)

/-- Grain volume and dry-matter mass (R248). -/
def StepEnv.vg (e : StepEnv) (i : Nat) (x : Live) : F32 := mmul (e.grid.volume i) (fofRat x.fill 255)
def StepEnv.mdm (e : StepEnv) (i : Nat) (x : Live) : F32 :=
  mmul (mmul (e.rhoW x) (msub (fK 1) (mdiv x.m (fK 100)))) (e.vg i x)

/-- K_BULK scaled by FILL/255 (R251). -/
def StepEnv.cond (e : StepEnv) (x : Live) : F32 := mmul (e.crop x.crop 104) (fofRat x.fill 255)

/-- The cells of a step, by index. -/
abbrev Field := List (Nat × Live)
def Field.at (f : Field) (i : Nat) : Live := tget (fun _ => {}) f i
def Field.put (f : Field) (i : Nat) (x : Live) : Field := tset (fun _ => {}) f i x

/-! ### The air march (R258 to R260) -/

/-- What the march leaves for the grain of a cell: r with its bounds, the evaporation ṁ_w, the condensate in it,
Q_s. -/
structure Rates where
  r : F32 := 0
  me : F32 := 0
  ads : F32 := 0
  mw : F32 := 0
  mc : F32 := 0
  qs : F32 := 0
deriving DecidableEq, Repr

/-- RH of the air in balance with grain, by bisection to 10^-4 (R260). -/
def balanceRh (form : Nat) (q : CropF) (th md : F32) : F32 :=
  let half (p : F32 × F32) : F32 × F32 :=
    let c := mdiv (madd p.1 p.2) (fK 2)
    if flt (emc form q th c).1 md then (c, p.2) else (p.1, c)
  let p := (List.range 14).foldl (fun p _ => half p) (fofRat 5 1000, fofRat 995 1000)
  mdiv (madd p.1 p.2) (fK 2)

/-- Two Newton steps of R259. (DEDUCED, log entry 91.) -/
def condense (ch to_ wo p : F32) : F32 :=
  let goal := madd (mmul ch to_) (mmul (hfg to_) wo)
  let step (t : F32) : F32 :=
    let x := pws t
    let ws := satW t p
    let den := madd t (fofRat 24304 100)
    let dx := mdiv (mmul x (fofRat (17625 * 24304) 100000)) (mmul den den)
    let gap := msub p x
    let dws := mdiv (mmul (mmul epsW p) dx) (mmul gap gap)
    let f := msub (madd (mmul ch t) (mmul (hfg t) ws)) goal
    let df := madd ch (madd (mmul (fneg (fK 2361)) ws) (mmul (hfg t) dws))
    msub t (mdiv f df)
  step (step to_)

/-- The march at one cell: the air it passes on, and the rates of its grain. -/
def StepEnv.marchCell (e : StepEnv) (f : Field) (mdm : Nat → F32) (i : Nat) : Live × Rates :=
  let x := f.at i
  let ins := e.inflows i
  let md := fsum (ins.map (fun p => p.1))
  let air (d : Nat) : F32 × F32 := match e.grid.inner i d with
    | some j => ((f.at j).ta, (f.at j).w)
    | none => (e.inflow i d, e.wAmb)
  let ti := mdiv (fsum (ins.map (fun p => mmul p.1 (air p.2.2).1))) md
  let wi := mdiv (fsum (ins.map (fun p => mmul p.1 (air p.2.2).2))) md
  if x.fixed then (x, {})
  else if !x.grain then (if ins = [] then (x, {}) else ({ x with ta := ti, w := wi }, {}))
  else
    let q := e.crop x.crop
    let fm := e.form x.crop
    let p := madd e.pAmb (fofRat x.ps 10)
    let mdb := dryBasis x.m
    if flt md (fofRat 1 1000000000) then
      ({ x with ta := x.th, w := wOfRh x.th (balanceRh fm q x.th mdb) p }, {})
    else
      let ch := airHeat wi
      let ain := fsum (ins.map (fun p => p.2.1))
      let hvv := mmul e.hv (fpow (mdiv md ain) (fofRat 69 100))
      let ntu := mdiv (mmul hvv (e.vg i x)) (mmul md ch)
      let en := exp32 (fneg ntu)
      let to_ := madd x.th (mmul (msub ti x.th) en)
      let tm := madd x.th (mdiv (mmul (msub ti x.th) (msub (fK 1) en)) ntu)
      let v := mdiv md (mmul (airDensity tm wi p) ain)
      let m := emc fm q tm (relHum tm wi p)
      let r := dryRate (e.dry x.crop) q mdb m.1 m.2 tm v
      let mw := fneg (mmul (mdm i) r)
      let wo := madd wi (mdiv mw md)
      let qs := mmul (mmul md ch) (msub ti to_)
      if flt (satW to_ p) wo then
        let tc := condense ch to_ wo p
        let wc := satW tc p
        let mc := mmul md (msub wo wc)
        ({ x with ta := tc, w := wc },
          { r := r, me := m.1, ads := m.2, mw := msub mw mc, mc := mc, qs := madd qs (mmul (hfg to_) mc) })
      else ({ x with ta := to_, w := wo }, { r := r, me := m.1, ads := m.2, mw := mw, qs := qs })

/-- Insert by decreasing pressure, ties by ascending index. -/
def orderInsert (x : Int × Nat) : List (Int × Nat) → List (Int × Nat)
  | [] => [x]
  | y :: t => if y.1 < x.1 ∨ (y.1 = x.1 ∧ x.2 < y.2) then x :: y :: t else y :: orderInsert x t

/-- The cells that the march visits, in its order. -/
def marchOrder (f : Field) : List Nat :=
  ((f.filter (fun p => !p.2.isVoid)).foldl (fun l p => orderInsert (p.2.ps, p.1) l) []).map (fun p => p.2)

/-- The march over all cells: the field with its air, and the rates by cell. (DEDUCED, log entry 89.) -/
def StepEnv.march (e : StepEnv) (mdm : Nat → F32) (f : Field) : Field × List (Nat × Rates) :=
  (marchOrder f).foldl (fun (a : Field × List (Nat × Rates)) i =>
    let r := e.marchCell a.1 mdm i
    (a.1.put i r.1, tset (fun _ => {}) a.2 i r.2)) (f, [])

/-! ### Grain heat and moisture (R261 to R263) -/

/-- Heat from walls, the surface and explicit conduction, W, from the state at the start. -/
def StepEnv.sideHeat (e : StepEnv) (f : Field) (i : Nat) : F32 :=
  let x := f.at i
  let g := e.grid
  fsum (dirs.map (fun d =>
    let a := g.area i d
    let wall := mmul (mmul e.wallU a) (msub e.tAmb x.th)
    match g.nb i d with
    | none => if d = 0 ∨ (g.cyl ∧ d = 3) then 0 else wall
    | some j =>
      let y := f.at j
      if y.isVoid then wall
      else if y.headspace then mmul (mmul (fK 5) a) (msub y.ta x.th)
      else if g.cyl ∧ 4 ≤ d then 0
      else
        let kx := e.cond x
        let ky := e.cond y
        let k := mdiv (mmul (mmul (fK 2) kx) ky) (madd kx ky)
        mdiv (mmul (mmul k a) (msub y.th x.th)) (g.dist i d)))

/-- m_dm (1 + Md) c_g. -/
def StepEnv.heatCap (e : StepEnv) (mdm : F32) (x : Live) : F32 :=
  mmul (mmul mdm (madd (fK 1) (dryBasis x.m))) (grainHeat (e.crop x.crop) x.m)

/-- dθ/dt. -/
def StepEnv.heatRate (e : StepEnv) (mdm : Nat → F32) (f : Field) (i : Nat) (r : Rates) : F32 :=
  let x := f.at i
  let h := desorption (e.crop x.crop) x.th (dryBasis x.m)
  mdiv (madd (msub r.qs (mmul r.mw h)) (e.sideHeat f i)) (e.heatCap (mdm i) x)

/-- A value that starts at `a` and would go to `x` stops at `v` (R250). -/
def stopAt (a v x : F32) : F32 := if flt a v then fmin x v else if flt v a then fmax x v else x

/-- Md after a substep of `h` seconds, with the condensate: it crosses neither Me nor Me_ads (R250, R259). -/
def moistAfter (md h mdm : F32) (r : Rates) : F32 :=
  stopAt md r.ads (stopAt md r.me (madd md (mmul (madd r.r (mdiv r.mc mdm)) h)))

/-- Thomas elimination of a tridiagonal system: sub, diagonal, super, right side. -/
def thomasFwd : List (F32 × F32 × F32 × F32) → F32 → F32 → List (F32 × F32)
  | [], _, _ => []
  | (a, b, c, d) :: t, cp, dp =>
    let m := msub b (mmul a cp)
    let c' := mdiv c m
    let d' := mdiv (msub d (mmul a dp)) m
    (c', d') :: thomasFwd t c' d'
def thomasBack (l : List (F32 × F32)) : List F32 :=
  l.reverse.foldl (fun acc p => match acc with
    | [] => [p.2]
    | x :: _ => msub p.2 (mmul p.1 x) :: acc) []
def thomas (l : List (F32 × F32 × F32 × F32)) : List F32 := thomasBack (thomasFwd l 0 0)

/-- A periodic tridiagonal system, by the Sherman–Morrison correction. (DEDUCED, log entries 89, 91.) -/
def cyclicSolve (l : List (F32 × F32 × F32 × F32)) : List F32 :=
  match l, l.getLast? with
  | (a0, b0, _, _) :: _, some (_, _, cn, _) =>
    let n := l.length
    let g := fneg b0
    let diag (k : Nat) (b : F32) : F32 :=
      if k = 0 then msub b g else if k + 1 = n then msub b (mdiv (mmul a0 cn) g) else b
    let sys (rhs : Nat → F32 → F32) : List (F32 × F32 × F32 × F32) :=
      l.zipIdx.map (fun q => (if q.2 = 0 then 0 else q.1.1, diag q.2 q.1.2.1, if q.2 + 1 = n then 0 else q.1.2.2.1,
        rhs q.2 q.1.2.2.2))
    let x := thomas (sys (fun _ d => d))
    let z := thomas (sys (fun k _ => if k = 0 then g else if k + 1 = n then cn else 0))
    let ag := mdiv a0 g
    let num := madd (x.headD 0) (mmul ag (x.getLastD 0))
    let den := madd (fK 1) (madd (z.headD 0) (mmul ag (z.getLastD 0)))
    let fct := mdiv num den
    (x.zip z).map (fun p => msub p.1 (mmul fct p.2))
  | _, _ => []

/-- Conduction in θ: backward Euler over `h` s, one ring and layer at a time (R261). -/
def StepEnv.thetaRing (e : StepEnv) (mdm : Nat → F32) (h : F32) (f : Field) (ring : Nat) : Field :=
  let g := e.grid
  let cells := (List.range g.n1).map (fun a => ring * g.n1 + a)
  let free (i : Nat) : Bool := (f.at i).grain && !(f.at i).fixed
  let couple (i d : Nat) : F32 := match g.nb i d with
    | some j =>
      let x := f.at i
      let y := f.at j
      if x.grain && y.grain then
        let kx := e.cond x
        let ky := e.cond y
        mdiv (mmul (mdiv (mmul (mmul (fK 2) kx) ky) (madd kx ky)) (g.area i d)) (g.dist i d)
      else 0
    | none => 0
  let row (i : Nat) : F32 × F32 × F32 × F32 :=
    let x := f.at i
    if free i then
      let cap := mdiv (e.heatCap (mdm i) x) h
      let lo := couple i 5
      let hi := couple i 4
      (fneg lo, madd cap (madd lo hi), fneg hi, mmul cap x.th)
    else (0, fK 1, 0, if x.grain then x.th else 0)
  let sol := cyclicSolve (cells.map row)
  (cells.zip sol).foldl (fun t p => if free p.1 then t.put p.1 { t.at p.1 with th := p.2 } else t) f

/-- DEDUCED, log entry 89. -/
def StepEnv.thetaConduct (e : StepEnv) (mdm : Nat → F32) (h : F32) (f : Field) : Field :=
  if e.grid.cyl && decide (1 < e.grid.n1) then (List.range (e.grid.n2 * e.grid.nz)).foldl (e.thetaRing mdm h) f else f

/-- One substep of `h` seconds (R257 step 3, R262). -/
def StepEnv.substep (e : StepEnv) (mdm : Nat → F32) (h : F32) (f : Field) : Field :=
  let ma := e.march mdm f
  let g := f.foldl (fun (t : Field) p =>
    let i := p.1
    let x := p.2
    if x.grain && !x.fixed then
      let r := tget (fun _ => ({} : Rates)) ma.2 i
      let y := t.at i
      t.put i { y with th := madd x.th (mmul (e.heatRate mdm f i r) h),
                       m := wetBasis (moistAfter (dryBasis x.m) h (mdm i) r) }
    else t) ma.1
  e.thetaConduct mdm h g

/-- The substep count of R262, and whether 16 were not enough. -/
def StepEnv.substeps (e : StepEnv) (mdm : Nat → F32) (dt : F32) (f : Field) : Nat × Bool :=
  let ma := e.march mdm f
  let fits (n : Nat) : Bool :=
    let h := mdiv dt (fK n)
    f.all (fun p =>
      let x := p.2
      if x.grain && !x.fixed then
        let r := tget (fun _ => ({} : Rates)) ma.2 p.1
        let md := dryBasis x.m
        let dm := fabs (msub (wetBasis (moistAfter md h (mdm p.1) r)) x.m)
        fle dm (fofRat 2 10) && fle (fabs (mmul (e.heatRate mdm f p.1 r) h)) (fK 1)
      else true)
  match [1, 2, 4, 8, 16].find? fits with
  | some n => (n, false)
  | none => (16, true)

/-- Dry-matter loss over the step (R263). -/
def dmlAfter (q : CropF) (dt : F32) (x : Live) : F32 :=
  let above := fmax 0 (msub x.m (fK 12))
  madd x.dml (mmul (mmul (mmul (q 108) (exp32 (mmul (q 112) x.th))) (mmul above above)) dt)

/-- Steps 2 and 3 of R257: the substep count, whether the limit was met, and the field.
(DEDUCED, log entry 89.) -/
def StepEnv.integrate (e : StepEnv) (dt : F32) (f : Field) : Nat × Bool × Field :=
  let mdm (i : Nat) : F32 := e.mdm i (f.at i)
  let n := e.substeps mdm dt f
  let g := (List.range n.1).foldl (fun t _ => e.substep mdm (mdiv dt (fK n.1)) t) f
  (n.1, n.2, f.foldl (fun (t : Field) p =>
    if p.2.grain && !p.2.fixed then
      t.put p.1 { t.at p.1 with dml := dmlAfter (e.crop p.2.crop) dt p.2 }
    else t) g)

end Sys2Proof.Machine
end

