-- ==== Sys2Proof/Machine/MillAir.lean ====
section
/-! DEFINITION. The airflow solve: the bed law, the air boundaries, and the Picard iteration with its multigrid
V-cycles (R253 to R255).  The spec gives the iteration, its sweeps and its stop tests; the transfer operators
between levels, the upwind density and the linearisation of the boundary losses are the model's choice
(DESIGN CHOICE, log entry 90). -/

namespace Sys2Proof.Machine

/-! ### A level of the solver's grids -/

/-- The linear problem of a level: conductances through the three high faces and to the boundaries, and the
boundary source, by cell; mass flow per pressure in kg/(s Pa). -/
structure AirLevel where
  n1 : Nat
  n2 : Nat
  nz : Nat
  cyl : Bool
  k1 : Array F32
  k2 : Array F32
  kz : Array F32
  kb : Array F32
  src : Array F32

def AirLevel.count (l : AirLevel) : Nat := l.n1 * l.n2 * l.nz

/-- Element `i`; 0 outside. -/
def aget (v : Array F32) (i : Nat) : F32 := v.getD i 0
/-- Add to element `i`. -/
def aadd (v : Array F32) (i : Nat) (x : F32) : Array F32 := v.setIfInBounds i (madd (aget v i) x)

def azero (n : Nat) : Array F32 := Array.replicate n 0

/-- The neighbours of a cell with the conductances between, in the order of R258. -/
def AirLevel.links (l : AirLevel) (i : Nat) : List (Nat × F32) :=
  let a := i % l.n1
  let b := i / l.n1 % l.n2
  let c := i / (l.n1 * l.n2)
  let layer := l.n1 * l.n2
  (if c + 1 < l.nz then [(i + layer, aget l.kz i)] else []) ++
  (if c = 0 then [] else [(i - layer, aget l.kz (i - layer))]) ++
  (if b + 1 < l.n2 then [(i + l.n1, aget l.k2 i)] else []) ++
  (if b = 0 then [] else [(i - l.n1, aget l.k2 (i - l.n1))]) ++
  (if a + 1 < l.n1 then [(i + 1, aget l.k1 i)] else if l.cyl then [(i + 1 - l.n1, aget l.k1 i)] else []) ++
  (if a = 0 then (if l.cyl then [(i + l.n1 - 1, aget l.k1 (i + l.n1 - 1))] else []) else [(i - 1, aget l.k1 (i - 1))])

/-- One Gauss–Seidel update of a cell; a cell without an open face keeps its pressure. -/
def AirLevel.relax (l : AirLevel) (p : Array F32) (i : Nat) : Array F32 :=
  let ls := l.links i
  let d := madd (fsum (ls.map (fun q => q.2))) (aget l.kb i)
  if feq d 0 then p
  else p.setIfInBounds i (mdiv (madd (aget l.src i) (fsum (ls.map (fun q => mmul q.2 (aget p q.1))))) d)

/-- One red-black sweep. -/
def AirLevel.sweep (l : AirLevel) (p : Array F32) : Array F32 :=
  let cells (col : Nat) : List Nat :=
    (List.range l.count).filter (fun i => (i % l.n1 + i / l.n1 % l.n2 + i / (l.n1 * l.n2)) % 2 = col)
  (cells 1).foldl l.relax ((cells 0).foldl l.relax p)

def AirLevel.sweep2 (l : AirLevel) (p : Array F32) : Array F32 := l.sweep (l.sweep p)

/-- The residual of a cell: mass flow in less mass flow out. -/
def AirLevel.residual (l : AirLevel) (p : Array F32) (i : Nat) : F32 :=
  let own := aget p i
  msub (madd (aget l.src i) (fsum ((l.links i).map (fun q => mmul q.2 (msub (aget p q.1) own)))))
    (mmul (aget l.kb i) own)

/-- The coarse cell of a cell: an axis of more than 8 cells is halved (R255). (DESIGN CHOICE, log entry 90.) -/
def AirLevel.half (n : Nat) : Nat := if 8 < n then 2 else 1
def AirLevel.up (l : AirLevel) (i : Nat) : Nat :=
  let f (n x : Nat) : Nat := x / half n
  let m (n : Nat) : Nat := (n + half n - 1) / half n
  f l.n1 (i % l.n1) + m l.n1 * (f l.n2 (i / l.n1 % l.n2) + m l.n2 * f l.nz (i / (l.n1 * l.n2)))

/-- The next coarser level: conductances through the faces between coarse cells, over the longer distance.
(DESIGN CHOICE, log entry 90.) -/
def AirLevel.coarser (l : AirLevel) : AirLevel :=
  let m (n : Nat) : Nat := (n + half n - 1) / half n
  let n := m l.n1 * m l.n2 * m l.nz
  let layer := l.n1 * l.n2
  let share (k : F32) (f : Nat) : F32 := mdiv k (fofNat f)
  let zero : AirLevel := {
    n1 := m l.n1, n2 := m l.n2, nz := m l.nz, cyl := l.cyl
    k1 := azero n, k2 := azero n, kz := azero n, kb := azero n, src := azero n }
  (List.range l.count).foldl (fun (t : AirLevel) i =>
    let c := l.up i
    let a := i % l.n1
    let j1 := if a + 1 < l.n1 then i + 1 else i + 1 - l.n1
    let in1 := decide (a + 1 < l.n1) || l.cyl
    let in2 := decide (i / l.n1 % l.n2 + 1 < l.n2)
    let inz := decide (i / layer + 1 < l.nz)
    { t with
      k1 := if in1 && l.up j1 != c then aadd t.k1 c (share (aget l.k1 i) (half l.n1)) else t.k1
      k2 := if in2 && l.up (i + l.n1) != c then aadd t.k2 c (share (aget l.k2 i) (half l.n2)) else t.k2
      kz := if inz && l.up (i + layer) != c then aadd t.kz c (share (aget l.kz i) (half l.nz)) else t.kz
      kb := aadd t.kb c (aget l.kb i) }) zero

/-- The levels from a problem down to 8 cells or fewer on every axis. -/
def airLevels : Nat → AirLevel → List AirLevel
  | 0, l => [l]
  | k + 1, l => if l.n1 ≤ 8 ∧ l.n2 ≤ 8 ∧ l.nz ≤ 8 then [l] else l :: airLevels k l.coarser

/-- One V-cycle: two sweeps before the coarse correction and two after (R255). (DESIGN CHOICE, log entry 90.) -/
def vcycle : List AirLevel → Array F32 → Array F32 → Array F32
  | [], _, p => p
  | [l], src, p => let m := { l with src := src }; m.sweep2 (m.sweep2 p)
  | l :: rest, src, p =>
    let m := { l with src := src }
    let a := m.sweep2 p
    let n := match rest with | c :: _ => c.count | [] => 0
    let down := (List.range l.count).foldl (fun v i => aadd v (l.up i) (m.residual a i)) (azero n)
    let corr := vcycle rest down (azero n)
    m.sweep2 ((List.range l.count).foldl (fun v i => aadd v i (aget corr (l.up i))) a)

/-! ### Bed and boundaries (R253, R254) -/

/-- An air boundary as a solve sees it: pressure at zero flow, loss coefficient, inflow temperature. -/
structure AirPort where
  head : F32
  loss : F32
  temp : F32

/-- A grid-edge face that a boundary covers: cell, direction, boundary. -/
structure AirFace where
  cell : Nat
  dir : Nat
  port : Nat

/-- What a solve reads. -/
structure AirIn where
  grid : Grid
  field : Field
  /-- crop entries, by crop and byte offset -/
  crop : Nat → CropF
  ports : List AirPort
  faces : List AirFace
  pAmb : F32
  wAmb : F32

/-- AIR_MULT: 2^((code - 128)/32) (R231). -/
def airMult (code : Nat) : F32 :=
  exp32 (mmul (fofRat ((code : Int) - 128) 32) (ln32 (fofNat 2)))

/-- |∇p| / v at a speed: AIR_MULT (AIR_A + AIR_B |v|); for air and thin grain AIR_A is 0.01 and AIR_B 0 (R254). -/
def AirIn.bed (a : AirIn) (i : Nat) (v : F32) : F32 :=
  let x := a.field.at i
  mmul (airMult (x.prop / 256))
    (if x.fill < 32 then fofRat 1 100 else madd (a.crop x.crop 96) (mmul (a.crop x.crop 100) (fabs v)))

/-- Dry-air density of a cell (R247). -/
def AirIn.rho (a : AirIn) (i : Nat) : F32 :=
  let x := a.field.at i
  airDensity x.ta x.w (madd a.pAmb (fofRat x.ps 10))

/-- The speeds of a pass: through the three high faces of each cell, and in through each boundary face as a
volume flow. -/
structure AirFlow where
  v1 : Array F32
  v2 : Array F32
  vz : Array F32
  q : Array F32

/-- Two cells share an open face. -/
def AirIn.open (a : AirIn) (i d : Nat) : Option Nat :=
  match a.grid.nb i d with
  | some j => if (a.field.at i).isVoid || (a.field.at j).isVoid || i = j then none else some j
  | none => none

/-- Volume flow per pressure through a high face: the harmonic mean of the two resistances over the centre
distance (R254). -/
def AirIn.faceG (a : AirIn) (i d : Nat) (v : F32) : F32 :=
  match a.open i d with
  | none => 0
  | some j =>
    let x := a.bed i v
    let y := a.bed j v
    let r := mmul (mdiv (mmul (mmul (fofNat 2) x) y) (madd x y)) (a.grid.dist i d)
    mdiv (a.grid.area i d) r

/-- The density that a face carries: that of the side the air comes from. -/
def AirIn.faceRho (a : AirIn) (i d : Nat) (v : F32) : F32 :=
  match a.grid.nb i d with
  | some j => if flt v 0 then a.rho j else a.rho i
  | none => a.rho i

/-- A boundary face in a pass: volume flow per pressure, the pressure it works from, its density. -/
def AirIn.edge (a : AirIn) (f : AirFlow) (n : Nat) (e : AirFace) : F32 × F32 × F32 :=
  let port := a.ports.getD e.port ⟨0, 0, 0⟩
  let mine := a.faces.zipIdx.filter (fun p => p.1.port = e.port)
  let total := fsum (mine.map (fun p => aget f.q p.2))
  let size := fsum (mine.map (fun p => a.grid.area p.1.cell p.1.dir))
  let area := a.grid.area e.cell e.dir
  let own := aget f.q n
  let r := mdiv (mmul (a.bed e.cell (mdiv own area)) (mdiv (a.grid.dist e.cell e.dir) (fofNat 2))) area
  let slope := mmul port.loss (fabs total)
  let c := mmul slope (mdiv size area)
  let push := madd (msub port.head (mmul slope total)) (mmul c own)
  (mdiv (fofNat 1) (madd r c), push, if flt own 0 then a.rho e.cell else airDensity port.temp a.wAmb a.pAmb)

/-- The linear problem of a pass. -/
def AirIn.level (a : AirIn) (f : AirFlow) : AirLevel :=
  let g := a.grid
  let n := g.count
  let k (v : Array F32) (d : Nat) : Array F32 :=
    ((List.range n).map (fun i => mmul (a.faceRho i d (aget v i)) (a.faceG i d (aget v i)))).toArray
  let bare : AirLevel := {
    n1 := g.n1, n2 := g.n2, nz := g.nz, cyl := g.cyl
    k1 := k f.v1 4, k2 := k f.v2 2, kz := k f.vz 0, kb := azero n, src := azero n }
  a.faces.zipIdx.foldl (fun (l : AirLevel) p =>
    let x := a.edge f p.2 p.1
    let m := mmul x.2.2 x.1
    { l with kb := aadd l.kb p.1.cell m, src := aadd l.src p.1.cell (mmul m x.2.1) }) bare

/-- The flow at pressures `p`. -/
def AirIn.flow (a : AirIn) (f : AirFlow) (p : Array F32) : AirFlow :=
  let n := a.grid.count
  let v (old : Array F32) (d : Nat) : Array F32 :=
    ((List.range n).map (fun i => match a.open i d with
      | some j => mdiv (mmul (a.faceG i d (aget old i)) (msub (aget p i) (aget p j))) (a.grid.area i d)
      | none => 0)).toArray
  { v1 := v f.v1 4, v2 := v f.v2 2, vz := v f.vz 0
    q := (a.faces.zipIdx.map (fun e => let x := a.edge f e.2 e.1; mmul x.1 (msub x.2.1 (aget p e.1.cell)))).toArray }

/-- Mass flow in through each boundary face, as the linear problem of the pass has it. -/
def AirIn.edgeMass (a : AirIn) (f : AirFlow) (p : Array F32) : List F32 :=
  a.faces.zipIdx.map (fun e => let x := a.edge f e.2 e.1; mmul (mmul x.2.2 x.1) (msub x.2.1 (aget p e.1.cell)))

/-- V-cycles of a pass until the residual is below 10⁻⁴ of the total boundary flux, at most 20 (R255). -/
def airCycles (l : AirLevel) (ls : List AirLevel) (total : Array F32 → F32) : Nat → Nat → Array F32 → Array F32 × Nat
  | 0, n, p => (p, n)
  | k + 1, n, p =>
    let p' := vcycle ls l.src p
    let res := fsum ((List.range l.count).map (fun i => fabs (l.residual p' i)))
    if flt res (mmul (fofRat 1 10000) (total p')) then (p', n + 1) else airCycles l ls total k (n + 1) p'

/-- A face flux changes by more than 10⁻³ of its value. -/
def airMoved (x y : Array F32) : Bool :=
  (List.range y.size).any (fun i => !fle (fabs (msub (aget y i) (aget x i))) (mmul (fofRat 1 1000) (fabs (aget y i))))

/-- What the passes leave: the flow before and after the last pass, the pressures, passes, most V-cycles. -/
structure AirOut where
  before : AirFlow
  flow : AirFlow
  p : Array F32
  passes : Nat := 0
  cycles : Nat := 0

/-- Picard passes until no face flux changes by more than 10⁻³, at most 8 (R255). -/
def AirIn.picard (a : AirIn) : Nat → AirOut → AirOut
  | 0, o => o
  | k + 1, o =>
    let l := a.level o.flow
    let total (p : Array F32) : F32 := fsum ((a.edgeMass o.flow p).map fabs)
    let r := airCycles l (airLevels 12 l) total 20 0 o.p
    let f := a.flow o.flow r.1
    let o' : AirOut := { before := o.flow, flow := f, p := r.1, passes := o.passes + 1, cycles := max o.cycles r.2 }
    if airMoved o.flow.v1 f.v1 || airMoved o.flow.v2 f.v2 || airMoved o.flow.vz f.vz || airMoved o.flow.q f.q then
      a.picard k o'
    else o'

/-- A mass flux as its word holds it: 2⁻²⁰ kg/(m² s), 21 bits, saturating (R254). -/
def fluxCode (g : F32) : Int := clampI (-1048576) 1048575 (ftoIntScaled 1048576 g)

/-- The largest imbalance of a cell over its throughflow, in ppm; none where it is no number. -/
def AirIn.imbalance (a : AirIn) (o : AirOut) : Option Nat :=
  let l := a.level o.before
  let edges := a.edgeMass o.before o.p
  let one (i : Nat) : Option Nat :=
    let own := aget o.p i
    let flows := ((l.links i).map (fun q => mmul q.2 (msub (aget o.p q.1) own))) ++
      (a.faces.zip edges).filterMap (fun e => if e.1.cell = i then some e.2 else none)
    let net := fabs (fsum flows)
    let through := fsum (flows.map (fun x => fmax x 0))
    if feq net 0 then some 0
    else if !fIsFinite net || !flt 0 through then none
    else some (max 0 (fceil (mmul (fofNat 1000000) (mdiv net through)))).toNat
  (List.range a.grid.count).foldl (fun m i => match m, one i with
    | some x, some y => some (max x y)
    | _, _ => none) (some 0)

/-- The stored field of the last pass (R254). -/
def AirIn.stored (a : AirIn) (o : AirOut) : AirField :=
  let g := a.grid
  let n := g.count
  let edges := a.faces.zip (a.edgeMass o.before o.p)
  let edge (i d : Nat) : F32 := match edges.find? (fun e => e.1.cell = i && e.1.dir = d) with
    | some e => mdiv e.2 (g.area i d)
    | none => 0
  let high (v : Array F32) (old : Array F32) (i d : Nat) : Int :=
    match g.inner i d with
    | some _ => fluxCode (mmul (a.faceRho i d (aget old i)) (aget v i))
    | none => -(fluxCode (edge i d))
  let low (i d : Nat) : Int := if (g.inner i d).isSome then 0 else fluxCode (edge i d)
  (((List.range n).map (fun i => (i, (⟨high o.flow.v1 o.before.v1 i 4, high o.flow.v2 o.before.v2 i 2,
      high o.flow.vz o.before.vz i 0⟩ : Flux)))) ++
    ((List.range n).map (fun i => (n + i, (⟨low i 5, low i 3, low i 1⟩ : Flux)))),
   ((List.range n).filter (fun i => !(a.field.at i).isVoid)).map (fun i =>
     (i, ofSigned 16 (clampI (-32767) 32767 (ftoIntScaled 10 (aget o.p i))))))

/-- A whole solve from the field in use (R255). (DESIGN CHOICE, log entry 90.) -/
def AirIn.solve (a : AirIn) (cls : Nat) (start : AirFlow) : SolveRun :=
  let p0 := ((List.range a.grid.count).map (fun i => fofRat (a.field.at i).ps 10)).toArray
  let o := a.picard 8 { before := start, flow := start, p := p0 }
  { cls := cls, field := a.stored o, passes := o.passes, cycles := o.cycles,
    ppm := (a.imbalance o).getD 4294967295 }

/-- The flow that a stored field stands for. (DESIGN CHOICE, log entry 90.) -/
def AirIn.startFlow (a : AirIn) (flux : Nat → Flux) : AirFlow :=
  let g := a.grid
  let n := g.count
  let v (c : Flux → Int) (d : Nat) : Array F32 := ((List.range n).map (fun i =>
    let x := c (flux i)
    if (a.open i d).isNone || x = 0 then 0
    else mdiv (fofRat x 1048576) (match g.nb i d with | some j => if x < 0 then a.rho j else a.rho i | none => a.rho i))).toArray
  { v1 := v (fun f => f.g1) 4, v2 := v (fun f => f.g2) 2, vz := v (fun f => f.gz) 0
    q := (a.faces.map (fun e =>
      let x : Int := match e.dir with
        | 0 => -(flux e.cell).gz
        | 2 => -(flux e.cell).g2
        | 4 => -(flux e.cell).g1
        | 1 => (flux (n + e.cell)).gz
        | 3 => (flux (n + e.cell)).g2
        | _ => (flux (n + e.cell)).g1
      if x = 0 then 0 else mdiv (mmul (fofRat x 1048576) (g.area e.cell e.dir)) (a.rho e.cell))).toArray }

end Sys2Proof.Machine
end

