-- ==== Sys2Proof/Machine/MillMove.lean ====
section
/-! DEFINITION. Grain movement of a Millstone step, and the surface moves of level readings (R264 to
R266, R278). -/

namespace Sys2Proof.Machine

/-- Inlet grain (R264, R265): TG, MG, WA at the PS of its cell, the variance codes and the crop. -/
structure Inlet where
  t : F32
  m : F32
  w : Int → F32
  um : Nat
  ut : Nat
  crop : Nat

/-- What a step's movement reads. -/
structure MoveIn where
  mode : Nat
  dt : F32
  /-- volume flow of fill or metering, and of unload, m³/s; none when not in use -/
  fill : Option F32
  unload : Option F32
  inlet : Inlet
  core : Nat
  /-- UM and UT of a cell in which grain has mixed: the spec states none -/
  mixed : Nat → Nat × Nat

/-- What a step's movement leaves. -/
structure MoveOut where
  field : Field
  acc : MoveAcc
  shifts : Nat := 0
  /-- volume lost above the top layer, m³ -/
  lost : F32 := 0
  overfill : Bool := false
  underrun : Bool := false

/-- A cell with the record and the property word of another; ANCHORED, FIXED and BOUNDARY stay with the place.
(DEDUCED, log entry 92.) -/
def Live.moveTo (x place : Live) : Live := { x with flags := place.flags }

/-- A cell that holds no grain any longer (R230). -/
def Live.emptied (x : Live) : Live :=
  { x with fill := 0, crop := 0, th := fNaN, m := fNaN, dml := fNaN, um := 255, ut := 255, rmg := 0, rtg := 0, rdml := 0,
           prop := 0x8080 }

/-- Every layer copies down one layer, and the top is inlet grain (R264). -/
def plugShift (g : Grid) (inl : Inlet) (f : Field) : Field :=
  (List.range g.count).foldl (fun (t : Field) i =>
    let here := f.at i
    match g.nb i 0 with
    | some j => t.put i ((f.at j).moveTo here)
    | none => t.put i { here with
        fill := 255, crop := inl.crop, th := inl.t, m := inl.m, dml := 0, um := inl.um, ut := inl.ut,
        rmg := 0, rtg := 0, rdml := 0, prop := 0x8080 }) f

/-- MODE 1 (R264). -/
def movePlug (g : Grid) (p : MoveIn) (acc : MoveAcc) (f : Field) : MoveOut :=
  match p.fill with
  | none => { field := f, acc := acc }
  | some qv =>
    let top := fofRat (g.n1 * g.e1 * g.n2 * g.e2 : Nat) 1000000
    let ez := fofRat g.ez 1000
    let s := madd acc.s (mmul (mdiv qv top) p.dt)
    let k := (max 0 (ffloor (mdiv s ez))).toNat
    let f' := (List.range k).foldl (fun t _ => plugShift g p.inlet t) f
    { field := f', acc := { acc with s := msub s (mmul (fofNat k) ez) }, shifts := k }

/-- Non-void cells of a layer within a number of rings. -/
def layerOf (g : Grid) (c rings : Nat) : List Nat :=
  ((List.range (g.n1 * g.n2)).map (fun j => c * (g.n1 * g.n2) + j)).filter (fun i =>
    !g.isVoid i && decide (g.c2 i < rings))

def volumeOf (g : Grid) (l : List Nat) : F32 := fsum (l.map g.volume)

/-- Codes that a volume makes over a list of cells. -/
def codesOf (g : Grid) (vol : F32) (l : List Nat) : Nat :=
  (max 0 (ffloor (mdiv (mmul (fofNat 255) vol) (volumeOf g l)))).toNat

/-- `n` codes of incoming grain reach a cell (R265). -/
def addGrain (inl : Inlet) (mix : Nat × Nat) (n : Nat) (x : Live) : Live :=
  if x.fill = 0 then
    { x with fill := n, crop := inl.crop, th := inl.t, m := inl.m, dml := 0, ta := inl.t, w := inl.w x.ps,
             um := inl.um, ut := inl.ut, rmg := 0, rtg := 0, rdml := 0, prop := 0x8080 }
  else
    let a := fofNat x.fill
    let b := fofNat n
    let mean (u v : F32) : F32 := mdiv (madd (mmul a u) (mmul b v)) (madd a b)
    { x with fill := x.fill + n, th := mean x.th inl.t, m := mean x.m inl.m, dml := mean x.dml 0,
             um := mix.1, ut := mix.2 }

/-- Spread a volume from the lowest layer that is not full: the volume left, the field, and whether
every layer is full. (DEDUCED, log entry 92.) -/
def fillLoop (g : Grid) (p : MoveIn) : Nat → F32 → Field → F32 × Field × Bool
  | 0, v, f => (v, f, false)
  | k + 1, v, f =>
    match (List.range g.nz).find? (fun c => (layerOf g c g.n2).any (fun i => (f.at i).fill < 255)) with
    | none => (v, f, true)
    | some c =>
      let l := (layerOf g c g.n2).filter (fun i => (f.at i).fill < 255)
      let n := codesOf g v l
      if n = 0 then (v, f, false)
      else
        let room := l.foldl (fun a i => min a (255 - (f.at i).fill)) 255
        let add := min n room
        let f' := l.foldl (fun (t : Field) i => t.put i (addGrain p.inlet (p.mixed i) add (t.at i))) f
        fillLoop g p k (msub v (mmul (volumeOf g l) (fofRat add 255))) f'

/-- Every layer of the rings copies down one layer and the top layer becomes headspace; void cells are never
touched (R266). (DEDUCED, log entry 92.) -/
def ringsDown (g : Grid) (rings : Nat) (f : Field) : Field :=
  ((List.range g.count).filter (fun i => !g.isVoid i && decide (g.c2 i < rings))).foldl (fun (t : Field) i =>
    match g.nb i 0 with
    | some j => if g.isVoid j then t.put i (f.at i).emptied else t.put i ((f.at j).moveTo (f.at i))
    | none => t.put i (f.at i).emptied) f

/-- Take codes from a cell. (DEDUCED, log entry 92.) -/
def takeGrain (n : Nat) (x : Live) : Live := if x.fill ≤ n then x.emptied else { x with fill := x.fill - n }

/-- Unload a volume from layer 0, or from the lowest layer with grain in the core: volume left, field, core, layer
copies, and whether no grain is left (R266). -/
def unloadLoop (g : Grid) (core0 : Nat) : Nat → F32 → Field → Nat → Nat → F32 × Field × Nat × Nat × Bool
  | 0, v, f, c, n => (v, f, c, n, false)
  | k + 1, v, f, c, n =>
    let rings := if core0 = 0 then g.n2 else c
    match (List.range g.nz).find? (fun z => (layerOf g z rings).any (fun i => (f.at i).grain)) with
    | none => if rings < g.n2 then unloadLoop g core0 k v f (c + 1) n else (v, f, c, n, true)
    | some z =>
      if core0 = 0 ∧ z ≠ 0 then unloadLoop g core0 k v (ringsDown g rings f) c (n + 1)
      else
      let l := (layerOf g z rings).filter (fun i => (f.at i).grain)
      let want := codesOf g v l
      if want = 0 then (v, f, c, n, false)
      else
        let have_ := l.foldl (fun a i => min a (f.at i).fill) 255
        let take := min want have_
        let f' := l.foldl (fun (t : Field) i => t.put i (takeGrain take (t.at i))) f
        let v' := msub v (mmul (volumeOf g l) (fofRat take 255))
        if (layerOf g z rings).any (fun i => (f'.at i).grain) then unloadLoop g core0 k v' f' c n
        else unloadLoop g core0 k v' (ringsDown g rings f') c (n + 1)

/-- MODE 2 (R265, R266). (DEDUCED, log entry 92.) -/
def moveLayers (g : Grid) (p : MoveIn) (acc : MoveAcc) (f : Field) : MoveOut :=
  let fuel := 600 * (g.nz + 1)
  let vin := match p.fill with | some q => mmul q p.dt | none => 0
  let a := fillLoop g p fuel (madd acc.carry vin) f
  let lost := if a.2.2 && flt 0 a.1 then a.1 else 0
  let carry := if a.2.2 then 0 else a.1
  let fills := flt 0 vin
  let core := if (fills && !acc.filling) || acc.core = 0 then p.core else acc.core
  let next : MoveAcc := { acc with carry := carry, core := core, filling := fills }
  match p.unload with
  | none => { field := a.2.1, acc := next, lost := lost, overfill := a.2.2 && flt 0 a.1 }
  | some q =>
    let b := unloadLoop g p.core fuel (madd acc.owe (mmul q p.dt)) a.2.1 core 0
    { field := b.2.1, acc := { next with core := b.2.2.1, owe := if b.2.2.2.2 then 0 else b.1 },
      shifts := b.2.2.2.1, lost := lost, overfill := a.2.2 && flt 0 a.1,
      underrun := b.2.2.2.2 && flt 0 q }

def moveGrain (g : Grid) (p : MoveIn) (acc : MoveAcc) (f : Field) : MoveOut :=
  match p.mode with
  | 1 => movePlug g p acc f
  | 2 => moveLayers g p acc f
  | _ => { field := f, acc := acc }

/-- A movement made a layer full, or empty (R256). -/
def layerTurned (g : Grid) (old new : Field) : Bool :=
  (List.range g.nz).any (fun c =>
    let l := layerOf g c g.n2
    let all (f : Field) (n : Nat) : Bool := l.all (fun i => (f.at i).fill = n)
    (all new 255 && !all old 255) || (all new 0 && !all old 0))

/-- BOUNDARY (R229): a face on a wall, floor, void cell, or the grain surface. -/
def boundaryOf (g : Grid) (f : Field) (i : Nat) : Bool :=
  dirs.any (fun d => match g.nb i d with
    | none => !(g.cyl && d = 3)
    | some j => (f.at j).isVoid || ((f.at i).grain != (f.at j).grain))

def flagBoundary (g : Grid) (f : Field) : Field :=
  f.foldl (fun (t : Field) p =>
    if p.2.isVoid then t
    else t.put p.1 { p.2 with flags := p.2.flags / 2 * 2 + if boundaryOf g f p.1 then 1 else 0 }) f

/-! ### Distances and level readings (R277, R278) -/

/-- sin²(π k / n) in 2^-40, by the Taylor series of the sine. -/
def sinSq (k n : Nat) : Nat :=
  let x := 3454217652358 * k / n
  let mul (a b : Nat) : Nat := a * b / 2 ^ 40
  let x2 := mul x x
  let t3 := mul x x2 / 6
  let t5 := mul t3 x2 / 20
  let t7 := mul t5 x2 / 42
  let t9 := mul t7 x2 / 72
  let t11 := mul t9 x2 / 110
  let t13 := mul t11 x2 / 156
  let y := x + t5 + t9 + t13 - (t3 + t7 + t11)
  mul y y

/-- Squared horizontal distance of two cell centres, m². -/
def Grid.horiz2 (g : Grid) (i j : Nat) : F32 :=
  let d1 := ((g.c1 i : Int) - g.c1 j).natAbs
  let d2 := ((g.c2 i : Int) - g.c2 j).natAbs
  if g.cyl then
    let k := min d1 (g.n1 - d1)
    let r := (2 * g.c2 i + 1) * (2 * g.c2 j + 1) * g.e2 * g.e2
    madd (fofRat (d2 * d2 * g.e2 * g.e2 : Nat) 1000000)
      (fofRat (r * sinSq k g.n1 : Nat) (1000000 * 2 ^ 40))
  else fofRat (d1 * d1 * g.e1 * g.e1 + d2 * d2 * g.e2 * g.e2 : Nat) 1000000

/-- Squared vertical distance, m². -/
def Grid.vert2 (g : Grid) (i j : Nat) : F32 :=
  let d := ((g.c3 i : Int) - g.c3 j).natAbs * g.ez
  fofRat (d * d : Nat) 1000000

/-- A squared distance over a squared radius in mm; a radius of 0 admits distance 0 alone. -/
def overRadius (d2 : F32) (r : Nat) : Option F32 :=
  if r = 0 then (if feq d2 0 then some 0 else none)
  else some (mdiv d2 (fofRat (r * r : Nat) 1000000))

/-- ρ² of R277; none beyond ρ = 2. -/
def Grid.rho2 (g : Grid) (rh rv i j : Nat) : Option F32 :=
  match overRadius (g.horiz2 i j) rh, overRadius (g.vert2 i j) rv with
  | some a, some b => let r := madd a b; if fle r (fofNat 4) then some r else none
  | _, _ => none

/-- The cells of a column from the lowest that is not void. -/
def Grid.column (g : Grid) (j : Nat) : List Nat :=
  ((List.range g.nz).map (fun c => c * (g.n1 * g.n2) + j)).filter (fun i => !g.isVoid i)

/-- Surface height of a column in mm times 255. (DEDUCED, log entry 100.) -/
def surface255 (g : Grid) (f : Field) (j : Nat) : Nat :=
  let l := g.column j
  (match l with | lo :: _ => g.c3 lo * g.ez * 255 | [] => 0) +
    (l.map (fun i => (f.at i).fill * g.ez)).foldl (· + ·) 0

def rise16 (u : Nat) : Nat := if u = 255 then 255 else min 254 (u + 16)

/-- `n` codes of grain like `src` reach a cell, which mixes as in R265; its own variance codes rise. -/
def raiseCell (src : F32 × F32 × F32 × Nat) (n : Nat) (x : Live) : Live :=
  let a := fofNat x.fill
  let b := fofNat n
  let mean (u v : F32) : F32 := if x.grain then mdiv (madd (mmul a u) (mmul b v)) (madd a b) else v
  { x with
    fill := x.fill + n, crop := if x.grain then x.crop else src.2.2.2, th := mean x.th src.1, m := mean x.m src.2.1,
    dml := mean x.dml src.2.2.1, um := rise16 x.um, ut := rise16 x.ut }

/-- Add codes to a column upward from the lowest cell not full, each with the values of the cell below it
(R278).  With no cell below, a cell that holds grain keeps its values; the values of an empty one are `lone`,
none where no crop is defined: the spec states neither. (DESIGN CHOICE, log entry 97.) -/
def raiseColumn (lone : Option (F32 × F32 × F32 × Nat)) : List Nat → Option Live → Nat → Field → Field
  | [], _, _, f => f
  | i :: t, below, n, f =>
    let x := f.at i
    let add := min n (255 - x.fill)
    let own (y : Live) : F32 × F32 × F32 × Nat := (y.th, y.m, y.dml, y.crop)
    let src := match below with
      | some b => some (own b)
      | none => if x.grain then some (own x) else lone
    match decide (add = 0), src with
    | false, some v =>
      let y := raiseCell v add x
      raiseColumn lone t (some y) (n - add) (f.put i y)
    | true, _ => raiseColumn lone t (if x.grain then some x else none) n f
    | false, none => f

/-- Remove codes from a column downward from its surface. -/
def lowerColumn : List Nat → Nat → Field → Field
  | [], _, f => f
  | i :: t, n, f =>
    let x := f.at i
    let cut := min n x.fill
    if cut = 0 then lowerColumn t n f
    else
      let y := takeGrain cut x
      let z : Live := if y.grain then { y with um := rise16 y.um, ut := rise16 y.ut } else y
      lowerColumn t (n - cut) (f.put i z)

/-- A level reading of `y` mm at an anchor cell (R278). (DESIGN CHOICE, log entry 97.) -/
def levelMove (g : Grid) (lone : Option (F32 × F32 × F32 × Nat)) (gain : F32) (rh anchor : Nat) (y : F32)
    (f : Field) : Field :=
  let ja := anchor % (g.n1 * g.n2)
  let h := fofRat (surface255 g f ja) 255
  (List.range (g.n1 * g.n2)).foldl (fun (t : Field) j =>
    match overRadius (g.horiz2 j ja) rh with
    | none => t
    | some r2 =>
      if flt (fofNat 4) r2 then t
      else
        let mv := mmul (mmul gain (exp32 (fneg r2))) (msub y h)
        let codes := ftoInt (mdiv (mmul mv (fofNat 255)) (fofNat g.ez))
        if 0 ≤ codes then raiseColumn lone (g.column j) none codes.toNat t
        else lowerColumn (g.column j).reverse (-codes).toNat t) f

end Sys2Proof.Machine
end

