-- ==== Sys2Proof/Machine/Ops.lean ====
section
/-! DEFINITION. The named operations every meaning is built from: registers and fields, free values,
what is sent out, time, event records into the intake FIFOs, and entries of the estimate table. -/

namespace Sys2Proof.Machine

/-- What a meaning answers. -/
abbrev Res := Host.Outcome State Fault Refusal

/-! ### Registers and fields -/

/-- The word a register holds. -/
def State.reg (s : State) (a : Nat) : Word := tget regReset s.regs a

/-- Put a word into a register. -/
def State.setReg (s : State) (a : Nat) (w : Word) : State := { s with regs := tset regReset s.regs a w }

/-- The value of a field. -/
def State.get (s : State) (f : Fld) : Nat := bits (s.reg f.addr) f.hi f.lo

/-- Put a value, cut to the field's width, into a field. -/
def State.put (s : State) (f : Fld) (n : Nat) : State :=
  s.setReg f.addr (setBits (s.reg f.addr) f.hi f.lo n)

/-- A bit is 1. -/
def State.on (s : State) (f : Fld) : Bool := s.get f != 0

/-- Put a bit. -/
def State.putB (s : State) (f : Fld) (b : Bool) : State := s.put f (if b then 1 else 0)

/-- Count one more, modulo the field's width. -/
def State.inc (s : State) (f : Fld) : State := s.put f (s.get f + 1)

/-- Count `n` more, stopping at the field's largest value. -/
def State.addSat (s : State) (f : Fld) (n : Nat) : State :=
  s.put f (satTo (f.hi + 1 - f.lo) (s.get f + n))

/-- Count one more, stopping at the field's largest value. -/
def State.incSat (s : State) (f : Fld) : State := s.addSat f 1

/-- Raise a field to at least `n`, stopping at the field's largest value. -/
def State.raise (s : State) (f : Fld) (n : Nat) : State :=
  s.put f (satTo (f.hi + 1 - f.lo) (max (s.get f) n))

/-- Registers whose value lives in a table of the display: nothing is stored in the register itself. -/
def tableRegs : List Nat := [Reg.DISP_FB_DATA, Reg.DISP_GAMMA_DATA, Reg.DISP_CURVE_DATA]

/-- The register after an accepted write: RW fields take the value, W1C bits written 1 clear, RO fields
stay and WO fields are not kept (R8, R106). -/
def RegRow.after (r : RegRow) (old v : Word) : Word :=
  ((old &&& ~~~(BitVec.ofNat 32 r.rw)) ||| (v &&& BitVec.ofNat 32 r.rw)) &&& ~~~(v &&& BitVec.ofNat 32 r.w1c)

/-- The register stores what it keeps of an accepted write. -/
def State.store (s : State) (a : Nat) (v : Word) : State :=
  match rowOf a with
  | some r => if a ∈ tableRegs then s else s.setReg a (r.after (s.reg a) v)
  | none => s

/-! ### Free values and what is sent -/

/-- The next free value of `w` bits. (DESIGN CHOICE, log entry 11.) -/
def State.free (s : State) (w : Nat) : BitVec w := Config.freeValue w s.freeIdx

/-- A free value has been taken. (DESIGN CHOICE, log entry 11.) -/
def State.took (s : State) : State := { s with freeIdx := s.freeIdx + 1 }

/-- The free value `j` places on: several values that are open at once. -/
def State.freeAt (s : State) (w j : Nat) : BitVec w := Config.freeValue w (s.freeIdx + j)
def State.tookN (s : State) (n : Nat) : State := { s with freeIdx := s.freeIdx + n }

/-- `num / den` where the spec does not say how the last digit is rounded: the exact quotient, or one
of the two neighbours by a free bit. (DESIGN CHOICE, log entry 25.) -/
def State.openDiv (s : State) (num den : Nat) : Nat :=
  num / den + (if num % den = 0 then 0 else (s.free 1).toNat)

/-- Send a message or signal. (DESIGN CHOICE, log entry 10.) -/
def State.send (s : State) (o : Output) : State := { s with out := o :: s.out }

/-! ### Time -/

/-- Operating time, 1/1024 s (R79). -/
def State.optime (s : State) : Nat :=
  (s.reg Reg.PWR_OPTIME_LO).toNat + s.get Reg.PWR_OPTIME_HI_OPTIME_HI * 2 ^ 32

/-- Set operating time, 40 bits. -/
def State.setOptime (s : State) (t : Nat) : State :=
  (s.setReg Reg.PWR_OPTIME_LO (BitVec.ofNat 32 t)).put Reg.PWR_OPTIME_HI_OPTIME_HI (t / 2 ^ 32)

/-- Power-cycle count. -/
def State.pcc (s : State) : Nat := s.get Reg.PWR_CYCLE_COUNT_COUNT

/-- Whole operating seconds, milliseconds and hours. -/
def State.opSec (s : State) : Nat := s.optime / 1024
def State.opMs (s : State) : Nat := s.optime * 1000 / 1024

/-- Seconds and nanoseconds of a time in ns (R152). -/
def secOf (t : Nat) : Nat := t / 1000000000
def nsOf (t : Nat) : Nat := t % 1000000000

/-- Parameters 0 and 1 of a time mark: one sample of the always-on block's copy of site time (R168). -/
def State.markSample (s : State) : Nat × Nat :=
  (secOf s.tim.aon % 2 ^ 32, nsOf s.tim.aon / 1000000 * 2 ^ 16 + secOf s.tim.aon / 2 ^ 32 % 2 ^ 16)

/-! ### Which planes run -/

def State.cpUp (s : State) : Bool := !s.pwr.rstCp
def State.mpUp (s : State) : Bool := !s.pwr.rstMp

/-- A caddy is loaded; bare mode. -/
def State.isLoaded (s : State) : Bool := s.mpUp && decide (s.caddy.phase = 3)
def State.isBare (s : State) : Bool := s.mpUp && decide (s.caddy.phase = 4)

/-- The data plane runs: it is out of reset, and no sluice has stopped it (R65). (DEDUCED, log entry 147.) -/
def State.dpUp (s : State) : Bool := !s.pwr.rstDp && s.pwr.sluice.isNone

/-- The always-on block works: V1P8 has not collapsed (R60). -/
def State.aonUp (s : State) : Bool := !s.pwr.collapsed

/-- Carry out `f` when `c` holds; a command that does not apply changes nothing. -/
def State.when (s : State) (c : Bool) (f : State → State) : State := if c then f s else s

/-- Carry out `f` for each element in turn. -/
def State.each {α : Type} (s : State) (l : List α) (f : State → α → State) : State := l.foldl f s

/-! ### Event records (R431 to R436) -/

/-- The severity of an event code; some depend on parameter 1 (R433 and the event table of the
reliability chapter). -/
def sevOf (code p1 : Nat) : Nat :=
  if code ∈ [0x1003, 0x2005, 0xD003] then 6
  else if code = 0x1001 ∨ (code = 0x2001 ∧ p1 = 2) then 5
  else if code ∈ [0x0022, 0x0025, 0x3007, 0x300A, 0x6011, 0x7008, 0x7013, 0xA001, 0xA002, 0xC001,
      0xD002, 0xD007, 0xD00A] then 4
  else if (code = 0x2003 ∧ p1 ≠ 0) ∨ (code = 0x3006 ∧ 1 ≤ p1 ∧ p1 ≤ 3) ∨
      code ∈ [0x1002, 0x3011, 0x4001, 0x4003, 0x4005, 0x4007, 0x5009, 0x6015, 0x6020, 0x7001, 0x7006,
        0x7007, 0x7010, 0x7020, 0x8008, 0x800A, 0xA006, 0xB001, 0xD005, 0xD00C, 0xD00D] then 3
  else if (code = 0x2001 ∧ p1 = 1) ∨
      code ∈ [0x0010, 0x0011, 0x1004, 0x3002, 0x3003, 0x3004, 0x5007, 0x6012, 0x6021, 0x7009, 0x700A,
        0x700B, 0x8004, 0x9009, 0xA005, 0xA008, 0xC010, 0xD001, 0xD008, 0xD009] then 2
  else if code ∈ [0x0020, 0x0024, 0x5001, 0x9001, 0xA003, 0xA004, 0xD004, 0xD00B, 0xD00E] then 1
  else 0

/-- Intake ports (R435). -/
def portAon : Nat := 0
def portMp : Nat := 1
def portCaddy : Nat := 2
def portTime : Nat := 3
def portNet : Nat := 4
def portLog : Nat := 5
def portDisp : Nat := 6
def portGov : Nat := 7
def portFan : Nat := 10
def portAio : Nat := 11
def portSprin : Nat := 12
def portField : Nat := 13
def portMill : Nat := 14
def portRel : Nat := 15

/-- The intake port of a valve bank (R435). -/
def portValve (b : Nat) : Nat := if b < 6 then 8 else 9

/-- The FIFO of a port. -/
def Recorder.fifo (r : Recorder) (p : Nat) : List Submit := tget (fun _ => []) r.fifos p

def Recorder.setFifo (r : Recorder) (p : Nat) (q : List Submit) : Recorder :=
  { r with fifos := tset (fun _ => []) r.fifos p q }

/-- A record reaches a full FIFO: it is dropped and counted (R435, R436). -/
def State.dropRecord (s : State) (port : Nat) : State :=
  if s.mpUp then
    { (s.inc (Reg.LOG_DROP_DROPPED port)).putB Reg.LOG_STATUS_OVERFLOW true with
      log := { s.log with
        ovCount := s.log.ovCount + 1, ovPorts := s.log.ovPorts ||| 2 ^ port,
        ovSince := if s.log.ovCount = 0 then s.optime else s.log.ovSince } }
  else if port = 0 then { s with log := { s.log with
    aonDrops := s.log.aonDrops + 1, aonSince := if s.log.aonDrops = 0 then s.optime else s.log.aonSince } }
  else s

/-- A unit submits a record to its intake FIFO of 16; in a reset of the planes only the FIFO of the always-on
block takes one (R31, R435, R436). -/
def State.submit (s : State) (port : Nat) (e : Submit) : State :=
  let q := s.log.fifo port
  if !s.mpUp && decide (port ≠ 0) then s
  else if q.length < 16 then { s with log := s.log.setFifo port (q ++ [e]) } else s.dropRecord port

/-- Submit a record of a code, its severity from R433. -/
def State.ev (s : State) (port code : Nat) (p0 : Nat := 0) (p1 : Nat := 0) (p2 : Nat := 0)
    (prov : Bool := false) : State :=
  s.submit port { code := code, sev := sevOf code p1, p0 := p0 % 2 ^ 32, p1 := p1 % 2 ^ 32,
                  p2 := p2 % 2 ^ 32, prov := prov }

/-- A signed parameter as 32 bits. -/
def par (i : Int) : Nat := ofSigned 32 i

/-! ### The estimate table (R23 to R25) -/

/-- A word of the front bank. -/
def State.estWord (s : State) (n w : Nat) : Word := tget (fun _ => 0) s.est.front (4 * n + w)

/-- A word of the back bank. -/
def State.estBack (s : State) (n w : Nat) : Word := tget (fun _ => 0) s.est.back (4 * n + w)

/-- Write the four words of an entry into the back bank and mark it written in this epoch. -/
def State.estWrite (s : State) (n : Nat) (w0 w1 w2 w3 : Word) : State :=
  let b0 := tset (fun _ => 0) s.est.back (4 * n) w0
  let b1 := tset (fun _ => 0) b0 (4 * n + 1) w1
  let b2 := tset (fun _ => 0) b1 (4 * n + 2) w2
  let b3 := tset (fun _ => 0) b2 (4 * n + 3) w3
  { s with est := { s.est with
      back := b3, written := if n ∈ s.est.written then s.est.written else n :: s.est.written } }

/-- Site time in ns as a validity time in ticks of 100 µs (R289). -/
def tickOf (ns : Nat) : Word := BitVec.ofNat 32 (ns / 100000)

/-- What a publication says of an entry besides its value (R289). -/
structure EntryInfo where
  valid : Bool := true
  prov : Bool := false
  forecast : Bool := false
  coasting : Bool := false
  firmLag : Nat := 0
  kind : Nat := 0
  body : Nat := 0
deriving DecidableEq, Repr

/-- Word 3 of an entry, with the UPDATES count that follows the last one written. -/
def State.entryWord3 (s : State) (n : Nat) (i : EntryInfo) : Word :=
  let b (x : Bool) (k : Nat) : Nat := if x then 2 ^ k else 0
  BitVec.ofNat 32 (b i.valid 31 + b i.prov 30 + b i.forecast 29 + b i.coasting 28 +
    satTo 10 i.firmLag * 2 ^ 16 + i.kind % 16 * 2 ^ 12 + i.body % 16 * 2 ^ 8 +
    (bits (s.estBack n 3) 7 0 + 1) % 256)

/-- Publish an entry: VALUE is NaN when it is not valid (R289). -/
def State.publish (s : State) (n : Nat) (value sigma : F32) (vtime : Word) (i : EntryInfo) : State :=
  s.estWrite n (if i.valid then value else 0x7FC00000) sigma vtime (s.entryWord3 n i)

/-- The entries that pass a source through: KIND 0 (R36, R290). -/
def State.passEntries (s : State) (source : Word) : List Nat :=
  (s.smap.pubs.filter (fun p => p.kind = 0 && p.arg0 = source)).map (fun p => p.entry)

/-- A value of a source is forwarded to every anchor that reads it (R36, R185, R274); it arrives there by
READING_ARRIVE. (DESIGN CHOICE, log entry 148.) -/
def State.forward (s : State) (source : Word) (value sigma : F32) (stamp : Nat) : State :=
  let l := (s.smap.anchors.zipIdx).filter (fun p => p.1.source = source)
  { s with mill := { s.mill with
      inbox := s.mill.inbox ++ l.map (fun p => { anchor := p.2, value := value, sigma := sigma, stamp := stamp }) } }

/-! ### Idling -/

/-- With no command waiting, one period of 1/1024 s of the crystal passes: operating time counts on
(R79), and the always-on block's copy of site time runs on while the planes that hold the time unit are
in reset (R32).  Nothing passes while V1P8 has collapsed (R60). (DESIGN CHOICE, log entry 2.) -/
def State.idle (s : State) : State :=
  if s.pwr.collapsed then s
  else
    let t := s.setOptime (s.optime + 1)
    if t.pwr.rstMp then
      { t with
        tim := { t.tim with aon := t.tim.aon + 976562 + t.optime % 2 } }
    else t

end Sys2Proof.Machine
end

