-- ==== Sys2Proof/Machine/DisplayOps.lean ====
section
/-! DEFINITION. The door panel (R404 to R420): dirty rows, on-times, ageing gains, sense sweep,
bindings, discharge and the crack loop. -/

namespace Sys2Proof.Machine

open Reg

/-- The door die's link is fenced (R450). -/
def State.doorFenced (s : State) : Bool := decide (Element.link 2 ∈ s.rel.fenced)

/-- STATE codes of DISP_STATUS. -/
def panelAbsent : Nat := 0
def panelBoot : Nat := 1
def panelLit : Nat := 2
def panelOff : Nat := 3
def panelCrack : Nat := 4
def panelVled : Nat := 5
def panelDischarging : Nat := 6

def State.panel (s : State) : Nat := s.get DISP_STATUS_STATE

/-- Mark rows of the frame store and of a shown image dirty (R411, R413). -/
def State.dirtyRows (s : State) (mask : Nat) : State :=
  let t := s.put DISP_DIRTY_ROWS (s.get DISP_DIRTY_ROWS ||| mask)
  { t with disp := { t.disp with imgDirty := t.disp.imgDirty ||| mask } }

def State.dirtyAll (s : State) : State := s.dirtyRows 0xFFFF

/-- The image shown: a binding's, or that of DISP_SOURCE; 0xFF is the frame store (R414, R415). -/
def State.shownImage (s : State) : Nat :=
  match s.disp.showing with
  | some b => b.image
  | none => s.get DISP_SOURCE_IMAGE

/-- The code of a subpixel in what is shown. -/
def State.pixelCode (s : State) (k : Nat) : Nat :=
  let n := s.shownImage
  if n = 0xFF then (tget (fun _ => 0) s.disp.fb k).toNat
  else (tget (fun _ => 0) s.disp.images (1536 * n + k)).toNat

/-- The colour of subpixel k (R405). -/
def colourOf (k : Nat) : Nat := k % 3

def State.gainOf (s : State) (k : Nat) : Nat := tget (fun _ => 16384) s.disp.gain k

/-- The on-time product of R407 before clipping, rounded to nearest with ties away from zero. -/
def pwmRaw (g gain : Nat) : Nat := (2 * g * gain + 16384) / 32768

/-- Compute the on-time of subpixel k and put it into the scan (R407). -/
def State.scanPixel (s : State) (k : Nat) : State :=
  let g := tget (fun _ => 0) s.disp.gamma (256 * colourOf k + s.pixelCode k)
  let t := if 4095 * 16384 < g * s.gainOf k then s.putB DISP_STATUS_CLIPPED true else s
  { t with disp := { t.disp with
    pwm := tset (fun _ => 0) t.disp.pwm k (min 4095 (pwmRaw g (s.gainOf k))) } }

/-- Copy row y into the scan (R411). -/
def State.scanRow (s : State) (y : Nat) : State :=
  s.each (List.range 96) (fun t i => t.scanPixel (96 * y + i))

/-- The rows that a mask names. -/
def maskRows (m : Nat) : List Nat := (List.range 16).filter (fun y => m.testBit y)

/-- Copy every dirty row of what is shown and clear its bit (R411). (DEDUCED, log entry 126.) -/
def State.copyDirty (s : State) : State :=
  if s.shownImage = 0xFF then
    (s.each (maskRows (s.get DISP_DIRTY_ROWS)) State.scanRow).put DISP_DIRTY_ROWS 0
  else
    let t := s.each (maskRows s.disp.imgDirty) State.scanRow
    { t with disp := { t.disp with imgDirty := 0 } }

/-- A sluice and what follows it keep the panel unlit (R416). -/
def State.panelHeld (s : State) : Bool := s.pwr.sluice.isSome || s.pwr.sluiceDone

/-- A lit subpixel's frame adds its column current times its on-time (R408); one LSB of 0.01 mA h is
9,000,000,000 units of 0.1 mA by 40 ns. -/
def State.stressPixel (s : State) (e : Nat × Nat) : State :=
  let k := e.1
  let a := tget (fun _ => 0) s.stress.frac k + tget (fun _ => 0) s.disp.current (colourOf k) * e.2
  let n := tget (fun _ => 0) s.stress.s k + a / 9000000000
  { s with stress := { s.stress with
      s := tset (fun _ => 0) s.stress.s k (n % 2 ^ 32),
      frac := tset (fun _ => 0) s.stress.frac k (a % 9000000000) } }

/-- What row `y` of the scan drives: the three column currents, and the on-time of each column (R404,
R406). -/
def State.scanVals (s : State) (y : Nat) : List Nat :=
  (List.range 3).map (fun c => tget (fun _ => 0) s.disp.current c) ++
    (List.range 96).map (fun i => tget (fun _ => 0) s.disp.pwm (96 * y + i))

/-- The first `n` rows of a frame were driven (R406), and their subpixels age (R408). -/
def State.litRows (s : State) (n : Nat) : State :=
  (s.each (List.range n) (fun t y => t.send (.drive 0 y (s.scanVals y)))).each
    (s.disp.pwm.filter (fun e => decide (e.1 < 96 * n))) State.stressPixel

/-- The frame that ends was lit (R406, R408). -/
def State.litFrame (s : State) : State := if s.panel = panelLit then s.litRows 16 else s

/-- A lit panel goes dark within a frame, after a number of its slots that is open (R408, R416).
(DESIGN CHOICE, log entry 150.) -/
def State.darken (s : State) : State :=
  if s.panel = panelLit then (s.litRows ((s.free 5).toNat % 17)).took else s

/-- The panel goes unlit: it is to light at the next frame, or it waits for VLED, or it stays off; before
the assets have loaded it is blank at boot, and a sluice keeps it off (R416, R417, R418).
(DESIGN CHOICE, log entry 38.) -/
def State.panelTo (s : State) (lit : Bool) : State :=
  if !s.disp.assets then s.put DISP_STATUS_STATE panelBoot
  else if s.panelHeld then s.put DISP_STATUS_STATE panelOff
  else
    let t := if lit then s.dirtyAll else s
    let u : State := { t with disp := { t.disp with back := lit, lightNext := lit && s.on PWR_STATUS_VLED_OK } }
    u.put DISP_STATUS_STATE (if s.on PWR_STATUS_VLED_OK then panelOff else panelVled)

/-- The panel is to light, or is off, once nothing holds it dark. -/
def State.panelWants (s : State) : Bool :=
  if s.panel = panelOff then s.disp.lightNext
  else if s.panel = panelVled then s.disp.back
  else decide (s.panel = panelLit)

/-- Start a discharge that ends in STATE `after` (R416). -/
def State.discharge (s : State) (after : Nat) : State :=
  let t := ((s.darken.put DISP_STATUS_STATE panelDischarging).putB DISP_STATUS_DISCHARGED false).send .discharge
  { t with disp := { t.disp with after := after, lightNext := false } }

/-- The discharge completes (R416). -/
def State.dischargeDone (s : State) : State :=
  if s.panel = panelDischarging then
    let t := s.putB DISP_STATUS_DISCHARGED true
    if s.disp.after = panelOff then t.panelTo false else t.put DISP_STATUS_STATE s.disp.after
  else s

/-- Panel off, ACTION 1: it finds the panel lit, or about to be; a crack blank prevails (R417, R420). -/
def State.panelOffCmd (s : State) : State :=
  if s.panelWants then (s.discharge panelOff).ev portDisp 0xB003 1 else s

/-- Wake, ACTION 2, of a panel that is off (R417). -/
def State.panelWake (s : State) : State :=
  if s.panel = panelOff ∧ s.disp.lightNext = false then
    let t := s.dirtyAll.ev portDisp 0xB003 0
    { t with disp := { t.disp with lightNext := true } }
  else s

/-- Clear the crack blank, ACTION 3: the panel returns to the state before the blank (R419). -/
def State.panelClearCrack (s : State) : State :=
  if s.panel = panelCrack then s.panelTo (decide (s.disp.prev ≠ panelOff)) else s

/-- Clear the stress counters, ACTION 4 (R408); the next complete sweep captures VF0 anew (R410). -/
def State.panelClearStress (s : State) (req : Nat) : State :=
  let t := (s.putB DISP_STATUS_VF0_SET false).ev portDisp 0xB006 req
  { t with
    stress := { t.stress with s := [], frac := [] },
    disp := { t.disp with vf0 := [], sense := [], sweepFull := decide (t.disp.sweepK = 0) } }

/-- VLED is lost or returns (R418). -/
def State.panelVledChange (s : State) (good : Bool) : State :=
  let t := s.putB DISP_STATUS_VLED_OK good
  if !t.on DISP_CFG_PRESENT || !t.disp.assets then t
  else if good then
    let u := t.dirtyAll.ev portDisp 0xB004 0
    if u.panel = panelVled then u.panelTo u.disp.back else u
  else
    let u := t.ev portDisp 0xB004 1
    if u.panel = panelLit ∨ u.panel = panelOff then u.darken.panelTo u.panelWants else u

/-- DISP_SOURCE was written: every row is dirty, and the shown image changes unless a binding
shows (R413, R415). -/
def State.sourceChanged (s : State) : State := s.dirtyAll.put DISP_STATUS_SHOWING s.shownImage

/-- A record with a bound code enters the pond (R415). (DEDUCED, log entry 126.) -/
def State.bindShow (s : State) (code : Nat) : State :=
  match s.disp.bindings.find? (fun b => b.code = code) with
  | none => s
  | some b =>
    let start :=
      match s.disp.showing with
      | none => true
      | some c => decide (c.prio < b.prio) && decide (c.code ≠ b.code)
    if start then
      let t := { s with disp := { s.disp with showing := some b } }
      ((t.putB DISP_STATUS_BINDING true).sourceChanged).ev portDisp 0xB007 code b.image b.prio
    else s

/-- The binding ends (R415). -/
def State.bindEnd (s : State) : State :=
  if s.disp.showing.isSome then
    let t := { s with disp := { s.disp with showing := none } }
    (t.putB DISP_STATUS_BINDING false).sourceChanged
  else s

/-- The display assets have loaded: a fitted panel leaves its boot blank, and a binding that showed ends
(R418, R420). -/
def State.panelAssets (s : State) : State :=
  let r := s.bindEnd
  let t := { r with disp := { r.disp with assets := true } }
  let u := t.put DISP_STATUS_SHOWING t.shownImage
  if !u.on DISP_CFG_PRESENT then u.put DISP_STATUS_STATE panelAbsent
  else if u.panel = panelAbsent ∨ u.panel = panelBoot then u.panelTo true
  else u.dirtyAll

/-- DISP_CFG was written: a panel that is fitted stays blank until its assets have loaded (R418). -/
def State.panelFitted (s : State) : State :=
  if s.on DISP_CFG_PRESENT ∧ s.panel = panelAbsent then s.put DISP_STATUS_STATE panelBoot else s

/-! ### Frame store -/

/-- Put one byte into the frame store; a change marks its row dirty (R411). (DESIGN CHOICE, log entry 4.) -/
def State.fbByte (s : State) (k : Nat) (b : Byte) : State :=
  if tget (fun _ => 0) s.disp.fb k = b then s
  else
    let t := s.put DISP_DIRTY_ROWS (s.get DISP_DIRTY_ROWS ||| 2 ^ (k / 96))
    { t with disp := { t.disp with fb := tset (fun _ => 0) t.disp.fb k b } }

/-- A write of DISP_FB_DATA: four bytes at OFFSET, then the automatic advance (R405). -/
def State.fbWrite (s : State) (w : Word) : State :=
  let o := s.get DISP_FB_SEL_OFFSET
  let t := s.each (List.range 4) (fun t i => t.fbByte (o + i) (BitVec.ofNat 8 (w.toNat >>> (8 * i))))
  if t.on DISP_FB_SEL_AUTO_INC then t.put DISP_FB_SEL_OFFSET (if o = 1532 then 0 else o + 4) else t

/-- What DISP_FB_DATA reads: the four bytes at OFFSET. -/
def State.fbRead (s : State) : Word :=
  let o := s.get DISP_FB_SEL_OFFSET
  BitVec.ofNat 32 (ofLeBytes ((List.range 4).map (fun i => (tget (fun _ => 0) s.disp.fb (o + i)).toNat)))
where
  ofLeBytes : List Nat → Nat
    | [] => 0
    | b :: t => b + 256 * ofLeBytes t

/-- GO in DISP_COMMIT starts an update item (R412). -/
def State.commitGo (s : State) : State := s.putB DISP_COMMIT_BUSY true

/-- An update item ends (R412). (DESIGN CHOICE, log entry 38.) -/
def State.commitEnd (s : State) (status reason : Nat) : State :=
  if s.on DISP_COMMIT_BUSY then
    ((s.putB DISP_COMMIT_BUSY false).put DISP_COMMIT_STATUS status).put DISP_COMMIT_REASON reason
  else s

/-- The sluice takes the panel: an item that waits is cancelled, and the discharge runs unless one already does
(R412, R416, R420).  A lit panel is off after it. (DESIGN CHOICE, log entry 38.) -/
def State.panelSluice (s : State) : State :=
  let t := s.commitEnd 2 1
  if t.panel = panelAbsent ∨ t.panel = panelDischarging then t
  else t.discharge (if t.panel = panelBoot ∨ t.panel = panelCrack then t.panel else panelOff)

/-! ### The blanking slot -/

/-- Column current fields by colour. -/
def currentFld (c : Nat) : Fld :=
  if c = 0 then DISP_CURRENT_RED else if c = 1 then DISP_CURRENT_GREEN else DISP_CURRENT_BLUE

/-- Temperature coefficient fields by colour. -/
def senseTcFld (c : Nat) : Fld :=
  if c = 0 then DISP_SENSE_TC_RED else if c = 1 then DISP_SENSE_TC_GREEN else DISP_SENSE_TC_BLUE

/-- The currents and RATE_300 written take effect at the next frame start (R413). -/
def State.latchCurrents (s : State) : State :=
  { s with disp := { s.disp with
      rate300 := s.on DISP_CFG_RATE_300
      current := (List.range 3).foldl (fun l c => tset (fun _ => 0) l c (s.get (currentFld c)))
        s.disp.current } }

/-- A guard reading, 1/16 °C, signed. -/
def State.guardTemp (s : State) (n : Nat) : Int := toSigned 16 (s.get (GUARD_READING_TEMP n))

/-- Vf_25 in mV from a measured voltage in mV (R410); the last digit of a quotient that is not whole
is open. (DESIGN CHOICE, log entry 125.) -/
def State.vf25Of (s : State) (k vf : Nat) : Nat :=
  let tc := toSigned 8 (s.get (senseTcFld (colourOf k)))
  let num := (vf : Int) * 160 - tc * (s.guardTemp 19 - 400)
  s.openDiv num.toNat 160

/-- The sense factor in 2^-16: clamp(1 - SENSE_K max(0, Vf_25 - VF0), 0.5, 1) (R410).
(DESIGN CHOICE, log entry 125.) -/
def senseFactor (k vf25 vf0 : Nat) : Nat := max 32768 (65536 - k * (vf25 - vf0))

/-- One sense sample of the sweep (R410); not taken at 300 Hz on revision A1 (R497). -/
def State.senseSample (s : State) (vf : Nat) : State :=
  if s.panel ≠ panelLit ∨ !s.on DISP_CFG_SENSE_EN ∨ s.disp.rate300 then s else
  let k := s.disp.sweepK
  let v := s.vf25Of k vf
  let cap := !s.on DISP_STATUS_VF0_SET && s.disp.sweepFull
  let f := senseFactor (s.get DISP_AGE_CFG_SENSE_K) v (tget (fun _ => 0) s.disp.vf0 k)
  let d := { s.disp with
    vf25 := tset (fun _ => 0) s.disp.vf25 k v,
    vf0 := if cap then tset (fun _ => 0) s.disp.vf0 k v else s.disp.vf0,
    sense := if s.on DISP_STATUS_VF0_SET && s.on DISP_CFG_USE_SENSE then
        tset (fun _ => 65536) s.disp.sense k f else s.disp.sense,
    sweepK := (k + 1) % 1536,
    sweepFull := if k = 1535 then true else s.disp.sweepFull }
  let t := { s.took with disp := d }
  if k = 1535 then
    (((t.putB DISP_STATUS_SWEEP_DONE true).inc DISP_STATS_SWEEPS)).putB DISP_STATUS_VF0_SET
      (s.on DISP_STATUS_VF0_SET || cap)
  else t

/-- One blanking slot (R406, R411, R412). -/
def State.blankingSlot (s : State) (vf : Nat) : State :=
  if !s.on DISP_CFG_PRESENT || !s.disp.assets || s.doorFenced then
    s.commitEnd (if s.doorFenced then 1 else 0) (if s.doorFenced then 1 else 0)
  else if s.panelHeld then s
  else
    let a := s.litFrame
    let item := a.on DISP_COMMIT_BUSY
    let b := if item || !a.on DISP_COMMIT_HOLD then a.copyDirty else a
    let c := if item then (b.putB DISP_COMMIT_HOLD false).commitEnd 0 0 else b
    let d := (c.senseSample vf).latchCurrents
    if d.disp.lightNext ∧ d.panel = panelOff then
      (State.put { d with disp := { d.disp with lightNext := false } } DISP_STATUS_STATE panelLit).putB
        DISP_STATUS_DISCHARGED false
    else d

/-! ### Ageing gains -/

/-- Ageing-curve efficiency at stress `S`, times STEP (R409). -/
def State.curveAt (s : State) (c S step : Nat) : Nat :=
  let e (i : Nat) : Nat := tget (fun _ => 0xFFFF) s.disp.curve (32 * c + min i 31)
  let i := S / step
  if 31 ≤ i then e 31 * step else e i * (step - S % step) + e (i + 1) * (S % step)

/-- The gain of subpixel k, Q2.14, and whether MAX_GAIN held it (R409). -/
def State.newGain (s : State) (k : Nat) : Nat × Bool :=
  let c := colourOf k
  let step := s.get (DISP_CURVE_STEP_STEP c)
  let e := s.curveAt c (tget (fun _ => 0) s.stress.s k) step *
    (if s.on DISP_CFG_USE_SENSE then tget (fun _ => 65536) s.disp.sense k else 65536)
  let num := 16384 * tget (fun _ => 0xFFFF) s.disp.curve (32 * c) * step * 65536
  let g := if e = 0 then 65535 else (2 * num + e) / (2 * e)
  let m := s.get DISP_AGE_CFG_MAX_GAIN
  (min m g, decide (m ≤ g))

/-- Set the gain of subpixel k; a change marks its row dirty (R409, R413). -/
def State.regain (s : State) (k : Nat) : State :=
  let g := (s.newGain k).1
  if g = s.gainOf k then s
  else
    let t := s.dirtyRows (2 ^ (k / 96))
    { t with disp := { t.disp with gain := tset (fun _ => 16384) t.disp.gain k g } }

/-- One record 0xB005 for each colour and hour in which a gain was held at MAX_GAIN (R409). -/
def State.heldReport (s : State) (c : Nat) : State :=
  let n := ((List.range 512).filter (fun i => (s.newGain (3 * i + c)).2)).length
  let h := s.opSec / 3600 + 1
  if n = 0 ∨ tget (fun _ => 0) s.disp.heldHour c = h then s
  else
    let t := s.ev portDisp 0xB005 c n
    { t with disp := { t.disp with heldHour := tset (fun _ => 0) t.disp.heldHour c h } }

/-- The 60 s recompute of every gain (R409). -/
def State.gainRecompute (s : State) : State :=
  if !s.mpUp then s else
  let held := ((List.range 1536).filter (fun k => (s.newGain k).2)).length
  let t := s.each (List.range 1536) State.regain
  (t.each [0, 1, 2] State.heldReport).put DISP_STATS_CLIPPED_PIX (satTo 8 held)

/-- The hourly save of the stress counters and of VF0 (R408, R410). -/
def State.stressSave (s : State) : State :=
  if !s.mpUp then s else
  { s with stress := { s.stress with
      savedS := s.stress.s, savedFrac := s.stress.frac, savedVf0 := s.disp.vf0,
      savedVf0Set := s.on DISP_STATUS_VF0_SET } }

/-! ### Crack loop -/

/-- One check of the crack loop with the measured resistance in ohms (R419). -/
def State.crackCheck (s : State) (ohms : Nat) : State :=
  if !s.on DISP_CFG_PRESENT then s
  else if 2000 < ohms then
    let t := (s.incSat DISP_STATS_CRACK_OPENS).putB DISP_STATUS_CRACK_OPEN true
    if s.on DISP_STATUS_CRACK_OPEN then t
    else
      let u := (t.putB DISP_STATUS_CRACK_SEEN true).ev portDisp 0xB001 (min ohms (2 ^ 32 - 1))
      let blank := u.panel = panelCrack ∨ (u.panel = panelDischarging ∧ u.disp.after = panelCrack)
      let v : State := { u with disp := { u.disp with
        crackAt := s.optime
        prev := if blank then u.disp.prev else if u.panelWants || !u.disp.assets then panelLit else panelOff } }
      if blank then v else v.discharge panelCrack
  else if s.on DISP_STATUS_CRACK_OPEN then
    (s.putB DISP_STATUS_CRACK_OPEN false).ev portDisp 0xB002 ((s.optime - s.disp.crackAt) / 1024)
  else s

end Sys2Proof.Machine
end

