-- ==== Sys2Proof/Machine/StripOps.lean ====
section
/-! DEFINITION. The last-word strip (R421 to R430) and the energy tests it shares with the sluice
(R67, R68). -/

namespace Sys2Proof.Machine

open Reg

/-- STATE codes of DISP_STRIP_STATUS. -/
def stripIdle : Nat := 1
def stripWaiting : Nat := 2
def stripUpdating : Nat := 3
def stripClearing : Nat := 4
def stripSluice : Nat := 5

/-- No strip is in use: PRESENT is 0 or no display assets are loaded (R67). -/
def State.stripUsed (s : State) : Bool := s.on DISP_STRIP_CFG_PRESENT && s.disp.assets

/-- The guard sensor is broken. -/
def State.guardBroken (s : State) (n : Nat) : Bool := s.on (GUARD_READING_BROKEN n)

/-- The band of a temperature in 1/16 °C, and whether it was clamped (R423). -/
def bandOf (t : Int) : Nat × Bool :=
  ((clampI 0 7 ((t + 320) / 140)).toNat, decide (t < -320) || decide (800 ≤ t))

/-- The current band with the flags RANGE_CLAMP and SENSOR_FALLBACK (R423). -/
def State.stripBand (s : State) : Nat × Bool × Bool :=
  let n := s.get DISP_STRIP_CFG_TEMP_SENSOR
  if !s.guardBroken n then
    let b := bandOf (s.guardTemp n); (b.1, b.2, false)
  else if !s.guardBroken 19 then
    let b := bandOf (s.guardTemp 19); (b.1, b.2, true)
  else (s.get DISP_STRIP_CFG_FALLBACK_BAND, false, true)

/-- The waveform record of a band and kind (R422). -/
def State.waveOf (s : State) (band kind : Nat) : Wave := tget (fun _ => {}) s.strip.waves (3 * band + kind)

/-- 1.25 (1.5 W + P_ep) T for `frames` frames of 20 ms, in units of 0.25 µJ (R67, R68). -/
def State.stripEnergy (s : State) (frames : Nat) : Nat :=
  5 * (1500 + s.get PWR_HOLD_CFG2_EP_MW) * (20 * frames)

/-- ENERGY_MJ in units of 0.25 µJ. -/
def State.gaugeEnergy (s : State) : Nat := s.get PWR_GAUGE_ENERGY_MJ * 4000

/-- The admission test of R68 and R425 for a waveform of `frames` frames in a band. -/
def State.stripAdmits (s : State) (band frames : Nat) : Bool :=
  s.stripUsed && s.on PWR_STATUS_VEP_OK && s.on PWR_STATUS_GAUGE_VALID &&
    decide (76 * 4000 + s.stripEnergy (frames + (s.waveOf band 1).frames) ≤ s.gaugeEnergy)

/-- The test of R67 for the last word, with the band latched at the end of step 3. -/
def State.lastWordAdmits (s : State) (band : Nat) : Bool :=
  s.on PWR_STATUS_GAUGE_VALID &&
    decide (5 * 4000 + s.stripEnergy (s.waveOf band 1).frames ≤ s.gaugeEnergy)

/-- The sequence of transition t, as a number of 2-bit codes (R422). -/
def Wave.seq (w : Wave) (t : Nat) : Nat :=
  if t = 0 then w.seq0 else if t = 1 then w.seq1 else if t = 2 then w.seq2 else w.seq3

/-- The level code of segment n in frame m: 0 VCOM, 1 VEP_P, 2 VEP_N (R421, R422, R424). -/
def WaveRun.level (r : WaveRun) (n : Nat) : Nat :=
  let goal := if r.toSegs.testBit n then 1 else 0
  let was := if r.fromSegs.testBit n then 1 else 0
  let t := if r.kind = 2 then 2 else if r.kind = 3 then 2 * (1 - goal) + goal else 2 * was + goal
  (r.wave.seq t >>> (2 * r.frame)) % 4

def State.stripState (s : State) (n : Nat) : State := s.put DISP_STRIP_STATUS_STATE n

/-- The state shown when no waveform runs. -/
def State.stripRest (s : State) : State :=
  s.stripState (if !s.on DISP_STRIP_CFG_PRESENT then 0
    else if s.strip.waiting || s.strip.clear != 0 || s.strip.repeatTo.isSome || s.strip.lastWord.isSome then
      stripWaiting else stripIdle)

/-- A strip item ends (R429). -/
def State.stripEnd (s : State) (status reason : Nat) : State :=
  ((s.putB DISP_STRIP_CMD_BUSY false).put DISP_STRIP_CMD_STATUS status).put
    DISP_STRIP_CMD_REASON reason

/-- RANGE_CLAMP and SENSOR_FALLBACK follow a latch of the band (R423). -/
def State.latchFlags (s : State) (flags : Bool × Bool) : State :=
  (if flags.1 then s.putB DISP_STRIP_STATUS_RANGE_CLAMP true else s).putB DISP_STRIP_STATUS_SENSOR_FALLBACK flags.2

/-- Start a waveform: latch the band and program the dirty marker (R423, R426). -/
def State.waveStart (s : State) (kind band toSegs : Nat) (flags : Bool × Bool) : State :=
  let run : WaveRun :=
    { kind := kind, band := band, wave := s.waveOf band (if kind = 3 then 0 else kind),
      fromSegs := s.get DISP_STRIP_SHOWN_SEGS, toSegs := toSegs }
  let t := { s with strip := { s.strip with run := some run, dirty := true } }
  let u := (t.put DISP_STRIP_STATUS_BAND band).stripState
    (if kind = 1 then stripSluice else if kind = 2 then stripClearing else stripUpdating)
  u.latchFlags flags

/-- Admit a waiting waveform at a frame boundary: the last word of the sluice (a clear that waits has kept
it from being queued), a clear, a repeat, a host item; during a thermal halt nothing starts (R400, R424,
R425, R427, R428). -/
def State.stripAdmit (s : State) : State :=
  let b := s.stripBand
  match s.strip.lastWord with
  | some band =>
    let t := { s with strip := { s.strip with lastWord := none } }
    t.waveStart 1 band (s.get DISP_STRIP_LW_SEGS) (false, s.on DISP_STRIP_STATUS_SENSOR_FALLBACK)
  | none =>
    if s.pwr.sluice.isSome || s.pwr.sluiceDone || s.guard.halted then s
    else if s.strip.clear ≠ 0 then
      if s.stripAdmits b.1 (s.waveOf b.1 2).frames then
        let t := { s with strip := { s.strip with clear := 0 } }
        (t.waveStart 2 b.1 0 b.2).ev portDisp 0xB010 s.strip.clear b.1
      else s
    else
      match s.strip.repeatTo with
      | some img =>
        if s.stripAdmits b.1 (s.waveOf b.1 0).frames then
          let t := { s with strip := { s.strip with repeatTo := none } }
          (t.putB DISP_STRIP_STATUS_REPEAT_PENDING false).waveStart 3 b.1 img b.2
        else s
      | none =>
        if s.strip.waiting && s.stripAdmits b.1 (s.waveOf b.1 0).frames then
          let t := { s with strip := { s.strip with waiting := false } }
          t.waveStart 0 b.1 (s.get DISP_STRIP_IMAGE_SEGS) b.2
        else s

/-- Every segment at VCOM (R421, R428). -/
def State.stripVcom (s : State) (frame : Nat) : State := s.send (.drive 1 frame (List.replicate 24 0))

/-- A frame is the first of its waveform to see band `b`, two or more away from the latched one: a repeat of a host
update is scheduled, unless PFAIL or a reset has begun; a repeat itself becomes suspect (R424, R427). -/
def State.bandMoved (s : State) (r : WaveRun) (b : Nat) : State :=
  if r.kind = 3 then (s.putB DISP_STRIP_STATUS_WAVE_SUSPECT true).ev portDisp 0xB013 r.band b
  else if r.kind = 0 && s.pwr.sluice.isNone then
    let t := (s.putB DISP_STRIP_STATUS_REPEAT_PENDING true).ev portDisp 0xB011 r.band b
    { t with strip := { t.strip with repeatTo := some r.toSegs } }
  else s

/-- A frame of the waveform that runs: its levels, and the band that the door die computes at it (R421,
R423, R424). -/
def State.waveFrame (s : State) (r : WaveRun) : State :=
  let t := (s.send (.drive 1 r.frame ((List.range 24).map r.level))).latchFlags s.stripBand.2
  let b := s.stripBand.1
  let far := decide (b + 2 ≤ r.band ∨ r.band + 2 ≤ b)
  let u := if far && !r.seen then t.bandMoved r b else t
  let last := decide (r.wave.frames ≤ r.frame + 1)
  let v : State := { u with strip := { u.strip with
    run := some { r with frame := r.frame + 1, seen := r.seen || far, ending := last } } }
  if last then (v.put DISP_STRIP_SHOWN_SEGS r.toSegs).putB DISP_STRIP_STATUS_SHOWN_VALID true else v

/-- One frame of the strip, every 20 ms: between waveforms every segment is held at VCOM, and one that runs
finishes though a swap has left PRESENT 0 (R421, R424, R430). -/
def State.stripFrame (s : State) : State :=
  if !s.mpUp || s.doorFenced then s
  else
    match s.strip.run with
    | none => if s.on DISP_STRIP_CFG_PRESENT then (s.stripVcom 0).stripAdmit else s
    | some r => if r.marking || r.ending then s.stripVcom r.frame else s.waveFrame r

/-- A dirty or clean marker is programmed (R426). -/
def State.stripMarker (s : State) : State :=
  match s.strip.run with
  | none => s
  | some r =>
    if r.marking then { s with strip := { s.strip with run := some { r with marking := false } } }
    else if r.ending && r.kind != 1 then
      let t := { s with strip := { s.strip with
        run := none, dirty := false, cleanShown := r.toSegs } }
      (if r.kind = 0 then t.stripEnd 0 0 else t).stripRest
    else s

/-- GO in DISP_STRIP_CMD (R425, R429); it drops a repeat that has not started (R424). -/
def State.stripGo (s : State) : State :=
  let t := { s.putB DISP_STRIP_STATUS_REPEAT_PENDING false with
    strip := { s.strip with repeatTo := none } }
  if !t.on DISP_STRIP_CFG_PRESENT then
    (t.stripEnd 1 2).ev portDisp 0xB012 2 (t.get PWR_GAUGE_ENERGY_MJ) t.stripBand.1
  else if t.pwr.sluice.isSome then t.stripEnd 2 1
  else
    let u := { t.putB DISP_STRIP_CMD_BUSY true with strip := { t.strip with waiting := true } }
    if u.strip.run.isSome then u else u.stripState stripWaiting

/-- WAIT_S without admission (R425). -/
def State.stripTimeout (s : State) : State :=
  if s.strip.waiting then
    let t := { s with strip := { s.strip with waiting := false } }
    let u := (t.stripEnd 1 1).ev portDisp 0xB012 1 (s.get PWR_GAUGE_ENERGY_MJ) s.stripBand.1
    if u.strip.run.isSome then u else u.stripRest
  else s

/-- An update or a repeat whose first frame has not begun. -/
def WaveRun.unstarted (r : WaveRun) : Bool := r.marking && (r.kind = 0 || r.kind = 3)

/-- PFAIL: an update or a repeat that waits, or whose first frame has not begun, ends CANCELLED 0x01; what
runs continues (R427, R429, R430).  A repeat that the running update has scheduled ends so too, while the
update's own item goes on. (DEDUCED, log entry 151.) -/
def State.stripPfail (s : State) : State :=
  let dropRun := s.strip.run.any WaveRun.unstarted
  let gone := s.strip.waiting || s.strip.repeatTo.isSome || dropRun
  let busy := s.strip.run.any (fun r => r.kind = 0) && !dropRun
  let t := if gone then (s.stripEnd 2 1).putB DISP_STRIP_CMD_BUSY busy else s
  let u := { t.putB DISP_STRIP_STATUS_REPEAT_PENDING false with
    strip := { t.strip with
      waiting := false, repeatTo := none, run := if dropRun then none else t.strip.run } }
  if u.strip.run.isSome || !u.on DISP_STRIP_CFG_PRESENT then u else u.stripRest

/-- An interruption before the last frame ends: every segment to VCOM, the dirty marker stays (R428).
(DEDUCED, log entry 127.) -/
def State.stripInterrupt (s : State) : State :=
  match s.strip.run with
  | none => s
  | some r =>
    if r.ending then s
    else
      let t := { s with strip := { s.strip with run := none } }
      let u := (t.putB DISP_STRIP_STATUS_SHOWN_VALID false).stripVcom r.frame
      if r.kind = 0 then u.putB DISP_STRIP_CMD_BUSY false else u

/-- A thermal halt: what runs is interrupted, and step 4 of a sluice does not run (R69, R400, R428). -/
def State.stripHalt (s : State) : State :=
  let t := { s with strip := { s.strip with lastWord := none } }
  if t.strip.run.isSome then (let u := t.stripInterrupt; if u.strip.run.isSome then u else u.stripRest) else t

/-- VEP_OK is lost or returns (R428). (DEDUCED, log entry 127.) -/
def State.stripVepChange (s : State) (good : Bool) : State :=
  let t := s.putB DISP_STRIP_STATUS_VEP_OK good
  if good then
    if t.strip.dirty && t.strip.run.isNone && t.stripUsed then
      { t with strip := { t.strip with clear := if t.strip.clear = 0 then 2 else t.strip.clear } }.stripState stripWaiting
    else t
  else if t.strip.run.isSome then (let u := t.stripInterrupt; if u.strip.run.isSome then u else u.stripRest) else t

/-- At a start of the planes: SHOWN is restored, and a dirty marker makes the clear waveform run
first (R426, R428). -/
def State.stripStart (s : State) : State :=
  let t := ((s.put DISP_STRIP_SHOWN_SEGS s.strip.cleanShown).putB DISP_STRIP_STATUS_VEP_OK
    (s.on PWR_STATUS_VEP_OK)).putB DISP_STATUS_VLED_OK (s.on PWR_STATUS_VLED_OK)
  if t.strip.dirty then { t with strip := { t.strip with clear := 1 } }
  else t.putB DISP_STRIP_STATUS_SHOWN_VALID true

/-- The strip is declared, or not: its STATE is absent, or waits for its clear, or is idle (R425). -/
def State.stripFitted (s : State) : State := if s.strip.run.isSome then s else s.stripRest

/-- The display assets have loaded or are swapped. -/
def State.displayAssets (s : State) : State := s.panelAssets.stripFitted

end Sys2Proof.Machine
end

