-- ==== Sys2Proof/Machine/RecorderOps.lean ====
section
/-! DEFINITION. The event recorder (R431 to R447): records into the pond, the continuous flush to the
log flash, freeze, clear, lost records, reading and syslog export. -/

namespace Sys2Proof.Machine

open Reg

/-! ### The record (R431) -/

/-- Bytes 0 to 29 of a record. -/
def LogRec.body30 (r : LogRec) : List Byte :=
  leBytes 6 r.seq ++ leBytes 2 r.body.code ++ leBytes 5 r.optime ++ leBytes 3 r.pcc ++
    leBytes 4 r.body.p0 ++ leBytes 4 r.body.p1 ++ leBytes 4 r.body.p2 ++ leBytes 1 r.src ++
    leBytes 1 (r.body.sev % 8 + (if r.flood then 8 else 0) + (if r.body.prov then 16 else 0))

/-- The 32 bytes of a record, with its CRC. -/
def LogRec.bytes (r : LogRec) : List Byte := r.body30 ++ leBytes 2 (crc16 r.body30)

/-! ### Pond entry (R432 to R436) -/

/-- The high-water mark: SEQ of the last record in the pond (R442). (DEDUCED, log entry 129.) -/
def State.hwm (s : State) : Nat := s.log.nextSeq - 1

/-- Show HWM and the fill of the pond. -/
def State.pondRegs (s : State) : State :=
  let n := s.log.pond.length
  (((s.put LOG_HWM_LO_HWM_LO (s.hwm)).put LOG_HWM_HI_HWM_HI (s.hwm / 2 ^ 32)).put LOG_POND_FILL n).raise
    LOG_POND_PEAK n

/-- The bit EVENT of the host SPI interrupt status follows the severity of a record (R148). -/
def State.irqRecord (s : State) (sev : Nat) : State :=
  if s.get NET_HSPI_IRQ_EN_EVENT_SEV ≤ sev then s.putB NET_HSPI_IRQ_STATUS_EVENT true else s

/-- Lift a freeze with a cause (R444). -/
def State.unfreeze (s : State) (cause : Nat) : State :=
  if s.log.freeze.isSome then
    let t := { s with log := { s.log with freeze := none } }
    ((t.putB LOG_STATUS_FROZEN false).put LOG_FREEZE_REMAIN 0).ev portLog 0xA004 0 cause
      t.log.pond.length
  else s

/-- A record as it enters the pond: a time mark is sampled in the cycle of its operating time (R168). -/
def State.sampled (s : State) (e : Submit) : Submit :=
  if e.code = 0x9002 then { e with p0 := s.markSample.1, p1 := s.markSample.2 } else e

/-- A record enters the pond: SEQ, operating time, power-cycle count, port and FLOOD are stamped, the
reservation limit is kept ahead, the flush-end entry no longer gives the last SEQ assigned, a clear learns the
SEQ of its record, and bindings and the interrupt status see it (R432, R434, R435, R438).
(DEDUCED, log entry 129.) -/
def State.pondEnter (s : State) (src depth : Nat) (e : Submit) : State :=
  let r : LogRec :=
    { seq := s.log.nextSeq, optime := s.optime, pcc := s.pcc, src := src,
      flood := decide (3072 ≤ s.log.pond.length) || decide (8 ≤ depth), body := s.sampled e }
  let n := s.log.nextSeq + 1
  let l : Recorder := { s.log with
    pond := s.log.pond ++ [r], nextSeq := n,
    limit := if s.log.limit ≤ n + 128 then s.log.limit + 256 else s.log.limit,
    flushEnd := none
    clearPending := if e.code = 0xA003 ∧ s.log.clearPending.isSome then some r.seq else s.log.clearPending }
  let t := ((({ s with log := l }).pondRegs).irqRecord e.sev).bindShow e.code
  if l.pond.length = 3072 then t.unfreeze 1 else t

/-- The ports an arbiter may serve: all while fewer than 4,080 records are in the pond, else the
always-on block's and the recorder's own (R435). -/
def portOpen (fill p : Nat) : Bool := decide (fill < 4080) || p = 0 || p = portLog

/-- The next non-empty port after the one served last, in round robin (R435). -/
def Recorder.nextPort (r : Recorder) (fill : Nat) : Option Nat :=
  ((List.range 16).map (fun i => (r.rr + 1 + i) % 16)).find?
    (fun p => decide (r.fifo p ≠ []) && portOpen fill p)

/-- Move the head of a port's FIFO into the pond. -/
def State.takePort (s : State) (p : Nat) : State :=
  match s.log.fifo p with
  | [] => s
  | e :: q =>
    let t := { s with log := { (s.log.setFifo p q) with rr := p } }
    t.pondEnter p (q.length + 1) e

/-- The recorder's record of every drop since OVERFLOW became 1, before any FIFO record (R436). -/
def State.overflowRecord (s : State) : State :=
  let e : Submit := { code := 0xA002, sev := 4, p0 := s.log.ovCount % 2 ^ 32, p1 := s.log.ovPorts,
                      p2 := (s.optime - s.log.ovSince) * 1000 / 1024 % 2 ^ 32 }
  let t := { s with log := { s.log with ovCount := 0, ovPorts := 0 } }
  (t.putB LOG_STATUS_OVERFLOW false).pondEnter portLog 1 e

/-- One cycle of the arbiter, over a pond that shows `fill` records (R435, R436). -/
def State.intakeCycle (s : State) (fill : Nat) : State :=
  if 4096 ≤ fill then s
  else if s.log.ovCount ≠ 0 then s.overflowRecord
  else
    match s.log.nextPort fill with
    | some p => s.takePort p
    | none => s

/-- One cycle of the arbiter; none while the recorder is in reset (R435, R436). -/
def State.arbitrate (s : State) : State := if s.mpUp then s.intakeCycle s.log.pond.length else s

/-- Cycles that serve everything waiting now, and what its entry adds. -/
def State.intakeAll (s : State) : State :=
  s.each (List.range (3 + ((List.range 16).map (fun p => (s.log.fifo p).length)).sum)) (fun t _ => t.arbitrate)

/-! ### Flush (R437 to R440) -/

/-- Records available in the flash copy of the tailrace: the last 262,144 flushed, for as long as the ring can
hold the sluice reserve beside them (R439, R445). -/
def Recorder.tailCap (r : Recorder) : Nat := min 262144 (128 * (3328 - 32 - r.retired.length))

/-- Skipped syslog records among those the tailrace overwrites; what the headrace `head` holds is not lost
(R446). -/
def State.syslogLost (s : State) (gone head : List LogRec) : State :=
  if s.on LOG_SYSLOG_CFG_ENABLE then
    let n := (gone.filter (fun r => decide (s.log.sysNext ≤ r.seq) &&
      decide (s.get LOG_SYSLOG_CFG_MIN_SEV ≤ r.body.sev) && !head.any (fun h => h.seq = r.seq))).length
    { s.put LOG_STATUS_SYSLOG_SKIPPED (s.get LOG_STATUS_SYSLOG_SKIPPED + n) with
      log := { s.log with sysSkipped := s.log.sysSkipped + n } }
  else s

/-- Show the first SEQ of the tailrace and of the headrace, and the headrace count. -/
def State.raceRegs (s : State) : State :=
  let tf := match s.log.tail with
    | r :: _ => r.seq
    | [] => 0
  let hf := match s.log.head with
    | r :: _ => r.seq
    | [] => 0
  ((((s.put LOG_TAIL_FIRST_LO_FIRST_LO tf).put LOG_TAIL_FIRST_HI_FIRST_HI (tf / 2 ^ 32)).put
    LOG_HEAD_FIRST_LO_FIRST_LO hf).put LOG_HEAD_FIRST_HI_FIRST_HI (hf / 2 ^ 32)).put
    LOG_HEAD_COUNT_COUNT s.log.head.length

/-- The headrace has become full: HEAD_FULL, and a record 0xA007 with the SEQ of its last record; `was` is
how many it held before (R438). -/
def State.headFull (s : State) (was : Nat) : State :=
  if s.log.head.length = 65536 then
    let t := s.putB LOG_STATUS_HEAD_FULL true
    match s.log.head.getLast? with
    | some r => if was < 65536 then t.ev portLog 0xA007 r.seq else t
    | none => t
  else s

/-- The first `n` records of the pond count as flushed: they join the tailrace and, while it has
room and no clear runs, the headrace (R437, R438). -/
def State.flushRecords (s : State) (n : Nat) : State :=
  let done := s.log.pond.take n
  let all := s.log.tail ++ done
  let past := all.length - s.log.tailCap
  let room := 65536 - s.log.head.length
  let copy := if s.log.clearPending.isSome then [] else done.take room
  let head := s.log.head ++ copy
  let last := match done.getLast? with
    | some r => r.seq
    | none => s.log.flushed
  let t := s.syslogLost (all.take past) head
  let u : State := { t with log := { t.log with
    pond := s.log.pond.drop n, tail := all.drop past, head := head, flushed := last } }
  ((u.raceRegs).put LOG_POND_FILL u.log.pond.length).headFull s.log.head.length

/-- Sectors of a full pool: what is retired is taken out of it (R445). -/
def State.fullPool (s : State) : Nat := 1280 - s.log.retired.length

/-- The pool of erased sectors changes: the continuous flush stops at 32 and resumes at 64 (R439). -/
def State.setPool (s : State) (n : Nat) : State :=
  let p := decide (n ≤ 32) || (s.log.paused && decide (n < 64))
  State.putB { s with log := { s.log with pool := n, paused := p } } LOG_STATUS_FLUSH_PAUSED p

/-- The first sector from `k` on that is in use, over at most `fuel` retired ones (R445). -/
def Recorder.liveSector (r : Recorder) : Nat → Nat → Nat
  | 0, k => k
  | fuel + 1, k => if k ∈ r.retired then r.liveSector fuel ((k + 1) % 3328) else k

/-- The write point after `n` more records from place `a`, and the sectors newly taken: a retired sector is
passed over (R437, R445). -/
def Recorder.placeAfter (r : Recorder) : Nat → Nat → Nat → Nat → Nat × Nat
  | 0, a, _, new => (a, new)
  | fuel + 1, a, n, new =>
    if n = 0 then (a, new)
    else
      let b := if a % 128 = 0 then 128 * r.liveSector r.retired.length (a / 128) else a
      let took := new + if a % 128 = 0 then 1 else 0
      let room := 128 - b % 128
      if n < room then (b + n, took) else r.placeAfter fuel ((b + room) % 425984) (n - room) took

/-- The write point moves past `n` record places; each new sector of 128 places takes one of the pool
and makes the oldest sector beyond it due for erase (R437, R439). -/
def State.advancePlace (s : State) (n : Nat) : State :=
  let p := s.log.placeAfter (n / 128 + 2) s.log.place n 0
  let t := { s with log := { s.log with place := p.1, erasing := s.log.erasing + p.2 } }
  t.setPool (t.log.pool - p.2)

/-- `n` records of the pond are programmed and verified. -/
def State.flushPlaced (s : State) (n : Nat) : State := (s.flushRecords n).advancePlace n

/-- A page program is due: 32 records wait or the oldest has waited FLUSH_MS (R437). -/
def State.pageDue (s : State) : Bool :=
  match s.log.pond with
  | [] => false
  | r :: _ =>
    decide (32 ≤ s.log.pond.length) ||
      decide (s.get LOG_CFG_FLUSH_MS ≤ (s.optime - r.optime) * 1000 / 1024)

/-- How many records the page being filled still takes. -/
def State.pageRoom (s : State) : Nat := 32 - s.log.place % 32

/-- Start a page program (R437); not while frozen or while the flush is paused. -/
def State.pageStart (s : State) : State :=
  if s.log.inFlight.isNone && s.log.freeze.isNone && !s.on LOG_STATUS_FLUSH_PAUSED && s.pageDue then
    { s with log := { s.log with inFlight := some (min s.pageRoom s.log.pond.length) } }
  else s

/-- LOG_WEAR and DEGRADED show what the log flash keeps (R445). -/
def State.wearShow (s : State) : State :=
  let t := (s.put LOG_WEAR_RETIRED (satTo 8 s.log.retired.length)).put LOG_WEAR_MAX_ERASE
    (satTo 24 ((s.log.erases.map (fun p => p.2)).foldl max 0))
  t.putB LOG_STATUS_DEGRADED (decide (s.fullPool < 256))

/-- A sector fails an erase or a verification: it is retired (R445). -/
def State.retire (s : State) (sector : Nat) : State :=
  if sector ∈ s.log.retired then s
  else
    let a := s.ev portLog 0xA006 (0x200000 + 4096 * sector) 0
    State.wearShow { a with log := { a.log with retired := sector :: a.log.retired } }

/-- The page being programmed fails its verification: its sector is retired and the write point goes on to
the next (R440, R445). -/
def State.pageBad (s : State) : State :=
  let k := s.log.place / 128
  let bad := if s.log.place % 128 = 0 then s.log.liveSector s.log.retired.length k else k
  (s.advancePlace (128 - s.log.place % 128)).retire bad

/-- A page has been programmed and verified, or its verification failed (R437, R440, R445). -/
def State.pageDone (s : State) (ok : Bool) : State :=
  match s.log.inFlight with
  | none => s
  | some n =>
    let t := { s with log := { s.log with inFlight := none } }
    if ok then t.flushPlaced n else t.pageBad

/-- Report wear when MAX_ERASE reaches WEAR_WARN_PCT of 100,000 cycles and at each further 1 %
(R445). -/
def State.wearReport (s : State) : State :=
  let m := s.get LOG_WEAR_MAX_ERASE
  let due := max s.log.wearNext (s.get LOG_CFG_WEAR_WARN_PCT)
  if due * 1000 ≤ m then
    { s.ev portLog 0xA005 m (s.get LOG_CFG_WEAR_WARN_PCT) with
      log := { (s.ev portLog 0xA005 m (s.get LOG_CFG_WEAR_WARN_PCT)).log with
        wearNext := m / 1000 + 1 } }
  else s

/-- An erase of a tailrace sector completes (R439, R445). -/
def State.tailErased (s : State) (sector : Nat) (ok : Bool) : State :=
  if s.log.erasing = 0 || !s.mpUp then s
  else
    let c := tget (fun _ => 0) s.log.erases sector + 1
    let t := { s with log := { s.log with
      erasing := s.log.erasing - 1, erases := tset (fun _ => 0) s.log.erases sector c } }
    let u := t.wearShow
    if ok then ((u.setPool (min u.fullPool (u.log.pool + 1)))).wearReport
    else (u.retire sector).wearReport

/-! ### Freeze (R444) and clear (R438) -/

/-- Set a freeze; one in force goes on running from its first setting (R444, R447). -/
def State.freezeSet (s : State) : State :=
  if s.log.freeze.isSome || s.pwr.sluice.isSome || s.guard.halted then s
  else
    let t := { s with log := { s.log with freeze := some s.optime } }
    ((t.putB LOG_STATUS_FROZEN true).put LOG_FREEZE_REMAIN 100).ev portLog 0xA004 1 0
      t.log.pond.length

/-- A freeze is lifted by command; in a sluice or a halt grace that has no effect (R444, R447). -/
def State.freezeLift (s : State) : State :=
  if s.pwr.sluice.isSome || s.guard.halted then s else s.unfreeze 0

/-- The clear is accepted: record 0xA003, the clear-pending entry with its SEQ, and the headrace erase.
A record that finds the pond full enters later, and gives the entry its SEQ then (R438).
(DEDUCED, log entry 131.) -/
def State.logClear (s : State) (req : Nat) : State :=
  let t := s.intakeAll
  let u : State := { t with log := { t.log with
    clearPending := some t.log.nextSeq, headErasing := 512, head := [] } }
  let v := ((u.ev portLog 0xA003 req s.log.head.length).intakeAll).putB LOG_STATUS_CLEARING true
  (v.putB LOG_STATUS_HEAD_FULL false).raceRegs

/-- The headrace erase has ended: the records from the 0xA003 record on are copied from the tailrace,
and the clear is done; a copy that fills the headrace is reported (R438). (DEDUCED, log entry 131.) -/
def State.headErased (s : State) : State :=
  match s.log.clearPending with
  | none => s
  | some a =>
    if !s.mpUp then s
    else
      let h := (s.log.tail.filter (fun r => decide (a ≤ r.seq))).take 65536
      let t := { s with log := { s.log with head := h, clearPending := none, headErasing := 0 } }
      ((t.putB LOG_STATUS_CLEARING false).raceRegs).headFull s.log.head.length

/-! ### Power fail, halt and start (R434, R440, R441) -/

/-- Every record of the FIFOs moves into the pond, in the arbiter's order: the flush makes room as they come
(R435, R440). (DEDUCED, log entry 22.) -/
def State.drainFifos (s : State) : State :=
  s.each (List.range (1 + ((List.range 16).map (fun p => (s.log.fifo p).length)).sum)) (fun t _ => t.intakeCycle 0)

/-- Pages of the sluice flush fail their verification (R440). -/
def State.flushBad (s : State) (bad : Nat) : State :=
  State.each { s with log := { s.log with inFlight := none } } (List.range (min bad 16)) (fun t _ => t.pageBad)

/-- Every record in the FIFOs and the pond is flushed. -/
def State.flushOnce (s : State) : State := s.drainFifos.flushPlaced s.drainFifos.log.pond.length

/-- The flush of sluice step 3 and of the halt grace: every record in the FIFOs and the pond is
flushed, those too that the flush itself writes; a freeze does not apply.  `bad` pages, at most 16, fail their
verification and are programmed again in the pool (R440). (DEDUCED, log entry 22.) -/
def State.flushAll (s : State) (bad : Nat) : State := ((s.flushBad bad).flushOnce).flushOnce

/-- How many records that flush programs (R70). (DEDUCED, log entry 22.) -/
def State.flushCount (s : State) (bad : Nat) : Nat :=
  let a := s.flushBad bad
  a.drainFifos.log.pond.length + a.flushOnce.drainFifos.log.pond.length

/-- The flush-end entry or completion marker: the last SEQ assigned (R434, R441). -/
def State.flushEndEntry (s : State) : State :=
  { s with log := { s.log with flushEnd := some s.hwm } }

/-- A reset of the planes: the pond and every FIFO but that of port 0 are lost (R435). -/
def Recorder.afterReset (r : Recorder) : Recorder :=
  { r with
    fifos := tkeep (fun p => p = 0) r.fifos, pond := [], inFlight := none, rr := 15,
    ovCount := 0, ovPorts := 0, freeze := none, sysSecond := 0, sysSent := 0, sysSkipped := 0 }

/-- The start of the recorder: lost records are found and reported first (R441), drops of port 0 while in reset are
counted and reported (R435), and a clear that was cut goes on (R438). (DEDUCED, log entry 129.) -/
def State.recorderStart (s : State) : State :=
  let f := s.log.flushed
  let exact := s.log.flushEnd.isSome
  let next := match s.log.flushEnd with
    | some a => a + 1
    | none => s.log.limit
  let lost := next - 1 - f
  let a := { (s.putB LOG_STATUS_RUNNING true).putB LOG_STATUS_FLUSH_PAUSED s.log.paused with
    log := { s.log with nextSeq := next } }
  let b := (a.put LOG_LOST_N (satTo 24 lost)).putB LOG_LOST_BOUND (decide (0 < lost) && !exact)
  let c : State := if 0 < lost then
      (b.putB LOG_STATUS_LOST_SEEN true).pondEnter portLog 1
        { code := 0xA001, sev := 4, p0 := lost % 2 ^ 32, p1 := (f + 1) % 2 ^ 32,
          p2 := if exact then 0 else 1 }
    else b.pondRegs
  let d : State := if c.log.aonDrops = 0 then c
    else
      { (c.put (LOG_DROP_DROPPED 0) (c.get (LOG_DROP_DROPPED 0) + c.log.aonDrops)).putB
          LOG_STATUS_OVERFLOW true with
        log := { c.log with
          ovCount := c.log.ovCount + c.log.aonDrops, ovPorts := c.log.ovPorts ||| 1,
          ovSince := if c.log.ovCount = 0 then c.log.aonSince else min c.log.aonSince c.log.ovSince
          aonDrops := 0 } }
  let e : State := if d.log.clearPending.isSome then
      { d.putB LOG_STATUS_CLEARING true with
        log := { d.log with headErasing := 512, head := [] } }
    else d.putB LOG_STATUS_HEAD_FULL (decide (d.log.head.length = 65536))
  e.wearShow.raceRegs

/-! ### Reading (R442, R443) -/

/-- Every available record at or below HWM, in SEQ order: headrace records older than the tailrace,
the tailrace, the pond.  During a clear the headrace does not serve (R447). -/
def State.available (s : State) : List LogRec :=
  let first := match s.log.tail ++ s.log.pond with
    | r :: _ => r.seq
    | [] => s.log.nextSeq
  let h := if s.log.clearPending.isSome then [] else s.log.head.filter (fun r => decide (r.seq < first))
  h ++ s.log.tail ++ s.log.pond

/-- The answer to a LOG READ: status, flags, HWM and the records served. -/
structure LogReply where
  status : Nat
  flags : Nat
  hwm : Nat
  recs : List LogRec
deriving DecidableEq, Repr

/-- LOG READ with first number FIRST and count C, from one capture (R442, R443).  `bad` are the SEQs whose
records fail their CRC when they are read. -/
def State.logRead (s : State) (first count : Nat) (bad : List Nat := []) : LogReply :=
  let oldest := match s.log.tail ++ s.log.pond with
    | r :: _ => r.seq
    | [] => s.log.nextSeq
  let past := decide (first < oldest) && !s.log.head.any (fun r => r.seq = first)
  let av := s.available.filter (fun r => decide (r.seq ∉ bad))
  let av' := av.filter (fun r => decide (first ≤ r.seq))
  match av' with
  | [] => { status := if past then 7 else 0,
            flags := (if past then 1 else 0) + (if s.log.freeze.isSome then 8 else 0),
            hwm := s.hwm, recs := [] }
  | r0 :: _ =>
    let recs := av'.filter (fun r => decide (r.seq < r0.seq + count))
    let last := match recs.getLast? with
      | some r => r.seq
      | none => r0.seq
    let gap := decide (recs.length < last + 1 - r0.seq)
    let pond := recs.any (fun r => decide (s.log.flushed < r.seq))
    let head := recs.any (fun r => decide (r.seq < oldest))
    { status := if past then 7 else 0,
      flags := (if past then 1 else 0) + (if gap then 2 else 0) +
        (if last < s.hwm then 4 else 0) + (if s.log.freeze.isSome then 8 else 0) +
        (if pond then 16 else 0) + (if head then 32 else 0),
      hwm := s.hwm, recs := recs }

/-- Records that a reply reads and that fail their CRC report their sectors, once each (R442). -/
def State.logBad (s : State) (sectors : List Nat) : State :=
  s.each sectors.eraseDups (fun t a => t.ev portLog 0xA006 a 1)

/-! ### Syslog (R446) -/

/-- The bytes of an ASCII text. -/
def ascii (t : String) : List Byte := t.toList.map (fun c => BitVec.ofNat 8 c.toNat)

def digitsAux : Nat → Nat → List Byte → List Byte
  | 0, _, acc => acc
  | k + 1, n, acc =>
    let acc' := BitVec.ofNat 8 (48 + n % 10) :: acc
    if n < 10 then acc' else digitsAux k (n / 10) acc'

/-- A number in decimal. -/
def decBytes (n : Nat) : List Byte := digitsAux 20 n []

/-- A hexadecimal digit; `letters` is where the letter for ten stands. -/
def hexDigit (letters n : Nat) : Byte := BitVec.ofNat 8 (if n < 10 then 48 + n else letters + n - 10)

/-- `k` hexadecimal digits of a number. -/
def hexBytes (letters : Nat) : Nat → Nat → List Byte
  | 0, _ => []
  | k + 1, n => hexBytes letters k (n / 16) ++ [hexDigit letters (n % 16)]

/-- The text of one record (R446). -/
def State.syslogText (s : State) (r : LogRec) : List Byte :=
  ascii "<" ++ decBytes (8 * (16 + s.get LOG_SYSLOG_CFG_FACILITY) + (6 - r.body.sev)) ++
    ascii ">1 - kd-" ++ hexBytes 97 12 s.nv.mac ++ ascii " KD9600 - EVT - seq=" ++ decBytes r.seq ++
    ascii " code=0x" ++ hexBytes 97 4 r.body.code ++ ascii " opt=" ++ decBytes r.optime ++
    ascii " pc=" ++ decBytes r.pcc ++ ascii " src=" ++ decBytes r.src ++ ascii " sev=" ++
    decBytes r.body.sev ++ ascii " fl=" ++ decBytes ((LogRec.body30 r).getD 29 0).toNat ++
    ascii " p0=0x" ++ hexBytes 97 8 r.body.p0 ++ ascii " p1=0x" ++ hexBytes 97 8 r.body.p1 ++
    ascii " p2=0x" ++ hexBytes 97 8 r.body.p2

/-- Send the next qualifying record, at most RATE in one second of operating time (R446).
(DEDUCED, log entry 130.) -/
def State.syslogSend (s : State) : State :=
  let sent := if s.log.sysSecond = s.opSec then s.log.sysSent else 0
  let ok := s.on LOG_SYSLOG_CFG_ENABLE && (s.reg NET_IP4_ADDR != 0) && !s.on CADDY_STATUS_BARE &&
    !s.caddy.fwRestart && decide (sent < s.get LOG_SYSLOG_CFG_RATE)
  if !ok then s
  else
    match s.available.find? (fun r => decide (s.log.sysNext ≤ r.seq) &&
        decide (s.get LOG_SYSLOG_CFG_MIN_SEV ≤ r.body.sev)) with
    | none => s
    | some r =>
      { s.send (.udp (s.reg LOG_SYSLOG_ADDR).toNat 514 (s.syslogText r)) with
        log := { s.log with sysNext := r.seq + 1, sysSecond := s.opSec, sysSent := sent + 1 } }

/-- One record 0xA008 for a minute in which records were skipped (R446). -/
def State.syslogMinute (s : State) : State :=
  if s.log.sysSkipped = 0 then s
  else
    let t := s.ev portLog 0xA008 s.log.sysSkipped
    { t with log := { t.log with sysSkipped := 0 } }

end Sys2Proof.Machine
end

