-- ==== Sys2Proof/Machine/ValveOps.lean ====
section
/-! DEFINITION. The valve banks: topology, peak-and-hold profiles, bank rules, motion, duty limit,
verdicts, disabling and cuts, completion queues, stage dissipation (R342 to R374, R494). -/

namespace Sys2Proof.Machine

open Reg

/-! ### Channel and bank state -/

/-- STATE codes of VALVE_STATUS (R350). -/
def vIdle : Nat := 0
def vDeferred : Nat := 1
def vPrearm : Nat := 2
def vRise : Nat := 3
def vPeak : Nat := 4
def vHold : Nat := 5
def vRelease : Nat := 6
def vFaulted : Nat := 7
def vDisabled : Nat := 8

/-- The fields of VALVE_STATUS [23:16]. -/
def vsFault (v : Nat) : Fld := ⟨VALVE_STATUS v, 23, 21⟩
def vsDutyLim (v : Nat) : Fld := ⟨VALVE_STATUS v, 20, 20⟩
def vsProbeBusy (v : Nat) : Fld := ⟨VALVE_STATUS v, 19, 19⟩
def vsStuckRun (v : Nat) : Fld := ⟨VALVE_STATUS v, 18, 17⟩
def vsByBank (v : Nat) : Fld := ⟨VALVE_STATUS v, 16, 16⟩

/-- A channel's state. -/
def State.vst (s : State) (v : Nat) : Nat := s.get (VALVE_STATUS_STATE v)

def State.chan (s : State) (v : Nat) : Channel := tget (fun _ => {}) s.valve.chans v

def State.setChan (s : State) (v : Nat) (c : Channel) : State :=
  { s with valve := { s.valve with chans := tset (fun _ => {}) s.valve.chans v c } }

/-- A work item of the channel runs (R351). -/
def State.chanBusy (s : State) (v : Nat) : Bool := (s.chan v).item.isSome || (s.chan v).relItem.isSome

def State.bank (s : State) (b : Nat) : Bank := tget (fun _ => {}) s.valve.banks b

def State.setBank (s : State) (b : Nat) (k : Bank) : State :=
  { s with valve := { s.valve with banks := tset (fun _ => {}) s.valve.banks b k } }

/-- The channels of a bank. -/
def bankChans (b : Nat) : List Nat := (List.range 8).map (fun c => 8 * b + c)

/-- A channel in PREARM, RISE or PEAK holds the bank's peak slot (R352). -/
def inSlot (st : Nat) : Bool := st = vPrearm || st = vRise || st = vPeak

/-- A channel in RISE, PEAK or HOLD is energised (R361). -/
def isOn (st : Nat) : Bool := st = vRise || st = vPeak || st = vHold

/-- Peak and hold targets in mA. -/
def State.peakMa (s : State) (v : Nat) : Nat := s.get (VALVE_PROFILE_PEAK_I v) * 16
def State.holdMa (s : State) (v : Nat) : Nat := s.get (VALVE_PROFILE_HOLD_I v) * 8

/-- The bank sum (R350). -/
def State.bankSum (s : State) (b : Nat) : Nat :=
  (bankChans b).foldl (fun a v =>
    let st := s.vst v
    a + (if inSlot st then s.peakMa v else if st = vHold then s.holdMa v else 0)) 0

/-- The mask of the channels of a bank for which `p` holds. -/
def bankMask (p : Nat → Bool) (b : Nat) : Nat :=
  (List.range 8).foldl (fun a c => if p (8 * b + c) then a + 2 ^ c else a) 0

/-- The supply of a bank is good (R61, R355). -/
def State.bankSupply (s : State) (b : Nat) : Bool := (s.get PWR_STATUS_VBANK_OK).testBit b

/-- Show a bank's state in VALVE_BANK_STATUS and VALVE_BANK_FAULT. -/
def State.bankShow (s : State) (b : Nat) : State :=
  let slot := (List.range 8).find? (fun c => inSlot (s.vst (8 * b + c)))
  let t := ((((s.putB (VALVE_BANK_STATUS_VBANK_OK b) (s.bankSupply b)).putB
    (VALVE_BANK_STATUS_PEAK_BUSY b) slot.isSome).put
    (VALVE_BANK_STATUS_PEAK_CH b) (slot.getD 0)).put
    (VALVE_BANK_STATUS_DEFERRED b) (s.bank b).queue.length).put
    (VALVE_BANK_STATUS_SUM_MA b) (s.bankSum b)
  (((t.put (VALVE_BANK_FAULT_DUTY_LIM b) (bankMask (fun v => s.on (vsDutyLim v)) b)).put
    (VALVE_BANK_FAULT_DISABLED b) (bankMask (fun v => s.vst v = vDisabled) b)).put
    (VALVE_BANK_FAULT_FAULTED b) (bankMask (fun v => s.vst v = vFaulted) b)).putB
    (VALVE_BANK_FAULT_CUT b) (if b < 6 then s.pwr.cutP0 else s.pwr.cutP1)

/-- Put a channel into a state; an energised one counts in the duty interval (R361). -/
def State.setVst (s : State) (v st : Nat) : State :=
  let t := s.put (VALVE_STATUS_STATE v) st
  let u := if isOn st then t.setChan v { t.chan v with touched := true } else t
  (u.putB (vsByBank v) (st = vDisabled && u.on (VALVE_BANK_FAULT_BANK_DISABLED (v / 8)))).bankShow
    (v / 8)

/-- An event record of a bank's port. -/
def State.vev (s : State) (v code : Nat) (p1 : Nat := 0) (p2 : Nat := 0) : State :=
  s.ev (portValve (v / 8)) code v p1 p2

/-! ### Completion queue (R371) -/

/-- Show the oldest entry and the count. -/
def State.cqShow (s : State) (b : Nat) : State :=
  let k := s.bank b
  let w : Nat := match k.cq with
    | [] => 0
    | e :: _ => e.id * 2 ^ 24 + e.ch * 2 ^ 21 + 2 ^ 20 + e.status * 2 ^ 18 + e.reason * 256 + e.seq
  (s.setReg (VALVE_CQ b) (BitVec.ofNat 32 w)).put (VALVE_CQ_CTRL_COUNT b) k.cq.length

/-- A work item ends with an entry; a full queue discards its oldest (R371). -/
def State.cqPush (s : State) (v id status reason : Nat) : State :=
  let b := v / 8
  let k := s.bank b
  let e : CqEntry := { id := id % 256, ch := v % 8, status := status, reason := reason, seq := k.nextSeq }
  let full := decide (32 ≤ k.cq.length)
  let q := if full then k.cq.drop 1 else k.cq
  let t := s.setBank b { k with
    cq := q ++ [e], nextSeq := (k.nextSeq + 1) % 256,
    lostMinute := k.lostMinute + (if full then 1 else 0) }
  let u := if full then t.inc (VALVE_CQ_CTRL_LOST b) else t
  let w := if status = 1 ∧ (reason = 1 ∨ reason = 2) then u.inc (VALVE_BANK_STATS_DEFER_FAILS b) else u
  w.cqShow b

/-- POP with the SEQ of the oldest entry is allowed. -/
def State.cqPopOk (s : State) (b seq : Nat) : Bool :=
  match (s.bank b).cq with
  | [] => false
  | e :: _ => e.seq = seq

/-- Remove the oldest entry. -/
def State.cqPop (s : State) (b : Nat) : State :=
  let k := s.bank b
  (s.setBank b { k with cq := k.cq.drop 1 }).cqShow b

/-- The minute's record of lost entries (R371). -/
def State.cqMinute (s : State) (b : Nat) : State :=
  let k := s.bank b
  if k.lostMinute = 0 then s
  else (s.ev (portValve b) 0x3010 b k.lostMinute).setBank b { k with lostMinute := 0 }

/-! ### High-side switch (R344, R345) -/

def State.hsOn (s : State) (b : Nat) : Bool := s.on (VALVE_BANK_STATUS_HS_ON b)
def State.hsPut (s : State) (b : Nat) (on : Bool) : State := s.putB (VALVE_BANK_STATUS_HS_ON b) on

/-- A channel of the bank needs the high-side switch closed. -/
def State.hsNeeded (s : State) (b : Nat) : Bool :=
  (bankChans b).any (fun v => inSlot (s.vst v) || s.vst v = vHold)

/-- LINGER_MS has passed since the last active profile. -/
def State.lingerEnd (s : State) (b : Nat) : State := if s.hsNeeded b then s else s.hsPut b false

/-! ### Stage tests a channel waits for (R367, R453) -/

/-- A self-test of an element is running. -/
def State.testing (s : State) (e : Element) : Bool :=
  s.rel.tests.any (fun t => t.elem = e && t.running)

/-- A self-test of an element runs, or waits to run (R367, R453). -/
def State.underTest (s : State) (e : Element) : Bool := s.rel.tests.any (fun t => t.elem = e)

/-- A channel by number, as an element. -/
def valveElem (v : Nat) : Element := .valve (Fin.ofNat 96 v)

/-- Channels under a stage check start it when they carry no current, one at a time, in order of
detection (R367, R453). -/
def State.stageStart (s : State) : State :=
  let busy := s.rel.tests.any (fun t => t.running && (match t.elem with
    | .valve _ => true
    | _ => false))
  if busy then s
  else
    let ready (t : RelTest) : Bool := match t.elem with
      | .valve v => !t.running && (s.vst v.val = vIdle || s.vst v.val = vDeferred ||
          s.vst v.val = vFaulted || s.vst v.val = vDisabled) && !(s.chan v.val).decay
      | _ => false
    match s.rel.tests.find? ready with
    | none => s
    | some t => { s with rel := { s.rel with
        tests := s.rel.tests.map (fun u => if u = t then { u with running := true } else u) } }

/-! ### Admission (R352, R353, R355) -/

/-- The two tests of R352, while no stage check of the channel runs or waits (R367). -/
def State.fits (s : State) (v : Nat) : Bool :=
  let b := v / 8
  !s.underTest (valveElem v) && !(bankChans b).any (fun u => inSlot (s.vst u)) &&
    decide (s.bankSum b + s.peakMa v ≤ 8000)

/-- A word of a channel's table changes what the register keeps. -/
def State.tableChanges (s : State) (v : Nat) (p : Nat × Word) : Bool :=
  let a := VALVE_PROFILE v + p.1
  decide ((s.store a p.2).reg a ≠ s.reg a)

/-- Between two work items the words of a swap that waited go into the channel's registers (R98). -/
def State.tableIn (s : State) (v : Nat) : State :=
  (s.chan v).table.foldl (fun t p => t.store (VALVE_PROFILE v + p.1) p.2)
    (s.setChan v { s.chan v with table := [] })

/-- The held item of a release ends (R351). -/
def State.relItemEnd (s : State) (v : Nat) : State :=
  match (s.chan v).relItem with
  | none => s
  | some (id, status, reason) =>
    ((s.setChan v { s.chan v with relItem := none }).cqPush v id status reason).tableIn v

/-- The low-side switch turns on: RISE (R347); a profile that is not judged clears MOTION (R357). -/
def State.riseStart (s : State) (v : Nat) : State :=
  let c := s.chan v
  let judged := c.fromIdle && decide (s.get (VALVE_DETECT_DIP_THR v) ≠ 0)
  let t := s.setChan v { c with
    reached := false, window := judged, verdict := none, decay := false, stuck := false,
    probeDue := if c.probeNext then 2 else 0, probeNext := false }
  let u := if judged then t else t.put (VALVE_STATUS_MOTION v) 0
  u.setVst v vRise

/-- A profile is admitted: PREARM when the high-side switch is open, else RISE (R352).
(DEDUCED, log entry 115.) -/
def State.letIn (s : State) (v id : Nat) (cont : Bool) (hold : Nat) : State :=
  let c := s.chan v
  let t := s.relItemEnd v
  let u := ((t.setChan v { t.chan v with
    item := some id, hold := hold, fromIdle := !c.decay, deferred := none }).put
    (VALVE_STATUS_ITEM_ID v) id).putB (VALVE_STATUS_CONT v) cont
  if u.hsOn (v / 8) then u.riseStart v
  else (u.hsPut (v / 8) true).setVst v vPrearm

/-- A deferred command leaves the queue with an outcome, and its channel returns to IDLE, also while an
earlier current still decays (R350, R351, R353). -/
def State.unqueue (s : State) (v status reason : Nat) : State :=
  let b := v / 8
  let k := s.bank b
  let t := s.setBank b { k with queue := k.queue.filter (fun u => u != v) }
  match (t.chan v).deferred with
  | none => t
  | some (id, _, _) =>
    (((t.setChan v { t.chan v with deferred := none }).cqPush v id status reason).setVst v
      vIdle).stageStart

/-- Serve the queue: a head whose supply is low or whose channel is duty-limited fails, and the first
that fits is admitted; no later command overtakes it (R353, R355, R362). -/
def State.serveN : Nat → Nat → State → State
  | 0, _, s => s
  | n + 1, b, s =>
    match (s.bank b).queue with
    | [] => s
    | v :: q =>
      if !s.bankSupply b then State.serveN n b (s.unqueue v 1 0x02)
      else if !s.fits v then s
      else if s.on (vsDutyLim v) then State.serveN n b (s.unqueue v 1 0x15)
      else
        match (s.chan v).deferred with
        | none => State.serveN n b (s.setBank b { s.bank b with queue := q })
        | some (id, cont, hold) =>
          State.serveN n b ((s.setBank b { s.bank b with queue := q }).letIn v id cont hold)

/-- DEDUCED, log entry 115. -/
def State.serve (s : State) (b : Nat) : State := (State.serveN 9 b s).bankShow b

/-! ### What stops commands (R366, R368, R369) -/

/-- SAFE, or the sluice from its step 1 through the sluice-done state. -/
def State.safeCause (s : State) : Bool := s.pwr.safe || s.pwr.sluice.isSome || s.pwr.sluiceDone

/-- A thermal CUT of the bank's die, or a thermal halt. -/
def State.cutCause (s : State) (b : Nat) : Bool :=
  s.guard.halted || (if b < 6 then s.pwr.cutP0 else s.pwr.cutP1)

/-- The reason with which a command other than a stop fails at once: a faulted or disabled channel,
or a cause of R369 in force. (DEDUCED, log entry 114.) -/
def State.refuses (s : State) (v : Nat) : Option Nat :=
  if s.vst v = vFaulted then some 0x10
  else if s.vst v = vDisabled then some 0x19
  else if s.safeCause then some 0x17
  else if s.cutCause (v / 8) then some 0x18
  else if (s.chan v).stuck && s.vst v = vRelease then some 0x10
  else none

/-! ### Release, fault, motion (R349, R351, R357, R363, R365, R366) -/

/-- FAULTED with a cause; a channel that is DISABLED holds the fault (R366, R368). -/
def State.vfault (s : State) (v cause id : Nat) : State :=
  let t := (s.put (vsFault v) cause).vev v 0x3007 cause id
  if t.vst v = vDisabled then t.bankShow (v / 8) else t.setVst v vFaulted

/-- The motion judgement of R357 with the deviation of R494, over samples taken each µs from
switch-on: running maximum, lowest sample of the first qualified dip with its time, and whether the
dip has ended. -/
structure Motion where
  imax : Nat := 0
  low : Option (Nat × Nat) := none
  ended : Bool := false
deriving DecidableEq, Repr

/-- ΔI in units of mA / 6400: max(DIP_THR/256, 0.02) PEAK_I 16 mA. -/
def State.dipDelta (s : State) (v : Nat) : Nat :=
  max (25 * s.get (VALVE_DETECT_DIP_THR v)) 128 * s.peakMa v

/-- One sample at time `i` µs. -/
def Motion.sample (delta minUs : Nat) (m : Motion) (i x : Nat) : Motion :=
  if i < minUs || m.ended then m
  else
    match m.low with
    | none =>
      let mx := max m.imax x
      if x * 6400 + delta ≤ mx * 6400 ∧ 0 < delta then { m with imax := mx, low := some (x, i) }
      else { m with imax := mx }
    | some (lo, _) =>
      if 2 * 6400 * lo + delta ≤ 2 * 6400 * x then { m with ended := true }
      else if x < lo then { m with low := some (x, i) } else m

def Motion.run (delta minUs : Nat) : List Nat → Nat → Motion → Motion
  | [], _, m => m
  | x :: t, i, m => Motion.run delta minUs t (i + 1) (m.sample delta minUs i x)

/-- The judgement over a window's samples. -/
def State.judge (s : State) (v : Nat) (samples : List Nat) : Motion :=
  Motion.run (s.dipDelta v) (10 * s.get (VALVE_DETECT_MIN_US v)) samples 0 {}

/-- MOTION 1 with its values (R357, R365). -/
def State.moved (s : State) (v us ma : Nat) : State :=
  ((((s.setChan v { s.chan v with judged := 1 }).put (VALVE_STATUS_MOTION v) 1).put (VALVE_MOTION_MOTION_US v) (satTo 16 us)).put
    (VALVE_MOTION_DIP_MA v) (satTo 16 ma)).put (vsStuckRun v) 0

/-- The motion window closes on the samples since switch-on (R357, R358). (DESIGN CHOICE, log entry 119.) -/
def State.closeWindow (s : State) (v : Nat) (samples : List Nat) : State :=
  if !(s.chan v).window then s
  else
    let t := s.setChan v { s.chan v with window := false }
    let m := s.judge v samples
    match m.low with
    | some (lo, i) => t.moved v i (m.imax - lo)
    | none =>
      ((t.put (VALVE_STATUS_MOTION v) 2).vev v 0x3001 samples.length m.imax).setChan v
        { t.chan v with probeDue := 1, judged := 2 }

/-- The samples of a window that no command gives: as many as the peak time allows, each below the peak
target, whose reaching would have closed the window. (DESIGN CHOICE, log entry 119.) -/
def State.coilSamples (s : State) (v : Nat) : List Nat :=
  (List.range ((s.freeAt 15 0).toNat % (100 * s.get (VALVE_PROFILE_PEAK_T v) + 1))).map
    (fun i => (s.freeAt 12 (i + 1)).toNat % max 1 (s.peakMa v))

/-- A release before the window ends: judged, by the same rule, on the samples so far, which are the
coil's, and only if a qualified dip had already ended (R357). (DESIGN CHOICE, log entries 117, 119.) -/
def State.dropWindow (s : State) (v : Nat) : State :=
  if !(s.chan v).window then s
  else
    let samples := s.coilSamples v
    let t := (s.setChan v { s.chan v with window := false }).tookN (samples.length + 1)
    let m := s.judge v samples
    match m.ended, m.low with
    | true, some (lo, i) => t.moved v i (m.imax - lo)
    | _, _ => t.put (VALVE_STATUS_MOTION v) 0

/-- A verdict of the probe, or its absence, with R_meas in mΩ (R365). -/
def State.verdictRecord (s : State) (v kind rm : Nat) : State := s.vev v 0x3006 kind rm

/-- The channel goes to RELEASE: the running item takes its outcome, and the queue is served
(R344, R349, R351, R365).  `forced` is a status and reason that decides the item whatever verdict
was given. (DESIGN CHOICE, log entry 117.) -/
def State.release (s : State) (v : Nat) (forced : Option (Nat × Nat)) : State :=
  let a := s.dropWindow v
  let noVerdict := decide ((a.chan v).probeDue = 1) && forced != some (1, 0x11) &&
    forced != some (1, 0x12)
  let b := if noVerdict then
      (a.verdictRecord v 4 0).setChan v { a.chan v with verdict := some 0x14 }
    else a
  let c := b.chan v
  let out : Nat × Nat := match forced with
    | some o => o
    | none => match c.verdict with
      | some r => (1, r)
      | none => (0, 0)
  let t := b.setChan v { c with
    item := none, probeDue := 0, decay := true, verdict := none,
    relItem := c.item.map (fun id => (id, out.1, out.2)) }
  let u := ((t.putB (vsProbeBusy v) false).putB (VALVE_STATUS_CONT v) false).setVst v vRelease
  u.serve (v / 8)

/-- The running item's ID, 0 with none. -/
def State.itemId (s : State) (v : Nat) : Nat := ((s.chan v).item).getD 0

/-- A verdict that ends the profile at once and faults the channel (R363, R365). (DEDUCED, log entry 116.) -/
def State.faultVerdict (s : State) (v kind reason rm : Nat) : State :=
  let id := s.itemId v
  ((s.verdictRecord v kind rm).release v (some (1, reason))).vfault v kind id

/-! ### Commands (R351 to R356, R362) -/

/-- A command for a new profile on a channel in IDLE or RELEASE (R352, R353, R355, R362). -/
def State.newProfile (s : State) (v id : Nat) (cont : Bool) (hold : Nat) : State :=
  let b := v / 8
  if s.on (vsDutyLim v) then s.cqPush v id 1 0x15
  else if !s.bankSupply b then s.cqPush v id 1 0x02
  else if (s.bank b).queue = [] && s.fits v then s.letIn v id cont hold
  else if s.get (VALVE_PROFILE_DEFER_MS v) = 0 then s.cqPush v id 1 0x01
  else
    let k := s.bank b
    let t := (s.setBank b { k with queue := k.queue ++ [v] }).setChan v
      { s.chan v with deferred := some (id, cont, hold) }
    ((t.put (VALVE_STATUS_ITEM_ID v) id).inc (VALVE_BANK_STATS_DEFERRALS b)).setVst v vDeferred

/-- The channel takes a timed or continuous command (R351, R362). -/
def State.valveStart (s : State) (v id : Nat) (cont : Bool) (hold : Nat) : State :=
  match s.refuses v with
  | some r => s.cqPush v id 1 r
  | none =>
    let st := s.vst v
    let c := s.chan v
    if st = vIdle ∨ st = vRelease then s.newProfile v id cont hold
    else if s.on (vsDutyLim v) then s.cqPush v id 1 0x15
    else if st = vDeferred then
      match c.deferred with
      | none => s
      | some (old, _, _) =>
        ((s.cqPush v old 2 0x01).setChan v { c with deferred := some (id, cont, hold) }).put
          (VALVE_STATUS_ITEM_ID v) id
    else
      let t := (s.cqPush v (s.itemId v) 2 0x01).put (VALVE_STATUS_ITEM_ID v) id
      if st = vHold then
        if t.on (VALVE_STATUS_CONT v) then t.setChan v { c with item := some id }
        else if cont then (t.setChan v { c with item := some id }).putB (VALVE_STATUS_CONT v) true
        else t.setChan v { c with
          item := some id, holdEnd := max c.holdEnd (s.tim.mono + 1000 * hold) }
      else (t.setChan v { c with item := some id, hold := hold }).putB (VALVE_STATUS_CONT v) cont

/-- A pre-arm is cancelled: the high-side switch opens, unless another channel of the bank is admitted and
takes the pre-arm over in its remaining time (R345). (DEDUCED, log entry 144.) -/
def State.cancelPrearm (s : State) (v status reason : Nat) : State :=
  let b := v / 8
  let t := ((s.cqPush v (s.itemId v) status reason).setChan v { s.chan v with item := none }).tableIn v
  let w := (((t.setVst v vIdle).hsPut b false).serve b).stageStart
  if w.hsOn b then w else w.inc (VALVE_BANK_STATS_PREARM_CANCELS b)

/-- The channel takes a stop (R351). -/
def State.valveStop (s : State) (v id : Nat) : State :=
  let st := s.vst v
  let t :=
    if (s.refuses v).isSome then s
    else if st = vDeferred then (s.unqueue v 2 0x02).serve (v / 8)
    else if st = vPrearm then s.cancelPrearm v 2 0x02
    else if isOn st then s.release v none
    else s
  t.cqPush v id 0 0

/-! ### Phases (R345, R347, R363 to R365) -/

/-- PREARM_US ends: the low-side switch turns on; a continuous profile on a channel at its duty limit is
released at once (R345, R362). -/
def State.prearmEnd (s : State) (v : Nat) : State :=
  if s.vst v ≠ vPrearm then s
  else
    let t := s.riseStart v
    if t.on (vsDutyLim v) && t.on (VALVE_STATUS_CONT v) then t.release v none else t

/-- The current reaches the peak target (R347, R357). -/
def State.peakReached (s : State) (v : Nat) (samples : List Nat) : State :=
  if s.vst v = vRise then
    let t := s.closeWindow v samples
    (t.setChan v { t.chan v with reached := true }).setVst v vPeak
  else s

/-- The hold begins, or the profile releases (R347); a probe that R_NOM 0 rules out gives NONE
(R365). -/
def State.holdStart (s : State) (v : Nat) : State :=
  let c := s.chan v
  if s.on (VALVE_STATUS_CONT v) || c.hold != 0 then
    let t := (s.setChan v { c with holdEnd := s.tim.mono + 1000 * c.hold }).setVst v vHold
    let u := if s.get (VALVE_PROT_R_NOM v) = 0 then
        if c.probeDue = 1 then
          (t.verdictRecord v 4 0).setChan v { t.chan v with verdict := some 0x14, probeDue := 0 }
        else t.setChan v { t.chan v with probeDue := 0 }
      else t
    u.serve (v / 8)
  else s.release v none

/-- PEAK_LOW and its record (R347). -/
def State.peakLow (s : State) (v hi : Nat) : State :=
  if (s.chan v).reached then s.putB (VALVE_STATUS_PEAK_LOW v) false
  else (s.putB (VALVE_STATUS_PEAK_LOW v) true).vev v 0x3003 (s.itemId v) hi

/-- The peak time ends (R347, R357, R363); `samples` are the currents in mA at each µs since
switch-on. -/
def State.peakTimeEnd (s : State) (v : Nat) (samples : List Nat) : State :=
  if s.vst v = vRise ∨ s.vst v = vPeak then
    let hi := samples.foldl max 0
    let t := (s.closeWindow v samples).peakLow v hi
    if (t.chan v).fromIdle && decide (hi < 50) then t.faultVerdict v 1 0x11 0
    else t.holdStart v
  else s

/-- The hold ends (R347); one that an extension has put off does not release (R354). -/
def State.holdFinish (s : State) (v : Nat) : State :=
  if s.vst v = vHold && !s.on (VALVE_STATUS_CONT v) && decide ((s.chan v).holdEnd ≤ s.tim.mono) then
    s.release v none
  else s

/-- A fault that the clear action may clear: held, and not fenced (R366). -/
def State.clearOk (s : State) (v : Nat) : Bool :=
  decide (s.get (vsFault v) ≠ 0) && decide (s.get (vsFault v) ≠ 4)

/-- Clear a fault: 0 by command, 2 by a swap; a FAULTED channel returns to IDLE (R366).
(DEDUCED, log entry 116.) -/
def State.clearFault (s : State) (v why : Nat) : State :=
  if !s.clearOk v then s
  else
    let t := (s.put (vsFault v) 0).vev v 0x3008 why
    if t.vst v = vFaulted then (t.setVst v vIdle).stageStart else t

/-- The released current falls below 20 mA: the item ends, and a third STUCK faults the channel
(R351, R365). (DEDUCED, log entries 115, 116.) -/
def State.releaseDone (s : State) (v : Nat) : State :=
  let c := s.chan v
  if !c.decay then s
  else
    let new := c.relItem.isSome && decide (s.vst v = vFaulted) && c.table.any (s.tableChanges v)
    let t := (s.setChan v { c with decay := false, stuck := false }).relItemEnd v
    let u := if c.stuck then t.vfault v 3 ((c.relItem.map (fun p => p.1)).getD 0) else t
    let w := (if u.vst v = vRelease then u.setVst v vIdle else u).stageStart
    if new then w.clearFault v 2 else w

/-- Low-side current above 6.0 A, in a profile that started from IDLE (R363). -/
def State.shortTrip (s : State) (v : Nat) : State :=
  if isOn (s.vst v) && (s.chan v).fromIdle then s.faultVerdict v 2 0x12 0 else s

/-- DEFER_MS has passed; a command that can be admitted now is (R353, R354). -/
def State.deferTimeout (s : State) (v : Nat) : State :=
  if s.vst v ≠ vDeferred then s
  else
    let t := s.serve (v / 8)
    if t.vst v ≠ vDeferred then t
    else
      let id := match (t.chan v).deferred with
        | some (i, _, _) => i
        | none => 0
      let u := t.vev v 0x3002 id (t.get (VALVE_PROFILE_DEFER_MS v) * 2 ^ 16 +
        (t.bank (v / 8)).queue.length)
      (u.unqueue v 1 0x01).serve (v / 8)

/-- The channel has been in HOLD for 10 ms with a probe due (R364). -/
def State.probeStart (s : State) (v : Nat) : State :=
  if s.vst v = vHold && decide ((s.chan v).probeDue ≠ 0) &&
      decide (s.get (VALVE_PROT_R_NOM v) ≠ 0) then
    s.putB (vsProbeBusy v) true
  else s

/-- R_meas as a fraction of mΩ: D in 1/65536, current in mA, supply in mV (R364). -/
def rMeasNum (d im mv : Nat) : Int :=
  ((d * mv : Nat) - ((65536 - d) * 800 : Nat) : Int) * 1000 - (d * 100 * im : Nat)
def rMeasDen (im : Nat) : Nat := 65536 * im

/-- The probe's verdict, 1 OPEN, 2 SHORT or 3 STUCK, from R_meas = `n` / `q` mΩ (R365). -/
def State.probeVerdict (s : State) (v dMin : Nat) (n : Int) (q : Nat) : Nat :=
  let nom := 500 * s.get (VALVE_PROT_R_NOM v)
  if decide (98 * 65536 ≤ 100 * dMin) || decide ((130 * nom * q : Nat) < 100 * n) then 1
  else if 100 * n < (70 * nom * q : Nat) then 2
  else 3

/-- A STUCK verdict counts; the third faults the channel when the profile's release ends (R365).
(DEDUCED, log entry 116.) -/
def State.stuckVerdict (s : State) (v rm : Nat) : State :=
  let run := min 3 (s.get (vsStuckRun v) + 1)
  ((s.verdictRecord v 3 rm).setChan v { s.chan v with
    verdict := some 0x13, stuck := decide (run = 3) }).put (vsStuckRun v) run

/-- The 64 periods of the probe have ended; `dMin` is the least on-fraction of them (R364, R365).
A stop taken in the same cycle prevails: the verdict is recorded, and the profile's item ends DONE
(R370). With no current R_meas is a free value. (DEDUCED, DESIGN CHOICE, log entries 116, 117, 118, 152.) -/
def State.probeDone (s : State) (v dMin : Nat) (p : ProbeMean) (im mv : Nat) : State :=
  if !s.on (vsProbeBusy v) then s
  else
    let t := (s.putB (vsProbeBusy v) false).setChan v { s.chan v with probeDue := 0 }
    let n : Int := if im = 0 then (s.free 32).toNat else rMeasNum p.d im mv
    let q : Nat := if im = 0 then 1 else rMeasDen im
    let u := if im = 0 then t.took else t
    let rm := par (n / q)
    let kind := u.probeVerdict v dMin n q
    match p.stop with
    | some id => ((u.verdictRecord v kind rm).release v (some (0, 0))).cqPush v id.toNat 0 0
    | none =>
      if kind = 3 then u.stuckVerdict v rm
      else u.faultVerdict v kind (if kind = 1 then 0x11 else 0x12) rm

/-! ### Duty limit (R361, R362) -/

/-- DUTY_USED: energised intervals of the last 1,000 WINDOW_S. -/
def State.dutyUsed (s : State) (v : Nat) : Nat :=
  let w := 1000 * s.get (VALVE_PROT_WINDOW_S v)
  let c := s.chan v
  min 255 (256 * (c.energised.filter (fun i => decide (c.intervals < i + w))).length / w)

/-- DUTY_USED is judged against LIMIT. -/
def State.dutyJudge (s : State) (v : Nat) : State :=
  let used := s.dutyUsed v
  let lim := s.get (VALVE_PROT_LIMIT v)
  let t := s.put (VALVE_PROT_DUTY_USED v) used
  if !t.on (vsDutyLim v) && decide (lim ≠ 0) && decide (lim ≤ used) then
    let u := ((t.putB (vsDutyLim v) true).vev v 0x3004 lim (t.get (VALVE_PROT_WINDOW_S v))).bankShow
      (v / 8)
    if isOn (u.vst v) && u.on (VALVE_STATUS_CONT v) then u.release v none else u
  else if t.on (vsDutyLim v) && (decide (lim = 0) || decide (used ≤ lim - 8)) then
    ((t.putB (vsDutyLim v) false).vev v 0x3005 used).bankShow (v / 8)
  else t

/-- A 1 ms interval ends: intervals are numbered from 1 (R361). -/
def State.dutyInterval (s : State) (v : Nat) : State :=
  let c := s.chan v
  let n := c.intervals + 1
  let on := c.touched || isOn (s.vst v)
  let keep := (if on then n :: c.energised else c.energised).filter (fun i => decide (n < i + 60000))
  (s.setChan v { c with
    intervals := n, energised := keep, touched := isOn (s.vst v) }).dutyJudge v

/-! ### Disabling, cuts, clearing (R366, R368, R369) -/

/-- Settle the work of a channel: deferred or in PREARM cancelled, energised released (R368, R369). -/
def State.settle (s : State) (v cancel fail : Nat) : State :=
  let st := s.vst v
  if st = vDeferred then s.unqueue v 2 cancel
  else if st = vPrearm then s.cancelPrearm v 2 cancel
  else if isOn st then s.release v (some (1, fail))
  else s

/-- Settle every channel of a bank and open its high-side switch; the bank's queue is emptied first,
so that nothing is admitted meanwhile (R354, R368, R369). -/
def State.settleBank (s : State) (b cancel fail : Nat) : State :=
  let q := (s.bank b).queue
  let t := s.each q (fun t v => t.unqueue v 2 cancel)
  ((t.each (bankChans b) (fun t v => t.settle v cancel fail)).hsPut b false).bankShow b

/-- Cut banks: SAFE or sluice with reason 0x17, a thermal CUT or halt with 0x18 (R369). -/
def State.cutBanks (s : State) (banks : List Nat) (fail : Nat) : State :=
  s.each banks (fun t b => t.settleBank b 0x04 fail)

/-- The banks of a power die; every bank. -/
def dieBanks (d : Nat) : List Nat := (List.range 6).map (fun i => 6 * d + i)
def allBanks : List Nat := List.range 12

def State.channelOff (s : State) (v : Nat) : State :=
  if s.vst v = vDisabled then s.setVst v vDisabled else (s.settle v 0x03 0x16).setVst v vDisabled

def State.channelOn (s : State) (v : Nat) : State :=
  if s.vst v = vDisabled then
    (s.setVst v (if s.get (vsFault v) ≠ 0 then vFaulted else vIdle)).stageStart
  else s

def State.bankDisable (s : State) (b : Nat) : State :=
  let t := s.putB (VALVE_BANK_FAULT_BANK_DISABLED b) true
  let u := (t.settleBank b 0x03 0x16).each (bankChans b) State.channelOff
  u.ev (portValve b) 0x3009 b 0xFF01

def State.bankEnable (s : State) (b : Nat) : State :=
  let t := s.putB (VALVE_BANK_FAULT_BANK_DISABLED b) false
  let u := t.each (bankChans b) (fun t v =>
    if (t.chan v).disSelf then t.setVst v vDisabled else t.channelOn v)
  (u.bankShow b).ev (portValve b) 0x3009 b 0xFF00

def State.channelDisable (s : State) (v : Nat) : State :=
  let t := s.setChan v { s.chan v with disSelf := true }
  ((t.channelOff v).serve (v / 8)).ev (portValve (v / 8)) 0x3009 (v / 8) (v % 8 * 256 + 1)

def State.channelEnable (s : State) (v : Nat) : State :=
  let t := s.setChan v { s.chan v with disSelf := false }
  let u := if t.on (VALVE_BANK_FAULT_BANK_DISABLED (v / 8)) then t else t.channelOn v
  u.ev (portValve (v / 8)) 0x3009 (v / 8) (v % 8 * 256)

/-- A LASTING stage check: a waiting command fails, the channel is fenced (R367). A channel fenced
while a profile runs turns it off, and its item fails. (DESIGN CHOICE, log entry 153.) -/
def State.valveFence (s : State) (v : Nat) : State :=
  let id := s.itemId v
  let st := s.vst v
  let t :=
    if st = vDeferred then s.unqueue v 1 0x10
    else if st = vPrearm then s.cancelPrearm v 1 0x10
    else if isOn st then s.release v (some (1, 0x10))
    else s
  (((t.vfault v 4 id).vev v 0x300A).serve (v / 8))

/-! ### Stage dissipation (R373, R374) -/

/-- Energy of a run of chopping periods, in units of 10^-8 mW / 4096 times its periods: diode,
low-side and switching terms of R373. -/
def chopPower (khz : Nat) (r : ChopRun) : Nat :=
  (80000000 * r.ma * (4096 - r.d) + 12000 * r.ma * r.ma * r.d + 8192 * r.mv * r.ma * khz) * r.n

/-- The average over `sec` seconds of a bank's measured periods, as numerator and denominator of mW. -/
def State.stageNum (s : State) (b : Nat) (chops : List ChopRun) (hs : List HsRun) : Nat :=
  let khz := s.get (VALVE_BANK_CFG_CHOP_KHZ b)
  ((chops.filter (fun r => r.bank = b)).foldl (fun a r => a + chopPower khz r) 0) * 1000 +
    ((hs.filter (fun r => r.bank = b)).foldl (fun a r => a + r.ma * r.ma * r.us) 0) *
      (2500 * 4096 * khz)
def State.stageDen (s : State) (b sec : Nat) : Nat :=
  4096 * 10 ^ 14 * s.get (VALVE_BANK_CFG_CHOP_KHZ b) * sec

/-- Put the averages of one bank. (DESIGN CHOICE, log entry 25.) -/
def State.stageAverages (s : State) (c60 c1 : List ChopRun) (h60 h1 : List HsRun) (b : Nat) : State :=
  let a60 := s.openDiv (s.stageNum b c60 h60) (s.stageDen b 60)
  let t := s.took
  let a1 := t.openDiv (t.stageNum b c1 h1) (t.stageDen b 1)
  (t.took.put (VALVE_BANK_POWER_AVG60_MW b) (satTo 16 a60)).put (VALVE_BANK_POWER_AVG1_MW b)
    (satTo 16 a1)

/-- The estimates of a die's banks, and the record of an exceeded budget, at most once every 10
minutes (R374). -/
def State.stageBudget (s : State) (die : Nat) (c60 c1 : List ChopRun) (h60 h1 : List HsRun) : State :=
  let t := s.each (dieBanks die) (State.stageAverages · c60 c1 h60 h1 ·)
  let mw := (dieBanks die).foldl (fun a b => a + t.get (VALVE_BANK_POWER_AVG60_MW b)) 0
  let last := tget (fun _ => 0) t.valve.budgetAt die
  if 6000 < mw ∧ (last = 0 ∨ last + 600 * 1024 ≤ t.optime) then
    { t.ev (portValve (6 * die)) 0x3011 die mw with
      valve := { t.valve with budgetAt := tset (fun _ => 0) t.valve.budgetAt die t.optime } }
  else t

end Sys2Proof.Machine
end

