-- ==== Sys2Proof/Machine/FanOps.lean ====
section
/-! DEFINITION. The fan channels: drive rows, switching, measurement windows, stall and short runs,
the temperature loop (R375 to R388, R493). -/

namespace Sys2Proof.Machine

open Reg

/-- STATE codes of FAN_STATUS. -/
def fUnused : Nat := 0
def fOff : Nat := 1
def fStarting : Nat := 2
def fRunning : Nat := 3
def fTachLost : Nat := 4
def fStallOff : Nat := 5
def fBurst : Nat := 6
def fShortOff : Nat := 7
def fOpen : Nat := 8
def fNoVfan : Nat := 9

def State.fst (s : State) (f : Nat) : Nat := s.get (FAN_STATUS_STATE f)
def State.fan (s : State) (f : Nat) : Fan := tget (fun _ => {}) s.fans f
def State.setFan (s : State) (f : Nat) (x : Fan) : State :=
  { s with fans := tset (fun _ => {}) s.fans f x }
def State.setFst (s : State) (f n : Nat) : State := s.put (FAN_STATUS_STATE f) n

/-- An event record of the fan port. -/
def State.fev (s : State) (f code : Nat) (p1 : Nat := 0) (p2 : Nat := 0) : State :=
  s.ev portFan code f p1 p2

/-- The channel is fenced: by itself, or with the link of its power die (R450). -/
def State.fanFenced (s : State) (f : Nat) : Bool :=
  decide (Element.fan (Fin.ofNat 16 f) ∈ s.rel.fenced) || decide (Element.link (Fin.ofNat 3 (f / 8)) ∈ s.rel.fenced)

/-- The sluice from its step 1 through the sluice-done state, or a thermal halt. -/
def State.fansHeld (s : State) : Bool :=
  s.pwr.sluice.isSome || s.pwr.sluiceDone || s.guard.halted

/-- A binary32 in 0 to 1 as a duty code, round(255 d) with ties away from zero (R377). -/
def dutyCode (d : F32) : Nat :=
  let x := fexact (fclamp 0 0x3F800000 d)
  ((2 * 255 * x.1.toNat + 2 ^ x.2) / (2 * 2 ^ x.2))

/-- The planes are in reset or the caddy is being read: every switch is on (R50, R80, R376 row 1). -/
def State.fansBoot (s : State) : Bool := s.pwr.rstCp || decide (s.caddy.phase ≠ 3)

/-- The first drive row that applies: its FORCE code and its duty code (R376). (DEDUCED, log entry 66.) -/
def State.fanDrive (s : State) (f : Nat) : Nat × Nat :=
  let st := s.fst f
  let x := s.fan f
  if s.fansHeld then (7, 0)
  else if s.fansBoot || s.fanFenced f then (8, 255)
  else if st = fStallOff ∨ st = fShortOff then (6, 0)
  else if st = fBurst then (6, 255)
  else if st = fTachLost then (5, 255)
  else if s.on GUARD_STATUS_FANS_FORCED && (s.get GUARD_FAN_MASK_FANS).testBit f then (4, 255)
  else if s.pwr.safe then (3, 255)
  else if s.on NET_WDOG_STATUS_TRIPPED && s.on (FAN_CFG_WDOG_FORCE f) then (2, 255)
  else match x.slot with
    | some c => (1, c)
    | none =>
      if s.get (FAN_CFG_MODE f) = 1 then (0, dutyCode x.duty)
      else if s.get (FAN_CFG_MODE f) = 2 then (0, s.get (FAN_LOOP_FIXED_DUTY f))
      else (0, 0)

/-- A Governor slot or a row above row 9 drives the channel: the loop is forced (R384). -/
def State.fanForced (s : State) (f : Nat) : Bool := decide ((s.fanDrive f).1 ≠ 0)

/-- No row drives the channel and MODE is 0 (R376 row 11). -/
def State.fanIdle (s : State) (f : Nat) : Bool :=
  decide ((s.fanDrive f).1 = 0) && decide (s.get (FAN_CFG_MODE f) ≠ 1) && decide (s.get (FAN_CFG_MODE f) ≠ 2)

/-- The state of a fan that is off: UNUSED when nothing drives it and MODE is 0. -/
def State.fanOffState (s : State) (f : Nat) : Nat :=
  if s.fanIdle f then fUnused else fOff

/-- FORCE shows the drive row's code; with the control plane in reset no register does (R376). -/
def State.fanForceShow (s : State) (f : Nat) : State :=
  let dr := s.fanDrive f
  s.put (FAN_STATUS_FORCE f) (if dr.1 = 8 ∧ !s.fanFenced f then 0 else dr.1)

/-- A measurement window closes without a verdict (R378, R380). -/
def State.fanNoWindow (s : State) (f : Nat) : State := s.setFan f { s.fan f with window := false, edges := [] }

/-- The fan goes off: no window runs in OFF (R376 to R378). -/
def State.fanStop (s : State) (f : Nat) : State :=
  ((s.fanNoWindow f).setFst f (s.fanOffState f)).put (FAN_STATUS_DUTY f) 0

/-- The channel's state while VFAN is low is NO_VFAN; from it the channel starts again from off (R380). -/
def State.fanSupplied (s : State) (f : Nat) : State :=
  if !s.on PWR_STATUS_VFAN_OK then s.setFst f fNoVfan
  else if s.fst f = fNoVfan then (s.setFst f fOff).put (FAN_STATUS_DUTY f) 0
  else s

/-- A switching period starts: the drive row's duty applies, with the start from off and MIN_DUTY
(R376, R377).  With the control plane in reset the switch is on and no register shows it. -/
def State.fanPeriodOn (s : State) (f : Nat) : State :=
  let dr := s.fanDrive f
  let st := s.fst f
  let mn := s.get (FAN_LOOP_MIN_DUTY f)
  let t := s.fanForceShow f
  if dr.1 = 7 then
    if st = fStallOff ∨ st = fShortOff ∨ st = fNoVfan ∨ st = fBurst then
      t.put (FAN_STATUS_DUTY f) 0
    else t.fanStop f
  else if dr.1 = 8 then (t.put (FAN_STATUS_DUTY f) 255).setFst f (if st = fNoVfan then st else fRunning)
  else if st = fStallOff ∨ st = fShortOff ∨ st = fBurst then t.put (FAN_STATUS_DUTY f) dr.2
  else if st = fNoVfan then t.put (FAN_STATUS_DUTY f) (if dr.2 < mn then 0 else dr.2)
  else if st = fUnused ∨ st = fOff then
    if mn + 13 ≤ dr.2 then (t.setFst f fStarting).put (FAN_STATUS_DUTY f) 255 else t.fanStop f
  else if dr.2 < mn ∨ s.fanIdle f then t.fanStop f
  else if st = fStarting then t.put (FAN_STATUS_DUTY f) 255
  else t.put (FAN_STATUS_DUTY f) dr.2

def State.fanPeriod (s : State) (f : Nat) : State := if s.cpUp then (s.fanSupplied f).fanPeriodOn f else s

/-- Every fan switch off at once, for the sluice and a thermal halt (row 2, R65, R399). -/
def State.fansCut (s : State) : State := s.each (List.range 16) State.fanPeriod

/-- The 500 ms at 100 % end (R377). -/
def State.fanStarted (s : State) (f : Nat) : State :=
  if s.fst f = fStarting then s.setFst f fRunning else s

/-! ### Windows and verdicts (R378 to R380) -/

/-- A measurement window starts (R378). -/
def State.fanWindow (s : State) (f : Nat) : State :=
  let st := s.fst f
  if (st = fRunning ∨ st = fTachLost ∨ st = fOpen) && !s.fanFenced f && s.on PWR_STATUS_VFAN_OK &&
      !s.fansHeld && !s.fansBoot then
    s.setFan f { s.fan f with window := true, edges := [] }
  else s

/-- A tach level change to high that lasted `dur` µs, at site time `t` µs: accepted once it has
lasted 50 µs, whatever TACH_FILT holds (R379, R493); the window ends with its fourth edge. -/
def State.tachEdge (s : State) (f dur t : Nat) : State :=
  let x := s.fan f
  if x.window && decide (50 ≤ dur) && decide (x.edges.length < 4) then
    s.setFan f { x with edges := x.edges ++ [t] }
  else s

/-- Pulses per revolution of a FAN_CFG word. -/
def pprOf (w : Word) : Nat :=
  let c := bits w 27 26
  if c = 3 then 4 else c

/-- A verdict (R380). -/
inductive Verdict where
  | running (speed : Option F32)
  | openFan
  | tachLost
  | stall
deriving DecidableEq, Repr

/-- Speed from edges stamped in µs: 60 (n - 1) / ((t_n - t_1) PPR) rpm (R379). -/
def fanSpeed (ppr : Nat) (edges : List Nat) : Option (Nat × Nat) :=
  match edges, edges.getLast? with
  | a :: _ :: _, some z =>
    if ppr = 0 ∨ z ≤ a then none else some (60000000 * (edges.length - 1), (z - a) * ppr)
  | _, _ => none

/-- The mean I_m of current samples in mA, as sum and count (R380). -/
def meanCurrent (samples : List Nat) : Nat × Nat := (samples.sum, max 1 samples.length)

/-- One sample of the ripple count: whether the current has risen above I_m since the last fall, and
the falls to 0.96 I_m or below counted so far (R380). -/
def rippleStep (m : Nat × Nat) (c : Bool × Nat) (x : Nat) : Bool × Nat :=
  if c.1 && decide (100 * x * m.2 ≤ 96 * m.1) then (false, c.2 + 1)
  else if m.1 < x * m.2 then (true, c.2)
  else c

/-- The ripple falls of a run of samples (R380). -/
def rippleDips (samples : List Nat) : Nat := (samples.foldl (rippleStep (meanCurrent samples)) (false, 0)).2

/-- The verdict table of R380, from the edges and the current samples in mA. -/
def fanVerdict (ppr : Nat) (edges samples : List Nat) : Verdict :=
  let m := meanCurrent samples
  if ppr ≠ 0 ∧ 2 ≤ edges.length then
    .running ((fanSpeed ppr edges).map (fun q => fofRat q.1 q.2))
  else if m.1 < 50 * m.2 then .openFan
  else if 4 ≤ rippleDips samples then (if ppr = 0 then .running none else .tachLost)
  else .stall

/-- STATE code of a verdict, for record 0x4006. (DESIGN CHOICE, log entry 120.) -/
def Verdict.code : Verdict → Nat
  | .running _ => fRunning
  | .openFan => fOpen
  | .tachLost => fTachLost
  | .stall => fStallOff

/-- A stall or short run: the switch is off for RETRY_S (R381, R383). -/
def State.fanOffRun (s : State) (f st : Nat) : State :=
  (((s.fanNoWindow f).setFst f st).fanForceShow f).put (FAN_STATUS_DUTY f) 0

/-- A run begins. -/
def State.fanRunBegin (s : State) (f kind : Nat) : State :=
  s.setFan f { s.fan f with run := kind, retries := 0, runAt := s.optime }

/-- I starts at 0 when the tables load and when MODE changes (R384). -/
def State.fanLoopReset (s : State) (f : Nat) : State := s.setFan f { s.fan f with integ := 0 }

/-- The control-plane tables load: a channel in a stall or short run takes that when the run ends
(R384, R387). -/
def State.fanTablesLoad (s : State) (f : Nat) : State :=
  if (s.fan f).run = 0 then s.fanLoopReset f else s.setFan f { s.fan f with reload := true }

/-- A stall or short run ends: the settings that a swap loaded in it take over (R387). -/
def State.fanRunEnd (s : State) (f : Nat) : State :=
  let x := s.fan f
  let t := x.table.foldl (fun t p => t.store (FAN_CFG f + p.1) p.2)
    (s.setFan f { x with run := 0, retries := 0, table := [], reload := false })
  if x.reload then t.fanLoopReset f else t

/-- The mean of the samples in mA, its last digit open, and that it was taken (R380).
(DESIGN CHOICE, log entry 25.) -/
def State.fanMean (s : State) (samples : List Nat) : Nat × State :=
  (s.openDiv (meanCurrent samples).1 (meanCurrent samples).2, s.took)

/-- Show the speed and current of a window; the last digit of RPM is open. (DESIGN CHOICE, log entry 25.) -/
def State.fanShow (s : State) (f ppr : Nat) (edges : List Nat) (ima : Nat) : State :=
  let t := s.put (FAN_SPEED_CURRENT_MA f) (satTo 16 ima)
  match fanSpeed ppr edges with
  | some (n, d) =>
    let u := t.took.put (FAN_SPEED_RPM f) (satTo 16 (t.openDiv n d))
    u.setFan f { u.fan f with speed := some (fofRat n d), speeds := (u.fan f).speeds + 1 }
  | none => (t.put (FAN_SPEED_RPM f) 0).setFan f { t.fan f with speed := none }

/-- Apply a verdict to the channel: each TACH_LOST and each OPEN verdict writes its record (R381 to
R383). (DESIGN CHOICE, log entry 120.) -/
def State.fanJudge (s : State) (f : Nat) (v : Verdict) (ima dips : Nat) : State :=
  let t := if s.fst f = fOpen ∧ v ≠ .openFan then (s.fev f 0x4006 v.code).setFst f fRunning else s
  match v with
  | .running sp =>
    if t.fst f = fTachLost ∧ sp.isSome then
      (t.fev f 0x4004 (t.get (FAN_SPEED_RPM f))).setFst f fRunning
    else t
  | .tachLost =>
    let u := t.putB (FAN_STATUS_TACH_LOST_SEEN f) true
    let w := if u.fst f = fTachLost then u else (u.setFst f fTachLost).inc (FAN_STATS_TACH_LOSSES f)
    w.fev f 0x4003 ima dips
  | .openFan => ((t.putB (FAN_STATUS_OPEN_SEEN f) true).setFst f fOpen).fev f 0x4005 ima
  | .stall =>
    let u := ((t.inc (FAN_STATS_STALLS f)).putB (FAN_STATUS_STALL_SEEN f) true).fev f 0x4001 ima
      (t.get (FAN_STATS_STALL_RETRIES f))
    (u.fanRunBegin f 1).fanOffRun f fStallOff

/-- A window `us` µs long ends, with its current samples in mA: at its fourth edge, or at 120 ms (R378,
R380). -/
def State.fanWindowEnd (s : State) (f : Nat) (samples : List Nat) (us : Nat) : State :=
  let x := s.fan f
  if x.window && (decide (us = 120000) || (decide (us < 120000) && decide (x.edges.length = 4))) then
    let ppr := pprOf (s.reg (FAN_CFG f))
    let m := s.fanMean samples
    ((m.2.fanShow f ppr x.edges m.1).fanNoWindow f).fanJudge f (fanVerdict ppr x.edges samples) m.1
      (rippleDips samples)
  else s

/-- RETRY_S off has ended: a burst of 2 s at 100 % (R381). -/
def State.fanRetry (s : State) (f : Nat) : State :=
  if s.fst f = fStallOff ∨ s.fst f = fShortOff then
    let t := s.setFan f { s.fan f with retries := (s.fan f).retries + 1 }
    let u := ((t.inc (FAN_STATS_STALL_RETRIES f)).setFst f fBurst).fanForceShow f
    u.put (FAN_STATUS_DUTY f) (u.fanDrive f).2
  else s

/-- The rising tach level changes that R379 and R493 accept, by their stamps. -/
def acceptedEdges (l : List TachLevel) : List Nat := (l.filter (fun e => decide (50 ≤ e.us))).map TachLevel.stampUs

/-- The burst ends after its 2 s and is judged on the level changes and current samples of its last
120 ms (R381, R383). -/
def State.fanBurstEnd (s : State) (f : Nat) (levels : List TachLevel) (samples : List Nat) (ms : Nat) : State :=
  if s.fst f ≠ fBurst ∨ ms ≠ 2000 then s
  else
    let x := s.fan f
    let ppr := pprOf (s.reg (FAN_CFG f))
    let edges := acceptedEdges levels
    let v := fanVerdict ppr edges samples
    let m := s.fanMean samples
    let ima := m.1
    let dips := rippleDips samples
    let t := m.2.fanShow f ppr edges ima
    match v with
    | .stall => (t.putB (FAN_STATUS_STALL_SEEN f) true).fanOffRun f (if x.run = 2 then fShortOff else fStallOff)
    | .openFan => ((t.fanRunEnd f).setFst f fRunning).fanJudge f v ima dips
    | _ =>
      let u := t.fev f 0x4002 x.retries ((s.optime - x.runAt) / 1024)
      ((u.fanRunEnd f).setFst f fRunning).fanJudge f v ima dips

/-- The switch has been in current limit for 20 ms (R383, R387). -/
def State.fanShort (s : State) (f : Nat) : State :=
  let st := s.fst f
  if st = fNoVfan ∨ st = fStallOff ∨ st = fShortOff ∨ s.fanFenced f ∨ s.fansHeld ∨ s.fansBoot then s
  else
    let x := s.fan f
    let t := s.putB (FAN_STATUS_SHORT_SEEN f) true
    let u :=
      if x.run = 0 then (t.fanRunBegin f 2).fev f 0x4007 1
      else if x.run = 1 then (t.setFan f { x with run := 2 }).fev f 0x4007 2
      else t
    u.fanOffRun f fShortOff

/-- VFAN is lost or returns (R380). -/
def State.fansSupply (s : State) (good : Bool) : State :=
  s.each (List.range 16) (fun t f =>
    if good then t.fanSupplied f
    else ((t.fanNoWindow f).fanRunEnd f).setFst f fNoVfan)

/-- A fan is fenced: on at 100 % with no verdicts (R450). -/
def State.fanFence (s : State) (f : Nat) : State :=
  ((s.fanNoWindow f).fanRunEnd f).fanPeriod f

/-! ### Temperature loop (R384, R385) -/

def f32Zero : F32 := 0
def f32One : F32 := 0x3F800000
def f32Tenth : F32 := 0x3DCCCCCD

/-- An entry that a loop can use: VALID, and VALUE no NaN. -/
def entryUsable (w0 w3 : Word) : Bool := w3.getLsbD 31 && !fIsNaN w0

/-- The input is stale or fresh again (R385). -/
def State.fanStale (s : State) (f : Nat) (stale : Bool) : State :=
  if s.on (FAN_STATUS_STALE f) = stale then s
  else (s.putB (FAN_STATUS_STALE f) stale).fev f 0x4008 (s.get (FAN_LOOP_ENTRY f)) (if stale then 1 else 0)

/-- One tick of the loop, every 100 ms in MODE 1 (R384, R385).  Clamping what is no number gives a free
duty code, or a free I. (DESIGN CHOICE, log entry 121.) -/
def State.fanTick (s : State) (f : Nat) : State :=
  if s.get (FAN_CFG_MODE f) ≠ 1 then s
  else
    let n := s.get (FAN_LOOP_ENTRY f)
    let x := s.fan f
    let vt := s.estWord n 2
    let vstale := x.vstale && decide (vt = x.vtime)
    let stale := vstale || !entryUsable (s.estWord n 0) (s.estWord n 3)
    let x' : Fan := { x with vtime := vt, vstale := vstale }
    let t := s.fanStale f stale
    if stale then t.setFan f { x' with duty := f32One }
    else
      let T := s.estWord n 0
      let e := if s.on (FAN_CFG_REVERSE f) then fsub (s.reg (FAN_SP f)) T else fsub T (s.reg (FAN_SP f))
      let u := fadd (fmul (s.reg (FAN_KP f)) e) x.integ
      let hold := (flt f32One u && flt f32Zero e) || (flt u f32Zero && flt e f32Zero) || s.fanForced f
      let i := if hold then x.integ else fadd x.integ (fmul (fmul (s.reg (FAN_KI f)) e) f32Tenth)
      let d := if fIsNaN u then fofRat (t.freeAt 8 0).toNat 255 else fclamp f32Zero f32One u
      let j := if fIsNaN i then t.freeAt 32 1 else if hold then i else fclamp f32Zero f32One i
      (if fIsNaN u || fIsNaN i then t.tookN 2 else t).setFan f { x' with duty := d, integ := j }

/-- VTIME has not advanced for STALE_S (R385). -/
def State.fanInputStale (s : State) (f : Nat) : State :=
  if s.get (FAN_CFG_MODE f) ≠ 1 then s
  else
    let t := s.setFan f { s.fan f with
      vstale := true, vtime := s.estWord (s.get (FAN_LOOP_ENTRY f)) 2, duty := f32One }
    t.fanStale f true

/-! ### Values handed on (R388) -/

/-- Applied duty D/255, without stretch. -/
def State.fanDutyValue (s : State) (f : Nat) : F32 := fofRat (s.get (FAN_STATUS_DUTY f)) 255

/-- Tach speed of the last window. -/
def State.fanTach (s : State) (f : Nat) : F32 :=
  let st := s.fst f
  if st = fStallOff ∨ st = fShortOff then 0
  else if pprOf (s.reg (FAN_CFG f)) = 0 ∨ st = fTachLost then fNaN
  else (s.fan f).speed.getD fNaN

end Sys2Proof.Machine
end

