-- ==== Sys2Proof/Machine/FieldOps.lean ====
section
/-! DEFINITION. Field inputs, dielectric moisture, analog outputs and pulse inputs (R198 to R215). -/

namespace Sys2Proof.Machine

open Reg

/-! ### Crop tables (R232) -/

/-- The word of a crop entry at a byte offset. -/
def State.cropWord (s : State) (n off : Nat) : Word := tget (fun _ => 0) s.mill.crops (64 * n + off / 4)

/-- A byte of a crop entry. -/
def State.cropByte (s : State) (n off : Nat) : Nat :=
  bits (s.cropWord n off) (off % 4 * 8 + 7) (off % 4 * 8)

/-! ### Field inputs -/

def State.fin (s : State) (i : Nat) : FieldIn := tget (fun _ => {}) s.field i
def State.setFin (s : State) (i : Nat) (x : FieldIn) : State :=
  { s with field := tset (fun _ => {}) s.field i x }
def State.fieldCal (s : State) (i : Nat) : FieldCal := tget (fun _ => {}) s.smap.cal i
def State.fev7 (s : State) (code i : Nat) (p1 : Nat := 0) (p2 : Nat := 0) : State :=
  s.ev portField code i p1 p2

/-- The SOURCE word of a field input's value or its second quantity (R271). -/
def fieldSource (i : Nat) (aux : Bool) : Word := BitVec.ofNat 32 (i + if aux then 32 else 0)

/-- Nothing is left to settle. -/
def State.fieldSettled (s : State) (i : Nat) : State :=
  (s.setFin i { s.fin i with settle := 0 }).putB (FIELD_STATUS_SETTLING i) false

/-- The input settles for three output periods (R204); one that is unused or fenced takes no samples, and has
nothing to settle. (DEDUCED, log entry 86.) -/
def State.fieldSettle (s : State) (i : Nat) : State :=
  if s.get (FIELD_CFG_MODE i) = 0 || s.on (FIELD_STATUS_FENCED i) then s.fieldSettled i
  else (s.setFin i { s.fin i with settle := 3 }).putB (FIELD_STATUS_SETTLING i) true

/-- raw times `num`/`den` over 2^23, in binary32 (R200). -/
def rawScaled (raw : Int) (num den : Nat) : F32 := fofRat (raw * num) (2 ^ 23 * den)

/-- The constants of the Callendar–Van Dusen relation in binary32 (R200). -/
def cvdA : F32 := 0x3B801132
def cvdB : F32 := 0xB51B057F
def cvdC : F32 := 0xAC932D1D

/-- The relation Rz (1 + A t + B t² + C (t - 100) t³) and its derivative. -/
def cvdR (rz t : F32) : F32 :=
  let c : F32 := if flt t 0 then cvdC else 0
  let t3 := fmul (fmul t t) t
  fmul rz (fadd (fadd (fadd f32One (fmul cvdA t)) (fmul cvdB (fmul t t)))
    (fmul (fmul c (fsub t (fofNat 100))) t3))
def cvdD (rz t : F32) : F32 :=
  let c : F32 := if flt t 0 then cvdC else 0
  let t2 := fmul t t
  fmul rz (fadd (fadd cvdA (fmul (fmul (fofNat 2) cvdB) t))
    (fmul c (fsub (fmul (fofNat 4) (fmul t2 t)) (fmul (fofNat 300) t2))))

/-- The temperature of a platinum resistance: the quadratic root, and three Newton steps below Rz
(R200). (DEDUCED, log entry 83.) -/
def rtdTemp (rz rt : F32) : F32 :=
  let disc := fsub (fmul cvdA cvdA) (fmul (fmul (fofNat 4) cvdB) (fsub f32One (fdiv rt rz)))
  let root := fdiv (fsub (fsqrt disc) cvdA) (fmul (fofNat 2) cvdB)
  let step (t : F32) : F32 := fsub t (fdiv (fsub (cvdR rz t) rt) (cvdD rz t))
  if flt rt rz then step (step (step root)) else root

/-- NTC coefficients: the sensor map's or the default curve (R200). -/
def State.ntcCoef (s : State) (i : Nat) : F32 × F32 × F32 :=
  let c := s.fieldCal i
  if c.ntcSet then (c.a, c.b, c.c) else (0x3A93FFEB, 0x39757F73, 0x33BC4759)

/-- 1/(a + b ln Rt + c (ln Rt)³), in K, and its slope over ln Rt (R200). (DEDUCED, log entry 83.) -/
def ntcKelvin (k : F32 × F32 × F32) (rt : F32) : F32 × F32 :=
  let l := ln32 rt
  let l2 := fmul l l
  let t := fdiv f32One (fadd (fadd k.1 (fmul k.2.1 l)) (fmul k.2.2 (fmul l2 l)))
  (t, fmul (fmul t t) (fadd k.2.1 (fmul (fmul (fofNat 3) k.2.2) l2)))

/-- What a sample measured before scaling: q, the second quantity, and the accuracy bound that stands
for the value read, in its unit; for a dielectric sample the crop table's uncertainty (R200, R201). -/
structure Measure where
  q : F32
  aux : F32 := 0
  bound : F32 := fNaN
  broken : Bool := false
  range : Bool := false
  rawShown : Word := 0
deriving DecidableEq, Repr

/-- VOLT and CURR (R200, R201, R205). -/
def measureVolt (raw : Int) : Measure :=
  let q := rawScaled raw 1024 100
  { q := q, bound := ffma (fofRat 2 10000) (fabs q) (fofRat 5 10000),
    range := decide (1020 * 2 ^ 23 < raw.natAbs * 1024) }
def measureCurr (raw : Int) : Measure :=
  let q := rawScaled raw 256 10
  { q := q, bound := ffma (fofRat 3 10000) (fabs q) (fofRat 2 1000),
    broken := decide (raw * 256 < 5 * 2 ^ 23),
    range := decide (raw * 256 < 36 * 2 ^ 23) || decide (210 * 2 ^ 23 < raw * 256) }

/-- PT100 and PT1000: `k` is 1 or 10. -/
def measureRtd (k : Nat) (raw : Int) : Measure :=
  let rt := rawScaled raw (512 * k) 1
  { q := rtdTemp (fofNat (100 * k)) rt, aux := rt,
    bound := if k = 1 then fofRat 10 100 else fofRat 8 100,
    broken := decide (95 * 2 ^ 23 < raw * 100) || decide (raw * 512 < 15 * 2 ^ 23) }

/-- NTC; the bound in °C is that of ρ carried through the curve. -/
def State.measureNtc (s : State) (i : Nat) (raw : Int) : Measure :=
  let rt := fofRat (10000 * raw) (2 ^ 23 - raw).toNat
  let t := ntcKelvin (s.ntcCoef i) rt
  { q := fsub t.1 (fofRat 27315 100), aux := rt,
    bound := fmul (fofRat (2 * 2 ^ 23) (10000 * (2 ^ 23 - raw).toNat)) (fabs t.2),
    broken := decide (995 * 2 ^ 23 < raw * 1000) || decide (raw * 1000 < 5 * 2 ^ 23) }

/-- The crop of the cell to which an anchor ties the input, or FIELD_CFG.CROP (R207). -/
def State.fieldCrop (s : State) (i : Nat) : Nat :=
  match s.smap.anchors.find? (fun a => a.source = fieldSource i false || a.source = fieldSource i true) with
  | some a =>
    let b := tget (fun _ => ({} : Body)) s.mill.bodies a.body
    (tget (fun _ => ({} : Cell)) b.cells a.cell).cf % 32
  | none => s.get (FIELD_CFG_CROP i)

/-- The dielectric temperature and whether it is the 25 °C default (R208): the latest value written to
TEMP_ENTRY, within 10 s of the window end. -/
def State.dielTemp (s : State) (i t : Nat) : F32 × Bool :=
  let n := s.get (FIELD_CFG_TEMP_ENTRY i)
  let age := toSigned 32 (tickOf t - s.estBack n 2).toNat
  if s.on (FIELD_CFG_TEMP_EN i) && (s.estBack n 3).getLsbD 31 && decide (age.natAbs ≤ 100000) then
    (s.estBack n 0, false)
  else (fofNat 25, true)

/-- ω of frequency n in binary32. -/
def omegaOf (n : Nat) : F32 := if n = 0 then 0x4ABFBF63 else if n = 1 then 0x4BEFAF3B else 0x4CEFAF3B

/-- The n-th pair of a list of real and imaginary parts. -/
def pairAt (l : List F32) (n : Nat) : F32 × F32 := (l.getD (2 * n) 0, l.getD (2 * n + 1) 0)

/-- |Y|. -/
def magnitude (y : F32 × F32) : F32 := fsqrt (fadd (fmul y.1 y.1) (fmul y.2 y.2))

/-- FIELD_RAW in MODE 6 (R209): |Y| in µS, saturating, and the phase in 0.01°. (DESIGN CHOICE, log entry 88.) -/
def dielRaw (y : F32 × F32) : Word :=
  BitVec.ofNat 32 (satTo 16 (ftoIntScaled 1000000 (magnitude y)).toNat * 2 ^ 16 +
    ofSigned 16 (phaseOf y.1 y.2))

/-- A dielectric sample from Y_meas at the three frequencies (R207 to R209). (DEDUCED, log entry 83.) -/
def State.measureDiel (s : State) (i : Nat) (y : List F32) (t : Nat) : Measure :=
  let crop := s.fieldCrop i
  let n := min 2 (s.cropByte crop 19)
  let cal := s.fieldCal i
  let ym := pairAt y n
  let yo := pairAt cal.yopen n
  let wc := fmul (omegaOf n) cal.c0
  let e1 := fdiv (fsub ym.2 yo.2) wc
  let e2 := fdiv (fsub ym.1 yo.1) wc
  let x := fdiv e2 (fsub e1 f32One)
  let m (k : Nat) : F32 := s.cropWord crop (116 + 4 * k)
  let d (k : Nat) : F32 := s.cropWord crop (132 + 4 * k)
  let dT := fsub (s.dielTemp i t).1 (fofNat 25)
  let q := fadd (fadd (fadd (m 0) (fmul (m 1) x)) (fmul (m 2) (fmul x x))) (fmul (m 3) dT)
  let rho := fadd (fadd (fadd (d 0) (fmul (d 1) (fsub e1 f32One))) (fmul (d 2) e2)) (fmul (d 3) q)
  let short := (List.range 3).any (fun k => flt (fofRat 65535 1000000) (magnitude (pairAt y k)))
  { q := q, aux := rho, bound := s.cropWord crop 156,
    broken := flt e1 (fofRat 5 10) || short,
    range := flt x (s.cropWord crop 148) || flt (s.cropWord crop 152) x,
    rawShown := dielRaw (pairAt y (s.get (FIELD_CFG_DIEL_SHOW i))) }

/-- What the input measured in its mode (R198, R200). -/
def State.measureField (s : State) (i : Nat) (raw : Int) (y : List F32) (t : Nat) : Measure :=
  let m := s.get (FIELD_CFG_MODE i)
  let shown : Word := BitVec.ofNat 32 (ofSigned 32 raw)
  if m = 1 then { measureVolt raw with rawShown := shown }
  else if m = 2 then { measureCurr raw with rawShown := shown }
  else if m = 3 then { measureRtd 1 raw with rawShown := shown }
  else if m = 4 then { measureRtd 10 raw with rawShown := shown }
  else if m = 5 then { s.measureNtc i raw with rawShown := shown }
  else s.measureDiel i y t

/-- The entries that publish a field input: KIND 0 with its SOURCE (R36, R290). -/
def State.fieldPubs (s : State) (i : Nat) (aux : Bool) : List Pub :=
  s.smap.pubs.filter (fun p => p.kind = 0 && p.arg0 = fieldSource i aux)

/-- Write the entries of an input; SIGMA as R201 says, NaN for the second quantity. (DEDUCED, log entry 84.) -/
def State.fieldPublish (s : State) (i : Nat) (valid : Bool) (sigma : F32) (t : Nat) : State :=
  let one (aux : Bool) (t' : State) (p : Pub) : State :=
    t'.publish p.entry (if aux then t'.reg (FIELD_AUX i) else t'.reg (FIELD_VALUE i))
      (if aux then fNaN else sigma) (tickOf t) { valid := valid }
  (s.each (s.fieldPubs i false) (one false)).each (s.fieldPubs i true) (one true)

/-- A valid value of an input goes to the anchors that read it (R36). -/
def State.fieldForward (s : State) (i : Nat) (sigma : F32) (t : Nat) : State :=
  (s.forward (fieldSource i false) (s.reg (FIELD_VALUE i)) sigma t).forward (fieldSource i true) (s.reg (FIELD_AUX i))
    fNaN t

/-- MODE or RATE has changed (R198, R204): the input settles, and what a swap changed reads invalid until
it has; in MODE 0 there is nothing to settle. (DEDUCED, log entry 86.) -/
def State.fieldChange (s : State) (i : Nat) : State :=
  let t := if s.isLoaded then s.fieldPublish i false fNaN s.tim.dp else s
  if t.get (FIELD_CFG_MODE i) = 0 then (t.fieldSettle i).setReg (FIELD_AUX i) 0 else t.fieldSettle i

/-- The output period in ns (R202). -/
def fieldPeriod (rate : Nat) : Nat := 1000000000 / [10, 20, 50, 100, 200, 500, 1000].getD rate 1000

/-- The filter window of input `i` ends at site time `t` ns (R203). -/
def windowEnds (i rate t : Nat) : Bool :=
  let P := fieldPeriod rate
  let d := 100000 * i % P
  decide (d ≤ t) && decide ((t - d) % P = 0)

/-- The uncertainty of a value read (R201). (DEDUCED, DESIGN CHOICE, log entries 84, 165.) -/
def State.fieldSigma (s : State) (i : Nat) (m : Measure) : F32 :=
  let c := s.fieldCal i
  if s.get (FIELD_CFG_MODE i) = 6 then m.bound
  else if c.sigmaSet then c.sigma
  else fmul (fdiv m.bound (fofNat 3)) (fabs (s.reg (FIELD_SCALE i)))

/-- BROKEN is entered (R205). -/
def State.fieldBroken (s : State) (i : Nat) : State :=
  (((s.putB (FIELD_STATUS_BROKEN i) true).putB (FIELD_STATUS_BROKEN_SEEN i) true).setReg (FIELD_VALUE i)
    fNaN).fev7 0x7010 i (s.get (FIELD_CFG_MODE i)) (s.reg (FIELD_RAW i)).toNat

/-- TEMP_DEFAULT follows the source of T (R208). -/
def State.fieldTempSource (s : State) (i t : Nat) : State :=
  if s.get (FIELD_CFG_MODE i) ≠ 6 then s
  else
    let d := (s.dielTemp i t).2
    if s.on (FIELD_STATUS_TEMP_DEFAULT i) = d then s
    else (s.putB (FIELD_STATUS_TEMP_DEFAULT i) d).fev7 0x7014 i (if d then 1 else 0)
      (s.get (FIELD_CFG_TEMP_ENTRY i))

/-- A filter window ends at site time `t` ns (R203 to R205): after each sample the first row of R205 that
matches applies. (DEDUCED, log entry 86.) -/
def State.fieldSample (s : State) (i : Nat) (raw : Int) (y : List F32) (t : Nat) : State :=
  if !s.dpUp || s.get (FIELD_CFG_MODE i) = 0 || s.on (FIELD_STATUS_FENCED i) || s.on (FIELD_STATUS_TESTING i) ||
      !windowEnds i (s.get (FIELD_CFG_RATE i)) t then s
  else
    let a := s.fieldTempSource i t
    let m := a.measureField i raw y t
    let v := ffma (a.reg (FIELD_SCALE i)) m.q (a.reg (FIELD_OFFSET i))
    let b := (((a.inc (FIELD_STATUS_SAMPLES i)).setReg (FIELD_RAW i) m.rawShown).setReg (FIELD_STAMP i)
      (BitVec.ofNat 32 (t / 1000))).setReg (FIELD_AUX i) m.aux
    let x := b.fin i
    let was := b.on (FIELD_STATUS_BROKEN i)
    let run := if m.broken then 0 else min 3 (x.goodRun + 1)
    let c := b.setFin i { x with goodRun := run, settle := x.settle - 1 }
    let d := c.putB (FIELD_STATUS_SETTLING i) (decide (1 < x.settle))
    let e := if m.broken then (if was then d else d.fieldBroken i)
      else if was && decide (run = 3) then (d.putB (FIELD_STATUS_BROKEN i) false).fev7 0x7011 i else d
    let f := (e.putB (FIELD_STATUS_OVERRANGE i) (!m.broken && m.range)).setReg (FIELD_VALUE i)
      (if m.broken then fNaN else v)
    let valid := !m.broken && !m.range
    if x.settle ≠ 0 then f
    else
      let g := f.fieldPublish i valid (f.fieldSigma i m) t
      if valid then g.fieldForward i (g.fieldSigma i m) t else g

/-- Shunt current above 30 mA for 10 ms: the shunt opens (R205). -/
def State.shuntOverload (s : State) (i : Nat) : State :=
  if s.get (FIELD_CFG_MODE i) = 2 && !(s.fin i).shuntOpen then
    ((s.setFin i { s.fin i with shuntOpen := true }).putB (FIELD_STATUS_OVERLOAD i) true).fev7 0x7012 i
  else s

/-- 1 s after opening the shunt closes, and the input settles (R204, R205). -/
def State.shuntReclose (s : State) (i : Nat) : State :=
  if (s.fin i).shuntOpen then
    (s.setFin i { s.fin i with shuntOpen := false }).fieldSettle i
  else s

/-- A reference injection ends: the input settles, or is fenced (R206). -/
def State.fieldTested (s : State) (i : Nat) (lasting : Bool) : State :=
  let t := s.putB (FIELD_STATUS_TESTING i) false
  if lasting then
    ((((t.putB (FIELD_STATUS_FENCED i) true).fieldSettled i).setReg (FIELD_VALUE i) fNaN).fev7 0x7013 i).fieldPublish
      i false fNaN t.tim.dp
  else t.fieldSettle i

/-! ### Analog outputs (R210 to R213) -/

/-- The largest code of a mode. -/
def aoMax (mode : Nat) : Nat := if mode = 2 then 56320 else 64000

/-- Put a source, its slot and its code. -/
def State.aoPut (s : State) (n src slot code : Nat) : State :=
  ((s.put (AIO_AO_CODE_SOURCE n) src).put (AIO_AO_CODE_SLOT n) slot).put (AIO_AO_CODE_CODE n) code

/-- SAFE or the sluice holds the outputs until the next reset of the planes (R212). -/
def State.aoHeld (s : State) (n : Nat) : Bool := s.on (AIO_AO_STATUS_SAFE n)

/-- An output with no slot: idle (R212). -/
def State.aoIdle (s : State) (n : Nat) : State :=
  if s.aoHeld n then s
  else s.aoPut n 1 0 (if s.get (AIO_AO_CFG_MODE n) = 2 then 10240 else 0)

/-- Outputs that no source drives yet go idle once the planes are out of reset and what is to be loaded is
(R80, R212). -/
def State.aoStart (s : State) : State :=
  s.each (List.range 8) (fun t n => if t.get (AIO_AO_CODE_SOURCE n) = 0 then t.aoIdle n else t)

/-- Every output to SAFE_CODE (R212). -/
def State.aoSafe (s : State) : State :=
  s.each (List.range 8) (fun t n =>
    (t.aoPut n 3 0 (t.get (AIO_AO_CFG_SAFE_CODE n))).putB (AIO_AO_STATUS_SAFE n) true)

/-- The code of an engineering value: round to nearest with ties away, saturated; none for a NaN
(R211). -/
def aoCode (mode : Nat) (scale u offset : F32) : Option Nat :=
  let c := ffma scale u offset
  if fIsNaN u || fIsNaN c then none
  else if !fIsFinite c then some (if flt 0 c then aoMax mode else 0)
  else
    let x := fexact c
    if x.1 ≤ 0 then some 0
    else some (min (aoMax mode) ((2 * x.1.toNat + 2 ^ x.2) / (2 * 2 ^ x.2)))

/-- A slot writes an output value (R211, R212). -/
def State.aoSlot (s : State) (n slot : Nat) (u : F32) : State :=
  if s.aoHeld n then s
  else
    match aoCode (s.get (AIO_AO_CFG_MODE n)) (s.reg (AIO_AO_SCALE n)) u (s.reg (AIO_AO_OFFSET n)) with
    | some c => s.aoPut n 2 slot c
    | none => s.aoPut n 2 slot (s.get (AIO_AO_CODE_CODE n))

/-- The monitor ADC is fenced, or its reference injection runs (R213, R450). -/
def State.aoBlind (s : State) (n : Nat) : Bool :=
  decide (Element.aoMon (Fin.ofNat 8 n) ∈ s.rel.fenced) || s.testing (.aoMon (Fin.ofNat 8 n))

/-- A monitor sample: the read-back in V or mA (R213). -/
def State.aoMonitor (s : State) (n : Nat) (v : F32) : State :=
  ({ s with aoSeen := tset (fun _ => 0) s.aoSeen n (tget (fun _ => 0) s.aoSeen n + 1) }).setReg
    (AIO_AO_READBACK n) (if s.aoBlind n then fNaN else v)

/-- The condition of a fault: 1 DEVIATION, 2 OPEN_LOOP, 0 none (R213). -/
def State.aoCondition (s : State) (n : Nat) : Nat :=
  let rb := fexact (s.reg (AIO_AO_READBACK n))
  let code : Int := s.get (AIO_AO_CODE_CODE n)
  let q : Int := 2 ^ rb.2
  if !fIsFinite (s.reg (AIO_AO_READBACK n)) then 0
  else if s.get (AIO_AO_CFG_MODE n) = 1 then
    -- |rb - code · 156.25 µV| > 0.10 V
    if 640 * q < (6400 * rb.1 - code * q).natAbs then 1 else 0
  else if s.get (AIO_AO_CFG_MODE n) = 2 then
    -- rb < code/2560 mA - 0.20 mA
    if 2560 * rb.1 + 512 * q < code * q then 2 else 0
  else 0

def State.aoFaulted (s : State) (n : Nat) : Bool :=
  s.on (AIO_AO_STATUS_DEVIATION n) || s.on (AIO_AO_STATUS_OPEN_LOOP n)

/-- A condition has lasted 10 ms: the output enters a fault (R213). -/
def State.aoFaultEnter (s : State) (n : Nat) : State :=
  let c := s.aoCondition n
  if c = 0 ∨ s.aoFaulted n ∨ s.aoBlind n then s
  else
    let t := ((s.incSat (AIO_AO_STATUS_FAULT_COUNT n)).putB (AIO_AO_STATUS_FAULT_SEEN n) true)
    let u := if c = 1 then t.putB (AIO_AO_STATUS_DEVIATION n) true
      else t.putB (AIO_AO_STATUS_OPEN_LOOP n) true
    u.ev portAio 0x7020 n c (s.reg (AIO_AO_READBACK n)).toNat

/-- A fault clears with a record 0x7021 (R213). -/
def State.aoFaultOff (s : State) (n : Nat) : State :=
  if s.aoFaulted n then
    ((s.putB (AIO_AO_STATUS_DEVIATION n) false).putB (AIO_AO_STATUS_OPEN_LOOP n) false).ev portAio 0x7021
      n
  else s

/-- 100 ms have passed without the condition (R213). -/
def State.aoFaultClear (s : State) (n : Nat) : State := if s.aoCondition n = 0 then s.aoFaultOff n else s

/-- The monitor ADC is fenced: a fault in force clears (R213, R450). -/
def State.aoFence (s : State) (n : Nat) : State :=
  (s.aoFaultOff n).setReg (AIO_AO_READBACK n) fNaN

/-! ### Pulse inputs (R214, R215) -/

def State.pin (s : State) (n : Nat) : Pulse := tget (fun _ => {}) s.pulse n
def State.setPin (s : State) (n : Nat) (x : Pulse) : State :=
  { s with pulse := tset (fun _ => {}) s.pulse n x }

/-- ENABLE is newly 1: there is no edge yet (R215). -/
def State.pulseStart (s : State) (n : Nat) : State :=
  ((s.setPin n { overMinute := (s.pin n).overMinute }).setReg (AIO_PI_RATE n) 0).putB (AIO_PI_STATUS_STOPPED n) true

/-- A change to the level `high` that lasted `dur` units of 5 ns, at site time `at_` ns, stamped to 5 ns: a
glitch, which leaves the level before it accepted, or the accepted level changes, and an edge where it is of
the selected polarity (R50, R214, R215). (DEDUCED, log entry 145.) -/
def State.pulseEdge (s : State) (n : Nat) (high : Bool) (dur at_ : Nat) : State :=
  let x := s.pin n
  let t := at_ / 5 * 5
  if !s.on (AIO_PI_CFG_ENABLE n) || !(s.cpUp && s.isLoaded) || x.level = some high then s
  else if dur < 20 * s.get (AIO_PI_CFG_FILTER n) then
    (s.setPin n { x with level := some (!high) }).inc (AIO_PI_STATUS_GLITCHES n)
  else if s.on (AIO_PI_CFG_FALLING n) = high then s.setPin n { x with level := some high }
  else
    let gap := x.last.map (fun l => t - l)
    let fast := match gap with
      | some g => decide (g < 10000)
      | none => false
    let a := s.setPin n { x with
      edges := t :: x.edges, last := some t, interval := if gap.isSome then gap else x.interval,
      level := some high,
      overMinute := x.overMinute || fast }
    let b := (((a.inc (AIO_PI_COUNT_COUNT n)).setReg (AIO_PI_LAST_EDGE n)
      (BitVec.ofNat 32 (t / 1000))).putB (AIO_PI_STATUS_STOPPED n) false)
    if fast then b.putB (AIO_PI_STATUS_OVERRATE n) true else b

/-- RATE at tick T (R215): K times a count over a time in ns; none when the input is stopped. -/
def State.pulseRate (s : State) (n T : Nat) : Option F32 :=
  let x := s.pin n
  let K := s.reg (AIO_PI_KFACTOR n)
  match x.last with
  | none => none
  | some l =>
    if s.get (AIO_PI_CFG_TIMEOUT n) * 100000000 < T - l then none
    else
      let w := x.edges.filter (fun e => decide (T < e + s.get (AIO_PI_CFG_GATE n) * 10000000) &&
        decide (e ≤ T))
      match w, w.getLast? with
      | a :: _ :: _, some z => some (fmul K (fofRat ((w.length - 1) * 1000000000 : Nat) (a - z)))
      | _, _ =>
        let d := max (x.interval.getD 0) (T - l)
        some (if d = 0 then 0 else fmul K (fofRat 1000000000 d))

/-- Recompute RATE of one input at tick T. -/
def State.pulseUpdate (s : State) (T n : Nat) : State :=
  if !s.on (AIO_PI_CFG_ENABLE n) then s
  else
    let x := s.pin n
    let t := s.setPin n { x with edges := x.edges.filter (fun e => decide (T < e + 2550000000)) }
    match s.pulseRate n T with
    | some r => t.setReg (AIO_PI_RATE n) r
    | none => (t.setReg (AIO_PI_RATE n) 0).putB (AIO_PI_STATUS_STOPPED n) true

/-- No edge within TIMEOUT (R215). -/
def State.pulseTimeout (s : State) (n : Nat) : State :=
  let late := match (s.pin n).last with
    | some l => decide (s.get (AIO_PI_CFG_TIMEOUT n) * 100000000 < s.tim.cp - l)
    | none => true
  if s.on (AIO_PI_CFG_ENABLE n) && late then
    (s.setReg (AIO_PI_RATE n) 0).putB (AIO_PI_STATUS_STOPPED n) true
  else s

/-- The minute's record of OVERRATE. -/
def State.pulseMinute (s : State) (n : Nat) : State :=
  let x := s.pin n
  if x.overMinute then
    (s.setPin n { x with overMinute := false }).ev portAio 0x7030 n (s.get (AIO_PI_STATUS_GLITCHES n))
  else s

end Sys2Proof.Machine
end

