-- ==== Sys2Proof/Machine/TimeOps.lean ====
section
/-! DEFINITION. Site time: broadcast, GNSS input, states, steps and sets, marks, PTP and PPS_OUT (R152
to R171). -/

namespace Sys2Proof.Machine

open Reg

/-- STATE codes of the time unit (R155). -/
def tFree : Nat := 0
def tAcquire : Nat := 1
def tLocked : Nat := 2
def tHoldover : Nat := 3

def State.tstate (s : State) : Nat := s.get TIME_STATUS_STATE

/-- The time mark; the sample of site time is taken as the record enters the pond (R168). -/
def State.timeMark (s : State) : State :=
  if !s.mpUp then s
  else s.ev portTime 0x9002 s.markSample.1 s.markSample.2 (s.tstate * 256 + s.get TIME_STATUS_CLOCK_CLASS)

/-- Enter a state: clockClass and timeSource of R155, and a mark when the state changes. -/
def State.timeEnter (s : State) (n : Nat) : State :=
  let cls := if n = tLocked then 6 else if n = tHoldover then 7
    else if n = tAcquire ∧ s.tstate = tHoldover then 7 else 248
  let src := if n = tFree then (if s.tim.hostSet then 0x60 else 0xA0)
    else if n = tAcquire then s.get TIME_STATUS_TIME_SOURCE else 0x20
  let t := ((s.put TIME_STATUS_STATE n).put TIME_STATUS_CLOCK_CLASS cls).put TIME_STATUS_TIME_SOURCE src
  let u := { t with tim := { t.tim with
    prev := if n = tAcquire then s.tstate else t.tim.prev, validRun := 0, goodRun := 0 } }
  if s.tstate = n then u else u.timeMark

/-- The trims that the last 60 s saw: those younger and one older. -/
def trimsCut (now : Nat) : List (Nat × Int) → List (Nat × Int)
  | [] => []
  | p :: t => if now < p.1 + 60000000 then p :: trimsCut now t else [p]

/-- The root trim takes a value, 0.01 ppm, within ±100 ppm (R162). -/
def State.setTrim (s : State) (v : Int) : State :=
  let w := clampI (-10000) 10000 v
  { s.put TIME_SERVO_TRIM (ofSigned 16 w) with
    tim := { s.tim with trims := (s.tim.mono, w) :: trimsCut s.tim.mono s.tim.trims } }

/-- What a running slew adds to the trim: 50 ppm in its direction (R162, R163). (DESIGN CHOICE, log entry 67.) -/
def slewTrim (ns : Int) : Int := if 0 < ns then 5000 else if ns < 0 then -5000 else 0

/-- The phase to slew (R162, R163). -/
def State.slewBy (s : State) (ns : Int) : State :=
  let t := State.putB { s with tim := { s.tim with slew := ns } } TIME_STATUS_SLEWING (decide (ns ≠ 0))
  t.setTrim (t.tim.freq + slewTrim ns)

/-- Sum of trim times running time, and that time, over the trims from `b` to `e`, newest first. -/
def trimSum (b : Nat) : Nat → List (Nat × Int) → Int × Nat
  | _, [] => (0, 0)
  | e, p :: t =>
    let r := if p.1 ≤ b then (0, 0) else trimSum b p.1 t
    (p.2 * ((e - max p.1 b : Nat) : Int) + r.1, (e - max p.1 b) + r.2)

/-- GNSS is lost: the phase servo stops, and in HOLDOVER the root keeps the trim averaged over the 60 s
before the loss; the last digit of the average is open (R156). (DESIGN CHOICE, log entries 25, 67.) -/
def State.servoHold (s : State) : State :=
  let q := trimSum (s.tim.mono - 60000000) s.tim.mono s.tim.trims
  let avg := if q.2 = 0 then toSigned 16 (s.get TIME_SERVO_TRIM)
    else q.1 / (q.2 : Int) + (if q.1 % (q.2 : Int) = 0 then 0 else ((s.free 1).toNat : Int))
  State.slewBy { s.took with tim := { s.tim with freq := avg } } 0

/-- An offset in ns as whole milliseconds, to nearest, ties away from zero. -/
def roundMs (off : Int) : Int :=
  if 0 ≤ off then (off + 500000) / 1000000 else -((-off + 500000) / 1000000)

/-- A step is decided and the remainder slewed (R163, R164); it replaces what was pending. -/
def State.stepDecide (s : State) (off : Int) : State :=
  let n := roundMs off
  State.slewBy { s with tim := { s.tim with step := if n = 0 then none else some n, stepFrom := s.tim.site } }
    (off - n * 1000000)

/-- An offset found at a valid GNSS second in ACQUIRE or LOCKED (R163). (DESIGN CHOICE, log entry 68.) -/
def State.offsetFound (s : State) (off : Int) : State :=
  if 1000000 ≤ off.natAbs ∧ (!s.tim.locked1 || s.on TIME_CFG_AUTO_STEP) then s.stepDecide off
  else s.slewBy off

/-- The servo corrects frequency with the first 50 ppm of the trim range; the spec gives no law for it
(R162). (DESIGN CHOICE, log entry 67.) -/
def State.servoTrim (s : State) : State :=
  let f := clampI (-5000) 5000 (s.free 16).toInt
  State.setTrim { s.took with tim := { s.tim with freq := f } } (f + slewTrim s.tim.slew)

/-- A valid second is noted: PHASE_ERR shows its offset, and its operating time is kept (R156, R162).
(DESIGN CHOICE, log entry 68.) -/
def State.gnssStamp (s : State) (off : Int) : State :=
  { s.put TIME_SERVO_PHASE_ERR (ofSigned 16 (clampI (-32767) 32767 off)) with
    tim := { s.tim with lastValid := s.optime } }

/-- A valid GNSS second with its offset: labelled time less site time of the edge, in ns (R155, R159,
R162). -/
def State.gnssSecond (s : State) (off : Int) : State :=
  let a := s.gnssStamp off
  if !a.on TIME_CFG_SOURCE_GNSS then a
  else if a.tstate = tFree ∨ a.tstate = tHoldover then
    let n := a.tim.validRun + 1
    if n < 3 then { a with tim := { a.tim with validRun := n } }
    else ((a.timeEnter tAcquire).offsetFound off).servoTrim
  else
    let b := (a.offsetFound off).servoTrim
    if b.tstate = tAcquire then
      let g := if off.natAbs < 100 then b.tim.goodRun + 1 else 0
      let c := { b with tim := { b.tim with goodRun := g } }
      if 60 ≤ g ∧ c.tim.step = none then
        let d := c.timeEnter tLocked
        { d with tim := { d.tim with locked1 := true } }
      else c
    else b

/-! ### PPS and NMEA (R157 to R161) -/

/-- A PPS_IN edge stamped at site time `t` ns; `falling` is its direction.  In reset and in the boot the
input is ignored.  A valid edge that comes before the last one had a label ends a run of valid seconds
(R50, R155, R157, R159). -/
def State.ppsEdge (s : State) (falling : Bool) (t : Nat) : State :=
  if !s.isLoaded || (s.on TIME_GNSS_CFG_PPS_FALLING != falling) then s
  else
    let e := t - s.get TIME_GNSS_CFG_PPS_DELAY_NS
    let good := match s.tim.edge with
      | none => true
      | some p => decide (p + 999800000 ≤ e ∧ e ≤ p + 1000200000)
    let a := s.putB TIME_STATUS_PPS_OK good
    let missed := a.tim.edgeFresh
    if good then
      { a with tim := { a.tim with
        edge := some e, edgeFresh := true, validRun := if missed then 0 else a.tim.validRun
        goodRun := if missed then 0 else a.tim.goodRun } }
    else a

/-- Split at commas. -/
def fieldsOf : List Byte → List Byte → List (List Byte)
  | [], cur => [cur.reverse]
  | c :: t, cur => if c = 44 then cur.reverse :: fieldsOf t [] else fieldsOf t (c :: cur)

/-- A decimal number of digits only. -/
def decOf (l : List Byte) : Option Nat :=
  if l = [] then none
  else l.foldl (fun a c => match a with
    | none => none
    | some n => if 48 ≤ c.toNat ∧ c.toNat ≤ 57 then some (10 * n + (c.toNat - 48)) else none) (some 0)

/-- A hexadecimal digit. -/
def hexOf (c : Byte) : Option Nat :=
  let n := c.toNat
  if 48 ≤ n ∧ n ≤ 57 then some (n - 48) else if 65 ≤ n ∧ n ≤ 70 then some (n - 55)
  else if 97 ≤ n ∧ n ≤ 102 then some (n - 87) else none

/-- The body of a sentence, and whether its checksum is right: "$", body, "*", two hexadecimal
digits (R158). -/
def nmeaBody (text : List Byte) : Option (List Byte × Bool) :=
  match text with
  | c :: t =>
    if c ≠ 36 then none
    else
      let body := t.takeWhile (fun x => x != 42)
      match t.drop body.length with
      | _ :: h :: l :: _ =>
        match hexOf h, hexOf l with
        | some a, some b =>
          some (body, decide (body.foldl (fun x y => x ^^^ y) (0 : Byte) = BitVec.ofNat 8 (16 * a + b)))
        | _, _ => some (body, false)
      | _ => some (body, false)
  | [] => none

/-- Days from 1970-01-01 of a civil date. -/
def daysOf (y m d : Nat) : Nat :=
  let y' := if m ≤ 2 then y - 1 else y
  let mp := if m ≤ 2 then m + 9 else m - 3
  365 * y' + y' / 4 - y' / 100 + y' / 400 + (153 * mp + 2) / 5 + d - 1 - 719468

/-- A decimal fraction of a second behind its point, in ns; no fraction is 0. -/
def fracOf : List Byte → Option Nat
  | [] => some 0
  | c :: t =>
    if c ≠ 46 then none else if t = [] then some 0
    else match decOf t with
      | some _ => decOf ((t ++ List.replicate 9 48).take 9)
      | none => none

/-- UTC time of day in ns, its fraction included, with 86,400 s for 23:59:60. -/
def todOf (l : List Byte) : Option Nat :=
  match decOf (l.take 2), decOf ((l.drop 2).take 2), decOf ((l.drop 4).take 2), fracOf (l.drop 6) with
  | some h, some m, some x, some f =>
    if h < 24 ∧ m < 60 ∧ (x < 60 ∨ (x = 60 ∧ h = 23 ∧ m = 59)) then
      some ((3600 * h + 60 * m + x) * 1000000000 + f)
    else none
  | _, _, _, _ => none

/-- The day of a civil date, none when month or day is out of range. -/
def dayOf (y m d : Nat) : Option Nat :=
  if 1 ≤ m ∧ m ≤ 12 ∧ 1 ≤ d ∧ d ≤ 31 then some (daysOf y m d) else none

/-- What a sentence says: not used; used but malformed; day, and time of day in ns (R158). -/
inductive Nmea where
  | ignored
  | bad
  | utc (day tod : Nat)
deriving DecidableEq, Repr

/-- Read a ZDA or an RMC sentence with status A. (PRESUMED, log entry 69.) -/
def nmeaOf (text : List Byte) : Nmea :=
  match nmeaBody text with
  | none => .ignored
  | some (body, good) =>
    let f := fieldsOf body []
    let g (n : Nat) : List Byte := f.getD n []
    let kind := (g 0).drop 2
    if kind = [90, 68, 65] then
      if !good then .bad
      else match todOf (g 1), decOf (g 2), decOf (g 3), decOf (g 4) with
        | some t, some d, some m, some y => (match dayOf y m d with
          | some n => .utc n t
          | none => .bad)
        | _, _, _, _ => .bad
    else if kind = [82, 77, 67] then
      if g 2 ≠ [65] then .ignored
      else if !good then .bad
      else match todOf (g 1), decOf ((g 9).take 2), decOf (((g 9).drop 2).take 2),
          decOf (((g 9).drop 4).take 2) with
        | some t, some d, some m, some y => (match dayOf (2000 + y) m d with
          | some n => .utc n t
          | none => .bad)
        | _, _, _, _ => .bad
    else .ignored

/-- The time of day expected 1 s after `tod`, both in ns, with the leap bits (R158, R161). -/
def State.nextTod (s : State) (tod : Nat) : Nat :=
  let x := secOf tod
  let n := if x = 86399 ∧ s.on TIME_UTC_LEAP61 then 86400
    else if x = 86398 ∧ s.on TIME_UTC_LEAP59 then 0
    else if 86399 ≤ x then 0 else x + 1
  n * 1000000000 + nsOf tod

/-- A leap second is applied: `d` is +1 or -1 (R161). -/
def State.leapApply (s : State) (d : Int) : State :=
  let n := toSigned 16 (s.get TIME_UTC_OFFSET_S) + d
  (((s.put TIME_UTC_OFFSET_S (ofSigned 16 n)).putB TIME_UTC_LEAP61 false).putB TIME_UTC_LEAP59 false).ev
    portTime 0x9008 (par n) (par d)

/-- An invalid sentence is counted (R159). -/
def State.nmeaBad (s : State) : State :=
  { s.putB TIME_STATUS_MSG_OK false with tim := { s.tim with badMinute := s.tim.badMinute + 1 } }

/-- A sentence that ended at site time `t` ns; TIME_RX is ignored in reset and in the boot (R50, R158 to
R163). -/
def State.nmeaSentence (s : State) (text : List Byte) (t : Nat) : State :=
  if !s.isLoaded then s
  else match nmeaOf text with
  | .ignored => s
  | .bad => s.nmeaBad
  | .utc day tod =>
    match s.tim.edge with
    | none => s.nmeaBad
    | some e =>
      let inTime := decide (e + 10000000 ≤ t ∧ t ≤ e + 900000000)
      let seqOk := match s.tim.utc with
        | none => true
        | some p => decide (tod = s.nextTod p)
      let leapOk := decide (secOf tod ≠ 86400) || s.on TIME_UTC_LEAP61
      if !(inTime && seqOk && leapOk) then s.nmeaBad
      else
        let skip := (s.tim.utc.map secOf) == some 86398 && decide (secOf tod = 0)
        let a := if skip then s.leapApply (-1) else s
        let label : Int := (day * 86400000000000 + tod : Nat) + toSigned 16 (a.get TIME_UTC_OFFSET_S) * 1000000000
        let b := { a.putB TIME_STATUS_MSG_OK true with tim := { a.tim with utc := some tod } }
        let c := if secOf tod = 86400 then b.leapApply 1 else b
        if c.tim.edgeFresh then
          ({ c with tim := { c.tim with edgeFresh := false } }).gnssSecond (label - e)
        else c

/-- GNSS is lost (R155, R156). -/
def State.gnssLost (s : State) : State :=
  let a := { (s.putB TIME_STATUS_PPS_OK false).putB TIME_STATUS_MSG_OK false with
    tim := { s.tim with edge := none, utc := none, edgeFresh := false, validRun := 0 } }
  if a.tstate = tAcquire then
    (if a.tim.prev = tHoldover then a.servoHold.timeEnter tHoldover else a.timeEnter a.tim.prev)
  else if a.tstate = tLocked then a.servoHold.timeEnter tHoldover
  else a

def State.holdoverExpire (s : State) : State :=
  if s.tstate = tHoldover then s.timeEnter tFree else s

/-- The minute's record of invalid sentences (R159). -/
def State.gnssMinute (s : State) : State :=
  if s.tim.badMinute = 0 then s
  else { s.ev portTime 0x9007 s.tim.badMinute with
    tim := { s.tim with badMinute := 0 } }

/-- 60 s with neither a valid edge nor a valid sentence: nGNSS_RST low, at most once in 10 minutes
(R160). (DESIGN CHOICE, log entry 143.) -/
def State.gnssReset (s : State) : State :=
  let recent := match s.tim.lastRst with
    | none => false
    | some t => decide (s.optime < t + 600 * 1024)
  if !s.isLoaded || !s.on TIME_CFG_SOURCE_GNSS || s.tim.rstLow || recent then s
  else
    let a := s.ev portTime 0x9009 ((s.optime - s.tim.lastValid) / 1024)
    ({ a with tim := { a.tim with rstLow := true, lastRst := some s.optime } }).send (.pin "nGNSS_RST" false)

def State.gnssRelease (s : State) : State :=
  if s.tim.rstLow then
    ({ s with tim := { s.tim with rstLow := false } }).send (.pin "nGNSS_RST" true)
  else s

/-- The set-up text on TIME_TX; TIME_TX stays high until the caddy has loaded, and the receiver must be out
of its reset (R50, R160). -/
def State.gnssSetup (s : State) : State :=
  if s.isLoaded && !s.tim.rstLow then s.send (.serial s.tim.setup) else s

/-! ### Steps and sets (R163 to R166) -/

/-- Move a time by a signed number of ns. (DESIGN CHOICE, log entry 23.) -/
def shiftNs (t : Nat) (d : Int) : Nat := ((t : Int) + d).toNat

/-- The validity times of the entries `n`, `n + 1`, … of a bank move by `d` ticks, `k` entries.
(DEDUCED, log entry 70.) -/
def shiftFrom (d : Int) : Nat → Nat → List (Nat × Word) → List (Nat × Word)
  | 0, _, l => l
  | k + 1, n, l =>
    let here := l.takeWhile (fun e => decide (e.1 < 4 * n + 3))
    let v : Word := BitVec.ofNat 32 (ofSigned 32 ((tget (fun _ => (0 : Word)) here (4 * n + 2)).toNat + d))
    here.filter (fun e => decide (e.1 < 4 * n + 2)) ++ (if v = 0 then [] else [(4 * n + 2, v)]) ++
      shiftFrom d k (n + 1) (l.dropWhile (fun e => decide (e.1 < 4 * n + 3)))

/-- The validity time of every entry of a bank moves by `d` ticks; the reserved entries read as invalid
(R25, R165). (DEDUCED, log entry 70.) -/
def shiftBank (bank : List (Nat × Word)) (d : Int) : List (Nat × Word) := shiftFrom d 1014 0 bank

/-- Labels of the Millstone move with a step (R165). (DEDUCED, log entry 70.) -/
def Body.shift (b : Body) (ms : Int) : Body :=
  let rd (r : Reading) : Reading := { r with stamp := shiftNs r.stamp (ms * 1000000) }
  { b with
    tm := shiftNs b.tm ms, ready := b.ready.map (fun (p : Nat × List (Nat × Word)) => (shiftNs p.1 ms, p.2)),
    nextSolve := shiftNs b.nextSolve ms, firm := shiftNs b.firm ms,
    solvedAt := shiftNs b.solvedAt ms, resolveTe := b.resolveTe.map (shiftNs · ms),
    rollTo := b.rollTo.map (shiftNs · ms),
    rollSteps := b.rollSteps.map (fun p => { p with te := shiftNs p.te ms, readings := p.readings.map rd }),
    readings := b.readings.map rd, late := b.late.map rd,
    lastStamp := b.lastStamp.map (fun (p : Nat × Nat) => (p.1, shiftNs p.2 (ms * 1000000))),
    stoppedAt := shiftNs b.stoppedAt (ms * 1000000), startedAt := shiftNs b.startedAt (ms * 1000000),
    heldAt := shiftNs b.heldAt (ms * 1000000),
    run := b.run.map (fun r => { r with
      te := shiftNs r.te ms, began := shiftNs r.began (ms * 1000000), recorded := r.recorded.map rd }),
    ring := b.ring.map (fun d => { d with
      te := shiftNs d.te ms, prev := shiftNs d.prev ms, readings := d.readings.map rd }) }

/-- What a slot last saw of its sources moves with the validity times (R165). (DEDUCED, log entry 70.) -/
def Slot.shift (x : Slot) (ticks : Int) : Slot :=
  { x with marks := x.marks.map (fun (p : Nat × Mark) =>
      (p.1, { p.2 with vtime := BitVec.ofNat 32 (ofSigned 32 (p.2.vtime.toNat + ticks)) })) }

/-- As `Slot.shift`, for a fan's loop and its measurement window. (DEDUCED, log entry 70.) -/
def Fan.shift (x : Fan) (ms : Int) : Fan :=
  { x with
    edges := x.edges.map (shiftNs · (ms * 1000))
    vtime := BitVec.ofNat 32 (ofSigned 32 (x.vtime.toNat + 10 * ms)) }

/-- The next cycle of a port starts at the next whole multiple of its period (R183, R196); `start` counts
from the running cycle's start. -/
def State.sprinGrid (s : State) (p : Nat) : State :=
  let x := tget (fun _ => ({} : SprinPort)) s.sprin p
  let per := max 1 (s.get (SPRIN_CFG_PERIOD_MS p)) * 1000000
  { s with sprin := tset (fun _ => {}) s.sprin p { x with limit := (s.tim.dp / per + 1) * per - x.start } }

/-- A decided step takes effect in every plane, at the first 1 ms boundary that is at least 1 ms after the
decision (R165, R166). (DEDUCED, log entry 70.) -/
def State.timeStep (s : State) : State :=
  match s.tim.step with
  | none => s
  | some n =>
    if s.tim.site % 1000000 ≠ 0 ∨ s.tim.site < s.tim.stepFrom + 1000000 then s
    else
    let d := n * 1000000
    let old := s.tim.site
    let new := shiftNs old d
    let a := { s with
      tim := { s.tim with
        site := new, cp := shiftNs s.tim.cp d, dp := shiftNs s.tim.dp d, mp := shiftNs s.tim.mp d,
        aon := shiftNs s.tim.aon d, step := none, edge := s.tim.edge.map (shiftNs · d),
        tepoch := (s.tim.tepoch + 1) % 256, steps := (n :: s.tim.steps).take 3 }
      est := { s.est with front := shiftBank s.est.front (10 * n), back := shiftBank s.est.back (10 * n) }
      mill := { s.mill with
        bodies := s.mill.bodies.map (fun (p : Nat × Body) => (p.1, p.2.shift n))
        forecasts := s.mill.forecasts.map (fun (p : Nat × FcRun) => (p.1, { p.2 with tm := shiftNs p.2.tm n }))
        inbox := s.mill.inbox.map (fun (r : Reading) => { r with stamp := shiftNs r.stamp d })
        snapGot := s.mill.snapGot.map (fun (p : Nat × (Nat × List Byte × List (Nat × Cell))) => (p.1, (shiftNs p.2.1 n, p.2.2))) }
      sprin := s.sprin.map (fun (p : Nat × SprinPort) => (p.1, { p.2 with start := shiftNs p.2.start d }))
      gov := s.gov.map (fun (p : Nat × Slot) => (p.1, p.2.shift (10 * n)))
      pulse := s.pulse.map (fun (p : Nat × Pulse) => (p.1, { p.2 with
        edges := p.2.edges.map (shiftNs · d), last := p.2.last.map (shiftNs · d) }))
      fans := (List.range 16).foldl (fun t f =>
        tset (fun _ => ({} : Fan)) t f ((tget (fun _ => ({} : Fan)) t f).shift n)) s.fans }
    let a := a.each (List.range 24) State.sprinGrid
    (a.putB TIME_STATUS_STEPPED true).ev portTime 0x9001 (secOf old) (secOf new)
      (par (clampI (-2147483647) 2147483647 n))

/-- The phase slew is done: the trim goes back to its frequency part (R162, R163). -/
def State.slewDone (s : State) : State := if s.tim.slew = 0 then s else s.slewBy 0

/-- A set is refused while GNSS holds the time (R164). -/
def State.setRefused (s : State) : Bool := s.on TIME_CFG_SOURCE_GNSS && s.tstate != tFree

/-- An accepted set: the time `target` applied to the moment `at` (R164). -/
def State.timeSet (s : State) (target now : Nat) : State :=
  let a := { s with tim := { s.tim with hostSet := true } }
  (a.put TIME_STATUS_TIME_SOURCE 0x60).stepDecide ((target : Int) - now)

/-- The time the TIME_SET registers hold, ns. -/
def State.setTarget (s : State) : Nat :=
  ((s.reg TIME_SET_SEC_LO).toNat + s.get TIME_SET_SEC_HI_SEC_HI * 2 ^ 32) * 1000000000 +
    s.get TIME_SET_NS_NS

/-! ### Distribution (R32, R153, R165, R171) -/

/-- Full site time at a 1 ms boundary: the local copies of the running planes and of the always-on
block are reloaded (R32). -/
def State.timeBroadcast (s : State) : State :=
  let t := s.tim
  { s with tim := { t with
      cp := if s.cpUp then t.site else t.cp, dp := if s.dpUp then t.site else t.dp,
      mp := if s.mpUp then t.site else t.mp, aon := if s.mpUp then t.site else t.aon } }

/-- PPS_OUT falls 100 ms after it rose (R171). -/
def State.ppsFall (s : State) : State :=
  if s.tim.ppsHigh && decide (s.tim.lastPps.getD 0 + 100000 ≤ s.tim.mono) then
    State.send { s with tim := { s.tim with ppsHigh := false } } (.pin "PPS_OUT" false)
  else s

/-- The next tick: site time reaches its next multiple of 100 µs, and every running copy goes on as far
(R32, R153). (DEDUCED, log entry 8.) -/
def State.timeTick (s : State) : State :=
  let t := s.tim
  let d := 100000 - t.site % 100000
  State.ppsFall { s with tim := { t with
      site := t.site + d, cp := if s.cpUp then t.cp + d else t.cp,
      dp := if s.dpUp then t.dp + d else t.dp, mp := if s.mpUp then t.mp + d else t.mp,
      aon := t.aon + d, mono := t.mono + 100 } }

/-- What REF_OUT carries: 10 MHz or 25 MHz, 0 for nothing (R171). -/
def State.refOut (s : State) : Nat :=
  if !s.on TIME_CFG_REF_OUT_EN then 0 else if s.on TIME_CFG_REF_OUT_25M then 25000000 else 10000000

/-- PPS_OUT rises, unless a step made it follow the last edge by less than 500 ms; it is low until the
caddy has loaded (R50, R165, R171). -/
def State.ppsOut (s : State) : State :=
  let soon := match s.tim.lastPps with
    | none => false
    | some m => decide (s.tim.mono < m + 500000)
  if !s.isLoaded || !s.on TIME_CFG_PPS_OUT_EN || soon then s
  else State.send { s with tim := { s.tim with lastPps := some s.tim.mono, ppsHigh := true } } (.pin "PPS_OUT" true)

/-! ### PTP (R169, R170) -/

def ptpMaster : Nat := 6
def ptpPassive : Nat := 7

def State.ptpPort (s : State) (n : Nat) : PtpPort := tget (fun _ => {}) s.tim.ptp n
def State.setPtp (s : State) (n : Nat) (p : PtpPort) : State :=
  { s with tim := { s.tim with ptp := tset (fun _ => {}) s.tim.ptp n p } }

/-- The port runs: enabled, with the firmware of a caddy, which bare mode has none of, and no restart of it in
progress (R94, R98, R170). (DESIGN CHOICE, log entry 71.) -/
def State.ptpRuns (s : State) (n : Nat) : Bool :=
  s.isLoaded && s.on (TIME_PTP_CFG_ENABLE n) && !s.caddy.fwRestart

/-- clockAccuracy (R155). -/
def State.clockAccuracy (s : State) : Nat := if s.tstate = tLocked then 0x21 else 0xFE

/-- The clock identity: the EUI-64 of the module's MAC address. (PRESUMED, log entry 64.) -/
def State.clockIdentity (s : State) : Nat :=
  s.nv.mac / 2 ^ 24 * 2 ^ 40 + 0xFFFE * 2 ^ 24 + s.nv.mac % 2 ^ 24

/-- The dataset a port announces, in the order the best master algorithm compares it (R169). -/
def State.ptpDataset (s : State) (n : Nat) : List Nat :=
  [s.get (TIME_PTP_CFG_PRIORITY1 n), s.get TIME_STATUS_CLOCK_CLASS, s.clockAccuracy, 0xFFFF,
    s.get (TIME_PTP_CFG_PRIORITY2 n), s.clockIdentity]

/-- A message of a port: transport, domain, type, sequence; its log interval is 0 but for Announce
(R169). -/
def State.ptpMsg (s : State) (n msgType seq : Nat) : PtpMsg :=
  { port := n, l2 := s.on (TIME_PTP_CFG_L2 n), domain := s.get (TIME_PTP_CFG_DOMAIN n), msgType := msgType, seq := seq }

/-- Announce (R169). (DESIGN CHOICE, log entry 72.) -/
def State.ptpAnnounce (s : State) (n : Nat) : State :=
  if !s.ptpRuns n || s.get (TIME_PTP_STATUS_PORT_STATE n) = ptpPassive then s
  else
    let p := s.ptpPort n
    let t := (s.setPtp n { p with annSeq := (p.annSeq + 1) % 65536 }).put (TIME_PTP_STATUS_PORT_STATE n)
      ptpMaster
    t.send (.ptp { s.ptpMsg n 0xB p.annSeq with
      timescale := true, interval := 1
      body := s.get TIME_UTC_OFFSET_S :: s.get TIME_STATUS_TIME_SOURCE :: s.ptpDataset n })

/-- Sync and Follow_Up with the site time of the Sync (R169, R170). (DESIGN CHOICE, log entry 72.) -/
def State.ptpSync (s : State) (n : Nat) : State :=
  if !s.ptpRuns n || s.get (TIME_PTP_STATUS_PORT_STATE n) ≠ ptpMaster then s
  else
    let p := s.ptpPort n
    let t := s.setPtp n { p with syncSeq := (p.syncSeq + 1) % 65536 }
    (t.send (.ptp { s.ptpMsg n 0x0 p.syncSeq with twoStep := true })).send
      (.ptp { s.ptpMsg n 0x8 p.syncSeq with body := [secOf s.tim.site, nsOf s.tim.site] })

/-- A Delay_Req received at site time `t` is answered (R169). -/
def State.ptpDelayReq (s : State) (n seq t : Nat) : State :=
  if !s.ptpRuns n || s.get (TIME_PTP_STATUS_PORT_STATE n) ≠ ptpMaster then s
  else (s.inc (TIME_PTP_STATUS_DELAY_RESP n)).send
    (.ptp { s.ptpMsg n 0x9 seq with body := [secOf t, nsOf t] })

/-- One list comes before another: the first number that differs decides. -/
def lexLess : List Nat → List Nat → Bool
  | a :: x, b :: y => decide (a < b) || (decide (a = b) && lexLess x y)
  | _, _ => false

/-- A foreign Announce of the port's domain; one that ranks above the module makes the port PASSIVE
(R170). (DESIGN CHOICE, log entry 71.) -/
def State.ptpForeign (s : State) (n domain : Nat) (ds : List Nat) : State :=
  if !s.ptpRuns n || domain ≠ s.get (TIME_PTP_CFG_DOMAIN n) || !lexLess ds (s.ptpDataset n) then s
  else if s.get (TIME_PTP_STATUS_PORT_STATE n) = ptpPassive then s
  else (s.put (TIME_PTP_STATUS_PORT_STATE n) ptpPassive).ev portTime 0x9006 n (ds.getD 1 0)

/-- The state of a port whose ENABLE the caddy has settled: DISABLED, or INITIALIZING until it announces.
(DESIGN CHOICE, log entry 71.) -/
def State.ptpSet (s : State) (n : Nat) : State :=
  s.put (TIME_PTP_STATUS_PORT_STATE n) (if s.on (TIME_PTP_CFG_ENABLE n) then 1 else 3)

/-- Three announce intervals without it: MASTER again (R170). -/
def State.ptpTimeout (s : State) (n : Nat) : State :=
  if s.get (TIME_PTP_STATUS_PORT_STATE n) = ptpPassive then
    s.put (TIME_PTP_STATUS_PORT_STATE n) ptpMaster
  else s

end Sys2Proof.Machine
end

