-- ==== Sys2Proof/Machine/SprinOps.lean ====
section
/-! DEFINITION. The Sprinline master: frames, cycles, polls, alarms, enumeration, delay measurement,
cable supply and port states (R172 to R197). -/

namespace Sys2Proof.Machine

open Reg

/-- STATE codes of R195. -/
def pOff : Nat := 0
def pNoVcab : Nat := 1
def pPowering : Nat := 2
def pEnum : Nat := 3
def pRun : Nat := 4
def pTripped : Nat := 5
def pStuck : Nat := 6
def pFaulted : Nat := 7
def pTest : Nat := 8

def State.pst (s : State) (p : Nat) : Nat := s.get (SPRIN_STATUS_STATE p)
def State.port (s : State) (p : Nat) : SprinPort := tget (fun _ => {}) s.sprin p
def State.setPort (s : State) (p : Nat) (x : SprinPort) : State :=
  { s with sprin := tset (fun _ => {}) s.sprin p x }
def State.setPst (s : State) (p n : Nat) : State := s.put (SPRIN_STATUS_STATE p) n
def State.pev (s : State) (p code : Nat) (p1 : Nat := 0) (p2 : Nat := 0) : State :=
  s.ev portSprin code p p1 p2

def SprinPort.node (x : SprinPort) (a : Nat) : SprinNode := tget (fun _ => {}) x.nodes a
def SprinPort.setNode (x : SprinPort) (a : Nat) (n : SprinNode) : SprinPort :=
  { x with nodes := tset (fun _ => {}) x.nodes a n }

/-- Nodes of a state in the table. -/
def SprinPort.count (x : SprinPort) (st : Nat) : Nat := (x.nodes.filter (fun e => e.2.state = st)).length

/-- Put a node and show the PRESENT and MISSING counts. -/
def State.setNode (s : State) (p a : Nat) (n : SprinNode) : State :=
  let x := (s.port p).setNode a n
  ((s.setPort p x).put (SPRIN_STATUS_PRESENT p) (x.count 1)).put (SPRIN_STATUS_MISSING p) (x.count 2)

/-- The supply is on: POWERING, ENUM, RUN, or TEST entered from one of them (R195). -/
def State.supplyOn (s : State) (p : Nat) : Bool :=
  let on (n : Nat) : Bool := n = pPowering || n = pEnum || n = pRun
  (on (s.pst p) || (s.pst p = pTest && on (s.port p).prev)) && !(s.port p).cycling

/-! ### Frames (R175 to R179) -/

/-- Length in ns of a frame with `n` payload bytes (R175). -/
def frameNs (n : Nat) : Nat := (65 + 8 * n) * 160

/-- A whole frame: preamble, delimiter, header, payload, CRC (R175, R176). -/
def sprinFrame (type addr : Nat) (payload : List Byte) : List Byte :=
  let h := [BitVec.ofNat 8 type, BitVec.ofNat 8 addr, BitVec.ofNat 8 payload.length] ++ payload
  [0x55, 0x55, 0xD5] ++ h ++ leBytes 2 (crc16 h)

/-- The half-bits of a byte, least significant bit first: 1 is L then H, 0 is H then L (R174). -/
def manchester (b : Byte) : List Bool :=
  (List.range 8).flatMap (fun i => if b.getLsbD i then [false, true] else [true, false])

/-- A frame on the line: Manchester bits, then the end delimiter, one bit time at the level of the last
half-bit (R174, R175). -/
def sprinLine (f : List Byte) : List Bool :=
  let l := f.flatMap manchester
  l ++ List.replicate 2 (l.getLastD true)

/-- The bits of a line up to the end delimiter; none where a bit has no mid-bit transition, or the
delimiter is missing or at the wrong level (R174, R175). -/
def lineBits : Bool → List Bool → Option (List Bool)
  | last, [a, b] => if a = last ∧ b = last then some [] else none
  | _, a :: b :: rest => if a = b then none else (lineBits b rest).map (b :: ·)
  | _, _ => none

/-- The bytes of bits, least significant bit first; none where the last byte is not whole. -/
def bitBytes (l : List Bool) : Option (List Byte) :=
  if l.length % 8 = 0 then
    some ((List.range (l.length / 8)).map (fun i =>
      BitVec.ofNat 8 (((l.drop (8 * i)).take 8).foldr (fun b n => 2 * n + b.toNat) 0)))
  else none

/-- Send a frame when the bus is free; `gap` is what the bus stays taken after it, in ns.
(DEDUCED, log entry 76.) -/
def State.busSend (s : State) (p type addr : Nat) (payload : List Byte) (gap : Nat) : State :=
  let x := s.port p
  let e := x.free + frameNs payload.length
  (s.setPort p { x with busy := e, free := e + gap }).send (.sprin p (sprinLine (sprinFrame type addr payload)))

/-- Send a frame and wait for its answer: with none by t_ML the bus is free 2 µs later. -/
def State.busAsk (s : State) (p type addr : Nat) (payload : List Byte) (w : BusWait) : State :=
  let t := s.busSend p type addr payload 5000
  t.setPort p { t.port p with wait := w }

/-- A frame of the other side that began `rtt` ns after the master's frame end, `halves` half-bits of
80 ns; the bus is free t_IFG after its end. -/
def State.busTake (s : State) (p rtt halves : Nat) : State :=
  let x := s.port p
  let e := x.busy + rtt + halves * 80
  s.setPort p { x with busy := e, free := e + 2000 }

/-- A transaction of `len` ns ends before the next cycle start, with the alarm calls to come (R184). -/
def State.busFits (s : State) (p len calls : Nat) : Bool :=
  decide ((s.port p).free + len + 48160 * calls < (s.port p).limit)

/-- What a received frame is (R177, R196). -/
inductive RxFrame where
  | bad (reason : Nat)
  | good (type addr : Nat) (payload : List Byte)
deriving DecidableEq, Repr

/-- The bytes of a line from header to CRC; none where they cannot be read (R174, R175). -/
def lineFrame (line : List Bool) : Option (List Byte) :=
  match (lineBits true line).bind bitBytes with
  | some (0x55 :: 0x55 :: 0xD5 :: f) => some f
  | _ => none

/-- The frame on a line: a Manchester violation or a LEN that is not that of the bytes received is reason
3, a bad CRC 2 (R175, R176, R196). -/
def rxFrame (line : List Bool) : RxFrame :=
  match lineFrame line with
  | none => .bad 3
  | some f =>
    let len := (f.getD 2 0).toNat
    if f.length ≠ len + 5 ∨ 16 < len then .bad 3
    else if ofLe (f.drop (len + 3)) ≠ crc16 (f.take (len + 3)) then .bad 2
    else .good (f.getD 0 0).toNat (f.getD 1 0).toNat (slice 3 len f)

/-- Count a FAILED reason in ERR and for the minute (R196). -/
def State.lineError (s : State) (p reason : Nat) : State :=
  let x := s.port p
  if reason = 1 then (s.inc (SPRIN_ERR_TIMEOUT p)).setPort p { x with mTimeouts := x.mTimeouts + 1 }
  else if reason = 2 then (s.inc (SPRIN_ERR_CRC p)).setPort p { x with mErrors := x.mErrors + 1 }
  else if reason = 3 then (s.inc (SPRIN_ERR_FRAMING p)).setPort p { x with mErrors := x.mErrors + 1 }
  else if reason = 4 then (s.inc (SPRIN_ERR_OTHER p)).setPort p { x with mOther := x.mOther + 1 }
  else s.inc (SPRIN_ERR_OTHER p)

/-! ### Host commands (R181, R183, R196) -/

/-- The host command ends: status, reason, RESULT. (DESIGN CHOICE, log entry 81.) -/
def State.hostDone (s : State) (p st reason result : Nat) : State :=
  if s.on (SPRIN_NCMD_BUSY p) then
    ((((s.putB (SPRIN_NCMD_BUSY p) false).put (SPRIN_NRESULT_ITEM_STATUS p) st).put
      (SPRIN_NRESULT_REASON p) reason).put (SPRIN_NRESULT_RESULT p) result)
  else s

/-- GO (R181, R196): queued for step 2 of the next cycle, or FAILED 0x07 with the supply off.
(DESIGN CHOICE, log entry 81.) -/
def State.hostGo (s : State) (p : Nat) : State :=
  let a := s.putB (SPRIN_NCMD_BUSY p) true
  if s.supplyOn p then a else a.hostDone p 1 7 0

/-- The arguments of the host command. -/
def State.hostArgs (s : State) (p : Nat) : List Byte :=
  let a0 := BitVec.ofNat 8 (s.get (SPRIN_NCMD_ARG0 p))
  if s.get (SPRIN_NCMD_ARG_LEN p) = 5 then a0 :: leBytes 4 (s.reg (SPRIN_NARG p)).toNat else [a0]

/-! ### Enumeration (R190 to R193) -/

/-- The sensor map's record of a UID on a port, as the running cycle has it (R196). -/
def State.nodeRec (s : State) (p uid : Nat) : Option NodeRec :=
  (s.port p).recs.find? (fun r => r.uid = uid)

/-- The address to assign: the sensor map's, else the lowest neither mapped nor taken; none when the
port holds 255 assigned nodes (R190). (DESIGN CHOICE, log entry 161.) -/
def State.enumAddr (s : State) (p uid : Nat) : Option Nat :=
  let x := s.port p
  let taken (a : Nat) : Bool := (x.node a).assigned
  if 255 ≤ ((List.range 255).filter taken).length then none
  else match s.nodeRec p uid with
    | some r => some r.addr
    | none => (List.range 255).find? (fun a =>
        !taken a && !(x.recs.any (fun r => r.addr = a)))

/-- A search starts (R190). (DEDUCED, log entry 74.) -/
def State.searchStart (s : State) (p : Nat) : State :=
  s.setPort p { s.port p with search := some { began := s.tim.mono } }

/-- Nodes present. -/
def State.presentOf (s : State) (p : Nat) : Nat := (s.port p).count 1

/-- The search ends; a port in ENUM goes to RUN with a record 0x7004 (R190, R195).
(DESIGN CHOICE, log entry 77.) -/
def State.searchEnd (s : State) (p : Nat) : State :=
  match (s.port p).search with
  | none => s
  | some q =>
    let t := s.setPort p { s.port p with search := none, searchTurn := false }
    if t.pst p = pEnum then
      (t.setPst p pRun).pev p 0x7004 (t.presentOf p) ((s.tim.mono - q.began) / 1000)
    else t

def State.searchDo (s : State) (p : Nat) (d : SearchStep) : State :=
  match (s.port p).search with
  | none => s
  | some q => s.setPort p { s.port p with search := some { q with todo := d } }

/-- An ASSIGN that no node took (R190). (DESIGN CHOICE, log entry 77.) -/
def State.assignFailed (s : State) (p : Nat) : State :=
  match (s.port p).search with
  | none => s
  | some q =>
    let n := q.failures + 1
    let t := s.setPort p { s.port p with search := some { q with failures := n, todo := .root } }
    if n = 8 then (t.pev p 0x7009 (t.presentOf p) n).searchEnd p else t

/-- A node took its address: it is present. -/
def State.nodeAssigned (s : State) (p uid addr : Nat) : State :=
  let old := (s.port p).node addr
  let base : SprinNode := if old.uid = uid then old else {}
  let rec? := s.nodeRec p uid
  let back := base.state = 2
  let n : SprinNode := { base with
    uid := uid, state := 1, inMap := rec?.isSome, assigned := true, run := 0, pending := false,
    pollDiv := match rec? with | some r => r.pollDiv | none => 1 }
  let t := s.setNode p addr n
  (if back then t.pev p 0x7002 addr else t).searchDo p (.measure addr [] 0)

/-- The sum of four values of RTT − TURN_NS, which is eight times the mean of D, when the four values of
D lie within 40 ns of one another (R191). -/
def delaySum (l : List (Option Int)) : Option Int :=
  match l with
  | [some a, some b, some c, some d] =>
    let hi := max (max a b) (max c d)
    let lo := min (min a b) (min c d)
    if hi - lo ≤ 80 then some (a + b + c + d) else none
  | _ => none

/-- A MEASURE has been answered with a delay, or not (R191). (DESIGN CHOICE, log entries 77, 162.) -/
def State.measured (s : State) (p addr : Nat) (got : List (Option Int)) (set : Nat)
    (d : Option Int) : State :=
  let l := got ++ [d]
  if l.length < 4 then s.searchDo p (.measure addr l set)
  else
    let n := (s.port p).node addr
    match delaySum l with
    | some m =>
      let ns := min 65535 (s.openDiv m.toNat 8)
      (s.took.setNode p addr { n with uncal := false, delay := ns }).searchDo p (.delay addr ns)
    | none =>
      if set < 2 then s.searchDo p (.measure addr [] (set + 1))
      else ((s.setNode p addr { n with uncal := true, delay := 0 }).pev p 0x700B addr).searchDo p
        (.delay addr 0)

/-- After SET_SAMPLE: an unmapped node is reported, and the search goes on (R190, R193). -/
def State.nodeSettled (s : State) (p addr : Nat) : State :=
  let n := (s.port p).node addr
  let t := s.searchDo p .root
  if n.inMap then t
  else (t.putB (SPRIN_STATUS_NEW_NODE p) true).pev p 0x7005 addr (n.uid % 2 ^ 32)

/-- Bytes of an ENUM frame. -/
def enumBytes (sub n v : Nat) : List Byte := [BitVec.ofNat 8 sub, BitVec.ofNat 8 n] ++ leBytes 8 v

/-- A transaction of the search of `len` ns may be sent: it fits (R184), and in RUN the polls of the cycle
still fit behind it, but for the first of a cycle (R192). (DEDUCED, log entry 74.) -/
def State.searchFits (s : State) (p len : Nat) : Bool :=
  let x := s.port p
  s.busFits p (len + if x.searched then 45000 * x.polls.length else 0) x.calls

/-- Send the next transaction of the search, if it may be sent; false when nothing was sent. -/
def State.searchSend (s : State) (p : Nat) : State × Bool :=
  let x := s.port p
  match x.search with
  | none => (s, false)
  | some q => match q.todo with
    | .start =>
      if s.searchFits p (13680 + 30760) then
        let t := s.busSend p 4 0xFF [0x01] 2000
        ((t.searchDo p .root).busAsk p 4 0xFF (enumBytes 2 0 0) (.query 0 0), true)
      else (s, false)
    | .root =>
      if s.searchFits p 30760 then (s.busAsk p 4 0xFF (enumBytes 2 0 0) (.query 0 0), true) else (s, false)
    | .bit n pfx =>
      if s.searchFits p 30760 then (s.busAsk p 4 0xFF (enumBytes 2 n pfx) (.query n pfx), true)
      else (s, false)
    | .assign uid =>
      match s.enumAddr p uid with
      | none => ((s.pev p 0x7009 (s.presentOf p) q.failures).searchEnd p, false)
      | some a =>
        if s.searchFits p (frameNs 10 + 3000 + frameNs 11 + 2000) then
          (s.busAsk p 4 0xFF (enumBytes 3 a uid) (.assign uid a), true)
        else (s, false)
    | .measure a got set =>
      if s.searchFits p (frameNs 1 + 3000 + frameNs 5 + 2000) then
        (s.busAsk p 3 a [0x03] (.measure a got set), true)
      else (s, false)
    | .delay a ns =>
      if s.searchFits p (frameNs 3 + 3000 + frameNs 3 + 2000) then
        (s.busAsk p 3 a ([0x02] ++ leBytes 2 ns) (.setDelay a), true)
      else (s, false)
    | .sample a =>
      let per := match s.nodeRec p ((s.port p).node a).uid with | some r => r.periodMs | none => 1000
      if s.searchFits p (frameNs 3 + 3000 + frameNs 3 + 2000) then
        (s.busAsk p 3 a ([0x05] ++ leBytes 2 per) (.setSample a), true)
      else (s, false)

/-! ### Polls, alarm calls and the order of a cycle (R183 to R187) -/

/-- Polls have ended, with a status and a reason (R14, R196). -/
def State.pollsEnd (s : State) (p : Nat) (l : List Nat) (st reason : Nat) : State :=
  let x := s.port p
  s.setPort p { x with ends := (l.map (fun a => { item := a, status := st, reason := reason })).reverse ++ x.ends }

/-- The address whose poll waits for its reply. -/
def SprinPort.awaited (x : SprinPort) : List Nat :=
  match x.wait with
  | .poll a _ _ => [a]
  | _ => []

/-- The polls still waiting are deferred to the next cycle: CANCELLED 0x03 (R184, R196). -/
def State.pollsDefer (s : State) (p : Nat) (l : List Nat) : State :=
  let x := s.port p
  if l = [] then s
  else
    let n := l.length
    (((s.setPort p { x with polls := [], deferred := l, mDeferred := x.mDeferred + n }).pollsEnd p l 2 3).put
      (SPRIN_STATS_LATE_POLLS p) (s.get (SPRIN_STATS_LATE_POLLS p) + n)).putB (SPRIN_STATUS_OVERRUN p) true

/-- The bus has nothing more to do in this cycle. (DEDUCED, log entry 82.) -/
def State.cycleEnd (s : State) (p : Nat) : State :=
  let x := s.port p
  if x.running then
    (s.setPort p { x with wait := .idle, running := false }).put (SPRIN_CYCLE_STATUS_LAST_CYCLE_US p)
      (satTo 16 (x.busy / 1000))
  else s

/-- Step 5: the next alarm call, or the end of the cycle. (DESIGN CHOICE, log entry 160.) -/
def State.busCalls (s : State) (p : Nat) : State :=
  let x := s.port p
  if x.calls ≠ 0 ∧ s.busFits p 0 x.calls then
    (s.setPort p { x with calls := x.calls - 1 }).busAsk p 2 0xFF [0x01] .call
  else s.cycleEnd p

/-- Step 4: the next poll, or the polls left are deferred. -/
def State.busPolls (s : State) (p : Nat) : State :=
  let x := s.port p
  match x.polls with
  | [] => s.busCalls p
  | a :: rest =>
    if s.busFits p 45000 x.calls then
      let req := (x.node a).pending
      (s.setPort p { x with polls := rest }).busAsk p 2 a [if req then 0x01 else 0x00] (.poll a false req)
    else (s.pollsDefer p x.polls).busCalls p

/-- Step 3: the search within the budget, or the scan when it is due. (DEDUCED, log entry 74.) -/
def State.busSearch (s : State) (p : Nat) : State :=
  let x := s.port p
  if !x.searchTurn then s.busPolls p
  else if x.search.isSome then
    let r := s.searchSend p
    if r.2 then r.1.setPort p { r.1.port p with searched := true } else (r.1.setPort p { r.1.port p with searchTurn := false }).busPolls p
  else
    let t := s.setPort p { x with searchTurn := false }
    if x.scanDue ∧ s.busFits p 30760 x.calls then
      t.busAsk p 4 0xFF (enumBytes 2 0 0) .scan
    else t.busPolls p

/-- Step 2: at most one host command; it fails when its node is not present. (DEDUCED, log entry 75.) -/
def State.busHost (s : State) (p : Nat) : State :=
  let x := s.port p
  if !x.hostTurn then s.busSearch p
  else
    let t := s.setPort p { x with hostTurn := false }
    let a := s.get (SPRIN_NCMD_ADDR p)
    let code := s.get (SPRIN_NCMD_CODE p)
    if !s.on (SPRIN_NCMD_BUSY p) then t.busSearch p
    else if (x.node a).state ≠ 1 then (t.hostDone p 1 7 0).busSearch p
    else
      let pay := BitVec.ofNat 8 code :: s.hostArgs p
      let len := frameNs pay.length + 3000 + frameNs (if code = 0x11 then 7 else 3) + 2000
      if s.busFits p len x.calls then t.busAsk p 3 a pay (.host a code) else t.busSearch p

/-- The next transaction of the cycle; an IDENTIFY of ACTION 3 goes first. (DEDUCED, log entry 75.) -/
def State.busNext (s : State) (p : Nat) : State :=
  let x := s.port p
  let t := s.setPort p { x with wait := .idle }
  if !x.running then t
  else match x.identify with
    | some a =>
      if s.busFits p (frameNs 2 + 3000 + frameNs 3 + 2000) x.calls then
        (t.setPort p { t.port p with identify := none }).busAsk p 3 a [0x06, 10] (.identify a)
      else t.busHost p
    | none => t.busHost p

/-- The polls due in a cycle: those deferred first, then in ascending address (R183). -/
def SprinPort.due (x : SprinPort) : List Nat :=
  let live (a : Nat) : Bool := (x.node a).state ≠ 0
  let d := x.deferred.filter live
  d ++ (List.range 255).filter (fun a =>
    live a && !(d.contains a) &&
      decide (((x.cycle : Int) - a) % ((max 1 (x.node a).pollDiv : Nat) : Int) = 0))

/-- The SOURCE word of a node value (R271). -/
def nodeSource (p a n : Nat) : Word := BitVec.ofNat 32 (2 ^ 28 + p * 2 ^ 16 + a * 2 ^ 8 + n)

/-- Publication records of a node value. -/
def State.nodePubs (s : State) (p a n : Nat) : List Pub :=
  s.smap.pubs.filter (fun r => r.kind = 0 && r.arg0 = nodeSource p a n)

/-- A value in °C, % or mm (R180, R271). -/
def nodeValue (n raw : Nat) : F32 :=
  if n = 0 then fofRat ((raw : Int) - 6000) 100
  else if n = 1 then fofRat raw 100
  else if n = 2 then fofRat raw 1000
  else fofNat raw

/-- Write the entries of a node that the map names (R36, R185, R193, R290); `stamp` in ns. -/
def State.nodePublish (s : State) (p a : Nat) (valid : Nat → Bool) (raw : Nat → Nat) (stamp : Nat) : State :=
  s.each (List.range 4) (fun t n => t.each (s.nodePubs p a n) (fun u r =>
    u.publish r.entry (nodeValue n (raw n)) fNaN (tickOf stamp) { valid := valid n }))

/-- The values of a node are withdrawn from the entries that show them (R185). -/
def State.nodeWithdraw (s : State) (p a : Nat) : State :=
  s.nodePublish p a (fun _ => false) (fun _ => 0) s.tim.dp

/-- A good reply goes to the sensor map's consumers: entries and anchors (R185). -/
def State.nodeForward (s : State) (p a : Nat) (valid : Nat → Bool) (raw : Nat → Nat) (stamp : Nat) : State :=
  if ((s.port p).node a).inMap then
    (s.nodePublish p a valid raw stamp).each (List.range 4) (fun t n =>
      if valid n then t.forward (nodeSource p a n) (nodeValue n (raw n)) fNaN stamp else t)
  else s

/-- The nodes follow the sensor map in force at a cycle start; a poll of a node the map no longer names is
CANCELLED 0x04, and its entries are withdrawn (R193, R196). (DEDUCED, DESIGN CHOICE, log entries 74, 163.) -/
def State.sprinFollow (s : State) (p : Nat) : State :=
  let x := s.port p
  let y : SprinPort := { x with recs := s.smap.nodes.filter (fun r => r.p = p) }
  let t := s.setPort p y
  let inMap (e : Nat × SprinNode) : Bool := match t.nodeRec p e.2.uid with
    | some r => decide (r.addr = e.1)
    | none => false
  let nodes := x.nodes.map (fun (e : Nat × SprinNode) => (e.1, { e.2 with
    inMap := inMap e, pollDiv := match t.nodeRec p e.2.uid with | some r => r.pollDiv | none => 1 }))
  let lost := (x.nodes.filter (fun e => e.2.inMap && !inMap e)).map (fun e => e.1)
  let gone := x.deferred.filter (fun a => lost.contains a)
  let u := (t.setPort p { y with nodes := nodes, deferred := x.deferred.filter (fun a => !lost.contains a) }).pollsEnd p gone 2 4
  u.each lost (fun v a => v.nodeWithdraw p a)

/-- The test pattern of a TEST frame, which the spec leaves open. (DEDUCED, log entry 82.) -/
def State.testPattern (s : State) : List Byte := (List.range 16).map (s.freeAt 8)

/-- A TEST frame (R177, R195). -/
def State.testSend (s : State) (p : Nat) : State := (s.busSend p 5 0xFF s.testPattern 2000).tookN 16

/-- The frame of SYNC for a cycle that starts at `begin_` ns (R179, R183, R188). -/
def State.syncBytes (s : State) (begin_ : Nat) : List Byte :=
  let now := begin_ + 25760
  let flags : Byte := if s.tstate = tLocked then 1 else 0
  leBytes 6 (secOf now) ++ leBytes 4 (nsOf now) ++ [BitVec.ofNat 8 s.tim.tepoch, flags]

/-- The port takes up a new cycle: what the map and SPRIN_CFG say at its start holds in it (R183, R196). -/
def State.cycleOpen (s : State) (p : Nat) : State :=
  let d := ((s.pollsDefer p ((s.port p).awaited ++ (s.port p).polls)).cycleEnd p).sprinFollow p
  let x := d.port p
  let run := decide (s.pst p = pRun)
  let every := s.get (SPRIN_CFG_ENUM_SCAN p)
  let y : SprinPort := { x with
    cycle := x.cycle + 1, start := s.tim.dp, limit := s.get (SPRIN_CFG_PERIOD_MS p) * 1000000,
    free := 0, busy := 0, wait := .idle, running := true }
  d.setPort p { y with
    hostTurn := true, searchTurn := true, searched := false,
    scanDue := run && every != 0 && y.cycle % every == 0,
    polls := if run then y.due else [], deferred := [],
    calls := if run then s.get (SPRIN_CFG_ALARM_CALLS p) else 0 }

/-- A cycle starts where site time is a whole multiple of the period, with SYNC (R183, R188); `ma` is the
measured cable current. (DEDUCED, log entries 75, 82.) -/
def State.cycleStart (s : State) (p ma : Nat) : State :=
  if !s.dpUp || (s.pst p != pEnum && s.pst p != pRun) ||
      s.tim.dp % (s.get (SPRIN_CFG_PERIOD_MS p) * 1000000) != 0 then s
  else
    let t := s.cycleOpen p
    let u := (t.put (SPRIN_CYCLE_STATUS_CYCLE p) (t.port p).cycle).put (SPRIN_PWR_STATUS_CURRENT_MA p) (satTo 10 ma)
    (u.busSend p 1 0xFF (u.syncBytes s.tim.dp) 2000).busNext p

/-! ### What a poll leaves (R185, R189, R193, R196) -/

/-- The full site time in µs of a sample: `sample` with the steps the node has not seen, the reply
start in ns (R189). -/
def sampleTime (sample : Int) (r : Nat) : Option Nat :=
  let hi : Int := ((r : Int) + 2000) / 1000
  let t := hi - (hi - sample) % (2 ^ 32 : Int)
  if 0 ≤ t ∧ (r : Int) + 3000 ≤ (t + 2 ^ 32) * 1000 then some t.toNat else none

/-- A poll has ended FAILED: it counts for the node, which is MISSING after three consecutive cycles (R185,
R196). -/
def State.pollDead (s : State) (p reason a : Nat) : State :=
  let e := s.pollsEnd p [a] 1 reason
  let n := (e.port p).node a
  let m : SprinNode := { n with fails := satTo 16 (n.fails + 1), reason := reason, run := n.run + 1 }
  if m.run = 3 ∧ m.state = 1 then
    let t := e.setNode p a { m with state := 2 }
    (if m.inMap then t.nodeWithdraw p a else t).pev p 0x7001 a reason
  else e.setNode p a m

/-- A poll failed: one retry at once if it fits (R185), with ALARM_REQ where a discarded REPLY showed a
pending alarm (R187). -/
def State.pollFailed (s : State) (p a : Nat) (retry req : Bool) (reason : Nat) : State :=
  let e := s.lineError p reason
  let again := req || ((e.port p).node a).pending
  if !retry && s.pst p = pRun && e.busFits p 45000 (e.port p).calls then
    e.busAsk p 2 a [if again then 0x01 else 0x00] (.poll a true again)
  else (e.pollDead p reason a).busNext p

/-- A valid REPLY of a node shows whether an alarm is pending (R187); a good one leaves its STATUS (R197). -/
def State.nodeStatus (s : State) (p a st : Nat) (good : Bool) : State :=
  let n := (s.port p).node a
  s.setNode p a { n with pending := st.testBit 7, status := if good then st else n.status }

/-- A value word keeps the half whose value is not valid (R197). -/
def keepHalf (old : Word) (lo hi : Nat) (vlo vhi : Bool) : Word :=
  setBits (setBits old 15 0 (if vlo then lo else bits old 15 0)) 31 16 (if vhi then hi else bits old 31 16)

/-- A REPLY to a poll with its layout right (R179, R180, R185, R189). (DESIGN CHOICE, log entry 78.) -/
def State.pollReply (s : State) (p a : Nat) (retry req : Bool) (pay : List Byte) (r : Nat) : State :=
  let st := (pay.getD 0 0).toNat
  let behind := (s.tim.tepoch + 256 - (pay.getD 1 0).toNat) % 256
  let us := ofLe (slice 10 4 pay)
  let e := s.nodeStatus p a st false
  if !st.testBit 6 then e.pollFailed p a retry req 5
  else if 3 < behind then e.pollFailed p a retry req 6
  else
    let add : Int := (s.tim.steps.take behind).foldl (· + ·) 0 * 1000
    match sampleTime (us + add) r with
    | none => e.pollFailed p a retry req 5
    | some t =>
      let n := (s.port p).node a
      let raw (k : Nat) : Nat := ofLe (slice (2 + 2 * k) 2 pay)
      let ok (k : Nat) : Bool := st.testBit k
      let m : SprinNode := { n with
        state := 1, status := st, run := 0, sample := BitVec.ofNat 32 us, pending := st.testBit 7,
        v01 := keepHalf n.v01 (raw 0) (raw 1) (ok 0) (ok 1), v23 := keepHalf n.v23 (raw 2) (raw 3) (ok 2) (ok 3) }
      let u := ((s.setNode p a m).pollsEnd p [a] 0 0).nodeForward p a ok raw (t * 1000)
      (if n.state = 2 then u.pev p 0x7002 a else u).busNext p

/-- A host command's REPLY (R181): READ_PARAM carries the value where its LEN has room for it. -/
def State.hostReply (s : State) (p : Nat) (pay : List Byte) : State :=
  let t := s.hostDone p 0 0 (pay.getD 2 0).toNat
  (if pay.length = 7 then t.setReg (SPRIN_NDATA p) (BitVec.ofNat 32 (ofLe (slice 3 4 pay))) else t).busNext p

/-- No answer, or an answer that is no good, to what the master waits for. (DEDUCED, log entry 76.) -/
def State.busFailed (s : State) (p reason : Nat) : State :=
  match (s.port p).wait with
  | .idle => s
  | .host _ _ => ((s.lineError p reason).hostDone p 1 reason 0).busNext p
  | .identify _ => (s.lineError p reason).busNext p
  | .poll a retry req => s.pollFailed p a retry req reason
  | .call => (if reason = 1 then s else s.inc (SPRIN_ERR_OTHER p)).busNext p
  | .query _ _ => s
  | .scan => s
  | .assign _ _ => ((if reason = 1 then s else s.lineError p reason).assignFailed p).busNext p
  | .measure a got set => ((s.lineError p reason).measured p a got set none).busNext p
  | .setDelay a => ((s.lineError p reason).searchDo p (.sample a)).busNext p
  | .setSample a => ((s.lineError p reason).nodeSettled p a).busNext p

/-- A REPLY has been received whole (R182, R185, R191, R196): it began `rtt` ns after the master's
frame end.  A good frame whose LEN is not one its request calls for fails with reason 0x03.
(DEDUCED, log entry 76.) -/
def State.sprinReply (s : State) (p rtt : Nat) (line : List Bool) : State :=
  let x := s.port p
  if s.pst p = pTest then s
  else if rtt < 500 ∨ 3000 < rtt then s.inc (SPRIN_ERR_OTHER p)
  else
    let r := x.start + x.busy + rtt
    let t := s.busTake p rtt line.length
    match rxFrame line with
    | .bad reason => t.busFailed p reason
    | .good type addr pay =>
      let from_ (a : Nat) : Bool := type = 0x81 && addr = a
      let ok (a len : Nat) : Bool := from_ a && pay.length = len
      let why (a : Nat) : Nat := if from_ a then 3 else 4
      let st := (pay.getD 0 0).toNat
      match x.wait with
      | .poll a retry req =>
        if ok a 14 then t.pollReply p a retry req pay r else t.busFailed p (why a)
      | .host a code =>
        if ok a 3 || (ok a 7 && code = 0x11) then (t.nodeStatus p a st true).hostReply p pay
        else t.busFailed p (why a)
      | .identify a => if ok a 3 then (t.nodeStatus p a st true).busNext p else t.busFailed p (why a)
      | .assign uid a =>
        if ok a 11 && decide ((pay.getD 2 0).toNat = 0) && decide (ofLe (slice 3 8 pay) = uid) then
          ((t.nodeAssigned p uid a).nodeStatus p a st true).busNext p
        else (t.assignFailed p).busNext p
      | .measure a got set =>
        if ok a 5 then
          let turn := ofLe (slice 3 2 pay)
          ((t.nodeStatus p a st true).measured p a got set (some (((rtt / 2 * 2 : Nat) : Int) - turn))).busNext p
        else t.busFailed p (why a)
      | .setDelay a =>
        if ok a 3 then ((t.nodeStatus p a st true).searchDo p (.sample a)).busNext p else t.busFailed p (why a)
      | .setSample a =>
        if ok a 3 then ((t.nodeStatus p a st true).nodeSettled p a).busNext p else t.busFailed p (why a)
      | _ => t.inc (SPRIN_ERR_OTHER p)

/-- No reply start within t_ML (R182, R196). -/
def State.sprinTimeout (s : State) (p : Nat) : State := s.busFailed p 1

/-- A valid ALARM is acknowledged by port hardware (R186); recorded once. (DEDUCED, log entry 79.) -/
def State.alarmTaken (s : State) (p a : Nat) (pay : List Byte) : State :=
  let code := (pay.getD 0 0).toNat
  let seq := (pay.getD 1 0).toNat
  let v := ofLe (slice 2 2 pay)
  let n := (s.port p).node a
  let again := n.alarmed && n.alarmSeq = seq
  let x := s.port p
  let t := (s.setPort p { x with free := x.busy + 1000 }).busSend p 3 a [0x0A, BitVec.ofNat 8 seq] 2000
  let u := t.setNode p a { n with pending := false, alarmCode := code, alarmSeq := seq, alarmValue := v, alarmed := true }
  if again then u
  else ((u.inc (SPRIN_STATS_ALARMS p)).putB (SPRIN_STATUS_ALARM p) true).pev p 0x7003 a (code * 2 ^ 16 + v)

/-- An ALARM has been received in answer to an alarm call or to a POLL with ALARM_REQ (R186, R187).
(DEDUCED, log entry 79.) -/
def State.sprinAlarm (s : State) (p rtt : Nat) (line : List Bool) : State :=
  let x := s.port p
  if s.pst p = pTest then s
  else if rtt < 500 ∨ 3000 < rtt then s.inc (SPRIN_ERR_OTHER p)
  else
    let t := s.busTake p rtt line.length
    match x.wait, rxFrame line with
    | .call, .good type a pay =>
      if type = 0x82 ∧ pay.length = 4 ∧ a < 255 then (t.alarmTaken p a pay).busNext p
      else (t.inc (SPRIN_ERR_OTHER p)).busNext p
    | .call, .bad _ => (t.inc (SPRIN_ERR_OTHER p)).busNext p
    | .poll a retry req, .good type b pay =>
      if req ∧ type = 0x82 ∧ b = a ∧ pay.length = 4 then
        let u := t.alarmTaken p a pay
        if u.busFits p 45000 (u.port p).calls then u.busAsk p 2 a [0x00] (.poll a false false)
        else
          let y := u.port p
          (u.setPort p { y with polls := a :: y.polls }).busNext p
      else t.pollFailed p a retry req 4
    | .poll a retry req, .bad reason => t.pollFailed p a retry req reason
    | _, _ => t.inc (SPRIN_ERR_OTHER p)

/-- The presence window of a QUERY ends (R190, R192). (DESIGN CHOICE, log entry 159.) -/
def State.enumPresence (s : State) (p : Nat) (hit : Bool) : State :=
  let x := s.port p
  let t := if hit then s.setPort p { x with busy := x.busy + 3000 + 2560, free := x.free + 2560 } else s
  match x.wait with
  | .scan => (if hit then t.searchStart p else t).busNext p
  | .query 0 _ => (if hit then t.searchDo p (.bit 1 0) else t.searchEnd p).busNext p
  | .query n pfx =>
    let q := if hit then pfx else pfx ||| 2 ^ (64 - n)
    (t.searchDo p (if n = 64 then .assign q else .bit (n + 1) q)).busNext p
  | _ => s

/-! ### Port states (R194 to R196) -/

/-- Work in progress on a port ends: the polls and the host command with the status and reason given
(R196). (DESIGN CHOICE, log entry 73.) -/
def State.busStop (s : State) (p st reason : Nat) : State :=
  let l := (s.port p).awaited ++ (s.port p).polls
  let e := s.cycleEnd p
  let t := if st = 1 then e.each l (fun u a => u.pollDead p reason a) else e.pollsEnd p l st reason
  (t.setPort p { t.port p with
    wait := .idle, polls := [], deferred := [], calls := 0, search := none, identify := none, hostTurn := false, searchTurn := false }).hostDone
    p st reason 0

/-- The supply goes off: nodes lose their addresses (R178). (DESIGN CHOICE, log entry 73.) -/
def State.supplyOff (s : State) (p st reason : Nat) : State :=
  let t := s.busStop p st reason
  let x := t.port p
  (t.setPort p { x with nodes := x.nodes.map (fun (e : Nat × SprinNode) =>
    (e.1, { e.2 with assigned := false, pending := false })), cycling := false }).put (SPRIN_PWR_STATUS_CURRENT_MA p) 0

/-- POWERING, NO_VCAB when VCAB is not good, or OFF when the port is disabled (R195).
(DESIGN CHOICE, log entry 73.) -/
def State.portPower (s : State) (p : Nat) : State :=
  s.setPst p (if !s.on (SPRIN_CFG_ENABLE p) then pOff else if s.on PWR_STATUS_VCAB_OK then pPowering else pNoVcab)

/-- ENABLE has been written (R195, R196): a port whose supply is off for another cause stays there until
it leaves that state. (DESIGN CHOICE, log entries 73, 164.) -/
def State.portEnable (s : State) (p : Nat) : State :=
  if s.on (SPRIN_CFG_ENABLE p) then (if s.pst p = pOff then s.portPower p else s)
  else if s.supplyOn p || s.pst p = pPowering then (s.supplyOff p 2 1).setPst p pOff
  else s

/-- VCAB has become good or low (R61, R195). -/
def State.portsVcab (s : State) (good : Bool) : State :=
  s.each (List.range 24) (fun t p =>
    if good then (if t.pst p = pNoVcab then t.portPower p else t)
    else if t.pst p = pPowering || t.supplyOn p then (t.supplyOff p 1 7).setPst p pNoVcab else t)

/-- The supply stays in limit for 10 ms (R194). -/
def State.portTrip (s : State) (p ma : Nat) : State :=
  if s.supplyOn p then
    let t := (((s.supplyOff p 1 7).setPst p pTripped).incSat (SPRIN_PWR_STATUS_TRIP_COUNT p)).putB
      (SPRIN_STATUS_TRIP p) true
    t.pev p 0x7006 (t.get (SPRIN_PWR_STATUS_TRIP_COUNT p)) ma
  else s

def State.portRetry (s : State) (p : Nat) : State := if s.pst p = pTripped then s.portPower p else s

/-- BOOT_MS of POWERING ends (R190, R195). -/
def State.portBooted (s : State) (p : Nat) : State :=
  if s.pst p = pPowering && !(s.port p).cycling then (s.setPst p pEnum).searchStart p else s

/-- The line has stayed away from idle for more than 1 ms (R195): STUCK, and FAULTED when it is
entered a second time within 60 s. -/
def State.portStuck (s : State) (p : Nat) : State :=
  if s.pst p = pEnum ∨ s.pst p = pRun then
    let t := ((s.supplyOff p 1 7).setPst p pStuck).pev p 0x7007
    let x := t.port p
    let u := t.setPort p { x with stuckAt := some s.optime }
    match x.stuckAt with
    | some a => if s.optime - a ≤ 60 * 1024 then (u.setPst p pFaulted).pev p 0x7008 else u
    | none => u
  else s

/-- DEDUCED, log entry 80. -/
def State.portStuckEnd (s : State) (p : Nat) : State := if s.pst p = pStuck then s.portPower p else s

/-- ACTION 1 (R190, R195, R196): the polls that wait are CANCELLED 0x05, the transaction on the bus
completes, and a pending host command stays for the next cycle. -/
def State.portReenum (s : State) (p : Nat) : State :=
  if s.pst p = pEnum ∨ s.pst p = pRun then
    let t := s.pollsEnd p (s.port p).polls 2 5
    let x := t.port p
    let own : Bool := match x.wait with
      | .poll .. | .host .. | .identify .. | .call => true
      | _ => false
    let y : SprinPort := { x with polls := [], deferred := [], calls := 0, hostTurn := false, searchTurn := false }
    let u := t.setPort p y
    let z := if own then u else u.cycleEnd p
    ((z.setPort p { z.port p with wait := if own then x.wait else .idle }).setPst p pEnum).searchStart p
  else s

/-- ACTION 2 (R195): the supply goes off for 1 s; the port is in POWERING with its supply off.
(DESIGN CHOICE, log entry 73.) -/
def State.portCycle (s : State) (p : Nat) : State :=
  if s.supplyOn p || (s.pst p = pFaulted && !(s.port p).lasting) then
    let t := (s.supplyOff p 1 7).setPst p pPowering
    t.setPort p { t.port p with cycling := true }
  else s

def State.portCycleEnd (s : State) (p : Nat) : State :=
  if (s.port p).cycling then (s.setPort p { s.port p with cycling := false }).portPower p else s

/-- ACTION 3: IDENTIFY for 10 s, sent in the next cycle. -/
def State.portIdentify (s : State) (p a : Nat) : State :=
  if s.supplyOn p then s.setPort p { s.port p with identify := some a } else s

/-- The port's self-test begins and ends (R195, R196). -/
def State.portTest (s : State) (p : Nat) : State :=
  if s.pst p = pTest then s
  else
    let st := s.pst p
    let t := s.busStop p 2 2
    let u := (t.setPort p { t.port p with prev := st, search := (s.port p).search }).setPst p pTest
    (u.testSend p).testSend p

/-- A port is fenced: held in FAULTED, with its supply off (R195, R450, R451). -/
def State.portFence (s : State) (p : Nat) : State :=
  let t := ((s.supplyOff p 1 7).setPst p pFaulted).pev p 0x7008
  t.setPort p { t.port p with lasting := true }

/-- The port's self-test passes: it returns to the state before (R195, R451). -/
def State.portPassed (s : State) (p : Nat) : State := if s.pst p = pTest then s.setPst p (s.port p).prev else s

/-- The end of a minute (R184, R196). -/
def State.sprinMinute (s : State) (p : Nat) : State :=
  let x := s.port p
  let t := if x.mDeferred = 0 then s else s.pev p 0x700A x.mDeferred
  let u := if x.mErrors + x.mTimeouts + x.mOther = 0 then t else t.pev p 0x700C x.mErrors x.mTimeouts
  u.setPort p { x with mDeferred := 0, mErrors := 0, mTimeouts := 0, mOther := 0 }

/-- A swap of the sensor map (R195, R196): a FAULTED port leaves that state at once; the rest takes effect
at the next cycle start, on the grid of the new period. -/
def State.sprinRemap (s : State) (p : Nat) : State :=
  let t := s.sprinGrid p
  if t.pst p = pFaulted && !(t.port p).lasting then t.portPower p else t

/-- A word of the node table (R197). -/
def SprinNode.word (n : SprinNode) (w : Nat) : Word :=
  BitVec.ofNat 32 (match w with
    | 0 => n.uid
    | 1 => n.uid / 2 ^ 32
    | 2 => n.state * 2 ^ 28 + (if n.inMap then 2 ^ 27 else 0) + (if n.uncal then 2 ^ 26 else 0) +
        n.status % 256 * 2 ^ 16 + n.delay % 65536
    | 3 => n.v01.toNat
    | 4 => n.v23.toNat
    | 5 => n.sample.toNat
    | 6 => n.fails * 2 ^ 16 + n.pollDiv % 256
    | _ => n.alarmCode * 2 ^ 24 + n.alarmSeq * 2 ^ 16 + n.alarmValue)

end Sys2Proof.Machine
end

