-- ==== Sys2Proof/Machine/MillOps.lean ====
section
/-! DEFINITION. The Millstone's bodies: steps, assimilation, firm time, rollback, publication, airflow
solves, holds, resumes and cold starts (R239 to R244, R253 to R257, R274 to R291, R294 to R297, R495). -/

namespace Sys2Proof.Machine

open Reg

/-- STATE codes of MILL_BODY_STATUS. -/
def bAbsent : Nat := 0
def bStarting : Nat := 1
def bRunning : Nat := 2
def bPaused : Nat := 3
def bHeld : Nat := 4

def State.bst (s : State) (k : Nat) : Nat := s.get (MILL_BODY_STATUS_STATE k)
def State.setBst (s : State) (k n : Nat) : State := s.put (MILL_BODY_STATUS_STATE k) n
def State.body (s : State) (k : Nat) : Body := tget (fun _ => {}) s.mill.bodies k
def State.setBody (s : State) (k : Nat) (b : Body) : State :=
  { s with mill := { s.mill with bodies := tset (fun _ => {}) s.mill.bodies k b } }
def State.mev (s : State) (code k : Nat) (p1 : Nat := 0) (p2 : Nat := 0) (prov : Bool := false) : State :=
  s.ev portMill code k p1 p2 prov

/-- The grid of a body, from its registers. -/
def State.grid (s : State) (k : Nat) : Grid :=
  { cyl := decide (s.get (MILL_BODY_CFG_TYPE k) ≠ 0), n1 := s.get (MILL_GRID_DIM_N1_M1 k) + 1,
    n2 := s.get (MILL_GRID_DIM_N2_M1 k) + 1, nz := s.get (MILL_GRID_DIM_NZ_M1 k) + 1,
    e1 := s.get (MILL_GRID_EDGE_E1_MM k), e2 := s.get (MILL_GRID_EDGE_E2_MM k),
    ez := s.get (MILL_GRID_EDGE_EZ_MM k), rings := (s.body k).rings }

/-- STEP_S in ms, at least 1. -/
def State.stepMs (s : State) (k : Nat) : Nat := max 1 (s.get (MILL_BODY_CFG_STEP_S k)) * 1000
def State.siteMs (s : State) : Nat := s.tim.dp / 1000000

def Body.cell (b : Body) (i : Nat) : Cell := tget (fun _ => {}) b.cells i
def Body.fluxAt (b : Body) (i : Nat) : Flux := tget (fun _ => {}) b.flux i

/-! ### Inputs of a step (R253, R257, R264, R280) -/

def State.cropF (s : State) (n : Nat) : CropF := fun off => s.cropWord n off
def State.cropValid (s : State) (n : Nat) : Bool := s.cropByte n 16 = 1

/-- The estimate entries that the steps of a body read. -/
def State.stepEntries (s : State) (k : Nat) : List Nat :=
  (((s.smap.bounds.filter (fun r => r.body = k)).map (fun r => r.tEntry)) ++
    [s.get MILL_AMBIENT_SRC_T_ENTRY, s.get MILL_AMBIENT_SRC_RH_ENTRY, s.get (MILL_MOVE_CFG_INLET_T_ENTRY k),
     s.get (MILL_MOVE_CFG_INLET_M_ENTRY k)]).filter (fun n => n ≠ 1023)

/-- Read an entry: its value when valid, else the last received; one never received is open (R280).
(DEDUCED, log entry 93.) -/
def State.readEntry (s : State) (k n : Nat) : State × (Word × Word × Bool) :=
  let b := s.body k
  if (s.estBack n 3).getLsbD 31 && !fIsNaN (s.estBack n 0) then
    let v := s.estBack n 0
    let g := s.estBack n 1
    (s.setBody k { b with held := (n, v, g) :: terase b.held n }, v, g, true)
  else match b.held.find? (fun p => p.1 = n) with
    | some p => (s, p.2.1, p.2.2, false)
    | none => (s.took, s.free 32, fNaN, false)

/-- The inputs of a step with its actuation table. (DEDUCED, log entry 93.) -/
def State.readInputs (s : State) (k : Nat) (acts : List (Nat × Word)) : State × StepInputs :=
  let r := (s.stepEntries k).foldl (fun (a : State × List (Nat × (Word × Word × Bool))) n =>
    let x := a.1.readEntry k n
    (x.1, a.2 ++ [(n, x.2)])) (s, [])
  (r.1, { acts := acts, ests := r.2 })

/-- DESIGN CHOICE, log entry 97. -/
def StepInputs.est (x : StepInputs) (n : Nat) : Word × Word × Bool :=
  tget (fun _ => ((0 : Word), (0 : Word), false)) x.ests n
def StepInputs.act (x : StepInputs) (j : Nat) : F32 := tget (fun _ => (0 : Word)) x.acts j

/-- The direction of a FACE code (R253). -/
def faceDir (face : Nat) : Nat := [1, 0, 5, 4, 3, 2].getD face 0

/-- The air boundary record that covers a grid-edge face, on a grid `m` times as coarse as the body's. -/
def State.boundIdx (s : State) (k m : Nat) (g : Grid) (i d : Nat) : Option Nat :=
  s.smap.bounds.findIdx? (fun r => r.body = k && faceDir r.face = d &&
    decide (r.n1lo / m ≤ g.c1 i ∧ g.c1 i ≤ r.n1hi / m) && decide (r.n2lo / m ≤ g.c2 i ∧ g.c2 i ≤ r.n2hi / m) &&
    decide (r.n3lo / m ≤ g.c3 i ∧ g.c3 i ≤ r.n3hi / m))

/-- Ambient temperature (R253). -/
def State.ambientT (s : State) (x : StepInputs) : F32 :=
  let n := s.get MILL_AMBIENT_SRC_T_ENTRY
  if n = 1023 then fofNat 15 else (x.est n).1

/-- Ambient humidity ratio (R253). -/
def State.ambientW (s : State) (x : StepInputs) : F32 :=
  let n := s.get MILL_AMBIENT_SRC_RH_ENTRY
  wOfRh (s.ambientT x) (if n = 1023 then fofRat 70 100 else (x.est n).1) (s.reg MILL_AMBIENT_P)

/-- Temperature of the air that enters at a boundary (R253). -/
def State.inflowT (s : State) (x : StepInputs) (r : AirBound) : F32 :=
  if r.tEntry = 1023 then s.ambientT x else (x.est r.tEntry).1

/-- What the lanes know of a step besides its cells, on a grid `m` times as coarse as the body's. -/
def State.envOn (s : State) (k m : Nat) (g : Grid) (flux : Nat → Flux) (x : StepInputs) : StepEnv :=
  { grid := g, crop := s.cropF, form := fun n => s.cropByte n 17, dry := fun n => s.cropByte n 18, flux := flux
    inflow := fun i d => match (s.boundIdx k m g i d).bind (s.smap.bounds[·]?) with
      | some r => s.inflowT x r
      | none => s.ambientT x
    pAmb := s.reg MILL_AMBIENT_P, tAmb := s.ambientT x, wAmb := s.ambientW x, hv := s.reg MILL_HV_COEF
    wallU := (s.body k).wallU }

/-- The surroundings of a step of a body. -/
def State.stepEnv (s : State) (k : Nat) (x : StepInputs) : StepEnv :=
  s.envOn k 1 (s.grid k) (s.body k).fluxAt x

/-- An air boundary at its speed or opening: pressure at zero flow and loss (R253). -/
def State.airPort (s : State) (x : StepInputs) (r : AirBound) : AirPort :=
  let v := x.act r.sEntry
  let w := fmax v (fofRat 5 100)
  { head := if r.kind = 0 then mmul r.a0 (mmul v v) else 0
    loss := if r.kind = 0 then r.a2 else if r.kind = 2 then mdiv r.a2 (mmul w w) else 0
    temp := s.inflowT x r }

/-- What a solve reads: the faces that a boundary covers and leaves open (R253, R254). -/
def State.airIn (s : State) (k m : Nat) (g : Grid) (f : Field) (x : StepInputs) : AirIn :=
  let shut (r : AirBound) : Bool := decide (r.kind ≠ 1) && feq (x.act r.sEntry) 0
  { grid := g, field := f, crop := s.cropF, ports := s.smap.bounds.map (s.airPort x)
    faces := ((List.range g.count).filter (fun i => !(f.at i).isVoid)).flatMap (fun i => dirs.filterMap (fun d =>
      if (g.inner i d).isSome then none
      else match s.boundIdx k m g i d with
        | some n => if (s.smap.bounds[n]?).any shut then none else some ⟨i, d, n⟩
        | none => none))
    pAmb := s.reg MILL_AMBIENT_P, wAmb := s.ambientW x }

/-- A variance code from an entry's SIGMA (R264). (DEDUCED, log entry 92.) -/
def inletCode (inv n : Nat) (e : Word × Word × Bool) : Nat :=
  if n = 1023 || !e.2.2 then 224 else if fIsNaN e.2.1 then 255 else varCode inv (mmul e.2.1 e.2.1)

/-- The movement inputs of a step (R264 to R266); an inlet value of no entry is open, and no grain enters with an
undefined crop (R230, R232). -/
def State.moveIn (s : State) (k : Nat) (x : StepInputs) (e : StepEnv) : MoveIn :=
  let nT := s.get (MILL_MOVE_CFG_INLET_T_ENTRY k)
  let nM := s.get (MILL_MOVE_CFG_INLET_M_ENTRY k)
  let t := if nT = 1023 then s.freeAt 32 0 else (x.est nT).1
  let m := if nM = 1023 then s.freeAt 32 1 else (x.est nM).1
  { mode := s.get (MILL_MOVE_CFG_MODE k), dt := fofNat (s.stepMs k / 1000),
    fill := if s.on (MILL_MOVE_SRC_FILL_EN k) && s.cropValid (s.get (MILL_BODY_CFG_DEFAULT_CROP k)) then
      some (mmul (s.reg (MILL_FILL_GAIN k)) (x.act (s.get (MILL_MOVE_SRC_FILL_ENTRY k)))) else none
    unload := if s.on (MILL_MOVE_SRC_UNLOAD_EN k) then
      some (mmul (s.reg (MILL_UNLOAD_GAIN k)) (x.act (s.get (MILL_MOVE_SRC_UNLOAD_ENTRY k)))) else none
    inlet := { t := t, m := m, w := fun ps => wOfRh t (fofRat 1 2) (madd e.pAmb (fofRat ps 10)), um := inletCode 1000000 nM (x.est nM),
               ut := inletCode 10000 nT (x.est nT), crop := s.get (MILL_BODY_CFG_DEFAULT_CROP k) }
    core := s.get (MILL_MOVE_CFG_CORE_RINGS k)
    mixed := fun i => ((s.freeAt 8 (2 + 2 * i)).toNat, (s.freeAt 8 (3 + 2 * i)).toNat) }

/-! ### Assimilation (R275 to R279) -/

/-- A field of cells and back, with remainders (R227, R228, R268). -/
def liveOf (n : Nat) (b : Body) : Field := (List.range n).map (fun i => (i, (b.cell i).live))
def storeField (floor : Nat → Nat) (f : Field) (keep : Nat → Cell) : List (Nat × Cell) :=
  f.foldl (fun (t : List (Nat × Cell)) p =>
    tset (fun _ => {}) t p.1 (if p.2.fixed then keep p.1 else p.2.store (floor p.1))) []

/-- Growth of a variance code over `secs` seconds at a noise code (R279). -/
def growCode (noise secs u : Nat) (dither : F32) : Nat :=
  if u = 255 ∨ noise = 255 then u
  else
    let x := mdiv (mmul (mdiv (pow8 noise) (pow8 u)) (fofNat secs)) (fofNat 3600)
    let du := mdiv (mmul (fofNat 8) (ln32 (madd (fofNat 1) x))) (ln32 (fofNat 2))
    min 254 (u + (max 0 (ffloor (madd du dither))).toNat)

/-- Every grain cell that is not FIXED grows (R279). -/
def State.growCells (s : State) (k secs : Nat) (dither : Nat → F32) (cells : List (Nat × Cell)) :
    List (Nat × Cell) :=
  cells.map (fun (p : Nat × Cell) =>
    if p.2.grain && !p.2.live.fixed then
      (p.1, { p.2 with um := growCode (s.get (MILL_NOISE_QM_CODE k)) secs p.2.um (dither p.1),
                       ut := growCode (s.get (MILL_NOISE_QT_CODE k)) secs p.2.ut (dither p.1) })
    else p)

/-- δ of R279. -/
def ditherOf (te step i : Nat) : F32 := fofRat (2 * ((40503 * i + 9973 * (te / step)) % 256) + 1 : Nat) 512

/-- Insert a reading by stamp, then anchor record. -/
def readingInsert (r : Reading) : List Reading → List Reading
  | [] => [r]
  | x :: t => if r.stamp < x.stamp ∨ (r.stamp = x.stamp ∧ r.anchor < x.anchor) then r :: x :: t
      else x :: readingInsert r t

/-- Readings of one anchor whose stamps fall in one interval of `st` ms that ends with a step, merged (R276,
R283): the mean of the values, σ_y and stamp of the latest.  `te` is the end of the step that takes them. -/
def mergeReadings (te st : Nat) (l : List Reading) : List Reading :=
  let key (r : Reading) : Nat × Bool × Nat := (r.anchor, r.aged, (te * 1000000 - r.stamp) / (st * 1000000))
  (((l.map key).eraseDups).map (fun q =>
    let m := l.filter (fun r => key r = q)
    let last := m.foldl (fun (a : Reading) r => if a.stamp < r.stamp then r else a) (m.headD ⟨0, 0, 0, 0, false⟩)
    { last with value := mdiv (fsum (m.map (fun r => r.value))) (fofNat m.length) })).foldl
      (fun a r => readingInsert r a) []

/-- The grain moisture in balance with RH in %, as QTY 3 observes it (R275), and its slope. -/
def rhReading (form : Nat) (q : CropF) (th rhPct : F32) : F32 × F32 :=
  let f (rh : F32) : F32 :=
    let me := (emc form q th rh).1
    mdiv (mmul (fofNat 100) me) (madd (fofNat 1) me)
  let rh := mdiv rhPct (fofNat 100)
  let d := fofRat 5 1000
  (f rh, mdiv (msub (f (madd rh d)) (f (msub rh d))) (fofRat 1 100))

/-- One merged reading updates the cells (R277, R278); true when it was gated.  A pressure reading corrects
nothing; S is then σ_y². (DESIGN CHOICE, log entry 97.) -/
def State.applyReading (s : State) (k : Nat) (g : Grid) (cells : List (Nat × Cell)) (r : Reading) :
    List (Nat × Cell) × Bool :=
  match s.smap.anchors[r.anchor]? with
  | none => (cells, false)
  | some a =>
    let c := tget (fun _ => ({} : Cell)) cells a.cell
    let x := c.live
    let old (i : Nat) : Cell := tget (fun _ => ({} : Cell)) cells i
    if a.qty = 5 then
      let d := msub (msub r.value a.bias) (fofRat x.ps 10)
      (cells, !x.isVoid && flt 0 a.gate && flt (mmul a.gate (fabs r.sigma)) (fabs d))
    else if a.qty = 4 then
      let f : Field := cells.map (fun (p : Nat × Cell) => (p.1, p.2.live))
      let crop := s.get (MILL_BODY_CFG_DEFAULT_CROP k)
      let lone := if s.cropValid crop then some (s.freeAt 32 0, s.freeAt 32 1, s.freeAt 32 2, crop) else none
      let f' := levelMove g lone (fofRat a.gain 255) a.rh a.cell (msub r.value a.bias) f
      (storeField (fun i => (old i).dml % 0xFFFF) (flagBoundary g f') old, false)
    else if !x.grain then (cells, false)
    else
      let temp := decide (a.qty = 0 ∨ a.qty = 2)
      let q3 := rhReading (s.cropByte x.crop 17) (s.cropF x.crop) x.th r.value
      let y := if a.qty = 3 then q3.1 else r.value
      let sy := if a.qty = 3 then mmul (mdiv r.sigma (fofNat 100)) (fabs q3.2) else r.sigma
      let var (z : Live) : F32 := if temp then varOf 10000 z.ut else varOf 1000000 z.um
      let va := var x
      let d := msub (msub y a.bias) (if temp then x.th else x.m)
      let sS := madd va (mmul sy sy)
      if flt 0 a.gate && flt (mmul a.gate (fsqrt sS)) (fabs d) then (cells, true)
      else
        let gn := fofRat a.gain 255
        let sa := fsqrt va
        (cells.map (fun (p : Nat × Cell) =>
          let z := p.2.live
          if !z.grain || z.fixed then p
          else match g.rho2 a.rh a.rv p.1 a.cell with
            | none => p
            | some r2 =>
              let w := exp32 (fneg r2)
              let v := var z
              let dx := mdiv (mmul (mmul (mmul (mmul gn w) (fsqrt v)) sa) d) sS
              let nv := mmul v (msub (fofNat 1) (mdiv (mmul (mmul gn (mmul w w)) va) sS))
              let z' : Live := if temp then { z with th := madd z.th dx, ut := varCode 10000 nv }
                else { z with m := madd z.m dx, um := varCode 1000000 nv }
              (p.1, z'.store p.2.dml)), false)

/-! ### Results to publish (R289 to R291) -/

/-- The value of a quantity in a cell; none where the cell has none (R290). -/
def cellQty (g : Grid) (p : F32) (f : Field) (qty i : Nat) : Option F32 :=
  let x := f.at i
  let v : F32 := match qty with
    | 0 => x.th
    | 1 => x.m
    | 2 => x.ta
    | 3 => relHum x.ta x.w (madd p (fofRat x.ps 10))
    | 4 => mmul x.w (fofNat 1000000)
    | 5 => fofRat x.ps 10
    | 6 => x.dml
    | _ => fofRat (surface255 g f (i % (g.n1 * g.n2))) 255000
  if qty = 7 then some v
  else if x.isVoid || fIsNaN v || (x.headspace && (qty = 0 || qty = 1 || qty = 6)) then none else some v

/-- σ of a quantity in a cell. -/
def cellSigma (x : Live) (qty : Nat) : F32 :=
  if qty = 0 ∨ qty = 2 then (if x.ut = 255 then fNaN else fsqrt (varOf 10000 x.ut))
  else if qty = 1 then (if x.um = 255 then fNaN else fsqrt (varOf 1000000 x.um))
  else fNaN

/-- Grain cells of a layer range. -/
def rangeCells (g : Grid) (f : Field) (arg : Word) : List Nat :=
  (f.filter (fun p => p.2.grain && decide (bits arg 15 0 ≤ g.c3 p.1 ∧ g.c3 p.1 ≤ bits arg 31 16))).map
    (fun p => p.1)

/-- The extreme of a quantity over cells, the first by index. -/
def extreme (up : Bool) (val : Nat → Option F32) (l : List Nat) : Option (F32 × Nat) :=
  l.foldl (fun (a : Option (F32 × Nat)) i => match a, val i with
    | none, some v => some (v, i)
    | some b, some v => if (if up then flt b.1 v else flt v b.1) then some (v, i) else some b
    | a, none => a) none

/-- VALUE, SIGMA and VALID of a record at a step end. -/
def State.pubResult (s : State) (k : Nat) (f : Field) (e : StepEnv) (r : Pub) : F32 × F32 × Bool :=
  let g := s.grid k
  let val (i : Nat) : Option F32 := cellQty g e.pAmb f r.qty i
  let bad : F32 × F32 × Bool := (fNaN, fNaN, false)
  let ofExt (x : Option (F32 × Nat)) : F32 × F32 × Bool := match x with
    | some p => (p.1, cellSigma (f.at p.2) r.qty, true)
    | none => bad
  match r.kind with
  | 1 => match val r.arg0.toNat with
    | some v => (v, cellSigma (f.at r.arg0.toNat) r.qty, true)
    | none => bad
  | 2 =>
    let l := (rangeCells g f r.arg0).filterMap (fun i => (val i).map (fun v => (e.mdm i (f.at i), v, cellSigma (f.at i) r.qty)))
    if l = [] then bad
    else
      let w := fsum (l.map (fun p => p.1))
      (mdiv (fsum (l.map (fun p => mmul p.1 p.2.1))) w, mdiv (fsum (l.map (fun p => mmul p.1 p.2.2))) w, true)
  | 3 => ofExt (extreme true val (rangeCells g f r.arg0))
  | 5 => ofExt (extreme false val (rangeCells g f r.arg0))
  | 4 => match s.smap.pubs.find? (fun (q : Pub) => q.entry + 1 = r.entry && (q.kind = 3 || q.kind = 5)) with
    | some q =>
      match extreme (decide (q.kind = 3)) (fun i => cellQty g e.pAmb f q.qty i) (rangeCells g f q.arg0) with
      | some p => (fofRat ((2 * g.c3 p.2 + 1) * g.ez : Nat) 2000, BitVec.ofNat 32 p.2, true)
      | none => bad
    | none => bad
  | _ => bad

/-- The records a body's steps publish. -/
def State.bodyPubs (s : State) (k : Nat) : List Pub :=
  s.smap.pubs.filter (fun r => r.body = k && decide (1 ≤ r.kind ∧ r.kind ≤ 5))

def State.pubResults (s : State) (k : Nat) (e : StepEnv) : List (Nat × (F32 × F32 × Bool)) :=
  let f := liveOf (s.grid k).count (s.body k)
  (s.bodyPubs k).map (fun r => (r.entry, s.pubResult k f e r))

/-- Model time as the readings see it: a rollback does not move it back. -/
def Body.now (b : Body) : Nat := b.rollTo.getD b.tm

/-- Write the body's entries (R289, R291). -/
def State.bodyPublish (s : State) (k : Nat) : State :=
  let b := s.body k
  let find (l : List (Nat × (F32 × F32 × Bool))) (n : Nat) : F32 × F32 × Bool :=
    tget (fun _ => (fNaN, fNaN, false)) l n
  (s.each (s.bodyPubs k) (fun t r =>
    let v := if r.firm then find b.firmPubs r.entry else find b.lastPubs r.entry
    let vt := if r.firm then b.firm else b.tm
    t.publish r.entry v.1 v.2.1 (tickOf (vt * 1000000)) {
      valid := v.2.2, prov := !r.firm && decide (b.firm < b.tm), firmLag := (vt - b.firm) / 250,
      kind := r.kind, body := k })).putB (MILL_RUN_STATUS_PUBLISHED k) true

/-! ### Firm time (R281, R282) -/

def ratePeriodMs (rate : Nat) : Nat := [100, 50, 20, 10, 5, 2, 1].getD rate 1

/-- Period in ms of a live source; none when it is not live, or not a sensor (R281). -/
def State.livePeriod (s : State) (src : Word) : Option Nat :=
  let c := bits src 31 28
  if c = 0 then
    let i := bits src 4 0
    if s.on (FIELD_STATUS_BROKEN i) || s.on (FIELD_STATUS_FENCED i) || s.on (FIELD_STATUS_SETTLING i) ||
        s.on (FIELD_STATUS_TESTING i) then none
    else some (ratePeriodMs (s.get (FIELD_CFG_RATE i)))
  else if c = 1 then
    let p := bits src 20 16
    let a := bits src 15 8
    if ((s.port p).node a).state ≠ 1 then none
    else some (match s.smap.nodes.find? (fun r => r.p = p && r.addr = a) with
      | some r => r.periodMs
      | none => 1000)
  else none

/-- F of R281 in ns; none when it is infinite.  A source that an anchor with NO_HOLD names holds nothing back. -/
def State.complete (s : State) (k : Nat) : Option Nat :=
  let free (src : Word) : Bool := s.smap.anchors.any (fun a => a.noHold && decide (a.source = src))
  (s.smap.anchors.filter (fun a => a.body = k && !free a.source)).foldl (fun (m : Option Nat) a =>
    match s.livePeriod a.source with
    | none => m
    | some per =>
      let t := tget (fun _ => 0) (s.body k).lastStamp a.source.toNat + per * 1000000
      some (match m with | none => t | some x => min x t)) none

/-- The oldest checkpoint kept. (DEDUCED, log entry 102.) -/
def Body.oldest (b : Body) : Nat := match b.ring.getLast? with | some d => d.prev | none => b.tm

def State.leadEff (s : State) (k : Nat) : Nat :=
  let b := s.body k
  min (s.get (MILL_RUN_CFG_LEAD_S k) * 1000) (b.tm - b.oldest)

/-- The largest multiple of the step at or before a time: the ends of steps lie on them (R240). -/
def stepFloor (step t : Nat) : Nat := t / step * step

/-- The largest step end at or before a time, of those up to model time; steps of site time may have moved them off
the multiples (R165). (DEDUCED, log entry 102.) -/
def Body.endAt (b : Body) (step t : Nat) : Nat := if b.tm ≤ t then b.tm else b.tm - (b.tm - t + step - 1) / step * step

/-- Firm time after a step or a reading; it never falls (R281, R282). (DEDUCED, log entry 102.) -/
def State.firmTime (s : State) (k : Nat) : Nat :=
  let b := s.body k
  let st := s.stepMs k
  let byF := match s.complete k with
    | none => b.tm
    | some f => b.endAt st ((f - 1) / 1000000)
  max b.firm (max byF (b.endAt st (b.tm - s.leadEff k)))

/-- The publication results that the ring stores for a step end: those of its delta, or those that the delta of
the next step found. (DEDUCED, log entry 102.) -/
def Body.pubsAt (b : Body) (te : Nat) : Option (List (Nat × (F32 × F32 × Bool))) :=
  match b.ring.find? (fun d => d.te = te) with
  | some d => some d.pubs
  | none => (b.ring.find? (fun d => d.prev = te)).map (fun d => d.prevPubs)

/-- Firm time advances: results at it are kept, and older deltas are dropped (R284, R291).  It stands while a
rollback runs or waits to start. (DEDUCED, log entry 102.) -/
def State.firmAdvance (s : State) (k : Nat) : State :=
  let b := s.body k
  if b.rollTo.isSome ∨ b.late ≠ [] then s
  else
    let lead := s.leadEff k
    let f := s.firmTime k
    let res := if f = b.tm then b.lastPubs else if f = b.firm then b.firmPubs else (b.pubsAt f).getD b.firmPubs
    let ring := b.ring.filter (fun d => f < d.te)
    (((s.setBody k { b with firm := f, firmPubs := res, ring := ring }).put (MILL_RUN_STATUS_FIRM_LAG_S k)
      (satTo 8 ((b.tm - f) / 1000))).put (MILL_RUN_STATUS_LEAD_EFF_S k) (satTo 8 (lead / 1000))).put
      (MILL_RUN_STATUS_CHECKPOINTS k) (satTo 8 ring.length)

/-! ### The ring (R284) -/

def Delta.bytes (n : Nat) (d : Delta) : Nat :=
  20 * d.cells.length + 68 * d.tiles + (if d.oldFlux.isSome then 8 * n else 0)

/-- Drop the oldest deltas until the rest fits; true when one was dropped. (DEDUCED, log entry 99.) -/
def fitRing (n quota : Nat) : List Delta → Nat → List Delta × Bool
  | [], _ => ([], false)
  | d :: t, used =>
    if quota < used + d.bytes n then ([], true)
    else let r := fitRing n quota t (used + d.bytes n); (d :: r.1, r.2)

def State.ringPush (s : State) (k : Nat) (d : Delta) : State :=
  let b := s.body k
  let q := s.get (MILL_RUN_CFG_RING_QUOTA k)
  if q = 0 then s.setBody k { b with ring := [] }
  else
    let r := fitRing (s.grid k).count (q * 2 ^ 22) (d :: b.ring) 0
    let t := s.setBody k { b with ring := r.1, mDropped := b.mDropped || r.2 }
    if r.2 && !b.mDropped then t.mev 0x6033 k (t.leadEff k / 1000) q else t

/-! ### Airflow solves (R254 to R256) -/

/-- The body's solve runs on a quad. -/
def State.solveRuns (s : State) (k : Nat) : Bool := s.mill.quads.any (fun (p : Nat × Work) => p.2 = .solve k)

/-- A solve is wanted: it is queued, behind one that runs (R256). -/
def State.solveWant (s : State) (k cls : Nat) : State :=
  let b := s.body k
  match b.solving with
  | none => s.setBody k { b with solving := some { cls := cls } }
  | some r =>
    if s.solveRuns k then s.setBody k { b with solveAgain := some (min cls (b.solveAgain.getD cls)) }
    else s.setBody k { b with solving := some { r with cls := min cls r.cls } }

/-- Fan speeds and damper openings by boundary record. -/
def State.boundSpeeds (s : State) (k : Nat) (acts : List (Nat × Word)) : List (Nat × Word) :=
  (s.smap.bounds.zipIdx.filter (fun p => p.1.body = k && (p.1.kind = 0 || p.1.kind = 2))).map
    (fun p => (p.2, tget (fun _ => (0 : Word)) acts p.1.sEntry))

/-- A fan or damper moved by more than its delta since the last solve (R256). -/
def State.boundMoved (s : State) (k : Nat) (acts : List (Nat × Word)) : Bool :=
  (s.boundSpeeds k acts).any (fun p =>
    let kind := match s.smap.bounds[p.1]? with | some r => r.kind | none => 0
    let lim := if kind = 0 then s.get MILL_SOLVE_CFG_FAN_DELTA else s.get MILL_SOLVE_CFG_DAMPER_DELTA
    flt (fofRat lim 1000) (fabs (fsub p.2 (tget (fun _ => (0 : Word)) (s.body k).solveS p.1))))

/-- A solve begins on a quad, on the cells as the last completed step left them (R255, R256). -/
def State.solveStart (s : State) (k : Nat) : State :=
  match (s.body k).solving with
  | none => s
  | some r =>
    let rd := s.readInputs k s.est.actFront
    let b := rd.1.body k
    let g := rd.1.grid k
    let a := rd.1.airIn k 1 g (liveOf g.count b) rd.2
    rd.1.setBody k { b with
      solving := some (a.solve r.cls (a.startFlow b.fluxAt)), solveS := rd.1.boundSpeeds k s.est.actFront }

/-- A quad that does a piece of work is free again. -/
def State.quadFree (s : State) (w : Work) : State :=
  { s with mill := { s.mill with quads := s.mill.quads.filter (fun (p : Nat × Work) => p.2 ≠ w) } }

/-- The body's solve ends, with the passes, V-cycles and imbalance in ppm that it took: its field waits for the
next step to start, or the old field stays (R255, R256). (DESIGN CHOICE, log entry 90.) -/
def State.solveDone (s : State) (k passes cycles ppm : Nat) : State :=
  if !s.solveRuns k || !((s.body k).solving.any (fun r => r.passes = passes && r.cycles = cycles && r.ppm = ppm)) then s
  else
    let a := s.quadFree (.solve k)
    let b := a.body k
    match b.solving with
    | none => a
    | some r =>
      let good := decide (r.ppm ≤ 10000)
      let t := a.setBody k { b with
        solving := b.solveAgain.map (fun c => { cls := c }), solveAgain := none
        newField := if good then some r.field else b.newField }
      let u := (((t.put (MILL_AIR_STATUS_PICARD k) r.passes).put (MILL_AIR_STATUS_VCYCLES k) r.cycles).putB
        (MILL_AIR_STATUS_UNCONVERGED k) (!good)).put MILL_SOLVE_STATS_SOLVES (s.get MILL_SOLVE_STATS_SOLVES + 1)
      if good then u else u.mev 0x6020 k r.ppm r.passes

/-- Every PERIOD_S of model time (R256). -/
def State.solveDue (s : State) (k : Nat) : State :=
  let b := s.body k
  if s.bst k = bAbsent ∨ b.tm < b.nextSolve then s
  else
    let t := s.solveWant k 2
    t.setBody k { t.body k with nextSolve := b.tm + s.get MILL_SOLVE_CFG_PERIOD_S * 1000 }

/-! ### Snapshots (R294 to R296) -/

/-- The mean of codes, to nearest. -/
def meanCode (l : List Nat) (none_ : Nat) : Nat :=
  if l = [] then none_ else (rneDiv ((l.foldl (· + ·) 0 : Nat) : Int) l.length).toNat

/-- The commonest crop, the lowest index on a tie. -/
def commonCrop (l : List Cell) : Nat :=
  let n (c : Nat) : Nat := (l.filter (fun x => x.cf % 32 = c)).length
  (List.range 32).foldl (fun b c => if n b < n c then c else b) 0

/-- The coarse record of a tile (R294). -/
def tileRecord (cells : List Cell) : Cell :=
  let inside := cells.filter (fun c => !c.live.isVoid)
  let grain := cells.filter (fun c => c.grain)
  let air (f : Cell → Nat) : List Nat := (inside.map f).filter (fun x => x ≠ 0xFFFF)
  { tg := meanCode (grain.map (fun c => c.tg)) 0xFFFF, mg := meanCode (grain.map (fun c => c.mg)) 0xFFFF,
    ta := meanCode (air (fun c => c.ta)) 0xFFFF, wa := meanCode (air (fun c => c.wa)) 0xFFFF,
    ps := if grain = [] then 0x8000 else
      ofSigned 16 (rneDiv ((grain.map (fun c => toSigned 16 c.ps)).foldl (· + ·) 0) grain.length),
    dml := (grain.map (fun c => c.dml)).foldl max 0, fill := meanCode (inside.map (fun c => c.fill)) 0,
    cf := commonCrop grain, um := (cells.map (fun c => c.um)).foldl max 0,
    ut := (cells.map (fun c => c.ut)).foldl max 0 }

/-- The coarse snapshot of a body. -/
def State.coarse (s : State) (k : Nat) : List (Nat × Cell) :=
  let g := s.grid k
  let b := s.body k
  (List.range g.tiles).map (fun t => (t, tileRecord ((g.tileCells t).map b.cell)))

/-- The cells of a tile refilled from its coarse record, where `ok` has its crop (R230, R296).  Property words stay
with their places; the record of a tile without grain holds no PS, so its headspace takes `open_`.
(DESIGN CHOICE, log entries 97, 155.) -/
def refillTile (g : Grid) (b : Body) (open_ : Nat → Nat) (ok : Nat → Bool) (t : Nat) (r : Cell) : List (Nat × Cell) :=
  let inside := (g.tileCells t).filter (fun i => !g.isVoid i)
  let total := r.fill * inside.length
  let layers := (inside.map g.c3).eraseDups
  let put (i fill : Nat) : Nat × Cell :=
    let cf := (b.cell i).cf / 32 * 32
    let ps := if r.ps = 0x8000 then open_ i else r.ps
    if fill = 0 || !ok (r.cf % 32) then
      (i, { Cell.voidCell with ta := r.ta, wa := r.wa, ps := ps, cf := cf, prop := (b.cell i).prop })
    else (i, { r with
      ps := ps, fill := fill, cf := cf + r.cf % 32, rmg := 0, rtg := 0, rdml := 0, prop := (b.cell i).prop })
  (layers.foldl (fun (a : Nat × List (Nat × Cell)) z =>
    let l := inside.filter (fun i => g.c3 i = z)
    let each := min 255 (a.1 / l.length)
    (a.1 - each * l.length, a.2 ++ l.map (fun i => put i each))) (total, [])).2

/-- A valid PS code that is open. -/
def State.openPs (s : State) (j : Nat) : Nat :=
  let c := (s.freeAt 16 j).toNat
  if c = 0x8000 then 0x8001 else c

/-- A body takes up a coarse snapshot `age` ms old of snapshot area `area`, none for the staging region (R296):
variances grow, model time is the latest step end, entries are published.  The spec gives the staging region no
area number. (DESIGN CHOICE, log entry 97.) -/
def State.resumeFrom (s : State) (k : Nat) (tiles : List (Nat × Cell)) (age : Nat) (area : Option Nat) : State :=
  let g := s.grid k
  let b := s.body k
  let cells := (tiles.foldl (fun (a : List (Nat × Cell)) p => a ++ refillTile g b s.openPs s.cropValid p.1 p.2) []).foldl
    (fun (a : List (Nat × Cell)) p => tset (fun _ => {}) a p.1 p.2) b.cells
  let f : Field := flagBoundary g (cells.map (fun (p : Nat × Cell) => (p.1, p.2.live)))
  let flagged := cells.map (fun (p : Nat × Cell) => (p.1, { p.2 with cf := (f.at p.1).flags * 32 + p.2.cf % 32 }))
  let grown := s.growCells k (age / 1000) (fun _ => fofRat 1 2) flagged
  let tm := stepFloor (s.stepMs k) s.siteMs
  let c : Body := { b with
    cells := grown, tm := tm, firm := tm, ring := [], ready := [], run := none, late := [], readings := [],
    rollTo := none, rollSteps := [], acc := {}, holdDue := false, pauseDue := false, snapDue := false }
  let t := (s.tookN (g.count + 1)).setBody k { c with nextSolve := tm, resolveTe := none }
  let r := t.readInputs k t.est.actFront
  let res := r.1.pubResults k (r.1.stepEnv k r.2)
  let u := r.1.setBody k { r.1.body k with lastPubs := res, firmPubs := res }
  let v := ((u.setBst k bRunning).bodyPublish k).putB (MILL_RUN_STATUS_FROM_SNAPSHOT k) true
  (v.mev 0x6035 k (age / 1000) (area.getD (s.freeAt 32 g.count).toNat)).solveWant k 0

/-! ### Steps (R237 to R243, R257, R280, R285) -/

/-- Steps that have ended, the latest 32 kept. (DESIGN CHOICE, log entry 98.) -/
def Body.endSteps (b : Body) (l : List ItemEnd) : Body := { b with ends := (l ++ b.ends).take 32 }

/-- The queued steps are CANCELLED with a reason; the tables current at their ends are kept (R243, R280). -/
def Body.cancel (b : Body) (reason : Nat) : Body := b.endSteps (b.ready.map (fun p => ⟨p.1, 2, reason⟩))

/-- A running snapshot takes the body's contribution at its step end (R295). -/
def State.snapContribute (s : State) (k : Nat) : State :=
  if k ∈ s.mill.snapWait then
    let b := s.body k
    { s with mill := { s.mill with
        snapWait := s.mill.snapWait.filter (fun x => x ≠ k),
        snapGot := s.mill.snapGot ++ [(k, b.tm, b.digest, s.coarse k)] } }
  else s

/-- A body that stops keeps a coarse snapshot of its state (R244, R296, R298). -/
def State.stage (s : State) (k : Nat) : State :=
  (s.setBody k { s.body k with stoppedAt := s.tim.dp, staged := s.coarse k }).snapContribute k

/-- A hold takes effect (R243, R244); a body that a swap has paused stays so. (DESIGN CHOICE, log entry 98.) -/
def State.bodyHeld (s : State) (k : Nat) : State :=
  let b := s.body k
  let t := s.setBody k { b with holdDue := false, heldOn := true, heldAt := s.tim.dp }
  let u := if s.bst k = bPaused then t
    else ((t.setBody k ((t.body k).cancel 1)).stage k).setBst k bHeld
  u.mev 0x6013 k (b.tm / 1000 % 2 ^ 32)

/-- A swap or an import pauses the body (R98, R243, R298). (DESIGN CHOICE, log entry 98.) -/
def State.bodyPaused (s : State) (k : Nat) : State :=
  let b := s.body k
  let t := s.setBody k { b with pauseDue := false }
  let u := if b.heldOn then t else (t.setBody k ((t.body k).cancel 2)).stage k
  { u.setBst k bPaused with caddy := { u.caddy with swapPaused := u.caddy.swapPaused ++ [k] } }

/-- A hold and a pause that waited take effect. -/
def State.bodyStop (s : State) (k : Nat) : State :=
  let a := if (s.body k).holdDue then s.bodyHeld k else s
  if (a.body k).pauseDue then a.bodyPaused k else a

/-- A step starts (R280); a first run takes a new field into use, a re-step the one its step took (R256, R284).
(DEDUCED, log entry 93.) -/
def State.stepStart (s : State) (k : Nat) (x : ReStep) (again : Bool) : State :=
  let b := s.body k
  s.setBody k { b with
    newField := if again then b.newField else none
    run := some {
      te := x.te, inputs := x.inputs, tiles := List.range (s.grid k).tiles, began := s.tim.dp, again := again,
      recorded := x.readings, field := if again then x.field else b.newField } }

/-- The inputs of a re-step: estimate-entry inputs from a source with late readings in its interval take the mean
of all readings of the source in it, the recorded ones among them (R276, R285). -/
def State.lateInputs (s : State) (k lo : Nat) (x : ReStep) : StepInputs :=
  let late := (s.body k).readings.filter (fun r =>
    !r.aged && decide (lo * 1000000 < r.stamp ∧ r.stamp ≤ x.te * 1000000))
  let from_ (src : Word) (l : List Reading) : List Reading := l.filter (fun q =>
    match s.smap.anchors[q.anchor]? with | some a => decide (a.source = src) | none => false)
  { x.inputs with ests := x.inputs.ests.map (fun (p : Nat × (Word × Word × Bool)) =>
      match s.smap.pubs.find? (fun r => r.entry = p.1 && r.kind = 0) with
      | none => p
      | some r =>
        let m := from_ r.arg0 (x.readings.filter (fun q => !q.aged) ++ late)
        if from_ r.arg0 late = [] then p
        else (p.1, mdiv (fsum (m.map (fun q => q.value))) (fofNat m.length), p.2.2.1, true)) }

/-- The steps due up to site time, each with the table current at its end where it was kept.
(DEDUCED, log entry 93.) -/
def State.readyUpTo (s : State) (k : Nat) : List (Nat × List (Nat × Word)) :=
  let b := s.body k
  let st := s.stepMs k
  (List.range ((s.siteMs - b.tm) / st)).map (fun j =>
    let te := b.tm + (j + 1) * st
    (b.ready.find? (fun p => p.1 = te)).getD (te, s.est.actFront))

/-- An aged reading (R283): σ_y grows with its age, the next step takes it, it is counted. -/
def State.readingAged (s : State) (k : Nat) (r : Reading) : State :=
  let b := s.body k
  let tm := b.now * 1000000
  let tau := fofNat (s.get (MILL_RUN_CFG_AGE_TAU_S k))
  let grow := madd (fofNat 1) (mdiv (fofRat (tm - r.stamp : Nat) 1000000000) tau)
  (s.setBody k { b with
    readings := b.readings ++ [{ r with sigma := mmul r.sigma grow, aged := true }]
    mAged := b.mAged + 1, mOldest := max b.mOldest ((tm - r.stamp) / 1000000000) }).inc (MILL_RB_STATS_LATE_AGED k)

/-- A rollback starts (R285): deltas are undone to the checkpoint before the earliest late stamp.  Late readings
whose checkpoint the quota has dropped since are taken as aged. (DEDUCED, log entry 99.) -/
def State.rollStart (s0 : State) (k : Nat) : State :=
  let b0 := s0.body k
  let within (r : Reading) : Bool := decide (b0.oldest * 1000000 < r.stamp)
  let s := (s0.setBody k { b0 with late := b0.late.filter within }).each (b0.late.filter (fun r => !within r))
    (fun t r => t.readingAged k r)
  let b := s.body k
  if b.late = [] then s
  else
  let st := s.stepMs k
  let first := b.late.foldl (fun m r => min m r.stamp) (b.tm * 1000000)
  let c := b.tm - ((b.tm * 1000000 - first) / (st * 1000000) + 1) * st
  let undo := b.ring.filter (fun d => c < d.te)
  let cells := undo.foldl (fun (a : List (Nat × Cell)) d => d.cells.foldl (fun a p => tset (fun _ => {}) a p.1 p.2) a) b.cells
  let b' : Body := { b.cancel 3 with
    cells := cells, tm := c, rollTo := some b.tm
    rollSteps := undo.reverse.map (fun d => { te := d.te, inputs := d.inputs, readings := d.readings, field := d.field })
    acc := (match undo.getLast? with | some d => d.acc | none => b.acc)
    flux := undo.foldl (fun a d => d.oldFlux.getD a) b.flux
    lastPubs := (match undo.getLast? with | some d => d.prevPubs | none => b.lastPubs)
    ring := b.ring.filter (fun d => d.te ≤ c), readings := b.readings ++ b.late, late := []
    mRoll := b.mRoll + 1, mDeep := max b.mDeep ((b.tm - c) / 1000) }
  ((s.setBody k b').putB (MILL_RUN_STATUS_ROLLING k) true).inc (MILL_RB_STATS_ROLLBACKS k)

/-- What the body does next when no step runs and no rollback waits. -/
def State.bodyIdle (s : State) (k : Nat) : State :=
  let b := s.body k
  if b.holdDue || b.pauseDue then s.bodyStop k
  else if s.bst k ≠ bRunning then s
  else match b.ready with
    | [] => s
    | (te, acts) :: rest =>
      let r := (s.setBody k { b with ready := rest }).readInputs k acts
      r.1.stepStart k { te := te, inputs := r.2 } false

/-- The next re-step of a rollback. -/
def State.rollStep (s : State) (k : Nat) (x : ReStep) (rest : List ReStep) : State :=
  let t := s.setBody k { s.body k with rollSteps := rest }
  t.stepStart k { x with inputs := t.lateInputs k (s.body k).tm x } true

/-- A rollback has reached its model time again: entries are published; with readings for a second one that
follows at once (R285, R286). -/
def State.rollEnd (s : State) (k : Nat) : State :=
  let t := (s.setBody k { s.body k with rollTo := none }).putB (MILL_RUN_STATUS_ROLLING k) false
  let u := (t.firmAdvance k).bodyPublish k
  u.setBody k { u.body k with ready := u.readyUpTo k }

/-- The lanes work: the data plane is up and no thermal halt has abandoned the steps (R65, R399). -/
def State.lanesUp (s : State) : Bool := s.dpUp && !s.guard.halted

/-- What a body does next: a re-step or the end of a rollback, a rollback, or its next step (R241, R285, R286).
An export holds every step back (R298). -/
def State.bodyGo : Nat → State → Nat → State
  | 0, s, _ => s
  | n + 1, s, k =>
    let b := s.body k
    if b.run.isSome || b.exporting || !s.lanesUp then s
    else if b.rollTo.isSome then
      match b.rollSteps with
      | x :: rest => s.rollStep k x rest
      | [] => State.bodyGo n (s.rollEnd k) k
    else if b.late ≠ [] && s.bst k = bRunning then State.bodyGo n (s.rollStart k) k
    else s.bodyIdle k

/-- At most a rollback's end, a second rollback's start and its first step follow at once. -/
def State.bodyNext (s : State) (k : Nat) : State := State.bodyGo 4 s k

/-- A step becomes ready (R240, R280); while the body is held, paused or in a rollback the table is kept. -/
def State.stepReady (s : State) (k : Nat) : State :=
  let b := s.body k
  let last := match b.ready.getLast? with
    | some p => p.1
    | none => (match b.run with | some r => max r.te b.now | none => b.now)
  let te := last + s.stepMs k
  if s.bst k = bAbsent ∨ s.bst k = bStarting ∨ s.siteMs < te ∨ !s.lanesUp then s
  else (s.setBody k { b with ready := b.ready ++ [(te, s.est.actFront)] }).bodyNext k

/-- The readings of a step: those recorded for it, those of its interval, and for a first run the aged
ones. -/
def Body.stepReadings (b : Body) (r : StepRun) : List Reading × List Reading :=
  let mine (x : Reading) : Bool :=
    if x.aged then !r.again else decide (b.tm * 1000000 < x.stamp ∧ x.stamp ≤ r.te * 1000000)
  (r.recorded ++ b.readings.filter mine, b.readings.filter (fun x => !mine x))

/-- The cells of a step before assimilation, with what it did to get them. -/
structure StepOut where
  cells : List (Nat × Cell)
  move : MoveOut
  substeps : Nat
  limit : Bool
  turned : Bool

/-- DML never falls but in a cell whose grain the movement changed (R227). -/
def dmlFloor (old : Nat → Cell) (still moved : Field) (i : Nat) : Nat :=
  if (still.at i).dml = (moved.at i).dml then (old i).dml % 0xFFFF else 0

/-- The integration and the movement of a step (R257); a cell that read a bad word keeps its record with unknown
variances (R239). -/
def State.stepCells (s : State) (k : Nat) (r : StepRun) (b : Body) : StepOut :=
  let g := s.grid k
  let e := (s.setBody k b).stepEnv k r.inputs
  let n := e.integrate (fofNat (s.stepMs k / 1000)) (liveOf g.count b)
  let m := moveGrain g (s.moveIn k r.inputs e) b.acc n.2.2
  let stored := storeField (dmlFloor b.cell n.2.2 m.field) (flagBoundary g m.field) b.cell
  let old := s.body k
  { cells := (r.bad ++ old.badCells).foldl (fun (a : List (Nat × Cell)) i =>
      if i < g.count then tset (fun _ => {}) a i { old.cell i with um := 255, ut := 255 } else a) stored
    move := m, substeps := n.1, limit := n.2.1, turned := layerTurned g n.2.2 m.field }

/-- The field that a solve left applies: fluxes, and PS of every cell (R256). -/
def Body.applyField (b : Body) (f : Option AirField) : Body :=
  match f with
  | none => b
  | some p => { b with
      flux := p.1, cells := p.2.foldl (fun (a : List (Nat × Cell)) q =>
        tset (fun _ => {}) a q.1 { tget (fun _ => ({} : Cell)) a q.1 with ps := q.2 }) b.cells }

/-- Highest layer that holds grain, 0xFFF when empty. -/
def surfaceLayer (g : Grid) (b : Body) : Nat :=
  match (List.range g.nz).reverse.find? (fun c => (layerOf g c g.n2).any (fun i => (b.cell i).grain)) with
  | some c => c
  | none => 0xFFF

/-- The last tile of a step is done (R239, R242, R243, R257, R276 to R279, R284, R291). -/
def State.stepDone (s : State) (k : Nat) (r : StepRun) : State :=
  let g := s.grid k
  let b := s.body k
  let st := s.stepMs k
  let pre := b.applyField r.field
  let c := s.stepCells k r pre
  let m := c.move
  let grown := s.growCells k (st / 1000) (ditherOf r.te st) c.cells
  let rd := b.stepReadings r
  let asm := (mergeReadings r.te st rd.1).foldl (fun (a : List (Nat × Cell) × List Nat) x =>
    let y := s.applyReading k g a.1 x
    (y.1, if y.2 then x.anchor :: a.2 else a.2)) (grown, [])
  let changed := ((List.range g.count).filter (fun i => tget (fun _ => ({} : Cell)) asm.1 i ≠ b.cell i)).map
    (fun i => (i, b.cell i))
  let b1 : Body := { pre.endSteps [⟨r.te, if r.bad = [] then 0 else 1, if r.bad = [] then 0 else 1⟩] with
    cells := asm.1, badCells := [], acc := m.acc, tm := r.te, run := none, readings := rd.2,
    solvedAt := if r.field.isSome then b.tm else b.solvedAt,
    resolveTe := if r.field.isSome then some r.te else b.resolveTe,
    mSubst := b.mSubst + if c.limit then 1 else 0, mLost := madd b.mLost m.lost,
    mUnder := b.mUnder + (if m.underrun then 1 else 0), mGated := b.mGated + asm.2.length,
    mGatedLast := asm.2.headD b.mGatedLast }
  let s1 := (s.setBody k b1).tookN (2 + 2 * g.count)
  let pubs := s1.pubResults k (s1.stepEnv k r.inputs)
  let s2 := s1.setBody k { b1 with lastPubs := pubs }
  let s3 := s2.ringPush k {
    te := r.te, prev := b.tm, cells := changed, tiles := ((changed.map (fun p => g.tile p.1)).eraseDups).length,
    inputs := r.inputs, acc := b.acc, oldFlux := if r.field.isSome then some b.flux else none,
    field := r.field, readings := rd.1, pubs := pubs, prevPubs := b.lastPubs }
  let dead := ((if r.again then b.now else r.te) + st) * 1000000
  let late := decide (dead < s.tim.dp)
  let lag := satTo 8 ((s.tim.dp - dead) / 1000000000)
  let s4 := (((s3.inc (MILL_STEP_COUNT_STEPS k)).put (MILL_BODY_STATUS_LAG_S k) lag).put
    (MILL_BODY_STATUS_LAST_STEP_MS k) (satTo 16 ((s.tim.dp - r.began) / 1000000))).put (MILL_AIR_STATUS_SUBSTEPS k)
    c.substeps
  let s5 := if late then
    let x := s4.body k
    ((s4.setBody k { x with mLate := x.mLate + 1, mLag := max x.mLag lag }).putB (MILL_BODY_STATUS_LATE k) true).put
      MILL_SCHED_STATS_LATE_STEPS (s4.get MILL_SCHED_STATS_LATE_STEPS + 1) else s4
  let s6 := (((((s5.put MILL_SOLVE_STATS_SUBST_LIMIT (s.get MILL_SOLVE_STATS_SUBST_LIMIT + if c.limit then 1 else 0)).put
    MILL_ASSIM_STATS_GATED (s.get MILL_ASSIM_STATS_GATED + asm.2.length)).put (MILL_MOVE_STATUS_SHIFTS k)
    (s.get (MILL_MOVE_STATUS_SHIFTS k) + m.shifts)).put (MILL_MOVE_STATUS_SURFACE k) (surfaceLayer g (s5.body k))).put
    (MILL_AIR_STATUS_SOLVE_AGE_S k) (satTo 8 ((r.te - (s5.body k).solvedAt) / 1000)))
  let s7 := s6.putB (MILL_MOVE_STATUS_OVERFILL k) (s6.on (MILL_MOVE_STATUS_OVERFILL k) || m.overfill)
  let s8 := s7.putB (MILL_MOVE_STATUS_UNDERRUN k) (s7.on (MILL_MOVE_STATUS_UNDERRUN k) || m.underrun)
  let s9 := if r.again then s8 else ((s8.firmAdvance k).bodyPublish k).snapContribute k
  let s10 := if c.turned then s9.solveWant k 0 else s9
  s10.bodyNext k

/-- Quad `q` completes a tile of the step in progress and is free; `bad` cells read an uncorrectable word (R237,
R239). -/
def State.tileDone (s0 : State) (k tile : Nat) (bad : List Nat) (q : Nat) : State :=
  if !(s0.mill.quads.contains (q, .tile k tile)) then s0
  else
    let s := s0.quadFree (.tile k tile)
    let b := s.body k
    match b.run with
    | none => s
    | some r =>
      let r' : StepRun := { r with tiles := r.tiles.filter (fun x => x ≠ tile), bad := r.bad ++ bad }
      let u := s.setBody k { b with run := some r' }
      let v := if bad = [] then u
        else (u.inc MILL_TILE_STATS_UNCORR_TILES).mev 0x6015 k tile bad.length (decide (b.firm < r.te))
      if r'.tiles = [] then v.stepDone k r' else v

/-! ### Readings (R276, R281, R283, R285, R495) -/

/-- A reading of an anchor record arrives (R281, R283): firm time takes note of its source's latest stamp whatever
becomes of it. (DEDUCED, log entry 102.) -/
def State.readingTake (s0 : State) (a : Anchor) (r : Reading) : State :=
  let k := a.body
  let s := s0.firmAdvance k
  let b := s.body k
  let tm := b.now * 1000000
  let t := s.setBody k { b with
    lastStamp := tset (fun _ => 0) b.lastStamp a.source.toNat (max r.stamp (tget (fun _ => 0) b.lastStamp a.source.toNat)) }
  let x := t.body k
  if s0.bst k = bAbsent then s0.inc MILL_ASSIM_STATS_DISCARDED
  else if b.heldOn then (t.firmAdvance k).inc MILL_ASSIM_STATS_DISCARDED
  else if s.bst k = bStarting ∨ tm < r.stamp then (t.setBody k { x with readings := x.readings ++ [r] }).firmAdvance k
  else if r.stamp + 3600000000000 < tm then
    ((t.setBody k { x with mAged := x.mAged + 1, mOldest := max x.mOldest ((tm - r.stamp) / 1000000000) }).firmAdvance
      k).inc MILL_ASSIM_STATS_DISCARDED
  else
    let crossed := (b.run.any (fun q => q.field.isSome)) || (b.resolveTe.any (fun e => decide (r.stamp ≤ e * 1000000)))
    if r.stamp ≤ b.firm * 1000000 || crossed then (t.readingAged k r).firmAdvance k
    else if b.rollTo.isSome && decide (b.tm * 1000000 < r.stamp) &&
        (b.run.all (fun q => decide (q.te * 1000000 < r.stamp))) then
      t.setBody k { x with readings := x.readings ++ [r] }
    else (t.setBody k { x with late := x.late ++ [r] }).bodyNext k

/-- A reading forwarded to an anchor record arrives; with its own σ_y where the record gives none (R274, R283).
One that no source has forwarded does not. (DESIGN CHOICE, log entry 148.) -/
def State.readingArrive (s : State) (anchor : Nat) (value sigma : F32) (stamp : Nat) : State :=
  let r : Reading := { anchor := anchor, value := value, sigma := sigma, stamp := stamp }
  match s.smap.anchors[anchor]? with
  | none => s.inc MILL_ASSIM_STATS_DISCARDED
  | some a =>
    if r ∈ s.mill.inbox then
      State.readingTake { s with mill := { s.mill with inbox := s.mill.inbox.erase r } } a
        { r with sigma := if fIsNaN a.sigma then r.sigma else a.sigma }
    else s

/-! ### Holds, coasting, cold start (R244, R291, R297) -/

/-- MILL_BODY_CTRL hold (R243, R244); a body that has not started is held once it has. -/
def State.bodyHold (s : State) (k : Nat) : State :=
  let b := s.body k
  if s.bst k = bAbsent ∨ b.heldOn then s
  else if s.bst k = bStarting ∨ b.run.isSome ∨ b.rollTo.isSome then s.setBody k { b with holdDue := true }
  else s.bodyHeld k

/-- A body goes on from where it stopped, through every step end since (R98, R244). -/
def State.stepThrough (s : State) (k : Nat) : State :=
  let t := s.setBst k bRunning
  t.setBody k { t.body k with ready := t.readyUpTo k }

/-- A body resumes as from the coarse snapshot taken when it stopped (R244, R296). -/
def State.resumeStaged (s : State) (k : Nat) : State :=
  let b := s.body k
  s.resumeFrom k b.staged ((s.tim.dp - b.stoppedAt) / 1000000) none

/-- MILL_BODY_CTRL resume (R244); a body that a swap has paused too goes on when the swap lets it.
(DESIGN CHOICE, log entry 36.) -/
def State.bodyResume (s : State) (k : Nat) : State :=
  let b := s.body k
  let long := decide (s.get (MILL_RUN_CFG_LEAD_S k) * 1000000000 ≤ s.tim.dp - b.heldAt)
  let t := s.setBody k { b with heldOn := false, snapDue := b.snapDue || (long && decide (s.bst k = bPaused)) }
  let param : Nat := if long then 1 else 0
  if !b.heldOn then s
  else if s.bst k = bPaused then t.mev 0x6014 k param
  else ((if long then t.resumeStaged k else t.stepThrough k).mev 0x6014 k param).bodyNext k

/-- σ² grows by q over the time since model time (R291). (DEDUCED, log entry 96.) -/
def State.coastSigma (s : State) (k qty secs : Nat) (sigma : F32) : F32 :=
  let code := if qty = 0 ∨ qty = 2 then s.get (MILL_NOISE_QT_CODE k) else s.get (MILL_NOISE_QM_CODE k)
  let inv : Nat := if qty = 0 ∨ qty = 2 then 10000 else 1000000
  if 2 < qty ∨ fIsNaN sigma ∨ code = 255 then sigma
  else
    let q := mdiv (mmul (mdiv (pow8 code) (fofNat inv)) (fofNat secs)) (fofNat 3600)
    fsqrt (madd (mmul sigma sigma) q)

/-- Once a second while a body is held or paused (R291). (DEDUCED, log entry 96.) -/
def State.coast (s : State) (k : Nat) : State :=
  let b := s.body k
  if s.bst k ≠ bHeld ∧ s.bst k ≠ bPaused then s
  else
    let secs := (s.siteMs - b.tm) / 1000
    s.each (s.bodyPubs k) (fun t r =>
      let v := tget (fun _ => (fNaN, fNaN, false)) (if r.firm then b.firmPubs else b.lastPubs) r.entry
      let vt := if r.firm then b.firm else b.tm
      t.publish r.entry v.1 (if r.kind = 4 then v.2.1 else s.coastSigma k r.qty secs v.2.1)
        (tickOf (vt * 1000000)) {
          valid := v.2.2, prov := !r.firm && decide (b.firm < b.tm), coasting := true,
          firmLag := (vt - b.firm) / 250, kind := r.kind, body := k })

/-- The reading nearest to a cell among those of some quantities, within 4 R_H of its anchor (R297). -/
def State.nearest (s : State) (g : Grid) (l : List Reading) (qtys : List Nat) (i : Nat) : Option (Anchor × Reading) :=
  (l.foldl (fun (m : Option (F32 × Anchor × Reading)) r =>
    match s.smap.anchors[r.anchor]? with
    | none => m
    | some a =>
      let d := madd (g.horiz2 i a.cell) (g.vert2 i a.cell)
      if a.qty ∉ qtys || flt (fofRat (16 * a.rh * a.rh : Nat) 1000000) d then m
      else match m with
        | some b => if flt b.1 d then m else some (d, a, r)
        | none => some (d, a, r)) none).map (fun p => p.2)

/-- After SEED_WAIT_S a cold body seeds its cells from readings (R297). (DESIGN CHOICE, log entry 95.) -/
def State.coldSeed (s : State) (k : Nat) : State :=
  let b := s.body k
  if s.bst k ≠ bStarting then s
  else
    let g := s.grid k
    let rs := s.readInputs k s.est.actFront
    let e := rs.1.stepEnv k rs.2
    let crop := s.get (MILL_BODY_CFG_DEFAULT_CROP k)
    let q := s.cropF crop
    let c5 := q 40
    let levels := b.readings.filter (fun r => match s.smap.anchors[r.anchor]? with | some a => a.qty = 4 | none => false)
    let top (i : Nat) : Option F32 :=
      (levels.foldl (fun (m : Option (F32 × F32)) r => match s.smap.anchors[r.anchor]? with
        | none => m
        | some a =>
          let d := g.horiz2 i a.cell
          match m with
          | some p => if flt d p.1 then some (d, msub r.value a.bias) else m
          | none => some (d, msub r.value a.bias)) none).map (fun p => p.2)
    let fill (i : Nat) : Nat :=
      if g.isVoid i || !s.cropValid crop then 0
      else if !g.cyl then 255
      else match top i with
        | none => 255
        | some y =>
          let codes := ftoInt (mdiv (mmul (msub y (fofNat (g.c3 i * g.ez))) (fofNat 255)) (fofNat g.ez))
          (clampI 0 255 codes).toNat
    let seed (i : Nat) : Nat × Cell :=
      let fl := fill i
      let flags := (b.cell i).cf / 32
      let air : Cell := { Cell.voidCell with
        ta := (rs.1.freeAt 16 (3 * i)).toNat % 65535, wa := (rs.1.freeAt 16 (3 * i + 1)).toNat % 65535,
        ps := rs.1.openPs (3 * i + 2), cf := flags * 32, prop := (b.cell i).prop }
      if g.isVoid i then (i, { Cell.voidCell with cf := 64 })
      else if fl = 0 then (i, air)
      else
        let tr := s.nearest g b.readings [0, 2] i
        let mr := s.nearest g b.readings [1, 3] i
        let th := match tr with | some p => msub p.2.value p.1.bias | none => e.tAmb
        let m := match mr with
          | some p => if p.1.qty = 3 then msub (rhReading (s.cropByte crop 17) q th p.2.value).1 p.1.bias
              else msub p.2.value p.1.bias
          | none => mdiv (mmul (fofNat 100) c5) (madd (fofNat 1) c5)
        (i, { air with
          tg := storeCode th 100 6000, mg := storeCode m 1000 0, dml := 0, fill := fl, cf := flags * 32 + crop,
          ut := if tr.isSome then 160 else 224, um := if mr.isSome then 160 else 224 })
    let cells := ((List.range g.count).map seed).foldl (fun (a : List (Nat × Cell)) p => tset (fun _ => {}) a p.1 p.2) []
    let f : Field := flagBoundary g (cells.map (fun (p : Nat × Cell) => (p.1, p.2.live)))
    let flagged := cells.map (fun (p : Nat × Cell) => (p.1, { p.2 with cf := (f.at p.1).flags * 32 + p.2.cf % 32 }))
    let tm := stepFloor (s.stepMs k) s.siteMs
    let used := ((b.readings.map (fun r => r.anchor)).eraseDups).length
    let t := (rs.1.tookN (3 * g.count)).setBody k { rs.1.body k with
      cells := flagged, tm := tm, firm := tm, readings := [], nextSolve := tm }
    let res := t.pubResults k (t.stepEnv k rs.2)
    let u := t.setBody k { t.body k with lastPubs := res, firmPubs := res }
    ((((((u.setBst k bRunning).putB (MILL_RUN_STATUS_COLD k) true).bodyPublish k).mev 0x6036 k used).put
      (MILL_MOVE_STATUS_SURFACE k) (surfaceLayer g (u.body k))).solveWant k 0).bodyNext k

end Sys2Proof.Machine
end

