-- ==== Sys2Proof/Machine/MillWork.lean ====
section
/-! DEFINITION. The Millstone's other work: forecasts, coarse snapshots and their files, the dispatch of work to
quads, minute reports, load (R223, R236 to R245, R292 to R298). -/

namespace Sys2Proof.Machine

open Reg

/-! ### Forecasts (R292, R293) -/

/-- A step waits behind the one in progress: the lanes cannot keep up (R242). (DEDUCED, log entry 94.) -/
def State.overloaded (s : State) : Bool :=
  s.mill.bodies.any (fun (p : Nat × Body) => p.2.ready ≠ [] && p.2.run.isSome)

/-- The forecast grid: one cell per tile (R237). (DESIGN CHOICE, log entry 101.) -/
def State.fcGrid (s : State) (k : Nat) : Grid :=
  let g := s.grid k
  { cyl := g.cyl, n1 := g.t1, n2 := g.t2, nz := (g.nz + 7) / 8, e1 := 8 * g.e1, e2 := 8 * g.e2, ez := 8 * g.ez
    rings := if g.cyl then (List.range ((g.nz + 7) / 8)).map (fun c =>
      ((List.range 8).map (fun z => (g.rings.getD (8 * c + z) 0 + 7) / 8)).foldl max 0) else [] }

/-- The mean record of a tile, with mean DML and property word; a tile of void cells alone is void.
(DESIGN CHOICE, log entry 101.) -/
def meanRecord (void : Bool) (l : List Cell) : Cell :=
  if void then Cell.voidCell
  else
    let grain := l.filter (fun c => c.grain)
    let r := tileRecord l
    let prop (f : Nat → Nat) : Nat := meanCode (grain.map (fun c => f c.prop)) 0x80
    { r with
      dml := meanCode (grain.map (fun c => c.dml)) 0xFFFF, cf := r.cf % 32
      prop := prop (· / 256) * 256 + prop (· % 256) }

/-- The mean σ of a quantity over cells (R293). -/
def meanSigma (l : List Live) (qty : Nat) : F32 :=
  let v := (l.filter (fun x => x.grain)).map (fun x => cellSigma x qty)
  if v = [] then fNaN else mdiv (fsum v) (fofNat v.length)

/-- A forecast run falls due (R293): it is queued, behind one that has not ended. -/
def State.forecastStart (s : State) (k : Nat) : State :=
  let set_ (l : List (Nat × FcRun)) : State := { s with mill := { s.mill with forecasts := l } }
  if s.bst k ≠ bRunning then s
  else match s.mill.forecasts.find? (fun p => p.1 = k) with
    | some p => set_ (s.mill.forecasts.map (fun q => if q.1 = k then (k, { p.2 with next := true }) else q))
    | none => set_ (s.mill.forecasts ++ [(k, {})])

/-- The probes of a body. -/
def State.bodyProbes (s : State) (k : Nat) : List Probe := s.smap.probes.filter (fun r => r.body = k)

/-- A forecast run begins on a quad: tile means of the latest state, and every input held (R293).  SIGMA of a
MODE 1 probe is that of the lowest layer of tiles. (DESIGN CHOICE, log entry 101.) -/
def State.forecastBegin (s : State) (k : Nat) : State :=
  let rd := s.readInputs k s.est.actFront
  let t := rd.1
  let b := t.body k
  let g := t.grid k
  let h := t.fcGrid k
  let cells := (List.range h.count).foldl (fun (a : List (Nat × Cell)) i =>
    tset (fun _ => {}) a i (meanRecord (h.isVoid i) ((g.tileCells i).map b.cell))) []
  let of_ (r : Probe) : List Nat :=
    if r.mode = 0 then g.tileCells r.tile else (List.range g.count).filter (fun i => decide (g.c3 i < 8))
  let sig := (t.bodyProbes k).map (fun r => (r.probe, meanSigma ((of_ r).map (fun i => (b.cell i).live)) r.qty))
  { t with mill := { t.mill with forecasts := t.mill.forecasts.map (fun q => if q.1 = k then
      (k, { q.2 with tm := b.tm, prov := decide (b.firm < b.tm), cells := cells, inputs := rd.2, acc := b.acc, sigma := sig })
      else q) } }

/-- The state of a forecast run after a step, and the grain that left layer 0 in it. -/
structure FcStep where
  field : Field
  acc : MoveAcc
  gone : List (Nat × Live) := []

/-- Grain that leaves layer 0 in `n` layer copies of plug flow (R264, R292). -/
def leaving (g : Grid) (inl : Inlet) : Nat → Field → List (Nat × Live)
  | 0, _ => []
  | n + 1, f => (layerOf g 0 g.n2).map (fun i => (i, f.at i)) ++ leaving g inl n (plugShift g inl f)

/-- A field stored and read back (R227, R268). -/
def restored (still moved : Field) (old : Field) : Field :=
  let keep (i : Nat) : Cell := (old.at i).store 0
  ((List.range old.length).map (fun i =>
    (i, ((moved.at i).store (dmlFloor keep still moved i)).live)))

/-- One forecast step of 8 STEP_S (R293). -/
def fcStep (e : StepEnv) (p : MoveIn) (x : FcStep) : FcStep :=
  let n := e.integrate p.dt x.field
  let m := moveGrain e.grid p x.acc n.2.2
  { field := restored n.2.2 (flagBoundary e.grid m.field) x.field, acc := m.acc
    gone := if p.mode = 1 then leaving e.grid p.inlet m.shifts n.2.2 else [] }

def fcSteps (e : StepEnv) (p : MoveIn) : Nat → FcStep → FcStep
  | 0, x => x
  | n + 1, x => fcSteps e p n (fcStep e p x)

/-- The airflow of a forecast grid, solved once; a solve that does not converge leaves the air at rest.
(DESIGN CHOICE, log entry 101.) -/
def State.fcFlux (s : State) (k : Nat) (r : FcRun) (f : Field) : AirField :=
  let a := s.airIn k 8 (s.fcGrid k) f r.inputs
  let x := a.solve 3 (a.startFlow (fun _ => {}))
  if x.ppm ≤ 10000 then x.field else ([], [])

/-- The value of a probe at its horizon (R292, R293); a step in which no grain leaves gives no outflow mean.
(DESIGN CHOICE, log entry 101.) -/
def State.probeValue (s : State) (k : Nat) (r : FcRun) (q : Probe) : Option F32 :=
  let h := s.fcGrid k
  let f0 : Field := (List.range h.count).map (fun i => (i, (tget (fun _ => {}) r.cells i).live))
  let air := s.fcFlux k r f0
  let f1 : Field := air.2.foldl (fun (t : Field) p => t.put p.1 { t.at p.1 with ps := toSigned 16 p.2 }) f0
  let e := s.envOn k 8 h (fun i => tget (fun _ => {}) air.1 i) r.inputs
  let dt := 8 * s.stepMs k
  let p : MoveIn := { s.moveIn k r.inputs e with dt := fofNat (dt / 1000) }
  let x := fcSteps e p ((q.horizon * 1000 + dt - 1) / dt) { field := f1, acc := r.acc }
  if q.mode = 0 then cellQty h e.pAmb x.field q.qty q.tile
  else
    let g : Field := x.gone.zipIdx.map (fun y => (y.2, y.1.2))
    let l := x.gone.zipIdx.filterMap (fun y => (cellQty h e.pAmb g q.qty y.2).map (fun v => (e.mdm y.1.1 y.1.2, v)))
    if l = [] then none else some (mdiv (fsum (l.map (fun y => mmul y.1 y.2))) (fsum (l.map (fun y => y.1))))

/-- A body's forecast run is taken off the list, or starts over where the next one fell due (R293). -/
def State.forecastNext (s : State) (k : Nat) (r : FcRun) : State :=
  let t := s.quadFree (.forecast k)
  let rest := t.mill.forecasts.filter (fun p => p.1 ≠ k)
  { t with mill := { t.mill with forecasts := if r.next then rest ++ [(k, {})] else rest } }

/-- A forecast run ends after `ms` ms (R293). -/
def State.forecastDone (s : State) (k ms : Nat) : State :=
  match s.mill.forecasts.find? (fun p => p.1 = k), s.mill.quads.any (fun (p : Nat × Work) => p.2 = .forecast k) with
  | some (_, r), true =>
    let mine := s.bodyProbes k
    let far := (mine.map (fun p => p.horizon)).foldl max 0
    let u := ((s.forecastNext k r).inc MILL_FCST_STATUS_RUNS).put MILL_FCST_STATUS_LAST_RUN_MS (satTo 16 ms)
    if far * 1000 < s.get MILL_FCST_CFG_SPEED * ms then u.inc MILL_PROBE_STATUS_FCST_DEFERRED
    else
      (u.each (s.smap.pubs.filter (fun p => p.kind = 6 && p.body = k)) (fun v p =>
        match mine.find? (fun q => q.probe = bits p.arg0 5 0) with
        | none => v
        | some q =>
          let sg := s.coastSigma k q.qty q.horizon (tget (fun _ => fNaN) r.sigma q.probe)
          let val := s.probeValue k r q
          let vt := r.tm + q.horizon * 1000
          v.publish p.entry (val.getD fNaN) sg (tickOf (vt * 1000000)) {
            valid := val.any (fun x => !fIsNaN x), prov := r.prov, forecast := true, kind := 6, body := k
            firmLag := (vt - (s.body k).firm) / 250 })).tookN (2 + 2 * (s.fcGrid k).count)
  | _, _ => s

/-! ### Snapshot files (R294, R298) -/

/-- The bytes of a cell record (R226). (DEDUCED, log entry 100.) -/
def Cell.bytes (c : Cell) : List Byte :=
  leBytes 2 c.tg ++ leBytes 2 c.mg ++ leBytes 2 c.ta ++ leBytes 2 c.wa ++ leBytes 2 c.ps ++ leBytes 2 c.dml ++
    [BitVec.ofNat 8 c.fill, BitVec.ofNat 8 c.cf, BitVec.ofNat 8 c.um, BitVec.ofNat 8 c.ut]

/-- A remainder word (R268). (DEDUCED, log entry 100.) -/
def Cell.remWord (c : Cell) : Nat := ofSigned 10 c.rmg * 2 ^ 22 + ofSigned 11 c.rtg * 2 ^ 11 + ofSigned 11 c.rdml

/-- A cell from its record and, behind it, its remainder word. -/
def cellOf (l : List Byte) : Cell :=
  let f (i n : Nat) : Nat := ofLe (slice i n l)
  let r := f 16 4
  { tg := f 0 2, mg := f 2 2, ta := f 4 2, wa := f 6 2, ps := f 8 2, dml := f 10 2
    fill := f 12 1, cf := f 13 1, um := f 14 1, ut := f 15 1
    rmg := toSigned 10 (r / 2 ^ 22 % 2 ^ 10), rtg := toSigned 11 (r / 2 ^ 11 % 2 ^ 11), rdml := toSigned 11 (r % 2 ^ 11) }

/-- What a body descriptor of a snapshot file holds (R294). -/
structure SnapDescr where
  present : Bool := false
  /-- model time, ms -/
  tm : Nat := 0
  digest : List Byte := List.replicate 8 0
  count : Nat := 0
  offset : Nat := 0
deriving DecidableEq, Repr

/-- Its 32 bytes: PRESENT at 0, model time in ms at 4, digest at 12, count at 20, offset from the start of the
file at 24.  The spec gives these fields no places. (DESIGN CHOICE, log entry 55.) -/
def SnapDescr.bytes (d : SnapDescr) : List Byte :=
  [if d.present then 1 else 0, 0, 0, 0] ++ leBytes 8 d.tm ++ (d.digest ++ List.replicate 8 0).take 8 ++
    leBytes 4 d.count ++ leBytes 8 d.offset

/-- Descriptor `k` of a file. -/
def snapField (f : List Byte) (k : Nat) : SnapDescr :=
  let d := slice (64 + 32 * k) 32 f
  { present := slice 0 1 d = [1], tm := ofLe (slice 4 8 d), digest := slice 12 8 d, count := ofLe (slice 20 4 d)
    offset := ofLe (slice 24 8 d) }

/-- A body's part of a snapshot file: model time, digest and records. -/
structure SnapPart where
  body : Nat
  tm : Nat
  digest : List Byte
  records : List (List Byte)

/-- A snapshot file (R294).  The spec names no contents for header bytes 6, 7 and 27 to 63: 39 open bytes.
(DESIGN CHOICE, log entry 55.) -/
def State.snapFile (s : State) (version seq : Nat) (l : List SnapPart) : List Byte :=
  let gap (i n : Nat) : List Byte := (List.range n).map (fun j => s.freeAt 8 (i + j))
  let head := [0x4B, 0x44, 0x53, 0x4E] ++ leBytes 2 version ++ gap 0 2 ++
    leBytes 4 (s.reg (CADDY_SLOT_SEQ s.caddy.slot)).toNat ++ leBytes 4 seq ++ leBytes 6 (secOf s.tim.mp) ++
    leBytes 5 s.optime ++ gap 2 37
  let size (p : SnapPart) : Nat := (p.records.map List.length).sum
  let descr (k : Nat) : List Byte := match l.find? (fun p => p.body = k) with
    | some p => SnapDescr.bytes {
        present := true, tm := p.tm, digest := p.digest, count := p.records.length
        offset := 576 + ((l.takeWhile (fun q => q.body ≠ k)).map size).sum }
    | none => SnapDescr.bytes {}
  let all := head ++ ((List.range 16).map descr).flatten ++ ((l.map (fun p => p.records.flatten)).flatten)
  all ++ leBytes 4 (crc32 all)

/-- Header and CRC of a file check (R295). -/
def snapOk (version : Nat) (f : List Byte) : Bool :=
  decide (580 ≤ f.length) && decide (slice 0 6 f = [0x4B, 0x44, 0x53, 0x4E] ++ leBytes 2 version) &&
    decide (crc32 (f.take (f.length - 4)) = ofLe (f.drop (f.length - 4)))

/-- SNAP_SEQ of a file, and its operating time. -/
def snapSeqOf (f : List Byte) : Nat := ofLe (slice 12 4 f)
def snapTimeOf (f : List Byte) : Nat := ofLe (slice 22 5 f)

/-- A snapshot area of the flash. -/
def State.snapArea (s : State) (n : Nat) : List Byte := tget (fun _ => []) s.snaps n

/-! ### Coarse snapshots of the site (R295, R296) -/

/-- Every INTERVAL_H a coarse snapshot starts.  A body that is held or paused contributes at once: its last step
end has passed. (DESIGN CHOICE, log entry 97.) -/
def State.snapshotDue (s : State) : State :=
  if !s.on MILL_SNAP_CFG_ENABLE || s.mill.snapBusy then s
  else
    let t : State := { s with mill := { s.mill with
        snapBusy := true, snapGot := [], snapWait := (List.range 16).filter (fun k => decide (bRunning ≤ s.bst k)) } }
    t.each ((List.range 16).filter (fun k => decide (bRunning < s.bst k))) State.snapContribute

/-- The snapshot area that is written next: the one not written last. -/
def State.snapTarget (s : State) : Nat :=
  let last := s.get MILL_SNAP_STATUS_LAST_AREA
  if s.mill.snapSeq = 0 then last else 1 - last

/-- The bits of AREA_VALID follow the areas. -/
def State.snapShow (s : State) : State :=
  s.put MILL_SNAP_STATUS_AREA_VALID
    ((if snapOk 1 (s.snapArea 0) then 1 else 0) + (if snapOk 1 (s.snapArea 1) then 2 else 0))

def State.setArea (s : State) (n : Nat) (f : List Byte) : State :=
  State.snapShow { s with snaps := tset (fun _ => []) s.snaps n f }

/-- The write begins on a quad: the area is erased. -/
def State.snapshotBegin (s : State) : State := s.setArea s.snapTarget []

/-- The snapshot is programmed and read back (R294, R295); one whose CRC did not check leaves no file. -/
def State.snapshotWritten (s : State) (ok : Bool) : State :=
  if !(s.mill.quads.any (fun (p : Nat × Work) => p.2 = .snapshot)) then s
  else
    let n := s.mill.snapSeq + 1
    let area := s.snapTarget
    let f := s.snapFile 1 n (s.mill.snapGot.map (fun p =>
      { body := p.1, tm := p.2.1, digest := p.2.2.1, records := p.2.2.2.map (fun c => c.2.bytes) }))
    let q := s.quadFree .snapshot
    let t : State := { q with mill := { q.mill with snapBusy := false, snapWaited := false, snapGot := [], snapSeq := n } }
    let u := ((t.tookN 39).setArea area (if ok then f else [])).put MILL_SNAP_STATUS_LAST_AREA area
    if ok then u.mev 0x6034 area n f.length else u

/-- AREA_VALID, LAST_AREA and the highest SNAP_SEQ follow the areas of the flash (R295). -/
def State.snapRestore (s : State) : State :=
  let seq (n : Nat) : Nat := if snapOk 1 (s.snapArea n) then snapSeqOf (s.snapArea n) else 0
  let t : State := { s with mill := { s.mill with snapSeq := max (seq 0) (seq 1) } }
  t.snapShow.put MILL_SNAP_STATUS_LAST_AREA (if seq 0 < seq 1 then 1 else 0)

/-- Records of a body's part of a file, `size` bytes each. -/
def snapRecords (f : List Byte) (k size : Nat) : List (List Byte) :=
  let d := snapField f k
  (List.range d.count).map (fun i => slice (d.offset + size * i) size f)

/-- A body resumes from the valid area with the higher SNAP_SEQ that has it, or starts cold, as a body that a swap
adds always does (R225, R296, R297). -/
def State.bodyStart (s : State) (k : Nat) (cold : Bool) : State :=
  let b := s.body k
  let has (n : Nat) : Bool :=
    let f := s.snapArea n
    !cold && snapOk 1 f && (snapField f k).present && decide ((snapField f k).digest = b.digest.take 8)
  let seq (n : Nat) : Nat := snapSeqOf (s.snapArea n)
  let t := (s.setBody k { b with startedAt := s.tim.dp }).setBst k bStarting
  match (sortBy (fun n => 2 ^ 32 - seq n) [0, 1]).find? has with
  | none => t
  | some n =>
    let f := s.snapArea n
    let tiles := (snapRecords f k 16).zipIdx.map (fun p => (p.2, cellOf p.1))
    t.resumeFrom k tiles (s.siteMs - (snapField f k).tm) (some n)

/-! ### Dispatch (R236 to R242) -/

/-- Logical quads in service: a fenced one only while the spare serves it (R238). -/
def State.quadsUp (s : State) : List Nat :=
  (List.range 16).filter (fun q => !(s.reg MILL_QUAD_STATUS).getLsbD q || decide (s.get MILL_QUAD_STATUS_SPARE_FOR = q))

/-- Work that is still to do. -/
def State.workLive (s : State) : Work → Bool
  | .tile k t => ((s.body k).run.any (fun r => r.tiles.contains t))
  | .solve k => (s.body k).solving.isSome
  | .forecast k => s.mill.forecasts.any (fun p => p.1 = k)
  | .snapshot => s.mill.snapBusy && decide (s.mill.snapWait = [])

/-- Work that is ready, with its class, deadline and body (R241).  The spec gives a solve no deadline: it takes that
of the body's next step; forecasts and snapshots go in the order of k. (DEDUCED, log entry 94.) -/
def State.readyWork (s : State) : List (Nat × Nat × Nat × Work) :=
  let ks := List.range 16
  let st (k : Nat) : Nat := s.stepMs k
  (ks.flatMap (fun k => match (s.body k).run with
    | some r => r.tiles.map (fun t => (1, (if r.again then (s.body k).now else r.te) + st k, k, Work.tile k t))
    | none => [])) ++
  (ks.filterMap (fun k => (s.body k).solving.map (fun r => (r.cls, (s.body k).now + 2 * st k, k, Work.solve k)))) ++
  (if s.overloaded then [] else
    (s.mill.forecasts.map (fun p => (3, 0, p.1, Work.forecast p.1))) ++
      (if s.workLive .snapshot then [(4, 0, 0, Work.snapshot)] else []))

/-- A quad takes a piece of work. -/
def State.quadTake (s : State) (p : Nat × Work) : State :=
  let t : State := { s with mill := { s.mill with quads := s.mill.quads ++ [p] } }
  match p.2 with
  | .tile _ _ => t
  | .solve k => t.solveStart k
  | .forecast k => t.forecastBegin k
  | .snapshot => t.snapshotBegin

/-- A piece of work is on a quad. -/
def State.workRuns (s : State) (w : Work) : Bool := s.mill.quads.any (fun (p : Nat × Work) => p.2 = w)

/-- Under overload the work of class 3 and 4 that no quad does waits, and each piece counts once (R242).
(DEDUCED, log entry 94.) -/
def State.deferAll (s : State) : State :=
  if !s.overloaded then s
  else
    let waits (p : Nat × FcRun) : Bool := !p.2.waited && !s.workRuns (.forecast p.1)
    let snap := s.workLive .snapshot && !s.mill.snapWaited && !s.workRuns .snapshot
    let n := (s.mill.forecasts.filter waits).length + if snap then 1 else 0
    let t : State := { s with mill := { s.mill with
      snapWaited := s.mill.snapWaited || snap
      forecasts := s.mill.forecasts.map (fun p => if waits p then (p.1, { p.2 with waited := true }) else p) } }
    t.put MILL_SCHED_STATS_DEFERRED (t.get MILL_SCHED_STATS_DEFERRED + n)

/-- Free quads take the ready work by class, then deadline, then body, then tile; work in progress stays (R241).
Quads whose work has gone are free.  Quads are filled, and firm time follows the state of the sources (R281), after
each event of the Millstone and at each tick. (DEDUCED, log entries 94, 102.) -/
def State.dispatch (s0 : State) : State :=
  if !s0.lanesUp || (s0.mill.bodies.isEmpty && !s0.mill.snapBusy) then s0
  else
    let s := s0.each (s0.mill.bodies.map (fun p => p.1)) State.firmAdvance
    let t := State.deferAll { s with
      mill := { s.mill with quads := s.mill.quads.filter (fun (p : Nat × Work) => s.workLive p.2) } }
    let busy (w : Work) : Bool := t.workRuns w
    let order := sortBy (fun (p : Nat × Nat × Nat × Work) => (p.1 * 2 ^ 64 + p.2.1) * 16 + p.2.2.1)
      (t.readyWork.filter (fun p => !busy p.2.2.2))
    let free := t.quadsUp.filter (fun q => !(t.mill.quads.any (fun (p : Nat × Work) => p.1 = q)))
    t.each (free.zip (order.map (fun p => p.2.2.2))) State.quadTake

/-! ### Minutes (R242, R254 events, R283) -/

/-- The end of a minute of a body; `busy` is the measured quad busy time, 0.1 % units.
(DESIGN CHOICE, log entry 98.) -/
def State.millMinute (s : State) (k busy : Nat) : State :=
  let b := s.body k
  let one (t : State) (c : Bool) (code p1 p2 : Nat) : State := if c then t.mev code k p1 p2 else t
  let a := one s (decide (b.mLate ≠ 0)) 0x6012 b.mLate b.mLag
  let c := one a (decide (b.mSubst ≠ 0)) 0x6021 b.mSubst 0
  let d := one c (flt 0 b.mLost) 0x6022 (ftoIntScaled 1000 b.mLost).toNat 0
  let e := one d (decide (b.mUnder ≠ 0)) 0x6023 b.mUnder 0
  let f := one e (decide (b.mRoll ≠ 0)) 0x6030 b.mRoll b.mDeep
  let g := one f (decide (b.mAged ≠ 0)) 0x6031 b.mAged b.mOldest
  let h := one g (decide (b.mGated ≠ 0)) 0x6032 b.mGated b.mGatedLast
  (h.setBody k { b with
    mLate := 0, mLag := 0, mSubst := 0, mLost := 0, mUnder := 0, mRoll := 0, mDeep := 0, mAged := 0, mOldest := 0,
    mGated := 0, mGatedLast := 0, mDropped := false }).put MILL_LOAD_BUSY busy

/-- A word of the selected cell's record (R245). -/
def State.cellWord (s : State) (k n : Nat) : Word :=
  if s.get (MILL_BODY_CELLS_CELLS k) ≤ s.get (MILL_CELL_SEL_INDEX k) then 0
  else BitVec.ofNat 32 (ofLe (slice (4 * n) 4 ((s.body k).cell (s.get (MILL_CELL_SEL_INDEX k))).bytes))

/-! ### Load of the Millstone (R222, R223) -/

/-- Cells of a body, from its registers. -/
def State.cellsOf (s : State) (k : Nat) : Nat := s.get (MILL_BODY_CELLS_CELLS k)

/-- The step demand of the bodies that exist, in cell updates per second, as numerator and denominator
(R223). -/
def State.demand (s : State) : Nat × Nat :=
  ((List.range 16).filter (fun k => s.on (MILL_BODY_CFG_PRESENT k))).foldl (fun (a : Nat × Nat) k =>
    let st := max 1 (s.get (MILL_BODY_CFG_STEP_S k))
    (a.1 * st + s.cellsOf k * a.2, a.2 * st)) (0, 1)

/-- MILL_STATUS, MILL_CELLS_USED and MILL_LOAD show the bodies and the quads in service; the last digit
of PLAN is open. (DESIGN CHOICE, log entries 25, 98.) -/
def State.millShow (s : State) : State :=
  let l := (List.range 16).filter (fun k => s.on (MILL_BODY_CFG_PRESENT k))
  let kups := s.get MILL_CAPACITY_KUPS
  let d := s.demand
  let t := ((s.put MILL_STATUS_BODIES l.length).put MILL_STATUS_QUADS (kups / 2500)).put MILL_CELLS_USED_ALLOCATED
    ((l.map (fun k => s.get (MILL_BODY_ALLOC_ALLOC_256 k) * 256)).sum)
  if kups = 0 then t else (t.put MILL_LOAD_PLAN (satTo 16 (s.openDiv d.1 (d.2 * kups)))).took

end Sys2Proof.Machine
end

