-- ==== Sys2Proof/Machine/GovLaw.lean ====
section
/-! DEFINITION. The arithmetic and the laws of a Governor slot: Q8.24 sums, the coefficient window,
the state-feedback law, the biquad law, the limits, the bumpless transfer, supervision of one source,
the infusion generators (R312 to R336). -/

namespace Sys2Proof.Machine

open Reg

/-! ### Q8.24 (R316) -/

/-- A value, and whether it saturated: 1 or 0. -/
abbrev QVal := Int × Nat

/-- Saturate to the Q8.24 range. (DEDUCED, log entry 109.) -/
def qSat (i : Int) : QVal :=
  let v := clampI (-2147483648) 2147483647 i
  (v, if v = i then 0 else 1)

/-- Round an exact sum with `k` more fraction bits than Q8.24: half an LSB is added and the rest cut
towards minus infinity; then saturate. -/
def qRound (k : Nat) (acc : Int) : QVal := qSat ((acc + 2 ^ (k - 1)) / 2 ^ k)

/-- Q(x): binary32 to Q8.24; none for a NaN. (DEDUCED, log entry 109.) -/
def qOfF (x : F32) : Option QVal :=
  match fdec x with
  | .nan => none
  | .inf neg => some (if neg then -2147483648 else 2147483647, 1)
  | .fin .. =>
    let e := fexact x
    some (qSat ((2 ^ 25 * e.1 + 2 ^ e.2) / 2 ^ (e.2 + 1)))

/-- F(u): Q8.24 to binary32. -/
def qToF (q : Int) : F32 := froundI q (-24)

/-- A sum over a list. -/
def sumI {α : Type} (l : List α) (f : α → Int) : Int := l.foldl (fun a x => a + f x) 0

/-- A value of a table of numbers. -/
def iget (t : List (Nat × Int)) (k : Nat) : Int := tget (fun _ => 0) t k

/-- The table of `f` over the first `n` indices. -/
def itab (n : Nat) (f : Nat → Int) : List (Nat × Int) :=
  (List.range n).foldl (fun t i => tset (fun _ => (0 : Int)) t i (f i)) []

/-- Values and the number of saturations of `f` over the first `n` indices. -/
def qtab (n : Nat) (f : Nat → QVal) : List (Nat × Int) × Nat :=
  (itab n (fun i => (f i).1), ((List.range n).map (fun i => (f i).2)).sum)

/-! ### The window and the dimensions (R300, R319, R341) -/

/-- A window: its words by offset. -/
abbrev Win := List (Nat × Word)

def Win.word (w : Win) (o : Nat) : Word := tget (fun _ => (0 : Word)) w o
def Win.q (w : Win) (o : Nat) : Int := toSigned 32 (w.word o).toNat

def winA (i j : Nat) : Nat := 0x400 + 4 * (16 * i + j)
def winBq (n c : Nat) : Nat := 0x400 + 4 * (5 * n + c)
def winB (i a : Nat) : Nat := 0x800 + 4 * (4 * i + a)
def winC (j i : Nat) : Nat := 0x900 + 4 * (16 * j + i)
def winL (i j : Nat) : Nat := 0xB00 + 4 * (8 * i + j)
def winK (a i : Nat) : Nat := 0xD00 + 4 * (16 * a + i)
def winN (a l : Nat) : Nat := 0xE00 + 4 * (4 * a + l)
def winInt (h : Nat) : Nat := 0xE40 + 16 * h
def winIn (j : Nat) : Nat := 0xE80 + 8 * j
def winRef (l : Nat) : Nat := 0xEC0 + 8 * l
def winOut (a : Nat) : Nat := 0xEE0 + 20 * a
def winMin (a : Nat) : Nat := 0xEE8 + 20 * a
def winMax (a : Nat) : Nat := 0xEEC + 20 * a
def winDu (a : Nat) : Nat := 0xEF0 + 20 * a
def winManual (a : Nat) : Nat := 0xF30 + 4 * a
def winSup (j : Nat) : Nat := 0xF40 + 20 * j
def winSafe (a : Nat) : Nat := 0xFE0 + 4 * a
def winCascade : Nat := 0xFF0
def winTransfer : Nat := 0xFF4

/-- Law and dimensions of a slot. -/
structure Dims where
  biquad : Bool
  nx : Nat
  ny : Nat
  nu : Nat
  nr : Nat
  ni : Nat
  nsec : Nat
deriving DecidableEq, Repr

def State.dims (s : State) (n : Nat) : Dims :=
  { biquad := s.on (GOV_SLOT_CFG_LAW n), nx := s.get (GOV_SLOT_CFG_NX_M1 n) + 1,
    ny := s.get (GOV_SLOT_CFG_NY_M1 n) + 1, nu := s.get (GOV_SLOT_CFG_NU_M1 n) + 1,
    nr := s.get (GOV_SLOT_CFG_NR_M1 n) + 1, ni := s.get (GOV_SLOT_CFG_NI n),
    nsec := s.get (GOV_SLOT_CFG_NSEC_M1 n) + 1 }

/-- An enabled integral descriptor. -/
structure Descr where
  h : Nat
  idx : Nat
  ref : Nat
  out : Nat
  act : Nat
deriving DecidableEq, Repr

/-- The enabled descriptors of a window. -/
def Win.descrs (w : Win) (nx : Nat) : List Descr :=
  ((List.range 4).map (fun h =>
    let d := w.word (winInt h)
    (d.getLsbD 31 && decide (bits d 15 12 < nx),
      ({ h := h, idx := bits d 15 12, ref := bits d 9 8, out := bits d 6 4, act := bits d 1 0 } :
        Descr)))).filterMap (fun p => if p.1 then some p.2 else none)

/-- A state is integral. -/
def integral (ds : List Descr) (i : Nat) : Bool := ds.any (fun d => d.idx = i)

/-! ### The laws (R313, R315, R317, R325) -/

/-- What a sample works on after step 4 of R315. -/
structure SampIn where
  y : List (Nat × Int)
  e : List (Nat × Int)
  r : List (Nat × Int)
  /-- outputs whose column of L is zero (R331) -/
  susp : List Nat
  /-- actuators that do not follow, with their actual values (R314) -/
  actual : List (Nat × Int)
  /-- infusion on an actuator -/
  inf : Option (Nat × Int) := none
  /-- mode, and the fall-back in force (R333) -/
  mode : Nat
  action : Nat
  /-- values a re-execution feeds the observer with in place of u (R455) -/
  force : Option (List (Nat × Int)) := none
  /-- free values, for what the spec leaves open -/
  open_ : List Int := []
deriving DecidableEq, Repr

/-- The actuator follows. -/
def SampIn.follows (i : SampIn) (a : Nat) : Bool := !(i.actual.any (fun p => p.1 = a))

/-- A value held between two limits; a free value when the limits cross, which the spec leaves
open. (DEDUCED, log entry 107.) -/
def qClamp (lo hi v fr : Int) : Int := if hi < lo then clampI hi lo fr else clampI lo hi v

/-- Step 2: ŷ_j. -/
def yHat (w : Win) (d : Dims) (xp : List (Nat × Int)) (j : Nat) : QVal :=
  qRound 24 (sumI (List.range d.nx) (fun i => w.q (winC j i) * iget xp i))

/-- Step 5: the corrected states. -/
def correct (w : Win) (d : Dims) (xp : List (Nat × Int)) (i : SampIn) : List (Nat × Int) × Nat :=
  let ds := w.descrs d.nx
  qtab d.nx (fun n =>
    if integral ds n then (iget xp n, 0)
    else qRound 24 (iget xp n * 2 ^ 24 + sumI (List.range d.ny) (fun j =>
      if j ∈ i.susp then 0 else w.q (winL n j) * iget i.e j)))

/-- Step 6: v_a. -/
def lawV (w : Win) (d : Dims) (x r : List (Nat × Int)) (a : Nat) : QVal :=
  qRound 24 (sumI (List.range d.nr) (fun l => w.q (winN a l) * iget r l) -
    sumI (List.range d.nx) (fun i => w.q (winK a i) * iget x i))

/-- Flags of an actuator in a sample: SAT_HI, SAT_LO, RATE_LIM (R313). -/
structure ActFlags where
  hi : Bool := false
  lo : Bool := false
  rate : Bool := false
deriving DecidableEq, Repr

/-- The value to limit: MANUAL in OPEN, the fall-back output in RECOVER, else the law's with its
infusion (R313, R333, R335). -/
def limitIn (w : Win) (i : SampIn) (uPrev : List (Nat × Int)) (a : Nat) (v : Int) : QVal :=
  if i.mode = 1 then (w.q (winManual a), 0)
  else if i.mode = 5 ∧ i.action = 2 then (iget uPrev a, 0)
  else if i.mode = 5 ∧ i.action = 3 then (w.q (winSafe a), 0)
  else match i.inf with
    | some (b, k) => if b = a then qSat (v + k) else (v, 0)
    | none => (v, 0)

/-- The two stages of R313. -/
def limitU (w : Win) (uPrev : List (Nat × Int)) (a : Nat) (v : Int) : Int × ActFlags :=
  let p := iget uPrev a
  let du := w.q (winDu a)
  let u1 := clampI (p - du) (p + du) v
  let u := clampI (w.q (winMin a)) (w.q (winMax a)) u1
  (u, { hi := decide (u < v), lo := decide (v < u), rate := decide (u1 ≠ v) })

/-- What a sample leaves. -/
structure SampOut where
  /-- the corrected states of step 5, and the states after the transfer -/
  x5 : List (Nat × Int)
  x : List (Nat × Int)
  xp : List (Nat × Int)
  s1 : List (Nat × Int)
  s2 : List (Nat × Int)
  u : List (Nat × Int)
  ua : List (Nat × Int)
  flags : List (Nat × ActFlags)
  sats : Nat
  /-- transfers clamped: actuator, descriptor, Δv (R325) -/
  clamped : List (Nat × Nat × F32) := []
deriving DecidableEq, Repr

/-- Flags of an actuator. -/
def flagsOf (t : List (Nat × ActFlags)) (a : Nat) : ActFlags := tget (fun _ => {}) t a

/-- The limited outputs of all actuators: u, ua, flags, saturations. -/
def limitAll (w : Win) (d : Dims) (i : SampIn) (uPrev : List (Nat × Int)) (v : Nat → QVal) :
    List (Nat × Int) × List (Nat × Int) × List (Nat × ActFlags) × Nat :=
  let lim (a : Nat) := limitU w uPrev a (limitIn w i uPrev a (v a).1).1
  let u := itab d.nu (fun a => (lim a).1)
  let ua := match i.force with
    | some f => f
    | none => itab d.nu (fun a => match i.actual.find? (fun p => p.1 = a) with
        | some p => p.2
        | none => (lim a).1)
  (u, ua, (List.range d.nu).foldl (fun t a => tset (fun _ => ({} : ActFlags)) t a (lim a).2) [],
    ((List.range d.nu).map (fun a => (v a).2 + (limitIn w i uPrev a (v a).1).2)).sum)

/-- Steps 1 and 2 of R325 for one actuator: the states, the descriptor that is adjusted, and the number of
saturations. -/
def bumpOne (w : Win) (d : Dims) (r uPrev : List (Nat × Int)) (x : List (Nat × Int)) (a : Nat) :
    List (Nat × Int) × Option (Nat × Descr) × Nat :=
  let v := lawV w d x r a
  match (w.descrs d.nx).find? (fun h => decide (h.act = a) && decide (w.q (winK a h.idx) ≠ 0)) with
  | none => (x, none, v.2)
  | some h =>
    let dx := (qOfF (fdiv (qToF (iget uPrev a - v.1)) (qToF (-(w.q (winK a h.idx)))))).getD (0, 0)
    let n := qSat (iget x h.idx + dx.1)
    (tset (fun _ => (0 : Int)) x h.idx n.1, some (a, h), v.2 + dx.2 + n.2)

/-- What the bumpless transfer works on: the states, the descriptors adjusted, the number of saturations. -/
structure Bump where
  x : List (Nat × Int)
  adj : List (Nat × Descr) := []
  clamped : List (Nat × Nat × F32) := []
  sats : Nat := 0
deriving DecidableEq, Repr

/-- The bumpless transfer: the adjusted and clamped states, and what was clamped (R325). -/
def bumpless (w : Win) (d : Dims) (i : SampIn) (uPrev x : List (Nat × Int)) : Bump :=
  let p := (List.range d.nu).foldl (fun (q : Bump) a =>
    let b := bumpOne w d i.r uPrev q.x a
    { q with
      x := b.1, sats := q.sats + b.2.2
      adj := match b.2.1 with
        | some ad => if q.adj.any (fun e => e.2.idx = ad.2.idx) then q.adj else q.adj ++ [ad]
        | none => q.adj }) { x := x }
  p.adj.foldl (fun (q : Bump) (ad : Nat × Descr) =>
    let h := ad.2
    let v := iget q.x h.idx
    let c := qClamp (w.q (winInt h.h + 8)) (w.q (winInt h.h + 12)) v (i.open_.getD h.h 0)
    if c = v then q
    else { q with
      x := tset (fun _ => (0 : Int)) q.x h.idx c
      clamped := q.clamped ++ [(ad.1, h.h, qToF (qRound 24 (-(w.q (winK ad.1 h.idx)) * (c - v))).1)] }) p

/-- Step 11 for one descriptor: the next value of its state.  Its increment is computed wherever the step runs,
which it does not in OPEN. -/
def integrate (w : Win) (i : SampIn) (x : List (Nat × Int)) (fl : List (Nat × ActFlags)) (h : Descr) :
    QVal :=
  let held := decide (i.mode = 1) || (decide (i.mode = 5) && decide (2 ≤ i.action))
  let dq := qRound 24 (w.q (winInt h.h + 4) * (iget i.r h.ref - iget i.y h.out))
  let eff := -(w.q (winK h.act h.idx)) * dq.1
  let f := flagsOf fl h.act
  if held || decide (h.out ∈ i.susp) || !i.follows h.act then (iget x h.idx, if i.mode = 1 then 0 else dq.2)
  else if (f.hi && decide (0 < eff)) || (f.lo && decide (eff < 0)) then (iget x h.idx, dq.2)
  else (qClamp (w.q (winInt h.h + 8)) (w.q (winInt h.h + 12)) (iget x h.idx + dq.1)
    (i.open_.getD (4 + h.h) 0), dq.2)

/-- Step 10 for one state. (DEDUCED, log entry 113.) -/
def propagate (w : Win) (d : Dims) (x ua : List (Nat × Int)) (i : Nat) : QVal :=
  qRound 24 (sumI (List.range d.nx) (fun j => w.q (winA i j) * iget x j) +
    sumI (List.range d.nu) (fun a => w.q (winB i a) * iget ua a))

/-- The state-feedback law, steps 5 to 12 of R315; `bump` is the transfer of R325. -/
def sfLaw (w : Win) (d : Dims) (xp uPrev : List (Nat × Int)) (i : SampIn) (bump : Bool) : SampOut :=
  let ds := w.descrs d.nx
  let c := correct w d xp i
  let b : Bump := if bump then bumpless w d i uPrev c.1 else { x := c.1 }
  let x := b.x
  let l := limitAll w d i uPrev (lawV w d x i.r)
  let step (n : Nat) : QVal := match ds.find? (fun h => h.idx = n) with
    | some h => integrate w i x l.2.2.1 h
    | none => propagate w d x l.2.1 n
  let n := qtab d.nx step
  { x5 := c.1, x := x, xp := n.1, s1 := [], s2 := [], u := l.1, ua := l.2.1, flags := l.2.2.1,
    sats := c.2 + b.sats + l.2.2.2 + n.2, clamped := b.clamped }

/-- One section of the biquad law: the signal, s1, s2, saturations. -/
def section_ (w : Win) (n : Nat) (x s1 s2 : Int) : Int × Int × Int × Nat :=
  let c (k : Nat) : Int := w.q (winBq n k)
  let o := qRound 30 (c 0 * x + s1 * 2 ^ 30)
  let a := qRound 30 (c 1 * x - c 3 * o.1 + s2 * 2 ^ 30)
  let b := qRound 30 (c 2 * x - c 4 * o.1)
  (o.1, a.1, b.1, o.2 + a.2 + b.2)

/-- The biquad law (R317); the sections do not run in OPEN. (DEDUCED, log entry 105.) -/
def bqLaw (w : Win) (d : Dims) (s1 s2 uPrev : List (Nat × Int)) (i : SampIn) : SampOut :=
  let run := (List.range d.nsec).foldl
    (fun (q : Int × List (Nat × Int) × List (Nat × Int) × Nat) n =>
      let o := section_ w n q.1 (iget q.2.1 n) (iget q.2.2.1 n)
      (o.1, tset (fun _ => (0 : Int)) q.2.1 n o.2.1, tset (fun _ => (0 : Int)) q.2.2.1 n o.2.2.1,
        q.2.2.2 + o.2.2.2)) (iget i.e 0, s1, s2, 0)
  let q := if i.mode = 1 then (iget i.e 0, s1, s2, 0) else run
  let l := limitAll w d i uPrev (fun _ => (q.1, 0))
  { x5 := [], x := [], xp := [], s1 := q.2.1, s2 := q.2.2.1, u := l.1, ua := l.2.1, flags := l.2.2.1,
    sats := q.2.2.2 + l.2.2.2 }

/-! ### Supervision of one source (R330, R332) -/

/-- The supervision words of a measured output. -/
structure SupCfg where
  staleMs : Nat
  freezeN : Nat
  plausM : Nat
  lsb : F32
  bound : Int
  action : Nat
  bclass : Nat
  bindex : Nat
  coast : Nat
deriving DecidableEq, Repr

def Win.supCfg (w : Win) (j : Nat) : SupCfg :=
  let b := winSup j
  let fb := w.word (b + 16)
  { staleMs := (w.word b).toNat, freezeN := bits (w.word (b + 4)) 31 16,
    plausM := bits (w.word (b + 4)) 15 8, lsb := w.word (b + 8), bound := w.q (b + 12),
    action := bits fb 31 30, bclass := bits fb 29 26, bindex := bits fb 25 16, coast := bits fb 15 0 }

/-- A source at a sample: fresh, engineering value, prediction in engineering units, residual
y − ŷ. -/
structure Seen where
  fresh : Bool
  val : F32
  pred : F32
  resid : Int
deriving DecidableEq, Repr

/-- The last FREEZE_N fresh values lie within FREEZE_LSB of the first of them, while the prediction
spans more than 4 FREEZE_LSB (R330). (DEDUCED, log entry 109.) -/
def frozen (c : SupCfg) (hist : List (F32 × F32)) : Bool :=
  match hist.getLast?, hist with
  | some f, h :: t =>
    let lo := t.foldl (fun m p => fmin m p.2) h.2
    let hi := t.foldl (fun m p => fmax m p.2) h.2
    decide (hist.length = c.freezeN) && hist.all (fun p => fle (fabs (fsub p.1 f.1)) c.lsb) &&
      flt (fmul 0x40800000 c.lsb) (fsub hi lo)
  | _, _ => false

/-- What a sample finds of a source. -/
inductive Finding where
  | none
  | suspect (cause : Nat)
  | restored (sinceUs : Nat)
deriving DecidableEq, Repr

/-- The conditions of R332 hold at a sample; one whose check is not enabled is met by itself. -/
def restores (c : SupCfg) (t : Track) (o : Seen) : Bool :=
  o.fresh && (decide (c.freezeN = 0) || (match t.ref with
    | some v => flt c.lsb (fabs (fsub o.val v))
    | none => true)) &&
  (decide (c.plausM = 0) || decide (t.cause / 4 % 2 = 0) || decide ((o.resid.natAbs : Int) ≤ c.bound))

/-- Judge a source at a sample, for freeze, plausibility and restoration; staleness is found by the
stale timer (R330 to R332). -/
def Track.judge (t : Track) (biquad : Bool) (c : SupCfg) (o : Seen) (now : Nat) : Track × Finding :=
  let live := o.fresh && !biquad
  let hist := if c.freezeN = 0 then []
    else if live then ((o.val, o.pred) :: t.hist).take c.freezeN else t.hist
  let plaus := if c.plausM = 0 then 0
    else if live then (if c.bound < o.resid.natAbs then t.plaus + 1 else 0) else t.plaus
  let fz := live && decide (c.freezeN ≠ 0) && frozen c hist
  let im := live && decide (c.plausM ≠ 0) && decide (c.plausM ≤ plaus)
  let u := { t with hist := hist, plaus := plaus }
  if t.cause = 0 then
    let k := (if fz then 2 else 0) + (if im then 4 else 0)
    if k = 0 then (u, .none)
    else
      let v : Option F32 := if fz then (hist.getLast?).map (fun p => p.1) else none
      ({ u with
          cause := k, found := now, restore := 0, coasted := false, owed := false, good := none,
          ref := v }, .suspect k)
  else
    let n := if restores c t o then t.restore + 1 else 0
    if n < max c.plausM 3 then ({ u with restore := n }, .none)
    else ({ ({} : Track) with good := t.good }, .restored (now - t.found))

/-! ### Infusion (R335, R336) -/

/-- Tap positions of the LFSR, numbered from 1 at bit 0. -/
def lfsrTaps (n : Nat) : List Nat :=
  if n = 7 then [7, 6] else if n = 8 then [8, 6, 5, 4] else if n = 9 then [9, 5]
  else if n = 10 then [10, 7] else if n = 11 then [11, 9] else if n = 12 then [12, 11, 10, 4]
  else if n = 13 then [13, 12, 11, 8] else if n = 14 then [14, 13, 12, 2] else [15, 14]

/-- Shift the register: the bit shifted out and the register after. -/
def lfsrShift (n reg : Nat) : Bool × Nat :=
  let fb := (lfsrTaps n).foldl (fun a t => a != reg.testBit (t - 1)) false
  (reg.testBit (n - 1), (2 * reg + (if fb then 1 else 0)) % 2 ^ n)

/-- 2 π in binary32. -/
def f32TwoPi : F32 := 0x40C90FDB

/-- The period of a slot in ns, or none (R306). -/
def periodOf (w : Word) : Option Nat :=
  if w.getLsbD 31 then
    (if 2 ≤ bits w 5 0 ∧ bits w 5 0 ≤ 60 ∧ bits w 13 6 = 0 then some (bits w 5 0 * 1000000000)
     else none)
  else if 1 ≤ bits w 13 0 ∧ bits w 13 0 ≤ 10000 then some (bits w 13 0 * 100000) else none

/-- The generator at its start: the seed (R336). -/
def Infusion.start (cfg freq : Word) : Infusion :=
  { lfsr := bits freq 15 0 % 2 ^ bits cfg 26 23 }

/-- One sample of the generator: i_k with its saturation, and the generator after (R316, R336).
(DESIGN CHOICE, log entry 110.) -/
def Infusion.next (g : Infusion) (cfg amp freq : Word) (period : Nat) : QVal × Infusion :=
  let A := toSigned 32 amp.toNat
  let dwell := bits cfg 15 0
  let k := g.k
  if bits cfg 31 30 = 0 then ((if dwell ≤ k then A else 0, 0), { g with k := k + 1 })
  else if bits cfg 31 30 = 1 then
    let sh := lfsrShift (bits cfg 26 23) g.lfsr
    let g1 := if dwell = 0 ∨ k % dwell ≠ 0 then g else { g with bit := sh.1, lfsr := sh.2 }
    (if g1.bit then (A, 0) else qSat (-A), { g1 with k := k + 1 })
  else
    let K := dwell * 1000000000 / max period 1
    if g.done || decide (K ≤ k) then ((0, 0), { g with k := k + 1, done := true })
    else
      let fs := fofRat (bits freq 31 16) 65536
      let f := fmul fs (fpow (fofRat (bits freq 15 0) (bits freq 31 16)) (fofRat k K))
      ((qOfF (fmul (qToF A) (sin32 g.phi))).getD (0, 0),
        { g with k := k + 1, phi := fadd g.phi (fmul f32TwoPi f) })

end Sys2Proof.Machine
end

