-- ==== Sys2Proof/Machine/GovOps.lean ====
section
/-! DEFINITION. The Governor's slots: modes, latches, samples, supervision, infusion, and the cup
(R299 to R341, R492). -/

namespace Sys2Proof.Machine

open Reg

def State.slot (s : State) (n : Nat) : Slot := tget (fun _ => {}) s.gov n
def State.setSlot (s : State) (n : Nat) (x : Slot) : State :=
  { s with gov := tset (fun _ => {}) s.gov n x }
def State.gwin (s : State) (n : Nat) : Win := (s.slot n).win
def State.gmode (s : State) (n : Nat) : Nat := s.get (GOV_SLOT_STATUS_MODE n)

/-- An event record of the Governor. -/
def State.gev (s : State) (code : Nat) (p0 : Nat) (p1 : Nat := 0) (p2 : Nat := 0) : State :=
  s.ev portGov code p0 p1 p2

def gOff : Nat := 0
def gOpen : Nat := 1
def gClosed : Nat := 2
def gStart : Nat := 3
def gTest : Nat := 4
def gRecover : Nat := 5

/-- Transitions a host may request (R302). -/
def mayRequest (old new : Nat) : Bool :=
  if old = 0 then decide (new = 1 ∨ new = 3)
  else if old = 1 then decide (new = 0 ∨ new = 3 ∨ new = 2)
  else if old = 2 then decide (new = 0 ∨ new = 1 ∨ new = 4)
  else decide (new = 0 ∨ new = 1 ∨ new = 2)

/-- The request is allowed: OPEN and START only of a slot that exists (R302). -/
def State.modeAllowed (s : State) (n new : Nat) : Bool :=
  mayRequest (s.gmode n) new && (s.on (GOV_SLOT_CFG_PRESENT n) || !(new = 1 || new = 3))

/-- A write to GOV_SLOT_MODE is no reserved encoding. -/
def State.modeWriteOk (s : State) (n : Nat) (w : Word) : Bool :=
  decide (bits w 31 16 = 0x60DE) && s.modeAllowed n (bits w 3 0)

/-- A request waits for the next latch; it replaces one that waits (R303). -/
def State.modeRequest (s : State) (n m : Nat) (bySwap : Bool := false) : State :=
  (s.setSlot n { s.slot n with request := some m, bySwap := bySwap }).putB (GOV_SLOT_STATUS_PENDING n) true

def State.noRequest (s : State) (n : Nat) : State :=
  (s.setSlot n { s.slot n with request := none, bySwap := false }).putB (GOV_SLOT_STATUS_PENDING n) false

/-! ### Targets (R301, R305, R312, R314) -/

def State.actTarget (s : State) (n a : Nat) : Nat := s.get (GOV_ACT_CFG_TARGET n a)
def State.actIndex (s : State) (n a : Nat) : Nat := s.get (GOV_ACT_CFG_INDEX n a)

/-- An engineering value as a normalised output of actuator `a`; none where OUT_SCALE gives no
number. -/
def normOut (w : Win) (a : Nat) (eng : F32) : Option QVal :=
  qOfF (fdiv (fsub eng (w.word (winOut a + 4))) (w.word (winOut a)))

/-- The value of a slot reference in force (R305). (DEDUCED, log entry 108.) -/
def State.refInForce (s : State) (n l : Nat) : F32 :=
  tget (fun _ => s.reg (GOV_REF n l)) (s.slot n).ref l

/-- The present value of a target, normalised (R305); a free value where there is no target or no
number. -/
def State.present (s : State) (n a fr : Nat) : QVal :=
  let w := s.gwin n
  let i := s.actIndex n a
  let free : QVal := ((s.freeAt 32 fr).toInt, 0)
  let eng (v : F32) : QVal := (normOut w a v).getD free
  if s.actTarget n a = 1 then
    eng (fdiv (fsub (fofNat (s.get (AIO_AO_CODE_CODE i))) (s.reg (AIO_AO_OFFSET i)))
      (s.reg (AIO_AO_SCALE i)))
  else if s.actTarget n a = 2 then eng (s.fanDutyValue i)
  else if s.actTarget n a = 3 then
    (match s.est.netSent.find? (fun p => p.1 = i) with
      | some p => eng p.2
      | none => (w.q (winMin a), 0))
  else if s.actTarget n a = 4 then eng (s.refInForce (i / 16) (i % 4))
  else free

/-- Hand an output to its target (R312). -/
def State.handOver (s : State) (n a : Nat) (v : F32) : State :=
  let i := s.actIndex n a
  let t := s.setSlot n { s.slot n with out := (a, v) :: terase (s.slot n).out a }
  if s.actTarget n a = 1 then t.aoSlot i n v
  else if s.actTarget n a = 2 then
    t.setFan i { t.fan i with slot := some (if fIsNaN v then t.get (FAN_STATUS_DUTY i) else dutyCode v) }
  else if s.actTarget n a = 3 then
    { t with est := { t.est with netout := (i, v) :: terase t.est.netout i } }
  else t

/-- In OFF a target takes its own idle source (R301). -/
def State.idleTarget (s : State) (n a : Nat) : State :=
  let i := s.actIndex n a
  let x := s.slot n
  let t := (s.setSlot n { x with
      out := terase x.out a, away := terase x.away a }).put ⟨GOV_ACT_STATUS n, 8 * a + 7, 8 * a + 7⟩ 0
  if s.actTarget n a = 1 then t.aoIdle i
  else if s.actTarget n a = 2 then t.setFan i { t.fan i with slot := none }
  else if s.actTarget n a = 3 then
    { t with est := { t.est with netout := (i, fNaN) :: terase t.est.netout i } }
  else t

/-- Why an actuator does not follow: 0 it follows, 1 network DOWN, 2 fan forced (R314).
(DEDUCED, log entry 106.) -/
def State.notFollowing (s : State) (n a : Nat) : Nat :=
  let i := s.actIndex n a
  if s.actTarget n a = 3 then (if s.on (NET_CLIENT_STATUS_UP (s.get (NET_NETOUT_SERVER i))) then 0 else 1)
  else if s.actTarget n a = 2 then
    (if 2 ≤ s.get (FAN_STATUS_FORCE i) ∧ s.get (FAN_STATUS_FORCE i) ≤ 6 then 2 else 0)
  else 0

/-- Step 1 for an actuator: the records 0x5002 and 0x5003, and the value held for a server that is
DOWN (R314). (DEDUCED, log entry 113.) -/
def State.followStep (s : State) (n a : Nat) : State :=
  let x := s.slot n
  let why := s.notFollowing n a
  let gone := x.away.find? (fun p => p.1 = a)
  let ov : Fld := ⟨GOV_ACT_STATUS n, 8 * a + 7, 8 * a + 7⟩
  if why = 0 then
    let y := if s.actTarget n a = 3 then
        { x with everUp := tset (fun _ => false) x.everUp a true } else x
    match gone with
    | some p => ((s.setSlot n { y with away := terase y.away a }).putB ov false).gev 0x5003 n a
        ((s.tim.mono - p.2) / 1000)
    | none => s.setSlot n y
  else if gone.isSome then s
  else
    let h := if tget (fun _ => false) x.everUp a then iget x.uPrev a else iget x.uStart a
    ((s.setSlot n { x with
        away := x.away ++ [(a, s.tim.mono)],
        netHold := tset (fun _ => (0 : Int)) x.netHold a h }).putB ov true).gev 0x5002 n a why

/-- The actual value of an actuator that does not follow (R314). -/
def State.actualValue (s : State) (n a fr : Nat) : QVal :=
  if s.actTarget n a = 3 then (iget (s.slot n).netHold a, 0)
  else (normOut (s.gwin n) a (s.fanDutyValue (s.actIndex n a))).getD ((s.freeAt 32 fr).toInt, 0)

/-! ### Mode changes (R303 to R305, R324) -/

def State.supOf (s : State) (n j : Nat) : Supervision := tget (fun _ => {}) (s.slot n).sup j
def State.setSup (s : State) (n j : Nat) (x : Supervision) : State :=
  s.setSlot n { s.slot n with sup := tset (fun _ => {}) (s.slot n).sup j x }

/-- Bits of an eight-bit mask. -/
def mask8 (p : Nat → Bool) : Nat := ((List.range 8).map (fun j => if p j then 2 ^ j else 0)).sum

/-- The fall-back in force: the most severe (R333). -/
def State.supAction (s : State) (n : Nat) : Nat :=
  ((List.range 8).map (fun j => (s.supOf n j).level)).foldl max 0

/-- Show the supervision of a slot in its registers (R341). -/
def State.supShow (s : State) (n : Nat) : State :=
  let f (j : Nat) : Nat :=
    let c := (s.supOf n j).cur.cause
    (c % 2 * 4 + c / 2 % 2 * 2 + c / 4 % 2) * 16 ^ j
  ((((s.put (GOV_SUP_STATUS_SUSPECT n) (mask8 (fun j => (s.supOf n j).cur.cause ≠ 0))).put
    (GOV_SUP_STATUS_ON_BACKUP n) (mask8 (fun j => (s.supOf n j).onBackup))).put
    (GOV_SUP_STATUS_ACTION n) (s.supAction n)).putB
    (GOV_SUP_STATUS_CASCADE n) (!(s.slot n).casc.isEmpty)).setReg (GOV_SUP_CAUSE n)
    (BitVec.ofNat 32 ((List.range 8).map f).sum)

/-- Infusion stops (R324, R336). (DESIGN CHOICE, log entry 110.) -/
def State.infStop (s : State) (n : Nat) : State :=
  ((s.putB (GOV_SUP_STATUS_INFUSING n) false).putB (CUP_INF_STATUS_ACTIVE n) false).gev 0x500D n
    (s.get (CUP_INF_CFG_KIND n)) (s.slot n).inf.k

/-- Put both the stored and the used MANUAL word (R305). (DEDUCED, log entry 106.) -/
def State.setManual (s : State) (n a : Nat) (q : Int) : State :=
  let w : Word := BitVec.ofInt 32 q
  (s.setReg (0x100000 + 0x1000 * n + winManual a) w).setSlot n { s.slot n with
    win := tset (fun _ => (0 : Word)) (s.slot n).win (winManual a) w }

/-- Saturations of the slot's arithmetic: ARITH_SAT, and the count of the minute (R316). -/
def State.saturated (s : State) (n k : Nat) : State :=
  if k = 0 then s
  else (s.setSlot n { s.slot n with mSat := (s.slot n).mSat + k }).putB (GOV_SLOT_STATUS_ARITH_SAT n) true

/-- u_prev starts from the targets' present values (R305). (DEDUCED, log entry 106.) -/
def State.fromPresent (s : State) (n : Nat) : State :=
  let t := qtab (s.dims n).nu (fun a => s.present n a a)
  (({ s with freeIdx := s.freeIdx + 4 }).setSlot n { s.slot n with
    uPrev := t.1, uStart := t.1, everUp := [] }).saturated n t.2

/-- The fans that the slot's actuators name are the slot's while it is not OFF (R312, R376): until its first
output they keep their duty. -/
def State.takeFans (s : State) (n : Nat) : State :=
  s.each (List.range (s.dims n).nu) (fun t a =>
    let i := t.actIndex n a
    if t.actTarget n a = 2 ∧ (t.fan i).slot = none then
      t.setFan i { t.fan i with slot := some (t.get (FAN_STATUS_DUTY i)) }
    else t)

/-- MANUAL takes the u that the last sample applied, so the output holds; before any sample the spec gives it
no value (R305). (DEDUCED, log entry 106.) -/
def State.holdManual (s : State) (n : Nat) : State :=
  (s.each (List.range (s.dims n).nu) (fun t a =>
    t.setManual n a (if (t.slot n).ran then iget (t.slot n).u a else (s.freeAt 32 a).toInt))).tookN 4

/-- A capture with TRIGGER 1 starts when a selected slot enters TEST (R324, R341). -/
def State.cupAtTest (s : State) (n : Nat) : State :=
  if s.get CUP_STATUS_STATE = 1 ∧ s.get CUP_CFG_TRIGGER = 1 ∧ (s.get CUP_CFG_SLOTS).testBit n then
    s.put CUP_STATUS_STATE 2
  else s

/-- Enter a mode, with the record 0x5001 and what R305 and R324 lay down; the bumpless transfer is
the sample's. (DEDUCED, log entry 106.) -/
def State.enterMode (s : State) (n new cause : Nat) : State :=
  let old := s.gmode n
  let r := s.gev 0x5001 n (old * 256 + new) cause
  let q := (if old = gTest then r.infStop n else r).put (GOV_SLOT_STATUS_MODE n) new
  let a := q.setSlot n { q.slot n with added := false }
  -- a run of passing samples does not outlast OFF (DEDUCED from R304 and R305)
  let b := if old = gOff then (a.put (GOV_SLOT_STATUS_EXIT_RUN n) 0).takeFans n else a
  if new = gOff then
    let c := (b.setSlot n { b.slot n with sup := [], testOver := false, swapStep := 0, missed := 0 }).noRequest n
    ((c.each (List.range 4) (fun t k => t.idleTarget n k)).put (GOV_SUP_STATUS_FELL_BACK n) 0).supShow n
  else if new = gOpen then b.holdManual n
  else if new = gStart then
    if old = gOff then (b.fromPresent n).setSlot n { (b.fromPresent n).slot n with xp := [] } else b
  else if new = gClosed then
    let x := b.slot n
    (b.setSlot n { x with
      testOver := false,
      sup := x.sup.map (fun p => (p.1, { p.2 with level := if p.2.onBackup then 1 else 0 })) }).supShow n
  else if new = gTest then
    let c := (b.setSlot n { b.slot n with infRestart := true, testOver := false, inf := {} }).gev 0x500D n
      (b.get (CUP_INF_CFG_KIND n)) 0
    c.cupAtTest n
  else b

/-- Mode `m` is one in which a fall-back can be due (R333). (DEDUCED, log entry 113.) -/
def fallbackMode (m : Nat) : Bool := decide (2 ≤ m) && decide (m ≤ 5)

/-- An ACTION that is due is taken (R333). -/
def State.fallBack (s : State) (n j : Nat) : State :=
  let x := s.supOf n j
  let c := (s.gwin n).supCfg j
  let t := s.inc (GOV_SUP_STATS_FALLBACKS n)
  if x.onBackup then
    (t.setSup n j { x with
      level := max x.level 2, cur := { x.cur with owed := false } }).gev 0x5009 n j 0
  else if c.action = 2 then
    (t.setSup n j { x with
      prim := { x.cur with owed := false }, cur := {}, onBackup := true, since := s.tim.mono,
      level := max x.level 1 }).gev 0x5009 n j 2
  else
    (t.setSup n j { x with
      level := max x.level (if c.action = 1 then 3 else 2),
      cur := { x.cur with owed := false } }).gev 0x5009 n j c.action

/-- Outputs whose ACTION is due. -/
def State.due (s : State) (n : Nat) : List Nat :=
  if fallbackMode (s.gmode n) then
    (List.range (s.dims n).ny).filter (fun j => (s.supOf n j).cur.owed)
  else []

/-- The exit test of START and RECOVER (R304). (DEDUCED, log entry 107.) -/
def State.exitTest (s : State) (n : Nat) : Bool :=
  s.on (GOV_START_CFG_AUTO n) &&
  decide (s.get (GOV_START_CFG_EXIT_SAMPLES n) ≤ s.get (GOV_SLOT_STATUS_EXIT_RUN n)) &&
  (decide (s.gmode n = gStart) || (decide (s.gmode n = gRecover) &&
    decide (s.get (GOV_SUP_STATUS_SUSPECT n) = 0)))

/-- Window words at a latch: all that wait are taken into use, or, with a mode transition, those that
had reached the window by the previous latch (R320, R321, R492). -/
def State.takeWords (s : State) (n : Nat) (changed : Bool) : State :=
  let x := s.slot n
  let take := x.waiting.filter (fun p => !changed || p.2.2)
  let rest := (x.waiting.filter (fun p => changed && !p.2.2)).map (fun p => (p.1, p.2.1, true))
  let t := s.setSlot n { x with
    waiting := rest,
    win := take.foldl (fun w p => tset (fun _ => (0 : Word)) w p.1 p.2.1) x.win }
  if take.isEmpty then t
  else (t.put (GOV_COEF_EPOCH_WORDS n) (t.get (GOV_COEF_EPOCH_WORDS n) + take.length)).inc
    (GOV_COEF_EPOCH_LATCHES n)

/-- Cascades that start or end at a latch (R327). -/
def State.cascades (s : State) (n : Nat) : State :=
  s.each (List.range 4) (fun t l =>
    let w := t.reg (GOV_REF_SRC n)
    let src := bits w (8 * l + 6) (8 * l + 3)
    let on := w.getLsbD (8 * l + 7) && decide (3 ≤ t.gmode n) && decide (3 ≤ t.gmode src)
    let x := t.slot n
    if on = decide (l ∈ x.casc) then t
    else ((t.setSlot n { x with
        casc := if on then x.casc ++ [l] else x.casc.filter (fun k => k ≠ l) }).gev 0x500C n
      (src * 256 + l) (if on then 1 else 0)).supShow n)

/-- The transition that a slot makes by itself at a latch, and its cause (R302, R304). -/
def State.autoMode (s : State) (n : Nat) : Option (Nat × Nat) :=
  if (s.slot n).added then some (gStart, 3)
  else if s.exitTest n then some (gClosed, 1)
  else if decide (s.gmode n = gTest) && (s.slot n).testOver then some (gClosed, 4)
  else none

/-- In OPEN with every word of a swap in use, the loader asks for CLOSED (R323).
(DESIGN CHOICE, log entry 138.) -/
def State.swapClose (s : State) (n : Nat) : State :=
  let x := s.slot n
  if x.swapStep = 2 ∧ x.waiting = [] then
    let t := s.setSlot n { x with swapStep := 0 }
    if s.gmode n = gOpen then t.modeRequest n gClosed true else t
  else s

/-- The latch: at most one transition, a fall-back before a request before an automatic one; then the window
words, then the cascades (R303, R307). -/
def State.latch (s : State) (n : Nat) : State :=
  let old := s.gmode n
  let due := s.due n
  let a := s.each due (fun t j => t.fallBack n j)
  let go (t : State) (new cause : Nat) : State := ((t.takeWords n true).enterMode n new cause).cascades n
  let auto (t : State) : State := match t.autoMode n with
    | some p => go t p.1 p.2
    | none => ((t.takeWords n false).cascades n).swapClose n
  if !due.isEmpty && decide (old ≠ gRecover) then go a gRecover 2
  else match (a.slot n).request with
    | some m =>
      let b := a.noRequest n
      if b.modeAllowed n m then go b m (if (a.slot n).bySwap then 3 else 0)
      else auto ((b.inc (GOV_SAMPLE_STATS_CMD_DROPS n)).gev 0x5006 n m old)
    | none => auto a

/-! ### A sample (R307 to R318, R330 to R336) -/

/-- Read a source: raw value, whether it is fresh, and its mark (R309). -/
def State.readSource (s : State) (n key cls idx : Nat) (firm : Bool) : F32 × Bool × Mark :=
  let old := (s.slot n).marks.find? (fun p => p.1 = key)
  let differs (m : Mark) : Bool := match old with
    | some p => p.2 != m
    | none => decide (cls = 0) || decide (m.count ≠ 0)
  if cls = 0 then
    let w3 := s.estWord idx 3
    let m : Mark := { vtime := s.estWord idx 2, count := bits w3 7 0 }
    (s.estWord idx 0, w3.getLsbD 31 && !w3.getLsbD 28 && !(firm && w3.getLsbD 30) && differs m, m)
  else if cls = 1 then (s.reg (AIO_PI_RATE idx), true, {})
  else if cls = 2 then
    let m : Mark := { count := (s.fan idx).speeds }
    (s.fanTach idx, differs m, m)
  else if cls = 3 then
    let m : Mark := { count := tget (fun _ => 0) s.aoSeen idx }
    (s.reg (AIO_AO_READBACK idx), differs m, m)
  else (fNaN, false, {})

/-- A source as read for a sample: raw, normalised, fresh. -/
structure Taken where
  raw : F32
  q : Int
  sat : Nat
  fresh : Bool
deriving DecidableEq, Repr

/-- Take a source, normalised by R312; a NaN is not fresh (R316). -/
def State.takeSource (s : State) (n j key cls idx : Nat) (firm : Bool) : State × Taken :=
  let r := s.readSource n key cls idx firm
  let w := s.gwin n
  let q := qOfF (fmul (fsub r.1 (w.word (winIn j + 4))) (w.word (winIn j)))
  let x := s.slot n
  let t := s.setSlot n { x with marks := (x.marks.filter (fun p => p.1 ≠ key)) ++ [(key, r.2.2)] }
  match q with
  | some v => (t, { raw := r.1, q := v.1, sat := if r.2.1 then v.2 else 0, fresh := r.2.1 })
  | none => (t, { raw := r.1, q := 0, sat := 0, fresh := false })

/-- Source of a measured output: class, index, REQ_FIRM, and the backup's when it is in force
(R309, R333). -/
def State.source (s : State) (n j : Nat) : Nat × Nat × Bool :=
  (s.get (GOV_IN_SRC_CLASS n j), s.get (GOV_IN_SRC_INDEX n j), s.on (GOV_IN_SRC_REQ_FIRM n j))

/-- Latch the inputs: for each output the source in force, and the primary one beside a backup. -/
def State.takeInputs (s : State) (n : Nat) : State × List (Nat × Taken) × List (Nat × Taken) :=
  (List.range (s.dims n).ny).foldl
    (fun (q : State × List (Nat × Taken) × List (Nat × Taken)) j =>
      let t := q.1
      let p := t.source n j
      if (t.supOf n j).onBackup then
        let c := (t.gwin n).supCfg j
        let a := t.takeSource n j (2 * j) p.1 p.2.1 p.2.2
        let b := a.1.takeSource n j (2 * j + 1) c.bclass c.bindex false
        (b.1, q.2.1 ++ [(j, b.2)], q.2.2 ++ [(j, a.2)])
      else
        let a := t.takeSource n j (2 * j) p.1 p.2.1 p.2.2
        (a.1, q.2.1 ++ [(j, a.2)], q.2.2)) (s, [], [])

/-- What was taken of output `j`. (DEDUCED, log entry 113.) -/
def takenOf (l : List (Nat × Taken)) (j : Nat) : Taken :=
  tget (fun _ => { raw := fNaN, q := 0, sat := 0, fresh := false }) l j

/-- Output `a` of slot `m` as a reference takes it: one that leaves 20 µs after this instant is for the next
latch (R307, R329). -/
def State.outValue (s : State) (m a : Nat) (dflt : F32) : F32 :=
  let x := s.slot m
  tget (fun _ => dflt) (if x.outAt = some s.tim.cp then x.outPrev else x.out) a

/-- Latch the references: engineering values and normalised ones (R311, R312). (DEDUCED, log entries 107, 108.) -/
def State.takeRefs (s : State) (n : Nat) : State × Nat :=
  (List.range (s.dims n).nr).foldl (fun (q : State × Nat) l =>
    let t := q.1
    let x := t.slot n
    let w := t.reg (GOV_REF_SRC n)
    let set := t.reg (GOV_REF n l)
    let from_ := if l ∈ x.casc then
        t.outValue (bits w (8 * l + 6) (8 * l + 3)) (bits w (8 * l + 2) (8 * l + 1)) set
      else set
    let v := if fIsNaN from_ then tget (fun _ => (0 : F32)) x.ref l else from_
    let y := { x with ref := (l, v) :: terase x.ref l }
    match qOfF (fmul (fsub v ((t.gwin n).word (winRef l + 4))) ((t.gwin n).word (winRef l))) with
    | some r => (t.setSlot n { y with rq := tset (fun _ => (0 : Int)) x.rq l r.1 }, q.2 + r.2)
    | none => (t.setSlot n y, q.2)) (s, 0)

/-- Judge an output and its primary source, and what follows (R330 to R334). -/
def State.superviseOne (s : State) (n j : Nat) (cur : Seen) (prim : Option Seen) : State :=
  let x := s.supOf n j
  let biq := (s.dims n).biquad
  let c := (s.gwin n).supCfg j
  let now := s.tim.mono
  -- R334: the primary source while the backup replaces it
  let pj : Track := match prim with
    | some o =>
      let r := x.prim.judge biq c o now
      (match r.2 with
        | .restored _ => { r.1 with good := some 0 }
        | .suspect _ => { r.1 with good := none }
        | .none =>
          let ok := o.fresh && (biq || decide (c.plausM = 0) || decide ((o.resid.natAbs : Int) ≤ c.bound))
          { r.1 with good := r.1.good.map (fun g => if ok then g + 1 else 0) })
    | none => x.prim
  if x.onBackup && (match pj.good with
      | some g => decide (s.get (GOV_START_CFG_EXIT_SAMPLES n) ≤ g)
      | none => false) then
    ((s.setSup n j { x with
        cur := { pj with good := none }, prim := {}, onBackup := false, level := 0 }).put
      (GOV_SUP_STATUS_FELL_BACK n)
      (s.get (GOV_SUP_STATUS_FELL_BACK n) &&& (255 - 2 ^ j))).gev 0x500B n j ((now - x.since) / 1000000)
  else
    let r := x.cur.judge biq c cur now
    let t := s.setSup n j { x with cur := r.1, prim := pj }
    match r.2 with
    | .none => t
    | .suspect k => (t.inc (GOV_SUP_STATS_SUSPECTS n)).gev 0x5007 n j k
    | .restored us =>
      (if x.onBackup then t
       else t.put (GOV_SUP_STATUS_FELL_BACK n) (t.get (GOV_SUP_STATUS_FELL_BACK n) &&& (255 - 2 ^ j))).gev
        0x500A n j (us / 1000)

/-- The infusion of a sample: on a reference, or on an actuator (R335, R336). (DESIGN CHOICE, log entry 110.) -/
def State.infuse (s : State) (n : Nat) : State × Option (Nat × Int) × Option (Nat × Int) × QVal :=
  if s.gmode n ≠ gTest then (s.putB (GOV_SUP_STATUS_INFUSING n) false, none, none, (0, 0))
  else
    let cfg := s.reg (CUP_INF_CFG n)
    let x := s.slot n
    let g := if x.infRestart then Infusion.start cfg (s.reg (CUP_INF_FREQ n)) else x.inf
    let r := g.next cfg (s.reg (CUP_INF_AMP n)) (s.reg (CUP_INF_FREQ n))
      ((periodOf (s.reg (GOV_PERIOD n))).getD 1)
    let t := ((((s.setSlot n { x with inf := r.2, infRestart := false }).putB
      (GOV_SUP_STATUS_INFUSING n) (!r.2.done)).putB (CUP_INF_STATUS_ACTIVE n) (!r.2.done)).putB
      (CUP_INF_STATUS_DONE n) r.2.done).put (CUP_INF_STATUS_SAMPLES n) (satTo 30 r.2.k)
    if bits cfg 29 29 = 1 then (t, some (bits cfg 28 27, r.1.1), none, r.1)
    else (t, none, some (bits cfg 28 27, r.1.1), r.1)

/-- An outcome of a sample (R318). -/
def State.outcome (s : State) (n status reason : Nat) : State :=
  let t := (s.put (GOV_SLOT_STATUS_LAST_STATUS n) status).put (GOV_SLOT_STATUS_LAST_REASON n) reason
  if status = 0 then t
  else (t.inc (GOV_SAMPLE_STATS_NOT_DONE n)).setSlot n { t.slot n with
    mBad := (t.slot n).mBad + 1, mLast := status * 256 + reason }

/-- The steps missed in a lockstep hold are propagated; with the number of saturations (R316, R318).
(DEDUCED, log entry 111.) -/
def catchUp (w : Win) (d : Dims) (xp uPrev : List (Nat × Int)) (missed : Nat) : List (Nat × Int) × Nat :=
  let ds := w.descrs d.nx
  (List.range missed).foldl (fun x _ =>
    let p := qtab d.nx (fun i => if integral ds i then (iget x.1 i, 0) else propagate w d x.1 uPrev i)
    (p.1, x.2 + p.2)) (xp, 0)

/-- The words of a cup record, in the order of R338. -/
def cupWords (d : Dims) (groups : Nat) (inf : Int) (i : SampIn) (o : SampOut) : List Int :=
  let g (b : Nat) (l : List Int) : List Int := if groups.testBit b then l else []
  let tab (n : Nat) (t : List (Nat × Int)) : List Int := (List.range n).map (iget t)
  g 0 [inf] ++ g 1 (tab d.nr i.r) ++ g 2 (tab d.ny i.y) ++ g 3 (tab d.ny i.e) ++
    g 4 (if d.biquad then ((List.range d.nsec).map (fun k => [iget o.s1 k, iget o.s2 k])).flatten
      else tab d.nx o.x5) ++
    g 5 (tab d.nu o.u)

/-- A record of the sample is formed for the cup (R337, R338). -/
def State.cupForm (s : State) (n status : Nat) (words : List Int) : State :=
  if s.get CUP_STATUS_STATE = 2 ∧ (s.get CUP_CFG_SLOTS).testBit n then
    let tk := s.tim.cp
    let f (p : Nat → Bool) : Nat := ((List.range 4).map (fun a => if p a then 2 ^ a else 0)).sum
    let st := s.reg (GOV_ACT_STATUS n)
    let body := leBytes 6 (secOf tk) ++ leBytes 4 (nsOf tk) ++ leBytes 1 n ++ leBytes 1 words.length ++
      leBytes 4 (s.reg (GOV_COEF_EPOCH n)).toNat ++
      leBytes 1 (s.gmode n * 16 + status * 4) ++ leBytes 1 (s.get (GOV_SLOT_STATUS_FRESH n)) ++
      leBytes 1 (s.get (GOV_SUP_STATUS_SUSPECT n)) ++
      leBytes 1 (f (fun a => st.getLsbD (8 * a + 6)) + 16 * f (fun a => st.getLsbD (8 * a + 4))) ++
      (words.map (fun v => leBytes 4 (ofSigned 32 v))).flatten
    { s with cup := { s.cup with formed := s.cup.formed ++ [(tk, body)] } }
  else s

/-- A lockstep recovery has taken a sample of slot `n` (R455). -/
def State.failSlot (s : State) (n : Nat) : State :=
  { s with rel := { s.rel with failedSlots := s.rel.failedSlots ||| 2 ^ n } }

/-- The lanes add a slot's latched inputs and references, and the estimate epoch at the latch, to their
checkpoint (R454). -/
def State.latchKept (s : State) (n : Nat) (inputs : List (Nat × Taken)) (at_ : State) : State :=
  { s with rel := { s.rel with
      ckptEpoch := at_.reg MILL_EST_EPOCH
      ckptIn := (n, inputs.map (fun p => p.2.raw), (at_.slot n).ref.map (fun p => p.2)) ::
        s.rel.ckptIn.filter (fun p => p.1 != n) } }

/-- The sample after the latch, in a mode other than OFF: steps 1 to 12 of R315 or the biquad law,
supervision, the outputs and the outcome. -/
def State.sampleRun (s : State) (n : Nat) (bump : Bool) (cut : SampleCut) : State :=
  let d := s.dims n
  let x0 := s.slot n
  let back := if x0.missed = 0 ∨ d.biquad = true then (x0.xp, 0) else catchUp x0.win d x0.xp x0.uPrev x0.missed
  let s0 := s.setSlot n { x0 with missed := 0, xp := back.1 }
  let s1 := (s0.inc (GOV_SAMPLE_STATS_SAMPLES n)).setReg (GOV_EPOCH_READ n) (s0.reg MILL_EST_EPOCH)
  let tk := s1.takeInputs n
  let rf := tk.1.takeRefs n
  let s2 := rf.1.each (List.range d.nu) (fun t a => t.followStep n a)
  let away := (List.range d.nu).filter (fun a => s2.notFollowing n a ≠ 0)
  let actual := away.map (fun a => (a, (s2.actualValue n a (8 + a)).1))
  let w := s2.gwin n
  let x := s2.slot n
  let susp := (List.range d.ny).filter (fun j => (s2.supOf n j).cur.cause ≠ 0)
  let fresh (j : Nat) : Bool := (takenOf tk.2.1 j).fresh && !decide (j ∈ susp)
  let yh := if d.biquad then ([], 0) else qtab d.ny (yHat w d x.xp)
  let y0 := if fresh 0 then (takenOf tk.2.1 0).q else x.y0
  let y := if d.biquad then itab 1 (fun _ => y0)
    else itab d.ny (fun j => if fresh j then (takenOf tk.2.1 j).q else iget yh.1 j)
  let ig := s2.infuse n
  let s3 := ig.1
  let rk := match ig.2.1 with
    | some (l, k) =>
      let q := qSat (iget x.rq l + k)
      if l < d.nr then (tset (fun _ => (0 : Int)) x.rq l q.1, q.2) else (x.rq, 0)
    | none => (x.rq, 0)
  let r := rk.1
  let e := if d.biquad then qtab 1 (fun _ => qSat (iget r 0 - y0))
    else qtab d.ny (fun j => qSat (iget y j - iget yh.1 j))
  -- supervision is judged after step 4
  let seen (l : List (Nat × Taken)) (j : Nat) : Seen :=
    let v := takenOf l j
    { fresh := v.fresh, val := v.raw,
      pred := fadd (fdiv (qToF (iget yh.1 j)) (w.word (winIn j))) (w.word (winIn j + 4)),
      resid := if v.fresh then v.q - iget yh.1 j else 0 }
  let s4 := s3.each (List.range d.ny) (fun t j => t.superviseOne n j (seen tk.2.1 j)
    (if (t.supOf n j).onBackup then some (seen tk.2.2 j) else none))
  let i : SampIn :=
    { y := y, e := e.1, r := r, susp := susp, actual := actual, inf := ig.2.2.1, mode := s.gmode n,
      action := s2.supAction n, force := if cut = SampleCut.lockstep then some x.uPrev else none,
      open_ := (List.range 8).map (fun k => (s2.freeAt 32 k).toInt) }
  let o := if d.biquad then bqLaw w d x.s1 x.s2 x.uPrev i else sfLaw w d x.xp x.uPrev i bump
  let sats := o.sats + yh.2 + e.2 + rf.2 + (tk.2.1.map (fun p => p.2.sat)).sum + back.2 + rk.2 + ig.2.2.2.2 +
    (away.map (fun a => (s2.actualValue n a (8 + a)).2)).sum
  let s5 := ((s4.latchKept n tk.2.1 rf.1).tookN 12).setSlot n { s4.slot n with
    xp := if d.biquad then x.xp else o.xp, x := if d.biquad then x.x else o.x,
    s1 := if d.biquad then o.s1 else x.s1, s2 := if d.biquad then o.s2 else x.s2,
    y0 := if d.biquad then y0 else x.y0, u := if cut = SampleCut.clean then o.u else x.u
    ran := x.ran || decide (cut = SampleCut.clean), uPrev := o.ua }
  let s6 := s5.each (List.range d.nu) (fun t a =>
    let f := flagsOf o.flags a
    t.put ⟨GOV_ACT_STATUS n, 8 * a + 6, 8 * a + 4⟩
      ((if f.hi then 4 else 0) + (if f.lo then 2 else 0) + (if f.rate then 1 else 0)))
  let s7 := if bump && !d.biquad then
      (o.clamped.foldl (fun t c =>
        (t.putB (GOV_TRANSFER_STATUS_CLAMPED n) true).gev 0x5008 n (c.1 * 256 + c.2.1) c.2.2.toNat)
        (s6.inc (GOV_TRANSFER_STATUS_TRANSFERS n)))
    else s6
  let pass := (List.range d.ny).all (fun j => fresh j &&
    decide ((iget e.1 j).natAbs ≤ s.get (GOV_START_CFG_BAND n) * 256))
  let s8 := (s7.saturated n sats).put
    (GOV_SLOT_STATUS_FRESH n) (mask8 (fun j => decide (j < d.ny) && fresh j))
  let s9 := (if pass then s8.incSat (GOV_SLOT_STATUS_EXIT_RUN n)
    else s8.put (GOV_SLOT_STATUS_EXIT_RUN n) 0)
  let words := cupWords d (s.get CUP_SIGNALS_GROUPS) ig.2.2.2.1 i o
  let fin (t : State) (st re : Nat) : State := ((t.outcome n st re).cupForm n st words).supShow n
  match cut with
  | .clean =>
    let was := s9.slot n
    fin ((s9.setSlot n { was with outPrev := was.out, outAt := some s9.tim.cp }).each (List.range d.nu)
      (fun t a => t.handOver n a
        (ffma (qToF (iget o.u a)) (w.word (winOut a)) (w.word (winOut a + 4))))) 0 0
  | .off => (fin s9 2 1).enterMode n gOff 0
  | .removed => fin s9 2 2
  | .lockstep => (fin s9 1 1).failSlot n

/-- Slots run: the control plane is up, and neither SAFE, a sluice nor a thermal halt stands. -/
def State.slotsRun (s : State) : Bool :=
  s.cpUp && !s.pwr.safe && s.pwr.sluice.isNone && !s.pwr.sluiceDone && !s.guard.halted

/-- The slot exists, and site time stands at an instant of its grid (R299, R306). -/
def State.sampleDue (s : State) (n : Nat) : Bool :=
  s.on (GOV_SLOT_CFG_PRESENT n) && (match periodOf (s.reg (GOV_PERIOD n)) with
    | some p => decide (s.tim.cp % p = 0)
    | none => false)

/-- A sample instant of slot `n` (R303, R307, R318). -/
def State.govSample (s : State) (n : Nat) (cut : SampleCut) : State :=
  if !s.slotsRun || !s.sampleDue n then s
  else if s.on REL_STATUS_HOLD then
    if s.gmode n = gOff then s
    else
      ((s.setSlot n { s.slot n with missed := (s.slot n).missed + 1 }).outcome n 1 2).failSlot n
  else
    let t := s.latch n
    if t.gmode n = gOff then t
    else
      let bump := decide (t.gmode n = gClosed) && decide (s.gmode n ≠ gClosed) &&
        ((t.gwin n).word winTransfer).getLsbD 31
      t.sampleRun n bump cut

/-! ### Timers of a slot -/

/-- STALE_MS without a fresh sample (R330, R331, R334). (DESIGN CHOICE, log entry 104.) -/
def State.staleTimeout (s : State) (n j : Nat) (prim : Bool) : State :=
  let x := s.supOf n j
  let hit (t : Track) : Track := { t with
    cause := 1, found := s.tim.mono, restore := 0, ref := none, coasted := false, owed := false,
    good := none }
  if s.gmode n = gOff ∨ ((s.gwin n).supCfg j).staleMs = 0 ∨ (s.dims n).ny ≤ j then s
  else if prim then
    (if x.onBackup && decide (x.prim.cause = 0) then s.setSup n j { x with prim := hit x.prim } else s)
  else if x.cur.cause ≠ 0 then s
  else (((s.setSup n j { x with cur := hit x.cur }).inc (GOV_SUP_STATS_SUSPECTS n)).gev 0x5007 n j
    1).supShow n

/-- COAST has passed without restoration: the ACTION is due (R333). (DESIGN CHOICE, log entry 104.) -/
def State.coastExpire (s : State) (n j : Nat) : State :=
  let x := s.supOf n j
  if s.gmode n = gOff ∨ x.cur.cause = 0 ∨ x.cur.coasted = true then s
  else (s.setSup n j { x with cur := { x.cur with coasted := true, owed := true } }).put
    (GOV_SUP_STATUS_FELL_BACK n) (s.get (GOV_SUP_STATUS_FELL_BACK n) ||| 2 ^ j)

/-- TEST_MIN minutes in TEST have passed (R302). (DESIGN CHOICE, log entry 104.) -/
def State.testLimit (s : State) (n : Nat) : State :=
  if s.gmode n = gTest then s.setSlot n { s.slot n with testOver := true } else s

/-- The minute's records 0x5004 and 0x5005 (R316, R318). -/
def State.govMinute (s : State) (n : Nat) : State :=
  let x := s.slot n
  let a := s.setSlot n { x with mSat := 0, mBad := 0 }
  let b := if x.mSat = 0 then a else a.gev 0x5004 n x.mSat
  if x.mBad = 0 then b else b.gev 0x5005 n x.mBad x.mLast

/-! ### The coefficient window (R319 to R322, R341) -/

/-- A stored word of the window. -/
def State.stored (s : State) (n o : Nat) : Word := s.reg (0x100000 + 0x1000 * n + o)
def State.storedQ (s : State) (n o : Nat) : Int := toSigned 32 (s.stored n o).toNat

/-- The largest INDEX of a source class (R309). -/
def classMax (c : Nat) : Nat := if c = 0 then 1013 else if c = 1 then 3 else if c = 2 then 15 else 7

/-- A word of an integral descriptor is no reserved encoding (R319). -/
def State.descrOk (s : State) (n h : Nat) (w : Word) : Bool :=
  let d := s.dims n
  let others := (((List.range 4).filter (fun g => g ≠ h)).map (fun g => s.stored n (winInt g))).filter
    (fun v => v.getLsbD 31)
  (w &&& ~~~(0x8000F373 : Word)) == 0 && (!w.getLsbD 31 ||
    (decide (bits w 15 12 < d.nx) && decide (bits w 9 8 < d.nr) && decide (bits w 6 4 < d.ny) &&
     decide (bits w 1 0 < d.nu) && others.all (fun v => bits v 15 12 ≠ bits w 15 12) &&
     decide (others.length + 1 ≤ d.ni)))

/-- A word above 0 as binary32. -/
def fPos (w : Word) : Bool := flt 0 w

/-- DIV_l is in its range for a reference that comes from a slot, else 0 (R328, R341). -/
def State.divRange (s : State) (n : Nat) (w : Word) : Bool :=
  let rs := s.reg (GOV_REF_SRC n)
  (w &&& 0x80808080) == 0 && (List.range 4).all (fun l =>
    let dv := bits w (8 * l + 6) (8 * l)
    if rs.getLsbD (8 * l + 7) then decide (2 ≤ dv ∧ dv ≤ 64) else decide (dv = 0))

/-- DIV_l fits the references and periods of the slots (R328, R341). -/
def State.divOk (s : State) (n : Nat) (w : Word) : Bool :=
  let rs := s.reg (GOV_REF_SRC n)
  s.divRange n w && (List.range 4).all (fun l =>
    !rs.getLsbD (8 * l + 7) ||
    (match periodOf (s.reg (GOV_PERIOD n)), periodOf (s.reg (GOV_PERIOD (bits rs (8 * l + 6) (8 * l + 3)))) with
      | some p, some q => decide (q = bits w (8 * l + 6) (8 * l) * p)
      | _, _ => true))

/-- A supervision word is no reserved encoding (R330, R341). -/
def State.supWordOk (s : State) (n o : Nat) (w : Word) : Bool :=
  let k := (o - 0xF40) % 20
  let b := o - k
  if k = 0 then decide (w.toNat ≤ 86400000)
  else if k = 4 then
    decide (bits w 7 0 = 0) && decide (bits w 31 16 ≠ 1) &&
    (!(s.dims n).biquad || decide (bits w 31 8 = 0)) &&
    (decide (bits w 31 16 = 0) || fPos (s.stored n (b + 8))) &&
    (decide (bits w 15 8 = 0) || decide (0 < s.storedQ n (b + 12)))
  else if k = 8 then decide (bits (s.stored n (b + 4)) 31 16 = 0) || fPos w
  else if k = 12 then decide (bits (s.stored n (b + 4)) 15 8 = 0) || decide (0 < toSigned 32 w.toNat)
  else
    let c := bits w 29 26
    decide (bits w 31 30 ≠ 3) && (c = 15 || (decide (c ≤ 3) && decide (bits w 25 16 ≤ classMax c))) &&
    !(decide (c = 15) && decide (bits w 31 30 = 2))

/-- A window write forms no reserved encoding with the words then in the window (R322). -/
def State.coefOk (s : State) (n o : Nat) (w : Word) : Bool :=
  let v := toSigned 32 w.toNat
  if 0xE40 ≤ o ∧ o < 0xE80 then decide (o % 16 ≠ 0) || s.descrOk n ((o - 0xE40) / 16) w
  else if 0xEE0 ≤ o ∧ o < 0xF30 then
    let k := (o - 0xEE0) % 20
    if k = 8 then decide (v ≤ s.storedQ n (o + 4))
    else if k = 12 then decide (s.storedQ n (o - 4) ≤ v)
    else if k = 16 then decide (0 ≤ v)
    else true
  else if 0xF40 ≤ o ∧ o < 0xFE0 then s.supWordOk n o w
  else if 0xFE0 ≤ o ∧ o < 0xFF0 then
    let a := (o - 0xFE0) / 4
    decide (s.storedQ n (winMin a) ≤ v) && decide (v ≤ s.storedQ n (winMax a))
  else if o = 0xFF0 then s.divOk n w
  else if o = 0xFF4 then (w &&& 0x7FFFFFFF) == 0
  else if 0xFF8 ≤ o then w == 0
  else true

/-- A window write is carried out; in OFF it takes effect at once, over every older write of its word that still
waits (R320, R321). -/
def State.coefWrite (s : State) (n o : Nat) (w : Word) : State :=
  let t := s.setReg (0x100000 + 0x1000 * n + o) w
  let x := t.slot n
  if t.gmode n = gOff then
    let old := x.waiting.filter (fun p => p.1 = o)
    (t.setSlot n { x with
      win := tset (fun _ => (0 : Word)) x.win o w, waiting := x.waiting.filter (fun p => p.1 ≠ o) }).put
      (GOV_COEF_EPOCH_WORDS n) (t.get (GOV_COEF_EPOCH_WORDS n) + old.length + 1)
  else t.setSlot n { x with waiting := x.waiting ++ [(o, w, false)] }

/-! ### Configuration words of a slot (R299, R300, R306, R309, R312, R328) -/

/-- A configuration word of a slot, at offset `o`, is no reserved encoding by itself. -/
def State.slotWordOk (s : State) (n o : Nat) (w : Word) : Bool :=
  if o = 0x000 then
    decide (bits w 14 12 ≤ 4) && decide (bits w 14 12 ≤ bits w 27 24 + 1) &&
    (!w.getLsbD 30 || (decide (bits w 22 20 = 0) && decide (bits w 19 16 = 0) &&
      decide (bits w 14 12 = 0)))
  else if o = 0x004 then !s.on (GOV_SLOT_CFG_PRESENT n) || (periodOf w).isSome
  else if o = 0x014 then
    (List.range 4).all (fun l => !w.getLsbD (8 * l + 7) || decide (bits w (8 * l + 6) (8 * l + 3) ≠ n))
  else if 0x020 ≤ o ∧ o < 0x040 then
    let c := bits w 31 28
    if c = 15 then decide (s.get (GOV_SLOT_CFG_NY_M1 n) < (o - 0x020) / 4)
    else decide (c ≤ 3) && decide (bits w 9 0 ≤ classMax c)
  else if 0x050 ≤ o ∧ o < 0x060 then
    let k := bits w 31 28
    let i := bits w 7 0
    if k = 1 then decide (i ≤ 7)
    else if k = 2 ∨ k = 3 then decide (i ≤ 15)
    else if k = 4 then decide (i / 16 ≠ n) && decide (bits w 3 2 = 0)
    else decide (k = 0)
  else true

/-- Slots that have a section. -/
def State.slots (s : State) : List Nat := (List.range 16).filter (fun n => s.on (GOV_SLOT_CFG_PRESENT n))

/-- A slot takes a reference from a slot; it gives one as a source. -/
def State.isInner (s : State) (n : Nat) : Bool := (s.reg (GOV_REF_SRC n) &&& 0x80808080) != 0
def State.isSource (s : State) (n : Nat) : Bool :=
  s.slots.any (fun m =>
    let w := s.reg (GOV_REF_SRC m)
    (List.range 4).any (fun l => w.getLsbD (8 * l + 7) && decide (bits w (8 * l + 6) (8 * l + 3) = n)))

/-- All actuators of some slots. -/
def allActs (slots : List Nat) : List (Nat × Nat) :=
  (slots.map (fun n => (List.range 4).map (fun a => (n, a)))).flatten

/-- No two actuators of the slots `l` name one target (R212, R312). -/
def State.targetsFit (s : State) (l : List Nat) : Bool :=
  let key (p : Nat × Nat) : Nat × Nat := (s.actTarget p.1 p.2, s.actIndex p.1 p.2)
  (allActs l).all (fun p => (key p).1 = 0 || (allActs l).all (fun q => p == q || key p != key q))

/-- The slots' sections fit together: no target is named twice, cascades name each other, no slot is
inner and source, DIV fits (R312, R328). -/
def State.slotsFit (s : State) : Bool :=
  s.targetsFit s.slots &&
  s.slots.all (fun n =>
    let w := s.reg (GOV_REF_SRC n)
    !(s.isInner n && s.isSource n) && s.divOk n (s.stored n winCascade) &&
    (List.range 4).all (fun l =>
      !w.getLsbD (8 * l + 7) ||
      (let m := bits w (8 * l + 6) (8 * l + 3)
       let a := bits w (8 * l + 2) (8 * l + 1)
       decide (m ∈ s.slots) && decide (s.actTarget m a = 4) && decide (s.actIndex m a = 16 * n + l))) &&
    (List.range 4).all (fun a =>
      decide (s.actTarget n a ≠ 4) ||
      (let m := s.actIndex n a / 16
       let l := s.actIndex n a % 4
       let v := s.reg (GOV_REF_SRC m)
       decide (m ∈ s.slots) && v.getLsbD (8 * l + 7) && decide (bits v (8 * l + 6) (8 * l + 3) = n) &&
         decide (bits v (8 * l + 2) (8 * l + 1) = a))))

/-- Every slot that exists enters START when the sections have loaded (R91, R302, R305). -/
def State.govBoot (s : State) : State :=
  s.each (List.range 16) (fun t n =>
    if t.on (GOV_SLOT_CFG_PRESENT n) then t.enterMode n gStart 3 else t)

/-- A swap removes a slot's section (R302). -/
def State.govRemove (s : State) (n : Nat) : State :=
  if s.gmode n = gOff then (s.setSlot n { s.slot n with added := false }).noRequest n
  else (s.enterMode n gOff 3).cascades n

/-- A swap adds a slot: START at its latch (R302). -/
def State.govAdd (s : State) (n : Nat) : State := s.setSlot n { s.slot n with added := true }

/-- The state that GOV_XHAT shows (R301). -/
def State.xhat (s : State) (n : Nat) : Word :=
  let i := s.get (GOV_XHAT_SEL_INDEX n)
  let x := s.slot n
  BitVec.ofInt 32 (if (s.dims n).biquad then iget (if i % 2 = 1 then x.s2 else x.s1) (i / 2)
    else iget (if s.on (GOV_XHAT_SEL_PRED n) then x.xp else x.x) i)

/-! ### Infusion registers and the cup (R336 to R341) -/

/-- CUP_INF_CFG holds no reserved encoding. -/
def infCfgOk (w : Word) : Bool :=
  let k := bits w 31 30
  if k = 0 then true
  else if k = 1 then decide (7 ≤ bits w 26 23 ∧ bits w 26 23 ≤ 15) && decide (1 ≤ bits w 15 0)
  else if k = 2 then decide (1 ≤ bits w 15 0)
  else false

/-- CUP_INF_FREQ holds no reserved encoding, by the CUP_INF_CFG in force. -/
def State.infFreqOk (s : State) (n : Nat) (w : Word) : Bool :=
  let cfg := s.reg (CUP_INF_CFG n)
  if bits cfg 31 30 = 2 then
    decide (1 ≤ bits w 31 16 ∧ bits w 31 16 ≤ 32767) && decide (1 ≤ bits w 15 0 ∧ bits w 15 0 ≤ 32767)
  else if bits cfg 31 30 = 1 then decide (bits w 15 0 % 2 ^ bits cfg 26 23 ≠ 0)
  else true

/-- A write of CUP_INF_CFG; during TEST it restarts the generator at the next latch (R336). -/
def State.infCfgWrite (s : State) (n : Nat) (w : Word) : State :=
  let t := s.setReg (CUP_INF_CFG n) w
  if t.gmode n = gTest then t.setSlot n { t.slot n with infRestart := true } else t

/-- The area in use, in bytes. -/
def State.cupSize (s : State) : Nat := s.get CUP_LIMIT_MIB * 1048576

/-- A byte of the cup region (R340). (DESIGN CHOICE, log entry 4.) -/
def State.cupByte (s : State) (o : Nat) : Byte :=
  if o < s.cupSize then tget (fun _ => 0) s.cup.mem o else 0

/-- Show the pointers and counts of the cup. (DEDUCED, log entry 112.) -/
def State.cupShow (s : State) : State :=
  let first := match s.cup.held with
    | p :: _ => p.1
    | [] => s.cup.place
  let n := s.cup.held.length
  (((s.put CUP_WRITE_PTR_OFFSET s.cup.place).put CUP_FIRST_PTR_OFFSET first).setReg CUP_RECORDS
    (BitVec.ofNat 32 n)).setReg CUP_FIRST_SEQ (s.reg CUP_NEXT_SEQ - BitVec.ofNat 32 n)

/-- Capture stops, with the record 0x500E: 0 command, 1 full, 2 STOP_AFTER (R339). (DEDUCED, log entry 112.) -/
def State.cupStop (s : State) (state why : Nat) : State :=
  (s.put CUP_STATUS_STATE state).gev 0x500E why (s.reg CUP_RECORDS).toNat (s.reg CUP_WRITE_PTR).toNat

/-- Put bytes at a place; the oldest records that they overwrite are no longer held (R339).
(DEDUCED, log entry 112.) -/
def State.cupPut (s : State) (o : Nat) (l : List Byte) : State :=
  { s with cup := { s.cup with
      mem := (l.zipIdx).foldl (fun m p => tset (fun _ => (0 : Byte)) m (o + p.2) p.1) s.cup.mem,
      held := s.cup.held.filter (fun r => decide (r.1 + r.2 ≤ o) || decide (o + l.length ≤ r.1)) } }

/-- Bytes of a pad record over `n` bytes; what the spec does not state is free (R338, R339).
(DEDUCED, log entry 112.) -/
def State.cupPad (s : State) (n : Nat) : List Byte :=
  (List.range n).map (fun i =>
    if i = 14 then 0xFF else if i = 15 then BitVec.ofNat 8 ((n - 24) / 4)
    else if i < 24 then s.freeAt 8 i else 0)

/-- A formed record reaches the data plane and is written (R337, R339). -/
def State.cupWrite (s : State) (tk : Nat) (body : List Byte) : State :=
  if s.get CUP_STATUS_STATE ≠ 2 then s
  else
    let raw := leBytes 4 (s.reg CUP_NEXT_SEQ).toNat ++ body
    let rec_ := raw ++ List.replicate ((8 - raw.length % 8) % 8) 0
    let p := s.cup.place
    let wrap := decide (s.cupSize < p + rec_.length)
    if wrap && !s.on CUP_CFG_WRAP then s.cupStop 3 1
    else
      let a := if wrap && decide (p < s.cupSize) then
          let t := s.cupPut p (s.cupPad (s.cupSize - p))
          { t with freeIdx := t.freeIdx + 24 }
        else s
      let b := if wrap then a.setReg CUP_WRAPS (a.reg CUP_WRAPS + 1) else a
      let q := if wrap then 0 else p
      let c := b.cupPut q rec_
      let d : State := ((({ c with cup := { c.cup with
          held := c.cup.held ++ [(q, rec_.length)], place := q + rec_.length,
          count := c.cup.count + 1 } }).setReg CUP_NEXT_SEQ (c.reg CUP_NEXT_SEQ + 1)).setReg
        CUP_LAST_STAMP (BitVec.ofNat 32 (tk / 1000))).cupShow
      let n : Nat := (d.reg CUP_STOP_AFTER).toNat
      if n ≠ 0 ∧ n ≤ d.cup.count then d.cupStop 4 2 else d

/-- The records formed since the last tick cross to the data plane (R337). -/
def State.cupCarry (s : State) : State :=
  (s.cup.formed).foldl (fun t r => t.cupWrite r.1 r.2) { s with cup := { s.cup with formed := [] } }

/-- CUP_CTRL: 1 arm, 2 stop, 3 clear (R339, R341). (DEDUCED, log entry 112.) -/
def State.cupCtrl (s : State) (action : Nat) : State :=
  if action = 1 then
    ({ s with cup := { s.cup with count := 0 } }).put CUP_STATUS_STATE
      (if s.get CUP_CFG_TRIGGER = 0 then 2 else 1)
  else if action = 2 then
    if s.get CUP_STATUS_STATE = 1 ∨ s.get CUP_STATUS_STATE = 2 then s.cupStop 4 0 else s
  else
    (({ s with cup := { s.cup with held := [], place := 0, count := 0 } }).setReg CUP_WRAPS 0).cupShow

/-- Site time reaches CUP_AT: an armed capture with TRIGGER 2 starts (R337). -/
def State.cupAt (s : State) : State :=
  if s.get CUP_STATUS_STATE = 1 ∧ s.get CUP_CFG_TRIGGER = 2 then s.put CUP_STATUS_STATE 2 else s

end Sys2Proof.Machine
end

