-- ==== Sys2Proof/Machine/GuardOps.lean ====
section
/-! DEFINITION. The thermal guard: sensors, zones, actions, the start of a thermal halt (R389 to
R403). -/

namespace Sys2Proof.Machine

open Reg

/-- An event record of the always-on block. -/
def State.aev (s : State) (code : Nat) (p0 : Nat := 0) (p1 : Nat := 0) (p2 : Nat := 0) : State :=
  s.ev portAon code p0 p1 p2

/-- The code of a broken sensor; in a threshold, "never entered". -/
def gBroken : Nat := 0x7FFF

def gFans : Nat := 0
def gCutP0 : Nat := 1
def gCutP1 : Nat := 2
def gHalt : Nat := 3

/-! ### Readings (R389 to R392) -/

/-- A reading held in the range of good codes. -/
def goodCode (i : Int) : Int := clampI (-32768) 32766 i

/-- A remote diode: ΔV in nV and η in thousandths, as 1/16 °C; the last digit is open (R390).
(DEDUCED, log entry 122.) -/
def diodeCode (dv eta : Nat) (up : Bool) : Int :=
  -- q / (k ln 10) = 5039.77818533549 K per V
  ((160 * 503977818533549 * dv : Nat) - (43704 * 10 ^ 17 * eta : Nat) : Int) / ((10 ^ 18 * eta : Nat) : Int) +
    (if up then 1 else 0)

/-- A thermistor: ohms and B, as 1/16 °C (R390). (DEDUCED, log entry 122.) -/
def ntcCode (ohms b : Nat) : Int :=
  let x := fadd (fofRat 100 29815) (fdiv (ln32 (fofRat ohms 10000)) (fofNat b))
  ftoIntScaled 16 (fsub (fdiv 0x3F800000 x) (fofRat 27315 100))

/-- What a measurement gives: a code, or none when it is open or shorted; and which element of a die sensor
is lost, 1 or 2.  A lost element is back in use at its third good sample in a row (R392). -/
def State.measure (s : State) (n : Nat) (rawA : Word) (okA : Bool) (rawB : Word) (okB : Bool) :
    Option Int × Nat :=
  let off : Int := toSigned 16 (s.get (GUARD_SENS_CFG_OFFSET n))
  let p := s.get (GUARD_SENS_CFG_PARAM n)
  if n < 8 then
    (if okA then some (goodCode (diodeCode rawA.toNat (900 + p) ((s.free 1).toNat = 1) + off)) else none,
      0)
  else if n < 16 then (if okA then some (goodCode (ntcCode rawA.toNat (2 * p) + off)) else none, 0)
  else
    let a := toSigned 32 rawA.toNat
    let b := toSigned 32 rawB.toNat
    let l := tget (fun _ => 0) s.guard.lost n
    if okA && okB then
      (some (goodCode (if l = 0 ∨ 2 ≤ tget (fun _ => 0) s.guard.goodHalf n then max a b else if l = 1 then b else a)), 0)
    else if okA then (some (goodCode a), 2)
    else if okB then (some (goodCode b), 1)
    else (none, 0)

/-- The reading of a sensor, 1/16 °C. (DEDUCED, log entry 122.) -/
def State.reading (s : State) (n : Nat) : Int := toSigned 16 (s.get (GUARD_READING_TEMP n))

/-- One third of the accuracy bound (R390). -/
def guardSigma (n : Nat) : F32 :=
  if n < 8 then fofRat 1 3 else if n < 16 then fofRat 1 15 else fofRat 2 3

/-- Publish a reading in estimate entry 992 + n (R389, R392). -/
def State.guardPublish (s : State) (n : Nat) : State :=
  let v := fofRat (s.reading n) 16
  let src : Word := BitVec.ofNat 32 (3 * 2 ^ 28 + 992 + n)
  let put (t : State) (e : Nat) : State :=
    t.publish e v (guardSigma n) (tickOf s.tim.aon) { valid := !s.guardBroken n }
  let a := s.each ((992 + n) :: s.passEntries src) put
  if s.guardBroken n then a else a.forward src v (guardSigma n) s.tim.aon

/-- Consecutive good samples, counted. -/
def countGood (t : List (Nat × Nat)) (n : Nat) (good : Bool) : List (Nat × Nat) :=
  tset (fun _ => 0) t n (if good then tget (fun _ => 0) t n + 1 else 0)

/-- The lost element of a die sensor: 0 none. -/
def State.setLost (s : State) (n l : Nat) : State :=
  State.putB { s with guard := { s.guard with lost := tset (fun _ => 0) s.guard.lost n l } } (GUARD_READING_HALF n)
    (decide (l ≠ 0))

/-- A good sample: restoration, a lost element, the peak; `lost` is the element that this sample lacks (R392). -/
def State.goodSample (s : State) (n : Nat) (code : Int) (lost : Nat) : State :=
  let raw := ofSigned 16 code
  let g := s.guard
  let a : State := { s with guard := { g with
      good := countGood g.good n true, goodHalf := countGood g.goodHalf n (decide (lost = 0)) } }
  let was := s.guardBroken n
  let back := decide (3 ≤ tget (fun _ => 0) a.guard.good n)
  if was && !back then a
  else
    let b := if was then (((a.putB (GUARD_READING_BROKEN n) false).put GUARD_BROKEN_BROKEN
        (a.get GUARD_BROKEN_BROKEN &&& (0x3FFFFF - 2 ^ n))).aev 0x2003 n 0 raw) else a
    let c := b.put (GUARD_READING_TEMP n) raw
    let had := tget (fun _ => 0) c.guard.lost n
    let d := if lost ≠ 0 ∧ lost ≠ had then (c.setLost n lost).aev 0x2003 n 2 raw
      else if had ≠ 0 ∧ 3 ≤ tget (fun _ => 0) c.guard.goodHalf n then (c.setLost n 0).aev 0x2003 n 0 raw
      else c
    if toSigned 16 (d.get (GUARD_SENS_STATUS_PEAK n)) < code then d.put (GUARD_SENS_STATUS_PEAK n) raw
    else d

/-- A broken sample (R392). -/
def State.badSample (s : State) (n : Nat) : State :=
  let g := s.guard
  let a : State := { s with guard := { g with
      good := countGood g.good n false, goodHalf := countGood g.goodHalf n false } }
  if a.guardBroken n then a
  else
    ((((a.putB (GUARD_READING_BROKEN n) true).put (GUARD_READING_TEMP n) gBroken).put
      GUARD_BROKEN_BROKEN (a.get GUARD_BROKEN_BROKEN ||| 2 ^ n)).incSat
      (GUARD_SENS_STATUS_BROKEN_COUNT n)).aev 0x2003 n 1 gBroken

/-! ### Zones (R393 to R396) -/

/-- The members of a zone (R394). (DEDUCED, log entry 124.) -/
def State.zoneMembers (s : State) (z : Nat) : List Nat :=
  if z = 0 then [16, 19, 20, 21] else if z = 1 then [17] else if z = 2 then [18]
  else (List.range 16).filter (fun n => (s.get (GUARD_ZONE_CFG_MEMBERS z)).testBit n)

/-- The zone is judged: a fixed zone, or a user zone once a caddy is loaded (R53, R395).
(DEDUCED, log entry 124.) -/
def State.zoneJudged (s : State) (z : Nat) : Bool :=
  (decide (z < 3) || s.on GUARD_STATUS_USER_ZONES) && !(s.zoneMembers z).isEmpty

/-- Zones that a sensor serves. -/
def State.zonesOf (s : State) (n : Nat) : List Nat :=
  (List.range 8).filter (fun z => s.zoneJudged z && decide (n ∈ s.zoneMembers z))

/-- A threshold: `cut` or WARN, 1/16 °C. -/
def State.zoneThr (s : State) (z : Nat) (cut : Bool) : Int :=
  toSigned 16 (s.get (if cut then GUARD_ZONE_THR_CUT z else GUARD_ZONE_THR_WARN z))

/-- The zone has entered the threshold. -/
def State.zoneAt (s : State) (z : Nat) (cut : Bool) : Bool :=
  s.on (if cut then GUARD_ZONE_STATUS_CUT z else GUARD_ZONE_STATUS_WARN z)

/-- Show the zone temperature and BROKEN_IN (R395). -/
def State.zoneShow (s : State) (z : Nat) : State :=
  let m := (s.zoneMembers z).filter (fun n => decide (n ∈ s.guard.seen))
  let brk := m.any s.guardBroken
  let t := m.foldl (fun a n => max a (s.reading n)) (-32768)
  (s.put (GUARD_ZONE_STATUS_ZONE_TEMP z) (if brk then gBroken else ofSigned 16 t)).putB
    (GUARD_ZONE_STATUS_BROKEN_IN z) brk

/-- Index of a threshold in the guard's tables, and of a member at it. -/
def thrKey (z : Nat) (cut : Bool) : Nat := 2 * z + if cut then 1 else 0
def memKey (z : Nat) (cut : Bool) (n : Nat) : Nat := 32 * thrKey z cut + n

/-- WARN_ZONES, CUT_ZONES and SYS_STATUS.WARN_ANY follow the zones. -/
def State.zoneSummary (s : State) : State :=
  let m (cut : Bool) := mask8 (fun z => s.zoneAt z cut)
  ((s.put GUARD_STATUS_WARN_ZONES (m false)).put GUARD_STATUS_CUT_ZONES (m true)).putB
    SYS_STATUS_WARN_ANY (decide (m false ≠ 0))

/-- The dwell bit: the threshold is entered, no member is broken and none has read above the limit
at its latest sample (R393, R396). -/
def State.dwellShow (s : State) (z : Nat) (cut : Bool) : State :=
  let high := (s.zoneMembers z).any (fun n =>
    s.guardBroken n || tget (fun _ => false) s.guard.high (memKey z cut n))
  s.putB (if cut then GUARD_ZONE_STATUS_CUT_DWELL z else GUARD_ZONE_STATUS_WARN_DWELL z)
    (s.zoneAt z cut && !high)

/-- A zone enters a threshold (R396). -/
def State.zoneEnter1 (s : State) (z : Nat) (cut : Bool) : State :=
  if s.zoneAt z cut then s
  else
    let a := (s.putB (if cut then GUARD_ZONE_STATUS_CUT z else GUARD_ZONE_STATUS_WARN z) true).aev
      0x2001 z (if cut then 2 else 1) (s.get (GUARD_ZONE_STATUS_ZONE_TEMP z))
    let b : State := { a with guard := { a.guard with
        entered := tset (fun _ => 0) a.guard.entered (thrKey z cut) a.optime } }
    if !cut || decide (z = 0) then b
    else b.incSat (if z = 1 then GUARD_STATS_CUTS_P0 else if z = 2 then GUARD_STATS_CUTS_P1
      else GUARD_STATS_USER_CUTS)

/-- At CUT a zone is also at WARN. -/
def State.zoneEnter (s : State) (z : Nat) (cut : Bool) : State :=
  if cut then (s.zoneEnter1 z false).zoneEnter1 z true else s.zoneEnter1 z false

/-- Judge one threshold of a zone at a sample of member `n` (R393, R396). -/
def State.zoneJudge (s : State) (z n : Nat) (cut : Bool) : State :=
  let thr := s.zoneThr z cut
  let brk := s.guardBroken n
  let r := s.reading n
  let k := memKey z cut n
  let hyst : Int := 16 * s.get (GUARD_ZONE_CFG_HYST z)
  let never := decide (thr = (gBroken : Int)) && !s.zoneAt z cut
  let c := if !never && (brk || decide (thr ≤ r)) then tget (fun _ => 0) s.guard.counts k + 1 else 0
  let a : State := { s with guard := { s.guard with
      counts := tset (fun _ => 0) s.guard.counts k c,
      high := tset (fun _ => false) s.guard.high k (!never && (brk || decide (thr - hyst < r))) } }
  (if 3 ≤ c then a.zoneEnter z cut else a).dwellShow z cut

/-- The rate of a sensor (R391). -/
def State.guardFast (s : State) (n : Nat) : State :=
  let zs := s.zonesOf n
  let thrs := (zs.map (fun z => [s.zoneThr z false, s.zoneThr z true])).flatten
  let fast := !zs.isEmpty && (s.guardBroken n ||
    thrs.any (fun t => decide (t ≠ (gBroken : Int)) && decide (t - 80 ≤ s.reading n)))
  (s.putB (GUARD_READING_FAST n) fast).put GUARD_FAST_FAST
    (if fast then s.get GUARD_FAST_FAST ||| 2 ^ n else s.get GUARD_FAST_FAST &&& (0x3FFFFF - 2 ^ n))

/-! ### Actions (R397 to R399) -/

/-- A zone holds action `a` at a threshold it has entered. -/
def State.zoneActs (s : State) (z a : Nat) : Bool :=
  (s.zoneAt z false && (s.get (GUARD_ZONE_CFG_WARN_ACT z)).testBit a) ||
  (s.zoneAt z true && (s.get (GUARD_ZONE_CFG_CUT_ACT z)).testBit a)

/-- Zones that hold an action. -/
def State.zonesHolding (s : State) (a : Nat) : List Nat :=
  (List.range 8).filter (fun z => s.zoneActs z a)

/-- Fans whose policy the guard's FANS action overrides (R398). (DEDUCED, log entry 124.) -/
def State.fansOverridden (s : State) : Nat :=
  ((List.range 16).map (fun f =>
    if (s.fanDrive f).1 = 4 && ((s.fan f).slot.isSome || s.get (FAN_CFG_MODE f) ≠ 1) then 2 ^ f else 0)).sum

/-- A guard action begins to override outputs that policy drives, fans among them (R398). -/
def State.overrideStart (s : State) (z fans : Nat) : State := (s.putB GUARD_STATUS_OVERRIDE true).aev 0x2004 z fans

/-- Overrides by the FANS action, each from where it starts: when the action rises, or while it is held when
policy takes a fan (R398). (DEDUCED, log entry 124.) -/
def State.overrides (s : State) : State :=
  if !s.cpUp then s
  else
    let now := if s.on GUARD_STATUS_FANS_FORCED then s.fansOverridden else 0
    let new := now &&& (0xFFFF - s.guard.fansOver)
    let t : State := { s with guard := { s.guard with fansOver := now } }
    if new = 0 then t else t.overrideStart ((s.zonesHolding gFans).headD 0) new

/-- The FANS action follows the zones (R397, R398). -/
def State.guardFans (s : State) : State :=
  (s.putB GUARD_STATUS_FANS_FORCED (!(s.zonesHolding gFans).isEmpty)).overrides

/-- Channels of some banks that a command energises (R397, R398). -/
def State.banksBusy (s : State) (banks : List Nat) : Bool :=
  banks.any (fun b => (List.range 8).any (fun i => isOn (s.vst (8 * b + i))))

/-- Fans that a halt takes from policy: one in MODE 2, or one of a slot (R398, R399). -/
def State.fansDriven (s : State) : Nat :=
  ((List.range 16).map (fun f =>
    if (s.fan f).slot.isSome || s.get (FAN_CFG_MODE f) = 2 then 2 ^ f else 0)).sum

/-- A CUT line or HALT overrides what commands, slots and the host's modes drive (R398).
(DEDUCED, log entry 124.) -/
def State.cutOverride (s : State) (z fans : Nat) (banks : List Nat) : State :=
  if s.cpUp && (decide (fans ≠ 0) || s.banksBusy banks) then s.overrideStart z fans else s

/-- A CUT line follows the zones: the banks of its die are cut when it rises (R397, R369). -/
def State.guardCut (s : State) (die : Nat) : State :=
  let on := !(s.zonesHolding (if die = 0 then gCutP0 else gCutP1)).isEmpty
  let was := if die = 0 then s.pwr.cutP0 else s.pwr.cutP1
  if on = was then s
  else
    let t : State := { s with pwr := if die = 0 then { s.pwr with cutP0 := on } else { s.pwr with cutP1 := on } }
    let u := t.send (.pin (if die = 0 then "CUT_P0" else "CUT_P1") on)
    if !u.cpUp then u
    else if on then
      (u.cutOverride ((s.zonesHolding (if die = 0 then gCutP0 else gCutP1)).headD 0) 0 (dieBanks die)).cutBanks
        (dieBanks die) 0x18
    else u.each (dieBanks die) State.bankShow

/-- The Millstone steps in progress are abandoned (R66, R399). -/
def State.millAbandon (s : State) : State :=
  { s with mill := { s.mill with
      bodies := s.mill.bodies.map (fun p =>
        (p.1, { p.2 with run := none, solving := none, solveAgain := none, ready := [], rollTo := none, rollSteps := [] })),
      quads := [], forecasts := [], snapWait := [], snapGot := [], snapBusy := false, snapWaited := false } }

/-- Sensors of the dies that keep a halted module from its restart (R402). -/
def State.hotDies (s : State) : List Nat :=
  [16, 17, 18, 19, 20, 21].filter (fun n => s.guardBroken n || decide (1760 < s.reading n))

/-- HALT rises (R69, R399): every stage is cut, the analog outputs go to SAFE_CODE, the Millstone step is
abandoned, step 4 of a sluice ends where it stands, the grace runs.
(DESIGN CHOICE, DEDUCED, log entries 123, 146.) -/
def State.thermalHalt (s : State) (z : Nat) : State :=
  if s.guard.halted then s
  else
    let peak := if s.guardBroken 16 then 0x8000 else s.get (GUARD_READING_TEMP 16)
    let a : State := { s with guard := { s.guard with
        halted := true, haltZone := z, haltAt := s.optime, grace := true, haltZones := [z],
        hot := s.hotDies } }
    let b := ((((((a.incSat GUARD_STATS_HALTS).put GUARD_HALT_LAST_ZONE z).put GUARD_HALT_LAST_ABSOLUTE
      0).put GUARD_HALT_LAST_GRACE_FULL 0).put GUARD_HALT_LAST_GRACE_100US 0).put GUARD_HALT_LAST_PEAK
      peak).send (.pin "HALT" true)
    let b := b.cutOverride z b.fansDriven allBanks
    let c := (if b.cpUp then ((b.cutBanks allBanks 0x18).fansCut).aoSafe else b).millAbandon
    let d := (c.aev 0x2005 z (c.get (GUARD_ZONE_STATUS_ZONE_TEMP z))).unfreeze 3
    let e := d.stripHalt
    { e with pwr := { e.pwr with sluice := e.pwr.sluice.map (fun x =>
        { x with halted := true, step := if x.step = 4 ∧ e.strip.run.isNone then 5 else x.step }) } }

/-- The HALT action follows the zones; a zone that enters its HALT level in a halt counts for the
restart (R399, R402). (DESIGN CHOICE, log entry 123.) -/
def State.guardHalt (s : State) : State :=
  (s.zonesHolding gHalt).foldl (fun t z =>
    if t.guard.halted then
      (if z ∈ t.guard.haltZones then t
       else { t with guard := { t.guard with haltZones := z :: t.guard.haltZones } })
    else t.thermalHalt z) s

/-- Every action follows the zones (R397). -/
def State.guardActs (s : State) : State :=
  (((s.zoneSummary.guardFans).guardCut 0).guardCut 1).guardHalt

/-- During a halt: the peak of the logic die, the absolute threshold in the grace, the cooling test
(R399, R402). -/
def State.haltWatch (s : State) (n : Nat) : State :=
  if !s.guard.halted then s
  else
    let a := if n = 16 && !s.guardBroken 16 &&
        decide (toSigned 16 (s.get GUARD_HALT_LAST_PEAK) < s.reading 16) then
      s.put GUARD_HALT_LAST_PEAK (s.get (GUARD_READING_TEMP 16)) else s
    let b := if n = 16 && a.guard.grace && (a.guardBroken 16 || decide (2640 ≤ a.reading 16)) then
      a.putB GUARD_HALT_LAST_ABSOLUTE true else a
    { b with guard := { b.guard with hot := b.hotDies, cooled := b.guard.cooled && b.hotDies.isEmpty } }

/-- A sample of sensor `n` (R391 to R399). -/
def State.guardSample (s : State) (n : Nat) (rawA : Word) (okA : Bool) (rawB : Word) (okB : Bool) :
    State :=
  if !s.aonUp then s
  else
    let m := s.measure n rawA okA rawB okB
    let a0 := if n < 8 then s.took else s
    let a : State := { a0 with guard := { a0.guard with
        seen := if n ∈ a0.guard.seen then a0.guard.seen else n :: a0.guard.seen } }
    let b := match m.1 with
      | some c => a.goodSample n c m.2
      | none => a.badSample n
    let c := b.guardPublish n
    let d := c.each (c.zonesOf n) (fun t z => ((t.zoneShow z).zoneJudge z n false).zoneJudge z n true)
    ((d.guardFast n).haltWatch n).guardActs

/-- The dwell time of a threshold has passed (R396, R397). -/
def State.dwellExpire (s : State) (z : Nat) (cut : Bool) : State :=
  let dw := s.on (if cut then GUARD_ZONE_STATUS_CUT_DWELL z else GUARD_ZONE_STATUS_WARN_DWELL z)
  if !s.aonUp || !dw || !s.zoneAt z cut || (!cut && s.zoneAt z true) then s
  else
    let held := (s.optime - tget (fun _ => 0) s.guard.entered (thrKey z cut)) / 1024
    let a := ((s.putB (if cut then GUARD_ZONE_STATUS_CUT z else GUARD_ZONE_STATUS_WARN z) false).putB
      (if cut then GUARD_ZONE_STATUS_CUT_DWELL z else GUARD_ZONE_STATUS_WARN_DWELL z) false).aev
      0x2002 z (if cut then 2 else 1) held
    let b : State := { a with guard := { a.guard with
        counts := tkeep (fun k => decide (k / 32 ≠ thrKey z cut)) a.guard.counts } }
    b.guardActs

/-! ### Configuration (the notes of GUARD_SENS_CFG and GUARD_ZONE_CFG) -/

/-- PARAM lies in its range. -/
def paramOk (n p : Nat) : Bool :=
  if n < 8 then decide (p ≤ 200) else decide (1000 ≤ p) && decide (p ≤ 2500)

/-- A word of GUARD_SENS_CFG is no reserved encoding. -/
def State.sensCfgOk (s : State) (n : Nat) (w : Word) : Bool :=
  decide (16 ≤ n) || paramOk n (bits w 15 4) ||
    !((List.range 8).any (fun z => (s.get (GUARD_ZONE_CFG_MEMBERS z)).testBit n))

/-- A word of GUARD_ZONE_CFG is no reserved encoding. -/
def State.zoneCfgOk (s : State) (z : Nat) (w : Word) : Bool :=
  decide (2 ≤ bits w 15 12) && !w.getLsbD 11 &&
    (List.range 16).all (fun n => !w.getLsbD (16 + n) || (s.get (GUARD_ZONE_CFG_MEMBERS z)).testBit n ||
      paramOk n (s.get (GUARD_SENS_CFG_PARAM n)))

/-- A word of GUARD_ZONE_THR is no reserved encoding. -/
def zoneThrOk (w : Word) : Bool := decide (toSigned 16 (bits w 15 0) ≤ toSigned 16 (bits w 31 16))

/-- A thermal restart may be made (R402): cool for 10 s is the command's own condition. -/
def State.restartReady (s : State) : Bool :=
  s.guard.halted && !s.guard.grace && s.guard.hot.isEmpty &&
    s.guard.haltZones.all (fun z => decide (z < 3) || !s.zoneAt z true)

end Sys2Proof.Machine
end

