-- ==== Sys2Proof/Machine/NetBase.lean ====
section
/-! DEFINITION. The management plane's host side below its services: interrupt status, the host
watchdog (R149 to R151), sessions and datagrams of KMP (R122 to R128, R131), firmware restarts (R98,
R144), the switch (R115 to R118) and the module's addresses (R119 to R121). -/

namespace Sys2Proof.Machine

open Reg

/-- An event record of the network port. -/
def State.nev (s : State) (code : Nat) (p0 : Nat := 0) (p1 : Nat := 0) (p2 : Nat := 0) : State :=
  s.ev portNet code p0 p1 p2

/-! ### Which services run (R91, R94, R98) -/

/-- The management cores serve hosts: firmware or ROM services, and no restart (R94, R98).
(DESIGN CHOICE, log entry 65.) -/
def State.serves (s : State) : Bool := (s.isLoaded || s.isBare) && !s.caddy.fwRestart

/-- The Ethernet ports and the host SPI port are configured: the planes are up, and a caddy has loaded or bare
mode has been entered; before that the PHYs are powered down and the port's pins ignored (R50). -/
def State.configured (s : State) : Bool := s.mpUp && (s.isLoaded || s.on CADDY_STATUS_BARE)

/-- nHSPI_IRQ is low (R148). -/
def State.hspiIrq (s : State) : Bool :=
  (s.get NET_HSPI_IRQ_EN_EN &&& (s.reg NET_HSPI_IRQ_STATUS).toNat % 16) != 0

/-! ### Host watchdog (R149 to R151) -/

/-- The watchdog releases the fans. -/
def State.wdogRelease (s : State) : State :=
  let t := (((s.putB NET_WDOG_STATUS_TRIPPED false).put NET_WDOG_STATUS_GOOD_COUNT 0).putB
    NET_STATUS_WDOG_TRIPPED false).putB NET_HSPI_IRQ_STATUS_WDOG true
  { t.nev 0x800B ((s.tim.mono - s.net.tripAt) / 1000000) with net := { t.net with counted := none } }

/-- The count of heartbeats towards a release (R151). -/
def State.goodCount (s : State) : Nat :=
  match s.net.counted with
  | none => 1
  | some m =>
    if s.get NET_WDOG_CFG_TIMEOUT_S * 1000000 < s.tim.mono - m then 1
    else s.get NET_WDOG_STATUS_GOOD_COUNT + 1

/-- The heartbeat is too close to the last counted one to count (R151). (DEDUCED, log entry 8.) -/
def State.beatTooSoon (s : State) : Bool :=
  match s.net.counted with
  | none => false
  | some m => decide (s.tim.mono - m < 100000)

/-- The bit of SOURCES that a requester's heartbeats need; the management cores have none (R149). -/
def beatSource (req : Nat) : Option Nat :=
  if 0x40 ≤ req ∧ req < 0x48 then some 0
  else if req = 0x20 then some 1
  else if req = 0x10 then some 2
  else none

/-- A write to NET_HEARTBEAT has arrived (R149 to R151). -/
def State.heartbeat (s : State) (req : Nat) : State :=
  match beatSource req with
  | none => s
  | some b =>
    if !(s.reg NET_WDOG_CFG).getLsbD (8 + b) then s
    else
      let t : State := { s with net := { s.net with beat := s.tim.mono } }
      if !s.on NET_WDOG_STATUS_TRIPPED || s.beatTooSoon then t
      else if s.goodCount = 3 then t.wdogRelease
      else
        let u := t.put NET_WDOG_STATUS_GOOD_COUNT s.goodCount
        { u with net := { u.net with counted := some s.tim.mono } }

/-- The timer reaches TIMEOUT_S (R150). (DEDUCED, log entry 66.) -/
def State.wdogTrip (s : State) : State :=
  if !s.isLoaded || !s.on NET_WDOG_CFG_ENABLE || s.on NET_WDOG_STATUS_TRIPPED ||
      decide (s.tim.mono - s.net.beat < s.get NET_WDOG_CFG_TIMEOUT_S * 1000000) then s
  else
    let t := ((((s.putB NET_WDOG_STATUS_TRIPPED true).put NET_WDOG_STATUS_GOOD_COUNT 0).incSat
      NET_WDOG_STATUS_TRIP_COUNT).putB NET_STATUS_WDOG_TRIPPED true).putB NET_HSPI_IRQ_STATUS_WDOG true
    let u := t.nev 0x800A (s.get NET_WDOG_CFG_TIMEOUT_S) (s.get NET_WDOG_CFG_SOURCES)
    { u with net := { u.net with counted := none, tripAt := s.tim.mono } }

/-! ### KMP datagrams (R122, R125, R131) -/

/-- A KMP datagram taken apart. -/
structure Kmp where
  ver : Nat
  op : Nat
  sess : Nat
  reply : Bool
  ctr : Nat
  body : List Byte
  /-- bytes 0 to 15 + LENGTH, and the tag -/
  signed : List Byte
  tag : List Byte
deriving DecidableEq, Repr

/-- The fields of a datagram whose length agrees with LENGTH. (DESIGN CHOICE, log entries 44, 157.) -/
def kmpParse (dg : List Byte) : Option Kmp :=
  let len := ofLe (slice 12 2 dg)
  if dg.length < 32 ∨ 1400 < len ∨ dg.length ≠ 32 + len then none
  else some {
    ver := ofLe (slice 0 1 dg), op := ofLe (slice 1 1 dg), sess := ofLe (slice 2 1 dg)
    reply := ofLe (slice 3 1 dg) % 2 = 1, ctr := ofLe (slice 4 8 dg)
    body := slice 16 len dg, signed := dg.take (16 + len), tag := dg.drop (16 + len) }

/-- The tag of a datagram's bytes under a key (R125). -/
def kmpTag (key signed : List Byte) : List Byte := (hmac256 key signed).take 16

/-- Bytes 0 to 15 and the body of a datagram of the module. -/
def kmpBytes (op sess ctr status : Nat) (body : List Byte) : List Byte :=
  [0x01, BitVec.ofNat 8 op, BitVec.ofNat 8 sess, 0x01] ++ leBytes 8 ctr ++ leBytes 2 body.length ++
    [BitVec.ofNat 8 status, 0] ++ body

/-! ### Sessions (R124 to R128) -/

def State.session (s : State) (n : Nat) : Session := tget (fun _ => {}) s.net.sessions n
def State.setSession (s : State) (n : Nat) (x : Session) : State :=
  { s with net := { s.net with sessions := tset (fun _ => {}) s.net.sessions n x } }

/-- Sessions that are open or pending. -/
def State.openSessions (s : State) : List Nat := (List.range 8).filter (fun n => s.on (NET_SESSION_OPEN n))

/-- A datagram of a session, or for `n` = 0xFF in bare mode; nothing for a session that is gone.  In bare mode counters are not used and the tag is zero
(R134); the spec gives the counter of those no value. -/
def State.kmpSend (s : State) (n op status : Nat) (body : List Byte) : State :=
  if n < 8 then
    let x := s.session n
    let dg := kmpBytes op n x.sendCtr status body
    (s.setSession n { x with sendCtr := x.sendCtr + 1 }).send (.kmp (dg ++ kmpTag x.key dg))
  else if n ≠ 0xFF then s
  else
    (s.took).send (.kmp (kmpBytes op 0xFF (s.free 64).toNat status body ++ List.replicate 16 0))

/-- A reply: its body begins with the COUNTER of the request (R131). (DESIGN CHOICE, log entry 41.) -/
def State.kmpReply (s : State) (n op ctr status : Nat) (body : List Byte) : State :=
  s.kmpSend n op status (leBytes 8 ctr ++ body)

/-- A datagram fails its tag or its session number (R127). (DESIGN CHOICE, log entry 44.) -/
def State.kmpTagFail (s : State) (src : Nat) : State :=
  let t := s.inc NET_KMP_STATS_TAG_FAIL
  { t with net := { t.net with tagFails := t.net.tagFails + 1, tagFrom := src } }

/-- The counter check of R126. (DESIGN CHOICE, log entry 158.) -/
def ctrFresh (x : Session) (c : Nat) : Bool :=
  decide (x.high < c) || (decide (x.high < c + 64) && decide (c ≤ x.high) && decide (c ∉ x.seen) &&
    decide (c ≠ 0))

/-- The session after it has accepted a counter at running time `now`. -/
def Session.accept (x : Session) (c now : Nat) : Session :=
  let h := max x.high c
  { x with
    high := h, seen := (c :: x.seen).filter (fun d => decide (h < d + 64)), pending := false, last := now }

/-- The second ends (R127). -/
def State.kmpSecond (s : State) : State :=
  if s.net.tagFails = 0 then s
  else
    let t := s.nev 0xC010 s.net.tagFails s.net.tagFrom
    { t with net := { t.net with tagFails := 0, tagFrom := 0 } }

/-! ### Transfers and the end of a session (R128, R132) -/

/-- SWAP_BUSY: a caddy write or a swap is in progress. -/
def State.busyShow (s : State) : State :=
  s.putB CADDY_STATUS_SWAP_BUSY (s.caddy.writing || s.caddy.swap.isSome)

/-- A transfer is over: a caddy write no longer runs, exported bodies step again (R96, R298).  An import
whose data have all come goes on without its session. -/
def State.xferDrop (s : State) (x : Xfer) : State :=
  let t : State := { s with net := { s.net with xfers := s.net.xfers.filter (fun y => decide (y ≠ x)) } }
  if x.ready then { s with net := { s.net with xfers := s.net.xfers.map (fun y => if y = x then { x with session := 8 } else y) } }
  else match x.kind with
  | .caddy _ _ => State.busyShow { t with caddy := { t.caddy with writing := false } }
  | .snapOut l =>
    let also (k : Nat) : Bool := t.net.xfers.any (fun y => match y.kind with | .snapOut l' => l'.contains k | _ => false)
    t.each (l.filter (fun k => !also k)) (fun u k => (u.setBody k { u.body k with exporting := false }).bodyNext k)
  | _ => t

/-- A session closes: 0 BYE, 1 idle, 2 restart, 3 swap.  Its transfers and reads end and its captures
are discarded (R110, R128). (DESIGN CHOICE, log entry 48.) -/
def State.closeSession (s : State) (n why : Nat) : State :=
  if !s.on (NET_SESSION_OPEN n) then s
  else
    let a := s.each (s.net.xfers.filter (fun x => x.session = n)) State.xferDrop
    let b : State := { a with
      net := { a.net with sessions := terase a.net.sessions n }
      fab := { a.fab with
        txns := a.fab.txns.filter (fun t => decide (t.requester ≠ 0x40 + n))
        caps := tkeep (fun k => decide (k / 2 ^ 24 ≠ 0x40 + n)) a.fab.caps } }
    let c := b.setReg (NET_SESSION n) 0
    (c.put NET_STATUS_KMP_SESSIONS c.openSessions.length).nev 0x8006 n why

/-- Every session closes. -/
def State.closeAll (s : State) (why : Nat) : State := s.each s.openSessions (fun t n => t.closeSession n why)

/-- A session opens, pending (R124, R128). -/
def State.openSession (s : State) (n key : Nat) (operate : Bool) (ks : List Byte) (src : Nat) : State :=
  let t := s.setSession n { pending := true, key := ks, client := src, last := s.tim.mono }
  let u := t.setReg (NET_SESSION n)
    (BitVec.ofNat 32 (2 ^ 31 + (if operate then 2 ^ 30 else 0) + key % 4 * 2 ^ 28))
  (u.put NET_STATUS_KMP_SESSIONS u.openSessions.length).nev 0x8005 n key src

/-- A client whose poll ends without a result. -/
def Client.halt (c : Client) : Client := { c with polling := false, due := false, waiting := false, todo := [] }

/-! ### Management firmware restart (R33, R98, R144) -/

/-- The management cores restart: sessions close with `why`, polls and host reads end. (DEDUCED, log entry 40.) -/
def State.fwRestart (s : State) (why : Nat) : State :=
  let t := (s.closeAll why).putB SYS_STATUS_MP_FW false
  { t with
    caddy := { t.caddy with fwRestart := true }
    net := { t.net with clients := t.net.clients.map (fun p => (p.1, p.2.halt)) } }

/-! ### The switch (R115 to R118) -/

/-- A big-endian field of a frame. -/
def frameNat (f : List Byte) (i n : Nat) : Nat := ofBe (slice i n f)

/-- A frame's VLAN tag, its EtherType behind it, and where its payload begins. -/
def frameTagged (f : List Byte) : Bool := frameNat f 12 2 = 0x8100
def frameType (f : List Byte) : Nat := if frameTagged f then frameNat f 16 2 else frameNat f 12 2
def frameBody (f : List Byte) : Nat := if frameTagged f then 18 else 14

/-- What a frame carries as the switch sees it: a whole UDP datagram or the first fragment of one, with
its destination port; a later fragment; in both cases the bytes that name the datagram. -/
inductive FrameIp where
  | other
  | udp (port : Nat) (name : List Byte)
  | later (name : List Byte)
deriving DecidableEq, Repr

/-- Walk the extension headers of an IPv6 packet: the next header and where it begins, and the fragment
header met.  The first argument bounds the number of headers. -/
def ip6Walk (f : List Byte) : Nat → Nat → Nat → Option Nat → Nat × Nat × Option Nat
  | 0, nh, o, fr => (nh, o, fr)
  | k + 1, nh, o, fr =>
    if nh = 0 ∨ nh = 43 ∨ nh = 60 ∨ nh = 135 then
      ip6Walk f k (frameNat f o 1) (o + 8 * (frameNat f (o + 1) 1 + 1)) fr
    else if nh = 51 then ip6Walk f k (frameNat f o 1) (o + 4 * (frameNat f (o + 1) 1 + 2)) fr
    else if nh = 44 then
      if frameNat f (o + 2) 2 / 8 = 0 then ip6Walk f k (frameNat f o 1) (o + 8) (some o) else (44, o, some o)
    else (nh, o, fr)

/-- The UDP content of a frame. (PRESUMED, log entry 64.) -/
def frameIp (f : List Byte) : FrameIp :=
  let o := frameBody f
  if frameType f = 0x0800 ∧ frameNat f (o + 9) 1 = 17 then
    let name := slice (o + 4) 2 f ++ slice (o + 9) 1 f ++ slice (o + 12) 8 f
    if frameNat f (o + 6) 2 % 8192 = 0 then .udp (frameNat f (o + 4 * (frameNat f o 1 % 16) + 2) 2) name
    else .later name
  else if frameType f = 0x86DD then
    let w := ip6Walk f 16 (frameNat f (o + 6) 1) (o + 40) none
    let name := slice (o + 8) 32 f ++ (match w.2.2 with
      | some p => slice (p + 4) 4 f
      | none => [])
    if w.1 = 17 then .udp (frameNat f (w.2.1 + 2) 2) name else if w.1 = 44 then .later name else .other
  else .other

/-- A PTP frame, which the switch never forwards: of the EtherType, a UDP datagram to port 319 or 320, or a
later fragment of one (R116). -/
def State.framePtp (s : State) (f : List Byte) : Bool :=
  decide (frameType f = 0x88F7) || (match frameIp f with
    | .udp p _ => decide (p = 319) || decide (p = 320)
    | .later n => s.net.ptpFrags.contains n
    | .other => false)

/-- Remember a datagram to a PTP port for its later fragments. (DESIGN CHOICE, log entry 62.) -/
def State.noteFrag (s : State) (f : List Byte) : State :=
  match frameIp f with
  | .udp p n => if p = 319 ∨ p = 320 then
      { s with net := { s.net with ptpFrags := (n :: s.net.ptpFrags).take 64 } } else s
  | _ => s

/-- The link of an Ethernet port (0 E0, 1 E1). -/
def State.link (s : State) (e : Nat) : Bool := s.on (NET_PORT_STATUS_LINK e)

/-- A source address is learned (R115). (DESIGN CHOICE, log entry 62.) -/
def State.macLearn (s : State) (mac port : Nat) : State :=
  if mac / 2 ^ 40 % 2 = 1 then s
  else if s.net.macs.any (fun p => p.1 = mac) || decide (s.net.macs.length < 1024) then
    { s with net := { s.net with macs := (mac, port) :: s.net.macs.filter (fun p => decide (p.1 ≠ mac)) } }
  else s

/-- Broadcast and multicast frames and drops of port `e` in this second (R117). -/
def State.stormOf (s : State) (e : Nat) : Nat × Nat := tget (fun _ => (0, 0)) s.net.storm e
def State.setStorm (s : State) (e : Nat) (x : Nat × Nat) : State :=
  { s with net := { s.net with storm := tset (fun _ => (0, 0)) s.net.storm e x } }

/-- A broadcast or multicast frame reaches port 0 from Ethernet port `e` (R117). -/
def State.stormCount (s : State) (e : Nat) : State :=
  let x := s.stormOf e
  if x.1 < 2000 then s.setStorm e (x.1 + 1, x.2)
  else (s.setStorm e (x.1, x.2 + 1)).incSat (NET_PORT_STATUS_RX_DROPS e)

/-- nEn_LED of a port: low while the link is up (R118). -/
def State.ledPin (s : State) (e : Nat) (high : Bool) : State :=
  s.send (.pin (if e = 0 then "nE0_LED" else "nE1_LED") high)

/-- Traffic on a port: its LED goes high for 50 ms on each burst (R118). -/
def State.ledBurst (s : State) (e : Nat) : State :=
  if !s.link e || s.net.leds.any (fun p => p.1 = e) then s
  else State.ledPin { s with net := { s.net with leds := (e, s.tim.mono + 50000) :: s.net.leds } } e true

/-- The 50 ms of a burst have passed (R118). -/
def State.ledTick (s : State) : State :=
  let q := s.net.leds.partition (fun p => decide (p.2 ≤ s.tim.mono))
  State.each { s with net := { s.net with leds := q.2 } } q.1 (fun t p => if t.link p.1 then t.ledPin p.1 false else t)

/-- A frame that the switch sends out on Ethernet port `e`. (DESIGN CHOICE, log entry 62.) -/
def State.frameOut (s : State) (e : Nat) (f : List Byte) : State :=
  if s.link e then (s.send (.eth e f)).ledBurst e else s

/-- The switch takes a frame received on switch port 0 (the module), 1 (E0) or 2 (E1) (R115 to R118).
Tagged frames to many do not count as reaching port 0. (DESIGN CHOICE, log entry 62.) -/
def State.frameIn (s : State) (port : Nat) (f : List Byte) : State :=
  if !s.mpUp || decide (f.length < 14) || decide (1522 < f.length) ||
      (decide (port ≠ 0) && !s.link (port - 1)) then s
  else
    let dst := frameNat f 0 6
    let many := decide (dst / 2 ^ 40 % 2 = 1)
    let t := s.macLearn (frameNat f 6 6) port
    let goal := (s.net.macs.find? (fun p => p.1 = dst)).map (fun p => p.2)
    if port = 0 then
      (match goal with
      | some g => if many || g = 0 then (t.frameOut 0 f).frameOut 1 f else t.frameOut (g - 1) f
      | none => (t.frameOut 0 f).frameOut 1 f)
    else
      let e := port - 1
      let u := ((if many && !frameTagged f then t.stormCount e else t).noteFrag f).ledBurst e
      if s.framePtp f || decide (dst = s.nv.mac) || decide (goal = some port) || decide (goal = some 0) then u
      else u.frameOut (1 - e) f

/-- The second ends (R117). -/
def State.stormSecond (s : State) (e : Nat) : State :=
  let x := s.stormOf e
  let t := s.setStorm e (0, 0)
  if x.2 = 0 then t else t.nev 0x800C e x.2

/-- An address is aged out (R115). -/
def State.macAge (s : State) (mac : Nat) : State :=
  { s with net := { s.net with macs := s.net.macs.filter (fun p => decide (p.1 ≠ mac)) } }

/-! ### Addresses (R119, R120) -/

/-- The modified EUI-64 link-local address of a MAC address (R119, RFC 4291). (PRESUMED, log entry 64.) -/
def eui64 (mac : Nat) : Nat :=
  let hi := mac / 2 ^ 24
  let flip := if hi / 2 ^ 17 % 2 = 1 then hi - 2 ^ 17 else hi + 2 ^ 17
  0xFE80 * 2 ^ 112 + flip * 2 ^ 40 + 0xFFFE * 2 ^ 24 + mac % 2 ^ 24

/-- The IPv6 addresses in use are shown. -/
def State.ip6Show (s : State) (statics : List Nat) : State :=
  let word (a i : Nat) : Word := BitVec.ofNat 32 (a / 2 ^ (96 - 32 * i))
  let t := (List.range 4).foldl (fun (t : State) i => t.setReg (NET_IP6_LL i) (word (eui64 s.nv.mac) i)) s
  let u := (List.range 8).foldl (fun (t : State) i =>
    t.setReg (NET_IP6_STATIC i) (word (statics.getD (i / 4) 0) (i % 4))) t
  u.putB NET_STATUS_IP6_LL_OK true

/-- The Modbus connections that are open. -/
def State.setConns (s : State) (l : List Nat) : State :=
  State.put { s with net := { s.net with conns := l, conns4 := s.net.conns4.filter (fun c => l.contains c) } }
    NET_STATUS_MB_CONNS l.length

/-- The IPv4 address is withdrawn: the Modbus connections and the client's polls over IPv4 end (R120). -/
def State.ip4Off (s : State) : State :=
  let t := (((s.setReg NET_IP4_ADDR 0).setReg NET_IP4_MASK 0).setReg NET_IP4_GW 0).putB NET_STATUS_IP4_OK false
  let gone := t.net.conns4
  let u := t.setConns (t.net.conns.filter (fun c => !gone.contains c))
  { u with net := { u.net with
      mbQueue := u.net.mbQueue.filter (fun r => !gone.contains r.1)
      clients := u.net.clients.map (fun p => (p.1, p.2.halt)) } }

/-- A service reaches a client at IPv4 address `src`, 0 for one over IPv6 (R120). -/
def State.reaches (s : State) (src : Nat) : Bool :=
  if src = 0 then s.on NET_STATUS_IP6_LL_OK else s.on NET_STATUS_IP4_OK

/-- An address goes into use; `lease` in seconds for one of DHCP (R120). -/
def State.ip4On (s : State) (a m g : Word) (dhcp : Bool) (lease : Nat) : State :=
  let t := (((s.setReg NET_IP4_ADDR a).setReg NET_IP4_MASK m).setReg NET_IP4_GW g).putB NET_STATUS_IP4_OK true
  let u : State := { t with net := { t.net with leaseEnd := if dhcp then t.tim.mono + lease * 1000000 else 0 } }
  (u.put NET_DHCP_STATUS_STATE (if dhcp then 2 else 0)).nev 0x8003 a.toNat (if dhcp then 1 else 0)
    (if dhcp then lease else 0)

/-- Conflict detection begins on an address (R120, RFC 5227). -/
def State.probeStart4 (s : State) (a : Word) : State :=
  { (s.send (.probe a)) with net := { s.net with probing := true } }

/-- The address whose probe runs when it is no DHCP offer. -/
def State.ownAddr (s : State) : Word := s.net.stat.getD 0 0

/-- The address comes from DHCP. -/
def State.byDhcp (s : State) : Bool := s.net.dhcp && !s.net.ll

/-- The DHCP client looks for a lease. -/
def State.dhcpSeek (s : State) : State := (s.put NET_DHCP_STATUS_STATE 1).send (.dhcp false)

/-- Addressing starts: with the network section of a caddy and its static IPv6 addresses, or with DHCP
in bare mode (R94, R120). -/
def State.netStart (s : State) (ip6 : List Nat) : State :=
  let t : State := { s.ip6Show ip6 with net := { s.net with cand := none } }
  if s.byDhcp then t.dhcpSeek else t.probeStart4 s.ownAddr

/-- Conflict detection ends; the operands are the offered address of DHCP, its mask, gateway and lease
(R120).  An address of DHCP in conflict is kept for the retry. (DESIGN CHOICE, log entry 63.) -/
def State.probeEnd4 (s : State) (a m g : Word) (lease : Nat) (conflict : Bool) : State :=
  if !s.serves || !(s.net.probing || (s.byDhcp && decide (s.get NET_DHCP_STATUS_STATE = 1))) then s
  else
    let used := s.on NET_STATUS_IP4_OK
    -- address, mask, gateway and end of the lease of the address that was probed
    let x : Word × Word × Word × Nat :=
      if used then (s.reg NET_IP4_ADDR, s.reg NET_IP4_MASK, s.reg NET_IP4_GW, s.net.leaseEnd)
      else if s.byDhcp then s.net.cand.getD (a, m, g, s.tim.mono + lease * 1000000)
      else (s.ownAddr, s.net.stat.getD 1 0, s.net.stat.getD 2 0, 0)
    let t : State := { s with net := { s.net with probing := false, cand := none } }
    if conflict then
      let u := (t.ip4Off).put NET_DHCP_STATUS_STATE 3
      State.nev { u with net := { u.net with cand := if s.byDhcp then some x else none } } 0x8004 x.1.toNat
    else if used then t
    else t.ip4On x.1 x.2.1 x.2.2.1 s.byDhcp ((x.2.2.2 - t.tim.mono) / 1000000)

/-- 60 s after a conflict the address is tried again; a lease that has ended is sought anew (R120). -/
def State.conflictRetry (s : State) : State :=
  if s.serves && decide (s.get NET_DHCP_STATUS_STATE = 3) then
    match s.net.cand with
    | some x => if x.2.2.2 ≤ s.tim.mono then State.dhcpSeek { s with net := { s.net with cand := none } } else s.probeStart4 x.1
    | none => if s.byDhcp then s.dhcpSeek else s.probeStart4 s.ownAddr
  else s

/-- At half the lease (R120); `lease` is the new one. -/
def State.dhcpRenew (s : State) (lease : Nat) : State :=
  if s.serves && decide (s.get NET_DHCP_STATUS_STATE = 2) then
    { (s.send (.dhcp true)) with net := { s.net with leaseEnd := s.tim.mono + lease * 1000000 } }
  else s

/-- The lease is lost (R120). -/
def State.leaseLost (s : State) : State :=
  if s.serves && decide (s.get NET_DHCP_STATUS_STATE = 2) then (s.ip4Off).dhcpSeek else s

/-- In bare mode, 10 s without a lease (R94, RFC 3927): `low` is the address's low half. -/
def State.linkLocal (s : State) (low : BitVec 16) : State :=
  if s.isBare && s.byDhcp && decide (s.get NET_DHCP_STATUS_STATE = 1) then
    let a : Word := 0xA9FE0000 ||| low.setWidth 32
    State.probeStart4 { s with net := { s.net with ll := true, stat := [a, 0xFFFF0000, 0] } } a
  else s

/-- Speed (0 10, 1 100, 2 1000 Mbit/s) and duplex that a port's settings allow: forced, or as
auto-negotiation gives them (R118). -/
def State.linkFits (s : State) (e speed : Nat) (full : Bool) : Bool :=
  !s.on (NET_PORT_CFG_UNUSED e) &&
    (match s.get (NET_PORT_CFG_MODE e) with
    | 1 => decide (speed = 1) && full
    | 2 => decide (speed = 0) && full
    | _ => decide (speed < 2) || (full && !s.on (NET_PORT_CFG_NO_1000 e)))

/-- After a link-up conflict detection runs on the address in use or to be used (R120). -/
def State.linkProbe (s : State) : State :=
  if s.on NET_STATUS_IP4_OK then s.probeStart4 (s.reg NET_IP4_ADDR)
  else if !s.serves then s
  else match s.net.cand with
    | some x => s.probeStart4 x.1
    | none => if s.byDhcp then s else s.probeStart4 s.ownAddr

/-- A port's link goes up or down, once its PHY runs (R50, R118, R120). (DESIGN CHOICE, log entry 63.) -/
def State.linkChange (s : State) (e : Nat) (up : Bool) (speed : Nat) (full : Bool) : State :=
  if !s.configured || (up && !s.linkFits e speed full) || decide (s.link e = up) then s
  else
    let a := s.putB (NET_PORT_STATUS_LINK e) up
    let b := (a.put (NET_PORT_STATUS_SPEED e) (if up then speed else 0)).putB (NET_PORT_STATUS_FULL_DUPLEX e)
      (up && full)
    let c := (b.putB (if e = 0 then NET_STATUS_E0_LINK else NET_STATUS_E1_LINK) up).putB
      NET_HSPI_IRQ_STATUS_LINK true
    let d := State.ledPin { c with net := { c.net with leds := c.net.leds.filter (fun p => p.1 ≠ e) } } e (!up)
    if up then (d.nev 0x8001 e speed).linkProbe else d.nev 0x8002 e

/-! ### Answers below the services (R121) -/

/-- The module holds an address. -/
def State.holdsAddr (s : State) (ip6 : Bool) (target : Nat) : Bool :=
  if ip6 then
    let val (f : Nat → Nat) : Nat := (List.range 4).foldl (fun a i => a * 2 ^ 32 + (s.reg (f i)).toNat) 0
    decide (target ≠ 0) && ((s.on NET_STATUS_IP6_LL_OK && decide (target = val NET_IP6_LL)) ||
      decide (target = val NET_IP6_STATIC) || decide (target = val (fun i => NET_IP6_STATIC (i + 4))))
  else s.on NET_STATUS_IP4_OK && decide (target = (s.reg NET_IP4_ADDR).toNat)

/-- An ARP request or neighbour solicitation. (DESIGN CHOICE, log entry 65.) -/
def State.neighbour (s : State) (e : Nat) (ip6 : Bool) (target : Nat) : State :=
  if s.serves && s.holdsAddr ip6 target then s.send (.neighbour e target s.nv.mac) else s

/-- An ICMP or ICMPv6 echo request: at most 100 replies a second. (DESIGN CHOICE, log entry 65.) -/
def State.echo (s : State) (e : Nat) : State :=
  let now := s.tim.mono / 1000000
  let n := if s.net.echoSec = now then s.net.echoes else 0
  if !s.serves || decide (100 ≤ n) then s
  else { (s.send (.echo e)) with net := { s.net with echoes := n + 1, echoSec := now } }

/-- A TCP segment or UDP datagram to a port that serves nothing. (DESIGN CHOICE, log entry 65.) -/
def State.unserved (s : State) (e : Nat) (tcp : Bool) (port : Nat) : State :=
  if s.serves && tcp && !(decide (port = 502) && s.on NET_MB_CFG_SERVER_EN && s.isLoaded) then
    s.send (.rst e port)
  else s

end Sys2Proof.Machine
end

