-- ==== Sys2Proof/Machine/RelOps.lean ====
section
/-! DEFINITION. Availability (R448 to R466): self-tests, fences and spares, lockstep recovery, memory
protection and the boot self-test. -/

namespace Sys2Proof.Machine

open Reg

/-- An event record of the reliability port. -/
def State.rev (s : State) (code : Nat) (p0 : Nat := 0) (p1 : Nat := 0) (p2 : Nat := 0) : State :=
  s.ev portRel code p0 p1 p2

/-! ### Elements (R34, R450) -/

/-- Unit code and index of an element. -/
def unitOf : Element → Nat × Nat
  | .sram m => (0, m)
  | .field i => (1, i.val)
  | .aoMon n => (2, n.val)
  | .lane l => (3, l.val)
  | .valve v => (4, v.val)
  | .fan f => (5, f.val)
  | .sprin p => (6, p.val)
  | .quad q => (7, q.val)
  | .link d => (8, d.val)
  | .dramRow a => (9, a)
  | .core c => (10, c.val)
  | .aon => (11, 0)

/-- Level of the element that is tested, and of the one that is fenced. -/
def testLevel : Element → Nat
  | .sram _ | .field _ | .aoMon _ | .dramRow _ => 1
  | .lane _ | .valve _ | .fan _ | .sprin _ | .quad _ | .core _ => 2
  | .link _ => 5
  | .aon => 4

def fenceLevel : Element → Nat
  | .lane _ | .quad _ => 3
  | e => testLevel e

/-- An element that REL_TEST_CMD may name (REL_TEST_CMD). -/
def hostElement (unit idx : Nat) : Option Element :=
  if unit = 1 ∧ idx < 32 then some (.field (Fin.ofNat 32 idx))
  else if unit = 2 ∧ idx < 8 then some (.aoMon (Fin.ofNat 8 idx))
  else if unit = 4 ∧ idx < 96 then some (.valve (Fin.ofNat 96 idx))
  else if unit = 5 ∧ idx < 16 then some (.fan (Fin.ofNat 16 idx))
  else if unit = 6 ∧ idx < 24 then some (.sprin (Fin.ofNat 24 idx))
  else if unit = 7 ∧ idx < 17 then some (.quad (Fin.ofNat 17 idx))
  else none

/-- The same element: DRAM addresses of one row name one element (R34, R450). -/
def sameElement : Element → Element → Bool
  | .dramRow a, .dramRow b => decide (Config.dramRow a = Config.dramRow b)
  | e, f => decide (e = f)

/-- Under test, waiting for its test, or fenced (R453). -/
def State.relBusy (s : State) (e : Element) : Bool :=
  decide (e ∈ s.rel.fenced) || s.rel.tests.any (fun t => sameElement t.elem e)

/-! ### Fences (R451, R464) -/

/-- Remove an element's tests. -/
def State.relUntest (s : State) (e : Element) : State :=
  { s with rel := { s.rel with tests := s.rel.tests.filter (fun t => !sameElement t.elem e) } }

/-- Enter the fence list, or count an entry that finds it full (R464). -/
def State.fenceList (s : State) (e : Element) (cause : Nat) (spared : Bool) : State :=
  let u := unitOf e
  let t := ({ s with rel := { s.rel with fenced := e :: s.rel.fenced } }).putB REL_STATUS_FENCED_SEEN true
  let n := t.get REL_FENCE_SUMMARY_COUNT
  if n < 32 then
    (t.setReg (REL_FENCE n) (BitVec.ofNat 32 (2 ^ 31 + fenceLevel e * 2 ^ 28 + u.1 * 2 ^ 24 +
      u.2 % 4096 * 2 ^ 12 + (if spared then 2 ^ 11 else 0) + cause % 256))).put REL_FENCE_SUMMARY_COUNT (n + 1)
  else (t.incSat REL_FENCE_SUMMARY_OVERFLOW).rev 0xD00C u.1 u.2

/-! ### The lanes of the control plane (R22, R458, R466) -/

/-- SAFE rises: valves off by slow decay and analog outputs to their safe values; fans go to 100 % at
their next period, or off at once in a sluice (R22, R33, R369, R376). -/
def State.safeAssert (s : State) : State :=
  let t : State := { s with pwr := { s.pwr with safe := true } }
  let u := (((t.putB SYS_STATUS_SAFE true).send (.pin "SAFE" true)).cutBanks allBanks 0x17).aoSafe
  if u.fansHeld then u.fansCut else u

/-- Both lanes are lost (R458): 0 in recovery, 1 in the boot test. -/
def State.lanesLost (s : State) (tile boot : Nat) : State :=
  ((s.putB REL_STATUS_BOTH_LOST true).rev 0xD003 tile boot).safeAssert

/-- A recovery is abandoned (R466): PFAIL, HALT or a reset takes over. -/
def State.recoveryAbandon (s : State) : State :=
  let t := (s.putB REL_STATUS_HOLD false).put REL_STATUS_RECOVERY 0
  { t with rel := { t.rel with tiles := [], failedSlots := 0 } }

/-- Both lanes are fenced. -/
def State.noLane (s : State) : Bool :=
  decide (Element.lane 0 ∈ s.rel.fenced) && decide (Element.lane 1 ∈ s.rel.fenced)

/-- A lane is fenced; with the other one fenced before, both lanes are lost (R458).
(DESIGN CHOICE, log entry 132.) -/
def State.laneFence (s : State) (l tile cause : Nat) : State :=
  let e := Element.lane (Fin.ofNat 2 l)
  if e ∈ s.rel.fenced then s
  else
    let a := (s.inc REL_LOCKSTEP_STATS_LASTING).inc (REL_LEVEL_COUNT_LASTING 3)
    let b := (a.putB (if l = 0 then REL_LANE_STATUS_A_FENCED else REL_LANE_STATUS_B_FENCED) true).putB
      (if l = 0 then SYS_STATUS_LANE_A_FENCED else SYS_STATUS_LANE_B_FENCED) true
    let c := ((b.putB REL_STATUS_SINGLE_LANE true).fenceList e cause false).rev 0xD002 l tile cause
    if c.noLane then c.recoveryAbandon.lanesLost tile 0 else c

/-- The logical quad that a physical quad serves: its own number, and for the spare the one it took
over. -/
def State.logicalOf (s : State) (q : Nat) : Option Nat :=
  if q < 16 then some q
  else (s.rel.quadMap.find? (fun p => p.2 = 16)).map (fun p => p.1)

/-- The spare quad takes over a fenced quad's number. (DEDUCED, log entry 133.) -/
def State.quadSpare (s : State) (q : Nat) : State :=
  let t : State := { s with rel := { s.rel with quadMap := (q, 16) :: s.rel.quadMap } }
  (((t.put MILL_QUAD_STATUS_SPARE_FOR q).putB REL_STATUS_SPARE_QUAD_USED true)).ev portMill 0x6010 q q

/-- A quad is fenced with no spare: one logical quad fewer. -/
def State.quadLost (s : State) (q : Nat) : State :=
  let kups := s.get MILL_CAPACITY_KUPS - 2500
  let t := s.put MILL_CAPACITY_KUPS kups
  let u := if t.on SYS_STATUS_DP_RUN then t.millShow else t
  (u.ev portMill 0x6011 q kups).rev 0xD00A 2 q

/-- The spare can take over a quad. -/
def State.spareFree (s : State) (q : Nat) : Bool :=
  decide (q < 16) && decide (Element.quad 16 ∉ s.rel.fenced) && s.rel.quadMap.isEmpty

/-- A tile that ran on logical quad `n` runs again, and counts; with no quad of that number left, its work and any
other goes to a free quad (R238). -/
def State.quadRerun (s : State) (n : Nat) (kept : Bool) : State :=
  let on_ := s.mill.quads.filter (fun (p : Nat × Work) => p.1 = n)
  let tiles := on_.filter (fun (p : Nat × Work) => match p.2 with | .tile _ _ => true | _ => false)
  let t := s.put MILL_TILE_STATS_TILE_RERUNS (s.get MILL_TILE_STATS_TILE_RERUNS + tiles.length)
  if kept then t
  else { t with mill := { t.mill with quads := t.mill.quads.filter (fun (p : Nat × Work) => p.1 ≠ n) } }

/-- A quad is fenced (R238). -/
def State.quadFence (s0 : State) (q : Nat) : State :=
  let s := match s0.logicalOf q with
    | some n => s0.quadRerun n (s0.spareFree q)
    | none => s0
  let t := s.setReg MILL_QUAD_STATUS (s.reg MILL_QUAD_STATUS ||| BitVec.ofNat 32 (2 ^ q))
  if s.spareFree q then t.quadSpare q
  else if q < 16 then t.quadLost q
  else match s.logicalOf 16 with
    | some _ =>
      let u : State := { t with rel := { t.rel with quadMap := [] } }
      ((u.put MILL_QUAD_STATUS_SPARE_FOR 0x1F).putB REL_STATUS_SPARE_QUAD_USED false).quadLost 16
    | none => t

/-- The panel and the strip stop when the door die's link is fenced (R450): a commit in progress ends
FAILED 0x01. -/
def State.doorStop (s : State) : State :=
  let t := if s.on DISP_COMMIT_BUSY then s.commitEnd 1 1 else s
  t.stripInterrupt

/-- What a fence does in its unit (R450). -/
def State.fenceEffect (s : State) : Element → State
  | .field i => s.fieldTested i.val true
  | .aoMon n => s.aoFence n.val
  | .valve v => s.valveFence v.val
  | .fan f => s.fanFence f.val
  | .sprin p => s.portFence p.val
  | .quad q => s.quadFence q.val
  | .link d =>
    if d.val = 2 then s.doorStop
    else (s.each (dieBanks d.val) State.bankDisable).each ((List.range 8).map (fun i => 8 * d.val + i)) State.fanFence
  | _ => s

/-- An element is fenced with a cause; a lane, whose SRAM macro has no row left, as in a recovery, its tile
open (R450). (DESIGN CHOICE, log entry 132.) -/
def State.fence (s : State) (e : Element) (cause : Nat) : State :=
  if e ∈ s.rel.fenced then s
  else match e with
    | .lane l => (s.laneFence l.val (s.free 3).toNat cause).took
    | _ =>
      let spared := match e with
        | .quad q => s.spareFree q.val
        | _ => false
      let u := unitOf e
      ((s.fenceList e cause spared).rev 0xD005 u.1 u.2 (cause * 256 + fenceLevel e)).fenceEffect e

/-! ### Rows of memories (R450, R459, R460, R462) -/

/-- A row of an SRAM macro is repaired; with no row left the element that holds the macro is fenced.
(DEDUCED, log entry 133.) -/
def State.sramRepair (s : State) (m : Nat) (home : Element) (cause : Nat) : State :=
  let used := tget (fun _ => 0) s.rel.sramRows m
  if used < 4 then
    let t : State := { s with rel := { s.rel with sramRows := tset (fun _ => 0) s.rel.sramRows m (used + 1) } }
    let u := (t.put REL_SRAM_REPAIR_ROWS_USED (t.get REL_SRAM_REPAIR_ROWS_USED + 1)).rev 0xD009 m (3 - used)
    if used = 3 then u.put REL_SRAM_REPAIR_EXHAUSTED (u.get REL_SRAM_REPAIR_EXHAUSTED + 1) else u
  else (s.rev 0xD00A 1 m).fence home cause

/-- The spare map is shown. (DEDUCED, log entry 133.) -/
def State.spareShow (s : State) : State :=
  let n := s.spare.rows.length
  (s.put REL_DRAM_SPARE_SPARES_USED n).put REL_DRAM_SPARE_SPARES_FREE (64 - n)

/-- A DRAM row is remapped, or stays in use when no spare is left (R460). (DEDUCED, log entry 133.) -/
def State.rowSpare (s : State) (addr : Nat) : State :=
  if s.spare.rows.length < 64 then
    let t := State.spareShow { s with spare := { s.spare with rows := s.spare.rows ++ [addr] } }
    t.rev 0xD008 addr (64 - t.spare.rows.length)
  else
    let t := (s.putB REL_STATUS_DRAM_DEGRADED true).rev 0xD00A 0 (Config.dramRow addr)
    { t with rel := { t.rel with unspared := Config.dramRow addr :: t.rel.unspared } }

/-- At a reset of the planes: rows are repaired in the die stack while their bank holds a repair
resource, which `fits` says (R460). -/
def State.hardRepair (s : State) (fits : Nat → Bool) : State :=
  let done := s.spare.rows.filter fits
  let t := State.spareShow { s with spare := { s.spare with rows := s.spare.rows.filter (fun a => !fits a) } }
  t.each done (fun u a => (u.incSat REL_DRAM_SPARE_HARD_REPAIRS).rev 0xD00E a (Config.dramBank (Config.dramRow a)))

/-! ### Outcomes (R451, R452) -/

/-- A LASTING outcome with its cause; `home` holds an SRAM macro. -/
def State.lasting (s : State) (e home : Element) (cause : Nat) : State :=
  let t := (s.inc REL_TEST_STATS_LASTING).inc (REL_LEVEL_COUNT_LASTING (testLevel e))
  match e with
  | .sram m => t.sramRepair m home cause
  | .dramRow a => t.rowSpare a
  | _ => t.fence e cause

/-- What a passed test gives back to its unit. -/
def State.passEffect (s : State) : Element → State
  | .field i => s.fieldTested i.val false
  | .sprin p => s.portPassed p.val
  | .valve v => (s.setChan v.val { s.chan v.val with probeNext := true }).serve (v.val / 8)
  | _ => s

/-- A TRANSIENT outcome is kept with its operating time (R452). -/
def State.noteTransient (s : State) (e : Element) (at_ : Nat) : State :=
  { s with rel := { s.rel with history := (e, at_) :: s.rel.history } }

/-- A TRANSIENT outcome. (DEDUCED, log entry 134.) -/
def State.transient (s : State) (e : Element) : State :=
  let u := unitOf e
  let t := (s.inc (REL_LEVEL_COUNT_TRANSIENT (testLevel e))).rev 0xD004 u.1 u.2 (testLevel e)
  (t.noteTransient e s.optime).passEffect e

/-- TRANSIENT outcomes of an element within REPEAT_H hours. -/
def State.recentTransients (s : State) (e : Element) : Nat :=
  (s.rel.history.filter (fun p => sameElement p.1 e &&
    decide (s.optime ≤ p.2 + s.get REL_CFG_REPEAT_H * 3600 * 1024))).length

/-! ### Tests (R450, R453) -/

/-- A test begins. -/
def State.testBegin (s : State) (e : Element) : State :=
  let t : State := { s with rel := { s.rel with
    tests := s.rel.tests.map (fun x => if x.elem = e then { x with running := true } else x) } }
  match e with
  | .field i => t.putB (FIELD_STATUS_TESTING i.val) true
  | .sprin p => t.portTest p.val
  | _ => t

/-- The first waiting test of each unit that runs none begins; valve channels wait for IDLE (R367,
R453). -/
def State.testsStart (s : State) : State :=
  let t := s.stageStart
  t.each (t.rel.tests.map (fun x => x.elem)) (fun u e =>
    let waits := u.rel.tests.any (fun x => x.elem = e && !x.running)
    let busy := u.rel.tests.any (fun x => x.running && decide ((unitOf x.elem).1 = (unitOf e).1))
    if waits && !busy && decide ((unitOf e).1 ≠ 4) then u.testBegin e else u)

/-- A test is wanted (R450, R452). -/
def State.testWant (s : State) (e home : Element) (host : Bool) : State :=
  if s.relBusy e then s
  else if !host && decide (s.get REL_CFG_REPEAT_N ≤ s.recentTransients e) then
    let u := unitOf e
    (s.rev 0xD00D u.1 u.2 (s.recentTransients e)).lasting e home 2
  else
    State.testsStart { s with rel := { s.rel with tests := s.rel.tests ++ [{ elem := e, host := host }] } }

/-- The self-test of an element ends: TRANSIENT, or `fails` and LASTING (R451, R453). (DEDUCED, log entry 134.) -/
def State.testEnd (s : State) (e home : Element) (fails : Bool) : State :=
  match s.rel.tests.find? (fun t => sameElement t.elem e && t.running) with
  | none => s
  | some x =>
    let u := unitOf e
    let shows := x.host && decide (s.get REL_TEST_RESULT_UNIT = u.1) && decide (s.get REL_TEST_RESULT_INDEX = u.2)
    let a := (s.relUntest e).inc REL_TEST_STATS_TESTS
    let b := if shows then (a.put REL_TEST_RESULT_STATE 2).put REL_TEST_RESULT_OUTCOME (if fails then 2 else 1) else a
    let c := if fails then b.lasting e home (if x.host then 4 else 1) else b.transient e
    c.testsStart

/-- REL_TEST_CMD names an element that may be tested (R453). -/
def State.relCmdOk (s : State) (w : Word) : Bool :=
  match hostElement (bits w 15 12) (bits w 11 0) with
  | none => false
  | some e => !s.relBusy e

/-- REL_TEST_CMD. -/
def State.relCmd (s : State) (w : Word) : State :=
  match hostElement (bits w 15 12) (bits w 11 0) with
  | none => s
  | some e =>
    let t := s.setReg REL_TEST_RESULT (BitVec.ofNat 32 (2 ^ 30 + bits w 15 12 * 2 ^ 20 + bits w 11 0 * 2 ^ 8))
    t.testWant e e true

/-! ### DRAM errors (R459 to R461) -/

/-- The region of a DRAM byte address, in the order of R235. -/
def dramRegion (a : Nat) : Nat :=
  ([0x1E000000, 0x2E000000, 0x32000000, 0x41000000, 0x51000000, 0x55000000, 0x59000000, 0x5B000000,
    0x63000000].filter (fun (b : Nat) => decide (b ≤ a))).length

/-- The body whose allocation holds a cell place, and the cell's index in it. -/
def State.bodyAt (s : State) (place : Nat) : Option (Nat × Nat) :=
  ((List.range 16).find? (fun k => s.bst k ≠ bAbsent && decide ((s.body k).base ≤ place) &&
    decide (place < (s.body k).base + (s.body k).alloc))).map (fun k => (k, place - (s.body k).base))

/-- The body whose ring holds a byte of the ring region: rings of RING_QUOTA * 4 MiB in ascending k. -/
def State.ringAt (s : State) (o : Nat) : Option Nat :=
  (List.range 16).find? (fun k =>
    let start := ((List.range k).map (fun j => s.get (MILL_RUN_CFG_RING_QUOTA j) * 2 ^ 22)).sum
    decide (start ≤ o) && decide (o < start + s.get (MILL_RUN_CFG_RING_QUOTA k) * 2 ^ 22))

/-- Two cells whose remainder words share a DRAM word read 0. -/
def State.remainderZero (s : State) (place : Nat) : State :=
  s.each [place / 2 * 2, place / 2 * 2 + 1] (fun t p => match t.bodyAt p with
    | none => t
    | some q =>
      let b := t.body q.1
      let c := { b.cell q.2 with rmg := 0, rtg := 0, rdml := 0 }
      t.setBody q.1 { b with cells := tset (fun _ => ({} : Cell)) b.cells q.2 c })

/-- Property words of an 8-byte DRAM word read 0x8080. -/
def State.propsLost (s : State) (o : Nat) : State :=
  s.each ((List.range 4).map (fun i => o / 8 * 4 + i)) (fun t p => match t.bodyAt p with
    | none => t
    | some q =>
      let b := t.body q.1
      t.setBody q.1 { b with cells := tset (fun _ => ({} : Cell)) b.cells q.2 { b.cell q.2 with prop := 0x8080 } })

/-- The cell whose record the word holds is bad. -/
def State.cellLost (s : State) (addr : Nat) : State :=
  match s.bodyAt (addr / 16) with
  | some q =>
    let b := s.body q.1
    s.setBody q.1 { b with badCells := b.badCells ++ [q.2] }
  | none => s

/-- Deltas of the ring that `x` names are lost, how many is free; LEAD_EFF and firm time follow (R281, R461).
(DEDUCED, log entry 99.) -/
def State.ringCut (s : State) (x : Option Nat) : State :=
  match x with
  | some k =>
    let b := s.body k
    (s.setBody k { b with ring := b.ring.take ((s.free 32).toNat % (b.ring.length + 1)) }).took.firmAdvance k
  | none => s

/-- Deltas of the ring that holds byte `o` of the ring region are lost. -/
def State.ringLost (s : State) (o : Nat) : State := s.ringCut (s.ringAt o)

/-- The body whose airflow field holds the word solves again. (DEDUCED, log entry 103.) -/
def State.fieldLost (s : State) (place : Nat) : State :=
  match s.bodyAt place with
  | some q => s.solveWant q.1 0
  | none => s

/-- A forecast grid is dropped. -/
def State.forecastLost (s : State) (k : Nat) : State :=
  if s.mill.forecasts.any (fun p => p.1 = k) then
    State.put { s with mill := { s.mill with
      forecasts := terase s.mill.forecasts k
      quads := s.mill.quads.filter (fun (p : Nat × Work) => p.2 ≠ .forecast k) } } MILL_PROBE_STATUS_FCST_DEFERRED
      (s.get MILL_PROBE_STATUS_FCST_DEFERRED + 1)
  else s

/-- The waiting and the late readings of an anchor are discarded (R461). -/
def State.anchorLost (s : State) (a : Nat) : State :=
  let gone := (s.mill.bodies.map (fun p =>
    ((p.2.readings ++ p.2.late).filter (fun (x : Reading) => decide (x.anchor = a))).length)).sum
  let t : State := { s with mill := { s.mill with bodies := s.mill.bodies.map (fun (p : Nat × Body) =>
    (p.1, { p.2 with
      readings := p.2.readings.filter (fun (x : Reading) => decide (x.anchor ≠ a))
      late := p.2.late.filter (fun (x : Reading) => decide (x.anchor ≠ a)) })) } }
  t.put MILL_ASSIM_STATS_DISCARDED (s.get MILL_ASSIM_STATS_DISCARDED + gone)

/-- The snapshot being written is abandoned. -/
def State.snapLost (s : State) : State :=
  { s with mill := { s.mill with
      snapBusy := false, snapWait := [], snapGot := []
      quads := s.mill.quads.filter (fun (p : Nat × Work) => p.2 ≠ .snapshot) } }

/-- Eight bytes of the cup's memory read 0. -/
def State.cupLost (s : State) (o : Nat) : State :=
  { s with cup := { s.cup with
      mem := (List.range 8).foldl (fun m i => tset (fun _ => (0 : Byte)) m (o + i) 0) s.cup.mem } }

/-- What an uncorrectable DRAM error does in its region; `scrub` says that the scrubber found it
(R461).  Which deltas lie before the word is free. (DEDUCED, log entry 103.) -/
def State.dramLost (s : State) (addr : Nat) (scrub : Bool) : State :=
  let r := dramRegion addr
  if r = 0 then (if scrub then s.cellLost addr else s)
  else if r = 1 then s.ringLost (addr - 0x1E000000)
  else if r = 2 then s.propsLost (addr - 0x2E000000)
  else if r = 3 then s.fieldLost ((addr - 0x32000000) / 8)
  else if r = 4 then
    s.each ((List.range 16).filter (fun k => (s.body k).solving.isSome)) (fun t k => t.solveWant k 0)
  else if r = 5 then s.forecastLost (Config.forecastOf addr)
  else if r = 6 then s.anchorLost (Config.anchorOf addr)
  else if r = 7 then s.snapLost
  else if r = 8 then s.cupLost ((addr - 0x5B000000) / 8 * 8)
  else match Config.remainderCell addr with
    | some p => s.remainderZero p
    | none => if s.caddy.fwRestart then s else s.fwRestart 2

/-- Errors of the row of an address since reset. -/
def State.rowErrs (s : State) (addr : Nat) : Nat := tget (fun _ => 0) s.rel.rowErrs (Config.dramRow addr)

/-- A DRAM error is shown in the registers. -/
def State.eccShow (s : State) (addr : Nat) (uncorr : Bool) : State :=
  let n := s.rowErrs addr + 1
  let t : State := { s with rel := { s.rel with rowErrs := tset (fun _ => 0) s.rel.rowErrs (Config.dramRow addr) n } }
  let u := (t.setReg REL_ECC_LAST_LO (BitVec.ofNat 32 addr)).setReg REL_ECC_LAST_HI
    (BitVec.ofNat 32 ((if uncorr then 2 ^ 31 else 0) + dramRegion addr * 2 ^ 27 + satTo 16 n))
  u.incSat (if uncorr then REL_ECC_COUNT_UNCORRECTED else REL_ECC_COUNT_CORRECTED)

/-- A correctable DRAM error counts in the hour and dates its row (R450, R459). -/
def State.noteEcc (s : State) (addr row at_ : Nat) : State :=
  { s with rel := { s.rel with
      eccHour := s.rel.eccHour + 1, eccLast := addr,
      rowTime := tset (fun _ => 0) s.rel.rowTime row at_ } }

/-- A DRAM error is found by a read or by the scrubber (R450, R459, R461): an uncorrectable one, or the
second correctable one in its row within REPEAT_H, starts the row's test. -/
def State.dramError (s : State) (addr : Nat) (uncorr scrub : Bool) : State :=
  let row := Config.dramRow addr
  let t := s.eccShow addr uncorr
  let want (u : State) : State := if row ∈ u.rel.unspared then u else u.testWant (.dramRow addr) (.dramRow addr) false
  if uncorr then want ((t.rev 0xD007 addr (dramRegion addr)).dramLost addr scrub)
  else
    let u := t.noteEcc addr row (s.optime + 1)
    let last := tget (fun _ => 0) s.rel.rowTime row
    if decide (last ≠ 0) && decide (s.optime + 1 ≤ last + s.get REL_CFG_REPEAT_H * 3600 * 1024) then want u else u

/-- The scrubber reads the next word: 0 good, 1 correctable, 2 uncorrectable (R459). -/
def State.scrubStep (s : State) (err : Nat) : State :=
  if !s.dpUp || !s.on REL_SCRUB_CFG_ENABLE then s
  else
    let addr := 8 * s.rel.scrubAt
    let n := s.rel.scrubAt + 1
    let full := decide (n = 2 ^ 28)
    let t : State := { s with rel := { s.rel with scrubAt := if full then 0 else n } }
    let u := t.put REL_SCRUB_STATUS_PROGRESS_PCT ((if full then 0 else n) * 100 / 2 ^ 28)
    let v := if full then u.put REL_SCRUB_STATUS_PASSES (u.get REL_SCRUB_STATUS_PASSES + 1) else u
    if err = 0 then v else v.dramError addr (decide (err = 2)) true

/-- The end of an hour (R459). -/
def State.eccHour (s : State) : State :=
  if s.rel.eccHour = 0 then s
  else
    let t := s.rev 0xD006 s.rel.eccHour s.rel.eccLast
    { t with rel := { t.rel with eccHour := 0 } }

/-! ### Lockstep recovery (R454 to R458, R466) -/

/-- One lane is fenced. -/
def State.singleLane (s : State) : Bool := s.on REL_STATUS_SINGLE_LANE

/-- The control plane can recover: it runs, and neither SAFE, a sluice nor a halt stands (R466). -/
def State.cpRuns (s : State) : Bool :=
  s.slotsRun && s.on SYS_STATUS_CP_RUN && !s.on REL_STATUS_BOTH_LOST

/-- The lane whose error is known: the one named by a residue check, or the one that still runs (R457). -/
def State.errorLane (s : State) (lane : Option Nat) : Option Nat :=
  if s.on REL_LANE_STATUS_A_FENCED then some 1 else if s.on REL_LANE_STATUS_B_FENCED then some 0 else lane

/-- A recovery starts: the outputs are held and the tile is tested (R455, R457). -/
def State.recoveryStart (s : State) (tile : Nat) (lane : Option Nat) : State :=
  let t : State := { s with rel := { s.rel with tiles := [tile], laneA := true, laneB := true, errLane := lane } }
  ((((t.putB REL_STATUS_HOLD true).put REL_STATUS_RECOVERY 1).put REL_LANE_STATUS_LAST_TILE tile).inc
    REL_LANE_STATUS_MISMATCHES).inc REL_HOLD_STATS_HOLDS

/-- TRANSIENT outcomes of a lane, where the lane in error is known, within REPEAT_H hours (R452).
(DESIGN CHOICE, log entry 154.) -/
def State.laneTransients (s : State) (lane : Option Nat) : Nat :=
  match lane with
  | some l => s.recentTransients (.lane (Fin.ofNat 2 l))
  | none => 0

/-- The comparator, or a residue check of a lane, finds an error of a tile (R450, R455, R457, R466); in a
lane with REPEAT_N TRANSIENT outcomes it is LASTING without a test (R452). (DESIGN CHOICE, log entry 154.) -/
def State.lockMismatch (s : State) (tile : Nat) (named : Option Nat) : State :=
  if !s.cpRuns then s
  else
    let ph := s.get REL_STATUS_RECOVERY
    let lane := s.errorLane named
    if ph = 0 then
      match lane with
      | some l =>
        if s.get REL_CFG_REPEAT_N ≤ s.laneTransients lane then
          (s.rev 0xD00D 3 l (s.laneTransients lane)).laneFence l tile 2
        else s.recoveryStart tile lane
      | none => s.recoveryStart tile none
    else if ph = 1 then
      State.put { s with rel := { s.rel with tiles := if tile ∈ s.rel.tiles then s.rel.tiles else s.rel.tiles ++ [tile] } }
        REL_LANE_STATUS_LAST_TILE tile
    else s.put REL_LANE_STATUS_LAST_TILE tile

/-- The tile tests of both lanes end (R455). (DEDUCED, log entry 134.) -/
def State.lockTested (s : State) (a b : Bool) : State :=
  if !s.cpRuns || decide (s.get REL_STATUS_RECOVERY ≠ 1) then s
  else
    let t : State := { s with rel := { s.rel with laneA := a, laneB := b } }
    let gone (e : Element) : Bool := decide (e ∈ s.rel.fenced)
    let runs := (if gone (.lane 0) then 0 else 1) + (if gone (.lane 1) then 0 else 1)
    let bad := (if !a && !gone (.lane 0) then 1 else 0) + (if !b && !gone (.lane 1) then 1 else 0)
    (((t.put REL_STATUS_RECOVERY 2).put REL_TEST_STATS_TESTS (s.get REL_TEST_STATS_TESTS + runs)).put
      REL_TEST_STATS_LASTING (s.get REL_TEST_STATS_LASTING + bad))

/-- Resolve: the outcome 1 TRANSIENT, 2 lane A fenced, 3 lane B fenced, 4 both lost; `ns` from
detection to release, `holdNs` the hold; the hold is released (R455, R456).
A TRANSIENT counts in the history of a lane that is known to have erred (R452).
(DESIGN CHOICE, log entries 25, 132, 154.) -/
def State.lockResolve (s : State) (outcome cause ns holdNs : Nat) : State :=
  let tile := s.rel.tiles.headD 0
  let a := ((s.put REL_LAST_RECOVERY_OUTCOME outcome).put REL_LAST_RECOVERY_TILE tile).put
    REL_LAST_RECOVERY_TIME_100NS (satTo 16 ((ns + 50) / 100))
  let b := a.raise REL_HOLD_STATS_HOLD_MAX_US (s.openDiv holdNs 1000)
  let f := s.rel.failedSlots
  let c := b.took.recoveryAbandon
  if outcome = 1 then
    let d := match s.rel.errLane with
      | some l => c.noteTransient (.lane (Fin.ofNat 2 l)) c.optime
      | none => c
    ((d.inc REL_LOCKSTEP_STATS_TRANSIENTS).inc (REL_LEVEL_COUNT_TRANSIENT 2)).rev 0xD001 tile
      (satTo 16 ((ns + 50) / 100)) f
  else if outcome = 4 then c.lanesLost tile 0
  else c.laneFence (outcome - 2) tile cause

/-- The re-execution ends (R455 to R457): `agree` says that the lanes agree, or on one lane that no
residue check failed. (DEDUCED, log entry 111.) -/
def State.lockReexecuted (s : State) (agree : Bool) (ns holdNs : Nat) : State :=
  if !s.cpRuns || decide (s.get REL_STATUS_RECOVERY ≠ 2) then s
  else if s.singleLane then
    let ok := if s.on REL_LANE_STATUS_A_FENCED then s.rel.laneB else s.rel.laneA
    s.lockResolve (if ok && agree then 1 else 4) 1 ns holdNs
  else if !s.rel.laneA && !s.rel.laneB then s.lockResolve 4 1 ns holdNs
  else if !s.rel.laneA then s.lockResolve 2 1 ns holdNs
  else if !s.rel.laneB then s.lockResolve 3 1 ns holdNs
  else if agree then s.lockResolve 1 0 ns holdNs
  else s.put REL_STATUS_RECOVERY 3

/-- The placement pass ends: residue errors of the lanes (R455, R456). -/
def State.lockPlaced (s : State) (errA errB : Bool) (ns holdNs : Nat) : State :=
  if !s.cpRuns || decide (s.get REL_STATUS_RECOVERY ≠ 3) then s
  else if errA && !errB then (s.inc REL_LOCKSTEP_STATS_PLACED).lockResolve 2 5 ns holdNs
  else if errB && !errA then (s.inc REL_LOCKSTEP_STATS_PLACED).lockResolve 3 5 ns holdNs
  else s.lockResolve 4 0 ns holdNs

/-! ### Detection and the boot test (R450, R463, R466) -/

/-- A correctable error of a word of an SRAM macro: the word's second one starts the macro's test (R450, R462). -/
def State.sramCorrected (s : State) (m word : Nat) (home : Element) : State :=
  if (m, word) ∈ s.rel.sramWords then s.testWant (.sram m) home false
  else { s with rel := { s.rel with sramWords := (m, word) :: s.rel.sramWords } }

/-- An error of an element is detected; `uncorr` says that no code corrects it, and `word` where in an SRAM
macro it lies.  A core restarts the management firmware; the vote of the always-on block corrects at once.
A residue error of a lane starts lockstep recovery (R450); an uncorrectable word of its checkpoint memory
fences the lane with a CAUSE the spec does not give (R466), or on one lane starts recovery (R457). -/
def State.elementError (s : State) (e home : Element) (uncorr : Bool) (word : Nat) : State :=
  if !s.mpUp then s
  else match e with
    | .core _ => if s.caddy.fwRestart || !s.serves then s else s.fwRestart 2
    | .aon => s
    | .lane l =>
      if !s.cpRuns || decide (e ∈ s.rel.fenced) then s
      else if !uncorr then s.lockMismatch 0 (some l.val)
      else if s.singleLane then s.lockMismatch 4 (some l.val)
      else (s.laneFence l.val 4 (s.free 8).toNat).took
    | .dramRow a => s.dramError a uncorr false
    | .sram m => if uncorr then s.testWant e home false else s.sramCorrected m word home
    | _ => s.testWant e home false

/-- The boot self-test ends: elements tested, those that fail, duration (R463). (DESIGN CHOICE, log entry 135.) -/
def State.bootTested (s : State) (tested : Nat) (failed : List Element) (ms : Nat) : State :=
  if !s.mpUp || s.on REL_STATUS_BOOT_TEST_DONE then s
  else
    let lanes := decide (Element.lane 0 ∈ failed) && decide (Element.lane 1 ∈ failed)
    let a := s.putB REL_STATUS_BOOT_TEST_DONE true
    let b := a.each failed (fun t e => match e with
      | .lane l => if lanes then t else t.laneFence l.val 0 3
      | .sram m => t.sramRepair m (.sram m) 3
      | .dramRow r => t.rowSpare r
      | .core _ | .aon => t
      | _ => t.fence e 3)
    let c := b.rev 0xD00B tested (b.rel.fenced.length - s.rel.fenced.length) ms
    if lanes then
      (State.lanesLost { c with pwr := { c.pwr with rstCp := true } } 0 1).putB SYS_STATUS_CP_RUN false
    else c

/-! ### Sources whose own events start a test (R195, R213, R466) -/

/-- An analog output enters a fault, and its monitor is tested. -/
def State.aoFaultTest (s : State) (n : Nat) : State :=
  let t := s.aoFaultEnter n
  if s.aoFaulted n || !t.aoFaulted n then t
  else t.testWant (.aoMon (Fin.ofNat 8 n)) (.aoMon (Fin.ofNat 8 n)) false

/-- A port enters STUCK, and its loopback test follows (R195, R450). (DEDUCED, log entry 80.) -/
def State.portStuckTest (s : State) (p : Nat) : State :=
  let t := s.portStuck p
  if (s.pst p = pEnum ∨ s.pst p = pRun) ∧ t.pst p = pStuck then
    t.testWant (.sprin (Fin.ofNat 24 p)) (.sprin (Fin.ofNat 24 p)) false
  else t

/-- A guard action that raised HALT abandons a lockstep recovery (R466). -/
def State.afterGuard (s : State) : State := if s.guard.halted && s.on REL_STATUS_HOLD then s.recoveryAbandon else s

end Sys2Proof.Machine
end

