-- ==== Sys2Proof/Machine/PowerOps.lean ====
section
/-! DEFINITION. Supplies, the sluice and resets (R54, R58 to R80, R401 to R403, R498 to R500): power-fail
detection, the steps of a sluice, what a reset of the planes leaves, the restarts, the gauge and the
life counters. -/

namespace Sys2Proof.Machine

open Reg

/-! ### Where a register lives (R102) -/

/-- The block of planes that holds a register. -/
inductive Plane where
  | mgmt
  | ctl
  | data
  | aon
deriving DecidableEq, Repr

/-- The plane of an address. -/
def planeOf (a : Nat) : Plane :=
  if 0x050000 ≤ a ∧ a < 0x070000 then .aon
  else if 0x100000 ≤ a ∧ a < 0x300000 then .ctl
  else if 0x300000 ≤ a ∧ a < 0x600000 then .data
  else .mgmt

/-- The plane is in reset, or stopped so that it gives no reply within 20 µs: the data plane is stopped
from step 2 of a sluice on (R65, R106). -/
def State.inReset (s : State) : Plane → Bool
  | .mgmt => s.pwr.rstMp
  | .ctl => s.pwr.rstCp
  | .data => !s.dpUp
  | .aon => s.pwr.collapsed

/-! ### A reset of the planes (R22, R77, R154, R408, R435, R460, R463) -/

/-- Valve channels in FAULTED, whose faults a reset clears (R366). -/
def State.faultedChans (s : State) : List Nat := (List.range 96).filter (fun v => decide (s.vst v = vFaulted))

/-- The registers that a reset of the planes leaves: the always-on block's and the spare map. -/
def regKept (a : Nat) : Bool := decide (planeOf a = .aon) || decide (a = REL_DRAM_SPARE)

/-- Everything in the three planes at its reset value; the always-on block, what the flash dies, the
one-time words and the stress counters hold, and the strip's markers stay. (DEDUCED, log entries 20, 166.) -/
def State.planesClear (s : State) : State :=
  { pending := s.pending, freeIdx := s.freeIdx, out := s.out,
    regs := tkeep regKept s.regs,
    log := s.log.afterReset, pwr := s.pwr, nv := s.nv, stress := s.stress, guard := s.guard, spare := s.spare
    snaps := s.snaps
    disp := { vf0 := s.disp.vf0 }
    strip := { dirty := s.strip.dirty, cleanShown := s.strip.cleanShown }
    tim := { aon := s.tim.aon }
    valve := { cleared := s.valve.cleared ++ s.faultedChans } }

/-- The levels of the pins and lines that the planes drive, while they are in reset (R50, R78). -/
def resetPins : List (String × Bool) :=
  [("nRSTOUT", false), ("nGNSS_RST", true), ("TIME_TX", true), ("PPS_OUT", false), ("REF_OUT", false),
   ("nHSPI_IRQ", true), ("nE0_LED", true), ("nE1_LED", true), ("SEG_VCOM", true)]

/-- The pins take their levels of reset (R50, R78). -/
def State.drivePins (s : State) : State := s.each resetPins (fun x p => x.send (.pin p.1 p.2))

/-- The three planes enter reset (R22, R77, R78, R91): the PLL locks anew before they leave it, on the
reference of the straps, and the door die runs the discharge of a fitted panel (R416).  A sluice that PFAIL
started and that is cut leaves the module in the sluice-done state (R498). (DEDUCED, log entries 18, 166.) -/
def State.planesReset (s : State) (cause : Nat) : State :=
  let done := s.pwr.sluiceDone || (match s.pwr.sluice with
    | some q => !q.cmd
    | none => false)
  let set := s.on DISP_STATUS_VF0_SET
  let t := s.darken.planesClear
  let u : State := { t with pwr := { t.pwr with
    rstCp := true, rstDp := true, rstMp := true, sluice := none, sluiceDone := done, safe := false, rstOut := false
    refLeft := false } }
  let v := ((u.putB PWR_STATUS_SLUICE_ACTIVE false).putB PWR_CLK_STATUS_PLL_LOCK false).putB DISP_STATUS_VF0_SET set
  let w := (if done then v else v.put PWR_RESET_CAUSE_CAUSE cause).drivePins
  if s.on DISP_CFG_PRESENT then w.send .discharge else w

/-- A reset of the planes that finds them held in reset already: it gives the cause (R77).
(DEDUCED, log entry 18.) -/
def State.heldReset (s : State) (cause : Nat) : State :=
  State.put { s with pwr := { s.pwr with refLeft := false } } PWR_RESET_CAUSE_CAUSE cause

/-- All three planes are in reset. (DEDUCED, log entry 18.) -/
def State.planesHeld (s : State) : Bool := s.pwr.rstMp && s.pwr.rstDp && s.pwr.rstCp

/-- The sluice-done state, or a thermal halt past its grace or one that finds the planes in reset, holds the
planes in reset (R70, R401, R403). (DESIGN CHOICE, log entry 26.) -/
def State.heldDown (s : State) : Bool :=
  s.pwr.sluiceDone || (s.guard.halted && (!s.guard.grace || s.planesHeld))

/-- The straps are sampled (R54). -/
def State.sampleStraps (s : State) (straps : Nat) : State := { s with pwr := { s.pwr with straps := straps } }

/-- The power-cycle count saturates (R79). -/
def State.countCycle (s : State) : State := s.incSat PWR_CYCLE_COUNT_COUNT

/-! ### The sluice (R63 to R70, R498 to R500) -/

/-- A record of the power monitor enters the pond at once, behind what the arbiter serves first (R65,
R435). -/
def State.pondNow (s : State) (code : Nat) : State := (s.intakeAll.aev code).intakeAll

/-- Steps 1 and 2: outputs safe, lanes gated, the data plane stopped (`State.dpUp`), what runs in the
management plane settled (R65, R66, R100, R427, R466). -/
def State.sluiceBegin (s : State) (cmd : Bool) : State :=
  let a : State := { s with
    pwr := { s.pwr with sluice := some { cmd := cmd, pfailInTime := !cmd, halted := s.guard.halted }
                        unmarked := s.pwr.unmarked || !cmd } }
  let b := (a.safeAssert.millAbandon).recoveryAbandon
  let c := if cmd then b else b.pondNow 0x1001
  let d := c.stripPfail.panelSluice
  let e : State := { d with caddy := { d.caddy with swap := none } }
  ((e.busyShow).putB SYS_STATUS_DP_RUN false).putB PWR_STATUS_SLUICE_ACTIVE true

/-- PFAIL has met the deglitch time (R62, R65, R499, R500). -/
def State.pfail (s : State) : State :=
  if !s.aonUp || !s.pwr.pfiBelow || s.on PWR_STATUS_PFAIL then s
  else
    let t := s.putB PWR_STATUS_PFAIL true
    if t.pwr.rstMp then
      if t.pwr.sluiceDone then t
      else
        State.send ({ (t.aev 0x1001) with pwr := { t.pwr with sluiceDone := true, unmarked := true } }) (.pin "PFAIL" true)
    else
      let u := t.send (.pin "PFAIL" true)
      match u.pwr.sluice with
      | some q =>
        let v : State := { u with pwr := { u.pwr with
          sluice := some { q with cmd := false, pfailInTime := decide (q.step = 3) }, unmarked := true } }
        (v.pondNow 0x1001).unfreeze 3
      | none => (u.unfreeze 3).sluiceBegin false

/-- A write of the reset key (R77). -/
def State.commandReset (s : State) : State := s.sluiceBegin true

/-- A sluice step is over. -/
def State.setSluice (s : State) (q : Sluice) : State := { s with pwr := { s.pwr with sluice := some q } }

/-- Step 3 ends with a flush-end entry; the test of R67 decides on step 4 (R65, R67, R69, R434).  A clear
waveform that still waits comes before any other, so step 4 is skipped (R428). (DEDUCED, log entry 151.) -/
def State.sluiceFlushed (s : State) (time10us bad : Nat) : State :=
  match s.pwr.sluice with
  | none => s
  | some q =>
    if q.step ≠ 3 then s
    else
      let n := s.flushCount bad
      let b := (s.flushAll bad).flushEndEntry
      let q1 : Sluice := { q with step := 5, flushTime := time10us, records := n }
      if !q.pfailInTime || !b.stripUsed then b.setSluice q1
      else
        let band := b.stripBand.1
        if !q.halted && b.strip.clear = 0 && b.lastWordAdmits band then
          { ((b.setSluice { q1 with step := 4 }).latchFlags b.stripBand.2) with
            strip := { b.strip with lastWord := some band } }
        else b.setSluice { q1 with lwSkipped := true }

/-- Step 4 is over: the sluice waveform has ended, or it was interrupted (R65, R427, R428). -/
def State.sluiceWordDone (s : State) : State :=
  match s.pwr.sluice with
  | none => s
  | some q =>
    let ended := match s.strip.run with
      | some r => decide (r.kind = 1) && r.ending
      | none => false
    if q.step ≠ 4 || s.strip.lastWord.isSome || !(ended || s.strip.run.isNone) then s
    else s.setSluice { q with step := 5, lwDone := ended }

/-- PWR_SLUICE_LAST as the marker of a sluice gives it. -/
def Sluice.marker (q : Sluice) : Word :=
  let b (x : Bool) (k : Nat) : Nat := if x then 2 ^ k else 0
  BitVec.ofNat 32 (2 ^ 31 + b q.lwDone 30 + b q.lwSkipped 29 + b q.halted 28 + satTo 12 q.flushTime * 2 ^ 16 +
    satTo 13 q.records)

/-- The life counters and site time are saved in the log flash (R79, R154). (DEDUCED, log entry 21.) -/
def State.lifeSave (s : State) : State :=
  { s with pwr := { s.pwr with
      savedOptime := s.optime, savedPcc := s.pcc
      savedSite := if s.pwr.rstMp then s.tim.aon else s.tim.site } }

/-- The strip's clean image follows the sluice waveform, whose completion marker stands for the clean
marker (R426, R427). -/
def State.markerStrip (s : State) : State :=
  match s.strip.run with
  | some r =>
    if r.kind = 1 && r.ending then
      { s with strip := { s.strip with run := none, dirty := false, cleanShown := r.toSegs } }
    else s
  | none => s

/-- A waveform that runs at PFAIL goes on to its end before the planes are held in reset; a command reset and
a thermal halt do not wait for it (R77, R427, R428, R430). (DEDUCED, log entry 151.) -/
def State.stripRuns (s : State) (q : Sluice) : Bool :=
  !q.cmd && !q.halted && s.strip.run.any (fun r => !(r.kind = 1 && r.ending))

/-- Step 5 ends (R65, R70, R77). -/
def State.sluiceMarked (s : State) : State :=
  match s.pwr.sluice with
  | none => s
  | some q =>
    if q.step ≠ 5 || s.stripRuns q then s
    else
      let a := (s.lifeSave.flushEndEntry).markerStrip
      let b : State := { a with pwr := { a.pwr with marker := q.marker, unmarked := false, skipReport := q.lwSkipped } }
      b.planesReset 0x06

/-- A halt ends: the HALT line falls (R402). -/
def State.haltEnd (s : State) : State :=
  State.send { s with guard := { s.guard with halted := false, cooled := false } } (.pin "HALT" false)

/-- A sluice restart (R63, R75, R77, R402). -/
def State.sluiceRestart (s : State) : State :=
  let t := if s.guard.halted then s.haltEnd else s
  let u : State := { t with pwr := { t.pwr with sluiceDone := false, refLeft := false } }
  (u.countCycle.put PWR_RESET_CAUSE_CAUSE 0x03).putB PWR_STATUS_PFAIL false

/-- PFI has stayed at or above the return threshold for 100 ms; a halted module must have cooled as well
(R63, R402, R403). -/
def State.inputReturned (s : State) : State :=
  if !s.aonUp then s
  else
    let t := State.putB { s with pwr := { s.pwr with pfiBelow := false } } PWR_STATUS_INPUT_OK true
    if t.pwr.sluiceDone && (!t.guard.halted || (t.restartReady && t.guard.cooled)) then t.sluiceRestart
    else if t.pwr.sluice.isSome || t.pwr.sluiceDone then t
    else t.putB PWR_STATUS_PFAIL false

/-- The cooling test of a thermal restart holds; in the sluice-done state the input must have returned as well
(R75, R402, R403). -/
def State.thermalRestart (s : State) : State :=
  if !s.aonUp || !s.restartReady then s
  else if s.pwr.sluiceDone then
    (if s.on PWR_STATUS_INPUT_OK then s.sluiceRestart else { s with guard := { s.guard with cooled := true } })
  else
    let g := s.guard
    let t := s.haltEnd
    State.put { t with
      pwr := { t.pwr with refLeft := false }
      guard := { t.guard with
        restarted := some ((s.optime - g.haltAt) / 1024, s.get GUARD_HALT_LAST_PEAK, g.haltZone) } }
      PWR_RESET_CAUSE_CAUSE 0x05

/-- PFI falls below its threshold, and returns before the deglitch time has run (R62). -/
def State.pfiLow (s : State) : State :=
  if !s.aonUp then s
  else State.putB { s with pwr := { s.pwr with pfiBelow := true } } PWR_STATUS_INPUT_OK false

def State.pfiBack (s : State) : State :=
  if s.on PWR_STATUS_PFAIL then s else { s with pwr := { s.pwr with pfiBelow := false } }

/-- The halt grace ends after `used` units of 100 µs with `records` records flushed and `bad` pages that failed
their verification; a flush that is done programs a flush-end entry (R399, R403, R434, R440). -/
def State.graceEnd (s : State) (used records bad : Nat) : State :=
  if !s.guard.grace then s
  else
    let a := ((s.put GUARD_HALT_LAST_GRACE_100US used).putB GUARD_HALT_LAST_GRACE_FULL (decide (used = 250)))
    let b : State := { a with guard := { a.guard with grace := false } }
    if b.planesHeld then b
    else
      let c := (b.flushBad bad).drainFifos
      let d := if c.log.pond.length ≤ records then c.flushOnce.flushOnce.flushEndEntry else c.flushPlaced records
      d.planesReset (d.get PWR_RESET_CAUSE_CAUSE)

/-! ### Rails (R58 to R61) -/

/-- Every logic rail has been within tolerance for 1 ms (R60). -/
def State.railsGood (s : State) : State :=
  if !s.aonUp then s
  else State.putB { s with pwr := { s.pwr with railsReady := true } } PWR_STATUS_LOGIC_RAILS_OK true

/-- A logic rail leaves its tolerance for `us` (R60): 0 VCORE to 4 VAVDD. -/
def State.railDip (s : State) (rail us : Nat) : State :=
  if !s.aonUp || decide (us ≤ 5) then s
  else
    let t := State.putB { s with pwr := { s.pwr with railsReady := false } } PWR_STATUS_LOGIC_RAILS_OK false
    (if t.planesHeld then (if t.heldDown then t else t.heldReset 0x07) else t.planesReset 0x07).aev
      0x1002 rail us

/-- V1P8 falls to 1.50 V or below (R60): the always-on block stops. -/
def State.collapse (s : State) : State :=
  let t := s.planesReset (s.get PWR_RESET_CAUSE_CAUSE)
  { t with pwr := { t.pwr with collapsed := true, railsReady := false } }

/-- The low and good thresholds of a power-stage or display rail in mV, of the magnitude (R61). -/
def railLimits : Rail → Nat × Nat
  | .vbank _ => (7500, 7800)
  | .vfan => (9000, 9500)
  | .vcab => (8500, 8800)
  | .vled => (2800, 2900)
  | .vepP | .vepN => (13500, 14000)

/-- A rail's state after it reads `mv`: low below one threshold, good above the other, else as it was. -/
def railState (r : Rail) (mv : Nat) (was : Bool) : Bool :=
  if mv < (railLimits r).1 then false else if (railLimits r).2 < mv then true else was

/-- A power-stage or display rail crosses a threshold, and the units react (R61). -/
def State.stageRail (s : State) (r : Rail) (mv : Nat) : State :=
  if !s.aonUp then s
  else match r with
    | .vbank b =>
      let m := s.get PWR_STATUS_VBANK_OK
      let now := railState r mv (m.testBit b.val)
      let t := s.put PWR_STATUS_VBANK_OK (if now then m ||| 2 ^ b.val else m &&& (4095 - 2 ^ b.val))
      if t.cpUp then t.bankShow b.val else t
    | .vfan =>
      let was := s.on PWR_STATUS_VFAN_OK
      let now := railState r mv was
      if now = was then s else
        let t := s.putB PWR_STATUS_VFAN_OK now
        if t.cpUp then t.fansSupply now else t
    | .vcab =>
      let was := s.on PWR_STATUS_VCAB_OK
      let now := railState r mv was
      if now = was then s else
        let t := s.putB PWR_STATUS_VCAB_OK now
        if t.dpUp then t.portsVcab now else t
    | .vled =>
      let was := s.on PWR_STATUS_VLED_OK
      let now := railState r mv was
      if now = was then s else
        let t := s.putB PWR_STATUS_VLED_OK now
        if t.mpUp then t.panelVledChange now else t
    | .vepP | .vepN =>
      let p := decide (r = .vepP)
      let now := railState r mv (if p then s.pwr.vepP else s.pwr.vepN)
      let t : State := { s with pwr := if p then { s.pwr with vepP := now } else { s.pwr with vepN := now } }
      let both := t.pwr.vepP && t.pwr.vepN
      if both = s.on PWR_STATUS_VEP_OK then t
      else
        let u := t.putB PWR_STATUS_VEP_OK both
        if u.mpUp then u.stripVepChange both else u

/-! ### PLL, test mode, nRST, power-on (R54, R74 to R77) -/

/-- PLL_LOCK rises (R54, R74, R75): REFSEL 1 and 2 take REF_IN, unless it was abandoned since the last
reset.  The PLL does not lock while the planes are held down. (DESIGN CHOICE, log entry 149.) -/
def State.pllLocked (s : State) : State :=
  if !s.aonUp || !s.pwr.railsReady || s.heldDown then s
  else
    let sel := s.pwr.straps % 4
    (s.putB PWR_CLK_STATUS_PLL_LOCK true).putB PWR_CLK_STATUS_ACTIVE_REF
      (decide (sel = 1 ∨ sel = 2) && !s.pwr.refLeft)

/-- PLL_LOCK falls (R76): a PLL restart follows, also when the planes have not left reset yet; in the
sluice-done state and in a halt it does not take place (R499). -/
def State.pllLost (s : State) : State :=
  if !s.on PWR_CLK_STATUS_PLL_LOCK then s
  else
    let t := s.incSat PWR_CLK_STATUS_LOCK_LOSS_COUNT
    if !t.planesHeld then t.planesReset 0x04
    else
      let u := t.putB PWR_CLK_STATUS_PLL_LOCK false
      if u.heldDown then u else u.heldReset 0x04

/-- REF_IN, which the straps choose, is abandoned, also before the PLL has locked on it: the comparison is
continuous (R75). -/
def State.refLost (s : State) : State :=
  let sel := s.pwr.straps % 4
  if !s.aonUp || !decide (sel = 1 ∨ sel = 2) || s.pwr.refLeft then s
  else ((State.putB { s with pwr := { s.pwr with refLeft := true } } PWR_CLK_STATUS_ACTIVE_REF false).putB
    PWR_CLK_STATUS_REF_LOST true).aev 0x0011

/-- TESTMODE rises and falls (R54, R77). (DEDUCED, log entry 17.) -/
def State.testMode (s : State) : State :=
  if s.pwr.testmode then s
  else
    let t := if s.planesHeld then s else s.planesReset (s.get PWR_RESET_CAUSE_CAUSE)
    { t with pwr := { t.pwr with testmode := true } }

/-- DEDUCED, log entry 17. -/
def State.testRelease (s : State) : State :=
  if !s.pwr.testmode then s
  else
    let t : State := { s with pwr := { s.pwr with testmode := false } }
    if t.heldDown then t else t.heldReset 0x08

/-- nRST was low for at least 10 µs; the straps are sampled at its rising edge (R54, R77).
(DESIGN CHOICE, log entry 26.) -/
def State.external (s : State) (straps : Nat) : State :=
  if !s.aonUp then s
  else
    (if s.heldDown then s else if s.planesHeld then s.heldReset 0x02 else s.planesReset 0x02).sampleStraps straps

/-- The latest operating time in any record of the log flash (R79). -/
def State.latestRecord (s : State) : Nat := ((s.log.tail ++ s.log.head).map (fun r => r.optime)).foldl max 0

/-- Everything that no power-on reset keeps goes to its reset value, the always-on block included (R77).
(DEDUCED, log entry 19.) -/
def State.powerClear (s : State) (straps : Nat) : State :=
  let c := s.planesClear
  { c with
    regs := [], guard := {}, spare := {}
    log := { c.log with fifos := [], aonDrops := 0 }
    pwr := { straps := straps, testmode := s.pwr.testmode, unmarked := s.pwr.unmarked, skipReport := s.pwr.skipReport, marker := s.pwr.marker
             savedOptime := s.pwr.savedOptime, savedPcc := s.pwr.savedPcc, savedSite := s.pwr.savedSite }
    valve := {}
    disp := { vf0 := s.stress.savedVf0 }
    stress := { s.stress with s := s.stress.savedS, frac := s.stress.savedFrac }
    tim := { aon := s.pwr.savedSite } }

/-- A power-on reset: everything, with the life counters and site time restored (R60, R77, R79,
R154). (DEDUCED, log entry 19.) -/
def State.powerOn (s : State) (straps : Nat) : State :=
  let a := s.powerClear straps
  let b := ((a.setOptime (max s.pwr.savedOptime s.latestRecord + 1)).put PWR_CYCLE_COUNT_COUNT s.pwr.savedPcc).countCycle
  (((b.put PWR_RESET_CAUSE_CAUSE 0x01).spareShow).putB DISP_STATUS_VF0_SET s.stress.savedVf0Set).drivePins

/-! ### The gauge (R64) -/

/-- GAUGE_VALID follows the hold-up configuration (R67). (DEDUCED, log entry 16.) -/
def State.gaugeValid (s : State) : State :=
  s.putB PWR_STATUS_GAUGE_VALID
    (decide (s.get PWR_HOLD_CFG_CAP_10UF ≠ 0) && decide (s.get PWR_HOLD_CFG2_SENSE_RATIO ≠ 0))

/-- A sample of VHOLD_SNS: the bank voltage, and the energy η ½ C (V² − Vmin²) at the regulators' outputs
(R64, R72).  `v` is the voltage in units of 10 mV / 4096. (PRESUMED, DESIGN CHOICE, log entries 24, 25.) -/
def State.gauge (s : State) (code : Nat) : State :=
  if !s.aonUp || !s.on PWR_STATUS_GAUGE_VALID then s
  else
    let v := code * 125 * s.get PWR_HOLD_CFG2_SENSE_RATIO
    let vmin := s.get PWR_HOLD_CFG_VMIN_100MV * 10 * 4096
    let num := s.get PWR_HOLD_CFG_EFF * s.get PWR_HOLD_CFG_CAP_10UF * (v * v - vmin * vmin)
    let mj := if v ≤ vmin then 0 else s.openDiv num (256 * 2 * 100 * 100 * 100 * 4096 * 4096)
    let t := s.put PWR_GAUGE_ENERGY_MJ (satTo 16 mj)
    ((t.put PWR_GAUGE_VHOLD_10MV (satTo 16 (t.openDiv v 4096)))).took

end Sys2Proof.Machine
end

