-- ==== Sys2Proof/Machine/Fabric.lean ====
section
/-! DEFINITION. The register fabric (R28, R29, R101 to R112): what a read of a register returns, latch
groups, the checks of a write, what a write does, and the queues of the set-point leat. -/

namespace Sys2Proof.Machine

open Reg

/-! ### Windows and instances (R102, R104, R105) -/

/-- Instance and offset of an address in an array of `n` instances `stride` apart. -/
def instOf (base stride n a : Nat) : Option (Nat × Nat) :=
  if base ≤ a ∧ a < base + stride * n then some ((a - base) / stride, (a - base) % stride) else none

/-- A word of the coefficient window of a slot: slot and offset (R104). -/
def coefAt (a : Nat) : Option (Nat × Nat) :=
  match instOf 0x100000 0x1000 16 a with
  | some p => if 0x400 ≤ p.2 ∧ a % 4 = 0 then some p else none
  | none => none

/-- A word of an estimate-table entry: entry and word (R104). -/
def estAt (a : Nat) : Option (Nat × Nat) :=
  if a % 4 = 0 then (instOf 0x480000 16 1024 a).map (fun p => (p.1, p.2 / 4)) else none

/-- A word of the node-table window (R104). -/
def inNodeWindow (a : Nat) : Bool := decide (0x303000 ≤ a) && decide (a < 0x340000) && decide (a % 4 = 0)

/-- The register at an address is mapped (R101, R102, R105). -/
def mapped (a : Nat) : Bool :=
  (rowOf a).isSome || (coefAt a).isSome || (estAt a).isSome || inNodeWindow a

/-- A word of the node-table window (R197). -/
def State.nodeWord (s : State) (a : Nat) : Word :=
  match instOf 0x303000 0x2000 24 a with
  | some p =>
    if p.2 / 32 = 255 then 0
    else (tget (fun _ => ({} : SprinNode)) (s.port p.1).nodes (p.2 / 32)).word (p.2 % 32 / 4)
  | none => 0

/-! ### What a register holds (R114 and the registers of the chapters) -/

/-- Time left of a freeze, in units of 100 ms (R444). (DESIGN CHOICE, log entry 128.) -/
def State.freezeLeft (s : State) : Nat :=
  match s.log.freeze with
  | some t => ((t + 10240 - s.optime) * 10 + 1023) / 1024
  | none => 0

/-- Minutes since the newest valid coarse snapshot (R295). -/
def State.snapAge (s : State) : Nat :=
  let l := ([0, 1].filter (fun n => snapOk 1 (s.snapArea n))).map (fun n => snapTimeOf (s.snapArea n))
  match l.max? with
  | some t => satTo 16 ((s.optime - t) / 61440)
  | none => 0xFFFF

/-- Entries of the front bank that are VALID, and those that are PROVISIONAL too (R289). -/
def State.estCount (s : State) : Word :=
  let l := (List.range 1024).map (fun n => s.estWord n 3)
  BitVec.ofNat 32 ((l.filter (fun w => w.getLsbD 31)).length +
    (l.filter (fun w => w.getLsbD 31 && w.getLsbD 30)).length * 2 ^ 16)

/-- Subpixel that DISP_PIX_SEL names. -/
def State.pixSel (s : State) : Nat := s.get DISP_PIX_SEL_K

/-- The management plane's registers that show other state. -/
def State.lookMgmt (s : State) (req a : Nat) : Word :=
  if a = SYS_UID_LO then BitVec.ofNat 32 s.nv.uid
  else if a = SYS_UID_HI then BitVec.ofNat 32 (s.nv.uid / 2 ^ 32)
  else if a = SYS_STRAPS then BitVec.ofNat 32 s.pwr.straps
  else if a = SYS_REQUESTER then BitVec.ofNat 32 req
  else if a = CADDY_KEY_CTRL then BitVec.ofNat 32 (s.nv.keyProg % 16 * 16 + s.nv.keyRev % 16)
  else if CADDY_KEY_HASH 0 ≤ a ∧ a < CADDY_KEY_HASH 32 then
    tget (fun _ => 0) s.nv.keyHash ((a - CADDY_KEY_HASH 0) / 4)
  else if a = TIME_NOW_SEC_LO then BitVec.ofNat 32 (secOf s.tim.mp)
  else if a = TIME_NOW_SEC_HI then BitVec.ofNat 32 (secOf s.tim.mp / 2 ^ 32 % 2 ^ 16)
  else if a = TIME_NOW_NS then BitVec.ofNat 32 (nsOf s.tim.mp)
  else if a = NET_MAC_LO then BitVec.ofNat 32 s.nv.mac
  else if a = NET_MAC_HI then BitVec.ofNat 32 (s.nv.mac / 2 ^ 32 % 2 ^ 16)
  else if NET_SESSION 0 ≤ a ∧ a < NET_SESSION 8 then
    let n := (a - NET_SESSION 0) / 4
    if s.on (NET_SESSION_OPEN n) then
      setBits (s.reg a) 15 0 (satTo 16 ((s.tim.mono - (s.session n).last) / 1000000))
    else s.reg a
  else if a = NET_DHCP_STATUS then
    setBits (s.reg a) 31 8 (if s.get NET_DHCP_STATUS_STATE = 2 then satTo 24 ((s.net.leaseEnd - s.tim.mono) / 1000000)
      else 0)
  else if a = NET_WDOG_STATUS then
    setBits (s.reg a) 15 0 (if s.isLoaded then satTo 16 ((s.tim.mono - s.net.beat) / 1000) else 0)
  else if a = LOG_FREEZE then BitVec.ofNat 32 s.freezeLeft
  else if a = DISP_FB_DATA then s.fbRead
  else if a = DISP_GAMMA_DATA then
    BitVec.ofNat 32 (tget (fun _ => 0) s.disp.gamma (s.get DISP_GAMMA_SEL_COLOUR * 256 + s.get DISP_GAMMA_SEL_INDEX))
  else if a = DISP_CURVE_DATA then
    BitVec.ofNat 32 (tget (fun _ => 0xFFFF) s.disp.curve (s.get DISP_CURVE_SEL_COLOUR * 32 + s.get DISP_CURVE_SEL_INDEX))
  else if a = DISP_PIX_STRESS then BitVec.ofNat 32 (tget (fun _ => 0) s.stress.s s.pixSel)
  else if a = DISP_PIX_GAIN then
    BitVec.ofNat 32 (tget (fun _ => 0) s.disp.pwm s.pixSel * 2 ^ 16 + tget (fun _ => 16384) s.disp.gain s.pixSel)
  else if a = DISP_PIX_VF then
    BitVec.ofNat 32 (tget (fun _ => 0) s.disp.vf25 s.pixSel * 2 ^ 16 + tget (fun _ => 0) s.disp.vf0 s.pixSel)
  else s.reg a

/-- The data plane's registers that show other state. -/
def State.lookData (s : State) (a : Nat) : Word :=
  if inNodeWindow a then s.nodeWord a
  else if a = MILL_SNAP_STATUS then setBits (s.reg a) 15 0 s.snapAge
  else if a = MILL_EST_COUNT then s.estCount
  else match estAt a with
    | some p => s.estWord p.1 p.2
    | none => match instOf 0x400000 0x4000 16 a with
      | some p => if 0x28 ≤ p.2 ∧ p.2 ≤ 0x34 then s.cellWord p.1 ((p.2 - 0x28) / 4) else s.reg a
      | none => s.reg a

/-- What a requester sees in a mapped register at this moment. -/
def State.look (s : State) (req a : Nat) : Word :=
  match planeOf a with
  | .mgmt => s.lookMgmt req a
  | .data => s.lookData a
  | .ctl => match instOf 0x100000 0x1000 16 a with
    | some p => if p.2 = 0x064 then s.xhat p.1 else s.reg a
    | none => s.reg a
  | .aon => s.reg a

/-! ### Latch groups (R110) -/

/-- The members that a read of the lowest member captures; none for any other register. -/
def latchMembers (a : Nat) : List Nat :=
  if a ∈ [SYS_UID_LO, TIME_SET_SEC_LO, NET_MAC_LO, PWR_OPTIME_LO, CUP_AT_SEC_LO, REL_ECC_LAST_LO] then [a + 4]
  else if a = TIME_NOW_SEC_LO then [TIME_NOW_SEC_HI, TIME_NOW_NS]
  else if a ∈ [NET_IP6_LL 0, NET_IP6_STATIC 0, NET_IP6_STATIC 4] then [a + 4, a + 8, a + 12]
  else if a = LOG_HWM_LO then
    [LOG_HWM_HI, LOG_TAIL_FIRST_LO, LOG_TAIL_FIRST_HI, LOG_HEAD_FIRST_LO, LOG_HEAD_FIRST_HI, LOG_HEAD_COUNT]
  else if a = DISP_PIX_STRESS then [DISP_PIX_GAIN, DISP_PIX_VF]
  else if a = CUP_RECORDS then [CUP_NEXT_SEQ, CUP_FIRST_SEQ, CUP_WRAPS]
  else match estAt a with
    | some p => if p.2 = 0 then [a + 4, a + 8, a + 12] else []
    | none =>
      if inNodeWindow a then (if a % 32 = 0 then (List.range 7).map (fun i => a + 4 * i + 4) else [])
      else match instOf 0x340000 0x80 32 a with
        | some p => if p.2 = 0x10 then [a + 4, a + 8, a + 12] else []
        | none => match instOf 0x290200 0x40 4 a with
          | some p => if p.2 = 0x08 then [a + 4, a + 8] else []
          | none => match instOf 0x400000 0x4000 16 a with
            | some p => if p.2 = 0x28 then [a + 4, a + 8, a + 12] else []
            | none => []

/-- The key of a capture. -/
def capKey (req a : Nat) : Nat := req * 2 ^ 24 + a

/-- The captured value of a register for a requester, if it has made a capture. -/
def State.captured (s : State) (req a : Nat) : Option Word :=
  (s.fab.caps.find? (fun p => p.1 = capKey req a)).map (fun p => p.2)

/-- Capture the members of a group for a requester, all at this moment. -/
def State.capture (s : State) (req : Nat) (l : List Nat) : State :=
  { s with fab := { s.fab with
      caps := l.foldl (fun c a => tinsert (terase c (capKey req a)) (capKey req a) (s.look req a)) s.fab.caps } }

/-! ### Violations and reads (R106, R107, R109) -/

/-- A register violation: only the count shows it; LOADER counts the loader's writes (R107). -/
def State.violate (s : State) (req : Nat) : State :=
  let t := s.inc SYS_VIOL_COUNT_TOTAL
  if req = 2 then t.inc SYS_VIOL_COUNT_LOADER else t

/-- A read that reaches its register: the value returned and the state after it.  With the management
plane in reset there is no fabric, and the read returns 0. (DESIGN CHOICE, log entry 14.) -/
def State.readAt (s : State) (req a : Nat) : Word × State :=
  if !s.mpUp then (0, s)
  else if !mapped a || s.inReset (planeOf a) then (0, s.inc SYS_VIOL_COUNT_TOTAL)
  else match latchMembers a with
    | m :: l => (s.look req a, s.capture req (m :: l))
    | [] => match s.captured req a with
      | some w => (w, s)
      | none => (s.look req a, s)

/-! ### What a write may carry (R106, R108) -/

/-- The word carries no reserved encoding by the register's own table: reserved bits, and field values
outside their ranges; and some field of the register is writable. -/
def RegRow.admits (r : RegRow) (v : Word) : Bool :=
  decide (v.toNat &&& r.rsv = 0) && decide (r.rw ≠ 0 ∨ r.wo ≠ 0 ∨ r.w1c ≠ 0) &&
    r.ranges.all (fun q => decide (q.2.2.1 ≤ bits v q.1 q.2.1) && decide (bits v q.1 q.2.1 ≤ q.2.2.2))

/-- A session that may operate. -/
def State.operates (s : State) (req : Nat) : Bool :=
  decide (0x40 ≤ req) && decide (req < 0x48) && s.on (NET_SESSION_OPERATE (req - 0x40)) && s.isLoaded

/-- The register accepts writes of this requester (R88, R106, R438, R453). -/
def State.requesterMay (s : State) (req a : Nat) : Bool :=
  if a = CADDY_KEY_CTRL then
    decide (req = 0x10) || (decide (0x40 ≤ req) && decide (req < 0x48) && s.isLoaded)
  else if a = LOG_CLEAR_CMD then decide (req = 0x10) || s.operates req
  else if a = REL_TEST_CMD then decide (req ≠ 0x20)
  else true

/-- A key slot is programmed and not revoked. -/
def State.keyLive (s : State) (k : Nat) : Bool := s.nv.keyProg.testBit k && !s.nv.keyRev.testBit k

/-- A command of CADDY_KEY_CTRL meets R88. -/
def State.keyOk (s : State) (v : Word) : Bool :=
  let k := bits v 9 8
  if bits v 31 16 = 0x0F7B then !s.nv.keyProg.testBit k
  else if bits v 31 16 = 0x4E7F then
    s.keyLive k && decide (1 < ((List.range 4).filter s.keyLive).length)
  else false

/-- A binary32 set-point: a number. -/
def finite (v : Word) : Bool := decide (bits v 30 23 ≠ 255)

/-- No reserved encoding of the management plane that depends on more than the word. (DEDUCED, log entry 130.) -/
def State.mgmtOk (s : State) (a : Nat) (v : Word) : Bool :=
  if a = CADDY_KEY_CTRL then s.keyOk v
  else if a = TIME_SET_CMD then !s.setRefused
  else if a = TIME_UTC then !(v.getLsbD 16 && v.getLsbD 17)
  else if a = LOG_CLEAR_CMD then
    s.log.freeze.isNone && !s.on LOG_STATUS_CLEARING &&
      decide (bits v 15 0 = bits (s.reg LOG_HEAD_FIRST_LO) 15 0)
  else if a = LOG_SYSLOG_ADDR then !(decide (v = 0) && s.on LOG_SYSLOG_CFG_ENABLE)
  else if a = DISP_CFG then v.getLsbD 29 || !v.getLsbD 28
  else if a = DISP_CTRL then
    if bits v 3 0 = 2 then decide (s.get DISP_STATUS_STATE = 3)
    else if bits v 3 0 = 3 then !s.on DISP_STATUS_CRACK_OPEN
    else true
  else if a = DISP_SOURCE then decide (bits v 7 0 = 255) || decide (bits v 7 0 < s.disp.imageCount)
  else if a = DISP_FB_SEL then decide (bits v 10 0 % 4 = 0)
  else if a = DISP_COMMIT then !(v.getLsbD 31 && s.on DISP_COMMIT_BUSY)
  else if a = DISP_STRIP_CMD then !(v.getLsbD 31 && s.on DISP_STRIP_CMD_BUSY)
  else if a = REL_TEST_CMD then s.relCmdOk v
  else true

/-- As `mgmtOk`, for the always-on block. -/
def State.aonOk (s : State) (a : Nat) (v : Word) : Bool :=
  if a = PWR_RESET_CMD then !s.on PWR_STATUS_PFAIL && s.pwr.sluice.isNone
  else match instOf 0x050100 0x10 16 a with
    | some p => if p.2 = 0 then s.sensCfgOk p.1 v else true
    | none => match instOf 0x050400 0x10 8 a with
      | some p => if p.2 = 0 then s.zoneCfgOk p.1 v else if p.2 = 4 then zoneThrOk v else true
      | none => true

/-- As `mgmtOk`, for a register of valve channel `v` at offset `o`, or of its bank. -/
def State.valveOk (s : State) (v o : Nat) (w : Word) : Bool :=
  if o = 0x00 then
    decide (bits w 23 16 = 0) || (decide (bits w 15 8 ≠ 0) && decide (bits w 7 0 ≠ 0) &&
      decide (8 * bits w 15 8 ≤ 16 * bits w 7 0))
  else if o = 0x08 then
    (decide (bits w 23 22 = 1) || decide (bits w 15 0 = 0)) && decide (s.get (VALVE_PROFILE_PEAK_T v) ≠ 0)
  else true

def State.bankOk (s : State) (b o : Nat) (w : Word) : Bool :=
  if o = 0x20C then decide (bits w 3 0 ≠ 5) || s.clearOk (8 * b + bits w 6 4)
  else if o = 0x218 then !w.getLsbD 31 || s.cqPopOk b (bits w 23 16)
  else true

/-- As `mgmtOk`, for the control plane. -/
def State.ctlOk (s : State) (a : Nat) (v : Word) : Bool :=
  match instOf 0x100000 0x1000 16 a with
  | some p =>
    if 0x400 ≤ p.2 then s.coefOk p.1 p.2 v
    else if p.2 = 0x008 then s.modeWriteOk p.1 v
    else s.slotWordOk p.1 p.2 v
  | none => match instOf 0x200000 0x400 12 a with
    | some p => if p.2 < 0x200 then s.valveOk (8 * p.1 + p.2 / 0x40) (p.2 % 0x40) v else s.bankOk p.1 p.2 v
    | none => match instOf 0x280000 0x40 16 a with
      | some p =>
        if p.2 = 0x04 then !(decide (1013 < bits v 31 22) && decide (s.get (FAN_CFG_MODE p.1) = 1))
        else if p.2 = 0x08 then finite v
        else if p.2 = 0x0C ∨ p.2 = 0x10 then !fIsNaN v && !(v.getLsbD 31 && decide (bits v 30 0 ≠ 0))
        else true
      | none => match instOf 0x290000 0x40 8 a with
        | some p => if p.2 = 0 then decide (bits v 15 0 ≤ aoMax (bits v 31 30)) else true
        | none => match instOf 0x290200 0x40 4 a with
          | some p => if p.2 = 0 then !(v.getLsbD 31 && decide (bits v 23 16 = 0)) else true
          | none => true

/-- FIELD_CFG of input `i` holds no reserved encoding (R198, R202, R206). -/
def fieldCfgOk (i : Nat) (w : Word) : Bool :=
  let m := bits w 31 28
  let r := bits w 26 24
  decide (m ≤ 6) && decide (r ≠ 7) && (decide (m ≠ 6) || (decide (i < 8) && decide (r ≤ 2)))

/-- The ring quotas of all bodies with body `k`'s replaced fit the ring region (R284). (DEDUCED, log entry 99.) -/
def State.quotaOk (s : State) (k q : Nat) : Bool :=
  decide (((List.range 16).map (fun j => if j = k then q else s.get (MILL_RUN_CFG_RING_QUOTA j))).sum ≤ 64)

/-- As `mgmtOk`, for a register of a Millstone body. -/
def State.bodyOk (s : State) (k o : Nat) (v : Word) : Bool :=
  let ty := s.get (MILL_BODY_CFG_TYPE k)
  if o = 0 then !v.getLsbD 31 || (decide (1 ≤ bits v 5 0) && decide (bits v 5 0 ≤ 60))
  else if o = 0x18 then
    if bits v 3 0 = 1 then decide (s.bst k ≠ bAbsent) && !(s.body k).heldOn else (s.body k).heldOn
  else if o = 0x24 then decide (bits v 24 0 < s.get (MILL_BODY_CELLS_CELLS k))
  else if o = 0x38 then
    (decide (bits v 31 30 = 0) || (decide (bits v 31 30 = 1) == decide (ty = 0))) &&
      (decide (bits v 9 0 = 0) || (decide (ty = 2) && decide (bits v 9 0 ≤ s.get (MILL_GRID_DIM_N2_M1 k) + 1)))
  else if o = 0x50 then s.quotaOk k (bits v 23 16)
  else true

/-- As `mgmtOk`, for the data plane. -/
def State.dataOk (s : State) (a : Nat) (v : Word) : Bool :=
  if a = MILL_AMBIENT_P then flt 0x47434FFF v && flt v 0x47D6D801
  else if a = CUP_LIMIT then decide (s.get CUP_STATUS_STATE ≠ 2)
  else match instOf 0x300000 0x200 24 a with
    | some p =>
      if p.2 = 0x0C then !(decide (bits v 11 8 = 2) && decide (s.pst p.1 = pFaulted) && (s.port p.1).lasting)
      else if p.2 = 0x10 then
        !(v.getLsbD 31 && s.on (SPRIN_NCMD_BUSY p.1)) &&
          (!v.getLsbD 31 || decide ((bits v 15 8, bits v 26 24) ∈ [(0x06, 1), (0x10, 5), (0x11, 1)]))
      else true
    | none => match instOf 0x340000 0x80 32 a with
      | some p => if p.2 = 0 then fieldCfgOk p.1 v else true
      | none => match instOf 0x400000 0x4000 16 a with
        | some p => s.bodyOk p.1 p.2 v
        | none => match instOf 0x500000 0x40 16 a with
          | some p => if p.2 = 0 then infCfgOk v else if p.2 = 8 then s.infFreqOk p.1 v else true
          | none => true

/-- No reserved encoding that depends on more than the word. -/
def State.wordOk (s : State) (a : Nat) (v : Word) : Bool :=
  match planeOf a with
  | .mgmt => s.mgmtOk a v
  | .aon => s.aonOk a v
  | .ctl => s.ctlOk a v
  | .data => s.dataOk a v

/-- As `wordOk`, for a requester: the periods that a DIV_l of the loader goes by are those of its complete slot
sections, judged with them (R328). -/
def State.wordFor (s : State) (req a : Nat) (v : Word) : Bool :=
  match coefAt a with
  | some p => if req = 2 ∧ p.2 = winCascade then s.divRange p.1 v else s.wordOk a v
  | none => s.wordOk a v

/-- The write is no register violation (R106). -/
def State.writeOk (s : State) (req a : Nat) (v : Word) : Bool :=
  !s.inReset (planeOf a) &&
    (match rowOf a with
      | some r => !(r.rwl && s.fab.locked && decide (req ≠ 2)) && s.requesterMay req a && r.admits v && s.wordOk a v
      | none => (coefAt a).isSome && s.wordFor req a v)

/-! ### What a write does -/

/-- A key slot takes the staged hash, or is revoked (R88). -/
def State.keyCommand (s : State) (v : Word) : State :=
  let k := bits v 9 8
  if bits v 31 16 = 0x0F7B then
    let h := (List.range 8).foldl (fun (h : List (Nat × Word)) i =>
      tset (fun _ => 0) h (8 * k + i) (s.reg (CADDY_KEY_STAGE i))) s.nv.keyHash
    State.ev { s with nv := { s.nv with keyHash := h, keyProg := s.nv.keyProg ||| 2 ^ k } } portCaddy 0xC002 k
  else State.ev { s with nv := { s.nv with keyRev := s.nv.keyRev ||| 2 ^ k } } portCaddy 0xC003 k

/-- The display's tables after a write of a gamma or curve entry: a change marks every row dirty (R413). -/
def State.tableEntry (s : State) (d : Display) : State :=
  if d = s.disp then s else State.dirtyAll { s with disp := d }

/-- The effects of an accepted write in the management plane; `old` is the word before it. -/
def State.mgmtEffect (s : State) (req a : Nat) (old v : Word) : State :=
  if a = CADDY_KEY_CTRL then s.keyCommand v
  else if a = TIME_CFG then
    let t := if old.getLsbD 16 && !v.getLsbD 16 && decide (s.tstate ≠ tFree) then s.timeEnter tFree else s
    if bits old 26 25 = bits v 26 25 then t else t.send (.refOut t.refOut)
  else if a = TIME_PTP_CFG 0 ∨ a = TIME_PTP_CFG 1 then
    if old.getLsbD 31 = v.getLsbD 31 then s else s.ptpSet ((a - TIME_PTP_CFG 0) / 4)
  else if a = NET_PORT_CFG 0 ∨ a = NET_PORT_CFG 1 then
    -- a port marked UNUSED is powered down
    if v.getLsbD 3 then s.linkChange ((a - NET_PORT_CFG 0) / 4) false 0 false else s
  else if a = TIME_SET_CMD then s.timeSet s.setTarget s.tim.site
  else if a = NET_WDOG_CFG then
    if !v.getLsbD 31 && s.on NET_WDOG_STATUS_TRIPPED then s.wdogRelease else s
  else if a = NET_HEARTBEAT then s.heartbeat req
  else if a = LOG_FREEZE then if bits v 9 8 = 1 then s.freezeSet else s.freezeLift
  else if a = LOG_CLEAR_CMD then s.logClear req
  else if a = DISP_CURRENT ∨ (DISP_CURVE_STEP 0 ≤ a ∧ a < DISP_CURVE_STEP 3) then
    if s.reg a = old then s else s.dirtyAll
  else if a = DISP_STRIP_CFG then s.stripFitted
  else if a = DISP_CFG then s.panelFitted
  else if a = DISP_CTRL then
    (match bits v 3 0 with
      | 1 => s.panelOffCmd
      | 2 => s.panelWake
      | 3 => s.panelClearCrack
      | _ => s.panelClearStress req)
  else if a = DISP_SOURCE then if s.reg a = old then s else s.sourceChanged
  else if a = DISP_FB_DATA then s.fbWrite v
  else if a = DISP_COMMIT then if v.getLsbD 31 then s.commitGo else s
  else if a = DISP_GAMMA_DATA then
    s.tableEntry { s.disp with
      gamma := tset (fun _ => 0) s.disp.gamma (s.get DISP_GAMMA_SEL_COLOUR * 256 + s.get DISP_GAMMA_SEL_INDEX)
        (bits v 11 0) }
  else if a = DISP_CURVE_DATA then
    s.tableEntry { s.disp with
      curve := tset (fun _ => 0xFFFF) s.disp.curve (s.get DISP_CURVE_SEL_COLOUR * 32 + s.get DISP_CURVE_SEL_INDEX)
        (bits v 15 0) }
  else if a = DISP_STRIP_CMD then if v.getLsbD 31 then s.stripGo else s
  else if a = REL_TEST_CMD then s.relCmd v
  else s

/-- As `mgmtEffect`, for the always-on block. -/
def State.aonEffect (s : State) (a : Nat) : State :=
  if a = PWR_RESET_CMD then s.commandReset
  else if a = GUARD_FAN_MASK then s.guardFans
  else if a = PWR_HOLD_CFG ∨ a = PWR_HOLD_CFG2 then s.gaugeValid
  else s

/-- As `mgmtEffect`, for a register of a valve channel and of a bank (R351, R361, R366, R368, R371). -/
def State.valveEffect (s : State) (req v o : Nat) (old w : Word) : State :=
  if o = 0x08 then
    if bits w 23 22 = 1 then s.valveStart v (bits w 31 24) false (bits w 15 0)
    else if bits w 23 22 = 2 then s.valveStart v (bits w 31 24) true 0
    else s.valveStop v (bits w 31 24)
  else
    let t := if req = 2 && decide (s.reg (VALVE_PROFILE v + o) ≠ old) && (o = 0x00 || o = 0x14) &&
        decide (s.vst v = vFaulted) then s.clearFault v 2
      else s
    if o = 0x14 then t.dutyJudge v else t

def State.bankEffect (s : State) (b o : Nat) (w : Word) : State :=
  if o = 0x20C then
    let v := 8 * b + bits w 6 4
    (match bits w 3 0 with
      | 1 => s.bankDisable b
      | 2 => s.bankEnable b
      | 3 => s.channelDisable v
      | 4 => s.channelEnable v
      | _ => s.clearFault v 0)
  else if o = 0x218 then if w.getLsbD 31 then s.cqPop b else s
  else s

/-- An analog output that no slot drives. -/
def State.aoFree (s : State) (n : Nat) : Bool := decide (s.get (AIO_AO_CODE_SOURCE n) ≠ 2)

/-- MODE of a fan changes: its I starts at 0, and an override may start (R384, R398). -/
def State.fanCfgWrite (s : State) (f : Nat) (old v : Word) : State :=
  (if bits old 31 30 ≠ bits v 31 30 then s.fanLoopReset f else s).overrides

/-- As `mgmtEffect`, for the control plane. -/
def State.ctlEffect (s : State) (req a : Nat) (old v : Word) : State :=
  match instOf 0x100000 0x1000 16 a with
  | some p =>
    if 0x400 ≤ p.2 then s.coefWrite p.1 p.2 v
    else if p.2 = 0x008 then s.modeRequest p.1 (bits v 3 0)
    else s
  | none => match instOf 0x200000 0x400 12 a with
    | some p =>
      if p.2 < 0x200 then s.valveEffect req (8 * p.1 + p.2 / 0x40) (p.2 % 0x40) old v else s.bankEffect p.1 p.2 v
    | none => match instOf 0x280000 0x40 16 a with
      | some p =>
        if p.2 = 0 then s.fanCfgWrite p.1 old v else s
      | none => match instOf 0x290000 0x40 8 a with
        | some p => if p.2 = 0 ∧ s.aoFree p.1 then s.aoIdle p.1 else s
        | none => match instOf 0x290200 0x40 4 a with
          | some p => if p.2 = 0 ∧ !old.getLsbD 31 ∧ v.getLsbD 31 then s.pulseStart p.1 else s
          | none => s

/-- As `mgmtEffect`, for the data plane. -/
def State.dataEffect (s : State) (a : Nat) (old v : Word) : State :=
  if a = CUP_CTRL then s.cupCtrl (bits v 1 0)
  else match instOf 0x300000 0x200 24 a with
    | some p =>
      if p.2 = 0 then s.portEnable p.1
      else if p.2 = 0x0C then
        (match bits v 11 8 with
          | 1 => s.portReenum p.1
          | 2 => s.portCycle p.1
          | _ => s.portIdentify p.1 (bits v 7 0))
      else if p.2 = 0x10 then if v.getLsbD 31 then s.hostGo p.1 else s
      else s
    | none => match instOf 0x340000 0x80 32 a with
      | some p =>
        if p.2 = 0 ∧ (bits old 31 28 ≠ bits v 31 28 ∨ bits old 26 24 ≠ bits v 26 24) then s.fieldChange p.1 else s
      | none => match instOf 0x400000 0x4000 16 a with
        | some p => if p.2 = 0x18 then if bits v 3 0 = 1 then s.bodyHold p.1 else s.bodyResume p.1 else s
        | none => match instOf 0x500000 0x40 16 a with
          | some p => if p.2 = 0 then s.infCfgWrite p.1 v else s
          | none => s

/-- The effects of an accepted write. -/
def State.effect (s : State) (req a : Nat) (old v : Word) : State :=
  match planeOf a with
  | .mgmt => s.mgmtEffect req a old v
  | .aon => s.aonEffect a
  | .ctl => s.ctlEffect req a old v
  | .data => s.dataEffect a old v

/-- A write that reaches its register (R106): a violation changes only the count; an accepted write is
stored and has its effects.  With the management plane in reset there is no fabric. -/
def State.writeCore (s : State) (req a : Nat) (v : Word) : State :=
  if !s.mpUp then s
  else if !s.writeOk req a v then s.violate req
  else (s.store a v).effect req a (s.reg a) v

/-! ### The set-point leat (R28, R29, R103, R455) -/

/-- The control arm serves the control plane and the always-on block, the data arm the data plane; the
fabric serves the management plane itself. -/
def onData (a : Nat) : Bool := decide (planeOf a = .data)
def onLeat (a : Nat) : Bool := decide (planeOf a ≠ .mgmt)

def State.arm (s : State) (d : Bool) : List LeatReq := if d then s.fab.dat else s.fab.ctl
def State.setArm (s : State) (d : Bool) (q : List LeatReq) : State :=
  { s with fab := if d then { s.fab with dat := q } else { s.fab with ctl := q } }

/-- A caddy is being loaded: host writes are held off (R93). -/
def State.loading (s : State) : Bool := decide (s.caddy.phase = 1) || decide (s.caddy.phase = 2)

/-- A request enters its arm, or is held while its arm is full or earlier requests of its kind are held
(R28). (DEDUCED, log entry 15.) -/
def State.enqueue (s : State) (r : LeatReq) : State :=
  let d := onData r.addr
  if (s.arm d).length < 64 && !(s.fab.held.any (fun q => onLeat q.addr && (onData q.addr == d))) then
    s.setArm d (s.arm d ++ [r])
  else { s with fab := { s.fab with held := s.fab.held ++ [r] } }

/-- The oldest held request for an arm enters it when it has room. (DEDUCED, log entry 15.) -/
def State.unhold (s : State) (d : Bool) : State :=
  match s.fab.held.find? (fun q => onLeat q.addr && (onData q.addr == d)) with
  | some r =>
    if (s.arm d).length < 64 then
      State.setArm { s with fab := { s.fab with held := s.fab.held.erase r } } d (s.arm d ++ [r])
    else s
  | none => s

/-- Registers of the control arm do not answer during a lockstep hold (R103, R455). -/
def State.armWaits (s : State) (d : Bool) : Bool := !d && s.on REL_STATUS_HOLD

/-- A write for this register has to wait behind other requests of its arm (R28). -/
def State.waitsBehind (s : State) (a : Nat) : Bool :=
  onLeat a && (s.armWaits (onData a) || !(s.arm (onData a)).isEmpty ||
    s.fab.held.any (fun q => onLeat q.addr && (onData q.addr == onData a)))

/-- A request at the front of an arm reaches its register; none does while a load holds host requests off
(R28, R29, R93). -/
def State.deliver (s : State) (d : Bool) : State :=
  if !s.mpUp || s.armWaits d || s.loading then s
  else match s.arm d with
    | [] => s
    | r :: rest =>
      let t := (s.setArm d rest).unhold d
      match r.val with
      | some v => t.writeCore r.requester r.addr v
      | none =>
        let x := t.readAt r.requester r.addr
        { x.2 with fab := { x.2.fab with replies := x.2.fab.replies ++
          [{ requester := r.requester, addr := r.addr, txn := r.txn, idx := r.idx, value := x.1 }] } }

/-- Every request that entered an arm so far reaches its register. -/
def State.drain (s : State) (d : Bool) : State :=
  (List.range ((s.arm d).length + s.fab.held.length)).foldl (fun t _ => t.deliver d) s

/-! ### Host reads in progress -/

/-- A value of a host read has come. -/
def State.txnGot (s : State) (id idx : Nat) (w : Word) : State :=
  { s with fab := { s.fab with
      txns := s.fab.txns.map (fun t => if t.id = id then { t with got := t.got ++ [(idx, w)] } else t) } }

/-- A read of a host: behind a write of the same requester that a load holds off, at once in the
management plane, else a request on its arm. -/
def State.issueRead (s : State) (req a txn idx : Nat) : State :=
  if s.loading && s.fab.held.any (fun q => q.requester = req) then
    { s with fab := { s.fab with held := s.fab.held ++ [{ requester := req, addr := a, txn := txn, idx := idx }] } }
  else if onLeat a then s.enqueue { requester := req, addr := a, txn := txn, idx := idx }
  else
    let r := s.readAt req a
    r.2.txnGot txn idx r.1

/-- A transaction starts and issues its reads, in order. -/
def State.txnStart (s : State) (req : Nat) (kind : TxnKind) (addrs : List Nat) (shape : List (Nat × Bool)) :
    State × Nat :=
  let id := s.fab.nextTxn
  let t : State := { s with fab := { s.fab with
    nextTxn := id + 1
    txns := s.fab.txns ++ [{ id := id, requester := req, kind := kind, need := addrs.length, shape := shape }] } }
  ((addrs.zipIdx).foldl (fun (u : State) p => u.issueRead req p.1 id p.2) t, id)

/-- The values of a transaction in their order. -/
def Txn.values (t : Txn) : List Word :=
  (List.range t.need).map (fun i => ((t.got.find? (fun p => p.1 = i)).map (fun p => p.2)).getD 0)

/-- A read of a requester: answered at once where nothing waits before it, else by the reply port when its
turn has come (R28, R29). -/
def State.readVia (s : State) (req a : Nat) : State :=
  if s.mpUp && (s.waitsBehind a || (s.loading && s.fab.held.any (fun q => q.requester = req))) then
    (s.txnStart req .direct [a] []).1
  else
    let r := s.readAt req a
    r.2.send (.reply req r.1)

end Sys2Proof.Machine
end

