-- ==== Sys2Proof/Machine/CaddyFile.lean ====
section
/-! DEFINITION. The caddy image in the configuration flash (R81 to R90, R96): the container, the checks
and their reason codes, and the choice of a slot. -/

namespace Sys2Proof.Machine

open Reg

/-! ### The flash (R81, R82) -/

/-- First byte of a slot, and its size. -/
def slotBase (n : Nat) : Nat := n * 0x04000000
def slotSize : Nat := 0x04000000

/-- A byte of the flash; an erased byte is 0xFF. (DESIGN CHOICE, log entry 4.) -/
def State.flashByte (s : State) (a : Nat) : Byte := tget (fun _ => (0xFF : Byte)) s.nv.flash a

/-- `len` bytes of slot `n` from offset `off`. -/
def State.slotBytes (s : State) (n off len : Nat) : List Byte :=
  (List.range len).map (fun i => s.flashByte (slotBase n + off + i))

/-- A little-endian field of slot `n`. -/
def State.slotNat (s : State) (n off len : Nat) : Nat := ofLe (s.slotBytes n off len)

/-- Program a byte: bits go from 1 to 0 only. -/
def State.flashProg (s : State) (a : Nat) (b : Byte) : State :=
  let f := tset (fun _ => (0xFF : Byte)) s.nv.flash a (s.flashByte a &&& b)
  { s with nv := { s.nv with flash := f } }

/-- Erase the 64 KiB sector that holds an address. -/
def State.flashErase (s : State) (a : Nat) : State :=
  let f := tkeep (fun k => decide (k / 65536 ≠ a / 65536)) s.nv.flash
  { s with nv := { s.nv with flash := f } }

/-! ### Header, section table, signature block (R83 to R86) -/

def State.imgCount (s : State) (n : Nat) : Nat := s.slotNat n 6 2
def State.imgLen (s : State) (n : Nat) : Nat := s.slotNat n 8 4
def State.imgSeq (s : State) (n : Nat) : Nat := s.slotNat n 12 4

/-- Start of the signature block: the last 128 bytes. -/
def State.imgSig (s : State) (n : Nat) : Nat := s.imgLen n - 128
def State.imgKey (s : State) (n : Nat) : Nat := s.slotNat n (s.imgSig n + 4) 1

/-- Entry `i` of the section table. -/
def State.imgSection (s : State) (n i : Nat) : Section :=
  let e := s.slotBytes n (64 + 32 * i) 32
  { type := ofLe (slice 0 1 e), inst := ofLe (slice 1 1 e), version := ofLe (slice 2 2 e)
    offset := ofLe (slice 4 4 e), length := ofLe (slice 8 4 e), digest := slice 16 16 e }

/-- The section table of slot `n`. -/
def State.imgSections (s : State) (n : Nat) : List Section := (List.range (s.imgCount n)).map (s.imgSection n)

/-- The body of a section. -/
def State.sectionBody (s : State) (n : Nat) (x : Section) : List Byte := s.slotBytes n x.offset x.length

def zeros (l : List Byte) : Bool := l.all (fun b => decide (b = 0))

/-- TYPE and INSTANCE are of the table of R85. -/
def typeOk (x : Section) : Bool :=
  if x.type = 3 then decide (x.inst < 16) || decide (x.inst = 255)
  else if x.type = 5 ∨ x.type = 7 then decide (x.inst < 16)
  else decide (1 ≤ x.type) && decide (x.type ≤ 9) && decide (x.inst = 255)

/-- Two entries with bytes in common (R84). -/
def overlap (a b : Section) : Bool :=
  decide (a.length ≠ 0) && decide (b.length ≠ 0) && decide (a.offset < b.offset + b.length) &&
    decide (b.offset < a.offset + a.length)

/-- Every two entries of the table satisfy R84. -/
def pairsOk : List Section → Bool
  | [] => true
  | a :: t => t.all (fun b => !overlap a b && !(decide (a.type = b.type) && decide (a.inst = b.inst))) && pairsOk t

/-- DIGEST of a body of LENGTH 0 (R84). -/
def emptyDigest : List Byte := (sha256 []).take 16

/-- Section table and signature block are well formed (check 7 of R89). (DESIGN CHOICE, log entry 29.) -/
def State.tableOk (s : State) (n : Nat) : Bool :=
  let c := s.imgCount n
  let sig := s.imgSig n
  let l := s.imgSections n
  decide (1 ≤ c) && decide (c ≤ 64) &&
    l.all (fun x => typeOk x && decide (x.offset % 16 = 0) && decide (64 + 32 * c ≤ x.offset) &&
      decide (x.offset + x.length ≤ sig) && (decide (x.length ≠ 0) || decide (x.digest = emptyDigest))) &&
    (List.range c).all (fun i => zeros (s.slotBytes n (64 + 32 * i + 12) 4)) && pairsOk l &&
    decide (s.slotBytes n sig 4 = [0x4B, 0x44, 0x53, 0x47]) && decide (s.imgKey n < 4) &&
    zeros (s.slotBytes n (sig + 5) 3) && zeros (s.slotBytes n (sig + 104) 24)

/-- The key slot's hash, 32 bytes. -/
def State.keyHashBytes (s : State) (k : Nat) : List Byte :=
  ((List.range 8).map (fun i => leBytes 4 (tget (fun _ => (0 : Word)) s.nv.keyHash (8 * k + i)).toNat)).flatten

/-- Where reads of slot `n` fail: 0 nowhere, 1 in the header, 2 in the section table or the signature
block, 3 in the sections (R89). -/
def State.slotBad (s : State) (n : Nat) : Nat := tget (fun _ => 0) s.nv.bad n

/-- What the loader finds of the flash: whether it runs in 8D-8D-8D, and where reads of the slots fail
(R81, R89). -/
def State.flashFacts (s : State) (octal : Bool) (badA badB : Nat) : State :=
  { s with nv := { s.nv with octal := octal, bad := [(0, badA), (1, badB)] } }

/-- Checks 1 to 11 of R89 in their order; 0 when the slot passes, 0x0F where a read fails before that.
(DESIGN CHOICE, log entry 29.) -/
def State.headReason (s : State) (n : Nat) : Nat :=
  let magic := s.slotBytes n 0 4
  let len := s.imgLen n
  let key := s.imgKey n
  if s.slotBad n = 1 then 0x0F
  else if magic = [0, 0, 0, 0] then 0x10
  else if magic ≠ [0x4B, 0x44, 0x43, 0x59] then 0x01
  else if crc32 (s.slotBytes n 0 60) ≠ s.slotNat n 60 4 then 0x02
  else if s.slotNat n 4 2 ≠ 1 ∨ !zeros (s.slotBytes n 18 2) ∨ !zeros (s.slotBytes n 24 36) then 0x03
  else if s.slotNat n 16 2 ≠ 0x0A01 then 0x04
  else if len % 16 ≠ 0 ∨ len < 192 + 32 * s.imgCount n ∨ slotSize < len then 0x05
  else if s.imgSeq n = 0 ∨ s.imgSeq n = 0xFFFFFFFF then 0x06
  else if s.slotBad n = 2 then 0x0F
  else if !s.tableOk n then 0x07
  else if !([1, 2, 6, 9].all (fun ty => (s.imgSections n).any (fun x => x.type = ty))) then 0x08
  else if !s.nv.keyProg.testBit key then 0x09
  else if s.nv.keyRev.testBit key then 0x0A
  else if sha256 (s.slotBytes n (s.imgSig n + 8) 32) ≠ s.keyHashBytes key then 0x0B
  else 0

/-- The signed message (R86). -/
def State.imgMessage (s : State) (n : Nat) : List Byte := s.slotBytes n 0 (s.imgSig n)

/-- Check 12. -/
def State.sigReason (s : State) (n : Nat) : Nat :=
  if s.slotBad n ≠ 0 then 0x0F
  else if ed25519Verify (s.slotBytes n (s.imgSig n + 8) 32) (s.imgMessage n) (s.slotBytes n (s.imgSig n + 40) 64)
    then 0
  else 0x0C

/-! ### Slot status (R89, R90) -/

/-- Record 0xC001 for a slot that fails by key or signature. -/
def State.keyRecord (s : State) (n reason : Nat) : State :=
  if 0x09 ≤ reason ∧ reason ≤ 0x0C then s.ev portCaddy 0xC001 n reason (s.imgKey n) else s

/-- Show the outcome of the checks on a slot; the SEQUENCE of one that passed check 6.  SECTIONS shows
SECTION_COUNT where the header is sound (DESIGN CHOICE). (DESIGN CHOICE, log entry 28.) -/
def State.slotShow (s : State) (n reason : Nat) : State :=
  let a := s.setReg (CADDY_SLOT_STATUS n) 0
  let b := ((a.put (CADDY_SLOT_STATUS_REASON n) reason).putB (CADDY_SLOT_STATUS_CHECKED n) true).putB
    (CADDY_SLOT_STATUS_VALID n) (decide (reason = 0))
  let sound := decide (reason ∉ [0x01, 0x02, 0x10]) && !(decide (reason = 0x0F) && decide (s.slotBad n = 1))
  let c := if sound then b.put (CADDY_SLOT_STATUS_SECTIONS n) (s.imgCount n) else b
  let d := c.setReg (CADDY_SLOT_SEQ n)
    (if sound && decide (reason ∉ [0x03, 0x04, 0x05, 0x06]) then BitVec.ofNat 32 (s.imgSeq n) else 0)
  d.keyRecord n reason

/-- Checks 1 to 11 on a slot. -/
def State.headCheck (s : State) (n : Nat) : State := s.slotShow n (s.headReason n)

/-- Checks 1 to 12 on a slot that a caddy write has filled, or that a swap names (R96, R97). -/
def State.slotReason (s : State) (n : Nat) : Nat :=
  let r := s.headReason n
  if r = 0 then s.sigReason n else r

def State.slotCheck (s : State) (n : Nat) : State := s.slotShow n (s.slotReason n)

/-- A slot has passed every check run so far. -/
def State.slotValid (s : State) (n : Nat) : Bool := s.on (CADDY_SLOT_STATUS_VALID n)

end Sys2Proof.Machine
end

