-- ==== Sys2Proof/Machine/CaddySections.lean ====
section
/-! DEFINITION. What each section of a caddy puts into its block, and the field rules whose breach
rejects it (R85, R93, R218 to R225, R231 to R234, R252, R253, R270 to R274, R290, R292, R299, R414, R415,
R422).  A breach counts as a violation of the loader, as a refused register write does. -/

namespace Sys2Proof.Machine

open Reg

/-! ### Records -/

/-- Records of `n` bytes, as many as `l` holds whole. -/
def chunks (n : Nat) (l : List Byte) : List (List Byte) := (List.range (l.length / n)).map (fun i => slice (n * i) n l)

/-- A little-endian field of a record, and a word. -/
def fieldNat (r : List Byte) (i n : Nat) : Nat := ofLe (slice i n r)
def fieldWord (r : List Byte) (i : Nat) : Word := BitVec.ofNat 32 (fieldNat r i 4)

/-- A violation of the loader unless the rule holds. -/
def State.must (s : State) (ok : Bool) : State := if ok then s else s.violate 2

/-- Offset and count of descriptor `n` of a section. -/
def descOf (b : List Byte) (n : Nat) : Nat × Nat := (fieldNat b (8 * n) 4, fieldNat b (8 * n + 4) 4)

/-- The sub-tables fit: counts within their limits, inside the section, behind the descriptors, and no
two overlap (R270, R414). (DEDUCED, log entry 30.) -/
def tablesOk (b : List Byte) (head : Nat) (dims : List (Nat × Nat)) : Bool :=
  let l := (dims.zipIdx).map (fun p => let d := descOf b p.2; (d.1, d.2 * p.1.1, d.2 ≤ p.1.2 && d.1 + d.2 * p.1.1 ≤ b.length &&
    (d.2 = 0 || head ≤ d.1)))
  l.all (fun x => x.2.2) &&
    ((l.zipIdx).all (fun x => (l.zipIdx).all (fun y => x.2 = y.2 || x.1.2.1 = 0 || y.1.2.1 = 0 ||
      decide (x.1.1 + x.1.2.1 ≤ y.1.1) || decide (y.1.1 + y.1.2.1 ≤ x.1.1))))

/-- The records of sub-table `n`, `size` bytes each. -/
def subRecords (b : List Byte) (n size : Nat) : List (List Byte) :=
  let d := descOf b n
  chunks size (slice d.1 (d.2 * size) b)

/-- The valve channel whose register an address is, while a work item of the channel runs. -/
def State.busyChan (s : State) (a : Nat) : Option (Nat × Nat) :=
  match instOf 0x200000 0x400 12 a with
  | some p =>
    let v := 8 * p.1 + p.2 / 0x40
    if p.2 < 0x200 && s.chanBusy v then some (v, p.2 % 0x40) else none
  | none => none

/-- The fan channel whose register an address is, while a stall or short run of the channel goes on. -/
def State.busyFan (s : State) (a : Nat) : Option (Nat × Nat) :=
  (instOf 0x280000 0x40 16 a).bind (fun p => if (s.fan p.1).run = 0 then none else some p)

/-- A write of the loader: a word for a valve channel whose work item runs is checked now and written between
two of its items (R98), one for a fan in a stall or short run when the run ends (R387). -/
def State.loaderWrite (s : State) (a : Nat) (w : Word) : State :=
  match s.busyChan a, s.busyFan a with
  | some p, _ =>
    if s.writeOk 2 a w then s.setChan p.1 { s.chan p.1 with table := (s.chan p.1).table ++ [(p.2, w)] } else s.violate 2
  | none, some p =>
    if s.writeOk 2 a w then s.setFan p.1 { s.fan p.1 with table := (s.fan p.1).table ++ [(p.2, w)] } else s.violate 2
  | none, none => s.writeCore 2 a w

/-- The control-plane tables load (R98, R384). -/
def State.putControl (s : State) (l : List (Nat × Word)) : State :=
  (s.each l (fun t p => t.loaderWrite p.1 p.2)).each (List.range 16) State.fanTablesLoad

/-- The loader writes a register image; an address outside the section's windows is a breach. -/
def State.putImage (s : State) (allowed : Nat → Bool) (l : List (Nat × Word)) : State :=
  s.each l (fun t p => if allowed p.1 then t.loaderWrite p.1 p.2 else t.violate 2)

/-- Records of an 8-byte register image. -/
def imageOf (l : List (List Byte)) : List (Nat × Word) := l.map (fun r => (fieldNat r 0 4, fieldWord r 4))

/-! ### Crop tables (R232, R252) -/

/-- Air's share of the conduction bound: 0.75 (RHO_B + RHO_M M) c_g as the model computes it. -/
def cropDiffusivity (q : CropF) (m : F32) : F32 :=
  mdiv (q 104) (mmul (mmul (fofRat 3 4) (madd (q 68) (mmul (q 72) m))) (grainHeat q m))

/-- An entry keeps R232 and, when it is valid, R252. -/
def cropOk (r : List Byte) : Bool :=
  let q : CropF := fun off => fieldWord r off
  decide (fieldNat r 16 1 ≤ 1) && decide (fieldNat r 17 1 ≤ 3) && decide (fieldNat r 18 1 ≤ 1) &&
    decide (fieldNat r 19 1 ≤ 2) && zeros (slice 160 96 r) && (decide (fieldNat r 16 1 = 0) ||
    ((List.range 35).all (fun i => fIsFinite (q (20 + 4 * i))) &&
     (List.range 132).all (fun i => fle (cropDiffusivity q (fofRat i 2)) (fofRat 1 1000000)) &&
     fle (fofRat 1 20) (q 40) && fle (q 40) (fofNat 2) && fle (fofRat 1 5) (q 76) && fle (q 76) (fofRat 4 5)))

/-- Every grain cell's crop is defined, and every body's DEFAULT_CROP where there is a crop table at all (R230,
R232). (DEDUCED, log entry 92.) -/
def State.cropsOk (s : State) : Bool :=
  (List.range 16).all (fun k => !s.on (MILL_BODY_CFG_PRESENT k) ||
    ((s.body k).cells.all (fun p => !p.2.grain || s.cropValid (p.2.cf % 32)) &&
      (decide (s.mill.crops = []) || s.cropValid (s.get (MILL_BODY_CFG_DEFAULT_CROP k)))))

/-- The crop tables. -/
def State.putCrops (s : State) (b : List Byte) : State :=
  if b.length ≠ 8192 ∨ !((chunks 256 b).all cropOk) then s.violate 2
  else
    let w := ((chunks 4 b).zipIdx).foldl (fun (t : List (Nat × Word)) p => tset (fun _ => 0) t p.2 (fieldWord p.1 0)) []
    let t : State := { s with mill := { s.mill with crops := w } }
    t.setReg MILL_CROP_VALID (BitVec.ofNat 32
      (((List.range 32).map (fun n => if t.cropValid n then 2 ^ n else 0)).sum))

def State.dropCrops (s : State) : State :=
  State.setReg { s with mill := { s.mill with crops := [] } } MILL_CROP_VALID 0

/-! ### Body geometry (R216 to R225, R231, R233) -/

/-- Cells of the field region. -/
def fieldCells : Nat := 31457280

/-- A geometry section's numbers. -/
structure Geometry where
  type : Nat
  crop : Nat
  step : Nat
  n1 : Nat
  n2 : Nat
  nz : Nat
  e1 : Nat
  e2 : Nat
  ez : Nat
  azimuth : F32
  wallU : F32
  zCool : Nat
  zTemper : Nat
  reserve : Nat
  rings : List Nat
  /-- property runs: count and word -/
  runs : List (Nat × Nat)
deriving DecidableEq, Repr

def geometryOf (b : List Byte) : Geometry :=
  let nz := fieldNat b 8 2
  let ty := fieldNat b 0 1
  let r := if ty = 0 then 0 else 2 * nz
  { type := ty, crop := fieldNat b 1 1, step := fieldNat b 2 2
    n1 := fieldNat b 4 2, n2 := fieldNat b 6 2, nz := nz
    e1 := fieldNat b 10 2, e2 := fieldNat b 12 2, ez := fieldNat b 14 2
    azimuth := fieldWord b 16, wallU := fieldWord b 20, zCool := fieldNat b 24 2, zTemper := fieldNat b 26 2
    reserve := fieldNat b 28 4
    rings := (chunks 2 (slice 64 r b)).map (fun x => ofLe x)
    runs := (chunks 8 (b.drop (64 + r))).map (fun x => (fieldNat x 0 4, fieldNat x 4 4)) }

def Geometry.count (g : Geometry) : Nat := g.n1 * g.n2 * g.nz
def Geometry.alloc (g : Geometry) : Nat := (g.count + g.reserve + 255) / 256 * 256

/-- The outer arc 2π N2 E2 / N1 lies within 20 to 500 mm, with π to 14 decimals, which decides it for
every grid of R218. -/
def Geometry.arcOk (g : Geometry) : Bool :=
  decide (20 * g.n1 * 10 ^ 14 ≤ 2 * 314159265358979 * g.n2 * g.e2) &&
    decide (2 * 314159265358980 * g.n2 * g.e2 ≤ 500 * g.n1 * 10 ^ 14)

/-- The section keeps R218, R220, R221 and R233. -/
def Geometry.ok (g : Geometry) (b : List Byte) : Bool :=
  let edge (e : Nat) : Bool := decide (20 ≤ e) && decide (e ≤ 500)
  let dim (n hi : Nat) : Bool := decide (1 ≤ n) && decide (n ≤ hi)
  decide (64 ≤ b.length) && decide (g.type ≤ 3) && decide (g.crop < 32) && dim g.step 60 && dim g.n1 1024 && dim g.n2 1024 &&
    dim g.nz 2048 && edge g.e2 && edge g.ez && fIsFinite g.azimuth && fle 0 g.azimuth && flt g.azimuth (fofNat 360) &&
    fIsFinite g.wallU && zeros (slice 32 32 b) &&
    (if g.type = 0 then
      edge g.e1 && dim g.zCool g.zTemper && decide (g.zTemper + 1 ≤ g.nz)
    else
      decide (g.e1 = 0) && decide (8 ≤ g.n1) && decide (g.n1 % 8 = 0) && g.arcOk && decide (g.zCool = 0) &&
        decide (g.zTemper = 0) && decide (g.rings.length = g.nz) && g.rings.all (fun r => dim r g.n2)) &&
    decide ((b.length - 64 - (if g.type = 0 then 0 else 2 * g.nz)) % 8 = 0) &&
    decide ((g.runs.map (fun p => p.1)).sum = g.count) && g.runs.all (fun p => decide (p.2 < 65536))

/-- The bodies that exist. -/
def State.bodies (s : State) : List Nat := (List.range 16).filter (fun k => s.on (MILL_BODY_CFG_PRESENT k))

/-- Where body `k` goes: in ascending order at a load; in a swap in its own place, or in the lowest free
run for an added body (R222, R224, R225). -/
def State.placeBody (s : State) (boot : Bool) (k alloc : Nat) : Option Nat :=
  let others := (s.bodies.filter (fun j => j ≠ k)).map (fun j => ((s.body j).base, (s.body j).alloc))
  let free (c : Nat) : Bool := decide (c + alloc ≤ fieldCells) &&
    others.all (fun o => decide (c + alloc ≤ o.1) || decide (o.1 + o.2 ≤ c))
  if boot then
    let c := ((s.bodies.filter (fun j => j < k)).map (fun j => (s.body j).alloc)).sum
    if c + alloc ≤ fieldCells then some c else none
  else if k ∈ s.bodies then (if free (s.body k).base then some (s.body k).base else none)
  else ((0 :: others.map (fun o => o.1 + o.2)).filter free).min?

/-- The property word of a cell, from the runs (R231, R233). -/
def propAt : List (Nat × Nat) → Nat → Nat
  | [], _ => 0x8080
  | p :: t, i => if i < p.1 then p.2 else propAt t (i - p.1)

/-- Void cells, and the boundary flags and property words of all others (R229 to R231). -/
def State.emptyCells (s : State) (k : Nat) (runs : List (Nat × Nat)) : List (Nat × Cell) :=
  let g := s.grid k
  let f : Field := flagBoundary g ((List.range g.count).map (fun i =>
    (i, (if g.isVoid i then Cell.voidCell else ({} : Cell)).live)))
  (List.range g.count).foldl (fun (t : List (Nat × Cell)) i =>
    tset (fun _ => ({} : Cell)) t i (if g.isVoid i then Cell.voidCell else { cf := (f.at i).flags * 32, prop := propAt runs i })) []

/-- The registers of a body's geometry. -/
def State.geometryRegs (s : State) (k base : Nat) (g : Geometry) : State :=
  let a := s.setReg (MILL_BODY_CFG k) (BitVec.ofNat 32 (2 ^ 31 + g.type * 2 ^ 29 + g.crop * 2 ^ 24 + g.step))
  let b := a.setReg (MILL_GRID_DIM k) (BitVec.ofNat 32 ((g.nz - 1) * 2 ^ 20 + (g.n2 - 1) * 2 ^ 10 + (g.n1 - 1)))
  let c := b.setReg (MILL_GRID_EDGE k) (BitVec.ofNat 32 (g.e1 * 2 ^ 20 + g.e2 * 2 ^ 10 + g.ez))
  ((c.put (MILL_BODY_BASE_BASE_256 k) (base / 256)).put (MILL_BODY_CELLS_CELLS k) g.count).put
    (MILL_BODY_ALLOC_ALLOC_256 k) (g.alloc / 256)

/-- Quads that work for a body are free, and its forecast run ends. -/
def State.workDrop (s : State) (k : Nat) : State :=
  { s with mill := { s.mill with
      quads := s.mill.quads.filter (fun (p : Nat × Work) => match p.2 with
        | .tile j _ => decide (j ≠ k)
        | .solve j => decide (j ≠ k)
        | .forecast j => decide (j ≠ k)
        | .snapshot => true)
      forecasts := s.mill.forecasts.filter (fun p => decide (p.1 ≠ k))
      snapWait := s.mill.snapWait.filter (fun j => decide (j ≠ k)) } }

/-- A body takes its geometry; its cells are empty until a snapshot or a cold start fills them. -/
def State.putGeometry (s : State) (boot : Bool) (k : Nat) (b digest : List Byte) : State :=
  let g := geometryOf b
  match g.ok b, s.placeBody boot k g.alloc with
  | true, some base =>
    let t := s.geometryRegs k base g
    let x := t.body k
    let y : Body := {
      rings := g.rings, azimuth := g.azimuth, wallU := g.wallU, zCool := g.zCool, zTemper := g.zTemper
      reserve := g.reserve, digest := digest, base := base, alloc := g.alloc
      staged := x.staged, stoppedAt := x.stoppedAt, tm := x.tm, heldOn := x.heldOn, ends := x.ends }
    let u := t.setBody k y
    (u.setBody k { u.body k with cells := u.emptyCells k g.runs }).workDrop k
  | _, _ => s.violate 2

/-- A swap removes a body; its entries read invalid (R225, R291). -/
def State.dropGeometry (s : State) (k : Nat) : State :=
  let t := (s.setReg (MILL_BODY_CFG k) 0).setBst k bAbsent
  let v := (t.put (MILL_BODY_CELLS_CELLS k) 0).put (MILL_BODY_ALLOC_ALLOC_256 k) 0
  let u := (v.workDrop k).each (s.smap.pubs.filter (fun r => r.body = k && decide (r.kind ≠ 0))) (fun x r =>
    x.publish r.entry fNaN fNaN (tickOf x.tim.dp) { valid := false, kind := r.kind, body := k })
  { u.setBody k {} with caddy := { u.caddy with swapPaused := u.caddy.swapPaused.filter (fun j => j ≠ k) } }

/-! ### Millstone microcode (R234) -/

def State.putMicrocode (s : State) (inst version : Nat) : State :=
  if version ≠ 0x0A01 then s.violate 2
  else { s with mill := { s.mill with microcode := inst :: s.mill.microcode.filter (fun j => j ≠ inst) } }

def State.dropMicrocode (s : State) (inst : Nat) : State :=
  { s with mill := { s.mill with microcode := s.mill.microcode.filter (fun j => j ≠ inst) } }

/-- The set of bodies keeps R222, R223, R230 and R234. -/
def State.bodiesOk (s : State) : Bool :=
  let d := s.demand
  decide ((s.bodies.map (fun k => (s.body k).alloc)).sum ≤ fieldCells) && decide (d.1 ≤ 20000000 * d.2) &&
    s.bodies.all (fun k => s.mill.microcode.any (fun j => j = k || j = 255)) && s.cropsOk

/-! ### Sensor map (R253, R270 to R274, R290, R292) -/

/-- Sizes and largest counts of the sub-tables 0 to 8; the others are 0. -/
def smapDims : List (Nat × Nat) :=
  [(8, 8192), (64, 32), (16, 6120), (32, 16384), (16, 992), (4, 256), (32, 64), (16, 1024), (0, 0)]

/-- Addresses that the register image may hold. -/
def smapAddr (a : Nat) : Bool :=
  (decide (0x300000 ≤ a) && decide (a < 0x341000)) ||
    (match instOf 0x400000 0x4000 16 a with
      | some p => decide (0x038 ≤ p.2) && decide (p.2 ≤ 0x05C)
      | none => false) ||
    (decide (0x440020 ≤ a) && decide (a ≤ 0x44003C)) || decide (a = MILL_FCST_CFG)

/-- A SOURCE word (R271). -/
def sourceOk (w : Word) : Bool :=
  let c := bits w 31 28
  if c = 0 then decide (bits w 27 6 = 0)
  else if c = 1 then decide (bits w 27 21 = 0) && decide (bits w 20 16 < 24) && decide (bits w 15 8 < 255) &&
    decide (bits w 7 2 = 0)
  else if c = 2 then decide (bits w 27 8 = 0)
  else if c = 3 then decide (bits w 27 10 = 0) && decide (992 ≤ bits w 9 0) && decide (bits w 9 0 ≤ 1013)
  else false

/-- A word of the actuation map (R273). -/
def actOk (w : Word) : Bool :=
  let c := bits w 31 28
  if c = 0 then decide (bits w 27 8 = 0) && decide (bits w 6 0 < 96)
  else if c = 1 then decide (bits w 27 5 = 0)
  else if c = 2 then decide (bits w 27 3 = 0)
  else if c = 3 then decide (bits w 27 2 = 0)
  else if c = 4 then decide (bits w 27 4 = 0)
  else decide (c = 15)

def calOf (r : List Byte) : Nat × FieldCal :=
  (fieldNat r 0 1, {
    sigmaSet := fieldNat r 1 1 % 2 = 1, ntcSet := fieldNat r 1 1 / 2 % 2 = 1
    a := fieldWord r 4, b := fieldWord r 8, c := fieldWord r 12, c0 := fieldWord r 16
    yopen := (List.range 6).map (fun i => fieldWord r (20 + 4 * i)), sigma := fieldWord r 44 })

def nodeOf (r : List Byte) : NodeRec :=
  { p := fieldNat r 0 1, addr := fieldNat r 1 1, pollDiv := fieldNat r 2 1, uid := fieldNat r 4 8
    periodMs := fieldNat r 12 2 }

def anchorOf (r : List Byte) : Anchor :=
  { source := fieldWord r 0, body := fieldNat r 4 1, qty := fieldNat r 5 1, gain := fieldNat r 6 1
    noHold := fieldNat r 7 1 % 2 = 1, cell := fieldNat r 8 4, rh := fieldNat r 12 2, rv := fieldNat r 14 2
    sigma := fieldWord r 16, bias := fieldWord r 20, gate := fieldWord r 24 }

def pubOf (r : List Byte) : Pub :=
  { entry := fieldNat r 0 2, kind := fieldNat r 2 1, body := fieldNat r 3 1, arg0 := fieldWord r 4
    qty := fieldNat r 8 1, firm := fieldNat r 9 1 % 2 = 1 }

def boundOf (r : List Byte) : AirBound :=
  { kind := fieldNat r 0 1, body := fieldNat r 1 1, face := fieldNat r 2 1, sEntry := fieldNat r 3 1
    tEntry := fieldNat r 4 2, n1lo := fieldNat r 8 2, n1hi := fieldNat r 10 2, n2lo := fieldNat r 12 2
    n2hi := fieldNat r 14 2, n3lo := fieldNat r 16 2, n3hi := fieldNat r 18 2, a0 := fieldWord r 20
    a2 := fieldWord r 24 }

def probeOf (r : List Byte) : Probe :=
  { body := fieldNat r 0 1, probe := fieldNat r 1 1, qty := fieldNat r 2 1, mode := fieldNat r 3 1
    tile := fieldNat r 4 4, horizon := fieldNat r 8 4 }

def calOk (r : List Byte) : Bool := decide (fieldNat r 0 1 < 32) && decide (fieldNat r 1 1 ≤ 3)

/-- DEDUCED, log entry 87. -/
def nodeOk (r : List Byte) : Bool :=
  let n := nodeOf r
  decide (n.p < 24) && decide (n.addr < 255) && decide (1 ≤ n.pollDiv) && decide (100 ≤ n.periodMs)

def anchorOk (r : List Byte) : Bool :=
  let a := anchorOf r
  sourceOk a.source && decide (a.body < 16) && decide (a.qty ≤ 5) && decide (fieldNat r 7 1 ≤ 1) &&
    zeros (slice 28 4 r) && !(fIsNaN a.sigma && (bits a.source 31 28 = 1 || bits a.source 31 28 = 2))

def pubOk (r : List Byte) : Bool :=
  let p := pubOf r
  decide (p.entry ≤ 991) && decide (p.kind ≤ 6) && decide (p.body < 16) && decide (p.qty ≤ 7) &&
    decide (fieldNat r 9 1 ≤ 1) && zeros (slice 10 6 r) && !(p.firm && (p.kind = 0 || p.kind = 6)) &&
    (decide (p.kind ≠ 0) || sourceOk p.arg0)

def State.boundOk (s : State) (r : List Byte) : Bool :=
  let b := boundOf r
  decide (b.kind ≤ 2) && decide (b.body < 16) && decide (b.face ≤ 5) && zeros (slice 6 2 r) && zeros (slice 28 4 r) &&
    !(s.on (MILL_BODY_CFG_PRESENT b.body) && (s.grid b.body).cyl && decide (2 ≤ b.face) && decide (b.face ≤ 4))

def probeOk (r : List Byte) : Bool :=
  let p := probeOf r
  decide (p.body < 16) && decide (p.probe < 64) && decide (p.qty ≤ 7) && decide (p.mode ≤ 1) &&
    decide (60 ≤ p.horizon) && decide (p.horizon ≤ 14400)

/-- The section keeps its field rules. (DEDUCED, log entry 30.) -/
def State.smapOk (s : State) (b : List Byte) : Bool :=
  let pubs := (subRecords b 4 16).map pubOf
  decide (128 ≤ b.length) && tablesOk b 128 smapDims && zeros (slice 72 56 b) &&
    (subRecords b 1 64).all calOk && (subRecords b 2 16).all nodeOk && (subRecords b 3 32).all anchorOk &&
    (subRecords b 4 16).all pubOk && (subRecords b 5 4).all (fun r => actOk (fieldWord r 0)) &&
    (subRecords b 6 32).all s.boundOk && (subRecords b 7 16).all probeOk &&
    decide ((pubs.map (fun p => p.entry)).eraseDups.length = pubs.length)

def smapOf (b : List Byte) : SensorMap :=
  { cal := (subRecords b 1 64).foldl (fun (t : List (Nat × FieldCal)) r => tset (fun _ => {}) t (calOf r).1 (calOf r).2) []
    nodes := (subRecords b 2 16).map nodeOf
    anchors := (subRecords b 3 32).map anchorOf
    pubs := (subRecords b 4 16).map pubOf
    acts := (subRecords b 5 4).map (fun r => fieldWord r 0)
    bounds := (subRecords b 6 32).map boundOf
    probes := (subRecords b 7 16).map probeOf }

/-- ANCHORED is set on every cell that an anchor influences, and on no other (R229, R274). -/
def State.anchorCells (s : State) (k : Nat) : State :=
  let g := s.grid k
  let b := s.body k
  let l := s.smap.anchors.filter (fun a => a.body = k)
  let cells := (List.range g.count).foldl (fun (t : List (Nat × Cell)) i =>
    let c := tget (fun _ => ({} : Cell)) t i
    let hit := l.any (fun a => (g.rho2 a.rh a.rv i a.cell).isSome)
    let fl := c.cf / 32 % 4 + if hit && !g.isVoid i then 4 else 0
    tset (fun _ => ({} : Cell)) t i { c with cf := fl * 32 + c.cf % 32 }) b.cells
  s.setBody k { b with cells := cells }

/-- Entries whose publication record differs from the old map's read invalid (R98). -/
def State.staleEntries (s : State) (old : List Pub) : State :=
  let gone := (old.filter (fun p => p ∉ s.smap.pubs)).map (fun p => p.entry)
  s.each gone (fun t n => t.publish n fNaN fNaN (tickOf t.tim.dp) { valid := false })

/-- The air boundaries of a body, with their places in the map. -/
def boundsOf (l : List AirBound) (k : Nat) : List (AirBound × Nat) := l.zipIdx.filter (fun p => p.1.body = k)

/-- Bodies whose air boundaries a swap has changed solve their field again, as class 0 work (R256). -/
def State.boundsChanged (s : State) (old : List AirBound) : State :=
  s.each (s.bodies.filter (fun k => decide (bRunning ≤ s.bst k) && decide (boundsOf old k ≠ boundsOf s.smap.bounds k)))
    (fun t k => t.solveWant k 0)

/-- The sensor map.  Readings that wait for the old map's anchors are dropped. (DEDUCED, log entry 37.) -/
def State.putSensorMap (s : State) (boot : Bool) (b : List Byte) : State :=
  if !s.smapOk b then s.violate 2
  else
    let old := s.smap.pubs
    let t : State := { s with smap := smapOf b, mill := { s.mill with inbox := [] } }
    let c := t.putImage smapAddr (imageOf (subRecords b 0 8))
    let u := (((c.put MILL_EST_PUBS_PUBLICATIONS c.smap.pubs.length).put MILL_EST_PUBS_ACT_ENTRIES
      c.smap.acts.length).put MILL_PROBE_STATUS_PROBES c.smap.probes.length).each c.bodies State.anchorCells
    if boot then u
    else
      let v := u.each u.bodies (fun x k => x.setBody k { x.body k with
        readings := [], late := [], lastPubs := [], firmPubs := [] })
      ((v.staleEntries old).each (List.range 24) State.sprinRemap).boundsChanged s.smap.bounds

/-! ### Governor slots (R299, R323) -/

/-- The records of a Governor slot section: offset and value; none where a reserved byte is not 0. -/
def slotRecords (b : List Byte) : Option (List (Nat × Word)) :=
  if b.length % 8 = 0 && (chunks 8 b).all (fun r => zeros (slice 2 2 r) && decide (fieldNat r 0 2 < 0x1000) &&
      decide (fieldNat r 0 2 % 4 = 0)) then
    some ((chunks 8 b).map (fun r => (fieldNat r 0 2, fieldWord r 4)))
  else none

/-- The loader writes the records in order. -/
def State.putSlot (s : State) (n : Nat) (b : List Byte) : State :=
  match slotRecords b with
  | none => s.violate 2
  | some l => s.each l (fun t r => t.writeCore 2 (0x100000 + 0x1000 * n + r.1) r.2)

/-- The registers whose change is one of law, dimensions, or input and output selection (R299). -/
def slotConfigs : List Nat :=
  [0x000, 0x004, 0x014] ++ (List.range 8).map (fun j => 0x020 + 4 * j) ++ (List.range 4).map (fun a => 0x050 + 4 * a)

/-- The records of a section change one of those registers.  A register that the section does not list keeps
its value. (DESIGN CHOICE, log entry 138.) -/
def State.configMoves (s : State) (n : Nat) (b : List Byte) : Bool :=
  let t := s.putSlot n b
  slotConfigs.any (fun o => t.reg (0x100000 + 0x1000 * n + o) != s.reg (0x100000 + 0x1000 * n + o))

/-- A section has to wait for the slot to reach OPEN (R98, R303, R323). (DESIGN CHOICE, log entry 138.) -/
def State.slotOpens (s : State) (n : Nat) (b : List Byte) : Bool :=
  s.slotsRun && decide (s.gmode n ≠ gOff) && decide (s.gmode n ≠ gOpen) && s.configMoves n b

/-- The loader asks for OPEN, once per latch. (DESIGN CHOICE, log entry 138.) -/
def State.openForSwap (s : State) (n : Nat) : State :=
  if (s.slot n).bySwap then s
  else (s.setSlot n { s.slot n with swapStep := 1 }).modeRequest n gOpen true

/-- A swap changes a slot's section (R98): coefficients live, the rest once the slot is in OPEN (R323).  A target
that the slot leaves takes its idle source (R212), and a slot whose PRESENT goes to 0 is OFF (R302).
(DESIGN CHOICE, log entry 138.) -/
def State.swapSlot (s : State) (n : Nat) (b : List Byte) : State :=
  if !s.configMoves n b then s.putSlot n b
  else
    let act (t : State) (a : Nat) : Word := t.reg (GOV_ACT_CFG n a)
    let new := s.putSlot n b
    let t := s.each ((List.range 4).filter (fun a => act s a ≠ act new a)) (fun t a => t.idleTarget n a)
    let u := t.putSlot n b
    let v := u.setSlot n { u.slot n with swapStep := if (u.slot n).swapStep = 1 then 2 else 0 }
    if v.on (GOV_SLOT_CFG_PRESENT n) then v
    else if v.gmode n = gOff then v.noRequest n
    else v.enterMode n gOff 3

/-- A swap removes a slot's section (R302). -/
def State.dropSlot (s : State) (n : Nat) : State := (s.govRemove n).putB (GOV_SLOT_CFG_PRESENT n) false

/-! ### Display assets (R414, R415, R422) -/

def dispDims : List (Nat × Nat) := [(8, 64), (2, 768), (2, 96), (1536, 32), (8, 32), (68, 24), (0, 0), (0, 0)]

def dispAddr (a : Nat) : Bool := decide (0x070000 ≤ a) && decide (a ≤ 0x07007F)

/-- A waveform record keeps R422. -/
def waveOk (r : List Byte) : Bool :=
  let n := fieldNat r 2 1
  let q (t : Nat) : Nat := fieldNat r (4 + 16 * t) 16
  decide (fieldNat r 0 1 ≤ 7) && decide (fieldNat r 1 1 ≤ 2) && decide (1 ≤ n) && decide (n ≤ 64) &&
    decide (fieldNat r 3 1 = 0) && (List.range 4).all (fun t =>
      decide (q t < 4 ^ n) && (List.range 64).all (fun m => decide (q t / 4 ^ m % 4 ≠ 3)))

def parseWave (r : List Byte) : Wave :=
  { frames := fieldNat r 2 1, seq0 := fieldNat r 4 16, seq1 := fieldNat r 20 16, seq2 := fieldNat r 36 16
    seq3 := fieldNat r 52 16 }

def bindingOf (r : List Byte) : Binding :=
  { code := fieldNat r 0 2, image := fieldNat r 2 1, prio := fieldNat r 3 1, hold := fieldNat r 4 2 }

def bindingOk (r : List Byte) : Bool := decide (1 ≤ fieldNat r 4 2) && zeros (slice 6 2 r)

/-- The section keeps its field rules. -/
def dispOk (b : List Byte) : Bool :=
  decide (64 ≤ b.length) && tablesOk b 64 dispDims && (subRecords b 1 2).all (fun r => decide (ofLe r < 4096)) &&
    (subRecords b 2 2).all (fun r => decide (ofLe r ≠ 0)) && (subRecords b 4 8).all bindingOk && (subRecords b 5 68).all waveOk

/-- With the strip present, all 24 waveforms are there, one of each pair. -/
def wavesFull (b : List Byte) : Bool :=
  let l := (subRecords b 5 68).map (fun r => (fieldNat r 0 1, fieldNat r 1 1))
  decide (l.length = 24) && decide (l.eraseDups.length = 24)

/-- A table of 16-bit entries. -/
def table16 (d : Nat) (l : List (List Byte)) : List (Nat × Nat) :=
  (l.zipIdx).foldl (fun (t : List (Nat × Nat)) p => tset (fun _ => d) t p.2 (ofLe p.1)) []

def State.putDisplay (s : State) (b : List Byte) : State :=
  if !dispOk b then s.violate 2
  else
    let imgs := subRecords b 3 1536
    let t : State := { s with
      disp := { s.disp with
        gamma := table16 0 (subRecords b 1 2), curve := table16 0xFFFF (subRecords b 2 2)
        images := ((imgs.flatten).zipIdx).foldl (fun (t : List (Nat × Byte)) p => tset (fun _ => (0 : Byte)) t p.2 p.1) []
        imageCount := imgs.length, bindings := (subRecords b 4 8).map bindingOf }
      strip := { s.strip with waves := (subRecords b 5 68).foldl (fun (t : List (Nat × Wave)) r =>
        tset (fun _ => ({} : Wave)) t (3 * fieldNat r 0 1 + fieldNat r 1 1) (parseWave r)) [] } }
    let u := t.putImage dispAddr (imageOf (subRecords b 0 8))
    u.must (!u.on DISP_STRIP_CFG_PRESENT || wavesFull b)

/-- A swap removes the display assets: no panel, no strip, no image. (DESIGN CHOICE, log entry 38.) -/
def State.dropDisplay (s : State) : State :=
  let t : State := { s with disp := { s.disp with images := [], imageCount := 0, bindings := [], gamma := [], curve := [] } }
  (t.putB DISP_CFG_PRESENT false).putB DISP_STRIP_CFG_PRESENT false

/-! ### Network and security (R120, R123, R138) -/

/-- Modbus addresses an entry covers. -/
def mbCovers (e : Config.MbEntry) : List Nat := (List.range e.width).map (fun i => e.addr + i)

/-- Entries do not overlap, within a table. (DESIGN CHOICE, log entry 142.) -/
def mapOk : List Config.MbEntry → Bool
  | [] => true
  | e :: t => (e.width = 1 || e.width = 2) &&
    t.all (fun f => e.holding != f.holding || (mbCovers e).all (fun a => decide (a ∉ mbCovers f))) && mapOk t

def netAddr (a : Nat) : Bool := decide (a < 0x060000)

/-- The network and security section: at most four keys, at most 256 bytes of set-up text (R120, R123,
R138, R160). (DESIGN CHOICE, log entry 27.) -/
def State.putNet (s : State) (x : Config.NetSection) : State :=
  let t : State := { s with
    net := { s.net with
      keys := (x.keys.take 4).map (fun k => (leBytes 32 k.1.toNat, k.2)), dhcp := x.dhcp, stat := [x.addr, x.mask, x.gw], map := x.map, readback := x.readback, ll := false }
    tim := { s.tim with setup := x.setup.take 256 } }
  (t.putImage netAddr x.image).must (mapOk x.map && decide (x.map.length ≤ 1024))

/-! ### Any section (R85) -/

/-- The layout version a section must have, where a chapter defines one. -/
def versionOk (x : Section) : Bool :=
  if x.type = 3 then decide (x.version = 0x0A01)
  else if x.type ∈ [4, 5, 6, 7, 8] then decide (x.version = 1)
  else true

/-- The loader writes a section to its block; `boot` for a load of R91. -/
def State.putSection (s : State) (boot : Bool) (x : Section) (b : List Byte) : State :=
  if !versionOk x then s.violate 2
  else if x.type = 2 then s.putControl (Config.controlTables b)
  else if x.type = 3 then s.putMicrocode x.inst x.version
  else if x.type = 4 then s.putCrops b
  else if x.type = 5 then s.putGeometry boot x.inst b x.digest
  else if x.type = 6 then s.putSensorMap boot b
  else if x.type = 7 then s.putSlot x.inst b
  else if x.type = 8 then s.putDisplay b
  else if x.type = 9 then s.putNet (Config.netSection b)
  else s

end Sys2Proof.Machine
end

