-- ==== Sys2Proof/Machine/CaddyOps.lean ====
section
/-! DEFINITION. The caddy loader at work (R89 to R100): the start of the planes, the two passes, bare
mode, and a swap with its pauses, its order, its restart and its abort.  Writes of all requesters pass
here, since one of them starts a swap. -/

namespace Sys2Proof.Machine

open Reg

/-! ### Reset of two planes, bare mode (R90, R94) -/

/-- Registers that a reset of the control and data planes alone leaves: those of the other planes, and
what shows a fenced quad. -/
def ctlDataKept (a : Nat) : Bool :=
  decide (planeOf a = .mgmt) || decide (planeOf a = .aon) || a = MILL_CAPACITY || a = MILL_QUAD_STATUS

/-- The control and data planes at their reset values. (DESIGN CHOICE, log entry 141.) -/
def State.ctlDataClear (s : State) : State :=
  { s with
    regs := tkeep ctlDataKept s.regs
    est := {}, sprin := [], valve := { cleared := s.valve.cleared }, fans := [], gov := [], cup := {}, aoSeen := []
    smap := {}, field := [], pulse := [], mill := {} }

/-- A write of a host that waited for the load, or a read, is issued now. -/
def State.reissue (s : State) (writeNow : State → Nat → Nat → Word → State) (r : LeatReq) : State :=
  if onLeat r.addr then s.enqueue r
  else match r.val with
    | some v => writeNow s r.requester r.addr v
    | none =>
      let x := s.readAt r.requester r.addr
      x.2.txnGot r.txn r.idx x.1

/-- Requests held during a load are issued in their order (R93). -/
def State.releaseHeld (s : State) (writeNow : State → Nat → Nat → Word → State) : State :=
  s.fab.held.foldl (fun t r => t.reissue writeNow r) { s with fab := { s.fab with held := [] } }

/-- Bare mode with its cause: the control and data planes are held in reset, the ROM services run.
(DESIGN CHOICE, log entry 31.) -/
def State.enterBare (s : State) (reason : Nat) : State :=
  let a := s.ctlDataClear
  let b : State := { a with
    pwr := { a.pwr with rstCp := true, rstDp := true }
    caddy := { a.caddy with phase := 4 }
    net := { a.net with dhcp := true } }
  let c := ((b.putB CADDY_STATUS_BARE true).put CADDY_STATUS_BARE_REASON reason).putB SYS_STATUS_BARE true
  (c.ev portCaddy 0x0022 reason).netStart []

/-! ### First pass (R89 to R91) -/

/-- The first pass begins over a slot. -/
def State.firstPass (s : State) (n : Nat) (fallback : Bool) : State :=
  { s with caddy := { s.caddy with phase := 1, slot := n, fallback := fallback, firstHash := [] } }

/-- The loader chooses a slot (R90, R94). -/
def State.chooseSlot (s : State) : State :=
  if s.nv.keyProg = 0 then s.enterBare 2
  else if s.slotValid 0 && s.slotValid 1 then
    (if s.imgSeq 0 = s.imgSeq 1 then (s.ev portCaddy 0x0028 (s.imgSeq 0)).firstPass 0 false
     else if s.imgSeq 0 < s.imgSeq 1 then s.firstPass 1 false
     else s.firstPass 0 false)
  else if s.slotValid 0 then s.firstPass 0 false
  else if s.slotValid 1 then s.firstPass 1 false
  else s.enterBare 3

/-- The loader initialises the flash and reads both headers (R81, R89, R90). (DESIGN CHOICE, log entry 33.) -/
def State.loaderHeads (s : State) : State :=
  ((if s.nv.octal then s else s.ev portCaddy 0x0027).headCheck 0).headCheck 1

/-- The loader at a start of the planes: with BOOTSEL it loads no image (R54, R94).
(DESIGN CHOICE, log entry 33.) -/
def State.loaderStart (s : State) : State :=
  let b := s.loaderHeads
  if s.pwr.straps.testBit 2 then b.enterBare 1 else b.chooseSlot

/-- The slot in hand fails one of the checks 12 to 14 (R90). (DEDUCED, DESIGN CHOICE, log entries 32, 35.) -/
def State.loadFail (s : State) (reason : Nat) : State :=
  let n := s.caddy.slot
  let a := (s.slotShow n reason).ctlDataClear
  if !s.caddy.fallback && a.slotValid (1 - n) then
    (a.ev portCaddy 0x0021 n reason).firstPass (1 - n) true
  else a.enterBare 4

/-- The first pass ends (check 12). -/
def State.firstPassDone (s : State) (readErr : Bool) : State :=
  if !s.mpUp || decide (s.caddy.phase ≠ 1) then s
  else
    let n := s.caddy.slot
    let r := if readErr then 0x0F else s.sigReason n
    if r ≠ 0 then s.loadFail r
    else { s with caddy := { s.caddy with phase := 2, firstHash := sha256 (s.imgMessage n) } }

/-! ### Second pass (R91, R93) -/

/-- Sections in the order of the load: network and security first, then by type and instance. -/
def loadKey (x : Section) : Nat := if x.type = 9 then 0 else x.type * 256 + x.inst

/-- The body of a section has the digest of its entry (R84). -/
def State.digestOk (s : State) (n : Nat) (x : Section) : Bool :=
  decide ((sha256 (s.sectionBody n x)).take 16 = x.digest)

/-- The count of the loader's violations has not risen (R93). -/
def State.accepted (s t : State) : Bool :=
  decide (t.get SYS_VIOL_COUNT_LOADER = s.get SYS_VIOL_COUNT_LOADER)

/-- Sections written one by one until one is altered or rejected: whether all were accepted. -/
def loadSections (n : Nat) : List Section → State → State × Bool
  | [], s => (s, true)
  | x :: t, s =>
    if !s.digestOk n x then (s, true)
    else
      let u := s.putSection true x (s.sectionBody n x)
      if s.accepted u then loadSections n t u else (u, false)

/-- Bare mode is left: its own IPv4 address, a lease or a link-local one, goes out of use, and the caddy's
settings hold (R94, R95, R120). -/
def State.bareLeft (s : State) : State :=
  let t := (s.ip4Off).put NET_DHCP_STATUS_STATE 0
  { t with net := { t.net with ll := false, probing := false, cand := none, leaseEnd := 0 } }

/-- Rules over several sections: the bodies, and the slots (R222, R223, R234, R328). -/
def State.setsOk (s : State) : Bool := s.bodiesOk && s.slotsFit

/-- Step 6 and 7 of R91: locked, firmware running, slots in START, bodies resuming; `ms` is the time
since nRST rose. -/
def State.loadDone (s : State) (ms : Nat) (writeNow : State → Nat → Nat → Word → State) : State :=
  let n := s.caddy.slot
  let a : State := { s with
    caddy := { s.caddy with phase := 3 }
    fab := { s.fab with locked := true }
    net := { s.net with beat := s.tim.mono } }
  let b := ((((a.putB CADDY_STATUS_LOADED true).putB CADDY_STATUS_LOCKED true).put CADDY_STATUS_ACTIVE_SLOT n).putB
    CADDY_STATUS_FALLBACK s.caddy.fallback).putB CADDY_STATUS_BARE false
  let c := (((((b.put CADDY_STATUS_BARE_REASON 0).putB SYS_STATUS_BARE false).putB SYS_STATUS_LOCKED true).putB
    SYS_STATUS_MP_FW true).putB SYS_STATUS_DP_RUN s.dpUp).putB SYS_STATUS_CP_RUN s.cpUp
  let d := ((c.putB GUARD_STATUS_USER_ZONES true).put CADDY_BOOT_TIME_CP_MS (satTo 16 ms)).ev portCaddy 0x0020 n (s.imgSeq n) ms
  let d := if d.cpUp then d.aoStart else d
  let e := ((((if d.cpUp then d.govBoot else d)).millShow).snapRestore).each d.bodies (fun t k => t.bodyStart k false)
  let f := (((if s.on CADDY_STATUS_BARE then e.bareLeft else e).displayAssets.timeMark).ptpSet 0).ptpSet 1
  let net := f.imgSections n
  let ip6 := (net.filter (fun x => x.type = 9)).map (fun x => (Config.netSection (f.sectionBody n x)).ip6)
  (f.netStart ip6.flatten).releaseHeld writeNow

/-- The second pass ends: check 13 goes before check 14 (R89). (DESIGN CHOICE, log entry 31.) -/
def State.secondPassDone (s : State) (altered readErr : Bool) (ms : Nat)
    (writeNow : State → Nat → Nat → Word → State) : State :=
  if !s.mpUp || decide (s.caddy.phase ≠ 2) then s
  else
    let n := s.caddy.slot
    let r := loadSections n (sortBy loadKey (s.imgSections n)) s
    if readErr then r.1.loadFail 0x0F
    else if altered || decide (sha256 (s.imgMessage n) ≠ s.caddy.firstHash) || !((s.imgSections n).all (s.digestOk n)) then
      r.1.loadFail 0x0D
    else if !r.2 then r.1.loadFail 0x0E
    else if !r.1.setsOk then (r.1.violate 2).loadFail 0x0E
    else r.1.loadDone ms writeNow

/-! ### Release of the planes (R54, R74, R78, R91) -/

/-- What the units in the planes report at their start (R67, R70, R77, R366, R402). -/
def State.startReports (s : State) : State :=
  let a := if s.pwr.unmarked then s.aev 0x1003 else s
  let b := if a.pwr.skipReport then a.aev 0x1004 else a
  let c := if b.pwr.straps % 4 = 3 then b.aev 0x0010 b.pwr.straps else b
  let d := match c.guard.restarted with
    | some r => c.aev 0x2006 r.1 (par (toSigned 16 r.2.1)) r.2.2
    | none => c
  let e := d.each d.valve.cleared (fun t v => t.ev (portValve (v / 8)) 0x3008 v 1)
  { e with
    pwr := { e.pwr with unmarked := false, skipReport := false }
    guard := { e.guard with restarted := none }
    valve := { e.valve with cleared := [] } }

/-- The planes may leave reset: all are held, the PLL is locked, the rails are good, and nothing holds
them. -/
def State.releaseReady (s : State) : Bool :=
  s.aonUp && s.planesHeld && s.on PWR_CLK_STATUS_PLL_LOCK && s.pwr.railsReady && !s.pwr.testmode && !s.heldDown

/-- The planes leave reset and the loader starts.  `repaired` are the DRAM rows that the die stack
repairs (R460).  MARKER_FOUND is 0 while a power-fail record has no marker. (DESIGN CHOICE, log entry 139.) -/
def State.planeRelease (s : State) (octal : Bool) (badA badB : Nat) (repaired : List Nat) : State :=
  if !s.releaseReady then s
  else
    let now := s.tim.aon
    let a : State := { s with
      pwr := { s.pwr with rstCp := false, rstDp := false, rstMp := false, rstOut := true }
      tim := { s.tim with site := now, cp := now, dp := now, mp := now } }
    let b := (a.send (.pin "nRSTOUT" true)).setReg PWR_SLUICE_LAST
      (if s.pwr.unmarked then s.pwr.marker &&& 0x7FFFFFFF else s.pwr.marker)
    let c := ((b.zoneSummary).recorderStart).stripStart
    (((c.hardRepair (fun r => decide (r ∈ repaired))).startReports).flashFacts octal badA badB).loaderStart

/-! ### Swap (R97 to R100) -/

/-- The place of a section type in the order of R98. -/
def swapOrder (ty : Nat) : Nat := [9, 7, 4, 2, 0, 1, 3, 5, 6, 8].getD ty 9

def swapKey (p : Nat × Nat) : Nat := swapOrder p.1 * 256 + p.2

/-- The entry of a type and instance in the table of slot `n`. -/
def State.sectionOf (s : State) (n : Nat) (p : Nat × Nat) : Option Section :=
  (s.imgSections n).find? (fun x => x.type = p.1 && x.inst = p.2)

/-- Sections whose DIGEST, TYPE_VERSION or presence differs, in the order of R98. -/
def State.changedSections (s : State) (a n : Nat) : List (Nat × Nat) :=
  let ids := ((s.imgSections n ++ s.imgSections a).map (fun x => (x.type, x.inst))).eraseDups
  sortBy swapKey (ids.filter (fun p => match s.sectionOf a p, s.sectionOf n p with
    | some x, some y => decide (x.digest ≠ y.digest) || decide (x.version ≠ y.version)
    | none, none => false
    | _, _ => true))

/-- A type of order 1. -/
def firstGroup (ty : Nat) : Bool := ty = 3 || ty = 4 || ty = 5

/-- Bodies that step, and so pause for a changed section of order 1 that they use.
(DESIGN CHOICE, log entry 36.) -/
def State.pausing (s : State) (changed : List (Nat × Nat)) : List Nat :=
  s.bodies.filter (fun k => (s.bst k = bRunning || s.bst k = bHeld) && changed.any (fun p =>
    p.1 = 4 || (p.1 = 5 && p.2 = k) || (p.1 = 3 && p.2 = k)))

/-- A body pauses at its next step boundary (R98): at once when no step runs. (DESIGN CHOICE, log entry 36.) -/
def State.pauseBody (s : State) (k : Nat) : State :=
  let b := s.body k
  if b.run.isNone && b.rollTo.isNone then s.bodyPaused k else s.setBody k { b with pauseDue := true }

/-- Write the section of slot `n`, or take it away where the slot has none; `old` is the slot in use.
(DESIGN CHOICE, log entry 140.) -/
def State.applySection (s : State) (old n : Nat) (p : Nat × Nat) : State :=
  match s.sectionOf n p with
  | some x =>
    let b := s.sectionBody n x
    if p.1 = 7 then
      (match s.sectionOf old p with
        | some _ => if versionOk x then s.swapSlot p.2 b else s.violate 2
        | none => (s.putSection false x b).govAdd p.2)
    else if p.1 = 8 then (s.putSection false x b).displayAssets
    else if p.1 = 5 && !(s.bodies.contains p.2) then
      let t := s.putSection false x b
      if p.2 ∈ t.bodies then t.bodyStart p.2 true else t
    else s.putSection false x b
  | none =>
    if p.1 = 3 then s.dropMicrocode p.2
    else if p.1 = 4 then s.dropCrops
    else if p.1 = 5 then s.dropGeometry p.2
    else if p.1 = 7 then s.dropSlot p.2
    else if p.1 = 8 then s.dropDisplay.displayAssets
    else s

/-- The order number of R98. -/
def swapGroup (ty : Nat) : Nat := [6, 3, 1, 1, 1, 2, 4, 5, 6].getD (ty - 1) 7

/-- In the order of R98, sections taken away before sections written, so that a removed body's run is free
(R225). -/
def State.groupOrder (s : State) (n : Nat) (l : List (Nat × Nat)) : List (Nat × Nat) :=
  sortBy (fun p => swapGroup p.1) (l.filter (fun p => (s.sectionOf n p).isNone) ++ l.filter (fun p => (s.sectionOf n p).isSome))

/-- Show the progress of a swap, and put it back into the state. -/
def State.setSwap (s : State) (w : Swap) : State :=
  let t : State := { s with caddy := { s.caddy with swap := some w } }
  if w.bad.isSome then t else t.put CADDY_SWAP_STATUS_APPLIED w.applied.length

/-- The arm that the writes of a section travel on: the data arm, the control arm, or none (R28, R99).
(DESIGN CHOICE, log entry 156.) -/
def sectionArm (ty : Nat) : Option Bool :=
  if ty = 2 ∨ ty = 7 then some false else if ty ∈ [3, 4, 5, 6] then some true else none

/-- What came before on the arm of a section reaches its registers first (R28, R99). -/
def State.drainFor (s : State) (ty : Nat) : State :=
  match sectionArm ty with
  | some d => s.drain d
  | none => s

/-- A section waits while its arm does (R103, R455). -/
def State.sectionWaits (s : State) (ty : Nat) : Bool :=
  match sectionArm ty with
  | some d => s.armWaits d
  | none => false

/-- A Governor slot section that has to wait for its slot to reach OPEN (R98). -/
def State.slotSectionWaits (s : State) (old n : Nat) (p : Nat × Nat) : Bool :=
  match s.sectionOf old p, s.sectionOf n p with
  | some _, some x => decide (p.1 = 7) && versionOk x && s.slotOpens p.2 (s.sectionBody n x)
  | _, _ => false

/-- How far a run over sections came: the state, the sections applied, one that was rejected, and whether the
run is complete. -/
structure SwapRun where
  state : State
  applied : List (Nat × Nat)
  bad : Option (Nat × Nat) := none
  all : Bool := false

/-- Sections are applied one by one, until one is rejected, one has to wait, or a request delivered before it
has ended the swap.  On the way back nothing is rejected (R100). -/
def swapApply (w : Swap) : List (Nat × Nat) → List (Nat × Nat) → State → SwapRun
  | [], done, s => { state := s, applied := done, all := true }
  | p :: t, done, s =>
    if s.sectionWaits p.1 then { state := s, applied := done }
    else
      let v := s.drainFor p.1
      if v.caddy.swap.isNone then { state := v, applied := done }
      else if v.slotSectionWaits w.base w.slot p then { state := v.openForSwap p.2, applied := done }
      else
        let u := v.applySection w.base w.slot p
        if w.bad.isSome || v.accepted u then swapApply w t (done ++ [p]) u
        else { state := u, applied := done, bad := some p }

/-- Position of a tile of the new grid in the old one: the old tile that holds the centre of the middle
cell (DEDUCED: the spec says only that the state is resampled). (DEDUCED, log entry 39.) -/
def oldTile (g h : Grid) (t : Nat) : Nat :=
  let mid (c n : Nat) : Nat := min (8 * c + 4) (n - 1)
  let a := mid (t % h.t1) h.n1
  let b := mid (t / h.t1 % h.t2) h.n2
  let c := mid (t / (h.t1 * h.t2)) h.nz
  let at_ (i e m f : Nat) : Nat := min ((2 * i + 1) * e / (2 * max 1 f)) (m - 1)
  let i := if g.cyl || h.cyl then min ((2 * a + 1) * g.n1 / (2 * h.n1)) (g.n1 - 1) else at_ a h.e1 g.n1 g.e1
  g.tile (g.cell i (at_ b h.e2 g.n2 g.e2) (at_ c h.ez g.nz g.ez))

/-- The records of the old tiles at the places of the new ones. (DEDUCED, log entry 39.) -/
def resample (g h : Grid) (tiles : List (Nat × Cell)) : List (Nat × Cell) :=
  (List.range h.tiles).map (fun t => (t, tget (fun _ => ({} : Cell)) tiles (oldTile g h t)))

/-- A body that was held before a swap paused it is held again, with a fresh snapshot of a changed geometry.
(DESIGN CHOICE, log entry 36.) -/
def State.heldAgain (s : State) (k : Nat) (fresh : Bool) : State :=
  if !(s.body k).heldOn then s
  else (if fresh then s.stage k else s).setBst k bHeld

/-- A body that pauses goes on (R98): with a changed geometry from its own state resampled, else with
every step that became ready meanwhile. (DESIGN CHOICE, log entry 36.) -/
def State.bodyGoOn (s : State) (k : Nat) (fresh : Option Grid) : State :=
  let t : State := { s with caddy := { s.caddy with swapPaused := s.caddy.swapPaused.filter (fun j => j ≠ k) } }
  match fresh with
  | some g =>
    let b := t.body k
    (((t.resumeFrom k (resample g (t.grid k) b.staged) ((t.tim.dp - b.stoppedAt) / 1000000) none).anchorCells
      k).heldAgain k true).bodyNext k
  | none =>
    ((if (t.body k).snapDue then t.resumeStaged k else t.stepThrough k).heldAgain k false).bodyNext k

/-- The old grids of bodies whose geometry a swap changes are those of the slot in use.
(DEDUCED, log entry 39.) -/
def State.oldGrid (s : State) (old k : Nat) : Grid :=
  match s.sectionOf old (5, k) with
  | some x =>
    let g := geometryOf (s.sectionBody old x)
    { cyl := decide (g.type ≠ 0), n1 := g.n1, n2 := g.n2, nz := g.nz, e1 := g.e1, e2 := g.e2, ez := g.ez
      rings := g.rings }
  | none => s.grid k

/-- A swap is over: 3 DONE, 5 aborted. -/
def State.swapEnd (s : State) (st : Nat) : State :=
  let t : State := { s with caddy := { s.caddy with swap := none } }
  ((t.put CADDY_SWAP_STATUS_STATE st).putB NET_HSPI_IRQ_STATUS_SWAP true).busyShow

/-- The swap is done (R97, R98): the new slot is the active one. -/
def State.swapDone (s : State) (w : Swap) : State :=
  let t : State := { s with caddy := { s.caddy with slot := w.slot, fallback := false } }
  let u := (t.put CADDY_STATUS_ACTIVE_SLOT w.slot).putB CADDY_STATUS_FALLBACK false
  (u.ev portCaddy 0x0024 (u.imgSeq w.slot) ((u.optime - w.began) * 1000 / 1024)).swapEnd 3

/-- The swap is aborted (R100): the active image's contents are back, and the new image is made invalid.
(DESIGN CHOICE, log entry 35.) -/
def State.swapAborted (s : State) (w : Swap) (bad : Nat × Nat) : State :=
  let d := s.each [0, 1, 2, 3] (fun t i => t.flashProg (slotBase w.base + i) 0)
  let e := (d.setReg (CADDY_SLOT_STATUS w.base) 0).setReg (CADDY_SLOT_SEQ w.base) 0
  ((e.ev portCaddy 0x0025 (bad.1 * 256 + bad.2) 5).put CADDY_SWAP_STATUS_REASON 5).swapEnd 5

/-- The slot section that is rejected: of the changed ones, in their order, the first that completes a pair of
slots with one target, else the last (R212, R312). -/
def State.slotRejected (s : State) (changed : List Nat) : Nat :=
  let upTo (n : Nat) : List Nat := s.slots.filter (fun m => !changed.contains m || decide (m ≤ n))
  (changed.find? (fun n => !s.targetsFit (upTo n))).getD (changed.getLastD 255)

/-- Orders 2 to 6 (R98); nothing is left to do when the swap went back.  The section that is rejected, where
one is.  Sessions close for a swap when the network section changed, else for a restart (R128).
(DESIGN CHOICE, log entry 48.) -/
def State.swapRest (s : State) (w : Swap) : State × Option (Nat × Nat) :=
  let r := swapApply w (w.changed.filter (fun p => !firstGroup p.1 && !w.applied.contains p)) w.applied s
  if r.state.caddy.swap.isNone then (r.state, none)
  else
    let x := r.state.setSwap { w with applied := r.applied }
    match r.bad, w.bad with
    | some p, _ => (x, some p)
    | none, some b => (if r.all then x.swapAborted w b else x, none)
    | none, none =>
      if !r.all then (x, none)
      else if !x.slotsFit then
        (x.violate 2, some (7, x.slotRejected ((w.changed.filter (fun p => p.1 = 7)).map (fun p => p.2))))
      else if w.changed.any (fun p => p.1 = 1 || p.1 = 9) then
        ((x.put CADDY_SWAP_STATUS_STATE 2).fwRestart (if w.changed.any (fun p => p.1 = 9) then 3 else 2), none)
      else (x.swapDone { w with applied := r.applied }, none)

/-- The next body in turn pauses, running or held, or orders 2 to 6 follow, once no body is paused or has still
to pause.  The section that is rejected, where one is. (DESIGN CHOICE, log entry 36.) -/
def State.swapNext1 (s : State) : State × Option (Nat × Nat) :=
  match s.caddy.swap with
  | none => (s, none)
  | some w =>
    if !w.written || s.caddy.swapPaused ≠ [] || w.together.any (fun k => (s.body k).pauseDue) ||
        decide (s.get CADDY_SWAP_STATUS_STATE = 2) then (s, none)
    else match w.turn.find? (fun k => s.bst k = bRunning || s.bst k = bHeld) with
      | some k =>
        let t : State := { s with caddy := { s.caddy with
          swap := some { w with turn := w.turn.filter (fun j => j ≠ k), together := [k] } } }
        (t.pauseBody k, none)
      | none => s.swapRest w

/-- Order 1 is written once every body that uses a changed section has paused. -/
def State.swapWrite1 (s : State) : State × Option (Nat × Nat) :=
  match s.caddy.swap with
  | none => (s, none)
  | some w =>
    if w.written || !(w.together.all (fun k => s.caddy.swapPaused.contains k)) then (s, none)
    else
      let l := s.groupOrder w.slot (w.changed.filter (fun p => firstGroup p.1))
      let r := swapApply w l w.applied s
      if r.state.caddy.swap.isNone then (r.state, none)
      else
        let x := (r.state.setSwap { w with applied := r.applied, written := true }).millShow
        match r.bad with
        | some p => (x, some p)
        | none =>
          if w.bad.isNone && !x.bodiesOk then (x.violate 2, some (l.getLastD (5, 255)))
          else (x, none)

/-- The swap turns back (R100): every section already written takes the contents of the active image again, in
the order of R98, and the bodies that use one of order 1 pause for it. -/
def State.swapAbort (s : State) (p : Nat × Nat) : State :=
  match s.caddy.swap with
  | none => s
  | some w =>
    let back := s.groupOrder w.base (w.applied ++ if w.applied.contains p then [] else [p])
    let more := (s.pausing back).filter (fun k => !s.caddy.swapPaused.contains k)
    let turn := if back.contains (3, 255) then s.bodies.filter (fun k => !more.contains k) else []
    let w' : Swap := { slot := w.base, base := w.slot, changed := back, together := more ++ s.caddy.swapPaused, turn := turn
                       bad := some p, kept := s.caddy.swapPaused, began := w.began }
    State.each { s with caddy := { s.caddy with swap := some w' } } more State.pauseBody

/-- The swap goes on as far as it can; a section that is rejected turns it back. -/
def State.swapGo (s : State) : State :=
  let step (t : State) : State × Option (Nat × Nat) :=
    let a := t.swapWrite1
    if a.2.isSome then a else a.1.swapNext1
  let r := step s
  match r.2 with
  | some p => (step (r.1.swapAbort p)).1
  | none => r.1

/-- A paused body resumes when its sections are in place (BODY_SWAP_RESUME). -/
def State.swapResume (s : State) (k : Nat) : State :=
  if !s.caddy.swapPaused.contains k then s
  else
    let t := s.swapGo
    match t.caddy.swap with
    | none => t
    | some w =>
      if !w.written || !t.caddy.swapPaused.contains k then t
      else
        (t.bodyGoOn k (if w.applied.contains (5, k) then
          some (t.oldGrid (if w.kept.contains k then w.slot else w.base) k) else none)).swapGo

/-- A swap starts (R97, R98). -/
def State.swapStart (s : State) (n : Nat) : State :=
  let ch := s.changedSections s.caddy.slot n
  let together := s.pausing ch
  let turn := if ch.contains (3, 255) then s.bodies.filter (fun k => !together.contains k) else []
  let t : State := { s with caddy := { s.caddy with
    swap := some { slot := n, base := s.caddy.slot, changed := ch, together := together, turn := turn, began := s.optime } } }
  let u := (((t.put CADDY_SWAP_STATUS_STATE 1).put CADDY_SWAP_STATUS_REASON 0).put CADDY_SWAP_STATUS_APPLIED 0).put
    CADDY_SWAP_STATUS_CHANGED ch.length
  ((u.busyShow.ev portCaddy 0x0023 (s.imgSeq n) ch.length).each together State.pauseBody).swapGo

/-- A swap is refused (R96, R97). (DEDUCED, log entry 34.) -/
def State.swapRefuse (s : State) (reason : Nat) : State :=
  ((s.put CADDY_SWAP_STATUS_STATE 4).put CADDY_SWAP_STATUS_REASON reason).putB NET_HSPI_IRQ_STATUS_SWAP true

/-- Why a write of the swap key is refused (R96, R97); 0 where it is not. -/
def State.swapReason (s : State) : Nat :=
  let n := 1 - s.caddy.slot
  if s.caddy.swap.isSome then 4
  else if s.caddy.writing then 3
  else if s.caddy.phase = 4 then 0
  else if !s.slotValid n || decide (s.slotReason n ≠ 0) then 1
  else if s.imgSeq n ≤ s.imgSeq s.caddy.slot then 2
  else 0

/-- A write of the swap key (R95 to R97): a swap, or in bare mode a load.  A swap in progress goes on; only
REASON shows the refusal. (DESIGN CHOICE, DEDUCED, log entries 33, 34.) -/
def State.swapCmd (s : State) : State :=
  let n := 1 - s.caddy.slot
  match s.swapReason with
  | 0 =>
    if s.caddy.phase = 4 then
      (State.loaderHeads { s with pwr := { s.pwr with rstCp := false, rstDp := false } }).chooseSlot
    else if s.caddy.phase = 3 then s.swapStart n
    else s
  | 4 => s.put CADDY_SWAP_STATUS_REASON 4
  | 1 => (if s.slotValid n then s.slotCheck n else s).swapRefuse 1
  | r => s.swapRefuse r

/-! ### Writes of all requesters -/

/-- A write reaches its register; the swap key starts a swap (R97). -/
def State.writeNow (s : State) (req a : Nat) (v : Word) : State :=
  let t := s.writeCore req a v
  if a = CADDY_SWAP_CMD && s.mpUp && s.writeOk req a v then t.swapCmd else t

/-- A requester's write: held off during a load, behind the requests that wait on its arm (during a lockstep
hold all do), else it reaches its register (R28, R93, R103, R455). (DESIGN CHOICE, log entry 14.) -/
def State.writeAt (s : State) (req a : Nat) (v : Word) : State :=
  let r : LeatReq := { requester := req, addr := a, val := some v }
  if s.mpUp && s.loading && decide (req ≠ 2) then { s with fab := { s.fab with held := s.fab.held ++ [r] } }
  else if s.mpUp && s.waitsBehind a then s.enqueue r
  else s.writeNow req a v

/-- A host's write: held during a load, at once in the management plane, else a request on its arm. -/
def State.issueWrite (s : State) (req a : Nat) (v : Word) : State :=
  if !s.loading && onLeat a then s.enqueue { requester := req, addr := a, val := some v } else s.writeAt req a v

end Sys2Proof.Machine
end

