-- ==== Sys2Proof/Machine/HostOps.lean ====
section
/-! DEFINITION. The Modbus TCP server (R135 to R140), the host SPI port (R145 to R148), and the end of
host reads: a host gets its answer when every value it waits for has come (R29). -/

namespace Sys2Proof.Machine

open Reg

/-! ### Modbus requests (R136 to R140) -/

/-- A register of a read: the Modbus address of its value, the fabric address (none for the heartbeat
register, which reads 0), and whether it holds bits 31 to 16. -/
structure MbReg where
  key : Nat
  fabric : Option Nat
  hi : Bool
deriving DecidableEq, Repr

/-- The entry of the map that begins at a Modbus address. (DEDUCED, log entry 59.) -/
def mbEntry (map : List Config.MbEntry) (holding : Bool) (a : Nat) : Option Config.MbEntry :=
  map.find? (fun e => (e.holding == holding) && decide (e.addr = a))

/-- The registers of a range; none where one is unmapped or the range splits an entry. -/
def mbRegs (map : List Config.MbEntry) (holding : Bool) (a : Nat) : Nat → Option (List MbReg)
  | 0 => some []
  | q + 1 =>
    if !holding && decide (a < 0x2000) then
      let r : MbReg := { key := a - a % 2, fabric := some (0x480000 + 16 * (a / 8) + 4 * (a % 8 / 2)), hi := a % 2 = 0 }
      (mbRegs map holding (a + 1) q).map (fun l => r :: l)
    else if holding && a = 0xF000 then
      (mbRegs map holding (a + 1) q).map (fun l => { key := a, fabric := none, hi := false } :: l)
    else match mbEntry map holding a with
      | none => none
      | some e =>
        let r (hi : Bool) : MbReg := { key := a, fabric := some e.fabric, hi := hi }
        if e.width = 2 then
          (match q with
            | 0 => none
            | q' + 1 => (mbRegs map holding (a + 2) q').map (fun l => r true :: r false :: l))
        else (mbRegs map holding (a + 1) q).map (fun l => r false :: l)

/-- The fabric writes of a range of holding registers; none where one is unmapped or not writable, or
the range splits an entry. -/
def mbWrites (map : List Config.MbEntry) (a : Nat) : List Nat → Option (List (Nat × Word))
  | [] => some []
  | v :: rest =>
    if a = 0xF000 then (mbWrites map (a + 1) rest).map (fun l => (NET_HEARTBEAT, BitVec.ofNat 32 v) :: l)
    else match mbEntry map true a with
      | none => none
      | some e =>
        if !e.writable then none
        else if e.width = 2 then
          (match rest with
            | [] => none
            | w :: rest' =>
              (mbWrites map (a + 2) rest').map (fun l => (e.fabric, BitVec.ofNat 32 (v * 65536 + w)) :: l))
        else (mbWrites map (a + 1) rest).map (fun l => (e.fabric, BitVec.ofNat 32 v) :: l)

/-- Big-endian 16-bit values of a list of bytes. (DEDUCED, log entry 59.) -/
def mbVals : List Byte → List Nat
  | a :: b :: t => ofBe [a, b] :: mbVals t
  | _ => []

/-- A response on a connection: the header's transaction, protocol and unit are those of the request.
(DESIGN CHOICE, log entry 58.) -/
def State.mbSend (s : State) (conn : Nat) (hdr pdu : List Byte) : State :=
  if !s.net.conns.contains conn then s
  else s.send (.modbus conn (hdr.take 4 ++ beBytes 2 (pdu.length + 1) ++ slice 6 1 hdr ++ pdu))

/-- The reads of a valid request begin; the answer follows when all values have come. -/
def State.mbReads (s : State) (conn : Nat) (hdr : List Byte) (fc : Nat) (l : List MbReg) : State :=
  let keyed := l.filterMap (fun r => r.fabric.map (fun f => (r.key, f)))
  let keys := keyed.eraseDups
  let idx (r : MbReg) : Nat := keys.findIdx (fun p => decide (some p.2 = r.fabric) && decide (p.1 = r.key))
  let t := s.txnStart 0x20 (.modbus conn hdr fc) (keys.map (fun p => p.2)) (l.map (fun r => (idx r, r.hi)))
  { t.1 with net := { t.1.net with mbBusy := true } }

/-- Writes of a valid request, one per entry, in ascending address. -/
def State.mbIssue (s : State) (l : List (Nat × Word)) : State := s.each l (fun t p => t.issueWrite 0x20 p.1 p.2)

/-- Execute one request: `adu` is its header of seven bytes and its PDU (R140). -/
def State.mbServe (s : State) (conn : Nat) (adu : List Byte) : State :=
  let hdr := adu.take 7
  let pdu := adu.drop 7
  let fc := ofBe (slice 0 1 pdu)
  let t := s.inc NET_MB_STATS_REQUESTS
  let exc (c : Byte) : State := (t.inc NET_MB_STATS_EXCEPTIONS).mbSend conn hdr [BitVec.ofNat 8 (fc + 0x80), c]
  let a := ofBe (slice 1 2 pdu)
  let q := ofBe (slice 3 2 pdu)
  if fc = 3 ∨ fc = 4 then
    if pdu.length ≠ 5 ∨ q = 0 ∨ 125 < q then exc 3
    else match mbRegs s.net.map (decide (fc = 3)) a q with
      | none => exc 2
      | some l => t.mbReads conn hdr fc l
  else if fc = 6 then
    if pdu.length ≠ 5 then exc 3
    else match mbWrites s.net.map a [q] with
      | none => exc 2
      | some l => (t.mbIssue l).mbSend conn hdr pdu
  else if fc = 16 then
    if pdu.length ≠ 6 + 2 * q ∨ q = 0 ∨ 123 < q ∨ ofBe (slice 5 1 pdu) ≠ 2 * q then exc 3
    else match mbWrites s.net.map a (mbVals (pdu.drop 6)) with
      | none => exc 2
      | some l => (t.mbIssue l).mbSend conn hdr (pdu.take 5)
  else if fc = 23 then
    let wa := ofBe (slice 5 2 pdu)
    let wq := ofBe (slice 7 2 pdu)
    if pdu.length ≠ 10 + 2 * wq ∨ q = 0 ∨ 125 < q ∨ wq = 0 ∨ 121 < wq ∨ ofBe (slice 9 1 pdu) ≠ 2 * wq then exc 3
    else match mbRegs s.net.map true a q, mbWrites s.net.map wa (mbVals (pdu.drop 10)) with
      | some l, some w => (t.mbIssue w).mbReads conn hdr fc l
      | _, _ => exc 2
  else exc 1

/-! ### The end of host reads (R29) -/

/-- Every value has come. -/
def Txn.done (t : Txn) : Bool := decide (t.need ≤ t.got.length)

def State.txnDrop (s : State) (t : Txn) : State :=
  { s with fab := { s.fab with txns := s.fab.txns.filter (fun u => decide (u.id ≠ t.id)) } }

/-- The answer of a Modbus read. -/
def State.mbFinish (s : State) (t : Txn) : State :=
  match t.kind with
  | .modbus conn hdr fc =>
    let half (p : Nat × Bool) : Nat := let v := (t.values.getD p.1 0).toNat; if p.2 then v / 65536 else v % 65536
    let u := (s.txnDrop t).mbSend conn hdr
      ([BitVec.ofNat 8 fc, BitVec.ofNat 8 (2 * t.shape.length)] ++ (t.shape.map (fun p => beBytes 2 (half p))).flatten)
    { u with net := { u.net with mbBusy := false } }
  | _ => s

/-- A complete Modbus read. -/
def Txn.mbDone (t : Txn) : Bool :=
  t.done && (match t.kind with | .modbus _ _ _ => true | _ => false)

/-- The server answers a finished read and executes the requests that wait, one after the other (R135);
the first argument bounds their number. (DESIGN CHOICE, log entry 58.) -/
def State.mbPump : Nat → State → State
  | 0, s => s
  | n + 1, s =>
    match s.fab.txns.find? Txn.mbDone with
    | some t => State.mbPump n (s.mbFinish t)
    | none =>
      if s.net.mbBusy then s
      else match s.net.mbQueue with
        | [] => s
        | r :: rest => State.mbPump n (State.mbServe { s with net := { s.net with mbQueue := rest } } r.1 r.2)

/-- The requester of a finished read gets its values. -/
def State.txnEnd (s : State) (t : Txn) : State :=
  match t.kind with
  | .kmp n op ctr => (s.txnDrop t).kmpReply n op ctr 0 ((t.values.map (fun w => leBytes 4 w.toNat)).flatten)
  | .hspi =>
    let u := s.txnDrop t
    { u with net := { u.net with hspi := u.net.hspi.map (fun r => { r with value := t.values.head? }) } }
  | .direct => (s.txnDrop t).each t.values (fun u v => u.send (.reply t.requester v))
  | .modbus _ _ _ => s

/-- Reads whose values have all come are answered. -/
def State.readsSettle (s : State) : State :=
  let a := s.each (s.fab.txns.filter Txn.done) State.txnEnd
  if a.serves then a.mbPump (2 * a.net.mbQueue.length + 2) else a

/-- The oldest reply on the event leat reaches its requester (R29). -/
def State.readReply (s : State) : State :=
  match s.fab.replies with
  | [] => s
  | r :: rest =>
    State.readsSettle (State.txnGot { s with fab := { s.fab with replies := rest } } r.txn r.idx r.value)

/-! ### Modbus connections (R135) -/

/-- The server takes connections. -/
def State.mbOpen (s : State) : Bool := s.isLoaded && s.serves && s.on NET_MB_CFG_SERVER_EN

/-- A client connects; `src` is its IPv4 address, 0 for IPv6. -/
def State.mbConnect (s : State) (conn src : Nat) : State :=
  if !s.mbOpen || !s.reaches src || s.net.conns.contains conn then s
  else if s.net.conns.length < s.get NET_MB_CFG_MAX_CONN then
    let t := State.setConns (s.send (.tcp false conn true)) (s.net.conns ++ [conn])
    if src = 0 then t else { t with net := { t.net with conns4 := conn :: t.net.conns4 } }
  else ((s.send (.tcp false conn true)).send (.tcp false conn false)).nev 0x8007 src

/-- A connection has been idle for IDLE_S. -/
def State.mbIdle (s : State) (conn : Nat) : State :=
  if s.mbOpen && s.net.conns.contains conn then
    State.setConns (s.send (.tcp false conn false)) (s.net.conns.filter (fun c => decide (c ≠ conn)))
  else s

/-- The function codes that the server executes. -/
def mbCodes : List Nat := [3, 4, 6, 16, 23]

/-- A request of function code `own`, or of one that the server does not know, arrives on a connection.
(DESIGN CHOICE, log entry 58.) -/
def State.mbRequest (s : State) (own conn : Nat) (adu : List Byte) : State :=
  let fc := ofBe (slice 7 1 adu)
  if (fc ≠ own ∧ fc ∈ mbCodes) ∨ adu.length < 8 ∨ ofBe (slice 2 2 adu) ≠ 0 ∨ ofBe (slice 4 2 adu) + 6 ≠ adu.length then s
  else if !s.mbOpen || !s.net.conns.contains conn then s
  else State.readsSettle { s with net := { s.net with mbQueue := s.net.mbQueue ++ [(conn, adu)] } }

/-! ### Host SPI port (R145 to R148) -/

/-- The frame's status and result words; a read that has returned is delivered. (DEDUCED, log entry 57.) -/
def State.hspiDeliver (s : State) : State :=
  let irq : Nat := if s.hspiIrq then 2 ^ 30 else 0
  match s.net.hspi with
  | some { tag := tag, addr := addr, value := some v } =>
    let t := s.send (.hspi (BitVec.ofNat 32 (2 ^ 31 + irq + tag * 2 ^ 24 + addr)) v)
    { t with net := { t.net with hspi := none } }
  | _ => s.send (.hspi (BitVec.ofNat 32 irq) 0)

/-- A frame of OP `own`, or a reserved one, of `clocks` clocks, once the port is configured (R50, R147).
(DEDUCED, log entry 57.) -/
def State.hspiFrame (s : State) (own : Nat) (cmd : Word) (clocks : Nat) (run : State → State) : State :=
  let op := bits cmd 31 30
  if (op ≠ own ∧ op ≠ 3) ∨ !s.configured then s
  else if s.caddy.fwRestart then s.send (.hspi 0x20000000 0)
  else
    let t := s.hspiDeliver
    if clocks ≠ 64 ∨ op = 3 ∨ cmd.getLsbD 29 then t.inc NET_HSPI_ERR_BAD_FRAMES else run t

/-- READ (R146). -/
def State.hspiRead (s : State) (cmd : Word) : State :=
  if s.net.hspi.isSome then s.inc NET_HSPI_ERR_READ_BUSY
  else
    let t : State := { s with net := { s.net with hspi := some { tag := bits cmd 28 24, addr := bits cmd 23 0 } } }
    (t.txnStart 0x10 .hspi [bits cmd 23 0] []).1.readsSettle

end Sys2Proof.Machine
end

