-- ==== Sys2Proof/Machine/KmpOps.lean ====
section
/-! DEFINITION. The operations of KMP (R122 to R134, R298, R340, R442, R444): the checks of a datagram,
sessions, register access, and bulk transfers with their timers. -/

namespace Sys2Proof.Machine

open Reg

/-! ### The checks of a datagram (R125 to R131, R134) -/

/-- The operations a client may ask for (R129). (DESIGN CHOICE, log entry 43.) -/
def kmpOps : List Nat := [0x01, 0x03, 0x10, 0x11, 0x12, 0x20, 0x21, 0x30, 0x40, 0x50, 0x60, 0x70, 0x80, 0x81]

/-- Requester of a session; the bare-mode services have a number of their own (DESIGN CHOICE).
(DESIGN CHOICE, log entry 13.) -/
def kmpReq (n : Nat) : Nat := if n = 0xFF then 0xFF else 0x40 + n

/-- A datagram from the client at IPv4 `src` (0 for IPv6): it is dropped, refused, or executed by `run` in
its session, 0xFF in bare mode.  `mine` picks the datagrams of this command; one of an unknown operation
is answered here too.  `operate` says which need the role OPERATE. (DESIGN CHOICE, log entries 43, 44.) -/
def State.kmpRun (s : State) (src : Nat) (dg : List Byte) (mine operate : Kmp → Bool) (bareOk : Bool)
    (run : State → Nat → Kmp → State) : State :=
  if !s.serves || !s.reaches src then s
  else match kmpParse dg with
  | none => if s.isBare then s else s.kmpTagFail src
  | some m =>
    if (!mine m && kmpOps.contains m.op) || m.ver ≠ 1 || m.reply then s
    else if s.isBare then
      if m.sess ≠ 0xFF then s.kmpTagFail src
      else if mine m && bareOk then run s 0xFF m
      else s.kmpReply 0xFF m.op m.ctr 0x04 []
    else
      let x := s.session m.sess
      if 8 ≤ m.sess || !s.on (NET_SESSION_OPEN m.sess) || kmpTag x.key m.signed ≠ m.tag then s.kmpTagFail src
      else if !ctrFresh x m.ctr then s.inc NET_KMP_STATS_REPLAY_DROP
      else
        let t := s.setSession m.sess (x.accept m.ctr s.tim.mono)
        if !mine m then t.kmpReply m.sess m.op m.ctr 0x01 []
        else if operate m && !s.on (NET_SESSION_OPERATE m.sess) then t.kmpReply m.sess m.op m.ctr 0x03 []
        else run t m.sess m

/-- As `kmpRun`, for the datagrams of one operation. (DESIGN CHOICE, log entry 43.) -/
def State.kmpOp (s : State) (src : Nat) (dg : List Byte) (op : Nat) (operate bareOk : Bool)
    (run : State → Nat → Kmp → State) : State :=
  s.kmpRun src dg (fun m => decide (m.op = op)) (fun _ => operate) bareOk run

/-- The request is done, is malformed, or is refused for a reason of the owning block (R131). -/
def State.kmpDone (s : State) (n : Nat) (m : Kmp) : State := s.kmpReply n m.op m.ctr 0 []
def State.kmpBad (s : State) (n : Nat) (m : Kmp) : State := s.kmpReply n m.op m.ctr 0x02 []
def State.kmpRefuse (s : State) (n : Nat) (m : Kmp) (reason : Nat) : State :=
  s.kmpReply n m.op m.ctr 0x06 [BitVec.ofNat 8 reason]

/-! ### Sessions (R124, R128) -/

/-- WELCOME, or the refusal in its place, under the pre-shared key; the spec gives its COUNTER no value.
(DESIGN CHOICE, log entry 41.) -/
def State.kmpWelcome (s : State) (psk : List Byte) (status : Nat) (body : List Byte) : State :=
  let dg := kmpBytes 0x02 0xFF (s.free 64).toNat status body
  s.took.send (.kmp (dg ++ kmpTag psk dg))

/-- The lowest session that is not open. (DESIGN CHOICE, log entry 42.) -/
def State.freeSession (s : State) : Option Nat := (List.range 8).find? (fun n => !s.on (NET_SESSION_OPEN n))

/-- Sessions that wait for their first datagram. -/
def State.pendingSessions (s : State) : Nat := (s.openSessions.filter (fun n => (s.session n).pending)).length

/-- A HELLO whose tag is good under key `key`. (DEDUCED, log entries 45, 47.) -/
def State.helloRun (s : State) (src key : Nat) (psk : List Byte) (operate : Bool) (m : Kmp) : State :=
  let back := leBytes 8 m.ctr
  if m.body.length ≠ 20 then s.kmpWelcome psk 0x02 back
  else
    let nc := slice 4 16 m.body
    let t : State := { s with net := { s.net with nonces := (nc :: s.net.nonces).take 64 } }
    if s.net.nonces.contains nc then t
    else
      match t.freeSession with
      | none => t.kmpWelcome psk 0x08 back
      | some n =>
        if 2 ≤ t.pendingSessions then t.kmpWelcome psk 0x0A back
        else
          let ns := leBytes 16 (t.free 128).toNat
          let ks := hmac256 psk ([0x4B, 0x4D, 0x50, 0x31] ++ nc ++ ns ++ [BitVec.ofNat 8 n])
          let u := t.took.kmpWelcome psk 0
            (back ++ [BitVec.ofNat 8 n, if operate then 1 else 0, 0, 0] ++ ns)
          u.openSession n key operate ks src

/-- HELLO (R124). (DEDUCED, DESIGN CHOICE, log entries 45, 46.) -/
def State.hello (s : State) (src : Nat) (dg : List Byte) : State :=
  if !s.serves || !s.reaches src then s
  else match kmpParse dg with
  | none => if s.isBare then s else s.kmpTagFail src
  | some m =>
    if m.op ≠ 0x01 || m.ver ≠ 1 || m.reply then s
    else if m.sess ≠ 0xFF then s.kmpTagFail src
    else if s.isBare then s.kmpReply 0xFF m.op m.ctr 0x04 []
    else
      let key := ofLe (slice 0 1 m.body)
      match s.net.keys[key]? with
      | none => s.kmpTagFail src
      | some k => if m.body = [] || kmpTag k.1 m.signed ≠ m.tag then s.kmpTagFail src else s.helloRun src key k.1 k.2 m

/-- BYE: its reply is the last datagram of the session. -/
def State.bye (s : State) (n : Nat) (m : Kmp) : State :=
  if m.body ≠ [] then s.kmpBad n m else (s.kmpDone n m).closeSession n 0

/-- A pending session has waited 5 s; a session has been idle for 60 s. (DESIGN CHOICE, log entry 48.) -/
def State.pendingEnd (s : State) (n : Nat) : State := if (s.session n).pending then s.closeSession n 1 else s
def State.idleEnd (s : State) (n : Nat) : State := if (s.session n).pending then s else s.closeSession n 1

/-! ### Register access (R129, R130) -/

/-- Groups of `k` bytes as little-endian numbers. -/
def leNats (k : Nat) (l : List Byte) : List Nat := (chunks k l).map ofLe

/-- READ: the reply follows when every value has come. (DEDUCED, log entry 51.) -/
def State.kmpReads (s : State) (n : Nat) (m : Kmp) (addrs : List Nat) : State :=
  (s.txnStart (kmpReq n) (.kmp n m.op m.ctr) addrs []).1.readsSettle

def State.kmpRead (s : State) (n : Nat) (m : Kmp) : State :=
  let l := m.body.length
  if l = 0 ∨ l % 4 ≠ 0 ∨ 256 < l then s.kmpBad n m else s.kmpReads n m (leNats 4 m.body)

/-- BLOCK READ: the word count is what follows the four bytes of the address. (DEDUCED, log entry 49.) -/
def State.kmpBlockRead (s : State) (n : Nat) (m : Kmp) : State :=
  let a := ofLe (slice 0 4 m.body)
  let c := ofLe (m.body.drop 4)
  if m.body.length < 5 ∨ c = 0 ∨ 256 < c then s.kmpBad n m
  else s.kmpReads n m ((List.range c).map (fun i => a + 4 * i))

/-- WRITE: pairs of address and value. (DEDUCED, log entry 51.) -/
def State.kmpWrite (s : State) (n : Nat) (m : Kmp) : State :=
  let l := m.body.length
  if l = 0 ∨ l % 8 ≠ 0 ∨ 512 < l then s.kmpBad n m
  else
    let pairs := (chunks 8 m.body).map (fun p => (ofLe (slice 0 4 p), BitVec.ofNat 32 (ofLe (slice 4 4 p))))
    (s.each pairs (fun t p => t.issueWrite (kmpReq n) p.1 p.2)).kmpDone n m

/-! ### Log, heartbeat and time (R149, R164, R442 to R444) -/

/-- LOG READ: the count is what follows the six bytes of the first number.  `bad` are the SEQs whose records
fail their CRC, with the die addresses of their sectors. (DEDUCED, log entry 49.) -/
def State.kmpLogRead (bad : List (Nat × Nat)) (s : State) (n : Nat) (m : Kmp) : State :=
  let c := ofLe (m.body.drop 6)
  if m.body.length < 7 ∨ c = 0 ∨ 40 < c then s.kmpBad n m
  else
    let first := ofLe (slice 0 6 m.body)
    let r := s.logRead first c (bad.map (fun p => p.1))
    let last := match r.recs.getLast? with
      | some x => x.seq
      | none => r.hwm
    let hit := bad.filter (fun p => decide (first ≤ p.1) && decide (p.1 ≤ last) &&
      s.available.any (fun x => x.seq = p.1))
    (s.logBad (hit.map (fun p => p.2))).kmpReply n m.op m.ctr r.status (leBytes 6 r.hwm ++ leBytes 2 r.flags ++ (r.recs.map LogRec.bytes).flatten)

/-- LOG FREEZE is a write to LOG_FREEZE from the session (R444). -/
def State.kmpFreeze (s : State) (n : Nat) (m : Kmp) : State :=
  if m.body = [1] then (s.issueWrite (kmpReq n) LOG_FREEZE 0xF4EE0100).kmpDone n m
  else if m.body = [0] then (s.issueWrite (kmpReq n) LOG_FREEZE 0xF4EE0200).kmpDone n m
  else s.kmpBad n m

/-- HEARTBEAT (R149). -/
def State.kmpBeat (s : State) (n : Nat) (m : Kmp) : State :=
  if m.body ≠ [] then s.kmpBad n m else (s.heartbeat (kmpReq n)).kmpDone n m

/-- SET TIME: seconds in 6 bytes, nanoseconds in 4 (R164). (DESIGN CHOICE, log entry 50.) -/
def State.kmpSetTime (s : State) (n : Nat) (m : Kmp) : State :=
  let ns := ofLe (slice 6 4 m.body)
  if m.body.length ≠ 10 ∨ 1000000000 ≤ ns then s.kmpBad n m
  else if s.setRefused then s.kmpRefuse n m 1
  else (s.timeSet (ofLe (slice 0 6 m.body) * 1000000000 + ns) s.tim.site).kmpDone n m

/-! ### Bulk transfers (R132) -/

/-- A transfer carries data out of the module. -/
def Xfer.out (x : Xfer) : Bool := match x.kind with | .cup _ => true | .snapOut _ => true | _ => false

def State.xferOf (s : State) (n : Nat) (out : Bool) : Option Xfer :=
  s.net.xfers.find? (fun x => decide (x.session = n) && (x.out == out) && !x.ready)

/-- Replace the transfer of a session. -/
def State.setXfer (s : State) (x : Xfer) : State :=
  { s with net := { s.net with xfers := s.net.xfers.map (fun y => if y.session = x.session then x else y) } }

/-- A session runs one transfer, and the module two. (DEDUCED, log entry 54.) -/
def State.xferFull (s : State) (n : Nat) : Bool :=
  s.net.xfers.any (fun x => decide (x.session = n)) || decide (2 ≤ s.net.xfers.length)

def State.xferAdd (s : State) (x : Xfer) : State := { s with net := { s.net with xfers := s.net.xfers ++ [x] } }

/-- A stream out ends when the client has acknowledged all of it. (DESIGN CHOICE, log entry 52.) -/
def State.outDone (s : State) (x : Xfer) : State :=
  if x.len = some x.acked then (s.xferDrop x).kmpReply x.session x.op x.ctr 0 [] else s

/-- A byte of a stream out. -/
def State.xferByte (s : State) (x : Xfer) (o : Nat) : Byte :=
  match x.kind with
  | .cup off => s.cupByte (off + o)
  | _ => x.data.getD o 0

/-- CUP READ (R340, R496). (DESIGN CHOICE, DEDUCED, log entries 50, 54.) -/
def State.kmpCupRead (s : State) (n : Nat) (m : Kmp) : State :=
  let off := ofLe (slice 0 8 m.body)
  let len := ofLe (slice 8 8 m.body)
  if m.body.length ≠ 16 ∨ 2 ^ 27 < off + len then s.kmpBad n m
  else if s.xferFull n then s.kmpReply n m.op m.ctr 0x05 []
  else
    let x : Xfer := { session := n, op := m.op, ctr := m.ctr, kind := .cup off, len := some (min len 0x4000000) }
    (s.xferAdd x).outDone x

/-- The next DATA datagram of transfer `i`: at most 64 are unacknowledged. -/
def State.bulkSend (s : State) (i : Nat) : State :=
  match s.net.xfers[i]? with
  | none => s
  | some x =>
    let k := min 1024 (x.len.getD 0 - x.next)
    if !x.out || k = 0 || decide (65536 ≤ x.next - x.acked) then s
    else
      let l := (List.range k).map (fun j => s.xferByte x (x.next + j))
      (s.setXfer { x with next := x.next + k }).kmpSend x.session 0x80 0 (leBytes 8 x.next ++ l)

/-- ACK of a stream out. -/
def State.bulkAck (s : State) (n : Nat) (m : Kmp) : State :=
  match s.xferOf n true with
  | none => s
  | some x =>
    let o := ofLe m.body
    if m.body.length ≠ 8 ∨ o ≤ x.acked ∨ x.len.getD 0 < o then s
    else
      let y : Xfer := { x with acked := o, next := max x.next o }
      (s.setXfer y).outDone y

/-- 100 ms without advance: send again from the acknowledged offset. -/
def State.bulkResend (s : State) (i : Nat) : State :=
  match s.net.xfers[i]? with
  | none => s
  | some x => if x.out then s.setXfer { x with next := x.acked } else s

/-- The receiver's ACK. -/
def State.ackSend (s : State) (x : Xfer) : State :=
  (s.setXfer { x with since := 0 }).kmpSend x.session 0x81 0 (leBytes 8 x.next)

/-- 10 ms without DATA. -/
def State.bulkAckTimer (s : State) (i : Nat) : State :=
  match s.net.xfers[i]? with
  | none => s
  | some x => if x.out || x.ready then s else s.ackSend x

/-- 5 s without advance. -/
def State.bulkAbandon (s : State) (i : Nat) : State :=
  match s.net.xfers[i]? with
  | none => s
  | some x => if x.ready then s else (s.xferDrop x).kmpReply x.session x.op x.ctr 0x09 []

/-! ### CADDY WRITE (R96, R133) -/

/-- Slot, length and flags, in 1, 4 and 1 bytes. (DEDUCED, DESIGN CHOICE, log entries 49, 53.) -/
def State.kmpCaddyWrite (s : State) (n : Nat) (m : Kmp) : State :=
  let slot := ofLe (slice 0 1 m.body)
  let len := ofLe (slice 1 4 m.body)
  if m.body.length ≠ 6 ∨ 1 < slot ∨ len = 0 ∨ slotSize < len then s.kmpBad n m
  else if s.isLoaded ∧ slot = s.caddy.slot then s.kmpRefuse n m 1
  else if s.caddy.swap.isSome then s.kmpRefuse n m 4
  else if s.caddy.writing then s.kmpRefuse n m 3
  else if s.xferFull n then s.kmpReply n m.op m.ctr 0x05 []
  else
    let t := State.busyShow { s with caddy := { s.caddy with writing := true } }
    ((t.setReg (CADDY_SLOT_STATUS slot) 0).setReg (CADDY_SLOT_SEQ slot) 0).xferAdd {
      session := n, op := m.op, ctr := m.ctr, kind := .caddy slot (ofLe (slice 5 1 m.body) % 2 = 1), len := some len }

/-- Bytes of an image are programmed; each sector is erased before its first byte. -/
def State.caddyProgram (s : State) (slot off : Nat) (l : List Byte) : State :=
  s.each l.zipIdx (fun t p =>
    let a := slotBase slot + off + p.2
    (if a % 65536 = 0 then t.flashErase a else t).flashProg a p.1)

/-- Where reads fail of the slots that caddy writes fill (R89, R96). -/
def State.noteBad (s : State) (bad : Nat) : State :=
  s.each s.net.xfers (fun t x => match x.kind with
    | .caddy n _ => { t with nv := { t.nv with bad := tset (fun _ => 0) t.nv.bad n bad } }
    | _ => t)

/-- The last byte of an image is programmed: the checks, the swap that was asked for, the answer.
(DESIGN CHOICE, log entry 53.) -/
def State.caddyEnd (s : State) (x : Xfer) (slot : Nat) (swap : Bool) : State :=
  let t := (s.xferDrop x).slotCheck slot
  let reason := t.get (CADDY_SLOT_STATUS_REASON slot)
  let ok (u : State) : State := u.kmpReply x.session x.op x.ctr 0 []
  let no (u : State) (r : Nat) : State := u.kmpReply x.session x.op x.ctr 0x06 [BitVec.ofNat 8 r]
  if !t.slotValid slot then no t reason
  else if !swap then ok t
  else
    if t.swapReason ≠ 0 then
      no (t.writeAt (kmpReq x.session) CADDY_SWAP_CMD 0x5C4D0000) t.swapReason
    else (ok t).writeAt (kmpReq x.session) CADDY_SWAP_CMD 0x5C4D0000

/-! ### SNAPSHOT (R294, R298) -/

/-- The bodies an operand of SNAPSHOT names. -/
def snapBodies (s : State) (k : Nat) : List Nat := s.bodies.filter (fun j => decide (k = 0xFF) || decide (j = k))

/-- The file of an export: every cell record with its remainder word, version 2 (R298). -/
def State.exportFile (s : State) (l : List Nat) : List Byte :=
  s.snapFile 2 s.mill.snapSeq (l.map (fun k =>
    { body := k, tm := (s.body k).tm, digest := (s.body k).digest
      records := (List.range (s.cellsOf k)).map (fun i => let c := (s.body k).cell i; c.bytes ++ leBytes 4 c.remWord) }))

/-- A SNAPSHOT datagram of a direction, or one of neither. -/
def snapMine (dir : Byte) (m : Kmp) : Bool :=
  decide (m.op = 0x50) && (decide (m.body.length ≠ 2) || decide (m.body.take 1 ∉ [[1 - dir]]))

/-- Export: the bodies' steps wait while the stream runs. (DEDUCED, log entry 49.) -/
def State.kmpExport (s : State) (n : Nat) (m : Kmp) : State :=
  let k := ofLe (m.body.drop 1)
  if m.body.length ≠ 2 ∨ m.body.take 1 ≠ [0] ∨ (15 < k ∧ k ≠ 0xFF) then s.kmpBad n m
  else if s.xferFull n then s.kmpReply n m.op m.ctr 0x05 []
  else
    let l := snapBodies s k
    let f := s.exportFile l
    let t := s.each l (fun u j => u.setBody j { u.body j with exporting := true })
    (t.tookN 39).xferAdd {
      session := n, op := m.op, ctr := m.ctr, kind := .snapOut l, len := some f.length, data := f }

/-- Import: the data follow. (DEDUCED, log entry 49.) -/
def State.kmpImport (s : State) (n : Nat) (m : Kmp) : State :=
  let k := ofLe (m.body.drop 1)
  if m.body.length ≠ 2 ∨ m.body.take 1 ≠ [1] ∨ (15 < k ∧ k ≠ 0xFF) then s.kmpBad n m
  else if s.xferFull n then s.kmpReply n m.op m.ctr 0x05 []
  else s.xferAdd { session := n, op := m.op, ctr := m.ctr, kind := .snapIn k, len := none }

/-- The length that a file's descriptors give, once they have come. -/
def snapLen (f : List Byte) : Option Nat :=
  if f.length < 576 then none
  else some (580 + 20 * (((List.range 16).filter (fun k => (snapField f k).present)).map (fun k => (snapField f k).count)).sum)

/-- The bodies an import writes: those asked for that the file holds; with one body asked for, that body
in any case. (DESIGN CHOICE, log entry 56.) -/
def importBodies (f : List Byte) (k : Nat) : List Nat :=
  if k = 0xFF then (List.range 16).filter (fun j => (snapField f j).present) else [k]

/-- The file's record of a body fits the body: it is there, with the same geometry.
(DESIGN CHOICE, log entry 56.) -/
def State.importFits (s : State) (f : List Byte) (k : Nat) : Bool :=
  let d := snapField f k
  d.present && s.bodies.contains k && decide (d.digest = (s.body k).digest.take 8) && decide (d.count = s.cellsOf k)

/-- A body takes its cells from a file and goes on from the imported model time; grain whose crop is not defined
comes in as headspace (R230). (DESIGN CHOICE, log entry 155.) -/
def State.importBody (s : State) (f : List Byte) (k : Nat) : State :=
  let d := snapField f k
  let known (c : Cell) : Cell :=
    if c.grain && !s.cropValid (c.cf % 32) then
      { Cell.voidCell with ta := c.ta, wa := c.wa, ps := c.ps, cf := c.cf / 32 * 32 }
    else c
  let cells := (snapRecords f k 20).zipIdx.foldl (fun (a : List (Nat × Cell)) p =>
    tset (fun _ => ({} : Cell)) a p.2 { known (cellOf p.1) with prop := ((s.body k).cell p.2).prop }) []
  let b : Body := { s.body k with
    cells := cells, tm := d.tm, firm := d.tm, ring := [], ready := [], run := none, late := [], readings := [],
    rollTo := none, rollSteps := [], acc := {}, holdDue := false, pauseDue := false, snapDue := false }
  let t := (s.setBody k { b with nextSolve := d.tm, resolveTe := none }).anchorCells k
  let r := t.readInputs k t.est.actFront
  let res := r.1.pubResults k (r.1.stepEnv k r.2)
  let u := r.1.setBody k { r.1.body k with lastPubs := res, firmPubs := res }
  let v := ((u.setBst k bRunning).bodyPublish k).solveWant k 0
  let w : State := { v with caddy := { v.caddy with swapPaused := v.caddy.swapPaused.filter (fun j => decide (j ≠ k)) } }
  (((w.setBody k { w.body k with ready := w.readyUpTo k }).heldAgain k true).bodyNext k).mev 0x6037 k 0

/-- Imports whose bodies have all paused are carried out and answered. (DESIGN CHOICE, log entry 56.) -/
def State.importSettle (s : State) : State :=
  s.each (s.net.xfers.filter (fun x => x.ready)) (fun t x =>
    match x.kind with
    | .snapIn k =>
      let l := importBodies x.data k
      if l.all (fun j => t.caddy.swapPaused.contains j) then
        let u : State := { t with net := { t.net with xfers := t.net.xfers.filter (fun y => decide (y ≠ x)) } }
        ((u.each l (fun v j => v.importBody x.data j)).kmpReply x.session x.op x.ctr 0 []).swapGo
      else t
    | _ => t)

/-- The last byte of an import has come: the file is judged, and its bodies pause.
(DESIGN CHOICE, log entry 56.) -/
def State.importEnd (s : State) (x : Xfer) (k : Nat) : State :=
  let f := x.data
  let l := importBodies f k
  let bad := l.filter (fun j => !s.importFits f j)
  if !snapOk 2 f then
    (s.xferDrop x).kmpReply x.session x.op x.ctr 0x02 []
  else if bad ≠ [] then
    ((s.xferDrop x).each bad (fun t j => t.mev 0x6037 j 2)).kmpReply x.session x.op x.ctr 0x06 [2]
  else
    let t := s.setXfer { x with ready := true }
    (t.each (l.filter (fun j => !t.caddy.swapPaused.contains j)) State.pauseBody).importSettle

/-! ### DATA into the module -/

/-- Data at the expected offset. (DESIGN CHOICE, log entry 52.) -/
def State.bulkTake (s : State) (x : Xfer) (l : List Byte) : State :=
  match x.kind with
  | .caddy slot swap =>
    let len := x.len.getD 0
    let d := l.take (len - x.next)
    let y : Xfer := { x with next := x.next + d.length, since := x.since + 1 }
    let t := (s.caddyProgram slot x.next d).setXfer y
    if y.next = len then t.caddyEnd y slot swap else if 8 ≤ y.since then t.ackSend y else t
  | .snapIn k =>
    let f := x.data ++ l
    let len := snapLen f
    let d := match len with | some n => f.take n | none => f
    let y : Xfer := { x with next := d.length, since := x.since + 1, data := d, len := len }
    let t := s.setXfer y
    if len = some d.length then t.importEnd y k else if 8 ≤ y.since then t.ackSend y else t
  | _ => s

/-- A DATA datagram: only data at the expected offset are stored, every one counts towards an ACK.
(DESIGN CHOICE, log entry 52.) -/
def State.bulkData (s : State) (n : Nat) (m : Kmp) : State :=
  match s.xferOf n false with
  | none => s
  | some x =>
    let l := m.body.drop 8
    if l = [] ∨ 1024 < l.length then s
    else if ofLe (m.body.take 8) = x.next then s.bulkTake x l
    else if 7 ≤ x.since then s.ackSend { x with since := 0 }
    else s.setXfer { x with since := x.since + 1 }

end Sys2Proof.Machine
end

