-- ==== Sys2Proof/Machine/ClientOps.lean ====
section
/-! DEFINITION. The Modbus TCP client (R141 to R144) and the end of a restart of the management firmware
(R98, R144). -/

namespace Sys2Proof.Machine

open Reg

/-! ### The client's servers (R141) -/

def State.client (s : State) (m : Nat) : Client := tget (fun _ => {}) s.net.clients m
def State.setClient (s : State) (m : Nat) (c : Client) : State :=
  { s with net := { s.net with clients := tset (fun _ => {}) s.net.clients m c } }

/-- The client runs, and server `m` is configured (R141, R144). -/
def State.clientRuns (s : State) (m : Nat) : Bool :=
  s.isLoaded && s.serves && decide (s.get (NET_CLIENT_CFG_PERIOD m) ≠ 0)

/-! ### Values of network outputs (R142) -/

/-- Nearest integer of `p / q`, ties away from zero. (DEDUCED, log entry 61.) -/
def awayDiv (p : Int) (q : Nat) : Int :=
  let m : Int := ((2 * p.natAbs + q) / (2 * q) : Nat)
  if p < 0 then -m else m

/-- A value times 10^`d` as an integer between two bounds; an infinity saturates. (DEDUCED, log entry 61.) -/
def scaledInt (v : F32) (d : Nat) (lo hi : Int) : Int :=
  if fIsFinite v then let x := fexact v; clampI lo hi (awayDiv (x.1 * 10 ^ d) (2 ^ x.2))
  else if v.getLsbD 31 then lo else hi

/-- The registers that carry a value in a format: 0 int16, 1 uint16, 2 int32, 3 binary32.
(DEDUCED, log entry 61.) -/
def netRegs (format d : Nat) (v : F32) : List Byte :=
  match format with
  | 0 => beBytes 2 (ofSigned 16 (scaledInt v d (-32768) 32767))
  | 1 => beBytes 2 (scaledInt v d 0 65535).toNat
  | 2 => beBytes 4 (ofSigned 32 (scaledInt v d (-2147483648) 2147483647))
  | _ => beBytes 4 (fmul v (fofNat (10 ^ d))).toNat

/-- The transactions of a poll of server `m`: its enabled outputs in ascending order, then its readback
(R143). -/
def State.pollList (s : State) (m : Nat) : List (List Byte × Option (Nat × F32)) :=
  let outs := (List.range 16).filterMap (fun n =>
    match s.est.netout.find? (fun p => p.1 = n) with
    | none => none
    | some p =>
      if !s.on (NET_NETOUT_ENABLE n) || decide (s.get (NET_NETOUT_SERVER n) ≠ m) || fIsNaN p.2 then none
      else
        let d := netRegs (s.get (NET_NETOUT_FORMAT n)) (s.get (NET_NETOUT_DECIMAL n)) p.2
        let pdu := [0x10] ++ beBytes 2 (s.get (NET_NETOUT_REG n)) ++ beBytes 2 (d.length / 2) ++
          [BitVec.ofNat 8 d.length] ++ d
        some (pdu, some (n, p.2)))
  outs ++ ((s.net.readback.filter (fun r => r.1 = m)).map (fun r =>
    ([0x03] ++ beBytes 2 r.2 ++ beBytes 2 2, none)))

/-! ### Polls (R143) -/

/-- The server is DOWN. (DESIGN CHOICE, log entry 60.) -/
def State.clientDown (s : State) (m : Nat) : State :=
  let c := s.client m
  let t := if c.down then s
    else s.nev 0x8008 m (s.get (NET_CLIENT_STATUS_LAST_EXC m)) (s.get (NET_CLIENT_STATUS_FAIL_COUNT m))
  let u := (t.putB (NET_CLIENT_STATUS_UP m) false).putB (NET_CLIENT_STATUS_CONNECTED m) false
  let v := if s.on (NET_CLIENT_STATUS_CONNECTED m) then u.send (.tcp true m false) else u
  v.setClient m { c.halt with down := true, run := 0, retry := 1 }

/-- A poll with a failed transaction has ended. (DESIGN CHOICE, log entry 60.) -/
def State.pollLost (s : State) (m : Nat) : State :=
  let c := s.client m
  if c.run = 2 then s.clientDown m else s.setClient m { c with polling := false, run := c.run + 1 }

/-- The next transaction of a poll is sent, or the poll ends. -/
def State.pollNext (s : State) (m : Nat) : State :=
  let c := s.client m
  match c.todo with
  | p :: rest =>
    let t := (s.setClient m { c with todo := rest, waiting := true, cur := p.1 }).send
      (.client m (BitVec.ofNat 8 (s.get (NET_CLIENT_CFG_UNIT_ID m)) :: p.1))
    (match p.2 with
      | some q => { t with est := { t.est with netSent := tset (fun _ => fNaN) t.est.netSent q.1 q.2 } }
      | none => t)
  | [] =>
    if c.failed then s.pollLost m
    else
      let t := s.setClient m { c with polling := false, run := 0, down := false }
      if s.on (NET_CLIENT_STATUS_UP m) then t
      else (t.putB (NET_CLIENT_STATUS_UP m) true).nev 0x8009 m

/-- A poll falls due; one that still runs delays it (R141). -/
def State.clientPoll (s : State) (m : Nat) : State :=
  let c := s.client m
  if !s.clientRuns m || !s.on NET_STATUS_IP4_OK || !s.on (NET_CLIENT_STATUS_CONNECTED m) then s
  else if c.polling then s.setClient m { c with due := true }
  else State.pollNext (s.setClient m { c with
    todo := s.pollList m, polling := true, due := false, failed := false, waiting := false }) m

/-- A poll that was delayed begins when the one before it has ended. -/
def State.pollDue (s : State) (m : Nat) : State :=
  if (s.client m).due && !(s.client m).polling then s.clientPoll m else s

/-- The transaction that waits is over. (DESIGN CHOICE, log entry 60.) -/
def State.pollWent (s : State) (m : Nat) (bad : Bool) : State :=
  let c := s.client m
  let t := s.setClient m { c with waiting := false, failed := c.failed || bad }
  ((if bad then t.incSat (NET_CLIENT_STATUS_FAIL_COUNT m) else t).pollNext m).pollDue m

/-- A response arrives: a result, or an exception.  Anything else is no response.
(DESIGN CHOICE, log entry 60.) -/
def State.clientResponse (s : State) (m : Nat) (pdu : List Byte) : State :=
  let c := s.client m
  let fc := ofBe (slice 0 1 c.cur)
  let got := ofBe (slice 0 1 pdu)
  if !s.clientRuns m || !c.waiting then s
  else if got = fc + 0x80 ∧ pdu.length = 2 then
    (s.put (NET_CLIENT_STATUS_LAST_EXC m) (ofBe (slice 1 1 pdu))).pollWent m true
  else if fc = 0x10 ∧ pdu = c.cur.take 5 then s.pollWent m false
  else if fc = 0x03 ∧ got = 0x03 ∧ pdu.length = 6 ∧ ofBe (slice 1 1 pdu) = 4 then
    (s.setReg (NET_CLIENT_READBACK m) (BitVec.ofNat 32 (ofBe (slice 2 4 pdu)))).pollWent m false
  else s

/-- 200 ms without a response. -/
def State.clientTimeout (s : State) (m : Nat) : State :=
  if s.clientRuns m && (s.client m).waiting then s.pollWent m true else s

/-- The connection is lost. -/
def State.clientLost (s : State) (m : Nat) : State :=
  if s.clientRuns m && s.on (NET_CLIENT_STATUS_CONNECTED m) then s.clientDown m else s

/-- The client tries to connect; a connection that cannot be made counts as a failed poll.
(DESIGN CHOICE, log entry 60.) -/
def State.clientConnect (s : State) (m : Nat) (ok : Bool) : State :=
  let c := s.client m
  if !s.clientRuns m || !s.on NET_STATUS_IP4_OK || s.on (NET_CLIENT_STATUS_CONNECTED m) then s
  else if ok then
    (((s.send (.connect m (s.reg (NET_CLIENT_ADDR m)) (s.get (NET_CLIENT_CFG_PORT m)))).putB
      (NET_CLIENT_STATUS_CONNECTED m) true).send (.tcp true m true)).setClient m { c with retry := 1 }
  else if c.down then s.setClient m { c with retry := min 30 (2 * c.retry) }
  else (s.setClient m { c with retry := min 30 (2 * c.retry) }).pollLost m

/-! ### End of a management firmware restart (R98, R144) -/

/-- The restart ends after `ms` ms: the network section of a swap applies, the swap is done, host services
resume, PTP ports send Announce and every server is polled at once (R170). (DEDUCED, log entry 40.) -/
def State.fwRestarted (s : State) (ms : Nat) : State :=
  if !s.mpUp || !s.caddy.fwRestart then s
  else
    let t := State.ev ({ s with caddy := { s.caddy with fwRestart := false } }.putB SYS_STATUS_MP_FW true) portCaddy 0x0026 ms
    let u := match t.caddy.swap with
      | none => t
      | some w =>
        if t.get CADDY_SWAP_STATUS_STATE ≠ 2 then t
        else
          let net : List Section := (t.imgSections w.slot).filter (fun x => x.type = 9)
          let ip6 := (net.map (fun (x : Section) => (Config.netSection (t.sectionBody w.slot x)).ip6)).flatten
          let v := if w.changed.any (fun p => p.1 = 9) then t.ip4Off.netStart ip6 else t
          v.swapDone w
    ((u.each [0, 1] State.ptpAnnounce).each (List.range 16) State.clientPoll).readsSettle

end Sys2Proof.Machine
end

