-- ==== Sys2Proof/Machine/TickOps.lean ====
section
/-! DEFINITION. What happens at a 100 µs tick of site time: the estimate leat and the actuation table
(R23 to R27, R273, R359, R388), the cup records it carries (R337), pulse rates (R215) and the
checkpoint of the control-plane lanes (R454). -/

namespace Sys2Proof.Machine

open Reg

/-- The banks of the estimate table are swapped, the epoch counts on, and the entries written in the
ended epoch are copied into the new back bank (R23, R24). -/
def State.estSwap (s : State) : State :=
  let front := s.est.back
  let back := s.est.written.foldl (fun (b : List (Nat × Word)) n =>
    (List.range 4).foldl (fun (c : List (Nat × Word)) w =>
      tset (fun _ => 0) c (4 * n + w) (tget (fun _ => 0) front (4 * n + w))) b) s.est.front
  let t : State := { s with est := { s.est with front := front, back := back, written := [] } }
  t.setReg MILL_EST_EPOCH (t.reg MILL_EST_EPOCH + 1)

/-- The motion time of a valve in s (R359). -/
def State.motionTime (s : State) (v : Nat) : F32 :=
  if (s.chan v).judged = 1 then fofRat (s.get (VALVE_MOTION_MOTION_US v)) 1000000 else fNaN

/-- The value that a word of the actuation map names, as entry `j` (R273).  The spec gives a network
output that no slot drives no value. (DESIGN CHOICE, log entry 85.) -/
def State.actValue (s : State) (j : Nat) (w : Word) : F32 :=
  match bits w 31 28 with
  | 0 =>
    let v := bits w 6 0
    if w.getLsbD 7 then s.motionTime v
    else if s.vst v = vRise ∨ s.vst v = vPeak ∨ s.vst v = vHold then fofNat 1 else 0
  | 1 => if w.getLsbD 4 then s.fanTach (bits w 3 0) else s.fanDutyValue (bits w 3 0)
  | 2 => s.reg (AIO_AO_READBACK (bits w 2 0))
  | 3 => s.reg (AIO_PI_RATE (bits w 1 0))
  | 4 => (match s.est.netout.find? (fun p => p.1 = bits w 3 0) with
    | some p => p.2
    | none => s.freeAt 32 j)
  | _ => 0

/-- Values of the new front bank that pass through to entries, and readings of their anchors (R36, R271, R290). -/
def State.actPass (s : State) : State :=
  s.each (List.range s.smap.acts.length) (fun t j =>
    let src : Word := BitVec.ofNat 32 (2 * 2 ^ 28 + j)
    let v := tget (fun _ => (0 : Word)) t.est.actFront j
    let u := t.each (t.passEntries src) (fun x e => x.publish e v fNaN (tickOf x.tim.dp) { valid := !fIsNaN v })
    if fIsNaN v then u else u.forward src v fNaN u.tim.dp)

/-- The banks of the actuation table are swapped, and then the control plane writes every entry of the back
bank: a value it writes is current from the next tick on (R27).  A fan or damper that has moved wants a solve
(R256). (DEDUCED, log entry 137.) -/
def State.actSwap (s : State) : State :=
  let vals := (s.smap.acts.zipIdx).foldl (fun (a : List (Nat × Word)) p =>
    tset (fun _ => 0) a p.2 (s.actValue p.2 p.1)) []
  let t : State := { s with est := { s.est with actFront := s.est.actBack, actBack := vals } }
  let u := ((t.setReg MILL_ACT_EPOCH (t.reg MILL_ACT_EPOCH + 1)).tookN s.smap.acts.length).actPass
  u.each ((List.range 16).filter (fun k => decide (bRunning ≤ u.bst k) && u.boundMoved k u.est.actFront))
    (fun x k => x.solveWant k 0)

/-- The lanes write their checkpoint (R454). (DEDUCED, log entry 111.) -/
def State.checkpoint (s : State) : State :=
  { s with rel := { s.rel with
      ckptEpoch := s.reg MILL_EST_EPOCH
      ckpt := (List.range 16).map (fun n => (n, (s.gmode n, s.slot n)))
      ckptIn := [] } }

/-- 100 µs of site time pass.  The leat swaps no banks while the data plane is stopped or the module is
halted (R33, R401). -/
def State.estTick (s : State) : State :=
  if !s.mpUp then s
  else
    let a := s.timeTick
    let swaps := a.dpUp && !a.guard.halted
    let b := if swaps then a.estSwap else a
    let c := if swaps && b.cpUp then b.actSwap.cupCarry else b
    let c := c.ledTick
    let d := if c.cpUp then c.each (List.range 4) (fun t n => t.pulseUpdate t.tim.cp n) else c
    (if d.cpRuns && !d.on REL_STATUS_HOLD then d.checkpoint else d).dispatch

/-! ### Requests that waited for a load; headrace sectors -/

/-- When a load has ended in bare mode the requests it held off are issued (R93, R94); reads whose values
have come are answered. -/
def State.bareServe (s : State) : State :=
  State.readsSettle (if s.caddy.phase = 4 then s.releaseHeld State.writeAt else s)

/-- An erase of a headrace sector completes (R438). (DEDUCED, log entry 131.) -/
def State.headSector (s : State) : State :=
  { s with log := { s.log with headErasing := s.log.headErasing - 1 } }

end Sys2Proof.Machine
end

