-- ==== Sys2Proof/Machine/CaddyCmds.lean ====
section
/-! DEFINITION. Meanings: the caddy loader, keys and swaps (R74, R88 to R100). -/

namespace Sys2Proof.Machine

open Reg

/-- The planes leave reset and the loader chooses a slot (R74, R90, R91). -/
def execPlaneRelease (octal : Bool) (badA : Fin 4) (badB : Fin 4) (repaired : List Nat) (s :
    State) : Res :=
  .next ((s.planeRelease octal badA badB repaired).bareServe)

/-- The first pass ends and the signature is verified (R91). -/
def execCaddyFirstPassDone (readErr : Bool) (s : State) : Res :=
  .next ((s.firstPassDone readErr).bareServe)

/-- The second pass ends (R91). -/
def execCaddySecondPassDone (altered : Bool) (readErr : Bool) (ms : Nat) (s : State) : Res :=
  .next ((s.secondPassDone altered readErr ms State.writeAt).bareServe)

/-- CADDY_KEY_CTRL programs a key slot (R88). -/
def execKeyProgram (req : Nat) (slot : Fin 4) (s : State) : Res :=
  .next (s.writeAt req CADDY_KEY_CTRL (0x0F7B0000 + BitVec.ofNat 32 (256 * slot.val)))

/-- CADDY_KEY_CTRL revokes a key slot (R88). -/
def execKeyRevoke (req : Nat) (slot : Fin 4) (s : State) : Res :=
  .next (s.writeAt req CADDY_KEY_CTRL (0x4E7F0000 + BitVec.ofNat 32 (256 * slot.val)))

/-- A write of the swap key (R95, R97), with what the loader finds of the flash. -/
def execCaddySwap (x : SwapWrite) (s : State) : Res :=
  .next (((s.flashFacts x.octal x.badA x.badB).writeAt x.req CADDY_SWAP_CMD 0x5C4D0000).bareServe)

/-- A body that a swap or an import paused goes on (R98, R298). -/
def execBodySwapResume (k : Fin 16) (s : State) : Res :=
  .next ((s.swapResume k).importSettle)

/-- The restart of the management firmware ends (R98, R144). -/
def execMgmtFwRestartDone (ms : Nat) (s : State) : Res :=
  .next (s.fwRestarted ms)

end Sys2Proof.Machine
end

