-- ==== Sys2Proof/Machine/DisplayCmds.lean ====
section
/-! DEFINITION. Meanings: the door panel and the last-word strip (R404 to R430). -/

namespace Sys2Proof.Machine

open Reg

/-- A blanking slot; `vf` is the sense sample (R410, R411). -/
def execPanelBlankingSlot (vf : Nat) (s : State) : Res :=
  .next (s.blankingSlot vf)

/-- The ageing gains are recomputed (R409). -/
def execGainRecompute (s : State) : Res :=
  .next s.gainRecompute

/-- The stress counters are saved (R408). -/
def execStressSave (s : State) : Res :=
  .next s.stressSave

/-- A write to DISP_FB_DATA (R411). -/
def execDispFbWrite (req : Nat) (val : Word) (s : State) : Res :=
  .next (s.writeAt req DISP_FB_DATA val)

/-- A write of DISP_COMMIT with GO (R412). -/
def execDispCommitGo (req : Nat) (val : Word) (s : State) : Res :=
  .next (s.writeAt req DISP_COMMIT (0x80000000 ||| val))

/-- DISP_CTRL ACTION 1 (R417). -/
def execDispPanelOff (req : Nat) (s : State) : Res :=
  .next (s.writeAt req DISP_CTRL 0xD15E0001)

/-- DISP_CTRL ACTION 2 (R417). -/
def execDispWake (req : Nat) (s : State) : Res :=
  .next (s.writeAt req DISP_CTRL 0xD15E0002)

/-- DISP_CTRL ACTION 3 (R419). -/
def execDispClearCrack (req : Nat) (s : State) : Res :=
  .next (s.writeAt req DISP_CTRL 0xD15E0003)

/-- DISP_CTRL ACTION 4 (R408). -/
def execDispClearStress (req : Nat) (s : State) : Res :=
  .next (s.writeAt req DISP_CTRL 0xD15E0004)

/-- The hold time of a binding ends (R415). -/
def execBindingHoldEnd (s : State) : Res :=
  .next s.bindEnd

/-- The discharge completes (R416). -/
def execDischargeDone (s : State) : Res :=
  .next s.dischargeDone

/-- The crack loop is measured (R419). -/
def execCrackCheck (ohms : Nat) (s : State) : Res :=
  .next (s.crackCheck ohms)

/-- A write of DISP_STRIP_CMD with GO (R425). -/
def execStripGo (req : Nat) (val : Word) (s : State) : Res :=
  .next (s.writeAt req DISP_STRIP_CMD (0x80000000 ||| val))

/-- 20 ms of the strip (R421). -/
def execStripFrame (s : State) : Res :=
  .next s.stripFrame

/-- A strip marker is programmed (R426). -/
def execStripMarkerDone (s : State) : Res :=
  .next s.stripMarker

/-- WAIT_S has passed (R425). -/
def execStripWaitTimeout (s : State) : Res :=
  .next s.stripTimeout

end Sys2Proof.Machine
end

