-- ==== Sys2Proof/Machine/FanCmds.lean ====
section
/-! DEFINITION. Meanings: the fan channels (R375 to R388). -/

namespace Sys2Proof.Machine

open Reg

/-- A switching period starts (R377). -/
def execFanPeriodStart (f : Fin 16) (s : State) : Res :=
  .next (s.fanPeriod f)

/-- 500 ms of the start have passed (R377). -/
def execFanStartingEnd (f : Fin 16) (s : State) : Res :=
  .next (s.fanStarted f)

/-- A measurement window starts (R378). -/
def execFanWindowStart (f : Fin 16) (s : State) : Res :=
  .next (s.fanWindow f)

/-- A tach level change that lasted `us` µs, stamped `stampUs` (R379). -/
def execTachEdge (f : Fin 16) (us : Nat) (stampUs : Nat) (s : State) : Res :=
  .next (s.tachEdge f us stampUs)

/-- The window ends, `us` µs long, with its current samples (R378, R380). -/
def execFanWindowEnd (f : Fin 16) (ma : List Nat) (us : Nat) (s : State) : Res :=
  .next (s.fanWindowEnd f ma us)

/-- RETRY_S off has passed (R381). -/
def execFanRetryExpire (f : Fin 16) (s : State) : Res :=
  .next (s.fanRetry f)

/-- A burst ends, `ms` ms long, with the tach level changes and current samples of its last 120 ms; the
settings it held back may start an override (R381, R387, R398). -/
def execFanBurstEnd (f : Fin 16) (levels : List TachLevel) (ma : List Nat) (ms : Nat) (s : State) : Res :=
  .next (s.fanBurstEnd f levels ma ms).overrides

/-- 20 ms in current limit (R383). -/
def execFanShort (f : Fin 16) (s : State) : Res :=
  .next (s.fanShort f)

/-- The 100 ms tick of the loop (R384). -/
def execFanLoopTick (f : Fin 16) (s : State) : Res :=
  .next (s.fanTick f)

/-- VTIME has not advanced for STALE_S (R385). -/
def execFanInputStale (f : Fin 16) (s : State) : Res :=
  .next (s.fanInputStale f)

end Sys2Proof.Machine
end

