-- ==== Sys2Proof/Machine/FieldCmds.lean ====
section
/-! DEFINITION. Meanings: field inputs, analog outputs, pulse inputs (R198 to R215). -/

namespace Sys2Proof.Machine

open Reg

/-- A filter window ends with its raw code and admittances, at site time `t` (R203). -/
def execFieldSample (i : Fin 32) (raw : BitVec 24) (y : List F32) (t : Nat) (s : State) : Res :=
  .next (s.fieldSample i raw.toInt y t)

/-- 30 mA for 10 ms (R205). -/
def execShuntOverload (i : Fin 32) (s : State) : Res :=
  .next (s.when s.dpUp (·.shuntOverload i))

/-- 1 s after the shunt opened (R205). -/
def execShuntReclose (i : Fin 32) (s : State) : Res :=
  .next (s.when s.dpUp (·.shuntReclose i))

/-- A sample of the monitor (R213). -/
def execAoMonitorSample (n : Fin 8) (value : F32) (s : State) : Res :=
  .next (s.aoMonitor n value)

/-- A deviation or open loop for 10 ms (R213). -/
def execAoFaultEnter (n : Fin 8) (s : State) : Res :=
  .next (s.aoFaultTest n)

/-- 100 ms without the condition (R213). -/
def execAoFaultClear (n : Fin 8) (s : State) : Res :=
  .next (s.aoFaultClear n)

/-- A level change that lasted `dur5ns` units of 5 ns, stamped `t` (R214). -/
def execPulseEdge (n : Fin 4) (rising : Bool) (dur5ns : Nat) (t : Nat) (s : State) : Res :=
  .next (s.pulseEdge n rising dur5ns t)

/-- No edge within TIMEOUT (R215). -/
def execPulseTimeout (n : Fin 4) (s : State) : Res :=
  .next (s.pulseTimeout n)

/-- The minute ends (R215). -/
def execPulseMinuteReport (n : Fin 4) (s : State) : Res :=
  .next (s.pulseMinute n)

end Sys2Proof.Machine
end

