-- ==== Sys2Proof/Machine/GovCmds.lean ====
section
/-! DEFINITION. Meanings: the Governor and the cup (R299 to R341). -/

namespace Sys2Proof.Machine

open Reg

/-- A sample instant (R303, R307, R318); a swap that waits for the slot to reach OPEN goes on (R98). -/
def execGovSample (n : Fin 16) (cut : SampleCut) (s : State) : Res :=
  .next (s.govSample n cut).overrides.swapGo

/-- A write to GOV_SLOT_MODE (R302). -/
def execGovModeRequest (req : Nat) (n : Fin 16) (val : Word) (s : State) : Res :=
  .next (s.writeAt req (GOV_SLOT_MODE n) val)

/-- A write to a word of the coefficient window (R320). -/
def execGovCoefWrite (req : Nat) (n : Fin 16) (off : BitVec 12) (val : Word) (s : State) : Res :=
  .next (s.when (decide (0x400 ≤ off.toNat)) (fun t => t.writeAt req (0x100000 + 0x1000 * n.val + off.toNat) val))

/-- STALE_MS without a fresh sample (R330). -/
def execStaleTimeout (n : Fin 16) (j : Fin 8) (prim : Bool) (s : State) : Res :=
  .next (s.staleTimeout n j prim)

/-- COAST has passed (R333). -/
def execCoastExpire (n : Fin 16) (j : Fin 8) (s : State) : Res :=
  .next (s.coastExpire n j)

/-- TEST_MIN minutes in TEST (R302). -/
def execTestLimitExpire (n : Fin 16) (s : State) : Res :=
  .next (s.testLimit n)

/-- The minute ends (R318). -/
def execGovMinuteReport (n : Fin 16) (s : State) : Res :=
  .next (s.govMinute n)

/-- CUP_CTRL arm (R339). -/
def execCupArm (req : Nat) (s : State) : Res :=
  .next (s.writeAt req CUP_CTRL 0xC0F70001)

/-- CUP_CTRL stop (R339). -/
def execCupStop (req : Nat) (s : State) : Res :=
  .next (s.writeAt req CUP_CTRL 0xC0F70002)

/-- CUP_CTRL clear (R339). -/
def execCupClear (req : Nat) (s : State) : Res :=
  .next (s.writeAt req CUP_CTRL 0xC0F70003)

/-- Site time reaches CUP_AT (R337). -/
def execCupAtTrigger (s : State) : Res :=
  .next s.cupAt

/-- A write to CUP_INF_CFG (R336). -/
def execCupInfCfgWrite (req : Nat) (n : Fin 16) (val : Word) (s : State) : Res :=
  .next (s.writeAt req (CUP_INF_CFG n) val)

end Sys2Proof.Machine
end

