-- ==== Sys2Proof/Machine/GuardCmds.lean ====
section
/-! DEFINITION. Meanings: the thermal guard (R389 to R403). -/

namespace Sys2Proof.Machine

open Reg

/-- A sensor is measured twice (R391, R395). -/
def execGuardSample (n : Fin 22) (rawA : Word) (okA : Bool) (rawB : Word) (okB : Bool) (s :
    State) : Res :=
  .next ((s.guardSample n rawA okA rawB okB).afterGuard)

/-- A dwell ends (R396). -/
def execZoneDwellExpire (z : Fin 8) (cut : Bool) (s : State) : Res :=
  .next ((s.dwellExpire z cut).afterGuard)

/-- The grace ends, some records flushed (R399). -/
def execHaltGraceEnd (used : BitVec 10) (flush : GraceFlush) (s : State) : Res :=
  .next (s.graceEnd used.toNat flush.records flush.bad.val)

/-- The cooling test has passed (R402). -/
def execThermalRestart (s : State) : Res :=
  .next s.thermalRestart

end Sys2Proof.Machine
end

