-- ==== Sys2Proof/Machine/HspiCmds.lean ====
section
/-! DEFINITION. Meanings: the host SPI port (R145 to R147). -/

namespace Sys2Proof.Machine

open Reg

/-- A READ frame (R146). -/
def execHspiRead (cmd : Word) (_data : Word) (clocks : Nat) (s : State) : Res :=
  .next (s.hspiFrame 0 cmd clocks (fun t => t.hspiRead cmd))

/-- A WRITE frame (R145). -/
def execHspiWrite (cmd : Word) (data : Word) (clocks : Nat) (s : State) : Res :=
  .next (s.hspiFrame 1 cmd clocks (fun t => t.issueWrite 0x10 (bits cmd 23 0) data))

/-- A FETCH frame (R146). -/
def execHspiFetch (cmd : Word) (_data : Word) (clocks : Nat) (s : State) : Res :=
  .next (s.hspiFrame 2 cmd clocks id)

end Sys2Proof.Machine
end

