-- ==== Sys2Proof/Machine/KmpCmds.lean ====
section
/-! DEFINITION. Meanings: KMP and its bulk transfers (R122 to R134). -/

namespace Sys2Proof.Machine

open Reg

/-- HELLO opens a session (R124). -/
def execKmpHello (src : Nat) (dg : List Byte) (s : State) : Res :=
  .next (s.hello src dg)

/-- BYE closes the session (R128). -/
def execKmpBye (src : Nat) (dg : List Byte) (s : State) : Res :=
  .next (s.kmpOp src dg 0x03 false false State.bye)

/-- READ of up to 64 registers (R129). -/
def execKmpRead (src : Nat) (dg : List Byte) (s : State) : Res :=
  .next (s.kmpOp src dg 0x10 false true State.kmpRead)

/-- WRITE of up to 64 registers (R129). -/
def execKmpWrite (src : Nat) (dg : List Byte) (s : State) : Res :=
  .next (s.kmpOp src dg 0x11 true false State.kmpWrite)

/-- BLOCK READ of up to 256 words (R129). -/
def execKmpBlockRead (src : Nat) (dg : List Byte) (s : State) : Res :=
  .next (s.kmpOp src dg 0x12 false true State.kmpBlockRead)

/-- LOG READ (R442, R443). -/
def execKmpLogRead (src : Nat) (x : LogReadIn) (s : State) : Res :=
  .next (s.kmpOp src x.dg 0x20 false true (State.kmpLogRead x.bad))

/-- LOG FREEZE (R444). -/
def execKmpLogFreeze (src : Nat) (dg : List Byte) (s : State) : Res :=
  .next (s.kmpOp src dg 0x21 true false State.kmpFreeze)

/-- CUP READ (R340, R496). -/
def execKmpCupRead (src : Nat) (dg : List Byte) (s : State) : Res :=
  .next (s.kmpOp src dg 0x30 false false State.kmpCupRead)

/-- CADDY WRITE (R96, R133). -/
def execKmpCaddyWrite (src : Nat) (dg : List Byte) (s : State) : Res :=
  .next (s.kmpOp src dg 0x40 true true State.kmpCaddyWrite)

/-- SNAPSHOT export (R298). -/
def execKmpSnapshotExport (src : Nat) (dg : List Byte) (s : State) : Res :=
  .next (s.kmpRun src dg (snapMine 0) (fun _ => false) false State.kmpExport)

/-- SNAPSHOT import (R298). -/
def execKmpSnapshotImport (src : Nat) (dg : List Byte) (s : State) : Res :=
  .next (s.kmpRun src dg (snapMine 1) (fun _ => true) false State.kmpImport)

/-- HEARTBEAT (R149). -/
def execKmpHeartbeat (src : Nat) (dg : List Byte) (s : State) : Res :=
  .next (s.kmpOp src dg 0x60 false false State.kmpBeat)

/-- SET TIME (R164). -/
def execKmpSetTime (src : Nat) (dg : List Byte) (s : State) : Res :=
  .next (s.kmpOp src dg 0x70 true false State.kmpSetTime)

/-- DATA of a bulk transfer (R132). -/
def execKmpData (src : Nat) (x : DataIn) (s : State) : Res :=
  .next ((s.noteBad x.bad).kmpOp src x.dg 0x80 false true State.bulkData)

/-- ACK of a bulk transfer (R132). -/
def execKmpAck (src : Nat) (dg : List Byte) (s : State) : Res :=
  .next (s.kmpOp src dg 0x81 false true State.bulkAck)

/-- The next DATA datagram of transfer `i` (R132). -/
def execBulkDataSend (i : Fin 2) (s : State) : Res :=
  .next (s.bulkSend i)

/-- 10 ms without DATA: an ACK (R132). -/
def execBulkAckTimer (i : Fin 2) (s : State) : Res :=
  .next (s.bulkAckTimer i)

/-- 100 ms without advance: resend (R132). -/
def execBulkResendTimeout (i : Fin 2) (s : State) : Res :=
  .next (s.bulkResend i)

/-- 5 s without advance: abandon (R132). -/
def execBulkAbandonTimeout (i : Fin 2) (s : State) : Res :=
  .next (s.bulkAbandon i)

/-- A pending session has waited 5 s (R128). -/
def execKmpPendingTimeout (n : Fin 8) (s : State) : Res :=
  .next (s.pendingEnd n)

/-- A session has been idle for 60 s (R128). -/
def execKmpIdleTimeout (n : Fin 8) (s : State) : Res :=
  .next (s.idleEnd n)

/-- The second ends (R127). -/
def execKmpTagFailSecond (s : State) : Res :=
  .next s.kmpSecond

end Sys2Proof.Machine
end

