-- ==== Sys2Proof/Machine/LeatCmds.lean ====
section
/-! DEFINITION. Meanings: the leats and the register fabric (R23 to R32, R106, R110). -/

namespace Sys2Proof.Machine

open Reg

/-- A 100 µs tick: banks swap, the epoch counts on (R23, R24, R27). -/
def execEstimateTick (s : State) : Res :=
  .next s.estTick

/-- Full site time reloads the local copies (R32). -/
def execTimeBroadcast (s : State) : Res :=
  .next s.timeBroadcast

/-- The oldest request of an arm reaches its register (R28). -/
def execSetpointRequestDeliver (dataArm : Bool) (s : State) : Res :=
  .next (s.deliver dataArm)

/-- The oldest read reply reaches its requester (R29). -/
def execReadReply (s : State) : Res :=
  .next s.readReply

/-- A read that reaches its register; of the lowest member of a latch group it captures every member
(R110). -/
def execLatchGroupRead (req : Nat) (addr : Nat) (s : State) : Res :=
  .next (s.readVia req addr)

/-- A write that reaches its register: stored with its effect, or a violation (R106). -/
def execRegisterWrite (req : Nat) (addr : Nat) (val : Word) (s : State) : Res :=
  .next (s.writeAt req addr val)

end Sys2Proof.Machine
end

