-- ==== Sys2Proof/Machine/LogCmds.lean ====
section
/-! DEFINITION. Meanings: the event recorder (R431 to R447). -/

namespace Sys2Proof.Machine

open Reg

/-- A unit submits a record, with the severity that its code and parameters give; no unit submits another
(R433, R436). -/
def execEventRecordSubmit (port : Fin 16) (code : BitVec 16) (sev : Fin 7) (p0 : Word) (p1 : Word) (p2 : Word)
    (prov : Bool) (s : State) : Res :=
  .next (if sev.val = sevOf code.toNat p1.toNat then s.submit port {
    code := code.toNat, sev := sev, p0 := p0.toNat, p1 := p1.toNat, p2 := p2.toNat, prov := prov } else s)

/-- The arbiter moves a record into the pond (R435). -/
def execPondRecordEntry (s : State) : Res :=
  .next s.arbitrate

/-- A page program starts (R437). -/
def execLogPageDue (s : State) : Res :=
  .next s.pageStart

/-- A page is programmed and verified (R437). -/
def execLogPageProgrammed (ok : Bool) (s : State) : Res :=
  .next (s.pageDone ok)

/-- A sector erase completes (R438, R439). -/
def execSectorEraseDone (headrace : Bool) (sector : Nat) (ok : Bool) (s : State) : Res :=
  .next (if headrace then s.headSector else s.tailErased sector ok)

/-- A write of LOG_CLEAR_CMD (R438). -/
def execLogClear (req : Nat) (confirm : BitVec 16) (s : State) : Res :=
  .next (s.writeAt req LOG_CLEAR_CMD (0xC1EA0000 ||| confirm.setWidth 32))

/-- The headrace erase ends (R438). -/
def execHeadraceEraseDone (s : State) : Res :=
  .next s.headErased

/-- LOG_FREEZE ACTION 1 (R444). -/
def execLogFreezeSet (req : Nat) (s : State) : Res :=
  .next (s.writeAt req LOG_FREEZE 0xF4EE0100)

/-- LOG_FREEZE ACTION 2 (R444). -/
def execLogFreezeLift (req : Nat) (s : State) : Res :=
  .next (s.writeAt req LOG_FREEZE 0xF4EE0200)

/-- A freeze has run for 10 s (R444). -/
def execFreezeTimeout (s : State) : Res :=
  .next (s.unfreeze 2)

/-- The next record goes out as syslog (R446). -/
def execSyslogSend (s : State) : Res :=
  .next s.syslogSend

/-- The minute ends (R446). -/
def execSyslogSkipMinute (s : State) : Res :=
  .next s.syslogMinute

end Sys2Proof.Machine
end

