-- ==== Sys2Proof/Machine/MillCmds.lean ====
section
/-! DEFINITION. Meanings: the Millstone (R216 to R298).  A data plane that is held or stopped does no work (R60, R65). -/

namespace Sys2Proof.Machine

open Reg

/-- A step end is reached (R280). -/
def execBodyStepReady (k : Fin 16) (s : State) : Res :=
  .next (s.stepReady k).dispatch

/-- A tile is written back; a body that stops may complete an import (R237, R298). -/
def execTileDone (k : Fin 16) (tile : Nat) (bad : List Nat) (q : Nat) (s : State) : Res :=
  .next ((s.when s.dpUp (·.tileDone k tile bad q)).importSettle).dispatch

/-- A reading for an anchor record (R283). -/
def execReadingArrive (anchor : Nat) (value : F32) (sigma : F32) (stamp : Nat) (s : State) : Res :=
  .next (s.when s.dpUp (·.readingArrive anchor value sigma stamp)).dispatch

/-- A periodic solve is due (R256). -/
def execAirflowSolveDue (k : Fin 16) (s : State) : Res :=
  .next (s.when s.dpUp (·.solveDue k)).dispatch

/-- A solve ends (R255). -/
def execAirflowSolveDone (k : Fin 16) (passes : Nat) (cycles : Nat) (ppm : Nat) (s : State) : Res :=
  .next (s.when s.dpUp (·.solveDone k passes cycles ppm)).dispatch

/-- A forecast run starts (R293). -/
def execForecastRunStart (k : Fin 16) (s : State) : Res :=
  .next (s.when s.dpUp (·.forecastStart k)).dispatch

/-- A forecast run ends after `ms` ms (R293). -/
def execForecastRunDone (k : Fin 16) (ms : Nat) (s : State) : Res :=
  .next (s.when s.dpUp (·.forecastDone k ms)).dispatch

/-- INTERVAL_H has passed (R295). -/
def execSnapshotDue (s : State) : Res :=
  .next (s.when s.dpUp State.snapshotDue).dispatch

/-- A snapshot is programmed and read back (R295). -/
def execSnapshotWriteDone (ok : Bool) (s : State) : Res :=
  .next (s.when s.dpUp (·.snapshotWritten ok)).dispatch

/-- MILL_BODY_CTRL hold (R244). -/
def execBodyHold (req : Nat) (k : Fin 16) (s : State) : Res :=
  .next (s.writeAt req (MILL_BODY_CTRL k) 0x6B1D0001)

/-- MILL_BODY_CTRL resume (R244). -/
def execBodyResume (req : Nat) (k : Fin 16) (s : State) : Res :=
  .next (s.writeAt req (MILL_BODY_CTRL k) 0x6B1D0002)

/-- A second of a held or paused body ends (R291). -/
def execCoastRepublish (k : Fin 16) (s : State) : Res :=
  .next (s.when s.dpUp (·.coast k))

/-- SEED_WAIT_S has passed (R297). -/
def execColdSeed (k : Fin 16) (s : State) : Res :=
  .next (s.when s.dpUp (·.coldSeed k)).dispatch

/-- A read of MILL_CELL_W[0] (R245). -/
def execMillCellRead (req : Nat) (k : Fin 16) (s : State) : Res :=
  .next (s.readVia req (MILL_CELL_W k 0))

/-- The minute ends (R242). -/
def execMillMinuteReport (k : Fin 16) (busy : Nat) (s : State) : Res :=
  .next (s.when s.dpUp (·.millMinute k busy))

end Sys2Proof.Machine
end

