-- ==== Sys2Proof/Machine/ModbusCmds.lean ====
section
/-! DEFINITION. Meanings: the Modbus server and client (R135 to R144). -/

namespace Sys2Proof.Machine

open Reg

/-- A client connects (R135). -/
def execModbusConnect (conn : Nat) (src : Nat) (s : State) : Res :=
  .next (s.mbConnect conn src)

/-- A connection has been idle for IDLE_S (R135). -/
def execModbusIdleClose (conn : Nat) (s : State) : Res :=
  .next (s.mbIdle conn)

/-- Function code 3 (R140). -/
def execModbusReadHolding (conn : Nat) (adu : List Byte) (s : State) : Res :=
  .next (s.mbRequest 3 conn adu)

/-- Function code 4 (R137, R140). -/
def execModbusReadInput (conn : Nat) (adu : List Byte) (s : State) : Res :=
  .next (s.mbRequest 4 conn adu)

/-- Function code 6 (R140). -/
def execModbusWriteSingle (conn : Nat) (adu : List Byte) (s : State) : Res :=
  .next (s.mbRequest 6 conn adu)

/-- Function code 16 (R140). -/
def execModbusWriteMultiple (conn : Nat) (adu : List Byte) (s : State) : Res :=
  .next (s.mbRequest 16 conn adu)

/-- Function code 23 (R140). -/
def execModbusReadWrite (conn : Nat) (adu : List Byte) (s : State) : Res :=
  .next (s.mbRequest 23 conn adu)

/-- The poll of a server falls due (R141, R143). -/
def execClientPoll (m : Fin 16) (s : State) : Res :=
  .next (s.clientPoll m)

/-- A response arrives (R143). -/
def execClientResponse (m : Fin 16) (pdu : List Byte) (s : State) : Res :=
  .next (s.clientResponse m pdu)

/-- 200 ms without a response (R143). -/
def execClientTransactionTimeout (m : Fin 16) (s : State) : Res :=
  .next (s.clientTimeout m)

/-- The connection is lost (R143). -/
def execClientConnectionLost (m : Fin 16) (s : State) : Res :=
  .next (s.clientLost m)

/-- The client connects, or fails to (R143). -/
def execClientReconnect (m : Fin 16) (ok : Bool) (s : State) : Res :=
  .next (s.clientConnect m ok)

end Sys2Proof.Machine
end

