-- ==== Sys2Proof/Machine/NetCmds.lean ====
section
/-! DEFINITION. Meanings: the switch, addresses and basic services (R115 to R121), the host watchdog (R149, R150). -/

namespace Sys2Proof.Machine

open Reg

/-- A frame reaches switch port 0 (the module), 1 (E0) or 2 (E1) (R115, R116). -/
def execFrameForward (port : Fin 3) (frame : List Byte) (s : State) : Res :=
  .next (s.frameIn port frame)

/-- The second ends (R117). -/
def execStormSecondEnd (e : Fin 2) (s : State) : Res :=
  .next (s.stormSecond e)

/-- A learned address ages out (R115). -/
def execMacAgeOut (mac : Nat) (s : State) : Res :=
  .next (s.macAge mac)

/-- A link goes up or down (R118). -/
def execLinkChange (e : Fin 2) (up : Bool) (speed : Fin 3) (full : Bool) (s : State) : Res :=
  .next (s.linkChange e up speed full)

/-- ARP or neighbour discovery asks for an address (R121). -/
def execArpRequest (e : Fin 2) (ip6 : Bool) (target : Nat) (s : State) : Res :=
  .next (s.neighbour e ip6 target)

/-- An echo request (R121). -/
def execEchoRequest (e : Fin 2) (s : State) : Res :=
  .next (s.echo e)

/-- A TCP segment or UDP datagram to another port (R121). -/
def execUnservedPortSegment (e : Fin 2) (tcp : Bool) (dport : Nat) (s : State) : Res :=
  .next (s.unserved e tcp dport)

/-- Half the lease has passed (R120). -/
def execDhcpRenew (lease : Nat) (s : State) : Res :=
  .next (s.dhcpRenew lease)

/-- The lease is lost (R120). -/
def execDhcpLeaseLost (s : State) : Res :=
  .next s.leaseLost

/-- Conflict detection ends (R120). -/
def execAddressProbeDone (addr : Word) (mask : Word) (gw : Word) (lease : Nat) (conflict : Bool)
    (s : State) : Res :=
  .next (s.probeEnd4 addr mask gw lease conflict)

/-- An address in conflict is tried again (R120). -/
def execConflictRetry (s : State) : Res :=
  .next s.conflictRetry

/-- 10 s without a lease in bare mode (R94). -/
def execLinkLocalFallback (low : BitVec 16) (s : State) : Res :=
  .next (s.linkLocal low)

/-- A write to NET_HEARTBEAT (R149). -/
def execHeartbeat (req : Nat) (val : Word) (s : State) : Res :=
  .next (s.writeAt req NET_HEARTBEAT val)

/-- The watchdog timer reaches TIMEOUT_S (R150). -/
def execWatchdogTrip (s : State) : Res :=
  .next s.wdogTrip

end Sys2Proof.Machine
end

