-- ==== Sys2Proof/Machine/PowerCmds.lean ====
section
/-! DEFINITION. Meanings: supplies, resets, the sluice, clocks (R54, R60 to R79). -/

namespace Sys2Proof.Machine

open Reg

/-- PFI falls below 1.000 V (R62). -/
def execPfiBelowThreshold (s : State) : Res :=
  .next s.pfiLow

/-- PFI returns within the deglitch time (R62). -/
def execPfiReturn (s : State) : Res :=
  .next s.pfiBack

/-- PFAIL asserts and the sluice starts (R65). -/
def execPfailAssert (s : State) : Res :=
  .next s.pfail

/-- The pond is flushed; the last-word test follows (R65, R67). -/
def execSluiceFlushDone (flush : FlushRun) (s : State) : Res :=
  .next (s.sluiceFlushed flush.time10us.toNat flush.bad.val)

/-- The last-word waveform has ended (R65). -/
def execSluiceLastWordDone (s : State) : Res :=
  .next s.sluiceWordDone

/-- The completion marker is written (R70). -/
def execSluiceMarkerWritten (s : State) : Res :=
  .next s.sluiceMarked

/-- The input has been back for 100 ms (R63). -/
def execSluiceRestart (s : State) : Res :=
  .next s.inputReturned

/-- A logic rail was out of tolerance for `us` µs (R60). -/
def execRailDip (rail : Fin 5) (us : Nat) (s : State) : Res :=
  .next (s.railDip rail us)

/-- All logic rails have been good for 1 ms (R60). -/
def execLogicRailsGood (s : State) : Res :=
  .next s.railsGood

/-- Everything is reset, the always-on block included (R77). -/
def execPowerOnReset (straps : BitVec 3) (s : State) : Res :=
  .next (s.powerOn straps.toNat)

/-- A rail of a power stage or of the display stands at `mv` mV (R61). -/
def execPowerStageRailChange (rail : Rail) (mv : Nat) (s : State) : Res :=
  .next (s.stageRail rail mv)

/-- nRST was held low for at least 10 µs (R77). -/
def execExternalReset (straps : BitVec 3) (s : State) : Res :=
  .next (s.external straps.toNat)

/-- TESTMODE goes to 1 (R54). -/
def execTestmodeAssert (s : State) : Res :=
  .next s.testMode

/-- TESTMODE returns to 0 (R54, R77). -/
def execTestRelease (s : State) : Res :=
  .next s.testRelease

/-- A write of 0xB007 to PWR_RESET_CMD (R77). -/
def execCommandReset (req : Nat) (s : State) : Res :=
  .next (s.writeAt req PWR_RESET_CMD 0xB0070000)

/-- PLL_LOCK rises (R74). -/
def execPllLocked (s : State) : Res :=
  .next s.pllLocked

/-- PLL_LOCK falls (R76). -/
def execPllLockLoss (s : State) : Res :=
  .next s.pllLost

/-- REF_IN is missing or off frequency (R75). -/
def execRefLost (s : State) : Res :=
  .next s.refLost

/-- Life counters and site time are saved (R79). -/
def execLifeCounterSave (s : State) : Res :=
  .next s.lifeSave

/-- The gauge reads VHOLD_SNS (R67). -/
def execGaugeUpdate (code : BitVec 12) (s : State) : Res :=
  .next (s.gauge code.toNat)

/-- V1P8 falls to 1.50 V or below (R60). -/
def execV1p8Collapse (s : State) : Res :=
  .next s.collapse

end Sys2Proof.Machine
end

