-- ==== Sys2Proof/Machine/RelCmds.lean ====
section
/-! DEFINITION. Meanings: availability, self-tests and lockstep (R448 to R466). -/

namespace Sys2Proof.Machine

open Reg

/-- An error of an element, whose containing element is `home` (R450). -/
def execElementErrorDetected (e : Element) (home : Element) (x : ErrorAt) (s : State) : Res :=
  .next (s.elementError e home x.uncorr x.word)

/-- A self-test ends (R451). -/
def execSelfTestDone (e : Element) (home : Element) (fails : Bool) (s : State) : Res :=
  .next (s.testEnd e home fails)

/-- A write to REL_TEST_CMD (R453). -/
def execRelHostTest (req : Nat) (unit : BitVec 4) (idx : BitVec 12) (s : State) : Res :=
  .next (s.writeAt req REL_TEST_CMD ((0x7E57 : BitVec 16) ++ unit ++ idx))

/-- The comparator finds the lanes disagreeing, or on one lane a residue check an error (R455, R457). -/
def execLockstepMismatch (tile : Nat) (s : State) : Res :=
  .next (s.lockMismatch tile none)

/-- The tile tests end (R455). -/
def execLockstepTestDone (passA : Bool) (passB : Bool) (s : State) : Res :=
  .next (s.lockTested passA passB).swapGo

/-- Re-execution ends (R456). -/
def execLockstepReexecuteDone (agree : Bool) (ns : Nat) (holdNs : Nat) (s : State) : Res :=
  .next (s.lockReexecuted agree ns holdNs).swapGo

/-- The placement pass ends (R456). -/
def execLockstepPlaceDone (errA : Bool) (errB : Bool) (ns : Nat) (holdNs : Nat) (s : State) : Res :=
  .next (s.lockPlaced errA errB ns holdNs).swapGo

/-- The scrubber reads the next words: 0 no error, 1 corrected, 2 uncorrectable (R459). -/
def execScrubStep (err : Fin 3) (s : State) : Res :=
  .next (s.scrubStep err)

/-- The hour ends (R459). -/
def execEccHourReport (s : State) : Res :=
  .next s.eccHour

/-- The boot self-test ends (R463). -/
def execBootSelfTestDone (tested : Nat) (failed : List Element) (ms : Nat) (s : State) : Res :=
  .next (s.bootTested tested failed ms)

end Sys2Proof.Machine
end

