-- ==== Sys2Proof/Machine/SprinCmds.lean ====
section
/-! DEFINITION. Meanings: the Sprinline ports (R172 to R197). -/

namespace Sys2Proof.Machine

open Reg

/-- A cycle starts; the supply current is `ma` mA (R183). -/
def execSprinCycleStart (p : Fin 24) (ma : Nat) (s : State) : Res :=
  .next (s.cycleStart p ma)

/-- A REPLY received whole: `rtt` ns after the frame end of the call its line began; its half-bits, and those of
its end delimiter (R174, R175, R185). -/
def execSprinReply (p : Fin 24) (rtt : Nat) (line : List Bool) (last : List Bool) (s : State) : Res :=
  .next (s.when s.dpUp (·.sprinReply p rtt (line ++ last)))

/-- No reply within t_ML (R196). -/
def execSprinReplyTimeout (p : Fin 24) (s : State) : Res :=
  .next (s.when s.dpUp (·.sprinTimeout p))

/-- An ALARM received whole (R186). -/
def execSprinAlarmFrame (p : Fin 24) (rtt : Nat) (line : List Bool) (last : List Bool) (s : State) : Res :=
  .next (s.when s.dpUp (·.sprinAlarm p rtt (line ++ last)))

/-- The presence window ends (R190). -/
def execSprinEnumPresence (p : Fin 24) (hit : Bool) (s : State) : Res :=
  .next (s.when s.dpUp (·.enumPresence p hit))

/-- 10 ms in current limit (R194). -/
def execSprinSupplyTrip (p : Fin 24) (ma : Nat) (s : State) : Res :=
  .next (s.when s.dpUp (·.portTrip p ma))

/-- RETRY_S has passed (R194). -/
def execSprinSupplyRetry (p : Fin 24) (s : State) : Res :=
  .next (s.when s.dpUp (·.portRetry p))

/-- BOOT_MS ends (R195). -/
def execSprinBootDone (p : Fin 24) (s : State) : Res :=
  .next (s.when s.dpUp (·.portBooted p))

/-- The line is away from idle for 1 ms (R195, R450). -/
def execSprinStuck (p : Fin 24) (s : State) : Res :=
  .next (s.when s.dpUp (·.portStuckTest p))

/-- 1 s off has passed (R195). -/
def execSprinStuckEnd (p : Fin 24) (s : State) : Res :=
  .next (s.when s.dpUp (·.portStuckEnd p))

/-- SPRIN_CMD ACTION 1 (R196). -/
def execSprinReenumerate (req : Nat) (p : Fin 24) (s : State) : Res :=
  .next (s.writeAt req (SPRIN_CMD p) 0x5E710100)

/-- SPRIN_CMD ACTION 2 (R195). -/
def execSprinPowerCycle (req : Nat) (p : Fin 24) (s : State) : Res :=
  .next (s.writeAt req (SPRIN_CMD p) 0x5E710200)

/-- The 1 s off time ends (R195). -/
def execSprinPowerCycleEnd (p : Fin 24) (s : State) : Res :=
  .next (s.when s.dpUp (·.portCycleEnd p))

/-- SPRIN_CMD ACTION 3 (R181). -/
def execSprinIdentify (req : Nat) (p : Fin 24) (addr : BitVec 8) (s : State) : Res :=
  .next (s.writeAt req (SPRIN_CMD p) (0x5E710300 ||| addr.setWidth 32))

/-- A write of SPRIN_NCMD with GO (R183). -/
def execSprinNcmdGo (req : Nat) (p : Fin 24) (val : Word) (s : State) : Res :=
  .next (s.writeAt req (SPRIN_NCMD p) (0x80000000 ||| val))

/-- The minute ends (R184). -/
def execSprinMinuteReport (p : Fin 24) (s : State) : Res :=
  .next (s.when s.dpUp (·.sprinMinute p))

end Sys2Proof.Machine
end

