-- ==== Sys2Proof/Machine/TimeCmds.lean ====
section
/-! DEFINITION. Meanings: site time, GNSS, PTP (R152 to R171). -/

namespace Sys2Proof.Machine

open Reg

/-- An edge of PPS_IN, stamped `t` ns (R157). -/
def execPpsEdge (falling : Bool) (t : Nat) (s : State) : Res :=
  .next (s.ppsEdge falling t)

/-- A sentence of the receiver (R158). -/
def execNmeaSentence (text : List Byte) (t : Nat) (s : State) : Res :=
  .next (s.nmeaSentence text t)

/-- No valid edge for 3 s, or no valid sentence for 10 s (R156). -/
def execGnssLost (s : State) : Res :=
  .next s.gnssLost

/-- HOLDOVER_MIN has passed (R155). -/
def execHoldoverExpire (s : State) : Res :=
  .next s.holdoverExpire

/-- A decided step takes effect (R165). -/
def execTimeStepApply (s : State) : Res :=
  .next s.timeStep

/-- A phase slew completes (R163). -/
def execSlewDone (s : State) : Res :=
  .next s.slewDone

/-- A write of the key to TIME_SET_CMD (R164). -/
def execTimeSetCmd (req : Nat) (s : State) : Res :=
  .next (s.writeAt req TIME_SET_CMD 0x57E90000)

/-- 60 s with nothing valid (R160). -/
def execGnssReceiverReset (s : State) : Res :=
  .next s.gnssReset

/-- The 100 ms pulse ends (R160). -/
def execGnssResetRelease (s : State) : Res :=
  .next s.gnssRelease

/-- The set-up text is sent (R160). -/
def execGnssSetupSend (s : State) : Res :=
  .next s.gnssSetup

/-- A time mark (R168). -/
def execTimeMark (s : State) : Res :=
  .next s.timeMark

/-- Announce (R169). -/
def execPtpAnnounceSend (n : Fin 2) (s : State) : Res :=
  .next (s.ptpAnnounce n)

/-- Sync and Follow_Up (R169). -/
def execPtpSyncSend (n : Fin 2) (s : State) : Res :=
  .next (s.ptpSync n)

/-- A Delay_Req received at `t` (R169). -/
def execPtpDelayReq (n : Fin 2) (seq : BitVec 16) (t : Nat) (s : State) : Res :=
  .next (s.ptpDelayReq n seq.toNat t)

/-- A foreign Announce (R170). -/
def execPtpForeignAnnounce (n : Fin 2) (domain : BitVec 8) (dataset : List Nat) (s : State) : Res :=
  .next (s.ptpForeign n domain.toNat dataset)

/-- The foreign Announce stays out (R170). -/
def execPtpAnnounceTimeout (n : Fin 2) (s : State) : Res :=
  .next (s.ptpTimeout n)

/-- A whole second of site time (R171). -/
def execPpsOutEdge (s : State) : Res :=
  .next s.ppsOut

/-- The minute ends (R159). -/
def execGnssMinuteReport (s : State) : Res :=
  .next s.gnssMinute

end Sys2Proof.Machine
end

