-- ==== Sys2Proof/Machine/ValveCmds.lean ====
section
/-! DEFINITION. Meanings: the valve banks (R342 to R374). -/

namespace Sys2Proof.Machine

open Reg

/-- A timed VALVE_CMD (R351). -/
def execValveTimed (req : Nat) (v : Fin 96) (id : BitVec 8) (holdMs : BitVec 16) (s : State) :
    Res :=
  .next (s.writeAt req (VALVE_CMD v) (id ++ (0x40 : BitVec 8) ++ holdMs))

/-- A continuous VALVE_CMD (R351). -/
def execValveContinuous (req : Nat) (v : Fin 96) (id : BitVec 8) (s : State) : Res :=
  .next (s.writeAt req (VALVE_CMD v) (id ++ (0x80 : BitVec 8) ++ (0 : BitVec 16)))

/-- A stop VALVE_CMD (R351). -/
def execValveStop (req : Nat) (v : Fin 96) (id : BitVec 8) (s : State) : Res :=
  .next (s.writeAt req (VALVE_CMD v) (id ++ (0xC0 : BitVec 8) ++ (0 : BitVec 16)))

/-- PREARM_US ends (R345). -/
def execPrearmEnd (v : Fin 96) (s : State) : Res :=
  .next (s.prearmEnd v)

/-- The peak target is reached (R347). -/
def execPeakReached (v : Fin 96) (samples : List Nat) (s : State) : Res :=
  .next (s.peakReached v samples)

/-- The peak time ends (R347). -/
def execPeakTimeEnd (v : Fin 96) (samples : List Nat) (s : State) : Res :=
  .next (s.peakTimeEnd v samples)

/-- The hold ends (R347). -/
def execHoldEnd (v : Fin 96) (s : State) : Res :=
  .next (s.holdFinish v)

/-- The released current falls below 20 mA (R351). -/
def execReleaseDone (v : Fin 96) (s : State) : Res :=
  .next (s.releaseDone v)

/-- LINGER_MS has passed (R344). -/
def execLingerEnd (b : Fin 12) (s : State) : Res :=
  .next (s.lingerEnd b)

/-- DEFER_MS has passed (R353). -/
def execDeferTimeout (v : Fin 96) (s : State) : Res :=
  .next (s.deferTimeout v)

/-- Low-side current above 6.0 A (R363). -/
def execValveShortTrip (v : Fin 96) (s : State) : Res :=
  .next (s.shortTrip v)

/-- 10 ms of HOLD with a probe due (R364). -/
def execValveProbeStart (v : Fin 96) (s : State) : Res :=
  .next (s.probeStart v)

/-- 64 periods are measured: least on-time, mean on-time and a stop taken in the same cycle, current,
voltage (R365, R370). -/
def execProbeDone (v : Fin 96) (dMin : Nat) (d : ProbeMean) (ma : Nat) (mv : Nat) (s : State) : Res :=
  .next (s.probeDone v dMin d ma mv)

/-- A 1 ms interval ends (R361). -/
def execDutyIntervalEnd (v : Fin 96) (s : State) : Res :=
  .next (s.dutyInterval v)

/-- A sense or switch disagreement starts the stage check (R367, R450). -/
def execValveStageError (v : Fin 96) (s : State) : Res :=
  .next (s.testWant (.valve v) (.valve v) false)

/-- VALVE_BANK_CTRL ACTION 1 (R368). -/
def execValveBankDisable (req : Nat) (b : Fin 12) (s : State) : Res :=
  .next (s.writeAt req (VALVE_BANK_CTRL b) 0x7A1E0001)

/-- VALVE_BANK_CTRL ACTION 2 (R368). -/
def execValveBankEnable (req : Nat) (b : Fin 12) (s : State) : Res :=
  .next (s.writeAt req (VALVE_BANK_CTRL b) 0x7A1E0002)

/-- VALVE_BANK_CTRL ACTION 3 (R368). -/
def execValveChannelDisable (req : Nat) (v : Fin 96) (s : State) : Res :=
  .next (s.writeAt req (VALVE_BANK_CTRL (v / 8)) (0x7A1E0003 + BitVec.ofNat 32 (16 * (v.val % 8))))

/-- VALVE_BANK_CTRL ACTION 4 (R368). -/
def execValveChannelEnable (req : Nat) (v : Fin 96) (s : State) : Res :=
  .next (s.writeAt req (VALVE_BANK_CTRL (v / 8)) (0x7A1E0004 + BitVec.ofNat 32 (16 * (v.val % 8))))

/-- VALVE_BANK_CTRL ACTION 5 (R366). -/
def execValveClearFault (req : Nat) (v : Fin 96) (s : State) : Res :=
  .next (s.writeAt req (VALVE_BANK_CTRL (v / 8)) (0x7A1E0005 + BitVec.ofNat 32 (16 * (v.val % 8))))

/-- A POP of the oldest completion entry (R371). -/
def execValveCqPop (req : Nat) (b : Fin 12) (seq : BitVec 8) (s : State) : Res :=
  .next (s.writeAt req (VALVE_CQ_CTRL b) (0x80000000 + BitVec.ofNat 32 (65536 * seq.toNat)))

/-- The minute ends (R371). -/
def execValveCqLossMinute (b : Fin 12) (s : State) : Res :=
  .next (s.cqMinute b)

/-- The averages of a die are formed from the measured periods (R374). -/
def execStageBudgetCheck (die : Fin 2) (c60 : List ChopRun) (c1 : List ChopRun) (h60 : List
    HsRun) (h1 : List HsRun) (s : State) : Res :=
  .next (s.stageBudget die c60 c1 h60 h1)

end Sys2Proof.Machine
end

