-- ==== Sys2Proof/Machine/Dispatch.lean ====
section
/-! DEFINITION. One arm per command: a direct call of its meaning. -/

namespace Sys2Proof.Machine

def exec (i : Instr) (s : State) : Host.Outcome State Fault Refusal :=
  match i with
  | .estimateTick => Sys2Proof.Machine.execEstimateTick s
  | .timeBroadcast => Sys2Proof.Machine.execTimeBroadcast s
  | .setpointRequestDeliver dataArm => Sys2Proof.Machine.execSetpointRequestDeliver dataArm s
  | .readReply => Sys2Proof.Machine.execReadReply s
  | .latchGroupRead req addr => Sys2Proof.Machine.execLatchGroupRead req addr s
  | .registerWrite req addr val => Sys2Proof.Machine.execRegisterWrite req addr val s
  | .pfiBelowThreshold => Sys2Proof.Machine.execPfiBelowThreshold s
  | .pfailAssert => Sys2Proof.Machine.execPfailAssert s
  | .sluiceFlushDone flush => Sys2Proof.Machine.execSluiceFlushDone flush s
  | .sluiceLastWordDone => Sys2Proof.Machine.execSluiceLastWordDone s
  | .sluiceMarkerWritten => Sys2Proof.Machine.execSluiceMarkerWritten s
  | .sluiceRestart => Sys2Proof.Machine.execSluiceRestart s
  | .railDip rail us => Sys2Proof.Machine.execRailDip rail us s
  | .logicRailsGood => Sys2Proof.Machine.execLogicRailsGood s
  | .powerOnReset straps => Sys2Proof.Machine.execPowerOnReset straps s
  | .powerStageRailChange rail mv => Sys2Proof.Machine.execPowerStageRailChange rail mv s
  | .externalReset straps => Sys2Proof.Machine.execExternalReset straps s
  | .testmodeAssert => Sys2Proof.Machine.execTestmodeAssert s
  | .testRelease => Sys2Proof.Machine.execTestRelease s
  | .commandReset req => Sys2Proof.Machine.execCommandReset req s
  | .pllLocked => Sys2Proof.Machine.execPllLocked s
  | .planeRelease octal badA badB repaired => Sys2Proof.Machine.execPlaneRelease octal badA badB repaired s
  | .pllLockLoss => Sys2Proof.Machine.execPllLockLoss s
  | .refLost => Sys2Proof.Machine.execRefLost s
  | .lifeCounterSave => Sys2Proof.Machine.execLifeCounterSave s
  | .gaugeUpdate code => Sys2Proof.Machine.execGaugeUpdate code s
  | .caddyFirstPassDone readErr => Sys2Proof.Machine.execCaddyFirstPassDone readErr s
  | .caddySecondPassDone altered readErr ms => Sys2Proof.Machine.execCaddySecondPassDone altered readErr ms s
  | .keyProgram req slot => Sys2Proof.Machine.execKeyProgram req slot s
  | .keyRevoke req slot => Sys2Proof.Machine.execKeyRevoke req slot s
  | .caddySwap x => Sys2Proof.Machine.execCaddySwap x s
  | .bodySwapResume k => Sys2Proof.Machine.execBodySwapResume k s
  | .mgmtFwRestartDone ms => Sys2Proof.Machine.execMgmtFwRestartDone ms s
  | .kmpHello src dg => Sys2Proof.Machine.execKmpHello src dg s
  | .kmpBye src dg => Sys2Proof.Machine.execKmpBye src dg s
  | .kmpRead src dg => Sys2Proof.Machine.execKmpRead src dg s
  | .kmpWrite src dg => Sys2Proof.Machine.execKmpWrite src dg s
  | .kmpBlockRead src dg => Sys2Proof.Machine.execKmpBlockRead src dg s
  | .kmpLogRead src x => Sys2Proof.Machine.execKmpLogRead src x s
  | .kmpLogFreeze src dg => Sys2Proof.Machine.execKmpLogFreeze src dg s
  | .kmpCupRead src dg => Sys2Proof.Machine.execKmpCupRead src dg s
  | .kmpCaddyWrite src dg => Sys2Proof.Machine.execKmpCaddyWrite src dg s
  | .kmpSnapshotExport src dg => Sys2Proof.Machine.execKmpSnapshotExport src dg s
  | .kmpSnapshotImport src dg => Sys2Proof.Machine.execKmpSnapshotImport src dg s
  | .kmpHeartbeat src dg => Sys2Proof.Machine.execKmpHeartbeat src dg s
  | .kmpSetTime src dg => Sys2Proof.Machine.execKmpSetTime src dg s
  | .kmpData src x => Sys2Proof.Machine.execKmpData src x s
  | .kmpAck src dg => Sys2Proof.Machine.execKmpAck src dg s
  | .bulkDataSend j => Sys2Proof.Machine.execBulkDataSend j s
  | .bulkAckTimer j => Sys2Proof.Machine.execBulkAckTimer j s
  | .bulkResendTimeout j => Sys2Proof.Machine.execBulkResendTimeout j s
  | .bulkAbandonTimeout j => Sys2Proof.Machine.execBulkAbandonTimeout j s
  | .kmpPendingTimeout n => Sys2Proof.Machine.execKmpPendingTimeout n s
  | .kmpIdleTimeout n => Sys2Proof.Machine.execKmpIdleTimeout n s
  | .kmpTagFailSecond => Sys2Proof.Machine.execKmpTagFailSecond s
  | .frameForward port frame => Sys2Proof.Machine.execFrameForward port frame s
  | .stormSecondEnd e => Sys2Proof.Machine.execStormSecondEnd e s
  | .macAgeOut mac => Sys2Proof.Machine.execMacAgeOut mac s
  | .linkChange e up speed full => Sys2Proof.Machine.execLinkChange e up speed full s
  | .arpRequest e ip6 target => Sys2Proof.Machine.execArpRequest e ip6 target s
  | .echoRequest e => Sys2Proof.Machine.execEchoRequest e s
  | .unservedPortSegment e tcp dport => Sys2Proof.Machine.execUnservedPortSegment e tcp dport s
  | .dhcpRenew lease => Sys2Proof.Machine.execDhcpRenew lease s
  | .dhcpLeaseLost => Sys2Proof.Machine.execDhcpLeaseLost s
  | .addressProbeDone addr mask gw lease conflict => Sys2Proof.Machine.execAddressProbeDone addr mask gw lease conflict s
  | .conflictRetry => Sys2Proof.Machine.execConflictRetry s
  | .modbusConnect conn src => Sys2Proof.Machine.execModbusConnect conn src s
  | .modbusIdleClose conn => Sys2Proof.Machine.execModbusIdleClose conn s
  | .modbusReadHolding conn adu => Sys2Proof.Machine.execModbusReadHolding conn adu s
  | .modbusReadInput conn adu => Sys2Proof.Machine.execModbusReadInput conn adu s
  | .modbusWriteSingle conn adu => Sys2Proof.Machine.execModbusWriteSingle conn adu s
  | .modbusWriteMultiple conn adu => Sys2Proof.Machine.execModbusWriteMultiple conn adu s
  | .modbusReadWrite conn adu => Sys2Proof.Machine.execModbusReadWrite conn adu s
  | .clientPoll m => Sys2Proof.Machine.execClientPoll m s
  | .clientResponse m pdu => Sys2Proof.Machine.execClientResponse m pdu s
  | .clientTransactionTimeout m => Sys2Proof.Machine.execClientTransactionTimeout m s
  | .clientConnectionLost m => Sys2Proof.Machine.execClientConnectionLost m s
  | .clientReconnect m ok => Sys2Proof.Machine.execClientReconnect m ok s
  | .hspiRead cmd data clocks => Sys2Proof.Machine.execHspiRead cmd data clocks s
  | .hspiWrite cmd data clocks => Sys2Proof.Machine.execHspiWrite cmd data clocks s
  | .hspiFetch cmd data clocks => Sys2Proof.Machine.execHspiFetch cmd data clocks s
  | .heartbeat req val => Sys2Proof.Machine.execHeartbeat req val s
  | .watchdogTrip => Sys2Proof.Machine.execWatchdogTrip s
  | .ppsEdge falling t => Sys2Proof.Machine.execPpsEdge falling t s
  | .nmeaSentence text t => Sys2Proof.Machine.execNmeaSentence text t s
  | .gnssLost => Sys2Proof.Machine.execGnssLost s
  | .holdoverExpire => Sys2Proof.Machine.execHoldoverExpire s
  | .timeStepApply => Sys2Proof.Machine.execTimeStepApply s
  | .slewDone => Sys2Proof.Machine.execSlewDone s
  | .timeSetCmd req => Sys2Proof.Machine.execTimeSetCmd req s
  | .gnssReceiverReset => Sys2Proof.Machine.execGnssReceiverReset s
  | .gnssSetupSend => Sys2Proof.Machine.execGnssSetupSend s
  | .timeMark => Sys2Proof.Machine.execTimeMark s
  | .ptpAnnounceSend n => Sys2Proof.Machine.execPtpAnnounceSend n s
  | .ptpSyncSend n => Sys2Proof.Machine.execPtpSyncSend n s
  | .ptpDelayReq n seq t => Sys2Proof.Machine.execPtpDelayReq n seq t s
  | .ptpForeignAnnounce n domain dataset => Sys2Proof.Machine.execPtpForeignAnnounce n domain dataset s
  | .ptpAnnounceTimeout n => Sys2Proof.Machine.execPtpAnnounceTimeout n s
  | .ppsOutEdge => Sys2Proof.Machine.execPpsOutEdge s
  | .sprinCycleStart p ma => Sys2Proof.Machine.execSprinCycleStart p ma s
  | .sprinReply p rtt line last => Sys2Proof.Machine.execSprinReply p rtt line last s
  | .sprinReplyTimeout p => Sys2Proof.Machine.execSprinReplyTimeout p s
  | .sprinAlarmFrame p rtt line last => Sys2Proof.Machine.execSprinAlarmFrame p rtt line last s
  | .sprinEnumPresence p hit => Sys2Proof.Machine.execSprinEnumPresence p hit s
  | .sprinSupplyTrip p ma => Sys2Proof.Machine.execSprinSupplyTrip p ma s
  | .sprinSupplyRetry p => Sys2Proof.Machine.execSprinSupplyRetry p s
  | .sprinBootDone p => Sys2Proof.Machine.execSprinBootDone p s
  | .sprinStuck p => Sys2Proof.Machine.execSprinStuck p s
  | .sprinStuckEnd p => Sys2Proof.Machine.execSprinStuckEnd p s
  | .sprinReenumerate req p => Sys2Proof.Machine.execSprinReenumerate req p s
  | .sprinPowerCycle req p => Sys2Proof.Machine.execSprinPowerCycle req p s
  | .sprinIdentify req p addr => Sys2Proof.Machine.execSprinIdentify req p addr s
  | .sprinNcmdGo req p val => Sys2Proof.Machine.execSprinNcmdGo req p val s
  | .sprinMinuteReport p => Sys2Proof.Machine.execSprinMinuteReport p s
  | .fieldSample j raw y t => Sys2Proof.Machine.execFieldSample j raw y t s
  | .shuntOverload j => Sys2Proof.Machine.execShuntOverload j s
  | .shuntReclose j => Sys2Proof.Machine.execShuntReclose j s
  | .aoMonitorSample n value => Sys2Proof.Machine.execAoMonitorSample n value s
  | .aoFaultEnter n => Sys2Proof.Machine.execAoFaultEnter n s
  | .aoFaultClear n => Sys2Proof.Machine.execAoFaultClear n s
  | .pulseEdge n rising dur5ns t => Sys2Proof.Machine.execPulseEdge n rising dur5ns t s
  | .pulseTimeout n => Sys2Proof.Machine.execPulseTimeout n s
  | .pulseMinuteReport n => Sys2Proof.Machine.execPulseMinuteReport n s
  | .bodyStepReady k => Sys2Proof.Machine.execBodyStepReady k s
  | .tileDone k tile bad q => Sys2Proof.Machine.execTileDone k tile bad q s
  | .readingArrive anchor value sigma stamp => Sys2Proof.Machine.execReadingArrive anchor value sigma stamp s
  | .airflowSolveDue k => Sys2Proof.Machine.execAirflowSolveDue k s
  | .airflowSolveDone k passes cycles ppm => Sys2Proof.Machine.execAirflowSolveDone k passes cycles ppm s
  | .forecastRunStart k => Sys2Proof.Machine.execForecastRunStart k s
  | .forecastRunDone k ms => Sys2Proof.Machine.execForecastRunDone k ms s
  | .snapshotDue => Sys2Proof.Machine.execSnapshotDue s
  | .snapshotWriteDone ok => Sys2Proof.Machine.execSnapshotWriteDone ok s
  | .bodyHold req k => Sys2Proof.Machine.execBodyHold req k s
  | .bodyResume req k => Sys2Proof.Machine.execBodyResume req k s
  | .coastRepublish k => Sys2Proof.Machine.execCoastRepublish k s
  | .coldSeed k => Sys2Proof.Machine.execColdSeed k s
  | .millCellRead req k => Sys2Proof.Machine.execMillCellRead req k s
  | .millMinuteReport k busy => Sys2Proof.Machine.execMillMinuteReport k busy s
  | .govSample n cut => Sys2Proof.Machine.execGovSample n cut s
  | .govModeRequest req n val => Sys2Proof.Machine.execGovModeRequest req n val s
  | .govCoefWrite req n off val => Sys2Proof.Machine.execGovCoefWrite req n off val s
  | .staleTimeout n j prim => Sys2Proof.Machine.execStaleTimeout n j prim s
  | .coastExpire n j => Sys2Proof.Machine.execCoastExpire n j s
  | .testLimitExpire n => Sys2Proof.Machine.execTestLimitExpire n s
  | .govMinuteReport n => Sys2Proof.Machine.execGovMinuteReport n s
  | .cupArm req => Sys2Proof.Machine.execCupArm req s
  | .cupStop req => Sys2Proof.Machine.execCupStop req s
  | .cupClear req => Sys2Proof.Machine.execCupClear req s
  | .cupAtTrigger => Sys2Proof.Machine.execCupAtTrigger s
  | .cupInfCfgWrite req n val => Sys2Proof.Machine.execCupInfCfgWrite req n val s
  | .valveTimed req v id holdMs => Sys2Proof.Machine.execValveTimed req v id holdMs s
  | .valveContinuous req v id => Sys2Proof.Machine.execValveContinuous req v id s
  | .valveStop req v id => Sys2Proof.Machine.execValveStop req v id s
  | .prearmEnd v => Sys2Proof.Machine.execPrearmEnd v s
  | .peakReached v samples => Sys2Proof.Machine.execPeakReached v samples s
  | .peakTimeEnd v samples => Sys2Proof.Machine.execPeakTimeEnd v samples s
  | .holdEnd v => Sys2Proof.Machine.execHoldEnd v s
  | .releaseDone v => Sys2Proof.Machine.execReleaseDone v s
  | .lingerEnd b => Sys2Proof.Machine.execLingerEnd b s
  | .deferTimeout v => Sys2Proof.Machine.execDeferTimeout v s
  | .valveShortTrip v => Sys2Proof.Machine.execValveShortTrip v s
  | .probeDone v dMin d ma mv => Sys2Proof.Machine.execProbeDone v dMin d ma mv s
  | .dutyIntervalEnd v => Sys2Proof.Machine.execDutyIntervalEnd v s
  | .valveStageError v => Sys2Proof.Machine.execValveStageError v s
  | .valveBankDisable req b => Sys2Proof.Machine.execValveBankDisable req b s
  | .valveBankEnable req b => Sys2Proof.Machine.execValveBankEnable req b s
  | .valveChannelDisable req v => Sys2Proof.Machine.execValveChannelDisable req v s
  | .valveChannelEnable req v => Sys2Proof.Machine.execValveChannelEnable req v s
  | .valveClearFault req v => Sys2Proof.Machine.execValveClearFault req v s
  | .valveCqPop req b seq => Sys2Proof.Machine.execValveCqPop req b seq s
  | .valveCqLossMinute b => Sys2Proof.Machine.execValveCqLossMinute b s
  | .stageBudgetCheck die c60 c1 h60 h1 => Sys2Proof.Machine.execStageBudgetCheck die c60 c1 h60 h1 s
  | .fanPeriodStart f => Sys2Proof.Machine.execFanPeriodStart f s
  | .fanStartingEnd f => Sys2Proof.Machine.execFanStartingEnd f s
  | .fanWindowStart f => Sys2Proof.Machine.execFanWindowStart f s
  | .tachEdge f us stampUs => Sys2Proof.Machine.execTachEdge f us stampUs s
  | .fanWindowEnd f ma us => Sys2Proof.Machine.execFanWindowEnd f ma us s
  | .fanRetryExpire f => Sys2Proof.Machine.execFanRetryExpire f s
  | .fanBurstEnd f levels ma ms => Sys2Proof.Machine.execFanBurstEnd f levels ma ms s
  | .fanShort f => Sys2Proof.Machine.execFanShort f s
  | .fanLoopTick f => Sys2Proof.Machine.execFanLoopTick f s
  | .fanInputStale f => Sys2Proof.Machine.execFanInputStale f s
  | .guardSample n rawA okA rawB okB => Sys2Proof.Machine.execGuardSample n rawA okA rawB okB s
  | .zoneDwellExpire z cut => Sys2Proof.Machine.execZoneDwellExpire z cut s
  | .haltGraceEnd used flush => Sys2Proof.Machine.execHaltGraceEnd used flush s
  | .thermalRestart => Sys2Proof.Machine.execThermalRestart s
  | .panelBlankingSlot vf => Sys2Proof.Machine.execPanelBlankingSlot vf s
  | .gainRecompute => Sys2Proof.Machine.execGainRecompute s
  | .stressSave => Sys2Proof.Machine.execStressSave s
  | .dispFbWrite req val => Sys2Proof.Machine.execDispFbWrite req val s
  | .dispCommitGo req val => Sys2Proof.Machine.execDispCommitGo req val s
  | .dispPanelOff req => Sys2Proof.Machine.execDispPanelOff req s
  | .dispWake req => Sys2Proof.Machine.execDispWake req s
  | .dispClearCrack req => Sys2Proof.Machine.execDispClearCrack req s
  | .dispClearStress req => Sys2Proof.Machine.execDispClearStress req s
  | .bindingHoldEnd => Sys2Proof.Machine.execBindingHoldEnd s
  | .dischargeDone => Sys2Proof.Machine.execDischargeDone s
  | .crackCheck ohms => Sys2Proof.Machine.execCrackCheck ohms s
  | .stripGo req val => Sys2Proof.Machine.execStripGo req val s
  | .stripFrame => Sys2Proof.Machine.execStripFrame s
  | .stripMarkerDone => Sys2Proof.Machine.execStripMarkerDone s
  | .stripWaitTimeout => Sys2Proof.Machine.execStripWaitTimeout s
  | .eventRecordSubmit port code sev p0 p1 p2 prov => Sys2Proof.Machine.execEventRecordSubmit port code sev p0 p1 p2 prov s
  | .pondRecordEntry => Sys2Proof.Machine.execPondRecordEntry s
  | .logPageDue => Sys2Proof.Machine.execLogPageDue s
  | .logPageProgrammed ok => Sys2Proof.Machine.execLogPageProgrammed ok s
  | .sectorEraseDone headrace sector ok => Sys2Proof.Machine.execSectorEraseDone headrace sector ok s
  | .logClear req confirm => Sys2Proof.Machine.execLogClear req confirm s
  | .headraceEraseDone => Sys2Proof.Machine.execHeadraceEraseDone s
  | .logFreezeSet req => Sys2Proof.Machine.execLogFreezeSet req s
  | .logFreezeLift req => Sys2Proof.Machine.execLogFreezeLift req s
  | .freezeTimeout => Sys2Proof.Machine.execFreezeTimeout s
  | .syslogSend => Sys2Proof.Machine.execSyslogSend s
  | .syslogSkipMinute => Sys2Proof.Machine.execSyslogSkipMinute s
  | .gnssMinuteReport => Sys2Proof.Machine.execGnssMinuteReport s
  | .elementErrorDetected e home x => Sys2Proof.Machine.execElementErrorDetected e home x s
  | .selfTestDone e home fails => Sys2Proof.Machine.execSelfTestDone e home fails s
  | .relHostTest req unit idx => Sys2Proof.Machine.execRelHostTest req unit idx s
  | .lockstepMismatch tile => Sys2Proof.Machine.execLockstepMismatch tile s
  | .lockstepTestDone passA passB => Sys2Proof.Machine.execLockstepTestDone passA passB s
  | .lockstepReexecuteDone agree ns holdNs => Sys2Proof.Machine.execLockstepReexecuteDone agree ns holdNs s
  | .lockstepPlaceDone errA errB ns holdNs => Sys2Proof.Machine.execLockstepPlaceDone errA errB ns holdNs s
  | .scrubStep err => Sys2Proof.Machine.execScrubStep err s
  | .eccHourReport => Sys2Proof.Machine.execEccHourReport s
  | .bootSelfTestDone tested failed ms => Sys2Proof.Machine.execBootSelfTestDone tested failed ms s
  | .pfiReturn => Sys2Proof.Machine.execPfiReturn s
  | .v1p8Collapse => Sys2Proof.Machine.execV1p8Collapse s
  | .valveProbeStart v => Sys2Proof.Machine.execValveProbeStart v s
  | .sprinPowerCycleEnd p => Sys2Proof.Machine.execSprinPowerCycleEnd p s
  | .linkLocalFallback low => Sys2Proof.Machine.execLinkLocalFallback low s
  | .gnssResetRelease => Sys2Proof.Machine.execGnssResetRelease s

end Sys2Proof.Machine
end

