-- ==== Sys2Proof/Safety.lean ====
section
/-! DEFINITION. What counts as a safe state and a safe run, in the terms the statements use: a step that
answers a next state, the capacities and the canonical form that every step keeps, and what it means that
registers and the rest of the state are left alone. -/

namespace Sys2Proof.Machine

/-- A step answers a next state. -/
def completes (s : State) : Prop := ∃ t, step s = .next t

/-- The register table is in canonical form, no intake FIFO of the event recorder holds more than 16
records (R435), neither arm of the set-point leat more than 64 requests (R28), and no completion queue
more than 32 entries (R371). -/
structure State.Good (s : State) : Prop where
  regs : twf regReset s.regs = true
  fifo : ∀ p, (s.log.fifo p).length ≤ 16
  ctl : s.fab.ctl.length ≤ 64
  dat : s.fab.dat.length ≤ 64
  cq : ∀ b, (s.bank b).cq.length ≤ 32

/-- The addressed memories of the block are in canonical form: the configuration flash, the frame store, the
cup region and the two banks of the estimate table. -/
def State.memWf (s : State) : Bool :=
  twf (fun _ => (0xFF : Byte)) s.nv.flash && twf (fun _ => (0 : Byte)) s.disp.fb && twf (fun _ => (0 : Byte)) s.cup.mem &&
    twf (fun _ => (0 : Word)) s.est.back && twf (fun _ => (0 : Word)) s.est.front

/-- `Good`, with the queue of waiting commands equal to `q`. -/
structure State.Ok (q : List Instr) (s : State) : Prop where
  queue : s.pending = q
  good : s.Good

/-- Every register but those listed reads in `t` as in `s`. -/
def SameRegs (l : List Nat) (s t : State) : Prop := ∀ a, a ∉ l → t.reg a = s.reg a

/-- `t` is `s` but for the registers listed. -/
def OnlyRegs (l : List Nat) (s t : State) : Prop := SameRegs l s t ∧ { t with regs := s.regs } = s

/-- A record from a port enters its FIFO: there is room in it, and the recorder is up, as only the always-on block
needs it not to be (R31, R435, R436). -/
abbrev Room (s : State) (port : Nat) : Prop := (port = 0 ∨ s.mpUp = true) ∧ (s.log.fifo port).length < 16

/-- The recorder of `t` is that of `s` with one record more, the newest in the FIFO of the port (R431, R433,
R435). -/
def Logged (port code p0 p1 p2 : Nat) (s t : State) : Prop :=
  t.log = s.log.setFifo port (s.log.fifo port ++
    [{ code := code, sev := sevOf code p1, p0 := p0 % 2 ^ 32, p1 := p1 % 2 ^ 32, p2 := p2 % 2 ^ 32 }])

/-- A write of `v` by `req` reaches the register at `a` now and is no violation: no load holds it off, nothing
waits before it on its arm (R28, R93, R103, R106). -/
abbrev Writes (s : State) (req a : Nat) (v : Word) : Prop :=
  s.mpUp = true ∧ (s.loading = false ∨ req = 2) ∧ s.waitsBehind a = false ∧ s.writeOk req a v = true

/-- The registers that filling the quads, and firm time that follows the sources, may write after an event of body
`k` (R241, R242, R281, R295). -/
def State.millRegs (s : State) (k : Nat) : List Nat :=
  [Reg.MILL_SNAP_STATUS, Reg.MILL_SCHED_STATS, Reg.MILL_RUN_STATUS k] ++ s.mill.bodies.map (fun p => Reg.MILL_RUN_STATUS p.1)

/-- The newest record in the intake FIFO of a port. -/
def Newest (port code p0 p1 p2 : Nat) (t : State) : Prop :=
  (t.log.fifo port).getLast? =
    some { code := code, sev := sevOf code p1, p0 := p0 % 2 ^ 32, p1 := p1 % 2 ^ 32, p2 := p2 % 2 ^ 32 }

/-- A datagram of the client at `src` with a good tag and a fresh counter for an open session, while hosts are served
(R120, R125 to R128). -/
abbrev Accepts (s : State) (src : Nat) (dg : List Byte) (m : Kmp) : Prop :=
  s.isLoaded = true ∧ s.caddy.fwRestart = false ∧ s.reaches src = true ∧ kmpParse dg = some m ∧ m.ver = 1 ∧ m.reply = false ∧ m.sess < 8 ∧
    s.on (Reg.NET_SESSION_OPEN m.sess) = true ∧ kmpTag (s.session m.sess).key m.signed = m.tag ∧
    ctrFresh (s.session m.sess) m.ctr = true

/-- The session has accepted the datagram's counter (R126). -/
def State.heard (s : State) (m : Kmp) : State :=
  s.setSession m.sess ((s.session m.sess).accept m.ctr s.tim.mono)

/-- `t` has sent one datagram more than `s`, of session `n` with its counter and tag (R125, R126). -/
def Sent (n op status : Nat) (body : List Byte) (s t : State) : Prop :=
  t.out = .kmp (kmpBytes op n (s.session n).sendCtr status body ++
    kmpTag (s.session n).key (kmpBytes op n (s.session n).sendCtr status body)) :: s.out

/-- The reply to a request, and nothing else, has been sent (R131). -/
def Answered (m : Kmp) (status : Nat) (body : List Byte) (s t : State) : Prop :=
  Sent m.sess m.op status (leBytes 8 m.ctr ++ body) s t

/-- A Modbus request of function code `fc` arrives on an open connection of the running server, which has
nothing else to do (R135, R140). -/
abbrev MbAsks (s : State) (conn fc : Nat) (adu : List Byte) : Prop :=
  s.mbOpen = true ∧ s.net.conns.contains conn = true ∧ 8 ≤ adu.length ∧ ofBe (slice 7 1 adu) = fc ∧
    ofBe (slice 2 2 adu) = 0 ∧ ofBe (slice 4 2 adu) + 6 = adu.length ∧ s.net.mbBusy = false ∧ s.net.mbQueue = [] ∧
    s.fab.txns = []

/-- The server has answered the request with a PDU: its transaction and unit identifiers, and one answer
counted (R135, R140). -/
def MbReply (conn : Nat) (adu pdu : List Byte) (s t : State) : Prop :=
  t.out = .modbus conn (adu.take 4 ++ beBytes 2 (pdu.length + 1) ++ slice 6 1 adu ++ pdu) :: s.out ∧
    t.get Reg.NET_MB_STATS_REQUESTS = (s.get Reg.NET_MB_STATS_REQUESTS + 1) % 65536

/-- A work item of channel `v` has ended: the entry of its bank's completion queue, the newest, where a full
queue has lost its oldest (R371). -/
def ItemEnds (v id status reason : Nat) (s t : State) : Prop :=
  (t.bank (v / 8)).cq = (s.bank (v / 8)).cq.drop (if 32 ≤ (s.bank (v / 8)).cq.length then 1 else 0) ++
    [{ id := id % 256, ch := v % 8, status := status, reason := reason, seq := (s.bank (v / 8)).nextSeq }]

end Sys2Proof.Machine
end

