-- ==== Sys2Proof/Certificates/Slice0/Obligations.lean ====
section
/-! DEFINITION. The statements about this block, family by family of the commands. -/

open Sys2Proof Sys2Proof.Machine Sys2Proof.Machine.Reg

/-- A step takes the command at the front of the queue and carries it out on the state with the queue's rest; with no
command waiting the block idles: the operating-time counter goes on by one, and without a command nothing but the
two OPTIME registers and the time unit's copy of site time changes (DESIGN CHOICE, log entry 2). -/
def Obligations.StepRunsFront : Prop :=
  (∀ (c : Instr) (q : List Instr) (s : State), s.pending = c :: q → step s = exec c { s with pending := q }) ∧
  (∀ s : State, s.pending = [] → s.pwr.collapsed = false →
    ∃ t, step s = .next t ∧ t.pending = [] ∧ t.optime = (s.optime + 1) % 2 ^ 40 ∧
      SameRegs [PWR_OPTIME_LO, PWR_OPTIME_HI] s t ∧ { t with regs := s.regs, tim := s.tim } = s) ∧
  (∀ s : State, s.pending = [] → s.pwr.collapsed = true → step s = .next s)

/-- Right after the first power-on reset the cause is a power-on, one power cycle is counted, the operating time holds
its first count, every controller spare row is free, and every other register reads its reset value; the planes are
in reset, nothing waits, and no record is in any FIFO, in the pond, in the tailrace or in the headrace (R77, R78,
R79, R101, R460; the values of the registers the spec gives no reset value are those of log entry 3). -/
def Obligations.ResetValues : Prop :=
  State.reset.reg PWR_RESET_CAUSE = 1 ∧ State.reset.reg PWR_CYCLE_COUNT = 1 ∧ State.reset.reg PWR_OPTIME_LO = 1 ∧
  State.reset.reg REL_DRAM_SPARE = 64 ∧
  (∀ a : Nat, a ∉ [PWR_RESET_CAUSE, PWR_CYCLE_COUNT, PWR_OPTIME_LO, REL_DRAM_SPARE] →
    State.reset.reg a = regReset a) ∧
  State.reset.pwr.rstMp = true ∧ State.reset.pwr.rstDp = true ∧ State.reset.pwr.rstCp = true ∧
  State.reset.pending = [] ∧ (∀ p : Nat, State.reset.log.fifo p = []) ∧ State.reset.log.pond = [] ∧
  State.reset.log.tail = [] ∧ State.reset.log.head = [] ∧ State.reset.log.nextSeq = 1

/-- The machine right after reset meets the invariant `Good`: a canonical register table, and no queue of a stated
capacity over it (R28, R371, R435). -/
def Obligations.ResetGood : Prop :=
  State.reset.Good

/-- Every step from a state that meets `Good` answers a next state that meets it, whatever the command: the register
table stays canonical, an intake FIFO never holds more than 16 records, an arm of the leat never more than 64
requests, a completion queue never more than 32 entries (R28, R371, R435). The model's own choices it rests on: log
entries 1, 2. -/
def Obligations.StepKeepsGood : Prop :=
  ∀ s : State, s.Good → ∃ t, step s = .next t ∧ t.Good

/-- No command touches the queue of the commands that wait behind it, and every command is carried out: it answers a
next state, never a fault and never a refusal. The model's own choices it rests on: log entries 1, 12. -/
def Obligations.ExecKeepsQueue : Prop :=
  ∀ (c : Instr) (s : State), ∃ t, exec c s = .next t ∧ t.pending = s.pending

/-- With the control plane running a switching period takes the drive row that applies, FORCE shows it, and nothing
changes but FAN_STATUS[f] and, when the fan turns off, its window, which closes; an off fan, and one whose supply
came back, starts at 100 % when the code reaches MIN_DUTY + 13, a code below MIN_DUTY turns a running fan off, else
the code applies; without supply the state is NO_VFAN. The start of 500 ms ends in RUNNING. Where an event does not
apply nothing changes (DESIGN CHOICE, log entry 1). From parts of R376, R377, R380. -/
def Obligations.FanSwitching : Prop :=
  (∀ (f : Fin 16) (d : Nat × Nat) (s : State), s.cpUp = true → d = (s.fanSupplied f).fanDrive f →
    ∃ t, exec (.fanPeriodStart f) s = .next t ∧ SameRegs [FAN_STATUS f] s t ∧
    { t with regs := s.regs, fans := s.fans } = s ∧ (∀ g, g ≠ f.val → t.fan g = s.fan g) ∧
    (t.fan f = s.fan f ∨ t.fan f = { s.fan f with window := false, edges := [] }) ∧
    t.get (FAN_STATUS_FORCE f) = (if d.1 = 8 ∧ s.fanFenced f = false then 0 else d.1) ∧
    (d.1 = 7 → t.get (FAN_STATUS_DUTY f) = 0) ∧
    (d.1 = 8 → t.get (FAN_STATUS_DUTY f) = 255) ∧
    (s.on PWR_STATUS_VFAN_OK = false → d.1 ≠ 7 → t.fst f = 9) ∧
    (s.on PWR_STATUS_VFAN_OK = true → d.1 ≠ 7 → d.1 ≠ 8 → d.2 < 256 →
      ((s.fst f = 0 ∨ s.fst f = 1 ∨ s.fst f = 9) → s.get (FAN_LOOP_MIN_DUTY f) + 13 ≤ d.2 →
        t.fst f = 2 ∧ t.get (FAN_STATUS_DUTY f) = 255) ∧
      ((s.fst f = 0 ∨ s.fst f = 1 ∨ s.fst f = 9) → d.2 < s.get (FAN_LOOP_MIN_DUTY f) + 13 →
        t.get (FAN_STATUS_DUTY f) = 0) ∧
      (s.fst f = 3 → d.2 < s.get (FAN_LOOP_MIN_DUTY f) →
        t.get (FAN_STATUS_DUTY f) = 0 ∧ (t.fan f).window = false) ∧
      (s.fst f = 3 → s.get (FAN_LOOP_MIN_DUTY f) ≤ d.2 → s.fanIdle f = false →
        t.fst f = 3 ∧ t.get (FAN_STATUS_DUTY f) = d.2))) ∧
  (∀ (f : Fin 16) (s : State), s.cpUp = false → exec (.fanPeriodStart f) s = .next s) ∧
  (∀ (f : Fin 16) (s : State), s.fst f = 2 →
    ∃ t, exec (.fanStartingEnd f) s = .next t ∧ t.fst f = 3 ∧ OnlyRegs [FAN_STATUS f] s t) ∧
  (∀ (f : Fin 16) (s : State), s.fst f ≠ 2 → exec (.fanStartingEnd f) s = .next s)

/-- A window opens in RUNNING, TACH_LOST and OPEN with VFAN good, nothing fenced or held; an edge that lasted 50 µs is
accepted up to the fourth, a shorter one is not. Nothing but the channel's window changes. Where an event does not
apply nothing changes (DESIGN CHOICE, log entry 1). From parts of R378, R379, R493. -/
def Obligations.FanWindows : Prop :=
  (∀ (f : Fin 16) (s : State), (s.fst f = 3 ∨ s.fst f = 4 ∨ s.fst f = 8) → s.on PWR_STATUS_VFAN_OK = true →
    s.fanFenced f = false → s.fansHeld = false → s.fansBoot = false →
    ∃ t, exec (.fanWindowStart f) s = .next t ∧ t.fan f = { s.fan f with window := true, edges := [] } ∧
      (∀ g, g ≠ f.val → t.fan g = s.fan g) ∧ { t with fans := s.fans } = s) ∧
  (∀ (f : Fin 16) (s : State), (s.fst f = 1 ∨ s.fst f = 2 ∨ s.fst f = 5 ∨ s.fst f = 7 ∨ s.fst f = 9) →
    exec (.fanWindowStart f) s = .next s) ∧
  (∀ (f : Fin 16) (us stamp : Nat) (s : State), (s.fan f).window = true → 50 ≤ us → (s.fan f).edges.length < 4 →
    ∃ t, exec (.tachEdge f us stamp) s = .next t ∧ t.fan f = { s.fan f with edges := (s.fan f).edges ++ [stamp] } ∧
      (∀ g, g ≠ f.val → t.fan g = s.fan g) ∧ { t with fans := s.fans } = s) ∧
  (∀ (f : Fin 16) (us stamp : Nat) (s : State), us < 50 → exec (.tachEdge f us stamp) s = .next s)

/-- The verdict of a window of a running fan, which ends at its fourth edge or at 120 ms. Two edges: it runs on and the
mean of the current samples shows (its last digit where the quotient is not whole is the model's open value, log
entry 25). Under 50 mA without edges: OPEN with record 0x4005. At 50 mA or more without edges, with ripple:
TACH_LOST, counted, with record 0x4003; without ripple: the stall begins, counted, switch off, with record 0x4001.
The model's own choices it rests on: log entry 25. From parts of R380 to R382. -/
def Obligations.FanVerdicts : Prop :=
  (∀ (f : Fin 16) (ma : List Nat) (us : Nat) (s : State), (s.fan f).window = true → s.fst f = 3 → (s.fan f).run = 0 →
    s.get (FAN_CFG_PPR f) ≠ 0 →
    (us = 120000 ∧ 2 ≤ (s.fan f).edges.length ∨ us < 120000 ∧ (s.fan f).edges.length = 4) →
    ∃ t, exec (.fanWindowEnd f ma us) s = .next t ∧ t.fst f = 3 ∧ (t.fan f).window = false ∧
      t.get (FAN_SPEED_CURRENT_MA f) = min (s.fanMean ma).1 65535 ∧ SameRegs [FAN_SPEED f] s t ∧ t.log = s.log) ∧
  (∀ (f : Fin 16) (ma : List Nat) (s : State), (s.fan f).window = true → s.fst f = 3 → (s.fan f).run = 0 →
    (s.fan f).edges = [] → (meanCurrent ma).1 < 50 * (meanCurrent ma).2 → Room s portFan →
    ∃ t, exec (.fanWindowEnd f ma 120000) s = .next t ∧ t.fst f = 8 ∧ t.get (FAN_STATUS_OPEN_SEEN f) = 1 ∧
      SameRegs [FAN_SPEED f, FAN_STATUS f] s t ∧ Logged portFan 0x4005 f (s.fanMean ma).1 0 s t) ∧
  (∀ (f : Fin 16) (ma : List Nat) (s : State), (s.fan f).window = true → s.fst f = 3 → (s.fan f).run = 0 →
    (s.fan f).edges = [] → s.get (FAN_CFG_PPR f) ≠ 0 → 50 * (meanCurrent ma).2 ≤ (meanCurrent ma).1 →
    4 ≤ rippleDips ma → Room s portFan →
    ∃ t, exec (.fanWindowEnd f ma 120000) s = .next t ∧ t.fst f = 4 ∧ t.get (FAN_STATUS_TACH_LOST_SEEN f) = 1 ∧
      t.get (FAN_STATS_TACH_LOSSES f) = (s.get (FAN_STATS_TACH_LOSSES f) + 1) % 256 ∧
      SameRegs [FAN_SPEED f, FAN_STATUS f, FAN_STATS f] s t ∧
      Logged portFan 0x4003 f (s.fanMean ma).1 (rippleDips ma) s t) ∧
  (∀ (f : Fin 16) (ma : List Nat) (s : State), (s.fan f).window = true → s.fst f = 3 → (s.fan f).run = 0 →
    (s.fan f).edges = [] → 50 * (meanCurrent ma).2 ≤ (meanCurrent ma).1 → rippleDips ma < 4 → s.fansHeld = false →
    s.fansBoot = false → s.fanFenced f = false → Room s portFan →
    ∃ t, exec (.fanWindowEnd f ma 120000) s = .next t ∧ t.fst f = 5 ∧ t.get (FAN_STATUS_STALL_SEEN f) = 1 ∧
      t.get (FAN_STATUS_FORCE f) = 6 ∧ t.get (FAN_STATUS_DUTY f) = 0 ∧
      t.get (FAN_STATS_STALLS f) = (s.get (FAN_STATS_STALLS f) + 1) % 256 ∧
      SameRegs [FAN_SPEED f, FAN_STATUS f, FAN_STATS f] s t ∧
      Logged portFan 0x4001 f (s.fanMean ma).1 (s.get (FAN_STATS_STALL_RETRIES f)) s t)

/-- RETRY_S off ends in a burst at 100 % and counts a retry; a burst without edges and ripple starts the off time again,
a burst with edges ends the run with record 0x4002; 20 ms in current limit switch a fan off as SHORT with record
0x4007. From parts of R381, R383. -/
def Obligations.FanRuns : Prop :=
  (∀ (f : Fin 16) (s : State), (s.fst f = 5 ∨ s.fst f = 7) → s.fansHeld = false → s.fansBoot = false →
    s.fanFenced f = false →
    ∃ t, exec (.fanRetryExpire f) s = .next t ∧ t.fst f = 6 ∧ t.get (FAN_STATUS_FORCE f) = 6 ∧
      t.get (FAN_STATUS_DUTY f) = 255 ∧
      t.get (FAN_STATS_STALL_RETRIES f) = (s.get (FAN_STATS_STALL_RETRIES f) + 1) % 65536 ∧
      SameRegs [FAN_STATUS f, FAN_STATS f] s t ∧ { t with regs := s.regs, fans := s.fans } = s) ∧
  (∀ (f : Fin 16) (ma : List Nat) (s : State), s.fst f = 6 → (s.fan f).run = 1 →
    50 * (meanCurrent ma).2 ≤ (meanCurrent ma).1 → rippleDips ma < 4 → s.on GUARD_STATUS_FANS_FORCED = false →
    ∃ t, exec (.fanBurstEnd f [] ma 2000) s = .next t ∧ t.fst f = 5 ∧ t.get (FAN_STATUS_DUTY f) = 0 ∧
      SameRegs [FAN_SPEED f, FAN_STATUS f] s t ∧ t.log = s.log) ∧
  (∀ (f : Fin 16) (levels : List TachLevel) (ma : List Nat) (s : State), s.fst f = 6 → (s.fan f).run ≠ 0 →
    s.get (FAN_CFG_PPR f) ≠ 0 → 2 ≤ (acceptedEdges levels).length → (s.fan f).table = [] →
    s.on GUARD_STATUS_FANS_FORCED = false → Room s portFan →
    ∃ t, exec (.fanBurstEnd f levels ma 2000) s = .next t ∧ t.fst f = 3 ∧ (t.fan f).run = 0 ∧
      SameRegs [FAN_SPEED f, FAN_STATUS f] s t ∧
      Logged portFan 0x4002 f (s.fan f).retries ((s.optime - (s.fan f).runAt) / 1024) s t) ∧
  (∀ (f : Fin 16) (s : State), s.fst f ≠ 9 → s.fst f ≠ 5 → s.fst f ≠ 7 → s.fanFenced f = false → (s.fan f).run = 0 →
    s.fansHeld = false → s.fansBoot = false → Room s portFan →
    ∃ t, exec (.fanShort f) s = .next t ∧ t.fst f = 7 ∧ t.get (FAN_STATUS_SHORT_SEEN f) = 1 ∧
      t.get (FAN_STATUS_FORCE f) = 6 ∧ t.get (FAN_STATUS_DUTY f) = 0 ∧ (t.fan f).run = 2 ∧
      SameRegs [FAN_STATUS f] s t ∧ Logged portFan 0x4007 f 1 0 s t)

/-- In MODE 1 a stale input, and a tick on an input that is not usable, set the loop's duty to 1.0 and show STALE with
record 0x4008; a usable input gives the PI law's duty held to 0 and 1; the loop of a fan in another MODE does
nothing. Where an event does not apply nothing changes (DESIGN CHOICE, log entry 1). The model's own choices it
rests on: log entry 121. From parts of R384, R385. -/
def Obligations.FanLoop : Prop :=
  (∀ (f : Fin 16) (s : State), s.get (FAN_CFG_MODE f) = 1 → s.get (FAN_STATUS_STALE f) = 0 → Room s portFan →
    ∃ t, exec (.fanInputStale f) s = .next t ∧ (t.fan f).duty = 0x3F800000 ∧ (t.fan f).vstale = true ∧
      t.get (FAN_STATUS_STALE f) = 1 ∧ SameRegs [FAN_STATUS f] s t ∧
      Logged portFan 0x4008 f (s.get (FAN_LOOP_ENTRY f)) 1 s t) ∧
  (∀ (f : Fin 16) (s : State), s.get (FAN_CFG_MODE f) = 1 → s.get (FAN_STATUS_STALE f) = 1 →
    entryUsable (s.estWord (s.get (FAN_LOOP_ENTRY f)) 0) (s.estWord (s.get (FAN_LOOP_ENTRY f)) 3) = false →
    ∃ t, exec (.fanLoopTick f) s = .next t ∧ (t.fan f).duty = 0x3F800000 ∧ (t.fan f).integ = (s.fan f).integ ∧
      { t with fans := s.fans } = s) ∧
  (∀ (f : Fin 16) (s : State), s.get (FAN_CFG_MODE f) = 1 → s.get (FAN_STATUS_STALE f) = 0 →
    (s.fan f).vstale = false → s.on (FAN_CFG_REVERSE f) = false →
    entryUsable (s.estWord (s.get (FAN_LOOP_ENTRY f)) 0) (s.estWord (s.get (FAN_LOOP_ENTRY f)) 3) = true →
    fIsNaN (fadd (fmul (s.reg (FAN_KP f)) (fsub (s.estWord (s.get (FAN_LOOP_ENTRY f)) 0) (s.reg (FAN_SP f))))
      (s.fan f).integ) = false →
    ∃ t, exec (.fanLoopTick f) s = .next t ∧
      (t.fan f).duty = fclamp 0 0x3F800000 (fadd (fmul (s.reg (FAN_KP f))
        (fsub (s.estWord (s.get (FAN_LOOP_ENTRY f)) 0) (s.reg (FAN_SP f)))) (s.fan f).integ) ∧
      { t with fans := s.fans, freeIdx := s.freeIdx } = s) ∧
  (∀ (f : Fin 16) (s : State), s.get (FAN_CFG_MODE f) ≠ 1 →
    exec (.fanLoopTick f) s = .next s ∧ exec (.fanInputStale f) s = .next s)

/-- While the data plane runs and the module is not halted, a tick makes the back bank the front one, counts the epoch
on, and brings the new back bank up to date: an entry written in the ended epoch is copied, every other stands as
the old front bank had it; site time goes on to its next multiple of 100 µs. With the management plane in reset
nothing happens; with the data plane stopped no bank is swapped. Where an event does not apply nothing changes
(DESIGN CHOICE, log entry 1). The model's own choices it rests on: log entries 8, 137. From parts of R23, R24, R27. -/
def Obligations.LeatTick : Prop :=
  (∀ s : State, s.mpUp = true → s.dpUp = true → s.guard.halted = false →
    ∃ t, exec .estimateTick s = .next t ∧ t.est.front = s.est.back ∧ t.est.written = [] ∧
      t.reg MILL_EST_EPOCH = s.reg MILL_EST_EPOCH + 1 ∧
      (∀ n w, w < 4 → t.estBack n w = if n ∈ s.est.written then s.estBack n w else s.estWord n w) ∧
      t.tim.site = s.tim.site + (100000 - s.tim.site % 100000)) ∧
  (∀ s : State, s.mpUp = true → s.dpUp = false → ∃ t, exec .estimateTick s = .next t ∧ t.est = s.est ∧
    t.reg MILL_EST_EPOCH = s.reg MILL_EST_EPOCH) ∧
  (∀ s : State, s.mpUp = false → exec .estimateTick s = .next s)

/-- The front request of an arm leaves it: a read of a running plane puts its value on the event leat; an empty arm
gives nothing. The oldest reply of the event leat ends the host SPI read it belongs to. Full site time reloads the
copies of the planes that run and, while the time unit runs, the always-on block's. Where an event does not apply
nothing changes (DESIGN CHOICE, log entry 1). The model's own choices it rests on: log entry 15. From parts of R28,
R29, R32. -/
def Obligations.LeatService : Prop :=
  (∀ (d : Bool) (s : State) (req a txn idx : Nat) (rest : List LeatReq), s.mpUp = true → s.armWaits d = false →
    s.arm d = { requester := req, addr := a, txn := txn, idx := idx } :: rest → s.fab.held = [] →
    s.inReset (planeOf a) = false → mapped a = true → latchMembers a = [] → s.captured req a = none →
    ∃ t, exec (.setpointRequestDeliver d) s = .next t ∧ t.arm d = rest ∧ t.arm (!d) = s.arm (!d) ∧
      t.fab.replies = s.fab.replies ++ [{ requester := req, addr := a, txn := txn, idx := idx, value := s.look req a }] ∧
      { t with fab := s.fab } = s) ∧
  (∀ (d : Bool) (s : State), s.arm d = [] → exec (.setpointRequestDeliver d) s = .next s) ∧
  (∀ (s : State) (r : LeatReply) (rest : List LeatReply) (h : HspiRead), s.fab.replies = r :: rest →
    s.fab.txns = [{ id := r.txn, requester := 0x10, kind := .hspi, need := 1 }] → r.idx = 0 → s.net.hspi = some h →
    s.net.mbQueue = [] →
    ∃ t, exec .readReply s = .next t ∧ t.fab.replies = rest ∧ t.fab.txns = [] ∧
      t.net.hspi = some { h with value := some r.value } ∧ t.regs = s.regs ∧ { t with fab := s.fab, net := s.net } = s) ∧
  (∀ s : State, s.fab.replies = [] → exec .readReply s = .next s) ∧
  (∀ s : State, ∃ t, exec .timeBroadcast s = .next t ∧
    t.tim.aon = (if s.mpUp then s.tim.site else s.tim.aon) ∧ (s.cpUp = true → t.tim.cp = s.tim.site) ∧
    (s.dpUp = true → t.tim.dp = s.tim.site) ∧ (s.mpUp = true → t.tim.mp = s.tim.site) ∧ t.tim.site = s.tim.site ∧
    { t with tim := s.tim } = s)

/-- With nothing of its requester or its arm before it a read of a mapped register of a running plane answers what it
holds, and of the lowest member of a latch group captures the others for that requester; behind other requests of
the arm a write joins them, and during a load a host's write is held; a read of an unmapped address answers 0 and
counts a violation. A write that is no violation is kept in a register with no effects of its own; a violation
changes only the count. The model's own choices it rests on: log entry 14. From parts of R28, R29, R93, R106, R107,
R109, R110. -/
def Obligations.FabricAccess : Prop :=
  (∀ (req a : Nat) (s : State), s.mpUp = true → mapped a = true → s.inReset (planeOf a) = false → latchMembers a ≠ [] → s.loading = false → s.waitsBehind a = false →
    ∃ t, exec (.latchGroupRead req a) s = .next t ∧ t.out = .reply req (s.look req a) :: s.out ∧
      (∀ m ∈ latchMembers a, t.captured req m = some (s.look req m)) ∧ { t with fab := s.fab, out := s.out } = s) ∧
  (∀ (req a : Nat) (w : Word) (s : State), s.mpUp = true → mapped a = true → s.inReset (planeOf a) = false →
    latchMembers a = [] → s.captured req a = some w → s.loading = false → s.waitsBehind a = false →
    ∃ t, exec (.latchGroupRead req a) s = .next t ∧ t.out = .reply req w :: s.out ∧ { t with out := s.out } = s) ∧
  (∀ (req a : Nat) (s : State), s.mpUp = true → mapped a = false → s.loading = false → s.waitsBehind a = false →
    ∃ t, exec (.latchGroupRead req a) s = .next t ∧ t.out = .reply req 0 :: s.out ∧
      t.get SYS_VIOL_COUNT_TOTAL = (s.get SYS_VIOL_COUNT_TOTAL + 1) % 65536 ∧ SameRegs [SYS_VIOL_COUNT] s t ∧
      { t with regs := s.regs, out := s.out } = s) ∧
  (∀ (req a : Nat) (v : Word) (r : RegRow) (s : State), Writes s req a v → rowOf a = some r → a ∉ tableRegs →
    a ≠ CADDY_SWAP_CMD → (∀ (u : State) (old : Word), u.effect req a old v = u) →
    ∃ t, exec (.registerWrite req a v) s = .next t ∧ t.reg a = r.after (s.reg a) v ∧ OnlyRegs [a] s t) ∧
  (∀ (req a : Nat) (v : Word) (s : State), s.mpUp = true → s.loading = false → s.waitsBehind a = true →
    exec (.registerWrite req a v) s = .next (s.enqueue { requester := req, addr := a, val := some v })) ∧
  (∀ (req a : Nat) (v : Word) (s : State), s.mpUp = true → s.loading = true → req ≠ 2 →
    ∃ t, exec (.registerWrite req a v) s = .next t ∧
      t.fab.held = s.fab.held ++ [{ requester := req, addr := a, val := some v }] ∧
      { t with fab := { t.fab with held := s.fab.held } } = s) ∧
  (∀ (req a : Nat) (v : Word) (s : State), s.mpUp = true → (s.loading = false ∨ req = 2) → s.waitsBehind a = false →
    s.writeOk req a v = false →
    ∃ t, exec (.registerWrite req a v) s = .next t ∧
      t.get SYS_VIOL_COUNT_TOTAL = (s.get SYS_VIOL_COUNT_TOTAL + 1) % 65536 ∧
      t.get SYS_VIOL_COUNT_LOADER = (if req = 2 then (s.get SYS_VIOL_COUNT_LOADER + 1) % 65536 else s.get SYS_VIOL_COUNT_LOADER) ∧
      OnlyRegs [SYS_VIOL_COUNT] s t)

/-- PFI below its threshold clears INPUT_OK and its return within the deglitch time is forgotten; the logic rails are
shown good; a dip of more than 5 µs resets the three planes with cause 0x07 and leaves record 0x1002, a shorter one
does nothing. Where an event does not apply nothing changes (DESIGN CHOICE, log entry 1). From parts of R60, R62. -/
def Obligations.SupplyMonitor : Prop :=
  (∀ s : State, s.aonUp = true → ∃ t, exec .pfiBelowThreshold s = .next t ∧ t.pwr = { s.pwr with pfiBelow := true } ∧
    t.get PWR_STATUS_INPUT_OK = 0 ∧ SameRegs [PWR_STATUS] s t ∧ { t with regs := s.regs, pwr := s.pwr } = s) ∧
  (∀ s : State, s.on PWR_STATUS_PFAIL = false → exec .pfiReturn s = .next { s with pwr := { s.pwr with pfiBelow := false } }) ∧
  (∀ s : State, s.on PWR_STATUS_PFAIL = true → exec .pfiReturn s = .next s) ∧
  (∀ s : State, s.aonUp = true → ∃ t, exec .logicRailsGood s = .next t ∧ t.pwr = { s.pwr with railsReady := true } ∧
    t.get PWR_STATUS_LOGIC_RAILS_OK = 1 ∧ SameRegs [PWR_STATUS] s t ∧ { t with regs := s.regs, pwr := s.pwr } = s) ∧
  (∀ (r : Fin 5) (us : Nat) (s : State), s.aonUp = true → 5 < us → s.planesHeld = false → s.pwr.sluice = none →
    s.pwr.sluiceDone = false → Room s portAon →
    ∃ t, exec (.railDip r us) s = .next t ∧ t.planesHeld = true ∧ t.pwr.railsReady = false ∧
      t.get PWR_STATUS_LOGIC_RAILS_OK = 0 ∧ t.get PWR_RESET_CAUSE_CAUSE = 7 ∧ t.log.pond = [] ∧
      Newest portAon 0x1002 r us 0 t) ∧
  (∀ (r : Fin 5) (us : Nat) (s : State), us ≤ 5 → exec (.railDip r us) s = .next s)

/-- PFAIL starts a sluice in step 3 with the outputs safe and the data plane stopped, or, with the planes held, the
sluice-done state at once; it makes the sluice of a command reset its own. The end of the flush empties the pond,
and step 4 follows where the test of the last word holds, else step 5, with SKIPPED where it was tested. The sluice
waveform's end, or its interruption, leads to step 5. The marker ends the sluice: the planes are held in reset, a
power-fail sluice in the sluice-done state. Where an event does not apply nothing changes (DESIGN CHOICE, log entry
1). The model's own choices it rests on: log entries 22, 146, 151. From parts of R65, R67, R70, R499, R500. -/
def Obligations.SluiceSteps : Prop :=
  (∀ s : State, s.aonUp = true → s.pwr.pfiBelow = true → s.on PWR_STATUS_PFAIL = false → s.pwr.rstMp = false →
    s.pwr.sluice = none →
    ∃ t, exec .pfailAssert s = .next t ∧ t.on PWR_STATUS_SLUICE_ACTIVE = true ∧ t.on PWR_STATUS_PFAIL = true ∧
      t.pwr.safe = true ∧ t.pwr.unmarked = true ∧
      t.dpUp = false ∧ t.get SYS_STATUS_DP_RUN = 0 ∧
      (s.pwr.rstCp = false → ∀ f : Fin 16, t.get (FAN_STATUS_FORCE f) = 7 ∧ t.get (FAN_STATUS_DUTY f) = 0) ∧
      t.pwr.sluice = some { cmd := false, pfailInTime := true, halted := s.guard.halted }) ∧
  (∀ s : State, s.aonUp = true → s.pwr.pfiBelow = true → s.on PWR_STATUS_PFAIL = false → s.pwr.rstMp = true →
    s.pwr.sluiceDone = false → Room s portAon →
    ∃ t, exec .pfailAssert s = .next t ∧ t.on PWR_STATUS_PFAIL = true ∧ t.pwr = { s.pwr with sluiceDone := true, unmarked := true } ∧
      SameRegs [PWR_STATUS] s t ∧ Logged portAon 0x1001 0 0 0 s t) ∧
  (∀ (s : State) (q : Sluice), s.aonUp = true → s.pwr.pfiBelow = true → s.on PWR_STATUS_PFAIL = false →
    s.pwr.rstMp = false → s.pwr.sluice = some q →
    ∃ t, exec .pfailAssert s = .next t ∧ t.pwr.sluice = some { q with cmd := false, pfailInTime := decide (q.step = 3) } ∧
      t.on PWR_STATUS_PFAIL = true ∧ t.pwr.unmarked = true) ∧
  (∀ (s : State) (q : Sluice) (u : FlushRun), s.pwr.sluice = some q → q.step = 3 → q.pfailInTime = false →
    ∃ t, exec (.sluiceFlushDone u) s = .next t ∧ t.log.pond = [] ∧ t.log.flushEnd = some (t.log.nextSeq - 1) ∧
      t.pwr.sluice = some { q with step := 5, flushTime := u.time10us.toNat, records := s.flushCount u.bad }) ∧
  (∀ (s : State) (q : Sluice) (u : FlushRun), s.pwr.sluice = some q → q.step = 3 → q.pfailInTime = true →
    (s.flushAll u.bad).stripUsed = true → q.halted = false → (s.flushAll u.bad).strip.clear = 0 → (s.flushAll u.bad).lastWordAdmits (s.flushAll u.bad).stripBand.1 = true →
    ∃ t, exec (.sluiceFlushDone u) s = .next t ∧ t.log.pond = [] ∧ t.strip.lastWord = some (s.flushAll u.bad).stripBand.1 ∧
      t.pwr.sluice = some { q with step := 4, flushTime := u.time10us.toNat, records := s.flushCount u.bad }) ∧
  (∀ (s : State) (q : Sluice) (u : FlushRun), s.pwr.sluice = some q → q.step = 3 → q.pfailInTime = true →
    (s.flushAll u.bad).stripUsed = true → (q.halted = true ∨ (s.flushAll u.bad).strip.clear ≠ 0 ∨ (s.flushAll u.bad).lastWordAdmits (s.flushAll u.bad).stripBand.1 = false) →
    ∃ t, exec (.sluiceFlushDone u) s = .next t ∧ t.log.pond = [] ∧ t.strip = (s.flushAll u.bad).strip ∧
      t.pwr.sluice = some { q with step := 5, flushTime := u.time10us.toNat, records := s.flushCount u.bad, lwSkipped := true }) ∧
  (∀ (s : State) (q : Sluice) (r : WaveRun), s.pwr.sluice = some q → q.step = 4 → s.strip.lastWord = none →
    s.strip.run = some r → r.kind = 1 → r.ending = true →
    ∃ t, exec .sluiceLastWordDone s = .next t ∧ t.pwr = { s.pwr with sluice := some { q with step := 5, lwDone := true } } ∧
      { t with pwr := s.pwr } = s) ∧
  (∀ (s : State) (q : Sluice), s.pwr.sluice = some q → q.step = 4 → s.strip.lastWord = none → s.strip.run = none →
    ∃ t, exec .sluiceLastWordDone s = .next t ∧ t.pwr = { s.pwr with sluice := some { q with step := 5, lwDone := false } } ∧
      { t with pwr := s.pwr } = s) ∧
  (∀ (s : State) (q : Sluice), s.pwr.sluice = some q → q.step = 5 → q.cmd = false → s.stripRuns q = false →
    ∃ t, exec .sluiceMarkerWritten s = .next t ∧ t.planesHeld = true ∧ t.pwr.sluiceDone = true ∧ t.pwr.sluice = none ∧
      t.pwr.marker = q.marker ∧ t.pwr.unmarked = false ∧ t.pwr.savedOptime = s.optime ∧ t.pwr.savedPcc = s.pcc ∧
      t.pwr.rstOut = false) ∧
  (∀ (s : State) (q : Sluice), s.pwr.sluice = some q → s.stripRuns q = true → exec .sluiceMarkerWritten s = .next s) ∧
  (∀ (s : State) (q : Sluice), s.pwr.sluice = some q → q.step = 5 → q.cmd = true → s.pwr.sluiceDone = false →
    ∃ t, exec .sluiceMarkerWritten s = .next t ∧ t.planesHeld = true ∧ t.pwr.sluiceDone = false ∧
      t.get PWR_RESET_CAUSE_CAUSE = 6) ∧
  (∀ s : State, s.pwr.sluice = none → exec .sluiceMarkerWritten s = .next s ∧ exec .sluiceLastWordDone s = .next s)

/-- The resets. The input's return restarts a module in the sluice-done state with cause 0x03 and one power cycle more;
a command reset starts a sluice without PFAIL; an external reset holds the planes with cause 0x02 and samples the
straps, also when the sluice-done state or a halt holds them; TESTMODE holds the planes and its end gives cause
0x08; V1P8's collapse stops the always-on block; power-on clears all but what the flash dies keep and counts a power
cycle with cause 0x01. Where an event does not apply nothing changes (DESIGN CHOICE, log entry 1). The model's own
choices it rests on: log entries 26, 17, 19, 18. From parts of R54, R60, R63, R77, R78, R79. -/
def Obligations.Resets : Prop :=
  (∀ s : State, s.aonUp = true → s.pwr.sluiceDone = true → s.guard.halted = false →
    ∃ t, exec .sluiceRestart s = .next t ∧ t.pwr.sluiceDone = false ∧ t.pwr.pfiBelow = false ∧
      t.get PWR_RESET_CAUSE_CAUSE = 3 ∧ t.get PWR_STATUS_PFAIL = 0 ∧ t.get PWR_STATUS_INPUT_OK = 1 ∧
      t.get PWR_CYCLE_COUNT_COUNT = min (s.pcc + 1) 0xFFFFFF ∧
      SameRegs [PWR_CYCLE_COUNT, PWR_RESET_CAUSE, PWR_STATUS] s t) ∧
  (∀ (req : Nat) (s : State), Writes s req PWR_RESET_CMD 0xB0070000 →
    ∃ t, exec (.commandReset req) s = .next t ∧ t.on PWR_STATUS_SLUICE_ACTIVE = true ∧
      t.pwr.sluice = some { cmd := true, halted := s.guard.halted } ∧ t.pwr.unmarked = s.pwr.unmarked) ∧
  (∀ (st : BitVec 3) (s : State), s.aonUp = true → s.heldDown = false → s.pwr.sluice = none →
    ∃ t, exec (.externalReset st) s = .next t ∧ t.planesHeld = true ∧ t.pwr.straps = st.toNat ∧
      t.get PWR_RESET_CAUSE_CAUSE = 2) ∧
  (∀ (st : BitVec 3) (s : State), s.aonUp = true → s.heldDown = true →
    exec (.externalReset st) s = .next { s with pwr := { s.pwr with straps := st.toNat } }) ∧
  (∀ s : State, s.pwr.testmode = false → ∃ t, exec .testmodeAssert s = .next t ∧ t.planesHeld = true ∧ t.pwr.testmode = true) ∧
  (∀ s : State, s.pwr.testmode = true → s.heldDown = false →
    ∃ t, exec .testRelease s = .next t ∧ t.pwr = { s.pwr with testmode := false, refLeft := false } ∧ t.get PWR_RESET_CAUSE_CAUSE = 8 ∧
      SameRegs [PWR_RESET_CAUSE] s t) ∧
  (∀ s : State, s.pwr.testmode = false → exec .testRelease s = .next s) ∧
  (∀ s : State, ∃ t, exec .v1p8Collapse s = .next t ∧ t.planesHeld = true ∧ t.aonUp = false) ∧
  (∀ (st : BitVec 3) (s : State), ∃ t, exec (.powerOnReset st) s = .next t ∧ t.planesHeld = true ∧ t.aonUp = true ∧
    t.get PWR_RESET_CAUSE_CAUSE = 1 ∧ t.pwr.straps = st.toNat ∧ t.pwr.pfiBelow = false ∧ t.pwr.sluiceDone = false ∧
    t.nv = s.nv ∧ t.snaps = s.snaps ∧ t.log.tail = s.log.tail ∧ t.log.head = s.log.head ∧ t.log.pond = [] ∧
    t.pending = s.pending)

/-- PLL_LOCK rises with the reference the straps choose; its loss holds the planes with cause 0x04, also where they have
not left reset, and is counted; a lost reference is left for the crystal until the next reset with record 0x0011;
the life counters are saved; the gauge shows the bank below VMIN as 0 mJ; a rail of a power stage is good above its
good threshold and lost below its low one. Where an event does not apply nothing changes (DESIGN CHOICE, log entry
1). The model's own choices it rests on: log entries 24, 25, 149. From parts of R74 to R76, R61, R64, R79. -/
def Obligations.ClocksAndRails : Prop :=
  (∀ s : State, s.aonUp = true → s.pwr.railsReady = true → s.heldDown = false →
    ∃ t, exec .pllLocked s = .next t ∧ t.get PWR_CLK_STATUS_PLL_LOCK = 1 ∧
      t.get PWR_CLK_STATUS_ACTIVE_REF = (if (s.pwr.straps % 4 = 1 ∨ s.pwr.straps % 4 = 2) ∧ s.pwr.refLeft = false then 1 else 0) ∧
      OnlyRegs [PWR_CLK_STATUS] s t) ∧
  (∀ s : State, s.on PWR_CLK_STATUS_PLL_LOCK = true → s.planesHeld = false → s.pwr.sluice = none → s.pwr.sluiceDone = false →
    ∃ t, exec .pllLockLoss s = .next t ∧ t.planesHeld = true ∧ t.get PWR_CLK_STATUS_PLL_LOCK = 0 ∧
      t.get PWR_RESET_CAUSE_CAUSE = 4 ∧ t.get PWR_CLK_STATUS_LOCK_LOSS_COUNT = min (s.get PWR_CLK_STATUS_LOCK_LOSS_COUNT + 1) 65535) ∧
  (∀ s : State, s.on PWR_CLK_STATUS_PLL_LOCK = true → s.planesHeld = true → s.heldDown = false →
    ∃ t, exec .pllLockLoss s = .next t ∧ t.planesHeld = true ∧ t.get PWR_CLK_STATUS_PLL_LOCK = 0 ∧
      t.get PWR_RESET_CAUSE_CAUSE = 4 ∧ t.get PWR_CLK_STATUS_LOCK_LOSS_COUNT = min (s.get PWR_CLK_STATUS_LOCK_LOSS_COUNT + 1) 65535 ∧
      SameRegs [PWR_CLK_STATUS, PWR_RESET_CAUSE] s t) ∧
  (∀ s : State, s.on PWR_CLK_STATUS_PLL_LOCK = false → exec .pllLockLoss s = .next s) ∧
  (∀ s : State, s.aonUp = true → (s.pwr.straps % 4 = 1 ∨ s.pwr.straps % 4 = 2) → s.pwr.refLeft = false → Room s portAon →
    ∃ t, exec .refLost s = .next t ∧ t.get PWR_CLK_STATUS_ACTIVE_REF = 0 ∧ t.get PWR_CLK_STATUS_REF_LOST = 1 ∧ t.pwr = { s.pwr with refLeft := true } ∧
      SameRegs [PWR_CLK_STATUS] s t ∧ Logged portAon 0x0011 0 0 0 s t) ∧
  (∀ s : State, (s.aonUp = false ∨ s.pwr.refLeft = true ∨ s.pwr.straps % 4 = 0 ∨ s.pwr.straps % 4 = 3) →
    exec .refLost s = .next s) ∧
  (∀ s : State, ∃ t, exec .lifeCounterSave s = .next t ∧ t.pwr.savedOptime = s.optime ∧ t.pwr.savedPcc = s.pcc ∧
    (s.mpUp = true → t.pwr.savedSite = s.tim.site) ∧ { t with pwr := s.pwr } = s) ∧
  (∀ (c : BitVec 12) (s : State), s.aonUp = true → s.on PWR_STATUS_GAUGE_VALID = true →
    c.toNat * 125 * s.get PWR_HOLD_CFG2_SENSE_RATIO ≤ s.get PWR_HOLD_CFG_VMIN_100MV * 10 * 4096 →
    ∃ t, exec (.gaugeUpdate c) s = .next t ∧ t.get PWR_GAUGE_ENERGY_MJ = 0 ∧ SameRegs [PWR_GAUGE] s t ∧
      { t with regs := s.regs, freeIdx := s.freeIdx } = s) ∧
  (∀ (mv : Nat) (s : State), s.aonUp = true → s.on PWR_STATUS_VFAN_OK = true → 9000 ≤ mv →
    exec (.powerStageRailChange .vfan mv) s = .next s) ∧
  (∀ (mv : Nat) (s : State), s.aonUp = true → s.on PWR_STATUS_VFAN_OK = true → mv < 9000 → s.cpUp = true →
    ∃ t, exec (.powerStageRailChange .vfan mv) s = .next t ∧ t.get PWR_STATUS_VFAN_OK = 0 ∧
      (∀ f : Fin 16, t.fst f = 9 ∧ (t.fan f).window = false)) ∧
  (∀ (mv : Nat) (s : State), s.aonUp = true → s.on PWR_STATUS_VFAN_OK = false → 9500 < mv → s.cpUp = true →
    ∃ t, exec (.powerStageRailChange .vfan mv) s = .next t ∧ t.get PWR_STATUS_VFAN_OK = 1 ∧
      (∀ f : Fin 16, s.fst f = 9 → t.fst f = 1 ∧ t.get (FAN_STATUS_DUTY f) = 0))

/-- The planes leave reset when all are held, the PLL is locked, the rails are good and nothing holds them, with nRSTOUT
high and site time from the always-on block's copy; with the straps asking for bare mode the control and data planes
go back into reset and BARE shows reason 1. Otherwise nothing happens. Where an event does not apply nothing changes
(DESIGN CHOICE, log entry 1). The model's own choices it rests on: log entries 18, 139. From parts of R54, R78, R90,
R94. -/
def Obligations.PlaneStart : Prop :=
  (∀ (octal : Bool) (badA badB : Fin 4) (rep : List Nat) (s : State), s.releaseReady = true → s.pwr.straps.testBit 2 = true →
    s.fab.held = [] → s.fab.txns = [] → s.net.mbQueue = [] →
    ∃ t, exec (.planeRelease octal badA badB rep) s = .next t ∧ t.mpUp = true ∧ t.cpUp = false ∧ t.dpUp = false ∧
      t.pwr.rstOut = true ∧ t.tim.mp = s.tim.aon ∧ t.caddy.phase = 4 ∧ t.get CADDY_STATUS_BARE = 1 ∧
      t.get CADDY_STATUS_BARE_REASON = 1 ∧ t.get SYS_STATUS_BARE = 1) ∧
  (∀ (octal : Bool) (badA badB : Fin 4) (rep : List Nat) (s : State), s.releaseReady = true →
    s.fab.held = [] → s.fab.txns = [] → s.net.mbQueue = [] →
    ∃ t, exec (.planeRelease octal badA badB rep) s = .next t ∧ t.mpUp = true ∧ t.pwr.rstOut = true ∧
      (t.caddy.phase = 1 ∨ t.caddy.phase = 4) ∧ t.nv = { s.nv with octal := octal, bad := [(0, badA.val), (1, badB.val)] }) ∧
  (∀ (octal : Bool) (badA badB : Fin 4) (rep : List Nat) (s : State), s.releaseReady = false → s.caddy.phase ≠ 4 →
    s.fab.txns = [] → s.net.mbQueue = [] → exec (.planeRelease octal badA badB rep) s = .next s)

/-- A first pass whose signature is good leads to the second; one that fails in the fallback slot leads to bare mode
with reason 4. A second pass whose sections are all accepted and whose message is unaltered ends loaded and locked;
an altered one in the fallback slot ends in bare mode. A key slot takes the staged hash with record 0xC002, or is
revoked with record 0xC003. The model's own choices it rests on: log entries 28, 31. From parts of R87 to R94. -/
def Obligations.CaddyLoad : Prop :=
  (∀ s : State, s.mpUp = true → s.caddy.phase = 1 → s.sigReason s.caddy.slot = 0 → s.fab.txns = [] →
    s.net.mbQueue = [] →
    ∃ t, exec (.caddyFirstPassDone false) s = .next t ∧ t.caddy.phase = 2 ∧
      t.caddy.firstHash = sha256 (s.imgMessage s.caddy.slot) ∧ { t with caddy := s.caddy } = s) ∧
  (∀ (readErr : Bool) (s : State), s.mpUp = true → s.caddy.phase = 1 → (readErr = true ∨ s.sigReason s.caddy.slot ≠ 0) →
    s.caddy.fallback = true → s.fab.txns = [] → s.net.mbQueue = [] → s.fab.held = [] →
    ∃ t, exec (.caddyFirstPassDone readErr) s = .next t ∧ t.caddy.phase = 4 ∧ t.cpUp = false ∧ t.dpUp = false ∧
      t.get CADDY_STATUS_BARE = 1 ∧ t.get CADDY_STATUS_BARE_REASON = 4) ∧
  (∀ (ms : Nat) (s u : State), s.mpUp = true → s.caddy.phase = 2 →
    loadSections s.caddy.slot (sortBy loadKey (s.imgSections s.caddy.slot)) s = (u, true) → u.setsOk = true →
    sha256 (s.imgMessage s.caddy.slot) = s.caddy.firstHash → (s.imgSections s.caddy.slot).all (s.digestOk s.caddy.slot) = true →
    u.fab.held = [] → u.fab.txns = [] → u.net.mbQueue = [] →
    ∃ t, exec (.caddySecondPassDone false false ms) s = .next t ∧ t.caddy.phase = 3 ∧ t.fab.locked = true ∧
      t.get CADDY_STATUS_LOADED = 1 ∧ t.get CADDY_STATUS_LOCKED = 1 ∧ t.get SYS_STATUS_CP_RUN = (if u.cpUp then 1 else 0)) ∧
  (∀ (altered readErr ok : Bool) (ms : Nat) (s u : State), s.mpUp = true → s.caddy.phase = 2 →
    (altered = true ∨ readErr = true) →
    loadSections s.caddy.slot (sortBy loadKey (s.imgSections s.caddy.slot)) s = (u, ok) → s.caddy.fallback = true →
    u.caddy = s.caddy → u.fab.held = [] → u.fab.txns = [] → u.net.mbQueue = [] →
    ∃ t, exec (.caddySecondPassDone altered readErr ms) s = .next t ∧ t.caddy.phase = 4 ∧ t.get CADDY_STATUS_BARE_REASON = 4) ∧
  (∀ (req : Nat) (k : Fin 4) (s : State), Writes s req CADDY_KEY_CTRL (0x0F7B0000 + BitVec.ofNat 32 (256 * k.val)) →
    Room s portCaddy →
    ∃ t, exec (.keyProgram req k) s = .next t ∧ t.nv.keyProg = s.nv.keyProg ||| 2 ^ k.val ∧ t.nv.keyRev = s.nv.keyRev ∧
      (∀ i, i < 8 → tget (fun _ => 0) t.nv.keyHash (8 * k + i) = s.reg (CADDY_KEY_STAGE i)) ∧
      t.nv.flash = s.nv.flash ∧ SameRegs [] s t ∧ Logged portCaddy 0xC002 k 0 0 s t) ∧
  (∀ (req : Nat) (k : Fin 4) (s : State), Writes s req CADDY_KEY_CTRL (0x4E7F0000 + BitVec.ofNat 32 (256 * k.val)) →
    Room s portCaddy →
    ∃ t, exec (.keyRevoke req k) s = .next t ∧ t.nv = { s.nv with keyRev := s.nv.keyRev ||| 2 ^ k.val } ∧
      SameRegs [] s t ∧ Logged portCaddy 0xC003 k 0 0 s t)

/-- A swap key starts a swap to a newer valid image, shown RUNNING with record 0x0023; nothing is written while a body
that pauses for it steps. It is refused with reason 4 during a swap, 3 during a caddy write, 1 without a valid image
in the other slot. A body that a swap paused goes on when its sections are in place; the end of the management
restart brings its services back with record 0x0026. Where an event does not apply nothing changes (DESIGN CHOICE,
log entry 1). The model's own choices it rests on: log entries 34, 36, 138. From parts of R95 to R98. -/
def Obligations.CaddySwaps : Prop :=
  (∀ (req : Nat) (octal : Bool) (badA badB : Fin 4) (k : Fin 16) (s : State), Writes s req CADDY_SWAP_CMD 0x5C4D0000 →
    s.caddy.phase = 3 → s.caddy.swap = none → s.caddy.writing = false → s.slotValid (1 - s.caddy.slot) = true →
    (s.flashFacts octal badA badB).slotReason (1 - s.caddy.slot) = 0 →
    s.imgSeq s.caddy.slot < s.imgSeq (1 - s.caddy.slot) →
    k.val ∈ s.pausing (s.changedSections s.caddy.slot (1 - s.caddy.slot)) → (s.body k).run ≠ none →
    s.caddy.swapPaused.contains k.val = false → s.fab.txns = [] → s.net.mbQueue = [] →
    ∃ t, exec (.caddySwap ⟨req, octal, badA, badB⟩) s = .next t ∧ t.get CADDY_SWAP_STATUS_STATE = 1 ∧
      t.get CADDY_STATUS_SWAP_BUSY = 1 ∧
      (∃ w, t.caddy.swap = some w ∧ w.slot = 1 - s.caddy.slot ∧ w.written = false ∧
        w.changed = s.changedSections s.caddy.slot (1 - s.caddy.slot))) ∧
  (∀ (req : Nat) (octal : Bool) (badA badB : Fin 4) (w : Swap) (s : State), Writes s req CADDY_SWAP_CMD 0x5C4D0000 →
    s.caddy.phase ≠ 4 → s.caddy.swap = some w → s.fab.txns = [] → s.net.mbQueue = [] →
    ∃ t, exec (.caddySwap ⟨req, octal, badA, badB⟩) s = .next t ∧ t.get CADDY_SWAP_STATUS_REASON = 4 ∧
      t.get CADDY_SWAP_STATUS_STATE = s.get CADDY_SWAP_STATUS_STATE ∧
      OnlyRegs [CADDY_SWAP_STATUS] (s.flashFacts octal badA badB) t) ∧
  (∀ (req : Nat) (octal : Bool) (badA badB : Fin 4) (s : State), Writes s req CADDY_SWAP_CMD 0x5C4D0000 →
    s.caddy.phase = 3 → s.caddy.swap = none → s.slotValid (1 - s.caddy.slot) = false → s.fab.txns = [] →
    s.net.mbQueue = [] →
    ∃ t, exec (.caddySwap ⟨req, octal, badA, badB⟩) s = .next t ∧ t.get CADDY_SWAP_STATUS_STATE = 4 ∧
      t.get CADDY_SWAP_STATUS_REASON = (if s.caddy.writing then 3 else 1) ∧
      OnlyRegs [CADDY_SWAP_STATUS, NET_HSPI_IRQ_STATUS] (s.flashFacts octal badA badB) t) ∧
  (∀ (k : Fin 16) (j : Nat) (w : Swap) (s : State), s.caddy.swap = some w → w.written = true →
    w.applied.contains (5, k.val) = false → s.caddy.swapPaused = [k.val, j] → j ≠ k → s.net.xfers = [] →
    (s.body k).run = none → (s.body k).rollTo = none → (s.body k).late = [] → (s.body k).holdDue = false →
    (s.body k).pauseDue = false → (s.body k).heldOn = false →
    ∃ t, exec (.bodySwapResume k) s = .next t ∧ t.bst k = 2 ∧ t.caddy.swapPaused = [j]) ∧
  (∀ (k : Fin 16) (s : State), s.caddy.swapPaused.contains k.val = false → s.net.xfers = [] →
    exec (.bodySwapResume k) s = .next s) ∧
  (∀ (ms : Nat) (s : State), s.mpUp = true → s.caddy.fwRestart = true → s.caddy.swap = none → s.fab.txns = [] →
    s.net.mbQueue = [] → (∀ m, m < 16 → s.on (NET_CLIENT_STATUS_CONNECTED m) = false) → Room s portCaddy →
    ∃ t, exec (.mgmtFwRestartDone ms) s = .next t ∧ t.caddy.fwRestart = false ∧ t.get SYS_STATUS_MP_FW = 1 ∧
      SameRegs [SYS_STATUS, TIME_PTP_STATUS 0, TIME_PTP_STATUS 1] s t ∧ Logged portCaddy 0x0026 ms 0 0 s t) ∧
  (∀ (ms : Nat) (s : State), s.caddy.fwRestart = false → exec (.mgmtFwRestartDone ms) s = .next s)

/-- A HELLO with a good tag and a new nonce opens the lowest free session, pending, with a session key of both nonces,
and record 0x8005; with no session free it is refused and opens none. BYE is answered and closes its session; a
pending session closes after 5 s and an open one after 60 s, with record 0x8006. Where an event does not apply
nothing changes (DESIGN CHOICE, log entry 1). The model's own choices it rests on: log entries 42, 41, 48, 47. From
parts of R124, R128. -/
def Obligations.KmpSessions : Prop :=
  (∀ (src n : Nat) (dg : List Byte) (m : Kmp) (psk : List Byte) (role : Bool) (s : State), s.isLoaded = true →
    s.caddy.fwRestart = false → s.reaches src = true → kmpParse dg = some m → m.op = 1 → m.ver = 1 → m.reply = false → m.sess = 0xFF →
    s.net.keys[ofLe (slice 0 1 m.body)]? = some (psk, role) → kmpTag psk m.signed = m.tag → m.body.length = 20 →
    s.net.nonces.contains (slice 4 16 m.body) = false → s.freeSession = some n → s.pendingSessions < 2 → Room s portNet →
    ∃ t, exec (.kmpHello src dg) s = .next t ∧ t.on (NET_SESSION_OPEN n) = true ∧
      t.on (NET_SESSION_OPERATE n) = role ∧
      t.session n = {
        pending := true, client := src, last := s.tim.mono
        key := hmac256 psk ([0x4B, 0x4D, 0x50, 0x31] ++ slice 4 16 m.body ++ leBytes 16 (s.free 128).toNat ++
          [BitVec.ofNat 8 n]) } ∧
      t.net.nonces = (slice 4 16 m.body :: s.net.nonces).take 64 ∧ SameRegs [NET_SESSION n, NET_STATUS] s t ∧
      Logged portNet 0x8005 n (ofLe (slice 0 1 m.body)) src s t) ∧
  (∀ (src : Nat) (dg : List Byte) (m : Kmp) (psk : List Byte) (role : Bool) (s : State), s.isLoaded = true →
    s.caddy.fwRestart = false → s.reaches src = true → kmpParse dg = some m → m.op = 1 → m.ver = 1 → m.reply = false → m.sess = 0xFF →
    s.net.keys[ofLe (slice 0 1 m.body)]? = some (psk, role) → kmpTag psk m.signed = m.tag → m.body.length = 20 →
    s.net.nonces.contains (slice 4 16 m.body) = false → s.freeSession = none →
    ∃ t, exec (.kmpHello src dg) s = .next t ∧ t.regs = s.regs ∧ t.net.sessions = s.net.sessions ∧ t.log = s.log) ∧
  (∀ (src : Nat) (dg : List Byte) (m : Kmp) (s : State), Accepts s src dg m → m.op = 3 → m.body = [] → s.net.xfers = [] →
    Room s portNet →
    ∃ t, exec (.kmpBye src dg) s = .next t ∧ t.reg (NET_SESSION m.sess) = 0 ∧ Answered m 0 [] s t ∧
      SameRegs [NET_SESSION m.sess, NET_STATUS] s t ∧ Logged portNet 0x8006 m.sess 0 0 s t) ∧
  (∀ (n : Fin 8) (s : State), s.on (NET_SESSION_OPEN n) = true → (s.session n).pending = true → s.net.xfers = [] →
    Room s portNet →
    ∃ t, exec (.kmpPendingTimeout n) s = .next t ∧ t.reg (NET_SESSION n) = 0 ∧
      SameRegs [NET_SESSION n, NET_STATUS] s t ∧ Logged portNet 0x8006 n 1 0 s t) ∧
  (∀ (n : Fin 8) (s : State), (s.session n).pending = false → exec (.kmpPendingTimeout n) s = .next s) ∧
  (∀ (n : Fin 8) (s : State), s.on (NET_SESSION_OPEN n) = true → (s.session n).pending = false → s.net.xfers = [] →
    Room s portNet →
    ∃ t, exec (.kmpIdleTimeout n) s = .next t ∧ t.reg (NET_SESSION n) = 0 ∧
      SameRegs [NET_SESSION n, NET_STATUS] s t ∧ Logged portNet 0x8006 n 1 0 s t)

/-- A datagram with a bad tag or a used counter is dropped and counted, one that needs OPERATE in a session without it
is answered 0x03, and each leaves everything else; without an IPv4 address in use no datagram of an IPv4 client
arrives; the second with tag failures leaves record 0xC010. Where an event does not apply nothing changes (DESIGN
CHOICE, log entry 1). The model's own choices it rests on: log entries 44, 43, 158. From parts of R126, R127, R129,
R131. -/
def Obligations.KmpGuards : Prop :=
  (∀ (src : Nat) (dg : List Byte) (m : Kmp) (s : State), s.isLoaded = true → s.caddy.fwRestart = false → s.reaches src = true →
    kmpParse dg = some m → m.op = 0x11 → m.ver = 1 → m.reply = false → kmpTag (s.session m.sess).key m.signed ≠ m.tag →
    ∃ t, exec (.kmpWrite src dg) s = .next t ∧
      t.get NET_KMP_STATS_TAG_FAIL = (s.get NET_KMP_STATS_TAG_FAIL + 1) % 65536 ∧ t.net.tagFails = s.net.tagFails + 1 ∧
      t.net.tagFrom = src ∧ SameRegs [NET_KMP_STATS] s t ∧ { t with regs := s.regs, net := s.net } = s) ∧
  (∀ (src : Nat) (dg : List Byte) (m : Kmp) (s : State), s.isLoaded = true → s.caddy.fwRestart = false → s.reaches src = true →
    kmpParse dg = some m → m.op = 0x11 → m.ver = 1 → m.reply = false → m.sess < 8 →
    s.on (NET_SESSION_OPEN m.sess) = true → kmpTag (s.session m.sess).key m.signed = m.tag →
    ctrFresh (s.session m.sess) m.ctr = false →
    ∃ t, exec (.kmpWrite src dg) s = .next t ∧
      t.get NET_KMP_STATS_REPLAY_DROP = (s.get NET_KMP_STATS_REPLAY_DROP + 1) % 65536 ∧ OnlyRegs [NET_KMP_STATS] s t) ∧
  (∀ (src : Nat) (dg : List Byte) (m : Kmp) (s : State), Accepts s src dg m → m.op = 0x11 →
    s.on (NET_SESSION_OPERATE m.sess) = false →
    ∃ t, exec (.kmpWrite src dg) s = .next t ∧ Answered m 3 [] s t ∧
      { t with out := s.out, net := s.net } = s) ∧
  (∀ (src : Nat) (dg : List Byte) (s : State), s.reaches src = false → exec (.kmpWrite src dg) s = .next s ∧
    exec (.kmpRead src dg) s = .next s ∧ exec (.kmpBlockRead src dg) s = .next s ∧ exec (.kmpHello src dg) s = .next s) ∧
  (∀ s : State, s.net.tagFails ≠ 0 → Room s portNet →
    ∃ t, exec .kmpTagFailSecond s = .next t ∧ t.net.tagFails = 0 ∧ t.regs = s.regs ∧
      Logged portNet 0xC010 s.net.tagFails s.net.tagFrom 0 s t) ∧
  (∀ s : State, s.net.tagFails = 0 → exec .kmpTagFailSecond s = .next s)

/-- READ and BLOCK READ of a management register answer its value; WRITE stores and answers; HEARTBEAT restarts the
watchdog's timer; SET TIME decides the step and the slew to the time sent, and is refused while GNSS holds the time.
The model's own choices it rests on: log entries 51, 49, 50. From parts of R129 to R131, R149, R164. -/
def Obligations.KmpAccess : Prop :=
  (∀ (src a : Nat) (dg : List Byte) (m : Kmp) (s : State), Accepts s src dg m → m.op = 0x10 → m.body = leBytes 4 a →
    a < 2 ^ 32 → onLeat a = false → mapped a = true → latchMembers a = [] → s.captured (0x40 + m.sess) a = none →
    s.fab.txns = [] → s.net.mbQueue = [] →
    ∃ t, exec (.kmpRead src dg) s = .next t ∧
      Answered m 0 (leBytes 4 ((s.heard m).look (0x40 + m.sess) a).toNat) s t ∧ t.regs = s.regs ∧ t.fab.txns = [] ∧
      { t with out := s.out, net := s.net, fab := s.fab } = s) ∧
  (∀ (src a : Nat) (dg : List Byte) (m : Kmp) (s : State), Accepts s src dg m → m.op = 0x12 → m.body = leBytes 4 a ++ [1] →
    a < 2 ^ 32 → onLeat a = false → mapped a = true → latchMembers a = [] → s.captured (0x40 + m.sess) a = none →
    s.fab.txns = [] → s.net.mbQueue = [] →
    ∃ t, exec (.kmpBlockRead src dg) s = .next t ∧
      Answered m 0 (leBytes 4 ((s.heard m).look (0x40 + m.sess) a).toNat) s t ∧ t.regs = s.regs ∧ t.fab.txns = [] ∧
      { t with out := s.out, net := s.net, fab := s.fab } = s) ∧
  (∀ (src : Nat) (v : Word) (dg : List Byte) (m : Kmp) (s : State), Accepts s src dg m → m.op = 0x11 →
    s.on (NET_SESSION_OPERATE m.sess) = true → m.body = leBytes 4 SYS_SCRATCH ++ leBytes 4 v.toNat →
    ∃ t, exec (.kmpWrite src dg) s = .next t ∧ t.reg SYS_SCRATCH = v ∧ Answered m 0 [] s t ∧ SameRegs [SYS_SCRATCH] s t ∧
      { t with regs := s.regs, out := s.out, net := s.net } = s) ∧
  (∀ (src : Nat) (dg : List Byte) (m : Kmp) (s : State), Accepts s src dg m → m.op = 0x60 → m.body = [] →
    (s.reg NET_WDOG_CFG).getLsbD 8 = true → s.on NET_WDOG_STATUS_TRIPPED = false →
    ∃ t, exec (.kmpHeartbeat src dg) s = .next t ∧ t.net.beat = s.tim.mono ∧ Answered m 0 [] s t ∧
      { t with out := s.out, net := s.net } = s) ∧
  (∀ (src : Nat) (dg : List Byte) (m : Kmp) (s : State), Accepts s src dg m → m.op = 0x70 →
    s.on (NET_SESSION_OPERATE m.sess) = true → m.body.length = 10 → ofLe (slice 6 4 m.body) < 1000000000 →
    s.setRefused = false →
    ∃ t, exec (.kmpSetTime src dg) s = .next t ∧ t.get TIME_STATUS_TIME_SOURCE = 0x60 ∧ t.tim.hostSet = true ∧
      t.tim.step.getD 0 * 1000000 + t.tim.slew =
        ((ofLe (slice 0 6 m.body) * 1000000000 + ofLe (slice 6 4 m.body) : Nat) : Int) - s.tim.site ∧
      t.tim.slew.natAbs ≤ 500000 ∧ Answered m 0 [] s t ∧ SameRegs [TIME_STATUS, TIME_SERVO] s t) ∧
  (∀ (src : Nat) (dg : List Byte) (m : Kmp) (s : State), Accepts s src dg m → m.op = 0x70 →
    s.on (NET_SESSION_OPERATE m.sess) = true → m.body.length = 10 → ofLe (slice 6 4 m.body) < 1000000000 →
    s.setRefused = true →
    ∃ t, exec (.kmpSetTime src dg) s = .next t ∧ Answered m 6 [1] s t ∧ { t with out := s.out, net := s.net } = s)

/-- LOG READ answers one capture of the log; LOG FREEZE sets and lifts a freeze; CUP READ, CADDY WRITE and SNAPSHOT each
begin a transfer of their session where none runs there and fewer than two run in the module. The model's own
choices it rests on: log entries 49, 54, 53. From parts of R442, R444, R96, R133, R298, R340. -/
def Obligations.KmpTransfers : Prop :=
  (∀ (src : Nat) (dg : List Byte) (bad : List (Nat × Nat)) (m : Kmp) (r : LogReply) (s : State), Accepts s src dg m →
    m.op = 0x20 → 7 ≤ m.body.length → 1 ≤ ofLe (m.body.drop 6) → ofLe (m.body.drop 6) ≤ 40 →
    r = s.logRead (ofLe (slice 0 6 m.body)) (ofLe (m.body.drop 6)) (bad.map (fun p => p.1)) →
    ∃ t, exec (.kmpLogRead src ⟨dg, bad⟩) s = .next t ∧
      Answered m r.status (leBytes 6 s.hwm ++ leBytes 2 r.flags ++ (r.recs.map LogRec.bytes).flatten) s t ∧
      (bad = [] → { t with out := s.out, net := s.net } = s)) ∧
  (∀ (src : Nat) (dg : List Byte) (m : Kmp) (s : State), Accepts s src dg m → m.op = 0x21 → m.body = [1] →
    s.on (NET_SESSION_OPERATE m.sess) = true → s.log.freeze = none → s.pwr.sluice = none →
    s.guard.halted = false →
    ∃ t, exec (.kmpLogFreeze src dg) s = .next t ∧ t.log.freeze = some s.optime ∧ t.get LOG_STATUS_FROZEN = 1 ∧
      Answered m 0 [] s t) ∧
  (∀ (src : Nat) (dg : List Byte) (m : Kmp) (s : State), Accepts s src dg m → m.op = 0x30 → m.body.length = 16 →
    ofLe (slice 0 8 m.body) + ofLe (slice 8 8 m.body) ≤ 2 ^ 27 → 0 < ofLe (slice 8 8 m.body) → s.xferFull m.sess = false →
    ∃ t, exec (.kmpCupRead src dg) s = .next t ∧ t.net.xfers = s.net.xfers ++ [{
      session := m.sess, op := 0x30, ctr := m.ctr, kind := .cup (ofLe (slice 0 8 m.body)), len := some (min (ofLe (slice 8 8 m.body)) 0x4000000) }] ∧
      { t with net := s.net } = s) ∧
  (∀ (src slot : Nat) (dg : List Byte) (m : Kmp) (s : State), Accepts s src dg m → m.op = 0x40 → m.body.length = 6 →
    s.on (NET_SESSION_OPERATE m.sess) = true → ofLe (slice 0 1 m.body) = slot → slot ≤ 1 → slot ≠ s.caddy.slot →
    0 < ofLe (slice 1 4 m.body) → ofLe (slice 1 4 m.body) ≤ slotSize → s.caddy.swap = none → s.caddy.writing = false →
    s.xferFull m.sess = false →
    ∃ t, exec (.kmpCaddyWrite src dg) s = .next t ∧ t.caddy = { s.caddy with writing := true } ∧
      t.get CADDY_STATUS_SWAP_BUSY = 1 ∧ t.reg (CADDY_SLOT_STATUS slot) = 0 ∧ t.reg (CADDY_SLOT_SEQ slot) = 0 ∧
      t.net.xfers = s.net.xfers ++ [{
        session := m.sess, op := 0x40, ctr := m.ctr
        kind := .caddy slot (decide (ofLe (slice 5 1 m.body) % 2 = 1)), len := some (ofLe (slice 1 4 m.body)) }] ∧
      SameRegs [CADDY_STATUS, CADDY_SLOT_STATUS slot, CADDY_SLOT_SEQ slot] s t ∧ t.nv = s.nv) ∧
  (∀ (src : Nat) (k : Byte) (dg : List Byte) (m : Kmp) (s : State), Accepts s src dg m → m.op = 0x50 → m.body = [0, k] →
    (k.toNat ≤ 15 ∨ k.toNat = 0xFF) → s.xferFull m.sess = false →
    ∃ t, exec (.kmpSnapshotExport src dg) s = .next t ∧
      (∃ x, t.net.xfers = s.net.xfers ++ [x] ∧ x.kind = .snapOut (snapBodies s k.toNat) ∧
        x.data = (s.heard m).exportFile (snapBodies s k.toNat) ∧ x.len = some x.data.length) ∧
      (∀ j ∈ snapBodies s k.toNat, (t.body j).exporting = true) ∧ t.regs = s.regs ∧ t.log = s.log) ∧
  (∀ (src : Nat) (k : Byte) (dg : List Byte) (m : Kmp) (s : State), Accepts s src dg m → m.op = 0x50 → m.body = [1, k] →
    (k.toNat ≤ 15 ∨ k.toNat = 0xFF) → s.on (NET_SESSION_OPERATE m.sess) = true → s.xferFull m.sess = false →
    ∃ t, exec (.kmpSnapshotImport src dg) s = .next t ∧ t.net.xfers = s.net.xfers ++ [{
      session := m.sess, op := 0x50, ctr := m.ctr, kind := .snapIn k.toNat, len := none }] ∧ { t with net := s.net } = s)

/-- DATA at the expected offset is programmed and moves the offset; an ACK moves the acknowledged offset, and the last
one ends the stream with status 0; the next DATA datagram follows while fewer than 64 are unacknowledged; the timers
send an ACK, go back to the acknowledged offset, and end a transfer with status 0x09. Where an event does not apply
nothing changes (DESIGN CHOICE, log entry 1). The model's own choices it rests on: log entry 52. From parts of R132. -/
def Obligations.KmpBulk : Prop :=
  (∀ (src slot : Nat) (swap : Bool) (bad : Fin 4) (l dg : List Byte) (m : Kmp) (x : Xfer) (s : State), Accepts s src dg m →
    m.op = 0x80 → m.body = leBytes 8 x.next ++ l → x.next < 2 ^ 64 → 1 ≤ l.length → l.length ≤ 1024 →
    s.net.xfers = [x] → x.session = m.sess → x.ready = false → x.kind = .caddy slot swap →
    x.next + l.length < x.len.getD 0 → x.since < 7 →
    ∃ t, exec (.kmpData src ⟨dg, bad⟩) s = .next t ∧
      t.net.xfers = [{ x with next := x.next + l.length, since := x.since + 1 }] ∧
      t.nv = ((s.noteBad bad).caddyProgram slot x.next l).nv ∧ { t with nv := s.nv, net := s.net } = s) ∧
  (∀ (src : Nat) (dg : List Byte) (m : Kmp) (x : Xfer) (s : State), Accepts s src dg m → m.op = 0x81 →
    s.net.xfers = [x] → x.session = m.sess → x.ready = false → x.out = true → m.body.length = 8 →
    x.acked < ofLe m.body → ofLe m.body < x.len.getD 0 →
    ∃ t, exec (.kmpAck src dg) s = .next t ∧
      t.net.xfers = [{ x with acked := ofLe m.body, next := max x.next (ofLe m.body) }] ∧ { t with net := s.net } = s) ∧
  (∀ (src off : Nat) (dg : List Byte) (m : Kmp) (x : Xfer) (s : State), Accepts s src dg m → m.op = 0x81 →
    s.net.xfers = [x] → x.session = m.sess → x.ready = false → x.kind = .cup off → m.body.length = 8 →
    x.acked < ofLe m.body → x.len = some (ofLe m.body) →
    ∃ t, exec (.kmpAck src dg) s = .next t ∧ t.net.xfers = [] ∧ Sent m.sess x.op 0 (leBytes 8 x.ctr) s t ∧
      { t with net := s.net, out := s.out } = s) ∧
  (∀ (i : Fin 2) (x : Xfer) (s : State), s.net.xfers[i.val]? = some x → x.out = true → x.session < 8 →
    x.next < x.len.getD 0 → x.next < x.acked + 65536 →
    ∃ t, exec (.bulkDataSend i) s = .next t ∧
      Sent x.session 0x80 0 (leBytes 8 x.next ++ (List.range (min 1024 (x.len.getD 0 - x.next))).map
        (fun j => s.xferByte x (x.next + j))) s t ∧ { t with net := s.net, out := s.out } = s) ∧
  (∀ (i : Fin 2) (x : Xfer) (s : State), s.net.xfers[i.val]? = some x → x.out = false → x.ready = false → x.session < 8 →
    ∃ t, exec (.bulkAckTimer i) s = .next t ∧ Sent x.session 0x81 0 (leBytes 8 x.next) s t ∧
      { t with net := s.net, out := s.out } = s) ∧
  (∀ (i : Fin 2) (x : Xfer) (s : State), s.net.xfers = [x] → i.val = 0 → x.out = true →
    ∃ t, exec (.bulkResendTimeout i) s = .next t ∧ t.net.xfers = [{ x with next := x.acked }] ∧ { t with net := s.net } = s) ∧
  (∀ (i : Fin 2) (x : Xfer) (off : Nat) (s : State), s.net.xfers = [x] → i.val = 0 → x.ready = false →
    x.kind = .cup off → x.session < 8 →
    ∃ t, exec (.bulkAbandonTimeout i) s = .next t ∧ t.net.xfers = [] ∧ Sent x.session x.op 9 (leBytes 8 x.ctr) s t ∧
      { t with net := s.net, out := s.out } = s) ∧
  (∀ (i : Fin 2) (s : State), s.net.xfers[i.val]? = none → exec (.bulkDataSend i) s = .next s ∧
    exec (.bulkAckTimer i) s = .next s ∧ exec (.bulkResendTimeout i) s = .next s ∧ exec (.bulkAbandonTimeout i) s = .next s)

/-- The switch learns the source of a frame and forwards it to the other Ethernet port unless the destination is this
module or on the same port; a PTP frame, or a later fragment of one, is never forwarded; traffic on a port raises
its LED unless a burst runs there. The second with storm drops leaves record 0x800C; an aged address is forgotten; a
link that comes up as the port's settings allow shows its speed with record 0x8001, one that goes down leaves
0x8002. Where an event does not apply nothing changes (DESIGN CHOICE, log entry 1). The model's own choices it rests
on: log entry 62. From parts of R115 to R118. -/
def Obligations.Switch : Prop :=
  (∀ (e : Fin 2) (f : List Byte) (s : State), s.mpUp = true → 14 ≤ f.length → f.length ≤ 1522 → s.link e = true →
    s.link (1 - e.val) = true → frameNat f 0 6 / 2 ^ 40 % 2 = 0 → s.framePtp f = false → frameNat f 0 6 ≠ s.nv.mac →
    s.net.macs = [] → frameNat f 6 6 / 2 ^ 40 % 2 = 0 → s.net.leds.any (fun p => p.1 = e.val) = true →
    s.net.leds.any (fun p => p.1 = 1 - e.val) = true →
    ∃ t, exec (.frameForward ⟨e.val + 1, by omega⟩ f) s = .next t ∧ t.out = .eth (1 - e.val) f :: s.out ∧
      t.net.macs = [(frameNat f 6 6, e.val + 1)] ∧ { t with out := s.out, net := s.net } = s) ∧
  (∀ (e : Fin 2) (f : List Byte) (s : State), s.mpUp = true → 14 ≤ f.length → f.length ≤ 1522 → s.link e = true →
    s.link (1 - e.val) = true → frameNat f 0 6 / 2 ^ 40 % 2 = 0 → s.framePtp f = false → frameNat f 0 6 ≠ s.nv.mac →
    s.net.macs = [] → s.net.leds = [] →
    ∃ t, exec (.frameForward ⟨e.val + 1, by omega⟩ f) s = .next t ∧
      t.out = .pin (if e.val = 0 then "nE1_LED" else "nE0_LED") true :: .eth (1 - e.val) f ::
        .pin (if e.val = 0 then "nE0_LED" else "nE1_LED") true :: s.out ∧
      { t with out := s.out, net := s.net } = s) ∧
  (∀ (e : Fin 2) (f : List Byte) (s : State), s.framePtp f = true →
    ∃ t, exec (.frameForward ⟨e.val + 1, by omega⟩ f) s = .next t ∧
      (t.out = s.out ∨ t.out = .pin (if e.val = 0 then "nE0_LED" else "nE1_LED") true :: s.out)) ∧
  (∀ (e : Fin 2) (n d : Nat) (s : State), s.stormOf e = (n, d) → d ≠ 0 → Room s portNet →
    ∃ t, exec (.stormSecondEnd e) s = .next t ∧ t.stormOf e = (0, 0) ∧ t.regs = s.regs ∧ Logged portNet 0x800C e d 0 s t) ∧
  (∀ (e : Fin 2) (n : Nat) (s : State), s.stormOf e = (n, 0) →
    ∃ t, exec (.stormSecondEnd e) s = .next t ∧ t.stormOf e = (0, 0) ∧ { t with net := s.net } = s) ∧
  (∀ (mac : Nat) (s : State), ∃ t, exec (.macAgeOut mac) s = .next t ∧ (∀ p ∈ t.net.macs, p.1 ≠ mac) ∧
    (∀ p ∈ s.net.macs, p.1 ≠ mac → p ∈ t.net.macs) ∧ { t with net := s.net } = s) ∧
  (∀ (e : Fin 2) (sp : Fin 3) (full : Bool) (s : State), s.configured = true → s.linkFits e sp full = true →
    s.link e = false → s.on NET_STATUS_IP4_OK = false → Room s portNet →
    ∃ t, exec (.linkChange e true sp full) s = .next t ∧ t.link e = true ∧ t.get (NET_PORT_STATUS_SPEED e) = sp ∧
      t.on (NET_PORT_STATUS_FULL_DUPLEX e) = full ∧ t.get NET_HSPI_IRQ_STATUS_LINK = 1 ∧
      SameRegs [NET_PORT_STATUS e, NET_STATUS, NET_HSPI_IRQ_STATUS] s t ∧ Logged portNet 0x8001 e sp 0 s t) ∧
  (∀ (e : Fin 2) (sp : Fin 3) (full : Bool) (s : State), s.linkFits e sp full = false →
    exec (.linkChange e true sp full) s = .next s) ∧
  (∀ (e : Fin 2) (sp : Fin 3) (full : Bool) (s : State), s.configured = true → s.link e = true → Room s portNet →
    ∃ t, exec (.linkChange e false sp full) s = .next t ∧ t.link e = false ∧ t.get (NET_PORT_STATUS_SPEED e) = 0 ∧
      t.get NET_HSPI_IRQ_STATUS_LINK = 1 ∧ SameRegs [NET_PORT_STATUS e, NET_STATUS, NET_HSPI_IRQ_STATUS] s t ∧
      Logged portNet 0x8002 e 0 0 s t)

/-- Conflict detection that ends clean puts a static address into use with record 0x8003, a conflict withdraws it with
0x8004, and after 60 s it is tried again, as is a DHCP address while its lease lasts; at half the lease the client
renews; a lost lease withdraws the address; in bare mode 10 s without a lease begins a link-local address. Where an
event does not apply nothing changes (DESIGN CHOICE, log entry 1). The model's own choices it rests on: log entry
63. From parts of R119, R120, R94. -/
def Obligations.Addresses : Prop :=
  (∀ (a m g : Word) (l : Nat) (s : State), s.serves = true → s.net.probing = true → s.byDhcp = false →
    s.on NET_STATUS_IP4_OK = false → Room s portNet →
    ∃ t, exec (.addressProbeDone a m g l false) s = .next t ∧ t.reg NET_IP4_ADDR = s.net.stat.getD 0 0 ∧
      t.reg NET_IP4_MASK = s.net.stat.getD 1 0 ∧ t.reg NET_IP4_GW = s.net.stat.getD 2 0 ∧ t.get NET_STATUS_IP4_OK = 1 ∧
      t.net.probing = false ∧ SameRegs [NET_IP4_ADDR, NET_IP4_MASK, NET_IP4_GW, NET_STATUS, NET_DHCP_STATUS] s t ∧
      Logged portNet 0x8003 (s.net.stat.getD 0 0).toNat 0 0 s t) ∧
  (∀ (a m g : Word) (l : Nat) (s : State), s.serves = true → s.net.probing = true → s.byDhcp = false →
    s.on NET_STATUS_IP4_OK = false → Room s portNet →
    ∃ t, exec (.addressProbeDone a m g l true) s = .next t ∧ t.reg NET_IP4_ADDR = 0 ∧ t.get NET_STATUS_IP4_OK = 0 ∧
      t.get NET_DHCP_STATUS_STATE = 3 ∧ t.net.probing = false ∧ Logged portNet 0x8004 (s.net.stat.getD 0 0).toNat 0 0 s t) ∧
  (∀ s : State, s.serves = true → s.get NET_DHCP_STATUS_STATE = 3 → s.byDhcp = false → s.net.cand = none →
    ∃ t, exec .conflictRetry s = .next t ∧ t.net = { s.net with probing := true } ∧
      t.out = .probe (s.net.stat.getD 0 0) :: s.out ∧ { t with net := s.net, out := s.out } = s) ∧
  (∀ s : State, s.serves = true → s.get NET_DHCP_STATUS_STATE = 3 → s.byDhcp = true → s.net.cand = none →
    ∃ t, exec .conflictRetry s = .next t ∧ t.get NET_DHCP_STATUS_STATE = 1 ∧ t.out = .dhcp false :: s.out ∧
      SameRegs [NET_DHCP_STATUS] s t ∧ { t with regs := s.regs, out := s.out } = s) ∧
  (∀ (a m g : Word) (l : Nat) (s : State), s.serves = true → s.get NET_DHCP_STATUS_STATE = 3 →
    s.net.cand = some (a, m, g, l) → s.tim.mono < l →
    ∃ t, exec .conflictRetry s = .next t ∧ t.net = { s.net with probing := true } ∧
      t.out = .probe a :: s.out ∧ { t with net := s.net, out := s.out } = s) ∧
  (∀ (l : Nat) (s : State), s.serves = true → s.get NET_DHCP_STATUS_STATE = 2 →
    ∃ t, exec (.dhcpRenew l) s = .next t ∧ t.net = { s.net with leaseEnd := s.tim.mono + l * 1000000 } ∧
      t.out = .dhcp true :: s.out ∧ { t with net := s.net, out := s.out } = s) ∧
  (∀ s : State, s.serves = true → s.get NET_DHCP_STATUS_STATE = 2 →
    ∃ t, exec .dhcpLeaseLost s = .next t ∧ t.reg NET_IP4_ADDR = 0 ∧ t.get NET_STATUS_IP4_OK = 0 ∧
      t.get NET_DHCP_STATUS_STATE = 1 ∧ t.out = .dhcp false :: s.out ∧
      SameRegs [NET_IP4_ADDR, NET_IP4_MASK, NET_IP4_GW, NET_STATUS, NET_DHCP_STATUS] s t) ∧
  (∀ (low : BitVec 16) (s : State), s.isBare = true → s.byDhcp = true → s.get NET_DHCP_STATUS_STATE = 1 →
    ∃ t, exec (.linkLocalFallback low) s = .next t ∧ t.net.ll = true ∧ t.net.probing = true ∧
      t.net.stat = [0xA9FE0000 ||| low.setWidth 32, 0xFFFF0000, 0] ∧
      t.out = .probe (0xA9FE0000 ||| low.setWidth 32) :: s.out ∧ { t with net := s.net, out := s.out } = s) ∧
  (∀ (l : Nat) (s : State), s.get NET_DHCP_STATUS_STATE ≠ 2 → exec (.dhcpRenew l) s = .next s ∧ exec .dhcpLeaseLost s = .next s)

/-- The module answers for its own address, echoes at most 100 times in a second and resets a TCP segment to a port that
serves nothing; a heartbeat from an enabled source restarts the watchdog's timer; the timer that reaches TIMEOUT_S
trips the watchdog with record 0x800A; the third good heartbeat releases it. Where an event does not apply nothing
changes (DESIGN CHOICE, log entry 1). The model's own choices it rests on: log entries 65, 8. From parts of R121,
R149 to R151. -/
def Obligations.AnswersAndWatchdog : Prop :=
  (∀ (e : Fin 2) (a : Nat) (s : State), s.serves = true → s.on NET_STATUS_IP4_OK = true → a = (s.reg NET_IP4_ADDR).toNat →
    ∃ t, exec (.arpRequest e false a) s = .next t ∧ t.out = .neighbour e a s.nv.mac :: s.out ∧ { t with out := s.out } = s) ∧
  (∀ (e : Fin 2) (v6 : Bool) (a : Nat) (s : State), s.holdsAddr v6 a = false → exec (.arpRequest e v6 a) s = .next s) ∧
  (∀ (e : Fin 2) (s : State), s.serves = true → s.net.echoSec = s.tim.mono / 1000000 → s.net.echoes < 100 →
    ∃ t, exec (.echoRequest e) s = .next t ∧ t.out = .echo e :: s.out ∧ t.net = { s.net with echoes := s.net.echoes + 1 } ∧
      { t with out := s.out, net := s.net } = s) ∧
  (∀ (e : Fin 2) (s : State), s.net.echoSec = s.tim.mono / 1000000 → 100 ≤ s.net.echoes → exec (.echoRequest e) s = .next s) ∧
  (∀ (e : Fin 2) (p : Nat) (s : State), s.serves = true → p ≠ 502 →
    ∃ t, exec (.unservedPortSegment e true p) s = .next t ∧ t.out = .rst e p :: s.out ∧ { t with out := s.out } = s) ∧
  (∀ (e : Fin 2) (p : Nat) (s : State), exec (.unservedPortSegment e false p) s = .next s) ∧
  (∀ (v : Word) (s : State), Writes s 0x10 NET_HEARTBEAT v → (s.reg NET_WDOG_CFG).getLsbD 10 = true →
    s.on NET_WDOG_STATUS_TRIPPED = false →
    ∃ t, exec (.heartbeat 0x10 v) s = .next t ∧ t.net = { s.net with beat := s.tim.mono } ∧ SameRegs [NET_HEARTBEAT] s t) ∧
  (∀ (v : Word) (s : State), Writes s 0x10 NET_HEARTBEAT v → (s.reg NET_WDOG_CFG).getLsbD 10 = true →
    s.on NET_WDOG_STATUS_TRIPPED = true → s.beatTooSoon = false → s.goodCount = 3 → Room s portNet →
    ∃ t, exec (.heartbeat 0x10 v) s = .next t ∧ t.get NET_WDOG_STATUS_TRIPPED = 0 ∧ t.get NET_WDOG_STATUS_GOOD_COUNT = 0 ∧
      t.get NET_STATUS_WDOG_TRIPPED = 0 ∧ t.net.counted = none ∧
      Logged portNet 0x800B ((s.tim.mono - s.net.tripAt) / 1000000) 0 0 s t) ∧
  (∀ s : State, s.isLoaded = true → s.on NET_WDOG_CFG_ENABLE = true → s.on NET_WDOG_STATUS_TRIPPED = false →
    s.get NET_WDOG_CFG_TIMEOUT_S * 1000000 ≤ s.tim.mono - s.net.beat → Room s portNet →
    ∃ t, exec .watchdogTrip s = .next t ∧ t.get NET_WDOG_STATUS_TRIPPED = 1 ∧ t.get NET_STATUS_WDOG_TRIPPED = 1 ∧
      t.get NET_WDOG_STATUS_TRIP_COUNT = min (s.get NET_WDOG_STATUS_TRIP_COUNT + 1) 255 ∧ t.net.tripAt = s.tim.mono ∧
      SameRegs [NET_WDOG_STATUS, NET_STATUS, NET_HSPI_IRQ_STATUS] s t ∧
      Logged portNet 0x800A (s.get NET_WDOG_CFG_TIMEOUT_S) (s.get NET_WDOG_CFG_SOURCES) 0 s t) ∧
  (∀ s : State, s.get NET_WDOG_CFG_ENABLE = 0 → exec .watchdogTrip s = .next s)

/-- A request is answered whole. FC03 and FC04 answer the values of the registers, FC06 and FC16 write and answer, FC23
writes and then reads; the heartbeat register reads 0; an input read of all eight registers of an entry becomes four
reads of that entry on the leat, answered when their values have come. The model's own choices it rests on: log
entries 58, 59. From parts of R135, R139, R140. -/
def Obligations.ModbusRequests : Prop :=
  (∀ (conn a : Nat) (e : Config.MbEntry) (adu : List Byte) (s : State), MbAsks s conn 3 adu → adu.drop 8 = beBytes 2 a ++ [0, 1] →
    a < 0xF000 → mbEntry s.net.map true a = some e → e.width = 1 → onLeat e.fabric = false → mapped e.fabric = true →
    latchMembers e.fabric = [] → s.captured 0x20 e.fabric = none →
    ∃ t, exec (.modbusReadHolding conn adu) s = .next t ∧
      MbReply conn adu ([3, 2] ++ beBytes 2 (((s.inc NET_MB_STATS_REQUESTS).look 0x20 e.fabric).toNat % 65536)) s t ∧
      SameRegs [NET_MB_STATS] s t ∧ t.fab.txns = [] ∧ { t with regs := s.regs, out := s.out, fab := s.fab } = s) ∧
  (∀ (conn : Nat) (adu : List Byte) (s : State), MbAsks s conn 3 adu → adu.drop 8 = [0xF0, 0, 0, 1] →
    ∃ t, exec (.modbusReadHolding conn adu) s = .next t ∧ MbReply conn adu [3, 2, 0, 0] s t ∧ SameRegs [NET_MB_STATS] s t) ∧
  (∀ (conn : Nat) (n : Fin 1024) (adu : List Byte) (s : State), MbAsks s conn 4 adu →
    adu.drop 8 = beBytes 2 (8 * n.val) ++ [0, 8] → s.fab.dat = [] → s.fab.held = [] →
    ∃ t, exec (.modbusReadInput conn adu) s = .next t ∧ t.net = { s.net with mbBusy := true } ∧ t.out = s.out ∧
      t.fab.dat = (List.range 4).map (fun w => {
        requester := 0x20, addr := 0x480000 + 16 * n.val + 4 * w, txn := s.fab.nextTxn, idx := w }) ∧
      t.fab.ctl = s.fab.ctl ∧ t.get NET_MB_STATS_REQUESTS = (s.get NET_MB_STATS_REQUESTS + 1) % 65536 ∧
      SameRegs [NET_MB_STATS] s t) ∧
  (∀ (conn fc i : Nat) (v : Word) (hdr : List Byte) (s : State), s.serves = true → s.net.mbQueue = [] → s.net.mbBusy = true →
    s.fab.replies = [{ requester := 0x20, addr := 0, txn := i, idx := 0, value := v }] →
    s.fab.txns = [{ id := i, requester := 0x20, kind := .modbus conn hdr fc, need := 1, shape := [(0, true), (0, false)] }] →
    ∃ t, exec .readReply s = .next t ∧ t.net = { s.net with mbBusy := false } ∧ t.fab.txns = [] ∧ t.fab.replies = [] ∧
      t.out = .modbus conn (hdr.take 4 ++ [0, 7] ++ slice 6 1 hdr ++ [BitVec.ofNat 8 fc, 4] ++ beBytes 4 v.toNat) :: s.out ∧
      t.regs = s.regs) ∧
  (∀ (conn a v : Nat) (e : Config.MbEntry) (adu : List Byte) (s : State), MbAsks s conn 6 adu →
    adu.drop 8 = beBytes 2 a ++ beBytes 2 v → a < 0xF000 → v < 65536 → mbEntry s.net.map true a = some e → e.width = 1 →
    e.writable = true → e.fabric = SYS_SCRATCH →
    ∃ t, exec (.modbusWriteSingle conn adu) s = .next t ∧ t.reg SYS_SCRATCH = BitVec.ofNat 32 v ∧
      MbReply conn adu (adu.drop 7) s t ∧ SameRegs [SYS_SCRATCH, NET_MB_STATS] s t ∧
      { t with regs := s.regs, out := s.out, fab := s.fab } = s) ∧
  (∀ (conn v : Nat) (adu : List Byte) (s : State), MbAsks s conn 6 adu → adu.drop 8 = [0xF0, 0] ++ beBytes 2 v →
    (s.reg NET_WDOG_CFG).getLsbD 9 = true → s.on NET_WDOG_STATUS_TRIPPED = false →
    ∃ t, exec (.modbusWriteSingle conn adu) s = .next t ∧ t.net.beat = s.tim.mono ∧ MbReply conn adu (adu.drop 7) s t) ∧
  (∀ (conn a v w : Nat) (e : Config.MbEntry) (adu : List Byte) (s : State), MbAsks s conn 16 adu →
    adu.drop 8 = beBytes 2 a ++ [0, 2, 4] ++ beBytes 2 v ++ beBytes 2 w → a < 0xF000 → v < 65536 → w < 65536 →
    mbEntry s.net.map true a = some e → e.width = 2 → e.writable = true → e.fabric = SYS_SCRATCH →
    ∃ t, exec (.modbusWriteMultiple conn adu) s = .next t ∧ t.reg SYS_SCRATCH = BitVec.ofNat 32 (v * 65536 + w) ∧
      MbReply conn adu (slice 7 5 adu) s t ∧ SameRegs [SYS_SCRATCH, NET_MB_STATS] s t ∧
      { t with regs := s.regs, out := s.out, fab := s.fab } = s) ∧
  (∀ (conn a v w : Nat) (e : Config.MbEntry) (adu : List Byte) (s : State), MbAsks s conn 23 adu →
    adu.drop 8 = beBytes 2 a ++ [0, 2] ++ beBytes 2 a ++ [0, 2, 4] ++ beBytes 2 v ++ beBytes 2 w → a < 0xF000 → v < 65536 →
    w < 65536 → mbEntry s.net.map true a = some e → e.width = 2 → e.writable = true → e.fabric = SYS_SCRATCH →
    s.captured 0x20 SYS_SCRATCH = none →
    ∃ t, exec (.modbusReadWrite conn adu) s = .next t ∧ t.reg SYS_SCRATCH = BitVec.ofNat 32 (v * 65536 + w) ∧
      MbReply conn adu ([23, 4] ++ beBytes 2 v ++ beBytes 2 w) s t ∧ SameRegs [SYS_SCRATCH, NET_MB_STATS] s t)

/-- A request that fails a check is answered with exception 1, 2 or 3 before any part of it is executed; a connection
beyond MAX_CONN is closed at once with record 0x8007, and without an address none arrives. A poll of the client
writes its outputs; one that falls due while another runs waits, and without an IPv4 address none is made; a poll
without a failed transaction brings the server UP with record 0x8009, an exception is counted, and the third failed
poll running, or a lost connection, makes it DOWN with record 0x8008. Where an event does not apply nothing changes
(DESIGN CHOICE, log entry 1). The model's own choices it rests on: log entries 58, 60. From parts of R135, R140,
R142, R143. -/
def Obligations.ModbusGuardsAndClient : Prop :=
  (∀ (conn fc : Nat) (adu : List Byte) (s : State), MbAsks s conn fc adu → fc ∉ mbCodes → fc < 128 →
    ∃ t, exec (.modbusReadHolding conn adu) s = .next t ∧ MbReply conn adu [BitVec.ofNat 8 (fc + 0x80), 1] s t ∧
      t.get NET_MB_STATS_EXCEPTIONS = (s.get NET_MB_STATS_EXCEPTIONS + 1) % 65536 ∧ SameRegs [NET_MB_STATS] s t ∧
      { t with regs := s.regs, out := s.out } = s) ∧
  (∀ (conn a v w : Nat) (adu : List Byte) (s : State), MbAsks s conn 16 adu →
    adu.drop 8 = beBytes 2 a ++ [0, 2, 4] ++ beBytes 2 v ++ beBytes 2 w → a < 0xF000 → mbEntry s.net.map true a = none →
    ∃ t, exec (.modbusWriteMultiple conn adu) s = .next t ∧ MbReply conn adu [0x90, 2] s t ∧
      t.get NET_MB_STATS_EXCEPTIONS = (s.get NET_MB_STATS_EXCEPTIONS + 1) % 65536 ∧ SameRegs [NET_MB_STATS] s t ∧
      { t with regs := s.regs, out := s.out } = s) ∧
  (∀ (conn a : Nat) (adu : List Byte) (s : State), MbAsks s conn 4 adu → adu.drop 8 = beBytes 2 a ++ [0, 0] →
    ∃ t, exec (.modbusReadInput conn adu) s = .next t ∧ MbReply conn adu [0x84, 3] s t ∧
      t.get NET_MB_STATS_EXCEPTIONS = (s.get NET_MB_STATS_EXCEPTIONS + 1) % 65536 ∧ SameRegs [NET_MB_STATS] s t ∧
      { t with regs := s.regs, out := s.out } = s) ∧
  (∀ (conn src : Nat) (s : State), s.mbOpen = true → s.reaches src = true → conn ∉ s.net.conns →
    s.net.conns.length < s.get NET_MB_CFG_MAX_CONN → s.get NET_MB_CFG_MAX_CONN ≤ 16 →
    ∃ t, exec (.modbusConnect conn src) s = .next t ∧ t.net = { s.net with conns := s.net.conns ++ [conn], conns4 := t.net.conns4 } ∧
      (src ≠ 0 → conn ∈ t.net.conns4) ∧
      t.get NET_STATUS_MB_CONNS = s.net.conns.length + 1 ∧ t.out = .tcp false conn true :: s.out ∧
      SameRegs [NET_STATUS] s t ∧ t.log = s.log) ∧
  (∀ (conn src : Nat) (s : State), s.mbOpen = true → s.reaches src = true → conn ∉ s.net.conns →
    s.get NET_MB_CFG_MAX_CONN ≤ s.net.conns.length → Room s portNet →
    ∃ t, exec (.modbusConnect conn src) s = .next t ∧ t.net = s.net ∧ t.regs = s.regs ∧
      t.out = .tcp false conn false :: .tcp false conn true :: s.out ∧ Logged portNet 0x8007 src 0 0 s t) ∧
  (∀ (conn src : Nat) (s : State), s.reaches src = false → exec (.modbusConnect conn src) s = .next s) ∧
  (∀ (conn : Nat) (s : State), s.mbOpen = true → s.net.conns = [conn] →
    ∃ t, exec (.modbusIdleClose conn) s = .next t ∧ t.net = { s.net with conns := [], conns4 := [] } ∧ t.get NET_STATUS_MB_CONNS = 0 ∧
      t.out = .tcp false conn false :: s.out ∧ SameRegs [NET_STATUS] s t) ∧
  (∀ (m n : Fin 16) (v : F32) (s : State), s.clientRuns m = true → s.on (NET_CLIENT_STATUS_CONNECTED m) = true →
    s.on NET_STATUS_IP4_OK = true → (s.client m).polling = false → s.est.netout = [(n.val, v)] → s.on (NET_NETOUT_ENABLE n) = true →
    s.get (NET_NETOUT_SERVER n) = m → s.get (NET_NETOUT_FORMAT n) = 3 → fIsNaN v = false →
    ∃ t, exec (.clientPoll m) s = .next t ∧ (t.client m).polling = true ∧ (t.client m).waiting = true ∧
      t.out = .client m (BitVec.ofNat 8 (s.get (NET_CLIENT_CFG_UNIT_ID m)) :: 0x10 ::
        (beBytes 2 (s.get (NET_NETOUT_REG n)) ++ [0, 2, 4] ++
          beBytes 4 (fmul v (fofNat (10 ^ s.get (NET_NETOUT_DECIMAL n)))).toNat)) :: s.out ∧ t.regs = s.regs) ∧
  (∀ (m : Fin 16) (s : State), s.clientRuns m = true → s.on (NET_CLIENT_STATUS_CONNECTED m) = true →
    s.on NET_STATUS_IP4_OK = true → (s.client m).polling = true →
    ∃ t, exec (.clientPoll m) s = .next t ∧ t.client m = { s.client m with due := true } ∧
      { t with net := { t.net with clients := s.net.clients } } = s) ∧
  (∀ (m : Fin 16) (ok : Bool) (s : State), s.on NET_STATUS_IP4_OK = false →
    exec (.clientPoll m) s = .next s ∧ exec (.clientReconnect m ok) s = .next s) ∧
  (∀ (m : Fin 16) (s : State), s.clientRuns m = true → (s.client m).waiting = true → (s.client m).failed = false →
    (s.client m).due = false → (s.client m).todo = [] → ofBe (slice 0 1 (s.client m).cur) = 0x10 → s.on (NET_CLIENT_STATUS_UP m) = false → Room s portNet →
    ∃ t, exec (.clientResponse m ((s.client m).cur.take 5)) s = .next t ∧ t.get (NET_CLIENT_STATUS_UP m) = 1 ∧
      t.client m = { s.client m with waiting := false, polling := false, run := 0, down := false } ∧
      SameRegs [NET_CLIENT_STATUS m] s t ∧ Logged portNet 0x8009 m 0 0 s t) ∧
  (∀ (m : Fin 16) (s : State), s.clientRuns m = true → (s.client m).waiting = true → (s.client m).todo = [] →
    (s.client m).due = false → (s.client m).run = 0 →
    ∃ t, exec (.clientTransactionTimeout m) s = .next t ∧
      t.client m = { s.client m with waiting := false, failed := true, polling := false, run := 1 } ∧
      t.get (NET_CLIENT_STATUS_FAIL_COUNT m) = min (s.get (NET_CLIENT_STATUS_FAIL_COUNT m) + 1) 65535 ∧
      SameRegs [NET_CLIENT_STATUS m] s t ∧ t.log = s.log) ∧
  (∀ (m : Fin 16) (s : State), s.clientRuns m = true → s.on (NET_CLIENT_STATUS_CONNECTED m) = true →
    (s.client m).down = false → Room s portNet →
    ∃ t, exec (.clientConnectionLost m) s = .next t ∧ t.get (NET_CLIENT_STATUS_UP m) = 0 ∧
      t.get (NET_CLIENT_STATUS_CONNECTED m) = 0 ∧ (t.client m).down = true ∧ SameRegs [NET_CLIENT_STATUS m] s t ∧
      Logged portNet 0x8008 m (s.get (NET_CLIENT_STATUS_LAST_EXC m)) (s.get (NET_CLIENT_STATUS_FAIL_COUNT m)) s t) ∧
  (∀ (m : Fin 16) (s : State), s.clientRuns m = true → s.on NET_STATUS_IP4_OK = true →
    s.on (NET_CLIENT_STATUS_CONNECTED m) = false →
    ∃ t, exec (.clientReconnect m true) s = .next t ∧ t.get (NET_CLIENT_STATUS_CONNECTED m) = 1 ∧
      SameRegs [NET_CLIENT_STATUS m] s t ∧
      t.out = .tcp true m true :: .connect m (s.reg (NET_CLIENT_ADDR m)) (s.get (NET_CLIENT_CFG_PORT m)) :: s.out) ∧
  (∀ (m : Fin 16) (s : State), s.clientRuns m = true → s.on NET_STATUS_IP4_OK = true →
    s.on (NET_CLIENT_STATUS_CONNECTED m) = false → (s.client m).down = true →
    ∃ t, exec (.clientReconnect m false) s = .next t ∧
      t.client m = { s.client m with retry := min 30 (2 * (s.client m).retry) } ∧ t.regs = s.regs ∧ t.out = s.out)

/-- A READ of a management register answers the frame and holds the value; the next frame returns it with its tag and
address, once; a second READ before that is dropped and counted; a WRITE stores; a frame of other than 64 clocks, of
OP 0b11 or with bit [29] set is discarded and counted; during a management firmware restart only PAUSED returns. The
commands READ, WRITE and FETCH carry the frame's whole first word, so a reserved OP may stand in each. Where an
event does not apply nothing changes (DESIGN CHOICE, log entry 1). From R145 to R147. -/
def Obligations.HostSpi : Prop :=
  (∀ (cmd d : Word) (s : State), s.configured = true → s.caddy.fwRestart = false → bits cmd 31 30 = 0 → cmd.getLsbD 29 = false →
    s.net.hspi = none → s.fab.txns = [] → s.fab.held = [] → s.net.mbQueue = [] → onLeat (bits cmd 23 0) = false →
    mapped (bits cmd 23 0) = true → latchMembers (bits cmd 23 0) = [] → s.captured 0x10 (bits cmd 23 0) = none →
    ∃ t, exec (.hspiRead cmd d 64) s = .next t ∧
      t.out = .hspi (if s.hspiIrq then 0x40000000 else 0) 0 :: s.out ∧
      t.net.hspi = some { tag := bits cmd 28 24, addr := bits cmd 23 0, value := some (s.look 0x10 (bits cmd 23 0)) } ∧
      t.regs = s.regs ∧ t.fab.txns = [] ∧ { t with out := s.out, net := s.net, fab := s.fab } = s) ∧
  (∀ (cmd d : Word) (r : HspiRead) (s : State), s.configured = true → s.caddy.fwRestart = false → bits cmd 31 30 = 0 →
    cmd.getLsbD 29 = false → s.net.hspi = some r → r.value = none →
    ∃ t, exec (.hspiRead cmd d 64) s = .next t ∧
      t.get NET_HSPI_ERR_READ_BUSY = (s.get NET_HSPI_ERR_READ_BUSY + 1) % 65536 ∧ t.net = s.net ∧
      SameRegs [NET_HSPI_ERR] s t ∧ { t with regs := s.regs, out := s.out } = s) ∧
  (∀ (cmd d v : Word) (r : HspiRead) (s : State), s.configured = true → s.caddy.fwRestart = false → bits cmd 31 30 = 2 →
    cmd.getLsbD 29 = false → s.net.hspi = some r → r.value = some v →
    ∃ t, exec (.hspiFetch cmd d 64) s = .next t ∧
      t.out = .hspi (BitVec.ofNat 32 (2 ^ 31 + (if s.hspiIrq then 2 ^ 30 else 0) + r.tag * 2 ^ 24 + r.addr)) v :: s.out ∧
      t.net = { s.net with hspi := none } ∧ { t with out := s.out, net := s.net } = s) ∧
  (∀ (cmd d : Word) (s : State), s.configured = true → s.caddy.fwRestart = false → bits cmd 31 30 = 1 →
    cmd.getLsbD 29 = false → bits cmd 23 0 = SYS_SCRATCH → s.net.hspi = none → s.loading = false →
    ∃ t, exec (.hspiWrite cmd d 64) s = .next t ∧ t.reg SYS_SCRATCH = d ∧ SameRegs [SYS_SCRATCH] s t ∧
      { t with regs := s.regs, out := s.out } = s) ∧
  (∀ (cmd d : Word) (n : Nat) (s : State), s.configured = true → s.caddy.fwRestart = false →
    (n ≠ 64 ∨ bits cmd 31 30 = 3 ∨ cmd.getLsbD 29 = true) →
    ((bits cmd 31 30 = 0 ∨ bits cmd 31 30 = 3) → ∃ t, exec (.hspiRead cmd d n) s = .next t ∧
      t.get NET_HSPI_ERR_BAD_FRAMES = (s.get NET_HSPI_ERR_BAD_FRAMES + 1) % 65536 ∧ SameRegs [NET_HSPI_ERR] s t ∧
      { t with regs := s.regs, out := s.out, net := { t.net with hspi := s.net.hspi } } = s) ∧
    ((bits cmd 31 30 = 1 ∨ bits cmd 31 30 = 3) → ∃ t, exec (.hspiWrite cmd d n) s = .next t ∧
      t.get NET_HSPI_ERR_BAD_FRAMES = (s.get NET_HSPI_ERR_BAD_FRAMES + 1) % 65536 ∧ SameRegs [NET_HSPI_ERR] s t ∧
      { t with regs := s.regs, out := s.out, net := { t.net with hspi := s.net.hspi } } = s) ∧
    ((bits cmd 31 30 = 2 ∨ bits cmd 31 30 = 3) → ∃ t, exec (.hspiFetch cmd d n) s = .next t ∧
      t.get NET_HSPI_ERR_BAD_FRAMES = (s.get NET_HSPI_ERR_BAD_FRAMES + 1) % 65536 ∧ SameRegs [NET_HSPI_ERR] s t ∧
      { t with regs := s.regs, out := s.out, net := { t.net with hspi := s.net.hspi } } = s)) ∧
  (∀ (cmd d : Word) (n : Nat) (s : State), s.configured = true → s.caddy.fwRestart = true →
    ((bits cmd 31 30 = 0 ∨ bits cmd 31 30 = 3) → ∃ t, exec (.hspiRead cmd d n) s = .next t ∧
      t.out = .hspi 0x20000000 0 :: s.out ∧ { t with out := s.out } = s) ∧
    ((bits cmd 31 30 = 1 ∨ bits cmd 31 30 = 3) → ∃ t, exec (.hspiWrite cmd d n) s = .next t ∧
      t.out = .hspi 0x20000000 0 :: s.out ∧ { t with out := s.out } = s) ∧
    ((bits cmd 31 30 = 2 ∨ bits cmd 31 30 = 3) → ∃ t, exec (.hspiFetch cmd d n) s = .next t ∧
      t.out = .hspi 0x20000000 0 :: s.out ∧ { t with out := s.out } = s)) ∧
  (∀ (cmd d : Word) (n : Nat) (s : State), s.configured = false →
    exec (.hspiRead cmd d n) s = .next s ∧ exec (.hspiWrite cmd d n) s = .next s ∧ exec (.hspiFetch cmd d n) s = .next s)

/-- An edge of the chosen direction 1 s ± 200 µs after the last valid one, or the first, is valid; a sentence that is
not ZDA or RMC is ignored, one out of time is invalid and counted; a valid one labels its edge; each minute with
invalid sentences leaves record 0x9007; the receiver reset pulls nGNSS_RST low with record 0x9009, is released, and
the set-up text is sent. Until the caddy has loaded edges and sentences are ignored and nothing is sent. Where an
event does not apply nothing changes (DESIGN CHOICE, log entry 1). The model's own choices it rests on: log entries
67, 68, 143. From parts of R157 to R161. -/
def Obligations.GnssInput : Prop :=
  (∀ (f : Bool) (at_ : Nat) (s : State), s.isLoaded = true → s.on TIME_GNSS_CFG_PPS_FALLING = f → (s.tim.edge = none ∨
      ∃ p, s.tim.edge = some p ∧ p + 999800000 ≤ at_ - s.get TIME_GNSS_CFG_PPS_DELAY_NS ∧
        at_ - s.get TIME_GNSS_CFG_PPS_DELAY_NS ≤ p + 1000200000) →
    ∃ t, exec (.ppsEdge f at_) s = .next t ∧ t.get TIME_STATUS_PPS_OK = 1 ∧
      t.tim = { s.tim with
        edge := some (at_ - s.get TIME_GNSS_CFG_PPS_DELAY_NS), edgeFresh := true
        validRun := if s.tim.edgeFresh then 0 else s.tim.validRun, goodRun := if s.tim.edgeFresh then 0 else s.tim.goodRun } ∧
      SameRegs [TIME_STATUS] s t ∧ { t with regs := s.regs, tim := s.tim } = s) ∧
  (∀ (f : Bool) (at_ p : Nat) (s : State), s.isLoaded = true → s.on TIME_GNSS_CFG_PPS_FALLING = f → s.tim.edge = some p →
    p + 1000200000 < at_ - s.get TIME_GNSS_CFG_PPS_DELAY_NS →
    ∃ t, exec (.ppsEdge f at_) s = .next t ∧ t.get TIME_STATUS_PPS_OK = 0 ∧ OnlyRegs [TIME_STATUS] s t) ∧
  (∀ (f : Bool) (text : List Byte) (at_ : Nat) (s : State), s.isLoaded = false →
    exec (.ppsEdge f at_) s = .next s ∧ exec (.nmeaSentence text at_) s = .next s ∧ exec .gnssSetupSend s = .next s) ∧
  (∀ (f : Bool) (at_ : Nat) (s : State), s.on TIME_GNSS_CFG_PPS_FALLING = !f → exec (.ppsEdge f at_) s = .next s) ∧
  (∀ (text : List Byte) (at_ : Nat) (s : State), nmeaOf text = .ignored → exec (.nmeaSentence text at_) s = .next s) ∧
  (∀ (text : List Byte) (day tod at_ e : Nat) (s : State), s.isLoaded = true → nmeaOf text = .utc day tod →
    s.tim.edge = some e →
    (at_ < e + 10000000 ∨ e + 900000000 < at_) →
    ∃ t, exec (.nmeaSentence text at_) s = .next t ∧ t.get TIME_STATUS_MSG_OK = 0 ∧
      t.tim = { s.tim with badMinute := s.tim.badMinute + 1 } ∧ SameRegs [TIME_STATUS] s t ∧ t.log = s.log) ∧
  (∀ (text : List Byte) (day tod at_ e : Nat) (s : State), s.isLoaded = true → nmeaOf text = .utc day tod →
    s.tim.edge = some e →
    e + 10000000 ≤ at_ → at_ ≤ e + 900000000 → 1000000000 ≤ tod → tod < 86400000000000 →
    (s.tim.utc = none ∨ s.tim.utc = some (tod - 1000000000)) →
    s.on TIME_UTC_LEAP59 = false → s.tim.edgeFresh = false →
    ∃ t, exec (.nmeaSentence text at_) s = .next t ∧ t.get TIME_STATUS_MSG_OK = 1 ∧ t.tim = { s.tim with utc := some tod } ∧
      SameRegs [TIME_STATUS] s t ∧ t.log = s.log) ∧
  (∀ s : State, s.tim.badMinute ≠ 0 → Room s portTime →
    ∃ t, exec .gnssMinuteReport s = .next t ∧ t.tim = { s.tim with badMinute := 0 } ∧ t.regs = s.regs ∧
      Logged portTime 0x9007 s.tim.badMinute 0 0 s t) ∧
  (∀ s : State, s.tim.badMinute = 0 → exec .gnssMinuteReport s = .next s) ∧
  (∀ s : State, s.isLoaded = true → s.on TIME_CFG_SOURCE_GNSS = true → s.tim.rstLow = false →
    (s.tim.lastRst = none ∨ ∃ p, s.tim.lastRst = some p ∧ p + 600 * 1024 ≤ s.optime) → Room s portTime →
    ∃ t, exec .gnssReceiverReset s = .next t ∧ t.tim = { s.tim with rstLow := true, lastRst := some s.optime } ∧
      t.out = .pin "nGNSS_RST" false :: s.out ∧ t.regs = s.regs ∧
      Logged portTime 0x9009 ((s.optime - s.tim.lastValid) / 1024) 0 0 s t) ∧
  (∀ (p : Nat) (s : State), s.tim.lastRst = some p → s.optime < p + 600 * 1024 →
    exec .gnssReceiverReset s = .next s) ∧
  (∀ s : State, s.tim.rstLow = true →
    ∃ t, exec .gnssResetRelease s = .next t ∧ t.tim = { s.tim with rstLow := false } ∧
      t.out = .pin "nGNSS_RST" true :: s.out ∧ { t with tim := s.tim, out := s.out } = s) ∧
  (∀ s : State, s.isLoaded = true → s.tim.rstLow = false →
    ∃ t, exec .gnssSetupSend s = .next t ∧ t.out = .serial s.tim.setup :: s.out ∧ { t with out := s.out } = s)

/-- Three valid GNSS seconds take the time unit from FREE to ACQUIRE, where an offset of 1 ms or more is stepped in
whole milliseconds and its remainder slewed; sixty seconds within 100 ns lock it with clockClass 6; lost GNSS takes
LOCKED to HOLDOVER with clockClass 7, whose end is FREE with clockClass 248. Every change of state leaves a time
mark, record 0x9002. Where an event does not apply nothing changes (DESIGN CHOICE, log entry 1). The model's own
choices it rests on: log entry 67. From parts of R155, R156, R162, R163. -/
def Obligations.TimeStates : Prop :=
  (∀ (text : List Byte) (day tod at_ e : Nat) (off : Int) (s : State), s.isLoaded = true → nmeaOf text = .utc day tod →
    s.tim.edge = some e →
    e + 10000000 ≤ at_ → at_ ≤ e + 900000000 → 1000000000 ≤ tod → tod < 86400000000000 →
    (s.tim.utc = none ∨ s.tim.utc = some (tod - 1000000000)) →
    s.on TIME_UTC_LEAP59 = false → s.tim.edgeFresh = true → s.on TIME_CFG_SOURCE_GNSS = true →
    s.get TIME_STATUS_STATE = 0 → s.tim.validRun = 2 → s.tim.locked1 = false → 1000000 ≤ off.natAbs →
    off = (day * 86400000000000 + tod : Nat) + toSigned 16 (s.get TIME_UTC_OFFSET_S) * 1000000000 - e → Room s portTime →
    ∃ t, exec (.nmeaSentence text at_) s = .next t ∧ t.get TIME_STATUS_STATE = 1 ∧ t.get TIME_STATUS_CLOCK_CLASS = 248 ∧
      t.tim.step.getD 0 * 1000000 + t.tim.slew = off ∧ t.tim.slew.natAbs ≤ 500000 ∧ t.tim.site = s.tim.site ∧
      SameRegs [TIME_STATUS, TIME_SERVO] s t ∧ Newest portTime 0x9002 (secOf s.tim.aon % 2 ^ 32)
        (nsOf s.tim.aon / 1000000 * 2 ^ 16 + secOf s.tim.aon / 2 ^ 32 % 2 ^ 16) (256 + 248) t) ∧
  (∀ (text : List Byte) (day tod at_ e : Nat) (off : Int) (s : State), s.isLoaded = true → nmeaOf text = .utc day tod →
    s.tim.edge = some e →
    e + 10000000 ≤ at_ → at_ ≤ e + 900000000 → 1000000000 ≤ tod → tod < 86400000000000 →
    (s.tim.utc = none ∨ s.tim.utc = some (tod - 1000000000)) →
    s.on TIME_UTC_LEAP59 = false → s.tim.edgeFresh = true → s.on TIME_CFG_SOURCE_GNSS = true →
    s.get TIME_STATUS_STATE = 1 → s.tim.goodRun = 59 → s.tim.step = none → off.natAbs < 100 →
    off = (day * 86400000000000 + tod : Nat) + toSigned 16 (s.get TIME_UTC_OFFSET_S) * 1000000000 - e → Room s portTime →
    ∃ t, exec (.nmeaSentence text at_) s = .next t ∧ t.get TIME_STATUS_STATE = 2 ∧ t.get TIME_STATUS_CLOCK_CLASS = 6 ∧
      t.get TIME_STATUS_TIME_SOURCE = 0x20 ∧ t.tim.locked1 = true ∧ t.tim.slew = off ∧
      SameRegs [TIME_STATUS, TIME_SERVO] s t ∧ Newest portTime 0x9002 (secOf s.tim.aon % 2 ^ 32)
        (nsOf s.tim.aon / 1000000 * 2 ^ 16 + secOf s.tim.aon / 2 ^ 32 % 2 ^ 16) (512 + 6) t) ∧
  (∀ s : State, s.mpUp = true → s.get TIME_STATUS_STATE = 2 → Room s portTime →
    ∃ t, exec .gnssLost s = .next t ∧ t.get TIME_STATUS_STATE = 3 ∧ t.get TIME_STATUS_CLOCK_CLASS = 7 ∧
      t.get TIME_STATUS_PPS_OK = 0 ∧ t.get TIME_STATUS_MSG_OK = 0 ∧ t.tim.edge = none ∧ t.tim.utc = none ∧
      t.tim.slew = 0 ∧ t.get TIME_STATUS_SLEWING = 0 ∧ SameRegs [TIME_STATUS, TIME_SERVO] s t ∧ Newest portTime 0x9002 (secOf s.tim.aon % 2 ^ 32)
        (nsOf s.tim.aon / 1000000 * 2 ^ 16 + secOf s.tim.aon / 2 ^ 32 % 2 ^ 16) (768 + 7) t) ∧
  (∀ s : State, s.mpUp = true → s.get TIME_STATUS_STATE = 3 → Room s portTime →
    ∃ t, exec .holdoverExpire s = .next t ∧ t.get TIME_STATUS_STATE = 0 ∧ t.get TIME_STATUS_CLOCK_CLASS = 248 ∧
      t.get TIME_STATUS_TIME_SOURCE = (if s.tim.hostSet then 0x60 else 0xA0) ∧ SameRegs [TIME_STATUS] s t ∧
      Newest portTime 0x9002 (secOf s.tim.aon % 2 ^ 32)
        (nsOf s.tim.aon / 1000000 * 2 ^ 16 + secOf s.tim.aon / 2 ^ 32 % 2 ^ 16) 248 t) ∧
  (∀ s : State, s.get TIME_STATUS_STATE ≠ 3 → exec .holdoverExpire s = .next s)

/-- The key sets site time to the TIME_SET registers by a step of whole milliseconds and a slew, unless GNSS holds the
time; a decided step waits for a 1 ms boundary at least 1 ms after the decision, then moves site time and every copy
at once, with STEPPED and record 0x9001, and leaves operating time; a completed slew clears SLEWING and takes its
part out of the trim; a time mark is record 0x9002. Where an event does not apply nothing changes (DESIGN CHOICE,
log entry 1). From R163 to R168. -/
def Obligations.TimeSteps : Prop :=
  (∀ (req : Nat) (s : State), Writes s req TIME_SET_CMD 0x57E90000 → s.setRefused = false →
    ∃ t, exec (.timeSetCmd req) s = .next t ∧ t.tim.hostSet = true ∧ t.get TIME_STATUS_TIME_SOURCE = 0x60 ∧
      t.tim.step.getD 0 * 1000000 + t.tim.slew = (s.setTarget : Int) - s.tim.site ∧ t.tim.slew.natAbs ≤ 500000 ∧
      t.on TIME_STATUS_SLEWING = decide (t.tim.slew ≠ 0) ∧ t.tim.site = s.tim.site ∧
      SameRegs [TIME_STATUS, TIME_SERVO] s t ∧ { t with regs := s.regs, tim := s.tim } = s) ∧
  (∀ (req : Nat) (s : State), s.mpUp = true → (s.loading = false ∨ req = 2) → s.setRefused = true →
    ∃ t, exec (.timeSetCmd req) s = .next t ∧
      t.get SYS_VIOL_COUNT_TOTAL = (s.get SYS_VIOL_COUNT_TOTAL + 1) % 65536 ∧ OnlyRegs [SYS_VIOL_COUNT] s t) ∧
  (∀ (n : Int) (s : State), s.tim.step = some n → s.tim.site % 1000000 = 0 →
    s.tim.stepFrom + 1000000 ≤ s.tim.site → 0 ≤ (s.tim.site : Int) + n * 1000000 → Room s portTime →
    ∃ t, exec .timeStepApply s = .next t ∧ (t.tim.site : Int) = s.tim.site + n * 1000000 ∧ t.tim.step = none ∧
      t.tim.aon = shiftNs s.tim.aon (n * 1000000) ∧ t.tim.cp = shiftNs s.tim.cp (n * 1000000) ∧
      t.tim.dp = shiftNs s.tim.dp (n * 1000000) ∧ t.tim.mp = shiftNs s.tim.mp (n * 1000000) ∧
      t.get TIME_STATUS_STEPPED = 1 ∧ t.optime = s.optime ∧ t.tim.mono = s.tim.mono ∧ SameRegs [TIME_STATUS] s t ∧
      Logged portTime 0x9001 (secOf s.tim.site) (secOf t.tim.site) (par (clampI (-2147483647) 2147483647 n)) s t) ∧
  (∀ s : State, (s.tim.step = none ∨ s.tim.site % 1000000 ≠ 0 ∨ s.tim.site < s.tim.stepFrom + 1000000) →
    exec .timeStepApply s = .next s) ∧
  (∀ s : State, s.tim.slew ≠ 0 →
    ∃ t, exec .slewDone s = .next t ∧ t.get TIME_STATUS_SLEWING = 0 ∧ t.tim = { s.tim with slew := 0, trims := t.tim.trims } ∧
      t.get TIME_SERVO_TRIM = ofSigned 16 (clampI (-10000) 10000 s.tim.freq) ∧ SameRegs [TIME_STATUS, TIME_SERVO] s t ∧
      { t with regs := s.regs, tim := s.tim } = s) ∧
  (∀ s : State, s.tim.slew = 0 → exec .slewDone s = .next s) ∧
  (∀ s : State, s.mpUp = true → Room s portTime →
    ∃ t, exec .timeMark s = .next t ∧ t.regs = s.regs ∧ t.tim = s.tim ∧ Logged portTime 0x9002 (secOf s.tim.aon % 2 ^ 32)
      (nsOf s.tim.aon / 1000000 * 2 ^ 16 + secOf s.tim.aon / 2 ^ 32 % 2 ^ 16)
      (s.get TIME_STATUS_STATE * 256 + s.get TIME_STATUS_CLOCK_CLASS) s t)

/-- A MASTER port sends Announce and Sync with its Follow_Up and answers a Delay_Req; a better foreign Announce of its
domain makes it PASSIVE with record 0x9006 and a passive port sends nothing; the timeout makes it MASTER again;
PPS_OUT rises on the second where it is enabled. Where an event does not apply nothing changes (DESIGN CHOICE, log
entry 1). The model's own choices it rests on: log entries 72, 71. From parts of R169 to R171. -/
def Obligations.PtpAndPps : Prop :=
  (∀ (n : Fin 2) (s : State), s.ptpRuns n = true → s.get (TIME_PTP_STATUS_PORT_STATE n) = 6 →
    ∃ t, exec (.ptpAnnounceSend n) s = .next t ∧ t.get (TIME_PTP_STATUS_PORT_STATE n) = 6 ∧
      t.out = .ptp {
        port := n, l2 := s.on (TIME_PTP_CFG_L2 n), domain := s.get (TIME_PTP_CFG_DOMAIN n), msgType := 0xB
        seq := (s.ptpPort n).annSeq, timescale := true, interval := 1
        body := s.get TIME_UTC_OFFSET_S :: s.get TIME_STATUS_TIME_SOURCE :: [s.get (TIME_PTP_CFG_PRIORITY1 n),
          s.get TIME_STATUS_CLOCK_CLASS, (if s.get TIME_STATUS_STATE = 2 then 0x21 else 0xFE), 0xFFFF,
          s.get (TIME_PTP_CFG_PRIORITY2 n), s.clockIdentity] } :: s.out ∧
      SameRegs [TIME_PTP_STATUS n] s t ∧ { t with regs := s.regs, out := s.out, tim := s.tim } = s) ∧
  (∀ (n : Fin 2) (s : State), s.ptpRuns n = true → s.get (TIME_PTP_STATUS_PORT_STATE n) = 6 →
    ∃ t, exec (.ptpSyncSend n) s = .next t ∧
      t.out = .ptp {
        port := n, l2 := s.on (TIME_PTP_CFG_L2 n), domain := s.get (TIME_PTP_CFG_DOMAIN n), msgType := 8
        seq := (s.ptpPort n).syncSeq, body := [secOf s.tim.site, nsOf s.tim.site] } ::
        .ptp {
          port := n, l2 := s.on (TIME_PTP_CFG_L2 n), domain := s.get (TIME_PTP_CFG_DOMAIN n), msgType := 0
          seq := (s.ptpPort n).syncSeq, twoStep := true } :: s.out ∧
      { t with tim := s.tim, out := s.out } = s) ∧
  (∀ (n : Fin 2) (q : BitVec 16) (at_ : Nat) (s : State), s.ptpRuns n = true → s.get (TIME_PTP_STATUS_PORT_STATE n) = 6 →
    ∃ t, exec (.ptpDelayReq n q at_) s = .next t ∧
      t.out = .ptp {
        port := n, l2 := s.on (TIME_PTP_CFG_L2 n), domain := s.get (TIME_PTP_CFG_DOMAIN n), msgType := 9
        seq := q.toNat, body := [secOf at_, nsOf at_] } :: s.out ∧
      t.get (TIME_PTP_STATUS_DELAY_RESP n) = (s.get (TIME_PTP_STATUS_DELAY_RESP n) + 1) % 65536 ∧
      SameRegs [TIME_PTP_STATUS n] s t ∧ { t with regs := s.regs, out := s.out } = s) ∧
  (∀ (n : Fin 2) (d : BitVec 8) (ds : List Nat) (s : State), s.ptpRuns n = true →
    d.toNat = s.get (TIME_PTP_CFG_DOMAIN n) → lexLess ds (s.ptpDataset n) = true →
    s.get (TIME_PTP_STATUS_PORT_STATE n) = 6 → Room s portTime →
    ∃ t, exec (.ptpForeignAnnounce n d ds) s = .next t ∧ t.get (TIME_PTP_STATUS_PORT_STATE n) = 7 ∧
      SameRegs [TIME_PTP_STATUS n] s t ∧ Logged portTime 0x9006 n (ds.getD 1 0) 0 s t) ∧
  (∀ (n : Fin 2) (q : BitVec 16) (at_ : Nat) (s : State), s.get (TIME_PTP_STATUS_PORT_STATE n) = 7 →
    exec (.ptpAnnounceSend n) s = .next s ∧ exec (.ptpSyncSend n) s = .next s ∧ exec (.ptpDelayReq n q at_) s = .next s) ∧
  (∀ (n : Fin 2) (s : State), s.get (TIME_PTP_STATUS_PORT_STATE n) = 7 →
    ∃ t, exec (.ptpAnnounceTimeout n) s = .next t ∧ t.get (TIME_PTP_STATUS_PORT_STATE n) = 6 ∧
      OnlyRegs [TIME_PTP_STATUS n] s t) ∧
  (∀ s : State, s.isLoaded = true → s.on TIME_CFG_PPS_OUT_EN = true → s.tim.lastPps = none →
    ∃ t, exec .ppsOutEdge s = .next t ∧ t.out = .pin "PPS_OUT" true :: s.out ∧
      t.tim = { s.tim with lastPps := some s.tim.mono, ppsHigh := true } ∧ { t with tim := s.tim, out := s.out } = s) ∧
  (∀ (m : Nat) (s : State), s.tim.lastPps = some m → s.tim.mono < m + 500000 → exec .ppsOutEdge s = .next s) ∧
  (∀ s : State, (s.get TIME_CFG_PPS_OUT_EN = 0 ∨ s.isLoaded = false) → exec .ppsOutEdge s = .next s)

/-- On the grid of its period a cycle in RUN begins with SYNC and then polls the present node; a good reply brings the
node's valid values, status and sample and clears its run of failures; the first failure of a poll is retried at
once and the third cycle that fails makes the node MISSING with record 0x7001; a reply outside 0.5 to 3 µs is
discarded and counted; a new ALARM is acknowledged, counted and recorded once as 0x7003. Where an event does not
apply nothing changes (DESIGN CHOICE, log entry 1). The model's own choices it rests on: log entries 75, 79, 163.
From parts of R174, R175, R183 to R186, R189, R196. -/
def Obligations.SprinCycle : Prop :=
  (∀ (p : Fin 24) (ma : Nat) (s : State), s.pst p = 4 → s.dpUp = true →
    s.tim.dp % (s.get (SPRIN_CFG_PERIOD_MS p) * 1000000) = 0 → (s.port p).wait = .idle → (s.port p).polls = [] →
    (s.port p).nodes = [] → (s.port p).running = false →
    (s.port p).identify = none → (s.port p).search = none → s.on (SPRIN_NCMD_BUSY p) = false →
    s.get (SPRIN_CFG_ENUM_SCAN p) = 0 → s.get (SPRIN_CFG_ALARM_CALLS p) = 0 →
    ∃ t, exec (.sprinCycleStart p ma) s = .next t ∧ t.get (SPRIN_CYCLE_STATUS_CYCLE p) = ((s.port p).cycle + 1) % 65536 ∧
      t.get (SPRIN_PWR_STATUS_CURRENT_MA p) = min ma 1023 ∧
      t.out = .sprin p (sprinLine (sprinFrame 1 0xFF (leBytes 6 (secOf (s.tim.dp + 25760)) ++ leBytes 4 (nsOf (s.tim.dp + 25760)) ++
        [BitVec.ofNat 8 s.tim.tepoch, if s.get TIME_STATUS_STATE = 2 then 1 else 0]))) :: s.out ∧
      SameRegs [SPRIN_CYCLE_STATUS p, SPRIN_PWR_STATUS p] s t ∧ t.log = s.log) ∧
  (∀ (p : Fin 24) (a : Fin 255) (ma : Nat) (n : SprinNode) (s : State), s.pst p = 4 → s.dpUp = true →
    s.tim.dp % (s.get (SPRIN_CFG_PERIOD_MS p) * 1000000) = 0 → (s.port p).wait = .idle → (s.port p).polls = [] →
    (s.port p).nodes = [(a.val, n)] → s.smap.nodes = [] → n.state = 1 → n.pending = false → (s.port p).running = false → (s.port p).deferred = [] →
    (s.port p).identify = none → (s.port p).search = none → s.on (SPRIN_NCMD_BUSY p) = false →
    s.get (SPRIN_CFG_ENUM_SCAN p) = 0 → s.get (SPRIN_CFG_ALARM_CALLS p) = 0 → s.get (SPRIN_CFG_PERIOD_MS p) ≠ 0 →
    ∃ t, exec (.sprinCycleStart p ma) s = .next t ∧ (t.port p).wait = .poll a false false ∧
      t.out.head? = some (.sprin p (sprinLine (sprinFrame 2 a [0]))) ∧ SameRegs [SPRIN_CYCLE_STATUS p, SPRIN_PWR_STATUS p] s t) ∧
  (∀ (p : Fin 24) (ma : Nat) (s : State), ((s.pst p ≠ 3 ∧ s.pst p ≠ 4) ∨ s.dpUp = false ∨
    s.tim.dp % (s.get (SPRIN_CFG_PERIOD_MS p) * 1000000) ≠ 0) → exec (.sprinCycleStart p ma) s = .next s) ∧
  (∀ (p : Fin 24) (a : Fin 255) (rtt us : Nat) (st : Byte) (vals frame : List Byte) (line last : List Bool) (s : State), s.dpUp = true → s.pst p ≠ 8 →
    (s.port p).wait = .poll a false false → (s.port p).running = false → ((s.port p).node a).state = 1 → s.smap.pubs = [] →
    500 ≤ rtt → rtt ≤ 3000 → s.tim.tepoch < 256 → st.toNat.testBit 6 = true → vals.length = 8 →
    frame = [0x81, BitVec.ofNat 8 a.val, 14] ++ [st, BitVec.ofNat 8 s.tim.tepoch] ++ vals ++ leBytes 4 us →
    us < 2 ^ 32 → sampleTime us ((s.port p).start + (s.port p).busy + rtt) ≠ none →
    line ++ last = sprinLine ([0x55, 0x55, 0xD5] ++ frame ++ leBytes 2 (crc16 frame)) →
    ∃ t, exec (.sprinReply p rtt line last) s = .next t ∧
      (t.port p).wait = .idle ∧ (t.port p).ends = { item := a, status := 0, reason := 0 } :: (s.port p).ends ∧
      (t.port p).node a = { (s.port p).node a with
        status := st.toNat, run := 0, sample := BitVec.ofNat 32 us, pending := st.toNat.testBit 7
        v01 := keepHalf ((s.port p).node a).v01 (ofLe (slice 0 2 vals)) (ofLe (slice 2 2 vals)) (st.toNat.testBit 0)
          (st.toNat.testBit 1)
        v23 := keepHalf ((s.port p).node a).v23 (ofLe (slice 4 2 vals)) (ofLe (slice 6 2 vals)) (st.toNat.testBit 2)
          (st.toNat.testBit 3) } ∧
      SameRegs [SPRIN_STATUS p] s t ∧ t.log = s.log) ∧
  (∀ (p : Fin 24) (rtt : Nat) (line last : List Bool) (s : State), s.dpUp = true → s.pst p ≠ 8 → (rtt < 500 ∨ 3000 < rtt) →
    ∃ t, exec (.sprinReply p rtt line last) s = .next t ∧
      t.get (SPRIN_ERR_OTHER p) = (s.get (SPRIN_ERR_OTHER p) + 1) % 256 ∧ OnlyRegs [SPRIN_ERR p] s t) ∧
  (∀ (p : Fin 24) (rtt : Nat) (line last : List Bool) (s : State), (s.dpUp = false ∨ s.pst p = 8) →
    exec (.sprinReply p rtt line last) s = .next s ∧ exec (.sprinAlarmFrame p rtt line last) s = .next s) ∧
  (∀ (p : Fin 24) (a : Fin 255) (s : State), s.dpUp = true → s.pst p = 4 → (s.port p).wait = .poll a false false →
    s.busFits p 45000 (s.port p).calls = true →
    ∃ t, exec (.sprinReplyTimeout p) s = .next t ∧ (t.port p).wait = .poll a true false ∧
      t.get (SPRIN_ERR_TIMEOUT p) = (s.get (SPRIN_ERR_TIMEOUT p) + 1) % 256 ∧ (t.port p).nodes = (s.port p).nodes ∧
      t.out = .sprin p (sprinLine (sprinFrame 2 a [0])) :: s.out ∧ SameRegs [SPRIN_ERR p] s t ∧ t.log = s.log) ∧
  (∀ (p : Fin 24) (a : Fin 255) (s : State), s.dpUp = true → (s.port p).wait = .poll a true false → ((s.port p).node a).state = 1 →
    ((s.port p).node a).run = 2 → (s.port p).running = false → s.smap.pubs = [] → Room s portSprin →
    ∃ t, exec (.sprinReplyTimeout p) s = .next t ∧ ((t.port p).node a).state = 2 ∧ ((t.port p).node a).run = 3 ∧
      ((t.port p).node a).fails = min (((s.port p).node a).fails + 1) 65535 ∧
      (t.port p).ends = { item := a, status := 1, reason := 1 } :: (s.port p).ends ∧
      SameRegs [SPRIN_ERR p, SPRIN_STATUS p] s t ∧ Logged portSprin 0x7001 p a 1 s t) ∧
  (∀ (p : Fin 24) (s : State), (s.dpUp = false ∨ (s.port p).wait = .idle) → exec (.sprinReplyTimeout p) s = .next s) ∧
  (∀ (p : Fin 24) (a : Fin 255) (rtt v : Nat) (code seq : Byte) (frame : List Byte) (line last : List Bool) (s : State), s.dpUp = true → s.pst p ≠ 8 →
    (s.port p).wait = .call → (s.port p).running = false → ((s.port p).node a).alarmed = false → 500 ≤ rtt → rtt ≤ 3000 →
    v < 65536 → frame = [0x82, BitVec.ofNat 8 a.val, 4, code, seq] ++ leBytes 2 v →
    line ++ last = sprinLine ([0x55, 0x55, 0xD5] ++ frame ++ leBytes 2 (crc16 frame)) → Room s portSprin →
    ∃ t, exec (.sprinAlarmFrame p rtt line last) s = .next t ∧
      (t.port p).node a = { (s.port p).node a with
        pending := false, alarmCode := code.toNat, alarmSeq := seq.toNat, alarmValue := v, alarmed := true } ∧
      t.get (SPRIN_STATUS_ALARM p) = 1 ∧ t.get (SPRIN_STATS_ALARMS p) = (s.get (SPRIN_STATS_ALARMS p) + 1) % 65536 ∧
      t.out = .sprin p (sprinLine (sprinFrame 3 a [0x0A, seq])) :: s.out ∧ SameRegs [SPRIN_STATUS p, SPRIN_STATS p] s t ∧
      Logged portSprin 0x7003 p a (code.toNat * 65536 + v) s t)

/-- The search narrows its prefix bit by bit, a hit with the bit 0 and a silence with the bit 1, and sends the next
QUERY; a silence at the root ends it, in ENUM with record 0x7004 and the port in RUN. BOOT_MS ends in ENUM with a
new search; ACTION 1 begins one again; a node IDENTIFY and a host command are queued; each minute's counts are
reported. Where an event does not apply nothing changes (DESIGN CHOICE, log entry 1). The model's own choices it
rests on: log entries 74, 75, 81, 159, 161. From parts of R190, R195. -/
def Obligations.SprinEnumeration : Prop :=
  (∀ (p : Fin 24) (n pfx : Nat) (hit : Bool) (q : Search) (s : State), s.dpUp = true → (s.port p).wait = .query n pfx → 1 ≤ n → n < 64 →
    (s.port p).search = some q → (s.port p).running = true → (s.port p).identify = none → (s.port p).hostTurn = false →
    (s.port p).searchTurn = true → s.pst p = 3 →
    (s.port p).polls = [] → (s.port p).calls = 0 → (s.port p).free + 2560 + 30760 < (s.port p).limit →
    ∃ t, exec (.sprinEnumPresence p hit) s = .next t ∧
      (t.port p).wait = .query (n + 1) (if hit then pfx else pfx ||| 2 ^ (64 - n)) ∧
      (t.port p).search = some { q with todo := .bit (n + 1) (if hit then pfx else pfx ||| 2 ^ (64 - n)) } ∧
      t.out = .sprin p (sprinLine (sprinFrame 4 0xFF ([2, BitVec.ofNat 8 (n + 1)] ++
        leBytes 8 (if hit then pfx else pfx ||| 2 ^ (64 - n))))) :: s.out ∧ t.regs = s.regs) ∧
  (∀ (p : Fin 24) (pfx : Nat) (q : Search) (s : State), s.dpUp = true → (s.port p).wait = .query 0 pfx → (s.port p).search = some q →
    (s.port p).running = false → s.pst p = 3 → Room s portSprin →
    ∃ t, exec (.sprinEnumPresence p false) s = .next t ∧ t.pst p = 4 ∧ (t.port p).search = none ∧
      (t.port p).nodes = (s.port p).nodes ∧ SameRegs [SPRIN_STATUS p] s t ∧
      Logged portSprin 0x7004 p (s.presentOf p) ((s.tim.mono - q.began) / 1000) s t) ∧
  (∀ (p : Fin 24) (hit : Bool) (s : State), s.dpUp = true → (s.port p).wait = .scan → (s.port p).running = false →
    ∃ t, exec (.sprinEnumPresence p hit) s = .next t ∧ (t.port p).wait = .idle ∧ t.regs = s.regs ∧
      (t.port p).search = (if hit then some { began := s.tim.mono } else (s.port p).search)) ∧
  (∀ (p : Fin 24) (s : State), s.dpUp = true → s.pst p = 2 → (s.port p).cycling = false →
    ∃ t, exec (.sprinBootDone p) s = .next t ∧ t.pst p = 3 ∧ (t.port p).search = some { began := s.tim.mono } ∧
      SameRegs [SPRIN_STATUS p] s t ∧ { t with regs := s.regs, sprin := s.sprin } = s) ∧
  (∀ (p : Fin 24) (s : State), (s.dpUp = false ∨ s.pst p ≠ 2) → exec (.sprinBootDone p) s = .next s) ∧
  (∀ (req : Nat) (p : Fin 24) (w : BusWait) (s : State), Writes s req (SPRIN_CMD p) 0x5E710100 →
    (s.pst p = 3 ∨ s.pst p = 4) → (s.port p).running = false → (s.port p).wait = w → (w = .idle ∨ w = .call) →
    ∃ t, exec (.sprinReenumerate req p) s = .next t ∧ t.pst p = 3 ∧ (t.port p).search = some { began := s.tim.mono } ∧
      (t.port p).polls = [] ∧ (t.port p).wait = w ∧ (t.port p).nodes = (s.port p).nodes ∧
      SameRegs [SPRIN_STATUS p] s t) ∧
  (∀ (req : Nat) (p : Fin 24) (a : BitVec 8) (s : State), Writes s req (SPRIN_CMD p) (0x5E710300 ||| a.setWidth 32) →
    s.supplyOn p = true →
    ∃ t, exec (.sprinIdentify req p a) s = .next t ∧ t.port p = { s.port p with identify := some a.toNat } ∧
      t.regs = s.regs ∧ { t with sprin := s.sprin } = s) ∧
  (∀ (req : Nat) (p : Fin 24) (v : Word) (s : State), Writes s req (SPRIN_NCMD p) (0x80000000 ||| v) → s.supplyOn p = true →
    ∃ t, exec (.sprinNcmdGo req p v) s = .next t ∧ t.get (SPRIN_NCMD_BUSY p) = 1 ∧
      t.get (SPRIN_NCMD_ADDR p) = bits v 7 0 ∧ t.get (SPRIN_NCMD_CODE p) = bits v 15 8 ∧ OnlyRegs [SPRIN_NCMD p] s t) ∧
  (∀ (req : Nat) (p : Fin 24) (v : Word) (s : State), Writes s req (SPRIN_NCMD p) (0x80000000 ||| v) → s.supplyOn p = false →
    ∃ t, exec (.sprinNcmdGo req p v) s = .next t ∧ t.get (SPRIN_NCMD_BUSY p) = 0 ∧
      t.get (SPRIN_NRESULT_ITEM_STATUS p) = 1 ∧ t.get (SPRIN_NRESULT_REASON p) = 7 ∧
      OnlyRegs [SPRIN_NCMD p, SPRIN_NRESULT p] s t) ∧
  (∀ (p : Fin 24) (s : State), s.dpUp = true → (s.port p).mDeferred = 0 → (s.port p).mErrors + (s.port p).mTimeouts ≠ 0 → Room s portSprin →
    ∃ t, exec (.sprinMinuteReport p) s = .next t ∧ t.port p = { s.port p with
        mDeferred := 0, mErrors := 0, mTimeouts := 0, mOther := 0 } ∧ t.regs = s.regs ∧
      Logged portSprin 0x700C p (s.port p).mErrors (s.port p).mTimeouts s t) ∧
  (∀ (p : Fin 24) (s : State), s.dpUp = true → (s.port p).mDeferred ≠ 0 → (s.port p).mErrors + (s.port p).mTimeouts + (s.port p).mOther = 0 →
    Room s portSprin →
    ∃ t, exec (.sprinMinuteReport p) s = .next t ∧ (t.port p).mDeferred = 0 ∧ t.regs = s.regs ∧
      Logged portSprin 0x700A p (s.port p).mDeferred 0 s t)

/-- 10 ms in current limit trip a powered port with record 0x7006, and RETRY_S brings it back to POWERING, NO_VCAB
without that rail, or OFF where it is disabled; a stuck line ends in the loopback test from STUCK with record
0x7007, a second time within 60 s in FAULTED with record 0x7008; ACTION 2 takes the supply and every address for 1
s. Each ends a host command as FAILED. Where an event does not apply nothing changes (DESIGN CHOICE, log entry 1).
The model's own choices it rests on: log entries 80, 73, 81. From parts of R194, R195, R450. -/
def Obligations.SprinSupply : Prop :=
  (∀ (p : Fin 24) (ma : Nat) (s : State), s.dpUp = true → s.supplyOn p = true → (s.port p).running = false →
    (s.port p).wait = .idle → (s.port p).polls = [] → s.on (SPRIN_NCMD_BUSY p) = true → Room s portSprin →
    ∃ t, exec (.sprinSupplyTrip p ma) s = .next t ∧ t.pst p = 5 ∧ t.get (SPRIN_STATUS_TRIP p) = 1 ∧
      t.get (SPRIN_PWR_STATUS_TRIP_COUNT p) = min (s.get (SPRIN_PWR_STATUS_TRIP_COUNT p) + 1) 65535 ∧
      t.get (SPRIN_PWR_STATUS_CURRENT_MA p) = 0 ∧ t.get (SPRIN_NCMD_BUSY p) = 0 ∧
      t.get (SPRIN_NRESULT_ITEM_STATUS p) = 1 ∧ t.get (SPRIN_NRESULT_REASON p) = 7 ∧
      (∀ e ∈ (t.port p).nodes, e.2.assigned = false) ∧
      SameRegs [SPRIN_STATUS p, SPRIN_PWR_STATUS p, SPRIN_NCMD p, SPRIN_NRESULT p] s t ∧
      Logged portSprin 0x7006 p (min (s.get (SPRIN_PWR_STATUS_TRIP_COUNT p) + 1) 65535) ma s t) ∧
  (∀ (p : Fin 24) (ma : Nat) (s : State), (s.dpUp = false ∨ s.supplyOn p = false) → exec (.sprinSupplyTrip p ma) s = .next s) ∧
  (∀ (p : Fin 24) (s : State), s.dpUp = true → s.pst p = 5 →
    ∃ t, exec (.sprinSupplyRetry p) s = .next t ∧ t.pst p = (if s.on (SPRIN_CFG_ENABLE p) then if s.on PWR_STATUS_VCAB_OK then 2 else 1 else 0) ∧
      OnlyRegs [SPRIN_STATUS p] s t) ∧
  (∀ (p : Fin 24) (s : State), s.dpUp = true → s.pst p = 6 →
    ∃ t, exec (.sprinStuckEnd p) s = .next t ∧ t.pst p = (if s.on (SPRIN_CFG_ENABLE p) then if s.on PWR_STATUS_VCAB_OK then 2 else 1 else 0) ∧
      OnlyRegs [SPRIN_STATUS p] s t) ∧
  (∀ (p : Fin 24) (s : State), (s.dpUp = false ∨ s.pst p ≠ 6) → exec (.sprinStuckEnd p) s = .next s) ∧
  (∀ (p : Fin 24) (s : State), s.dpUp = true → s.pst p = 4 → (s.port p).running = false → (s.port p).stuckAt = none →
    (s.port p).wait = .idle → (s.port p).polls = [] →
    s.on (SPRIN_NCMD_BUSY p) = false → s.rel.tests = [] → s.relBusy (.sprin p) = false →
    s.recentTransients (.sprin p) < s.get REL_CFG_REPEAT_N → Room s portSprin →
    ∃ t, exec (.sprinStuck p) s = .next t ∧ t.pst p = 8 ∧ (t.port p).prev = 6 ∧ (t.port p).stuckAt = some s.optime ∧
      (∀ e ∈ (t.port p).nodes, e.2.assigned = false) ∧ Logged portSprin 0x7007 p 0 0 s t) ∧
  (∀ (p : Fin 24) (at_ : Nat) (s : State), s.dpUp = true → s.pst p = 4 → (s.port p).running = false → (s.port p).stuckAt = some at_ →
    (s.port p).wait = .idle → (s.port p).polls = [] →
    s.optime ≤ at_ + 61440 → s.on (SPRIN_NCMD_BUSY p) = false → s.mpUp = true → (s.log.fifo portSprin).length < 15 →
    ∃ t, exec (.sprinStuck p) s = .next t ∧ t.pst p = 7 ∧ SameRegs [SPRIN_STATUS p, SPRIN_PWR_STATUS p] s t ∧
      Newest portSprin 0x7008 p 0 0 t) ∧
  (∀ (p : Fin 24) (s : State), (s.dpUp = false ∨ s.pst p ≠ 3 ∧ s.pst p ≠ 4) → exec (.sprinStuck p) s = .next s) ∧
  (∀ (req : Nat) (p : Fin 24) (s : State), Writes s req (SPRIN_CMD p) 0x5E710200 → s.supplyOn p = true →
    (s.port p).running = false → (s.port p).wait = .idle → (s.port p).polls = [] → s.on (SPRIN_NCMD_BUSY p) = false →
    ∃ t, exec (.sprinPowerCycle req p) s = .next t ∧ t.pst p = 2 ∧ (t.port p).cycling = true ∧ t.supplyOn p = false ∧
      (∀ e ∈ (t.port p).nodes, e.2.assigned = false) ∧ SameRegs [SPRIN_STATUS p, SPRIN_PWR_STATUS p] s t) ∧
  (∀ (p : Fin 24) (s : State), s.dpUp = true → (s.port p).cycling = true →
    ∃ t, exec (.sprinPowerCycleEnd p) s = .next t ∧ t.pst p = (if s.on (SPRIN_CFG_ENABLE p) then if s.on PWR_STATUS_VCAB_OK then 2 else 1 else 0) ∧
      t.port p = { s.port p with cycling := false } ∧ SameRegs [SPRIN_STATUS p] s t) ∧
  (∀ (p : Fin 24) (s : State), (s.dpUp = false ∨ (s.port p).cycling = false) → exec (.sprinPowerCycleEnd p) s = .next s)

/-- A sample of a VOLT input gives FIELD_VALUE = SCALE × q + OFFSET rounded once, the raw code, the stamp of the window
end, a whole number of output periods after the input's delay, and its valid estimate entry, and goes to the anchors
that read it; a CURR input below 0.5 mA becomes BROKEN with NaN and record 0x7010; while it settles it writes no
entry; 30 mA for 10 ms open the shunt with record 0x7012, and 1 s later it closes and the input settles. An input
that is off, fenced or under test does nothing, and at any other moment no window ends. Where an event does not
apply nothing changes (DESIGN CHOICE, log entry 1). The model's own choices it rests on: log entries 86, 84. From
parts of R200, R201, R203 to R206. -/
def Obligations.FieldInputs : Prop :=
  (∀ (i : Fin 32) (raw : BitVec 24) (y : List F32) (at_ n : Nat) (p : Pub) (s : State), s.dpUp = true → windowEnds i (s.get (FIELD_CFG_RATE i)) at_ = true →
    s.get (FIELD_CFG_MODE i) = 1 → s.on (FIELD_STATUS_FENCED i) = false → s.on (FIELD_STATUS_TESTING i) = false → s.on (FIELD_STATUS_BROKEN i) = false →
    (s.fin i).settle = 0 → raw.toInt.natAbs * 1024 ≤ 1020 * 2 ^ 23 → s.fieldPubs i false = [p] → s.fieldPubs i true = [] →
    p.entry = n →
    ∃ t, exec (.fieldSample i raw y at_) s = .next t ∧
      t.reg (FIELD_VALUE i) = ffma (s.reg (FIELD_SCALE i)) (fofRat (raw.toInt * 1024) (2 ^ 23 * 100)) (s.reg (FIELD_OFFSET i)) ∧
      t.reg (FIELD_RAW i) = raw.signExtend 32 ∧ t.reg (FIELD_STAMP i) = BitVec.ofNat 32 (at_ / 1000) ∧
      t.get (FIELD_STATUS_SAMPLES i) = (s.get (FIELD_STATUS_SAMPLES i) + 1) % 65536 ∧
      t.get (FIELD_STATUS_OVERRANGE i) = 0 ∧ t.estBack n 0 = t.reg (FIELD_VALUE i) ∧ t.estBack n 2 = tickOf at_ ∧
      (t.estBack n 3).getLsbD 31 = true ∧
      (t.mill.inbox.drop s.mill.inbox.length).map (fun x => (x.anchor, x.value, x.stamp)) =
        (s.smap.anchors.zipIdx.filter (fun a => a.1.source = fieldSource i false)).map (fun a => (a.2, t.reg (FIELD_VALUE i), at_)) ++
        (s.smap.anchors.zipIdx.filter (fun a => a.1.source = fieldSource i true)).map (fun a => (a.2, t.reg (FIELD_AUX i), at_)) ∧
      SameRegs [FIELD_STATUS i, FIELD_RAW i, FIELD_VALUE i, FIELD_AUX i, FIELD_STAMP i] s t ∧ t.log = s.log) ∧
  (∀ (i : Fin 32) (raw : BitVec 24) (y : List F32) (at_ : Nat) (s : State), s.dpUp = true → windowEnds i (s.get (FIELD_CFG_RATE i)) at_ = true →
    s.get (FIELD_CFG_MODE i) = 1 → s.on (FIELD_STATUS_FENCED i) = false → s.on (FIELD_STATUS_TESTING i) = false → s.on (FIELD_STATUS_BROKEN i) = false →
    2 ≤ (s.fin i).settle →
    ∃ t, exec (.fieldSample i raw y at_) s = .next t ∧ t.get (FIELD_STATUS_SETTLING i) = 1 ∧
      (t.fin i).settle = (s.fin i).settle - 1 ∧ t.est = s.est ∧ t.mill = s.mill ∧
      SameRegs [FIELD_STATUS i, FIELD_RAW i, FIELD_VALUE i, FIELD_AUX i, FIELD_STAMP i] s t) ∧
  (∀ (i : Fin 32) (raw : BitVec 24) (y : List F32) (at_ : Nat) (s : State), s.dpUp = true → windowEnds i (s.get (FIELD_CFG_RATE i)) at_ = true →
    s.get (FIELD_CFG_MODE i) = 2 → s.on (FIELD_STATUS_FENCED i) = false → s.on (FIELD_STATUS_TESTING i) = false → s.on (FIELD_STATUS_BROKEN i) = false →
    (s.fin i).settle ≠ 0 → raw.toInt * 256 < 5 * 2 ^ 23 → Room s portField →
    ∃ t, exec (.fieldSample i raw y at_) s = .next t ∧ t.get (FIELD_STATUS_BROKEN i) = 1 ∧
      t.get (FIELD_STATUS_BROKEN_SEEN i) = 1 ∧ t.reg (FIELD_VALUE i) = 0x7FC00000 ∧ t.est = s.est ∧
      SameRegs [FIELD_STATUS i, FIELD_RAW i, FIELD_VALUE i, FIELD_AUX i, FIELD_STAMP i] s t ∧
      Logged portField 0x7010 i 2 (raw.signExtend 32).toNat s t) ∧
  (∀ (i : Fin 32) (raw : BitVec 24) (y : List F32) (at_ : Nat) (s : State), (s.dpUp = false ∨ s.get (FIELD_CFG_MODE i) = 0 ∨
    windowEnds i (s.get (FIELD_CFG_RATE i)) at_ = false ∨
    s.on (FIELD_STATUS_FENCED i) = true ∨ s.on (FIELD_STATUS_TESTING i) = true) →
    exec (.fieldSample i raw y at_) s = .next s) ∧
  (∀ (i : Fin 32) (s : State), s.dpUp = true → s.get (FIELD_CFG_MODE i) = 2 → (s.fin i).shuntOpen = false → Room s portField →
    ∃ t, exec (.shuntOverload i) s = .next t ∧ t.fin i = { s.fin i with shuntOpen := true } ∧
      t.get (FIELD_STATUS_OVERLOAD i) = 1 ∧ SameRegs [FIELD_STATUS i] s t ∧ Logged portField 0x7012 i 0 0 s t) ∧
  (∀ (i : Fin 32) (s : State), (s.dpUp = false ∨ s.get (FIELD_CFG_MODE i) ≠ 2) → exec (.shuntOverload i) s = .next s) ∧
  (∀ (i : Fin 32) (s : State), s.dpUp = true → (s.fin i).shuntOpen = true →
    ∃ t, exec (.shuntReclose i) s = .next t ∧ t.fin i = { s.fin i with
        shuntOpen := false
        settle := if s.get (FIELD_CFG_MODE i) = 0 ∨ s.on (FIELD_STATUS_FENCED i) = true then 0 else 3 } ∧
      t.get (FIELD_STATUS_SETTLING i) =
        (if s.get (FIELD_CFG_MODE i) = 0 ∨ s.on (FIELD_STATUS_FENCED i) = true then 0 else 1) ∧ SameRegs [FIELD_STATUS i] s t ∧ t.log = s.log)

/-- The monitor writes the read-back, NaN while it is fenced or under test; a condition that lasted 10 ms enters a fault
with record 0x7020, counted, and 100 ms without one, and none since, clear it with record 0x7021. A pulse level
shorter than the filter is a glitch; a longer one is the accepted level, a change to which that is of the selected
polarity is stamped and counted, and no other; no edge within TIMEOUT stops the input with RATE 0; a minute with
OVERRATE leaves record 0x7030. Where an event does not apply nothing changes (DESIGN CHOICE, log entry 1). The
model's own choices it rests on: log entry 145. From parts of R213 to R215. -/
def Obligations.AnalogAndPulse : Prop :=
  (∀ (n : Fin 8) (v : F32) (s : State), ∃ t, exec (.aoMonitorSample n v) s = .next t ∧
    t.reg (AIO_AO_READBACK n) = (if s.aoBlind n then 0x7FC00000 else v) ∧ SameRegs [AIO_AO_READBACK n] s t ∧
    { t with regs := s.regs, aoSeen := s.aoSeen } = s) ∧
  (∀ (n : Fin 8) (s : State), s.aoCondition n = 1 → s.aoFaulted n = false → s.aoBlind n = false → s.rel.tests = [] →
    s.relBusy (.aoMon n) = false → s.recentTransients (.aoMon n) < s.get REL_CFG_REPEAT_N → Room s portAio →
    ∃ t, exec (.aoFaultEnter n) s = .next t ∧ t.get (AIO_AO_STATUS_DEVIATION n) = 1 ∧
      t.get (AIO_AO_STATUS_FAULT_SEEN n) = 1 ∧
      t.get (AIO_AO_STATUS_FAULT_COUNT n) = min (s.get (AIO_AO_STATUS_FAULT_COUNT n) + 1) 65535 ∧
      t.reg (AIO_AO_CODE n) = s.reg (AIO_AO_CODE n) ∧ t.testing (.aoMon n) = true ∧
      Logged portAio 0x7020 n 1 (s.reg (AIO_AO_READBACK n)).toNat s t) ∧
  (∀ (n : Fin 8) (s : State), s.aoCondition n = 0 → s.aoFaulted n = false → exec (.aoFaultEnter n) s = .next s) ∧
  (∀ (n : Fin 8) (s : State), s.aoFaulted n = true → s.aoCondition n = 0 → Room s portAio →
    ∃ t, exec (.aoFaultClear n) s = .next t ∧ t.aoFaulted n = false ∧ SameRegs [AIO_AO_STATUS n] s t ∧
      Logged portAio 0x7021 n 0 0 s t) ∧
  (∀ (n : Fin 8) (s : State), (s.aoFaulted n = false ∨ s.aoCondition n ≠ 0) → exec (.aoFaultClear n) s = .next s) ∧
  (∀ (n : Fin 4) (up : Bool) (d at_ : Nat) (s : State), s.on (AIO_PI_CFG_ENABLE n) = true → s.cpUp = true → s.isLoaded = true →
    (s.pin n).level ≠ some up → d < 20 * s.get (AIO_PI_CFG_FILTER n) →
    ∃ t, exec (.pulseEdge n up d at_) s = .next t ∧
      t.get (AIO_PI_STATUS_GLITCHES n) = (s.get (AIO_PI_STATUS_GLITCHES n) + 1) % 65536 ∧
      t.pin n = { s.pin n with level := some (!up) } ∧ (∀ m, m ≠ n.val → t.pin m = s.pin m) ∧ SameRegs [AIO_PI_STATUS n] s t ∧
      { t with regs := s.regs, pulse := s.pulse } = s) ∧
  (∀ (n : Fin 4) (up : Bool) (d at_ l : Nat) (s : State), s.on (AIO_PI_CFG_ENABLE n) = true → s.cpUp = true → s.isLoaded = true →
    (s.pin n).level ≠ some up →
    20 * s.get (AIO_PI_CFG_FILTER n) ≤ d → s.on (AIO_PI_CFG_FALLING n) = !up → (s.pin n).last = some l → l + 10000 ≤ at_ / 5 * 5 →
    ∃ t, exec (.pulseEdge n up d at_) s = .next t ∧ (t.reg (AIO_PI_COUNT n)) = s.reg (AIO_PI_COUNT n) + 1 ∧
      t.reg (AIO_PI_LAST_EDGE n) = BitVec.ofNat 32 (at_ / 5 * 5 / 1000) ∧ t.get (AIO_PI_STATUS_STOPPED n) = 0 ∧
      t.pin n = { s.pin n with edges := at_ / 5 * 5 :: (s.pin n).edges, last := some (at_ / 5 * 5), interval := some (at_ / 5 * 5 - l), level := some up } ∧
      SameRegs [AIO_PI_COUNT n, AIO_PI_LAST_EDGE n, AIO_PI_STATUS n] s t ∧ t.log = s.log) ∧
  (∀ (n : Fin 4) (up : Bool) (d at_ : Nat) (s : State), s.on (AIO_PI_CFG_ENABLE n) = true → s.cpUp = true → s.isLoaded = true →
    (s.pin n).level ≠ some up → 20 * s.get (AIO_PI_CFG_FILTER n) ≤ d → s.on (AIO_PI_CFG_FALLING n) = up →
    exec (.pulseEdge n up d at_) s = .next (s.setPin n { s.pin n with level := some up })) ∧
  (∀ (n : Fin 4) (up : Bool) (d at_ : Nat) (s : State), ((s.pin n).level = some up ∨ s.on (AIO_PI_CFG_ENABLE n) = false) →
    exec (.pulseEdge n up d at_) s = .next s) ∧
  (∀ (n : Fin 4) (s : State), s.on (AIO_PI_CFG_ENABLE n) = true →
    (s.pin n).last.all (fun l => decide (s.get (AIO_PI_CFG_TIMEOUT n) * 100000000 < s.tim.cp - l)) = true →
    ∃ t, exec (.pulseTimeout n) s = .next t ∧ t.reg (AIO_PI_RATE n) = 0 ∧ t.get (AIO_PI_STATUS_STOPPED n) = 1 ∧
      OnlyRegs [AIO_PI_RATE n, AIO_PI_STATUS n] s t) ∧
  (∀ (n : Fin 4) (l : Nat) (s : State), (s.pin n).last = some l → s.tim.cp - l ≤ s.get (AIO_PI_CFG_TIMEOUT n) * 100000000 →
    exec (.pulseTimeout n) s = .next s) ∧
  (∀ (n : Fin 4) (s : State), (s.pin n).overMinute = true → Room s portAio →
    ∃ t, exec (.pulseMinuteReport n) s = .next t ∧ t.pin n = { s.pin n with overMinute := false } ∧ t.regs = s.regs ∧
      Logged portAio 0x7030 n (s.get (AIO_PI_STATUS_GLITCHES n)) 0 s t) ∧
  (∀ (n : Fin 4) (s : State), (s.pin n).overMinute = false → exec (.pulseMinuteReport n) s = .next s)

/-- A good sample of a die sensor shows the higher of its two elements and is published; a sensor without a good element
reads 0x7FFF with BROKEN, counted, and record 0x2003, and its entry is invalid; the third sample running of one
member at or above WARN enters it with record 0x2001; when the dwell has passed the zone leaves the threshold, WARN
or CUT, whatever others hold, with record 0x2002; a WARN stays while its CUT is entered. Where an event does not
apply nothing changes (DESIGN CHOICE, log entry 1). The model's own choices it rests on: log entry 122. From parts
of R390 to R396. -/
def Obligations.GuardSampling : Prop :=
  (∀ (n : Fin 22) (a b : Word) (s : State), 16 ≤ n.val → s.aonUp = true → s.guardBroken n = false → s.guard.halted = false →
    s.on (GUARD_READING_HALF n) = false → -32768 ≤ a.toInt → b.toInt ≤ a.toInt → a.toInt ≤ 32766 →
    (∀ z, z < 8 → ∀ c, s.zoneAt z c = false ∧ a.toInt < s.zoneThr z c) → s.pwr.cutP0 = false → s.pwr.cutP1 = false →
    ∃ t, exec (.guardSample n a true b true) s = .next t ∧ t.get (GUARD_READING_TEMP n) = a.toNat % 65536 ∧
      t.get (GUARD_READING_BROKEN n) = 0 ∧ t.estBack (992 + n) 0 = fofRat a.toInt 16 ∧
      (t.estBack (992 + n) 3).getLsbD 31 = true ∧ (∀ z, z < 8 → ∀ c, t.zoneAt z c = false) ∧ t.log = s.log ∧
      t.valve = s.valve ∧ t.fans = s.fans) ∧
  (∀ (n : Fin 22) (a b : Word) (s : State), s.aonUp = true → s.guardBroken n = false → s.zonesOf n = [] →
    s.guard.halted = false → (∀ x, x < 4 → s.zonesHolding x = []) → s.pwr.cutP0 = false → s.pwr.cutP1 = false → Room s portAon →
    ∃ t, exec (.guardSample n a false b false) s = .next t ∧ t.get (GUARD_READING_TEMP n) = 0x7FFF ∧
      t.get (GUARD_READING_BROKEN n) = 1 ∧ (t.get GUARD_BROKEN_BROKEN).testBit n = true ∧
      t.get (GUARD_SENS_STATUS_BROKEN_COUNT n) = min (s.get (GUARD_SENS_STATUS_BROKEN_COUNT n) + 1) 255 ∧
      t.estBack (992 + n) 0 = 0x7FC00000 ∧ (t.estBack (992 + n) 3).getLsbD 31 = false ∧
      Logged portAon 0x2003 n 1 0x7FFF s t) ∧
  (∀ (n : Fin 22) (a b : Word) (o p : Bool) (s : State), s.aonUp = false → s.guard.halted = false →
    exec (.guardSample n a o b p) s = .next s) ∧
  (∀ (a b : Word) (s : State), s.aonUp = true → s.guardBroken 17 = false → s.on (GUARD_READING_HALF 17) = false →
    s.guard.halted = false → b.toInt ≤ a.toInt → s.zoneThr 1 false ≤ a.toInt → a.toInt < s.zoneThr 1 true →
    a.toInt ≤ 32766 → -32768 ≤ a.toInt → a.toInt ≠ 32767 →
    (∀ z, z < 8 → ∀ c, s.zoneAt z c = false) → tget (fun _ => 0) s.guard.counts (memKey 1 false 17) = 2 →
    s.get (GUARD_ZONE_CFG_WARN_ACT 1) = 1 → s.on GUARD_STATUS_FANS_FORCED = true → s.guard.fansOver = 65535 →
    s.pwr.cutP0 = false → s.pwr.cutP1 = false → Room s portAon →
    ∃ t, exec (.guardSample 17 a true b true) s = .next t ∧ t.zoneAt 1 false = true ∧ t.zoneAt 1 true = false ∧
      t.get GUARD_STATUS_WARN_ZONES = 2 ∧ t.get GUARD_STATUS_FANS_FORCED = 1 ∧ t.get GUARD_STATUS_CUT_ZONES = 0 ∧ t.on SYS_STATUS_WARN_ANY = true ∧
      t.get (GUARD_ZONE_STATUS_ZONE_TEMP 1) = a.toNat % 65536 ∧ Logged portAon 0x2001 1 1 (a.toNat % 65536) s t) ∧
  (∀ (z : Fin 8) (s : State), s.aonUp = true → s.on (GUARD_ZONE_STATUS_WARN_DWELL z) = true → s.zoneAt z false = true →
    s.zoneAt z true = false → s.guard.halted = false → s.pwr.cutP0 = false → s.pwr.cutP1 = false →
    (∀ y, y < 8 → y ≠ z.val → s.zoneAt y false = false ∧ s.zoneAt y true = false) → Room s portAon →
    ∃ t, exec (.zoneDwellExpire z false) s = .next t ∧ t.zoneAt z false = false ∧ t.get GUARD_STATUS_WARN_ZONES = 0 ∧
      t.on SYS_STATUS_WARN_ANY = false ∧ t.get GUARD_STATUS_FANS_FORCED = 0 ∧
      Logged portAon 0x2002 z 1 ((s.optime - tget (fun _ => 0) s.guard.entered (thrKey z false)) / 1024) s t) ∧
  (∀ (z : Fin 8) (cut : Bool) (s : State), s.aonUp = true → s.zoneAt z cut = true →
    s.on (if cut then GUARD_ZONE_STATUS_CUT_DWELL z else GUARD_ZONE_STATUS_WARN_DWELL z) = true →
    (cut = false → s.zoneAt z true = false) → s.zonesHolding gHalt = [] →
    s.pwr.cutP0 = !(s.zonesHolding gCutP0).isEmpty → s.pwr.cutP1 = !(s.zonesHolding gCutP1).isEmpty →
    ∃ t, exec (.zoneDwellExpire z cut) s = .next t ∧ t.zoneAt z cut = false ∧
      t.on (if cut then GUARD_ZONE_STATUS_CUT_DWELL z else GUARD_ZONE_STATUS_WARN_DWELL z) = false ∧
      (∀ y, y < 8 → ∀ c, (y ≠ z.val ∨ c ≠ cut) → t.zoneAt y c = s.zoneAt y c) ∧
      t.on GUARD_STATUS_FANS_FORCED = !(t.zonesHolding gFans).isEmpty ∧
      t.pwr.cutP0 = !(t.zonesHolding gCutP0).isEmpty ∧ t.pwr.cutP1 = !(t.zonesHolding gCutP1).isEmpty) ∧
  (∀ (z : Fin 8) (cut : Bool) (s : State), s.guard.halted = false →
    (s.on (if cut then GUARD_ZONE_STATUS_CUT_DWELL z else GUARD_ZONE_STATUS_WARN_DWELL z) = false ∨
      (cut = false ∧ s.zoneAt z true = true)) →
    exec (.zoneDwellExpire z cut) s = .next s)

/-- The third sample at a threshold whose action is HALT raises HALT, counts the halt, cuts every bank, turns every fan
off and brings each analog output to its SAFE_CODE, with record 0x2005; the end of the grace holds the planes in
reset; a halted module whose cooling test holds starts again with cause 0x05. Where an event does not apply nothing
changes (DESIGN CHOICE, log entry 1). The model's own choices it rests on: log entries 123, 124. From parts of R397,
R399, R402. -/
def Obligations.GuardHalt : Prop :=
  (∀ (a b : Word) (s : State), s.aonUp = true → s.cpUp = true → s.guardBroken 16 = false → s.on (GUARD_READING_HALF 16) = false →
    s.guard.halted = false → s.on REL_STATUS_HOLD = false → b.toInt ≤ a.toInt → s.zoneThr 0 true ≤ a.toInt →
    a.toInt ≤ 32766 → -32768 ≤ a.toInt → s.zoneThr 0 true ≠ 32767 → (∀ z, z < 8 → ∀ c, s.zoneAt z c = false) →
    tget (fun _ => 0) s.guard.counts (memKey 0 true 16) = 2 → (s.get (GUARD_ZONE_CFG_CUT_ACT 0)).testBit 3 = true →
    (s.log.fifo portAon) = [] → s.pwr.sluice = none →
    ∃ t, exec (.guardSample 16 a true b true) s = .next t ∧ t.guard.halted = true ∧ t.guard.grace = true ∧
      t.guard.haltZone = 0 ∧ t.get GUARD_STATS_HALTS = min (s.get GUARD_STATS_HALTS + 1) 255 ∧
      (∀ n, n < 8 → t.get (AIO_AO_CODE_CODE n) = s.get (AIO_AO_CFG_SAFE_CODE n)) ∧
      (∀ f : Fin 16, t.get (FAN_STATUS_DUTY f) = 0) ∧
      Newest portAon 0x2005 0 (t.get (GUARD_ZONE_STATUS_ZONE_TEMP 0)) 0 t) ∧
  (∀ (used : BitVec 10) (n : GraceFlush) (s : State), s.guard.grace = true → s.planesHeld = false →
    ∃ t, exec (.haltGraceEnd used n) s = .next t ∧ t.guard.grace = false ∧ t.planesHeld = true ∧ t.pwr.rstOut = false ∧
      t.get GUARD_HALT_LAST_GRACE_100US = used.toNat ∧ t.on GUARD_HALT_LAST_GRACE_FULL = decide (used.toNat = 250)) ∧
  (∀ (used : BitVec 10) (n : GraceFlush) (s : State), s.guard.grace = false →
    exec (.haltGraceEnd used n) s = .next s) ∧
  (∀ s : State, s.aonUp = true → s.restartReady = true → s.pwr.sluiceDone = false →
    ∃ t, exec .thermalRestart s = .next t ∧ t.guard.halted = false ∧ t.get PWR_RESET_CAUSE_CAUSE = 5 ∧
      t.guard.restarted = some ((s.optime - s.guard.haltAt) / 1024, s.get GUARD_HALT_LAST_PEAK, s.guard.haltZone) ∧
      t.out = .pin "HALT" false :: s.out ∧ SameRegs [PWR_RESET_CAUSE] s t) ∧
  (∀ s : State, s.restartReady = false → exec .thermalRestart s = .next s)

/-- At a step end a running body whose work is done starts the step with the inputs of that moment and every tile to
compute, while one that is held keeps the step's end and table; each tile that a quad writes back is counted off and
leaves the quad, one with uncorrectable words leaving record 0x6015; the last one ends the step: model time is the
step end, the step is counted and its end, DONE or FAILED, is kept, and its entries are published. A tile that no
quad does ends nothing. Where an event does not apply nothing changes (DESIGN CHOICE, log entry 1). The model's own
choices it rests on: log entry 93. From parts of R237 to R243, R280. -/
def Obligations.MillSteps : Prop :=
  (∀ (k : Fin 16) (s : State), s.bst k = 2 → (s.body k).run = none → (s.body k).ready = [] → (s.body k).rollTo = none →
    (s.body k).late = [] → (s.body k).holdDue = false → (s.body k).pauseDue = false → (s.body k).exporting = false →
    s.lanesUp = true → (s.body k).tm + s.stepMs k ≤ s.siteMs →
    ∃ t, exec (.bodyStepReady k) s = .next t ∧ (t.body k).ready = [] ∧ (t.body k).cells = (s.body k).cells ∧
      (∃ r, (t.body k).run = some r ∧ r.te = (s.body k).tm + s.stepMs k ∧ r.tiles = List.range (s.grid k).tiles ∧
        r.began = s.tim.dp ∧ r.again = false ∧ r.inputs.acts = s.est.actFront) ∧
      (∀ j : Fin 16, j ≠ k → (t.body j).cells = (s.body j).cells ∧ (t.body j).run = (s.body j).run ∧
        (t.body j).ready = (s.body j).ready) ∧ SameRegs (s.millRegs k) s t ∧ t.log = s.log ∧ t.est = s.est) ∧
  (∀ (k : Fin 16) (s : State), s.bst k = 4 → (s.body k).run = none → (s.body k).ready = [] → (s.body k).rollTo = none →
    (s.body k).late = [] → (s.body k).holdDue = false → (s.body k).pauseDue = false → s.lanesUp = true →
    (s.body k).tm + s.stepMs k ≤ s.siteMs →
    ∃ t, exec (.bodyStepReady k) s = .next t ∧ (t.body k).run = none ∧ (t.body k).tm = (s.body k).tm ∧
      (t.body k).ready = [((s.body k).tm + s.stepMs k, s.est.actFront)] ∧ t.log = s.log ∧ t.est = s.est) ∧
  (∀ (k : Fin 16) (s : State), s.bst k = 0 ∨ s.bst k = 1 → exec (.bodyStepReady k) s = .next s.dispatch) ∧
  (∀ (k : Fin 16) (tile q : Nat) (r : StepRun) (s : State), (q, Work.tile k tile) ∈ s.mill.quads → s.dpUp = true → (s.body k).run = some r →
    tile ∈ r.tiles → (∃ x ∈ r.tiles, x ≠ tile) → s.net.xfers = [] →
    ∃ t, exec (.tileDone k tile [] q) s = .next t ∧
      (t.body k).run = some { r with tiles := r.tiles.filter (fun x => x ≠ tile) } ∧ (t.body k).cells = (s.body k).cells ∧
      (t.body k).tm = (s.body k).tm ∧ (∀ p ∈ t.mill.quads, p.2 ≠ Work.tile k tile) ∧ SameRegs (s.millRegs k) s t ∧ t.log = s.log) ∧
  (∀ (k : Fin 16) (tile q : Nat) (bad : List Nat) (r : StepRun) (s : State), (q, Work.tile k tile) ∈ s.mill.quads → s.dpUp = true →
    (s.body k).run = some r → tile ∈ r.tiles → (∃ x ∈ r.tiles, x ≠ tile) → bad ≠ [] → r.te ≤ (s.body k).firm →
    s.net.xfers = [] → Room s portMill →
    ∃ t, exec (.tileDone k tile bad q) s = .next t ∧
      t.get MILL_TILE_STATS_UNCORR_TILES = (s.get MILL_TILE_STATS_UNCORR_TILES + 1) % 65536 ∧
      (t.body k).run = some { r with tiles := r.tiles.filter (fun x => x ≠ tile), bad := r.bad ++ bad } ∧
      SameRegs (MILL_TILE_STATS :: s.millRegs k) s t ∧ Logged portMill 0x6015 k tile bad.length s t) ∧
  (∀ (k : Fin 16) (tile q : Nat) (r : StepRun) (s : State), (q, Work.tile k tile) ∈ s.mill.quads → s.dpUp = true → (s.body k).run = some r →
    r.tiles = [tile] → r.again = false → s.bst k = 2 → (s.body k).ready = [] → (s.body k).rollTo = none →
    (s.body k).late = [] → (s.body k).holdDue = false → (s.body k).pauseDue = false → s.mill.snapWait = [] → s.net.xfers = [] →
    ∃ t, exec (.tileDone k tile [] q) s = .next t ∧ (t.body k).run = none ∧ (t.body k).tm = r.te ∧ t.bst k = 2 ∧
      (t.body k).ends = (⟨r.te, if r.bad = [] then 0 else 1, if r.bad = [] then 0 else 1⟩ :: (s.body k).ends).take 32 ∧
      t.reg (MILL_STEP_COUNT k) = s.reg (MILL_STEP_COUNT k) + 1 ∧ t.get (MILL_RUN_STATUS_PUBLISHED k) = 1 ∧
      (s.body k).firm ≤ (t.body k).firm ∧
      (∀ j : Fin 16, j ≠ k → (t.body j).cells = (s.body j).cells ∧ (t.body j).run = (s.body j).run ∧ (t.body j).tm = (s.body j).tm) ∧
      SameRegs ([MILL_STEP_COUNT k, MILL_BODY_STATUS k, MILL_AIR_STATUS k, MILL_MOVE_STATUS k, MILL_SOLVE_STATS,
        MILL_ASSIM_STATS] ++ s.millRegs k) s t) ∧
  (∀ (k : Fin 16) (tile q : Nat) (bad : List Nat) (s : State), ((q, Work.tile k tile) ∉ s.mill.quads ∨ s.dpUp = false) →
    s.net.xfers = [] → exec (.tileDone k tile bad q) s = .next s.dispatch)

/-- The oldest reading forwarded to an anchor record arrives and is used with the record's σ, or its own where the
record gives none: for no anchor record, for an absent or held body, or more than an hour older than model time it
is discarded and counted; one newer than model time waits for its step; one at or before firm time is used with its
σ grown by its age and counted; a late one of a body that computes a step waits for the rollback. Where an event
does not apply nothing changes (DESIGN CHOICE, log entry 1). The model's own choices it rests on: log entries 102,
97, 148. From parts of R274, R276, R281, R283. -/
def Obligations.MillReadings : Prop :=
  (∀ (n : Nat) (v g : F32) (st : Nat) (s : State), s.smap.anchors[n]? = none → s.dpUp = true →
    ∃ t, exec (.readingArrive n v g st) s = .next t ∧
      t.get MILL_ASSIM_STATS_DISCARDED = (s.get MILL_ASSIM_STATS_DISCARDED + 1) % 65536 ∧
      SameRegs (MILL_ASSIM_STATS :: s.millRegs 0) s t ∧ t.mill.inbox = s.mill.inbox ∧ t.log = s.log) ∧
  (∀ (n : Nat) (v g : F32) (st : Nat) (a : Anchor) (s : State), s.smap.anchors[n]? = some a →
    (({ anchor := n, value := v, sigma := g, stamp := st } : Reading) ∉ s.mill.inbox ∨ s.dpUp = false) →
    exec (.readingArrive n v g st) s = .next s.dispatch) ∧
  (∀ (n : Nat) (a : Anchor) (r : Reading) (s : State), s.smap.anchors[n]? = some a →
    r ∈ s.mill.inbox → s.dpUp = true → r.anchor = n → r.aged = false → (s.bst a.body = 0 ∨ (s.body a.body).heldOn = true) →
    ∃ t, exec (.readingArrive n r.value r.sigma r.stamp) s = .next t ∧ t.mill.inbox = s.mill.inbox.erase r ∧
      t.get MILL_ASSIM_STATS_DISCARDED = (s.get MILL_ASSIM_STATS_DISCARDED + 1) % 65536 ∧
      (t.body a.body).readings = (s.body a.body).readings ∧
      SameRegs (MILL_ASSIM_STATS :: s.millRegs a.body) s t ∧ t.log = s.log) ∧
  (∀ (n : Nat) (a : Anchor) (r : Reading) (s : State), s.smap.anchors[n]? = some a →
    r ∈ s.mill.inbox → s.dpUp = true → r.anchor = n → r.aged = false → s.bst a.body ≠ 0 → (s.body a.body).heldOn = false →
    (s.bst a.body = 1 ∨ (s.body a.body).now * 1000000 < r.stamp) →
    ∃ t, exec (.readingArrive n r.value r.sigma r.stamp) s = .next t ∧ t.mill.inbox = s.mill.inbox.erase r ∧ t.log = s.log ∧
      (t.body a.body).readings = (s.body a.body).readings ++ [{ r with sigma := if fIsNaN a.sigma then r.sigma else a.sigma }] ∧
      (t.body a.body).cells = (s.body a.body).cells ∧ (t.body a.body).tm = (s.body a.body).tm ∧
      SameRegs (s.millRegs a.body) s t) ∧
  (∀ (n : Nat) (a : Anchor) (r : Reading) (s : State), s.smap.anchors[n]? = some a →
    r ∈ s.mill.inbox → s.dpUp = true → r.anchor = n → r.aged = false → s.bst a.body ≠ 0 → s.bst a.body ≠ 1 → (s.body a.body).heldOn = false →
    r.stamp + 3600000000000 < (s.body a.body).now * 1000000 →
    ∃ t, exec (.readingArrive n r.value r.sigma r.stamp) s = .next t ∧ t.mill.inbox = s.mill.inbox.erase r ∧
      t.get MILL_ASSIM_STATS_DISCARDED = (s.get MILL_ASSIM_STATS_DISCARDED + 1) % 65536 ∧
      (t.body a.body).readings = (s.body a.body).readings ∧ (t.body a.body).mAged = (s.body a.body).mAged + 1 ∧
      SameRegs (MILL_ASSIM_STATS :: s.millRegs a.body) s t ∧ t.log = s.log) ∧
  (∀ (n : Nat) (a : Anchor) (r : Reading) (s : State), s.smap.anchors[n]? = some a →
    r ∈ s.mill.inbox → s.dpUp = true → r.anchor = n → r.aged = false → s.bst a.body ≠ 0 → s.bst a.body ≠ 1 → (s.body a.body).heldOn = false →
    r.stamp ≤ (s.body a.body).now * 1000000 → (s.body a.body).now * 1000000 ≤ r.stamp + 3600000000000 →
    r.stamp ≤ ((s.firmAdvance a.body).body a.body).firm * 1000000 →
    ∃ t, exec (.readingArrive n r.value r.sigma r.stamp) s = .next t ∧ t.mill.inbox = s.mill.inbox.erase r ∧
      (t.body a.body).readings = (s.body a.body).readings ++ [{ r with
        aged := true
        sigma := mmul (if fIsNaN a.sigma then r.sigma else a.sigma)
          (madd (fofNat 1) (mdiv (fofRat ((s.body a.body).now * 1000000 - r.stamp : Nat) 1000000000)
          (fofNat (s.get (MILL_RUN_CFG_AGE_TAU_S a.body))))) }] ∧
      t.get (MILL_RB_STATS_LATE_AGED a.body) = (s.get (MILL_RB_STATS_LATE_AGED a.body) + 1) % 65536 ∧
      (t.body a.body).mAged = (s.body a.body).mAged + 1 ∧ SameRegs (MILL_RB_STATS a.body :: s.millRegs a.body) s t ∧ t.log = s.log) ∧
  (∀ (n : Nat) (a : Anchor) (r : Reading) (q : StepRun) (s : State), s.smap.anchors[n]? = some a →
    r ∈ s.mill.inbox → s.dpUp = true → r.anchor = n → r.aged = false → s.bst a.body = 2 → (s.body a.body).heldOn = false →
    (s.body a.body).rollTo = none → (s.body a.body).run = some q → q.field = none → (s.body a.body).resolveTe = none →
    r.stamp ≤ (s.body a.body).tm * 1000000 → (s.body a.body).tm * 1000000 ≤ r.stamp + 3600000000000 →
    ((s.firmAdvance a.body).body a.body).firm * 1000000 < r.stamp →
    ∃ t, exec (.readingArrive n r.value r.sigma r.stamp) s = .next t ∧ t.mill.inbox = s.mill.inbox.erase r ∧ SameRegs (s.millRegs a.body) s t ∧
      (t.body a.body).run = some q ∧ (t.body a.body).cells = (s.body a.body).cells ∧
      (t.body a.body).late = (s.body a.body).late ++ [{ r with sigma := if fIsNaN a.sigma then r.sigma else a.sigma }])

/-- A periodic solve is queued when it is due; one that a quad has ended and that converged gives the next step its
field, one that did not keeps the old field with record 0x6020; a forecast run of a running body is queued, counted
as DEFERRED while a step waits, and its end is counted; a body that runs none, or none due, changes nothing. Filling
the quads takes no work from a quad, puts no two pieces on one, and gives every quad in service that is free a piece
while one is ready. Where an event does not apply nothing changes (DESIGN CHOICE, log entry 1). The model's own
choices it rests on: log entries 90, 94, 101. From parts of R241, R254 to R256, R292, R293. -/
def Obligations.MillAir : Prop :=
  (∀ (k : Fin 16) (s : State), s.dpUp = true → s.bst k ≠ 0 → (s.body k).nextSolve ≤ (s.body k).tm → (s.body k).solving = none →
    ∃ t, exec (.airflowSolveDue k) s = .next t ∧ (t.body k).solving.map (fun r => r.cls) = some 2 ∧
      (t.body k).nextSolve = (s.body k).tm + s.get MILL_SOLVE_CFG_PERIOD_S * 1000 ∧ (t.body k).flux = (s.body k).flux ∧
      (t.body k).cells = (s.body k).cells ∧ SameRegs (s.millRegs k) s t ∧ t.log = s.log) ∧
  (∀ (k : Fin 16) (r : SolveRun) (s : State), s.dpUp = true → s.bst k ≠ 0 → (s.body k).nextSolve ≤ (s.body k).tm →
    (s.body k).solving = some r →
    ∃ t, exec (.airflowSolveDue k) s = .next t ∧
      (s.solveRuns k = true → (t.body k).solving = some r ∧
        (t.body k).solveAgain = some (min 2 ((s.body k).solveAgain.getD 2))) ∧
      (s.solveRuns k = false → (t.body k).solving.map (fun x => x.cls) = some (min 2 r.cls)) ∧
      (t.body k).nextSolve = (s.body k).tm + s.get MILL_SOLVE_CFG_PERIOD_S * 1000 ∧ (t.body k).flux = (s.body k).flux ∧
      (t.body k).cells = (s.body k).cells ∧ SameRegs (s.millRegs k) s t ∧ t.log = s.log) ∧
  (∀ (k : Fin 16) (s : State), (s.dpUp = false ∨ s.bst k = 0 ∨ (s.body k).tm < (s.body k).nextSolve) →
    exec (.airflowSolveDue k) s = .next s.dispatch) ∧
  (∀ (k : Fin 16) (r : SolveRun) (s : State), s.dpUp = true → s.solveRuns k = true → (s.body k).solving = some r →
    ∃ t, exec (.airflowSolveDone k r.passes r.cycles r.ppm) s = .next t ∧
      (t.body k).solving.map (fun x => x.cls) = (s.body k).solveAgain ∧ (t.body k).solveAgain = none ∧
      (t.body k).newField = (if r.ppm ≤ 10000 then some r.field else (s.body k).newField) ∧
      (t.body k).flux = (s.body k).flux ∧ t.get (MILL_AIR_STATUS_UNCONVERGED k) = (if r.ppm ≤ 10000 then 0 else 1) ∧
      t.get MILL_SOLVE_STATS_SOLVES = (s.get MILL_SOLVE_STATS_SOLVES + 1) % 65536 ∧
      (t.body k).cells = (s.body k).cells ∧ (t.body k).tm = (s.body k).tm) ∧
  (∀ (k : Fin 16) (r : SolveRun) (s : State), s.dpUp = true → s.solveRuns k = true → (s.body k).solving = some r →
    (s.body k).solveAgain = none → r.ppm ≤ 10000 → r.passes < 16 → r.cycles < 32 →
    ∃ t, exec (.airflowSolveDone k r.passes r.cycles r.ppm) s = .next t ∧ (t.body k).solving = none ∧ (t.body k).newField = some r.field ∧
      (t.body k).flux = (s.body k).flux ∧ t.get (MILL_AIR_STATUS_PICARD k) = r.passes ∧ t.get (MILL_AIR_STATUS_VCYCLES k) = r.cycles ∧
      t.get (MILL_AIR_STATUS_UNCONVERGED k) = 0 ∧
      t.get MILL_SOLVE_STATS_SOLVES = (s.get MILL_SOLVE_STATS_SOLVES + 1) % 65536 ∧
      SameRegs (MILL_AIR_STATUS k :: MILL_SOLVE_STATS :: s.millRegs k) s t ∧ t.log = s.log) ∧
  (∀ (k : Fin 16) (r : SolveRun) (s : State), s.dpUp = true → s.solveRuns k = true → (s.body k).solving = some r →
    (s.body k).solveAgain = none → 10000 < r.ppm → Room s portMill →
    ∃ t, exec (.airflowSolveDone k r.passes r.cycles r.ppm) s = .next t ∧ (t.body k).solving = none ∧
      (t.body k).newField = (s.body k).newField ∧ (t.body k).flux = (s.body k).flux ∧
      t.get (MILL_AIR_STATUS_UNCONVERGED k) = 1 ∧ SameRegs (MILL_AIR_STATUS k :: MILL_SOLVE_STATS :: s.millRegs k) s t ∧
      Logged portMill 0x6020 k r.ppm r.passes s t) ∧
  (∀ (k : Fin 16) (p c m : Nat) (s : State), (s.dpUp = false ∨ s.solveRuns k = false ∨ ∀ r, (s.body k).solving = some r →
    ¬(r.passes = p ∧ r.cycles = c ∧ r.ppm = m)) → exec (.airflowSolveDone k p c m) s = .next s.dispatch) ∧
  (∀ (k : Fin 16) (s : State), s.dpUp = true → s.bst k = 2 →
    ∃ t, exec (.forecastRunStart k) s = .next t ∧ t.mill.forecasts.map (fun p => (p.1, p.2.next)) =
        (if s.mill.forecasts.any (fun p => p.1 = k.val) then
          s.mill.forecasts.map (fun p => if p.1 = k.val then (k.val, true) else (p.1, p.2.next))
        else s.mill.forecasts.map (fun p => (p.1, p.2.next)) ++ [(k.val, false)]) ∧
      (t.body k).cells = (s.body k).cells ∧ (t.body k).tm = (s.body k).tm ∧ SameRegs (s.millRegs k) s t ∧ t.log = s.log) ∧
  (∀ (k : Fin 16) (s : State), s.dpUp = true → s.bst k = 2 → s.mill.forecasts = [] → s.mill.snapBusy = false →
    s.guard.halted = false → (∀ p ∈ s.mill.quads, p.2 ≠ Work.forecast k) →
    ∃ t, exec (.forecastRunStart k) s = .next t ∧ t.mill.forecasts.map (fun p => (p.1, p.2.next)) = [(k.val, false)] ∧
      t.get MILL_SCHED_STATS_DEFERRED =
        (s.get MILL_SCHED_STATS_DEFERRED + if s.overloaded then 1 else 0) % 65536) ∧
  (∀ (k : Fin 16) (s : State), (s.dpUp = false ∨ s.bst k ≠ 2) → exec (.forecastRunStart k) s = .next s.dispatch) ∧
  (∀ (k : Fin 16) (ms q : Nat) (s : State), s.dpUp = true → (k.val, q) ∈ s.mill.forecasts.map (fun p => (p.1, p.2.tm)) →
    s.workRuns (.forecast k) = true →
    ∃ t, exec (.forecastRunDone k ms) s = .next t ∧
      t.get MILL_FCST_STATUS_RUNS = (s.get MILL_FCST_STATUS_RUNS + 1) % 65536 ∧
      t.get MILL_FCST_STATUS_LAST_RUN_MS = min ms 65535 ∧ (t.body k).cells = (s.body k).cells ∧
      (t.body k).tm = (s.body k).tm ∧ t.log = s.log) ∧
  (∀ (k : Fin 16) (ms q : Nat) (r : FcRun) (s : State), s.dpUp = true → s.mill.forecasts = [(k.val, r)] →
    (q, Work.forecast k) ∈ s.mill.quads →
    r.next = false → s.smap.probes.filter (fun p => p.body = k.val) = [] → s.smap.pubs = [] → s.get MILL_FCST_CFG_SPEED * ms = 0 →
    ∃ t, exec (.forecastRunDone k ms) s = .next t ∧ t.mill.forecasts = [] ∧
      t.get MILL_FCST_STATUS_RUNS = (s.get MILL_FCST_STATUS_RUNS + 1) % 65536 ∧
      t.get MILL_FCST_STATUS_LAST_RUN_MS = min ms 65535 ∧ SameRegs (MILL_FCST_STATUS :: s.millRegs k) s t ∧ t.est = s.est) ∧
  (∀ (k : Fin 16) (ms : Nat) (s : State), (s.dpUp = false ∨ s.workRuns (.forecast k) = false ∨ ∀ p ∈ s.mill.forecasts, p.1 ≠ k.val) →
    exec (.forecastRunDone k ms) s = .next s.dispatch) ∧
  (∀ s : State, (∀ p ∈ s.mill.quads, s.workLive p.2 = true → p ∈ s.dispatch.mill.quads) ∧
    (s.dispatch.log = s.log ∧ s.dispatch.est = s.est ∧ s.dispatch.tim = s.tim ∧ SameRegs (s.millRegs 0) s s.dispatch) ∧
    (∀ k : Fin 16, (s.dispatch.body k).cells = (s.body k).cells ∧ (s.dispatch.body k).run = (s.body k).run ∧
      (s.dispatch.body k).tm = (s.body k).tm)) ∧
  (∀ (q : Nat) (s : State), s.dpUp = true → s.guard.halted = false → s.mill.bodies ≠ [] → s.mill.quads = [] → s.readyWork ≠ [] →
    s.quadsUp.head? = some q → s.dispatch.mill.quads.map (fun p => p.1) = s.quadsUp.take s.readyWork.length)

/-- INTERVAL_H starts a snapshot to which the running bodies contribute at their step ends and held or paused ones at
once; programmed and read back it fills the older area, with record 0x6034, and one that failed leaves that area
invalid and the other as it was; a cell read answers the record's words of one moment; each minute's counts are
reported and begin again. Where an event does not apply nothing changes (DESIGN CHOICE, log entry 1). The model's
own choices it rests on: log entries 55, 97, 98. From parts of R294, R295, R245, R242. -/
def Obligations.MillSnapshots : Prop :=
  (∀ s : State, s.dpUp = true → s.on MILL_SNAP_CFG_ENABLE = true → s.mill.snapBusy = false →
    ∃ t, exec .snapshotDue s = .next t ∧ t.mill.snapBusy = true ∧
      t.mill.snapWait = (List.range 16).filter (fun k => s.bst k = 2) ∧
      t.mill.snapGot = ((List.range 16).filter (fun k => 2 < s.bst k)).map (fun k => (k, (s.body k).tm, (s.body k).digest, s.coarse k)) ∧
      (∀ k : Fin 16, (t.body k).cells = (s.body k).cells) ∧ SameRegs (s.millRegs 0) s t ∧ t.log = s.log) ∧
  (∀ s : State, (s.dpUp = false ∨ s.mill.snapBusy = true ∨ s.on MILL_SNAP_CFG_ENABLE = false) → exec .snapshotDue s = .next s.dispatch) ∧
  (∀ (q : Nat) (s : State), (q, Work.snapshot) ∈ s.mill.quads → s.dpUp = true → Room s portMill →
    ∃ t, exec (.snapshotWriteDone true) s = .next t ∧ t.get MILL_SNAP_STATUS_LAST_AREA = s.snapTarget ∧
      t.mill.snapBusy = false ∧ t.mill.snapSeq = s.mill.snapSeq + 1 ∧
      t.snapArea s.snapTarget = s.snapFile 1 (s.mill.snapSeq + 1) (s.mill.snapGot.map (fun p =>
        { body := p.1, tm := p.2.1, digest := p.2.2.1, records := p.2.2.2.map (fun c => c.2.bytes) })) ∧
      (t.get MILL_SNAP_STATUS_AREA_VALID).testBit s.snapTarget = true ∧
      t.snapArea (1 - s.snapTarget) = s.snapArea (1 - s.snapTarget) ∧
      SameRegs (s.millRegs 0) s t ∧
      Logged portMill 0x6034 s.snapTarget (s.mill.snapSeq + 1) (t.snapArea s.snapTarget).length s t) ∧
  (∀ (q : Nat) (s : State), (q, Work.snapshot) ∈ s.mill.quads → s.dpUp = true →
    ∃ t, exec (.snapshotWriteDone false) s = .next t ∧ t.get MILL_SNAP_STATUS_LAST_AREA = s.snapTarget ∧
      t.mill.snapBusy = false ∧ t.snapArea s.snapTarget = [] ∧ (t.get MILL_SNAP_STATUS_AREA_VALID).testBit s.snapTarget = false ∧
      t.snapArea (1 - s.snapTarget) = s.snapArea (1 - s.snapTarget) ∧ SameRegs (s.millRegs 0) s t ∧ t.log = s.log) ∧
  (∀ (ok : Bool) (s : State), (s.dpUp = false ∨ ∀ p ∈ s.mill.quads, p.2 ≠ Work.snapshot) → exec (.snapshotWriteDone ok) s = .next s.dispatch) ∧
  (∀ (req : Nat) (k : Fin 16) (s : State), s.mpUp = true → s.inReset .data = false → s.loading = false →
    s.waitsBehind (MILL_CELL_W k 0) = false →
    ∃ t, exec (.millCellRead req k) s = .next t ∧ t.out = .reply req (s.cellWord k 0) :: s.out ∧
      t.captured req (MILL_CELL_W k 1) = some (s.cellWord k 1) ∧ t.captured req (MILL_CELL_W k 2) = some (s.cellWord k 2) ∧
      t.captured req (MILL_CELL_W k 3) = some (s.cellWord k 3) ∧ { t with out := s.out, fab := s.fab } = s) ∧
  (∀ (k : Fin 16) (busy : Nat) (s : State), s.dpUp = true → (s.body k).mLate ≠ 0 → (s.body k).mSubst = 0 → (s.body k).mLost = 0 →
    (s.body k).mUnder = 0 → (s.body k).mRoll = 0 → (s.body k).mAged = 0 → (s.body k).mGated = 0 → busy < 65536 →
    Room s portMill →
    ∃ t, exec (.millMinuteReport k busy) s = .next t ∧ (t.body k).mLate = 0 ∧ (t.body k).mLag = 0 ∧
      (t.body k).cells = (s.body k).cells ∧ t.get MILL_LOAD_BUSY = busy ∧ SameRegs [MILL_LOAD] s t ∧
      Logged portMill 0x6012 k (s.body k).mLate (s.body k).mLag s t)

/-- Hold stops a body at once when it computes nothing, with record 0x6013, else at the end of its step; resume within
LEAD_S takes the steps up again with record 0x6014, later from the snapshot taken at the hold with record 0x6035
before it; a held body coasts, its entries marked COASTING with their last values; a cold body is seeded, runs and
shows COLD with record 0x6036. Where an event does not apply nothing changes (DESIGN CHOICE, log entry 1). The
model's own choices it rests on: log entries 98, 96, 95, 36. From parts of R243, R244, R291, R297. -/
def Obligations.MillHolds : Prop :=
  (∀ (req : Nat) (k : Fin 16) (s : State), Writes s req (MILL_BODY_CTRL k) 0x6B1D0001 → s.bst k = 2 →
    (s.body k).heldOn = false → (s.body k).run = none → (s.body k).rollTo = none → Room s portMill →
    ∃ t, exec (.bodyHold req k) s = .next t ∧ t.bst k = 4 ∧ (t.body k).heldOn = true ∧ (t.body k).ready = (s.body k).ready ∧
      (t.body k).ends = ((s.body k).ready.map (fun p => (⟨p.1, 2, 1⟩ : ItemEnd)) ++ (s.body k).ends).take 32 ∧
      (t.body k).stoppedAt = s.tim.dp ∧ (t.body k).heldAt = s.tim.dp ∧ (t.body k).staged = s.coarse k ∧
      (t.body k).cells = (s.body k).cells ∧ SameRegs [MILL_BODY_STATUS k] s t ∧
      Logged portMill 0x6013 k ((s.body k).tm / 1000) 0 s t) ∧
  (∀ (req : Nat) (k : Fin 16) (r : StepRun) (s : State), Writes s req (MILL_BODY_CTRL k) 0x6B1D0001 → s.bst k = 2 →
    (s.body k).heldOn = false → (s.body k).run = some r →
    ∃ t, exec (.bodyHold req k) s = .next t ∧ t.body k = { s.body k with holdDue := true } ∧ t.regs = s.regs ∧
      t.log = s.log) ∧
  (∀ (req : Nat) (k : Fin 16) (s : State), Writes s req (MILL_BODY_CTRL k) 0x6B1D0002 → s.bst k = 4 → (s.body k).heldOn = true →
    (s.body k).run = none → (s.body k).rollTo = none → (s.body k).late = [] → (s.body k).holdDue = false → (s.body k).pauseDue = false →
    s.siteMs < (s.body k).tm + s.stepMs k →
    s.tim.dp - (s.body k).heldAt < s.get (MILL_RUN_CFG_LEAD_S k) * 1000000000 → Room s portMill →
    ∃ t, exec (.bodyResume req k) s = .next t ∧ t.bst k = 2 ∧ (t.body k).heldOn = false ∧ (t.body k).run = none ∧ (t.body k).ready = [] ∧
      (t.body k).cells = (s.body k).cells ∧ SameRegs [MILL_BODY_STATUS k] s t ∧ Logged portMill 0x6014 k 0 0 s t) ∧
  (∀ (req : Nat) (k : Fin 16) (s : State), Writes s req (MILL_BODY_CTRL k) 0x6B1D0002 → s.bst k = 4 → (s.body k).heldOn = true →
    (s.body k).run = none → (s.body k).rollTo = none → (s.body k).late = [] → s.bodyPubs k = [] →
    s.get (MILL_RUN_CFG_LEAD_S k) * 1000000000 ≤ s.tim.dp - (s.body k).heldAt → s.mpUp = true → (s.log.fifo portMill).length < 15 →
    ∃ t, exec (.bodyResume req k) s = .next t ∧ t.bst k = 2 ∧ (t.body k).heldOn = false ∧ (t.body k).ready = [] ∧
      (t.body k).tm = stepFloor (s.stepMs k) s.siteMs ∧ t.get (MILL_RUN_STATUS_FROM_SNAPSHOT k) = 1 ∧
      ((t.log.fifo portMill).dropLast.getLast?).map (fun r => (r.code, r.p0)) = some (0x6035, k.val) ∧
      SameRegs [MILL_BODY_STATUS k, MILL_RUN_STATUS k] s t ∧ Newest portMill 0x6014 k 1 0 t) ∧
  (∀ (k : Fin 16) (r : Pub) (s : State), s.dpUp = true → s.bst k = 4 → s.bodyPubs k = [r] → r.kind = 1 → r.firm = false →
    r.entry < 1024 →
    ∃ t, exec (.coastRepublish k) s = .next t ∧ (t.estBack r.entry 3).getLsbD 28 = true ∧
      t.estBack r.entry 0 = (if (tget (fun _ => (fNaN, fNaN, false)) (s.body k).lastPubs r.entry).2.2 then
        (tget (fun _ => (fNaN, fNaN, false)) (s.body k).lastPubs r.entry).1 else 0x7FC00000) ∧
      t.estBack r.entry 2 = tickOf ((s.body k).tm * 1000000) ∧ { t with est := s.est } = s) ∧
  (∀ (k : Fin 16) (s : State), (s.dpUp = false ∨ (s.bst k ≠ 3 ∧ s.bst k ≠ 4)) → exec (.coastRepublish k) s = .next s) ∧
  (∀ (k : Fin 16) (s : State), s.dpUp = true → s.bst k = 1 → (s.body k).solving = none → (s.body k).run = none → (s.body k).rollTo = none →
    (s.body k).late = [] → (s.body k).ready = [] → (s.body k).holdDue = false → (s.body k).pauseDue = false → Room s portMill →
    ∃ t, exec (.coldSeed k) s = .next t ∧ t.bst k = 2 ∧ t.get (MILL_RUN_STATUS_COLD k) = 1 ∧
      t.get (MILL_RUN_STATUS_PUBLISHED k) = 1 ∧ (t.body k).tm = stepFloor (s.stepMs k) s.siteMs ∧
      (t.body k).readings = [] ∧ (t.body k).solving.map (fun r => r.cls) = some 0 ∧
      SameRegs ([MILL_BODY_STATUS k, MILL_MOVE_STATUS k] ++ s.millRegs k) s t ∧
      Logged portMill 0x6036 k ((((s.body k).readings.map (fun r => r.anchor)).eraseDups).length) 0 s t) ∧
  (∀ (k : Fin 16) (s : State), (s.dpUp = false ∨ s.bst k ≠ 1) → exec (.coldSeed k) s = .next s.dispatch)

/-- At an instant of its period's grid a sample that runs is counted and reads the estimate epoch, ends DONE and keeps
its outputs inside U_MIN to U_MAX; in OPEN the outputs move to MANUAL at the rate limit; a request for OFF that
waits is applied at the latch with record 0x5001; a sample in a lockstep hold is not run and ends FAILED 0x02. No
fresh sample in STALE_MS makes an output suspect with record 0x5007, the end of its coast makes its ACTION due, and
a minute's saturations and samples not done leave records 0x5004 and 0x5005. No slot touches another. Where an event
does not apply nothing changes (DESIGN CHOICE, log entry 1). The model's own choices it rests on: log entries 104,
113. From parts of R303, R307, R313, R316, R318, R330, R333. -/
def Obligations.GovSamples : Prop :=
  (∀ (n : Fin 16) (s : State), s.slotsRun = true → s.sampleDue n = true → s.caddy.swap = none →
    s.on REL_STATUS_HOLD = false → s.gmode n = 2 → s.due n = [] →
    (s.slot n).added = false → (s.slot n).request = none →
    ∃ t, exec (.govSample n .clean) s = .next t ∧ t.gmode n = 2 ∧
      t.get (GOV_SAMPLE_STATS_SAMPLES n) = (s.get (GOV_SAMPLE_STATS_SAMPLES n) + 1) % 65536 ∧
      t.get (GOV_SAMPLE_STATS_NOT_DONE n) = s.get (GOV_SAMPLE_STATS_NOT_DONE n) ∧
      t.get (GOV_SLOT_STATUS_LAST_STATUS n) = 0 ∧ t.get (GOV_SLOT_STATUS_LAST_REASON n) = 0 ∧
      t.reg (GOV_EPOCH_READ n) = s.reg MILL_EST_EPOCH ∧
      (∀ a, a < (s.dims n).nu → (t.gwin n).q (winMin a) ≤ (t.gwin n).q (winMax a) →
        (t.gwin n).q (winMin a) ≤ iget (t.slot n).u a ∧ iget (t.slot n).u a ≤ (t.gwin n).q (winMax a)) ∧
      (∀ m, m ≠ n.val → t.slot m = s.slot m) ∧
      (∀ a, 0x100000 ≤ a → a < 0x110000 → (a - 0x100000) / 0x1000 ≠ n.val → t.reg a = s.reg a)) ∧
  (∀ (n : Fin 16) (s : State), s.slotsRun = true → s.sampleDue n = true → s.caddy.swap = none →
    s.on REL_STATUS_HOLD = false → s.gmode n = 1 →
    (s.slot n).added = false → (s.slot n).request = none →
    ∃ t, exec (.govSample n .clean) s = .next t ∧ t.gmode n = 1 ∧
      (∀ a, a < (s.dims n).nu → iget (t.slot n).u a =
        clampI ((t.gwin n).q (winMin a)) ((t.gwin n).q (winMax a))
          (clampI (iget (s.slot n).uPrev a - (t.gwin n).q (winDu a)) (iget (s.slot n).uPrev a + (t.gwin n).q (winDu a))
            ((t.gwin n).q (winManual a)))) ∧
      (∀ m, m ≠ n.val → t.slot m = s.slot m)) ∧
  (∀ (n : Fin 16) (cut : SampleCut) (s : State), s.slotsRun = true → s.sampleDue n = true → s.caddy.swap = none →
    s.on REL_STATUS_HOLD = false → s.gmode n = 2 → s.due n = [] →
    (s.slot n).added = false → (s.slot n).request = some 0 → (s.slot n).bySwap = false → Room s portGov →
    ∃ t, exec (.govSample n cut) s = .next t ∧ t.gmode n = 0 ∧ t.get (GOV_SLOT_STATUS_PENDING n) = 0 ∧
      (t.slot n).request = none ∧ (t.slot n).xp = (s.slot n).xp ∧ (t.slot n).s1 = (s.slot n).s1 ∧
      (t.slot n).s2 = (s.slot n).s2 ∧
      t.reg (GOV_SAMPLE_STATS n) = s.reg (GOV_SAMPLE_STATS n) ∧ (∀ m, m ≠ n.val → t.slot m = s.slot m) ∧
      (∀ a, 0x100000 ≤ a → a < 0x110000 → (a - 0x100000) / 0x1000 ≠ n.val → t.reg a = s.reg a) ∧
      Logged portGov 0x5001 n 512 0 s t) ∧
  (∀ (n : Fin 16) (cut : SampleCut) (s : State), s.slotsRun = true → s.sampleDue n = true → s.caddy.swap = none →
    s.on REL_STATUS_HOLD = true → s.gmode n ≠ 0 →
    ∃ t, exec (.govSample n cut) s = .next t ∧ t.get (GOV_SLOT_STATUS_LAST_STATUS n) = 1 ∧
      t.get (GOV_SLOT_STATUS_LAST_REASON n) = 2 ∧
      t.get (GOV_SAMPLE_STATS_NOT_DONE n) = (s.get (GOV_SAMPLE_STATS_NOT_DONE n) + 1) % 256 ∧
      t.slot n = { s.slot n with
        missed := (s.slot n).missed + 1, mBad := (s.slot n).mBad + 1, mLast := 258 } ∧
      t.rel.failedSlots.testBit n.val = true ∧ SameRegs [GOV_SLOT_STATUS n, GOV_SAMPLE_STATS n] s t ∧ t.log = s.log) ∧
  (∀ (n : Fin 16) (cut : SampleCut) (s : State), (s.slotsRun = false ∨ s.sampleDue n = false) →
    exec (.govSample n cut) s = .next s.overrides.swapGo) ∧
  (∀ (n : Fin 16) (j : Fin 8) (s : State), s.gmode n ≠ 0 → ((s.gwin n).supCfg j).staleMs ≠ 0 → j < (s.dims n).ny →
    (s.supOf n j).cur.cause = 0 → Room s portGov →
    ∃ t, exec (.staleTimeout n j false) s = .next t ∧ (t.supOf n j).cur.cause = 1 ∧
      (t.get (GOV_SUP_STATUS_SUSPECT n)).testBit j = true ∧
      t.get (GOV_SUP_STATS_SUSPECTS n) = (s.get (GOV_SUP_STATS_SUSPECTS n) + 1) % 65536 ∧ t.gmode n = s.gmode n ∧
      SameRegs [GOV_SUP_STATUS n, GOV_SUP_STATS n, GOV_SUP_CAUSE n] s t ∧ Logged portGov 0x5007 n j 1 s t) ∧
  (∀ (n : Fin 16) (j : Fin 8) (s : State), s.gmode n ≠ 0 → ((s.gwin n).supCfg j).staleMs ≠ 0 → j < (s.dims n).ny →
    (s.supOf n j).onBackup = true → (s.supOf n j).prim.cause = 0 →
    ∃ t, exec (.staleTimeout n j true) s = .next t ∧ (t.supOf n j).prim.cause = 1 ∧ (t.supOf n j).cur = (s.supOf n j).cur ∧
      t.regs = s.regs ∧ t.log = s.log) ∧
  (∀ (n : Fin 16) (j : Fin 8) (prim : Bool) (s : State), s.gmode n = 0 →
    exec (.staleTimeout n j prim) s = .next s ∧ exec (.coastExpire n j) s = .next s) ∧
  (∀ (n : Fin 16) (j : Fin 8) (s : State), 2 ≤ s.gmode n → s.gmode n ≤ 5 → j < (s.dims n).ny →
    (s.supOf n j).cur.cause ≠ 0 → (s.supOf n j).cur.coasted = false →
    ∃ t, exec (.coastExpire n j) s = .next t ∧ j.val ∈ t.due n ∧
      t.get (GOV_SUP_STATUS_FELL_BACK n) = s.get (GOV_SUP_STATUS_FELL_BACK n) ||| 2 ^ j.val ∧
      SameRegs [GOV_SUP_STATUS n] s t ∧ t.log = s.log) ∧
  (∀ (n : Fin 16) (s : State), s.gmode n = 4 →
    ∃ t, exec (.testLimitExpire n) s = .next t ∧ t.slot n = { s.slot n with testOver := true } ∧
      { t with gov := s.gov } = s) ∧
  (∀ (n : Fin 16) (s : State), s.gmode n ≠ 4 → exec (.testLimitExpire n) s = .next s) ∧
  (∀ (n : Fin 16) (s : State), (s.slot n).mSat ≠ 0 → (s.slot n).mBad = 0 → Room s portGov →
    ∃ t, exec (.govMinuteReport n) s = .next t ∧ t.slot n = { s.slot n with mSat := 0, mBad := 0 } ∧ t.regs = s.regs ∧
      Logged portGov 0x5004 n (s.slot n).mSat 0 s t) ∧
  (∀ (n : Fin 16) (s : State), (s.slot n).mSat = 0 → (s.slot n).mBad ≠ 0 → Room s portGov →
    ∃ t, exec (.govMinuteReport n) s = .next t ∧ t.slot n = { s.slot n with mSat := 0, mBad := 0 } ∧ t.regs = s.regs ∧
      Logged portGov 0x5005 n (s.slot n).mBad (s.slot n).mLast s t)

/-- An allowed mode request waits for the next latch and any other is a violation; a window word written in OFF is in
use at once and one written in another mode waits; arming the cup captures at once or waits for its trigger, stop
ends it with record 0x500E, clear empties it and keeps NEXT_SEQ, and CUP_AT starts an armed capture; a write of
CUP_INF_CFG in TEST restarts the generator at the next latch. Where an event does not apply nothing changes (DESIGN
CHOICE, log entry 1). The model's own choices it rests on: log entry 112. From parts of R106, R302, R303, R320,
R336, R337, R339. -/
def Obligations.GovRequestsAndCup : Prop :=
  (∀ (req : Nat) (n : Fin 16) (v : Word) (s : State), Writes s req (GOV_SLOT_MODE n) v →
    ∃ t, exec (.govModeRequest req n v) s = .next t ∧ t.get (GOV_SLOT_STATUS_PENDING n) = 1 ∧
      t.slot n = { s.slot n with request := some (bits v 3 0), bySwap := false } ∧ t.gmode n = s.gmode n ∧
      SameRegs [GOV_SLOT_STATUS n] s t ∧ t.log = s.log) ∧
  (∀ (req m : Nat) (n : Fin 16) (s : State), s.mpUp = true → (s.loading = false ∨ req = 2) → s.waitsBehind (GOV_SLOT_MODE n) = false → m < 16 →
    mayRequest (s.gmode n) m = false →
    ∃ t, exec (.govModeRequest req n (BitVec.ofNat 32 (0x60DE0000 + m))) s = .next t ∧
      t.get SYS_VIOL_COUNT_TOTAL = (s.get SYS_VIOL_COUNT_TOTAL + 1) % 65536 ∧ OnlyRegs [SYS_VIOL_COUNT] s t) ∧
  (∀ (req : Nat) (n : Fin 16) (off : BitVec 12) (v : Word) (s : State), 0x400 ≤ off.toNat →
    Writes s req (0x100000 + 0x1000 * n.val + off.toNat) v → s.gmode n = 0 →
    ∃ t, exec (.govCoefWrite req n off v) s = .next t ∧ t.reg (0x100000 + 0x1000 * n.val + off.toNat) = v ∧
      (t.gwin n).word off.toNat = v ∧ (∀ o, o ≠ off.toNat → (t.gwin n).word o = (s.gwin n).word o) ∧
      t.get (GOV_COEF_EPOCH_WORDS n) = (s.get (GOV_COEF_EPOCH_WORDS n) + 1) % 65536 ∧
      SameRegs [0x100000 + 0x1000 * n.val + off.toNat, GOV_COEF_EPOCH n] s t ∧ t.log = s.log) ∧
  (∀ (req : Nat) (n : Fin 16) (off : BitVec 12) (v : Word) (s : State), 0x400 ≤ off.toNat →
    Writes s req (0x100000 + 0x1000 * n.val + off.toNat) v → s.gmode n ≠ 0 →
    ∃ t, exec (.govCoefWrite req n off v) s = .next t ∧ t.reg (0x100000 + 0x1000 * n.val + off.toNat) = v ∧
      t.gwin n = s.gwin n ∧ (t.slot n).waiting = (s.slot n).waiting ++ [(off.toNat, v, false)] ∧
      SameRegs [0x100000 + 0x1000 * n.val + off.toNat] s t ∧ t.log = s.log) ∧
  (∀ (req : Nat) (s : State), Writes s req CUP_CTRL 0xC0F70001 →
    ∃ t, exec (.cupArm req) s = .next t ∧
      t.get CUP_STATUS_STATE = (if s.get CUP_CFG_TRIGGER = 0 then 2 else 1) ∧ t.cup = { s.cup with count := 0 } ∧
      SameRegs [CUP_STATUS] s t ∧ t.log = s.log) ∧
  (∀ (req : Nat) (s : State), Writes s req CUP_CTRL 0xC0F70002 →
    (s.get CUP_STATUS_STATE = 1 ∨ s.get CUP_STATUS_STATE = 2) → Room s portGov →
    ∃ t, exec (.cupStop req) s = .next t ∧ t.get CUP_STATUS_STATE = 4 ∧ t.cup = s.cup ∧ SameRegs [CUP_STATUS] s t ∧
      Logged portGov 0x500E 0 (s.reg CUP_RECORDS).toNat (s.reg CUP_WRITE_PTR).toNat s t) ∧
  (∀ (req : Nat) (s : State), Writes s req CUP_CTRL 0xC0F70003 →
    ∃ t, exec (.cupClear req) s = .next t ∧ t.reg CUP_RECORDS = 0 ∧ t.get CUP_WRITE_PTR_OFFSET = 0 ∧
      t.get CUP_FIRST_PTR_OFFSET = 0 ∧ t.reg CUP_WRAPS = 0 ∧ t.reg CUP_NEXT_SEQ = s.reg CUP_NEXT_SEQ ∧
      t.reg CUP_FIRST_SEQ = s.reg CUP_NEXT_SEQ ∧ t.cup.mem = s.cup.mem ∧ t.cup.held = [] ∧
      SameRegs [CUP_WRITE_PTR, CUP_FIRST_PTR, CUP_RECORDS, CUP_FIRST_SEQ, CUP_WRAPS] s t ∧ t.log = s.log) ∧
  (∀ s : State, s.get CUP_STATUS_STATE = 1 → s.get CUP_CFG_TRIGGER = 2 →
    ∃ t, exec .cupAtTrigger s = .next t ∧ t.get CUP_STATUS_STATE = 2 ∧ OnlyRegs [CUP_STATUS] s t) ∧
  (∀ s : State, (s.get CUP_STATUS_STATE ≠ 1 ∨ s.get CUP_CFG_TRIGGER ≠ 2) → exec .cupAtTrigger s = .next s) ∧
  (∀ (req : Nat) (n : Fin 16) (v : Word) (s : State), Writes s req (CUP_INF_CFG n) v →
    ∃ t, exec (.cupInfCfgWrite req n v) s = .next t ∧ t.reg (CUP_INF_CFG n) = v ∧
      (t.slot n).infRestart = (decide (s.gmode n = 4) || (s.slot n).infRestart) ∧
      SameRegs [CUP_INF_CFG n] s t ∧ t.log = s.log)

/-- A command for a new profile that fits is admitted: to PREARM when the high-side switch is open, which closes, else
to RISE; one that does not fit is deferred, or fails at once with DEFER_MS 0; with the supply low it fails 0x02, and
on a channel that refuses it with the reason of the cause; in HOLD it extends the hold and supersedes the running
item. A stop ends DONE and releases the profile. The model's own choices it rests on: log entries 114, 115. From
parts of R345, R350 to R356. -/
def Obligations.ValveCommands : Prop :=
  (∀ (req : Nat) (v : Fin 96) (id : BitVec 8) (ms : BitVec 16) (s : State),
    Writes s req (VALVE_CMD v) (id ++ (0x40 : BitVec 8) ++ ms) → s.refuses v = none → s.vst v = 0 →
    s.on (vsDutyLim v) = false → s.bankSupply (v.val / 8) = true → (s.bank (v.val / 8)).queue = [] → s.fits v = true →
    s.hsOn (v.val / 8) = false → (s.chan v).relItem = none →
    ∃ t, exec (.valveTimed req v id ms) s = .next t ∧ t.vst v = 2 ∧ t.hsOn (v.val / 8) = true ∧
      t.get (VALVE_STATUS_ITEM_ID v) = id.toNat ∧ t.get (VALVE_STATUS_CONT v) = 0 ∧
      t.get (VALVE_BANK_STATUS_PEAK_BUSY (v.val / 8)) = 1 ∧ (t.chan v).item = some id.toNat ∧
      (t.chan v).hold = ms.toNat ∧ (∀ u, u ≠ v.val → t.chan u = s.chan u) ∧ t.bank = s.bank ∧
      SameRegs [VALVE_STATUS v, VALVE_BANK_STATUS (v.val / 8), VALVE_BANK_FAULT (v.val / 8)] s t ∧ t.log = s.log) ∧
  (∀ (req : Nat) (v : Fin 96) (id : BitVec 8) (s : State),
    Writes s req (VALVE_CMD v) (id ++ (0x80 : BitVec 8) ++ (0 : BitVec 16)) → s.refuses v = none → s.vst v = 0 →
    s.on (vsDutyLim v) = false → s.bankSupply (v.val / 8) = true → (s.bank (v.val / 8)).queue = [] → s.fits v = true →
    s.hsOn (v.val / 8) = true → (s.chan v).relItem = none → (s.chan v).decay = false →
    ∃ t, exec (.valveContinuous req v id) s = .next t ∧ t.vst v = 3 ∧ t.hsOn (v.val / 8) = true ∧
      t.get (VALVE_STATUS_ITEM_ID v) = id.toNat ∧ t.get (VALVE_STATUS_CONT v) = 1 ∧
      (t.chan v).item = some id.toNat ∧ (t.chan v).window = decide (s.get (VALVE_DETECT_DIP_THR v) ≠ 0) ∧
      (∀ u, u ≠ v.val → t.chan u = s.chan u) ∧ t.bank = s.bank ∧
      SameRegs [VALVE_STATUS v, VALVE_BANK_STATUS (v.val / 8), VALVE_BANK_FAULT (v.val / 8)] s t ∧ t.log = s.log) ∧
  (∀ (req : Nat) (v : Fin 96) (id : BitVec 8) (ms : BitVec 16) (s : State),
    Writes s req (VALVE_CMD v) (id ++ (0x40 : BitVec 8) ++ ms) → s.refuses v = none → s.vst v = 0 →
    s.on (vsDutyLim v) = false → s.bankSupply (v.val / 8) = true → s.fits v = false →
    s.get (VALVE_PROFILE_DEFER_MS v) ≠ 0 →
    ∃ t, exec (.valveTimed req v id ms) s = .next t ∧ t.vst v = 1 ∧
      (t.bank (v.val / 8)).queue = (s.bank (v.val / 8)).queue ++ [v.val] ∧
      (t.chan v).deferred = some (id.toNat, false, ms.toNat) ∧ t.get (VALVE_STATUS_ITEM_ID v) = id.toNat ∧
      t.get (VALVE_BANK_STATS_DEFERRALS (v.val / 8)) = (s.get (VALVE_BANK_STATS_DEFERRALS (v.val / 8)) + 1) % 65536 ∧
      (t.bank (v.val / 8)).cq = (s.bank (v.val / 8)).cq ∧ (∀ u, u ≠ v.val → t.chan u = s.chan u) ∧
      SameRegs [VALVE_STATUS v, VALVE_BANK_STATS (v.val / 8), VALVE_BANK_STATUS (v.val / 8),
        VALVE_BANK_FAULT (v.val / 8)] s t ∧ t.log = s.log) ∧
  (∀ (req : Nat) (v : Fin 96) (id : BitVec 8) (ms : BitVec 16) (s : State),
    Writes s req (VALVE_CMD v) (id ++ (0x40 : BitVec 8) ++ ms) → s.refuses v = none → s.vst v = 0 →
    s.on (vsDutyLim v) = false → s.bankSupply (v.val / 8) = true → s.fits v = false →
    s.get (VALVE_PROFILE_DEFER_MS v) = 0 →
    ∃ t, exec (.valveTimed req v id ms) s = .next t ∧ ItemEnds v id.toNat 1 0x01 s t ∧ t.valve.chans = s.valve.chans ∧
      t.get (VALVE_BANK_STATS_DEFER_FAILS (v.val / 8)) = (s.get (VALVE_BANK_STATS_DEFER_FAILS (v.val / 8)) + 1) % 256 ∧
      SameRegs [VALVE_CQ (v.val / 8), VALVE_CQ_CTRL (v.val / 8), VALVE_BANK_STATS (v.val / 8)] s t ∧ t.log = s.log) ∧
  (∀ (req : Nat) (v : Fin 96) (id : BitVec 8) (ms : BitVec 16) (s : State),
    Writes s req (VALVE_CMD v) (id ++ (0x40 : BitVec 8) ++ ms) → s.refuses v = none → s.vst v = 0 →
    s.on (vsDutyLim v) = false → s.bankSupply (v.val / 8) = false →
    ∃ t, exec (.valveTimed req v id ms) s = .next t ∧ ItemEnds v id.toNat 1 0x02 s t ∧ t.valve.chans = s.valve.chans ∧
      SameRegs [VALVE_CQ (v.val / 8), VALVE_CQ_CTRL (v.val / 8), VALVE_BANK_STATS (v.val / 8)] s t ∧ t.log = s.log) ∧
  (∀ (req r : Nat) (v : Fin 96) (id : BitVec 8) (ms : BitVec 16) (s : State),
    Writes s req (VALVE_CMD v) (id ++ (0x40 : BitVec 8) ++ ms) → s.refuses v = some r →
    ∃ t, exec (.valveTimed req v id ms) s = .next t ∧ ItemEnds v id.toNat 1 r s t ∧ t.valve.chans = s.valve.chans ∧
      SameRegs [VALVE_CQ (v.val / 8), VALVE_CQ_CTRL (v.val / 8)] s t ∧ t.log = s.log) ∧
  (∀ (req old : Nat) (v : Fin 96) (id : BitVec 8) (ms : BitVec 16) (s : State),
    Writes s req (VALVE_CMD v) (id ++ (0x40 : BitVec 8) ++ ms) → s.refuses v = none → s.vst v = 5 →
    s.on (vsDutyLim v) = false → s.on (VALVE_STATUS_CONT v) = false → (s.chan v).item = some old →
    ∃ t, exec (.valveTimed req v id ms) s = .next t ∧ t.vst v = 5 ∧ t.chan v = { s.chan v with
        item := some id.toNat, holdEnd := max (s.chan v).holdEnd (s.tim.mono + 1000 * ms.toNat) } ∧
      t.get (VALVE_STATUS_ITEM_ID v) = id.toNat ∧ ItemEnds v old 2 0x01 s t ∧
      (∀ u, u ≠ v.val → t.chan u = s.chan u) ∧
      SameRegs [VALVE_STATUS v, VALVE_CQ (v.val / 8), VALVE_CQ_CTRL (v.val / 8)] s t ∧ t.log = s.log) ∧
  (∀ (req it : Nat) (v : Fin 96) (id : BitVec 8) (s : State),
    Writes s req (VALVE_CMD v) (id ++ (0xC0 : BitVec 8) ++ (0 : BitVec 16)) → s.refuses v = none →
    (s.vst v = 3 ∨ s.vst v = 4 ∨ s.vst v = 5) → (s.chan v).window = false → (s.chan v).probeDue = 0 →
    (s.chan v).verdict = none → (s.chan v).item = some it → (s.bank (v.val / 8)).queue = [] →
    ∃ t, exec (.valveStop req v id) s = .next t ∧ t.vst v = 6 ∧ (t.chan v).relItem = some (it, 0, 0) ∧
      (t.chan v).decay = true ∧ ItemEnds v id.toNat 0 0 s t ∧ (∀ u, u ≠ v.val → t.chan u = s.chan u) ∧
      SameRegs [VALVE_STATUS v, VALVE_BANK_STATUS (v.val / 8), VALVE_BANK_FAULT (v.val / 8), VALVE_CQ (v.val / 8),
        VALVE_CQ_CTRL (v.val / 8)] s t ∧ t.log = s.log) ∧
  (∀ (req : Nat) (v : Fin 96) (id : BitVec 8) (s : State),
    Writes s req (VALVE_CMD v) (id ++ (0xC0 : BitVec 8) ++ (0 : BitVec 16)) →
    (s.vst v = 0 ∨ s.vst v = 6 ∨ s.vst v = 7 ∨ s.vst v = 8 ∨ s.refuses v ≠ none) →
    ∃ t, exec (.valveStop req v id) s = .next t ∧ ItemEnds v id.toNat 0 0 s t ∧ t.valve.chans = s.valve.chans ∧
      SameRegs [VALVE_CQ (v.val / 8), VALVE_CQ_CTRL (v.val / 8)] s t ∧ t.log = s.log)

/-- PREARM ends in RISE; the peak target takes it to PEAK and closes the motion window with MOTION 1 and the dip found,
or MOTION 2 and record 0x3001; the peak time ends in HOLD, or in RELEASE with no hold; the hold's end is a release;
below 20 mA the released item ends and the channel is IDLE; a deferred command that cannot be admitted after
DEFER_MS fails 0x01 with record 0x3002; LINGER_MS opens the high-side switch when no channel needs it. Where an
event does not apply nothing changes (DESIGN CHOICE, log entry 1). The model's own choices it rests on: log entry
115. From parts of R344, R345, R347, R351, R353, R357. -/
def Obligations.ValvePhases : Prop :=
  (∀ (v : Fin 96) (s : State), s.vst v = 2 →
    ∃ t, exec (.prearmEnd v) s = .next t ∧ t.vst v = 3 ∧
      (t.chan v).window = ((s.chan v).fromIdle && decide (s.get (VALVE_DETECT_DIP_THR v) ≠ 0)) ∧
      (t.chan v).item = (s.chan v).item ∧ (∀ u, u ≠ v.val → t.chan u = s.chan u) ∧
      SameRegs [VALVE_STATUS v, VALVE_BANK_STATUS (v.val / 8), VALVE_BANK_FAULT (v.val / 8)] s t ∧ t.log = s.log) ∧
  (∀ (v : Fin 96) (s : State), s.vst v ≠ 2 → exec (.prearmEnd v) s = .next s) ∧
  (∀ (v : Fin 96) (l : List Nat) (lo i : Nat) (s : State), s.vst v = 3 → (s.chan v).window = true →
    (s.judge v l).low = some (lo, i) →
    ∃ t, exec (.peakReached v l) s = .next t ∧ t.vst v = 4 ∧ t.get (VALVE_STATUS_MOTION v) = 1 ∧
      t.get (VALVE_MOTION_MOTION_US v) = min i 65535 ∧ t.get (VALVE_MOTION_DIP_MA v) = min ((s.judge v l).imax - lo) 65535 ∧
      t.get (vsStuckRun v) = 0 ∧ (t.chan v).window = false ∧ (t.chan v).reached = true ∧ (t.chan v).judged = 1 ∧
      SameRegs [VALVE_STATUS v, VALVE_MOTION v, VALVE_BANK_STATUS (v.val / 8), VALVE_BANK_FAULT (v.val / 8)] s t ∧
      t.log = s.log) ∧
  (∀ (v : Fin 96) (l : List Nat) (s : State), s.vst v = 3 → (s.chan v).window = true → (s.judge v l).low = none →
    Room s (portValve (v.val / 8)) →
    ∃ t, exec (.peakReached v l) s = .next t ∧ t.vst v = 4 ∧ t.get (VALVE_STATUS_MOTION v) = 2 ∧
      (t.chan v).probeDue = 1 ∧ (t.chan v).judged = 2 ∧
      SameRegs [VALVE_STATUS v, VALVE_BANK_STATUS (v.val / 8), VALVE_BANK_FAULT (v.val / 8)] s t ∧
      Logged (portValve (v.val / 8)) 0x3001 v l.length (s.judge v l).imax s t) ∧
  (∀ (v : Fin 96) (l : List Nat) (s : State), s.vst v ≠ 3 → exec (.peakReached v l) s = .next s) ∧
  (∀ (v : Fin 96) (l : List Nat) (s : State), s.vst v = 4 → (s.chan v).window = false → (s.chan v).reached = true →
    (s.chan v).hold ≠ 0 → (∃ x ∈ l, 50 ≤ x) → s.get (VALVE_PROT_R_NOM v) ≠ 0 → (s.bank (v.val / 8)).queue = [] →
    ∃ t, exec (.peakTimeEnd v l) s = .next t ∧ t.vst v = 5 ∧
      (t.chan v).holdEnd = s.tim.mono + 1000 * (s.chan v).hold ∧ (t.chan v).item = (s.chan v).item ∧
      t.get (VALVE_STATUS_PEAK_LOW v) = 0 ∧ (∀ u, u ≠ v.val → t.chan u = s.chan u) ∧
      SameRegs [VALVE_STATUS v, VALVE_BANK_STATUS (v.val / 8), VALVE_BANK_FAULT (v.val / 8)] s t ∧ t.log = s.log) ∧
  (∀ (v : Fin 96) (l : List Nat) (it : Nat) (s : State), s.vst v = 4 → (s.chan v).window = false →
    (s.chan v).reached = true → (s.chan v).hold = 0 → s.on (VALVE_STATUS_CONT v) = false → (∃ x ∈ l, 50 ≤ x) →
    (s.chan v).probeDue = 0 → (s.chan v).verdict = none → (s.chan v).item = some it → (s.bank (v.val / 8)).queue = [] →
    ∃ t, exec (.peakTimeEnd v l) s = .next t ∧ t.vst v = 6 ∧ (t.chan v).relItem = some (it, 0, 0) ∧
      SameRegs [VALVE_STATUS v, VALVE_BANK_STATUS (v.val / 8), VALVE_BANK_FAULT (v.val / 8)] s t ∧ t.log = s.log) ∧
  (∀ (v : Fin 96) (l : List Nat) (s : State), s.vst v ≠ 3 → s.vst v ≠ 4 → exec (.peakTimeEnd v l) s = .next s) ∧
  (∀ (v : Fin 96) (it : Nat) (s : State), s.vst v = 5 → s.on (VALVE_STATUS_CONT v) = false → (s.chan v).holdEnd ≤ s.tim.mono →
    (s.chan v).window = false → (s.chan v).probeDue = 0 → (s.chan v).item = some it → (s.bank (v.val / 8)).queue = [] →
    ∃ t, exec (.holdEnd v) s = .next t ∧ t.vst v = 6 ∧ (t.chan v).decay = true ∧
      (t.chan v).relItem = some (match (s.chan v).verdict with
        | some r => (it, 1, r)
        | none => (it, 0, 0)) ∧ (∀ u, u ≠ v.val → t.chan u = s.chan u) ∧
      SameRegs [VALVE_STATUS v, VALVE_BANK_STATUS (v.val / 8), VALVE_BANK_FAULT (v.val / 8)] s t ∧ t.log = s.log) ∧
  (∀ (v : Fin 96) (s : State), (s.vst v ≠ 5 ∨ s.on (VALVE_STATUS_CONT v) = true ∨ s.tim.mono < (s.chan v).holdEnd) →
    exec (.holdEnd v) s = .next s) ∧
  (∀ (v : Fin 96) (id st r : Nat) (s : State), (s.chan v).decay = true → s.vst v = 6 →
    (s.chan v).relItem = some (id, st, r) → (s.chan v).stuck = false → s.rel.tests = [] →
    ∃ t, exec (.releaseDone v) s = .next t ∧ t.vst v = 0 ∧ t.chan v = { s.chan v with decay := false, stuck := false, relItem := none } ∧
      ItemEnds v id st r s t ∧ (∀ u, u ≠ v.val → t.chan u = s.chan u) ∧
      SameRegs [VALVE_STATUS v, VALVE_BANK_STATUS (v.val / 8), VALVE_BANK_FAULT (v.val / 8), VALVE_CQ (v.val / 8),
        VALVE_CQ_CTRL (v.val / 8), VALVE_BANK_STATS (v.val / 8)] s t ∧ t.log = s.log) ∧
  (∀ (v : Fin 96) (s : State), (s.chan v).decay = false → exec (.releaseDone v) s = .next s) ∧
  (∀ (b : Fin 12) (s : State), s.hsNeeded b = false →
    ∃ t, exec (.lingerEnd b) s = .next t ∧ t.hsOn b = false ∧ OnlyRegs [VALVE_BANK_STATUS b] s t) ∧
  (∀ (b : Fin 12) (s : State), s.hsNeeded b = true → exec (.lingerEnd b) s = .next s) ∧
  (∀ (v : Fin 96) (id ms : Nat) (c : Bool) (s : State), s.vst v = 1 → (s.bank (v.val / 8)).queue = [v.val] →
    s.bankSupply (v.val / 8) = true → s.fits v = false → (s.chan v).deferred = some (id, c, ms) →
    (s.chan v).decay = false → s.rel.tests = [] → Room s (portValve (v.val / 8)) →
    ∃ t, exec (.deferTimeout v) s = .next t ∧ t.vst v = 0 ∧ (t.bank (v.val / 8)).queue = [] ∧
      (t.chan v).deferred = none ∧ ItemEnds v id 1 0x01 s t ∧
      Logged (portValve (v.val / 8)) 0x3002 v id (s.get (VALVE_PROFILE_DEFER_MS v) * 65536 + 1) s t) ∧
  (∀ (v : Fin 96) (s : State), s.vst v ≠ 1 → exec (.deferTimeout v) s = .next s)

/-- More than 6.0 A in a profile from IDLE faults the channel SHORT, less than 50 mA OPEN, each with records 0x3006 and
0x3007 and the item's outcome; the probe's verdict is OPEN, SHORT, or STUCK, which lets the profile run on and
faults the channel with the third in a row; the duty intervals are counted each millisecond, and DUTY_LIM is set and
the record 0x3004 written at LIMIT; a stage error starts the check of an IDLE channel; the clear action ends a
fault. Where an event does not apply nothing changes (DESIGN CHOICE, log entry 1). The model's own choices it rests
on: log entries 116, 117, 152. From parts of R361 to R366, R450. -/
def Obligations.ValveVerdicts : Prop :=
  (∀ (v : Fin 96) (it : Nat) (s : State), (s.vst v = 3 ∨ s.vst v = 4 ∨ s.vst v = 5) → (s.chan v).fromIdle = true →
    (s.chan v).window = false → (s.chan v).item = some it → (s.bank (v.val / 8)).queue = [] →
    s.mpUp = true →
    (s.log.fifo (portValve (v.val / 8))).length + 2 ≤ 16 →
    ∃ t, exec (.valveShortTrip v) s = .next t ∧ t.vst v = 7 ∧ t.get (vsFault v) = 2 ∧
      (t.chan v).relItem = some (it, 1, 0x12) ∧ (t.chan v).decay = true ∧
      SameRegs [VALVE_STATUS v, VALVE_BANK_STATUS (v.val / 8), VALVE_BANK_FAULT (v.val / 8)] s t ∧
      Newest (portValve (v.val / 8)) 0x3007 v 2 it t) ∧
  (∀ (v : Fin 96) (s : State), ((s.vst v ≠ 3 ∧ s.vst v ≠ 4 ∧ s.vst v ≠ 5) ∨ (s.chan v).fromIdle = false) →
    exec (.valveShortTrip v) s = .next s) ∧
  (∀ (v : Fin 96) (l : List Nat) (it : Nat) (s : State), s.vst v = 3 → (s.chan v).fromIdle = true →
    (s.chan v).window = false → (s.chan v).reached = false → (∀ x ∈ l, x < 50) → (s.chan v).item = some it →
    (s.bank (v.val / 8)).queue = [] → s.mpUp = true →
    (s.log.fifo (portValve (v.val / 8))).length + 3 ≤ 16 →
    ∃ t, exec (.peakTimeEnd v l) s = .next t ∧ t.vst v = 7 ∧ t.get (vsFault v) = 1 ∧
      t.get (VALVE_STATUS_PEAK_LOW v) = 1 ∧ (t.chan v).relItem = some (it, 1, 0x11) ∧
      SameRegs [VALVE_STATUS v, VALVE_BANK_STATUS (v.val / 8), VALVE_BANK_FAULT (v.val / 8)] s t ∧
      Newest (portValve (v.val / 8)) 0x3007 v 1 it t) ∧
  (∀ (v : Fin 96) (s : State), s.vst v = 5 → (s.chan v).probeDue ≠ 0 → s.get (VALVE_PROT_R_NOM v) ≠ 0 →
    ∃ t, exec (.valveProbeStart v) s = .next t ∧ t.get (vsProbeBusy v) = 1 ∧ OnlyRegs [VALVE_STATUS v] s t) ∧
  (∀ (v : Fin 96) (s : State), (s.vst v ≠ 5 ∨ (s.chan v).probeDue = 0) → exec (.valveProbeStart v) s = .next s) ∧
  (∀ (v : Fin 96) (dMin ma mv : Nat) (p : ProbeMean) (s : State), s.on (vsProbeBusy v) = true → ma ≠ 0 → p.stop = none → dMin < 64226 →
    (70 * (500 * s.get (VALVE_PROT_R_NOM v)) * rMeasDen ma : Nat) ≤ 100 * rMeasNum p.d ma mv →
    100 * rMeasNum p.d ma mv ≤ (130 * (500 * s.get (VALVE_PROT_R_NOM v)) * rMeasDen ma : Nat) →
    Room s (portValve (v.val / 8)) →
    ∃ t, exec (.probeDone v dMin p ma mv) s = .next t ∧ t.vst v = s.vst v ∧ t.get (vsProbeBusy v) = 0 ∧
      t.chan v = { s.chan v with probeDue := 0, verdict := some 0x13, stuck := decide (2 ≤ s.get (vsStuckRun v)) } ∧
      t.get (vsStuckRun v) = min 3 (s.get (vsStuckRun v) + 1) ∧ SameRegs [VALVE_STATUS v] s t ∧
      Logged (portValve (v.val / 8)) 0x3006 v 3 (par (rMeasNum p.d ma mv / rMeasDen ma)) s t) ∧
  (∀ (v : Fin 96) (dMin ma mv it : Nat) (p : ProbeMean) (s : State), s.on (vsProbeBusy v) = true → ma ≠ 0 → p.stop = none → 64226 ≤ dMin →
    (s.chan v).window = false → (s.chan v).item = some it → (s.bank (v.val / 8)).queue = [] → s.vst v = 5 →
    s.mpUp = true →
    (s.log.fifo (portValve (v.val / 8))).length + 2 ≤ 16 →
    ∃ t, exec (.probeDone v dMin p ma mv) s = .next t ∧ t.vst v = 7 ∧ t.get (vsFault v) = 1 ∧
      (t.chan v).relItem = some (it, 1, 0x11) ∧ Newest (portValve (v.val / 8)) 0x3007 v 1 it t) ∧
  (∀ (v : Fin 96) (dMin ma mv it : Nat) (p : ProbeMean) (s : State), s.on (vsProbeBusy v) = true → ma ≠ 0 → p.stop = none → dMin < 64226 →
    100 * rMeasNum p.d ma mv < (70 * (500 * s.get (VALVE_PROT_R_NOM v)) * rMeasDen ma : Nat) →
    (s.chan v).window = false → (s.chan v).item = some it → (s.bank (v.val / 8)).queue = [] → s.vst v = 5 →
    s.mpUp = true →
    (s.log.fifo (portValve (v.val / 8))).length + 2 ≤ 16 →
    ∃ t, exec (.probeDone v dMin p ma mv) s = .next t ∧ t.vst v = 7 ∧ t.get (vsFault v) = 2 ∧
      (t.chan v).relItem = some (it, 1, 0x12) ∧ Newest (portValve (v.val / 8)) 0x3007 v 2 it t) ∧
  (∀ (v : Fin 96) (dMin ma mv it : Nat) (id : BitVec 8) (p : ProbeMean) (s : State), s.on (vsProbeBusy v) = true →
    p.stop = some id → (s.chan v).window = false → (s.chan v).item = some it → (s.bank (v.val / 8)).queue = [] →
    s.vst v = 5 → Room s (portValve (v.val / 8)) →
    ∃ t, exec (.probeDone v dMin p ma mv) s = .next t ∧ t.vst v = 6 ∧ (t.chan v).relItem = some (it, 0, 0) ∧
      t.get (vsStuckRun v) = s.get (vsStuckRun v) ∧ t.get (vsFault v) = s.get (vsFault v) ∧ ItemEnds v id.toNat 0 0 s t) ∧
  (∀ (v : Fin 96) (dMin ma mv : Nat) (p : ProbeMean) (s : State), s.on (vsProbeBusy v) = false →
    exec (.probeDone v dMin p ma mv) s = .next s) ∧
  (∀ (v : Fin 96) (id : Nat) (s : State), (s.chan v).decay = true → s.vst v = 6 → (s.chan v).stuck = true →
    (s.chan v).relItem = some (id, 1, 0x13) → s.rel.tests = [] → Room s (portValve (v.val / 8)) →
    ∃ t, exec (.releaseDone v) s = .next t ∧ t.vst v = 7 ∧ t.get (vsFault v) = 3 ∧ ItemEnds v id 1 0x13 s t ∧
      Logged (portValve (v.val / 8)) 0x3007 v 3 id s t) ∧
  (∀ (v : Fin 96) (s : State), s.on (vsDutyLim v) = false → s.get (VALVE_PROT_LIMIT v) = 0 →
    ∃ t, exec (.dutyIntervalEnd v) s = .next t ∧ t.chan v = { s.chan v with
        intervals := (s.chan v).intervals + 1, touched := isOn (s.vst v)
        energised := (if (s.chan v).touched || isOn (s.vst v) then ((s.chan v).intervals + 1) :: (s.chan v).energised
          else (s.chan v).energised).filter (fun i => decide ((s.chan v).intervals + 1 < i + 60000)) } ∧
      t.get (VALVE_PROT_DUTY_USED v) = t.dutyUsed v ∧ (∀ u, u ≠ v.val → t.chan u = s.chan u) ∧
      SameRegs [VALVE_PROT v] s t ∧ t.log = s.log) ∧
  (∀ (v : Fin 96) (s : State), s.on (vsDutyLim v) = false → isOn (s.vst v) = false →
    s.get (VALVE_PROT_LIMIT v) ≠ 0 → Room s (portValve (v.val / 8)) →
    ∃ t, exec (.dutyIntervalEnd v) s = .next t ∧ t.get (VALVE_PROT_DUTY_USED v) = t.dutyUsed v ∧ t.vst v = s.vst v ∧
      t.get (vsDutyLim v) = (if s.get (VALVE_PROT_LIMIT v) ≤ t.dutyUsed v then 1 else 0) ∧
      (s.get (VALVE_PROT_LIMIT v) ≤ t.dutyUsed v →
        Logged (portValve (v.val / 8)) 0x3004 v (s.get (VALVE_PROT_LIMIT v)) (s.get (VALVE_PROT_WINDOW_S v)) s t) ∧
      SameRegs [VALVE_PROT v, VALVE_STATUS v, VALVE_BANK_STATUS (v.val / 8), VALVE_BANK_FAULT (v.val / 8)] s t) ∧
  (∀ (v : Fin 96) (s : State), s.rel.tests = [] → s.relBusy (.valve v) = false →
    s.recentTransients (.valve v) < s.get REL_CFG_REPEAT_N → s.vst v = 0 → (s.chan v).decay = false →
    ∃ t, exec (.valveStageError v) s = .next t ∧ t.testing (.valve v) = true ∧ t.vst v = 0 ∧ t.log = s.log) ∧
  (∀ (v : Fin 96) (s : State), s.relBusy (.valve v) = true → exec (.valveStageError v) s = .next s) ∧
  (∀ (req : Nat) (v : Fin 96) (s : State),
    Writes s req (VALVE_BANK_CTRL (v.val / 8)) (BitVec.ofNat 32 (0x7A1E0005 + 16 * (v.val % 8))) → s.vst v = 7 →
    (s.chan v).decay = false → s.rel.tests = [] → Room s (portValve (v.val / 8)) →
    ∃ t, exec (.valveClearFault req v) s = .next t ∧ t.vst v = 0 ∧ t.get (vsFault v) = 0 ∧
      t.valve.chans = s.valve.chans ∧
      SameRegs [VALVE_STATUS v, VALVE_BANK_STATUS (v.val / 8), VALVE_BANK_FAULT (v.val / 8)] s t ∧
      Logged (portValve (v.val / 8)) 0x3008 v 0 0 s t)

/-- Disabling a bank makes its channels DISABLED with BY_BANK, opens its high-side switch and leaves record 0x3009, and
enabling it makes them IDLE; a channel disabled in HOLD is cut and its item fails 0x16 when its release ends; POP
with the SEQ of the oldest entry removes it, and any other POP is a violation; a minute's lost entries are record
0x3010; the averages of a die over 6,000 mW leave record 0x3011. Where an event does not apply nothing changes
(DESIGN CHOICE, log entry 1). The model's own choices it rests on: log entry 25. From parts of R366, R368, R371,
R374. -/
def Obligations.ValveBankControl : Prop :=
  (∀ (req : Nat) (b : Fin 12) (s : State), Writes s req (VALVE_BANK_CTRL b) 0x7A1E0001 → (s.bank b).queue = [] →
    (∀ c, c < 8 → s.vst (8 * b.val + c) = 0) → Room s (portValve b) →
    ∃ t, exec (.valveBankDisable req b) s = .next t ∧ t.get (VALVE_BANK_FAULT_BANK_DISABLED b) = 1 ∧ t.hsOn b = false ∧
      (∀ c, c < 8 → t.vst (8 * b.val + c) = 8 ∧ t.get (vsByBank (8 * b.val + c)) = 1) ∧
      (t.bank b).cq = (s.bank b).cq ∧ (∀ v, v / 8 ≠ b.val → t.vst v = s.vst v) ∧
      Logged (portValve b) 0x3009 b 0xFF01 0 s t) ∧
  (∀ (req : Nat) (b : Fin 12) (s : State), Writes s req (VALVE_BANK_CTRL b) 0x7A1E0002 → s.rel.tests = [] →
    (∀ c, c < 8 → s.vst (8 * b.val + c) = 8 ∧ s.get (vsFault (8 * b.val + c)) = 0 ∧
      (s.chan (8 * b.val + c)).decay = false) → Room s (portValve b) →
    ∃ t, exec (.valveBankEnable req b) s = .next t ∧ t.get (VALVE_BANK_FAULT_BANK_DISABLED b) = 0 ∧
      (∀ c, c < 8 → t.vst (8 * b.val + c) = (if (s.chan (8 * b.val + c)).disSelf then 8 else 0)) ∧
      (∀ v, v / 8 ≠ b.val → t.vst v = s.vst v) ∧ Logged (portValve b) 0x3009 b 0xFF00 0 s t) ∧
  (∀ (req : Nat) (v : Fin 96) (s : State),
    Writes s req (VALVE_BANK_CTRL (v.val / 8)) (BitVec.ofNat 32 (0x7A1E0003 + 16 * (v.val % 8))) → s.vst v = 0 →
    (s.bank (v.val / 8)).queue = [] → Room s (portValve (v.val / 8)) →
    ∃ t, exec (.valveChannelDisable req v) s = .next t ∧ t.vst v = 8 ∧ t.chan v = { s.chan v with disSelf := true } ∧
      (∀ u, u ≠ v.val → t.chan u = s.chan u) ∧
      SameRegs [VALVE_STATUS v, VALVE_BANK_STATUS (v.val / 8), VALVE_BANK_FAULT (v.val / 8)] s t ∧
      Logged (portValve (v.val / 8)) 0x3009 (v.val / 8) (v.val % 8 * 256 + 1) 0 s t) ∧
  (∀ (req it : Nat) (v : Fin 96) (s : State),
    Writes s req (VALVE_BANK_CTRL (v.val / 8)) (BitVec.ofNat 32 (0x7A1E0003 + 16 * (v.val % 8))) → s.vst v = 5 →
    (s.chan v).window = false → (s.chan v).probeDue = 0 → (s.chan v).item = some it → (s.bank (v.val / 8)).queue = [] →
    Room s (portValve (v.val / 8)) →
    ∃ t, exec (.valveChannelDisable req v) s = .next t ∧ t.vst v = 8 ∧ (t.chan v).relItem = some (it, 1, 0x16) ∧
      (t.chan v).decay = true ∧ (t.chan v).disSelf = true ∧
      Logged (portValve (v.val / 8)) 0x3009 (v.val / 8) (v.val % 8 * 256 + 1) 0 s t) ∧
  (∀ (req : Nat) (v : Fin 96) (s : State),
    Writes s req (VALVE_BANK_CTRL (v.val / 8)) (BitVec.ofNat 32 (0x7A1E0004 + 16 * (v.val % 8))) → s.vst v = 8 →
    s.on (VALVE_BANK_FAULT_BANK_DISABLED (v.val / 8)) = false → (s.chan v).decay = false → s.rel.tests = [] →
    Room s (portValve (v.val / 8)) →
    ∃ t, exec (.valveChannelEnable req v) s = .next t ∧
      t.vst v = (if s.get (vsFault v) = 0 then 0 else 7) ∧ t.chan v = { s.chan v with disSelf := false } ∧
      (∀ u, u ≠ v.val → t.chan u = s.chan u) ∧
      SameRegs [VALVE_STATUS v, VALVE_BANK_STATUS (v.val / 8), VALVE_BANK_FAULT (v.val / 8)] s t ∧
      Logged (portValve (v.val / 8)) 0x3009 (v.val / 8) (v.val % 8 * 256) 0 s t) ∧
  (∀ (req : Nat) (b : Fin 12) (seq : BitVec 8) (e : CqEntry) (q : List CqEntry) (s : State),
    Writes s req (VALVE_CQ_CTRL b) (BitVec.ofNat 32 (0x80000000 + 65536 * seq.toNat)) → (s.bank b).cq = e :: q →
    q.length < 32 →
    ∃ t, exec (.valveCqPop req b seq) s = .next t ∧ (t.bank b).cq = q ∧ t.get (VALVE_CQ_CTRL_COUNT b) = q.length ∧
      (t.bank b).nextSeq = (s.bank b).nextSeq ∧ SameRegs [VALVE_CQ b, VALVE_CQ_CTRL b] s t ∧ t.log = s.log) ∧
  (∀ (req : Nat) (b : Fin 12) (seq : BitVec 8) (s : State), s.mpUp = true → (s.loading = false ∨ req = 2) →
    s.waitsBehind (VALVE_CQ_CTRL b) = false → s.cqPopOk b seq.toNat = false →
    ∃ t, exec (.valveCqPop req b seq) s = .next t ∧
      t.get SYS_VIOL_COUNT_TOTAL = (s.get SYS_VIOL_COUNT_TOTAL + 1) % 65536 ∧ OnlyRegs [SYS_VIOL_COUNT] s t) ∧
  (∀ (b : Fin 12) (s : State), (s.bank b).lostMinute ≠ 0 → Room s (portValve b) →
    ∃ t, exec (.valveCqLossMinute b) s = .next t ∧ t.bank b = { s.bank b with lostMinute := 0 } ∧ t.regs = s.regs ∧
      Logged (portValve b) 0x3010 b (s.bank b).lostMinute 0 s t) ∧
  (∀ (b : Fin 12) (s : State), (s.bank b).lostMinute = 0 → exec (.valveCqLossMinute b) s = .next s) ∧
  (∀ (die : Fin 2) (c60 c1 : List ChopRun) (h60 h1 : List HsRun) (s : State),
    ∃ t, exec (.stageBudgetCheck die c60 c1 h60 h1) s = .next t ∧
      (∀ b ∈ dieBanks die, s.stageNum b c60 h60 % s.stageDen b 60 = 0 →
        t.get (VALVE_BANK_POWER_AVG60_MW b) = min (s.stageNum b c60 h60 / s.stageDen b 60) 65535) ∧
      (6000 < ((dieBanks die).map (fun b => t.get (VALVE_BANK_POWER_AVG60_MW b))).sum →
        tget (fun _ => 0) s.valve.budgetAt die = 0 → Room s (portValve (6 * die.val)) →
        Logged (portValve (6 * die.val)) 0x3011 die
          ((dieBanks die).map (fun b => t.get (VALVE_BANK_POWER_AVG60_MW b))).sum 0 s t) ∧
      (((dieBanks die).map (fun b => t.get (VALVE_BANK_POWER_AVG60_MW b))).sum ≤ 6000 → t.log = s.log) ∧
      t.valve.chans = s.valve.chans ∧
      (∀ a, a ∉ (dieBanks die).map (fun b => VALVE_BANK_POWER b) → a ≠ LOG_DROP 8 → a ≠ LOG_DROP 9 → a ≠ LOG_STATUS →
        t.reg a = s.reg a))

/-- A write of DISP_FB_DATA puts its four bytes into the frame store, marks a changed row dirty and advances OFFSET; GO
starts an update item; the blanking slot that ends it copies every dirty row with the on-times min(4095, round(gamma
× G / 16384)), clears the dirty bits and HOLD; a lit frame ages each subpixel by its current times its on-time,
carrying the fraction; the recomputed gains mark their changed rows; the hourly save keeps the counters. The model's
own choices it rests on: log entry 126. From parts of R405, R407, R408, R411, R412. -/
def Obligations.PanelFrames : Prop :=
  (∀ (req : Nat) (v : Word) (s : State), Writes s req DISP_FB_DATA v → s.get DISP_FB_SEL_OFFSET ≤ 1532 →
    ∃ t, exec (.dispFbWrite req v) s = .next t ∧
      (∀ k, tget (fun _ => 0) t.disp.fb k =
        (if s.get DISP_FB_SEL_OFFSET ≤ k ∧ k < s.get DISP_FB_SEL_OFFSET + 4 then
          BitVec.ofNat 8 (v.toNat >>> (8 * (k - s.get DISP_FB_SEL_OFFSET))) else tget (fun _ => 0) s.disp.fb k)) ∧
      (∀ k, tget (fun _ => 0) t.disp.fb k ≠ tget (fun _ => 0) s.disp.fb k →
        (t.get DISP_DIRTY_ROWS).testBit (k / 96) = true) ∧
      t.get DISP_FB_SEL_OFFSET = (if s.on DISP_FB_SEL_AUTO_INC = false then s.get DISP_FB_SEL_OFFSET
        else if s.get DISP_FB_SEL_OFFSET = 1532 then 0 else s.get DISP_FB_SEL_OFFSET + 4) ∧
      { t.disp with fb := s.disp.fb } = s.disp ∧ SameRegs [DISP_DIRTY, DISP_FB_SEL] s t ∧ t.log = s.log) ∧
  (∀ (req : Nat) (v : Word) (s : State), Writes s req DISP_COMMIT (0x80000000 ||| v) →
    ∃ t, exec (.dispCommitGo req v) s = .next t ∧ t.get DISP_COMMIT_BUSY = 1 ∧ t.get DISP_COMMIT_ID = bits v 15 8 ∧
      t.get DISP_COMMIT_HOLD = bits v 29 29 ∧ t.disp = s.disp ∧ SameRegs [DISP_COMMIT] s t ∧ t.log = s.log) ∧
  (∀ (vf : Nat) (s : State), s.on DISP_CFG_PRESENT = true → s.disp.assets = true → s.doorFenced = false →
    s.panelHeld = false → s.panel = 3 → s.disp.lightNext = false → s.shownImage = 255 → s.on DISP_COMMIT_BUSY = true →
    ∃ t, exec (.panelBlankingSlot vf) s = .next t ∧ t.get DISP_COMMIT_BUSY = 0 ∧ t.get DISP_COMMIT_HOLD = 0 ∧
      t.get DISP_COMMIT_STATUS = 0 ∧ t.get DISP_COMMIT_REASON = 0 ∧ t.get DISP_DIRTY_ROWS = 0 ∧
      (∀ k, k < 1536 → tget (fun _ => 0) t.disp.pwm k =
        (if (s.get DISP_DIRTY_ROWS).testBit (k / 96) then
          min 4095 (pwmRaw (tget (fun _ => 0) s.disp.gamma (256 * (k % 3) + (tget (fun _ => 0) s.disp.fb k).toNat))
            (s.gainOf k))
        else tget (fun _ => 0) s.disp.pwm k)) ∧
      t.disp.fb = s.disp.fb ∧ t.stress = s.stress ∧ SameRegs [DISP_COMMIT, DISP_DIRTY, DISP_STATUS] s t ∧
      t.log = s.log) ∧
  (∀ (vf : Nat) (s : State), s.on DISP_CFG_PRESENT = true → s.disp.assets = true → s.doorFenced = false →
    s.panelHeld = false → s.panel = 3 → s.disp.lightNext = true → s.on PWR_STATUS_VLED_OK = true →
    s.on DISP_COMMIT_BUSY = false → s.on DISP_COMMIT_HOLD = true →
    ∃ t, exec (.panelBlankingSlot vf) s = .next t ∧ t.panel = 2 ∧ t.get DISP_STATUS_DISCHARGED = 0 ∧
      t.disp.pwm = s.disp.pwm ∧ t.disp.lightNext = false ∧ t.stress = s.stress ∧ t.out = s.out ∧
      SameRegs [DISP_STATUS] s t ∧ t.log = s.log) ∧
  (∀ (vf k n : Nat) (s : State), s.on DISP_CFG_PRESENT = true → s.disp.assets = true → s.doorFenced = false →
    s.panelHeld = false → s.panel = 2 → s.on DISP_COMMIT_BUSY = false → s.on DISP_COMMIT_HOLD = true → s.on DISP_CFG_SENSE_EN = false →
    s.disp.pwm = [(k, n)] → k < 1536 →
    ∃ t, exec (.panelBlankingSlot vf) s = .next t ∧
      t.out = (List.range 16).reverse.map (fun y => Output.drive 0 y (s.scanVals y)) ++ s.out ∧
      tget (fun _ => 0) t.stress.frac k =
        (tget (fun _ => 0) s.stress.frac k + tget (fun _ => 0) s.disp.current (k % 3) * n) % 9000000000 ∧
      tget (fun _ => 0) t.stress.s k = (tget (fun _ => 0) s.stress.s k +
        (tget (fun _ => 0) s.stress.frac k + tget (fun _ => 0) s.disp.current (k % 3) * n) / 9000000000) % 2 ^ 32 ∧
      t.disp.pwm = s.disp.pwm ∧ t.regs = s.regs ∧ t.log = s.log) ∧
  (∀ (vf : Nat) (s : State), s.doorFenced = true → s.on DISP_COMMIT_BUSY = true →
    ∃ t, exec (.panelBlankingSlot vf) s = .next t ∧ t.get DISP_COMMIT_BUSY = 0 ∧ t.get DISP_COMMIT_STATUS = 1 ∧
      t.get DISP_COMMIT_REASON = 1 ∧ OnlyRegs [DISP_COMMIT] s t) ∧
  (∀ s : State, s.mpUp = true → ∃ t, exec .gainRecompute s = .next t ∧ (∀ k, k < 1536 → t.gainOf k = (s.newGain k).1) ∧
    (∀ k, k < 1536 → t.gainOf k ≠ s.gainOf k → (t.get DISP_DIRTY_ROWS).testBit (k / 96) = true) ∧
    t.get DISP_STATS_CLIPPED_PIX = min ((List.range 1536).filter (fun k => (s.newGain k).2)).length 255 ∧
    t.stress = s.stress ∧ t.disp.pwm = s.disp.pwm ∧ t.disp.fb = s.disp.fb) ∧
  (∀ s : State, s.mpUp = true → ∃ t, exec .stressSave s = .next t ∧ t.stress = { s.stress with
      savedS := s.stress.s, savedFrac := s.stress.frac, savedVf0 := s.disp.vf0, savedVf0Set := s.on DISP_STATUS_VF0_SET } ∧
    { t with stress := s.stress } = s)

/-- Panel off runs the discharge and ends off, with record 0xB003; wake marks every row dirty and lights the panel from
the next frame; the crack blank is cleared to the state before it, a lit panel from the next frame, off in a sluice
or a halt; clearing the counters leaves record 0xB006; a binding that ends gives the panel back to DISP_SOURCE; an
open crack loop blanks a lit panel with record 0xB001, and one that reads closed again leaves record 0xB002 and the
panel blank. Where an event does not apply nothing changes (DESIGN CHOICE, log entry 1). The model's own choices it
rests on: log entries 150, 38. From parts of R408, R415 to R419. -/
def Obligations.PanelStates : Prop :=
  (∀ (req : Nat) (s : State), Writes s req DISP_CTRL 0xD15E0001 → (s.panel = 2 ∨ s.panel = 5 ∧ s.disp.back = true ∨ s.panel = 3 ∧ s.disp.lightNext = true) → Room s portDisp →
    ∃ t, exec (.dispPanelOff req) s = .next t ∧ t.panel = 6 ∧ t.disp.after = 3 ∧ t.get DISP_STATUS_DISCHARGED = 0 ∧
      t.disp.fb = s.disp.fb ∧ t.disp.gain = s.disp.gain ∧ SameRegs [DISP_STATUS] s t ∧ Logged portDisp 0xB003 1 0 0 s t) ∧
  (∀ (req : Nat) (s : State), Writes s req DISP_CTRL 0xD15E0001 → s.panelWants = false → exec (.dispPanelOff req) s = .next s) ∧
  (∀ s : State, s.panel = 6 → s.disp.after < 16 → s.disp.after ≠ 3 →
    ∃ t, exec .dischargeDone s = .next t ∧ t.panel = s.disp.after ∧ t.get DISP_STATUS_DISCHARGED = 1 ∧
      OnlyRegs [DISP_STATUS] s t) ∧
  (∀ s : State, s.panel = 6 → s.disp.after = 3 → s.disp.assets = true → s.panelHeld = false →
    s.on PWR_STATUS_VLED_OK = true →
    ∃ t, exec .dischargeDone s = .next t ∧ t.panel = 3 ∧ t.get DISP_STATUS_DISCHARGED = 1 ∧ t.disp.lightNext = false ∧
      SameRegs [DISP_STATUS] s t ∧ t.log = s.log) ∧
  (∀ s : State, s.panel ≠ 6 → exec .dischargeDone s = .next s) ∧
  (∀ (req : Nat) (s : State), Writes s req DISP_CTRL 0xD15E0002 → s.panel = 3 → s.disp.lightNext = false →
    Room s portDisp →
    ∃ t, exec (.dispWake req) s = .next t ∧ t.get DISP_DIRTY_ROWS = 65535 ∧ t.disp.lightNext = true ∧ t.panel = 3 ∧
      SameRegs [DISP_DIRTY] s t ∧ Logged portDisp 0xB003 0 0 0 s t) ∧
  (∀ (req : Nat) (s : State), Writes s req DISP_CTRL 0xD15E0003 → s.panel = 4 → s.disp.assets = true →
    s.panelHeld = false → s.on PWR_STATUS_VLED_OK = true →
    ∃ t, exec (.dispClearCrack req) s = .next t ∧ t.panel = 3 ∧ t.disp.lightNext = decide (s.disp.prev ≠ 3) ∧
      t.get DISP_DIRTY_ROWS = (if s.disp.prev = 3 then s.get DISP_DIRTY_ROWS else 65535) ∧
      SameRegs [DISP_STATUS, DISP_DIRTY] s t ∧ t.log = s.log) ∧
  (∀ (req : Nat) (s : State), Writes s req DISP_CTRL 0xD15E0003 → s.panel = 4 → s.disp.assets = true →
    s.panelHeld = true →
    ∃ t, exec (.dispClearCrack req) s = .next t ∧ t.panel = 3 ∧ OnlyRegs [DISP_STATUS] s t) ∧
  (∀ (req : Nat) (s : State), Writes s req DISP_CTRL 0xD15E0004 → Room s portDisp →
    ∃ t, exec (.dispClearStress req) s = .next t ∧ t.stress = { s.stress with s := [], frac := [] } ∧
      t.get DISP_STATUS_VF0_SET = 0 ∧ SameRegs [DISP_STATUS] s t ∧ Logged portDisp 0xB006 req 0 0 s t) ∧
  (∀ s : State, s.disp.showing ≠ none →
    ∃ t, exec .bindingHoldEnd s = .next t ∧ t.disp.showing = none ∧ t.get DISP_STATUS_BINDING = 0 ∧
      t.get DISP_STATUS_SHOWING = s.get DISP_SOURCE_IMAGE ∧ t.get DISP_DIRTY_ROWS = 65535 ∧
      SameRegs [DISP_STATUS, DISP_DIRTY] s t ∧ t.log = s.log) ∧
  (∀ s : State, s.disp.showing = none → exec .bindingHoldEnd s = .next s) ∧
  (∀ (ohms : Nat) (s : State), s.on DISP_CFG_PRESENT = true → 2000 < ohms → ohms < 2 ^ 32 →
    s.on DISP_STATUS_CRACK_OPEN = false → s.panel = 2 → Room s portDisp →
    ∃ t, exec (.crackCheck ohms) s = .next t ∧ t.get DISP_STATUS_CRACK_OPEN = 1 ∧ t.get DISP_STATUS_CRACK_SEEN = 1 ∧
      t.panel = 6 ∧ t.disp.after = 4 ∧ t.disp.prev = 2 ∧
      t.get DISP_STATS_CRACK_OPENS = min (s.get DISP_STATS_CRACK_OPENS + 1) 255 ∧
      SameRegs [DISP_STATUS, DISP_STATS] s t ∧ Logged portDisp 0xB001 ohms 0 0 s t) ∧
  (∀ (ohms : Nat) (s : State), s.on DISP_CFG_PRESENT = true → ohms ≤ 2000 → s.on DISP_STATUS_CRACK_OPEN = true →
    Room s portDisp →
    ∃ t, exec (.crackCheck ohms) s = .next t ∧ t.get DISP_STATUS_CRACK_OPEN = 0 ∧ t.panel = s.panel ∧
      SameRegs [DISP_STATUS] s t ∧ Logged portDisp 0xB002 ((s.optime - s.disp.crackAt) / 1024) 0 0 s t) ∧
  (∀ (ohms : Nat) (s : State), s.on DISP_CFG_PRESENT = false → exec (.crackCheck ohms) s = .next s)

/-- GO makes the strip's item wait, fails 0x02 with record 0xB012 with no strip, and is cancelled in the sluice; at a
frame boundary where the admission holds the waveform latches its band and programs the dirty marker; each frame
drives the 24 segments and shows how its band was found; the first frame of a host update that sees a band two or
more away schedules its repeat with record 0xB011; the last one gives DISP_STRIP_SHOWN the image; the clean marker
ends the item DONE; WAIT_S without admission fails it 0x01 with record 0xB012; between waveforms every segment is
held at VCOM. Where an event does not apply nothing changes (DESIGN CHOICE, log entry 1). The model's own choices it
rests on: log entries 127, 151. From parts of R421, R423 to R426, R429. -/
def Obligations.Strip : Prop :=
  (∀ (req : Nat) (v : Word) (s : State), Writes s req DISP_STRIP_CMD (0x80000000 ||| v) →
    s.on DISP_STRIP_CFG_PRESENT = true → s.pwr.sluice = none → s.strip.run = none →
    ∃ t, exec (.stripGo req v) s = .next t ∧ t.get DISP_STRIP_CMD_BUSY = 1 ∧ t.get DISP_STRIP_CMD_ID = bits v 15 8 ∧
      t.get DISP_STRIP_STATUS_STATE = 2 ∧ t.get DISP_STRIP_STATUS_REPEAT_PENDING = 0 ∧
      t.strip = { s.strip with waiting := true, repeatTo := none } ∧ SameRegs [DISP_STRIP_CMD, DISP_STRIP_STATUS] s t ∧
      t.log = s.log) ∧
  (∀ (req : Nat) (v : Word) (s : State), Writes s req DISP_STRIP_CMD (0x80000000 ||| v) →
    s.on DISP_STRIP_CFG_PRESENT = false → Room s portDisp →
    ∃ t, exec (.stripGo req v) s = .next t ∧ t.get DISP_STRIP_CMD_BUSY = 0 ∧ t.get DISP_STRIP_CMD_STATUS = 1 ∧
      t.get DISP_STRIP_CMD_REASON = 2 ∧ t.strip.waiting = s.strip.waiting ∧
      SameRegs [DISP_STRIP_CMD, DISP_STRIP_STATUS] s t ∧
      Logged portDisp 0xB012 2 (s.get PWR_GAUGE_ENERGY_MJ) s.stripBand.1 s t) ∧
  (∀ (req : Nat) (v : Word) (s : State), Writes s req DISP_STRIP_CMD (0x80000000 ||| v) →
    s.on DISP_STRIP_CFG_PRESENT = true → s.pwr.sluice ≠ none →
    ∃ t, exec (.stripGo req v) s = .next t ∧ t.get DISP_STRIP_CMD_STATUS = 2 ∧ t.get DISP_STRIP_CMD_REASON = 1 ∧
      t.strip.waiting = s.strip.waiting ∧ SameRegs [DISP_STRIP_CMD, DISP_STRIP_STATUS] s t) ∧
  (∀ s : State, s.on DISP_STRIP_CFG_PRESENT = true → s.mpUp = true → s.doorFenced = false → s.strip.run = none →
    s.strip.lastWord = none → s.pwr.sluice = none → s.pwr.sluiceDone = false → s.guard.halted = false → s.strip.clear = 0 →
    s.strip.repeatTo = none → s.strip.waiting = true → s.stripBand.1 < 8 →
    s.stripAdmits s.stripBand.1 (s.waveOf s.stripBand.1 0).frames = true →
    ∃ t, exec .stripFrame s = .next t ∧ t.strip = { s.strip with
        waiting := false, dirty := true
        run := some {
          kind := 0, band := s.stripBand.1, wave := s.waveOf s.stripBand.1 0
          fromSegs := s.get DISP_STRIP_SHOWN_SEGS, toSegs := s.get DISP_STRIP_IMAGE_SEGS } } ∧
      t.get DISP_STRIP_STATUS_STATE = 3 ∧ t.get DISP_STRIP_STATUS_BAND = s.stripBand.1 ∧
      t.out = .drive 1 0 (List.replicate 24 0) :: s.out ∧ SameRegs [DISP_STRIP_STATUS] s t ∧ t.log = s.log) ∧
  (∀ s : State, s.on DISP_STRIP_CFG_PRESENT = true → s.mpUp = true → s.doorFenced = false → s.strip.run = none →
    s.strip.lastWord = none → s.strip.clear = 0 →
    s.stripAdmits s.stripBand.1 (s.waveOf s.stripBand.1 0).frames = false →
    exec .stripFrame s = .next { s with out := .drive 1 0 (List.replicate 24 0) :: s.out }) ∧
  (∀ (r : WaveRun) (s : State), s.mpUp = true → s.doorFenced = false →
    s.strip.run = some r → r.marking = false → r.ending = false → r.frame + 1 < r.wave.frames →
    s.stripBand.1 < r.band + 2 → r.band < s.stripBand.1 + 2 →
    ∃ t, exec .stripFrame s = .next t ∧ t.out = .drive 1 r.frame ((List.range 24).map r.level) :: s.out ∧
      t.strip = { s.strip with run := some { r with frame := r.frame + 1 } } ∧
      t.get DISP_STRIP_STATUS_SENSOR_FALLBACK = (if s.stripBand.2.2 then 1 else 0) ∧
      t.get DISP_STRIP_STATUS_RANGE_CLAMP =
        (if s.stripBand.2.1 then 1 else s.get DISP_STRIP_STATUS_RANGE_CLAMP) ∧
      SameRegs [DISP_STRIP_STATUS] s t ∧ t.log = s.log) ∧
  (∀ (r : WaveRun) (s : State), s.mpUp = true → s.doorFenced = false → s.pwr.sluice = none →
    s.strip.run = some r → r.kind = 0 → r.marking = false → r.ending = false → r.seen = false →
    r.frame + 1 < r.wave.frames → r.band + 2 ≤ s.stripBand.1 → Room s portDisp →
    ∃ t, exec .stripFrame s = .next t ∧ t.out = .drive 1 r.frame ((List.range 24).map r.level) :: s.out ∧
      t.strip = { s.strip with repeatTo := some r.toSegs, run := some { r with frame := r.frame + 1, seen := true } } ∧
      t.get DISP_STRIP_STATUS_REPEAT_PENDING = 1 ∧ SameRegs [DISP_STRIP_STATUS] s t ∧
      Logged portDisp 0xB011 r.band s.stripBand.1 0 s t) ∧
  (∀ (r : WaveRun) (s : State), s.mpUp = true → s.doorFenced = false →
    s.strip.run = some r → r.marking = false → r.ending = false → r.wave.frames ≤ r.frame + 1 → r.toSegs < 2 ^ 24 →
    s.stripBand.1 < r.band + 2 → r.band < s.stripBand.1 + 2 →
    ∃ t, exec .stripFrame s = .next t ∧ t.out = .drive 1 r.frame ((List.range 24).map r.level) :: s.out ∧
      t.get DISP_STRIP_SHOWN_SEGS = r.toSegs ∧ t.get DISP_STRIP_STATUS_SHOWN_VALID = 1 ∧
      t.strip.run = some { r with frame := r.frame + 1, ending := true } ∧
      SameRegs [DISP_STRIP_SHOWN, DISP_STRIP_STATUS] s t ∧ t.log = s.log) ∧
  (∀ s : State, ((s.on DISP_STRIP_CFG_PRESENT = false ∧ s.strip.run = none) ∨ s.mpUp = false ∨ s.doorFenced = true) →
    exec .stripFrame s = .next s) ∧
  (∀ (r : WaveRun) (s : State), s.strip.run = some r → r.marking = true →
    ∃ t, exec .stripMarkerDone s = .next t ∧ t.strip = { s.strip with run := some { r with marking := false } } ∧
      { t with strip := s.strip } = s) ∧
  (∀ (r : WaveRun) (s : State), s.strip.run = some r → r.marking = false → r.ending = true → r.kind = 0 →
    s.strip.waiting = false → s.strip.clear = 0 → s.strip.repeatTo = none → s.strip.lastWord = none →
    ∃ t, exec .stripMarkerDone s = .next t ∧
      t.strip = { s.strip with run := none, dirty := false, cleanShown := r.toSegs } ∧
      t.get DISP_STRIP_CMD_BUSY = 0 ∧ t.get DISP_STRIP_CMD_STATUS = 0 ∧ t.get DISP_STRIP_CMD_REASON = 0 ∧
      t.get DISP_STRIP_STATUS_STATE = 1 ∧ SameRegs [DISP_STRIP_CMD, DISP_STRIP_STATUS] s t ∧ t.log = s.log) ∧
  (∀ s : State, s.strip.run = none → exec .stripMarkerDone s = .next s) ∧
  (∀ s : State, s.strip.waiting = true → Room s portDisp →
    ∃ t, exec .stripWaitTimeout s = .next t ∧ t.strip = { s.strip with waiting := false } ∧
      t.get DISP_STRIP_CMD_BUSY = 0 ∧ t.get DISP_STRIP_CMD_STATUS = 1 ∧ t.get DISP_STRIP_CMD_REASON = 1 ∧
      SameRegs [DISP_STRIP_CMD, DISP_STRIP_STATUS] s t ∧
      Logged portDisp 0xB012 1 (s.get PWR_GAUGE_ENERGY_MJ) s.stripBand.1 s t) ∧
  (∀ s : State, s.strip.waiting = false → exec .stripWaitTimeout s = .next s)

/-- A record, with the severity of its code, reaches its port's FIFO of 16, or is dropped, counted and covered by one
record 0xA002, and one with another severity is none; the arbiter moves one record into the pond, which gives it
SEQ, OPTIME, PCC, SRC and FLOOD, and raises HWM; a page program is due with 32 records waiting; a programmed page
moves its records to the tailrace and the headrace; a page that fails retires its sector with record 0xA006; an
erased sector joins the pool. Where an event does not apply nothing changes (DESIGN CHOICE, log entry 1). The
model's own choices it rests on: log entry 129. From parts of R432, R434 to R439, R445. -/
def Obligations.LogIntake : Prop :=
  (∀ (p : Fin 16) (c : BitVec 16) (v : Fin 7) (p0 p1 p2 : Word) (b : Bool) (s : State), v.val = sevOf c.toNat p1.toNat →
    Room s p →
    exec (.eventRecordSubmit p c v p0 p1 p2 b) s = .next { s with log := s.log.setFifo p (s.log.fifo p ++
      [{ code := c.toNat, sev := sevOf c.toNat p1.toNat, p0 := p0.toNat, p1 := p1.toNat, p2 := p2.toNat, prov := b }]) }) ∧
  (∀ (p : Fin 16) (c : BitVec 16) (v : Fin 7) (p0 p1 p2 : Word) (b : Bool) (s : State), v.val = sevOf c.toNat p1.toNat →
    16 ≤ (s.log.fifo p).length →    s.mpUp = true →
    ∃ t, exec (.eventRecordSubmit p c v p0 p1 p2 b) s = .next t ∧ t.log = { s.log with
        ovCount := s.log.ovCount + 1, ovPorts := s.log.ovPorts ||| 2 ^ p.val
        ovSince := if s.log.ovCount = 0 then s.optime else s.log.ovSince } ∧
      t.reg (LOG_DROP p) = s.reg (LOG_DROP p) + 1 ∧ t.get LOG_STATUS_OVERFLOW = 1 ∧ SameRegs [LOG_DROP p, LOG_STATUS] s t) ∧
  (∀ (p : Fin 16) (c : BitVec 16) (v : Fin 7) (p0 p1 p2 : Word) (b : Bool) (s : State), s.mpUp = false → p ≠ 0 →
    exec (.eventRecordSubmit p c v p0 p1 p2 b) s = .next s) ∧
  (∀ (c : BitVec 16) (v : Fin 7) (p0 p1 p2 : Word) (b : Bool) (s : State), v.val = sevOf c.toNat p1.toNat →
    s.mpUp = false → 16 ≤ (s.log.fifo 0).length →
    ∃ t, exec (.eventRecordSubmit 0 c v p0 p1 p2 b) s = .next t ∧ t.log = { s.log with
        aonDrops := s.log.aonDrops + 1, aonSince := if s.log.aonDrops = 0 then s.optime else s.log.aonSince } ∧
      { t with log := s.log } = s) ∧
  (∀ (p : Fin 16) (c : BitVec 16) (v : Fin 7) (p0 p1 p2 : Word) (b : Bool) (s : State), v.val ≠ sevOf c.toNat p1.toNat →
    exec (.eventRecordSubmit p c v p0 p1 p2 b) s = .next s) ∧
  (∀ (p : Nat) (e : Submit) (q : List Submit) (s : State), s.mpUp = true → s.log.pond.length < 4096 → s.log.ovCount = 0 →
    s.log.nextPort s.log.pond.length = some p → s.log.fifo p = e :: q → s.disp.bindings.find? (fun b => b.code = e.code) = none →
    s.log.freeze = none →
    ∃ t, exec .pondRecordEntry s = .next t ∧ t.log.pond = s.log.pond ++ [{
        seq := s.log.nextSeq, optime := s.optime, pcc := s.pcc, src := p
        flood := decide (3072 ≤ s.log.pond.length) || decide (8 ≤ q.length + 1), body := s.sampled e }] ∧
      t.log.nextSeq = s.log.nextSeq + 1 ∧ t.log.fifo p = q ∧ (∀ r, r ≠ p → t.log.fifo r = s.log.fifo r) ∧ t.log.rr = p ∧
      t.log.limit = (if s.log.limit ≤ s.log.nextSeq + 129 then s.log.limit + 256 else s.log.limit) ∧
      t.get LOG_HWM_LO_HWM_LO = s.log.nextSeq % 2 ^ 32 ∧ t.get LOG_POND_FILL = s.log.pond.length + 1 ∧
      SameRegs [LOG_HWM_LO, LOG_HWM_HI, LOG_POND, NET_HSPI_IRQ_STATUS] s t) ∧
  (∀ s : State, s.mpUp = true → s.log.pond.length < 4096 → s.log.ovCount ≠ 0 → s.log.freeze = none →
    s.disp.bindings.find? (fun b => b.code = 0xA002) = none →
    ∃ t, exec .pondRecordEntry s = .next t ∧ t.log.pond = s.log.pond ++ [{
        seq := s.log.nextSeq, optime := s.optime, pcc := s.pcc, src := portLog, flood := decide (3072 ≤ s.log.pond.length)
        body := {
          code := 0xA002, sev := 4, p0 := s.log.ovCount % 2 ^ 32, p1 := s.log.ovPorts
          p2 := (s.optime - s.log.ovSince) * 1000 / 1024 % 2 ^ 32 } }] ∧
      t.log.ovCount = 0 ∧ t.get LOG_STATUS_OVERFLOW = 0 ∧ t.log.nextSeq = s.log.nextSeq + 1 ∧ t.log.fifos = s.log.fifos) ∧
  (∀ s : State, (s.mpUp = false ∨ 4096 ≤ s.log.pond.length) → exec .pondRecordEntry s = .next s) ∧
  (∀ s : State, s.log.inFlight = none → s.log.freeze = none → s.on LOG_STATUS_FLUSH_PAUSED = false →
    32 ≤ s.log.pond.length →
    ∃ t, exec .logPageDue s = .next t ∧
      t.log = { s.log with inFlight := some (32 - s.log.place % 32) } ∧ { t with log := s.log } = s) ∧
  (∀ s : State, (s.log.inFlight ≠ none ∨ s.log.freeze ≠ none ∨ s.on LOG_STATUS_FLUSH_PAUSED = true ∨ s.log.pond = []) →
    exec .logPageDue s = .next s) ∧
  (∀ (n : Nat) (r : LogRec) (s : State), s.log.inFlight = some n → s.log.clearPending = none →
    s.log.head.length + n < 65536 → s.log.place < 425984 → n ≤ 32 - s.log.place % 32 → s.log.place / 128 ∉ s.log.retired → (s.log.pond.take n).getLast? = some r →
    ∃ t, exec (.logPageProgrammed true) s = .next t ∧ t.log.inFlight = none ∧ t.log.pond = s.log.pond.drop n ∧
      t.log.tail = (s.log.tail ++ s.log.pond.take n).drop ((s.log.tail ++ s.log.pond.take n).length - s.log.tailCap) ∧
      t.log.head = s.log.head ++ s.log.pond.take n ∧ t.log.flushed = r.seq ∧
      t.log.place = (s.log.place + n) % 425984 ∧ t.log.fifos = s.log.fifos) ∧
  (∀ (n : Nat) (s : State), s.log.inFlight = some n → Room s portLog → s.log.place < 425984 →
    s.log.place / 128 ∉ s.log.retired →
    ∃ t, exec (.logPageProgrammed false) s = .next t ∧ t.log.inFlight = none ∧ t.log.pond = s.log.pond ∧
      t.log.tail = s.log.tail ∧ t.log.retired = s.log.place / 128 :: s.log.retired ∧
      t.get LOG_WEAR_RETIRED = min (s.log.retired.length + 1) 255 ∧
      t.log.place = (s.log.place + (128 - s.log.place % 128)) % 425984 ∧ SameRegs [LOG_WEAR, LOG_STATUS] s t ∧
      Newest portLog 0xA006 (0x200000 + 4096 * (s.log.place / 128)) 0 0 t) ∧
  (∀ (ok : Bool) (s : State), s.log.inFlight = none → exec (.logPageProgrammed ok) s = .next s) ∧
  (∀ (sec : Nat) (s : State), s.mpUp = true → s.log.erasing ≠ 0 →
    ∃ t, exec (.sectorEraseDone false sec true) s = .next t ∧ t.log.erasing = s.log.erasing - 1 ∧
      tget (fun _ => 0) t.log.erases sec = tget (fun _ => 0) s.log.erases sec + 1 ∧
      t.log.pool = min s.fullPool (s.log.pool + 1) ∧
      t.get LOG_WEAR_MAX_ERASE = satTo 24 ((t.log.erases.map (fun p => p.2)).foldl max 0) ∧
      t.log.pond = s.log.pond ∧ t.log.tail = s.log.tail ∧ SameRegs [LOG_WEAR, LOG_STATUS, LOG_DROP portLog] s t) ∧
  (∀ (sec : Nat) (s : State), s.mpUp = true → s.log.erasing ≠ 0 →
    ∃ t, exec (.sectorEraseDone false sec false) s = .next t ∧ t.log.erasing = s.log.erasing - 1 ∧
      t.log.pool = s.log.pool ∧ sec ∈ t.log.retired ∧ t.log.pond = s.log.pond ∧ t.log.tail = s.log.tail ∧
      SameRegs [LOG_WEAR, LOG_STATUS, LOG_DROP portLog] s t) ∧
  (∀ (sec : Nat) (ok : Bool) (s : State), (s.mpUp = false ∨ s.log.erasing = 0) →
    exec (.sectorEraseDone false sec ok) s = .next s) ∧
  (∀ (sec : Nat) (ok : Bool) (s : State), ∃ t, exec (.sectorEraseDone true sec ok) s = .next t ∧
    t.log = { s.log with headErasing := s.log.headErasing - 1 } ∧ { t with log := s.log } = s)

/-- An accepted clear enters record 0xA003 and sets CLEARING; after the erase the headrace holds the records from that
one on; a freeze is set, lifted by command or after 10 s, each with record 0xA004 and its cause; the next record
that qualifies goes out as one syslog datagram; a minute with skipped records leaves record 0xA008. Where an event
does not apply nothing changes (DESIGN CHOICE, log entry 1). The model's own choices it rests on: log entries 128,
131, 130. From parts of R438, R444, R446. -/
def Obligations.LogControl : Prop :=
  (∀ (req : Nat) (c : BitVec 16) (s : State), Writes s req LOG_CLEAR_CMD (0xC1EA0000 ||| c.setWidth 32) →
    ∃ t, exec (.logClear req c) s = .next t ∧ t.get LOG_STATUS_CLEARING = 1 ∧ t.get LOG_STATUS_HEAD_FULL = 0 ∧
      t.log.clearPending.isSome = true ∧ t.log.head = [] ∧ t.log.headErasing = 512 ∧ t.log.tail = s.log.tail ∧
      t.get LOG_HEAD_COUNT_COUNT = 0) ∧
  (∀ (req : Nat) (c : BitVec 16) (s : State), Writes s req LOG_CLEAR_CMD (0xC1EA0000 ||| c.setWidth 32) →
    (∀ p, s.log.fifo p = []) → s.log.ovCount = 0 → s.log.pond.length < 4096 → s.log.freeze = none →
    ∃ t, exec (.logClear req c) s = .next t ∧ t.log.clearPending = some s.log.nextSeq ∧
      t.log.nextSeq = s.log.nextSeq + 1 ∧ t.log.pond = s.log.pond ++ [{
        seq := s.log.nextSeq, optime := s.optime, pcc := s.pcc, src := portLog, flood := decide (3072 ≤ s.log.pond.length)
        body := { code := 0xA003, sev := 1, p0 := req, p1 := s.log.head.length, p2 := 0 } }] ∧
      t.log.tail = s.log.tail) ∧
  (∀ (req : Nat) (c : BitVec 16) (s : State), s.mpUp = true → (s.loading = false ∨ req = 2) → s.waitsBehind LOG_CLEAR_CMD = false →
    req ≠ 0x10 → s.operates req = false →
    ∃ t, exec (.logClear req c) s = .next t ∧
      t.get SYS_VIOL_COUNT_TOTAL = (s.get SYS_VIOL_COUNT_TOTAL + 1) % 65536 ∧ OnlyRegs [SYS_VIOL_COUNT] s t) ∧
  (∀ (a : Nat) (s : State), s.log.clearPending = some a → s.mpUp = true →
    (s.log.tail.filter (fun r => decide (a ≤ r.seq))).length < 65536 →
    ∃ t, exec .headraceEraseDone s = .next t ∧ t.log = { s.log with
        head := s.log.tail.filter (fun r => decide (a ≤ r.seq)), clearPending := none, headErasing := 0 } ∧
      t.get LOG_STATUS_CLEARING = 0 ∧ t.get LOG_HEAD_COUNT_COUNT = t.log.head.length ∧
      SameRegs [LOG_STATUS, LOG_TAIL_FIRST_LO, LOG_TAIL_FIRST_HI, LOG_HEAD_FIRST_LO, LOG_HEAD_FIRST_HI,
        LOG_HEAD_COUNT] s t) ∧
  (∀ (a : Nat) (r : LogRec) (s : State), s.log.clearPending = some a → s.log.head = [] → Room s portLog →
    65536 ≤ (s.log.tail.filter (fun r => decide (a ≤ r.seq))).length →
    ((s.log.tail.filter (fun r => decide (a ≤ r.seq))).take 65536).getLast? = some r →
    ∃ t, exec .headraceEraseDone s = .next t ∧
      t.log.head = (s.log.tail.filter (fun r => decide (a ≤ r.seq))).take 65536 ∧ t.log.clearPending = none ∧
      t.get LOG_STATUS_CLEARING = 0 ∧ t.get LOG_STATUS_HEAD_FULL = 1 ∧ Newest portLog 0xA007 r.seq 0 0 t) ∧
  (∀ s : State, (s.log.clearPending = none ∨ s.mpUp = false) → exec .headraceEraseDone s = .next s) ∧
  (∀ (req : Nat) (s : State), Writes s req LOG_FREEZE 0xF4EE0100 → s.log.freeze = none → s.pwr.sluice = none → s.guard.halted = false →
    Room s portLog →
    ∃ t, exec (.logFreezeSet req) s = .next t ∧ t.log.freeze = some s.optime ∧ t.get LOG_STATUS_FROZEN = 1 ∧
      t.get LOG_FREEZE_REMAIN = 100 ∧ t.log.pond = s.log.pond ∧ SameRegs [LOG_STATUS, LOG_FREEZE] s t ∧
      Newest portLog 0xA004 1 0 s.log.pond.length t) ∧
  (∀ (req x : Nat) (s : State), Writes s req LOG_FREEZE 0xF4EE0200 → s.log.freeze = some x → s.pwr.sluice = none →
    s.guard.halted = false → Room s portLog →
    ∃ t, exec (.logFreezeLift req) s = .next t ∧ t.log.freeze = none ∧ t.get LOG_STATUS_FROZEN = 0 ∧
      t.log.pond = s.log.pond ∧ SameRegs [LOG_STATUS, LOG_FREEZE] s t ∧ Newest portLog 0xA004 0 0 s.log.pond.length t) ∧
  (∀ (req : Nat) (s : State), Writes s req LOG_FREEZE 0xF4EE0100 → (s.pwr.sluice ≠ none ∨ s.guard.halted = true) →
    exec (.logFreezeSet req) s = .next s) ∧
  (∀ (req : Nat) (s : State), Writes s req LOG_FREEZE 0xF4EE0200 → (s.pwr.sluice ≠ none ∨ s.guard.halted = true) →
    exec (.logFreezeLift req) s = .next s) ∧
  (∀ (x : Nat) (s : State), s.log.freeze = some x → Room s portLog →
    ∃ t, exec .freezeTimeout s = .next t ∧ t.log.freeze = none ∧ t.get LOG_STATUS_FROZEN = 0 ∧
      t.log.pond = s.log.pond ∧ SameRegs [LOG_STATUS, LOG_FREEZE] s t ∧ Newest portLog 0xA004 0 2 s.log.pond.length t) ∧
  (∀ s : State, s.log.freeze = none → exec .freezeTimeout s = .next s) ∧
  (∀ (r : LogRec) (s : State), s.on LOG_SYSLOG_CFG_ENABLE = true → s.reg NET_IP4_ADDR ≠ 0 →
    s.on CADDY_STATUS_BARE = false → s.caddy.fwRestart = false → s.log.sysSecond ≠ s.opSec →
    s.get LOG_SYSLOG_CFG_RATE ≠ 0 →
    s.available.find? (fun x => decide (s.log.sysNext ≤ x.seq) &&
      decide (s.get LOG_SYSLOG_CFG_MIN_SEV ≤ x.body.sev)) = some r →
    ∃ t, exec .syslogSend s = .next t ∧ t.out = .udp (s.reg LOG_SYSLOG_ADDR).toNat 514 (s.syslogText r) :: s.out ∧
      t.log = { s.log with sysNext := r.seq + 1, sysSecond := s.opSec, sysSent := 1 } ∧
      { t with log := s.log, out := s.out } = s) ∧
  (∀ s : State, s.on LOG_SYSLOG_CFG_ENABLE = false → exec .syslogSend s = .next s) ∧
  (∀ s : State, s.log.sysSkipped ≠ 0 → Room s portLog →
    ∃ t, exec .syslogSkipMinute s = .next t ∧ t.log.sysSkipped = 0 ∧ t.regs = s.regs ∧
      Newest portLog 0xA008 s.log.sysSkipped 0 0 t) ∧
  (∀ s : State, s.log.sysSkipped = 0 → exec .syslogSkipMinute s = .next s)

/-- An error starts its element's test, of an SRAM word the second that is corrected; the element with REPEAT_N recent
transients is fenced without one; a test that passes is a TRANSIENT with record 0xD004, one that fails fences the
element, which enters the fence list, with record 0xD005; a host test runs with REL_TEST_RESULT, and one on a busy
element is a violation; the scrubber reads the next word and counts what it corrects; the hour's errors are record
0xD006; the boot test ends with record 0xD00B. Where an event does not apply nothing changes (DESIGN CHOICE, log
entry 1). The model's own choices it rests on: log entries 134, 135. From parts of R450 to R453, R459, R462 to R464. -/
def Obligations.SelfTests : Prop :=
  (∀ (e home : Element) (u : Bool) (w : Nat) (s : State), ((∃ f, e = .fan f) ∨ (∃ n, e = .aoMon n) ∨ (∃ q, e = .quad q) ∨
      (∃ d, e = .link d) ∨ (∃ m, e = .sram m ∧ (u = true ∨ (m, w) ∈ s.rel.sramWords))) → s.mpUp = true → s.rel.tests = [] → s.relBusy e = false →
    s.recentTransients e < s.get REL_CFG_REPEAT_N →
    exec (.elementErrorDetected e home ⟨u, w⟩) s = .next { s with rel := { s.rel with tests := [{
      elem := e, host := false, running := true }] } }) ∧
  (∀ (m : Nat) (home : Element) (w : Nat) (s : State), s.mpUp = true → (m, w) ∉ s.rel.sramWords →
    exec (.elementErrorDetected (.sram m) home ⟨false, w⟩) s = .next { s with rel := { s.rel with
      sramWords := (m, w) :: s.rel.sramWords } }) ∧
  (∀ (f : Fin 16) (home : Element) (u : Bool) (w : Nat) (s : State), s.mpUp = true → s.relBusy (.fan f) = false →
    s.get REL_CFG_REPEAT_N ≤ s.recentTransients (.fan f) → s.get REL_FENCE_SUMMARY_COUNT < 32 →
    s.mpUp = true → (s.log.fifo portRel).length + 2 ≤ 16 →
    ∃ t, exec (.elementErrorDetected (.fan f) home ⟨u, w⟩) s = .next t ∧ Element.fan f ∈ t.rel.fenced ∧
      t.reg (REL_FENCE (s.get REL_FENCE_SUMMARY_COUNT)) =
        BitVec.ofNat 32 (2 ^ 31 + 2 * 2 ^ 28 + 5 * 2 ^ 24 + f.val * 2 ^ 12 + 2) ∧
      t.get REL_FENCE_SUMMARY_COUNT = s.get REL_FENCE_SUMMARY_COUNT + 1 ∧ t.get REL_STATUS_FENCED_SEEN = 1 ∧
      t.get REL_TEST_STATS_LASTING = (s.get REL_TEST_STATS_LASTING + 1) % 65536 ∧
      t.rel.tests = s.rel.tests ∧ Newest portRel 0xD005 5 f (2 * 256 + 2) t) ∧
  (∀ (f : Fin 16) (home : Element) (u : Bool) (w : Nat) (s : State), s.mpUp = true → s.relBusy (.fan f) = false →
    s.get REL_CFG_REPEAT_N ≤ s.recentTransients (.fan f) → s.get REL_FENCE_SUMMARY_COUNT = 32 →
    s.mpUp = true → (s.log.fifo portRel).length + 3 ≤ 16 →
    ∃ t, exec (.elementErrorDetected (.fan f) home ⟨u, w⟩) s = .next t ∧ Element.fan f ∈ t.rel.fenced ∧
      t.get REL_FENCE_SUMMARY_COUNT = 32 ∧
      t.get REL_FENCE_SUMMARY_OVERFLOW = min (s.get REL_FENCE_SUMMARY_OVERFLOW + 1) 255 ∧
      t.log.fifo portRel = s.log.fifo portRel ++ [
        { code := 0xD00D, sev := sevOf 0xD00D f, p0 := 5, p1 := f, p2 := s.recentTransients (.fan f) % 2 ^ 32 },
        { code := 0xD00C, sev := sevOf 0xD00C f, p0 := 5, p1 := f, p2 := 0 },
        { code := 0xD005, sev := sevOf 0xD005 f, p0 := 5, p1 := f, p2 := 2 * 256 + 2 }]) ∧
  (∀ (a w : Nat) (home : Element) (s : State), s.mpUp = true →
    tget (fun _ => 0) s.rel.rowTime (Config.dramRow a) = 0 →
    ∃ t, exec (.elementErrorDetected (.dramRow a) home ⟨false, w⟩) s = .next t ∧
      t.reg REL_ECC_LAST_LO = BitVec.ofNat 32 a ∧
      t.get REL_ECC_COUNT_CORRECTED = min (s.get REL_ECC_COUNT_CORRECTED + 1) (2 ^ 24 - 1) ∧
      t.rel.eccHour = s.rel.eccHour + 1 ∧ t.rel.eccLast = a ∧ t.rel.tests = s.rel.tests ∧
      SameRegs [REL_ECC_LAST_LO, REL_ECC_LAST_HI, REL_ECC_COUNT] s t ∧ t.log = s.log) ∧
  (∀ (e home : Element) (u : Bool) (w : Nat) (s : State), (s.mpUp = false ∨ e = .aon) →
    exec (.elementErrorDetected e home ⟨u, w⟩) s = .next s) ∧
  (∀ (f : Fin 16) (home : Element) (s : State), s.rel.tests = [{ elem := .fan f, host := false, running := true }] →
    Room s portRel →
    ∃ t, exec (.selfTestDone (.fan f) home false) s = .next t ∧ t.rel = { s.rel with
        tests := [], history := (.fan f, s.optime) :: s.rel.history } ∧
      t.get REL_TEST_STATS_TESTS = (s.get REL_TEST_STATS_TESTS + 1) % 65536 ∧
      t.get (REL_LEVEL_COUNT_TRANSIENT 2) = (s.get (REL_LEVEL_COUNT_TRANSIENT 2) + 1) % 65536 ∧
      SameRegs [REL_TEST_STATS, REL_LEVEL_COUNT 2] s t ∧ Logged portRel 0xD004 5 f 2 s t) ∧
  (∀ (f : Fin 16) (home : Element) (s : State), s.rel.tests = [{ elem := .fan f, host := true, running := true }] →
    Element.fan f ∉ s.rel.fenced → s.get REL_FENCE_SUMMARY_COUNT < 32 → s.get REL_TEST_RESULT_UNIT = 5 →
    s.get REL_TEST_RESULT_INDEX = f → Room s portRel →
    ∃ t, exec (.selfTestDone (.fan f) home true) s = .next t ∧ t.rel.tests = [] ∧ Element.fan f ∈ t.rel.fenced ∧
      t.get REL_TEST_RESULT_STATE = 2 ∧ t.get REL_TEST_RESULT_OUTCOME = 2 ∧
      t.reg (REL_FENCE (s.get REL_FENCE_SUMMARY_COUNT)) =
        BitVec.ofNat 32 (2 ^ 31 + 2 * 2 ^ 28 + 5 * 2 ^ 24 + f.val * 2 ^ 12 + 4) ∧
      Newest portRel 0xD005 5 f (4 * 256 + 2) t) ∧
  (∀ (e home : Element) (b : Bool) (s : State), (∀ x ∈ s.rel.tests, x.elem ≠ e) →
    exec (.selfTestDone e home b) s = .next s) ∧
  (∀ (req : Nat) (f : Fin 16) (s : State),
    Writes s req REL_TEST_CMD ((0x7E57 : BitVec 16) ++ (5 : BitVec 4) ++ BitVec.ofNat 12 f) → s.rel.tests = [] →
    ∃ t, exec (.relHostTest req 5 (BitVec.ofNat 12 f)) s = .next t ∧ t.get REL_TEST_RESULT_STATE = 1 ∧
      t.get REL_TEST_RESULT_OUTCOME = 0 ∧ t.get REL_TEST_RESULT_UNIT = 5 ∧ t.get REL_TEST_RESULT_INDEX = f ∧
      t.rel.tests = [{ elem := .fan f, host := true, running := true }] ∧ SameRegs [REL_TEST_RESULT] s t ∧
      t.log = s.log) ∧
  (∀ (req : Nat) (f : Fin 16) (s : State), s.mpUp = true → (s.loading = false ∨ req = 2) →
    s.waitsBehind REL_TEST_CMD = false → s.relBusy (.fan f) = true →
    ∃ t, exec (.relHostTest req 5 (BitVec.ofNat 12 f)) s = .next t ∧
      t.get SYS_VIOL_COUNT_TOTAL = (s.get SYS_VIOL_COUNT_TOTAL + 1) % 65536 ∧ OnlyRegs [SYS_VIOL_COUNT] s t) ∧
  (∀ s : State, s.dpUp = true → s.on REL_SCRUB_CFG_ENABLE = true → s.rel.scrubAt + 1 < 2 ^ 28 →
    ∃ t, exec (.scrubStep 0) s = .next t ∧ t.rel = { s.rel with scrubAt := s.rel.scrubAt + 1 } ∧
      t.get REL_SCRUB_STATUS_PROGRESS_PCT = (s.rel.scrubAt + 1) * 100 / 2 ^ 28 ∧ SameRegs [REL_SCRUB_STATUS] s t ∧
      t.log = s.log) ∧
  (∀ s : State, s.dpUp = true → s.on REL_SCRUB_CFG_ENABLE = true → s.rel.scrubAt + 1 = 2 ^ 28 →
    ∃ t, exec (.scrubStep 0) s = .next t ∧ t.rel.scrubAt = 0 ∧
      t.get REL_SCRUB_STATUS_PASSES = (s.get REL_SCRUB_STATUS_PASSES + 1) % 65536 ∧ SameRegs [REL_SCRUB_STATUS] s t) ∧
  (∀ (x : Fin 3) (s : State), (s.dpUp = false ∨ s.on REL_SCRUB_CFG_ENABLE = false) →
    exec (.scrubStep x) s = .next s) ∧
  (∀ s : State, s.rel.eccHour ≠ 0 → Room s portRel →
    ∃ t, exec .eccHourReport s = .next t ∧ t.rel = { s.rel with eccHour := 0 } ∧ t.regs = s.regs ∧
      Logged portRel 0xD006 s.rel.eccHour s.rel.eccLast 0 s t) ∧
  (∀ s : State, s.rel.eccHour = 0 → exec .eccHourReport s = .next s) ∧
  (∀ (tested ms : Nat) (s : State), s.mpUp = true → s.on REL_STATUS_BOOT_TEST_DONE = false → Room s portRel →
    ∃ t, exec (.bootSelfTestDone tested [] ms) s = .next t ∧ t.get REL_STATUS_BOOT_TEST_DONE = 1 ∧ t.rel = s.rel ∧
      SameRegs [REL_STATUS] s t ∧ Logged portRel 0xD00B tested 0 ms s t) ∧
  (∀ (tested ms : Nat) (l : List Element) (s : State), s.on REL_STATUS_BOOT_TEST_DONE = true →
    exec (.bootSelfTestDone tested l ms) s = .next s)

/-- A mismatch holds the outputs and starts the tile tests, a second one joins them; the verdicts lead to the
re-execution; two passing lanes that agree end TRANSIENT with record 0xD001, the hold released; a lane whose test
fails is fenced with record 0xD002; two failing lanes, or a disagreement that no residue places, end both lanes with
SAFE and record 0xD003; a residue error in one lane alone fences that lane; a swap that waited for the hold goes on.
Where an event does not apply nothing changes (DESIGN CHOICE, log entry 1). The model's own choices it rests on: log
entries 134, 132, 111, 154. From parts of R454 to R458, R463, R466. -/
def Obligations.Lockstep : Prop :=
  (∀ (tile : Nat) (s : State), s.cpRuns = true → s.get REL_STATUS_RECOVERY = 0 → tile < 16 →
    ∃ t, exec (.lockstepMismatch tile) s = .next t ∧ t.get REL_STATUS_HOLD = 1 ∧ t.get REL_STATUS_RECOVERY = 1 ∧
      t.get REL_LANE_STATUS_LAST_TILE = tile ∧
      t.get REL_LANE_STATUS_MISMATCHES = (s.get REL_LANE_STATUS_MISMATCHES + 1) % 65536 ∧
      t.get REL_HOLD_STATS_HOLDS = (s.get REL_HOLD_STATS_HOLDS + 1) % 65536 ∧ t.rel.tiles = [tile] ∧
      SameRegs [REL_STATUS, REL_LANE_STATUS, REL_HOLD_STATS] s t ∧ t.log = s.log) ∧
  (∀ (tile : Nat) (s : State), s.cpRuns = true → s.get REL_STATUS_RECOVERY = 1 → tile < 16 → tile ∉ s.rel.tiles →
    ∃ t, exec (.lockstepMismatch tile) s = .next t ∧ t.rel.tiles = s.rel.tiles ++ [tile] ∧
      t.get REL_LANE_STATUS_LAST_TILE = tile ∧ SameRegs [REL_LANE_STATUS] s t) ∧
  (∀ (tile : Nat) (s : State), s.cpRuns = false → exec (.lockstepMismatch tile) s = .next s) ∧
  (∀ (a b : Bool) (s : State), s.cpRuns = true → s.get REL_STATUS_RECOVERY = 1 → Element.lane 0 ∉ s.rel.fenced →
    Element.lane 1 ∉ s.rel.fenced → s.caddy.swap = none →
    ∃ t, exec (.lockstepTestDone a b) s = .next t ∧ t.get REL_STATUS_RECOVERY = 2 ∧
      t.rel = { s.rel with laneA := a, laneB := b } ∧
      t.get REL_TEST_STATS_TESTS = (s.get REL_TEST_STATS_TESTS + 2) % 65536 ∧ SameRegs [REL_STATUS, REL_TEST_STATS] s t ∧
      t.log = s.log) ∧
  (∀ (a b : Bool) (s : State), s.get REL_STATUS_RECOVERY ≠ 1 → exec (.lockstepTestDone a b) s = .next s.swapGo) ∧
  (∀ (tile ns hold : Nat) (s : State), s.cpRuns = true → s.get REL_STATUS_RECOVERY = 2 → s.singleLane = false →
    s.rel.laneA = true → s.rel.laneB = true → s.rel.tiles = [tile] → tile < 16 → s.rel.errLane = none →
    s.caddy.swap = none → Room s portRel →
    ∃ t, exec (.lockstepReexecuteDone true ns hold) s = .next t ∧ t.get REL_STATUS_HOLD = 0 ∧
      t.get REL_STATUS_RECOVERY = 0 ∧ t.get REL_LAST_RECOVERY_OUTCOME = 1 ∧ t.get REL_LAST_RECOVERY_TILE = tile ∧
      t.get REL_LAST_RECOVERY_TIME_100NS = min ((ns + 50) / 100) 65535 ∧
      t.get REL_LOCKSTEP_STATS_TRANSIENTS = (s.get REL_LOCKSTEP_STATS_TRANSIENTS + 1) % 65536 ∧
      t.rel = { s.rel with tiles := [], failedSlots := 0 } ∧
      SameRegs [REL_STATUS, REL_LAST_RECOVERY, REL_HOLD_STATS, REL_LOCKSTEP_STATS, REL_LEVEL_COUNT 2] s t ∧
      Logged portRel 0xD001 tile (min ((ns + 50) / 100) 65535) s.rel.failedSlots s t) ∧
  (∀ (tile ns hold : Nat) (l : Fin 2) (s : State), s.cpRuns = true → s.get REL_STATUS_RECOVERY = 2 → s.singleLane = false →
    s.rel.laneA = true → s.rel.laneB = true → s.rel.tiles = [tile] → s.rel.errLane = some l.val → s.caddy.swap = none →
    ∃ t, exec (.lockstepReexecuteDone true ns hold) s = .next t ∧ t.get REL_STATUS_HOLD = 0 ∧
      t.get REL_STATUS_RECOVERY = 0 ∧ t.get REL_LAST_RECOVERY_OUTCOME = 1 ∧
      t.get REL_LOCKSTEP_STATS_TRANSIENTS = (s.get REL_LOCKSTEP_STATS_TRANSIENTS + 1) % 65536 ∧
      t.recentTransients (.lane l) = s.recentTransients (.lane l) + 1) ∧
  (∀ (tile ns hold : Nat) (agree : Bool) (s : State), s.cpRuns = true → s.get REL_STATUS_RECOVERY = 2 →
    s.singleLane = false → s.rel.laneA = false → s.rel.laneB = true → s.rel.tiles = [tile] →
    Element.lane 0 ∉ s.rel.fenced → s.get REL_FENCE_SUMMARY_COUNT < 32 → Room s portRel →
    ∃ t, exec (.lockstepReexecuteDone agree ns hold) s = .next t ∧ t.get REL_STATUS_HOLD = 0 ∧
      t.get REL_LAST_RECOVERY_OUTCOME = 2 ∧ t.get REL_LANE_STATUS_A_FENCED = 1 ∧ t.get SYS_STATUS_LANE_A_FENCED = 1 ∧
      t.singleLane = true ∧ Element.lane 0 ∈ t.rel.fenced ∧ t.pwr = s.pwr ∧ t.gov = s.gov ∧
      Newest portRel 0xD002 0 tile 1 t) ∧
  (∀ (tile ns hold : Nat) (agree : Bool) (s : State), s.cpRuns = true → s.get REL_STATUS_RECOVERY = 2 →
    s.singleLane = false → s.rel.laneA = false → s.rel.laneB = false → s.rel.tiles = [tile] → Room s portRel →
    ∃ t, exec (.lockstepReexecuteDone agree ns hold) s = .next t ∧ t.get REL_STATUS_HOLD = 0 ∧
      t.get REL_LAST_RECOVERY_OUTCOME = 4 ∧ t.get REL_STATUS_BOTH_LOST = 1 ∧ t.pwr.safe = true ∧
      t.get SYS_STATUS_SAFE = 1 ∧ t.cpRuns = false ∧ Newest portRel 0xD003 tile 0 0 t) ∧
  (∀ (ns hold : Nat) (s : State), s.cpRuns = true → s.get REL_STATUS_RECOVERY = 2 → s.singleLane = false →
    s.rel.laneA = true → s.rel.laneB = true → s.caddy.swap = none →
    ∃ t, exec (.lockstepReexecuteDone false ns hold) s = .next t ∧ t.get REL_STATUS_RECOVERY = 3 ∧
      t.get REL_STATUS_HOLD = s.get REL_STATUS_HOLD ∧ OnlyRegs [REL_STATUS] s t) ∧
  (∀ (ns hold : Nat) (agree : Bool) (s : State), s.get REL_STATUS_RECOVERY ≠ 2 →
    exec (.lockstepReexecuteDone agree ns hold) s = .next s.swapGo) ∧
  (∀ (tile ns hold : Nat) (s : State), s.cpRuns = true → s.get REL_STATUS_RECOVERY = 3 → s.rel.tiles = [tile] →
    Element.lane 1 ∉ s.rel.fenced → Room s portRel → s.get REL_FENCE_SUMMARY_COUNT < 32 →
    ∃ t, exec (.lockstepPlaceDone false true ns hold) s = .next t ∧ t.get REL_LAST_RECOVERY_OUTCOME = 3 ∧
      t.get REL_LOCKSTEP_STATS_PLACED = (s.get REL_LOCKSTEP_STATS_PLACED + 1) % 256 ∧
      t.get REL_LANE_STATUS_B_FENCED = 1 ∧ t.get REL_STATUS_HOLD = 0 ∧ Element.lane 1 ∈ t.rel.fenced ∧
      Newest portRel 0xD002 1 tile 5 t) ∧
  (∀ (both : Bool) (tile ns hold : Nat) (s : State), s.cpRuns = true → s.get REL_STATUS_RECOVERY = 3 →
    s.rel.tiles = [tile] → Room s portRel →
    ∃ t, exec (.lockstepPlaceDone both both ns hold) s = .next t ∧ t.get REL_LAST_RECOVERY_OUTCOME = 4 ∧
      t.get REL_STATUS_BOTH_LOST = 1 ∧ t.pwr.safe = true ∧ Newest portRel 0xD003 tile 0 0 t) ∧
  (∀ (a b : Bool) (ns hold : Nat) (s : State), s.get REL_STATUS_RECOVERY ≠ 3 →
    exec (.lockstepPlaceDone a b ns hold) s = .next s.swapGo) ∧
  (∀ (tested ms : Nat) (s : State), s.mpUp = true → s.on REL_STATUS_BOOT_TEST_DONE = false →
    s.mpUp = true → (s.log.fifo portRel).length + 2 ≤ 16 →
    ∃ t, exec (.bootSelfTestDone tested [.lane 0, .lane 1] ms) s = .next t ∧ t.pwr.rstCp = true ∧ t.pwr.safe = true ∧
      t.get SYS_STATUS_CP_RUN = 0 ∧ t.get REL_STATUS_BOTH_LOST = 1 ∧ Newest portRel 0xD003 0 1 0 t)
end

