-- ==== Sys2Proof/Laws/Table.lean ====
section
/-! SUPPORT. Laws of the sparse tables and of bit fields: a read after a write, other keys and other
fields unchanged, and the canonical form kept. -/

namespace Sys2Proof.Machine

variable {α : Type}

theorem tget_terase_same (d : Nat → α) (t : List (Nat × α)) (k : Nat) : tget d (terase t k) k = d k := by
  induction t with
  | nil => rfl
  | cons p t ih =>
    by_cases h : p.1 = k
    · simpa [terase, h] using ih
    · simpa [terase, tget, h] using ih

theorem tget_terase_ne (d : Nat → α) (t : List (Nat × α)) {j k : Nat} (hne : j ≠ k) :
    tget d (terase t k) j = tget d t j := by
  induction t with
  | nil => rfl
  | cons p t ih =>
    by_cases h : p.1 = k
    · have hj : p.1 ≠ j := fun e => hne (e.symm.trans h)
      simp only [terase, List.filter_cons, h, bne_self_eq_false, Bool.false_eq_true, if_false] at ih ⊢
      rw [ih]; simp only [tget]; rw [if_neg hj]
    · simp only [terase] at ih
      have hb : (p.1 != k) = true := by simpa using h
      simp only [terase, List.filter_cons, hb, if_true, tget, ih]

theorem tget_tinsert_same (d : Nat → α) (t : List (Nat × α)) (k : Nat) (v : α)
    (h : ∀ p ∈ t, p.1 ≠ k) : tget d (tinsert t k v) k = v := by
  induction t with
  | nil => simp [tinsert, tget]
  | cons p t ih =>
    have hp : p.1 ≠ k := h p (List.mem_cons_self ..)
    simp only [tinsert]
    split
    · simp [tget]
    · simp [tget, hp, ih (fun q hq => h q (List.mem_cons_of_mem _ hq))]

theorem tget_tinsert_ne (d : Nat → α) (t : List (Nat × α)) {j k : Nat} (v : α) (hne : j ≠ k) :
    tget d (tinsert t k v) j = tget d t j := by
  induction t with
  | nil => simp [tinsert, tget, Ne.symm hne]
  | cons p t ih =>
    simp only [tinsert]
    split
    · simp [tget, Ne.symm hne]
    · simp [tget, ih]

theorem mem_terase_ne {t : List (Nat × α)} {k : Nat} {p : Nat × α} (h : p ∈ terase t k) : p.1 ≠ k := by
  simpa [terase] using (List.mem_filter.mp h).2

/-- A read after a write to the same key gives the value written. -/
theorem tget_tset_same [DecidableEq α] (d : Nat → α) (t : List (Nat × α)) (k : Nat) (v : α) :
    tget d (tset d t k v) k = v := by
  unfold tset
  split
  · rename_i h; rw [h]; exact tget_terase_same d t k
  · exact tget_tinsert_same d _ k v (fun p hp => mem_terase_ne hp)

/-- A write leaves every other key alone. -/
theorem tget_tset_ne [DecidableEq α] (d : Nat → α) (t : List (Nat × α)) {j k : Nat} (v : α) (hne : j ≠ k) :
    tget d (tset d t k v) j = tget d t j := by
  unfold tset
  split
  · exact tget_terase_ne d t hne
  · rw [tget_tinsert_ne d _ v hne, tget_terase_ne d t hne]

theorem tget_tset [DecidableEq α] (d : Nat → α) (t : List (Nat × α)) (j k : Nat) (v : α) :
    tget d (tset d t k v) j = if j = k then v else tget d t j := by
  by_cases h : j = k
  · subst h; simp [tget_tset_same]
  · simp [h, tget_tset_ne d t v h]

theorem tget_tkeep (d : Nat → α) (p : Nat → Bool) (t : List (Nat × α)) (k : Nat) :
    tget d (tkeep p t) k = if p k then tget d t k else d k := by
  induction t with
  | nil => simp [tkeep, tget]
  | cons q t ih =>
    simp only [tkeep] at ih
    by_cases hp : p q.1
    · simp only [tkeep, List.filter_cons, hp, if_true, tget]
      by_cases hq : q.1 = k
      · subst hq; simp [hp]
      · simp only [hq, if_false, ih]
    · simp only [tkeep, List.filter_cons, hp, Bool.false_eq_true, if_false, tget]
      by_cases hq : q.1 = k
      · subst hq; simp [hp, ih]
      · simp only [hq, if_false, ih]

/-! ### The canonical form -/

/-- The canonical form as two facts over the list. -/
theorem twf_iff [DecidableEq α] (d : Nat → α) (t : List (Nat × α)) :
    twf d t = true ↔ t.Pairwise (fun p q => p.1 < q.1) ∧ ∀ p ∈ t, p.2 ≠ d p.1 := by
  induction t with
  | nil => simp [twf]
  | cons p t ih =>
    cases t with
    | nil => simp [twf]
    | cons q t =>
      simp only [twf, Bool.and_eq_true, decide_eq_true_eq, ih, List.pairwise_cons, List.mem_cons]
      constructor
      · rintro ⟨⟨h1, h2⟩, ⟨h3, h4⟩, h5⟩
        refine ⟨⟨?_, h3, h4⟩, ?_⟩
        · rintro a (rfl | ha)
          · exact h1
          · exact lt_trans h1 (h3 a ha)
        · rintro a (rfl | ha)
          · exact h2
          · exact h5 a ha
      · rintro ⟨⟨h1, h3, h4⟩, h5⟩
        exact ⟨⟨h1 q (Or.inl rfl), h5 p (Or.inl rfl)⟩, ⟨h3, h4⟩, fun a ha => h5 a (Or.inr ha)⟩

theorem twf_filter [DecidableEq α] (d : Nat → α) (f : Nat × α → Bool) {t : List (Nat × α)} (h : twf d t = true) :
    twf d (t.filter f) = true := by
  rw [twf_iff] at *
  exact ⟨h.1.filter _, fun p hp => h.2 p (List.mem_filter.mp hp).1⟩

theorem twf_tkeep [DecidableEq α] (d : Nat → α) (p : Nat → Bool) {t : List (Nat × α)} (h : twf d t = true) :
    twf d (tkeep p t) = true := twf_filter d _ h

theorem mem_tinsert (t : List (Nat × α)) (k : Nat) (v : α) (p : Nat × α) :
    p ∈ tinsert t k v ↔ p = (k, v) ∨ p ∈ t := by
  induction t with
  | nil => simp [tinsert]
  | cons q t ih =>
    simp only [tinsert]
    split
    · simp
    · simp only [List.mem_cons, ih]; tauto

theorem pairwise_tinsert (t : List (Nat × α)) (k : Nat) (v : α) (h : t.Pairwise (fun p q => p.1 < q.1))
    (hk : ∀ p ∈ t, p.1 ≠ k) : (tinsert t k v).Pairwise (fun p q => p.1 < q.1) := by
  induction t with
  | nil => simp [tinsert]
  | cons q t ih =>
    simp only [tinsert]
    rw [List.pairwise_cons] at h
    split
    · rename_i hlt
      rw [List.pairwise_cons]
      refine ⟨?_, List.pairwise_cons.mpr h⟩
      intro a ha
      rcases List.mem_cons.mp ha with rfl | ha
      · exact hlt
      · exact lt_trans hlt (h.1 a ha)
    · rename_i hge
      rw [List.pairwise_cons]
      refine ⟨?_, ih h.2 (fun p hp => hk p (List.mem_cons_of_mem _ hp))⟩
      intro a ha
      rcases (mem_tinsert t k v a).mp ha with rfl | ha
      · have := hk q (List.mem_cons_self ..)
        simp only; omega
      · exact h.1 a ha

/-- A write keeps the canonical form. -/
theorem twf_tset [DecidableEq α] (d : Nat → α) {t : List (Nat × α)} (k : Nat) (v : α) (h : twf d t = true) :
    twf d (tset d t k v) = true := by
  have he : twf d (terase t k) = true := twf_filter d _ h
  unfold tset
  split
  · exact he
  · rename_i hv
    rw [twf_iff] at he ⊢
    refine ⟨pairwise_tinsert _ _ _ he.1 (fun p hp => mem_terase_ne hp), ?_⟩
    intro p hp
    rcases (mem_tinsert _ _ _ _).mp hp with rfl | hp
    · exact hv
    · exact he.2 p hp

/-! ### Bit fields -/

theorem bits_eq_extract (w : BitVec 32) (hi lo : Nat) : bits w hi lo = (w.extractLsb' lo (hi + 1 - lo)).toNat := by
  simp [bits, BitVec.extractLsb'_toNat]

theorem getLsbD_maskOf (hi lo i : Nat) (hlo : lo ≤ hi) (hhi : hi < 32) :
    (maskOf hi lo).getLsbD i = (decide (lo ≤ i) && decide (i ≤ hi)) := by
  unfold maskOf
  rw [BitVec.getLsbD_ofNat, Nat.testBit_shiftLeft, Nat.testBit_two_pow_sub_one]
  by_cases h1 : lo ≤ i <;> by_cases h2 : i ≤ hi <;> simp [h1, h2] <;> omega

theorem getLsbD_setBits (w : BitVec 32) (hi lo n i : Nat) (hlo : lo ≤ hi) (hhi : hi < 32) :
    (setBits w hi lo n).getLsbD i = if lo ≤ i ∧ i ≤ hi then n.testBit (i - lo) else w.getLsbD i := by
  unfold setBits
  rw [BitVec.getLsbD_or, BitVec.getLsbD_and, BitVec.getLsbD_and, BitVec.getLsbD_not, getLsbD_maskOf _ _ _ hlo hhi,
    BitVec.getLsbD_shiftLeft, BitVec.getLsbD_ofNat]
  by_cases h1 : lo ≤ i <;> by_cases h2 : i ≤ hi <;> simp [h1, h2]
  · have h3 : i < 32 := by omega
    simp [h3, show i - lo < 32 by omega, h1]
  · intro h3
    rcases Nat.lt_or_ge i 32 with h4 | h4
    · exact h4
    · rw [BitVec.getLsbD_of_ge _ _ h4] at h3; simp at h3
  · intro h3
    rcases Nat.lt_or_ge i 32 with h4 | h4
    · exact h4
    · rw [BitVec.getLsbD_of_ge _ _ h4] at h3; simp at h3
  · omega

theorem testBit_bits (w : BitVec 32) (hi lo i : Nat) :
    (bits w hi lo).testBit i = (decide (i < hi + 1 - lo) && w.getLsbD (lo + i)) := by
  unfold bits
  rw [Nat.testBit_mod_two_pow, Nat.testBit_shiftRight]
  rfl

/-- A field read after it was written. -/
theorem bits_setBits_same (w : BitVec 32) (hi lo n : Nat) (hlo : lo ≤ hi) (hhi : hi < 32) :
    bits (setBits w hi lo n) hi lo = n % 2 ^ (hi + 1 - lo) := by
  apply Nat.eq_of_testBit_eq
  intro i
  rw [testBit_bits, Nat.testBit_mod_two_pow, getLsbD_setBits _ _ _ _ _ hlo hhi]
  by_cases h : i < hi + 1 - lo
  · have : lo ≤ lo + i ∧ lo + i ≤ hi := by omega
    simp [h, this]
  · simp [h]

/-- A field of the same word apart from the one written. -/
theorem bits_setBits_apart (w : BitVec 32) (hi lo n hi' lo' : Nat) (hlo : lo ≤ hi) (hhi : hi < 32)
    (h : hi' < lo ∨ hi < lo') : bits (setBits w hi lo n) hi' lo' = bits w hi' lo' := by
  apply Nat.eq_of_testBit_eq
  intro i
  rw [testBit_bits, testBit_bits, getLsbD_setBits _ _ _ _ _ hlo hhi]
  by_cases h1 : i < hi' + 1 - lo'
  · have : ¬ (lo ≤ lo' + i ∧ lo' + i ≤ hi) := by omega
    simp [h1, this]
  · simp [h1]

theorem bits_lt (w : BitVec 32) (hi lo : Nat) : bits w hi lo < 2 ^ (hi + 1 - lo) :=
  Nat.mod_lt _ (by positivity)

end Sys2Proof.Machine
end

