-- ==== Sys2Proof/Laws/State.lean ====
section
/-! SUPPORT. Laws of the updates of the state: what each named update of a register, a field, the
trace, the free-value count and the estimate table leaves alone, and what a read after it gives. -/

namespace Sys2Proof.Machine

namespace State

variable (s : State)

/-! ### setReg -/

@[simp] theorem setReg_pending (a : Nat) (w : Word) : (s.setReg a w).pending = s.pending := rfl
@[simp] theorem setReg_freeIdx (a : Nat) (w : Word) : (s.setReg a w).freeIdx = s.freeIdx := rfl
@[simp] theorem setReg_out (a : Nat) (w : Word) : (s.setReg a w).out = s.out := rfl
@[simp] theorem setReg_fab (a : Nat) (w : Word) : (s.setReg a w).fab = s.fab := rfl
@[simp] theorem setReg_est (a : Nat) (w : Word) : (s.setReg a w).est = s.est := rfl
@[simp] theorem setReg_log (a : Nat) (w : Word) : (s.setReg a w).log = s.log := rfl
@[simp] theorem setReg_pwr (a : Nat) (w : Word) : (s.setReg a w).pwr = s.pwr := rfl
@[simp] theorem setReg_nv (a : Nat) (w : Word) : (s.setReg a w).nv = s.nv := rfl
@[simp] theorem setReg_caddy (a : Nat) (w : Word) : (s.setReg a w).caddy = s.caddy := rfl
@[simp] theorem setReg_net (a : Nat) (w : Word) : (s.setReg a w).net = s.net := rfl
@[simp] theorem setReg_tim (a : Nat) (w : Word) : (s.setReg a w).tim = s.tim := rfl
@[simp] theorem setReg_sprin (a : Nat) (w : Word) : (s.setReg a w).sprin = s.sprin := rfl
@[simp] theorem setReg_disp (a : Nat) (w : Word) : (s.setReg a w).disp = s.disp := rfl
@[simp] theorem setReg_stress (a : Nat) (w : Word) : (s.setReg a w).stress = s.stress := rfl
@[simp] theorem setReg_strip (a : Nat) (w : Word) : (s.setReg a w).strip = s.strip := rfl
@[simp] theorem setReg_rel (a : Nat) (w : Word) : (s.setReg a w).rel = s.rel := rfl
@[simp] theorem setReg_spare (a : Nat) (w : Word) : (s.setReg a w).spare = s.spare := rfl
@[simp] theorem setReg_valve (a : Nat) (w : Word) : (s.setReg a w).valve = s.valve := rfl
@[simp] theorem setReg_fans (a : Nat) (w : Word) : (s.setReg a w).fans = s.fans := rfl
@[simp] theorem setReg_gov (a : Nat) (w : Word) : (s.setReg a w).gov = s.gov := rfl
@[simp] theorem setReg_cup (a : Nat) (w : Word) : (s.setReg a w).cup = s.cup := rfl
@[simp] theorem setReg_aoSeen (a : Nat) (w : Word) : (s.setReg a w).aoSeen = s.aoSeen := rfl
@[simp] theorem setReg_guard (a : Nat) (w : Word) : (s.setReg a w).guard = s.guard := rfl
@[simp] theorem setReg_smap (a : Nat) (w : Word) : (s.setReg a w).smap = s.smap := rfl
@[simp] theorem setReg_field (a : Nat) (w : Word) : (s.setReg a w).field = s.field := rfl
@[simp] theorem setReg_pulse (a : Nat) (w : Word) : (s.setReg a w).pulse = s.pulse := rfl
@[simp] theorem setReg_mill (a : Nat) (w : Word) : (s.setReg a w).mill = s.mill := rfl
@[simp] theorem setReg_snaps (a : Nat) (w : Word) : (s.setReg a w).snaps = s.snaps := rfl

/-! ### put -/

@[simp] theorem put_pending (f : Fld) (n : Nat) : (s.put f n).pending = s.pending := rfl
@[simp] theorem put_freeIdx (f : Fld) (n : Nat) : (s.put f n).freeIdx = s.freeIdx := rfl
@[simp] theorem put_out (f : Fld) (n : Nat) : (s.put f n).out = s.out := rfl
@[simp] theorem put_fab (f : Fld) (n : Nat) : (s.put f n).fab = s.fab := rfl
@[simp] theorem put_est (f : Fld) (n : Nat) : (s.put f n).est = s.est := rfl
@[simp] theorem put_log (f : Fld) (n : Nat) : (s.put f n).log = s.log := rfl
@[simp] theorem put_pwr (f : Fld) (n : Nat) : (s.put f n).pwr = s.pwr := rfl
@[simp] theorem put_nv (f : Fld) (n : Nat) : (s.put f n).nv = s.nv := rfl
@[simp] theorem put_caddy (f : Fld) (n : Nat) : (s.put f n).caddy = s.caddy := rfl
@[simp] theorem put_net (f : Fld) (n : Nat) : (s.put f n).net = s.net := rfl
@[simp] theorem put_tim (f : Fld) (n : Nat) : (s.put f n).tim = s.tim := rfl
@[simp] theorem put_sprin (f : Fld) (n : Nat) : (s.put f n).sprin = s.sprin := rfl
@[simp] theorem put_disp (f : Fld) (n : Nat) : (s.put f n).disp = s.disp := rfl
@[simp] theorem put_stress (f : Fld) (n : Nat) : (s.put f n).stress = s.stress := rfl
@[simp] theorem put_strip (f : Fld) (n : Nat) : (s.put f n).strip = s.strip := rfl
@[simp] theorem put_rel (f : Fld) (n : Nat) : (s.put f n).rel = s.rel := rfl
@[simp] theorem put_spare (f : Fld) (n : Nat) : (s.put f n).spare = s.spare := rfl
@[simp] theorem put_valve (f : Fld) (n : Nat) : (s.put f n).valve = s.valve := rfl
@[simp] theorem put_fans (f : Fld) (n : Nat) : (s.put f n).fans = s.fans := rfl
@[simp] theorem put_gov (f : Fld) (n : Nat) : (s.put f n).gov = s.gov := rfl
@[simp] theorem put_cup (f : Fld) (n : Nat) : (s.put f n).cup = s.cup := rfl
@[simp] theorem put_aoSeen (f : Fld) (n : Nat) : (s.put f n).aoSeen = s.aoSeen := rfl
@[simp] theorem put_guard (f : Fld) (n : Nat) : (s.put f n).guard = s.guard := rfl
@[simp] theorem put_smap (f : Fld) (n : Nat) : (s.put f n).smap = s.smap := rfl
@[simp] theorem put_field (f : Fld) (n : Nat) : (s.put f n).field = s.field := rfl
@[simp] theorem put_pulse (f : Fld) (n : Nat) : (s.put f n).pulse = s.pulse := rfl
@[simp] theorem put_mill (f : Fld) (n : Nat) : (s.put f n).mill = s.mill := rfl
@[simp] theorem put_snaps (f : Fld) (n : Nat) : (s.put f n).snaps = s.snaps := rfl

/-! ### putB -/

@[simp] theorem putB_pending (f : Fld) (b : Bool) : (s.putB f b).pending = s.pending := rfl
@[simp] theorem putB_freeIdx (f : Fld) (b : Bool) : (s.putB f b).freeIdx = s.freeIdx := rfl
@[simp] theorem putB_out (f : Fld) (b : Bool) : (s.putB f b).out = s.out := rfl
@[simp] theorem putB_fab (f : Fld) (b : Bool) : (s.putB f b).fab = s.fab := rfl
@[simp] theorem putB_est (f : Fld) (b : Bool) : (s.putB f b).est = s.est := rfl
@[simp] theorem putB_log (f : Fld) (b : Bool) : (s.putB f b).log = s.log := rfl
@[simp] theorem putB_pwr (f : Fld) (b : Bool) : (s.putB f b).pwr = s.pwr := rfl
@[simp] theorem putB_nv (f : Fld) (b : Bool) : (s.putB f b).nv = s.nv := rfl
@[simp] theorem putB_caddy (f : Fld) (b : Bool) : (s.putB f b).caddy = s.caddy := rfl
@[simp] theorem putB_net (f : Fld) (b : Bool) : (s.putB f b).net = s.net := rfl
@[simp] theorem putB_tim (f : Fld) (b : Bool) : (s.putB f b).tim = s.tim := rfl
@[simp] theorem putB_sprin (f : Fld) (b : Bool) : (s.putB f b).sprin = s.sprin := rfl
@[simp] theorem putB_disp (f : Fld) (b : Bool) : (s.putB f b).disp = s.disp := rfl
@[simp] theorem putB_stress (f : Fld) (b : Bool) : (s.putB f b).stress = s.stress := rfl
@[simp] theorem putB_strip (f : Fld) (b : Bool) : (s.putB f b).strip = s.strip := rfl
@[simp] theorem putB_rel (f : Fld) (b : Bool) : (s.putB f b).rel = s.rel := rfl
@[simp] theorem putB_spare (f : Fld) (b : Bool) : (s.putB f b).spare = s.spare := rfl
@[simp] theorem putB_valve (f : Fld) (b : Bool) : (s.putB f b).valve = s.valve := rfl
@[simp] theorem putB_fans (f : Fld) (b : Bool) : (s.putB f b).fans = s.fans := rfl
@[simp] theorem putB_gov (f : Fld) (b : Bool) : (s.putB f b).gov = s.gov := rfl
@[simp] theorem putB_cup (f : Fld) (b : Bool) : (s.putB f b).cup = s.cup := rfl
@[simp] theorem putB_aoSeen (f : Fld) (b : Bool) : (s.putB f b).aoSeen = s.aoSeen := rfl
@[simp] theorem putB_guard (f : Fld) (b : Bool) : (s.putB f b).guard = s.guard := rfl
@[simp] theorem putB_smap (f : Fld) (b : Bool) : (s.putB f b).smap = s.smap := rfl
@[simp] theorem putB_field (f : Fld) (b : Bool) : (s.putB f b).field = s.field := rfl
@[simp] theorem putB_pulse (f : Fld) (b : Bool) : (s.putB f b).pulse = s.pulse := rfl
@[simp] theorem putB_mill (f : Fld) (b : Bool) : (s.putB f b).mill = s.mill := rfl
@[simp] theorem putB_snaps (f : Fld) (b : Bool) : (s.putB f b).snaps = s.snaps := rfl

/-! ### inc -/

@[simp] theorem inc_pending (f : Fld) : (s.inc f).pending = s.pending := rfl
@[simp] theorem inc_freeIdx (f : Fld) : (s.inc f).freeIdx = s.freeIdx := rfl
@[simp] theorem inc_out (f : Fld) : (s.inc f).out = s.out := rfl
@[simp] theorem inc_fab (f : Fld) : (s.inc f).fab = s.fab := rfl
@[simp] theorem inc_est (f : Fld) : (s.inc f).est = s.est := rfl
@[simp] theorem inc_log (f : Fld) : (s.inc f).log = s.log := rfl
@[simp] theorem inc_pwr (f : Fld) : (s.inc f).pwr = s.pwr := rfl
@[simp] theorem inc_nv (f : Fld) : (s.inc f).nv = s.nv := rfl
@[simp] theorem inc_caddy (f : Fld) : (s.inc f).caddy = s.caddy := rfl
@[simp] theorem inc_net (f : Fld) : (s.inc f).net = s.net := rfl
@[simp] theorem inc_tim (f : Fld) : (s.inc f).tim = s.tim := rfl
@[simp] theorem inc_sprin (f : Fld) : (s.inc f).sprin = s.sprin := rfl
@[simp] theorem inc_disp (f : Fld) : (s.inc f).disp = s.disp := rfl
@[simp] theorem inc_stress (f : Fld) : (s.inc f).stress = s.stress := rfl
@[simp] theorem inc_strip (f : Fld) : (s.inc f).strip = s.strip := rfl
@[simp] theorem inc_rel (f : Fld) : (s.inc f).rel = s.rel := rfl
@[simp] theorem inc_spare (f : Fld) : (s.inc f).spare = s.spare := rfl
@[simp] theorem inc_valve (f : Fld) : (s.inc f).valve = s.valve := rfl
@[simp] theorem inc_fans (f : Fld) : (s.inc f).fans = s.fans := rfl
@[simp] theorem inc_gov (f : Fld) : (s.inc f).gov = s.gov := rfl
@[simp] theorem inc_cup (f : Fld) : (s.inc f).cup = s.cup := rfl
@[simp] theorem inc_aoSeen (f : Fld) : (s.inc f).aoSeen = s.aoSeen := rfl
@[simp] theorem inc_guard (f : Fld) : (s.inc f).guard = s.guard := rfl
@[simp] theorem inc_smap (f : Fld) : (s.inc f).smap = s.smap := rfl
@[simp] theorem inc_field (f : Fld) : (s.inc f).field = s.field := rfl
@[simp] theorem inc_pulse (f : Fld) : (s.inc f).pulse = s.pulse := rfl
@[simp] theorem inc_mill (f : Fld) : (s.inc f).mill = s.mill := rfl
@[simp] theorem inc_snaps (f : Fld) : (s.inc f).snaps = s.snaps := rfl

/-! ### addSat -/

@[simp] theorem addSat_pending (f : Fld) (n : Nat) : (s.addSat f n).pending = s.pending := rfl
@[simp] theorem addSat_freeIdx (f : Fld) (n : Nat) : (s.addSat f n).freeIdx = s.freeIdx := rfl
@[simp] theorem addSat_out (f : Fld) (n : Nat) : (s.addSat f n).out = s.out := rfl
@[simp] theorem addSat_fab (f : Fld) (n : Nat) : (s.addSat f n).fab = s.fab := rfl
@[simp] theorem addSat_est (f : Fld) (n : Nat) : (s.addSat f n).est = s.est := rfl
@[simp] theorem addSat_log (f : Fld) (n : Nat) : (s.addSat f n).log = s.log := rfl
@[simp] theorem addSat_pwr (f : Fld) (n : Nat) : (s.addSat f n).pwr = s.pwr := rfl
@[simp] theorem addSat_nv (f : Fld) (n : Nat) : (s.addSat f n).nv = s.nv := rfl
@[simp] theorem addSat_caddy (f : Fld) (n : Nat) : (s.addSat f n).caddy = s.caddy := rfl
@[simp] theorem addSat_net (f : Fld) (n : Nat) : (s.addSat f n).net = s.net := rfl
@[simp] theorem addSat_tim (f : Fld) (n : Nat) : (s.addSat f n).tim = s.tim := rfl
@[simp] theorem addSat_sprin (f : Fld) (n : Nat) : (s.addSat f n).sprin = s.sprin := rfl
@[simp] theorem addSat_disp (f : Fld) (n : Nat) : (s.addSat f n).disp = s.disp := rfl
@[simp] theorem addSat_stress (f : Fld) (n : Nat) : (s.addSat f n).stress = s.stress := rfl
@[simp] theorem addSat_strip (f : Fld) (n : Nat) : (s.addSat f n).strip = s.strip := rfl
@[simp] theorem addSat_rel (f : Fld) (n : Nat) : (s.addSat f n).rel = s.rel := rfl
@[simp] theorem addSat_spare (f : Fld) (n : Nat) : (s.addSat f n).spare = s.spare := rfl
@[simp] theorem addSat_valve (f : Fld) (n : Nat) : (s.addSat f n).valve = s.valve := rfl
@[simp] theorem addSat_fans (f : Fld) (n : Nat) : (s.addSat f n).fans = s.fans := rfl
@[simp] theorem addSat_gov (f : Fld) (n : Nat) : (s.addSat f n).gov = s.gov := rfl
@[simp] theorem addSat_cup (f : Fld) (n : Nat) : (s.addSat f n).cup = s.cup := rfl
@[simp] theorem addSat_aoSeen (f : Fld) (n : Nat) : (s.addSat f n).aoSeen = s.aoSeen := rfl
@[simp] theorem addSat_guard (f : Fld) (n : Nat) : (s.addSat f n).guard = s.guard := rfl
@[simp] theorem addSat_smap (f : Fld) (n : Nat) : (s.addSat f n).smap = s.smap := rfl
@[simp] theorem addSat_field (f : Fld) (n : Nat) : (s.addSat f n).field = s.field := rfl
@[simp] theorem addSat_pulse (f : Fld) (n : Nat) : (s.addSat f n).pulse = s.pulse := rfl
@[simp] theorem addSat_mill (f : Fld) (n : Nat) : (s.addSat f n).mill = s.mill := rfl
@[simp] theorem addSat_snaps (f : Fld) (n : Nat) : (s.addSat f n).snaps = s.snaps := rfl

/-! ### incSat -/

@[simp] theorem incSat_pending (f : Fld) : (s.incSat f).pending = s.pending := rfl
@[simp] theorem incSat_freeIdx (f : Fld) : (s.incSat f).freeIdx = s.freeIdx := rfl
@[simp] theorem incSat_out (f : Fld) : (s.incSat f).out = s.out := rfl
@[simp] theorem incSat_fab (f : Fld) : (s.incSat f).fab = s.fab := rfl
@[simp] theorem incSat_est (f : Fld) : (s.incSat f).est = s.est := rfl
@[simp] theorem incSat_log (f : Fld) : (s.incSat f).log = s.log := rfl
@[simp] theorem incSat_pwr (f : Fld) : (s.incSat f).pwr = s.pwr := rfl
@[simp] theorem incSat_nv (f : Fld) : (s.incSat f).nv = s.nv := rfl
@[simp] theorem incSat_caddy (f : Fld) : (s.incSat f).caddy = s.caddy := rfl
@[simp] theorem incSat_net (f : Fld) : (s.incSat f).net = s.net := rfl
@[simp] theorem incSat_tim (f : Fld) : (s.incSat f).tim = s.tim := rfl
@[simp] theorem incSat_sprin (f : Fld) : (s.incSat f).sprin = s.sprin := rfl
@[simp] theorem incSat_disp (f : Fld) : (s.incSat f).disp = s.disp := rfl
@[simp] theorem incSat_stress (f : Fld) : (s.incSat f).stress = s.stress := rfl
@[simp] theorem incSat_strip (f : Fld) : (s.incSat f).strip = s.strip := rfl
@[simp] theorem incSat_rel (f : Fld) : (s.incSat f).rel = s.rel := rfl
@[simp] theorem incSat_spare (f : Fld) : (s.incSat f).spare = s.spare := rfl
@[simp] theorem incSat_valve (f : Fld) : (s.incSat f).valve = s.valve := rfl
@[simp] theorem incSat_fans (f : Fld) : (s.incSat f).fans = s.fans := rfl
@[simp] theorem incSat_gov (f : Fld) : (s.incSat f).gov = s.gov := rfl
@[simp] theorem incSat_cup (f : Fld) : (s.incSat f).cup = s.cup := rfl
@[simp] theorem incSat_aoSeen (f : Fld) : (s.incSat f).aoSeen = s.aoSeen := rfl
@[simp] theorem incSat_guard (f : Fld) : (s.incSat f).guard = s.guard := rfl
@[simp] theorem incSat_smap (f : Fld) : (s.incSat f).smap = s.smap := rfl
@[simp] theorem incSat_field (f : Fld) : (s.incSat f).field = s.field := rfl
@[simp] theorem incSat_pulse (f : Fld) : (s.incSat f).pulse = s.pulse := rfl
@[simp] theorem incSat_mill (f : Fld) : (s.incSat f).mill = s.mill := rfl
@[simp] theorem incSat_snaps (f : Fld) : (s.incSat f).snaps = s.snaps := rfl

/-! ### raise -/

@[simp] theorem raise_pending (f : Fld) (n : Nat) : (s.raise f n).pending = s.pending := rfl
@[simp] theorem raise_freeIdx (f : Fld) (n : Nat) : (s.raise f n).freeIdx = s.freeIdx := rfl
@[simp] theorem raise_out (f : Fld) (n : Nat) : (s.raise f n).out = s.out := rfl
@[simp] theorem raise_fab (f : Fld) (n : Nat) : (s.raise f n).fab = s.fab := rfl
@[simp] theorem raise_est (f : Fld) (n : Nat) : (s.raise f n).est = s.est := rfl
@[simp] theorem raise_log (f : Fld) (n : Nat) : (s.raise f n).log = s.log := rfl
@[simp] theorem raise_pwr (f : Fld) (n : Nat) : (s.raise f n).pwr = s.pwr := rfl
@[simp] theorem raise_nv (f : Fld) (n : Nat) : (s.raise f n).nv = s.nv := rfl
@[simp] theorem raise_caddy (f : Fld) (n : Nat) : (s.raise f n).caddy = s.caddy := rfl
@[simp] theorem raise_net (f : Fld) (n : Nat) : (s.raise f n).net = s.net := rfl
@[simp] theorem raise_tim (f : Fld) (n : Nat) : (s.raise f n).tim = s.tim := rfl
@[simp] theorem raise_sprin (f : Fld) (n : Nat) : (s.raise f n).sprin = s.sprin := rfl
@[simp] theorem raise_disp (f : Fld) (n : Nat) : (s.raise f n).disp = s.disp := rfl
@[simp] theorem raise_stress (f : Fld) (n : Nat) : (s.raise f n).stress = s.stress := rfl
@[simp] theorem raise_strip (f : Fld) (n : Nat) : (s.raise f n).strip = s.strip := rfl
@[simp] theorem raise_rel (f : Fld) (n : Nat) : (s.raise f n).rel = s.rel := rfl
@[simp] theorem raise_spare (f : Fld) (n : Nat) : (s.raise f n).spare = s.spare := rfl
@[simp] theorem raise_valve (f : Fld) (n : Nat) : (s.raise f n).valve = s.valve := rfl
@[simp] theorem raise_fans (f : Fld) (n : Nat) : (s.raise f n).fans = s.fans := rfl
@[simp] theorem raise_gov (f : Fld) (n : Nat) : (s.raise f n).gov = s.gov := rfl
@[simp] theorem raise_cup (f : Fld) (n : Nat) : (s.raise f n).cup = s.cup := rfl
@[simp] theorem raise_aoSeen (f : Fld) (n : Nat) : (s.raise f n).aoSeen = s.aoSeen := rfl
@[simp] theorem raise_guard (f : Fld) (n : Nat) : (s.raise f n).guard = s.guard := rfl
@[simp] theorem raise_smap (f : Fld) (n : Nat) : (s.raise f n).smap = s.smap := rfl
@[simp] theorem raise_field (f : Fld) (n : Nat) : (s.raise f n).field = s.field := rfl
@[simp] theorem raise_pulse (f : Fld) (n : Nat) : (s.raise f n).pulse = s.pulse := rfl
@[simp] theorem raise_mill (f : Fld) (n : Nat) : (s.raise f n).mill = s.mill := rfl
@[simp] theorem raise_snaps (f : Fld) (n : Nat) : (s.raise f n).snaps = s.snaps := rfl

/-! ### setOptime -/

@[simp] theorem setOptime_pending (n : Nat) : (s.setOptime n).pending = s.pending := by simp only [State.setOptime, put_pending, setReg_pending]
@[simp] theorem setOptime_freeIdx (n : Nat) : (s.setOptime n).freeIdx = s.freeIdx := by simp only [State.setOptime, put_freeIdx, setReg_freeIdx]
@[simp] theorem setOptime_out (n : Nat) : (s.setOptime n).out = s.out := by simp only [State.setOptime, put_out, setReg_out]
@[simp] theorem setOptime_fab (n : Nat) : (s.setOptime n).fab = s.fab := by simp only [State.setOptime, put_fab, setReg_fab]
@[simp] theorem setOptime_est (n : Nat) : (s.setOptime n).est = s.est := by simp only [State.setOptime, put_est, setReg_est]
@[simp] theorem setOptime_log (n : Nat) : (s.setOptime n).log = s.log := by simp only [State.setOptime, put_log, setReg_log]
@[simp] theorem setOptime_pwr (n : Nat) : (s.setOptime n).pwr = s.pwr := by simp only [State.setOptime, put_pwr, setReg_pwr]
@[simp] theorem setOptime_nv (n : Nat) : (s.setOptime n).nv = s.nv := by simp only [State.setOptime, put_nv, setReg_nv]
@[simp] theorem setOptime_caddy (n : Nat) : (s.setOptime n).caddy = s.caddy := by simp only [State.setOptime, put_caddy, setReg_caddy]
@[simp] theorem setOptime_net (n : Nat) : (s.setOptime n).net = s.net := by simp only [State.setOptime, put_net, setReg_net]
@[simp] theorem setOptime_tim (n : Nat) : (s.setOptime n).tim = s.tim := by simp only [State.setOptime, put_tim, setReg_tim]
@[simp] theorem setOptime_sprin (n : Nat) : (s.setOptime n).sprin = s.sprin := by simp only [State.setOptime, put_sprin, setReg_sprin]
@[simp] theorem setOptime_disp (n : Nat) : (s.setOptime n).disp = s.disp := by simp only [State.setOptime, put_disp, setReg_disp]
@[simp] theorem setOptime_stress (n : Nat) : (s.setOptime n).stress = s.stress := by simp only [State.setOptime, put_stress, setReg_stress]
@[simp] theorem setOptime_strip (n : Nat) : (s.setOptime n).strip = s.strip := by simp only [State.setOptime, put_strip, setReg_strip]
@[simp] theorem setOptime_rel (n : Nat) : (s.setOptime n).rel = s.rel := by simp only [State.setOptime, put_rel, setReg_rel]
@[simp] theorem setOptime_spare (n : Nat) : (s.setOptime n).spare = s.spare := by simp only [State.setOptime, put_spare, setReg_spare]
@[simp] theorem setOptime_valve (n : Nat) : (s.setOptime n).valve = s.valve := by simp only [State.setOptime, put_valve, setReg_valve]
@[simp] theorem setOptime_fans (n : Nat) : (s.setOptime n).fans = s.fans := by simp only [State.setOptime, put_fans, setReg_fans]
@[simp] theorem setOptime_gov (n : Nat) : (s.setOptime n).gov = s.gov := by simp only [State.setOptime, put_gov, setReg_gov]
@[simp] theorem setOptime_cup (n : Nat) : (s.setOptime n).cup = s.cup := by simp only [State.setOptime, put_cup, setReg_cup]
@[simp] theorem setOptime_aoSeen (n : Nat) : (s.setOptime n).aoSeen = s.aoSeen := by simp only [State.setOptime, put_aoSeen, setReg_aoSeen]
@[simp] theorem setOptime_guard (n : Nat) : (s.setOptime n).guard = s.guard := by simp only [State.setOptime, put_guard, setReg_guard]
@[simp] theorem setOptime_smap (n : Nat) : (s.setOptime n).smap = s.smap := by simp only [State.setOptime, put_smap, setReg_smap]
@[simp] theorem setOptime_field (n : Nat) : (s.setOptime n).field = s.field := by simp only [State.setOptime, put_field, setReg_field]
@[simp] theorem setOptime_pulse (n : Nat) : (s.setOptime n).pulse = s.pulse := by simp only [State.setOptime, put_pulse, setReg_pulse]
@[simp] theorem setOptime_mill (n : Nat) : (s.setOptime n).mill = s.mill := by simp only [State.setOptime, put_mill, setReg_mill]
@[simp] theorem setOptime_snaps (n : Nat) : (s.setOptime n).snaps = s.snaps := by simp only [State.setOptime, put_snaps, setReg_snaps]

/-! ### took -/

@[simp] theorem took_pending : (s.took ).pending = s.pending := rfl
@[simp] theorem took_regs : (s.took ).regs = s.regs := rfl
@[simp] theorem took_out : (s.took ).out = s.out := rfl
@[simp] theorem took_fab : (s.took ).fab = s.fab := rfl
@[simp] theorem took_est : (s.took ).est = s.est := rfl
@[simp] theorem took_log : (s.took ).log = s.log := rfl
@[simp] theorem took_pwr : (s.took ).pwr = s.pwr := rfl
@[simp] theorem took_nv : (s.took ).nv = s.nv := rfl
@[simp] theorem took_caddy : (s.took ).caddy = s.caddy := rfl
@[simp] theorem took_net : (s.took ).net = s.net := rfl
@[simp] theorem took_tim : (s.took ).tim = s.tim := rfl
@[simp] theorem took_sprin : (s.took ).sprin = s.sprin := rfl
@[simp] theorem took_disp : (s.took ).disp = s.disp := rfl
@[simp] theorem took_stress : (s.took ).stress = s.stress := rfl
@[simp] theorem took_strip : (s.took ).strip = s.strip := rfl
@[simp] theorem took_rel : (s.took ).rel = s.rel := rfl
@[simp] theorem took_spare : (s.took ).spare = s.spare := rfl
@[simp] theorem took_valve : (s.took ).valve = s.valve := rfl
@[simp] theorem took_fans : (s.took ).fans = s.fans := rfl
@[simp] theorem took_gov : (s.took ).gov = s.gov := rfl
@[simp] theorem took_cup : (s.took ).cup = s.cup := rfl
@[simp] theorem took_aoSeen : (s.took ).aoSeen = s.aoSeen := rfl
@[simp] theorem took_guard : (s.took ).guard = s.guard := rfl
@[simp] theorem took_smap : (s.took ).smap = s.smap := rfl
@[simp] theorem took_field : (s.took ).field = s.field := rfl
@[simp] theorem took_pulse : (s.took ).pulse = s.pulse := rfl
@[simp] theorem took_mill : (s.took ).mill = s.mill := rfl
@[simp] theorem took_snaps : (s.took ).snaps = s.snaps := rfl

/-! ### send -/

@[simp] theorem send_pending (o : Output) : (s.send o).pending = s.pending := rfl
@[simp] theorem send_regs (o : Output) : (s.send o).regs = s.regs := rfl
@[simp] theorem send_freeIdx (o : Output) : (s.send o).freeIdx = s.freeIdx := rfl
@[simp] theorem send_fab (o : Output) : (s.send o).fab = s.fab := rfl
@[simp] theorem send_est (o : Output) : (s.send o).est = s.est := rfl
@[simp] theorem send_log (o : Output) : (s.send o).log = s.log := rfl
@[simp] theorem send_pwr (o : Output) : (s.send o).pwr = s.pwr := rfl
@[simp] theorem send_nv (o : Output) : (s.send o).nv = s.nv := rfl
@[simp] theorem send_caddy (o : Output) : (s.send o).caddy = s.caddy := rfl
@[simp] theorem send_net (o : Output) : (s.send o).net = s.net := rfl
@[simp] theorem send_tim (o : Output) : (s.send o).tim = s.tim := rfl
@[simp] theorem send_sprin (o : Output) : (s.send o).sprin = s.sprin := rfl
@[simp] theorem send_disp (o : Output) : (s.send o).disp = s.disp := rfl
@[simp] theorem send_stress (o : Output) : (s.send o).stress = s.stress := rfl
@[simp] theorem send_strip (o : Output) : (s.send o).strip = s.strip := rfl
@[simp] theorem send_rel (o : Output) : (s.send o).rel = s.rel := rfl
@[simp] theorem send_spare (o : Output) : (s.send o).spare = s.spare := rfl
@[simp] theorem send_valve (o : Output) : (s.send o).valve = s.valve := rfl
@[simp] theorem send_fans (o : Output) : (s.send o).fans = s.fans := rfl
@[simp] theorem send_gov (o : Output) : (s.send o).gov = s.gov := rfl
@[simp] theorem send_cup (o : Output) : (s.send o).cup = s.cup := rfl
@[simp] theorem send_aoSeen (o : Output) : (s.send o).aoSeen = s.aoSeen := rfl
@[simp] theorem send_guard (o : Output) : (s.send o).guard = s.guard := rfl
@[simp] theorem send_smap (o : Output) : (s.send o).smap = s.smap := rfl
@[simp] theorem send_field (o : Output) : (s.send o).field = s.field := rfl
@[simp] theorem send_pulse (o : Output) : (s.send o).pulse = s.pulse := rfl
@[simp] theorem send_mill (o : Output) : (s.send o).mill = s.mill := rfl
@[simp] theorem send_snaps (o : Output) : (s.send o).snaps = s.snaps := rfl

/-! ### estWrite -/

@[simp] theorem estWrite_pending (n : Nat) (w0 w1 w2 w3 : Word) : (s.estWrite n w0 w1 w2 w3).pending = s.pending := rfl
@[simp] theorem estWrite_regs (n : Nat) (w0 w1 w2 w3 : Word) : (s.estWrite n w0 w1 w2 w3).regs = s.regs := rfl
@[simp] theorem estWrite_freeIdx (n : Nat) (w0 w1 w2 w3 : Word) : (s.estWrite n w0 w1 w2 w3).freeIdx = s.freeIdx := rfl
@[simp] theorem estWrite_out (n : Nat) (w0 w1 w2 w3 : Word) : (s.estWrite n w0 w1 w2 w3).out = s.out := rfl
@[simp] theorem estWrite_fab (n : Nat) (w0 w1 w2 w3 : Word) : (s.estWrite n w0 w1 w2 w3).fab = s.fab := rfl
@[simp] theorem estWrite_log (n : Nat) (w0 w1 w2 w3 : Word) : (s.estWrite n w0 w1 w2 w3).log = s.log := rfl
@[simp] theorem estWrite_pwr (n : Nat) (w0 w1 w2 w3 : Word) : (s.estWrite n w0 w1 w2 w3).pwr = s.pwr := rfl
@[simp] theorem estWrite_nv (n : Nat) (w0 w1 w2 w3 : Word) : (s.estWrite n w0 w1 w2 w3).nv = s.nv := rfl
@[simp] theorem estWrite_caddy (n : Nat) (w0 w1 w2 w3 : Word) : (s.estWrite n w0 w1 w2 w3).caddy = s.caddy := rfl
@[simp] theorem estWrite_net (n : Nat) (w0 w1 w2 w3 : Word) : (s.estWrite n w0 w1 w2 w3).net = s.net := rfl
@[simp] theorem estWrite_tim (n : Nat) (w0 w1 w2 w3 : Word) : (s.estWrite n w0 w1 w2 w3).tim = s.tim := rfl
@[simp] theorem estWrite_sprin (n : Nat) (w0 w1 w2 w3 : Word) : (s.estWrite n w0 w1 w2 w3).sprin = s.sprin := rfl
@[simp] theorem estWrite_disp (n : Nat) (w0 w1 w2 w3 : Word) : (s.estWrite n w0 w1 w2 w3).disp = s.disp := rfl
@[simp] theorem estWrite_stress (n : Nat) (w0 w1 w2 w3 : Word) : (s.estWrite n w0 w1 w2 w3).stress = s.stress := rfl
@[simp] theorem estWrite_strip (n : Nat) (w0 w1 w2 w3 : Word) : (s.estWrite n w0 w1 w2 w3).strip = s.strip := rfl
@[simp] theorem estWrite_rel (n : Nat) (w0 w1 w2 w3 : Word) : (s.estWrite n w0 w1 w2 w3).rel = s.rel := rfl
@[simp] theorem estWrite_spare (n : Nat) (w0 w1 w2 w3 : Word) : (s.estWrite n w0 w1 w2 w3).spare = s.spare := rfl
@[simp] theorem estWrite_valve (n : Nat) (w0 w1 w2 w3 : Word) : (s.estWrite n w0 w1 w2 w3).valve = s.valve := rfl
@[simp] theorem estWrite_fans (n : Nat) (w0 w1 w2 w3 : Word) : (s.estWrite n w0 w1 w2 w3).fans = s.fans := rfl
@[simp] theorem estWrite_gov (n : Nat) (w0 w1 w2 w3 : Word) : (s.estWrite n w0 w1 w2 w3).gov = s.gov := rfl
@[simp] theorem estWrite_cup (n : Nat) (w0 w1 w2 w3 : Word) : (s.estWrite n w0 w1 w2 w3).cup = s.cup := rfl
@[simp] theorem estWrite_aoSeen (n : Nat) (w0 w1 w2 w3 : Word) : (s.estWrite n w0 w1 w2 w3).aoSeen = s.aoSeen := rfl
@[simp] theorem estWrite_guard (n : Nat) (w0 w1 w2 w3 : Word) : (s.estWrite n w0 w1 w2 w3).guard = s.guard := rfl
@[simp] theorem estWrite_smap (n : Nat) (w0 w1 w2 w3 : Word) : (s.estWrite n w0 w1 w2 w3).smap = s.smap := rfl
@[simp] theorem estWrite_field (n : Nat) (w0 w1 w2 w3 : Word) : (s.estWrite n w0 w1 w2 w3).field = s.field := rfl
@[simp] theorem estWrite_pulse (n : Nat) (w0 w1 w2 w3 : Word) : (s.estWrite n w0 w1 w2 w3).pulse = s.pulse := rfl
@[simp] theorem estWrite_mill (n : Nat) (w0 w1 w2 w3 : Word) : (s.estWrite n w0 w1 w2 w3).mill = s.mill := rfl
@[simp] theorem estWrite_snaps (n : Nat) (w0 w1 w2 w3 : Word) : (s.estWrite n w0 w1 w2 w3).snaps = s.snaps := rfl

/-- A publication is a write of the four words of its entry (R289). -/
theorem publish_eq (n : Nat) (v g : F32) (x : Word) (i : EntryInfo) :
    s.publish n v g x i = s.estWrite n (if i.valid then v else 0x7FC00000) g x (s.entryWord3 n i) := rfl

/-! ### Reads of registers and fields after an update -/

/-- Equal register tables read alike. -/
theorem reg_congr {u t : State} (h : u.regs = t.regs) (a : Nat) : u.reg a = t.reg a := by
  unfold State.reg; rw [h]

theorem get_congr {u t : State} (h : u.regs = t.regs) (f : Fld) : u.get f = t.get f := by
  unfold State.get; rw [reg_congr h]

/-- A register of a state that shares another's register table. -/
theorem reg_of_regs {u t : State} {a : Nat} {w : Word} (h : t.reg a = w) (hu : u.regs = t.regs) : u.reg a = w :=
  (reg_congr hu a).trans h

theorem get_of_regs {u t : State} {f : Fld} {n : Nat} (h : t.get f = n) (hu : u.regs = t.regs) : u.get f = n :=
  (get_congr hu f).trans h

theorem reg_setReg (a b : Nat) (w : Word) : (s.setReg a w).reg b = if b = a then w else s.reg b :=
  tget_tset regReset s.regs b a w

@[simp] theorem reg_setReg_same (a : Nat) (w : Word) : (s.setReg a w).reg a = w := by simp [reg_setReg]

theorem reg_setReg_ne {a b : Nat} (w : Word) (h : b ≠ a) : (s.setReg a w).reg b = s.reg b := by simp [reg_setReg, h]

theorem reg_put (f : Fld) (n b : Nat) :
    (s.put f n).reg b = if b = f.addr then setBits (s.reg f.addr) f.hi f.lo n else s.reg b :=
  s.reg_setReg f.addr b _

theorem reg_put_ne (f : Fld) (n : Nat) {b : Nat} (h : b ≠ f.addr) : (s.put f n).reg b = s.reg b := by
  simp [reg_put, h]

/-- A field read after it was written. -/
theorem get_put_same (f : Fld) (n : Nat) (h : f.lo ≤ f.hi ∧ f.hi < 32) :
    (s.put f n).get f = n % 2 ^ (f.hi + 1 - f.lo) := by
  simp [State.get, reg_put, bits_setBits_same _ _ _ _ h.1 h.2]

/-- A field of another register, or apart from the one written. -/
theorem get_put_ne (f g : Fld) (n : Nat) (hf : f.lo ≤ f.hi ∧ f.hi < 32)
    (h : g.addr ≠ f.addr ∨ g.hi < f.lo ∨ f.hi < g.lo) : (s.put f n).get g = s.get g := by
  unfold State.get
  rw [reg_put]
  split
  · rename_i e
    rcases h with h | h
    · exact absurd e h
    · rw [bits_setBits_apart _ _ _ _ _ _ hf.1 hf.2 h, e]
  · rfl

theorem get_setReg_ne (g : Fld) (a : Nat) (w : Word) (h : g.addr ≠ a) : (s.setReg a w).get g = s.get g := by
  simp [State.get, reg_setReg, h]

theorem get_setReg_same (g : Fld) (w : Word) : (s.setReg g.addr w).get g = bits w g.hi g.lo := by
  simp [State.get]

theorem get_lt (f : Fld) : s.get f < 2 ^ (f.hi + 1 - f.lo) := bits_lt _ _ _

theorem reg_putB_ne (f : Fld) (b : Bool) {a : Nat} (h : a ≠ f.addr) : (s.putB f b).reg a = s.reg a :=
  s.reg_put_ne f _ h

theorem reg_inc_ne (f : Fld) {a : Nat} (h : a ≠ f.addr) : (s.inc f).reg a = s.reg a := s.reg_put_ne f _ h

theorem reg_incSat_ne (f : Fld) {a : Nat} (h : a ≠ f.addr) : (s.incSat f).reg a = s.reg a := s.reg_put_ne f _ h

theorem reg_addSat_ne (f : Fld) (n : Nat) {a : Nat} (h : a ≠ f.addr) : (s.addSat f n).reg a = s.reg a :=
  s.reg_put_ne f _ h

theorem get_putB_same (f : Fld) (b : Bool) (h : f.lo ≤ f.hi ∧ f.hi < 32) :
    (s.putB f b).get f = if b then 1 else 0 := by
  unfold State.putB
  rw [get_put_same _ _ _ h]
  have h2 : 2 ≤ 2 ^ (f.hi + 1 - f.lo) := by
    calc 2 = 2 ^ 1 := rfl
      _ ≤ _ := Nat.pow_le_pow_right (by omega) (by omega)
  cases b <;> simp; omega

theorem get_inc_same (f : Fld) (h : f.lo ≤ f.hi ∧ f.hi < 32) :
    (s.inc f).get f = (s.get f + 1) % 2 ^ (f.hi + 1 - f.lo) := s.get_put_same f _ h

theorem get_addSat_same (f : Fld) (n : Nat) (h : f.lo ≤ f.hi ∧ f.hi < 32) :
    (s.addSat f n).get f = satTo (f.hi + 1 - f.lo) (s.get f + n) := by
  unfold State.addSat
  rw [get_put_same _ _ _ h]
  apply Nat.mod_eq_of_lt
  have : 0 < 2 ^ (f.hi + 1 - f.lo) := by positivity
  unfold satTo; omega

theorem get_incSat_same (f : Fld) (h : f.lo ≤ f.hi ∧ f.hi < 32) :
    (s.incSat f).get f = satTo (f.hi + 1 - f.lo) (s.get f + 1) := s.get_addSat_same f 1 h

/-! ### Reads that an update of other state leaves alone -/

@[simp] theorem reg_took (r0 : Nat) : (s.took ).reg r0 = s.reg r0 := rfl
@[simp] theorem get_took (g0 : Fld) : (s.took ).get g0 = s.get g0 := rfl
@[simp] theorem reg_send (o : Output) (r0 : Nat) : (s.send o).reg r0 = s.reg r0 := rfl
@[simp] theorem get_send (o : Output) (g0 : Fld) : (s.send o).get g0 = s.get g0 := rfl
@[simp] theorem reg_estWrite (n : Nat) (w0 w1 w2 w3 : Word) (r0 : Nat) : (s.estWrite n w0 w1 w2 w3).reg r0 = s.reg r0 := rfl
@[simp] theorem get_estWrite (n : Nat) (w0 w1 w2 w3 : Word) (g0 : Fld) : (s.estWrite n w0 w1 w2 w3).get g0 = s.get g0 := rfl

/-! ### Fields that other updates leave alone -/

theorem get_putB_ne (f g : Fld) (b : Bool) (hf : f.lo ≤ f.hi ∧ f.hi < 32)
    (h : g.addr ≠ f.addr ∨ g.hi < f.lo ∨ f.hi < g.lo) : (s.putB f b).get g = s.get g := s.get_put_ne f g _ hf h

theorem get_inc_ne (f g : Fld) (hf : f.lo ≤ f.hi ∧ f.hi < 32)
    (h : g.addr ≠ f.addr ∨ g.hi < f.lo ∨ f.hi < g.lo) : (s.inc f).get g = s.get g := s.get_put_ne f g _ hf h

theorem get_addSat_ne (f g : Fld) (n : Nat) (hf : f.lo ≤ f.hi ∧ f.hi < 32)
    (h : g.addr ≠ f.addr ∨ g.hi < f.lo ∨ f.hi < g.lo) : (s.addSat f n).get g = s.get g := s.get_put_ne f g _ hf h

theorem get_incSat_ne (f g : Fld) (hf : f.lo ≤ f.hi ∧ f.hi < 32)
    (h : g.addr ≠ f.addr ∨ g.hi < f.lo ∨ f.hi < g.lo) : (s.incSat f).get g = s.get g := s.get_put_ne f g _ hf h

end State

end Sys2Proof.Machine
end

