-- ==== Sys2Proof/Laws/Records.lean ====
section
/-! SUPPORT. Laws of event records: where a record goes, and what a submission leaves alone. -/

namespace Sys2Proof.Machine

theorem Recorder.fifo_setFifo (r : Recorder) (p j : Nat) (l : List Submit) :
    (r.setFifo p l).fifo j = if j = p then l else r.fifo j := tget_tset _ _ _ _ _

namespace State

variable (s : State)

@[simp] theorem dropRecord_pending (p : Nat) : (s.dropRecord p).pending = s.pending := by
  unfold State.dropRecord; split
  · rfl
  · split <;> rfl
@[simp] theorem submit_pending (p : Nat) (e : Submit) : (s.submit p e).pending = s.pending := by
  unfold State.submit; dsimp only; split
  · rfl
  · split
    · rfl
    · exact s.dropRecord_pending p
@[simp] theorem ev_pending (p c a b d : Nat) (v : Bool) : (s.ev p c a b d v).pending = s.pending := s.submit_pending _ _
@[simp] theorem dropRecord_freeIdx (p : Nat) : (s.dropRecord p).freeIdx = s.freeIdx := by
  unfold State.dropRecord; split
  · rfl
  · split <;> rfl
@[simp] theorem submit_freeIdx (p : Nat) (e : Submit) : (s.submit p e).freeIdx = s.freeIdx := by
  unfold State.submit; dsimp only; split
  · rfl
  · split
    · rfl
    · exact s.dropRecord_freeIdx p
@[simp] theorem ev_freeIdx (p c a b d : Nat) (v : Bool) : (s.ev p c a b d v).freeIdx = s.freeIdx := s.submit_freeIdx _ _
@[simp] theorem dropRecord_out (p : Nat) : (s.dropRecord p).out = s.out := by
  unfold State.dropRecord; split
  · rfl
  · split <;> rfl
@[simp] theorem submit_out (p : Nat) (e : Submit) : (s.submit p e).out = s.out := by
  unfold State.submit; dsimp only; split
  · rfl
  · split
    · rfl
    · exact s.dropRecord_out p
@[simp] theorem ev_out (p c a b d : Nat) (v : Bool) : (s.ev p c a b d v).out = s.out := s.submit_out _ _
@[simp] theorem dropRecord_fab (p : Nat) : (s.dropRecord p).fab = s.fab := by
  unfold State.dropRecord; split
  · rfl
  · split <;> rfl
@[simp] theorem submit_fab (p : Nat) (e : Submit) : (s.submit p e).fab = s.fab := by
  unfold State.submit; dsimp only; split
  · rfl
  · split
    · rfl
    · exact s.dropRecord_fab p
@[simp] theorem ev_fab (p c a b d : Nat) (v : Bool) : (s.ev p c a b d v).fab = s.fab := s.submit_fab _ _
@[simp] theorem dropRecord_est (p : Nat) : (s.dropRecord p).est = s.est := by
  unfold State.dropRecord; split
  · rfl
  · split <;> rfl
@[simp] theorem submit_est (p : Nat) (e : Submit) : (s.submit p e).est = s.est := by
  unfold State.submit; dsimp only; split
  · rfl
  · split
    · rfl
    · exact s.dropRecord_est p
@[simp] theorem ev_est (p c a b d : Nat) (v : Bool) : (s.ev p c a b d v).est = s.est := s.submit_est _ _
@[simp] theorem dropRecord_pwr (p : Nat) : (s.dropRecord p).pwr = s.pwr := by
  unfold State.dropRecord; split
  · rfl
  · split <;> rfl
@[simp] theorem submit_pwr (p : Nat) (e : Submit) : (s.submit p e).pwr = s.pwr := by
  unfold State.submit; dsimp only; split
  · rfl
  · split
    · rfl
    · exact s.dropRecord_pwr p
@[simp] theorem ev_pwr (p c a b d : Nat) (v : Bool) : (s.ev p c a b d v).pwr = s.pwr := s.submit_pwr _ _
@[simp] theorem dropRecord_nv (p : Nat) : (s.dropRecord p).nv = s.nv := by
  unfold State.dropRecord; split
  · rfl
  · split <;> rfl
@[simp] theorem submit_nv (p : Nat) (e : Submit) : (s.submit p e).nv = s.nv := by
  unfold State.submit; dsimp only; split
  · rfl
  · split
    · rfl
    · exact s.dropRecord_nv p
@[simp] theorem ev_nv (p c a b d : Nat) (v : Bool) : (s.ev p c a b d v).nv = s.nv := s.submit_nv _ _
@[simp] theorem dropRecord_caddy (p : Nat) : (s.dropRecord p).caddy = s.caddy := by
  unfold State.dropRecord; split
  · rfl
  · split <;> rfl
@[simp] theorem submit_caddy (p : Nat) (e : Submit) : (s.submit p e).caddy = s.caddy := by
  unfold State.submit; dsimp only; split
  · rfl
  · split
    · rfl
    · exact s.dropRecord_caddy p
@[simp] theorem ev_caddy (p c a b d : Nat) (v : Bool) : (s.ev p c a b d v).caddy = s.caddy := s.submit_caddy _ _
@[simp] theorem dropRecord_net (p : Nat) : (s.dropRecord p).net = s.net := by
  unfold State.dropRecord; split
  · rfl
  · split <;> rfl
@[simp] theorem submit_net (p : Nat) (e : Submit) : (s.submit p e).net = s.net := by
  unfold State.submit; dsimp only; split
  · rfl
  · split
    · rfl
    · exact s.dropRecord_net p
@[simp] theorem ev_net (p c a b d : Nat) (v : Bool) : (s.ev p c a b d v).net = s.net := s.submit_net _ _
@[simp] theorem dropRecord_tim (p : Nat) : (s.dropRecord p).tim = s.tim := by
  unfold State.dropRecord; split
  · rfl
  · split <;> rfl
@[simp] theorem submit_tim (p : Nat) (e : Submit) : (s.submit p e).tim = s.tim := by
  unfold State.submit; dsimp only; split
  · rfl
  · split
    · rfl
    · exact s.dropRecord_tim p
@[simp] theorem ev_tim (p c a b d : Nat) (v : Bool) : (s.ev p c a b d v).tim = s.tim := s.submit_tim _ _
@[simp] theorem dropRecord_sprin (p : Nat) : (s.dropRecord p).sprin = s.sprin := by
  unfold State.dropRecord; split
  · rfl
  · split <;> rfl
@[simp] theorem submit_sprin (p : Nat) (e : Submit) : (s.submit p e).sprin = s.sprin := by
  unfold State.submit; dsimp only; split
  · rfl
  · split
    · rfl
    · exact s.dropRecord_sprin p
@[simp] theorem ev_sprin (p c a b d : Nat) (v : Bool) : (s.ev p c a b d v).sprin = s.sprin := s.submit_sprin _ _
@[simp] theorem dropRecord_disp (p : Nat) : (s.dropRecord p).disp = s.disp := by
  unfold State.dropRecord; split
  · rfl
  · split <;> rfl
@[simp] theorem submit_disp (p : Nat) (e : Submit) : (s.submit p e).disp = s.disp := by
  unfold State.submit; dsimp only; split
  · rfl
  · split
    · rfl
    · exact s.dropRecord_disp p
@[simp] theorem ev_disp (p c a b d : Nat) (v : Bool) : (s.ev p c a b d v).disp = s.disp := s.submit_disp _ _
@[simp] theorem dropRecord_stress (p : Nat) : (s.dropRecord p).stress = s.stress := by
  unfold State.dropRecord; split
  · rfl
  · split <;> rfl
@[simp] theorem submit_stress (p : Nat) (e : Submit) : (s.submit p e).stress = s.stress := by
  unfold State.submit; dsimp only; split
  · rfl
  · split
    · rfl
    · exact s.dropRecord_stress p
@[simp] theorem ev_stress (p c a b d : Nat) (v : Bool) : (s.ev p c a b d v).stress = s.stress := s.submit_stress _ _
@[simp] theorem dropRecord_strip (p : Nat) : (s.dropRecord p).strip = s.strip := by
  unfold State.dropRecord; split
  · rfl
  · split <;> rfl
@[simp] theorem submit_strip (p : Nat) (e : Submit) : (s.submit p e).strip = s.strip := by
  unfold State.submit; dsimp only; split
  · rfl
  · split
    · rfl
    · exact s.dropRecord_strip p
@[simp] theorem ev_strip (p c a b d : Nat) (v : Bool) : (s.ev p c a b d v).strip = s.strip := s.submit_strip _ _
@[simp] theorem dropRecord_rel (p : Nat) : (s.dropRecord p).rel = s.rel := by
  unfold State.dropRecord; split
  · rfl
  · split <;> rfl
@[simp] theorem submit_rel (p : Nat) (e : Submit) : (s.submit p e).rel = s.rel := by
  unfold State.submit; dsimp only; split
  · rfl
  · split
    · rfl
    · exact s.dropRecord_rel p
@[simp] theorem ev_rel (p c a b d : Nat) (v : Bool) : (s.ev p c a b d v).rel = s.rel := s.submit_rel _ _
@[simp] theorem dropRecord_spare (p : Nat) : (s.dropRecord p).spare = s.spare := by
  unfold State.dropRecord; split
  · rfl
  · split <;> rfl
@[simp] theorem submit_spare (p : Nat) (e : Submit) : (s.submit p e).spare = s.spare := by
  unfold State.submit; dsimp only; split
  · rfl
  · split
    · rfl
    · exact s.dropRecord_spare p
@[simp] theorem ev_spare (p c a b d : Nat) (v : Bool) : (s.ev p c a b d v).spare = s.spare := s.submit_spare _ _
@[simp] theorem dropRecord_valve (p : Nat) : (s.dropRecord p).valve = s.valve := by
  unfold State.dropRecord; split
  · rfl
  · split <;> rfl
@[simp] theorem submit_valve (p : Nat) (e : Submit) : (s.submit p e).valve = s.valve := by
  unfold State.submit; dsimp only; split
  · rfl
  · split
    · rfl
    · exact s.dropRecord_valve p
@[simp] theorem ev_valve (p c a b d : Nat) (v : Bool) : (s.ev p c a b d v).valve = s.valve := s.submit_valve _ _
@[simp] theorem dropRecord_fans (p : Nat) : (s.dropRecord p).fans = s.fans := by
  unfold State.dropRecord; split
  · rfl
  · split <;> rfl
@[simp] theorem submit_fans (p : Nat) (e : Submit) : (s.submit p e).fans = s.fans := by
  unfold State.submit; dsimp only; split
  · rfl
  · split
    · rfl
    · exact s.dropRecord_fans p
@[simp] theorem ev_fans (p c a b d : Nat) (v : Bool) : (s.ev p c a b d v).fans = s.fans := s.submit_fans _ _
@[simp] theorem dropRecord_gov (p : Nat) : (s.dropRecord p).gov = s.gov := by
  unfold State.dropRecord; split
  · rfl
  · split <;> rfl
@[simp] theorem submit_gov (p : Nat) (e : Submit) : (s.submit p e).gov = s.gov := by
  unfold State.submit; dsimp only; split
  · rfl
  · split
    · rfl
    · exact s.dropRecord_gov p
@[simp] theorem ev_gov (p c a b d : Nat) (v : Bool) : (s.ev p c a b d v).gov = s.gov := s.submit_gov _ _
@[simp] theorem dropRecord_cup (p : Nat) : (s.dropRecord p).cup = s.cup := by
  unfold State.dropRecord; split
  · rfl
  · split <;> rfl
@[simp] theorem submit_cup (p : Nat) (e : Submit) : (s.submit p e).cup = s.cup := by
  unfold State.submit; dsimp only; split
  · rfl
  · split
    · rfl
    · exact s.dropRecord_cup p
@[simp] theorem ev_cup (p c a b d : Nat) (v : Bool) : (s.ev p c a b d v).cup = s.cup := s.submit_cup _ _
@[simp] theorem dropRecord_aoSeen (p : Nat) : (s.dropRecord p).aoSeen = s.aoSeen := by
  unfold State.dropRecord; split
  · rfl
  · split <;> rfl
@[simp] theorem submit_aoSeen (p : Nat) (e : Submit) : (s.submit p e).aoSeen = s.aoSeen := by
  unfold State.submit; dsimp only; split
  · rfl
  · split
    · rfl
    · exact s.dropRecord_aoSeen p
@[simp] theorem ev_aoSeen (p c a b d : Nat) (v : Bool) : (s.ev p c a b d v).aoSeen = s.aoSeen := s.submit_aoSeen _ _
@[simp] theorem dropRecord_guard (p : Nat) : (s.dropRecord p).guard = s.guard := by
  unfold State.dropRecord; split
  · rfl
  · split <;> rfl
@[simp] theorem submit_guard (p : Nat) (e : Submit) : (s.submit p e).guard = s.guard := by
  unfold State.submit; dsimp only; split
  · rfl
  · split
    · rfl
    · exact s.dropRecord_guard p
@[simp] theorem ev_guard (p c a b d : Nat) (v : Bool) : (s.ev p c a b d v).guard = s.guard := s.submit_guard _ _
@[simp] theorem dropRecord_smap (p : Nat) : (s.dropRecord p).smap = s.smap := by
  unfold State.dropRecord; split
  · rfl
  · split <;> rfl
@[simp] theorem submit_smap (p : Nat) (e : Submit) : (s.submit p e).smap = s.smap := by
  unfold State.submit; dsimp only; split
  · rfl
  · split
    · rfl
    · exact s.dropRecord_smap p
@[simp] theorem ev_smap (p c a b d : Nat) (v : Bool) : (s.ev p c a b d v).smap = s.smap := s.submit_smap _ _
@[simp] theorem dropRecord_field (p : Nat) : (s.dropRecord p).field = s.field := by
  unfold State.dropRecord; split
  · rfl
  · split <;> rfl
@[simp] theorem submit_field (p : Nat) (e : Submit) : (s.submit p e).field = s.field := by
  unfold State.submit; dsimp only; split
  · rfl
  · split
    · rfl
    · exact s.dropRecord_field p
@[simp] theorem ev_field (p c a b d : Nat) (v : Bool) : (s.ev p c a b d v).field = s.field := s.submit_field _ _
@[simp] theorem dropRecord_pulse (p : Nat) : (s.dropRecord p).pulse = s.pulse := by
  unfold State.dropRecord; split
  · rfl
  · split <;> rfl
@[simp] theorem submit_pulse (p : Nat) (e : Submit) : (s.submit p e).pulse = s.pulse := by
  unfold State.submit; dsimp only; split
  · rfl
  · split
    · rfl
    · exact s.dropRecord_pulse p
@[simp] theorem ev_pulse (p c a b d : Nat) (v : Bool) : (s.ev p c a b d v).pulse = s.pulse := s.submit_pulse _ _
@[simp] theorem dropRecord_mill (p : Nat) : (s.dropRecord p).mill = s.mill := by
  unfold State.dropRecord; split
  · rfl
  · split <;> rfl
@[simp] theorem submit_mill (p : Nat) (e : Submit) : (s.submit p e).mill = s.mill := by
  unfold State.submit; dsimp only; split
  · rfl
  · split
    · rfl
    · exact s.dropRecord_mill p
@[simp] theorem ev_mill (p c a b d : Nat) (v : Bool) : (s.ev p c a b d v).mill = s.mill := s.submit_mill _ _
@[simp] theorem dropRecord_snaps (p : Nat) : (s.dropRecord p).snaps = s.snaps := by
  unfold State.dropRecord; split
  · rfl
  · split <;> rfl
@[simp] theorem submit_snaps (p : Nat) (e : Submit) : (s.submit p e).snaps = s.snaps := by
  unfold State.submit; dsimp only; split
  · rfl
  · split
    · rfl
    · exact s.dropRecord_snaps p
@[simp] theorem ev_snaps (p c a b d : Nat) (v : Bool) : (s.ev p c a b d v).snaps = s.snaps := s.submit_snaps _ _

/-- The record that `ev` submits. -/
def record (c a b d : Nat) (v : Bool) : Submit :=
  { code := c, sev := sevOf c b, p0 := a % 2 ^ 32, p1 := b % 2 ^ 32, p2 := d % 2 ^ 32, prov := v }

theorem ev_eq (p c a b d : Nat) (v : Bool) : s.ev p c a b d v = s.submit p (record c a b d v) := rfl

/-- With the recorder up, or from the always-on block, a record that finds room is the newest in its FIFO, and
nothing else changes. -/
theorem submit_room (p : Nat) (e : Submit) (h : (p = 0 ∨ s.mpUp = true) ∧ (s.log.fifo p).length < 16) :
    s.submit p e = { s with log := s.log.setFifo p (s.log.fifo p ++ [e]) } := by
  have hn : (!s.mpUp && decide (p ≠ 0)) = false := by
    rcases h.1 with h | h <;> simp [h]
  unfold State.submit; simp only [hn, Bool.false_eq_true, if_false, if_pos h.2]

theorem fifo_submit (p j : Nat) (e : Submit) (h : (p = 0 ∨ s.mpUp = true) ∧ (s.log.fifo p).length < 16) :
    (s.submit p e).log.fifo j = if j = p then s.log.fifo p ++ [e] else s.log.fifo j := by
  rw [submit_room s p e h]; exact Recorder.fifo_setFifo _ _ _ _

/-- The FIFOs of other ports stay, room or not. -/
theorem fifo_submit_ne (p j : Nat) (e : Submit) (h : j ≠ p) : (s.submit p e).log.fifo j = s.log.fifo j := by
  unfold State.submit; dsimp only; split
  · rfl
  · split
    · simp [Recorder.fifo_setFifo, h]
    · unfold State.dropRecord; split
      · rfl
      · split <;> rfl

/-- Only LOG_STATUS and the drop count of the port may change. -/
theorem reg_submit (p : Nat) (e : Submit) {a : Nat} (h1 : a ≠ Reg.LOG_STATUS) (h2 : a ≠ Reg.LOG_DROP p) :
    (s.submit p e).reg a = s.reg a := by
  unfold State.submit; dsimp only; split
  · rfl
  · split
    · rfl
    · unfold State.dropRecord; split
      · exact reg_of_regs (((s.inc (Reg.LOG_DROP_DROPPED p)).reg_putB_ne Reg.LOG_STATUS_OVERFLOW true h1).trans
          (s.reg_inc_ne (Reg.LOG_DROP_DROPPED p) h2)) rfl
      · split <;> exact reg_congr rfl a

theorem reg_submit_room (p : Nat) (e : Submit) (a : Nat) (h : (p = 0 ∨ s.mpUp = true) ∧ (s.log.fifo p).length < 16) :
    (s.submit p e).reg a = s.reg a := by rw [submit_room s p e h]; exact reg_congr rfl a

theorem fifo_ev (p c a b d : Nat) (v : Bool) (h : (p = 0 ∨ s.mpUp = true) ∧ (s.log.fifo p).length < 16) :
    (s.ev p c a b d v).log.fifo p = s.log.fifo p ++ [record c a b d v] := by
  rw [ev_eq, fifo_submit s p p _ h]; simp

theorem fifo_ev_ne (p j c a b d : Nat) (v : Bool) (h : j ≠ p) : (s.ev p c a b d v).log.fifo j = s.log.fifo j :=
  s.fifo_submit_ne p j _ h

theorem reg_ev (p c a b d : Nat) (v : Bool) {r : Nat} (h1 : r ≠ Reg.LOG_STATUS) (h2 : r ≠ Reg.LOG_DROP p) :
    (s.ev p c a b d v).reg r = s.reg r := s.reg_submit p _ h1 h2

theorem reg_ev_room (p c a b d : Nat) (v : Bool) (r : Nat) (h : (p = 0 ∨ s.mpUp = true) ∧ (s.log.fifo p).length < 16) :
    (s.ev p c a b d v).reg r = s.reg r := s.reg_submit_room p _ r h

theorem get_ev (p c a b d : Nat) (v : Bool) (g : Fld) (h1 : g.addr ≠ Reg.LOG_STATUS) (h2 : g.addr ≠ Reg.LOG_DROP p) :
    (s.ev p c a b d v).get g = s.get g := by unfold State.get; rw [reg_ev s p c a b d v h1 h2]

theorem get_ev_room (p c a b d : Nat) (v : Bool) (g : Fld) (h : (p = 0 ∨ s.mpUp = true) ∧ (s.log.fifo p).length < 16) :
    (s.ev p c a b d v).get g = s.get g := by unfold State.get; rw [reg_ev_room s p c a b d v _ h]

end State

end Sys2Proof.Machine
end

