-- ==== Sys2Proof/Laws/Frames.lean ====
section
/-! SUPPORT. Laws of frames: which registers an update may change, that the rest of the state stays, and which
record it logs. -/

namespace Sys2Proof.Machine

theorem SameRegs.refl (l : List Nat) (s : State) : SameRegs l s s := fun _ _ => rfl

theorem SameRegs.trans {l m : List Nat} {s t u : State} (h : SameRegs l s t) (k : SameRegs m t u) :
    SameRegs (l ++ m) s u := fun a ha => by
  rw [List.mem_append, not_or] at ha
  rw [k a ha.2, h a ha.1]

theorem SameRegs.mono {l m : List Nat} {s t : State} (h : SameRegs l s t) (hl : ∀ a ∈ l, a ∈ m) : SameRegs m s t :=
  fun a ha => h a (fun k => ha (hl a k))

theorem SameRegs.next {l : List Nat} {s t u : State} (h : SameRegs l s t) (k : SameRegs l t u) : SameRegs l s u :=
  (h.trans k).mono (fun _ ha => by simpa using ha)

/-- Shared register tables. -/
theorem SameRegs.of_regs {l : List Nat} {s t u : State} (h : SameRegs l s t) (hu : u.regs = t.regs) : SameRegs l s u :=
  fun a ha => State.reg_of_regs (h a ha) hu

theorem SameRegs.setReg {l : List Nat} {s t : State} (h : SameRegs l s t) {a : Nat} (w : Word) (ha : a ∈ l) :
    SameRegs l s (t.setReg a w) := fun b hb => by
  rw [State.reg_setReg_ne t w (fun e => hb (by rw [e]; exact ha))]; exact h b hb

theorem SameRegs.put {l : List Nat} {s t : State} (h : SameRegs l s t) {f : Fld} (n : Nat) (ha : f.addr ∈ l) :
    SameRegs l s (t.put f n) := h.setReg _ ha
theorem SameRegs.putB {l : List Nat} {s t : State} (h : SameRegs l s t) {f : Fld} (b : Bool) (ha : f.addr ∈ l) :
    SameRegs l s (t.putB f b) := h.setReg _ ha
theorem SameRegs.inc {l : List Nat} {s t : State} (h : SameRegs l s t) {f : Fld} (ha : f.addr ∈ l) :
    SameRegs l s (t.inc f) := h.setReg _ ha
theorem SameRegs.incSat {l : List Nat} {s t : State} (h : SameRegs l s t) {f : Fld} (ha : f.addr ∈ l) :
    SameRegs l s (t.incSat f) := h.setReg _ ha
theorem SameRegs.addSat {l : List Nat} {s t : State} (h : SameRegs l s t) {f : Fld} (n : Nat) (ha : f.addr ∈ l) :
    SameRegs l s (t.addSat f n) := h.setReg _ ha

theorem SameRegs.ev {l : List Nat} {s t : State} (h : SameRegs l s t) (p c a b d : Nat) (v : Bool) (hr : Room t p) :
    SameRegs l s (t.ev p c a b d v) := fun r hm => by
  rw [State.reg_ev_room t p c a b d v r hr]; exact h r hm

theorem SameRegs.ite {l : List Nat} {s t u : State} {c : Prop} [Decidable c] (h : SameRegs l s t) (k : SameRegs l s u) :
    SameRegs l s (if c then t else u) := by split <;> assumption

theorem OnlyRegs.refl (l : List Nat) (s : State) : OnlyRegs l s s := ⟨SameRegs.refl l s, rfl⟩

theorem OnlyRegs.setReg {l : List Nat} {s t : State} (h : OnlyRegs l s t) {a : Nat} (w : Word) (ha : a ∈ l) :
    OnlyRegs l s (t.setReg a w) := ⟨h.1.setReg w ha, h.2⟩
theorem OnlyRegs.put {l : List Nat} {s t : State} (h : OnlyRegs l s t) {f : Fld} (n : Nat) (ha : f.addr ∈ l) :
    OnlyRegs l s (t.put f n) := ⟨h.1.put n ha, h.2⟩
theorem OnlyRegs.putB {l : List Nat} {s t : State} (h : OnlyRegs l s t) {f : Fld} (b : Bool) (ha : f.addr ∈ l) :
    OnlyRegs l s (t.putB f b) := ⟨h.1.putB b ha, h.2⟩
theorem OnlyRegs.inc {l : List Nat} {s t : State} (h : OnlyRegs l s t) {f : Fld} (ha : f.addr ∈ l) :
    OnlyRegs l s (t.inc f) := ⟨h.1.inc ha, h.2⟩
theorem OnlyRegs.incSat {l : List Nat} {s t : State} (h : OnlyRegs l s t) {f : Fld} (ha : f.addr ∈ l) :
    OnlyRegs l s (t.incSat f) := ⟨h.1.incSat ha, h.2⟩
theorem OnlyRegs.ite {l : List Nat} {s t u : State} {c : Prop} [Decidable c] (h : OnlyRegs l s t) (k : OnlyRegs l s u) :
    OnlyRegs l s (if c then t else u) := by split <;> assumption

/-! ### Records -/

theorem logged_ev (s : State) (p c a b d : Nat) (h : Room s p) : Logged p c a b d s (s.ev p c a b d) := by
  unfold Logged
  rw [State.ev_eq, State.submit_room s p _ h]
  rfl

/-- A record of a state that shares another's recorder. -/
theorem Logged.of_log {p c a b d : Nat} {s t u : State} (h : Logged p c a b d s t) (hu : u.log = t.log) :
    Logged p c a b d s u := hu.trans h

theorem Logged.from_log {p c a b d : Nat} {s r t : State} (h : Logged p c a b d r t) (hr : r.log = s.log) :
    Logged p c a b d s t := by unfold Logged at *; rw [h, hr]

theorem Room.of_log {p : Nat} {s t : State} (h : Room s p) (ht : t.log = s.log) (hp : t.pwr = s.pwr) : Room t p := by
  unfold Room State.mpUp at *; rw [ht, hp]; exact h

/-- A record changes nothing of a state but the recorder and the registers. -/
theorem ev_frame (s : State) (p c a b d : Nat) (v : Bool) :
    { s.ev p c a b d v with regs := s.regs, log := s.log } = s := by
  simp only [State.ev_pending, State.ev_freeIdx, State.ev_out, State.ev_fab, State.ev_est, State.ev_pwr, State.ev_nv,
    State.ev_caddy, State.ev_net, State.ev_tim, State.ev_sprin, State.ev_disp, State.ev_stress, State.ev_strip,
    State.ev_rel, State.ev_spare, State.ev_valve, State.ev_fans, State.ev_gov, State.ev_cup, State.ev_aoSeen,
    State.ev_guard, State.ev_smap, State.ev_field, State.ev_pulse, State.ev_mill, State.ev_snaps]

end Sys2Proof.Machine
end

