-- ==== Sys2Proof/Laws/Good.lean ====
section
/-! SUPPORT. The primitive updates keep `State.Ok`: the queue of waiting commands, the canonical form of the
register table and the capacities of the queues. -/

namespace Sys2Proof.Machine

set_option linter.unusedTactic false
set_option linter.unreachableTactic false

theorem State.reset_good : State.reset.Good where
  regs := by decide +kernel
  fifo := fun p => by simp [State.reset, Recorder.fifo, tget]
  ctl := by simp [State.reset]
  dat := by simp [State.reset]
  cq := fun b => by simp [State.reset, State.bank, tget]

/-- An update of other state. -/
theorem State.ok_with {q : List Instr} {s t : State} (h : s.Ok q) (hp : t.pending = s.pending)
    (hr : t.regs = s.regs) (hf : t.log.fifos = s.log.fifos) (hc : t.fab.ctl = s.fab.ctl)
    (hd : t.fab.dat = s.fab.dat) (hb : t.valve.banks = s.valve.banks) : t.Ok q := by
  refine ⟨hp.trans h.queue, ⟨?_, ?_, ?_, ?_, ?_⟩⟩
  · rw [hr]; exact h.good.regs
  · intro p; unfold Recorder.fifo; rw [hf]; exact h.good.fifo p
  · rw [hc]; exact h.good.ctl
  · rw [hd]; exact h.good.dat
  · intro b; unfold State.bank; rw [hb]; exact h.good.cq b

/-- A state literal that keeps the queue, the registers, the FIFOs, the arms and the banks of another. -/
theorem State.ok_mk {q : List Instr} {s : State}
    {vfreeIdx : Nat} {vout : List Output} {vfab : Fabric} {vest : Estimates} {vlog : Recorder} {vpwr
    : Power} {vnv : NonVol} {vcaddy : Caddy} {vnet : Net} {vtim : TimeUnit} {vsprin : List (Nat ×
    SprinPort)} {vdisp : Display} {vstress : Stress} {vstrip : Strip} {vrel : Reliability} {vspare :
    SpareMap} {vvalve : Valves} {vfans : List (Nat × Fan)} {vgov : List (Nat × Slot)} {vcup : Cup}
    {vaoSeen : List (Nat × Nat)} {vguard : Guard} {vsmap : SensorMap} {vfield : List (Nat ×
    FieldIn)} {vpulse : List (Nat × Pulse)} {vmill : Millstone} {vsnaps : List (Nat × List Byte)}
    (h : s.Ok q) (hf : vlog.fifos = s.log.fifos) (hc : vfab.ctl = s.fab.ctl) (hd : vfab.dat = s.fab.dat)
    (hb : vvalve.banks = s.valve.banks) :
    State.Ok q
      { pending := s.pending, regs := s.regs, freeIdx := vfreeIdx, out := vout, fab := vfab, est :=
        vest, log := vlog, pwr := vpwr, nv := vnv, caddy := vcaddy, net := vnet, tim := vtim, sprin
        := vsprin, disp := vdisp, stress := vstress, strip := vstrip, rel := vrel, spare := vspare,
        valve := vvalve, fans := vfans, gov := vgov, cup := vcup, aoSeen := vaoSeen, guard :=
        vguard, smap := vsmap, field := vfield, pulse := vpulse, mill := vmill, snaps := vsnaps } :=
  ok_with h rfl rfl hf hc hd hb

theorem State.ok_ite {q : List Instr} {c : Prop} [Decidable c] {s t : State} (hs : s.Ok q) (ht : t.Ok q) :
    (if c then s else t).Ok q := by split <;> assumption

theorem State.setReg_ok {q : List Instr} {s : State} (h : s.Ok q) (a : Nat) (w : Word) : (s.setReg a w).Ok q := by
  refine ⟨h.queue, ⟨?_, h.good.fifo, h.good.ctl, h.good.dat, h.good.cq⟩⟩
  exact twf_tset _ _ _ h.good.regs

theorem State.put_ok {q : List Instr} {s : State} (h : s.Ok q) (f : Fld) (n : Nat) : (s.put f n).Ok q :=
  setReg_ok h _ _
theorem State.putB_ok {q : List Instr} {s : State} (h : s.Ok q) (f : Fld) (b : Bool) : (s.putB f b).Ok q :=
  setReg_ok h _ _
theorem State.inc_ok {q : List Instr} {s : State} (h : s.Ok q) (f : Fld) : (s.inc f).Ok q := setReg_ok h _ _
theorem State.addSat_ok {q : List Instr} {s : State} (h : s.Ok q) (f : Fld) (n : Nat) : (s.addSat f n).Ok q :=
  setReg_ok h _ _
theorem State.incSat_ok {q : List Instr} {s : State} (h : s.Ok q) (f : Fld) : (s.incSat f).Ok q := setReg_ok h _ _
theorem State.raise_ok {q : List Instr} {s : State} (h : s.Ok q) (f : Fld) (n : Nat) : (s.raise f n).Ok q :=
  setReg_ok h _ _
theorem State.setOptime_ok {q : List Instr} {s : State} (h : s.Ok q) (n : Nat) : (s.setOptime n).Ok q :=
  put_ok (setReg_ok h _ _) _ _
theorem State.store_ok {q : List Instr} {s : State} (h : s.Ok q) (a : Nat) (v : Word) : (s.store a v).Ok q := by
  unfold State.store
  split
  · split
    · exact h
    · exact setReg_ok h _ _
  · exact h
theorem State.tookN_ok {q : List Instr} {s : State} (h : s.Ok q) (n : Nat) : (s.tookN n).Ok q :=
  ok_with h rfl rfl rfl rfl rfl rfl
theorem State.took_ok {q : List Instr} {s : State} (h : s.Ok q) : s.took.Ok q := ok_with h rfl rfl rfl rfl rfl rfl
theorem State.send_ok {q : List Instr} {s : State} (h : s.Ok q) (o : Output) : (s.send o).Ok q :=
  ok_with h rfl rfl rfl rfl rfl rfl
theorem State.estWrite_ok {q : List Instr} {s : State} (h : s.Ok q) (n : Nat) (a b c d : Word) :
    (s.estWrite n a b c d).Ok q := ok_with h rfl rfl rfl rfl rfl rfl
theorem State.publish_ok {q : List Instr} {s : State} (h : s.Ok q) (n : Nat) (a b : F32) (c : Word) (i : EntryInfo) :
    (s.publish n a b c i).Ok q := estWrite_ok h _ _ _ _ _

theorem State.when_ok {q : List Instr} {s : State} (h : s.Ok q) (c : Bool) {f : State → State}
    (hf : ∀ t, State.Ok q t → (f t).Ok q) : (s.when c f).Ok q := by
  unfold State.when; split
  · exact hf _ h
  · exact h

theorem State.foldl_ok {α : Type} {q : List Instr} {f : State → α → State} (hf : ∀ t x, State.Ok q t → (f t x).Ok q) :
    ∀ (l : List α) {s : State}, s.Ok q → (l.foldl f s).Ok q
  | [], _, h => h
  | x :: l, s, h => foldl_ok hf l (hf s x h)

theorem State.each_ok {α : Type} {q : List Instr} {s : State} (h : s.Ok q) (l : List α) {f : State → α → State}
    (hf : ∀ t x, State.Ok q t → (f t x).Ok q) : (s.each l f).Ok q := foldl_ok hf l h

theorem State.foldl_fst_ok {α β : Type} {q : List Instr} {f : State × β → α → State × β}
    (hf : ∀ p x, State.Ok q p.1 → (f p x).1.Ok q) :
    ∀ (l : List α) {p : State × β}, p.1.Ok q → (l.foldl f p).1.Ok q
  | [], _, h => h
  | x :: l, p, h => foldl_fst_ok hf l (hf p x h)

theorem State.forward_ok {q : List Instr} {s : State} (h : s.Ok q) (c : Word) (x y : F32) (n : Nat) :
    (s.forward c x y n).Ok q := by
  unfold State.forward
  exact ok_with h rfl rfl rfl rfl rfl rfl

/-- An update that leaves all as it was but the FIFOs, which stay within their depth. -/
theorem State.ok_fifos {q : List Instr} {s t : State} (h : s.Ok q) (hp : t.pending = s.pending)
    (hr : t.regs = s.regs) (hf : ∀ p, (t.log.fifo p).length ≤ 16) (hc : t.fab.ctl = s.fab.ctl)
    (hd : t.fab.dat = s.fab.dat) (hb : t.valve.banks = s.valve.banks) : t.Ok q := by
  refine ⟨hp.trans h.queue, ⟨?_, hf, ?_, ?_, ?_⟩⟩
  · rw [hr]; exact h.good.regs
  · rw [hc]; exact h.good.ctl
  · rw [hd]; exact h.good.dat
  · intro b; unfold State.bank; rw [hb]; exact h.good.cq b

theorem State.dropRecord_ok {q : List Instr} {s : State} (h : s.Ok q) (p : Nat) : (s.dropRecord p).Ok q := by
  unfold State.dropRecord
  split
  · refine ok_mk ?_ rfl rfl rfl rfl
    exact putB_ok (inc_ok h _) _ _
  · split
    · exact ok_with h rfl rfl rfl rfl rfl rfl
    · exact h

theorem State.submit_ok {q : List Instr} {s : State} (h : s.Ok q) (p : Nat) (e : Submit) : (s.submit p e).Ok q := by
  unfold State.submit
  dsimp only
  split
  · exact h
  · split
    · rename_i hl
      refine ok_fifos h rfl rfl (fun j => ?_) rfl rfl rfl
      simp only [Recorder.fifo_setFifo]
      split
      · simp; omega
      · exact h.good.fifo j
    · exact dropRecord_ok h p

theorem State.ev_ok {q : List Instr} {s : State} (h : s.Ok q) (p c : Nat) (a b d : Nat) (v : Bool) :
    (s.ev p c a b d v).Ok q := submit_ok h _ _

theorem State.setBank_ok {q : List Instr} {s : State} (h : s.Ok q) (b : Nat) {k : Bank} (hk : k.cq.length ≤ 32) :
    (s.setBank b k).Ok q := by
  refine ⟨h.queue, ⟨h.good.regs, h.good.fifo, h.good.ctl, h.good.dat, fun j => ?_⟩⟩
  unfold State.setBank State.bank
  dsimp only
  rw [tget_tset]
  split
  · exact hk
  · exact h.good.cq j

/-- A bank changes in other fields than its completion queue. -/
theorem State.setBank_ok' {q : List Instr} {s t : State} {b j : Nat} {k : Bank} (hk : k.cq = (t.bank j).cq)
    (hs : s.Ok q) (ht : t.Ok q) : (s.setBank b k).Ok q :=
  setBank_ok hs b (by rw [hk]; exact ht.good.cq j)

theorem State.idle_ok {q : List Instr} {s : State} (h : s.Ok q) : s.idle.Ok q := by
  unfold State.idle
  split
  · exact h
  · dsimp only
    split
    · exact ok_with (setOptime_ok h _) rfl rfl rfl rfl rfl rfl
    · exact setOptime_ok h _

end Sys2Proof.Machine
end

