-- ==== Sys2Proof/Laws/GoodDisplay.lean ====
section
/-! SUPPORT. What DisplayOps defines keeps the queue of waiting commands, the canonical form of the register table and
the capacities of the queues (`State.Ok`). -/

namespace Sys2Proof.Machine

set_option linter.unusedTactic false
set_option linter.unreachableTactic false

open Reg

theorem State.dirtyRows_ok {qs : List Instr} {s : State} (ok : s.Ok qs) (mask : Nat) :
    (s.dirtyRows mask).Ok qs := by
  unfold State.dirtyRows
  try dsimp only
  repeat' first
    | with_reducible exact ok
    | with_reducible assumption
    | with_reducible exact rfl
    | with_reducible apply State.put_ok
    | with_reducible refine State.ok_mk ?_ ?_ ?_ ?_ ?_
    | exact rfl
    | (simp only [State.ev_valve, State.ev_fab, State.submit_valve]; done)

theorem State.dirtyAll_ok {qs : List Instr} {s : State} (ok : s.Ok qs) :
    (s.dirtyAll).Ok qs := by
  unfold State.dirtyAll
  try dsimp only
  repeat' first
    | with_reducible exact ok
    | with_reducible assumption
    | with_reducible apply State.dirtyRows_ok

theorem State.scanPixel_ok {qs : List Instr} {s : State} (ok : s.Ok qs) (k : Nat) :
    (s.scanPixel k).Ok qs := by
  unfold State.scanPixel
  try dsimp only
  repeat' first
    | with_reducible exact ok
    | with_reducible assumption
    | with_reducible exact rfl
    | with_reducible apply State.putB_ok
    | with_reducible apply State.ok_ite
    | split
    | with_reducible refine State.ok_mk ?_ ?_ ?_ ?_ ?_
    | exact rfl
    | (simp only [State.ev_valve, State.ev_fab, State.submit_valve]; done)

theorem State.scanRow_ok {qs : List Instr} {s : State} (ok : s.Ok qs) (y : Nat) :
    (s.scanRow y).Ok qs := by
  unfold State.scanRow
  try dsimp only
  repeat' first
    | with_reducible exact ok
    | with_reducible assumption
    | with_reducible apply State.scanPixel_ok
    | with_reducible refine State.each_ok ?_ _ (fun _ _ _ => ?_)

theorem State.copyDirty_ok {qs : List Instr} {s : State} (ok : s.Ok qs) :
    (s.copyDirty).Ok qs := by
  unfold State.copyDirty
  try dsimp only
  repeat' first
    | with_reducible exact ok
    | with_reducible assumption
    | with_reducible exact rfl
    | with_reducible apply State.scanRow_ok
    | with_reducible apply State.put_ok
    | with_reducible refine State.each_ok ?_ _ (fun _ _ _ => ?_)
    | with_reducible apply State.ok_ite
    | split
    | with_reducible refine State.ok_mk ?_ ?_ ?_ ?_ ?_
    | exact rfl
    | (simp only [State.ev_valve, State.ev_fab, State.submit_valve]; done)

theorem State.stressPixel_ok {qs : List Instr} {s : State} (ok : s.Ok qs) (e : Nat × Nat) :
    (s.stressPixel e).Ok qs := by
  unfold State.stressPixel
  try dsimp only
  repeat' first
    | with_reducible exact ok
    | with_reducible assumption
    | with_reducible exact rfl
    | with_reducible refine State.ok_mk ?_ ?_ ?_ ?_ ?_
    | exact rfl
    | (simp only [State.ev_valve, State.ev_fab, State.submit_valve]; done)

theorem State.litRows_ok {qs : List Instr} {s : State} (ok : s.Ok qs) (n : Nat) :
    (s.litRows n).Ok qs := by
  unfold State.litRows
  try dsimp only
  repeat' first
    | with_reducible exact ok
    | with_reducible assumption
    | with_reducible apply State.send_ok
    | with_reducible apply State.stressPixel_ok
    | with_reducible refine State.each_ok ?_ _ (fun _ _ _ => ?_)

theorem State.litFrame_ok {qs : List Instr} {s : State} (ok : s.Ok qs) :
    (s.litFrame).Ok qs := by
  unfold State.litFrame
  try dsimp only
  repeat' first
    | with_reducible exact ok
    | with_reducible assumption
    | with_reducible apply State.litRows_ok
    | with_reducible apply State.ok_ite
    | split

theorem State.darken_ok {qs : List Instr} {s : State} (ok : s.Ok qs) :
    (s.darken).Ok qs := by
  unfold State.darken
  try dsimp only
  repeat' first
    | with_reducible exact ok
    | with_reducible assumption
    | with_reducible apply State.litRows_ok
    | with_reducible apply State.took_ok
    | with_reducible apply State.ok_ite
    | split

theorem State.panelTo_ok {qs : List Instr} {s : State} (ok : s.Ok qs) (lit : Bool) :
    (s.panelTo lit).Ok qs := by
  unfold State.panelTo
  try dsimp only
  repeat' first
    | with_reducible exact ok
    | with_reducible assumption
    | with_reducible exact rfl
    | with_reducible apply State.put_ok
    | with_reducible apply State.dirtyAll_ok
    | with_reducible apply State.ok_ite
    | split
    | with_reducible refine State.ok_mk ?_ ?_ ?_ ?_ ?_
    | exact rfl
    | (simp only [State.ev_valve, State.ev_fab, State.submit_valve]; done)

theorem State.discharge_ok {qs : List Instr} {s : State} (ok : s.Ok qs) (after : Nat) :
    (s.discharge after).Ok qs := by
  unfold State.discharge
  try dsimp only
  repeat' first
    | with_reducible exact ok
    | with_reducible assumption
    | with_reducible exact rfl
    | with_reducible apply State.darken_ok
    | with_reducible apply State.put_ok
    | with_reducible apply State.putB_ok
    | with_reducible apply State.send_ok
    | with_reducible refine State.ok_mk ?_ ?_ ?_ ?_ ?_
    | exact rfl
    | (simp only [State.ev_valve, State.ev_fab, State.submit_valve]; done)

theorem State.dischargeDone_ok {qs : List Instr} {s : State} (ok : s.Ok qs) :
    (s.dischargeDone).Ok qs := by
  unfold State.dischargeDone
  try dsimp only
  repeat' first
    | with_reducible exact ok
    | with_reducible assumption
    | with_reducible apply State.putB_ok
    | with_reducible apply State.panelTo_ok
    | with_reducible apply State.put_ok
    | with_reducible apply State.ok_ite
    | split

theorem State.panelOffCmd_ok {qs : List Instr} {s : State} (ok : s.Ok qs) :
    (s.panelOffCmd).Ok qs := by
  unfold State.panelOffCmd
  try dsimp only
  repeat' first
    | with_reducible exact ok
    | with_reducible assumption
    | with_reducible apply State.discharge_ok
    | with_reducible apply State.ev_ok
    | with_reducible apply State.ok_ite
    | split

theorem State.panelWake_ok {qs : List Instr} {s : State} (ok : s.Ok qs) :
    (s.panelWake).Ok qs := by
  unfold State.panelWake
  try dsimp only
  repeat' first
    | with_reducible exact ok
    | with_reducible assumption
    | with_reducible exact rfl
    | with_reducible apply State.dirtyAll_ok
    | with_reducible apply State.ev_ok
    | with_reducible apply State.ok_ite
    | split
    | with_reducible refine State.ok_mk ?_ ?_ ?_ ?_ ?_
    | exact rfl
    | (simp only [State.ev_valve, State.ev_fab, State.submit_valve]; done)

theorem State.panelClearCrack_ok {qs : List Instr} {s : State} (ok : s.Ok qs) :
    (s.panelClearCrack).Ok qs := by
  unfold State.panelClearCrack
  try dsimp only
  repeat' first
    | with_reducible exact ok
    | with_reducible assumption
    | with_reducible apply State.panelTo_ok
    | with_reducible apply State.ok_ite
    | split

theorem State.panelClearStress_ok {qs : List Instr} {s : State} (ok : s.Ok qs) (req : Nat) :
    (s.panelClearStress req).Ok qs := by
  unfold State.panelClearStress
  try dsimp only
  repeat' first
    | with_reducible exact ok
    | with_reducible assumption
    | with_reducible exact rfl
    | with_reducible apply State.putB_ok
    | with_reducible apply State.ev_ok
    | with_reducible refine State.ok_mk ?_ ?_ ?_ ?_ ?_
    | exact rfl
    | (simp only [State.ev_valve, State.ev_fab, State.submit_valve]; done)

theorem State.panelVledChange_ok {qs : List Instr} {s : State} (ok : s.Ok qs) (good : Bool) :
    (s.panelVledChange good).Ok qs := by
  unfold State.panelVledChange
  try dsimp only
  repeat' first
    | with_reducible exact ok
    | with_reducible assumption
    | with_reducible apply State.putB_ok
    | with_reducible apply State.dirtyAll_ok
    | with_reducible apply State.ev_ok
    | with_reducible apply State.panelTo_ok
    | with_reducible apply State.darken_ok
    | with_reducible apply State.ok_ite
    | split

theorem State.sourceChanged_ok {qs : List Instr} {s : State} (ok : s.Ok qs) :
    (s.sourceChanged).Ok qs := by
  unfold State.sourceChanged
  try dsimp only
  repeat' first
    | with_reducible exact ok
    | with_reducible assumption
    | with_reducible apply State.dirtyAll_ok
    | with_reducible apply State.put_ok

theorem State.bindShow_ok {qs : List Instr} {s : State} (ok : s.Ok qs) (code : Nat) :
    (s.bindShow code).Ok qs := by
  unfold State.bindShow
  try dsimp only
  repeat' first
    | with_reducible exact ok
    | with_reducible assumption
    | with_reducible exact rfl
    | with_reducible apply State.putB_ok
    | with_reducible apply State.sourceChanged_ok
    | with_reducible apply State.ev_ok
    | with_reducible apply State.ok_ite
    | split
    | with_reducible refine State.ok_mk ?_ ?_ ?_ ?_ ?_
    | exact rfl
    | (simp only [State.ev_valve, State.ev_fab, State.submit_valve]; done)

theorem State.bindEnd_ok {qs : List Instr} {s : State} (ok : s.Ok qs) :
    (s.bindEnd).Ok qs := by
  unfold State.bindEnd
  try dsimp only
  repeat' first
    | with_reducible exact ok
    | with_reducible assumption
    | with_reducible exact rfl
    | with_reducible apply State.putB_ok
    | with_reducible apply State.sourceChanged_ok
    | with_reducible apply State.ok_ite
    | split
    | with_reducible refine State.ok_mk ?_ ?_ ?_ ?_ ?_
    | exact rfl
    | (simp only [State.ev_valve, State.ev_fab, State.submit_valve]; done)

theorem State.panelAssets_ok {qs : List Instr} {s : State} (ok : s.Ok qs) :
    (s.panelAssets).Ok qs := by
  unfold State.panelAssets
  try dsimp only
  repeat' first
    | with_reducible exact ok
    | with_reducible assumption
    | with_reducible exact rfl
    | with_reducible apply State.bindEnd_ok
    | with_reducible apply State.put_ok
    | with_reducible apply State.panelTo_ok
    | with_reducible apply State.dirtyAll_ok
    | with_reducible apply State.ok_ite
    | split
    | with_reducible refine State.ok_mk ?_ ?_ ?_ ?_ ?_
    | exact rfl
    | (simp only [State.ev_valve, State.ev_fab, State.submit_valve]; done)

theorem State.panelFitted_ok {qs : List Instr} {s : State} (ok : s.Ok qs) :
    (s.panelFitted).Ok qs := by
  unfold State.panelFitted
  try dsimp only
  repeat' first
    | with_reducible exact ok
    | with_reducible assumption
    | with_reducible apply State.put_ok
    | with_reducible apply State.ok_ite
    | split

theorem State.fbByte_ok {qs : List Instr} {s : State} (ok : s.Ok qs) (k : Nat) (b : Byte) :
    (s.fbByte k b).Ok qs := by
  unfold State.fbByte
  try dsimp only
  repeat' first
    | with_reducible exact ok
    | with_reducible assumption
    | with_reducible exact rfl
    | with_reducible apply State.put_ok
    | with_reducible apply State.ok_ite
    | split
    | with_reducible refine State.ok_mk ?_ ?_ ?_ ?_ ?_
    | exact rfl
    | (simp only [State.ev_valve, State.ev_fab, State.submit_valve]; done)

theorem State.fbWrite_ok {qs : List Instr} {s : State} (ok : s.Ok qs) (w : Word) :
    (s.fbWrite w).Ok qs := by
  unfold State.fbWrite
  try dsimp only
  repeat' first
    | with_reducible exact ok
    | with_reducible assumption
    | with_reducible apply State.fbByte_ok
    | with_reducible apply State.put_ok
    | with_reducible refine State.each_ok ?_ _ (fun _ _ _ => ?_)
    | with_reducible apply State.ok_ite
    | split

theorem State.commitGo_ok {qs : List Instr} {s : State} (ok : s.Ok qs) :
    (s.commitGo).Ok qs := by
  unfold State.commitGo
  try dsimp only
  repeat' first
    | with_reducible exact ok
    | with_reducible assumption
    | with_reducible apply State.putB_ok

theorem State.commitEnd_ok {qs : List Instr} {s : State} (ok : s.Ok qs) (status reason : Nat) :
    (s.commitEnd status reason).Ok qs := by
  unfold State.commitEnd
  try dsimp only
  repeat' first
    | with_reducible exact ok
    | with_reducible assumption
    | with_reducible apply State.putB_ok
    | with_reducible apply State.put_ok
    | with_reducible apply State.ok_ite
    | split

theorem State.panelSluice_ok {qs : List Instr} {s : State} (ok : s.Ok qs) :
    (s.panelSluice).Ok qs := by
  unfold State.panelSluice
  try dsimp only
  repeat' first
    | with_reducible exact ok
    | with_reducible assumption
    | with_reducible apply State.commitEnd_ok
    | with_reducible apply State.discharge_ok
    | with_reducible apply State.ok_ite
    | split

theorem State.latchCurrents_ok {qs : List Instr} {s : State} (ok : s.Ok qs) :
    (s.latchCurrents).Ok qs := by
  unfold State.latchCurrents
  try dsimp only
  repeat' first
    | with_reducible exact ok
    | with_reducible assumption
    | with_reducible exact rfl
    | with_reducible refine State.foldl_ok (fun _ _ _ => ?_) _ ?_
    | with_reducible refine State.foldl_fst_ok (fun _ _ _ => ?_) _ ?_
    | with_reducible refine State.ok_mk ?_ ?_ ?_ ?_ ?_
    | exact rfl
    | (simp only [State.ev_valve, State.ev_fab, State.submit_valve]; done)

theorem State.senseSample_ok {qs : List Instr} {s : State} (ok : s.Ok qs) (vf : Nat) :
    (s.senseSample vf).Ok qs := by
  unfold State.senseSample
  try dsimp only
  repeat' first
    | with_reducible exact ok
    | with_reducible assumption
    | with_reducible exact rfl
    | with_reducible apply State.took_ok
    | with_reducible apply State.putB_ok
    | with_reducible apply State.inc_ok
    | with_reducible apply State.ok_ite
    | split
    | with_reducible refine State.ok_mk ?_ ?_ ?_ ?_ ?_
    | exact rfl
    | (simp only [State.ev_valve, State.ev_fab, State.submit_valve]; done)

theorem State.blankingSlot_ok {qs : List Instr} {s : State} (ok : s.Ok qs) (vf : Nat) :
    (s.blankingSlot vf).Ok qs := by
  unfold State.blankingSlot
  try dsimp only
  repeat' first
    | with_reducible exact ok
    | with_reducible assumption
    | with_reducible exact rfl
    | with_reducible apply State.commitEnd_ok
    | with_reducible apply State.litFrame_ok
    | with_reducible apply State.copyDirty_ok
    | with_reducible apply State.putB_ok
    | with_reducible apply State.senseSample_ok
    | with_reducible apply State.latchCurrents_ok
    | with_reducible apply State.put_ok
    | with_reducible apply State.ok_ite
    | split
    | with_reducible refine State.ok_mk ?_ ?_ ?_ ?_ ?_
    | exact rfl
    | (simp only [State.ev_valve, State.ev_fab, State.submit_valve]; done)

theorem State.regain_ok {qs : List Instr} {s : State} (ok : s.Ok qs) (k : Nat) :
    (s.regain k).Ok qs := by
  unfold State.regain
  try dsimp only
  repeat' first
    | with_reducible exact ok
    | with_reducible assumption
    | with_reducible exact rfl
    | with_reducible apply State.dirtyRows_ok
    | with_reducible apply State.ok_ite
    | split
    | with_reducible refine State.ok_mk ?_ ?_ ?_ ?_ ?_
    | exact rfl
    | (simp only [State.ev_valve, State.ev_fab, State.submit_valve]; done)

theorem State.heldReport_ok {qs : List Instr} {s : State} (ok : s.Ok qs) (c : Nat) :
    (s.heldReport c).Ok qs := by
  unfold State.heldReport
  try dsimp only
  repeat' first
    | with_reducible exact ok
    | with_reducible assumption
    | with_reducible exact rfl
    | with_reducible apply State.ev_ok
    | with_reducible apply State.ok_ite
    | split
    | with_reducible refine State.ok_mk ?_ ?_ ?_ ?_ ?_
    | exact rfl
    | (simp only [State.ev_valve, State.ev_fab, State.submit_valve]; done)

theorem State.gainRecompute_ok {qs : List Instr} {s : State} (ok : s.Ok qs) :
    (s.gainRecompute).Ok qs := by
  unfold State.gainRecompute
  try dsimp only
  repeat' first
    | with_reducible exact ok
    | with_reducible assumption
    | with_reducible apply State.regain_ok
    | with_reducible apply State.heldReport_ok
    | with_reducible apply State.put_ok
    | with_reducible refine State.each_ok ?_ _ (fun _ _ _ => ?_)
    | with_reducible apply State.ok_ite
    | split

theorem State.stressSave_ok {qs : List Instr} {s : State} (ok : s.Ok qs) :
    (s.stressSave).Ok qs := by
  unfold State.stressSave
  try dsimp only
  repeat' first
    | with_reducible exact ok
    | with_reducible assumption
    | with_reducible exact rfl
    | with_reducible apply State.ok_ite
    | split
    | with_reducible refine State.ok_mk ?_ ?_ ?_ ?_ ?_
    | exact rfl
    | (simp only [State.ev_valve, State.ev_fab, State.submit_valve]; done)

theorem State.crackCheck_ok {qs : List Instr} {s : State} (ok : s.Ok qs) (ohms : Nat) :
    (s.crackCheck ohms).Ok qs := by
  unfold State.crackCheck
  try dsimp only
  repeat' first
    | with_reducible exact ok
    | with_reducible assumption
    | with_reducible exact rfl
    | with_reducible apply State.incSat_ok
    | with_reducible apply State.putB_ok
    | with_reducible apply State.ev_ok
    | with_reducible apply State.discharge_ok
    | with_reducible apply State.ok_ite
    | split
    | with_reducible refine State.ok_mk ?_ ?_ ?_ ?_ ?_
    | exact rfl
    | (simp only [State.ev_valve, State.ev_fab, State.submit_valve]; done)

end Sys2Proof.Machine
end

