-- ==== Sys2Proof/Laws/GoodStrip.lean ====
section
/-! SUPPORT. What StripOps defines keeps the queue of waiting commands, the canonical form of the register table and
the capacities of the queues (`State.Ok`). -/

namespace Sys2Proof.Machine

set_option linter.unusedTactic false
set_option linter.unreachableTactic false

open Reg

theorem State.stripState_ok {qs : List Instr} {s : State} (ok : s.Ok qs) (n : Nat) :
    (s.stripState n).Ok qs := by
  unfold State.stripState
  try dsimp only
  repeat' first
    | with_reducible exact ok
    | with_reducible assumption
    | with_reducible apply State.put_ok

theorem State.stripRest_ok {qs : List Instr} {s : State} (ok : s.Ok qs) :
    (s.stripRest).Ok qs := by
  unfold State.stripRest
  try dsimp only
  repeat' first
    | with_reducible exact ok
    | with_reducible assumption
    | with_reducible apply State.stripState_ok
    | with_reducible apply State.ok_ite
    | split

theorem State.stripEnd_ok {qs : List Instr} {s : State} (ok : s.Ok qs) (status reason : Nat) :
    (s.stripEnd status reason).Ok qs := by
  unfold State.stripEnd
  try dsimp only
  repeat' first
    | with_reducible exact ok
    | with_reducible assumption
    | with_reducible apply State.putB_ok
    | with_reducible apply State.put_ok

theorem State.latchFlags_ok {qs : List Instr} {s : State} (ok : s.Ok qs) (flags : Bool × Bool) :
    (s.latchFlags flags).Ok qs := by
  unfold State.latchFlags
  try dsimp only
  repeat' first
    | with_reducible exact ok
    | with_reducible assumption
    | with_reducible apply State.putB_ok
    | with_reducible apply State.ok_ite
    | split

theorem State.waveStart_ok {qs : List Instr} {s : State} (ok : s.Ok qs) (kind band toSegs : Nat) (flags : Bool × Bool) :
    (s.waveStart kind band toSegs flags).Ok qs := by
  unfold State.waveStart
  try dsimp only
  repeat' first
    | with_reducible exact ok
    | with_reducible assumption
    | with_reducible exact rfl
    | with_reducible apply State.put_ok
    | with_reducible apply State.stripState_ok
    | with_reducible apply State.latchFlags_ok
    | with_reducible apply State.ok_ite
    | split
    | with_reducible refine State.ok_mk ?_ ?_ ?_ ?_ ?_
    | exact rfl
    | (simp only [State.ev_valve, State.ev_fab, State.submit_valve]; done)

theorem State.stripAdmit_ok {qs : List Instr} {s : State} (ok : s.Ok qs) :
    (s.stripAdmit).Ok qs := by
  unfold State.stripAdmit
  try dsimp only
  repeat' first
    | with_reducible exact ok
    | with_reducible assumption
    | with_reducible exact rfl
    | with_reducible apply State.waveStart_ok
    | with_reducible apply State.ev_ok
    | with_reducible apply State.putB_ok
    | with_reducible apply State.ok_ite
    | split
    | with_reducible refine State.ok_mk ?_ ?_ ?_ ?_ ?_
    | exact rfl
    | (simp only [State.ev_valve, State.ev_fab, State.submit_valve]; done)

theorem State.stripVcom_ok {qs : List Instr} {s : State} (ok : s.Ok qs) (frame : Nat) :
    (s.stripVcom frame).Ok qs := by
  unfold State.stripVcom
  try dsimp only
  repeat' first
    | with_reducible exact ok
    | with_reducible assumption
    | with_reducible apply State.send_ok

theorem State.bandMoved_ok {qs : List Instr} {s : State} (ok : s.Ok qs) (r : WaveRun) (b : Nat) :
    (s.bandMoved r b).Ok qs := by
  unfold State.bandMoved
  try dsimp only
  repeat' first
    | with_reducible exact ok
    | with_reducible assumption
    | with_reducible exact rfl
    | with_reducible apply State.putB_ok
    | with_reducible apply State.ev_ok
    | with_reducible apply State.ok_ite
    | split
    | with_reducible refine State.ok_mk ?_ ?_ ?_ ?_ ?_
    | exact rfl
    | (simp only [State.ev_valve, State.ev_fab, State.submit_valve]; done)

theorem State.waveFrame_ok {qs : List Instr} {s : State} (ok : s.Ok qs) (r : WaveRun) :
    (s.waveFrame r).Ok qs := by
  unfold State.waveFrame
  try dsimp only
  repeat' first
    | with_reducible exact ok
    | with_reducible assumption
    | with_reducible exact rfl
    | with_reducible apply State.send_ok
    | with_reducible apply State.latchFlags_ok
    | with_reducible apply State.bandMoved_ok
    | with_reducible apply State.put_ok
    | with_reducible apply State.putB_ok
    | with_reducible apply State.ok_ite
    | split
    | with_reducible refine State.ok_mk ?_ ?_ ?_ ?_ ?_
    | exact rfl
    | (simp only [State.ev_valve, State.ev_fab, State.submit_valve]; done)

theorem State.stripFrame_ok {qs : List Instr} {s : State} (ok : s.Ok qs) :
    (s.stripFrame).Ok qs := by
  unfold State.stripFrame
  try dsimp only
  repeat' first
    | with_reducible exact ok
    | with_reducible assumption
    | with_reducible apply State.stripVcom_ok
    | with_reducible apply State.stripAdmit_ok
    | with_reducible apply State.waveFrame_ok
    | with_reducible apply State.ok_ite
    | split

theorem State.stripMarker_ok {qs : List Instr} {s : State} (ok : s.Ok qs) :
    (s.stripMarker).Ok qs := by
  unfold State.stripMarker
  try dsimp only
  repeat' first
    | with_reducible exact ok
    | with_reducible assumption
    | with_reducible exact rfl
    | with_reducible apply State.stripEnd_ok
    | with_reducible apply State.stripRest_ok
    | with_reducible apply State.ok_ite
    | split
    | with_reducible refine State.ok_mk ?_ ?_ ?_ ?_ ?_
    | exact rfl
    | (simp only [State.ev_valve, State.ev_fab, State.submit_valve]; done)

theorem State.stripGo_ok {qs : List Instr} {s : State} (ok : s.Ok qs) :
    (s.stripGo).Ok qs := by
  unfold State.stripGo
  try dsimp only
  repeat' first
    | with_reducible exact ok
    | with_reducible assumption
    | with_reducible exact rfl
    | with_reducible apply State.putB_ok
    | with_reducible apply State.stripEnd_ok
    | with_reducible apply State.ev_ok
    | with_reducible apply State.stripState_ok
    | with_reducible apply State.ok_ite
    | split
    | with_reducible refine State.ok_mk ?_ ?_ ?_ ?_ ?_
    | exact rfl
    | (simp only [State.ev_valve, State.ev_fab, State.submit_valve]; done)

theorem State.stripTimeout_ok {qs : List Instr} {s : State} (ok : s.Ok qs) :
    (s.stripTimeout).Ok qs := by
  unfold State.stripTimeout
  try dsimp only
  repeat' first
    | with_reducible exact ok
    | with_reducible assumption
    | with_reducible exact rfl
    | with_reducible apply State.stripEnd_ok
    | with_reducible apply State.ev_ok
    | with_reducible apply State.stripRest_ok
    | with_reducible apply State.ok_ite
    | split
    | with_reducible refine State.ok_mk ?_ ?_ ?_ ?_ ?_
    | exact rfl
    | (simp only [State.ev_valve, State.ev_fab, State.submit_valve]; done)

theorem State.stripPfail_ok {qs : List Instr} {s : State} (ok : s.Ok qs) :
    (s.stripPfail).Ok qs := by
  unfold State.stripPfail
  try dsimp only
  repeat' first
    | with_reducible exact ok
    | with_reducible assumption
    | with_reducible exact rfl
    | with_reducible apply State.stripEnd_ok
    | with_reducible apply State.putB_ok
    | with_reducible apply State.stripRest_ok
    | with_reducible apply State.ok_ite
    | split
    | with_reducible refine State.ok_mk ?_ ?_ ?_ ?_ ?_
    | exact rfl
    | (simp only [State.ev_valve, State.ev_fab, State.submit_valve]; done)

theorem State.stripInterrupt_ok {qs : List Instr} {s : State} (ok : s.Ok qs) :
    (s.stripInterrupt).Ok qs := by
  unfold State.stripInterrupt
  try dsimp only
  repeat' first
    | with_reducible exact ok
    | with_reducible assumption
    | with_reducible exact rfl
    | with_reducible apply State.putB_ok
    | with_reducible apply State.stripVcom_ok
    | with_reducible apply State.ok_ite
    | split
    | with_reducible refine State.ok_mk ?_ ?_ ?_ ?_ ?_
    | exact rfl
    | (simp only [State.ev_valve, State.ev_fab, State.submit_valve]; done)

theorem State.stripHalt_ok {qs : List Instr} {s : State} (ok : s.Ok qs) :
    (s.stripHalt).Ok qs := by
  unfold State.stripHalt
  try dsimp only
  repeat' first
    | with_reducible exact ok
    | with_reducible assumption
    | with_reducible exact rfl
    | with_reducible apply State.stripInterrupt_ok
    | with_reducible apply State.stripRest_ok
    | with_reducible apply State.ok_ite
    | split
    | with_reducible refine State.ok_mk ?_ ?_ ?_ ?_ ?_
    | exact rfl
    | (simp only [State.ev_valve, State.ev_fab, State.submit_valve]; done)

theorem State.stripVepChange_ok {qs : List Instr} {s : State} (ok : s.Ok qs) (good : Bool) :
    (s.stripVepChange good).Ok qs := by
  unfold State.stripVepChange
  try dsimp only
  repeat' first
    | with_reducible exact ok
    | with_reducible assumption
    | with_reducible exact rfl
    | with_reducible apply State.putB_ok
    | with_reducible apply State.stripState_ok
    | with_reducible apply State.stripInterrupt_ok
    | with_reducible apply State.stripRest_ok
    | with_reducible apply State.ok_ite
    | split
    | with_reducible refine State.ok_mk ?_ ?_ ?_ ?_ ?_
    | exact rfl
    | (simp only [State.ev_valve, State.ev_fab, State.submit_valve]; done)

theorem State.stripStart_ok {qs : List Instr} {s : State} (ok : s.Ok qs) :
    (s.stripStart).Ok qs := by
  unfold State.stripStart
  try dsimp only
  repeat' first
    | with_reducible exact ok
    | with_reducible assumption
    | with_reducible exact rfl
    | with_reducible apply State.put_ok
    | with_reducible apply State.putB_ok
    | with_reducible apply State.ok_ite
    | split
    | with_reducible refine State.ok_mk ?_ ?_ ?_ ?_ ?_
    | exact rfl
    | (simp only [State.ev_valve, State.ev_fab, State.submit_valve]; done)

theorem State.stripFitted_ok {qs : List Instr} {s : State} (ok : s.Ok qs) :
    (s.stripFitted).Ok qs := by
  unfold State.stripFitted
  try dsimp only
  repeat' first
    | with_reducible exact ok
    | with_reducible assumption
    | with_reducible apply State.stripRest_ok
    | with_reducible apply State.ok_ite
    | split

theorem State.displayAssets_ok {qs : List Instr} {s : State} (ok : s.Ok qs) :
    (s.displayAssets).Ok qs := by
  unfold State.displayAssets
  try dsimp only
  repeat' first
    | with_reducible exact ok
    | with_reducible assumption
    | with_reducible apply State.panelAssets_ok
    | with_reducible apply State.stripFitted_ok

end Sys2Proof.Machine
end

