-- ==== Sys2Proof/Laws/GoodRecorder.lean ====
section
/-! SUPPORT. What RecorderOps defines keeps the queue of waiting commands, the canonical form of the register table and
the capacities of the queues (`State.Ok`). -/

namespace Sys2Proof.Machine

set_option linter.unusedTactic false
set_option linter.unreachableTactic false

open Reg

theorem State.pondRegs_ok {qs : List Instr} {s : State} (ok : s.Ok qs) :
    (s.pondRegs).Ok qs := by
  unfold State.pondRegs
  try dsimp only
  repeat' first
    | with_reducible exact ok
    | with_reducible assumption
    | with_reducible apply State.put_ok
    | with_reducible apply State.raise_ok

theorem State.irqRecord_ok {qs : List Instr} {s : State} (ok : s.Ok qs) (sev : Nat) :
    (s.irqRecord sev).Ok qs := by
  unfold State.irqRecord
  try dsimp only
  repeat' first
    | with_reducible exact ok
    | with_reducible assumption
    | with_reducible apply State.putB_ok
    | with_reducible apply State.ok_ite
    | split

theorem State.unfreeze_ok {qs : List Instr} {s : State} (ok : s.Ok qs) (cause : Nat) :
    (s.unfreeze cause).Ok qs := by
  unfold State.unfreeze
  try dsimp only
  repeat' first
    | with_reducible exact ok
    | with_reducible assumption
    | with_reducible exact rfl
    | with_reducible apply State.putB_ok
    | with_reducible apply State.put_ok
    | with_reducible apply State.ev_ok
    | with_reducible apply State.ok_ite
    | split
    | with_reducible refine State.ok_mk ?_ ?_ ?_ ?_ ?_
    | exact rfl
    | (simp only [State.ev_valve, State.ev_fab, State.submit_valve]; done)

theorem State.pondEnter_ok {qs : List Instr} {s : State} (ok : s.Ok qs) (src depth : Nat) (e : Submit) :
    (s.pondEnter src depth e).Ok qs := by
  unfold State.pondEnter
  try dsimp only
  repeat' first
    | with_reducible exact ok
    | with_reducible assumption
    | with_reducible exact rfl
    | with_reducible apply State.pondRegs_ok
    | with_reducible apply State.irqRecord_ok
    | with_reducible apply State.bindShow_ok
    | with_reducible apply State.unfreeze_ok
    | with_reducible apply State.ok_ite
    | split
    | with_reducible refine State.ok_mk ?_ ?_ ?_ ?_ ?_
    | exact rfl
    | (simp only [State.ev_valve, State.ev_fab, State.submit_valve]; done)

theorem State.takePort_ok {q : List Instr} {s : State} (h : s.Ok q) (p : Nat) : (s.takePort p).Ok q := by
  unfold State.takePort
  split
  · exact h
  · rename_i e l hl
    dsimp only
    with_reducible apply State.pondEnter_ok
    refine ok_fifos h rfl rfl (fun j => ?_) rfl rfl rfl
    show ((s.log.setFifo p l).fifo j).length ≤ 16
    rw [Recorder.fifo_setFifo]
    have hp := h.good.fifo p
    rw [hl, List.length_cons] at hp
    split
    · omega
    · exact h.good.fifo j

theorem State.overflowRecord_ok {qs : List Instr} {s : State} (ok : s.Ok qs) :
    (s.overflowRecord).Ok qs := by
  unfold State.overflowRecord
  try dsimp only
  repeat' first
    | with_reducible exact ok
    | with_reducible assumption
    | with_reducible exact rfl
    | with_reducible apply State.putB_ok
    | with_reducible apply State.pondEnter_ok
    | with_reducible refine State.ok_mk ?_ ?_ ?_ ?_ ?_
    | exact rfl
    | (simp only [State.ev_valve, State.ev_fab, State.submit_valve]; done)

theorem State.intakeCycle_ok {qs : List Instr} {s : State} (ok : s.Ok qs) (fill : Nat) :
    (s.intakeCycle fill).Ok qs := by
  unfold State.intakeCycle
  try dsimp only
  repeat' first
    | with_reducible exact ok
    | with_reducible assumption
    | with_reducible apply State.overflowRecord_ok
    | with_reducible apply State.takePort_ok
    | with_reducible apply State.ok_ite
    | split

theorem State.arbitrate_ok {qs : List Instr} {s : State} (ok : s.Ok qs) :
    (s.arbitrate).Ok qs := by
  unfold State.arbitrate
  try dsimp only
  repeat' first
    | with_reducible exact ok
    | with_reducible assumption
    | with_reducible apply State.intakeCycle_ok
    | with_reducible apply State.ok_ite
    | split

theorem State.intakeAll_ok {qs : List Instr} {s : State} (ok : s.Ok qs) :
    (s.intakeAll).Ok qs := by
  unfold State.intakeAll
  try dsimp only
  repeat' first
    | with_reducible exact ok
    | with_reducible assumption
    | with_reducible apply State.arbitrate_ok
    | with_reducible refine State.each_ok ?_ _ (fun _ _ _ => ?_)

theorem State.syslogLost_ok {qs : List Instr} {s : State} (ok : s.Ok qs) (gone head : List LogRec) :
    (s.syslogLost gone head).Ok qs := by
  unfold State.syslogLost
  try dsimp only
  repeat' first
    | with_reducible exact ok
    | with_reducible assumption
    | with_reducible exact rfl
    | with_reducible apply State.put_ok
    | with_reducible apply State.ok_ite
    | split
    | with_reducible refine State.ok_mk ?_ ?_ ?_ ?_ ?_
    | exact rfl
    | (simp only [State.ev_valve, State.ev_fab, State.submit_valve]; done)

theorem State.raceRegs_ok {qs : List Instr} {s : State} (ok : s.Ok qs) :
    (s.raceRegs).Ok qs := by
  unfold State.raceRegs
  try dsimp only
  repeat' first
    | with_reducible exact ok
    | with_reducible assumption
    | with_reducible apply State.put_ok
    | split

theorem State.headFull_ok {qs : List Instr} {s : State} (ok : s.Ok qs) (was : Nat) :
    (s.headFull was).Ok qs := by
  unfold State.headFull
  try dsimp only
  repeat' first
    | with_reducible exact ok
    | with_reducible assumption
    | with_reducible apply State.putB_ok
    | with_reducible apply State.ev_ok
    | with_reducible apply State.ok_ite
    | split

theorem State.flushRecords_ok {qs : List Instr} {s : State} (ok : s.Ok qs) (n : Nat) :
    (s.flushRecords n).Ok qs := by
  unfold State.flushRecords
  try dsimp only
  repeat' first
    | with_reducible exact ok
    | with_reducible assumption
    | with_reducible exact rfl
    | with_reducible apply State.syslogLost_ok
    | with_reducible apply State.raceRegs_ok
    | with_reducible apply State.put_ok
    | with_reducible apply State.headFull_ok
    | with_reducible apply State.ok_ite
    | split
    | with_reducible refine State.ok_mk ?_ ?_ ?_ ?_ ?_
    | exact rfl
    | (simp only [State.ev_valve, State.ev_fab, State.submit_valve]; done)

theorem State.setPool_ok {qs : List Instr} {s : State} (ok : s.Ok qs) (n : Nat) :
    (s.setPool n).Ok qs := by
  unfold State.setPool
  try dsimp only
  repeat' first
    | with_reducible exact ok
    | with_reducible assumption
    | with_reducible exact rfl
    | with_reducible apply State.putB_ok
    | with_reducible refine State.ok_mk ?_ ?_ ?_ ?_ ?_
    | exact rfl
    | (simp only [State.ev_valve, State.ev_fab, State.submit_valve]; done)

theorem State.advancePlace_ok {qs : List Instr} {s : State} (ok : s.Ok qs) (n : Nat) :
    (s.advancePlace n).Ok qs := by
  unfold State.advancePlace
  try dsimp only
  repeat' first
    | with_reducible exact ok
    | with_reducible assumption
    | with_reducible exact rfl
    | with_reducible apply State.setPool_ok
    | with_reducible refine State.ok_mk ?_ ?_ ?_ ?_ ?_
    | exact rfl
    | (simp only [State.ev_valve, State.ev_fab, State.submit_valve]; done)

theorem State.flushPlaced_ok {qs : List Instr} {s : State} (ok : s.Ok qs) (n : Nat) :
    (s.flushPlaced n).Ok qs := by
  unfold State.flushPlaced
  try dsimp only
  repeat' first
    | with_reducible exact ok
    | with_reducible assumption
    | with_reducible apply State.flushRecords_ok
    | with_reducible apply State.advancePlace_ok

theorem State.pageStart_ok {qs : List Instr} {s : State} (ok : s.Ok qs) :
    (s.pageStart).Ok qs := by
  unfold State.pageStart
  try dsimp only
  repeat' first
    | with_reducible exact ok
    | with_reducible assumption
    | with_reducible exact rfl
    | with_reducible apply State.ok_ite
    | split
    | with_reducible refine State.ok_mk ?_ ?_ ?_ ?_ ?_
    | exact rfl
    | (simp only [State.ev_valve, State.ev_fab, State.submit_valve]; done)

theorem State.wearShow_ok {qs : List Instr} {s : State} (ok : s.Ok qs) :
    (s.wearShow).Ok qs := by
  unfold State.wearShow
  try dsimp only
  repeat' first
    | with_reducible exact ok
    | with_reducible assumption
    | with_reducible apply State.put_ok
    | with_reducible apply State.putB_ok
    | with_reducible refine State.foldl_ok (fun _ _ _ => ?_) _ ?_
    | with_reducible refine State.foldl_fst_ok (fun _ _ _ => ?_) _ ?_

theorem State.retire_ok {qs : List Instr} {s : State} (ok : s.Ok qs) (sector : Nat) :
    (s.retire sector).Ok qs := by
  unfold State.retire
  try dsimp only
  repeat' first
    | with_reducible exact ok
    | with_reducible assumption
    | with_reducible exact rfl
    | with_reducible apply State.ev_ok
    | with_reducible apply State.wearShow_ok
    | with_reducible apply State.ok_ite
    | split
    | with_reducible refine State.ok_mk ?_ ?_ ?_ ?_ ?_
    | exact rfl
    | (simp only [State.ev_valve, State.ev_fab, State.submit_valve]; done)

theorem State.pageBad_ok {qs : List Instr} {s : State} (ok : s.Ok qs) :
    (s.pageBad).Ok qs := by
  unfold State.pageBad
  try dsimp only
  repeat' first
    | with_reducible exact ok
    | with_reducible assumption
    | with_reducible apply State.advancePlace_ok
    | with_reducible apply State.retire_ok
    | with_reducible apply State.ok_ite
    | split

theorem State.pageDone_ok {qs : List Instr} {s : State} (ok : s.Ok qs) (ok : Bool) :
    (s.pageDone ok).Ok qs := by
  unfold State.pageDone
  try dsimp only
  repeat' first
    | with_reducible exact ok
    | with_reducible assumption
    | with_reducible exact rfl
    | with_reducible apply State.flushPlaced_ok
    | with_reducible apply State.pageBad_ok
    | with_reducible apply State.ok_ite
    | split
    | with_reducible refine State.ok_mk ?_ ?_ ?_ ?_ ?_
    | exact rfl
    | (simp only [State.ev_valve, State.ev_fab, State.submit_valve]; done)

theorem State.wearReport_ok {qs : List Instr} {s : State} (ok : s.Ok qs) :
    (s.wearReport).Ok qs := by
  unfold State.wearReport
  try dsimp only
  repeat' first
    | with_reducible exact ok
    | with_reducible assumption
    | with_reducible exact rfl
    | with_reducible apply State.ev_ok
    | with_reducible apply State.ok_ite
    | split
    | with_reducible refine State.ok_mk ?_ ?_ ?_ ?_ ?_
    | exact rfl
    | (simp only [State.ev_valve, State.ev_fab, State.submit_valve]; done)

theorem State.tailErased_ok {qs : List Instr} {s : State} (ok : s.Ok qs) (sector : Nat) (ok : Bool) :
    (s.tailErased sector ok).Ok qs := by
  unfold State.tailErased
  try dsimp only
  repeat' first
    | with_reducible exact ok
    | with_reducible assumption
    | with_reducible exact rfl
    | with_reducible apply State.wearShow_ok
    | with_reducible apply State.setPool_ok
    | with_reducible apply State.wearReport_ok
    | with_reducible apply State.retire_ok
    | with_reducible apply State.ok_ite
    | split
    | with_reducible refine State.ok_mk ?_ ?_ ?_ ?_ ?_
    | exact rfl
    | (simp only [State.ev_valve, State.ev_fab, State.submit_valve]; done)

theorem State.freezeSet_ok {qs : List Instr} {s : State} (ok : s.Ok qs) :
    (s.freezeSet).Ok qs := by
  unfold State.freezeSet
  try dsimp only
  repeat' first
    | with_reducible exact ok
    | with_reducible assumption
    | with_reducible exact rfl
    | with_reducible apply State.putB_ok
    | with_reducible apply State.put_ok
    | with_reducible apply State.ev_ok
    | with_reducible apply State.ok_ite
    | split
    | with_reducible refine State.ok_mk ?_ ?_ ?_ ?_ ?_
    | exact rfl
    | (simp only [State.ev_valve, State.ev_fab, State.submit_valve]; done)

theorem State.freezeLift_ok {qs : List Instr} {s : State} (ok : s.Ok qs) :
    (s.freezeLift).Ok qs := by
  unfold State.freezeLift
  try dsimp only
  repeat' first
    | with_reducible exact ok
    | with_reducible assumption
    | with_reducible apply State.unfreeze_ok
    | with_reducible apply State.ok_ite
    | split

theorem State.logClear_ok {qs : List Instr} {s : State} (ok : s.Ok qs) (req : Nat) :
    (s.logClear req).Ok qs := by
  unfold State.logClear
  try dsimp only
  repeat' first
    | with_reducible exact ok
    | with_reducible assumption
    | with_reducible exact rfl
    | with_reducible apply State.intakeAll_ok
    | with_reducible apply State.ev_ok
    | with_reducible apply State.putB_ok
    | with_reducible apply State.raceRegs_ok
    | with_reducible refine State.ok_mk ?_ ?_ ?_ ?_ ?_
    | exact rfl
    | (simp only [State.ev_valve, State.ev_fab, State.submit_valve]; done)

theorem State.headErased_ok {qs : List Instr} {s : State} (ok : s.Ok qs) :
    (s.headErased).Ok qs := by
  unfold State.headErased
  try dsimp only
  repeat' first
    | with_reducible exact ok
    | with_reducible assumption
    | with_reducible exact rfl
    | with_reducible apply State.putB_ok
    | with_reducible apply State.raceRegs_ok
    | with_reducible apply State.headFull_ok
    | with_reducible apply State.ok_ite
    | split
    | with_reducible refine State.ok_mk ?_ ?_ ?_ ?_ ?_
    | exact rfl
    | (simp only [State.ev_valve, State.ev_fab, State.submit_valve]; done)

theorem State.drainFifos_ok {qs : List Instr} {s : State} (ok : s.Ok qs) :
    (s.drainFifos).Ok qs := by
  unfold State.drainFifos
  try dsimp only
  repeat' first
    | with_reducible exact ok
    | with_reducible assumption
    | with_reducible apply State.intakeCycle_ok
    | with_reducible refine State.each_ok ?_ _ (fun _ _ _ => ?_)

theorem State.flushBad_ok {qs : List Instr} {s : State} (ok : s.Ok qs) (bad : Nat) :
    (s.flushBad bad).Ok qs := by
  unfold State.flushBad
  try dsimp only
  repeat' first
    | with_reducible exact ok
    | with_reducible assumption
    | with_reducible exact rfl
    | with_reducible apply State.pageBad_ok
    | with_reducible refine State.each_ok ?_ _ (fun _ _ _ => ?_)
    | with_reducible refine State.ok_mk ?_ ?_ ?_ ?_ ?_
    | exact rfl
    | (simp only [State.ev_valve, State.ev_fab, State.submit_valve]; done)

theorem State.flushOnce_ok {qs : List Instr} {s : State} (ok : s.Ok qs) :
    (s.flushOnce).Ok qs := by
  unfold State.flushOnce
  try dsimp only
  repeat' first
    | with_reducible exact ok
    | with_reducible assumption
    | with_reducible apply State.drainFifos_ok
    | with_reducible apply State.flushPlaced_ok

theorem State.flushAll_ok {qs : List Instr} {s : State} (ok : s.Ok qs) (bad : Nat) :
    (s.flushAll bad).Ok qs := by
  unfold State.flushAll
  try dsimp only
  repeat' first
    | with_reducible exact ok
    | with_reducible assumption
    | with_reducible apply State.flushBad_ok
    | with_reducible apply State.flushOnce_ok

theorem State.flushEndEntry_ok {qs : List Instr} {s : State} (ok : s.Ok qs) :
    (s.flushEndEntry).Ok qs := by
  unfold State.flushEndEntry
  try dsimp only
  repeat' first
    | with_reducible exact ok
    | with_reducible assumption
    | with_reducible exact rfl
    | with_reducible refine State.ok_mk ?_ ?_ ?_ ?_ ?_
    | exact rfl
    | (simp only [State.ev_valve, State.ev_fab, State.submit_valve]; done)

theorem State.recorderStart_ok {qs : List Instr} {s : State} (ok : s.Ok qs) :
    (s.recorderStart).Ok qs := by
  unfold State.recorderStart
  try dsimp only
  repeat' first
    | with_reducible exact ok
    | with_reducible assumption
    | with_reducible exact rfl
    | with_reducible apply State.putB_ok
    | with_reducible apply State.put_ok
    | with_reducible apply State.pondEnter_ok
    | with_reducible apply State.pondRegs_ok
    | with_reducible apply State.wearShow_ok
    | with_reducible apply State.raceRegs_ok
    | with_reducible apply State.ok_ite
    | split
    | with_reducible refine State.ok_mk ?_ ?_ ?_ ?_ ?_
    | exact rfl
    | (simp only [State.ev_valve, State.ev_fab, State.submit_valve]; done)

theorem State.logBad_ok {qs : List Instr} {s : State} (ok : s.Ok qs) (sectors : List Nat) :
    (s.logBad sectors).Ok qs := by
  unfold State.logBad
  try dsimp only
  repeat' first
    | with_reducible exact ok
    | with_reducible assumption
    | with_reducible apply State.ev_ok
    | with_reducible refine State.each_ok ?_ _ (fun _ _ _ => ?_)

theorem State.syslogSend_ok {qs : List Instr} {s : State} (ok : s.Ok qs) :
    (s.syslogSend).Ok qs := by
  unfold State.syslogSend
  try dsimp only
  repeat' first
    | with_reducible exact ok
    | with_reducible assumption
    | with_reducible exact rfl
    | with_reducible apply State.send_ok
    | with_reducible apply State.ok_ite
    | split
    | with_reducible refine State.ok_mk ?_ ?_ ?_ ?_ ?_
    | exact rfl
    | (simp only [State.ev_valve, State.ev_fab, State.submit_valve]; done)

theorem State.syslogMinute_ok {qs : List Instr} {s : State} (ok : s.Ok qs) :
    (s.syslogMinute).Ok qs := by
  unfold State.syslogMinute
  try dsimp only
  repeat' first
    | with_reducible exact ok
    | with_reducible assumption
    | with_reducible exact rfl
    | with_reducible apply State.ev_ok
    | with_reducible apply State.ok_ite
    | split
    | with_reducible refine State.ok_mk ?_ ?_ ?_ ?_ ?_
    | exact rfl
    | (simp only [State.ev_valve, State.ev_fab, State.submit_valve]; done)

end Sys2Proof.Machine
end

