-- ==== Sys2Proof/Laws/GoodValve.lean ====
section
/-! SUPPORT. What ValveOps defines keeps the queue of waiting commands, the canonical form of the register table and
the capacities of the queues (`State.Ok`). -/

namespace Sys2Proof.Machine

set_option linter.unusedTactic false
set_option linter.unreachableTactic false

open Reg

theorem State.setChan_ok {qs : List Instr} {s : State} (ok : s.Ok qs) (v : Nat) (c : Channel) :
    (s.setChan v c).Ok qs := by
  unfold State.setChan
  try dsimp only
  repeat' first
    | with_reducible exact ok
    | with_reducible assumption
    | with_reducible exact rfl
    | with_reducible refine State.ok_mk ?_ ?_ ?_ ?_ ?_
    | exact rfl
    | (simp only [State.ev_valve, State.ev_fab, State.submit_valve]; done)

theorem State.bankShow_ok {qs : List Instr} {s : State} (ok : s.Ok qs) (b : Nat) :
    (s.bankShow b).Ok qs := by
  unfold State.bankShow
  try dsimp only
  repeat' first
    | with_reducible exact ok
    | with_reducible assumption
    | with_reducible apply State.putB_ok
    | with_reducible apply State.put_ok
    | with_reducible apply State.ok_ite
    | split

theorem State.setVst_ok {qs : List Instr} {s : State} (ok : s.Ok qs) (v st : Nat) :
    (s.setVst v st).Ok qs := by
  unfold State.setVst
  try dsimp only
  repeat' first
    | with_reducible exact ok
    | with_reducible assumption
    | with_reducible exact rfl
    | with_reducible apply State.put_ok
    | with_reducible apply State.setChan_ok
    | with_reducible apply State.putB_ok
    | with_reducible apply State.bankShow_ok
    | with_reducible apply State.ok_ite
    | split
    | with_reducible refine State.ok_mk ?_ ?_ ?_ ?_ ?_
    | exact rfl
    | (simp only [State.ev_valve, State.ev_fab, State.submit_valve]; done)

theorem State.vev_ok {qs : List Instr} {s : State} (ok : s.Ok qs) (v code : Nat) (p1 : Nat) (p2 : Nat) :
    (s.vev v code p1 p2).Ok qs := by
  unfold State.vev
  try dsimp only
  repeat' first
    | with_reducible exact ok
    | with_reducible assumption
    | with_reducible apply State.ev_ok

theorem State.cqShow_ok {qs : List Instr} {s : State} (ok : s.Ok qs) (b : Nat) :
    (s.cqShow b).Ok qs := by
  unfold State.cqShow
  try dsimp only
  repeat' first
    | with_reducible exact ok
    | with_reducible assumption
    | with_reducible apply State.setReg_ok
    | with_reducible apply State.put_ok
    | split

theorem State.cqPush_ok {q : List Instr} {s : State} (h : s.Ok q) (v id status reason : Nat) :
    (s.cqPush v id status reason).Ok q := by
  unfold State.cqPush
  dsimp only
  have hq := h.good.cq (v / 8)
  have hl : ∀ e : CqEntry, ((if decide (32 ≤ (s.bank (v / 8)).cq.length) = true then (s.bank (v / 8)).cq.drop 1
      else (s.bank (v / 8)).cq) ++ [e]).length ≤ 32 := by
    intro e
    by_cases hc : 32 ≤ (s.bank (v / 8)).cq.length <;> simp [hc] <;> omega
  repeat' first
    | with_reducible apply State.cqShow_ok
    | with_reducible apply State.inc_ok
    | with_reducible apply State.ok_ite
    | exact State.setBank_ok h _ (hl _)

theorem State.cqPop_ok {q : List Instr} {s : State} (h : s.Ok q) (b : Nat) : (s.cqPop b).Ok q := by
  unfold State.cqPop
  dsimp only
  have hq := h.good.cq b
  with_reducible apply State.cqShow_ok
  exact State.setBank_ok h _ (by simp; omega)

theorem State.cqMinute_ok {qs : List Instr} {s : State} (ok : s.Ok qs) (b : Nat) :
    (s.cqMinute b).Ok qs := by
  unfold State.cqMinute
  try dsimp only
  repeat' first
    | with_reducible exact ok
    | with_reducible assumption
    | with_reducible exact rfl
    | with_reducible apply State.ev_ok
    | with_reducible apply State.ok_ite
    | split
    | with_reducible apply State.setBank_ok'
    | with_reducible exact rfl
    | with_reducible refine State.ok_mk ?_ ?_ ?_ ?_ ?_
    | exact rfl
    | (simp only [State.ev_valve, State.ev_fab, State.submit_valve]; done)

theorem State.hsPut_ok {qs : List Instr} {s : State} (ok : s.Ok qs) (b : Nat) (on : Bool) :
    (s.hsPut b on).Ok qs := by
  unfold State.hsPut
  try dsimp only
  repeat' first
    | with_reducible exact ok
    | with_reducible assumption
    | with_reducible apply State.putB_ok

theorem State.lingerEnd_ok {qs : List Instr} {s : State} (ok : s.Ok qs) (b : Nat) :
    (s.lingerEnd b).Ok qs := by
  unfold State.lingerEnd
  try dsimp only
  repeat' first
    | with_reducible exact ok
    | with_reducible assumption
    | with_reducible apply State.hsPut_ok
    | with_reducible apply State.ok_ite
    | split

theorem State.stageStart_ok {qs : List Instr} {s : State} (ok : s.Ok qs) :
    (s.stageStart).Ok qs := by
  unfold State.stageStart
  try dsimp only
  repeat' first
    | with_reducible exact ok
    | with_reducible assumption
    | with_reducible exact rfl
    | with_reducible apply State.ok_ite
    | split
    | with_reducible refine State.ok_mk ?_ ?_ ?_ ?_ ?_
    | exact rfl
    | (simp only [State.ev_valve, State.ev_fab, State.submit_valve]; done)

theorem State.tableIn_ok {qs : List Instr} {s : State} (ok : s.Ok qs) (v : Nat) :
    (s.tableIn v).Ok qs := by
  unfold State.tableIn
  try dsimp only
  repeat' first
    | with_reducible exact ok
    | with_reducible assumption
    | with_reducible exact rfl
    | with_reducible apply State.store_ok
    | with_reducible apply State.setChan_ok
    | with_reducible refine State.foldl_ok (fun _ _ _ => ?_) _ ?_
    | with_reducible refine State.foldl_fst_ok (fun _ _ _ => ?_) _ ?_
    | with_reducible refine State.ok_mk ?_ ?_ ?_ ?_ ?_
    | exact rfl
    | (simp only [State.ev_valve, State.ev_fab, State.submit_valve]; done)

theorem State.relItemEnd_ok {qs : List Instr} {s : State} (ok : s.Ok qs) (v : Nat) :
    (s.relItemEnd v).Ok qs := by
  unfold State.relItemEnd
  try dsimp only
  repeat' first
    | with_reducible exact ok
    | with_reducible assumption
    | with_reducible exact rfl
    | with_reducible apply State.setChan_ok
    | with_reducible apply State.cqPush_ok
    | with_reducible apply State.tableIn_ok
    | split
    | with_reducible refine State.ok_mk ?_ ?_ ?_ ?_ ?_
    | exact rfl
    | (simp only [State.ev_valve, State.ev_fab, State.submit_valve]; done)

theorem State.riseStart_ok {qs : List Instr} {s : State} (ok : s.Ok qs) (v : Nat) :
    (s.riseStart v).Ok qs := by
  unfold State.riseStart
  try dsimp only
  repeat' first
    | with_reducible exact ok
    | with_reducible assumption
    | with_reducible exact rfl
    | with_reducible apply State.setChan_ok
    | with_reducible apply State.put_ok
    | with_reducible apply State.setVst_ok
    | with_reducible apply State.ok_ite
    | split
    | with_reducible refine State.ok_mk ?_ ?_ ?_ ?_ ?_
    | exact rfl
    | (simp only [State.ev_valve, State.ev_fab, State.submit_valve]; done)

theorem State.letIn_ok {qs : List Instr} {s : State} (ok : s.Ok qs) (v id : Nat) (cont : Bool) (hold : Nat) :
    (s.letIn v id cont hold).Ok qs := by
  unfold State.letIn
  try dsimp only
  repeat' first
    | with_reducible exact ok
    | with_reducible assumption
    | with_reducible exact rfl
    | with_reducible apply State.relItemEnd_ok
    | with_reducible apply State.setChan_ok
    | with_reducible apply State.put_ok
    | with_reducible apply State.putB_ok
    | with_reducible apply State.riseStart_ok
    | with_reducible apply State.hsPut_ok
    | with_reducible apply State.setVst_ok
    | with_reducible apply State.ok_ite
    | split
    | with_reducible refine State.ok_mk ?_ ?_ ?_ ?_ ?_
    | exact rfl
    | (simp only [State.ev_valve, State.ev_fab, State.submit_valve]; done)

theorem State.unqueue_ok {qs : List Instr} {s : State} (ok : s.Ok qs) (v status reason : Nat) :
    (s.unqueue v status reason).Ok qs := by
  unfold State.unqueue
  try dsimp only
  repeat' first
    | with_reducible exact ok
    | with_reducible assumption
    | with_reducible exact rfl
    | with_reducible apply State.setChan_ok
    | with_reducible apply State.cqPush_ok
    | with_reducible apply State.setVst_ok
    | with_reducible apply State.stageStart_ok
    | split
    | with_reducible apply State.setBank_ok'
    | with_reducible exact rfl
    | with_reducible refine State.ok_mk ?_ ?_ ?_ ?_ ?_
    | exact rfl
    | (simp only [State.ev_valve, State.ev_fab, State.submit_valve]; done)

theorem State.serveN_ok {q : List Instr} : ∀ (n b : Nat) {s : State}, s.Ok q → (State.serveN n b s).Ok q
  | 0, _, _, h => h
  | n + 1, b, s, h => by
    unfold State.serveN
    repeat' first
      | with_reducible exact h
      | with_reducible exact rfl
      | with_reducible apply State.serveN_ok n
      | with_reducible apply State.unqueue_ok
      | with_reducible apply State.letIn_ok
      | with_reducible apply State.setBank_ok'
      | split

theorem State.serve_ok {qs : List Instr} {s : State} (ok : s.Ok qs) (b : Nat) :
    (s.serve b).Ok qs := by
  unfold State.serve
  try dsimp only
  repeat' first
    | with_reducible exact ok
    | with_reducible assumption
    | with_reducible apply State.serveN_ok
    | with_reducible apply State.bankShow_ok

theorem State.vfault_ok {qs : List Instr} {s : State} (ok : s.Ok qs) (v cause id : Nat) :
    (s.vfault v cause id).Ok qs := by
  unfold State.vfault
  try dsimp only
  repeat' first
    | with_reducible exact ok
    | with_reducible assumption
    | with_reducible apply State.put_ok
    | with_reducible apply State.vev_ok
    | with_reducible apply State.bankShow_ok
    | with_reducible apply State.setVst_ok
    | with_reducible apply State.ok_ite
    | split

theorem State.moved_ok {qs : List Instr} {s : State} (ok : s.Ok qs) (v us ma : Nat) :
    (s.moved v us ma).Ok qs := by
  unfold State.moved
  try dsimp only
  repeat' first
    | with_reducible exact ok
    | with_reducible assumption
    | with_reducible exact rfl
    | with_reducible apply State.setChan_ok
    | with_reducible apply State.put_ok
    | with_reducible refine State.ok_mk ?_ ?_ ?_ ?_ ?_
    | exact rfl
    | (simp only [State.ev_valve, State.ev_fab, State.submit_valve]; done)

theorem State.closeWindow_ok {qs : List Instr} {s : State} (ok : s.Ok qs) (v : Nat) (samples : List Nat) :
    (s.closeWindow v samples).Ok qs := by
  unfold State.closeWindow
  try dsimp only
  repeat' first
    | with_reducible exact ok
    | with_reducible assumption
    | with_reducible exact rfl
    | with_reducible apply State.setChan_ok
    | with_reducible apply State.moved_ok
    | with_reducible apply State.put_ok
    | with_reducible apply State.vev_ok
    | with_reducible apply State.ok_ite
    | split
    | with_reducible refine State.ok_mk ?_ ?_ ?_ ?_ ?_
    | exact rfl
    | (simp only [State.ev_valve, State.ev_fab, State.submit_valve]; done)

theorem State.dropWindow_ok {qs : List Instr} {s : State} (ok : s.Ok qs) (v : Nat) :
    (s.dropWindow v).Ok qs := by
  unfold State.dropWindow
  try dsimp only
  repeat' first
    | with_reducible exact ok
    | with_reducible assumption
    | with_reducible exact rfl
    | with_reducible apply State.setChan_ok
    | with_reducible apply State.tookN_ok
    | with_reducible apply State.moved_ok
    | with_reducible apply State.put_ok
    | with_reducible apply State.ok_ite
    | split
    | with_reducible refine State.ok_mk ?_ ?_ ?_ ?_ ?_
    | exact rfl
    | (simp only [State.ev_valve, State.ev_fab, State.submit_valve]; done)

theorem State.verdictRecord_ok {qs : List Instr} {s : State} (ok : s.Ok qs) (v kind rm : Nat) :
    (s.verdictRecord v kind rm).Ok qs := by
  unfold State.verdictRecord
  try dsimp only
  repeat' first
    | with_reducible exact ok
    | with_reducible assumption
    | with_reducible apply State.vev_ok

theorem State.release_ok {qs : List Instr} {s : State} (ok : s.Ok qs) (v : Nat) (forced : Option (Nat × Nat)) :
    (s.release v forced).Ok qs := by
  unfold State.release
  try dsimp only
  repeat' first
    | with_reducible exact ok
    | with_reducible assumption
    | with_reducible exact rfl
    | with_reducible apply State.dropWindow_ok
    | with_reducible apply State.verdictRecord_ok
    | with_reducible apply State.setChan_ok
    | with_reducible apply State.putB_ok
    | with_reducible apply State.setVst_ok
    | with_reducible apply State.serve_ok
    | with_reducible apply State.ok_ite
    | split
    | with_reducible refine State.ok_mk ?_ ?_ ?_ ?_ ?_
    | exact rfl
    | (simp only [State.ev_valve, State.ev_fab, State.submit_valve]; done)

theorem State.faultVerdict_ok {qs : List Instr} {s : State} (ok : s.Ok qs) (v kind reason rm : Nat) :
    (s.faultVerdict v kind reason rm).Ok qs := by
  unfold State.faultVerdict
  try dsimp only
  repeat' first
    | with_reducible exact ok
    | with_reducible assumption
    | with_reducible apply State.verdictRecord_ok
    | with_reducible apply State.release_ok
    | with_reducible apply State.vfault_ok

theorem State.newProfile_ok {qs : List Instr} {s : State} (ok : s.Ok qs) (v id : Nat) (cont : Bool) (hold : Nat) :
    (s.newProfile v id cont hold).Ok qs := by
  unfold State.newProfile
  try dsimp only
  repeat' first
    | with_reducible exact ok
    | with_reducible assumption
    | with_reducible exact rfl
    | with_reducible apply State.cqPush_ok
    | with_reducible apply State.letIn_ok
    | with_reducible apply State.setChan_ok
    | with_reducible apply State.put_ok
    | with_reducible apply State.inc_ok
    | with_reducible apply State.setVst_ok
    | with_reducible apply State.ok_ite
    | split
    | with_reducible apply State.setBank_ok'
    | with_reducible exact rfl
    | with_reducible refine State.ok_mk ?_ ?_ ?_ ?_ ?_
    | exact rfl
    | (simp only [State.ev_valve, State.ev_fab, State.submit_valve]; done)

theorem State.valveStart_ok {qs : List Instr} {s : State} (ok : s.Ok qs) (v id : Nat) (cont : Bool) (hold : Nat) :
    (s.valveStart v id cont hold).Ok qs := by
  unfold State.valveStart
  try dsimp only
  repeat' first
    | with_reducible exact ok
    | with_reducible assumption
    | with_reducible exact rfl
    | with_reducible apply State.cqPush_ok
    | with_reducible apply State.newProfile_ok
    | with_reducible apply State.setChan_ok
    | with_reducible apply State.put_ok
    | with_reducible apply State.putB_ok
    | with_reducible apply State.ok_ite
    | split
    | with_reducible refine State.ok_mk ?_ ?_ ?_ ?_ ?_
    | exact rfl
    | (simp only [State.ev_valve, State.ev_fab, State.submit_valve]; done)

theorem State.cancelPrearm_ok {qs : List Instr} {s : State} (ok : s.Ok qs) (v status reason : Nat) :
    (s.cancelPrearm v status reason).Ok qs := by
  unfold State.cancelPrearm
  try dsimp only
  repeat' first
    | with_reducible exact ok
    | with_reducible assumption
    | with_reducible exact rfl
    | with_reducible apply State.cqPush_ok
    | with_reducible apply State.setChan_ok
    | with_reducible apply State.tableIn_ok
    | with_reducible apply State.setVst_ok
    | with_reducible apply State.hsPut_ok
    | with_reducible apply State.serve_ok
    | with_reducible apply State.stageStart_ok
    | with_reducible apply State.inc_ok
    | with_reducible apply State.ok_ite
    | split
    | with_reducible refine State.ok_mk ?_ ?_ ?_ ?_ ?_
    | exact rfl
    | (simp only [State.ev_valve, State.ev_fab, State.submit_valve]; done)

theorem State.valveStop_ok {qs : List Instr} {s : State} (ok : s.Ok qs) (v id : Nat) :
    (s.valveStop v id).Ok qs := by
  unfold State.valveStop
  try dsimp only
  repeat' first
    | with_reducible exact ok
    | with_reducible assumption
    | with_reducible apply State.unqueue_ok
    | with_reducible apply State.serve_ok
    | with_reducible apply State.cancelPrearm_ok
    | with_reducible apply State.release_ok
    | with_reducible apply State.cqPush_ok
    | with_reducible apply State.ok_ite
    | split

theorem State.prearmEnd_ok {qs : List Instr} {s : State} (ok : s.Ok qs) (v : Nat) :
    (s.prearmEnd v).Ok qs := by
  unfold State.prearmEnd
  try dsimp only
  repeat' first
    | with_reducible exact ok
    | with_reducible assumption
    | with_reducible apply State.riseStart_ok
    | with_reducible apply State.release_ok
    | with_reducible apply State.ok_ite
    | split

theorem State.peakReached_ok {qs : List Instr} {s : State} (ok : s.Ok qs) (v : Nat) (samples : List Nat) :
    (s.peakReached v samples).Ok qs := by
  unfold State.peakReached
  try dsimp only
  repeat' first
    | with_reducible exact ok
    | with_reducible assumption
    | with_reducible exact rfl
    | with_reducible apply State.closeWindow_ok
    | with_reducible apply State.setChan_ok
    | with_reducible apply State.setVst_ok
    | with_reducible apply State.ok_ite
    | split
    | with_reducible refine State.ok_mk ?_ ?_ ?_ ?_ ?_
    | exact rfl
    | (simp only [State.ev_valve, State.ev_fab, State.submit_valve]; done)

theorem State.holdStart_ok {qs : List Instr} {s : State} (ok : s.Ok qs) (v : Nat) :
    (s.holdStart v).Ok qs := by
  unfold State.holdStart
  try dsimp only
  repeat' first
    | with_reducible exact ok
    | with_reducible assumption
    | with_reducible exact rfl
    | with_reducible apply State.setChan_ok
    | with_reducible apply State.setVst_ok
    | with_reducible apply State.verdictRecord_ok
    | with_reducible apply State.serve_ok
    | with_reducible apply State.release_ok
    | with_reducible apply State.ok_ite
    | split
    | with_reducible refine State.ok_mk ?_ ?_ ?_ ?_ ?_
    | exact rfl
    | (simp only [State.ev_valve, State.ev_fab, State.submit_valve]; done)

theorem State.peakLow_ok {qs : List Instr} {s : State} (ok : s.Ok qs) (v hi : Nat) :
    (s.peakLow v hi).Ok qs := by
  unfold State.peakLow
  try dsimp only
  repeat' first
    | with_reducible exact ok
    | with_reducible assumption
    | with_reducible apply State.putB_ok
    | with_reducible apply State.vev_ok
    | with_reducible apply State.ok_ite
    | split

theorem State.peakTimeEnd_ok {qs : List Instr} {s : State} (ok : s.Ok qs) (v : Nat) (samples : List Nat) :
    (s.peakTimeEnd v samples).Ok qs := by
  unfold State.peakTimeEnd
  try dsimp only
  repeat' first
    | with_reducible exact ok
    | with_reducible assumption
    | with_reducible apply State.closeWindow_ok
    | with_reducible apply State.peakLow_ok
    | with_reducible apply State.faultVerdict_ok
    | with_reducible apply State.holdStart_ok
    | with_reducible refine State.foldl_ok (fun _ _ _ => ?_) _ ?_
    | with_reducible refine State.foldl_fst_ok (fun _ _ _ => ?_) _ ?_
    | with_reducible apply State.ok_ite
    | split

theorem State.holdFinish_ok {qs : List Instr} {s : State} (ok : s.Ok qs) (v : Nat) :
    (s.holdFinish v).Ok qs := by
  unfold State.holdFinish
  try dsimp only
  repeat' first
    | with_reducible exact ok
    | with_reducible assumption
    | with_reducible apply State.release_ok
    | with_reducible apply State.ok_ite
    | split

theorem State.clearFault_ok {qs : List Instr} {s : State} (ok : s.Ok qs) (v why : Nat) :
    (s.clearFault v why).Ok qs := by
  unfold State.clearFault
  try dsimp only
  repeat' first
    | with_reducible exact ok
    | with_reducible assumption
    | with_reducible apply State.put_ok
    | with_reducible apply State.vev_ok
    | with_reducible apply State.setVst_ok
    | with_reducible apply State.stageStart_ok
    | with_reducible apply State.ok_ite
    | split

theorem State.releaseDone_ok {qs : List Instr} {s : State} (ok : s.Ok qs) (v : Nat) :
    (s.releaseDone v).Ok qs := by
  unfold State.releaseDone
  try dsimp only
  repeat' first
    | with_reducible exact ok
    | with_reducible assumption
    | with_reducible exact rfl
    | with_reducible apply State.setChan_ok
    | with_reducible apply State.relItemEnd_ok
    | with_reducible apply State.vfault_ok
    | with_reducible apply State.setVst_ok
    | with_reducible apply State.stageStart_ok
    | with_reducible apply State.clearFault_ok
    | with_reducible apply State.ok_ite
    | split
    | with_reducible refine State.ok_mk ?_ ?_ ?_ ?_ ?_
    | exact rfl
    | (simp only [State.ev_valve, State.ev_fab, State.submit_valve]; done)

theorem State.shortTrip_ok {qs : List Instr} {s : State} (ok : s.Ok qs) (v : Nat) :
    (s.shortTrip v).Ok qs := by
  unfold State.shortTrip
  try dsimp only
  repeat' first
    | with_reducible exact ok
    | with_reducible assumption
    | with_reducible apply State.faultVerdict_ok
    | with_reducible apply State.ok_ite
    | split

theorem State.deferTimeout_ok {qs : List Instr} {s : State} (ok : s.Ok qs) (v : Nat) :
    (s.deferTimeout v).Ok qs := by
  unfold State.deferTimeout
  try dsimp only
  repeat' first
    | with_reducible exact ok
    | with_reducible assumption
    | with_reducible apply State.serve_ok
    | with_reducible apply State.vev_ok
    | with_reducible apply State.unqueue_ok
    | with_reducible apply State.ok_ite
    | split

theorem State.probeStart_ok {qs : List Instr} {s : State} (ok : s.Ok qs) (v : Nat) :
    (s.probeStart v).Ok qs := by
  unfold State.probeStart
  try dsimp only
  repeat' first
    | with_reducible exact ok
    | with_reducible assumption
    | with_reducible apply State.putB_ok
    | with_reducible apply State.ok_ite
    | split

theorem State.stuckVerdict_ok {qs : List Instr} {s : State} (ok : s.Ok qs) (v rm : Nat) :
    (s.stuckVerdict v rm).Ok qs := by
  unfold State.stuckVerdict
  try dsimp only
  repeat' first
    | with_reducible exact ok
    | with_reducible assumption
    | with_reducible exact rfl
    | with_reducible apply State.verdictRecord_ok
    | with_reducible apply State.setChan_ok
    | with_reducible apply State.put_ok
    | with_reducible refine State.ok_mk ?_ ?_ ?_ ?_ ?_
    | exact rfl
    | (simp only [State.ev_valve, State.ev_fab, State.submit_valve]; done)

theorem State.probeDone_ok {qs : List Instr} {s : State} (ok : s.Ok qs) (v dMin : Nat) (p : ProbeMean) (im mv : Nat) :
    (s.probeDone v dMin p im mv).Ok qs := by
  unfold State.probeDone
  try dsimp only
  repeat' first
    | with_reducible exact ok
    | with_reducible assumption
    | with_reducible exact rfl
    | with_reducible apply State.putB_ok
    | with_reducible apply State.setChan_ok
    | with_reducible apply State.took_ok
    | with_reducible apply State.verdictRecord_ok
    | with_reducible apply State.release_ok
    | with_reducible apply State.cqPush_ok
    | with_reducible apply State.stuckVerdict_ok
    | with_reducible apply State.faultVerdict_ok
    | with_reducible apply State.ok_ite
    | split
    | with_reducible refine State.ok_mk ?_ ?_ ?_ ?_ ?_
    | exact rfl
    | (simp only [State.ev_valve, State.ev_fab, State.submit_valve]; done)

theorem State.dutyJudge_ok {qs : List Instr} {s : State} (ok : s.Ok qs) (v : Nat) :
    (s.dutyJudge v).Ok qs := by
  unfold State.dutyJudge
  try dsimp only
  repeat' first
    | with_reducible exact ok
    | with_reducible assumption
    | with_reducible apply State.put_ok
    | with_reducible apply State.putB_ok
    | with_reducible apply State.vev_ok
    | with_reducible apply State.bankShow_ok
    | with_reducible apply State.release_ok
    | with_reducible apply State.ok_ite
    | split

theorem State.dutyInterval_ok {qs : List Instr} {s : State} (ok : s.Ok qs) (v : Nat) :
    (s.dutyInterval v).Ok qs := by
  unfold State.dutyInterval
  try dsimp only
  repeat' first
    | with_reducible exact ok
    | with_reducible assumption
    | with_reducible exact rfl
    | with_reducible apply State.setChan_ok
    | with_reducible apply State.dutyJudge_ok
    | with_reducible apply State.ok_ite
    | split
    | with_reducible refine State.ok_mk ?_ ?_ ?_ ?_ ?_
    | exact rfl
    | (simp only [State.ev_valve, State.ev_fab, State.submit_valve]; done)

theorem State.settle_ok {qs : List Instr} {s : State} (ok : s.Ok qs) (v cancel fail : Nat) :
    (s.settle v cancel fail).Ok qs := by
  unfold State.settle
  try dsimp only
  repeat' first
    | with_reducible exact ok
    | with_reducible assumption
    | with_reducible apply State.unqueue_ok
    | with_reducible apply State.cancelPrearm_ok
    | with_reducible apply State.release_ok
    | with_reducible apply State.ok_ite
    | split

theorem State.settleBank_ok {qs : List Instr} {s : State} (ok : s.Ok qs) (b cancel fail : Nat) :
    (s.settleBank b cancel fail).Ok qs := by
  unfold State.settleBank
  try dsimp only
  repeat' first
    | with_reducible exact ok
    | with_reducible assumption
    | with_reducible apply State.unqueue_ok
    | with_reducible apply State.settle_ok
    | with_reducible apply State.hsPut_ok
    | with_reducible apply State.bankShow_ok
    | with_reducible refine State.each_ok ?_ _ (fun _ _ _ => ?_)

theorem State.cutBanks_ok {qs : List Instr} {s : State} (ok : s.Ok qs) (banks : List Nat) (fail : Nat) :
    (s.cutBanks banks fail).Ok qs := by
  unfold State.cutBanks
  try dsimp only
  repeat' first
    | with_reducible exact ok
    | with_reducible assumption
    | with_reducible apply State.settleBank_ok
    | with_reducible refine State.each_ok ?_ _ (fun _ _ _ => ?_)

theorem State.channelOff_ok {qs : List Instr} {s : State} (ok : s.Ok qs) (v : Nat) :
    (s.channelOff v).Ok qs := by
  unfold State.channelOff
  try dsimp only
  repeat' first
    | with_reducible exact ok
    | with_reducible assumption
    | with_reducible apply State.setVst_ok
    | with_reducible apply State.settle_ok
    | with_reducible apply State.ok_ite
    | split

theorem State.channelOn_ok {qs : List Instr} {s : State} (ok : s.Ok qs) (v : Nat) :
    (s.channelOn v).Ok qs := by
  unfold State.channelOn
  try dsimp only
  repeat' first
    | with_reducible exact ok
    | with_reducible assumption
    | with_reducible apply State.setVst_ok
    | with_reducible apply State.stageStart_ok
    | with_reducible apply State.ok_ite
    | split

theorem State.bankDisable_ok {qs : List Instr} {s : State} (ok : s.Ok qs) (b : Nat) :
    (s.bankDisable b).Ok qs := by
  unfold State.bankDisable
  try dsimp only
  repeat' first
    | with_reducible exact ok
    | with_reducible assumption
    | with_reducible apply State.putB_ok
    | with_reducible apply State.settleBank_ok
    | with_reducible apply State.channelOff_ok
    | with_reducible apply State.ev_ok
    | with_reducible refine State.each_ok ?_ _ (fun _ _ _ => ?_)

theorem State.bankEnable_ok {qs : List Instr} {s : State} (ok : s.Ok qs) (b : Nat) :
    (s.bankEnable b).Ok qs := by
  unfold State.bankEnable
  try dsimp only
  repeat' first
    | with_reducible exact ok
    | with_reducible assumption
    | with_reducible apply State.putB_ok
    | with_reducible apply State.setVst_ok
    | with_reducible apply State.channelOn_ok
    | with_reducible apply State.bankShow_ok
    | with_reducible apply State.ev_ok
    | with_reducible refine State.each_ok ?_ _ (fun _ _ _ => ?_)
    | with_reducible apply State.ok_ite
    | split

theorem State.channelDisable_ok {qs : List Instr} {s : State} (ok : s.Ok qs) (v : Nat) :
    (s.channelDisable v).Ok qs := by
  unfold State.channelDisable
  try dsimp only
  repeat' first
    | with_reducible exact ok
    | with_reducible assumption
    | with_reducible exact rfl
    | with_reducible apply State.setChan_ok
    | with_reducible apply State.channelOff_ok
    | with_reducible apply State.serve_ok
    | with_reducible apply State.ev_ok
    | with_reducible refine State.ok_mk ?_ ?_ ?_ ?_ ?_
    | exact rfl
    | (simp only [State.ev_valve, State.ev_fab, State.submit_valve]; done)

theorem State.channelEnable_ok {qs : List Instr} {s : State} (ok : s.Ok qs) (v : Nat) :
    (s.channelEnable v).Ok qs := by
  unfold State.channelEnable
  try dsimp only
  repeat' first
    | with_reducible exact ok
    | with_reducible assumption
    | with_reducible exact rfl
    | with_reducible apply State.setChan_ok
    | with_reducible apply State.channelOn_ok
    | with_reducible apply State.ev_ok
    | with_reducible apply State.ok_ite
    | split
    | with_reducible refine State.ok_mk ?_ ?_ ?_ ?_ ?_
    | exact rfl
    | (simp only [State.ev_valve, State.ev_fab, State.submit_valve]; done)

theorem State.valveFence_ok {qs : List Instr} {s : State} (ok : s.Ok qs) (v : Nat) :
    (s.valveFence v).Ok qs := by
  unfold State.valveFence
  try dsimp only
  repeat' first
    | with_reducible exact ok
    | with_reducible assumption
    | with_reducible apply State.unqueue_ok
    | with_reducible apply State.cancelPrearm_ok
    | with_reducible apply State.release_ok
    | with_reducible apply State.vfault_ok
    | with_reducible apply State.vev_ok
    | with_reducible apply State.serve_ok
    | with_reducible apply State.ok_ite
    | split

theorem State.stageAverages_ok {qs : List Instr} {s : State} (ok : s.Ok qs) (c60 c1 : List ChopRun) (h60 h1 : List HsRun) (b : Nat) :
    (s.stageAverages c60 c1 h60 h1 b).Ok qs := by
  unfold State.stageAverages
  try dsimp only
  repeat' first
    | with_reducible exact ok
    | with_reducible assumption
    | with_reducible apply State.took_ok
    | with_reducible apply State.put_ok

theorem State.stageBudget_ok {qs : List Instr} {s : State} (ok : s.Ok qs) (die : Nat) (c60 c1 : List ChopRun) (h60 h1 : List HsRun) :
    (s.stageBudget die c60 c1 h60 h1).Ok qs := by
  unfold State.stageBudget
  try dsimp only
  repeat' first
    | with_reducible exact ok
    | with_reducible assumption
    | with_reducible exact rfl
    | with_reducible apply State.stageAverages_ok
    | with_reducible apply State.ev_ok
    | with_reducible refine State.each_ok ?_ _ (fun _ _ _ => ?_)
    | with_reducible refine State.foldl_ok (fun _ _ _ => ?_) _ ?_
    | with_reducible refine State.foldl_fst_ok (fun _ _ _ => ?_) _ ?_
    | with_reducible apply State.ok_ite
    | split
    | with_reducible refine State.ok_mk ?_ ?_ ?_ ?_ ?_
    | exact rfl
    | (simp only [State.ev_valve, State.ev_fab, State.submit_valve]; done)

end Sys2Proof.Machine
end

