-- ==== Sys2Proof/Laws/GoodFan.lean ====
section
/-! SUPPORT. What FanOps defines keeps the queue of waiting commands, the canonical form of the register table and
the capacities of the queues (`State.Ok`). -/

namespace Sys2Proof.Machine

set_option linter.unusedTactic false
set_option linter.unreachableTactic false

open Reg

theorem State.setFan_ok {qs : List Instr} {s : State} (ok : s.Ok qs) (f : Nat) (x : Fan) :
    (s.setFan f x).Ok qs := by
  unfold State.setFan
  try dsimp only
  repeat' first
    | with_reducible exact ok
    | with_reducible assumption
    | with_reducible exact rfl
    | with_reducible refine State.ok_mk ?_ ?_ ?_ ?_ ?_
    | exact rfl
    | (simp only [State.ev_valve, State.ev_fab, State.submit_valve]; done)

theorem State.setFst_ok {qs : List Instr} {s : State} (ok : s.Ok qs) (f n : Nat) :
    (s.setFst f n).Ok qs := by
  unfold State.setFst
  try dsimp only
  repeat' first
    | with_reducible exact ok
    | with_reducible assumption
    | with_reducible apply State.put_ok

theorem State.fev_ok {qs : List Instr} {s : State} (ok : s.Ok qs) (f code : Nat) (p1 : Nat) (p2 : Nat) :
    (s.fev f code p1 p2).Ok qs := by
  unfold State.fev
  try dsimp only
  repeat' first
    | with_reducible exact ok
    | with_reducible assumption
    | with_reducible apply State.ev_ok

theorem State.fanForceShow_ok {qs : List Instr} {s : State} (ok : s.Ok qs) (f : Nat) :
    (s.fanForceShow f).Ok qs := by
  unfold State.fanForceShow
  try dsimp only
  repeat' first
    | with_reducible exact ok
    | with_reducible assumption
    | with_reducible apply State.put_ok
    | with_reducible apply State.ok_ite
    | split

theorem State.fanNoWindow_ok {qs : List Instr} {s : State} (ok : s.Ok qs) (f : Nat) :
    (s.fanNoWindow f).Ok qs := by
  unfold State.fanNoWindow
  try dsimp only
  repeat' first
    | with_reducible exact ok
    | with_reducible assumption
    | with_reducible exact rfl
    | with_reducible apply State.setFan_ok
    | with_reducible refine State.ok_mk ?_ ?_ ?_ ?_ ?_
    | exact rfl
    | (simp only [State.ev_valve, State.ev_fab, State.submit_valve]; done)

theorem State.fanStop_ok {qs : List Instr} {s : State} (ok : s.Ok qs) (f : Nat) :
    (s.fanStop f).Ok qs := by
  unfold State.fanStop
  try dsimp only
  repeat' first
    | with_reducible exact ok
    | with_reducible assumption
    | with_reducible apply State.fanNoWindow_ok
    | with_reducible apply State.setFst_ok
    | with_reducible apply State.put_ok

theorem State.fanSupplied_ok {qs : List Instr} {s : State} (ok : s.Ok qs) (f : Nat) :
    (s.fanSupplied f).Ok qs := by
  unfold State.fanSupplied
  try dsimp only
  repeat' first
    | with_reducible exact ok
    | with_reducible assumption
    | with_reducible apply State.setFst_ok
    | with_reducible apply State.put_ok
    | with_reducible apply State.ok_ite
    | split

theorem State.fanPeriodOn_ok {qs : List Instr} {s : State} (ok : s.Ok qs) (f : Nat) :
    (s.fanPeriodOn f).Ok qs := by
  unfold State.fanPeriodOn
  try dsimp only
  repeat' first
    | with_reducible exact ok
    | with_reducible assumption
    | with_reducible apply State.fanForceShow_ok
    | with_reducible apply State.put_ok
    | with_reducible apply State.fanStop_ok
    | with_reducible apply State.setFst_ok
    | with_reducible apply State.ok_ite
    | split

theorem State.fanPeriod_ok {qs : List Instr} {s : State} (ok : s.Ok qs) (f : Nat) :
    (s.fanPeriod f).Ok qs := by
  unfold State.fanPeriod
  try dsimp only
  repeat' first
    | with_reducible exact ok
    | with_reducible assumption
    | with_reducible apply State.fanSupplied_ok
    | with_reducible apply State.fanPeriodOn_ok
    | with_reducible apply State.ok_ite
    | split

theorem State.fansCut_ok {qs : List Instr} {s : State} (ok : s.Ok qs) :
    (s.fansCut).Ok qs := by
  unfold State.fansCut
  try dsimp only
  repeat' first
    | with_reducible exact ok
    | with_reducible assumption
    | with_reducible apply State.fanPeriod_ok
    | with_reducible refine State.each_ok ?_ _ (fun _ _ _ => ?_)

theorem State.fanStarted_ok {qs : List Instr} {s : State} (ok : s.Ok qs) (f : Nat) :
    (s.fanStarted f).Ok qs := by
  unfold State.fanStarted
  try dsimp only
  repeat' first
    | with_reducible exact ok
    | with_reducible assumption
    | with_reducible apply State.setFst_ok
    | with_reducible apply State.ok_ite
    | split

theorem State.fanWindow_ok {qs : List Instr} {s : State} (ok : s.Ok qs) (f : Nat) :
    (s.fanWindow f).Ok qs := by
  unfold State.fanWindow
  try dsimp only
  repeat' first
    | with_reducible exact ok
    | with_reducible assumption
    | with_reducible exact rfl
    | with_reducible apply State.setFan_ok
    | with_reducible apply State.ok_ite
    | split
    | with_reducible refine State.ok_mk ?_ ?_ ?_ ?_ ?_
    | exact rfl
    | (simp only [State.ev_valve, State.ev_fab, State.submit_valve]; done)

theorem State.tachEdge_ok {qs : List Instr} {s : State} (ok : s.Ok qs) (f dur t : Nat) :
    (s.tachEdge f dur t).Ok qs := by
  unfold State.tachEdge
  try dsimp only
  repeat' first
    | with_reducible exact ok
    | with_reducible assumption
    | with_reducible exact rfl
    | with_reducible apply State.setFan_ok
    | with_reducible apply State.ok_ite
    | split
    | with_reducible refine State.ok_mk ?_ ?_ ?_ ?_ ?_
    | exact rfl
    | (simp only [State.ev_valve, State.ev_fab, State.submit_valve]; done)

theorem State.fanOffRun_ok {qs : List Instr} {s : State} (ok : s.Ok qs) (f st : Nat) :
    (s.fanOffRun f st).Ok qs := by
  unfold State.fanOffRun
  try dsimp only
  repeat' first
    | with_reducible exact ok
    | with_reducible assumption
    | with_reducible apply State.fanNoWindow_ok
    | with_reducible apply State.setFst_ok
    | with_reducible apply State.fanForceShow_ok
    | with_reducible apply State.put_ok

theorem State.fanRunBegin_ok {qs : List Instr} {s : State} (ok : s.Ok qs) (f kind : Nat) :
    (s.fanRunBegin f kind).Ok qs := by
  unfold State.fanRunBegin
  try dsimp only
  repeat' first
    | with_reducible exact ok
    | with_reducible assumption
    | with_reducible exact rfl
    | with_reducible apply State.setFan_ok
    | with_reducible refine State.ok_mk ?_ ?_ ?_ ?_ ?_
    | exact rfl
    | (simp only [State.ev_valve, State.ev_fab, State.submit_valve]; done)

theorem State.fanLoopReset_ok {qs : List Instr} {s : State} (ok : s.Ok qs) (f : Nat) :
    (s.fanLoopReset f).Ok qs := by
  unfold State.fanLoopReset
  try dsimp only
  repeat' first
    | with_reducible exact ok
    | with_reducible assumption
    | with_reducible exact rfl
    | with_reducible apply State.setFan_ok
    | with_reducible refine State.ok_mk ?_ ?_ ?_ ?_ ?_
    | exact rfl
    | (simp only [State.ev_valve, State.ev_fab, State.submit_valve]; done)

theorem State.fanTablesLoad_ok {qs : List Instr} {s : State} (ok : s.Ok qs) (f : Nat) :
    (s.fanTablesLoad f).Ok qs := by
  unfold State.fanTablesLoad
  try dsimp only
  repeat' first
    | with_reducible exact ok
    | with_reducible assumption
    | with_reducible exact rfl
    | with_reducible apply State.fanLoopReset_ok
    | with_reducible apply State.setFan_ok
    | with_reducible apply State.ok_ite
    | split
    | with_reducible refine State.ok_mk ?_ ?_ ?_ ?_ ?_
    | exact rfl
    | (simp only [State.ev_valve, State.ev_fab, State.submit_valve]; done)

theorem State.fanRunEnd_ok {qs : List Instr} {s : State} (ok : s.Ok qs) (f : Nat) :
    (s.fanRunEnd f).Ok qs := by
  unfold State.fanRunEnd
  try dsimp only
  repeat' first
    | with_reducible exact ok
    | with_reducible assumption
    | with_reducible exact rfl
    | with_reducible apply State.store_ok
    | with_reducible apply State.setFan_ok
    | with_reducible apply State.fanLoopReset_ok
    | with_reducible refine State.foldl_ok (fun _ _ _ => ?_) _ ?_
    | with_reducible refine State.foldl_fst_ok (fun _ _ _ => ?_) _ ?_
    | with_reducible apply State.ok_ite
    | split
    | with_reducible refine State.ok_mk ?_ ?_ ?_ ?_ ?_
    | exact rfl
    | (simp only [State.ev_valve, State.ev_fab, State.submit_valve]; done)

theorem State.fanMean_ok {qs : List Instr} {s : State} (ok : s.Ok qs) (samples : List Nat) :
    (s.fanMean samples).2.Ok qs := by
  unfold State.fanMean
  try dsimp only
  repeat' first
    | with_reducible exact ok
    | with_reducible assumption
    | with_reducible apply State.took_ok

theorem State.fanShow_ok {qs : List Instr} {s : State} (ok : s.Ok qs) (f ppr : Nat) (edges : List Nat) (ima : Nat) :
    (s.fanShow f ppr edges ima).Ok qs := by
  unfold State.fanShow
  try dsimp only
  repeat' first
    | with_reducible exact ok
    | with_reducible assumption
    | with_reducible exact rfl
    | with_reducible apply State.put_ok
    | with_reducible apply State.took_ok
    | with_reducible apply State.setFan_ok
    | split
    | with_reducible refine State.ok_mk ?_ ?_ ?_ ?_ ?_
    | exact rfl
    | (simp only [State.ev_valve, State.ev_fab, State.submit_valve]; done)

theorem State.fanJudge_ok {qs : List Instr} {s : State} (ok : s.Ok qs) (f : Nat) (v : Verdict) (ima dips : Nat) :
    (s.fanJudge f v ima dips).Ok qs := by
  unfold State.fanJudge
  try dsimp only
  repeat' first
    | with_reducible exact ok
    | with_reducible assumption
    | with_reducible apply State.fev_ok
    | with_reducible apply State.setFst_ok
    | with_reducible apply State.putB_ok
    | with_reducible apply State.inc_ok
    | with_reducible apply State.fanRunBegin_ok
    | with_reducible apply State.fanOffRun_ok
    | with_reducible apply State.ok_ite
    | split

theorem State.fanWindowEnd_ok {qs : List Instr} {s : State} (ok : s.Ok qs) (f : Nat) (samples : List Nat) (us : Nat) :
    (s.fanWindowEnd f samples us).Ok qs := by
  unfold State.fanWindowEnd
  try dsimp only
  repeat' first
    | with_reducible exact ok
    | with_reducible assumption
    | with_reducible apply State.fanMean_ok
    | with_reducible apply State.fanShow_ok
    | with_reducible apply State.fanNoWindow_ok
    | with_reducible apply State.fanJudge_ok
    | with_reducible apply State.ok_ite
    | split

theorem State.fanRetry_ok {qs : List Instr} {s : State} (ok : s.Ok qs) (f : Nat) :
    (s.fanRetry f).Ok qs := by
  unfold State.fanRetry
  try dsimp only
  repeat' first
    | with_reducible exact ok
    | with_reducible assumption
    | with_reducible exact rfl
    | with_reducible apply State.setFan_ok
    | with_reducible apply State.inc_ok
    | with_reducible apply State.setFst_ok
    | with_reducible apply State.fanForceShow_ok
    | with_reducible apply State.put_ok
    | with_reducible apply State.ok_ite
    | split
    | with_reducible refine State.ok_mk ?_ ?_ ?_ ?_ ?_
    | exact rfl
    | (simp only [State.ev_valve, State.ev_fab, State.submit_valve]; done)

theorem State.fanBurstEnd_ok {qs : List Instr} {s : State} (ok : s.Ok qs) (f : Nat) (levels : List TachLevel) (samples : List Nat) (ms : Nat) :
    (s.fanBurstEnd f levels samples ms).Ok qs := by
  unfold State.fanBurstEnd
  try dsimp only
  repeat' first
    | with_reducible exact ok
    | with_reducible assumption
    | with_reducible apply State.fanMean_ok
    | with_reducible apply State.fanShow_ok
    | with_reducible apply State.putB_ok
    | with_reducible apply State.fanOffRun_ok
    | with_reducible apply State.fanRunEnd_ok
    | with_reducible apply State.setFst_ok
    | with_reducible apply State.fanJudge_ok
    | with_reducible apply State.fev_ok
    | with_reducible apply State.ok_ite
    | split

theorem State.fanShort_ok {qs : List Instr} {s : State} (ok : s.Ok qs) (f : Nat) :
    (s.fanShort f).Ok qs := by
  unfold State.fanShort
  try dsimp only
  repeat' first
    | with_reducible exact ok
    | with_reducible assumption
    | with_reducible exact rfl
    | with_reducible apply State.putB_ok
    | with_reducible apply State.fanRunBegin_ok
    | with_reducible apply State.fev_ok
    | with_reducible apply State.setFan_ok
    | with_reducible apply State.fanOffRun_ok
    | with_reducible apply State.ok_ite
    | split
    | with_reducible refine State.ok_mk ?_ ?_ ?_ ?_ ?_
    | exact rfl
    | (simp only [State.ev_valve, State.ev_fab, State.submit_valve]; done)

theorem State.fansSupply_ok {qs : List Instr} {s : State} (ok : s.Ok qs) (good : Bool) :
    (s.fansSupply good).Ok qs := by
  unfold State.fansSupply
  try dsimp only
  repeat' first
    | with_reducible exact ok
    | with_reducible assumption
    | with_reducible apply State.fanSupplied_ok
    | with_reducible apply State.fanNoWindow_ok
    | with_reducible apply State.fanRunEnd_ok
    | with_reducible apply State.setFst_ok
    | with_reducible refine State.each_ok ?_ _ (fun _ _ _ => ?_)
    | with_reducible apply State.ok_ite
    | split

theorem State.fanFence_ok {qs : List Instr} {s : State} (ok : s.Ok qs) (f : Nat) :
    (s.fanFence f).Ok qs := by
  unfold State.fanFence
  try dsimp only
  repeat' first
    | with_reducible exact ok
    | with_reducible assumption
    | with_reducible apply State.fanNoWindow_ok
    | with_reducible apply State.fanRunEnd_ok
    | with_reducible apply State.fanPeriod_ok

theorem State.fanStale_ok {qs : List Instr} {s : State} (ok : s.Ok qs) (f : Nat) (stale : Bool) :
    (s.fanStale f stale).Ok qs := by
  unfold State.fanStale
  try dsimp only
  repeat' first
    | with_reducible exact ok
    | with_reducible assumption
    | with_reducible apply State.putB_ok
    | with_reducible apply State.fev_ok
    | with_reducible apply State.ok_ite
    | split

theorem State.fanTick_ok {qs : List Instr} {s : State} (ok : s.Ok qs) (f : Nat) :
    (s.fanTick f).Ok qs := by
  unfold State.fanTick
  try dsimp only
  repeat' first
    | with_reducible exact ok
    | with_reducible assumption
    | with_reducible exact rfl
    | with_reducible apply State.fanStale_ok
    | with_reducible apply State.setFan_ok
    | with_reducible apply State.tookN_ok
    | with_reducible apply State.ok_ite
    | split
    | with_reducible refine State.ok_mk ?_ ?_ ?_ ?_ ?_
    | exact rfl
    | (simp only [State.ev_valve, State.ev_fab, State.submit_valve]; done)

theorem State.fanInputStale_ok {qs : List Instr} {s : State} (ok : s.Ok qs) (f : Nat) :
    (s.fanInputStale f).Ok qs := by
  unfold State.fanInputStale
  try dsimp only
  repeat' first
    | with_reducible exact ok
    | with_reducible assumption
    | with_reducible exact rfl
    | with_reducible apply State.setFan_ok
    | with_reducible apply State.fanStale_ok
    | with_reducible apply State.ok_ite
    | split
    | with_reducible refine State.ok_mk ?_ ?_ ?_ ?_ ?_
    | exact rfl
    | (simp only [State.ev_valve, State.ev_fab, State.submit_valve]; done)

end Sys2Proof.Machine
end

