-- ==== Sys2Proof/Laws/GoodField.lean ====
section
/-! SUPPORT. What FieldOps defines keeps the queue of waiting commands, the canonical form of the register table and
the capacities of the queues (`State.Ok`). -/

namespace Sys2Proof.Machine

set_option linter.unusedTactic false
set_option linter.unreachableTactic false

open Reg

theorem State.setFin_ok {qs : List Instr} {s : State} (ok : s.Ok qs) (i : Nat) (x : FieldIn) :
    (s.setFin i x).Ok qs := by
  unfold State.setFin
  try dsimp only
  repeat' first
    | with_reducible exact ok
    | with_reducible assumption
    | with_reducible exact rfl
    | with_reducible refine State.ok_mk ?_ ?_ ?_ ?_ ?_
    | exact rfl
    | (simp only [State.ev_valve, State.ev_fab, State.submit_valve]; done)

theorem State.fev7_ok {qs : List Instr} {s : State} (ok : s.Ok qs) (code i : Nat) (p1 : Nat) (p2 : Nat) :
    (s.fev7 code i p1 p2).Ok qs := by
  unfold State.fev7
  try dsimp only
  repeat' first
    | with_reducible exact ok
    | with_reducible assumption
    | with_reducible apply State.ev_ok

theorem State.fieldSettled_ok {qs : List Instr} {s : State} (ok : s.Ok qs) (i : Nat) :
    (s.fieldSettled i).Ok qs := by
  unfold State.fieldSettled
  try dsimp only
  repeat' first
    | with_reducible exact ok
    | with_reducible assumption
    | with_reducible exact rfl
    | with_reducible apply State.setFin_ok
    | with_reducible apply State.settle_ok
    | with_reducible apply State.putB_ok
    | with_reducible refine State.ok_mk ?_ ?_ ?_ ?_ ?_
    | exact rfl
    | (simp only [State.ev_valve, State.ev_fab, State.submit_valve]; done)

theorem State.fieldSettle_ok {qs : List Instr} {s : State} (ok : s.Ok qs) (i : Nat) :
    (s.fieldSettle i).Ok qs := by
  unfold State.fieldSettle
  try dsimp only
  repeat' first
    | with_reducible exact ok
    | with_reducible assumption
    | with_reducible exact rfl
    | with_reducible apply State.fieldSettled_ok
    | with_reducible apply State.setFin_ok
    | with_reducible apply State.settle_ok
    | with_reducible apply State.putB_ok
    | with_reducible apply State.ok_ite
    | split
    | with_reducible refine State.ok_mk ?_ ?_ ?_ ?_ ?_
    | exact rfl
    | (simp only [State.ev_valve, State.ev_fab, State.submit_valve]; done)

theorem State.fieldPublish_ok {qs : List Instr} {s : State} (ok : s.Ok qs) (i : Nat) (valid : Bool) (sigma : F32) (t : Nat) :
    (s.fieldPublish i valid sigma t).Ok qs := by
  unfold State.fieldPublish
  try dsimp only
  repeat' first
    | with_reducible exact ok
    | with_reducible assumption
    | with_reducible apply State.publish_ok
    | with_reducible refine State.each_ok ?_ _ (fun _ _ _ => ?_)
    | with_reducible apply State.ok_ite
    | split

theorem State.fieldForward_ok {qs : List Instr} {s : State} (ok : s.Ok qs) (i : Nat) (sigma : F32) (t : Nat) :
    (s.fieldForward i sigma t).Ok qs := by
  unfold State.fieldForward
  try dsimp only
  repeat' first
    | with_reducible exact ok
    | with_reducible assumption
    | with_reducible apply State.forward_ok

theorem State.fieldChange_ok {qs : List Instr} {s : State} (ok : s.Ok qs) (i : Nat) :
    (s.fieldChange i).Ok qs := by
  unfold State.fieldChange
  try dsimp only
  repeat' first
    | with_reducible exact ok
    | with_reducible assumption
    | with_reducible apply State.fieldPublish_ok
    | with_reducible apply State.fieldSettle_ok
    | with_reducible apply State.setReg_ok
    | with_reducible apply State.ok_ite
    | split

theorem State.fieldBroken_ok {qs : List Instr} {s : State} (ok : s.Ok qs) (i : Nat) :
    (s.fieldBroken i).Ok qs := by
  unfold State.fieldBroken
  try dsimp only
  repeat' first
    | with_reducible exact ok
    | with_reducible assumption
    | with_reducible apply State.putB_ok
    | with_reducible apply State.setReg_ok
    | with_reducible apply State.fev7_ok

theorem State.fieldTempSource_ok {qs : List Instr} {s : State} (ok : s.Ok qs) (i t : Nat) :
    (s.fieldTempSource i t).Ok qs := by
  unfold State.fieldTempSource
  try dsimp only
  repeat' first
    | with_reducible exact ok
    | with_reducible assumption
    | with_reducible apply State.putB_ok
    | with_reducible apply State.fev7_ok
    | with_reducible apply State.ok_ite
    | split

theorem State.fieldSample_ok {qs : List Instr} {s : State} (ok : s.Ok qs) (i : Nat) (raw : Int) (y : List F32) (t : Nat) :
    (s.fieldSample i raw y t).Ok qs := by
  unfold State.fieldSample
  try dsimp only
  repeat' first
    | with_reducible exact ok
    | with_reducible assumption
    | with_reducible exact rfl
    | with_reducible apply State.fieldTempSource_ok
    | with_reducible apply State.inc_ok
    | with_reducible apply State.setReg_ok
    | with_reducible apply State.setFin_ok
    | with_reducible apply State.settle_ok
    | with_reducible apply State.putB_ok
    | with_reducible apply State.fieldBroken_ok
    | with_reducible apply State.fev7_ok
    | with_reducible apply State.fieldPublish_ok
    | with_reducible apply State.fieldForward_ok
    | with_reducible apply State.ok_ite
    | split
    | with_reducible refine State.ok_mk ?_ ?_ ?_ ?_ ?_
    | exact rfl
    | (simp only [State.ev_valve, State.ev_fab, State.submit_valve]; done)

theorem State.shuntOverload_ok {qs : List Instr} {s : State} (ok : s.Ok qs) (i : Nat) :
    (s.shuntOverload i).Ok qs := by
  unfold State.shuntOverload
  try dsimp only
  repeat' first
    | with_reducible exact ok
    | with_reducible assumption
    | with_reducible exact rfl
    | with_reducible apply State.setFin_ok
    | with_reducible apply State.putB_ok
    | with_reducible apply State.fev7_ok
    | with_reducible apply State.ok_ite
    | split
    | with_reducible refine State.ok_mk ?_ ?_ ?_ ?_ ?_
    | exact rfl
    | (simp only [State.ev_valve, State.ev_fab, State.submit_valve]; done)

theorem State.shuntReclose_ok {qs : List Instr} {s : State} (ok : s.Ok qs) (i : Nat) :
    (s.shuntReclose i).Ok qs := by
  unfold State.shuntReclose
  try dsimp only
  repeat' first
    | with_reducible exact ok
    | with_reducible assumption
    | with_reducible exact rfl
    | with_reducible apply State.setFin_ok
    | with_reducible apply State.fieldSettle_ok
    | with_reducible apply State.ok_ite
    | split
    | with_reducible refine State.ok_mk ?_ ?_ ?_ ?_ ?_
    | exact rfl
    | (simp only [State.ev_valve, State.ev_fab, State.submit_valve]; done)

theorem State.fieldTested_ok {qs : List Instr} {s : State} (ok : s.Ok qs) (i : Nat) (lasting : Bool) :
    (s.fieldTested i lasting).Ok qs := by
  unfold State.fieldTested
  try dsimp only
  repeat' first
    | with_reducible exact ok
    | with_reducible assumption
    | with_reducible apply State.putB_ok
    | with_reducible apply State.fieldSettled_ok
    | with_reducible apply State.setReg_ok
    | with_reducible apply State.fev7_ok
    | with_reducible apply State.fieldPublish_ok
    | with_reducible apply State.fieldSettle_ok
    | with_reducible apply State.ok_ite
    | split

theorem State.aoPut_ok {qs : List Instr} {s : State} (ok : s.Ok qs) (n src slot code : Nat) :
    (s.aoPut n src slot code).Ok qs := by
  unfold State.aoPut
  try dsimp only
  repeat' first
    | with_reducible exact ok
    | with_reducible assumption
    | with_reducible apply State.put_ok

theorem State.aoIdle_ok {qs : List Instr} {s : State} (ok : s.Ok qs) (n : Nat) :
    (s.aoIdle n).Ok qs := by
  unfold State.aoIdle
  try dsimp only
  repeat' first
    | with_reducible exact ok
    | with_reducible assumption
    | with_reducible apply State.aoPut_ok
    | with_reducible apply State.ok_ite
    | split

theorem State.aoStart_ok {qs : List Instr} {s : State} (ok : s.Ok qs) :
    (s.aoStart).Ok qs := by
  unfold State.aoStart
  try dsimp only
  repeat' first
    | with_reducible exact ok
    | with_reducible assumption
    | with_reducible apply State.aoIdle_ok
    | with_reducible refine State.each_ok ?_ _ (fun _ _ _ => ?_)
    | with_reducible apply State.ok_ite
    | split

theorem State.aoSafe_ok {qs : List Instr} {s : State} (ok : s.Ok qs) :
    (s.aoSafe).Ok qs := by
  unfold State.aoSafe
  try dsimp only
  repeat' first
    | with_reducible exact ok
    | with_reducible assumption
    | with_reducible apply State.aoPut_ok
    | with_reducible apply State.putB_ok
    | with_reducible refine State.each_ok ?_ _ (fun _ _ _ => ?_)

theorem State.aoSlot_ok {qs : List Instr} {s : State} (ok : s.Ok qs) (n slot : Nat) (u : F32) :
    (s.aoSlot n slot u).Ok qs := by
  unfold State.aoSlot
  try dsimp only
  repeat' first
    | with_reducible exact ok
    | with_reducible assumption
    | with_reducible apply State.aoPut_ok
    | with_reducible apply State.ok_ite
    | split

theorem State.aoMonitor_ok {qs : List Instr} {s : State} (ok : s.Ok qs) (n : Nat) (v : F32) :
    (s.aoMonitor n v).Ok qs := by
  unfold State.aoMonitor
  try dsimp only
  repeat' first
    | with_reducible exact ok
    | with_reducible assumption
    | with_reducible exact rfl
    | with_reducible apply State.setReg_ok
    | with_reducible apply State.ok_ite
    | split
    | with_reducible refine State.ok_mk ?_ ?_ ?_ ?_ ?_
    | exact rfl
    | (simp only [State.ev_valve, State.ev_fab, State.submit_valve]; done)

theorem State.aoFaultEnter_ok {qs : List Instr} {s : State} (ok : s.Ok qs) (n : Nat) :
    (s.aoFaultEnter n).Ok qs := by
  unfold State.aoFaultEnter
  try dsimp only
  repeat' first
    | with_reducible exact ok
    | with_reducible assumption
    | with_reducible apply State.incSat_ok
    | with_reducible apply State.putB_ok
    | with_reducible apply State.ev_ok
    | with_reducible apply State.ok_ite
    | split

theorem State.aoFaultOff_ok {qs : List Instr} {s : State} (ok : s.Ok qs) (n : Nat) :
    (s.aoFaultOff n).Ok qs := by
  unfold State.aoFaultOff
  try dsimp only
  repeat' first
    | with_reducible exact ok
    | with_reducible assumption
    | with_reducible apply State.putB_ok
    | with_reducible apply State.ev_ok
    | with_reducible apply State.ok_ite
    | split

theorem State.aoFaultClear_ok {qs : List Instr} {s : State} (ok : s.Ok qs) (n : Nat) :
    (s.aoFaultClear n).Ok qs := by
  unfold State.aoFaultClear
  try dsimp only
  repeat' first
    | with_reducible exact ok
    | with_reducible assumption
    | with_reducible apply State.aoFaultOff_ok
    | with_reducible apply State.ok_ite
    | split

theorem State.aoFence_ok {qs : List Instr} {s : State} (ok : s.Ok qs) (n : Nat) :
    (s.aoFence n).Ok qs := by
  unfold State.aoFence
  try dsimp only
  repeat' first
    | with_reducible exact ok
    | with_reducible assumption
    | with_reducible apply State.aoFaultOff_ok
    | with_reducible apply State.setReg_ok

theorem State.setPin_ok {qs : List Instr} {s : State} (ok : s.Ok qs) (n : Nat) (x : Pulse) :
    (s.setPin n x).Ok qs := by
  unfold State.setPin
  try dsimp only
  repeat' first
    | with_reducible exact ok
    | with_reducible assumption
    | with_reducible exact rfl
    | with_reducible refine State.ok_mk ?_ ?_ ?_ ?_ ?_
    | exact rfl
    | (simp only [State.ev_valve, State.ev_fab, State.submit_valve]; done)

theorem State.pulseStart_ok {qs : List Instr} {s : State} (ok : s.Ok qs) (n : Nat) :
    (s.pulseStart n).Ok qs := by
  unfold State.pulseStart
  try dsimp only
  repeat' first
    | with_reducible exact ok
    | with_reducible assumption
    | with_reducible apply State.setPin_ok
    | with_reducible apply State.setReg_ok
    | with_reducible apply State.putB_ok

theorem State.pulseEdge_ok {qs : List Instr} {s : State} (ok : s.Ok qs) (n : Nat) (high : Bool) (dur at_ : Nat) :
    (s.pulseEdge n high dur at_).Ok qs := by
  unfold State.pulseEdge
  try dsimp only
  repeat' first
    | with_reducible exact ok
    | with_reducible assumption
    | with_reducible exact rfl
    | with_reducible apply State.setPin_ok
    | with_reducible apply State.inc_ok
    | with_reducible apply State.setReg_ok
    | with_reducible apply State.putB_ok
    | with_reducible apply State.ok_ite
    | split
    | with_reducible refine State.ok_mk ?_ ?_ ?_ ?_ ?_
    | exact rfl
    | (simp only [State.ev_valve, State.ev_fab, State.submit_valve]; done)

theorem State.pulseUpdate_ok {qs : List Instr} {s : State} (ok : s.Ok qs) (T n : Nat) :
    (s.pulseUpdate T n).Ok qs := by
  unfold State.pulseUpdate
  try dsimp only
  repeat' first
    | with_reducible exact ok
    | with_reducible assumption
    | with_reducible exact rfl
    | with_reducible apply State.setPin_ok
    | with_reducible apply State.setReg_ok
    | with_reducible apply State.putB_ok
    | with_reducible apply State.ok_ite
    | split
    | with_reducible refine State.ok_mk ?_ ?_ ?_ ?_ ?_
    | exact rfl
    | (simp only [State.ev_valve, State.ev_fab, State.submit_valve]; done)

theorem State.pulseTimeout_ok {qs : List Instr} {s : State} (ok : s.Ok qs) (n : Nat) :
    (s.pulseTimeout n).Ok qs := by
  unfold State.pulseTimeout
  try dsimp only
  repeat' first
    | with_reducible exact ok
    | with_reducible assumption
    | with_reducible apply State.setReg_ok
    | with_reducible apply State.putB_ok
    | with_reducible apply State.ok_ite
    | split

theorem State.pulseMinute_ok {qs : List Instr} {s : State} (ok : s.Ok qs) (n : Nat) :
    (s.pulseMinute n).Ok qs := by
  unfold State.pulseMinute
  try dsimp only
  repeat' first
    | with_reducible exact ok
    | with_reducible assumption
    | with_reducible exact rfl
    | with_reducible apply State.setPin_ok
    | with_reducible apply State.ev_ok
    | with_reducible apply State.ok_ite
    | split
    | with_reducible refine State.ok_mk ?_ ?_ ?_ ?_ ?_
    | exact rfl
    | (simp only [State.ev_valve, State.ev_fab, State.submit_valve]; done)

end Sys2Proof.Machine
end

