-- ==== Sys2Proof/Laws/GoodTime.lean ====
section
/-! SUPPORT. What TimeOps defines keeps the queue of waiting commands, the canonical form of the register table and
the capacities of the queues (`State.Ok`). -/

namespace Sys2Proof.Machine

set_option linter.unusedTactic false
set_option linter.unreachableTactic false

open Reg

theorem State.timeMark_ok {qs : List Instr} {s : State} (ok : s.Ok qs) :
    (s.timeMark).Ok qs := by
  unfold State.timeMark
  try dsimp only
  repeat' first
    | with_reducible exact ok
    | with_reducible assumption
    | with_reducible apply State.ev_ok
    | with_reducible apply State.ok_ite
    | split

theorem State.timeEnter_ok {qs : List Instr} {s : State} (ok : s.Ok qs) (n : Nat) :
    (s.timeEnter n).Ok qs := by
  unfold State.timeEnter
  try dsimp only
  repeat' first
    | with_reducible exact ok
    | with_reducible assumption
    | with_reducible exact rfl
    | with_reducible apply State.put_ok
    | with_reducible apply State.timeMark_ok
    | with_reducible apply State.ok_ite
    | split
    | with_reducible refine State.ok_mk ?_ ?_ ?_ ?_ ?_
    | exact rfl
    | (simp only [State.ev_valve, State.ev_fab, State.submit_valve]; done)

theorem State.setTrim_ok {qs : List Instr} {s : State} (ok : s.Ok qs) (v : Int) :
    (s.setTrim v).Ok qs := by
  unfold State.setTrim
  try dsimp only
  repeat' first
    | with_reducible exact ok
    | with_reducible assumption
    | with_reducible exact rfl
    | with_reducible apply State.put_ok
    | with_reducible refine State.ok_mk ?_ ?_ ?_ ?_ ?_
    | exact rfl
    | (simp only [State.ev_valve, State.ev_fab, State.submit_valve]; done)

theorem State.slewBy_ok {qs : List Instr} {s : State} (ok : s.Ok qs) (ns : Int) :
    (s.slewBy ns).Ok qs := by
  unfold State.slewBy
  try dsimp only
  repeat' first
    | with_reducible exact ok
    | with_reducible assumption
    | with_reducible exact rfl
    | with_reducible apply State.putB_ok
    | with_reducible apply State.setTrim_ok
    | with_reducible refine State.ok_mk ?_ ?_ ?_ ?_ ?_
    | exact rfl
    | (simp only [State.ev_valve, State.ev_fab, State.submit_valve]; done)

theorem State.servoHold_ok {qs : List Instr} {s : State} (ok : s.Ok qs) :
    (s.servoHold).Ok qs := by
  unfold State.servoHold
  try dsimp only
  repeat' first
    | with_reducible exact ok
    | with_reducible assumption
    | with_reducible exact rfl
    | with_reducible apply State.slewBy_ok
    | with_reducible apply State.took_ok
    | with_reducible apply State.ok_ite
    | split
    | with_reducible refine State.ok_mk ?_ ?_ ?_ ?_ ?_
    | exact rfl
    | (simp only [State.ev_valve, State.ev_fab, State.submit_valve]; done)

theorem State.stepDecide_ok {qs : List Instr} {s : State} (ok : s.Ok qs) (off : Int) :
    (s.stepDecide off).Ok qs := by
  unfold State.stepDecide
  try dsimp only
  repeat' first
    | with_reducible exact ok
    | with_reducible assumption
    | with_reducible exact rfl
    | with_reducible apply State.slewBy_ok
    | with_reducible apply State.ok_ite
    | split
    | with_reducible refine State.ok_mk ?_ ?_ ?_ ?_ ?_
    | exact rfl
    | (simp only [State.ev_valve, State.ev_fab, State.submit_valve]; done)

theorem State.offsetFound_ok {qs : List Instr} {s : State} (ok : s.Ok qs) (off : Int) :
    (s.offsetFound off).Ok qs := by
  unfold State.offsetFound
  try dsimp only
  repeat' first
    | with_reducible exact ok
    | with_reducible assumption
    | with_reducible apply State.stepDecide_ok
    | with_reducible apply State.slewBy_ok
    | with_reducible apply State.ok_ite
    | split

theorem State.servoTrim_ok {qs : List Instr} {s : State} (ok : s.Ok qs) :
    (s.servoTrim).Ok qs := by
  unfold State.servoTrim
  try dsimp only
  repeat' first
    | with_reducible exact ok
    | with_reducible assumption
    | with_reducible exact rfl
    | with_reducible apply State.setTrim_ok
    | with_reducible apply State.took_ok
    | with_reducible refine State.ok_mk ?_ ?_ ?_ ?_ ?_
    | exact rfl
    | (simp only [State.ev_valve, State.ev_fab, State.submit_valve]; done)

theorem State.gnssStamp_ok {qs : List Instr} {s : State} (ok : s.Ok qs) (off : Int) :
    (s.gnssStamp off).Ok qs := by
  unfold State.gnssStamp
  try dsimp only
  repeat' first
    | with_reducible exact ok
    | with_reducible assumption
    | with_reducible exact rfl
    | with_reducible apply State.put_ok
    | with_reducible refine State.ok_mk ?_ ?_ ?_ ?_ ?_
    | exact rfl
    | (simp only [State.ev_valve, State.ev_fab, State.submit_valve]; done)

theorem State.gnssSecond_ok {qs : List Instr} {s : State} (ok : s.Ok qs) (off : Int) :
    (s.gnssSecond off).Ok qs := by
  unfold State.gnssSecond
  try dsimp only
  repeat' first
    | with_reducible exact ok
    | with_reducible assumption
    | with_reducible exact rfl
    | with_reducible apply State.gnssStamp_ok
    | with_reducible apply State.timeEnter_ok
    | with_reducible apply State.offsetFound_ok
    | with_reducible apply State.servoTrim_ok
    | with_reducible apply State.ok_ite
    | split
    | with_reducible refine State.ok_mk ?_ ?_ ?_ ?_ ?_
    | exact rfl
    | (simp only [State.ev_valve, State.ev_fab, State.submit_valve]; done)

theorem State.ppsEdge_ok {qs : List Instr} {s : State} (ok : s.Ok qs) (falling : Bool) (t : Nat) :
    (s.ppsEdge falling t).Ok qs := by
  unfold State.ppsEdge
  try dsimp only
  repeat' first
    | with_reducible exact ok
    | with_reducible assumption
    | with_reducible exact rfl
    | with_reducible apply State.putB_ok
    | with_reducible apply State.ok_ite
    | split
    | with_reducible refine State.ok_mk ?_ ?_ ?_ ?_ ?_
    | exact rfl
    | (simp only [State.ev_valve, State.ev_fab, State.submit_valve]; done)

theorem State.leapApply_ok {qs : List Instr} {s : State} (ok : s.Ok qs) (d : Int) :
    (s.leapApply d).Ok qs := by
  unfold State.leapApply
  try dsimp only
  repeat' first
    | with_reducible exact ok
    | with_reducible assumption
    | with_reducible apply State.put_ok
    | with_reducible apply State.putB_ok
    | with_reducible apply State.ev_ok

theorem State.nmeaBad_ok {qs : List Instr} {s : State} (ok : s.Ok qs) :
    (s.nmeaBad).Ok qs := by
  unfold State.nmeaBad
  try dsimp only
  repeat' first
    | with_reducible exact ok
    | with_reducible assumption
    | with_reducible exact rfl
    | with_reducible apply State.putB_ok
    | with_reducible refine State.ok_mk ?_ ?_ ?_ ?_ ?_
    | exact rfl
    | (simp only [State.ev_valve, State.ev_fab, State.submit_valve]; done)

theorem State.nmeaSentence_ok {qs : List Instr} {s : State} (ok : s.Ok qs) (text : List Byte) (t : Nat) :
    (s.nmeaSentence text t).Ok qs := by
  unfold State.nmeaSentence
  try dsimp only
  repeat' first
    | with_reducible exact ok
    | with_reducible assumption
    | with_reducible exact rfl
    | with_reducible apply State.nmeaBad_ok
    | with_reducible apply State.leapApply_ok
    | with_reducible apply State.putB_ok
    | with_reducible apply State.gnssSecond_ok
    | with_reducible apply State.ok_ite
    | split
    | with_reducible refine State.ok_mk ?_ ?_ ?_ ?_ ?_
    | exact rfl
    | (simp only [State.ev_valve, State.ev_fab, State.submit_valve]; done)

theorem State.gnssLost_ok {qs : List Instr} {s : State} (ok : s.Ok qs) :
    (s.gnssLost).Ok qs := by
  unfold State.gnssLost
  try dsimp only
  repeat' first
    | with_reducible exact ok
    | with_reducible assumption
    | with_reducible exact rfl
    | with_reducible apply State.putB_ok
    | with_reducible apply State.servoHold_ok
    | with_reducible apply State.timeEnter_ok
    | with_reducible apply State.ok_ite
    | split
    | with_reducible refine State.ok_mk ?_ ?_ ?_ ?_ ?_
    | exact rfl
    | (simp only [State.ev_valve, State.ev_fab, State.submit_valve]; done)

theorem State.holdoverExpire_ok {qs : List Instr} {s : State} (ok : s.Ok qs) :
    (s.holdoverExpire).Ok qs := by
  unfold State.holdoverExpire
  try dsimp only
  repeat' first
    | with_reducible exact ok
    | with_reducible assumption
    | with_reducible apply State.timeEnter_ok
    | with_reducible apply State.ok_ite
    | split

theorem State.gnssMinute_ok {qs : List Instr} {s : State} (ok : s.Ok qs) :
    (s.gnssMinute).Ok qs := by
  unfold State.gnssMinute
  try dsimp only
  repeat' first
    | with_reducible exact ok
    | with_reducible assumption
    | with_reducible exact rfl
    | with_reducible apply State.ev_ok
    | with_reducible apply State.ok_ite
    | split
    | with_reducible refine State.ok_mk ?_ ?_ ?_ ?_ ?_
    | exact rfl
    | (simp only [State.ev_valve, State.ev_fab, State.submit_valve]; done)

theorem State.gnssReset_ok {qs : List Instr} {s : State} (ok : s.Ok qs) :
    (s.gnssReset).Ok qs := by
  unfold State.gnssReset
  try dsimp only
  repeat' first
    | with_reducible exact ok
    | with_reducible assumption
    | with_reducible exact rfl
    | with_reducible apply State.ev_ok
    | with_reducible apply State.send_ok
    | with_reducible apply State.ok_ite
    | split
    | with_reducible refine State.ok_mk ?_ ?_ ?_ ?_ ?_
    | exact rfl
    | (simp only [State.ev_valve, State.ev_fab, State.submit_valve]; done)

theorem State.gnssRelease_ok {qs : List Instr} {s : State} (ok : s.Ok qs) :
    (s.gnssRelease).Ok qs := by
  unfold State.gnssRelease
  try dsimp only
  repeat' first
    | with_reducible exact ok
    | with_reducible assumption
    | with_reducible exact rfl
    | with_reducible apply State.send_ok
    | with_reducible apply State.ok_ite
    | split
    | with_reducible refine State.ok_mk ?_ ?_ ?_ ?_ ?_
    | exact rfl
    | (simp only [State.ev_valve, State.ev_fab, State.submit_valve]; done)

theorem State.gnssSetup_ok {qs : List Instr} {s : State} (ok : s.Ok qs) :
    (s.gnssSetup).Ok qs := by
  unfold State.gnssSetup
  try dsimp only
  repeat' first
    | with_reducible exact ok
    | with_reducible assumption
    | with_reducible apply State.send_ok
    | with_reducible apply State.ok_ite
    | split

theorem State.sprinGrid_ok {qs : List Instr} {s : State} (ok : s.Ok qs) (p : Nat) :
    (s.sprinGrid p).Ok qs := by
  unfold State.sprinGrid
  try dsimp only
  repeat' first
    | with_reducible exact ok
    | with_reducible assumption
    | with_reducible exact rfl
    | with_reducible refine State.ok_mk ?_ ?_ ?_ ?_ ?_
    | exact rfl
    | (simp only [State.ev_valve, State.ev_fab, State.submit_valve]; done)

theorem State.timeStep_ok {qs : List Instr} {s : State} (ok : s.Ok qs) :
    (s.timeStep).Ok qs := by
  unfold State.timeStep
  try dsimp only
  repeat' first
    | with_reducible exact ok
    | with_reducible assumption
    | with_reducible exact rfl
    | with_reducible apply State.sprinGrid_ok
    | with_reducible apply State.putB_ok
    | with_reducible apply State.ev_ok
    | with_reducible refine State.each_ok ?_ _ (fun _ _ _ => ?_)
    | with_reducible refine State.foldl_ok (fun _ _ _ => ?_) _ ?_
    | with_reducible refine State.foldl_fst_ok (fun _ _ _ => ?_) _ ?_
    | with_reducible apply State.ok_ite
    | split
    | with_reducible refine State.ok_mk ?_ ?_ ?_ ?_ ?_
    | exact rfl
    | (simp only [State.ev_valve, State.ev_fab, State.submit_valve]; done)

theorem State.slewDone_ok {qs : List Instr} {s : State} (ok : s.Ok qs) :
    (s.slewDone).Ok qs := by
  unfold State.slewDone
  try dsimp only
  repeat' first
    | with_reducible exact ok
    | with_reducible assumption
    | with_reducible apply State.slewBy_ok
    | with_reducible apply State.ok_ite
    | split

theorem State.timeSet_ok {qs : List Instr} {s : State} (ok : s.Ok qs) (target now : Nat) :
    (s.timeSet target now).Ok qs := by
  unfold State.timeSet
  try dsimp only
  repeat' first
    | with_reducible exact ok
    | with_reducible assumption
    | with_reducible exact rfl
    | with_reducible apply State.put_ok
    | with_reducible apply State.stepDecide_ok
    | with_reducible refine State.ok_mk ?_ ?_ ?_ ?_ ?_
    | exact rfl
    | (simp only [State.ev_valve, State.ev_fab, State.submit_valve]; done)

theorem State.timeBroadcast_ok {qs : List Instr} {s : State} (ok : s.Ok qs) :
    (s.timeBroadcast).Ok qs := by
  unfold State.timeBroadcast
  try dsimp only
  repeat' first
    | with_reducible exact ok
    | with_reducible assumption
    | with_reducible exact rfl
    | with_reducible apply State.ok_ite
    | split
    | with_reducible refine State.ok_mk ?_ ?_ ?_ ?_ ?_
    | exact rfl
    | (simp only [State.ev_valve, State.ev_fab, State.submit_valve]; done)

theorem State.ppsFall_ok {qs : List Instr} {s : State} (ok : s.Ok qs) :
    (s.ppsFall).Ok qs := by
  unfold State.ppsFall
  try dsimp only
  repeat' first
    | with_reducible exact ok
    | with_reducible assumption
    | with_reducible exact rfl
    | with_reducible apply State.send_ok
    | with_reducible apply State.ok_ite
    | split
    | with_reducible refine State.ok_mk ?_ ?_ ?_ ?_ ?_
    | exact rfl
    | (simp only [State.ev_valve, State.ev_fab, State.submit_valve]; done)

theorem State.timeTick_ok {qs : List Instr} {s : State} (ok : s.Ok qs) :
    (s.timeTick).Ok qs := by
  unfold State.timeTick
  try dsimp only
  repeat' first
    | with_reducible exact ok
    | with_reducible assumption
    | with_reducible exact rfl
    | with_reducible apply State.ppsFall_ok
    | with_reducible apply State.ok_ite
    | split
    | with_reducible refine State.ok_mk ?_ ?_ ?_ ?_ ?_
    | exact rfl
    | (simp only [State.ev_valve, State.ev_fab, State.submit_valve]; done)

theorem State.ppsOut_ok {qs : List Instr} {s : State} (ok : s.Ok qs) :
    (s.ppsOut).Ok qs := by
  unfold State.ppsOut
  try dsimp only
  repeat' first
    | with_reducible exact ok
    | with_reducible assumption
    | with_reducible exact rfl
    | with_reducible apply State.send_ok
    | with_reducible apply State.ok_ite
    | split
    | with_reducible refine State.ok_mk ?_ ?_ ?_ ?_ ?_
    | exact rfl
    | (simp only [State.ev_valve, State.ev_fab, State.submit_valve]; done)

theorem State.setPtp_ok {qs : List Instr} {s : State} (ok : s.Ok qs) (n : Nat) (p : PtpPort) :
    (s.setPtp n p).Ok qs := by
  unfold State.setPtp
  try dsimp only
  repeat' first
    | with_reducible exact ok
    | with_reducible assumption
    | with_reducible exact rfl
    | with_reducible refine State.ok_mk ?_ ?_ ?_ ?_ ?_
    | exact rfl
    | (simp only [State.ev_valve, State.ev_fab, State.submit_valve]; done)

theorem State.ptpAnnounce_ok {qs : List Instr} {s : State} (ok : s.Ok qs) (n : Nat) :
    (s.ptpAnnounce n).Ok qs := by
  unfold State.ptpAnnounce
  try dsimp only
  repeat' first
    | with_reducible exact ok
    | with_reducible assumption
    | with_reducible exact rfl
    | with_reducible apply State.setPtp_ok
    | with_reducible apply State.put_ok
    | with_reducible apply State.send_ok
    | with_reducible apply State.ok_ite
    | split
    | with_reducible refine State.ok_mk ?_ ?_ ?_ ?_ ?_
    | exact rfl
    | (simp only [State.ev_valve, State.ev_fab, State.submit_valve]; done)

theorem State.ptpSync_ok {qs : List Instr} {s : State} (ok : s.Ok qs) (n : Nat) :
    (s.ptpSync n).Ok qs := by
  unfold State.ptpSync
  try dsimp only
  repeat' first
    | with_reducible exact ok
    | with_reducible assumption
    | with_reducible exact rfl
    | with_reducible apply State.setPtp_ok
    | with_reducible apply State.send_ok
    | with_reducible apply State.ok_ite
    | split
    | with_reducible refine State.ok_mk ?_ ?_ ?_ ?_ ?_
    | exact rfl
    | (simp only [State.ev_valve, State.ev_fab, State.submit_valve]; done)

theorem State.ptpDelayReq_ok {qs : List Instr} {s : State} (ok : s.Ok qs) (n seq t : Nat) :
    (s.ptpDelayReq n seq t).Ok qs := by
  unfold State.ptpDelayReq
  try dsimp only
  repeat' first
    | with_reducible exact ok
    | with_reducible assumption
    | with_reducible exact rfl
    | with_reducible apply State.inc_ok
    | with_reducible apply State.send_ok
    | with_reducible apply State.ok_ite
    | split
    | with_reducible refine State.ok_mk ?_ ?_ ?_ ?_ ?_
    | exact rfl
    | (simp only [State.ev_valve, State.ev_fab, State.submit_valve]; done)

theorem State.ptpForeign_ok {qs : List Instr} {s : State} (ok : s.Ok qs) (n domain : Nat) (ds : List Nat) :
    (s.ptpForeign n domain ds).Ok qs := by
  unfold State.ptpForeign
  try dsimp only
  repeat' first
    | with_reducible exact ok
    | with_reducible assumption
    | with_reducible apply State.put_ok
    | with_reducible apply State.ev_ok
    | with_reducible apply State.ok_ite
    | split

theorem State.ptpSet_ok {qs : List Instr} {s : State} (ok : s.Ok qs) (n : Nat) :
    (s.ptpSet n).Ok qs := by
  unfold State.ptpSet
  try dsimp only
  repeat' first
    | with_reducible exact ok
    | with_reducible assumption
    | with_reducible apply State.put_ok
    | with_reducible apply State.ok_ite
    | split

theorem State.ptpTimeout_ok {qs : List Instr} {s : State} (ok : s.Ok qs) (n : Nat) :
    (s.ptpTimeout n).Ok qs := by
  unfold State.ptpTimeout
  try dsimp only
  repeat' first
    | with_reducible exact ok
    | with_reducible assumption
    | with_reducible apply State.put_ok
    | with_reducible apply State.ok_ite
    | split

end Sys2Proof.Machine
end

