-- ==== Sys2Proof/Laws/GoodSprin.lean ====
section
/-! SUPPORT. What SprinOps defines keeps the queue of waiting commands, the canonical form of the register table and
the capacities of the queues (`State.Ok`). -/

namespace Sys2Proof.Machine

set_option linter.unusedTactic false
set_option linter.unreachableTactic false

open Reg

theorem State.setPort_ok {qs : List Instr} {s : State} (ok : s.Ok qs) (p : Nat) (x : SprinPort) :
    (s.setPort p x).Ok qs := by
  unfold State.setPort
  try dsimp only
  repeat' first
    | with_reducible exact ok
    | with_reducible assumption
    | with_reducible exact rfl
    | with_reducible refine State.ok_mk ?_ ?_ ?_ ?_ ?_
    | exact rfl
    | (simp only [State.ev_valve, State.ev_fab, State.submit_valve]; done)

theorem State.setPst_ok {qs : List Instr} {s : State} (ok : s.Ok qs) (p n : Nat) :
    (s.setPst p n).Ok qs := by
  unfold State.setPst
  try dsimp only
  repeat' first
    | with_reducible exact ok
    | with_reducible assumption
    | with_reducible apply State.put_ok

theorem State.pev_ok {qs : List Instr} {s : State} (ok : s.Ok qs) (p code : Nat) (p1 : Nat) (p2 : Nat) :
    (s.pev p code p1 p2).Ok qs := by
  unfold State.pev
  try dsimp only
  repeat' first
    | with_reducible exact ok
    | with_reducible assumption
    | with_reducible apply State.ev_ok

theorem State.setNode_ok {qs : List Instr} {s : State} (ok : s.Ok qs) (p a : Nat) (n : SprinNode) :
    (s.setNode p a n).Ok qs := by
  unfold State.setNode
  try dsimp only
  repeat' first
    | with_reducible exact ok
    | with_reducible assumption
    | with_reducible apply State.setPort_ok
    | with_reducible apply State.put_ok

theorem State.busSend_ok {qs : List Instr} {s : State} (ok : s.Ok qs) (p type addr : Nat) (payload : List Byte) (gap : Nat) :
    (s.busSend p type addr payload gap).Ok qs := by
  unfold State.busSend
  try dsimp only
  repeat' first
    | with_reducible exact ok
    | with_reducible assumption
    | with_reducible exact rfl
    | with_reducible apply State.setPort_ok
    | with_reducible apply State.send_ok
    | with_reducible refine State.ok_mk ?_ ?_ ?_ ?_ ?_
    | exact rfl
    | (simp only [State.ev_valve, State.ev_fab, State.submit_valve]; done)

theorem State.busAsk_ok {qs : List Instr} {s : State} (ok : s.Ok qs) (p type addr : Nat) (payload : List Byte) (w : BusWait) :
    (s.busAsk p type addr payload w).Ok qs := by
  unfold State.busAsk
  try dsimp only
  repeat' first
    | with_reducible exact ok
    | with_reducible assumption
    | with_reducible exact rfl
    | with_reducible apply State.busSend_ok
    | with_reducible apply State.setPort_ok
    | with_reducible refine State.ok_mk ?_ ?_ ?_ ?_ ?_
    | exact rfl
    | (simp only [State.ev_valve, State.ev_fab, State.submit_valve]; done)

theorem State.busTake_ok {qs : List Instr} {s : State} (ok : s.Ok qs) (p rtt halves : Nat) :
    (s.busTake p rtt halves).Ok qs := by
  unfold State.busTake
  try dsimp only
  repeat' first
    | with_reducible exact ok
    | with_reducible assumption
    | with_reducible exact rfl
    | with_reducible apply State.setPort_ok
    | with_reducible refine State.ok_mk ?_ ?_ ?_ ?_ ?_
    | exact rfl
    | (simp only [State.ev_valve, State.ev_fab, State.submit_valve]; done)

theorem State.lineError_ok {qs : List Instr} {s : State} (ok : s.Ok qs) (p reason : Nat) :
    (s.lineError p reason).Ok qs := by
  unfold State.lineError
  try dsimp only
  repeat' first
    | with_reducible exact ok
    | with_reducible assumption
    | with_reducible exact rfl
    | with_reducible apply State.inc_ok
    | with_reducible apply State.setPort_ok
    | with_reducible apply State.ok_ite
    | split
    | with_reducible refine State.ok_mk ?_ ?_ ?_ ?_ ?_
    | exact rfl
    | (simp only [State.ev_valve, State.ev_fab, State.submit_valve]; done)

theorem State.hostDone_ok {qs : List Instr} {s : State} (ok : s.Ok qs) (p st reason result : Nat) :
    (s.hostDone p st reason result).Ok qs := by
  unfold State.hostDone
  try dsimp only
  repeat' first
    | with_reducible exact ok
    | with_reducible assumption
    | with_reducible apply State.putB_ok
    | with_reducible apply State.put_ok
    | with_reducible apply State.ok_ite
    | split

theorem State.hostGo_ok {qs : List Instr} {s : State} (ok : s.Ok qs) (p : Nat) :
    (s.hostGo p).Ok qs := by
  unfold State.hostGo
  try dsimp only
  repeat' first
    | with_reducible exact ok
    | with_reducible assumption
    | with_reducible apply State.putB_ok
    | with_reducible apply State.hostDone_ok
    | with_reducible apply State.ok_ite
    | split

theorem State.searchStart_ok {qs : List Instr} {s : State} (ok : s.Ok qs) (p : Nat) :
    (s.searchStart p).Ok qs := by
  unfold State.searchStart
  try dsimp only
  repeat' first
    | with_reducible exact ok
    | with_reducible assumption
    | with_reducible exact rfl
    | with_reducible apply State.setPort_ok
    | with_reducible refine State.ok_mk ?_ ?_ ?_ ?_ ?_
    | exact rfl
    | (simp only [State.ev_valve, State.ev_fab, State.submit_valve]; done)

theorem State.searchEnd_ok {qs : List Instr} {s : State} (ok : s.Ok qs) (p : Nat) :
    (s.searchEnd p).Ok qs := by
  unfold State.searchEnd
  try dsimp only
  repeat' first
    | with_reducible exact ok
    | with_reducible assumption
    | with_reducible exact rfl
    | with_reducible apply State.setPort_ok
    | with_reducible apply State.setPst_ok
    | with_reducible apply State.pev_ok
    | with_reducible apply State.ok_ite
    | split
    | with_reducible refine State.ok_mk ?_ ?_ ?_ ?_ ?_
    | exact rfl
    | (simp only [State.ev_valve, State.ev_fab, State.submit_valve]; done)

theorem State.searchDo_ok {qs : List Instr} {s : State} (ok : s.Ok qs) (p : Nat) (d : SearchStep) :
    (s.searchDo p d).Ok qs := by
  unfold State.searchDo
  try dsimp only
  repeat' first
    | with_reducible exact ok
    | with_reducible assumption
    | with_reducible exact rfl
    | with_reducible apply State.setPort_ok
    | split
    | with_reducible refine State.ok_mk ?_ ?_ ?_ ?_ ?_
    | exact rfl
    | (simp only [State.ev_valve, State.ev_fab, State.submit_valve]; done)

theorem State.assignFailed_ok {qs : List Instr} {s : State} (ok : s.Ok qs) (p : Nat) :
    (s.assignFailed p).Ok qs := by
  unfold State.assignFailed
  try dsimp only
  repeat' first
    | with_reducible exact ok
    | with_reducible assumption
    | with_reducible exact rfl
    | with_reducible apply State.setPort_ok
    | with_reducible apply State.pev_ok
    | with_reducible apply State.searchEnd_ok
    | with_reducible apply State.ok_ite
    | split
    | with_reducible refine State.ok_mk ?_ ?_ ?_ ?_ ?_
    | exact rfl
    | (simp only [State.ev_valve, State.ev_fab, State.submit_valve]; done)

theorem State.nodeAssigned_ok {qs : List Instr} {s : State} (ok : s.Ok qs) (p uid addr : Nat) :
    (s.nodeAssigned p uid addr).Ok qs := by
  unfold State.nodeAssigned
  try dsimp only
  repeat' first
    | with_reducible exact ok
    | with_reducible assumption
    | with_reducible exact rfl
    | with_reducible apply State.setNode_ok
    | with_reducible apply State.pev_ok
    | with_reducible apply State.searchDo_ok
    | with_reducible apply State.ok_ite
    | split
    | with_reducible refine State.ok_mk ?_ ?_ ?_ ?_ ?_
    | exact rfl
    | (simp only [State.ev_valve, State.ev_fab, State.submit_valve]; done)

theorem State.measured_ok {qs : List Instr} {s : State} (ok : s.Ok qs) (p addr : Nat) (got : List (Option Int)) (set : Nat) (d : Option Int) :
    (s.measured p addr got set d).Ok qs := by
  unfold State.measured
  try dsimp only
  repeat' first
    | with_reducible exact ok
    | with_reducible assumption
    | with_reducible exact rfl
    | with_reducible apply State.searchDo_ok
    | with_reducible apply State.took_ok
    | with_reducible apply State.setNode_ok
    | with_reducible apply State.pev_ok
    | with_reducible apply State.ok_ite
    | split
    | with_reducible refine State.ok_mk ?_ ?_ ?_ ?_ ?_
    | exact rfl
    | (simp only [State.ev_valve, State.ev_fab, State.submit_valve]; done)

theorem State.nodeSettled_ok {qs : List Instr} {s : State} (ok : s.Ok qs) (p addr : Nat) :
    (s.nodeSettled p addr).Ok qs := by
  unfold State.nodeSettled
  try dsimp only
  repeat' first
    | with_reducible exact ok
    | with_reducible assumption
    | with_reducible apply State.searchDo_ok
    | with_reducible apply State.putB_ok
    | with_reducible apply State.pev_ok
    | with_reducible apply State.ok_ite
    | split

theorem State.searchSend_ok {qs : List Instr} {s : State} (ok : s.Ok qs) (p : Nat) :
    (s.searchSend p).1.Ok qs := by
  unfold State.searchSend
  try dsimp only
  repeat' first
    | with_reducible exact ok
    | with_reducible assumption
    | with_reducible apply State.busSend_ok
    | with_reducible apply State.searchDo_ok
    | with_reducible apply State.busAsk_ok
    | with_reducible apply State.pev_ok
    | with_reducible apply State.searchEnd_ok
    | with_reducible apply State.ok_ite
    | split

theorem State.pollsEnd_ok {qs : List Instr} {s : State} (ok : s.Ok qs) (p : Nat) (l : List Nat) (st reason : Nat) :
    (s.pollsEnd p l st reason).Ok qs := by
  unfold State.pollsEnd
  try dsimp only
  repeat' first
    | with_reducible exact ok
    | with_reducible assumption
    | with_reducible exact rfl
    | with_reducible apply State.setPort_ok
    | with_reducible refine State.ok_mk ?_ ?_ ?_ ?_ ?_
    | exact rfl
    | (simp only [State.ev_valve, State.ev_fab, State.submit_valve]; done)

theorem State.pollsDefer_ok {qs : List Instr} {s : State} (ok : s.Ok qs) (p : Nat) (l : List Nat) :
    (s.pollsDefer p l).Ok qs := by
  unfold State.pollsDefer
  try dsimp only
  repeat' first
    | with_reducible exact ok
    | with_reducible assumption
    | with_reducible exact rfl
    | with_reducible apply State.setPort_ok
    | with_reducible apply State.pollsEnd_ok
    | with_reducible apply State.put_ok
    | with_reducible apply State.putB_ok
    | with_reducible apply State.ok_ite
    | split
    | with_reducible refine State.ok_mk ?_ ?_ ?_ ?_ ?_
    | exact rfl
    | (simp only [State.ev_valve, State.ev_fab, State.submit_valve]; done)

theorem State.cycleEnd_ok {qs : List Instr} {s : State} (ok : s.Ok qs) (p : Nat) :
    (s.cycleEnd p).Ok qs := by
  unfold State.cycleEnd
  try dsimp only
  repeat' first
    | with_reducible exact ok
    | with_reducible assumption
    | with_reducible exact rfl
    | with_reducible apply State.setPort_ok
    | with_reducible apply State.idle_ok
    | with_reducible apply State.put_ok
    | with_reducible apply State.ok_ite
    | split
    | with_reducible refine State.ok_mk ?_ ?_ ?_ ?_ ?_
    | exact rfl
    | (simp only [State.ev_valve, State.ev_fab, State.submit_valve]; done)

theorem State.busCalls_ok {qs : List Instr} {s : State} (ok : s.Ok qs) (p : Nat) :
    (s.busCalls p).Ok qs := by
  unfold State.busCalls
  try dsimp only
  repeat' first
    | with_reducible exact ok
    | with_reducible assumption
    | with_reducible exact rfl
    | with_reducible apply State.setPort_ok
    | with_reducible apply State.busAsk_ok
    | with_reducible apply State.cycleEnd_ok
    | with_reducible apply State.ok_ite
    | split
    | with_reducible refine State.ok_mk ?_ ?_ ?_ ?_ ?_
    | exact rfl
    | (simp only [State.ev_valve, State.ev_fab, State.submit_valve]; done)

theorem State.busPolls_ok {qs : List Instr} {s : State} (ok : s.Ok qs) (p : Nat) :
    (s.busPolls p).Ok qs := by
  unfold State.busPolls
  try dsimp only
  repeat' first
    | with_reducible exact ok
    | with_reducible assumption
    | with_reducible exact rfl
    | with_reducible apply State.busCalls_ok
    | with_reducible apply State.setPort_ok
    | with_reducible apply State.busAsk_ok
    | with_reducible apply State.pollsDefer_ok
    | with_reducible apply State.ok_ite
    | split
    | with_reducible refine State.ok_mk ?_ ?_ ?_ ?_ ?_
    | exact rfl
    | (simp only [State.ev_valve, State.ev_fab, State.submit_valve]; done)

theorem State.busSearch_ok {qs : List Instr} {s : State} (ok : s.Ok qs) (p : Nat) :
    (s.busSearch p).Ok qs := by
  unfold State.busSearch
  try dsimp only
  repeat' first
    | with_reducible exact ok
    | with_reducible assumption
    | with_reducible exact rfl
    | with_reducible apply State.busPolls_ok
    | with_reducible apply State.searchSend_ok
    | with_reducible apply State.setPort_ok
    | with_reducible apply State.busAsk_ok
    | with_reducible apply State.ok_ite
    | split
    | with_reducible refine State.ok_mk ?_ ?_ ?_ ?_ ?_
    | exact rfl
    | (simp only [State.ev_valve, State.ev_fab, State.submit_valve]; done)

theorem State.busHost_ok {qs : List Instr} {s : State} (ok : s.Ok qs) (p : Nat) :
    (s.busHost p).Ok qs := by
  unfold State.busHost
  try dsimp only
  repeat' first
    | with_reducible exact ok
    | with_reducible assumption
    | with_reducible exact rfl
    | with_reducible apply State.busSearch_ok
    | with_reducible apply State.setPort_ok
    | with_reducible apply State.hostDone_ok
    | with_reducible apply State.busAsk_ok
    | with_reducible apply State.ok_ite
    | split
    | with_reducible refine State.ok_mk ?_ ?_ ?_ ?_ ?_
    | exact rfl
    | (simp only [State.ev_valve, State.ev_fab, State.submit_valve]; done)

theorem State.busNext_ok {qs : List Instr} {s : State} (ok : s.Ok qs) (p : Nat) :
    (s.busNext p).Ok qs := by
  unfold State.busNext
  try dsimp only
  repeat' first
    | with_reducible exact ok
    | with_reducible assumption
    | with_reducible exact rfl
    | with_reducible apply State.setPort_ok
    | with_reducible apply State.idle_ok
    | with_reducible apply State.busAsk_ok
    | with_reducible apply State.busHost_ok
    | with_reducible apply State.ok_ite
    | split
    | with_reducible refine State.ok_mk ?_ ?_ ?_ ?_ ?_
    | exact rfl
    | (simp only [State.ev_valve, State.ev_fab, State.submit_valve]; done)

theorem State.nodePublish_ok {qs : List Instr} {s : State} (ok : s.Ok qs) (p a : Nat) (valid : Nat → Bool) (raw : Nat → Nat) (stamp : Nat) :
    (s.nodePublish p a valid raw stamp).Ok qs := by
  unfold State.nodePublish
  try dsimp only
  repeat' first
    | with_reducible exact ok
    | with_reducible assumption
    | with_reducible apply State.publish_ok
    | with_reducible refine State.each_ok ?_ _ (fun _ _ _ => ?_)

theorem State.nodeWithdraw_ok {qs : List Instr} {s : State} (ok : s.Ok qs) (p a : Nat) :
    (s.nodeWithdraw p a).Ok qs := by
  unfold State.nodeWithdraw
  try dsimp only
  repeat' first
    | with_reducible exact ok
    | with_reducible assumption
    | with_reducible apply State.nodePublish_ok

theorem State.nodeForward_ok {qs : List Instr} {s : State} (ok : s.Ok qs) (p a : Nat) (valid : Nat → Bool) (raw : Nat → Nat) (stamp : Nat) :
    (s.nodeForward p a valid raw stamp).Ok qs := by
  unfold State.nodeForward
  try dsimp only
  repeat' first
    | with_reducible exact ok
    | with_reducible assumption
    | with_reducible apply State.nodePublish_ok
    | with_reducible apply State.forward_ok
    | with_reducible refine State.each_ok ?_ _ (fun _ _ _ => ?_)
    | with_reducible apply State.ok_ite
    | split

theorem State.sprinFollow_ok {qs : List Instr} {s : State} (ok : s.Ok qs) (p : Nat) :
    (s.sprinFollow p).Ok qs := by
  unfold State.sprinFollow
  try dsimp only
  repeat' first
    | with_reducible exact ok
    | with_reducible assumption
    | with_reducible exact rfl
    | with_reducible apply State.setPort_ok
    | with_reducible apply State.pollsEnd_ok
    | with_reducible apply State.nodeWithdraw_ok
    | with_reducible refine State.each_ok ?_ _ (fun _ _ _ => ?_)
    | split
    | with_reducible refine State.ok_mk ?_ ?_ ?_ ?_ ?_
    | exact rfl
    | (simp only [State.ev_valve, State.ev_fab, State.submit_valve]; done)

theorem State.testSend_ok {qs : List Instr} {s : State} (ok : s.Ok qs) (p : Nat) :
    (s.testSend p).Ok qs := by
  unfold State.testSend
  try dsimp only
  repeat' first
    | with_reducible exact ok
    | with_reducible assumption
    | with_reducible apply State.busSend_ok
    | with_reducible apply State.tookN_ok

theorem State.cycleOpen_ok {qs : List Instr} {s : State} (ok : s.Ok qs) (p : Nat) :
    (s.cycleOpen p).Ok qs := by
  unfold State.cycleOpen
  try dsimp only
  repeat' first
    | with_reducible exact ok
    | with_reducible assumption
    | with_reducible exact rfl
    | with_reducible apply State.pollsDefer_ok
    | with_reducible apply State.cycleEnd_ok
    | with_reducible apply State.sprinFollow_ok
    | with_reducible apply State.idle_ok
    | with_reducible apply State.setPort_ok
    | with_reducible apply State.ok_ite
    | split
    | with_reducible refine State.ok_mk ?_ ?_ ?_ ?_ ?_
    | exact rfl
    | (simp only [State.ev_valve, State.ev_fab, State.submit_valve]; done)

theorem State.cycleStart_ok {qs : List Instr} {s : State} (ok : s.Ok qs) (p ma : Nat) :
    (s.cycleStart p ma).Ok qs := by
  unfold State.cycleStart
  try dsimp only
  repeat' first
    | with_reducible exact ok
    | with_reducible assumption
    | with_reducible apply State.cycleOpen_ok
    | with_reducible apply State.put_ok
    | with_reducible apply State.busSend_ok
    | with_reducible apply State.busNext_ok
    | with_reducible apply State.ok_ite
    | split

theorem State.pollDead_ok {qs : List Instr} {s : State} (ok : s.Ok qs) (p reason a : Nat) :
    (s.pollDead p reason a).Ok qs := by
  unfold State.pollDead
  try dsimp only
  repeat' first
    | with_reducible exact ok
    | with_reducible assumption
    | with_reducible exact rfl
    | with_reducible apply State.pollsEnd_ok
    | with_reducible apply State.setNode_ok
    | with_reducible apply State.nodeWithdraw_ok
    | with_reducible apply State.pev_ok
    | with_reducible apply State.ok_ite
    | split
    | with_reducible refine State.ok_mk ?_ ?_ ?_ ?_ ?_
    | exact rfl
    | (simp only [State.ev_valve, State.ev_fab, State.submit_valve]; done)

theorem State.pollFailed_ok {qs : List Instr} {s : State} (ok : s.Ok qs) (p a : Nat) (retry req : Bool) (reason : Nat) :
    (s.pollFailed p a retry req reason).Ok qs := by
  unfold State.pollFailed
  try dsimp only
  repeat' first
    | with_reducible exact ok
    | with_reducible assumption
    | with_reducible apply State.lineError_ok
    | with_reducible apply State.busAsk_ok
    | with_reducible apply State.pollDead_ok
    | with_reducible apply State.busNext_ok
    | with_reducible apply State.ok_ite
    | split

theorem State.nodeStatus_ok {qs : List Instr} {s : State} (ok : s.Ok qs) (p a st : Nat) (good : Bool) :
    (s.nodeStatus p a st good).Ok qs := by
  unfold State.nodeStatus
  try dsimp only
  repeat' first
    | with_reducible exact ok
    | with_reducible assumption
    | with_reducible exact rfl
    | with_reducible apply State.setNode_ok
    | with_reducible apply State.ok_ite
    | split
    | with_reducible refine State.ok_mk ?_ ?_ ?_ ?_ ?_
    | exact rfl
    | (simp only [State.ev_valve, State.ev_fab, State.submit_valve]; done)

theorem State.pollReply_ok {qs : List Instr} {s : State} (ok : s.Ok qs) (p a : Nat) (retry req : Bool) (pay : List Byte) (r : Nat) :
    (s.pollReply p a retry req pay r).Ok qs := by
  unfold State.pollReply
  try dsimp only
  repeat' first
    | with_reducible exact ok
    | with_reducible assumption
    | with_reducible exact rfl
    | with_reducible apply State.nodeStatus_ok
    | with_reducible apply State.pollFailed_ok
    | with_reducible apply State.setNode_ok
    | with_reducible apply State.pollsEnd_ok
    | with_reducible apply State.nodeForward_ok
    | with_reducible apply State.pev_ok
    | with_reducible apply State.busNext_ok
    | with_reducible refine State.foldl_ok (fun _ _ _ => ?_) _ ?_
    | with_reducible refine State.foldl_fst_ok (fun _ _ _ => ?_) _ ?_
    | with_reducible apply State.ok_ite
    | split
    | with_reducible refine State.ok_mk ?_ ?_ ?_ ?_ ?_
    | exact rfl
    | (simp only [State.ev_valve, State.ev_fab, State.submit_valve]; done)

theorem State.hostReply_ok {qs : List Instr} {s : State} (ok : s.Ok qs) (p : Nat) (pay : List Byte) :
    (s.hostReply p pay).Ok qs := by
  unfold State.hostReply
  try dsimp only
  repeat' first
    | with_reducible exact ok
    | with_reducible assumption
    | with_reducible apply State.hostDone_ok
    | with_reducible apply State.setReg_ok
    | with_reducible apply State.busNext_ok
    | with_reducible apply State.ok_ite
    | split

theorem State.busFailed_ok {qs : List Instr} {s : State} (ok : s.Ok qs) (p reason : Nat) :
    (s.busFailed p reason).Ok qs := by
  unfold State.busFailed
  try dsimp only
  repeat' first
    | with_reducible exact ok
    | with_reducible assumption
    | with_reducible apply State.idle_ok
    | with_reducible apply State.lineError_ok
    | with_reducible apply State.hostDone_ok
    | with_reducible apply State.busNext_ok
    | with_reducible apply State.pollFailed_ok
    | with_reducible apply State.inc_ok
    | with_reducible apply State.assignFailed_ok
    | with_reducible apply State.measured_ok
    | with_reducible apply State.searchDo_ok
    | with_reducible apply State.nodeSettled_ok
    | with_reducible apply State.ok_ite
    | split

theorem State.sprinReply_ok {qs : List Instr} {s : State} (ok : s.Ok qs) (p rtt : Nat) (line : List Bool) :
    (s.sprinReply p rtt line).Ok qs := by
  unfold State.sprinReply
  try dsimp only
  repeat' first
    | with_reducible exact ok
    | with_reducible assumption
    | with_reducible apply State.inc_ok
    | with_reducible apply State.busTake_ok
    | with_reducible apply State.busFailed_ok
    | with_reducible apply State.pollReply_ok
    | with_reducible apply State.nodeStatus_ok
    | with_reducible apply State.hostReply_ok
    | with_reducible apply State.busNext_ok
    | with_reducible apply State.nodeAssigned_ok
    | with_reducible apply State.assignFailed_ok
    | with_reducible apply State.measured_ok
    | with_reducible apply State.searchDo_ok
    | with_reducible apply State.nodeSettled_ok
    | with_reducible apply State.ok_ite
    | split

theorem State.sprinTimeout_ok {qs : List Instr} {s : State} (ok : s.Ok qs) (p : Nat) :
    (s.sprinTimeout p).Ok qs := by
  unfold State.sprinTimeout
  try dsimp only
  repeat' first
    | with_reducible exact ok
    | with_reducible assumption
    | with_reducible apply State.busFailed_ok

theorem State.alarmTaken_ok {qs : List Instr} {s : State} (ok : s.Ok qs) (p a : Nat) (pay : List Byte) :
    (s.alarmTaken p a pay).Ok qs := by
  unfold State.alarmTaken
  try dsimp only
  repeat' first
    | with_reducible exact ok
    | with_reducible assumption
    | with_reducible exact rfl
    | with_reducible apply State.setPort_ok
    | with_reducible apply State.busSend_ok
    | with_reducible apply State.setNode_ok
    | with_reducible apply State.inc_ok
    | with_reducible apply State.putB_ok
    | with_reducible apply State.pev_ok
    | with_reducible apply State.ok_ite
    | split
    | with_reducible refine State.ok_mk ?_ ?_ ?_ ?_ ?_
    | exact rfl
    | (simp only [State.ev_valve, State.ev_fab, State.submit_valve]; done)

theorem State.sprinAlarm_ok {qs : List Instr} {s : State} (ok : s.Ok qs) (p rtt : Nat) (line : List Bool) :
    (s.sprinAlarm p rtt line).Ok qs := by
  unfold State.sprinAlarm
  try dsimp only
  repeat' first
    | with_reducible exact ok
    | with_reducible assumption
    | with_reducible exact rfl
    | with_reducible apply State.inc_ok
    | with_reducible apply State.busTake_ok
    | with_reducible apply State.alarmTaken_ok
    | with_reducible apply State.busNext_ok
    | with_reducible apply State.busAsk_ok
    | with_reducible apply State.setPort_ok
    | with_reducible apply State.pollFailed_ok
    | with_reducible apply State.ok_ite
    | split
    | with_reducible refine State.ok_mk ?_ ?_ ?_ ?_ ?_
    | exact rfl
    | (simp only [State.ev_valve, State.ev_fab, State.submit_valve]; done)

theorem State.enumPresence_ok {qs : List Instr} {s : State} (ok : s.Ok qs) (p : Nat) (hit : Bool) :
    (s.enumPresence p hit).Ok qs := by
  unfold State.enumPresence
  try dsimp only
  repeat' first
    | with_reducible exact ok
    | with_reducible assumption
    | with_reducible exact rfl
    | with_reducible apply State.setPort_ok
    | with_reducible apply State.searchStart_ok
    | with_reducible apply State.busNext_ok
    | with_reducible apply State.searchDo_ok
    | with_reducible apply State.searchEnd_ok
    | with_reducible apply State.ok_ite
    | split
    | with_reducible refine State.ok_mk ?_ ?_ ?_ ?_ ?_
    | exact rfl
    | (simp only [State.ev_valve, State.ev_fab, State.submit_valve]; done)

theorem State.busStop_ok {qs : List Instr} {s : State} (ok : s.Ok qs) (p st reason : Nat) :
    (s.busStop p st reason).Ok qs := by
  unfold State.busStop
  try dsimp only
  repeat' first
    | with_reducible exact ok
    | with_reducible assumption
    | with_reducible exact rfl
    | with_reducible apply State.cycleEnd_ok
    | with_reducible apply State.pollDead_ok
    | with_reducible apply State.pollsEnd_ok
    | with_reducible apply State.setPort_ok
    | with_reducible apply State.idle_ok
    | with_reducible apply State.hostDone_ok
    | with_reducible refine State.each_ok ?_ _ (fun _ _ _ => ?_)
    | with_reducible apply State.ok_ite
    | split
    | with_reducible refine State.ok_mk ?_ ?_ ?_ ?_ ?_
    | exact rfl
    | (simp only [State.ev_valve, State.ev_fab, State.submit_valve]; done)

theorem State.supplyOff_ok {qs : List Instr} {s : State} (ok : s.Ok qs) (p st reason : Nat) :
    (s.supplyOff p st reason).Ok qs := by
  unfold State.supplyOff
  try dsimp only
  repeat' first
    | with_reducible exact ok
    | with_reducible assumption
    | with_reducible exact rfl
    | with_reducible apply State.busStop_ok
    | with_reducible apply State.setPort_ok
    | with_reducible apply State.put_ok
    | with_reducible refine State.ok_mk ?_ ?_ ?_ ?_ ?_
    | exact rfl
    | (simp only [State.ev_valve, State.ev_fab, State.submit_valve]; done)

theorem State.portPower_ok {qs : List Instr} {s : State} (ok : s.Ok qs) (p : Nat) :
    (s.portPower p).Ok qs := by
  unfold State.portPower
  try dsimp only
  repeat' first
    | with_reducible exact ok
    | with_reducible assumption
    | with_reducible apply State.setPst_ok
    | with_reducible apply State.ok_ite
    | split

theorem State.portEnable_ok {qs : List Instr} {s : State} (ok : s.Ok qs) (p : Nat) :
    (s.portEnable p).Ok qs := by
  unfold State.portEnable
  try dsimp only
  repeat' first
    | with_reducible exact ok
    | with_reducible assumption
    | with_reducible apply State.portPower_ok
    | with_reducible apply State.supplyOff_ok
    | with_reducible apply State.setPst_ok
    | with_reducible apply State.ok_ite
    | split

theorem State.portsVcab_ok {qs : List Instr} {s : State} (ok : s.Ok qs) (good : Bool) :
    (s.portsVcab good).Ok qs := by
  unfold State.portsVcab
  try dsimp only
  repeat' first
    | with_reducible exact ok
    | with_reducible assumption
    | with_reducible apply State.portPower_ok
    | with_reducible apply State.supplyOff_ok
    | with_reducible apply State.setPst_ok
    | with_reducible refine State.each_ok ?_ _ (fun _ _ _ => ?_)
    | with_reducible apply State.ok_ite
    | split

theorem State.portTrip_ok {qs : List Instr} {s : State} (ok : s.Ok qs) (p ma : Nat) :
    (s.portTrip p ma).Ok qs := by
  unfold State.portTrip
  try dsimp only
  repeat' first
    | with_reducible exact ok
    | with_reducible assumption
    | with_reducible apply State.supplyOff_ok
    | with_reducible apply State.setPst_ok
    | with_reducible apply State.incSat_ok
    | with_reducible apply State.putB_ok
    | with_reducible apply State.pev_ok
    | with_reducible apply State.ok_ite
    | split

theorem State.portRetry_ok {qs : List Instr} {s : State} (ok : s.Ok qs) (p : Nat) :
    (s.portRetry p).Ok qs := by
  unfold State.portRetry
  try dsimp only
  repeat' first
    | with_reducible exact ok
    | with_reducible assumption
    | with_reducible apply State.portPower_ok
    | with_reducible apply State.ok_ite
    | split

theorem State.portBooted_ok {qs : List Instr} {s : State} (ok : s.Ok qs) (p : Nat) :
    (s.portBooted p).Ok qs := by
  unfold State.portBooted
  try dsimp only
  repeat' first
    | with_reducible exact ok
    | with_reducible assumption
    | with_reducible apply State.setPst_ok
    | with_reducible apply State.searchStart_ok
    | with_reducible apply State.ok_ite
    | split

theorem State.portStuck_ok {qs : List Instr} {s : State} (ok : s.Ok qs) (p : Nat) :
    (s.portStuck p).Ok qs := by
  unfold State.portStuck
  try dsimp only
  repeat' first
    | with_reducible exact ok
    | with_reducible assumption
    | with_reducible exact rfl
    | with_reducible apply State.supplyOff_ok
    | with_reducible apply State.setPst_ok
    | with_reducible apply State.pev_ok
    | with_reducible apply State.setPort_ok
    | with_reducible apply State.ok_ite
    | split
    | with_reducible refine State.ok_mk ?_ ?_ ?_ ?_ ?_
    | exact rfl
    | (simp only [State.ev_valve, State.ev_fab, State.submit_valve]; done)

theorem State.portStuckEnd_ok {qs : List Instr} {s : State} (ok : s.Ok qs) (p : Nat) :
    (s.portStuckEnd p).Ok qs := by
  unfold State.portStuckEnd
  try dsimp only
  repeat' first
    | with_reducible exact ok
    | with_reducible assumption
    | with_reducible apply State.portPower_ok
    | with_reducible apply State.ok_ite
    | split

theorem State.portReenum_ok {qs : List Instr} {s : State} (ok : s.Ok qs) (p : Nat) :
    (s.portReenum p).Ok qs := by
  unfold State.portReenum
  try dsimp only
  repeat' first
    | with_reducible exact ok
    | with_reducible assumption
    | with_reducible exact rfl
    | with_reducible apply State.pollsEnd_ok
    | with_reducible apply State.setPort_ok
    | with_reducible apply State.cycleEnd_ok
    | with_reducible apply State.idle_ok
    | with_reducible apply State.setPst_ok
    | with_reducible apply State.searchStart_ok
    | with_reducible apply State.ok_ite
    | split
    | with_reducible refine State.ok_mk ?_ ?_ ?_ ?_ ?_
    | exact rfl
    | (simp only [State.ev_valve, State.ev_fab, State.submit_valve]; done)

theorem State.portCycle_ok {qs : List Instr} {s : State} (ok : s.Ok qs) (p : Nat) :
    (s.portCycle p).Ok qs := by
  unfold State.portCycle
  try dsimp only
  repeat' first
    | with_reducible exact ok
    | with_reducible assumption
    | with_reducible exact rfl
    | with_reducible apply State.supplyOff_ok
    | with_reducible apply State.setPst_ok
    | with_reducible apply State.setPort_ok
    | with_reducible apply State.ok_ite
    | split
    | with_reducible refine State.ok_mk ?_ ?_ ?_ ?_ ?_
    | exact rfl
    | (simp only [State.ev_valve, State.ev_fab, State.submit_valve]; done)

theorem State.portCycleEnd_ok {qs : List Instr} {s : State} (ok : s.Ok qs) (p : Nat) :
    (s.portCycleEnd p).Ok qs := by
  unfold State.portCycleEnd
  try dsimp only
  repeat' first
    | with_reducible exact ok
    | with_reducible assumption
    | with_reducible exact rfl
    | with_reducible apply State.setPort_ok
    | with_reducible apply State.portPower_ok
    | with_reducible apply State.ok_ite
    | split
    | with_reducible refine State.ok_mk ?_ ?_ ?_ ?_ ?_
    | exact rfl
    | (simp only [State.ev_valve, State.ev_fab, State.submit_valve]; done)

theorem State.portIdentify_ok {qs : List Instr} {s : State} (ok : s.Ok qs) (p a : Nat) :
    (s.portIdentify p a).Ok qs := by
  unfold State.portIdentify
  try dsimp only
  repeat' first
    | with_reducible exact ok
    | with_reducible assumption
    | with_reducible exact rfl
    | with_reducible apply State.setPort_ok
    | with_reducible apply State.ok_ite
    | split
    | with_reducible refine State.ok_mk ?_ ?_ ?_ ?_ ?_
    | exact rfl
    | (simp only [State.ev_valve, State.ev_fab, State.submit_valve]; done)

theorem State.portTest_ok {qs : List Instr} {s : State} (ok : s.Ok qs) (p : Nat) :
    (s.portTest p).Ok qs := by
  unfold State.portTest
  try dsimp only
  repeat' first
    | with_reducible exact ok
    | with_reducible assumption
    | with_reducible exact rfl
    | with_reducible apply State.busStop_ok
    | with_reducible apply State.setPort_ok
    | with_reducible apply State.setPst_ok
    | with_reducible apply State.testSend_ok
    | with_reducible apply State.ok_ite
    | split
    | with_reducible refine State.ok_mk ?_ ?_ ?_ ?_ ?_
    | exact rfl
    | (simp only [State.ev_valve, State.ev_fab, State.submit_valve]; done)

theorem State.portFence_ok {qs : List Instr} {s : State} (ok : s.Ok qs) (p : Nat) :
    (s.portFence p).Ok qs := by
  unfold State.portFence
  try dsimp only
  repeat' first
    | with_reducible exact ok
    | with_reducible assumption
    | with_reducible exact rfl
    | with_reducible apply State.supplyOff_ok
    | with_reducible apply State.setPst_ok
    | with_reducible apply State.pev_ok
    | with_reducible apply State.setPort_ok
    | with_reducible refine State.ok_mk ?_ ?_ ?_ ?_ ?_
    | exact rfl
    | (simp only [State.ev_valve, State.ev_fab, State.submit_valve]; done)

theorem State.portPassed_ok {qs : List Instr} {s : State} (ok : s.Ok qs) (p : Nat) :
    (s.portPassed p).Ok qs := by
  unfold State.portPassed
  try dsimp only
  repeat' first
    | with_reducible exact ok
    | with_reducible assumption
    | with_reducible apply State.setPst_ok
    | with_reducible apply State.ok_ite
    | split

theorem State.sprinMinute_ok {qs : List Instr} {s : State} (ok : s.Ok qs) (p : Nat) :
    (s.sprinMinute p).Ok qs := by
  unfold State.sprinMinute
  try dsimp only
  repeat' first
    | with_reducible exact ok
    | with_reducible assumption
    | with_reducible exact rfl
    | with_reducible apply State.pev_ok
    | with_reducible apply State.setPort_ok
    | with_reducible apply State.ok_ite
    | split
    | with_reducible refine State.ok_mk ?_ ?_ ?_ ?_ ?_
    | exact rfl
    | (simp only [State.ev_valve, State.ev_fab, State.submit_valve]; done)

theorem State.sprinRemap_ok {qs : List Instr} {s : State} (ok : s.Ok qs) (p : Nat) :
    (s.sprinRemap p).Ok qs := by
  unfold State.sprinRemap
  try dsimp only
  repeat' first
    | with_reducible exact ok
    | with_reducible assumption
    | with_reducible apply State.sprinGrid_ok
    | with_reducible apply State.portPower_ok
    | with_reducible apply State.ok_ite
    | split

end Sys2Proof.Machine
end

