-- ==== Sys2Proof/Laws/GoodMill.lean ====
section
/-! SUPPORT. What MillOps defines keeps the queue of waiting commands, the canonical form of the register table and
the capacities of the queues (`State.Ok`). -/

namespace Sys2Proof.Machine

set_option linter.unusedTactic false
set_option linter.unreachableTactic false

open Reg

theorem State.setBst_ok {qs : List Instr} {s : State} (ok : s.Ok qs) (k n : Nat) :
    (s.setBst k n).Ok qs := by
  unfold State.setBst
  try dsimp only
  repeat' first
    | with_reducible exact ok
    | with_reducible assumption
    | with_reducible apply State.put_ok

theorem State.setBody_ok {qs : List Instr} {s : State} (ok : s.Ok qs) (k : Nat) (b : Body) :
    (s.setBody k b).Ok qs := by
  unfold State.setBody
  try dsimp only
  repeat' first
    | with_reducible exact ok
    | with_reducible assumption
    | with_reducible exact rfl
    | with_reducible refine State.ok_mk ?_ ?_ ?_ ?_ ?_
    | exact rfl
    | (simp only [State.ev_valve, State.ev_fab, State.submit_valve]; done)

theorem State.mev_ok {qs : List Instr} {s : State} (ok : s.Ok qs) (code k : Nat) (p1 : Nat) (p2 : Nat) (prov : Bool) :
    (s.mev code k p1 p2 prov).Ok qs := by
  unfold State.mev
  try dsimp only
  repeat' first
    | with_reducible exact ok
    | with_reducible assumption
    | with_reducible apply State.ev_ok

theorem State.readEntry_ok {qs : List Instr} {s : State} (ok : s.Ok qs) (k n : Nat) :
    (s.readEntry k n).1.Ok qs := by
  unfold State.readEntry
  try dsimp only
  repeat' first
    | with_reducible exact ok
    | with_reducible assumption
    | with_reducible exact rfl
    | with_reducible apply State.setBody_ok
    | with_reducible apply State.took_ok
    | with_reducible apply State.ok_ite
    | split
    | with_reducible refine State.ok_mk ?_ ?_ ?_ ?_ ?_
    | exact rfl
    | (simp only [State.ev_valve, State.ev_fab, State.submit_valve]; done)

theorem State.readInputs_ok {qs : List Instr} {s : State} (ok : s.Ok qs) (k : Nat) (acts : List (Nat × Word)) :
    (s.readInputs k acts).1.Ok qs := by
  unfold State.readInputs
  try dsimp only
  repeat' first
    | with_reducible exact ok
    | with_reducible assumption
    | with_reducible apply State.readEntry_ok
    | with_reducible refine State.foldl_ok (fun _ _ _ => ?_) _ ?_
    | with_reducible refine State.foldl_fst_ok (fun _ _ _ => ?_) _ ?_

theorem State.bodyPublish_ok {qs : List Instr} {s : State} (ok : s.Ok qs) (k : Nat) :
    (s.bodyPublish k).Ok qs := by
  unfold State.bodyPublish
  try dsimp only
  repeat' first
    | with_reducible exact ok
    | with_reducible assumption
    | with_reducible apply State.publish_ok
    | with_reducible apply State.putB_ok
    | with_reducible refine State.each_ok ?_ _ (fun _ _ _ => ?_)
    | with_reducible apply State.ok_ite
    | split

theorem State.firmAdvance_ok {qs : List Instr} {s : State} (ok : s.Ok qs) (k : Nat) :
    (s.firmAdvance k).Ok qs := by
  unfold State.firmAdvance
  try dsimp only
  repeat' first
    | with_reducible exact ok
    | with_reducible assumption
    | with_reducible exact rfl
    | with_reducible apply State.setBody_ok
    | with_reducible apply State.put_ok
    | with_reducible apply State.ok_ite
    | split
    | with_reducible refine State.ok_mk ?_ ?_ ?_ ?_ ?_
    | exact rfl
    | (simp only [State.ev_valve, State.ev_fab, State.submit_valve]; done)

theorem State.ringPush_ok {qs : List Instr} {s : State} (ok : s.Ok qs) (k : Nat) (d : Delta) :
    (s.ringPush k d).Ok qs := by
  unfold State.ringPush
  try dsimp only
  repeat' first
    | with_reducible exact ok
    | with_reducible assumption
    | with_reducible exact rfl
    | with_reducible apply State.setBody_ok
    | with_reducible apply State.mev_ok
    | with_reducible apply State.ok_ite
    | split
    | with_reducible refine State.ok_mk ?_ ?_ ?_ ?_ ?_
    | exact rfl
    | (simp only [State.ev_valve, State.ev_fab, State.submit_valve]; done)

theorem State.solveWant_ok {qs : List Instr} {s : State} (ok : s.Ok qs) (k cls : Nat) :
    (s.solveWant k cls).Ok qs := by
  unfold State.solveWant
  try dsimp only
  repeat' first
    | with_reducible exact ok
    | with_reducible assumption
    | with_reducible exact rfl
    | with_reducible apply State.setBody_ok
    | with_reducible apply State.ok_ite
    | split
    | with_reducible refine State.ok_mk ?_ ?_ ?_ ?_ ?_
    | exact rfl
    | (simp only [State.ev_valve, State.ev_fab, State.submit_valve]; done)

theorem State.solveStart_ok {qs : List Instr} {s : State} (ok : s.Ok qs) (k : Nat) :
    (s.solveStart k).Ok qs := by
  unfold State.solveStart
  try dsimp only
  repeat' first
    | with_reducible exact ok
    | with_reducible assumption
    | with_reducible exact rfl
    | with_reducible apply State.readInputs_ok
    | with_reducible apply State.setBody_ok
    | split
    | with_reducible refine State.ok_mk ?_ ?_ ?_ ?_ ?_
    | exact rfl
    | (simp only [State.ev_valve, State.ev_fab, State.submit_valve]; done)

theorem State.quadFree_ok {qs : List Instr} {s : State} (ok : s.Ok qs) (w : Work) :
    (s.quadFree w).Ok qs := by
  unfold State.quadFree
  try dsimp only
  repeat' first
    | with_reducible exact ok
    | with_reducible assumption
    | with_reducible exact rfl
    | with_reducible refine State.ok_mk ?_ ?_ ?_ ?_ ?_
    | exact rfl
    | (simp only [State.ev_valve, State.ev_fab, State.submit_valve]; done)

theorem State.solveDone_ok {qs : List Instr} {s : State} (ok : s.Ok qs) (k passes cycles ppm : Nat) :
    (s.solveDone k passes cycles ppm).Ok qs := by
  unfold State.solveDone
  try dsimp only
  repeat' first
    | with_reducible exact ok
    | with_reducible assumption
    | with_reducible exact rfl
    | with_reducible apply State.quadFree_ok
    | with_reducible apply State.setBody_ok
    | with_reducible apply State.put_ok
    | with_reducible apply State.putB_ok
    | with_reducible apply State.mev_ok
    | with_reducible apply State.ok_ite
    | split
    | with_reducible refine State.ok_mk ?_ ?_ ?_ ?_ ?_
    | exact rfl
    | (simp only [State.ev_valve, State.ev_fab, State.submit_valve]; done)

theorem State.solveDue_ok {qs : List Instr} {s : State} (ok : s.Ok qs) (k : Nat) :
    (s.solveDue k).Ok qs := by
  unfold State.solveDue
  try dsimp only
  repeat' first
    | with_reducible exact ok
    | with_reducible assumption
    | with_reducible exact rfl
    | with_reducible apply State.solveWant_ok
    | with_reducible apply State.setBody_ok
    | with_reducible apply State.ok_ite
    | split
    | with_reducible refine State.ok_mk ?_ ?_ ?_ ?_ ?_
    | exact rfl
    | (simp only [State.ev_valve, State.ev_fab, State.submit_valve]; done)

theorem State.resumeFrom_ok {qs : List Instr} {s : State} (ok : s.Ok qs) (k : Nat) (tiles : List (Nat × Cell)) (age : Nat) (area : Option Nat) :
    (s.resumeFrom k tiles age area).Ok qs := by
  unfold State.resumeFrom
  try dsimp only
  repeat' first
    | with_reducible exact ok
    | with_reducible assumption
    | with_reducible exact rfl
    | with_reducible apply State.tookN_ok
    | with_reducible apply State.setBody_ok
    | with_reducible apply State.readInputs_ok
    | with_reducible apply State.setBst_ok
    | with_reducible apply State.bodyPublish_ok
    | with_reducible apply State.putB_ok
    | with_reducible apply State.mev_ok
    | with_reducible apply State.solveWant_ok
    | with_reducible refine State.foldl_ok (fun _ _ _ => ?_) _ ?_
    | with_reducible refine State.foldl_fst_ok (fun _ _ _ => ?_) _ ?_
    | with_reducible refine State.ok_mk ?_ ?_ ?_ ?_ ?_
    | exact rfl
    | (simp only [State.ev_valve, State.ev_fab, State.submit_valve]; done)

theorem State.snapContribute_ok {qs : List Instr} {s : State} (ok : s.Ok qs) (k : Nat) :
    (s.snapContribute k).Ok qs := by
  unfold State.snapContribute
  try dsimp only
  repeat' first
    | with_reducible exact ok
    | with_reducible assumption
    | with_reducible exact rfl
    | with_reducible apply State.ok_ite
    | split
    | with_reducible refine State.ok_mk ?_ ?_ ?_ ?_ ?_
    | exact rfl
    | (simp only [State.ev_valve, State.ev_fab, State.submit_valve]; done)

theorem State.stage_ok {qs : List Instr} {s : State} (ok : s.Ok qs) (k : Nat) :
    (s.stage k).Ok qs := by
  unfold State.stage
  try dsimp only
  repeat' first
    | with_reducible exact ok
    | with_reducible assumption
    | with_reducible exact rfl
    | with_reducible apply State.setBody_ok
    | with_reducible apply State.snapContribute_ok
    | with_reducible refine State.ok_mk ?_ ?_ ?_ ?_ ?_
    | exact rfl
    | (simp only [State.ev_valve, State.ev_fab, State.submit_valve]; done)

theorem State.bodyHeld_ok {qs : List Instr} {s : State} (ok : s.Ok qs) (k : Nat) :
    (s.bodyHeld k).Ok qs := by
  unfold State.bodyHeld
  try dsimp only
  repeat' first
    | with_reducible exact ok
    | with_reducible assumption
    | with_reducible exact rfl
    | with_reducible apply State.setBody_ok
    | with_reducible apply State.stage_ok
    | with_reducible apply State.setBst_ok
    | with_reducible apply State.mev_ok
    | with_reducible apply State.ok_ite
    | split
    | with_reducible refine State.ok_mk ?_ ?_ ?_ ?_ ?_
    | exact rfl
    | (simp only [State.ev_valve, State.ev_fab, State.submit_valve]; done)

theorem State.bodyPaused_ok {qs : List Instr} {s : State} (ok : s.Ok qs) (k : Nat) :
    (s.bodyPaused k).Ok qs := by
  unfold State.bodyPaused
  try dsimp only
  repeat' first
    | with_reducible exact ok
    | with_reducible assumption
    | with_reducible exact rfl
    | with_reducible apply State.setBody_ok
    | with_reducible apply State.stage_ok
    | with_reducible apply State.setBst_ok
    | with_reducible apply State.ok_ite
    | split
    | with_reducible refine State.ok_mk ?_ ?_ ?_ ?_ ?_
    | exact rfl
    | (simp only [State.ev_valve, State.ev_fab, State.submit_valve]; done)

theorem State.bodyStop_ok {qs : List Instr} {s : State} (ok : s.Ok qs) (k : Nat) :
    (s.bodyStop k).Ok qs := by
  unfold State.bodyStop
  try dsimp only
  repeat' first
    | with_reducible exact ok
    | with_reducible assumption
    | with_reducible apply State.bodyHeld_ok
    | with_reducible apply State.bodyPaused_ok
    | with_reducible apply State.ok_ite
    | split

theorem State.stepStart_ok {qs : List Instr} {s : State} (ok : s.Ok qs) (k : Nat) (x : ReStep) (again : Bool) :
    (s.stepStart k x again).Ok qs := by
  unfold State.stepStart
  try dsimp only
  repeat' first
    | with_reducible exact ok
    | with_reducible assumption
    | with_reducible exact rfl
    | with_reducible apply State.setBody_ok
    | with_reducible apply State.ok_ite
    | split
    | with_reducible refine State.ok_mk ?_ ?_ ?_ ?_ ?_
    | exact rfl
    | (simp only [State.ev_valve, State.ev_fab, State.submit_valve]; done)

theorem State.readingAged_ok {qs : List Instr} {s : State} (ok : s.Ok qs) (k : Nat) (r : Reading) :
    (s.readingAged k r).Ok qs := by
  unfold State.readingAged
  try dsimp only
  repeat' first
    | with_reducible exact ok
    | with_reducible assumption
    | with_reducible exact rfl
    | with_reducible apply State.setBody_ok
    | with_reducible apply State.inc_ok
    | with_reducible refine State.ok_mk ?_ ?_ ?_ ?_ ?_
    | exact rfl
    | (simp only [State.ev_valve, State.ev_fab, State.submit_valve]; done)

theorem State.rollStart_ok {qs : List Instr} {s : State} (ok : s.Ok qs) (k : Nat) :
    (s.rollStart k).Ok qs := by
  unfold State.rollStart
  try dsimp only
  repeat' first
    | with_reducible exact ok
    | with_reducible assumption
    | with_reducible exact rfl
    | with_reducible apply State.setBody_ok
    | with_reducible apply State.readingAged_ok
    | with_reducible apply State.putB_ok
    | with_reducible apply State.inc_ok
    | with_reducible refine State.each_ok ?_ _ (fun _ _ _ => ?_)
    | with_reducible refine State.foldl_ok (fun _ _ _ => ?_) _ ?_
    | with_reducible refine State.foldl_fst_ok (fun _ _ _ => ?_) _ ?_
    | with_reducible apply State.ok_ite
    | split
    | with_reducible refine State.ok_mk ?_ ?_ ?_ ?_ ?_
    | exact rfl
    | (simp only [State.ev_valve, State.ev_fab, State.submit_valve]; done)

theorem State.bodyIdle_ok {qs : List Instr} {s : State} (ok : s.Ok qs) (k : Nat) :
    (s.bodyIdle k).Ok qs := by
  unfold State.bodyIdle
  try dsimp only
  repeat' first
    | with_reducible exact ok
    | with_reducible assumption
    | with_reducible exact rfl
    | with_reducible apply State.bodyStop_ok
    | with_reducible apply State.setBody_ok
    | with_reducible apply State.readInputs_ok
    | with_reducible apply State.stepStart_ok
    | with_reducible apply State.ok_ite
    | split
    | with_reducible refine State.ok_mk ?_ ?_ ?_ ?_ ?_
    | exact rfl
    | (simp only [State.ev_valve, State.ev_fab, State.submit_valve]; done)

theorem State.rollStep_ok {qs : List Instr} {s : State} (ok : s.Ok qs) (k : Nat) (x : ReStep) (rest : List ReStep) :
    (s.rollStep k x rest).Ok qs := by
  unfold State.rollStep
  try dsimp only
  repeat' first
    | with_reducible exact ok
    | with_reducible assumption
    | with_reducible exact rfl
    | with_reducible apply State.setBody_ok
    | with_reducible apply State.stepStart_ok
    | with_reducible refine State.ok_mk ?_ ?_ ?_ ?_ ?_
    | exact rfl
    | (simp only [State.ev_valve, State.ev_fab, State.submit_valve]; done)

theorem State.rollEnd_ok {qs : List Instr} {s : State} (ok : s.Ok qs) (k : Nat) :
    (s.rollEnd k).Ok qs := by
  unfold State.rollEnd
  try dsimp only
  repeat' first
    | with_reducible exact ok
    | with_reducible assumption
    | with_reducible exact rfl
    | with_reducible apply State.setBody_ok
    | with_reducible apply State.putB_ok
    | with_reducible apply State.firmAdvance_ok
    | with_reducible apply State.bodyPublish_ok
    | with_reducible refine State.ok_mk ?_ ?_ ?_ ?_ ?_
    | exact rfl
    | (simp only [State.ev_valve, State.ev_fab, State.submit_valve]; done)

theorem State.bodyGo_ok {qs : List Instr} : ∀ (n : Nat) {s : State} (k : Nat), s.Ok qs → (State.bodyGo n s k).Ok qs
  | 0, _, _, ok => ok
  | n + 1, s, k, ok => by
    unfold State.bodyGo
    try dsimp only
    repeat' first
      | with_reducible exact ok
      | with_reducible apply State.bodyGo_ok n
      | with_reducible apply State.rollStep_ok
      | with_reducible apply State.rollEnd_ok
      | with_reducible apply State.rollStart_ok
      | with_reducible apply State.bodyIdle_ok
      | split

theorem State.bodyNext_ok {qs : List Instr} {s : State} (ok : s.Ok qs) (k : Nat) :
    (s.bodyNext k).Ok qs := by
  unfold State.bodyNext
  try dsimp only
  repeat' first
    | with_reducible exact ok
    | with_reducible assumption
    | with_reducible apply State.bodyGo_ok

theorem State.stepReady_ok {qs : List Instr} {s : State} (ok : s.Ok qs) (k : Nat) :
    (s.stepReady k).Ok qs := by
  unfold State.stepReady
  try dsimp only
  repeat' first
    | with_reducible exact ok
    | with_reducible assumption
    | with_reducible exact rfl
    | with_reducible apply State.setBody_ok
    | with_reducible apply State.bodyNext_ok
    | with_reducible apply State.ok_ite
    | split
    | with_reducible refine State.ok_mk ?_ ?_ ?_ ?_ ?_
    | exact rfl
    | (simp only [State.ev_valve, State.ev_fab, State.submit_valve]; done)

theorem State.stepDone_ok {qs : List Instr} {s : State} (ok : s.Ok qs) (k : Nat) (r : StepRun) :
    (s.stepDone k r).Ok qs := by
  unfold State.stepDone
  try dsimp only
  repeat' first
    | with_reducible exact ok
    | with_reducible assumption
    | with_reducible exact rfl
    | with_reducible apply State.setBody_ok
    | with_reducible apply State.tookN_ok
    | with_reducible apply State.ringPush_ok
    | with_reducible apply State.inc_ok
    | with_reducible apply State.put_ok
    | with_reducible apply State.putB_ok
    | with_reducible apply State.firmAdvance_ok
    | with_reducible apply State.bodyPublish_ok
    | with_reducible apply State.snapContribute_ok
    | with_reducible apply State.solveWant_ok
    | with_reducible apply State.bodyNext_ok
    | with_reducible refine State.foldl_ok (fun _ _ _ => ?_) _ ?_
    | with_reducible refine State.foldl_fst_ok (fun _ _ _ => ?_) _ ?_
    | with_reducible apply State.ok_ite
    | split
    | with_reducible refine State.ok_mk ?_ ?_ ?_ ?_ ?_
    | exact rfl
    | (simp only [State.ev_valve, State.ev_fab, State.submit_valve]; done)

theorem State.tileDone_ok {qs : List Instr} {s : State} (ok : s.Ok qs) (k tile : Nat) (bad : List Nat) (q : Nat) :
    (s.tileDone k tile bad q).Ok qs := by
  unfold State.tileDone
  try dsimp only
  repeat' first
    | with_reducible exact ok
    | with_reducible assumption
    | with_reducible exact rfl
    | with_reducible apply State.quadFree_ok
    | with_reducible apply State.setBody_ok
    | with_reducible apply State.inc_ok
    | with_reducible apply State.mev_ok
    | with_reducible apply State.stepDone_ok
    | with_reducible apply State.ok_ite
    | split
    | with_reducible refine State.ok_mk ?_ ?_ ?_ ?_ ?_
    | exact rfl
    | (simp only [State.ev_valve, State.ev_fab, State.submit_valve]; done)

theorem State.readingTake_ok {qs : List Instr} {s : State} (ok : s.Ok qs) (a : Anchor) (r : Reading) :
    (s.readingTake a r).Ok qs := by
  unfold State.readingTake
  try dsimp only
  repeat' first
    | with_reducible exact ok
    | with_reducible assumption
    | with_reducible exact rfl
    | with_reducible apply State.firmAdvance_ok
    | with_reducible apply State.setBody_ok
    | with_reducible apply State.inc_ok
    | with_reducible apply State.readingAged_ok
    | with_reducible apply State.bodyNext_ok
    | with_reducible apply State.ok_ite
    | split
    | with_reducible refine State.ok_mk ?_ ?_ ?_ ?_ ?_
    | exact rfl
    | (simp only [State.ev_valve, State.ev_fab, State.submit_valve]; done)

theorem State.readingArrive_ok {qs : List Instr} {s : State} (ok : s.Ok qs) (anchor : Nat) (value sigma : F32) (stamp : Nat) :
    (s.readingArrive anchor value sigma stamp).Ok qs := by
  unfold State.readingArrive
  try dsimp only
  repeat' first
    | with_reducible exact ok
    | with_reducible assumption
    | with_reducible exact rfl
    | with_reducible apply State.inc_ok
    | with_reducible apply State.readingTake_ok
    | with_reducible apply State.ok_ite
    | split
    | with_reducible refine State.ok_mk ?_ ?_ ?_ ?_ ?_
    | exact rfl
    | (simp only [State.ev_valve, State.ev_fab, State.submit_valve]; done)

theorem State.bodyHold_ok {qs : List Instr} {s : State} (ok : s.Ok qs) (k : Nat) :
    (s.bodyHold k).Ok qs := by
  unfold State.bodyHold
  try dsimp only
  repeat' first
    | with_reducible exact ok
    | with_reducible assumption
    | with_reducible exact rfl
    | with_reducible apply State.setBody_ok
    | with_reducible apply State.bodyHeld_ok
    | with_reducible apply State.ok_ite
    | split
    | with_reducible refine State.ok_mk ?_ ?_ ?_ ?_ ?_
    | exact rfl
    | (simp only [State.ev_valve, State.ev_fab, State.submit_valve]; done)

theorem State.stepThrough_ok {qs : List Instr} {s : State} (ok : s.Ok qs) (k : Nat) :
    (s.stepThrough k).Ok qs := by
  unfold State.stepThrough
  try dsimp only
  repeat' first
    | with_reducible exact ok
    | with_reducible assumption
    | with_reducible exact rfl
    | with_reducible apply State.setBst_ok
    | with_reducible apply State.setBody_ok
    | with_reducible refine State.ok_mk ?_ ?_ ?_ ?_ ?_
    | exact rfl
    | (simp only [State.ev_valve, State.ev_fab, State.submit_valve]; done)

theorem State.resumeStaged_ok {qs : List Instr} {s : State} (ok : s.Ok qs) (k : Nat) :
    (s.resumeStaged k).Ok qs := by
  unfold State.resumeStaged
  try dsimp only
  repeat' first
    | with_reducible exact ok
    | with_reducible assumption
    | with_reducible apply State.resumeFrom_ok

theorem State.bodyResume_ok {qs : List Instr} {s : State} (ok : s.Ok qs) (k : Nat) :
    (s.bodyResume k).Ok qs := by
  unfold State.bodyResume
  try dsimp only
  repeat' first
    | with_reducible exact ok
    | with_reducible assumption
    | with_reducible exact rfl
    | with_reducible apply State.setBody_ok
    | with_reducible apply State.mev_ok
    | with_reducible apply State.resumeStaged_ok
    | with_reducible apply State.stepThrough_ok
    | with_reducible apply State.bodyNext_ok
    | with_reducible apply State.ok_ite
    | split
    | with_reducible refine State.ok_mk ?_ ?_ ?_ ?_ ?_
    | exact rfl
    | (simp only [State.ev_valve, State.ev_fab, State.submit_valve]; done)

theorem State.coast_ok {qs : List Instr} {s : State} (ok : s.Ok qs) (k : Nat) :
    (s.coast k).Ok qs := by
  unfold State.coast
  try dsimp only
  repeat' first
    | with_reducible exact ok
    | with_reducible assumption
    | with_reducible apply State.publish_ok
    | with_reducible refine State.each_ok ?_ _ (fun _ _ _ => ?_)
    | with_reducible apply State.ok_ite
    | split

theorem State.coldSeed_ok {qs : List Instr} {s : State} (ok : s.Ok qs) (k : Nat) :
    (s.coldSeed k).Ok qs := by
  unfold State.coldSeed
  try dsimp only
  repeat' first
    | with_reducible exact ok
    | with_reducible assumption
    | with_reducible exact rfl
    | with_reducible apply State.readInputs_ok
    | with_reducible apply State.tookN_ok
    | with_reducible apply State.setBody_ok
    | with_reducible apply State.setBst_ok
    | with_reducible apply State.putB_ok
    | with_reducible apply State.bodyPublish_ok
    | with_reducible apply State.mev_ok
    | with_reducible apply State.put_ok
    | with_reducible apply State.solveWant_ok
    | with_reducible apply State.bodyNext_ok
    | with_reducible refine State.foldl_ok (fun _ _ _ => ?_) _ ?_
    | with_reducible refine State.foldl_fst_ok (fun _ _ _ => ?_) _ ?_
    | with_reducible apply State.ok_ite
    | split
    | with_reducible refine State.ok_mk ?_ ?_ ?_ ?_ ?_
    | exact rfl
    | (simp only [State.ev_valve, State.ev_fab, State.submit_valve]; done)

end Sys2Proof.Machine
end

