-- ==== Sys2Proof/Laws/GoodMillWork.lean ====
section
/-! SUPPORT. What MillWork defines keeps the queue of waiting commands, the canonical form of the register table and
the capacities of the queues (`State.Ok`). -/

namespace Sys2Proof.Machine

set_option linter.unusedTactic false
set_option linter.unreachableTactic false

open Reg

theorem State.forecastStart_ok {qs : List Instr} {s : State} (ok : s.Ok qs) (k : Nat) :
    (s.forecastStart k).Ok qs := by
  unfold State.forecastStart
  try dsimp only
  repeat' first
    | with_reducible exact ok
    | with_reducible assumption
    | with_reducible exact rfl
    | with_reducible apply State.ok_ite
    | split
    | with_reducible refine State.ok_mk ?_ ?_ ?_ ?_ ?_
    | exact rfl
    | (simp only [State.ev_valve, State.ev_fab, State.submit_valve]; done)

theorem State.forecastBegin_ok {qs : List Instr} {s : State} (ok : s.Ok qs) (k : Nat) :
    (s.forecastBegin k).Ok qs := by
  unfold State.forecastBegin
  try dsimp only
  repeat' first
    | with_reducible exact ok
    | with_reducible assumption
    | with_reducible exact rfl
    | with_reducible apply State.readInputs_ok
    | with_reducible refine State.foldl_ok (fun _ _ _ => ?_) _ ?_
    | with_reducible refine State.foldl_fst_ok (fun _ _ _ => ?_) _ ?_
    | with_reducible apply State.ok_ite
    | split
    | with_reducible refine State.ok_mk ?_ ?_ ?_ ?_ ?_
    | exact rfl
    | (simp only [State.ev_valve, State.ev_fab, State.submit_valve]; done)

theorem State.forecastNext_ok {qs : List Instr} {s : State} (ok : s.Ok qs) (k : Nat) (r : FcRun) :
    (s.forecastNext k r).Ok qs := by
  unfold State.forecastNext
  try dsimp only
  repeat' first
    | with_reducible exact ok
    | with_reducible assumption
    | with_reducible exact rfl
    | with_reducible apply State.quadFree_ok
    | with_reducible apply State.ok_ite
    | split
    | with_reducible refine State.ok_mk ?_ ?_ ?_ ?_ ?_
    | exact rfl
    | (simp only [State.ev_valve, State.ev_fab, State.submit_valve]; done)

theorem State.forecastDone_ok {qs : List Instr} {s : State} (ok : s.Ok qs) (k ms : Nat) :
    (s.forecastDone k ms).Ok qs := by
  unfold State.forecastDone
  try dsimp only
  repeat' first
    | with_reducible exact ok
    | with_reducible assumption
    | with_reducible apply State.forecastNext_ok
    | with_reducible apply State.inc_ok
    | with_reducible apply State.put_ok
    | with_reducible apply State.publish_ok
    | with_reducible apply State.tookN_ok
    | with_reducible refine State.each_ok ?_ _ (fun _ _ _ => ?_)
    | with_reducible refine State.foldl_ok (fun _ _ _ => ?_) _ ?_
    | with_reducible refine State.foldl_fst_ok (fun _ _ _ => ?_) _ ?_
    | with_reducible apply State.ok_ite
    | split

theorem State.snapshotDue_ok {qs : List Instr} {s : State} (ok : s.Ok qs) :
    (s.snapshotDue).Ok qs := by
  unfold State.snapshotDue
  try dsimp only
  repeat' first
    | with_reducible exact ok
    | with_reducible assumption
    | with_reducible exact rfl
    | with_reducible apply State.snapContribute_ok
    | with_reducible refine State.each_ok ?_ _ (fun _ _ _ => ?_)
    | with_reducible apply State.ok_ite
    | split
    | with_reducible refine State.ok_mk ?_ ?_ ?_ ?_ ?_
    | exact rfl
    | (simp only [State.ev_valve, State.ev_fab, State.submit_valve]; done)

theorem State.snapShow_ok {qs : List Instr} {s : State} (ok : s.Ok qs) :
    (s.snapShow).Ok qs := by
  unfold State.snapShow
  try dsimp only
  repeat' first
    | with_reducible exact ok
    | with_reducible assumption
    | with_reducible apply State.put_ok
    | with_reducible apply State.ok_ite
    | split

theorem State.setArea_ok {qs : List Instr} {s : State} (ok : s.Ok qs) (n : Nat) (f : List Byte) :
    (s.setArea n f).Ok qs := by
  unfold State.setArea
  try dsimp only
  repeat' first
    | with_reducible exact ok
    | with_reducible assumption
    | with_reducible exact rfl
    | with_reducible apply State.snapShow_ok
    | with_reducible refine State.ok_mk ?_ ?_ ?_ ?_ ?_
    | exact rfl
    | (simp only [State.ev_valve, State.ev_fab, State.submit_valve]; done)

theorem State.snapshotBegin_ok {qs : List Instr} {s : State} (ok : s.Ok qs) :
    (s.snapshotBegin).Ok qs := by
  unfold State.snapshotBegin
  try dsimp only
  repeat' first
    | with_reducible exact ok
    | with_reducible assumption
    | with_reducible apply State.setArea_ok

theorem State.snapshotWritten_ok {qs : List Instr} {s : State} (ok : s.Ok qs) (ok : Bool) :
    (s.snapshotWritten ok).Ok qs := by
  unfold State.snapshotWritten
  try dsimp only
  repeat' first
    | with_reducible exact ok
    | with_reducible assumption
    | with_reducible exact rfl
    | with_reducible apply State.quadFree_ok
    | with_reducible apply State.tookN_ok
    | with_reducible apply State.setArea_ok
    | with_reducible apply State.put_ok
    | with_reducible apply State.mev_ok
    | with_reducible apply State.ok_ite
    | split
    | with_reducible refine State.ok_mk ?_ ?_ ?_ ?_ ?_
    | exact rfl
    | (simp only [State.ev_valve, State.ev_fab, State.submit_valve]; done)

theorem State.snapRestore_ok {qs : List Instr} {s : State} (ok : s.Ok qs) :
    (s.snapRestore).Ok qs := by
  unfold State.snapRestore
  try dsimp only
  repeat' first
    | with_reducible exact ok
    | with_reducible assumption
    | with_reducible exact rfl
    | with_reducible apply State.snapShow_ok
    | with_reducible apply State.put_ok
    | with_reducible apply State.ok_ite
    | split
    | with_reducible refine State.ok_mk ?_ ?_ ?_ ?_ ?_
    | exact rfl
    | (simp only [State.ev_valve, State.ev_fab, State.submit_valve]; done)

theorem State.bodyStart_ok {qs : List Instr} {s : State} (ok : s.Ok qs) (k : Nat) (cold : Bool) :
    (s.bodyStart k cold).Ok qs := by
  unfold State.bodyStart
  try dsimp only
  repeat' first
    | with_reducible exact ok
    | with_reducible assumption
    | with_reducible exact rfl
    | with_reducible apply State.setBody_ok
    | with_reducible apply State.setBst_ok
    | with_reducible apply State.resumeFrom_ok
    | split
    | with_reducible refine State.ok_mk ?_ ?_ ?_ ?_ ?_
    | exact rfl
    | (simp only [State.ev_valve, State.ev_fab, State.submit_valve]; done)

theorem State.quadTake_ok {qs : List Instr} {s : State} (ok : s.Ok qs) (p : Nat × Work) :
    (s.quadTake p).Ok qs := by
  unfold State.quadTake
  try dsimp only
  repeat' first
    | with_reducible exact ok
    | with_reducible assumption
    | with_reducible exact rfl
    | with_reducible apply State.solveStart_ok
    | with_reducible apply State.forecastBegin_ok
    | with_reducible apply State.snapshotBegin_ok
    | split
    | with_reducible refine State.ok_mk ?_ ?_ ?_ ?_ ?_
    | exact rfl
    | (simp only [State.ev_valve, State.ev_fab, State.submit_valve]; done)

theorem State.deferAll_ok {qs : List Instr} {s : State} (ok : s.Ok qs) :
    (s.deferAll).Ok qs := by
  unfold State.deferAll
  try dsimp only
  repeat' first
    | with_reducible exact ok
    | with_reducible assumption
    | with_reducible exact rfl
    | with_reducible apply State.put_ok
    | with_reducible apply State.ok_ite
    | split
    | with_reducible refine State.ok_mk ?_ ?_ ?_ ?_ ?_
    | exact rfl
    | (simp only [State.ev_valve, State.ev_fab, State.submit_valve]; done)

theorem State.dispatch_ok {qs : List Instr} {s : State} (ok : s.Ok qs) :
    (s.dispatch).Ok qs := by
  unfold State.dispatch
  try dsimp only
  repeat' first
    | with_reducible exact ok
    | with_reducible assumption
    | with_reducible exact rfl
    | with_reducible apply State.firmAdvance_ok
    | with_reducible apply State.deferAll_ok
    | with_reducible apply State.quadTake_ok
    | with_reducible refine State.each_ok ?_ _ (fun _ _ _ => ?_)
    | with_reducible apply State.ok_ite
    | split
    | with_reducible refine State.ok_mk ?_ ?_ ?_ ?_ ?_
    | exact rfl
    | (simp only [State.ev_valve, State.ev_fab, State.submit_valve]; done)

theorem State.millMinute_ok {qs : List Instr} {s : State} (ok : s.Ok qs) (k busy : Nat) :
    (s.millMinute k busy).Ok qs := by
  unfold State.millMinute
  try dsimp only
  repeat' first
    | with_reducible exact ok
    | with_reducible assumption
    | with_reducible exact rfl
    | with_reducible apply State.mev_ok
    | with_reducible apply State.setBody_ok
    | with_reducible apply State.put_ok
    | with_reducible apply State.ok_ite
    | split
    | with_reducible refine State.ok_mk ?_ ?_ ?_ ?_ ?_
    | exact rfl
    | (simp only [State.ev_valve, State.ev_fab, State.submit_valve]; done)

theorem State.millShow_ok {qs : List Instr} {s : State} (ok : s.Ok qs) :
    (s.millShow).Ok qs := by
  unfold State.millShow
  try dsimp only
  repeat' first
    | with_reducible exact ok
    | with_reducible assumption
    | with_reducible apply State.put_ok
    | with_reducible apply State.took_ok
    | with_reducible apply State.ok_ite
    | split

end Sys2Proof.Machine
end

