-- ==== Sys2Proof/Laws/GoodGov.lean ====
section
/-! SUPPORT. What GovOps defines keeps the queue of waiting commands, the canonical form of the register table and
the capacities of the queues (`State.Ok`). -/

namespace Sys2Proof.Machine

set_option linter.unusedTactic false
set_option linter.unreachableTactic false

open Reg

theorem State.setSlot_ok {qs : List Instr} {s : State} (ok : s.Ok qs) (n : Nat) (x : Slot) :
    (s.setSlot n x).Ok qs := by
  unfold State.setSlot
  try dsimp only
  repeat' first
    | with_reducible exact ok
    | with_reducible assumption
    | with_reducible exact rfl
    | with_reducible refine State.ok_mk ?_ ?_ ?_ ?_ ?_
    | exact rfl
    | (simp only [State.ev_valve, State.ev_fab, State.submit_valve]; done)

theorem State.gev_ok {qs : List Instr} {s : State} (ok : s.Ok qs) (code : Nat) (p0 : Nat) (p1 : Nat) (p2 : Nat) :
    (s.gev code p0 p1 p2).Ok qs := by
  unfold State.gev
  try dsimp only
  repeat' first
    | with_reducible exact ok
    | with_reducible assumption
    | with_reducible apply State.ev_ok

theorem State.modeRequest_ok {qs : List Instr} {s : State} (ok : s.Ok qs) (n m : Nat) (bySwap : Bool) :
    (s.modeRequest n m bySwap).Ok qs := by
  unfold State.modeRequest
  try dsimp only
  repeat' first
    | with_reducible exact ok
    | with_reducible assumption
    | with_reducible exact rfl
    | with_reducible apply State.setSlot_ok
    | with_reducible apply State.putB_ok
    | with_reducible refine State.ok_mk ?_ ?_ ?_ ?_ ?_
    | exact rfl
    | (simp only [State.ev_valve, State.ev_fab, State.submit_valve]; done)

theorem State.noRequest_ok {qs : List Instr} {s : State} (ok : s.Ok qs) (n : Nat) :
    (s.noRequest n).Ok qs := by
  unfold State.noRequest
  try dsimp only
  repeat' first
    | with_reducible exact ok
    | with_reducible assumption
    | with_reducible exact rfl
    | with_reducible apply State.setSlot_ok
    | with_reducible apply State.putB_ok
    | with_reducible refine State.ok_mk ?_ ?_ ?_ ?_ ?_
    | exact rfl
    | (simp only [State.ev_valve, State.ev_fab, State.submit_valve]; done)

theorem State.handOver_ok {qs : List Instr} {s : State} (ok : s.Ok qs) (n a : Nat) (v : F32) :
    (s.handOver n a v).Ok qs := by
  unfold State.handOver
  try dsimp only
  repeat' first
    | with_reducible exact ok
    | with_reducible assumption
    | with_reducible exact rfl
    | with_reducible apply State.setSlot_ok
    | with_reducible apply State.aoSlot_ok
    | with_reducible apply State.setFan_ok
    | with_reducible apply State.ok_ite
    | split
    | with_reducible refine State.ok_mk ?_ ?_ ?_ ?_ ?_
    | exact rfl
    | (simp only [State.ev_valve, State.ev_fab, State.submit_valve]; done)

theorem State.idleTarget_ok {qs : List Instr} {s : State} (ok : s.Ok qs) (n a : Nat) :
    (s.idleTarget n a).Ok qs := by
  unfold State.idleTarget
  try dsimp only
  repeat' first
    | with_reducible exact ok
    | with_reducible assumption
    | with_reducible exact rfl
    | with_reducible apply State.setSlot_ok
    | with_reducible apply State.put_ok
    | with_reducible apply State.aoIdle_ok
    | with_reducible apply State.setFan_ok
    | with_reducible apply State.ok_ite
    | split
    | with_reducible refine State.ok_mk ?_ ?_ ?_ ?_ ?_
    | exact rfl
    | (simp only [State.ev_valve, State.ev_fab, State.submit_valve]; done)

theorem State.followStep_ok {qs : List Instr} {s : State} (ok : s.Ok qs) (n a : Nat) :
    (s.followStep n a).Ok qs := by
  unfold State.followStep
  try dsimp only
  repeat' first
    | with_reducible exact ok
    | with_reducible assumption
    | with_reducible exact rfl
    | with_reducible apply State.setSlot_ok
    | with_reducible apply State.putB_ok
    | with_reducible apply State.gev_ok
    | with_reducible apply State.ok_ite
    | split
    | with_reducible refine State.ok_mk ?_ ?_ ?_ ?_ ?_
    | exact rfl
    | (simp only [State.ev_valve, State.ev_fab, State.submit_valve]; done)

theorem State.setSup_ok {qs : List Instr} {s : State} (ok : s.Ok qs) (n j : Nat) (x : Supervision) :
    (s.setSup n j x).Ok qs := by
  unfold State.setSup
  try dsimp only
  repeat' first
    | with_reducible exact ok
    | with_reducible assumption
    | with_reducible exact rfl
    | with_reducible apply State.setSlot_ok
    | with_reducible refine State.ok_mk ?_ ?_ ?_ ?_ ?_
    | exact rfl
    | (simp only [State.ev_valve, State.ev_fab, State.submit_valve]; done)

theorem State.supShow_ok {qs : List Instr} {s : State} (ok : s.Ok qs) (n : Nat) :
    (s.supShow n).Ok qs := by
  unfold State.supShow
  try dsimp only
  repeat' first
    | with_reducible exact ok
    | with_reducible assumption
    | with_reducible apply State.put_ok
    | with_reducible apply State.putB_ok
    | with_reducible apply State.setReg_ok

theorem State.infStop_ok {qs : List Instr} {s : State} (ok : s.Ok qs) (n : Nat) :
    (s.infStop n).Ok qs := by
  unfold State.infStop
  try dsimp only
  repeat' first
    | with_reducible exact ok
    | with_reducible assumption
    | with_reducible apply State.putB_ok
    | with_reducible apply State.gev_ok

theorem State.setManual_ok {qs : List Instr} {s : State} (ok : s.Ok qs) (n a : Nat) (q : Int) :
    (s.setManual n a q).Ok qs := by
  unfold State.setManual
  try dsimp only
  repeat' first
    | with_reducible exact ok
    | with_reducible assumption
    | with_reducible exact rfl
    | with_reducible apply State.setReg_ok
    | with_reducible apply State.setSlot_ok
    | with_reducible refine State.ok_mk ?_ ?_ ?_ ?_ ?_
    | exact rfl
    | (simp only [State.ev_valve, State.ev_fab, State.submit_valve]; done)

theorem State.saturated_ok {qs : List Instr} {s : State} (ok : s.Ok qs) (n k : Nat) :
    (s.saturated n k).Ok qs := by
  unfold State.saturated
  try dsimp only
  repeat' first
    | with_reducible exact ok
    | with_reducible assumption
    | with_reducible exact rfl
    | with_reducible apply State.setSlot_ok
    | with_reducible apply State.putB_ok
    | with_reducible apply State.ok_ite
    | split
    | with_reducible refine State.ok_mk ?_ ?_ ?_ ?_ ?_
    | exact rfl
    | (simp only [State.ev_valve, State.ev_fab, State.submit_valve]; done)

theorem State.fromPresent_ok {qs : List Instr} {s : State} (ok : s.Ok qs) (n : Nat) :
    (s.fromPresent n).Ok qs := by
  unfold State.fromPresent
  try dsimp only
  repeat' first
    | with_reducible exact ok
    | with_reducible assumption
    | with_reducible exact rfl
    | with_reducible apply State.setSlot_ok
    | with_reducible apply State.saturated_ok
    | with_reducible refine State.ok_mk ?_ ?_ ?_ ?_ ?_
    | exact rfl
    | (simp only [State.ev_valve, State.ev_fab, State.submit_valve]; done)

theorem State.takeFans_ok {qs : List Instr} {s : State} (ok : s.Ok qs) (n : Nat) :
    (s.takeFans n).Ok qs := by
  unfold State.takeFans
  try dsimp only
  repeat' first
    | with_reducible exact ok
    | with_reducible assumption
    | with_reducible exact rfl
    | with_reducible apply State.setFan_ok
    | with_reducible refine State.each_ok ?_ _ (fun _ _ _ => ?_)
    | with_reducible apply State.ok_ite
    | split
    | with_reducible refine State.ok_mk ?_ ?_ ?_ ?_ ?_
    | exact rfl
    | (simp only [State.ev_valve, State.ev_fab, State.submit_valve]; done)

theorem State.holdManual_ok {qs : List Instr} {s : State} (ok : s.Ok qs) (n : Nat) :
    (s.holdManual n).Ok qs := by
  unfold State.holdManual
  try dsimp only
  repeat' first
    | with_reducible exact ok
    | with_reducible assumption
    | with_reducible apply State.setManual_ok
    | with_reducible apply State.tookN_ok
    | with_reducible refine State.each_ok ?_ _ (fun _ _ _ => ?_)
    | with_reducible apply State.ok_ite
    | split

theorem State.cupAtTest_ok {qs : List Instr} {s : State} (ok : s.Ok qs) (n : Nat) :
    (s.cupAtTest n).Ok qs := by
  unfold State.cupAtTest
  try dsimp only
  repeat' first
    | with_reducible exact ok
    | with_reducible assumption
    | with_reducible apply State.put_ok
    | with_reducible apply State.ok_ite
    | split

theorem State.enterMode_ok {qs : List Instr} {s : State} (ok : s.Ok qs) (n new cause : Nat) :
    (s.enterMode n new cause).Ok qs := by
  unfold State.enterMode
  try dsimp only
  repeat' first
    | with_reducible exact ok
    | with_reducible assumption
    | with_reducible exact rfl
    | with_reducible apply State.gev_ok
    | with_reducible apply State.infStop_ok
    | with_reducible apply State.put_ok
    | with_reducible apply State.setSlot_ok
    | with_reducible apply State.takeFans_ok
    | with_reducible apply State.noRequest_ok
    | with_reducible apply State.idleTarget_ok
    | with_reducible apply State.supShow_ok
    | with_reducible apply State.holdManual_ok
    | with_reducible apply State.fromPresent_ok
    | with_reducible apply State.cupAtTest_ok
    | with_reducible refine State.each_ok ?_ _ (fun _ _ _ => ?_)
    | with_reducible apply State.ok_ite
    | split
    | with_reducible refine State.ok_mk ?_ ?_ ?_ ?_ ?_
    | exact rfl
    | (simp only [State.ev_valve, State.ev_fab, State.submit_valve]; done)

theorem State.fallBack_ok {qs : List Instr} {s : State} (ok : s.Ok qs) (n j : Nat) :
    (s.fallBack n j).Ok qs := by
  unfold State.fallBack
  try dsimp only
  repeat' first
    | with_reducible exact ok
    | with_reducible assumption
    | with_reducible exact rfl
    | with_reducible apply State.inc_ok
    | with_reducible apply State.setSup_ok
    | with_reducible apply State.gev_ok
    | with_reducible apply State.ok_ite
    | split
    | with_reducible refine State.ok_mk ?_ ?_ ?_ ?_ ?_
    | exact rfl
    | (simp only [State.ev_valve, State.ev_fab, State.submit_valve]; done)

theorem State.takeWords_ok {qs : List Instr} {s : State} (ok : s.Ok qs) (n : Nat) (changed : Bool) :
    (s.takeWords n changed).Ok qs := by
  unfold State.takeWords
  try dsimp only
  repeat' first
    | with_reducible exact ok
    | with_reducible assumption
    | with_reducible exact rfl
    | with_reducible apply State.setSlot_ok
    | with_reducible apply State.put_ok
    | with_reducible apply State.inc_ok
    | with_reducible refine State.foldl_ok (fun _ _ _ => ?_) _ ?_
    | with_reducible refine State.foldl_fst_ok (fun _ _ _ => ?_) _ ?_
    | with_reducible apply State.ok_ite
    | split
    | with_reducible refine State.ok_mk ?_ ?_ ?_ ?_ ?_
    | exact rfl
    | (simp only [State.ev_valve, State.ev_fab, State.submit_valve]; done)

theorem State.cascades_ok {qs : List Instr} {s : State} (ok : s.Ok qs) (n : Nat) :
    (s.cascades n).Ok qs := by
  unfold State.cascades
  try dsimp only
  repeat' first
    | with_reducible exact ok
    | with_reducible assumption
    | with_reducible exact rfl
    | with_reducible apply State.setSlot_ok
    | with_reducible apply State.gev_ok
    | with_reducible apply State.supShow_ok
    | with_reducible refine State.each_ok ?_ _ (fun _ _ _ => ?_)
    | with_reducible apply State.ok_ite
    | split
    | with_reducible refine State.ok_mk ?_ ?_ ?_ ?_ ?_
    | exact rfl
    | (simp only [State.ev_valve, State.ev_fab, State.submit_valve]; done)

theorem State.swapClose_ok {qs : List Instr} {s : State} (ok : s.Ok qs) (n : Nat) :
    (s.swapClose n).Ok qs := by
  unfold State.swapClose
  try dsimp only
  repeat' first
    | with_reducible exact ok
    | with_reducible assumption
    | with_reducible exact rfl
    | with_reducible apply State.setSlot_ok
    | with_reducible apply State.modeRequest_ok
    | with_reducible apply State.ok_ite
    | split
    | with_reducible refine State.ok_mk ?_ ?_ ?_ ?_ ?_
    | exact rfl
    | (simp only [State.ev_valve, State.ev_fab, State.submit_valve]; done)

theorem State.latch_ok {qs : List Instr} {s : State} (ok : s.Ok qs) (n : Nat) :
    (s.latch n).Ok qs := by
  unfold State.latch
  try dsimp only
  repeat' first
    | with_reducible exact ok
    | with_reducible assumption
    | with_reducible apply State.fallBack_ok
    | with_reducible apply State.takeWords_ok
    | with_reducible apply State.enterMode_ok
    | with_reducible apply State.cascades_ok
    | with_reducible apply State.swapClose_ok
    | with_reducible apply State.noRequest_ok
    | with_reducible apply State.inc_ok
    | with_reducible apply State.gev_ok
    | with_reducible refine State.each_ok ?_ _ (fun _ _ _ => ?_)
    | with_reducible apply State.ok_ite
    | split

theorem State.takeSource_ok {qs : List Instr} {s : State} (ok : s.Ok qs) (n j key cls idx : Nat) (firm : Bool) :
    (s.takeSource n j key cls idx firm).1.Ok qs := by
  unfold State.takeSource
  try dsimp only
  repeat' first
    | with_reducible exact ok
    | with_reducible assumption
    | with_reducible exact rfl
    | with_reducible apply State.setSlot_ok
    | with_reducible apply State.ok_ite
    | split
    | with_reducible refine State.ok_mk ?_ ?_ ?_ ?_ ?_
    | exact rfl
    | (simp only [State.ev_valve, State.ev_fab, State.submit_valve]; done)

theorem State.takeInputs_ok {qs : List Instr} {s : State} (ok : s.Ok qs) (n : Nat) :
    (s.takeInputs n).1.Ok qs := by
  unfold State.takeInputs
  try dsimp only
  repeat' first
    | with_reducible exact ok
    | with_reducible assumption
    | with_reducible apply State.takeSource_ok
    | with_reducible refine State.foldl_ok (fun _ _ _ => ?_) _ ?_
    | with_reducible refine State.foldl_fst_ok (fun _ _ _ => ?_) _ ?_
    | with_reducible apply State.ok_ite
    | split

theorem State.takeRefs_ok {qs : List Instr} {s : State} (ok : s.Ok qs) (n : Nat) :
    (s.takeRefs n).1.Ok qs := by
  unfold State.takeRefs
  try dsimp only
  repeat' first
    | with_reducible exact ok
    | with_reducible assumption
    | with_reducible exact rfl
    | with_reducible apply State.setSlot_ok
    | with_reducible refine State.foldl_ok (fun _ _ _ => ?_) _ ?_
    | with_reducible refine State.foldl_fst_ok (fun _ _ _ => ?_) _ ?_
    | with_reducible apply State.ok_ite
    | split
    | with_reducible refine State.ok_mk ?_ ?_ ?_ ?_ ?_
    | exact rfl
    | (simp only [State.ev_valve, State.ev_fab, State.submit_valve]; done)

theorem State.superviseOne_ok {qs : List Instr} {s : State} (ok : s.Ok qs) (n j : Nat) (cur : Seen) (prim : Option Seen) :
    (s.superviseOne n j cur prim).Ok qs := by
  unfold State.superviseOne
  try dsimp only
  repeat' first
    | with_reducible exact ok
    | with_reducible assumption
    | with_reducible exact rfl
    | with_reducible apply State.setSup_ok
    | with_reducible apply State.put_ok
    | with_reducible apply State.gev_ok
    | with_reducible apply State.inc_ok
    | with_reducible apply State.ok_ite
    | split
    | with_reducible refine State.ok_mk ?_ ?_ ?_ ?_ ?_
    | exact rfl
    | (simp only [State.ev_valve, State.ev_fab, State.submit_valve]; done)

theorem State.infuse_ok {qs : List Instr} {s : State} (ok : s.Ok qs) (n : Nat) :
    (s.infuse n).1.Ok qs := by
  unfold State.infuse
  try dsimp only
  repeat' first
    | with_reducible exact ok
    | with_reducible assumption
    | with_reducible exact rfl
    | with_reducible apply State.putB_ok
    | with_reducible apply State.setSlot_ok
    | with_reducible apply State.put_ok
    | with_reducible apply State.ok_ite
    | split
    | with_reducible refine State.ok_mk ?_ ?_ ?_ ?_ ?_
    | exact rfl
    | (simp only [State.ev_valve, State.ev_fab, State.submit_valve]; done)

theorem State.outcome_ok {qs : List Instr} {s : State} (ok : s.Ok qs) (n status reason : Nat) :
    (s.outcome n status reason).Ok qs := by
  unfold State.outcome
  try dsimp only
  repeat' first
    | with_reducible exact ok
    | with_reducible assumption
    | with_reducible exact rfl
    | with_reducible apply State.put_ok
    | with_reducible apply State.inc_ok
    | with_reducible apply State.setSlot_ok
    | with_reducible apply State.ok_ite
    | split
    | with_reducible refine State.ok_mk ?_ ?_ ?_ ?_ ?_
    | exact rfl
    | (simp only [State.ev_valve, State.ev_fab, State.submit_valve]; done)

theorem State.cupForm_ok {qs : List Instr} {s : State} (ok : s.Ok qs) (n status : Nat) (words : List Int) :
    (s.cupForm n status words).Ok qs := by
  unfold State.cupForm
  try dsimp only
  repeat' first
    | with_reducible exact ok
    | with_reducible assumption
    | with_reducible exact rfl
    | with_reducible apply State.ok_ite
    | split
    | with_reducible refine State.ok_mk ?_ ?_ ?_ ?_ ?_
    | exact rfl
    | (simp only [State.ev_valve, State.ev_fab, State.submit_valve]; done)

theorem State.failSlot_ok {qs : List Instr} {s : State} (ok : s.Ok qs) (n : Nat) :
    (s.failSlot n).Ok qs := by
  unfold State.failSlot
  try dsimp only
  repeat' first
    | with_reducible exact ok
    | with_reducible assumption
    | with_reducible exact rfl
    | with_reducible refine State.ok_mk ?_ ?_ ?_ ?_ ?_
    | exact rfl
    | (simp only [State.ev_valve, State.ev_fab, State.submit_valve]; done)

theorem State.latchKept_ok {qs : List Instr} {s : State} (ok : s.Ok qs) (n : Nat) (l : List (Nat × Taken)) (t : State) :
    (s.latchKept n l t).Ok qs := State.ok_with ok rfl rfl rfl rfl rfl rfl

theorem State.sampleRun_ok {qs : List Instr} {s : State} (ok : s.Ok qs) (n : Nat) (bump : Bool) (cut : SampleCut) :
    (s.sampleRun n bump cut).Ok qs := by
  unfold State.sampleRun
  extract_lets d x0 back s0 s1 tk rf s2 away actual w x susp fresh yh y0 y ig s3 rk r e seen s4 i o sats src s5 s6 s7 pass s8 s9 words fin
  have h0 : State.Ok qs s0 := State.setSlot_ok ok _ _
  have h1 : State.Ok qs s1 := State.setReg_ok (State.inc_ok h0 _) _ _
  have ht : State.Ok qs tk.1 := State.takeInputs_ok h1 n
  have hr : State.Ok qs rf.1 := State.takeRefs_ok ht n
  have h2 : State.Ok qs s2 := State.each_ok hr _ (fun _ _ k => State.followStep_ok k _ _)
  have h3 : State.Ok qs s3 := State.infuse_ok h2 n
  have h4 : State.Ok qs s4 := State.each_ok h3 _ (fun _ _ k => State.superviseOne_ok k _ _ _ _)
  have h5 : State.Ok qs s5 := State.setSlot_ok (State.tookN_ok (State.latchKept_ok h4 _ _ _) _) _ _
  have h6 : State.Ok qs s6 := State.each_ok h5 _ (fun _ _ k => State.put_ok k _ _)
  have h7 : State.Ok qs s7 := State.ok_ite
    (State.foldl_ok (fun _ _ k => State.gev_ok (State.putB_ok k _ _) _ _ _ _) _ (State.inc_ok h6 _)) h6
  have h8 : State.Ok qs s8 := State.put_ok (State.saturated_ok h7 _ _) _ _
  have h9 : State.Ok qs s9 := State.ok_ite (State.incSat_ok h8 _) (State.put_ok h8 _ _)
  have hf : ∀ (t : State) (a b : Nat), State.Ok qs t → State.Ok qs (fin t a b) := fun t a b k =>
    State.supShow_ok (State.cupForm_ok (State.outcome_ok k _ _ _) _ _ _) _
  clear_value fin s9
  cases cut with
  | clean => exact hf _ _ _ (State.each_ok (State.setSlot_ok h9 _ _) _ (fun _ _ k => State.handOver_ok k _ _ _))
  | off => exact State.enterMode_ok (hf _ _ _ h9) _ _ _
  | removed => exact hf _ _ _ h9
  | lockstep => exact State.failSlot_ok (hf _ _ _ h9) _

theorem State.govSample_ok {qs : List Instr} {s : State} (ok : s.Ok qs) (n : Nat) (cut : SampleCut) :
    (s.govSample n cut).Ok qs := by
  unfold State.govSample
  try dsimp only
  repeat' first
    | with_reducible exact ok
    | with_reducible assumption
    | with_reducible exact rfl
    | with_reducible apply State.setSlot_ok
    | with_reducible apply State.outcome_ok
    | with_reducible apply State.failSlot_ok
    | with_reducible apply State.latch_ok
    | with_reducible apply State.sampleRun_ok
    | with_reducible apply State.ok_ite
    | split
    | with_reducible refine State.ok_mk ?_ ?_ ?_ ?_ ?_
    | exact rfl
    | (simp only [State.ev_valve, State.ev_fab, State.submit_valve]; done)

theorem State.staleTimeout_ok {qs : List Instr} {s : State} (ok : s.Ok qs) (n j : Nat) (prim : Bool) :
    (s.staleTimeout n j prim).Ok qs := by
  unfold State.staleTimeout
  try dsimp only
  repeat' first
    | with_reducible exact ok
    | with_reducible assumption
    | with_reducible exact rfl
    | with_reducible apply State.setSup_ok
    | with_reducible apply State.inc_ok
    | with_reducible apply State.gev_ok
    | with_reducible apply State.supShow_ok
    | with_reducible apply State.ok_ite
    | split
    | with_reducible refine State.ok_mk ?_ ?_ ?_ ?_ ?_
    | exact rfl
    | (simp only [State.ev_valve, State.ev_fab, State.submit_valve]; done)

theorem State.coastExpire_ok {qs : List Instr} {s : State} (ok : s.Ok qs) (n j : Nat) :
    (s.coastExpire n j).Ok qs := by
  unfold State.coastExpire
  try dsimp only
  repeat' first
    | with_reducible exact ok
    | with_reducible assumption
    | with_reducible exact rfl
    | with_reducible apply State.setSup_ok
    | with_reducible apply State.put_ok
    | with_reducible apply State.ok_ite
    | split
    | with_reducible refine State.ok_mk ?_ ?_ ?_ ?_ ?_
    | exact rfl
    | (simp only [State.ev_valve, State.ev_fab, State.submit_valve]; done)

theorem State.testLimit_ok {qs : List Instr} {s : State} (ok : s.Ok qs) (n : Nat) :
    (s.testLimit n).Ok qs := by
  unfold State.testLimit
  try dsimp only
  repeat' first
    | with_reducible exact ok
    | with_reducible assumption
    | with_reducible exact rfl
    | with_reducible apply State.setSlot_ok
    | with_reducible apply State.ok_ite
    | split
    | with_reducible refine State.ok_mk ?_ ?_ ?_ ?_ ?_
    | exact rfl
    | (simp only [State.ev_valve, State.ev_fab, State.submit_valve]; done)

theorem State.govMinute_ok {qs : List Instr} {s : State} (ok : s.Ok qs) (n : Nat) :
    (s.govMinute n).Ok qs := by
  unfold State.govMinute
  try dsimp only
  repeat' first
    | with_reducible exact ok
    | with_reducible assumption
    | with_reducible exact rfl
    | with_reducible apply State.setSlot_ok
    | with_reducible apply State.gev_ok
    | with_reducible apply State.ok_ite
    | split
    | with_reducible refine State.ok_mk ?_ ?_ ?_ ?_ ?_
    | exact rfl
    | (simp only [State.ev_valve, State.ev_fab, State.submit_valve]; done)

theorem State.coefWrite_ok {qs : List Instr} {s : State} (ok : s.Ok qs) (n o : Nat) (w : Word) :
    (s.coefWrite n o w).Ok qs := by
  unfold State.coefWrite
  try dsimp only
  repeat' first
    | with_reducible exact ok
    | with_reducible assumption
    | with_reducible exact rfl
    | with_reducible apply State.setReg_ok
    | with_reducible apply State.setSlot_ok
    | with_reducible apply State.put_ok
    | with_reducible apply State.ok_ite
    | split
    | with_reducible refine State.ok_mk ?_ ?_ ?_ ?_ ?_
    | exact rfl
    | (simp only [State.ev_valve, State.ev_fab, State.submit_valve]; done)

theorem State.govBoot_ok {qs : List Instr} {s : State} (ok : s.Ok qs) :
    (s.govBoot).Ok qs := by
  unfold State.govBoot
  try dsimp only
  repeat' first
    | with_reducible exact ok
    | with_reducible assumption
    | with_reducible apply State.enterMode_ok
    | with_reducible refine State.each_ok ?_ _ (fun _ _ _ => ?_)
    | with_reducible apply State.ok_ite
    | split

theorem State.govRemove_ok {qs : List Instr} {s : State} (ok : s.Ok qs) (n : Nat) :
    (s.govRemove n).Ok qs := by
  unfold State.govRemove
  try dsimp only
  repeat' first
    | with_reducible exact ok
    | with_reducible assumption
    | with_reducible exact rfl
    | with_reducible apply State.setSlot_ok
    | with_reducible apply State.noRequest_ok
    | with_reducible apply State.enterMode_ok
    | with_reducible apply State.cascades_ok
    | with_reducible apply State.ok_ite
    | split
    | with_reducible refine State.ok_mk ?_ ?_ ?_ ?_ ?_
    | exact rfl
    | (simp only [State.ev_valve, State.ev_fab, State.submit_valve]; done)

theorem State.govAdd_ok {qs : List Instr} {s : State} (ok : s.Ok qs) (n : Nat) :
    (s.govAdd n).Ok qs := by
  unfold State.govAdd
  try dsimp only
  repeat' first
    | with_reducible exact ok
    | with_reducible assumption
    | with_reducible exact rfl
    | with_reducible apply State.setSlot_ok
    | with_reducible refine State.ok_mk ?_ ?_ ?_ ?_ ?_
    | exact rfl
    | (simp only [State.ev_valve, State.ev_fab, State.submit_valve]; done)

theorem State.infCfgWrite_ok {qs : List Instr} {s : State} (ok : s.Ok qs) (n : Nat) (w : Word) :
    (s.infCfgWrite n w).Ok qs := by
  unfold State.infCfgWrite
  try dsimp only
  repeat' first
    | with_reducible exact ok
    | with_reducible assumption
    | with_reducible exact rfl
    | with_reducible apply State.setReg_ok
    | with_reducible apply State.setSlot_ok
    | with_reducible apply State.ok_ite
    | split
    | with_reducible refine State.ok_mk ?_ ?_ ?_ ?_ ?_
    | exact rfl
    | (simp only [State.ev_valve, State.ev_fab, State.submit_valve]; done)

theorem State.cupShow_ok {qs : List Instr} {s : State} (ok : s.Ok qs) :
    (s.cupShow).Ok qs := by
  unfold State.cupShow
  try dsimp only
  repeat' first
    | with_reducible exact ok
    | with_reducible assumption
    | with_reducible apply State.put_ok
    | with_reducible apply State.setReg_ok
    | split

theorem State.cupStop_ok {qs : List Instr} {s : State} (ok : s.Ok qs) (state why : Nat) :
    (s.cupStop state why).Ok qs := by
  unfold State.cupStop
  try dsimp only
  repeat' first
    | with_reducible exact ok
    | with_reducible assumption
    | with_reducible apply State.put_ok
    | with_reducible apply State.gev_ok

theorem State.cupPut_ok {qs : List Instr} {s : State} (ok : s.Ok qs) (o : Nat) (l : List Byte) :
    (s.cupPut o l).Ok qs := by
  unfold State.cupPut
  try dsimp only
  repeat' first
    | with_reducible exact ok
    | with_reducible assumption
    | with_reducible exact rfl
    | with_reducible refine State.foldl_ok (fun _ _ _ => ?_) _ ?_
    | with_reducible refine State.foldl_fst_ok (fun _ _ _ => ?_) _ ?_
    | with_reducible refine State.ok_mk ?_ ?_ ?_ ?_ ?_
    | exact rfl
    | (simp only [State.ev_valve, State.ev_fab, State.submit_valve]; done)

theorem State.cupWrite_ok {qs : List Instr} {s : State} (ok : s.Ok qs) (tk : Nat) (body : List Byte) :
    (s.cupWrite tk body).Ok qs := by
  unfold State.cupWrite
  try dsimp only
  repeat' first
    | with_reducible exact ok
    | with_reducible assumption
    | with_reducible exact rfl
    | with_reducible apply State.cupStop_ok
    | with_reducible apply State.cupPut_ok
    | with_reducible apply State.setReg_ok
    | with_reducible apply State.cupShow_ok
    | with_reducible apply State.ok_ite
    | split
    | with_reducible refine State.ok_mk ?_ ?_ ?_ ?_ ?_
    | exact rfl
    | (simp only [State.ev_valve, State.ev_fab, State.submit_valve]; done)

theorem State.cupCarry_ok {qs : List Instr} {s : State} (ok : s.Ok qs) :
    (s.cupCarry).Ok qs := by
  unfold State.cupCarry
  try dsimp only
  repeat' first
    | with_reducible exact ok
    | with_reducible assumption
    | with_reducible exact rfl
    | with_reducible apply State.cupWrite_ok
    | with_reducible refine State.foldl_ok (fun _ _ _ => ?_) _ ?_
    | with_reducible refine State.foldl_fst_ok (fun _ _ _ => ?_) _ ?_
    | with_reducible refine State.ok_mk ?_ ?_ ?_ ?_ ?_
    | exact rfl
    | (simp only [State.ev_valve, State.ev_fab, State.submit_valve]; done)

theorem State.cupCtrl_ok {qs : List Instr} {s : State} (ok : s.Ok qs) (action : Nat) :
    (s.cupCtrl action).Ok qs := by
  unfold State.cupCtrl
  try dsimp only
  repeat' first
    | with_reducible exact ok
    | with_reducible assumption
    | with_reducible exact rfl
    | with_reducible apply State.put_ok
    | with_reducible apply State.cupStop_ok
    | with_reducible apply State.setReg_ok
    | with_reducible apply State.cupShow_ok
    | with_reducible apply State.ok_ite
    | split
    | with_reducible refine State.ok_mk ?_ ?_ ?_ ?_ ?_
    | exact rfl
    | (simp only [State.ev_valve, State.ev_fab, State.submit_valve]; done)

theorem State.cupAt_ok {qs : List Instr} {s : State} (ok : s.Ok qs) :
    (s.cupAt).Ok qs := by
  unfold State.cupAt
  try dsimp only
  repeat' first
    | with_reducible exact ok
    | with_reducible assumption
    | with_reducible apply State.put_ok
    | with_reducible apply State.ok_ite
    | split

end Sys2Proof.Machine
end

