-- ==== Sys2Proof/Laws/GoodGuard.lean ====
section
/-! SUPPORT. What GuardOps defines keeps the queue of waiting commands, the canonical form of the register table and
the capacities of the queues (`State.Ok`). -/

namespace Sys2Proof.Machine

set_option linter.unusedTactic false
set_option linter.unreachableTactic false

open Reg

theorem State.aev_ok {qs : List Instr} {s : State} (ok : s.Ok qs) (code : Nat) (p0 : Nat) (p1 : Nat) (p2 : Nat) :
    (s.aev code p0 p1 p2).Ok qs := by
  unfold State.aev
  try dsimp only
  repeat' first
    | with_reducible exact ok
    | with_reducible assumption
    | with_reducible apply State.ev_ok

theorem State.guardPublish_ok {qs : List Instr} {s : State} (ok : s.Ok qs) (n : Nat) :
    (s.guardPublish n).Ok qs := by
  unfold State.guardPublish
  try dsimp only
  repeat' first
    | with_reducible exact ok
    | with_reducible assumption
    | with_reducible apply State.put_ok
    | with_reducible apply State.publish_ok
    | with_reducible apply State.forward_ok
    | with_reducible refine State.each_ok ?_ _ (fun _ _ _ => ?_)
    | with_reducible apply State.ok_ite
    | split

theorem State.setLost_ok {qs : List Instr} {s : State} (ok : s.Ok qs) (n l : Nat) :
    (s.setLost n l).Ok qs := by
  unfold State.setLost
  try dsimp only
  repeat' first
    | with_reducible exact ok
    | with_reducible assumption
    | with_reducible exact rfl
    | with_reducible apply State.putB_ok
    | with_reducible refine State.ok_mk ?_ ?_ ?_ ?_ ?_
    | exact rfl
    | (simp only [State.ev_valve, State.ev_fab, State.submit_valve]; done)

theorem State.goodSample_ok {qs : List Instr} {s : State} (ok : s.Ok qs) (n : Nat) (code : Int) (lost : Nat) :
    (s.goodSample n code lost).Ok qs := by
  unfold State.goodSample
  try dsimp only
  repeat' first
    | with_reducible exact ok
    | with_reducible assumption
    | with_reducible exact rfl
    | with_reducible apply State.putB_ok
    | with_reducible apply State.put_ok
    | with_reducible apply State.aev_ok
    | with_reducible apply State.setLost_ok
    | with_reducible apply State.ok_ite
    | split
    | with_reducible refine State.ok_mk ?_ ?_ ?_ ?_ ?_
    | exact rfl
    | (simp only [State.ev_valve, State.ev_fab, State.submit_valve]; done)

theorem State.badSample_ok {qs : List Instr} {s : State} (ok : s.Ok qs) (n : Nat) :
    (s.badSample n).Ok qs := by
  unfold State.badSample
  try dsimp only
  repeat' first
    | with_reducible exact ok
    | with_reducible assumption
    | with_reducible exact rfl
    | with_reducible apply State.putB_ok
    | with_reducible apply State.put_ok
    | with_reducible apply State.incSat_ok
    | with_reducible apply State.aev_ok
    | with_reducible apply State.ok_ite
    | split
    | with_reducible refine State.ok_mk ?_ ?_ ?_ ?_ ?_
    | exact rfl
    | (simp only [State.ev_valve, State.ev_fab, State.submit_valve]; done)

theorem State.zoneShow_ok {qs : List Instr} {s : State} (ok : s.Ok qs) (z : Nat) :
    (s.zoneShow z).Ok qs := by
  unfold State.zoneShow
  try dsimp only
  repeat' first
    | with_reducible exact ok
    | with_reducible assumption
    | with_reducible apply State.put_ok
    | with_reducible apply State.putB_ok
    | with_reducible refine State.foldl_ok (fun _ _ _ => ?_) _ ?_
    | with_reducible refine State.foldl_fst_ok (fun _ _ _ => ?_) _ ?_
    | with_reducible apply State.ok_ite
    | split

theorem State.zoneSummary_ok {qs : List Instr} {s : State} (ok : s.Ok qs) :
    (s.zoneSummary).Ok qs := by
  unfold State.zoneSummary
  try dsimp only
  repeat' first
    | with_reducible exact ok
    | with_reducible assumption
    | with_reducible apply State.put_ok
    | with_reducible apply State.putB_ok

theorem State.dwellShow_ok {qs : List Instr} {s : State} (ok : s.Ok qs) (z : Nat) (cut : Bool) :
    (s.dwellShow z cut).Ok qs := by
  unfold State.dwellShow
  try dsimp only
  repeat' first
    | with_reducible exact ok
    | with_reducible assumption
    | with_reducible apply State.putB_ok
    | with_reducible apply State.ok_ite
    | split

theorem State.zoneEnter1_ok {qs : List Instr} {s : State} (ok : s.Ok qs) (z : Nat) (cut : Bool) :
    (s.zoneEnter1 z cut).Ok qs := by
  unfold State.zoneEnter1
  try dsimp only
  repeat' first
    | with_reducible exact ok
    | with_reducible assumption
    | with_reducible exact rfl
    | with_reducible apply State.putB_ok
    | with_reducible apply State.aev_ok
    | with_reducible apply State.incSat_ok
    | with_reducible apply State.ok_ite
    | split
    | with_reducible refine State.ok_mk ?_ ?_ ?_ ?_ ?_
    | exact rfl
    | (simp only [State.ev_valve, State.ev_fab, State.submit_valve]; done)

theorem State.zoneEnter_ok {qs : List Instr} {s : State} (ok : s.Ok qs) (z : Nat) (cut : Bool) :
    (s.zoneEnter z cut).Ok qs := by
  unfold State.zoneEnter
  try dsimp only
  repeat' first
    | with_reducible exact ok
    | with_reducible assumption
    | with_reducible apply State.zoneEnter1_ok
    | with_reducible apply State.ok_ite
    | split

theorem State.zoneJudge_ok {qs : List Instr} {s : State} (ok : s.Ok qs) (z n : Nat) (cut : Bool) :
    (s.zoneJudge z n cut).Ok qs := by
  unfold State.zoneJudge
  try dsimp only
  repeat' first
    | with_reducible exact ok
    | with_reducible assumption
    | with_reducible exact rfl
    | with_reducible apply State.zoneEnter_ok
    | with_reducible apply State.dwellShow_ok
    | with_reducible apply State.ok_ite
    | split
    | with_reducible refine State.ok_mk ?_ ?_ ?_ ?_ ?_
    | exact rfl
    | (simp only [State.ev_valve, State.ev_fab, State.submit_valve]; done)

theorem State.guardFast_ok {qs : List Instr} {s : State} (ok : s.Ok qs) (n : Nat) :
    (s.guardFast n).Ok qs := by
  unfold State.guardFast
  try dsimp only
  repeat' first
    | with_reducible exact ok
    | with_reducible assumption
    | with_reducible apply State.putB_ok
    | with_reducible apply State.put_ok
    | with_reducible apply State.ok_ite
    | split

theorem State.overrideStart_ok {qs : List Instr} {s : State} (ok : s.Ok qs) (z fans : Nat) :
    (s.overrideStart z fans).Ok qs := by
  unfold State.overrideStart
  try dsimp only
  repeat' first
    | with_reducible exact ok
    | with_reducible assumption
    | with_reducible apply State.putB_ok
    | with_reducible apply State.aev_ok

theorem State.overrides_ok {qs : List Instr} {s : State} (ok : s.Ok qs) :
    (s.overrides).Ok qs := by
  unfold State.overrides
  try dsimp only
  repeat' first
    | with_reducible exact ok
    | with_reducible assumption
    | with_reducible exact rfl
    | with_reducible apply State.overrideStart_ok
    | with_reducible apply State.ok_ite
    | split
    | with_reducible refine State.ok_mk ?_ ?_ ?_ ?_ ?_
    | exact rfl
    | (simp only [State.ev_valve, State.ev_fab, State.submit_valve]; done)

theorem State.guardFans_ok {qs : List Instr} {s : State} (ok : s.Ok qs) :
    (s.guardFans).Ok qs := by
  unfold State.guardFans
  try dsimp only
  repeat' first
    | with_reducible exact ok
    | with_reducible assumption
    | with_reducible apply State.putB_ok
    | with_reducible apply State.overrides_ok

theorem State.cutOverride_ok {qs : List Instr} {s : State} (ok : s.Ok qs) (z fans : Nat) (banks : List Nat) :
    (s.cutOverride z fans banks).Ok qs := by
  unfold State.cutOverride
  try dsimp only
  repeat' first
    | with_reducible exact ok
    | with_reducible assumption
    | with_reducible apply State.overrideStart_ok
    | with_reducible apply State.ok_ite
    | split

theorem State.guardCut_ok {qs : List Instr} {s : State} (ok : s.Ok qs) (die : Nat) :
    (s.guardCut die).Ok qs := by
  unfold State.guardCut
  try dsimp only
  repeat' first
    | with_reducible exact ok
    | with_reducible assumption
    | with_reducible exact rfl
    | with_reducible apply State.send_ok
    | with_reducible apply State.cutOverride_ok
    | with_reducible apply State.cutBanks_ok
    | with_reducible apply State.bankShow_ok
    | with_reducible refine State.each_ok ?_ _ (fun _ _ _ => ?_)
    | with_reducible apply State.ok_ite
    | split
    | with_reducible refine State.ok_mk ?_ ?_ ?_ ?_ ?_
    | exact rfl
    | (simp only [State.ev_valve, State.ev_fab, State.submit_valve]; done)

theorem State.millAbandon_ok {qs : List Instr} {s : State} (ok : s.Ok qs) :
    (s.millAbandon).Ok qs := by
  unfold State.millAbandon
  try dsimp only
  repeat' first
    | with_reducible exact ok
    | with_reducible assumption
    | with_reducible exact rfl
    | with_reducible refine State.ok_mk ?_ ?_ ?_ ?_ ?_
    | exact rfl
    | (simp only [State.ev_valve, State.ev_fab, State.submit_valve]; done)

theorem State.thermalHalt_ok {qs : List Instr} {s : State} (ok : s.Ok qs) (z : Nat) :
    (s.thermalHalt z).Ok qs := by
  unfold State.thermalHalt
  try dsimp only
  repeat' first
    | with_reducible exact ok
    | with_reducible assumption
    | with_reducible exact rfl
    | with_reducible apply State.incSat_ok
    | with_reducible apply State.put_ok
    | with_reducible apply State.send_ok
    | with_reducible apply State.cutOverride_ok
    | with_reducible apply State.cutBanks_ok
    | with_reducible apply State.fansCut_ok
    | with_reducible apply State.aoSafe_ok
    | with_reducible apply State.millAbandon_ok
    | with_reducible apply State.aev_ok
    | with_reducible apply State.unfreeze_ok
    | with_reducible apply State.stripHalt_ok
    | with_reducible apply State.ok_ite
    | split
    | with_reducible refine State.ok_mk ?_ ?_ ?_ ?_ ?_
    | exact rfl
    | (simp only [State.ev_valve, State.ev_fab, State.submit_valve]; done)

theorem State.guardHalt_ok {qs : List Instr} {s : State} (ok : s.Ok qs) :
    (s.guardHalt).Ok qs := by
  unfold State.guardHalt
  try dsimp only
  repeat' first
    | with_reducible exact ok
    | with_reducible assumption
    | with_reducible exact rfl
    | with_reducible apply State.thermalHalt_ok
    | with_reducible refine State.foldl_ok (fun _ _ _ => ?_) _ ?_
    | with_reducible refine State.foldl_fst_ok (fun _ _ _ => ?_) _ ?_
    | with_reducible apply State.ok_ite
    | split
    | with_reducible refine State.ok_mk ?_ ?_ ?_ ?_ ?_
    | exact rfl
    | (simp only [State.ev_valve, State.ev_fab, State.submit_valve]; done)

theorem State.guardActs_ok {qs : List Instr} {s : State} (ok : s.Ok qs) :
    (s.guardActs).Ok qs := by
  unfold State.guardActs
  try dsimp only
  repeat' first
    | with_reducible exact ok
    | with_reducible assumption
    | with_reducible apply State.zoneSummary_ok
    | with_reducible apply State.guardFans_ok
    | with_reducible apply State.guardCut_ok
    | with_reducible apply State.guardHalt_ok

theorem State.haltWatch_ok {qs : List Instr} {s : State} (ok : s.Ok qs) (n : Nat) :
    (s.haltWatch n).Ok qs := by
  unfold State.haltWatch
  try dsimp only
  repeat' first
    | with_reducible exact ok
    | with_reducible assumption
    | with_reducible exact rfl
    | with_reducible apply State.put_ok
    | with_reducible apply State.putB_ok
    | with_reducible apply State.ok_ite
    | split
    | with_reducible refine State.ok_mk ?_ ?_ ?_ ?_ ?_
    | exact rfl
    | (simp only [State.ev_valve, State.ev_fab, State.submit_valve]; done)

theorem State.guardSample_ok {qs : List Instr} {s : State} (ok : s.Ok qs) (n : Nat) (rawA : Word) (okA : Bool) (rawB : Word) (okB : Bool) :
    (s.guardSample n rawA okA rawB okB).Ok qs := by
  unfold State.guardSample
  try dsimp only
  repeat' first
    | with_reducible exact ok
    | with_reducible assumption
    | with_reducible exact rfl
    | with_reducible apply State.took_ok
    | with_reducible apply State.goodSample_ok
    | with_reducible apply State.badSample_ok
    | with_reducible apply State.guardPublish_ok
    | with_reducible apply State.zoneShow_ok
    | with_reducible apply State.zoneJudge_ok
    | with_reducible apply State.guardFast_ok
    | with_reducible apply State.haltWatch_ok
    | with_reducible apply State.guardActs_ok
    | with_reducible refine State.each_ok ?_ _ (fun _ _ _ => ?_)
    | with_reducible apply State.ok_ite
    | split
    | with_reducible refine State.ok_mk ?_ ?_ ?_ ?_ ?_
    | exact rfl
    | (simp only [State.ev_valve, State.ev_fab, State.submit_valve]; done)

theorem State.dwellExpire_ok {qs : List Instr} {s : State} (ok : s.Ok qs) (z : Nat) (cut : Bool) :
    (s.dwellExpire z cut).Ok qs := by
  unfold State.dwellExpire
  try dsimp only
  repeat' first
    | with_reducible exact ok
    | with_reducible assumption
    | with_reducible exact rfl
    | with_reducible apply State.putB_ok
    | with_reducible apply State.aev_ok
    | with_reducible apply State.guardActs_ok
    | with_reducible apply State.ok_ite
    | split
    | with_reducible refine State.ok_mk ?_ ?_ ?_ ?_ ?_
    | exact rfl
    | (simp only [State.ev_valve, State.ev_fab, State.submit_valve]; done)

end Sys2Proof.Machine
end

