-- ==== Sys2Proof/Laws/GoodNetBase.lean ====
section
/-! SUPPORT. What NetBase defines keeps the queue of waiting commands, the canonical form of the register table and
the capacities of the queues (`State.Ok`). -/

namespace Sys2Proof.Machine

set_option linter.unusedTactic false
set_option linter.unreachableTactic false

open Reg

theorem State.nev_ok {qs : List Instr} {s : State} (ok : s.Ok qs) (code : Nat) (p0 : Nat) (p1 : Nat) (p2 : Nat) :
    (s.nev code p0 p1 p2).Ok qs := by
  unfold State.nev
  try dsimp only
  repeat' first
    | with_reducible exact ok
    | with_reducible assumption
    | with_reducible apply State.ev_ok

theorem State.wdogRelease_ok {qs : List Instr} {s : State} (ok : s.Ok qs) :
    (s.wdogRelease).Ok qs := by
  unfold State.wdogRelease
  try dsimp only
  repeat' first
    | with_reducible exact ok
    | with_reducible assumption
    | with_reducible exact rfl
    | with_reducible apply State.putB_ok
    | with_reducible apply State.put_ok
    | with_reducible apply State.nev_ok
    | with_reducible refine State.ok_mk ?_ ?_ ?_ ?_ ?_
    | exact rfl
    | (simp only [State.ev_valve, State.ev_fab, State.submit_valve]; done)

theorem State.heartbeat_ok {qs : List Instr} {s : State} (ok : s.Ok qs) (req : Nat) :
    (s.heartbeat req).Ok qs := by
  unfold State.heartbeat
  try dsimp only
  repeat' first
    | with_reducible exact ok
    | with_reducible assumption
    | with_reducible exact rfl
    | with_reducible apply State.wdogRelease_ok
    | with_reducible apply State.put_ok
    | with_reducible apply State.ok_ite
    | split
    | with_reducible refine State.ok_mk ?_ ?_ ?_ ?_ ?_
    | exact rfl
    | (simp only [State.ev_valve, State.ev_fab, State.submit_valve]; done)

theorem State.wdogTrip_ok {qs : List Instr} {s : State} (ok : s.Ok qs) :
    (s.wdogTrip).Ok qs := by
  unfold State.wdogTrip
  try dsimp only
  repeat' first
    | with_reducible exact ok
    | with_reducible assumption
    | with_reducible exact rfl
    | with_reducible apply State.putB_ok
    | with_reducible apply State.put_ok
    | with_reducible apply State.incSat_ok
    | with_reducible apply State.nev_ok
    | with_reducible apply State.ok_ite
    | split
    | with_reducible refine State.ok_mk ?_ ?_ ?_ ?_ ?_
    | exact rfl
    | (simp only [State.ev_valve, State.ev_fab, State.submit_valve]; done)

theorem State.setSession_ok {qs : List Instr} {s : State} (ok : s.Ok qs) (n : Nat) (x : Session) :
    (s.setSession n x).Ok qs := by
  unfold State.setSession
  try dsimp only
  repeat' first
    | with_reducible exact ok
    | with_reducible assumption
    | with_reducible exact rfl
    | with_reducible refine State.ok_mk ?_ ?_ ?_ ?_ ?_
    | exact rfl
    | (simp only [State.ev_valve, State.ev_fab, State.submit_valve]; done)

theorem State.kmpSend_ok {qs : List Instr} {s : State} (ok : s.Ok qs) (n op status : Nat) (body : List Byte) :
    (s.kmpSend n op status body).Ok qs := by
  unfold State.kmpSend
  try dsimp only
  repeat' first
    | with_reducible exact ok
    | with_reducible assumption
    | with_reducible exact rfl
    | with_reducible apply State.setSession_ok
    | with_reducible apply State.send_ok
    | with_reducible apply State.took_ok
    | with_reducible apply State.ok_ite
    | split
    | with_reducible refine State.ok_mk ?_ ?_ ?_ ?_ ?_
    | exact rfl
    | (simp only [State.ev_valve, State.ev_fab, State.submit_valve]; done)

theorem State.kmpReply_ok {qs : List Instr} {s : State} (ok : s.Ok qs) (n op ctr status : Nat) (body : List Byte) :
    (s.kmpReply n op ctr status body).Ok qs := by
  unfold State.kmpReply
  try dsimp only
  repeat' first
    | with_reducible exact ok
    | with_reducible assumption
    | with_reducible apply State.kmpSend_ok

theorem State.kmpTagFail_ok {qs : List Instr} {s : State} (ok : s.Ok qs) (src : Nat) :
    (s.kmpTagFail src).Ok qs := by
  unfold State.kmpTagFail
  try dsimp only
  repeat' first
    | with_reducible exact ok
    | with_reducible assumption
    | with_reducible exact rfl
    | with_reducible apply State.inc_ok
    | with_reducible refine State.ok_mk ?_ ?_ ?_ ?_ ?_
    | exact rfl
    | (simp only [State.ev_valve, State.ev_fab, State.submit_valve]; done)

theorem State.kmpSecond_ok {qs : List Instr} {s : State} (ok : s.Ok qs) :
    (s.kmpSecond).Ok qs := by
  unfold State.kmpSecond
  try dsimp only
  repeat' first
    | with_reducible exact ok
    | with_reducible assumption
    | with_reducible exact rfl
    | with_reducible apply State.nev_ok
    | with_reducible apply State.ok_ite
    | split
    | with_reducible refine State.ok_mk ?_ ?_ ?_ ?_ ?_
    | exact rfl
    | (simp only [State.ev_valve, State.ev_fab, State.submit_valve]; done)

theorem State.busyShow_ok {qs : List Instr} {s : State} (ok : s.Ok qs) :
    (s.busyShow).Ok qs := by
  unfold State.busyShow
  try dsimp only
  repeat' first
    | with_reducible exact ok
    | with_reducible assumption
    | with_reducible apply State.putB_ok

theorem State.xferDrop_ok {qs : List Instr} {s : State} (ok : s.Ok qs) (x : Xfer) :
    (s.xferDrop x).Ok qs := by
  unfold State.xferDrop
  try dsimp only
  repeat' first
    | with_reducible exact ok
    | with_reducible assumption
    | with_reducible exact rfl
    | with_reducible apply State.busyShow_ok
    | with_reducible apply State.setBody_ok
    | with_reducible apply State.bodyNext_ok
    | with_reducible refine State.each_ok ?_ _ (fun _ _ _ => ?_)
    | with_reducible apply State.ok_ite
    | split
    | with_reducible refine State.ok_mk ?_ ?_ ?_ ?_ ?_
    | exact rfl
    | (simp only [State.ev_valve, State.ev_fab, State.submit_valve]; done)

theorem State.closeSession_ok {qs : List Instr} {s : State} (ok : s.Ok qs) (n why : Nat) :
    (s.closeSession n why).Ok qs := by
  unfold State.closeSession
  try dsimp only
  repeat' first
    | with_reducible exact ok
    | with_reducible assumption
    | with_reducible exact rfl
    | with_reducible apply State.xferDrop_ok
    | with_reducible apply State.setReg_ok
    | with_reducible apply State.put_ok
    | with_reducible apply State.nev_ok
    | with_reducible refine State.each_ok ?_ _ (fun _ _ _ => ?_)
    | with_reducible apply State.ok_ite
    | split
    | with_reducible refine State.ok_mk ?_ ?_ ?_ ?_ ?_
    | exact rfl
    | (simp only [State.ev_valve, State.ev_fab, State.submit_valve]; done)

theorem State.closeAll_ok {qs : List Instr} {s : State} (ok : s.Ok qs) (why : Nat) :
    (s.closeAll why).Ok qs := by
  unfold State.closeAll
  try dsimp only
  repeat' first
    | with_reducible exact ok
    | with_reducible assumption
    | with_reducible apply State.closeSession_ok
    | with_reducible refine State.each_ok ?_ _ (fun _ _ _ => ?_)

theorem State.openSession_ok {qs : List Instr} {s : State} (ok : s.Ok qs) (n key : Nat) (operate : Bool) (ks : List Byte) (src : Nat) :
    (s.openSession n key operate ks src).Ok qs := by
  unfold State.openSession
  try dsimp only
  repeat' first
    | with_reducible exact ok
    | with_reducible assumption
    | with_reducible apply State.setSession_ok
    | with_reducible apply State.setReg_ok
    | with_reducible apply State.put_ok
    | with_reducible apply State.nev_ok
    | with_reducible apply State.ok_ite
    | split

theorem State.fwRestart_ok {qs : List Instr} {s : State} (ok : s.Ok qs) (why : Nat) :
    (s.fwRestart why).Ok qs := by
  unfold State.fwRestart
  try dsimp only
  repeat' first
    | with_reducible exact ok
    | with_reducible assumption
    | with_reducible exact rfl
    | with_reducible apply State.closeAll_ok
    | with_reducible apply State.putB_ok
    | with_reducible refine State.ok_mk ?_ ?_ ?_ ?_ ?_
    | exact rfl
    | (simp only [State.ev_valve, State.ev_fab, State.submit_valve]; done)

theorem State.noteFrag_ok {qs : List Instr} {s : State} (ok : s.Ok qs) (f : List Byte) :
    (s.noteFrag f).Ok qs := by
  unfold State.noteFrag
  try dsimp only
  repeat' first
    | with_reducible exact ok
    | with_reducible assumption
    | with_reducible exact rfl
    | with_reducible apply State.ok_ite
    | split
    | with_reducible refine State.ok_mk ?_ ?_ ?_ ?_ ?_
    | exact rfl
    | (simp only [State.ev_valve, State.ev_fab, State.submit_valve]; done)

theorem State.macLearn_ok {qs : List Instr} {s : State} (ok : s.Ok qs) (mac port : Nat) :
    (s.macLearn mac port).Ok qs := by
  unfold State.macLearn
  try dsimp only
  repeat' first
    | with_reducible exact ok
    | with_reducible assumption
    | with_reducible exact rfl
    | with_reducible apply State.ok_ite
    | split
    | with_reducible refine State.ok_mk ?_ ?_ ?_ ?_ ?_
    | exact rfl
    | (simp only [State.ev_valve, State.ev_fab, State.submit_valve]; done)

theorem State.setStorm_ok {qs : List Instr} {s : State} (ok : s.Ok qs) (e : Nat) (x : Nat × Nat) :
    (s.setStorm e x).Ok qs := by
  unfold State.setStorm
  try dsimp only
  repeat' first
    | with_reducible exact ok
    | with_reducible assumption
    | with_reducible exact rfl
    | with_reducible refine State.ok_mk ?_ ?_ ?_ ?_ ?_
    | exact rfl
    | (simp only [State.ev_valve, State.ev_fab, State.submit_valve]; done)

theorem State.stormCount_ok {qs : List Instr} {s : State} (ok : s.Ok qs) (e : Nat) :
    (s.stormCount e).Ok qs := by
  unfold State.stormCount
  try dsimp only
  repeat' first
    | with_reducible exact ok
    | with_reducible assumption
    | with_reducible apply State.setStorm_ok
    | with_reducible apply State.incSat_ok
    | with_reducible apply State.ok_ite
    | split

theorem State.ledPin_ok {qs : List Instr} {s : State} (ok : s.Ok qs) (e : Nat) (high : Bool) :
    (s.ledPin e high).Ok qs := by
  unfold State.ledPin
  try dsimp only
  repeat' first
    | with_reducible exact ok
    | with_reducible assumption
    | with_reducible apply State.send_ok
    | with_reducible apply State.ok_ite
    | split

theorem State.ledBurst_ok {qs : List Instr} {s : State} (ok : s.Ok qs) (e : Nat) :
    (s.ledBurst e).Ok qs := by
  unfold State.ledBurst
  try dsimp only
  repeat' first
    | with_reducible exact ok
    | with_reducible assumption
    | with_reducible exact rfl
    | with_reducible apply State.ledPin_ok
    | with_reducible apply State.ok_ite
    | split
    | with_reducible refine State.ok_mk ?_ ?_ ?_ ?_ ?_
    | exact rfl
    | (simp only [State.ev_valve, State.ev_fab, State.submit_valve]; done)

theorem State.ledTick_ok {qs : List Instr} {s : State} (ok : s.Ok qs) :
    (s.ledTick).Ok qs := by
  unfold State.ledTick
  try dsimp only
  repeat' first
    | with_reducible exact ok
    | with_reducible assumption
    | with_reducible exact rfl
    | with_reducible apply State.ledPin_ok
    | with_reducible refine State.each_ok ?_ _ (fun _ _ _ => ?_)
    | with_reducible apply State.ok_ite
    | split
    | with_reducible refine State.ok_mk ?_ ?_ ?_ ?_ ?_
    | exact rfl
    | (simp only [State.ev_valve, State.ev_fab, State.submit_valve]; done)

theorem State.frameOut_ok {qs : List Instr} {s : State} (ok : s.Ok qs) (e : Nat) (f : List Byte) :
    (s.frameOut e f).Ok qs := by
  unfold State.frameOut
  try dsimp only
  repeat' first
    | with_reducible exact ok
    | with_reducible assumption
    | with_reducible apply State.send_ok
    | with_reducible apply State.ledBurst_ok
    | with_reducible apply State.ok_ite
    | split

theorem State.frameIn_ok {qs : List Instr} {s : State} (ok : s.Ok qs) (port : Nat) (f : List Byte) :
    (s.frameIn port f).Ok qs := by
  unfold State.frameIn
  try dsimp only
  repeat' first
    | with_reducible exact ok
    | with_reducible assumption
    | with_reducible apply State.macLearn_ok
    | with_reducible apply State.frameOut_ok
    | with_reducible apply State.stormCount_ok
    | with_reducible apply State.noteFrag_ok
    | with_reducible apply State.ledBurst_ok
    | with_reducible apply State.ok_ite
    | split

theorem State.stormSecond_ok {qs : List Instr} {s : State} (ok : s.Ok qs) (e : Nat) :
    (s.stormSecond e).Ok qs := by
  unfold State.stormSecond
  try dsimp only
  repeat' first
    | with_reducible exact ok
    | with_reducible assumption
    | with_reducible apply State.setStorm_ok
    | with_reducible apply State.nev_ok
    | with_reducible apply State.ok_ite
    | split

theorem State.macAge_ok {qs : List Instr} {s : State} (ok : s.Ok qs) (mac : Nat) :
    (s.macAge mac).Ok qs := by
  unfold State.macAge
  try dsimp only
  repeat' first
    | with_reducible exact ok
    | with_reducible assumption
    | with_reducible exact rfl
    | with_reducible refine State.ok_mk ?_ ?_ ?_ ?_ ?_
    | exact rfl
    | (simp only [State.ev_valve, State.ev_fab, State.submit_valve]; done)

theorem State.ip6Show_ok {qs : List Instr} {s : State} (ok : s.Ok qs) (statics : List Nat) :
    (s.ip6Show statics).Ok qs := by
  unfold State.ip6Show
  try dsimp only
  repeat' first
    | with_reducible exact ok
    | with_reducible assumption
    | with_reducible apply State.setReg_ok
    | with_reducible apply State.putB_ok
    | with_reducible refine State.foldl_ok (fun _ _ _ => ?_) _ ?_
    | with_reducible refine State.foldl_fst_ok (fun _ _ _ => ?_) _ ?_

theorem State.setConns_ok {qs : List Instr} {s : State} (ok : s.Ok qs) (l : List Nat) :
    (s.setConns l).Ok qs := by
  unfold State.setConns
  try dsimp only
  repeat' first
    | with_reducible exact ok
    | with_reducible assumption
    | with_reducible exact rfl
    | with_reducible apply State.put_ok
    | with_reducible refine State.ok_mk ?_ ?_ ?_ ?_ ?_
    | exact rfl
    | (simp only [State.ev_valve, State.ev_fab, State.submit_valve]; done)

theorem State.ip4Off_ok {qs : List Instr} {s : State} (ok : s.Ok qs) :
    (s.ip4Off).Ok qs := by
  unfold State.ip4Off
  try dsimp only
  repeat' first
    | with_reducible exact ok
    | with_reducible assumption
    | with_reducible exact rfl
    | with_reducible apply State.setReg_ok
    | with_reducible apply State.putB_ok
    | with_reducible apply State.setConns_ok
    | with_reducible refine State.ok_mk ?_ ?_ ?_ ?_ ?_
    | exact rfl
    | (simp only [State.ev_valve, State.ev_fab, State.submit_valve]; done)

theorem State.ip4On_ok {qs : List Instr} {s : State} (ok : s.Ok qs) (a m g : Word) (dhcp : Bool) (lease : Nat) :
    (s.ip4On a m g dhcp lease).Ok qs := by
  unfold State.ip4On
  try dsimp only
  repeat' first
    | with_reducible exact ok
    | with_reducible assumption
    | with_reducible exact rfl
    | with_reducible apply State.setReg_ok
    | with_reducible apply State.putB_ok
    | with_reducible apply State.put_ok
    | with_reducible apply State.nev_ok
    | with_reducible apply State.ok_ite
    | split
    | with_reducible refine State.ok_mk ?_ ?_ ?_ ?_ ?_
    | exact rfl
    | (simp only [State.ev_valve, State.ev_fab, State.submit_valve]; done)

theorem State.probeStart4_ok {qs : List Instr} {s : State} (ok : s.Ok qs) (a : Word) :
    (s.probeStart4 a).Ok qs := by
  unfold State.probeStart4
  try dsimp only
  repeat' first
    | with_reducible exact ok
    | with_reducible assumption
    | with_reducible exact rfl
    | with_reducible apply State.send_ok
    | with_reducible refine State.ok_mk ?_ ?_ ?_ ?_ ?_
    | exact rfl
    | (simp only [State.ev_valve, State.ev_fab, State.submit_valve]; done)

theorem State.dhcpSeek_ok {qs : List Instr} {s : State} (ok : s.Ok qs) :
    (s.dhcpSeek).Ok qs := by
  unfold State.dhcpSeek
  try dsimp only
  repeat' first
    | with_reducible exact ok
    | with_reducible assumption
    | with_reducible apply State.put_ok
    | with_reducible apply State.send_ok

theorem State.netStart_ok {qs : List Instr} {s : State} (ok : s.Ok qs) (ip6 : List Nat) :
    (s.netStart ip6).Ok qs := by
  unfold State.netStart
  try dsimp only
  repeat' first
    | with_reducible exact ok
    | with_reducible assumption
    | with_reducible exact rfl
    | with_reducible apply State.ip6Show_ok
    | with_reducible apply State.dhcpSeek_ok
    | with_reducible apply State.probeStart4_ok
    | with_reducible apply State.ok_ite
    | split
    | with_reducible refine State.ok_mk ?_ ?_ ?_ ?_ ?_
    | exact rfl
    | (simp only [State.ev_valve, State.ev_fab, State.submit_valve]; done)

theorem State.probeEnd4_ok {qs : List Instr} {s : State} (ok : s.Ok qs) (a m g : Word) (lease : Nat) (conflict : Bool) :
    (s.probeEnd4 a m g lease conflict).Ok qs := by
  unfold State.probeEnd4
  try dsimp only
  repeat' first
    | with_reducible exact ok
    | with_reducible assumption
    | with_reducible exact rfl
    | with_reducible apply State.ip4Off_ok
    | with_reducible apply State.put_ok
    | with_reducible apply State.nev_ok
    | with_reducible apply State.ip4On_ok
    | with_reducible apply State.ok_ite
    | split
    | with_reducible refine State.ok_mk ?_ ?_ ?_ ?_ ?_
    | exact rfl
    | (simp only [State.ev_valve, State.ev_fab, State.submit_valve]; done)

theorem State.conflictRetry_ok {qs : List Instr} {s : State} (ok : s.Ok qs) :
    (s.conflictRetry).Ok qs := by
  unfold State.conflictRetry
  try dsimp only
  repeat' first
    | with_reducible exact ok
    | with_reducible assumption
    | with_reducible exact rfl
    | with_reducible apply State.dhcpSeek_ok
    | with_reducible apply State.probeStart4_ok
    | with_reducible apply State.ok_ite
    | split
    | with_reducible refine State.ok_mk ?_ ?_ ?_ ?_ ?_
    | exact rfl
    | (simp only [State.ev_valve, State.ev_fab, State.submit_valve]; done)

theorem State.dhcpRenew_ok {qs : List Instr} {s : State} (ok : s.Ok qs) (lease : Nat) :
    (s.dhcpRenew lease).Ok qs := by
  unfold State.dhcpRenew
  try dsimp only
  repeat' first
    | with_reducible exact ok
    | with_reducible assumption
    | with_reducible exact rfl
    | with_reducible apply State.send_ok
    | with_reducible apply State.ok_ite
    | split
    | with_reducible refine State.ok_mk ?_ ?_ ?_ ?_ ?_
    | exact rfl
    | (simp only [State.ev_valve, State.ev_fab, State.submit_valve]; done)

theorem State.leaseLost_ok {qs : List Instr} {s : State} (ok : s.Ok qs) :
    (s.leaseLost).Ok qs := by
  unfold State.leaseLost
  try dsimp only
  repeat' first
    | with_reducible exact ok
    | with_reducible assumption
    | with_reducible apply State.ip4Off_ok
    | with_reducible apply State.dhcpSeek_ok
    | with_reducible apply State.ok_ite
    | split

theorem State.linkLocal_ok {qs : List Instr} {s : State} (ok : s.Ok qs) (low : BitVec 16) :
    (s.linkLocal low).Ok qs := by
  unfold State.linkLocal
  try dsimp only
  repeat' first
    | with_reducible exact ok
    | with_reducible assumption
    | with_reducible exact rfl
    | with_reducible apply State.probeStart4_ok
    | with_reducible apply State.ok_ite
    | split
    | with_reducible refine State.ok_mk ?_ ?_ ?_ ?_ ?_
    | exact rfl
    | (simp only [State.ev_valve, State.ev_fab, State.submit_valve]; done)

theorem State.linkProbe_ok {qs : List Instr} {s : State} (ok : s.Ok qs) :
    (s.linkProbe).Ok qs := by
  unfold State.linkProbe
  try dsimp only
  repeat' first
    | with_reducible exact ok
    | with_reducible assumption
    | with_reducible apply State.probeStart4_ok
    | with_reducible apply State.ok_ite
    | split

theorem State.linkChange_ok {qs : List Instr} {s : State} (ok : s.Ok qs) (e : Nat) (up : Bool) (speed : Nat) (full : Bool) :
    (s.linkChange e up speed full).Ok qs := by
  unfold State.linkChange
  try dsimp only
  repeat' first
    | with_reducible exact ok
    | with_reducible assumption
    | with_reducible exact rfl
    | with_reducible apply State.putB_ok
    | with_reducible apply State.put_ok
    | with_reducible apply State.ledPin_ok
    | with_reducible apply State.nev_ok
    | with_reducible apply State.linkProbe_ok
    | with_reducible apply State.ok_ite
    | split
    | with_reducible refine State.ok_mk ?_ ?_ ?_ ?_ ?_
    | exact rfl
    | (simp only [State.ev_valve, State.ev_fab, State.submit_valve]; done)

theorem State.neighbour_ok {qs : List Instr} {s : State} (ok : s.Ok qs) (e : Nat) (ip6 : Bool) (target : Nat) :
    (s.neighbour e ip6 target).Ok qs := by
  unfold State.neighbour
  try dsimp only
  repeat' first
    | with_reducible exact ok
    | with_reducible assumption
    | with_reducible apply State.send_ok
    | with_reducible apply State.ok_ite
    | split

theorem State.echo_ok {qs : List Instr} {s : State} (ok : s.Ok qs) (e : Nat) :
    (s.echo e).Ok qs := by
  unfold State.echo
  try dsimp only
  repeat' first
    | with_reducible exact ok
    | with_reducible assumption
    | with_reducible exact rfl
    | with_reducible apply State.send_ok
    | with_reducible apply State.ok_ite
    | split
    | with_reducible refine State.ok_mk ?_ ?_ ?_ ?_ ?_
    | exact rfl
    | (simp only [State.ev_valve, State.ev_fab, State.submit_valve]; done)

theorem State.unserved_ok {qs : List Instr} {s : State} (ok : s.Ok qs) (e : Nat) (tcp : Bool) (port : Nat) :
    (s.unserved e tcp port).Ok qs := by
  unfold State.unserved
  try dsimp only
  repeat' first
    | with_reducible exact ok
    | with_reducible assumption
    | with_reducible apply State.send_ok
    | with_reducible apply State.ok_ite
    | split

end Sys2Proof.Machine
end

