-- ==== Sys2Proof/Laws/GoodRel.lean ====
section
/-! SUPPORT. What RelOps defines keeps the queue of waiting commands, the canonical form of the register table and
the capacities of the queues (`State.Ok`). -/

namespace Sys2Proof.Machine

set_option linter.unusedTactic false
set_option linter.unreachableTactic false

open Reg

theorem State.rev_ok {qs : List Instr} {s : State} (ok : s.Ok qs) (code : Nat) (p0 : Nat) (p1 : Nat) (p2 : Nat) :
    (s.rev code p0 p1 p2).Ok qs := by
  unfold State.rev
  try dsimp only
  repeat' first
    | with_reducible exact ok
    | with_reducible assumption
    | with_reducible apply State.ev_ok

theorem State.relUntest_ok {qs : List Instr} {s : State} (ok : s.Ok qs) (e : Element) :
    (s.relUntest e).Ok qs := by
  unfold State.relUntest
  try dsimp only
  repeat' first
    | with_reducible exact ok
    | with_reducible assumption
    | with_reducible exact rfl
    | with_reducible refine State.ok_mk ?_ ?_ ?_ ?_ ?_
    | exact rfl
    | (simp only [State.ev_valve, State.ev_fab, State.submit_valve]; done)

theorem State.fenceList_ok {qs : List Instr} {s : State} (ok : s.Ok qs) (e : Element) (cause : Nat) (spared : Bool) :
    (s.fenceList e cause spared).Ok qs := by
  unfold State.fenceList
  try dsimp only
  repeat' first
    | with_reducible exact ok
    | with_reducible assumption
    | with_reducible exact rfl
    | with_reducible apply State.putB_ok
    | with_reducible apply State.setReg_ok
    | with_reducible apply State.put_ok
    | with_reducible apply State.incSat_ok
    | with_reducible apply State.rev_ok
    | with_reducible apply State.ok_ite
    | split
    | with_reducible refine State.ok_mk ?_ ?_ ?_ ?_ ?_
    | exact rfl
    | (simp only [State.ev_valve, State.ev_fab, State.submit_valve]; done)

theorem State.safeAssert_ok {qs : List Instr} {s : State} (ok : s.Ok qs) :
    (s.safeAssert).Ok qs := by
  unfold State.safeAssert
  try dsimp only
  repeat' first
    | with_reducible exact ok
    | with_reducible assumption
    | with_reducible exact rfl
    | with_reducible apply State.putB_ok
    | with_reducible apply State.send_ok
    | with_reducible apply State.cutBanks_ok
    | with_reducible apply State.aoSafe_ok
    | with_reducible apply State.fansCut_ok
    | with_reducible apply State.ok_ite
    | split
    | with_reducible refine State.ok_mk ?_ ?_ ?_ ?_ ?_
    | exact rfl
    | (simp only [State.ev_valve, State.ev_fab, State.submit_valve]; done)

theorem State.lanesLost_ok {qs : List Instr} {s : State} (ok : s.Ok qs) (tile boot : Nat) :
    (s.lanesLost tile boot).Ok qs := by
  unfold State.lanesLost
  try dsimp only
  repeat' first
    | with_reducible exact ok
    | with_reducible assumption
    | with_reducible apply State.putB_ok
    | with_reducible apply State.rev_ok
    | with_reducible apply State.safeAssert_ok

theorem State.recoveryAbandon_ok {qs : List Instr} {s : State} (ok : s.Ok qs) :
    (s.recoveryAbandon).Ok qs := by
  unfold State.recoveryAbandon
  try dsimp only
  repeat' first
    | with_reducible exact ok
    | with_reducible assumption
    | with_reducible exact rfl
    | with_reducible apply State.putB_ok
    | with_reducible apply State.put_ok
    | with_reducible refine State.ok_mk ?_ ?_ ?_ ?_ ?_
    | exact rfl
    | (simp only [State.ev_valve, State.ev_fab, State.submit_valve]; done)

theorem State.laneFence_ok {qs : List Instr} {s : State} (ok : s.Ok qs) (l tile cause : Nat) :
    (s.laneFence l tile cause).Ok qs := by
  unfold State.laneFence
  try dsimp only
  repeat' first
    | with_reducible exact ok
    | with_reducible assumption
    | with_reducible apply State.inc_ok
    | with_reducible apply State.putB_ok
    | with_reducible apply State.fenceList_ok
    | with_reducible apply State.rev_ok
    | with_reducible apply State.recoveryAbandon_ok
    | with_reducible apply State.lanesLost_ok
    | with_reducible apply State.ok_ite
    | split

theorem State.quadSpare_ok {qs : List Instr} {s : State} (ok : s.Ok qs) (q : Nat) :
    (s.quadSpare q).Ok qs := by
  unfold State.quadSpare
  try dsimp only
  repeat' first
    | with_reducible exact ok
    | with_reducible assumption
    | with_reducible exact rfl
    | with_reducible apply State.put_ok
    | with_reducible apply State.putB_ok
    | with_reducible apply State.ev_ok
    | with_reducible refine State.ok_mk ?_ ?_ ?_ ?_ ?_
    | exact rfl
    | (simp only [State.ev_valve, State.ev_fab, State.submit_valve]; done)

theorem State.quadLost_ok {qs : List Instr} {s : State} (ok : s.Ok qs) (q : Nat) :
    (s.quadLost q).Ok qs := by
  unfold State.quadLost
  try dsimp only
  repeat' first
    | with_reducible exact ok
    | with_reducible assumption
    | with_reducible apply State.put_ok
    | with_reducible apply State.millShow_ok
    | with_reducible apply State.ev_ok
    | with_reducible apply State.rev_ok
    | with_reducible apply State.ok_ite
    | split

theorem State.quadRerun_ok {qs : List Instr} {s : State} (ok : s.Ok qs) (n : Nat) (kept : Bool) :
    (s.quadRerun n kept).Ok qs := by
  unfold State.quadRerun
  try dsimp only
  repeat' first
    | with_reducible exact ok
    | with_reducible assumption
    | with_reducible exact rfl
    | with_reducible apply State.put_ok
    | with_reducible apply State.ok_ite
    | split
    | with_reducible refine State.ok_mk ?_ ?_ ?_ ?_ ?_
    | exact rfl
    | (simp only [State.ev_valve, State.ev_fab, State.submit_valve]; done)

theorem State.quadFence_ok {qs : List Instr} {s : State} (ok : s.Ok qs) (q : Nat) :
    (s.quadFence q).Ok qs := by
  unfold State.quadFence
  try dsimp only
  repeat' first
    | with_reducible exact ok
    | with_reducible assumption
    | with_reducible exact rfl
    | with_reducible apply State.quadRerun_ok
    | with_reducible apply State.setReg_ok
    | with_reducible apply State.quadSpare_ok
    | with_reducible apply State.quadLost_ok
    | with_reducible apply State.put_ok
    | with_reducible apply State.putB_ok
    | with_reducible apply State.ok_ite
    | split
    | with_reducible refine State.ok_mk ?_ ?_ ?_ ?_ ?_
    | exact rfl
    | (simp only [State.ev_valve, State.ev_fab, State.submit_valve]; done)

theorem State.doorStop_ok {qs : List Instr} {s : State} (ok : s.Ok qs) :
    (s.doorStop).Ok qs := by
  unfold State.doorStop
  try dsimp only
  repeat' first
    | with_reducible exact ok
    | with_reducible assumption
    | with_reducible apply State.commitEnd_ok
    | with_reducible apply State.stripInterrupt_ok
    | with_reducible apply State.ok_ite
    | split

theorem State.fenceEffect_ok {qs : List Instr} {s : State} (ok : s.Ok qs) (e : Element) : (s.fenceEffect e).Ok qs := by
  cases e with
  | field i => exact State.fieldTested_ok ok i.val true
  | aoMon n => exact State.aoFence_ok ok n.val
  | valve v => exact State.valveFence_ok ok v.val
  | fan f => exact State.fanFence_ok ok f.val
  | sprin p => exact State.portFence_ok ok p.val
  | quad k => exact State.quadFence_ok ok k.val
  | link d =>
    unfold State.fenceEffect
    dsimp only
    split
    · exact State.doorStop_ok ok
    · exact State.each_ok (State.each_ok ok _ (fun _ _ k => State.bankDisable_ok k _)) _ (fun _ _ k => State.fanFence_ok k _)
  | sram m => exact ok
  | lane l => exact ok
  | dramRow a => exact ok
  | core c => exact ok
  | aon => exact ok

theorem State.fence_ok {qs : List Instr} {s : State} (ok : s.Ok qs) (e : Element) (cause : Nat) :
    (s.fence e cause).Ok qs := by
  unfold State.fence
  try dsimp only
  repeat' first
    | with_reducible exact ok
    | with_reducible assumption
    | with_reducible apply State.laneFence_ok
    | with_reducible apply State.took_ok
    | with_reducible apply State.fenceList_ok
    | with_reducible apply State.rev_ok
    | with_reducible apply State.fenceEffect_ok
    | with_reducible apply State.ok_ite
    | split

theorem State.sramRepair_ok {qs : List Instr} {s : State} (ok : s.Ok qs) (m : Nat) (home : Element) (cause : Nat) :
    (s.sramRepair m home cause).Ok qs := by
  unfold State.sramRepair
  try dsimp only
  repeat' first
    | with_reducible exact ok
    | with_reducible assumption
    | with_reducible exact rfl
    | with_reducible apply State.put_ok
    | with_reducible apply State.rev_ok
    | with_reducible apply State.fence_ok
    | with_reducible apply State.ok_ite
    | split
    | with_reducible refine State.ok_mk ?_ ?_ ?_ ?_ ?_
    | exact rfl
    | (simp only [State.ev_valve, State.ev_fab, State.submit_valve]; done)

theorem State.spareShow_ok {qs : List Instr} {s : State} (ok : s.Ok qs) :
    (s.spareShow).Ok qs := by
  unfold State.spareShow
  try dsimp only
  repeat' first
    | with_reducible exact ok
    | with_reducible assumption
    | with_reducible apply State.put_ok

theorem State.rowSpare_ok {qs : List Instr} {s : State} (ok : s.Ok qs) (addr : Nat) :
    (s.rowSpare addr).Ok qs := by
  unfold State.rowSpare
  try dsimp only
  repeat' first
    | with_reducible exact ok
    | with_reducible assumption
    | with_reducible exact rfl
    | with_reducible apply State.spareShow_ok
    | with_reducible apply State.rev_ok
    | with_reducible apply State.putB_ok
    | with_reducible apply State.ok_ite
    | split
    | with_reducible refine State.ok_mk ?_ ?_ ?_ ?_ ?_
    | exact rfl
    | (simp only [State.ev_valve, State.ev_fab, State.submit_valve]; done)

theorem State.hardRepair_ok {qs : List Instr} {s : State} (ok : s.Ok qs) (fits : Nat → Bool) :
    (s.hardRepair fits).Ok qs := by
  unfold State.hardRepair
  try dsimp only
  repeat' first
    | with_reducible exact ok
    | with_reducible assumption
    | with_reducible exact rfl
    | with_reducible apply State.spareShow_ok
    | with_reducible apply State.incSat_ok
    | with_reducible apply State.rev_ok
    | with_reducible refine State.each_ok ?_ _ (fun _ _ _ => ?_)
    | with_reducible refine State.ok_mk ?_ ?_ ?_ ?_ ?_
    | exact rfl
    | (simp only [State.ev_valve, State.ev_fab, State.submit_valve]; done)

theorem State.lasting_ok {qs : List Instr} {s : State} (ok : s.Ok qs) (e home : Element) (cause : Nat) :
    (s.lasting e home cause).Ok qs := by
  unfold State.lasting
  try dsimp only
  repeat' first
    | with_reducible exact ok
    | with_reducible assumption
    | with_reducible apply State.inc_ok
    | with_reducible apply State.sramRepair_ok
    | with_reducible apply State.rowSpare_ok
    | with_reducible apply State.fence_ok
    | split

theorem State.passEffect_ok {qs : List Instr} {s : State} (ok : s.Ok qs) (e : Element) : (s.passEffect e).Ok qs := by
  cases e with
  | field i => exact State.fieldTested_ok ok i.val false
  | sprin p => exact State.portPassed_ok ok p.val
  | valve v => exact State.serve_ok (State.setChan_ok ok _ _) _
  | aoMon n => exact ok
  | fan f => exact ok
  | quad k => exact ok
  | link d => exact ok
  | sram m => exact ok
  | lane l => exact ok
  | dramRow a => exact ok
  | core c => exact ok
  | aon => exact ok

theorem State.noteTransient_ok {qs : List Instr} {s : State} (ok : s.Ok qs) (e : Element) (at_ : Nat) :
    (s.noteTransient e at_).Ok qs := by
  unfold State.noteTransient
  try dsimp only
  repeat' first
    | with_reducible exact ok
    | with_reducible assumption
    | with_reducible exact rfl
    | with_reducible refine State.ok_mk ?_ ?_ ?_ ?_ ?_
    | exact rfl
    | (simp only [State.ev_valve, State.ev_fab, State.submit_valve]; done)

theorem State.transient_ok {qs : List Instr} {s : State} (ok : s.Ok qs) (e : Element) :
    (s.transient e).Ok qs := by
  unfold State.transient
  try dsimp only
  repeat' first
    | with_reducible exact ok
    | with_reducible assumption
    | with_reducible apply State.inc_ok
    | with_reducible apply State.rev_ok
    | with_reducible apply State.noteTransient_ok
    | with_reducible apply State.passEffect_ok

theorem State.testBegin_ok {qs : List Instr} {s : State} (ok : s.Ok qs) (e : Element) :
    (s.testBegin e).Ok qs := by
  unfold State.testBegin
  try dsimp only
  repeat' first
    | with_reducible exact ok
    | with_reducible assumption
    | with_reducible exact rfl
    | with_reducible apply State.putB_ok
    | with_reducible apply State.portTest_ok
    | with_reducible apply State.ok_ite
    | split
    | with_reducible refine State.ok_mk ?_ ?_ ?_ ?_ ?_
    | exact rfl
    | (simp only [State.ev_valve, State.ev_fab, State.submit_valve]; done)

theorem State.testsStart_ok {qs : List Instr} {s : State} (ok : s.Ok qs) :
    (s.testsStart).Ok qs := by
  unfold State.testsStart
  try dsimp only
  repeat' first
    | with_reducible exact ok
    | with_reducible assumption
    | with_reducible apply State.stageStart_ok
    | with_reducible apply State.testBegin_ok
    | with_reducible refine State.each_ok ?_ _ (fun _ _ _ => ?_)
    | with_reducible apply State.ok_ite
    | split

theorem State.testWant_ok {qs : List Instr} {s : State} (ok : s.Ok qs) (e home : Element) (host : Bool) :
    (s.testWant e home host).Ok qs := by
  unfold State.testWant
  try dsimp only
  repeat' first
    | with_reducible exact ok
    | with_reducible assumption
    | with_reducible exact rfl
    | with_reducible apply State.rev_ok
    | with_reducible apply State.lasting_ok
    | with_reducible apply State.testsStart_ok
    | with_reducible apply State.ok_ite
    | split
    | with_reducible refine State.ok_mk ?_ ?_ ?_ ?_ ?_
    | exact rfl
    | (simp only [State.ev_valve, State.ev_fab, State.submit_valve]; done)

theorem State.testEnd_ok {qs : List Instr} {s : State} (ok : s.Ok qs) (e home : Element) (fails : Bool) :
    (s.testEnd e home fails).Ok qs := by
  unfold State.testEnd
  try dsimp only
  repeat' first
    | with_reducible exact ok
    | with_reducible assumption
    | with_reducible apply State.relUntest_ok
    | with_reducible apply State.inc_ok
    | with_reducible apply State.put_ok
    | with_reducible apply State.lasting_ok
    | with_reducible apply State.transient_ok
    | with_reducible apply State.testsStart_ok
    | with_reducible apply State.ok_ite
    | split

theorem State.relCmd_ok {qs : List Instr} {s : State} (ok : s.Ok qs) (w : Word) :
    (s.relCmd w).Ok qs := by
  unfold State.relCmd
  try dsimp only
  repeat' first
    | with_reducible exact ok
    | with_reducible assumption
    | with_reducible apply State.setReg_ok
    | with_reducible apply State.testWant_ok
    | split

theorem State.remainderZero_ok {qs : List Instr} {s : State} (ok : s.Ok qs) (place : Nat) :
    (s.remainderZero place).Ok qs := by
  unfold State.remainderZero
  try dsimp only
  repeat' first
    | with_reducible exact ok
    | with_reducible assumption
    | with_reducible exact rfl
    | with_reducible apply State.setBody_ok
    | with_reducible refine State.each_ok ?_ _ (fun _ _ _ => ?_)
    | split
    | with_reducible refine State.ok_mk ?_ ?_ ?_ ?_ ?_
    | exact rfl
    | (simp only [State.ev_valve, State.ev_fab, State.submit_valve]; done)

theorem State.propsLost_ok {qs : List Instr} {s : State} (ok : s.Ok qs) (o : Nat) :
    (s.propsLost o).Ok qs := by
  unfold State.propsLost
  try dsimp only
  repeat' first
    | with_reducible exact ok
    | with_reducible assumption
    | with_reducible exact rfl
    | with_reducible apply State.setBody_ok
    | with_reducible refine State.each_ok ?_ _ (fun _ _ _ => ?_)
    | split
    | with_reducible refine State.ok_mk ?_ ?_ ?_ ?_ ?_
    | exact rfl
    | (simp only [State.ev_valve, State.ev_fab, State.submit_valve]; done)

theorem State.cellLost_ok {qs : List Instr} {s : State} (ok : s.Ok qs) (addr : Nat) :
    (s.cellLost addr).Ok qs := by
  unfold State.cellLost
  try dsimp only
  repeat' first
    | with_reducible exact ok
    | with_reducible assumption
    | with_reducible exact rfl
    | with_reducible apply State.setBody_ok
    | split
    | with_reducible refine State.ok_mk ?_ ?_ ?_ ?_ ?_
    | exact rfl
    | (simp only [State.ev_valve, State.ev_fab, State.submit_valve]; done)

theorem State.ringCut_ok {qs : List Instr} {s : State} (ok : s.Ok qs) (x : Option Nat) :
    (s.ringCut x).Ok qs := by
  unfold State.ringCut
  try dsimp only
  repeat' first
    | with_reducible exact ok
    | with_reducible assumption
    | with_reducible exact rfl
    | with_reducible apply State.setBody_ok
    | with_reducible apply State.took_ok
    | with_reducible apply State.firmAdvance_ok
    | split
    | with_reducible refine State.ok_mk ?_ ?_ ?_ ?_ ?_
    | exact rfl
    | (simp only [State.ev_valve, State.ev_fab, State.submit_valve]; done)

theorem State.ringLost_ok {qs : List Instr} {s : State} (ok : s.Ok qs) (o : Nat) :
    (s.ringLost o).Ok qs := by
  unfold State.ringLost
  try dsimp only
  repeat' first
    | with_reducible exact ok
    | with_reducible assumption
    | with_reducible apply State.ringCut_ok

theorem State.fieldLost_ok {qs : List Instr} {s : State} (ok : s.Ok qs) (place : Nat) :
    (s.fieldLost place).Ok qs := by
  unfold State.fieldLost
  try dsimp only
  repeat' first
    | with_reducible exact ok
    | with_reducible assumption
    | with_reducible apply State.solveWant_ok
    | split

theorem State.forecastLost_ok {qs : List Instr} {s : State} (ok : s.Ok qs) (k : Nat) :
    (s.forecastLost k).Ok qs := by
  unfold State.forecastLost
  try dsimp only
  repeat' first
    | with_reducible exact ok
    | with_reducible assumption
    | with_reducible exact rfl
    | with_reducible apply State.put_ok
    | with_reducible apply State.ok_ite
    | split
    | with_reducible refine State.ok_mk ?_ ?_ ?_ ?_ ?_
    | exact rfl
    | (simp only [State.ev_valve, State.ev_fab, State.submit_valve]; done)

theorem State.anchorLost_ok {qs : List Instr} {s : State} (ok : s.Ok qs) (a : Nat) :
    (s.anchorLost a).Ok qs := by
  unfold State.anchorLost
  try dsimp only
  repeat' first
    | with_reducible exact ok
    | with_reducible assumption
    | with_reducible exact rfl
    | with_reducible apply State.put_ok
    | with_reducible refine State.ok_mk ?_ ?_ ?_ ?_ ?_
    | exact rfl
    | (simp only [State.ev_valve, State.ev_fab, State.submit_valve]; done)

theorem State.snapLost_ok {qs : List Instr} {s : State} (ok : s.Ok qs) :
    (s.snapLost).Ok qs := by
  unfold State.snapLost
  try dsimp only
  repeat' first
    | with_reducible exact ok
    | with_reducible assumption
    | with_reducible exact rfl
    | with_reducible refine State.ok_mk ?_ ?_ ?_ ?_ ?_
    | exact rfl
    | (simp only [State.ev_valve, State.ev_fab, State.submit_valve]; done)

theorem State.cupLost_ok {qs : List Instr} {s : State} (ok : s.Ok qs) (o : Nat) :
    (s.cupLost o).Ok qs := by
  unfold State.cupLost
  try dsimp only
  repeat' first
    | with_reducible exact ok
    | with_reducible assumption
    | with_reducible exact rfl
    | with_reducible refine State.foldl_ok (fun _ _ _ => ?_) _ ?_
    | with_reducible refine State.foldl_fst_ok (fun _ _ _ => ?_) _ ?_
    | with_reducible refine State.ok_mk ?_ ?_ ?_ ?_ ?_
    | exact rfl
    | (simp only [State.ev_valve, State.ev_fab, State.submit_valve]; done)

theorem State.dramLost_ok {qs : List Instr} {s : State} (ok : s.Ok qs) (addr : Nat) (scrub : Bool) :
    (s.dramLost addr scrub).Ok qs := by
  unfold State.dramLost
  try dsimp only
  repeat' first
    | with_reducible exact ok
    | with_reducible assumption
    | with_reducible apply State.cellLost_ok
    | with_reducible apply State.ringLost_ok
    | with_reducible apply State.propsLost_ok
    | with_reducible apply State.fieldLost_ok
    | with_reducible apply State.solveWant_ok
    | with_reducible apply State.forecastLost_ok
    | with_reducible apply State.anchorLost_ok
    | with_reducible apply State.snapLost_ok
    | with_reducible apply State.cupLost_ok
    | with_reducible apply State.remainderZero_ok
    | with_reducible apply State.fwRestart_ok
    | with_reducible refine State.each_ok ?_ _ (fun _ _ _ => ?_)
    | with_reducible apply State.ok_ite
    | split

theorem State.eccShow_ok {qs : List Instr} {s : State} (ok : s.Ok qs) (addr : Nat) (uncorr : Bool) :
    (s.eccShow addr uncorr).Ok qs := by
  unfold State.eccShow
  try dsimp only
  repeat' first
    | with_reducible exact ok
    | with_reducible assumption
    | with_reducible exact rfl
    | with_reducible apply State.setReg_ok
    | with_reducible apply State.incSat_ok
    | with_reducible apply State.ok_ite
    | split
    | with_reducible refine State.ok_mk ?_ ?_ ?_ ?_ ?_
    | exact rfl
    | (simp only [State.ev_valve, State.ev_fab, State.submit_valve]; done)

theorem State.noteEcc_ok {qs : List Instr} {s : State} (ok : s.Ok qs) (addr row at_ : Nat) :
    (s.noteEcc addr row at_).Ok qs := by
  unfold State.noteEcc
  try dsimp only
  repeat' first
    | with_reducible exact ok
    | with_reducible assumption
    | with_reducible exact rfl
    | with_reducible refine State.ok_mk ?_ ?_ ?_ ?_ ?_
    | exact rfl
    | (simp only [State.ev_valve, State.ev_fab, State.submit_valve]; done)

theorem State.dramError_ok {qs : List Instr} {s : State} (ok : s.Ok qs) (addr : Nat) (uncorr scrub : Bool) :
    (s.dramError addr uncorr scrub).Ok qs := by
  unfold State.dramError
  try dsimp only
  repeat' first
    | with_reducible exact ok
    | with_reducible assumption
    | with_reducible apply State.eccShow_ok
    | with_reducible apply State.testWant_ok
    | with_reducible apply State.rev_ok
    | with_reducible apply State.dramLost_ok
    | with_reducible apply State.noteEcc_ok
    | with_reducible apply State.ok_ite
    | split

theorem State.scrubStep_ok {qs : List Instr} {s : State} (ok : s.Ok qs) (err : Nat) :
    (s.scrubStep err).Ok qs := by
  unfold State.scrubStep
  try dsimp only
  repeat' first
    | with_reducible exact ok
    | with_reducible assumption
    | with_reducible exact rfl
    | with_reducible apply State.put_ok
    | with_reducible apply State.dramError_ok
    | with_reducible apply State.ok_ite
    | split
    | with_reducible refine State.ok_mk ?_ ?_ ?_ ?_ ?_
    | exact rfl
    | (simp only [State.ev_valve, State.ev_fab, State.submit_valve]; done)

theorem State.eccHour_ok {qs : List Instr} {s : State} (ok : s.Ok qs) :
    (s.eccHour).Ok qs := by
  unfold State.eccHour
  try dsimp only
  repeat' first
    | with_reducible exact ok
    | with_reducible assumption
    | with_reducible exact rfl
    | with_reducible apply State.rev_ok
    | with_reducible apply State.ok_ite
    | split
    | with_reducible refine State.ok_mk ?_ ?_ ?_ ?_ ?_
    | exact rfl
    | (simp only [State.ev_valve, State.ev_fab, State.submit_valve]; done)

theorem State.recoveryStart_ok {qs : List Instr} {s : State} (ok : s.Ok qs) (tile : Nat) (lane : Option Nat) :
    (s.recoveryStart tile lane).Ok qs := by
  unfold State.recoveryStart
  try dsimp only
  repeat' first
    | with_reducible exact ok
    | with_reducible assumption
    | with_reducible exact rfl
    | with_reducible apply State.putB_ok
    | with_reducible apply State.put_ok
    | with_reducible apply State.inc_ok
    | with_reducible refine State.ok_mk ?_ ?_ ?_ ?_ ?_
    | exact rfl
    | (simp only [State.ev_valve, State.ev_fab, State.submit_valve]; done)

theorem State.lockMismatch_ok {qs : List Instr} {s : State} (ok : s.Ok qs) (tile : Nat) (named : Option Nat) :
    (s.lockMismatch tile named).Ok qs := by
  unfold State.lockMismatch
  try dsimp only
  repeat' first
    | with_reducible exact ok
    | with_reducible assumption
    | with_reducible exact rfl
    | with_reducible apply State.rev_ok
    | with_reducible apply State.laneFence_ok
    | with_reducible apply State.recoveryStart_ok
    | with_reducible apply State.put_ok
    | with_reducible apply State.ok_ite
    | split
    | with_reducible refine State.ok_mk ?_ ?_ ?_ ?_ ?_
    | exact rfl
    | (simp only [State.ev_valve, State.ev_fab, State.submit_valve]; done)

theorem State.lockTested_ok {qs : List Instr} {s : State} (ok : s.Ok qs) (a b : Bool) :
    (s.lockTested a b).Ok qs := by
  unfold State.lockTested
  try dsimp only
  repeat' first
    | with_reducible exact ok
    | with_reducible assumption
    | with_reducible exact rfl
    | with_reducible apply State.put_ok
    | with_reducible apply State.ok_ite
    | split
    | with_reducible refine State.ok_mk ?_ ?_ ?_ ?_ ?_
    | exact rfl
    | (simp only [State.ev_valve, State.ev_fab, State.submit_valve]; done)

theorem State.lockResolve_ok {qs : List Instr} {s : State} (ok : s.Ok qs) (outcome cause ns holdNs : Nat) :
    (s.lockResolve outcome cause ns holdNs).Ok qs := by
  unfold State.lockResolve
  try dsimp only
  repeat' first
    | with_reducible exact ok
    | with_reducible assumption
    | with_reducible apply State.put_ok
    | with_reducible apply State.outcome_ok
    | with_reducible apply State.raise_ok
    | with_reducible apply State.took_ok
    | with_reducible apply State.recoveryAbandon_ok
    | with_reducible apply State.noteTransient_ok
    | with_reducible apply State.inc_ok
    | with_reducible apply State.rev_ok
    | with_reducible apply State.lanesLost_ok
    | with_reducible apply State.laneFence_ok
    | with_reducible apply State.ok_ite
    | split

theorem State.lockReexecuted_ok {qs : List Instr} {s : State} (ok : s.Ok qs) (agree : Bool) (ns holdNs : Nat) :
    (s.lockReexecuted agree ns holdNs).Ok qs := by
  unfold State.lockReexecuted
  try dsimp only
  repeat' first
    | with_reducible exact ok
    | with_reducible assumption
    | with_reducible apply State.lockResolve_ok
    | with_reducible apply State.put_ok
    | with_reducible apply State.ok_ite
    | split

theorem State.lockPlaced_ok {qs : List Instr} {s : State} (ok : s.Ok qs) (errA errB : Bool) (ns holdNs : Nat) :
    (s.lockPlaced errA errB ns holdNs).Ok qs := by
  unfold State.lockPlaced
  try dsimp only
  repeat' first
    | with_reducible exact ok
    | with_reducible assumption
    | with_reducible apply State.inc_ok
    | with_reducible apply State.lockResolve_ok
    | with_reducible apply State.ok_ite
    | split

theorem State.sramCorrected_ok {qs : List Instr} {s : State} (ok : s.Ok qs) (m word : Nat) (home : Element) :
    (s.sramCorrected m word home).Ok qs := by
  unfold State.sramCorrected
  try dsimp only
  repeat' first
    | with_reducible exact ok
    | with_reducible assumption
    | with_reducible exact rfl
    | with_reducible apply State.testWant_ok
    | with_reducible apply State.ok_ite
    | split
    | with_reducible refine State.ok_mk ?_ ?_ ?_ ?_ ?_
    | exact rfl
    | (simp only [State.ev_valve, State.ev_fab, State.submit_valve]; done)

theorem State.elementError_ok {qs : List Instr} {s : State} (ok : s.Ok qs) (e home : Element) (uncorr : Bool) (word : Nat) :
    (s.elementError e home uncorr word).Ok qs := by
  unfold State.elementError
  try dsimp only
  repeat' first
    | with_reducible exact ok
    | with_reducible assumption
    | with_reducible apply State.fwRestart_ok
    | with_reducible apply State.lockMismatch_ok
    | with_reducible apply State.laneFence_ok
    | with_reducible apply State.took_ok
    | with_reducible apply State.dramError_ok
    | with_reducible apply State.testWant_ok
    | with_reducible apply State.sramCorrected_ok
    | with_reducible apply State.ok_ite
    | split

theorem State.bootTested_ok {qs : List Instr} {s : State} (ok : s.Ok qs) (tested : Nat) (failed : List Element) (ms : Nat) :
    (s.bootTested tested failed ms).Ok qs := by
  unfold State.bootTested
  try dsimp only
  repeat' first
    | with_reducible exact ok
    | with_reducible assumption
    | with_reducible exact rfl
    | with_reducible apply State.putB_ok
    | with_reducible apply State.laneFence_ok
    | with_reducible apply State.sramRepair_ok
    | with_reducible apply State.rowSpare_ok
    | with_reducible apply State.fence_ok
    | with_reducible apply State.rev_ok
    | with_reducible apply State.lanesLost_ok
    | with_reducible refine State.each_ok ?_ _ (fun _ _ _ => ?_)
    | with_reducible apply State.ok_ite
    | split
    | with_reducible refine State.ok_mk ?_ ?_ ?_ ?_ ?_
    | exact rfl
    | (simp only [State.ev_valve, State.ev_fab, State.submit_valve]; done)

theorem State.aoFaultTest_ok {qs : List Instr} {s : State} (ok : s.Ok qs) (n : Nat) :
    (s.aoFaultTest n).Ok qs := by
  unfold State.aoFaultTest
  try dsimp only
  repeat' first
    | with_reducible exact ok
    | with_reducible assumption
    | with_reducible apply State.aoFaultEnter_ok
    | with_reducible apply State.testWant_ok
    | with_reducible apply State.ok_ite
    | split

theorem State.portStuckTest_ok {qs : List Instr} {s : State} (ok : s.Ok qs) (p : Nat) :
    (s.portStuckTest p).Ok qs := by
  unfold State.portStuckTest
  try dsimp only
  repeat' first
    | with_reducible exact ok
    | with_reducible assumption
    | with_reducible apply State.portStuck_ok
    | with_reducible apply State.testWant_ok
    | with_reducible apply State.ok_ite
    | split

theorem State.afterGuard_ok {qs : List Instr} {s : State} (ok : s.Ok qs) :
    (s.afterGuard).Ok qs := by
  unfold State.afterGuard
  try dsimp only
  repeat' first
    | with_reducible exact ok
    | with_reducible assumption
    | with_reducible apply State.recoveryAbandon_ok
    | with_reducible apply State.ok_ite
    | split

end Sys2Proof.Machine
end

