-- ==== Sys2Proof/Laws/GoodPower.lean ====
section
/-! SUPPORT. What PowerOps defines keeps the queue of waiting commands, the canonical form of the register table and
the capacities of the queues (`State.Ok`). -/

namespace Sys2Proof.Machine

set_option linter.unusedTactic false
set_option linter.unreachableTactic false

open Reg

theorem State.planesClear_ok {qs : List Instr} {s : State} (ok : s.Ok qs) : s.planesClear.Ok qs := by
  refine ⟨ok.queue, ⟨twf_tkeep _ _ ok.good.regs, fun p => ?_, Nat.zero_le _, Nat.zero_le _, fun _ => Nat.zero_le _⟩⟩
  show (tget (fun _ => []) (tkeep (fun p => decide (p = 0)) s.log.fifos) p).length ≤ 16
  rw [tget_tkeep]
  split
  · exact ok.good.fifo p
  · exact Nat.zero_le _

theorem State.drivePins_ok {qs : List Instr} {s : State} (ok : s.Ok qs) :
    (s.drivePins).Ok qs := by
  unfold State.drivePins
  try dsimp only
  repeat' first
    | with_reducible exact ok
    | with_reducible assumption
    | with_reducible apply State.send_ok
    | with_reducible refine State.each_ok ?_ _ (fun _ _ _ => ?_)

theorem State.planesReset_ok {qs : List Instr} {s : State} (ok : s.Ok qs) (cause : Nat) :
    (s.planesReset cause).Ok qs := by
  unfold State.planesReset
  try dsimp only
  repeat' first
    | with_reducible exact ok
    | with_reducible assumption
    | with_reducible exact rfl
    | with_reducible apply State.darken_ok
    | with_reducible apply State.planesClear_ok
    | with_reducible apply State.putB_ok
    | with_reducible apply State.put_ok
    | with_reducible apply State.drivePins_ok
    | with_reducible apply State.send_ok
    | with_reducible apply State.discharge_ok
    | with_reducible apply State.ok_ite
    | split
    | with_reducible refine State.ok_mk ?_ ?_ ?_ ?_ ?_
    | exact rfl
    | (simp only [State.ev_valve, State.ev_fab, State.submit_valve]; done)

theorem State.heldReset_ok {qs : List Instr} {s : State} (ok : s.Ok qs) (cause : Nat) :
    (s.heldReset cause).Ok qs := by
  unfold State.heldReset
  try dsimp only
  repeat' first
    | with_reducible exact ok
    | with_reducible assumption
    | with_reducible exact rfl
    | with_reducible apply State.put_ok
    | with_reducible refine State.ok_mk ?_ ?_ ?_ ?_ ?_
    | exact rfl
    | (simp only [State.ev_valve, State.ev_fab, State.submit_valve]; done)

theorem State.sampleStraps_ok {qs : List Instr} {s : State} (ok : s.Ok qs) (straps : Nat) :
    (s.sampleStraps straps).Ok qs := by
  unfold State.sampleStraps
  try dsimp only
  repeat' first
    | with_reducible exact ok
    | with_reducible assumption
    | with_reducible exact rfl
    | with_reducible refine State.ok_mk ?_ ?_ ?_ ?_ ?_
    | exact rfl
    | (simp only [State.ev_valve, State.ev_fab, State.submit_valve]; done)

theorem State.countCycle_ok {qs : List Instr} {s : State} (ok : s.Ok qs) :
    (s.countCycle).Ok qs := by
  unfold State.countCycle
  try dsimp only
  repeat' first
    | with_reducible exact ok
    | with_reducible assumption
    | with_reducible apply State.incSat_ok

theorem State.pondNow_ok {qs : List Instr} {s : State} (ok : s.Ok qs) (code : Nat) :
    (s.pondNow code).Ok qs := by
  unfold State.pondNow
  try dsimp only
  repeat' first
    | with_reducible exact ok
    | with_reducible assumption
    | with_reducible apply State.intakeAll_ok
    | with_reducible apply State.aev_ok

theorem State.sluiceBegin_ok {qs : List Instr} {s : State} (ok : s.Ok qs) (cmd : Bool) :
    (s.sluiceBegin cmd).Ok qs := by
  unfold State.sluiceBegin
  try dsimp only
  repeat' first
    | with_reducible exact ok
    | with_reducible assumption
    | with_reducible exact rfl
    | with_reducible apply State.safeAssert_ok
    | with_reducible apply State.millAbandon_ok
    | with_reducible apply State.recoveryAbandon_ok
    | with_reducible apply State.pondNow_ok
    | with_reducible apply State.stripPfail_ok
    | with_reducible apply State.panelSluice_ok
    | with_reducible apply State.busyShow_ok
    | with_reducible apply State.putB_ok
    | with_reducible apply State.ok_ite
    | split
    | with_reducible refine State.ok_mk ?_ ?_ ?_ ?_ ?_
    | exact rfl
    | (simp only [State.ev_valve, State.ev_fab, State.submit_valve]; done)

theorem State.pfail_ok {qs : List Instr} {s : State} (ok : s.Ok qs) :
    (s.pfail).Ok qs := by
  unfold State.pfail
  try dsimp only
  repeat' first
    | with_reducible exact ok
    | with_reducible assumption
    | with_reducible exact rfl
    | with_reducible apply State.putB_ok
    | with_reducible apply State.send_ok
    | with_reducible apply State.aev_ok
    | with_reducible apply State.pondNow_ok
    | with_reducible apply State.unfreeze_ok
    | with_reducible apply State.sluiceBegin_ok
    | with_reducible apply State.ok_ite
    | split
    | with_reducible refine State.ok_mk ?_ ?_ ?_ ?_ ?_
    | exact rfl
    | (simp only [State.ev_valve, State.ev_fab, State.submit_valve]; done)

theorem State.commandReset_ok {qs : List Instr} {s : State} (ok : s.Ok qs) :
    (s.commandReset).Ok qs := by
  unfold State.commandReset
  try dsimp only
  repeat' first
    | with_reducible exact ok
    | with_reducible assumption
    | with_reducible apply State.sluiceBegin_ok

theorem State.setSluice_ok {qs : List Instr} {s : State} (ok : s.Ok qs) (q : Sluice) :
    (s.setSluice q).Ok qs := by
  unfold State.setSluice
  try dsimp only
  repeat' first
    | with_reducible exact ok
    | with_reducible assumption
    | with_reducible exact rfl
    | with_reducible refine State.ok_mk ?_ ?_ ?_ ?_ ?_
    | exact rfl
    | (simp only [State.ev_valve, State.ev_fab, State.submit_valve]; done)

theorem State.sluiceFlushed_ok {qs : List Instr} {s : State} (ok : s.Ok qs) (time10us bad : Nat) :
    (s.sluiceFlushed time10us bad).Ok qs := by
  unfold State.sluiceFlushed
  try dsimp only
  repeat' first
    | with_reducible exact ok
    | with_reducible assumption
    | with_reducible exact rfl
    | with_reducible apply State.flushAll_ok
    | with_reducible apply State.flushEndEntry_ok
    | with_reducible apply State.setSluice_ok
    | with_reducible apply State.latchFlags_ok
    | with_reducible apply State.ok_ite
    | split
    | with_reducible refine State.ok_mk ?_ ?_ ?_ ?_ ?_
    | exact rfl
    | (simp only [State.ev_valve, State.ev_fab, State.submit_valve]; done)

theorem State.sluiceWordDone_ok {qs : List Instr} {s : State} (ok : s.Ok qs) :
    (s.sluiceWordDone).Ok qs := by
  unfold State.sluiceWordDone
  try dsimp only
  repeat' first
    | with_reducible exact ok
    | with_reducible assumption
    | with_reducible exact rfl
    | with_reducible apply State.setSluice_ok
    | with_reducible apply State.ok_ite
    | split
    | with_reducible refine State.ok_mk ?_ ?_ ?_ ?_ ?_
    | exact rfl
    | (simp only [State.ev_valve, State.ev_fab, State.submit_valve]; done)

theorem State.lifeSave_ok {qs : List Instr} {s : State} (ok : s.Ok qs) :
    (s.lifeSave).Ok qs := by
  unfold State.lifeSave
  try dsimp only
  repeat' first
    | with_reducible exact ok
    | with_reducible assumption
    | with_reducible exact rfl
    | with_reducible apply State.ok_ite
    | split
    | with_reducible refine State.ok_mk ?_ ?_ ?_ ?_ ?_
    | exact rfl
    | (simp only [State.ev_valve, State.ev_fab, State.submit_valve]; done)

theorem State.markerStrip_ok {qs : List Instr} {s : State} (ok : s.Ok qs) :
    (s.markerStrip).Ok qs := by
  unfold State.markerStrip
  try dsimp only
  repeat' first
    | with_reducible exact ok
    | with_reducible assumption
    | with_reducible exact rfl
    | with_reducible apply State.ok_ite
    | split
    | with_reducible refine State.ok_mk ?_ ?_ ?_ ?_ ?_
    | exact rfl
    | (simp only [State.ev_valve, State.ev_fab, State.submit_valve]; done)

theorem State.sluiceMarked_ok {qs : List Instr} {s : State} (ok : s.Ok qs) :
    (s.sluiceMarked).Ok qs := by
  unfold State.sluiceMarked
  try dsimp only
  repeat' first
    | with_reducible exact ok
    | with_reducible assumption
    | with_reducible exact rfl
    | with_reducible apply State.lifeSave_ok
    | with_reducible apply State.flushEndEntry_ok
    | with_reducible apply State.markerStrip_ok
    | with_reducible apply State.planesReset_ok
    | with_reducible apply State.ok_ite
    | split
    | with_reducible refine State.ok_mk ?_ ?_ ?_ ?_ ?_
    | exact rfl
    | (simp only [State.ev_valve, State.ev_fab, State.submit_valve]; done)

theorem State.haltEnd_ok {qs : List Instr} {s : State} (ok : s.Ok qs) :
    (s.haltEnd).Ok qs := by
  unfold State.haltEnd
  try dsimp only
  repeat' first
    | with_reducible exact ok
    | with_reducible assumption
    | with_reducible exact rfl
    | with_reducible apply State.send_ok
    | with_reducible refine State.ok_mk ?_ ?_ ?_ ?_ ?_
    | exact rfl
    | (simp only [State.ev_valve, State.ev_fab, State.submit_valve]; done)

theorem State.sluiceRestart_ok {qs : List Instr} {s : State} (ok : s.Ok qs) :
    (s.sluiceRestart).Ok qs := by
  unfold State.sluiceRestart
  try dsimp only
  repeat' first
    | with_reducible exact ok
    | with_reducible assumption
    | with_reducible exact rfl
    | with_reducible apply State.haltEnd_ok
    | with_reducible apply State.countCycle_ok
    | with_reducible apply State.put_ok
    | with_reducible apply State.putB_ok
    | with_reducible apply State.ok_ite
    | split
    | with_reducible refine State.ok_mk ?_ ?_ ?_ ?_ ?_
    | exact rfl
    | (simp only [State.ev_valve, State.ev_fab, State.submit_valve]; done)

theorem State.inputReturned_ok {qs : List Instr} {s : State} (ok : s.Ok qs) :
    (s.inputReturned).Ok qs := by
  unfold State.inputReturned
  try dsimp only
  repeat' first
    | with_reducible exact ok
    | with_reducible assumption
    | with_reducible exact rfl
    | with_reducible apply State.putB_ok
    | with_reducible apply State.sluiceRestart_ok
    | with_reducible apply State.ok_ite
    | split
    | with_reducible refine State.ok_mk ?_ ?_ ?_ ?_ ?_
    | exact rfl
    | (simp only [State.ev_valve, State.ev_fab, State.submit_valve]; done)

theorem State.thermalRestart_ok {qs : List Instr} {s : State} (ok : s.Ok qs) :
    (s.thermalRestart).Ok qs := by
  unfold State.thermalRestart
  try dsimp only
  repeat' first
    | with_reducible exact ok
    | with_reducible assumption
    | with_reducible exact rfl
    | with_reducible apply State.sluiceRestart_ok
    | with_reducible apply State.haltEnd_ok
    | with_reducible apply State.put_ok
    | with_reducible apply State.ok_ite
    | split
    | with_reducible refine State.ok_mk ?_ ?_ ?_ ?_ ?_
    | exact rfl
    | (simp only [State.ev_valve, State.ev_fab, State.submit_valve]; done)

theorem State.pfiLow_ok {qs : List Instr} {s : State} (ok : s.Ok qs) :
    (s.pfiLow).Ok qs := by
  unfold State.pfiLow
  try dsimp only
  repeat' first
    | with_reducible exact ok
    | with_reducible assumption
    | with_reducible exact rfl
    | with_reducible apply State.putB_ok
    | with_reducible apply State.ok_ite
    | split
    | with_reducible refine State.ok_mk ?_ ?_ ?_ ?_ ?_
    | exact rfl
    | (simp only [State.ev_valve, State.ev_fab, State.submit_valve]; done)

theorem State.pfiBack_ok {qs : List Instr} {s : State} (ok : s.Ok qs) :
    (s.pfiBack).Ok qs := by
  unfold State.pfiBack
  try dsimp only
  repeat' first
    | with_reducible exact ok
    | with_reducible assumption
    | with_reducible exact rfl
    | with_reducible apply State.ok_ite
    | split
    | with_reducible refine State.ok_mk ?_ ?_ ?_ ?_ ?_
    | exact rfl
    | (simp only [State.ev_valve, State.ev_fab, State.submit_valve]; done)

theorem State.graceEnd_ok {qs : List Instr} {s : State} (ok : s.Ok qs) (used records bad : Nat) :
    (s.graceEnd used records bad).Ok qs := by
  unfold State.graceEnd
  try dsimp only
  repeat' first
    | with_reducible exact ok
    | with_reducible assumption
    | with_reducible exact rfl
    | with_reducible apply State.put_ok
    | with_reducible apply State.putB_ok
    | with_reducible apply State.flushBad_ok
    | with_reducible apply State.drainFifos_ok
    | with_reducible apply State.flushOnce_ok
    | with_reducible apply State.flushEndEntry_ok
    | with_reducible apply State.flushPlaced_ok
    | with_reducible apply State.planesReset_ok
    | with_reducible apply State.ok_ite
    | split
    | with_reducible refine State.ok_mk ?_ ?_ ?_ ?_ ?_
    | exact rfl
    | (simp only [State.ev_valve, State.ev_fab, State.submit_valve]; done)

theorem State.railsGood_ok {qs : List Instr} {s : State} (ok : s.Ok qs) :
    (s.railsGood).Ok qs := by
  unfold State.railsGood
  try dsimp only
  repeat' first
    | with_reducible exact ok
    | with_reducible assumption
    | with_reducible exact rfl
    | with_reducible apply State.putB_ok
    | with_reducible apply State.ok_ite
    | split
    | with_reducible refine State.ok_mk ?_ ?_ ?_ ?_ ?_
    | exact rfl
    | (simp only [State.ev_valve, State.ev_fab, State.submit_valve]; done)

theorem State.railDip_ok {qs : List Instr} {s : State} (ok : s.Ok qs) (rail us : Nat) :
    (s.railDip rail us).Ok qs := by
  unfold State.railDip
  try dsimp only
  repeat' first
    | with_reducible exact ok
    | with_reducible assumption
    | with_reducible exact rfl
    | with_reducible apply State.putB_ok
    | with_reducible apply State.heldReset_ok
    | with_reducible apply State.planesReset_ok
    | with_reducible apply State.aev_ok
    | with_reducible apply State.ok_ite
    | split
    | with_reducible refine State.ok_mk ?_ ?_ ?_ ?_ ?_
    | exact rfl
    | (simp only [State.ev_valve, State.ev_fab, State.submit_valve]; done)

theorem State.collapse_ok {qs : List Instr} {s : State} (ok : s.Ok qs) :
    (s.collapse).Ok qs := by
  unfold State.collapse
  try dsimp only
  repeat' first
    | with_reducible exact ok
    | with_reducible assumption
    | with_reducible exact rfl
    | with_reducible apply State.planesReset_ok
    | with_reducible refine State.ok_mk ?_ ?_ ?_ ?_ ?_
    | exact rfl
    | (simp only [State.ev_valve, State.ev_fab, State.submit_valve]; done)

theorem State.stageRail_ok {qs : List Instr} {s : State} (ok : s.Ok qs) (r : Rail) (mv : Nat) :
    (s.stageRail r mv).Ok qs := by
  unfold State.stageRail
  try dsimp only
  repeat' first
    | with_reducible exact ok
    | with_reducible assumption
    | with_reducible exact rfl
    | with_reducible apply State.put_ok
    | with_reducible apply State.bankShow_ok
    | with_reducible apply State.putB_ok
    | with_reducible apply State.fansSupply_ok
    | with_reducible apply State.portsVcab_ok
    | with_reducible apply State.panelVledChange_ok
    | with_reducible apply State.stripVepChange_ok
    | with_reducible apply State.ok_ite
    | split
    | with_reducible refine State.ok_mk ?_ ?_ ?_ ?_ ?_
    | exact rfl
    | (simp only [State.ev_valve, State.ev_fab, State.submit_valve]; done)

theorem State.pllLocked_ok {qs : List Instr} {s : State} (ok : s.Ok qs) :
    (s.pllLocked).Ok qs := by
  unfold State.pllLocked
  try dsimp only
  repeat' first
    | with_reducible exact ok
    | with_reducible assumption
    | with_reducible apply State.putB_ok
    | with_reducible apply State.ok_ite
    | split

theorem State.pllLost_ok {qs : List Instr} {s : State} (ok : s.Ok qs) :
    (s.pllLost).Ok qs := by
  unfold State.pllLost
  try dsimp only
  repeat' first
    | with_reducible exact ok
    | with_reducible assumption
    | with_reducible apply State.incSat_ok
    | with_reducible apply State.planesReset_ok
    | with_reducible apply State.putB_ok
    | with_reducible apply State.heldReset_ok
    | with_reducible apply State.ok_ite
    | split

theorem State.refLost_ok {qs : List Instr} {s : State} (ok : s.Ok qs) :
    (s.refLost).Ok qs := by
  unfold State.refLost
  try dsimp only
  repeat' first
    | with_reducible exact ok
    | with_reducible assumption
    | with_reducible exact rfl
    | with_reducible apply State.putB_ok
    | with_reducible apply State.aev_ok
    | with_reducible apply State.ok_ite
    | split
    | with_reducible refine State.ok_mk ?_ ?_ ?_ ?_ ?_
    | exact rfl
    | (simp only [State.ev_valve, State.ev_fab, State.submit_valve]; done)

theorem State.testMode_ok {qs : List Instr} {s : State} (ok : s.Ok qs) :
    (s.testMode).Ok qs := by
  unfold State.testMode
  try dsimp only
  repeat' first
    | with_reducible exact ok
    | with_reducible assumption
    | with_reducible exact rfl
    | with_reducible apply State.planesReset_ok
    | with_reducible apply State.ok_ite
    | split
    | with_reducible refine State.ok_mk ?_ ?_ ?_ ?_ ?_
    | exact rfl
    | (simp only [State.ev_valve, State.ev_fab, State.submit_valve]; done)

theorem State.testRelease_ok {qs : List Instr} {s : State} (ok : s.Ok qs) :
    (s.testRelease).Ok qs := by
  unfold State.testRelease
  try dsimp only
  repeat' first
    | with_reducible exact ok
    | with_reducible assumption
    | with_reducible exact rfl
    | with_reducible apply State.heldReset_ok
    | with_reducible apply State.ok_ite
    | split
    | with_reducible refine State.ok_mk ?_ ?_ ?_ ?_ ?_
    | exact rfl
    | (simp only [State.ev_valve, State.ev_fab, State.submit_valve]; done)

theorem State.external_ok {qs : List Instr} {s : State} (ok : s.Ok qs) (straps : Nat) :
    (s.external straps).Ok qs := by
  unfold State.external
  try dsimp only
  repeat' first
    | with_reducible exact ok
    | with_reducible assumption
    | with_reducible apply State.heldReset_ok
    | with_reducible apply State.planesReset_ok
    | with_reducible apply State.sampleStraps_ok
    | with_reducible apply State.ok_ite
    | split

theorem State.powerClear_ok {qs : List Instr} {s : State} (ok : s.Ok qs) (straps : Nat) : (s.powerClear straps).Ok qs :=
  ⟨ok.queue, ⟨rfl, fun _ => Nat.zero_le _, Nat.zero_le _, Nat.zero_le _, fun _ => Nat.zero_le _⟩⟩

theorem State.powerOn_ok {qs : List Instr} {s : State} (ok : s.Ok qs) (straps : Nat) :
    (s.powerOn straps).Ok qs := by
  unfold State.powerOn
  try dsimp only
  repeat' first
    | with_reducible exact ok
    | with_reducible assumption
    | with_reducible apply State.powerClear_ok
    | with_reducible apply State.setOptime_ok
    | with_reducible apply State.put_ok
    | with_reducible apply State.countCycle_ok
    | with_reducible apply State.spareShow_ok
    | with_reducible apply State.putB_ok
    | with_reducible apply State.drivePins_ok

theorem State.gaugeValid_ok {qs : List Instr} {s : State} (ok : s.Ok qs) :
    (s.gaugeValid).Ok qs := by
  unfold State.gaugeValid
  try dsimp only
  repeat' first
    | with_reducible exact ok
    | with_reducible assumption
    | with_reducible apply State.putB_ok

theorem State.gauge_ok {qs : List Instr} {s : State} (ok : s.Ok qs) (code : Nat) :
    (s.gauge code).Ok qs := by
  unfold State.gauge
  try dsimp only
  repeat' first
    | with_reducible exact ok
    | with_reducible assumption
    | with_reducible apply State.put_ok
    | with_reducible apply State.took_ok
    | with_reducible apply State.ok_ite
    | split

end Sys2Proof.Machine
end

