-- ==== Sys2Proof/Laws/GoodFabric.lean ====
section
/-! SUPPORT. What Fabric defines keeps the queue of waiting commands, the canonical form of the register table and
the capacities of the queues (`State.Ok`). -/

namespace Sys2Proof.Machine

set_option linter.unusedTactic false
set_option linter.unreachableTactic false

open Reg

theorem State.capture_ok {qs : List Instr} {s : State} (ok : s.Ok qs) (req : Nat) (l : List Nat) :
    (s.capture req l).Ok qs := by
  unfold State.capture
  try dsimp only
  repeat' first
    | with_reducible exact ok
    | with_reducible assumption
    | with_reducible exact rfl
    | with_reducible refine State.foldl_ok (fun _ _ _ => ?_) _ ?_
    | with_reducible refine State.foldl_fst_ok (fun _ _ _ => ?_) _ ?_
    | with_reducible refine State.ok_mk ?_ ?_ ?_ ?_ ?_
    | exact rfl
    | (simp only [State.ev_valve, State.ev_fab, State.submit_valve]; done)

theorem State.violate_ok {qs : List Instr} {s : State} (ok : s.Ok qs) (req : Nat) :
    (s.violate req).Ok qs := by
  unfold State.violate
  try dsimp only
  repeat' first
    | with_reducible exact ok
    | with_reducible assumption
    | with_reducible apply State.inc_ok
    | with_reducible apply State.ok_ite
    | split

theorem State.readAt_ok {qs : List Instr} {s : State} (ok : s.Ok qs) (req a : Nat) :
    (s.readAt req a).2.Ok qs := by
  unfold State.readAt
  try dsimp only
  repeat' first
    | with_reducible exact ok
    | with_reducible assumption
    | with_reducible apply State.inc_ok
    | with_reducible apply State.capture_ok
    | with_reducible apply State.ok_ite
    | split

theorem State.keyCommand_ok {qs : List Instr} {s : State} (ok : s.Ok qs) (v : Word) :
    (s.keyCommand v).Ok qs := by
  unfold State.keyCommand
  try dsimp only
  repeat' first
    | with_reducible exact ok
    | with_reducible assumption
    | with_reducible exact rfl
    | with_reducible apply State.ev_ok
    | with_reducible refine State.foldl_ok (fun _ _ _ => ?_) _ ?_
    | with_reducible refine State.foldl_fst_ok (fun _ _ _ => ?_) _ ?_
    | with_reducible apply State.ok_ite
    | split
    | with_reducible refine State.ok_mk ?_ ?_ ?_ ?_ ?_
    | exact rfl
    | (simp only [State.ev_valve, State.ev_fab, State.submit_valve]; done)

theorem State.tableEntry_ok {qs : List Instr} {s : State} (ok : s.Ok qs) (d : Display) :
    (s.tableEntry d).Ok qs := by
  unfold State.tableEntry
  try dsimp only
  repeat' first
    | with_reducible exact ok
    | with_reducible assumption
    | with_reducible exact rfl
    | with_reducible apply State.dirtyAll_ok
    | with_reducible apply State.ok_ite
    | split
    | with_reducible refine State.ok_mk ?_ ?_ ?_ ?_ ?_
    | exact rfl
    | (simp only [State.ev_valve, State.ev_fab, State.submit_valve]; done)

theorem State.mgmtEffect_ok {qs : List Instr} {s : State} (ok : s.Ok qs) (req a : Nat) (old v : Word) :
    (s.mgmtEffect req a old v).Ok qs := by
  unfold State.mgmtEffect
  try dsimp only
  repeat' first
    | with_reducible exact ok
    | with_reducible assumption
    | with_reducible exact rfl
    | with_reducible apply State.keyCommand_ok
    | with_reducible apply State.timeEnter_ok
    | with_reducible apply State.send_ok
    | with_reducible apply State.ptpSet_ok
    | with_reducible apply State.linkChange_ok
    | with_reducible apply State.timeSet_ok
    | with_reducible apply State.wdogRelease_ok
    | with_reducible apply State.heartbeat_ok
    | with_reducible apply State.freezeSet_ok
    | with_reducible apply State.freezeLift_ok
    | with_reducible apply State.logClear_ok
    | with_reducible apply State.dirtyAll_ok
    | with_reducible apply State.stripFitted_ok
    | with_reducible apply State.panelFitted_ok
    | with_reducible apply State.panelOffCmd_ok
    | with_reducible apply State.panelWake_ok
    | with_reducible apply State.panelClearCrack_ok
    | with_reducible apply State.panelClearStress_ok
    | with_reducible apply State.sourceChanged_ok
    | with_reducible apply State.fbWrite_ok
    | with_reducible apply State.commitGo_ok
    | with_reducible apply State.tableEntry_ok
    | with_reducible apply State.stripGo_ok
    | with_reducible apply State.relCmd_ok
    | with_reducible apply State.ok_ite
    | split
    | with_reducible refine State.ok_mk ?_ ?_ ?_ ?_ ?_
    | exact rfl
    | (simp only [State.ev_valve, State.ev_fab, State.submit_valve]; done)

theorem State.aonEffect_ok {qs : List Instr} {s : State} (ok : s.Ok qs) (a : Nat) :
    (s.aonEffect a).Ok qs := by
  unfold State.aonEffect
  try dsimp only
  repeat' first
    | with_reducible exact ok
    | with_reducible assumption
    | with_reducible apply State.commandReset_ok
    | with_reducible apply State.guardFans_ok
    | with_reducible apply State.gaugeValid_ok
    | with_reducible apply State.ok_ite
    | split

theorem State.valveEffect_ok {qs : List Instr} {s : State} (ok : s.Ok qs) (req v o : Nat) (old w : Word) :
    (s.valveEffect req v o old w).Ok qs := by
  unfold State.valveEffect
  try dsimp only
  repeat' first
    | with_reducible exact ok
    | with_reducible assumption
    | with_reducible apply State.valveStart_ok
    | with_reducible apply State.valveStop_ok
    | with_reducible apply State.clearFault_ok
    | with_reducible apply State.dutyJudge_ok
    | with_reducible apply State.ok_ite
    | split

theorem State.bankEffect_ok {qs : List Instr} {s : State} (ok : s.Ok qs) (b o : Nat) (w : Word) :
    (s.bankEffect b o w).Ok qs := by
  unfold State.bankEffect
  try dsimp only
  repeat' first
    | with_reducible exact ok
    | with_reducible assumption
    | with_reducible apply State.bankDisable_ok
    | with_reducible apply State.bankEnable_ok
    | with_reducible apply State.channelDisable_ok
    | with_reducible apply State.channelEnable_ok
    | with_reducible apply State.clearFault_ok
    | with_reducible apply State.cqPop_ok
    | with_reducible apply State.ok_ite
    | split

theorem State.fanCfgWrite_ok {qs : List Instr} {s : State} (ok : s.Ok qs) (f : Nat) (old v : Word) :
    (s.fanCfgWrite f old v).Ok qs := by
  unfold State.fanCfgWrite
  try dsimp only
  repeat' first
    | with_reducible exact ok
    | with_reducible assumption
    | with_reducible apply State.fanLoopReset_ok
    | with_reducible apply State.overrides_ok
    | with_reducible apply State.ok_ite
    | split

theorem State.ctlEffect_ok {qs : List Instr} {s : State} (ok : s.Ok qs) (req a : Nat) (old v : Word) :
    (s.ctlEffect req a old v).Ok qs := by
  unfold State.ctlEffect
  try dsimp only
  repeat' first
    | with_reducible exact ok
    | with_reducible assumption
    | with_reducible apply State.coefWrite_ok
    | with_reducible apply State.modeRequest_ok
    | with_reducible apply State.valveEffect_ok
    | with_reducible apply State.bankEffect_ok
    | with_reducible apply State.fanCfgWrite_ok
    | with_reducible apply State.aoIdle_ok
    | with_reducible apply State.pulseStart_ok
    | with_reducible apply State.ok_ite
    | split

theorem State.dataEffect_ok {qs : List Instr} {s : State} (ok : s.Ok qs) (a : Nat) (old v : Word) :
    (s.dataEffect a old v).Ok qs := by
  unfold State.dataEffect
  try dsimp only
  repeat' first
    | with_reducible exact ok
    | with_reducible assumption
    | with_reducible apply State.cupCtrl_ok
    | with_reducible apply State.portEnable_ok
    | with_reducible apply State.portReenum_ok
    | with_reducible apply State.portCycle_ok
    | with_reducible apply State.portIdentify_ok
    | with_reducible apply State.hostGo_ok
    | with_reducible apply State.fieldChange_ok
    | with_reducible apply State.bodyHold_ok
    | with_reducible apply State.bodyResume_ok
    | with_reducible apply State.infCfgWrite_ok
    | with_reducible apply State.ok_ite
    | split

theorem State.effect_ok {qs : List Instr} {s : State} (ok : s.Ok qs) (req a : Nat) (old v : Word) :
    (s.effect req a old v).Ok qs := by
  unfold State.effect
  try dsimp only
  repeat' first
    | with_reducible exact ok
    | with_reducible assumption
    | with_reducible apply State.mgmtEffect_ok
    | with_reducible apply State.aonEffect_ok
    | with_reducible apply State.ctlEffect_ok
    | with_reducible apply State.dataEffect_ok
    | split

theorem State.writeCore_ok {qs : List Instr} {s : State} (ok : s.Ok qs) (req a : Nat) (v : Word) :
    (s.writeCore req a v).Ok qs := by
  unfold State.writeCore
  try dsimp only
  repeat' first
    | with_reducible exact ok
    | with_reducible assumption
    | with_reducible apply State.violate_ok
    | with_reducible apply State.store_ok
    | with_reducible apply State.effect_ok
    | with_reducible apply State.ok_ite
    | split

theorem State.setArm_ok {qs : List Instr} {s : State} (ok : s.Ok qs) (d : Bool) {l : List LeatReq} (hl : l.length ≤ 64) :
    (s.setArm d l).Ok qs := by
  cases d
  · exact ⟨ok.queue, ⟨ok.good.regs, ok.good.fifo, hl, ok.good.dat, ok.good.cq⟩⟩
  · exact ⟨ok.queue, ⟨ok.good.regs, ok.good.fifo, ok.good.ctl, hl, ok.good.cq⟩⟩

theorem State.arm_le {qs : List Instr} {s : State} (ok : s.Ok qs) (d : Bool) : (s.arm d).length ≤ 64 := by
  cases d
  · exact ok.good.ctl
  · exact ok.good.dat

theorem State.enqueue_ok {qs : List Instr} {s : State} (ok : s.Ok qs) (r : LeatReq) : (s.enqueue r).Ok qs := by
  unfold State.enqueue
  dsimp only
  split
  · rename_i h
    simp only [Bool.and_eq_true, decide_eq_true_eq] at h
    exact State.setArm_ok ok _ (by simp; omega)
  · exact State.ok_with ok rfl rfl rfl rfl rfl rfl

theorem State.unhold_ok {qs : List Instr} {s : State} (ok : s.Ok qs) (d : Bool) : (s.unhold d).Ok qs := by
  unfold State.unhold
  split
  · split
    · rename_i r _ h
      refine State.setArm_ok ?_ _ ?_
      · with_reducible refine State.ok_mk ok ?_ ?_ ?_ ?_ <;> with_reducible exact rfl
      · simp; omega
    · exact ok
  · exact ok

theorem State.deliver_ok {qs : List Instr} {s : State} (ok : s.Ok qs) (d : Bool) : (s.deliver d).Ok qs := by
  unfold State.deliver
  split
  · exact ok
  · split
    · exact ok
    · rename_i r rest heq
      have hl := State.arm_le ok d
      rw [heq, List.length_cons] at hl
      have ht := State.unhold_ok (State.setArm_ok ok d (l := rest) (by omega)) d
      dsimp only
      split
      · exact State.writeCore_ok ht _ _ _
      · refine State.ok_mk ?_ ?_ ?_ ?_ ?_
        · exact State.readAt_ok ht _ _
        all_goals with_reducible exact rfl

theorem State.drain_ok {qs : List Instr} {s : State} (ok : s.Ok qs) (d : Bool) :
    (s.drain d).Ok qs := by
  unfold State.drain
  try dsimp only
  repeat' first
    | with_reducible exact ok
    | with_reducible assumption
    | with_reducible apply State.deliver_ok
    | with_reducible refine State.foldl_ok (fun _ _ _ => ?_) _ ?_
    | with_reducible refine State.foldl_fst_ok (fun _ _ _ => ?_) _ ?_

theorem State.txnGot_ok {qs : List Instr} {s : State} (ok : s.Ok qs) (id idx : Nat) (w : Word) :
    (s.txnGot id idx w).Ok qs := by
  unfold State.txnGot
  try dsimp only
  repeat' first
    | with_reducible exact ok
    | with_reducible assumption
    | with_reducible exact rfl
    | with_reducible apply State.ok_ite
    | split
    | with_reducible refine State.ok_mk ?_ ?_ ?_ ?_ ?_
    | exact rfl
    | (simp only [State.ev_valve, State.ev_fab, State.submit_valve]; done)

theorem State.issueRead_ok {qs : List Instr} {s : State} (ok : s.Ok qs) (req a txn idx : Nat) :
    (s.issueRead req a txn idx).Ok qs := by
  unfold State.issueRead
  try dsimp only
  repeat' first
    | with_reducible exact ok
    | with_reducible assumption
    | with_reducible exact rfl
    | with_reducible apply State.enqueue_ok
    | with_reducible apply State.readAt_ok
    | with_reducible apply State.txnGot_ok
    | with_reducible apply State.ok_ite
    | split
    | with_reducible refine State.ok_mk ?_ ?_ ?_ ?_ ?_
    | exact rfl
    | (simp only [State.ev_valve, State.ev_fab, State.submit_valve]; done)

theorem State.txnStart_ok {qs : List Instr} {s : State} (ok : s.Ok qs) (req : Nat) (kind : TxnKind) (addrs : List Nat) (shape : List (Nat × Bool)) :
    (s.txnStart req kind addrs shape).1.Ok qs := by
  unfold State.txnStart
  try dsimp only
  repeat' first
    | with_reducible exact ok
    | with_reducible assumption
    | with_reducible exact rfl
    | with_reducible apply State.issueRead_ok
    | with_reducible refine State.foldl_ok (fun _ _ _ => ?_) _ ?_
    | with_reducible refine State.foldl_fst_ok (fun _ _ _ => ?_) _ ?_
    | with_reducible refine State.ok_mk ?_ ?_ ?_ ?_ ?_
    | exact rfl
    | (simp only [State.ev_valve, State.ev_fab, State.submit_valve]; done)

theorem State.readVia_ok {qs : List Instr} {s : State} (ok : s.Ok qs) (req a : Nat) :
    (s.readVia req a).Ok qs := by
  unfold State.readVia
  try dsimp only
  repeat' first
    | with_reducible exact ok
    | with_reducible assumption
    | with_reducible apply State.txnStart_ok
    | with_reducible apply State.readAt_ok
    | with_reducible apply State.send_ok
    | with_reducible apply State.ok_ite
    | split

end Sys2Proof.Machine
end

