-- ==== Sys2Proof/Laws/GoodCaddyFile.lean ====
section
/-! SUPPORT. What CaddyFile defines keeps the queue of waiting commands, the canonical form of the register table and
the capacities of the queues (`State.Ok`). -/

namespace Sys2Proof.Machine

set_option linter.unusedTactic false
set_option linter.unreachableTactic false

open Reg

theorem State.flashProg_ok {qs : List Instr} {s : State} (ok : s.Ok qs) (a : Nat) (b : Byte) :
    (s.flashProg a b).Ok qs := by
  unfold State.flashProg
  try dsimp only
  repeat' first
    | with_reducible exact ok
    | with_reducible assumption
    | with_reducible exact rfl
    | with_reducible refine State.ok_mk ?_ ?_ ?_ ?_ ?_
    | exact rfl
    | (simp only [State.ev_valve, State.ev_fab, State.submit_valve]; done)

theorem State.flashErase_ok {qs : List Instr} {s : State} (ok : s.Ok qs) (a : Nat) :
    (s.flashErase a).Ok qs := by
  unfold State.flashErase
  try dsimp only
  repeat' first
    | with_reducible exact ok
    | with_reducible assumption
    | with_reducible exact rfl
    | with_reducible refine State.ok_mk ?_ ?_ ?_ ?_ ?_
    | exact rfl
    | (simp only [State.ev_valve, State.ev_fab, State.submit_valve]; done)

theorem State.flashFacts_ok {qs : List Instr} {s : State} (ok : s.Ok qs) (octal : Bool) (badA badB : Nat) :
    (s.flashFacts octal badA badB).Ok qs := by
  unfold State.flashFacts
  try dsimp only
  repeat' first
    | with_reducible exact ok
    | with_reducible assumption
    | with_reducible exact rfl
    | with_reducible refine State.ok_mk ?_ ?_ ?_ ?_ ?_
    | exact rfl
    | (simp only [State.ev_valve, State.ev_fab, State.submit_valve]; done)

theorem State.keyRecord_ok {qs : List Instr} {s : State} (ok : s.Ok qs) (n reason : Nat) :
    (s.keyRecord n reason).Ok qs := by
  unfold State.keyRecord
  try dsimp only
  repeat' first
    | with_reducible exact ok
    | with_reducible assumption
    | with_reducible apply State.ev_ok
    | with_reducible apply State.ok_ite
    | split

theorem State.slotShow_ok {qs : List Instr} {s : State} (ok : s.Ok qs) (n reason : Nat) :
    (s.slotShow n reason).Ok qs := by
  unfold State.slotShow
  try dsimp only
  repeat' first
    | with_reducible exact ok
    | with_reducible assumption
    | with_reducible apply State.setReg_ok
    | with_reducible apply State.put_ok
    | with_reducible apply State.putB_ok
    | with_reducible apply State.keyRecord_ok
    | with_reducible apply State.ok_ite
    | split

theorem State.headCheck_ok {qs : List Instr} {s : State} (ok : s.Ok qs) (n : Nat) :
    (s.headCheck n).Ok qs := by
  unfold State.headCheck
  try dsimp only
  repeat' first
    | with_reducible exact ok
    | with_reducible assumption
    | with_reducible apply State.slotShow_ok

theorem State.slotCheck_ok {qs : List Instr} {s : State} (ok : s.Ok qs) (n : Nat) :
    (s.slotCheck n).Ok qs := by
  unfold State.slotCheck
  try dsimp only
  repeat' first
    | with_reducible exact ok
    | with_reducible assumption
    | with_reducible apply State.slotShow_ok

end Sys2Proof.Machine
end

