-- ==== Sys2Proof/Laws/GoodCaddySections.lean ====
section
/-! SUPPORT. What CaddySections defines keeps the queue of waiting commands, the canonical form of the register table and
the capacities of the queues (`State.Ok`). -/

namespace Sys2Proof.Machine

set_option linter.unusedTactic false
set_option linter.unreachableTactic false

open Reg

theorem State.must_ok {qs : List Instr} {s : State} (ok : s.Ok qs) (ok : Bool) :
    (s.must ok).Ok qs := by
  unfold State.must
  try dsimp only
  repeat' first
    | with_reducible exact ok
    | with_reducible assumption
    | with_reducible apply State.violate_ok
    | with_reducible apply State.ok_ite
    | split

theorem State.loaderWrite_ok {qs : List Instr} {s : State} (ok : s.Ok qs) (a : Nat) (w : Word) :
    (s.loaderWrite a w).Ok qs := by
  unfold State.loaderWrite
  try dsimp only
  repeat' first
    | with_reducible exact ok
    | with_reducible assumption
    | with_reducible exact rfl
    | with_reducible apply State.setChan_ok
    | with_reducible apply State.violate_ok
    | with_reducible apply State.setFan_ok
    | with_reducible apply State.writeCore_ok
    | with_reducible apply State.ok_ite
    | split
    | with_reducible refine State.ok_mk ?_ ?_ ?_ ?_ ?_
    | exact rfl
    | (simp only [State.ev_valve, State.ev_fab, State.submit_valve]; done)

theorem State.putControl_ok {qs : List Instr} {s : State} (ok : s.Ok qs) (l : List (Nat × Word)) :
    (s.putControl l).Ok qs := by
  unfold State.putControl
  try dsimp only
  repeat' first
    | with_reducible exact ok
    | with_reducible assumption
    | with_reducible apply State.loaderWrite_ok
    | with_reducible apply State.fanTablesLoad_ok
    | with_reducible refine State.each_ok ?_ _ (fun _ _ _ => ?_)

theorem State.putImage_ok {qs : List Instr} {s : State} (ok : s.Ok qs) (allowed : Nat → Bool) (l : List (Nat × Word)) :
    (s.putImage allowed l).Ok qs := by
  unfold State.putImage
  try dsimp only
  repeat' first
    | with_reducible exact ok
    | with_reducible assumption
    | with_reducible apply State.loaderWrite_ok
    | with_reducible apply State.violate_ok
    | with_reducible refine State.each_ok ?_ _ (fun _ _ _ => ?_)
    | with_reducible apply State.ok_ite
    | split

theorem State.putCrops_ok {qs : List Instr} {s : State} (ok : s.Ok qs) (b : List Byte) :
    (s.putCrops b).Ok qs := by
  unfold State.putCrops
  try dsimp only
  repeat' first
    | with_reducible exact ok
    | with_reducible assumption
    | with_reducible exact rfl
    | with_reducible apply State.violate_ok
    | with_reducible apply State.setReg_ok
    | with_reducible refine State.foldl_ok (fun _ _ _ => ?_) _ ?_
    | with_reducible refine State.foldl_fst_ok (fun _ _ _ => ?_) _ ?_
    | with_reducible apply State.ok_ite
    | split
    | with_reducible refine State.ok_mk ?_ ?_ ?_ ?_ ?_
    | exact rfl
    | (simp only [State.ev_valve, State.ev_fab, State.submit_valve]; done)

theorem State.dropCrops_ok {qs : List Instr} {s : State} (ok : s.Ok qs) :
    (s.dropCrops).Ok qs := by
  unfold State.dropCrops
  try dsimp only
  repeat' first
    | with_reducible exact ok
    | with_reducible assumption
    | with_reducible exact rfl
    | with_reducible apply State.setReg_ok
    | with_reducible refine State.ok_mk ?_ ?_ ?_ ?_ ?_
    | exact rfl
    | (simp only [State.ev_valve, State.ev_fab, State.submit_valve]; done)

theorem State.geometryRegs_ok {qs : List Instr} {s : State} (ok : s.Ok qs) (k base : Nat) (g : Geometry) :
    (s.geometryRegs k base g).Ok qs := by
  unfold State.geometryRegs
  try dsimp only
  repeat' first
    | with_reducible exact ok
    | with_reducible assumption
    | with_reducible apply State.setReg_ok
    | with_reducible apply State.put_ok

theorem State.workDrop_ok {qs : List Instr} {s : State} (ok : s.Ok qs) (k : Nat) :
    (s.workDrop k).Ok qs := by
  unfold State.workDrop
  try dsimp only
  repeat' first
    | with_reducible exact ok
    | with_reducible assumption
    | with_reducible exact rfl
    | split
    | with_reducible refine State.ok_mk ?_ ?_ ?_ ?_ ?_
    | exact rfl
    | (simp only [State.ev_valve, State.ev_fab, State.submit_valve]; done)

theorem State.putGeometry_ok {qs : List Instr} {s : State} (ok : s.Ok qs) (boot : Bool) (k : Nat) (b digest : List Byte) :
    (s.putGeometry boot k b digest).Ok qs := by
  unfold State.putGeometry
  try dsimp only
  repeat' first
    | with_reducible exact ok
    | with_reducible assumption
    | with_reducible exact rfl
    | with_reducible apply State.geometryRegs_ok
    | with_reducible apply State.setBody_ok
    | with_reducible apply State.workDrop_ok
    | with_reducible apply State.violate_ok
    | split
    | with_reducible refine State.ok_mk ?_ ?_ ?_ ?_ ?_
    | exact rfl
    | (simp only [State.ev_valve, State.ev_fab, State.submit_valve]; done)

theorem State.dropGeometry_ok {qs : List Instr} {s : State} (ok : s.Ok qs) (k : Nat) :
    (s.dropGeometry k).Ok qs := by
  unfold State.dropGeometry
  try dsimp only
  repeat' first
    | with_reducible exact ok
    | with_reducible assumption
    | with_reducible exact rfl
    | with_reducible apply State.setReg_ok
    | with_reducible apply State.setBst_ok
    | with_reducible apply State.put_ok
    | with_reducible apply State.workDrop_ok
    | with_reducible apply State.publish_ok
    | with_reducible apply State.setBody_ok
    | with_reducible refine State.each_ok ?_ _ (fun _ _ _ => ?_)
    | with_reducible refine State.ok_mk ?_ ?_ ?_ ?_ ?_
    | exact rfl
    | (simp only [State.ev_valve, State.ev_fab, State.submit_valve]; done)

theorem State.putMicrocode_ok {qs : List Instr} {s : State} (ok : s.Ok qs) (inst version : Nat) :
    (s.putMicrocode inst version).Ok qs := by
  unfold State.putMicrocode
  try dsimp only
  repeat' first
    | with_reducible exact ok
    | with_reducible assumption
    | with_reducible exact rfl
    | with_reducible apply State.violate_ok
    | with_reducible apply State.ok_ite
    | split
    | with_reducible refine State.ok_mk ?_ ?_ ?_ ?_ ?_
    | exact rfl
    | (simp only [State.ev_valve, State.ev_fab, State.submit_valve]; done)

theorem State.dropMicrocode_ok {qs : List Instr} {s : State} (ok : s.Ok qs) (inst : Nat) :
    (s.dropMicrocode inst).Ok qs := by
  unfold State.dropMicrocode
  try dsimp only
  repeat' first
    | with_reducible exact ok
    | with_reducible assumption
    | with_reducible exact rfl
    | with_reducible refine State.ok_mk ?_ ?_ ?_ ?_ ?_
    | exact rfl
    | (simp only [State.ev_valve, State.ev_fab, State.submit_valve]; done)

theorem State.anchorCells_ok {qs : List Instr} {s : State} (ok : s.Ok qs) (k : Nat) :
    (s.anchorCells k).Ok qs := by
  unfold State.anchorCells
  try dsimp only
  repeat' first
    | with_reducible exact ok
    | with_reducible assumption
    | with_reducible exact rfl
    | with_reducible apply State.setBody_ok
    | with_reducible refine State.foldl_ok (fun _ _ _ => ?_) _ ?_
    | with_reducible refine State.foldl_fst_ok (fun _ _ _ => ?_) _ ?_
    | with_reducible apply State.ok_ite
    | split
    | with_reducible refine State.ok_mk ?_ ?_ ?_ ?_ ?_
    | exact rfl
    | (simp only [State.ev_valve, State.ev_fab, State.submit_valve]; done)

theorem State.staleEntries_ok {qs : List Instr} {s : State} (ok : s.Ok qs) (old : List Pub) :
    (s.staleEntries old).Ok qs := by
  unfold State.staleEntries
  try dsimp only
  repeat' first
    | with_reducible exact ok
    | with_reducible assumption
    | with_reducible apply State.publish_ok
    | with_reducible refine State.each_ok ?_ _ (fun _ _ _ => ?_)

theorem State.boundsChanged_ok {qs : List Instr} {s : State} (ok : s.Ok qs) (old : List AirBound) :
    (s.boundsChanged old).Ok qs := by
  unfold State.boundsChanged
  try dsimp only
  repeat' first
    | with_reducible exact ok
    | with_reducible assumption
    | with_reducible apply State.solveWant_ok
    | with_reducible refine State.each_ok ?_ _ (fun _ _ _ => ?_)

theorem State.putSensorMap_ok {qs : List Instr} {s : State} (ok : s.Ok qs) (boot : Bool) (b : List Byte) :
    (s.putSensorMap boot b).Ok qs := by
  unfold State.putSensorMap
  try dsimp only
  repeat' first
    | with_reducible exact ok
    | with_reducible assumption
    | with_reducible exact rfl
    | with_reducible apply State.violate_ok
    | with_reducible apply State.putImage_ok
    | with_reducible apply State.put_ok
    | with_reducible apply State.anchorCells_ok
    | with_reducible apply State.setBody_ok
    | with_reducible apply State.staleEntries_ok
    | with_reducible apply State.sprinRemap_ok
    | with_reducible apply State.boundsChanged_ok
    | with_reducible refine State.each_ok ?_ _ (fun _ _ _ => ?_)
    | with_reducible apply State.ok_ite
    | split
    | with_reducible refine State.ok_mk ?_ ?_ ?_ ?_ ?_
    | exact rfl
    | (simp only [State.ev_valve, State.ev_fab, State.submit_valve]; done)

theorem State.putSlot_ok {qs : List Instr} {s : State} (ok : s.Ok qs) (n : Nat) (b : List Byte) :
    (s.putSlot n b).Ok qs := by
  unfold State.putSlot
  try dsimp only
  repeat' first
    | with_reducible exact ok
    | with_reducible assumption
    | with_reducible apply State.violate_ok
    | with_reducible apply State.writeCore_ok
    | with_reducible refine State.each_ok ?_ _ (fun _ _ _ => ?_)
    | split

theorem State.openForSwap_ok {qs : List Instr} {s : State} (ok : s.Ok qs) (n : Nat) :
    (s.openForSwap n).Ok qs := by
  unfold State.openForSwap
  try dsimp only
  repeat' first
    | with_reducible exact ok
    | with_reducible assumption
    | with_reducible exact rfl
    | with_reducible apply State.setSlot_ok
    | with_reducible apply State.modeRequest_ok
    | with_reducible apply State.ok_ite
    | split
    | with_reducible refine State.ok_mk ?_ ?_ ?_ ?_ ?_
    | exact rfl
    | (simp only [State.ev_valve, State.ev_fab, State.submit_valve]; done)

theorem State.swapSlot_ok {qs : List Instr} {s : State} (ok : s.Ok qs) (n : Nat) (b : List Byte) :
    (s.swapSlot n b).Ok qs := by
  unfold State.swapSlot
  try dsimp only
  repeat' first
    | with_reducible exact ok
    | with_reducible assumption
    | with_reducible exact rfl
    | with_reducible apply State.putSlot_ok
    | with_reducible apply State.idleTarget_ok
    | with_reducible apply State.setSlot_ok
    | with_reducible apply State.noRequest_ok
    | with_reducible apply State.enterMode_ok
    | with_reducible refine State.each_ok ?_ _ (fun _ _ _ => ?_)
    | with_reducible apply State.ok_ite
    | split
    | with_reducible refine State.ok_mk ?_ ?_ ?_ ?_ ?_
    | exact rfl
    | (simp only [State.ev_valve, State.ev_fab, State.submit_valve]; done)

theorem State.dropSlot_ok {qs : List Instr} {s : State} (ok : s.Ok qs) (n : Nat) :
    (s.dropSlot n).Ok qs := by
  unfold State.dropSlot
  try dsimp only
  repeat' first
    | with_reducible exact ok
    | with_reducible assumption
    | with_reducible apply State.govRemove_ok
    | with_reducible apply State.putB_ok

theorem State.putDisplay_ok {qs : List Instr} {s : State} (ok : s.Ok qs) (b : List Byte) :
    (s.putDisplay b).Ok qs := by
  unfold State.putDisplay
  try dsimp only
  repeat' first
    | with_reducible exact ok
    | with_reducible assumption
    | with_reducible exact rfl
    | with_reducible apply State.violate_ok
    | with_reducible apply State.putImage_ok
    | with_reducible apply State.must_ok
    | with_reducible refine State.foldl_ok (fun _ _ _ => ?_) _ ?_
    | with_reducible refine State.foldl_fst_ok (fun _ _ _ => ?_) _ ?_
    | with_reducible apply State.ok_ite
    | split
    | with_reducible refine State.ok_mk ?_ ?_ ?_ ?_ ?_
    | exact rfl
    | (simp only [State.ev_valve, State.ev_fab, State.submit_valve]; done)

theorem State.dropDisplay_ok {qs : List Instr} {s : State} (ok : s.Ok qs) :
    (s.dropDisplay).Ok qs := by
  unfold State.dropDisplay
  try dsimp only
  repeat' first
    | with_reducible exact ok
    | with_reducible assumption
    | with_reducible exact rfl
    | with_reducible apply State.putB_ok
    | with_reducible refine State.ok_mk ?_ ?_ ?_ ?_ ?_
    | exact rfl
    | (simp only [State.ev_valve, State.ev_fab, State.submit_valve]; done)

theorem State.putNet_ok {qs : List Instr} {s : State} (ok : s.Ok qs) (x : Config.NetSection) :
    (s.putNet x).Ok qs := by
  unfold State.putNet
  try dsimp only
  repeat' first
    | with_reducible exact ok
    | with_reducible assumption
    | with_reducible exact rfl
    | with_reducible apply State.putImage_ok
    | with_reducible apply State.must_ok
    | with_reducible refine State.ok_mk ?_ ?_ ?_ ?_ ?_
    | exact rfl
    | (simp only [State.ev_valve, State.ev_fab, State.submit_valve]; done)

theorem State.putSection_ok {qs : List Instr} {s : State} (ok : s.Ok qs) (boot : Bool) (x : Section) (b : List Byte) :
    (s.putSection boot x b).Ok qs := by
  unfold State.putSection
  try dsimp only
  repeat' first
    | with_reducible exact ok
    | with_reducible assumption
    | with_reducible apply State.violate_ok
    | with_reducible apply State.putControl_ok
    | with_reducible apply State.putMicrocode_ok
    | with_reducible apply State.putCrops_ok
    | with_reducible apply State.putGeometry_ok
    | with_reducible apply State.putSensorMap_ok
    | with_reducible apply State.putSlot_ok
    | with_reducible apply State.putDisplay_ok
    | with_reducible apply State.putNet_ok
    | with_reducible apply State.ok_ite
    | split

end Sys2Proof.Machine
end

