-- ==== Sys2Proof/Laws/GoodCaddy.lean ====
section
/-! SUPPORT. What CaddyOps defines keeps the queue of waiting commands, the canonical form of the register table and
the capacities of the queues (`State.Ok`). -/

namespace Sys2Proof.Machine

set_option linter.unusedTactic false
set_option linter.unreachableTactic false

open Reg

theorem State.ctlDataClear_ok {qs : List Instr} {s : State} (ok : s.Ok qs) : s.ctlDataClear.Ok qs :=
  ⟨ok.queue, ⟨twf_tkeep _ _ ok.good.regs, ok.good.fifo, ok.good.ctl, ok.good.dat, fun _ => Nat.zero_le _⟩⟩

theorem State.reissue_ok {qs : List Instr} {s : State} (ok : s.Ok qs) {writeNow : State → Nat → Nat → Word → State}
    (hw : ∀ (t : State) (r a : Nat) (v : Word), t.Ok qs → (writeNow t r a v).Ok qs) (r : LeatReq) :
    (s.reissue writeNow r).Ok qs := by
  unfold State.reissue
  split
  · exact State.enqueue_ok ok _
  · split
    · exact hw _ _ _ _ ok
    · exact State.txnGot_ok (State.readAt_ok ok _ _) _ _ _

theorem State.releaseHeld_ok {qs : List Instr} {s : State} (ok : s.Ok qs) {writeNow : State → Nat → Nat → Word → State}
    (hw : ∀ (t : State) (r a : Nat) (v : Word), t.Ok qs → (writeNow t r a v).Ok qs) :
    (s.releaseHeld writeNow).Ok qs :=
  State.foldl_ok (fun _ _ k => State.reissue_ok k hw _) _ (State.ok_with ok rfl rfl rfl rfl rfl rfl)

theorem State.enterBare_ok {qs : List Instr} {s : State} (ok : s.Ok qs) (reason : Nat) :
    (s.enterBare reason).Ok qs := by
  unfold State.enterBare
  try dsimp only
  repeat' first
    | with_reducible exact ok
    | with_reducible assumption
    | with_reducible exact rfl
    | with_reducible apply State.ctlDataClear_ok
    | with_reducible apply State.putB_ok
    | with_reducible apply State.put_ok
    | with_reducible apply State.ev_ok
    | with_reducible apply State.netStart_ok
    | with_reducible refine State.ok_mk ?_ ?_ ?_ ?_ ?_
    | exact rfl
    | (simp only [State.ev_valve, State.ev_fab, State.submit_valve]; done)

theorem State.firstPass_ok {qs : List Instr} {s : State} (ok : s.Ok qs) (n : Nat) (fallback : Bool) :
    (s.firstPass n fallback).Ok qs := by
  unfold State.firstPass
  try dsimp only
  repeat' first
    | with_reducible exact ok
    | with_reducible assumption
    | with_reducible exact rfl
    | with_reducible refine State.ok_mk ?_ ?_ ?_ ?_ ?_
    | exact rfl
    | (simp only [State.ev_valve, State.ev_fab, State.submit_valve]; done)

theorem State.chooseSlot_ok {qs : List Instr} {s : State} (ok : s.Ok qs) :
    (s.chooseSlot).Ok qs := by
  unfold State.chooseSlot
  try dsimp only
  repeat' first
    | with_reducible exact ok
    | with_reducible assumption
    | with_reducible apply State.enterBare_ok
    | with_reducible apply State.ev_ok
    | with_reducible apply State.firstPass_ok
    | with_reducible apply State.ok_ite
    | split

theorem State.loaderHeads_ok {qs : List Instr} {s : State} (ok : s.Ok qs) :
    (s.loaderHeads).Ok qs := by
  unfold State.loaderHeads
  try dsimp only
  repeat' first
    | with_reducible exact ok
    | with_reducible assumption
    | with_reducible apply State.ev_ok
    | with_reducible apply State.headCheck_ok
    | with_reducible apply State.ok_ite
    | split

theorem State.loaderStart_ok {qs : List Instr} {s : State} (ok : s.Ok qs) :
    (s.loaderStart).Ok qs := by
  unfold State.loaderStart
  try dsimp only
  repeat' first
    | with_reducible exact ok
    | with_reducible assumption
    | with_reducible apply State.loaderHeads_ok
    | with_reducible apply State.enterBare_ok
    | with_reducible apply State.chooseSlot_ok
    | with_reducible apply State.ok_ite
    | split

theorem State.loadFail_ok {qs : List Instr} {s : State} (ok : s.Ok qs) (reason : Nat) :
    (s.loadFail reason).Ok qs := by
  unfold State.loadFail
  try dsimp only
  repeat' first
    | with_reducible exact ok
    | with_reducible assumption
    | with_reducible apply State.slotShow_ok
    | with_reducible apply State.ctlDataClear_ok
    | with_reducible apply State.ev_ok
    | with_reducible apply State.firstPass_ok
    | with_reducible apply State.enterBare_ok
    | with_reducible apply State.ok_ite
    | split

theorem State.firstPassDone_ok {qs : List Instr} {s : State} (ok : s.Ok qs) (readErr : Bool) :
    (s.firstPassDone readErr).Ok qs := by
  unfold State.firstPassDone
  try dsimp only
  repeat' first
    | with_reducible exact ok
    | with_reducible assumption
    | with_reducible exact rfl
    | with_reducible apply State.loadFail_ok
    | with_reducible apply State.ok_ite
    | split
    | with_reducible refine State.ok_mk ?_ ?_ ?_ ?_ ?_
    | exact rfl
    | (simp only [State.ev_valve, State.ev_fab, State.submit_valve]; done)

theorem State.bareLeft_ok {qs : List Instr} {s : State} (ok : s.Ok qs) :
    (s.bareLeft).Ok qs := by
  unfold State.bareLeft
  try dsimp only
  repeat' first
    | with_reducible exact ok
    | with_reducible assumption
    | with_reducible exact rfl
    | with_reducible apply State.ip4Off_ok
    | with_reducible apply State.put_ok
    | with_reducible refine State.ok_mk ?_ ?_ ?_ ?_ ?_
    | exact rfl
    | (simp only [State.ev_valve, State.ev_fab, State.submit_valve]; done)

theorem loadSections_ok {qs : List Instr} (n : Nat) : ∀ (l : List Section) {s : State}, s.Ok qs →
    (loadSections n l s).1.Ok qs
  | [], _, h => h
  | x :: t, s, h => by
    unfold loadSections
    have hu := State.putSection_ok h true x (s.sectionBody n x)
    split
    · exact h
    · dsimp only
      split
      · exact loadSections_ok n t hu
      · exact hu

theorem State.loadDone_ok {qs : List Instr} {s : State} (ok : s.Ok qs) (ms : Nat)
    {writeNow : State → Nat → Nat → Word → State}
    (hw : ∀ (t : State) (r a : Nat) (v : Word), t.Ok qs → (writeNow t r a v).Ok qs) :
    (s.loadDone ms writeNow).Ok qs := by
  unfold State.loadDone
  extract_lets n fa ca ne a b c d d' e f net ip6
  have ha : a.Ok qs := State.ok_mk ok rfl rfl rfl rfl
  have hb : b.Ok qs := State.putB_ok (State.putB_ok (State.put_ok (State.putB_ok (State.putB_ok ha _ _) _ _) _ _) _ _) _ _
  have hc : c.Ok qs := State.putB_ok (State.putB_ok (State.putB_ok (State.putB_ok (State.putB_ok
    (State.put_ok hb _ _) _ _) _ _) _ _) _ _) _ _
  have hd : d.Ok qs := State.ev_ok (State.put_ok (State.putB_ok hc _ _) _ _) _ _ _ _ _ _
  have hd' : d'.Ok qs := State.ok_ite (State.aoStart_ok hd) hd
  have he : e.Ok qs := State.each_ok (State.snapRestore_ok (State.millShow_ok
    (State.ok_ite (State.govBoot_ok hd') hd'))) _ (fun _ _ k => State.bodyStart_ok k _ _)
  have hf : f.Ok qs := State.ptpSet_ok (State.ptpSet_ok (State.timeMark_ok (State.displayAssets_ok
    (State.ok_ite (State.bareLeft_ok he) he))) _) _
  exact State.releaseHeld_ok (State.netStart_ok hf _) hw

theorem State.secondPassDone_ok {qs : List Instr} {s : State} (ok : s.Ok qs) (altered readErr : Bool) (ms : Nat)
    {writeNow : State → Nat → Nat → Word → State}
    (hw : ∀ (t : State) (r a : Nat) (v : Word), t.Ok qs → (writeNow t r a v).Ok qs) :
    (s.secondPassDone altered readErr ms writeNow).Ok qs := by
  unfold State.secondPassDone
  have hl := loadSections_ok s.caddy.slot (sortBy loadKey (s.imgSections s.caddy.slot)) ok
  dsimp only
  repeat' first
    | with_reducible exact ok
    | with_reducible exact hl
    | with_reducible apply State.loadFail_ok
    | with_reducible apply State.violate_ok
    | with_reducible refine State.loadDone_ok ?_ _ hw
    | with_reducible apply State.ok_ite

theorem State.startReports_ok {qs : List Instr} {s : State} (ok : s.Ok qs) :
    (s.startReports).Ok qs := by
  unfold State.startReports
  try dsimp only
  repeat' first
    | with_reducible exact ok
    | with_reducible assumption
    | with_reducible exact rfl
    | with_reducible apply State.aev_ok
    | with_reducible apply State.ev_ok
    | with_reducible refine State.each_ok ?_ _ (fun _ _ _ => ?_)
    | with_reducible apply State.ok_ite
    | split
    | with_reducible refine State.ok_mk ?_ ?_ ?_ ?_ ?_
    | exact rfl
    | (simp only [State.ev_valve, State.ev_fab, State.submit_valve]; done)

theorem State.planeRelease_ok {qs : List Instr} {s : State} (ok : s.Ok qs) (octal : Bool) (badA badB : Nat) (repaired : List Nat) :
    (s.planeRelease octal badA badB repaired).Ok qs := by
  unfold State.planeRelease
  try dsimp only
  repeat' first
    | with_reducible exact ok
    | with_reducible assumption
    | with_reducible exact rfl
    | with_reducible apply State.send_ok
    | with_reducible apply State.setReg_ok
    | with_reducible apply State.zoneSummary_ok
    | with_reducible apply State.recorderStart_ok
    | with_reducible apply State.stripStart_ok
    | with_reducible apply State.hardRepair_ok
    | with_reducible apply State.startReports_ok
    | with_reducible apply State.flashFacts_ok
    | with_reducible apply State.loaderStart_ok
    | with_reducible apply State.ok_ite
    | split
    | with_reducible refine State.ok_mk ?_ ?_ ?_ ?_ ?_
    | exact rfl
    | (simp only [State.ev_valve, State.ev_fab, State.submit_valve]; done)

theorem State.pauseBody_ok {qs : List Instr} {s : State} (ok : s.Ok qs) (k : Nat) :
    (s.pauseBody k).Ok qs := by
  unfold State.pauseBody
  try dsimp only
  repeat' first
    | with_reducible exact ok
    | with_reducible assumption
    | with_reducible exact rfl
    | with_reducible apply State.bodyPaused_ok
    | with_reducible apply State.setBody_ok
    | with_reducible apply State.ok_ite
    | split
    | with_reducible refine State.ok_mk ?_ ?_ ?_ ?_ ?_
    | exact rfl
    | (simp only [State.ev_valve, State.ev_fab, State.submit_valve]; done)

theorem State.applySection_ok {qs : List Instr} {s : State} (ok : s.Ok qs) (old n : Nat) (p : Nat × Nat) :
    (s.applySection old n p).Ok qs := by
  unfold State.applySection
  try dsimp only
  repeat' first
    | with_reducible exact ok
    | with_reducible assumption
    | with_reducible apply State.swapSlot_ok
    | with_reducible apply State.violate_ok
    | with_reducible apply State.putSection_ok
    | with_reducible apply State.govAdd_ok
    | with_reducible apply State.displayAssets_ok
    | with_reducible apply State.bodyStart_ok
    | with_reducible apply State.dropMicrocode_ok
    | with_reducible apply State.dropCrops_ok
    | with_reducible apply State.dropGeometry_ok
    | with_reducible apply State.dropSlot_ok
    | with_reducible apply State.dropDisplay_ok
    | with_reducible apply State.ok_ite
    | split

theorem State.setSwap_ok {qs : List Instr} {s : State} (ok : s.Ok qs) (w : Swap) :
    (s.setSwap w).Ok qs := by
  unfold State.setSwap
  try dsimp only
  repeat' first
    | with_reducible exact ok
    | with_reducible assumption
    | with_reducible exact rfl
    | with_reducible apply State.put_ok
    | with_reducible apply State.ok_ite
    | split
    | with_reducible refine State.ok_mk ?_ ?_ ?_ ?_ ?_
    | exact rfl
    | (simp only [State.ev_valve, State.ev_fab, State.submit_valve]; done)

theorem State.drainFor_ok {qs : List Instr} {s : State} (ok : s.Ok qs) (ty : Nat) :
    (s.drainFor ty).Ok qs := by
  unfold State.drainFor
  try dsimp only
  repeat' first
    | with_reducible exact ok
    | with_reducible assumption
    | with_reducible apply State.drain_ok
    | split

theorem State.heldAgain_ok {qs : List Instr} {s : State} (ok : s.Ok qs) (k : Nat) (fresh : Bool) :
    (s.heldAgain k fresh).Ok qs := by
  unfold State.heldAgain
  try dsimp only
  repeat' first
    | with_reducible exact ok
    | with_reducible assumption
    | with_reducible apply State.stage_ok
    | with_reducible apply State.setBst_ok
    | with_reducible apply State.ok_ite
    | split

theorem State.bodyGoOn_ok {qs : List Instr} {s : State} (ok : s.Ok qs) (k : Nat) (fresh : Option Grid) :
    (s.bodyGoOn k fresh).Ok qs := by
  unfold State.bodyGoOn
  try dsimp only
  repeat' first
    | with_reducible exact ok
    | with_reducible assumption
    | with_reducible exact rfl
    | with_reducible apply State.resumeFrom_ok
    | with_reducible apply State.anchorCells_ok
    | with_reducible apply State.heldAgain_ok
    | with_reducible apply State.bodyNext_ok
    | with_reducible apply State.resumeStaged_ok
    | with_reducible apply State.stepThrough_ok
    | with_reducible apply State.ok_ite
    | split
    | with_reducible refine State.ok_mk ?_ ?_ ?_ ?_ ?_
    | exact rfl
    | (simp only [State.ev_valve, State.ev_fab, State.submit_valve]; done)

theorem State.swapEnd_ok {qs : List Instr} {s : State} (ok : s.Ok qs) (st : Nat) :
    (s.swapEnd st).Ok qs := by
  unfold State.swapEnd
  try dsimp only
  repeat' first
    | with_reducible exact ok
    | with_reducible assumption
    | with_reducible exact rfl
    | with_reducible apply State.put_ok
    | with_reducible apply State.putB_ok
    | with_reducible apply State.busyShow_ok
    | with_reducible refine State.ok_mk ?_ ?_ ?_ ?_ ?_
    | exact rfl
    | (simp only [State.ev_valve, State.ev_fab, State.submit_valve]; done)

theorem State.swapDone_ok {qs : List Instr} {s : State} (ok : s.Ok qs) (w : Swap) :
    (s.swapDone w).Ok qs := by
  unfold State.swapDone
  try dsimp only
  repeat' first
    | with_reducible exact ok
    | with_reducible assumption
    | with_reducible exact rfl
    | with_reducible apply State.put_ok
    | with_reducible apply State.putB_ok
    | with_reducible apply State.ev_ok
    | with_reducible apply State.swapEnd_ok
    | with_reducible refine State.ok_mk ?_ ?_ ?_ ?_ ?_
    | exact rfl
    | (simp only [State.ev_valve, State.ev_fab, State.submit_valve]; done)

theorem State.swapAborted_ok {qs : List Instr} {s : State} (ok : s.Ok qs) (w : Swap) (bad : Nat × Nat) :
    (s.swapAborted w bad).Ok qs := by
  unfold State.swapAborted
  try dsimp only
  repeat' first
    | with_reducible exact ok
    | with_reducible assumption
    | with_reducible apply State.flashProg_ok
    | with_reducible apply State.setReg_ok
    | with_reducible apply State.ev_ok
    | with_reducible apply State.put_ok
    | with_reducible apply State.swapEnd_ok
    | with_reducible refine State.each_ok ?_ _ (fun _ _ _ => ?_)

theorem swapApply_ok {qs : List Instr} (w : Swap) : ∀ (l done : List (Nat × Nat)) {s : State}, s.Ok qs →
    (swapApply w l done s).state.Ok qs
  | [], _, _, h => h
  | p :: t, done, s, h => by
    unfold swapApply
    have hv : (s.drainFor p.1).Ok qs := State.drainFor_ok h _
    dsimp only
    repeat' first
      | with_reducible exact h
      | with_reducible exact hv
      | with_reducible apply swapApply_ok w t
      | with_reducible apply State.openForSwap_ok
      | with_reducible apply State.applySection_ok
      | split

theorem State.swapRest_ok {qs : List Instr} {s : State} (ok : s.Ok qs) (w : Swap) : (s.swapRest w).1.Ok qs := by
  unfold State.swapRest
  have hr := swapApply_ok w (w.changed.filter (fun p => !firstGroup p.1 && !w.applied.contains p)) w.applied ok
  extract_lets r x
  have hx : x.Ok qs := State.setSwap_ok hr _
  repeat' first
    | with_reducible exact hr
    | with_reducible exact hx
    | with_reducible apply State.fwRestart_ok
    | with_reducible apply State.swapAborted_ok
    | with_reducible apply State.violate_ok
    | with_reducible apply State.swapDone_ok
    | with_reducible apply State.put_ok
    | split

theorem State.swapNext1_ok {qs : List Instr} {s : State} (ok : s.Ok qs) : (s.swapNext1).1.Ok qs := by
  unfold State.swapNext1
  split
  · exact ok
  · rename_i w _
    split
    · exact ok
    · split
      · extract_lets t
        exact State.pauseBody_ok (State.ok_mk (s := s) ok rfl rfl rfl rfl) _
      · exact State.swapRest_ok ok _

theorem State.swapWrite1_ok {qs : List Instr} {s : State} (ok : s.Ok qs) : (s.swapWrite1).1.Ok qs := by
  unfold State.swapWrite1
  split
  · exact ok
  · rename_i w _
    have hr := swapApply_ok w (s.groupOrder w.slot (w.changed.filter (fun p => firstGroup p.1))) w.applied ok
    split
    · exact ok
    · extract_lets l r x
      have hx : x.Ok qs := State.millShow_ok (State.setSwap_ok hr _)
      repeat' first
        | with_reducible exact hr
        | with_reducible exact hx
        | with_reducible apply State.violate_ok
        | split

theorem State.swapAbort_ok {qs : List Instr} {s : State} (ok : s.Ok qs) (p : Nat × Nat) :
    (s.swapAbort p).Ok qs := by
  unfold State.swapAbort
  try dsimp only
  repeat' first
    | with_reducible exact ok
    | with_reducible assumption
    | with_reducible exact rfl
    | with_reducible apply State.pauseBody_ok
    | with_reducible refine State.each_ok ?_ _ (fun _ _ _ => ?_)
    | with_reducible apply State.ok_ite
    | split
    | with_reducible refine State.ok_mk ?_ ?_ ?_ ?_ ?_
    | exact rfl
    | (simp only [State.ev_valve, State.ev_fab, State.submit_valve]; done)

theorem State.swapStep_ok {qs : List Instr} {s : State} (ok : s.Ok qs) :
    (if s.swapWrite1.2.isSome then s.swapWrite1 else s.swapWrite1.1.swapNext1).1.Ok qs := by
  split
  · exact State.swapWrite1_ok ok
  · exact State.swapNext1_ok (State.swapWrite1_ok ok)

theorem State.swapGo_ok {qs : List Instr} {s : State} (ok : s.Ok qs) : (s.swapGo).Ok qs := by
  unfold State.swapGo
  extract_lets step r
  have hr : r.1.Ok qs := State.swapStep_ok ok
  split
  · exact State.swapStep_ok (State.swapAbort_ok hr _)
  · exact hr

theorem State.swapResume_ok {qs : List Instr} {s : State} (ok : s.Ok qs) (k : Nat) :
    (s.swapResume k).Ok qs := by
  unfold State.swapResume
  try dsimp only
  repeat' first
    | with_reducible exact ok
    | with_reducible assumption
    | with_reducible apply State.swapGo_ok
    | with_reducible apply State.bodyGoOn_ok
    | with_reducible apply State.ok_ite
    | split

theorem State.swapStart_ok {qs : List Instr} {s : State} (ok : s.Ok qs) (n : Nat) :
    (s.swapStart n).Ok qs := by
  unfold State.swapStart
  try dsimp only
  repeat' first
    | with_reducible exact ok
    | with_reducible assumption
    | with_reducible exact rfl
    | with_reducible apply State.put_ok
    | with_reducible apply State.busyShow_ok
    | with_reducible apply State.ev_ok
    | with_reducible apply State.pauseBody_ok
    | with_reducible apply State.swapGo_ok
    | with_reducible refine State.each_ok ?_ _ (fun _ _ _ => ?_)
    | with_reducible apply State.ok_ite
    | split
    | with_reducible refine State.ok_mk ?_ ?_ ?_ ?_ ?_
    | exact rfl
    | (simp only [State.ev_valve, State.ev_fab, State.submit_valve]; done)

theorem State.swapRefuse_ok {qs : List Instr} {s : State} (ok : s.Ok qs) (reason : Nat) :
    (s.swapRefuse reason).Ok qs := by
  unfold State.swapRefuse
  try dsimp only
  repeat' first
    | with_reducible exact ok
    | with_reducible assumption
    | with_reducible apply State.put_ok
    | with_reducible apply State.putB_ok

theorem State.swapCmd_ok {qs : List Instr} {s : State} (ok : s.Ok qs) :
    (s.swapCmd).Ok qs := by
  unfold State.swapCmd
  try dsimp only
  repeat' first
    | with_reducible exact ok
    | with_reducible assumption
    | with_reducible exact rfl
    | with_reducible apply State.loaderHeads_ok
    | with_reducible apply State.chooseSlot_ok
    | with_reducible apply State.swapStart_ok
    | with_reducible apply State.put_ok
    | with_reducible apply State.slotCheck_ok
    | with_reducible apply State.swapRefuse_ok
    | with_reducible apply State.ok_ite
    | split
    | with_reducible refine State.ok_mk ?_ ?_ ?_ ?_ ?_
    | exact rfl
    | (simp only [State.ev_valve, State.ev_fab, State.submit_valve]; done)

theorem State.writeNow_ok {qs : List Instr} {s : State} (ok : s.Ok qs) (req a : Nat) (v : Word) :
    (s.writeNow req a v).Ok qs := by
  unfold State.writeNow
  try dsimp only
  repeat' first
    | with_reducible exact ok
    | with_reducible assumption
    | with_reducible apply State.writeCore_ok
    | with_reducible apply State.swapCmd_ok
    | with_reducible apply State.ok_ite
    | split

theorem State.writeAt_ok {qs : List Instr} {s : State} (ok : s.Ok qs) (req a : Nat) (v : Word) :
    (s.writeAt req a v).Ok qs := by
  unfold State.writeAt
  try dsimp only
  repeat' first
    | with_reducible exact ok
    | with_reducible assumption
    | with_reducible exact rfl
    | with_reducible apply State.enqueue_ok
    | with_reducible apply State.writeNow_ok
    | with_reducible apply State.ok_ite
    | split
    | with_reducible refine State.ok_mk ?_ ?_ ?_ ?_ ?_
    | exact rfl
    | (simp only [State.ev_valve, State.ev_fab, State.submit_valve]; done)

theorem State.issueWrite_ok {qs : List Instr} {s : State} (ok : s.Ok qs) (req a : Nat) (v : Word) :
    (s.issueWrite req a v).Ok qs := by
  unfold State.issueWrite
  try dsimp only
  repeat' first
    | with_reducible exact ok
    | with_reducible assumption
    | with_reducible apply State.enqueue_ok
    | with_reducible apply State.writeAt_ok
    | with_reducible apply State.ok_ite
    | split

end Sys2Proof.Machine
end

