-- ==== Sys2Proof/Laws/GoodHost.lean ====
section
/-! SUPPORT. What HostOps defines keeps the queue of waiting commands, the canonical form of the register table and
the capacities of the queues (`State.Ok`). -/

namespace Sys2Proof.Machine

set_option linter.unusedTactic false
set_option linter.unreachableTactic false

open Reg

theorem State.mbSend_ok {qs : List Instr} {s : State} (ok : s.Ok qs) (conn : Nat) (hdr pdu : List Byte) :
    (s.mbSend conn hdr pdu).Ok qs := by
  unfold State.mbSend
  try dsimp only
  repeat' first
    | with_reducible exact ok
    | with_reducible assumption
    | with_reducible apply State.send_ok
    | with_reducible apply State.ok_ite
    | split

theorem State.mbReads_ok {qs : List Instr} {s : State} (ok : s.Ok qs) (conn : Nat) (hdr : List Byte) (fc : Nat) (l : List MbReg) :
    (s.mbReads conn hdr fc l).Ok qs := by
  unfold State.mbReads
  try dsimp only
  repeat' first
    | with_reducible exact ok
    | with_reducible assumption
    | with_reducible exact rfl
    | with_reducible apply State.txnStart_ok
    | with_reducible refine State.ok_mk ?_ ?_ ?_ ?_ ?_
    | exact rfl
    | (simp only [State.ev_valve, State.ev_fab, State.submit_valve]; done)

theorem State.mbIssue_ok {qs : List Instr} {s : State} (ok : s.Ok qs) (l : List (Nat × Word)) :
    (s.mbIssue l).Ok qs := by
  unfold State.mbIssue
  try dsimp only
  repeat' first
    | with_reducible exact ok
    | with_reducible assumption
    | with_reducible apply State.issueWrite_ok
    | with_reducible refine State.each_ok ?_ _ (fun _ _ _ => ?_)

theorem State.mbServe_ok {qs : List Instr} {s : State} (ok : s.Ok qs) (conn : Nat) (adu : List Byte) :
    (s.mbServe conn adu).Ok qs := by
  unfold State.mbServe
  try dsimp only
  repeat' first
    | with_reducible exact ok
    | with_reducible assumption
    | with_reducible apply State.inc_ok
    | with_reducible apply State.mbSend_ok
    | with_reducible apply State.mbReads_ok
    | with_reducible apply State.mbIssue_ok
    | with_reducible apply State.ok_ite
    | split

theorem State.txnDrop_ok {qs : List Instr} {s : State} (ok : s.Ok qs) (t : Txn) :
    (s.txnDrop t).Ok qs := by
  unfold State.txnDrop
  try dsimp only
  repeat' first
    | with_reducible exact ok
    | with_reducible assumption
    | with_reducible exact rfl
    | with_reducible refine State.ok_mk ?_ ?_ ?_ ?_ ?_
    | exact rfl
    | (simp only [State.ev_valve, State.ev_fab, State.submit_valve]; done)

theorem State.mbFinish_ok {qs : List Instr} {s : State} (ok : s.Ok qs) (t : Txn) :
    (s.mbFinish t).Ok qs := by
  unfold State.mbFinish
  try dsimp only
  repeat' first
    | with_reducible exact ok
    | with_reducible assumption
    | with_reducible exact rfl
    | with_reducible apply State.txnDrop_ok
    | with_reducible apply State.mbSend_ok
    | with_reducible apply State.ok_ite
    | split
    | with_reducible refine State.ok_mk ?_ ?_ ?_ ?_ ?_
    | exact rfl
    | (simp only [State.ev_valve, State.ev_fab, State.submit_valve]; done)

theorem State.mbPump_ok {qs : List Instr} : ∀ (n : Nat) {s : State}, s.Ok qs → (State.mbPump n s).Ok qs
  | 0, _, h => h
  | n + 1, s, h => by
    unfold State.mbPump
    repeat' first
      | with_reducible exact h
      | with_reducible exact rfl
      | with_reducible apply State.mbPump_ok n
      | with_reducible apply State.mbFinish_ok
      | with_reducible apply State.mbServe_ok
      | split
      | with_reducible refine State.ok_mk ?_ ?_ ?_ ?_ ?_

theorem State.txnEnd_ok {qs : List Instr} {s : State} (ok : s.Ok qs) (t : Txn) :
    (s.txnEnd t).Ok qs := by
  unfold State.txnEnd
  try dsimp only
  repeat' first
    | with_reducible exact ok
    | with_reducible assumption
    | with_reducible exact rfl
    | with_reducible apply State.txnDrop_ok
    | with_reducible apply State.kmpReply_ok
    | with_reducible apply State.send_ok
    | with_reducible refine State.each_ok ?_ _ (fun _ _ _ => ?_)
    | split
    | with_reducible refine State.ok_mk ?_ ?_ ?_ ?_ ?_
    | exact rfl
    | (simp only [State.ev_valve, State.ev_fab, State.submit_valve]; done)

theorem State.readsSettle_ok {qs : List Instr} {s : State} (ok : s.Ok qs) :
    (s.readsSettle).Ok qs := by
  unfold State.readsSettle
  try dsimp only
  repeat' first
    | with_reducible exact ok
    | with_reducible assumption
    | with_reducible apply State.txnEnd_ok
    | with_reducible apply State.mbPump_ok
    | with_reducible refine State.each_ok ?_ _ (fun _ _ _ => ?_)
    | with_reducible apply State.ok_ite
    | split

theorem State.readReply_ok {qs : List Instr} {s : State} (ok : s.Ok qs) :
    (s.readReply).Ok qs := by
  unfold State.readReply
  try dsimp only
  repeat' first
    | with_reducible exact ok
    | with_reducible assumption
    | with_reducible exact rfl
    | with_reducible apply State.readsSettle_ok
    | with_reducible apply State.txnGot_ok
    | split
    | with_reducible refine State.ok_mk ?_ ?_ ?_ ?_ ?_
    | exact rfl
    | (simp only [State.ev_valve, State.ev_fab, State.submit_valve]; done)

theorem State.mbConnect_ok {qs : List Instr} {s : State} (ok : s.Ok qs) (conn src : Nat) :
    (s.mbConnect conn src).Ok qs := by
  unfold State.mbConnect
  try dsimp only
  repeat' first
    | with_reducible exact ok
    | with_reducible assumption
    | with_reducible exact rfl
    | with_reducible apply State.setConns_ok
    | with_reducible apply State.send_ok
    | with_reducible apply State.nev_ok
    | with_reducible apply State.ok_ite
    | split
    | with_reducible refine State.ok_mk ?_ ?_ ?_ ?_ ?_
    | exact rfl
    | (simp only [State.ev_valve, State.ev_fab, State.submit_valve]; done)

theorem State.mbIdle_ok {qs : List Instr} {s : State} (ok : s.Ok qs) (conn : Nat) :
    (s.mbIdle conn).Ok qs := by
  unfold State.mbIdle
  try dsimp only
  repeat' first
    | with_reducible exact ok
    | with_reducible assumption
    | with_reducible apply State.setConns_ok
    | with_reducible apply State.send_ok
    | with_reducible apply State.ok_ite
    | split

theorem State.mbRequest_ok {qs : List Instr} {s : State} (ok : s.Ok qs) (own conn : Nat) (adu : List Byte) :
    (s.mbRequest own conn adu).Ok qs := by
  unfold State.mbRequest
  try dsimp only
  repeat' first
    | with_reducible exact ok
    | with_reducible assumption
    | with_reducible exact rfl
    | with_reducible apply State.readsSettle_ok
    | with_reducible apply State.ok_ite
    | split
    | with_reducible refine State.ok_mk ?_ ?_ ?_ ?_ ?_
    | exact rfl
    | (simp only [State.ev_valve, State.ev_fab, State.submit_valve]; done)

theorem State.hspiDeliver_ok {qs : List Instr} {s : State} (ok : s.Ok qs) :
    (s.hspiDeliver).Ok qs := by
  unfold State.hspiDeliver
  try dsimp only
  repeat' first
    | with_reducible exact ok
    | with_reducible assumption
    | with_reducible exact rfl
    | with_reducible apply State.send_ok
    | with_reducible apply State.ok_ite
    | split
    | with_reducible refine State.ok_mk ?_ ?_ ?_ ?_ ?_
    | exact rfl
    | (simp only [State.ev_valve, State.ev_fab, State.submit_valve]; done)

theorem State.hspiFrame_ok {qs : List Instr} {s : State} (ok : s.Ok qs) (own : Nat) (cmd : Word) (clocks : Nat)
    {run : State → State} (hr : ∀ t : State, t.Ok qs → (run t).Ok qs) : (s.hspiFrame own cmd clocks run).Ok qs := by
  unfold State.hspiFrame
  have ht := State.hspiDeliver_ok ok
  dsimp only
  repeat' first
    | with_reducible exact ok
    | with_reducible exact ht
    | with_reducible apply State.send_ok
    | with_reducible apply State.inc_ok
    | with_reducible apply hr
    | with_reducible apply State.ok_ite
    | split

theorem State.hspiRead_ok {qs : List Instr} {s : State} (ok : s.Ok qs) (cmd : Word) :
    (s.hspiRead cmd).Ok qs := by
  unfold State.hspiRead
  try dsimp only
  repeat' first
    | with_reducible exact ok
    | with_reducible assumption
    | with_reducible exact rfl
    | with_reducible apply State.inc_ok
    | with_reducible apply State.txnStart_ok
    | with_reducible apply State.readsSettle_ok
    | with_reducible apply State.ok_ite
    | split
    | with_reducible refine State.ok_mk ?_ ?_ ?_ ?_ ?_
    | exact rfl
    | (simp only [State.ev_valve, State.ev_fab, State.submit_valve]; done)

end Sys2Proof.Machine
end

