-- ==== Sys2Proof/Laws/GoodKmp.lean ====
section
/-! SUPPORT. What KmpOps defines keeps the queue of waiting commands, the canonical form of the register table and
the capacities of the queues (`State.Ok`). -/

namespace Sys2Proof.Machine

set_option linter.unusedTactic false
set_option linter.unreachableTactic false

open Reg

theorem State.kmpRun_ok {qs : List Instr} {s : State} (ok : s.Ok qs) (src : Nat) (dg : List Byte)
    (mine operate : Kmp → Bool) (bareOk : Bool) {run : State → Nat → Kmp → State}
    (hr : ∀ (t : State) (n : Nat) (m : Kmp), t.Ok qs → (run t n m).Ok qs) :
    (s.kmpRun src dg mine operate bareOk run).Ok qs := by
  unfold State.kmpRun
  dsimp only
  repeat' first
    | with_reducible exact ok
    | with_reducible apply State.kmpTagFail_ok
    | with_reducible apply State.kmpReply_ok
    | with_reducible apply State.inc_ok
    | with_reducible apply State.setSession_ok
    | with_reducible apply hr
    | with_reducible apply State.ok_ite
    | split

theorem State.kmpOp_ok {qs : List Instr} {s : State} (ok : s.Ok qs) (src : Nat) (dg : List Byte) (op : Nat)
    (operate bareOk : Bool) {run : State → Nat → Kmp → State}
    (hr : ∀ (t : State) (n : Nat) (m : Kmp), t.Ok qs → (run t n m).Ok qs) :
    (s.kmpOp src dg op operate bareOk run).Ok qs := State.kmpRun_ok ok src dg _ _ bareOk hr

theorem State.kmpDone_ok {qs : List Instr} {s : State} (ok : s.Ok qs) (n : Nat) (m : Kmp) :
    (s.kmpDone n m).Ok qs := by
  unfold State.kmpDone
  try dsimp only
  repeat' first
    | with_reducible exact ok
    | with_reducible assumption
    | with_reducible apply State.kmpReply_ok

theorem State.kmpBad_ok {qs : List Instr} {s : State} (ok : s.Ok qs) (n : Nat) (m : Kmp) :
    (s.kmpBad n m).Ok qs := by
  unfold State.kmpBad
  try dsimp only
  repeat' first
    | with_reducible exact ok
    | with_reducible assumption
    | with_reducible apply State.kmpReply_ok

theorem State.kmpRefuse_ok {qs : List Instr} {s : State} (ok : s.Ok qs) (n : Nat) (m : Kmp) (reason : Nat) :
    (s.kmpRefuse n m reason).Ok qs := by
  unfold State.kmpRefuse
  try dsimp only
  repeat' first
    | with_reducible exact ok
    | with_reducible assumption
    | with_reducible apply State.kmpReply_ok

theorem State.kmpWelcome_ok {qs : List Instr} {s : State} (ok : s.Ok qs) (psk : List Byte) (status : Nat) (body : List Byte) :
    (s.kmpWelcome psk status body).Ok qs := by
  unfold State.kmpWelcome
  try dsimp only
  repeat' first
    | with_reducible exact ok
    | with_reducible assumption
    | with_reducible apply State.took_ok
    | with_reducible apply State.send_ok

theorem State.helloRun_ok {qs : List Instr} {s : State} (ok : s.Ok qs) (src key : Nat) (psk : List Byte) (operate : Bool) (m : Kmp) :
    (s.helloRun src key psk operate m).Ok qs := by
  unfold State.helloRun
  try dsimp only
  repeat' first
    | with_reducible exact ok
    | with_reducible assumption
    | with_reducible exact rfl
    | with_reducible apply State.kmpWelcome_ok
    | with_reducible apply State.took_ok
    | with_reducible apply State.openSession_ok
    | with_reducible apply State.ok_ite
    | split
    | with_reducible refine State.ok_mk ?_ ?_ ?_ ?_ ?_
    | exact rfl
    | (simp only [State.ev_valve, State.ev_fab, State.submit_valve]; done)

theorem State.hello_ok {qs : List Instr} {s : State} (ok : s.Ok qs) (src : Nat) (dg : List Byte) :
    (s.hello src dg).Ok qs := by
  unfold State.hello
  try dsimp only
  repeat' first
    | with_reducible exact ok
    | with_reducible assumption
    | with_reducible apply State.kmpTagFail_ok
    | with_reducible apply State.kmpReply_ok
    | with_reducible apply State.helloRun_ok
    | with_reducible apply State.ok_ite
    | split

theorem State.bye_ok {qs : List Instr} {s : State} (ok : s.Ok qs) (n : Nat) (m : Kmp) :
    (s.bye n m).Ok qs := by
  unfold State.bye
  try dsimp only
  repeat' first
    | with_reducible exact ok
    | with_reducible assumption
    | with_reducible apply State.kmpBad_ok
    | with_reducible apply State.kmpDone_ok
    | with_reducible apply State.closeSession_ok
    | with_reducible apply State.ok_ite
    | split

theorem State.pendingEnd_ok {qs : List Instr} {s : State} (ok : s.Ok qs) (n : Nat) :
    (s.pendingEnd n).Ok qs := by
  unfold State.pendingEnd
  try dsimp only
  repeat' first
    | with_reducible exact ok
    | with_reducible assumption
    | with_reducible apply State.closeSession_ok
    | with_reducible apply State.ok_ite
    | split

theorem State.idleEnd_ok {qs : List Instr} {s : State} (ok : s.Ok qs) (n : Nat) :
    (s.idleEnd n).Ok qs := by
  unfold State.idleEnd
  try dsimp only
  repeat' first
    | with_reducible exact ok
    | with_reducible assumption
    | with_reducible apply State.closeSession_ok
    | with_reducible apply State.ok_ite
    | split

theorem State.kmpReads_ok {qs : List Instr} {s : State} (ok : s.Ok qs) (n : Nat) (m : Kmp) (addrs : List Nat) :
    (s.kmpReads n m addrs).Ok qs := by
  unfold State.kmpReads
  try dsimp only
  repeat' first
    | with_reducible exact ok
    | with_reducible assumption
    | with_reducible apply State.txnStart_ok
    | with_reducible apply State.readsSettle_ok

theorem State.kmpRead_ok {qs : List Instr} {s : State} (ok : s.Ok qs) (n : Nat) (m : Kmp) :
    (s.kmpRead n m).Ok qs := by
  unfold State.kmpRead
  try dsimp only
  repeat' first
    | with_reducible exact ok
    | with_reducible assumption
    | with_reducible apply State.kmpBad_ok
    | with_reducible apply State.kmpReads_ok
    | with_reducible apply State.ok_ite
    | split

theorem State.kmpBlockRead_ok {qs : List Instr} {s : State} (ok : s.Ok qs) (n : Nat) (m : Kmp) :
    (s.kmpBlockRead n m).Ok qs := by
  unfold State.kmpBlockRead
  try dsimp only
  repeat' first
    | with_reducible exact ok
    | with_reducible assumption
    | with_reducible apply State.kmpBad_ok
    | with_reducible apply State.kmpReads_ok
    | with_reducible apply State.ok_ite
    | split

theorem State.kmpWrite_ok {qs : List Instr} {s : State} (ok : s.Ok qs) (n : Nat) (m : Kmp) :
    (s.kmpWrite n m).Ok qs := by
  unfold State.kmpWrite
  try dsimp only
  repeat' first
    | with_reducible exact ok
    | with_reducible assumption
    | with_reducible apply State.kmpBad_ok
    | with_reducible apply State.issueWrite_ok
    | with_reducible apply State.kmpDone_ok
    | with_reducible refine State.each_ok ?_ _ (fun _ _ _ => ?_)
    | with_reducible apply State.ok_ite
    | split

theorem State.kmpLogRead_ok {qs : List Instr} {s : State} (ok : s.Ok qs) (bad : List (Nat × Nat)) (n : Nat)
    (m : Kmp) : (State.kmpLogRead bad s n m).Ok qs := by
  unfold State.kmpLogRead
  try dsimp only
  split
  · exact State.kmpBad_ok ok _ _
  · exact State.kmpReply_ok (State.logBad_ok ok _) _ _ _ _ _

theorem State.kmpFreeze_ok {qs : List Instr} {s : State} (ok : s.Ok qs) (n : Nat) (m : Kmp) :
    (s.kmpFreeze n m).Ok qs := by
  unfold State.kmpFreeze
  try dsimp only
  repeat' first
    | with_reducible exact ok
    | with_reducible assumption
    | with_reducible apply State.issueWrite_ok
    | with_reducible apply State.kmpDone_ok
    | with_reducible apply State.kmpBad_ok
    | with_reducible apply State.ok_ite
    | split

theorem State.kmpBeat_ok {qs : List Instr} {s : State} (ok : s.Ok qs) (n : Nat) (m : Kmp) :
    (s.kmpBeat n m).Ok qs := by
  unfold State.kmpBeat
  try dsimp only
  repeat' first
    | with_reducible exact ok
    | with_reducible assumption
    | with_reducible apply State.kmpBad_ok
    | with_reducible apply State.heartbeat_ok
    | with_reducible apply State.kmpDone_ok
    | with_reducible apply State.ok_ite
    | split

theorem State.kmpSetTime_ok {qs : List Instr} {s : State} (ok : s.Ok qs) (n : Nat) (m : Kmp) :
    (s.kmpSetTime n m).Ok qs := by
  unfold State.kmpSetTime
  try dsimp only
  repeat' first
    | with_reducible exact ok
    | with_reducible assumption
    | with_reducible apply State.kmpBad_ok
    | with_reducible apply State.kmpRefuse_ok
    | with_reducible apply State.timeSet_ok
    | with_reducible apply State.kmpDone_ok
    | with_reducible apply State.ok_ite
    | split

theorem State.setXfer_ok {qs : List Instr} {s : State} (ok : s.Ok qs) (x : Xfer) :
    (s.setXfer x).Ok qs := by
  unfold State.setXfer
  try dsimp only
  repeat' first
    | with_reducible exact ok
    | with_reducible assumption
    | with_reducible exact rfl
    | with_reducible apply State.ok_ite
    | split
    | with_reducible refine State.ok_mk ?_ ?_ ?_ ?_ ?_
    | exact rfl
    | (simp only [State.ev_valve, State.ev_fab, State.submit_valve]; done)

theorem State.xferAdd_ok {qs : List Instr} {s : State} (ok : s.Ok qs) (x : Xfer) :
    (s.xferAdd x).Ok qs := by
  unfold State.xferAdd
  try dsimp only
  repeat' first
    | with_reducible exact ok
    | with_reducible assumption
    | with_reducible exact rfl
    | with_reducible refine State.ok_mk ?_ ?_ ?_ ?_ ?_
    | exact rfl
    | (simp only [State.ev_valve, State.ev_fab, State.submit_valve]; done)

theorem State.outDone_ok {qs : List Instr} {s : State} (ok : s.Ok qs) (x : Xfer) :
    (s.outDone x).Ok qs := by
  unfold State.outDone
  try dsimp only
  repeat' first
    | with_reducible exact ok
    | with_reducible assumption
    | with_reducible apply State.xferDrop_ok
    | with_reducible apply State.kmpReply_ok
    | with_reducible apply State.ok_ite
    | split

theorem State.kmpCupRead_ok {qs : List Instr} {s : State} (ok : s.Ok qs) (n : Nat) (m : Kmp) :
    (s.kmpCupRead n m).Ok qs := by
  unfold State.kmpCupRead
  try dsimp only
  repeat' first
    | with_reducible exact ok
    | with_reducible assumption
    | with_reducible apply State.kmpBad_ok
    | with_reducible apply State.kmpReply_ok
    | with_reducible apply State.xferAdd_ok
    | with_reducible apply State.outDone_ok
    | with_reducible apply State.ok_ite
    | split

theorem State.bulkSend_ok {qs : List Instr} {s : State} (ok : s.Ok qs) (i : Nat) :
    (s.bulkSend i).Ok qs := by
  unfold State.bulkSend
  try dsimp only
  repeat' first
    | with_reducible exact ok
    | with_reducible assumption
    | with_reducible exact rfl
    | with_reducible apply State.setXfer_ok
    | with_reducible apply State.kmpSend_ok
    | with_reducible apply State.ok_ite
    | split
    | with_reducible refine State.ok_mk ?_ ?_ ?_ ?_ ?_
    | exact rfl
    | (simp only [State.ev_valve, State.ev_fab, State.submit_valve]; done)

theorem State.bulkAck_ok {qs : List Instr} {s : State} (ok : s.Ok qs) (n : Nat) (m : Kmp) :
    (s.bulkAck n m).Ok qs := by
  unfold State.bulkAck
  try dsimp only
  repeat' first
    | with_reducible exact ok
    | with_reducible assumption
    | with_reducible exact rfl
    | with_reducible apply State.setXfer_ok
    | with_reducible apply State.outDone_ok
    | with_reducible apply State.ok_ite
    | split
    | with_reducible refine State.ok_mk ?_ ?_ ?_ ?_ ?_
    | exact rfl
    | (simp only [State.ev_valve, State.ev_fab, State.submit_valve]; done)

theorem State.bulkResend_ok {qs : List Instr} {s : State} (ok : s.Ok qs) (i : Nat) :
    (s.bulkResend i).Ok qs := by
  unfold State.bulkResend
  try dsimp only
  repeat' first
    | with_reducible exact ok
    | with_reducible assumption
    | with_reducible exact rfl
    | with_reducible apply State.setXfer_ok
    | with_reducible apply State.ok_ite
    | split
    | with_reducible refine State.ok_mk ?_ ?_ ?_ ?_ ?_
    | exact rfl
    | (simp only [State.ev_valve, State.ev_fab, State.submit_valve]; done)

theorem State.ackSend_ok {qs : List Instr} {s : State} (ok : s.Ok qs) (x : Xfer) :
    (s.ackSend x).Ok qs := by
  unfold State.ackSend
  try dsimp only
  repeat' first
    | with_reducible exact ok
    | with_reducible assumption
    | with_reducible exact rfl
    | with_reducible apply State.setXfer_ok
    | with_reducible apply State.kmpSend_ok
    | with_reducible refine State.ok_mk ?_ ?_ ?_ ?_ ?_
    | exact rfl
    | (simp only [State.ev_valve, State.ev_fab, State.submit_valve]; done)

theorem State.bulkAckTimer_ok {qs : List Instr} {s : State} (ok : s.Ok qs) (i : Nat) :
    (s.bulkAckTimer i).Ok qs := by
  unfold State.bulkAckTimer
  try dsimp only
  repeat' first
    | with_reducible exact ok
    | with_reducible assumption
    | with_reducible apply State.ackSend_ok
    | with_reducible apply State.ok_ite
    | split

theorem State.bulkAbandon_ok {qs : List Instr} {s : State} (ok : s.Ok qs) (i : Nat) :
    (s.bulkAbandon i).Ok qs := by
  unfold State.bulkAbandon
  try dsimp only
  repeat' first
    | with_reducible exact ok
    | with_reducible assumption
    | with_reducible apply State.xferDrop_ok
    | with_reducible apply State.kmpReply_ok
    | with_reducible apply State.ok_ite
    | split

theorem State.kmpCaddyWrite_ok {qs : List Instr} {s : State} (ok : s.Ok qs) (n : Nat) (m : Kmp) :
    (s.kmpCaddyWrite n m).Ok qs := by
  unfold State.kmpCaddyWrite
  try dsimp only
  repeat' first
    | with_reducible exact ok
    | with_reducible assumption
    | with_reducible exact rfl
    | with_reducible apply State.kmpBad_ok
    | with_reducible apply State.kmpRefuse_ok
    | with_reducible apply State.kmpReply_ok
    | with_reducible apply State.busyShow_ok
    | with_reducible apply State.setReg_ok
    | with_reducible apply State.xferAdd_ok
    | with_reducible apply State.ok_ite
    | split
    | with_reducible refine State.ok_mk ?_ ?_ ?_ ?_ ?_
    | exact rfl
    | (simp only [State.ev_valve, State.ev_fab, State.submit_valve]; done)

theorem State.caddyProgram_ok {qs : List Instr} {s : State} (ok : s.Ok qs) (slot off : Nat) (l : List Byte) :
    (s.caddyProgram slot off l).Ok qs := by
  unfold State.caddyProgram
  try dsimp only
  repeat' first
    | with_reducible exact ok
    | with_reducible assumption
    | with_reducible apply State.flashErase_ok
    | with_reducible apply State.flashProg_ok
    | with_reducible refine State.each_ok ?_ _ (fun _ _ _ => ?_)
    | with_reducible apply State.ok_ite
    | split

theorem State.noteBad_ok {qs : List Instr} {s : State} (ok : s.Ok qs) (bad : Nat) :
    (s.noteBad bad).Ok qs := by
  unfold State.noteBad
  try dsimp only
  repeat' first
    | with_reducible exact ok
    | with_reducible assumption
    | with_reducible exact rfl
    | with_reducible refine State.each_ok ?_ _ (fun _ _ _ => ?_)
    | split
    | with_reducible refine State.ok_mk ?_ ?_ ?_ ?_ ?_
    | exact rfl
    | (simp only [State.ev_valve, State.ev_fab, State.submit_valve]; done)

theorem State.caddyEnd_ok {qs : List Instr} {s : State} (ok : s.Ok qs) (x : Xfer) (slot : Nat) (swap : Bool) :
    (s.caddyEnd x slot swap).Ok qs := by
  unfold State.caddyEnd
  try dsimp only
  repeat' first
    | with_reducible exact ok
    | with_reducible assumption
    | with_reducible apply State.xferDrop_ok
    | with_reducible apply State.slotCheck_ok
    | with_reducible apply State.kmpReply_ok
    | with_reducible apply State.writeAt_ok
    | with_reducible apply State.ok_ite
    | split

theorem State.kmpExport_ok {qs : List Instr} {s : State} (ok : s.Ok qs) (n : Nat) (m : Kmp) :
    (s.kmpExport n m).Ok qs := by
  unfold State.kmpExport
  try dsimp only
  repeat' first
    | with_reducible exact ok
    | with_reducible assumption
    | with_reducible exact rfl
    | with_reducible apply State.kmpBad_ok
    | with_reducible apply State.kmpReply_ok
    | with_reducible apply State.setBody_ok
    | with_reducible apply State.tookN_ok
    | with_reducible apply State.xferAdd_ok
    | with_reducible refine State.each_ok ?_ _ (fun _ _ _ => ?_)
    | with_reducible apply State.ok_ite
    | split
    | with_reducible refine State.ok_mk ?_ ?_ ?_ ?_ ?_
    | exact rfl
    | (simp only [State.ev_valve, State.ev_fab, State.submit_valve]; done)

theorem State.kmpImport_ok {qs : List Instr} {s : State} (ok : s.Ok qs) (n : Nat) (m : Kmp) :
    (s.kmpImport n m).Ok qs := by
  unfold State.kmpImport
  try dsimp only
  repeat' first
    | with_reducible exact ok
    | with_reducible assumption
    | with_reducible apply State.kmpBad_ok
    | with_reducible apply State.kmpReply_ok
    | with_reducible apply State.xferAdd_ok
    | with_reducible apply State.ok_ite
    | split

theorem State.importBody_ok {qs : List Instr} {s : State} (ok : s.Ok qs) (f : List Byte) (k : Nat) :
    (s.importBody f k).Ok qs := by
  unfold State.importBody
  try dsimp only
  repeat' first
    | with_reducible exact ok
    | with_reducible assumption
    | with_reducible exact rfl
    | with_reducible apply State.setBody_ok
    | with_reducible apply State.anchorCells_ok
    | with_reducible apply State.readInputs_ok
    | with_reducible apply State.setBst_ok
    | with_reducible apply State.bodyPublish_ok
    | with_reducible apply State.solveWant_ok
    | with_reducible apply State.heldAgain_ok
    | with_reducible apply State.bodyNext_ok
    | with_reducible apply State.mev_ok
    | with_reducible refine State.foldl_ok (fun _ _ _ => ?_) _ ?_
    | with_reducible refine State.foldl_fst_ok (fun _ _ _ => ?_) _ ?_
    | with_reducible apply State.ok_ite
    | split
    | with_reducible refine State.ok_mk ?_ ?_ ?_ ?_ ?_
    | exact rfl
    | (simp only [State.ev_valve, State.ev_fab, State.submit_valve]; done)

theorem State.importSettle_ok {qs : List Instr} {s : State} (ok : s.Ok qs) :
    (s.importSettle).Ok qs := by
  unfold State.importSettle
  try dsimp only
  repeat' first
    | with_reducible exact ok
    | with_reducible assumption
    | with_reducible exact rfl
    | with_reducible apply State.importBody_ok
    | with_reducible apply State.kmpReply_ok
    | with_reducible apply State.swapGo_ok
    | with_reducible refine State.each_ok ?_ _ (fun _ _ _ => ?_)
    | with_reducible apply State.ok_ite
    | split
    | with_reducible refine State.ok_mk ?_ ?_ ?_ ?_ ?_
    | exact rfl
    | (simp only [State.ev_valve, State.ev_fab, State.submit_valve]; done)

theorem State.importEnd_ok {qs : List Instr} {s : State} (ok : s.Ok qs) (x : Xfer) (k : Nat) :
    (s.importEnd x k).Ok qs := by
  unfold State.importEnd
  try dsimp only
  repeat' first
    | with_reducible exact ok
    | with_reducible assumption
    | with_reducible exact rfl
    | with_reducible apply State.xferDrop_ok
    | with_reducible apply State.kmpReply_ok
    | with_reducible apply State.mev_ok
    | with_reducible apply State.setXfer_ok
    | with_reducible apply State.pauseBody_ok
    | with_reducible apply State.importSettle_ok
    | with_reducible refine State.each_ok ?_ _ (fun _ _ _ => ?_)
    | with_reducible apply State.ok_ite
    | split
    | with_reducible refine State.ok_mk ?_ ?_ ?_ ?_ ?_
    | exact rfl
    | (simp only [State.ev_valve, State.ev_fab, State.submit_valve]; done)

theorem State.bulkTake_ok {qs : List Instr} {s : State} (ok : s.Ok qs) (x : Xfer) (l : List Byte) :
    (s.bulkTake x l).Ok qs := by
  unfold State.bulkTake
  try dsimp only
  repeat' first
    | with_reducible exact ok
    | with_reducible assumption
    | with_reducible exact rfl
    | with_reducible apply State.caddyProgram_ok
    | with_reducible apply State.setXfer_ok
    | with_reducible apply State.caddyEnd_ok
    | with_reducible apply State.ackSend_ok
    | with_reducible apply State.importEnd_ok
    | with_reducible apply State.ok_ite
    | split
    | with_reducible refine State.ok_mk ?_ ?_ ?_ ?_ ?_
    | exact rfl
    | (simp only [State.ev_valve, State.ev_fab, State.submit_valve]; done)

theorem State.bulkData_ok {qs : List Instr} {s : State} (ok : s.Ok qs) (n : Nat) (m : Kmp) :
    (s.bulkData n m).Ok qs := by
  unfold State.bulkData
  try dsimp only
  repeat' first
    | with_reducible exact ok
    | with_reducible assumption
    | with_reducible exact rfl
    | with_reducible apply State.bulkTake_ok
    | with_reducible apply State.ackSend_ok
    | with_reducible apply State.setXfer_ok
    | with_reducible apply State.ok_ite
    | split
    | with_reducible refine State.ok_mk ?_ ?_ ?_ ?_ ?_
    | exact rfl
    | (simp only [State.ev_valve, State.ev_fab, State.submit_valve]; done)

end Sys2Proof.Machine
end

