-- ==== Sys2Proof/Laws/GoodClient.lean ====
section
/-! SUPPORT. What ClientOps defines keeps the queue of waiting commands, the canonical form of the register table and
the capacities of the queues (`State.Ok`). -/

namespace Sys2Proof.Machine

set_option linter.unusedTactic false
set_option linter.unreachableTactic false

open Reg

theorem State.setClient_ok {qs : List Instr} {s : State} (ok : s.Ok qs) (m : Nat) (c : Client) :
    (s.setClient m c).Ok qs := by
  unfold State.setClient
  try dsimp only
  repeat' first
    | with_reducible exact ok
    | with_reducible assumption
    | with_reducible exact rfl
    | with_reducible refine State.ok_mk ?_ ?_ ?_ ?_ ?_
    | exact rfl
    | (simp only [State.ev_valve, State.ev_fab, State.submit_valve]; done)

theorem State.clientDown_ok {qs : List Instr} {s : State} (ok : s.Ok qs) (m : Nat) :
    (s.clientDown m).Ok qs := by
  unfold State.clientDown
  try dsimp only
  repeat' first
    | with_reducible exact ok
    | with_reducible assumption
    | with_reducible exact rfl
    | with_reducible apply State.nev_ok
    | with_reducible apply State.putB_ok
    | with_reducible apply State.send_ok
    | with_reducible apply State.setClient_ok
    | with_reducible apply State.ok_ite
    | split
    | with_reducible refine State.ok_mk ?_ ?_ ?_ ?_ ?_
    | exact rfl
    | (simp only [State.ev_valve, State.ev_fab, State.submit_valve]; done)

theorem State.pollLost_ok {qs : List Instr} {s : State} (ok : s.Ok qs) (m : Nat) :
    (s.pollLost m).Ok qs := by
  unfold State.pollLost
  try dsimp only
  repeat' first
    | with_reducible exact ok
    | with_reducible assumption
    | with_reducible exact rfl
    | with_reducible apply State.clientDown_ok
    | with_reducible apply State.setClient_ok
    | with_reducible apply State.ok_ite
    | split
    | with_reducible refine State.ok_mk ?_ ?_ ?_ ?_ ?_
    | exact rfl
    | (simp only [State.ev_valve, State.ev_fab, State.submit_valve]; done)

theorem State.pollNext_ok {qs : List Instr} {s : State} (ok : s.Ok qs) (m : Nat) :
    (s.pollNext m).Ok qs := by
  unfold State.pollNext
  try dsimp only
  repeat' first
    | with_reducible exact ok
    | with_reducible assumption
    | with_reducible exact rfl
    | with_reducible apply State.setClient_ok
    | with_reducible apply State.send_ok
    | with_reducible apply State.pollLost_ok
    | with_reducible apply State.putB_ok
    | with_reducible apply State.nev_ok
    | with_reducible apply State.ok_ite
    | split
    | with_reducible refine State.ok_mk ?_ ?_ ?_ ?_ ?_
    | exact rfl
    | (simp only [State.ev_valve, State.ev_fab, State.submit_valve]; done)

theorem State.clientPoll_ok {qs : List Instr} {s : State} (ok : s.Ok qs) (m : Nat) :
    (s.clientPoll m).Ok qs := by
  unfold State.clientPoll
  try dsimp only
  repeat' first
    | with_reducible exact ok
    | with_reducible assumption
    | with_reducible exact rfl
    | with_reducible apply State.setClient_ok
    | with_reducible apply State.pollNext_ok
    | with_reducible apply State.ok_ite
    | split
    | with_reducible refine State.ok_mk ?_ ?_ ?_ ?_ ?_
    | exact rfl
    | (simp only [State.ev_valve, State.ev_fab, State.submit_valve]; done)

theorem State.pollDue_ok {qs : List Instr} {s : State} (ok : s.Ok qs) (m : Nat) :
    (s.pollDue m).Ok qs := by
  unfold State.pollDue
  try dsimp only
  repeat' first
    | with_reducible exact ok
    | with_reducible assumption
    | with_reducible apply State.clientPoll_ok
    | with_reducible apply State.ok_ite
    | split

theorem State.pollWent_ok {qs : List Instr} {s : State} (ok : s.Ok qs) (m : Nat) (bad : Bool) :
    (s.pollWent m bad).Ok qs := by
  unfold State.pollWent
  try dsimp only
  repeat' first
    | with_reducible exact ok
    | with_reducible assumption
    | with_reducible exact rfl
    | with_reducible apply State.setClient_ok
    | with_reducible apply State.incSat_ok
    | with_reducible apply State.pollNext_ok
    | with_reducible apply State.pollDue_ok
    | with_reducible apply State.ok_ite
    | split
    | with_reducible refine State.ok_mk ?_ ?_ ?_ ?_ ?_
    | exact rfl
    | (simp only [State.ev_valve, State.ev_fab, State.submit_valve]; done)

theorem State.clientResponse_ok {qs : List Instr} {s : State} (ok : s.Ok qs) (m : Nat) (pdu : List Byte) :
    (s.clientResponse m pdu).Ok qs := by
  unfold State.clientResponse
  try dsimp only
  repeat' first
    | with_reducible exact ok
    | with_reducible assumption
    | with_reducible apply State.put_ok
    | with_reducible apply State.pollWent_ok
    | with_reducible apply State.setReg_ok
    | with_reducible apply State.ok_ite
    | split

theorem State.clientTimeout_ok {qs : List Instr} {s : State} (ok : s.Ok qs) (m : Nat) :
    (s.clientTimeout m).Ok qs := by
  unfold State.clientTimeout
  try dsimp only
  repeat' first
    | with_reducible exact ok
    | with_reducible assumption
    | with_reducible apply State.pollWent_ok
    | with_reducible apply State.ok_ite
    | split

theorem State.clientLost_ok {qs : List Instr} {s : State} (ok : s.Ok qs) (m : Nat) :
    (s.clientLost m).Ok qs := by
  unfold State.clientLost
  try dsimp only
  repeat' first
    | with_reducible exact ok
    | with_reducible assumption
    | with_reducible apply State.clientDown_ok
    | with_reducible apply State.ok_ite
    | split

theorem State.clientConnect_ok {qs : List Instr} {s : State} (ok : s.Ok qs) (m : Nat) (ok : Bool) :
    (s.clientConnect m ok).Ok qs := by
  unfold State.clientConnect
  try dsimp only
  repeat' first
    | with_reducible exact ok
    | with_reducible assumption
    | with_reducible exact rfl
    | with_reducible apply State.send_ok
    | with_reducible apply State.putB_ok
    | with_reducible apply State.setClient_ok
    | with_reducible apply State.pollLost_ok
    | with_reducible apply State.ok_ite
    | split
    | with_reducible refine State.ok_mk ?_ ?_ ?_ ?_ ?_
    | exact rfl
    | (simp only [State.ev_valve, State.ev_fab, State.submit_valve]; done)

theorem State.fwRestarted_ok {qs : List Instr} {s : State} (ok : s.Ok qs) (ms : Nat) :
    (s.fwRestarted ms).Ok qs := by
  unfold State.fwRestarted
  try dsimp only
  repeat' first
    | with_reducible exact ok
    | with_reducible assumption
    | with_reducible exact rfl
    | with_reducible apply State.fwRestart_ok
    | with_reducible apply State.ev_ok
    | with_reducible apply State.putB_ok
    | with_reducible apply State.ip4Off_ok
    | with_reducible apply State.netStart_ok
    | with_reducible apply State.swapDone_ok
    | with_reducible apply State.ptpAnnounce_ok
    | with_reducible apply State.clientPoll_ok
    | with_reducible apply State.readsSettle_ok
    | with_reducible refine State.each_ok ?_ _ (fun _ _ _ => ?_)
    | with_reducible apply State.ok_ite
    | split
    | with_reducible refine State.ok_mk ?_ ?_ ?_ ?_ ?_
    | exact rfl
    | (simp only [State.ev_valve, State.ev_fab, State.submit_valve]; done)

end Sys2Proof.Machine
end

