-- ==== Sys2Proof/Laws/GoodTick.lean ====
section
/-! SUPPORT. What TickOps defines keeps the queue of waiting commands, the canonical form of the register table and
the capacities of the queues (`State.Ok`). -/

namespace Sys2Proof.Machine

set_option linter.unusedTactic false
set_option linter.unreachableTactic false

open Reg

theorem State.estSwap_ok {qs : List Instr} {s : State} (ok : s.Ok qs) :
    (s.estSwap).Ok qs := by
  unfold State.estSwap
  try dsimp only
  repeat' first
    | with_reducible exact ok
    | with_reducible assumption
    | with_reducible exact rfl
    | with_reducible apply State.setReg_ok
    | with_reducible refine State.foldl_ok (fun _ _ _ => ?_) _ ?_
    | with_reducible refine State.foldl_fst_ok (fun _ _ _ => ?_) _ ?_
    | with_reducible refine State.ok_mk ?_ ?_ ?_ ?_ ?_
    | exact rfl
    | (simp only [State.ev_valve, State.ev_fab, State.submit_valve]; done)

theorem State.actPass_ok {qs : List Instr} {s : State} (ok : s.Ok qs) :
    (s.actPass).Ok qs := by
  unfold State.actPass
  try dsimp only
  repeat' first
    | with_reducible exact ok
    | with_reducible assumption
    | with_reducible apply State.publish_ok
    | with_reducible apply State.forward_ok
    | with_reducible refine State.each_ok ?_ _ (fun _ _ _ => ?_)
    | with_reducible apply State.ok_ite
    | split

theorem State.actSwap_ok {qs : List Instr} {s : State} (ok : s.Ok qs) :
    (s.actSwap).Ok qs := by
  unfold State.actSwap
  try dsimp only
  repeat' first
    | with_reducible exact ok
    | with_reducible assumption
    | with_reducible exact rfl
    | with_reducible apply State.setReg_ok
    | with_reducible apply State.tookN_ok
    | with_reducible apply State.actPass_ok
    | with_reducible apply State.solveWant_ok
    | with_reducible refine State.each_ok ?_ _ (fun _ _ _ => ?_)
    | with_reducible refine State.foldl_ok (fun _ _ _ => ?_) _ ?_
    | with_reducible refine State.foldl_fst_ok (fun _ _ _ => ?_) _ ?_
    | with_reducible refine State.ok_mk ?_ ?_ ?_ ?_ ?_
    | exact rfl
    | (simp only [State.ev_valve, State.ev_fab, State.submit_valve]; done)

theorem State.checkpoint_ok {qs : List Instr} {s : State} (ok : s.Ok qs) :
    (s.checkpoint).Ok qs := by
  unfold State.checkpoint
  try dsimp only
  repeat' first
    | with_reducible exact ok
    | with_reducible assumption
    | with_reducible exact rfl
    | with_reducible refine State.ok_mk ?_ ?_ ?_ ?_ ?_
    | exact rfl
    | (simp only [State.ev_valve, State.ev_fab, State.submit_valve]; done)

theorem State.estTick_ok {qs : List Instr} {s : State} (ok : s.Ok qs) :
    (s.estTick).Ok qs := by
  unfold State.estTick
  try dsimp only
  repeat' first
    | with_reducible exact ok
    | with_reducible assumption
    | with_reducible apply State.timeTick_ok
    | with_reducible apply State.estSwap_ok
    | with_reducible apply State.actSwap_ok
    | with_reducible apply State.cupCarry_ok
    | with_reducible apply State.ledTick_ok
    | with_reducible apply State.pulseUpdate_ok
    | with_reducible apply State.checkpoint_ok
    | with_reducible apply State.dispatch_ok
    | with_reducible refine State.each_ok ?_ _ (fun _ _ _ => ?_)
    | with_reducible apply State.ok_ite
    | split

theorem State.bareServe_ok {qs : List Instr} {s : State} (ok : s.Ok qs) : (s.bareServe).Ok qs := by
  unfold State.bareServe
  apply State.readsSettle_ok
  split
  · exact State.releaseHeld_ok ok (fun _ _ _ _ k => State.writeAt_ok k _ _ _)
  · exact ok

theorem State.headSector_ok {qs : List Instr} {s : State} (ok : s.Ok qs) :
    (s.headSector).Ok qs := by
  unfold State.headSector
  try dsimp only
  repeat' first
    | with_reducible exact ok
    | with_reducible assumption
    | with_reducible exact rfl
    | with_reducible refine State.ok_mk ?_ ?_ ?_ ?_ ?_
    | exact rfl
    | (simp only [State.ev_valve, State.ev_fab, State.submit_valve]; done)

end Sys2Proof.Machine
end

