-- ==== Sys2Proof/Laws/Memory.lean ====
section
/-! SUPPORT. Laws of the addressed memories: every operation that writes the configuration flash, the frame
store, the cup region or the estimate banks keeps their canonical form, and reset has it. -/

namespace Sys2Proof.Machine

theorem State.memWf_iff (s : State) : s.memWf = true ↔
    twf (fun _ => (0xFF : Byte)) s.nv.flash = true ∧ twf (fun _ => (0 : Byte)) s.disp.fb = true ∧
      twf (fun _ => (0 : Byte)) s.cup.mem = true ∧ twf (fun _ => (0 : Word)) s.est.back = true ∧
      twf (fun _ => (0 : Word)) s.est.front = true := by
  unfold State.memWf
  simp only [Bool.and_eq_true]
  tauto

theorem State.reset_memWf : State.reset.memWf = true := by decide

/-- Writing one key after another keeps the form. -/
theorem twf_foldl_tset {α β : Type} [DecidableEq α] (d : Nat → α) (k : β → Nat) (v : List (Nat × α) → β → α) :
    ∀ (l : List β) {t : List (Nat × α)}, twf d t = true →
      twf d (l.foldl (fun m x => tset d m (k x) (v m x)) t) = true
  | [], _, h => h
  | x :: xs, _, h => twf_foldl_tset d k v xs (twf_tset d (k x) (v _ x) h)

theorem State.flashProg_memWf {s : State} (a : Nat) (b : Byte) (h : s.memWf = true) : (s.flashProg a b).memWf = true := by
  rw [State.memWf_iff] at h ⊢
  exact ⟨twf_tset _ _ _ h.1, h.2⟩

theorem State.flashErase_memWf {s : State} (a : Nat) (h : s.memWf = true) : (s.flashErase a).memWf = true := by
  rw [State.memWf_iff] at h ⊢
  exact ⟨twf_tkeep (fun _ => (0xFF : Byte)) (fun k => decide (k / 65536 ≠ a / 65536)) h.1, h.2⟩

theorem State.fbByte_memWf {s : State} (k : Nat) (b : Byte) (h : s.memWf = true) : (s.fbByte k b).memWf = true := by
  unfold State.fbByte
  split
  · exact h
  · rw [State.memWf_iff] at h ⊢
    exact ⟨h.1, twf_tset _ _ _ h.2.1, h.2.2⟩

theorem State.cupPut_memWf {s : State} (o : Nat) (l : List Byte) (h : s.memWf = true) : (s.cupPut o l).memWf = true := by
  rw [State.memWf_iff] at h ⊢
  exact ⟨h.1, h.2.1, twf_foldl_tset _ (fun p : Byte × Nat => o + p.2) (fun _ p => p.1) _ h.2.2.1, h.2.2.2⟩

theorem State.cupLost_memWf {s : State} (o : Nat) (h : s.memWf = true) : (s.cupLost o).memWf = true := by
  rw [State.memWf_iff] at h ⊢
  exact ⟨h.1, h.2.1, twf_foldl_tset _ (fun i : Nat => o + i) (fun _ _ => 0) _ h.2.2.1, h.2.2.2⟩

theorem State.estWrite_memWf {s : State} (n : Nat) (w0 w1 w2 w3 : Word) (h : s.memWf = true) :
    (s.estWrite n w0 w1 w2 w3).memWf = true := by
  rw [State.memWf_iff] at h ⊢
  exact ⟨h.1, h.2.1, h.2.2.1, twf_tset _ _ _ (twf_tset _ _ _ (twf_tset _ _ _ (twf_tset _ _ _ h.2.2.2.1))), h.2.2.2.2⟩

theorem twf_foldl {α β : Type} [DecidableEq α] (d : Nat → α) {f : List (Nat × α) → β → List (Nat × α)}
    (hf : ∀ t x, twf d t = true → twf d (f t x) = true) :
    ∀ (l : List β) {t : List (Nat × α)}, twf d t = true → twf d (l.foldl f t) = true
  | [], _, h => h
  | x :: xs, _, h => twf_foldl d hf xs (hf _ x h)

theorem State.estSwap_memWf {s : State} (h : s.memWf = true) : s.estSwap.memWf = true := by
  rw [State.memWf_iff] at h ⊢
  refine ⟨h.1, h.2.1, h.2.2.1, ?_, h.2.2.2.1⟩
  exact twf_foldl _ (fun t n ht => twf_foldl_tset _ (fun w => 4 * n + w) (fun _ _ => _) _ ht) _ h.2.2.2.2

/-- What the shift of a bank leaves: keys that rise, no zero word, and only keys of the bank or of validity
times. -/
theorem shiftFrom_form (d : Int) : ∀ (k n : Nat) (l : List (Nat × Word)),
    l.Pairwise (fun a b => a.1 < b.1) → (∀ e ∈ l, e.2 ≠ 0) →
      (shiftFrom d k n l).Pairwise (fun a b => a.1 < b.1) ∧ (∀ e ∈ shiftFrom d k n l, e.2 ≠ 0) ∧
        ∀ e ∈ shiftFrom d k n l, e ∈ l ∨ 4 * n + 2 ≤ e.1
  | 0, _, _, h, h0 => ⟨h, h0, fun _ he => .inl he⟩
  | k + 1, n, l, h, h0 => by
    have hl := List.takeWhile_append_dropWhile (p := fun e : Nat × Word => decide (e.1 < 4 * n + 3)) (l := l)
    unfold shiftFrom
    dsimp only
    have hhead : ∀ e t, l.dropWhile (fun e => decide (e.1 < 4 * n + 3)) = e :: t → 4 * n + 3 ≤ e.1 := fun e t he => by
      have := List.head?_dropWhile_not (fun e : Nat × Word => decide (e.1 < 4 * n + 3)) l
      rw [he] at this
      simpa using this
    generalize l.takeWhile (fun e => decide (e.1 < 4 * n + 3)) = here at *
    generalize l.dropWhile (fun e => decide (e.1 < 4 * n + 3)) = t at *
    generalize (BitVec.ofNat 32 (ofSigned 32 _) : Word) = v
    subst hl
    obtain ⟨h1, htp, -⟩ := List.pairwise_append.mp h
    have ht : ∀ e ∈ t, 4 * n + 2 < e.1 := fun e he => by
      cases t with
      | nil => simp at he
      | cons x t =>
        have hx := hhead x t rfl
        rcases List.mem_cons.mp he with rfl | he
        · omega
        · have := (List.pairwise_cons.mp htp).1 e he; omega
    have hsub : ∀ e ∈ here.filter (fun e => decide (e.1 < 4 * n + 2)), e ∈ here ++ t := fun e he =>
      List.mem_append_left _ (List.mem_of_mem_filter he)
    have hpre : ∀ e ∈ here.filter (fun e => decide (e.1 < 4 * n + 2)), e.1 < 4 * n + 2 := fun e he => by
      simpa using (List.mem_filter.mp he).2
    replace h1 := h1.filter (fun e => decide (e.1 < 4 * n + 2))
    generalize here.filter (fun e => decide (e.1 < 4 * n + 2)) = pre at *
    obtain ⟨r1, r2, r3⟩ := shiftFrom_form d k (n + 1) t htp (fun e he => h0 e (List.mem_append_right _ he))
    have hr : ∀ e ∈ shiftFrom d k (n + 1) t, 4 * n + 2 < e.1 := fun e he => by
      rcases r3 e he with q | q
      · exact ht e q
      · omega
    by_cases hv : v = 0
    · simp only [hv, if_true, List.append_nil]
      refine ⟨List.pairwise_append.mpr ⟨h1, r1, fun a ha b hb => ?_⟩, fun e he => ?_, fun e he => ?_⟩
      · have := hpre a ha; have := hr b hb; omega
      · rcases List.mem_append.mp he with q | q
        · exact h0 e (hsub e q)
        · exact r2 e q
      · rcases List.mem_append.mp he with q | q
        · exact .inl (hsub e q)
        · have := hr e q; exact .inr (by omega)
    · simp only [hv, if_false]
      refine ⟨List.pairwise_append.mpr ⟨List.pairwise_append.mpr ⟨h1, by simp, fun a ha b hb => ?_⟩, r1,
        fun a ha b hb => ?_⟩, fun e he => ?_, fun e he => ?_⟩
      · have := hpre a ha; simp only [List.mem_singleton] at hb; subst hb; exact this
      · have := hr b hb
        rcases List.mem_append.mp ha with q | q
        · have := hpre a q; omega
        · simp only [List.mem_singleton] at q; subst q; exact this
      · rcases List.mem_append.mp he with q | q
        · rcases List.mem_append.mp q with q | q
          · exact h0 e (hsub e q)
          · simp only [List.mem_singleton] at q; subst q; exact hv
        · exact r2 e q
      · rcases List.mem_append.mp he with q | q
        · rcases List.mem_append.mp q with q | q
          · exact .inl (hsub e q)
          · simp only [List.mem_singleton] at q; subst q; exact .inr (le_refl _)
        · have := hr e q; exact .inr (by omega)

theorem twf_shiftBank {bank : List (Nat × Word)} (d : Int) (h : twf (fun _ => (0 : Word)) bank = true) :
    twf (fun _ => (0 : Word)) (shiftBank bank d) = true := by
  rw [twf_iff] at h ⊢
  have r := shiftFrom_form d 1014 0 bank h.1 h.2
  exact ⟨r.1, r.2.1⟩

end Sys2Proof.Machine
end

