-- ==== Sys2Proof/WellFormed.lean ====
section
/-! DEFINITION. Which commands are well formed: a requester that exists, an address that a register access
can carry, times and counts in their ranges, frames and datagrams in their lengths.  `Machine.exec` gives
every command a meaning, the well-formed ones the meaning of the spec. -/

namespace Sys2Proof

/-- An address a register access can carry: 24 bits, word aligned (R101). -/
def addrOk (a : Nat) : Bool := decide (a < 2 ^ 24) && decide (a % 4 = 0)

/-- A requester number: a core, the loader, host SPI, Modbus, a KMP session; 0xFF stands for KMP in bare
mode (R109). -/
def requesterOk (r : Nat) : Bool :=
  decide (r ≤ 2) || decide (r = 0x10) || decide (r = 0x20) || (decide (0x40 ≤ r) && decide (r ≤ 0x47)) ||
    decide (r = 0xFF)

/-- A site time in nanoseconds: 48 bits of seconds (R152). -/
def timeOk (t : Nat) : Bool := decide (t < 2 ^ 48 * 1000000000)

/-- A number of `w` bits. -/
def fits (w n : Nat) : Bool := decide (n < 2 ^ w)

/-- A list no longer than `n`. -/
def lenOk {α : Type} (n : Nat) (l : List α) : Bool := decide (l.length ≤ n)

/-- Numbers of 64 bits: the samples, edges and cells an event brings. -/
def numsOk (l : List Nat) : Bool := l.all (fits 64)

/-- An element the reliability registers can name: a macro in 12 bits, a DRAM byte address in 40 (R453,
R459). -/
def elementOk : Element → Bool
  | .sram m => fits 12 m
  | .dramRow a => fits 40 a
  | .field _ => true
  | .aoMon _ => true
  | .lane _ => true
  | .valve _ => true
  | .fan _ => true
  | .sprin _ => true
  | .quad _ => true
  | .link _ => true
  | .core _ => true
  | .aon => true

/-- A tach level change within the range of a site time in µs (R379). -/
def levelOk (l : TachLevel) : Bool := fits 32 l.us && fits 68 l.stampUs

/-- A chopping run of a bank that exists, its on-fraction at most 1 (R374). -/
def chopOk (r : ChopRun) : Bool :=
  decide (r.bank < 12) && decide (r.d ≤ 4096) && fits 32 r.ma && fits 32 r.mv && fits 32 r.n

/-- A high-side run of a bank that exists (R374). -/
def hsOk (r : HsRun) : Bool := decide (r.bank < 12) && fits 32 r.ma && fits 32 r.us

/-- The operands of a command lie in their ranges. -/
def Instr.wellFormed : Instr → Bool
  | .estimateTick => true
  | .timeBroadcast => true
  | .setpointRequestDeliver _ => true
  | .readReply => true
  | .latchGroupRead req addr => requesterOk req && addrOk addr
  | .registerWrite req addr _ => requesterOk req && addrOk addr
  | .pfiBelowThreshold => true
  | .pfailAssert => true
  | .sluiceFlushDone _ => true
  | .sluiceLastWordDone => true
  | .sluiceMarkerWritten => true
  | .sluiceRestart => true
  | .railDip _ us => fits 32 us
  | .logicRailsGood => true
  | .powerOnReset _ => true
  | .powerStageRailChange _ mv => fits 32 mv
  | .externalReset _ => true
  | .testmodeAssert => true
  | .testRelease => true
  | .commandReset req => requesterOk req
  | .pllLocked => true
  | .planeRelease _ _ _ repaired => numsOk repaired
  | .pllLockLoss => true
  | .refLost => true
  | .lifeCounterSave => true
  | .gaugeUpdate _ => true
  | .caddyFirstPassDone _ => true
  | .caddySecondPassDone _ _ ms => fits 32 ms
  | .keyProgram req _ => requesterOk req
  | .keyRevoke req _ => requesterOk req
  | .caddySwap x => requesterOk x.req
  | .bodySwapResume _ => true
  | .mgmtFwRestartDone ms => fits 32 ms
  | .kmpHello src dg => fits 128 src && lenOk 65507 dg
  | .kmpBye src dg => fits 128 src && lenOk 65507 dg
  | .kmpRead src dg => fits 128 src && lenOk 65507 dg
  | .kmpWrite src dg => fits 128 src && lenOk 65507 dg
  | .kmpBlockRead src dg => fits 128 src && lenOk 65507 dg
  | .kmpLogRead src x => fits 128 src && lenOk 65507 x.dg
  | .kmpLogFreeze src dg => fits 128 src && lenOk 65507 dg
  | .kmpCupRead src dg => fits 128 src && lenOk 65507 dg
  | .kmpCaddyWrite src dg => fits 128 src && lenOk 65507 dg
  | .kmpSnapshotExport src dg => fits 128 src && lenOk 65507 dg
  | .kmpSnapshotImport src dg => fits 128 src && lenOk 65507 dg
  | .kmpHeartbeat src dg => fits 128 src && lenOk 65507 dg
  | .kmpSetTime src dg => fits 128 src && lenOk 65507 dg
  | .kmpData src x => fits 128 src && lenOk 65507 x.dg
  | .kmpAck src dg => fits 128 src && lenOk 65507 dg
  | .bulkDataSend _ => true
  | .bulkAckTimer _ => true
  | .bulkResendTimeout _ => true
  | .bulkAbandonTimeout _ => true
  | .kmpPendingTimeout _ => true
  | .kmpIdleTimeout _ => true
  | .kmpTagFailSecond => true
  | .frameForward _ frame => lenOk 65535 frame
  | .stormSecondEnd _ => true
  | .macAgeOut mac => fits 48 mac
  | .linkChange _ _ _ _ => true
  | .arpRequest _ _ target => fits 128 target
  | .echoRequest _ => true
  | .unservedPortSegment _ _ dport => fits 16 dport
  | .dhcpRenew lease => fits 32 lease
  | .dhcpLeaseLost => true
  | .addressProbeDone _ _ _ lease _ => fits 32 lease
  | .conflictRetry => true
  | .modbusConnect conn src => fits 16 conn && fits 128 src
  | .modbusIdleClose conn => fits 16 conn
  | .modbusReadHolding conn adu => fits 16 conn && lenOk 65541 adu
  | .modbusReadInput conn adu => fits 16 conn && lenOk 65541 adu
  | .modbusWriteSingle conn adu => fits 16 conn && lenOk 65541 adu
  | .modbusWriteMultiple conn adu => fits 16 conn && lenOk 65541 adu
  | .modbusReadWrite conn adu => fits 16 conn && lenOk 65541 adu
  | .clientPoll _ => true
  | .clientResponse _ pdu => lenOk 65535 pdu
  | .clientTransactionTimeout _ => true
  | .clientConnectionLost _ => true
  | .clientReconnect _ _ => true
  | .hspiRead _ _ clocks => fits 32 clocks
  | .hspiWrite _ _ clocks => fits 32 clocks
  | .hspiFetch _ _ clocks => fits 32 clocks
  | .heartbeat req _ => requesterOk req
  | .watchdogTrip => true
  | .ppsEdge _ t => timeOk t
  | .nmeaSentence text t => lenOk 82 text && timeOk t
  | .gnssLost => true
  | .holdoverExpire => true
  | .timeStepApply => true
  | .slewDone => true
  | .timeSetCmd req => requesterOk req
  | .gnssReceiverReset => true
  | .gnssSetupSend => true
  | .timeMark => true
  | .ptpAnnounceSend _ => true
  | .ptpSyncSend _ => true
  | .ptpDelayReq _ _ t => timeOk t
  | .ptpForeignAnnounce _ _ dataset => lenOk 16 dataset
  | .ptpAnnounceTimeout _ => true
  | .ppsOutEdge => true
  | .sprinCycleStart _ ma => fits 32 ma
  | .sprinReply _ rtt line last => fits 32 rtt && lenOk 1024 line && lenOk 2 last
  | .sprinReplyTimeout _ => true
  | .sprinAlarmFrame _ rtt line last => fits 32 rtt && lenOk 1024 line && lenOk 2 last
  | .sprinEnumPresence _ _ => true
  | .sprinSupplyTrip _ ma => fits 32 ma
  | .sprinSupplyRetry _ => true
  | .sprinBootDone _ => true
  | .sprinStuck _ => true
  | .sprinStuckEnd _ => true
  | .sprinReenumerate req _ => requesterOk req
  | .sprinPowerCycle req _ => requesterOk req
  | .sprinIdentify req _ _ => requesterOk req
  | .sprinNcmdGo req _ _ => requesterOk req
  | .sprinMinuteReport _ => true
  | .fieldSample _ _ y t => lenOk 6 y && timeOk t
  | .shuntOverload _ => true
  | .shuntReclose _ => true
  | .aoMonitorSample _ _ => true
  | .aoFaultEnter _ => true
  | .aoFaultClear _ => true
  | .pulseEdge _ _ dur5ns t => fits 32 dur5ns && timeOk t
  | .pulseTimeout _ => true
  | .pulseMinuteReport _ => true
  | .bodyStepReady _ => true
  | .tileDone _ tile bad q => fits 20 tile && numsOk bad && decide (q < 17)
  | .readingArrive anchor _ _ stamp => fits 32 anchor && timeOk stamp
  | .airflowSolveDue _ => true
  | .airflowSolveDone _ passes cycles ppm => fits 32 passes && fits 32 cycles && fits 32 ppm
  | .forecastRunStart _ => true
  | .forecastRunDone _ ms => fits 32 ms
  | .snapshotDue => true
  | .snapshotWriteDone _ => true
  | .bodyHold req _ => requesterOk req
  | .bodyResume req _ => requesterOk req
  | .coastRepublish _ => true
  | .coldSeed _ => true
  | .millCellRead req _ => requesterOk req
  | .millMinuteReport _ busy => fits 32 busy
  | .govSample _ _ => true
  | .govModeRequest req _ _ => requesterOk req
  | .govCoefWrite req _ _ _ => requesterOk req
  | .staleTimeout _ _ _ => true
  | .coastExpire _ _ => true
  | .testLimitExpire _ => true
  | .govMinuteReport _ => true
  | .cupArm req => requesterOk req
  | .cupStop req => requesterOk req
  | .cupClear req => requesterOk req
  | .cupAtTrigger => true
  | .cupInfCfgWrite req _ _ => requesterOk req
  | .valveTimed req _ _ _ => requesterOk req
  | .valveContinuous req _ _ => requesterOk req
  | .valveStop req _ _ => requesterOk req
  | .prearmEnd _ => true
  | .peakReached _ samples => numsOk samples
  | .peakTimeEnd _ samples => numsOk samples
  | .holdEnd _ => true
  | .releaseDone _ => true
  | .lingerEnd _ => true
  | .deferTimeout _ => true
  | .valveShortTrip _ => true
  | .probeDone _ dMin d ma mv => fits 32 dMin && fits 32 d.d && fits 32 ma && fits 32 mv
  | .dutyIntervalEnd _ => true
  | .valveStageError _ => true
  | .valveBankDisable req _ => requesterOk req
  | .valveBankEnable req _ => requesterOk req
  | .valveChannelDisable req _ => requesterOk req
  | .valveChannelEnable req _ => requesterOk req
  | .valveClearFault req _ => requesterOk req
  | .valveCqPop req _ _ => requesterOk req
  | .valveCqLossMinute _ => true
  | .stageBudgetCheck _ c60 c1 h60 h1 => c60.all chopOk && c1.all chopOk && h60.all hsOk && h1.all hsOk
  | .fanPeriodStart _ => true
  | .fanStartingEnd _ => true
  | .fanWindowStart _ => true
  | .tachEdge _ us stampUs => fits 32 us && fits 68 stampUs
  | .fanWindowEnd _ ma us => numsOk ma && fits 32 us
  | .fanRetryExpire _ => true
  | .fanBurstEnd _ levels ma ms => levels.all levelOk && numsOk ma && fits 32 ms
  | .fanShort _ => true
  | .fanLoopTick _ => true
  | .fanInputStale _ => true
  | .guardSample _ _ _ _ _ => true
  | .zoneDwellExpire _ _ => true
  | .haltGraceEnd _ flush => fits 32 flush.records
  | .thermalRestart => true
  | .panelBlankingSlot vf => fits 32 vf
  | .gainRecompute => true
  | .stressSave => true
  | .dispFbWrite req _ => requesterOk req
  | .dispCommitGo req _ => requesterOk req
  | .dispPanelOff req => requesterOk req
  | .dispWake req => requesterOk req
  | .dispClearCrack req => requesterOk req
  | .dispClearStress req => requesterOk req
  | .bindingHoldEnd => true
  | .dischargeDone => true
  | .crackCheck ohms => fits 32 ohms
  | .stripGo req _ => requesterOk req
  | .stripFrame => true
  | .stripMarkerDone => true
  | .stripWaitTimeout => true
  | .eventRecordSubmit _ _ _ _ _ _ _ => true
  | .pondRecordEntry => true
  | .logPageDue => true
  | .logPageProgrammed _ => true
  | .sectorEraseDone _ sector _ => decide (sector < 4096)
  | .logClear req _ => requesterOk req
  | .headraceEraseDone => true
  | .logFreezeSet req => requesterOk req
  | .logFreezeLift req => requesterOk req
  | .freezeTimeout => true
  | .syslogSend => true
  | .syslogSkipMinute => true
  | .gnssMinuteReport => true
  | .elementErrorDetected e home _ => elementOk e && elementOk home
  | .selfTestDone e home _ => elementOk e && elementOk home
  | .relHostTest req _ _ => requesterOk req
  | .lockstepMismatch tile => fits 20 tile
  | .lockstepTestDone _ _ => true
  | .lockstepReexecuteDone _ ns holdNs => fits 32 ns && fits 32 holdNs
  | .lockstepPlaceDone _ _ ns holdNs => fits 32 ns && fits 32 holdNs
  | .scrubStep _ => true
  | .eccHourReport => true
  | .bootSelfTestDone tested failed ms => fits 32 tested && failed.all elementOk && fits 32 ms
  | .pfiReturn => true
  | .v1p8Collapse => true
  | .valveProbeStart _ => true
  | .sprinPowerCycleEnd _ => true
  | .linkLocalFallback _ => true
  | .gnssResetRelease => true

end Sys2Proof
end

