-- ==== Sys2Proof/Tests/Slice0.lean ====
section
/-! SUPPORT. Tests of the model on single steps: ill-formed commands that the check refuses, small examples
computed by hand from the spec, and for every statement with hypotheses a state and operands that meet them. -/

namespace Sys2Proof.Tests

open Sys2Proof.Machine Sys2Proof.Machine.Reg


set_option Elab.async false
set_option linter.unusedVariables false
/-- A running module: the planes out of reset, an image loaded. -/
def up : State := { State.reset with
  pwr := { State.reset.pwr with rstCp := false, rstDp := false, rstMp := false, railsReady := true, rstOut := true }
  caddy := { State.reset.caddy with phase := 3 } }

/-! ### Ill-formed commands that the check refuses, one for each check -/

theorem test_wf_refuses_unaligned : (Instr.registerWrite 0 2 0).wellFormed = false := by decide
theorem test_wf_refuses_wide_address : (Instr.registerWrite 0 0x1000000 0).wellFormed = false := by decide
theorem test_wf_refuses_requester : (Instr.latchGroupRead 3 0).wellFormed = false := by decide
theorem test_wf_refuses_time : (Instr.ppsEdge false (2 ^ 48 * 1000000000)).wellFormed = false := by decide
theorem test_wf_refuses_number : (Instr.macAgeOut (2 ^ 48)).wellFormed = false := by decide
theorem test_wf_refuses_length : (Instr.sprinReply 0 0 [] [false, false, false]).wellFormed = false := by decide
theorem test_wf_refuses_numbers : (Instr.tileDone 0 0 [2 ^ 64] 0).wellFormed = false := by decide
theorem test_wf_refuses_element : (Instr.selfTestDone (.dramRow (2 ^ 40)) .aon false).wellFormed = false := by decide
theorem test_wf_refuses_chop_run : (Instr.stageBudgetCheck 0 [⟨12, 0, 0, 0, 0⟩] [] [] []).wellFormed = false := by decide
theorem test_wf_refuses_hs_run : (Instr.stageBudgetCheck 0 [] [] [⟨12, 0, 0⟩] []).wellFormed = false := by decide
theorem test_wf_accepts_write : (Instr.registerWrite 0x40 0x00001C 7).wellFormed = true := by decide

/-! ### Single steps, with results written out by hand from the spec -/

/-- A write of SYS_SCRATCH by host SPI is kept (R106, R114). -/
theorem test_scratch_write :
    (match exec (.registerWrite 0x10 SYS_SCRATCH 0xA5A5A5A5) up with | .next t => t.reg SYS_SCRATCH | _ => 0) = 0xA5A5A5A5 := by
  decide +kernel

/-- A read of an address outside every window counts one violation and answers 0 (R106). -/
theorem test_unmapped_read :
    (match exec (.latchGroupRead 0x10 0xFFFFFC) up with
      | .next t => (t.get SYS_VIOL_COUNT_TOTAL, t.out) | _ => (0, [])) = (1, [.reply 0x10 0]) := by decide +kernel

/-- PFAIL with the planes running starts the sluice in its step 3 (R65). -/
theorem test_pfail_starts_sluice :
    (match exec .pfailAssert { up with pwr := { up.pwr with pfiBelow := true } } with
      | .next t => t.pwr.sluice.map (·.step) | _ => none) = some 3 := by decide +kernel

/-- With no command waiting a step moves the operating time by one count (R79). -/
theorem test_idle_counts : (match step up with | .next t => t.optime | _ => 0) = up.optime + 1 := by decide +kernel


/-- States and operands that meet the hypotheses of `Obligations.StepRunsFront`, clause by clause. -/
theorem wit_StepRunsFront :
    (∃ (c : Instr) (q : List Instr) (s : State),
    (s.pending = c :: q)) ∧
    (∃ (s : State),
    (s.pending = []) ∧ (s.pwr.collapsed = false)) ∧
    (∃ (s : State),
    (s.pending = []) ∧ (s.pwr.collapsed = true)) :=
  ⟨⟨.timeMark, [.slewDone], { up with pending := [.timeMark, .slewDone] }, by decide +kernel⟩,
   ⟨up, by decide +kernel⟩,
   ⟨{ up with pwr := { up.pwr with collapsed := true } }, by decide +kernel⟩⟩

/-- States and operands that meet the hypotheses of `Obligations.StepKeepsGood`, clause by clause. -/
theorem wit_StepKeepsGood :
    (∃ (s : State),
    (s.Good)) :=
  ⟨State.reset, State.reset_good⟩

/-- Fan 1 in a state with a window open. -/
def fanIn (st : Nat) : State :=
  { ((up.put (FAN_STATUS_STATE 1) st).put (FAN_CFG_PPR 1) 1).putB PWR_STATUS_VFAN_OK true with
    fans := [(1, { window := true })] }

/-- States and operands that meet the hypotheses of `Obligations.FanSwitching`, clause by clause. -/
theorem wit_FanSwitching :
    (∃ (f : Fin 16) (d : Nat × Nat) (s : State),
    (s.cpUp = true) ∧ (d = (s.fanSupplied f).fanDrive f)) ∧
    (∃ (f : Fin 16) (s : State),
    (s.cpUp = false)) ∧
    (∃ (f : Fin 16) (s : State),
    (s.fst f = 2)) ∧
    (∃ (f : Fin 16) (s : State),
    (s.fst f ≠ 2)) :=
  ⟨⟨1, ((fanIn 3).fanSupplied 1).fanDrive 1, fanIn 3, by decide +kernel⟩,
   ⟨0, State.reset, by decide +kernel⟩,
   ⟨1, fanIn 2, by decide +kernel⟩,
   ⟨1, fanIn 3, by decide +kernel⟩⟩

/-- States and operands that meet the hypotheses of `Obligations.FanWindows`, clause by clause. -/
theorem wit_FanWindows :
    (∃ (f : Fin 16) (s : State),
    ((s.fst f = 3 ∨ s.fst f = 4 ∨ s.fst f = 8)) ∧ (s.on PWR_STATUS_VFAN_OK = true) ∧ (s.fanFenced f = false) ∧ (s.fansHeld = false) ∧ (s.fansBoot = false)) ∧
    (∃ (f : Fin 16) (s : State),
    ((s.fst f = 1 ∨ s.fst f = 2 ∨ s.fst f = 5 ∨ s.fst f = 7 ∨ s.fst f = 9))) ∧
    (∃ (f : Fin 16) (us : Nat) (stamp : Nat) (s : State),
    ((s.fan f).window = true) ∧ (50 ≤ us) ∧ ((s.fan f).edges.length < 4)) ∧
    (∃ (f : Fin 16) (us : Nat) (stamp : Nat) (s : State),
    (us < 50)) :=
  ⟨⟨1, fanIn 8, by decide +kernel⟩,
   ⟨1, fanIn 9, by decide +kernel⟩,
   ⟨1, 50, 7, fanIn 3, by decide +kernel⟩,
   ⟨1, 49, 7, fanIn 3, by decide +kernel⟩⟩

/-- States and operands that meet the hypotheses of `Obligations.FanVerdicts`, clause by clause. -/
theorem wit_FanVerdicts :
    (∃ (f : Fin 16) (ma : List Nat) (us : Nat) (s : State),
    ((s.fan f).window = true) ∧ (s.fst f = 3) ∧ ((s.fan f).run = 0) ∧ (s.get (FAN_CFG_PPR f) ≠ 0) ∧ ((us = 120000 ∧ 2 ≤ (s.fan f).edges.length ∨ us < 120000 ∧ (s.fan f).edges.length = 4))) ∧
    (∃ (f : Fin 16) (ma : List Nat) (s : State),
    ((s.fan f).window = true) ∧ (s.fst f = 3) ∧ ((s.fan f).run = 0) ∧ ((s.fan f).edges = []) ∧ ((meanCurrent ma).1 < 50 * (meanCurrent ma).2) ∧ (Room s portFan)) ∧
    (∃ (f : Fin 16) (ma : List Nat) (s : State),
    ((s.fan f).window = true) ∧ (s.fst f = 3) ∧ ((s.fan f).run = 0) ∧ ((s.fan f).edges = []) ∧ (s.get (FAN_CFG_PPR f) ≠ 0) ∧ (50 * (meanCurrent ma).2 ≤ (meanCurrent ma).1) ∧ (4 ≤ rippleDips ma) ∧ (Room s portFan)) ∧
    (∃ (f : Fin 16) (ma : List Nat) (s : State),
    ((s.fan f).window = true) ∧ (s.fst f = 3) ∧ ((s.fan f).run = 0) ∧ ((s.fan f).edges = []) ∧ (50 * (meanCurrent ma).2 ≤ (meanCurrent ma).1) ∧ (rippleDips ma < 4) ∧ (s.fansHeld = false) ∧ (s.fansBoot = false) ∧ (s.fanFenced f = false) ∧ (Room s portFan)) :=
  ⟨⟨1, [70000, 70000], 120000, (fanIn 3).setFan 1 { window := true, edges := [1000000, 2000000] }, by decide +kernel⟩,
   ⟨1, [49, 50, 48], fanIn 3, by decide +kernel⟩,
   ⟨1, [100, 120, 80, 120, 80, 120, 80, 120, 80, 100], fanIn 3, by decide +kernel⟩,
   ⟨1, [50, 50], fanIn 3, by decide +kernel⟩⟩

/-- States and operands that meet the hypotheses of `Obligations.FanRuns`, clause by clause. -/
theorem wit_FanRuns :
    (∃ (f : Fin 16) (s : State),
    ((s.fst f = 5 ∨ s.fst f = 7)) ∧ (s.fansHeld = false) ∧ (s.fansBoot = false) ∧ (s.fanFenced f = false)) ∧
    (∃ (f : Fin 16) (ma : List Nat) (s : State),
    (s.fst f = 6) ∧ ((s.fan f).run = 1) ∧ (50 * (meanCurrent ma).2 ≤ (meanCurrent ma).1) ∧ (rippleDips ma < 4) ∧ (s.on GUARD_STATUS_FANS_FORCED = false)) ∧
    (∃ (f : Fin 16) (levels : List TachLevel) (ma : List Nat) (s : State),
    (s.fst f = 6) ∧ ((s.fan f).run ≠ 0) ∧ (s.get (FAN_CFG_PPR f) ≠ 0) ∧ (2 ≤ (acceptedEdges levels).length) ∧ ((s.fan f).table = []) ∧ (s.on GUARD_STATUS_FANS_FORCED = false) ∧ (Room s portFan)) ∧
    (∃ (f : Fin 16) (s : State),
    (s.fst f ≠ 9) ∧ (s.fst f ≠ 5) ∧ (s.fst f ≠ 7) ∧ (s.fanFenced f = false) ∧ ((s.fan f).run = 0) ∧ (s.fansHeld = false) ∧ (s.fansBoot = false) ∧ (Room s portFan)) :=
  ⟨⟨1, fanIn 5, by decide +kernel⟩,
   ⟨1, [50], (fanIn 6).setFan 1 { run := 1 }, by decide +kernel⟩,
   ⟨1, [⟨50, 5⟩, ⟨49, 7⟩, ⟨60, 9⟩], [0], (fanIn 6).setFan 1 { run := 1 }, by decide +kernel⟩,
   ⟨1, fanIn 3, by decide +kernel⟩⟩

/-- States and operands that meet the hypotheses of `Obligations.FanLoop`, clause by clause. -/
theorem wit_FanLoop :
    (∃ (f : Fin 16) (s : State),
    (s.get (FAN_CFG_MODE f) = 1) ∧ (s.get (FAN_STATUS_STALE f) = 0) ∧ (Room s portFan)) ∧
    (∃ (f : Fin 16) (s : State),
    (s.get (FAN_CFG_MODE f) = 1) ∧ (s.get (FAN_STATUS_STALE f) = 1) ∧ (entryUsable (s.estWord (s.get (FAN_LOOP_ENTRY f)) 0) (s.estWord (s.get (FAN_LOOP_ENTRY f)) 3) = false)) ∧
    (∃ (f : Fin 16) (s : State),
    (s.get (FAN_CFG_MODE f) = 1) ∧ (s.get (FAN_STATUS_STALE f) = 0) ∧ ((s.fan f).vstale = false) ∧ (s.on (FAN_CFG_REVERSE f) = false) ∧ (entryUsable (s.estWord (s.get (FAN_LOOP_ENTRY f)) 0) (s.estWord (s.get (FAN_LOOP_ENTRY f)) 3) = true) ∧ (fIsNaN (fadd (fmul (s.reg (FAN_KP f)) (fsub (s.estWord (s.get (FAN_LOOP_ENTRY f)) 0) (s.reg (FAN_SP f))))
      (s.fan f).integ) = false)) ∧
    (∃ (f : Fin 16) (s : State),
    (s.get (FAN_CFG_MODE f) ≠ 1)) :=
  ⟨⟨1, (fanIn 3).put (FAN_CFG_MODE 1) 1, by decide +kernel⟩,
   ⟨1, ((fanIn 3).put (FAN_CFG_MODE 1) 1).put (FAN_STATUS_STALE 1) 1, by decide +kernel⟩,
   ⟨1, { (fanIn 3).put (FAN_CFG_MODE 1) 1 with est := { front := [(0, 0x41200000), (3, 0x80000000)] } }, by decide +kernel⟩,
   ⟨1, fanIn 3, by decide +kernel⟩⟩

/-- A read by requester 1 of the always-on block's clock register. -/
def clockRead : LeatReq := { requester := 1, addr := PWR_CLK_STATUS, txn := 5, idx := 0 }

/-- States and operands that meet the hypotheses of `Obligations.LeatTick`, clause by clause. -/
theorem wit_LeatTick :
    (∃ (s : State),
    (s.mpUp = true) ∧ (s.dpUp = true) ∧ (s.guard.halted = false)) ∧
    (∃ (s : State),
    (s.mpUp = true) ∧ (s.dpUp = false)) ∧
    (∃ (s : State),
    (s.mpUp = false)) :=
  ⟨⟨{ up with est := { back := [(4, 7), (8, 9)], front := [(8, 1)], written := [1] } }, by decide +kernel⟩,
   ⟨{ up with pwr := { up.pwr with rstDp := true } }, by decide +kernel⟩,
   ⟨State.reset, by decide +kernel⟩⟩

/-- States and operands that meet the hypotheses of `Obligations.LeatService`, clause by clause. -/
theorem wit_LeatService :
    (∃ (d : Bool) (s : State) (req : Nat) (a : Nat) (txn : Nat) (idx : Nat) (rest : List LeatReq),
    (s.mpUp = true) ∧ (s.armWaits d = false) ∧ (s.arm d = { requester := req, addr := a, txn := txn, idx := idx } :: rest) ∧ (s.fab.held = []) ∧ (s.inReset (planeOf a) = false) ∧ (mapped a = true) ∧ (latchMembers a = []) ∧ (s.captured req a = none)) ∧
    (∃ (d : Bool) (s : State),
    (s.arm d = [])) ∧
    (∃ (s : State) (r : LeatReply) (rest : List LeatReply) (h : HspiRead),
    (s.fab.replies = r :: rest) ∧ (s.fab.txns = [{ id := r.txn, requester := 0x10, kind := .hspi, need := 1 }]) ∧ (r.idx = 0) ∧ (s.net.hspi = some h) ∧ (s.net.mbQueue = [])) ∧
    (∃ (s : State),
    (s.fab.replies = [])) :=
  ⟨⟨false, { up with fab := { up.fab with ctl := [clockRead, clockRead] } }, 1, PWR_CLK_STATUS, 5, 0, [clockRead], by decide +kernel⟩,
   ⟨true, up, by decide +kernel⟩,
   ⟨{ up with fab := { up.fab with replies := [{ requester := 0x10, addr := 0, txn := 5, idx := 0, value := 9 }], txns := [{ id := 5, requester := 0x10, kind := .hspi, need := 1 }] }, net := { up.net with hspi := some { tag := 3, addr := 0 } } }, { requester := 0x10, addr := 0, txn := 5, idx := 0, value := 9 }, [], { tag := 3, addr := 0 }, by decide +kernel⟩,
   ⟨up, by decide +kernel⟩⟩

/-- States and operands that meet the hypotheses of `Obligations.FabricAccess`, clause by clause. -/
theorem wit_FabricAccess :
    (∃ (req : Nat) (a : Nat) (s : State),
    (s.mpUp = true) ∧ (mapped a = true) ∧ (s.inReset (planeOf a) = false) ∧ (latchMembers a ≠ []) ∧ (s.loading = false) ∧ (s.waitsBehind a = false)) ∧
    (∃ (req : Nat) (a : Nat) (w : Word) (s : State),
    (s.mpUp = true) ∧ (mapped a = true) ∧ (s.inReset (planeOf a) = false) ∧ (latchMembers a = []) ∧ (s.captured req a = some w) ∧ (s.loading = false) ∧ (s.waitsBehind a = false)) ∧
    (∃ (req : Nat) (a : Nat) (s : State),
    (s.mpUp = true) ∧ (mapped a = false) ∧ (s.loading = false) ∧ (s.waitsBehind a = false)) ∧
    (∃ (req : Nat) (a : Nat) (v : Word) (r : RegRow) (s : State),
    (Writes s req a v) ∧ (rowOf a = some r) ∧ (a ∉ tableRegs) ∧ (a ≠ CADDY_SWAP_CMD) ∧ ((∀ (u : State) (old : Word), u.effect req a old v = u))) ∧
    (∃ (req : Nat) (a : Nat) (v : Word) (s : State),
    (s.mpUp = true) ∧ (s.loading = false) ∧ (s.waitsBehind a = true)) ∧
    (∃ (req : Nat) (a : Nat) (v : Word) (s : State),
    (s.mpUp = true) ∧ (s.loading = true) ∧ (req ≠ 2)) ∧
    (∃ (req : Nat) (a : Nat) (v : Word) (s : State),
    (s.mpUp = true) ∧ ((s.loading = false ∨ req = 2)) ∧ (s.waitsBehind a = false) ∧ (s.writeOk req a v = false)) :=
  ⟨⟨0x10, SYS_UID_LO, { up with nv := { up.nv with uid := 0x123456789AB } }, by decide +kernel⟩,
   ⟨0x10, SYS_UID_HI, 0x55, { up with fab := { up.fab with caps := [(0x10 * 2 ^ 24 + SYS_UID_HI, 0x55)] } }, by decide +kernel⟩,
   ⟨0x10, 0xFFFFFC, up, by decide +kernel⟩,
   ⟨0x10, SYS_SCRATCH, 7, { base := 0x00001c, rw := 0xffffffff }, up, by decide +kernel, by decide +kernel, by decide +kernel, by decide +kernel, fun _ _ => rfl⟩,
   ⟨0, MILL_BODY_CFG 3, 7, { up with fab := { up.fab with dat := [clockRead] } }, by decide +kernel⟩,
   ⟨0x40, SYS_SCRATCH, 7, { up with caddy := { up.caddy with phase := 2 } }, by decide +kernel⟩,
   ⟨2, SYS_ID, 7, up, by decide +kernel⟩⟩

/-- A module that is out of power: its input has failed. -/
def failing : State := { up with pwr := { up.pwr with pfiBelow := true } }
/-- A sluice in step `n`. -/
def sluiceAt (n : Nat) (cmd : Bool) : State := { up with pwr := { up.pwr with sluice := some { cmd := cmd, step := n } } }
def sluiceRun : WaveRun :=
  { kind := 1, band := 0, wave := { frames := 1 }, marking := false, ending := true, fromSegs := 0, toSegs := 1 }
/-- A strip that can show its last word: a sluice in step 3 after a power failure. -/
def lastWordAt (halted : Bool) : State :=
  { (((up.putB DISP_STRIP_CFG_PRESENT true).putB PWR_STATUS_GAUGE_VALID true).put PWR_GAUGE_ENERGY_MJ 60000) with
    disp := { up.disp with assets := true }
    pwr := { up.pwr with sluice := some { cmd := false, step := 3, pfailInTime := true, halted := halted } } }

/-- States and operands that meet the hypotheses of `Obligations.SupplyMonitor`, clause by clause. -/
theorem wit_SupplyMonitor :
    (∃ (s : State),
    (s.aonUp = true)) ∧
    (∃ (s : State),
    (s.on PWR_STATUS_PFAIL = false)) ∧
    (∃ (s : State),
    (s.on PWR_STATUS_PFAIL = true)) ∧
    (∃ (s : State),
    (s.aonUp = true)) ∧
    (∃ (r : Fin 5) (us : Nat) (s : State),
    (s.aonUp = true) ∧ (5 < us) ∧ (s.planesHeld = false) ∧ (s.pwr.sluice = none) ∧ (s.pwr.sluiceDone = false) ∧ (Room s portAon)) ∧
    (∃ (r : Fin 5) (us : Nat) (s : State),
    (us ≤ 5)) :=
  ⟨⟨up, by decide +kernel⟩,
   ⟨failing, by decide +kernel⟩,
   ⟨up.putB PWR_STATUS_PFAIL true, by decide +kernel⟩,
   ⟨up, by decide +kernel⟩,
   ⟨4, 6, up.putB PWR_STATUS_LOGIC_RAILS_OK true, by decide +kernel⟩,
   ⟨4, 5, up, by decide +kernel⟩⟩

/-- States and operands that meet the hypotheses of `Obligations.SluiceSteps`, clause by clause. -/
theorem wit_SluiceSteps :
    (∃ (s : State),
    (s.aonUp = true) ∧ (s.pwr.pfiBelow = true) ∧ (s.on PWR_STATUS_PFAIL = false) ∧ (s.pwr.rstMp = false) ∧ (s.pwr.sluice = none)) ∧
    (∃ (s : State),
    (s.aonUp = true) ∧ (s.pwr.pfiBelow = true) ∧ (s.on PWR_STATUS_PFAIL = false) ∧ (s.pwr.rstMp = true) ∧ (s.pwr.sluiceDone = false) ∧ (Room s portAon)) ∧
    (∃ (s : State) (q : Sluice),
    (s.aonUp = true) ∧ (s.pwr.pfiBelow = true) ∧ (s.on PWR_STATUS_PFAIL = false) ∧ (s.pwr.rstMp = false) ∧ (s.pwr.sluice = some q)) ∧
    (∃ (s : State) (q : Sluice) (u : FlushRun),
    (s.pwr.sluice = some q) ∧ (q.step = 3) ∧ (q.pfailInTime = false)) ∧
    (∃ (s : State) (q : Sluice) (u : FlushRun),
    (s.pwr.sluice = some q) ∧ (q.step = 3) ∧ (q.pfailInTime = true) ∧ ((s.flushAll u.bad).stripUsed = true) ∧ (q.halted = false) ∧ ((s.flushAll u.bad).strip.clear = 0) ∧ ((s.flushAll u.bad).lastWordAdmits (s.flushAll u.bad).stripBand.1 = true)) ∧
    (∃ (s : State) (q : Sluice) (u : FlushRun),
    (s.pwr.sluice = some q) ∧ (q.step = 3) ∧ (q.pfailInTime = true) ∧ ((s.flushAll u.bad).stripUsed = true) ∧ ((q.halted = true ∨ (s.flushAll u.bad).strip.clear ≠ 0 ∨ (s.flushAll u.bad).lastWordAdmits (s.flushAll u.bad).stripBand.1 = false))) ∧
    (∃ (s : State) (q : Sluice) (r : WaveRun),
    (s.pwr.sluice = some q) ∧ (q.step = 4) ∧ (s.strip.lastWord = none) ∧ (s.strip.run = some r) ∧ (r.kind = 1) ∧ (r.ending = true)) ∧
    (∃ (s : State) (q : Sluice),
    (s.pwr.sluice = some q) ∧ (q.step = 4) ∧ (s.strip.lastWord = none) ∧ (s.strip.run = none)) ∧
    (∃ (s : State) (q : Sluice),
    (s.pwr.sluice = some q) ∧ (q.step = 5) ∧ (q.cmd = false) ∧ (s.stripRuns q = false)) ∧
    (∃ (s : State) (q : Sluice),
    (s.pwr.sluice = some q) ∧ (s.stripRuns q = true)) ∧
    (∃ (s : State) (q : Sluice),
    (s.pwr.sluice = some q) ∧ (q.step = 5) ∧ (q.cmd = true) ∧ (s.pwr.sluiceDone = false)) ∧
    (∃ (s : State),
    (s.pwr.sluice = none)) :=
  ⟨⟨failing, by decide +kernel⟩,
   ⟨{ failing with pwr := { failing.pwr with rstMp := true } }, by decide +kernel⟩,
   ⟨{ (sluiceAt 3 true) with pwr := { (sluiceAt 3 true).pwr with pfiBelow := true } }, { cmd := true, step := 3 }, by decide +kernel⟩,
   ⟨sluiceAt 3 true, { cmd := true, step := 3 }, { time10us := 7, bad := 1 }, by decide +kernel⟩,
   ⟨lastWordAt false, { cmd := false, step := 3, pfailInTime := true }, { time10us := 7, bad := 0 }, by decide +kernel⟩,
   ⟨lastWordAt true, { cmd := false, step := 3, pfailInTime := true, halted := true }, { time10us := 7, bad := 0 }, by decide +kernel⟩,
   ⟨{ sluiceAt 4 false with strip := { up.strip with run := some sluiceRun } }, { cmd := false, step := 4 }, sluiceRun, by decide +kernel⟩,
   ⟨sluiceAt 4 false, { cmd := false, step := 4 }, by decide +kernel⟩,
   ⟨sluiceAt 5 false, { cmd := false, step := 5 }, by decide +kernel⟩,
   ⟨{ sluiceAt 5 false with strip := { up.strip with run := some { sluiceRun with kind := 2 } } }, { cmd := false, step := 5 }, by decide +kernel⟩,
   ⟨sluiceAt 5 true, { cmd := true, step := 5 }, by decide +kernel⟩,
   ⟨up, by decide +kernel⟩⟩

/-- States and operands that meet the hypotheses of `Obligations.Resets`, clause by clause. -/
theorem wit_Resets :
    (∃ (s : State),
    (s.aonUp = true) ∧ (s.pwr.sluiceDone = true) ∧ (s.guard.halted = false)) ∧
    (∃ (req : Nat) (s : State),
    (Writes s req PWR_RESET_CMD 0xB0070000)) ∧
    (∃ (st : BitVec 3) (s : State),
    (s.aonUp = true) ∧ (s.heldDown = false) ∧ (s.pwr.sluice = none)) ∧
    (∃ (st : BitVec 3) (s : State),
    (s.aonUp = true) ∧ (s.heldDown = true)) ∧
    (∃ (s : State),
    (s.pwr.testmode = false)) ∧
    (∃ (s : State),
    (s.pwr.testmode = true) ∧ (s.heldDown = false)) ∧
    (∃ (s : State),
    (s.pwr.testmode = false)) :=
  ⟨⟨{ State.reset with pwr := { State.reset.pwr with sluiceDone := true, pfiBelow := true } }, by decide +kernel⟩,
   ⟨0x10, up, by decide +kernel⟩,
   ⟨5, up, by decide +kernel⟩,
   ⟨5, { State.reset with pwr := { State.reset.pwr with sluiceDone := true } }, by decide +kernel⟩,
   ⟨up, by decide +kernel⟩,
   ⟨{ up with pwr := { up.pwr with testmode := true } }, by decide +kernel⟩,
   ⟨up, by decide +kernel⟩⟩

/-- States and operands that meet the hypotheses of `Obligations.ClocksAndRails`, clause by clause. -/
theorem wit_ClocksAndRails :
    (∃ (s : State),
    (s.aonUp = true) ∧ (s.pwr.railsReady = true) ∧ (s.heldDown = false)) ∧
    (∃ (s : State),
    (s.on PWR_CLK_STATUS_PLL_LOCK = true) ∧ (s.planesHeld = false) ∧ (s.pwr.sluice = none) ∧ (s.pwr.sluiceDone = false)) ∧
    (∃ (s : State),
    (s.on PWR_CLK_STATUS_PLL_LOCK = true) ∧ (s.planesHeld = true) ∧ (s.heldDown = false)) ∧
    (∃ (s : State),
    (s.on PWR_CLK_STATUS_PLL_LOCK = false)) ∧
    (∃ (s : State),
    (s.aonUp = true) ∧ ((s.pwr.straps % 4 = 1 ∨ s.pwr.straps % 4 = 2)) ∧ (s.pwr.refLeft = false) ∧ (Room s portAon)) ∧
    (∃ (s : State),
    ((s.aonUp = false ∨ s.pwr.refLeft = true ∨ s.pwr.straps % 4 = 0 ∨ s.pwr.straps % 4 = 3))) ∧
    (∃ (c : BitVec 12) (s : State),
    (s.aonUp = true) ∧ (s.on PWR_STATUS_GAUGE_VALID = true) ∧ (c.toNat * 125 * s.get PWR_HOLD_CFG2_SENSE_RATIO ≤ s.get PWR_HOLD_CFG_VMIN_100MV * 10 * 4096)) ∧
    (∃ (mv : Nat) (s : State),
    (s.aonUp = true) ∧ (s.on PWR_STATUS_VFAN_OK = true) ∧ (9000 ≤ mv)) ∧
    (∃ (mv : Nat) (s : State),
    (s.aonUp = true) ∧ (s.on PWR_STATUS_VFAN_OK = true) ∧ (mv < 9000) ∧ (s.cpUp = true)) ∧
    (∃ (mv : Nat) (s : State),
    (s.aonUp = true) ∧ (s.on PWR_STATUS_VFAN_OK = false) ∧ (9500 < mv) ∧ (s.cpUp = true)) :=
  ⟨⟨{ up with pwr := { up.pwr with straps := 1 } }, by decide +kernel⟩,
   ⟨up.putB PWR_CLK_STATUS_PLL_LOCK true, by decide +kernel⟩,
   ⟨State.reset.putB PWR_CLK_STATUS_PLL_LOCK true, by decide +kernel⟩,
   ⟨up, by decide +kernel⟩,
   ⟨{ up with pwr := { up.pwr with straps := 1 } }, by decide +kernel⟩,
   ⟨up, by decide +kernel⟩,
   ⟨0, up.putB PWR_STATUS_GAUGE_VALID true, by decide +kernel⟩,
   ⟨9000, up.putB PWR_STATUS_VFAN_OK true, by decide +kernel⟩,
   ⟨8999, (up.putB PWR_STATUS_VFAN_OK true).setFan 3 { window := true }, by decide +kernel⟩,
   ⟨9501, up.put (FAN_STATUS_STATE 2) 9, by decide +kernel⟩⟩

/-- The planes about to leave reset, with the straps `st`. -/
def ready (st : Nat) : State :=
  { State.reset.putB PWR_CLK_STATUS_PLL_LOCK true with
    pwr := { State.reset.pwr with railsReady := true, straps := st } }
/-- Slot 0 of the flash holds a message of 64 bytes, signed by the key of the neutral point. -/
def signed : List (Nat × Byte) :=
  [(8, 192), (9, 0), (10, 0), (11, 0), (72, 1)] ++ (List.range 31).map (fun i => (73 + i, (0 : Byte))) ++
    [(104, 1)] ++ (List.range 63).map (fun i => (105 + i, (0 : Byte)))
/-- The loader in a pass over a slot. -/
def loadingIn (ph : Nat) (fb : Bool) : State :=
  { up with
    caddy := { up.caddy with phase := ph, fallback := fb }
    nv := { up.nv with flash := signed } }
/-- An image with no section and a message of no bytes in slot 0. -/
def emptyIn (fb : Bool) : State :=
  { up with
    caddy := { up.caddy with phase := 2, fallback := fb, firstHash := sha256 [] }
    nv := { up.nv with flash := [(6, 0), (7, 0), (8, 128), (9, 0), (10, 0), (11, 0)] } }
/-- An image of five empty sections with sequence number `d`: those every image has, and a geometry of body 3 of
TYPE_VERSION `d`. -/
def image (d : Byte) : List Byte :=
  let head : List Byte := [0x4B, 0x44, 0x43, 0x59, 1, 0, 5, 0, 0x60, 1, 0, 0, d, 0, 0, 0, 0x01, 0x0A] ++ List.replicate 42 0
  let entry (ty inst v : Byte) : List Byte := [ty, inst, v, 0, 224, 0, 0, 0] ++ List.replicate 8 0 ++ emptyDigest
  head ++ leBytes 4 (crc32 head) ++ entry 1 255 1 ++ entry 2 255 1 ++ entry 6 255 1 ++ entry 9 255 1 ++ entry 5 3 d ++
    [0x4B, 0x44, 0x53, 0x47, 0, 0, 0, 0, 1] ++ List.replicate 31 0 ++ [1] ++ List.replicate 87 0
/-- Slot 1 is newer, and its geometry of body 3 differs. -/
def twoImages : List (Nat × Byte) :=
  (image 1).zipIdx.map (fun p => (p.2, p.1)) ++ (image 2).zipIdx.map (fun p => (0x4000000 + p.2, p.1))
/-- The hash of the key of the neutral point, in key slot 0. -/
def neutralHash : List (Nat × Word) :=
  let h := sha256 ([1] ++ List.replicate 31 0)
  (List.range 8).map (fun i => (i, BitVec.ofNat 32 (ofLe (slice (4 * i) 4 h))))
def swapIn (w : Option Swap) : State :=
  { (up.put (MILL_BODY_STATUS_STATE 3) 2).putB (MILL_BODY_CFG_PRESENT 3) true with
    caddy := { up.caddy with swap := w }
    nv := { up.nv with flash := twoImages, keyProg := 1, keyHash := neutralHash } }
def paused : Swap := { slot := 1, base := 0, changed := [(5, 4)], together := [3, 4], written := true }

/-- States and operands that meet the hypotheses of `Obligations.PlaneStart`, clause by clause. -/
theorem wit_PlaneStart :
    (∃ (octal : Bool) (badA : Fin 4) (badB : Fin 4) (rep : List Nat) (s : State),
    (s.releaseReady = true) ∧ (s.pwr.straps.testBit 2 = true) ∧ (s.fab.held = []) ∧ (s.fab.txns = []) ∧ (s.net.mbQueue = [])) ∧
    (∃ (octal : Bool) (badA : Fin 4) (badB : Fin 4) (rep : List Nat) (s : State),
    (s.releaseReady = true) ∧ (s.fab.held = []) ∧ (s.fab.txns = []) ∧ (s.net.mbQueue = [])) ∧
    (∃ (octal : Bool) (badA : Fin 4) (badB : Fin 4) (rep : List Nat) (s : State),
    (s.releaseReady = false) ∧ (s.caddy.phase ≠ 4) ∧ (s.fab.txns = []) ∧ (s.net.mbQueue = [])) :=
  ⟨⟨true, 0, 0, [], ready 4, by decide +kernel⟩,
   ⟨true, 0, 3, [], ready 0, by decide +kernel⟩,
   ⟨true, 0, 0, [], up, by decide +kernel⟩⟩

/-- States and operands that meet the hypotheses of `Obligations.CaddyLoad`, clause by clause. -/
theorem wit_CaddyLoad :
    (∃ (s : State),
    (s.mpUp = true) ∧ (s.caddy.phase = 1) ∧ (s.sigReason s.caddy.slot = 0) ∧ (s.fab.txns = []) ∧ (s.net.mbQueue = [])) ∧
    (∃ (readErr : Bool) (s : State),
    (s.mpUp = true) ∧ (s.caddy.phase = 1) ∧ ((readErr = true ∨ s.sigReason s.caddy.slot ≠ 0)) ∧ (s.caddy.fallback = true) ∧ (s.fab.txns = []) ∧ (s.net.mbQueue = []) ∧ (s.fab.held = [])) ∧
    (∃ (ms : Nat) (s : State) (u : State),
    (s.mpUp = true) ∧ (s.caddy.phase = 2) ∧ (loadSections s.caddy.slot (sortBy loadKey (s.imgSections s.caddy.slot)) s = (u, true)) ∧ (u.setsOk = true) ∧ (sha256 (s.imgMessage s.caddy.slot) = s.caddy.firstHash) ∧ ((s.imgSections s.caddy.slot).all (s.digestOk s.caddy.slot) = true) ∧ (u.fab.held = []) ∧ (u.fab.txns = []) ∧ (u.net.mbQueue = [])) ∧
    (∃ (altered : Bool) (readErr : Bool) (ok : Bool) (ms : Nat) (s : State) (u : State),
    (s.mpUp = true) ∧ (s.caddy.phase = 2) ∧ ((altered = true ∨ readErr = true)) ∧ (loadSections s.caddy.slot (sortBy loadKey (s.imgSections s.caddy.slot)) s = (u, ok)) ∧ (s.caddy.fallback = true) ∧ (u.caddy = s.caddy) ∧ (u.fab.held = []) ∧ (u.fab.txns = []) ∧ (u.net.mbQueue = [])) ∧
    (∃ (req : Nat) (k : Fin 4) (s : State),
    (Writes s req CADDY_KEY_CTRL (0x0F7B0000 + BitVec.ofNat 32 (256 * k.val))) ∧ (Room s portCaddy)) ∧
    (∃ (req : Nat) (k : Fin 4) (s : State),
    (Writes s req CADDY_KEY_CTRL (0x4E7F0000 + BitVec.ofNat 32 (256 * k.val))) ∧ (Room s portCaddy)) :=
  ⟨⟨loadingIn 1 false, by decide +kernel⟩,
   ⟨true, loadingIn 1 true, by decide +kernel⟩,
   ⟨9, emptyIn false, emptyIn false, by decide +kernel⟩,
   ⟨true, false, true, 9, emptyIn true, emptyIn true, by decide +kernel⟩,
   ⟨0x10, 3, up, by decide +kernel⟩,
   ⟨0x10, 0, { up with nv := { up.nv with keyProg := 3 } }, by decide +kernel⟩⟩

/-- States and operands that meet the hypotheses of `Obligations.CaddySwaps`, clause by clause. -/
theorem wit_CaddySwaps :
    (∃ (req : Nat) (octal : Bool) (badA : Fin 4) (badB : Fin 4) (k : Fin 16) (s : State),
    (Writes s req CADDY_SWAP_CMD 0x5C4D0000) ∧ (s.caddy.phase = 3) ∧ (s.caddy.swap = none) ∧ (s.caddy.writing = false) ∧ (s.slotValid (1 - s.caddy.slot) = true) ∧ ((s.flashFacts octal badA badB).slotReason (1 - s.caddy.slot) = 0) ∧ (s.imgSeq s.caddy.slot < s.imgSeq (1 - s.caddy.slot)) ∧ (k.val ∈ s.pausing (s.changedSections s.caddy.slot (1 - s.caddy.slot))) ∧ ((s.body k).run ≠ none) ∧ (s.caddy.swapPaused.contains k.val = false) ∧ (s.fab.txns = []) ∧ (s.net.mbQueue = [])) ∧
    (∃ (req : Nat) (octal : Bool) (badA : Fin 4) (badB : Fin 4) (w : Swap) (s : State),
    (Writes s req CADDY_SWAP_CMD 0x5C4D0000) ∧ (s.caddy.phase ≠ 4) ∧ (s.caddy.swap = some w) ∧ (s.fab.txns = []) ∧ (s.net.mbQueue = [])) ∧
    (∃ (req : Nat) (octal : Bool) (badA : Fin 4) (badB : Fin 4) (s : State),
    (Writes s req CADDY_SWAP_CMD 0x5C4D0000) ∧ (s.caddy.phase = 3) ∧ (s.caddy.swap = none) ∧ (s.slotValid (1 - s.caddy.slot) = false) ∧ (s.fab.txns = []) ∧ (s.net.mbQueue = [])) ∧
    (∃ (k : Fin 16) (j : Nat) (w : Swap) (s : State),
    (s.caddy.swap = some w) ∧ (w.written = true) ∧ (w.applied.contains (5, k.val) = false) ∧ (s.caddy.swapPaused = [k.val, j]) ∧ (j ≠ k) ∧ (s.net.xfers = []) ∧ ((s.body k).run = none) ∧ ((s.body k).rollTo = none) ∧ ((s.body k).late = []) ∧ ((s.body k).holdDue = false) ∧ ((s.body k).pauseDue = false) ∧ ((s.body k).heldOn = false)) ∧
    (∃ (k : Fin 16) (s : State),
    (s.caddy.swapPaused.contains k.val = false) ∧ (s.net.xfers = [])) ∧
    (∃ (ms : Nat) (s : State),
    (s.mpUp = true) ∧ (s.caddy.fwRestart = true) ∧ (s.caddy.swap = none) ∧ (s.fab.txns = []) ∧ (s.net.mbQueue = []) ∧ ((∀ m, m < 16 → s.on (NET_CLIENT_STATUS_CONNECTED m) = false)) ∧ (Room s portCaddy)) ∧
    (∃ (ms : Nat) (s : State),
    (s.caddy.fwRestart = false)) :=
  ⟨⟨0x41, true, 0, 0, 3, ((swapIn none).putB (CADDY_SLOT_STATUS_VALID 1) true).setBody 3 { run := some { te := 9, inputs := {}, tiles := [0], began := 0 } }, by decide +kernel⟩,
   ⟨0x41, true, 0, 0, paused, swapIn (some paused), by decide +kernel⟩,
   ⟨0x41, true, 0, 0, swapIn none, by decide +kernel⟩,
   ⟨3, 4, paused, { up with caddy := { up.caddy with swap := some paused, swapPaused := [3, 4] } }, by decide +kernel⟩,
   ⟨3, up, by decide +kernel⟩,
   ⟨5, { up with caddy := { up.caddy with fwRestart := true } }, by decide +kernel⟩,
   ⟨5, up, by decide +kernel⟩⟩

/-- A client's datagram: OP, SESSION, COUNTER and body, with its tag as a number. -/
def dgram (op sess ctr : Nat) (body : List Byte) (tag : Nat) : List Byte :=
  let b := [0x01, BitVec.ofNat 8 op, BitVec.ofNat 8 sess, 0x00] ++ leBytes 8 ctr ++ leBytes 2 body.length ++ [0, 0] ++ body
  b ++ beBytes 16 tag
def parsed (dg : List Byte) : Kmp :=
  match kmpParse dg with
  | some m => m
  | none => { ver := 0, op := 0, sess := 0, reply := false, ctr := 0, body := [], signed := [], tag := [] }
/-- Session 2 is open, with a key of one byte. -/
def sessKey : List Byte := [9]
def open2 : State :=
  (({ up with net := { up.net with keys := [([7], true)] } }.putB (NET_SESSION_OPEN 2) true).putB NET_STATUS_IP4_OK true).setSession 2 { key := sessKey }
def opens (l : List Nat) : State := l.foldl (fun s n => s.putB (NET_SESSION_OPEN n) true) open2
def may2 : State := open2.putB (NET_SESSION_OPERATE 2) true
def ask (op : Nat) (body : List Byte) (tag : Nat) : List Byte := dgram op 2 5 body tag
def hello : List Byte := dgram 1 0xFF 0 (leBytes 20 0) 0x015c853eee870786fb525ea28c15496d
/-- A stream out of 5,000 bytes of the cup, and a caddy write of 3,000 bytes. -/
def cupOut : Xfer := { session := 2, op := 0x30, ctr := 5, kind := .cup 0, len := some 5000, acked := 1024, next := 2048 }
def caddyIn : Xfer := { session := 2, op := 0x40, ctr := 5, kind := .caddy 1 false, len := some 3000, next := 1024, since := 6 }
def moving (x : Xfer) : State := { may2 with net := { may2.net with xfers := [x] } }

/-- States and operands that meet the hypotheses of `Obligations.KmpSessions`, clause by clause. -/
theorem wit_KmpSessions :
    (∃ (src : Nat) (n : Nat) (dg : List Byte) (m : Kmp) (psk : List Byte) (role : Bool) (s : State),
    (s.isLoaded = true) ∧ (s.caddy.fwRestart = false) ∧ (s.reaches src = true) ∧ (kmpParse dg = some m) ∧ (m.op = 1) ∧ (m.ver = 1) ∧ (m.reply = false) ∧ (m.sess = 0xFF) ∧ (s.net.keys[ofLe (slice 0 1 m.body)]? = some (psk, role)) ∧ (kmpTag psk m.signed = m.tag) ∧ (m.body.length = 20) ∧ (s.net.nonces.contains (slice 4 16 m.body) = false) ∧ (s.freeSession = some n) ∧ (s.pendingSessions < 2) ∧ (Room s portNet)) ∧
    (∃ (src : Nat) (dg : List Byte) (m : Kmp) (psk : List Byte) (role : Bool) (s : State),
    (s.isLoaded = true) ∧ (s.caddy.fwRestart = false) ∧ (s.reaches src = true) ∧ (kmpParse dg = some m) ∧ (m.op = 1) ∧ (m.ver = 1) ∧ (m.reply = false) ∧ (m.sess = 0xFF) ∧ (s.net.keys[ofLe (slice 0 1 m.body)]? = some (psk, role)) ∧ (kmpTag psk m.signed = m.tag) ∧ (m.body.length = 20) ∧ (s.net.nonces.contains (slice 4 16 m.body) = false) ∧ (s.freeSession = none)) ∧
    (∃ (src : Nat) (dg : List Byte) (m : Kmp) (s : State),
    (Accepts s src dg m) ∧ (m.op = 3) ∧ (m.body = []) ∧ (s.net.xfers = []) ∧ (Room s portNet)) ∧
    (∃ (n : Fin 8) (s : State),
    (s.on (NET_SESSION_OPEN n) = true) ∧ ((s.session n).pending = true) ∧ (s.net.xfers = []) ∧ (Room s portNet)) ∧
    (∃ (n : Fin 8) (s : State),
    ((s.session n).pending = false)) ∧
    (∃ (n : Fin 8) (s : State),
    (s.on (NET_SESSION_OPEN n) = true) ∧ ((s.session n).pending = false) ∧ (s.net.xfers = []) ∧ (Room s portNet)) :=
  ⟨⟨77, 0, hello, parsed hello, [7], true, open2, by decide +kernel⟩,
   ⟨77, hello, parsed hello, [7], true, opens [0, 1, 2, 3, 4, 5, 6, 7], by decide +kernel⟩,
   ⟨77, ask 3 [] 0xeaaa0808fc87b42d65cc9d6451573697, parsed (ask 3 [] 0xeaaa0808fc87b42d65cc9d6451573697), open2, by decide +kernel⟩,
   ⟨2, open2.setSession 2 { pending := true }, by decide +kernel⟩,
   ⟨2, open2, by decide +kernel⟩,
   ⟨2, open2, by decide +kernel⟩⟩

/-- States and operands that meet the hypotheses of `Obligations.KmpGuards`, clause by clause. -/
theorem wit_KmpGuards :
    (∃ (src : Nat) (dg : List Byte) (m : Kmp) (s : State),
    (s.isLoaded = true) ∧ (s.caddy.fwRestart = false) ∧ (s.reaches src = true) ∧ (kmpParse dg = some m) ∧ (m.op = 0x11) ∧ (m.ver = 1) ∧ (m.reply = false) ∧ (kmpTag (s.session m.sess).key m.signed ≠ m.tag)) ∧
    (∃ (src : Nat) (dg : List Byte) (m : Kmp) (s : State),
    (s.isLoaded = true) ∧ (s.caddy.fwRestart = false) ∧ (s.reaches src = true) ∧ (kmpParse dg = some m) ∧ (m.op = 0x11) ∧ (m.ver = 1) ∧ (m.reply = false) ∧ (m.sess < 8) ∧ (s.on (NET_SESSION_OPEN m.sess) = true) ∧ (kmpTag (s.session m.sess).key m.signed = m.tag) ∧ (ctrFresh (s.session m.sess) m.ctr = false)) ∧
    (∃ (src : Nat) (dg : List Byte) (m : Kmp) (s : State),
    (Accepts s src dg m) ∧ (m.op = 0x11) ∧ (s.on (NET_SESSION_OPERATE m.sess) = false)) ∧
    (∃ (src : Nat) (dg : List Byte) (s : State),
    (s.reaches src = false)) ∧
    (∃ (s : State),
    (s.net.tagFails ≠ 0) ∧ (Room s portNet)) ∧
    (∃ (s : State),
    (s.net.tagFails = 0)) :=
  ⟨⟨77, ask 0x11 [] 0xd6f32468ba3489c5ee31833184e544aa ++ [], parsed (ask 0x11 [] 0xd6f32468ba3489c5ee31833184e544aa), up.putB NET_STATUS_IP4_OK true, by decide +kernel⟩,
   ⟨77, ask 0x11 [] 0xd6f32468ba3489c5ee31833184e544aa, parsed (ask 0x11 [] 0xd6f32468ba3489c5ee31833184e544aa), open2.setSession 2 { key := sessKey, high := 69 }, by decide +kernel⟩,
   ⟨77, ask 0x11 [] 0xd6f32468ba3489c5ee31833184e544aa, parsed (ask 0x11 [] 0xd6f32468ba3489c5ee31833184e544aa), open2, by decide +kernel⟩,
   ⟨77, [], up, by decide +kernel⟩,
   ⟨{ up with net := { up.net with tagFails := 2, tagFrom := 77 } }, by decide +kernel⟩,
   ⟨up, by decide +kernel⟩⟩

/-- States and operands that meet the hypotheses of `Obligations.KmpAccess`, clause by clause. -/
theorem wit_KmpAccess :
    (∃ (src : Nat) (a : Nat) (dg : List Byte) (m : Kmp) (s : State),
    (Accepts s src dg m) ∧ (m.op = 0x10) ∧ (m.body = leBytes 4 a) ∧ (a < 2 ^ 32) ∧ (onLeat a = false) ∧ (mapped a = true) ∧ (latchMembers a = []) ∧ (s.captured (0x40 + m.sess) a = none) ∧ (s.fab.txns = []) ∧ (s.net.mbQueue = [])) ∧
    (∃ (src : Nat) (a : Nat) (dg : List Byte) (m : Kmp) (s : State),
    (Accepts s src dg m) ∧ (m.op = 0x12) ∧ (m.body = leBytes 4 a ++ [1]) ∧ (a < 2 ^ 32) ∧ (onLeat a = false) ∧ (mapped a = true) ∧ (latchMembers a = []) ∧ (s.captured (0x40 + m.sess) a = none) ∧ (s.fab.txns = []) ∧ (s.net.mbQueue = [])) ∧
    (∃ (src : Nat) (v : Word) (dg : List Byte) (m : Kmp) (s : State),
    (Accepts s src dg m) ∧ (m.op = 0x11) ∧ (s.on (NET_SESSION_OPERATE m.sess) = true) ∧ (m.body = leBytes 4 SYS_SCRATCH ++ leBytes 4 v.toNat)) ∧
    (∃ (src : Nat) (dg : List Byte) (m : Kmp) (s : State),
    (Accepts s src dg m) ∧ (m.op = 0x60) ∧ (m.body = []) ∧ ((s.reg NET_WDOG_CFG).getLsbD 8 = true) ∧ (s.on NET_WDOG_STATUS_TRIPPED = false)) ∧
    (∃ (src : Nat) (dg : List Byte) (m : Kmp) (s : State),
    (Accepts s src dg m) ∧ (m.op = 0x70) ∧ (s.on (NET_SESSION_OPERATE m.sess) = true) ∧ (m.body.length = 10) ∧ (ofLe (slice 6 4 m.body) < 1000000000) ∧ (s.setRefused = false)) ∧
    (∃ (src : Nat) (dg : List Byte) (m : Kmp) (s : State),
    (Accepts s src dg m) ∧ (m.op = 0x70) ∧ (s.on (NET_SESSION_OPERATE m.sess) = true) ∧ (m.body.length = 10) ∧ (ofLe (slice 6 4 m.body) < 1000000000) ∧ (s.setRefused = true)) :=
  ⟨⟨77, SYS_ID, ask 0x10 (leBytes 4 SYS_ID) 0xc684dc52f4bddb4884bf464475aaa56c, parsed (ask 0x10 (leBytes 4 SYS_ID) 0xc684dc52f4bddb4884bf464475aaa56c), open2, by decide +kernel⟩,
   ⟨77, SYS_CAPS, ask 0x12 (leBytes 4 SYS_CAPS ++ [1]) 0x737e65a67aff985c1120c89710ad02e1, parsed (ask 0x12 (leBytes 4 SYS_CAPS ++ [1]) 0x737e65a67aff985c1120c89710ad02e1), open2, by decide +kernel⟩,
   ⟨77, 0x89ABCDEF, ask 0x11 (leBytes 4 SYS_SCRATCH ++ leBytes 4 0x89ABCDEF) 0x9ee317286e51b7ee407197df666f391d, parsed (ask 0x11 (leBytes 4 SYS_SCRATCH ++ leBytes 4 0x89ABCDEF) 0x9ee317286e51b7ee407197df666f391d), may2, by decide +kernel⟩,
   ⟨77, ask 0x60 [] 0x8e9b56f87d494a54e87e22ce89fe3c53, parsed (ask 0x60 [] 0x8e9b56f87d494a54e87e22ce89fe3c53), open2.setReg NET_WDOG_CFG 0x100, by decide +kernel⟩,
   ⟨77, ask 0x70 (leBytes 6 3 ++ leBytes 4 999999999) 0x47b3332580a77a32faee59d75427bbcf, parsed (ask 0x70 (leBytes 6 3 ++ leBytes 4 999999999) 0x47b3332580a77a32faee59d75427bbcf), may2, by decide +kernel⟩,
   ⟨77, ask 0x70 (leBytes 6 3 ++ leBytes 4 999999999) 0x47b3332580a77a32faee59d75427bbcf, parsed (ask 0x70 (leBytes 6 3 ++ leBytes 4 999999999) 0x47b3332580a77a32faee59d75427bbcf), (may2.putB TIME_CFG_SOURCE_GNSS true).put TIME_STATUS_STATE 2, by decide +kernel⟩⟩

/-- States and operands that meet the hypotheses of `Obligations.KmpTransfers`, clause by clause. -/
theorem wit_KmpTransfers :
    (∃ (src : Nat) (dg : List Byte) (bad : List (Nat × Nat)) (m : Kmp) (r : LogReply) (s : State),
    (Accepts s src dg m) ∧ (m.op = 0x20) ∧ (7 ≤ m.body.length) ∧ (1 ≤ ofLe (m.body.drop 6)) ∧ (ofLe (m.body.drop 6) ≤ 40) ∧ (r = s.logRead (ofLe (slice 0 6 m.body)) (ofLe (m.body.drop 6)) (bad.map (fun p => p.1)))) ∧
    (∃ (src : Nat) (dg : List Byte) (m : Kmp) (s : State),
    (Accepts s src dg m) ∧ (m.op = 0x21) ∧ (m.body = [1]) ∧ (s.on (NET_SESSION_OPERATE m.sess) = true) ∧ (s.log.freeze = none) ∧ (s.pwr.sluice = none) ∧ (s.guard.halted = false)) ∧
    (∃ (src : Nat) (dg : List Byte) (m : Kmp) (s : State),
    (Accepts s src dg m) ∧ (m.op = 0x30) ∧ (m.body.length = 16) ∧ (ofLe (slice 0 8 m.body) + ofLe (slice 8 8 m.body) ≤ 2 ^ 27) ∧ (0 < ofLe (slice 8 8 m.body)) ∧ (s.xferFull m.sess = false)) ∧
    (∃ (src : Nat) (slot : Nat) (dg : List Byte) (m : Kmp) (s : State),
    (Accepts s src dg m) ∧ (m.op = 0x40) ∧ (m.body.length = 6) ∧ (s.on (NET_SESSION_OPERATE m.sess) = true) ∧ (ofLe (slice 0 1 m.body) = slot) ∧ (slot ≤ 1) ∧ (slot ≠ s.caddy.slot) ∧ (0 < ofLe (slice 1 4 m.body)) ∧ (ofLe (slice 1 4 m.body) ≤ slotSize) ∧ (s.caddy.swap = none) ∧ (s.caddy.writing = false) ∧ (s.xferFull m.sess = false)) ∧
    (∃ (src : Nat) (k : Byte) (dg : List Byte) (m : Kmp) (s : State),
    (Accepts s src dg m) ∧ (m.op = 0x50) ∧ (m.body = [0, k]) ∧ ((k.toNat ≤ 15 ∨ k.toNat = 0xFF)) ∧ (s.xferFull m.sess = false)) ∧
    (∃ (src : Nat) (k : Byte) (dg : List Byte) (m : Kmp) (s : State),
    (Accepts s src dg m) ∧ (m.op = 0x50) ∧ (m.body = [1, k]) ∧ ((k.toNat ≤ 15 ∨ k.toNat = 0xFF)) ∧ (s.on (NET_SESSION_OPERATE m.sess) = true) ∧ (s.xferFull m.sess = false)) :=
  ⟨⟨77, ask 0x20 (leBytes 6 1 ++ [40]) 0x56cf8bfc559e0a8b951c349c62e7bbf0, [], parsed (ask 0x20 (leBytes 6 1 ++ [40]) 0x56cf8bfc559e0a8b951c349c62e7bbf0), { status := 0, flags := 0, hwm := 0, recs := [] }, open2, by decide +kernel⟩,
   ⟨77, ask 0x21 [1] 0xef2ac11fc655916108c6299936162259, parsed (ask 0x21 [1] 0xef2ac11fc655916108c6299936162259), may2, by decide +kernel⟩,
   ⟨77, ask 0x30 (leBytes 8 0 ++ leBytes 8 (2 ^ 27)) 0x4195f7f0696350e1288b8914ece97e58, parsed (ask 0x30 (leBytes 8 0 ++ leBytes 8 (2 ^ 27)) 0x4195f7f0696350e1288b8914ece97e58), open2, by decide +kernel⟩,
   ⟨77, 1, ask 0x40 ([1] ++ leBytes 4 slotSize ++ [1]) 0xf13ef1a36d3587378793a0fa5b947220, parsed (ask 0x40 ([1] ++ leBytes 4 slotSize ++ [1]) 0xf13ef1a36d3587378793a0fa5b947220), may2, by decide +kernel⟩,
   ⟨77, 0xFF, ask 0x50 [0, 0xFF] 0x12b28ae3e8b13c9b3e79e2f6257f6642, parsed (ask 0x50 [0, 0xFF] 0x12b28ae3e8b13c9b3e79e2f6257f6642), open2, by decide +kernel⟩,
   ⟨77, 15, ask 0x50 [1, 15] 0x6da7a26a75957b76198403aeb9356557, parsed (ask 0x50 [1, 15] 0x6da7a26a75957b76198403aeb9356557), may2, by decide +kernel⟩⟩

/-- States and operands that meet the hypotheses of `Obligations.KmpBulk`, clause by clause. -/
theorem wit_KmpBulk :
    (∃ (src : Nat) (slot : Nat) (swap : Bool) (bad : Fin 4) (l : List Byte) (dg : List Byte) (m : Kmp) (x : Xfer) (s : State),
    (Accepts s src dg m) ∧ (m.op = 0x80) ∧ (m.body = leBytes 8 x.next ++ l) ∧ (x.next < 2 ^ 64) ∧ (1 ≤ l.length) ∧ (l.length ≤ 1024) ∧ (s.net.xfers = [x]) ∧ (x.session = m.sess) ∧ (x.ready = false) ∧ (x.kind = .caddy slot swap) ∧ (x.next + l.length < x.len.getD 0) ∧ (x.since < 7)) ∧
    (∃ (src : Nat) (dg : List Byte) (m : Kmp) (x : Xfer) (s : State),
    (Accepts s src dg m) ∧ (m.op = 0x81) ∧ (s.net.xfers = [x]) ∧ (x.session = m.sess) ∧ (x.ready = false) ∧ (x.out = true) ∧ (m.body.length = 8) ∧ (x.acked < ofLe m.body) ∧ (ofLe m.body < x.len.getD 0)) ∧
    (∃ (src : Nat) (off : Nat) (dg : List Byte) (m : Kmp) (x : Xfer) (s : State),
    (Accepts s src dg m) ∧ (m.op = 0x81) ∧ (s.net.xfers = [x]) ∧ (x.session = m.sess) ∧ (x.ready = false) ∧ (x.kind = .cup off) ∧ (m.body.length = 8) ∧ (x.acked < ofLe m.body) ∧ (x.len = some (ofLe m.body))) ∧
    (∃ (i : Fin 2) (x : Xfer) (s : State),
    (s.net.xfers[i.val]? = some x) ∧ (x.out = true) ∧ (x.session < 8) ∧ (x.next < x.len.getD 0) ∧ (x.next < x.acked + 65536)) ∧
    (∃ (i : Fin 2) (x : Xfer) (s : State),
    (s.net.xfers[i.val]? = some x) ∧ (x.out = false) ∧ (x.ready = false) ∧ (x.session < 8)) ∧
    (∃ (i : Fin 2) (x : Xfer) (s : State),
    (s.net.xfers = [x]) ∧ (i.val = 0) ∧ (x.out = true)) ∧
    (∃ (i : Fin 2) (x : Xfer) (off : Nat) (s : State),
    (s.net.xfers = [x]) ∧ (i.val = 0) ∧ (x.ready = false) ∧ (x.kind = .cup off) ∧ (x.session < 8)) ∧
    (∃ (i : Fin 2) (s : State),
    (s.net.xfers[i.val]? = none)) :=
  ⟨⟨77, 1, false, 3, [1, 2], ask 0x80 (leBytes 8 1024 ++ [1, 2]) 0xe949e571d3e283deb435fa609bc8a264, parsed (ask 0x80 (leBytes 8 1024 ++ [1, 2]) 0xe949e571d3e283deb435fa609bc8a264), caddyIn, moving caddyIn, by decide +kernel⟩,
   ⟨77, ask 0x81 (leBytes 8 4999) 0xa4910328b015cd0aeec00cf65a742f61, parsed (ask 0x81 (leBytes 8 4999) 0xa4910328b015cd0aeec00cf65a742f61), cupOut, moving cupOut, by decide +kernel⟩,
   ⟨77, 0, ask 0x81 (leBytes 8 5000) 0x7e27e0267152c893440d79d0220b4197, parsed (ask 0x81 (leBytes 8 5000) 0x7e27e0267152c893440d79d0220b4197), cupOut, moving cupOut, by decide +kernel⟩,
   ⟨0, cupOut, moving cupOut, by decide +kernel⟩,
   ⟨0, caddyIn, moving caddyIn, by decide +kernel⟩,
   ⟨0, cupOut, moving cupOut, by decide +kernel⟩,
   ⟨0, cupOut, 0, moving cupOut, by decide +kernel⟩,
   ⟨1, moving cupOut, by decide +kernel⟩⟩

/-- Both Ethernet ports are up. -/
def linked : State := (up.putB (NET_PORT_STATUS_LINK 0) true).putB (NET_PORT_STATUS_LINK 1) true
/-- A frame to station 2 from station 4. -/
def frame (et : List Byte) : List Byte := [0, 0, 0, 0, 0, 2, 0, 0, 0, 0, 0, 4] ++ et
def static : State := { up with net := { up.net with probing := true, stat := [0x0A000002, 0xFF000000, 0x0A000001] } }
def dhcpIn (st : Nat) : State := { up with net := { up.net with dhcp := true } }.put NET_DHCP_STATUS_STATE st
def watched (good : Nat) : State :=
  { ((up.setReg NET_WDOG_CFG 0x8000040A).put NET_WDOG_STATUS_GOOD_COUNT good) with
    tim := { up.tim with mono := 10000000 } }
def tripped (good : Nat) : State :=
  { (watched good).putB NET_WDOG_STATUS_TRIPPED true with net := { up.net with counted := some 1000000 } }

/-- States and operands that meet the hypotheses of `Obligations.Switch`, clause by clause. -/
theorem wit_Switch :
    (∃ (e : Fin 2) (f : List Byte) (s : State),
    (s.mpUp = true) ∧ (14 ≤ f.length) ∧ (f.length ≤ 1522) ∧ (s.link e = true) ∧ (s.link (1 - e.val) = true) ∧ (frameNat f 0 6 / 2 ^ 40 % 2 = 0) ∧ (s.framePtp f = false) ∧ (frameNat f 0 6 ≠ s.nv.mac) ∧ (s.net.macs = []) ∧ (frameNat f 6 6 / 2 ^ 40 % 2 = 0) ∧ (s.net.leds.any (fun p => p.1 = e.val) = true) ∧ (s.net.leds.any (fun p => p.1 = 1 - e.val) = true)) ∧
    (∃ (e : Fin 2) (f : List Byte) (s : State),
    (s.mpUp = true) ∧ (14 ≤ f.length) ∧ (f.length ≤ 1522) ∧ (s.link e = true) ∧ (s.link (1 - e.val) = true) ∧ (frameNat f 0 6 / 2 ^ 40 % 2 = 0) ∧ (s.framePtp f = false) ∧ (frameNat f 0 6 ≠ s.nv.mac) ∧ (s.net.macs = []) ∧ (s.net.leds = [])) ∧
    (∃ (e : Fin 2) (f : List Byte) (s : State),
    (s.framePtp f = true)) ∧
    (∃ (e : Fin 2) (n : Nat) (d : Nat) (s : State),
    (s.stormOf e = (n, d)) ∧ (d ≠ 0) ∧ (Room s portNet)) ∧
    (∃ (e : Fin 2) (n : Nat) (s : State),
    (s.stormOf e = (n, 0))) ∧
    (∃ (e : Fin 2) (sp : Fin 3) (full : Bool) (s : State),
    (s.configured = true) ∧ (s.linkFits e sp full = true) ∧ (s.link e = false) ∧ (s.on NET_STATUS_IP4_OK = false) ∧ (Room s portNet)) ∧
    (∃ (e : Fin 2) (sp : Fin 3) (full : Bool) (s : State),
    (s.linkFits e sp full = false)) ∧
    (∃ (e : Fin 2) (sp : Fin 3) (full : Bool) (s : State),
    (s.configured = true) ∧ (s.link e = true) ∧ (Room s portNet)) :=
  ⟨⟨0, frame [8, 0], { linked with net := { up.net with leds := [(0, 9), (1, 9)] } }, by decide +kernel⟩,
   ⟨0, frame [8, 0], linked, by decide +kernel⟩,
   ⟨1, frame [0x88, 0xF7], linked, by decide +kernel⟩,
   ⟨1, 2000, 1, { up with net := { up.net with storm := [(1, (2000, 1))] } }, by decide +kernel⟩,
   ⟨1, 2000, { up with net := { up.net with storm := [(1, (2000, 0))] } }, by decide +kernel⟩,
   ⟨1, 2, true, up, by decide +kernel⟩,
   ⟨1, 2, false, up, by decide +kernel⟩,
   ⟨0, 2, true, linked, by decide +kernel⟩⟩

/-- States and operands that meet the hypotheses of `Obligations.Addresses`, clause by clause. -/
theorem wit_Addresses :
    (∃ (a : Word) (m : Word) (g : Word) (l : Nat) (s : State),
    (s.serves = true) ∧ (s.net.probing = true) ∧ (s.byDhcp = false) ∧ (s.on NET_STATUS_IP4_OK = false) ∧ (Room s portNet)) ∧
    (∃ (a : Word) (m : Word) (g : Word) (l : Nat) (s : State),
    (s.serves = true) ∧ (s.net.probing = true) ∧ (s.byDhcp = false) ∧ (s.on NET_STATUS_IP4_OK = false) ∧ (Room s portNet)) ∧
    (∃ (s : State),
    (s.serves = true) ∧ (s.get NET_DHCP_STATUS_STATE = 3) ∧ (s.byDhcp = false) ∧ (s.net.cand = none)) ∧
    (∃ (s : State),
    (s.serves = true) ∧ (s.get NET_DHCP_STATUS_STATE = 3) ∧ (s.byDhcp = true) ∧ (s.net.cand = none)) ∧
    (∃ (a : Word) (m : Word) (g : Word) (l : Nat) (s : State),
    (s.serves = true) ∧ (s.get NET_DHCP_STATUS_STATE = 3) ∧ (s.net.cand = some (a, m, g, l)) ∧ (s.tim.mono < l)) ∧
    (∃ (l : Nat) (s : State),
    (s.serves = true) ∧ (s.get NET_DHCP_STATUS_STATE = 2)) ∧
    (∃ (s : State),
    (s.serves = true) ∧ (s.get NET_DHCP_STATUS_STATE = 2)) ∧
    (∃ (low : BitVec 16) (s : State),
    (s.isBare = true) ∧ (s.byDhcp = true) ∧ (s.get NET_DHCP_STATUS_STATE = 1)) ∧
    (∃ (l : Nat) (s : State),
    (s.get NET_DHCP_STATUS_STATE ≠ 2)) :=
  ⟨⟨0, 0, 0, 0, static, by decide +kernel⟩,
   ⟨0, 0, 0, 0, static, by decide +kernel⟩,
   ⟨static.put NET_DHCP_STATUS_STATE 3, by decide +kernel⟩,
   ⟨dhcpIn 3, by decide +kernel⟩,
   ⟨0x0A000002, 0xFF000000, 0x0A000001, 9, { dhcpIn 3 with net := { (dhcpIn 3).net with cand := some (0x0A000002, 0xFF000000, 0x0A000001, 9) } }, by decide +kernel⟩,
   ⟨3600, dhcpIn 2, by decide +kernel⟩,
   ⟨dhcpIn 2, by decide +kernel⟩,
   ⟨0xFFFF, { dhcpIn 1 with caddy := { up.caddy with phase := 4 } }, by decide +kernel⟩,
   ⟨3600, dhcpIn 1, by decide +kernel⟩⟩

/-- States and operands that meet the hypotheses of `Obligations.AnswersAndWatchdog`, clause by clause. -/
theorem wit_AnswersAndWatchdog :
    (∃ (e : Fin 2) (a : Nat) (s : State),
    (s.serves = true) ∧ (s.on NET_STATUS_IP4_OK = true) ∧ (a = (s.reg NET_IP4_ADDR).toNat)) ∧
    (∃ (e : Fin 2) (v6 : Bool) (a : Nat) (s : State),
    (s.holdsAddr v6 a = false)) ∧
    (∃ (e : Fin 2) (s : State),
    (s.serves = true) ∧ (s.net.echoSec = s.tim.mono / 1000000) ∧ (s.net.echoes < 100)) ∧
    (∃ (e : Fin 2) (s : State),
    (s.net.echoSec = s.tim.mono / 1000000) ∧ (100 ≤ s.net.echoes)) ∧
    (∃ (e : Fin 2) (p : Nat) (s : State),
    (s.serves = true) ∧ (p ≠ 502)) ∧
    (∃ (v : Word) (s : State),
    (Writes s 0x10 NET_HEARTBEAT v) ∧ ((s.reg NET_WDOG_CFG).getLsbD 10 = true) ∧ (s.on NET_WDOG_STATUS_TRIPPED = false)) ∧
    (∃ (v : Word) (s : State),
    (Writes s 0x10 NET_HEARTBEAT v) ∧ ((s.reg NET_WDOG_CFG).getLsbD 10 = true) ∧ (s.on NET_WDOG_STATUS_TRIPPED = true) ∧ (s.beatTooSoon = false) ∧ (s.goodCount = 3) ∧ (Room s portNet)) ∧
    (∃ (s : State),
    (s.isLoaded = true) ∧ (s.on NET_WDOG_CFG_ENABLE = true) ∧ (s.on NET_WDOG_STATUS_TRIPPED = false) ∧ (s.get NET_WDOG_CFG_TIMEOUT_S * 1000000 ≤ s.tim.mono - s.net.beat) ∧ (Room s portNet)) ∧
    (∃ (s : State),
    (s.get NET_WDOG_CFG_ENABLE = 0)) :=
  ⟨⟨1, 0x0A000002, (up.setReg NET_IP4_ADDR 0x0A000002).putB NET_STATUS_IP4_OK true, by decide +kernel⟩,
   ⟨1, false, 0x0A000003, (up.setReg NET_IP4_ADDR 0x0A000002).putB NET_STATUS_IP4_OK true, by decide +kernel⟩,
   ⟨0, { up with net := { up.net with echoes := 99 } }, by decide +kernel⟩,
   ⟨0, { up with net := { up.net with echoes := 100 } }, by decide +kernel⟩,
   ⟨0, 80, up, by decide +kernel⟩,
   ⟨5, watched 0, by decide +kernel⟩,
   ⟨5, tripped 2, by decide +kernel⟩,
   ⟨watched 0, by decide +kernel⟩,
   ⟨up, by decide +kernel⟩⟩

/-- A request of a Modbus client: function code and data. -/
def aduOf (fc : Byte) (rest : List Byte) : List Byte := [0, 1, 0, 0] ++ beBytes 2 (2 + rest.length) ++ [0x11, fc] ++ rest
/-- The server with a map of one entry of `w` registers at 0x1000 onto SYS_SCRATCH. -/
def served (w : Nat) : State :=
  { (up.setReg NET_MB_CFG 0x80000010).putB NET_STATUS_IP4_OK true with
    net := { up.net with
      conns := [1]
      map := [{ addr := 0x1000, fabric := SYS_SCRATCH, width := w, writable := true, holding := true }] } }
def entry (w : Nat) : Config.MbEntry := { addr := 0x1000, fabric := SYS_SCRATCH, width := w, writable := true, holding := true }
def waitingRead : State :=
  { served 1 with
    net := { (served 1).net with mbBusy := true }
    fab := { up.fab with
      replies := [{ requester := 0x20, addr := 0, txn := 3, idx := 0, value := 0x11223344 }]
      txns := [{ id := 3, requester := 0x20, kind := .modbus 1 (aduOf 4 []) 4, need := 1, shape := [(0, true), (0, false)] }] } }
/-- Server 3 of the client, in use and connected, with one output. -/
def polled (c : Client) : State :=
  { (((((up.putB (NET_CLIENT_STATUS_CONNECTED 3) true).put (NET_CLIENT_CFG_PERIOD 3) 1).putB (NET_NETOUT_ENABLE 5) true).put
      (NET_NETOUT_SERVER 5) 3).put (NET_NETOUT_FORMAT 5) 3).putB NET_STATUS_IP4_OK true with
    est := { up.est with netout := [(5, 0x3F800000)] }
    net := { up.net with clients := [(3, c)] } }
def asked : Client := { waiting := true, polling := true, cur := [0x10, 0, 7, 0, 2, 4, 0, 0, 0, 0], run := 1 }

/-- States and operands that meet the hypotheses of `Obligations.ModbusRequests`, clause by clause. -/
theorem wit_ModbusRequests :
    (∃ (conn : Nat) (a : Nat) (e : Config.MbEntry) (adu : List Byte) (s : State),
    (MbAsks s conn 3 adu) ∧ (adu.drop 8 = beBytes 2 a ++ [0, 1]) ∧ (a < 0xF000) ∧ (mbEntry s.net.map true a = some e) ∧ (e.width = 1) ∧ (onLeat e.fabric = false) ∧ (mapped e.fabric = true) ∧ (latchMembers e.fabric = []) ∧ (s.captured 0x20 e.fabric = none)) ∧
    (∃ (conn : Nat) (adu : List Byte) (s : State),
    (MbAsks s conn 3 adu) ∧ (adu.drop 8 = [0xF0, 0, 0, 1])) ∧
    (∃ (conn : Nat) (n : Fin 1024) (adu : List Byte) (s : State),
    (MbAsks s conn 4 adu) ∧ (adu.drop 8 = beBytes 2 (8 * n.val) ++ [0, 8]) ∧ (s.fab.dat = []) ∧ (s.fab.held = [])) ∧
    (∃ (conn : Nat) (fc : Nat) (i : Nat) (v : Word) (hdr : List Byte) (s : State),
    (s.serves = true) ∧ (s.net.mbQueue = []) ∧ (s.net.mbBusy = true) ∧ (s.fab.replies = [{ requester := 0x20, addr := 0, txn := i, idx := 0, value := v }]) ∧ (s.fab.txns = [{ id := i, requester := 0x20, kind := .modbus conn hdr fc, need := 1, shape := [(0, true), (0, false)] }])) ∧
    (∃ (conn : Nat) (a : Nat) (v : Nat) (e : Config.MbEntry) (adu : List Byte) (s : State),
    (MbAsks s conn 6 adu) ∧ (adu.drop 8 = beBytes 2 a ++ beBytes 2 v) ∧ (a < 0xF000) ∧ (v < 65536) ∧ (mbEntry s.net.map true a = some e) ∧ (e.width = 1) ∧ (e.writable = true) ∧ (e.fabric = SYS_SCRATCH)) ∧
    (∃ (conn : Nat) (v : Nat) (adu : List Byte) (s : State),
    (MbAsks s conn 6 adu) ∧ (adu.drop 8 = [0xF0, 0] ++ beBytes 2 v) ∧ ((s.reg NET_WDOG_CFG).getLsbD 9 = true) ∧ (s.on NET_WDOG_STATUS_TRIPPED = false)) ∧
    (∃ (conn : Nat) (a : Nat) (v : Nat) (w : Nat) (e : Config.MbEntry) (adu : List Byte) (s : State),
    (MbAsks s conn 16 adu) ∧ (adu.drop 8 = beBytes 2 a ++ [0, 2, 4] ++ beBytes 2 v ++ beBytes 2 w) ∧ (a < 0xF000) ∧ (v < 65536) ∧ (w < 65536) ∧ (mbEntry s.net.map true a = some e) ∧ (e.width = 2) ∧ (e.writable = true) ∧ (e.fabric = SYS_SCRATCH)) ∧
    (∃ (conn : Nat) (a : Nat) (v : Nat) (w : Nat) (e : Config.MbEntry) (adu : List Byte) (s : State),
    (MbAsks s conn 23 adu) ∧ (adu.drop 8 = beBytes 2 a ++ [0, 2] ++ beBytes 2 a ++ [0, 2, 4] ++ beBytes 2 v ++ beBytes 2 w) ∧ (a < 0xF000) ∧ (v < 65536) ∧ (w < 65536) ∧ (mbEntry s.net.map true a = some e) ∧ (e.width = 2) ∧ (e.writable = true) ∧ (e.fabric = SYS_SCRATCH) ∧ (s.captured 0x20 SYS_SCRATCH = none)) :=
  ⟨⟨1, 0x1000, entry 1, aduOf 3 (beBytes 2 0x1000 ++ [0, 1]), served 1, by decide +kernel⟩,
   ⟨1, aduOf 3 [0xF0, 0, 0, 1], served 1, by decide +kernel⟩,
   ⟨1, 1023, aduOf 4 (beBytes 2 (8 * 1023) ++ [0, 8]), served 1, by decide +kernel⟩,
   ⟨1, 4, 3, 0x11223344, aduOf 4 [], waitingRead, by decide +kernel⟩,
   ⟨1, 0x1000, 65535, entry 1, aduOf 6 (beBytes 2 0x1000 ++ beBytes 2 65535), served 1, by decide +kernel⟩,
   ⟨1, 7, aduOf 6 ([0xF0, 0] ++ beBytes 2 7), (served 1).setReg NET_WDOG_CFG 0x200, by decide +kernel⟩,
   ⟨1, 0x1000, 0x1234, 65535, entry 2, aduOf 16 (beBytes 2 0x1000 ++ [0, 2, 4] ++ beBytes 2 0x1234 ++ beBytes 2 65535), served 2, by decide +kernel⟩,
   ⟨1, 0x1000, 0x1234, 65535, entry 2, aduOf 23 (beBytes 2 0x1000 ++ [0, 2] ++ beBytes 2 0x1000 ++ [0, 2, 4] ++ beBytes 2 0x1234 ++ beBytes 2 65535), served 2, by decide +kernel⟩⟩

/-- States and operands that meet the hypotheses of `Obligations.ModbusGuardsAndClient`, clause by clause. -/
theorem wit_ModbusGuardsAndClient :
    (∃ (conn : Nat) (fc : Nat) (adu : List Byte) (s : State),
    (MbAsks s conn fc adu) ∧ (fc ∉ mbCodes) ∧ (fc < 128)) ∧
    (∃ (conn : Nat) (a : Nat) (v : Nat) (w : Nat) (adu : List Byte) (s : State),
    (MbAsks s conn 16 adu) ∧ (adu.drop 8 = beBytes 2 a ++ [0, 2, 4] ++ beBytes 2 v ++ beBytes 2 w) ∧ (a < 0xF000) ∧ (mbEntry s.net.map true a = none)) ∧
    (∃ (conn : Nat) (a : Nat) (adu : List Byte) (s : State),
    (MbAsks s conn 4 adu) ∧ (adu.drop 8 = beBytes 2 a ++ [0, 0])) ∧
    (∃ (conn : Nat) (src : Nat) (s : State),
    (s.mbOpen = true) ∧ (s.reaches src = true) ∧ (conn ∉ s.net.conns) ∧ (s.net.conns.length < s.get NET_MB_CFG_MAX_CONN) ∧ (s.get NET_MB_CFG_MAX_CONN ≤ 16)) ∧
    (∃ (conn : Nat) (src : Nat) (s : State),
    (s.mbOpen = true) ∧ (s.reaches src = true) ∧ (conn ∉ s.net.conns) ∧ (s.get NET_MB_CFG_MAX_CONN ≤ s.net.conns.length) ∧ (Room s portNet)) ∧
    (∃ (conn : Nat) (src : Nat) (s : State),
    (s.reaches src = false)) ∧
    (∃ (conn : Nat) (s : State),
    (s.mbOpen = true) ∧ (s.net.conns = [conn])) ∧
    (∃ (m : Fin 16) (n : Fin 16) (v : F32) (s : State),
    (s.clientRuns m = true) ∧ (s.on (NET_CLIENT_STATUS_CONNECTED m) = true) ∧ (s.on NET_STATUS_IP4_OK = true) ∧ ((s.client m).polling = false) ∧ (s.est.netout = [(n.val, v)]) ∧ (s.on (NET_NETOUT_ENABLE n) = true) ∧ (s.get (NET_NETOUT_SERVER n) = m) ∧ (s.get (NET_NETOUT_FORMAT n) = 3) ∧ (fIsNaN v = false)) ∧
    (∃ (m : Fin 16) (s : State),
    (s.clientRuns m = true) ∧ (s.on (NET_CLIENT_STATUS_CONNECTED m) = true) ∧ (s.on NET_STATUS_IP4_OK = true) ∧ ((s.client m).polling = true)) ∧
    (∃ (m : Fin 16) (ok : Bool) (s : State),
    (s.on NET_STATUS_IP4_OK = false)) ∧
    (∃ (m : Fin 16) (s : State),
    (s.clientRuns m = true) ∧ ((s.client m).waiting = true) ∧ ((s.client m).failed = false) ∧ ((s.client m).due = false) ∧ ((s.client m).todo = []) ∧ (ofBe (slice 0 1 (s.client m).cur) = 0x10) ∧ (s.on (NET_CLIENT_STATUS_UP m) = false) ∧ (Room s portNet)) ∧
    (∃ (m : Fin 16) (s : State),
    (s.clientRuns m = true) ∧ ((s.client m).waiting = true) ∧ ((s.client m).todo = []) ∧ ((s.client m).due = false) ∧ ((s.client m).run = 0)) ∧
    (∃ (m : Fin 16) (s : State),
    (s.clientRuns m = true) ∧ (s.on (NET_CLIENT_STATUS_CONNECTED m) = true) ∧ ((s.client m).down = false) ∧ (Room s portNet)) ∧
    (∃ (m : Fin 16) (s : State),
    (s.clientRuns m = true) ∧ (s.on NET_STATUS_IP4_OK = true) ∧ (s.on (NET_CLIENT_STATUS_CONNECTED m) = false)) ∧
    (∃ (m : Fin 16) (s : State),
    (s.clientRuns m = true) ∧ (s.on NET_STATUS_IP4_OK = true) ∧ (s.on (NET_CLIENT_STATUS_CONNECTED m) = false) ∧ ((s.client m).down = true)) :=
  ⟨⟨1, 127, aduOf 127 [], served 1, by decide +kernel⟩,
   ⟨1, 0xEFFF, 1, 2, aduOf 16 (beBytes 2 0xEFFF ++ [0, 2, 4] ++ beBytes 2 1 ++ beBytes 2 2), served 1, by decide +kernel⟩,
   ⟨1, 0, aduOf 4 (beBytes 2 0 ++ [0, 0]), served 1, by decide +kernel⟩,
   ⟨2, 77, (served 1).put NET_MB_CFG_MAX_CONN 2, by decide +kernel⟩,
   ⟨2, 77, (served 1).put NET_MB_CFG_MAX_CONN 1, by decide +kernel⟩,
   ⟨2, 77, up, by decide +kernel⟩,
   ⟨1, served 1, by decide +kernel⟩,
   ⟨3, 5, 0x3F800000, polled {}, by decide +kernel⟩,
   ⟨3, polled asked, by decide +kernel⟩,
   ⟨3, true, up, by decide +kernel⟩,
   ⟨3, polled asked, by decide +kernel⟩,
   ⟨3, polled { waiting := true, polling := true, cur := [0x10] }, by decide +kernel⟩,
   ⟨3, polled {}, by decide +kernel⟩,
   ⟨3, (polled {}).putB (NET_CLIENT_STATUS_CONNECTED 3) false, by decide +kernel⟩,
   ⟨3, (polled { down := true, retry := 16 }).putB (NET_CLIENT_STATUS_CONNECTED 3) false, by decide +kernel⟩⟩

/-- States and operands that meet the hypotheses of `Obligations.HostSpi`, clause by clause. -/
theorem wit_HostSpi :
    (∃ (cmd : Word) (d : Word) (s : State),
    (s.configured = true) ∧ (s.caddy.fwRestart = false) ∧ (bits cmd 31 30 = 0) ∧ (cmd.getLsbD 29 = false) ∧ (s.net.hspi = none) ∧ (s.fab.txns = []) ∧ (s.fab.held = []) ∧ (s.net.mbQueue = []) ∧ (onLeat (bits cmd 23 0) = false) ∧ (mapped (bits cmd 23 0) = true) ∧ (latchMembers (bits cmd 23 0) = []) ∧ (s.captured 0x10 (bits cmd 23 0) = none)) ∧
    (∃ (cmd : Word) (d : Word) (r : HspiRead) (s : State),
    (s.configured = true) ∧ (s.caddy.fwRestart = false) ∧ (bits cmd 31 30 = 0) ∧ (cmd.getLsbD 29 = false) ∧ (s.net.hspi = some r) ∧ (r.value = none)) ∧
    (∃ (cmd : Word) (d : Word) (v : Word) (r : HspiRead) (s : State),
    (s.configured = true) ∧ (s.caddy.fwRestart = false) ∧ (bits cmd 31 30 = 2) ∧ (cmd.getLsbD 29 = false) ∧ (s.net.hspi = some r) ∧ (r.value = some v)) ∧
    (∃ (cmd : Word) (d : Word) (s : State),
    (s.configured = true) ∧ (s.caddy.fwRestart = false) ∧ (bits cmd 31 30 = 1) ∧ (cmd.getLsbD 29 = false) ∧ (bits cmd 23 0 = SYS_SCRATCH) ∧ (s.net.hspi = none) ∧ (s.loading = false)) ∧
    (∃ (cmd : Word) (d : Word) (n : Nat) (s : State),
    (s.configured = true) ∧ (s.caddy.fwRestart = false) ∧ ((n ≠ 64 ∨ bits cmd 31 30 = 3 ∨ cmd.getLsbD 29 = true))) ∧
    (∃ (cmd : Word) (d : Word) (n : Nat) (s : State),
    (s.configured = true) ∧ (s.caddy.fwRestart = true)) ∧
    (∃ (cmd : Word) (d : Word) (n : Nat) (s : State),
    (s.configured = false)) :=
  ⟨⟨0x03000000, 0, up, by decide +kernel⟩,
   ⟨0x03000000, 0, { tag := 1, addr := 8 }, { up with net := { up.net with hspi := some { tag := 1, addr := 8 } } }, by decide +kernel⟩,
   ⟨0x80000000, 0, 7, { tag := 31, addr := 8, value := some 7 }, { up with net := { up.net with hspi := some { tag := 31, addr := 8, value := some 7 } } }, by decide +kernel⟩,
   ⟨0x4000001C, 9, up, by decide +kernel⟩,
   ⟨0xE0000000, 0, 65, up, by decide +kernel⟩,
   ⟨0x80000000, 0, 64, { up with caddy := { up.caddy with fwRestart := true } }, by decide +kernel⟩,
   ⟨0, 0, 64, State.reset, by decide +kernel⟩⟩

/-- "$GPZDA,235959,01,06,2024,00,00*4A": one second before midnight. -/
def zda : List Byte := [36, 71, 80, 90, 68, 65, 44, 50, 51, 53, 57, 53, 57, 44, 48, 49, 44, 48, 54, 44, 50, 48, 50, 52, 44, 48, 48, 44, 48, 48, 42, 52, 65]
/-- A valid edge 100 ms ago. -/
def edgeAt (e : Nat) (fresh : Bool) : State :=
  { up with tim := { up.tim with edge := some e, edgeFresh := fresh, utc := some 86398000000000 } }
/-- The label of the sentence's second on the site time scale, with the reset value of the offset. -/
def labelNs (s : State) : Nat := (19875 * 86400 + 86399 + (toSigned 16 (s.get TIME_UTC_OFFSET_S)).toNat) * 1000000000
def acquiring (run good st e : Nat) : State :=
  { (edgeAt e true).put TIME_STATUS_STATE st with
    tim := { (edgeAt e true).tim with validRun := run, goodRun := good } }.putB TIME_CFG_SOURCE_GNSS true
def port6 : State := (up.putB (TIME_PTP_CFG_ENABLE 1) true).put (TIME_PTP_STATUS_PORT_STATE 1) 6

/-- States and operands that meet the hypotheses of `Obligations.GnssInput`, clause by clause. -/
theorem wit_GnssInput :
    (∃ (f : Bool) (at_ : Nat) (s : State),
    (s.isLoaded = true) ∧ (s.on TIME_GNSS_CFG_PPS_FALLING = f) ∧ ((s.tim.edge = none ∨
      ∃ p, s.tim.edge = some p ∧ p + 999800000 ≤ at_ - s.get TIME_GNSS_CFG_PPS_DELAY_NS ∧
        at_ - s.get TIME_GNSS_CFG_PPS_DELAY_NS ≤ p + 1000200000))) ∧
    (∃ (f : Bool) (at_ : Nat) (s : State),
    (s.isLoaded = true) ∧ (s.on TIME_GNSS_CFG_PPS_FALLING = f) ∧ ((s.tim.edge = none ∨
      ∃ p, s.tim.edge = some p ∧ p + 999800000 ≤ at_ - s.get TIME_GNSS_CFG_PPS_DELAY_NS ∧
        at_ - s.get TIME_GNSS_CFG_PPS_DELAY_NS ≤ p + 1000200000))) ∧
    (∃ (f : Bool) (at_ : Nat) (p : Nat) (s : State),
    (s.isLoaded = true) ∧ (s.on TIME_GNSS_CFG_PPS_FALLING = f) ∧ (s.tim.edge = some p) ∧ (p + 1000200000 < at_ - s.get TIME_GNSS_CFG_PPS_DELAY_NS)) ∧
    (∃ (f : Bool) (text : List Byte) (at_ : Nat) (s : State),
    (s.isLoaded = false)) ∧
    (∃ (f : Bool) (at_ : Nat) (s : State),
    (s.on TIME_GNSS_CFG_PPS_FALLING = !f)) ∧
    (∃ (text : List Byte) (at_ : Nat) (s : State),
    (nmeaOf text = .ignored)) ∧
    (∃ (text : List Byte) (day : Nat) (tod : Nat) (at_ : Nat) (e : Nat) (s : State),
    (s.isLoaded = true) ∧ (nmeaOf text = .utc day tod) ∧ (s.tim.edge = some e) ∧ ((at_ < e + 10000000 ∨ e + 900000000 < at_))) ∧
    (∃ (text : List Byte) (day : Nat) (tod : Nat) (at_ : Nat) (e : Nat) (s : State),
    (s.isLoaded = true) ∧ (nmeaOf text = .utc day tod) ∧ (s.tim.edge = some e) ∧ (e + 10000000 ≤ at_) ∧ (at_ ≤ e + 900000000) ∧ (1000000000 ≤ tod) ∧ (tod < 86400000000000) ∧ ((s.tim.utc = none ∨ s.tim.utc = some (tod - 1000000000))) ∧ (s.on TIME_UTC_LEAP59 = false) ∧ (s.tim.edgeFresh = false)) ∧
    (∃ (s : State),
    (s.tim.badMinute ≠ 0) ∧ (Room s portTime)) ∧
    (∃ (s : State),
    (s.tim.badMinute = 0)) ∧
    (∃ (s : State),
    (s.isLoaded = true) ∧ (s.on TIME_CFG_SOURCE_GNSS = true) ∧ (s.tim.rstLow = false) ∧ ((s.tim.lastRst = none ∨ ∃ p, s.tim.lastRst = some p ∧ p + 600 * 1024 ≤ s.optime)) ∧ (Room s portTime)) ∧
    (∃ (p : Nat) (s : State),
    (s.tim.lastRst = some p) ∧ (s.optime < p + 600 * 1024)) ∧
    (∃ (s : State),
    (s.tim.rstLow = true)) ∧
    (∃ (s : State),
    (s.isLoaded = true) ∧ (s.tim.rstLow = false)) :=
  ⟨⟨false, 1999800000, edgeAt 1000000000 true, by decide +kernel⟩,
   ⟨false, 2000200000, edgeAt 1000000000 true, by decide +kernel⟩,
   ⟨false, 2000200001, 1000000000, edgeAt 1000000000 true, by decide +kernel⟩,
   ⟨false, zda, 5, State.reset, by decide +kernel⟩,
   ⟨true, 5, up, by decide +kernel⟩,
   ⟨[65], 5, up, by decide +kernel⟩,
   ⟨zda, 19875, 86399000000000, 1009999999, 1000000000, edgeAt 1000000000 false, by decide +kernel⟩,
   ⟨zda, 19875, 86399000000000, 1010000000, 1000000000, edgeAt 1000000000 false, by decide +kernel⟩,
   ⟨{ up with tim := { up.tim with badMinute := 3 } }, by decide +kernel⟩,
   ⟨up, by decide +kernel⟩,
   ⟨{ up.setOptime 614400 with tim := { up.tim with lastRst := some 0 } }.putB TIME_CFG_SOURCE_GNSS true, by decide +kernel⟩,
   ⟨0, { up.setOptime 614399 with tim := { up.tim with lastRst := some 0 } }, by decide +kernel⟩,
   ⟨{ up with tim := { up.tim with rstLow := true } }, by decide +kernel⟩,
   ⟨up, by decide +kernel⟩⟩

/-- States and operands that meet the hypotheses of `Obligations.TimeStates`, clause by clause. -/
theorem wit_TimeStates :
    (∃ (text : List Byte) (day : Nat) (tod : Nat) (at_ : Nat) (e : Nat) (off : Int) (s : State),
    (s.isLoaded = true) ∧ (nmeaOf text = .utc day tod) ∧ (s.tim.edge = some e) ∧ (e + 10000000 ≤ at_) ∧ (at_ ≤ e + 900000000) ∧ (1000000000 ≤ tod) ∧ (tod < 86400000000000) ∧ ((s.tim.utc = none ∨ s.tim.utc = some (tod - 1000000000))) ∧ (s.on TIME_UTC_LEAP59 = false) ∧ (s.tim.edgeFresh = true) ∧ (s.on TIME_CFG_SOURCE_GNSS = true) ∧ (s.get TIME_STATUS_STATE = 0) ∧ (s.tim.validRun = 2) ∧ (s.tim.locked1 = false) ∧ (1000000 ≤ off.natAbs) ∧ (off = (day * 86400000000000 + tod : Nat) + toSigned 16 (s.get TIME_UTC_OFFSET_S) * 1000000000 - e) ∧ (Room s portTime)) ∧
    (∃ (text : List Byte) (day : Nat) (tod : Nat) (at_ : Nat) (e : Nat) (off : Int) (s : State),
    (s.isLoaded = true) ∧ (nmeaOf text = .utc day tod) ∧ (s.tim.edge = some e) ∧ (e + 10000000 ≤ at_) ∧ (at_ ≤ e + 900000000) ∧ (1000000000 ≤ tod) ∧ (tod < 86400000000000) ∧ ((s.tim.utc = none ∨ s.tim.utc = some (tod - 1000000000))) ∧ (s.on TIME_UTC_LEAP59 = false) ∧ (s.tim.edgeFresh = true) ∧ (s.on TIME_CFG_SOURCE_GNSS = true) ∧ (s.get TIME_STATUS_STATE = 1) ∧ (s.tim.goodRun = 59) ∧ (s.tim.step = none) ∧ (off.natAbs < 100) ∧ (off = (day * 86400000000000 + tod : Nat) + toSigned 16 (s.get TIME_UTC_OFFSET_S) * 1000000000 - e) ∧ (Room s portTime)) ∧
    (∃ (s : State),
    (s.mpUp = true) ∧ (s.get TIME_STATUS_STATE = 2) ∧ (Room s portTime)) ∧
    (∃ (s : State),
    (s.mpUp = true) ∧ (s.get TIME_STATUS_STATE = 3) ∧ (Room s portTime)) ∧
    (∃ (s : State),
    (s.get TIME_STATUS_STATE ≠ 3)) :=
  ⟨⟨zda, 19875, 86399000000000, 2010000000, 2000000000, (labelNs (acquiring 2 0 0 2000000000) : Int) - 2000000000, acquiring 2 0 0 2000000000, by decide +kernel⟩,
   ⟨zda, 19875, 86399000000000, labelNs up + 10000099, labelNs up + 99, -99, acquiring 0 59 1 (labelNs up + 99), by decide +kernel⟩,
   ⟨up.put TIME_STATUS_STATE 2, by decide +kernel⟩,
   ⟨up.put TIME_STATUS_STATE 3, by decide +kernel⟩,
   ⟨up.put TIME_STATUS_STATE 2, by decide +kernel⟩⟩

/-- States and operands that meet the hypotheses of `Obligations.TimeSteps`, clause by clause. -/
theorem wit_TimeSteps :
    (∃ (req : Nat) (s : State),
    (Writes s req TIME_SET_CMD 0x57E90000) ∧ (s.setRefused = false)) ∧
    (∃ (req : Nat) (s : State),
    (s.mpUp = true) ∧ ((s.loading = false ∨ req = 2)) ∧ (s.setRefused = true)) ∧
    (∃ (n : Int) (s : State),
    (s.tim.step = some n) ∧ (s.tim.site % 1000000 = 0) ∧ (s.tim.stepFrom + 1000000 ≤ s.tim.site) ∧ (0 ≤ (s.tim.site : Int) + n * 1000000) ∧ (Room s portTime)) ∧
    (∃ (s : State),
    ((s.tim.step = none ∨ s.tim.site % 1000000 ≠ 0 ∨ s.tim.site < s.tim.stepFrom + 1000000))) ∧
    (∃ (s : State),
    (s.tim.slew ≠ 0)) ∧
    (∃ (s : State),
    (s.tim.slew = 0)) ∧
    (∃ (s : State),
    (s.mpUp = true) ∧ (Room s portTime)) :=
  ⟨⟨0x41, (up.setReg TIME_SET_SEC_LO 5).setReg TIME_SET_NS 999999999, by decide +kernel⟩,
   ⟨0x41, (up.putB TIME_CFG_SOURCE_GNSS true).put TIME_STATUS_STATE 1, by decide +kernel⟩,
   ⟨-2, { up with tim := { up.tim with site := 2000000, stepFrom := 999999, step := some (-2), aon := 3 } }, by decide +kernel⟩,
   ⟨up, by decide +kernel⟩,
   ⟨{ up.putB TIME_STATUS_SLEWING true with tim := { up.tim with slew := -5, freq := 7 } }, by decide +kernel⟩,
   ⟨up, by decide +kernel⟩,
   ⟨up, by decide +kernel⟩⟩

/-- States and operands that meet the hypotheses of `Obligations.PtpAndPps`, clause by clause. -/
theorem wit_PtpAndPps :
    (∃ (n : Fin 2) (s : State),
    (s.ptpRuns n = true) ∧ (s.get (TIME_PTP_STATUS_PORT_STATE n) = 6)) ∧
    (∃ (n : Fin 2) (s : State),
    (s.ptpRuns n = true) ∧ (s.get (TIME_PTP_STATUS_PORT_STATE n) = 6)) ∧
    (∃ (n : Fin 2) (q : BitVec 16) (at_ : Nat) (s : State),
    (s.ptpRuns n = true) ∧ (s.get (TIME_PTP_STATUS_PORT_STATE n) = 6)) ∧
    (∃ (n : Fin 2) (d : BitVec 8) (ds : List Nat) (s : State),
    (s.ptpRuns n = true) ∧ (d.toNat = s.get (TIME_PTP_CFG_DOMAIN n)) ∧ (lexLess ds (s.ptpDataset n) = true) ∧ (s.get (TIME_PTP_STATUS_PORT_STATE n) = 6) ∧ (Room s portTime)) ∧
    (∃ (n : Fin 2) (q : BitVec 16) (at_ : Nat) (s : State),
    (s.get (TIME_PTP_STATUS_PORT_STATE n) = 7)) ∧
    (∃ (n : Fin 2) (s : State),
    (s.get (TIME_PTP_STATUS_PORT_STATE n) = 7)) ∧
    (∃ (s : State),
    (s.isLoaded = true) ∧ (s.on TIME_CFG_PPS_OUT_EN = true) ∧ (s.tim.lastPps = none)) ∧
    (∃ (m : Nat) (s : State),
    (s.tim.lastPps = some m) ∧ (s.tim.mono < m + 500000)) ∧
    (∃ (s : State),
    ((s.get TIME_CFG_PPS_OUT_EN = 0 ∨ s.isLoaded = false))) :=
  ⟨⟨1, port6, by decide +kernel⟩,
   ⟨1, port6, by decide +kernel⟩,
   ⟨1, 7, 1500000000, port6, by decide +kernel⟩,
   ⟨1, 0, [0, 6], (port6.put (TIME_PTP_CFG_PRIORITY1 1) 128).put (TIME_PTP_CFG_DOMAIN 1) 0, by decide +kernel⟩,
   ⟨1, 7, 5, port6.put (TIME_PTP_STATUS_PORT_STATE 1) 7, by decide +kernel⟩,
   ⟨1, port6.put (TIME_PTP_STATUS_PORT_STATE 1) 7, by decide +kernel⟩,
   ⟨up.putB TIME_CFG_PPS_OUT_EN true, by decide +kernel⟩,
   ⟨4, { up with tim := { up.tim with lastPps := some 4, mono := 500003 } }, by decide +kernel⟩,
   ⟨up.putB TIME_CFG_PPS_OUT_EN false, by decide +kernel⟩⟩

/-- Port 3 in a state of R195, with what its master keeps. -/
def cable (st : Nat) (x : SprinPort) : State :=
  { (up.put (SPRIN_STATUS_STATE 3) st).put (SPRIN_CFG_PERIOD_MS 3) 100 with
    sprin := [(3, x)] }
def bare (st : Nat) (x : SprinPort) : State := ((cable st x).put (SPRIN_CFG_ENUM_SCAN 3) 0).put (SPRIN_CFG_ALARM_CALLS 3) 0
def node7 : SprinNode := { state := 1, pollDiv := 1, run := 2, assigned := true }
def reply7 : List Byte :=
  [0x81, 254, 14] ++ [0x4F, 0] ++ [1, 2, 3, 4, 5, 6, 7, 8] ++ leBytes 4 1000
def alarm7 : List Byte :=
  [0x82, 254, 4, 9, 3] ++ leBytes 2 65535
/-- The half-bits of a frame on the line, and those of its end delimiter. -/
def onLine (f : List Byte) : List Bool :=
  (sprinLine ([0x55, 0x55, 0xD5] ++ f ++ leBytes 2 (crc16 f))).take (16 * (f.length + 5))
def endOf (f : List Byte) : List Bool :=
  (sprinLine ([0x55, 0x55, 0xD5] ++ f ++ leBytes 2 (crc16 f))).drop (16 * (f.length + 5))

/-- States and operands that meet the hypotheses of `Obligations.SprinCycle`, clause by clause. -/
theorem wit_SprinCycle :
    (∃ (p : Fin 24) (ma : Nat) (s : State),
    (s.pst p = 4) ∧ (s.dpUp = true) ∧ (s.tim.dp % (s.get (SPRIN_CFG_PERIOD_MS p) * 1000000) = 0) ∧ ((s.port p).wait = .idle) ∧ ((s.port p).polls = []) ∧ ((s.port p).nodes = []) ∧ ((s.port p).running = false) ∧ ((s.port p).identify = none) ∧ ((s.port p).search = none) ∧ (s.on (SPRIN_NCMD_BUSY p) = false) ∧ (s.get (SPRIN_CFG_ENUM_SCAN p) = 0) ∧ (s.get (SPRIN_CFG_ALARM_CALLS p) = 0)) ∧
    (∃ (p : Fin 24) (a : Fin 255) (ma : Nat) (n : SprinNode) (s : State),
    (s.pst p = 4) ∧ (s.dpUp = true) ∧ (s.tim.dp % (s.get (SPRIN_CFG_PERIOD_MS p) * 1000000) = 0) ∧ ((s.port p).wait = .idle) ∧ ((s.port p).polls = []) ∧ ((s.port p).nodes = [(a.val, n)]) ∧ (s.smap.nodes = []) ∧ (n.state = 1) ∧ (n.pending = false) ∧ ((s.port p).running = false) ∧ ((s.port p).deferred = []) ∧ ((s.port p).identify = none) ∧ ((s.port p).search = none) ∧ (s.on (SPRIN_NCMD_BUSY p) = false) ∧ (s.get (SPRIN_CFG_ENUM_SCAN p) = 0) ∧ (s.get (SPRIN_CFG_ALARM_CALLS p) = 0) ∧ (s.get (SPRIN_CFG_PERIOD_MS p) ≠ 0)) ∧
    (∃ (p : Fin 24) (ma : Nat) (s : State),
    (((s.pst p ≠ 3 ∧ s.pst p ≠ 4) ∨ s.dpUp = false ∨
    s.tim.dp % (s.get (SPRIN_CFG_PERIOD_MS p) * 1000000) ≠ 0))) ∧
    (∃ (p : Fin 24) (a : Fin 255) (rtt : Nat) (us : Nat) (st : Byte) (vals : List Byte) (frame : List Byte) (line : List Bool) (last : List Bool) (s : State),
    (s.dpUp = true) ∧ (s.pst p ≠ 8) ∧ ((s.port p).wait = .poll a false false) ∧ ((s.port p).running = false) ∧ (((s.port p).node a).state = 1) ∧ (s.smap.pubs = []) ∧ (500 ≤ rtt) ∧ (rtt ≤ 3000) ∧ (s.tim.tepoch < 256) ∧ (st.toNat.testBit 6 = true) ∧ (vals.length = 8) ∧ (frame = [0x81, BitVec.ofNat 8 a.val, 14] ++ [st, BitVec.ofNat 8 s.tim.tepoch] ++ vals ++ leBytes 4 us) ∧ (us < 2 ^ 32) ∧ (sampleTime us ((s.port p).start + (s.port p).busy + rtt) ≠ none) ∧ (line ++ last = sprinLine ([0x55, 0x55, 0xD5] ++ frame ++ leBytes 2 (crc16 frame)))) ∧
    (∃ (p : Fin 24) (rtt : Nat) (line : List Bool) (last : List Bool) (s : State),
    (s.dpUp = true) ∧ (s.pst p ≠ 8) ∧ ((rtt < 500 ∨ 3000 < rtt))) ∧
    (∃ (p : Fin 24) (rtt : Nat) (line : List Bool) (last : List Bool) (s : State),
    (s.dpUp = true) ∧ (s.pst p ≠ 8) ∧ ((rtt < 500 ∨ 3000 < rtt))) ∧
    (∃ (p : Fin 24) (rtt : Nat) (line : List Bool) (last : List Bool) (s : State),
    ((s.dpUp = false ∨ s.pst p = 8))) ∧
    (∃ (p : Fin 24) (a : Fin 255) (s : State),
    (s.dpUp = true) ∧ (s.pst p = 4) ∧ ((s.port p).wait = .poll a false false) ∧ (s.busFits p 45000 (s.port p).calls = true)) ∧
    (∃ (p : Fin 24) (a : Fin 255) (s : State),
    (s.dpUp = true) ∧ ((s.port p).wait = .poll a true false) ∧ (((s.port p).node a).state = 1) ∧ (((s.port p).node a).run = 2) ∧ ((s.port p).running = false) ∧ (s.smap.pubs = []) ∧ (Room s portSprin)) ∧
    (∃ (p : Fin 24) (s : State),
    ((s.dpUp = false ∨ (s.port p).wait = .idle))) ∧
    (∃ (p : Fin 24) (a : Fin 255) (rtt : Nat) (v : Nat) (code : Byte) (seq : Byte) (frame : List Byte) (line : List Bool) (last : List Bool) (s : State),
    (s.dpUp = true) ∧ (s.pst p ≠ 8) ∧ ((s.port p).wait = .call) ∧ ((s.port p).running = false) ∧ (((s.port p).node a).alarmed = false) ∧ (500 ≤ rtt) ∧ (rtt ≤ 3000) ∧ (v < 65536) ∧ (frame = [0x82, BitVec.ofNat 8 a.val, 4, code, seq] ++ leBytes 2 v) ∧ (line ++ last = sprinLine ([0x55, 0x55, 0xD5] ++ frame ++ leBytes 2 (crc16 frame))) ∧ (Room s portSprin)) :=
  ⟨⟨3, 2000, bare 4 {}, by decide +kernel⟩,
   ⟨3, 254, 2000, node7, bare 4 { nodes := [(254, node7)] }, by decide +kernel⟩,
   ⟨3, 0, cable 5 {}, by decide +kernel⟩,
   ⟨3, 254, 500, 1000, 0x4F, [1, 2, 3, 4, 5, 6, 7, 8], reply7, onLine reply7, endOf reply7, cable 4 { wait := .poll 254 false false, nodes := [(254, node7)], start := 1000000 }, by decide +kernel⟩,
   ⟨3, 499, [], [], cable 4 {}, by decide +kernel⟩,
   ⟨3, 3001, [], [], cable 4 {}, by decide +kernel⟩,
   ⟨3, 600, [], [], cable 8 {}, by decide +kernel⟩,
   ⟨3, 254, cable 4 { wait := .poll 254 false false, nodes := [(254, node7)], limit := 100000 }, by decide +kernel⟩,
   ⟨3, 254, cable 4 { wait := .poll 254 true false, nodes := [(254, node7)] }, by decide +kernel⟩,
   ⟨3, cable 4 {}, by decide +kernel⟩,
   ⟨3, 254, 3000, 65535, 9, 3, alarm7, onLine alarm7, endOf alarm7, cable 4 { wait := .call, nodes := [(254, node7)] }, by decide +kernel⟩⟩

/-- States and operands that meet the hypotheses of `Obligations.SprinEnumeration`, clause by clause. -/
theorem wit_SprinEnumeration :
    (∃ (p : Fin 24) (n : Nat) (pfx : Nat) (hit : Bool) (q : Search) (s : State),
    (s.dpUp = true) ∧ ((s.port p).wait = .query n pfx) ∧ (1 ≤ n) ∧ (n < 64) ∧ ((s.port p).search = some q) ∧ ((s.port p).running = true) ∧ ((s.port p).identify = none) ∧ ((s.port p).hostTurn = false) ∧ ((s.port p).searchTurn = true) ∧ (s.pst p = 3) ∧ ((s.port p).polls = []) ∧ ((s.port p).calls = 0) ∧ ((s.port p).free + 2560 + 30760 < (s.port p).limit)) ∧
    (∃ (p : Fin 24) (pfx : Nat) (q : Search) (s : State),
    (s.dpUp = true) ∧ ((s.port p).wait = .query 0 pfx) ∧ ((s.port p).search = some q) ∧ ((s.port p).running = false) ∧ (s.pst p = 3) ∧ (Room s portSprin)) ∧
    (∃ (p : Fin 24) (hit : Bool) (s : State),
    (s.dpUp = true) ∧ ((s.port p).wait = .scan) ∧ ((s.port p).running = false)) ∧
    (∃ (p : Fin 24) (s : State),
    (s.dpUp = true) ∧ (s.pst p = 2) ∧ ((s.port p).cycling = false)) ∧
    (∃ (p : Fin 24) (s : State),
    ((s.dpUp = false ∨ s.pst p ≠ 2))) ∧
    (∃ (req : Nat) (p : Fin 24) (w : BusWait) (s : State),
    (Writes s req (SPRIN_CMD p) 0x5E710100) ∧ ((s.pst p = 3 ∨ s.pst p = 4)) ∧ ((s.port p).running = false) ∧ ((s.port p).wait = w) ∧ ((w = .idle ∨ w = .call))) ∧
    (∃ (req : Nat) (p : Fin 24) (a : BitVec 8) (s : State),
    (Writes s req (SPRIN_CMD p) (0x5E710300 ||| a.setWidth 32)) ∧ (s.supplyOn p = true)) ∧
    (∃ (req : Nat) (p : Fin 24) (v : Word) (s : State),
    (Writes s req (SPRIN_NCMD p) (0x80000000 ||| v)) ∧ (s.supplyOn p = true)) ∧
    (∃ (req : Nat) (p : Fin 24) (v : Word) (s : State),
    (Writes s req (SPRIN_NCMD p) (0x80000000 ||| v)) ∧ (s.supplyOn p = false)) ∧
    (∃ (p : Fin 24) (s : State),
    (s.dpUp = true) ∧ ((s.port p).mDeferred = 0) ∧ ((s.port p).mErrors + (s.port p).mTimeouts ≠ 0) ∧ (Room s portSprin)) ∧
    (∃ (p : Fin 24) (s : State),
    (s.dpUp = true) ∧ ((s.port p).mDeferred ≠ 0) ∧ ((s.port p).mErrors + (s.port p).mTimeouts + (s.port p).mOther = 0) ∧ (Room s portSprin)) :=
  ⟨⟨3, 63, 2, false, {}, cable 3 { wait := .query 63 2, search := some {}, running := true, searchTurn := true, limit := 33321 }, by decide +kernel⟩,
   ⟨3, 0, {}, cable 3 { wait := .query 0 0, search := some {} }, by decide +kernel⟩,
   ⟨3, true, cable 4 { wait := .scan }, by decide +kernel⟩,
   ⟨3, cable 2 {}, by decide +kernel⟩,
   ⟨3, cable 4 {}, by decide +kernel⟩,
   ⟨0x41, 3, .call, cable 4 { nodes := [(254, node7)], wait := .call }, by decide +kernel⟩,
   ⟨0x41, 3, 254, cable 4 {}, by decide +kernel⟩,
   ⟨0x41, 3, 0x01000607, cable 4 {}, by decide +kernel⟩,
   ⟨0x41, 3, 0x01000607, cable 5 {}, by decide +kernel⟩,
   ⟨3, cable 4 { mErrors := 1 }, by decide +kernel⟩,
   ⟨3, cable 4 { mDeferred := 1 }, by decide +kernel⟩⟩

/-- States and operands that meet the hypotheses of `Obligations.SprinSupply`, clause by clause. -/
theorem wit_SprinSupply :
    (∃ (p : Fin 24) (ma : Nat) (s : State),
    (s.dpUp = true) ∧ (s.supplyOn p = true) ∧ ((s.port p).running = false) ∧ ((s.port p).wait = .idle) ∧ ((s.port p).polls = []) ∧ (s.on (SPRIN_NCMD_BUSY p) = true) ∧ (Room s portSprin)) ∧
    (∃ (p : Fin 24) (ma : Nat) (s : State),
    ((s.dpUp = false ∨ s.supplyOn p = false))) ∧
    (∃ (p : Fin 24) (s : State),
    (s.dpUp = true) ∧ (s.pst p = 5)) ∧
    (∃ (p : Fin 24) (s : State),
    (s.dpUp = true) ∧ (s.pst p = 6)) ∧
    (∃ (p : Fin 24) (s : State),
    ((s.dpUp = false ∨ s.pst p ≠ 6))) ∧
    (∃ (p : Fin 24) (s : State),
    (s.dpUp = true) ∧ (s.pst p = 4) ∧ ((s.port p).running = false) ∧ ((s.port p).stuckAt = none) ∧ ((s.port p).wait = .idle) ∧ ((s.port p).polls = []) ∧ (s.on (SPRIN_NCMD_BUSY p) = false) ∧ (s.rel.tests = []) ∧ (s.relBusy (.sprin p) = false) ∧ (s.recentTransients (.sprin p) < s.get REL_CFG_REPEAT_N) ∧ (Room s portSprin)) ∧
    (∃ (p : Fin 24) (at_ : Nat) (s : State),
    (s.dpUp = true) ∧ (s.pst p = 4) ∧ ((s.port p).running = false) ∧ ((s.port p).stuckAt = some at_) ∧ ((s.port p).wait = .idle) ∧ ((s.port p).polls = []) ∧ (s.optime ≤ at_ + 61440) ∧ (s.on (SPRIN_NCMD_BUSY p) = false) ∧ (s.mpUp = true) ∧ ((s.log.fifo portSprin).length < 15)) ∧
    (∃ (p : Fin 24) (s : State),
    ((s.dpUp = false ∨ s.pst p ≠ 3 ∧ s.pst p ≠ 4))) ∧
    (∃ (req : Nat) (p : Fin 24) (s : State),
    (Writes s req (SPRIN_CMD p) 0x5E710200) ∧ (s.supplyOn p = true) ∧ ((s.port p).running = false) ∧ ((s.port p).wait = .idle) ∧ ((s.port p).polls = []) ∧ (s.on (SPRIN_NCMD_BUSY p) = false)) ∧
    (∃ (p : Fin 24) (s : State),
    (s.dpUp = true) ∧ ((s.port p).cycling = true)) ∧
    (∃ (p : Fin 24) (s : State),
    ((s.dpUp = false ∨ (s.port p).cycling = false))) :=
  ⟨⟨3, 250, (cable 4 { nodes := [(254, node7)] }).putB (SPRIN_NCMD_BUSY 3) true, by decide +kernel⟩,
   ⟨3, 250, cable 5 {}, by decide +kernel⟩,
   ⟨3, cable 5 {}, by decide +kernel⟩,
   ⟨3, cable 6 {}, by decide +kernel⟩,
   ⟨3, cable 5 {}, by decide +kernel⟩,
   ⟨3, cable 4 { nodes := [(254, node7)] }, by decide +kernel⟩,
   ⟨3, 0, { cable 4 { stuckAt := some 0 } with est := {} }.setOptime 61440, by decide +kernel⟩,
   ⟨3, cable 5 {}, by decide +kernel⟩,
   ⟨0x41, 3, cable 4 { nodes := [(254, node7)] }, by decide +kernel⟩,
   ⟨3, cable 2 { cycling := true }, by decide +kernel⟩,
   ⟨3, cable 2 {}, by decide +kernel⟩⟩

/-- Input 9 in a mode of R198, and what its channel keeps. -/
def input (m : Nat) (x : FieldIn) : State :=
  { (up.put (FIELD_CFG_MODE 9) m).setReg (FIELD_SCALE 9) 0x40000000 with
    field := [(9, x)]
    smap := { up.smap with pubs := [{ entry := 20, kind := 0, body := 0, arg0 := fieldSource 9 false, qty := 0, firm := false }] } }
def output5 (rb : Word) : State := (up.put (AIO_AO_CFG_MODE 5) 1).setReg (AIO_AO_READBACK 5) rb
def pulse2 (x : Pulse) : State :=
  { (up.putB (AIO_PI_CFG_ENABLE 2) true).put (AIO_PI_CFG_FILTER 2) 3 with pulse := [(2, x)] }

/-- States and operands that meet the hypotheses of `Obligations.FieldInputs`, clause by clause. -/
theorem wit_FieldInputs :
    (∃ (i : Fin 32) (raw : BitVec 24) (y : List F32) (at_ : Nat) (n : Nat) (p : Pub) (s : State),
    (s.dpUp = true) ∧ (windowEnds i (s.get (FIELD_CFG_RATE i)) at_ = true) ∧ (s.get (FIELD_CFG_MODE i) = 1) ∧ (s.on (FIELD_STATUS_FENCED i) = false) ∧ (s.on (FIELD_STATUS_TESTING i) = false) ∧ (s.on (FIELD_STATUS_BROKEN i) = false) ∧ ((s.fin i).settle = 0) ∧ (raw.toInt.natAbs * 1024 ≤ 1020 * 2 ^ 23) ∧ (s.fieldPubs i false = [p]) ∧ (s.fieldPubs i true = []) ∧ (p.entry = n)) ∧
    (∃ (i : Fin 32) (raw : BitVec 24) (y : List F32) (at_ : Nat) (s : State),
    (s.dpUp = true) ∧ (windowEnds i (s.get (FIELD_CFG_RATE i)) at_ = true) ∧ (s.get (FIELD_CFG_MODE i) = 1) ∧ (s.on (FIELD_STATUS_FENCED i) = false) ∧ (s.on (FIELD_STATUS_TESTING i) = false) ∧ (s.on (FIELD_STATUS_BROKEN i) = false) ∧ (2 ≤ (s.fin i).settle)) ∧
    (∃ (i : Fin 32) (raw : BitVec 24) (y : List F32) (at_ : Nat) (s : State),
    (s.dpUp = true) ∧ (windowEnds i (s.get (FIELD_CFG_RATE i)) at_ = true) ∧ (s.get (FIELD_CFG_MODE i) = 2) ∧ (s.on (FIELD_STATUS_FENCED i) = false) ∧ (s.on (FIELD_STATUS_TESTING i) = false) ∧ (s.on (FIELD_STATUS_BROKEN i) = false) ∧ ((s.fin i).settle ≠ 0) ∧ (raw.toInt * 256 < 5 * 2 ^ 23) ∧ (Room s portField)) ∧
    (∃ (i : Fin 32) (raw : BitVec 24) (y : List F32) (at_ : Nat) (s : State),
    ((s.dpUp = false ∨ s.get (FIELD_CFG_MODE i) = 0 ∨
    windowEnds i (s.get (FIELD_CFG_RATE i)) at_ = false ∨
    s.on (FIELD_STATUS_FENCED i) = true ∨ s.on (FIELD_STATUS_TESTING i) = true))) ∧
    (∃ (i : Fin 32) (s : State),
    (s.dpUp = true) ∧ (s.get (FIELD_CFG_MODE i) = 2) ∧ ((s.fin i).shuntOpen = false) ∧ (Room s portField)) ∧
    (∃ (i : Fin 32) (s : State),
    ((s.dpUp = false ∨ s.get (FIELD_CFG_MODE i) ≠ 2))) ∧
    (∃ (i : Fin 32) (s : State),
    (s.dpUp = true) ∧ ((s.fin i).shuntOpen = true)) :=
  ⟨⟨9, 0x7F8000, [], 500900000, 20, { entry := 20, kind := 0, body := 0, arg0 := fieldSource 9 false, qty := 0, firm := false }, input 1 {}, by decide +kernel⟩,
   ⟨9, 0x100000, [], 500900000, input 1 { settle := 2 }, by decide +kernel⟩,
   ⟨9, 163839, [], 500900000, input 2 { settle := 1 }, by decide +kernel⟩,
   ⟨9, 0, [], 5, input 0 {}, by decide +kernel⟩,
   ⟨9, input 2 {}, by decide +kernel⟩,
   ⟨9, input 3 {}, by decide +kernel⟩,
   ⟨9, input 2 { shuntOpen := true }, by decide +kernel⟩⟩

/-- States and operands that meet the hypotheses of `Obligations.AnalogAndPulse`, clause by clause. -/
theorem wit_AnalogAndPulse :
    (∃ (n : Fin 8) (s : State),
    (s.aoCondition n = 1) ∧ (s.aoFaulted n = false) ∧ (s.aoBlind n = false) ∧ (s.rel.tests = []) ∧ (s.relBusy (.aoMon n) = false) ∧ (s.recentTransients (.aoMon n) < s.get REL_CFG_REPEAT_N) ∧ (Room s portAio)) ∧
    (∃ (n : Fin 8) (s : State),
    (s.aoCondition n = 0) ∧ (s.aoFaulted n = false)) ∧
    (∃ (n : Fin 8) (s : State),
    (s.aoFaulted n = true) ∧ (s.aoCondition n = 0) ∧ (Room s portAio)) ∧
    (∃ (n : Fin 8) (s : State),
    ((s.aoFaulted n = false ∨ s.aoCondition n ≠ 0))) ∧
    (∃ (n : Fin 4) (up : Bool) (d : Nat) (at_ : Nat) (s : State),
    (s.on (AIO_PI_CFG_ENABLE n) = true) ∧ (s.cpUp = true) ∧ (s.isLoaded = true) ∧ ((s.pin n).level ≠ some up) ∧ (d < 20 * s.get (AIO_PI_CFG_FILTER n))) ∧
    (∃ (n : Fin 4) (up : Bool) (d : Nat) (at_ : Nat) (l : Nat) (s : State),
    (s.on (AIO_PI_CFG_ENABLE n) = true) ∧ (s.cpUp = true) ∧ (s.isLoaded = true) ∧ ((s.pin n).level ≠ some up) ∧ (20 * s.get (AIO_PI_CFG_FILTER n) ≤ d) ∧ (s.on (AIO_PI_CFG_FALLING n) = !up) ∧ ((s.pin n).last = some l) ∧ (l + 10000 ≤ at_ / 5 * 5)) ∧
    (∃ (n : Fin 4) (up : Bool) (d : Nat) (at_ : Nat) (s : State),
    (s.on (AIO_PI_CFG_ENABLE n) = true) ∧ (s.cpUp = true) ∧ (s.isLoaded = true) ∧ ((s.pin n).level ≠ some up) ∧ (20 * s.get (AIO_PI_CFG_FILTER n) ≤ d) ∧ (s.on (AIO_PI_CFG_FALLING n) = up)) ∧
    (∃ (n : Fin 4) (up : Bool) (d : Nat) (at_ : Nat) (s : State),
    (((s.pin n).level = some up ∨ s.on (AIO_PI_CFG_ENABLE n) = false))) ∧
    (∃ (n : Fin 4) (s : State),
    (s.on (AIO_PI_CFG_ENABLE n) = true) ∧ ((s.pin n).last.all (fun l => decide (s.get (AIO_PI_CFG_TIMEOUT n) * 100000000 < s.tim.cp - l)) = true)) ∧
    (∃ (n : Fin 4) (l : Nat) (s : State),
    ((s.pin n).last = some l) ∧ (s.tim.cp - l ≤ s.get (AIO_PI_CFG_TIMEOUT n) * 100000000)) ∧
    (∃ (n : Fin 4) (s : State),
    ((s.pin n).overMinute = true) ∧ (Room s portAio)) ∧
    (∃ (n : Fin 4) (s : State),
    ((s.pin n).overMinute = false)) :=
  ⟨⟨5, output5 0x40A00000, by decide +kernel⟩,
   ⟨5, output5 0, by decide +kernel⟩,
   ⟨5, up.putB (AIO_AO_STATUS_DEVIATION 5) true, by decide +kernel⟩,
   ⟨5, up, by decide +kernel⟩,
   ⟨2, true, 59, 70000, pulse2 {}, by decide +kernel⟩,
   ⟨2, true, 60, 70000, 60000, pulse2 { last := some 60000 }, by decide +kernel⟩,
   ⟨2, false, 60, 70000, pulse2 { level := some true }, by decide +kernel⟩,
   ⟨2, true, 60, 70000, pulse2 { level := some true }, by decide +kernel⟩,
   ⟨2, pulse2 {}, by decide +kernel⟩,
   ⟨2, 70000, pulse2 { last := some 70000 }, by decide +kernel⟩,
   ⟨2, pulse2 { overMinute := true }, by decide +kernel⟩,
   ⟨2, pulse2 {}, by decide +kernel⟩⟩

/-- A running module whose zone 1 holds its WARN, or is free of it. -/
def warned (dwell : Bool) : State := (up.putB (GUARD_ZONE_STATUS_WARN 1) true).putB (GUARD_ZONE_STATUS_WARN_DWELL 1) dwell
def counted (z : Nat) (cut : Bool) (n : Nat) : State := { up with guard := { up.guard with counts := [(memKey z cut n, 2)] } }
def temp (s : State) (z : Nat) (cut : Bool) : Word := BitVec.ofInt 32 (s.zoneThr z cut)
def cooled : State := { State.reset with guard := { State.reset.guard with halted := true, haltZone := 2, haltZones := [2] } }

/-- States and operands that meet the hypotheses of `Obligations.GuardSampling`, clause by clause. -/
theorem wit_GuardSampling :
    (∃ (n : Fin 22) (a : Word) (b : Word) (s : State),
    (16 ≤ n.val) ∧ (s.aonUp = true) ∧ (s.guardBroken n = false) ∧ (s.guard.halted = false) ∧ (s.on (GUARD_READING_HALF n) = false) ∧ (-32768 ≤ a.toInt) ∧ (b.toInt ≤ a.toInt) ∧ (a.toInt ≤ 32766) ∧ ((∀ z, z < 8 → ∀ c, s.zoneAt z c = false ∧ a.toInt < s.zoneThr z c)) ∧ (s.pwr.cutP0 = false) ∧ (s.pwr.cutP1 = false)) ∧
    (∃ (n : Fin 22) (a : Word) (b : Word) (s : State),
    (s.aonUp = true) ∧ (s.guardBroken n = false) ∧ (s.zonesOf n = []) ∧ (s.guard.halted = false) ∧ ((∀ x, x < 4 → s.zonesHolding x = [])) ∧ (s.pwr.cutP0 = false) ∧ (s.pwr.cutP1 = false) ∧ (Room s portAon)) ∧
    (∃ (n : Fin 22) (a : Word) (b : Word) (o : Bool) (p : Bool) (s : State),
    (s.aonUp = false) ∧ (s.guard.halted = false)) ∧
    (∃ (a : Word) (b : Word) (s : State),
    (s.aonUp = true) ∧ (s.guardBroken 17 = false) ∧ (s.on (GUARD_READING_HALF 17) = false) ∧ (s.guard.halted = false) ∧ (b.toInt ≤ a.toInt) ∧ (s.zoneThr 1 false ≤ a.toInt) ∧ (a.toInt < s.zoneThr 1 true) ∧ (a.toInt ≤ 32766) ∧ (-32768 ≤ a.toInt) ∧ (a.toInt ≠ 32767) ∧ ((∀ z, z < 8 → ∀ c, s.zoneAt z c = false)) ∧ (tget (fun _ => 0) s.guard.counts (memKey 1 false 17) = 2) ∧ (s.get (GUARD_ZONE_CFG_WARN_ACT 1) = 1) ∧ (s.on GUARD_STATUS_FANS_FORCED = true) ∧ (s.guard.fansOver = 65535) ∧ (s.pwr.cutP0 = false) ∧ (s.pwr.cutP1 = false) ∧ (Room s portAon)) ∧
    (∃ (z : Fin 8) (s : State),
    (s.aonUp = true) ∧ (s.on (GUARD_ZONE_STATUS_WARN_DWELL z) = true) ∧ (s.zoneAt z false = true) ∧ (s.zoneAt z true = false) ∧ (s.guard.halted = false) ∧ (s.pwr.cutP0 = false) ∧ (s.pwr.cutP1 = false) ∧ ((∀ y, y < 8 → y ≠ z.val → s.zoneAt y false = false ∧ s.zoneAt y true = false)) ∧ (Room s portAon)) ∧
    (∃ (z : Fin 8) (cut : Bool) (s : State),
    (s.aonUp = true) ∧ (s.zoneAt z cut = true) ∧ (s.on (if cut then GUARD_ZONE_STATUS_CUT_DWELL z else GUARD_ZONE_STATUS_WARN_DWELL z) = true) ∧ ((cut = false → s.zoneAt z true = false)) ∧ (s.zonesHolding gHalt = []) ∧ (s.pwr.cutP0 = !(s.zonesHolding gCutP0).isEmpty) ∧ (s.pwr.cutP1 = !(s.zonesHolding gCutP1).isEmpty)) ∧
    (∃ (z : Fin 8) (cut : Bool) (s : State),
    (s.guard.halted = false) ∧ ((s.on (if cut then GUARD_ZONE_STATUS_CUT_DWELL z else GUARD_ZONE_STATUS_WARN_DWELL z) = false ∨
      (cut = false ∧ s.zoneAt z true = true)))) :=
  ⟨⟨16, 480, 470, ((List.range 8).foldl (fun s z => s.setReg (GUARD_ZONE_THR z) 0x7FFF7FFF) up), by decide +kernel⟩,
   ⟨0, 0, 0, up, by decide +kernel⟩,
   ⟨16, 480, 470, true, true, { up with pwr := { up.pwr with collapsed := true } }, by decide +kernel⟩,
   ⟨temp up 1 false, temp up 1 false, { (counted 1 false 17).putB GUARD_STATUS_FANS_FORCED true with guard := { (counted 1 false 17).guard with fansOver := 65535 } }, by decide +kernel⟩,
   ⟨1, warned true, by decide +kernel⟩,
   ⟨1, true, { ((warned false).putB (GUARD_ZONE_STATUS_CUT 1) true).putB (GUARD_ZONE_STATUS_CUT_DWELL 1) true with pwr := { up.pwr with cutP0 := true } }, by decide +kernel⟩,
   ⟨1, false, warned false, by decide +kernel⟩⟩

/-- States and operands that meet the hypotheses of `Obligations.GuardHalt`, clause by clause. -/
theorem wit_GuardHalt :
    (∃ (a : Word) (b : Word) (s : State),
    (s.aonUp = true) ∧ (s.cpUp = true) ∧ (s.guardBroken 16 = false) ∧ (s.on (GUARD_READING_HALF 16) = false) ∧ (s.guard.halted = false) ∧ (s.on REL_STATUS_HOLD = false) ∧ (b.toInt ≤ a.toInt) ∧ (s.zoneThr 0 true ≤ a.toInt) ∧ (a.toInt ≤ 32766) ∧ (-32768 ≤ a.toInt) ∧ (s.zoneThr 0 true ≠ 32767) ∧ ((∀ z, z < 8 → ∀ c, s.zoneAt z c = false)) ∧ (tget (fun _ => 0) s.guard.counts (memKey 0 true 16) = 2) ∧ ((s.get (GUARD_ZONE_CFG_CUT_ACT 0)).testBit 3 = true) ∧ ((s.log.fifo portAon) = []) ∧ (s.pwr.sluice = none)) ∧
    (∃ (used : BitVec 10) (n : GraceFlush) (s : State),
    (s.guard.grace = true) ∧ (s.planesHeld = false)) ∧
    (∃ (used : BitVec 10) (n : GraceFlush) (s : State),
    (s.guard.grace = false)) ∧
    (∃ (s : State),
    (s.aonUp = true) ∧ (s.restartReady = true) ∧ (s.pwr.sluiceDone = false)) ∧
    (∃ (s : State),
    (s.restartReady = false)) :=
  ⟨⟨temp up 0 true, 0, counted 0 true 16, by decide +kernel⟩,
   ⟨250, ⟨3, 0⟩, { up with guard := { up.guard with halted := true, grace := true } }, by decide +kernel⟩,
   ⟨250, ⟨3, 0⟩, up, by decide +kernel⟩,
   ⟨cooled, by decide +kernel⟩,
   ⟨up, by decide +kernel⟩⟩

/-- Body 6 in a state of R244, and what it keeps. -/
def body6 (st : Nat) (b : Body) : State :=
  { (up.putB (MILL_BODY_CFG_PRESENT 6) true).put (MILL_BODY_STATUS_STATE 6) st with mill := { up.mill with bodies := [(6, b)] } }
def at6 (ms : Nat) (s : State) : State := { s with tim := { s.tim with dp := ms * 1000000, mp := ms * 1000000 } }
def stepRun (tiles : List Nat) : StepRun := { te := 60000, inputs := {}, tiles := tiles, began := 0 }
def anchor6 : Anchor :=
  { source := 0, body := 6, qty := 0, gain := 0, noHold := false, cell := 0, rh := 1, rv := 1, sigma := 0x7FC00000
    bias := 0, gate := 0 }
def anchored (s : State) : State := { s with smap := { s.smap with anchors := [anchor6] } }
def pub6 : Pub := { entry := 700, kind := 1, body := 6, arg0 := 0, qty := 0, firm := false }
def quad6 (w : Work) (s : State) : State := { s with mill := { s.mill with quads := [(3, w)] } }
def read6 (stamp : Nat) : Reading := { anchor := 0, value := 0x41200000, sigma := 0x3F800000, stamp := stamp }
def inbox6 (stamp : Nat) (s : State) : State := { anchored s with mill := { s.mill with inbox := [read6 stamp] } }
def solve6 (ppm : Nat) : SolveRun := { cls := 2, passes := 15, cycles := 31, ppm := ppm }

/-- States and operands that meet the hypotheses of `Obligations.MillSteps`, clause by clause. -/
theorem wit_MillSteps :
    (∃ (k : Fin 16) (s : State),
    (s.bst k = 2) ∧ ((s.body k).run = none) ∧ ((s.body k).ready = []) ∧ ((s.body k).rollTo = none) ∧ ((s.body k).late = []) ∧ ((s.body k).holdDue = false) ∧ ((s.body k).pauseDue = false) ∧ ((s.body k).exporting = false) ∧ (s.lanesUp = true) ∧ ((s.body k).tm + s.stepMs k ≤ s.siteMs)) ∧
    (∃ (k : Fin 16) (s : State),
    (s.bst k = 4) ∧ ((s.body k).run = none) ∧ ((s.body k).ready = []) ∧ ((s.body k).rollTo = none) ∧ ((s.body k).late = []) ∧ ((s.body k).holdDue = false) ∧ ((s.body k).pauseDue = false) ∧ (s.lanesUp = true) ∧ ((s.body k).tm + s.stepMs k ≤ s.siteMs)) ∧
    (∃ (k : Fin 16) (s : State),
    (s.bst k = 0 ∨ s.bst k = 1)) ∧
    (∃ (k : Fin 16) (tile : Nat) (q : Nat) (r : StepRun) (s : State),
    ((q, Work.tile k tile) ∈ s.mill.quads) ∧ (s.dpUp = true) ∧ ((s.body k).run = some r) ∧ (tile ∈ r.tiles) ∧ ((∃ x ∈ r.tiles, x ≠ tile)) ∧ (s.net.xfers = [])) ∧
    (∃ (k : Fin 16) (tile : Nat) (q : Nat) (bad : List Nat) (r : StepRun) (s : State),
    ((q, Work.tile k tile) ∈ s.mill.quads) ∧ (s.dpUp = true) ∧ ((s.body k).run = some r) ∧ (tile ∈ r.tiles) ∧ ((∃ x ∈ r.tiles, x ≠ tile)) ∧ (bad ≠ []) ∧ (r.te ≤ (s.body k).firm) ∧ (s.net.xfers = []) ∧ (Room s portMill)) ∧
    (∃ (k : Fin 16) (tile : Nat) (q : Nat) (r : StepRun) (s : State),
    ((q, Work.tile k tile) ∈ s.mill.quads) ∧ (s.dpUp = true) ∧ ((s.body k).run = some r) ∧ (r.tiles = [tile]) ∧ (r.again = false) ∧ (s.bst k = 2) ∧ ((s.body k).ready = []) ∧ ((s.body k).rollTo = none) ∧ ((s.body k).late = []) ∧ ((s.body k).holdDue = false) ∧ ((s.body k).pauseDue = false) ∧ (s.mill.snapWait = []) ∧ (s.net.xfers = [])) ∧
    (∃ (k : Fin 16) (tile : Nat) (q : Nat) (bad : List Nat) (s : State),
    (((q, Work.tile k tile) ∉ s.mill.quads ∨ s.dpUp = false)) ∧ (s.net.xfers = [])) :=
  ⟨⟨6, at6 60000 ((body6 2 {}).put (MILL_BODY_CFG_STEP_S 6) 60), by decide +kernel⟩,
   ⟨6, at6 60000 ((body6 4 {}).put (MILL_BODY_CFG_STEP_S 6) 60), by decide +kernel⟩,
   ⟨6, up, by decide +kernel⟩,
   ⟨6, 1, 3, stepRun [0, 1], quad6 (.tile 6 1) (body6 2 { run := some (stepRun [0, 1]) }), by decide +kernel⟩,
   ⟨6, 1, 3, [70], stepRun [0, 1], quad6 (.tile 6 1) (body6 2 { run := some (stepRun [0, 1]), firm := 60000 }), by decide +kernel⟩,
   ⟨6, 0, 3, stepRun [0], quad6 (.tile 6 0) (body6 2 { run := some (stepRun [0]) }), by decide +kernel⟩,
   ⟨6, 0, 3, [], body6 2 {}, by decide +kernel⟩⟩

/-- States and operands that meet the hypotheses of `Obligations.MillReadings`, clause by clause. -/
theorem wit_MillReadings :
    (∃ (n : Nat) (v : F32) (g : F32) (st : Nat) (s : State),
    (s.smap.anchors[n]? = none) ∧ (s.dpUp = true)) ∧
    (∃ (n : Nat) (v : F32) (g : F32) (st : Nat) (a : Anchor) (s : State),
    (s.smap.anchors[n]? = some a) ∧ ((({ anchor := n, value := v, sigma := g, stamp := st } : Reading) ∉ s.mill.inbox ∨ s.dpUp = false))) ∧
    (∃ (n : Nat) (a : Anchor) (r : Reading) (s : State),
    (s.smap.anchors[n]? = some a) ∧ (r ∈ s.mill.inbox) ∧ (s.dpUp = true) ∧ (r.anchor = n) ∧ (r.aged = false) ∧ ((s.bst a.body = 0 ∨ (s.body a.body).heldOn = true))) ∧
    (∃ (n : Nat) (a : Anchor) (r : Reading) (s : State),
    (s.smap.anchors[n]? = some a) ∧ (r ∈ s.mill.inbox) ∧ (s.dpUp = true) ∧ (r.anchor = n) ∧ (r.aged = false) ∧ (s.bst a.body ≠ 0) ∧ ((s.body a.body).heldOn = false) ∧ ((s.bst a.body = 1 ∨ (s.body a.body).now * 1000000 < r.stamp))) ∧
    (∃ (n : Nat) (a : Anchor) (r : Reading) (s : State),
    (s.smap.anchors[n]? = some a) ∧ (r ∈ s.mill.inbox) ∧ (s.dpUp = true) ∧ (r.anchor = n) ∧ (r.aged = false) ∧ (s.bst a.body ≠ 0) ∧ (s.bst a.body ≠ 1) ∧ ((s.body a.body).heldOn = false) ∧ (r.stamp + 3600000000000 < (s.body a.body).now * 1000000)) ∧
    (∃ (n : Nat) (a : Anchor) (r : Reading) (s : State),
    (s.smap.anchors[n]? = some a) ∧ (r ∈ s.mill.inbox) ∧ (s.dpUp = true) ∧ (r.anchor = n) ∧ (r.aged = false) ∧ (s.bst a.body ≠ 0) ∧ (s.bst a.body ≠ 1) ∧ ((s.body a.body).heldOn = false) ∧ (r.stamp ≤ (s.body a.body).now * 1000000) ∧ ((s.body a.body).now * 1000000 ≤ r.stamp + 3600000000000) ∧ (r.stamp ≤ ((s.firmAdvance a.body).body a.body).firm * 1000000)) ∧
    (∃ (n : Nat) (a : Anchor) (r : Reading) (q : StepRun) (s : State),
    (s.smap.anchors[n]? = some a) ∧ (r ∈ s.mill.inbox) ∧ (s.dpUp = true) ∧ (r.anchor = n) ∧ (r.aged = false) ∧ (s.bst a.body = 2) ∧ ((s.body a.body).heldOn = false) ∧ ((s.body a.body).rollTo = none) ∧ ((s.body a.body).run = some q) ∧ (q.field = none) ∧ ((s.body a.body).resolveTe = none) ∧ (r.stamp ≤ (s.body a.body).tm * 1000000) ∧ ((s.body a.body).tm * 1000000 ≤ r.stamp + 3600000000000) ∧ (((s.firmAdvance a.body).body a.body).firm * 1000000 < r.stamp)) :=
  ⟨⟨0, 5, 5, 5, up, by decide +kernel⟩,
   ⟨0, 5, 5, 5, anchor6, anchored (body6 4 {}), by decide +kernel⟩,
   ⟨0, anchor6, read6 5, inbox6 5 (body6 4 { heldOn := true }), by decide +kernel⟩,
   ⟨0, anchor6, read6 60000000001, inbox6 60000000001 (body6 2 { tm := 60000 }), by decide +kernel⟩,
   ⟨0, anchor6, read6 399999999999, inbox6 399999999999 (body6 2 { tm := 4000000 }), by decide +kernel⟩,
   ⟨0, anchor6, read6 400000000000, inbox6 400000000000 (body6 2 { tm := 4000000, firm := 400000 }), by decide +kernel⟩,
   ⟨0, anchor6, read6 400000000000, stepRun [0], inbox6 400000000000 (body6 2 { tm := 4000000, late := [read6 5], run := some (stepRun [0]) }), by decide +kernel⟩⟩

/-- States and operands that meet the hypotheses of `Obligations.MillAir`, clause by clause. -/
theorem wit_MillAir :
    (∃ (k : Fin 16) (s : State),
    (s.dpUp = true) ∧ (s.bst k ≠ 0) ∧ ((s.body k).nextSolve ≤ (s.body k).tm) ∧ ((s.body k).solving = none)) ∧
    (∃ (k : Fin 16) (r : SolveRun) (s : State),
    (s.dpUp = true) ∧ (s.bst k ≠ 0) ∧ ((s.body k).nextSolve ≤ (s.body k).tm) ∧ ((s.body k).solving = some r)) ∧
    (∃ (k : Fin 16) (s : State),
    ((s.dpUp = false ∨ s.bst k = 0 ∨ (s.body k).tm < (s.body k).nextSolve))) ∧
    (∃ (k : Fin 16) (r : SolveRun) (s : State),
    (s.dpUp = true) ∧ (s.solveRuns k = true) ∧ ((s.body k).solving = some r)) ∧
    (∃ (k : Fin 16) (r : SolveRun) (s : State),
    (s.dpUp = true) ∧ (s.solveRuns k = true) ∧ ((s.body k).solving = some r) ∧ ((s.body k).solveAgain = none) ∧ (r.ppm ≤ 10000) ∧ (r.passes < 16) ∧ (r.cycles < 32)) ∧
    (∃ (k : Fin 16) (r : SolveRun) (s : State),
    (s.dpUp = true) ∧ (s.solveRuns k = true) ∧ ((s.body k).solving = some r) ∧ ((s.body k).solveAgain = none) ∧ (10000 < r.ppm) ∧ (Room s portMill)) ∧
    (∃ (k : Fin 16) (p : Nat) (c : Nat) (m : Nat) (s : State),
    ((s.dpUp = false ∨ s.solveRuns k = false ∨ ∀ r, (s.body k).solving = some r →
    ¬(r.passes = p ∧ r.cycles = c ∧ r.ppm = m)))) ∧
    (∃ (k : Fin 16) (s : State),
    (s.dpUp = true) ∧ (s.bst k = 2)) ∧
    (∃ (k : Fin 16) (s : State),
    (s.dpUp = true) ∧ (s.bst k = 2) ∧ (s.mill.forecasts = []) ∧ (s.mill.snapBusy = false) ∧ (s.guard.halted = false) ∧ ((∀ p ∈ s.mill.quads, p.2 ≠ Work.forecast k))) ∧
    (∃ (k : Fin 16) (s : State),
    ((s.dpUp = false ∨ s.bst k ≠ 2))) ∧
    (∃ (k : Fin 16) (ms : Nat) (q : Nat) (s : State),
    (s.dpUp = true) ∧ ((k.val, q) ∈ s.mill.forecasts.map (fun p => (p.1, p.2.tm))) ∧ (s.workRuns (.forecast k) = true)) ∧
    (∃ (k : Fin 16) (ms : Nat) (q : Nat) (r : FcRun) (s : State),
    (s.dpUp = true) ∧ (s.mill.forecasts = [(k.val, r)]) ∧ ((q, Work.forecast k) ∈ s.mill.quads) ∧ (r.next = false) ∧ (s.smap.probes.filter (fun p => p.body = k.val) = []) ∧ (s.smap.pubs = []) ∧ (s.get MILL_FCST_CFG_SPEED * ms = 0)) ∧
    (∃ (k : Fin 16) (ms : Nat) (s : State),
    ((s.dpUp = false ∨ s.workRuns (.forecast k) = false ∨ ∀ p ∈ s.mill.forecasts, p.1 ≠ k.val))) ∧
    (∃ (q : Nat) (s : State),
    (s.dpUp = true) ∧ (s.guard.halted = false) ∧ (s.mill.bodies ≠ []) ∧ (s.mill.quads = []) ∧ (s.readyWork ≠ []) ∧ (s.quadsUp.head? = some q)) :=
  ⟨⟨6, body6 2 { tm := 60000, nextSolve := 60000 }, by decide +kernel⟩,
   ⟨6, solve6 5, quad6 (.solve 6) (body6 2 { tm := 60000, nextSolve := 60000, solving := some (solve6 5) }), by decide +kernel⟩,
   ⟨6, body6 2 { tm := 60000, nextSolve := 60001 }, by decide +kernel⟩,
   ⟨6, solve6 10001, quad6 (.solve 6) (body6 2 { solving := some (solve6 10001), solveAgain := some 0 }), by decide +kernel⟩,
   ⟨6, solve6 10000, quad6 (.solve 6) (body6 2 { solving := some (solve6 10000) }), by decide +kernel⟩,
   ⟨6, solve6 10001, quad6 (.solve 6) (body6 2 { solving := some (solve6 10001) }), by decide +kernel⟩,
   ⟨6, 15, 31, 5, body6 2 {}, by decide +kernel⟩,
   ⟨6, { body6 2 { tm := 5, firm := 4 } with mill := { (body6 2 { tm := 5, firm := 4 }).mill with forecasts := [(6, {}), (7, {})] } }, by decide +kernel⟩,
   ⟨6, body6 2 { tm := 5, firm := 4 }, by decide +kernel⟩,
   ⟨6, body6 3 {}, by decide +kernel⟩,
   ⟨6, 70000, 0, quad6 (.forecast 6) { (body6 2 {}).put MILL_FCST_CFG_SPEED 0 with mill := { up.mill with forecasts := [(6, { next := true })] } }, by decide +kernel⟩,
   ⟨6, 70000, 3, {}, quad6 (.forecast 6) { (body6 2 {}).put MILL_FCST_CFG_SPEED 0 with mill := { up.mill with forecasts := [(6, {})] } }, by decide +kernel⟩,
   ⟨6, 5, body6 2 {}, by decide +kernel⟩,
   ⟨0, body6 2 { run := some (stepRun [0, 1]) }, by decide +kernel⟩⟩

/-- States and operands that meet the hypotheses of `Obligations.MillSnapshots`, clause by clause. -/
theorem wit_MillSnapshots :
    (∃ (s : State),
    (s.dpUp = true) ∧ (s.on MILL_SNAP_CFG_ENABLE = true) ∧ (s.mill.snapBusy = false)) ∧
    (∃ (s : State),
    ((s.dpUp = false ∨ s.mill.snapBusy = true ∨ s.on MILL_SNAP_CFG_ENABLE = false))) ∧
    (∃ (q : Nat) (s : State),
    ((q, Work.snapshot) ∈ s.mill.quads) ∧ (s.dpUp = true) ∧ (Room s portMill)) ∧
    (∃ (q : Nat) (s : State),
    ((q, Work.snapshot) ∈ s.mill.quads) ∧ (s.dpUp = true)) ∧
    (∃ (ok : Bool) (s : State),
    ((s.dpUp = false ∨ ∀ p ∈ s.mill.quads, p.2 ≠ Work.snapshot))) ∧
    (∃ (req : Nat) (k : Fin 16) (s : State),
    (s.mpUp = true) ∧ (s.inReset .data = false) ∧ (s.loading = false) ∧ (s.waitsBehind (MILL_CELL_W k 0) = false)) ∧
    (∃ (k : Fin 16) (busy : Nat) (s : State),
    (s.dpUp = true) ∧ ((s.body k).mLate ≠ 0) ∧ ((s.body k).mSubst = 0) ∧ ((s.body k).mLost = 0) ∧ ((s.body k).mUnder = 0) ∧ ((s.body k).mRoll = 0) ∧ ((s.body k).mAged = 0) ∧ ((s.body k).mGated = 0) ∧ (busy < 65536) ∧ (Room s portMill)) :=
  ⟨⟨(body6 2 {}).putB MILL_SNAP_CFG_ENABLE true, by decide +kernel⟩,
   ⟨{ up with mill := { up.mill with snapBusy := true } }, by decide +kernel⟩,
   ⟨3, quad6 .snapshot (at6 5000 { up with mill := { up.mill with snapBusy := true, snapSeq := 4 } }), by decide +kernel⟩,
   ⟨3, quad6 .snapshot { up with mill := { up.mill with snapBusy := true, snapSeq := 4 } }, by decide +kernel⟩,
   ⟨true, up, by decide +kernel⟩,
   ⟨0x41, 6, body6 2 { cells := [(0, { tg := 9 })] }, by decide +kernel⟩,
   ⟨6, 65535, body6 2 { mLate := 3, mLag := 9 }, by decide +kernel⟩⟩

/-- States and operands that meet the hypotheses of `Obligations.MillHolds`, clause by clause. -/
theorem wit_MillHolds :
    (∃ (req : Nat) (k : Fin 16) (s : State),
    (Writes s req (MILL_BODY_CTRL k) 0x6B1D0001) ∧ (s.bst k = 2) ∧ ((s.body k).heldOn = false) ∧ ((s.body k).run = none) ∧ ((s.body k).rollTo = none) ∧ (Room s portMill)) ∧
    (∃ (req : Nat) (k : Fin 16) (r : StepRun) (s : State),
    (Writes s req (MILL_BODY_CTRL k) 0x6B1D0001) ∧ (s.bst k = 2) ∧ ((s.body k).heldOn = false) ∧ ((s.body k).run = some r)) ∧
    (∃ (req : Nat) (k : Fin 16) (s : State),
    (Writes s req (MILL_BODY_CTRL k) 0x6B1D0002) ∧ (s.bst k = 4) ∧ ((s.body k).heldOn = true) ∧ ((s.body k).run = none) ∧ ((s.body k).rollTo = none) ∧ ((s.body k).late = []) ∧ ((s.body k).holdDue = false) ∧ ((s.body k).pauseDue = false) ∧ (s.siteMs < (s.body k).tm + s.stepMs k) ∧ (s.tim.dp - (s.body k).heldAt < s.get (MILL_RUN_CFG_LEAD_S k) * 1000000000) ∧ (Room s portMill)) ∧
    (∃ (req : Nat) (k : Fin 16) (s : State),
    (Writes s req (MILL_BODY_CTRL k) 0x6B1D0002) ∧ (s.bst k = 4) ∧ ((s.body k).heldOn = true) ∧ ((s.body k).run = none) ∧ ((s.body k).rollTo = none) ∧ ((s.body k).late = []) ∧ (s.bodyPubs k = []) ∧ (s.get (MILL_RUN_CFG_LEAD_S k) * 1000000000 ≤ s.tim.dp - (s.body k).heldAt) ∧ (s.mpUp = true) ∧ ((s.log.fifo portMill).length < 15)) ∧
    (∃ (k : Fin 16) (r : Pub) (s : State),
    (s.dpUp = true) ∧ (s.bst k = 4) ∧ (s.bodyPubs k = [r]) ∧ (r.kind = 1) ∧ (r.firm = false) ∧ (r.entry < 1024)) ∧
    (∃ (k : Fin 16) (s : State),
    ((s.dpUp = false ∨ (s.bst k ≠ 3 ∧ s.bst k ≠ 4)))) ∧
    (∃ (k : Fin 16) (s : State),
    (s.dpUp = true) ∧ (s.bst k = 1) ∧ ((s.body k).solving = none) ∧ ((s.body k).run = none) ∧ ((s.body k).rollTo = none) ∧ ((s.body k).late = []) ∧ ((s.body k).ready = []) ∧ ((s.body k).holdDue = false) ∧ ((s.body k).pauseDue = false) ∧ (Room s portMill)) ∧
    (∃ (k : Fin 16) (s : State),
    ((s.dpUp = false ∨ s.bst k ≠ 1))) :=
  ⟨⟨0x41, 6, body6 2 { tm := 60000 }, by decide +kernel⟩,
   ⟨0x41, 6, stepRun [0], body6 2 { run := some (stepRun [0]) }, by decide +kernel⟩,
   ⟨0x41, 6, at6 61000 ((body6 4 { heldOn := true, tm := 60000, stoppedAt := 60000000000, heldAt := 60000000000 }).put (MILL_BODY_CFG_STEP_S 6) 60 |>.put (MILL_RUN_CFG_LEAD_S 6) 2), by decide +kernel⟩,
   ⟨0x41, 6, at6 62000 ((body6 4 { heldOn := true, tm := 60000, stoppedAt := 60000000000, heldAt := 60000000000 }).put (MILL_BODY_CFG_STEP_S 6) 60 |>.put (MILL_RUN_CFG_LEAD_S 6) 2), by decide +kernel⟩,
   ⟨6, pub6, { body6 4 { tm := 60000, lastPubs := [(700, (0x41200000, 0x3F800000, true))] } with smap := { up.smap with pubs := [pub6] } }, by decide +kernel⟩,
   ⟨6, body6 2 {}, by decide +kernel⟩,
   ⟨6, at6 60500 (body6 1 {}), by decide +kernel⟩,
   ⟨6, body6 2 {}, by decide +kernel⟩⟩

/-- Slot 9 present with a period of 100 µs, in a mode of R301, and what it keeps. -/
def slot9 (m : Nat) (x : Slot) : State :=
  { (((up.putB (GOV_SLOT_CFG_PRESENT 9) true).setReg (GOV_PERIOD 9) 1).put (GOV_SLOT_STATUS_MODE 9) m) with
    gov := [(9, x)] }
/-- Window words: U_MAX 2.0, DU_MAX 0.5 and MANUAL 1.75 of actuator 0, in Q8.24. -/
def win9 : List (Nat × Word) := [(winMax 0, 0x02000000), (winDu 0, 0x00800000), (winManual 0, 0x01C00000), (winSup 0, 500)]
def suspect (c : Nat) (back : Bool) : Supervision := { cur := { cause := c }, onBackup := back }
def cupIn (st trig : Nat) : State := (up.put CUP_STATUS_STATE st).put CUP_CFG_TRIGGER trig

/-- States and operands that meet the hypotheses of `Obligations.GovSamples`, clause by clause. -/
theorem wit_GovSamples :
    (∃ (n : Fin 16) (s : State),
    (s.slotsRun = true) ∧ (s.sampleDue n = true) ∧ (s.caddy.swap = none) ∧ (s.on REL_STATUS_HOLD = false) ∧ (s.gmode n = 2) ∧ (s.due n = []) ∧ ((s.slot n).added = false) ∧ ((s.slot n).request = none)) ∧
    (∃ (n : Fin 16) (s : State),
    (s.slotsRun = true) ∧ (s.sampleDue n = true) ∧ (s.caddy.swap = none) ∧ (s.on REL_STATUS_HOLD = false) ∧ (s.gmode n = 1) ∧ ((s.slot n).added = false) ∧ ((s.slot n).request = none)) ∧
    (∃ (n : Fin 16) (cut : SampleCut) (s : State),
    (s.slotsRun = true) ∧ (s.sampleDue n = true) ∧ (s.caddy.swap = none) ∧ (s.on REL_STATUS_HOLD = false) ∧ (s.gmode n = 2) ∧ (s.due n = []) ∧ ((s.slot n).added = false) ∧ ((s.slot n).request = some 0) ∧ ((s.slot n).bySwap = false) ∧ (Room s portGov)) ∧
    (∃ (n : Fin 16) (cut : SampleCut) (s : State),
    (s.slotsRun = true) ∧ (s.sampleDue n = true) ∧ (s.caddy.swap = none) ∧ (s.on REL_STATUS_HOLD = true) ∧ (s.gmode n ≠ 0)) ∧
    (∃ (n : Fin 16) (cut : SampleCut) (s : State),
    ((s.slotsRun = false ∨ s.sampleDue n = false))) ∧
    (∃ (n : Fin 16) (j : Fin 8) (s : State),
    (s.gmode n ≠ 0) ∧ (((s.gwin n).supCfg j).staleMs ≠ 0) ∧ (j < (s.dims n).ny) ∧ ((s.supOf n j).cur.cause = 0) ∧ (Room s portGov)) ∧
    (∃ (n : Fin 16) (j : Fin 8) (s : State),
    (s.gmode n ≠ 0) ∧ (((s.gwin n).supCfg j).staleMs ≠ 0) ∧ (j < (s.dims n).ny) ∧ ((s.supOf n j).onBackup = true) ∧ ((s.supOf n j).prim.cause = 0)) ∧
    (∃ (n : Fin 16) (j : Fin 8) (prim : Bool) (s : State),
    (s.gmode n = 0)) ∧
    (∃ (n : Fin 16) (j : Fin 8) (s : State),
    (2 ≤ s.gmode n) ∧ (s.gmode n ≤ 5) ∧ (j < (s.dims n).ny) ∧ ((s.supOf n j).cur.cause ≠ 0) ∧ ((s.supOf n j).cur.coasted = false)) ∧
    (∃ (n : Fin 16) (s : State),
    (s.gmode n = 4)) ∧
    (∃ (n : Fin 16) (s : State),
    (s.gmode n ≠ 4)) ∧
    (∃ (n : Fin 16) (s : State),
    ((s.slot n).mSat ≠ 0) ∧ ((s.slot n).mBad = 0) ∧ (Room s portGov)) ∧
    (∃ (n : Fin 16) (s : State),
    ((s.slot n).mSat = 0) ∧ ((s.slot n).mBad ≠ 0) ∧ (Room s portGov)) :=
  ⟨⟨9, slot9 2 { win := win9, uPrev := [(0, 0x01000000)] }, by decide +kernel⟩,
   ⟨9, slot9 1 { win := win9, uPrev := [(0, 0x01000000)] }, by decide +kernel⟩,
   ⟨9, .clean, slot9 2 { win := win9, request := some 0, s1 := [(0, 4)] }, by decide +kernel⟩,
   ⟨9, .clean, (slot9 2 {}).putB REL_STATUS_HOLD true, by decide +kernel⟩,
   ⟨9, .clean, { slot9 2 {} with pwr := { up.pwr with safe := true } }, by decide +kernel⟩,
   ⟨9, 0, slot9 2 { win := win9 }, by decide +kernel⟩,
   ⟨9, 0, slot9 2 { win := win9, sup := [(0, suspect 0 true)] }, by decide +kernel⟩,
   ⟨9, 7, true, slot9 0 {}, by decide +kernel⟩,
   ⟨9, 0, slot9 5 { win := win9, sup := [(0, suspect 1 false)] }, by decide +kernel⟩,
   ⟨9, slot9 4 {}, by decide +kernel⟩,
   ⟨9, slot9 5 {}, by decide +kernel⟩,
   ⟨9, slot9 2 { mSat := 1 }, by decide +kernel⟩,
   ⟨9, slot9 2 { mBad := 1, mLast := 258 }, by decide +kernel⟩⟩

/-- States and operands that meet the hypotheses of `Obligations.GovRequestsAndCup`, clause by clause. -/
theorem wit_GovRequestsAndCup :
    (∃ (req : Nat) (n : Fin 16) (v : Word) (s : State),
    (Writes s req (GOV_SLOT_MODE n) v)) ∧
    (∃ (req : Nat) (m : Nat) (n : Fin 16) (s : State),
    (s.mpUp = true) ∧ ((s.loading = false ∨ req = 2)) ∧ (s.waitsBehind (GOV_SLOT_MODE n) = false) ∧ (m < 16) ∧ (mayRequest (s.gmode n) m = false)) ∧
    (∃ (req : Nat) (n : Fin 16) (off : BitVec 12) (v : Word) (s : State),
    (0x400 ≤ off.toNat) ∧ (Writes s req (0x100000 + 0x1000 * n.val + off.toNat) v) ∧ (s.gmode n = 0)) ∧
    (∃ (req : Nat) (n : Fin 16) (off : BitVec 12) (v : Word) (s : State),
    (0x400 ≤ off.toNat) ∧ (Writes s req (0x100000 + 0x1000 * n.val + off.toNat) v) ∧ (s.gmode n ≠ 0)) ∧
    (∃ (req : Nat) (s : State),
    (Writes s req CUP_CTRL 0xC0F70001)) ∧
    (∃ (req : Nat) (s : State),
    (Writes s req CUP_CTRL 0xC0F70002) ∧ ((s.get CUP_STATUS_STATE = 1 ∨ s.get CUP_STATUS_STATE = 2)) ∧ (Room s portGov)) ∧
    (∃ (req : Nat) (s : State),
    (Writes s req CUP_CTRL 0xC0F70003)) ∧
    (∃ (s : State),
    (s.get CUP_STATUS_STATE = 1) ∧ (s.get CUP_CFG_TRIGGER = 2)) ∧
    (∃ (s : State),
    ((s.get CUP_STATUS_STATE ≠ 1 ∨ s.get CUP_CFG_TRIGGER ≠ 2))) ∧
    (∃ (req : Nat) (n : Fin 16) (v : Word) (s : State),
    (Writes s req (CUP_INF_CFG n) v)) :=
  ⟨⟨0x41, 9, 0x60DE0001, slot9 2 {}, by decide +kernel⟩,
   ⟨0x41, 15, 9, slot9 2 {}, by decide +kernel⟩,
   ⟨0x41, 9, 0x400, 0x12345678, slot9 0 {}, by decide +kernel⟩,
   ⟨0x41, 9, 0xFFC, 0, slot9 2 {}, by decide +kernel⟩,
   ⟨0x41, cupIn 0 0, by decide +kernel⟩,
   ⟨0x41, cupIn 1 0, by decide +kernel⟩,
   ⟨0x41, { cupIn 4 0 with cup := { up.cup with held := [(0, 64)], place := 64 } }.setReg CUP_NEXT_SEQ 5, by decide +kernel⟩,
   ⟨cupIn 1 2, by decide +kernel⟩,
   ⟨cupIn 2 2, by decide +kernel⟩,
   ⟨0x41, 9, 0, slot9 4 {}, by decide +kernel⟩⟩

/-- Channel 93 (channel 5 of bank 11) in a state of R350, the supply of its bank good, and what it keeps. -/
def coil (st : Nat) (c : Channel) : State :=
  { ((up.put PWR_STATUS_VBANK_OK 0xFFF).put (VALVE_STATUS_STATE 93) st).setReg (VALVE_PROFILE 93) 0x64101020 with
    valve := { up.valve with chans := [(93, c)] } }
def busy : State := (coil 0 {}).put (VALVE_STATUS_STATE 92) 4
def inBank (b : Bank) (s : State) : State := { s with valve := { s.valve with banks := [(11, b)] } }
def cqe : CqEntry := { id := 3, ch := 5, status := 0, reason := 0, seq := 200 }

/-- States and operands that meet the hypotheses of `Obligations.ValveCommands`, clause by clause. -/
theorem wit_ValveCommands :
    (∃ (req : Nat) (v : Fin 96) (id : BitVec 8) (ms : BitVec 16) (s : State),
    (Writes s req (VALVE_CMD v) (id ++ (0x40 : BitVec 8) ++ ms)) ∧ (s.refuses v = none) ∧ (s.vst v = 0) ∧ (s.on (vsDutyLim v) = false) ∧ (s.bankSupply (v.val / 8) = true) ∧ ((s.bank (v.val / 8)).queue = []) ∧ (s.fits v = true) ∧ (s.hsOn (v.val / 8) = false) ∧ ((s.chan v).relItem = none)) ∧
    (∃ (req : Nat) (v : Fin 96) (id : BitVec 8) (s : State),
    (Writes s req (VALVE_CMD v) (id ++ (0x80 : BitVec 8) ++ (0 : BitVec 16))) ∧ (s.refuses v = none) ∧ (s.vst v = 0) ∧ (s.on (vsDutyLim v) = false) ∧ (s.bankSupply (v.val / 8) = true) ∧ ((s.bank (v.val / 8)).queue = []) ∧ (s.fits v = true) ∧ (s.hsOn (v.val / 8) = true) ∧ ((s.chan v).relItem = none) ∧ ((s.chan v).decay = false)) ∧
    (∃ (req : Nat) (v : Fin 96) (id : BitVec 8) (ms : BitVec 16) (s : State),
    (Writes s req (VALVE_CMD v) (id ++ (0x40 : BitVec 8) ++ ms)) ∧ (s.refuses v = none) ∧ (s.vst v = 0) ∧ (s.on (vsDutyLim v) = false) ∧ (s.bankSupply (v.val / 8) = true) ∧ (s.fits v = false) ∧ (s.get (VALVE_PROFILE_DEFER_MS v) ≠ 0)) ∧
    (∃ (req : Nat) (v : Fin 96) (id : BitVec 8) (ms : BitVec 16) (s : State),
    (Writes s req (VALVE_CMD v) (id ++ (0x40 : BitVec 8) ++ ms)) ∧ (s.refuses v = none) ∧ (s.vst v = 0) ∧ (s.on (vsDutyLim v) = false) ∧ (s.bankSupply (v.val / 8) = true) ∧ (s.fits v = false) ∧ (s.get (VALVE_PROFILE_DEFER_MS v) = 0)) ∧
    (∃ (req : Nat) (v : Fin 96) (id : BitVec 8) (ms : BitVec 16) (s : State),
    (Writes s req (VALVE_CMD v) (id ++ (0x40 : BitVec 8) ++ ms)) ∧ (s.refuses v = none) ∧ (s.vst v = 0) ∧ (s.on (vsDutyLim v) = false) ∧ (s.bankSupply (v.val / 8) = false)) ∧
    (∃ (req : Nat) (r : Nat) (v : Fin 96) (id : BitVec 8) (ms : BitVec 16) (s : State),
    (Writes s req (VALVE_CMD v) (id ++ (0x40 : BitVec 8) ++ ms)) ∧ (s.refuses v = some r)) ∧
    (∃ (req : Nat) (old : Nat) (v : Fin 96) (id : BitVec 8) (ms : BitVec 16) (s : State),
    (Writes s req (VALVE_CMD v) (id ++ (0x40 : BitVec 8) ++ ms)) ∧ (s.refuses v = none) ∧ (s.vst v = 5) ∧ (s.on (vsDutyLim v) = false) ∧ (s.on (VALVE_STATUS_CONT v) = false) ∧ ((s.chan v).item = some old)) ∧
    (∃ (req : Nat) (it : Nat) (v : Fin 96) (id : BitVec 8) (s : State),
    (Writes s req (VALVE_CMD v) (id ++ (0xC0 : BitVec 8) ++ (0 : BitVec 16))) ∧ (s.refuses v = none) ∧ ((s.vst v = 3 ∨ s.vst v = 4 ∨ s.vst v = 5)) ∧ ((s.chan v).window = false) ∧ ((s.chan v).probeDue = 0) ∧ ((s.chan v).verdict = none) ∧ ((s.chan v).item = some it) ∧ ((s.bank (v.val / 8)).queue = [])) ∧
    (∃ (req : Nat) (v : Fin 96) (id : BitVec 8) (s : State),
    (Writes s req (VALVE_CMD v) (id ++ (0xC0 : BitVec 8) ++ (0 : BitVec 16))) ∧ ((s.vst v = 0 ∨ s.vst v = 6 ∨ s.vst v = 7 ∨ s.vst v = 8 ∨ s.refuses v ≠ none))) :=
  ⟨⟨0x41, 93, 7, 0xFFFF, coil 0 {}, by decide +kernel⟩,
   ⟨0x41, 93, 7, (coil 0 {}).putB (VALVE_BANK_STATUS_HS_ON 11) true, by decide +kernel⟩,
   ⟨0x41, 93, 7, 100, busy, by decide +kernel⟩,
   ⟨0x41, 93, 7, 100, busy.put (VALVE_PROFILE_DEFER_MS 93) 0, by decide +kernel⟩,
   ⟨0x41, 93, 7, 100, (coil 0 {}).put PWR_STATUS_VBANK_OK 0x7FF, by decide +kernel⟩,
   ⟨0x41, 0x10, 93, 7, 100, coil 7 {}, by decide +kernel⟩,
   ⟨0x41, 4, 93, 7, 100, coil 5 { item := some 4, hold := 9 }, by decide +kernel⟩,
   ⟨0x41, 4, 93, 7, coil 5 { item := some 4, fromIdle := true }, by decide +kernel⟩,
   ⟨0x41, 93, 7, coil 6 {}, by decide +kernel⟩⟩

/-- States and operands that meet the hypotheses of `Obligations.ValvePhases`, clause by clause. -/
theorem wit_ValvePhases :
    (∃ (v : Fin 96) (s : State),
    (s.vst v = 2)) ∧
    (∃ (v : Fin 96) (s : State),
    (s.vst v ≠ 2)) ∧
    (∃ (v : Fin 96) (l : List Nat) (lo : Nat) (i : Nat) (s : State),
    (s.vst v = 3) ∧ ((s.chan v).window = true) ∧ ((s.judge v l).low = some (lo, i))) ∧
    (∃ (v : Fin 96) (l : List Nat) (s : State),
    (s.vst v = 3) ∧ ((s.chan v).window = true) ∧ ((s.judge v l).low = none) ∧ (Room s (portValve (v.val / 8)))) ∧
    (∃ (v : Fin 96) (l : List Nat) (s : State),
    (s.vst v ≠ 3)) ∧
    (∃ (v : Fin 96) (l : List Nat) (s : State),
    (s.vst v = 4) ∧ ((s.chan v).window = false) ∧ ((s.chan v).reached = true) ∧ ((s.chan v).hold ≠ 0) ∧ ((∃ x ∈ l, 50 ≤ x)) ∧ (s.get (VALVE_PROT_R_NOM v) ≠ 0) ∧ ((s.bank (v.val / 8)).queue = [])) ∧
    (∃ (v : Fin 96) (l : List Nat) (it : Nat) (s : State),
    (s.vst v = 4) ∧ ((s.chan v).window = false) ∧ ((s.chan v).reached = true) ∧ ((s.chan v).hold = 0) ∧ (s.on (VALVE_STATUS_CONT v) = false) ∧ ((∃ x ∈ l, 50 ≤ x)) ∧ ((s.chan v).probeDue = 0) ∧ ((s.chan v).verdict = none) ∧ ((s.chan v).item = some it) ∧ ((s.bank (v.val / 8)).queue = [])) ∧
    (∃ (v : Fin 96) (l : List Nat) (s : State),
    (s.vst v ≠ 3) ∧ (s.vst v ≠ 4)) ∧
    (∃ (v : Fin 96) (it : Nat) (s : State),
    (s.vst v = 5) ∧ (s.on (VALVE_STATUS_CONT v) = false) ∧ ((s.chan v).holdEnd ≤ s.tim.mono) ∧ ((s.chan v).window = false) ∧ ((s.chan v).probeDue = 0) ∧ ((s.chan v).item = some it) ∧ ((s.bank (v.val / 8)).queue = [])) ∧
    (∃ (v : Fin 96) (s : State),
    ((s.vst v ≠ 5 ∨ s.on (VALVE_STATUS_CONT v) = true ∨ s.tim.mono < (s.chan v).holdEnd))) ∧
    (∃ (v : Fin 96) (id : Nat) (st : Nat) (r : Nat) (s : State),
    ((s.chan v).decay = true) ∧ (s.vst v = 6) ∧ ((s.chan v).relItem = some (id, st, r)) ∧ ((s.chan v).stuck = false) ∧ (s.rel.tests = [])) ∧
    (∃ (v : Fin 96) (s : State),
    ((s.chan v).decay = false)) ∧
    (∃ (b : Fin 12) (s : State),
    (s.hsNeeded b = false)) ∧
    (∃ (b : Fin 12) (s : State),
    (s.hsNeeded b = true)) ∧
    (∃ (v : Fin 96) (id : Nat) (ms : Nat) (c : Bool) (s : State),
    (s.vst v = 1) ∧ ((s.bank (v.val / 8)).queue = [v.val]) ∧ (s.bankSupply (v.val / 8) = true) ∧ (s.fits v = false) ∧ ((s.chan v).deferred = some (id, c, ms)) ∧ ((s.chan v).decay = false) ∧ (s.rel.tests = []) ∧ (Room s (portValve (v.val / 8)))) ∧
    (∃ (v : Fin 96) (s : State),
    (s.vst v ≠ 1)) :=
  ⟨⟨93, (coil 2 { fromIdle := true, item := some 4 }).put (VALVE_DETECT_DIP_THR 93) 20, by decide +kernel⟩,
   ⟨93, coil 3 {}, by decide +kernel⟩,
   ⟨93, [100, 300, 200, 190, 260, 400], 190, 3, (coil 3 { window := true, fromIdle := true }).setReg (VALVE_DETECT 93) 1, by decide +kernel⟩,
   ⟨93, [100, 300, 400], (coil 3 { window := true, fromIdle := true }).setReg (VALVE_DETECT 93) 1, by decide +kernel⟩,
   ⟨93, [], coil 2 {}, by decide +kernel⟩,
   ⟨93, [49, 50], (coil 4 { reached := true, hold := 0xFFFF, item := some 4 }).put (VALVE_PROT_R_NOM 93) 24, by decide +kernel⟩,
   ⟨93, [50], 4, coil 4 { reached := true, item := some 4 }, by decide +kernel⟩,
   ⟨93, [], coil 5 {}, by decide +kernel⟩,
   ⟨93, 4, coil 5 { item := some 4, verdict := some 0x13 }, by decide +kernel⟩,
   ⟨93, coil 6 {}, by decide +kernel⟩,
   ⟨93, 4, 1, 0x16, coil 6 { decay := true, relItem := some (4, 1, 0x16) }, by decide +kernel⟩,
   ⟨93, coil 6 {}, by decide +kernel⟩,
   ⟨11, (coil 6 {}).putB (VALVE_BANK_STATUS_HS_ON 11) true, by decide +kernel⟩,
   ⟨11, coil 5 {}, by decide +kernel⟩,
   ⟨93, 7, 100, false, inBank { queue := [93] } ((coil 1 { deferred := some (7, false, 100) }).put (VALVE_STATUS_STATE 92) 4), by decide +kernel⟩,
   ⟨93, coil 0 {}, by decide +kernel⟩⟩

/-- States and operands that meet the hypotheses of `Obligations.ValveVerdicts`, clause by clause. -/
theorem wit_ValveVerdicts :
    (∃ (v : Fin 96) (it : Nat) (s : State),
    ((s.vst v = 3 ∨ s.vst v = 4 ∨ s.vst v = 5)) ∧ ((s.chan v).fromIdle = true) ∧ ((s.chan v).window = false) ∧ ((s.chan v).item = some it) ∧ ((s.bank (v.val / 8)).queue = []) ∧ (s.mpUp = true) ∧ ((s.log.fifo (portValve (v.val / 8))).length + 2 ≤ 16)) ∧
    (∃ (v : Fin 96) (s : State),
    (((s.vst v ≠ 3 ∧ s.vst v ≠ 4 ∧ s.vst v ≠ 5) ∨ (s.chan v).fromIdle = false))) ∧
    (∃ (v : Fin 96) (l : List Nat) (it : Nat) (s : State),
    (s.vst v = 3) ∧ ((s.chan v).fromIdle = true) ∧ ((s.chan v).window = false) ∧ ((s.chan v).reached = false) ∧ ((∀ x ∈ l, x < 50)) ∧ ((s.chan v).item = some it) ∧ ((s.bank (v.val / 8)).queue = []) ∧ (s.mpUp = true) ∧ ((s.log.fifo (portValve (v.val / 8))).length + 3 ≤ 16)) ∧
    (∃ (v : Fin 96) (s : State),
    (s.vst v = 5) ∧ ((s.chan v).probeDue ≠ 0) ∧ (s.get (VALVE_PROT_R_NOM v) ≠ 0)) ∧
    (∃ (v : Fin 96) (s : State),
    ((s.vst v ≠ 5 ∨ (s.chan v).probeDue = 0))) ∧
    (∃ (v : Fin 96) (dMin : Nat) (ma : Nat) (mv : Nat) (p : ProbeMean) (s : State),
    (s.on (vsProbeBusy v) = true) ∧ (ma ≠ 0) ∧ (p.stop = none) ∧ (dMin < 64226) ∧ ((70 * (500 * s.get (VALVE_PROT_R_NOM v)) * rMeasDen ma : Nat) ≤ 100 * rMeasNum p.d ma mv) ∧ (100 * rMeasNum p.d ma mv ≤ (130 * (500 * s.get (VALVE_PROT_R_NOM v)) * rMeasDen ma : Nat)) ∧ (Room s (portValve (v.val / 8)))) ∧
    (∃ (v : Fin 96) (dMin : Nat) (ma : Nat) (mv : Nat) (it : Nat) (p : ProbeMean) (s : State),
    (s.on (vsProbeBusy v) = true) ∧ (ma ≠ 0) ∧ (p.stop = none) ∧ (64226 ≤ dMin) ∧ ((s.chan v).window = false) ∧ ((s.chan v).item = some it) ∧ ((s.bank (v.val / 8)).queue = []) ∧ (s.vst v = 5) ∧ (s.mpUp = true) ∧ ((s.log.fifo (portValve (v.val / 8))).length + 2 ≤ 16)) ∧
    (∃ (v : Fin 96) (dMin : Nat) (ma : Nat) (mv : Nat) (it : Nat) (p : ProbeMean) (s : State),
    (s.on (vsProbeBusy v) = true) ∧ (ma ≠ 0) ∧ (p.stop = none) ∧ (dMin < 64226) ∧ (100 * rMeasNum p.d ma mv < (70 * (500 * s.get (VALVE_PROT_R_NOM v)) * rMeasDen ma : Nat)) ∧ ((s.chan v).window = false) ∧ ((s.chan v).item = some it) ∧ ((s.bank (v.val / 8)).queue = []) ∧ (s.vst v = 5) ∧ (s.mpUp = true) ∧ ((s.log.fifo (portValve (v.val / 8))).length + 2 ≤ 16)) ∧
    (∃ (v : Fin 96) (dMin : Nat) (ma : Nat) (mv : Nat) (it : Nat) (id : BitVec 8) (p : ProbeMean) (s : State),
    (s.on (vsProbeBusy v) = true) ∧ (p.stop = some id) ∧ ((s.chan v).window = false) ∧ ((s.chan v).item = some it) ∧ ((s.bank (v.val / 8)).queue = []) ∧ (s.vst v = 5) ∧ (Room s (portValve (v.val / 8)))) ∧
    (∃ (v : Fin 96) (dMin : Nat) (ma : Nat) (mv : Nat) (p : ProbeMean) (s : State),
    (s.on (vsProbeBusy v) = false)) ∧
    (∃ (v : Fin 96) (id : Nat) (s : State),
    ((s.chan v).decay = true) ∧ (s.vst v = 6) ∧ ((s.chan v).stuck = true) ∧ ((s.chan v).relItem = some (id, 1, 0x13)) ∧ (s.rel.tests = []) ∧ (Room s (portValve (v.val / 8)))) ∧
    (∃ (v : Fin 96) (s : State),
    (s.on (vsDutyLim v) = false) ∧ (s.get (VALVE_PROT_LIMIT v) = 0)) ∧
    (∃ (v : Fin 96) (s : State),
    (s.on (vsDutyLim v) = false) ∧ (isOn (s.vst v) = false) ∧ (s.get (VALVE_PROT_LIMIT v) ≠ 0) ∧ (Room s (portValve (v.val / 8)))) ∧
    (∃ (v : Fin 96) (s : State),
    (s.rel.tests = []) ∧ (s.relBusy (.valve v) = false) ∧ (s.recentTransients (.valve v) < s.get REL_CFG_REPEAT_N) ∧ (s.vst v = 0) ∧ ((s.chan v).decay = false)) ∧
    (∃ (v : Fin 96) (s : State),
    (s.relBusy (.valve v) = true)) ∧
    (∃ (req : Nat) (v : Fin 96) (s : State),
    (Writes s req (VALVE_BANK_CTRL (v.val / 8)) (BitVec.ofNat 32 (0x7A1E0005 + 16 * (v.val % 8)))) ∧ (s.vst v = 7) ∧ ((s.chan v).decay = false) ∧ (s.rel.tests = []) ∧ (Room s (portValve (v.val / 8)))) :=
  ⟨⟨93, 4, coil 4 { item := some 4, fromIdle := true }, by decide +kernel⟩,
   ⟨93, coil 4 {}, by decide +kernel⟩,
   ⟨93, [49], 4, coil 3 { item := some 4, fromIdle := true }, by decide +kernel⟩,
   ⟨93, (coil 5 { probeDue := 2 }).put (VALVE_PROT_R_NOM 93) 1, by decide +kernel⟩,
   ⟨93, coil 5 {}, by decide +kernel⟩,
   ⟨93, 64225, 1000, 24000, { d := 32768 }, ((coil 5 { item := some 4 }).putB (vsProbeBusy 93) true).setReg (VALVE_PROT 93) 22, by decide +kernel⟩,
   ⟨93, 64226, 1000, 24000, 4, { d := 32768 }, (coil 5 { item := some 4 }).putB (vsProbeBusy 93) true, by decide +kernel⟩,
   ⟨93, 64225, 1000, 1000, 4, { d := 32768 }, ((coil 5 { item := some 4 }).putB (vsProbeBusy 93) true).setReg (VALVE_PROT 93) 48, by decide +kernel⟩,
   ⟨93, 64225, 1000, 24000, 4, 9, { d := 32768, stop := some 9 }, ((coil 5 { item := some 4 }).putB (vsProbeBusy 93) true).setReg (VALVE_PROT 93) 22, by decide +kernel⟩,
   ⟨93, 0, 0, 0, { d := 0 }, coil 5 {}, by decide +kernel⟩,
   ⟨93, 4, (coil 6 { decay := true, stuck := true, relItem := some (4, 1, 0x13) }).put (vsStuckRun 93) 3, by decide +kernel⟩,
   ⟨93, (coil 5 {}).put (VALVE_PROT_LIMIT 93) 0, by decide +kernel⟩,
   ⟨93, (coil 0 { touched := true }).put (VALVE_PROT_LIMIT 93) 1, by decide +kernel⟩,
   ⟨93, coil 0 {}, by decide +kernel⟩,
   ⟨93, { coil 0 {} with rel := { up.rel with tests := [{ elem := .valve 93 }] } }, by decide +kernel⟩,
   ⟨0x41, 93, (coil 7 {}).put (vsFault 93) 3, by decide +kernel⟩⟩

/-- States and operands that meet the hypotheses of `Obligations.ValveBankControl`, clause by clause. -/
theorem wit_ValveBankControl :
    (∃ (req : Nat) (b : Fin 12) (s : State),
    (Writes s req (VALVE_BANK_CTRL b) 0x7A1E0001) ∧ ((s.bank b).queue = []) ∧ ((∀ c, c < 8 → s.vst (8 * b.val + c) = 0)) ∧ (Room s (portValve b))) ∧
    (∃ (req : Nat) (b : Fin 12) (s : State),
    (Writes s req (VALVE_BANK_CTRL b) 0x7A1E0002) ∧ (s.rel.tests = []) ∧ ((∀ c, c < 8 → s.vst (8 * b.val + c) = 8 ∧ s.get (vsFault (8 * b.val + c)) = 0 ∧
      (s.chan (8 * b.val + c)).decay = false)) ∧ (Room s (portValve b))) ∧
    (∃ (req : Nat) (v : Fin 96) (s : State),
    (Writes s req (VALVE_BANK_CTRL (v.val / 8)) (BitVec.ofNat 32 (0x7A1E0003 + 16 * (v.val % 8)))) ∧ (s.vst v = 0) ∧ ((s.bank (v.val / 8)).queue = []) ∧ (Room s (portValve (v.val / 8)))) ∧
    (∃ (req : Nat) (it : Nat) (v : Fin 96) (s : State),
    (Writes s req (VALVE_BANK_CTRL (v.val / 8)) (BitVec.ofNat 32 (0x7A1E0003 + 16 * (v.val % 8)))) ∧ (s.vst v = 5) ∧ ((s.chan v).window = false) ∧ ((s.chan v).probeDue = 0) ∧ ((s.chan v).item = some it) ∧ ((s.bank (v.val / 8)).queue = []) ∧ (Room s (portValve (v.val / 8)))) ∧
    (∃ (req : Nat) (v : Fin 96) (s : State),
    (Writes s req (VALVE_BANK_CTRL (v.val / 8)) (BitVec.ofNat 32 (0x7A1E0004 + 16 * (v.val % 8)))) ∧ (s.vst v = 8) ∧ (s.on (VALVE_BANK_FAULT_BANK_DISABLED (v.val / 8)) = false) ∧ ((s.chan v).decay = false) ∧ (s.rel.tests = []) ∧ (Room s (portValve (v.val / 8)))) ∧
    (∃ (req : Nat) (b : Fin 12) (seq : BitVec 8) (e : CqEntry) (q : List CqEntry) (s : State),
    (Writes s req (VALVE_CQ_CTRL b) (BitVec.ofNat 32 (0x80000000 + 65536 * seq.toNat))) ∧ ((s.bank b).cq = e :: q) ∧ (q.length < 32)) ∧
    (∃ (req : Nat) (b : Fin 12) (seq : BitVec 8) (s : State),
    (s.mpUp = true) ∧ ((s.loading = false ∨ req = 2)) ∧ (s.waitsBehind (VALVE_CQ_CTRL b) = false) ∧ (s.cqPopOk b seq.toNat = false)) ∧
    (∃ (b : Fin 12) (s : State),
    ((s.bank b).lostMinute ≠ 0) ∧ (Room s (portValve b))) ∧
    (∃ (b : Fin 12) (s : State),
    ((s.bank b).lostMinute = 0)) :=
  ⟨⟨0x41, 11, coil 0 {}, by decide +kernel⟩,
   ⟨0x41, 11, (List.range 8).foldl (fun s c => (s.put (VALVE_STATUS_STATE (88 + c)) 8).putB (vsByBank (88 + c)) true) ((coil 8 { disSelf := true }).putB (VALVE_BANK_FAULT_BANK_DISABLED 11) true), by decide +kernel⟩,
   ⟨0x41, 93, coil 0 {}, by decide +kernel⟩,
   ⟨0x41, 4, 93, coil 5 { item := some 4 }, by decide +kernel⟩,
   ⟨0x41, 93, coil 8 { disSelf := true }, by decide +kernel⟩,
   ⟨0x41, 11, 200, cqe, [cqe], inBank { cq := [cqe, cqe] } ((((coil 0 {}).put (VALVE_CQ_CTRL_COUNT 11) 2).put (VALVE_CQ_SEQ 11) 200).putB (VALVE_CQ_VALID 11) true), by decide +kernel⟩,
   ⟨0x41, 11, 201, inBank { cq := [cqe] } (coil 0 {}), by decide +kernel⟩,
   ⟨11, inBank { lostMinute := 3 } (coil 0 {}), by decide +kernel⟩,
   ⟨11, coil 0 {}, by decide +kernel⟩⟩

/-- A panel in a state of R404 with its assets loaded. -/
def door (st : Nat) : State :=
  { ((up.putB DISP_CFG_PRESENT true).put DISP_STATUS_STATE st).put DISP_SOURCE_IMAGE 255 with
    disp := { up.disp with assets := true, gamma := [(1, 4095)], fb := [(0, 1)] } }
def strip (x : Strip) : State := { up.putB DISP_STRIP_CFG_PRESENT true with strip := x, disp := { up.disp with assets := true } }
def wave3 : Wave := { frames := 3, seq0 := 1 }
def run3 (frame : Nat) (marking ending : Bool) : WaveRun :=
  { kind := 0, band := (strip {}).stripBand.1, wave := wave3, frame := frame, marking := marking, ending := ending
    fromSegs := 1, toSegs := 0xFFFFFF }
def showing1 : Binding := { code := 0x1001, image := 2, prio := 1, hold := 5 }

/-- States and operands that meet the hypotheses of `Obligations.PanelFrames`, clause by clause. -/
theorem wit_PanelFrames :
    (∃ (req : Nat) (v : Word) (s : State),
    (Writes s req DISP_FB_DATA v) ∧ (s.get DISP_FB_SEL_OFFSET ≤ 1532)) ∧
    (∃ (req : Nat) (v : Word) (s : State),
    (Writes s req DISP_COMMIT (0x80000000 ||| v))) ∧
    (∃ (vf : Nat) (s : State),
    (s.on DISP_CFG_PRESENT = true) ∧ (s.disp.assets = true) ∧ (s.doorFenced = false) ∧ (s.panelHeld = false) ∧ (s.panel = 3) ∧ (s.disp.lightNext = false) ∧ (s.shownImage = 255) ∧ (s.on DISP_COMMIT_BUSY = true)) ∧
    (∃ (vf : Nat) (s : State),
    (s.on DISP_CFG_PRESENT = true) ∧ (s.disp.assets = true) ∧ (s.doorFenced = false) ∧ (s.panelHeld = false) ∧ (s.panel = 3) ∧ (s.disp.lightNext = true) ∧ (s.on PWR_STATUS_VLED_OK = true) ∧ (s.on DISP_COMMIT_BUSY = false) ∧ (s.on DISP_COMMIT_HOLD = true)) ∧
    (∃ (vf : Nat) (k : Nat) (n : Nat) (s : State),
    (s.on DISP_CFG_PRESENT = true) ∧ (s.disp.assets = true) ∧ (s.doorFenced = false) ∧ (s.panelHeld = false) ∧ (s.panel = 2) ∧ (s.on DISP_COMMIT_BUSY = false) ∧ (s.on DISP_COMMIT_HOLD = true) ∧ (s.on DISP_CFG_SENSE_EN = false) ∧ (s.disp.pwm = [(k, n)]) ∧ (k < 1536)) ∧
    (∃ (vf : Nat) (s : State),
    (s.doorFenced = true) ∧ (s.on DISP_COMMIT_BUSY = true)) ∧
    (∃ (s : State),
    (s.mpUp = true)) ∧
    (∃ (s : State),
    (s.mpUp = true)) :=
  ⟨⟨0x41, 0x04030201, up.put DISP_FB_SEL_OFFSET 1532, by decide +kernel⟩,
   ⟨0x41, 0x00000700, up, by decide +kernel⟩,
   ⟨0, ((door 3).putB DISP_COMMIT_BUSY true).put DISP_DIRTY_ROWS 1, by decide +kernel⟩,
   ⟨0, ({ door 3 with disp := { (door 3).disp with lightNext := true } }.putB DISP_COMMIT_HOLD true).putB PWR_STATUS_VLED_OK true, by decide +kernel⟩,
   ⟨0, 1, 4095, { door 2 with disp := { (door 2).disp with pwm := [(1, 4095)], current := [(1, 40)] } }.putB DISP_COMMIT_HOLD true, by decide +kernel⟩,
   ⟨0, { (door 2).putB DISP_COMMIT_BUSY true with rel := { up.rel with fenced := [.link 2] } }, by decide +kernel⟩,
   ⟨{ door 2 with stress := { up.stress with s := [(0, 4000000)] } }, by decide +kernel⟩,
   ⟨door 2, by decide +kernel⟩⟩

/-- States and operands that meet the hypotheses of `Obligations.PanelStates`, clause by clause. -/
theorem wit_PanelStates :
    (∃ (req : Nat) (s : State),
    (Writes s req DISP_CTRL 0xD15E0001) ∧ ((s.panel = 2 ∨ s.panel = 5 ∧ s.disp.back = true ∨ s.panel = 3 ∧ s.disp.lightNext = true)) ∧ (Room s portDisp)) ∧
    (∃ (req : Nat) (s : State),
    (Writes s req DISP_CTRL 0xD15E0001) ∧ (s.panelWants = false)) ∧
    (∃ (s : State),
    (s.panel = 6) ∧ (s.disp.after < 16) ∧ (s.disp.after ≠ 3)) ∧
    (∃ (s : State),
    (s.panel = 6) ∧ (s.disp.after = 3) ∧ (s.disp.assets = true) ∧ (s.panelHeld = false) ∧ (s.on PWR_STATUS_VLED_OK = true)) ∧
    (∃ (s : State),
    (s.panel ≠ 6)) ∧
    (∃ (req : Nat) (s : State),
    (Writes s req DISP_CTRL 0xD15E0002) ∧ (s.panel = 3) ∧ (s.disp.lightNext = false) ∧ (Room s portDisp)) ∧
    (∃ (req : Nat) (s : State),
    (Writes s req DISP_CTRL 0xD15E0003) ∧ (s.panel = 4) ∧ (s.disp.assets = true) ∧ (s.panelHeld = false) ∧ (s.on PWR_STATUS_VLED_OK = true)) ∧
    (∃ (req : Nat) (s : State),
    (Writes s req DISP_CTRL 0xD15E0003) ∧ (s.panel = 4) ∧ (s.disp.assets = true) ∧ (s.panelHeld = true)) ∧
    (∃ (req : Nat) (s : State),
    (Writes s req DISP_CTRL 0xD15E0004) ∧ (Room s portDisp)) ∧
    (∃ (s : State),
    (s.disp.showing ≠ none)) ∧
    (∃ (s : State),
    (s.disp.showing = none)) ∧
    (∃ (ohms : Nat) (s : State),
    (s.on DISP_CFG_PRESENT = true) ∧ (2000 < ohms) ∧ (ohms < 2 ^ 32) ∧ (s.on DISP_STATUS_CRACK_OPEN = false) ∧ (s.panel = 2) ∧ (Room s portDisp)) ∧
    (∃ (ohms : Nat) (s : State),
    (s.on DISP_CFG_PRESENT = true) ∧ (ohms ≤ 2000) ∧ (s.on DISP_STATUS_CRACK_OPEN = true) ∧ (Room s portDisp)) ∧
    (∃ (ohms : Nat) (s : State),
    (s.on DISP_CFG_PRESENT = false)) :=
  ⟨⟨0x41, door 2, by decide +kernel⟩,
   ⟨0x41, door 4, by decide +kernel⟩,
   ⟨{ door 6 with disp := { (door 6).disp with after := 4 } }, by decide +kernel⟩,
   ⟨{ door 6 with disp := { (door 6).disp with after := 3 } }.putB PWR_STATUS_VLED_OK true, by decide +kernel⟩,
   ⟨door 2, by decide +kernel⟩,
   ⟨0x41, (door 3).putB PWR_STATUS_VLED_OK true, by decide +kernel⟩,
   ⟨0x41, (door 4).putB PWR_STATUS_VLED_OK true, by decide +kernel⟩,
   ⟨0x41, { door 4 with pwr := { up.pwr with sluiceDone := true } }, by decide +kernel⟩,
   ⟨0x41, { door 2 with stress := { up.stress with s := [(0, 4)] } }, by decide +kernel⟩,
   ⟨{ door 2 with disp := { (door 2).disp with showing := some showing1 } }.putB DISP_STATUS_BINDING true, by decide +kernel⟩,
   ⟨door 2, by decide +kernel⟩,
   ⟨2001, door 2, by decide +kernel⟩,
   ⟨2000, (door 4).putB DISP_STATUS_CRACK_OPEN true, by decide +kernel⟩,
   ⟨9, up, by decide +kernel⟩⟩

/-- States and operands that meet the hypotheses of `Obligations.Strip`, clause by clause. -/
theorem wit_Strip :
    (∃ (req : Nat) (v : Word) (s : State),
    (Writes s req DISP_STRIP_CMD (0x80000000 ||| v)) ∧ (s.on DISP_STRIP_CFG_PRESENT = true) ∧ (s.pwr.sluice = none) ∧ (s.strip.run = none)) ∧
    (∃ (req : Nat) (v : Word) (s : State),
    (Writes s req DISP_STRIP_CMD (0x80000000 ||| v)) ∧ (s.on DISP_STRIP_CFG_PRESENT = false) ∧ (Room s portDisp)) ∧
    (∃ (req : Nat) (v : Word) (s : State),
    (Writes s req DISP_STRIP_CMD (0x80000000 ||| v)) ∧ (s.on DISP_STRIP_CFG_PRESENT = true) ∧ (s.pwr.sluice ≠ none)) ∧
    (∃ (s : State),
    (s.on DISP_STRIP_CFG_PRESENT = true) ∧ (s.mpUp = true) ∧ (s.doorFenced = false) ∧ (s.strip.run = none) ∧ (s.strip.lastWord = none) ∧ (s.pwr.sluice = none) ∧ (s.pwr.sluiceDone = false) ∧ (s.guard.halted = false) ∧ (s.strip.clear = 0) ∧ (s.strip.repeatTo = none) ∧ (s.strip.waiting = true) ∧ (s.stripBand.1 < 8) ∧ (s.stripAdmits s.stripBand.1 (s.waveOf s.stripBand.1 0).frames = true)) ∧
    (∃ (s : State),
    (s.on DISP_STRIP_CFG_PRESENT = true) ∧ (s.mpUp = true) ∧ (s.doorFenced = false) ∧ (s.strip.run = none) ∧ (s.strip.lastWord = none) ∧ (s.strip.clear = 0) ∧ (s.stripAdmits s.stripBand.1 (s.waveOf s.stripBand.1 0).frames = false)) ∧
    (∃ (r : WaveRun) (s : State),
    (s.mpUp = true) ∧ (s.doorFenced = false) ∧ (s.strip.run = some r) ∧ (r.marking = false) ∧ (r.ending = false) ∧ (r.frame + 1 < r.wave.frames) ∧ (s.stripBand.1 < r.band + 2) ∧ (r.band < s.stripBand.1 + 2)) ∧
    (∃ (r : WaveRun) (s : State),
    (s.mpUp = true) ∧ (s.doorFenced = false) ∧ (s.pwr.sluice = none) ∧ (s.strip.run = some r) ∧ (r.kind = 0) ∧ (r.marking = false) ∧ (r.ending = false) ∧ (r.seen = false) ∧ (r.frame + 1 < r.wave.frames) ∧ (r.band + 2 ≤ s.stripBand.1) ∧ (Room s portDisp)) ∧
    (∃ (r : WaveRun) (s : State),
    (s.mpUp = true) ∧ (s.doorFenced = false) ∧ (s.strip.run = some r) ∧ (r.marking = false) ∧ (r.ending = false) ∧ (r.wave.frames ≤ r.frame + 1) ∧ (r.toSegs < 2 ^ 24) ∧ (s.stripBand.1 < r.band + 2) ∧ (r.band < s.stripBand.1 + 2)) ∧
    (∃ (s : State),
    (((s.on DISP_STRIP_CFG_PRESENT = false ∧ s.strip.run = none) ∨ s.mpUp = false ∨ s.doorFenced = true))) ∧
    (∃ (r : WaveRun) (s : State),
    (s.strip.run = some r) ∧ (r.marking = true)) ∧
    (∃ (r : WaveRun) (s : State),
    (s.strip.run = some r) ∧ (r.marking = false) ∧ (r.ending = true) ∧ (r.kind = 0) ∧ (s.strip.waiting = false) ∧ (s.strip.clear = 0) ∧ (s.strip.repeatTo = none) ∧ (s.strip.lastWord = none)) ∧
    (∃ (s : State),
    (s.strip.run = none)) ∧
    (∃ (s : State),
    (s.strip.waiting = true) ∧ (Room s portDisp)) ∧
    (∃ (s : State),
    (s.strip.waiting = false)) :=
  ⟨⟨0x41, 0x00000700, strip {}, by decide +kernel⟩,
   ⟨0x41, 0x00000700, up, by decide +kernel⟩,
   ⟨0x41, 0x00000700, { strip {} with pwr := { up.pwr with sluice := some { cmd := true } } }, by decide +kernel⟩,
   ⟨(((strip { waiting := true, waves := [(0, wave3), (3, wave3), (6, wave3), (9, wave3)] }).putB PWR_STATUS_VEP_OK true).putB PWR_STATUS_GAUGE_VALID true).put PWR_GAUGE_ENERGY_MJ 60000, by decide +kernel⟩,
   ⟨strip { waiting := true }, by decide +kernel⟩,
   ⟨run3 1 false false, strip { run := some (run3 1 false false) }, by decide +kernel⟩,
   ⟨run3 1 false false, (strip { run := some (run3 1 false false) }).put (GUARD_READING_TEMP 19) 700, by decide +kernel⟩,
   ⟨run3 2 false false, strip { run := some (run3 2 false false) }, by decide +kernel⟩,
   ⟨up, by decide +kernel⟩,
   ⟨run3 0 true false, strip { run := some (run3 0 true false), dirty := true }, by decide +kernel⟩,
   ⟨run3 3 false true, (strip { run := some (run3 3 false true), dirty := true }).putB DISP_STRIP_CMD_BUSY true, by decide +kernel⟩,
   ⟨strip {}, by decide +kernel⟩,
   ⟨(strip { waiting := true }).putB DISP_STRIP_CMD_BUSY true, by decide +kernel⟩,
   ⟨strip {}, by decide +kernel⟩⟩

/-- A record of the FIFO, and one of the pond. -/
def sub1 : Submit := { code := 0x4001, sev := 3, p0 := 1 }
def rec1 (n : Nat) : LogRec := { seq := n, optime := 0, pcc := 1, src := 10, flood := false, body := sub1 }
def logged (r : Recorder) : State := { up with log := r }
def pondOf (n : Nat) : List LogRec := (List.range n).map (fun i => rec1 (i + 1))

/-- States and operands that meet the hypotheses of `Obligations.LogIntake`, clause by clause. -/
theorem wit_LogIntake :
    (∃ (p : Fin 16) (c : BitVec 16) (v : Fin 7) (p0 : Word) (p1 : Word) (p2 : Word) (b : Bool) (s : State),
    (v.val = sevOf c.toNat p1.toNat) ∧ (Room s p)) ∧
    (∃ (p : Fin 16) (c : BitVec 16) (v : Fin 7) (p0 : Word) (p1 : Word) (p2 : Word) (b : Bool) (s : State),
    (v.val = sevOf c.toNat p1.toNat) ∧ (16 ≤ (s.log.fifo p).length) ∧ (s.mpUp = true)) ∧
    (∃ (p : Fin 16) (c : BitVec 16) (v : Fin 7) (p0 : Word) (p1 : Word) (p2 : Word) (b : Bool) (s : State),
    (s.mpUp = false) ∧ (p ≠ 0)) ∧
    (∃ (c : BitVec 16) (v : Fin 7) (p0 : Word) (p1 : Word) (p2 : Word) (b : Bool) (s : State),
    (v.val = sevOf c.toNat p1.toNat) ∧ (s.mpUp = false) ∧ (16 ≤ (s.log.fifo 0).length)) ∧
    (∃ (p : Fin 16) (c : BitVec 16) (v : Fin 7) (p0 : Word) (p1 : Word) (p2 : Word) (b : Bool) (s : State),
    (v.val ≠ sevOf c.toNat p1.toNat)) ∧
    (∃ (p : Nat) (e : Submit) (q : List Submit) (s : State),
    (s.mpUp = true) ∧ (s.log.pond.length < 4096) ∧ (s.log.ovCount = 0) ∧ (s.log.nextPort s.log.pond.length = some p) ∧ (s.log.fifo p = e :: q) ∧ (s.disp.bindings.find? (fun b => b.code = e.code) = none) ∧ (s.log.freeze = none)) ∧
    (∃ (s : State),
    (s.mpUp = true) ∧ (s.log.pond.length < 4096) ∧ (s.log.ovCount ≠ 0) ∧ (s.log.freeze = none) ∧ (s.disp.bindings.find? (fun b => b.code = 0xA002) = none)) ∧
    (∃ (s : State),
    ((s.mpUp = false ∨ 4096 ≤ s.log.pond.length))) ∧
    (∃ (s : State),
    (s.log.inFlight = none) ∧ (s.log.freeze = none) ∧ (s.on LOG_STATUS_FLUSH_PAUSED = false) ∧ (32 ≤ s.log.pond.length)) ∧
    (∃ (s : State),
    ((s.log.inFlight ≠ none ∨ s.log.freeze ≠ none ∨ s.on LOG_STATUS_FLUSH_PAUSED = true ∨ s.log.pond = []))) ∧
    (∃ (n : Nat) (r : LogRec) (s : State),
    (s.log.inFlight = some n) ∧ (s.log.clearPending = none) ∧ (s.log.head.length + n < 65536) ∧ (s.log.place < 425984) ∧ (n ≤ 32 - s.log.place % 32) ∧ (s.log.place / 128 ∉ s.log.retired) ∧ ((s.log.pond.take n).getLast? = some r)) ∧
    (∃ (n : Nat) (s : State),
    (s.log.inFlight = some n) ∧ (Room s portLog) ∧ (s.log.place < 425984) ∧ (s.log.place / 128 ∉ s.log.retired)) ∧
    (∃ (ok : Bool) (s : State),
    (s.log.inFlight = none)) ∧
    (∃ (sec : Nat) (s : State),
    (s.mpUp = true) ∧ (s.log.erasing ≠ 0)) ∧
    (∃ (sec : Nat) (s : State),
    (s.mpUp = true) ∧ (s.log.erasing ≠ 0)) ∧
    (∃ (sec : Nat) (ok : Bool) (s : State),
    ((s.mpUp = false ∨ s.log.erasing = 0))) :=
  ⟨⟨10, 0x4001, 3, 1, 2, 3, false, logged { up.log with fifos := [(10, List.replicate 15 sub1)] }, by decide +kernel⟩,
   ⟨10, 0x4001, 3, 1, 2, 3, false, logged { up.log with fifos := [(10, List.replicate 16 sub1)] }, by decide +kernel⟩,
   ⟨10, 0x4001, 3, 1, 2, 3, false, State.reset, by decide +kernel⟩,
   ⟨0x4001, 3, 1, 2, 3, false, { State.reset with log := { up.log with fifos := [(0, List.replicate 16 sub1)] } }, by decide +kernel⟩,
   ⟨10, 0x4001, 2, 1, 2, 3, false, up, by decide +kernel⟩,
   ⟨10, sub1, List.replicate 7 sub1, logged { up.log with fifos := [(10, List.replicate 8 sub1)], nextSeq := 128 }, by decide +kernel⟩,
   ⟨(logged { up.log with ovCount := 3, ovPorts := 0x400 }).putB LOG_STATUS_OVERFLOW true, by decide +kernel⟩,
   ⟨logged { up.log with pond := List.replicate 4096 (rec1 1) }, by decide +kernel⟩,
   ⟨logged { up.log with pond := pondOf 32, place := 33 }, by decide +kernel⟩,
   ⟨up, by decide +kernel⟩,
   ⟨1, rec1 1, logged { up.log with pond := pondOf 2, inFlight := some 1, place := 425983 }, by decide +kernel⟩,
   ⟨1, logged { up.log with pond := pondOf 2, inFlight := some 1, place := 127 }, by decide +kernel⟩,
   ⟨true, up, by decide +kernel⟩,
   ⟨7, logged { up.log with erasing := 1, pool := 5 }, by decide +kernel⟩,
   ⟨7, logged { up.log with erasing := 1, pool := 5 }, by decide +kernel⟩,
   ⟨7, true, up, by decide +kernel⟩⟩

/-- States and operands that meet the hypotheses of `Obligations.LogControl`, clause by clause. -/
theorem wit_LogControl :
    (∃ (req : Nat) (c : BitVec 16) (s : State),
    (Writes s req LOG_CLEAR_CMD (0xC1EA0000 ||| c.setWidth 32))) ∧
    (∃ (req : Nat) (c : BitVec 16) (s : State),
    (Writes s req LOG_CLEAR_CMD (0xC1EA0000 ||| c.setWidth 32)) ∧ ((∀ p, s.log.fifo p = [])) ∧ (s.log.ovCount = 0) ∧ (s.log.pond.length < 4096) ∧ (s.log.freeze = none)) ∧
    (∃ (req : Nat) (c : BitVec 16) (s : State),
    (s.mpUp = true) ∧ ((s.loading = false ∨ req = 2)) ∧ (s.waitsBehind LOG_CLEAR_CMD = false) ∧ (req ≠ 0x10) ∧ (s.operates req = false)) ∧
    (∃ (a : Nat) (s : State),
    (s.log.clearPending = some a) ∧ (s.mpUp = true) ∧ ((s.log.tail.filter (fun r => decide (a ≤ r.seq))).length < 65536)) ∧
    (∃ (a : Nat) (r : LogRec) (s : State),
    (s.log.clearPending = some a) ∧ (s.log.head = []) ∧ (Room s portLog) ∧ (65536 ≤ (s.log.tail.filter (fun r => decide (a ≤ r.seq))).length) ∧ (((s.log.tail.filter (fun r => decide (a ≤ r.seq))).take 65536).getLast? = some r)) ∧
    (∃ (s : State),
    ((s.log.clearPending = none ∨ s.mpUp = false))) ∧
    (∃ (req : Nat) (s : State),
    (Writes s req LOG_FREEZE 0xF4EE0100) ∧ (s.log.freeze = none) ∧ (s.pwr.sluice = none) ∧ (s.guard.halted = false) ∧ (Room s portLog)) ∧
    (∃ (req : Nat) (x : Nat) (s : State),
    (Writes s req LOG_FREEZE 0xF4EE0200) ∧ (s.log.freeze = some x) ∧ (s.pwr.sluice = none) ∧ (s.guard.halted = false) ∧ (Room s portLog)) ∧
    (∃ (req : Nat) (s : State),
    (Writes s req LOG_FREEZE 0xF4EE0100) ∧ ((s.pwr.sluice ≠ none ∨ s.guard.halted = true))) ∧
    (∃ (req : Nat) (s : State),
    (Writes s req LOG_FREEZE 0xF4EE0200) ∧ ((s.pwr.sluice ≠ none ∨ s.guard.halted = true))) ∧
    (∃ (x : Nat) (s : State),
    (s.log.freeze = some x) ∧ (Room s portLog)) ∧
    (∃ (s : State),
    (s.log.freeze = none)) ∧
    (∃ (r : LogRec) (s : State),
    (s.on LOG_SYSLOG_CFG_ENABLE = true) ∧ (s.reg NET_IP4_ADDR ≠ 0) ∧ (s.on CADDY_STATUS_BARE = false) ∧ (s.caddy.fwRestart = false) ∧ (s.log.sysSecond ≠ s.opSec) ∧ (s.get LOG_SYSLOG_CFG_RATE ≠ 0) ∧ (s.available.find? (fun x => decide (s.log.sysNext ≤ x.seq) &&
      decide (s.get LOG_SYSLOG_CFG_MIN_SEV ≤ x.body.sev)) = some r)) ∧
    (∃ (s : State),
    (s.on LOG_SYSLOG_CFG_ENABLE = false)) ∧
    (∃ (s : State),
    (s.log.sysSkipped ≠ 0) ∧ (Room s portLog)) ∧
    (∃ (s : State),
    (s.log.sysSkipped = 0)) :=
  ⟨⟨0x10, 0, logged { up.log with fifos := [(10, List.replicate 8 sub1)] }, by decide +kernel⟩,
   ⟨0x10, 0, up, by decide +kernel, fun _ => rfl, by decide +kernel⟩,
   ⟨0x20, 0, up, by decide +kernel⟩,
   ⟨2, logged { up.log with clearPending := some 2, tail := pondOf 3 }, by decide +kernel⟩,
   ⟨2, rec1 2, logged { up.log with clearPending := some 2, tail := List.replicate 65536 (rec1 2) }, by decide +kernel, by decide +kernel, by decide +kernel, by simp only [logged, List.filter_replicate, rec1]; simp [-List.reduceReplicate], by simp only [logged, List.filter_replicate, rec1]; simp [-List.reduceReplicate, List.getLast?_replicate]⟩,
   ⟨up, by decide +kernel⟩,
   ⟨0x41, up, by decide +kernel⟩,
   ⟨0x41, 0, logged { up.log with freeze := some 0 }, by decide +kernel⟩,
   ⟨0x41, { up with guard := { up.guard with halted := true } }, by decide +kernel⟩,
   ⟨0x41, { up with guard := { up.guard with halted := true } }, by decide +kernel⟩,
   ⟨0, logged { up.log with freeze := some 0 }, by decide +kernel⟩,
   ⟨up, by decide +kernel⟩,
   ⟨rec1 1, ((((logged { up.log with pond := pondOf 1 }).setReg NET_IP4_ADDR 0x0A000002).put LOG_SYSLOG_CFG_RATE 1).setOptime 1024).putB LOG_SYSLOG_CFG_ENABLE true, by decide +kernel⟩,
   ⟨up, by decide +kernel⟩,
   ⟨logged { up.log with sysSkipped := 3 }, by decide +kernel⟩,
   ⟨up, by decide +kernel⟩⟩

/-- Fan 15 with REPEAT_N recent transients of REL_CFG. -/
def repeated : State :=
  { up with rel := { up.rel with history := List.replicate (up.get REL_CFG_REPEAT_N) (.fan 15, 0) } }
def testingFan (host : Bool) : State :=
  { up with rel := { up.rel with tests := [{ elem := .fan 15, host := host, running := true }] } }
/-- A recovery in a phase of R455 after a mismatch of tile 3. -/
def recovering (ph : Nat) (a b : Bool) : State :=
  { (up.put REL_STATUS_RECOVERY ph).putB REL_STATUS_HOLD true with
    pwr := { up.pwr with rstOut := true }
    rel := { up.rel with tiles := [3], laneA := a, laneB := b } }.putB SYS_STATUS_CP_RUN true

/-- States and operands that meet the hypotheses of `Obligations.SelfTests`, clause by clause. -/
theorem wit_SelfTests :
    (∃ (e : Element) (home : Element) (u : Bool) (w : Nat) (s : State),
    (((∃ f, e = .fan f) ∨ (∃ n, e = .aoMon n) ∨ (∃ q, e = .quad q) ∨
      (∃ d, e = .link d) ∨ (∃ m, e = .sram m ∧ (u = true ∨ (m, w) ∈ s.rel.sramWords)))) ∧ (s.mpUp = true) ∧ (s.rel.tests = []) ∧ (s.relBusy e = false) ∧ (s.recentTransients e < s.get REL_CFG_REPEAT_N)) ∧
    (∃ (m : Nat) (home : Element) (w : Nat) (s : State),
    (s.mpUp = true) ∧ ((m, w) ∉ s.rel.sramWords)) ∧
    (∃ (f : Fin 16) (home : Element) (u : Bool) (w : Nat) (s : State),
    (s.mpUp = true) ∧ (s.relBusy (.fan f) = false) ∧ (s.get REL_CFG_REPEAT_N ≤ s.recentTransients (.fan f)) ∧ (s.get REL_FENCE_SUMMARY_COUNT < 32) ∧ (s.mpUp = true) ∧ ((s.log.fifo portRel).length + 2 ≤ 16)) ∧
    (∃ (f : Fin 16) (home : Element) (u : Bool) (w : Nat) (s : State),
    (s.mpUp = true) ∧ (s.relBusy (.fan f) = false) ∧ (s.get REL_CFG_REPEAT_N ≤ s.recentTransients (.fan f)) ∧ (s.get REL_FENCE_SUMMARY_COUNT = 32) ∧ (s.mpUp = true) ∧ ((s.log.fifo portRel).length + 3 ≤ 16)) ∧
    (∃ (a : Nat) (w : Nat) (home : Element) (s : State),
    (s.mpUp = true) ∧ (tget (fun _ => 0) s.rel.rowTime (Config.dramRow a) = 0)) ∧
    (∃ (e : Element) (home : Element) (u : Bool) (w : Nat) (s : State),
    ((s.mpUp = false ∨ e = .aon))) ∧
    (∃ (f : Fin 16) (home : Element) (s : State),
    (s.rel.tests = [{ elem := .fan f, host := false, running := true }]) ∧ (Room s portRel)) ∧
    (∃ (f : Fin 16) (home : Element) (s : State),
    (s.rel.tests = [{ elem := .fan f, host := true, running := true }]) ∧ (Element.fan f ∉ s.rel.fenced) ∧ (s.get REL_FENCE_SUMMARY_COUNT < 32) ∧ (s.get REL_TEST_RESULT_UNIT = 5) ∧ (s.get REL_TEST_RESULT_INDEX = f) ∧ (Room s portRel)) ∧
    (∃ (e : Element) (home : Element) (b : Bool) (s : State),
    ((∀ x ∈ s.rel.tests, x.elem ≠ e))) ∧
    (∃ (req : Nat) (f : Fin 16) (s : State),
    (Writes s req REL_TEST_CMD ((0x7E57 : BitVec 16) ++ (5 : BitVec 4) ++ BitVec.ofNat 12 f)) ∧ (s.rel.tests = [])) ∧
    (∃ (req : Nat) (f : Fin 16) (s : State),
    (s.mpUp = true) ∧ ((s.loading = false ∨ req = 2)) ∧ (s.waitsBehind REL_TEST_CMD = false) ∧ (s.relBusy (.fan f) = true)) ∧
    (∃ (s : State),
    (s.dpUp = true) ∧ (s.on REL_SCRUB_CFG_ENABLE = true) ∧ (s.rel.scrubAt + 1 < 2 ^ 28)) ∧
    (∃ (s : State),
    (s.dpUp = true) ∧ (s.on REL_SCRUB_CFG_ENABLE = true) ∧ (s.rel.scrubAt + 1 = 2 ^ 28)) ∧
    (∃ (x : Fin 3) (s : State),
    ((s.dpUp = false ∨ s.on REL_SCRUB_CFG_ENABLE = false))) ∧
    (∃ (s : State),
    (s.rel.eccHour ≠ 0) ∧ (Room s portRel)) ∧
    (∃ (s : State),
    (s.rel.eccHour = 0)) ∧
    (∃ (tested : Nat) (ms : Nat) (s : State),
    (s.mpUp = true) ∧ (s.on REL_STATUS_BOOT_TEST_DONE = false) ∧ (Room s portRel)) ∧
    (∃ (tested : Nat) (ms : Nat) (l : List Element) (s : State),
    (s.on REL_STATUS_BOOT_TEST_DONE = true)) :=
  ⟨⟨.fan 15, .aon, false, 8, up, Or.inl ⟨15, rfl⟩, by decide +kernel⟩,
   ⟨5, .aon, 8, { up with rel := { up.rel with sramWords := [(5, 9)] } }, by decide +kernel⟩,
   ⟨15, .aon, false, 8, repeated.put REL_FENCE_SUMMARY_COUNT 31, by decide +kernel⟩,
   ⟨15, .aon, true, 8, (repeated.put REL_FENCE_SUMMARY_COUNT 32).put REL_FENCE_SUMMARY_OVERFLOW 255, by decide +kernel⟩,
   ⟨77, 8, .aon, up, by decide +kernel⟩,
   ⟨.aon, .aon, true, 8, up, by decide +kernel⟩,
   ⟨15, .aon, testingFan false, by decide +kernel⟩,
   ⟨15, .aon, (((testingFan true).put REL_TEST_RESULT_UNIT 5).put REL_TEST_RESULT_INDEX 15).put REL_FENCE_SUMMARY_COUNT 31, by decide +kernel⟩,
   ⟨.fan 15, .aon, true, up, by decide +kernel⟩,
   ⟨0x10, 15, up, by decide +kernel⟩,
   ⟨0x10, 15, testingFan false, by decide +kernel⟩,
   ⟨{ up.putB REL_SCRUB_CFG_ENABLE true with rel := { up.rel with scrubAt := 2 ^ 28 - 2 } }, by decide +kernel⟩,
   ⟨{ up.putB REL_SCRUB_CFG_ENABLE true with rel := { up.rel with scrubAt := 2 ^ 28 - 1 } }, by decide +kernel⟩,
   ⟨2, up.putB REL_SCRUB_CFG_ENABLE false, by decide +kernel⟩,
   ⟨{ up with rel := { up.rel with eccHour := 3, eccLast := 77 } }, by decide +kernel⟩,
   ⟨up, by decide +kernel⟩,
   ⟨5, 900, up, by decide +kernel⟩,
   ⟨5, 900, [.fan 15], up.putB REL_STATUS_BOOT_TEST_DONE true, by decide +kernel⟩⟩

/-- States and operands that meet the hypotheses of `Obligations.Lockstep`, clause by clause. -/
theorem wit_Lockstep :
    (∃ (tile : Nat) (s : State),
    (s.cpRuns = true) ∧ (s.get REL_STATUS_RECOVERY = 0) ∧ (tile < 16)) ∧
    (∃ (tile : Nat) (s : State),
    (s.cpRuns = true) ∧ (s.get REL_STATUS_RECOVERY = 1) ∧ (tile < 16) ∧ (tile ∉ s.rel.tiles)) ∧
    (∃ (tile : Nat) (s : State),
    (s.cpRuns = false)) ∧
    (∃ (a : Bool) (b : Bool) (s : State),
    (s.cpRuns = true) ∧ (s.get REL_STATUS_RECOVERY = 1) ∧ (Element.lane 0 ∉ s.rel.fenced) ∧ (Element.lane 1 ∉ s.rel.fenced) ∧ (s.caddy.swap = none)) ∧
    (∃ (a : Bool) (b : Bool) (s : State),
    (s.get REL_STATUS_RECOVERY ≠ 1)) ∧
    (∃ (tile : Nat) (ns : Nat) (hold : Nat) (s : State),
    (s.cpRuns = true) ∧ (s.get REL_STATUS_RECOVERY = 2) ∧ (s.singleLane = false) ∧ (s.rel.laneA = true) ∧ (s.rel.laneB = true) ∧ (s.rel.tiles = [tile]) ∧ (tile < 16) ∧ (s.rel.errLane = none) ∧ (s.caddy.swap = none) ∧ (Room s portRel)) ∧
    (∃ (tile : Nat) (ns : Nat) (hold : Nat) (l : Fin 2) (s : State),
    (s.cpRuns = true) ∧ (s.get REL_STATUS_RECOVERY = 2) ∧ (s.singleLane = false) ∧ (s.rel.laneA = true) ∧ (s.rel.laneB = true) ∧ (s.rel.tiles = [tile]) ∧ (s.rel.errLane = some l.val) ∧ (s.caddy.swap = none)) ∧
    (∃ (tile : Nat) (ns : Nat) (hold : Nat) (agree : Bool) (s : State),
    (s.cpRuns = true) ∧ (s.get REL_STATUS_RECOVERY = 2) ∧ (s.singleLane = false) ∧ (s.rel.laneA = false) ∧ (s.rel.laneB = true) ∧ (s.rel.tiles = [tile]) ∧ (Element.lane 0 ∉ s.rel.fenced) ∧ (s.get REL_FENCE_SUMMARY_COUNT < 32) ∧ (Room s portRel)) ∧
    (∃ (tile : Nat) (ns : Nat) (hold : Nat) (agree : Bool) (s : State),
    (s.cpRuns = true) ∧ (s.get REL_STATUS_RECOVERY = 2) ∧ (s.singleLane = false) ∧ (s.rel.laneA = false) ∧ (s.rel.laneB = false) ∧ (s.rel.tiles = [tile]) ∧ (Room s portRel)) ∧
    (∃ (ns : Nat) (hold : Nat) (s : State),
    (s.cpRuns = true) ∧ (s.get REL_STATUS_RECOVERY = 2) ∧ (s.singleLane = false) ∧ (s.rel.laneA = true) ∧ (s.rel.laneB = true) ∧ (s.caddy.swap = none)) ∧
    (∃ (ns : Nat) (hold : Nat) (agree : Bool) (s : State),
    (s.get REL_STATUS_RECOVERY ≠ 2)) ∧
    (∃ (tile : Nat) (ns : Nat) (hold : Nat) (s : State),
    (s.cpRuns = true) ∧ (s.get REL_STATUS_RECOVERY = 3) ∧ (s.rel.tiles = [tile]) ∧ (Element.lane 1 ∉ s.rel.fenced) ∧ (Room s portRel) ∧ (s.get REL_FENCE_SUMMARY_COUNT < 32)) ∧
    (∃ (both : Bool) (tile : Nat) (ns : Nat) (hold : Nat) (s : State),
    (s.cpRuns = true) ∧ (s.get REL_STATUS_RECOVERY = 3) ∧ (s.rel.tiles = [tile]) ∧ (Room s portRel)) ∧
    (∃ (a : Bool) (b : Bool) (ns : Nat) (hold : Nat) (s : State),
    (s.get REL_STATUS_RECOVERY ≠ 3)) ∧
    (∃ (tested : Nat) (ms : Nat) (s : State),
    (s.mpUp = true) ∧ (s.on REL_STATUS_BOOT_TEST_DONE = false) ∧ (s.mpUp = true) ∧ ((s.log.fifo portRel).length + 2 ≤ 16)) :=
  ⟨⟨15, up.putB SYS_STATUS_CP_RUN true, by decide +kernel⟩,
   ⟨15, recovering 1 false false, by decide +kernel⟩,
   ⟨15, State.reset, by decide +kernel⟩,
   ⟨true, false, recovering 1 false false, by decide +kernel⟩,
   ⟨true, false, up, by decide +kernel⟩,
   ⟨3, 49, 500, recovering 2 true true, by decide +kernel⟩,
   ⟨3, 49, 500, 1, { recovering 2 true true with rel := { (recovering 2 true true).rel with errLane := some 1 } }, by decide +kernel⟩,
   ⟨3, 49, 500, true, (recovering 2 false true).put REL_FENCE_SUMMARY_COUNT 31, by decide +kernel⟩,
   ⟨3, 49, 500, false, recovering 2 false false, by decide +kernel⟩,
   ⟨49, 500, recovering 2 true true, by decide +kernel⟩,
   ⟨49, 500, true, up, by decide +kernel⟩,
   ⟨3, 49, 500, (recovering 3 true true).put REL_FENCE_SUMMARY_COUNT 31, by decide +kernel⟩,
   ⟨true, 3, 49, 500, recovering 3 true true, by decide +kernel⟩,
   ⟨true, false, 49, 500, up, by decide +kernel⟩,
   ⟨5, 900, up, by decide +kernel⟩⟩

end Sys2Proof.Tests
end

section
/-! PROOFS. The host SPI port (R145 to R147): what one frame does, a read of a management register from its start to
the value held, a write of SYS_SCRATCH, and the statement about the port's frames. -/

namespace Sys2Proof.Machine

open Reg

/-! ### Reads of hosts that end at once (R29) -/

namespace State

/-- A running management plane is not in reset. -/
theorem inReset_mgmt_of_mpUp {s : State} (h : s.mpUp = true) : s.inReset .mgmt = false := by
  simpa [mpUp, inReset] using h

/-- A read of a register in no latch group, with no capture, returns what the register shows and changes nothing. -/
theorem readAt_plain {s : State} {req a : Nat} (hup : s.mpUp = true) (hr : s.inReset (planeOf a) = false)
    (hm : mapped a = true) (hl : latchMembers a = []) (hc : s.captured req a = none) :
    s.readAt req a = (s.look req a, s) := by
  simp [readAt, hup, hm, hr, hl, hc]

/-- With nothing held off, a read of the management plane gets its value at once. -/
theorem issueRead_mgmt {s : State} {req a txn idx : Nat} (hh : s.fab.held = []) (hl : onLeat a = false) :
    s.issueRead req a txn idx = (s.readAt req a).2.txnGot txn idx (s.readAt req a).1 := by
  simp [issueRead, hh, hl]

/-- With no Modbus read finished and no request waiting the server does nothing. -/
theorem mbPump_idle {s : State} (ht : s.fab.txns = []) (hq : s.net.mbQueue = []) : ∀ n, mbPump n s = s
  | 0 => rfl
  | n + 1 => by simp [mbPump, ht, hq]

/-- The state with other host reads in progress and another outstanding read of the host SPI port: all that a READ
changes. -/
def withReads (s : State) (n : Nat) (l : List Txn) (h : Option HspiRead) : State :=
  { s with fab := { s.fab with nextTxn := n, txns := l }, net := { s.net with hspi := h } }

section WithReads
variable (s : State) (n : Nat) (l : List Txn) (h : Option HspiRead)

@[simp] theorem withReads_txns : (s.withReads n l h).fab.txns = l := rfl
@[simp] theorem withReads_held : (s.withReads n l h).fab.held = s.fab.held := rfl

/-- What registers show depends on no read in progress. -/
theorem look_withReads (req a : Nat) : (s.withReads n l h).look req a = s.look req a := rfl

/-- A value that has come for the one read in progress. -/
theorem txnGot_withReads (t : Txn) (idx : Nat) (w : Word) :
    (s.withReads n [t] h).txnGot t.id idx w = s.withReads n [{ t with got := t.got ++ [(idx, w)] }] h := by
  simp [txnGot, withReads]

/-- The finished read of the host SPI port, alone in progress, hands its value to the port. -/
theorem readsSettle_withReads {t : Txn} (r : HspiRead) (hd : t.done = true) (hk : t.kind = .hspi)
    (hq : s.net.mbQueue = []) :
    (s.withReads n [t] (some r)).readsSettle = s.withReads n [] (some { r with value := t.values.head? }) := by
  have hend : (s.withReads n [t] (some r)).each ([t].filter Txn.done) txnEnd =
      s.withReads n [] (some { r with value := t.values.head? }) := by
    simp [each, hd, txnEnd, hk, txnDrop, withReads]
  have hidle := mbPump_idle (s := s.withReads n [] (some { r with value := t.values.head? })) (withReads_txns ..) hq
  simp only [readsSettle, withReads_txns, hend, hidle, ite_self]

end WithReads

/-! ### One frame (R145, R147) -/

/-- While no read has returned, a frame answers no more than the interrupt bit. -/
theorem hspiDeliver_empty {s : State} (h : ∀ r, s.net.hspi = some r → r.value = none) :
    s.hspiDeliver = s.send (.hspi (if s.hspiIrq then 0x40000000 else 0) 0) := by
  have hw : BitVec.ofNat 32 (if s.hspiIrq then 2 ^ 30 else 0) = if s.hspiIrq then 0x40000000 else 0 := by
    cases s.hspiIrq <;> rfl
  rcases hs : s.net.hspi with _ | ⟨tag, addr, _ | v⟩
  · simp only [hspiDeliver, hs, hw]
  · simp only [hspiDeliver, hs, hw]
  · cases h _ hs

/-- A read that has returned is delivered with its tag and address, and the port is free again. -/
theorem hspiDeliver_returned {s : State} {r : HspiRead} {v : Word} (h : s.net.hspi = some r) (hv : r.value = some v) :
    s.hspiDeliver = { s with
      out := .hspi (BitVec.ofNat 32 (2 ^ 31 + (if s.hspiIrq then 2 ^ 30 else 0) + r.tag * 2 ^ 24 + r.addr)) v :: s.out
      net := { s.net with hspi := none } } := by
  obtain ⟨tag, addr, value⟩ := r
  cases hv
  simp only [hspiDeliver, h, send]

/-- The answer to a frame changes only what is sent and the outstanding read. -/
theorem hspiDeliver_frame (s : State) :
    { s.hspiDeliver with out := s.out, net := { s.hspiDeliver.net with hspi := s.net.hspi } } = s := by
  rcases hs : s.net.hspi with _ | ⟨tag, addr, _ | v⟩
  · rw [hspiDeliver_empty (by simp [hs]), ← hs]; rfl
  · rw [hspiDeliver_empty (by simp [hs]), ← hs]; rfl
  · rw [hspiDeliver_returned hs rfl, ← hs]

theorem hspiDeliver_regs (s : State) : s.hspiDeliver.regs = s.regs :=
  (congrArg State.regs s.hspiDeliver_frame :)

section Frame
variable {s : State} {own : Nat} {cmd : Word} {n : Nat} {run : State → State}

/-- A port that is not configured ignores its pins (R50). -/
theorem hspiFrame_not_configured (hc : s.configured = false) : s.hspiFrame own cmd n run = s := by
  simp [hspiFrame, hc]

/-- During a firmware restart a frame answers PAUSED and has no effect (R147). -/
theorem hspiFrame_paused (hc : s.configured = true) (hp : s.caddy.fwRestart = true)
    (ho : bits cmd 31 30 = own ∨ bits cmd 31 30 = 3) : s.hspiFrame own cmd n run = s.send (.hspi 0x20000000 0) := by
  have hop : ¬ (bits cmd 31 30 ≠ own ∧ bits cmd 31 30 ≠ 3) := by omega
  simp only [hspiFrame, hc, hop, hp, Bool.not_true, Bool.false_eq_true, or_self, if_false, if_true]

/-- A malformed frame is answered, and counted instead of run (R147). -/
theorem hspiFrame_bad (hc : s.configured = true) (hp : s.caddy.fwRestart = false)
    (ho : bits cmd 31 30 = own ∨ bits cmd 31 30 = 3)
    (hb : n ≠ 64 ∨ bits cmd 31 30 = 3 ∨ cmd.getLsbD 29 = true) :
    s.hspiFrame own cmd n run = s.hspiDeliver.inc NET_HSPI_ERR_BAD_FRAMES := by
  have hop : ¬ (bits cmd 31 30 ≠ own ∧ bits cmd 31 30 ≠ 3) := by omega
  simp only [hspiFrame, hc, hop, hp, hb, Bool.not_true, Bool.false_eq_true, or_self, if_false, if_true]

/-- A well-formed frame is answered, then run. -/
theorem hspiFrame_good (hc : s.configured = true) (hp : s.caddy.fwRestart = false) (ho : bits cmd 31 30 = own)
    (h3 : own ≠ 3) (h29 : cmd.getLsbD 29 = false) : s.hspiFrame own cmd 64 run = run s.hspiDeliver := by
  simp only [hspiFrame, hc, hp, ho, h3, h29, ne_eq, not_true_eq_false, false_and, Bool.not_true, Bool.false_eq_true,
    or_self, if_false]

/-- A PAUSED answer is all that a frame leaves during a firmware restart. -/
theorem hspiFrame_paused_frame (hc : s.configured = true) (hp : s.caddy.fwRestart = true)
    (ho : bits cmd 31 30 = own ∨ bits cmd 31 30 = 3) :
    ∃ t, (.next (s.hspiFrame own cmd n run) : Res) = .next t ∧
      t.out = .hspi 0x20000000 0 :: s.out ∧ { t with out := s.out } = s :=
  ⟨_, congrArg _ (hspiFrame_paused hc hp ho), rfl, rfl⟩

/-- A malformed frame changes the count of bad frames, what is sent and the outstanding read, no more. -/
theorem hspiFrame_bad_frame (hc : s.configured = true) (hp : s.caddy.fwRestart = false)
    (ho : bits cmd 31 30 = own ∨ bits cmd 31 30 = 3)
    (hb : n ≠ 64 ∨ bits cmd 31 30 = 3 ∨ cmd.getLsbD 29 = true) :
    ∃ t, (.next (s.hspiFrame own cmd n run) : Res) = .next t ∧
      t.get NET_HSPI_ERR_BAD_FRAMES = (s.get NET_HSPI_ERR_BAD_FRAMES + 1) % 65536 ∧ SameRegs [NET_HSPI_ERR] s t ∧
      { t with regs := s.regs, out := s.out, net := { t.net with hspi := s.net.hspi } } = s := by
  refine ⟨_, congrArg _ (hspiFrame_bad hc hp ho hb), ?_, ?_, ?_⟩
  · exact (get_inc_same _ _ (by decide)).trans (by rw [get_congr s.hspiDeliver_regs]; rfl)
  · exact ((SameRegs.refl _ s).of_regs s.hspiDeliver_regs).inc (by simp)
  · have hf := s.hspiDeliver_frame
    rw [← s.hspiDeliver_regs]
    exact hf

end Frame

/-! ### READ (R146) -/

/-- A READ while one is outstanding is dropped and counted. -/
theorem hspiRead_busy {s : State} {cmd : Word} (h : s.net.hspi.isSome = true) :
    s.hspiRead cmd = s.inc NET_HSPI_ERR_READ_BUSY := by
  simp [hspiRead, h]

/-- A READ with no other host read in progress is outstanding and asks for its register. -/
theorem hspiRead_starts {s : State} {cmd : Word} (hh : s.net.hspi = none) (ht : s.fab.txns = []) :
    s.hspiRead cmd =
      ((s.withReads (s.fab.nextTxn + 1) [{ id := s.fab.nextTxn, requester := 0x10, kind := .hspi, need := 1 }]
        (some { tag := bits cmd 28 24, addr := bits cmd 23 0 })).issueRead 0x10 (bits cmd 23 0) s.fab.nextTxn
          0).readsSettle := by
  simp [hspiRead, hh, txnStart, ht, withReads]

/-- A READ of a management register outside the latch groups, with no other host read or request waiting, holds
the register's value for the next frame. -/
theorem hspiRead_mgmt {s : State} {cmd : Word} (hup : s.mpUp = true) (hh : s.net.hspi = none)
    (ht : s.fab.txns = []) (hd : s.fab.held = []) (hq : s.net.mbQueue = [])
    (hl : onLeat (bits cmd 23 0) = false) (hm : mapped (bits cmd 23 0) = true)
    (hg : latchMembers (bits cmd 23 0) = []) (hc : s.captured 0x10 (bits cmd 23 0) = none) :
    s.hspiRead cmd = s.withReads (s.fab.nextTxn + 1) []
      (some { tag := bits cmd 28 24, addr := bits cmd 23 0, value := some (s.look 0x10 (bits cmd 23 0)) }) := by
  have hr : s.inReset (planeOf (bits cmd 23 0)) = false := by
    have hp : planeOf (bits cmd 23 0) = .mgmt := by simpa [onLeat] using hl
    rw [hp]
    exact inReset_mgmt_of_mpUp hup
  have hread (n : Nat) (l : List Txn) (h : Option HspiRead) :
      (s.withReads n l h).readAt 0x10 (bits cmd 23 0) = (s.look 0x10 (bits cmd 23 0), s.withReads n l h) :=
    (readAt_plain (s := s.withReads n l h) hup hr hm hg hc).trans (by rw [look_withReads])
  rw [hspiRead_starts hh ht, issueRead_mgmt ((withReads_held ..).trans hd) hl, hread, txnGot_withReads,
    readsSettle_withReads _ _ _ rfl rfl hq]
  rfl

/-! ### A write of SYS_SCRATCH (R106, R114) -/

theorem rowOf_scratch : rowOf SYS_SCRATCH = some { base := 0x00001c, rw := 0xffffffff } := rfl

/-- Every word is a good value for SYS_SCRATCH, from every requester. -/
theorem writeOk_scratch {s : State} (hup : s.mpUp = true) (req : Nat) (v : Word) :
    s.writeOk req SYS_SCRATCH v = true := by
  have hw : s.wordOk SYS_SCRATCH v = true := rfl
  have hq : s.requesterMay req SYS_SCRATCH = true := rfl
  have hr : s.inReset (planeOf SYS_SCRATCH) = false := inReset_mgmt_of_mpUp hup
  simp [writeOk, hr, rowOf_scratch, hw, hq, RegRow.admits]

/-- SYS_SCRATCH keeps the word written, whole. -/
theorem store_scratch (s : State) (v : Word) : s.store SYS_SCRATCH v = s.setReg SYS_SCRATCH v := by
  have hafter (old : Word) : RegRow.after { base := 0x00001c, rw := 0xffffffff } old v = v := by
    have hall : (0xffffffff#32) = BitVec.allOnes 32 := rfl
    simp only [RegRow.after, hall, BitVec.and_allOnes, BitVec.not_allOnes, BitVec.and_zero, BitVec.zero_or,
      BitVec.not_zero]
  simp [store, rowOf_scratch, hafter, tableRegs]

/-- A write of SYS_SCRATCH has no effect beyond the register. -/
theorem effect_scratch (s : State) (req : Nat) (old v : Word) : s.effect req SYS_SCRATCH old v = s := rfl

/-- A write of SYS_SCRATCH reaches the register at once, unless a load holds it off. -/
theorem issueWrite_scratch {s : State} (hup : s.mpUp = true) (hl : s.loading = false) (req : Nat) (v : Word) :
    s.issueWrite req SYS_SCRATCH v = s.setReg SYS_SCRATCH v := by
  have hleat : onLeat SYS_SCRATCH = false := rfl
  have hswap : SYS_SCRATCH ≠ CADDY_SWAP_CMD := by decide
  simp [issueWrite, writeAt, waitsBehind, writeNow, writeCore, hl, hleat, hswap, hup, writeOk_scratch, store_scratch,
    effect_scratch]

theorem mpUp_of_configured {s : State} (h : s.configured = true) : s.mpUp = true :=
  (Bool.and_eq_true_iff.mp h).1

end State

/-! ### The commands -/

theorem exec_hspiRead_eq (cmd d : Word) (n : Nat) (s : State) :
    exec (.hspiRead cmd d n) s = .next (s.hspiFrame 0 cmd n (fun t => t.hspiRead cmd)) := rfl

theorem exec_hspiWrite_eq (cmd d : Word) (n : Nat) (s : State) :
    exec (.hspiWrite cmd d n) s = .next (s.hspiFrame 1 cmd n (fun t => t.issueWrite 0x10 (bits cmd 23 0) d)) := rfl

theorem exec_hspiFetch_eq (cmd d : Word) (n : Nat) (s : State) :
    exec (.hspiFetch cmd d n) s = .next (s.hspiFrame 2 cmd n id) := rfl

section Commands
variable {cmd d : Word} {s : State}

theorem exec_hspiRead_mgmt (hc : s.configured = true) (hp : s.caddy.fwRestart = false) (ho : bits cmd 31 30 = 0)
    (h29 : cmd.getLsbD 29 = false) (hh : s.net.hspi = none) (ht : s.fab.txns = []) (hd : s.fab.held = [])
    (hq : s.net.mbQueue = []) (hl : onLeat (bits cmd 23 0) = false) (hm : mapped (bits cmd 23 0) = true)
    (hg : latchMembers (bits cmd 23 0) = []) (hcap : s.captured 0x10 (bits cmd 23 0) = none) :
    ∃ t, exec (.hspiRead cmd d 64) s = .next t ∧
      t.out = .hspi (if s.hspiIrq then 0x40000000 else 0) 0 :: s.out ∧
      t.net.hspi = some { tag := bits cmd 28 24, addr := bits cmd 23 0, value := some (s.look 0x10 (bits cmd 23 0)) } ∧
      t.regs = s.regs ∧ t.fab.txns = [] ∧ { t with out := s.out, net := s.net, fab := s.fab } = s := by
  have hsent (o : Output) := State.hspiRead_mgmt (s := s.send o) (State.mpUp_of_configured hc) hh ht hd hq hl hm hg hcap
  rw [exec_hspiRead_eq, State.hspiFrame_good hc hp ho (by decide) h29, State.hspiDeliver_empty (by simp [hh]), hsent]
  exact ⟨_, rfl, rfl, rfl, rfl, rfl, rfl⟩

theorem exec_hspiRead_busy {r : HspiRead} (hc : s.configured = true) (hp : s.caddy.fwRestart = false)
    (ho : bits cmd 31 30 = 0) (h29 : cmd.getLsbD 29 = false) (hh : s.net.hspi = some r) (hv : r.value = none) :
    ∃ t, exec (.hspiRead cmd d 64) s = .next t ∧
      t.get NET_HSPI_ERR_READ_BUSY = (s.get NET_HSPI_ERR_READ_BUSY + 1) % 65536 ∧ t.net = s.net ∧
      SameRegs [NET_HSPI_ERR] s t ∧ { t with regs := s.regs, out := s.out } = s := by
  have hempty : ∀ q, s.net.hspi = some q → q.value = none := by
    rintro q hq
    cases hh.symm.trans hq
    exact hv
  rw [exec_hspiRead_eq, State.hspiFrame_good hc hp ho (by decide) h29, State.hspiDeliver_empty hempty,
    State.hspiRead_busy (by simp [hh])]
  refine ⟨_, rfl, ?_, rfl, ?_, rfl⟩
  · exact State.get_inc_same _ _ (by decide)
  · exact ((SameRegs.refl _ s).of_regs (State.send_regs ..)).inc (by simp)

theorem exec_hspiFetch_returned {r : HspiRead} {v : Word} (hc : s.configured = true) (hp : s.caddy.fwRestart = false)
    (ho : bits cmd 31 30 = 2) (h29 : cmd.getLsbD 29 = false) (hh : s.net.hspi = some r) (hv : r.value = some v) :
    ∃ t, exec (.hspiFetch cmd d 64) s = .next t ∧
      t.out = .hspi (BitVec.ofNat 32 (2 ^ 31 + (if s.hspiIrq then 2 ^ 30 else 0) + r.tag * 2 ^ 24 + r.addr)) v :: s.out ∧
      t.net = { s.net with hspi := none } ∧ { t with out := s.out, net := s.net } = s := by
  rw [exec_hspiFetch_eq, State.hspiFrame_good hc hp ho (by decide) h29, State.hspiDeliver_returned hh hv]
  exact ⟨_, rfl, rfl, rfl, rfl⟩

theorem exec_hspiWrite_scratch (hc : s.configured = true) (hp : s.caddy.fwRestart = false) (ho : bits cmd 31 30 = 1)
    (h29 : cmd.getLsbD 29 = false) (ha : bits cmd 23 0 = SYS_SCRATCH) (hh : s.net.hspi = none)
    (hl : s.loading = false) :
    ∃ t, exec (.hspiWrite cmd d 64) s = .next t ∧ t.reg SYS_SCRATCH = d ∧ SameRegs [SYS_SCRATCH] s t ∧
      { t with regs := s.regs, out := s.out } = s := by
  have hsent (o : Output) := State.issueWrite_scratch (s := s.send o) (State.mpUp_of_configured hc) hl 0x10 d
  rw [exec_hspiWrite_eq, State.hspiFrame_good hc hp ho (by decide) h29, State.hspiDeliver_empty (by simp [hh]), ha,
    hsent]
  refine ⟨_, rfl, State.reg_setReg_same .., ?_, rfl⟩
  exact ((SameRegs.refl _ s).of_regs (State.send_regs ..)).setReg _ (by simp)

end Commands

/-- Settles O31: each clause is the meaning of one kind of frame; a malformed or PAUSED frame is treated alike by
the three commands. -/
theorem hostSpi : Obligations.HostSpi := by
  unfold Obligations.HostSpi
  refine ⟨fun cmd d s => exec_hspiRead_mgmt, fun cmd d r s => exec_hspiRead_busy,
    fun cmd d v r s => exec_hspiFetch_returned, fun cmd d s => exec_hspiWrite_scratch, ?_, ?_, ?_⟩
  · intro cmd d n s hc hp hb
    exact ⟨fun ho => State.hspiFrame_bad_frame hc hp ho hb, fun ho => State.hspiFrame_bad_frame hc hp ho hb,
      fun ho => State.hspiFrame_bad_frame hc hp ho hb⟩
  · intro cmd d n s hc hp
    exact ⟨State.hspiFrame_paused_frame hc hp, State.hspiFrame_paused_frame hc hp,
      State.hspiFrame_paused_frame hc hp⟩
  · intro cmd d n s hc
    rw [exec_hspiRead_eq, exec_hspiWrite_eq, exec_hspiFetch_eq]
    simp only [State.hspiFrame_not_configured hc, and_self]

end Sys2Proof.Machine
end

section
/-! PROOFS. Setting, stepping and slewing of site time, and time marks (R162 to R168): the trim and a slew, the split of
an offset into whole milliseconds and a slew, a write of TIME_SET_CMD, a step that takes effect, and the statement about
them. -/

namespace Sys2Proof.Machine

open Reg

/-! ### An offset as whole milliseconds (R163) -/

/-- Rounding to the nearest millisecond leaves at most half of one. -/
theorem natAbs_sub_roundMs_le (off : Int) : (off - roundMs off * 1000000).natAbs ≤ 500000 := by
  unfold roundMs
  split <;> omega

theorem ofSigned_lt (w : Nat) (i : Int) : ofSigned w i < 2 ^ w := by
  have hw : (0 : Int) < 2 ^ w := by positivity
  have hlt := Int.emod_lt_of_pos i hw
  unfold ofSigned
  rw [Int.toNat_lt (Int.emod_nonneg i hw.ne')]
  exact_mod_cast hlt

namespace State

section Trim
variable (s : State) (v ns : Int)

/-! ### The trim (R162) -/

theorem get_setTrim_trim : (s.setTrim v).get TIME_SERVO_TRIM = ofSigned 16 (clampI (-10000) 10000 v) :=
  (s.get_put_same TIME_SERVO_TRIM _ (by decide)).trans (Nat.mod_eq_of_lt (ofSigned_lt 16 _))

theorem sameRegs_setTrim : SameRegs [TIME_SERVO] s (s.setTrim v) :=
  ((SameRegs.refl _ s).put (f := TIME_SERVO_TRIM) _ (by simp)).of_regs rfl

theorem get_setTrim_ne {f : Fld} (h : f.addr ≠ TIME_SERVO) : (s.setTrim v).get f = s.get f :=
  s.get_put_ne TIME_SERVO_TRIM f _ (by decide) (.inl h)

/-! ### A slew (R162, R163) -/

/-- Of the time unit a slew sets the phase and the trims, no more. -/
theorem slewBy_tim : (s.slewBy ns).tim = { s.tim with slew := ns, trims := (s.slewBy ns).tim.trims } := rfl

@[simp] theorem slewBy_slew : (s.slewBy ns).tim.slew = ns := rfl

theorem slewBy_frame : { s.slewBy ns with regs := s.regs, tim := s.tim } = s := rfl

/-- SLEWING shows whether there is phase to slew. -/
theorem get_slewBy_slewing : (s.slewBy ns).get TIME_STATUS_SLEWING = if decide (ns ≠ 0) then 1 else 0 :=
  (get_setTrim_ne _ _ (by decide)).trans (get_putB_same _ TIME_STATUS_SLEWING _ (by decide))

/-- The trim is the frequency part and the slew's. -/
theorem get_slewBy_trim :
    (s.slewBy ns).get TIME_SERVO_TRIM = ofSigned 16 (clampI (-10000) 10000 (s.tim.freq + slewTrim ns)) :=
  get_setTrim_trim ..

theorem get_slewBy_timeSource : (s.slewBy ns).get TIME_STATUS_TIME_SOURCE = s.get TIME_STATUS_TIME_SOURCE :=
  (get_setTrim_ne _ _ (by decide)).trans
    (get_putB_ne _ TIME_STATUS_SLEWING TIME_STATUS_TIME_SOURCE _ (by decide) (by decide))

theorem sameRegs_slewBy : SameRegs [TIME_STATUS, TIME_SERVO] s (s.slewBy ns) := by
  have hstatus : SameRegs [TIME_STATUS] s
      (State.putB { s with tim := { s.tim with slew := ns } } TIME_STATUS_SLEWING (decide (ns ≠ 0))) :=
    ((SameRegs.refl _ s).of_regs rfl).putB (f := TIME_STATUS_SLEWING) _ (by simp)
  exact hstatus.trans (sameRegs_setTrim _ _)

theorem slewDone_running (h : s.tim.slew ≠ 0) : s.slewDone = s.slewBy 0 := if_neg h
theorem slewDone_idle (h : s.tim.slew = 0) : s.slewDone = s := if_pos h

end Trim

/-! ### A decided step and a set (R163, R164) -/

section Decide
variable (s : State) (off : Int) (target now : Nat)

/-- The step decided and the slew make up the offset. -/
theorem stepDecide_offset : (s.stepDecide off).tim.step.getD 0 * 1000000 + (s.stepDecide off).tim.slew = off := by
  have hstep : (s.stepDecide off).tim.step = if roundMs off = 0 then none else some (roundMs off) := rfl
  have hslew : (s.stepDecide off).tim.slew = off - roundMs off * 1000000 := rfl
  rw [hstep, hslew]
  split
  case isTrue h => simp [h]
  case isFalse => simp

theorem stepDecide_slew_le : (s.stepDecide off).tim.slew.natAbs ≤ 500000 := natAbs_sub_roundMs_le off

theorem stepDecide_slewing : (s.stepDecide off).on TIME_STATUS_SLEWING = decide ((s.stepDecide off).tim.slew ≠ 0) := by
  have hget : (s.stepDecide off).get TIME_STATUS_SLEWING =
      if decide ((s.stepDecide off).tim.slew ≠ 0) then 1 else 0 := get_slewBy_slewing _ _
  rw [State.on, hget]
  cases decide ((s.stepDecide off).tim.slew ≠ 0) <;> rfl

theorem timeSet_timeSource : (s.timeSet target now).get TIME_STATUS_TIME_SOURCE = 0x60 :=
  (get_slewBy_timeSource _ _).trans (get_put_same _ TIME_STATUS_TIME_SOURCE 0x60 (by decide))

theorem sameRegs_timeSet : SameRegs [TIME_STATUS, TIME_SERVO] s (s.timeSet target now) := by
  have hsource : SameRegs [TIME_STATUS, TIME_SERVO] s
      (State.put { s with tim := { s.tim with hostSet := true } } TIME_STATUS_TIME_SOURCE 0x60) :=
    ((SameRegs.refl _ s).of_regs rfl).put (f := TIME_STATUS_TIME_SOURCE) _ (by simp)
  exact (hsource.of_regs rfl).next (sameRegs_slewBy _ _)

end Decide

/-! ### A write of TIME_SET_CMD (R106, R164) -/

/-- The row of TIME_SET_CMD: only a key, which is not kept. -/
def timeSetRow : RegRow :=
  { base := 0x020028, wo := 0xffff0000, rsv := 0x0000ffff, ranges := [(31, 16, 22505, 22505)] }

theorem rowOf_timeSetCmd : rowOf TIME_SET_CMD = some timeSetRow := rfl

/-- Nothing of a write stays in TIME_SET_CMD. -/
theorem store_timeSetCmd (s : State) (v : Word) :
    s.store TIME_SET_CMD v = s.setReg TIME_SET_CMD (s.reg TIME_SET_CMD) := by
  have hafter (old : Word) : timeSetRow.after old v = old := by
    have hrw : BitVec.ofNat 32 timeSetRow.rw = 0#32 := rfl
    have hw1c : BitVec.ofNat 32 timeSetRow.w1c = 0#32 := rfl
    simp only [RegRow.after, hrw, hw1c, BitVec.and_zero, BitVec.or_zero, BitVec.not_zero, BitVec.and_allOnes]
  simp [store, rowOf_timeSetCmd, hafter, tableRegs]

/-- A register that takes the word it holds leaves every read as it was. -/
theorem reg_setReg_self (s : State) (a b : Nat) : (s.setReg a (s.reg a)).reg b = s.reg b := by
  rw [reg_setReg]
  split
  case isTrue h => rw [h]
  case isFalse => rfl

section Write
variable {s : State} {req a : Nat} {v : Word}

/-- A write that nothing holds off reaches its register; only the swap key does more than a write. -/
theorem writeAt_now (hl : s.loading = false ∨ req = 2) (hw : s.waitsBehind a = false) (ha : a ≠ CADDY_SWAP_CMD) :
    s.writeAt req a v = s.writeCore req a v := by
  have hload : (s.mpUp && s.loading && decide (req ≠ 2)) = false := by
    rcases hl with h | h <;> simp [h]
  simp only [writeAt, hload, hw, writeNow, ha, Bool.and_false, Bool.false_and, decide_false, Bool.false_eq_true, if_false]

theorem waitsBehind_timeSetCmd (s : State) : s.waitsBehind TIME_SET_CMD = false := by
  have hleat : onLeat TIME_SET_CMD = false := rfl
  simp [waitsBehind, hleat]

/-- An accepted write of the key sets site time from the TIME_SET registers. -/
theorem writeAt_timeSetCmd (h : Writes s req TIME_SET_CMD v) :
    s.writeAt req TIME_SET_CMD v =
      (s.setReg TIME_SET_CMD (s.reg TIME_SET_CMD)).timeSet s.setTarget s.tim.site := by
  obtain ⟨hup, hl, hwait, hok⟩ := h
  have htarget (w : Word) : (s.setReg TIME_SET_CMD w).setTarget = s.setTarget := by
    rw [setTarget, reg_setReg_ne _ _ (by decide), get_setReg_ne _ _ _ _ (by decide), get_setReg_ne _ _ _ _ (by decide),
      setTarget]
  have heffect (w : Word) : (s.setReg TIME_SET_CMD w).effect req TIME_SET_CMD (s.reg TIME_SET_CMD) v =
      (s.setReg TIME_SET_CMD w).timeSet (s.setReg TIME_SET_CMD w).setTarget s.tim.site := rfl
  rw [writeAt_now hl hwait (by decide), writeCore, hup, hok, store_timeSetCmd, heffect, htarget]
  rfl

/-- While GNSS holds the time the key is a reserved encoding. -/
theorem writeOk_timeSetCmd_refused (h : s.setRefused = true) : s.writeOk req TIME_SET_CMD v = false := by
  have hword : s.wordOk TIME_SET_CMD v = !s.setRefused := rfl
  simp [writeOk, rowOf_timeSetCmd, hword, h]

theorem writeAt_timeSetCmd_refused (hup : s.mpUp = true) (hl : s.loading = false ∨ req = 2)
    (h : s.setRefused = true) : s.writeAt req TIME_SET_CMD v = s.violate req := by
  rw [writeAt_now hl s.waitsBehind_timeSetCmd (by decide), writeCore, hup, writeOk_timeSetCmd_refused h]
  rfl

end Write

/-- A violation counts one in TOTAL, the loader's too. -/
theorem get_violate_total (s : State) (req : Nat) :
    (s.violate req).get SYS_VIOL_COUNT_TOTAL = (s.get SYS_VIOL_COUNT_TOTAL + 1) % 65536 := by
  have hinc : (s.inc SYS_VIOL_COUNT_TOTAL).get SYS_VIOL_COUNT_TOTAL = (s.get SYS_VIOL_COUNT_TOTAL + 1) % 65536 :=
    s.get_inc_same _ (by decide)
  unfold violate
  split
  case isTrue => exact (get_inc_ne _ SYS_VIOL_COUNT_LOADER SYS_VIOL_COUNT_TOTAL (by decide) (by decide)).trans hinc
  case isFalse => exact hinc

/-- A violation shows only in its count (R107). -/
theorem onlyRegs_violate (s : State) (req : Nat) : OnlyRegs [SYS_VIOL_COUNT] s (s.violate req) := by
  have htotal : OnlyRegs [SYS_VIOL_COUNT] s (s.inc SYS_VIOL_COUNT_TOTAL) := (OnlyRegs.refl _ s).inc (by simp)
  exact .ite (htotal.inc (f := SYS_VIOL_COUNT_LOADER) (by simp)) htotal

/-! ### A step takes effect (R165, R166) -/

/-- New cycle grids of ports change only what the ports keep. -/
theorem each_sprinGrid_frame (l : List Nat) (s : State) :
    { s.each l sprinGrid with sprin := s.sprin } = s := by
  induction l generalizing s with
  | nil => rfl
  | cons p l ih =>
    exact (congrArg (fun t : State => { t with sprin := s.sprin }) (ih (s.sprinGrid p)) :)

theorem each_sprinGrid_regs (l : List Nat) (s : State) : (s.each l sprinGrid).regs = s.regs :=
  (congrArg State.regs (each_sprinGrid_frame l s) :)
theorem each_sprinGrid_log (l : List Nat) (s : State) : (s.each l sprinGrid).log = s.log :=
  (congrArg State.log (each_sprinGrid_frame l s) :)
theorem each_sprinGrid_pwr (l : List Nat) (s : State) : (s.each l sprinGrid).pwr = s.pwr :=
  (congrArg State.pwr (each_sprinGrid_frame l s) :)
theorem each_sprinGrid_tim (l : List Nat) (s : State) : (s.each l sprinGrid).tim = s.tim :=
  (congrArg State.tim (each_sprinGrid_frame l s) :)

end State

/-- The time unit after a step of `n` ms: site time, its copies and the last PPS edge have moved. -/
def TimeUnit.stepped (t : TimeUnit) (n : Int) : TimeUnit :=
  { t with
    site := shiftNs t.site (n * 1000000), cp := shiftNs t.cp (n * 1000000), dp := shiftNs t.dp (n * 1000000)
    mp := shiftNs t.mp (n * 1000000), aon := shiftNs t.aon (n * 1000000), step := none
    edge := t.edge.map (shiftNs · (n * 1000000)), tepoch := (t.tepoch + 1) % 256, steps := (n :: t.steps).take 3 }

namespace State
variable {s : State} {n : Int}

/-- A step before its boundary, or none at all, does nothing. -/
theorem timeStep_not_due
    (h : s.tim.step = none ∨ s.tim.site % 1000000 ≠ 0 ∨ s.tim.site < s.tim.stepFrom + 1000000) : s.timeStep = s := by
  rcases hs : s.tim.step with _ | m
  · simp only [timeStep, hs]
  · have hwait : s.tim.site % 1000000 ≠ 0 ∨ s.tim.site < s.tim.stepFrom + 1000000 := by simpa [hs] using h
    simp only [timeStep, hs, if_pos hwait]

/-- At its boundary a step moves the time unit, sets STEPPED and leaves record 0x9001; what else it moves is neither a
register, nor the recorder, nor a supply. -/
theorem timeStep_due (hs : s.tim.step = some n) (hms : s.tim.site % 1000000 = 0)
    (hfrom : s.tim.stepFrom + 1000000 ≤ s.tim.site) :
    ∃ u : State, u.regs = s.regs ∧ u.log = s.log ∧ u.pwr = s.pwr ∧ u.tim = s.tim.stepped n ∧
      s.timeStep = (u.putB TIME_STATUS_STEPPED true).ev portTime 0x9001 (secOf s.tim.site)
        (secOf (s.tim.stepped n).site) (par (clampI (-2147483647) 2147483647 n)) := by
  have hdue : ¬ (s.tim.site % 1000000 ≠ 0 ∨ s.tim.site < s.tim.stepFrom + 1000000) := by omega
  rw [timeStep, hs]
  dsimp only
  rw [if_neg hdue]
  refine ⟨_, ?_, ?_, ?_, ?_, rfl⟩
  · exact each_sprinGrid_regs ..
  · exact each_sprinGrid_log ..
  · exact each_sprinGrid_pwr ..
  · exact each_sprinGrid_tim ..

/-- Operating time is a matter of the two PWR_OPTIME registers. -/
theorem optime_of_sameRegs {l : List Nat} {t : State} (h : SameRegs l s t) (hlo : PWR_OPTIME_LO ∉ l)
    (hhi : PWR_OPTIME_HI ∉ l) : t.optime = s.optime := by
  simp only [optime, get, h _ hlo, h _ hhi]

theorem timeMark_up (h : s.mpUp = true) :
    s.timeMark = s.ev portTime 0x9002 s.markSample.1 s.markSample.2 (s.tstate * 256 + s.get TIME_STATUS_CLOCK_CLASS) := by
  simp [timeMark, h]

end State

/-! ### The commands -/

section Commands
variable {s : State} {req : Nat} {n : Int}

theorem exec_timeSetCmd_eq (req : Nat) (s : State) :
    exec (.timeSetCmd req) s = .next (s.writeAt req TIME_SET_CMD 0x57E90000) := rfl
theorem exec_timeStepApply_eq (s : State) : exec .timeStepApply s = .next s.timeStep := rfl
theorem exec_slewDone_eq (s : State) : exec .slewDone s = .next s.slewDone := rfl
theorem exec_timeMark_eq (s : State) : exec .timeMark s = .next s.timeMark := rfl

theorem exec_timeSetCmd_accepted (h : Writes s req TIME_SET_CMD 0x57E90000) :
    ∃ t, exec (.timeSetCmd req) s = .next t ∧ t.tim.hostSet = true ∧ t.get TIME_STATUS_TIME_SOURCE = 0x60 ∧
      t.tim.step.getD 0 * 1000000 + t.tim.slew = (s.setTarget : Int) - s.tim.site ∧ t.tim.slew.natAbs ≤ 500000 ∧
      t.on TIME_STATUS_SLEWING = decide (t.tim.slew ≠ 0) ∧ t.tim.site = s.tim.site ∧
      SameRegs [TIME_STATUS, TIME_SERVO] s t ∧ { t with regs := s.regs, tim := s.tim } = s := by
  rw [exec_timeSetCmd_eq, State.writeAt_timeSetCmd h]
  refine ⟨_, rfl, rfl, State.timeSet_timeSource .., State.stepDecide_offset ..,
    State.stepDecide_slew_le .., State.stepDecide_slewing .., rfl, ?_, rfl⟩
  have hkept : SameRegs [TIME_STATUS, TIME_SERVO] s (s.setReg TIME_SET_CMD (s.reg TIME_SET_CMD)) :=
    fun a _ => s.reg_setReg_self TIME_SET_CMD a
  exact hkept.next (State.sameRegs_timeSet _ _ _)

theorem exec_timeSetCmd_refused (hup : s.mpUp = true) (hl : s.loading = false ∨ req = 2) (h : s.setRefused = true) :
    ∃ t, exec (.timeSetCmd req) s = .next t ∧
      t.get SYS_VIOL_COUNT_TOTAL = (s.get SYS_VIOL_COUNT_TOTAL + 1) % 65536 ∧ OnlyRegs [SYS_VIOL_COUNT] s t := by
  rw [exec_timeSetCmd_eq, State.writeAt_timeSetCmd_refused hup hl h]
  exact ⟨_, rfl, s.get_violate_total req, s.onlyRegs_violate req⟩

theorem exec_timeStepApply_due (hs : s.tim.step = some n) (hms : s.tim.site % 1000000 = 0)
    (hfrom : s.tim.stepFrom + 1000000 ≤ s.tim.site) (hnn : 0 ≤ (s.tim.site : Int) + n * 1000000)
    (hroom : Room s portTime) :
    ∃ t, exec .timeStepApply s = .next t ∧ (t.tim.site : Int) = s.tim.site + n * 1000000 ∧ t.tim.step = none ∧
      t.tim.aon = shiftNs s.tim.aon (n * 1000000) ∧ t.tim.cp = shiftNs s.tim.cp (n * 1000000) ∧
      t.tim.dp = shiftNs s.tim.dp (n * 1000000) ∧ t.tim.mp = shiftNs s.tim.mp (n * 1000000) ∧
      t.get TIME_STATUS_STEPPED = 1 ∧ t.optime = s.optime ∧ t.tim.mono = s.tim.mono ∧ SameRegs [TIME_STATUS] s t ∧
      Logged portTime 0x9001 (secOf s.tim.site) (secOf t.tim.site) (par (clampI (-2147483647) 2147483647 n)) s t := by
  obtain ⟨u, hregs, hlog, hpwr, htim, hstep⟩ := State.timeStep_due hs hms hfrom
  have hru : Room (u.putB TIME_STATUS_STEPPED true) portTime := Room.of_log hroom hlog hpwr
  have hsame : SameRegs [TIME_STATUS] s s.timeStep := by
    rw [hstep]
    exact (((SameRegs.refl _ s).of_regs hregs).putB (f := TIME_STATUS_STEPPED) true (by simp)).ev _ _ _ _ _ _ hru
  have htime : s.timeStep.tim = s.tim.stepped n := by
    rw [hstep, State.ev_tim, State.putB_tim, htim]
  have hstepped : s.timeStep.get TIME_STATUS_STEPPED = 1 := by
    rw [hstep, State.get_ev_room _ _ _ _ _ _ _ _ hru]
    exact State.get_putB_same _ _ _ (by decide)
  have hrecord : Logged portTime 0x9001 (secOf s.tim.site) (secOf (s.tim.stepped n).site)
      (par (clampI (-2147483647) 2147483647 n)) s s.timeStep := by
    rw [hstep]
    exact (logged_ev _ _ _ _ _ _ hru).from_log hlog
  refine ⟨s.timeStep, exec_timeStepApply_eq s, ?_⟩
  rw [htime]
  exact ⟨Int.toNat_of_nonneg hnn, rfl, rfl, rfl, rfl, rfl, hstepped,
    State.optime_of_sameRegs hsame (by decide) (by decide), rfl, hsame, hrecord⟩

theorem exec_slewDone_running (h : s.tim.slew ≠ 0) :
    ∃ t, exec .slewDone s = .next t ∧ t.get TIME_STATUS_SLEWING = 0 ∧
      t.tim = { s.tim with slew := 0, trims := t.tim.trims } ∧
      t.get TIME_SERVO_TRIM = ofSigned 16 (clampI (-10000) 10000 s.tim.freq) ∧
      SameRegs [TIME_STATUS, TIME_SERVO] s t ∧ { t with regs := s.regs, tim := s.tim } = s := by
  rw [exec_slewDone_eq, s.slewDone_running h]
  refine ⟨_, rfl, s.get_slewBy_slewing 0, s.slewBy_tim 0, ?_, s.sameRegs_slewBy 0,
    s.slewBy_frame 0⟩
  simpa [slewTrim] using s.get_slewBy_trim 0

theorem exec_timeMark_up (hup : s.mpUp = true) (hroom : Room s portTime) :
    ∃ t, exec .timeMark s = .next t ∧ t.regs = s.regs ∧ t.tim = s.tim ∧
      Logged portTime 0x9002 (secOf s.tim.aon % 2 ^ 32)
        (nsOf s.tim.aon / 1000000 * 2 ^ 16 + secOf s.tim.aon / 2 ^ 32 % 2 ^ 16)
        (s.get TIME_STATUS_STATE * 256 + s.get TIME_STATUS_CLOCK_CLASS) s t := by
  rw [exec_timeMark_eq, State.timeMark_up hup]
  refine ⟨_, rfl, ?_, State.ev_tim .., logged_ev _ _ _ _ _ _ hroom⟩
  rw [State.ev_eq, State.submit_room _ _ _ hroom]

end Commands

/-- Settles O34: a set is a step decided and a slew, by one split of the offset; a step at its boundary moves the time
unit as `TimeUnit.stepped` and touches no register but TIME_STATUS, so operating time stays. -/
theorem timeSteps : Obligations.TimeSteps := by
  unfold Obligations.TimeSteps
  refine ⟨fun req s hw _ => exec_timeSetCmd_accepted hw, fun req s => exec_timeSetCmd_refused,
    fun n s => exec_timeStepApply_due, ?_, fun s => exec_slewDone_running, ?_, fun s => exec_timeMark_up⟩
  · exact fun s h => congrArg Host.Outcome.next (State.timeStep_not_due h)
  · exact fun s h => congrArg Host.Outcome.next (s.slewDone_idle h)

end Sys2Proof.Machine
end

section
/-! PROOFS. One step of the machine: the command at the front of the queue, the idle step, the state after reset, and
the invariant `State.Good` over every command. -/

namespace Sys2Proof.Machine

open Reg

/-! ### The step (R79) -/

theorem step_of_cons {s : State} {c : Instr} {q : List Instr} (h : s.pending = c :: q) :
    step s = exec c { s with pending := q } := by
  simp only [step, h]

theorem step_of_nil {s : State} (h : s.pending = []) : step s = .next s.idle := by
  simp only [step, h]

namespace State

/-- Operating time keeps 40 bits. -/
theorem optime_setOptime (s : State) (n : Nat) : (s.setOptime n).optime = n % 2 ^ 40 := by
  have hlo : (s.setOptime n).reg PWR_OPTIME_LO = BitVec.ofNat 32 n :=
    (reg_put_ne _ _ _ (by decide)).trans (reg_setReg_same ..)
  have hhi : (s.setOptime n).get PWR_OPTIME_HI_OPTIME_HI = n / 2 ^ 32 % 2 ^ 8 := get_put_same _ _ _ (by decide)
  rw [optime, hlo, hhi, BitVec.toNat_ofNat]
  omega

theorem optime_congr {s t : State} (h : t.regs = s.regs) : t.optime = s.optime := by
  simp only [optime, reg_congr h, get_congr h]

theorem onlyRegs_setOptime (s : State) (n : Nat) : OnlyRegs [PWR_OPTIME_LO, PWR_OPTIME_HI] s (s.setOptime n) :=
  ((OnlyRegs.refl _ s).setReg _ (by simp)).put _ (by simp)

theorem idle_of_collapsed {s : State} (h : s.pwr.collapsed = true) : s.idle = s := if_pos h

/-- One period of the crystal on the always-on copy of site time: it runs on while the planes are in reset (R32). -/
def aonPeriod (t : State) : State :=
  if t.pwr.rstMp then { t with tim := { t.tim with aon := t.tim.aon + 976562 + t.optime % 2 } } else t

/-- The period moves nothing but the time unit. -/
theorem aonPeriod_frame (t : State) : { t.aonPeriod with tim := t.tim } = t := by
  by_cases h : t.pwr.rstMp = true
  · rw [aonPeriod, if_pos h]
  · rw [aonPeriod, if_neg h]

theorem aonPeriod_regs (t : State) : t.aonPeriod.regs = t.regs := (congrArg State.regs t.aonPeriod_frame :)
theorem aonPeriod_pending (t : State) : t.aonPeriod.pending = t.pending := (congrArg State.pending t.aonPeriod_frame :)

theorem idle_eq (s : State) : s.idle = if s.pwr.collapsed then s else (s.setOptime (s.optime + 1)).aonPeriod := rfl

theorem idle_running {s : State} (h : s.pwr.collapsed = false) : s.idle = (s.setOptime (s.optime + 1)).aonPeriod := by
  rw [idle_eq, h]
  rfl

/-! ### After reset (R77 to R79, R101) -/

theorem reg_reset_of_not_mem {a : Nat} (h : a ∉ [PWR_RESET_CAUSE, PWR_CYCLE_COUNT, PWR_OPTIME_LO, REL_DRAM_SPARE]) :
    State.reset.reg a = regReset a := by
  simp only [List.mem_cons, List.not_mem_nil, or_false, not_or] at h
  obtain ⟨hcause, hpcc, htime, hspare⟩ := h
  simp only [State.reg, State.reset, tget]
  rw [if_neg (Ne.symm hpcc), if_neg (Ne.symm htime), if_neg (Ne.symm hcause), if_neg (Ne.symm hspare)]

/-! ### The invariant (R28, R371, R435) -/

/-- Every command answers a next state with the same waiting commands, the canonical register table and the queues
within their capacities. -/
theorem exec_keeps_ok {q : List Instr} {s : State} (c : Instr) (ok : s.Ok q) : ∃ t, exec c s = .next t ∧ t.Ok q := by
  cases c with
  | estimateTick => exact ⟨_, rfl, estTick_ok ok⟩
  | timeBroadcast => exact ⟨_, rfl, timeBroadcast_ok ok⟩
  | setpointRequestDeliver _ => exact ⟨_, rfl, deliver_ok ok _⟩
  | readReply => exact ⟨_, rfl, readReply_ok ok⟩
  | latchGroupRead _ _ => exact ⟨_, rfl, readVia_ok ok _ _⟩
  | registerWrite _ _ _ => exact ⟨_, rfl, writeAt_ok ok _ _ _⟩
  | pfiBelowThreshold => exact ⟨_, rfl, pfiLow_ok ok⟩
  | pfailAssert => exact ⟨_, rfl, pfail_ok ok⟩
  | sluiceFlushDone _ => exact ⟨_, rfl, sluiceFlushed_ok ok _ _⟩
  | sluiceLastWordDone => exact ⟨_, rfl, sluiceWordDone_ok ok⟩
  | sluiceMarkerWritten => exact ⟨_, rfl, sluiceMarked_ok ok⟩
  | sluiceRestart => exact ⟨_, rfl, inputReturned_ok ok⟩
  | railDip _ _ => exact ⟨_, rfl, railDip_ok ok _ _⟩
  | logicRailsGood => exact ⟨_, rfl, railsGood_ok ok⟩
  | powerOnReset _ => exact ⟨_, rfl, powerOn_ok ok _⟩
  | powerStageRailChange _ _ => exact ⟨_, rfl, stageRail_ok ok _ _⟩
  | externalReset _ => exact ⟨_, rfl, external_ok ok _⟩
  | testmodeAssert => exact ⟨_, rfl, testMode_ok ok⟩
  | testRelease => exact ⟨_, rfl, testRelease_ok ok⟩
  | commandReset _ => exact ⟨_, rfl, writeAt_ok ok _ _ _⟩
  | pllLocked => exact ⟨_, rfl, pllLocked_ok ok⟩
  | planeRelease _ _ _ _ => exact ⟨_, rfl, bareServe_ok (planeRelease_ok ok _ _ _ _)⟩
  | pllLockLoss => exact ⟨_, rfl, pllLost_ok ok⟩
  | refLost => exact ⟨_, rfl, refLost_ok ok⟩
  | lifeCounterSave => exact ⟨_, rfl, lifeSave_ok ok⟩
  | gaugeUpdate _ => exact ⟨_, rfl, gauge_ok ok _⟩
  | caddyFirstPassDone _ => exact ⟨_, rfl, bareServe_ok (firstPassDone_ok ok _)⟩
  | caddySecondPassDone _ _ _ => exact ⟨_, rfl, bareServe_ok (secondPassDone_ok ok _ _ _ fun _ _ _ _ h =>
      writeAt_ok h _ _ _)⟩
  | keyProgram _ _ => exact ⟨_, rfl, writeAt_ok ok _ _ _⟩
  | keyRevoke _ _ => exact ⟨_, rfl, writeAt_ok ok _ _ _⟩
  | caddySwap _ => exact ⟨_, rfl, bareServe_ok (writeAt_ok (flashFacts_ok ok _ _ _) _ _ _)⟩
  | bodySwapResume _ => exact ⟨_, rfl, importSettle_ok (swapResume_ok ok _)⟩
  | mgmtFwRestartDone _ => exact ⟨_, rfl, fwRestarted_ok ok _⟩
  | kmpHello _ _ => exact ⟨_, rfl, hello_ok ok _ _⟩
  | kmpBye _ _ => exact ⟨_, rfl, kmpOp_ok ok _ _ _ _ _ (fun _ _ _ h => bye_ok h _ _)⟩
  | kmpRead _ _ => exact ⟨_, rfl, kmpOp_ok ok _ _ _ _ _ (fun _ _ _ h => kmpRead_ok h _ _)⟩
  | kmpWrite _ _ => exact ⟨_, rfl, kmpOp_ok ok _ _ _ _ _ (fun _ _ _ h => kmpWrite_ok h _ _)⟩
  | kmpBlockRead _ _ => exact ⟨_, rfl, kmpOp_ok ok _ _ _ _ _ (fun _ _ _ h => kmpBlockRead_ok h _ _)⟩
  | kmpLogRead _ _ => exact ⟨_, rfl, kmpOp_ok ok _ _ _ _ _ (fun _ _ _ h => kmpLogRead_ok h _ _ _)⟩
  | kmpLogFreeze _ _ => exact ⟨_, rfl, kmpOp_ok ok _ _ _ _ _ (fun _ _ _ h => kmpFreeze_ok h _ _)⟩
  | kmpCupRead _ _ => exact ⟨_, rfl, kmpOp_ok ok _ _ _ _ _ (fun _ _ _ h => kmpCupRead_ok h _ _)⟩
  | kmpCaddyWrite _ _ => exact ⟨_, rfl, kmpOp_ok ok _ _ _ _ _ (fun _ _ _ h => kmpCaddyWrite_ok h _ _)⟩
  | kmpSnapshotExport _ _ => exact ⟨_, rfl, kmpRun_ok ok _ _ _ _ _ (fun _ _ _ h => kmpExport_ok h _ _)⟩
  | kmpSnapshotImport _ _ => exact ⟨_, rfl, kmpRun_ok ok _ _ _ _ _ (fun _ _ _ h => kmpImport_ok h _ _)⟩
  | kmpHeartbeat _ _ => exact ⟨_, rfl, kmpOp_ok ok _ _ _ _ _ (fun _ _ _ h => kmpBeat_ok h _ _)⟩
  | kmpSetTime _ _ => exact ⟨_, rfl, kmpOp_ok ok _ _ _ _ _ (fun _ _ _ h => kmpSetTime_ok h _ _)⟩
  | kmpData _ _ => exact ⟨_, rfl, kmpOp_ok (noteBad_ok ok _) _ _ _ _ _ (fun _ _ _ h => bulkData_ok h _ _)⟩
  | kmpAck _ _ => exact ⟨_, rfl, kmpOp_ok ok _ _ _ _ _ (fun _ _ _ h => bulkAck_ok h _ _)⟩
  | bulkDataSend _ => exact ⟨_, rfl, bulkSend_ok ok _⟩
  | bulkAckTimer _ => exact ⟨_, rfl, bulkAckTimer_ok ok _⟩
  | bulkResendTimeout _ => exact ⟨_, rfl, bulkResend_ok ok _⟩
  | bulkAbandonTimeout _ => exact ⟨_, rfl, bulkAbandon_ok ok _⟩
  | kmpPendingTimeout _ => exact ⟨_, rfl, pendingEnd_ok ok _⟩
  | kmpIdleTimeout _ => exact ⟨_, rfl, idleEnd_ok ok _⟩
  | kmpTagFailSecond => exact ⟨_, rfl, kmpSecond_ok ok⟩
  | frameForward _ _ => exact ⟨_, rfl, frameIn_ok ok _ _⟩
  | stormSecondEnd _ => exact ⟨_, rfl, stormSecond_ok ok _⟩
  | macAgeOut _ => exact ⟨_, rfl, macAge_ok ok _⟩
  | linkChange _ _ _ _ => exact ⟨_, rfl, linkChange_ok ok _ _ _ _⟩
  | arpRequest _ _ _ => exact ⟨_, rfl, neighbour_ok ok _ _ _⟩
  | echoRequest _ => exact ⟨_, rfl, echo_ok ok _⟩
  | unservedPortSegment _ _ _ => exact ⟨_, rfl, unserved_ok ok _ _ _⟩
  | dhcpRenew _ => exact ⟨_, rfl, dhcpRenew_ok ok _⟩
  | dhcpLeaseLost => exact ⟨_, rfl, leaseLost_ok ok⟩
  | addressProbeDone _ _ _ _ _ => exact ⟨_, rfl, probeEnd4_ok ok _ _ _ _ _⟩
  | conflictRetry => exact ⟨_, rfl, conflictRetry_ok ok⟩
  | modbusConnect _ _ => exact ⟨_, rfl, mbConnect_ok ok _ _⟩
  | modbusIdleClose _ => exact ⟨_, rfl, mbIdle_ok ok _⟩
  | modbusReadHolding _ _ => exact ⟨_, rfl, mbRequest_ok ok _ _ _⟩
  | modbusReadInput _ _ => exact ⟨_, rfl, mbRequest_ok ok _ _ _⟩
  | modbusWriteSingle _ _ => exact ⟨_, rfl, mbRequest_ok ok _ _ _⟩
  | modbusWriteMultiple _ _ => exact ⟨_, rfl, mbRequest_ok ok _ _ _⟩
  | modbusReadWrite _ _ => exact ⟨_, rfl, mbRequest_ok ok _ _ _⟩
  | clientPoll _ => exact ⟨_, rfl, clientPoll_ok ok _⟩
  | clientResponse _ _ => exact ⟨_, rfl, clientResponse_ok ok _ _⟩
  | clientTransactionTimeout _ => exact ⟨_, rfl, clientTimeout_ok ok _⟩
  | clientConnectionLost _ => exact ⟨_, rfl, clientLost_ok ok _⟩
  | clientReconnect _ _ => exact ⟨_, rfl, clientConnect_ok ok _ _⟩
  | hspiRead _ _ _ => exact ⟨_, rfl, hspiFrame_ok ok _ _ _ (fun _ h => hspiRead_ok h _)⟩
  | hspiWrite _ _ _ => exact ⟨_, rfl, hspiFrame_ok ok _ _ _ (fun _ h => issueWrite_ok h _ _ _)⟩
  | hspiFetch _ _ _ => exact ⟨_, rfl, hspiFrame_ok ok _ _ _ (fun _ h => h)⟩
  | heartbeat _ _ => exact ⟨_, rfl, writeAt_ok ok _ _ _⟩
  | watchdogTrip => exact ⟨_, rfl, wdogTrip_ok ok⟩
  | ppsEdge _ _ => exact ⟨_, rfl, ppsEdge_ok ok _ _⟩
  | nmeaSentence _ _ => exact ⟨_, rfl, nmeaSentence_ok ok _ _⟩
  | gnssLost => exact ⟨_, rfl, gnssLost_ok ok⟩
  | holdoverExpire => exact ⟨_, rfl, holdoverExpire_ok ok⟩
  | timeStepApply => exact ⟨_, rfl, timeStep_ok ok⟩
  | slewDone => exact ⟨_, rfl, slewDone_ok ok⟩
  | timeSetCmd _ => exact ⟨_, rfl, writeAt_ok ok _ _ _⟩
  | gnssReceiverReset => exact ⟨_, rfl, gnssReset_ok ok⟩
  | gnssSetupSend => exact ⟨_, rfl, gnssSetup_ok ok⟩
  | timeMark => exact ⟨_, rfl, timeMark_ok ok⟩
  | ptpAnnounceSend _ => exact ⟨_, rfl, ptpAnnounce_ok ok _⟩
  | ptpSyncSend _ => exact ⟨_, rfl, ptpSync_ok ok _⟩
  | ptpDelayReq _ _ _ => exact ⟨_, rfl, ptpDelayReq_ok ok _ _ _⟩
  | ptpForeignAnnounce _ _ _ => exact ⟨_, rfl, ptpForeign_ok ok _ _ _⟩
  | ptpAnnounceTimeout _ => exact ⟨_, rfl, ptpTimeout_ok ok _⟩
  | ppsOutEdge => exact ⟨_, rfl, ppsOut_ok ok⟩
  | sprinCycleStart _ _ => exact ⟨_, rfl, cycleStart_ok ok _ _⟩
  | sprinReply _ _ _ _ => exact ⟨_, rfl, when_ok ok _ fun _ h => (sprinReply_ok h _ _ _)⟩
  | sprinReplyTimeout _ => exact ⟨_, rfl, when_ok ok _ fun _ h => (sprinTimeout_ok h _)⟩
  | sprinAlarmFrame _ _ _ _ => exact ⟨_, rfl, when_ok ok _ fun _ h => (sprinAlarm_ok h _ _ _)⟩
  | sprinEnumPresence _ _ => exact ⟨_, rfl, when_ok ok _ fun _ h => (enumPresence_ok h _ _)⟩
  | sprinSupplyTrip _ _ => exact ⟨_, rfl, when_ok ok _ fun _ h => (portTrip_ok h _ _)⟩
  | sprinSupplyRetry _ => exact ⟨_, rfl, when_ok ok _ fun _ h => (portRetry_ok h _)⟩
  | sprinBootDone _ => exact ⟨_, rfl, when_ok ok _ fun _ h => (portBooted_ok h _)⟩
  | sprinStuck _ => exact ⟨_, rfl, when_ok ok _ fun _ h => (portStuckTest_ok h _)⟩
  | sprinStuckEnd _ => exact ⟨_, rfl, when_ok ok _ fun _ h => (portStuckEnd_ok h _)⟩
  | sprinReenumerate _ _ => exact ⟨_, rfl, writeAt_ok ok _ _ _⟩
  | sprinPowerCycle _ _ => exact ⟨_, rfl, writeAt_ok ok _ _ _⟩
  | sprinIdentify _ _ _ => exact ⟨_, rfl, writeAt_ok ok _ _ _⟩
  | sprinNcmdGo _ _ _ => exact ⟨_, rfl, writeAt_ok ok _ _ _⟩
  | sprinMinuteReport _ => exact ⟨_, rfl, when_ok ok _ fun _ h => (sprinMinute_ok h _)⟩
  | fieldSample _ _ _ _ => exact ⟨_, rfl, fieldSample_ok ok _ _ _ _⟩
  | shuntOverload _ => exact ⟨_, rfl, when_ok ok _ fun _ h => (shuntOverload_ok h _)⟩
  | shuntReclose _ => exact ⟨_, rfl, when_ok ok _ fun _ h => (shuntReclose_ok h _)⟩
  | aoMonitorSample _ _ => exact ⟨_, rfl, aoMonitor_ok ok _ _⟩
  | aoFaultEnter _ => exact ⟨_, rfl, aoFaultTest_ok ok _⟩
  | aoFaultClear _ => exact ⟨_, rfl, aoFaultClear_ok ok _⟩
  | pulseEdge _ _ _ _ => exact ⟨_, rfl, pulseEdge_ok ok _ _ _ _⟩
  | pulseTimeout _ => exact ⟨_, rfl, pulseTimeout_ok ok _⟩
  | pulseMinuteReport _ => exact ⟨_, rfl, pulseMinute_ok ok _⟩
  | bodyStepReady _ => exact ⟨_, rfl, dispatch_ok (stepReady_ok ok _)⟩
  | tileDone _ _ _ _ => exact ⟨_, rfl, dispatch_ok (importSettle_ok (when_ok ok _ fun _ h =>
      tileDone_ok h _ _ _ _))⟩
  | readingArrive _ _ _ _ => exact ⟨_, rfl, dispatch_ok (when_ok ok _ fun _ h => (readingArrive_ok h _ _ _ _))⟩
  | airflowSolveDue _ => exact ⟨_, rfl, dispatch_ok (when_ok ok _ fun _ h => (solveDue_ok h _))⟩
  | airflowSolveDone _ _ _ _ => exact ⟨_, rfl, dispatch_ok (when_ok ok _ fun _ h => (solveDone_ok h _ _ _ _))⟩
  | forecastRunStart _ => exact ⟨_, rfl, dispatch_ok (when_ok ok _ fun _ h => (forecastStart_ok h _))⟩
  | forecastRunDone _ _ => exact ⟨_, rfl, dispatch_ok (when_ok ok _ fun _ h => (forecastDone_ok h _ _))⟩
  | snapshotDue => exact ⟨_, rfl, dispatch_ok (when_ok ok _ fun _ h => snapshotDue_ok h)⟩
  | snapshotWriteDone _ => exact ⟨_, rfl, dispatch_ok (when_ok ok _ fun _ h => (snapshotWritten_ok h _))⟩
  | bodyHold _ _ => exact ⟨_, rfl, writeAt_ok ok _ _ _⟩
  | bodyResume _ _ => exact ⟨_, rfl, writeAt_ok ok _ _ _⟩
  | coastRepublish _ => exact ⟨_, rfl, when_ok ok _ fun _ h => (coast_ok h _)⟩
  | coldSeed _ => exact ⟨_, rfl, dispatch_ok (when_ok ok _ fun _ h => (coldSeed_ok h _))⟩
  | millCellRead _ _ => exact ⟨_, rfl, readVia_ok ok _ _⟩
  | millMinuteReport _ _ => exact ⟨_, rfl, when_ok ok _ fun _ h => (millMinute_ok h _ _)⟩
  | govSample _ _ => exact ⟨_, rfl, swapGo_ok (overrides_ok (govSample_ok ok _ _))⟩
  | govModeRequest _ _ _ => exact ⟨_, rfl, writeAt_ok ok _ _ _⟩
  | govCoefWrite _ _ _ _ => exact ⟨_, rfl, when_ok ok _ fun _ h => (writeAt_ok h _ _ _)⟩
  | staleTimeout _ _ _ => exact ⟨_, rfl, staleTimeout_ok ok _ _ _⟩
  | coastExpire _ _ => exact ⟨_, rfl, coastExpire_ok ok _ _⟩
  | testLimitExpire _ => exact ⟨_, rfl, testLimit_ok ok _⟩
  | govMinuteReport _ => exact ⟨_, rfl, govMinute_ok ok _⟩
  | cupArm _ => exact ⟨_, rfl, writeAt_ok ok _ _ _⟩
  | cupStop _ => exact ⟨_, rfl, writeAt_ok ok _ _ _⟩
  | cupClear _ => exact ⟨_, rfl, writeAt_ok ok _ _ _⟩
  | cupAtTrigger => exact ⟨_, rfl, cupAt_ok ok⟩
  | cupInfCfgWrite _ _ _ => exact ⟨_, rfl, writeAt_ok ok _ _ _⟩
  | valveTimed _ _ _ _ => exact ⟨_, rfl, writeAt_ok ok _ _ _⟩
  | valveContinuous _ _ _ => exact ⟨_, rfl, writeAt_ok ok _ _ _⟩
  | valveStop _ _ _ => exact ⟨_, rfl, writeAt_ok ok _ _ _⟩
  | prearmEnd _ => exact ⟨_, rfl, prearmEnd_ok ok _⟩
  | peakReached _ _ => exact ⟨_, rfl, peakReached_ok ok _ _⟩
  | peakTimeEnd _ _ => exact ⟨_, rfl, peakTimeEnd_ok ok _ _⟩
  | holdEnd _ => exact ⟨_, rfl, holdFinish_ok ok _⟩
  | releaseDone _ => exact ⟨_, rfl, releaseDone_ok ok _⟩
  | lingerEnd _ => exact ⟨_, rfl, lingerEnd_ok ok _⟩
  | deferTimeout _ => exact ⟨_, rfl, deferTimeout_ok ok _⟩
  | valveShortTrip _ => exact ⟨_, rfl, shortTrip_ok ok _⟩
  | probeDone _ _ _ _ _ => exact ⟨_, rfl, probeDone_ok ok _ _ _ _ _⟩
  | dutyIntervalEnd _ => exact ⟨_, rfl, dutyInterval_ok ok _⟩
  | valveStageError _ => exact ⟨_, rfl, testWant_ok ok _ _ _⟩
  | valveBankDisable _ _ => exact ⟨_, rfl, writeAt_ok ok _ _ _⟩
  | valveBankEnable _ _ => exact ⟨_, rfl, writeAt_ok ok _ _ _⟩
  | valveChannelDisable _ _ => exact ⟨_, rfl, writeAt_ok ok _ _ _⟩
  | valveChannelEnable _ _ => exact ⟨_, rfl, writeAt_ok ok _ _ _⟩
  | valveClearFault _ _ => exact ⟨_, rfl, writeAt_ok ok _ _ _⟩
  | valveCqPop _ _ _ => exact ⟨_, rfl, writeAt_ok ok _ _ _⟩
  | valveCqLossMinute _ => exact ⟨_, rfl, cqMinute_ok ok _⟩
  | stageBudgetCheck _ _ _ _ _ => exact ⟨_, rfl, stageBudget_ok ok _ _ _ _ _⟩
  | fanPeriodStart _ => exact ⟨_, rfl, fanPeriod_ok ok _⟩
  | fanStartingEnd _ => exact ⟨_, rfl, fanStarted_ok ok _⟩
  | fanWindowStart _ => exact ⟨_, rfl, fanWindow_ok ok _⟩
  | tachEdge _ _ _ => exact ⟨_, rfl, tachEdge_ok ok _ _ _⟩
  | fanWindowEnd _ _ _ => exact ⟨_, rfl, fanWindowEnd_ok ok _ _ _⟩
  | fanRetryExpire _ => exact ⟨_, rfl, fanRetry_ok ok _⟩
  | fanBurstEnd _ _ _ _ => exact ⟨_, rfl, overrides_ok (fanBurstEnd_ok ok _ _ _ _)⟩
  | fanShort _ => exact ⟨_, rfl, fanShort_ok ok _⟩
  | fanLoopTick _ => exact ⟨_, rfl, fanTick_ok ok _⟩
  | fanInputStale _ => exact ⟨_, rfl, fanInputStale_ok ok _⟩
  | guardSample _ _ _ _ _ => exact ⟨_, rfl, afterGuard_ok (guardSample_ok ok _ _ _ _ _)⟩
  | zoneDwellExpire _ _ => exact ⟨_, rfl, afterGuard_ok (dwellExpire_ok ok _ _)⟩
  | haltGraceEnd _ _ => exact ⟨_, rfl, graceEnd_ok ok _ _ _⟩
  | thermalRestart => exact ⟨_, rfl, thermalRestart_ok ok⟩
  | panelBlankingSlot _ => exact ⟨_, rfl, blankingSlot_ok ok _⟩
  | gainRecompute => exact ⟨_, rfl, gainRecompute_ok ok⟩
  | stressSave => exact ⟨_, rfl, stressSave_ok ok⟩
  | dispFbWrite _ _ => exact ⟨_, rfl, writeAt_ok ok _ _ _⟩
  | dispCommitGo _ _ => exact ⟨_, rfl, writeAt_ok ok _ _ _⟩
  | dispPanelOff _ => exact ⟨_, rfl, writeAt_ok ok _ _ _⟩
  | dispWake _ => exact ⟨_, rfl, writeAt_ok ok _ _ _⟩
  | dispClearCrack _ => exact ⟨_, rfl, writeAt_ok ok _ _ _⟩
  | dispClearStress _ => exact ⟨_, rfl, writeAt_ok ok _ _ _⟩
  | bindingHoldEnd => exact ⟨_, rfl, bindEnd_ok ok⟩
  | dischargeDone => exact ⟨_, rfl, dischargeDone_ok ok⟩
  | crackCheck _ => exact ⟨_, rfl, crackCheck_ok ok _⟩
  | stripGo _ _ => exact ⟨_, rfl, writeAt_ok ok _ _ _⟩
  | stripFrame => exact ⟨_, rfl, stripFrame_ok ok⟩
  | stripMarkerDone => exact ⟨_, rfl, stripMarker_ok ok⟩
  | stripWaitTimeout => exact ⟨_, rfl, stripTimeout_ok ok⟩
  | eventRecordSubmit _ _ _ _ _ _ _ => exact ⟨_, rfl, ok_ite (submit_ok ok _ _) ok⟩
  | pondRecordEntry => exact ⟨_, rfl, arbitrate_ok ok⟩
  | logPageDue => exact ⟨_, rfl, pageStart_ok ok⟩
  | logPageProgrammed _ => exact ⟨_, rfl, pageDone_ok ok _⟩
  | sectorEraseDone _ _ _ => exact ⟨_, rfl, ok_ite (headSector_ok ok) (tailErased_ok ok _ _)⟩
  | logClear _ _ => exact ⟨_, rfl, writeAt_ok ok _ _ _⟩
  | headraceEraseDone => exact ⟨_, rfl, headErased_ok ok⟩
  | logFreezeSet _ => exact ⟨_, rfl, writeAt_ok ok _ _ _⟩
  | logFreezeLift _ => exact ⟨_, rfl, writeAt_ok ok _ _ _⟩
  | freezeTimeout => exact ⟨_, rfl, unfreeze_ok ok _⟩
  | syslogSend => exact ⟨_, rfl, syslogSend_ok ok⟩
  | syslogSkipMinute => exact ⟨_, rfl, syslogMinute_ok ok⟩
  | gnssMinuteReport => exact ⟨_, rfl, gnssMinute_ok ok⟩
  | elementErrorDetected _ _ _ => exact ⟨_, rfl, elementError_ok ok _ _ _ _⟩
  | selfTestDone _ _ _ => exact ⟨_, rfl, testEnd_ok ok _ _ _⟩
  | relHostTest _ _ _ => exact ⟨_, rfl, writeAt_ok ok _ _ _⟩
  | lockstepMismatch _ => exact ⟨_, rfl, lockMismatch_ok ok _ _⟩
  | lockstepTestDone _ _ => exact ⟨_, rfl, swapGo_ok (lockTested_ok ok _ _)⟩
  | lockstepReexecuteDone _ _ _ => exact ⟨_, rfl, swapGo_ok (lockReexecuted_ok ok _ _ _)⟩
  | lockstepPlaceDone _ _ _ _ => exact ⟨_, rfl, swapGo_ok (lockPlaced_ok ok _ _ _ _)⟩
  | scrubStep _ => exact ⟨_, rfl, scrubStep_ok ok _⟩
  | eccHourReport => exact ⟨_, rfl, eccHour_ok ok⟩
  | bootSelfTestDone _ _ _ => exact ⟨_, rfl, bootTested_ok ok _ _ _⟩
  | pfiReturn => exact ⟨_, rfl, pfiBack_ok ok⟩
  | v1p8Collapse => exact ⟨_, rfl, collapse_ok ok⟩
  | valveProbeStart _ => exact ⟨_, rfl, probeStart_ok ok _⟩
  | sprinPowerCycleEnd _ => exact ⟨_, rfl, when_ok ok _ fun _ h => (portCycleEnd_ok h _)⟩
  | linkLocalFallback _ => exact ⟨_, rfl, linkLocal_ok ok _⟩
  | gnssResetRelease => exact ⟨_, rfl, gnssRelease_ok ok⟩

end State

/-- Settles O1: the two cases of the queue, and the idle step's two register writes. -/
theorem stepRunsFront : Obligations.StepRunsFront := by
  unfold Obligations.StepRunsFront
  refine ⟨fun c q s => step_of_cons, fun s hq hc => ?_, fun s hq hc => ?_⟩
  · have hopt := s.optime_setOptime (s.optime + 1)
    have hpend := (s.setOptime_pending (s.optime + 1)).trans hq
    obtain ⟨hregs, hrest⟩ := s.onlyRegs_setOptime (s.optime + 1)
    rw [step_of_nil hq, State.idle_running hc]
    generalize s.setOptime (s.optime + 1) = u at hopt hpend hregs hrest
    refine ⟨_, rfl, u.aonPeriod_pending.trans hpend, (State.optime_congr u.aonPeriod_regs).trans hopt,
      hregs.of_regs u.aonPeriod_regs, ?_⟩
    rw [← u.aonPeriod_frame] at hrest
    exact (congrArg (fun t : State => { t with tim := s.tim }) hrest :)
  · rw [step_of_nil hq, State.idle_of_collapsed hc]

/-- Settles O2: the registers by the table of the reset state, the rest by what the state starts with. -/
theorem resetValues : Obligations.ResetValues := by
  unfold Obligations.ResetValues
  exact ⟨rfl, rfl, rfl, rfl, fun a => State.reg_reset_of_not_mem, rfl, rfl, rfl, rfl, fun _ => rfl, rfl, rfl, rfl, rfl⟩

/-- Settles O3. -/
theorem resetGood : Obligations.ResetGood := State.reset_good

/-- Settles O4: the idle step, or the command at the front on the state with the queue's rest. -/
theorem stepKeepsGood : Obligations.StepKeepsGood := by
  intro s hs
  rcases hq : s.pending with _ | ⟨c, q⟩
  · exact ⟨_, step_of_nil hq, (State.idle_ok ⟨hq, hs⟩).good⟩
  · have hrest : State.Ok q { s with pending := q } := ⟨rfl, hs.regs, hs.fifo, hs.ctl, hs.dat, hs.cq⟩
    obtain ⟨t, hexec, ht⟩ := State.exec_keeps_ok c hrest
    exact ⟨t, (step_of_cons hq).trans hexec, ht.good⟩

end Sys2Proof.Machine
end

section
/-! PROOFS. Reads of fields and bits after an update, for the proofs that follow. -/

namespace Sys2Proof.Machine

namespace State

variable (s : State)

theorem on_put_ne (f g : Fld) (n : Nat) (hf : f.lo ≤ f.hi ∧ f.hi < 32)
    (h : g.addr ≠ f.addr ∨ g.hi < f.lo ∨ f.hi < g.lo) : (s.put f n).on g = s.on g := by
  rw [on, get_put_ne _ _ _ _ hf h, on]

theorem on_congr {u t : State} (h : u.regs = t.regs) (f : Fld) : u.on f = t.on f := by
  rw [on, get_congr h, on]

/-- A bit reads 1 just when it is on. -/
theorem get_eq_one_of_on {f : Fld} (hw : f.hi = f.lo) (h : s.on f = true) : s.get f = 1 := by
  have hlt := s.get_lt f
  rw [hw, show f.lo + 1 - f.lo = 1 by omega] at hlt
  simp only [on, bne_iff_ne, ne_eq] at h
  omega

theorem get_eq_zero_of_off {f : Fld} (h : s.on f = false) : s.get f = 0 := by
  simpa [on] using h

end State

end Sys2Proof.Machine
end

section
/-! PROOFS. A record that finds room as an update of the recorder alone, and which registers the updates of one state
leave, as rules for `simp`. -/

namespace Sys2Proof.Machine

namespace State

/-- The state with a record more in the intake FIFO of a port. -/
def wrote (s : State) (p : Nat) (e : Submit) : State := { s with log := s.log.setFifo p (s.log.fifo p ++ [e]) }

section Wrote
variable (s : State) (p : Nat) (e : Submit)

@[simp] theorem wrote_regs : (s.wrote p e).regs = s.regs := rfl
@[simp] theorem reg_wrote (a : Nat) : (s.wrote p e).reg a = s.reg a := reg_congr rfl a
@[simp] theorem get_wrote (f : Fld) : (s.wrote p e).get f = s.get f := get_congr rfl f
@[simp] theorem on_wrote (f : Fld) : (s.wrote p e).on f = s.on f := on_congr rfl f
@[simp] theorem wrote_pwr : (s.wrote p e).pwr = s.pwr := rfl
@[simp] theorem wrote_mpUp : (s.wrote p e).mpUp = s.mpUp := by rw [mpUp, wrote_pwr, mpUp]

theorem wrote_fifo (q : Nat) : (s.wrote p e).log.fifo q = if q = p then s.log.fifo p ++ [e] else s.log.fifo q :=
  Recorder.fifo_setFifo ..

end Wrote

/-- A record that finds room is a change of the recorder alone (R431, R435). -/
theorem ev_of_room {s : State} {p : Nat} (h : Room s p) (c a b d : Nat) (v : Bool) :
    s.ev p c a b d v = s.wrote p (record c a b d v) := by
  rw [ev_eq, submit_room s p _ h, wrote]

end State

theorem logged_wrote (s : State) (p c a b d : Nat) : Logged p c a b d s (s.wrote p (State.record c a b d false)) := rfl

theorem newest_wrote (s : State) (p c a b d : Nat) : Newest p c a b d (s.wrote p (State.record c a b d false)) := by
  rw [Newest, State.wrote_fifo, if_pos rfl, List.getLast?_append]
  rfl

/-- A record is the newest of its port. -/
theorem Logged.newest {p c a b d : Nat} {s t : State} (h : Logged p c a b d s t) : Newest p c a b d t := by
  have hw := newest_wrote s p c a b d
  rw [Newest] at hw ⊢
  rw [h]
  exact hw

/-! ### Room -/

section Room
variable {s : State} {p : Nat}

theorem Room.put (h : Room s p) (f : Fld) (n : Nat) : Room (s.put f n) p := h.of_log rfl rfl
theorem Room.putB (h : Room s p) (f : Fld) (b : Bool) : Room (s.putB f b) p := h.of_log rfl rfl
theorem Room.inc (h : Room s p) (f : Fld) : Room (s.inc f) p := h.of_log rfl rfl
theorem Room.incSat (h : Room s p) (f : Fld) : Room (s.incSat f) p := h.of_log rfl rfl
theorem Room.setReg (h : Room s p) (a : Nat) (w : Word) : Room (s.setReg a w) p := h.of_log rfl rfl
theorem Room.send (h : Room s p) (o : Output) : Room (s.send o) p := h.of_log rfl rfl

/-- Two records find room where two places are free. -/
theorem Room.wrote (hup : p = 0 ∨ s.mpUp = true) (h : (s.log.fifo p).length + 2 ≤ 16) (e : Submit) :
    Room (s.wrote p e) p := by
  refine ⟨by rwa [State.wrote_mpUp], ?_⟩
  rw [State.wrote_fifo, if_pos rfl, List.length_append]
  simp only [List.length_singleton]
  omega

end Room

/-! ### Registers left alone -/

section SameRegs
variable {l : List Nat} {s t : State}

@[simp] theorem sameRegs_refl : SameRegs l s s := SameRegs.refl l s

@[simp] theorem sameRegs_setReg {a : Nat} {w : Word} (ha : a ∈ l) : SameRegs l s (t.setReg a w) ↔ SameRegs l s t := by
  refine ⟨fun h b hb => ?_, fun h => h.setReg w ha⟩
  rw [← h b hb, State.reg_setReg_ne _ _ (fun e => hb (by rw [e]; exact ha))]

@[simp] theorem sameRegs_put {f : Fld} {n : Nat} (ha : f.addr ∈ l) : SameRegs l s (t.put f n) ↔ SameRegs l s t :=
  sameRegs_setReg ha
@[simp] theorem sameRegs_putB {f : Fld} {b : Bool} (ha : f.addr ∈ l) : SameRegs l s (t.putB f b) ↔ SameRegs l s t :=
  sameRegs_setReg ha
@[simp] theorem sameRegs_inc {f : Fld} (ha : f.addr ∈ l) : SameRegs l s (t.inc f) ↔ SameRegs l s t := sameRegs_setReg ha
@[simp] theorem sameRegs_incSat {f : Fld} (ha : f.addr ∈ l) : SameRegs l s (t.incSat f) ↔ SameRegs l s t :=
  sameRegs_setReg ha
@[simp] theorem sameRegs_addSat {f : Fld} {n : Nat} (ha : f.addr ∈ l) : SameRegs l s (t.addSat f n) ↔ SameRegs l s t :=
  sameRegs_setReg ha
@[simp] theorem sameRegs_raise {f : Fld} {n : Nat} (ha : f.addr ∈ l) : SameRegs l s (t.raise f n) ↔ SameRegs l s t :=
  sameRegs_setReg ha

/-- Registers do not see an update of other state. -/
theorem sameRegs_congr {u : State} (h : u.regs = t.regs) : SameRegs l s u ↔ SameRegs l s t :=
  ⟨fun k => k.of_regs h.symm, fun k => k.of_regs h⟩

@[simp] theorem sameRegs_wrote {p : Nat} {e : Submit} : SameRegs l s (t.wrote p e) ↔ SameRegs l s t := sameRegs_congr rfl
@[simp] theorem sameRegs_send {o : Output} : SameRegs l s (t.send o) ↔ SameRegs l s t := sameRegs_congr rfl
@[simp] theorem sameRegs_took : SameRegs l s t.took ↔ SameRegs l s t := sameRegs_congr rfl
@[simp] theorem sameRegs_tookN {n : Nat} : SameRegs l s (t.tookN n) ↔ SameRegs l s t := sameRegs_congr rfl

end SameRegs

end Sys2Proof.Machine
end

section
/-! PROOFS. The fan channels (R376 to R385): the switching period, measurement windows and their verdicts, stall and
short runs, the temperature loop. -/

namespace Sys2Proof.Machine

open Reg

namespace State

/-! ### One channel's state -/

section SetFan
variable (s : State) (f g : Nat) (x : Fan)

theorem fan_congr {s t : State} (h : t.fans = s.fans) (f : Nat) : t.fan f = s.fan f := by rw [fan, h, fan]
@[simp] theorem setFan_regs : (s.setFan f x).regs = s.regs := rfl
@[simp] theorem get_setFan (k : Fld) : (s.setFan f x).get k = s.get k := get_congr rfl k
@[simp] theorem reg_setFan (a : Nat) : (s.setFan f x).reg a = s.reg a := reg_congr rfl a
@[simp] theorem fan_put (k : Fld) (n : Nat) : (s.put k n).fan g = s.fan g := fan_congr rfl g
@[simp] theorem fan_took : s.took.fan g = s.fan g := fan_congr rfl g
theorem fan_setFan : (s.setFan f x).fan g = if g = f then x else s.fan g := tget_tset ..
@[simp] theorem fan_setFan_same : (s.setFan f x).fan f = x := by simp [fan_setFan]
theorem fan_setFan_ne (h : g ≠ f) : (s.setFan f x).fan g = s.fan g := by simp [fan_setFan, h]

end SetFan

end State

/-- `t` is `s` but for the registers listed and channel `f`. -/
structure FanFrame (l : List Nat) (f : Nat) (s t : State) : Prop where
  regs : SameRegs l s t
  rest : { t with regs := s.regs, fans := s.fans } = s
  fans : ∀ g, g ≠ f → t.fan g = s.fan g

namespace FanFrame
variable {l : List Nat} {f : Nat} {s t : State}

theorem refl (l : List Nat) (f : Nat) (s : State) : FanFrame l f s s := ⟨SameRegs.refl l s, rfl, fun _ _ => rfl⟩

theorem put (h : FanFrame l f s t) {k : Fld} (n : Nat) (hk : k.addr ∈ l) : FanFrame l f s (t.put k n) :=
  ⟨h.regs.put n hk, h.rest, h.fans⟩

theorem setFan (h : FanFrame l f s t) (x : Fan) : FanFrame l f s (t.setFan f x) :=
  ⟨h.regs.of_regs rfl, h.rest, fun g hg => (t.fan_setFan_ne f g x hg).trans (h.fans g hg)⟩

theorem trans {u : State} (h : FanFrame l f s t) (k : FanFrame l f t u) : FanFrame l f s u := by
  refine ⟨h.regs.next k.regs, ?_, fun g hg => (k.fans g hg).trans (h.fans g hg)⟩
  have hrest := h.rest
  rw [← k.rest] at hrest
  exact hrest

theorem ite {u : State} {c : Prop} [Decidable c] (h : FanFrame l f s t) (k : FanFrame l f s u) :
    FanFrame l f s (if c then t else u) := by split <;> assumption

end FanFrame

namespace State

/-! ### A switching period (R376, R377, R380) -/

section Period
variable (s : State) (f : Nat)

theorem fanDrive_code_le : (s.fanDrive f).1 ≤ 8 := by
  unfold fanDrive
  dsimp only
  repeat' split
  all_goals simp

theorem fanSupplied_frame : FanFrame [FAN_STATUS f] f s (s.fanSupplied f) :=
  .ite ((FanFrame.refl ..).put _ (by simp))
    (.ite (((FanFrame.refl ..).put _ (by simp)).put _ (by simp)) (FanFrame.refl ..))

theorem fanStop_frame : FanFrame [FAN_STATUS f] f s (s.fanStop f) :=
  (((FanFrame.refl ..).setFan _).put _ (by simp)).put _ (by simp)

theorem fanForceShow_frame : FanFrame [FAN_STATUS f] f s (s.fanForceShow f) := (FanFrame.refl ..).put _ (by simp)

/-- What a switching period can do after FORCE is shown: show a duty, with or without a new state, or stop the fan. -/
theorem fanPeriodOn_cases :
    s.fanPeriodOn f = (s.fanForceShow f).fanStop f ∨
      (∃ d, s.fanPeriodOn f = (s.fanForceShow f).put (FAN_STATUS_DUTY f) d) ∨
      (∃ d n, s.fanPeriodOn f = ((s.fanForceShow f).put (FAN_STATUS_DUTY f) d).setFst f n) ∨
      (∃ d n, s.fanPeriodOn f = ((s.fanForceShow f).setFst f n).put (FAN_STATUS_DUTY f) d) := by
  unfold fanPeriodOn
  dsimp only
  repeat' split
  · exact .inr (.inl ⟨_, rfl⟩)
  · exact .inl rfl
  · exact .inr (.inr (.inl ⟨_, _, rfl⟩))
  · exact .inr (.inr (.inl ⟨_, _, rfl⟩))
  · exact .inr (.inl ⟨_, rfl⟩)
  · exact .inr (.inl ⟨_, rfl⟩)
  · exact .inr (.inl ⟨_, rfl⟩)
  · exact .inr (.inr (.inr ⟨_, _, rfl⟩))
  · exact .inl rfl
  · exact .inl rfl
  · exact .inr (.inl ⟨_, rfl⟩)
  · exact .inr (.inl ⟨_, rfl⟩)

/-- A period writes FAN_STATUS, and of the channel at most its window, which closes. -/
theorem fanPeriodOn_frame : FanFrame [FAN_STATUS f] f s (s.fanPeriodOn f) := by
  have hforce := s.fanForceShow_frame f
  rcases s.fanPeriodOn_cases f with h | ⟨d, h⟩ | ⟨d, n, h⟩ | ⟨d, n, h⟩ <;> rw [h]
  · exact hforce.trans ((s.fanForceShow f).fanStop_frame f)
  · exact hforce.put _ (by simp)
  · exact (hforce.put _ (by simp)).put _ (by simp)
  · exact (hforce.put _ (by simp)).put _ (by simp)

theorem fanPeriodOn_fan :
    (s.fanPeriodOn f).fan f = s.fan f ∨ (s.fanPeriodOn f).fan f = { s.fan f with window := false, edges := [] } := by
  rcases s.fanPeriodOn_cases f with h | ⟨d, h⟩ | ⟨d, n, h⟩ | ⟨d, n, h⟩ <;>
    simp [h, fanForceShow, fanStop, fanNoWindow, setFst]

theorem fanForceShow_force : (s.fanForceShow f).get (FAN_STATUS_FORCE f) =
    if (s.fanDrive f).1 = 8 ∧ s.fanFenced f = false then 0 else (s.fanDrive f).1 := by
  have hle := s.fanDrive_code_le f
  rw [fanForceShow, get_put_same _ _ _ (by simp)]
  simp only [Bool.not_eq_true']
  split <;> omega

/-- FORCE shows the drive row's code (R376). -/
theorem fanPeriodOn_force : (s.fanPeriodOn f).get (FAN_STATUS_FORCE f) =
    if (s.fanDrive f).1 = 8 ∧ s.fanFenced f = false then 0 else (s.fanDrive f).1 := by
  rw [← fanForceShow_force]
  rcases s.fanPeriodOn_cases f with h | ⟨d, h⟩ | ⟨d, n, h⟩ | ⟨d, n, h⟩ <;>
    simp [h, fanStop, fanNoWindow, setFst, get_put_ne]

theorem get_fanSupplied {k : Fld} (hk : k.addr ≠ FAN_STATUS f) : (s.fanSupplied f).get k = s.get k := by
  rw [get, (s.fanSupplied_frame f).regs _ (by simpa using hk), get]

theorem fanDuty_shown (d : Nat) : (s.put (FAN_STATUS_DUTY f) d).get (FAN_STATUS_DUTY f) = d % 256 :=
  get_put_same _ _ _ (by simp)

theorem fanSupplied_off (h : s.on PWR_STATUS_VFAN_OK = false) : (s.fanSupplied f).fst f = 9 := by
  rw [fanSupplied, h]
  exact get_put_same _ _ _ (by simp)

theorem fanSupplied_on (h : s.on PWR_STATUS_VFAN_OK = true) (hst : s.fst f ≠ 9) : s.fanSupplied f = s := by
  simp [fanSupplied, h, fNoVfan, hst]

/-- A supply that came back leaves the channel off. -/
theorem fanSupplied_back (h : s.on PWR_STATUS_VFAN_OK = true) (hst : s.fst f = 9) : (s.fanSupplied f).fst f = 1 := by
  rw [fst] at hst
  simp [fanSupplied, h, hst, fNoVfan, fst, setFst, fOff, get_put_ne, get_put_same]

section On
variable {s : State} {f : Nat}

theorem fanPeriodOn_held (h : (s.fanDrive f).1 = 7) : (s.fanPeriodOn f).get (FAN_STATUS_DUTY f) = 0 := by
  simp only [fanPeriodOn, h, if_true]
  split
  · exact fanDuty_shown ..
  · exact fanDuty_shown ..

theorem fanPeriodOn_boot (h : (s.fanDrive f).1 = 8) : (s.fanPeriodOn f).get (FAN_STATUS_DUTY f) = 255 := by
  simp [fanPeriodOn, h, setFst, get_put_ne, get_put_same]

theorem fanPeriodOn_unsupplied (h : s.fst f = 9) (h7 : (s.fanDrive f).1 ≠ 7) : (s.fanPeriodOn f).fst f = 9 := by
  rw [fst] at h
  by_cases h8 : (s.fanDrive f).1 = 8
  · simp [fanPeriodOn, h, h8, fNoVfan, fst, setFst, get_put_same]
  · simp [fanPeriodOn, h, h7, h8, fNoVfan, fStallOff, fShortOff, fBurst, fst, fanForceShow, get_put_ne]

variable (h7 : (s.fanDrive f).1 ≠ 7) (h8 : (s.fanDrive f).1 ≠ 8)
include h7 h8

theorem fanPeriodOn_starts (h : s.fst f = 0 ∨ s.fst f = 1) (hd : s.get (FAN_LOOP_MIN_DUTY f) + 13 ≤ (s.fanDrive f).2) :
    (s.fanPeriodOn f).fst f = 2 ∧ (s.fanPeriodOn f).get (FAN_STATUS_DUTY f) = 255 := by
  rw [fst] at h
  rcases h with h | h <;>
    simp [fanPeriodOn, h, h7, h8, hd, fNoVfan, fStallOff, fShortOff, fBurst, fUnused, fOff, fStarting, fst, setFst,
      get_put_ne, get_put_same]

theorem fanPeriodOn_stays_off (h : s.fst f = 0 ∨ s.fst f = 1)
    (hd : (s.fanDrive f).2 < s.get (FAN_LOOP_MIN_DUTY f) + 13) :
    (s.fanPeriodOn f).get (FAN_STATUS_DUTY f) = 0 := by
  have hno := Nat.not_le.mpr hd
  rcases h with h | h <;>
    simp [fanPeriodOn, h, h7, h8, hno, fNoVfan, fStallOff, fShortOff, fBurst, fUnused, fOff, fanStop, get_put_same]

theorem fanPeriodOn_stops (h : s.fst f = 3) (hd : (s.fanDrive f).2 < s.get (FAN_LOOP_MIN_DUTY f)) :
    (s.fanPeriodOn f).get (FAN_STATUS_DUTY f) = 0 ∧ ((s.fanPeriodOn f).fan f).window = false := by
  simp [fanPeriodOn, h, h7, h8, hd, fNoVfan, fStallOff, fShortOff, fBurst, fUnused, fOff, fanStop, get_put_same,
    setFst, fanNoWindow]

theorem fanPeriodOn_runs (h : s.fst f = 3) (hd : s.get (FAN_LOOP_MIN_DUTY f) ≤ (s.fanDrive f).2)
    (hi : s.fanIdle f = false) :
    (s.fanPeriodOn f).fst f = 3 ∧ (s.fanPeriodOn f).get (FAN_STATUS_DUTY f) = (s.fanDrive f).2 % 256 := by
  have hno := Nat.not_lt.mpr hd
  rw [fst] at h
  simp [fanPeriodOn, h, h7, h8, hno, hi, fNoVfan, fStallOff, fShortOff, fBurst, fUnused, fOff, fStarting, fst,
    fanForceShow, get_put_ne, get_put_same]

end On

end Period

/-- A period of a channel in a running control plane. -/
theorem fanPeriod_up {s : State} (f : Nat) (h : s.cpUp = true) : s.fanPeriod f = (s.fanSupplied f).fanPeriodOn f := if_pos h

theorem fanPeriod_down {s : State} (f : Nat) (h : s.cpUp = false) : s.fanPeriod f = s := by
  simp [fanPeriod, h]

theorem fanFenced_fanSupplied (s : State) (f : Nat) : (s.fanSupplied f).fanFenced f = s.fanFenced f := by
  have hrel : (s.fanSupplied f).rel = s.rel := (congrArg State.rel (s.fanSupplied_frame f).rest :)
  rw [fanFenced, hrel, fanFenced]

theorem fan_fanSupplied (s : State) (f g : Nat) : (s.fanSupplied f).fan g = s.fan g := by
  unfold fanSupplied
  split
  · simp [setFst]
  · split
    · simp [setFst]
    · rfl

/-- With a supply a period meets the channel as it is, or off when the supply has come back. -/
theorem fanSupplied_fst {s : State} {f : Nat} (h : s.on PWR_STATUS_VFAN_OK = true) :
    (s.fst f ≠ 9 ∧ s.fanSupplied f = s) ∨ (s.fst f = 9 ∧ (s.fanSupplied f).fst f = 1) := by
  by_cases hst : s.fst f = 9
  · exact .inr ⟨hst, s.fanSupplied_back f h hst⟩
  · exact .inl ⟨hst, s.fanSupplied_on f h hst⟩

/-- A channel that is off, or whose supply has come back, is off when its period applies. -/
theorem fanSupplied_fst_off {s : State} {f : Nat} (h : s.on PWR_STATUS_VFAN_OK = true)
    (hst : s.fst f = 0 ∨ s.fst f = 1 ∨ s.fst f = 9) :
    (s.fanSupplied f).fst f = 0 ∨ (s.fanSupplied f).fst f = 1 := by
  rcases fanSupplied_fst (f := f) h with ⟨h9, hs⟩ | ⟨-, hs⟩
  · rw [hs]; tauto
  · exact .inr hs

/-- The 500 ms at 100 % of a start end (R377). -/
theorem fanStarted_starting {s : State} {f : Nat} (h : s.fst f = 2) : s.fanStarted f = s.setFst f 3 := if_pos h
theorem fanStarted_other {s : State} {f : Nat} (h : s.fst f ≠ 2) : s.fanStarted f = s := if_neg h

end State

theorem exec_fanPeriodStart_eq (f : Fin 16) (s : State) : exec (.fanPeriodStart f) s = .next (s.fanPeriod f) := rfl
theorem exec_fanStartingEnd_eq (f : Fin 16) (s : State) : exec (.fanStartingEnd f) s = .next (s.fanStarted f) := rfl

/-- Settles O6: the period acts on the channel with its supply looked up (`fanSupplied`), and every one of its outcomes
(`fanPeriodOn_cases`) shows FORCE first. -/
theorem fanSwitching : Obligations.FanSwitching := by
  unfold Obligations.FanSwitching
  refine ⟨?_, ?_, ?_, ?_⟩
  · rintro f d s hup rfl
    set u := s.fanSupplied f with hu
    have hframe := (s.fanSupplied_frame f).trans (u.fanPeriodOn_frame f)
    have hmin : u.get (FAN_LOOP_MIN_DUTY f) = s.get (FAN_LOOP_MIN_DUTY f) := s.get_fanSupplied f (by simp)
    have hfan := u.fanPeriodOn_fan f
    have hforce := u.fanPeriodOn_force f
    rw [hu, State.fan_fanSupplied, ← hu] at hfan
    rw [hu, State.fanFenced_fanSupplied, ← hu] at hforce
    rw [exec_fanPeriodStart_eq, State.fanPeriod_up f hup, ← hu]
    refine ⟨_, rfl, hframe.regs, hframe.rest, hframe.fans, hfan, hforce, State.fanPeriodOn_held, State.fanPeriodOn_boot,
      fun hoff h7 => State.fanPeriodOn_unsupplied (s.fanSupplied_off f hoff) h7, fun hon h7 h8 hd => ⟨?_, ?_, ?_, ?_⟩⟩
    · intro hst hle
      exact State.fanPeriodOn_starts h7 h8 (State.fanSupplied_fst_off hon hst) (by rwa [hmin])
    · intro hst hlt
      exact State.fanPeriodOn_stays_off h7 h8 (State.fanSupplied_fst_off hon hst) (by rwa [hmin])
    · intro hst hlt
      have hus : u = s := s.fanSupplied_on f hon (by omega)
      exact State.fanPeriodOn_stops h7 h8 (by rwa [hus]) (by rwa [hmin])
    · intro hst hle hidle
      have hus : u = s := s.fanSupplied_on f hon (by omega)
      have hruns := State.fanPeriodOn_runs h7 h8 (by rwa [hus]) (by rwa [hmin]) (by rwa [hus])
      rwa [Nat.mod_eq_of_lt hd] at hruns
  · exact fun f s h => congrArg _ (State.fanPeriod_down f h)
  · intro f s h
    rw [exec_fanStartingEnd_eq, State.fanStarted_starting h]
    exact ⟨_, rfl, s.get_put_same _ _ (by simp), (OnlyRegs.refl _ s).put _ (by simp)⟩
  · exact fun f s h => congrArg _ (State.fanStarted_other h)

namespace State

/-! ### Measurement windows (R378, R379, R493) -/

section Window
variable {s : State} {f : Nat}

theorem setFan_frame (s : State) (f : Nat) (x : Fan) : { s.setFan f x with fans := s.fans } = s := rfl

theorem fanWindow_opens (h : s.fst f = 3 ∨ s.fst f = 4 ∨ s.fst f = 8) (hon : s.on PWR_STATUS_VFAN_OK = true)
    (hfence : s.fanFenced f = false) (hheld : s.fansHeld = false) (hboot : s.fansBoot = false) :
    s.fanWindow f = s.setFan f { s.fan f with window := true, edges := [] } := by
  simp [fanWindow, fRunning, fTachLost, fOpen, h, hon, hfence, hheld, hboot]

theorem fanWindow_not_running (h : s.fst f = 1 ∨ s.fst f = 2 ∨ s.fst f = 5 ∨ s.fst f = 7 ∨ s.fst f = 9) :
    s.fanWindow f = s := by
  have hno : ¬ (s.fst f = 3 ∨ s.fst f = 4 ∨ s.fst f = 8) := by omega
  simp [fanWindow, fRunning, fTachLost, fOpen, hno]

theorem tachEdge_accepted {us stamp : Nat} (hw : (s.fan f).window = true) (hus : 50 ≤ us)
    (hlen : (s.fan f).edges.length < 4) :
    s.tachEdge f us stamp = s.setFan f { s.fan f with edges := (s.fan f).edges ++ [stamp] } := by
  simp [tachEdge, hw, hus, hlen]

theorem tachEdge_short {us stamp : Nat} (hus : us < 50) : s.tachEdge f us stamp = s := by
  simp [tachEdge, Nat.not_le.mpr hus]

end Window

end State

theorem exec_fanWindowStart_eq (f : Fin 16) (s : State) : exec (.fanWindowStart f) s = .next (s.fanWindow f) := rfl
theorem exec_tachEdge_eq (f : Fin 16) (us stamp : Nat) (s : State) :
    exec (.tachEdge f us stamp) s = .next (s.tachEdge f us stamp) := rfl

/-- A change of one channel's own state changes nothing else. -/
theorem setFan_outcome (s : State) (f : Nat) (x : Fan) :
    ∃ t, (.next (s.setFan f x) : Res) = .next t ∧ t.fan f = x ∧ (∀ g, g ≠ f → t.fan g = s.fan g) ∧
      { t with fans := s.fans } = s :=
  ⟨_, rfl, s.fan_setFan_same f x, fun g hg => s.fan_setFan_ne f g x hg, s.setFan_frame f x⟩

/-- Settles O7: a window that opens and an edge that is accepted are changes of the channel's own state. -/
theorem fanWindows : Obligations.FanWindows := by
  unfold Obligations.FanWindows
  refine ⟨?_, fun f s h => congrArg _ (State.fanWindow_not_running h), ?_,
    fun f us stamp s h => congrArg _ (State.tachEdge_short h)⟩
  · intro f s hst hon hfence hheld hboot
    rw [exec_fanWindowStart_eq, State.fanWindow_opens hst hon hfence hheld hboot]
    exact setFan_outcome ..
  · intro f us stamp s hw hus hlen
    rw [exec_tachEdge_eq, State.tachEdge_accepted hw hus hlen]
    exact setFan_outcome ..

/-- `t` is `s` but for the registers listed, the channels, the recorder and the free values taken. -/
structure FanStep (l : List Nat) (s t : State) : Prop where
  regs : SameRegs l s t
  rest : { t with regs := s.regs, fans := s.fans, log := s.log, freeIdx := s.freeIdx } = s

namespace FanStep
variable {l : List Nat} {s t : State}

theorem refl (l : List Nat) (s : State) : FanStep l s s := ⟨SameRegs.refl l s, rfl⟩
theorem put (h : FanStep l s t) {k : Fld} (n : Nat) (hk : k.addr ∈ l) : FanStep l s (t.put k n) :=
  ⟨h.regs.put n hk, h.rest⟩
theorem setFan (h : FanStep l s t) (f : Nat) (x : Fan) : FanStep l s (t.setFan f x) := ⟨h.regs.of_regs rfl, h.rest⟩
theorem took (h : FanStep l s t) : FanStep l s t.took := ⟨h.regs.of_regs rfl, h.rest⟩
theorem fev (h : FanStep l s t) (f c a b : Nat) (hr : Room t portFan) : FanStep l s (t.fev f c a b) := by
  refine ⟨h.regs.ev _ _ _ _ _ _ hr, ?_⟩
  have hev := ev_frame t portFan c f a b false
  have hrest := h.rest
  rw [← hev] at hrest
  exact hrest
theorem trans {m : List Nat} {u : State} (h : FanStep l s t) (k : FanStep m t u) : FanStep (l ++ m) s u := by
  refine ⟨h.regs.trans k.regs, ?_⟩
  have hrest := h.rest
  rw [← k.rest] at hrest
  exact hrest
theorem pwr (h : FanStep l s t) : t.pwr = s.pwr := (congrArg State.pwr h.rest :)
theorem guard (h : FanStep l s t) : t.guard = s.guard := (congrArg State.guard h.rest :)
theorem caddy (h : FanStep l s t) : t.caddy = s.caddy := (congrArg State.caddy h.rest :)
theorem rel (h : FanStep l s t) : t.rel = s.rel := (congrArg State.rel h.rest :)
theorem fansHeld (h : FanStep l s t) : t.fansHeld = s.fansHeld := by
  rw [State.fansHeld, h.pwr, h.guard, State.fansHeld]
theorem fansBoot (h : FanStep l s t) : t.fansBoot = s.fansBoot := by
  rw [State.fansBoot, h.pwr, h.caddy, State.fansBoot]
theorem fanFenced (h : FanStep l s t) (f : Nat) : t.fanFenced f = s.fanFenced f := by
  rw [State.fanFenced, h.rel, State.fanFenced]
theorem get (h : FanStep l s t) {k : Fld} (hk : k.addr ∉ l) : t.get k = s.get k := by
  rw [State.get, h.regs _ hk, State.get]

end FanStep

namespace State

section Show
variable (s : State) (f ppr : Nat) (edges : List Nat) (ima : Nat)

/-- A window's end shows the current, and an RPM that is measured, 0, or open in its last digit. -/
theorem fanShow_cases : ∃ x : Fan, x.run = (s.fan f).run ∧ x.table = (s.fan f).table ∧ x.retries = (s.fan f).retries ∧
      x.runAt = (s.fan f).runAt ∧ x.reload = (s.fan f).reload ∧
    ((∃ n, s.fanShow f ppr edges ima =
        (((s.put (FAN_SPEED_CURRENT_MA f) (satTo 16 ima)).took).put (FAN_SPEED_RPM f) n).setFan f x) ∨
      s.fanShow f ppr edges ima =
        ((s.put (FAN_SPEED_CURRENT_MA f) (satTo 16 ima)).put (FAN_SPEED_RPM f) 0).setFan f x) := by
  unfold fanShow
  dsimp only
  split
  · refine ⟨_, ?_, ?_, ?_, ?_, ?_, .inl ⟨_, rfl⟩⟩ <;> simp
  · refine ⟨_, ?_, ?_, ?_, ?_, ?_, .inr rfl⟩ <;> simp

theorem fanShow_step : FanStep [FAN_SPEED f] s (s.fanShow f ppr edges ima) := by
  have hcurrent := (FanStep.refl [FAN_SPEED f] s).put (k := FAN_SPEED_CURRENT_MA f) (satTo 16 ima) (by simp)
  obtain ⟨x, -, -, -, -, -, ⟨n, h⟩ | h⟩ := s.fanShow_cases f ppr edges ima <;> rw [h]
  · exact (hcurrent.took.put n (by simp)).setFan f x
  · exact (hcurrent.put 0 (by simp)).setFan f x

theorem fanShow_log : (s.fanShow f ppr edges ima).log = s.log := by
  obtain ⟨x, -, -, -, -, -, ⟨n, h⟩ | h⟩ := s.fanShow_cases f ppr edges ima <;> rw [h] <;> rfl

theorem fanShow_current : (s.fanShow f ppr edges ima).get (FAN_SPEED_CURRENT_MA f) = min ima 65535 := by
  obtain ⟨x, -, -, -, -, -, ⟨n, h⟩ | h⟩ := s.fanShow_cases f ppr edges ima <;>
    simp [h, get_put_ne, get_put_same, satTo]

/-- What a run keeps is not touched by the values shown. -/
theorem fanShow_fan : ((s.fanShow f ppr edges ima).fan f).run = (s.fan f).run ∧
    ((s.fanShow f ppr edges ima).fan f).table = (s.fan f).table ∧
    ((s.fanShow f ppr edges ima).fan f).retries = (s.fan f).retries ∧
    ((s.fanShow f ppr edges ima).fan f).runAt = (s.fan f).runAt ∧
    ((s.fanShow f ppr edges ima).fan f).reload = (s.fan f).reload := by
  obtain ⟨x, h1, h2, h3, h4, h5, ⟨n, h⟩ | h⟩ := s.fanShow_cases f ppr edges ima <;>
    simp [h, h1, h2, h3, h4, h5]

end Show

/-! ### Verdicts (R380 to R382) -/

section Judge
variable {s : State} {f ima dips : Nat}

/-- The state in which a window is judged: its values shown, the window closed. -/
def fanJudged (s : State) (f : Nat) (edges ma : List Nat) : State :=
  (s.took.fanShow f (pprOf (s.reg (FAN_CFG f))) edges (s.fanMean ma).1).fanNoWindow f

theorem fanWindowEnd_judges {ma : List Nat} {us : Nat} (hw : (s.fan f).window = true)
    (hend : us = 120000 ∨ us < 120000 ∧ (s.fan f).edges.length = 4) :
    s.fanWindowEnd f ma us = (s.fanJudged f (s.fan f).edges ma).fanJudge f
      (fanVerdict (pprOf (s.reg (FAN_CFG f))) (s.fan f).edges ma) (s.fanMean ma).1 (rippleDips ma) := by
  have hguard : ((s.fan f).window && (decide (us = 120000) ||
      (decide (us < 120000) && decide ((s.fan f).edges.length = 4)))) = true := by
    simpa [hw] using hend
  rw [fanWindowEnd]
  dsimp only
  rw [if_pos hguard]
  rfl

theorem fanJudged_step (s : State) (f : Nat) (edges ma : List Nat) : FanStep [FAN_SPEED f] s (s.fanJudged f edges ma) :=
  (((FanStep.refl [] s).took).trans (fanShow_step _ f _ edges _)).setFan f _

theorem fanJudged_log (s : State) (f : Nat) (edges ma : List Nat) : (s.fanJudged f edges ma).log = s.log :=
  fanShow_log s.took f _ edges _

theorem fanJudged_fst (s : State) (f : Nat) (edges ma : List Nat) : (s.fanJudged f edges ma).fst f = s.fst f :=
  (s.fanJudged_step f edges ma).get (by simp)

theorem fanJudged_room (edges ma : List Nat) (h : Room s portFan) : Room (s.fanJudged f edges ma) portFan :=
  h.of_log (s.fanJudged_log ..) (s.fanJudged_step ..).pwr

theorem fanJudged_current (s : State) (f : Nat) (edges ma : List Nat) :
    (s.fanJudged f edges ma).get (FAN_SPEED_CURRENT_MA f) = min (s.fanMean ma).1 65535 := by
  rw [fanJudged, fanNoWindow, get_setFan, fanShow_current]

theorem fanJudged_window (s : State) (f : Nat) (edges ma : List Nat) :
    ((s.fanJudged f edges ma).fan f).window = false := by
  simp [fanJudged, fanNoWindow]

/-- A channel that runs takes its verdict as it stands. -/
theorem fanJudge_running (h : s.fst f = 3) (sp : Option F32) : s.fanJudge f (.running sp) ima dips = s := by
  simp [fanJudge, h, fOpen, fTachLost]

theorem fanJudge_open (h : s.fst f = 3) : s.fanJudge f .openFan ima dips =
    ((s.putB (FAN_STATUS_OPEN_SEEN f) true).setFst f 8).fev f 0x4005 ima := by
  simp [fanJudge, h, fOpen]

theorem fanJudge_tachLost (h : s.fst f = 3) : s.fanJudge f .tachLost ima dips =
    (((s.putB (FAN_STATUS_TACH_LOST_SEEN f) true).setFst f 4).inc (FAN_STATS_TACH_LOSSES f)).fev f 0x4003 ima dips := by
  have hst : (s.putB (FAN_STATUS_TACH_LOST_SEEN f) true).fst f = 3 := (s.get_putB_ne _ _ _ (by simp) (by simp)).trans h
  simp [fanJudge, h, hst, fOpen, fTachLost]

/-- A stall: counted, recorded, and the off time of a stall run begins. -/
theorem fanJudge_stall (h : s.fst f = 3) : s.fanJudge f .stall ima dips =
    (((((s.inc (FAN_STATS_STALLS f)).putB (FAN_STATUS_STALL_SEEN f) true).fev f 0x4001 ima
      (s.get (FAN_STATS_STALL_RETRIES f))).fanRunBegin f 1).fanOffRun f 5) := by
  simp [fanJudge, h, fOpen, fStallOff]

theorem pprOf_ne_zero (h : s.get (FAN_CFG_PPR f) ≠ 0) : pprOf (s.reg (FAN_CFG f)) ≠ 0 := by
  rw [get] at h
  unfold pprOf
  dsimp only
  split
  · decide
  · exact h

end Judge

theorem fanVerdict_running {ppr : Nat} {edges ma : List Nat} (hp : ppr ≠ 0) (he : 2 ≤ edges.length) :
    fanVerdict ppr edges ma = .running ((fanSpeed ppr edges).map (fun q => fofRat q.1 q.2)) := by
  simp [fanVerdict, hp, he]

theorem fanVerdict_open {ppr : Nat} {ma : List Nat} (hm : (meanCurrent ma).1 < 50 * (meanCurrent ma).2) :
    fanVerdict ppr [] ma = .openFan := by
  simp [fanVerdict, hm]

theorem fanVerdict_tachLost {ppr : Nat} {ma : List Nat} (hp : ppr ≠ 0)
    (hm : 50 * (meanCurrent ma).2 ≤ (meanCurrent ma).1) (hd : 4 ≤ rippleDips ma) : fanVerdict ppr [] ma = .tachLost := by
  simp [fanVerdict, hp, hd, Nat.not_lt.mpr hm]

theorem fanVerdict_stall {ppr : Nat} {ma : List Nat} (hm : 50 * (meanCurrent ma).2 ≤ (meanCurrent ma).1)
    (hd : rippleDips ma < 4) : fanVerdict ppr [] ma = .stall := by
  simp [fanVerdict, Nat.not_lt.mpr hm, Nat.not_le.mpr hd]

/-! ### The switch off in a run (R376, R381, R383) -/

section OffRun
variable {s : State} {f n : Nat}

/-- Nothing of a higher row: the switch of a channel in a stall or short run is off. -/
theorem fanDrive_offRun (hh : s.fansHeld = false) (hb : s.fansBoot = false) (hf : s.fanFenced f = false)
    (hst : s.fst f = 5 ∨ s.fst f = 7) : s.fanDrive f = (6, 0) := by
  simp [fanDrive, hh, hb, hf, hst, fStallOff, fShortOff]

theorem fanOffRun_step (s : State) (f n : Nat) : FanStep [FAN_STATUS f] s (s.fanOffRun f n) :=
  ((((FanStep.refl _ s).setFan f _).put _ (by simp)).put _ (by simp)).put _ (by simp)

theorem fanOffRun_log (s : State) (f n : Nat) : (s.fanOffRun f n).log = s.log := rfl
theorem fanRunBegin_log (s : State) (f n : Nat) : (s.fanRunBegin f n).log = s.log := rfl

theorem fanOffRun_duty (s : State) (f n : Nat) : (s.fanOffRun f n).get (FAN_STATUS_DUTY f) = 0 :=
  get_put_same _ _ _ (by simp)

theorem fanOffRun_fst (s : State) (f n : Nat) : (s.fanOffRun f n).fst f = n % 16 := by
  simp [fanOffRun, fst, fanForceShow, setFst, get_put_ne, get_put_same]

theorem fanOffRun_fan (s : State) (f n : Nat) :
    (s.fanOffRun f n).fan f = { s.fan f with window := false, edges := [] } := by
  simp [fanOffRun, fanForceShow, setFst, fanNoWindow]

/-- Fields of FAN_STATUS that the start of an off time leaves. -/
theorem get_fanOffRun {k : Fld} (h1 : k.addr ≠ FAN_STATUS f ∨ k.hi < 16) :
    (s.fanOffRun f n).get k = s.get k := by
  have hk (hi lo : Nat) (hlo : 16 ≤ lo) : k.addr ≠ FAN_STATUS f ∨ k.hi < lo ∨ hi < k.lo := by omega
  simp only [fanOffRun, fanForceShow, setFst, fanNoWindow]
  rw [get_put_ne _ _ _ _ (by simp) (hk _ _ (by simp)), get_put_ne _ _ _ _ (by simp) (hk _ _ (by simp)),
    get_put_ne _ _ _ _ (by simp) (hk _ _ (by simp)), get_setFan]

theorem fanOffRun_force (hh : s.fansHeld = false) (hb : s.fansBoot = false) (hf : s.fanFenced f = false)
    (hn : n = 5 ∨ n = 7) : (s.fanOffRun f n).get (FAN_STATUS_FORCE f) = 6 := by
  have hstep : FanStep [FAN_STATUS f] s ((s.fanNoWindow f).setFst f n) := ((FanStep.refl _ s).setFan f _).put _ (by simp)
  have hst : ((s.fanNoWindow f).setFst f n).fst f = n := by
    rw [fst, setFst, get_put_same _ _ _ (by simp)]
    rcases hn with rfl | rfl <;> rfl
  have hdrive := fanDrive_offRun (hstep.fansHeld.trans hh) (hstep.fansBoot.trans hb) ((hstep.fanFenced f).trans hf)
    (by rw [hst]; exact hn)
  simp [fanOffRun, fanForceShow, hdrive, get_put_ne, get_put_same]

end OffRun

end State

theorem exec_fanWindowEnd_eq (f : Fin 16) (ma : List Nat) (us : Nat) (s : State) :
    exec (.fanWindowEnd f ma us) s = .next (s.fanWindowEnd f ma us) := rfl

theorem State.fan_fev (s : State) (f c a b g : Nat) : (s.fev f c a b).fan g = s.fan g := fan_congr (s.ev_fans ..) g

/-- The newest record of a state whose recorder is that of `s`. -/
theorem logged_fev {s u : State} (f c a b : Nat) (hlog : u.log = s.log) (hr : Room u portFan) :
    Logged portFan c f a b s (u.fev f c a b) := (logged_ev u portFan c f a b hr).from_log hlog

theorem State.get_fev {u : State} {f c a b : Nat} (hr : Room u portFan) (k : Fld) : (u.fev f c a b).get k = u.get k :=
  State.get_ev_room _ _ _ _ _ _ _ _ hr

section Outcome
variable {s u : State} {f ima dips : Nat} (hstep : FanStep [FAN_SPEED f] s u) (hlog : u.log = s.log) (hst : u.fst f = 3)
  (hroom : Room s portFan)
include hstep hlog hst hroom

/-- OPEN: the state, its sticky bit and the record. -/
theorem fanJudge_open_outcome : ∃ t, u.fanJudge f .openFan ima dips = t ∧ t.fst f = 8 ∧
    t.get (FAN_STATUS_OPEN_SEEN f) = 1 ∧ SameRegs [FAN_SPEED f, FAN_STATUS f] s t ∧ Logged portFan 0x4005 f ima 0 s t := by
  have hr : Room ((u.putB (FAN_STATUS_OPEN_SEEN f) true).setFst f 8) portFan := hroom.of_log hlog hstep.pwr
  refine ⟨_, State.fanJudge_open hst, ?_, ?_, ?_, logged_fev f _ _ _ hlog hr⟩
  · rw [State.fst, State.get_fev hr]
    simp [State.setFst, State.get_put_same]
  · rw [State.get_fev hr]
    simp [State.setFst, State.get_put_ne, State.get_putB_same]
  · exact (((hstep.trans (FanStep.refl [FAN_STATUS f] u)).put _ (by simp)).put _ (by simp)).fev _ _ _ _ hr |>.regs

/-- TACH_LOST: the state, its sticky bit, the count and the record. -/
theorem fanJudge_tachLost_outcome : ∃ t, u.fanJudge f .tachLost ima dips = t ∧ t.fst f = 4 ∧
    t.get (FAN_STATUS_TACH_LOST_SEEN f) = 1 ∧
    t.get (FAN_STATS_TACH_LOSSES f) = (s.get (FAN_STATS_TACH_LOSSES f) + 1) % 256 ∧
    SameRegs [FAN_SPEED f, FAN_STATUS f, FAN_STATS f] s t ∧ Logged portFan 0x4003 f ima dips s t := by
  have hr : Room (((u.putB (FAN_STATUS_TACH_LOST_SEEN f) true).setFst f 4).inc (FAN_STATS_TACH_LOSSES f)) portFan :=
    hroom.of_log hlog hstep.pwr
  have hlosses : u.get (FAN_STATS_TACH_LOSSES f) = s.get (FAN_STATS_TACH_LOSSES f) := hstep.get (by simp)
  refine ⟨_, State.fanJudge_tachLost hst, ?_, ?_, ?_, ?_, logged_fev f _ _ _ hlog hr⟩
  · rw [State.fst, State.get_fev hr]
    simp [State.setFst, State.get_inc_ne, State.get_put_same]
  · rw [State.get_fev hr]
    simp [State.setFst, State.get_inc_ne, State.get_put_ne, State.get_putB_same]
  · rw [State.get_fev hr]
    simp [State.setFst, State.get_inc_same, State.get_put_ne, State.get_putB_ne, hlosses]
  · exact ((((hstep.trans (FanStep.refl [FAN_STATUS f, FAN_STATS f] u)).put _ (by simp)).put _ (by simp)).put _
      (by simp)).fev _ _ _ _ hr |>.regs

/-- A stall: counted and recorded, and the switch goes off. -/
theorem fanJudge_stall_outcome (hheld : s.fansHeld = false) (hboot : s.fansBoot = false)
    (hfence : s.fanFenced f = false) : ∃ t, u.fanJudge f .stall ima dips = t ∧ t.fst f = 5 ∧
    t.get (FAN_STATUS_STALL_SEEN f) = 1 ∧ t.get (FAN_STATUS_FORCE f) = 6 ∧ t.get (FAN_STATUS_DUTY f) = 0 ∧
    t.get (FAN_STATS_STALLS f) = (s.get (FAN_STATS_STALLS f) + 1) % 256 ∧
    SameRegs [FAN_SPEED f, FAN_STATUS f, FAN_STATS f] s t ∧
    Logged portFan 0x4001 f ima (s.get (FAN_STATS_STALL_RETRIES f)) s t := by
  have hr : Room ((u.inc (FAN_STATS_STALLS f)).putB (FAN_STATUS_STALL_SEEN f) true) portFan :=
    hroom.of_log hlog hstep.pwr
  have hretries : u.get (FAN_STATS_STALL_RETRIES f) = s.get (FAN_STATS_STALL_RETRIES f) := hstep.get (by simp)
  have hstalls : u.get (FAN_STATS_STALLS f) = s.get (FAN_STATS_STALLS f) := hstep.get (by simp)
  have hbegun (n : Nat) := (((((hstep.trans (FanStep.refl [FAN_STATUS f, FAN_STATS f] u)).put
    (k := FAN_STATS_STALLS f) (u.get (FAN_STATS_STALLS f) + 1) (by simp)).put (k := FAN_STATUS_STALL_SEEN f) 1
    (by simp)).fev f 0x4001 ima n hr).setFan f _ : FanStep _ s (State.fanRunBegin _ f 1))
  refine ⟨_, State.fanJudge_stall hst, State.fanOffRun_fst .., ?_, ?_, State.fanOffRun_duty .., ?_, ?_, ?_⟩
  · rw [State.get_fanOffRun (by simp), State.fanRunBegin, State.get_setFan, State.get_fev hr]
    simp [State.get_putB_same]
  · exact State.fanOffRun_force ((hbegun _).fansHeld.trans hheld) ((hbegun _).fansBoot.trans hboot)
      (((hbegun _).fanFenced f).trans hfence) (.inl rfl)
  · rw [State.get_fanOffRun (by simp), State.fanRunBegin, State.get_setFan, State.get_fev hr]
    simp [State.get_putB_ne, State.get_inc_same, hstalls]
  · exact ((hbegun _).trans (State.fanOffRun_step _ f 5)).regs.mono (by simp)
  · rw [hretries]
    exact (logged_fev (u := (u.inc (FAN_STATS_STALLS f)).putB (FAN_STATUS_STALL_SEEN f) true) f 0x4001 ima _ hlog
      hr).of_log ((State.fanOffRun_log ..).trans (State.fanRunBegin_log ..))

end Outcome

theorem exec_fanWindowEnd_running (f : Fin 16) (ma : List Nat) (us : Nat) (s : State) :
    (s.fan f).window = true → s.fst f = 3 → (s.fan f).run = 0 → s.get (FAN_CFG_PPR f) ≠ 0 → (us = 120000 ∧
      2 ≤ (s.fan f).edges.length ∨ us < 120000 ∧ (s.fan f).edges.length = 4) →
      ∃ t, exec (.fanWindowEnd f ma us) s = .next t ∧ t.fst f = 3 ∧ (t.fan f).window = false ∧
      t.get (FAN_SPEED_CURRENT_MA f) = min (s.fanMean ma).1 65535 ∧ SameRegs [FAN_SPEED f] s t ∧ t.log = s.log := by
  intro hw hst hrun hppr hend
  have hlen : 2 ≤ (s.fan f).edges.length := by omega
  have hstep := s.fanJudged_step f (s.fan f).edges ma
  have hst' := (s.fanJudged_fst f (s.fan f).edges ma).trans hst
  rw [exec_fanWindowEnd_eq, State.fanWindowEnd_judges hw (hend.imp And.left id),
    State.fanVerdict_running (State.pprOf_ne_zero hppr) hlen, State.fanJudge_running hst']
  exact ⟨_, rfl, hst', s.fanJudged_window .., s.fanJudged_current .., hstep.regs, s.fanJudged_log ..⟩

theorem exec_fanWindowEnd_open (f : Fin 16) (ma : List Nat) (s : State) :
    (s.fan f).window = true → s.fst f = 3 → (s.fan f).run = 0 → (s.fan f).edges = [] →
      (meanCurrent ma).1 < 50 * (meanCurrent ma).2 → Room s portFan →
      ∃ t, exec (.fanWindowEnd f ma 120000) s = .next t ∧ t.fst f = 8 ∧ t.get (FAN_STATUS_OPEN_SEEN f) = 1 ∧
      SameRegs [FAN_SPEED f, FAN_STATUS f] s t ∧ Logged portFan 0x4005 f (s.fanMean ma).1 0 s t := by
  intro hw hst hrun he hm hroom
  rw [exec_fanWindowEnd_eq, State.fanWindowEnd_judges hw (.inl rfl), he, State.fanVerdict_open hm]
  obtain ⟨t, ht, hout⟩ := fanJudge_open_outcome (s.fanJudged_step f [] ma) (s.fanJudged_log f [] ma)
    ((s.fanJudged_fst f [] ma).trans hst) hroom
  exact ⟨t, congrArg _ ht, hout⟩

theorem exec_fanWindowEnd_tachLost (f : Fin 16) (ma : List Nat) (s : State) :
    (s.fan f).window = true → s.fst f = 3 → (s.fan f).run = 0 → (s.fan f).edges = [] → s.get (FAN_CFG_PPR f) ≠ 0 →
      50 * (meanCurrent ma).2 ≤ (meanCurrent ma).1 → 4 ≤ rippleDips ma → Room s portFan →
      ∃ t, exec (.fanWindowEnd f ma 120000) s = .next t ∧ t.fst f = 4 ∧ t.get (FAN_STATUS_TACH_LOST_SEEN f) = 1 ∧
      t.get (FAN_STATS_TACH_LOSSES f) = (s.get (FAN_STATS_TACH_LOSSES f) + 1) % 256 ∧
      SameRegs [FAN_SPEED f, FAN_STATUS f, FAN_STATS f] s t ∧
      Logged portFan 0x4003 f (s.fanMean ma).1 (rippleDips ma) s t := by
  intro hw hst hrun he hppr hm hd hroom
  rw [exec_fanWindowEnd_eq, State.fanWindowEnd_judges hw (.inl rfl), he, State.fanVerdict_tachLost (State.pprOf_ne_zero hppr) hm hd]
  obtain ⟨t, ht, hout⟩ := fanJudge_tachLost_outcome (s.fanJudged_step f [] ma) (s.fanJudged_log f [] ma)
    ((s.fanJudged_fst f [] ma).trans hst) hroom
  exact ⟨t, congrArg _ ht, hout⟩

theorem exec_fanWindowEnd_stall (f : Fin 16) (ma : List Nat) (s : State) :
    (s.fan f).window = true → s.fst f = 3 → (s.fan f).run = 0 → (s.fan f).edges = [] →
      50 * (meanCurrent ma).2 ≤ (meanCurrent ma).1 → rippleDips ma < 4 → s.fansHeld = false → s.fansBoot = false →
      s.fanFenced f = false → Room s portFan → ∃ t, exec (.fanWindowEnd f ma 120000) s = .next t ∧ t.fst f = 5 ∧
      t.get (FAN_STATUS_STALL_SEEN f) = 1 ∧ t.get (FAN_STATUS_FORCE f) = 6 ∧ t.get (FAN_STATUS_DUTY f) = 0 ∧
      t.get (FAN_STATS_STALLS f) = (s.get (FAN_STATS_STALLS f) + 1) % 256 ∧
      SameRegs [FAN_SPEED f, FAN_STATUS f, FAN_STATS f] s t ∧
      Logged portFan 0x4001 f (s.fanMean ma).1 (s.get (FAN_STATS_STALL_RETRIES f)) s t := by
  intro hw hst hrun he hm hd hheld hboot hfence hroom
  rw [exec_fanWindowEnd_eq, State.fanWindowEnd_judges hw (.inl rfl), he, State.fanVerdict_stall hm hd]
  obtain ⟨t, ht, hout⟩ := fanJudge_stall_outcome (s.fanJudged_step f [] ma) (s.fanJudged_log f [] ma)
    ((s.fanJudged_fst f [] ma).trans hst) hroom hheld hboot hfence
  exact ⟨t, congrArg _ ht, hout⟩

/-- Settles O8: the window's end shows its values (`fanJudged`), then the verdict of R380 applies. -/
theorem fanVerdicts : Obligations.FanVerdicts :=
  ⟨exec_fanWindowEnd_running, exec_fanWindowEnd_open, exec_fanWindowEnd_tachLost, exec_fanWindowEnd_stall⟩

namespace State

/-! ### Stall and short runs (R381, R383) -/

section Runs
variable {s : State} {f : Nat}

/-- The state in which a burst begins: the retry counted, the channel in BURST. -/
def fanBursting (s : State) (f : Nat) : State :=
  (((s.setFan f { s.fan f with retries := (s.fan f).retries + 1 }).inc (FAN_STATS_STALL_RETRIES f)).setFst f 6).fanForceShow f

theorem fanRetry_bursts (h : s.fst f = 5 ∨ s.fst f = 7) :
    s.fanRetry f = (s.fanBursting f).put (FAN_STATUS_DUTY f) ((s.fanBursting f).fanDrive f).2 := if_pos h

theorem fanBursting_step (s : State) (f : Nat) : FanStep [FAN_STATUS f, FAN_STATS f] s (s.fanBursting f) :=
  ((((FanStep.refl _ s).setFan f _).put _ (by simp)).put _ (by simp)).put _ (by simp)

theorem fanBursting_frame (s : State) (f : Nat) : FanFrame [FAN_STATUS f, FAN_STATS f] f s (s.fanBursting f) :=
  ((((FanFrame.refl ..).setFan _).put _ (by simp)).put _ (by simp)).put _ (by simp)

theorem fanBursting_fst (s : State) (f : Nat) : (s.fanBursting f).fst f = 6 := by
  simp [fanBursting, fst, fanForceShow, setFst, get_put_ne, get_put_same]

theorem fanBursting_retries (s : State) (f : Nat) :
    (s.fanBursting f).get (FAN_STATS_STALL_RETRIES f) = (s.get (FAN_STATS_STALL_RETRIES f) + 1) % 65536 := by
  simp [fanBursting, fanForceShow, setFst, get_put_ne, get_inc_same]

/-- Nothing of a higher row: a burst drives the fan at 100 %. -/
theorem fanDrive_burst (hh : s.fansHeld = false) (hb : s.fansBoot = false) (hf : s.fanFenced f = false)
    (hst : s.fst f = 6) : s.fanDrive f = (6, 255) := by
  simp [fanDrive, hh, hb, hf, hst, fStallOff, fShortOff, fBurst]

theorem fanBursting_force (hh : s.fansHeld = false) (hb : s.fansBoot = false) (hf : s.fanFenced f = false) :
    (s.fanBursting f).get (FAN_STATUS_FORCE f) = 6 := by
  set u := ((s.setFan f { s.fan f with retries := (s.fan f).retries + 1 }).inc (FAN_STATS_STALL_RETRIES f)).setFst f 6
    with hu
  have hstep : FanStep [FAN_STATUS f, FAN_STATS f] s u :=
    (((FanStep.refl _ s).setFan f _).put _ (by simp)).put _ (by simp)
  have hst : u.fst f = 6 := get_put_same _ _ _ (by simp)
  have hdrive := fanDrive_burst (hstep.fansHeld.trans hh) (hstep.fansBoot.trans hb) ((hstep.fanFenced f).trans hf) hst
  have hforce := u.fanForceShow_force f
  rw [hdrive] at hforce
  exact hforce

/-- The end of a run without settings that wait. -/
theorem fanRunEnd_idle (h : (s.fan f).table = []) :
    (s.fanRunEnd f) = s.setFan f { s.fan f with run := 0, retries := 0, table := [], reload := false } ∨
      ∃ x : Fan, x.run = 0 ∧ s.fanRunEnd f =
        (s.setFan f { s.fan f with run := 0, retries := 0, table := [], reload := false }).setFan f x := by
  by_cases hr : (s.fan f).reload = true
  · refine .inr ⟨{ s.fan f with run := 0, retries := 0, table := [], reload := false, integ := 0 }, rfl, ?_⟩
    simp [fanRunEnd, h, hr, fanLoopReset]
  · exact .inl (by simp [fanRunEnd, h, hr])

theorem fanRunEnd_step (l : List Nat) (h : (s.fan f).table = []) : FanStep l s (s.fanRunEnd f) := by
  rcases fanRunEnd_idle h with hend | ⟨x, -, hend⟩ <;> rw [hend]
  · exact (FanStep.refl _ s).setFan f _
  · exact ((FanStep.refl _ s).setFan f _).setFan f _

theorem fanRunEnd_log (h : (s.fan f).table = []) : (s.fanRunEnd f).log = s.log := by
  rcases fanRunEnd_idle h with hend | ⟨x, -, hend⟩ <;> rw [hend] <;> rfl

theorem fanRunEnd_run (h : (s.fan f).table = []) : ((s.fanRunEnd f).fan f).run = 0 := by
  rcases fanRunEnd_idle h with hend | ⟨x, hx, hend⟩ <;> rw [hend]
  · simp
  · simpa using hx

/-- While no override holds the fans, none starts: only the guard's record of them is renewed. -/
theorem overrides_none (h : s.on GUARD_STATUS_FANS_FORCED = false) : ∃ g, s.overrides = { s with guard := g } := by
  by_cases hup : s.cpUp = true
  · exact ⟨{ s.guard with fansOver := 0 }, by simp [overrides, h, hup]⟩
  · exact ⟨s.guard, by simp [overrides, hup]⟩

end Runs

end State

theorem exec_fanRetryExpire_eq (f : Fin 16) (s : State) : exec (.fanRetryExpire f) s = .next (s.fanRetry f) := rfl
theorem exec_fanBurstEnd_eq (f : Fin 16) (levels : List TachLevel) (ma : List Nat) (ms : Nat) (s : State) :
    exec (.fanBurstEnd f levels ma ms) s = .next (s.fanBurstEnd f levels ma ms).overrides := rfl
theorem exec_fanShort_eq (f : Fin 16) (s : State) : exec (.fanShort f) s = .next (s.fanShort f) := rfl

theorem exec_fanRetryExpire_off (f : Fin 16) (s : State) :
    (s.fst f = 5 ∨ s.fst f = 7) → s.fansHeld = false → s.fansBoot = false → s.fanFenced f = false →
      ∃ t, exec (.fanRetryExpire f) s = .next t ∧ t.fst f = 6 ∧ t.get (FAN_STATUS_FORCE f) = 6 ∧
      t.get (FAN_STATUS_DUTY f) = 255 ∧
      t.get (FAN_STATS_STALL_RETRIES f) = (s.get (FAN_STATS_STALL_RETRIES f) + 1) % 65536 ∧
      SameRegs [FAN_STATUS f, FAN_STATS f] s t ∧ { t with regs := s.regs, fans := s.fans } = s := by
  intro hst hheld hboot hfence
  have hstep := s.fanBursting_step f
  have hframe := s.fanBursting_frame f
  have hdrive := State.fanDrive_burst (hstep.fansHeld.trans hheld) (hstep.fansBoot.trans hboot)
    ((hstep.fanFenced f).trans hfence) (s.fanBursting_fst f)
  rw [exec_fanRetryExpire_eq, State.fanRetry_bursts hst, hdrive]
  refine ⟨_, rfl, ?_, ?_, State.get_put_same _ _ _ (by simp), ?_, (hframe.put _ (by simp)).regs,
    (hframe.put _ (by simp)).rest⟩
  · rw [State.fst, State.get_put_ne _ _ _ _ (by simp) (by simp)]
    exact s.fanBursting_fst f
  · rw [State.get_put_ne _ _ _ _ (by simp) (by simp), State.fanBursting_force hheld hboot hfence]
  · rw [State.get_put_ne _ _ _ _ (by simp) (by simp), State.fanBursting_retries]

/-- Overrides that none holds leave what a fan's registers and records show. -/
theorem overrides_outcome {l : List Nat} {s u : State} (h : u.on GUARD_STATUS_FANS_FORCED = false)
    (hregs : SameRegs l s u) : ∃ t, (.next u.overrides : Res) = .next t ∧ t.regs = u.regs ∧ t.fans = u.fans ∧
      t.log = u.log ∧ SameRegs l s t := by
  obtain ⟨g, hg⟩ := State.overrides_none h
  exact ⟨_, congrArg _ hg, rfl, rfl, rfl, hregs.of_regs rfl⟩

namespace State

/-- The state in which a burst is judged: its values shown. -/
def burstShown (s : State) (f : Nat) (levels : List TachLevel) (ma : List Nat) : State :=
  s.took.fanShow f (pprOf (s.reg (FAN_CFG f))) (acceptedEdges levels) (s.fanMean ma).1

section Burst
variable {s : State} {f : Nat} {levels : List TachLevel} {ma : List Nat}

theorem burstShown_step (s : State) (f : Nat) (levels : List TachLevel) (ma : List Nat) :
    FanStep [FAN_SPEED f] s (s.burstShown f levels ma) :=
  ((FanStep.refl [] s).took).trans (fanShow_step _ f _ _ _)

theorem burstShown_log (s : State) (f : Nat) (levels : List TachLevel) (ma : List Nat) :
    (s.burstShown f levels ma).log = s.log := fanShow_log s.took f _ _ _

/-- A burst without edges and ripple: the off time begins again (R381). -/
theorem fanBurstEnd_stall (hst : s.fst f = 6) (hm : 50 * (meanCurrent ma).2 ≤ (meanCurrent ma).1)
    (hd : rippleDips ma < 4) (hrun : (s.fan f).run = 1) :
    s.fanBurstEnd f [] ma 2000 =
      ((s.burstShown f [] ma).putB (FAN_STATUS_STALL_SEEN f) true).fanOffRun f 5 := by
  have hv : fanVerdict (pprOf (s.reg (FAN_CFG f))) (acceptedEdges []) ma = .stall := fanVerdict_stall hm hd
  simp only [fanBurstEnd, hst, fBurst, hv, hrun, ne_eq, not_true_eq_false, or_self, if_false, fStallOff]
  rfl

/-- A burst with edges ends the run, with record 0x4002 (R381). -/
theorem fanBurstEnd_edges (hst : s.fst f = 6) (hp : pprOf (s.reg (FAN_CFG f)) ≠ 0)
    (he : 2 ≤ (acceptedEdges levels).length) :
    ∃ v n, s.fanBurstEnd f levels ma 2000 = (State.setFst (fanRunEnd ((s.burstShown f levels ma).fev f 0x4002
      (s.fan f).retries ((s.optime - (s.fan f).runAt) / 1024)) f) f 3).fanJudge f (.running v) n (rippleDips ma) := by
  have hv := fanVerdict_running (ma := ma) hp he
  refine ⟨(fanSpeed (pprOf (s.reg (FAN_CFG f))) (acceptedEdges levels)).map (fun q => fofRat q.1 q.2),
    (s.fanMean ma).1, ?_⟩
  simp only [fanBurstEnd, hst, fBurst, hv, ne_eq, not_true_eq_false, or_self, if_false]
  rfl

end Burst

end State

theorem guardStatus_not_fan {f : Nat} (hf : f < 16) : GUARD_STATUS ∉ [FAN_SPEED f, FAN_STATUS f] := by
  simp [FAN_SPEED, FAN_STATUS, GUARD_STATUS]
  omega

/-- The off time that begins again after a burst. -/
theorem burst_off_outcome {s u : State} {f : Nat} (hstep : FanStep [FAN_SPEED f] s u) (hlog : u.log = s.log)
    (hforced : s.on GUARD_STATUS_FANS_FORCED = false) (hf : f < 16) :
    ∃ t, (.next ((u.putB (FAN_STATUS_STALL_SEEN f) true).fanOffRun f 5).overrides : Res) = .next t ∧ t.fst f = 5 ∧
      t.get (FAN_STATUS_DUTY f) = 0 ∧ SameRegs [FAN_SPEED f, FAN_STATUS f] s t ∧ t.log = s.log := by
  set v := u.putB (FAN_STATUS_STALL_SEEN f) true with hv
  have hvstep : FanStep [FAN_SPEED f, FAN_STATUS f] s v := (hstep.trans (FanStep.refl [FAN_STATUS f] u)).put _ (by simp)
  have hoff := hvstep.trans (v.fanOffRun_step f 5)
  have hon : (v.fanOffRun f 5).on GUARD_STATUS_FANS_FORCED = false := by
    rw [State.on, hoff.get (by simpa using guardStatus_not_fan hf), ← State.on, hforced]
  obtain ⟨t, ht, hregs, -, htlog, hsame⟩ := overrides_outcome hon hoff.regs
  refine ⟨t, ht, ?_, ?_, hsame.mono (by simp), htlog.trans hlog⟩
  · rw [State.fst, State.get_congr hregs]
    exact v.fanOffRun_fst f 5
  · rw [State.get_congr hregs]
    exact v.fanOffRun_duty f 5

theorem exec_fanBurstEnd_stall (f : Fin 16) (ma : List Nat) (s : State) :
    s.fst f = 6 → (s.fan f).run = 1 → 50 * (meanCurrent ma).2 ≤ (meanCurrent ma).1 → rippleDips ma < 4 →
      s.on GUARD_STATUS_FANS_FORCED = false → ∃ t, exec (.fanBurstEnd f [] ma 2000) s = .next t ∧ t.fst f = 5 ∧
      t.get (FAN_STATUS_DUTY f) = 0 ∧ SameRegs [FAN_SPEED f, FAN_STATUS f] s t ∧ t.log = s.log := by
  intro hst hrun hm hd hforced
  rw [exec_fanBurstEnd_eq, State.fanBurstEnd_stall hst hm hd hrun]
  exact burst_off_outcome (s.burstShown_step f [] ma) (s.burstShown_log f [] ma) hforced f.isLt

/-- The run that a burst with edges ends. -/
theorem burst_runs_outcome {s u : State} {f a b dips n : Nat} {v : Option F32} (hstep : FanStep [FAN_SPEED f] s u)
    (hlog : u.log = s.log) (hforced : s.on GUARD_STATUS_FANS_FORCED = false) (hf : f < 16)
    (htab : (u.fan f).table = []) (hroom : Room s portFan) :
    ∃ t, (.next ((State.setFst ((u.fev f 0x4002 a b).fanRunEnd f) f 3).fanJudge f (.running v) n dips).overrides : Res) =
        .next t ∧ t.fst f = 3 ∧ (t.fan f).run = 0 ∧ SameRegs [FAN_SPEED f, FAN_STATUS f] s t ∧
      Logged portFan 0x4002 f a b s t := by
  have hr : Room u portFan := hroom.of_log hlog hstep.pwr
  have hrec := hstep.fev f 0x4002 a b hr
  have htab' : ((u.fev f 0x4002 a b).fan f).table = [] := by
    rw [State.fan_fev]
    exact htab
  have hlogged := logged_fev f 0x4002 a b hlog hr
  generalize u.fev f 0x4002 a b = w at hrec htab' hlogged ⊢
  have hend := hrec.trans (State.fanRunEnd_step [FAN_STATUS f] htab')
  have hrunlog := State.fanRunEnd_log htab'
  have hrun := State.fanRunEnd_run htab'
  generalize w.fanRunEnd f = x at hend hrunlog hrun ⊢
  have hst : (x.setFst f 3).fst f = 3 := x.get_put_same _ _ (by simp)
  have hset : FanStep [FAN_SPEED f, FAN_STATUS f] s (x.setFst f 3) := hend.put _ (by simp)
  have hon : (x.setFst f 3).on GUARD_STATUS_FANS_FORCED = false := by
    rw [State.on, hset.get (guardStatus_not_fan hf), ← State.on, hforced]
  rw [State.fanJudge_running hst]
  obtain ⟨t, ht, hregs, hfans, htlog, hsame⟩ := overrides_outcome hon hset.regs
  refine ⟨t, ht, ?_, ?_, hsame, hlogged.of_log (htlog.trans hrunlog)⟩
  · rw [State.fst, State.get_congr hregs]
    exact hst
  · rw [State.fan_congr hfans]
    simpa [State.setFst] using hrun

theorem exec_fanBurstEnd_runs (f : Fin 16) (levels : List TachLevel) (ma : List Nat) (s : State) :
    s.fst f = 6 → (s.fan f).run ≠ 0 → s.get (FAN_CFG_PPR f) ≠ 0 → 2 ≤ (acceptedEdges levels).length →
      (s.fan f).table = [] → s.on GUARD_STATUS_FANS_FORCED = false → Room s portFan →
      ∃ t, exec (.fanBurstEnd f levels ma 2000) s = .next t ∧ t.fst f = 3 ∧ (t.fan f).run = 0 ∧
      SameRegs [FAN_SPEED f, FAN_STATUS f] s t ∧
      Logged portFan 0x4002 f (s.fan f).retries ((s.optime - (s.fan f).runAt) / 1024) s t := by
  intro hst hrun hppr hedges htab hforced hroom
  obtain ⟨v, n, hend⟩ := State.fanBurstEnd_edges (ma := ma) hst (State.pprOf_ne_zero hppr) hedges
  rw [exec_fanBurstEnd_eq, hend]
  refine burst_runs_outcome (s.burstShown_step f levels ma) (s.burstShown_log f levels ma) hforced f.isLt ?_ hroom
  exact (State.fanShow_fan s.took f _ _ _).2.1.trans htab

theorem State.fanShort_begins {s : State} {f : Nat} (h9 : s.fst f ≠ 9) (h5 : s.fst f ≠ 5) (h7 : s.fst f ≠ 7)
    (hfence : s.fanFenced f = false) (hrun : (s.fan f).run = 0) (hheld : s.fansHeld = false)
    (hboot : s.fansBoot = false) :
    s.fanShort f = (((s.putB (FAN_STATUS_SHORT_SEEN f) true).fanRunBegin f 2).fev f 0x4007 1).fanOffRun f 7 := by
  simp [fanShort, h9, h5, h7, hfence, hrun, hheld, hboot, fNoVfan, fStallOff, fShortOff]

theorem exec_fanShort_running (f : Fin 16) (s : State) :
    s.fst f ≠ 9 → s.fst f ≠ 5 → s.fst f ≠ 7 → s.fanFenced f = false → (s.fan f).run = 0 → s.fansHeld = false →
      s.fansBoot = false → Room s portFan → ∃ t, exec (.fanShort f) s = .next t ∧ t.fst f = 7 ∧
      t.get (FAN_STATUS_SHORT_SEEN f) = 1 ∧ t.get (FAN_STATUS_FORCE f) = 6 ∧ t.get (FAN_STATUS_DUTY f) = 0 ∧
      (t.fan f).run = 2 ∧ SameRegs [FAN_STATUS f] s t ∧ Logged portFan 0x4007 f 1 0 s t := by
  intro h9 h5 h7 hfence hrun hheld hboot hroom
  rw [exec_fanShort_eq, State.fanShort_begins h9 h5 h7 hfence hrun hheld hboot]
  set u := (s.putB (FAN_STATUS_SHORT_SEEN f) true).fanRunBegin f 2 with hu
  have hstep : FanStep [FAN_STATUS f] s u := ((FanStep.refl _ s).put _ (by simp)).setFan f _
  have hr : Room u portFan := hroom.of_log rfl rfl
  have hrec := hstep.fev f 0x4007 1 0 hr
  refine ⟨_, rfl, State.fanOffRun_fst .., ?_, ?_, State.fanOffRun_duty .., ?_, ?_, ?_⟩
  · rw [State.get_fanOffRun (by simp), State.get_fev hr]
    simp [hu, State.fanRunBegin, State.get_putB_same]
  · exact State.fanOffRun_force (hrec.fansHeld.trans hheld) (hrec.fansBoot.trans hboot)
      ((hrec.fanFenced f).trans hfence) (.inr rfl)
  · rw [State.fanOffRun_fan, State.fan_fev]
    simp [hu, State.fanRunBegin]
  · exact (hrec.trans (State.fanOffRun_step _ f 7)).regs.mono (by simp)
  · exact (logged_fev f 0x4007 1 0 rfl hr).of_log (State.fanOffRun_log ..)

/-- Settles O9: a burst and an off time are FAN_STATUS written in turn; the records stand before the switch goes off. -/
theorem fanRuns : Obligations.FanRuns :=
  ⟨exec_fanRetryExpire_off, exec_fanBurstEnd_stall, exec_fanBurstEnd_runs, exec_fanShort_running⟩

namespace State

/-! ### The temperature loop (R384, R385) -/

section Loop
variable {s : State} {f : Nat}

theorem fanStale_same {b : Bool} (h : s.on (FAN_STATUS_STALE f) = b) : s.fanStale f b = s := if_pos h

theorem fanStale_new (h : s.get (FAN_STATUS_STALE f) = 0) :
    s.fanStale f true = (s.putB (FAN_STATUS_STALE f) true).fev f 0x4008 (s.get (FAN_LOOP_ENTRY f)) 1 := by
  have hon : s.on (FAN_STATUS_STALE f) = false := by simp [on, h]
  simp [fanStale, hon]

theorem fanInputStale_off (h : s.get (FAN_CFG_MODE f) ≠ 1) : s.fanInputStale f = s := if_pos h
theorem fanTick_off (h : s.get (FAN_CFG_MODE f) ≠ 1) : s.fanTick f = s := if_pos h

theorem fanInputStale_on (h : s.get (FAN_CFG_MODE f) = 1) :
    s.fanInputStale f = (s.setFan f { s.fan f with
      vstale := true, vtime := s.estWord (s.get (FAN_LOOP_ENTRY f)) 2, duty := 0x3F800000 }).fanStale f true :=
  if_neg (not_not.mpr h)

/-- A tick on an input that is not usable, already shown stale (R385). -/
theorem fanTick_unusable (h : s.get (FAN_CFG_MODE f) = 1) (hst : s.get (FAN_STATUS_STALE f) = 1)
    (hu : entryUsable (s.estWord (s.get (FAN_LOOP_ENTRY f)) 0) (s.estWord (s.get (FAN_LOOP_ENTRY f)) 3) = false) :
    ∃ x : Fan, s.fanTick f = s.setFan f x ∧ x.duty = 0x3F800000 ∧ x.integ = (s.fan f).integ := by
  have hon : s.fanStale f true = s := fanStale_same (by simp [on, hst])
  simp only [fanTick, h, hu, hon, ne_eq, not_true_eq_false, if_false, Bool.not_false, Bool.or_true, if_true]
  refine ⟨_, rfl, ?_, ?_⟩ <;> rfl

/-- A tick on a usable input gives the clamped output of the PI law (R384). -/
theorem fanTick_usable (h : s.get (FAN_CFG_MODE f) = 1) (hst : s.get (FAN_STATUS_STALE f) = 0)
    (hv : (s.fan f).vstale = false) (hrev : s.on (FAN_CFG_REVERSE f) = false)
    (hu : entryUsable (s.estWord (s.get (FAN_LOOP_ENTRY f)) 0) (s.estWord (s.get (FAN_LOOP_ENTRY f)) 3) = true)
    (hnan : fIsNaN (fadd (fmul (s.reg (FAN_KP f)) (fsub (s.estWord (s.get (FAN_LOOP_ENTRY f)) 0) (s.reg (FAN_SP f))))
      (s.fan f).integ) = false) :
    ∃ (x : Fan) (n : Nat), s.fanTick f = (State.tookN s n).setFan f x ∧
      x.duty = fclamp 0 0x3F800000 (fadd (fmul (s.reg (FAN_KP f))
        (fsub (s.estWord (s.get (FAN_LOOP_ENTRY f)) 0) (s.reg (FAN_SP f)))) (s.fan f).integ) := by
  have hon : s.fanStale f false = s := fanStale_same (by simp [on, hst])
  have htook (c : Prop) [Decidable c] : (if c then s.tookN 2 else s) = s.tookN (if c then 2 else 0) := by
    split <;> rfl
  simp only [fanTick, h, hu, hv, hrev, hnan, hon, ne_eq, not_true_eq_false, if_false, Bool.not_true, Bool.or_false,
    Bool.false_and, Bool.false_or, Bool.false_eq_true, htook]
  refine ⟨_, _, rfl, ?_⟩
  rfl

end Loop

end State

theorem exec_fanInputStale_eq (f : Fin 16) (s : State) : exec (.fanInputStale f) s = .next (s.fanInputStale f) := rfl
theorem exec_fanLoopTick_eq (f : Fin 16) (s : State) : exec (.fanLoopTick f) s = .next (s.fanTick f) := rfl

theorem exec_fanInputStale_fresh (f : Fin 16) (s : State) :
    s.get (FAN_CFG_MODE f) = 1 → s.get (FAN_STATUS_STALE f) = 0 → Room s portFan →
      ∃ t, exec (.fanInputStale f) s = .next t ∧ (t.fan f).duty = 0x3F800000 ∧ (t.fan f).vstale = true ∧
      t.get (FAN_STATUS_STALE f) = 1 ∧ SameRegs [FAN_STATUS f] s t ∧
      Logged portFan 0x4008 f (s.get (FAN_LOOP_ENTRY f)) 1 s t := by
  intro hmode hst hroom
  rw [exec_fanInputStale_eq, State.fanInputStale_on hmode, State.fanStale_new (by rw [State.get_setFan, hst]),
    State.get_setFan]
  set u := (s.setFan f { s.fan f with
    vstale := true, vtime := s.estWord (s.get (FAN_LOOP_ENTRY f)) 2, duty := 0x3F800000 }).putB (FAN_STATUS_STALE f) true
    with hu
  have hstep : FanStep [FAN_STATUS f] s u := ((FanStep.refl _ s).setFan f _).put _ (by simp)
  have hr : Room u portFan := hroom.of_log rfl rfl
  have hfan : u.fan f = { s.fan f with
      vstale := true, vtime := s.estWord (s.get (FAN_LOOP_ENTRY f)) 2, duty := 0x3F800000 } := s.fan_setFan_same f _
  refine ⟨_, rfl, ?_, ?_, ?_, (hstep.fev f 0x4008 _ _ hr).regs, logged_fev f 0x4008 _ _ rfl hr⟩
  · rw [State.fan_fev, hfan]
  · rw [State.fan_fev, hfan]
  · rw [State.get_fev hr]
    exact State.get_putB_same _ _ _ (by simp)

theorem exec_fanLoopTick_unusable (f : Fin 16) (s : State) :
    s.get (FAN_CFG_MODE f) = 1 → s.get (FAN_STATUS_STALE f) = 1 →
      entryUsable (s.estWord (s.get (FAN_LOOP_ENTRY f)) 0) (s.estWord (s.get (FAN_LOOP_ENTRY f)) 3) = false →
      ∃ t, exec (.fanLoopTick f) s = .next t ∧ (t.fan f).duty = 0x3F800000 ∧ (t.fan f).integ = (s.fan f).integ ∧
      { t with fans := s.fans } = s := by
  intro hmode hst hu
  obtain ⟨x, htick, hduty, hinteg⟩ := State.fanTick_unusable hmode hst hu
  rw [exec_fanLoopTick_eq, htick]
  exact ⟨_, rfl, by rw [State.fan_setFan_same, hduty], by rw [State.fan_setFan_same, hinteg], rfl⟩

theorem exec_fanLoopTick_usable (f : Fin 16) (s : State) :
    s.get (FAN_CFG_MODE f) = 1 → s.get (FAN_STATUS_STALE f) = 0 → (s.fan f).vstale = false →
      s.on (FAN_CFG_REVERSE f) = false →
      entryUsable (s.estWord (s.get (FAN_LOOP_ENTRY f)) 0) (s.estWord (s.get (FAN_LOOP_ENTRY f)) 3) = true → fIsNaN
      (fadd (fmul (s.reg (FAN_KP f)) (fsub (s.estWord (s.get (FAN_LOOP_ENTRY f)) 0) (s.reg (FAN_SP f)))) (s.fan
      f).integ) = false → ∃ t, exec (.fanLoopTick f) s = .next t ∧ (t.fan f).duty = fclamp 0 0x3F800000 (fadd (fmul
      (s.reg (FAN_KP f)) (fsub (s.estWord (s.get (FAN_LOOP_ENTRY f)) 0) (s.reg (FAN_SP f)))) (s.fan f).integ) ∧
      { t with fans := s.fans, freeIdx := s.freeIdx } = s := by
  intro hmode hst hv hrev hu hnan
  obtain ⟨x, n, htick, hduty⟩ := State.fanTick_usable hmode hst hv hrev hu hnan
  rw [exec_fanLoopTick_eq, htick]
  exact ⟨_, rfl, by rw [State.fan_setFan_same, hduty], rfl⟩

/-- Settles O10: STALE already shown, a tick changes only the channel; else the input shows it with its record. -/
theorem fanLoop : Obligations.FanLoop :=
  ⟨exec_fanInputStale_fresh, exec_fanLoopTick_unusable, exec_fanLoopTick_usable, fun _ _ h =>
    ⟨congrArg _ (State.fanTick_off h), congrArg _ (State.fanInputStale_off h)⟩⟩

end Sys2Proof.Machine
end

section
/-! PROOFS. Site time (R155 to R171): PPS edges and NMEA sentences, the states of the time unit, PTP ports and PPS_OUT. -/

namespace Sys2Proof.Machine

open Reg

namespace State

/-- The state with another time unit. -/
def withTim (s : State) (x : TimeUnit) : State := { s with tim := x }

section WithTim
variable (s : State) (x : TimeUnit)

@[simp] theorem withTim_tim : (s.withTim x).tim = x := rfl
@[simp] theorem withTim_regs : (s.withTim x).regs = s.regs := rfl
@[simp] theorem withTim_log : (s.withTim x).log = s.log := rfl
@[simp] theorem withTim_pwr : (s.withTim x).pwr = s.pwr := rfl
@[simp] theorem get_withTim (f : Fld) : (s.withTim x).get f = s.get f := get_congr rfl f
@[simp] theorem on_withTim (f : Fld) : (s.withTim x).on f = s.on f := on_congr rfl f
@[simp] theorem reg_withTim (a : Nat) : (s.withTim x).reg a = s.reg a := reg_congr rfl a
@[simp] theorem tstate_withTim : (s.withTim x).tstate = s.tstate := get_withTim ..

end WithTim

@[simp] theorem sameRegs_withTim {l : List Nat} {s t : State} {x : TimeUnit} :
    SameRegs l s (t.withTim x) ↔ SameRegs l s t := sameRegs_congr rfl

theorem Room_withTim {s : State} {p : Nat} (h : Room s p) (x : TimeUnit) : Room (s.withTim x) p := h.of_log rfl rfl

theorem mpUp_of_isLoaded {s : State} (h : s.isLoaded = true) : s.mpUp = true := (Bool.and_eq_true_iff.mp h).1

/-! ### PPS edges (R157, R159) -/

section Pps
variable {s : State} {f : Bool} {a : Nat}

/-- Before the caddy has loaded edges and sentences are ignored, and nothing is sent. -/
theorem ppsEdge_not_loaded (h : s.isLoaded = false) : s.ppsEdge f a = s := by simp [ppsEdge, h]
theorem nmeaSentence_not_loaded {text : List Byte} (h : s.isLoaded = false) : s.nmeaSentence text a = s := by
  simp [nmeaSentence, h]
theorem gnssSetup_not_loaded (h : s.isLoaded = false) : s.gnssSetup = s := by simp [gnssSetup, h]

theorem ppsEdge_other_direction (h : s.on TIME_GNSS_CFG_PPS_FALLING = !f) : s.ppsEdge f a = s := by
  simp [ppsEdge, h]

/-- A valid edge is kept, and ends a run of seconds whose last edge had no label (R155, R157). -/
theorem ppsEdge_valid (hl : s.isLoaded = true) (hf : s.on TIME_GNSS_CFG_PPS_FALLING = f)
    (h : s.tim.edge = none ∨ ∃ p, s.tim.edge = some p ∧ p + 999800000 ≤ a - s.get TIME_GNSS_CFG_PPS_DELAY_NS ∧
      a - s.get TIME_GNSS_CFG_PPS_DELAY_NS ≤ p + 1000200000) :
    s.ppsEdge f a = (s.putB TIME_STATUS_PPS_OK true).withTim { s.tim with
      edge := some (a - s.get TIME_GNSS_CFG_PPS_DELAY_NS), edgeFresh := true
      validRun := if s.tim.edgeFresh then 0 else s.tim.validRun
      goodRun := if s.tim.edgeFresh then 0 else s.tim.goodRun } := by
  rcases h with he | ⟨p, he, hlo, hhi⟩
  · simp [ppsEdge, hl, hf, he, withTim]
  · have hgood := decide_eq_true (And.intro hlo hhi)
    simp only [ppsEdge, hl, hf, he, hgood, Bool.not_true, bne_self_eq_false, Bool.or_self, Bool.false_eq_true, if_false,
      if_true]
    rfl

theorem ppsEdge_late {p : Nat} (hl : s.isLoaded = true) (hf : s.on TIME_GNSS_CFG_PPS_FALLING = f)
    (he : s.tim.edge = some p) (h : p + 1000200000 < a - s.get TIME_GNSS_CFG_PPS_DELAY_NS) :
    s.ppsEdge f a = s.putB TIME_STATUS_PPS_OK false := by
  have hlate := decide_eq_false (p := p + 999800000 ≤ a - s.get TIME_GNSS_CFG_PPS_DELAY_NS ∧
      a - s.get TIME_GNSS_CFG_PPS_DELAY_NS ≤ p + 1000200000) (by omega)
  simp only [ppsEdge, hl, hf, he, hlate, Bool.not_true, bne_self_eq_false, Bool.or_self, Bool.false_eq_true, if_false]

end Pps

/-! ### Sentences (R158, R159) -/

section Nmea
variable {s : State} {text : List Byte} {day tod a e : Nat}

theorem nmeaSentence_ignored (h : nmeaOf text = .ignored) : s.nmeaSentence text a = s := by
  simp [nmeaSentence, h]

/-- A sentence that ends less than 10 ms or more than 900 ms after its edge is invalid. -/
theorem nmeaSentence_out_of_time (hl : s.isLoaded = true) (hn : nmeaOf text = .utc day tod) (he : s.tim.edge = some e)
    (h : a < e + 10000000 ∨ e + 900000000 < a) :
    s.nmeaSentence text a = s.nmeaBad := by
  have hout : ¬ (e + 10000000 ≤ a ∧ a ≤ e + 900000000) := by omega
  simp only [nmeaSentence, hl, hn, he, hout, decide_false, Bool.false_and, Bool.not_false, Bool.not_true,
    Bool.false_eq_true, if_false, if_true]

theorem nmeaBad_eq (s : State) : s.nmeaBad =
    (s.putB TIME_STATUS_MSG_OK false).withTim { s.tim with badMinute := s.tim.badMinute + 1 } := rfl

/-- Without a leap the next second follows, but at the end of a day (R158). -/
theorem nextTod_eq {p : Nat} (h : secOf p < 86399) (hleap : s.on TIME_UTC_LEAP59 = false) :
    s.nextTod p = (secOf p + 1) * 1000000000 + nsOf p := by
  have hne : ¬ (secOf p = 86399 ∧ s.on TIME_UTC_LEAP61 = true) := fun e => by omega
  have hle : ¬ 86399 ≤ secOf p := by omega
  have hleap' : ¬ (secOf p = 86398 ∧ s.on TIME_UTC_LEAP59 = true) := by simp [hleap]
  simp only [nextTod, if_neg hne, if_neg hleap', if_neg hle]

theorem nextTod_pred (h1 : 1000000000 ≤ tod) (h2 : tod < 86400000000000) (hleap : s.on TIME_UTC_LEAP59 = false) :
    s.nextTod (tod - 1000000000) = tod := by
  have hsec : secOf (tod - 1000000000) < 86399 := by rw [secOf]; omega
  rw [nextTod_eq hsec hleap, secOf, nsOf]
  omega

/-- A sentence in time and in order: the time of day is kept, and labels the edge if that has no label yet. -/
theorem nmeaSentence_valid (hl : s.isLoaded = true) (hn : nmeaOf text = .utc day tod) (he : s.tim.edge = some e)
    (hlo : e + 10000000 ≤ a) (hhi : a ≤ e + 900000000) (h1 : 1000000000 ≤ tod) (h2 : tod < 86400000000000)
    (hutc : s.tim.utc = none ∨ s.tim.utc = some (tod - 1000000000)) (hleap : s.on TIME_UTC_LEAP59 = false) :
    s.nmeaSentence text a =
      if s.tim.edgeFresh then
        ((s.putB TIME_STATUS_MSG_OK true).withTim { s.tim with utc := some tod, edgeFresh := false }).gnssSecond
          ((day * 86400000000000 + tod : Nat) + toSigned 16 (s.get TIME_UTC_OFFSET_S) * 1000000000 - e)
      else (s.putB TIME_STATUS_MSG_OK true).withTim { s.tim with utc := some tod } := by
  have hnext := nextTod_pred h1 h2 hleap
  have h0 : ¬ secOf tod = 0 := by unfold secOf; omega
  have h86400 : ¬ secOf tod = 86400 := by unfold secOf; omega
  have hin := decide_eq_true (And.intro hlo hhi)
  have hleap' : (decide (secOf tod ≠ 86400) || s.on TIME_UTC_LEAP61) = true := by simp [h86400]
  rcases hutc with hu | hu
  · simp only [nmeaSentence, hl, hn, he, hu, hin, hleap', h0, h86400, Bool.not_true, Bool.false_eq_true, if_false,
      Bool.and_self, decide_false, Bool.and_false]
    rfl
  · simp only [nmeaSentence, hl, hn, he, hu, hin, hleap', h0, h86400, hnext, Bool.not_true, Bool.false_eq_true, if_false,
      Bool.and_self, decide_false, Bool.and_false, decide_true]
    rfl

end Nmea

/-! ### The receiver (R159, R160) -/

section Receiver
variable {s : State}

theorem gnssMinute_none (h : s.tim.badMinute = 0) : s.gnssMinute = s := if_pos h

theorem gnssMinute_some (h : s.tim.badMinute ≠ 0) (hr : Room s portTime) :
    s.gnssMinute = (s.wrote portTime (record 0x9007 s.tim.badMinute 0 0 false)).withTim { s.tim with badMinute := 0 } := by
  rw [gnssMinute, if_neg h, ev_of_room hr]
  rfl

theorem gnssReset_due (hl : s.isLoaded = true) (hsrc : s.on TIME_CFG_SOURCE_GNSS = true) (hlow : s.tim.rstLow = false)
    (h : s.tim.lastRst = none ∨ ∃ p, s.tim.lastRst = some p ∧ p + 600 * 1024 ≤ s.optime) (hr : Room s portTime) :
    s.gnssReset = ((s.wrote portTime (record 0x9009 ((s.optime - s.tim.lastValid) / 1024) 0 0 false)).withTim
      { s.tim with rstLow := true, lastRst := some s.optime }).send (.pin "nGNSS_RST" false) := by
  rcases h with hp | ⟨p, hp, hle⟩
  · simp [gnssReset, hl, hsrc, hlow, hp, ev_of_room hr, withTim, wrote]
  · have hno : ¬ s.optime < p + 600 * 1024 := by omega
    simp [gnssReset, hl, hsrc, hlow, hp, hno, ev_of_room hr, withTim, wrote]

theorem gnssReset_recent {p : Nat} (hp : s.tim.lastRst = some p) (h : s.optime < p + 600 * 1024) : s.gnssReset = s := by
  simp [gnssReset, hp, h]

theorem gnssRelease_low (h : s.tim.rstLow = true) :
    s.gnssRelease = (s.withTim { s.tim with rstLow := false }).send (.pin "nGNSS_RST" true) := if_pos h

theorem gnssSetup_sends (hl : s.isLoaded = true) (h : s.tim.rstLow = false) : s.gnssSetup = s.send (.serial s.tim.setup) := by
  simp [gnssSetup, hl, h]

end Receiver

end State

theorem exec_ppsEdge_eq (f : Bool) (a : Nat) (s : State) : exec (.ppsEdge f a) s = .next (s.ppsEdge f a) := rfl
theorem exec_nmeaSentence_eq (text : List Byte) (a : Nat) (s : State) :
    exec (.nmeaSentence text a) s = .next (s.nmeaSentence text a) := rfl
theorem exec_gnssMinuteReport_eq (s : State) : exec .gnssMinuteReport s = .next s.gnssMinute := rfl
theorem exec_gnssReceiverReset_eq (s : State) : exec .gnssReceiverReset s = .next s.gnssReset := rfl
theorem exec_gnssResetRelease_eq (s : State) : exec .gnssResetRelease s = .next s.gnssRelease := rfl
theorem exec_gnssSetupSend_eq (s : State) : exec .gnssSetupSend s = .next s.gnssSetup := rfl

theorem exec_ppsEdge_valid (f : Bool) (at_ : Nat) (s : State) :
    s.isLoaded = true → s.on TIME_GNSS_CFG_PPS_FALLING = f → (s.tim.edge = none ∨
      ∃ p, s.tim.edge = some p ∧ p + 999800000 ≤ at_ - s.get TIME_GNSS_CFG_PPS_DELAY_NS ∧
        at_ - s.get TIME_GNSS_CFG_PPS_DELAY_NS ≤ p + 1000200000) →
    ∃ t, exec (.ppsEdge f at_) s = .next t ∧ t.get TIME_STATUS_PPS_OK = 1 ∧
      t.tim = { s.tim with
        edge := some (at_ - s.get TIME_GNSS_CFG_PPS_DELAY_NS), edgeFresh := true
        validRun := if s.tim.edgeFresh then 0 else s.tim.validRun, goodRun := if s.tim.edgeFresh then 0 else s.tim.goodRun } ∧
      SameRegs [TIME_STATUS] s t ∧ { t with regs := s.regs, tim := s.tim } = s := by
  intro hl hf he
  rw [exec_ppsEdge_eq, State.ppsEdge_valid hl hf he]
  exact ⟨_, rfl, by simp [State.get_putB_same], rfl, by simp, rfl⟩

theorem exec_ppsEdge_late (f : Bool) (at_ p : Nat) (s : State) :
    s.isLoaded = true → s.on TIME_GNSS_CFG_PPS_FALLING = f → s.tim.edge = some p →
    p + 1000200000 < at_ - s.get TIME_GNSS_CFG_PPS_DELAY_NS →
    ∃ t, exec (.ppsEdge f at_) s = .next t ∧ t.get TIME_STATUS_PPS_OK = 0 ∧ OnlyRegs [TIME_STATUS] s t := by
  intro hl hf he h
  rw [exec_ppsEdge_eq, State.ppsEdge_late hl hf he h]
  exact ⟨_, rfl, by simp [State.get_putB_same], (OnlyRegs.refl _ s).putB _ (by simp)⟩

theorem exec_nmeaSentence_out_of_time (text : List Byte) (day tod at_ e : Nat) (s : State) :
    s.isLoaded = true → nmeaOf text = .utc day tod →
    s.tim.edge = some e →
    (at_ < e + 10000000 ∨ e + 900000000 < at_) →
    ∃ t, exec (.nmeaSentence text at_) s = .next t ∧ t.get TIME_STATUS_MSG_OK = 0 ∧
      t.tim = { s.tim with badMinute := s.tim.badMinute + 1 } ∧ SameRegs [TIME_STATUS] s t ∧ t.log = s.log := by
  intro hl hn he h
  rw [exec_nmeaSentence_eq, State.nmeaSentence_out_of_time hl hn he h, State.nmeaBad_eq]
  exact ⟨_, rfl, by simp [State.get_putB_same], rfl, by simp, rfl⟩

theorem exec_nmeaSentence_labelled (text : List Byte) (day tod at_ e : Nat) (s : State) :
    s.isLoaded = true → nmeaOf text = .utc day tod →
    s.tim.edge = some e →
    e + 10000000 ≤ at_ → at_ ≤ e + 900000000 → 1000000000 ≤ tod → tod < 86400000000000 →
    (s.tim.utc = none ∨ s.tim.utc = some (tod - 1000000000)) →
    s.on TIME_UTC_LEAP59 = false → s.tim.edgeFresh = false →
    ∃ t, exec (.nmeaSentence text at_) s = .next t ∧ t.get TIME_STATUS_MSG_OK = 1 ∧ t.tim = { s.tim with utc := some tod } ∧
      SameRegs [TIME_STATUS] s t ∧ t.log = s.log := by
  intro hl hn he hlo hhi h1 h2 hutc hleap hfresh
  rw [exec_nmeaSentence_eq, State.nmeaSentence_valid hl hn he hlo hhi h1 h2 hutc hleap, hfresh]
  exact ⟨_, rfl, by simp [State.get_putB_same], by simp [hfresh], by simp, rfl⟩

theorem exec_gnssMinuteReport_some (s : State) :
    s.tim.badMinute ≠ 0 → Room s portTime →
    ∃ t, exec .gnssMinuteReport s = .next t ∧ t.tim = { s.tim with badMinute := 0 } ∧ t.regs = s.regs ∧
      Logged portTime 0x9007 s.tim.badMinute 0 0 s t := by
  intro h hr
  rw [exec_gnssMinuteReport_eq, State.gnssMinute_some h hr]
  exact ⟨_, rfl, rfl, rfl, rfl⟩

theorem exec_gnssReceiverReset_due (s : State) :
    s.isLoaded = true → s.on TIME_CFG_SOURCE_GNSS = true → s.tim.rstLow = false →
    (s.tim.lastRst = none ∨ ∃ p, s.tim.lastRst = some p ∧ p + 600 * 1024 ≤ s.optime) → Room s portTime →
    ∃ t, exec .gnssReceiverReset s = .next t ∧ t.tim = { s.tim with rstLow := true, lastRst := some s.optime } ∧
      t.out = .pin "nGNSS_RST" false :: s.out ∧ t.regs = s.regs ∧
      Logged portTime 0x9009 ((s.optime - s.tim.lastValid) / 1024) 0 0 s t := by
  intro hl hsrc hlow h hr
  rw [exec_gnssReceiverReset_eq, State.gnssReset_due hl hsrc hlow h hr]
  exact ⟨_, rfl, rfl, rfl, rfl, rfl⟩

theorem exec_gnssResetRelease_low (s : State) :
    s.tim.rstLow = true →
    ∃ t, exec .gnssResetRelease s = .next t ∧ t.tim = { s.tim with rstLow := false } ∧
      t.out = .pin "nGNSS_RST" true :: s.out ∧ { t with tim := s.tim, out := s.out } = s := by
  intro h
  rw [exec_gnssResetRelease_eq, State.gnssRelease_low h]
  exact ⟨_, rfl, rfl, rfl, rfl⟩

theorem exec_gnssSetupSend_sends (s : State) :
    s.isLoaded = true → s.tim.rstLow = false →
    ∃ t, exec .gnssSetupSend s = .next t ∧ t.out = .serial s.tim.setup :: s.out ∧ { t with out := s.out } = s := by
  intro hl h
  rw [exec_gnssSetupSend_eq, State.gnssSetup_sends hl h]
  exact ⟨_, rfl, rfl, rfl⟩

/-- Settles O32: an edge, a sentence and a receiver event are each one update of the time unit. -/
theorem gnssInput : Obligations.GnssInput := by
  unfold Obligations.GnssInput
  exact ⟨exec_ppsEdge_valid, exec_ppsEdge_late,
    fun _ _ _ _ h => ⟨congrArg _ (State.ppsEdge_not_loaded h), congrArg _ (State.nmeaSentence_not_loaded h),
      congrArg _ (State.gnssSetup_not_loaded h)⟩,
    fun _ _ _ h => congrArg _ (State.ppsEdge_other_direction h),
    fun _ _ _ h => congrArg _ (State.nmeaSentence_ignored h), exec_nmeaSentence_out_of_time, exec_nmeaSentence_labelled,
    exec_gnssMinuteReport_some, fun _ h => congrArg _ (State.gnssMinute_none h), exec_gnssReceiverReset_due,
    fun _ _ hp h => congrArg _ (State.gnssReset_recent hp h), exec_gnssResetRelease_low, exec_gnssSetupSend_sends⟩

namespace State

/-! ### PTP ports (R169, R170) -/

@[simp] theorem sameRegs_setPtp {l : List Nat} {s t : State} {n : Nat} {p : PtpPort} :
    SameRegs l s (t.setPtp n p) ↔ SameRegs l s t := sameRegs_congr rfl

section Ptp
variable {s : State} {n : Nat}

theorem ptp_passive (q a : Nat) (h : s.get (TIME_PTP_STATUS_PORT_STATE n) = 7) :
    s.ptpAnnounce n = s ∧ s.ptpSync n = s ∧ s.ptpDelayReq n q a = s := by
  simp [ptpAnnounce, ptpSync, ptpDelayReq, h, ptpPassive, ptpMaster]

theorem ptpAnnounce_master (hr : s.ptpRuns n = true) (h : s.get (TIME_PTP_STATUS_PORT_STATE n) = 6) :
    s.ptpAnnounce n = ((s.setPtp n { s.ptpPort n with annSeq := ((s.ptpPort n).annSeq + 1) % 65536 }).put
        (TIME_PTP_STATUS_PORT_STATE n) 6).send (.ptp { s.ptpMsg n 0xB (s.ptpPort n).annSeq with
      timescale := true, interval := 1
      body := s.get TIME_UTC_OFFSET_S :: s.get TIME_STATUS_TIME_SOURCE :: s.ptpDataset n }) := by
  simp [ptpAnnounce, hr, h, ptpPassive, ptpMaster]

theorem ptpSync_master (hr : s.ptpRuns n = true) (h : s.get (TIME_PTP_STATUS_PORT_STATE n) = 6) :
    s.ptpSync n = ((s.setPtp n { s.ptpPort n with syncSeq := ((s.ptpPort n).syncSeq + 1) % 65536 }).send
      (.ptp { s.ptpMsg n 0x0 (s.ptpPort n).syncSeq with twoStep := true })).send
      (.ptp { s.ptpMsg n 0x8 (s.ptpPort n).syncSeq with body := [secOf s.tim.site, nsOf s.tim.site] }) := by
  simp [ptpSync, hr, h, ptpMaster]

theorem ptpDelayReq_master (q a : Nat) (hr : s.ptpRuns n = true) (h : s.get (TIME_PTP_STATUS_PORT_STATE n) = 6) :
    s.ptpDelayReq n q a = (s.inc (TIME_PTP_STATUS_DELAY_RESP n)).send
      (.ptp { s.ptpMsg n 0x9 q with body := [secOf a, nsOf a] }) := by
  simp [ptpDelayReq, hr, h, ptpMaster]

theorem ptpForeign_better {d : Nat} {ds : List Nat} (hr : s.ptpRuns n = true)
    (hd : d = s.get (TIME_PTP_CFG_DOMAIN n)) (hl : lexLess ds (s.ptpDataset n) = true)
    (h : s.get (TIME_PTP_STATUS_PORT_STATE n) = 6) (hroom : Room s portTime) :
    s.ptpForeign n d ds = (s.put (TIME_PTP_STATUS_PORT_STATE n) 7).wrote portTime
      (record 0x9006 n (ds.getD 1 0) 0 false) := by
  simp [ptpForeign, hr, hd, hl, h, ptpPassive, ev_of_room (hroom.put _ _)]

theorem ptpTimeout_passive (h : s.get (TIME_PTP_STATUS_PORT_STATE n) = 7) :
    s.ptpTimeout n = s.put (TIME_PTP_STATUS_PORT_STATE n) 6 := if_pos h

end Ptp

/-! ### PPS_OUT (R165, R171) -/

section PpsOut
variable {s : State}

theorem ppsOut_rises (hl : s.isLoaded = true) (he : s.on TIME_CFG_PPS_OUT_EN = true) (h : s.tim.lastPps = none) :
    s.ppsOut = (s.withTim { s.tim with lastPps := some s.tim.mono, ppsHigh := true }).send (.pin "PPS_OUT" true) := by
  simp [ppsOut, hl, he, h, withTim]

theorem ppsOut_soon {m : Nat} (hm : s.tim.lastPps = some m) (h : s.tim.mono < m + 500000) : s.ppsOut = s := by
  simp [ppsOut, hm, h]

theorem ppsOut_off (h : s.get TIME_CFG_PPS_OUT_EN = 0 ∨ s.isLoaded = false) : s.ppsOut = s := by
  rcases h with h | h
  · simp [ppsOut, on, h]
  · simp [ppsOut, h]

end PpsOut

end State

theorem exec_ptpAnnounceSend_eq (n : Fin 2) (s : State) : exec (.ptpAnnounceSend n) s = .next (s.ptpAnnounce n) := rfl
theorem exec_ptpSyncSend_eq (n : Fin 2) (s : State) : exec (.ptpSyncSend n) s = .next (s.ptpSync n) := rfl
theorem exec_ptpDelayReq_eq (n : Fin 2) (q : BitVec 16) (a : Nat) (s : State) :
    exec (.ptpDelayReq n q a) s = .next (s.ptpDelayReq n q.toNat a) := rfl
theorem exec_ptpForeignAnnounce_eq (n : Fin 2) (d : BitVec 8) (ds : List Nat) (s : State) :
    exec (.ptpForeignAnnounce n d ds) s = .next (s.ptpForeign n d.toNat ds) := rfl
theorem exec_ptpAnnounceTimeout_eq (n : Fin 2) (s : State) :
    exec (.ptpAnnounceTimeout n) s = .next (s.ptpTimeout n) := rfl
theorem exec_ppsOutEdge_eq (s : State) : exec .ppsOutEdge s = .next s.ppsOut := rfl

theorem exec_ptpAnnounceSend_master (n : Fin 2) (s : State) :
    s.ptpRuns n = true → s.get (TIME_PTP_STATUS_PORT_STATE n) = 6 →
    ∃ t, exec (.ptpAnnounceSend n) s = .next t ∧ t.get (TIME_PTP_STATUS_PORT_STATE n) = 6 ∧
      t.out = .ptp {
        port := n, l2 := s.on (TIME_PTP_CFG_L2 n), domain := s.get (TIME_PTP_CFG_DOMAIN n), msgType := 0xB
        seq := (s.ptpPort n).annSeq, timescale := true, interval := 1
        body := s.get TIME_UTC_OFFSET_S :: s.get TIME_STATUS_TIME_SOURCE :: [s.get (TIME_PTP_CFG_PRIORITY1 n),
          s.get TIME_STATUS_CLOCK_CLASS, (if s.get TIME_STATUS_STATE = 2 then 0x21 else 0xFE), 0xFFFF,
          s.get (TIME_PTP_CFG_PRIORITY2 n), s.clockIdentity] } :: s.out ∧
      SameRegs [TIME_PTP_STATUS n] s t ∧ { t with regs := s.regs, out := s.out, tim := s.tim } = s := by
  intro hr h
  rw [exec_ptpAnnounceSend_eq, State.ptpAnnounce_master hr h]
  exact ⟨_, rfl, by simp [State.get_put_same], rfl, by simp, rfl⟩

theorem exec_ptpSyncSend_master (n : Fin 2) (s : State) :
    s.ptpRuns n = true → s.get (TIME_PTP_STATUS_PORT_STATE n) = 6 →
    ∃ t, exec (.ptpSyncSend n) s = .next t ∧
      t.out = .ptp {
        port := n, l2 := s.on (TIME_PTP_CFG_L2 n), domain := s.get (TIME_PTP_CFG_DOMAIN n), msgType := 8
        seq := (s.ptpPort n).syncSeq, body := [secOf s.tim.site, nsOf s.tim.site] } ::
        .ptp {
          port := n, l2 := s.on (TIME_PTP_CFG_L2 n), domain := s.get (TIME_PTP_CFG_DOMAIN n), msgType := 0
          seq := (s.ptpPort n).syncSeq, twoStep := true } :: s.out ∧
      { t with tim := s.tim, out := s.out } = s := by
  intro hr h
  rw [exec_ptpSyncSend_eq, State.ptpSync_master hr h]
  exact ⟨_, rfl, rfl, rfl⟩

theorem exec_ptpDelayReq_master (n : Fin 2) (q : BitVec 16) (at_ : Nat) (s : State) :
    s.ptpRuns n = true → s.get (TIME_PTP_STATUS_PORT_STATE n) = 6 →
    ∃ t, exec (.ptpDelayReq n q at_) s = .next t ∧
      t.out = .ptp {
        port := n, l2 := s.on (TIME_PTP_CFG_L2 n), domain := s.get (TIME_PTP_CFG_DOMAIN n), msgType := 9
        seq := q.toNat, body := [secOf at_, nsOf at_] } :: s.out ∧
      t.get (TIME_PTP_STATUS_DELAY_RESP n) = (s.get (TIME_PTP_STATUS_DELAY_RESP n) + 1) % 65536 ∧
      SameRegs [TIME_PTP_STATUS n] s t ∧ { t with regs := s.regs, out := s.out } = s := by
  intro hr h
  rw [exec_ptpDelayReq_eq, State.ptpDelayReq_master _ _ hr h]
  exact ⟨_, rfl, rfl, by simp [State.get_inc_same], by simp, rfl⟩

theorem exec_ptpForeignAnnounce_better (n : Fin 2) (d : BitVec 8) (ds : List Nat) (s : State) :
    s.ptpRuns n = true →
    d.toNat = s.get (TIME_PTP_CFG_DOMAIN n) → lexLess ds (s.ptpDataset n) = true →
    s.get (TIME_PTP_STATUS_PORT_STATE n) = 6 → Room s portTime →
    ∃ t, exec (.ptpForeignAnnounce n d ds) s = .next t ∧ t.get (TIME_PTP_STATUS_PORT_STATE n) = 7 ∧
      SameRegs [TIME_PTP_STATUS n] s t ∧ Logged portTime 0x9006 n (ds.getD 1 0) 0 s t := by
  intro hr hd hl h hroom
  rw [exec_ptpForeignAnnounce_eq, State.ptpForeign_better hr hd hl h hroom]
  exact ⟨_, rfl, by simp [State.get_put_same], by simp, rfl⟩

theorem exec_ptpAnnounceTimeout_passive (n : Fin 2) (s : State) :
    s.get (TIME_PTP_STATUS_PORT_STATE n) = 7 →
    ∃ t, exec (.ptpAnnounceTimeout n) s = .next t ∧ t.get (TIME_PTP_STATUS_PORT_STATE n) = 6 ∧
      OnlyRegs [TIME_PTP_STATUS n] s t := by
  intro h
  rw [exec_ptpAnnounceTimeout_eq, State.ptpTimeout_passive h]
  exact ⟨_, rfl, by simp [State.get_put_same], (OnlyRegs.refl _ s).put _ (by simp)⟩

theorem exec_ppsOutEdge_rises (s : State) :
    s.isLoaded = true → s.on TIME_CFG_PPS_OUT_EN = true → s.tim.lastPps = none →
    ∃ t, exec .ppsOutEdge s = .next t ∧ t.out = .pin "PPS_OUT" true :: s.out ∧
      t.tim = { s.tim with lastPps := some s.tim.mono, ppsHigh := true } ∧ { t with tim := s.tim, out := s.out } = s := by
  intro hl he h
  rw [exec_ppsOutEdge_eq, State.ppsOut_rises hl he h]
  exact ⟨_, rfl, rfl, rfl, rfl⟩

/-- Settles O35: each message of a port is one update and what is sent. -/
theorem ptpAndPps : Obligations.PtpAndPps := by
  unfold Obligations.PtpAndPps
  refine ⟨exec_ptpAnnounceSend_master, exec_ptpSyncSend_master, exec_ptpDelayReq_master, exec_ptpForeignAnnounce_better,
    fun n q a s h => ?_, exec_ptpAnnounceTimeout_passive, exec_ppsOutEdge_rises,
    fun _ _ hm h => congrArg _ (State.ppsOut_soon hm h), fun _ h => congrArg _ (State.ppsOut_off h)⟩
  obtain ⟨hann, hsync, hdelay⟩ := State.ptp_passive q.toNat a h
  exact ⟨congrArg _ hann, congrArg _ hsync, congrArg _ hdelay⟩

/-- clockClass and timeSource of a state that the time unit enters (R155). -/
def State.timeClass (s : State) (n : Nat) : Nat :=
  if n = tLocked then 6 else if n = tHoldover then 7 else if n = tAcquire ∧ s.tstate = tHoldover then 7 else 248
def State.timeSource (s : State) (n : Nat) : Nat :=
  if n = tFree then (if s.tim.hostSet then 0x60 else 0xA0)
  else if n = tAcquire then s.get TIME_STATUS_TIME_SOURCE else 0x20

/-- The time unit has changed to state `n`, with its time mark (R155, R168). -/
structure Entered (n : Nat) (s t : State) : Prop where
  state : t.get TIME_STATUS_STATE = n
  cls : t.get TIME_STATUS_CLOCK_CLASS = s.timeClass n
  src : t.get TIME_STATUS_TIME_SOURCE = s.timeSource n
  tim : t.tim = { s.tim with prev := if n = tAcquire then s.tstate else s.tim.prev, validRun := 0, goodRun := 0 }
  regs : SameRegs [TIME_STATUS] s t
  flags : ∀ k : Fld, k.addr = TIME_STATUS → 4 ≤ k.lo → k.hi < 16 → t.get k = s.get k
  mark : Logged portTime 0x9002 s.markSample.1 s.markSample.2 (n * 256 + s.timeClass n) s t

namespace State

/-! ### The states of the time unit (R155, R156, R162, R163) -/

section Enter
variable {s : State} {n : Nat}

theorem timeClass_lt (s : State) (n : Nat) : s.timeClass n < 256 := by
  unfold timeClass
  repeat' split
  all_goals decide

theorem timeSource_lt (s : State) (n : Nat) : s.timeSource n < 256 := by
  have hsrc : s.get TIME_STATUS_TIME_SOURCE < 256 := s.get_lt _
  unfold timeSource
  repeat' split
  · decide
  · decide
  · exact hsrc
  · decide

/-- The registers of a state entered, before its mark. -/
def timeShown (s : State) (n : Nat) : State :=
  (((s.put TIME_STATUS_STATE n).put TIME_STATUS_CLOCK_CLASS (s.timeClass n)).put TIME_STATUS_TIME_SOURCE
    (s.timeSource n)).withTim
    { s.tim with prev := if n = tAcquire then s.tstate else s.tim.prev, validRun := 0, goodRun := 0 }

theorem timeEnter_eq (hne : s.tstate ≠ n) : s.timeEnter n = (s.timeShown n).timeMark := if_neg hne

theorem timeShown_state (hn : n < 8) : (s.timeShown n).get TIME_STATUS_STATE = n := by
  simp [timeShown, get_put_ne, get_put_same, Nat.mod_eq_of_lt hn]

theorem timeShown_class : (s.timeShown n).get TIME_STATUS_CLOCK_CLASS = s.timeClass n := by
  simp [timeShown, get_put_ne, get_put_same, Nat.mod_eq_of_lt (s.timeClass_lt n)]

theorem timeShown_source : (s.timeShown n).get TIME_STATUS_TIME_SOURCE = s.timeSource n := by
  simp [timeShown, get_put_same, Nat.mod_eq_of_lt (s.timeSource_lt n)]

theorem timeShown_flags {k : Fld} (hlo : 4 ≤ k.lo) (hhi : k.hi < 16) : (s.timeShown n).get k = s.get k := by
  rw [timeShown, get_withTim, get_put_ne _ _ _ _ (by decide) (.inr (.inl hhi)),
    get_put_ne _ _ _ _ (by decide) (.inr (.inl (show k.hi < 24 by omega))),
    get_put_ne _ _ _ _ (by decide) (.inr (.inr (show 2 < k.lo by omega)))]

theorem timeShown_markSample (s : State) (n : Nat) : (s.timeShown n).markSample = s.markSample := rfl

theorem timeEnter_entered (hne : s.tstate ≠ n) (hn : n < 8) (hup : s.mpUp = true) (hr : Room s portTime) :
    Entered n s (s.timeEnter n) := by
  have hshown : Room (s.timeShown n) portTime := hr.of_log rfl rfl
  have hstate : (s.timeShown n).tstate = n := timeShown_state hn
  have hup' : (s.timeShown n).mpUp = true := hup
  have heq : s.timeEnter n = (s.timeShown n).wrote portTime
      (record 0x9002 s.markSample.1 s.markSample.2 (n * 256 + s.timeClass n) false) := by
    rw [timeEnter_eq hne, timeMark_up hup', ev_of_room hshown, timeShown_markSample, hstate, timeShown_class]
  rw [heq]
  refine ⟨?_, ?_, ?_, rfl, ?_, fun k _ hlo hhi => ?_, rfl⟩
  · rw [get_wrote, timeShown_state hn]
  · rw [get_wrote, timeShown_class]
  · rw [get_wrote, timeShown_source]
  · simp [timeShown]
  · rw [get_wrote, timeShown_flags hlo hhi]

end Enter

section Servo
variable (s : State) (off : Int)

/-- A slew leaves TIME_STATUS but SLEWING. -/
theorem get_slewBy_status {k : Fld} (hk : k.addr = TIME_STATUS) (h : k.hi < 7 ∨ 7 < k.lo) :
    (s.slewBy off).get k = s.get k :=
  (get_setTrim_ne _ _ (by rw [hk]; decide)).trans (get_putB_ne _ TIME_STATUS_SLEWING k _ (by decide) (.inr h))

theorem slewBy_log : (s.slewBy off).log = s.log := rfl
theorem slewBy_pwr : (s.slewBy off).pwr = s.pwr := rfl

/-- The servo sets the frequency part of the trim, of the time unit no more. -/
theorem servoTrim_tim : s.servoTrim.tim = { s.tim with freq := s.servoTrim.tim.freq, trims := s.servoTrim.tim.trims } := rfl
theorem servoTrim_log : s.servoTrim.log = s.log := rfl
theorem servoTrim_pwr : s.servoTrim.pwr = s.pwr := rfl
theorem get_servoTrim {k : Fld} (hk : k.addr ≠ TIME_SERVO) : s.servoTrim.get k = s.get k := get_setTrim_ne _ _ hk
theorem sameRegs_servoTrim : SameRegs [TIME_SERVO] s s.servoTrim := sameRegs_setTrim _ _

/-- The valid second noted: its offset, and its operating time. -/
theorem gnssStamp_tim : (s.gnssStamp off).tim = { s.tim with lastValid := s.optime } := rfl
theorem gnssStamp_log : (s.gnssStamp off).log = s.log := rfl
theorem gnssStamp_pwr : (s.gnssStamp off).pwr = s.pwr := rfl
theorem get_gnssStamp {k : Fld} (hk : k.addr ≠ TIME_SERVO) : (s.gnssStamp off).get k = s.get k :=
  (get_withTim (s.put TIME_SERVO_PHASE_ERR _) _ k).trans (get_put_ne _ _ _ _ (by decide) (.inl hk))
theorem sameRegs_gnssStamp : SameRegs [TIME_SERVO] s (s.gnssStamp off) :=
  ((SameRegs.refl _ s).put (f := TIME_SERVO_PHASE_ERR) _ (by simp)).of_regs rfl

/-- The time unit as GNSS is lost: the frequency part is the average of the trims (R156). -/
def heldServo (s : State) : State :=
  let q := trimSum (s.tim.mono - 60000000) s.tim.mono s.tim.trims
  let avg := if q.2 = 0 then toSigned 16 (s.get TIME_SERVO_TRIM)
    else q.1 / (q.2 : Int) + (if q.1 % (q.2 : Int) = 0 then 0 else ((s.free 1).toNat : Int))
  s.took.withTim { s.tim with freq := avg }

theorem servoHold_eq : s.servoHold = s.heldServo.slewBy 0 := rfl
theorem heldServo_tim : s.heldServo.tim = { s.tim with freq := s.heldServo.tim.freq } := rfl
theorem heldServo_regs : s.heldServo.regs = s.regs := rfl
theorem heldServo_log : s.heldServo.log = s.log := rfl
theorem heldServo_pwr : s.heldServo.pwr = s.pwr := rfl

/-- GNSS lost: the phase stops slewing. -/
theorem servoHold_tim : s.servoHold.tim = { s.tim with
    slew := 0, freq := s.heldServo.tim.freq, trims := s.servoHold.tim.trims } := by
  rw [servoHold_eq, slewBy_tim, heldServo_tim]
theorem servoHold_log : s.servoHold.log = s.log := by rw [servoHold_eq, slewBy_log, heldServo_log]
theorem servoHold_pwr : s.servoHold.pwr = s.pwr := by rw [servoHold_eq, slewBy_pwr, heldServo_pwr]
theorem get_servoHold_status {k : Fld} (hk : k.addr = TIME_STATUS) (h : k.hi < 7 ∨ 7 < k.lo) :
    s.servoHold.get k = s.get k := by
  rw [servoHold_eq, get_slewBy_status _ _ hk h, get_congr s.heldServo_regs]
theorem servoHold_slewing : s.servoHold.get TIME_STATUS_SLEWING = 0 := by
  rw [servoHold_eq, get_slewBy_slewing]
  rfl
theorem sameRegs_servoHold : SameRegs [TIME_STATUS, TIME_SERVO] s s.servoHold := by
  rw [servoHold_eq]
  exact ((SameRegs.refl _ s).of_regs s.heldServo_regs).next (sameRegs_slewBy _ _)

end Servo

theorem markSample_congr {s t : State} (h : t.tim.aon = s.tim.aon) : t.markSample = s.markSample := by
  rw [markSample, h, markSample]

/-- What follows the stamp of a valid second (R155). -/
def secondAt (a : State) (off : Int) : State :=
  if !a.on TIME_CFG_SOURCE_GNSS then a
  else if a.tstate = tFree ∨ a.tstate = tHoldover then
    let n := a.tim.validRun + 1
    if n < 3 then { a with tim := { a.tim with validRun := n } }
    else ((a.timeEnter tAcquire).offsetFound off).servoTrim
  else
    let b := (a.offsetFound off).servoTrim
    if b.tstate = tAcquire then
      let g := if off.natAbs < 100 then b.tim.goodRun + 1 else 0
      let c := { b with tim := { b.tim with goodRun := g } }
      if 60 ≤ g ∧ c.tim.step = none then
        let d := c.timeEnter tLocked
        { d with tim := { d.tim with locked1 := true } }
      else c
    else b

theorem gnssSecond_eq (s : State) (off : Int) : s.gnssSecond off = (s.gnssStamp off).secondAt off := rfl

section Second
variable {a : State} {off : Int} (hsrc : a.on TIME_CFG_SOURCE_GNSS = true) (hup : a.mpUp = true) (hr : Room a portTime)
include hsrc hup hr

/-- The third valid second in FREE: ACQUIRE, with an offset of 1 ms or more stepped (R155, R163). -/
theorem secondAt_acquires (hst : a.get TIME_STATUS_STATE = 0) (hrun : a.tim.validRun = 2) (hlock : a.tim.locked1 = false)
    (hoff : 1000000 ≤ off.natAbs) :
    Entered 1 a (a.timeEnter 1) ∧ a.secondAt off = ((a.timeEnter 1).stepDecide off).servoTrim := by
  have hstate : a.tstate = 0 := hst
  have henter : Entered 1 a (a.timeEnter 1) := timeEnter_entered (by rw [hstate]; decide) (by decide) hup hr
  have hlocked : (a.timeEnter 1).tim.locked1 = false := by rw [henter.tim, hlock]
  refine ⟨henter, ?_⟩
  have hoffset : (a.timeEnter 1).offsetFound off = (a.timeEnter 1).stepDecide off := by
    rw [offsetFound, if_pos ⟨hoff, by rw [hlocked]; rfl⟩]
  rw [secondAt, hsrc, if_neg (by decide), if_pos (.inl hstate), hrun]
  exact congrArg servoTrim hoffset

/-- A second within 100 ns in ACQUIRE that makes sixty of them: LOCKED (R155). -/
theorem secondAt_locks (hst : a.get TIME_STATUS_STATE = 1) (hrun : a.tim.goodRun = 59) (hstep : a.tim.step = none)
    (hoff : off.natAbs < 100) :
    ∃ c : State, c = (a.slewBy off).servoTrim.withTim { (a.slewBy off).servoTrim.tim with goodRun := 60 } ∧
      Entered 2 c (c.timeEnter 2) ∧
      a.secondAt off = (c.timeEnter 2).withTim { (c.timeEnter 2).tim with locked1 := true } := by
  have hstate : a.tstate = 1 := hst
  have hfree : ¬ (a.tstate = tFree ∨ a.tstate = tHoldover) := by rw [hstate]; decide
  have hoffset : a.offsetFound off = a.slewBy off := by
    rw [offsetFound, if_neg]
    omega
  have hbstate : (a.slewBy off).servoTrim.tstate = 1 :=
    (get_servoTrim _ (by decide)).trans ((get_slewBy_status _ off rfl (by simp)).trans hst)
  have hbrun : (a.slewBy off).servoTrim.tim.goodRun = 59 := by rw [servoTrim_tim, slewBy_tim, hrun]
  have hbstep : (a.slewBy off).servoTrim.tim.step = none := by rw [servoTrim_tim, slewBy_tim, hstep]
  have hbroom : Room (a.slewBy off).servoTrim portTime :=
    hr.of_log ((servoTrim_log _).trans (slewBy_log ..)) ((servoTrim_pwr _).trans (slewBy_pwr ..))
  have hbup : (a.slewBy off).servoTrim.mpUp = true := by rw [mpUp, servoTrim_pwr, slewBy_pwr]; exact hup
  have hsecond : a.secondAt off = (fun b : State => if b.tstate = tAcquire then
      let g := if off.natAbs < 100 then b.tim.goodRun + 1 else 0
      let c := b.withTim { b.tim with goodRun := g }
      if 60 ≤ g ∧ c.tim.step = none then (c.timeEnter tLocked).withTim { (c.timeEnter tLocked).tim with locked1 := true }
      else c
    else b) (a.slewBy off).servoTrim := by
    rw [secondAt, hsrc, if_neg (by decide), if_neg hfree, hoffset]
    rfl
  rw [hsecond]
  generalize (a.slewBy off).servoTrim = b at hbstate hbrun hbstep hbroom hbup ⊢
  have hcstate : (b.withTim { b.tim with goodRun := 60 }).tstate = 1 := by rw [tstate_withTim, hbstate]
  refine ⟨b.withTim { b.tim with goodRun := 60 }, rfl,
    timeEnter_entered (by rw [hcstate]; decide) (by decide) hbup (Room_withTim hbroom _), ?_⟩
  simp [hbstate, hbrun, hbstep, hoff, tAcquire, tLocked]

end Second

end State

theorem exec_gnssLost_eq (s : State) : exec .gnssLost s = .next s.gnssLost := rfl
theorem exec_holdoverExpire_eq (s : State) : exec .holdoverExpire s = .next s.holdoverExpire := rfl

/-- What ACQUIRE leaves of the second that reached it. -/
theorem acquired_outcome {a e : State} {off : Int} (he : Entered 1 a e) (hst : a.get TIME_STATUS_STATE = 0) :
    (e.stepDecide off).servoTrim.get TIME_STATUS_STATE = 1 ∧
      (e.stepDecide off).servoTrim.get TIME_STATUS_CLOCK_CLASS = 248 ∧
      (e.stepDecide off).servoTrim.tim.step.getD 0 * 1000000 + (e.stepDecide off).servoTrim.tim.slew = off ∧
      (e.stepDecide off).servoTrim.tim.slew.natAbs ≤ 500000 ∧ (e.stepDecide off).servoTrim.tim.site = a.tim.site ∧
      SameRegs [TIME_STATUS, TIME_SERVO] a (e.stepDecide off).servoTrim ∧
      Newest portTime 0x9002 a.markSample.1 a.markSample.2 (256 + 248) (e.stepDecide off).servoTrim := by
  have hclass : a.timeClass 1 = 248 := by
    have hstate : a.tstate = 0 := hst
    simp [State.timeClass, hstate, tLocked, tHoldover, tAcquire]
  have hget (k : Fld) (hk : k.addr = TIME_STATUS) (h : k.hi < 7 ∨ 7 < k.lo) :
      (e.stepDecide off).servoTrim.get k = e.get k :=
    (State.get_servoTrim _ (by rw [hk]; decide)).trans ((State.get_slewBy_status _ _ hk h).trans (State.get_congr rfl k))
  have hdsite : (e.stepDecide off).servoTrim.tim.site = e.tim.site := rfl
  have hdlog : (e.stepDecide off).servoTrim.log = e.log := rfl
  refine ⟨?_, ?_, e.stepDecide_offset off, e.stepDecide_slew_le off, ?_, ?_, ?_⟩
  · rw [hget _ rfl (by simp), he.state]
  · rw [hget _ rfl (by simp), he.cls, hclass]
  · rw [hdsite, he.tim]
  · have hdecide : SameRegs [TIME_STATUS, TIME_SERVO] e (e.stepDecide off) :=
      ((SameRegs.refl _ e).of_regs rfl).next (State.sameRegs_slewBy _ _)
    exact ((he.regs.trans hdecide).trans (e.stepDecide off).sameRegs_servoTrim).mono (by simp)
  · have hmark := he.mark.newest
    rw [hclass] at hmark
    rw [Newest, hdlog]
    exact hmark

/-- The state in which a labelled second is found: the sentence noted, the second stamped. -/
def State.secondNoted (s : State) (tod : Nat) (off : Int) : State :=
  ((s.putB TIME_STATUS_MSG_OK true).withTim { s.tim with utc := some tod, edgeFresh := false }).gnssStamp off

namespace State
variable (s : State) (tod : Nat) (off : Int)

theorem secondNoted_tim : ∃ n, (s.secondNoted tod off).tim =
    { s.tim with utc := some tod, edgeFresh := false, lastValid := n } := ⟨_, rfl⟩
theorem secondNoted_log : (s.secondNoted tod off).log = s.log := rfl
theorem secondNoted_pwr : (s.secondNoted tod off).pwr = s.pwr := rfl
theorem get_secondNoted {k : Fld} (hk : k.addr ≠ TIME_SERVO) (h : k.addr ≠ TIME_STATUS ∨ k.hi < 5 ∨ 5 < k.lo) :
    (s.secondNoted tod off).get k = s.get k := by
  rw [secondNoted, get_gnssStamp _ _ hk, get_withTim, get_putB_ne _ _ _ _ (by decide) h]
theorem sameRegs_secondNoted : SameRegs [TIME_STATUS, TIME_SERVO] s (s.secondNoted tod off) := by
  have hmsg : SameRegs [TIME_STATUS, TIME_SERVO] s
    ((s.putB TIME_STATUS_MSG_OK true).withTim { s.tim with utc := some tod, edgeFresh := false }) := by simp
  exact (hmsg.trans (sameRegs_gnssStamp _ off)).mono (by simp)
end State

theorem exec_nmeaSentence_acquires (text : List Byte) (day tod at_ e : Nat) (off : Int) (s : State) :
    s.isLoaded = true → nmeaOf text = .utc day tod →
    s.tim.edge = some e →
    e + 10000000 ≤ at_ → at_ ≤ e + 900000000 → 1000000000 ≤ tod → tod < 86400000000000 →
    (s.tim.utc = none ∨ s.tim.utc = some (tod - 1000000000)) →
    s.on TIME_UTC_LEAP59 = false → s.tim.edgeFresh = true → s.on TIME_CFG_SOURCE_GNSS = true →
    s.get TIME_STATUS_STATE = 0 → s.tim.validRun = 2 → s.tim.locked1 = false → 1000000 ≤ off.natAbs →
    off = (day * 86400000000000 + tod : Nat) + toSigned 16 (s.get TIME_UTC_OFFSET_S) * 1000000000 - e → Room s portTime →
    ∃ t, exec (.nmeaSentence text at_) s = .next t ∧ t.get TIME_STATUS_STATE = 1 ∧ t.get TIME_STATUS_CLOCK_CLASS = 248 ∧
      t.tim.step.getD 0 * 1000000 + t.tim.slew = off ∧ t.tim.slew.natAbs ≤ 500000 ∧ t.tim.site = s.tim.site ∧
      SameRegs [TIME_STATUS, TIME_SERVO] s t ∧ Newest portTime 0x9002 (secOf s.tim.aon % 2 ^ 32)
        (nsOf s.tim.aon / 1000000 * 2 ^ 16 + secOf s.tim.aon / 2 ^ 32 % 2 ^ 16) (256 + 248) t := by
  intro hl hn he hlo hhi h1 h2 hutc hleap hfresh hsrc hst hrun hlock hoff hoffeq hr
  rw [exec_nmeaSentence_eq, State.nmeaSentence_valid hl hn he hlo hhi h1 h2 hutc hleap, hfresh, if_pos rfl, ← hoffeq,
    State.gnssSecond_eq, ← State.secondNoted]
  obtain ⟨m, htim⟩ := s.secondNoted_tim tod off
  have hust : (s.secondNoted tod off).get TIME_STATUS_STATE = 0 :=
    (s.get_secondNoted tod off (by decide) (by simp)).trans hst
  have husrc : (s.secondNoted tod off).on TIME_CFG_SOURCE_GNSS = true := by
    rw [State.on, s.get_secondNoted tod off (by decide) (by decide)]
    exact hsrc
  have huregs := s.sameRegs_secondNoted tod off
  have hur : Room (s.secondNoted tod off) portTime := hr.of_log (s.secondNoted_log ..) (s.secondNoted_pwr ..)
  have huup : (s.secondNoted tod off).mpUp = true := State.mpUp_of_isLoaded hl
  generalize s.secondNoted tod off = u at htim hust husrc huregs hur huup ⊢
  obtain ⟨henter, hsecond⟩ := State.secondAt_acquires (off := off) husrc huup hur hust (by rw [htim]; exact hrun)
    (by rw [htim]; exact hlock) hoff
  obtain ⟨hstate, hclass, hsum, hslew, hsite, hregs, hnew⟩ := acquired_outcome (off := off) henter hust
  rw [State.markSample_congr (s := s) (by rw [htim])] at hnew
  rw [hsecond]
  exact ⟨_, rfl, hstate, hclass, hsum, hslew, hsite.trans (by rw [htim]), huregs.next hregs, hnew⟩

theorem exec_nmeaSentence_locks (text : List Byte) (day tod at_ e : Nat) (off : Int) (s : State) :
    s.isLoaded = true → nmeaOf text = .utc day tod →
    s.tim.edge = some e →
    e + 10000000 ≤ at_ → at_ ≤ e + 900000000 → 1000000000 ≤ tod → tod < 86400000000000 →
    (s.tim.utc = none ∨ s.tim.utc = some (tod - 1000000000)) →
    s.on TIME_UTC_LEAP59 = false → s.tim.edgeFresh = true → s.on TIME_CFG_SOURCE_GNSS = true →
    s.get TIME_STATUS_STATE = 1 → s.tim.goodRun = 59 → s.tim.step = none → off.natAbs < 100 →
    off = (day * 86400000000000 + tod : Nat) + toSigned 16 (s.get TIME_UTC_OFFSET_S) * 1000000000 - e → Room s portTime →
    ∃ t, exec (.nmeaSentence text at_) s = .next t ∧ t.get TIME_STATUS_STATE = 2 ∧ t.get TIME_STATUS_CLOCK_CLASS = 6 ∧
      t.get TIME_STATUS_TIME_SOURCE = 0x20 ∧ t.tim.locked1 = true ∧ t.tim.slew = off ∧
      SameRegs [TIME_STATUS, TIME_SERVO] s t ∧ Newest portTime 0x9002 (secOf s.tim.aon % 2 ^ 32)
        (nsOf s.tim.aon / 1000000 * 2 ^ 16 + secOf s.tim.aon / 2 ^ 32 % 2 ^ 16) (512 + 6) t := by
  intro hl hn he hlo hhi h1 h2 hutc hleap hfresh hsrc hst hrun hstep hoff hoffeq hr
  rw [exec_nmeaSentence_eq, State.nmeaSentence_valid hl hn he hlo hhi h1 h2 hutc hleap, hfresh, if_pos rfl, ← hoffeq,
    State.gnssSecond_eq, ← State.secondNoted]
  obtain ⟨m, htim⟩ := s.secondNoted_tim tod off
  have hust : (s.secondNoted tod off).get TIME_STATUS_STATE = 1 :=
    (s.get_secondNoted tod off (by decide) (by simp)).trans hst
  have husrc : (s.secondNoted tod off).on TIME_CFG_SOURCE_GNSS = true := by
    rw [State.on, s.get_secondNoted tod off (by decide) (by decide)]
    exact hsrc
  have huregs := s.sameRegs_secondNoted tod off
  have hur : Room (s.secondNoted tod off) portTime := hr.of_log (s.secondNoted_log ..) (s.secondNoted_pwr ..)
  have huup : (s.secondNoted tod off).mpUp = true := State.mpUp_of_isLoaded hl
  generalize s.secondNoted tod off = u at htim hust husrc huregs hur huup ⊢
  obtain ⟨c, hc, henter, hsecond⟩ := State.secondAt_locks (off := off) husrc huup hur hust (by rw [htim]; exact hrun)
    (by rw [htim]; exact hstep) hoff
  have hctim : c.tim = { (u.slewBy off).servoTrim.tim with goodRun := 60 } := by rw [hc, State.withTim_tim]
  have hcsame : SameRegs [TIME_STATUS, TIME_SERVO] s c := by
    rw [hc, State.sameRegs_withTim]
    exact ((huregs.trans (u.sameRegs_slewBy off)).trans (u.slewBy off).sameRegs_servoTrim).mono (by simp)
  have hmark : c.markSample = s.markSample :=
    State.markSample_congr (by rw [hctim, State.servoTrim_tim, State.slewBy_tim, htim])
  have hslew : (c.timeEnter 2).tim.slew = off := by
    rw [henter.tim, hctim, State.servoTrim_tim, State.slewBy_tim]
  have hnew := henter.mark.newest
  rw [hmark] at hnew
  have hregs := (hcsame.trans henter.regs).mono (m := [TIME_STATUS, TIME_SERVO]) (by simp)
  have hstate := henter.state
  have hclass : (c.timeEnter 2).get TIME_STATUS_CLOCK_CLASS = 6 := henter.cls
  have hsource : (c.timeEnter 2).get TIME_STATUS_TIME_SOURCE = 0x20 := henter.src
  rw [hsecond]
  generalize c.timeEnter 2 = d at hslew hnew hregs hstate hclass hsource ⊢
  refine ⟨_, rfl, ?_, ?_, ?_, rfl, hslew, by simpa using hregs, hnew⟩
  · rw [State.get_withTim, hstate]
  · rw [State.get_withTim, hclass]
  · rw [State.get_withTim, hsource]

theorem exec_gnssLost_locked (s : State) :
    s.mpUp = true → s.get TIME_STATUS_STATE = 2 → Room s portTime →
    ∃ t, exec .gnssLost s = .next t ∧ t.get TIME_STATUS_STATE = 3 ∧ t.get TIME_STATUS_CLOCK_CLASS = 7 ∧
      t.get TIME_STATUS_PPS_OK = 0 ∧ t.get TIME_STATUS_MSG_OK = 0 ∧ t.tim.edge = none ∧ t.tim.utc = none ∧
      t.tim.slew = 0 ∧ t.get TIME_STATUS_SLEWING = 0 ∧ SameRegs [TIME_STATUS, TIME_SERVO] s t ∧ Newest portTime 0x9002 (secOf s.tim.aon % 2 ^ 32)
        (nsOf s.tim.aon / 1000000 * 2 ^ 16 + secOf s.tim.aon / 2 ^ 32 % 2 ^ 16) (768 + 7) t := by
  intro hup hst hr
  set a := ((s.putB TIME_STATUS_PPS_OK false).putB TIME_STATUS_MSG_OK false).withTim
    { s.tim with edge := none, utc := none, edgeFresh := false, validRun := 0 } with ha
  have hastate : a.tstate = 2 := by simp [ha, State.tstate, State.get_putB_ne, hst]
  have hpps : a.get TIME_STATUS_PPS_OK = 0 := by simp [ha, State.get_putB_ne, State.get_putB_same]
  have hmsg : a.get TIME_STATUS_MSG_OK = 0 := by simp [ha, State.get_putB_same]
  have haregs : SameRegs [TIME_STATUS, TIME_SERVO] s a := by simp [ha]
  have hlost : s.gnssLost = a.servoHold.timeEnter 3 := by
    have hne : ¬ a.tstate = tAcquire := by rw [hastate]; decide
    exact (if_neg hne).trans (if_pos hastate)
  have hatim : a.tim.edge = none ∧ a.tim.utc = none ∧ a.tim.aon = s.tim.aon := ⟨rfl, rfl, rfl⟩
  have har : Room a portTime := hr.of_log rfl rfl
  have haup : a.mpUp = true := hup
  rw [exec_gnssLost_eq, hlost]
  clear_value a
  have hhstate : a.servoHold.tstate = 2 := (a.get_servoHold_status rfl (by simp)).trans hastate
  have henter : Entered 3 a.servoHold (a.servoHold.timeEnter 3) :=
    State.timeEnter_entered (by rw [hhstate]; decide) (by decide) (by rw [State.mpUp, a.servoHold_pwr]; exact haup)
      (har.of_log a.servoHold_log a.servoHold_pwr)
  have htim := henter.tim
  have hmark : a.servoHold.markSample = s.markSample :=
    State.markSample_congr (by rw [a.servoHold_tim]; exact hatim.2.2)
  have hnew := henter.mark.newest
  rw [hmark] at hnew
  refine ⟨_, rfl, henter.state, henter.cls, ?_, ?_, ?_, ?_, ?_, ?_, ?_, hnew⟩
  · rw [henter.flags _ rfl (by simp) (by simp), a.get_servoHold_status rfl (by simp), hpps]
  · rw [henter.flags _ rfl (by simp) (by simp), a.get_servoHold_status rfl (by simp), hmsg]
  · rw [htim, a.servoHold_tim, hatim.1]
  · rw [htim, a.servoHold_tim, hatim.2.1]
  · rw [htim, a.servoHold_tim]
  · rw [henter.flags _ rfl (by simp) (by simp), a.servoHold_slewing]
  · exact ((haregs.trans a.sameRegs_servoHold).trans henter.regs).mono (by simp)

theorem exec_holdoverExpire_holdover (s : State) :
    s.mpUp = true → s.get TIME_STATUS_STATE = 3 → Room s portTime →
    ∃ t, exec .holdoverExpire s = .next t ∧ t.get TIME_STATUS_STATE = 0 ∧ t.get TIME_STATUS_CLOCK_CLASS = 248 ∧
      t.get TIME_STATUS_TIME_SOURCE = (if s.tim.hostSet then 0x60 else 0xA0) ∧ SameRegs [TIME_STATUS] s t ∧
      Newest portTime 0x9002 (secOf s.tim.aon % 2 ^ 32)
        (nsOf s.tim.aon / 1000000 * 2 ^ 16 + secOf s.tim.aon / 2 ^ 32 % 2 ^ 16) 248 t := by
  intro hup hst hr
  have hfree : s.holdoverExpire = s.timeEnter 0 := if_pos hst
  have henter : Entered 0 s (s.timeEnter 0) :=
    State.timeEnter_entered (by rw [State.tstate, hst]; decide) (by decide) hup hr
  rw [exec_holdoverExpire_eq, hfree]
  refine ⟨_, rfl, henter.state, ?_, ?_, henter.regs, henter.mark.newest⟩
  · rw [henter.cls]
    rfl
  · rw [henter.src]
    rfl

/-- Settles O33: each change of state is `State.timeEnter` (`Entered`) after what its cause does to the servo. -/
theorem timeStates : Obligations.TimeStates :=
  ⟨exec_nmeaSentence_acquires, exec_nmeaSentence_locks, exec_gnssLost_locked, exec_holdoverExpire_holdover,
    fun _ h => congrArg _ (if_neg h)⟩

end Sys2Proof.Machine
end

section
/-! PROOFS. The leats and the register fabric (R23 to R32, R93, R106 to R110): captures, reads and writes that reach
their register, wait or violate, and the cases in which the leats do less than their statements say. -/

namespace Sys2Proof.Machine

open Reg

/-! ### The estimate tick and the leats -/

/-- A module that runs, with its caddy loaded. -/
def running : State := { State.reset with
  pwr := { State.reset.pwr with rstCp := false, rstDp := false, rstMp := false, railsReady := true, rstOut := true }
  caddy := { State.reset.caddy with phase := 3 } }

/-- A running module with an actuation word whose value the sensor map passes through to entry 5. -/
def passState : State := { running with smap := { running.smap with
  acts := [0], pubs := [{ entry := 5, kind := 0, body := 0, arg0 := 0x20000000, qty := 0, firm := false }] } }

theorem passState_up : passState.mpUp = true ∧ passState.dpUp = true ∧ passState.guard.halted = false := by
  decide +kernel

/-- The swap of the actuation banks publishes the value that passes through, in the epoch that begins. -/
theorem passState_written : passState.estTick.est.written = [5] := by decide +kernel

/-- Refutes O11: a value of the actuation table that passes through to an entry (R36, R271) is published in the tick
itself, so an entry is already marked written when the tick ends. -/
theorem not_leatTick : ¬ Obligations.LeatTick := by
  rintro ⟨hswap, -⟩
  obtain ⟨hmp, hdp, hhalt⟩ := passState_up
  obtain ⟨t, ht, -, hwritten, -⟩ := hswap passState hmp hdp hhalt
  have hnext : exec .estimateTick passState = .next passState.estTick := rfl
  cases hnext.symm.trans ht
  exact absurd (passState_written.symm.trans hwritten) (List.cons_ne_nil _ _)

/-- A read of PWR_CLK_STATUS. -/
def statusRead : LeatReq := { requester := 1, addr := PWR_CLK_STATUS, txn := 5, idx := 0 }

/-- A module that loads its caddy while a read of the always-on block waits on the control arm. -/
def loadingState : State := { running with
  caddy := { running.caddy with phase := 1 }
  fab := { running.fab with ctl := [statusRead] } }

theorem loadingState_waits : loadingState.mpUp = true ∧ loadingState.armWaits false = false ∧
    loadingState.arm false = [statusRead] ∧ loadingState.fab.held = [] ∧
    loadingState.inReset (planeOf PWR_CLK_STATUS) = false ∧ mapped PWR_CLK_STATUS = true ∧
    latchMembers PWR_CLK_STATUS = [] ∧ loadingState.captured 1 PWR_CLK_STATUS = none := by
  decide +kernel

theorem loadingState_deliver : (loadingState.deliver false).arm false = [statusRead] := by decide +kernel

/-- Refutes O12: during a load of the caddy the arms deliver nothing (R93), so the front request stays. -/
theorem not_leatService : ¬ Obligations.LeatService := by
  rintro ⟨hdeliver, -⟩
  obtain ⟨hmp, hwaits, harm, hheld, hreset, hmapped, hlatch, hcap⟩ := loadingState_waits
  obtain ⟨t, ht, hrest, -⟩ := hdeliver false loadingState 1 PWR_CLK_STATUS 5 0 [] hmp hwaits harm hheld hreset hmapped
    hlatch hcap
  have hnext : exec (.setpointRequestDeliver false) loadingState = .next (loadingState.deliver false) := rfl
  cases hnext.symm.trans ht
  exact absurd (loadingState_deliver.symm.trans hrest) (List.cons_ne_nil _ _)

/-! ### Captures (R110) -/

/-- The entry of a table at a key, if it has one. -/
def tfind {α : Type} (t : List (Nat × α)) (k : Nat) : Option α := (t.find? (fun p => p.1 = k)).map (fun p => p.2)

section Find
variable {α : Type} {t : List (Nat × α)} {j k : Nat} {v : α}

theorem tfind_cons (p : Nat × α) : tfind (p :: t) k = if p.1 = k then some p.2 else tfind t k := by
  by_cases h : p.1 = k <;> simp [tfind, h]

theorem tfind_terase_ne (h : j ≠ k) : tfind (terase t k) j = tfind t j := by
  induction t with
  | nil => rfl
  | cons p t ih =>
    by_cases hp : p.1 = k
    · have hj : p.1 ≠ j := fun e => h (e.symm.trans hp)
      rw [tfind_cons, if_neg hj, ← ih]
      simp [terase, hp]
    · have hcons : terase (p :: t) k = p :: terase t k := by simp [terase, hp]
      rw [hcons, tfind_cons, tfind_cons, ih]

theorem tfind_tinsert_same (h : ∀ p ∈ t, p.1 ≠ k) : tfind (tinsert t k v) k = some v := by
  induction t with
  | nil => simp [tinsert, tfind_cons]
  | cons p t ih =>
    rw [tinsert]
    split
    · simp [tfind_cons]
    · rw [tfind_cons, if_neg (h p (List.mem_cons_self ..)), ih (fun q hq => h q (List.mem_cons_of_mem _ hq))]

theorem tfind_tinsert_ne (h : j ≠ k) : tfind (tinsert t k v) j = tfind t j := by
  induction t with
  | nil => simp [tinsert, tfind_cons, Ne.symm h]
  | cons p t ih =>
    rw [tinsert]
    split
    · rw [tfind_cons, if_neg (Ne.symm h)]
    · rw [tfind_cons, tfind_cons, ih]

/-- A table that takes one entry for each key of a list holds them all. -/
theorem tfind_foldl_tinsert (key : Nat → Nat) (f : Nat → α) (hinj : ∀ a b, key a = key b → a = b) (l : List Nat)
    (t : List (Nat × α)) (m : Nat) (h : m ∈ l ∨ tfind t (key m) = some (f m)) :
    tfind (l.foldl (fun c a => tinsert (terase c (key a)) (key a) (f a)) t) (key m) = some (f m) := by
  induction l generalizing t with
  | nil => simpa using h
  | cons a l ih =>
    rw [List.foldl_cons]
    apply ih
    by_cases hm : m = a
    · rw [hm]
      exact .inr (tfind_tinsert_same fun p hp => mem_terase_ne hp)
    · have hne : key m ≠ key a := fun e => hm (hinj _ _ e)
      refine (h.imp (fun hl => ?_) fun ht => ?_)
      · exact (List.mem_cons.mp hl).resolve_left hm
      · rw [tfind_tinsert_ne hne, tfind_terase_ne hne, ht]

end Find

theorem capKey_inj (req a b : Nat) (h : capKey req a = capKey req b) : a = b := by
  simpa [capKey] using h

namespace State

section Fabric
variable {s : State} {req a : Nat} {v : Word}

theorem captured_eq (s : State) (req a : Nat) : s.captured req a = tfind s.fab.caps (capKey req a) := rfl

theorem captured_capture {l : List Nat} (h : a ∈ l) : (s.capture req l).captured req a = some (s.look req a) :=
  tfind_foldl_tinsert (capKey req) (s.look req) (capKey_inj req) l s.fab.caps a (.inl h)

/-- With nothing before it a read is answered at once. -/
theorem readVia_now (hl : s.loading = false) (hw : s.waitsBehind a = false) :
    s.readVia req a = (s.readAt req a).2.send (.reply req (s.readAt req a).1) := by
  simp [readVia, hl, hw]

theorem readAt_group (hup : s.mpUp = true) (hm : mapped a = true) (hr : s.inReset (planeOf a) = false)
    (hl : latchMembers a ≠ []) : s.readAt req a = (s.look req a, s.capture req (latchMembers a)) := by
  obtain ⟨m, l, hml⟩ := List.exists_cons_of_ne_nil hl
  simp [readAt, hup, hm, hr, hml]

theorem readAt_captured {w : Word} (hup : s.mpUp = true) (hm : mapped a = true) (hr : s.inReset (planeOf a) = false)
    (hl : latchMembers a = []) (hc : s.captured req a = some w) : s.readAt req a = (w, s) := by
  simp [readAt, hup, hm, hr, hl, hc]

theorem readAt_unmapped (hup : s.mpUp = true) (hm : mapped a = false) :
    s.readAt req a = (0, s.inc SYS_VIOL_COUNT_TOTAL) := by
  simp [readAt, hup, hm]

/-- A write that nothing holds off and that is a violation counts, and does no more. -/
theorem writeAt_violation (hup : s.mpUp = true) (hl : s.loading = false ∨ req = 2) (hw : s.waitsBehind a = false)
    (hok : s.writeOk req a v = false) : s.writeAt req a v = s.violate req := by
  have hload : (s.mpUp && s.loading && decide (req ≠ 2)) = false := by
    rcases hl with h | h <;> simp [h]
  simp only [writeAt, hload, hw, writeNow]
  simp [writeCore, hup, hok]

theorem get_violate_loader (s : State) (req : Nat) : (s.violate req).get SYS_VIOL_COUNT_LOADER =
    if req = 2 then (s.get SYS_VIOL_COUNT_LOADER + 1) % 65536 else s.get SYS_VIOL_COUNT_LOADER := by
  have hinc : (s.inc SYS_VIOL_COUNT_TOTAL).get SYS_VIOL_COUNT_LOADER = s.get SYS_VIOL_COUNT_LOADER :=
    get_inc_ne s SYS_VIOL_COUNT_TOTAL SYS_VIOL_COUNT_LOADER (by decide) (by decide)
  unfold violate
  split
  case isTrue => exact (get_inc_same _ SYS_VIOL_COUNT_LOADER (by decide)).trans (by rw [hinc]; rfl)
  case isFalse => exact hinc

/-- An accepted write of a register with no effects is stored. -/
theorem writeAt_stored {r : RegRow} (h : Writes s req a v) (hrow : rowOf a = some r) (ht : a ∉ tableRegs)
    (ha : a ≠ CADDY_SWAP_CMD) (he : ∀ (u : State) (old : Word), u.effect req a old v = u) :
    s.writeAt req a v = s.setReg a (r.after (s.reg a) v) := by
  obtain ⟨hup, hl, hw, hok⟩ := h
  have hstore : s.store a v = s.setReg a (r.after (s.reg a) v) := by simp [store, hrow, ht]
  simp [writeAt_now hl hw ha, writeCore, hup, hok, he, hstore]

theorem writeAt_behind (hup : s.mpUp = true) (hl : s.loading = false) (hw : s.waitsBehind a = true) :
    s.writeAt req a v = s.enqueue { requester := req, addr := a, val := some v } := by
  simp [writeAt, hup, hl, hw]

theorem writeAt_held (hup : s.mpUp = true) (hl : s.loading = true) (hreq : req ≠ 2) : s.writeAt req a v =
    { s with fab := { s.fab with held := s.fab.held ++ [{ requester := req, addr := a, val := some v }] } } := by
  rw [writeAt, hup, hl, if_pos (by simpa using hreq)]

end Fabric

end State

theorem exec_latchGroupRead_eq (req a : Nat) (s : State) : exec (.latchGroupRead req a) s = .next (s.readVia req a) := rfl
theorem exec_registerWrite_eq (req a : Nat) (v : Word) (s : State) :
    exec (.registerWrite req a v) s = .next (s.writeAt req a v) := rfl

theorem exec_latchGroupRead_group (req a : Nat) (s : State) :
    s.mpUp = true → mapped a = true → s.inReset (planeOf a) = false → latchMembers a ≠ [] → s.loading = false → s.waitsBehind a = false →
    ∃ t, exec (.latchGroupRead req a) s = .next t ∧ t.out = .reply req (s.look req a) :: s.out ∧
      (∀ m ∈ latchMembers a, t.captured req m = some (s.look req m)) ∧ { t with fab := s.fab, out := s.out } = s := by
  intro hup hm hr hl hload hw
  rw [exec_latchGroupRead_eq, State.readVia_now hload hw, State.readAt_group hup hm hr hl]
  exact ⟨_, rfl, rfl, fun m h => State.captured_capture h, rfl⟩

theorem exec_latchGroupRead_captured (req a : Nat) (w : Word) (s : State) :
    s.mpUp = true → mapped a = true → s.inReset (planeOf a) = false →
    latchMembers a = [] → s.captured req a = some w → s.loading = false → s.waitsBehind a = false →
    ∃ t, exec (.latchGroupRead req a) s = .next t ∧ t.out = .reply req w :: s.out ∧ { t with out := s.out } = s := by
  intro hup hm hr hl hc hload hw
  rw [exec_latchGroupRead_eq, State.readVia_now hload hw, State.readAt_captured hup hm hr hl hc]
  exact ⟨_, rfl, rfl, rfl⟩

theorem exec_latchGroupRead_unmapped (req a : Nat) (s : State) :
    s.mpUp = true → mapped a = false → s.loading = false → s.waitsBehind a = false →
    ∃ t, exec (.latchGroupRead req a) s = .next t ∧ t.out = .reply req 0 :: s.out ∧
      t.get SYS_VIOL_COUNT_TOTAL = (s.get SYS_VIOL_COUNT_TOTAL + 1) % 65536 ∧ SameRegs [SYS_VIOL_COUNT] s t ∧
      { t with regs := s.regs, out := s.out } = s := by
  intro hup hm hload hw
  rw [exec_latchGroupRead_eq, State.readVia_now hload hw, State.readAt_unmapped hup hm]
  exact ⟨_, rfl, rfl, State.get_inc_same _ _ (by decide), by simp, rfl⟩

theorem exec_registerWrite_stored (req a : Nat) (v : Word) (r : RegRow) (s : State) :
    Writes s req a v → rowOf a = some r → a ∉ tableRegs →
    a ≠ CADDY_SWAP_CMD → (∀ (u : State) (old : Word), u.effect req a old v = u) →
    ∃ t, exec (.registerWrite req a v) s = .next t ∧ t.reg a = r.after (s.reg a) v ∧ OnlyRegs [a] s t := by
  intro h hrow ht ha he
  rw [exec_registerWrite_eq, State.writeAt_stored h hrow ht ha he]
  exact ⟨_, rfl, State.reg_setReg_same .., (OnlyRegs.refl _ s).setReg _ (by simp)⟩

/-- Settles O13: a read answers at once what `State.readAt` gives; a write is stored, waits, is held or violates. -/
theorem fabricAccess : Obligations.FabricAccess := by
  refine ⟨exec_latchGroupRead_group, exec_latchGroupRead_captured, exec_latchGroupRead_unmapped,
    exec_registerWrite_stored, ?_, ?_, ?_⟩
  · intro req a v s hup hl hw
    rw [exec_registerWrite_eq, State.writeAt_behind hup hl hw]
  · intro req a v s hup hl hreq
    rw [exec_registerWrite_eq, State.writeAt_held hup hl hreq]
    exact ⟨_, rfl, rfl, rfl⟩
  · intro req a v s hup hl hw hok
    rw [exec_registerWrite_eq, State.writeAt_violation hup hl hw hok]
    exact ⟨_, rfl, s.get_violate_total req, s.get_violate_loader req, s.onlyRegs_violate req⟩

end Sys2Proof.Machine
end

section
/-! PROOFS. Supplies, clocks and resets (R54 to R64, R74 to R79): a reset of the planes as what it leaves, and the
statements about the supply monitor, the resets, the clocks and the rails. -/

namespace Sys2Proof.Machine

open Reg

namespace State

/-! ### The power block's own state -/

/-- The state with another power block. -/
def withPwr (s : State) (x : Power) : State := { s with pwr := x }

section WithPwr
variable (s : State) (x : Power)

@[simp] theorem withPwr_pwr : (s.withPwr x).pwr = x := rfl
@[simp] theorem withPwr_regs : (s.withPwr x).regs = s.regs := rfl
@[simp] theorem withPwr_log : (s.withPwr x).log = s.log := rfl
theorem withPwr_frame : { s.withPwr x with pwr := s.pwr } = s := rfl
@[simp] theorem withPwr_guard : (s.withPwr x).guard = s.guard := rfl
@[simp] theorem get_withPwr (f : Fld) : (s.withPwr x).get f = s.get f := get_congr rfl f
@[simp] theorem on_withPwr (f : Fld) : (s.withPwr x).on f = s.on f := on_congr rfl f
@[simp] theorem reg_withPwr (a : Nat) : (s.withPwr x).reg a = s.reg a := reg_congr rfl a

end WithPwr

@[simp] theorem sameRegs_withPwr {l : List Nat} {s t : State} {x : Power} :
    SameRegs l s (t.withPwr x) ↔ SameRegs l s t := sameRegs_congr rfl

/-- What each step of a run leaves, the run leaves. -/
theorem each_keeps {α β : Type} (p : State → β) {f : State → α → State} (h : ∀ t a, p (f t a) = p t) (l : List α)
    (s : State) : p (s.each l f) = p s := by
  induction l generalizing s with
  | nil => rfl
  | cons a l ih => exact (ih (f s a)).trans (h s a)

/-! ### A reset of the planes (R22, R77) -/

/-- All of a state but the trace, the stress counters and the count of free values. -/
def allButPanelLight (s : State) : State := { s with out := [], stress := {}, freeIdx := 0 }

theorem litRows_keeps (s : State) (n : Nat) : (s.litRows n).allButPanelLight = s.allButPanelLight :=
  (each_keeps (f := stressPixel) allButPanelLight (fun _ _ => rfl) _ _).trans
    (each_keeps (f := fun t y => t.send (.drive 0 y (s.scanVals y))) allButPanelLight (fun _ _ => rfl) _ _)

theorem darken_keeps (s : State) : s.darken.allButPanelLight = s.allButPanelLight := by
  unfold darken
  split
  · exact litRows_keeps ..
  · rfl

theorem drivePins_keeps {β : Type} (p : State → β) (h : ∀ (t : State) o, p (t.send o) = p t) (s : State) :
    p s.drivePins = p s := each_keeps p (fun _ _ => h _ _) _ _

/-- A sluice that PFAIL started and that is cut leaves the sluice-done state (R498). -/
def doneAfter (s : State) : Bool := s.pwr.sluiceDone || (match s.pwr.sluice with
  | some q => !q.cmd
  | none => false)

/-- The power block after a reset of the planes. -/
def heldPwr (s : State) : Power := { s.pwr with
  rstCp := true, rstDp := true, rstMp := true, sluice := none, sluiceDone := s.doneAfter, safe := false, rstOut := false
  refLeft := false }

/-- The registers that a reset of the planes writes after it has cleared those of the planes. -/
def resetShown (s : State) (set done : Bool) (cause : Nat) : State :=
  let v := ((s.putB PWR_STATUS_SLUICE_ACTIVE false).putB PWR_CLK_STATUS_PLL_LOCK false).putB DISP_STATUS_VF0_SET set
  if done then v else v.put PWR_RESET_CAUSE_CAUSE cause

theorem planesReset_eq (s : State) (cause : Nat) : s.planesReset cause =
    (fun w : State => if s.on DISP_CFG_PRESENT then w.send .discharge else w)
      ((s.darken.planesClear.withPwr { s.darken.planesClear.pwr with
          rstCp := true, rstDp := true, rstMp := true, sluice := none, sluiceDone := s.doneAfter, safe := false,
          rstOut := false, refLeft := false }).resetShown (s.on DISP_STATUS_VF0_SET) s.doneAfter cause).drivePins := rfl

section PlanesReset
variable (s : State) (set done : Bool) (cause : Nat)

theorem resetShown_rest {β : Type} (p : State → β) (h : ∀ (t : State) a w, p (t.setReg a w) = p t) :
    p (s.resetShown set done cause) = p s := by
  unfold resetShown
  cases done
  · exact (h ..).trans ((h ..).trans ((h ..).trans (h ..)))
  · exact (h ..).trans ((h ..).trans (h ..))

/-- What neither a message nor a register shows of a reset of the planes. -/
theorem planesReset_rest {β : Type} (p : State → β) (hsend : ∀ (t : State) o, p (t.send o) = p t)
    (hreg : ∀ (t : State) a w, p (t.setReg a w) = p t) : p (s.planesReset cause) =
    p (s.darken.planesClear.withPwr { s.darken.planesClear.pwr with
        rstCp := true, rstDp := true, rstMp := true, sluice := none, sluiceDone := s.doneAfter, safe := false,
        rstOut := false, refLeft := false }) := by
  have hdischarge (w : State) : p (if s.on DISP_CFG_PRESENT then w.send .discharge else w) = p w := by
    split
    · exact hsend ..
    · rfl
  rw [planesReset_eq]
  exact (hdischarge _).trans ((drivePins_keeps p hsend _).trans (resetShown_rest _ _ _ _ p hreg))

theorem darken_of {β : Type} (p : State → β) (h : ∀ t : State, p t = p t.allButPanelLight) : p s.darken = p s := by
  rw [h s.darken, darken_keeps, ← h]

theorem planesReset_pwr : (s.planesReset cause).pwr = s.heldPwr := by
  have hpwr : s.darken.pwr = s.pwr := s.darken_of State.pwr (fun _ => rfl)
  rw [planesReset_rest s cause State.pwr (fun _ _ => rfl) (fun _ _ _ => rfl), withPwr_pwr, heldPwr, ← hpwr]
  rfl

theorem planesReset_held : (s.planesReset cause).planesHeld = true := by
  rw [planesHeld, planesReset_pwr]
  rfl

theorem planesReset_log : (s.planesReset cause).log = s.log.afterReset :=
  (planesReset_rest s cause State.log (fun _ _ => rfl) (fun _ _ _ => rfl)).trans
    (congrArg Recorder.afterReset (s.darken_of State.log (fun _ => rfl)))

theorem planesReset_guard : (s.planesReset cause).guard = s.guard :=
  (planesReset_rest s cause State.guard (fun _ _ => rfl) (fun _ _ _ => rfl)).trans
    (s.darken_of State.guard (fun _ => rfl))

/-- The registers of a reset of the planes: the kept ones, then those that show it. -/
theorem planesReset_regs : (s.planesReset cause).regs =
    (s.planesClear.resetShown (s.on DISP_STATUS_VF0_SET) s.doneAfter cause).regs := by
  have hdischarge (w : State) : (if s.on DISP_CFG_PRESENT then w.send .discharge else w).regs = w.regs := by
    split <;> rfl
  have hshown (t u : State) (d : Bool) (h : t.regs = u.regs) :
      (t.resetShown (s.on DISP_STATUS_VF0_SET) d cause).regs =
        (u.resetShown (s.on DISP_STATUS_VF0_SET) d cause).regs := by
    unfold resetShown
    cases d <;> simp [put, putB, setReg, reg, h]
  rw [planesReset_eq]
  refine (hdischarge _).trans ((drivePins_keeps State.regs (fun _ _ => rfl) _).trans (hshown _ _ _ ?_))
  exact congrArg (tkeep regKept) (s.darken_of State.regs (fun _ => rfl))

theorem reg_planesClear (a : Nat) (h : planeOf a = .aon) : s.planesClear.reg a = s.reg a := by
  have hk : regKept a = true := by simp [regKept, h]
  exact (tget_tkeep ..).trans (if_pos hk)

/-- A field of the always-on block that a reset of the planes does not write. -/
theorem get_planesReset {k : Fld} (h : planeOf k.addr = .aon)
    (hact : k.addr ≠ PWR_STATUS ∨ k.hi < 3 ∨ 3 < k.lo) (hpll : k.addr ≠ PWR_CLK_STATUS ∨ 0 < k.lo)
    (hcause : k.addr ≠ PWR_RESET_CAUSE) : (s.planesReset cause).get k = s.get k := by
  have hdisp : k.addr ≠ DISP_STATUS := fun e => absurd h (by rw [e]; decide)
  have hclear : s.planesClear.get k = s.get k := by rw [State.get, State.get, reg_planesClear _ _ h]
  have hv (t : State) (b : Bool) : (((t.putB PWR_STATUS_SLUICE_ACTIVE false).putB PWR_CLK_STATUS_PLL_LOCK
      false).putB DISP_STATUS_VF0_SET b).get k = t.get k := by
    rw [get_putB_ne _ _ _ _ (by decide) (.inl hdisp), get_putB_ne _ _ _ _ (by decide) (hpll.imp_right .inr),
      get_putB_ne _ _ _ _ (by decide) hact]
  rw [get_congr (s.planesReset_regs cause), resetShown, ← hclear]
  split
  · exact hv ..
  · rw [get_put_ne _ _ _ _ (by decide) (.inl hcause), hv]

/-- A reset of the planes that leads to no sluice-done state gives its cause. -/
theorem planesReset_cause (h : s.doneAfter = false) :
    (s.planesReset cause).get PWR_RESET_CAUSE_CAUSE = cause % 256 := by
  rw [get_congr (s.planesReset_regs cause), h]
  exact get_put_same _ _ _ (by decide)

theorem planesReset_pll : (s.planesReset cause).get PWR_CLK_STATUS_PLL_LOCK = 0 := by
  rw [get_congr (s.planesReset_regs cause), resetShown]
  split <;> simp [get_put_ne, get_putB_ne, get_putB_same]

theorem doneAfter_false (h : s.pwr.sluiceDone = false) (hs : s.pwr.sluice = none) : s.doneAfter = false := by
  simp [doneAfter, h, hs]

/-- The FIFO of the always-on block outlives a reset of the planes (R435). -/
theorem fifo_planesReset : (s.planesReset cause).log.fifo portAon = s.log.fifo portAon := by
  rw [planesReset_log]
  exact tget_tkeep (fun _ => []) (fun p => decide (p = 0)) s.log.fifos portAon

theorem room_planesReset (h : Room s portAon) : Room (s.planesReset cause) portAon :=
  ⟨.inl rfl, by rw [fifo_planesReset]; exact h.2⟩

end PlanesReset

/-! ### The supply monitor (R60, R62) -/

section Supply
variable {s : State}

theorem pfiLow_up (h : s.aonUp = true) :
    s.pfiLow = (s.withPwr { s.pwr with pfiBelow := true }).putB PWR_STATUS_INPUT_OK false := by
  rw [pfiLow, h]
  rfl

theorem railsGood_up (h : s.aonUp = true) :
    s.railsGood = (s.withPwr { s.pwr with railsReady := true }).putB PWR_STATUS_LOGIC_RAILS_OK true := by
  rw [railsGood, h]
  rfl

/-- A dip of the logic rails as the always-on block sees it. -/
def railsLow (s : State) : State :=
  (s.withPwr { s.pwr with railsReady := false }).putB PWR_STATUS_LOGIC_RAILS_OK false

theorem railDip_long {r us : Nat} (h : s.aonUp = true) (hus : 5 < us) (hheld : s.planesHeld = false) :
    s.railDip r us = (s.railsLow.planesReset 0x07).aev 0x1002 r us := by
  have hle : ¬ us ≤ 5 := by omega
  have hplanes : s.railsLow.planesHeld = false := hheld
  simp only [railDip, h, hle, decide_false, Bool.not_true, Bool.or_self, Bool.false_eq_true, if_false]
  have hdip : (if s.railsLow.planesHeld = true then (if s.railsLow.heldDown then s.railsLow else
      s.railsLow.heldReset 0x07) else s.railsLow.planesReset 0x07) = s.railsLow.planesReset 0x07 := by
    rw [hplanes]
    rfl
  exact congrArg (fun t : State => t.aev 0x1002 r us) hdip

theorem railDip_short {r us : Nat} (hus : us ≤ 5) : s.railDip r us = s := by simp [railDip, hus]

end Supply

end State

theorem exec_pfiBelowThreshold_eq (s : State) : exec .pfiBelowThreshold s = .next s.pfiLow := rfl
theorem exec_pfiReturn_eq (s : State) : exec .pfiReturn s = .next s.pfiBack := rfl
theorem exec_logicRailsGood_eq (s : State) : exec .logicRailsGood s = .next s.railsGood := rfl
theorem exec_railDip_eq (r : Fin 5) (us : Nat) (s : State) : exec (.railDip r us) s = .next (s.railDip r us) := rfl

theorem exec_pfiBelowThreshold_up (s : State) :
    s.aonUp = true → ∃ t, exec .pfiBelowThreshold s = .next t ∧ t.pwr = { s.pwr with pfiBelow := true } ∧
    t.get PWR_STATUS_INPUT_OK = 0 ∧ SameRegs [PWR_STATUS] s t ∧ { t with regs := s.regs, pwr := s.pwr } = s := by
  intro h
  rw [exec_pfiBelowThreshold_eq, State.pfiLow_up h]
  exact ⟨_, rfl, rfl, State.get_putB_same _ _ _ (by decide), by simp, rfl⟩

theorem exec_logicRailsGood_up (s : State) :
    s.aonUp = true → ∃ t, exec .logicRailsGood s = .next t ∧ t.pwr = { s.pwr with railsReady := true } ∧
    t.get PWR_STATUS_LOGIC_RAILS_OK = 1 ∧ SameRegs [PWR_STATUS] s t ∧ { t with regs := s.regs, pwr := s.pwr } = s := by
  intro h
  rw [exec_logicRailsGood_eq, State.railsGood_up h]
  exact ⟨_, rfl, rfl, State.get_putB_same _ _ _ (by decide), by simp, rfl⟩

theorem exec_railDip_long (r : Fin 5) (us : Nat) (s : State) :
    s.aonUp = true → 5 < us → s.planesHeld = false → s.pwr.sluice = none →
    s.pwr.sluiceDone = false → Room s portAon →
    ∃ t, exec (.railDip r us) s = .next t ∧ t.planesHeld = true ∧ t.pwr.railsReady = false ∧
      t.get PWR_STATUS_LOGIC_RAILS_OK = 0 ∧ t.get PWR_RESET_CAUSE_CAUSE = 7 ∧ t.log.pond = [] ∧
      Newest portAon 0x1002 r us 0 t := by
  intro h hus hheld hsluice hdone hr
  rw [exec_railDip_eq, State.railDip_long h hus hheld]
  have hrails : s.railsLow.get PWR_STATUS_LOGIC_RAILS_OK = 0 := State.get_putB_same _ _ _ (by decide)
  have hafter : s.railsLow.doneAfter = false := State.doneAfter_false _ hdone hsluice
  have hlow : s.railsLow.pwr.railsReady = false := rfl
  have hroom : Room s.railsLow portAon := ⟨.inl rfl, hr.2⟩
  generalize s.railsLow = u at hrails hafter hlow hroom
  have hreset := State.room_planesReset u 0x07 hroom
  have hpwr := u.planesReset_pwr 0x07
  have hpond : (u.planesReset 0x07).log.pond = [] := by rw [State.planesReset_log]; rfl
  have hget : (u.planesReset 0x07).get PWR_STATUS_LOGIC_RAILS_OK = 0 :=
    (u.get_planesReset 0x07 (by decide) (by decide) (by decide) (by decide)).trans hrails
  have hcause : (u.planesReset 0x07).get PWR_RESET_CAUSE_CAUSE = 7 := u.planesReset_cause 0x07 hafter
  have hheld' := u.planesReset_held 0x07
  rw [State.planesHeld] at hheld'
  rw [State.heldPwr] at hpwr
  generalize u.planesReset 0x07 = v at hreset hpwr hpond hget hcause hheld'
  rw [State.aev, State.ev_of_room hreset]
  refine ⟨_, rfl, hheld', ?_, ?_, ?_, hpond, newest_wrote ..⟩
  · rw [State.wrote_pwr, hpwr]
    exact hlow
  · rw [State.get_wrote, hget]
  · rw [State.get_wrote, hcause]

/-- Settles O14: the supply monitor shows what it sees; only a long dip resets the planes. -/
theorem supplyMonitor : Obligations.SupplyMonitor := by
  refine ⟨exec_pfiBelowThreshold_up, fun s h => ?_, fun s h => ?_, exec_logicRailsGood_up, exec_railDip_long,
    fun r us s hus => ?_⟩
  · rw [exec_pfiReturn_eq, State.pfiBack, h]
    rfl
  · rw [exec_pfiReturn_eq, State.pfiBack, h]
    rfl
  · rw [exec_railDip_eq, State.railDip_short hus]

end Sys2Proof.Machine
end

section
/-! PROOFS. Clocks, the gauge and the power-stage rails (R61, R64, R74 to R76, R79), and the statement about them. -/

namespace Sys2Proof.Machine

open Reg

namespace State

/-- Each step of a run over `0 … n - 1` does for its own number what it has to, and undoes no other's; it finds what
it needs, as no other step takes that. -/
theorem each_range_inv {P Q : Nat → State → Prop} {f : State → Nat → State} (n : Nat)
    (hdo : ∀ t k, k < n → Q k t → P k (f t k)) (hkeep : ∀ t k j, j ≠ k → P j t → P j (f t k))
    (hfind : ∀ t k j, j ≠ k → Q j t → Q j (f t k)) {s : State} (hs : ∀ j, Q j s) :
    ∀ j < n, P j (s.each (List.range n) f) := by
  suffices h : ∀ m ≤ n, (∀ j < m, P j (s.each (List.range m) f)) ∧ ∀ j, m ≤ j → Q j (s.each (List.range m) f) from
    (h n le_rfl).1
  intro m
  induction m with
  | zero => exact fun _ => ⟨fun j hj => absurd hj (Nat.not_lt_zero j), fun j _ => hs j⟩
  | succ m ih =>
    intro hm
    obtain ⟨hdone, hleft⟩ := ih (by omega)
    have hsucc : s.each (List.range (m + 1)) f = f (s.each (List.range m) f) m := by
      simp [each, List.range_succ]
    rw [hsucc]
    refine ⟨fun j hj => ?_, fun j hj => hfind _ _ _ (by omega) (hleft j (by omega))⟩
    by_cases he : j = m
    · rw [he]
      exact hdo _ _ (by omega) (hleft m le_rfl)
    · exact hkeep _ _ _ he (hdone j (by omega))

/-- What each step of a run over `0 … n - 1` does for its own number, and no other undoes. -/
theorem each_range_all {P : Nat → State → Prop} {f : State → Nat → State} (n : Nat) (hdo : ∀ t k, k < n → P k (f t k))
    (hkeep : ∀ t k j, j ≠ k → P j t → P j (f t k)) (s : State) : ∀ j < n, P j (s.each (List.range n) f) :=
  each_range_inv (Q := fun _ _ => True) n (fun t k hk _ => hdo t k hk) hkeep (fun _ _ _ _ _ => trivial)
    (fun _ => trivial)

/-! ### Clocks (R74 to R76) -/

section Clocks
variable {s : State}

theorem pllLocked_locks (h : s.aonUp = true) (hr : s.pwr.railsReady = true) (hd : s.heldDown = false) :
    s.pllLocked = (s.putB PWR_CLK_STATUS_PLL_LOCK true).putB PWR_CLK_STATUS_ACTIVE_REF
      (decide (s.pwr.straps % 4 = 1 ∨ s.pwr.straps % 4 = 2) && !s.pwr.refLeft) := by
  simp [pllLocked, h, hr, hd]

theorem pllLost_running (h : s.on PWR_CLK_STATUS_PLL_LOCK = true) (hheld : s.planesHeld = false) :
    s.pllLost = (s.incSat PWR_CLK_STATUS_LOCK_LOSS_COUNT).planesReset 0x04 := by
  have hcounted : (s.incSat PWR_CLK_STATUS_LOCK_LOSS_COUNT).planesHeld = false := hheld
  simp [pllLost, h, hcounted]

theorem pllLost_held (h : s.on PWR_CLK_STATUS_PLL_LOCK = true) (hheld : s.planesHeld = true)
    (hd : s.heldDown = false) : s.pllLost =
      ((((s.incSat PWR_CLK_STATUS_LOCK_LOSS_COUNT).putB PWR_CLK_STATUS_PLL_LOCK false).withPwr
        { s.pwr with refLeft := false }).put PWR_RESET_CAUSE_CAUSE 4) := by
  have hcounted : (s.incSat PWR_CLK_STATUS_LOCK_LOSS_COUNT).planesHeld = true := hheld
  have hdown : ((s.incSat PWR_CLK_STATUS_LOCK_LOSS_COUNT).putB PWR_CLK_STATUS_PLL_LOCK false).heldDown = false := hd
  simp only [pllLost, h, hcounted, hdown, Bool.not_true, Bool.false_eq_true, if_false]
  rfl

theorem pllLost_unlocked (h : s.on PWR_CLK_STATUS_PLL_LOCK = false) : s.pllLost = s := by simp [pllLost, h]

theorem refLost_leaves (h : s.aonUp = true) (hs : s.pwr.straps % 4 = 1 ∨ s.pwr.straps % 4 = 2)
    (hl : s.pwr.refLeft = false) (hr : Room s portAon) : s.refLost =
      (((s.withPwr { s.pwr with refLeft := true }).putB PWR_CLK_STATUS_ACTIVE_REF false).putB PWR_CLK_STATUS_REF_LOST
        true).wrote portAon (record 0x0011 0 0 0 false) := by
  have hroom : Room (((s.withPwr { s.pwr with refLeft := true }).putB PWR_CLK_STATUS_ACTIVE_REF false).putB
    PWR_CLK_STATUS_REF_LOST true) portAon := ⟨.inl rfl, hr.2⟩
  rw [← ev_of_room hroom]
  simp only [refLost, h, hs, hl, decide_true, Bool.not_true, Bool.or_self, Bool.false_eq_true, if_false]
  rfl

theorem refLost_keeps (h : s.aonUp = false ∨ s.pwr.refLeft = true ∨ s.pwr.straps % 4 = 0 ∨ s.pwr.straps % 4 = 3) :
    s.refLost = s := by
  have hno : (!s.aonUp || !decide (s.pwr.straps % 4 = 1 ∨ s.pwr.straps % 4 = 2) || s.pwr.refLeft) = true := by
    rcases h with h | h | h | h <;> simp [h]
  exact if_pos hno

/-- A bank voltage below VMIN holds no energy (R64). -/
theorem gauge_empty {c : Nat} (h : s.aonUp = true) (hv : s.on PWR_STATUS_GAUGE_VALID = true)
    (hlow : c * 125 * s.get PWR_HOLD_CFG2_SENSE_RATIO ≤ s.get PWR_HOLD_CFG_VMIN_100MV * 10 * 4096) :
    ∃ n, s.gauge c = ((s.put PWR_GAUGE_ENERGY_MJ 0).put PWR_GAUGE_VHOLD_10MV n).took := by
  refine ⟨satTo 16 ((s.put PWR_GAUGE_ENERGY_MJ 0).openDiv (c * 125 * s.get PWR_HOLD_CFG2_SENSE_RATIO) 4096), ?_⟩
  simp only [gauge, h, hv, hlow, Bool.not_true, Bool.or_self, Bool.false_eq_true, if_false, if_true]
  rfl

/-- The save is a change of the power block alone (R79). -/
theorem lifeSave_eq (s : State) : s.lifeSave = s.withPwr { s.pwr with
    savedOptime := s.optime, savedPcc := s.pcc, savedSite := if s.pwr.rstMp then s.tim.aon else s.tim.site } := rfl

end Clocks

/-! ### The fan supply (R61, R383) -/

section FanRail
variable {s : State} {f g : Nat}

/-- The row of FAN_STATUS in the register table. -/
def fanStatusRow : RegRow := { base := 0x280014, n1 := 16, s1 := 0x40, w1c := 0x0000000f, rsv := 0x0000ffe0 }

theorem rowOf_fanStatus : ∀ g < 16, rowOf (FAN_STATUS g) = some fanStatusRow := by decide +kernel

theorem reg_store_ne (a : Nat) (w : Word) {b : Nat} (h : b ≠ a) : (s.store a w).reg b = s.reg b := by
  rcases hrow : rowOf a with _ | r
  · rw [store, hrow]
  · have hstore : s.store a w = if a ∈ tableRegs then s else s.setReg a (r.after (s.reg a) w) := by rw [store, hrow]
    rw [hstore]
    split
    · rfl
    · exact reg_setReg_ne _ _ h

/-- No write stores anything in the STATE field of a fan (R106). -/
theorem fst_store (a : Nat) (w : Word) (hg : g < 16) : (s.store a w).fst g = s.fst g := by
  have hafter (old v : Word) : bits (fanStatusRow.after old v) 31 28 = bits old 31 28 := by
    rw [bits_eq_extract, bits_eq_extract]
    congr 1
    ext i hi
    have hi4 : i < 4 := hi
    interval_cases i <;> simp [RegRow.after, fanStatusRow]
  rcases hrow : rowOf a with _ | r
  · rw [store, hrow]
  · have hstore : s.store a w = if a ∈ tableRegs then s else s.setReg a (r.after (s.reg a) w) := by rw [store, hrow]
    rw [hstore]
    split
    · rfl
    · by_cases ha : FAN_STATUS g = a
      · subst ha
        have hr : r = fanStatusRow := Option.some.inj (hrow.symm.trans (rowOf_fanStatus g hg))
        rw [hr, fst, s.get_setReg_same (FAN_STATUS_STATE g), hafter]
        rfl
      · exact get_setReg_ne _ _ _ _ ha

@[simp] theorem window_setFan_keeps (x : Fan) (hx : x.window = (s.fan f).window) :
    ((s.setFan f x).fan g).window = (s.fan g).window := by
  rw [fan_setFan]
  split
  case isTrue h => rw [hx, h]
  case isFalse => rfl

theorem fanLoopReset_window : ((s.fanLoopReset f).fan g).window = (s.fan g).window := window_setFan_keeps _ rfl

theorem fan_store (a : Nat) (w : Word) : (s.store a w).fan g = s.fan g := by
  unfold store
  split
  · split
    · rfl
    · exact fan_congr rfl g
  · rfl

/-- The registers of a run's table are written back as `store` keeps them. -/
theorem foldl_store (l : List (Nat × Word)) (hg : g < 16) : ∀ s : State,
    (l.foldl (fun t p => t.store (FAN_CFG f + p.1) p.2) s).fst g = s.fst g ∧
      (l.foldl (fun t p => t.store (FAN_CFG f + p.1) p.2) s).fan g = s.fan g := by
  induction l with
  | nil => exact fun s => ⟨rfl, rfl⟩
  | cons p l ih =>
    intro s
    obtain ⟨hst, hfan⟩ := ih (s.store (FAN_CFG f + p.1) p.2)
    exact ⟨hst.trans (fst_store _ _ hg), hfan.trans (fan_store _ _)⟩

theorem fst_setFan (x : Fan) : (s.setFan f x).fst g = s.fst g := get_congr rfl _

theorem fanRunEnd_fst (hg : g < 16) : (s.fanRunEnd f).fst g = s.fst g := by
  have hstored := fun t => (foldl_store (f := f) (s.fan f).table hg t).1
  unfold fanRunEnd
  dsimp only
  split
  · rw [fanLoopReset, fst_setFan, hstored, fst_setFan]
  · rw [hstored, fst_setFan]

/-- The end of a run opens no window. -/
theorem fanRunEnd_window (hg : g < 16) : ((s.fanRunEnd f).fan g).window = (s.fan g).window := by
  have hstored := fun t => (foldl_store (f := f) (s.fan f).table hg t).2
  have hkept : ((s.setFan f { s.fan f with run := 0, retries := 0, table := [], reload := false }).fan g).window =
      (s.fan g).window := window_setFan_keeps _ rfl
  unfold fanRunEnd
  dsimp only
  split
  · rw [fanLoopReset_window, hstored]
    exact hkept
  · rw [hstored]
    exact hkept

theorem fst_setFst : (s.setFst f 9).fst f = 9 := get_put_same _ _ _ (by simp)

theorem fst_setFst_ne (n : Nat) (h : g ≠ f) : (s.setFst f n).fst g = s.fst g :=
  get_put_ne _ _ _ _ (by simp) (.inl (by simp [FAN_STATUS]; omega))

/-- Without its supply every fan is in NO_VFAN, its window closed. -/
theorem fansSupply_lost (s : State) (g : Nat) (hg : g < 16) :
    (s.fansSupply false).fst g = 9 ∧ ((s.fansSupply false).fan g).window = false := by
  refine each_range_all (P := fun j t => j < 16 → t.fst j = 9 ∧ (t.fan j).window = false) 16 ?_ ?_ s g hg hg
  · intro t k _ hk
    have hclosed : ((t.fanNoWindow k).fan k).window = false := by rw [fanNoWindow, fan_setFan, if_pos rfl]
    exact ⟨fst_setFst, (congrArg Fan.window (fan_congr rfl k)).trans ((fanRunEnd_window hk).trans hclosed)⟩
  · intro t k j hj h hj16
    obtain ⟨hst, hw⟩ := h hj16
    have hclosed : (t.fanNoWindow k).fan j = t.fan j := fan_setFan_ne (h := hj) ..
    exact ⟨(fst_setFst_ne _ hj).trans ((fanRunEnd_fst hj16).trans ((fst_setFan _).trans hst)),
      (congrArg Fan.window (fan_congr rfl j)).trans ((fanRunEnd_window hj16).trans (by rw [hclosed, hw]))⟩

theorem pwrStatus_ne_fanStatus (k : Nat) : PWR_STATUS ≠ FAN_STATUS k := by
  unfold PWR_STATUS FAN_STATUS
  omega

theorem pwrStatus_ne_fanCfg (k o : Nat) : PWR_STATUS ≠ FAN_CFG k + o := by
  unfold PWR_STATUS FAN_CFG
  omega

/-- With its supply back a fan in NO_VFAN is off. -/
theorem fansSupply_back (s : State) (hon : s.on PWR_STATUS_VFAN_OK = true) (g : Nat) (hg : g < 16) (h9 : s.fst g = 9) :
    (s.fansSupply true).fst g = 1 ∧ (s.fansSupply true).get (FAN_STATUS_DUTY g) = 0 := by
  have hduty (t : State) (k : Nat) (hon : t.on PWR_STATUS_VFAN_OK = true) (h9 : t.fst k = 9) :
      (t.fanSupplied k).get (FAN_STATUS_DUTY k) = 0 := by
    rw [fst] at h9
    simp [fanSupplied, hon, fst, h9, fNoVfan, get_put_same]
  have hother (t : State) (k j : Nat) (hj : j ≠ k) {x : Fld} (hx : x.addr = FAN_STATUS j) :
      (t.fanSupplied k).get x = t.get x := get_fanSupplied _ _ (by rw [hx]; simp [FAN_STATUS]; omega)
  refine each_range_inv (Q := fun j t => t.on PWR_STATUS_VFAN_OK = true ∧ (s.fst j = 9 → t.fst j = 9))
    (P := fun j t => s.fst j = 9 → t.fst j = 1 ∧ t.get (FAN_STATUS_DUTY j) = 0) 16 ?_ ?_ ?_ (fun j => ⟨hon, id⟩) g hg h9
  · intro t k _ ⟨hon, hk⟩ h9
    exact ⟨fanSupplied_back _ _ hon (hk h9), hduty t k hon (hk h9)⟩
  · intro t k j hj h h9
    obtain ⟨h1, h0⟩ := h h9
    exact ⟨(hother t k j hj rfl).trans h1, (hother t k j hj rfl).trans h0⟩
  · intro t k j hj ⟨hon, h9⟩
    refine ⟨?_, fun h => (hother t k j hj rfl).trans (h9 h)⟩
    have hkept : (t.fanSupplied k).get PWR_STATUS_VFAN_OK = t.get PWR_STATUS_VFAN_OK :=
      get_fanSupplied _ _ (pwrStatus_ne_fanStatus k)
    exact (congrArg (fun x : Nat => x != 0) hkept).trans hon

/-- The fan supply itself is no fan's register. -/
theorem fansSupply_rail (s : State) (b : Bool) : (s.fansSupply b).get PWR_STATUS_VFAN_OK = s.get PWR_STATUS_VFAN_OK := by
  have hstore (l : List (Nat × Word)) (k : Nat) : ∀ t : State,
      (l.foldl (fun t p => t.store (FAN_CFG k + p.1) p.2) t).reg PWR_STATUS = t.reg PWR_STATUS := by
    induction l with
    | nil => exact fun t => rfl
    | cons p l ih => exact fun t => (ih _).trans (reg_store_ne _ _ (pwrStatus_ne_fanCfg k p.1))
  have hrun (t : State) (k : Nat) : (t.fanRunEnd k).reg PWR_STATUS = t.reg PWR_STATUS := by
    unfold fanRunEnd
    dsimp only
    split
    · rw [fanLoopReset, reg_setFan, hstore, reg_setFan]
    · rw [hstore, reg_setFan]
  refine each_keeps (fun t => t.get PWR_STATUS_VFAN_OK) (fun t k => ?_) _ s
  cases b
  · have hst : (((t.fanNoWindow k).fanRunEnd k).setFst k fNoVfan).reg PWR_STATUS = t.reg PWR_STATUS := by
      rw [setFst, reg_put_ne _ _ _ (pwrStatus_ne_fanStatus k), hrun, fanNoWindow, reg_setFan]
    exact congrArg (fun w => bits w 11 11) hst
  · exact get_fanSupplied _ _ (pwrStatus_ne_fanStatus k)

/-- A change of the fan supply that its thresholds make (R61). -/
theorem stageRail_vfan {mv : Nat} (h : s.aonUp = true) (now : Bool)
    (hnow : railState .vfan mv (!now) = now) (hwas : s.on PWR_STATUS_VFAN_OK = !now)
    (hcp : s.cpUp = true) : s.stageRail .vfan mv = (s.putB PWR_STATUS_VFAN_OK now).fansSupply now := by
  have hup : (s.putB PWR_STATUS_VFAN_OK now).cpUp = true := hcp
  have hdiff : ¬ now = !now := by cases now <;> decide
  simp only [stageRail, h, hwas, hnow, hdiff, hup, Bool.not_true, Bool.false_eq_true, if_false, if_true]

/-- A change that the thresholds do not make. -/
theorem stageRail_vfan_kept {mv : Nat} (h : s.aonUp = true)
    (hnow : railState .vfan mv (s.on PWR_STATUS_VFAN_OK) = s.on PWR_STATUS_VFAN_OK) : s.stageRail .vfan mv = s := by
  simp only [stageRail, h, hnow, Bool.not_true, Bool.false_eq_true, if_false, if_true]

end FanRail

end State

theorem exec_pllLocked_eq (s : State) : exec .pllLocked s = .next s.pllLocked := rfl
theorem exec_pllLockLoss_eq (s : State) : exec .pllLockLoss s = .next s.pllLost := rfl
theorem exec_refLost_eq (s : State) : exec .refLost s = .next s.refLost := rfl
theorem exec_lifeCounterSave_eq (s : State) : exec .lifeCounterSave s = .next s.lifeSave := rfl
theorem exec_gaugeUpdate_eq (c : BitVec 12) (s : State) : exec (.gaugeUpdate c) s = .next (s.gauge c.toNat) := rfl
theorem exec_powerStageRailChange_eq (r : Rail) (mv : Nat) (s : State) :
    exec (.powerStageRailChange r mv) s = .next (s.stageRail r mv) := rfl

theorem exec_pllLocked_locks (s : State) :
    s.aonUp = true → s.pwr.railsReady = true → s.heldDown = false →
    ∃ t, exec .pllLocked s = .next t ∧ t.get PWR_CLK_STATUS_PLL_LOCK = 1 ∧
      t.get PWR_CLK_STATUS_ACTIVE_REF = (if (s.pwr.straps % 4 = 1 ∨ s.pwr.straps % 4 = 2) ∧ s.pwr.refLeft = false then 1 else 0) ∧
      OnlyRegs [PWR_CLK_STATUS] s t := by
  intro h hr hd
  rw [exec_pllLocked_eq, State.pllLocked_locks h hr hd]
  refine ⟨_, rfl, by simp [State.get_putB_ne, State.get_putB_same], ?_, ?_⟩
  · rw [State.get_putB_same _ _ _ (by decide)]
    cases s.pwr.refLeft <;> simp
  · exact ((OnlyRegs.refl _ s).putB _ (by simp)).putB _ (by simp)

theorem exec_pllLockLoss_running (s : State) :
    s.on PWR_CLK_STATUS_PLL_LOCK = true → s.planesHeld = false → s.pwr.sluice = none → s.pwr.sluiceDone = false →
    ∃ t, exec .pllLockLoss s = .next t ∧ t.planesHeld = true ∧ t.get PWR_CLK_STATUS_PLL_LOCK = 0 ∧
      t.get PWR_RESET_CAUSE_CAUSE = 4 ∧ t.get PWR_CLK_STATUS_LOCK_LOSS_COUNT = min (s.get PWR_CLK_STATUS_LOCK_LOSS_COUNT + 1) 65535 := by
  intro h hheld hsluice hdone
  rw [exec_pllLockLoss_eq, State.pllLost_running h hheld]
  have hcount : (s.incSat PWR_CLK_STATUS_LOCK_LOSS_COUNT).get PWR_CLK_STATUS_LOCK_LOSS_COUNT =
    min (s.get PWR_CLK_STATUS_LOCK_LOSS_COUNT + 1) 65535 := State.get_incSat_same _ _ (by decide)
  have hafter : (s.incSat PWR_CLK_STATUS_LOCK_LOSS_COUNT).doneAfter = false := State.doneAfter_false _ hdone hsluice
  generalize s.incSat PWR_CLK_STATUS_LOCK_LOSS_COUNT = u at hcount hafter
  exact ⟨_, rfl, u.planesReset_held 4, u.planesReset_pll 4, u.planesReset_cause 4 hafter,
    (u.get_planesReset 4 (by decide) (by decide) (by decide) (by decide)).trans hcount⟩

theorem exec_pllLockLoss_held (s : State) :
    s.on PWR_CLK_STATUS_PLL_LOCK = true → s.planesHeld = true → s.heldDown = false →
    ∃ t, exec .pllLockLoss s = .next t ∧ t.planesHeld = true ∧ t.get PWR_CLK_STATUS_PLL_LOCK = 0 ∧
      t.get PWR_RESET_CAUSE_CAUSE = 4 ∧ t.get PWR_CLK_STATUS_LOCK_LOSS_COUNT = min (s.get PWR_CLK_STATUS_LOCK_LOSS_COUNT + 1) 65535 ∧
      SameRegs [PWR_CLK_STATUS, PWR_RESET_CAUSE] s t := by
  intro h hheld hd
  rw [exec_pllLockLoss_eq, State.pllLost_held h hheld hd]
  refine ⟨_, rfl, hheld, ?_, State.get_put_same _ _ _ (by decide), ?_, by simp⟩
  · simp [State.get_put_ne, State.get_putB_same]
  · rw [State.get_put_ne _ _ _ _ (by decide) (by decide), State.get_withPwr,
      State.get_putB_ne _ _ _ _ (by decide) (by decide)]
    exact State.get_incSat_same _ _ (by decide)

theorem exec_refLost_leaves (s : State) :
    s.aonUp = true → (s.pwr.straps % 4 = 1 ∨ s.pwr.straps % 4 = 2) → s.pwr.refLeft = false → Room s portAon →
    ∃ t, exec .refLost s = .next t ∧ t.get PWR_CLK_STATUS_ACTIVE_REF = 0 ∧ t.get PWR_CLK_STATUS_REF_LOST = 1 ∧ t.pwr = { s.pwr with refLeft := true } ∧
      SameRegs [PWR_CLK_STATUS] s t ∧ Logged portAon 0x0011 0 0 0 s t := by
  intro h hs hl hr
  rw [exec_refLost_eq, State.refLost_leaves h hs hl hr]
  refine ⟨_, rfl, ?_, ?_, rfl, by simp, rfl⟩
  · simp [State.get_putB_ne, State.get_putB_same]
  · simp [State.get_putB_same]

theorem exec_gaugeUpdate_empty (c : BitVec 12) (s : State) :
    s.aonUp = true → s.on PWR_STATUS_GAUGE_VALID = true →
    c.toNat * 125 * s.get PWR_HOLD_CFG2_SENSE_RATIO ≤ s.get PWR_HOLD_CFG_VMIN_100MV * 10 * 4096 →
    ∃ t, exec (.gaugeUpdate c) s = .next t ∧ t.get PWR_GAUGE_ENERGY_MJ = 0 ∧ SameRegs [PWR_GAUGE] s t ∧
      { t with regs := s.regs, freeIdx := s.freeIdx } = s := by
  intro h hv hlow
  obtain ⟨n, hn⟩ := State.gauge_empty h hv hlow
  rw [exec_gaugeUpdate_eq, hn]
  refine ⟨_, rfl, ?_, by simp, rfl⟩
  rw [State.get_took, State.get_put_ne _ _ _ _ (by decide) (by decide)]
  exact State.get_put_same _ _ _ (by decide)

theorem exec_lifeCounterSave_saves (s : State) :
    ∃ t, exec .lifeCounterSave s = .next t ∧ t.pwr.savedOptime = s.optime ∧ t.pwr.savedPcc = s.pcc ∧
    (s.mpUp = true → t.pwr.savedSite = s.tim.site) ∧ { t with pwr := s.pwr } = s := by
  rw [exec_lifeCounterSave_eq, State.lifeSave_eq]
  refine ⟨_, rfl, by rw [State.withPwr_pwr], by rw [State.withPwr_pwr], fun h => ?_, s.withPwr_frame _⟩
  have hrst : s.pwr.rstMp = false := by simpa [State.mpUp] using h
  rw [State.withPwr_pwr, hrst]
  rfl

theorem exec_powerStageRailChange_kept (mv : Nat) (s : State) :
    s.aonUp = true → s.on PWR_STATUS_VFAN_OK = true → 9000 ≤ mv →
    exec (.powerStageRailChange .vfan mv) s = .next s := by
  intro h hon hmv
  have hnow : railState .vfan mv true = true := by
    have hle : ¬ mv < 9000 := by omega
    simp only [railState, railLimits, hle, if_false]
    exact ite_eq_left_iff.mpr fun _ => rfl
  rw [exec_powerStageRailChange_eq, State.stageRail_vfan_kept h (by rw [hon, hnow])]

theorem exec_powerStageRailChange_lost (mv : Nat) (s : State) :
    s.aonUp = true → s.on PWR_STATUS_VFAN_OK = true → mv < 9000 → s.cpUp = true →
    ∃ t, exec (.powerStageRailChange .vfan mv) s = .next t ∧ t.get PWR_STATUS_VFAN_OK = 0 ∧
      (∀ f : Fin 16, t.fst f = 9 ∧ (t.fan f).window = false) := by
  intro h hon hmv hcp
  have hnow : railState .vfan mv true = false := by simp [railState, railLimits, hmv]
  rw [exec_powerStageRailChange_eq, State.stageRail_vfan h false hnow hon hcp]
  refine ⟨_, rfl, ?_, fun f => State.fansSupply_lost _ f f.isLt⟩
  exact (State.fansSupply_rail _ _).trans (State.get_putB_same _ _ _ (by decide))

theorem exec_powerStageRailChange_back (mv : Nat) (s : State) :
    s.aonUp = true → s.on PWR_STATUS_VFAN_OK = false → 9500 < mv → s.cpUp = true →
    ∃ t, exec (.powerStageRailChange .vfan mv) s = .next t ∧ t.get PWR_STATUS_VFAN_OK = 1 ∧
      (∀ f : Fin 16, s.fst f = 9 → t.fst f = 1 ∧ t.get (FAN_STATUS_DUTY f) = 0) := by
  intro h hon hmv hcp
  have hnow : railState .vfan mv false = true := by
    have hle : ¬ mv < 9000 := by omega
    simp [railState, railLimits, hle, hmv]
  have hshown : (s.putB PWR_STATUS_VFAN_OK true).get PWR_STATUS_VFAN_OK = 1 := State.get_putB_same _ _ _ (by decide)
  have hstates (f : Fin 16) : (s.putB PWR_STATUS_VFAN_OK true).fst f = s.fst f :=
    State.get_putB_ne _ _ _ _ (by decide) (.inl (State.pwrStatus_ne_fanStatus f).symm)
  rw [exec_powerStageRailChange_eq, State.stageRail_vfan h true hnow hon hcp]
  refine ⟨_, rfl, (State.fansSupply_rail _ _).trans hshown, fun f h9 => ?_⟩
  exact State.fansSupply_back _ (by rw [State.on, hshown]; rfl) f f.isLt ((hstates f).trans h9)

/-- Settles O17: each command is one update; the fan rail acts on every fan. -/
theorem clocksAndRails : Obligations.ClocksAndRails := by
  refine ⟨exec_pllLocked_locks, exec_pllLockLoss_running, exec_pllLockLoss_held, fun s h => ?_, exec_refLost_leaves,
    fun s h => ?_, exec_lifeCounterSave_saves, exec_gaugeUpdate_empty, exec_powerStageRailChange_kept,
    exec_powerStageRailChange_lost, exec_powerStageRailChange_back⟩
  · rw [exec_pllLockLoss_eq, State.pllLost_unlocked h]
  · rw [exec_refLost_eq, State.refLost_keeps h]

end Sys2Proof.Machine
end

section
/-! PROOFS. What the outputs made safe, the recorder and the display leave of the power block (R65, R66): its own state,
its status register, and for the recorder and the display the registers of every other plane. -/

namespace Sys2Proof.Machine

open Reg

namespace State

/-- The state with another recorder. -/
def withLog (s : State) (x : Recorder) : State := { s with log := x }

section WithLog
variable (s : State) (x : Recorder)

theorem withLog_frame : { s.withLog x with log := s.log } = s := rfl
@[simp] theorem withLog_log : (s.withLog x).log = x := rfl
@[simp] theorem withLog_regs : (s.withLog x).regs = s.regs := rfl
@[simp] theorem withLog_pwr : (s.withLog x).pwr = s.pwr := rfl
@[simp] theorem get_withLog (f : Fld) : (s.withLog x).get f = s.get f := get_congr rfl f
@[simp] theorem on_withLog (f : Fld) : (s.withLog x).on f = s.on f := on_congr rfl f
@[simp] theorem reg_withLog (a : Nat) : (s.withLog x).reg a = s.reg a := reg_congr rfl a

end WithLog

@[simp] theorem sameRegs_withLog {l : List Nat} {s t : State} {x : Recorder} :
    SameRegs l s (t.withLog x) ↔ SameRegs l s t := sameRegs_congr rfl

/-- The state with another door panel. -/
def withDisp (s : State) (x : Display) : State := { s with disp := x }

section WithDisp
variable (s : State) (x : Display)

theorem withDisp_frame : { s.withDisp x with disp := s.disp } = s := rfl
@[simp] theorem withDisp_disp : (s.withDisp x).disp = x := rfl
@[simp] theorem withDisp_regs : (s.withDisp x).regs = s.regs := rfl
@[simp] theorem withDisp_pwr : (s.withDisp x).pwr = s.pwr := rfl
@[simp] theorem get_withDisp (f : Fld) : (s.withDisp x).get f = s.get f := get_congr rfl f
@[simp] theorem on_withDisp (f : Fld) : (s.withDisp x).on f = s.on f := on_congr rfl f
@[simp] theorem reg_withDisp (a : Nat) : (s.withDisp x).reg a = s.reg a := reg_congr rfl a

end WithDisp

@[simp] theorem sameRegs_withDisp {l : List Nat} {s t : State} {x : Display} :
    SameRegs l s (t.withDisp x) ↔ SameRegs l s t := sameRegs_congr rfl

/-- The state with another last-word strip. -/
def withStrip (s : State) (x : Strip) : State := { s with strip := x }

section WithStrip
variable (s : State) (x : Strip)

theorem withStrip_frame : { s.withStrip x with strip := s.strip } = s := rfl
@[simp] theorem withStrip_strip : (s.withStrip x).strip = x := rfl
@[simp] theorem withStrip_regs : (s.withStrip x).regs = s.regs := rfl
@[simp] theorem withStrip_log : (s.withStrip x).log = s.log := rfl
@[simp] theorem withStrip_pwr : (s.withStrip x).pwr = s.pwr := rfl
@[simp] theorem get_withStrip (f : Fld) : (s.withStrip x).get f = s.get f := get_congr rfl f
@[simp] theorem on_withStrip (f : Fld) : (s.withStrip x).on f = s.on f := on_congr rfl f
@[simp] theorem reg_withStrip (a : Nat) : (s.withStrip x).reg a = s.reg a := reg_congr rfl a

end WithStrip

@[simp] theorem sameRegs_withStrip {l : List Nat} {s t : State} {x : Strip} :
    SameRegs l s (t.withStrip x) ↔ SameRegs l s t := sameRegs_congr rfl

end State

/-- A write of a register stores a word there, or nothing. -/
theorem State.store_cases (s : State) (a : Nat) (w : Word) : s.store a w = s ∨ ∃ v, s.store a w = s.setReg a v := by
  rcases hrow : rowOf a with _ | r
  · exact .inl (by rw [State.store, hrow])
  · have hstore : s.store a w = if a ∈ tableRegs then s else s.setReg a (r.after (s.reg a) w) := by
      rw [State.store, hrow]
    rw [hstore]
    split
    · exact .inl rfl
    · exact .inr ⟨_, rfl⟩

/-! ### Updates that the power block does not see -/

/-- `t` has the power block of `s`, and its status register. -/
structure PowerKept (s t : State) : Prop where
  pwr : t.pwr = s.pwr
  status : t.reg PWR_STATUS = s.reg PWR_STATUS

namespace PowerKept
variable {s t u : State}

theorem refl (s : State) : PowerKept s s := ⟨rfl, rfl⟩
theorem trans (h : PowerKept s t) (k : PowerKept t u) : PowerKept s u := ⟨k.pwr.trans h.pwr, k.status.trans h.status⟩

theorem setReg (h : PowerKept s t) {a : Nat} (w : Word) (ha : 0x100000 ≤ a) : PowerKept s (t.setReg a w) :=
  ⟨h.pwr, (State.reg_setReg_ne _ _ (by unfold PWR_STATUS; omega)).trans h.status⟩
theorem put (h : PowerKept s t) {f : Fld} (n : Nat) (ha : 0x100000 ≤ f.addr) : PowerKept s (t.put f n) := h.setReg _ ha
theorem putB (h : PowerKept s t) {f : Fld} (b : Bool) (ha : 0x100000 ≤ f.addr) : PowerKept s (t.putB f b) := h.setReg _ ha
theorem inc (h : PowerKept s t) {f : Fld} (ha : 0x100000 ≤ f.addr) : PowerKept s (t.inc f) := h.setReg _ ha

/-- An update of other state. -/
theorem of_pwr (h : PowerKept s t) (hp : u.pwr = t.pwr) (hr : u.regs = t.regs) : PowerKept s u :=
  ⟨hp.trans h.pwr, (State.reg_congr hr _).trans h.status⟩

theorem ev (h : PowerKept s t) (p c a b d : Nat) (v : Bool) (hp : p < 16) : PowerKept s (t.ev p c a b d v) := by
  refine ⟨(State.ev_pwr ..).trans h.pwr, (State.reg_ev _ _ _ _ _ _ _ (by decide) ?_).trans h.status⟩
  unfold PWR_STATUS LOG_DROP
  omega

theorem store (h : PowerKept s t) {a : Nat} (w : Word) (ha : 0x100000 ≤ a) : PowerKept s (t.store a w) := by
  rcases t.store_cases a w with hs | ⟨v, hs⟩
  · rw [hs]
    exact h
  · rw [hs]
    exact h.setReg v ha

theorem each {α : Type} {f : State → α → State} (l : List α) (hf : ∀ t a, a ∈ l → PowerKept t (f t a)) (s : State) :
    PowerKept s (s.each l f) := by
  induction l generalizing s with
  | nil => exact refl s
  | cons a l ih =>
    exact (hf s a (List.mem_cons_self ..)).trans (ih (fun t b hb => hf t b (List.mem_cons_of_mem _ hb)) (f s a))

theorem ite {c : Prop} [Decidable c] (h : PowerKept s t) (k : PowerKept s u) : PowerKept s (if c then t else u) := by
  split <;> assumption

end PowerKept

/-! ### Valve banks (R65, R350 to R371) -/

theorem valveStatus_high (v : Nat) : 0x100000 ≤ VALVE_STATUS v := by unfold VALVE_STATUS; omega
theorem valveProfile_high (v o : Nat) : 0x100000 ≤ VALVE_PROFILE v + o := by unfold VALVE_PROFILE; omega
theorem valveMotion_high (v : Nat) : 0x100000 ≤ VALVE_MOTION v := by unfold VALVE_MOTION; omega
theorem bankStatus_high (b : Nat) : 0x100000 ≤ VALVE_BANK_STATUS b := by unfold VALVE_BANK_STATUS; omega
theorem bankStats_high (b : Nat) : 0x100000 ≤ VALVE_BANK_STATS b := by unfold VALVE_BANK_STATS; omega
theorem bankFault_high (b : Nat) : 0x100000 ≤ VALVE_BANK_FAULT b := by unfold VALVE_BANK_FAULT; omega
theorem valveCq_high (b : Nat) : 0x100000 ≤ VALVE_CQ b := by unfold VALVE_CQ; omega
theorem valveCqCtrl_high (b : Nat) : 0x100000 ≤ VALVE_CQ_CTRL b := by unfold VALVE_CQ_CTRL; omega

namespace PowerKept
variable {s t : State}

theorem setBank (h : PowerKept s t) (b : Nat) (k : Bank) : PowerKept s (t.setBank b k) := h.of_pwr rfl rfl
theorem setChan (h : PowerKept s t) (v : Nat) (c : Channel) : PowerKept s (t.setChan v c) := h.of_pwr rfl rfl

theorem cqShow (h : PowerKept s t) (b : Nat) : PowerKept s (t.cqShow b) :=
  (h.setReg _ (valveCq_high b)).put _ (valveCqCtrl_high b)

theorem cqPush (h : PowerKept s t) (v id status reason : Nat) : PowerKept s (t.cqPush v id status reason) := by
  have hq := h.setBank (v / 8) { t.bank (v / 8) with
    cq := (if decide (32 ≤ (t.bank (v / 8)).cq.length) then (t.bank (v / 8)).cq.drop 1 else (t.bank (v / 8)).cq) ++
      [{ id := id % 256, ch := v % 8, status := status, reason := reason, seq := (t.bank (v / 8)).nextSeq }],
    nextSeq := ((t.bank (v / 8)).nextSeq + 1) % 256,
    lostMinute := (t.bank (v / 8)).lostMinute + (if decide (32 ≤ (t.bank (v / 8)).cq.length) then 1 else 0) }
  have hlost := hq.inc (f := VALVE_CQ_CTRL_LOST (v / 8)) (valveCqCtrl_high _)
  have hu := PowerKept.ite (c := decide (32 ≤ (t.bank (v / 8)).cq.length) = true) hlost hq
  have hfails := hu.inc (f := VALVE_BANK_STATS_DEFER_FAILS (v / 8)) (bankStats_high _)
  exact (PowerKept.ite (c := status = 1 ∧ (reason = 1 ∨ reason = 2)) hfails hu).cqShow _

theorem bankShow (h : PowerKept s t) (b : Nat) : PowerKept s (t.bankShow b) := by
  refine ((((PowerKept.put ?_ _ ?_).put _ ?_).put _ ?_).putB _ ?_)
  · exact ((((h.putB _ (bankStatus_high b)).putB _ (bankStatus_high b)).put _ (bankStatus_high b)).put _
      (bankStatus_high b)).put _ (bankStatus_high b)
  all_goals exact bankFault_high b

theorem setVst (h : PowerKept s t) (v st : Nat) : PowerKept s (t.setVst v st) := by
  have hput := h.put (f := VALVE_STATUS_STATE v) st (valveStatus_high v)
  exact ((PowerKept.ite (c := isOn st = true) (hput.setChan v _) hput).putB _ (valveStatus_high v)).bankShow _

theorem stageStart (h : PowerKept s t) : PowerKept s t.stageStart := by
  unfold State.stageStart
  dsimp only
  repeat' split
  · exact h
  · exact h
  · exact h.of_pwr rfl rfl

theorem unqueue (h : PowerKept s t) (v status reason : Nat) : PowerKept s (t.unqueue v status reason) := by
  unfold State.unqueue
  dsimp only
  split
  · exact h.setBank _ _
  · exact ((((h.setBank _ _).setChan _ _).cqPush _ _ _ _).setVst _ _).stageStart

theorem hsPut (h : PowerKept s t) (b : Nat) (on : Bool) : PowerKept s (t.hsPut b on) := h.putB _ (bankStatus_high b)

theorem tableIn (h : PowerKept s t) (v : Nat) : PowerKept s (t.tableIn v) := by
  refine (h.setChan v { t.chan v with table := [] }).trans (PowerKept.each _ (fun x p _ => ?_) _)
  exact (refl x).store _ (valveProfile_high v p.1)

theorem relItemEnd (h : PowerKept s t) (v : Nat) : PowerKept s (t.relItemEnd v) := by
  unfold State.relItemEnd
  split
  · exact h
  · exact ((h.setChan _ _).cqPush _ _ _ _).tableIn _

theorem riseStart (h : PowerKept s t) (v : Nat) : PowerKept s (t.riseStart v) :=
  (PowerKept.ite (h.setChan _ _) ((h.setChan _ _).put _ (valveStatus_high v))).setVst _ _

theorem letIn (h : PowerKept s t) (v id : Nat) (cont : Bool) (hold : Nat) : PowerKept s (t.letIn v id cont hold) := by
  have hu := (((h.relItemEnd v).setChan v { (t.relItemEnd v).chan v with
    item := some id, hold := hold, fromIdle := !(t.chan v).decay, deferred := none }).put (f := VALVE_STATUS_ITEM_ID v) id
      (valveStatus_high v)).putB (f := VALVE_STATUS_CONT v) cont (valveStatus_high v)
  exact .ite (hu.riseStart v) ((hu.hsPut _ _).setVst _ _)

theorem serveN (n b : Nat) : ∀ {s t : State}, PowerKept s t → PowerKept s (State.serveN n b t) := by
  induction n with
  | zero => exact fun h => h
  | succ n ih =>
    intro s t h
    rw [State.serveN]
    split
    · exact h
    · split
      · exact ih (h.unqueue ..)
      · split
        · exact h
        · split
          · exact ih (h.unqueue ..)
          · split
            · exact ih (h.setBank ..)
            · exact ih ((h.setBank ..).letIn ..)

theorem serve (h : PowerKept s t) (b : Nat) : PowerKept s (t.serve b) := (serveN 9 b h).bankShow b

theorem cancelPrearm (h : PowerKept s t) (v status reason : Nat) : PowerKept s (t.cancelPrearm v status reason) := by
  have hw := ((((((h.cqPush v (t.itemId v) status reason).setChan v { t.chan v with item := none }).tableIn v).setVst v
    vIdle).hsPut (v / 8) false).serve (v / 8)).stageStart
  exact .ite hw (hw.inc (bankStats_high _))

theorem moved (h : PowerKept s t) (v us ma : Nat) : PowerKept s (t.moved v us ma) :=
  ((((h.setChan _ _).put _ (valveStatus_high v)).put _ (valveMotion_high v)).put _ (valveMotion_high v)).put _
    (valveStatus_high v)

theorem dropWindow (h : PowerKept s t) (v : Nat) : PowerKept s (t.dropWindow v) := by
  have ht : PowerKept s ((t.setChan v { t.chan v with window := false }).tookN ((t.coilSamples v).length + 1)) :=
    (h.setChan v { t.chan v with window := false }).of_pwr rfl rfl
  unfold State.dropWindow
  dsimp only
  split
  · exact h
  · split
    · exact ht.moved _ _ _
    · exact ht.put _ (valveStatus_high v)

theorem vev (h : PowerKept s t) (v c a b : Nat) : PowerKept s (t.vev v c a b) := by
  refine h.ev _ _ _ _ _ _ ?_
  unfold portValve
  split <;> decide

theorem release (h : PowerKept s t) (v : Nat) (forced : Option (Nat × Nat)) : PowerKept s (t.release v forced) := by
  have ha := h.dropWindow v
  have hb := PowerKept.ite (c := (decide (((t.dropWindow v).chan v).probeDue = 1) && forced != some (1, 0x11) &&
    forced != some (1, 0x12)) = true) ((ha.vev v 0x3006 4 0).setChan v { (t.dropWindow v).chan v with verdict := some 0x14 }) ha
  exact (((hb.setChan v _).putB _ (valveStatus_high v)).putB _ (valveStatus_high v)).setVst v _ |>.serve _

theorem settle (h : PowerKept s t) (v cancel fail : Nat) : PowerKept s (t.settle v cancel fail) :=
  .ite (h.unqueue ..) (.ite (h.cancelPrearm ..) (.ite (h.release ..) h))

theorem settleBank (h : PowerKept s t) (b cancel fail : Nat) : PowerKept s (t.settleBank b cancel fail) := by
  have hq := PowerKept.each (t.bank b).queue (fun x v _ => (refl x).unqueue v 2 cancel) t
  have hc := PowerKept.each (bankChans b) (fun x v _ => (refl x).settle v cancel fail)
    (t.each (t.bank b).queue fun x v => x.unqueue v 2 cancel)
  exact (((h.trans hq).trans hc).hsPut b false).bankShow b

theorem cutBanks (h : PowerKept s t) (l : List Nat) (fail : Nat) : PowerKept s (t.cutBanks l fail) :=
  h.trans (.each l (fun x b _ => (refl x).settleBank b 0x04 fail) t)

/-! ### Analog outputs and fans (R65, R66) -/

theorem aoSafe (h : PowerKept s t) : PowerKept s t.aoSafe := by
  refine h.trans (.each _ (fun x n _ => ?_) t)
  have hcode : 0x100000 ≤ AIO_AO_CODE n := by unfold AIO_AO_CODE; omega
  have hstatus : 0x100000 ≤ AIO_AO_STATUS n := by unfold AIO_AO_STATUS; omega
  exact ((((refl x).put _ hcode).put _ hcode).put _ hcode).putB _ hstatus

theorem fansCut (h : PowerKept s t) : PowerKept s t.fansCut := by
  refine h.trans (.each _ (fun x f _ => ?_) t)
  unfold State.fanPeriod
  split
  · have hsup := x.fanSupplied_frame f
    have hon := (x.fanSupplied f).fanPeriodOn_frame f
    have hframe := hsup.trans hon
    exact ⟨(congrArg State.pwr hframe.rest :), hframe.regs _ (by simpa using State.pwrStatus_ne_fanStatus f)⟩
  · exact refl x

end PowerKept

/-! ### Updates of the management plane alone -/

/-- `t` has the power block of `s`, and the registers of all planes but the management plane. -/
structure UnitsKept (s t : State) : Prop where
  pwr : t.pwr = s.pwr
  regs : ∀ a, planeOf a ≠ .mgmt → t.reg a = s.reg a

namespace UnitsKept
variable {s t u : State}

theorem refl (s : State) : UnitsKept s s := ⟨rfl, fun _ _ => rfl⟩
theorem trans (h : UnitsKept s t) (k : UnitsKept t u) : UnitsKept s u :=
  ⟨k.pwr.trans h.pwr, fun a ha => (k.regs a ha).trans (h.regs a ha)⟩

theorem setReg (h : UnitsKept s t) {a : Nat} (w : Word) (ha : planeOf a = .mgmt) : UnitsKept s (t.setReg a w) :=
  ⟨h.pwr, fun b hb => (State.reg_setReg_ne _ _ (fun e => hb (by rw [e, ha]))).trans (h.regs b hb)⟩
theorem put (h : UnitsKept s t) {f : Fld} (n : Nat) (ha : planeOf f.addr = .mgmt) : UnitsKept s (t.put f n) :=
  h.setReg _ ha
theorem putB (h : UnitsKept s t) {f : Fld} (b : Bool) (ha : planeOf f.addr = .mgmt) : UnitsKept s (t.putB f b) :=
  h.setReg _ ha
theorem raise (h : UnitsKept s t) {f : Fld} (n : Nat) (ha : planeOf f.addr = .mgmt) : UnitsKept s (t.raise f n) :=
  h.setReg _ ha

theorem of_pwr (h : UnitsKept s t) (hp : u.pwr = t.pwr) (hr : u.regs = t.regs) : UnitsKept s u :=
  ⟨hp.trans h.pwr, fun a ha => (State.reg_congr hr a).trans (h.regs a ha)⟩

theorem withLog (h : UnitsKept s t) (x : Recorder) : UnitsKept s (t.withLog x) := h.of_pwr rfl rfl
theorem withDisp (h : UnitsKept s t) (x : Display) : UnitsKept s (t.withDisp x) := h.of_pwr rfl rfl
theorem withStrip (h : UnitsKept s t) (x : Strip) : UnitsKept s (t.withStrip x) := h.of_pwr rfl rfl

theorem ite {c : Prop} [Decidable c] (h : UnitsKept s t) (k : UnitsKept s u) : UnitsKept s (if c then t else u) := by
  split <;> assumption

theorem each {α : Type} {f : State → α → State} (l : List α) (hf : ∀ t a, UnitsKept t (f t a)) (s : State) :
    UnitsKept s (s.each l f) := by
  induction l generalizing s with
  | nil => exact refl s
  | cons a l ih => exact (hf s a).trans (ih (f s a))

theorem ev (h : UnitsKept s t) (p c a b d : Nat) (v : Bool) (hp : p < 16) : UnitsKept s (t.ev p c a b d v) := by
  refine ⟨(State.ev_pwr ..).trans h.pwr, fun r hr => ?_⟩
  have hdrop : planeOf (LOG_DROP p) = .mgmt := by
    revert p
    decide
  have h1 : r ≠ LOG_STATUS := fun e => hr (by rw [e]; decide)
  have h2 : r ≠ LOG_DROP p := fun e => hr (by rw [e, hdrop])
  exact (State.reg_ev _ _ _ _ _ _ _ h1 h2).trans (h.regs r hr)

theorem get (h : UnitsKept s t) {k : Fld} (hk : planeOf k.addr ≠ .mgmt) : t.get k = s.get k := by
  rw [State.get, h.regs _ hk, State.get]

theorem power (h : UnitsKept s t) : PowerKept s t := ⟨h.pwr, h.regs _ (by decide)⟩

/-! ### The recorder (R431 to R444) -/

theorem pondRegs (h : UnitsKept s t) : UnitsKept s t.pondRegs :=
  (((h.put _ (by decide)).put _ (by decide)).put _ (by decide)).raise _ (by decide)

theorem irqRecord (h : UnitsKept s t) (sev : Nat) : UnitsKept s (t.irqRecord sev) := .ite (h.putB _ (by decide)) h

theorem dirtyAll (h : UnitsKept s t) : UnitsKept s t.dirtyAll :=
  (h.put (f := DISP_DIRTY_ROWS) (t.get DISP_DIRTY_ROWS ||| 0xFFFF) (by decide)).of_pwr rfl rfl

theorem sourceChanged (h : UnitsKept s t) : UnitsKept s t.sourceChanged := h.dirtyAll.put _ (by decide)

theorem bindShow (h : UnitsKept s t) (code : Nat) : UnitsKept s (t.bindShow code) := by
  unfold State.bindShow
  split
  · exact h
  · exact .ite ((((h.withDisp _).putB _ (by decide)).sourceChanged).ev _ _ _ _ _ _ (by decide)) h

theorem unfreeze (h : UnitsKept s t) (cause : Nat) : UnitsKept s (t.unfreeze cause) := by
  have hthawed := h.withLog { t.log with freeze := none }
  exact .ite (((hthawed.putB _ (by decide)).put _ (by decide)).ev _ _ _ _ _ _ (by decide)) h

theorem pondEnter (h : UnitsKept s t) (src depth : Nat) (e : Submit) : UnitsKept s (t.pondEnter src depth e) := by
  have hentered (l : Recorder) := (((h.withLog l).pondRegs).irqRecord e.sev).bindShow e.code
  exact .ite ((hentered _).unfreeze 1) (hentered _)

theorem overflowRecord (h : UnitsKept s t) : UnitsKept s t.overflowRecord := by
  exact ((h.withLog _).putB _ (by decide)).pondEnter _ _ _

theorem takePort (h : UnitsKept s t) (p : Nat) : UnitsKept s (t.takePort p) := by
  unfold State.takePort
  split
  · exact h
  · exact (h.withLog _).pondEnter _ _ _

theorem intakeCycle (h : UnitsKept s t) (fill : Nat) : UnitsKept s (t.intakeCycle fill) := by
  unfold State.intakeCycle
  split
  · exact h
  · split
    · exact h.overflowRecord
    · rcases t.log.nextPort fill with _ | p
      · exact h
      · exact h.takePort p

theorem intakeAll (h : UnitsKept s t) : UnitsKept s t.intakeAll :=
  h.trans (.each _ (fun x _ => .ite ((refl x).intakeCycle _) (refl x)) t)

theorem pondNow (h : UnitsKept s t) (code : Nat) : UnitsKept s (t.pondNow code) :=
  (h.intakeAll.ev _ _ _ _ _ _ (by decide)).intakeAll

/-! ### The display, the strip and what runs in the management plane (R65, R427, R466) -/

theorem darken (h : UnitsKept s t) : UnitsKept s t.darken := by
  refine h.of_pwr ?_ ?_
  · exact t.darken_of State.pwr fun _ => rfl
  · exact t.darken_of State.regs fun _ => rfl

theorem discharge (h : UnitsKept s t) (after : Nat) : UnitsKept s (t.discharge after) := by
  have hshown := ((h.darken.put (f := DISP_STATUS_STATE) panelDischarging (by decide)).putB (f := DISP_STATUS_DISCHARGED)
    false (by decide))
  exact hshown.of_pwr rfl rfl

theorem commitEnd (h : UnitsKept s t) (status reason : Nat) : UnitsKept s (t.commitEnd status reason) :=
  .ite (((h.putB _ (by decide)).put _ (by decide)).put _ (by decide)) h

theorem panelSluice (h : UnitsKept s t) : UnitsKept s t.panelSluice :=
  .ite (h.commitEnd 2 1) ((h.commitEnd 2 1).discharge _)

theorem stripEnd (h : UnitsKept s t) (status reason : Nat) : UnitsKept s (t.stripEnd status reason) :=
  ((h.putB _ (by decide)).put _ (by decide)).put _ (by decide)

theorem stripRest (h : UnitsKept s t) : UnitsKept s t.stripRest := h.put _ (by decide)

theorem stripPfail (h : UnitsKept s t) : UnitsKept s t.stripPfail := by
  have hend (c : Prop) [Decidable c] (b : Bool) :
      UnitsKept s (if c then (t.stripEnd 2 1).putB DISP_STRIP_CMD_BUSY b else t) :=
    .ite ((h.stripEnd 2 1).putB b (by decide)) h
  have hall {u : State} (hu : UnitsKept s u) (x : Strip) :=
    (hu.putB (f := DISP_STRIP_STATUS_REPEAT_PENDING) false (by decide)).withStrip x
  exact .ite (hall (hend _ _) _) (hall (hend _ _) _).stripRest

theorem millAbandon (h : UnitsKept s t) : UnitsKept s t.millAbandon := h.of_pwr rfl rfl

theorem recoveryAbandon (h : UnitsKept s t) : UnitsKept s t.recoveryAbandon := by
  have hput := (h.putB (f := REL_STATUS_HOLD) false (by decide)).put (f := REL_STATUS_RECOVERY) 0 (by decide)
  exact hput.of_pwr rfl rfl

end UnitsKept

end Sys2Proof.Machine
end

section
/-! PROOFS. The sluice from PFAIL to its marker (R62 to R70, R498 to R500), and the resets (R54, R77 to R79). -/

namespace Sys2Proof.Machine

open Reg

namespace State

/-! ### Outputs safe (R65, R66) -/

section Safe
variable {s : State}

/-- Fans that are held off have no drive. -/
theorem fanPeriod_held {f : Nat} (hcp : s.cpUp = true) (hh : s.fansHeld = true) :
    (s.fanPeriod f).get (FAN_STATUS_FORCE f) = 7 ∧ (s.fanPeriod f).get (FAN_STATUS_DUTY f) = 0 := by
  have hframe := s.fanSupplied_frame f
  have hpwr : (s.fanSupplied f).pwr = s.pwr := (congrArg State.pwr hframe.rest :)
  have hguard : (s.fanSupplied f).guard = s.guard := (congrArg State.guard hframe.rest :)
  have hheld : (s.fanSupplied f).fansHeld = true := by
    rw [fansHeld, hpwr, hguard]
    exact hh
  have hdrive : (s.fanSupplied f).fanDrive f = (7, 0) := by rw [fanDrive, hheld, if_pos rfl]
  rw [fanPeriod_up f hcp, fanPeriodOn_force, fanPeriodOn_held (by rw [hdrive]), hdrive]
  exact ⟨rfl, rfl⟩

theorem fanPeriod_frame (f : Nat) : FanFrame [FAN_STATUS f] f s (s.fanPeriod f) := by
  unfold fanPeriod
  split
  · exact (s.fanSupplied_frame f).trans ((s.fanSupplied f).fanPeriodOn_frame f)
  · exact FanFrame.refl ..

theorem fanStatus_ne {j k : Nat} (h : j ≠ k) : FAN_STATUS j ≠ FAN_STATUS k := by
  unfold FAN_STATUS
  omega

theorem fansCut_held (hcp : s.cpUp = true) (hh : s.fansHeld = true) (f : Nat) (hf : f < 16) :
    s.fansCut.get (FAN_STATUS_FORCE f) = 7 ∧ s.fansCut.get (FAN_STATUS_DUTY f) = 0 := by
  refine each_range_inv (P := fun j t => t.get (FAN_STATUS_FORCE j) = 7 ∧ t.get (FAN_STATUS_DUTY j) = 0)
    (Q := fun _ t => t.cpUp = true ∧ t.fansHeld = true) 16 (fun t k _ h => fanPeriod_held h.1 h.2) ?_ ?_
    (fun _ => ⟨hcp, hh⟩) f hf
  · intro t k j hj ⟨h7, h0⟩
    have hreg : (t.fanPeriod k).reg (FAN_STATUS j) = t.reg (FAN_STATUS j) :=
      (fanPeriod_frame k).regs _ (by simpa using fanStatus_ne hj)
    exact ⟨(congrArg (fun w => bits w 27 24) hreg).trans h7, (congrArg (fun w => bits w 23 16) hreg).trans h0⟩
  · intro t k _ _ ⟨hcp, hh⟩
    have hrest := (fanPeriod_frame (s := t) k).rest
    have hpwr : (t.fanPeriod k).pwr = t.pwr := (congrArg State.pwr hrest :)
    have hguard : (t.fanPeriod k).guard = t.guard := (congrArg State.guard hrest :)
    rw [cpUp, fansHeld, hpwr, hguard]
    exact ⟨hcp, hh⟩

/-- The state as the outputs have been made safe, but for the fans. -/
def safeUnits (s : State) : State :=
  ((((s.withPwr { s.pwr with safe := true }).putB SYS_STATUS_SAFE true).send (.pin "SAFE" true)).cutBanks allBanks
    0x17).aoSafe

theorem safeUnits_kept (s : State) : PowerKept (s.withPwr { s.pwr with safe := true }) s.safeUnits := by
  have hshown : PowerKept (s.withPwr { s.pwr with safe := true })
      (((s.withPwr { s.pwr with safe := true }).putB SYS_STATUS_SAFE true).send (.pin "SAFE" true)) :=
    ⟨rfl, reg_putB_ne _ _ _ (by decide)⟩
  exact (hshown.cutBanks _ _).aoSafe

/-- During a sluice the outputs are made safe, the fans off (R65). -/
theorem safeAssert_sluice (h : s.pwr.sluice.isSome = true) : s.safeAssert = s.safeUnits.fansCut ∧
    s.safeUnits.fansHeld = true := by
  have hheld : s.safeUnits.fansHeld = true := by
    rw [fansHeld, s.safeUnits_kept.pwr, withPwr_pwr, h]
    rfl
  exact ⟨if_pos hheld, hheld⟩

end Safe

/-! ### A sluice begins (R65) -/

/-- The power block of a sluice that begins. -/
def sluicePwr (s : State) (cmd : Bool) : Power := { s.pwr with
  sluice := some { cmd := cmd, pfailInTime := !cmd, halted := s.guard.halted }, unmarked := s.pwr.unmarked || !cmd }

/-- The steps 1 and 2 that the management plane takes. -/
def sluiceSettle (s : State) (cmd : Bool) : State :=
  let b := s.millAbandon.recoveryAbandon
  let c := if cmd then b else b.pondNow 0x1001
  let d := c.stripPfail.panelSluice
  let e : State := { d with caddy := { d.caddy with swap := none } }
  (e.busyShow).putB SYS_STATUS_DP_RUN false

theorem sluiceBegin_eq (s : State) (cmd : Bool) : s.sluiceBegin cmd =
    ((s.withPwr (s.sluicePwr cmd)).safeAssert.sluiceSettle cmd).putB PWR_STATUS_SLUICE_ACTIVE true := rfl

theorem sluiceSettle_kept (s : State) (cmd : Bool) : UnitsKept s (s.sluiceSettle cmd) := by
  have hb := (UnitsKept.refl s).millAbandon.recoveryAbandon
  have hd := (UnitsKept.ite (c := cmd = true) hb (hb.pondNow 0x1001)).stripPfail.panelSluice
  have he (x : Caddy) : UnitsKept s { (if cmd = true then s.millAbandon.recoveryAbandon else
      s.millAbandon.recoveryAbandon.pondNow 0x1001).stripPfail.panelSluice with caddy := x } := hd.of_pwr rfl rfl
  exact ((he _).putB _ (by decide)).putB _ (by decide)

theorem sluiceSettle_stops (s : State) (cmd : Bool) : (s.sluiceSettle cmd).get SYS_STATUS_DP_RUN = 0 :=
  get_putB_same _ _ _ (by decide)

/-- What a sluice that begins leaves in the power block, and of the fans. -/
structure SluiceBegun (cmd : Bool) (s t : State) : Prop where
  pwr : t.pwr = { s.sluicePwr cmd with safe := true }
  active : t.get PWR_STATUS_SLUICE_ACTIVE = 1
  stopped : t.get SYS_STATUS_DP_RUN = 0
  status : ∀ k : Fld, k.addr = PWR_STATUS → k.hi < 3 ∨ 3 < k.lo → t.get k = s.get k
  fans : s.pwr.rstCp = false → ∀ f < 16, t.get (FAN_STATUS_FORCE f) = 7 ∧ t.get (FAN_STATUS_DUTY f) = 0

theorem sluiceBegin_begun (s : State) (cmd : Bool) : SluiceBegun cmd s (s.sluiceBegin cmd) := by
  obtain ⟨hsafe, hheld⟩ := safeAssert_sluice (s := s.withPwr (s.sluicePwr cmd)) rfl
  have hkept := (s.withPwr (s.sluicePwr cmd)).safeUnits_kept
  have hcut := (PowerKept.refl (s.withPwr (s.sluicePwr cmd)).safeUnits).fansCut
  have hcp : (s.withPwr (s.sluicePwr cmd)).safeUnits.cpUp = !s.pwr.rstCp := by
    rw [cpUp, hkept.pwr]
    rfl
  have hfans (h : s.pwr.rstCp = false) := fansCut_held (hcp.trans (by rw [h]; rfl)) hheld
  have hpower := hkept.trans hcut
  rw [sluiceBegin_eq, hsafe]
  generalize (s.withPwr (s.sluicePwr cmd)).safeUnits.fansCut = u at hpower hfans
  have hu := u.sluiceSettle_kept cmd
  have hstops := u.sluiceSettle_stops cmd
  generalize u.sluiceSettle cmd = v at hu hstops
  refine ⟨hu.pwr.trans hpower.pwr, get_putB_same _ _ _ (by decide), ?_, fun k hk hlo => ?_, fun h f hf => ?_⟩
  · rw [get_putB_ne _ _ _ _ (by decide) (.inl (by decide)), hstops]
  · rw [get_putB_ne _ _ _ _ (by decide) (.inr hlo), get, hk, (hpower.trans hu.power).status, reg_withPwr, ← hk, get, reg_withPwr]
  · have hctl : planeOf (FAN_STATUS f) ≠ .mgmt := by
      have h1 : ¬ (0x050000 ≤ FAN_STATUS f ∧ FAN_STATUS f < 0x070000) := by unfold FAN_STATUS; omega
      have h2 : 0x100000 ≤ FAN_STATUS f ∧ FAN_STATUS f < 0x300000 := by unfold FAN_STATUS; omega
      rw [planeOf, if_neg h1, if_pos h2]
      decide
    obtain ⟨h7, h0⟩ := hfans h f hf
    have hne : FAN_STATUS f ≠ PWR_STATUS := (pwrStatus_ne_fanStatus f).symm
    rw [get_putB_ne _ _ _ _ (by decide) (.inl hne), get_putB_ne _ _ _ _ (by decide) (.inl hne), hu.get hctl, hu.get hctl]
    exact ⟨h7, h0⟩

/-! ### PFAIL (R62, R65, R499, R500) -/

section Pfail
variable {s : State}

theorem unfreeze_guard (s : State) (cause : Nat) : (s.unfreeze cause).guard = s.guard := by
  unfold unfreeze
  split
  · exact (ev_guard ..).trans rfl
  · rfl

/-- PFAIL as it is shown and driven. -/
def pfailShown (s : State) : State := (s.putB PWR_STATUS_PFAIL true).send (.pin "PFAIL" true)

/-- PFAIL with the management plane running joins a sluice, or starts one. -/
def pfailJoin (s : State) : State := match s.pwr.sluice with
  | some q => ((s.withPwr { s.pwr with
      sluice := some { q with cmd := false, pfailInTime := decide (q.step = 3) }, unmarked := true }).pondNow
        0x1001).unfreeze 3
  | none => (s.unfreeze 3).sluiceBegin false

theorem pfailJoin_none (h : s.pwr.sluice = none) : s.pfailJoin = (s.unfreeze 3).sluiceBegin false := by
  rw [pfailJoin, h]

theorem pfailJoin_some {q : Sluice} (h : s.pwr.sluice = some q) : s.pfailJoin = ((s.withPwr { s.pwr with
    sluice := some { q with cmd := false, pfailInTime := decide (q.step = 3) }, unmarked := true }).pondNow
      0x1001).unfreeze 3 := by
  rw [pfailJoin, h]

theorem pfail_up (h : s.aonUp = true) (hb : s.pwr.pfiBelow = true) (hp : s.on PWR_STATUS_PFAIL = false)
    (hm : s.pwr.rstMp = false) : s.pfail = s.pfailShown.pfailJoin := by
  have hno : ¬ (!s.aonUp || !s.pwr.pfiBelow || s.on PWR_STATUS_PFAIL) = true := by simp [h, hb, hp]
  have hup : ¬ (s.putB PWR_STATUS_PFAIL true).pwr.rstMp = true := by
    rw [putB_pwr, hm]
    decide
  rw [pfail, if_neg hno]
  exact if_neg hup

theorem pfail_held (h : s.aonUp = true) (hb : s.pwr.pfiBelow = true) (hp : s.on PWR_STATUS_PFAIL = false)
    (hm : s.pwr.rstMp = true) (hd : s.pwr.sluiceDone = false) (hr : Room s portAon) :
    s.pfail = (((s.putB PWR_STATUS_PFAIL true).wrote portAon (record 0x1001 0 0 0 false)).withPwr
      { s.pwr with sluiceDone := true, unmarked := true }).send (.pin "PFAIL" true) := by
  have hno : ¬ (!s.aonUp || !s.pwr.pfiBelow || s.on PWR_STATUS_PFAIL) = true := by simp [h, hb, hp]
  have hdown : (s.putB PWR_STATUS_PFAIL true).pwr.rstMp = true := hm
  have hgo : ¬ (s.putB PWR_STATUS_PFAIL true).pwr.sluiceDone = true := by
    rw [putB_pwr, hd]
    decide
  rw [pfail, if_neg hno]
  refine (if_pos hdown).trans ((if_neg hgo).trans ?_)
  rw [aev, ev_of_room (hr.putB PWR_STATUS_PFAIL true)]
  rfl

end Pfail

/-! ### The flush and the last word (R65, R67, R427, R428) -/

section Flush
variable {s : State} {q : Sluice}

/-- A record that is submitted does not reach the pond yet. -/
theorem submit_pond (s : State) (p : Nat) (e : Submit) : (s.submit p e).log.pond = s.log.pond := by
  unfold submit dropRecord
  dsimp only
  repeat' split
  all_goals rfl

theorem ev_pond (s : State) (p c a b d : Nat) (v : Bool) : (s.ev p c a b d v).log.pond = s.log.pond := submit_pond ..

theorem headFull_pond (s : State) (n : Nat) : (s.headFull n).log.pond = s.log.pond := by
  unfold headFull
  dsimp only
  repeat' split
  · exact ev_pond ..
  all_goals rfl

theorem flushPlaced_pond (s : State) : (s.flushPlaced s.log.pond.length).log.pond = [] := by
  have hregs : ((s.flushRecords s.log.pond.length).log.pond) = s.log.pond.drop s.log.pond.length :=
    (headFull_pond _ _).trans rfl
  have hplace (u : State) (n : Nat) : (u.advancePlace n).log.pond = u.log.pond := rfl
  rw [flushPlaced, hplace, hregs, List.drop_length]

theorem flushAll_pond (s : State) (bad : Nat) : (s.flushAll bad).log.pond = [] := flushPlaced_pond _

/-- The test of R67 after the flush, on the sluice that goes on to step 5 without it. -/
def lastWordTest (b : State) (q : Sluice) : State :=
  if !q.pfailInTime || !b.stripUsed then b.setSluice q
  else if !q.halted && b.strip.clear = 0 && b.lastWordAdmits b.stripBand.1 then
    { ((b.setSluice { q with step := 4 }).latchFlags b.stripBand.2) with
      strip := { b.strip with lastWord := some b.stripBand.1 } }
  else b.setSluice { q with lwSkipped := true }

theorem sluiceFlushed_step {t n : Nat} (hq : s.pwr.sluice = some q) (h3 : q.step = 3) : s.sluiceFlushed t n =
    (s.flushAll n).flushEndEntry.lastWordTest { q with step := 5, flushTime := t, records := s.flushCount n } := by
  rw [sluiceFlushed, hq]
  exact if_neg (not_not.mpr h3)

theorem flushEndEntry_pond (s : State) : s.flushEndEntry.log.pond = s.log.pond := rfl
theorem flushEndEntry_end (s : State) : s.flushEndEntry.log.flushEnd = some (s.flushEndEntry.log.nextSeq - 1) := rfl
theorem flushEndEntry_strip (s : State) : s.flushEndEntry.strip = s.strip := rfl
theorem stripUsed_flushEndEntry (s : State) : s.flushEndEntry.stripUsed = s.stripUsed := rfl
theorem stripBand_flushEndEntry (s : State) : s.flushEndEntry.stripBand = s.stripBand := rfl
theorem lastWordAdmits_flushEndEntry (s : State) (n : Nat) : s.flushEndEntry.lastWordAdmits n = s.lastWordAdmits n := rfl

theorem lastWordTest_untested (h : q.pfailInTime = false) : s.lastWordTest q = s.setSluice q := by
  simp [lastWordTest, h]

theorem lastWordTest_admits (hp : q.pfailInTime = true) (hu : s.stripUsed = true) (hh : q.halted = false)
    (hc : s.strip.clear = 0) (ha : s.lastWordAdmits s.stripBand.1 = true) : s.lastWordTest q =
      ((s.setSluice { q with step := 4 }).latchFlags s.stripBand.2).withStrip
        { s.strip with lastWord := some s.stripBand.1 } := by
  have hno : ¬ (!q.pfailInTime || !s.stripUsed) = true := by simp [hp, hu]
  have hyes : (!q.halted && s.strip.clear = 0 && s.lastWordAdmits s.stripBand.1) = true := by simp [hh, hc, ha]
  exact (if_neg hno).trans (if_pos hyes)

theorem lastWordTest_skips (hp : q.pfailInTime = true) (hu : s.stripUsed = true)
    (h : q.halted = true ∨ s.strip.clear ≠ 0 ∨ s.lastWordAdmits s.stripBand.1 = false) :
    s.lastWordTest q = s.setSluice { q with lwSkipped := true } := by
  have hno : ¬ (!q.pfailInTime || !s.stripUsed) = true := by simp [hp, hu]
  have hyes : ¬ (!q.halted && s.strip.clear = 0 && s.lastWordAdmits s.stripBand.1) = true := by
    rcases h with h | h | h <;> simp [h]
  exact (if_neg hno).trans (if_neg hyes)

theorem latchFlags_pwr (s : State) (x : Bool × Bool) : (s.latchFlags x).pwr = s.pwr := by
  unfold latchFlags
  split <;> rfl

theorem latchFlags_log (s : State) (x : Bool × Bool) : (s.latchFlags x).log = s.log := by
  unfold latchFlags
  split <;> rfl

/-! ### The last word's end and the marker (R65, R70, R77) -/

/-- The sluice waveform has come to its end. -/
def wordEnded (s : State) : Bool := match s.strip.run with
  | some r => decide (r.kind = 1) && r.ending
  | none => false

theorem sluiceWordDone_over (hq : s.pwr.sluice = some q) (h4 : q.step = 4) (hw : s.strip.lastWord = none)
    (he : s.wordEnded = true ∨ s.strip.run = none) :
    s.sluiceWordDone = s.setSluice { q with step := 5, lwDone := s.wordEnded } := by
  have hgo : ¬ (q.step ≠ 4 || s.strip.lastWord.isSome || !(s.wordEnded || s.strip.run.isNone)) = true := by
    rcases he with he | he <;> simp [h4, hw, he]
  rw [sluiceWordDone, hq]
  exact if_neg hgo

theorem markerStrip_pwr (s : State) : s.markerStrip.pwr = s.pwr := by
  unfold markerStrip
  repeat' split
  all_goals rfl

/-- The power block as the marker of a sluice leaves it, before the planes are reset. -/
def markedPwr (s : State) (q : Sluice) : Power := { s.pwr with
  savedOptime := s.optime, savedPcc := s.pcc, savedSite := if s.pwr.rstMp then s.tim.aon else s.tim.site
  marker := q.marker, unmarked := false, skipReport := q.lwSkipped }

theorem flushEndEntry_pwr (s : State) : s.flushEndEntry.pwr = s.pwr := rfl

theorem sluiceMarked_marks (hq : s.pwr.sluice = some q) (h5 : q.step = 5) (hr : s.stripRuns q = false) :
    ∃ u : State, u.pwr = s.markedPwr q ∧ s.sluiceMarked = u.planesReset 0x06 := by
  have hgo : ¬ (q.step ≠ 5 || s.stripRuns q) = true := by simp [h5, hr]
  refine ⟨(s.lifeSave.flushEndEntry).markerStrip.withPwr { (s.lifeSave.flushEndEntry).markerStrip.pwr with
    marker := q.marker, unmarked := false, skipReport := q.lwSkipped }, ?_, ?_⟩
  · rw [withPwr_pwr, markerStrip_pwr, flushEndEntry_pwr, lifeSave_eq, withPwr_pwr, markedPwr]
  · rw [sluiceMarked, hq]
    exact if_neg hgo

theorem sluiceMarked_waits (hq : s.pwr.sluice = some q) (hr : s.stripRuns q = true) : s.sluiceMarked = s := by
  rw [sluiceMarked, hq]
  exact if_pos (by simp [hr])

theorem sluiceMarked_none (h : s.pwr.sluice = none) : s.sluiceMarked = s := by rw [sluiceMarked, h]
theorem sluiceWordDone_none (h : s.pwr.sluice = none) : s.sluiceWordDone = s := by rw [sluiceWordDone, h]

end Flush

end State

theorem exec_pfailAssert_eq (s : State) : exec .pfailAssert s = .next s.pfail := rfl
theorem exec_sluiceFlushDone_eq (u : FlushRun) (s : State) :
    exec (.sluiceFlushDone u) s = .next (s.sluiceFlushed u.time10us.toNat u.bad.val) := rfl
theorem exec_sluiceLastWordDone_eq (s : State) : exec .sluiceLastWordDone s = .next s.sluiceWordDone := rfl
theorem exec_sluiceMarkerWritten_eq (s : State) : exec .sluiceMarkerWritten s = .next s.sluiceMarked := rfl

theorem exec_pfailAssert_starts (s : State) :
    s.aonUp = true → s.pwr.pfiBelow = true → s.on PWR_STATUS_PFAIL = false → s.pwr.rstMp = false →
    s.pwr.sluice = none →
    ∃ t, exec .pfailAssert s = .next t ∧ t.on PWR_STATUS_SLUICE_ACTIVE = true ∧ t.on PWR_STATUS_PFAIL = true ∧
      t.pwr.safe = true ∧ t.pwr.unmarked = true ∧
      t.dpUp = false ∧ t.get SYS_STATUS_DP_RUN = 0 ∧
      (s.pwr.rstCp = false → ∀ f : Fin 16, t.get (FAN_STATUS_FORCE f) = 7 ∧ t.get (FAN_STATUS_DUTY f) = 0) ∧
      t.pwr.sluice = some { cmd := false, pfailInTime := true, halted := s.guard.halted } := by
  intro h hb hp hm hs
  have hshown : s.pfailShown.on PWR_STATUS_PFAIL = true := by
    rw [State.on, State.pfailShown, State.get_send, State.get_putB_same _ _ _ (by decide)]
    rfl
  have hpwr : s.pfailShown.pwr = s.pwr := rfl
  have hguard : s.pfailShown.guard = s.guard := rfl
  rw [exec_pfailAssert_eq, State.pfail_up h hb hp hm, State.pfailJoin_none (by rw [hpwr, hs])]
  have hkept := (UnitsKept.refl s.pfailShown).unfreeze 3
  have hbegun := (s.pfailShown.unfreeze 3).sluiceBegin_begun false
  have hblock := hbegun.pwr
  rw [State.sluicePwr, hkept.pwr, State.unfreeze_guard, hpwr, hguard] at hblock
  have hpfail := hbegun.status PWR_STATUS_PFAIL rfl (by decide)
  rw [hkept.get (by decide)] at hpfail
  have hfans := hbegun.fans
  rw [hkept.pwr, hpwr] at hfans
  obtain ⟨-, hactive, hstopped, -, -⟩ := hbegun
  generalize (s.pfailShown.unfreeze 3).sluiceBegin false = t at hblock hpfail hfans hactive hstopped
  refine ⟨t, rfl, by rw [State.on, hactive]; rfl, by rw [State.on, hpfail]; exact hshown, ?_, ?_, ?_, hstopped,
    fun hcp f => hfans hcp f f.isLt, ?_⟩
  · rw [hblock]
  · rw [hblock]
    simp
  · rw [State.dpUp, hblock]
    simp
  · rw [hblock]
    rfl

theorem exec_pfailAssert_held (s : State) :
    s.aonUp = true → s.pwr.pfiBelow = true → s.on PWR_STATUS_PFAIL = false → s.pwr.rstMp = true →
    s.pwr.sluiceDone = false → Room s portAon →
    ∃ t, exec .pfailAssert s = .next t ∧ t.on PWR_STATUS_PFAIL = true ∧ t.pwr = { s.pwr with sluiceDone := true, unmarked := true } ∧
      SameRegs [PWR_STATUS] s t ∧ Logged portAon 0x1001 0 0 0 s t := by
  intro h hb hp hm hd hr
  rw [exec_pfailAssert_eq, State.pfail_held h hb hp hm hd hr]
  refine ⟨_, rfl, ?_, rfl, by simp, rfl⟩
  rw [State.on, State.get_send, State.get_withPwr, State.get_wrote, State.get_putB_same _ _ _ (by decide)]
  rfl

theorem exec_pfailAssert_joins (s : State) (q : Sluice) :
    s.aonUp = true → s.pwr.pfiBelow = true → s.on PWR_STATUS_PFAIL = false →
    s.pwr.rstMp = false → s.pwr.sluice = some q →
    ∃ t, exec .pfailAssert s = .next t ∧ t.pwr.sluice = some { q with cmd := false, pfailInTime := decide (q.step = 3) } ∧
      t.on PWR_STATUS_PFAIL = true ∧ t.pwr.unmarked = true := by
  intro h hb hp hm hs
  have hshown : s.pfailShown.on PWR_STATUS_PFAIL = true := by
    rw [State.on, State.pfailShown, State.get_send, State.get_putB_same _ _ _ (by decide)]
    rfl
  rw [exec_pfailAssert_eq, State.pfail_up h hb hp hm, State.pfailJoin_some (s := s.pfailShown) hs]
  generalize s.pfailShown = u at hshown
  have hkept := ((UnitsKept.refl (u.withPwr { u.pwr with
    sluice := some { q with cmd := false, pfailInTime := decide (q.step = 3) }, unmarked := true })).pondNow
      0x1001).unfreeze 3
  refine ⟨_, rfl, by rw [hkept.pwr, State.withPwr_pwr], ?_, by rw [hkept.pwr, State.withPwr_pwr]⟩
  rw [State.on, hkept.get (by decide), State.get_withPwr]
  exact hshown

theorem exec_sluiceFlushDone_untested (s : State) (q : Sluice) (u : FlushRun) :
    s.pwr.sluice = some q → q.step = 3 → q.pfailInTime = false →
    ∃ t, exec (.sluiceFlushDone u) s = .next t ∧ t.log.pond = [] ∧ t.log.flushEnd = some (t.log.nextSeq - 1) ∧
      t.pwr.sluice = some { q with step := 5, flushTime := u.time10us.toNat, records := s.flushCount u.bad } := by
  intro hq h3 hp
  rw [exec_sluiceFlushDone_eq, State.sluiceFlushed_step hq h3]
  have hpond := s.flushAll_pond u.bad.val
  generalize s.flushAll u.bad.val = v at hpond
  rw [State.lastWordTest_untested (by exact hp)]
  exact ⟨_, rfl, v.flushEndEntry_pond.trans hpond, v.flushEndEntry_end, rfl⟩

theorem exec_sluiceFlushDone_admits (s : State) (q : Sluice) (u : FlushRun) :
    s.pwr.sluice = some q → q.step = 3 → q.pfailInTime = true →
    (s.flushAll u.bad).stripUsed = true → q.halted = false → (s.flushAll u.bad).strip.clear = 0 → (s.flushAll u.bad).lastWordAdmits (s.flushAll u.bad).stripBand.1 = true →
    ∃ t, exec (.sluiceFlushDone u) s = .next t ∧ t.log.pond = [] ∧ t.strip.lastWord = some (s.flushAll u.bad).stripBand.1 ∧
      t.pwr.sluice = some { q with step := 4, flushTime := u.time10us.toNat, records := s.flushCount u.bad } := by
  intro hq h3 hp hu hh hc ha
  rw [exec_sluiceFlushDone_eq, State.sluiceFlushed_step hq h3]
  have hpond := s.flushAll_pond u.bad.val
  generalize s.flushAll u.bad.val = v at hpond hu hc ha ⊢
  rw [State.lastWordTest_admits (s := v.flushEndEntry) (by exact hp) hu (by exact hh) hc ha]
  refine ⟨_, rfl, ?_, rfl, ?_⟩
  · rw [State.withStrip_log, State.latchFlags_log]
    exact hpond
  · rw [State.withStrip_pwr, State.latchFlags_pwr]
    rfl

theorem exec_sluiceFlushDone_skips (s : State) (q : Sluice) (u : FlushRun) :
    s.pwr.sluice = some q → q.step = 3 → q.pfailInTime = true →
    (s.flushAll u.bad).stripUsed = true → (q.halted = true ∨ (s.flushAll u.bad).strip.clear ≠ 0 ∨ (s.flushAll u.bad).lastWordAdmits (s.flushAll u.bad).stripBand.1 = false) →
    ∃ t, exec (.sluiceFlushDone u) s = .next t ∧ t.log.pond = [] ∧ t.strip = (s.flushAll u.bad).strip ∧
      t.pwr.sluice = some { q with step := 5, flushTime := u.time10us.toNat, records := s.flushCount u.bad, lwSkipped := true } := by
  intro hq h3 hp hu h
  rw [exec_sluiceFlushDone_eq, State.sluiceFlushed_step hq h3]
  have hpond := s.flushAll_pond u.bad.val
  generalize s.flushAll u.bad.val = v at hpond hu h ⊢
  rw [State.lastWordTest_skips (s := v.flushEndEntry)
    (q := { q with step := 5, flushTime := u.time10us.toNat, records := s.flushCount u.bad.val }) hp hu h]
  exact ⟨_, rfl, hpond, rfl, rfl⟩

theorem exec_sluiceLastWordDone_ended (s : State) (q : Sluice) (r : WaveRun) :
    s.pwr.sluice = some q → q.step = 4 → s.strip.lastWord = none →
    s.strip.run = some r → r.kind = 1 → r.ending = true →
    ∃ t, exec .sluiceLastWordDone s = .next t ∧ t.pwr = { s.pwr with sluice := some { q with step := 5, lwDone := true } } ∧
      { t with pwr := s.pwr } = s := by
  intro hq h4 hw hr hk he
  have hended : s.wordEnded = true := by simp [State.wordEnded, hr, hk, he]
  rw [exec_sluiceLastWordDone_eq, State.sluiceWordDone_over hq h4 hw (.inl hended), hended]
  exact ⟨_, rfl, rfl, rfl⟩

theorem exec_sluiceLastWordDone_interrupted (s : State) (q : Sluice) :
    s.pwr.sluice = some q → q.step = 4 → s.strip.lastWord = none → s.strip.run = none →
    ∃ t, exec .sluiceLastWordDone s = .next t ∧ t.pwr = { s.pwr with sluice := some { q with step := 5, lwDone := false } } ∧
      { t with pwr := s.pwr } = s := by
  intro hq h4 hw hr
  have hended : s.wordEnded = false := by simp [State.wordEnded, hr]
  rw [exec_sluiceLastWordDone_eq, State.sluiceWordDone_over hq h4 hw (.inr hr), hended]
  exact ⟨_, rfl, rfl, rfl⟩

theorem exec_sluiceMarkerWritten_pfail (s : State) (q : Sluice) :
    s.pwr.sluice = some q → q.step = 5 → q.cmd = false → s.stripRuns q = false →
    ∃ t, exec .sluiceMarkerWritten s = .next t ∧ t.planesHeld = true ∧ t.pwr.sluiceDone = true ∧ t.pwr.sluice = none ∧
      t.pwr.marker = q.marker ∧ t.pwr.unmarked = false ∧ t.pwr.savedOptime = s.optime ∧ t.pwr.savedPcc = s.pcc ∧
      t.pwr.rstOut = false := by
  intro hq h5 hc hr
  obtain ⟨u, hu, hmarked⟩ := State.sluiceMarked_marks hq h5 hr
  have hsluice : u.pwr.sluice = some q := by
    rw [hu, State.markedPwr, hq]
  have hafter : u.doneAfter = true := by simp [State.doneAfter, hsluice, hc]
  have hpwr := u.planesReset_pwr 0x06
  rw [State.heldPwr, hafter, hu] at hpwr
  rw [exec_sluiceMarkerWritten_eq, hmarked]
  have hheld := u.planesReset_held 0x06
  generalize u.planesReset 0x06 = t at hpwr hheld
  refine ⟨t, rfl, hheld, ?_, ?_, ?_, ?_, ?_, ?_, ?_⟩
  all_goals rw [hpwr]
  all_goals rw [State.markedPwr]

theorem exec_sluiceMarkerWritten_command (s : State) (q : Sluice) :
    s.pwr.sluice = some q → q.step = 5 → q.cmd = true → s.pwr.sluiceDone = false →
    ∃ t, exec .sluiceMarkerWritten s = .next t ∧ t.planesHeld = true ∧ t.pwr.sluiceDone = false ∧
      t.get PWR_RESET_CAUSE_CAUSE = 6 := by
  intro hq h5 hc hd
  obtain ⟨u, hu, hmarked⟩ := State.sluiceMarked_marks hq h5 (by simp [State.stripRuns, hc])
  have hsluice : u.pwr.sluice = some q := by
    rw [hu, State.markedPwr, hq]
  have hdone : u.pwr.sluiceDone = false := by
    rw [hu, State.markedPwr, hd]
  have hafter : u.doneAfter = false := by simp [State.doneAfter, hsluice, hdone, hc]
  rw [exec_sluiceMarkerWritten_eq, hmarked]
  refine ⟨_, rfl, u.planesReset_held 0x06, ?_, u.planesReset_cause 0x06 hafter⟩
  rw [u.planesReset_pwr, State.heldPwr, hafter]

/-- Settles O15: a sluice begins with the outputs safe, flushes, decides on the last word, and ends with the marker. -/
theorem sluiceSteps : Obligations.SluiceSteps := by
  refine ⟨exec_pfailAssert_starts, exec_pfailAssert_held, exec_pfailAssert_joins, exec_sluiceFlushDone_untested,
    exec_sluiceFlushDone_admits, exec_sluiceFlushDone_skips, exec_sluiceLastWordDone_ended,
    exec_sluiceLastWordDone_interrupted, exec_sluiceMarkerWritten_pfail, fun s q hq hr => ?_,
    exec_sluiceMarkerWritten_command, fun s h => ⟨?_, ?_⟩⟩
  · rw [exec_sluiceMarkerWritten_eq, State.sluiceMarked_waits hq hr]
  · rw [exec_sluiceMarkerWritten_eq, State.sluiceMarked_none h]
  · rw [exec_sluiceLastWordDone_eq, State.sluiceWordDone_none h]

/-! ### Resets (R54, R60, R63, R77 to R79) -/

namespace State

section Resets
variable {s : State}

/-- The input's return in the sluice-done state restarts the module (R63). -/
theorem inputReturned_restarts (h : s.aonUp = true) (hd : s.pwr.sluiceDone = true) (hh : s.guard.halted = false) :
    s.inputReturned = ((((s.withPwr { s.pwr with pfiBelow := false, sluiceDone := false, refLeft := false }).putB
      PWR_STATUS_INPUT_OK true).countCycle).put PWR_RESET_CAUSE_CAUSE 0x03).putB PWR_STATUS_PFAIL false := by
  have hup : ¬ (!s.aonUp) = true := by simp [h]
  have hgo (t : State) (ht : t.pwr.sluiceDone = true) (hg : t.guard.halted = false) :
      (t.pwr.sluiceDone && (!t.guard.halted || (t.restartReady && t.guard.cooled))) = true := by simp [ht, hg]
  have hrestart (t : State) (hg : t.guard.halted = false) : t.sluiceRestart =
      (((t.withPwr { t.pwr with sluiceDone := false, refLeft := false }).countCycle.put PWR_RESET_CAUSE_CAUSE 0x03).putB
        PWR_STATUS_PFAIL false) := by
    rw [sluiceRestart, hg]
    rfl
  rw [inputReturned, if_neg hup]
  refine (if_pos (hgo ((s.withPwr { s.pwr with pfiBelow := false }).putB PWR_STATUS_INPUT_OK true) hd hh)).trans ?_
  exact (hrestart ((s.withPwr { s.pwr with pfiBelow := false }).putB PWR_STATUS_INPUT_OK true) hh).trans rfl

/-- A write of the reset key starts a sluice (R77). -/
theorem writeAt_resetCmd {req : Nat} {v : Word} (h : Writes s req PWR_RESET_CMD v) :
    s.writeAt req PWR_RESET_CMD v = (s.store PWR_RESET_CMD v).sluiceBegin true := by
  obtain ⟨hup, hl, hwait, hok⟩ := h
  rw [writeAt_now hl hwait (by decide), writeCore, hup, hok]
  rfl

theorem store_pwr (s : State) (a : Nat) (w : Word) : (s.store a w).pwr = s.pwr := by
  rcases s.store_cases a w with h | ⟨v, h⟩ <;> rw [h]
  rfl

theorem store_guard (s : State) (a : Nat) (w : Word) : (s.store a w).guard = s.guard := by
  rcases s.store_cases a w with h | ⟨v, h⟩ <;> rw [h]
  rfl

theorem external_down {n : Nat} (h : s.aonUp = true) (hd : s.heldDown = true) : s.external n = s.sampleStraps n := by
  simp only [external, h, hd, Bool.not_true, Bool.false_eq_true, if_false, if_true]

theorem external_resets {n : Nat} (h : s.aonUp = true) (hd : s.heldDown = false) : s.external n =
    (if s.planesHeld then s.heldReset 0x02 else s.planesReset 0x02).sampleStraps n := by
  simp only [external, h, hd, Bool.not_true, Bool.false_eq_true, if_false]

theorem heldReset_eq (s : State) (n : Nat) :
    s.heldReset n = (s.withPwr { s.pwr with refLeft := false }).put PWR_RESET_CAUSE_CAUSE n := rfl

theorem planesHeld_sampleStraps (s : State) (n : Nat) : (s.sampleStraps n).planesHeld = s.planesHeld := rfl
theorem get_sampleStraps (s : State) (n : Nat) (k : Fld) : (s.sampleStraps n).get k = s.get k := get_congr rfl k

theorem sluiceDone_of_up (h : s.heldDown = false) : s.pwr.sluiceDone = false := by
  rw [heldDown, Bool.or_eq_false_iff] at h
  exact h.1

end Resets

/-! ### Power-on (R60, R77, R79) -/

/-- The registers that a power-on reset writes. -/
def powerShown (s : State) (op pcc : Nat) (set : Bool) : State :=
  (((((s.setOptime op).put PWR_CYCLE_COUNT_COUNT pcc).countCycle).put PWR_RESET_CAUSE_CAUSE 0x01).spareShow).putB
    DISP_STATUS_VF0_SET set

theorem powerOn_eq (s : State) (n : Nat) : s.powerOn n = ((s.powerClear n).powerShown
    (max s.pwr.savedOptime s.latestRecord + 1) s.pwr.savedPcc s.stress.savedVf0Set).drivePins := rfl

theorem powerShown_cause (s : State) (op pcc : Nat) (set : Bool) :
    (s.powerShown op pcc set).get PWR_RESET_CAUSE_CAUSE = 1 := by
  simp [powerShown, spareShow, get_putB_ne, get_put_ne, get_put_same]

/-- What neither a message nor a register shows of a power-on reset. -/
theorem powerOn_rest {β : Type} (p : State → β) (hsend : ∀ (t : State) o, p (t.send o) = p t)
    (hreg : ∀ (t : State) a w, p (t.setReg a w) = p t) (s : State) (n : Nat) : p (s.powerOn n) = p (s.powerClear n) := by
  rw [powerOn_eq]
  refine (drivePins_keeps p hsend _).trans ?_
  exact (hreg ..).trans ((hreg ..).trans ((hreg ..).trans ((hreg ..).trans ((hreg ..).trans ((hreg ..).trans
    ((hreg ..).trans (hreg ..)))))))

end State

theorem exec_sluiceRestart_eq (s : State) : exec .sluiceRestart s = .next s.inputReturned := rfl
theorem exec_commandReset_eq (req : Nat) (s : State) :
    exec (.commandReset req) s = .next (s.writeAt req PWR_RESET_CMD 0xB0070000) := rfl
theorem exec_externalReset_eq (st : BitVec 3) (s : State) :
    exec (.externalReset st) s = .next (s.external st.toNat) := rfl
theorem exec_testmodeAssert_eq (s : State) : exec .testmodeAssert s = .next s.testMode := rfl
theorem exec_testRelease_eq (s : State) : exec .testRelease s = .next s.testRelease := rfl
theorem exec_v1p8Collapse_eq (s : State) : exec .v1p8Collapse s = .next s.collapse := rfl
theorem exec_powerOnReset_eq (st : BitVec 3) (s : State) : exec (.powerOnReset st) s = .next (s.powerOn st.toNat) := rfl

theorem exec_sluiceRestart_restarts (s : State) :
    s.aonUp = true → s.pwr.sluiceDone = true → s.guard.halted = false →
    ∃ t, exec .sluiceRestart s = .next t ∧ t.pwr.sluiceDone = false ∧ t.pwr.pfiBelow = false ∧
      t.get PWR_RESET_CAUSE_CAUSE = 3 ∧ t.get PWR_STATUS_PFAIL = 0 ∧ t.get PWR_STATUS_INPUT_OK = 1 ∧
      t.get PWR_CYCLE_COUNT_COUNT = min (s.pcc + 1) 0xFFFFFF ∧
      SameRegs [PWR_CYCLE_COUNT, PWR_RESET_CAUSE, PWR_STATUS] s t := by
  intro h hd hh
  rw [exec_sluiceRestart_eq, State.inputReturned_restarts h hd hh]
  refine ⟨_, rfl, rfl, rfl, ?_, State.get_putB_same _ _ _ (by decide), ?_, ?_, by simp [State.countCycle]⟩
  · rw [State.get_putB_ne _ _ _ _ (by decide) (by decide)]
    exact State.get_put_same _ _ _ (by decide)
  · simp [State.countCycle, State.get_putB_ne, State.get_put_ne, State.get_incSat_ne, State.get_putB_same]
  · rw [State.get_putB_ne _ _ _ _ (by decide) (by decide), State.get_put_ne _ _ _ _ (by decide) (by decide),
      State.countCycle, State.get_incSat_same _ _ (by decide), State.get_putB_ne _ _ _ _ (by decide) (by decide),
      State.get_withPwr, State.pcc]
    rfl

theorem exec_commandReset_starts (req : Nat) (s : State) :
    Writes s req PWR_RESET_CMD 0xB0070000 →
    ∃ t, exec (.commandReset req) s = .next t ∧ t.on PWR_STATUS_SLUICE_ACTIVE = true ∧
      t.pwr.sluice = some { cmd := true, halted := s.guard.halted } ∧ t.pwr.unmarked = s.pwr.unmarked := by
  intro h
  have hpwr := s.store_pwr PWR_RESET_CMD 0xB0070000
  have hguard := s.store_guard PWR_RESET_CMD 0xB0070000
  rw [exec_commandReset_eq, State.writeAt_resetCmd h]
  generalize s.store PWR_RESET_CMD 0xB0070000 = u at hpwr hguard
  obtain ⟨hblock, hactive, -, -, -⟩ := u.sluiceBegin_begun true
  refine ⟨_, rfl, by rw [State.on, hactive]; rfl, ?_, ?_⟩
  · rw [hblock, State.sluicePwr, hguard]
    rfl
  · rw [hblock, State.sluicePwr, hpwr, Bool.not_true, Bool.or_false]

theorem exec_externalReset_resets (st : BitVec 3) (s : State) :
    s.aonUp = true → s.heldDown = false → s.pwr.sluice = none →
    ∃ t, exec (.externalReset st) s = .next t ∧ t.planesHeld = true ∧ t.pwr.straps = st.toNat ∧
      t.get PWR_RESET_CAUSE_CAUSE = 2 := by
  intro h hd hs
  have hafter : s.doneAfter = false := s.doneAfter_false (State.sluiceDone_of_up hd) hs
  rw [exec_externalReset_eq, State.external_resets h hd]
  by_cases hheld : s.planesHeld = true
  · rw [if_pos hheld, State.heldReset_eq]
    exact ⟨_, rfl, hheld, rfl, (State.get_sampleStraps ..).trans (State.get_put_same _ _ _ (by decide))⟩
  · rw [if_neg hheld]
    exact ⟨_, rfl, (State.planesHeld_sampleStraps ..).trans (s.planesReset_held 2), rfl,
      (State.get_sampleStraps ..).trans (s.planesReset_cause 2 hafter)⟩

theorem exec_testmodeAssert_holds (s : State) :
    s.pwr.testmode = false → ∃ t, exec .testmodeAssert s = .next t ∧ t.planesHeld = true ∧ t.pwr.testmode = true := by
  intro h
  have htest : s.testMode = (fun t : State => t.withPwr { t.pwr with testmode := true })
      (if s.planesHeld then s else s.planesReset (s.get PWR_RESET_CAUSE_CAUSE)) := by
    rw [State.testMode, h]
    rfl
  rw [exec_testmodeAssert_eq, htest]
  refine ⟨_, rfl, ?_, rfl⟩
  have hkept (t : State) : (t.withPwr { t.pwr with testmode := true }).planesHeld = t.planesHeld := rfl
  refine (hkept _).trans ?_
  split
  case isTrue hheld => exact hheld
  case isFalse => exact s.planesReset_held _

theorem exec_testRelease_resets (s : State) :
    s.pwr.testmode = true → s.heldDown = false →
    ∃ t, exec .testRelease s = .next t ∧ t.pwr = { s.pwr with testmode := false, refLeft := false } ∧ t.get PWR_RESET_CAUSE_CAUSE = 8 ∧
      SameRegs [PWR_RESET_CAUSE] s t := by
  intro h hd
  have hrelease : s.testRelease = (s.withPwr { s.pwr with testmode := false, refLeft := false }).put
      PWR_RESET_CAUSE_CAUSE 0x08 := by
    have hdown : (s.withPwr { s.pwr with testmode := false }).heldDown = false := hd
    have hno : ¬ (!s.pwr.testmode) = true := by simp [h]
    rw [State.testRelease, if_neg hno]
    exact (if_neg (by rw [Bool.not_eq_true]; exact hdown)).trans rfl
  rw [exec_testRelease_eq, hrelease]
  exact ⟨_, rfl, rfl, State.get_put_same _ _ _ (by decide), by simp⟩

theorem exec_powerOnReset_clears (st : BitVec 3) (s : State) :
    ∃ t, exec (.powerOnReset st) s = .next t ∧ t.planesHeld = true ∧ t.aonUp = true ∧
    t.get PWR_RESET_CAUSE_CAUSE = 1 ∧ t.pwr.straps = st.toNat ∧ t.pwr.pfiBelow = false ∧ t.pwr.sluiceDone = false ∧
    t.nv = s.nv ∧ t.snaps = s.snaps ∧ t.log.tail = s.log.tail ∧ t.log.head = s.log.head ∧ t.log.pond = [] ∧
    t.pending = s.pending := by
  have hpwr := State.powerOn_rest State.pwr (fun _ _ => rfl) (fun _ _ _ => rfl) s st.toNat
  have hnv := State.powerOn_rest State.nv (fun _ _ => rfl) (fun _ _ _ => rfl) s st.toNat
  have hsnaps := State.powerOn_rest State.snaps (fun _ _ => rfl) (fun _ _ _ => rfl) s st.toNat
  have hlog := State.powerOn_rest State.log (fun _ _ => rfl) (fun _ _ _ => rfl) s st.toNat
  have hpending := State.powerOn_rest State.pending (fun _ _ => rfl) (fun _ _ _ => rfl) s st.toNat
  have hcause : (s.powerOn st.toNat).get PWR_RESET_CAUSE_CAUSE = 1 := by
    rw [State.powerOn_eq]
    exact (State.drivePins_keeps (fun t => t.get PWR_RESET_CAUSE_CAUSE) (fun t o => t.get_send o _) _).trans
      (State.powerShown_cause ..)
  rw [exec_powerOnReset_eq]
  generalize s.powerOn st.toNat = t at hpwr hnv hsnaps hlog hpending hcause
  refine ⟨t, rfl, ?_, ?_, hcause, ?_, ?_, ?_, hnv, hsnaps, ?_, ?_, ?_, hpending⟩
  · rw [State.planesHeld, hpwr]
    rfl
  · rw [State.aonUp, hpwr]
    rfl
  · rw [hpwr]
    rfl
  · rw [hpwr]
    rfl
  · rw [hpwr]
    rfl
  · rw [hlog]
    rfl
  · rw [hlog]
    rfl
  · rw [hlog]
    rfl

/-- Settles O16: each reset is what `State.planesReset`, `State.powerOn` or a new cause leaves. -/
theorem resets : Obligations.Resets := by
  refine ⟨exec_sluiceRestart_restarts, exec_commandReset_starts, exec_externalReset_resets, fun st s h hd => ?_,
    exec_testmodeAssert_holds, exec_testRelease_resets, fun s h => ?_, fun s => ?_, exec_powerOnReset_clears⟩
  · rw [exec_externalReset_eq, State.external_down h hd]
    rfl
  · rw [exec_testRelease_eq, State.testRelease, h]
    rfl
  · rw [exec_v1p8Collapse_eq]
    exact ⟨_, rfl, s.planesReset_held _, rfl⟩

end Sys2Proof.Machine
end

section
/-! PROOFS. The release of the planes from reset (R54, R74, R78, R90, R94): what the start of the recorder, the reports
and the loader's look at the slots leave, and the statement about the release. -/

namespace Sys2Proof.Machine

open Reg

namespace State

/-- The state with another network. -/
def withNet (s : State) (x : Net) : State := { s with net := x }

section WithNet
variable (s : State) (x : Net)

theorem withNet_frame : { s.withNet x with net := s.net } = s := rfl
@[simp] theorem withNet_net : (s.withNet x).net = x := rfl
@[simp] theorem withNet_nv : (s.withNet x).nv = s.nv := rfl
@[simp] theorem withNet_tim : (s.withNet x).tim = s.tim := rfl
@[simp] theorem withNet_fab : (s.withNet x).fab = s.fab := rfl
@[simp] theorem withNet_pwr : (s.withNet x).pwr = s.pwr := rfl
@[simp] theorem withNet_log : (s.withNet x).log = s.log := rfl
@[simp] theorem withNet_caddy : (s.withNet x).caddy = s.caddy := rfl
@[simp] theorem get_withNet (f : Fld) : (s.withNet x).get f = s.get f := get_congr rfl f
@[simp] theorem on_withNet (f : Fld) : (s.withNet x).on f = s.on f := on_congr rfl f
@[simp] theorem reg_withNet (a : Nat) : (s.withNet x).reg a = s.reg a := reg_congr rfl a

end WithNet

@[simp] theorem sameRegs_withNet {l : List Nat} {s t : State} {x : Net} :
    SameRegs l s (t.withNet x) ↔ SameRegs l s t := sameRegs_congr rfl

/-- A power block but for what the reports of a release clear. -/
def withoutReports (p : Power) : Power := { p with unmarked := false, skipReport := false }

/-- What the starts of a release leave: the flash, site time, the fabric, the network, the loader and the power block
but for what its reports clear. -/
def startCore (s : State) : NonVol × TimeUnit × Fabric × Net × Caddy × Power :=
  (s.nv, s.tim, s.fab, s.net, s.caddy, withoutReports s.pwr)

section Core
variable {s : State}

@[simp] theorem startCore_setReg (a : Nat) (w : Word) : (s.setReg a w).startCore = s.startCore := rfl
@[simp] theorem startCore_put (f : Fld) (n : Nat) : (s.put f n).startCore = s.startCore := rfl
@[simp] theorem startCore_putB (f : Fld) (b : Bool) : (s.putB f b).startCore = s.startCore := rfl
@[simp] theorem startCore_raise (f : Fld) (n : Nat) : (s.raise f n).startCore = s.startCore := rfl
@[simp] theorem startCore_incSat (f : Fld) : (s.incSat f).startCore = s.startCore := rfl
@[simp] theorem startCore_withLog (x : Recorder) : (s.withLog x).startCore = s.startCore := rfl
@[simp] theorem startCore_withDisp (x : Display) : (s.withDisp x).startCore = s.startCore := rfl
@[simp] theorem startCore_withStrip (x : Strip) : (s.withStrip x).startCore = s.startCore := rfl
@[simp] theorem startCore_ev (p c a b d : Nat) (v : Bool) : (s.ev p c a b d v).startCore = s.startCore := by
  simp only [startCore, ev_nv, ev_tim, ev_fab, ev_net, ev_caddy, ev_pwr]

theorem startCore_ite {c : Prop} [Decidable c] {t u : State} (ht : t.startCore = s.startCore)
    (hu : u.startCore = s.startCore) : (if c then t else u).startCore = s.startCore := by
  split <;> assumption

theorem startCore_zoneSummary : s.zoneSummary.startCore = s.startCore := rfl
theorem startCore_stripStart : s.stripStart.startCore = s.startCore := by
  unfold stripStart
  dsimp only
  split <;> rfl

theorem startCore_pondRegs : s.pondRegs.startCore = s.startCore := rfl
theorem startCore_dirtyAll : s.dirtyAll.startCore = s.startCore := rfl
theorem startCore_sourceChanged : s.sourceChanged.startCore = s.startCore := rfl

theorem startCore_irqRecord (n : Nat) : (s.irqRecord n).startCore = s.startCore := startCore_ite rfl rfl

theorem startCore_bindShow (c : Nat) : (s.bindShow c).startCore = s.startCore := by
  unfold bindShow
  generalize s.disp.bindings.find? _ = o
  rcases o with _ | b
  · rfl
  · exact startCore_ite (startCore_ev ..) rfl

theorem startCore_unfreeze (c : Nat) : (s.unfreeze c).startCore = s.startCore := startCore_ite (startCore_ev ..) rfl

theorem startCore_pondEnter (src depth : Nat) (e : Submit) : (s.pondEnter src depth e).startCore = s.startCore := by
  have hentered (l : Recorder) : ((((s.withLog l).pondRegs).irqRecord e.sev).bindShow e.code).startCore = s.startCore :=
    (startCore_bindShow _).trans (startCore_irqRecord _)
  exact startCore_ite ((startCore_unfreeze 1).trans (hentered _)) (hentered _)

/-- The drops of the always-on block that the recorder takes up (R435). -/
theorem startCore_recorderStart : s.recorderStart.startCore = s.startCore := by
  have hshow (t : State) : t.wearShow.raceRegs.startCore = t.startCore := rfl
  have hlost (t : State) (c : Prop) [Decidable c] (e : Submit) :
      (if c then (t.putB LOG_STATUS_LOST_SEEN true).pondEnter portLog 1 e else t.pondRegs).startCore = t.startCore :=
    startCore_ite (startCore_pondEnter ..) rfl
  have hdrops (t : State) (c : Prop) [Decidable c] (x : Recorder) (n : Nat) :
      (if c then t else ((t.put (LOG_DROP_DROPPED 0) n).putB LOG_STATUS_OVERFLOW true).withLog x).startCore =
        t.startCore := startCore_ite rfl rfl
  have hclear (t : State) (c : Prop) [Decidable c] (x : Recorder) (b : Bool) :
      (if c then (t.putB LOG_STATUS_CLEARING true).withLog x else t.putB LOG_STATUS_HEAD_FULL b).startCore =
        t.startCore := startCore_ite rfl rfl
  exact (hshow _).trans ((hclear ..).trans ((hdrops ..).trans ((hlost ..).trans rfl)))

theorem startCore_hardRepair (f : Nat → Bool) : (s.hardRepair f).startCore = s.startCore :=
  (each_keeps (f := fun u a => (u.incSat REL_DRAM_SPARE_HARD_REPAIRS).rev 0xD00E a (Config.dramBank (Config.dramRow a)))
    startCore (fun _ _ => startCore_ev ..) _ _).trans rfl

theorem startCore_startReports : s.startReports.startCore = s.startCore := by
  have hcause (c : Prop) [Decidable c] (t : State) (x p0 : Nat) :
      (if c then t.aev x p0 else t).startCore = t.startCore := startCore_ite (startCore_ev ..) rfl
  have hrestarted (t : State) (o : Option (Nat × Nat × Nat)) : (match o with
      | some r => t.aev 0x2006 r.1 (par (toSigned 16 r.2.1)) r.2.2
      | none => t).startCore = t.startCore := by
    cases o
    · rfl
    · exact startCore_ev ..
  have hcleared (t : State) (l : List Nat) :
      (t.each l fun t v => t.ev (portValve (v / 8)) 0x3008 v 1).startCore = t.startCore :=
    each_keeps startCore (fun _ _ => startCore_ev ..) _ _
  have hlast (t : State) : ({ t with
      pwr := { t.pwr with unmarked := false, skipReport := false }
      guard := { t.guard with restarted := none }
      valve := { t.valve with cleared := [] } } : State).startCore = t.startCore := rfl
  unfold startReports
  exact (hlast _).trans ((hcleared _ _).trans ((hrestarted _ _).trans ((hcause ..).trans ((hcause ..).trans
    (hcause ..)))))

theorem startCore_slotShow (n r : Nat) : (s.slotShow n r).startCore = s.startCore := by
  have hkey (t : State) : (t.keyRecord n r).startCore = t.startCore := startCore_ite (startCore_ev ..) rfl
  have hshown (t : State) (c : Prop) [Decidable c] (m : Nat) (w : Word) :
      ((if c then t.put (CADDY_SLOT_STATUS_SECTIONS n) m else t).setReg (CADDY_SLOT_SEQ n) w).startCore = t.startCore :=
    startCore_ite rfl rfl
  exact (hkey _).trans ((hshown ..).trans rfl)

theorem startCore_loaderHeads : s.loaderHeads.startCore = s.startCore :=
  (startCore_slotShow _ _).trans ((startCore_slotShow _ _).trans (startCore_ite rfl (startCore_ev ..)))

end Core

/-! ### The planes leave reset (R74, R78) -/

/-- The power block as the planes leave reset. -/
def releasedPwr (s : State) : Power := { s.pwr with rstCp := false, rstDp := false, rstMp := false, rstOut := true }

/-- Site time as the planes leave reset: that of the always-on block (R154). -/
def releasedTim (s : State) : TimeUnit := { s.tim with
  site := s.tim.aon, cp := s.tim.aon, dp := s.tim.aon, mp := s.tim.aon }

/-- What the loader finds as it starts. -/
theorem planeRelease_starts {s : State} (octal : Bool) (a b : Nat) (rep : List Nat) (h : s.releaseReady = true) :
    ∃ u : State, u.startCore = ({ s.nv with octal := octal, bad := [(0, a), (1, b)] }, s.releasedTim, s.fab, s.net,
      s.caddy, withoutReports s.releasedPwr) ∧
      s.planeRelease octal a b rep = if s.pwr.straps.testBit 2 then u.enterBare 1 else u.chooseSlot := by
  have hno : ¬ (!s.releaseReady) = true := by simp [h]
  have hfacts (t : State) : (t.flashFacts octal a b).startCore = ({ t.nv with octal := octal, bad := [(0, a), (1, b)] },
      t.tim, t.fab, t.net, t.caddy, withoutReports t.pwr) := rfl
  have hcore : (((((((((s.withPwr s.releasedPwr).withTim s.releasedTim).send (.pin "nRSTOUT" true)).setReg PWR_SLUICE_LAST
      (if s.pwr.unmarked then s.pwr.marker &&& 0x7FFFFFFF else s.pwr.marker)).zoneSummary).recorderStart).stripStart).hardRepair
        (fun r => decide (r ∈ rep))).startReports).startCore =
      (s.nv, s.releasedTim, s.fab, s.net, s.caddy, withoutReports s.releasedPwr) :=
    startCore_startReports.trans ((startCore_hardRepair _).trans (startCore_stripStart.trans
      (startCore_recorderStart.trans rfl)))
  have hrelease : s.planeRelease octal a b rep = (((((((((s.withPwr s.releasedPwr).withTim s.releasedTim).send
      (.pin "nRSTOUT" true)).setReg PWR_SLUICE_LAST (if s.pwr.unmarked then s.pwr.marker &&& 0x7FFFFFFF else
        s.pwr.marker)).zoneSummary).recorderStart).stripStart).hardRepair
          (fun r => decide (r ∈ rep))).startReports.flashFacts octal a b).loaderStart := by
    rw [planeRelease, if_neg hno]
    rfl
  rw [hrelease]
  generalize (((((((((s.withPwr s.releasedPwr).withTim s.releasedTim).send (.pin "nRSTOUT" true)).setReg PWR_SLUICE_LAST
    (if s.pwr.unmarked then s.pwr.marker &&& 0x7FFFFFFF else s.pwr.marker)).zoneSummary).recorderStart).stripStart).hardRepair
      (fun r => decide (r ∈ rep))).startReports) = t at hcore
  simp only [startCore, Prod.mk.injEq] at hcore
  obtain ⟨hnv, htim, hfab, hnet, hcaddy, hpwr⟩ := hcore
  have hstraps : t.pwr.straps = s.pwr.straps := (congrArg Power.straps hpwr :)
  refine ⟨(t.flashFacts octal a b).loaderHeads, startCore_loaderHeads.trans ?_, ?_⟩
  · rw [hfacts, hnv, htim, hfab, hnet, hcaddy, hpwr]
  · rw [← hstraps]
    rfl

/-! ### The loader's first choice (R54, R90, R94) -/

section Choice
variable {s : State}

/-- What bare mode leaves of the planes and of the loader. -/
structure Bare (reason : Nat) (s t : State) : Prop where
  nv : t.nv = s.nv
  tim : t.tim = s.tim
  fab : t.fab = s.fab
  queue : t.net.mbQueue = s.net.mbQueue
  pwr : t.pwr = { s.pwr with rstCp := true, rstDp := true }
  caddy : t.caddy = { s.caddy with phase := 4 }
  shown : t.get CADDY_STATUS_BARE = 1 ∧ t.get CADDY_STATUS_BARE_REASON = reason % 256 ∧ t.get SYS_STATUS_BARE = 1

/-- The network as its start finds it. -/
def netFresh (s : State) (l : List Nat) : State := (s.ip6Show l).withNet { s.net with cand := none }

theorem netStart_eq (l : List Nat) : s.netStart l =
    if s.byDhcp then (s.netFresh l).dhcpSeek else (s.netFresh l).probeStart4 s.ownAddr := rfl

theorem ip6Show_rest {β : Type} (p : State → β) (l : List Nat) (hll : ∀ (t : State) i w, p (t.setReg (NET_IP6_LL i) w) = p t)
    (hstatic : ∀ (t : State) i w, p (t.setReg (NET_IP6_STATIC i) w) = p t)
    (hok : ∀ (t : State) w, p (t.setReg NET_STATUS w) = p t) : p (s.ip6Show l) = p s := by
  have hfold (f : State → Nat → State) (hf : ∀ t i, p (f t i) = p t) (m : List Nat) (t : State) :
      p (m.foldl f t) = p t := each_keeps p hf m t
  exact (hok ..).trans ((hfold _ (fun t i => hstatic ..) _ _).trans (hfold _ (fun t i => hll ..) _ _))

/-- The start of the network writes none of the registers of the loader. -/
theorem reg_netStart (l : List Nat) {a : Nat} (ha : a < 0x030000) : (s.netStart l).reg a = s.reg a := by
  have hshow : (s.ip6Show l).reg a = s.reg a :=
    ip6Show_rest (fun t => t.reg a) l (fun _ _ _ => reg_setReg_ne _ _ (by unfold NET_IP6_LL; omega))
      (fun _ _ _ => reg_setReg_ne _ _ (by unfold NET_IP6_STATIC; omega))
      (fun _ _ => reg_setReg_ne _ _ (by unfold NET_STATUS; omega))
  have hfresh : (s.netFresh l).reg a = s.reg a := (reg_withNet ..).trans hshow
  have hseek (t : State) : t.dhcpSeek.reg a = t.reg a := by
    rw [dhcpSeek, reg_send, reg_put_ne _ _ _ (ne_of_lt (ha.trans (by decide)))]
  have hprobe (t : State) (w : Word) : (t.probeStart4 w).reg a = t.reg a := reg_congr rfl a
  rw [netStart_eq, ← hfresh]
  split
  · exact hseek _
  · exact hprobe _ _

/-- What neither messages, registers nor the search for an address show. -/
theorem netStart_rest {β : Type} (p : State → β) (hreg : ∀ (t : State) a w, p (t.setReg a w) = p t)
    (hsend : ∀ (t : State) o, p (t.send o) = p t) (hprobe : ∀ (t : State) w, p (t.probeStart4 w) = p t)
    (hfresh : ∀ l : List Nat, p (s.netFresh l) = p (s.ip6Show l)) (l : List Nat) : p (s.netStart l) = p s := by
  have hshow : p (s.ip6Show l) = p s := ip6Show_rest p l (fun _ _ _ => hreg ..) (fun _ _ _ => hreg ..) fun _ _ => hreg ..
  rw [netStart_eq, ← hshow, ← hfresh]
  split
  · exact (hsend ..).trans (hreg ..)
  · exact hprobe ..

/-- The registers and the power block of a module that enters bare mode, before its record. -/
def bareShown (s : State) (n : Nat) : State :=
  let b : State := { s.ctlDataClear with
    pwr := { s.pwr with rstCp := true, rstDp := true }
    caddy := { s.caddy with phase := 4 }
    net := { s.net with dhcp := true } }
  ((b.putB CADDY_STATUS_BARE true).put CADDY_STATUS_BARE_REASON n).putB SYS_STATUS_BARE true

theorem enterBare_eq (s : State) (n : Nat) : s.enterBare n = ((s.bareShown n).ev portCaddy 0x0022 n).netStart [] := rfl

theorem enterBare_bare (s : State) (n : Nat) : Bare n s (s.enterBare n) := by
  have hrest {β : Type} (p : State → β) (hreg : ∀ (t : State) a w, p (t.setReg a w) = p t)
      (hsend : ∀ (t : State) o, p (t.send o) = p t) (hprobe : ∀ (t : State) w, p (t.probeStart4 w) = p t)
      (hfresh : ∀ (t : State) (l : List Nat), p (t.netFresh l) = p (t.ip6Show l))
      (hev : ∀ t : State, p (t.ev portCaddy 0x0022 n) = p t) : p (s.enterBare n) = p (s.bareShown n) := by
    rw [enterBare_eq]
    exact (netStart_rest p hreg hsend hprobe (hfresh _) []).trans (hev _)
  have hget {k : Fld} (hk : k.addr < 0x030000) : (s.enterBare n).get k = (s.bareShown n).get k := by
    have hreg : (s.enterBare n).reg k.addr = (s.bareShown n).reg k.addr := by
      rw [enterBare_eq, reg_netStart [] hk, reg_ev _ _ _ _ _ _ _ (ne_of_lt (hk.trans (by decide)))
        (ne_of_lt (hk.trans (by unfold LOG_DROP; omega)))]
    rw [get, hreg, get]
  refine ⟨?_, ?_, ?_, ?_, ?_, ?_, ?_, ?_, ?_⟩
  · exact hrest State.nv (fun _ _ _ => rfl) (fun _ _ => rfl) (fun _ _ => rfl) (fun _ _ => withNet_nv ..) fun _ => ev_nv ..
  · exact hrest State.tim (fun _ _ _ => rfl) (fun _ _ => rfl) (fun _ _ => rfl) (fun _ _ => withNet_tim ..) fun _ => ev_tim ..
  · exact hrest State.fab (fun _ _ _ => rfl) (fun _ _ => rfl) (fun _ _ => rfl) (fun _ _ => withNet_fab ..) fun _ => ev_fab ..
  · refine hrest (fun t => t.net.mbQueue) (fun _ _ _ => rfl) (fun _ _ => rfl) (fun _ _ => rfl) (fun t l => ?_) fun t =>
      congrArg Net.mbQueue (ev_net ..)
    have hnet := ip6Show_rest (s := t) State.net l (fun _ _ _ => rfl) (fun _ _ _ => rfl) fun _ _ => rfl
    rw [netFresh, withNet_net, hnet]
  · exact hrest State.pwr (fun _ _ _ => rfl) (fun _ _ => rfl) (fun _ _ => rfl) (fun _ _ => withNet_pwr ..) fun _ => ev_pwr ..
  · exact hrest State.caddy (fun _ _ _ => rfl) (fun _ _ => rfl) (fun _ _ => rfl) (fun _ _ => withNet_caddy ..) fun _ => ev_caddy ..
  · rw [hget (by decide)]
    simp [bareShown, get_putB_ne, get_put_ne, get_putB_same]
  · rw [hget (by decide)]
    simp [bareShown, get_putB_ne, get_put_same]
  · rw [hget (by decide)]
    simp [bareShown, get_putB_same]

theorem firstPass_phase (n : Nat) (f : Bool) : (s.firstPass n f).caddy.phase = 1 := rfl

end Choice

/-- The release has nothing to hand on. -/
theorem bareServe_idle {s : State} (hh : s.fab.held = []) (ht : s.fab.txns = []) (hq : s.net.mbQueue = []) :
    s.bareServe = s := by
  have hreleased : s.releaseHeld writeAt = s := by
    have hsame : ({ s with fab := { s.fab with held := [] } } : State) = s := by rw [← hh]
    rw [releaseHeld, hh, List.foldl_nil, hsame]
  have hsettle : s.readsSettle = s := by
    have hend : s.each (s.fab.txns.filter Txn.done) txnEnd = s := by rw [ht]; rfl
    simp only [readsSettle, hend, mbPump_idle ht hq, ite_self]
  rw [bareServe, hreleased, ite_self, hsettle]

/-- What the loader's choice of a slot leaves: a load, or bare mode. -/
structure Chosen (s t : State) : Prop where
  nv : t.nv = s.nv
  fab : t.fab = s.fab
  queue : t.net.mbQueue = s.net.mbQueue
  mp : t.pwr.rstMp = s.pwr.rstMp
  out : t.pwr.rstOut = s.pwr.rstOut
  phase : t.caddy.phase = 1 ∨ t.caddy.phase = 4

theorem Bare.chosen {n : Nat} {s t : State} (h : Bare n s t) : Chosen s t :=
  ⟨h.nv, h.fab, h.queue, by rw [h.pwr], by rw [h.pwr], .inr (by rw [h.caddy])⟩

theorem chooseSlot_chosen (s : State) : Chosen s s.chooseSlot := by
  have hpass (n : Nat) (f : Bool) : Chosen s (s.firstPass n f) := ⟨rfl, rfl, rfl, rfl, rfl, .inl rfl⟩
  have hboth : Chosen s ((s.ev portCaddy 0x0028 (s.imgSeq 0)).firstPass 0 false) :=
    ⟨(ev_nv ..), (ev_fab ..), congrArg Net.mbQueue (ev_net ..), congrArg Power.rstMp (ev_pwr ..),
      congrArg Power.rstOut (ev_pwr ..), .inl rfl⟩
  unfold chooseSlot
  split
  · exact (s.enterBare_bare 2).chosen
  · split
    · split
      · exact hboth
      · split
        · exact hpass 1 false
        · exact hpass 0 false
    · split
      · exact hpass 0 false
      · split
        · exact hpass 1 false
        · exact (s.enterBare_bare 3).chosen

end State

theorem exec_planeRelease_eq (octal : Bool) (a b : Fin 4) (rep : List Nat) (s : State) :
    exec (.planeRelease octal a b rep) s = .next (s.planeRelease octal a.val b.val rep).bareServe := rfl

theorem exec_planeRelease_bare (octal : Bool) (badA badB : Fin 4) (rep : List Nat) (s : State) :
    s.releaseReady = true → s.pwr.straps.testBit 2 = true →
    s.fab.held = [] → s.fab.txns = [] → s.net.mbQueue = [] →
    ∃ t, exec (.planeRelease octal badA badB rep) s = .next t ∧ t.mpUp = true ∧ t.cpUp = false ∧ t.dpUp = false ∧
      t.pwr.rstOut = true ∧ t.tim.mp = s.tim.aon ∧ t.caddy.phase = 4 ∧ t.get CADDY_STATUS_BARE = 1 ∧
      t.get CADDY_STATUS_BARE_REASON = 1 ∧ t.get SYS_STATUS_BARE = 1 := by
  intro hr hstrap hh ht hq
  obtain ⟨u, hcore, hrelease⟩ := State.planeRelease_starts octal badA.val badB.val rep hr
  simp only [State.startCore, Prod.mk.injEq] at hcore
  obtain ⟨hnv, htim, hfab, hnet, hcaddy, hpwr⟩ := hcore
  have hbare := u.enterBare_bare 1
  rw [hstrap, if_pos rfl] at hrelease
  rw [exec_planeRelease_eq, hrelease]
  generalize u.enterBare 1 = v at hbare
  have hserve : v.bareServe = v := State.bareServe_idle (by rw [hbare.fab, hfab, hh]) (by rw [hbare.fab, hfab, ht])
    (by rw [hbare.queue, hnet, hq])
  have hout : u.pwr.rstOut = true := (congrArg Power.rstOut hpwr :)
  have hmp : u.pwr.rstMp = false := (congrArg Power.rstMp hpwr :)
  obtain ⟨hshown, hreason, hsys⟩ := hbare.shown
  rw [hserve]
  refine ⟨v, rfl, ?_, ?_, ?_, ?_, ?_, ?_, hshown, hreason, hsys⟩
  · rw [State.mpUp, hbare.pwr, hmp]
    rfl
  · rw [State.cpUp, hbare.pwr]
    rfl
  · rw [State.dpUp, hbare.pwr]
    rfl
  · rw [hbare.pwr, hout]
  · rw [hbare.tim, htim, State.releasedTim]
  · rw [hbare.caddy]

theorem exec_planeRelease_starts (octal : Bool) (badA badB : Fin 4) (rep : List Nat) (s : State) :
    s.releaseReady = true →
    s.fab.held = [] → s.fab.txns = [] → s.net.mbQueue = [] →
    ∃ t, exec (.planeRelease octal badA badB rep) s = .next t ∧ t.mpUp = true ∧ t.pwr.rstOut = true ∧
      (t.caddy.phase = 1 ∨ t.caddy.phase = 4) ∧ t.nv = { s.nv with octal := octal, bad := [(0, badA.val), (1, badB.val)] } := by
  intro hr hh ht hq
  obtain ⟨u, hcore, hrelease⟩ := State.planeRelease_starts octal badA.val badB.val rep hr
  simp only [State.startCore, Prod.mk.injEq] at hcore
  obtain ⟨hnv, htim, hfab, hnet, hcaddy, hpwr⟩ := hcore
  have hchosen : State.Chosen u (s.planeRelease octal badA.val badB.val rep) := by
    rw [hrelease]
    split
    · exact (u.enterBare_bare 1).chosen
    · exact u.chooseSlot_chosen
  rw [exec_planeRelease_eq]
  generalize s.planeRelease octal badA.val badB.val rep = v at hchosen
  have hserve : v.bareServe = v := State.bareServe_idle (by rw [hchosen.fab, hfab, hh]) (by rw [hchosen.fab, hfab, ht])
    (by rw [hchosen.queue, hnet, hq])
  have hout : u.pwr.rstOut = true := (congrArg Power.rstOut hpwr :)
  have hmp : u.pwr.rstMp = false := (congrArg Power.rstMp hpwr :)
  rw [hserve]
  refine ⟨v, rfl, ?_, hchosen.out.trans hout, hchosen.phase, hchosen.nv.trans hnv⟩
  rw [State.mpUp, hchosen.mp, hmp]
  rfl

/-- Settles O18: a release hands the planes to the loader, which enters bare mode or a first pass. -/
theorem planeStart : Obligations.PlaneStart := by
  refine ⟨exec_planeRelease_bare, exec_planeRelease_starts, fun octal badA badB rep s h hp ht hq => ?_⟩
  have hsettle : s.readsSettle = s := by
    have hend : s.each (s.fab.txns.filter Txn.done) State.txnEnd = s := by rw [ht]; rfl
    simp only [State.readsSettle, hend, State.mbPump_idle ht hq, ite_self]
  have hrelease : s.planeRelease octal badA.val badB.val rep = s := if_pos (by simp [h])
  rw [exec_planeRelease_eq, hrelease, State.bareServe, if_neg hp, hsettle]

end Sys2Proof.Machine
end

section
/-! PROOFS. The caddy loader's two passes, the key slots and the swap (R87 to R98): what the steps at the end of a load
and of a swap leave of the loader, the fabric and the queue of the Modbus server. -/

namespace Sys2Proof.Machine

open Reg

namespace State

/-- What the steps at the end of a load leave: the loader, the fabric, the Modbus server's queue, and the status of the
loader and of the module. -/
def loadCore (s : State) : Caddy × Fabric × List (Nat × List Byte) × Word × Word :=
  (s.caddy, s.fab, s.net.mbQueue, s.reg CADDY_STATUS, s.reg SYS_STATUS)

section LoadCore
variable {s t : State}

theorem loadCore_congr (hc : t.caddy = s.caddy) (hf : t.fab = s.fab) (hn : t.net = s.net) (hr : t.regs = s.regs) :
    t.loadCore = s.loadCore := by
  rw [loadCore, hc, hf, hn, reg_congr hr, reg_congr hr, loadCore]

/-- The registers of the units come after those of the loader. -/
theorem loadCore_setReg {a : Nat} (w : Word) (ha : 0x020000 ≤ a) : (s.setReg a w).loadCore = s.loadCore := by
  have hne (c : Nat) (hc : c < 0x020000) : (s.setReg a w).reg c = s.reg c := reg_setReg_ne _ _ (by omega)
  have hframe : (s.setReg a w).caddy = s.caddy ∧ (s.setReg a w).fab = s.fab ∧ (s.setReg a w).net = s.net :=
    ⟨rfl, rfl, rfl⟩
  rw [loadCore, hne _ (by decide), hne _ (by decide), hframe.1, hframe.2.1, hframe.2.2, loadCore]

theorem loadCore_put {f : Fld} (n : Nat) (ha : 0x020000 ≤ f.addr) : (s.put f n).loadCore = s.loadCore :=
  loadCore_setReg _ ha

theorem loadCore_putB {f : Fld} (b : Bool) (ha : 0x020000 ≤ f.addr) : (s.putB f b).loadCore = s.loadCore :=
  loadCore_setReg _ ha

theorem loadCore_ev (p c a b d : Nat) (v : Bool) : (s.ev p c a b d v).loadCore = s.loadCore := by
  rw [loadCore, ev_caddy, ev_fab, ev_net, reg_ev _ _ _ _ _ _ _ (by decide) (by simp only [CADDY_STATUS, LOG_DROP]; omega),
    reg_ev _ _ _ _ _ _ _ (by decide) (by simp only [SYS_STATUS, LOG_DROP]; omega), loadCore]

theorem loadCore_ite {c : Prop} [Decidable c] {t u : State} (ht : t.loadCore = s.loadCore)
    (hu : u.loadCore = s.loadCore) : (if c then t else u).loadCore = s.loadCore := by
  split <;> assumption

theorem loadCore_each {α : Type} {f : State → α → State} (h : ∀ t a, (f t a).loadCore = t.loadCore) (l : List α) :
    (s.each l f).loadCore = s.loadCore := each_keeps loadCore h l s

theorem loadCore_tookN (n : Nat) : (s.tookN n).loadCore = s.loadCore := rfl
theorem loadCore_setSlot (n : Nat) (x : Slot) : (s.setSlot n x).loadCore = s.loadCore := rfl
theorem loadCore_setFan (n : Nat) (x : Fan) : (s.setFan n x).loadCore = s.loadCore := rfl
theorem loadCore_setBody (n : Nat) (x : Body) : (s.setBody n x).loadCore = s.loadCore := rfl
theorem loadCore_publish (n : Nat) (v w : F32) (t : Word) (i : EntryInfo) :
    (s.publish n v w t i).loadCore = s.loadCore := rfl

theorem loadCore_aoIdle (n : Nat) : (s.aoIdle n).loadCore = s.loadCore :=
  have high : 0x020000 ≤ AIO_AO_CODE n := Nat.le_add_right_of_le (by decide)
  loadCore_ite rfl ((loadCore_put _ high).trans ((loadCore_put _ high).trans (loadCore_put _ high)))

theorem loadCore_aoStart : s.aoStart.loadCore = s.loadCore :=
  loadCore_each (fun _ _ => loadCore_ite (loadCore_aoIdle _) rfl) _

theorem loadCore_takeFans (n : Nat) : (s.takeFans n).loadCore = s.loadCore :=
  loadCore_each (fun _ _ => loadCore_ite (loadCore_setFan ..) rfl) _

theorem loadCore_fromPresent (n : Nat) : (s.fromPresent n).loadCore = s.loadCore := by
  have hsat (t : State) (k : Nat) : (t.saturated n k).loadCore = t.loadCore :=
    loadCore_ite rfl ((loadCore_putB _ (Nat.le_add_right_of_le (by decide))).trans rfl)
  exact (hsat _ _).trans ((loadCore_setSlot ..).trans rfl)

theorem loadCore_infStop (n : Nat) : (s.infStop n).loadCore = s.loadCore :=
  (loadCore_ev ..).trans ((loadCore_putB _ (Nat.le_add_right_of_le (by decide))).trans
    (loadCore_putB _ (Nat.le_add_right_of_le (by decide))))

/-- A slot that starts (R303). -/
theorem loadCore_enterStart (n cause : Nat) : (s.enterMode n gStart cause).loadCore = s.loadCore := by
  have high (m : Nat) : 0x020000 ≤ GOV_SLOT_STATUS m := Nat.le_add_right_of_le (by decide)
  have hmode (t : State) : (t.put (GOV_SLOT_STATUS_MODE n) gStart).loadCore = t.loadCore := loadCore_put _ (high n)
  have hrun (t : State) : ((t.put (GOV_SLOT_STATUS_EXIT_RUN n) 0).takeFans n).loadCore = t.loadCore :=
    (loadCore_takeFans n).trans (loadCore_put _ (high n))
  have hstop (t : State) (c : Prop) [Decidable c] : (if c then t.infStop n else t).loadCore = t.loadCore :=
    loadCore_ite (loadCore_infStop n) rfl
  have hfirst (t : State) (c : Prop) [Decidable c] (x : Slot) :
      (if c then (t.fromPresent n).setSlot n x else t).loadCore = t.loadCore :=
    loadCore_ite ((loadCore_setSlot ..).trans (loadCore_fromPresent n)) rfl
  have hoff (t : State) (c : Prop) [Decidable c] :
      (if c then (t.put (GOV_SLOT_STATUS_EXIT_RUN n) 0).takeFans n else t).loadCore = t.loadCore :=
    loadCore_ite (hrun t) rfl
  have hstart : gStart ≠ gOff ∧ gStart ≠ gOpen := by decide
  rw [enterMode]
  simp only [if_neg hstart.1, if_neg hstart.2]
  exact (hfirst _ _ _).trans ((hoff _ _).trans ((loadCore_setSlot ..).trans ((hmode _).trans ((hstop _ _).trans
    (loadCore_ev ..)))))

theorem loadCore_govBoot : s.govBoot.loadCore = s.loadCore :=
  loadCore_each (fun _ _ => loadCore_ite (loadCore_enterStart ..) rfl) _

theorem loadCore_millShow : s.millShow.loadCore = s.loadCore := by
  have hshow (t : State) (a b c : Nat) : (((t.put MILL_STATUS_BODIES a).put MILL_STATUS_QUADS b).put
      MILL_CELLS_USED_ALLOCATED c).loadCore = t.loadCore :=
    (loadCore_put _ (by decide)).trans ((loadCore_put _ (by decide)).trans (loadCore_put _ (by decide)))
  have hload (t : State) (n : Nat) : (t.put MILL_LOAD_PLAN n).took.loadCore = t.loadCore :=
    (loadCore_tookN 1).trans (loadCore_put _ (by decide))
  unfold millShow
  dsimp only
  split
  · exact hshow ..
  · exact (hload ..).trans (hshow ..)

theorem loadCore_snapRestore : s.snapRestore.loadCore = s.loadCore :=
  (loadCore_put _ (by decide)).trans ((loadCore_put _ (by decide)).trans rfl)

theorem loadCore_bodyPublish (k : Nat) : (s.bodyPublish k).loadCore = s.loadCore :=
  (loadCore_putB _ (Nat.le_add_right_of_le (by decide))).trans (loadCore_each (fun _ _ => loadCore_publish ..) _)

theorem loadCore_solveWant (k c : Nat) : (s.solveWant k c).loadCore = s.loadCore := by
  unfold solveWant
  dsimp only
  split
  · exact loadCore_setBody ..
  · exact loadCore_ite (loadCore_setBody ..) (loadCore_setBody ..)

theorem loadCore_readInputs (k : Nat) (acts : List (Nat × Word)) : (s.readInputs k acts).1.loadCore = s.loadCore := by
  have hread (t : State) (n : Nat) : (t.readEntry k n).1.loadCore = t.loadCore := by
    unfold readEntry
    dsimp only
    split
    · exact loadCore_setBody ..
    · split <;> rfl
  have hfold (l : List Nat) (x : State × List (Nat × (Word × Word × Bool))) :
      (l.foldl (fun a n => let x := a.1.readEntry k n; (x.1, a.2 ++ [(n, x.2)])) x).1.loadCore = x.1.loadCore := by
    induction l generalizing x with
    | nil => rfl
    | cons n l ih => exact (ih _).trans (hread _ _)
  exact hfold _ _

theorem loadCore_resumeFrom (k : Nat) (l : List (Nat × Cell)) (age : Nat) (a : Option Nat) :
    (s.resumeFrom k l age a).loadCore = s.loadCore := by
  have hbst (t : State) : (t.setBst k bRunning).loadCore = t.loadCore := loadCore_put _ (Nat.le_add_right_of_le (by decide))
  have hshow (t : State) : (t.putB (MILL_RUN_STATUS_FROM_SNAPSHOT k) true).loadCore = t.loadCore :=
    loadCore_putB _ (Nat.le_add_right_of_le (by decide))
  unfold resumeFrom
  exact (loadCore_solveWant ..).trans ((loadCore_ev ..).trans ((hshow _).trans ((loadCore_bodyPublish _).trans
    ((hbst _).trans ((loadCore_setBody ..).trans ((loadCore_readInputs ..).trans ((loadCore_setBody ..).trans
      (loadCore_tookN _))))))))

theorem loadCore_bodyStart (k : Nat) : (s.bodyStart k false).loadCore = s.loadCore := by
  have hbst (t : State) : (t.setBst k bStarting).loadCore = t.loadCore := loadCore_put _ (Nat.le_add_right_of_le (by decide))
  unfold bodyStart
  dsimp only
  generalize List.find? _ _ = o
  rcases o with _ | n
  · exact (hbst _).trans (loadCore_setBody ..)
  · exact (loadCore_resumeFrom ..).trans ((hbst _).trans (loadCore_setBody ..))

theorem loadCore_displayAssets : s.displayAssets.loadCore = s.loadCore := by
  have hdisp (t : State) (x : Display) : (t.withDisp x).loadCore = t.loadCore := loadCore_congr rfl rfl rfl rfl
  have hdirty (t : State) (m : Nat) : (t.dirtyRows m).loadCore = t.loadCore :=
    (hdisp (t.put DISP_DIRTY_ROWS _) _).trans (loadCore_put _ (by decide))
  have hshowing (t : State) (n : Nat) : (t.put DISP_STATUS_SHOWING n).loadCore = t.loadCore := loadCore_put _ (by decide)
  have hstate (t : State) (n : Nat) : (t.put DISP_STATUS_STATE n).loadCore = t.loadCore := loadCore_put _ (by decide)
  have hend (t : State) : t.bindEnd.loadCore = t.loadCore :=
    loadCore_ite ((hshowing ..).trans ((hdirty ..).trans ((loadCore_putB _ (by decide)).trans (hdisp t _)))) rfl
  have hlit (t : State) (c : Prop) [Decidable c] (x : Display) (n : Nat) :
      (((if c then t.dirtyAll else t).withDisp x).put DISP_STATUS_STATE n).loadCore = t.loadCore :=
    (hstate ..).trans ((hdisp ..).trans (loadCore_ite (hdirty ..) rfl))
  have hto (t : State) : (t.panelTo true).loadCore = t.loadCore :=
    loadCore_ite (hstate ..) (loadCore_ite (hstate ..) (hlit t _ _ _))
  have hstrip (t : State) : t.stripFitted.loadCore = t.loadCore := loadCore_ite rfl (loadCore_put _ (by decide))
  have hpanel (t : State) (c d : Prop) [Decidable c] [Decidable d] : (if c then t.put DISP_STATUS_STATE panelAbsent
      else if d then t.panelTo true else t.dirtyAll).loadCore = t.loadCore :=
    loadCore_ite (hstate ..) (loadCore_ite (hto _) (hdirty ..))
  exact (hstrip _).trans ((hpanel ..).trans ((hshowing ..).trans ((hdisp ..).trans (hend _))))

theorem loadCore_timeMark : s.timeMark.loadCore = s.loadCore := loadCore_ite rfl (loadCore_ev ..)

theorem loadCore_ptpSet (n : Nat) : (s.ptpSet n).loadCore = s.loadCore :=
  loadCore_put _ (Nat.le_add_right_of_le (by decide))

theorem loadCore_withNet {x : Net} (hx : x.mbQueue = s.net.mbQueue) : (s.withNet x).loadCore = s.loadCore := by
  rw [loadCore, reg_withNet, reg_withNet, withNet_net, withNet_caddy, withNet_fab, hx, loadCore]

theorem loadCore_setConns (l : List Nat) : (s.setConns l).loadCore = s.loadCore := by
  have hconns : (s.setConns l).loadCore = (s.withNet { s.net with
      conns := l, conns4 := s.net.conns4.filter (fun c => l.contains c) }).loadCore := loadCore_put _ (by decide)
  rw [hconns]
  exact loadCore_withNet rfl

/-- An address out of use closes connections; none of them has a request in an empty queue. -/
theorem loadCore_ip4Off (hq : s.net.mbQueue = []) : s.ip4Off.loadCore = s.loadCore := by
  have haddr : ((((s.setReg NET_IP4_ADDR 0).setReg NET_IP4_MASK 0).setReg NET_IP4_GW 0).putB NET_STATUS_IP4_OK
      false).loadCore = s.loadCore :=
    (loadCore_putB _ (by decide)).trans ((loadCore_setReg _ (by decide)).trans ((loadCore_setReg _ (by decide)).trans
      (loadCore_setReg _ (by decide))))
  rw [← haddr]
  have hqueue : ((((s.setReg NET_IP4_ADDR 0).setReg NET_IP4_MASK 0).setReg NET_IP4_GW 0).putB NET_STATUS_IP4_OK
      false).net.mbQueue = [] := hq
  unfold ip4Off
  generalize (((s.setReg NET_IP4_ADDR 0).setReg NET_IP4_MASK 0).setReg NET_IP4_GW 0).putB NET_STATUS_IP4_OK false = t
    at hqueue
  have hnone (l : List Nat) : (t.setConns l).net.mbQueue = [] := hqueue
  refine (loadCore_withNet ?_).trans (loadCore_setConns _)
  rw [hnone]
  rfl

/-- Bare mode leaves the Modbus server's queue empty. -/
theorem loadCore_bareLeft (hq : s.net.mbQueue = []) : s.bareLeft.loadCore = s.loadCore := by
  have hstate (t : State) : (t.put NET_DHCP_STATUS_STATE 0).loadCore = t.loadCore := loadCore_put _ (by decide)
  refine (loadCore_withNet ?_).trans ((hstate _).trans (loadCore_ip4Off hq))
  rfl

theorem loadCore_netStart (l : List Nat) : (s.netStart l).loadCore = s.loadCore := by
  have hrest {β : Type} (p : State → β) (hreg : ∀ (t : State) a w, p (t.setReg a w) = p t)
      (hsend : ∀ (t : State) o, p (t.send o) = p t) (hprobe : ∀ (t : State) w, p (t.probeStart4 w) = p t)
      (hfresh : ∀ (t : State) (l : List Nat), p (t.netFresh l) = p (t.ip6Show l)) : p (s.netStart l) = p s :=
    netStart_rest p hreg hsend hprobe (hfresh _) l
  have hqueue : (s.netStart l).net.mbQueue = s.net.mbQueue := by
    refine hrest (fun t => t.net.mbQueue) (fun _ _ _ => rfl) (fun _ _ => rfl) (fun _ _ => rfl) fun t l => ?_
    have hnet := ip6Show_rest (s := t) State.net l (fun _ _ _ => rfl) (fun _ _ _ => rfl) fun _ _ => rfl
    rw [netFresh, withNet_net, hnet]
  rw [loadCore, loadCore, reg_netStart _ (by decide), reg_netStart _ (by decide), hqueue,
    hrest State.caddy (fun _ _ _ => rfl) (fun _ _ => rfl) (fun _ _ => rfl) fun _ _ => withNet_caddy ..,
    hrest State.fab (fun _ _ _ => rfl) (fun _ _ => rfl) (fun _ _ => rfl) fun _ _ => withNet_fab ..]

end LoadCore

/-- The registers of a module whose image is loaded, before its units start (R91). -/
def loadShown (s : State) (ms : Nat) : State :=
  let a : State := { s with
    caddy := { s.caddy with phase := 3 }
    fab := { s.fab with locked := true }
    net := { s.net with beat := s.tim.mono } }
  let b := ((((a.putB CADDY_STATUS_LOADED true).putB CADDY_STATUS_LOCKED true).put CADDY_STATUS_ACTIVE_SLOT
    s.caddy.slot).putB CADDY_STATUS_FALLBACK s.caddy.fallback).putB CADDY_STATUS_BARE false
  let c := (((((b.put CADDY_STATUS_BARE_REASON 0).putB SYS_STATUS_BARE false).putB SYS_STATUS_LOCKED true).putB
    SYS_STATUS_MP_FW true).putB SYS_STATUS_DP_RUN s.dpUp).putB SYS_STATUS_CP_RUN s.cpUp
  (c.putB GUARD_STATUS_USER_ZONES true).put CADDY_BOOT_TIME_CP_MS (satTo 16 ms)

/-- A finished load: locked, and shown as such. -/
theorem loadDone_core {s : State} (ms : Nat) (hh : s.fab.held = []) (hq : s.net.mbQueue = []) :
    (s.loadDone ms writeAt).loadCore = (s.loadShown ms).loadCore := by
  have hlog (t : State) (a b c : Nat) : (t.ev portCaddy 0x0020 a b c).loadCore = t.loadCore := loadCore_ev ..
  have hao (t : State) : (if t.cpUp then t.aoStart else t).loadCore = t.loadCore := loadCore_ite loadCore_aoStart rfl
  have hbodies (t : State) (l : List Nat) : (t.each l fun t k => t.bodyStart k false).loadCore = t.loadCore :=
    loadCore_each (fun _ _ => loadCore_bodyStart _) l
  have hunits (t : State) : ((((t.displayAssets).timeMark).ptpSet 0).ptpSet 1).loadCore = t.loadCore :=
    (loadCore_ptpSet _).trans ((loadCore_ptpSet _).trans (loadCore_timeMark.trans loadCore_displayAssets))
  have hstart (t : State) : (((if (if t.cpUp then t.aoStart else t).cpUp then (if t.cpUp then t.aoStart else t).govBoot
      else (if t.cpUp then t.aoStart else t)).millShow).snapRestore).loadCore = t.loadCore :=
    loadCore_snapRestore.trans (loadCore_millShow.trans ((loadCore_ite loadCore_govBoot rfl).trans (hao t)))
  have hbare (t : State) (c : Prop) [Decidable c] (ht : t.loadCore = (s.loadShown ms).loadCore) :
      (if c then t.bareLeft else t).loadCore = (s.loadShown ms).loadCore := by
    refine loadCore_ite ((loadCore_bareLeft ?_).trans ht) ht
    exact (congrArg (fun x => x.2.2.1) ht :).trans hq
  have hheld (t : State) (ht : t.loadCore = (s.loadShown ms).loadCore) : (t.releaseHeld writeAt).loadCore =
      (s.loadShown ms).loadCore := by
    have hf : t.fab.held = [] := (congrArg (fun x => x.2.1.held) ht :).trans hh
    have hsame : ({ t with fab := { t.fab with held := [] } } : State) = t := by rw [← hf]
    rw [releaseHeld, hf, List.foldl_nil, hsame, ht]
  unfold loadDone
  exact hheld _ ((loadCore_netStart _).trans ((hunits _).trans (hbare _ _ ((hbodies _ _).trans ((hstart _).trans
    (hlog _ _ _ _))))))

end State
/-! ### The two passes (R89 to R94) -/

theorem exec_caddyFirstPassDone_eq (e : Bool) (s : State) :
    exec (.caddyFirstPassDone e) s = .next (s.firstPassDone e).bareServe := rfl

theorem exec_caddySecondPassDone_eq (a e : Bool) (ms : Nat) (s : State) :
    exec (.caddySecondPassDone a e ms) s = .next (s.secondPassDone a e ms State.writeAt).bareServe := rfl

namespace State

/-- Another reading of the loader. -/
def withCaddy (s : State) (x : Caddy) : State := { s with caddy := x }

theorem withCaddy_frame (s : State) (x : Caddy) : { s.withCaddy x with caddy := s.caddy } = s := rfl

theorem withCaddy_idle (s : State) (x : Caddy) : (s.withCaddy x).fab = s.fab ∧ (s.withCaddy x).net = s.net := ⟨rfl, rfl⟩

/-- A pass that ends where nobody waits: nothing to hand on but in bare mode. -/
theorem bareServe_settled {s : State} (hp : s.caddy.phase ≠ 4) (ht : s.fab.txns = []) (hq : s.net.mbQueue = []) :
    s.bareServe = s := by
  have hend : s.each (s.fab.txns.filter Txn.done) txnEnd = s := by rw [ht]; rfl
  rw [bareServe, if_neg hp, readsSettle]
  simp only [hend, mbPump_idle ht hq, ite_self]

/-- What a load that fails in the slot of a fallback leaves: bare mode with reason 4 (R90). -/
theorem loadFail_bare {s : State} {r : Nat} (hf : s.caddy.fallback = true) : ∃ u : State, u.startCore = s.startCore ∧
    s.loadFail r = u.enterBare 4 := by
  have hclear (t : State) : t.ctlDataClear.startCore = t.startCore := rfl
  refine ⟨(s.slotShow s.caddy.slot r).ctlDataClear, (hclear _).trans (startCore_slotShow _ _), ?_⟩
  have hno : ¬ (!s.caddy.fallback && (s.slotShow s.caddy.slot r).ctlDataClear.slotValid (1 - s.caddy.slot)) = true := by
    simp [hf]
  exact if_neg hno

/-- A load that fails for good ends in bare mode with nothing to hand on. -/
theorem loadFail_served {s : State} (r : Nat) (hf : s.caddy.fallback = true) (hh : s.fab.held = []) (ht : s.fab.txns = [])
    (hq : s.net.mbQueue = []) : ∃ t, (s.loadFail r).bareServe = t ∧ t.caddy.phase = 4 ∧ t.cpUp = false ∧
      t.dpUp = false ∧ t.get CADDY_STATUS_BARE = 1 ∧ t.get CADDY_STATUS_BARE_REASON = 4 := by
  obtain ⟨u, hcore, hfail⟩ := loadFail_bare (r := r) hf
  simp only [startCore, Prod.mk.injEq] at hcore
  obtain ⟨-, -, hfab, hnet, -, -⟩ := hcore
  have hbare := u.enterBare_bare 4
  rw [hfail]
  generalize u.enterBare 4 = v at hbare
  obtain ⟨hshown, hreason, -⟩ := hbare.shown
  have hserve : v.bareServe = v := bareServe_idle (by rw [hbare.fab, hfab, hh]) (by rw [hbare.fab, hfab, ht])
    (by rw [hbare.queue, hnet, hq])
  refine ⟨v, hserve, ?_, ?_, ?_, hshown, hreason⟩
  · rw [hbare.caddy]
  · rw [cpUp, hbare.pwr]
    rfl
  · rw [dpUp, hbare.pwr]
    rfl

end State

theorem exec_caddyFirstPassDone_good (s : State) :
    s.mpUp = true → s.caddy.phase = 1 → s.sigReason s.caddy.slot = 0 → s.fab.txns = [] →
    s.net.mbQueue = [] →
    ∃ t, exec (.caddyFirstPassDone false) s = .next t ∧ t.caddy.phase = 2 ∧
      t.caddy.firstHash = sha256 (s.imgMessage s.caddy.slot) ∧ { t with caddy := s.caddy } = s := by
  intro hup hp hs ht hq
  have hno : ¬ (!s.mpUp || decide (s.caddy.phase ≠ 1)) = true := by simp [hup, hp]
  have hpass : s.firstPassDone false = s.withCaddy { s.caddy with
      phase := 2, firstHash := sha256 (s.imgMessage s.caddy.slot) } := by
    rw [State.firstPassDone, if_neg hno]
    exact if_neg (not_not.mpr hs)
  rw [exec_caddyFirstPassDone_eq, hpass]
  generalize hx : ({ s.caddy with phase := 2, firstHash := sha256 (s.imgMessage s.caddy.slot) } : Caddy) = x
  have hphase : x.phase = 2 := by rw [← hx]
  have hhash : x.firstHash = sha256 (s.imgMessage s.caddy.slot) := by rw [← hx]
  obtain ⟨hfab, hnet⟩ := s.withCaddy_idle x
  have hcaddy : (s.withCaddy x).caddy = x := rfl
  rw [State.bareServe_settled (by rw [hcaddy, hphase]; decide) (by rw [hfab, ht]) (by rw [hnet, hq])]
  exact ⟨_, rfl, hphase, hhash, s.withCaddy_frame x⟩

theorem exec_caddyFirstPassDone_bad (readErr : Bool) (s : State) :
    s.mpUp = true → s.caddy.phase = 1 → (readErr = true ∨ s.sigReason s.caddy.slot ≠ 0) →
    s.caddy.fallback = true → s.fab.txns = [] → s.net.mbQueue = [] → s.fab.held = [] →
    ∃ t, exec (.caddyFirstPassDone readErr) s = .next t ∧ t.caddy.phase = 4 ∧ t.cpUp = false ∧ t.dpUp = false ∧
      t.get CADDY_STATUS_BARE = 1 ∧ t.get CADDY_STATUS_BARE_REASON = 4 := by
  intro hup hp hs hf ht hq hh
  have hno : ¬ (!s.mpUp || decide (s.caddy.phase ≠ 1)) = true := by simp [hup, hp]
  have hr : (if readErr then 0x0F else s.sigReason s.caddy.slot) ≠ 0 := by
    cases readErr
    · exact hs.resolve_left (by simp)
    · exact Nat.succ_ne_zero _
  have hpass : s.firstPassDone readErr = s.loadFail (if readErr then 0x0F else s.sigReason s.caddy.slot) := by
    rw [State.firstPassDone, if_neg hno]
    exact if_pos hr
  obtain ⟨t, ht', hend⟩ := State.loadFail_served (if readErr then 0x0F else s.sigReason s.caddy.slot) hf hh ht hq
  rw [exec_caddyFirstPassDone_eq, hpass, ht']
  exact ⟨t, rfl, hend⟩

theorem exec_caddySecondPassDone_good (ms : Nat) (s u : State) :
    s.mpUp = true → s.caddy.phase = 2 →
    loadSections s.caddy.slot (sortBy loadKey (s.imgSections s.caddy.slot)) s = (u, true) → u.setsOk = true →
    sha256 (s.imgMessage s.caddy.slot) = s.caddy.firstHash → (s.imgSections s.caddy.slot).all (s.digestOk s.caddy.slot) = true →
    u.fab.held = [] → u.fab.txns = [] → u.net.mbQueue = [] →
    ∃ t, exec (.caddySecondPassDone false false ms) s = .next t ∧ t.caddy.phase = 3 ∧ t.fab.locked = true ∧
      t.get CADDY_STATUS_LOADED = 1 ∧ t.get CADDY_STATUS_LOCKED = 1 ∧ t.get SYS_STATUS_CP_RUN = (if u.cpUp then 1 else 0) := by
  intro hup hp hl hsets hhash hall hh ht hq
  have hno : ¬ (!s.mpUp || decide (s.caddy.phase ≠ 2)) = true := by simp [hup, hp]
  have hpass : s.secondPassDone false false ms State.writeAt = u.loadDone ms State.writeAt := by
    rw [State.secondPassDone, if_neg hno]
    simp [hl, hsets, hhash, hall]
  have hcore := State.loadDone_core ms hh hq
  rw [exec_caddySecondPassDone_eq, hpass]
  generalize u.loadDone ms State.writeAt = v at hcore
  simp only [State.loadCore, Prod.mk.injEq] at hcore
  obtain ⟨hcaddy, hfab, hqueue, hcs, hsys⟩ := hcore
  have hphase : v.caddy.phase = 3 := by rw [hcaddy]; rfl
  have hlocked : v.fab.locked = true := by rw [hfab]; rfl
  have hget {f : Fld} (hf : v.reg f.addr = (u.loadShown ms).reg f.addr) : v.get f = (u.loadShown ms).get f := by
    rw [State.get, hf, State.get]
  rw [State.bareServe_settled (by rw [hphase]; decide) (by rw [hfab]; exact ht) (by rw [hqueue]; exact hq)]
  refine ⟨v, rfl, hphase, hlocked, ?_, ?_, ?_⟩
  · rw [hget hcs]
    simp [State.loadShown, State.get_putB_ne, State.get_put_ne, State.get_putB_same]
  · rw [hget hcs]
    simp [State.loadShown, State.get_putB_ne, State.get_put_ne, State.get_putB_same]
  · rw [hget hsys]
    simp [State.loadShown, State.get_putB_ne, State.get_put_ne, State.get_putB_same]

theorem exec_caddySecondPassDone_bad (altered readErr ok : Bool) (ms : Nat) (s u : State) :
    s.mpUp = true → s.caddy.phase = 2 →
    (altered = true ∨ readErr = true) →
    loadSections s.caddy.slot (sortBy loadKey (s.imgSections s.caddy.slot)) s = (u, ok) → s.caddy.fallback = true →
    u.caddy = s.caddy → u.fab.held = [] → u.fab.txns = [] → u.net.mbQueue = [] →
    ∃ t, exec (.caddySecondPassDone altered readErr ms) s = .next t ∧ t.caddy.phase = 4 ∧ t.get CADDY_STATUS_BARE_REASON = 4 := by
  intro hup hp hbad hl hf hu hh ht hq
  have hno : ¬ (!s.mpUp || decide (s.caddy.phase ≠ 2)) = true := by simp [hup, hp]
  have hpass : s.secondPassDone altered readErr ms State.writeAt = u.loadFail (if readErr then 0x0F else 0x0D) := by
    rw [State.secondPassDone, if_neg hno]
    cases readErr
    · have ha : altered = true := hbad.resolve_right (by simp)
      simp [hl, ha]
    · simp [hl]
  obtain ⟨t, ht', hphase, -, -, -, hreason⟩ := State.loadFail_served (if readErr then 0x0F else 0x0D)
    (by rw [hu]; exact hf) hh ht hq
  rw [exec_caddySecondPassDone_eq, hpass, ht']
  exact ⟨t, rfl, hphase, hreason⟩

/-! ### The key slots (R88) -/

theorem exec_keyProgram_eq (req : Nat) (k : Fin 4) (s : State) : exec (.keyProgram req k) s =
    .next (s.writeAt req CADDY_KEY_CTRL (0x0F7B0000 + BitVec.ofNat 32 (256 * k.val))) := rfl

theorem exec_keyRevoke_eq (req : Nat) (k : Fin 4) (s : State) : exec (.keyRevoke req k) s =
    .next (s.writeAt req CADDY_KEY_CTRL (0x4E7F0000 + BitVec.ofNat 32 (256 * k.val))) := rfl

/-- A table after writes of several keys that follow a base. -/
theorem tget_foldl_tset {α : Type} [DecidableEq α] (d : Nat → α) (b : Nat) (f : Nat → α) (j : Nat) (l : List Nat) (h : List (Nat × α)) :
    tget d (l.foldl (fun h i => tset d h (b + i) (f i)) h) (b + j) = if j ∈ l then f j else tget d h (b + j) := by
  induction l generalizing h with
  | nil => simp
  | cons x l ih =>
    rw [List.foldl_cons, ih]
    by_cases hj : j ∈ l
    · simp [hj]
    · by_cases hx : j = x
      · simp [hx, tget_tset_same]
      · rw [if_neg hj, if_neg (by simp [hj, hx]), tget_tset_ne _ _ _ (by omega)]

namespace State

theorem sameRegs_self (s : State) (a : Nat) : SameRegs [] s (s.setReg a (s.reg a)) := by
  intro b _
  by_cases h : b = a
  · rw [h, reg_setReg_same]
  · exact reg_setReg_ne _ _ h

/-- The state with another flash. -/
def withNv (s : State) (x : NonVol) : State := { s with nv := x }

section KeyCommand
variable {s : State} {req : Nat} {v : Word}

/-- CADDY_KEY_CTRL keeps nothing of a command. -/
theorem store_keyCtrl (s : State) (v : Word) :
    s.store CADDY_KEY_CTRL v = s.setReg CADDY_KEY_CTRL (s.reg CADDY_KEY_CTRL) := by
  have hrow : rowOf CADDY_KEY_CTRL = some { base := 0x0100e0, wo := 0xffff0300, rsv := 0x0000fc00 } := rfl
  have hafter (old : Word) :
      RegRow.after { base := 0x0100e0, wo := 0xffff0300, rsv := 0x0000fc00 } old v = old := by
    have hall (w : Word) : w &&& 4294967295#32 = w := BitVec.and_allOnes
    simp [RegRow.after, hall]
  simp [store, hrow, hafter, tableRegs]

theorem writeAt_keyCtrl (h : Writes s req CADDY_KEY_CTRL v) :
    s.writeAt req CADDY_KEY_CTRL v = (s.setReg CADDY_KEY_CTRL (s.reg CADDY_KEY_CTRL)).keyCommand v := by
  obtain ⟨hup, hl, hwait, hok⟩ := h
  rw [writeAt_now hl hwait (by decide), writeCore, hup, hok, ← store_keyCtrl s v]
  rfl

/-- The flash with the staged hash in a key slot. -/
def keyProgrammed (s : State) (k : Nat) : NonVol := { s.nv with
  keyHash := (List.range 8).foldl (fun h i => tset (fun _ => 0) h (8 * k + i) (s.reg (CADDY_KEY_STAGE i))) s.nv.keyHash
  keyProg := s.nv.keyProg ||| 2 ^ k }

theorem keyCommand_program {k : Nat} (hk : bits v 9 8 = k) (hv : bits v 31 16 = 0x0F7B) :
    s.keyCommand v = (s.withNv (s.keyProgrammed k)).ev portCaddy 0xC002 k := by
  rw [keyCommand, if_pos hv, hk]
  rfl

theorem keyCommand_revoke {k : Nat} (hk : bits v 9 8 = k) (hv : bits v 31 16 ≠ 0x0F7B) :
    s.keyCommand v = (s.withNv { s.nv with keyRev := s.nv.keyRev ||| 2 ^ k }).ev portCaddy 0xC003 k := by
  rw [keyCommand, if_neg hv, hk]
  rfl

theorem keyProgrammed_setReg (a : Nat) (k : Nat) : (s.setReg a (s.reg a)).keyProgrammed k = s.keyProgrammed k := by
  have hreg (b : Nat) : (s.setReg a (s.reg a)).reg b = s.reg b := s.sameRegs_self a b (by simp)
  simp only [keyProgrammed, hreg]
  rfl

/-- A command to a key slot changes the flash and leaves a record. -/
theorem keySlot_logged {x : NonVol} (hroom : Room s portCaddy) (a c k : Nat) :
    (((s.setReg a (s.reg a)).withNv x).ev portCaddy c k).nv = x ∧
      SameRegs [] s (((s.setReg a (s.reg a)).withNv x).ev portCaddy c k) ∧
      Logged portCaddy c k 0 0 s (((s.setReg a (s.reg a)).withNv x).ev portCaddy c k) := by
  have hroom' : Room ((s.setReg a (s.reg a)).withNv x) portCaddy := hroom.of_log rfl rfl
  have hlog : ((s.setReg a (s.reg a)).withNv x).log = s.log := rfl
  refine ⟨ev_nv .., ?_, ?_⟩
  · rw [ev_of_room hroom', sameRegs_wrote]
    exact (sameRegs_congr rfl).mpr (s.sameRegs_self a)
  · have h := logged_wrote ((s.setReg a (s.reg a)).withNv x) portCaddy c k 0 0
    rw [ev_of_room hroom']
    rwa [Logged, hlog] at h

end KeyCommand

end State

/-- What the words of a command to a key slot say. -/
theorem keyCtrl_words (k : Fin 4) :
    bits (0x0F7B0000 + BitVec.ofNat 32 (256 * k.val)) 9 8 = k.val ∧
      bits (0x0F7B0000 + BitVec.ofNat 32 (256 * k.val)) 31 16 = 0x0F7B ∧
      bits (0x4E7F0000 + BitVec.ofNat 32 (256 * k.val)) 9 8 = k.val ∧
      bits (0x4E7F0000 + BitVec.ofNat 32 (256 * k.val)) 31 16 ≠ 0x0F7B := by
  revert k
  decide

theorem exec_keyProgram_programs (req : Nat) (k : Fin 4) (s : State) :
    Writes s req CADDY_KEY_CTRL (0x0F7B0000 + BitVec.ofNat 32 (256 * k.val)) →
    Room s portCaddy →
    ∃ t, exec (.keyProgram req k) s = .next t ∧ t.nv.keyProg = s.nv.keyProg ||| 2 ^ k.val ∧ t.nv.keyRev = s.nv.keyRev ∧
      (∀ i, i < 8 → tget (fun _ => 0) t.nv.keyHash (8 * k + i) = s.reg (CADDY_KEY_STAGE i)) ∧
      t.nv.flash = s.nv.flash ∧ SameRegs [] s t ∧ Logged portCaddy 0xC002 k 0 0 s t := by
  intro hw hroom
  obtain ⟨hk, hv, -, -⟩ := keyCtrl_words k
  rw [exec_keyProgram_eq, State.writeAt_keyCtrl hw, State.keyCommand_program hk hv, State.keyProgrammed_setReg]
  obtain ⟨hnv, hregs, hlog⟩ := State.keySlot_logged (x := s.keyProgrammed k.val) hroom CADDY_KEY_CTRL 0xC002 k.val
  refine ⟨_, rfl, ?_, ?_, ?_, ?_, hregs, hlog⟩
  · rw [hnv]
    rfl
  · rw [hnv]
    rfl
  · intro i hi
    rw [hnv]
    refine (tget_foldl_tset (fun _ => 0) (8 * k.val) (fun i => s.reg (CADDY_KEY_STAGE i)) i _ _).trans ?_
    rw [if_pos (List.mem_range.mpr hi)]
  · rw [hnv]
    rfl

theorem exec_keyRevoke_revokes (req : Nat) (k : Fin 4) (s : State) :
    Writes s req CADDY_KEY_CTRL (0x4E7F0000 + BitVec.ofNat 32 (256 * k.val)) →
    Room s portCaddy →
    ∃ t, exec (.keyRevoke req k) s = .next t ∧ t.nv = { s.nv with keyRev := s.nv.keyRev ||| 2 ^ k.val } ∧
      SameRegs [] s t ∧ Logged portCaddy 0xC003 k 0 0 s t := by
  intro hw hroom
  obtain ⟨-, -, hk, hv⟩ := keyCtrl_words k
  rw [exec_keyRevoke_eq, State.writeAt_keyCtrl hw, State.keyCommand_revoke hk hv]
  obtain ⟨hnv, hregs, hlog⟩ := State.keySlot_logged (s := s)
    (x := { (s.setReg CADDY_KEY_CTRL (s.reg CADDY_KEY_CTRL)).nv with
      keyRev := (s.setReg CADDY_KEY_CTRL (s.reg CADDY_KEY_CTRL)).nv.keyRev ||| 2 ^ k.val }) hroom CADDY_KEY_CTRL 0xC003 k.val
  refine ⟨_, rfl, ?_, hregs, hlog⟩
  rw [hnv]
  rfl

/-- Settles O19: the passes lead on, to bare mode or to a locked module; a key slot is programmed or revoked. -/
theorem caddyLoad : Obligations.CaddyLoad :=
  ⟨exec_caddyFirstPassDone_good, exec_caddyFirstPassDone_bad, exec_caddySecondPassDone_good, exec_caddySecondPassDone_bad,
    exec_keyProgram_programs, exec_keyRevoke_revokes⟩

end Sys2Proof.Machine
end

section
/-! PROOFS. The swap of the caddy (R95 to R98): what pausing and resuming a body leave of the loader, the swap's start, its
refusals, and the end of the management restart. -/

namespace Sys2Proof.Machine

open Reg

namespace State

/-! ### Bodies of the Millstone -/

section Bodies
variable (s : State) (k : Nat) (b : Body)

@[simp] theorem body_setBody_same : (s.setBody k b).body k = b := tget_tset_same ..
theorem body_setBody_ne {j : Nat} (h : j ≠ k) : (s.setBody k b).body j = s.body j := tget_tset_ne _ _ _ h
theorem body_congr {t : State} (h : t.mill = s.mill) : t.body k = s.body k := by rw [body, h, body]

@[simp] theorem get_setBody (f : Fld) : (s.setBody k b).get f = s.get f := get_congr rfl f
@[simp] theorem on_setBody (f : Fld) : (s.setBody k b).on f = s.on f := on_congr rfl f
@[simp] theorem reg_setBody (a : Nat) : (s.setBody k b).reg a = s.reg a := reg_congr rfl a
@[simp] theorem bst_setBody (j : Nat) : (s.setBody k b).bst j = s.bst j := get_setBody ..

theorem bst_setBst (n : Nat) : (s.setBst k n).bst k = n % 16 := get_put_same _ _ _ (by simp)
@[simp] theorem body_setBst (n j : Nat) : (s.setBst k n).body j = s.body j := rfl

/-- What decides what a body does next, but for its readings and its steps. -/
def bodyPlan (b : Body) : Option StepRun × Option Nat × List Reading × Bool × Bool × Bool :=
  (b.run, b.rollTo, b.late, b.holdDue, b.pauseDue, b.heldOn)

/-- A body with no step, no rollback, no late reading, and neither a hold nor a pause to come. -/
def bodyFree (s : State) (k : Nat) : Prop := bodyPlan (s.body k) = (none, none, [], false, false, false)

/-- What of the rest of the module a step of a body leaves. -/
def bodyRest (s : State) : Caddy × Net × Fabric × Word × Word :=
  (s.caddy, s.net, s.fab, s.reg CADDY_STATUS, s.reg CADDY_SWAP_STATUS)

end Bodies

section Resume
variable {s : State} {k : Nat}

theorem bodyFree_of_body {t : State} (h : bodyPlan (t.body k) = bodyPlan (s.body k)) (hs : s.bodyFree k) : t.bodyFree k :=
  h.trans hs

/-- Reading a body's estimate entries leaves its plan, the registers and the rest of the module. -/
theorem readEntry_kept {β : Type} (p : State → β) (hset : ∀ (t : State) (b : Body),
    bodyPlan b = bodyPlan (t.body k) → p (t.setBody k b) = p t) (htook : ∀ t : State, p t.took = p t) (n : Nat) :
    p (s.readEntry k n).1 = p s := by
  unfold readEntry
  dsimp only
  split
  · exact hset _ _ rfl
  · generalize List.find? _ _ = o
    rcases o with _ | x
    · exact htook s
    · rfl

theorem readInputs_kept {β : Type} (p : State → β) (hset : ∀ (t : State) (b : Body),
    bodyPlan b = bodyPlan (t.body k) → p (t.setBody k b) = p t) (htook : ∀ t : State, p t.took = p t)
    (acts : List (Nat × Word)) : p (s.readInputs k acts).1 = p s := by
  have hfold (l : List Nat) (x : State × List (Nat × (Word × Word × Bool))) :
      p (l.foldl (fun a n => let x := a.1.readEntry k n; (x.1, a.2 ++ [(n, x.2)])) x).1 = p x.1 := by
    induction l generalizing x with
    | nil => rfl
    | cons n l ih => exact (ih _).trans (readEntry_kept p hset htook _)
  exact hfold _ _

/-- A body that starts a step keeps its state. -/
theorem bodyNext_idle (hf : s.bodyFree k) (hb : s.bst k = bRunning) {β : Type} (p : State → β)
    (hset : ∀ (t : State) (b : Body), p (t.setBody k b) = p t) (htook : ∀ t : State, p t.took = p t) :
    p (s.bodyNext k) = p s := by
  simp only [bodyFree, bodyPlan, Prod.mk.injEq] at hf
  obtain ⟨hrun, hroll, hlate, hhold, hpause, -⟩ := hf
  have hidle : p (s.bodyIdle k) = p s := by
    unfold bodyIdle
    simp only [hhold, hpause, hb, Bool.or_self, Bool.false_eq_true, ne_eq, not_true, if_false]
    split
    · rfl
    · exact (hset _ _).trans ((readInputs_kept p (fun t b _ => hset t b) htook _).trans (hset _ _))
  unfold bodyNext bodyGo
  simp only [hroll, hlate, ne_eq, not_true, decide_false, Bool.false_and, Bool.false_eq_true, if_false, Option.isSome_none]
  split
  · rfl
  · exact hidle

/-- The plan and the state of a body. -/
def bodyShown (s : State) (k : Nat) : (Option StepRun × Option Nat × List Reading × Bool × Bool × Bool) × Nat :=
  (bodyPlan (s.body k), s.bst k)

theorem bodyShown_congr {t : State} (hm : t.mill = s.mill) (hr : t.regs = s.regs) : t.bodyShown k = s.bodyShown k := by
  rw [bodyShown, body_congr _ _ hm, bst, get_congr hr, bodyShown, bst]

theorem bodyShown_setBody {b : Body} (h : bodyPlan b = bodyPlan (s.body k)) : (s.setBody k b).bodyShown k = s.bodyShown k := by
  rw [bodyShown, body_setBody_same, h, bst_setBody, bodyShown]

theorem bodyShown_ev (p c a b d : Nat) (v : Bool) (hp : p < 16) : (s.ev p c a b d v).bodyShown k = s.bodyShown k := by
  have hreg : MILL_BODY_STATUS k ≠ LOG_STATUS ∧ MILL_BODY_STATUS k ≠ LOG_DROP p := by
    simp only [MILL_BODY_STATUS, LOG_STATUS, LOG_DROP]
    omega
  rw [bodyShown, body_congr _ _ (ev_mill ..), bst, get_ev _ _ _ _ _ _ _ _ hreg.1 hreg.2, bodyShown, bst]

/-- The registers of a body's runs are not the one of its state. -/
theorem bodyShown_putB {f : Fld} (v : Bool) (h : MILL_BODY_STATUS k ≠ f.addr) :
    (s.putB f v).bodyShown k = s.bodyShown k := by
  have hreg : (s.putB f v).bst k = s.bst k := by
    rw [bst, get, reg_putB_ne _ _ _ h, bst, get]
  rw [bodyShown, hreg, bodyShown]
  rfl

theorem bodyShown_bodyPublish : (s.bodyPublish k).bodyShown k = s.bodyShown k := by
  refine (bodyShown_putB _ ?_).trans (each_keeps (fun t => t.bodyShown k) (fun t r => ?_) _ _)
  · simp only [MILL_BODY_STATUS, MILL_RUN_STATUS]
    omega
  · exact bodyShown_congr rfl rfl

theorem bodyShown_solveWant (c : Nat) : (s.solveWant k c).bodyShown k = s.bodyShown k := by
  unfold solveWant
  dsimp only
  generalize (s.body k).solving = o
  rcases o with _ | r
  · exact bodyShown_setBody rfl
  · dsimp only
    split
    · exact bodyShown_setBody rfl
    · exact bodyShown_setBody rfl

/-- A body that takes up its steps again from what it was paused with. -/
theorem resumeFrom_free (hh : (s.body k).heldOn = false) (l : List (Nat × Cell)) (age : Nat) (a : Option Nat) :
    (s.resumeFrom k l age a).bodyFree k ∧ (s.resumeFrom k l age a).bst k = bRunning := by
  have hread (t : State) (x : List (Nat × Word)) : bodyPlan ((t.readInputs k x).1.body k) = bodyPlan (t.body k) :=
    readInputs_kept (fun t => bodyPlan (t.body k)) (fun t b h => by rw [body_setBody_same, h]) (fun _ => rfl) x
  have hrun (t : State) (b : Body) (h : bodyPlan b = (none, none, [], false, false, false)) :
      ((t.setBody k b).setBst k bRunning).bodyShown k = ((none, none, [], false, false, false), bRunning) := by
    rw [bodyShown, bst_setBst, body_setBst, body_setBody_same, h]
    rfl
  have hend (t : State) (c : Nat) (x y : Nat) : (((((t.bodyPublish k).putB (MILL_RUN_STATUS_FROM_SNAPSHOT k) true).mev
      0x6035 k x y).solveWant k c).bodyShown k) = t.bodyShown k := by
    refine (bodyShown_solveWant _).trans ((bodyShown_ev _ _ _ _ _ _ (by decide)).trans ((bodyShown_putB _ ?_).trans
      bodyShown_bodyPublish))
    simp only [MILL_BODY_STATUS, MILL_RUN_STATUS]
    omega
  have hshown : (s.resumeFrom k l age a).bodyShown k = ((none, none, [], false, false, false), bRunning) := by
    unfold resumeFrom
    refine (hend _ _ _ _).trans (hrun _ _ ?_)
    refine (hread _ _).trans ?_
    rw [body_setBody_same]
    exact congrArg (fun x => (none, none, [], false, false, x)) hh
  exact ⟨congrArg Prod.fst hshown, congrArg Prod.snd hshown⟩

end Resume

/-! ### What a body's steps leave of a swap -/

section Rest
variable {s : State}

theorem bodyRest_congr {t : State} (hc : t.caddy = s.caddy) (hn : t.net = s.net) (hf : t.fab = s.fab) (hr : t.regs = s.regs) :
    t.bodyRest = s.bodyRest := by
  rw [bodyRest, hc, hn, hf, reg_congr hr, reg_congr hr, bodyRest]

theorem bodyRest_setReg {a : Nat} (w : Word) (ha : 0x100000 ≤ a) : (s.setReg a w).bodyRest = s.bodyRest := by
  have hne (c : Nat) (hc : c < 0x100000) : (s.setReg a w).reg c = s.reg c := reg_setReg_ne _ _ (by omega)
  have hframe : (s.setReg a w).caddy = s.caddy ∧ (s.setReg a w).net = s.net ∧ (s.setReg a w).fab = s.fab := ⟨rfl, rfl, rfl⟩
  rw [bodyRest, hne _ (by decide), hne _ (by decide), hframe.1, hframe.2.1, hframe.2.2, bodyRest]

theorem bodyRest_put {f : Fld} (n : Nat) (ha : 0x100000 ≤ f.addr) : (s.put f n).bodyRest = s.bodyRest :=
  bodyRest_setReg _ ha

theorem bodyRest_putB {f : Fld} (b : Bool) (ha : 0x100000 ≤ f.addr) : (s.putB f b).bodyRest = s.bodyRest :=
  bodyRest_setReg _ ha

theorem bodyRest_ev (p c a b d : Nat) (v : Bool) : (s.ev p c a b d v).bodyRest = s.bodyRest := by
  have hreg (r : Nat) (hr : r < 0x020000) : (s.ev p c a b d v).reg r = s.reg r :=
    reg_ev _ _ _ _ _ _ _ (ne_of_lt (hr.trans (by decide))) (by simp only [LOG_DROP]; omega)
  rw [bodyRest, hreg _ (by decide), hreg _ (by decide), ev_caddy, ev_net, ev_fab, bodyRest]

theorem bodyRest_setBody (k : Nat) (b : Body) : (s.setBody k b).bodyRest = s.bodyRest := bodyRest_congr rfl rfl rfl rfl

theorem bodyRest_setBst (k n : Nat) : (s.setBst k n).bodyRest = s.bodyRest :=
  bodyRest_put _ (Nat.le_add_right_of_le (by decide))

theorem bodyRest_stage (k : Nat) : (s.stage k).bodyRest = s.bodyRest := by
  have hsnap (t : State) : (t.snapContribute k).bodyRest = t.bodyRest := by
    unfold snapContribute
    split
    · exact bodyRest_congr rfl rfl rfl rfl
    · rfl
  exact (hsnap _).trans (bodyRest_setBody ..)

theorem bodyRest_resumeFrom (k : Nat) (l : List (Nat × Cell)) (age : Nat) (a : Option Nat) :
    (s.resumeFrom k l age a).bodyRest = s.bodyRest := by
  have hshow (t : State) {f : Fld} (hf : 0x100000 ≤ f.addr) : (t.putB f true).bodyRest = t.bodyRest := bodyRest_putB _ hf
  have hpub (t : State) : (t.bodyPublish k).bodyRest = t.bodyRest := by
    refine (bodyRest_putB _ (Nat.le_add_right_of_le (by decide))).trans (each_keeps bodyRest (fun t r => ?_) _ _)
    exact bodyRest_congr rfl rfl rfl rfl
  have hwant (t : State) (c : Nat) : (t.solveWant k c).bodyRest = t.bodyRest := by
    unfold solveWant
    dsimp only
    generalize (t.body k).solving = o
    rcases o with _ | r
    · exact bodyRest_setBody ..
    · dsimp only
      split
      · exact bodyRest_setBody ..
      · exact bodyRest_setBody ..
  have hread (t : State) (x : List (Nat × Word)) : (t.readInputs k x).1.bodyRest = t.bodyRest :=
    readInputs_kept bodyRest (fun t b _ => bodyRest_setBody ..) (fun _ => bodyRest_congr rfl rfl rfl rfl) x
  unfold resumeFrom
  exact (hwant _ _).trans ((bodyRest_ev ..).trans ((hshow _ (Nat.le_add_right_of_le (by decide))).trans ((hpub _).trans
    ((bodyRest_setBst ..).trans ((bodyRest_setBody ..).trans ((hread _ _).trans ((bodyRest_setBody ..).trans
      (bodyRest_congr rfl rfl rfl rfl))))))))

end Rest

/-! ### A paused body goes on (R98) -/

section GoOn
variable {s : State} {k : Nat}

/-- A body whose swap has written its sections steps again. -/
theorem bodyGoOn_running (hf : s.bodyFree k) :
    (s.bodyGoOn k none).bst k = bRunning ∧ (s.bodyGoOn k none).bodyRest =
      (s.withCaddy { s.caddy with swapPaused := s.caddy.swapPaused.filter (fun j => j ≠ k) }).bodyRest := by
  have hgo (t : State) (ht : t.bodyFree k) (hb : t.bst k = bRunning) :
      ((t.heldAgain k false).bodyNext k).bst k = bRunning ∧ ((t.heldAgain k false).bodyNext k).bodyRest = t.bodyRest := by
    have hheld : (t.body k).heldOn = false := congrArg (fun x => x.2.2.2.2.2) ht
    have hsame : t.heldAgain k false = t := if_pos (by simp [hheld])
    rw [hsame]
    exact ⟨(bodyNext_idle ht hb (fun t => t.bst k) (fun t b => bst_setBody ..) fun _ => get_congr rfl _).trans hb,
      bodyNext_idle ht hb bodyRest (fun t b => bodyRest_setBody ..) fun _ => bodyRest_congr rfl rfl rfl rfl⟩
  have hstep (t : State) (ht : t.bodyFree k) :
      (t.stepThrough k).bodyFree k ∧ (t.stepThrough k).bst k = bRunning ∧ (t.stepThrough k).bodyRest = t.bodyRest := by
    refine ⟨?_, ?_, ?_⟩
    · rw [bodyFree, stepThrough, body_setBody_same]
      exact ht
    · rw [stepThrough, bst_setBody, bst_setBst]
      rfl
    · exact (bodyRest_setBody ..).trans (bodyRest_setBst ..)
  have hresume (t : State) (ht : t.bodyFree k) : ((if (t.body k).snapDue then t.resumeStaged k else t.stepThrough k)).bodyFree
      k ∧ (if (t.body k).snapDue then t.resumeStaged k else t.stepThrough k).bst k = bRunning ∧
      (if (t.body k).snapDue then t.resumeStaged k else t.stepThrough k).bodyRest = t.bodyRest := by
    split
    · obtain ⟨hfree, hrun⟩ := resumeFrom_free (congrArg (fun x => x.2.2.2.2.2) ht) (t.body k).staged
        ((t.tim.dp - (t.body k).stoppedAt) / 1000000) none
      exact ⟨hfree, hrun, bodyRest_resumeFrom ..⟩
    · exact hstep t ht
  obtain ⟨hfree, hrun, hrest⟩ := hresume
    (s.withCaddy { s.caddy with swapPaused := s.caddy.swapPaused.filter (fun j => j ≠ k) }) hf
  obtain ⟨hb, hr⟩ := hgo _ hfree hrun
  exact ⟨hb, hr.trans hrest⟩

/-- A swap whose bodies are paused waits. -/
theorem swapGo_waits {w : Swap} (hs : s.caddy.swap = some w) (hw : w.written = true) (hp : s.caddy.swapPaused ≠ []) :
    s.swapGo = s := by
  have h1 : s.swapWrite1 = (s, none) := by
    rw [swapWrite1, hs]
    exact if_pos (by simp [hw])
  have h2 : s.swapNext1 = (s, none) := by
    rw [swapNext1, hs]
    exact if_pos (by simp [hp])
  simp [swapGo, h1, h2]

/-- Nothing of a swap waits for bodies while its first sections wait for one. -/
theorem swapGo_pausing {w : Swap} {k : Nat} (hs : s.caddy.swap = some w) (hw : w.written = false) (hk : k ∈ w.together)
    (hp : k ∉ s.caddy.swapPaused) : s.swapGo = s := by
  have hall : (w.together.all fun k => s.caddy.swapPaused.contains k) = false := by
    rw [List.all_eq_false]
    exact ⟨k, hk, by simpa using hp⟩
  have h1 : s.swapWrite1 = (s, none) := by
    rw [swapWrite1, hs]
    exact if_pos (by rw [hall, Bool.not_false, Bool.or_true])
  have h2 : s.swapNext1 = (s, none) := by
    rw [swapNext1, hs]
    exact if_pos (by simp [hw])
  simp [swapGo, h1, h2]

theorem importSettle_idle (h : s.net.xfers = []) : s.importSettle = s := by
  rw [importSettle, h]
  rfl

end GoOn

end State
theorem exec_bodySwapResume_eq (k : Fin 16) (s : State) :
    exec (.bodySwapResume k) s = .next (s.swapResume k.val).importSettle := rfl

theorem exec_bodySwapResume_resumes (k : Fin 16) (j : Nat) (w : Swap) (s : State) :
    s.caddy.swap = some w → w.written = true →
    w.applied.contains (5, k.val) = false → s.caddy.swapPaused = [k.val, j] → j ≠ k → s.net.xfers = [] →
    (s.body k).run = none → (s.body k).rollTo = none → (s.body k).late = [] → (s.body k).holdDue = false →
    (s.body k).pauseDue = false → (s.body k).heldOn = false →
    ∃ t, exec (.bodySwapResume k) s = .next t ∧ t.bst k = 2 ∧ t.caddy.swapPaused = [j] := by
  intro hs hw ha hp hj hx hrun hroll hlate hhold hpause hheld
  have hfree : s.bodyFree k.val := by
    rw [State.bodyFree, State.bodyPlan, hrun, hroll, hlate, hhold, hpause, hheld]
  obtain ⟨hb, hrest⟩ := State.bodyGoOn_running hfree
  have hone : s.caddy.swapPaused.filter (fun i => i ≠ k.val) = [j] := by
    rw [hp]
    simp [hj]
  have hgo : s.swapGo = s := State.swapGo_waits hs hw (by simp [hp])
  have hon : ¬ (!w.written || !s.caddy.swapPaused.contains k.val) = true := by simp [hw, hp]
  have hin : ¬ (!s.caddy.swapPaused.contains k.val) = true := by simp [hp]
  have hresume : s.swapResume k.val = (s.bodyGoOn k.val none).swapGo := by
    rw [State.swapResume, if_neg hin]
    simp only [hgo, hs, if_neg hon, ha, Bool.false_eq_true, if_false]
  rw [hone] at hrest
  rw [exec_bodySwapResume_eq, hresume]
  generalize s.bodyGoOn k.val none = t at hb hrest
  simp only [State.bodyRest, Prod.mk.injEq] at hrest
  obtain ⟨hcaddy, hnet, -, -, -⟩ := hrest
  have hswap : t.caddy.swap = some w := by
    rw [hcaddy]
    exact hs
  have hpaused : t.caddy.swapPaused = [j] := by
    rw [hcaddy]
    rfl
  rw [State.swapGo_waits hswap hw (by simp [hpaused]), State.importSettle_idle (by rw [hnet]; exact hx)]
  exact ⟨t, rfl, hb, hpaused⟩

theorem exec_bodySwapResume_other (k : Fin 16) (s : State) :
    s.caddy.swapPaused.contains k.val = false → s.net.xfers = [] →
    exec (.bodySwapResume k) s = .next s := by
  intro hp hx
  rw [exec_bodySwapResume_eq, State.swapResume, if_pos (by rw [hp, Bool.not_false]), State.importSettle_idle hx]

/-! ### The swap key (R95 to R97) -/

namespace State

section SwapCmd
variable {s : State} {req : Nat} {v : Word}

/-- CADDY_SWAP_CMD keeps nothing of a command. -/
theorem store_swapCmd (s : State) (v : Word) :
    s.store CADDY_SWAP_CMD v = s.setReg CADDY_SWAP_CMD (s.reg CADDY_SWAP_CMD) := by
  have hrow : rowOf CADDY_SWAP_CMD = some { base := 0x0100f0, wo := 0xffff0000, rsv := 0x0000ffff, ranges := [(31, 16, 23629, 23629)] } := rfl
  have hafter (old : Word) :
      RegRow.after { base := 0x0100f0, wo := 0xffff0000, rsv := 0x0000ffff, ranges := [(31, 16, 23629, 23629)] } old v = old := by
    have hall (w : Word) : w &&& 4294967295#32 = w := BitVec.and_allOnes
    simp [RegRow.after, hall]
  simp [store, hrow, hafter, tableRegs]

/-- A state after a write of a register that keeps nothing. -/
def touched (s : State) (a : Nat) : State := s.setReg a (s.reg a)

@[simp] theorem reg_touched (a b : Nat) : (s.touched a).reg b = s.reg b := s.sameRegs_self a b (by simp)
@[simp] theorem get_touched (a : Nat) (f : Fld) : (s.touched a).get f = s.get f := by rw [get, reg_touched, get]
@[simp] theorem on_touched (a : Nat) (f : Fld) : (s.touched a).on f = s.on f := by rw [on, get_touched, on]
@[simp] theorem touched_caddy (a : Nat) : (s.touched a).caddy = s.caddy := rfl
@[simp] theorem touched_nv (a : Nat) : (s.touched a).nv = s.nv := rfl
@[simp] theorem touched_fab (a : Nat) : (s.touched a).fab = s.fab := rfl
@[simp] theorem touched_net (a : Nat) : (s.touched a).net = s.net := rfl
@[simp] theorem touched_mill (a : Nat) : (s.touched a).mill = s.mill := rfl
theorem touched_frame (a : Nat) : { s.touched a with regs := s.regs } = s := rfl

theorem flashFacts_frame (o : Bool) (x y : Nat) : (s.flashFacts o x y).regs = s.regs ∧ (s.flashFacts o x y).caddy = s.caddy ∧
    (s.flashFacts o x y).fab = s.fab ∧ (s.flashFacts o x y).net = s.net ∧ (s.flashFacts o x y).mill = s.mill ∧
    (s.flashFacts o x y).nv.flash = s.nv.flash := ⟨rfl, rfl, rfl, rfl, rfl, rfl⟩

/-- The swap key does not wait for what the loader finds of the flash. -/
theorem Writes.flashFacts (h : Writes s req CADDY_SWAP_CMD v) (o : Bool) (x y : Nat) :
    Writes (s.flashFacts o x y) req CADDY_SWAP_CMD v := h

theorem writeAt_swapCmd (h : Writes s req CADDY_SWAP_CMD v) :
    s.writeAt req CADDY_SWAP_CMD v = (s.touched CADDY_SWAP_CMD).swapCmd := by
  obtain ⟨hup, hl, hwait, hok⟩ := h
  have hload : ¬ (s.mpUp && s.loading && decide (req ≠ 2)) = true := by
    rcases hl with h | h <;> simp [h]
  have hcore : s.writeCore req CADDY_SWAP_CMD v = s.touched CADDY_SWAP_CMD := by
    rw [writeCore, hup, hok, store_swapCmd]
    rfl
  rw [writeAt, if_neg hload, hwait, Bool.and_false, if_neg Bool.false_ne_true, writeNow, hcore, hup, hok]
  rfl

theorem sameRegs_touched {l : List Nat} (a : Nat) : SameRegs l s (s.touched a) := fun b _ => reg_touched a b

theorem swapReason_running {w : Swap} (h : s.caddy.swap = some w) : s.swapReason = 4 := by
  simp [swapReason, h]

theorem swapReason_invalid (hs : s.caddy.swap = none) (hp : s.caddy.phase = 3) (hv : s.slotValid (1 - s.caddy.slot) = false) :
    s.swapReason = if s.caddy.writing then 3 else 1 := by
  simp [swapReason, hs, hp, hv]

theorem swapReason_newer (hs : s.caddy.swap = none) (hw : s.caddy.writing = false)
    (hv : s.slotValid (1 - s.caddy.slot) = true) (hr : s.slotReason (1 - s.caddy.slot) = 0)
    (hq : s.imgSeq s.caddy.slot < s.imgSeq (1 - s.caddy.slot)) : s.swapReason = 0 := by
  simp [swapReason, hs, hw, hv, hr, hq]

theorem swapCmd_running {w : Swap} (h : s.caddy.swap = some w) : s.swapCmd = s.put CADDY_SWAP_STATUS_REASON 4 := by
  simp only [swapCmd, swapReason_running h]

theorem swapCmd_invalid (hs : s.caddy.swap = none) (hp : s.caddy.phase = 3) (hv : s.slotValid (1 - s.caddy.slot) = false) :
    s.swapCmd = s.swapRefuse (if s.caddy.writing then 3 else 1) := by
  rw [swapCmd, swapReason_invalid hs hp hv]
  cases s.caddy.writing
  · simp only [Bool.false_eq_true, if_false, hv]
  · simp only [if_true]

theorem swapCmd_newer (hp : s.caddy.phase = 3) (hr : s.swapReason = 0) : s.swapCmd = s.swapStart (1 - s.caddy.slot) := by
  simp only [swapCmd, hr, hp, if_true, if_neg (show ¬ (3 : Nat) = 4 by decide)]

/-! ### The start of a swap -/

/-- A body that steps is told to pause, and others may pause at once. -/
structure Pausing (k : Nat) (s t : State) : Prop where
  run : (t.body k).run = (s.body k).run
  alone : k ∈ t.caddy.swapPaused → k ∈ s.caddy.swapPaused
  swap : t.caddy.swap = s.caddy.swap
  phase : t.caddy.phase = s.caddy.phase
  net : t.net = s.net
  fab : t.fab = s.fab
  status : t.reg CADDY_STATUS = s.reg CADDY_STATUS
  shown : t.reg CADDY_SWAP_STATUS = s.reg CADDY_SWAP_STATUS

theorem Pausing.refl (k : Nat) (s : State) : Pausing k s s := ⟨rfl, id, rfl, rfl, rfl, rfl, rfl, rfl⟩

theorem Pausing.trans {k : Nat} {s t u : State} (h : Pausing k s t) (g : Pausing k t u) : Pausing k s u :=
  ⟨g.run.trans h.run, fun x => h.alone (g.alone x), g.swap.trans h.swap, g.phase.trans h.phase, g.net.trans h.net,
    g.fab.trans h.fab, g.status.trans h.status, g.shown.trans h.shown⟩

theorem bodyPaused_pausing {k j : Nat} (s : State) (hj : k ≠ j) : Pausing k s (s.bodyPaused j) := by
  have hset (t : State) (b : Body) : (t.setBody j b).body k = t.body k := body_setBody_ne _ _ _ hj
  have hstage (t : State) : (t.stage j).body k = t.body k := by
    have hsnap (v : State) : (v.snapContribute j).body k = v.body k := by
      unfold snapContribute
      split <;> rfl
    exact (hsnap _).trans (hset ..)
  have hmid (t : State) (c : Prop) [Decidable c] (b : Body) :
      (if c then t else (t.setBody j b).stage j).body k = t.body k ∧
      (if c then t else (t.setBody j b).stage j).bodyRest = t.bodyRest := by
    split
    · exact ⟨rfl, rfl⟩
    · exact ⟨(hstage _).trans (hset ..), (bodyRest_stage j).trans (bodyRest_setBody ..)⟩
  have hend (t : State) : Pausing k t
      ((t.setBst j bPaused).withCaddy { t.caddy with swapPaused := t.caddy.swapPaused ++ [j] }) := by
    have hreg (a : Nat) (ha : a < 0x100000) : (t.setBst j bPaused).reg a = t.reg a :=
      reg_put_ne _ _ _ (by simp only [MILL_BODY_STATUS]; omega)
    refine ⟨rfl, fun h => ?_, rfl, rfl, rfl, rfl, (reg_congr rfl _).trans (hreg _ (by decide)),
      (reg_congr rfl _).trans (hreg _ (by decide))⟩
    rcases List.mem_append.mp h with h | h
    · exact h
    · exact absurd (List.mem_singleton.mp h) hj
  have hrest {u : State} (hb : u.body k = s.body k) (hr : u.bodyRest = s.bodyRest) : Pausing k s u := by
    simp only [bodyRest, Prod.mk.injEq] at hr
    obtain ⟨hc, hn, hf, hcs, hsw⟩ := hr
    exact ⟨by rw [hb], by rw [hc]; exact id, by rw [hc], by rw [hc], hn, hf, hcs, hsw⟩
  have hbody : ((s.setBody j { s.body j with pauseDue := false }).body k) = s.body k := hset ..
  obtain ⟨hb, hr⟩ := hmid (s.setBody j { s.body j with pauseDue := false }) ((s.body j).heldOn = true)
    (((s.setBody j { s.body j with pauseDue := false }).body j).cancel 2)
  exact (hrest (hb.trans hbody) (hr.trans (bodyRest_setBody ..))).trans (hend _)

theorem pauseBody_pausing {k : Nat} (s : State) (j : Nat) (hr : (s.body k).run ≠ none) : Pausing k s (s.pauseBody j) := by
  unfold pauseBody
  dsimp only
  split
  case isTrue h =>
    refine bodyPaused_pausing s fun hj => hr ?_
    rw [hj]
    exact Option.isNone_iff_eq_none.mp (Bool.and_eq_true_iff.mp h).1
  case isFalse h =>
    refine ⟨?_, id, rfl, rfl, rfl, rfl, reg_setBody .., reg_setBody ..⟩
    by_cases hj : k = j
    · rw [hj, body_setBody_same]
    · rw [body_setBody_ne _ _ _ hj]

theorem pauseAll_pausing {k : Nat} (l : List Nat) (s : State) (hr : (s.body k).run ≠ none) :
    Pausing k s (s.each l pauseBody) := by
  induction l generalizing s with
  | nil => exact Pausing.refl k s
  | cons j l ih =>
    have hj := pauseBody_pausing s j hr
    exact hj.trans (ih _ (by rw [hj.run]; exact hr))

/-- The swap that a write of the swap key starts (R97, R98). -/
def swapNew (s : State) (n : Nat) : Swap :=
  let ch := s.changedSections s.caddy.slot n
  let together := s.pausing ch
  let turn := if ch.contains (3, 255) then s.bodies.filter (fun k => !together.contains k) else []
  { slot := n, base := s.caddy.slot, changed := ch, together := together, turn := turn, began := s.optime }

/-- A swap shown as running, before bodies pause for it. -/
def swapShown (s : State) (n : Nat) : State :=
  let t := s.withCaddy { s.caddy with swap := some (s.swapNew n) }
  let u := (((t.put CADDY_SWAP_STATUS_STATE 1).put CADDY_SWAP_STATUS_REASON 0).put CADDY_SWAP_STATUS_APPLIED 0).put
    CADDY_SWAP_STATUS_CHANGED (s.swapNew n).changed.length
  u.busyShow

theorem swapStart_eq (n : Nat) : s.swapStart n = (((s.swapShown n).ev portCaddy 0x0023 (s.imgSeq n)
    (s.swapNew n).changed.length).each (s.swapNew n).together pauseBody).swapGo := rfl

theorem swapShown_status (n : Nat) :
    (s.swapShown n).get CADDY_SWAP_STATUS_STATE = 1 ∧ (s.swapShown n).get CADDY_STATUS_SWAP_BUSY = 1 := by
  have hshown (t : State) (m : Nat) (b : Bool) (hb : b = true) (u : State) (hu : u = ((((t.put CADDY_SWAP_STATUS_STATE
      1).put CADDY_SWAP_STATUS_REASON 0).put CADDY_SWAP_STATUS_APPLIED 0).put CADDY_SWAP_STATUS_CHANGED m).putB
        CADDY_STATUS_SWAP_BUSY b) : u.get CADDY_SWAP_STATUS_STATE = 1 ∧ u.get CADDY_STATUS_SWAP_BUSY = 1 := by
    simp [hu, get_put_ne, get_put_same, get_putB_ne, get_putB_same, hb]
  exact hshown (s.withCaddy { s.caddy with swap := some (s.swapNew n) }) _ _ (Bool.or_true _) _ rfl

/-- A swap that a stepping body must pause for has started, and waits for it. -/
theorem swapStart_waits {k n : Nat} (hk : k ∈ (s.swapNew n).together) (hr : (s.body k).run ≠ none)
    (hp : k ∉ s.caddy.swapPaused) : (s.swapStart n).caddy.swap = some (s.swapNew n) ∧
      (s.swapStart n).get CADDY_SWAP_STATUS_STATE = 1 ∧ (s.swapStart n).get CADDY_STATUS_SWAP_BUSY = 1 ∧
      (s.swapStart n).caddy.phase = s.caddy.phase ∧ (s.swapStart n).net = s.net ∧ (s.swapStart n).fab = s.fab := by
  have hshown : Pausing k (s.swapShown n) (((s.swapShown n).ev portCaddy 0x0023 (s.imgSeq n)
      (s.swapNew n).changed.length).each (s.swapNew n).together pauseBody) := by
    have hrun : (((s.swapShown n).ev portCaddy 0x0023 (s.imgSeq n) (s.swapNew n).changed.length).body k).run ≠ none := by
      rw [body_congr _ _ (ev_mill ..)]
      exact hr
    have hreg (a : Nat) (ha : a < 0x020000) : ((s.swapShown n).ev portCaddy 0x0023 (s.imgSeq n)
        (s.swapNew n).changed.length).reg a = (s.swapShown n).reg a :=
      reg_ev _ _ _ _ _ _ _ (ne_of_lt (ha.trans (by decide))) (by simp only [LOG_DROP]; omega)
    have hev : Pausing k (s.swapShown n) ((s.swapShown n).ev portCaddy 0x0023 (s.imgSeq n) (s.swapNew n).changed.length) :=
      ⟨by rw [body_congr _ _ (ev_mill ..)], by rw [ev_caddy]; exact id, by rw [ev_caddy], by rw [ev_caddy], ev_net ..,
        ev_fab .., hreg _ (by decide), hreg _ (by decide)⟩
    exact hev.trans (pauseAll_pausing _ _ hrun)
  have hcaddy : (s.swapShown n).caddy = { s.caddy with swap := some (s.swapNew n) } := rfl
  obtain ⟨hstate, hbusy⟩ := s.swapShown_status n
  rw [swapStart_eq]
  generalize ((s.swapShown n).ev portCaddy 0x0023 (s.imgSeq n) (s.swapNew n).changed.length).each (s.swapNew n).together
    pauseBody = t at hshown
  have hswap : t.caddy.swap = some (s.swapNew n) := by rw [hshown.swap, hcaddy]
  have halone : k ∉ t.caddy.swapPaused := fun h => hp (by
    have h' := hshown.alone h
    rw [hcaddy] at h'
    exact h')
  rw [swapGo_pausing hswap rfl hk halone]
  refine ⟨hswap, ?_, ?_, by rw [hshown.phase, hcaddy], hshown.net, hshown.fab⟩
  · rw [get, hshown.shown]
    exact hstate
  · rw [get, hshown.status]
    exact hbusy

/-- The new swap is about what the images say, and about the bodies as they are. -/
theorem swapNew_congr {t : State} (hr : ∀ a, t.reg a = s.reg a) (hc : t.caddy = s.caddy) (hf : t.nv.flash = s.nv.flash)
    (n : Nat) : (t.swapNew n).changed = s.changedSections s.caddy.slot n ∧
      (t.swapNew n).together = s.pausing (s.changedSections s.caddy.slot n) := by
  have hbyte (a : Nat) : t.flashByte a = s.flashByte a := by rw [flashByte, hf, flashByte]
  have hbytes (m o l : Nat) : t.slotBytes m o l = s.slotBytes m o l := by simp only [slotBytes, hbyte]
  have hsections (m : Nat) : t.imgSections m = s.imgSections m := by
    have hone : t.imgSection m = s.imgSection m := by
      funext j
      simp only [imgSection, hbytes]
    simp only [imgSections, imgCount, slotNat, hbytes, hone]
  have hchanged (a m : Nat) : t.changedSections a m = s.changedSections a m := by
    simp only [changedSections, sectionOf, hsections]
  have hon (f : Fld) : t.on f = s.on f := by rw [on, get, hr, on, get]
  have hbst (j : Nat) : t.bst j = s.bst j := by rw [bst, get, hr, bst, get]
  have hpausing (l : List (Nat × Nat)) : t.pausing l = s.pausing l := by simp only [pausing, bodies, hon, hbst]
  refine ⟨?_, ?_⟩
  · rw [swapNew, hc, hchanged]
  · rw [swapNew, hc, hchanged, hpausing]

end SwapCmd

end State

theorem exec_caddySwap_eq (x : SwapWrite) (s : State) : exec (.caddySwap x) s =
    .next ((s.flashFacts x.octal x.badA x.badB).writeAt x.req CADDY_SWAP_CMD 0x5C4D0000).bareServe := rfl

theorem exec_caddySwap_running (req : Nat) (octal : Bool) (badA badB : Fin 4) (w : Swap) (s : State) :
    Writes s req CADDY_SWAP_CMD 0x5C4D0000 →
    s.caddy.phase ≠ 4 → s.caddy.swap = some w → s.fab.txns = [] → s.net.mbQueue = [] →
    ∃ t, exec (.caddySwap ⟨req, octal, badA, badB⟩) s = .next t ∧ t.get CADDY_SWAP_STATUS_REASON = 4 ∧
      t.get CADDY_SWAP_STATUS_STATE = s.get CADDY_SWAP_STATUS_STATE ∧
      OnlyRegs [CADDY_SWAP_STATUS] (s.flashFacts octal badA badB) t := by
  intro hw hp hs ht hq
  obtain ⟨hregs, hcaddy, hfab, hnet, -, -⟩ := s.flashFacts_frame octal badA badB
  rw [exec_caddySwap_eq, State.writeAt_swapCmd (State.Writes.flashFacts hw octal badA badB)]
  generalize s.flashFacts octal badA badB = u at hregs hcaddy hfab hnet
  have hcmd : (u.touched CADDY_SWAP_CMD).swapCmd = (u.touched CADDY_SWAP_CMD).put CADDY_SWAP_STATUS_REASON 4 :=
    State.swapCmd_running (w := w) (by rw [State.touched_caddy, hcaddy, hs])
  have hserve : ((u.touched CADDY_SWAP_CMD).put CADDY_SWAP_STATUS_REASON 4).bareServe =
      (u.touched CADDY_SWAP_CMD).put CADDY_SWAP_STATUS_REASON 4 :=
    State.bareServe_settled (s := (u.touched CADDY_SWAP_CMD).put CADDY_SWAP_STATUS_REASON 4)
      (by rw [← hcaddy] at hp; exact hp) (by rw [← hfab] at ht; exact ht) (by rw [← hnet] at hq; exact hq)
  rw [hcmd, hserve]
  refine ⟨_, rfl, State.get_put_same _ _ _ (by decide), ?_, ?_, rfl⟩
  · rw [State.get_put_ne _ _ _ _ (by decide) (by decide), State.get_touched, State.get_congr hregs]
  · rw [sameRegs_put (by decide)]
    exact State.sameRegs_touched _

theorem exec_caddySwap_refused (req : Nat) (octal : Bool) (badA badB : Fin 4) (s : State) :
    Writes s req CADDY_SWAP_CMD 0x5C4D0000 →
    s.caddy.phase = 3 → s.caddy.swap = none → s.slotValid (1 - s.caddy.slot) = false → s.fab.txns = [] →
    s.net.mbQueue = [] →
    ∃ t, exec (.caddySwap ⟨req, octal, badA, badB⟩) s = .next t ∧ t.get CADDY_SWAP_STATUS_STATE = 4 ∧
      t.get CADDY_SWAP_STATUS_REASON = (if s.caddy.writing then 3 else 1) ∧
      OnlyRegs [CADDY_SWAP_STATUS, NET_HSPI_IRQ_STATUS] (s.flashFacts octal badA badB) t := by
  intro hw hp hs hv ht hq
  obtain ⟨hregs, hcaddy, hfab, hnet, -, -⟩ := s.flashFacts_frame octal badA badB
  rw [exec_caddySwap_eq, State.writeAt_swapCmd (State.Writes.flashFacts hw octal badA badB)]
  generalize s.flashFacts octal badA badB = u at hregs hcaddy hfab hnet
  have hvalid : (u.touched CADDY_SWAP_CMD).slotValid (1 - (u.touched CADDY_SWAP_CMD).caddy.slot) = false := by
    rw [State.slotValid, State.on_touched, State.touched_caddy, hcaddy, State.on_congr hregs]
    exact hv
  have hcmd : (u.touched CADDY_SWAP_CMD).swapCmd = (u.touched CADDY_SWAP_CMD).swapRefuse (if s.caddy.writing then 3 else 1) := by
    rw [State.swapCmd_invalid (by rw [State.touched_caddy, hcaddy, hs]) (by rw [State.touched_caddy, hcaddy, hp]) hvalid,
      State.touched_caddy, hcaddy]
  have hserve (n : Nat) : ((u.touched CADDY_SWAP_CMD).swapRefuse n).bareServe = (u.touched CADDY_SWAP_CMD).swapRefuse n := by
    have hphase : ((u.touched CADDY_SWAP_CMD).swapRefuse n).caddy.phase ≠ 4 := by
      have h : u.caddy.phase = 3 := by rw [hcaddy, hp]
      exact fun h4 => absurd (h.symm.trans h4) (by decide)
    exact State.bareServe_settled hphase (by rw [← hfab] at ht; exact ht) (by rw [← hnet] at hq; exact hq)
  rw [hcmd, hserve]
  refine ⟨_, rfl, ?_, ?_, ?_, rfl⟩
  · simp [State.swapRefuse, State.get_putB_ne, State.get_put_ne, State.get_put_same]
  · cases s.caddy.writing <;> simp [State.swapRefuse, State.get_putB_ne, State.get_put_same]
  · rw [State.swapRefuse, sameRegs_putB (by decide), sameRegs_put (by decide), sameRegs_put (by decide)]
    exact State.sameRegs_touched _

theorem exec_caddySwap_starts (req : Nat) (octal : Bool) (badA badB : Fin 4) (k : Fin 16) (s : State) :
    Writes s req CADDY_SWAP_CMD 0x5C4D0000 →
    s.caddy.phase = 3 → s.caddy.swap = none → s.caddy.writing = false → s.slotValid (1 - s.caddy.slot) = true →
    (s.flashFacts octal badA badB).slotReason (1 - s.caddy.slot) = 0 →
    s.imgSeq s.caddy.slot < s.imgSeq (1 - s.caddy.slot) →
    k.val ∈ s.pausing (s.changedSections s.caddy.slot (1 - s.caddy.slot)) → (s.body k).run ≠ none →
    s.caddy.swapPaused.contains k.val = false → s.fab.txns = [] → s.net.mbQueue = [] →
    ∃ t, exec (.caddySwap ⟨req, octal, badA, badB⟩) s = .next t ∧ t.get CADDY_SWAP_STATUS_STATE = 1 ∧
      t.get CADDY_STATUS_SWAP_BUSY = 1 ∧
      (∃ w, t.caddy.swap = some w ∧ w.slot = 1 - s.caddy.slot ∧ w.written = false ∧
        w.changed = s.changedSections s.caddy.slot (1 - s.caddy.slot)) := by
  intro hw hp hs hwr hv hr hq hk hrun hpaused ht hmq
  obtain ⟨hregs, hcaddy, hfab, hnet, hmill, hflash⟩ := s.flashFacts_frame octal badA badB
  have hseq (n : Nat) : (s.flashFacts octal badA badB).imgSeq n = s.imgSeq n := rfl
  rw [exec_caddySwap_eq, State.writeAt_swapCmd (State.Writes.flashFacts hw octal badA badB)]
  generalize s.flashFacts octal badA badB = u at hregs hcaddy hfab hnet hmill hflash hr hseq
  have hreg (a : Nat) : (u.touched CADDY_SWAP_CMD).reg a = s.reg a := by rw [State.reg_touched, State.reg_congr hregs]
  have hc : (u.touched CADDY_SWAP_CMD).caddy = s.caddy := by rw [State.touched_caddy, hcaddy]
  have hbody : (u.touched CADDY_SWAP_CMD).body k.val = s.body k.val :=
    State.body_congr _ _ (by rw [State.touched_mill, hmill])
  have hreason : (u.touched CADDY_SWAP_CMD).slotReason (1 - s.caddy.slot) = u.slotReason (1 - s.caddy.slot) := rfl
  have hseq' (n : Nat) : (u.touched CADDY_SWAP_CMD).imgSeq n = u.imgSeq n := rfl
  obtain ⟨hchanged, htogether⟩ := State.swapNew_congr hreg hc (by rw [State.touched_nv, hflash]) (1 - s.caddy.slot)
  have hcmd : (u.touched CADDY_SWAP_CMD).swapCmd = (u.touched CADDY_SWAP_CMD).swapStart (1 - s.caddy.slot) := by
    have hzero : (u.touched CADDY_SWAP_CMD).swapReason = 0 := by
      refine State.swapReason_newer (by rw [hc, hs]) (by rw [hc, hwr]) ?_ (by rw [hc, hreason, hr]) ?_
      · rw [hc, State.slotValid, State.on_touched, State.on_congr hregs]
        exact hv
      · rw [hc, hseq', hseq', hseq, hseq]
        exact hq
    rw [State.swapCmd_newer (by rw [hc, hp]) hzero, hc]
  obtain ⟨hswap, hstate, hbusy, hphase, hn, hf⟩ := State.swapStart_waits (s := u.touched CADDY_SWAP_CMD) (k := k.val)
    (n := 1 - s.caddy.slot) (by rw [htogether]; exact hk) (by rw [hbody]; exact hrun)
    (by rw [hc]; intro h; simp [h] at hpaused)
  have hslot : ((u.touched CADDY_SWAP_CMD).swapNew (1 - s.caddy.slot)).slot = 1 - s.caddy.slot ∧
      ((u.touched CADDY_SWAP_CMD).swapNew (1 - s.caddy.slot)).written = false := ⟨rfl, rfl⟩
  rw [hcmd]
  generalize (u.touched CADDY_SWAP_CMD).swapStart (1 - s.caddy.slot) = v at hswap hstate hbusy hphase hn hf
  rw [State.bareServe_settled (by rw [hphase, hc, hp]; decide) (by rw [hf, State.touched_fab, hfab, ht])
    (by rw [hn, State.touched_net, hnet, hmq])]
  exact ⟨v, rfl, hstate, hbusy, _, hswap, hslot.1, hslot.2, hchanged⟩

/-! ### The restart of the management firmware ends (R98, R144) -/

theorem exec_mgmtFwRestartDone_eq (ms : Nat) (s : State) : exec (.mgmtFwRestartDone ms) s = .next (s.fwRestarted ms) := rfl

namespace State

section Restart
variable {s : State}

/-- The Announce of a port that is on (R169): the port's own registers and the time unit. -/
theorem ptpAnnounce_frame (n : Nat) : SameRegs [TIME_PTP_STATUS n] s (s.ptpAnnounce n) ∧ (s.ptpAnnounce n).log = s.log ∧
    (s.ptpAnnounce n).caddy = s.caddy ∧ (s.ptpAnnounce n).net = s.net ∧ (s.ptpAnnounce n).fab = s.fab := by
  have hset (t : State) (x : PtpPort) (o : Output) (m : Nat) : let u := ((t.setPtp n x).put (TIME_PTP_STATUS_PORT_STATE n) m).send o;
      SameRegs [TIME_PTP_STATUS n] t u ∧ u.log = t.log ∧ u.caddy = t.caddy ∧ u.net = t.net ∧ u.fab = t.fab := by
    refine ⟨?_, rfl, rfl, rfl, rfl⟩
    rw [sameRegs_send, sameRegs_put (by simp)]
    exact (sameRegs_congr rfl).mpr sameRegs_refl
  unfold ptpAnnounce
  dsimp only
  split
  · exact ⟨sameRegs_refl, rfl, rfl, rfl, rfl⟩
  · exact hset ..

theorem each_fixed {α : Type} {f : State → α → State} {l : List α} (h : ∀ a ∈ l, f s a = s) : s.each l f = s := by
  induction l with
  | nil => rfl
  | cons a l ih =>
    have hhead : s.each (a :: l) f = (f s a).each l f := rfl
    rw [hhead, h a (by simp)]
    exact ih fun b hb => h b (by simp [hb])

theorem clientPoll_down {m : Nat} (h : s.on (NET_CLIENT_STATUS_CONNECTED m) = false) : s.clientPoll m = s :=
  if_pos (by simp [h])

theorem readsSettle_idle (ht : s.fab.txns = []) (hq : s.net.mbQueue = []) : s.readsSettle = s := by
  have hend : s.each (s.fab.txns.filter Txn.done) txnEnd = s := by rw [ht]; rfl
  simp only [readsSettle, hend, mbPump_idle ht hq, ite_self]

end Restart

end State

theorem exec_mgmtFwRestartDone_ends (ms : Nat) (s : State) :
    s.mpUp = true → s.caddy.fwRestart = true → s.caddy.swap = none → s.fab.txns = [] →
    s.net.mbQueue = [] → (∀ m, m < 16 → s.on (NET_CLIENT_STATUS_CONNECTED m) = false) → Room s portCaddy →
    ∃ t, exec (.mgmtFwRestartDone ms) s = .next t ∧ t.caddy.fwRestart = false ∧ t.get SYS_STATUS_MP_FW = 1 ∧
      SameRegs [SYS_STATUS, TIME_PTP_STATUS 0, TIME_PTP_STATUS 1] s t ∧ Logged portCaddy 0x0026 ms 0 0 s t := by
  intro hup hf hs ht hq hm hroom
  have hroom' : Room ((s.withCaddy { s.caddy with fwRestart := false }).putB SYS_STATUS_MP_FW true) portCaddy :=
    hroom.of_log rfl rfl
  have hregs : SameRegs [SYS_STATUS] s (((s.withCaddy { s.caddy with fwRestart := false }).putB SYS_STATUS_MP_FW true).wrote
      portCaddy (State.record 0x0026 ms 0 0 false)) := by
    rw [sameRegs_wrote, sameRegs_putB (by decide)]
    exact (sameRegs_congr rfl).mpr sameRegs_refl
  have hget : (((s.withCaddy { s.caddy with fwRestart := false }).putB SYS_STATUS_MP_FW true).wrote portCaddy
      (State.record 0x0026 ms 0 0 false)).get SYS_STATUS_MP_FW = 1 := by
    rw [State.get_wrote, State.get_putB_same _ _ _ (by decide)]
    rfl
  have hdone : s.fwRestarted ms = ((((((s.withCaddy { s.caddy with fwRestart := false }).putB SYS_STATUS_MP_FW true).wrote
      portCaddy (State.record 0x0026 ms 0 0 false)).ptpAnnounce 0).ptpAnnounce 1).each (List.range 16)
        State.clientPoll).readsSettle := by
    have hswap : (((s.withCaddy { s.caddy with fwRestart := false }).putB SYS_STATUS_MP_FW true).wrote portCaddy
        (State.record 0x0026 ms 0 0 false)).caddy.swap = none := hs
    have hno : ¬ (!s.mpUp || !s.caddy.fwRestart) = true := by simp [hup, hf]
    have hev : (({ s with caddy := { s.caddy with fwRestart := false } } : State).putB SYS_STATUS_MP_FW true).ev portCaddy
        0x0026 ms 0 0 false = ((s.withCaddy { s.caddy with fwRestart := false }).putB SYS_STATUS_MP_FW true).wrote portCaddy
          (State.record 0x0026 ms 0 0 false) := State.ev_of_room hroom' ..
    rw [State.fwRestarted, if_neg hno]
    dsimp only
    rw [hev]
    simp only [hswap]
    rfl
  have hidle : (((s.withCaddy { s.caddy with fwRestart := false }).putB SYS_STATUS_MP_FW true).wrote portCaddy
      (State.record 0x0026 ms 0 0 false)).fab.txns = [] ∧ (((s.withCaddy { s.caddy with fwRestart := false }).putB
        SYS_STATUS_MP_FW true).wrote portCaddy (State.record 0x0026 ms 0 0 false)).net.mbQueue = [] ∧
      (((s.withCaddy { s.caddy with fwRestart := false }).putB SYS_STATUS_MP_FW true).wrote portCaddy
        (State.record 0x0026 ms 0 0 false)).caddy.fwRestart = false := ⟨ht, hq, rfl⟩
  rw [exec_mgmtFwRestartDone_eq, hdone]
  have hlog' : (((s.withCaddy { s.caddy with fwRestart := false }).putB SYS_STATUS_MP_FW true).wrote portCaddy
      (State.record 0x0026 ms 0 0 false)).log = s.log.setFifo portCaddy (s.log.fifo portCaddy ++
        [State.record 0x0026 ms 0 0 false]) := rfl
  generalize ((s.withCaddy { s.caddy with fwRestart := false }).putB SYS_STATUS_MP_FW true).wrote portCaddy
    (State.record 0x0026 ms 0 0 false) = u at hregs hget hdone hidle hlog'
  obtain ⟨hutx, huq, hurestart⟩ := hidle
  obtain ⟨hr0, hl0, hc0, hn0, hf0⟩ := u.ptpAnnounce_frame 0
  obtain ⟨hr1, hl1, hc1, hn1, hf1⟩ := (u.ptpAnnounce 0).ptpAnnounce_frame 1
  generalize (u.ptpAnnounce 0).ptpAnnounce 1 = v at hr1 hl1 hc1 hn1 hf1
  have hreg (a : Nat) (ha : a ∉ [TIME_PTP_STATUS 0, TIME_PTP_STATUS 1]) : v.reg a = u.reg a := by
    rw [hr1 a (fun h => ha (by simp_all)), hr0 a (fun h => ha (by simp_all))]
  have hpoll : v.each (List.range 16) State.clientPoll = v := by
    refine State.each_fixed fun m h => State.clientPoll_down ?_
    have hlow : NET_CLIENT_STATUS m ∉ [TIME_PTP_STATUS 0, TIME_PTP_STATUS 1] ∧ NET_CLIENT_STATUS m ∉ [SYS_STATUS] := by
      simp only [NET_CLIENT_STATUS, TIME_PTP_STATUS, SYS_STATUS, List.mem_cons, List.not_mem_nil, or_false]
      omega
    rw [State.on, State.get, hreg _ hlow.1, hregs _ hlow.2]
    exact hm m (List.mem_range.mp h)
  rw [hpoll, State.readsSettle_idle (by rw [hf1, hf0, hutx]) (by rw [hn1, hn0, huq])]
  refine ⟨v, rfl, by rw [hc1, hc0, hurestart], ?_, ?_, ?_⟩
  · rw [State.get, hreg _ (by decide)]
    exact hget
  · intro a ha
    simp only [List.mem_cons, List.not_mem_nil, or_false, not_or] at ha
    rw [hreg a (by simp [ha.2.1, ha.2.2]), hregs a (by simp [ha.1])]
  · rw [Logged, hl1, hl0]
    exact hlog'

theorem exec_mgmtFwRestartDone_none (ms : Nat) (s : State) :
    s.caddy.fwRestart = false → exec (.mgmtFwRestartDone ms) s = .next s := by
  intro hf
  rw [exec_mgmtFwRestartDone_eq, State.fwRestarted, if_pos (by simp [hf])]

/-- Settles O20: a swap starts and waits for the bodies that step, or is refused; a body resumes, the restart ends. -/
theorem caddySwaps : Obligations.CaddySwaps :=
  ⟨exec_caddySwap_starts, exec_caddySwap_running, exec_caddySwap_refused, exec_bodySwapResume_resumes,
    exec_bodySwapResume_other, exec_mgmtFwRestartDone_ends, exec_mgmtFwRestartDone_none⟩

end Sys2Proof.Machine
end

section
/-! PROOFS. KMP (R122 to R134): a datagram that a session accepts, its reply, the session's end, and the statements about
sessions, guards and accesses. -/

namespace Sys2Proof.Machine

open Reg

namespace State

/-! ### Sessions and replies (R125, R131) -/

section Replies
variable {s : State} {n : Nat}

@[simp] theorem session_setSession_same (s : State) (n : Nat) (x : Session) : (s.setSession n x).session n = x :=
  tget_tset_same ..

/-- The network after a datagram of the module in a session. -/
def sentNet (s : State) (n : Nat) : Net := { s.net with
  sessions := tset (fun _ => {}) s.net.sessions n { s.session n with sendCtr := (s.session n).sendCtr + 1 } }

/-- A datagram of the module in a session, with the session's next counter and its tag (R125, R126). -/
def sentDg (s : State) (n op status : Nat) (body : List Byte) : Output :=
  .kmp (kmpBytes op n (s.session n).sendCtr status body ++
    kmpTag (s.session n).key (kmpBytes op n (s.session n).sendCtr status body))

theorem kmpSend_open (h : n < 8) (op status : Nat) (body : List Byte) :
    s.kmpSend n op status body = (s.withNet (s.sentNet n)).send (s.sentDg n op status body) := by
  rw [kmpSend, if_pos h]
  rfl

theorem sent_send (h : n < 8) (op status : Nat) (body : List Byte) : Sent n op status body s (s.kmpSend n op status body) := by
  rw [kmpSend_open h]
  rfl

theorem kmpSend_frame (h : n < 8) (op status : Nat) (body : List Byte) :
    { s.kmpSend n op status body with out := s.out, net := s.net } = s := by
  rw [kmpSend_open h]
  rfl

theorem kmpSend_xfers (h : n < 8) (op status : Nat) (body : List Byte) :
    (s.kmpSend n op status body).net.xfers = s.net.xfers := by
  rw [kmpSend_open h]
  rfl

theorem heard_frame (s : State) (m : Kmp) : { s.heard m with net := s.net } = s := rfl

/-- A session's counter and key are its own, whatever it has heard. -/
theorem sent_of_heard {m : Kmp} {op status : Nat} {body : List Byte} {t : State} (h : Sent m.sess op status body (s.heard m) t) :
    Sent m.sess op status body s t := by
  have hsession : ((s.heard m).session m.sess).sendCtr = (s.session m.sess).sendCtr ∧
      ((s.heard m).session m.sess).key = (s.session m.sess).key := by
    rw [State.heard, session_setSession_same]
    exact ⟨rfl, rfl⟩
  rw [Sent, hsession.1, hsession.2] at h
  exact h

end Replies

/-! ### The checks of a datagram (R125 to R131) -/

section Checks
variable {s : State} {src : Nat} {dg : List Byte} {m : Kmp} {mine operate : Kmp → Bool} {bareOk : Bool}
  {run : State → Nat → Kmp → State}

theorem serves_of_loaded (hl : s.isLoaded = true) (hr : s.caddy.fwRestart = false) : s.serves = true := by
  simp [serves, hl, hr]

theorem isBare_of_loaded (hl : s.isLoaded = true) : s.isBare = false := by
  simp only [isLoaded, Bool.and_eq_true, decide_eq_true_eq] at hl
  simp [isBare, hl.2]

theorem mpUp_of_loaded (hl : s.isLoaded = true) : s.mpUp = true := (Bool.and_eq_true_iff.mp hl).1

/-- A datagram of this command with a good tag and a fresh counter in an open session. -/
theorem kmpRun_heard (h : Accepts s src dg m) (hm : mine m = true) : s.kmpRun src dg mine operate bareOk run =
    if (operate m && !s.on (NET_SESSION_OPERATE m.sess)) = true then (s.heard m).kmpReply m.sess m.op m.ctr 0x03 []
    else run (s.heard m) m.sess m := by
  obtain ⟨hl, hr, hreach, hparse, hver, hreply, hsess, hopen, htag, hctr⟩ := h
  have hon : (s.heard m).on (NET_SESSION_OPERATE m.sess) = s.on (NET_SESSION_OPERATE m.sess) := on_congr rfl _
  have hseven : ¬ 8 ≤ m.sess := by omega
  simp only [kmpRun, serves_of_loaded hl hr, hreach, hparse, hm, hver, hreply, isBare_of_loaded hl, hopen, htag, hctr, hseven,
    Bool.not_true, Bool.or_self, Bool.false_eq_true, if_false, Bool.false_and, ne_eq, not_true, decide_false]
  rw [← hon]
  rfl

theorem kmpRun_accepted (h : Accepts s src dg m) (hm : mine m = true)
    (ho : operate m = true → s.on (NET_SESSION_OPERATE m.sess) = true) :
    s.kmpRun src dg mine operate bareOk run = run (s.heard m) m.sess m := by
  refine (kmpRun_heard h hm).trans (if_neg fun hc => ?_)
  obtain ⟨h1, h2⟩ := Bool.and_eq_true_iff.mp hc
  rw [ho h1] at h2
  exact absurd h2 (by decide)

/-- A datagram that asks for more than the session's role allows (R131). -/
theorem kmpRun_role (h : Accepts s src dg m) (hm : mine m = true) (ho : operate m = true)
    (hs : s.on (NET_SESSION_OPERATE m.sess) = false) :
    s.kmpRun src dg mine operate bareOk run = (s.heard m).kmpReply m.sess m.op m.ctr 0x03 [] :=
  (kmpRun_heard h hm).trans (if_pos (by rw [ho, hs]; rfl))

/-- A datagram of this command that fails its tag (R127). -/
theorem kmpRun_tagFail (hl : s.isLoaded = true) (hr : s.caddy.fwRestart = false) (hreach : s.reaches src = true)
    (hp : kmpParse dg = some m) (hm : mine m = true) (hv : m.ver = 1) (hy : m.reply = false)
    (ht : kmpTag (s.session m.sess).key m.signed ≠ m.tag) :
    s.kmpRun src dg mine operate bareOk run = s.kmpTagFail src := by
  simp [kmpRun, serves_of_loaded hl hr, hreach, hp, hm, hv, hy, isBare_of_loaded hl, ht]

/-- A datagram whose counter an open session has used (R126). -/
theorem kmpRun_replay (hl : s.isLoaded = true) (hr : s.caddy.fwRestart = false) (hreach : s.reaches src = true)
    (hp : kmpParse dg = some m) (hm : mine m = true) (hv : m.ver = 1) (hy : m.reply = false) (hs : m.sess < 8)
    (ho : s.on (NET_SESSION_OPEN m.sess) = true) (ht : kmpTag (s.session m.sess).key m.signed = m.tag)
    (hc : ctrFresh (s.session m.sess) m.ctr = false) :
    s.kmpRun src dg mine operate bareOk run = s.inc NET_KMP_STATS_REPLAY_DROP := by
  have hseven : ¬ 8 ≤ m.sess := by omega
  simp [kmpRun, serves_of_loaded hl hr, hreach, hp, hm, hv, hy, isBare_of_loaded hl, ht, ho, hc, hseven]

theorem kmpRun_unreached (hreach : s.reaches src = false) : s.kmpRun src dg mine operate bareOk run = s := by
  simp [kmpRun, hreach]

end Checks

end State
/-! ### Guards (R125 to R131) -/

theorem exec_kmpWrite_eq (src : Nat) (dg : List Byte) (s : State) :
    exec (.kmpWrite src dg) s = .next (s.kmpOp src dg 0x11 true false State.kmpWrite) := rfl

theorem exec_kmpRead_eq (src : Nat) (dg : List Byte) (s : State) :
    exec (.kmpRead src dg) s = .next (s.kmpOp src dg 0x10 false true State.kmpRead) := rfl

theorem exec_kmpBlockRead_eq (src : Nat) (dg : List Byte) (s : State) :
    exec (.kmpBlockRead src dg) s = .next (s.kmpOp src dg 0x12 false true State.kmpBlockRead) := rfl

theorem exec_kmpHello_eq (src : Nat) (dg : List Byte) (s : State) : exec (.kmpHello src dg) s = .next (s.hello src dg) := rfl

theorem exec_kmpTagFailSecond_eq (s : State) : exec .kmpTagFailSecond s = .next s.kmpSecond := rfl

theorem exec_kmpWrite_tagFail (src : Nat) (dg : List Byte) (m : Kmp) (s : State) :
    s.isLoaded = true → s.caddy.fwRestart = false → s.reaches src = true →
    kmpParse dg = some m → m.op = 0x11 → m.ver = 1 → m.reply = false → kmpTag (s.session m.sess).key m.signed ≠ m.tag →
    ∃ t, exec (.kmpWrite src dg) s = .next t ∧
      t.get NET_KMP_STATS_TAG_FAIL = (s.get NET_KMP_STATS_TAG_FAIL + 1) % 65536 ∧ t.net.tagFails = s.net.tagFails + 1 ∧
      t.net.tagFrom = src ∧ SameRegs [NET_KMP_STATS] s t ∧ { t with regs := s.regs, net := s.net } = s := by
  intro hl hr hreach hp ho hv hy ht
  rw [exec_kmpWrite_eq, State.kmpOp, State.kmpRun_tagFail hl hr hreach hp (by simp [ho]) hv hy ht]
  refine ⟨_, rfl, ?_, rfl, rfl, ?_, rfl⟩
  · exact (State.get_congr rfl _).trans (s.get_inc_same _ (by decide))
  · exact ((SameRegs.refl _ s).inc (f := NET_KMP_STATS_TAG_FAIL) (by simp)).of_regs rfl

theorem exec_kmpWrite_replay (src : Nat) (dg : List Byte) (m : Kmp) (s : State) :
    s.isLoaded = true → s.caddy.fwRestart = false → s.reaches src = true →
    kmpParse dg = some m → m.op = 0x11 → m.ver = 1 → m.reply = false → m.sess < 8 →
    s.on (NET_SESSION_OPEN m.sess) = true → kmpTag (s.session m.sess).key m.signed = m.tag →
    ctrFresh (s.session m.sess) m.ctr = false →
    ∃ t, exec (.kmpWrite src dg) s = .next t ∧
      t.get NET_KMP_STATS_REPLAY_DROP = (s.get NET_KMP_STATS_REPLAY_DROP + 1) % 65536 ∧ OnlyRegs [NET_KMP_STATS] s t := by
  intro hl hr hreach hp ho hv hy hs hopen ht hc
  rw [exec_kmpWrite_eq, State.kmpOp, State.kmpRun_replay hl hr hreach hp (by simp [ho]) hv hy hs hopen ht hc]
  exact ⟨_, rfl, s.get_inc_same _ (by decide), (SameRegs.refl _ s).inc (by simp), rfl⟩

theorem exec_kmpWrite_role (src : Nat) (dg : List Byte) (m : Kmp) (s : State) :
    Accepts s src dg m → m.op = 0x11 →
    s.on (NET_SESSION_OPERATE m.sess) = false →
    ∃ t, exec (.kmpWrite src dg) s = .next t ∧ Answered m 3 [] s t ∧
      { t with out := s.out, net := s.net } = s := by
  intro h ho hs
  obtain ⟨-, -, -, -, -, -, hsess, -⟩ := id h
  rw [exec_kmpWrite_eq, State.kmpOp, State.kmpRun_role h (by simp [ho]) rfl hs, State.kmpReply]
  refine ⟨_, rfl, State.sent_of_heard (State.sent_send hsess _ _ _), ?_⟩
  exact (congrArg (fun t : State => { t with net := s.net }) (State.kmpSend_frame (s := s.heard m) hsess m.op 3 _) :)

theorem exec_kmp_unreached (src : Nat) (dg : List Byte) (s : State) :
    s.reaches src = false → exec (.kmpWrite src dg) s = .next s ∧
    exec (.kmpRead src dg) s = .next s ∧ exec (.kmpBlockRead src dg) s = .next s ∧ exec (.kmpHello src dg) s = .next s := by
  intro h
  have hello : s.hello src dg = s := by simp [State.hello, h]
  rw [exec_kmpWrite_eq, exec_kmpRead_eq, exec_kmpBlockRead_eq, exec_kmpHello_eq, hello]
  simp only [State.kmpOp, State.kmpRun_unreached h]
  exact ⟨trivial, trivial, trivial, trivial⟩

theorem exec_kmpTagFailSecond_failed (s : State) :
    s.net.tagFails ≠ 0 → Room s portNet →
    ∃ t, exec .kmpTagFailSecond s = .next t ∧ t.net.tagFails = 0 ∧ t.regs = s.regs ∧
      Logged portNet 0xC010 s.net.tagFails s.net.tagFrom 0 s t := by
  intro hf hroom
  have hsecond : s.kmpSecond = (s.wrote portNet (State.record 0xC010 s.net.tagFails s.net.tagFrom 0 false)).withNet
      { s.net with tagFails := 0, tagFrom := 0 } := by
    rw [State.kmpSecond, if_neg hf, State.nev]
    dsimp only
    rw [State.ev_of_room hroom]
    rfl
  rw [exec_kmpTagFailSecond_eq, hsecond]
  exact ⟨_, rfl, rfl, rfl, rfl⟩

/-- Settles O22: what a datagram that is dropped or refused leaves, and the record of a second with tag failures. -/
theorem kmpGuards : Obligations.KmpGuards :=
  ⟨exec_kmpWrite_tagFail, exec_kmpWrite_replay, exec_kmpWrite_role, exec_kmp_unreached, exec_kmpTagFailSecond_failed,
    fun s h => by rw [exec_kmpTagFailSecond_eq, State.kmpSecond, if_pos h]⟩

/-! ### The end and the start of a session (R124, R128) -/

namespace State

section Sessions
variable {s : State} {n : Nat}

/-- The state with another fabric. -/
def withFab (s : State) (x : Fabric) : State := { s with fab := x }

@[simp] theorem withFab_regs (s : State) (x : Fabric) : (s.withFab x).regs = s.regs := rfl

/-- A session and what it asked for are gone (R110, R128). -/
def sessionGone (s : State) (n : Nat) : State := (s.withNet { s.net with sessions := terase s.net.sessions n }).withFab
  { s.fab with
    txns := s.fab.txns.filter (fun t => decide (t.requester ≠ 0x40 + n))
    caps := tkeep (fun k => decide (k / 2 ^ 24 ≠ 0x40 + n)) s.fab.caps }

theorem closeSession_eq (ho : s.on (NET_SESSION_OPEN n) = true) (hx : s.net.xfers = []) (why : Nat) :
    s.closeSession n why = (((s.sessionGone n).setReg (NET_SESSION n) 0).put NET_STATUS_KMP_SESSIONS
      ((s.sessionGone n).setReg (NET_SESSION n) 0).openSessions.length).nev 0x8006 n why := by
  have hopen : ¬ (!s.on (NET_SESSION_OPEN n)) = true := by simp [ho]
  have hnone : s.each (s.net.xfers.filter (fun x => x.session = n)) xferDrop = s := by rw [hx]; rfl
  rw [closeSession, if_neg hopen, hnone]
  rfl

/-- A session that closes with no transfer of its own: its registers, its record, and nothing sent. -/
theorem closeSession_closes (ho : s.on (NET_SESSION_OPEN n) = true) (hx : s.net.xfers = []) (hroom : Room s portNet)
    (why : Nat) : (s.closeSession n why).reg (NET_SESSION n) = 0 ∧ (s.closeSession n why).out = s.out ∧
      SameRegs [NET_SESSION n, NET_STATUS] s (s.closeSession n why) ∧ Logged portNet 0x8006 n why 0 s (s.closeSession n why) := by
  have hregs : (s.sessionGone n).regs = s.regs := rfl
  have hlog : (s.sessionGone n).log = s.log := rfl
  have hroom' : Room (s.sessionGone n) portNet := hroom.of_log rfl rfl
  have hout : (s.sessionGone n).out = s.out := rfl
  have hne : NET_SESSION n ≠ NET_STATUS := by simp only [NET_SESSION, NET_STATUS]; omega
  rw [closeSession_eq ho hx]
  generalize s.sessionGone n = t at hregs hlog hroom' hout
  generalize (t.setReg (NET_SESSION n) 0).openSessions.length = k
  rw [nev, ev_of_room ((hroom'.setReg (NET_SESSION n) 0).put NET_STATUS_KMP_SESSIONS k)]
  refine ⟨?_, hout, ?_, ?_⟩
  · rw [reg_wrote, reg_put_ne _ _ _ hne, reg_setReg_same]
  · rw [sameRegs_wrote, sameRegs_put (by simp), sameRegs_setReg (by simp)]
    exact (sameRegs_congr hregs).mpr sameRegs_refl
  · exact (logged_wrote ((t.setReg (NET_SESSION n) 0).put NET_STATUS_KMP_SESSIONS k) portNet 0x8006 n why 0).from_log hlog

end Sessions

end State

theorem exec_kmpBye_eq (src : Nat) (dg : List Byte) (s : State) :
    exec (.kmpBye src dg) s = .next (s.kmpOp src dg 0x03 false false State.bye) := rfl

theorem exec_kmpPendingTimeout_eq (n : Fin 8) (s : State) : exec (.kmpPendingTimeout n) s = .next (s.pendingEnd n.val) := rfl

theorem exec_kmpIdleTimeout_eq (n : Fin 8) (s : State) : exec (.kmpIdleTimeout n) s = .next (s.idleEnd n.val) := rfl

namespace State

section Hello
variable {s : State} {n src : Nat} {dg psk : List Byte} {m : Kmp} {role : Bool}

/-- A HELLO with a good tag under one of the keys (R124). -/
theorem hello_known (hl : s.isLoaded = true) (hr : s.caddy.fwRestart = false) (hreach : s.reaches src = true)
    (hp : kmpParse dg = some m) (ho : m.op = 1) (hv : m.ver = 1) (hy : m.reply = false) (hs : m.sess = 0xFF)
    (hk : s.net.keys[ofLe (slice 0 1 m.body)]? = some (psk, role)) (ht : kmpTag psk m.signed = m.tag)
    (hb : m.body.length = 20) : s.hello src dg = s.helloRun src (ofLe (slice 0 1 m.body)) psk role m := by
  have hbody : m.body ≠ [] := fun h => by simp [h] at hb
  simp [hello, serves_of_loaded hl hr, hreach, hp, ho, hv, hy, hs, isBare_of_loaded hl, hk, ht, hbody]

/-- The network that has seen a HELLO's nonce. -/
def nonceNet (s : State) (m : Kmp) : Net := { s.net with nonces := (slice 4 16 m.body :: s.net.nonces).take 64 }

/-- A WELCOME is sent; its COUNTER is a free value. -/
theorem kmpWelcome_frame (s : State) (psk : List Byte) (status : Nat) (body : List Byte) :
    { s.kmpWelcome psk status body with out := s.out, freeIdx := s.freeIdx } = s := rfl

/-- The session key of a HELLO (R124). -/
def helloKey (s : State) (psk : List Byte) (m : Kmp) (n : Nat) : List Byte :=
  hmac256 psk ([0x4B, 0x4D, 0x50, 0x31] ++ slice 4 16 m.body ++ leBytes 16 (s.free 128).toNat ++ [BitVec.ofNat 8 n])

/-- The body of the WELCOME that opens a session. -/
def helloBody (s : State) (m : Kmp) (role : Bool) (n : Nat) : List Byte :=
  leBytes 8 m.ctr ++ [BitVec.ofNat 8 n, if role then 1 else 0, 0, 0] ++ leBytes 16 (s.free 128).toNat

/-- A HELLO with a new nonce, by the session that is free for it. -/
def helloAt (s : State) (src key : Nat) (psk : List Byte) (role : Bool) (m : Kmp) : Option Nat → State
  | none => s.kmpWelcome psk 0x08 (leBytes 8 m.ctr)
  | some n =>
    if 2 ≤ s.pendingSessions then s.kmpWelcome psk 0x0A (leBytes 8 m.ctr)
    else (s.took.kmpWelcome psk 0 (s.helloBody m role n)).openSession n key role (s.helloKey psk m n) src

theorem helloRun_new (hb : m.body.length = 20) (hn : s.net.nonces.contains (slice 4 16 m.body) = false) (key : Nat) :
    s.helloRun src key psk role m = (s.withNet (s.nonceNet m)).helloAt src key psk role m s.freeSession := by
  rw [helloRun, if_neg (not_not.mpr hb), if_neg (by rw [hn]; decide)]
  rfl

/-- The register of a session that opens. -/
def sessionWord (role : Bool) (key : Nat) : Word := BitVec.ofNat 32 (2 ^ 31 + (if role then 2 ^ 30 else 0) + key % 4 * 2 ^ 28)

theorem sessionWord_bits (role : Bool) (key : Nat) :
    (bits (sessionWord role key) 31 31 != 0) = true ∧ (bits (sessionWord role key) 30 30 != 0) = role := by
  have hword : ∀ k, k < 4 → ∀ r : Bool, ∀ w, w = BitVec.ofNat 32 (2 ^ 31 + (if r then 2 ^ 30 else 0) + k * 2 ^ 28) →
      (bits w 31 31 != 0) = true ∧ (bits w 30 30 != 0) = r := by
    intro k hk r w hw
    subst hw
    revert k r
    decide
  exact hword (key % 4) (Nat.mod_lt _ (by decide)) role _ rfl

/-- A session that waits for its first datagram. -/
def newSession (ks : List Byte) (src now : Nat) : Session := { pending := true, key := ks, client := src, last := now }

/-- A session that opens: its registers, its entry and its record. -/
theorem openSession_opens {t : State} (hregs : t.regs = s.regs) (hlog : t.log = s.log) (hpwr : t.pwr = s.pwr)
    (htim : t.tim = s.tim) (hroom : Room s portNet) (key : Nat) (ks : List Byte) :
    (t.openSession n key role ks src).on (NET_SESSION_OPEN n) = true ∧
      (t.openSession n key role ks src).on (NET_SESSION_OPERATE n) = role ∧
      (t.openSession n key role ks src).session n = { pending := true, client := src, last := s.tim.mono, key := ks } ∧
      (t.openSession n key role ks src).net.nonces = t.net.nonces ∧
      SameRegs [NET_SESSION n, NET_STATUS] s (t.openSession n key role ks src) ∧
      Logged portNet 0x8005 n key src s (t.openSession n key role ks src) := by
  have hne : NET_SESSION n ≠ NET_STATUS := by simp only [NET_SESSION, NET_STATUS]; omega
  have hshape : ∃ k, t.openSession n key role ks src = (((t.setSession n (newSession ks src
      s.tim.mono)).setReg (NET_SESSION n) (sessionWord role key)).put
        NET_STATUS_KMP_SESSIONS k).wrote portNet (record 0x8005 n key src false) := by
    have hroom' (x : Session) (w : Word) (k : Nat) :
        Room (((t.setSession n x).setReg (NET_SESSION n) w).put NET_STATUS_KMP_SESSIONS k) portNet := hroom.of_log hlog hpwr
    have hword : BitVec.ofNat 32 (2 ^ 31 + (if role then 2 ^ 30 else 0) + key % 4 * 2 ^ 28) = sessionWord role key := rfl
    rw [openSession, htim, hword]
    exact ⟨_, ev_of_room (hroom' _ _ _) ..⟩
  obtain ⟨k, hk⟩ := hshape
  rw [hk]
  have hreg (w : Word) (x : Session) : ((((t.setSession n x).setReg (NET_SESSION n) w).put NET_STATUS_KMP_SESSIONS k).wrote
      portNet (record 0x8005 n key src false)).reg (NET_SESSION n) = w := by
    rw [reg_wrote, reg_put_ne _ _ _ hne, reg_setReg_same]
  have hnet (w : Word) (x : Session) : ((((t.setSession n x).setReg (NET_SESSION n) w).put NET_STATUS_KMP_SESSIONS k).wrote
      portNet (record 0x8005 n key src false)).net = (t.setSession n x).net := rfl
  have hentry (w : Word) (x : Session) : ((((t.setSession n x).setReg (NET_SESSION n) w).put NET_STATUS_KMP_SESSIONS k).wrote
      portNet (record 0x8005 n key src false)).session n = x := session_setSession_same ..
  have hput (w : Word) (x : Session) :
      (((t.setSession n x).setReg (NET_SESSION n) w).put NET_STATUS_KMP_SESSIONS k).log = t.log := rfl
  refine ⟨?_, ?_, hentry _ _, (congrArg Net.nonces (hnet _ _)).trans rfl, ?_, ?_⟩
  · rw [on, get, hreg]
    exact (sessionWord_bits role key).1
  · rw [on, get, hreg]
    exact (sessionWord_bits role key).2
  · rw [sameRegs_wrote, sameRegs_put (by simp), sameRegs_setReg (by simp)]
    exact (sameRegs_congr hregs).mpr sameRegs_refl
  · exact (logged_wrote _ portNet 0x8005 n key src).from_log ((hput _ _).trans hlog)

end Hello

end State

theorem exec_kmpHello_opens (src n : Nat) (dg : List Byte) (m : Kmp) (psk : List Byte) (role : Bool) (s : State) :
    s.isLoaded = true →
    s.caddy.fwRestart = false → s.reaches src = true → kmpParse dg = some m → m.op = 1 → m.ver = 1 → m.reply = false → m.sess = 0xFF →
    s.net.keys[ofLe (slice 0 1 m.body)]? = some (psk, role) → kmpTag psk m.signed = m.tag → m.body.length = 20 →
    s.net.nonces.contains (slice 4 16 m.body) = false → s.freeSession = some n → s.pendingSessions < 2 → Room s portNet →
    ∃ t, exec (.kmpHello src dg) s = .next t ∧ t.on (NET_SESSION_OPEN n) = true ∧
      t.on (NET_SESSION_OPERATE n) = role ∧
      t.session n = {
        pending := true, client := src, last := s.tim.mono
        key := hmac256 psk ([0x4B, 0x4D, 0x50, 0x31] ++ slice 4 16 m.body ++ leBytes 16 (s.free 128).toNat ++
          [BitVec.ofNat 8 n]) } ∧
      t.net.nonces = (slice 4 16 m.body :: s.net.nonces).take 64 ∧ SameRegs [NET_SESSION n, NET_STATUS] s t ∧
      Logged portNet 0x8005 n (ofLe (slice 0 1 m.body)) src s t := by
  intro hl hr hreach hp ho hv hy hs hk ht hb hn hf hpend hroom
  have hpend' : ¬ 2 ≤ (s.withNet (s.nonceNet m)).pendingSessions := not_le.mpr hpend
  rw [exec_kmpHello_eq, State.hello_known hl hr hreach hp ho hv hy hs hk ht hb, State.helloRun_new hb hn, hf, State.helloAt,
    if_neg hpend']
  have hframe := State.kmpWelcome_frame (s.withNet (s.nonceNet m)).took psk 0
    ((s.withNet (s.nonceNet m)).helloBody m role n)
  have hnonces : ((s.withNet (s.nonceNet m)).took.kmpWelcome psk 0 ((s.withNet (s.nonceNet m)).helloBody m role n)).net.nonces =
    (slice 4 16 m.body :: s.net.nonces).take 64 := rfl
  generalize (s.withNet (s.nonceNet m)).took.kmpWelcome psk 0 ((s.withNet (s.nonceNet m)).helloBody m role n) = t
    at hframe hnonces
  obtain ⟨hopen, hrole, hsession, hnonce, hregs, hlog⟩ := State.openSession_opens (s := s) (t := t) (n := n) (src := src)
    (role := role) (congrArg State.regs hframe :) (congrArg State.log hframe :) (congrArg State.pwr hframe :)
    (congrArg State.tim hframe :) hroom (ofLe (slice 0 1 m.body)) ((s.withNet (s.nonceNet m)).helloKey psk m n)
  exact ⟨_, rfl, hopen, hrole, hsession, hnonce.trans hnonces, hregs, hlog⟩

theorem exec_kmpHello_full (src : Nat) (dg : List Byte) (m : Kmp) (psk : List Byte) (role : Bool) (s : State) :
    s.isLoaded = true →
    s.caddy.fwRestart = false → s.reaches src = true → kmpParse dg = some m → m.op = 1 → m.ver = 1 → m.reply = false → m.sess = 0xFF →
    s.net.keys[ofLe (slice 0 1 m.body)]? = some (psk, role) → kmpTag psk m.signed = m.tag → m.body.length = 20 →
    s.net.nonces.contains (slice 4 16 m.body) = false → s.freeSession = none →
    ∃ t, exec (.kmpHello src dg) s = .next t ∧ t.regs = s.regs ∧ t.net.sessions = s.net.sessions ∧ t.log = s.log := by
  intro hl hr hreach hp ho hv hy hs hk ht hb hn hf
  rw [exec_kmpHello_eq, State.hello_known hl hr hreach hp ho hv hy hs hk ht hb, State.helloRun_new hb hn, hf]
  exact ⟨_, rfl, rfl, rfl, rfl⟩

theorem exec_kmpBye_closes (src : Nat) (dg : List Byte) (m : Kmp) (s : State) :
    Accepts s src dg m → m.op = 3 → m.body = [] → s.net.xfers = [] →
    Room s portNet →
    ∃ t, exec (.kmpBye src dg) s = .next t ∧ t.reg (NET_SESSION m.sess) = 0 ∧ Answered m 0 [] s t ∧
      SameRegs [NET_SESSION m.sess, NET_STATUS] s t ∧ Logged portNet 0x8006 m.sess 0 0 s t := by
  intro h ho hb hx hroom
  obtain ⟨-, -, -, -, -, -, hsess, hopen, -⟩ := id h
  have hbye : s.kmpOp src dg 0x03 false false State.bye =
      ((s.heard m).kmpReply m.sess m.op m.ctr 0 []).closeSession m.sess 0 := by
    rw [State.kmpOp, State.kmpRun_accepted h (by simp [ho]) (fun h => absurd h (by decide)), State.bye, if_neg (by simp [hb])]
    rfl
  have hsent : Answered m 0 [] s ((s.heard m).kmpReply m.sess m.op m.ctr 0 []) :=
    State.sent_of_heard (State.sent_send hsess _ _ _)
  have hxfers : ((s.heard m).kmpReply m.sess m.op m.ctr 0 []).net.xfers = [] :=
    (State.kmpSend_xfers (s := s.heard m) hsess ..).trans hx
  have hframe : { (s.heard m).kmpReply m.sess m.op m.ctr 0 [] with out := s.out, net := s.net } = s :=
    (congrArg (fun t : State => { t with net := s.net }) (State.kmpSend_frame (s := s.heard m) hsess m.op 0 _) :)
  rw [exec_kmpBye_eq, hbye]
  generalize (s.heard m).kmpReply m.sess m.op m.ctr 0 [] = u at hsent hxfers hframe
  have hregs : u.regs = s.regs := (congrArg State.regs hframe :)
  have hlog : u.log = s.log := (congrArg State.log hframe :)
  have hpwr : u.pwr = s.pwr := (congrArg State.pwr hframe :)
  obtain ⟨hreg, hout, hsame, hrec⟩ := State.closeSession_closes (n := m.sess) (by rw [State.on_congr hregs]; exact hopen)
    hxfers (hroom.of_log hlog hpwr) 0
  refine ⟨_, rfl, hreg, ?_, ?_, hrec.from_log hlog⟩
  · rw [Answered, Sent] at hsent ⊢
    rw [hout, hsent]
  · exact fun a ha => (hsame a ha).trans (State.reg_congr hregs a)

theorem exec_kmpPendingTimeout_closes (n : Fin 8) (s : State) :
    s.on (NET_SESSION_OPEN n) = true → (s.session n).pending = true → s.net.xfers = [] →
    Room s portNet →
    ∃ t, exec (.kmpPendingTimeout n) s = .next t ∧ t.reg (NET_SESSION n) = 0 ∧
      SameRegs [NET_SESSION n, NET_STATUS] s t ∧ Logged portNet 0x8006 n 1 0 s t := by
  intro hopen hp hx hroom
  obtain ⟨hreg, -, hsame, hrec⟩ := State.closeSession_closes hopen hx hroom 1
  rw [exec_kmpPendingTimeout_eq, State.pendingEnd, if_pos hp]
  exact ⟨_, rfl, hreg, hsame, hrec⟩

theorem exec_kmpIdleTimeout_closes (n : Fin 8) (s : State) :
    s.on (NET_SESSION_OPEN n) = true → (s.session n).pending = false → s.net.xfers = [] →
    Room s portNet →
    ∃ t, exec (.kmpIdleTimeout n) s = .next t ∧ t.reg (NET_SESSION n) = 0 ∧
      SameRegs [NET_SESSION n, NET_STATUS] s t ∧ Logged portNet 0x8006 n 1 0 s t := by
  intro hopen hp hx hroom
  obtain ⟨hreg, -, hsame, hrec⟩ := State.closeSession_closes hopen hx hroom 1
  rw [exec_kmpIdleTimeout_eq, State.idleEnd, if_neg (by simp [hp])]
  exact ⟨_, rfl, hreg, hsame, hrec⟩

/-- Settles O21: a HELLO opens the lowest free session or finds none; BYE and the two timers close one. -/
theorem kmpSessions : Obligations.KmpSessions :=
  ⟨exec_kmpHello_opens, exec_kmpHello_full, exec_kmpBye_closes, exec_kmpPendingTimeout_closes,
    fun n s h => by rw [exec_kmpPendingTimeout_eq, State.pendingEnd, if_neg (by simp [h])], exec_kmpIdleTimeout_closes⟩

end Sys2Proof.Machine
end

section
/-! PROOFS. KMP accesses (R129, R130, R149, R164): reads, writes, the heartbeat and the time of day in a session. -/

namespace Sys2Proof.Machine

open Reg

/-! ### Little-endian fields -/

theorem length_leBytes (k n : Nat) : (leBytes k n).length = k := by
  induction k generalizing n with
  | zero => rfl
  | succ k ih => rw [leBytes, List.length_cons, ih]

theorem ofLe_leBytes (k : Nat) {n : Nat} (h : n < 256 ^ k) : ofLe (leBytes k n) = n := by
  induction k generalizing n with
  | zero =>
    have hn : n = 0 := by simpa using h
    rw [hn]
    rfl
  | succ k ih =>
    have hdiv : n / 256 < 256 ^ k := by
      rw [pow_succ] at h
      omega
    rw [leBytes, ofLe, ih hdiv, BitVec.toNat_ofNat]
    omega

theorem slice_append_left {l m : List Byte} {k : Nat} (h : l.length = k) : slice 0 k (l ++ m) = l := by
  simp [slice, ← h]

theorem slice_append_right {l m : List Byte} {i k : Nat} (hl : l.length = i) (hm : m.length = k) :
    slice i k (l ++ m) = m := by
  simp [slice, ← hl, ← hm]

theorem chunks_one {l : List Byte} {k : Nat} (h : l.length = k) (hk : 0 < k) : chunks k l = [l] := by
  have hone : l.length / k = 1 := by rw [h, Nat.div_self hk]
  rw [chunks, hone]
  simp [slice, ← h]

namespace State

section Reads
variable {s : State} {n a : Nat} {m : Kmp}

theorem loading_of_loaded (h : s.isLoaded = true) : s.loading = false := by
  have hp : s.caddy.phase = 3 := of_decide_eq_true (Bool.and_eq_true_iff.mp h).2
  simp [loading, hp]

theorem issueRead_now {req txn idx : Nat} (hl : s.loading = false) (ha : onLeat a = false) :
    s.issueRead req a txn idx = (s.readAt req a).2.txnGot txn idx (s.readAt req a).1 := by
  simp [issueRead, hl, ha]

/-- The read that a session's request starts. -/
def kmpTxn (s : State) (n : Nat) (m : Kmp) : Txn :=
  { id := s.fab.nextTxn, requester := 0x40 + n, kind := .kmp n m.op m.ctr, need := 1 }

/-- One management register read in a session: its value in the reply, at once (R129). -/
theorem kmpReads_one (hload : s.isLoaded = true) (ht : s.fab.txns = []) (hq : s.net.mbQueue = []) (hn : n < 8)
    (hl : onLeat a = false) (hm : mapped a = true) (hg : latchMembers a = []) (hc : s.captured (0x40 + n) a = none) :
    s.kmpReads n m [a] = (s.withReads (s.fab.nextTxn + 1) [] s.net.hspi).kmpReply n m.op m.ctr 0
      (leBytes 4 (s.look (0x40 + n) a).toNat) := by
  have hup := mpUp_of_loaded hload
  have hreq : kmpReq n = 0x40 + n := if_neg (by omega)
  have hr : s.inReset (planeOf a) = false := by
    have hp : planeOf a = .mgmt := by simpa [onLeat] using hl
    rw [hp]
    exact inReset_mgmt_of_mpUp hup
  have hread (k : Nat) (l : List Txn) (h : Option HspiRead) :
      (s.withReads k l h).readAt (0x40 + n) a = (s.look (0x40 + n) a, s.withReads k l h) :=
    (readAt_plain (s := s.withReads k l h) hup hr hm hg hc).trans (by rw [look_withReads])
  have hstart : s.kmpReads n m [a] = ((s.withReads (s.fab.nextTxn + 1) [s.kmpTxn n m] s.net.hspi).issueRead (0x40 + n) a s.fab.nextTxn 0).readsSettle := by
    rw [kmpReads, txnStart, hreq, ht]
    rfl
  have hend (t : Txn) (hk : t.kind = .kmp n m.op m.ctr) (hd : t.done = true) (w : Word) (hv : t.values = [w]) :
      (s.withReads (s.fab.nextTxn + 1) [t] s.net.hspi).readsSettle =
        (s.withReads (s.fab.nextTxn + 1) [] s.net.hspi).kmpReply n m.op m.ctr 0 (leBytes 4 w.toNat) := by
    have hone : (s.withReads (s.fab.nextTxn + 1) [t] s.net.hspi).each ([t].filter Txn.done) txnEnd =
        (s.withReads (s.fab.nextTxn + 1) [] s.net.hspi).kmpReply n m.op m.ctr 0 (leBytes 4 w.toNat) := by
      have hdrop : (s.withReads (s.fab.nextTxn + 1) [t] s.net.hspi).txnDrop t =
          s.withReads (s.fab.nextTxn + 1) [] s.net.hspi := by simp [txnDrop, withReads]
      simp [each, hd, txnEnd, hk, hdrop, hv]
    rw [readsSettle, withReads_txns, hone]
    have hidle (t : State) (h1 : t.fab.txns = []) (h2 : t.net.mbQueue = []) (k : Nat) :
        (if t.serves then t.mbPump k else t) = t := by rw [mbPump_idle h1 h2, ite_self]
    refine hidle _ ?_ ?_ _
    · rw [kmpReply, kmpSend_open hn]
      rfl
    · rw [kmpReply, kmpSend_open hn]
      exact hq
  have hload' (l : List Txn) : (s.withReads (s.fab.nextTxn + 1) l s.net.hspi).loading = false := loading_of_loaded hload
  rw [hstart, issueRead_now (hload' _) hl, hread]
  dsimp only
  rw [show s.fab.nextTxn = (s.kmpTxn n m).id from rfl, txnGot_withReads]
  exact hend _ rfl rfl _ rfl

end Reads

/-- The network as a heartbeat restarts the watchdog's timer. -/
def beatNet (s : State) : Net := { s.net with beat := s.tim.mono }

/-- A heartbeat of an enabled source restarts the timer of a watchdog that has not tripped (R150). -/
theorem heartbeat_beats {s : State} {req b : Nat} (hb : beatSource req = some b)
    (hc : (s.reg NET_WDOG_CFG).getLsbD (8 + b) = true) (ht : s.on NET_WDOG_STATUS_TRIPPED = false) :
    s.heartbeat req = s.withNet s.beatNet := by
  rw [heartbeat, hb]
  dsimp only
  rw [if_neg (by rw [hc]; decide), if_pos (by rw [ht]; rfl)]
  rfl

section Heard
variable {m : Kmp}

/-- The reply to a request of a session, from the state that heard it. -/
theorem answered_reply (s u : State) (hn : m.sess < 8) (ho : u.out = s.out)
    (hs : u.session m.sess = (s.heard m).session m.sess) (status : Nat) (body : List Byte) :
    Answered m status body s (u.kmpReply m.sess m.op m.ctr status body) := by
  have hsent := sent_send (s := u) hn m.op status (leBytes 8 m.ctr ++ body)
  rw [Sent, hs, ho] at hsent
  have hheard : ((s.heard m).session m.sess).sendCtr = (s.session m.sess).sendCtr ∧
      ((s.heard m).session m.sess).key = (s.session m.sess).key := by
    rw [heard, session_setSession_same]
    exact ⟨rfl, rfl⟩
  rw [hheard.1, hheard.2] at hsent
  exact hsent

/-- A set of the time of day in the time unit. -/
theorem timeSet_frame (t : State) (target now : Nat) :
    (t.timeSet target now).net = t.net ∧ (t.timeSet target now).out = t.out := ⟨rfl, rfl⟩

theorem timeSet_tim (t : State) (target now : Nat) : (t.timeSet target now).tim.hostSet = true ∧
    (t.timeSet target now).tim.step.getD 0 * 1000000 + (t.timeSet target now).tim.slew = (target : Int) - now ∧
    (t.timeSet target now).tim.slew.natAbs ≤ 500000 := ⟨rfl, stepDecide_offset .., stepDecide_slew_le ..⟩

end Heard

end State

theorem exec_kmpRead_reads (src a : Nat) (dg : List Byte) (m : Kmp) (s : State) :
    Accepts s src dg m → m.op = 0x10 → m.body = leBytes 4 a →
    a < 2 ^ 32 → onLeat a = false → mapped a = true → latchMembers a = [] → s.captured (0x40 + m.sess) a = none →
    s.fab.txns = [] → s.net.mbQueue = [] →
    ∃ t, exec (.kmpRead src dg) s = .next t ∧
      Answered m 0 (leBytes 4 ((s.heard m).look (0x40 + m.sess) a).toNat) s t ∧ t.regs = s.regs ∧ t.fab.txns = [] ∧
      { t with out := s.out, net := s.net, fab := s.fab } = s := by
  intro h ho hb ha hl hm hg hc ht hq
  obtain ⟨hload, -, -, -, -, -, hsess, -⟩ := id h
  have hread : s.kmpOp src dg 0x10 false true State.kmpRead = (s.heard m).kmpReads m.sess m [a] := by
    rw [State.kmpOp, State.kmpRun_accepted h (by simp [ho]) (fun h => absurd h (by decide)), State.kmpRead, hb]
    rw [length_leBytes, if_neg (by decide), leNats, chunks_one (length_leBytes 4 a) (by decide), List.map_singleton,
      ofLe_leBytes 4 ha]
  rw [exec_kmpRead_eq, hread, State.kmpReads_one (s := s.heard m) hload ht hq hsess hl hm hg hc]
  refine ⟨_, rfl, State.answered_reply s _ hsess (by rfl) (by rfl) _ _, ?_, ?_, ?_⟩
  all_goals rw [State.kmpReply, State.kmpSend_open hsess]; rfl

theorem exec_kmpBlockRead_reads (src a : Nat) (dg : List Byte) (m : Kmp) (s : State) :
    Accepts s src dg m → m.op = 0x12 → m.body = leBytes 4 a ++ [1] →
    a < 2 ^ 32 → onLeat a = false → mapped a = true → latchMembers a = [] → s.captured (0x40 + m.sess) a = none →
    s.fab.txns = [] → s.net.mbQueue = [] →
    ∃ t, exec (.kmpBlockRead src dg) s = .next t ∧
      Answered m 0 (leBytes 4 ((s.heard m).look (0x40 + m.sess) a).toNat) s t ∧ t.regs = s.regs ∧ t.fab.txns = [] ∧
      { t with out := s.out, net := s.net, fab := s.fab } = s := by
  intro h ho hb ha hl hm hg hc ht hq
  obtain ⟨hload, -, -, -, -, -, hsess, -⟩ := id h
  have hread : s.kmpOp src dg 0x12 false true State.kmpBlockRead = (s.heard m).kmpReads m.sess m [a] := by
    have haddr : ofLe (slice 0 4 m.body) = a := by rw [hb, slice_append_left (length_leBytes 4 a), ofLe_leBytes 4 ha]
    have hcount : ofLe (m.body.drop 4) = 1 := by
      rw [hb, List.drop_left' (length_leBytes 4 a)]
      rfl
    have hlen : m.body.length = 5 := by rw [hb, List.length_append, length_leBytes, List.length_singleton]
    rw [State.kmpOp, State.kmpRun_accepted h (by simp [ho]) (fun h => absurd h (by decide)), State.kmpBlockRead, haddr, hcount,
      hlen]
    rfl
  rw [exec_kmpBlockRead_eq, hread, State.kmpReads_one (s := s.heard m) hload ht hq hsess hl hm hg hc]
  refine ⟨_, rfl, State.answered_reply s _ hsess (by rfl) (by rfl) _ _, ?_, ?_, ?_⟩
  all_goals rw [State.kmpReply, State.kmpSend_open hsess]; rfl

theorem exec_kmpWrite_writes (src : Nat) (v : Word) (dg : List Byte) (m : Kmp) (s : State) :
    Accepts s src dg m → m.op = 0x11 →
    s.on (NET_SESSION_OPERATE m.sess) = true → m.body = leBytes 4 SYS_SCRATCH ++ leBytes 4 v.toNat →
    ∃ t, exec (.kmpWrite src dg) s = .next t ∧ t.reg SYS_SCRATCH = v ∧ Answered m 0 [] s t ∧ SameRegs [SYS_SCRATCH] s t ∧
      { t with regs := s.regs, out := s.out, net := s.net } = s := by
  intro h ho hop hb
  obtain ⟨hload, -, -, -, -, -, hsess, -⟩ := id h
  have hlen : m.body.length = 8 := by rw [hb, List.length_append, length_leBytes, length_leBytes]
  have haddr : ofLe (slice 0 4 m.body) = SYS_SCRATCH := by
    rw [hb, slice_append_left (length_leBytes _ _), ofLe_leBytes 4 (by decide)]
  have hval : BitVec.ofNat 32 (ofLe (slice 4 4 m.body)) = v := by
    rw [hb, slice_append_right (length_leBytes _ _) (length_leBytes _ _), ofLe_leBytes 4 v.isLt]
    simp
  have hnow : (s.heard m).issueWrite (kmpReq m.sess) SYS_SCRATCH v = (s.heard m).setReg SYS_SCRATCH v := by
    have hleat : onLeat SYS_SCRATCH = false := rfl
    have hup : (s.heard m).mpUp = true := State.mpUp_of_loaded hload
    rw [State.issueWrite, hleat, Bool.and_false, if_neg Bool.false_ne_true,
      State.writeAt_now (.inl (State.loading_of_loaded (s := s.heard m) hload)) (by simp [State.waitsBehind, hleat])
        (by decide), State.writeCore, hup, State.writeOk_scratch hup, State.store_scratch, State.effect_scratch]
    rfl
  have hwrite : s.kmpOp src dg 0x11 true false State.kmpWrite =
      ((s.heard m).setReg SYS_SCRATCH v).kmpReply m.sess m.op m.ctr 0 [] := by
    rw [State.kmpOp, State.kmpRun_accepted h (by simp [ho]) (fun _ => hop), State.kmpWrite, hlen]
    dsimp only
    rw [if_neg (by decide), chunks_one hlen (by decide), List.map_singleton, haddr, hval]
    exact congrArg (fun t => State.kmpDone t m.sess m) hnow
  rw [exec_kmpWrite_eq, hwrite]
  refine ⟨_, rfl, ?_, State.answered_reply s _ hsess (by rfl) (by rfl) _ _, ?_, ?_⟩
  · rw [State.kmpReply, State.kmpSend_open hsess]
    exact (State.reg_congr rfl _).trans (State.reg_setReg_same ..)
  · rw [State.kmpReply, State.kmpSend_open hsess]
    exact (((SameRegs.refl _ s).of_regs rfl).setReg (s := s) (t := s.heard m) v (by simp)).of_regs rfl
  · rw [State.kmpReply, State.kmpSend_open hsess]
    rfl

theorem exec_kmpHeartbeat_eq (src : Nat) (dg : List Byte) (s : State) :
    exec (.kmpHeartbeat src dg) s = .next (s.kmpOp src dg 0x60 false false State.kmpBeat) := rfl

theorem exec_kmpSetTime_eq (src : Nat) (dg : List Byte) (s : State) :
    exec (.kmpSetTime src dg) s = .next (s.kmpOp src dg 0x70 true false State.kmpSetTime) := rfl

theorem exec_kmpHeartbeat_beats (src : Nat) (dg : List Byte) (m : Kmp) (s : State) :
    Accepts s src dg m → m.op = 0x60 → m.body = [] →
    (s.reg NET_WDOG_CFG).getLsbD 8 = true → s.on NET_WDOG_STATUS_TRIPPED = false →
    ∃ t, exec (.kmpHeartbeat src dg) s = .next t ∧ t.net.beat = s.tim.mono ∧ Answered m 0 [] s t ∧
      { t with out := s.out, net := s.net } = s := by
  intro h ho hb hcfg htrip
  obtain ⟨-, -, -, -, -, -, hsess, -⟩ := id h
  have hreq : beatSource (kmpReq m.sess) = some 0 := by
    rw [kmpReq, if_neg (by omega), beatSource, if_pos (by omega)]
  have hreg : (s.heard m).reg NET_WDOG_CFG = s.reg NET_WDOG_CFG := State.reg_congr rfl _
  have hon : (s.heard m).on NET_WDOG_STATUS_TRIPPED = s.on NET_WDOG_STATUS_TRIPPED := State.on_congr rfl _
  have hbeat := State.heartbeat_beats (s := s.heard m) hreq (by rw [hreg]; exact hcfg) (by rw [hon, htrip])
  have hdone : s.kmpOp src dg 0x60 false false State.kmpBeat =
      ((s.heard m).withNet (s.heard m).beatNet).kmpReply m.sess m.op m.ctr 0 [] := by
    rw [State.kmpOp, State.kmpRun_accepted h (by simp [ho]) (fun h => absurd h (by decide)), State.kmpBeat,
      if_neg (by simp [hb]), hbeat]
    rfl
  rw [exec_kmpHeartbeat_eq, hdone]
  have hframe := State.kmpSend_frame (s := (s.heard m).withNet (s.heard m).beatNet) hsess m.op 0 (leBytes 8 m.ctr ++ [])
  refine ⟨_, rfl, ?_, State.answered_reply s _ hsess (by rfl) (by rfl) _ _, ?_⟩
  · rw [State.kmpReply, State.kmpSend_open hsess]
    rfl
  · exact (congrArg (fun t : State => { t with net := s.net }) hframe :)

theorem exec_kmpSetTime_sets (src : Nat) (dg : List Byte) (m : Kmp) (s : State) :
    Accepts s src dg m → m.op = 0x70 →
    s.on (NET_SESSION_OPERATE m.sess) = true → m.body.length = 10 → ofLe (slice 6 4 m.body) < 1000000000 →
    s.setRefused = false →
    ∃ t, exec (.kmpSetTime src dg) s = .next t ∧ t.get TIME_STATUS_TIME_SOURCE = 0x60 ∧ t.tim.hostSet = true ∧
      t.tim.step.getD 0 * 1000000 + t.tim.slew =
        ((ofLe (slice 0 6 m.body) * 1000000000 + ofLe (slice 6 4 m.body) : Nat) : Int) - s.tim.site ∧
      t.tim.slew.natAbs ≤ 500000 ∧ Answered m 0 [] s t ∧ SameRegs [TIME_STATUS, TIME_SERVO] s t := by
  intro h ho hop hlen hns hr
  obtain ⟨-, -, -, -, -, -, hsess, -⟩ := id h
  have hset : s.kmpOp src dg 0x70 true false State.kmpSetTime = ((s.heard m).timeSet
      (ofLe (slice 0 6 m.body) * 1000000000 + ofLe (slice 6 4 m.body)) s.tim.site).kmpReply m.sess m.op m.ctr 0 [] := by
    have hr' : ¬ (s.heard m).setRefused = true := by
      rw [show (s.heard m).setRefused = s.setRefused from rfl, hr]
      decide
    rw [State.kmpOp, State.kmpRun_accepted h (by simp [ho]) (fun _ => hop), State.kmpSetTime, if_neg (by omega), if_neg hr']
    rfl
  obtain ⟨hnet, hout⟩ := (s.heard m).timeSet_frame (ofLe (slice 0 6 m.body) * 1000000000 + ofLe (slice 6 4 m.body)) s.tim.site
  have hsource := (s.heard m).timeSet_timeSource (ofLe (slice 0 6 m.body) * 1000000000 + ofLe (slice 6 4 m.body)) s.tim.site
  have hregs := (s.heard m).sameRegs_timeSet (ofLe (slice 0 6 m.body) * 1000000000 + ofLe (slice 6 4 m.body)) s.tim.site
  obtain ⟨hhost, hoff, hslew⟩ := (s.heard m).timeSet_tim (ofLe (slice 0 6 m.body) * 1000000000 + ofLe (slice 6 4 m.body))
    s.tim.site
  rw [exec_kmpSetTime_eq, hset]
  generalize (s.heard m).timeSet (ofLe (slice 0 6 m.body) * 1000000000 + ofLe (slice 6 4 m.body)) s.tim.site = u
    at hnet hout hsource hregs hhost hoff hslew
  have hsession : u.session m.sess = (s.heard m).session m.sess := by rw [State.session, hnet, State.session]
  have hframe := State.kmpSend_frame (s := u) hsess m.op 0 (leBytes 8 m.ctr ++ [])
  refine ⟨_, rfl, ?_, ?_, ?_, ?_, State.answered_reply s u hsess hout hsession _ _, ?_⟩
  · exact (State.get_congr (congrArg State.regs hframe :) _).trans hsource
  · exact (congrArg (fun t : State => t.tim.hostSet) hframe :).trans hhost
  · rw [show (u.kmpReply m.sess m.op m.ctr 0 []).tim = u.tim from (congrArg State.tim hframe :)]
    exact hoff
  · rw [show (u.kmpReply m.sess m.op m.ctr 0 []).tim = u.tim from (congrArg State.tim hframe :)]
    exact hslew
  · intro a ha
    exact (State.reg_congr (congrArg State.regs hframe :) a).trans (hregs a ha)

theorem exec_kmpSetTime_refused (src : Nat) (dg : List Byte) (m : Kmp) (s : State) :
    Accepts s src dg m → m.op = 0x70 →
    s.on (NET_SESSION_OPERATE m.sess) = true → m.body.length = 10 → ofLe (slice 6 4 m.body) < 1000000000 →
    s.setRefused = true →
    ∃ t, exec (.kmpSetTime src dg) s = .next t ∧ Answered m 6 [1] s t ∧ { t with out := s.out, net := s.net } = s := by
  intro h ho hop hlen hns hr
  obtain ⟨-, -, -, -, -, -, hsess, -⟩ := id h
  have hrefuse : s.kmpOp src dg 0x70 true false State.kmpSetTime = (s.heard m).kmpReply m.sess m.op m.ctr 6 [1] := by
    have hr' : (s.heard m).setRefused = true := hr
    rw [State.kmpOp, State.kmpRun_accepted h (by simp [ho]) (fun _ => hop), State.kmpSetTime, if_neg (by omega), if_pos hr']
    rfl
  rw [exec_kmpSetTime_eq, hrefuse]
  refine ⟨_, rfl, State.answered_reply s _ hsess (by rfl) (by rfl) _ _, ?_⟩
  rw [State.kmpReply, State.kmpSend_open hsess]
  rfl

/-- Settles O23: what a read, a write, a heartbeat and a set of the time answer and leave. -/
theorem kmpAccess : Obligations.KmpAccess :=
  ⟨exec_kmpRead_reads, exec_kmpBlockRead_reads, exec_kmpWrite_writes, exec_kmpHeartbeat_beats, exec_kmpSetTime_sets,
    exec_kmpSetTime_refused⟩

end Sys2Proof.Machine
end

section
/-! PROOFS. KMP transfers (R96, R132, R133, R298, R340, R442, R444): log reads and freezes, the starts of transfers, their
data and their timers. -/

namespace Sys2Proof.Machine

open Reg

theorem exec_kmpLogRead_eq (src : Nat) (x : LogReadIn) (s : State) :
    exec (.kmpLogRead src x) s = .next (s.kmpOp src x.dg 0x20 false true (State.kmpLogRead x.bad)) := rfl

theorem exec_kmpLogFreeze_eq (src : Nat) (dg : List Byte) (s : State) :
    exec (.kmpLogFreeze src dg) s = .next (s.kmpOp src dg 0x21 true false State.kmpFreeze) := rfl

theorem exec_kmpCupRead_eq (src : Nat) (dg : List Byte) (s : State) :
    exec (.kmpCupRead src dg) s = .next (s.kmpOp src dg 0x30 false false State.kmpCupRead) := rfl

theorem exec_kmpCaddyWrite_eq (src : Nat) (dg : List Byte) (s : State) :
    exec (.kmpCaddyWrite src dg) s = .next (s.kmpOp src dg 0x40 true true State.kmpCaddyWrite) := rfl

theorem exec_kmpSnapshotExport_eq (src : Nat) (dg : List Byte) (s : State) :
    exec (.kmpSnapshotExport src dg) s = .next (s.kmpRun src dg (snapMine 0) (fun _ => false) false State.kmpExport) := rfl

theorem exec_kmpSnapshotImport_eq (src : Nat) (dg : List Byte) (s : State) :
    exec (.kmpSnapshotImport src dg) s = .next (s.kmpRun src dg (snapMine 1) (fun _ => true) false State.kmpImport) := rfl

namespace State

section LogRead
variable {s : State}

/-- A datagram of an operation that needs no role. -/
theorem kmpOp_accepted {src op : Nat} {dg : List Byte} {m : Kmp} {operate bareOk : Bool} {run : State → Nat → Kmp → State}
    (h : Accepts s src dg m) (ho : m.op = op) (hr : operate = true → s.on (NET_SESSION_OPERATE m.sess) = true) :
    s.kmpOp src dg op operate bareOk run = run (s.heard m) m.sess m :=
  kmpRun_accepted h (by simp [ho]) hr

/-- The records of bad sectors that a read of the log has met. -/
theorem logBad_frame (l : List Nat) : (s.logBad l).out = s.out ∧ (s.logBad l).net = s.net :=
  ⟨each_keeps State.out (fun _ _ => ev_out ..) _ _, each_keeps State.net (fun _ _ => ev_net ..) _ _⟩

/-- A read of the log is of the recorder, whoever has been heard. -/
theorem logRead_heard (m : Kmp) (first count : Nat) (bad : List Nat) :
    (s.heard m).logRead first count bad = s.logRead first count bad ∧ (s.heard m).available = s.available ∧
      (s.heard m).hwm = s.hwm := ⟨rfl, rfl, rfl⟩

theorem logRead_hwm (first count : Nat) (bad : List Nat) : (s.logRead first count bad).hwm = s.hwm := by
  unfold logRead
  dsimp only
  split <;> rfl

/-- The sectors of the bad records that a read has met. -/
def badSectors (s : State) (bad : List (Nat × Nat)) (first : Nat) (r : LogReply) : List Nat :=
  (bad.filter (fun p => decide (first ≤ p.1) && decide (p.1 ≤ match r.recs.getLast? with
    | some x => x.seq
    | none => r.hwm) && s.available.any (fun x => x.seq = p.1))).map (fun p => p.2)

theorem kmpLogRead_eq {n : Nat} {m : Kmp} {bad : List (Nat × Nat)} {r : LogReply}
    (hlen : ¬ (m.body.length < 7 ∨ ofLe (m.body.drop 6) = 0 ∨ 40 < ofLe (m.body.drop 6)))
    (hr : s.logRead (ofLe (slice 0 6 m.body)) (ofLe (m.body.drop 6)) (bad.map (fun p => p.1)) = r) :
    s.kmpLogRead bad n m = (s.logBad (s.badSectors bad (ofLe (slice 0 6 m.body)) r)).kmpReply n m.op m.ctr r.status
      (leBytes 6 r.hwm ++ leBytes 2 r.flags ++ (r.recs.map LogRec.bytes).flatten) := by
  rw [kmpLogRead]
  dsimp only
  rw [if_neg hlen, hr]
  rfl

end LogRead

/-! ### A freeze of the log (R444) -/

section Freeze
variable {s : State}

theorem submit_freeze (p : Nat) (e : Submit) : (s.submit p e).log.freeze = s.log.freeze := by
  have hdrop : (s.dropRecord p).log.freeze = s.log.freeze := by
    unfold dropRecord
    split
    · rfl
    · split <;> rfl
  unfold submit
  dsimp only
  split
  · rfl
  · split
    · rfl
    · exact hdrop

theorem ev_freeze (p c a b d : Nat) (v : Bool) : (s.ev p c a b d v).log.freeze = s.log.freeze := submit_freeze ..

/-- A record, dropped or not, leaves the recorder's status but for OVERFLOW. -/
theorem get_ev_status (p c a b d : Nat) (v : Bool) {f : Fld} (hf : f.addr = LOG_STATUS)
    (ho : f.hi < LOG_STATUS_OVERFLOW.lo ∨ LOG_STATUS_OVERFLOW.hi < f.lo) :
    (s.ev p c a b d v).get f = s.get f := by
  have hne : f.addr ≠ LOG_DROP p := by
    rw [hf]
    simp only [LOG_STATUS, LOG_DROP]
    omega
  have hshown : ((s.inc (LOG_DROP_DROPPED p)).putB LOG_STATUS_OVERFLOW true).get f = s.get f := by
    have hinc : (s.inc (LOG_DROP_DROPPED p)).get f = s.get f := by
      rw [get, reg_inc_ne _ (LOG_DROP_DROPPED p) hne, get]
    exact (get_putB_ne _ _ _ _ (by decide) (.inr ho)).trans hinc
  have hlog (t : State) (x : Recorder) : (t.withLog x).get f = t.get f := get_withLog t x f
  have hdrop : (s.dropRecord p).get f = s.get f := by
    unfold dropRecord
    split
    · exact (hlog _ _).trans hshown
    · split
      · exact hlog _ _
      · rfl
  rw [ev_eq]
  unfold submit
  dsimp only
  split
  · rfl
  · split
    · exact get_congr rfl f
    · exact hdrop

/-- A register of commands keeps nothing of one. -/
theorem store_command {a : Nat} {r : RegRow} (hrow : rowOf a = some r) (hrw : r.rw = 0) (hw1c : r.w1c = 0)
    (ht : a ∉ tableRegs) (v : Word) : s.store a v = s.touched a := by
  have hafter (old : Word) : r.after old v = old := by
    have hall (w : Word) : w &&& 4294967295#32 = w := BitVec.and_allOnes
    simp [RegRow.after, hrw, hw1c, hall]
  simp [store, hrow, hafter, ht, touched]

/-- An accepted command acts on the state as it is. -/
theorem writeAt_command {req a : Nat} {r : RegRow} {v : Word} (h : Writes s req a v) (hrow : rowOf a = some r)
    (hrw : r.rw = 0) (hw1c : r.w1c = 0) (ht : a ∉ tableRegs) (ha : a ≠ CADDY_SWAP_CMD) :
    s.writeAt req a v = (s.touched a).effect req a (s.reg a) v := by
  obtain ⟨hup, hl, hwait, hok⟩ := h
  rw [writeAt_now hl hwait ha, writeCore, hup, hok, store_command hrow hrw hw1c ht]
  rfl

/-- The row of LOG_FREEZE. -/
def freezeRow : RegRow := { base := 0x040028, wo := 0xffff0300, rsv := 0x0000fc00, ranges := [(31, 16, 62702, 62702), (9, 8, 1, 2)] }

theorem rowOf_freeze : rowOf LOG_FREEZE = some freezeRow := rfl

theorem writeAt_freezeSet {req : Nat} (h : Writes s req LOG_FREEZE 0xF4EE0100) :
    s.writeAt req LOG_FREEZE 0xF4EE0100 = (s.touched LOG_FREEZE).freezeSet :=
  (writeAt_command h rowOf_freeze rfl rfl (by decide) (by decide)).trans rfl

theorem writeAt_freezeLift {req : Nat} (h : Writes s req LOG_FREEZE 0xF4EE0200) :
    s.writeAt req LOG_FREEZE 0xF4EE0200 = (s.touched LOG_FREEZE).freezeLift :=
  (writeAt_command h rowOf_freeze rfl rfl (by decide) (by decide)).trans rfl

theorem writes_freeze (hup : s.mpUp = true) (hl : s.loading = false) (req : Nat) :
    Writes s req LOG_FREEZE 0xF4EE0100 := by
  have hleat : onLeat LOG_FREEZE = false := rfl
  have hr : s.inReset (planeOf LOG_FREEZE) = false := inReset_mgmt_of_mpUp hup
  have hmay : s.requesterMay req LOG_FREEZE = true := rfl
  have hword : s.wordOk LOG_FREEZE 0xF4EE0100 = true := rfl
  have hadmits : freezeRow.admits 0xF4EE0100 = true := by decide
  refine ⟨hup, .inl hl, by simp [waitsBehind, hleat], ?_⟩
  have hrwl : freezeRow.rwl = false := rfl
  simp only [writeOk, hr, rowOf_freeze, hmay, hword, hadmits, hrwl]
  rfl

@[simp] theorem optime_touched (a : Nat) : (s.touched a).optime = s.optime := by
  rw [optime, reg_touched, get_touched, optime]

/-- The recorder with a freeze. -/
def frozen (s : State) : Recorder := { s.log with freeze := some s.optime }

theorem freezeSet_eq (hf : s.log.freeze = none) (hs : s.pwr.sluice = none) (hg : s.guard.halted = false) :
    s.freezeSet = (((s.withLog s.frozen).putB LOG_STATUS_FROZEN true).put LOG_FREEZE_REMAIN 100).ev portLog 0xA004 1 0
      s.log.pond.length := by
  have hno : ¬ (s.log.freeze.isSome || s.pwr.sluice.isSome || s.guard.halted) = true := by simp [hf, hs, hg]
  rw [freezeSet, if_neg hno]
  rfl

/-- A freeze that begins is shown, with room for its record or not. -/
theorem freezeSet_shown (hf : s.log.freeze = none) (hs : s.pwr.sluice = none) (hg : s.guard.halted = false) :
    s.freezeSet.log.freeze = some s.optime ∧ s.freezeSet.get LOG_STATUS_FROZEN = 1 ∧ s.freezeSet.out = s.out ∧
      s.freezeSet.net = s.net := by
  rw [freezeSet_eq hf hs hg]
  refine ⟨ev_freeze .., ?_, ev_out .., ev_net ..⟩
  rw [get_ev_status _ _ _ _ _ _ rfl (by decide), get_put_ne _ _ _ _ (by decide) (by decide), get_putB_same _ _ _ (by decide)]
  rfl

end Freeze

end State

theorem exec_kmpLogRead_answers (src : Nat) (dg : List Byte) (bad : List (Nat × Nat)) (m : Kmp) (r : LogReply) (s : State) :
    Accepts s src dg m →
    m.op = 0x20 → 7 ≤ m.body.length → 1 ≤ ofLe (m.body.drop 6) → ofLe (m.body.drop 6) ≤ 40 →
    r = s.logRead (ofLe (slice 0 6 m.body)) (ofLe (m.body.drop 6)) (bad.map (fun p => p.1)) →
    ∃ t, exec (.kmpLogRead src ⟨dg, bad⟩) s = .next t ∧
      Answered m r.status (leBytes 6 s.hwm ++ leBytes 2 r.flags ++ (r.recs.map LogRec.bytes).flatten) s t ∧
      (bad = [] → { t with out := s.out, net := s.net } = s) := by
  intro h ho hlen hc1 hc2 hr
  obtain ⟨-, -, -, -, -, -, hsess, -⟩ := id h
  have hread : s.kmpOp src dg 0x20 false true (State.kmpLogRead bad) =
      ((s.heard m).logBad ((s.heard m).badSectors bad (ofLe (slice 0 6 m.body)) r)).kmpReply m.sess m.op m.ctr r.status
        (leBytes 6 s.hwm ++ leBytes 2 r.flags ++ (r.recs.map LogRec.bytes).flatten) := by
    rw [State.kmpOp_accepted h ho (fun h => absurd h (by decide)), State.kmpLogRead_eq (by omega)
      ((State.logRead_heard m _ _ _).1.trans hr.symm), show r.hwm = s.hwm by rw [hr, State.logRead_hwm]]
  have hnone (hb : bad = []) : (s.heard m).badSectors bad (ofLe (slice 0 6 m.body)) r = [] := by
    rw [hb]
    rfl
  generalize (s.heard m).badSectors bad (ofLe (slice 0 6 m.body)) r = l at hread hnone
  obtain ⟨hout, hnet⟩ := (s.heard m).logBad_frame l
  have hsession : ((s.heard m).logBad l).session m.sess = (s.heard m).session m.sess := by
    rw [State.session, hnet, State.session]
  rw [exec_kmpLogRead_eq, hread]
  refine ⟨_, rfl, State.answered_reply s _ hsess hout hsession _ _, fun hb => ?_⟩
  have hframe := State.kmpSend_frame (s := (s.heard m).logBad []) hsess m.op r.status
    (leBytes 8 m.ctr ++ (leBytes 6 s.hwm ++ leBytes 2 r.flags ++ (r.recs.map LogRec.bytes).flatten))
  rw [hnone hb]
  exact (congrArg (fun t : State => { t with net := s.net }) hframe :)

theorem exec_kmpLogFreeze_freezes (src : Nat) (dg : List Byte) (m : Kmp) (s : State) :
    Accepts s src dg m → m.op = 0x21 → m.body = [1] →
    s.on (NET_SESSION_OPERATE m.sess) = true → s.log.freeze = none → s.pwr.sluice = none →
    s.guard.halted = false →
    ∃ t, exec (.kmpLogFreeze src dg) s = .next t ∧ t.log.freeze = some s.optime ∧ t.get LOG_STATUS_FROZEN = 1 ∧
      Answered m 0 [] s t := by
  intro h ho hb hop hf hsl hg
  obtain ⟨hload, -, -, -, -, -, hsess, -⟩ := id h
  have hwrite : (s.heard m).issueWrite (kmpReq m.sess) LOG_FREEZE 0xF4EE0100 = ((s.heard m).touched LOG_FREEZE).freezeSet := by
    have hleat : onLeat LOG_FREEZE = false := rfl
    have hload' : (s.heard m).loading = false := State.loading_of_loaded hload
    rw [State.issueWrite, hleat, Bool.and_false, if_neg Bool.false_ne_true,
      State.writeAt_freezeSet (State.writes_freeze (State.mpUp_of_loaded (s := s.heard m) hload) hload' _)]
  have hdone : s.kmpOp src dg 0x21 true false State.kmpFreeze =
      (((s.heard m).touched LOG_FREEZE).freezeSet).kmpReply m.sess m.op m.ctr 0 [] := by
    rw [State.kmpOp_accepted h ho (fun _ => hop), State.kmpFreeze, if_pos hb, hwrite]
    rfl
  obtain ⟨hfreeze, hshown, hout, hnet⟩ := State.freezeSet_shown (s := (s.heard m).touched LOG_FREEZE) hf hsl hg
  have hopt : ((s.heard m).touched LOG_FREEZE).optime = s.optime := by
    rw [State.optime_touched]
    rfl
  rw [hopt] at hfreeze
  rw [exec_kmpLogFreeze_eq, hdone]
  generalize ((s.heard m).touched LOG_FREEZE).freezeSet = u at hfreeze hshown hout hnet
  have hsession : u.session m.sess = (s.heard m).session m.sess := by
    rw [State.session, hnet, State.session]
    rfl
  have hframe := State.kmpSend_frame (s := u) hsess m.op 0 (leBytes 8 m.ctr ++ [])
  refine ⟨_, rfl, ?_, ?_, State.answered_reply s u hsess hout hsession _ _⟩
  · exact (congrArg (fun t : State => t.log.freeze) hframe :).trans hfreeze
  · exact (State.get_congr (congrArg State.regs hframe :) _).trans hshown

/-- The transfers that CADDY WRITE and SNAPSHOT begin (R96, R298). -/
def caddyXfer (m : Kmp) (slot : Nat) : Xfer :=
  { session := m.sess, op := 0x40, ctr := m.ctr, kind := .caddy slot (decide (ofLe (slice 5 1 m.body) % 2 = 1)), len := some (ofLe (slice 1 4 m.body)) }

def exportXfer (m : Kmp) (l : List Nat) (f : List Byte) : Xfer :=
  { session := m.sess, op := 0x50, ctr := m.ctr, kind := .snapOut l, len := some f.length, data := f }

namespace State

section Transfers
variable {s : State}

@[simp] theorem reg_xferAdd (x : Xfer) (a : Nat) : (s.xferAdd x).reg a = s.reg a := reg_congr rfl a

/-- What one of the steps of a run establishes and the others keep. -/
theorem each_establishes {α : Type} {f : State → α → State} {P : State → Prop} {a : α} (hk : ∀ t b, P t → P (f t b))
    (ha : ∀ t, P (f t a)) {l : List α} (hl : a ∈ l) (s : State) : P (s.each l f) := by
  have hrun (l : List α) (t : State) (h : P t) : P (t.each l f) := by
    induction l generalizing t with
    | nil => exact h
    | cons b l ih => exact ih _ (hk _ _ h)
  induction l generalizing s with
  | nil => exact absurd hl (by simp)
  | cons b l ih =>
    rcases List.mem_cons.mp hl with rfl | hl
    · exact hrun l _ (ha s)
    · exact ih hl _

/-- A body in the snapshot that is sent. -/
def exporting (s : State) (j : Nat) : State := s.setBody j { s.body j with exporting := true }

theorem exporting_same (s : State) (j : Nat) : ((s.exporting j).body j).exporting = true := by
  rw [exporting, body_setBody_same]

theorem exporting_kept (s : State) (i j : Nat) (h : (s.body j).exporting = true) : ((s.exporting i).body j).exporting = true := by
  by_cases hij : j = i
  · rw [hij, exporting_same]
  · rw [exporting, body_setBody_ne _ _ _ hij, h]

end Transfers

end State

theorem exec_kmpCupRead_starts (src : Nat) (dg : List Byte) (m : Kmp) (s : State) :
    Accepts s src dg m → m.op = 0x30 → m.body.length = 16 →
    ofLe (slice 0 8 m.body) + ofLe (slice 8 8 m.body) ≤ 2 ^ 27 → 0 < ofLe (slice 8 8 m.body) → s.xferFull m.sess = false →
    ∃ t, exec (.kmpCupRead src dg) s = .next t ∧ t.net.xfers = s.net.xfers ++ [{
      session := m.sess, op := 0x30, ctr := m.ctr, kind := .cup (ofLe (slice 0 8 m.body)), len := some (min (ofLe (slice 8 8 m.body)) 0x4000000) }] ∧
      { t with net := s.net } = s := by
  intro h ho hlen hend hpos hx
  have hfull : (s.heard m).xferFull m.sess = false := hx
  have hmore : ¬ (some (min (ofLe (slice 8 8 m.body)) 0x4000000) = some 0) := by
    rw [Option.some.injEq]
    omega
  rw [exec_kmpCupRead_eq, State.kmpOp_accepted h ho (fun h => absurd h (by decide)), State.kmpCupRead]
  dsimp only
  rw [if_neg (by omega), if_neg (by rw [hfull]; decide), State.outDone, if_neg hmore, ho]
  exact ⟨_, rfl, rfl, rfl⟩

theorem exec_kmpCaddyWrite_starts (src slot : Nat) (dg : List Byte) (m : Kmp) (s : State) :
    Accepts s src dg m → m.op = 0x40 → m.body.length = 6 →
    s.on (NET_SESSION_OPERATE m.sess) = true → ofLe (slice 0 1 m.body) = slot → slot ≤ 1 → slot ≠ s.caddy.slot →
    0 < ofLe (slice 1 4 m.body) → ofLe (slice 1 4 m.body) ≤ slotSize → s.caddy.swap = none → s.caddy.writing = false →
    s.xferFull m.sess = false →
    ∃ t, exec (.kmpCaddyWrite src dg) s = .next t ∧ t.caddy = { s.caddy with writing := true } ∧
      t.get CADDY_STATUS_SWAP_BUSY = 1 ∧ t.reg (CADDY_SLOT_STATUS slot) = 0 ∧ t.reg (CADDY_SLOT_SEQ slot) = 0 ∧
      t.net.xfers = s.net.xfers ++ [{
        session := m.sess, op := 0x40, ctr := m.ctr
        kind := .caddy slot (decide (ofLe (slice 5 1 m.body) % 2 = 1)), len := some (ofLe (slice 1 4 m.body)) }] ∧
      SameRegs [CADDY_STATUS, CADDY_SLOT_STATUS slot, CADDY_SLOT_SEQ slot] s t ∧ t.nv = s.nv := by
  intro h ho hlen hop hslot h1 hne hpos hle hs hw hx
  have hfull : ¬ (s.heard m).xferFull m.sess = true := by
    rw [show (s.heard m).xferFull m.sess = s.xferFull m.sess from rfl, hx]
    decide
  have hslot' : ¬ ((s.heard m).isLoaded = true ∧ slot = (s.heard m).caddy.slot) := fun hc => hne hc.2
  have hswap : ¬ (s.heard m).caddy.swap.isSome = true := by
    rw [show (s.heard m).caddy.swap = s.caddy.swap from rfl, hs]
    decide
  have hwriting : ¬ (s.heard m).caddy.writing = true := by
    rw [show (s.heard m).caddy.writing = s.caddy.writing from rfl, hw]
    decide
  have hstart : s.kmpOp src dg 0x40 true true State.kmpCaddyWrite =
      ((((s.heard m).withCaddy { s.caddy with writing := true }).putB CADDY_STATUS_SWAP_BUSY true).setReg
        (CADDY_SLOT_STATUS slot) 0 |>.setReg (CADDY_SLOT_SEQ slot) 0).xferAdd (caddyXfer m slot) := by
    rw [State.kmpOp_accepted h ho (fun _ => hop), State.kmpCaddyWrite, hslot]
    dsimp only
    rw [if_neg (by omega), if_neg hslot', if_neg hswap, if_neg hwriting, if_neg hfull, ho]
    rfl
  have h12 : CADDY_SLOT_STATUS slot ≠ CADDY_SLOT_SEQ slot ∧ CADDY_STATUS ≠ CADDY_SLOT_STATUS slot ∧
      CADDY_STATUS ≠ CADDY_SLOT_SEQ slot := by
    simp only [CADDY_SLOT_STATUS, CADDY_SLOT_SEQ, CADDY_STATUS]
    omega
  have hreg (t u : State) (h : u.regs = t.regs) (a : Nat) : u.reg a = t.reg a := State.reg_congr h a
  rw [exec_kmpCaddyWrite_eq, hstart]
  refine ⟨_, rfl, rfl, ?_, ?_, ?_, rfl, ?_, rfl⟩
  · rw [State.get, State.reg_xferAdd, State.reg_setReg_ne _ _ h12.2.2, State.reg_setReg_ne _ _ h12.2.1]
    exact State.get_putB_same _ _ _ (by decide)
  · rw [State.reg_xferAdd, State.reg_setReg_ne _ _ h12.1, State.reg_setReg_same]
  · rw [State.reg_xferAdd, State.reg_setReg_same]
  · intro a ha
    simp only [List.mem_cons, List.not_mem_nil, or_false, not_or] at ha
    rw [State.reg_xferAdd, State.reg_setReg_ne _ _ ha.2.2, State.reg_setReg_ne _ _ ha.2.1, State.reg_putB_ne _ _ _ ha.1]
    exact State.reg_congr rfl a

theorem exec_kmpSnapshotExport_starts (src : Nat) (k : Byte) (dg : List Byte) (m : Kmp) (s : State) :
    Accepts s src dg m → m.op = 0x50 → m.body = [0, k] →
    (k.toNat ≤ 15 ∨ k.toNat = 0xFF) → s.xferFull m.sess = false →
    ∃ t, exec (.kmpSnapshotExport src dg) s = .next t ∧
      (∃ x, t.net.xfers = s.net.xfers ++ [x] ∧ x.kind = .snapOut (snapBodies s k.toNat) ∧
        x.data = (s.heard m).exportFile (snapBodies s k.toNat) ∧ x.len = some x.data.length) ∧
      (∀ j ∈ snapBodies s k.toNat, (t.body j).exporting = true) ∧ t.regs = s.regs ∧ t.log = s.log := by
  intro h ho hb hk hx
  have hfull : ¬ (s.heard m).xferFull m.sess = true := by
    rw [show (s.heard m).xferFull m.sess = s.xferFull m.sess from rfl, hx]
    decide
  have hbody : ofLe (m.body.drop 1) = k.toNat := by
    rw [hb]
    rfl
  have hstart : s.kmpRun src dg (snapMine 0) (fun _ => false) false State.kmpExport =
      (((s.heard m).each (snapBodies s k.toNat) State.exporting).tookN 39).xferAdd
        (exportXfer m (snapBodies s k.toNat) ((s.heard m).exportFile (snapBodies s k.toNat))) := by
    rw [State.kmpRun_accepted h (by simp [snapMine, ho, hb]) (fun h => absurd h (by decide)), State.kmpExport, hbody]
    dsimp only
    rw [if_neg (by rw [hb]; simp; omega), if_neg hfull, ho]
    rfl
  have hregs : ((s.heard m).each (snapBodies s k.toNat) State.exporting).regs = s.regs :=
    State.each_keeps (f := State.exporting) State.regs (fun _ _ => rfl) _ _
  have hlog : ((s.heard m).each (snapBodies s k.toNat) State.exporting).log = s.log :=
    State.each_keeps (f := State.exporting) State.log (fun _ _ => rfl) _ _
  have hnet : ((s.heard m).each (snapBodies s k.toNat) State.exporting).net = (s.heard m).net :=
    State.each_keeps (f := State.exporting) State.net (fun _ _ => rfl) _ _
  have hexp (j : Nat) (hj : j ∈ snapBodies s k.toNat) :
      (((s.heard m).each (snapBodies s k.toNat) State.exporting).body j).exporting = true :=
    State.each_establishes (P := fun t => (t.body j).exporting = true) (fun t i h => State.exporting_kept t i j h)
      (fun t => State.exporting_same t j) hj _
  rw [exec_kmpSnapshotExport_eq, hstart]
  generalize (s.heard m).each (snapBodies s k.toNat) State.exporting = u at hregs hlog hnet hexp
  refine ⟨_, rfl, ⟨exportXfer m (snapBodies s k.toNat) ((s.heard m).exportFile (snapBodies s k.toNat)), ?_, rfl, rfl, rfl⟩,
    hexp, hregs, hlog⟩
  exact (congrArg (fun n : Net => n.xfers ++ [exportXfer m (snapBodies s k.toNat)
    ((s.heard m).exportFile (snapBodies s k.toNat))]) hnet :)

theorem exec_kmpSnapshotImport_starts (src : Nat) (k : Byte) (dg : List Byte) (m : Kmp) (s : State) :
    Accepts s src dg m → m.op = 0x50 → m.body = [1, k] →
    (k.toNat ≤ 15 ∨ k.toNat = 0xFF) → s.on (NET_SESSION_OPERATE m.sess) = true → s.xferFull m.sess = false →
    ∃ t, exec (.kmpSnapshotImport src dg) s = .next t ∧ t.net.xfers = s.net.xfers ++ [{
      session := m.sess, op := 0x50, ctr := m.ctr, kind := .snapIn k.toNat, len := none }] ∧ { t with net := s.net } = s := by
  intro h ho hb hk hop hx
  have hfull : ¬ (s.heard m).xferFull m.sess = true := by
    rw [show (s.heard m).xferFull m.sess = s.xferFull m.sess from rfl, hx]
    decide
  have hbody : ofLe (m.body.drop 1) = k.toNat := by
    rw [hb]
    rfl
  rw [exec_kmpSnapshotImport_eq, State.kmpRun_accepted h (by simp [snapMine, ho, hb]) (fun _ => hop), State.kmpImport, hbody]
  rw [if_neg (by rw [hb]; simp; omega), if_neg hfull, ho]
  exact ⟨_, rfl, rfl, rfl⟩

/-- Settles O24: a log read answers one capture; a freeze begins; the three transfers begin. -/
theorem kmpTransfers : Obligations.KmpTransfers :=
  ⟨exec_kmpLogRead_answers, exec_kmpLogFreeze_freezes, exec_kmpCupRead_starts, exec_kmpCaddyWrite_starts,
    exec_kmpSnapshotExport_starts, exec_kmpSnapshotImport_starts⟩

end Sys2Proof.Machine
end

section
/-! PROOFS. The datagrams and the timers of a bulk transfer of KMP (R132). -/

namespace Sys2Proof.Machine

open Reg

namespace State

section Bulk
variable {s : State} {x : Xfer}

/-- Where reads of the slots fail is of the flash alone. -/
theorem noteBad_nv (s : State) (n : Nat) : ∃ v, s.noteBad n = s.withNv v := by
  have hstep (t : State) (y : Xfer) : ∃ v, (match y.kind with
      | .caddy k _ => { t with nv := { t.nv with bad := tset (fun _ => 0) t.nv.bad k n } }
      | _ => t) = t.withNv v := by
    cases y.kind <;> exact ⟨_, rfl⟩
  have hrun (l : List Xfer) (t : State) : ∃ v, t.each l (fun t y => match y.kind with
      | .caddy k _ => { t with nv := { t.nv with bad := tset (fun _ => 0) t.nv.bad k n } }
      | _ => t) = t.withNv v := by
    induction l generalizing t with
    | nil => exact ⟨_, rfl⟩
    | cons y l ih =>
      obtain ⟨v, hv⟩ := hstep t y
      obtain ⟨w, hw⟩ := ih (t.withNv v)
      refine ⟨w, ?_⟩
      refine (congrArg (fun u => State.each u l _) hv).trans hw
  exact hrun s.net.xfers s

/-- A byte of an image is programmed, its sector erased before it where it is the sector's first. -/
def programByte (base : Nat) (t : State) (p : Byte × Nat) : State :=
  (if (base + p.2) % 65536 = 0 then t.flashErase (base + p.2) else t).flashProg (base + p.2) p.1

theorem caddyProgram_eq (slot off : Nat) (l : List Byte) :
    s.caddyProgram slot off l = s.each l.zipIdx (programByte (slotBase slot + off)) := rfl

/-- Programming is of the flash alone, and sees nothing else. -/
theorem programByte_nv (base : Nat) (p : Byte × Nat) : ∃ v, ∀ t : State, t.nv = s.nv → programByte base t p = t.withNv v := by
  refine ⟨(programByte base s p).nv, fun t ht => ?_⟩
  unfold programByte
  split
  · simp only [flashProg, flashErase, flashByte, ht, withNv]
  · simp only [flashProg, flashByte, ht, withNv]

theorem programBytes_nv (base : Nat) (l : List (Byte × Nat)) (s : State) :
    ∃ v, ∀ t : State, t.nv = s.nv → t.each l (programByte base) = t.withNv v := by
  induction l generalizing s with
  | nil => exact ⟨s.nv, fun t ht => by rw [← ht]; rfl⟩
  | cons p l ih =>
    obtain ⟨v, hv⟩ := programByte_nv (s := s) base p
    obtain ⟨w, hw⟩ := ih (s.withNv v)
    refine ⟨w, fun t ht => ?_⟩
    refine (congrArg (fun u => State.each u l _) (hv t ht)).trans ?_
    exact hw _ rfl

/-- The flash after bytes of an image, for every state with the flash that was there. -/
theorem caddyProgram_nv (slot off : Nat) (l : List Byte) {t : State} (ht : t.nv = s.nv) :
    t.caddyProgram slot off l = t.withNv (s.caddyProgram slot off l).nv := by
  obtain ⟨v, hv⟩ := programBytes_nv (slotBase slot + off) l.zipIdx s
  rw [caddyProgram_eq, caddyProgram_eq, hv t ht, hv s rfl]
  rfl

/-- With one transfer running, its update is all of them. -/
theorem setXfer_xfers {y : Xfer} (h : s.net.xfers = [x]) (hs : x.session = y.session) : (s.setXfer y).net.xfers = [y] := by
  have hmap : (s.setXfer y).net.xfers = s.net.xfers.map (fun z => if z.session = y.session then y else z) := rfl
  rw [hmap, h, List.map_singleton, if_pos hs]

theorem setXfer_frame (y : Xfer) : { s.setXfer y with net := s.net } = s := rfl

/-- The transfer of a session in a direction. -/
theorem xferOf_one {n : Nat} {out : Bool} (h : s.net.xfers = [x]) (hs : x.session = n) (ho : x.out = out)
    (hr : x.ready = false) : s.xferOf n out = some x := by
  rw [xferOf, h]
  simp [hs, ho, hr]

/-- A transfer that ends gives up its place; one of the cup region has nothing else. -/
theorem xferDrop_cup {off : Nat} (h : s.net.xfers = [x]) (hr : x.ready = false) (hk : x.kind = .cup off) :
    s.xferDrop x = s.withNet { s.net with xfers := [] } := by
  have hnot : ¬ x.ready = true := by simp [hr]
  have hnone : s.net.xfers.filter (fun y => decide (y ≠ x)) = [] := by simp [h]
  rw [xferDrop]
  dsimp only
  rw [if_neg hnot, hk, hnone]
  rfl

/-- Data of an image at the expected offset, before its end and before an ACK is due. -/
theorem bulkTake_caddy {slot : Nat} {swap : Bool} {l : List Byte} (hk : x.kind = .caddy slot swap)
    (hl : x.next + l.length < x.len.getD 0) (hs : x.since < 7) :
    s.bulkTake x l = (s.caddyProgram slot x.next l).setXfer { x with next := x.next + l.length, since := x.since + 1 } := by
  have htake : l.take (x.len.getD 0 - x.next) = l := List.take_of_length_le (by omega)
  rw [bulkTake, hk]
  dsimp only
  rw [htake, if_neg (by omega), if_neg (by omega)]

theorem bulkData_expected {n : Nat} {m : Kmp} {l : List Byte} (hof : s.xferOf n false = some x)
    (hb : m.body = leBytes 8 x.next ++ l) (hn : x.next < 2 ^ 64) (h1 : 1 ≤ l.length) (h2 : l.length ≤ 1024) :
    s.bulkData n m = s.bulkTake x l := by
  have hdrop : m.body.drop 8 = l := by rw [hb, List.drop_left' (length_leBytes 8 _)]
  have htake : ofLe (m.body.take 8) = x.next := by
    rw [hb, List.take_left' (length_leBytes 8 _), ofLe_leBytes 8 hn]
  have hsome : ¬ (l = [] ∨ 1024 < l.length) := by
    rintro (h | h)
    · simp [h] at h1
    · omega
  rw [bulkData, hof]
  dsimp only
  rw [hdrop, htake, if_neg hsome, if_pos rfl]

/-- A reply sent when a transfer has ended, on a state that differs from the one before in the network alone. -/
theorem reply_ends {m : Kmp} {u : State} (hn : m.sess < 8) (op ctr status : Nat) (hframe : { u with net := s.net } = s)
    (hs : u.session m.sess = (s.heard m).session m.sess) :
    ((u.withNet { u.net with xfers := [] }).kmpReply m.sess op ctr status []).net.xfers = [] ∧
    Sent m.sess op status (leBytes 8 ctr) s ((u.withNet { u.net with xfers := [] }).kmpReply m.sess op ctr status []) ∧
    { (u.withNet { u.net with xfers := [] }).kmpReply m.sess op ctr status [] with net := s.net, out := s.out } = s := by
  have hout : u.out = s.out := (congrArg State.out hframe :)
  have hw : ∃ w, u.withNet { u.net with xfers := [] } = w ∧ w.net.xfers = [] ∧ w.out = s.out ∧
      w.session m.sess = (s.heard m).session m.sess ∧ { w with net := s.net } = s :=
    ⟨_, rfl, rfl, hout, hs, hframe⟩
  obtain ⟨w, hw, hxfers, hwout, hsession, hwframe⟩ := hw
  rw [hw, kmpReply, List.append_nil]
  refine ⟨(kmpSend_xfers hn _ _ _).trans hxfers, sent_of_heard ?_, ?_⟩
  · have hsent := sent_send (s := w) hn op status (leBytes 8 ctr)
    rw [Sent, hsession, hwout] at hsent
    exact hsent
  · refine Eq.trans ?_ hwframe
    rw [kmpSend_open hn, ← hwout]
    rfl

end Bulk

end State

theorem exec_kmpData_eq (src : Nat) (x : DataIn) (s : State) :
    exec (.kmpData src x) s = .next ((s.noteBad x.bad).kmpOp src x.dg 0x80 false true State.bulkData) := rfl

theorem exec_kmpAck_eq (src : Nat) (dg : List Byte) (s : State) :
    exec (.kmpAck src dg) s = .next (s.kmpOp src dg 0x81 false true State.bulkAck) := rfl

theorem exec_bulkDataSend_eq (i : Fin 2) (s : State) : exec (.bulkDataSend i) s = .next (s.bulkSend i.val) := rfl
theorem exec_bulkAckTimer_eq (i : Fin 2) (s : State) : exec (.bulkAckTimer i) s = .next (s.bulkAckTimer i.val) := rfl
theorem exec_bulkResendTimeout_eq (i : Fin 2) (s : State) :
    exec (.bulkResendTimeout i) s = .next (s.bulkResend i.val) := rfl
theorem exec_bulkAbandonTimeout_eq (i : Fin 2) (s : State) :
    exec (.bulkAbandonTimeout i) s = .next (s.bulkAbandon i.val) := rfl

theorem exec_kmpData_stores (src slot : Nat) (swap : Bool) (bad : Fin 4) (l dg : List Byte) (m : Kmp) (x : Xfer) (s : State) :
    Accepts s src dg m →
    m.op = 0x80 → m.body = leBytes 8 x.next ++ l → x.next < 2 ^ 64 → 1 ≤ l.length → l.length ≤ 1024 →
    s.net.xfers = [x] → x.session = m.sess → x.ready = false → x.kind = .caddy slot swap →
    x.next + l.length < x.len.getD 0 → x.since < 7 →
    ∃ t, exec (.kmpData src ⟨dg, bad⟩) s = .next t ∧
      t.net.xfers = [{ x with next := x.next + l.length, since := x.since + 1 }] ∧
      t.nv = ((s.noteBad bad).caddyProgram slot x.next l).nv ∧ { t with nv := s.nv, net := s.net } = s := by
  intro h ho hb hnext h1 h2 hx hsess hready hkind hroom hsince
  obtain ⟨v, hv⟩ := s.noteBad_nv bad.val
  have hof : ((s.withNv v).heard m).xferOf m.sess false = some x :=
    State.xferOf_one hx hsess (by rw [Xfer.out, hkind]) hready
  have haccepts : Accepts (s.withNv v) src dg m := h
  have hprog := State.caddyProgram_nv (s := s.withNv v) (t := (s.withNv v).heard m) slot x.next l rfl
  rw [exec_kmpData_eq, hv, State.kmpOp_accepted haccepts ho (fun h => absurd h (by decide)),
    State.bulkData_expected hof hb hnext h1 h2, State.bulkTake_caddy hkind hroom hsince, hprog]
  exact ⟨_, rfl, State.setXfer_xfers (s := ((s.withNv v).heard m).withNv _) hx rfl, rfl, rfl⟩

theorem exec_kmpAck_moves (src : Nat) (dg : List Byte) (m : Kmp) (x : Xfer) (s : State) :
    Accepts s src dg m → m.op = 0x81 →
    s.net.xfers = [x] → x.session = m.sess → x.ready = false → x.out = true → m.body.length = 8 →
    x.acked < ofLe m.body → ofLe m.body < x.len.getD 0 →
    ∃ t, exec (.kmpAck src dg) s = .next t ∧
      t.net.xfers = [{ x with acked := ofLe m.body, next := max x.next (ofLe m.body) }] ∧ { t with net := s.net } = s := by
  intro h ho hx hsess hready hout hlen hacked hmore
  have hof : (s.heard m).xferOf m.sess true = some x := State.xferOf_one hx hsess hout hready
  have hlast : ¬ (x.len = some (ofLe m.body)) := by
    intro hc
    rw [hc, Option.getD_some] at hmore
    omega
  rw [exec_kmpAck_eq, State.kmpOp_accepted h ho (fun h => absurd h (by decide)), State.bulkAck, hof]
  dsimp only
  rw [if_neg (by omega), State.outDone, if_neg hlast]
  exact ⟨_, rfl, State.setXfer_xfers (s := s.heard m) hx rfl, rfl⟩

theorem exec_kmpAck_ends (src off : Nat) (dg : List Byte) (m : Kmp) (x : Xfer) (s : State) :
    Accepts s src dg m → m.op = 0x81 →
    s.net.xfers = [x] → x.session = m.sess → x.ready = false → x.kind = .cup off → m.body.length = 8 →
    x.acked < ofLe m.body → x.len = some (ofLe m.body) →
    ∃ t, exec (.kmpAck src dg) s = .next t ∧ t.net.xfers = [] ∧ Sent m.sess x.op 0 (leBytes 8 x.ctr) s t ∧
      { t with net := s.net, out := s.out } = s := by
  intro h ho hx hsess hready hkind hlen hacked hlast
  obtain ⟨-, -, -, -, -, -, hn, -⟩ := id h
  have hout : x.out = true := by rw [Xfer.out, hkind]
  have hof : (s.heard m).xferOf m.sess true = some x := State.xferOf_one hx hsess hout hready
  have hdrop := State.xferDrop_cup (s := (s.heard m).setXfer { x with acked := ofLe m.body, next := max x.next (ofLe m.body) })
    (x := { x with acked := ofLe m.body, next := max x.next (ofLe m.body) })
    (State.setXfer_xfers (s := s.heard m) hx rfl) hready hkind
  rw [exec_kmpAck_eq, State.kmpOp_accepted h ho (fun h => absurd h (by decide)), State.bulkAck, hof]
  dsimp only
  rw [if_neg (by rw [hlast, Option.getD_some]; omega), State.outDone, if_pos hlast, hdrop]
  generalize hu : (s.heard m).setXfer { x with acked := ofLe m.body, next := max x.next (ofLe m.body) } = u
  rw [hsess]
  have hframe : { u with net := s.net } = s := by rw [← hu]; rfl
  have hsessions : u.net.sessions = (s.heard m).net.sessions := by rw [← hu]; rfl
  have hended := State.reply_ends (u := u) hn x.op x.ctr 0 hframe
    (congrArg (fun l => tget (fun _ => ({} : Session)) l m.sess) hsessions)
  exact ⟨_, rfl, hended⟩

theorem exec_bulkDataSend_sends (i : Fin 2) (x : Xfer) (s : State) :
    s.net.xfers[i.val]? = some x → x.out = true → x.session < 8 →
    x.next < x.len.getD 0 → x.next < x.acked + 65536 →
    ∃ t, exec (.bulkDataSend i) s = .next t ∧
      Sent x.session 0x80 0 (leBytes 8 x.next ++ (List.range (min 1024 (x.len.getD 0 - x.next))).map
        (fun j => s.xferByte x (x.next + j))) s t ∧ { t with net := s.net, out := s.out } = s := by
  intro hx hout hsess hnext hack
  have hgo : ¬ (!x.out || decide (min 1024 (x.len.getD 0 - x.next) = 0) || decide (65536 ≤ x.next - x.acked)) = true := by
    simp [hout]
    omega
  rw [exec_bulkDataSend_eq, State.bulkSend, hx]
  dsimp only
  rw [if_neg hgo]
  refine ⟨_, rfl, State.sent_send hsess _ _ _, ?_⟩
  exact (congrArg (fun t : State => { t with net := s.net }) (State.kmpSend_frame (s := s.setXfer _) hsess _ _ _) :)

theorem exec_bulkAckTimer_sends (i : Fin 2) (x : Xfer) (s : State) :
    s.net.xfers[i.val]? = some x → x.out = false → x.ready = false → x.session < 8 →
    ∃ t, exec (.bulkAckTimer i) s = .next t ∧ Sent x.session 0x81 0 (leBytes 8 x.next) s t ∧
      { t with net := s.net, out := s.out } = s := by
  intro hx hout hready hsess
  have hgo : ¬ (x.out || x.ready) = true := by simp [hout, hready]
  rw [exec_bulkAckTimer_eq, State.bulkAckTimer, hx]
  dsimp only
  rw [if_neg hgo, State.ackSend]
  refine ⟨_, rfl, State.sent_send hsess _ _ _, ?_⟩
  exact (congrArg (fun t : State => { t with net := s.net }) (State.kmpSend_frame (s := s.setXfer _) hsess _ _ _) :)

theorem exec_bulkResendTimeout_goesBack (i : Fin 2) (x : Xfer) (s : State) :
    s.net.xfers = [x] → i.val = 0 → x.out = true →
    ∃ t, exec (.bulkResendTimeout i) s = .next t ∧ t.net.xfers = [{ x with next := x.acked }] ∧ { t with net := s.net } = s := by
  intro hx hi hout
  have hget : s.net.xfers[i.val]? = some x := by rw [hx, hi]; rfl
  rw [exec_bulkResendTimeout_eq, State.bulkResend, hget]
  dsimp only
  rw [if_pos hout]
  exact ⟨_, rfl, State.setXfer_xfers hx rfl, rfl⟩

theorem exec_bulkAbandonTimeout_ends (i : Fin 2) (x : Xfer) (off : Nat) (s : State) :
    s.net.xfers = [x] → i.val = 0 → x.ready = false →
    x.kind = .cup off → x.session < 8 →
    ∃ t, exec (.bulkAbandonTimeout i) s = .next t ∧ t.net.xfers = [] ∧ Sent x.session x.op 9 (leBytes 8 x.ctr) s t ∧
      { t with net := s.net, out := s.out } = s := by
  intro hx hi hready hkind hsess
  have hget : s.net.xfers[i.val]? = some x := by rw [hx, hi]; rfl
  have hnot : ¬ x.ready = true := by simp [hready]
  rw [exec_bulkAbandonTimeout_eq, State.bulkAbandon, hget]
  dsimp only
  rw [if_neg hnot, State.xferDrop_cup hx hready hkind, State.kmpReply]
  refine ⟨_, rfl, State.kmpSend_xfers hsess _ _ _, ?_, ?_⟩
  · have hsent := State.sent_send (s := s.withNet { s.net with xfers := [] }) hsess x.op 9 (leBytes 8 x.ctr ++ [])
    rw [List.append_nil] at hsent ⊢
    exact hsent
  · exact (congrArg (fun t : State => { t with net := s.net }) (State.kmpSend_frame hsess _ _ _) :)

theorem exec_bulk_none (i : Fin 2) (s : State) :
    s.net.xfers[i.val]? = none → exec (.bulkDataSend i) s = .next s ∧
    exec (.bulkAckTimer i) s = .next s ∧ exec (.bulkResendTimeout i) s = .next s ∧ exec (.bulkAbandonTimeout i) s = .next s := by
  intro hx
  rw [exec_bulkDataSend_eq, exec_bulkAckTimer_eq, exec_bulkResendTimeout_eq, exec_bulkAbandonTimeout_eq]
  simp only [State.bulkSend, State.bulkAckTimer, State.bulkResend, State.bulkAbandon, hx]
  exact ⟨trivial, trivial, trivial, trivial⟩

/-- Settles O25: the data of a transfer, its acknowledgements, and its timers. -/
theorem kmpBulk : Obligations.KmpBulk :=
  ⟨exec_kmpData_stores, exec_kmpAck_moves, exec_kmpAck_ends, exec_bulkDataSend_sends, exec_bulkAckTimer_sends,
    exec_bulkResendTimeout_goesBack, exec_bulkAbandonTimeout_ends, exec_bulk_none⟩

end Sys2Proof.Machine
end

section
/-! PROOFS. The Ethernet switch and the links of its ports (R115 to R118). -/

namespace Sys2Proof.Machine

open Reg

namespace State

section Frames
variable {s : State} {f : List Byte} {e : Nat}

/-- The switch learns into its table alone (R115). -/
theorem macLearn_table (s : State) (mac port : Nat) :
    ∃ n, s.macLearn mac port = s.withNet n ∧ n.leds = s.net.leds := by
  unfold macLearn
  split
  · exact ⟨s.net, rfl, rfl⟩
  · split
    · exact ⟨_, rfl, rfl⟩
    · exact ⟨s.net, rfl, rfl⟩

/-- The first source address that the switch learns (R115). -/
theorem macLearn_first {mac : Nat} (h : s.net.macs = []) (hone : mac / 2 ^ 40 % 2 = 0) (port : Nat) :
    ∃ n, s.macLearn mac port = s.withNet n ∧ n.leds = s.net.leds ∧ n.macs = [(mac, port)] := by
  have hmany : ¬ mac / 2 ^ 40 % 2 = 1 := by omega
  have hroom : (s.net.macs.any (fun p => p.1 = mac) || decide (s.net.macs.length < 1024)) = true := by rw [h]; rfl
  rw [macLearn, if_neg hmany, if_pos hroom, h]
  exact ⟨_, rfl, rfl, rfl⟩

/-- Only a PTP datagram is remembered for its later fragments. -/
theorem noteFrag_plain (h : s.framePtp f = false) (t : State) : t.noteFrag f = t := by
  simp only [framePtp, Bool.or_eq_false_iff] at h
  obtain ⟨-, hip⟩ := h
  unfold noteFrag
  cases hf : frameIp f with
  | udp p n =>
    simp only [hf, Bool.or_eq_false_iff, decide_eq_false_iff_not] at hip
    exact if_neg (not_or.mpr hip)
  | later n => rfl
  | other => rfl

theorem noteFrag_rest (t : State) (f : List Byte) : ∃ l, t.noteFrag f = t.withNet { t.net with ptpFrags := l } := by
  unfold noteFrag
  split
  · split
    · exact ⟨_, rfl⟩
    · exact ⟨t.net.ptpFrags, rfl⟩
  · exact ⟨t.net.ptpFrags, rfl⟩

theorem stormCount_out (t : State) (e : Nat) : (t.stormCount e).out = t.out := by
  unfold stormCount
  dsimp only
  split <;> rfl

theorem stormOf_setStorm (s : State) (e : Nat) (x : Nat × Nat) : (s.setStorm e x).stormOf e = x :=
  tget_tset_same (fun _ => (0, 0)) s.net.storm e x

/-- A port whose LED bursts keeps it as it is (R118). -/
theorem ledBurst_lit (h : s.net.leds.any (fun p => p.1 = e) = true) : s.ledBurst e = s := by
  rw [ledBurst, if_pos (by rw [h, Bool.or_true])]

theorem ledBurst_dark (hl : s.link e = true) (h : s.net.leds.any (fun p => p.1 = e) = false) :
    ∃ n d, s.ledBurst e = (s.withNet n).ledPin e true ∧ n.leds = (e, d) :: s.net.leds :=
  ⟨{ s.net with leds := (e, s.tim.mono + 50000) :: s.net.leds }, s.tim.mono + 50000,
    if_neg (by rw [hl, h]; decide), rfl⟩

theorem ledBurst_out (s : State) (e : Nat) :
    (s.ledBurst e).out = s.out ∨ (s.ledBurst e).out = .pin (if e = 0 then "nE0_LED" else "nE1_LED") true :: s.out := by
  unfold ledBurst
  split
  · exact .inl rfl
  · exact .inr rfl

/-- The frame of a station that is sent on to the other port, the switch's table empty (R115, R116). -/
theorem frameIn_onward (hup : s.mpUp = true) (h14 : 14 ≤ f.length) (h1522 : f.length ≤ 1522) (hlink : s.link e = true)
    (hone : frameNat f 0 6 / 2 ^ 40 % 2 = 0) (hptp : s.framePtp f = false) (hown : frameNat f 0 6 ≠ s.nv.mac)
    (hmacs : s.net.macs = []) :
    s.frameIn (e + 1) f = ((s.macLearn (frameNat f 6 6) (e + 1)).ledBurst e).frameOut (1 - e) f := by
  have hgate : ¬ (!s.mpUp || decide (f.length < 14) || decide (1522 < f.length) ||
      (decide (e + 1 ≠ 0) && !s.link (e + 1 - 1))) = true := by
    simp only [hup, Nat.add_sub_cancel, hlink, Bool.not_true, Bool.and_false, Bool.or_false, Bool.false_or,
      Bool.or_eq_true, decide_eq_true_eq]
    omega
  have hmany : decide (frameNat f 0 6 / 2 ^ 40 % 2 = 1) = false := decide_eq_false (by omega)
  have hgoal : (s.net.macs.find? (fun p => p.1 = frameNat f 0 6)).map (fun p => p.2) = none := by rw [hmacs]; rfl
  have hstay : ¬ (s.framePtp f || decide (frameNat f 0 6 = s.nv.mac) || decide ((none : Option Nat) = some (e + 1)) ||
      decide ((none : Option Nat) = some 0)) = true := by
    rw [hptp, decide_eq_false hown]
    simp
  rw [frameIn, if_neg hgate]
  dsimp only
  rw [hgoal, if_neg (Nat.succ_ne_zero e), hmany, if_neg hstay, Nat.add_sub_cancel, Bool.false_and, if_neg Bool.false_ne_true,
    noteFrag_plain hptp]

theorem frameOut_lit (h : s.link e = true) (hled : s.net.leds.any (fun p => p.1 = e) = true) :
    s.frameOut e f = s.send (.eth e f) := (if_pos h).trans (ledBurst_lit hled)

theorem frameOut_linked (h : s.link e = true) : s.frameOut e f = (s.send (.eth e f)).ledBurst e := if_pos h

end Frames

/-- The link's detection of an address in use is no register's and no record's. -/
theorem linkProbe_rest (s : State) : s.linkProbe.regs = s.regs ∧ s.linkProbe.log = s.log := by
  unfold linkProbe
  split
  · exact ⟨rfl, rfl⟩
  · split
    · exact ⟨rfl, rfl⟩
    · split
      · exact ⟨rfl, rfl⟩
      · split <;> exact ⟨rfl, rfl⟩

/-- The registers of a port whose link comes up or goes down (R118). -/
def linkShown (s : State) (e : Nat) (up : Bool) (speed : Nat) (full : Bool) : State :=
  ((((s.putB (NET_PORT_STATUS_LINK e) up).put (NET_PORT_STATUS_SPEED e) (if up then speed else 0)).putB
    (NET_PORT_STATUS_FULL_DUPLEX e) (up && full)).putB (if e = 0 then NET_STATUS_E0_LINK else NET_STATUS_E1_LINK)
    up).putB NET_HSPI_IRQ_STATUS_LINK true

/-- The port's LED is set to its level without traffic. -/
def linkPin (s : State) (e : Nat) (high : Bool) : State :=
  (s.withNet { s.net with leds := s.net.leds.filter (fun p => p.1 ≠ e) }).ledPin e high

theorem linkChange_up {s : State} {e speed : Nat} {full : Bool} (hc : s.configured = true)
    (hfits : s.linkFits e speed full = true) (hdown : s.link e = false) :
    s.linkChange e true speed full =
      (((s.linkShown e true speed full).linkPin e false).nev 0x8001 e speed).linkProbe := by
  rw [linkChange, if_neg (by simp [hc, hfits, hdown])]
  dsimp only
  rw [if_pos (rfl : true = true)]
  unfold linkPin linkShown
  rfl

theorem linkChange_down {s : State} {e speed : Nat} {full : Bool} (hc : s.configured = true) (hup : s.link e = true) :
    s.linkChange e false speed full = ((s.linkShown e false speed full).linkPin e true).nev 0x8002 e := by
  rw [linkChange, if_neg (by simp [hc, hup])]
  dsimp only
  rw [if_neg Bool.false_ne_true]
  unfold linkPin linkShown
  rfl

theorem linkPin_rest (s : State) (e : Nat) (high : Bool) :
    (s.linkPin e high).regs = s.regs ∧ (s.linkPin e high).log = s.log ∧ (s.linkPin e high).pwr = s.pwr := ⟨rfl, rfl, rfl⟩

section LinkShown
variable {s : State} {e : Fin 2} {up full : Bool} {speed : Nat}

theorem linkShown_log : (s.linkShown e up speed full).log = s.log ∧ (s.linkShown e up speed full).pwr = s.pwr := ⟨rfl, rfl⟩

theorem linkShown_link : (s.linkShown e up speed full).link e = up := by
  revert e
  rw [Fin.forall_fin_two]
  constructor <;> cases up <;>
    simp [linkShown, link, State.on, get_putB_ne, get_put_ne, get_putB_same, NET_PORT_STATUS_LINK, NET_PORT_STATUS_SPEED,
      NET_PORT_STATUS_FULL_DUPLEX, NET_STATUS_E0_LINK, NET_STATUS_E1_LINK, NET_HSPI_IRQ_STATUS_LINK, NET_PORT_STATUS,
      NET_STATUS, NET_HSPI_IRQ_STATUS]

theorem linkShown_speed (h : speed < 4) :
    (s.linkShown e up speed full).get (NET_PORT_STATUS_SPEED e) = if up then speed else 0 := by
  have hlt : (if up then speed else 0) < 4 := by split <;> omega
  revert e
  rw [Fin.forall_fin_two]
  constructor <;>
    simp [linkShown, get_putB_ne, get_put_same, NET_PORT_STATUS_LINK, NET_PORT_STATUS_SPEED,
      NET_PORT_STATUS_FULL_DUPLEX, NET_STATUS_E0_LINK, NET_STATUS_E1_LINK, NET_HSPI_IRQ_STATUS_LINK, NET_PORT_STATUS,
      NET_STATUS, NET_HSPI_IRQ_STATUS, Nat.mod_eq_of_lt hlt]

theorem linkShown_full : (s.linkShown e up speed full).on (NET_PORT_STATUS_FULL_DUPLEX e) = (up && full) := by
  revert e
  rw [Fin.forall_fin_two]
  constructor <;> cases up <;> cases full <;>
    simp [linkShown, State.on, get_putB_ne, get_putB_same, NET_PORT_STATUS_LINK, NET_PORT_STATUS_SPEED,
      NET_PORT_STATUS_FULL_DUPLEX, NET_STATUS_E0_LINK, NET_STATUS_E1_LINK, NET_HSPI_IRQ_STATUS_LINK, NET_PORT_STATUS,
      NET_STATUS, NET_HSPI_IRQ_STATUS]

theorem linkShown_irq : (s.linkShown e up speed full).get NET_HSPI_IRQ_STATUS_LINK = 1 := by
  exact get_putB_same _ _ _ (by decide)

theorem linkShown_sameRegs : SameRegs [NET_PORT_STATUS e, NET_STATUS, NET_HSPI_IRQ_STATUS] s (s.linkShown e up speed full) := by
  have hstatus : (if e.val = 0 then NET_STATUS_E0_LINK else NET_STATUS_E1_LINK).addr ∈
      [NET_PORT_STATUS e, NET_STATUS, NET_HSPI_IRQ_STATUS] := by
    split <;> exact List.mem_cons_of_mem _ (List.mem_cons_self ..)
  have hport : NET_PORT_STATUS e.val ∈ [NET_PORT_STATUS e, NET_STATUS, NET_HSPI_IRQ_STATUS] := List.mem_cons_self ..
  have hirq : NET_HSPI_IRQ_STATUS ∈ [NET_PORT_STATUS e, NET_STATUS, NET_HSPI_IRQ_STATUS] := by simp
  rw [linkShown]
  exact (sameRegs_putB hirq).mpr ((sameRegs_putB hstatus).mpr ((sameRegs_putB hport).mpr ((sameRegs_put hport).mpr
    ((sameRegs_putB hport).mpr sameRegs_refl))))

end LinkShown

end State

theorem exec_frameForward_eq (p : Fin 3) (f : List Byte) (s : State) :
    exec (.frameForward p f) s = .next (s.frameIn p.val f) := rfl
theorem exec_stormSecondEnd_eq (e : Fin 2) (s : State) : exec (.stormSecondEnd e) s = .next (s.stormSecond e) := rfl
theorem exec_macAgeOut_eq (mac : Nat) (s : State) : exec (.macAgeOut mac) s = .next (s.macAge mac) := rfl
theorem exec_linkChange_eq (e : Fin 2) (up : Bool) (sp : Fin 3) (full : Bool) (s : State) :
    exec (.linkChange e up sp full) s = .next (s.linkChange e up sp full) := rfl

theorem exec_frameForward_forwards (e : Fin 2) (f : List Byte) (s : State) :
    s.mpUp = true → 14 ≤ f.length → f.length ≤ 1522 → s.link e = true →
    s.link (1 - e.val) = true → frameNat f 0 6 / 2 ^ 40 % 2 = 0 → s.framePtp f = false → frameNat f 0 6 ≠ s.nv.mac →
    s.net.macs = [] → frameNat f 6 6 / 2 ^ 40 % 2 = 0 → s.net.leds.any (fun p => p.1 = e.val) = true →
    s.net.leds.any (fun p => p.1 = 1 - e.val) = true →
    ∃ t, exec (.frameForward ⟨e.val + 1, by omega⟩ f) s = .next t ∧ t.out = .eth (1 - e.val) f :: s.out ∧
      t.net.macs = [(frameNat f 6 6, e.val + 1)] ∧ { t with out := s.out, net := s.net } = s := by
  intro hup h14 h1522 hlink hother hone hptp hown hmacs hsrc hled hledOther
  obtain ⟨n, hlearn, hleds, htable⟩ := State.macLearn_first hmacs hsrc (e.val + 1)
  rw [← hleds] at hled hledOther
  rw [exec_frameForward_eq, State.frameIn_onward hup h14 h1522 hlink hone hptp hown hmacs, hlearn,
    State.ledBurst_lit (s := s.withNet n) hled, State.frameOut_lit (s := s.withNet n) hother hledOther]
  exact ⟨_, rfl, rfl, htable, rfl⟩

theorem exec_frameForward_lights (e : Fin 2) (f : List Byte) (s : State) :
    s.mpUp = true → 14 ≤ f.length → f.length ≤ 1522 → s.link e = true →
    s.link (1 - e.val) = true → frameNat f 0 6 / 2 ^ 40 % 2 = 0 → s.framePtp f = false → frameNat f 0 6 ≠ s.nv.mac →
    s.net.macs = [] → s.net.leds = [] →
    ∃ t, exec (.frameForward ⟨e.val + 1, by omega⟩ f) s = .next t ∧
      t.out = .pin (if e.val = 0 then "nE1_LED" else "nE0_LED") true :: .eth (1 - e.val) f ::
        .pin (if e.val = 0 then "nE0_LED" else "nE1_LED") true :: s.out ∧
      { t with out := s.out, net := s.net } = s := by
  intro hup h14 h1522 hlink hother hone hptp hown hmacs hnone
  obtain ⟨n, hlearn, hleds⟩ := s.macLearn_table (frameNat f 6 6) (e.val + 1)
  rw [hnone] at hleds
  have hne : ¬ e.val = 1 - e.val := by omega
  have hpin : (if 1 - e.val = 0 then "nE0_LED" else "nE1_LED") = if e.val = 0 then "nE1_LED" else "nE0_LED" := by
    split <;> split <;> first | rfl | omega
  obtain ⟨m, d, hburst, hlit⟩ := State.ledBurst_dark (s := s.withNet n) hlink (by simp only [State.withNet, hleds, List.any_nil])
  rw [show (s.withNet n).net.leds = [] from hleds] at hlit
  obtain ⟨k, d', hburst', -⟩ := State.ledBurst_dark (s := (((s.withNet n).withNet m).ledPin e true).send (.eth (1 - e.val) f))
    hother (by simp [State.withNet, State.ledPin, State.send, hlit, hne])
  rw [exec_frameForward_eq, State.frameIn_onward hup h14 h1522 hlink hone hptp hown hmacs, hlearn, hburst,
    State.frameOut_linked (s := ((s.withNet n).withNet m).ledPin e true) hother, hburst']
  refine ⟨_, rfl, ?_, ?_⟩
  · rw [← hpin]
    rfl
  · rfl

theorem exec_frameForward_ptp (e : Fin 2) (f : List Byte) (s : State) :
    s.framePtp f = true →
    ∃ t, exec (.frameForward ⟨e.val + 1, by omega⟩ f) s = .next t ∧
      (t.out = s.out ∨ t.out = .pin (if e.val = 0 then "nE0_LED" else "nE1_LED") true :: s.out) := by
  intro hptp
  rw [exec_frameForward_eq, State.frameIn]
  split
  · exact ⟨_, rfl, .inl rfl⟩
  · dsimp only
    rw [if_neg (Nat.succ_ne_zero e.val), hptp, Nat.add_sub_cancel, if_pos (by simp only [Bool.true_or])]
    obtain ⟨n, hlearn, -⟩ := s.macLearn_table (frameNat f 6 6) (e.val + 1)
    rw [hlearn]
    generalize hu : (if (decide (frameNat f 0 6 / 2 ^ 40 % 2 = 1) && !frameTagged f) = true then _ else _ : State) = u
    have hout : u.out = s.out := by
      rw [← hu]
      split
      · rw [State.stormCount_out, State.withNet]
      · rfl
    obtain ⟨k, hfrag⟩ := u.noteFrag_rest f
    refine ⟨_, rfl, ?_⟩
    have hburst := (u.noteFrag f).ledBurst_out e.val
    rw [hfrag] at hburst ⊢
    rw [← hout]
    exact hburst

theorem exec_stormSecondEnd_records (e : Fin 2) (n d : Nat) (s : State) :
    s.stormOf e = (n, d) → d ≠ 0 → Room s portNet →
    ∃ t, exec (.stormSecondEnd e) s = .next t ∧ t.stormOf e = (0, 0) ∧ t.regs = s.regs ∧ Logged portNet 0x800C e d 0 s t := by
  intro h hd hroom
  have hstorm : s.stormSecond e = ((s.setStorm e (0, 0)).nev 0x800C e d) := by
    rw [State.stormSecond, h]
    exact if_neg hd
  have hroom' : Room (s.setStorm e (0, 0)) portNet := hroom.of_log rfl rfl
  rw [exec_stormSecondEnd_eq, hstorm, State.nev, State.ev_of_room hroom']
  exact ⟨_, rfl, State.stormOf_setStorm s e (0, 0), rfl, rfl⟩

theorem exec_stormSecondEnd_quiet (e : Fin 2) (n : Nat) (s : State) :
    s.stormOf e = (n, 0) →
    ∃ t, exec (.stormSecondEnd e) s = .next t ∧ t.stormOf e = (0, 0) ∧ { t with net := s.net } = s := by
  intro h
  have hstorm : s.stormSecond e = s.setStorm e (0, 0) := by
    rw [State.stormSecond, h]
    rfl
  rw [exec_stormSecondEnd_eq, hstorm]
  exact ⟨_, rfl, State.stormOf_setStorm s e (0, 0), rfl⟩

theorem exec_macAgeOut_forgets (mac : Nat) (s : State) :
    ∃ t, exec (.macAgeOut mac) s = .next t ∧ (∀ p ∈ t.net.macs, p.1 ≠ mac) ∧
    (∀ p ∈ s.net.macs, p.1 ≠ mac → p ∈ t.net.macs) ∧ { t with net := s.net } = s := by
  refine ⟨_, exec_macAgeOut_eq mac s, fun p hp => ?_, fun p hp hne => ?_, rfl⟩
  · exact of_decide_eq_true (List.mem_filter.mp hp).2
  · exact List.mem_filter.mpr ⟨hp, decide_eq_true hne⟩

theorem exec_linkChange_up (e : Fin 2) (sp : Fin 3) (full : Bool) (s : State) :
    s.configured = true → s.linkFits e sp full = true →
    s.link e = false → s.on NET_STATUS_IP4_OK = false → Room s portNet →
    ∃ t, exec (.linkChange e true sp full) s = .next t ∧ t.link e = true ∧ t.get (NET_PORT_STATUS_SPEED e) = sp ∧
      t.on (NET_PORT_STATUS_FULL_DUPLEX e) = full ∧ t.get NET_HSPI_IRQ_STATUS_LINK = 1 ∧
      SameRegs [NET_PORT_STATUS e, NET_STATUS, NET_HSPI_IRQ_STATUS] s t ∧ Logged portNet 0x8001 e sp 0 s t := by
  intro hc hfits hdown _ hroom
  have hroom' : Room ((s.linkShown e true sp full).linkPin e false) portNet := hroom.of_log rfl rfl
  rw [exec_linkChange_eq, State.linkChange_up hc hfits hdown, State.nev, State.ev_of_room hroom']
  obtain ⟨hregs, hlog⟩ := (((s.linkShown e true sp full).linkPin e false).wrote portNet
    (State.record 0x8001 e sp 0 false)).linkProbe_rest
  have hregs' := hregs.trans (show _ = (s.linkShown e true sp full).regs from rfl)
  refine ⟨_, rfl, (State.on_congr hregs' _).trans State.linkShown_link,
    (State.get_congr hregs' _).trans (State.linkShown_speed (by omega)),
    (State.on_congr hregs' _).trans State.linkShown_full, (State.get_congr hregs' _).trans State.linkShown_irq,
    (sameRegs_congr hregs').mpr State.linkShown_sameRegs, ?_⟩
  rw [Logged, hlog]
  rfl

theorem exec_linkChange_unfit (e : Fin 2) (sp : Fin 3) (full : Bool) (s : State) :
    s.linkFits e sp full = false →
    exec (.linkChange e true sp full) s = .next s := by
  intro hfits
  rw [exec_linkChange_eq, State.linkChange, if_pos (by rw [hfits]; simp)]

theorem exec_linkChange_down (e : Fin 2) (sp : Fin 3) (full : Bool) (s : State) :
    s.configured = true → s.link e = true → Room s portNet →
    ∃ t, exec (.linkChange e false sp full) s = .next t ∧ t.link e = false ∧ t.get (NET_PORT_STATUS_SPEED e) = 0 ∧
      t.get NET_HSPI_IRQ_STATUS_LINK = 1 ∧ SameRegs [NET_PORT_STATUS e, NET_STATUS, NET_HSPI_IRQ_STATUS] s t ∧
      Logged portNet 0x8002 e 0 0 s t := by
  intro hc hup hroom
  have hroom' : Room ((s.linkShown e false sp full).linkPin e true) portNet := hroom.of_log rfl rfl
  rw [exec_linkChange_eq, State.linkChange_down hc hup, State.nev, State.ev_of_room hroom']
  have hregs : (((s.linkShown e false sp full).linkPin e true).wrote portNet (State.record 0x8002 e 0 0 false)).regs =
    (s.linkShown e false sp full).regs := rfl
  refine ⟨_, rfl, (State.on_congr hregs _).trans State.linkShown_link,
    (State.get_congr hregs _).trans (State.linkShown_speed (by omega)),
    (State.get_congr hregs _).trans State.linkShown_irq, (sameRegs_congr hregs).mpr State.linkShown_sameRegs, rfl⟩

/-- Settles O26: what the switch learns, forwards and counts, and its links. -/
theorem switch : Obligations.Switch :=
  ⟨exec_frameForward_forwards, exec_frameForward_lights, exec_frameForward_ptp, exec_stormSecondEnd_records,
    exec_stormSecondEnd_quiet, exec_macAgeOut_forgets, exec_linkChange_up, exec_linkChange_unfit, exec_linkChange_down⟩

end Sys2Proof.Machine
end

section
/-! PROOFS. The module's IPv4 address (R119, R120), the answers below the services (R121) and the host
watchdog (R149 to R151). -/

namespace Sys2Proof.Machine

open Reg

namespace State

section Address
variable {s : State} {a m g : Word}

/-- The registers of an address in use, or of none. -/
def ip4Shown (s : State) (a m g : Word) (up : Bool) : State :=
  (((s.setReg NET_IP4_ADDR a).setReg NET_IP4_MASK m).setReg NET_IP4_GW g).putB NET_STATUS_IP4_OK up

theorem ip4Shown_regs (up : Bool) :
    (s.ip4Shown a m g up).reg NET_IP4_ADDR = a ∧ (s.ip4Shown a m g up).reg NET_IP4_MASK = m ∧
    (s.ip4Shown a m g up).reg NET_IP4_GW = g ∧ (s.ip4Shown a m g up).get NET_STATUS_IP4_OK = if up then 1 else 0 := by
  refine ⟨?_, ?_, ?_, get_putB_same _ _ _ (by decide)⟩ <;>
    simp [ip4Shown, reg_putB_ne, reg_setReg_ne, reg_setReg_same, NET_IP4_ADDR, NET_IP4_MASK, NET_IP4_GW, NET_STATUS]

theorem ip4Shown_sameRegs (up : Bool) :
    SameRegs [NET_IP4_ADDR, NET_IP4_MASK, NET_IP4_GW, NET_STATUS] s (s.ip4Shown a m g up) := by
  simp [ip4Shown]

/-- What the withdrawal of the address leaves: its registers, and the connections over it (R120). -/
theorem ip4Off_rest (s : State) : ∃ n k, s.ip4Off = ((s.ip4Shown 0 0 0 false).put NET_STATUS_MB_CONNS k).withNet n ∧
    n.probing = s.net.probing :=
  ⟨_, _, rfl, rfl⟩

theorem ip4Off_shown (s : State) : s.ip4Off.reg NET_IP4_ADDR = 0 ∧ s.ip4Off.get NET_STATUS_IP4_OK = 0 ∧
    SameRegs [NET_IP4_ADDR, NET_IP4_MASK, NET_IP4_GW, NET_STATUS] s s.ip4Off := by
  obtain ⟨n, k, hoff, -⟩ := s.ip4Off_rest
  obtain ⟨haddr, -, -, hok⟩ := s.ip4Shown_regs (a := 0) (m := 0) (g := 0) false
  have hregs : s.ip4Off.regs = ((s.ip4Shown 0 0 0 false).put NET_STATUS_MB_CONNS k).regs := by rw [hoff]; rfl
  refine ⟨?_, ?_, (sameRegs_congr hregs).mpr ((sameRegs_put (by simp)).mpr (ip4Shown_sameRegs false))⟩
  · rw [reg_congr hregs, reg_put_ne _ _ _ (by decide), haddr]
  · rw [get_congr hregs, get_put_ne _ NET_STATUS_MB_CONNS NET_STATUS_IP4_OK _ (by decide) (by decide), hok]
    rfl

/-- A static address goes into use. -/
theorem ip4On_static (lease : Nat) : s.ip4On a m g false lease =
    (((s.ip4Shown a m g true).withNet { (s.ip4Shown a m g true).net with leaseEnd := 0 }).put NET_DHCP_STATUS_STATE 0).nev
      0x8003 a.toNat 0 0 := rfl

/-- What a static address in use shows, from the state `u` that shows its registers. -/
theorem ip4On_shown {u : State} (haddr : u.reg NET_IP4_ADDR = a) (hmask : u.reg NET_IP4_MASK = m)
    (hgw : u.reg NET_IP4_GW = g) (hok : u.get NET_STATUS_IP4_OK = if true then 1 else 0) (hp : u.net.probing = false)
    (hsame : SameRegs [NET_IP4_ADDR, NET_IP4_MASK, NET_IP4_GW, NET_STATUS] s u) (hroom : Room u portNet)
    (hlog : u.log = s.log) :
    ∃ t, (Host.Outcome.next (((u.withNet { u.net with leaseEnd := 0 }).put NET_DHCP_STATUS_STATE 0).nev 0x8003 a.toNat 0 0) : Res) =
        .next t ∧ t.reg NET_IP4_ADDR = a ∧ t.reg NET_IP4_MASK = m ∧ t.reg NET_IP4_GW = g ∧ t.get NET_STATUS_IP4_OK = 1 ∧
      t.net.probing = false ∧ SameRegs [NET_IP4_ADDR, NET_IP4_MASK, NET_IP4_GW, NET_STATUS, NET_DHCP_STATUS] s t ∧
      Logged portNet 0x8003 a.toNat 0 0 s t := by
  have hroom' : Room ((u.withNet { u.net with leaseEnd := 0 }).put NET_DHCP_STATUS_STATE 0) portNet := hroom.of_log rfl rfl
  rw [nev, ev_of_room hroom']
  refine ⟨_, rfl, ?_, ?_, ?_, ?_, hp, ?_, ?_⟩
  · exact (u.reg_put_ne NET_DHCP_STATUS_STATE 0 (by decide)).trans haddr
  · exact (u.reg_put_ne NET_DHCP_STATUS_STATE 0 (by decide)).trans hmask
  · exact (u.reg_put_ne NET_DHCP_STATUS_STATE 0 (by decide)).trans hgw
  · exact (u.get_put_ne NET_DHCP_STATUS_STATE NET_STATUS_IP4_OK 0 (by decide) (by decide)).trans hok
  · exact sameRegs_wrote.mpr ((sameRegs_put (t := u.withNet { u.net with leaseEnd := 0 }) (by simp)).mpr
      ((sameRegs_congr rfl).mpr (hsame.mono (by simp))))
  · exact Logged.from_log (logged_wrote _ _ _ _ _ _) hlog

/-- The network as conflict detection ends. -/
def probed (s : State) : State := s.withNet { s.net with probing := false, cand := none }

theorem probeEnd4_gate (hs : s.serves = true) (hp : s.net.probing = true) :
    ¬ (!s.serves || !(s.net.probing || (s.byDhcp && decide (s.get NET_DHCP_STATUS_STATE = 1)))) = true := by
  simp [hs, hp]

theorem probeEnd4_clean (hs : s.serves = true) (hp : s.net.probing = true) (hd : s.byDhcp = false)
    (h4 : s.on NET_STATUS_IP4_OK = false) (l : Nat) :
    ∃ k, s.probeEnd4 a m g l false = s.probed.ip4On s.ownAddr (s.net.stat.getD 1 0) (s.net.stat.getD 2 0) false k := by
  rw [probeEnd4, if_neg (probeEnd4_gate hs hp)]
  dsimp only
  rw [h4, hd]
  exact ⟨_, rfl⟩

theorem probeEnd4_conflict (hs : s.serves = true) (hp : s.net.probing = true) (hd : s.byDhcp = false)
    (h4 : s.on NET_STATUS_IP4_OK = false) (l : Nat) :
    s.probeEnd4 a m g l true = State.nev ((s.probed.ip4Off.put NET_DHCP_STATUS_STATE 3).withNet
      { (s.probed.ip4Off.put NET_DHCP_STATUS_STATE 3).net with cand := none }) 0x8004 s.ownAddr.toNat := by
  rw [probeEnd4, if_neg (probeEnd4_gate hs hp)]
  dsimp only
  rw [h4, hd]
  rfl

/-- The address is tried again, or sought anew, where a conflict is waiting (R120). -/
theorem conflictRetry_waiting (hs : s.serves = true) (h3 : s.get NET_DHCP_STATUS_STATE = 3) :
    s.conflictRetry = match s.net.cand with
      | some x => if x.2.2.2 ≤ s.tim.mono then State.dhcpSeek (s.withNet { s.net with cand := none }) else s.probeStart4 x.1
      | none => if s.byDhcp then s.dhcpSeek else s.probeStart4 s.ownAddr := by
  rw [conflictRetry, if_pos (by rw [hs, h3]; rfl)]
  rfl

theorem linkLocal_begins {low : BitVec 16} (hb : s.isBare = true) (hd : s.byDhcp = true) (h1 : s.get NET_DHCP_STATUS_STATE = 1) :
    s.linkLocal low = State.probeStart4 (s.withNet
      { s.net with ll := true, stat := [0xA9FE0000 ||| low.setWidth 32, 0xFFFF0000, 0] }) (0xA9FE0000 ||| low.setWidth 32) := by
  rw [linkLocal, if_pos (by rw [hb, hd, h1]; rfl)]
  rfl

end Address

section Watchdog
variable {s : State}

theorem writeAt_heartbeat {req : Nat} {v : Word} (h : Writes s req NET_HEARTBEAT v) :
    s.writeAt req NET_HEARTBEAT v = (s.touched NET_HEARTBEAT).heartbeat req :=
  (writeAt_command (r := { base := 0x03003c, wo := 0xffffffff }) h rfl rfl rfl (by decide) (by decide)).trans rfl

/-- The third good heartbeat of a watchdog that has tripped releases it (R151). -/
theorem heartbeat_releases {req b : Nat} (hb : beatSource req = some b) (hc : (s.reg NET_WDOG_CFG).getLsbD (8 + b) = true)
    (ht : s.on NET_WDOG_STATUS_TRIPPED = true) (hsoon : s.beatTooSoon = false) (hcount : s.goodCount = 3) :
    s.heartbeat req = (s.withNet s.beatNet).wdogRelease := by
  rw [heartbeat, hb]
  dsimp only
  rw [if_neg (by rw [hc]; decide), if_neg (by rw [ht, hsoon]; decide), if_pos hcount]
  rfl

/-- The registers of a watchdog that releases the fans. -/
def wdogFree (s : State) : State :=
  (((s.putB NET_WDOG_STATUS_TRIPPED false).put NET_WDOG_STATUS_GOOD_COUNT 0).putB NET_STATUS_WDOG_TRIPPED false).putB
    NET_HSPI_IRQ_STATUS_WDOG true

theorem wdogFree_shown (s : State) : s.wdogFree.get NET_WDOG_STATUS_TRIPPED = 0 ∧
    s.wdogFree.get NET_WDOG_STATUS_GOOD_COUNT = 0 ∧ s.wdogFree.get NET_STATUS_WDOG_TRIPPED = 0 := by
  simp [wdogFree, get_putB_ne, get_putB_same, get_put_ne, get_put_same, NET_WDOG_STATUS_TRIPPED,
    NET_WDOG_STATUS_GOOD_COUNT, NET_STATUS_WDOG_TRIPPED, NET_HSPI_IRQ_STATUS_WDOG, NET_WDOG_STATUS, NET_STATUS,
    NET_HSPI_IRQ_STATUS]

theorem wdogRelease_eq (s : State) : s.wdogRelease =
    (s.wdogFree.nev 0x800B ((s.tim.mono - s.net.tripAt) / 1000000)).withNet { s.net with counted := none } := by
  rfl

/-- The registers of a watchdog that has tripped. -/
def wdogShown (s : State) : State :=
  ((((s.putB NET_WDOG_STATUS_TRIPPED true).put NET_WDOG_STATUS_GOOD_COUNT 0).incSat
    NET_WDOG_STATUS_TRIP_COUNT).putB NET_STATUS_WDOG_TRIPPED true).putB NET_HSPI_IRQ_STATUS_WDOG true

theorem wdogShown_shown (s : State) : s.wdogShown.get NET_WDOG_STATUS_TRIPPED = 1 ∧
    s.wdogShown.get NET_STATUS_WDOG_TRIPPED = 1 ∧
    s.wdogShown.get NET_WDOG_STATUS_TRIP_COUNT = min (s.get NET_WDOG_STATUS_TRIP_COUNT + 1) 255 ∧
    SameRegs [NET_WDOG_STATUS, NET_STATUS, NET_HSPI_IRQ_STATUS] s s.wdogShown := by
  simp [wdogShown, get_putB_ne, get_putB_same, get_put_ne, get_incSat_ne, get_incSat_same, NET_WDOG_STATUS_TRIPPED,
    NET_WDOG_STATUS_GOOD_COUNT, NET_STATUS_WDOG_TRIPPED, NET_HSPI_IRQ_STATUS_WDOG, NET_WDOG_STATUS, NET_STATUS,
    NET_HSPI_IRQ_STATUS, NET_WDOG_STATUS_TRIP_COUNT]
  unfold satTo
  rfl

/-- The watchdog trips when its timer has run out (R150). -/
theorem wdogTrip_due (hl : s.isLoaded = true) (hen : s.on NET_WDOG_CFG_ENABLE = true)
    (ht : s.on NET_WDOG_STATUS_TRIPPED = false)
    (hdue : s.get NET_WDOG_CFG_TIMEOUT_S * 1000000 ≤ s.tim.mono - s.net.beat) :
    ∃ u, u = s.wdogShown.nev 0x800A (s.get NET_WDOG_CFG_TIMEOUT_S) (s.get NET_WDOG_CFG_SOURCES) ∧
      s.wdogTrip = u.withNet { u.net with counted := none, tripAt := s.tim.mono } := by
  have hnot : decide (s.tim.mono - s.net.beat < s.get NET_WDOG_CFG_TIMEOUT_S * 1000000) = false :=
    decide_eq_false (Nat.not_lt.mpr hdue)
  rw [wdogTrip, if_neg (by rw [hl, hen, ht, hnot]; decide)]
  exact ⟨_, rfl, rfl⟩

end Watchdog

end State

theorem exec_addressProbeDone_eq (a m g : Word) (l : Nat) (c : Bool) (s : State) :
    exec (.addressProbeDone a m g l c) s = .next (s.probeEnd4 a m g l c) := rfl
theorem exec_conflictRetry_eq (s : State) : exec .conflictRetry s = .next s.conflictRetry := rfl
theorem exec_dhcpRenew_eq (l : Nat) (s : State) : exec (.dhcpRenew l) s = .next (s.dhcpRenew l) := rfl
theorem exec_dhcpLeaseLost_eq (s : State) : exec .dhcpLeaseLost s = .next s.leaseLost := rfl
theorem exec_linkLocalFallback_eq (low : BitVec 16) (s : State) :
    exec (.linkLocalFallback low) s = .next (s.linkLocal low) := rfl
theorem exec_arpRequest_eq (e : Fin 2) (v6 : Bool) (a : Nat) (s : State) :
    exec (.arpRequest e v6 a) s = .next (s.neighbour e v6 a) := rfl
theorem exec_echoRequest_eq (e : Fin 2) (s : State) : exec (.echoRequest e) s = .next (s.echo e) := rfl
theorem exec_unservedPortSegment_eq (e : Fin 2) (tcp : Bool) (p : Nat) (s : State) :
    exec (.unservedPortSegment e tcp p) s = .next (s.unserved e tcp p) := rfl
theorem exec_heartbeat_eq (req : Nat) (v : Word) (s : State) :
    exec (.heartbeat req v) s = .next (s.writeAt req NET_HEARTBEAT v) := rfl
theorem exec_watchdogTrip_eq (s : State) : exec .watchdogTrip s = .next s.wdogTrip := rfl

theorem exec_addressProbeDone_uses (a m g : Word) (l : Nat) (s : State) :
    s.serves = true → s.net.probing = true → s.byDhcp = false →
    s.on NET_STATUS_IP4_OK = false → Room s portNet →
    ∃ t, exec (.addressProbeDone a m g l false) s = .next t ∧ t.reg NET_IP4_ADDR = s.net.stat.getD 0 0 ∧
      t.reg NET_IP4_MASK = s.net.stat.getD 1 0 ∧ t.reg NET_IP4_GW = s.net.stat.getD 2 0 ∧ t.get NET_STATUS_IP4_OK = 1 ∧
      t.net.probing = false ∧ SameRegs [NET_IP4_ADDR, NET_IP4_MASK, NET_IP4_GW, NET_STATUS, NET_DHCP_STATUS] s t ∧
      Logged portNet 0x8003 (s.net.stat.getD 0 0).toNat 0 0 s t := by
  intro hs hp hd h4 hroom
  obtain ⟨k, hclean⟩ := State.probeEnd4_clean (a := a) (m := m) (g := g) hs hp hd h4 l
  rw [exec_addressProbeDone_eq, hclean, State.ip4On_static]
  obtain ⟨haddr, hmask, hgw, hok⟩ := s.probed.ip4Shown_regs (a := s.ownAddr) (m := s.net.stat.getD 1 0)
    (g := s.net.stat.getD 2 0) true
  have hsame := s.probed.ip4Shown_sameRegs (a := s.ownAddr) (m := s.net.stat.getD 1 0) (g := s.net.stat.getD 2 0) true
  have hprobing : (s.probed.ip4Shown s.ownAddr (s.net.stat.getD 1 0) (s.net.stat.getD 2 0) true).net.probing = false := rfl
  have hroom' : Room (s.probed.ip4Shown s.ownAddr (s.net.stat.getD 1 0) (s.net.stat.getD 2 0) true) portNet :=
    hroom.of_log rfl rfl
  have hlog : (s.probed.ip4Shown s.ownAddr (s.net.stat.getD 1 0) (s.net.stat.getD 2 0) true).log = s.log := rfl
  generalize s.probed.ip4Shown s.ownAddr (s.net.stat.getD 1 0) (s.net.stat.getD 2 0) true = u at *
  exact State.ip4On_shown (s := s) haddr hmask hgw hok hprobing hsame hroom' hlog

theorem exec_addressProbeDone_conflict (a m g : Word) (l : Nat) (s : State) :
    s.serves = true → s.net.probing = true → s.byDhcp = false →
    s.on NET_STATUS_IP4_OK = false → Room s portNet →
    ∃ t, exec (.addressProbeDone a m g l true) s = .next t ∧ t.reg NET_IP4_ADDR = 0 ∧ t.get NET_STATUS_IP4_OK = 0 ∧
      t.get NET_DHCP_STATUS_STATE = 3 ∧ t.net.probing = false ∧ Logged portNet 0x8004 (s.net.stat.getD 0 0).toNat 0 0 s t := by
  intro hs hp hd h4 hroom
  obtain ⟨haddr, hok, -⟩ := s.probed.ip4Off_shown
  obtain ⟨n, k, hoff, hprobing⟩ := s.probed.ip4Off_rest
  have hroom' : Room s.probed.ip4Off portNet := by
    rw [hoff]
    exact hroom.of_log rfl rfl
  have hlog : s.probed.ip4Off.log = s.log := by
    rw [hoff]
    rfl
  have hquiet : s.probed.ip4Off.net.probing = false := by
    rw [hoff]
    exact hprobing
  rw [exec_addressProbeDone_eq, State.probeEnd4_conflict hs hp hd h4]
  generalize s.probed.ip4Off = u at *
  have hroom'' : Room ((u.put NET_DHCP_STATUS_STATE 3).withNet
    { (u.put NET_DHCP_STATUS_STATE 3).net with cand := none }) portNet := hroom'.of_log rfl rfl
  rw [State.nev, State.ev_of_room hroom'']
  refine ⟨_, rfl, ?_, ?_, ?_, hquiet, ?_⟩
  · exact (u.reg_put_ne NET_DHCP_STATUS_STATE 3 (by decide)).trans haddr
  · exact (u.get_put_ne NET_DHCP_STATUS_STATE NET_STATUS_IP4_OK 3 (by decide) (by decide)).trans hok
  · exact u.get_put_same NET_DHCP_STATUS_STATE 3 (by decide)
  · exact Logged.from_log (logged_wrote _ _ _ _ _ _) hlog

theorem exec_conflictRetry_static (s : State) :
    s.serves = true → s.get NET_DHCP_STATUS_STATE = 3 → s.byDhcp = false → s.net.cand = none →
    ∃ t, exec .conflictRetry s = .next t ∧ t.net = { s.net with probing := true } ∧
      t.out = .probe (s.net.stat.getD 0 0) :: s.out ∧ { t with net := s.net, out := s.out } = s := by
  intro hs h3 hd hc
  rw [exec_conflictRetry_eq, State.conflictRetry_waiting hs h3, hc]
  dsimp only
  rw [hd]
  exact ⟨_, rfl, rfl, rfl, rfl⟩

theorem exec_conflictRetry_dhcp (s : State) :
    s.serves = true → s.get NET_DHCP_STATUS_STATE = 3 → s.byDhcp = true → s.net.cand = none →
    ∃ t, exec .conflictRetry s = .next t ∧ t.get NET_DHCP_STATUS_STATE = 1 ∧ t.out = .dhcp false :: s.out ∧
      SameRegs [NET_DHCP_STATUS] s t ∧ { t with regs := s.regs, out := s.out } = s := by
  intro hs h3 hd hc
  rw [exec_conflictRetry_eq, State.conflictRetry_waiting hs h3, hc]
  dsimp only
  rw [hd]
  refine ⟨_, rfl, ?_, rfl, ?_, rfl⟩
  · exact State.get_put_same _ _ _ (by decide)
  · exact sameRegs_send.mpr ((sameRegs_put (by simp)).mpr sameRegs_refl)

theorem exec_conflictRetry_lease (a m g : Word) (l : Nat) (s : State) :
    s.serves = true → s.get NET_DHCP_STATUS_STATE = 3 →
    s.net.cand = some (a, m, g, l) → s.tim.mono < l →
    ∃ t, exec .conflictRetry s = .next t ∧ t.net = { s.net with probing := true } ∧
      t.out = .probe a :: s.out ∧ { t with net := s.net, out := s.out } = s := by
  intro hs h3 hc hl
  rw [exec_conflictRetry_eq, State.conflictRetry_waiting hs h3, hc]
  dsimp only
  rw [if_neg (by omega)]
  exact ⟨_, rfl, rfl, rfl, rfl⟩

theorem exec_dhcpRenew_renews (l : Nat) (s : State) :
    s.serves = true → s.get NET_DHCP_STATUS_STATE = 2 →
    ∃ t, exec (.dhcpRenew l) s = .next t ∧ t.net = { s.net with leaseEnd := s.tim.mono + l * 1000000 } ∧
      t.out = .dhcp true :: s.out ∧ { t with net := s.net, out := s.out } = s := by
  intro hs h2
  rw [exec_dhcpRenew_eq, State.dhcpRenew, if_pos (by rw [hs, h2]; rfl)]
  exact ⟨_, rfl, rfl, rfl, rfl⟩

theorem exec_dhcpLeaseLost_withdraws (s : State) :
    s.serves = true → s.get NET_DHCP_STATUS_STATE = 2 →
    ∃ t, exec .dhcpLeaseLost s = .next t ∧ t.reg NET_IP4_ADDR = 0 ∧ t.get NET_STATUS_IP4_OK = 0 ∧
      t.get NET_DHCP_STATUS_STATE = 1 ∧ t.out = .dhcp false :: s.out ∧
      SameRegs [NET_IP4_ADDR, NET_IP4_MASK, NET_IP4_GW, NET_STATUS, NET_DHCP_STATUS] s t := by
  intro hs h2
  obtain ⟨haddr, hok, hsame⟩ := s.ip4Off_shown
  obtain ⟨n, k, hoff, -⟩ := s.ip4Off_rest
  have hout : s.ip4Off.out = s.out := by
    rw [hoff]
    rfl
  rw [exec_dhcpLeaseLost_eq, State.leaseLost, if_pos (by rw [hs, h2]; rfl), State.dhcpSeek]
  generalize s.ip4Off = u at *
  refine ⟨_, rfl, ?_, ?_, ?_, ?_, ?_⟩
  · exact (u.reg_put_ne NET_DHCP_STATUS_STATE 1 (by decide)).trans haddr
  · exact (u.get_put_ne NET_DHCP_STATUS_STATE NET_STATUS_IP4_OK 1 (by decide) (by decide)).trans hok
  · exact u.get_put_same NET_DHCP_STATUS_STATE 1 (by decide)
  · rw [← hout]
    rfl
  · exact sameRegs_send.mpr ((sameRegs_put (by simp)).mpr (hsame.mono (by simp)))

theorem exec_linkLocalFallback_begins (low : BitVec 16) (s : State) :
    s.isBare = true → s.byDhcp = true → s.get NET_DHCP_STATUS_STATE = 1 →
    ∃ t, exec (.linkLocalFallback low) s = .next t ∧ t.net.ll = true ∧ t.net.probing = true ∧
      t.net.stat = [0xA9FE0000 ||| low.setWidth 32, 0xFFFF0000, 0] ∧
      t.out = .probe (0xA9FE0000 ||| low.setWidth 32) :: s.out ∧ { t with net := s.net, out := s.out } = s := by
  intro hb hd h1
  rw [exec_linkLocalFallback_eq, State.linkLocal_begins hb hd h1]
  exact ⟨_, rfl, rfl, rfl, rfl, rfl, rfl⟩

theorem exec_dhcpRenew_none (l : Nat) (s : State) :
    s.get NET_DHCP_STATUS_STATE ≠ 2 → exec (.dhcpRenew l) s = .next s ∧ exec .dhcpLeaseLost s = .next s := by
  intro h2
  have hnot : ¬ (s.serves && decide (s.get NET_DHCP_STATUS_STATE = 2)) = true := by simp [h2]
  rw [exec_dhcpRenew_eq, exec_dhcpLeaseLost_eq, State.dhcpRenew, State.leaseLost, if_neg hnot, if_neg hnot]
  exact ⟨rfl, rfl⟩

theorem exec_arpRequest_answers (e : Fin 2) (a : Nat) (s : State) :
    s.serves = true → s.on NET_STATUS_IP4_OK = true → a = (s.reg NET_IP4_ADDR).toNat →
    ∃ t, exec (.arpRequest e false a) s = .next t ∧ t.out = .neighbour e a s.nv.mac :: s.out ∧ { t with out := s.out } = s := by
  intro hs h4 ha
  have hholds : s.holdsAddr false a = true := by
    rw [ha]
    simp [State.holdsAddr, h4]
  rw [exec_arpRequest_eq, State.neighbour, if_pos (by rw [hs, hholds]; rfl)]
  exact ⟨_, rfl, rfl, rfl⟩

theorem exec_arpRequest_none (e : Fin 2) (v6 : Bool) (a : Nat) (s : State) :
    s.holdsAddr v6 a = false → exec (.arpRequest e v6 a) s = .next s := by
  intro hholds
  rw [exec_arpRequest_eq, State.neighbour, if_neg (by rw [hholds, Bool.and_false]; decide)]

theorem exec_echoRequest_echoes (e : Fin 2) (s : State) :
    s.serves = true → s.net.echoSec = s.tim.mono / 1000000 → s.net.echoes < 100 →
    ∃ t, exec (.echoRequest e) s = .next t ∧ t.out = .echo e :: s.out ∧ t.net = { s.net with echoes := s.net.echoes + 1 } ∧
      { t with out := s.out, net := s.net } = s := by
  intro hs hsec hn
  have hgo : ¬ (!s.serves || decide (100 ≤ s.net.echoes)) = true := by
    simp only [hs, Bool.not_true, Bool.false_or, decide_eq_true_eq]
    omega
  rw [exec_echoRequest_eq, State.echo]
  dsimp only
  rw [if_pos hsec, if_neg hgo, ← hsec]
  exact ⟨_, rfl, rfl, rfl, rfl⟩

theorem exec_echoRequest_full (e : Fin 2) (s : State) :
    s.net.echoSec = s.tim.mono / 1000000 → 100 ≤ s.net.echoes → exec (.echoRequest e) s = .next s := by
  intro hsec hn
  rw [exec_echoRequest_eq, State.echo]
  dsimp only
  rw [if_pos hsec, if_pos (by simp only [hn, decide_true, Bool.or_true])]

theorem exec_unservedPortSegment_resets (e : Fin 2) (p : Nat) (s : State) :
    s.serves = true → p ≠ 502 →
    ∃ t, exec (.unservedPortSegment e true p) s = .next t ∧ t.out = .rst e p :: s.out ∧ { t with out := s.out } = s := by
  intro hs hp
  rw [exec_unservedPortSegment_eq, State.unserved, if_pos (by simp [hs, hp])]
  exact ⟨_, rfl, rfl, rfl⟩

theorem exec_unservedPortSegment_udp (e : Fin 2) (p : Nat) (s : State) :
    exec (.unservedPortSegment e false p) s = .next s := by
  rw [exec_unservedPortSegment_eq, State.unserved, if_neg (by simp)]

theorem exec_heartbeat_restarts (v : Word) (s : State) :
    Writes s 0x10 NET_HEARTBEAT v → (s.reg NET_WDOG_CFG).getLsbD 10 = true →
    s.on NET_WDOG_STATUS_TRIPPED = false →
    ∃ t, exec (.heartbeat 0x10 v) s = .next t ∧ t.net = { s.net with beat := s.tim.mono } ∧ SameRegs [NET_HEARTBEAT] s t := by
  intro h hc ht
  have hbeat := State.heartbeat_beats (s := s.touched NET_HEARTBEAT) (req := 0x10) (b := 2) rfl
    (by rw [State.reg_touched]; exact hc) (by rw [State.on_touched]; exact ht)
  rw [exec_heartbeat_eq, State.writeAt_heartbeat h, hbeat]
  exact ⟨_, rfl, rfl, (s.sameRegs_self NET_HEARTBEAT).mono (by simp)⟩

theorem exec_heartbeat_releases (v : Word) (s : State) :
    Writes s 0x10 NET_HEARTBEAT v → (s.reg NET_WDOG_CFG).getLsbD 10 = true →
    s.on NET_WDOG_STATUS_TRIPPED = true → s.beatTooSoon = false → s.goodCount = 3 → Room s portNet →
    ∃ t, exec (.heartbeat 0x10 v) s = .next t ∧ t.get NET_WDOG_STATUS_TRIPPED = 0 ∧ t.get NET_WDOG_STATUS_GOOD_COUNT = 0 ∧
      t.get NET_STATUS_WDOG_TRIPPED = 0 ∧ t.net.counted = none ∧
      Logged portNet 0x800B ((s.tim.mono - s.net.tripAt) / 1000000) 0 0 s t := by
  intro h hc ht hsoon hcount hroom
  have hnet : (s.touched NET_HEARTBEAT).net = s.net := rfl
  have hgood : (s.touched NET_HEARTBEAT).goodCount = 3 := by
    rw [← hcount, State.goodCount, State.goodCount, hnet, State.get_touched, State.get_touched]
    rfl
  have hfree := State.heartbeat_releases (s := s.touched NET_HEARTBEAT) (req := 0x10) (b := 2) rfl
    (by rw [State.reg_touched]; exact hc) (by rw [State.on_touched]; exact ht) hsoon hgood
  obtain ⟨htripped, hcount', hstatus⟩ :=
    ((s.touched NET_HEARTBEAT).withNet (s.touched NET_HEARTBEAT).beatNet).wdogFree_shown
  have hroom' : Room ((s.touched NET_HEARTBEAT).withNet (s.touched NET_HEARTBEAT).beatNet).wdogFree portNet :=
    hroom.of_log rfl rfl
  rw [exec_heartbeat_eq, State.writeAt_heartbeat h, hfree, State.wdogRelease_eq, State.nev, State.ev_of_room hroom']
  exact ⟨_, rfl, htripped, hcount', hstatus, rfl, rfl⟩

theorem exec_watchdogTrip_trips (s : State) :
    s.isLoaded = true → s.on NET_WDOG_CFG_ENABLE = true → s.on NET_WDOG_STATUS_TRIPPED = false →
    s.get NET_WDOG_CFG_TIMEOUT_S * 1000000 ≤ s.tim.mono - s.net.beat → Room s portNet →
    ∃ t, exec .watchdogTrip s = .next t ∧ t.get NET_WDOG_STATUS_TRIPPED = 1 ∧ t.get NET_STATUS_WDOG_TRIPPED = 1 ∧
      t.get NET_WDOG_STATUS_TRIP_COUNT = min (s.get NET_WDOG_STATUS_TRIP_COUNT + 1) 255 ∧ t.net.tripAt = s.tim.mono ∧
      SameRegs [NET_WDOG_STATUS, NET_STATUS, NET_HSPI_IRQ_STATUS] s t ∧
      Logged portNet 0x800A (s.get NET_WDOG_CFG_TIMEOUT_S) (s.get NET_WDOG_CFG_SOURCES) 0 s t := by
  intro hl hen ht hdue hroom
  have hroom' : Room s.wdogShown portNet := hroom.of_log rfl rfl
  obtain ⟨u, hu, htrip⟩ := State.wdogTrip_due hl hen ht hdue
  rw [State.nev, State.ev_of_room hroom'] at hu
  rw [exec_watchdogTrip_eq, htrip, hu]
  obtain ⟨htripped, hstatus, hcount, hsame⟩ := s.wdogShown_shown
  exact ⟨_, rfl, htripped, hstatus, hcount, rfl, hsame, rfl⟩

theorem exec_watchdogTrip_off (s : State) :
    s.get NET_WDOG_CFG_ENABLE = 0 → exec .watchdogTrip s = .next s := by
  intro hen
  have hoff : s.on NET_WDOG_CFG_ENABLE = false := by rw [State.on, hen]; rfl
  rw [exec_watchdogTrip_eq, State.wdogTrip, if_pos (by simp [hoff])]

/-- Settles O27: conflict detection, the lease and the link-local address. -/
theorem addresses : Obligations.Addresses :=
  ⟨exec_addressProbeDone_uses, exec_addressProbeDone_conflict, exec_conflictRetry_static, exec_conflictRetry_dhcp,
    exec_conflictRetry_lease, exec_dhcpRenew_renews, exec_dhcpLeaseLost_withdraws, exec_linkLocalFallback_begins,
    exec_dhcpRenew_none⟩

/-- Settles O28: the answers below the services, and the watchdog's heartbeats, trip and release. -/
theorem answersAndWatchdog : Obligations.AnswersAndWatchdog :=
  ⟨exec_arpRequest_answers, exec_arpRequest_none, exec_echoRequest_echoes, exec_echoRequest_full,
    exec_unservedPortSegment_resets, exec_unservedPortSegment_udp, exec_heartbeat_restarts, exec_heartbeat_releases,
    exec_watchdogTrip_trips, exec_watchdogTrip_off⟩

end Sys2Proof.Machine
end

section
/-! PROOFS. The Modbus server's checks and its connections (R135, R140), and the polls of the Modbus client (R141
to R143). -/

namespace Sys2Proof.Machine

open Reg

/-! ### An answer without a connection (R135) -/

/-- A running module whose Modbus server waits for a value of a connection that is no longer open. -/
def goneState : State := { running with
  net := { running.net with mbBusy := true }
  fab := { running.fab with
    replies := [{ requester := 0x20, addr := 0, txn := 3, idx := 0, value := 7 }]
    txns := [{ id := 3, requester := 0x20, kind := .modbus 1 [] 3, need := 1, shape := [(0, true), (0, false)] }] } }

theorem goneState_waits : goneState.serves = true ∧ goneState.net.mbQueue = [] ∧ goneState.net.mbBusy = true := by
  decide +kernel

theorem goneState_silent : goneState.readReply.out = [] := by decide +kernel

/-- Refutes O29: the answer to a read whose connection has closed in the meantime is sent to no one (R135). -/
theorem not_modbusRequests : ¬ Obligations.ModbusRequests := by
  rintro ⟨-, -, -, hreply, -⟩
  obtain ⟨hserves, hqueue, hbusy⟩ := goneState_waits
  obtain ⟨t, ht, -, -, -, hout, -⟩ := hreply 1 3 3 7 [] goneState hserves hqueue hbusy rfl rfl
  have hnext : exec .readReply goneState = .next goneState.readReply := rfl
  cases hnext.symm.trans ht
  exact absurd (goneState_silent.symm.trans hout) (List.cons_ne_nil _ _).symm

namespace State

section Requests
variable {s : State} {conn fc own : Nat} {adu : List Byte}

theorem slice_drop (i j n : Nat) (l : List Byte) : slice i n (l.drop j) = slice (j + i) n l := by
  rw [slice, slice, List.drop_drop]

theorem slice_take {i n k : Nat} (l : List Byte) (h : i + n ≤ k) : slice i n (l.take k) = slice i n l := by
  rw [slice, slice, List.drop_take, List.take_take, Nat.min_eq_left (by omega)]

theorem length_beBytes (k n : Nat) : (beBytes k n).length = k := by
  rw [beBytes, List.length_reverse, length_leBytes]

theorem ofBe_beBytes (k : Nat) {n : Nat} (h : n < 256 ^ k) : ofBe (beBytes k n) = n := by
  rw [ofBe, beBytes, List.reverse_reverse, ofLe_leBytes k h]

/-- A request of an idle server is executed as it comes (R135). -/
theorem mbRequest_served (h : MbAsks s conn fc adu) (hf : fc = own ∨ fc ∉ mbCodes) :
    s.mbRequest own conn adu = mbPump 3 (s.mbServe conn adu) := by
  obtain ⟨hopen, hconn, h8, hfc, hprot, hlen, hbusy, hqueue, htxns⟩ := h
  have hskip : ¬ ((ofBe (slice 7 1 adu) ≠ own ∧ ofBe (slice 7 1 adu) ∈ mbCodes) ∨ adu.length < 8 ∨
      ofBe (slice 2 2 adu) ≠ 0 ∨ ofBe (slice 4 2 adu) + 6 ≠ adu.length) := by
    rw [hfc]
    rintro (⟨hne, hmem⟩ | hshort | hprot' | hlen')
    · exact hf.elim hne (fun hnot => hnot hmem)
    · omega
    · exact hprot' hprot
    · exact hlen' hlen
  have hserves : s.serves = true := by
    simp only [mbOpen, Bool.and_eq_true] at hopen
    exact hopen.1.2
  have hsettle : (s.withNet { s.net with mbQueue := s.net.mbQueue ++ [(conn, adu)] }).readsSettle =
      mbPump 4 (s.withNet { s.net with mbQueue := [(conn, adu)] }) := by
    rw [readsSettle, hqueue]
    have hnone : (s.withNet { s.net with mbQueue := [] ++ [(conn, adu)] }).fab.txns.filter Txn.done = [] := by
      rw [show (s.withNet { s.net with mbQueue := [] ++ [(conn, adu)] }).fab.txns = [] from htxns]
      rfl
    rw [hnone]
    exact if_pos hserves
  have hself : s.withNet { s.net with mbQueue := [] } = s := by
    rw [← hqueue]
    rfl
  rw [mbRequest]
  dsimp only
  rw [if_neg hskip, if_neg (by rw [hopen, hconn]; decide)]
  refine hsettle.trans ?_
  rw [mbPump]
  have hfind : (s.withNet { s.net with mbQueue := [(conn, adu)] }).fab.txns.find? Txn.mbDone = none := by
    rw [show (s.withNet { s.net with mbQueue := [(conn, adu)] }).fab.txns = [] from htxns]
    rfl
  rw [hfind]
  dsimp only
  rw [if_neg (show ¬ (s.withNet { s.net with mbQueue := [(conn, adu)] }).net.mbBusy = true by
    simp [withNet, hbusy])]
  exact congrArg (fun t => mbPump 3 (State.mbServe t conn adu)) hself

theorem mbSend_open (hc : s.net.conns.contains conn = true) (pdu : List Byte) :
    s.mbSend conn (adu.take 7) pdu =
      s.send (.modbus conn (adu.take 4 ++ beBytes 2 (pdu.length + 1) ++ slice 6 1 adu ++ pdu)) := by
  rw [mbSend, if_neg (by rw [hc]; decide), List.take_take, slice_take adu (by decide)]
  rfl

/-- A request and an exception are counted (R140). -/
def mbCounted (s : State) : State := (s.inc NET_MB_STATS_REQUESTS).inc NET_MB_STATS_EXCEPTIONS

theorem mbCounted_shown (s : State) :
    s.mbCounted.get NET_MB_STATS_REQUESTS = (s.get NET_MB_STATS_REQUESTS + 1) % 65536 ∧
    s.mbCounted.get NET_MB_STATS_EXCEPTIONS = (s.get NET_MB_STATS_EXCEPTIONS + 1) % 65536 ∧
    SameRegs [NET_MB_STATS] s s.mbCounted := by
  simp [mbCounted, get_inc_same, get_inc_ne]

/-- A request answered with an exception. -/
def mbRefused (s : State) (conn : Nat) (adu : List Byte) (c : Byte) : State :=
  ((s.inc NET_MB_STATS_REQUESTS).inc NET_MB_STATS_EXCEPTIONS).mbSend conn (adu.take 7)
    [BitVec.ofNat 8 (ofBe (slice 7 1 adu) + 0x80), c]

/-- A refused request's exception, all that is done of it. -/
theorem mbRequest_refused {c : Byte} (h : MbAsks s conn fc adu) (hf : fc = own ∨ fc ∉ mbCodes)
    (hserve : s.mbServe conn adu = s.mbRefused conn adu c) :
    ∃ t, (.next (s.mbRequest own conn adu) : Res) = .next t ∧ MbReply conn adu [BitVec.ofNat 8 (fc + 0x80), c] s t ∧
      t.get NET_MB_STATS_EXCEPTIONS = (s.get NET_MB_STATS_EXCEPTIONS + 1) % 65536 ∧ SameRegs [NET_MB_STATS] s t ∧
      { t with regs := s.regs, out := s.out } = s := by
  obtain ⟨hopen, hconn, h8, hfc, hprot, hlen, hbusy, hqueue, htxns⟩ := id h
  have hrefused : s.mbRefused conn adu c = s.mbCounted.send (.modbus conn (adu.take 4 ++
      beBytes 2 ([BitVec.ofNat 8 (fc + 0x80), c].length + 1) ++ slice 6 1 adu ++ [BitVec.ofNat 8 (fc + 0x80), c])) := by
    rw [mbRefused, hfc]
    exact mbSend_open (s := s.mbCounted) hconn _
  obtain ⟨hrequests, hexceptions, hsame⟩ := s.mbCounted_shown
  rw [mbRequest_served h hf, hserve, hrefused, mbPump_idle (by exact htxns) (by exact hqueue)]
  refine ⟨_, rfl, ⟨rfl, ?_⟩, ?_, sameRegs_send.mpr hsame, rfl⟩
  · exact (get_congr rfl _).trans hrequests
  · exact (get_congr rfl _).trans hexceptions

/-- Writes to a range that begins at no entry are none (R138). -/
theorem mbWrites_unmapped {map : List Config.MbEntry} {a : Nat} (ha : a ≠ 0xF000) (hnone : mbEntry map true a = none)
    (x : Nat) (l : List Nat) : mbWrites map a (x :: l) = none := by
  delta mbWrites mbWrites._f
  dsimp only [List.brecOn]
  rw [if_neg ha, hnone]

end Requests

section Clients
variable {s : State} {m : Nat}

theorem client_setClient (c : Client) : (s.setClient m c).client m = c :=
  tget_tset_same (fun _ => ({} : Client)) s.net.clients m c

/-- A transaction of a poll that carries an output goes out (R143). -/
theorem pollNext_sends {pdu : List Byte} {q : Nat × F32} {rest : List (List Byte × Option (Nat × F32))}
    (h : (s.client m).todo = (pdu, some q) :: rest) :
    ∃ e, s.pollNext m = { (s.setClient m { s.client m with todo := rest, waiting := true, cur := pdu }).send
      (.client m (BitVec.ofNat 8 (s.get (NET_CLIENT_CFG_UNIT_ID m)) :: pdu)) with est := e } := by
  rw [pollNext]
  dsimp only
  rw [h]
  exact ⟨_, rfl⟩

/-- A poll without a failed transaction ends, and brings its server UP (R143). -/
theorem pollNext_up (ht : (s.client m).todo = []) (hf : (s.client m).failed = false)
    (hup : s.on (NET_CLIENT_STATUS_UP m) = false) :
    s.pollNext m = ((s.setClient m { s.client m with polling := false, run := 0, down := false }).putB
      (NET_CLIENT_STATUS_UP m) true).nev 0x8009 m := by
  rw [pollNext]
  dsimp only
  rw [ht]
  dsimp only
  rw [hf, hup]
  rfl

/-- The first poll running with a failed transaction ends. -/
theorem pollNext_failed (ht : (s.client m).todo = []) (hf : (s.client m).failed = true) (hr : (s.client m).run = 0) :
    s.pollNext m = s.setClient m { s.client m with polling := false, run := 1 } := by
  rw [pollNext]
  dsimp only
  rw [ht]
  dsimp only
  rw [if_pos hf, pollLost, hr, ht]
  rfl

theorem pollDue_none (h : (s.client m).due = false) : s.pollDue m = s := by
  rw [pollDue, if_neg (by rw [h, Bool.false_and]; decide)]

/-- A list's only member that a function takes. -/
theorem filterMap_range_single {α : Type} {f : Nat → Option α} {n k : Nat} {p : α} (hn : n < k) (hp : f n = some p)
    (hne : ∀ i, i ≠ n → f i = none) : (List.range k).filterMap f = [p] := by
  induction k with
  | zero => omega
  | succ k ih =>
    rw [List.range_succ, List.filterMap_append]
    by_cases hk : n = k
    · subst hk
      have hnil : (List.range n).filterMap f = [] := by
        rw [List.filterMap_eq_nil_iff]
        intro i hi
        exact hne i (by rw [List.mem_range] at hi; omega)
      rw [hnil]
      simp [hp]
    · rw [ih (by omega)]
      simp [hne k (Ne.symm hk)]

/-- The only output of a server that is sent, as one binary32 value (R142). -/
theorem pollList_single {n : Nat} {v : F32} (hn : n < 16) (hout : s.est.netout = [(n, v)])
    (hen : s.on (NET_NETOUT_ENABLE n) = true) (hserver : s.get (NET_NETOUT_SERVER n) = m)
    (hformat : s.get (NET_NETOUT_FORMAT n) = 3) (hnan : fIsNaN v = false) :
    ∃ rest, s.pollList m = (0x10 :: (beBytes 2 (s.get (NET_NETOUT_REG n)) ++ [0, 2, 4] ++
      beBytes 4 (fmul v (fofNat (10 ^ s.get (NET_NETOUT_DECIMAL n)))).toNat), some (n, v)) :: rest := by
  have houts := filterMap_range_single (f := fun n' => match s.est.netout.find? (fun p => p.1 = n') with
    | none => none
    | some p =>
      if !s.on (NET_NETOUT_ENABLE n') || decide (s.get (NET_NETOUT_SERVER n') ≠ m) || fIsNaN p.2 then none
      else
        let d := netRegs (s.get (NET_NETOUT_FORMAT n')) (s.get (NET_NETOUT_DECIMAL n')) p.2
        let pdu := [0x10] ++ beBytes 2 (s.get (NET_NETOUT_REG n')) ++ beBytes 2 (d.length / 2) ++
          [BitVec.ofNat 8 d.length] ++ d
        some (pdu, some (n', p.2))) (p := (0x10 :: (beBytes 2 (s.get (NET_NETOUT_REG n)) ++ [0, 2, 4] ++
      beBytes 4 (fmul v (fofNat (10 ^ s.get (NET_NETOUT_DECIMAL n)))).toNat), some (n, v))) hn (by
        have hregs : netRegs 3 (s.get (NET_NETOUT_DECIMAL n)) v =
          beBytes 4 (fmul v (fofNat (10 ^ s.get (NET_NETOUT_DECIMAL n)))).toNat := rfl
        have hsize : beBytes 2 2 ++ [BitVec.ofNat 8 4] = ([0, 2, 4] : List Byte) := by decide
        simp only [hout, List.find?_cons, decide_true, hen, hserver, hnan, hformat, hregs, length_beBytes, ← hsize]
        simp) (by
        intro i hi
        simp [hout, Ne.symm hi])
  exact ⟨_, (congrArg (fun l => l ++ _) houts :)⟩

/-- A server's connection is lost: it is DOWN (R143). -/
def clientShownDown (s : State) (m : Nat) : State :=
  (s.putB (NET_CLIENT_STATUS_UP m) false).putB (NET_CLIENT_STATUS_CONNECTED m) false

theorem clientShownDown_shown (s : State) (m : Nat) : (s.clientShownDown m).get (NET_CLIENT_STATUS_UP m) = 0 ∧
    (s.clientShownDown m).get (NET_CLIENT_STATUS_CONNECTED m) = 0 ∧
    SameRegs [NET_CLIENT_STATUS m] s (s.clientShownDown m) := by
  simp [clientShownDown, get_putB_ne, get_putB_same]

theorem clientDown_first (hd : (s.client m).down = false) (hc : s.on (NET_CLIENT_STATUS_CONNECTED m) = true) :
    s.clientDown m = (((s.nev 0x8008 m (s.get (NET_CLIENT_STATUS_LAST_EXC m))
      (s.get (NET_CLIENT_STATUS_FAIL_COUNT m))).clientShownDown m).send (.tcp true m false)).setClient m
      { (s.client m).halt with down := true, run := 0, retry := 1 } := by
  have hnot : ¬ (s.client m).down = true := by simp [hd]
  unfold clientDown
  dsimp only
  rw [if_pos hc, if_neg hnot]
  rfl

end Clients

theorem setConns_shown {s : State} {l : List Nat} (h : l.length < 16) : (s.setConns l).get NET_STATUS_MB_CONNS = l.length := by
  rw [setConns, get_put_same _ _ _ (by decide)]
  exact Nat.mod_eq_of_lt h

theorem setConns_sameRegs {s : State} (l : List Nat) : SameRegs [NET_STATUS] s (s.setConns l) :=
  (sameRegs_put (by simp)).mpr ((sameRegs_congr rfl).mpr sameRegs_refl)

end State

theorem exec_modbusReadHolding_eq (conn : Nat) (adu : List Byte) (s : State) :
    exec (.modbusReadHolding conn adu) s = .next (s.mbRequest 3 conn adu) := rfl
theorem exec_modbusReadInput_eq (conn : Nat) (adu : List Byte) (s : State) :
    exec (.modbusReadInput conn adu) s = .next (s.mbRequest 4 conn adu) := rfl
theorem exec_modbusWriteMultiple_eq (conn : Nat) (adu : List Byte) (s : State) :
    exec (.modbusWriteMultiple conn adu) s = .next (s.mbRequest 16 conn adu) := rfl
theorem exec_modbusConnect_eq (conn src : Nat) (s : State) :
    exec (.modbusConnect conn src) s = .next (s.mbConnect conn src) := rfl
theorem exec_modbusIdleClose_eq (conn : Nat) (s : State) : exec (.modbusIdleClose conn) s = .next (s.mbIdle conn) := rfl
theorem exec_clientPoll_eq (m : Fin 16) (s : State) : exec (.clientPoll m) s = .next (s.clientPoll m.val) := rfl
theorem exec_clientReconnect_eq (m : Fin 16) (ok : Bool) (s : State) :
    exec (.clientReconnect m ok) s = .next (s.clientConnect m.val ok) := rfl
theorem exec_clientResponse_eq (m : Fin 16) (pdu : List Byte) (s : State) :
    exec (.clientResponse m pdu) s = .next (s.clientResponse m.val pdu) := rfl
theorem exec_clientTransactionTimeout_eq (m : Fin 16) (s : State) :
    exec (.clientTransactionTimeout m) s = .next (s.clientTimeout m.val) := rfl
theorem exec_clientConnectionLost_eq (m : Fin 16) (s : State) :
    exec (.clientConnectionLost m) s = .next (s.clientLost m.val) := rfl

theorem exec_modbusReadHolding_unknown (conn fc : Nat) (adu : List Byte) (s : State) :
    MbAsks s conn fc adu → fc ∉ mbCodes → fc < 128 →
    ∃ t, exec (.modbusReadHolding conn adu) s = .next t ∧ MbReply conn adu [BitVec.ofNat 8 (fc + 0x80), 1] s t ∧
      t.get NET_MB_STATS_EXCEPTIONS = (s.get NET_MB_STATS_EXCEPTIONS + 1) % 65536 ∧ SameRegs [NET_MB_STATS] s t ∧
      { t with regs := s.regs, out := s.out } = s := by
  intro h hunknown hlt
  obtain ⟨-, -, -, hfc, -⟩ := id h
  simp only [mbCodes, List.mem_cons, List.not_mem_nil, or_false, not_or] at hunknown
  obtain ⟨h3, h4, h6, h16, h23⟩ := hunknown
  have hcode : ofBe (slice 0 1 (adu.drop 7)) = ofBe (slice 7 1 adu) := by rw [State.slice_drop]
  rw [exec_modbusReadHolding_eq]
  refine State.mbRequest_refused h (.inr (by simp [mbCodes, *])) ?_
  rw [State.mbServe]
  dsimp only
  rw [hcode, hfc, if_neg (by omega), if_neg h6, if_neg h16, if_neg h23, State.mbRefused, hfc]

theorem exec_modbusWriteMultiple_unmapped (conn a v w : Nat) (adu : List Byte) (s : State) :
    MbAsks s conn 16 adu →
    adu.drop 8 = beBytes 2 a ++ [0, 2, 4] ++ beBytes 2 v ++ beBytes 2 w → a < 0xF000 → mbEntry s.net.map true a = none →
    ∃ t, exec (.modbusWriteMultiple conn adu) s = .next t ∧ MbReply conn adu [0x90, 2] s t ∧
      t.get NET_MB_STATS_EXCEPTIONS = (s.get NET_MB_STATS_EXCEPTIONS + 1) % 65536 ∧ SameRegs [NET_MB_STATS] s t ∧
      { t with regs := s.regs, out := s.out } = s := by
  intro h hbody ha hnone
  obtain ⟨-, -, h8, hfc, -⟩ := id h
  have hcode : ofBe (slice 0 1 (adu.drop 7)) = 16 := by rw [State.slice_drop, hfc]
  have haddr : ofBe (slice 1 2 (adu.drop 7)) = a := by
    rw [State.slice_drop, show slice (7 + 1) 2 adu = slice 0 2 (adu.drop 8) by rw [State.slice_drop], hbody,
      List.append_assoc, List.append_assoc, slice_append_left (State.length_beBytes 2 a), State.ofBe_beBytes 2 (by omega)]
  have hlen : (adu.drop 7).length = 10 := by
    have hdrop := congrArg List.length hbody
    simp only [List.length_drop, List.length_append, State.length_beBytes, List.length_cons, List.length_nil] at hdrop ⊢
    omega
  have htail : (adu.drop 8).drop 2 = [0, 2, 4] ++ beBytes 2 v ++ beBytes 2 w := by
    rw [hbody, List.append_assoc, List.append_assoc, List.drop_left' (State.length_beBytes 2 a), List.append_assoc]
  have hcount : ofBe (slice 3 2 (adu.drop 7)) = 2 := by
    rw [State.slice_drop, show slice (7 + 3) 2 adu = slice 0 2 ((adu.drop 8).drop 2) by
      rw [State.slice_drop, State.slice_drop], htail]
    rfl
  have hbytes : ofBe (slice 5 1 (adu.drop 7)) = 4 := by
    rw [State.slice_drop, show slice (7 + 5) 1 adu = slice 2 1 ((adu.drop 8).drop 2) by
      rw [State.slice_drop, State.slice_drop], htail]
    rfl
  have hvals : ∃ x l, mbVals ((adu.drop 7).drop 6) = x :: l := by
    have hdata : (adu.drop 7).drop 6 = beBytes 2 v ++ beBytes 2 w := by
      rw [show (adu.drop 7).drop 6 = ((adu.drop 8).drop 2).drop 3 by simp only [List.drop_drop], htail,
        List.append_assoc]
      rfl
    rw [hdata]
    exact ⟨_, _, rfl⟩
  obtain ⟨x, l, hvals⟩ := hvals
  have hwrites : mbWrites s.net.map a (x :: l) = none := State.mbWrites_unmapped (by omega) hnone x l
  rw [exec_modbusWriteMultiple_eq]
  refine State.mbRequest_refused (c := 2) h (.inl rfl) ?_
  rw [State.mbServe]
  dsimp only
  rw [hcode, haddr, hlen, hcount, hbytes, hvals, hwrites, if_neg (by decide), if_neg (by decide), if_pos rfl,
    if_neg (by decide), State.mbRefused, hfc]

theorem exec_modbusReadInput_empty (conn a : Nat) (adu : List Byte) (s : State) :
    MbAsks s conn 4 adu → adu.drop 8 = beBytes 2 a ++ [0, 0] →
    ∃ t, exec (.modbusReadInput conn adu) s = .next t ∧ MbReply conn adu [0x84, 3] s t ∧
      t.get NET_MB_STATS_EXCEPTIONS = (s.get NET_MB_STATS_EXCEPTIONS + 1) % 65536 ∧ SameRegs [NET_MB_STATS] s t ∧
      { t with regs := s.regs, out := s.out } = s := by
  intro h hbody
  obtain ⟨-, -, h8, hfc, -⟩ := id h
  have hcode : ofBe (slice 0 1 (adu.drop 7)) = 4 := by rw [State.slice_drop, hfc]
  have hcount : ofBe (slice 3 2 (adu.drop 7)) = 0 := by
    have hzero : slice 2 2 (beBytes 2 a ++ [0, 0]) = [0, 0] := slice_append_right (State.length_beBytes 2 a) rfl
    rw [State.slice_drop, show slice (7 + 3) 2 adu = slice 2 2 (adu.drop 8) by rw [State.slice_drop], hbody, hzero]
    rfl
  rw [exec_modbusReadInput_eq]
  refine State.mbRequest_refused (c := 3) h (.inl rfl) ?_
  rw [State.mbServe]
  dsimp only
  rw [hcode, hcount, if_pos (.inr rfl), if_pos (.inr (.inl rfl)), State.mbRefused, hfc]

theorem exec_modbusConnect_accepts (conn src : Nat) (s : State) :
    s.mbOpen = true → s.reaches src = true → conn ∉ s.net.conns →
    s.net.conns.length < s.get NET_MB_CFG_MAX_CONN → s.get NET_MB_CFG_MAX_CONN ≤ 16 →
    ∃ t, exec (.modbusConnect conn src) s = .next t ∧ t.net = { s.net with conns := s.net.conns ++ [conn], conns4 := t.net.conns4 } ∧
      (src ≠ 0 → conn ∈ t.net.conns4) ∧
      t.get NET_STATUS_MB_CONNS = s.net.conns.length + 1 ∧ t.out = .tcp false conn true :: s.out ∧
      SameRegs [NET_STATUS] s t ∧ t.log = s.log := by
  intro hopen hreach hnew hroom hmax
  have hlt : (s.net.conns ++ [conn]).length < 16 := by
    have h16 := s.get_lt NET_MB_CFG_MAX_CONN
    simp only [List.length_append, List.length_singleton]
    have : s.get NET_MB_CFG_MAX_CONN < 16 := h16
    omega
  have hgate : ¬ (!s.mbOpen || !s.reaches src || s.net.conns.contains conn) = true := by simp [hopen, hreach, hnew]
  have hshown := State.setConns_shown (s := s.send (.tcp false conn true)) hlt
  have hsame := State.setConns_sameRegs (s := s.send (.tcp false conn true)) (s.net.conns ++ [conn])
  rw [List.length_append, List.length_singleton] at hshown
  rw [exec_modbusConnect_eq, State.mbConnect, if_neg hgate, if_pos hroom]
  dsimp only
  split
  next hsrc => exact ⟨_, rfl, rfl, fun h => absurd hsrc h, hshown, rfl, hsame, rfl⟩
  next hsrc => exact ⟨_, rfl, rfl, fun _ => List.mem_cons_self .., hshown, rfl, hsame, rfl⟩

theorem exec_modbusConnect_refuses (conn src : Nat) (s : State) :
    s.mbOpen = true → s.reaches src = true → conn ∉ s.net.conns →
    s.get NET_MB_CFG_MAX_CONN ≤ s.net.conns.length → Room s portNet →
    ∃ t, exec (.modbusConnect conn src) s = .next t ∧ t.net = s.net ∧ t.regs = s.regs ∧
      t.out = .tcp false conn false :: .tcp false conn true :: s.out ∧ Logged portNet 0x8007 src 0 0 s t := by
  intro hopen hreach hnew hfull hroom
  have hgate : ¬ (!s.mbOpen || !s.reaches src || s.net.conns.contains conn) = true := by simp [hopen, hreach, hnew]
  have hroom' : Room ((s.send (.tcp false conn true)).send (.tcp false conn false)) portNet := hroom.of_log rfl rfl
  rw [exec_modbusConnect_eq, State.mbConnect, if_neg hgate, if_neg (by omega), State.nev, State.ev_of_room hroom']
  exact ⟨_, rfl, rfl, rfl, rfl, rfl⟩

theorem exec_modbusConnect_unreached (conn src : Nat) (s : State) :
    s.reaches src = false → exec (.modbusConnect conn src) s = .next s := by
  intro hreach
  rw [exec_modbusConnect_eq, State.mbConnect, if_pos (by simp [hreach])]

theorem exec_modbusIdleClose_closes (conn : Nat) (s : State) :
    s.mbOpen = true → s.net.conns = [conn] →
    ∃ t, exec (.modbusIdleClose conn) s = .next t ∧ t.net = { s.net with conns := [], conns4 := [] } ∧ t.get NET_STATUS_MB_CONNS = 0 ∧
      t.out = .tcp false conn false :: s.out ∧ SameRegs [NET_STATUS] s t := by
  intro hopen hconns
  have hnone : s.net.conns.filter (fun c => decide (c ≠ conn)) = [] := by simp [hconns]
  have hfour : s.net.conns4.filter (fun c => ([] : List Nat).contains c) = [] := by simp
  rw [exec_modbusIdleClose_eq, State.mbIdle, if_pos (by simp [hopen, hconns]), hnone]
  refine ⟨_, rfl, ?_, State.setConns_shown (s := s.send (.tcp false conn false)) (by decide), rfl,
    State.setConns_sameRegs (s := s.send (.tcp false conn false)) []⟩
  exact (congrArg (fun l => { s.net with conns := [], conns4 := l }) hfour :)

theorem exec_clientPoll_polls (m n : Fin 16) (v : F32) (s : State) :
    s.clientRuns m = true → s.on (NET_CLIENT_STATUS_CONNECTED m) = true →
    s.on NET_STATUS_IP4_OK = true → (s.client m).polling = false → s.est.netout = [(n.val, v)] → s.on (NET_NETOUT_ENABLE n) = true →
    s.get (NET_NETOUT_SERVER n) = m → s.get (NET_NETOUT_FORMAT n) = 3 → fIsNaN v = false →
    ∃ t, exec (.clientPoll m) s = .next t ∧ (t.client m).polling = true ∧ (t.client m).waiting = true ∧
      t.out = .client m (BitVec.ofNat 8 (s.get (NET_CLIENT_CFG_UNIT_ID m)) :: 0x10 ::
        (beBytes 2 (s.get (NET_NETOUT_REG n)) ++ [0, 2, 4] ++
          beBytes 4 (fmul v (fofNat (10 ^ s.get (NET_NETOUT_DECIMAL n)))).toNat)) :: s.out ∧ t.regs = s.regs := by
  intro hruns hconn hip hidle hout hen hserver hformat hnan
  obtain ⟨rest, hlist⟩ := State.pollList_single n.isLt hout hen hserver hformat hnan
  have hgate : ¬ (!s.clientRuns m || !s.on NET_STATUS_IP4_OK || !s.on (NET_CLIENT_STATUS_CONNECTED m)) = true := by
    simp [hruns, hconn, hip]
  rw [exec_clientPoll_eq, State.clientPoll, if_neg hgate, if_neg (by rw [hidle]; decide)]
  generalize hc : ({ s.client m with todo := s.pollList m, polling := true, due := false, failed := false, waiting := false } :
    Client) = c
  have htodo : ((s.setClient m c).client m).todo = s.pollList m := by rw [State.client_setClient, ← hc]
  have hpolling : ((s.setClient m c).client m).polling = true := by rw [State.client_setClient, ← hc]
  obtain ⟨e, hnext⟩ := State.pollNext_sends (htodo.trans hlist)
  rw [hnext]
  refine ⟨_, rfl, ?_, ?_, rfl, rfl⟩
  · exact (congrArg Client.polling (State.client_setClient (s := s.setClient m c) _)).trans hpolling
  · exact congrArg Client.waiting (State.client_setClient (s := s.setClient m c) _)

theorem exec_clientPoll_waits (m : Fin 16) (s : State) :
    s.clientRuns m = true → s.on (NET_CLIENT_STATUS_CONNECTED m) = true →
    s.on NET_STATUS_IP4_OK = true → (s.client m).polling = true →
    ∃ t, exec (.clientPoll m) s = .next t ∧ t.client m = { s.client m with due := true } ∧
      { t with net := { t.net with clients := s.net.clients } } = s := by
  intro hruns hconn hip hpolls
  have hgate : ¬ (!s.clientRuns m || !s.on NET_STATUS_IP4_OK || !s.on (NET_CLIENT_STATUS_CONNECTED m)) = true := by
    simp [hruns, hconn, hip]
  rw [exec_clientPoll_eq, State.clientPoll, if_neg hgate, if_pos hpolls]
  exact ⟨_, rfl, State.client_setClient _, rfl⟩

theorem exec_clientPoll_off (m : Fin 16) (ok : Bool) (s : State) :
    s.on NET_STATUS_IP4_OK = false →
    exec (.clientPoll m) s = .next s ∧ exec (.clientReconnect m ok) s = .next s := by
  intro hip
  rw [exec_clientPoll_eq, exec_clientReconnect_eq, State.clientPoll, State.clientConnect, if_pos (by simp [hip]), if_pos (by simp [hip])]
  exact ⟨rfl, rfl⟩

theorem exec_clientResponse_up (m : Fin 16) (s : State) :
    s.clientRuns m = true → (s.client m).waiting = true → (s.client m).failed = false →
    (s.client m).due = false → (s.client m).todo = [] → ofBe (slice 0 1 (s.client m).cur) = 0x10 → s.on (NET_CLIENT_STATUS_UP m) = false → Room s portNet →
    ∃ t, exec (.clientResponse m ((s.client m).cur.take 5)) s = .next t ∧ t.get (NET_CLIENT_STATUS_UP m) = 1 ∧
      t.client m = { s.client m with waiting := false, polling := false, run := 0, down := false } ∧
      SameRegs [NET_CLIENT_STATUS m] s t ∧ Logged portNet 0x8009 m 0 0 s t := by
  intro hruns hwait hfailed hdue htodo hcode hup hroom
  have hgot : ofBe (slice 0 1 ((s.client m).cur.take 5)) = 0x10 := by rw [State.slice_take _ (by decide), hcode]
  have hwent : s.clientResponse m ((s.client m).cur.take 5) = s.pollWent m false := by
    rw [State.clientResponse, hcode, hgot, if_neg (by simp [hruns, hwait]), if_neg (fun h => absurd h.1 (by decide)), if_pos ⟨rfl, rfl⟩]
  generalize hc : ({ s.client m with waiting := false, failed := (s.client m).failed || false } : Client) = c
  have hcl : (s.setClient m c).client m = c := State.client_setClient c
  have hnext := State.pollNext_up (s := s.setClient m c) (m := m.val) (by rw [hcl, ← hc, htodo]) (by rw [hcl, ← hc, hfailed]; rfl)
    hup
  rw [hcl] at hnext
  have hroom' : Room (((s.setClient m c).setClient m { c with polling := false, run := 0, down := false }).putB
      (NET_CLIENT_STATUS_UP m) true) portNet := hroom.of_log rfl rfl
  rw [State.nev, State.ev_of_room hroom'] at hnext
  have hdone : ({ c with polling := false, run := 0, down := false } : Client) =
      { s.client m with waiting := false, polling := false, run := 0, down := false } := by
    rw [← hc, Bool.or_false]
  rw [hdone] at hnext
  have hlast := State.client_setClient (s := s.setClient m c) (m := m.val)
    { s.client m with waiting := false, polling := false, run := 0, down := false }
  have hfin : s.pollWent m false = ((s.setClient m c).pollNext m).pollDue m := by
    rw [State.pollWent, ← hc]
    rfl
  rw [exec_clientResponse_eq, hwent, hfin, hnext, State.pollDue_none (by exact (congrArg Client.due hlast).trans hdue)]
  refine ⟨_, rfl, ?_, hlast, ?_, rfl⟩
  · exact State.get_putB_same _ (NET_CLIENT_STATUS_UP m) true (by simp)
  · exact sameRegs_wrote.mpr ((sameRegs_putB (t := (s.setClient m c).setClient m _) (by simp)).mpr
      ((sameRegs_congr rfl).mpr sameRegs_refl))

theorem exec_clientTransactionTimeout_fails (m : Fin 16) (s : State) :
    s.clientRuns m = true → (s.client m).waiting = true → (s.client m).todo = [] →
    (s.client m).due = false → (s.client m).run = 0 →
    ∃ t, exec (.clientTransactionTimeout m) s = .next t ∧
      t.client m = { s.client m with waiting := false, failed := true, polling := false, run := 1 } ∧
      t.get (NET_CLIENT_STATUS_FAIL_COUNT m) = min (s.get (NET_CLIENT_STATUS_FAIL_COUNT m) + 1) 65535 ∧
      SameRegs [NET_CLIENT_STATUS m] s t ∧ t.log = s.log := by
  intro hruns hwait htodo hdue hrun
  generalize hc : ({ s.client m with waiting := false, failed := (s.client m).failed || true } : Client) = c
  have hcl : ((s.setClient m c).incSat (NET_CLIENT_STATUS_FAIL_COUNT m)).client m = c := State.client_setClient c
  have hnext := State.pollNext_failed (s := (s.setClient m c).incSat (NET_CLIENT_STATUS_FAIL_COUNT m)) (m := m.val)
    (by rw [hcl, ← hc, htodo]) (by rw [hcl, ← hc, Bool.or_true]) (by rw [hcl, ← hc, hrun])
  have hdone : ({ c with polling := false, run := 1 } : Client) =
      { s.client m with waiting := false, failed := true, polling := false, run := 1 } := by rw [← hc, Bool.or_true]
  rw [hcl, hdone] at hnext
  have hlast := State.client_setClient (s := (s.setClient m c).incSat (NET_CLIENT_STATUS_FAIL_COUNT m)) (m := m.val)
    { s.client m with waiting := false, failed := true, polling := false, run := 1 }
  have hfin : s.clientTimeout m = (((s.setClient m c).incSat (NET_CLIENT_STATUS_FAIL_COUNT m)).pollNext m).pollDue m := by
    rw [State.clientTimeout, if_pos (by rw [hruns, hwait]; rfl), State.pollWent, ← hc]
    rfl
  rw [exec_clientTransactionTimeout_eq, hfin, hnext, State.pollDue_none ((congrArg Client.due hlast).trans hdue)]
  refine ⟨_, rfl, hlast, ?_, ?_, rfl⟩
  · exact (State.get_incSat_same _ (NET_CLIENT_STATUS_FAIL_COUNT m) (by simp)).trans rfl
  · exact (sameRegs_incSat (t := s.setClient m c) (by simp)).mpr ((sameRegs_congr rfl).mpr sameRegs_refl)

theorem exec_clientConnectionLost_down (m : Fin 16) (s : State) :
    s.clientRuns m = true → s.on (NET_CLIENT_STATUS_CONNECTED m) = true →
    (s.client m).down = false → Room s portNet →
    ∃ t, exec (.clientConnectionLost m) s = .next t ∧ t.get (NET_CLIENT_STATUS_UP m) = 0 ∧
      t.get (NET_CLIENT_STATUS_CONNECTED m) = 0 ∧ (t.client m).down = true ∧ SameRegs [NET_CLIENT_STATUS m] s t ∧
      Logged portNet 0x8008 m (s.get (NET_CLIENT_STATUS_LAST_EXC m)) (s.get (NET_CLIENT_STATUS_FAIL_COUNT m)) s t := by
  intro hruns hconn hdown hroom
  rw [exec_clientConnectionLost_eq, State.clientLost, if_pos (by simp [hruns, hconn]), State.clientDown_first hdown hconn,
    State.nev, State.ev_of_room hroom]
  obtain ⟨hup, hconn', hsame⟩ := (s.wrote portNet (State.record 0x8008 m (s.get (NET_CLIENT_STATUS_LAST_EXC m))
    (s.get (NET_CLIENT_STATUS_FAIL_COUNT m)) false)).clientShownDown_shown m
  refine ⟨_, rfl, hup, hconn', congrArg Client.down (State.client_setClient _), ?_, rfl⟩
  exact hsame

theorem exec_clientReconnect_connects (m : Fin 16) (s : State) :
    s.clientRuns m = true → s.on NET_STATUS_IP4_OK = true →
    s.on (NET_CLIENT_STATUS_CONNECTED m) = false →
    ∃ t, exec (.clientReconnect m true) s = .next t ∧ t.get (NET_CLIENT_STATUS_CONNECTED m) = 1 ∧
      SameRegs [NET_CLIENT_STATUS m] s t ∧
      t.out = .tcp true m true :: .connect m (s.reg (NET_CLIENT_ADDR m)) (s.get (NET_CLIENT_CFG_PORT m)) :: s.out := by
  intro hruns hip hconn
  rw [exec_clientReconnect_eq, State.clientConnect, if_neg (by simp [hruns, hip, hconn]), if_pos rfl]
  refine ⟨_, rfl, ?_, ?_, rfl⟩
  · exact State.get_putB_same _ (NET_CLIENT_STATUS_CONNECTED m) true (by simp)
  · exact (sameRegs_congr rfl).mpr ((sameRegs_putB (t := s.send _) (by simp)).mpr (sameRegs_send.mpr sameRegs_refl))

theorem exec_clientReconnect_fails (m : Fin 16) (s : State) :
    s.clientRuns m = true → s.on NET_STATUS_IP4_OK = true →
    s.on (NET_CLIENT_STATUS_CONNECTED m) = false → (s.client m).down = true →
    ∃ t, exec (.clientReconnect m false) s = .next t ∧
      t.client m = { s.client m with retry := min 30 (2 * (s.client m).retry) } ∧ t.regs = s.regs ∧ t.out = s.out := by
  intro hruns hip hconn hdown
  rw [exec_clientReconnect_eq, State.clientConnect, if_neg (by simp [hruns, hip, hconn]), if_neg Bool.false_ne_true, if_pos hdown]
  exact ⟨_, rfl, State.client_setClient _, rfl, rfl⟩

/-- Settles O30: a request's checks and exceptions, the connections, and the polls of the client. -/
theorem modbusGuardsAndClient : Obligations.ModbusGuardsAndClient :=
  ⟨exec_modbusReadHolding_unknown, exec_modbusWriteMultiple_unmapped, exec_modbusReadInput_empty,
    exec_modbusConnect_accepts, exec_modbusConnect_refuses, exec_modbusConnect_unreached, exec_modbusIdleClose_closes,
    exec_clientPoll_polls, exec_clientPoll_waits, exec_clientPoll_off, exec_clientResponse_up,
    exec_clientTransactionTimeout_fails, exec_clientConnectionLost_down, exec_clientReconnect_connects,
    exec_clientReconnect_fails⟩

end Sys2Proof.Machine
end

section
/-! PROOFS. The Sprinline ports (R172 to R197): two statements that do not hold, and the cable supply (R194, R195). -/

namespace Sys2Proof.Machine

open Reg

/-! ### A retry that keeps asking for the alarm (R187) -/

/-- A running module whose port 0 has polled node 5, of which an alarm is known to be pending. -/
def pendingState : State := (running.setPst 0 4).setPort 0 { running.port 0 with
  wait := .poll 5 false false, nodes := [(5, { state := 1, pending := true })], limit := 10000000 }

theorem pendingState_fits : pendingState.dpUp = true ∧ pendingState.pst 0 = 4 ∧
    (pendingState.port 0).wait = .poll 5 false false ∧
    pendingState.busFits 0 45000 (pendingState.port 0).calls = true := by
  decide +kernel

theorem pendingState_asks : ((pendingState.sprinTimeout 0).port 0).wait = .poll 5 true true := by decide +kernel

/-- Refutes O36: the retry of a poll carries ALARM_REQ where an alarm of the node is pending (R187), though the poll
that failed did not. -/
theorem not_sprinCycle : ¬ Obligations.SprinCycle := by
  rintro ⟨-, -, -, -, -, -, hretry, -⟩
  obtain ⟨hup, hrun, hwait, hfits⟩ := pendingState_fits
  obtain ⟨t, ht, hagain, -⟩ := hretry 0 5 pendingState hup hrun hwait hfits
  have hnext : exec (.sprinReplyTimeout 0) pendingState = .next (pendingState.when pendingState.dpUp (·.sprinTimeout 0)) := rfl
  rw [State.when, hup, if_pos rfl] at hnext
  cases hnext.symm.trans ht
  exact absurd (pendingState_asks.symm.trans hagain) (by decide)

/-! ### A command register that the table lists with its reset value -/

/-- A running module with port 0 in RUN, whose register table lists SPRIN_CMD of port 0 with its reset value. -/
def listedState : State := { running.setPst 0 4 with regs := (SPRIN_CMD 0, 0) :: (running.setPst 0 4).regs }

theorem listedState_writes : (listedState.mpUp = true ∧ (listedState.loading = false ∨ 0x20 = 2) ∧
    listedState.waitsBehind (SPRIN_CMD 0) = false ∧
    listedState.writeOk 0x20 (SPRIN_CMD 0) (0x5E710300 ||| (5 : BitVec 8).setWidth 32) = true) ∧
    listedState.supplyOn 0 = true := by
  decide +kernel

theorem listedState_drops :
    (listedState.writeAt 0x20 (SPRIN_CMD 0) (0x5E710300 ||| (5 : BitVec 8).setWidth 32)).regs.length <
      listedState.regs.length := by
  decide +kernel

/-- Refutes O37: a register table that lists a command register with its reset value is brought to its canonical form
by the write of the command, so it is another table, though every register reads the same. -/
theorem not_sprinEnumeration : ¬ Obligations.SprinEnumeration := by
  rintro ⟨-, -, -, -, -, -, hidentify, -⟩
  obtain ⟨hwrites, hsupply⟩ := listedState_writes
  obtain ⟨t, ht, -, hregs, -⟩ := hidentify 0x20 0 5 listedState hwrites hsupply
  have hnext : exec (.sprinIdentify 0x20 0 5) listedState =
    .next (listedState.writeAt 0x20 (SPRIN_CMD 0) (0x5E710300 ||| (5 : BitVec 8).setWidth 32)) := rfl
  cases hnext.symm.trans ht
  exact absurd (hregs ▸ listedState_drops) (lt_irrefl _)

/-! ### A self-test that begins (R450, R453) -/

namespace State

/-- The state with another account of errors and tests. -/
def withRel (s : State) (r : Reliability) : State := { s with rel := r }

/-- The only test wanted begins at once, but for a valve channel's. -/
theorem testWant_begins {s : State} {e home : Element} (htests : s.rel.tests = []) (hfree : s.relBusy e = false)
    (hfew : s.recentTransients e < s.get REL_CFG_REPEAT_N) (hvalve : (unitOf e).1 ≠ 4) :
    s.testWant e home false = (s.withRel { s.rel with tests := [{ elem := e }] }).testBegin e := by
  have hstage : (s.withRel { s.rel with tests := [{ elem := e }] }).stageStart =
      s.withRel { s.rel with tests := [{ elem := e }] } := by
    cases e
    case valve v => exact absurd rfl hvalve
    all_goals rfl
  have hwaits : (s.withRel { s.rel with tests := [{ elem := e }] }).testsStart =
      (s.withRel { s.rel with tests := [{ elem := e }] }).testBegin e := by
    rw [testsStart, hstage]
    simp [each, withRel, hvalve]
  rw [testWant, if_neg (by simp [hfree]), if_neg (by simp [hfew]), htests]
  exact hwaits

/-- A port's test begins as its element is tested. -/
theorem testBegin_sprin (s : State) (r : Reliability) (p : Fin 24) :
    (s.withRel r).testBegin (.sprin p) = (s.withRel { r with
      tests := r.tests.map (fun x => if x.elem = .sprin p then { x with running := true } else x) }).portTest p := rfl

end State

/-! ### The cable supply (R194, R195) -/

/-- The bus of a port whose work has ended (R196). -/
def SprinPort.atRest (x : SprinPort) : SprinPort := { x with
  wait := .idle, polls := [], deferred := [], calls := 0, search := none, identify := none, hostTurn := false
  searchTurn := false }

/-- The port of a cable without its supply: no node has an address (R178). -/
def SprinPort.cut (x : SprinPort) : SprinPort := { x with
  nodes := x.nodes.map (fun (e : Nat × SprinNode) => (e.1, { e.2 with assigned := false, pending := false }))
  cycling := false }

/-- The port that keeps its entry to STUCK (R195). -/
def SprinPort.stuckSince (x : SprinPort) (at_ : Nat) : SprinPort := { x with stuckAt := some at_ }

theorem SprinPort.cut_unassigned (x : SprinPort) : ∀ e ∈ x.cut.nodes, e.2.assigned = false := by
  intro e he
  obtain ⟨n, -, rfl⟩ := List.mem_map.mp he
  rfl

namespace State

section Ports
variable {s : State} {p : Nat}

theorem port_setPort (s : State) (p : Nat) (x : SprinPort) : (s.setPort p x).port p = x :=
  tget_tset_same (fun _ => ({} : SprinPort)) s.sprin p x

theorem port_congr {t u : State} (h : t.sprin = u.sprin) (p : Nat) : t.port p = u.port p :=
  congrArg (fun m => tget (fun _ => ({} : SprinPort)) m p) h

theorem pst_setPst (s : State) (p : Nat) {n : Nat} (h : n < 16) : (s.setPst p n).pst p = n := by
  rw [pst, setPst, get_put_same _ _ _ (by simp)]
  exact Nat.mod_eq_of_lt h

theorem setPst_sprin (s : State) (p n : Nat) : (s.setPst p n).sprin = s.sprin := rfl

theorem wrote_sprin (s : State) (q : Nat) (r : Submit) : (s.wrote q r).sprin = s.sprin := rfl

theorem setPort_regs (s : State) (p : Nat) (x : SprinPort) : (s.setPort p x).regs = s.regs := rfl

theorem setPort_log (s : State) (p : Nat) (x : SprinPort) : (s.setPort p x).log = s.log := rfl

theorem pst_congr {t u : State} (h : t.regs = u.regs) (p : Nat) : t.pst p = u.pst p := get_congr h _

/-- A host command that has ended. -/
def hostEnded (s : State) (p st reason result : Nat) : State :=
  (((s.putB (SPRIN_NCMD_BUSY p) false).put (SPRIN_NRESULT_ITEM_STATUS p) st).put (SPRIN_NRESULT_REASON p) reason).put
    (SPRIN_NRESULT_RESULT p) result

theorem hostDone_busy (h : s.on (SPRIN_NCMD_BUSY p) = true) (st reason result : Nat) :
    s.hostDone p st reason result = s.hostEnded p st reason result := if_pos h

theorem hostDone_none (h : s.on (SPRIN_NCMD_BUSY p) = false) (st reason result : Nat) :
    s.hostDone p st reason result = s := if_neg (by simp [h])

theorem hostEnded_shown (s : State) (p : Nat) : (s.hostEnded p 1 7 0).get (SPRIN_NCMD_BUSY p) = 0 ∧
    (s.hostEnded p 1 7 0).get (SPRIN_NRESULT_ITEM_STATUS p) = 1 ∧
    (s.hostEnded p 1 7 0).get (SPRIN_NRESULT_REASON p) = 7 ∧
    (s.hostEnded p 1 7 0).get (SPRIN_PWR_STATUS_TRIP_COUNT p) = s.get (SPRIN_PWR_STATUS_TRIP_COUNT p) ∧
    SameRegs [SPRIN_NCMD p, SPRIN_NRESULT p] s (s.hostEnded p 1 7 0) := by
  simp [hostEnded, get_putB_same, get_put_same, get_put_ne, get_putB_ne]

/-- What a host command's end leaves. -/
theorem hostDone_rest (s : State) (p st reason result : Nat) :
    { s.hostDone p st reason result with regs := s.regs } = s := by
  unfold hostDone
  split <;> rfl

/-- The supply of an idle port goes off (R178, R194). -/
theorem supplyOff_idle (hrun : (s.port p).running = false) (hw : (s.port p).wait = .idle) (hp : (s.port p).polls = []) :
    s.supplyOff p 1 7 = (((s.setPort p (s.port p).atRest).hostDone p 1 7 0).setPort p (s.port p).atRest.cut).put
      (SPRIN_PWR_STATUS_CURRENT_MA p) 0 := by
  have hnone : (s.port p).awaited ++ (s.port p).polls = [] := by rw [SprinPort.awaited, hw, hp]; rfl
  have hend : s.cycleEnd p = s := if_neg (by simp [hrun])
  have hstop : s.busStop p 1 7 = (s.setPort p (s.port p).atRest).hostDone p 1 7 0 := by
    rw [busStop]
    dsimp only
    rw [hnone, hend]
    rfl
  have hport : ((s.setPort p (s.port p).atRest).hostDone p 1 7 0).port p = (s.port p).atRest := by
    have hrest := (congrArg State.sprin ((s.setPort p (s.port p).atRest).hostDone_rest p 1 7 0) :)
    exact (port_congr hrest p).trans (port_setPort ..)
  rw [supplyOff, hstop]
  dsimp only
  rw [hport]
  rfl

/-- All that the loss of the supply changes besides the registers. -/
theorem supplyOff_rest (hrun : (s.port p).running = false) (hw : (s.port p).wait = .idle) (hp : (s.port p).polls = []) :
    (s.supplyOff p 1 7).port p = (s.port p).atRest.cut ∧ { s.supplyOff p 1 7 with regs := s.regs, sprin := s.sprin } = s := by
  have hrest := (s.setPort p (s.port p).atRest).hostDone_rest p 1 7 0
  rw [supplyOff_idle hrun hw hp]
  generalize (s.setPort p (s.port p).atRest).hostDone p 1 7 0 = u at *
  exact ⟨port_setPort u p _, (congrArg (fun t : State => { t with regs := s.regs, sprin := s.sprin }) hrest :)⟩

/-- The registers of an idle port that loses its supply with no host command. -/
theorem supplyOff_quiet (hrun : (s.port p).running = false) (hw : (s.port p).wait = .idle) (hp : (s.port p).polls = [])
    (hbusy : s.on (SPRIN_NCMD_BUSY p) = false) :
    (s.supplyOff p 1 7).regs = (s.put (SPRIN_PWR_STATUS_CURRENT_MA p) 0).regs := by
  rw [supplyOff_idle hrun hw hp, hostDone_none (s := s.setPort p _) hbusy]
  rfl

/-- A field's write is of the registers alone. -/
theorem put_regs {t u : State} (h : t.regs = u.regs) (f : Fld) (n : Nat) : (t.put f n).regs = (u.put f n).regs := by
  simp only [put, setReg, reg, h]

theorem hostEnded_regs {t u : State} (h : t.regs = u.regs) (p st reason result : Nat) :
    (t.hostEnded p st reason result).regs = (u.hostEnded p st reason result).regs :=
  put_regs (put_regs (put_regs (put_regs h _ _) _ _) _ _) _ _

/-- The registers of an idle port that loses its supply, which ends a host command. -/
theorem supplyOff_busy (hrun : (s.port p).running = false) (hw : (s.port p).wait = .idle) (hp : (s.port p).polls = [])
    (hbusy : s.on (SPRIN_NCMD_BUSY p) = true) :
    (s.supplyOff p 1 7).regs = ((s.hostEnded p 1 7 0).put (SPRIN_PWR_STATUS_CURRENT_MA p) 0).regs := by
  rw [supplyOff_idle hrun hw hp, hostDone_busy (s := s.setPort p _) hbusy]
  refine put_regs ?_ _ _
  exact hostEnded_regs (t := s.setPort p (s.port p).atRest) rfl p 1 7 0

/-- The registers of a port that trips, from the one that has lost its supply (R194). -/
def tripShown (s : State) (p : Nat) : State :=
  ((s.setPst p pTripped).incSat (SPRIN_PWR_STATUS_TRIP_COUNT p)).putB (SPRIN_STATUS_TRIP p) true

theorem tripShown_shown (s : State) (p : Nat) : (s.tripShown p).pst p = 5 ∧ (s.tripShown p).get (SPRIN_STATUS_TRIP p) = 1 ∧
    (s.tripShown p).get (SPRIN_PWR_STATUS_TRIP_COUNT p) = min (s.get (SPRIN_PWR_STATUS_TRIP_COUNT p) + 1) 65535 ∧
    (s.tripShown p).get (SPRIN_PWR_STATUS_CURRENT_MA p) = s.get (SPRIN_PWR_STATUS_CURRENT_MA p) ∧
    (s.tripShown p).get (SPRIN_NCMD_BUSY p) = s.get (SPRIN_NCMD_BUSY p) ∧
    (s.tripShown p).get (SPRIN_NRESULT_ITEM_STATUS p) = s.get (SPRIN_NRESULT_ITEM_STATUS p) ∧
    (s.tripShown p).get (SPRIN_NRESULT_REASON p) = s.get (SPRIN_NRESULT_REASON p) ∧
    SameRegs [SPRIN_STATUS p, SPRIN_PWR_STATUS p] s (s.tripShown p) := by
  simp [tripShown, pst, setPst, pTripped, get_putB_same, get_put_same, get_incSat_same, get_incSat_ne, get_put_ne,
    get_putB_ne]
  rfl

theorem tripShown_sprin (s : State) (p : Nat) : (s.tripShown p).sprin = s.sprin := rfl

/-- The state of a port whose supply is enabled, or not, and whose cable rail is good, or not (R195). -/
theorem portPower_eq (s : State) (p : Nat) : s.portPower p = s.setPst p
    (if s.on (SPRIN_CFG_ENABLE p) then if s.on PWR_STATUS_VCAB_OK then 2 else 1 else 0) := by
  rw [portPower]
  cases s.on (SPRIN_CFG_ENABLE p) <;> rfl

theorem portPower_pst (s : State) (p : Nat) : (s.portPower p).pst p =
    (if s.on (SPRIN_CFG_ENABLE p) then if s.on PWR_STATUS_VCAB_OK then 2 else 1 else 0) := by
  rw [portPower_eq, pst_setPst]
  split
  · split <;> decide
  · decide

theorem portPower_onlyRegs (s : State) (p : Nat) : OnlyRegs [SPRIN_STATUS p] s (s.portPower p) := by
  rw [portPower_eq]
  exact ⟨(sameRegs_put (by simp)).mpr sameRegs_refl, rfl⟩

/-- The state of a port whose line has stayed away from idle, its entry to STUCK kept. -/
def stuckKept (s : State) (p at_ : Nat) (x : SprinPort) : State :=
  (((s.supplyOff p 1 7).setPst p pStuck).pev p 0x7007).setPort p (x.stuckSince at_)

theorem portStuck_eq (hst : s.pst p = 3 ∨ s.pst p = 4) {x : SprinPort} (hport : (s.supplyOff p 1 7).port p = x) :
    s.portStuck p = match x.stuckAt with
      | some a => if s.optime - a ≤ 60 * 1024 then ((s.stuckKept p s.optime x).setPst p pFaulted).pev p 0x7008
        else s.stuckKept p s.optime x
      | none => s.stuckKept p s.optime x := by
  unfold portStuck stuckKept
  rw [if_pos (show s.pst p = pEnum ∨ s.pst p = pRun from hst)]
  generalize s.supplyOff p 1 7 = w at *
  have hx : ((w.setPst p pStuck).pev p 0x7007).port p = x := by
    rw [← hport]
    exact port_congr (((w.setPst p pStuck).ev_sprin ..).trans (w.setPst_sprin p pStuck)) p
  generalize (w.setPst p pStuck).pev p 0x7007 = t at *
  dsimp only
  rw [hx]
  rcases x.stuckAt with _ | a <;> rfl

/-- A first entry to STUCK (R195). -/
theorem portStuck_first (hst : s.pst p = 3 ∨ s.pst p = 4) {x : SprinPort}
    (hport : (s.supplyOff p 1 7).port p = x) (hx : x.stuckAt = none) : s.portStuck p = s.stuckKept p s.optime x := by
  rw [portStuck_eq hst hport, hx]

/-- A second entry within 60 s (R195). -/
theorem portStuck_again (hst : s.pst p = 3 ∨ s.pst p = 4) {x : SprinPort} {a : Nat}
    (hport : (s.supplyOff p 1 7).port p = x) (hx : x.stuckAt = some a) (hlate : s.optime - a ≤ 60 * 1024) :
    s.portStuck p = ((s.stuckKept p s.optime x).setPst p pFaulted).pev p 0x7008 := by
  rw [portStuck_eq hst hport, hx]
  exact if_pos hlate

end Ports

/-- A TEST frame moves the bus times of its port, and nothing else of it. -/
theorem testSend_rest (s : State) (p : Nat) : (s.testSend p).regs = s.regs ∧ (s.testSend p).log = s.log ∧
    ∃ b f, (s.testSend p).port p = { s.port p with busy := b, free := f } :=
  ⟨rfl, rfl, _, _, port_setPort s p _⟩

/-- A port as its self-test begins, with no host command in progress. -/
theorem portTest_idle {s : State} {p : Nat} (hst : s.pst p = 6) (hrun : (s.port p).running = false)
    (hw : (s.port p).wait = .idle) (hp : (s.port p).polls = []) (hbusy : s.on (SPRIN_NCMD_BUSY p) = false) :
    (s.portTest p).pst p = 8 ∧ ((s.portTest p).port p).prev = 6 ∧
    ((s.portTest p).port p).stuckAt = (s.port p).stuckAt ∧ ((s.portTest p).port p).nodes = (s.port p).nodes ∧
    (s.portTest p).log = s.log := by
  have hnone : (s.port p).awaited ++ (s.port p).polls = [] := by rw [SprinPort.awaited, hw, hp]; rfl
  have hend : s.cycleEnd p = s := if_neg (by simp [hrun])
  have hstop : ∃ x y : SprinPort, s.busStop p 2 2 = (s.setPort p x).setPort p y ∧ y.stuckAt = (s.port p).stuckAt ∧
      y.nodes = (s.port p).nodes := by
    rw [busStop]
    dsimp only
    rw [hnone, hend, if_neg (by decide)]
    have hends := port_setPort s p { s.port p with ends := (([] : List Nat).map (fun a =>
      ({ item := a, status := 2, reason := 2 } : ItemEnd))).reverse ++ (s.port p).ends }
    rw [hostDone_none (s := (s.pollsEnd p [] 2 2).setPort p _) hbusy]
    exact ⟨_, _, rfl, (congrArg SprinPort.stuckAt hends :), (congrArg SprinPort.nodes hends :)⟩
  obtain ⟨x, y, hstop, hat, hnodes⟩ := hstop
  have htest : ∃ z : SprinPort, s.portTest p =
      (((((s.setPort p x).setPort p y).setPort p z).setPst p pTest).testSend p).testSend p ∧
      z.prev = 6 ∧ z.stuckAt = y.stuckAt ∧ z.nodes = y.nodes := by
    have hy := port_setPort (s.setPort p x) p y
    rw [portTest, if_neg (show ¬ s.pst p = pTest by rw [hst]; decide), hstop, hst]
    exact ⟨_, rfl, rfl, (congrArg SprinPort.stuckAt hy :), (congrArg SprinPort.nodes hy :)⟩
  obtain ⟨z, htest, hprev, hat', hnodes'⟩ := htest
  have hz := port_setPort ((s.setPort p x).setPort p y) p z
  have hlog : (((s.setPort p x).setPort p y).setPort p z).log = s.log := rfl
  rw [htest]
  generalize ((s.setPort p x).setPort p y).setPort p z = u at *
  have hzu : (u.setPst p pTest).port p = z := (port_congr (u.setPst_sprin p pTest) p).trans hz
  have hst8 : (u.setPst p pTest).pst p = 8 := pst_setPst _ _ (by decide)
  have hlogu : (u.setPst p pTest).log = s.log := hlog
  generalize u.setPst p pTest = w at *
  obtain ⟨hregs1, hlog1, b1, f1, hport1⟩ := w.testSend_rest p
  generalize w.testSend p = w1 at *
  obtain ⟨hregs2, hlog2, b2, f2, hport2⟩ := w1.testSend_rest p
  generalize w1.testSend p = w2 at *
  refine ⟨(pst_congr (hregs2.trans hregs1) p).trans hst8, ?_, ?_, ?_, hlog2.trans (hlog1.trans hlogu)⟩ <;>
    rw [hport2, hport1, hzu]
  · exact hprev
  · exact hat'.trans hat
  · exact hnodes'.trans hnodes

/-- ACTION 2 on a port with its supply on (R195). -/
theorem portCycle_on {s : State} {p : Nat} (h : s.supplyOn p = true) : ∃ x : SprinPort, x.cycling = true ∧
    x.nodes = (((s.supplyOff p 1 7).setPst p pPowering).port p).nodes ∧
    s.portCycle p = ((s.supplyOff p 1 7).setPst p pPowering).setPort p x :=
  ⟨{ ((s.supplyOff p 1 7).setPst p pPowering).port p with cycling := true }, rfl, rfl,
    if_pos (by rw [h, Bool.true_or])⟩

/-- The row of SPRIN_CMD. -/
def sprinCmdRow : RegRow where
  base := 0x30000c
  n1 := 24
  s1 := 0x200
  wo := 0xffff0fff
  rsv := 0x0000f000
  ranges := [(31, 16, 24177, 24177), (11, 8, 1, 3), (7, 0, 0, 254)]

theorem rowOf_sprinCmd : ∀ p : Fin 24, rowOf (SPRIN_CMD p) = some sprinCmdRow := by decide +kernel

theorem instOf_sprinCmd : ∀ p : Fin 24, planeOf (SPRIN_CMD p) = .data ∧ SPRIN_CMD p ≠ CUP_CTRL ∧
    instOf 0x300000 0x200 24 (SPRIN_CMD p) = some (p.val, 0x0C) ∧ SPRIN_CMD p ∉ tableRegs ∧ SPRIN_CMD p ≠ CADDY_SWAP_CMD := by
  decide +kernel

theorem touched_sprin (s : State) (a : Nat) : (s.touched a).sprin = s.sprin := rfl

theorem writeAt_sprinCmd {s : State} {req : Nat} {p : Fin 24} {v : Word} (h : Writes s req (SPRIN_CMD p) v) :
    s.writeAt req (SPRIN_CMD p) v = (s.touched (SPRIN_CMD p)).dataEffect (SPRIN_CMD p) (s.reg (SPRIN_CMD p)) v := by
  obtain ⟨hplane, -, -, htable, hswap⟩ := instOf_sprinCmd p
  rw [writeAt_command h (rowOf_sprinCmd p) rfl rfl htable hswap, effect, hplane]

theorem writeAt_sprinCycle {s : State} {req : Nat} {p : Fin 24} (h : Writes s req (SPRIN_CMD p) 0x5E710200) :
    s.writeAt req (SPRIN_CMD p) 0x5E710200 = (s.touched (SPRIN_CMD p)).portCycle p := by
  obtain ⟨-, hcup, hinst, -, -⟩ := instOf_sprinCmd p
  rw [writeAt_sprinCmd h, dataEffect, if_neg hcup, hinst]
  rfl

end State

theorem exec_sprinSupplyTrip_eq {s : State} (h : s.dpUp = true) (p : Fin 24) (ma : Nat) :
    exec (.sprinSupplyTrip p ma) s = .next (s.portTrip p ma) := congrArg Host.Outcome.next (if_pos h)
theorem exec_sprinSupplyRetry_eq {s : State} (h : s.dpUp = true) (p : Fin 24) :
    exec (.sprinSupplyRetry p) s = .next (s.portRetry p) := congrArg Host.Outcome.next (if_pos h)
theorem exec_sprinStuckEnd_eq {s : State} (h : s.dpUp = true) (p : Fin 24) :
    exec (.sprinStuckEnd p) s = .next (s.portStuckEnd p) := congrArg Host.Outcome.next (if_pos h)
theorem exec_sprinStuck_eq {s : State} (h : s.dpUp = true) (p : Fin 24) :
    exec (.sprinStuck p) s = .next (s.portStuckTest p) := congrArg Host.Outcome.next (if_pos h)
theorem exec_sprinPowerCycleEnd_eq {s : State} (h : s.dpUp = true) (p : Fin 24) :
    exec (.sprinPowerCycleEnd p) s = .next (s.portCycleEnd p) := congrArg Host.Outcome.next (if_pos h)
theorem exec_sprinPowerCycle_eq (req : Nat) (p : Fin 24) (s : State) :
    exec (.sprinPowerCycle req p) s = .next (s.writeAt req (SPRIN_CMD p) 0x5E710200) := rfl

/-- Nothing happens on a data plane that is not up. -/
theorem next_when_down {s : State} (h : s.dpUp = false) (f : State → State) :
    (Host.Outcome.next (s.when s.dpUp f) : Res) = .next s := by
  rw [State.when, h]
  rfl

theorem exec_sprinSupplyTrip_trips (p : Fin 24) (ma : Nat) (s : State) :
    s.dpUp = true → s.supplyOn p = true → (s.port p).running = false →
    (s.port p).wait = .idle → (s.port p).polls = [] → s.on (SPRIN_NCMD_BUSY p) = true → Room s portSprin →
    ∃ t, exec (.sprinSupplyTrip p ma) s = .next t ∧ t.pst p = 5 ∧ t.get (SPRIN_STATUS_TRIP p) = 1 ∧
      t.get (SPRIN_PWR_STATUS_TRIP_COUNT p) = min (s.get (SPRIN_PWR_STATUS_TRIP_COUNT p) + 1) 65535 ∧
      t.get (SPRIN_PWR_STATUS_CURRENT_MA p) = 0 ∧ t.get (SPRIN_NCMD_BUSY p) = 0 ∧
      t.get (SPRIN_NRESULT_ITEM_STATUS p) = 1 ∧ t.get (SPRIN_NRESULT_REASON p) = 7 ∧
      (∀ e ∈ (t.port p).nodes, e.2.assigned = false) ∧
      SameRegs [SPRIN_STATUS p, SPRIN_PWR_STATUS p, SPRIN_NCMD p, SPRIN_NRESULT p] s t ∧
      Logged portSprin 0x7006 p (min (s.get (SPRIN_PWR_STATUS_TRIP_COUNT p) + 1) 65535) ma s t := by
  intro hup hon hrun hw hp hbusy hroom
  obtain ⟨hport, hrest⟩ := State.supplyOff_rest hrun hw hp
  have hregs := State.supplyOff_busy hrun hw hp hbusy
  obtain ⟨hdone, hstatus, hreason, hcount, hsame⟩ := s.hostEnded_shown p
  have hlog : (s.supplyOff p 1 7).log = s.log := (congrArg State.log hrest :)
  have hpwr : (s.supplyOff p 1 7).pwr = s.pwr := (congrArg State.pwr hrest :)
  have htrip : s.portTrip p ma = (((s.supplyOff p 1 7).tripShown p).pev p 0x7006
      (((s.supplyOff p 1 7).tripShown p).get (SPRIN_PWR_STATUS_TRIP_COUNT p)) ma) := if_pos hon
  have hnode := congrArg SprinPort.nodes hport
  rw [exec_sprinSupplyTrip_eq hup, htrip]
  generalize s.supplyOff p 1 7 = u at *
  have hroom' : Room (u.tripShown p) portSprin := (hroom.of_log hlog hpwr).of_log rfl rfl
  obtain ⟨hpst, htripped, hcount', hma, hbusy', hstatus', hreason', hsame'⟩ := u.tripShown_shown p
  have hold (f : Fld) : u.get f = ((s.hostEnded p 1 7 0).put (SPRIN_PWR_STATUS_CURRENT_MA p) 0).get f := State.get_congr hregs f
  have hkept : u.get (SPRIN_PWR_STATUS_TRIP_COUNT p) = s.get (SPRIN_PWR_STATUS_TRIP_COUNT p) := by
    rw [hold, State.get_put_ne _ _ _ _ (by simp) (by simp), hcount]
  rw [hkept] at hcount'
  rw [State.pev, State.ev_of_room hroom', hcount']
  refine ⟨_, rfl, (State.get_wrote ..).trans hpst, (State.get_wrote ..).trans htripped, (State.get_wrote ..).trans hcount',
    (State.get_wrote ..).trans ?_, (State.get_wrote ..).trans ?_, (State.get_wrote ..).trans ?_,
    (State.get_wrote ..).trans ?_, ?_, ?_, ?_⟩
  · exact hma.trans ((hold _).trans (State.get_put_same _ _ _ (by simp)))
  · exact hbusy'.trans ((hold _).trans ((State.get_put_ne _ _ _ _ (by simp) (by simp)).trans hdone))
  · exact hstatus'.trans ((hold _).trans ((State.get_put_ne _ _ _ _ (by simp) (by simp)).trans hstatus))
  · exact hreason'.trans ((hold _).trans ((State.get_put_ne _ _ _ _ (by simp) (by simp)).trans hreason))
  · rw [State.port_congr ((State.wrote_sprin ..).trans (u.tripShown_sprin p)), hnode]
    exact (s.port p).atRest.cut_unassigned
  · have hlost : SameRegs [SPRIN_PWR_STATUS p, SPRIN_NCMD p, SPRIN_NRESULT p] s u :=
      (sameRegs_congr hregs).mpr ((sameRegs_put (by simp)).mpr (hsame.mono (by simp)))
    exact sameRegs_wrote.mpr ((hlost.trans hsame').mono (by simp))
  · exact Logged.from_log (logged_wrote _ _ _ _ _ _) hlog

theorem exec_sprinSupplyTrip_none (p : Fin 24) (ma : Nat) (s : State) :
    (s.dpUp = false ∨ s.supplyOn p = false) → exec (.sprinSupplyTrip p ma) s = .next s := by
  intro h
  cases hup : s.dpUp
  · exact next_when_down hup _
  · rw [exec_sprinSupplyTrip_eq hup, State.portTrip, if_neg (by simpa [hup] using h)]

theorem exec_sprinSupplyRetry_powers (p : Fin 24) (s : State) :
    s.dpUp = true → s.pst p = 5 →
    ∃ t, exec (.sprinSupplyRetry p) s = .next t ∧ t.pst p = (if s.on (SPRIN_CFG_ENABLE p) then if s.on PWR_STATUS_VCAB_OK then 2 else 1 else 0) ∧
      OnlyRegs [SPRIN_STATUS p] s t := by
  intro hup hst
  rw [exec_sprinSupplyRetry_eq hup, State.portRetry, if_pos (show s.pst p = pTripped from hst)]
  exact ⟨_, rfl, s.portPower_pst p, s.portPower_onlyRegs p⟩

theorem exec_sprinStuckEnd_powers (p : Fin 24) (s : State) :
    s.dpUp = true → s.pst p = 6 →
    ∃ t, exec (.sprinStuckEnd p) s = .next t ∧ t.pst p = (if s.on (SPRIN_CFG_ENABLE p) then if s.on PWR_STATUS_VCAB_OK then 2 else 1 else 0) ∧
      OnlyRegs [SPRIN_STATUS p] s t := by
  intro hup hst
  rw [exec_sprinStuckEnd_eq hup, State.portStuckEnd, if_pos (show s.pst p = pStuck from hst)]
  exact ⟨_, rfl, s.portPower_pst p, s.portPower_onlyRegs p⟩

theorem exec_sprinStuckEnd_none (p : Fin 24) (s : State) :
    (s.dpUp = false ∨ s.pst p ≠ 6) → exec (.sprinStuckEnd p) s = .next s := by
  intro h
  cases hup : s.dpUp
  · exact next_when_down hup _
  · rw [exec_sprinStuckEnd_eq hup, State.portStuckEnd,
      if_neg (show ¬ s.pst p = pStuck from h.resolve_left (by simp [hup]))]

theorem exec_sprinStuck_tests (p : Fin 24) (s : State) :
    s.dpUp = true → s.pst p = 4 → (s.port p).running = false → (s.port p).stuckAt = none →
    (s.port p).wait = .idle → (s.port p).polls = [] →
    s.on (SPRIN_NCMD_BUSY p) = false → s.rel.tests = [] → s.relBusy (.sprin p) = false →
    s.recentTransients (.sprin p) < s.get REL_CFG_REPEAT_N → Room s portSprin →
    ∃ t, exec (.sprinStuck p) s = .next t ∧ t.pst p = 8 ∧ (t.port p).prev = 6 ∧ (t.port p).stuckAt = some s.optime ∧
      (∀ e ∈ (t.port p).nodes, e.2.assigned = false) ∧ Logged portSprin 0x7007 p 0 0 s t := by
  intro hup hst' hrun hstuck hw hp hbusy htests hfree hfew hroom
  obtain ⟨hport, hrest⟩ := State.supplyOff_rest hrun hw hp
  have hregs := State.supplyOff_quiet hrun hw hp hbusy
  have hfirst := State.portStuck_first (.inr hst') hport hstuck
  have hlog : (s.supplyOff p 1 7).log = s.log := (congrArg State.log hrest :)
  have hpwr : (s.supplyOff p 1 7).pwr = s.pwr := (congrArg State.pwr hrest :)
  have hrel : (s.supplyOff p 1 7).rel = s.rel := (congrArg State.rel hrest :)
  have hsame : SameRegs [SPRIN_STATUS p, SPRIN_PWR_STATUS p] s ((s.supplyOff p 1 7).setPst p pStuck) :=
    (sameRegs_put (by simp)).mpr ((sameRegs_congr hregs).mpr ((sameRegs_put (by simp)).mpr sameRegs_refl))
  have hst6 : ((s.supplyOff p 1 7).setPst p pStuck).pst p = 6 := State.pst_setPst _ _ (by decide)
  have hroom' : Room ((s.supplyOff p 1 7).setPst p pStuck) portSprin := (hroom.of_log hlog hpwr).of_log rfl rfl
  have hrel' : ((s.supplyOff p 1 7).setPst p pStuck).rel = s.rel := hrel
  have hlog' : ((s.supplyOff p 1 7).setPst p pStuck).log = s.log := hlog
  rw [State.stuckKept, State.pev, State.ev_of_room hroom'] at hfirst
  generalize (s.supplyOff p 1 7).setPst p pStuck = u at *
  have hlogged := Logged.from_log (logged_wrote u portSprin 0x7007 p 0 0) hlog'
  generalize State.record 0x7007 p 0 0 false = r at *
  have hkept : ((s.port p).atRest.cut.stuckSince s.optime).running = false := hrun
  have hkeptWait : ((s.port p).atRest.cut.stuckSince s.optime).wait = .idle := rfl
  have hkeptPolls : ((s.port p).atRest.cut.stuckSince s.optime).polls = [] := rfl
  have hkeptAt : ((s.port p).atRest.cut.stuckSince s.optime).stuckAt = some s.optime := rfl
  have hkeptNodes : ∀ e ∈ ((s.port p).atRest.cut.stuckSince s.optime).nodes, e.2.assigned = false :=
    (s.port p).atRest.cut_unassigned
  generalize (s.port p).atRest.cut.stuckSince s.optime = x at *
  have hbusy' : u.on (SPRIN_NCMD_BUSY p) = false := by
    rw [State.on, State.get, hsame _ (by simp)]
    exact hbusy
  have helem : (Fin.ofNat 24 p.val) = p := by simp
  have hrel2 : ((u.wrote portSprin r).setPort p x).rel = s.rel := hrel'
  have hreg (a : Nat) (h : a < 0x300000 ∨ 0x400000 ≤ a) : ((u.wrote portSprin r).setPort p x).reg a = s.reg a := by
    have hnot : a ∉ [SPRIN_STATUS p, SPRIN_PWR_STATUS p] := by
      simp only [List.mem_cons, List.not_mem_nil, or_false, SPRIN_STATUS, SPRIN_PWR_STATUS]
      omega
    exact (State.reg_congr rfl a).trans (hsame a hnot)
  have hx := State.port_setPort (u.wrote portSprin r) p x
  have hst : ((u.wrote portSprin r).setPort p x).pst p = 6 := (State.pst_congr rfl p).trans hst6
  have hbusy2 : ((u.wrote portSprin r).setPort p x).on (SPRIN_NCMD_BUSY p) = false := (State.on_congr rfl _).trans hbusy'
  have hlogged2 : Logged portSprin 0x7007 p 0 0 s ((u.wrote portSprin r).setPort p x) := by
    rw [Logged, State.setPort_log]
    exact hlogged
  rw [exec_sprinStuck_eq hup, State.portStuckTest, hfirst]
  generalize (u.wrote portSprin r).setPort p x = w at *
  have hget (f : Fld) (h : f.addr < 0x300000 ∨ 0x400000 ≤ f.addr) : w.get f = s.get f := by rw [State.get, State.get, hreg _ h]
  have htime : w.optime = s.optime := by
    rw [State.optime, State.optime, hreg PWR_OPTIME_LO (.inl (by decide)), hget _ (.inl (by decide))]
  have hcount : w.recentTransients (.sprin p) = s.recentTransients (.sprin p) := by
    rw [State.recentTransients, State.recentTransients, hrel2, htime, hget REL_CFG_REPEAT_H (.inr (by decide))]
  have hrun : s.pst p = pEnum ∨ s.pst p = pRun := .inr hst'
  rw [if_pos ⟨hrun, hst⟩, helem, State.testWant_begins (by rw [hrel2, htests])
    (by rw [State.relBusy, hrel2]; exact hfree) (by rw [hcount, hget REL_CFG_REPEAT_N (.inr (by decide))]; exact hfew)
    (by simp [unitOf]), State.testBegin_sprin]
  have hrel3 (l : List RelTest) : ∃ v, v = w.withRel { w.rel with tests := l } ∧ v.regs = w.regs ∧ v.sprin = w.sprin ∧
      v.log = w.log := ⟨_, rfl, rfl, rfl, rfl⟩
  obtain ⟨v, hv, hvregs, hvsprin, hvlog⟩ := hrel3 _
  rw [← hv]
  have hvx : v.port p = x := (State.port_congr hvsprin p).trans hx
  obtain ⟨hpst, hprev, hat, hnodes, hlogv⟩ := State.portTest_idle (s := v) (p := p.val) ((State.pst_congr hvregs p).trans hst)
    (by rw [hvx, hkept]) (by rw [hvx, hkeptWait]) (by rw [hvx, hkeptPolls]) ((State.on_congr hvregs _).trans hbusy2)
  refine ⟨_, rfl, hpst, hprev, ?_, ?_, ?_⟩
  · rw [hat, hvx, hkeptAt]
  · rw [hnodes, hvx]
    exact hkeptNodes
  · rw [Logged, hlogv, hvlog]
    exact hlogged2

theorem exec_sprinStuck_faults (p : Fin 24) (at_ : Nat) (s : State) :
    s.dpUp = true → s.pst p = 4 → (s.port p).running = false → (s.port p).stuckAt = some at_ →
    (s.port p).wait = .idle → (s.port p).polls = [] →
    s.optime ≤ at_ + 61440 → s.on (SPRIN_NCMD_BUSY p) = false → s.mpUp = true → (s.log.fifo portSprin).length < 15 →
    ∃ t, exec (.sprinStuck p) s = .next t ∧ t.pst p = 7 ∧ SameRegs [SPRIN_STATUS p, SPRIN_PWR_STATUS p] s t ∧
      Newest portSprin 0x7008 p 0 0 t := by
  intro hup hst hrun hstuck hw hp hlate hbusy hmp hroom
  obtain ⟨hport, hrest⟩ := State.supplyOff_rest hrun hw hp
  have hregs := State.supplyOff_quiet hrun hw hp hbusy
  have hlog : (s.supplyOff p 1 7).log = s.log := (congrArg State.log hrest :)
  have hpwr : (s.supplyOff p 1 7).pwr = s.pwr := (congrArg State.pwr hrest :)
  have hagain := State.portStuck_again (.inr hst) hport hstuck (by omega)
  have hroom' : Room ((s.supplyOff p 1 7).setPst p pStuck) portSprin :=
    (Room.of_log (s := s) ⟨.inr hmp, by omega⟩ hlog hpwr).of_log rfl rfl
  have hlen : (((s.supplyOff p 1 7).setPst p pStuck).log.fifo portSprin).length + 2 ≤ 16 := by
    rw [show ((s.supplyOff p 1 7).setPst p pStuck).log = s.log from hlog]
    omega
  have hsame : SameRegs [SPRIN_STATUS p, SPRIN_PWR_STATUS p] s ((s.supplyOff p 1 7).setPst p pStuck) :=
    (sameRegs_put (by simp)).mpr ((sameRegs_congr hregs).mpr ((sameRegs_put (by simp)).mpr sameRegs_refl))
  rw [State.stuckKept, State.pev, State.pev, State.ev_of_room hroom'] at hagain
  generalize (s.supplyOff p 1 7).setPst p pStuck = u at *
  generalize hr : State.record 0x7007 p 0 0 false = r at *
  generalize (s.port p).atRest.cut.stuckSince s.optime = x at *
  have hroom2 : Room (((u.wrote portSprin r).setPort p x).setPst p pFaulted) portSprin :=
    (Room.wrote hroom'.1 hlen r).of_log rfl rfl
  rw [State.ev_of_room hroom2] at hagain
  have hpst : ((((u.wrote portSprin r).setPort p x).setPst p pFaulted).wrote portSprin
      (State.record 0x7008 p 0 0 false)).pst p = 7 := (State.get_wrote ..).trans (State.pst_setPst _ _ (by decide))
  rw [exec_sprinStuck_eq hup, State.portStuckTest, hagain]
  rw [if_neg (fun h => absurd (hpst.symm.trans h.2) (by decide))]
  refine ⟨_, rfl, hpst, ?_, newest_wrote _ _ _ _ _ _⟩
  exact sameRegs_wrote.mpr ((sameRegs_put (t := (u.wrote portSprin r).setPort p x) (by simp)).mpr
    ((sameRegs_congr rfl).mpr hsame))

theorem exec_sprinPowerCycle_cycles (req : Nat) (p : Fin 24) (s : State) :
    Writes s req (SPRIN_CMD p) 0x5E710200 → s.supplyOn p = true →
    (s.port p).running = false → (s.port p).wait = .idle → (s.port p).polls = [] → s.on (SPRIN_NCMD_BUSY p) = false →
    ∃ t, exec (.sprinPowerCycle req p) s = .next t ∧ t.pst p = 2 ∧ (t.port p).cycling = true ∧ t.supplyOn p = false ∧
      (∀ e ∈ (t.port p).nodes, e.2.assigned = false) ∧ SameRegs [SPRIN_STATUS p, SPRIN_PWR_STATUS p] s t := by
  intro h hon hrun hw hp hbusy
  have hwrite := State.writeAt_sprinCycle h
  have hport : (s.touched (SPRIN_CMD p)).port p = s.port p := State.port_congr (s.touched_sprin (SPRIN_CMD p)) p
  have hon' : (s.touched (SPRIN_CMD p)).supplyOn p = true := by
    rw [State.supplyOn, State.pst, State.get_touched]
    exact hon
  have hbusy' : (s.touched (SPRIN_CMD p)).on (SPRIN_NCMD_BUSY p) = false := (State.on_touched ..).trans hbusy
  obtain ⟨x, hcycling, hnodes, hcycle⟩ := State.portCycle_on hon'
  have hsame0 : SameRegs [SPRIN_STATUS p, SPRIN_PWR_STATUS p] s (s.touched (SPRIN_CMD p)) :=
    (s.sameRegs_self (SPRIN_CMD p)).mono (by simp)
  rw [exec_sprinPowerCycle_eq, hwrite, hcycle]
  generalize s.touched (SPRIN_CMD p) = v at *
  rw [← hport] at hrun hw hp
  obtain ⟨hcut, hrest⟩ := State.supplyOff_rest hrun hw hp
  have hregs := State.supplyOff_quiet hrun hw hp hbusy'
  have hst : ((v.supplyOff p 1 7).setPst p pPowering).pst p = 2 := State.pst_setPst _ _ (by decide)
  have hsame : SameRegs [SPRIN_STATUS p, SPRIN_PWR_STATUS p] s ((v.supplyOff p 1 7).setPst p pPowering) :=
    (sameRegs_put (by simp)).mpr ((sameRegs_congr hregs).mpr ((sameRegs_put (by simp)).mpr hsame0))
  have hcut' : ((v.supplyOff p 1 7).setPst p pPowering).port p = (v.port p).atRest.cut :=
    (State.port_congr (State.setPst_sprin ..) p).trans hcut
  generalize (v.supplyOff p 1 7).setPst p pPowering = w at *
  have hfinal := State.port_setPort w p x
  have hwregs := w.setPort_regs p x
  refine ⟨_, rfl, (State.pst_congr hwregs p).trans hst, by rw [hfinal, hcycling], ?_, ?_, (sameRegs_congr hwregs).mpr hsame⟩
  · rw [State.supplyOn, hfinal, hcycling]
    simp
  · rw [hfinal, hnodes, hcut']
    exact (v.port p).atRest.cut_unassigned

theorem exec_sprinStuck_none (p : Fin 24) (s : State) :
    (s.dpUp = false ∨ s.pst p ≠ 3 ∧ s.pst p ≠ 4) → exec (.sprinStuck p) s = .next s := by
  intro h
  cases hup : s.dpUp
  · exact next_when_down hup _
  · have hnot : ¬ (s.pst p = pEnum ∨ s.pst p = pRun) := by
      simp only [hup, Bool.true_eq_false, false_or] at h
      exact not_or.mpr h
    rw [exec_sprinStuck_eq hup, State.portStuckTest, if_neg (fun h => hnot h.1), State.portStuck, if_neg hnot]

theorem exec_sprinPowerCycleEnd_powers (p : Fin 24) (s : State) :
    s.dpUp = true → (s.port p).cycling = true →
    ∃ t, exec (.sprinPowerCycleEnd p) s = .next t ∧ t.pst p = (if s.on (SPRIN_CFG_ENABLE p) then if s.on PWR_STATUS_VCAB_OK then 2 else 1 else 0) ∧
      t.port p = { s.port p with cycling := false } ∧ SameRegs [SPRIN_STATUS p] s t := by
  intro hup hc
  rw [exec_sprinPowerCycleEnd_eq hup, State.portCycleEnd, if_pos hc]
  exact ⟨_, rfl, State.portPower_pst (s.setPort p _) p, State.port_setPort s p _,
    (State.portPower_onlyRegs (s.setPort p _) p).1⟩

theorem exec_sprinPowerCycleEnd_none (p : Fin 24) (s : State) :
    (s.dpUp = false ∨ (s.port p).cycling = false) → exec (.sprinPowerCycleEnd p) s = .next s := by
  intro h
  cases hup : s.dpUp
  · exact next_when_down hup _
  · rw [exec_sprinPowerCycleEnd_eq hup, State.portCycleEnd, if_neg (by simpa [hup] using h)]

/-- Settles O38: a port's trip, retry, stuck line and power cycle. -/
theorem sprinSupply : Obligations.SprinSupply :=
  ⟨exec_sprinSupplyTrip_trips, exec_sprinSupplyTrip_none, exec_sprinSupplyRetry_powers, exec_sprinStuckEnd_powers,
    exec_sprinStuckEnd_none, exec_sprinStuck_tests, exec_sprinStuck_faults, exec_sprinStuck_none,
    exec_sprinPowerCycle_cycles, exec_sprinPowerCycleEnd_powers, exec_sprinPowerCycleEnd_none⟩

end Sys2Proof.Machine
end

section
/-! PROOFS. Field inputs (R198 to R206), the analog-output monitor (R213) and pulse inputs (R214, R215). -/

namespace Sys2Proof.Machine

open Reg

/-- The input after a sample that is not broken. -/
def FieldIn.sampled (x : FieldIn) : FieldIn := { x with goodRun := min 3 (x.goodRun + 1), settle := x.settle - 1 }

namespace State

section Publications

/-- The words of an entry that has just been written. -/
theorem estBack_estWrite (s : State) (n : Nat) (w0 w1 w2 w3 : Word) :
    (s.estWrite n w0 w1 w2 w3).estBack n 0 = w0 ∧ (s.estWrite n w0 w1 w2 w3).estBack n 2 = w2 ∧
    (s.estWrite n w0 w1 w2 w3).estBack n 3 = w3 := by
  refine ⟨?_, ?_, tget_tset_same ..⟩
  · refine (tget_tset_ne _ _ _ (by omega)).trans ((tget_tset_ne _ _ _ (by omega)).trans ((tget_tset_ne _ _ _ (by omega)).trans ?_))
    exact tget_tset_same ..
  · exact (tget_tset_ne _ _ _ (by omega)).trans (tget_tset_same ..)

/-- A valid publication shows VALID in its entry (R289). -/
theorem entryWord3_valid (s : State) (n : Nat) : (s.entryWord3 n { valid := true }).getLsbD 31 = true := by
  have hlow : (bits (s.estBack n 3) 7 0 + 1) % 256 < 2 ^ 31 := lt_trans (Nat.mod_lt _ (by decide)) (by decide)
  have hword : s.entryWord3 n { valid := true } = BitVec.ofNat 32 (2 ^ 31 + (bits (s.estBack n 3) 7 0 + 1) % 256) := by
    simp [entryWord3, satTo]
  rw [hword, BitVec.getLsbD_ofNat, Nat.testBit_two_pow_add_eq, Nat.testBit_lt_two_pow hlow]
  rfl

theorem publish_valid (s : State) (n : Nat) (v sigma : F32) (tick : Word) :
    (s.publish n v sigma tick { valid := true }).estBack n 0 = v ∧
    (s.publish n v sigma tick { valid := true }).estBack n 2 = tick ∧
    ((s.publish n v sigma tick { valid := true }).estBack n 3).getLsbD 31 = true := by
  obtain ⟨hvalue, htime, hflags⟩ := s.estBack_estWrite n v sigma tick (s.entryWord3 n { valid := true })
  exact ⟨hvalue, htime, (congrArg (fun w : Word => w.getLsbD 31) hflags).trans (s.entryWord3_valid n)⟩

theorem publish_rest (s : State) (n : Nat) (v sigma : F32) (tick : Word) (i : EntryInfo) :
    ∃ e, s.publish n v sigma tick i = { s with est := e } := ⟨_, rfl⟩

end Publications

section Fields
variable {s : State} {i : Nat}

/-- An input as a filter window that is not broken leaves it (R203 to R205). -/
def fieldShown (s : State) (i : Nat) (raw stamp aux v : Word) (x : FieldIn) (settling range : Bool) : State :=
  ((((((((s.inc (FIELD_STATUS_SAMPLES i)).setReg (FIELD_RAW i) raw).setReg (FIELD_STAMP i) stamp).setReg (FIELD_AUX i)
    aux).setFin i x).putB (FIELD_STATUS_SETTLING i) settling).putB (FIELD_STATUS_OVERRANGE i) range).setReg (FIELD_VALUE i) v)

theorem fin_congr {t u : State} (h : t.field = u.field) (i : Nat) : t.fin i = u.fin i :=
  congrArg (fun m => tget (fun _ => ({} : FieldIn)) m i) h

theorem fin_setFin (s : State) (i : Nat) (x : FieldIn) : (s.setFin i x).fin i = x :=
  tget_tset_same (fun _ => ({} : FieldIn)) s.field i x

theorem setFin_regs (s : State) (i : Nat) (x : FieldIn) : (s.setFin i x).regs = s.regs := rfl

theorem fieldShown_shown (s : State) (i : Nat) (raw stamp aux v : Word) (x : FieldIn) (settling range : Bool) :
    (s.fieldShown i raw stamp aux v x settling range).reg (FIELD_VALUE i) = v ∧
    (s.fieldShown i raw stamp aux v x settling range).reg (FIELD_RAW i) = raw ∧
    (s.fieldShown i raw stamp aux v x settling range).reg (FIELD_STAMP i) = stamp ∧
    (s.fieldShown i raw stamp aux v x settling range).get (FIELD_STATUS_SAMPLES i) =
      (s.get (FIELD_STATUS_SAMPLES i) + 1) % 65536 ∧
    (s.fieldShown i raw stamp aux v x settling range).get (FIELD_STATUS_OVERRANGE i) = (if range then 1 else 0) ∧
    (s.fieldShown i raw stamp aux v x settling range).get (FIELD_STATUS_SETTLING i) = (if settling then 1 else 0) ∧
    SameRegs [FIELD_STATUS i, FIELD_RAW i, FIELD_VALUE i, FIELD_AUX i, FIELD_STAMP i] s
      (s.fieldShown i raw stamp aux v x settling range) := by
  have hreg (t : State) (a : Nat) : (t.setFin i x).reg a = t.reg a := reg_congr (t.setFin_regs i x) a
  have hget (t : State) (f : Fld) : (t.setFin i x).get f = t.get f := get_congr (t.setFin_regs i x) f
  have hsame (t : State) (l : List Nat) : SameRegs l s (t.setFin i x) ↔ SameRegs l s t := sameRegs_congr (t.setFin_regs i x)
  simp [fieldShown, hreg, hget, hsame, reg_setReg_ne, reg_setReg_same, reg_putB_ne, get_putB_same, get_putB_ne,
    get_inc_same, get_setReg_ne]

theorem fieldShown_rest (s : State) (i : Nat) (raw stamp aux v : Word) (x : FieldIn) (settling range : Bool) :
    (s.fieldShown i raw stamp aux v x settling range).fin i = x ∧
    (s.fieldShown i raw stamp aux v x settling range).est = s.est ∧
    (s.fieldShown i raw stamp aux v x settling range).mill = s.mill ∧
    (s.fieldShown i raw stamp aux v x settling range).smap = s.smap ∧
    (s.fieldShown i raw stamp aux v x settling range).log = s.log :=
  ⟨fin_setFin _ i x, rfl, rfl, rfl, rfl⟩

/-- An input's counts and words as a filter window ends, before its state is decided (R203). -/
def fieldTaken (s : State) (i : Nat) (raw stamp aux : Word) : State :=
  (((s.inc (FIELD_STATUS_SAMPLES i)).setReg (FIELD_RAW i) raw).setReg (FIELD_STAMP i) stamp).setReg (FIELD_AUX i) aux

theorem fieldTaken_kept (s : State) (i : Nat) (raw stamp aux : Word) :
    (s.fieldTaken i raw stamp aux).on (FIELD_STATUS_BROKEN i) = s.on (FIELD_STATUS_BROKEN i) ∧
    (s.fieldTaken i raw stamp aux).fin i = s.fin i := by
  refine ⟨?_, fin_congr rfl i⟩
  simp [fieldTaken, State.on, get_setReg_ne, get_inc_ne]

/-- What a sample of measure `m` does with an input: `b` has taken it, `x` was the input, BROKEN or not (R205). -/
def fieldDecided (a : State) (i : Nat) (m : Measure) (t : Nat) (b : State) (x : FieldIn) (was : Bool) : State :=
  let v := ffma (a.reg (FIELD_SCALE i)) m.q (a.reg (FIELD_OFFSET i))
  let run := if m.broken then 0 else min 3 (x.goodRun + 1)
  let c := b.setFin i { x with goodRun := run, settle := x.settle - 1 }
  let d := c.putB (FIELD_STATUS_SETTLING i) (decide (1 < x.settle))
  let e := if m.broken then (if was then d else d.fieldBroken i)
    else if was && decide (run = 3) then (d.putB (FIELD_STATUS_BROKEN i) false).fev7 0x7011 i else d
  let f := (e.putB (FIELD_STATUS_OVERRANGE i) (!m.broken && m.range)).setReg (FIELD_VALUE i)
    (if m.broken then fNaN else v)
  let valid := !m.broken && !m.range
  if x.settle ≠ 0 then f
  else
    let g := f.fieldPublish i valid (f.fieldSigma i m) t
    if valid then g.fieldForward i (g.fieldSigma i m) t else g

theorem fieldSample_eq (s : State) (i : Nat) (raw : Int) (y : List F32) (t : Nat) : s.fieldSample i raw y t =
    if !s.dpUp || decide (s.get (FIELD_CFG_MODE i) = 0) || s.on (FIELD_STATUS_FENCED i) || s.on (FIELD_STATUS_TESTING i) ||
      !windowEnds i (s.get (FIELD_CFG_RATE i)) t then s
    else (s.fieldTempSource i t).fieldDecided i ((s.fieldTempSource i t).measureField i raw y t) t
      ((s.fieldTempSource i t).fieldTaken i ((s.fieldTempSource i t).measureField i raw y t).rawShown
        (BitVec.ofNat 32 (t / 1000)) ((s.fieldTempSource i t).measureField i raw y t).aux)
      (((s.fieldTempSource i t).fieldTaken i ((s.fieldTempSource i t).measureField i raw y t).rawShown
        (BitVec.ofNat 32 (t / 1000)) ((s.fieldTempSource i t).measureField i raw y t).aux).fin i)
      (((s.fieldTempSource i t).fieldTaken i ((s.fieldTempSource i t).measureField i raw y t).rawShown
        (BitVec.ofNat 32 (t / 1000)) ((s.fieldTempSource i t).measureField i raw y t).aux).on (FIELD_STATUS_BROKEN i)) := by
  unfold fieldSample
  rfl

/-- A filter window that ends on an input in use is a sample of it, in any mode but the dielectric one. -/
theorem fieldSample_taken (hup : s.dpUp = true) {t : Nat} (hw : windowEnds i (s.get (FIELD_CFG_RATE i)) t = true)
    (h0 : s.get (FIELD_CFG_MODE i) ≠ 0) (h6 : s.get (FIELD_CFG_MODE i) ≠ 6) (hf : s.on (FIELD_STATUS_FENCED i) = false)
    (ht : s.on (FIELD_STATUS_TESTING i) = false) (hb : s.on (FIELD_STATUS_BROKEN i) = false) {raw : Int} {y : List F32}
    {m : Measure} (hm : s.measureField i raw y t = m) {b : State}
    (hbe : s.fieldTaken i m.rawShown (BitVec.ofNat 32 (t / 1000)) m.aux = b) :
    s.fieldSample i raw y t = s.fieldDecided i m t b (s.fin i) false := by
  have hgate : ¬ (!s.dpUp || decide (s.get (FIELD_CFG_MODE i) = 0) || s.on (FIELD_STATUS_FENCED i) ||
      s.on (FIELD_STATUS_TESTING i) || !windowEnds i (s.get (FIELD_CFG_RATE i)) t) = true := by
    simp [hup, hw, h0, hf, ht]
  have htemp : s.fieldTempSource i t = s := if_pos h6
  obtain ⟨hon, hfin⟩ := s.fieldTaken_kept i m.rawShown (BitVec.ofNat 32 (t / 1000)) m.aux
  rw [hbe] at hon hfin
  rw [hb] at hon
  rw [fieldSample_eq, if_neg hgate, htemp, hm, hbe, hon, hfin]

section Decided
variable {a b : State} {x : FieldIn} {m : Measure} {t : Nat}


/-- A sample of an input that settles publishes nothing (R204). -/
theorem fieldDecided_settling (hm : m.broken = false) (hs : x.settle ≠ 0) (raw stamp aux : Word) :
    a.fieldDecided i m t (s.fieldTaken i raw stamp aux) x false =
      s.fieldShown i raw stamp aux (ffma (a.reg (FIELD_SCALE i)) m.q (a.reg (FIELD_OFFSET i))) x.sampled
        (decide (1 < x.settle)) m.range := by
  obtain ⟨q, aux', bound, broken, range, shown⟩ := m
  cases hm
  exact if_pos hs

/-- A sample within its range is published and forwarded (R36, R203). -/
theorem fieldDecided_valid (hm : m.broken = false) (hr : m.range = false) (hs : x.settle = 0) (raw stamp aux : Word) :
    ∃ σ σ', a.fieldDecided i m t (s.fieldTaken i raw stamp aux) x false =
      ((s.fieldShown i raw stamp aux (ffma (a.reg (FIELD_SCALE i)) m.q (a.reg (FIELD_OFFSET i))) x.sampled
        (decide (1 < x.settle)) false).fieldPublish i true σ t).fieldForward i σ' t := by
  obtain ⟨q, aux', bound, broken, range, shown⟩ := m
  cases hm
  cases hr
  exact ⟨_, _, if_neg (not_not.mpr hs)⟩

/-- An input that reads broken while it settles (R205). -/
theorem fieldDecided_broken (hm : m.broken = true) (hs : x.settle ≠ 0) :
    a.fieldDecided i m t b x false = ((((b.setFin i { x with goodRun := 0, settle := x.settle - 1 }).putB
      (FIELD_STATUS_SETTLING i) (decide (1 < x.settle))).fieldBroken i).putB (FIELD_STATUS_OVERRANGE i) false).setReg
        (FIELD_VALUE i) fNaN := by
  obtain ⟨q, aux', bound, broken, range, shown⟩ := m
  cases hm
  exact if_pos hs


/-- What a state has logged rests on its recorder alone. -/
theorem logged_congr {p c a b d : Nat} {s t u : State} (h : Logged p c a b d s t) (hlog : u.log = t.log) :
    Logged p c a b d s u := by
  rw [Logged, hlog]
  exact h

/-- What an input that enters BROKEN shows (R205). -/
theorem fieldBroken_shown (h2 : s.get (FIELD_CFG_MODE i) = 2) (hroom : Room s portField) (raw stamp aux : Word)
    (x : FieldIn) (c : Bool) :
    ∃ t, (Host.Outcome.next ((((((s.fieldTaken i raw stamp aux).setFin i x).putB (FIELD_STATUS_SETTLING i) c).fieldBroken
        i).putB (FIELD_STATUS_OVERRANGE i) false).setReg (FIELD_VALUE i) fNaN) : Res) = .next t ∧
      t.get (FIELD_STATUS_BROKEN i) = 1 ∧ t.get (FIELD_STATUS_BROKEN_SEEN i) = 1 ∧ t.reg (FIELD_VALUE i) = 0x7FC00000 ∧
      t.est = s.est ∧ SameRegs [FIELD_STATUS i, FIELD_RAW i, FIELD_VALUE i, FIELD_AUX i, FIELD_STAMP i] s t ∧
      Logged portField 0x7010 i 2 raw.toNat s t := by
  have hreg (t : State) (a : Nat) : (t.setFin i x).reg a = t.reg a := reg_congr (t.setFin_regs i x) a
  have hget (t : State) (f : Fld) : (t.setFin i x).get f = t.get f := get_congr (t.setFin_regs i x) f
  have hsame (t : State) (l : List Nat) : SameRegs l s (t.setFin i x) ↔ SameRegs l s t := sameRegs_congr (t.setFin_regs i x)
  have hmode : (((s.fieldTaken i raw stamp aux).setFin i x).putB (FIELD_STATUS_SETTLING i) c).get (FIELD_CFG_MODE i) = 2 := by
    simp [fieldTaken, hget, get_putB_ne, get_setReg_ne, get_inc_ne, h2]
  have hshown : (((s.fieldTaken i raw stamp aux).setFin i x).putB (FIELD_STATUS_SETTLING i) c).reg (FIELD_RAW i) = raw := by
    simp [fieldTaken, hreg, reg_putB_ne, reg_setReg_ne, reg_setReg_same]
  have hkept : SameRegs [FIELD_STATUS i, FIELD_RAW i, FIELD_VALUE i, FIELD_AUX i, FIELD_STAMP i] s
      (((s.fieldTaken i raw stamp aux).setFin i x).putB (FIELD_STATUS_SETTLING i) c) := by
    simp [fieldTaken, hsame]
  have hlog : (((s.fieldTaken i raw stamp aux).setFin i x).putB (FIELD_STATUS_SETTLING i) c).log = s.log := rfl
  have hpwr : (((s.fieldTaken i raw stamp aux).setFin i x).putB (FIELD_STATUS_SETTLING i) c).pwr = s.pwr := rfl
  have hest : (((s.fieldTaken i raw stamp aux).setFin i x).putB (FIELD_STATUS_SETTLING i) c).est = s.est := rfl
  rw [fieldBroken, fev7, hmode, hshown]
  generalize ((s.fieldTaken i raw stamp aux).setFin i x).putB (FIELD_STATUS_SETTLING i) c = u at *
  have hroom' : Room (((u.putB (FIELD_STATUS_BROKEN i) true).putB (FIELD_STATUS_BROKEN_SEEN i) true).setReg (FIELD_VALUE i)
    fNaN) portField := (hroom.of_log hlog hpwr).of_log rfl rfl
  rw [ev_of_room hroom']
  refine ⟨_, rfl, ?_, ?_, reg_setReg_same .., hest, ?_, ?_⟩
  · simp [get_setReg_ne, get_putB_ne, get_putB_same]
  · simp [get_setReg_ne, get_putB_ne, get_putB_same]
  · simpa using hkept
  · exact logged_congr (Logged.from_log (logged_wrote _ portField 0x7010 i 2 raw.toNat) (((setReg_log ..).trans
      ((putB_log ..).trans (putB_log ..))).trans hlog)) ((setReg_log ..).trans (putB_log ..))

end Decided

/-- The publication of an input whose value has one entry, and its second quantity none. -/
theorem fieldPublish_one {p : Pub} (h1 : s.fieldPubs i false = [p]) (h2 : s.fieldPubs i true = []) (σ : F32) (t : Nat) :
    s.fieldPublish i true σ t = s.publish p.entry (s.reg (FIELD_VALUE i)) σ (tickOf t) { valid := true } := by
  rw [fieldPublish, h1, h2]
  rfl

/-- A value forwarded from an input arrives at each anchor that reads it (R36). -/
theorem fieldForward_inbox (s : State) (i : Nat) (σ : F32) (t : Nat) :
    (((s.fieldForward i σ t).mill.inbox.drop s.mill.inbox.length).map (fun x => (x.anchor, x.value, x.stamp))) =
      (s.smap.anchors.zipIdx.filter (fun a => a.1.source = fieldSource i false)).map (fun a => (a.2, s.reg (FIELD_VALUE i), t)) ++
      (s.smap.anchors.zipIdx.filter (fun a => a.1.source = fieldSource i true)).map (fun a => (a.2, s.reg (FIELD_AUX i), t)) := by
  have hinbox : (s.fieldForward i σ t).mill.inbox = s.mill.inbox ++
      ((s.smap.anchors.zipIdx.filter (fun a => a.1.source = fieldSource i false)).map (fun p =>
        ({ anchor := p.2, value := s.reg (FIELD_VALUE i), sigma := σ, stamp := t } : Reading)) ++
      (s.smap.anchors.zipIdx.filter (fun a => a.1.source = fieldSource i true)).map (fun p =>
        ({ anchor := p.2, value := s.reg (FIELD_AUX i), sigma := fNaN, stamp := t } : Reading))) := by
    rw [← List.append_assoc]
    rfl
  rw [hinbox, List.drop_left, List.map_append, List.map_map, List.map_map]
  rfl

theorem fieldForward_rest (s : State) (i : Nat) (σ : F32) (t : Nat) : (s.fieldForward i σ t).regs = s.regs ∧
    (s.fieldForward i σ t).est = s.est ∧ (s.fieldForward i σ t).log = s.log := ⟨rfl, rfl, rfl⟩


/-- A raw code is shown as a signed word. -/
theorem shown_raw (raw : BitVec 24) : BitVec.ofNat 32 (ofSigned 32 raw.toInt) = raw.signExtend 32 := by
  rw [BitVec.signExtend, ofSigned]
  apply BitVec.eq_of_toNat_eq
  rw [BitVec.toNat_ofNat, BitVec.toNat_ofInt]
  omega

/-- What a VOLT and a CURR sample measure (R200). -/
def voltSample (raw : BitVec 24) : Measure := { measureVolt raw.toInt with rawShown := raw.signExtend 32 }
def currSample (raw : BitVec 24) : Measure := { measureCurr raw.toInt with rawShown := raw.signExtend 32 }

theorem measureField_volt (h1 : s.get (FIELD_CFG_MODE i) = 1) (raw : BitVec 24) (y : List F32) (t : Nat) :
    s.measureField i raw.toInt y t = voltSample raw := by
  rw [measureField, shown_raw]
  exact if_pos h1

theorem measureField_curr (h2 : s.get (FIELD_CFG_MODE i) = 2) (raw : BitVec 24) (y : List F32) (t : Nat) :
    s.measureField i raw.toInt y t = currSample raw := by
  rw [measureField, shown_raw]
  dsimp only
  rw [h2, if_neg (by decide)]
  rfl

end Fields

section Shunt
variable {s : State} {i : Nat}

theorem shuntReclose_open (h : (s.fin i).shuntOpen = true) :
    s.shuntReclose i = (s.setFin i { s.fin i with shuntOpen := false }).fieldSettle i := if_pos h

end Shunt

end State

theorem exec_fieldSample_eq (i : Fin 32) (raw : BitVec 24) (y : List F32) (t : Nat) (s : State) :
    exec (.fieldSample i raw y t) s = .next (s.fieldSample i.val raw.toInt y t) := rfl
theorem exec_shuntOverload_eq {s : State} (h : s.dpUp = true) (i : Fin 32) :
    exec (.shuntOverload i) s = .next (s.shuntOverload i.val) := congrArg Host.Outcome.next (if_pos h)
theorem exec_shuntReclose_eq {s : State} (h : s.dpUp = true) (i : Fin 32) :
    exec (.shuntReclose i) s = .next (s.shuntReclose i.val) := congrArg Host.Outcome.next (if_pos h)

theorem exec_fieldSample_volt (i : Fin 32) (raw : BitVec 24) (y : List F32) (at_ n : Nat) (p : Pub) (s : State) :
    s.dpUp = true → windowEnds i (s.get (FIELD_CFG_RATE i)) at_ = true →
    s.get (FIELD_CFG_MODE i) = 1 → s.on (FIELD_STATUS_FENCED i) = false → s.on (FIELD_STATUS_TESTING i) = false → s.on (FIELD_STATUS_BROKEN i) = false →
    (s.fin i).settle = 0 → raw.toInt.natAbs * 1024 ≤ 1020 * 2 ^ 23 → s.fieldPubs i false = [p] → s.fieldPubs i true = [] →
    p.entry = n →
    ∃ t, exec (.fieldSample i raw y at_) s = .next t ∧
      t.reg (FIELD_VALUE i) = ffma (s.reg (FIELD_SCALE i)) (fofRat (raw.toInt * 1024) (2 ^ 23 * 100)) (s.reg (FIELD_OFFSET i)) ∧
      t.reg (FIELD_RAW i) = raw.signExtend 32 ∧ t.reg (FIELD_STAMP i) = BitVec.ofNat 32 (at_ / 1000) ∧
      t.get (FIELD_STATUS_SAMPLES i) = (s.get (FIELD_STATUS_SAMPLES i) + 1) % 65536 ∧
      t.get (FIELD_STATUS_OVERRANGE i) = 0 ∧ t.estBack n 0 = t.reg (FIELD_VALUE i) ∧ t.estBack n 2 = tickOf at_ ∧
      (t.estBack n 3).getLsbD 31 = true ∧
      (t.mill.inbox.drop s.mill.inbox.length).map (fun x => (x.anchor, x.value, x.stamp)) =
        (s.smap.anchors.zipIdx.filter (fun a => a.1.source = fieldSource i false)).map (fun a => (a.2, t.reg (FIELD_VALUE i), at_)) ++
        (s.smap.anchors.zipIdx.filter (fun a => a.1.source = fieldSource i true)).map (fun a => (a.2, t.reg (FIELD_AUX i), at_)) ∧
      SameRegs [FIELD_STATUS i, FIELD_RAW i, FIELD_VALUE i, FIELD_AUX i, FIELD_STAMP i] s t ∧ t.log = s.log := by
  intro hup hw h1 hf ht hb hsettle hrange hpub hpub2 hn
  have hm := State.measureField_volt h1 raw y at_
  have hsample := State.fieldSample_taken hup hw (by rw [h1]; decide) (by rw [h1]; decide) hf ht hb hm rfl
  have hin : (State.voltSample raw).range = false := decide_eq_false (by omega)
  obtain ⟨σ, σ', hvalid⟩ := State.fieldDecided_valid (a := s) (s := s) (i := i.val) (x := s.fin i) (t := at_)
    (m := State.voltSample raw) rfl hin hsettle
    (State.voltSample raw).rawShown (BitVec.ofNat 32 (at_ / 1000)) (State.voltSample raw).aux
  rw [exec_fieldSample_eq, hsample, hvalid]
  have hq : ffma (s.reg (FIELD_SCALE i)) (State.voltSample raw).q (s.reg (FIELD_OFFSET i)) =
      ffma (s.reg (FIELD_SCALE i)) (fofRat (raw.toInt * 1024) (2 ^ 23 * 100)) (s.reg (FIELD_OFFSET i)) := rfl
  have hraw : (State.voltSample raw).rawShown = raw.signExtend 32 := rfl
  rw [hq, hraw]
  generalize ffma (s.reg (FIELD_SCALE i)) (fofRat (raw.toInt * 1024) (2 ^ 23 * 100)) (s.reg (FIELD_OFFSET i)) = v
  generalize (State.voltSample raw).aux = aux
  obtain ⟨hvalue, hshown, hstamp, hsamples, hover, -, hsame⟩ := State.fieldShown_shown s i (raw.signExtend 32)
    (BitVec.ofNat 32 (at_ / 1000)) aux v (s.fin i).sampled (decide (1 < (s.fin i).settle)) false
  obtain ⟨-, -, hmill, hsmap, hlog⟩ := State.fieldShown_rest s i (raw.signExtend 32)
    (BitVec.ofNat 32 (at_ / 1000)) aux v (s.fin i).sampled (decide (1 < (s.fin i).settle)) false
  generalize s.fieldShown i (raw.signExtend 32) (BitVec.ofNat 32 (at_ / 1000)) aux v (s.fin i).sampled
    (decide (1 < (s.fin i).settle)) false = u at *
  have hpubs (b : Bool) : u.fieldPubs i b = s.fieldPubs i b := by rw [State.fieldPubs, State.fieldPubs, hsmap]
  rw [State.fieldPublish_one ((hpubs false).trans hpub) ((hpubs true).trans hpub2), hn]
  obtain ⟨hword, htick, hflag⟩ := u.publish_valid n (u.reg (FIELD_VALUE i)) σ (tickOf at_)
  obtain ⟨e, hpublish⟩ := u.publish_rest n (u.reg (FIELD_VALUE i)) σ (tickOf at_) { valid := true }
  have hregs2 : (u.publish n (u.reg (FIELD_VALUE i)) σ (tickOf at_) { valid := true }).regs = u.regs := by rw [hpublish]
  have hmill2 : (u.publish n (u.reg (FIELD_VALUE i)) σ (tickOf at_) { valid := true }).mill = s.mill := by rw [hpublish, ← hmill]
  have hsmap2 : (u.publish n (u.reg (FIELD_VALUE i)) σ (tickOf at_) { valid := true }).smap = s.smap := by rw [hpublish, ← hsmap]
  have hlog2 : (u.publish n (u.reg (FIELD_VALUE i)) σ (tickOf at_) { valid := true }).log = s.log := by rw [hpublish, ← hlog]
  generalize u.publish n (u.reg (FIELD_VALUE i)) σ (tickOf at_) { valid := true } = w at *
  have hinbox := w.fieldForward_inbox i σ' at_
  obtain ⟨hregs3, hest3, hlog3⟩ := w.fieldForward_rest i σ' at_
  rw [hmill2, hsmap2] at hinbox
  generalize w.fieldForward i σ' at_ = t at *
  have hregs := hregs3.trans hregs2
  have hval : t.reg (FIELD_VALUE i) = v := (State.reg_congr hregs _).trans hvalue
  have hback (k : Nat) : t.estBack n k = w.estBack n k := by rw [State.estBack, State.estBack, hest3]
  rw [State.reg_congr hregs3.symm, State.reg_congr hregs3.symm] at hinbox
  refine ⟨_, rfl, hval, (State.reg_congr hregs _).trans hshown, (State.reg_congr hregs _).trans hstamp,
    (State.get_congr hregs _).trans hsamples, (State.get_congr hregs _).trans hover, ?_, (hback 2).trans htick, ?_, hinbox,
    (sameRegs_congr hregs).mpr hsame, hlog3.trans hlog2⟩
  · rw [hback, hword, hvalue, hval]
  · rw [hback, hflag]

theorem exec_fieldSample_settles (i : Fin 32) (raw : BitVec 24) (y : List F32) (at_ : Nat) (s : State) :
    s.dpUp = true → windowEnds i (s.get (FIELD_CFG_RATE i)) at_ = true →
    s.get (FIELD_CFG_MODE i) = 1 → s.on (FIELD_STATUS_FENCED i) = false → s.on (FIELD_STATUS_TESTING i) = false → s.on (FIELD_STATUS_BROKEN i) = false →
    2 ≤ (s.fin i).settle →
    ∃ t, exec (.fieldSample i raw y at_) s = .next t ∧ t.get (FIELD_STATUS_SETTLING i) = 1 ∧
      (t.fin i).settle = (s.fin i).settle - 1 ∧ t.est = s.est ∧ t.mill = s.mill ∧
      SameRegs [FIELD_STATUS i, FIELD_RAW i, FIELD_VALUE i, FIELD_AUX i, FIELD_STAMP i] s t := by
  intro hup hw h1 hf ht hb hsettle
  have hm := State.measureField_volt h1 raw y at_
  have hsample := State.fieldSample_taken hup hw (by rw [h1]; decide) (by rw [h1]; decide) hf ht hb hm rfl
  rw [State.fieldDecided_settling rfl (by omega)] at hsample
  obtain ⟨-, -, -, -, -, hsettling, hsame⟩ := State.fieldShown_shown s i _ _ _ _ _ (decide (1 < (s.fin i).settle)) _
  obtain ⟨hfin, hest, hmill, -, -⟩ := State.fieldShown_rest s i _ _ _ _ _ (decide (1 < (s.fin i).settle)) _
  rw [exec_fieldSample_eq, hsample]
  refine ⟨_, rfl, hsettling.trans (if_pos (decide_eq_true (by omega))), ?_, hest, hmill, hsame⟩
  exact congrArg FieldIn.settle hfin

theorem exec_fieldSample_breaks (i : Fin 32) (raw : BitVec 24) (y : List F32) (at_ : Nat) (s : State) :
    s.dpUp = true → windowEnds i (s.get (FIELD_CFG_RATE i)) at_ = true →
    s.get (FIELD_CFG_MODE i) = 2 → s.on (FIELD_STATUS_FENCED i) = false → s.on (FIELD_STATUS_TESTING i) = false → s.on (FIELD_STATUS_BROKEN i) = false →
    (s.fin i).settle ≠ 0 → raw.toInt * 256 < 5 * 2 ^ 23 → Room s portField →
    ∃ t, exec (.fieldSample i raw y at_) s = .next t ∧ t.get (FIELD_STATUS_BROKEN i) = 1 ∧
      t.get (FIELD_STATUS_BROKEN_SEEN i) = 1 ∧ t.reg (FIELD_VALUE i) = 0x7FC00000 ∧ t.est = s.est ∧
      SameRegs [FIELD_STATUS i, FIELD_RAW i, FIELD_VALUE i, FIELD_AUX i, FIELD_STAMP i] s t ∧
      Logged portField 0x7010 i 2 (raw.signExtend 32).toNat s t := by
  intro hup hw h2 hf ht hb hsettle hlow hroom
  have hm := State.measureField_curr h2 raw y at_
  have hbroken : (State.currSample raw).broken = true := decide_eq_true hlow
  have hsample := State.fieldSample_taken hup hw (by rw [h2]; decide) (by rw [h2]; decide) hf ht hb hm rfl
  rw [State.fieldDecided_broken hbroken hsettle] at hsample
  have hraw : (State.currSample raw).rawShown = raw.signExtend 32 := rfl
  rw [hraw] at hsample
  rw [exec_fieldSample_eq, hsample]
  exact State.fieldBroken_shown h2 hroom _ _ _ _ _

theorem exec_fieldSample_none (i : Fin 32) (raw : BitVec 24) (y : List F32) (at_ : Nat) (s : State) :
    (s.dpUp = false ∨ s.get (FIELD_CFG_MODE i) = 0 ∨
    windowEnds i (s.get (FIELD_CFG_RATE i)) at_ = false ∨
    s.on (FIELD_STATUS_FENCED i) = true ∨ s.on (FIELD_STATUS_TESTING i) = true) →
    exec (.fieldSample i raw y at_) s = .next s := by
  intro h
  rw [exec_fieldSample_eq, State.fieldSample, if_pos]
  rcases h with h | h | h | h | h <;> simp [h]

theorem exec_shuntOverload_opens (i : Fin 32) (s : State) :
    s.dpUp = true → s.get (FIELD_CFG_MODE i) = 2 → (s.fin i).shuntOpen = false → Room s portField →
    ∃ t, exec (.shuntOverload i) s = .next t ∧ t.fin i = { s.fin i with shuntOpen := true } ∧
      t.get (FIELD_STATUS_OVERLOAD i) = 1 ∧ SameRegs [FIELD_STATUS i] s t ∧ Logged portField 0x7012 i 0 0 s t := by
  intro hup h2 hopen hroom
  have hopens : s.shuntOverload i = ((s.setFin i { s.fin i with shuntOpen := true }).putB (FIELD_STATUS_OVERLOAD i)
    true).fev7 0x7012 i := if_pos (by simp [h2, hopen])
  have hroom' : Room ((s.setFin i { s.fin i with shuntOpen := true }).putB (FIELD_STATUS_OVERLOAD i) true) portField :=
    hroom.of_log rfl rfl
  rw [exec_shuntOverload_eq hup, hopens, State.fev7, State.ev_of_room hroom']
  have hregs := s.setFin_regs i { s.fin i with shuntOpen := true }
  refine ⟨_, rfl, State.fin_setFin s i _, State.get_putB_same _ (FIELD_STATUS_OVERLOAD i) true (by simp), ?_, rfl⟩
  exact sameRegs_wrote.mpr ((sameRegs_putB (by simp)).mpr ((sameRegs_congr hregs).mpr sameRegs_refl))

theorem exec_shuntOverload_none (i : Fin 32) (s : State) :
    (s.dpUp = false ∨ s.get (FIELD_CFG_MODE i) ≠ 2) → exec (.shuntOverload i) s = .next s := by
  intro h
  cases hup : s.dpUp
  · exact next_when_down hup _
  · rw [exec_shuntOverload_eq hup, State.shuntOverload, if_neg]
    simp [h.resolve_left (by simp [hup])]

theorem exec_shuntReclose_settles (i : Fin 32) (s : State) :
    s.dpUp = true → (s.fin i).shuntOpen = true →
    ∃ t, exec (.shuntReclose i) s = .next t ∧ t.fin i = { s.fin i with
        shuntOpen := false
        settle := if s.get (FIELD_CFG_MODE i) = 0 ∨ s.on (FIELD_STATUS_FENCED i) = true then 0 else 3 } ∧
      t.get (FIELD_STATUS_SETTLING i) =
        (if s.get (FIELD_CFG_MODE i) = 0 ∨ s.on (FIELD_STATUS_FENCED i) = true then 0 else 1) ∧ SameRegs [FIELD_STATUS i] s t ∧ t.log = s.log := by
  intro hup hopen
  have hfin := State.fin_setFin s i { s.fin i with shuntOpen := false }
  have hregs := s.setFin_regs i { s.fin i with shuntOpen := false }
  have hlog : (s.setFin i { s.fin i with shuntOpen := false }).log = s.log := rfl
  rw [exec_shuntReclose_eq hup, State.shuntReclose_open hopen]
  generalize s.setFin i { s.fin i with shuntOpen := false } = u at *
  have hmode : u.get (FIELD_CFG_MODE i) = s.get (FIELD_CFG_MODE i) := State.get_congr hregs _
  have hfence : u.on (FIELD_STATUS_FENCED i) = s.on (FIELD_STATUS_FENCED i) := State.on_congr hregs _
  have hsame (x : FieldIn) (b : Bool) : SameRegs [FIELD_STATUS i] s ((u.setFin i x).putB (FIELD_STATUS_SETTLING i) b) :=
    (sameRegs_putB (by simp)).mpr ((sameRegs_congr ((u.setFin_regs i x).trans hregs)).mpr sameRegs_refl)
  by_cases hnone : s.get (FIELD_CFG_MODE i) = 0 ∨ s.on (FIELD_STATUS_FENCED i) = true
  · rw [if_pos hnone, if_pos hnone, State.fieldSettle, if_pos (by simpa [hmode, hfence] using hnone), State.fieldSettled]
    refine ⟨_, rfl, ?_, State.get_putB_same _ (FIELD_STATUS_SETTLING i) false (by simp), hsame _ _, hlog⟩
    rw [← State.fin_setFin u i { s.fin i with shuntOpen := false, settle := 0 }, hfin]
    rfl
  · rw [if_neg hnone, if_neg hnone, State.fieldSettle, if_neg (by simpa [hmode, hfence] using hnone)]
    refine ⟨_, rfl, ?_, State.get_putB_same _ (FIELD_STATUS_SETTLING i) true (by simp), hsame _ _, hlog⟩
    rw [← State.fin_setFin u i { s.fin i with shuntOpen := false, settle := 3 }, hfin]
    rfl

/-- Settles O39: each clause is one of the lemmas on a sample, on an input that breaks and on the shunt. -/
theorem fieldInputs : Obligations.FieldInputs :=
  ⟨exec_fieldSample_volt, exec_fieldSample_settles, exec_fieldSample_breaks, exec_fieldSample_none,
    exec_shuntOverload_opens, exec_shuntOverload_none, exec_shuntReclose_settles⟩

end Sys2Proof.Machine
end

section
/-! PROOFS. Analog outputs and pulse inputs (R213 to R215). -/

namespace Sys2Proof.Machine

open Reg State
/-! ### Analog outputs (R213) -/

namespace State

section Analog
variable {s : State} {n : Nat}

theorem aoFaulted_of_deviation (h : s.get (AIO_AO_STATUS_DEVIATION n) = 1) : s.aoFaulted n = true := by
  simp [aoFaulted, on, h]

/-- A deviation that enters a fault (R213). -/
theorem aoFaultEnter_deviation (hc : s.aoCondition n = 1) (hf : s.aoFaulted n = false) (hb : s.aoBlind n = false)
    (hroom : Room s portAio) :
    s.aoFaultEnter n = (((s.incSat (AIO_AO_STATUS_FAULT_COUNT n)).putB (AIO_AO_STATUS_FAULT_SEEN n) true).putB
      (AIO_AO_STATUS_DEVIATION n) true).wrote portAio (record 0x7020 n 1 (s.reg (AIO_AO_READBACK n)).toNat false) := by
  have hgate : ¬ (s.aoCondition n = 0 ∨ s.aoFaulted n = true ∨ s.aoBlind n = true) := by simp [hc, hf, hb]
  rw [aoFaultEnter, if_neg hgate, hc]
  exact ev_of_room (((hroom.incSat (AIO_AO_STATUS_FAULT_COUNT n)).putB (AIO_AO_STATUS_FAULT_SEEN n) true).putB
    (AIO_AO_STATUS_DEVIATION n) true) ..

/-- What decides whether an element's test begins rests on the errors kept and on the registers. -/
theorem recentTransients_kept {l : List Nat} {t : State} (h : SameRegs l s t) (hrel : t.rel = s.rel)
    (hl : PWR_OPTIME_LO ∉ l ∧ PWR_OPTIME_HI ∉ l ∧ REL_CFG ∉ l) (e : Element) :
    t.recentTransients e = s.recentTransients e ∧ t.get REL_CFG_REPEAT_N = s.get REL_CFG_REPEAT_N ∧
      t.relBusy e = s.relBusy e := by
  obtain ⟨hlo, hhi, hcfg⟩ := hl
  have hget (f : Fld) (hf : f.addr ∉ l) : t.get f = s.get f := by rw [get, get, h _ hf]
  refine ⟨?_, hget REL_CFG_REPEAT_N hcfg, by rw [relBusy, relBusy, hrel]⟩
  rw [recentTransients, recentTransients, hrel, optime, optime, h _ hlo, hget PWR_OPTIME_HI_OPTIME_HI hhi,
    hget REL_CFG_REPEAT_H hcfg]

/-- The element that is tested when a monitor's injection begins. -/
theorem testing_testBegin_aoMon (s : State) (n : Fin 8) :
    ((s.withRel { s.rel with tests := [{ elem := .aoMon n }] }).testBegin (.aoMon n)).testing (.aoMon n) = true := by
  simp [testBegin, testing, withRel]

theorem testBegin_aoMon_kept (s : State) (r : Reliability) (n : Fin 8) :
    ((s.withRel r).testBegin (.aoMon n)).regs = s.regs ∧ ((s.withRel r).testBegin (.aoMon n)).log = s.log := ⟨rfl, rfl⟩

/-- A fault that clears (R213). -/
theorem aoFaultOff_faulted (h : s.aoFaulted n = true) (hroom : Room s portAio) :
    s.aoFaultOff n = ((s.putB (AIO_AO_STATUS_DEVIATION n) false).putB (AIO_AO_STATUS_OPEN_LOOP n) false).wrote portAio
      (record 0x7021 n 0 0 false) := by
  rw [aoFaultOff, if_pos h, ev_of_room ((hroom.putB _ _).putB _ _)]

end Analog

end State

theorem exec_aoMonitorSample_reads (n : Fin 8) (v : F32) (s : State) :
    ∃ t, exec (.aoMonitorSample n v) s = .next t ∧
    t.reg (AIO_AO_READBACK n) = (if s.aoBlind n then 0x7FC00000 else v) ∧ SameRegs [AIO_AO_READBACK n] s t ∧
    { t with regs := s.regs, aoSeen := s.aoSeen } = s := by
  exact ⟨_, rfl, State.reg_setReg_same .., (sameRegs_setReg (by simp)).mpr (sameRegs_congr rfl |>.mpr sameRegs_refl), rfl⟩

theorem exec_aoFaultEnter_deviation (n : Fin 8) (s : State) :
    s.aoCondition n = 1 → s.aoFaulted n = false → s.aoBlind n = false → s.rel.tests = [] →
    s.relBusy (.aoMon n) = false → s.recentTransients (.aoMon n) < s.get REL_CFG_REPEAT_N → Room s portAio →
    ∃ t, exec (.aoFaultEnter n) s = .next t ∧ t.get (AIO_AO_STATUS_DEVIATION n) = 1 ∧
      t.get (AIO_AO_STATUS_FAULT_SEEN n) = 1 ∧
      t.get (AIO_AO_STATUS_FAULT_COUNT n) = min (s.get (AIO_AO_STATUS_FAULT_COUNT n) + 1) 65535 ∧
      t.reg (AIO_AO_CODE n) = s.reg (AIO_AO_CODE n) ∧ t.testing (.aoMon n) = true ∧
      Logged portAio 0x7020 n 1 (s.reg (AIO_AO_READBACK n)).toNat s t := by
  intro hc hf hb htests hfree hfew hroom
  have hentered := State.aoFaultEnter_deviation hc hf hb hroom
  have hlogged : Logged portAio 0x7020 n 1 (s.reg (AIO_AO_READBACK n)).toNat s (s.aoFaultEnter n) := by
    rw [hentered]
    exact Logged.from_log (logged_wrote _ _ _ _ _ _) rfl
  have hdev : (s.aoFaultEnter n).get (AIO_AO_STATUS_DEVIATION n) = 1 := by
    rw [hentered]
    simp [get_putB_same]
  have hseen : (s.aoFaultEnter n).get (AIO_AO_STATUS_FAULT_SEEN n) = 1 := by
    rw [hentered]
    simp [get_putB_same, get_putB_ne]
  have hcount : (s.aoFaultEnter n).get (AIO_AO_STATUS_FAULT_COUNT n) =
      min (s.get (AIO_AO_STATUS_FAULT_COUNT n) + 1) 65535 := by
    rw [hentered]
    simp [get_incSat_same, get_putB_ne, satTo]
  have hcode : (s.aoFaultEnter n).reg (AIO_AO_CODE n) = s.reg (AIO_AO_CODE n) := by
    rw [hentered]
    simp [reg_incSat_ne, reg_putB_ne]
  have hrel : (s.aoFaultEnter n).rel = s.rel := by
    rw [hentered]
    rfl
  have hsame : SameRegs [AIO_AO_STATUS n] s (s.aoFaultEnter n) := by
    rw [hentered]
    simp
  obtain ⟨hrecent, hcfg, hbusy⟩ := recentTransients_kept hsame hrel
    (by simp [PWR_OPTIME_LO, PWR_OPTIME_HI, REL_CFG, AIO_AO_STATUS]; omega) (.aoMon n)
  have helem : Fin.ofNat 8 n.val = n := by simp
  rw [show exec (.aoFaultEnter n) s = .next (s.aoFaultTest n) from rfl, State.aoFaultTest]
  generalize s.aoFaultEnter n = u at *
  rw [if_neg (by simp [hf, aoFaulted_of_deviation hdev]), helem,     testWant_begins (by rw [hrel, htests]) (hbusy.trans hfree) (by rw [hrecent, hcfg]; exact hfew) (by simp [unitOf])]
  have hregs := (u.testBegin_aoMon_kept { u.rel with tests := [{ elem := .aoMon n }] } n).1
  have hlog := (u.testBegin_aoMon_kept { u.rel with tests := [{ elem := .aoMon n }] } n).2
  exact ⟨_, rfl, (get_congr hregs _).trans hdev, (get_congr hregs _).trans hseen, (get_congr hregs _).trans hcount,
    (reg_congr hregs _).trans hcode, u.testing_testBegin_aoMon n, logged_congr hlogged hlog⟩

theorem exec_aoFaultEnter_none (n : Fin 8) (s : State) :
    s.aoCondition n = 0 → s.aoFaulted n = false → exec (.aoFaultEnter n) s = .next s := by
  intro hc hf
  have hstays : s.aoFaultEnter n = s := by simp [State.aoFaultEnter, hc]
  rw [show exec (.aoFaultEnter n) s = .next (s.aoFaultTest n) from rfl, State.aoFaultTest, hstays]
  simp [hf]

theorem exec_aoFaultClear_clears (n : Fin 8) (s : State) :
    s.aoFaulted n = true → s.aoCondition n = 0 → Room s portAio →
    ∃ t, exec (.aoFaultClear n) s = .next t ∧ t.aoFaulted n = false ∧ SameRegs [AIO_AO_STATUS n] s t ∧
      Logged portAio 0x7021 n 0 0 s t := by
  intro hf hc hroom
  rw [show exec (.aoFaultClear n) s = .next (s.aoFaultClear n) from rfl, State.aoFaultClear, if_pos hc,
    State.aoFaultOff_faulted hf hroom]
  refine ⟨_, rfl, ?_, ?_, Logged.from_log (logged_wrote _ _ _ _ _ _) rfl⟩
  · simp [State.aoFaulted, State.on, State.get_putB_same, State.get_putB_ne]
  · simp

theorem exec_aoFaultClear_none (n : Fin 8) (s : State) :
    (s.aoFaulted n = false ∨ s.aoCondition n ≠ 0) → exec (.aoFaultClear n) s = .next s := by
  rintro (hf | hc)
  · rw [show exec (.aoFaultClear n) s = .next (s.aoFaultClear n) from rfl, State.aoFaultClear, State.aoFaultOff, hf]
    simp
  · exact congrArg Host.Outcome.next (if_neg hc)

/-! ### Pulse inputs (R214, R215) -/

namespace State

section Pulses
variable {s : State} {n : Nat}

theorem pin_setPin_same (s : State) (n : Nat) (x : Pulse) : (s.setPin n x).pin n = x :=
  tget_tset_same (fun _ => ({} : Pulse)) s.pulse n x

theorem pin_setPin_ne (s : State) {n m : Nat} (h : m ≠ n) (x : Pulse) : (s.setPin n x).pin m = s.pin m :=
  tget_tset_ne (fun _ => ({} : Pulse)) s.pulse x h

theorem setPin_regs (s : State) (n : Nat) (x : Pulse) : (s.setPin n x).regs = s.regs := rfl

/-- A whole register that counts (R215). -/
theorem reg_inc_whole (s : State) (a : Nat) : (s.inc ⟨a, 31, 0⟩).reg a = s.reg a + 1 := by
  have hwhole (u : State) : u.get ⟨a, 31, 0⟩ = (u.reg a).toNat := Nat.mod_eq_of_lt (u.reg a).isLt
  have hcount := s.get_inc_same ⟨a, 31, 0⟩ (by simp)
  rw [hwhole, hwhole] at hcount
  exact BitVec.eq_of_toNat_eq (hcount.trans (by simp [BitVec.toNat_add]))

/-- What an edge that is counted shows (R214, R215). -/
theorem pulseCounted_shown (s : State) (n : Nat) (x : Pulse) (w : Word) :
    ∃ t, (Host.Outcome.next ((((s.setPin n x).inc (AIO_PI_COUNT_COUNT n)).setReg (AIO_PI_LAST_EDGE n) w).putB
        (AIO_PI_STATUS_STOPPED n) false) : Res) = .next t ∧ t.reg (AIO_PI_COUNT n) = s.reg (AIO_PI_COUNT n) + 1 ∧
      t.reg (AIO_PI_LAST_EDGE n) = w ∧ t.get (AIO_PI_STATUS_STOPPED n) = 0 ∧ t.pin n = x ∧
      SameRegs [AIO_PI_COUNT n, AIO_PI_LAST_EDGE n, AIO_PI_STATUS n] s t ∧ t.log = s.log := by
  have hregs := s.setPin_regs n x
  have hpin := pin_setPin_same s n x
  have hlog : (s.setPin n x).log = s.log := rfl
  generalize s.setPin n x = u at *
  refine ⟨_, rfl, ?_, ?_, get_putB_same _ (AIO_PI_STATUS_STOPPED n) false (by simp), hpin, ?_, hlog⟩
  · rw [reg_putB_ne _ _ _ (by simp), reg_setReg_ne _ _ (by simp), reg_inc_whole, reg_congr hregs]
  · rw [reg_putB_ne _ _ _ (by simp), reg_setReg_same]
  · simp [sameRegs_congr hregs]

section Edge
variable (hon : s.on (AIO_PI_CFG_ENABLE n) = true) (hcp : s.cpUp = true) (hload : s.isLoaded = true) {up : Bool}
  (hlevel : (s.pin n).level ≠ some up) {d : Nat}
include hon hcp hload hlevel

/-- A level that is shorter than the filter is a glitch (R214). -/
theorem pulseEdge_glitch (hd : d < 20 * s.get (AIO_PI_CFG_FILTER n)) (t : Nat) :
    s.pulseEdge n up d t = (s.setPin n { s.pin n with level := some (!up) }).inc (AIO_PI_STATUS_GLITCHES n) := by
  rw [pulseEdge, if_neg (by simp [hon, hcp, hload, hlevel]), if_pos hd]

/-- A change that is not of the selected polarity (R214). -/
theorem pulseEdge_other (hd : 20 * s.get (AIO_PI_CFG_FILTER n) ≤ d) (hp : s.on (AIO_PI_CFG_FALLING n) = up) (t : Nat) :
    s.pulseEdge n up d t = s.setPin n { s.pin n with level := some up } := by
  rw [pulseEdge, if_neg (by simp [hon, hcp, hload, hlevel]), if_neg (by omega), if_pos hp]

/-- An edge that is counted, 10 µs or more after the one before it (R214, R215). -/
theorem pulseEdge_counted (hd : 20 * s.get (AIO_PI_CFG_FILTER n) ≤ d) (hp : s.on (AIO_PI_CFG_FALLING n) = !up) {t l : Nat}
    (hl : (s.pin n).last = some l) (hgap : l + 10000 ≤ t / 5 * 5) :
    s.pulseEdge n up d t = (((s.setPin n { s.pin n with
      edges := t / 5 * 5 :: (s.pin n).edges, last := some (t / 5 * 5), interval := some (t / 5 * 5 - l)
      level := some up }).inc (AIO_PI_COUNT_COUNT n)).setReg (AIO_PI_LAST_EDGE n)
        (BitVec.ofNat 32 (t / 5 * 5 / 1000))).putB (AIO_PI_STATUS_STOPPED n) false := by
  have hslow : decide (t / 5 * 5 - l < 10000) = false := by
    rw [decide_eq_false_iff_not]
    omega
  rw [pulseEdge, if_neg (by simp [hon, hcp, hload, hlevel]), if_neg (by omega), if_neg (by simp [hp])]
  simp only [hl, Option.map_some, hslow, Bool.or_false, Option.isSome_some, if_true, Bool.false_eq_true, if_false]

end Edge

end Pulses

end State

theorem exec_pulseEdge_glitch (n : Fin 4) (up : Bool) (d at_ : Nat) (s : State) :
    s.on (AIO_PI_CFG_ENABLE n) = true → s.cpUp = true → s.isLoaded = true →
    (s.pin n).level ≠ some up → d < 20 * s.get (AIO_PI_CFG_FILTER n) →
    ∃ t, exec (.pulseEdge n up d at_) s = .next t ∧
      t.get (AIO_PI_STATUS_GLITCHES n) = (s.get (AIO_PI_STATUS_GLITCHES n) + 1) % 65536 ∧
      t.pin n = { s.pin n with level := some (!up) } ∧ (∀ m, m ≠ n.val → t.pin m = s.pin m) ∧ SameRegs [AIO_PI_STATUS n] s t ∧
      { t with regs := s.regs, pulse := s.pulse } = s := by
  intro hon hcp hload hlevel hd
  rw [show exec (.pulseEdge n up d at_) s = .next (s.pulseEdge n up d at_) from rfl,
    State.pulseEdge_glitch hon hcp hload hlevel hd]
  refine ⟨_, rfl, State.get_inc_same _ (AIO_PI_STATUS_GLITCHES n) (by simp), State.pin_setPin_same .., fun m hm =>
    State.pin_setPin_ne s hm _, ?_, rfl⟩
  exact (sameRegs_inc (by simp)).mpr ((sameRegs_congr (s.setPin_regs n _)).mpr sameRegs_refl)

theorem exec_pulseEdge_counted (n : Fin 4) (up : Bool) (d at_ l : Nat) (s : State) :
    s.on (AIO_PI_CFG_ENABLE n) = true → s.cpUp = true → s.isLoaded = true →
    (s.pin n).level ≠ some up →
    20 * s.get (AIO_PI_CFG_FILTER n) ≤ d → s.on (AIO_PI_CFG_FALLING n) = !up → (s.pin n).last = some l → l + 10000 ≤ at_ / 5 * 5 →
    ∃ t, exec (.pulseEdge n up d at_) s = .next t ∧ (t.reg (AIO_PI_COUNT n)) = s.reg (AIO_PI_COUNT n) + 1 ∧
      t.reg (AIO_PI_LAST_EDGE n) = BitVec.ofNat 32 (at_ / 5 * 5 / 1000) ∧ t.get (AIO_PI_STATUS_STOPPED n) = 0 ∧
      t.pin n = { s.pin n with edges := at_ / 5 * 5 :: (s.pin n).edges, last := some (at_ / 5 * 5), interval := some (at_ / 5 * 5 - l), level := some up } ∧
      SameRegs [AIO_PI_COUNT n, AIO_PI_LAST_EDGE n, AIO_PI_STATUS n] s t ∧ t.log = s.log := by
  intro hon hcp hload hlevel hd hp hl hgap
  rw [show exec (.pulseEdge n up d at_) s = .next (s.pulseEdge n up d at_) from rfl,
    State.pulseEdge_counted hon hcp hload hlevel hd hp hl hgap]
  refine pulseCounted_shown s n _ _

theorem exec_pulseEdge_other (n : Fin 4) (up : Bool) (d at_ : Nat) (s : State) :
    s.on (AIO_PI_CFG_ENABLE n) = true → s.cpUp = true → s.isLoaded = true →
    (s.pin n).level ≠ some up → 20 * s.get (AIO_PI_CFG_FILTER n) ≤ d → s.on (AIO_PI_CFG_FALLING n) = up →
    exec (.pulseEdge n up d at_) s = .next (s.setPin n { s.pin n with level := some up }) := by
  intro hon hcp hload hlevel hd hp
  exact congrArg Host.Outcome.next (State.pulseEdge_other hon hcp hload hlevel hd hp at_)

theorem exec_pulseEdge_none (n : Fin 4) (up : Bool) (d at_ : Nat) (s : State) :
    ((s.pin n).level = some up ∨ s.on (AIO_PI_CFG_ENABLE n) = false) →
    exec (.pulseEdge n up d at_) s = .next s := by
  intro h
  refine congrArg Host.Outcome.next (if_pos ?_)
  rcases h with h | h <;> simp [h]

theorem exec_pulseTimeout_stops (n : Fin 4) (s : State) :
    s.on (AIO_PI_CFG_ENABLE n) = true →
    (s.pin n).last.all (fun l => decide (s.get (AIO_PI_CFG_TIMEOUT n) * 100000000 < s.tim.cp - l)) = true →
    ∃ t, exec (.pulseTimeout n) s = .next t ∧ t.reg (AIO_PI_RATE n) = 0 ∧ t.get (AIO_PI_STATUS_STOPPED n) = 1 ∧
      OnlyRegs [AIO_PI_RATE n, AIO_PI_STATUS n] s t := by
  intro hon hlate
  have hstops : s.pulseTimeout n = (s.setReg (AIO_PI_RATE n) 0).putB (AIO_PI_STATUS_STOPPED n) true := by
    rw [State.pulseTimeout]
    cases hlast : (s.pin n).last with
    | none => simp [hon]
    | some l =>
      rw [hlast, Option.all_some, decide_eq_true_eq] at hlate
      simp [hon, hlate]
  rw [show exec (.pulseTimeout n) s = .next (s.pulseTimeout n) from rfl, hstops]
  refine ⟨_, rfl, ?_, get_putB_same _ (AIO_PI_STATUS_STOPPED n) true (by simp), by simp, rfl⟩
  rw [reg_putB_ne _ _ _ (by simp), reg_setReg_same]

theorem exec_pulseTimeout_none (n : Fin 4) (l : Nat) (s : State) :
    (s.pin n).last = some l → s.tim.cp - l ≤ s.get (AIO_PI_CFG_TIMEOUT n) * 100000000 →
    exec (.pulseTimeout n) s = .next s := by
  intro hl hsoon
  refine congrArg Host.Outcome.next (if_neg ?_)
  simp only [hl, Bool.and_eq_true, decide_eq_true_eq]
  omega

theorem exec_pulseMinuteReport_reports (n : Fin 4) (s : State) :
    (s.pin n).overMinute = true → Room s portAio →
    ∃ t, exec (.pulseMinuteReport n) s = .next t ∧ t.pin n = { s.pin n with overMinute := false } ∧ t.regs = s.regs ∧
      Logged portAio 0x7030 n (s.get (AIO_PI_STATUS_GLITCHES n)) 0 s t := by
  intro hover hroom
  have hroom' : Room (s.setPin n { s.pin n with overMinute := false }) portAio := hroom.of_log rfl rfl
  have hpin := pin_setPin_same s n { s.pin n with overMinute := false }
  have hrep : s.pulseMinute n = _ := (if_pos hover).trans (ev_of_room hroom' ..)
  rw [show exec (.pulseMinuteReport n) s = .next (s.pulseMinute n) from rfl, hrep]
  exact ⟨_, rfl, hpin, rfl, Logged.from_log (logged_wrote _ _ _ _ _ _) rfl⟩

theorem exec_pulseMinuteReport_none (n : Fin 4) (s : State) :
    (s.pin n).overMinute = false → exec (.pulseMinuteReport n) s = .next s := by
  intro hover
  exact congrArg Host.Outcome.next (if_neg (by simp [hover]))

/-- Settles O40: each clause is one of the lemmas on the monitor, its faults and the pulse inputs. -/
theorem analogAndPulse : Obligations.AnalogAndPulse :=
  ⟨exec_aoMonitorSample_reads, exec_aoFaultEnter_deviation, exec_aoFaultEnter_none, exec_aoFaultClear_clears,
    exec_aoFaultClear_none, exec_pulseEdge_glitch, exec_pulseEdge_counted, exec_pulseEdge_other, exec_pulseEdge_none,
    exec_pulseTimeout_stops, exec_pulseTimeout_none, exec_pulseMinuteReport_reports, exec_pulseMinuteReport_none⟩

end Sys2Proof.Machine
end

section
/-! PROOFS. Samples and halts of the thermal guard (R390 to R402): a die sensor with a lost element. -/

namespace Sys2Proof.Machine

open Reg

-- The concrete states below are evaluated one at a time, in their order: side by side they need too much memory.
set_option Elab.async false

/-- A running module that has kept its logic-die sensor's first element as lost (R392), with the zone of that die one
sample from its CUT threshold. -/
def lostElementState : State := { running with guard := { running.guard with
  lost := [(16, 1)], counts := [(memKey 0 true 16, 2)] } }

theorem lostElementState_up : lostElementState.aonUp = true ∧ lostElementState.cpUp = true ∧
    lostElementState.guardBroken 16 = false ∧ lostElementState.guard.halted = false ∧
    lostElementState.on (GUARD_READING_HALF 16) = false ∧ lostElementState.on REL_STATUS_HOLD = false ∧
    lostElementState.pwr.cutP0 = false ∧ lostElementState.pwr.cutP1 = false ∧ lostElementState.pwr.sluice = none ∧
    lostElementState.log.fifo portAon = [] := by
  decide +kernel

theorem lostElementState_zones : (∀ z, z < 8 → ∀ c, lostElementState.zoneAt z c = false ∧
      (1 : Word).toInt < lostElementState.zoneThr z c) ∧
    lostElementState.zoneThr 0 true = 2400 ∧ tget (fun _ => 0) lostElementState.guard.counts (memKey 0 true 16) = 2 ∧
    (lostElementState.get (GUARD_ZONE_CFG_CUT_ACT 0)).testBit 3 = true := by
  decide +kernel

theorem exec_guardSample_eq (n : Fin 22) (a b : Word) (o p : Bool) (s : State) :
    exec (.guardSample n a o b p) s = .next (s.guardSample n a o b p).afterGuard := rfl

theorem State.afterGuard_of_noHalt {s : State} (h : s.guard.halted = false) : s.afterGuard = s := by
  simp [State.afterGuard, h]

theorem lostElementState_reading : (lostElementState.guardSample (16 : Fin 22) 1 true 0 true).get (GUARD_READING_TEMP (16 : Fin 22)) = 0 := by
  decide +kernel

theorem lostElementState_noHalt_reading : (lostElementState.guardSample (16 : Fin 22) 1 true 0 true).guard.halted = false := by
  decide +kernel

theorem lostElementState_noHalt : (lostElementState.guardSample (16 : Fin 22) 2400 true 0 true).guard.halted = false := by
  decide +kernel

/-- Refutes O41: a die sensor that has lost its first element shows the second one, also where that is the lower of the
two, until the first has read well three times; nothing ties the element kept as lost to HALF. -/
theorem not_guardSampling : ¬ Obligations.GuardSampling := by
  rintro ⟨hsample, -⟩
  obtain ⟨haon, -, hbroken, hhalted, hhalf, -, hp0, hp1, -, -⟩ := lostElementState_up
  obtain ⟨t, ht, htemp, -⟩ := hsample 16 1 0 lostElementState (by decide) haon hbroken hhalted hhalf (by decide) (by decide)
    (by decide) lostElementState_zones.1 hp0 hp1
  rw [exec_guardSample_eq, State.afterGuard_of_noHalt lostElementState_noHalt_reading] at ht
  rw [← Host.Outcome.next.inj ht] at htemp
  exact absurd (lostElementState_reading.symm.trans htemp) (by decide)

/-- Refutes O42: a logic-die sensor that has lost its first element is judged by the second one, so a first element at
CUT for the third time raises no halt; nothing ties the element kept as lost to HALF. -/
theorem not_guardHalt : ¬ Obligations.GuardHalt := by
  rintro ⟨hsample, -⟩
  obtain ⟨haon, hcp, hbroken, hhalted, hhalf, hhold, -, -, hsluice, hfifo⟩ := lostElementState_up
  obtain ⟨hzones, hthr, hcount, hact⟩ := lostElementState_zones
  obtain ⟨t, ht, hhalt, -⟩ := hsample 2400 0 lostElementState haon hcp hbroken hhalf hhalted hhold (by decide)
    (by rw [hthr]; decide) (by decide) (by decide) (by rw [hthr]; decide) (fun z hz c => (hzones z hz c).1) hcount hact
    hfifo hsluice
  rw [exec_guardSample_eq, State.afterGuard_of_noHalt lostElementState_noHalt] at ht
  rw [← Host.Outcome.next.inj ht] at hhalt
  exact absurd (lostElementState_noHalt.symm.trans hhalt) (by decide)

end Sys2Proof.Machine
end

section
/-! PROOFS. Steps, airflow and holds of the Millstone: what a full FIFO, a body listed twice and a register table that
lists a command do. -/

namespace Sys2Proof.Machine

open Reg

-- The concrete states below are evaluated one at a time, in their order: side by side they need too much memory.
set_option Elab.async false

/-! ### A step whose ring overflows while the recorder's FIFO is full (R284, R435) -/

/-- A step with its one tile to compute. -/
def lastTileRun : StepRun := { te := 1000, inputs := {}, tiles := [0], began := 0 }

/-- A checkpoint too large for a ring of 4 MiB. -/
def bigDelta : Delta := { te := 1000, prev := 0, cells := [], tiles := 1000000, inputs := {}, acc := {} }

/-- A running body of one cell at its last tile, with a ring quota of 1 that the next checkpoint exceeds, and a full
FIFO of the Millstone. -/
def fullFifoState : State :=
  let s := (running.put (MILL_RUN_CFG_RING_QUOTA 0) 1).setBst 0 2
  { s with
    log := s.log.setFifo portMill (List.replicate 16 { code := 0, sev := 0, p0 := 0, p1 := 0, p2 := 0 })
    mill := { s.mill with
      quads := [(0, .tile 0 0)], bodies := [(0, { tm := 0, run := some lastTileRun, ring := [bigDelta] })] } }

theorem fullFifoState_ready : (0, Work.tile 0 0) ∈ fullFifoState.mill.quads ∧ fullFifoState.dpUp = true ∧
    (fullFifoState.body 0).run = some lastTileRun ∧ fullFifoState.bst 0 = 2 ∧ (fullFifoState.body 0).ready = [] ∧
    (fullFifoState.body 0).rollTo = none ∧ (fullFifoState.body 0).late = [] ∧ (fullFifoState.body 0).holdDue = false ∧
    (fullFifoState.body 0).pauseDue = false ∧ fullFifoState.mill.snapWait = [] ∧ fullFifoState.net.xfers = [] := by
  decide +kernel

/-- The state after the last tile. -/
def fullFifoStep : State :=
  ((fullFifoState.when fullFifoState.dpUp (·.tileDone (0 : Fin 16) 0 [] 0)).importSettle).dispatch

theorem exec_fullFifoStep : exec (.tileDone 0 0 [] 0) fullFifoState = .next fullFifoStep := rfl

theorem fullFifoStep_drops : fullFifoStep.reg (LOG_DROP portMill) ≠ fullFifoState.reg (LOG_DROP portMill) := by
  decide +kernel

/-- Refutes O43: a step that ends with a checkpoint beyond the ring's quota leaves record 0x6033, and where the FIFO is
full the record is dropped and counted in LOG_DROP, which the statement does not list. -/
theorem not_millSteps : ¬ Obligations.MillSteps := by
  rintro ⟨-, -, -, -, -, hlast, -⟩
  obtain ⟨hquad, hup, hrun, hst, hready, hroll, hlate, hhold, hpause, hwait, hxfers⟩ := fullFifoState_ready
  obtain ⟨t, ht, -, -, -, -, -, -, -, -, hsame⟩ := hlast 0 0 0 lastTileRun fullFifoState hquad hup hrun rfl rfl hst hready
    hroll hlate hhold hpause hwait hxfers
  rw [exec_fullFifoStep] at ht
  rw [← Host.Outcome.next.inj ht] at hsame
  exact fullFifoStep_drops (hsame _ (by decide +kernel))

/-! ### A body that the table lists twice (R242) -/

/-- Two entries of one body, of which the second, that no read finds, has a step in progress and one that waits. -/
def twiceListedState : State :=
  let s := running.setBst 0 2
  { s with mill := { s.mill with
    bodies := [(1, {}), (1, { ready := [(2000, [])], run := some lastTileRun })] } }

theorem twiceListedState_ready : twiceListedState.dpUp = true ∧ twiceListedState.bst 0 = 2 ∧
    twiceListedState.mill.forecasts = [] ∧ twiceListedState.mill.snapBusy = false ∧
    twiceListedState.guard.halted = false ∧ twiceListedState.mill.quads = [] ∧ twiceListedState.overloaded = true ∧
    twiceListedState.get MILL_SCHED_STATS_DEFERRED = 0 := by
  decide +kernel

/-- The state after the forecast run falls due. -/
def twiceListedStep : State :=
  (twiceListedState.when twiceListedState.dpUp (·.forecastStart (0 : Fin 16))).dispatch

theorem exec_twiceListedStep : exec (.forecastRunStart 0) twiceListedState = .next twiceListedStep := rfl

theorem twiceListedStep_deferred : twiceListedStep.get MILL_SCHED_STATS_DEFERRED = 0 := by decide +kernel

/-- Refutes O45: the advance of firm time that comes before the count rewrites the table of the bodies, so an entry that
another one hides no longer makes the lanes overloaded, and the forecast run is not counted as deferred. -/
theorem not_millAir : ¬ Obligations.MillAir := by
  rintro ⟨-, -, -, -, -, -, -, -, hdefers, -⟩
  obtain ⟨hup, hst, hfc, hsnap, hhalted, hquads, hover, hcount⟩ := twiceListedState_ready
  obtain ⟨t, ht, -, hdef⟩ := hdefers 0 twiceListedState hup hst hfc hsnap hhalted (by simp [hquads])
  rw [exec_twiceListedStep] at ht
  rw [← Host.Outcome.next.inj ht, twiceListedStep_deferred, hover, hcount] at hdef
  exact absurd hdef (by decide)

/-! ### A register table that lists the command of a hold (R244) -/

/-- A running body with a step in progress, whose register table lists MILL_BODY_CTRL with its reset value. -/
def listedHoldState : State :=
  let s := running.setBst 0 2
  { s with
    regs := (MILL_BODY_CTRL 0, 0) :: s.regs
    mill := { s.mill with bodies := [(0, { run := some lastTileRun })] } }

theorem listedHoldState_writes : (listedHoldState.mpUp = true ∧ (listedHoldState.loading = false ∨ 0x20 = 2) ∧
    listedHoldState.waitsBehind (MILL_BODY_CTRL (0 : Fin 16)) = false ∧
    listedHoldState.writeOk 0x20 (MILL_BODY_CTRL (0 : Fin 16)) 0x6B1D0001 = true) ∧ listedHoldState.bst (0 : Fin 16) = 2 ∧
    (listedHoldState.body (0 : Fin 16)).heldOn = false ∧ (listedHoldState.body (0 : Fin 16)).run = some lastTileRun := by
  decide +kernel

/-- The state after the hold. -/
def listedHoldStep : State := listedHoldState.writeAt 0x20 (MILL_BODY_CTRL (0 : Fin 16)) 0x6B1D0001

theorem exec_listedHoldStep : exec (.bodyHold 0x20 0) listedHoldState = .next listedHoldStep := rfl

theorem listedHoldStep_drops : listedHoldStep.regs.length < listedHoldState.regs.length := by decide +kernel

/-- Refutes O47: a register table that lists a command register with its reset value is brought to its canonical form
by the write of the command, so it is another table, though every register reads the same. -/
theorem not_millHolds : ¬ Obligations.MillHolds := by
  rintro ⟨-, hwaits, -⟩
  obtain ⟨hwrites, hst, hheld, hrun⟩ := listedHoldState_writes
  obtain ⟨t, ht, -, hregs, -⟩ := hwaits 0x20 0 lastTileRun listedHoldState hwrites hst hheld hrun
  rw [exec_listedHoldStep] at ht
  rw [← Host.Outcome.next.inj ht] at hregs
  exact absurd (hregs ▸ listedHoldStep_drops) (lt_irrefl _)

end Sys2Proof.Machine
end

section
/-! PROOFS. Governor samples and window words: an override that begins at a sample, and a word that waits in OFF. -/

namespace Sys2Proof.Machine

open Reg

-- The concrete states below are evaluated one at a time, in their order: side by side they need too much memory.
set_option Elab.async false

/-! ### A sample in a lockstep hold at which an override of the fans begins (R318, R398) -/

/-- A running module in a lockstep hold, with slot 0 in CLOSED at an instant of its grid, and with the guard's FANS
action on fans whose policy it has not yet been recorded to override. -/
def forcedFansState : State :=
  (((((running.putB REL_STATUS_HOLD true).putB GUARD_STATUS_FANS_FORCED true).put GUARD_FAN_MASK_FANS 1).putB
    (GOV_SLOT_CFG_PRESENT 0) true).put (GOV_PERIOD_TICKS_SECONDS 0) 1).put (GOV_SLOT_STATUS_MODE 0) 2

theorem forcedFansState_ready : forcedFansState.slotsRun = true ∧ forcedFansState.sampleDue 0 = true ∧
    forcedFansState.caddy.swap = none ∧ forcedFansState.on REL_STATUS_HOLD = true ∧ forcedFansState.gmode 0 ≠ 0 ∧
    forcedFansState.log.fifo portAon = [] := by
  decide +kernel

/-- The state after the sample. -/
def forcedFansStep : State := (forcedFansState.govSample (0 : Fin 16) .clean).overrides.swapGo

theorem exec_forcedFansStep : exec (.govSample 0 .clean) forcedFansState = .next forcedFansStep := rfl

theorem forcedFansStep_records : forcedFansStep.log.fifo portAon ≠ [] := by decide +kernel

/-- Refutes O48: the overrides of the guard follow each sample, so the event that carries a sample out can begin one,
with record 0x2004. -/
theorem not_govSamples : ¬ Obligations.GovSamples := by
  rintro ⟨-, -, -, hheld, -⟩
  obtain ⟨hrun, hdue, hswap, hhold, hmode, hfifo⟩ := forcedFansState_ready
  obtain ⟨t, ht, -, -, -, -, -, -, hlog⟩ := hheld 0 .clean forcedFansState hrun hdue hswap hhold hmode
  rw [exec_forcedFansStep] at ht
  rw [← Host.Outcome.next.inj ht] at hlog
  exact forcedFansStep_records ((congrArg (fun l => Recorder.fifo l portAon) hlog).trans hfifo)

/-! ### A window word written in OFF while an older one of its offset waits (R320, R321) -/

/-- A slot in OFF with a word that waits at offset 0x400. -/
def waitingWordState : State := running.setSlot 0 { running.slot 0 with waiting := [(0x400, 0, false)] }

theorem waitingWordState_writes : 0x400 ≤ (0x400 : BitVec 12).toNat ∧ (waitingWordState.mpUp = true ∧
    (waitingWordState.loading = false ∨ 0x20 = 2) ∧
    waitingWordState.waitsBehind (0x100000 + 0x1000 * (0 : Fin 16).val + (0x400 : BitVec 12).toNat) = false ∧
    waitingWordState.writeOk 0x20 (0x100000 + 0x1000 * (0 : Fin 16).val + (0x400 : BitVec 12).toNat) 5 = true) ∧
    waitingWordState.gmode (0 : Fin 16) = 0 ∧ waitingWordState.get (GOV_COEF_EPOCH_WORDS (0 : Fin 16)) = 0 := by
  decide +kernel

/-- The state after the write. -/
def waitingWordStep : State :=
  waitingWordState.when (decide (0x400 ≤ (0x400 : BitVec 12).toNat)) (fun t =>
    t.writeAt 0x20 (0x100000 + 0x1000 * (0 : Fin 16).val + (0x400 : BitVec 12).toNat) 5)

theorem exec_waitingWordStep : exec (.govCoefWrite 0x20 0 0x400 5) waitingWordState = .next waitingWordStep := rfl

theorem waitingWordStep_words : waitingWordStep.get (GOV_COEF_EPOCH_WORDS (0 : Fin 16)) = 2 := by decide +kernel

/-- Refutes O49: a word written in OFF takes the words of its offset that still wait with it, and each of them is
counted. -/
theorem not_govRequestsAndCup : ¬ Obligations.GovRequestsAndCup := by
  rintro ⟨-, -, hwrite, -⟩
  obtain ⟨hoff, hwrites, hmode, hcount⟩ := waitingWordState_writes
  obtain ⟨t, ht, -, -, -, hwords, -⟩ := hwrite 0x20 0 0x400 5 waitingWordState hoff hwrites hmode
  rw [exec_waitingWordStep] at ht
  rw [← Host.Outcome.next.inj ht, waitingWordStep_words, hcount] at hwords
  exact absurd hwords (by decide)

end Sys2Proof.Machine
end

section
/-! PROOFS. Valve phases, panel states, the strip, the control of the log and lockstep recovery: a duty limit at a
switch-on, commands that a register table lists, a strip that a swap has taken away, and a single lane. -/

namespace Sys2Proof.Machine

open Reg

-- The concrete states below are evaluated one at a time, in their order: side by side they need too much memory.
set_option Elab.async false

/-! ### A pre-arm that ends on a channel at its duty limit (R345, R362) -/

/-- A continuous profile in PREARM on a channel at its duty limit. -/
def limitedPrearmState : State :=
  ((running.put (VALVE_STATUS_STATE 0) 2).putB (vsDutyLim 0) true).putB (VALVE_STATUS_CONT 0) true

theorem limitedPrearmState_prearm : limitedPrearmState.vst (0 : Fin 96) = 2 := by decide +kernel

theorem exec_limitedPrearmState :
    exec (.prearmEnd 0) limitedPrearmState = .next (limitedPrearmState.prearmEnd (0 : Fin 96)) := rfl

theorem limitedPrearmState_released : (limitedPrearmState.prearmEnd (0 : Fin 96)).vst (0 : Fin 96) = 6 := by
  decide +kernel

/-- Refutes O51: at its duty limit a channel's continuous profile is released as soon as its pre-arm ends, so it goes
to RELEASE and not to RISE. -/
theorem not_valvePhases : ¬ Obligations.ValvePhases := by
  rintro ⟨hprearm, -⟩
  obtain ⟨t, ht, hst, -⟩ := hprearm 0 limitedPrearmState limitedPrearmState_prearm
  rw [exec_limitedPrearmState] at ht
  rw [← Host.Outcome.next.inj ht] at hst
  exact absurd (limitedPrearmState_released.symm.trans hst) (by decide)

/-! ### A register table that lists the command of the panel (R417) -/

/-- A module without a panel, whose register table lists DISP_CTRL with its reset value. -/
def listedPanelState : State := { running with regs := (DISP_CTRL, 0) :: running.regs }

theorem listedPanelState_writes : (listedPanelState.mpUp = true ∧ (listedPanelState.loading = false ∨ 0x20 = 2) ∧
    listedPanelState.waitsBehind DISP_CTRL = false ∧
    listedPanelState.writeOk 0x20 DISP_CTRL 0xD15E0001 = true) ∧ listedPanelState.panelWants = false := by
  decide +kernel

theorem exec_listedPanelState : exec (.dispPanelOff 0x20) listedPanelState =
    .next (listedPanelState.writeAt 0x20 DISP_CTRL 0xD15E0001) := rfl

theorem listedPanelState_drops : (listedPanelState.writeAt 0x20 DISP_CTRL 0xD15E0001).regs.length <
    listedPanelState.regs.length := by
  decide +kernel

/-- Refutes O55: a register table that lists a command register with its reset value is brought to its canonical form
by the write of the command, so the state is another one, though every register reads the same. -/
theorem not_panelStates : ¬ Obligations.PanelStates := by
  rintro ⟨-, hoff, -⟩
  obtain ⟨hwrites, hwants⟩ := listedPanelState_writes
  have hnext := exec_listedPanelState.symm.trans (hoff 0x20 listedPanelState hwrites hwants)
  have hdrops := listedPanelState_drops
  rw [Host.Outcome.next.inj hnext] at hdrops
  exact absurd hdrops (lt_irrefl _)

/-! ### A clean marker on a module whose strip is no longer declared (R426, R430) -/

/-- A waveform of a host item that has driven its last frame. -/
def endedRun : WaveRun := { kind := 0, band := 0, wave := {}, fromSegs := 0, toSegs := 0, marking := false, ending := true }

/-- A running module with PRESENT 0 and a waveform at its clean marker. -/
def removedStripState : State := { running with strip := { running.strip with run := some endedRun } }

theorem removedStripState_ends : removedStripState.strip.run = some endedRun ∧ removedStripState.strip.waiting = false ∧
    removedStripState.strip.clear = 0 ∧ removedStripState.strip.repeatTo = none ∧
    removedStripState.strip.lastWord = none := by
  decide +kernel

theorem exec_removedStripState : exec .stripMarkerDone removedStripState = .next removedStripState.stripMarker := rfl

theorem removedStripState_absent : removedStripState.stripMarker.get DISP_STRIP_STATUS_STATE = 0 := by decide +kernel

/-- Refutes O56: the waveform that runs finishes though a swap has left PRESENT 0, and then STATE shows no strip, not
idle. -/
theorem not_strip : ¬ Obligations.Strip := by
  rintro ⟨-, -, -, -, -, -, -, -, -, -, hclean, -⟩
  obtain ⟨hrun, hwait, hclear, hrepeat, hlast⟩ := removedStripState_ends
  obtain ⟨t, ht, -, -, -, -, hstate, -⟩ := hclean endedRun removedStripState hrun rfl rfl rfl hwait hclear hrepeat hlast
  rw [exec_removedStripState] at ht
  rw [← Host.Outcome.next.inj ht, removedStripState_absent] at hstate
  exact absurd hstate (by decide)

/-! ### A register table that lists the command of a freeze (R444, R447) -/

/-- A halted module whose register table lists LOG_FREEZE with its reset value. -/
def listedFreezeState : State := { running with
  regs := (LOG_FREEZE, 0) :: running.regs
  guard := { running.guard with halted := true } }

theorem listedFreezeState_writes : (listedFreezeState.mpUp = true ∧ (listedFreezeState.loading = false ∨ 0x20 = 2) ∧
    listedFreezeState.waitsBehind LOG_FREEZE = false ∧
    listedFreezeState.writeOk 0x20 LOG_FREEZE 0xF4EE0100 = true) ∧ listedFreezeState.guard.halted = true := by
  decide +kernel

theorem exec_listedFreezeState : exec (.logFreezeSet 0x20) listedFreezeState =
    .next (listedFreezeState.writeAt 0x20 LOG_FREEZE 0xF4EE0100) := rfl

theorem listedFreezeState_drops : (listedFreezeState.writeAt 0x20 LOG_FREEZE 0xF4EE0100).regs.length <
    listedFreezeState.regs.length := by
  decide +kernel

/-- Refutes O58: a register table that lists a command register with its reset value is brought to its canonical form
by the write of a freeze that has no effect, so the state is another one. -/
theorem not_logControl : ¬ Obligations.LogControl := by
  rintro ⟨-, -, -, -, -, -, -, -, hset, -⟩
  obtain ⟨hwrites, hhalted⟩ := listedFreezeState_writes
  have hnext := exec_listedFreezeState.symm.trans (hset 0x20 listedFreezeState hwrites (.inr hhalted))
  have hdrops := listedFreezeState_drops
  rw [Host.Outcome.next.inj hnext] at hdrops
  exact absurd hdrops (lt_irrefl _)

/-! ### An error of the lane that still runs (R452, R457) -/

/-- A control plane on lane B alone, with a REPEAT_N that no error stays below. -/
def singleLaneState : State :=
  ((running.putB SYS_STATUS_CP_RUN true).putB REL_LANE_STATUS_A_FENCED true).put REL_CFG_REPEAT_N 0

theorem singleLaneState_runs : singleLaneState.cpRuns = true ∧ singleLaneState.get REL_STATUS_RECOVERY = 0 := by
  decide +kernel

theorem exec_singleLaneState :
    exec (.lockstepMismatch 0) singleLaneState = .next (singleLaneState.lockMismatch 0 none) := rfl

theorem singleLaneState_notHeld : (singleLaneState.lockMismatch 0 none).get REL_STATUS_HOLD = 0 := by decide +kernel

/-- Refutes O60: with one lane fenced the lane in error is known, and where it has REPEAT_N TRANSIENT outcomes it is
fenced without a test, so no recovery starts and nothing is held. -/
theorem not_lockstep : ¬ Obligations.Lockstep := by
  rintro ⟨hstarts, -⟩
  obtain ⟨hruns, hphase⟩ := singleLaneState_runs
  obtain ⟨t, ht, hhold, -⟩ := hstarts 0 singleLaneState hruns hphase (by decide)
  rw [exec_singleLaneState] at ht
  rw [← Host.Outcome.next.inj ht, singleLaneState_notHeld] at hhold
  exact absurd hhold (by decide)

end Sys2Proof.Machine
end

section
/-! PROOFS. The records from their FIFOs to the log flash (R432 to R445). -/

namespace Sys2Proof.Machine

open Reg State
/-! ### Submission (R432, R435, R436) -/

namespace State

section Submission
variable {s : State} {p : Nat}

/-- A full FIFO drops the record (R436). -/
theorem submit_full (hup : p = 0 ∨ s.mpUp = true) (hfull : 16 ≤ (s.log.fifo p).length) (e : Submit) :
    s.submit p e = s.dropRecord p := by
  have hopen : ¬ ((!s.mpUp && decide (p ≠ 0)) = true) := by
    rcases hup with h | h <;> simp [h]
  rw [submit, if_neg hopen, if_neg (by omega)]

/-- What the recorder keeps of a dropped record (R436). -/
def dropped (s : State) (p : Nat) : Recorder := { s.log with
  ovCount := s.log.ovCount + 1, ovPorts := s.log.ovPorts ||| 2 ^ p
  ovSince := if s.log.ovCount = 0 then s.optime else s.log.ovSince }

theorem dropRecord_up (hup : s.mpUp = true) (p : Nat) :
    s.dropRecord p = ((s.inc (LOG_DROP_DROPPED p)).putB LOG_STATUS_OVERFLOW true).withLog (s.dropped p) := by
  rw [dropRecord, if_pos hup, dropped, withLog]

end Submission

end State

section
variable {p : Fin 16} {c : BitVec 16} {v : Fin 7} {p0 p1 p2 : Word} {b : Bool} {s : State}

/-- A record with the severity of its code is submitted. -/
theorem exec_eventRecordSubmit (hv : v.val = sevOf c.toNat p1.toNat) :
    exec (.eventRecordSubmit p c v p0 p1 p2 b) s = .next (s.submit p {
      code := c.toNat, sev := sevOf c.toNat p1.toNat, p0 := p0.toNat, p1 := p1.toNat, p2 := p2.toNat, prov := b }) := by
  rw [← hv]
  exact congrArg Host.Outcome.next (if_pos hv)

/-- A record with another severity is none. -/
theorem exec_eventRecordSubmit_none (hv : v.val ≠ sevOf c.toNat p1.toNat) :
    exec (.eventRecordSubmit p c v p0 p1 p2 b) s = .next s := congrArg Host.Outcome.next (if_neg hv)

end

theorem exec_eventRecordSubmit_room (p : Fin 16) (c : BitVec 16) (v : Fin 7) (p0 p1 p2 : Word) (b : Bool) (s : State) :
    v.val = sevOf c.toNat p1.toNat →
    Room s p →
    exec (.eventRecordSubmit p c v p0 p1 p2 b) s = .next { s with log := s.log.setFifo p (s.log.fifo p ++
      [{ code := c.toNat, sev := sevOf c.toNat p1.toNat, p0 := p0.toNat, p1 := p1.toNat, p2 := p2.toNat, prov := b }]) } := by
  intro hv hroom
  rw [exec_eventRecordSubmit hv, State.submit_room s p _ hroom]

theorem exec_eventRecordSubmit_full (p : Fin 16) (c : BitVec 16) (v : Fin 7) (p0 p1 p2 : Word) (b : Bool) (s : State) :
    v.val = sevOf c.toNat p1.toNat →
    16 ≤ (s.log.fifo p).length →    s.mpUp = true →
    ∃ t, exec (.eventRecordSubmit p c v p0 p1 p2 b) s = .next t ∧ t.log = { s.log with
        ovCount := s.log.ovCount + 1, ovPorts := s.log.ovPorts ||| 2 ^ p.val
        ovSince := if s.log.ovCount = 0 then s.optime else s.log.ovSince } ∧
      t.reg (LOG_DROP p) = s.reg (LOG_DROP p) + 1 ∧ t.get LOG_STATUS_OVERFLOW = 1 ∧ SameRegs [LOG_DROP p, LOG_STATUS] s t := by
  intro hv hfull hup
  rw [exec_eventRecordSubmit hv, State.submit_full (.inr hup) hfull, State.dropRecord_up hup]
  refine ⟨_, rfl, rfl, ?_, ?_, by simp⟩
  · rw [reg_withLog, reg_putB_ne _ _ _ (by simp [LOG_DROP, LOG_STATUS]; omega), reg_inc_whole]
  · rw [get_withLog]
    exact get_putB_same _ LOG_STATUS_OVERFLOW true (by decide)

theorem exec_eventRecordSubmit_down (p : Fin 16) (c : BitVec 16) (v : Fin 7) (p0 p1 p2 : Word) (b : Bool) (s : State) :
    s.mpUp = false → p ≠ 0 →
    exec (.eventRecordSubmit p c v p0 p1 p2 b) s = .next s := by
  intro hdown hp
  by_cases hv : v.val = sevOf c.toNat p1.toNat
  · have hport : p.val ≠ 0 := Fin.val_ne_of_ne hp
    rw [exec_eventRecordSubmit hv, State.submit, if_pos (by simp [hdown, hport])]
  · exact exec_eventRecordSubmit_none hv

theorem exec_eventRecordSubmit_aon (c : BitVec 16) (v : Fin 7) (p0 p1 p2 : Word) (b : Bool) (s : State) :
    v.val = sevOf c.toNat p1.toNat →
    s.mpUp = false → 16 ≤ (s.log.fifo 0).length →
    ∃ t, exec (.eventRecordSubmit 0 c v p0 p1 p2 b) s = .next t ∧ t.log = { s.log with
        aonDrops := s.log.aonDrops + 1, aonSince := if s.log.aonDrops = 0 then s.optime else s.log.aonSince } ∧
      { t with log := s.log } = s := by
  intro hv hdown hfull
  have hdrop : s.dropRecord 0 = _ := (if_neg (by simp [hdown])).trans (if_pos rfl)
  rw [exec_eventRecordSubmit hv, Fin.val_zero, State.submit_full (.inl rfl) hfull, hdrop]
  exact ⟨_, rfl, rfl, rfl⟩

theorem exec_eventRecordSubmit_severity (p : Fin 16) (c : BitVec 16) (v : Fin 7) (p0 p1 p2 : Word) (b : Bool) (s : State) :
    v.val ≠ sevOf c.toNat p1.toNat →
    exec (.eventRecordSubmit p c v p0 p1 p2 b) s = .next s := by
  exact fun hv => exec_eventRecordSubmit_none hv

/-! ### Pond entry (R432, R434 to R436) -/

namespace State

section Pond
variable (s : State)

/-- The record as it is stamped (R432, R434, R435). -/
def stamped (src depth : Nat) (e : Submit) : LogRec :=
  { seq := s.log.nextSeq, optime := s.optime, pcc := s.pcc, src := src
    flood := decide (3072 ≤ s.log.pond.length) || decide (8 ≤ depth), body := s.sampled e }

/-- The recorder with one record more in the pond. -/
def pondWith (src depth : Nat) (e : Submit) : Recorder := { s.log with
  pond := s.log.pond ++ [s.stamped src depth e], nextSeq := s.log.nextSeq + 1
  limit := if s.log.limit ≤ s.log.nextSeq + 1 + 128 then s.log.limit + 256 else s.log.limit
  flushEnd := none
  clearPending := if e.code = 0xA003 ∧ s.log.clearPending.isSome then some s.log.nextSeq else s.log.clearPending }

theorem bindShow_unbound {s : State} {code : Nat} (h : s.disp.bindings.find? (fun b => b.code = code) = none) :
    s.bindShow code = s := by rw [bindShow, h]

theorem irqRecord_log (n : Nat) : (s.irqRecord n).log = s.log := by
  rw [irqRecord]
  split <;> rfl

theorem irqRecord_disp (n : Nat) : (s.irqRecord n).disp = s.disp := by
  rw [irqRecord]
  split <;> rfl

theorem get_irqRecord (n : Nat) {f : Fld} (hf : f.addr ≠ NET_HSPI_IRQ_STATUS) : (s.irqRecord n).get f = s.get f := by
  rw [irqRecord]
  split
  · exact get_putB_ne _ _ _ _ (by decide) (.inl hf)
  · rfl

theorem sameRegs_irqRecord {l : List Nat} {s t : State} {n : Nat} (hl : NET_HSPI_IRQ_STATUS ∈ l) :
    SameRegs l s (t.irqRecord n) ↔ SameRegs l s t := by
  rw [irqRecord]
  split
  · exact sameRegs_putB hl
  · rfl

theorem pondEnter_eq (src depth : Nat) (e : Submit) :
    s.pondEnter src depth e =
      let t := (((s.withLog (s.pondWith src depth e)).pondRegs).irqRecord e.sev).bindShow e.code
      if (s.pondWith src depth e).pond.length = 3072 then t.unfreeze 1 else t := rfl

/-- A record that no binding shows and that lifts no freeze only enters the pond (R432 to R435). -/
theorem pondEnter_plain {s : State} {e : Submit} (hfreeze : s.log.freeze = none)
    (hbind : s.disp.bindings.find? (fun b => b.code = e.code) = none) (src depth : Nat) :
    s.pondEnter src depth e = ((s.withLog (s.pondWith src depth e)).pondRegs).irqRecord e.sev := by
  have hshow : (((s.withLog (s.pondWith src depth e)).pondRegs).irqRecord e.sev).bindShow e.code =
      ((s.withLog (s.pondWith src depth e)).pondRegs).irqRecord e.sev :=
    bindShow_unbound (by rw [irqRecord_disp]; exact hbind)
  have hthaw : (((s.withLog (s.pondWith src depth e)).pondRegs).irqRecord e.sev).unfreeze 1 =
      ((s.withLog (s.pondWith src depth e)).pondRegs).irqRecord e.sev :=
    if_neg (by rw [irqRecord_log]; simp [pondRegs, pondWith, hfreeze])
  rw [pondEnter_eq, hshow]
  dsimp only
  rw [hthaw, ite_self]

theorem pondRegs_log : s.pondRegs.log = s.log := rfl


theorem get_pondRegs_hwm : s.pondRegs.get LOG_HWM_LO_HWM_LO = s.hwm % 2 ^ 32 := by
  simp [pondRegs, raise, get_put_same, get_put_ne]

theorem get_pondRegs_fill : s.pondRegs.get LOG_POND_FILL = s.log.pond.length % 8192 := by
  simp [pondRegs, raise, get_put_same, get_put_ne]

theorem sameRegs_pondRegs {l : List Nat} {s t : State} (hl : LOG_HWM_LO ∈ l ∧ LOG_HWM_HI ∈ l ∧ LOG_POND ∈ l) :
    SameRegs l s t.pondRegs ↔ SameRegs l s t := by
  obtain ⟨hlo, hhi, hpond⟩ := hl
  rw [pondRegs, sameRegs_raise hpond, sameRegs_put hpond, sameRegs_put hhi, sameRegs_put hlo]

end Pond

end State

theorem exec_pondRecordEntry_record (p : Nat) (e : Submit) (q : List Submit) (s : State) :
    s.mpUp = true → s.log.pond.length < 4096 → s.log.ovCount = 0 →
    s.log.nextPort s.log.pond.length = some p → s.log.fifo p = e :: q → s.disp.bindings.find? (fun b => b.code = e.code) = none →
    s.log.freeze = none →
    ∃ t, exec .pondRecordEntry s = .next t ∧ t.log.pond = s.log.pond ++ [{
        seq := s.log.nextSeq, optime := s.optime, pcc := s.pcc, src := p
        flood := decide (3072 ≤ s.log.pond.length) || decide (8 ≤ q.length + 1), body := s.sampled e }] ∧
      t.log.nextSeq = s.log.nextSeq + 1 ∧ t.log.fifo p = q ∧ (∀ r, r ≠ p → t.log.fifo r = s.log.fifo r) ∧ t.log.rr = p ∧
      t.log.limit = (if s.log.limit ≤ s.log.nextSeq + 129 then s.log.limit + 256 else s.log.limit) ∧
      t.get LOG_HWM_LO_HWM_LO = s.log.nextSeq % 2 ^ 32 ∧ t.get LOG_POND_FILL = s.log.pond.length + 1 ∧
      SameRegs [LOG_HWM_LO, LOG_HWM_HI, LOG_POND, NET_HSPI_IRQ_STATUS] s t := by
  intro hup hpond hov hport hfifo hbind hfreeze
  obtain ⟨l, hl⟩ : ∃ l, l = { (s.log.setFifo p q) with rr := p } := ⟨_, rfl⟩
  have htake : exec .pondRecordEntry s = .next ((s.withLog l).pondEnter p (q.length + 1) e) := by
    rw [show exec .pondRecordEntry s = .next s.arbitrate from rfl, State.arbitrate, if_pos hup, State.intakeCycle,
      if_neg (by omega), if_neg (by simp [hov]), hport]
    simp only [State.takePort, hfifo, hl]
    rfl
  have hkept : l.pond = s.log.pond ∧ l.freeze = s.log.freeze ∧ l.nextSeq = s.log.nextSeq ∧
      l.limit = s.log.limit := by
    simp [hl, Recorder.setFifo]
  have hfifos : l.rr = p ∧ l.fifo p = q ∧ ∀ r, r ≠ p → l.fifo r = s.log.fifo r := by
    refine ⟨by rw [hl], ?_, fun r hr => ?_⟩
    · rw [hl]
      exact (Recorder.fifo_setFifo ..).trans (if_pos rfl)
    · rw [hl]
      exact (Recorder.fifo_setFifo ..).trans (if_neg hr)
  obtain ⟨hlpond, hlfreeze, hlseq, hllimit⟩ := hkept
  obtain ⟨hrr, htaken, hothers⟩ := hfifos
  have hsampled : (s.withLog l).sampled e = s.sampled e := rfl
  have hoptime : (s.withLog l).optime = s.optime := rfl
  have hpcc : (s.withLog l).pcc = s.pcc := rfl
  have hbind' : (s.withLog l).disp.bindings.find? (fun b => b.code = e.code) = none := hbind
  rw [htake, State.pondEnter_plain (hlfreeze.trans hfreeze) hbind']
  have hlog : ((((s.withLog l).withLog ((s.withLog l).pondWith p (q.length + 1) e)).pondRegs).irqRecord e.sev).log =
      (s.withLog l).pondWith p (q.length + 1) e := State.irqRecord_log _ _
  refine ⟨_, rfl, ?_, ?_, ?_, ?_, ?_, ?_, ?_, ?_, ?_⟩
  · rw [hlog]
    simp [State.pondWith, State.stamped, hlpond, hlseq, hsampled, hoptime, hpcc]
  · rw [hlog]
    simp [State.pondWith, hlseq]
  · rw [hlog]
    exact htaken
  · rw [hlog]
    exact hothers
  · rw [hlog]
    exact hrr
  · rw [hlog]
    simp [State.pondWith, hlseq, hllimit, Nat.add_assoc]
  · rw [State.get_irqRecord _ _ (by decide), State.get_pondRegs_hwm]
    simp [State.hwm, State.pondWith, hlseq]
  · rw [State.get_irqRecord _ _ (by decide), State.get_pondRegs_fill]
    simp only [State.pondWith, State.withLog_log, hlpond, List.length_append, List.length_singleton]
    exact Nat.mod_eq_of_lt (by omega)
  · rw [State.sameRegs_irqRecord (by decide), State.sameRegs_pondRegs (by decide)]
    simp

theorem exec_pondRecordEntry_overflow (s : State) :
    s.mpUp = true → s.log.pond.length < 4096 → s.log.ovCount ≠ 0 → s.log.freeze = none →
    s.disp.bindings.find? (fun b => b.code = 0xA002) = none →
    ∃ t, exec .pondRecordEntry s = .next t ∧ t.log.pond = s.log.pond ++ [{
        seq := s.log.nextSeq, optime := s.optime, pcc := s.pcc, src := portLog, flood := decide (3072 ≤ s.log.pond.length)
        body := {
          code := 0xA002, sev := 4, p0 := s.log.ovCount % 2 ^ 32, p1 := s.log.ovPorts
          p2 := (s.optime - s.log.ovSince) * 1000 / 1024 % 2 ^ 32 } }] ∧
      t.log.ovCount = 0 ∧ t.get LOG_STATUS_OVERFLOW = 0 ∧ t.log.nextSeq = s.log.nextSeq + 1 ∧ t.log.fifos = s.log.fifos := by
  intro hup hpond hov hfreeze hbind
  obtain ⟨u, hu⟩ : ∃ u, u = (s.withLog { s.log with ovCount := 0, ovPorts := 0 }).putB LOG_STATUS_OVERFLOW false :=
    ⟨_, rfl⟩
  have hentry : exec .pondRecordEntry s = .next (u.pondEnter portLog 1 {
      code := 0xA002, sev := 4, p0 := s.log.ovCount % 2 ^ 32, p1 := s.log.ovPorts
      p2 := (s.optime - s.log.ovSince) * 1000 / 1024 % 2 ^ 32 }) := by
    rw [show exec .pondRecordEntry s = .next s.arbitrate from rfl, State.arbitrate, if_pos hup, State.intakeCycle,
      if_neg (by omega), if_pos hov, State.overflowRecord, hu]
    rfl
  have hulog : u.log = { s.log with ovCount := 0, ovPorts := 0 } := by rw [hu]; rfl
  have hudisp : u.disp = s.disp := by rw [hu]; rfl
  have hover : u.get LOG_STATUS_OVERFLOW = 0 := by
    rw [hu]
    exact get_putB_same _ LOG_STATUS_OVERFLOW false (by decide)
  have hsame : SameRegs [LOG_STATUS] s u := by
    rw [hu]
    simp
  have hoptime : u.optime = s.optime := by
    rw [State.optime, State.optime, hsame _ (by decide), State.get, State.get, hsame _ (by decide)]
  have hpcc : u.pcc = s.pcc := by rw [State.pcc, State.pcc, State.get, State.get, hsame _ (by decide)]
  rw [hentry, State.pondEnter_plain (by rw [hulog]; exact hfreeze) (by rw [hudisp]; exact hbind)]
  generalize he : ({ code := 0xA002, sev := 4, p0 := s.log.ovCount % 2 ^ 32, p1 := s.log.ovPorts,
                     p2 := (s.optime - s.log.ovSince) * 1000 / 1024 % 2 ^ 32 } : Submit) = e
  have hsampled : u.sampled e = e := if_neg (by simp [← he])
  have hlog : (((u.withLog (u.pondWith portLog 1 e)).pondRegs).irqRecord e.sev).log = u.pondWith portLog 1 e :=
    State.irqRecord_log _ _
  refine ⟨_, rfl, ?_, ?_, ?_, ?_, ?_⟩
  · rw [hlog]
    simp [State.pondWith, State.stamped, hulog, hsampled, hoptime, hpcc]
  · rw [hlog]
    simp [State.pondWith, hulog]
  · rw [State.get_irqRecord _ _ (by decide)]
    refine Eq.trans ?_ hover
    simp [State.pondRegs, State.raise, get_put_ne]
  · rw [hlog]
    simp [State.pondWith, hulog]
  · rw [hlog]
    simp [State.pondWith, hulog]

theorem exec_pondRecordEntry_none (s : State) :
    (s.mpUp = false ∨ 4096 ≤ s.log.pond.length) → exec .pondRecordEntry s = .next s := by
  rintro (h | h)
  · exact congrArg Host.Outcome.next (if_neg (by simp [h]))
  · rw [show exec .pondRecordEntry s = .next s.arbitrate from rfl, State.arbitrate, State.intakeCycle, if_pos h,
      ite_self]

/-! ### The flush (R437 to R440) -/

theorem exec_logPageDue_starts (s : State) :
    s.log.inFlight = none → s.log.freeze = none → s.on LOG_STATUS_FLUSH_PAUSED = false →
    32 ≤ s.log.pond.length →
    ∃ t, exec .logPageDue s = .next t ∧
      t.log = { s.log with inFlight := some (32 - s.log.place % 32) } ∧ { t with log := s.log } = s := by
  intro hidle hfreeze hpause hfill
  have hdue : s.pageDue = true := by
    rw [State.pageDue]
    cases hp : s.log.pond with
    | nil => simp [hp] at hfill
    | cons r q => simp [← hp, hfill]
  have hpage : exec .logPageDue s = .next _ :=
    congrArg Host.Outcome.next (if_pos (by simp [hidle, hfreeze, hpause, hdue]))
  have hroom : min s.pageRoom s.log.pond.length = 32 - s.log.place % 32 := by
    rw [State.pageRoom]
    omega
  rw [hpage, hroom]
  exact ⟨_, rfl, rfl, rfl⟩

theorem exec_logPageDue_none (s : State) :
    (s.log.inFlight ≠ none ∨ s.log.freeze ≠ none ∨ s.on LOG_STATUS_FLUSH_PAUSED = true ∨ s.log.pond = []) →
    exec .logPageDue s = .next s := by
  intro h
  refine congrArg Host.Outcome.next (if_neg ?_)
  rcases h with h | h | h | h
  · simp [h]
  · simp [h]
  · simp [h]
  · simp [State.pageDue, h]

namespace State

section Flush
variable (s : State) (n : Nat)

theorem syslogLost_log (gone head : List LogRec) :
    ∃ k, (s.syslogLost gone head).log = { s.log with sysSkipped := k } := by
  rw [syslogLost]
  split
  · exact ⟨_, rfl⟩
  · exact ⟨_, rfl⟩

theorem headFull_of_short {s : State} (h : s.log.head.length ≠ 65536) (was : Nat) : s.headFull was = s := if_neg h

/-- The records that a page holds join both races where the headrace has room and no clear runs (R437, R438). -/
theorem flushRecords_log {s : State} {r : LogRec} (hclear : s.log.clearPending = none)
    (hroom : s.log.head.length + n < 65536) (hlast : (s.log.pond.take n).getLast? = some r) :
    ∃ k, (s.flushRecords n).log = { s.log with
      pond := s.log.pond.drop n
      tail := (s.log.tail ++ s.log.pond.take n).drop ((s.log.tail ++ s.log.pond.take n).length - s.log.tailCap)
      head := s.log.head ++ s.log.pond.take n, flushed := r.seq, sysSkipped := k } := by
  have hlen : (s.log.pond.take n).length ≤ n := List.length_take_le ..
  have hcopy : (s.log.pond.take n).take (65536 - s.log.head.length) = s.log.pond.take n :=
    List.take_of_length_le (by omega)
  have hhead : (s.log.head ++ s.log.pond.take n).length ≠ 65536 := by
    rw [List.length_append]
    omega
  rw [flushRecords]
  simp only [hclear, Option.isSome_none, Bool.false_eq_true, if_false, hcopy, hlast]
  obtain ⟨k, hk⟩ := s.syslogLost_log ((s.log.tail ++ s.log.pond.take n).take
    ((s.log.tail ++ s.log.pond.take n).length - s.log.tailCap)) (s.log.head ++ s.log.pond.take n)
  refine ⟨k, ?_⟩
  generalize s.syslogLost _ _ = t at hk ⊢
  rw [headFull_of_short hhead]
  refine Eq.trans (b := { t.log with
    pond := s.log.pond.drop n
    tail := (s.log.tail ++ s.log.pond.take n).drop ((s.log.tail ++ s.log.pond.take n).length - s.log.tailCap)
    head := s.log.head ++ s.log.pond.take n, flushed := r.seq }) rfl ?_
  rw [hk]
  simp [hclear]
/-- The write point moves; the races, the pond and the FIFOs stay (R437, R439). -/
theorem advancePlace_log : ∃ e k q, (s.advancePlace n).log = { s.log with
    place := (s.log.placeAfter (n / 128 + 2) s.log.place n 0).1, erasing := e, pool := k, paused := q } :=
  ⟨_, _, _, rfl⟩

theorem sameRegs_advancePlace : SameRegs [LOG_STATUS] s (s.advancePlace n) :=
  (sameRegs_putB (by decide)).mpr ((sameRegs_congr rfl).mpr sameRegs_refl)

theorem advancePlace_mpUp : (s.advancePlace n).mpUp = s.mpUp := rfl

end Flush

end State

theorem Recorder.liveSector_live {r : Recorder} {k : Nat} (h : k ∉ r.retired) (fuel : Nat) :
    r.liveSector fuel k = k := by
  cases fuel with
  | zero => rfl
  | succ fuel => exact if_neg h

/-- The write point moves on within a sector in use, or to the start of the next (R437). -/
theorem Recorder.placeAfter_sector {r : Recorder} {a n : Nat} (ha : a < 425984) (hlive : a / 128 ∉ r.retired)
    (hn : n ≠ 0) (hle : n ≤ 128 - a % 128) (fuel new : Nat) : (r.placeAfter (fuel + 2) a n new).1 = (a + n) % 425984 := by
  have hstart : (if a % 128 = 0 then 128 * r.liveSector r.retired.length (a / 128) else a) = a := by
    rw [Recorder.liveSector_live hlive]
    split <;> omega
  rw [Recorder.placeAfter, if_neg hn]
  simp only [hstart]
  split
  · exact (Nat.mod_eq_of_lt (by omega)).symm
  · have hlast : n = 128 - a % 128 := by omega
    rw [← hlast, Nat.sub_self, Recorder.placeAfter, if_pos rfl]

theorem Room.of_fifos {p : Nat} {s t : State} (h : Room s p) (ht : t.log.fifos = s.log.fifos) (hp : t.pwr = s.pwr) :
    Room t p := by
  unfold Room State.mpUp Recorder.fifo at *
  rwa [ht, hp]

theorem exec_logPageProgrammed_good (n : Nat) (r : LogRec) (s : State) :
    s.log.inFlight = some n → s.log.clearPending = none →
    s.log.head.length + n < 65536 → s.log.place < 425984 → n ≤ 32 - s.log.place % 32 → s.log.place / 128 ∉ s.log.retired → (s.log.pond.take n).getLast? = some r →
    ∃ t, exec (.logPageProgrammed true) s = .next t ∧ t.log.inFlight = none ∧ t.log.pond = s.log.pond.drop n ∧
      t.log.tail = (s.log.tail ++ s.log.pond.take n).drop ((s.log.tail ++ s.log.pond.take n).length - s.log.tailCap) ∧
      t.log.head = s.log.head ++ s.log.pond.take n ∧ t.log.flushed = r.seq ∧
      t.log.place = (s.log.place + n) % 425984 ∧ t.log.fifos = s.log.fifos := by
  intro hfly hclear hroom hplace hn hlive hlast
  have hpos : n ≠ 0 := by
    rintro rfl
    simp at hlast
  obtain ⟨u, hu⟩ : ∃ u, u = s.withLog { s.log with inFlight := none } := ⟨_, rfl⟩
  have hulog : u.log = { s.log with inFlight := none } := by rw [hu]; rfl
  have hdone : exec (.logPageProgrammed true) s = .next ((u.flushRecords n).advancePlace n) := by
    rw [show exec (.logPageProgrammed true) s = .next (s.pageDone true) from rfl, State.pageDone, hfly, hu]
    rfl
  obtain ⟨k, hflush⟩ := State.flushRecords_log n (s := u) (r := r) (by rw [hulog]; exact hclear)
    (by rw [hulog]; exact hroom) (by rw [hulog]; exact hlast)
  obtain ⟨e, pool, q, hmoved⟩ := (u.flushRecords n).advancePlace_log n
  have hplace' : (u.flushRecords n).log.place = s.log.place := by rw [hflush, hulog]
  have hretired : (u.flushRecords n).log.retired = s.log.retired := by rw [hflush, hulog]
  have hpoint : ((u.flushRecords n).log.placeAfter (n / 128 + 2) (u.flushRecords n).log.place n 0).1 =
      (s.log.place + n) % 425984 := by
    rw [hplace']
    exact Recorder.placeAfter_sector hplace (by rw [hretired]; exact hlive) hpos (by omega) _ _
  refine ⟨_, hdone, ?_⟩
  rw [hmoved, hpoint, hflush, hulog]
  exact ⟨rfl, rfl, rfl, rfl, rfl, rfl, rfl⟩

/-! ### Wear (R440, R445) -/

namespace State

section Wear
variable (s : State)

theorem wearShow_log : s.wearShow.log = s.log := rfl

theorem sameRegs_wearShow {l : List Nat} {s t : State} (hl : LOG_WEAR ∈ l ∧ LOG_STATUS ∈ l) :
    SameRegs l s t.wearShow ↔ SameRegs l s t := by
  obtain ⟨hwear, hstatus⟩ := hl
  rw [wearShow, sameRegs_putB hstatus, sameRegs_put hwear, sameRegs_put hwear]

theorem get_wearShow_retired : s.wearShow.get LOG_WEAR_RETIRED = min s.log.retired.length 255 := by
  rw [wearShow, get_putB_ne _ _ _ _ (by decide) (by decide), get_put_ne _ _ _ _ (by decide) (by decide),
    get_put_same _ _ _ (by decide), satTo]
  exact Nat.mod_eq_of_lt (by simp)

theorem get_wearShow_erases :
    s.wearShow.get LOG_WEAR_MAX_ERASE = satTo 24 ((s.log.erases.map (fun p => p.2)).foldl max 0) := by
  rw [wearShow, get_putB_ne _ _ _ _ (by decide) (by decide), get_put_same _ _ _ (by decide), satTo]
  exact Nat.mod_eq_of_lt (by simp)

/-- The sector joins those that are retired. -/
def sectorAdded (s : State) (k : Nat) : State := s.withLog { s.log with retired := k :: s.log.retired }

theorem retire_eq (k : Nat) : s.retire k = if k ∈ s.log.retired then s else
    ((s.ev portLog 0xA006 (0x200000 + 4096 * k) 0).sectorAdded k).wearShow := rfl

theorem retire_new {s : State} {k : Nat} (hnew : k ∉ s.log.retired) (hroom : Room s portLog) :
    s.retire k = ((s.wrote portLog (record 0xA006 (0x200000 + 4096 * k) 0 0 false)).sectorAdded k).wearShow := by
  rw [retire_eq, if_neg hnew, ev_of_room hroom]

end Wear

end State

theorem exec_logPageProgrammed_bad (n : Nat) (s : State) :
    s.log.inFlight = some n → Room s portLog → s.log.place < 425984 →
    s.log.place / 128 ∉ s.log.retired →
    ∃ t, exec (.logPageProgrammed false) s = .next t ∧ t.log.inFlight = none ∧ t.log.pond = s.log.pond ∧
      t.log.tail = s.log.tail ∧ t.log.retired = s.log.place / 128 :: s.log.retired ∧
      t.get LOG_WEAR_RETIRED = min (s.log.retired.length + 1) 255 ∧
      t.log.place = (s.log.place + (128 - s.log.place % 128)) % 425984 ∧ SameRegs [LOG_WEAR, LOG_STATUS] s t ∧
      Newest portLog 0xA006 (0x200000 + 4096 * (s.log.place / 128)) 0 0 t := by
  intro hfly hroom hplace hlive
  obtain ⟨u, hu⟩ : ∃ u, u = s.withLog { s.log with inFlight := none } := ⟨_, rfl⟩
  have hulog : u.log = { s.log with inFlight := none } := by rw [hu]; rfl
  have huregs : u.regs = s.regs := by rw [hu]; rfl
  have hplace' : u.log.place = s.log.place := by rw [hulog]
  have hretired : u.log.retired = s.log.retired := by rw [hulog]
  have hlive' : s.log.place / 128 ∉ u.log.retired := by rw [hretired]; exact hlive
  have hupwr : u.pwr = s.pwr := by rw [hu]; rfl
  have huroom : Room u portLog := hroom.of_fifos (by rw [hulog]) hupwr
  obtain ⟨e, pool, q, hmoved⟩ := u.advancePlace_log (128 - s.log.place % 128)
  have hpoint : (u.log.placeAfter ((128 - s.log.place % 128) / 128 + 2) s.log.place (128 - s.log.place % 128) 0).1 =
      (s.log.place + (128 - s.log.place % 128)) % 425984 :=
    Recorder.placeAfter_sector hplace hlive' (by omega) le_rfl _ _
  have hbad : exec (.logPageProgrammed false) s =
      .next ((u.advancePlace (128 - s.log.place % 128)).retire (s.log.place / 128)) := by
    have hpage : u.pageBad = (u.advancePlace (128 - s.log.place % 128)).retire (s.log.place / 128) := by
      simp only [State.pageBad, hplace', Recorder.liveSector_live hlive', ite_self]
    rw [← hpage, hu]
    rw [show exec (.logPageProgrammed false) s = .next (s.pageDone false) from rfl, State.pageDone, hfly]
    rfl
  have hsame : SameRegs [LOG_WEAR, LOG_STATUS] s (u.advancePlace (128 - s.log.place % 128)) :=
    ((sameRegs_congr huregs).mpr sameRegs_refl).next (SameRegs.mono (u.sameRegs_advancePlace _) (by simp))
  have hroom' : Room (u.advancePlace (128 - s.log.place % 128)) portLog := by
    exact huroom.of_fifos (by rw [hmoved]) rfl
  rw [hplace', hpoint, hulog] at hmoved
  generalize u.advancePlace (128 - s.log.place % 128) = w at *
  rw [hbad, State.retire_new (by rw [hmoved]; exact hlive) hroom']
  refine ⟨_, rfl, ?_⟩
  rw [State.wearShow_log, get_wearShow_retired, sameRegs_wearShow (by decide), sectorAdded, withLog_log,
    sameRegs_withLog]
  have hnewest : Newest portLog 0xA006 (0x200000 + 4096 * (s.log.place / 128)) 0 0
      (w.wrote portLog (record 0xA006 (0x200000 + 4096 * (s.log.place / 128)) 0 0 false)) := newest_wrote ..
  have hstays := congrArg Recorder.retired hmoved
  have hpond : w.log.pond = s.log.pond := by rw [hmoved]
  have htail : w.log.tail = s.log.tail := by rw [hmoved]
  refine ⟨congrArg Recorder.inFlight hmoved, hpond, htail, congrArg (_ :: ·) hstays, ?_,
    congrArg Recorder.place hmoved, ?_, hnewest⟩
  · have hlen : (w.wrote portLog
        (record 0xA006 (0x200000 + 4096 * (s.log.place / 128)) 0 0 false)).log.retired.length = s.log.retired.length :=
      congrArg List.length hstays
    rw [List.length_cons, hlen]
  · simpa using hsame

theorem exec_logPageProgrammed_none (ok : Bool) (s : State) :
    s.log.inFlight = none → exec (.logPageProgrammed ok) s = .next s := by
  intro h
  rw [show exec (.logPageProgrammed ok) s = .next (s.pageDone ok) from rfl, State.pageDone, h]

/-- The races, the pond and the sectors, which records that are submitted leave (R431, R432). -/
def Recorder.races (r : Recorder) : List LogRec × List LogRec × Nat × List (Nat × Nat) × Nat × List Nat :=
  (r.pond, r.tail, r.erasing, r.erases, r.pool, r.retired)

namespace State

section Report
variable (s : State)

theorem submit_races (p : Nat) (e : Submit) : (s.submit p e).log.races = s.log.races := by
  rw [submit]
  split
  · rfl
  split
  · rfl
  rw [dropRecord]
  split
  · rfl
  split <;> rfl

theorem ev_races (p c a b d : Nat) (v : Bool) : (s.ev p c a b d v).log.races = s.log.races := s.submit_races p _

/-- The recorder with the wear that is reported next. -/
def wearNoted (s : State) (k : Nat) : State := s.withLog { s.log with wearNext := k }

theorem wearReport_noted : s.wearReport = s ∨ ∃ m w k, s.wearReport = (s.ev portLog 0xA005 m w).wearNoted k := by
  rw [wearReport]
  simp only []
  split
  · exact .inr ⟨_, _, _, rfl⟩
  · exact .inl rfl

theorem wearReport_races : s.wearReport.log.races = s.log.races := by
  rcases s.wearReport_noted with h | ⟨m, w, k, h⟩
  · rw [h]
  · rw [h, ← s.ev_races portLog 0xA005 m w 0 false]
    rfl

/-- A record writes no register but those of the drops of its port (R436). -/
theorem sameRegs_submit {l : List Nat} {p : Nat} (hl : LOG_DROP p ∈ l ∧ LOG_STATUS ∈ l) (e : Submit) :
    SameRegs l s (s.submit p e) := by
  obtain ⟨hdrop, hstatus⟩ := hl
  rw [submit]
  split
  · exact sameRegs_refl
  split
  · exact sameRegs_refl.of_regs (t := s) rfl
  by_cases hup : s.mpUp = true
  · rw [dropRecord_up hup, sameRegs_withLog, sameRegs_putB hstatus, sameRegs_inc hdrop]
    exact sameRegs_refl
  · rw [dropRecord, if_neg hup]
    split
    · exact sameRegs_refl.of_regs (t := s) rfl
    · exact sameRegs_refl

theorem sameRegs_ev {l : List Nat} {p : Nat} (hl : LOG_DROP p ∈ l ∧ LOG_STATUS ∈ l) (c a b d : Nat) (v : Bool) :
    SameRegs l s (s.ev p c a b d v) := s.sameRegs_submit hl _

theorem sameRegs_wearReport : SameRegs [LOG_STATUS, LOG_DROP portLog] s s.wearReport := by
  rcases s.wearReport_noted with h | ⟨m, w, k, h⟩
  · rw [h]
    exact sameRegs_refl
  · rw [h, wearNoted, sameRegs_withLog]
    exact s.sameRegs_ev (by decide) 0xA005 m w 0 false

theorem sameRegs_setPool {l : List Nat} {s t : State} (hl : LOG_STATUS ∈ l) (n : Nat) :
    SameRegs l s (t.setPool n) ↔ SameRegs l s t := by
  rw [setPool, sameRegs_putB hl]
  exact sameRegs_congr rfl

theorem setPool_races (n : Nat) : (s.setPool n).log.races =
    (s.log.pond, s.log.tail, s.log.erasing, s.log.erases, n, s.log.retired) := rfl

theorem sameRegs_retire {l : List Nat} {s t : State} (hl : LOG_WEAR ∈ l ∧ LOG_STATUS ∈ l ∧ LOG_DROP portLog ∈ l)
    (h : SameRegs l s t) (k : Nat) : SameRegs l s (t.retire k) := by
  obtain ⟨hwear, hstatus, hdrop⟩ := hl
  rw [retire_eq]
  split
  · exact h
  · rw [sameRegs_wearShow ⟨hwear, hstatus⟩, sectorAdded, sameRegs_withLog]
    exact h.next (t.sameRegs_ev ⟨hdrop, hstatus⟩ _ _ _ _ _)

/-- A sector that is retired, or was before (R445). -/
theorem retire_races (k : Nat) : ∃ l, k ∈ l ∧ (s.retire k).log.races =
    (s.log.pond, s.log.tail, s.log.erasing, s.log.erases, s.log.pool, l) := by
  rw [retire_eq]
  split
  · exact ⟨s.log.retired, ‹_›, rfl⟩
  · have hkept := s.ev_races portLog 0xA006 (0x200000 + 4096 * k) 0 0 false
    simp only [Recorder.races, Prod.mk.injEq] at hkept
    obtain ⟨hpond, htail, herasing, herases, hpool, -⟩ := hkept
    refine ⟨k :: (s.ev portLog 0xA006 (0x200000 + 4096 * k) 0).log.retired, List.mem_cons_self, ?_⟩
    rw [wearShow_log, sectorAdded, withLog_log]
    simp only [Recorder.races, hpond, htail, herasing, herases, hpool]

/-- The erase of a sector is counted before its outcome is looked at (R445). -/
def eraseCounted (s : State) (k : Nat) : State := (s.withLog { s.log with
  erasing := s.log.erasing - 1
  erases := tset (fun _ => 0) s.log.erases k (tget (fun _ => 0) s.log.erases k + 1) }).wearShow

theorem sameRegs_eraseCounted (k : Nat) : SameRegs [LOG_WEAR, LOG_STATUS, LOG_DROP portLog] s (s.eraseCounted k) :=
  (sameRegs_wearShow (by decide)).mpr (by simp)

theorem tailErased_good {s : State} {k : Nat} (hup : s.mpUp = true) (herase : s.log.erasing ≠ 0) :
    s.tailErased k true =
      ((s.eraseCounted k).setPool (min (s.eraseCounted k).fullPool ((s.eraseCounted k).log.pool + 1))).wearReport := by
  rw [tailErased, if_neg (by simp [hup, herase])]
  rfl

theorem tailErased_bad {s : State} {k : Nat} (hup : s.mpUp = true) (herase : s.log.erasing ≠ 0) :
    s.tailErased k false = ((s.eraseCounted k).retire k).wearReport := by
  rw [tailErased, if_neg (by simp [hup, herase])]
  rfl

end Report

end State

theorem exec_sectorEraseDone_good (sec : Nat) (s : State) :
    s.mpUp = true → s.log.erasing ≠ 0 →
    ∃ t, exec (.sectorEraseDone false sec true) s = .next t ∧ t.log.erasing = s.log.erasing - 1 ∧
      tget (fun _ => 0) t.log.erases sec = tget (fun _ => 0) s.log.erases sec + 1 ∧
      t.log.pool = min s.fullPool (s.log.pool + 1) ∧
      t.get LOG_WEAR_MAX_ERASE = satTo 24 ((t.log.erases.map (fun p => p.2)).foldl max 0) ∧
      t.log.pond = s.log.pond ∧ t.log.tail = s.log.tail ∧ SameRegs [LOG_WEAR, LOG_STATUS, LOG_DROP portLog] s t := by
  intro hup herase
  rw [show exec (.sectorEraseDone false sec true) s = .next (s.tailErased sec true) from rfl,
    State.tailErased_good hup herase]
  have hraces := (((s.eraseCounted sec).setPool (min (s.eraseCounted sec).fullPool
    ((s.eraseCounted sec).log.pool + 1))).wearReport_races).trans (State.setPool_races ..)
  have hsame := ((State.sameRegs_setPool (by decide) (min (s.eraseCounted sec).fullPool
    ((s.eraseCounted sec).log.pool + 1))).mpr (s.sameRegs_eraseCounted sec)).next
      (SameRegs.mono (State.sameRegs_wearReport _) (by simp))
  have hmax : (((s.eraseCounted sec).setPool (min (s.eraseCounted sec).fullPool
      ((s.eraseCounted sec).log.pool + 1))).wearReport).get LOG_WEAR_MAX_ERASE =
      satTo 24 (((s.eraseCounted sec).log.erases.map (fun p => p.2)).foldl max 0) := by
    rw [State.get, State.sameRegs_wearReport _ _ (by decide), State.setPool, ← State.get]
    exact (get_putB_ne _ _ _ _ (by decide) (by decide)).trans (State.get_wearShow_erases _)
  generalize State.wearReport _ = t at *
  simp only [Recorder.races, Prod.mk.injEq] at hraces
  obtain ⟨hpond, htail, herasing, herases, hpool, -⟩ := hraces
  refine ⟨t, rfl, herasing, ?_, hpool, ?_, hpond, htail, hsame⟩
  · rw [herases]
    exact tget_tset_same (fun _ => 0) s.log.erases sec (tget (fun _ => 0) s.log.erases sec + 1)
  · rw [herases]
    exact hmax

theorem exec_sectorEraseDone_bad (sec : Nat) (s : State) :
    s.mpUp = true → s.log.erasing ≠ 0 →
    ∃ t, exec (.sectorEraseDone false sec false) s = .next t ∧ t.log.erasing = s.log.erasing - 1 ∧
      t.log.pool = s.log.pool ∧ sec ∈ t.log.retired ∧ t.log.pond = s.log.pond ∧ t.log.tail = s.log.tail ∧
      SameRegs [LOG_WEAR, LOG_STATUS, LOG_DROP portLog] s t := by
  intro hup herase
  rw [show exec (.sectorEraseDone false sec false) s = .next (s.tailErased sec false) from rfl,
    State.tailErased_bad hup herase]
  obtain ⟨l, hmem, hretired⟩ := (s.eraseCounted sec).retire_races sec
  have hraces := (State.wearReport_races _).trans hretired
  have hsame := (State.sameRegs_retire (by decide) (s.sameRegs_eraseCounted sec) sec).next
    (SameRegs.mono (State.sameRegs_wearReport _) (by simp))
  generalize State.wearReport _ = t at *
  simp only [Recorder.races, Prod.mk.injEq] at hraces
  obtain ⟨hpond, htail, herasing, -, hpool, hretired⟩ := hraces
  exact ⟨t, rfl, herasing, hpool, hretired ▸ hmem, hpond, htail, hsame⟩

theorem exec_sectorEraseDone_none (sec : Nat) (ok : Bool) (s : State) :
    (s.mpUp = false ∨ s.log.erasing = 0) →
    exec (.sectorEraseDone false sec ok) s = .next s := by
  intro h
  rw [show exec (.sectorEraseDone false sec ok) s = .next (s.tailErased sec ok) from rfl, State.tailErased, if_pos]
  rcases h with h | h <;> simp [h]

theorem exec_sectorEraseDone_head (sec : Nat) (ok : Bool) (s : State) :
    ∃ t, exec (.sectorEraseDone true sec ok) s = .next t ∧
    t.log = { s.log with headErasing := s.log.headErasing - 1 } ∧ { t with log := s.log } = s := by
  exact ⟨_, rfl, rfl, rfl⟩

/-- Settles O57: each clause is one of the lemmas on submission, the pond, the flush and the wear of the log flash. -/
theorem logIntake : Obligations.LogIntake :=
  ⟨exec_eventRecordSubmit_room, exec_eventRecordSubmit_full, exec_eventRecordSubmit_down, exec_eventRecordSubmit_aon,
    exec_eventRecordSubmit_severity, exec_pondRecordEntry_record, exec_pondRecordEntry_overflow, exec_pondRecordEntry_none,
    exec_logPageDue_starts, exec_logPageDue_none, exec_logPageProgrammed_good, exec_logPageProgrammed_bad,
    exec_logPageProgrammed_none, exec_sectorEraseDone_good, exec_sectorEraseDone_bad, exec_sectorEraseDone_none,
    exec_sectorEraseDone_head⟩

end Sys2Proof.Machine
end

section
/-! PROOFS. The state of the valve banks: what its operations show, and what they leave (R342 to R371). -/

namespace Sys2Proof.Machine

open Reg State

/-- A field of a register left alone. -/
theorem SameRegs.get_eq {l : List Nat} {s t : State} (h : SameRegs l s t) {f : Fld} (hf : f.addr ∉ l) :
    t.get f = s.get f := by rw [State.get, State.get, h _ hf]

theorem SameRegs.on_eq {l : List Nat} {s t : State} (h : SameRegs l s t) {f : Fld} (hf : f.addr ∉ l) :
    t.on f = s.on f := by rw [State.on, State.on, h.get_eq hf]

/-- The registers that a channel's state shows in. -/
abbrev vstRegs (v : Nat) : List Nat := [VALVE_STATUS v, VALVE_BANK_STATUS (v / 8), VALVE_BANK_FAULT (v / 8)]

namespace State

section Records
variable (s : State)

/-! ### The records of channels and banks -/

@[simp] theorem setChan_regs (v : Nat) (c : Channel) : (s.setChan v c).regs = s.regs := rfl
@[simp] theorem setChan_log (v : Nat) (c : Channel) : (s.setChan v c).log = s.log := rfl
@[simp] theorem setChan_pwr (v : Nat) (c : Channel) : (s.setChan v c).pwr = s.pwr := rfl
@[simp] theorem get_setChan (v : Nat) (c : Channel) (f : Fld) : (s.setChan v c).get f = s.get f := get_congr rfl f
@[simp] theorem on_setChan (v : Nat) (c : Channel) (f : Fld) : (s.setChan v c).on f = s.on f := on_congr rfl f
@[simp] theorem reg_setChan (v : Nat) (c : Channel) (a : Nat) : (s.setChan v c).reg a = s.reg a := reg_congr rfl a
@[simp] theorem vst_setChan (v : Nat) (c : Channel) (u : Nat) : (s.setChan v c).vst u = s.vst u := get_congr rfl _
@[simp] theorem bank_setChan (v : Nat) (c : Channel) (b : Nat) : (s.setChan v c).bank b = s.bank b := rfl

@[simp] theorem chan_setChan_same (v : Nat) (c : Channel) : (s.setChan v c).chan v = c :=
  tget_tset_same (fun _ => ({} : Channel)) s.valve.chans v c

theorem chan_setChan_ne {v u : Nat} (h : u ≠ v) (c : Channel) : (s.setChan v c).chan u = s.chan u :=
  tget_tset_ne (fun _ => ({} : Channel)) s.valve.chans c h

@[simp] theorem setBank_regs (b : Nat) (k : Bank) : (s.setBank b k).regs = s.regs := rfl
@[simp] theorem setBank_log (b : Nat) (k : Bank) : (s.setBank b k).log = s.log := rfl
@[simp] theorem get_setBank (b : Nat) (k : Bank) (f : Fld) : (s.setBank b k).get f = s.get f := get_congr rfl f
@[simp] theorem vst_setBank (b : Nat) (k : Bank) (u : Nat) : (s.setBank b k).vst u = s.vst u := get_congr rfl _
@[simp] theorem chan_setBank (b : Nat) (k : Bank) (v : Nat) : (s.setBank b k).chan v = s.chan v := rfl

@[simp] theorem bank_setBank_same (b : Nat) (k : Bank) : (s.setBank b k).bank b = k :=
  tget_tset_same (fun _ => ({} : Bank)) s.valve.banks b k

@[simp] theorem chan_wrote (p : Nat) (e : Submit) (v : Nat) : (s.wrote p e).chan v = s.chan v := rfl
@[simp] theorem bank_wrote (p : Nat) (e : Submit) (b : Nat) : (s.wrote p e).bank b = s.bank b := rfl

theorem bank_congr {s t : State} (h : t.valve = s.valve) : t.bank = s.bank := by
  funext b
  rw [bank, h, bank]

theorem chan_congr {s t : State} (h : t.valve = s.valve) (v : Nat) : t.chan v = s.chan v := by rw [chan, h, chan]

@[simp] theorem sameRegs_setChan {l : List Nat} {s t : State} {v : Nat} {c : Channel} :
    SameRegs l s (t.setChan v c) ↔ SameRegs l s t := sameRegs_congr rfl

@[simp] theorem sameRegs_setBank {l : List Nat} {s t : State} {b : Nat} {k : Bank} :
    SameRegs l s (t.setBank b k) ↔ SameRegs l s t := sameRegs_congr rfl

theorem on_putB_ne (f g : Fld) (b : Bool) (hf : f.lo ≤ f.hi ∧ f.hi < 32)
    (h : g.addr ≠ f.addr ∨ g.hi < f.lo ∨ f.hi < g.lo) : (s.putB f b).on g = s.on g := s.on_put_ne f g _ hf h

/-- The registers of a bank are none of a channel's. -/
theorem statusApart {v b : Nat} : VALVE_BANK_STATUS b ≠ VALVE_STATUS v ∧ VALVE_BANK_FAULT b ≠ VALVE_STATUS v := by
  rw [VALVE_STATUS, VALVE_BANK_STATUS, VALVE_BANK_FAULT]
  omega

/-! ### What a bank shows (R350) -/

@[simp] theorem bankShow_valve (b : Nat) : (s.bankShow b).valve = s.valve := rfl
@[simp] theorem bankShow_log (b : Nat) : (s.bankShow b).log = s.log := rfl
@[simp] theorem bankShow_pwr (b : Nat) : (s.bankShow b).pwr = s.pwr := rfl
@[simp] theorem bankShow_rel (b : Nat) : (s.bankShow b).rel = s.rel := rfl
@[simp] theorem chan_bankShow (b v : Nat) : (s.bankShow b).chan v = s.chan v := chan_congr rfl v
@[simp] theorem bank_bankShow (b : Nat) : (s.bankShow b).bank = s.bank := bank_congr rfl

theorem sameRegs_bankShow {l : List Nat} {s t : State} {b : Nat} (hl : VALVE_BANK_STATUS b ∈ l ∧ VALVE_BANK_FAULT b ∈ l) :
    SameRegs l s (t.bankShow b) ↔ SameRegs l s t := by
  obtain ⟨hstatus, hfault⟩ := hl
  rw [bankShow, sameRegs_putB hfault, sameRegs_put hfault, sameRegs_put hfault, sameRegs_put hfault,
    sameRegs_put hstatus, sameRegs_put hstatus, sameRegs_put hstatus, sameRegs_putB hstatus, sameRegs_putB hstatus]

theorem get_bankShow {f : Fld} {b : Nat} (hf : f.addr ≠ VALVE_BANK_STATUS b ∧ f.addr ≠ VALVE_BANK_FAULT b) :
    (s.bankShow b).get f = s.get f := by
  have hsame : SameRegs [VALVE_BANK_STATUS b, VALVE_BANK_FAULT b] s (s.bankShow b) :=
    (sameRegs_bankShow (by simp)).mpr sameRegs_refl
  exact hsame.get_eq (by simp [hf])

/-- A field of a channel's status is not the bank's. -/
theorem get_status_bankShow {f : Fld} {v : Nat} (hf : f.addr = VALVE_STATUS v) (b : Nat) :
    (s.bankShow b).get f = s.get f := s.get_bankShow (by rw [hf, VALVE_STATUS, VALVE_BANK_STATUS, VALVE_BANK_FAULT]; omega)

@[simp] theorem vst_bankShow (b v : Nat) : (s.bankShow b).vst v = s.vst v := s.get_status_bankShow rfl b

@[simp] theorem hsOn_bankShow (b c : Nat) : (s.bankShow b).hsOn c = s.hsOn c := by
  rw [hsOn, hsOn, bankShow]
  rw [on_putB_ne, on_put_ne, on_put_ne, on_put_ne, on_put_ne, on_put_ne, on_put_ne, on_putB_ne, on_putB_ne]
  all_goals simp

theorem bankDisabled_bankShow (b c : Nat) :
    (s.bankShow b).on (VALVE_BANK_FAULT_BANK_DISABLED c) = s.on (VALVE_BANK_FAULT_BANK_DISABLED c) := by
  rw [bankShow]
  rw [on_putB_ne, on_put_ne, on_put_ne, on_put_ne, on_put_ne, on_put_ne, on_put_ne, on_putB_ne, on_putB_ne]
  all_goals simp

/-! ### The state of a channel (R350, R361) -/

/-- The channel's record once its state is set: an energised one counts in the duty interval (R361). -/
def touchedChan (s : State) (v st : Nat) : State := if isOn st then s.setChan v { s.chan v with touched := true } else s

theorem setVst_eq (v st : Nat) : s.setVst v st =
    ((((s.put (VALVE_STATUS_STATE v) st).touchedChan v st).putB (vsByBank v) (st = vDisabled &&
      ((s.put (VALVE_STATUS_STATE v) st).touchedChan v st).on (VALVE_BANK_FAULT_BANK_DISABLED (v / 8)))).bankShow (v / 8)) :=
  rfl

theorem touchedChan_regs (v st : Nat) : (s.touchedChan v st).regs = s.regs := by
  rw [touchedChan]
  split <;> rfl

@[simp] theorem setVst_log (v st : Nat) : (s.setVst v st).log = s.log := by
  rw [setVst_eq, bankShow_log, putB_log, touchedChan]
  split <;> rfl

@[simp] theorem setVst_pwr (v st : Nat) : (s.setVst v st).pwr = s.pwr := by
  rw [setVst_eq, bankShow_pwr, putB_pwr, touchedChan]
  split <;> rfl

@[simp] theorem setVst_rel (v st : Nat) : (s.setVst v st).rel = s.rel := by
  rw [setVst_eq, bankShow_rel, putB_rel, touchedChan]
  split <;> rfl

theorem touchedChan_off {st : Nat} (h : isOn st = false) (v : Nat) : s.touchedChan v st = s := by
  rw [touchedChan, h]
  rfl

theorem touchedChan_banks (v st : Nat) : (s.touchedChan v st).valve.banks = s.valve.banks := by
  rw [touchedChan]
  split <;> rfl

theorem setVst_valve_off {st : Nat} (h : isOn st = false) (v : Nat) : (s.setVst v st).valve = s.valve := by
  rw [setVst_eq, bankShow_valve, putB_valve, touchedChan_off _ h, put_valve]

@[simp] theorem bank_setVst (v st : Nat) : (s.setVst v st).bank = s.bank := by
  funext b
  rw [setVst_eq, bank_bankShow, bank, putB_valve, touchedChan_banks, put_valve, bank]

theorem chan_setVst_off {st : Nat} (h : isOn st = false) (v u : Nat) : (s.setVst v st).chan u = s.chan u :=
  chan_congr (s.setVst_valve_off h v) u

theorem chan_setVst_on {st : Nat} (h : isOn st = true) (v : Nat) :
    (s.setVst v st).chan v = { s.chan v with touched := true } := by
  rw [setVst_eq, touchedChan, if_pos h, chan_bankShow, chan_congr (putB_valve ..), chan_setChan_same,
    chan_congr (put_valve ..)]

theorem chan_setVst_ne {v u : Nat} (h : u ≠ v) (st : Nat) : (s.setVst v st).chan u = s.chan u := by
  rw [setVst_eq, touchedChan, chan_bankShow, chan_congr (putB_valve ..)]
  split
  · rw [chan_setChan_ne _ h, chan_congr (put_valve ..)]
  · rw [chan_congr (put_valve ..)]

theorem sameRegs_setVst {l : List Nat} {s t : State} {v st : Nat} (hl : ∀ a ∈ vstRegs v, a ∈ l) :
    SameRegs l s (t.setVst v st) ↔ SameRegs l s t := by
  rw [setVst_eq, sameRegs_bankShow ⟨hl _ (by simp), hl _ (by simp)⟩, sameRegs_putB (hl _ (by simp [vsByBank])),
    sameRegs_congr (touchedChan_regs ..), sameRegs_put (hl _ (by simp))]

theorem get_setVst {v st : Nat} {f : Fld} (hf : f.addr ∉ vstRegs v) : (s.setVst v st).get f = s.get f := by
  have hsame : SameRegs (vstRegs v) s (s.setVst v st) := (sameRegs_setVst (fun _ h => h)).mpr sameRegs_refl
  exact hsame.get_eq hf

theorem vst_setVst_same {st : Nat} (h : st < 16) (v : Nat) : (s.setVst v st).vst v = st := by
  rw [setVst_eq, vst_bankShow, vst, get_putB_ne _ _ _ _ (by simp [vsByBank]) (by simp [vsByBank]),
    get_congr (touchedChan_regs ..), get_put_same _ _ _ (by simp)]
  exact Nat.mod_eq_of_lt h

theorem vst_setVst_ne {v u : Nat} (h : u ≠ v) (st : Nat) : (s.setVst v st).vst u = s.vst u := by
  refine s.get_setVst ?_
  simp [VALVE_STATUS, VALVE_BANK_STATUS, VALVE_BANK_FAULT]
  omega

/-- The other fields of a channel's status. -/
theorem get_status_setVst {v st : Nat} {f : Fld} (hf : f.addr = VALVE_STATUS v) (hhi : 16 < f.lo ∨ f.hi < 16) (hlo : f.hi < 28) :
    (s.setVst v st).get f = s.get f := by
  rw [setVst_eq, get_status_bankShow _ hf, get_putB_ne _ _ _ _ (by simp [vsByBank]) (.inr (by simpa [vsByBank] using hhi.symm)),
    get_congr (touchedChan_regs ..), get_put_ne _ _ _ _ (by simp) (.inr (.inl (by simpa using hlo)))]

theorem byBank_setVst {v st : Nat} :
    (s.setVst v st).get (vsByBank v) = if st = vDisabled && s.on (VALVE_BANK_FAULT_BANK_DISABLED (v / 8)) then 1 else 0 := by
  have hbank : ((s.put (VALVE_STATUS_STATE v) st).touchedChan v st).on (VALVE_BANK_FAULT_BANK_DISABLED (v / 8)) =
      s.on (VALVE_BANK_FAULT_BANK_DISABLED (v / 8)) := by
    rw [on_congr (touchedChan_regs ..), on_put_ne _ _ _ _ (by simp) (.inl (statusApart.2))]
  rw [setVst_eq, get_status_bankShow _ rfl, get_putB_same _ _ _ (by simp [vsByBank]), hbank]

@[simp] theorem hsOn_setVst (v st b : Nat) : (s.setVst v st).hsOn b = s.hsOn b := by
  rw [setVst_eq, hsOn_bankShow, hsOn, on_putB_ne _ _ _ _ (by simp [vsByBank]) (.inl statusApart.1),
    on_congr (touchedChan_regs ..), on_put_ne _ _ _ _ (by simp) (.inl statusApart.1), hsOn]

theorem bankDisabled_setVst (v st b : Nat) :
    (s.setVst v st).on (VALVE_BANK_FAULT_BANK_DISABLED b) = s.on (VALVE_BANK_FAULT_BANK_DISABLED b) := by
  rw [setVst_eq, bankDisabled_bankShow, on_putB_ne _ _ _ _ (by simp [vsByBank]) (.inl statusApart.2),
    on_congr (touchedChan_regs ..), on_put_ne _ _ _ _ (by simp) (.inl statusApart.2)]

/-! ### The queue of deferred commands and the release (R344, R349, R353) -/

theorem serve_idle {s : State} {b : Nat} (h : (s.bank b).queue = []) : s.serve b = s.bankShow b := by
  rw [serve, serveN, h]

theorem stageStart_idle {s : State} (h : s.rel.tests = []) : s.stageStart = s := by
  rw [stageStart, h]
  rfl

theorem dropWindow_closed {s : State} {v : Nat} (h : (s.chan v).window = false) : s.dropWindow v = s := by
  rw [dropWindow, h]
  rfl

/-- The channel's record as it is released with its item's outcome (R349, R351). -/
def releasedChan (s : State) (v it : Nat) (o : Nat × Nat) : Channel := { s.chan v with
  item := none, probeDue := 0, decay := true, verdict := none, relItem := some (it, o.1, o.2) }

/-- The channel in RELEASE with its item's outcome, with nothing waiting in the bank. -/
def released (s : State) (v it : Nat) (o : Nat × Nat) : State :=
  ((((s.setChan v (s.releasedChan v it o)).putB (vsProbeBusy v) false).putB (VALVE_STATUS_CONT v) false).setVst v
    vRelease).bankShow (v / 8)

section Released
variable {s : State} {v it : Nat} (hwindow : (s.chan v).window = false) (hitem : (s.chan v).item = some it)
  (hqueue : (s.bank (v / 8)).queue = [])
include hwindow hitem hqueue

/-- A release with an outcome that is decided, and no verdict to wait for (R349, R351). -/
theorem release_forced {o : Nat × Nat} (hverdict : (s.chan v).probeDue ≠ 1 ∨ o = (1, 0x11) ∨ o = (1, 0x12)) :
    s.release v (some o) = s.released v it o := by
  have hnone : (decide ((s.chan v).probeDue = 1) && some o != some (1, 0x11) && some o != some (1, 0x12)) = false := by
    rcases hverdict with h | h | h <;> simp [h]
  rw [release, dropWindow_closed hwindow]
  simp only [hnone, Bool.false_eq_true, if_false, hitem, Option.map_some]
  rw [serve_idle (by rw [bank_setVst]; exact hqueue)]
  rfl

/-- A release of a profile that ends DONE (R351). -/
theorem release_done (hprobe : (s.chan v).probeDue = 0) (hverdict : (s.chan v).verdict = none) :
    s.release v none = s.released v it (0, 0) := by
  rw [release, dropWindow_closed hwindow]
  simp only [hprobe, hverdict, hitem, Option.map_some, show decide (0 = 1) = false from rfl, Bool.false_and,
    Bool.false_eq_true, if_false]
  rw [serve_idle (by rw [bank_setVst]; exact hqueue)]
  rfl

end Released

variable {s}

theorem released_vst {v it : Nat} {o : Nat × Nat} : (s.released v it o).vst v = 6 := by
  rw [released, vst_bankShow, vst_setVst_same _ (by decide)]
  rfl

theorem released_chan {v it : Nat} {o : Nat × Nat} : (s.released v it o).chan v = s.releasedChan v it o := by
  rw [released, chan_bankShow, chan_setVst_off _ (by decide)]
  exact chan_setChan_same ..

theorem released_chan_ne {v it u : Nat} {o : Nat × Nat} (h : u ≠ v) : (s.released v it o).chan u = s.chan u := by
  rw [released, chan_bankShow, chan_setVst_off _ (by decide)]
  exact chan_setChan_ne _ h _

theorem released_bank {v it : Nat} {o : Nat × Nat} : (s.released v it o).bank = s.bank := by
  rw [released, bank_bankShow, bank_setVst]
  rfl

theorem released_log {v it : Nat} {o : Nat × Nat} : (s.released v it o).log = s.log := by
  rw [released, bankShow_log, setVst_log]
  rfl

theorem released_pwr {v it : Nat} {o : Nat × Nat} : (s.released v it o).pwr = s.pwr := by
  rw [released, bankShow_pwr, setVst_pwr]
  rfl

theorem sameRegs_released {s t : State} {v it : Nat} {o : Nat × Nat} :
    SameRegs (vstRegs v) s (t.released v it o) ↔ SameRegs (vstRegs v) s t := by
  rw [released, sameRegs_bankShow (by simp), sameRegs_setVst (fun _ h => h), sameRegs_putB (by simp),
    sameRegs_putB (by simp [vsProbeBusy]), sameRegs_setChan]

/-- The fields of a status that a release leaves: those of faults and verdicts, and the current's (R349). -/
theorem get_released {v it : Nat} {o : Nat × Nat} {f : Fld} (hf : f.addr = VALVE_STATUS v)
    (hbits : (19 < f.lo ∧ f.hi < 28) ∨ (16 < f.lo ∧ f.hi < 19) ∨ (4 < f.lo ∧ f.hi < 16)) :
    (s.released v it o).get f = s.get f := by
  rw [released, get_status_bankShow _ hf, get_status_setVst _ hf (by omega) (by omega),
    get_putB_ne _ _ _ _ (by simp) (by simp; omega), get_putB_ne _ _ _ _ (by simp [vsProbeBusy]) (by simp [vsProbeBusy]; omega),
    get_setChan]

/-! ### The completion queue (R371) -/

/-- The queue with the entry of an item that ends, the newest. -/
def bankWith (k : Bank) (v id status reason : Nat) : Bank := { k with
  cq := k.cq.drop (if 32 ≤ k.cq.length then 1 else 0) ++
    [{ id := id % 256, ch := v % 8, status := status, reason := reason, seq := k.nextSeq }]
  nextSeq := (k.nextSeq + 1) % 256, lostMinute := k.lostMinute + (if 32 ≤ k.cq.length then 1 else 0) }

/-- The counts of an item that ends: an entry lost, and a deferral that fails (R371). -/
def cqCounted (s : State) (b : Nat) (full fails : Prop) [Decidable full] [Decidable fails] : State :=
  let u := if full then s.inc (VALVE_CQ_CTRL_LOST b) else s
  if fails then u.inc (VALVE_BANK_STATS_DEFER_FAILS b) else u

section Push
variable (s : State) (v id status reason : Nat)

theorem cqPush_eq : s.cqPush v id status reason =
    ((s.setBank (v / 8) (bankWith (s.bank (v / 8)) v id status reason)).cqCounted (v / 8)
      (32 ≤ (s.bank (v / 8)).cq.length) (status = 1 ∧ (reason = 1 ∨ reason = 2))).cqShow (v / 8) := by
  rw [cqPush, bankWith, cqCounted]
  by_cases hfull : 32 ≤ (s.bank (v / 8)).cq.length
  · simp only [hfull, decide_true, if_true]
  · simp only [hfull, decide_false, if_false, Bool.false_eq_true, List.drop_zero]

theorem cqCounted_kept (b : Nat) (full fails : Prop) [Decidable full] [Decidable fails] :
    (s.cqCounted b full fails).valve = s.valve ∧ (s.cqCounted b full fails).log = s.log ∧
      (s.cqCounted b full fails).pwr = s.pwr ∧ (s.cqCounted b full fails).rel = s.rel := by
  rw [cqCounted]
  split <;> split <;> exact ⟨rfl, rfl, rfl, rfl⟩

theorem cqShow_kept (b : Nat) :
    (s.cqShow b).valve = s.valve ∧ (s.cqShow b).log = s.log ∧ (s.cqShow b).pwr = s.pwr ∧ (s.cqShow b).rel = s.rel :=
  ⟨rfl, rfl, rfl, rfl⟩

theorem cqPush_valve : (s.cqPush v id status reason).valve =
    (s.setBank (v / 8) (bankWith (s.bank (v / 8)) v id status reason)).valve := by
  rw [cqPush_eq, (cqShow_kept _ _).1, (cqCounted_kept _ _ _ _).1]

@[simp] theorem cqPush_log : (s.cqPush v id status reason).log = s.log := by
  rw [cqPush_eq, (cqShow_kept _ _).2.1, (cqCounted_kept _ _ _ _).2.1, setBank_log]

@[simp] theorem cqPush_pwr : (s.cqPush v id status reason).pwr = s.pwr := by
  rw [cqPush_eq, (cqShow_kept _ _).2.2.1, (cqCounted_kept _ _ _ _).2.2.1]
  rfl

@[simp] theorem cqPush_rel : (s.cqPush v id status reason).rel = s.rel := by
  rw [cqPush_eq, (cqShow_kept _ _).2.2.2, (cqCounted_kept _ _ _ _).2.2.2]
  rfl

theorem cqPush_chans : (s.cqPush v id status reason).valve.chans = s.valve.chans := by
  rw [cqPush_valve]
  rfl

@[simp] theorem chan_cqPush (u : Nat) : (s.cqPush v id status reason).chan u = s.chan u := by
  rw [chan, cqPush_chans, chan]

theorem bank_cqPush : (s.cqPush v id status reason).bank (v / 8) = bankWith (s.bank (v / 8)) v id status reason := by
  rw [congrFun (bank_congr (s.cqPush_valve v id status reason)), bank_setBank_same]

theorem queue_cqPush : ((s.cqPush v id status reason).bank (v / 8)).queue = (s.bank (v / 8)).queue := by
  rw [bank_cqPush, bankWith]

/-- The entry of an item that ends is the newest (R371). -/
theorem itemEnds_cqPush : ItemEnds v id status reason s (s.cqPush v id status reason) := by
  rw [ItemEnds, bank_cqPush, bankWith]

/-- An item that ends shows in the queue's registers alone, but for a deferral that fails (R371). -/
theorem sameRegs_cqPush {l : List Nat} {s t : State} {v id status reason : Nat}
    (hl : VALVE_CQ (v / 8) ∈ l ∧ VALVE_CQ_CTRL (v / 8) ∈ l)
    (hstats : VALVE_BANK_STATS (v / 8) ∈ l ∨ ¬ (status = 1 ∧ (reason = 1 ∨ reason = 2))) :
    SameRegs l s (t.cqPush v id status reason) ↔ SameRegs l s t := by
  obtain ⟨hcq, hctrl⟩ := hl
  rw [cqPush_eq, cqShow, sameRegs_put hctrl, sameRegs_setReg hcq, cqCounted]
  rcases hstats with hstats | hnone
  · split <;> split <;> simp only [sameRegs_inc (f := VALVE_CQ_CTRL_LOST (v / 8)) hctrl,
      sameRegs_inc (f := VALVE_BANK_STATS_DEFER_FAILS (v / 8)) hstats, sameRegs_setBank]
  · rw [if_neg hnone]
    split <;> simp only [sameRegs_inc (f := VALVE_CQ_CTRL_LOST (v / 8)) hctrl, sameRegs_setBank]

theorem get_cqPush {f : Fld} (hf : f.addr ≠ VALVE_CQ (v / 8) ∧ f.addr ≠ VALVE_CQ_CTRL (v / 8) ∧
    f.addr ≠ VALVE_BANK_STATS (v / 8)) : (s.cqPush v id status reason).get f = s.get f := by
  have hsame : SameRegs [VALVE_CQ (v / 8), VALVE_CQ_CTRL (v / 8), VALVE_BANK_STATS (v / 8)] s
      (s.cqPush v id status reason) := (sameRegs_cqPush (by simp) (.inl (by simp))).mpr sameRegs_refl
  exact hsame.get_eq (by simp [hf])

/-- A field of a channel's status is not the queue's. -/
theorem get_status_cqPush {f : Fld} {u : Nat} (hf : f.addr = VALVE_STATUS u) :
    (s.cqPush v id status reason).get f = s.get f := by
  refine s.get_cqPush _ _ _ _ ?_
  rw [hf, VALVE_STATUS, VALVE_CQ, VALVE_CQ_CTRL, VALVE_BANK_STATS]
  omega

@[simp] theorem vst_cqPush (u : Nat) : (s.cqPush v id status reason).vst u = s.vst u := s.get_status_cqPush _ _ _ _ rfl

end Push

/-! ### Faults (R363, R365, R366) -/

section Faults
variable (s : State) (v kind : Nat)

/-- The channel's fault is shown, with its record (R366). -/
def faultNoted (s : State) (v kind id : Nat) : State :=
  (s.put (vsFault v) kind).wrote (portValve (v / 8)) (record 0x3007 v kind id false)

theorem vst_faultNoted (id u : Nat) : (s.faultNoted v kind id).vst u = s.vst u := by
  rw [faultNoted, vst, get_wrote, get_put_ne _ _ _ _ (by simp [vsFault]) (by simp [vsFault]), vst]

/-- A channel that is not DISABLED becomes FAULTED (R366). -/
theorem vfault_eq {s : State} {v : Nat} (hroom : Room s (portValve (v / 8))) (hst : s.vst v ≠ vDisabled) (kind id : Nat) :
    s.vfault v kind id = (s.faultNoted v kind id).setVst v vFaulted := by
  have hstays := s.vst_faultNoted v kind id v
  rw [faultNoted] at hstays
  rw [vfault, vev, ev_of_room (hroom.put (vsFault v) kind), faultNoted]
  exact if_neg (by rw [hstays]; exact hst)

/-- A verdict that ends the profile and faults the channel, with its two records (R363, R365). -/
def verdictFaulted (s : State) (v it kind reason rm : Nat) : State :=
  (((s.wrote (portValve (v / 8)) (record 0x3006 v kind rm false)).released v it (1, reason)).faultNoted v kind it).setVst v
    vFaulted

theorem faultVerdict_eq {s : State} {v it reason : Nat} (hwindow : (s.chan v).window = false)
    (hitem : (s.chan v).item = some it) (hqueue : (s.bank (v / 8)).queue = []) (hup : s.mpUp = true)
    (hfree : (s.log.fifo (portValve (v / 8))).length + 2 ≤ 16) (hreason : reason = 0x11 ∨ reason = 0x12) (kind rm : Nat) :
    s.faultVerdict v kind reason rm = s.verdictFaulted v it kind reason rm := by
  have hroom : Room s (portValve (v / 8)) := ⟨.inr hup, by omega⟩
  have hid : s.itemId v = it := by simp [itemId, hitem]
  rw [faultVerdict, verdictRecord, vev, ev_of_room hroom, hid, verdictFaulted]
  have hroom' := Room.wrote (.inr hup) hfree (record 0x3006 v kind rm false)
  have hwchan := s.chan_wrote (portValve (v / 8)) (record 0x3006 v kind rm false) v
  have hwbank := s.bank_wrote (portValve (v / 8)) (record 0x3006 v kind rm false) (v / 8)
  generalize s.wrote (portValve (v / 8)) (record 0x3006 v kind rm false) = w at *
  rw [release_forced (by rw [hwchan, hwindow]) (by rw [hwchan, hitem]) (by rw [hwbank, hqueue]) (.inr (by simpa using hreason)),
    vfault_eq (hroom'.of_log released_log released_pwr) (by rw [released_vst]; decide)]

section Shown
variable {s : State} {v it kind reason rm : Nat}

theorem verdictFaulted_vst : (s.verdictFaulted v it kind reason rm).vst v = 7 := vst_setVst_same _ (by decide) _

theorem verdictFaulted_chan : (s.verdictFaulted v it kind reason rm).chan v = s.releasedChan v it (1, reason) := by
  rw [verdictFaulted, chan_setVst_off _ (by decide), faultNoted, chan_wrote, chan_congr (put_valve ..), released_chan,
    releasedChan, chan_wrote, releasedChan]

theorem verdictFaulted_fault (hk : kind < 8) : (s.verdictFaulted v it kind reason rm).get (vsFault v) = kind := by
  rw [verdictFaulted, get_status_setVst _ rfl (by simp [vsFault]) (by simp [vsFault]), faultNoted, get_wrote,
    get_put_same _ _ _ (by simp [vsFault])]
  exact Nat.mod_eq_of_lt hk

theorem sameRegs_verdictFaulted : SameRegs (vstRegs v) s (s.verdictFaulted v it kind reason rm) := by
  have hw : SameRegs (vstRegs v) s (s.wrote (portValve (v / 8)) (record 0x3006 v kind rm false)) :=
    sameRegs_wrote.mpr sameRegs_refl
  rw [verdictFaulted]
  generalize s.wrote (portValve (v / 8)) (record 0x3006 v kind rm false) = w at *
  have hmem : (vsFault v).addr ∈ vstRegs v := by simp [vsFault]
  refine (sameRegs_setVst (fun _ h => h)).mpr ?_
  rw [faultNoted]
  refine sameRegs_wrote.mpr ?_
  refine (sameRegs_put (f := vsFault v) hmem).mpr ?_
  exact sameRegs_released.mpr hw

theorem newest_verdictFaulted : Newest (portValve (v / 8)) 0x3007 v kind it (s.verdictFaulted v it kind reason rm) := by
  rw [verdictFaulted, Newest, setVst_log, faultNoted]
  exact newest_wrote ..

/-- The fields of a status that no verdict changes. -/
theorem get_verdictFaulted {f : Fld} (hf : f.addr = VALVE_STATUS v) (hbits : 4 < f.lo ∧ f.hi < 16) :
    (s.verdictFaulted v it kind reason rm).get f = s.get f := by
  rw [verdictFaulted, get_status_setVst _ hf (by omega) (by omega), faultNoted, get_wrote,
    get_put_ne _ _ _ _ (by simp [vsFault]) (by simp [vsFault]; omega), get_released hf (by omega), get_wrote]

end Shown

end Faults

end Records

end State

/-- An item ends as it does from a state with the same queue. -/
theorem ItemEnds.of_bank {v id status reason : Nat} {s t u : State} (h : ItemEnds v id status reason u t)
    (hbank : u.bank = s.bank) : ItemEnds v id status reason s t := by
  rw [ItemEnds] at *
  rw [h, hbank]

theorem ItemEnds.to_bank {v id status reason : Nat} {s t u : State} (h : ItemEnds v id status reason s t)
    (hbank : u.bank = t.bank) : ItemEnds v id status reason s u := by
  rw [ItemEnds] at *
  rw [hbank, h]

end Sys2Proof.Machine
end

section
/-! PROOFS. The commands of the valve banks (R351, R366, R368, R371), and the verdicts on a channel (R361 to R366). -/

namespace Sys2Proof.Machine

open Reg State

-- The facts about rows below are evaluated one at a time, in their order: side by side they need too much memory.
set_option Elab.async false

/-! ### Commands of channels and banks -/

/-- The row of VALVE_BANK_CTRL. -/
def bankCtrlRow : RegRow where
  base := 0x20020c
  n1 := 12
  s1 := 0x400
  wo := 0xffff007f
  rsv := 0x0000ff80
  ranges := [(31, 16, 31262, 31262), (3, 0, 1, 5)]

/-- The row of VALVE_CMD. -/
def valveCmdRow : RegRow where
  base := 0x200008
  n1 := 12
  s1 := 0x400
  n2 := 8
  s2 := 0x40
  wo := 0xffc0ffff
  rsv := 0x003f0000
  ranges := [(23, 22, 1, 3)]

/-- The row of VALVE_CQ_CTRL. -/
def cqCtrlRow : RegRow where
  base := 0x200218
  n1 := 12
  s1 := 0x400
  wo := 0x80ff0000
  rsv := 0x7f0000c0

/-- The registers of a bank's commands, as the fabric sees them. -/
theorem bankCommands : ∀ b : Fin 12,
    (rowOf (VALVE_BANK_CTRL b) = some bankCtrlRow ∧ rowOf (VALVE_CQ_CTRL b) = some cqCtrlRow) ∧
    (planeOf (VALVE_BANK_CTRL b) = .ctl ∧ planeOf (VALVE_CQ_CTRL b) = .ctl) ∧
    (instOf 0x100000 0x1000 16 (VALVE_BANK_CTRL b) = none ∧ instOf 0x100000 0x1000 16 (VALVE_CQ_CTRL b) = none) ∧
    (instOf 0x200000 0x400 12 (VALVE_BANK_CTRL b) = some (b.val, 0x20C) ∧
      instOf 0x200000 0x400 12 (VALVE_CQ_CTRL b) = some (b.val, 0x218)) ∧
    (VALVE_BANK_CTRL b ∉ tableRegs ∧ VALVE_CQ_CTRL b ∉ tableRegs) ∧
    VALVE_BANK_CTRL b ≠ CADDY_SWAP_CMD ∧ VALVE_CQ_CTRL b ≠ CADDY_SWAP_CMD := by
  decide +kernel

/-- The register of a channel's commands, as the fabric sees it. -/
theorem valveCommands_row : ∀ v : Fin 96, rowOf (VALVE_CMD v) = some valveCmdRow ∧ planeOf (VALVE_CMD v) = .ctl ∧
    instOf 0x100000 0x1000 16 (VALVE_CMD v) = none ∧
    instOf 0x200000 0x400 12 (VALVE_CMD v) = some (v.val / 8, 0x40 * (v.val % 8) + 8) ∧ VALVE_CMD v ∉ tableRegs ∧
    VALVE_CMD v ≠ CADDY_SWAP_CMD := by
  decide +kernel

/-- The bank of a channel. -/
def bankOf (v : Fin 96) : Fin 12 := ⟨v.val / 8, by omega⟩

namespace State

section Commands
variable {s : State} {req : Nat} {w : Word}

theorem writeAt_bankCtrl {b : Fin 12} (h : Writes s req (VALVE_BANK_CTRL b) w) :
    s.writeAt req (VALVE_BANK_CTRL b) w = (s.touched (VALVE_BANK_CTRL b)).bankEffect b 0x20C w := by
  obtain ⟨⟨hrow, -⟩, ⟨hplane, -⟩, ⟨hgov, -⟩, ⟨hinst, -⟩, ⟨htable, -⟩, hswap, -⟩ := bankCommands b
  rw [writeAt_command h hrow rfl rfl htable hswap, effect, hplane]
  simp only [ctlEffect, hgov, hinst]
  rfl

theorem writeAt_cqCtrl {b : Fin 12} (h : Writes s req (VALVE_CQ_CTRL b) w) :
    s.writeAt req (VALVE_CQ_CTRL b) w = (s.touched (VALVE_CQ_CTRL b)).bankEffect b 0x218 w := by
  obtain ⟨⟨-, hrow⟩, ⟨-, hplane⟩, ⟨-, hgov⟩, ⟨-, hinst⟩, ⟨-, htable⟩, -, hswap⟩ := bankCommands b
  rw [writeAt_command h hrow rfl rfl htable hswap, effect, hplane]
  simp only [ctlEffect, hgov, hinst]
  rfl

theorem writeAt_valveCmd {v : Fin 96} (h : Writes s req (VALVE_CMD v) w) :
    s.writeAt req (VALVE_CMD v) w =
      (s.touched (VALVE_CMD v)).valveEffect req v 8 (s.reg (VALVE_CMD v)) w := by
  obtain ⟨hrow, hplane, hgov, hinst, htable, hswap⟩ := valveCommands_row v
  have hchan : 8 * (v.val / 8) + (0x40 * (v.val % 8) + 8) / 0x40 = v.val := by omega
  have hoff : (0x40 * (v.val % 8) + 8) % 0x40 = 8 := by omega
  rw [writeAt_command h hrow rfl rfl htable hswap, effect, hplane]
  simp only [ctlEffect, hgov, hinst]
  rw [if_pos (by omega), hchan, hoff]

/-- A clear that is no violation finds a fault that it may clear (R366). -/
theorem clearOk_of_writes {b : Fin 12} (h : Writes s req (VALVE_BANK_CTRL b) w) (hclear : bits w 3 0 = 5) :
    s.clearOk (8 * b.val + bits w 6 4) = true := by
  obtain ⟨⟨hrow, -⟩, ⟨hplane, -⟩, ⟨hgov, -⟩, ⟨hinst, -⟩, -⟩ := bankCommands b
  obtain ⟨-, -, -, hok⟩ := h
  simp only [writeOk, hrow, Bool.and_eq_true, wordOk, hplane, ctlOk, hgov, hinst] at hok
  obtain ⟨-, -, hword⟩ := hok
  simpa [bankOk, hclear] using hword

/-- A pop that is no violation finds the entry it names (R371). -/
theorem cqPopOk_of_writeOk {b : Fin 12} (hw : w.getLsbD 31 = true) (hok : s.writeOk req (VALVE_CQ_CTRL b) w = true) :
    s.cqPopOk b (bits w 23 16) = true := by
  obtain ⟨⟨-, hrow⟩, ⟨-, hplane⟩, ⟨-, hgov⟩, ⟨-, hinst⟩, -⟩ := bankCommands b
  simp only [writeOk, hrow, Bool.and_eq_true, wordOk, hplane, ctlOk, hgov, hinst] at hok
  obtain ⟨-, -, hword⟩ := hok
  rw [bankOk, if_neg (by decide), if_pos rfl, hw] at hword
  exact hword

end Commands

/-- A command word of a bank's channel. -/
theorem bankWord_fields : ∀ c : Fin 8,
    (bits (0x7A1E0003 + BitVec.ofNat 32 (16 * c.val)) 3 0 = 3 ∧ bits (0x7A1E0003 + BitVec.ofNat 32 (16 * c.val)) 6 4 = c.val) ∧
    (bits (0x7A1E0004 + BitVec.ofNat 32 (16 * c.val)) 3 0 = 4 ∧ bits (0x7A1E0004 + BitVec.ofNat 32 (16 * c.val)) 6 4 = c.val) ∧
    (bits (0x7A1E0005 + BitVec.ofNat 32 (16 * c.val)) 3 0 = 5 ∧ bits (0x7A1E0005 + BitVec.ofNat 32 (16 * c.val)) 6 4 = c.val) := by
  decide

end State

theorem exec_valveShortTrip_short (v : Fin 96) (it : Nat) (s : State) :
    (s.vst v = 3 ∨ s.vst v = 4 ∨ s.vst v = 5) → (s.chan v).fromIdle = true →
    (s.chan v).window = false → (s.chan v).item = some it → (s.bank (v.val / 8)).queue = [] →
    s.mpUp = true →
    (s.log.fifo (portValve (v.val / 8))).length + 2 ≤ 16 →
    ∃ t, exec (.valveShortTrip v) s = .next t ∧ t.vst v = 7 ∧ t.get (vsFault v) = 2 ∧
      (t.chan v).relItem = some (it, 1, 0x12) ∧ (t.chan v).decay = true ∧
      SameRegs [VALVE_STATUS v, VALVE_BANK_STATUS (v.val / 8), VALVE_BANK_FAULT (v.val / 8)] s t ∧
      Newest (portValve (v.val / 8)) 0x3007 v 2 it t := by
  intro hst hidle hwindow hitem hqueue hup hfree
  have hon : isOn (s.vst v) = true := by rcases hst with h | h | h <;> rw [h] <;> rfl
  rw [show exec (.valveShortTrip v) s = .next (s.shortTrip v) from rfl, State.shortTrip, if_pos (by simp [hon, hidle]),
    faultVerdict_eq hwindow hitem hqueue hup hfree (.inr rfl)]
  refine ⟨_, rfl, verdictFaulted_vst, verdictFaulted_fault (by decide), ?_, ?_, sameRegs_verdictFaulted,
    newest_verdictFaulted⟩
  · rw [verdictFaulted_chan, releasedChan]
  · rw [verdictFaulted_chan, releasedChan]

theorem exec_valveShortTrip_none (v : Fin 96) (s : State) :
    ((s.vst v ≠ 3 ∧ s.vst v ≠ 4 ∧ s.vst v ≠ 5) ∨ (s.chan v).fromIdle = false) →
    exec (.valveShortTrip v) s = .next s := by
  intro h
  refine congrArg Host.Outcome.next (if_neg ?_)
  rcases h with ⟨h3, h4, h5⟩ | h
  · simp [isOn, vRise, vPeak, vHold, h3, h4, h5]
  · simp [h]

theorem exec_peakTimeEnd_open (v : Fin 96) (l : List Nat) (it : Nat) (s : State) :
    s.vst v = 3 → (s.chan v).fromIdle = true →
    (s.chan v).window = false → (s.chan v).reached = false → (∀ x ∈ l, x < 50) → (s.chan v).item = some it →
    (s.bank (v.val / 8)).queue = [] → s.mpUp = true →
    (s.log.fifo (portValve (v.val / 8))).length + 3 ≤ 16 →
    ∃ t, exec (.peakTimeEnd v l) s = .next t ∧ t.vst v = 7 ∧ t.get (vsFault v) = 1 ∧
      t.get (VALVE_STATUS_PEAK_LOW v) = 1 ∧ (t.chan v).relItem = some (it, 1, 0x11) ∧
      SameRegs [VALVE_STATUS v, VALVE_BANK_STATUS (v.val / 8), VALVE_BANK_FAULT (v.val / 8)] s t ∧
      Newest (portValve (v.val / 8)) 0x3007 v 1 it t := by
  intro hst hidle hwindow hreached hlow hitem hqueue hup hfree
  have hhi : l.foldl max 0 < 50 := by
    have hall (l : List Nat) (a : Nat) (ha : a < 50) (h : ∀ x ∈ l, x < 50) : l.foldl max a < 50 := by
      induction l generalizing a with
      | nil => exact ha
      | cons x q ih => exact ih (max a x) (by have := h x (by simp); omega) (fun y hy => h y (by simp [hy]))
    exact hall l 0 (by decide) hlow
  have hroom : Room s (portValve (v.val / 8)) := ⟨.inr hup, by omega⟩
  have hlowed : (s.closeWindow v l).peakLow v (l.foldl max 0) = (s.putB (VALVE_STATUS_PEAK_LOW v) true).wrote
      (portValve (v.val / 8)) (record 0x3003 v (s.itemId v) (l.foldl max 0) false) := by
    rw [State.closeWindow, hwindow, State.peakLow]
    exact (if_neg (by simp [hreached])).trans (ev_of_room (hroom.putB _ _) ..)
  have hw := (s.putB (VALVE_STATUS_PEAK_LOW v) true).wrote_fifo (portValve (v.val / 8))
    (record 0x3003 v (s.itemId v) (l.foldl max 0) false) (portValve (v.val / 8))
  rw [if_pos rfl] at hw
  have hlen := congrArg List.length hw
  rw [show exec (.peakTimeEnd v l) s = .next (s.peakTimeEnd v l) from rfl, State.peakTimeEnd, if_pos (.inl hst)]
  simp only [hlowed]
  have hchan : ((s.putB (VALVE_STATUS_PEAK_LOW v) true).wrote (portValve (v.val / 8))
      (record 0x3003 v (s.itemId v) (l.foldl max 0) false)).chan v = s.chan v := rfl
  have hbank : ((s.putB (VALVE_STATUS_PEAK_LOW v) true).wrote (portValve (v.val / 8))
      (record 0x3003 v (s.itemId v) (l.foldl max 0) false)).bank (v.val / 8) = s.bank (v.val / 8) := rfl
  have hsame : SameRegs (vstRegs v) s ((s.putB (VALVE_STATUS_PEAK_LOW v) true).wrote (portValve (v.val / 8))
      (record 0x3003 v (s.itemId v) (l.foldl max 0) false)) := by simp
  have hpeak : ((s.putB (VALVE_STATUS_PEAK_LOW v) true).wrote (portValve (v.val / 8))
      (record 0x3003 v (s.itemId v) (l.foldl max 0) false)).get (VALVE_STATUS_PEAK_LOW v) = 1 := by
    rw [get_wrote]
    exact get_putB_same _ _ true (by simp)
  have hmp : ((s.putB (VALVE_STATUS_PEAK_LOW v) true).wrote (portValve (v.val / 8))
      (record 0x3003 v (s.itemId v) (l.foldl max 0) false)).mpUp = true := hup
  generalize (s.putB (VALVE_STATUS_PEAK_LOW v) true).wrote _ _ = w at *
  rw [if_pos (by simp [hchan, hidle, hhi]), faultVerdict_eq (by rw [hchan, hwindow]) (by rw [hchan, hitem])
    (by rw [hbank, hqueue]) hmp (by simp at hlen; omega) (.inl rfl)]
  refine ⟨_, rfl, verdictFaulted_vst, verdictFaulted_fault (by decide), ?_, ?_, hsame.next sameRegs_verdictFaulted,
    newest_verdictFaulted⟩
  · rw [get_verdictFaulted rfl (by simp), hpeak]
  · rw [verdictFaulted_chan, releasedChan]

theorem exec_valveProbeStart_starts (v : Fin 96) (s : State) :
    s.vst v = 5 → (s.chan v).probeDue ≠ 0 → s.get (VALVE_PROT_R_NOM v) ≠ 0 →
    ∃ t, exec (.valveProbeStart v) s = .next t ∧ t.get (vsProbeBusy v) = 1 ∧ OnlyRegs [VALVE_STATUS v] s t := by
  intro hst hdue hnom
  have hstart : exec (.valveProbeStart v) s = .next _ :=
    congrArg Host.Outcome.next (if_pos (by simp [hst, vHold, hdue, hnom]))
  rw [hstart]
  exact ⟨_, rfl, get_putB_same _ _ true (by simp [vsProbeBusy]), by simp [vsProbeBusy], rfl⟩

theorem exec_valveProbeStart_none (v : Fin 96) (s : State) :
    (s.vst v ≠ 5 ∨ (s.chan v).probeDue = 0) → exec (.valveProbeStart v) s = .next s := by
  intro h
  refine congrArg Host.Outcome.next (if_neg ?_)
  rcases h with h | h <;> simp [h, vHold]

namespace State

section Probe
variable {s : State} {v : Nat}

/-- The probe's 64 periods have ended: it is no more due (R364). -/
def probeEnded (s : State) (v : Nat) : State := (s.putB (vsProbeBusy v) false).setChan v { s.chan v with probeDue := 0 }

/-- The probe's end with a current (R364, R365). -/
theorem probeDone_eq (hbusy : s.on (vsProbeBusy v) = true) {ma : Nat} (hma : ma ≠ 0) {p : ProbeMean} (hstop : p.stop = none)
    {dMin mv kind : Nat}
    (hkind : (s.probeEnded v).probeVerdict v dMin (rMeasNum p.d ma mv) (rMeasDen ma) = kind) :
    s.probeDone v dMin p ma mv =
      if kind = 3 then (s.probeEnded v).stuckVerdict v (par (rMeasNum p.d ma mv / rMeasDen ma))
      else (s.probeEnded v).faultVerdict v kind (if kind = 1 then 0x11 else 0x12) (par (rMeasNum p.d ma mv / rMeasDen ma)) := by
  rw [probeEnded] at *
  rw [probeDone, if_neg (by simp [hbusy])]
  simp only [hma, if_false, hstop, hkind]

end Probe

end State

namespace State

section ProbeEnded
variable (s : State) (v : Nat)

@[simp] theorem probeEnded_log : (s.probeEnded v).log = s.log := rfl
@[simp] theorem probeEnded_mpUp : (s.probeEnded v).mpUp = s.mpUp := rfl
@[simp] theorem bank_probeEnded (b : Nat) : (s.probeEnded v).bank b = s.bank b := rfl

theorem chan_probeEnded : (s.probeEnded v).chan v = { s.chan v with probeDue := 0 } := chan_setChan_same ..

theorem get_probeEnded {f : Fld} (hf : f.addr ≠ VALVE_STATUS v ∨ f.hi < 19 ∨ 19 < f.lo) :
    (s.probeEnded v).get f = s.get f := by
  rw [probeEnded, get_setChan, get_putB_ne _ _ _ _ (by simp [vsProbeBusy]) hf]

theorem sameRegs_probeEnded : SameRegs [VALVE_STATUS v] s (s.probeEnded v) := by simp [probeEnded, vsProbeBusy]

/-- The probe's verdict rests on R_NOM alone (R365). -/
theorem probeVerdict_probeEnded (dMin : Nat) (n : Int) (q : Nat) :
    (s.probeEnded v).probeVerdict v dMin n q = s.probeVerdict v dMin n q := by
  rw [probeVerdict, probeVerdict, s.get_probeEnded v (.inl (by simp [VALVE_PROT, VALVE_STATUS]))]

end ProbeEnded

end State

theorem exec_probeDone_stuck (v : Fin 96) (dMin ma mv : Nat) (p : ProbeMean) (s : State) :
    s.on (vsProbeBusy v) = true → ma ≠ 0 → p.stop = none → dMin < 64226 →
    (70 * (500 * s.get (VALVE_PROT_R_NOM v)) * rMeasDen ma : Nat) ≤ 100 * rMeasNum p.d ma mv →
    100 * rMeasNum p.d ma mv ≤ (130 * (500 * s.get (VALVE_PROT_R_NOM v)) * rMeasDen ma : Nat) →
    Room s (portValve (v.val / 8)) →
    ∃ t, exec (.probeDone v dMin p ma mv) s = .next t ∧ t.vst v = s.vst v ∧ t.get (vsProbeBusy v) = 0 ∧
      t.chan v = { s.chan v with probeDue := 0, verdict := some 0x13, stuck := decide (2 ≤ s.get (vsStuckRun v)) } ∧
      t.get (vsStuckRun v) = min 3 (s.get (vsStuckRun v) + 1) ∧ SameRegs [VALVE_STATUS v] s t ∧
      Logged (portValve (v.val / 8)) 0x3006 v 3 (par (rMeasNum p.d ma mv / rMeasDen ma)) s t := by
  intro hbusy hma hstop hmin hlo hhi hroom
  have hkind : (s.probeEnded v).probeVerdict v dMin (rMeasNum p.d ma mv) (rMeasDen ma) = 3 := by
    rw [State.probeVerdict_probeEnded, State.probeVerdict, if_neg, if_neg]
    · exact not_lt.mpr hlo
    · simp only [Bool.or_eq_true, decide_eq_true_eq, not_or, not_lt, not_le]
      exact ⟨by omega, hhi⟩
  have hroom' : Room (s.probeEnded v) (portValve (v.val / 8)) := hroom.of_log rfl rfl
  have hrun : (s.probeEnded v).get (vsStuckRun v) = s.get (vsStuckRun v) := s.get_probeEnded v (by simp [vsStuckRun])
  have hsame := s.sameRegs_probeEnded v
  have hchan := s.chan_probeEnded v
  have hlog := s.probeEnded_log v
  have hst : (s.probeEnded v).vst v = s.vst v := s.get_probeEnded v (by simp)
  have hover : (s.probeEnded v).get (vsProbeBusy v) = 0 := get_putB_same _ (vsProbeBusy v) false (by simp [vsProbeBusy])
  rw [show exec (.probeDone v dMin p ma mv) s = .next (s.probeDone v dMin p ma mv) from rfl,
    State.probeDone_eq hbusy hma hstop hkind, if_pos rfl, State.stuckVerdict, State.verdictRecord, State.vev]
  generalize s.probeEnded v = e at *
  rw [ev_of_room hroom']
  refine ⟨_, rfl, ?_, ?_, ?_, ?_, ?_, ?_⟩
  · rw [State.vst, get_put_ne _ _ _ _ (by simp [vsStuckRun]) (by simp [vsStuckRun]), get_setChan, get_wrote]
    exact hst
  · rw [get_put_ne _ _ _ _ (by simp [vsStuckRun]) (by simp [vsStuckRun, vsProbeBusy]), get_setChan, get_wrote, hover]
  · rw [chan_congr (put_valve ..), chan_setChan_same, hchan, hrun]
    have hthird : decide (min 3 (s.get (vsStuckRun v) + 1) = 3) = decide (2 ≤ s.get (vsStuckRun v)) :=
      decide_eq_decide.mpr (by omega)
    rw [hthird]
  · rw [get_put_same _ _ _ (by simp [vsStuckRun]), hrun]
    exact Nat.mod_eq_of_lt (by simp [vsStuckRun])
  · rw [sameRegs_put (by simp [vsStuckRun]), sameRegs_setChan, sameRegs_wrote]
    exact hsame
  · have hwrote := logged_wrote e (portValve (v.val / 8)) 0x3006 v 3 (par (rMeasNum p.d ma mv / rMeasDen ma))
    rw [Logged] at hwrote ⊢
    rw [put_log, setChan_log, ← hlog, hwrote]
namespace State

section Verdict
variable {s : State} {v : Fin 96} {it kind reason rm : Nat}

/-- A verdict of the probe that ends the profile (R365). -/
theorem probe_faults (hwindow : (s.chan v).window = false) (hitem : (s.chan v).item = some it)
    (hqueue : (s.bank (v.val / 8)).queue = []) (hup : s.mpUp = true)
    (hfree : (s.log.fifo (portValve (v.val / 8))).length + 2 ≤ 16) (hreason : reason = 0x11 ∨ reason = 0x12)
    (hk : kind < 8) : ∃ t, (s.probeEnded v).faultVerdict v kind reason rm = t ∧ t.vst v = 7 ∧
      t.get (vsFault v) = kind ∧ (t.chan v).relItem = some (it, 1, reason) ∧
      Newest (portValve (v.val / 8)) 0x3007 v kind it t := by
  have hchan := s.chan_probeEnded v
  have hlog := s.probeEnded_log v
  have hbank := s.bank_probeEnded v (v.val / 8)
  have hmp : (s.probeEnded v).mpUp = true := hup
  generalize s.probeEnded v = e at *
  rw [faultVerdict_eq (by rw [hchan, hwindow]) (by rw [hchan, hitem]) (by rw [hbank, hqueue]) hmp
    (by rw [hlog]; exact hfree) hreason]
  refine ⟨_, rfl, verdictFaulted_vst, verdictFaulted_fault hk, ?_, newest_verdictFaulted⟩
  rw [verdictFaulted_chan, releasedChan]

end Verdict

end State

theorem exec_probeDone_open (v : Fin 96) (dMin ma mv it : Nat) (p : ProbeMean) (s : State) :
    s.on (vsProbeBusy v) = true → ma ≠ 0 → p.stop = none → 64226 ≤ dMin →
    (s.chan v).window = false → (s.chan v).item = some it → (s.bank (v.val / 8)).queue = [] → s.vst v = 5 →
    s.mpUp = true →
    (s.log.fifo (portValve (v.val / 8))).length + 2 ≤ 16 →
    ∃ t, exec (.probeDone v dMin p ma mv) s = .next t ∧ t.vst v = 7 ∧ t.get (vsFault v) = 1 ∧
      (t.chan v).relItem = some (it, 1, 0x11) ∧ Newest (portValve (v.val / 8)) 0x3007 v 1 it t := by
  intro hbusy hma hstop hmin hwindow hitem hqueue hst hup hfree
  have hkind : (s.probeEnded v).probeVerdict v dMin (rMeasNum p.d ma mv) (rMeasDen ma) = 1 := by
    rw [State.probeVerdict]
    exact if_pos (by simp only [Bool.or_eq_true, decide_eq_true_eq]; exact .inl (by omega))
  rw [show exec (.probeDone v dMin p ma mv) s = .next (s.probeDone v dMin p ma mv) from rfl,
    State.probeDone_eq hbusy hma hstop hkind, if_neg (by decide), if_pos rfl]
  obtain ⟨t, ht, hshown⟩ := State.probe_faults (kind := 1) hwindow hitem hqueue hup hfree (.inl rfl) (by decide)
  exact ⟨t, congrArg Host.Outcome.next ht, hshown⟩

theorem exec_probeDone_short (v : Fin 96) (dMin ma mv it : Nat) (p : ProbeMean) (s : State) :
    s.on (vsProbeBusy v) = true → ma ≠ 0 → p.stop = none → dMin < 64226 →
    100 * rMeasNum p.d ma mv < (70 * (500 * s.get (VALVE_PROT_R_NOM v)) * rMeasDen ma : Nat) →
    (s.chan v).window = false → (s.chan v).item = some it → (s.bank (v.val / 8)).queue = [] → s.vst v = 5 →
    s.mpUp = true →
    (s.log.fifo (portValve (v.val / 8))).length + 2 ≤ 16 →
    ∃ t, exec (.probeDone v dMin p ma mv) s = .next t ∧ t.vst v = 7 ∧ t.get (vsFault v) = 2 ∧
      (t.chan v).relItem = some (it, 1, 0x12) ∧ Newest (portValve (v.val / 8)) 0x3007 v 2 it t := by
  intro hbusy hma hstop hmin hlow hwindow hitem hqueue hst hup hfree
  have hkind : (s.probeEnded v).probeVerdict v dMin (rMeasNum p.d ma mv) (rMeasDen ma) = 2 := by
    rw [State.probeVerdict_probeEnded, State.probeVerdict, if_neg, if_pos hlow]
    have hle : 70 * (500 * s.get (VALVE_PROT_R_NOM v)) * rMeasDen ma ≤ 130 * (500 * s.get (VALVE_PROT_R_NOM v)) * rMeasDen ma :=
      Nat.mul_le_mul_right _ (Nat.mul_le_mul_right _ (by decide))
    simp only [Bool.or_eq_true, decide_eq_true_eq, not_or, not_lt, not_le]
    exact ⟨by omega, hlow.le.trans (by exact_mod_cast hle)⟩
  rw [show exec (.probeDone v dMin p ma mv) s = .next (s.probeDone v dMin p ma mv) from rfl,
    State.probeDone_eq hbusy hma hstop hkind, if_neg (by decide), if_neg (by decide)]
  obtain ⟨t, ht, hshown⟩ := State.probe_faults (kind := 2) hwindow hitem hqueue hup hfree (.inr rfl) (by decide)
  exact ⟨t, congrArg Host.Outcome.next ht, hshown⟩

theorem exec_probeDone_stop (v : Fin 96) (dMin ma mv it : Nat) (id : BitVec 8) (p : ProbeMean) (s : State) :
    s.on (vsProbeBusy v) = true →
    p.stop = some id → (s.chan v).window = false → (s.chan v).item = some it → (s.bank (v.val / 8)).queue = [] →
    s.vst v = 5 → Room s (portValve (v.val / 8)) →
    ∃ t, exec (.probeDone v dMin p ma mv) s = .next t ∧ t.vst v = 6 ∧ (t.chan v).relItem = some (it, 0, 0) ∧
      t.get (vsStuckRun v) = s.get (vsStuckRun v) ∧ t.get (vsFault v) = s.get (vsFault v) ∧ ItemEnds v id.toNat 0 0 s t := by
  intro hbusy hstop hwindow hitem hqueue hst hroom
  obtain ⟨e, kind, rm, he, hdone⟩ : ∃ (e : State) (kind rm : Nat), (e = s.probeEnded v ∨ e = (s.probeEnded v).took) ∧
      s.probeDone v dMin p ma mv = ((e.verdictRecord v kind rm).release v (some (0, 0))).cqPush v id.toNat 0 0 := by
    rw [State.probeDone, if_neg (by simp [hbusy])]
    simp only [hstop]
    by_cases hma : ma = 0
    · simp only [hma, if_true]
      exact ⟨_, _, _, .inr rfl, rfl⟩
    · simp only [hma, if_false]
      exact ⟨_, _, _, .inl rfl, rfl⟩
  have hchan : e.chan v = { s.chan v with probeDue := 0 } := by rcases he with rfl | rfl <;> exact s.chan_probeEnded v
  have hbank : e.bank = s.bank := by
    funext b
    rcases he with rfl | rfl <;> exact s.bank_probeEnded v b
  have hroom' : Room e (portValve (v.val / 8)) := by rcases he with rfl | rfl <;> exact hroom.of_log rfl rfl
  have hkept (f : Fld) (hf : f.hi < 19 ∨ 19 < f.lo) : e.get f = s.get f := by
    rcases he with rfl | rfl <;> exact s.get_probeEnded v (.inr hf)
  rw [show exec (.probeDone v dMin p ma mv) s = .next (s.probeDone v dMin p ma mv) from rfl, hdone, State.verdictRecord,
    State.vev, ev_of_room hroom']
  have hwchan := e.chan_wrote (portValve (v.val / 8)) (record 0x3006 v kind rm false) v
  have hwbank := e.bank_wrote (portValve (v.val / 8)) (record 0x3006 v kind rm false)
  have hwget := e.get_wrote (portValve (v.val / 8)) (record 0x3006 v kind rm false)
  generalize e.wrote (portValve (v.val / 8)) (record 0x3006 v kind rm false) = w at *
  have hbank' : w.bank = s.bank := by
    funext b
    rw [hwbank, hbank]
  rw [release_forced (by rw [hwchan, hchan, hwindow]) (by rw [hwchan, hchan, hitem]) (by rw [hbank', hqueue])
    (.inl (by rw [hwchan, hchan]; exact Nat.zero_ne_one))]
  refine ⟨_, rfl, ?_, ?_, ?_, ?_, (itemEnds_cqPush ..).of_bank (released_bank.trans hbank')⟩
  · rw [vst_cqPush, released_vst]
  · rw [chan_cqPush, released_chan, releasedChan]
  · rw [get_status_cqPush _ _ _ _ _ rfl, get_released rfl (by simp [vsStuckRun]), hwget, hkept _ (by simp [vsStuckRun])]
  · rw [get_status_cqPush _ _ _ _ _ rfl, get_released rfl (by simp [vsFault]), hwget, hkept _ (by simp [vsFault])]

theorem exec_probeDone_none (v : Fin 96) (dMin ma mv : Nat) (p : ProbeMean) (s : State) :
    s.on (vsProbeBusy v) = false →
    exec (.probeDone v dMin p ma mv) s = .next s := by
  intro h
  exact congrArg Host.Outcome.next (if_pos (by simp [h]))

/-! ### The end of a release, and the duty limit (R351, R361, R365) -/

/-- The row of VALVE_STATUS. -/
def valveStatusRow : RegRow where
  base := 0x20000c
  n1 := 12
  s1 := 0x400
  n2 := 8
  s2 := 0x40
  rsv := 0x0f00000f

theorem rowOf_valveStatus : ∀ v : Fin 96, rowOf (VALVE_STATUS v) = some valveStatusRow ∧ VALVE_STATUS v ∉ tableRegs := by
  decide +kernel

namespace State

section Tables
variable (s : State)


/-- Registers that no channel's status is may differ. -/
structure StatusKept (s t : State) : Prop where
  status : ∀ v : Fin 96, t.reg (VALVE_STATUS v) = s.reg (VALVE_STATUS v)
  rest : t.valve = s.valve ∧ t.log = s.log ∧ t.pwr = s.pwr ∧ t.rel = s.rel

theorem statusKept_store (a : Nat) (w : Word) : StatusKept s (s.store a w) := by
  refine ⟨fun v => ?_, ?_⟩
  · by_cases ha : a = VALVE_STATUS v
    · obtain ⟨hrow, htable⟩ := rowOf_valveStatus v
      rw [ha, store_command hrow rfl rfl htable, reg_touched]
    · rcases s.store_cases a w with h | ⟨x, h⟩
      · rw [h]
      · rw [h, reg_setReg_ne _ _ (Ne.symm ha)]
  · rcases s.store_cases a w with h | ⟨x, h⟩
    · rw [h]
      exact ⟨rfl, rfl, rfl, rfl⟩
    · rw [h]
      exact ⟨rfl, rfl, rfl, rfl⟩
theorem StatusKept.trans {s t u : State} (h : StatusKept s t) (k : StatusKept t u) : StatusKept s u := by
  obtain ⟨hreg, hvalve, hlog, hpwr, hrel⟩ := h
  obtain ⟨kreg, kvalve, klog, kpwr, krel⟩ := k
  exact ⟨fun v => (kreg v).trans (hreg v), kvalve.trans hvalve, klog.trans hlog, kpwr.trans hpwr, krel.trans hrel⟩

/-- Between two items a swap's words go into the channel's table, and nowhere else (R98). -/
theorem tableIn_kept (v : Nat) : StatusKept (s.setChan v { s.chan v with table := [] }) (s.tableIn v) := by
  rw [tableIn]
  generalize s.setChan v { s.chan v with table := [] } = t
  generalize (s.chan v).table = l
  induction l generalizing t with
  | nil => exact ⟨fun _ => rfl, rfl, rfl, rfl, rfl⟩
  | cons p q ih => exact (statusKept_store t _ _).trans (ih (t.store (VALVE_PROFILE v + p.1) p.2))

end Tables

end State

namespace State

section Ends
variable {s : State} {v : Fin 96} {id status reason : Nat}

/-- The state with the released item's entry, and a table that a swap may have changed (R98, R351). -/
theorem relItemEnd_kept {c : Channel} (hrel : c.relItem = some (id, status, reason)) :
    ∃ t, (s.setChan v c).relItemEnd v = t ∧ (∀ f : Fld, f.addr = VALVE_STATUS v → t.get f = s.get f) ∧
      ItemEnds v id status reason s t ∧ t.log = s.log ∧ t.pwr = s.pwr ∧ t.rel = s.rel := by
  obtain ⟨u, hu⟩ : ∃ u, u = ((s.setChan v c).setChan v { c with relItem := none }).cqPush v id status reason := ⟨_, rfl⟩
  have hend : (s.setChan v c).relItemEnd v = u.tableIn v := by
    rw [relItemEnd]
    simp only [chan_setChan_same, hrel]
    rw [hu]
  have hget (f : Fld) (hf : f.addr = VALVE_STATUS v) : u.get f = s.get f := by
    rw [hu, get_status_cqPush _ _ _ _ _ hf, get_setChan, get_setChan]
  have hends : ItemEnds v id status reason s u := by
    rw [hu]
    exact (itemEnds_cqPush ..).of_bank rfl
  have hlog : u.log = s.log := by rw [hu, cqPush_log, setChan_log, setChan_log]
  have hpwr : u.pwr = s.pwr := by rw [hu, cqPush_pwr, setChan_pwr, setChan_pwr]
  have hurel : u.rel = s.rel := by
    rw [hu, cqPush_rel]
    rfl
  obtain ⟨hreg, hvalve, hlog', hpwr', hrel'⟩ := u.tableIn_kept v
  have hbank : (u.tableIn v).bank = u.bank := (bank_congr hvalve).trans rfl
  refine ⟨_, hend, fun f hf => ?_, hends.to_bank hbank, hlog'.trans hlog, hpwr'.trans hpwr, hrel'.trans hurel⟩
  rw [← hget f hf, get, get, hf, hreg v]
  rfl

end Ends

end State

theorem exec_releaseDone_stuck (v : Fin 96) (id : Nat) (s : State) :
    (s.chan v).decay = true → s.vst v = 6 → (s.chan v).stuck = true →
    (s.chan v).relItem = some (id, 1, 0x13) → s.rel.tests = [] → Room s (portValve (v.val / 8)) →
    ∃ t, exec (.releaseDone v) s = .next t ∧ t.vst v = 7 ∧ t.get (vsFault v) = 3 ∧ ItemEnds v id 1 0x13 s t ∧
      Logged (portValve (v.val / 8)) 0x3007 v 3 id s t := by
  intro hdecay hst hstuck hrel htests hroom
  obtain ⟨t, ht, hget, hends, hlog, hpwr, htrel⟩ :=
    State.relItemEnd_kept (s := s) (v := v) (c := { s.chan v with decay := false, stuck := false }) hrel
  have htst : t.vst v = 6 := (hget _ rfl).trans hst
  have hfault : (t.vfault v 3 id) = (t.faultNoted v 3 id).setVst v vFaulted :=
    vfault_eq (hroom.of_log hlog hpwr) (by rw [htst]; decide) 3 id
  have hst' : ((t.faultNoted v 3 id).setVst v vFaulted).vst v = 7 := vst_setVst_same _ (by decide) _
  have hidle : ((t.faultNoted v 3 id).setVst v vFaulted).stageStart = (t.faultNoted v 3 id).setVst v vFaulted :=
    stageStart_idle (by rw [setVst_rel]; exact (congrArg _ htrel).trans htests)
  have hdone : s.releaseDone v = (t.faultNoted v 3 id).setVst v vFaulted := by
    rw [State.releaseDone, if_neg (by simp [hdecay])]
    dsimp only at ht ⊢
    have hwaits : ((s.chan v).relItem.isSome && decide (s.vst v = vFaulted) && (s.chan v).table.any (s.tableChanges v)) =
        false := by simp [hst, vFaulted]
    rw [ht, if_pos hstuck, hwaits]
    simp only [hrel, Option.map_some, Option.getD_some, hfault]
    rw [hst', if_neg (by decide), if_neg (by decide), hidle]
  rw [show exec (.releaseDone v) s = .next (s.releaseDone v) from rfl, hdone]
  refine ⟨_, rfl, hst', ?_, hends.to_bank ?_, ?_⟩
  · rw [get_status_setVst _ rfl (by simp [vsFault]) (by simp [vsFault]), State.faultNoted, get_wrote,
      get_put_same _ _ _ (by simp [vsFault])]
    rfl
  · rw [bank_setVst]
    exact bank_congr rfl
  · have hwrote := logged_wrote (t.put (vsFault v) 3) (portValve (v.val / 8)) 0x3007 v 3 id
    rw [Logged] at hwrote ⊢
    rw [setVst_log, State.faultNoted, hwrote, put_log, hlog]

namespace State

section Duty
variable (s : State) (v : Nat)

/-- The intervals of a channel as one more ends (R361). -/
def intervalEnded (s : State) (v : Nat) : Channel := { s.chan v with
  intervals := (s.chan v).intervals + 1, touched := isOn (s.vst v)
  energised := (if (s.chan v).touched || isOn (s.vst v) then ((s.chan v).intervals + 1) :: (s.chan v).energised
    else (s.chan v).energised).filter (fun i => decide ((s.chan v).intervals + 1 < i + 60000)) }

theorem dutyInterval_eq : s.dutyInterval v = (s.setChan v (s.intervalEnded v)).dutyJudge v := rfl

/-- DUTY_USED as it is shown (R361). -/
def dutyShown (s : State) (v : Nat) : State := s.put (VALVE_PROT_DUTY_USED v) (s.dutyUsed v)

theorem dutyUsed_congr {t : State} (hchan : t.chan v = s.chan v)
    (hwindow : t.get (VALVE_PROT_WINDOW_S v) = s.get (VALVE_PROT_WINDOW_S v)) : t.dutyUsed v = s.dutyUsed v := by
  rw [dutyUsed, dutyUsed, hchan, hwindow]

theorem get_dutyShown {f : Fld} (hf : f.addr ≠ VALVE_PROT v ∨ f.hi < 10 ∨ 17 < f.lo) :
    (s.dutyShown v).get f = s.get f := get_put_ne _ _ _ _ (by simp) hf

theorem chan_dutyShown (u : Nat) : (s.dutyShown v).chan u = s.chan u := chan_congr (put_valve ..) u

theorem dutyUsed_dutyShown : (s.dutyShown v).dutyUsed v = s.dutyUsed v :=
  s.dutyUsed_congr v (s.chan_dutyShown v v) (s.get_dutyShown v (by simp))

theorem get_dutyShown_used : (s.dutyShown v).get (VALVE_PROT_DUTY_USED v) = (s.dutyShown v).dutyUsed v := by
  have hle : s.dutyUsed v ≤ 255 := Nat.min_le_left ..
  rw [dutyUsed_dutyShown, dutyShown, get_put_same _ _ _ (by simp)]
  exact Nat.mod_eq_of_lt (by simp; omega)

/-- The limit that is reached is shown, with its record (R362). -/
def dutyLimited (s : State) (v : Nat) : State := (((s.dutyShown v).putB (vsDutyLim v) true).vev v 0x3004
  (s.get (VALVE_PROT_LIMIT v)) ((s.dutyShown v).get (VALVE_PROT_WINDOW_S v))).bankShow (v / 8)

theorem dutyJudge_eq : s.dutyJudge v =
    if !(s.dutyShown v).on (vsDutyLim v) && decide (s.get (VALVE_PROT_LIMIT v) ≠ 0) &&
        decide (s.get (VALVE_PROT_LIMIT v) ≤ s.dutyUsed v) then
      if isOn ((s.dutyLimited v).vst v) && (s.dutyLimited v).on (VALVE_STATUS_CONT v) then (s.dutyLimited v).release v none
      else s.dutyLimited v
    else if (s.dutyShown v).on (vsDutyLim v) && (decide (s.get (VALVE_PROT_LIMIT v) = 0) ||
        decide (s.dutyUsed v ≤ s.get (VALVE_PROT_LIMIT v) - 8)) then
      (((s.dutyShown v).putB (vsDutyLim v) false).vev v 0x3005 (s.dutyUsed v)).bankShow (v / 8)
    else s.dutyShown v := rfl

theorem dutyLim_dutyShown : (s.dutyShown v).on (vsDutyLim v) = s.on (vsDutyLim v) := by
  rw [on, get_dutyShown _ _ (.inl (by simp [vsDutyLim])), on]

/-- A channel below its limit, or with none, only shows its use (R361, R362). -/
theorem dutyJudge_shows {s : State} {v : Nat} (hoff : s.on (vsDutyLim v) = false)
    (hlim : s.get (VALVE_PROT_LIMIT v) = 0 ∨ s.dutyUsed v < s.get (VALVE_PROT_LIMIT v)) : s.dutyJudge v = s.dutyShown v := by
  rw [dutyJudge_eq, dutyLim_dutyShown, hoff, if_neg, if_neg]
  · simp
  · rcases hlim with h | h <;> simp [h]

theorem dutyLimited_eq {s : State} {v : Nat} (hroom : Room s (portValve (v / 8))) :
    s.dutyLimited v = (((s.dutyShown v).putB (vsDutyLim v) true).wrote (portValve (v / 8))
      (record 0x3004 v (s.get (VALVE_PROT_LIMIT v)) (s.get (VALVE_PROT_WINDOW_S v)) false)).bankShow (v / 8) := by
  have hroom' : Room ((s.dutyShown v).putB (vsDutyLim v) true) (portValve (v / 8)) := hroom.of_log rfl rfl
  rw [dutyLimited, vev, ev_of_room hroom', s.get_dutyShown v (.inr (.inr (by simp)))]

theorem get_dutyLimited {s : State} {v : Nat} (hroom : Room s (portValve (v / 8))) {f : Fld}
    (hf : f.addr = VALVE_PROT v ∨ f.addr = VALVE_STATUS v) (hbit : f.addr ≠ VALVE_STATUS v ∨ f.hi < 20 ∨ 20 < f.lo) :
    (s.dutyLimited v).get f = (s.dutyShown v).get f := by
  rw [dutyLimited_eq hroom, get_bankShow, get_wrote, get_putB_ne _ _ _ _ (by simp [vsDutyLim]) hbit]
  simp only [VALVE_PROT, VALVE_STATUS, VALVE_BANK_STATUS, VALVE_BANK_FAULT] at *
  omega

theorem chan_dutyLimited {s : State} {v : Nat} (hroom : Room s (portValve (v / 8))) :
    (s.dutyLimited v).chan v = s.chan v := by
  rw [dutyLimited_eq hroom, chan_bankShow, chan_wrote, chan_congr (putB_valve ..), chan_dutyShown]

/-- A channel that reaches its limit with no profile running (R362). -/
theorem dutyJudge_limits {s : State} {v : Nat} (hoff : s.on (vsDutyLim v) = false) (hidle : isOn (s.vst v) = false)
    (hlim : s.get (VALVE_PROT_LIMIT v) ≠ 0) (hused : s.get (VALVE_PROT_LIMIT v) ≤ s.dutyUsed v)
    (hroom : Room s (portValve (v / 8))) : s.dutyJudge v = s.dutyLimited v := by
  have hst : (s.dutyLimited v).vst v = s.vst v :=
    (get_dutyLimited hroom (.inr rfl) (.inr (.inr (by simp)))).trans (s.get_dutyShown v (.inl (by simp)))
  rw [dutyJudge_eq, dutyLim_dutyShown, hoff, if_pos (by simp [hlim, hused]), hst, hidle]
  rfl

end Duty

end State

theorem exec_dutyIntervalEnd_unlimited (v : Fin 96) (s : State) :
    s.on (vsDutyLim v) = false → s.get (VALVE_PROT_LIMIT v) = 0 →
    ∃ t, exec (.dutyIntervalEnd v) s = .next t ∧ t.chan v = { s.chan v with
        intervals := (s.chan v).intervals + 1, touched := isOn (s.vst v)
        energised := (if (s.chan v).touched || isOn (s.vst v) then ((s.chan v).intervals + 1) :: (s.chan v).energised
          else (s.chan v).energised).filter (fun i => decide ((s.chan v).intervals + 1 < i + 60000)) } ∧
      t.get (VALVE_PROT_DUTY_USED v) = t.dutyUsed v ∧ (∀ u, u ≠ v.val → t.chan u = s.chan u) ∧
      SameRegs [VALVE_PROT v] s t ∧ t.log = s.log := by
  intro hoff hlim
  rw [show exec (.dutyIntervalEnd v) s = .next (s.dutyInterval v) from rfl, State.dutyInterval_eq]
  have hchan := s.chan_setChan_same v (s.intervalEnded v)
  have hothers (u : Nat) (hu : u ≠ v.val) := s.chan_setChan_ne hu (s.intervalEnded v)
  have hget (f : Fld) := s.get_setChan v (s.intervalEnded v) f
  have hsame : SameRegs [VALVE_PROT v] s (s.setChan v (s.intervalEnded v)) := by simp
  have hlog := s.setChan_log v (s.intervalEnded v)
  generalize s.setChan v (s.intervalEnded v) = u at *
  rw [dutyJudge_shows (by rw [on, hget]; exact hoff) (.inl (by rw [hget, hlim]))]
  refine ⟨_, rfl, ?_, u.get_dutyShown_used v, fun w hw => ?_, ?_, hlog⟩
  · rw [chan_dutyShown, hchan, intervalEnded]
  · rw [chan_dutyShown, hothers w hw]
  · exact (sameRegs_put (by simp)).mpr hsame

theorem exec_dutyIntervalEnd_limited (v : Fin 96) (s : State) :
    s.on (vsDutyLim v) = false → isOn (s.vst v) = false →
    s.get (VALVE_PROT_LIMIT v) ≠ 0 → Room s (portValve (v.val / 8)) →
    ∃ t, exec (.dutyIntervalEnd v) s = .next t ∧ t.get (VALVE_PROT_DUTY_USED v) = t.dutyUsed v ∧ t.vst v = s.vst v ∧
      t.get (vsDutyLim v) = (if s.get (VALVE_PROT_LIMIT v) ≤ t.dutyUsed v then 1 else 0) ∧
      (s.get (VALVE_PROT_LIMIT v) ≤ t.dutyUsed v →
        Logged (portValve (v.val / 8)) 0x3004 v (s.get (VALVE_PROT_LIMIT v)) (s.get (VALVE_PROT_WINDOW_S v)) s t) ∧
      SameRegs [VALVE_PROT v, VALVE_STATUS v, VALVE_BANK_STATUS (v.val / 8), VALVE_BANK_FAULT (v.val / 8)] s t := by
  intro hoff hidle hlim hroom
  rw [show exec (.dutyIntervalEnd v) s = .next (s.dutyInterval v) from rfl, State.dutyInterval_eq]
  have hget (f : Fld) := s.get_setChan v (s.intervalEnded v) f
  have hsame : SameRegs [VALVE_PROT v, VALVE_STATUS v, VALVE_BANK_STATUS (v.val / 8), VALVE_BANK_FAULT (v.val / 8)] s
      (s.setChan v (s.intervalEnded v)) := by simp
  have hlog := s.setChan_log v (s.intervalEnded v)
  have hroom' : Room (s.setChan v (s.intervalEnded v)) (portValve (v.val / 8)) := hroom.of_log rfl rfl
  generalize s.setChan v (s.intervalEnded v) = u at *
  have hoff' : u.on (vsDutyLim v) = false := by
    rw [on, hget]
    exact hoff
  have hst : u.vst v = s.vst v := hget _
  by_cases hused : s.get (VALVE_PROT_LIMIT v) ≤ u.dutyUsed v
  · have hused' : u.get (VALVE_PROT_LIMIT v) ≤ u.dutyUsed v := by rwa [hget]
    have hshown : (u.dutyLimited v).dutyUsed v = u.dutyUsed v := u.dutyUsed_congr v (chan_dutyLimited hroom')
      ((get_dutyLimited hroom' (.inl rfl) (.inl (by simp))).trans (u.get_dutyShown v (by simp)))
    rw [dutyJudge_limits hoff' (by rw [hst, hidle]) (by rw [hget]; exact hlim) hused' hroom']
    refine ⟨_, rfl, ?_, ?_, ?_, fun _ => ?_, ?_⟩
    · rw [get_dutyLimited hroom' (.inl rfl) (.inl (by simp)), u.get_dutyShown_used v, u.dutyUsed_dutyShown, hshown]
    · rw [vst, get_dutyLimited hroom' (.inr rfl) (.inr (.inr (by simp))), u.get_dutyShown v (.inl (by simp))]
      exact hst
    · rw [hshown, if_pos hused, dutyLimited_eq hroom', get_status_bankShow _ rfl, get_wrote]
      exact get_putB_same _ _ true (by simp [vsDutyLim])
    · have hwrote := logged_wrote ((u.dutyShown v).putB (vsDutyLim v) true) (portValve (v.val / 8)) 0x3004 v
        (u.get (VALVE_PROT_LIMIT v)) (u.get (VALVE_PROT_WINDOW_S v))
      rw [dutyLimited_eq hroom', Logged, bankShow_log, ← hget, ← hget, ← hlog]
      exact hwrote
    · rw [dutyLimited_eq hroom', sameRegs_bankShow (by simp), sameRegs_wrote, sameRegs_putB (by simp [vsDutyLim])]
      exact (sameRegs_put (by simp)).mpr hsame
  · rw [dutyJudge_shows hoff' (.inr (by rw [hget]; omega))]
    have hfew : ¬ s.get (VALVE_PROT_LIMIT v) ≤ (u.dutyShown v).dutyUsed v := by rwa [u.dutyUsed_dutyShown]
    refine ⟨_, rfl, u.get_dutyShown_used v, ?_, ?_, fun h => absurd h hfew, ?_⟩
    · rw [vst, u.get_dutyShown v (.inl (by simp))]
      exact hst
    · rw [if_neg hfew, u.get_dutyShown v (.inl (by simp [vsDutyLim])), hget]
      exact get_eq_zero_of_off _ hoff
    · exact (sameRegs_put (by simp)).mpr hsame

namespace State

section Stage
variable {s : State} {v : Fin 96}

@[simp] theorem get_withRel (s : State) (x : Reliability) (f : Fld) : (s.withRel x).get f = s.get f := get_congr rfl f

/-- The check of a channel that carries no current starts at once (R367, R453). -/
theorem testWant_valve (htests : s.rel.tests = []) (hfree : s.relBusy (.valve v) = false)
    (hfew : s.recentTransients (.valve v) < s.get REL_CFG_REPEAT_N) (hst : s.vst v = 0)
    (hdecay : (s.chan v).decay = false) : s.testWant (.valve v) (.valve v) false =
      s.withRel { s.rel with tests := [{ elem := .valve v, running := true }] } := by
  have hst' : (s.withRel { s.rel with tests := [{ elem := .valve v }] }).vst v = 0 := (get_withRel ..).trans hst
  have hdecay' : ((s.withRel { s.rel with tests := [{ elem := .valve v }] }).chan v).decay = false := hdecay
  have hstage : (s.withRel { s.rel with tests := [{ elem := .valve v }] }).stageStart =
      s.withRel { s.rel with tests := [{ elem := .valve v, running := true }] } := by
    have htests' : (s.withRel { s.rel with tests := [{ elem := .valve v }] }).rel.tests = [{ elem := .valve v }] := rfl
    rw [stageStart, htests']
    refine (if_neg (Bool.false_ne_true)).trans ?_
    dsimp only
    rw [List.find?_cons_of_pos]
    · simp [withRel]
    · change (!false && (decide ((s.withRel { s.rel with tests := [{ elem := .valve v }] }).vst v = vIdle) || _ || _ || _) &&
        !((s.withRel { s.rel with tests := [{ elem := .valve v }] }).chan v).decay) = true
      rw [hst', hdecay']
      rfl
  have hwaits : (s.withRel { s.rel with tests := [{ elem := .valve v }] }).testsStart =
      s.withRel { s.rel with tests := [{ elem := .valve v, running := true }] } := by
    rw [testsStart, hstage]
    simp [each, withRel]
  rw [testWant, if_neg (by simp [hfree]), if_neg (by simp [hfew]), htests]
  exact hwaits

/-- A fault that is cleared (R366). -/
theorem clearFault_faulted {v : Nat} (hok : s.clearOk v = true) (hst : s.vst v = 7) (htests : s.rel.tests = [])
    (hroom : Room s (portValve (v / 8))) :
    s.clearFault v 0 = ((s.put (vsFault v) 0).wrote (portValve (v / 8)) (record 0x3008 v 0 0 false)).setVst v vIdle := by
  have hst' : ((s.put (vsFault v) 0).wrote (portValve (v / 8)) (record 0x3008 v 0 0 false)).vst v = vFaulted := by
    rw [vst, get_wrote, get_put_ne _ _ _ _ (by simp [vsFault]) (by simp [vsFault])]
    exact hst
  have hidle : (((s.put (vsFault v) 0).wrote (portValve (v / 8)) (record 0x3008 v 0 0 false)).setVst v vIdle).stageStart =
      ((s.put (vsFault v) 0).wrote (portValve (v / 8)) (record 0x3008 v 0 0 false)).setVst v vIdle :=
    stageStart_idle (by rw [setVst_rel]; exact htests)
  rw [clearFault, if_neg (by simp [hok])]
  simp only [vev, ev_of_room (hroom.put (vsFault v) 0)]
  rw [if_pos hst', hidle]

theorem clearOk_touched (s : State) (a v : Nat) : (s.touched a).clearOk v = s.clearOk v := by
  rw [clearOk, clearOk, get_touched]

theorem vst_touched (s : State) (a v : Nat) : (s.touched a).vst v = s.vst v := get_touched ..


end Stage

end State

theorem exec_valveStageError_tests (v : Fin 96) (s : State) :
    s.rel.tests = [] → s.relBusy (.valve v) = false →
    s.recentTransients (.valve v) < s.get REL_CFG_REPEAT_N → s.vst v = 0 → (s.chan v).decay = false →
    ∃ t, exec (.valveStageError v) s = .next t ∧ t.testing (.valve v) = true ∧ t.vst v = 0 ∧ t.log = s.log := by
  intro htests hfree hfew hst hdecay
  have hwant := State.testWant_valve htests hfree hfew hst hdecay
  rw [show exec (.valveStageError v) s = .next (s.testWant (.valve v) (.valve v) false) from rfl, hwant]
  refine ⟨_, rfl, by simp [State.testing, withRel], (get_withRel ..).trans hst, rfl⟩

theorem exec_valveClearFault_clears (req : Nat) (v : Fin 96) (s : State) :
    Writes s req (VALVE_BANK_CTRL (v.val / 8)) (BitVec.ofNat 32 (0x7A1E0005 + 16 * (v.val % 8))) → s.vst v = 7 →
    (s.chan v).decay = false → s.rel.tests = [] → Room s (portValve (v.val / 8)) →
    ∃ t, exec (.valveClearFault req v) s = .next t ∧ t.vst v = 0 ∧ t.get (vsFault v) = 0 ∧
      t.valve.chans = s.valve.chans ∧
      SameRegs [VALVE_STATUS v, VALVE_BANK_STATUS (v.val / 8), VALVE_BANK_FAULT (v.val / 8)] s t ∧
      Logged (portValve (v.val / 8)) 0x3008 v 0 0 s t := by
  intro hw hst hdecay htests hroom
  obtain ⟨-, -, hact, hch⟩ := State.bankWord_fields ⟨v.val % 8, by omega⟩
  have hword : (BitVec.ofNat 32 (0x7A1E0005 + 16 * (v.val % 8)) : Word) = 0x7A1E0005 + BitVec.ofNat 32 (16 * (v.val % 8)) :=
    BitVec.ofNat_add ..
  rw [hword] at hw
  have hv : 8 * (v.val / 8) + v.val % 8 = v.val := by omega
  have hok : s.clearOk v = true := by
    have := State.clearOk_of_writes (b := bankOf v) hw hact
    rw [hch] at this
    simpa [bankOf, hv] using this
  have hclear : exec (.valveClearFault req v) s = .next ((s.touched (VALVE_BANK_CTRL (v.val / 8))).clearFault v 0) := by
    refine congrArg Host.Outcome.next ((State.writeAt_bankCtrl (b := bankOf v) hw).trans ?_)
    rw [State.bankEffect, if_pos rfl]
    simp only [hact, hch, bankOf, hv]
  have hok' := (s.clearOk_touched (VALVE_BANK_CTRL (v.val / 8)) v).trans hok
  have hst' := (s.vst_touched (VALVE_BANK_CTRL (v.val / 8)) v).trans hst
  have hroom' : Room (s.touched (VALVE_BANK_CTRL (v.val / 8))) (portValve (v.val / 8)) := hroom.of_log rfl rfl
  have htests' : (s.touched (VALVE_BANK_CTRL (v.val / 8))).rel.tests = [] := htests
  have hsame : SameRegs (vstRegs v) s (s.touched (VALVE_BANK_CTRL (v.val / 8))) := s.sameRegs_touched _
  have hvalve : (s.touched (VALVE_BANK_CTRL (v.val / 8))).valve = s.valve := rfl
  have hlog : (s.touched (VALVE_BANK_CTRL (v.val / 8))).log = s.log := rfl
  rw [hclear]
  generalize s.touched (VALVE_BANK_CTRL (v.val / 8)) = u at *
  rw [State.clearFault_faulted hok' hst' htests' hroom']
  refine ⟨_, rfl, vst_setVst_same _ (by decide) _, ?_, ?_, ?_, ?_⟩
  · rw [get_status_setVst _ rfl (by simp [vsFault]) (by simp [vsFault]), get_wrote, get_put_same _ _ _ (by simp [vsFault])]
    rfl
  · rw [setVst_valve_off _ rfl]
    exact congrArg Valves.chans hvalve
  · rw [sameRegs_setVst (fun _ h => h), sameRegs_wrote, sameRegs_put (by simp [vsFault])]
    exact hsame
  · have hwrote := logged_wrote (u.put (vsFault v) 0) (portValve (v.val / 8)) 0x3008 v 0 0
    rw [Logged] at hwrote ⊢
    rw [setVst_log, hwrote, put_log, hlog]

theorem exec_valveStageError_busy (v : Fin 96) (s : State) :
    s.relBusy (.valve v) = true → exec (.valveStageError v) s = .next s := by
  intro h
  exact congrArg Host.Outcome.next (if_pos h)

/-- Settles O52: each clause is one of the lemmas on the verdicts, the probe, the release, the duty limit and the clear
action of a channel. -/
theorem valveVerdicts : Obligations.ValveVerdicts :=
  ⟨exec_valveShortTrip_short, exec_valveShortTrip_none, exec_peakTimeEnd_open, exec_valveProbeStart_starts,
    exec_valveProbeStart_none, exec_probeDone_stuck, exec_probeDone_open, exec_probeDone_short, exec_probeDone_stop,
    exec_probeDone_none, exec_releaseDone_stuck, exec_dutyIntervalEnd_unlimited, exec_dutyIntervalEnd_limited,
    exec_valveStageError_tests, exec_valveStageError_busy, exec_valveClearFault_clears⟩

end Sys2Proof.Machine
end

section
/-! PROOFS. What a valve command does: admitted, deferred, failed, extended, stopped (R351 to R356). -/

namespace Sys2Proof.Machine

open Reg State

namespace State

section Touched
variable (s : State) (a : Nat)

theorem chan_touched (v : Nat) : (s.touched a).chan v = s.chan v := chan_congr rfl v
theorem bank_touched : (s.touched a).bank = s.bank := bank_congr rfl

theorem hsOn_touched (b : Nat) : (s.touched a).hsOn b = s.hsOn b := by rw [hsOn, hsOn, on, on, get_touched]

theorem bankSupply_touched (b : Nat) : (s.touched a).bankSupply b = s.bankSupply b := by
  rw [bankSupply, bankSupply, get_touched]

theorem refuses_touched (v : Nat) : (s.touched a).refuses v = s.refuses v := by
  simp only [refuses, vst_touched, chan_touched]
  rfl

theorem bankSum_touched (b : Nat) : (s.touched a).bankSum b = s.bankSum b := by
  simp only [bankSum, vst_touched, peakMa, holdMa, get_touched]

theorem fits_touched (v : Nat) : (s.touched a).fits v = s.fits v := by
  simp only [fits, vst_touched, bankSum_touched, peakMa, get_touched]
  rfl

end Touched

section Words
variable {s : State} {req : Nat} {v : Fin 96} {id : BitVec 8}

/-- The fields of a word of VALVE_CMD (R351). -/
theorem cmdWord_fields (id act : BitVec 8) (ms : BitVec 16) :
    bits (id ++ act ++ ms) 31 24 = id.toNat ∧ bits (id ++ act ++ ms) 23 22 = act.toNat / 64 ∧
      bits (id ++ act ++ ms) 15 0 = ms.toNat := by
  have hid := id.isLt
  have hact := act.isLt
  have hms := ms.isLt
  have hword : (id ++ act ++ ms).toNat = id.toNat * 2 ^ 24 + act.toNat * 2 ^ 16 + ms.toNat := by
    have hlow : act.toNat * 2 ^ 16 + ms.toNat < 2 ^ 24 := by omega
    rw [BitVec.toNat_append, BitVec.toNat_append, Nat.shiftLeft_eq, Nat.shiftLeft_eq, Nat.mul_comm, Nat.mul_comm id.toNat,
      ← Nat.two_pow_add_eq_or_of_lt act.isLt, ← Nat.two_pow_add_eq_or_of_lt ms.isLt]
    omega
  simp only [bits, hword, Nat.shiftRight_eq_div_pow]
  refine ⟨?_, ?_, ?_⟩ <;> omega

theorem exec_valveTimed {ms : BitVec 16} (h : Writes s req (VALVE_CMD v) (id ++ (0x40 : BitVec 8) ++ ms)) :
    exec (.valveTimed req v id ms) s = .next ((s.touched (VALVE_CMD v)).valveStart v id.toNat false ms.toNat) := by
  obtain ⟨hid, hact, hms⟩ := cmdWord_fields id 0x40 ms
  refine congrArg Host.Outcome.next ((writeAt_valveCmd h).trans ?_)
  rw [valveEffect, if_pos rfl, hid, hact, hms]
  rfl

theorem exec_valveContinuous (h : Writes s req (VALVE_CMD v) (id ++ (0x80 : BitVec 8) ++ (0 : BitVec 16))) :
    exec (.valveContinuous req v id) s = .next ((s.touched (VALVE_CMD v)).valveStart v id.toNat true 0) := by
  obtain ⟨hid, hact, -⟩ := cmdWord_fields id 0x80 0
  refine congrArg Host.Outcome.next ((writeAt_valveCmd h).trans ?_)
  rw [valveEffect, if_pos rfl, hid, hact]
  rfl

theorem exec_valveStop (h : Writes s req (VALVE_CMD v) (id ++ (0xC0 : BitVec 8) ++ (0 : BitVec 16))) :
    exec (.valveStop req v id) s = .next ((s.touched (VALVE_CMD v)).valveStop v id.toNat) := by
  obtain ⟨hid, hact, -⟩ := cmdWord_fields id 0xC0 0
  refine congrArg Host.Outcome.next ((writeAt_valveCmd h).trans ?_)
  rw [valveEffect, if_pos rfl, hid, hact]
  rfl

end Words

/-! ### A command for a new profile (R352, R353, R355) -/

section NewProfile
variable {s : State} {v id hold : Nat} {cont : Bool}

/-- A command for a new profile on an idle channel that takes it (R351). -/
theorem valveStart_idle (hrefuses : s.refuses v = none) (hst : s.vst v = 0) :
    s.valveStart v id cont hold = s.newProfile v id cont hold := by
  rw [valveStart, hrefuses]
  exact if_pos (.inl hst)

/-- The channel's record as a profile is admitted (R352). -/
def admittedChan (s : State) (v id hold : Nat) : Channel := { s.chan v with
  item := some id, hold := hold, fromIdle := !(s.chan v).decay, deferred := none }

/-- The channel with the profile it is admitted to. -/
def admitted (s : State) (v id : Nat) (cont : Bool) (hold : Nat) : State :=
  ((s.setChan v (s.admittedChan v id hold)).put (VALVE_STATUS_ITEM_ID v) id).putB (VALVE_STATUS_CONT v) cont

theorem newProfile_admits (hduty : s.on (vsDutyLim v) = false) (hsupply : s.bankSupply (v / 8) = true)
    (hqueue : (s.bank (v / 8)).queue = []) (hfits : s.fits v = true) :
    s.newProfile v id cont hold = s.letIn v id cont hold := by
  rw [newProfile, if_neg (by simp [hduty]), if_neg (by simp [hsupply]), if_pos (by simp [hqueue, hfits])]

theorem letIn_eq (hrel : (s.chan v).relItem = none) : s.letIn v id cont hold =
    if (s.admitted v id cont hold).hsOn (v / 8) then (s.admitted v id cont hold).riseStart v
    else ((s.admitted v id cont hold).hsPut (v / 8) true).setVst v vPrearm := by
  have hend : s.relItemEnd v = s := by rw [relItemEnd, hrel]
  rw [letIn, hend]
  rfl

theorem hsOn_admitted : (s.admitted v id cont hold).hsOn (v / 8) = s.hsOn (v / 8) := by
  rw [hsOn, admitted, on_putB_ne _ _ _ _ (by simp) (.inl statusApart.1), on_put_ne _ _ _ _ (by simp) (.inl statusApart.1),
    on_setChan, hsOn]

theorem chan_admitted : (s.admitted v id cont hold).chan v = s.admittedChan v id hold := by
  rw [admitted, chan_congr (putB_valve ..), chan_congr (put_valve ..), chan_setChan_same]

theorem chan_admitted_ne {u : Nat} (h : u ≠ v) : (s.admitted v id cont hold).chan u = s.chan u := by
  rw [admitted, chan_congr (putB_valve ..), chan_congr (put_valve ..), chan_setChan_ne _ h]

theorem bank_admitted : (s.admitted v id cont hold).bank = s.bank := bank_congr rfl |>.trans rfl

theorem get_admitted_item (hid : id < 256) : (s.admitted v id cont hold).get (VALVE_STATUS_ITEM_ID v) = id := by
  rw [admitted, get_putB_ne _ _ _ _ (by simp) (by simp), get_put_same _ _ _ (by simp)]
  exact Nat.mod_eq_of_lt hid

theorem get_admitted_cont : (s.admitted v id cont hold).get (VALVE_STATUS_CONT v) = if cont then 1 else 0 := by
  rw [admitted, get_putB_same _ _ _ (by simp)]

theorem sameRegs_admitted : SameRegs [VALVE_STATUS v] s (s.admitted v id cont hold) := by simp [admitted]

theorem get_cqPush_deferFails (s : State) (v id : Nat) : (s.cqPush v id 1 0x01).get (VALVE_BANK_STATS_DEFER_FAILS (v / 8)) =
    (s.get (VALVE_BANK_STATS_DEFER_FAILS (v / 8)) + 1) % 256 := by
  have hctrl : VALVE_BANK_STATS (v / 8) ≠ VALVE_CQ_CTRL (v / 8) := by
    rw [VALVE_BANK_STATS, VALVE_CQ_CTRL]
    omega
  have hcq : VALVE_BANK_STATS (v / 8) ≠ VALVE_CQ (v / 8) := by
    rw [VALVE_BANK_STATS, VALVE_CQ]
    omega
  rw [cqPush_eq, cqShow, get_put_ne _ _ _ _ (by simp) (.inl hctrl), get_setReg_ne _ _ _ _ hcq, cqCounted,
    if_pos ⟨rfl, .inl rfl⟩, get_inc_same _ _ (by simp)]
  split
  · rw [get_inc_ne _ _ _ (by simp) (.inl hctrl), get_setBank]
    rfl
  · rw [get_setBank]
    rfl

/-- A command is refused with a reason of its cause, none of a deferral's (R353, R366, R368, R369). -/
theorem refuses_reason {s : State} {v r : Nat} (h : s.refuses v = some r) : 0x10 ≤ r := by
  rw [refuses] at h
  split_ifs at h <;> simp at h <;> omega

/-- The channel behind the others of its bank's queue (R353). -/
def deferredBehind (s : State) (v id : Nat) (cont : Bool) (hold : Nat) : State :=
  (((((s.setBank (v / 8) { s.bank (v / 8) with queue := (s.bank (v / 8)).queue ++ [v] }).setChan v
    { s.chan v with deferred := some (id, cont, hold) }).put (VALVE_STATUS_ITEM_ID v) id).inc
    (VALVE_BANK_STATS_DEFERRALS (v / 8))).setVst v vDeferred)

/-- A channel in PREARM, RISE or PEAK holds its bank's peak slot (R352). -/
theorem peakBusy_setVst {st : Nat} (hslot : inSlot st = true) (hst : st < 16) :
    (s.setVst v st).get (VALVE_BANK_STATUS_PEAK_BUSY (v / 8)) = 1 := by
  have hv : 8 * (v / 8) + v % 8 = v := by omega
  have hshown := s.vst_setVst_same hst v
  rw [setVst_eq, vst_bankShow] at hshown
  rw [setVst_eq]
  generalize ((s.put (VALVE_STATUS_STATE v) st).touchedChan v st).putB (vsByBank v) _ = t at *
  have hsome : ((List.range 8).find? (fun c => inSlot (t.vst (8 * (v / 8) + c)))).isSome = true := by
    rw [List.find?_isSome]
    exact ⟨v % 8, List.mem_range.mpr (by omega), by rw [hv, hshown, hslot]⟩
  rw [bankShow, get_putB_ne _ _ _ _ (by simp) (by simp), get_put_ne _ _ _ _ (by simp) (by simp),
    get_put_ne _ _ _ _ (by simp) (by simp), get_put_ne _ _ _ _ (by simp) (by simp),
    get_put_ne _ _ _ _ (by simp) (by simp), get_put_ne _ _ _ _ (by simp) (by simp), get_put_ne _ _ _ _ (by simp) (by simp),
    get_putB_same _ _ _ (by simp), if_pos hsome]

/-- The channel's record as its low-side switch turns on (R347, R357). -/
def risenChan (s : State) (v : Nat) : Channel := { s.chan v with
  reached := false, window := (s.chan v).fromIdle && decide (s.get (VALVE_DETECT_DIP_THR v) ≠ 0), verdict := none
  decay := false, stuck := false, probeDue := if (s.chan v).probeNext then 2 else 0, probeNext := false }

/-- The channel as its low-side switch turns on. -/
def risen (s : State) (v : Nat) : State :=
  if (s.chan v).fromIdle && decide (s.get (VALVE_DETECT_DIP_THR v) ≠ 0) then s.setChan v (s.risenChan v)
  else (s.setChan v (s.risenChan v)).put (VALVE_STATUS_MOTION v) 0

theorem riseStart_eq : s.riseStart v = (s.risen v).setVst v vRise := rfl

theorem risen_log : (s.risen v).log = s.log := by
  rw [risen]
  split <;> rfl

theorem bank_risen : (s.risen v).bank = s.bank := by
  rw [risen]
  split
  · rfl
  · exact (bank_congr (put_valve ..)).trans rfl

theorem chan_risen : (s.risen v).chan v = s.risenChan v := by
  rw [risen]
  split
  · exact chan_setChan_same ..
  · rw [chan_congr (put_valve ..), chan_setChan_same]

theorem chan_risen_ne {u : Nat} (h : u ≠ v) : (s.risen v).chan u = s.chan u := by
  rw [risen]
  split
  · exact chan_setChan_ne _ h _
  · rw [chan_congr (put_valve ..), chan_setChan_ne _ h]

theorem get_risen {f : Fld} (hf : f.addr ≠ VALVE_STATUS v ∨ f.hi < 6 ∨ 7 < f.lo) : (s.risen v).get f = s.get f := by
  rw [risen]
  split
  · exact get_setChan ..
  · rw [get_put_ne _ _ _ _ (by simp) hf, get_setChan]

theorem sameRegs_risen : SameRegs [VALVE_STATUS v] s (s.risen v) := by
  rw [risen]
  split
  · exact sameRegs_setChan.mpr sameRegs_refl
  · simp

end NewProfile

end State

section Command
variable {s : State} {v : Fin 96}

/-- What is true of the state that a command finds is true of it as the fabric leaves it. -/
theorem SameRegs.of_touched {l : List Nat} {a : Nat} {s t : State} (h : SameRegs l (s.touched a) t) : SameRegs l s t :=
  (s.sameRegs_touched a).next h

end Command

theorem exec_valveTimed_prearm (req : Nat) (v : Fin 96) (id : BitVec 8) (ms : BitVec 16) (s : State) :
    Writes s req (VALVE_CMD v) (id ++ (0x40 : BitVec 8) ++ ms) → s.refuses v = none → s.vst v = 0 →
    s.on (vsDutyLim v) = false → s.bankSupply (v.val / 8) = true → (s.bank (v.val / 8)).queue = [] → s.fits v = true →
    s.hsOn (v.val / 8) = false → (s.chan v).relItem = none →
    ∃ t, exec (.valveTimed req v id ms) s = .next t ∧ t.vst v = 2 ∧ t.hsOn (v.val / 8) = true ∧
      t.get (VALVE_STATUS_ITEM_ID v) = id.toNat ∧ t.get (VALVE_STATUS_CONT v) = 0 ∧
      t.get (VALVE_BANK_STATUS_PEAK_BUSY (v.val / 8)) = 1 ∧ (t.chan v).item = some id.toNat ∧
      (t.chan v).hold = ms.toNat ∧ (∀ u, u ≠ v.val → t.chan u = s.chan u) ∧ t.bank = s.bank ∧
      SameRegs [VALVE_STATUS v, VALVE_BANK_STATUS (v.val / 8), VALVE_BANK_FAULT (v.val / 8)] s t ∧ t.log = s.log := by
  intro hw hrefuses hst hduty hsupply hqueue hfits hoff hrel
  rw [State.exec_valveTimed hw]
  have hstart : (s.touched (VALVE_CMD v)).valveStart v id.toNat false ms.toNat =
      (((s.touched (VALVE_CMD v)).admitted v id.toNat false ms.toNat).hsPut (v.val / 8) true).setVst v vPrearm := by
    rw [State.valveStart_idle (by rw [State.refuses_touched, hrefuses]) (by rw [State.vst_touched, hst]),
      State.newProfile_admits (by rw [on_touched, hduty]) (by rw [State.bankSupply_touched, hsupply])
        (by rw [State.bank_touched, hqueue]) (by rw [State.fits_touched, hfits]),
      State.letIn_eq (by rw [State.chan_touched, hrel]), if_neg (by rw [State.hsOn_admitted, State.hsOn_touched, hoff]; simp)]
  have hchan := s.chan_touched (VALVE_CMD v)
  have hbank := s.bank_touched (VALVE_CMD v)
  have hlog : (s.touched (VALVE_CMD v)).log = s.log := rfl
  have hback {l : List Nat} {t : State} (h : SameRegs l (s.touched (VALVE_CMD v)) t) : SameRegs l s t := h.of_touched
  rw [hstart]
  generalize s.touched (VALVE_CMD v) = u at *
  refine ⟨_, rfl, vst_setVst_same _ (by decide) _, ?_, ?_, ?_, State.peakBusy_setVst rfl (by decide), ?_, ?_, fun w hw => ?_,
    ?_, hback ?_, ?_⟩
  · rw [hsOn_setVst, hsPut, hsOn, State.on, get_putB_same _ _ _ (by simp)]
    rfl
  · rw [get_status_setVst _ rfl (by simp) (by simp), hsPut, get_putB_ne _ _ _ _ (by simp) (.inl statusApart.1.symm),
      State.get_admitted_item id.isLt]
  · rw [get_status_setVst _ rfl (by simp) (by simp), hsPut, get_putB_ne _ _ _ _ (by simp) (.inl statusApart.1.symm),
      State.get_admitted_cont]
    rfl
  · rw [chan_setVst_off _ rfl, hsPut, chan_congr (putB_valve ..), State.chan_admitted, State.admittedChan]
  · rw [chan_setVst_off _ rfl, hsPut, chan_congr (putB_valve ..), State.chan_admitted, State.admittedChan]
  · rw [chan_setVst_off _ rfl, hsPut, chan_congr (putB_valve ..), State.chan_admitted_ne hw, hchan]
  · rw [bank_setVst, hsPut, bank_congr (putB_valve ..), State.bank_admitted, hbank]
  · rw [sameRegs_setVst (fun _ h => h), hsPut, sameRegs_putB (by simp)]
    exact SameRegs.mono State.sameRegs_admitted (by simp)
  · rw [setVst_log, hsPut, putB_log]
    exact hlog

theorem exec_valveContinuous_rise (req : Nat) (v : Fin 96) (id : BitVec 8) (s : State) :
    Writes s req (VALVE_CMD v) (id ++ (0x80 : BitVec 8) ++ (0 : BitVec 16)) → s.refuses v = none → s.vst v = 0 →
    s.on (vsDutyLim v) = false → s.bankSupply (v.val / 8) = true → (s.bank (v.val / 8)).queue = [] → s.fits v = true →
    s.hsOn (v.val / 8) = true → (s.chan v).relItem = none → (s.chan v).decay = false →
    ∃ t, exec (.valveContinuous req v id) s = .next t ∧ t.vst v = 3 ∧ t.hsOn (v.val / 8) = true ∧
      t.get (VALVE_STATUS_ITEM_ID v) = id.toNat ∧ t.get (VALVE_STATUS_CONT v) = 1 ∧
      (t.chan v).item = some id.toNat ∧ (t.chan v).window = decide (s.get (VALVE_DETECT_DIP_THR v) ≠ 0) ∧
      (∀ u, u ≠ v.val → t.chan u = s.chan u) ∧ t.bank = s.bank ∧
      SameRegs [VALVE_STATUS v, VALVE_BANK_STATUS (v.val / 8), VALVE_BANK_FAULT (v.val / 8)] s t ∧ t.log = s.log := by
  intro hw hrefuses hst hduty hsupply hqueue hfits hon hrel hdecay
  rw [State.exec_valveContinuous hw]
  have hstart : (s.touched (VALVE_CMD v)).valveStart v id.toNat true 0 =
      (((s.touched (VALVE_CMD v)).admitted v id.toNat true 0).risen v).setVst v vRise := by
    rw [State.valveStart_idle (by rw [State.refuses_touched, hrefuses]) (by rw [State.vst_touched, hst]),
      State.newProfile_admits (by rw [on_touched, hduty]) (by rw [State.bankSupply_touched, hsupply])
        (by rw [State.bank_touched, hqueue]) (by rw [State.fits_touched, hfits]),
      State.letIn_eq (by rw [State.chan_touched, hrel]), if_pos (by rw [State.hsOn_admitted, State.hsOn_touched, hon]),
      State.riseStart_eq]
  have hchan := s.chan_touched (VALVE_CMD v)
  have hbank := s.bank_touched (VALVE_CMD v)
  have hthr := s.get_touched (VALVE_CMD v) (VALVE_DETECT_DIP_THR v)
  have hhs := s.hsOn_touched (VALVE_CMD v) (v.val / 8)
  have hlog : (s.touched (VALVE_CMD v)).log = s.log := rfl
  have hback {l : List Nat} {t : State} (h : SameRegs l (s.touched (VALVE_CMD v)) t) : SameRegs l s t := h.of_touched
  rw [hstart]
  generalize s.touched (VALVE_CMD v) = u at *
  have hsame : SameRegs (vstRegs v) u ((u.admitted v id.toNat true 0).risen v) :=
    (SameRegs.mono State.sameRegs_admitted (by simp)).next (SameRegs.mono State.sameRegs_risen (by simp))
  refine ⟨_, rfl, vst_setVst_same _ (by decide) _, ?_, ?_, ?_, ?_, ?_, fun w hw => ?_, ?_, hback ?_, ?_⟩
  · rw [hsOn_setVst, hsOn, on, State.get_risen (.inl statusApart.1), ← on, ← hsOn, State.hsOn_admitted, hhs, hon]
  · rw [get_status_setVst _ rfl (by simp) (by simp), State.get_risen (by simp), State.get_admitted_item id.isLt]
  · rw [get_status_setVst _ rfl (by simp) (by simp), State.get_risen (by simp), State.get_admitted_cont]
    rfl
  · rw [chan_setVst_on _ rfl, State.chan_risen, State.risenChan, State.chan_admitted, State.admittedChan]
  · have hthr' : (u.admitted v id.toNat true 0).get (VALVE_DETECT_DIP_THR v) = s.get (VALVE_DETECT_DIP_THR v) :=
      (State.sameRegs_admitted.get_eq (by simp [VALVE_DETECT, VALVE_STATUS])).trans hthr
    rw [chan_setVst_on _ rfl, State.chan_risen, State.risenChan, hthr', State.chan_admitted, State.admittedChan, hchan, hdecay]
    rfl
  · rw [chan_setVst_ne _ hw, State.chan_risen_ne hw, State.chan_admitted_ne hw, hchan]
  · rw [bank_setVst, State.bank_risen, State.bank_admitted, hbank]
  · exact (sameRegs_setVst (fun _ h => h)).mpr hsame
  · rw [setVst_log, State.risen_log]
    exact hlog

theorem exec_valveTimed_deferred (req : Nat) (v : Fin 96) (id : BitVec 8) (ms : BitVec 16) (s : State) :
    Writes s req (VALVE_CMD v) (id ++ (0x40 : BitVec 8) ++ ms) → s.refuses v = none → s.vst v = 0 →
    s.on (vsDutyLim v) = false → s.bankSupply (v.val / 8) = true → s.fits v = false →
    s.get (VALVE_PROFILE_DEFER_MS v) ≠ 0 →
    ∃ t, exec (.valveTimed req v id ms) s = .next t ∧ t.vst v = 1 ∧
      (t.bank (v.val / 8)).queue = (s.bank (v.val / 8)).queue ++ [v.val] ∧
      (t.chan v).deferred = some (id.toNat, false, ms.toNat) ∧ t.get (VALVE_STATUS_ITEM_ID v) = id.toNat ∧
      t.get (VALVE_BANK_STATS_DEFERRALS (v.val / 8)) = (s.get (VALVE_BANK_STATS_DEFERRALS (v.val / 8)) + 1) % 65536 ∧
      (t.bank (v.val / 8)).cq = (s.bank (v.val / 8)).cq ∧ (∀ u, u ≠ v.val → t.chan u = s.chan u) ∧
      SameRegs [VALVE_STATUS v, VALVE_BANK_STATS (v.val / 8), VALVE_BANK_STATUS (v.val / 8),
        VALVE_BANK_FAULT (v.val / 8)] s t ∧ t.log = s.log := by
  intro hw hrefuses hst hduty hsupply hfits hdefer
  rw [State.exec_valveTimed hw]
  have hstart : (s.touched (VALVE_CMD v)).valveStart v id.toNat false ms.toNat =
      (s.touched (VALVE_CMD v)).deferredBehind v id.toNat false ms.toNat := by
    rw [State.valveStart_idle (by rw [State.refuses_touched, hrefuses]) (by rw [State.vst_touched, hst]),
      State.newProfile, if_neg (by rw [on_touched, hduty]; simp), if_neg (by rw [State.bankSupply_touched, hsupply]; simp),
      if_neg (by rw [State.fits_touched, hfits]; simp), if_neg (by rw [get_touched]; exact hdefer)]
    rfl
  have hchan := s.chan_touched (VALVE_CMD v)
  have hbank := s.bank_touched (VALVE_CMD v)
  have hcount := s.get_touched (VALVE_CMD v) (VALVE_BANK_STATS_DEFERRALS (v.val / 8))
  have hlog : (s.touched (VALVE_CMD v)).log = s.log := rfl
  have hback {l : List Nat} {t : State} (h : SameRegs l (s.touched (VALVE_CMD v)) t) : SameRegs l s t := h.of_touched
  rw [hstart]
  generalize s.touched (VALVE_CMD v) = u at *
  have hq : ((u.deferredBehind v id.toNat false ms.toNat).bank (v.val / 8)) = { u.bank (v.val / 8) with
      queue := (u.bank (v.val / 8)).queue ++ [v.val] } := by
    rw [State.deferredBehind, bank_setVst, bank_congr (inc_valve ..), bank_congr (put_valve ..), bank_setChan,
      bank_setBank_same]
  refine ⟨_, rfl, vst_setVst_same _ (by decide) _, ?_, ?_, ?_, ?_, ?_, fun w hw => ?_, hback ?_, ?_⟩
  · rw [hq, hbank]
  · rw [State.deferredBehind, chan_setVst_off _ rfl, chan_congr (inc_valve ..), chan_congr (put_valve ..),
      chan_setChan_same]
  · rw [State.deferredBehind, get_status_setVst _ rfl (by simp) (by simp),
      get_inc_ne _ _ _ (by simp) (.inl (by simp [VALVE_STATUS, VALVE_BANK_STATS]; omega)), get_put_same _ _ _ (by simp)]
    exact Nat.mod_eq_of_lt id.isLt
  · rw [State.deferredBehind, get_setVst _ (by simp [VALVE_STATUS, VALVE_BANK_STATS, VALVE_BANK_STATUS, VALVE_BANK_FAULT]; omega),
      get_inc_same _ _ (by simp), get_put_ne _ _ _ _ (by simp) (.inl (by simp [VALVE_STATUS, VALVE_BANK_STATS]; omega)),
      get_setChan, get_setBank, hcount]
    rfl
  · rw [hq, hbank]
  · rw [State.deferredBehind, chan_setVst_ne _ hw, chan_congr (inc_valve ..), chan_congr (put_valve ..),
      chan_setChan_ne _ hw, chan_setBank, hchan]
  · rw [State.deferredBehind, sameRegs_setVst (by simp), sameRegs_inc (by simp), sameRegs_put (by simp), sameRegs_setChan,
      sameRegs_setBank]
    exact sameRegs_refl
  · rw [State.deferredBehind, setVst_log]
    exact hlog

theorem exec_valveTimed_undeferred (req : Nat) (v : Fin 96) (id : BitVec 8) (ms : BitVec 16) (s : State) :
    Writes s req (VALVE_CMD v) (id ++ (0x40 : BitVec 8) ++ ms) → s.refuses v = none → s.vst v = 0 →
    s.on (vsDutyLim v) = false → s.bankSupply (v.val / 8) = true → s.fits v = false →
    s.get (VALVE_PROFILE_DEFER_MS v) = 0 →
    ∃ t, exec (.valveTimed req v id ms) s = .next t ∧ ItemEnds v id.toNat 1 0x01 s t ∧ t.valve.chans = s.valve.chans ∧
      t.get (VALVE_BANK_STATS_DEFER_FAILS (v.val / 8)) = (s.get (VALVE_BANK_STATS_DEFER_FAILS (v.val / 8)) + 1) % 256 ∧
      SameRegs [VALVE_CQ (v.val / 8), VALVE_CQ_CTRL (v.val / 8), VALVE_BANK_STATS (v.val / 8)] s t ∧ t.log = s.log := by
  intro hw hrefuses hst hduty hsupply hfits hdefer
  rw [State.exec_valveTimed hw]
  have hstart : (s.touched (VALVE_CMD v)).valveStart v id.toNat false ms.toNat =
      (s.touched (VALVE_CMD v)).cqPush v id.toNat 1 0x01 := by
    rw [State.valveStart_idle (by rw [State.refuses_touched, hrefuses]) (by rw [State.vst_touched, hst]),
      State.newProfile, if_neg (by rw [on_touched, hduty]; simp), if_neg (by rw [State.bankSupply_touched, hsupply]; simp),
      if_neg (by rw [State.fits_touched, hfits]; simp), if_pos (by rw [get_touched]; exact hdefer)]
  rw [hstart]
  refine ⟨_, rfl, (itemEnds_cqPush ..).of_bank (s.bank_touched _), cqPush_chans .., ?_, ?_, cqPush_log ..⟩
  · rw [State.get_cqPush_deferFails, get_touched]
  · exact SameRegs.of_touched ((sameRegs_cqPush (by simp) (.inl (by simp))).mpr sameRegs_refl)

theorem exec_valveTimed_unsupplied (req : Nat) (v : Fin 96) (id : BitVec 8) (ms : BitVec 16) (s : State) :
    Writes s req (VALVE_CMD v) (id ++ (0x40 : BitVec 8) ++ ms) → s.refuses v = none → s.vst v = 0 →
    s.on (vsDutyLim v) = false → s.bankSupply (v.val / 8) = false →
    ∃ t, exec (.valveTimed req v id ms) s = .next t ∧ ItemEnds v id.toNat 1 0x02 s t ∧ t.valve.chans = s.valve.chans ∧
      SameRegs [VALVE_CQ (v.val / 8), VALVE_CQ_CTRL (v.val / 8), VALVE_BANK_STATS (v.val / 8)] s t ∧ t.log = s.log := by
  intro hw hrefuses hst hduty hsupply
  rw [State.exec_valveTimed hw]
  have hstart : (s.touched (VALVE_CMD v)).valveStart v id.toNat false ms.toNat =
      (s.touched (VALVE_CMD v)).cqPush v id.toNat 1 0x02 := by
    rw [State.valveStart_idle (by rw [State.refuses_touched, hrefuses]) (by rw [State.vst_touched, hst]),
      State.newProfile, if_neg (by rw [on_touched, hduty]; simp), if_pos (by rw [State.bankSupply_touched, hsupply]; rfl)]
  rw [hstart]
  exact ⟨_, rfl, (itemEnds_cqPush ..).of_bank (s.bank_touched _), cqPush_chans ..,
    SameRegs.of_touched ((sameRegs_cqPush (by simp) (.inl (by simp))).mpr sameRegs_refl), cqPush_log ..⟩

theorem exec_valveTimed_refused (req r : Nat) (v : Fin 96) (id : BitVec 8) (ms : BitVec 16) (s : State) :
    Writes s req (VALVE_CMD v) (id ++ (0x40 : BitVec 8) ++ ms) → s.refuses v = some r →
    ∃ t, exec (.valveTimed req v id ms) s = .next t ∧ ItemEnds v id.toNat 1 r s t ∧ t.valve.chans = s.valve.chans ∧
      SameRegs [VALVE_CQ (v.val / 8), VALVE_CQ_CTRL (v.val / 8)] s t ∧ t.log = s.log := by
  intro hw hrefuses
  rw [State.exec_valveTimed hw]
  have hstart : (s.touched (VALVE_CMD v)).valveStart v id.toNat false ms.toNat =
      (s.touched (VALVE_CMD v)).cqPush v id.toNat 1 r := by
    rw [State.valveStart, State.refuses_touched, hrefuses]
  have hreason : ¬ (1 = 1 ∧ (r = 1 ∨ r = 2)) := by
    have := State.refuses_reason hrefuses
    omega
  rw [hstart]
  exact ⟨_, rfl, (itemEnds_cqPush ..).of_bank (s.bank_touched _), cqPush_chans ..,
    SameRegs.of_touched ((sameRegs_cqPush (by simp) (.inr hreason)).mpr sameRegs_refl), cqPush_log ..⟩

theorem exec_valveTimed_extends (req old : Nat) (v : Fin 96) (id : BitVec 8) (ms : BitVec 16) (s : State) :
    Writes s req (VALVE_CMD v) (id ++ (0x40 : BitVec 8) ++ ms) → s.refuses v = none → s.vst v = 5 →
    s.on (vsDutyLim v) = false → s.on (VALVE_STATUS_CONT v) = false → (s.chan v).item = some old →
    ∃ t, exec (.valveTimed req v id ms) s = .next t ∧ t.vst v = 5 ∧ t.chan v = { s.chan v with
        item := some id.toNat, holdEnd := max (s.chan v).holdEnd (s.tim.mono + 1000 * ms.toNat) } ∧
      t.get (VALVE_STATUS_ITEM_ID v) = id.toNat ∧ ItemEnds v old 2 0x01 s t ∧
      (∀ u, u ≠ v.val → t.chan u = s.chan u) ∧
      SameRegs [VALVE_STATUS v, VALVE_CQ (v.val / 8), VALVE_CQ_CTRL (v.val / 8)] s t ∧ t.log = s.log := by
  intro hw hrefuses hst hduty hcont hitem
  rw [State.exec_valveTimed hw]
  have hstart : (s.touched (VALVE_CMD v)).valveStart v id.toNat false ms.toNat =
      (((s.touched (VALVE_CMD v)).cqPush v old 2 0x01).put (VALVE_STATUS_ITEM_ID v) id.toNat).setChan v { s.chan v with
        item := some id.toNat, holdEnd := max (s.chan v).holdEnd (s.tim.mono + 1000 * ms.toNat) } := by
    have hnow : (((s.touched (VALVE_CMD v)).cqPush v old 2 0x01).put (VALVE_STATUS_ITEM_ID v) id.toNat).on
        (VALVE_STATUS_CONT v) = false := by
      rw [on_put_ne _ _ _ _ (by simp) (by simp), on, get_status_cqPush _ _ _ _ _ rfl, get_touched]
      exact hcont
    have hid : (s.touched (VALVE_CMD v)).itemId v = old := by rw [itemId, State.chan_touched, hitem, Option.getD_some]
    have hst' : (s.touched (VALVE_CMD v)).vst v = vHold := (s.vst_touched _ _).trans hst
    rw [State.valveStart, State.refuses_touched, hrefuses]
    dsimp only
    rw [hst', if_neg (by decide), on_touched, if_neg (by simp [hduty]), if_neg (by decide), if_pos rfl, hid,
      if_neg (by rw [hnow]; simp), if_neg (by simp), State.chan_touched]
    rfl
  have hlog : (s.touched (VALVE_CMD v)).log = s.log := rfl
  rw [hstart]
  refine ⟨_, rfl, ?_, chan_setChan_same .., ?_, ?_, fun w hw => ?_, ?_, ?_⟩
  · rw [vst_setChan, vst, get_put_ne _ _ _ _ (by simp) (by simp), get_status_cqPush _ _ _ _ _ rfl, get_touched]
    exact hst
  · rw [get_setChan, get_put_same _ _ _ (by simp)]
    exact Nat.mod_eq_of_lt id.isLt
  · refine ((itemEnds_cqPush ..).of_bank (s.bank_touched (VALVE_CMD v))).to_bank ?_
    funext b
    rw [bank_setChan, bank_congr (put_valve ..)]
  · rw [chan_setChan_ne _ hw, chan_congr (put_valve ..), chan_cqPush, State.chan_touched]
  · rw [sameRegs_setChan, sameRegs_put (by simp), sameRegs_cqPush (by simp) (.inr (by decide))]
    exact s.sameRegs_touched _
  · rw [setChan_log, put_log, cqPush_log, hlog]

theorem exec_valveStop_releases (req it : Nat) (v : Fin 96) (id : BitVec 8) (s : State) :
    Writes s req (VALVE_CMD v) (id ++ (0xC0 : BitVec 8) ++ (0 : BitVec 16)) → s.refuses v = none →
    (s.vst v = 3 ∨ s.vst v = 4 ∨ s.vst v = 5) → (s.chan v).window = false → (s.chan v).probeDue = 0 →
    (s.chan v).verdict = none → (s.chan v).item = some it → (s.bank (v.val / 8)).queue = [] →
    ∃ t, exec (.valveStop req v id) s = .next t ∧ t.vst v = 6 ∧ (t.chan v).relItem = some (it, 0, 0) ∧
      (t.chan v).decay = true ∧ ItemEnds v id.toNat 0 0 s t ∧ (∀ u, u ≠ v.val → t.chan u = s.chan u) ∧
      SameRegs [VALVE_STATUS v, VALVE_BANK_STATUS (v.val / 8), VALVE_BANK_FAULT (v.val / 8), VALVE_CQ (v.val / 8),
        VALVE_CQ_CTRL (v.val / 8)] s t ∧ t.log = s.log := by
  intro hw hrefuses hst hwindow hprobe hverdict hitem hqueue
  rw [State.exec_valveStop hw]
  have hchan := s.chan_touched (VALVE_CMD v)
  have hbank := s.bank_touched (VALVE_CMD v)
  have hrelease : (s.touched (VALVE_CMD v)).release v none = (s.touched (VALVE_CMD v)).released v it (0, 0) :=
    release_done (by rw [hchan, hwindow]) (by rw [hchan, hitem]) (by rw [hbank, hqueue]) (by rw [hchan, hprobe])
      (by rw [hchan, hverdict])
  have hstop : (s.touched (VALVE_CMD v)).valveStop v id.toNat =
      ((s.touched (VALVE_CMD v)).released v it (0, 0)).cqPush v id.toNat 0 0 := by
    rw [State.valveStop, State.refuses_touched, State.vst_touched, hrefuses, hrelease]
    rcases hst with h | h | h <;> rw [h] <;> rfl
  have hlog : (s.touched (VALVE_CMD v)).log = s.log := rfl
  have hback {l : List Nat} {t : State} (h : SameRegs l (s.touched (VALVE_CMD v)) t) : SameRegs l s t := h.of_touched
  rw [hstop]
  generalize s.touched (VALVE_CMD v) = u at *
  refine ⟨_, rfl, ?_, ?_, ?_, (itemEnds_cqPush ..).of_bank (released_bank.trans hbank), fun w hw => ?_, hback ?_, ?_⟩
  · rw [vst_cqPush, released_vst]
  · rw [chan_cqPush, released_chan, releasedChan]
  · rw [chan_cqPush, released_chan, releasedChan]
  · rw [chan_cqPush, released_chan_ne hw, hchan]
  · rw [sameRegs_cqPush (by simp) (.inr (by decide))]
    exact SameRegs.mono (sameRegs_released.mpr sameRegs_refl) (by simp +contextual)
  · rw [cqPush_log, released_log, hlog]

theorem exec_valveStop_idle (req : Nat) (v : Fin 96) (id : BitVec 8) (s : State) :
    Writes s req (VALVE_CMD v) (id ++ (0xC0 : BitVec 8) ++ (0 : BitVec 16)) →
    (s.vst v = 0 ∨ s.vst v = 6 ∨ s.vst v = 7 ∨ s.vst v = 8 ∨ s.refuses v ≠ none) →
    ∃ t, exec (.valveStop req v id) s = .next t ∧ ItemEnds v id.toNat 0 0 s t ∧ t.valve.chans = s.valve.chans ∧
      SameRegs [VALVE_CQ (v.val / 8), VALVE_CQ_CTRL (v.val / 8)] s t ∧ t.log = s.log := by
  intro hw h
  rw [State.exec_valveStop hw]
  have hstop : (s.touched (VALVE_CMD v)).valveStop v id.toNat = (s.touched (VALVE_CMD v)).cqPush v id.toNat 0 0 := by
    rw [State.valveStop, State.refuses_touched, State.vst_touched]
    rcases h with h | h | h | h | h
    · simp [h, vDeferred, vPrearm, isOn, vRise, vPeak, vHold]
    · simp [h, vDeferred, vPrearm, isOn, vRise, vPeak, vHold]
    · simp [h, vDeferred, vPrearm, isOn, vRise, vPeak, vHold]
    · simp [h, vDeferred, vPrearm, isOn, vRise, vPeak, vHold]
    · simp [Option.isSome_iff_ne_none.mpr h]
  rw [hstop]
  exact ⟨_, rfl, (itemEnds_cqPush ..).of_bank (s.bank_touched _), cqPush_chans ..,
    SameRegs.of_touched ((sameRegs_cqPush (by simp) (.inr (by decide))).mpr sameRegs_refl), cqPush_log ..⟩

/-- Settles O50: each clause is one of the lemmas on the admission, the deferral, the failure and the end of a command. -/
theorem valveCommands : Obligations.ValveCommands :=
  ⟨exec_valveTimed_prearm, exec_valveContinuous_rise, exec_valveTimed_deferred, exec_valveTimed_undeferred,
    exec_valveTimed_unsupplied, exec_valveTimed_refused, exec_valveTimed_extends, exec_valveStop_releases,
    exec_valveStop_idle⟩

end Sys2Proof.Machine
end

section
/-! PROOFS. Disabling and enabling of banks and channels, the completion queue and the stage budget (R366 to R374). -/

namespace Sys2Proof.Machine

open Reg State

theorem mem_bankChans {b v : Nat} : v ∈ bankChans b ↔ v / 8 = b := by
  simp only [bankChans, List.mem_map, List.mem_range]
  constructor
  · rintro ⟨c, hc, rfl⟩
    omega
  · rintro rfl
    exact ⟨v % 8, by omega, by omega⟩

theorem nodup_bankChans (b : Nat) : (bankChans b).Nodup := by
  rw [bankChans, List.nodup_map_iff_inj_on List.nodup_range]
  intro x _ y _ h
  omega

namespace State

/-! ### The channels of a bank set one after another (R368) -/

/-- The channels of a list are in the states `g` names; the others, and what else a bank has, are as before. -/
structure ChansSet (l : List Nat) (g : Nat → Nat) (s t : State) : Prop where
  inside : ∀ v ∈ l, t.vst v = g v
  byBank : ∀ v ∈ l, t.get (vsByBank v) =
    if g v = vDisabled && s.on (VALVE_BANK_FAULT_BANK_DISABLED (v / 8)) then 1 else 0
  outside : ∀ v, v ∉ l → t.vst v = s.vst v ∧ t.get (vsByBank v) = s.get (vsByBank v)
  bank : t.bank = s.bank
  log : t.log = s.log
  pwr : t.pwr = s.pwr
  hsOn : ∀ b, t.hsOn b = s.hsOn b
  disabled : ∀ b, t.on (VALVE_BANK_FAULT_BANK_DISABLED b) = s.on (VALVE_BANK_FAULT_BANK_DISABLED b)

theorem byBank_setVst_ne (s : State) {v u : Nat} (h : u ≠ v) (st : Nat) :
    (s.setVst v st).get (vsByBank u) = s.get (vsByBank u) := by
  refine s.get_setVst ?_
  simp [vsByBank, VALVE_STATUS, VALVE_BANK_STATUS, VALVE_BANK_FAULT]
  omega

/-- Steps that each set one channel's state, where `I` says of a channel that its step does (R368). -/
theorem each_setVst {f : State → Nat → State} {g : Nat → Nat} {I : State → Nat → Prop} (hg : ∀ v, g v < 16)
    (hf : ∀ t v, I t v → f t v = t.setVst v (g v)) (hI : ∀ t v u, u ≠ v → I t u → I (t.setVst v (g v)) u) {l : List Nat}
    (hl : l.Nodup) (s : State) (h : ∀ v ∈ l, I s v) : ChansSet l g s (s.each l f) := by
  induction l generalizing s with
  | nil => exact ⟨by simp, by simp, fun _ _ => ⟨rfl, rfl⟩, rfl, rfl, rfl, fun _ => rfl, fun _ => rfl⟩
  | cons v l ih =>
    obtain ⟨hv, hl⟩ := List.nodup_cons.mp hl
    have hne (u : Nat) (hu : u ∈ l) : u ≠ v := fun e => hv (e ▸ hu)
    have hhead : s.each (v :: l) f = (s.setVst v (g v)).each l f := by
      rw [← hf s v (h v (by simp))]
      rfl
    have htail := ih hl (s.setVst v (g v)) fun u hu => hI s v u (hne u hu) (h u (by simp [hu]))
    rw [hhead]
    refine ⟨?_, ?_, ?_, ?_, ?_, ?_, ?_, ?_⟩
    · intro u hu
      rcases List.mem_cons.mp hu with rfl | hu
      · rw [(htail.outside u hv).1, vst_setVst_same _ (hg u)]
      · exact htail.inside u hu
    · intro u hu
      rcases List.mem_cons.mp hu with rfl | hu
      · rw [(htail.outside u hv).2, byBank_setVst]
      · rw [htail.byBank u hu, bankDisabled_setVst]
    · intro u hu
      obtain ⟨hne, hu⟩ := not_or.mp (List.mem_cons.not.mp hu)
      rw [(htail.outside u hu).1, (htail.outside u hu).2, vst_setVst_ne _ hne, byBank_setVst_ne _ hne]
      exact ⟨rfl, rfl⟩
    · rw [htail.bank, bank_setVst]
    · rw [htail.log, setVst_log]
    · rw [htail.pwr, setVst_pwr]
    · intro b
      rw [htail.hsOn, hsOn_setVst]
    · intro b
      rw [htail.disabled, bankDisabled_setVst]

section Channels
variable {s : State} {v : Nat}

theorem settle_idle (h : s.vst v = 0) (cancel fail : Nat) : s.settle v cancel fail = s := by
  rw [settle, h]
  rfl

theorem channelOff_idle (h : s.vst v = 0) : s.channelOff v = s.setVst v vDisabled := by
  rw [channelOff, settle_idle h, ite_self]

theorem channelOn_disabled (h : s.vst v = 8) (htests : s.rel.tests = []) :
    s.channelOn v = s.setVst v (if s.get (vsFault v) ≠ 0 then vFaulted else vIdle) := by
  rw [channelOn, if_pos (show s.vst v = vDisabled from h), stageStart_idle (by rw [setVst_rel]; exact htests)]

/-- What an enabled bank does with a channel, and the state it leaves (R368). -/
def enableStep (t : State) (v : Nat) : State := if (t.chan v).disSelf then t.setVst v vDisabled else t.channelOn v
def enabledVst (s : State) (v : Nat) : Nat := if (s.chan v).disSelf then vDisabled else vIdle

theorem bankEnable_eq (b : Nat) : s.bankEnable b =
    (((s.putB (VALVE_BANK_FAULT_BANK_DISABLED b) false).each (bankChans b) enableStep).bankShow b).ev (portValve b) 0x3009 b
      0xFF00 := rfl

end Channels

end State

theorem exec_valveBankDisable_disables (req : Nat) (b : Fin 12) (s : State) :
    Writes s req (VALVE_BANK_CTRL b) 0x7A1E0001 → (s.bank b).queue = [] →
    (∀ c, c < 8 → s.vst (8 * b.val + c) = 0) → Room s (portValve b) →
    ∃ t, exec (.valveBankDisable req b) s = .next t ∧ t.get (VALVE_BANK_FAULT_BANK_DISABLED b) = 1 ∧ t.hsOn b = false ∧
      (∀ c, c < 8 → t.vst (8 * b.val + c) = 8 ∧ t.get (vsByBank (8 * b.val + c)) = 1) ∧
      (t.bank b).cq = (s.bank b).cq ∧ (∀ v, v / 8 ≠ b.val → t.vst v = s.vst v) ∧
      Logged (portValve b) 0x3009 b 0xFF01 0 s t := by
  intro hw hqueue hidle hroom
  have hexec : exec (.valveBankDisable req b) s = .next ((s.touched (VALVE_BANK_CTRL b)).bankDisable b) :=
    congrArg Host.Outcome.next ((State.writeAt_bankCtrl hw).trans rfl)
  rw [hexec]
  have hst (v : Nat) (hv : v ∈ bankChans b) : (s.touched (VALVE_BANK_CTRL b)).vst v = 0 := by
    rw [State.vst_touched, ← hidle (v % 8) (by omega), show 8 * b.val + v % 8 = v by rw [← mem_bankChans.mp hv]; omega]
  have hothers (v : Nat) : (s.touched (VALVE_BANK_CTRL b)).vst v = s.vst v := s.vst_touched _ v
  have hbank := s.bank_touched (VALVE_BANK_CTRL b)
  have hlog : (s.touched (VALVE_BANK_CTRL b)).log = s.log := rfl
  have hpwr : (s.touched (VALVE_BANK_CTRL b)).pwr = s.pwr := rfl
  generalize s.touched (VALVE_BANK_CTRL b) = u at *
  obtain ⟨t, ht⟩ : ∃ t, t = u.putB (VALVE_BANK_FAULT_BANK_DISABLED b) true := ⟨_, rfl⟩
  have htst (v : Nat) : t.vst v = u.vst v := by
    rw [ht, State.vst, get_putB_ne _ _ _ _ (by simp) (.inl statusApart.2.symm), State.vst]
  have htdis : t.on (VALVE_BANK_FAULT_BANK_DISABLED b) = true := by
    rw [ht, on, get_putB_same _ _ _ (by simp)]
    rfl
  have hsettled : t.settleBank b 0x03 0x16 = (t.hsPut b false).bankShow b := by
    have hq : (t.bank b).queue = [] := by rw [ht, bank_congr (putB_valve ..), hbank, hqueue]
    rw [State.settleBank, hq]
    have hall : t.each (bankChans b) (fun x v => x.settle v 0x03 0x16) = t :=
      State.each_fixed fun v hv => State.settle_idle (by rw [htst, hst v hv]) _ _
    exact congrArg (fun x : State => (x.hsPut b false).bankShow b) hall
  obtain ⟨w, hwdef⟩ : ∃ w, w = (t.hsPut b false).bankShow b := ⟨_, rfl⟩
  have hwst (v : Nat) : w.vst v = u.vst v := by
    rw [hwdef, vst_bankShow, hsPut, State.vst, get_putB_ne _ _ _ _ (by simp) (.inl statusApart.1.symm), ← State.vst, htst]
  have hset : ChansSet (bankChans b) (fun _ => vDisabled) w (w.each (bankChans b) State.channelOff) :=
    State.each_setVst (I := fun x v => x.vst v = 0) (fun _ => by decide) (fun x v h => State.channelOff_idle h)
      (fun x v c hc h => by rw [vst_setVst_ne _ hc, h]) (nodup_bankChans b) w (fun v hv => by rw [hwst, hst v hv])
  have hwoff : w.hsOn b = false := by
    rw [hwdef, hsOn_bankShow, hsPut, hsOn, on, get_putB_same _ _ _ (by simp)]
    rfl
  have hwdis : w.on (VALVE_BANK_FAULT_BANK_DISABLED b) = true := by
    rw [hwdef, bankDisabled_bankShow, hsPut, on_putB_ne _ _ _ _ (by simp) (.inl (by simp)), htdis]
  have hwlog : w.log = s.log := by
    rw [hwdef, bankShow_log, hsPut, putB_log, ht, putB_log, hlog]
  have hwpwr : w.pwr = s.pwr := by
    rw [hwdef, bankShow_pwr, hsPut, putB_pwr, ht, putB_pwr, hpwr]
  have hwbank : w.bank = s.bank := by
    rw [hwdef, bank_bankShow, hsPut, bank_congr (putB_valve ..), ht, bank_congr (putB_valve ..), hbank]
  have hdone : u.bankDisable b = (w.each (bankChans b) State.channelOff).ev (portValve b) 0x3009 b 0xFF01 := by
    rw [State.bankDisable, ← ht, hsettled, ← hwdef]
  rw [hdone]
  generalize w.each (bankChans b) State.channelOff = x at *
  have hxroom : Room x (portValve b) := hroom.of_log (hset.log.trans hwlog) (hset.pwr.trans hwpwr)
  rw [ev_of_room hxroom]
  refine ⟨_, rfl, ?_, ?_, fun c hc => ⟨?_, ?_⟩, ?_, fun v hv => ?_, ?_⟩
  · rw [get_wrote]
    exact get_eq_one_of_on _ rfl ((hset.disabled b).trans hwdis)
  · rw [hsOn, on_wrote, ← hsOn, hset.hsOn, hwoff]
  · rw [State.vst, get_wrote]
    exact hset.inside _ (mem_bankChans.mpr (by omega))
  · rw [get_wrote, hset.byBank _ (mem_bankChans.mpr (by omega)), show (8 * b.val + c) / 8 = b.val by omega, hwdis]
    rfl
  · rw [bank_wrote, hset.bank, hwbank]
  · rw [State.vst, get_wrote]
    exact ((hset.outside v (fun h => hv (mem_bankChans.mp h))).1.trans (hwst v)).trans (hothers v)
  · exact Logged.from_log (logged_wrote ..) (hset.log.trans hwlog)

theorem exec_valveBankEnable_enables (req : Nat) (b : Fin 12) (s : State) :
    Writes s req (VALVE_BANK_CTRL b) 0x7A1E0002 → s.rel.tests = [] →
    (∀ c, c < 8 → s.vst (8 * b.val + c) = 8 ∧ s.get (vsFault (8 * b.val + c)) = 0 ∧
      (s.chan (8 * b.val + c)).decay = false) → Room s (portValve b) →
    ∃ t, exec (.valveBankEnable req b) s = .next t ∧ t.get (VALVE_BANK_FAULT_BANK_DISABLED b) = 0 ∧
      (∀ c, c < 8 → t.vst (8 * b.val + c) = (if (s.chan (8 * b.val + c)).disSelf then 8 else 0)) ∧
      (∀ v, v / 8 ≠ b.val → t.vst v = s.vst v) ∧ Logged (portValve b) 0x3009 b 0xFF00 0 s t := by
  intro hw htests hchans hroom
  have hact : bits (0x7A1E0002 : Word) 3 0 = 2 := by decide
  have hexec : exec (.valveBankEnable req b) s = .next ((s.touched (VALVE_BANK_CTRL b)).bankEnable b) := by
    refine congrArg Host.Outcome.next ((State.writeAt_bankCtrl hw).trans ?_)
    rw [State.bankEffect, if_pos rfl, hact]
    rfl
  rw [hexec]
  have hold (v : Nat) (hv : v ∈ bankChans b) : (s.touched (VALVE_BANK_CTRL b)).vst v = 8 ∧
      (s.touched (VALVE_BANK_CTRL b)).get (vsFault v) = 0 := by
    have hcv : 8 * b.val + v % 8 = v := by
      rw [← mem_bankChans.mp hv]
      omega
    obtain ⟨hst, hfault, -⟩ := hchans (v % 8) (by omega)
    rw [State.vst_touched, get_touched, ← hcv, hst, hfault]
    exact ⟨rfl, rfl⟩
  have hothers (v : Nat) : (s.touched (VALVE_BANK_CTRL b)).vst v = s.vst v := s.vst_touched _ v
  have hchan := s.chan_touched (VALVE_BANK_CTRL b)
  have hlog : (s.touched (VALVE_BANK_CTRL b)).log = s.log := rfl
  have hpwr : (s.touched (VALVE_BANK_CTRL b)).pwr = s.pwr := rfl
  have hrel : (s.touched (VALVE_BANK_CTRL b)).rel.tests = [] := htests
  generalize s.touched (VALVE_BANK_CTRL b) = u at *
  obtain ⟨w, hwdef⟩ : ∃ w, w = u.putB (VALVE_BANK_FAULT_BANK_DISABLED b) false := ⟨_, rfl⟩
  have hwst (v : Nat) : w.vst v = u.vst v := by
    rw [hwdef, State.vst, get_putB_ne _ _ _ _ (by simp) (.inl statusApart.2.symm), State.vst]
  have hwfault (v : Nat) : w.get (vsFault v) = u.get (vsFault v) := by
    rw [hwdef, get_putB_ne _ _ _ _ (by simp) (.inl statusApart.2.symm)]
  have hwdis : w.on (VALVE_BANK_FAULT_BANK_DISABLED b) = false := by
    rw [hwdef, on, get_putB_same _ _ _ (by simp)]
    rfl
  have hwlog : w.log = s.log := by rw [hwdef, putB_log, hlog]
  have hwpwr : w.pwr = s.pwr := by rw [hwdef, putB_pwr, hpwr]
  have hwrel : w.rel.tests = [] := by rw [hwdef, putB_rel, hrel]
  have hwchan (v : Nat) : w.chan v = s.chan v := by rw [hwdef, chan_congr (putB_valve ..), hchan]
  have hset : ChansSet (bankChans b) s.enabledVst w
      (w.each (bankChans b) State.enableStep) := by
    refine State.each_setVst (I := fun x v => x.vst v = 8 ∧ x.get (vsFault v) = 0 ∧ x.chan v = s.chan v ∧ x.rel.tests = [])
      (fun v => ?_) (fun x v h => ?_) (fun x v c hc h => ?_) (nodup_bankChans b) w (fun v hv => ?_)
    · rw [State.enabledVst]
      split <;> decide
    · obtain ⟨hst, hfault, hc, hr⟩ := h
      rw [State.enableStep, State.enabledVst, hc]
      split
      · rfl
      · rw [State.channelOn_disabled hst hr, hfault]
        rfl
    · obtain ⟨hst, hfault, hch, hr⟩ := h
      have hidle : isOn (s.enabledVst v) = false := by
        rw [State.enabledVst]
        split <;> rfl
      refine ⟨by rw [vst_setVst_ne _ hc, hst], ?_, by rw [chan_setVst_off _ hidle, hch], by rw [setVst_rel, hr]⟩
      rw [get_setVst _ (by simp [vsFault, VALVE_STATUS, VALVE_BANK_STATUS, VALVE_BANK_FAULT]; omega), hfault]
    · obtain ⟨hst, hfault⟩ := hold v hv
      exact ⟨(hwst v).trans hst, (hwfault v).trans hfault, hwchan v, hwrel⟩
  have hdone : u.bankEnable b = ((w.each (bankChans b) State.enableStep).bankShow b).ev (portValve b) 0x3009 b 0xFF00 := by
    rw [State.bankEnable_eq, ← hwdef]
  rw [hdone]
  generalize w.each (bankChans b) State.enableStep = x at *
  have hxlog : (x.bankShow b).log = s.log := (bankShow_log ..).trans (hset.log.trans hwlog)
  have hxroom : Room (x.bankShow b) (portValve b) :=
    hroom.of_log hxlog ((bankShow_pwr ..).trans (hset.pwr.trans hwpwr))
  rw [ev_of_room hxroom]
  refine ⟨_, rfl, ?_, fun c hc => ?_, fun v hv => ?_, Logged.from_log (logged_wrote ..) hxlog⟩
  · rw [get_wrote]
    exact get_eq_zero_of_off _ ((bankDisabled_bankShow ..).trans ((hset.disabled b).trans hwdis))
  · rw [State.vst, get_wrote, ← State.vst, vst_bankShow, hset.inside _ (mem_bankChans.mpr (by omega)), State.enabledVst, vDisabled, vIdle]
  · rw [State.vst, get_wrote, ← State.vst, vst_bankShow]
    exact ((hset.outside v (fun h => hv (mem_bankChans.mp h))).1.trans (hwst v)).trans (hothers v)

namespace State

section ChannelWords
variable {s : State} {req : Nat} {v : Fin 96}

/-- ACTION 3 of VALVE_BANK_CTRL (R368). -/
theorem exec_valveChannelDisable (h : Writes s req (VALVE_BANK_CTRL (v.val / 8)) (BitVec.ofNat 32 (0x7A1E0003 + 16 * (v.val % 8)))) :
    exec (.valveChannelDisable req v) s = .next ((s.touched (VALVE_BANK_CTRL (v.val / 8))).channelDisable v) := by
  obtain ⟨⟨hact, hch⟩, -⟩ := State.bankWord_fields ⟨v.val % 8, by omega⟩
  have hv : 8 * (v.val / 8) + v.val % 8 = v.val := by omega
  have hword : (BitVec.ofNat 32 (0x7A1E0003 + 16 * (v.val % 8)) : Word) = 0x7A1E0003 + BitVec.ofNat 32 (16 * (v.val % 8)) :=
    BitVec.ofNat_add ..
  rw [hword] at h
  refine congrArg Host.Outcome.next ((State.writeAt_bankCtrl (b := bankOf v) h).trans ?_)
  rw [State.bankEffect, if_pos rfl]
  dsimp only
  rw [hact, hch]
  exact congrArg (State.channelDisable _) hv

/-- ACTION 4 of VALVE_BANK_CTRL (R368). -/
theorem exec_valveChannelEnable (h : Writes s req (VALVE_BANK_CTRL (v.val / 8)) (BitVec.ofNat 32 (0x7A1E0004 + 16 * (v.val % 8)))) :
    exec (.valveChannelEnable req v) s = .next ((s.touched (VALVE_BANK_CTRL (v.val / 8))).channelEnable v) := by
  obtain ⟨-, ⟨hact, hch⟩, -⟩ := State.bankWord_fields ⟨v.val % 8, by omega⟩
  have hv : 8 * (v.val / 8) + v.val % 8 = v.val := by omega
  have hword : (BitVec.ofNat 32 (0x7A1E0004 + 16 * (v.val % 8)) : Word) = 0x7A1E0004 + BitVec.ofNat 32 (16 * (v.val % 8)) :=
    BitVec.ofNat_add ..
  rw [hword] at h
  refine congrArg Host.Outcome.next ((State.writeAt_bankCtrl (b := bankOf v) h).trans ?_)
  rw [State.bankEffect, if_pos rfl]
  dsimp only
  rw [hact, hch]
  exact congrArg (State.channelEnable _) hv

end ChannelWords

end State

namespace State

section ChannelOff
variable {s : State} {v : Nat}

/-- The channel's record as it is disabled on its own account (R368). -/
def disabledChan (s : State) (v : Nat) : Channel := { s.chan v with disSelf := true }

/-- The channel's record as it is enabled again (R368). -/
def enabledChan (s : State) (v : Nat) : Channel := { s.chan v with disSelf := false }

theorem channelEnable_eq : s.channelEnable v =
    (if (s.setChan v (s.enabledChan v)).on (VALVE_BANK_FAULT_BANK_DISABLED (v / 8)) then s.setChan v (s.enabledChan v)
      else (s.setChan v (s.enabledChan v)).channelOn v).ev (portValve (v / 8)) 0x3009 (v / 8) (v % 8 * 256) := rfl

/-- A channel that is disabled, in a bank where no command waits (R368). -/
theorem channelDisable_eq {x : State} (hoff : (s.setChan v (s.disabledChan v)).channelOff v = x)
    (hqueue : (x.bank (v / 8)).queue = []) (hlog : x.log = s.log) (hpwr : x.pwr = s.pwr) (hroom : Room s (portValve (v / 8))) :
    s.channelDisable v = (x.bankShow (v / 8)).wrote (portValve (v / 8))
      (record 0x3009 (v / 8) (v % 8 * 256 + 1) 0 false) := by
  have hroom' : Room (x.bankShow (v / 8)) (portValve (v / 8)) := hroom.of_log hlog hpwr
  rw [← ev_of_room hroom', ← serve_idle hqueue, ← hoff]
  rfl

end ChannelOff

end State

theorem exec_valveChannelDisable_idle (req : Nat) (v : Fin 96) (s : State) :
    Writes s req (VALVE_BANK_CTRL (v.val / 8)) (BitVec.ofNat 32 (0x7A1E0003 + 16 * (v.val % 8))) → s.vst v = 0 →
    (s.bank (v.val / 8)).queue = [] → Room s (portValve (v.val / 8)) →
    ∃ t, exec (.valveChannelDisable req v) s = .next t ∧ t.vst v = 8 ∧ t.chan v = { s.chan v with disSelf := true } ∧
      (∀ u, u ≠ v.val → t.chan u = s.chan u) ∧
      SameRegs [VALVE_STATUS v, VALVE_BANK_STATUS (v.val / 8), VALVE_BANK_FAULT (v.val / 8)] s t ∧
      Logged (portValve (v.val / 8)) 0x3009 (v.val / 8) (v.val % 8 * 256 + 1) 0 s t := by
  intro hw hst hqueue hroom
  rw [State.exec_valveChannelDisable hw]
  have hst' := (s.vst_touched (VALVE_BANK_CTRL (v.val / 8)) v).trans hst
  have hchan := s.chan_touched (VALVE_BANK_CTRL (v.val / 8))
  have hbank := s.bank_touched (VALVE_BANK_CTRL (v.val / 8))
  have hlog : (s.touched (VALVE_BANK_CTRL (v.val / 8))).log = s.log := rfl
  have hroom' : Room (s.touched (VALVE_BANK_CTRL (v.val / 8))) (portValve (v.val / 8)) := hroom.of_log rfl rfl
  have hback {l : List Nat} {t : State} (h : SameRegs l (s.touched (VALVE_BANK_CTRL (v.val / 8))) t) : SameRegs l s t :=
    h.of_touched
  generalize s.touched (VALVE_BANK_CTRL (v.val / 8)) = u at *
  have hq : ((((u.setChan v (u.disabledChan v)).setVst v vDisabled).bank (v.val / 8)).queue) = [] := by
    rw [bank_setVst, bank_setChan, hbank, hqueue]
  rw [State.channelDisable_eq (State.channelOff_idle (by rw [vst_setChan, hst'])) hq (setVst_log ..) (setVst_pwr ..) hroom']
  refine ⟨_, rfl, ?_, ?_, fun w hw => ?_, hback ?_, ?_⟩
  · rw [State.vst, get_wrote, ← State.vst, vst_bankShow, vst_setVst_same _ (by decide)]
    rfl
  · rw [chan_wrote, chan_bankShow, chan_setVst_off _ rfl, chan_setChan_same, State.disabledChan, hchan]
  · rw [chan_wrote, chan_bankShow, chan_setVst_off _ rfl, chan_setChan_ne _ hw, hchan]
  · rw [sameRegs_wrote, sameRegs_bankShow (by simp), sameRegs_setVst (fun _ h => h), sameRegs_setChan]
    exact sameRegs_refl
  · exact Logged.from_log (logged_wrote ..) ((bankShow_log ..).trans ((setVst_log ..).trans hlog))

theorem exec_valveChannelDisable_hold (req it : Nat) (v : Fin 96) (s : State) :
    Writes s req (VALVE_BANK_CTRL (v.val / 8)) (BitVec.ofNat 32 (0x7A1E0003 + 16 * (v.val % 8))) → s.vst v = 5 →
    (s.chan v).window = false → (s.chan v).probeDue = 0 → (s.chan v).item = some it → (s.bank (v.val / 8)).queue = [] →
    Room s (portValve (v.val / 8)) →
    ∃ t, exec (.valveChannelDisable req v) s = .next t ∧ t.vst v = 8 ∧ (t.chan v).relItem = some (it, 1, 0x16) ∧
      (t.chan v).decay = true ∧ (t.chan v).disSelf = true ∧
      Logged (portValve (v.val / 8)) 0x3009 (v.val / 8) (v.val % 8 * 256 + 1) 0 s t := by
  intro hw hst hwindow hprobe hitem hqueue hroom
  rw [State.exec_valveChannelDisable hw]
  have hst' := (s.vst_touched (VALVE_BANK_CTRL (v.val / 8)) v).trans hst
  have hchan := s.chan_touched (VALVE_BANK_CTRL (v.val / 8)) v
  have hbank := s.bank_touched (VALVE_BANK_CTRL (v.val / 8))
  have hlog : (s.touched (VALVE_BANK_CTRL (v.val / 8))).log = s.log := rfl
  have hroom' : Room (s.touched (VALVE_BANK_CTRL (v.val / 8))) (portValve (v.val / 8)) := hroom.of_log rfl rfl
  generalize s.touched (VALVE_BANK_CTRL (v.val / 8)) = u at *
  obtain ⟨w, hwdef⟩ : ∃ w, w = u.setChan v (u.disabledChan v) := ⟨_, rfl⟩
  have hwchan : w.chan v = { s.chan v with disSelf := true } := by
    rw [hwdef, chan_setChan_same, State.disabledChan, hchan]
  have hwbank : w.bank = s.bank := by
    funext b
    rw [hwdef, bank_setChan, hbank]
  have hoff : w.channelOff v = (w.released v it (1, 0x16)).setVst v vDisabled := by
    have hwst : w.vst v = 5 := by rw [hwdef, vst_setChan, hst']
    rw [State.channelOff, State.settle, hwst, if_neg (by decide)]
    refine congrArg (State.setVst · v vDisabled) ?_
    refine Eq.trans ?_ (release_forced (by rw [hwchan, hwindow]) (by rw [hwchan, hitem]) (by rw [hwbank, hqueue])
      (.inl (by rw [hwchan]; simp [hprobe])))
    rfl
  have hwlog : w.log = u.log := by rw [hwdef, setChan_log]
  have hwpwr : w.pwr = u.pwr := by rw [hwdef, setChan_pwr]
  have hq : (((w.released v it (1, 0x16)).setVst v vDisabled).bank (v.val / 8)).queue = [] := by
    rw [bank_setVst, released_bank, hwbank, hqueue]
  rw [hwdef] at hoff
  rw [State.channelDisable_eq hoff (by rw [← hwdef, hq]) (by rw [setVst_log, released_log, setChan_log])
    (by rw [setVst_pwr, released_pwr, setChan_pwr]) hroom', ← hwdef]
  have hend : (((w.released v it (1, 0x16)).setVst v vDisabled).bankShow (v.val / 8)).chan v =
      w.releasedChan v it (1, 0x16) := by rw [chan_bankShow, chan_setVst_off _ rfl, released_chan]
  refine ⟨_, rfl, ?_, ?_, ?_, ?_, ?_⟩
  · rw [State.vst, get_wrote, ← State.vst, vst_bankShow, vst_setVst_same _ (by decide)]
    rfl
  · rw [chan_wrote, hend, releasedChan]
  · rw [chan_wrote, hend, releasedChan]
  · rw [chan_wrote, hend, releasedChan, hwchan]
  · refine Logged.from_log (logged_wrote ..) ?_
    rw [bankShow_log, setVst_log, released_log, hwlog, hlog]

theorem exec_valveChannelEnable_enables (req : Nat) (v : Fin 96) (s : State) :
    Writes s req (VALVE_BANK_CTRL (v.val / 8)) (BitVec.ofNat 32 (0x7A1E0004 + 16 * (v.val % 8))) → s.vst v = 8 →
    s.on (VALVE_BANK_FAULT_BANK_DISABLED (v.val / 8)) = false → (s.chan v).decay = false → s.rel.tests = [] →
    Room s (portValve (v.val / 8)) →
    ∃ t, exec (.valveChannelEnable req v) s = .next t ∧
      t.vst v = (if s.get (vsFault v) = 0 then 0 else 7) ∧ t.chan v = { s.chan v with disSelf := false } ∧
      (∀ u, u ≠ v.val → t.chan u = s.chan u) ∧
      SameRegs [VALVE_STATUS v, VALVE_BANK_STATUS (v.val / 8), VALVE_BANK_FAULT (v.val / 8)] s t ∧
      Logged (portValve (v.val / 8)) 0x3009 (v.val / 8) (v.val % 8 * 256) 0 s t := by
  intro hw hst hdis hdecay htests hroom
  rw [State.exec_valveChannelEnable hw]
  have hst' := (s.vst_touched (VALVE_BANK_CTRL (v.val / 8)) v).trans hst
  have hchan := s.chan_touched (VALVE_BANK_CTRL (v.val / 8))
  have hfault := s.get_touched (VALVE_BANK_CTRL (v.val / 8)) (vsFault v)
  have hdis' := (s.on_touched (VALVE_BANK_CTRL (v.val / 8)) (VALVE_BANK_FAULT_BANK_DISABLED (v.val / 8))).trans hdis
  have hlog : (s.touched (VALVE_BANK_CTRL (v.val / 8))).log = s.log := rfl
  have hrel : (s.touched (VALVE_BANK_CTRL (v.val / 8))).rel.tests = [] := htests
  have hroom' : Room (s.touched (VALVE_BANK_CTRL (v.val / 8))) (portValve (v.val / 8)) := hroom.of_log rfl rfl
  have hback {l : List Nat} {t : State} (h : SameRegs l (s.touched (VALVE_BANK_CTRL (v.val / 8))) t) : SameRegs l s t :=
    h.of_touched
  generalize s.touched (VALVE_BANK_CTRL (v.val / 8)) = u at *
  have hon : (u.setChan v (u.enabledChan v)).channelOn v =
      (u.setChan v (u.enabledChan v)).setVst v (if s.get (vsFault v) = 0 then 0 else 7) := by
    have hvst : (u.setChan v (u.enabledChan v)).vst v = 8 := (vst_setChan ..).trans hst'
    have htests' : (u.setChan v (u.enabledChan v)).rel.tests = [] := hrel
    rw [State.channelOn_disabled hvst htests', get_setChan, hfault]
    by_cases h : s.get (vsFault v) = 0
    · rw [if_neg (by simp [h]), if_pos h, vIdle]
    · rw [if_pos h, if_neg h, vFaulted]
  have hidle : isOn (if s.get (vsFault v) = 0 then 0 else 7) = false := by split <;> rfl
  have hsmall : (if s.get (vsFault v) = 0 then 0 else 7) < 16 := by split <;> decide
  have hroom'' : Room ((u.setChan v (u.enabledChan v)).setVst v (if s.get (vsFault v) = 0 then 0 else 7))
      (portValve (v.val / 8)) := hroom'.of_log (setVst_log ..) (setVst_pwr ..)
  have henable : u.channelEnable v = ((u.setChan v (u.enabledChan v)).setVst v
      (if s.get (vsFault v) = 0 then 0 else 7)).wrote (portValve (v.val / 8))
        (record 0x3009 (v.val / 8) (v.val % 8 * 256) 0 false) := by
    rw [← ev_of_room hroom'', ← hon, State.channelEnable_eq, on_setChan, hdis', if_neg (by simp)]
  rw [henable]
  refine ⟨_, rfl, ?_, ?_, fun w hw => ?_, hback ?_, ?_⟩
  · rw [State.vst, get_wrote, ← State.vst, vst_setVst_same _ hsmall]
  · rw [chan_wrote, chan_setVst_off _ hidle, chan_setChan_same, State.enabledChan, hchan]
  · rw [chan_wrote, chan_setVst_off _ hidle, chan_setChan_ne _ hw, hchan]
  · rw [sameRegs_wrote, sameRegs_setVst (fun _ h => h), sameRegs_setChan]
    exact sameRegs_refl
  · exact Logged.from_log (logged_wrote ..) ((setVst_log ..).trans hlog)

theorem exec_valveCqPop_pops (req : Nat) (b : Fin 12) (seq : BitVec 8) (e : CqEntry) (q : List CqEntry) (s : State) :
    Writes s req (VALVE_CQ_CTRL b) (BitVec.ofNat 32 (0x80000000 + 65536 * seq.toNat)) → (s.bank b).cq = e :: q →
    q.length < 32 →
    ∃ t, exec (.valveCqPop req b seq) s = .next t ∧ (t.bank b).cq = q ∧ t.get (VALVE_CQ_CTRL_COUNT b) = q.length ∧
      (t.bank b).nextSeq = (s.bank b).nextSeq ∧ SameRegs [VALVE_CQ b, VALVE_CQ_CTRL b] s t ∧ t.log = s.log := by
  intro hw hcq hlen
  have hseq := seq.isLt
  have hword : (BitVec.ofNat 32 (0x80000000 + 65536 * seq.toNat) : Word) = 0x80000000 + BitVec.ofNat 32 (65536 * seq.toNat) :=
    BitVec.ofNat_add ..
  have hgo : (BitVec.ofNat 32 (0x80000000 + 65536 * seq.toNat) : Word).getLsbD 31 = true := by
    rw [← BitVec.testBit_toNat, BitVec.toNat_ofNat, Nat.mod_eq_of_lt (by omega), Nat.testBit_eq_decide_div_mod_eq]
    simp only [decide_eq_true_eq]
    omega
  rw [hword] at hw hgo
  have hpop : exec (.valveCqPop req b seq) s = .next ((s.touched (VALVE_CQ_CTRL b)).cqPop b) := by
    refine congrArg Host.Outcome.next ((State.writeAt_cqCtrl hw).trans ?_)
    rw [State.bankEffect, if_neg (by decide), if_pos rfl, if_pos hgo]
  rw [hpop]
  have hbank := s.bank_touched (VALVE_CQ_CTRL b)
  have hlog : (s.touched (VALVE_CQ_CTRL b)).log = s.log := rfl
  have hback {l : List Nat} {t : State} (h : SameRegs l (s.touched (VALVE_CQ_CTRL b)) t) : SameRegs l s t := h.of_touched
  generalize s.touched (VALVE_CQ_CTRL b) = u at *
  obtain ⟨w, hwdef⟩ : ∃ w, w = u.setBank b { u.bank b with cq := q } := ⟨_, rfl⟩
  have hwbank : w.bank b = { s.bank b with cq := q } := by rw [hwdef, bank_setBank_same, hbank]
  have hshow : u.cqPop b = w.cqShow b := by rw [State.cqPop, hwdef, hbank, hcq, List.drop_one, List.tail_cons]
  have hwsame : SameRegs [VALVE_CQ b, VALVE_CQ_CTRL b] u w := by
    rw [hwdef]
    exact sameRegs_setBank.mpr sameRegs_refl
  have hwlog : w.log = s.log := by rw [hwdef, setBank_log, hlog]
  have hkept := (w.cqShow_kept b).1
  rw [hshow]
  refine ⟨_, rfl, ?_, ?_, ?_, hback ?_, hwlog⟩
  · rw [bank_congr hkept, hwbank]
  · rw [cqShow, get_put_same _ _ _ (by simp), hwbank]
    exact Nat.mod_eq_of_lt (by simp; omega)
  · rw [bank_congr hkept, hwbank]
  · rw [cqShow, sameRegs_put (by simp), sameRegs_setReg (by simp)]
    exact hwsame

theorem exec_valveCqPop_violates (req : Nat) (b : Fin 12) (seq : BitVec 8) (s : State) :
    s.mpUp = true → (s.loading = false ∨ req = 2) →
    s.waitsBehind (VALVE_CQ_CTRL b) = false → s.cqPopOk b seq.toNat = false →
    ∃ t, exec (.valveCqPop req b seq) s = .next t ∧
      t.get SYS_VIOL_COUNT_TOTAL = (s.get SYS_VIOL_COUNT_TOTAL + 1) % 65536 ∧ OnlyRegs [SYS_VIOL_COUNT] s t := by
  intro hup hload hwait hpop
  have hseq := seq.isLt
  have hword : (BitVec.ofNat 32 (0x80000000 + 65536 * seq.toNat) : Word) = 0x80000000 + BitVec.ofNat 32 (65536 * seq.toNat) :=
    BitVec.ofNat_add ..
  have hgo : (BitVec.ofNat 32 (0x80000000 + 65536 * seq.toNat) : Word).getLsbD 31 = true := by
    rw [← BitVec.testBit_toNat, BitVec.toNat_ofNat, Nat.mod_eq_of_lt (by omega), Nat.testBit_eq_decide_div_mod_eq]
    simp only [decide_eq_true_eq]
    omega
  have hfield : bits (BitVec.ofNat 32 (0x80000000 + 65536 * seq.toNat)) 23 16 = seq.toNat := by
    rw [bits, BitVec.toNat_ofNat, Nat.mod_eq_of_lt (show 0x80000000 + 65536 * seq.toNat < 2 ^ 32 by omega),
      Nat.shiftRight_eq_div_pow]
    omega
  rw [hword] at hgo hfield
  have hno : s.writeOk req (VALVE_CQ_CTRL b) (0x80000000 + BitVec.ofNat 32 (65536 * seq.toNat)) = false := by
    by_contra h
    rw [Bool.not_eq_false] at h
    have := State.cqPopOk_of_writeOk hgo h
    rw [hfield, hpop] at this
    exact Bool.false_ne_true this
  have hviol : exec (.valveCqPop req b seq) s = .next (s.violate req) :=
    congrArg Host.Outcome.next (State.writeAt_violation hup hload hwait hno)
  exact ⟨_, hviol, State.get_violate_total s req, State.onlyRegs_violate s req⟩

theorem exec_valveCqLossMinute_reports (b : Fin 12) (s : State) :
    (s.bank b).lostMinute ≠ 0 → Room s (portValve b) →
    ∃ t, exec (.valveCqLossMinute b) s = .next t ∧ t.bank b = { s.bank b with lostMinute := 0 } ∧ t.regs = s.regs ∧
      Logged (portValve b) 0x3010 b (s.bank b).lostMinute 0 s t := by
  intro hlost hroom
  have hreport : s.cqMinute b = ((s.wrote (portValve b) (record 0x3010 b (s.bank b).lostMinute 0 false)).setBank b
      { s.bank b with lostMinute := 0 }) := by
    rw [State.cqMinute]
    dsimp only
    rw [if_neg hlost, ev_of_room hroom]
  rw [show exec (.valveCqLossMinute b) s = .next (s.cqMinute b) from rfl, hreport]
  refine ⟨_, rfl, bank_setBank_same .., rfl, ?_⟩
  exact logged_congr (logged_wrote ..) (setBank_log ..)

theorem exec_valveCqLossMinute_none (b : Fin 12) (s : State) :
    (s.bank b).lostMinute = 0 → exec (.valveCqLossMinute b) s = .next s := by
  intro hlost
  exact congrArg Host.Outcome.next (if_pos hlost)

/-! ### The stage budget (R373, R374) -/

namespace State

section Budget
variable (c60 c1 : List ChopRun) (h60 h1 : List HsRun)

/-- The averages of the banks of a list have been put; nothing else has changed (R373). -/
structure Averaged (l : List Nat) (s t : State) : Prop where
  avg : ∀ b ∈ l, s.stageNum b c60 h60 % s.stageDen b 60 = 0 →
    t.get (VALVE_BANK_POWER_AVG60_MW b) = min (s.stageNum b c60 h60 / s.stageDen b 60) 65535
  regs : SameRegs (l.map VALVE_BANK_POWER) s t
  log : t.log = s.log
  pwr : t.pwr = s.pwr
  valve : t.valve = s.valve

/-- A bank's averages, one register. -/
theorem averaged_bank (s : State) (b : Nat) : Averaged c60 h60 [b] s (s.stageAverages c60 c1 h60 h1 b) := by
  refine ⟨?_, ?_, rfl, rfl, rfl⟩
  · intro d hd hexact
    obtain rfl := List.mem_singleton.mp hd
    rw [stageAverages, get_put_ne _ _ _ _ (by simp) (by simp), get_put_same _ _ _ (by simp), openDiv, if_pos hexact, satTo]
    exact Nat.mod_eq_of_lt (by simp)
  · simp [stageAverages]

variable {c60 h60} in
theorem Averaged.cons {b : Nat} {l : List Nat} {s t u : State} (hb : b ∉ l) (h : Averaged c60 h60 [b] s t)
    (k : Averaged c60 h60 l t u) : Averaged c60 h60 (b :: l) s u := by
  have hcfg (d : Nat) : t.get (VALVE_BANK_CFG_CHOP_KHZ d) = s.get (VALVE_BANK_CFG_CHOP_KHZ d) :=
    h.regs.get_eq (by simp [VALVE_BANK_CFG, VALVE_BANK_POWER]; omega)
  have hnum (d : Nat) : t.stageNum d c60 h60 = s.stageNum d c60 h60 := by rw [stageNum, stageNum, hcfg]
  have hden (d : Nat) : t.stageDen d 60 = s.stageDen d 60 := by rw [stageDen, stageDen, hcfg]
  refine ⟨fun d hd hexact => ?_, ?_, k.log.trans h.log, k.pwr.trans h.pwr, k.valve.trans h.valve⟩
  · rcases List.mem_cons.mp hd with rfl | hd
    · have hapart : VALVE_BANK_POWER d ∉ l.map VALVE_BANK_POWER := by
        intro hmem
        obtain ⟨x, hx, he⟩ := List.mem_map.mp hmem
        have : x = d := by
          rw [VALVE_BANK_POWER, VALVE_BANK_POWER] at he
          omega
        exact hb (this ▸ hx)
      rw [k.regs.get_eq hapart, h.avg d (by simp) hexact]
    · rw [k.avg d hd (by rw [hnum, hden, hexact]), hnum, hden]
  · exact (h.regs.mono (by simp)).next (k.regs.mono (by simp +contextual))

theorem averaged_each {l : List Nat} (hl : l.Nodup) (s : State) :
    Averaged c60 h60 l s (s.each l (State.stageAverages · c60 c1 h60 h1 ·)) := by
  induction l generalizing s with
  | nil => exact ⟨by simp, SameRegs.refl _ s, rfl, rfl, rfl⟩
  | cons b l ih =>
    obtain ⟨hb, hl⟩ := List.nodup_cons.mp hl
    exact (averaged_bank c60 c1 h60 h1 s b).cons hb (ih hl _)

/-- The state with other records of the valve banks. -/
def withValve (u : State) (x : Valves) : State := { u with valve := x }

theorem withValve_kept (u : State) (x : Valves) :
    (u.withValve x).regs = u.regs ∧ (u.withValve x).log = u.log ∧ (u.withValve x).valve = x := ⟨rfl, rfl, rfl⟩

/-- The moment of a die's last record is kept (R374). -/
def budgetNoted (u t : State) (die : Nat) : State :=
  u.withValve { t.valve with budgetAt := tset (fun _ => 0) t.valve.budgetAt die t.optime }

theorem budgetNoted_kept (u t : State) (die : Nat) :
    (u.budgetNoted t die).regs = u.regs ∧ (u.budgetNoted t die).log = u.log ∧
      (u.budgetNoted t die).valve.chans = t.valve.chans := by
  rw [budgetNoted]
  obtain ⟨hregs, hlog, hvalve⟩ := u.withValve_kept { t.valve with
    budgetAt := tset (fun _ => 0) t.valve.budgetAt die t.optime }
  exact ⟨hregs, hlog, by rw [hvalve]⟩

/-- The record of an exceeded budget, at most once every 10 minutes (R374). -/
def budgetReported (t : State) (die mw : Nat) : State :=
  (t.ev (portValve (6 * die)) 0x3011 die mw).budgetNoted t die

/-- The sum of a die's averages (R374). -/
def dieMw (t : State) (die : Nat) : Nat := ((dieBanks die).map (fun b => t.get (VALVE_BANK_POWER_AVG60_MW b))).sum

theorem stageBudget_eq (s : State) (die : Nat) : s.stageBudget die c60 c1 h60 h1 =
    let t := s.each (dieBanks die) (State.stageAverages · c60 c1 h60 h1 ·)
    if 6000 < t.dieMw die ∧ (tget (fun _ => 0) t.valve.budgetAt die = 0 ∨
      tget (fun _ => 0) t.valve.budgetAt die + 600 * 1024 ≤ t.optime) then t.budgetReported die (t.dieMw die) else t := by
  have hsum (t : State) : (dieBanks die).foldl (fun a b => a + t.get (VALVE_BANK_POWER_AVG60_MW b)) 0 = t.dieMw die := by
    rw [dieMw, List.sum_eq_foldl, List.foldl_map]
  rw [stageBudget]
  dsimp only
  generalize s.each (dieBanks die) (State.stageAverages · c60 c1 h60 h1 ·) = t
  rw [hsum, budgetReported, budgetNoted, withValve]

theorem nodup_dieBanks (die : Nat) : (dieBanks die).Nodup := by
  rw [dieBanks, List.nodup_map_iff_inj_on List.nodup_range]
  intro x _ y _ h
  omega

/-- A report shows in the drop registers alone. -/
theorem budgetReported_kept (t : State) (die mw : Nat) :
    SameRegs [LOG_DROP (portValve (6 * die)), LOG_STATUS] t (t.budgetReported die mw) ∧
      (t.budgetReported die mw).log = (t.ev (portValve (6 * die)) 0x3011 die mw).log ∧
      (t.budgetReported die mw).valve.chans = t.valve.chans := by
  have hev : SameRegs [LOG_DROP (portValve (6 * die)), LOG_STATUS] t (t.ev (portValve (6 * die)) 0x3011 die mw) :=
    t.sameRegs_ev (by simp) 0x3011 die mw 0 false
  rw [budgetReported]
  generalize t.ev (portValve (6 * die)) 0x3011 die mw = u at *
  obtain ⟨hregs, hlog, hchans⟩ := u.budgetNoted_kept t die
  exact ⟨hev.of_regs hregs, hlog, hchans⟩

end Budget

end State

theorem exec_stageBudgetCheck_averages (die : Fin 2) (c60 c1 : List ChopRun) (h60 h1 : List HsRun) (s : State) :
    ∃ t, exec (.stageBudgetCheck die c60 c1 h60 h1) s = .next t ∧
      (∀ b ∈ dieBanks die, s.stageNum b c60 h60 % s.stageDen b 60 = 0 →
        t.get (VALVE_BANK_POWER_AVG60_MW b) = min (s.stageNum b c60 h60 / s.stageDen b 60) 65535) ∧
      (6000 < ((dieBanks die).map (fun b => t.get (VALVE_BANK_POWER_AVG60_MW b))).sum →
        tget (fun _ => 0) s.valve.budgetAt die = 0 → Room s (portValve (6 * die.val)) →
        Logged (portValve (6 * die.val)) 0x3011 die
          ((dieBanks die).map (fun b => t.get (VALVE_BANK_POWER_AVG60_MW b))).sum 0 s t) ∧
      (((dieBanks die).map (fun b => t.get (VALVE_BANK_POWER_AVG60_MW b))).sum ≤ 6000 → t.log = s.log) ∧
      t.valve.chans = s.valve.chans ∧
      (∀ a, a ∉ (dieBanks die).map (fun b => VALVE_BANK_POWER b) → a ≠ LOG_DROP 8 → a ≠ LOG_DROP 9 → a ≠ LOG_STATUS →
        t.reg a = s.reg a) := by
  have hbudget := State.stageBudget_eq c60 c1 h60 h1 s die
  have havg := State.averaged_each c60 c1 h60 h1 (State.nodup_dieBanks die) s
  rw [show exec (.stageBudgetCheck die c60 c1 h60 h1) s = .next (s.stageBudget die c60 c1 h60 h1) from rfl, hbudget]
  dsimp only
  generalize s.each (dieBanks die) (State.stageAverages · c60 c1 h60 h1 ·) = t at *
  obtain ⟨hshown, hregs, hlog, hpwr, hvalve⟩ := havg
  have hport : portValve (6 * die.val) = 8 ∨ portValve (6 * die.val) = 9 := by
    rw [portValve]
    split <;> simp
  have hapart (b : Nat) : VALVE_BANK_POWER b ∉ [LOG_DROP (portValve (6 * die.val)), LOG_STATUS] := by
    rcases hport with h | h <;> rw [h] <;> simp [VALVE_BANK_POWER, LOG_STATUS, LOG_DROP] <;> omega
  by_cases hover : 6000 < t.dieMw die ∧ (tget (fun _ => 0) t.valve.budgetAt die = 0 ∨
      tget (fun _ => 0) t.valve.budgetAt die + 600 * 1024 ≤ t.optime)
  · rw [if_pos hover]
    obtain ⟨hsame, hend, hchans⟩ := t.budgetReported_kept die (t.dieMw die)
    have hmw : (t.budgetReported die (t.dieMw die)).dieMw die = t.dieMw die := by
      rw [State.dieMw, State.dieMw]
      exact congrArg List.sum (List.map_congr_left fun b _ => hsame.get_eq (hapart b))
    generalize hfinal : t.budgetReported die (t.dieMw die) = u at *
    refine ⟨u, rfl, fun b hb hexact => ?_, fun _ _ hroom => ?_, fun hle => absurd hover.1 (by rw [← hmw]; exact not_lt.mpr hle),
      hchans.trans (by rw [hvalve]), fun a ha h8 h9 hs => ?_⟩
    · rw [hsame.get_eq (hapart b), hshown b hb hexact]
    · have hroom' : Room t (portValve (6 * die.val)) := hroom.of_log hlog hpwr
      rw [ev_of_room hroom'] at hend
      change Logged (portValve (6 * die.val)) 0x3011 die (u.dieMw die) 0 s u
      rw [hmw]
      exact logged_congr (Logged.from_log (logged_wrote ..) hlog) hend
    · rw [hsame a (by rcases hport with h | h <;> simp [h, h8, h9, hs]), hregs a ha]
  · rw [if_neg hover]
    refine ⟨t, rfl, hshown, fun hmw hlast _ => absurd ⟨hmw, .inl (by rw [hvalve]; exact hlast)⟩ hover, fun _ => hlog,
      by rw [hvalve], fun a ha _ _ _ => hregs a ha⟩

/-- Settles O53: each clause is one of the lemmas on banks and channels disabled and enabled, the completion queue and
the stage budget. -/
theorem valveBankControl : Obligations.ValveBankControl :=
  ⟨exec_valveBankDisable_disables, exec_valveBankEnable_enables, exec_valveChannelDisable_idle,
    exec_valveChannelDisable_hold, exec_valveChannelEnable_enables, exec_valveCqPop_pops, exec_valveCqPop_violates,
    exec_valveCqLossMinute_reports, exec_valveCqLossMinute_none, exec_stageBudgetCheck_averages⟩

end Sys2Proof.Machine
end

section
/-! PROOFS. The frame store, the update item, the ageing and the gains of the door panel (R405 to R412). -/

namespace Sys2Proof.Machine

open Reg State

namespace State

/-! ### The frame store (R405, R411) -/

/-- A state whose frame store may differ from that of `s`, each row that differs dirty. -/
structure FrameStep (s t : State) : Prop where
  marked : ∀ k, tget (fun _ => 0) t.disp.fb k ≠ tget (fun _ => 0) s.disp.fb k →
    (t.get DISP_DIRTY_ROWS).testBit (k / 96) = true
  kept : ∀ r, (s.get DISP_DIRTY_ROWS).testBit r = true → (t.get DISP_DIRTY_ROWS).testBit r = true
  disp : { t.disp with fb := s.disp.fb } = s.disp
  regs : SameRegs [DISP_DIRTY] s t
  log : t.log = s.log

theorem FrameStep.trans {s t u : State} (h : FrameStep s t) (k : FrameStep t u) : FrameStep s u := by
  refine ⟨fun j hj => ?_, fun r hr => k.kept r (h.kept r hr), ?_, h.regs.next k.regs, k.log.trans h.log⟩
  · by_cases hu : tget (fun _ => 0) u.disp.fb j = tget (fun _ => 0) t.disp.fb j
    · exact k.kept _ (h.marked j (by rwa [← hu]))
    · exact k.marked j hu
  · rw [← h.disp, ← k.disp]

/-- A row marked dirty, and the others as they were (R411). -/
theorem testBit_dirty (s : State) {row : Nat} (hrow : row < 16) (r : Nat) :
    ((s.put DISP_DIRTY_ROWS (s.get DISP_DIRTY_ROWS ||| 2 ^ row)).get DISP_DIRTY_ROWS).testBit r =
      ((s.get DISP_DIRTY_ROWS).testBit r || decide (row = r)) := by
  have hlt : s.get DISP_DIRTY_ROWS ||| 2 ^ row < 2 ^ 16 :=
    Nat.or_lt_two_pow (s.get_lt DISP_DIRTY_ROWS) (Nat.pow_lt_pow_right (by decide) hrow)
  rw [get_put_same _ _ _ (by decide)]
  exact (congrArg (Nat.testBit · r) (Nat.mod_eq_of_lt hlt)).trans (by rw [Nat.testBit_or, Nat.testBit_two_pow])

section Bytes
variable (s : State) {k : Nat}

theorem fb_fbByte (b : Byte) (j : Nat) :
    tget (fun _ => 0) (s.fbByte k b).disp.fb j = if j = k then b else tget (fun _ => 0) s.disp.fb j := by
  rw [fbByte]
  split
  case isTrue h =>
    split
    case isTrue hj => rw [hj, h]
    case isFalse => rfl
  case isFalse => exact tget_tset ..

theorem frameStep_fbByte (hk : k < 1536) (b : Byte) : FrameStep s (s.fbByte k b) := by
  have hrow : k / 96 < 16 := by omega
  have hfb := s.fb_fbByte (k := k) b
  by_cases h : tget (fun _ => 0) s.disp.fb k = b
  · have hsame : s.fbByte k b = s := if_pos h
    rw [hsame]
    exact ⟨fun _ hj => absurd rfl hj, fun _ hr => hr, rfl, sameRegs_refl, rfl⟩
  · have hbyte : s.fbByte k b = (s.put DISP_DIRTY_ROWS (s.get DISP_DIRTY_ROWS ||| 2 ^ (k / 96))).withDisp
        { s.disp with fb := tset (fun _ => 0) s.disp.fb k b } := if_neg h
    have hbits (r : Nat) : ((s.fbByte k b).get DISP_DIRTY_ROWS).testBit r =
        ((s.get DISP_DIRTY_ROWS).testBit r || decide (k / 96 = r)) := by
      rw [hbyte, get_withDisp]
      exact s.testBit_dirty hrow r
    refine ⟨fun j hj => ?_, fun r hr => ?_, ?_, ?_, ?_⟩
    · have hjk : j = k := by
        by_contra hne
        exact hj (by rw [hfb, if_neg hne])
      rw [hbits, hjk]
      simp
    · rw [hbits, hr, Bool.true_or]
    · rw [hbyte]
      rfl
    · rw [hbyte, sameRegs_withDisp, sameRegs_put (by decide)]
      exact sameRegs_refl
    · rw [hbyte]
      rfl

/-- The byte `i` of a written word (R405). -/
def wordByte (w : Word) (i : Nat) : Byte := BitVec.ofNat 8 (w.toNat >>> (8 * i))

/-- The four bytes of a word in the frame store. -/
def fbWord (s : State) (o : Nat) (w : Word) : State :=
  s.each (List.range 4) (fun t i => t.fbByte (o + i) (wordByte w i))

theorem fbWord_eq (o : Nat) (w : Word) : s.fbWord o w = (((s.fbByte (o + 0) (wordByte w 0)).fbByte (o + 1)
    (wordByte w 1)).fbByte (o + 2) (wordByte w 2)).fbByte (o + 3) (wordByte w 3) := by
  rw [fbWord, show List.range 4 = [0, 1, 2, 3] from rfl, each]
  simp only [List.foldl_cons, List.foldl_nil]

theorem frameStep_fbWord {o : Nat} (ho : o ≤ 1532) (w : Word) : FrameStep s (s.fbWord o w) := by
  have hstep (t : State) (i : Nat) (hi : i < 4) := t.frameStep_fbByte (k := o + i) (by omega) (wordByte w i)
  rw [fbWord_eq]
  exact (((hstep s 0 (by decide)).trans (hstep _ 1 (by decide))).trans (hstep _ 2 (by decide))).trans
    (hstep _ 3 (by decide))

theorem fb_fbWord (o : Nat) (w : Word) (k : Nat) : tget (fun _ => 0) (s.fbWord o w).disp.fb k =
    if o ≤ k ∧ k < o + 4 then wordByte w (k - o) else tget (fun _ => 0) s.disp.fb k := by
  rw [fbWord_eq, fb_fbByte, fb_fbByte, fb_fbByte, fb_fbByte]
  by_cases hin : o ≤ k ∧ k < o + 4
  · obtain ⟨i, hi, rfl⟩ : ∃ i, i < 4 ∧ k = o + i := ⟨k - o, by omega, by omega⟩
    rw [if_pos hin, Nat.add_sub_cancel_left]
    interval_cases i <;> simp
  · rw [if_neg hin, if_neg (by omega), if_neg (by omega), if_neg (by omega), if_neg (by omega)]

end Bytes

end State

/-- The row of DISP_FB_DATA. -/
def fbDataRow : RegRow := { base := 0x070018, rw := 0xffffffff }

theorem rowOf_fbData : rowOf DISP_FB_DATA = some fbDataRow := rfl

/-- The row of DISP_COMMIT. -/
def commitRow : RegRow := { base := 0x07001c, rw := 0x2000ff00, wo := 0x80000000, rsv := 0x1c0000ff }

theorem rowOf_commit : rowOf DISP_COMMIT = some commitRow := rfl

namespace State

section Writes
variable {s : State} {req : Nat} {v : Word}

/-- A write of the frame store's data register keeps nothing there (R405). -/
theorem writeAt_fbData (h : Writes s req DISP_FB_DATA v) : s.writeAt req DISP_FB_DATA v = s.fbWrite v := by
  obtain ⟨hup, hl, hwait, hok⟩ := h
  have hstore : s.store DISP_FB_DATA v = s := by rw [store, rowOf_fbData]; exact if_pos (by decide)
  rw [writeAt_now hl hwait (by decide), writeCore, hup, hok, hstore]
  rfl

theorem fbWrite_eq (s : State) (w : Word) : s.fbWrite w =
    if (s.fbWord (s.get DISP_FB_SEL_OFFSET) w).on DISP_FB_SEL_AUTO_INC then
      (s.fbWord (s.get DISP_FB_SEL_OFFSET) w).put DISP_FB_SEL_OFFSET
        (if s.get DISP_FB_SEL_OFFSET = 1532 then 0 else s.get DISP_FB_SEL_OFFSET + 4)
    else s.fbWord (s.get DISP_FB_SEL_OFFSET) w := rfl

/-- A write of DISP_COMMIT with GO keeps its fields and starts the item (R412). -/
theorem writeAt_commit (h : Writes s req DISP_COMMIT (0x80000000 ||| v)) :
    s.writeAt req DISP_COMMIT (0x80000000 ||| v) =
    (s.setReg DISP_COMMIT (commitRow.after (s.reg DISP_COMMIT) (0x80000000 ||| v))).commitGo := by
  obtain ⟨hup, hl, hwait, hok⟩ := h
  have hgo : (0x80000000 ||| v : Word).getLsbD 31 = true := by simp
  have hstore : s.store DISP_COMMIT (0x80000000 ||| v) =
      s.setReg DISP_COMMIT (commitRow.after (s.reg DISP_COMMIT) (0x80000000 ||| v)) := by
    rw [store, rowOf_commit]
    exact if_neg (by decide)
  have heffect (t : State) (old : Word) : t.effect req DISP_COMMIT old (0x80000000 ||| v) = t.commitGo := by
    refine Eq.trans (b := if (0x80000000 ||| v : Word).getLsbD 31 then t.commitGo else t) rfl ?_
    rw [if_pos hgo]
  rw [writeAt_now hl hwait (by decide), writeCore, hup, hok, hstore, heffect]
  rfl

/-- A field of a word is its bits. -/
theorem bits_congr {x y : Word} {hi lo : Nat} (h : ∀ i, lo ≤ i → i ≤ hi → x.getLsbD i = y.getLsbD i) :
    bits x hi lo = bits y hi lo := by
  refine Nat.eq_of_testBit_eq fun i => ?_
  rw [bits, bits, Nat.testBit_mod_two_pow, Nat.testBit_mod_two_pow, Nat.testBit_shiftRight, Nat.testBit_shiftRight]
  by_cases hi' : i < hi + 1 - lo
  · have := h (lo + i) (by omega) (by omega)
    rw [← BitVec.testBit_toNat, ← BitVec.testBit_toNat] at this
    rw [this]
  · simp [hi']

/-- The fields that a write of DISP_COMMIT keeps. -/
theorem commitRow_after (old v : Word) :
    bits (commitRow.after old (0x80000000 ||| v)) 15 8 = bits v 15 8 ∧
      bits (commitRow.after old (0x80000000 ||| v)) 29 29 = bits v 29 29 := by
  have hbit (i : Nat) (hi : i < 32) (hmask : (BitVec.ofNat 32 commitRow.rw).getLsbD i = true)
      (hgo : (0x80000000 : Word).getLsbD i = false) :
      (commitRow.after old (0x80000000 ||| v)).getLsbD i = v.getLsbD i := by
    rw [RegRow.after, BitVec.getLsbD_and, BitVec.getLsbD_or, BitVec.getLsbD_and, BitVec.getLsbD_and, BitVec.getLsbD_not,
      BitVec.getLsbD_not, BitVec.getLsbD_and, BitVec.getLsbD_or, hmask, hgo]
    simp [commitRow, hi]
  refine ⟨bits_congr fun i hlo hhi => ?_, bits_congr fun i hlo hhi => ?_⟩
  · interval_cases i <;> exact hbit _ (by decide) rfl rfl
  · interval_cases i
    exact hbit _ (by decide) rfl rfl

end Writes

end State

theorem exec_dispFbWrite_stores (req : Nat) (v : Word) (s : State) :
    Writes s req DISP_FB_DATA v → s.get DISP_FB_SEL_OFFSET ≤ 1532 →
    ∃ t, exec (.dispFbWrite req v) s = .next t ∧
      (∀ k, tget (fun _ => 0) t.disp.fb k =
        (if s.get DISP_FB_SEL_OFFSET ≤ k ∧ k < s.get DISP_FB_SEL_OFFSET + 4 then
          BitVec.ofNat 8 (v.toNat >>> (8 * (k - s.get DISP_FB_SEL_OFFSET))) else tget (fun _ => 0) s.disp.fb k)) ∧
      (∀ k, tget (fun _ => 0) t.disp.fb k ≠ tget (fun _ => 0) s.disp.fb k →
        (t.get DISP_DIRTY_ROWS).testBit (k / 96) = true) ∧
      t.get DISP_FB_SEL_OFFSET = (if s.on DISP_FB_SEL_AUTO_INC = false then s.get DISP_FB_SEL_OFFSET
        else if s.get DISP_FB_SEL_OFFSET = 1532 then 0 else s.get DISP_FB_SEL_OFFSET + 4) ∧
      { t.disp with fb := s.disp.fb } = s.disp ∧ SameRegs [DISP_DIRTY, DISP_FB_SEL] s t ∧ t.log = s.log := by
  intro hw ho
  rw [show exec (.dispFbWrite req v) s = .next (s.writeAt req DISP_FB_DATA v) from rfl, State.writeAt_fbData hw,
    State.fbWrite_eq]
  have hstep := s.frameStep_fbWord ho v
  have hfb := s.fb_fbWord (s.get DISP_FB_SEL_OFFSET) v
  generalize s.fbWord (s.get DISP_FB_SEL_OFFSET) v = t at *
  have hauto : t.on DISP_FB_SEL_AUTO_INC = s.on DISP_FB_SEL_AUTO_INC := hstep.regs.on_eq (by decide)
  have hoff : t.get DISP_FB_SEL_OFFSET = s.get DISP_FB_SEL_OFFSET := hstep.regs.get_eq (by decide)
  rw [hauto]
  by_cases hinc : s.on DISP_FB_SEL_AUTO_INC = true
  · rw [if_pos hinc]
    refine ⟨_, rfl, hfb, fun k hk => ?_, ?_, hstep.disp, ?_, hstep.log⟩
    · rw [get_put_ne _ _ _ _ (by decide) (by decide)]
      exact hstep.marked k hk
    · have hnext : (if s.get DISP_FB_SEL_OFFSET = 1532 then 0 else s.get DISP_FB_SEL_OFFSET + 4) < 2 ^ 11 := by
        split
        · decide
        · omega
      have hinc' : ¬ s.on DISP_FB_SEL_AUTO_INC = false := by rw [hinc]; decide
      rw [get_put_same _ _ _ (by decide), if_neg hinc']
      exact Nat.mod_eq_of_lt hnext
    · rw [sameRegs_put (by decide)]
      exact hstep.regs.mono (by simp)
  · rw [if_neg hinc]
    refine ⟨_, rfl, hfb, hstep.marked, ?_, hstep.disp, hstep.regs.mono (by simp), hstep.log⟩
    rw [hoff, if_pos (by simpa using hinc)]

theorem exec_dispCommitGo_starts (req : Nat) (v : Word) (s : State) :
    Writes s req DISP_COMMIT (0x80000000 ||| v) →
    ∃ t, exec (.dispCommitGo req v) s = .next t ∧ t.get DISP_COMMIT_BUSY = 1 ∧ t.get DISP_COMMIT_ID = bits v 15 8 ∧
      t.get DISP_COMMIT_HOLD = bits v 29 29 ∧ t.disp = s.disp ∧ SameRegs [DISP_COMMIT] s t ∧ t.log = s.log := by
  intro hw
  obtain ⟨hid, hhold⟩ := State.commitRow_after (s.reg DISP_COMMIT) v
  rw [show exec (.dispCommitGo req v) s = .next (s.writeAt req DISP_COMMIT (0x80000000 ||| v)) from rfl,
    State.writeAt_commit hw, State.commitGo]
  refine ⟨_, rfl, get_putB_same _ DISP_COMMIT_BUSY true (by decide), ?_, ?_, rfl, ?_, rfl⟩
  · rw [get_putB_ne _ _ _ _ (by decide) (by decide)]
    exact (get_setReg_same _ DISP_COMMIT_ID _).trans hid
  · rw [get_putB_ne _ _ _ _ (by decide) (by decide)]
    exact (get_setReg_same _ DISP_COMMIT_HOLD _).trans hhold
  · rw [sameRegs_putB (by decide), sameRegs_setReg (by decide)]
    exact sameRegs_refl

namespace State

/-! ### A blanking slot (R406, R407, R411) -/

/-- The on-time that the scan of subpixel `k` computes (R407). -/
def onTime (s : State) (k : Nat) : Nat :=
  min 4095 (pwmRaw (tget (fun _ => 0) s.disp.gamma (256 * colourOf k + s.pixelCode k)) (s.gainOf k))

/-- `t` is `s` but for the on-times of the subpixels that `p` names, which were computed, and CLIPPED. -/
structure Scanned (p : Nat → Bool) (s t : State) : Prop where
  pwm : ∀ k, tget (fun _ => 0) t.disp.pwm k = if p k then s.onTime k else tget (fun _ => 0) s.disp.pwm k
  disp : { t.disp with pwm := s.disp.pwm } = s.disp
  panel : t.panel = s.panel
  regs : SameRegs [DISP_STATUS] s t
  log : t.log = s.log
  stress : t.stress = s.stress

namespace Scanned
variable {p q : Nat → Bool} {s t u : State}

theorem none (s : State) : Scanned (fun _ => false) s s := ⟨fun _ => rfl, rfl, rfl, sameRegs_refl, rfl, rfl⟩

/-- The on-times depend on nothing that a scan changes. -/
theorem onTime_eq (h : Scanned p s t) (k : Nat) : t.onTime k = s.onTime k := by
  have hdisp : t.disp = { s.disp with pwm := t.disp.pwm } := by rw [← h.disp]
  have hsource : t.get DISP_SOURCE_IMAGE = s.get DISP_SOURCE_IMAGE := h.regs.get_eq (by decide)
  rw [onTime, onTime, pixelCode, pixelCode, shownImage, shownImage, gainOf, gainOf, hsource, hdisp]

theorem trans (h : Scanned p s t) (k : Scanned q t u) : Scanned (fun j => p j || q j) s u := by
  refine ⟨fun j => ?_, ?_, k.panel.trans h.panel, h.regs.next k.regs, k.log.trans h.log, k.stress.trans h.stress⟩
  · rw [k.pwm, h.pwm, h.onTime_eq]
    cases p j <;> cases q j <;> rfl
  · rw [← h.disp, ← k.disp]

theorem congr (h : Scanned p s t) (hq : ∀ k, p k = q k) : Scanned q s t := funext hq ▸ h

theorem each {α : Type} {P : α → Nat → Bool} {f : State → α → State} (hf : ∀ t a, Scanned (P a) t (f t a))
    (l : List α) (s : State) : Scanned (fun k => l.any (P · k)) s (s.each l f) := by
  induction l generalizing s with
  | nil => exact none s
  | cons a l ih => exact (hf s a).trans (ih (f s a))

end Scanned

section Scan
variable (s : State)

theorem scanPixel_eq (k : Nat) : s.scanPixel k =
    let t := if 4095 * 16384 < tget (fun _ => 0) s.disp.gamma (256 * colourOf k + s.pixelCode k) * s.gainOf k
      then s.putB DISP_STATUS_CLIPPED true else s
    t.withDisp { t.disp with pwm := tset (fun _ => 0) t.disp.pwm k (s.onTime k) } := rfl

theorem scanned_scanPixel (k : Nat) : Scanned (fun j => decide (j = k)) s (s.scanPixel k) := by
  rw [scanPixel_eq]
  dsimp only
  have hmark : ∀ t : State, t.disp = s.disp → t.panel = s.panel → SameRegs [DISP_STATUS] s t → t.log = s.log →
      t.stress = s.stress → Scanned (fun j => decide (j = k)) s
        (t.withDisp { t.disp with pwm := tset (fun _ => 0) t.disp.pwm k (s.onTime k) }) := by
    intro t hdisp hpanel hregs hlog hstress
    refine ⟨fun j => ?_, ?_, hpanel, sameRegs_withDisp.mpr hregs, hlog, hstress⟩
    · rw [withDisp_disp, hdisp, tget_tset]
      simp only [decide_eq_true_eq]
      split
      case isTrue h => rw [h]
      case isFalse => rfl
    · rw [withDisp_disp, hdisp]
  split
  · refine hmark _ rfl ?_ ?_ rfl rfl
    · exact get_putB_ne _ _ _ _ (by decide) (by decide)
    · rw [sameRegs_putB (by decide)]
      exact sameRegs_refl
  · exact hmark s rfl rfl sameRegs_refl rfl rfl

theorem scanned_scanRow (y : Nat) : Scanned (fun k => decide (k / 96 = y)) s (s.scanRow y) := by
  refine (Scanned.each (fun t i => t.scanned_scanPixel (96 * y + i)) (List.range 96) s).congr fun k => ?_
  rw [Bool.eq_iff_iff, List.any_eq_true, decide_eq_true_eq]
  simp only [List.mem_range, decide_eq_true_eq]
  exact ⟨fun ⟨i, hi, hk⟩ => by omega, fun h => ⟨k % 96, by omega, by omega⟩⟩

theorem scanned_maskRows (m : Nat) :
    Scanned (fun k => decide (k / 96 < 16) && m.testBit (k / 96)) s (s.each (maskRows m) scanRow) := by
  refine (Scanned.each scanned_scanRow (maskRows m) s).congr fun k => ?_
  rw [Bool.eq_iff_iff, List.any_eq_true, Bool.and_eq_true, decide_eq_true_eq]
  simp only [maskRows, List.mem_filter, List.mem_range, decide_eq_true_eq]
  exact ⟨fun ⟨y, h, hy⟩ => hy ▸ h, fun h => ⟨_, h, rfl⟩⟩

theorem litFrame_unlit (h : s.panel ≠ 2) : s.litFrame = s := if_neg h
theorem senseSample_unlit (h : s.panel ≠ 2) (vf : Nat) : s.senseSample vf = s := if_pos (Or.inl h)
theorem senseSample_off (h : s.on DISP_CFG_SENSE_EN = false) (vf : Nat) : s.senseSample vf = s :=
  if_pos (Or.inr (Or.inl (by simp [h])))

theorem latchCurrents_eq : s.latchCurrents = s.withDisp { s.disp with
    rate300 := s.on DISP_CFG_RATE_300,
    current := (List.range 3).foldl (fun l c => tset (fun _ => 0) l c (s.get (currentFld c))) s.disp.current } := rfl

/-- What a blanking slot leaves of a panel that is served: the frame that ended, the item or the copy, the sample, and
the currents (R406, R411 to R413). -/
def slotCopied (s : State) : State := if s.on DISP_COMMIT_BUSY || !s.on DISP_COMMIT_HOLD then s.copyDirty else s

/-- The item that a blanking slot ends (R412). -/
def slotItem (s : State) : State :=
  if s.on DISP_COMMIT_BUSY then (s.slotCopied.putB DISP_COMMIT_HOLD false).commitEnd 0 0 else s.slotCopied

/-- A panel that is to light from the next frame lights (R416). -/
def slotLight (s : State) : State :=
  if s.disp.lightNext ∧ s.panel = panelOff then
    ((s.withDisp { s.disp with lightNext := false }).put DISP_STATUS_STATE panelLit).putB DISP_STATUS_DISCHARGED false
  else s

theorem blankingSlot_served {s : State} (hfit : s.on DISP_CFG_PRESENT = true) (hassets : s.disp.assets = true)
    (hlink : s.doorFenced = false) (hheld : s.panelHeld = false) (vf : Nat) :
    s.blankingSlot vf = (s.litFrame.slotItem.senseSample vf).latchCurrents.slotLight := by
  have h : s.blankingSlot vf = if !s.on DISP_CFG_PRESENT || !s.disp.assets || s.doorFenced then
      s.commitEnd (if s.doorFenced then 1 else 0) (if s.doorFenced then 1 else 0)
    else if s.panelHeld then s else (s.litFrame.slotItem.senseSample vf).latchCurrents.slotLight := rfl
  rw [h, if_neg (by simp [hfit, hassets, hlink]), if_neg (by simp [hheld])]

theorem slotLight_dark {s : State} (h : s.disp.lightNext = false) : s.slotLight = s := if_neg (by simp [h])

end Scan

/-- An item that runs ends DONE, and its panel shows the copied rows (R412). -/
theorem commitEnd_busy {s : State} (h : s.on DISP_COMMIT_BUSY = true) (status reason : Nat) :
    s.commitEnd status reason =
      ((s.putB DISP_COMMIT_BUSY false).put DISP_COMMIT_STATUS status).put DISP_COMMIT_REASON reason := if_pos h

end State

theorem exec_panelBlankingSlot_item (vf : Nat) (s : State) :
    s.on DISP_CFG_PRESENT = true → s.disp.assets = true → s.doorFenced = false →
    s.panelHeld = false → s.panel = 3 → s.disp.lightNext = false → s.shownImage = 255 → s.on DISP_COMMIT_BUSY = true →
    ∃ t, exec (.panelBlankingSlot vf) s = .next t ∧ t.get DISP_COMMIT_BUSY = 0 ∧ t.get DISP_COMMIT_HOLD = 0 ∧
      t.get DISP_COMMIT_STATUS = 0 ∧ t.get DISP_COMMIT_REASON = 0 ∧ t.get DISP_DIRTY_ROWS = 0 ∧
      (∀ k, k < 1536 → tget (fun _ => 0) t.disp.pwm k =
        (if (s.get DISP_DIRTY_ROWS).testBit (k / 96) then
          min 4095 (pwmRaw (tget (fun _ => 0) s.disp.gamma (256 * (k % 3) + (tget (fun _ => 0) s.disp.fb k).toNat))
            (s.gainOf k))
        else tget (fun _ => 0) s.disp.pwm k)) ∧
      t.disp.fb = s.disp.fb ∧ t.stress = s.stress ∧ SameRegs [DISP_COMMIT, DISP_DIRTY, DISP_STATUS] s t ∧
      t.log = s.log := by
  intro hfit hassets hlink hheld hpanel hlight hshown hbusy
  have hunlit : s.panel ≠ 2 := by rw [hpanel]; decide
  have hscan := s.scanned_maskRows (s.get DISP_DIRTY_ROWS)
  have hcopy : s.slotCopied = (s.each (maskRows (s.get DISP_DIRTY_ROWS)) State.scanRow).put DISP_DIRTY_ROWS 0 := by
    rw [State.slotCopied, hbusy, Bool.true_or, if_pos rfl, State.copyDirty, if_pos hshown]
  have hitem : s.slotItem = (s.slotCopied.putB DISP_COMMIT_HOLD false).commitEnd 0 0 := if_pos hbusy
  rw [show exec (.panelBlankingSlot vf) s = .next (s.blankingSlot vf) from rfl,
    State.blankingSlot_served hfit hassets hlink hheld, State.litFrame_unlit _ hunlit, hitem, hcopy]
  generalize s.each (maskRows (s.get DISP_DIRTY_ROWS)) State.scanRow = t at hscan
  obtain ⟨hpwm, hdisp, hstate, hregs, hlog, hstress⟩ := hscan
  have hdisp' : t.disp = { s.disp with pwm := t.disp.pwm } := by rw [← hdisp]
  have hruns : ((t.put DISP_DIRTY_ROWS 0).putB DISP_COMMIT_HOLD false).on DISP_COMMIT_BUSY = true := by
    rw [on_putB_ne _ _ _ _ (by decide) (by decide), on_put_ne _ _ _ _ (by decide) (by decide), hregs.on_eq (by decide),
      hbusy]
  rw [State.commitEnd_busy hruns]
  generalize hu : (((t.put DISP_DIRTY_ROWS 0).putB DISP_COMMIT_HOLD false).putB DISP_COMMIT_BUSY false) = u
  have hud : u.disp = t.disp := by rw [← hu]; rfl
  have hur : SameRegs [DISP_COMMIT, DISP_DIRTY] t u := by
    rw [← hu, sameRegs_putB (by decide), sameRegs_putB (by decide), sameRegs_put (by decide)]
    exact sameRegs_refl
  have hrows : u.get DISP_DIRTY_ROWS = 0 := by
    rw [← hu, get_putB_ne _ _ _ _ (by decide) (by decide), get_putB_ne _ _ _ _ (by decide) (by decide),
      get_put_same _ _ _ (by decide)]
    rfl
  have hhold : u.get DISP_COMMIT_HOLD = 0 := by
    rw [← hu, get_putB_ne _ _ _ _ (by decide) (by decide), get_putB_same _ _ _ (by decide)]
    rfl
  have hdone : u.get DISP_COMMIT_BUSY = 0 := by
    rw [← hu, get_putB_same _ _ _ (by decide)]
    rfl
  have hul : u.log = t.log := by rw [← hu]; rfl
  have hus : u.stress = t.stress := by rw [← hu]; rfl
  generalize hw : (u.put DISP_COMMIT_STATUS 0).put DISP_COMMIT_REASON 0 = w
  have hwd : w.disp = t.disp := by rw [← hw]; exact hud
  have hwr : SameRegs [DISP_COMMIT, DISP_DIRTY] t w := by
    rw [← hw, sameRegs_put (by decide), sameRegs_put (by decide)]
    exact hur
  have hwpanel : w.panel = 3 := (hwr.get_eq (by decide)).trans (hstate.trans hpanel)
  rw [State.senseSample_unlit _ (by rw [hwpanel]; decide), State.slotLight_dark (s := w.latchCurrents)
    (by rw [State.latchCurrents_eq, State.withDisp_disp, hwd, hdisp', hlight])]
  refine ⟨_, rfl, ?_, ?_, ?_, ?_, ?_, ?_, ?_, ?_, ?_, ?_⟩
  all_goals rw [State.latchCurrents_eq]
  · rw [State.get_withDisp, ← hw, get_put_ne _ _ _ _ (by decide) (by decide),
      get_put_ne _ _ _ _ (by decide) (by decide), hdone]
  · rw [State.get_withDisp, ← hw, get_put_ne _ _ _ _ (by decide) (by decide),
      get_put_ne _ _ _ _ (by decide) (by decide), hhold]
  · rw [State.get_withDisp, ← hw, get_put_ne _ _ _ _ (by decide) (by decide), get_put_same _ _ _ (by decide)]
    rfl
  · rw [State.get_withDisp, ← hw, get_put_same _ _ _ (by decide)]
    rfl
  · rw [State.get_withDisp, ← hw, get_put_ne _ _ _ _ (by decide) (by decide),
      get_put_ne _ _ _ _ (by decide) (by decide), hrows]
  · intro k hk
    rw [State.withDisp_disp, hwd, hpwm]
    have hcode : s.pixelCode k = (tget (fun _ => 0) s.disp.fb k).toNat := if_pos hshown
    rw [State.onTime, hcode, decide_eq_true (show k / 96 < 16 by omega), Bool.true_and]
    rfl
  · rw [State.withDisp_disp, hwd, hdisp']
  · rw [← hw]
    exact hus.trans hstress
  · exact sameRegs_withDisp.mpr ((hregs.mono (by simp)).next (hwr.mono (by simp)))
  · rw [← hw]
    exact hul.trans hlog

theorem exec_panelBlankingSlot_lights (vf : Nat) (s : State) :
    s.on DISP_CFG_PRESENT = true → s.disp.assets = true → s.doorFenced = false →
    s.panelHeld = false → s.panel = 3 → s.disp.lightNext = true → s.on PWR_STATUS_VLED_OK = true →
    s.on DISP_COMMIT_BUSY = false → s.on DISP_COMMIT_HOLD = true →
    ∃ t, exec (.panelBlankingSlot vf) s = .next t ∧ t.panel = 2 ∧ t.get DISP_STATUS_DISCHARGED = 0 ∧
      t.disp.pwm = s.disp.pwm ∧ t.disp.lightNext = false ∧ t.stress = s.stress ∧ t.out = s.out ∧
      SameRegs [DISP_STATUS] s t ∧ t.log = s.log := by
  intro hfit hassets hlink hheld hpanel hlight _ hbusy hhold
  have hunlit : s.panel ≠ 2 := by rw [hpanel]; decide
  have hcopy : s.slotCopied = s := if_neg (by simp [hbusy, hhold])
  have hitem : s.slotItem = s := (if_neg (by simp [hbusy])).trans hcopy
  rw [show exec (.panelBlankingSlot vf) s = .next (s.blankingSlot vf) from rfl,
    State.blankingSlot_served hfit hassets hlink hheld, State.litFrame_unlit _ hunlit, hitem,
    State.senseSample_unlit _ hunlit, State.latchCurrents_eq]
  generalize hd : { s.disp with
    rate300 := s.on DISP_CFG_RATE_300,
    current := (List.range 3).foldl (fun l c => tset (fun _ => 0) l c (s.get (currentFld c))) s.disp.current } = d
  have hnext : d.lightNext = true := by rw [← hd]; exact hlight
  have hpwm : d.pwm = s.disp.pwm := by rw [← hd]
  have hlights : (s.withDisp d).slotLight = (((s.withDisp d).withDisp { d with lightNext := false }).put
      DISP_STATUS_STATE panelLit).putB DISP_STATUS_DISCHARGED false := if_pos ⟨hnext, hpanel⟩
  rw [hlights]
  refine ⟨_, rfl, ?_, get_putB_same _ DISP_STATUS_DISCHARGED _ (by decide), hpwm, rfl, rfl, rfl, ?_, rfl⟩
  · exact (get_putB_ne _ _ DISP_STATUS_STATE _ (by decide) (by decide)).trans (get_put_same _ _ _ (by decide))
  · rw [sameRegs_putB (by decide), sameRegs_put (by decide), sameRegs_withDisp, sameRegs_withDisp]
    exact sameRegs_refl

namespace State

section Lit
variable (s : State)

/-- Outputs that are sent one after the other stand before those sent earlier. -/
theorem each_send {α : Type} (g : α → Output) (l : List α) (o : List Output) :
    ({ s with out := o } : State).each l (fun t a => t.send (g a)) = { s with out := l.reverse.map g ++ o } := by
  induction l generalizing o with
  | nil => rfl
  | cons a l ih =>
    refine (ih (g a :: o)).trans ?_
    simp

theorem litFrame_lit (h : s.panel = 2) {k n : Nat} (hpwm : s.disp.pwm = [(k, n)]) (hk : k < 1536) :
    s.litFrame = ({ s with out := (List.range 16).reverse.map (fun y => Output.drive 0 y (s.scanVals y)) ++ s.out } :
      State).stressPixel (k, n) := by
  have hrows : s.litFrame = (s.each (List.range 16) (fun t y => t.send (.drive 0 y (s.scanVals y)))).each
      (s.disp.pwm.filter (fun e => decide (e.1 < 96 * 16))) stressPixel := if_pos h
  rw [hrows, hpwm, List.filter_cons_of_pos (by simpa using hk)]
  exact congrArg (State.stressPixel · (k, n))
    (s.each_send (fun y => Output.drive 0 y (s.scanVals y)) (List.range 16) s.out)

end Lit

end State

theorem exec_panelBlankingSlot_ages (vf k n : Nat) (s : State) :
    s.on DISP_CFG_PRESENT = true → s.disp.assets = true → s.doorFenced = false →
    s.panelHeld = false → s.panel = 2 → s.on DISP_COMMIT_BUSY = false → s.on DISP_COMMIT_HOLD = true → s.on DISP_CFG_SENSE_EN = false →
    s.disp.pwm = [(k, n)] → k < 1536 →
    ∃ t, exec (.panelBlankingSlot vf) s = .next t ∧
      t.out = (List.range 16).reverse.map (fun y => Output.drive 0 y (s.scanVals y)) ++ s.out ∧
      tget (fun _ => 0) t.stress.frac k =
        (tget (fun _ => 0) s.stress.frac k + tget (fun _ => 0) s.disp.current (k % 3) * n) % 9000000000 ∧
      tget (fun _ => 0) t.stress.s k = (tget (fun _ => 0) s.stress.s k +
        (tget (fun _ => 0) s.stress.frac k + tget (fun _ => 0) s.disp.current (k % 3) * n) / 9000000000) % 2 ^ 32 ∧
      t.disp.pwm = s.disp.pwm ∧ t.regs = s.regs ∧ t.log = s.log := by
  intro hfit hassets hlink hheld hpanel hbusy hhold hsense hpwm hk
  rw [show exec (.panelBlankingSlot vf) s = .next (s.blankingSlot vf) from rfl,
    State.blankingSlot_served hfit hassets hlink hheld, s.litFrame_lit hpanel hpwm hk]
  generalize hf : ({ s with out := (List.range 16).reverse.map (fun y => Output.drive 0 y (s.scanVals y)) ++ s.out } :
    State).stressPixel (k, n) = f
  have hregs : f.regs = s.regs := by rw [← hf]; rfl
  have hfpwm : f.disp.pwm = s.disp.pwm := by rw [← hf]; rfl
  have hcopy : f.slotCopied = f := if_neg (by rw [on_congr hregs, on_congr hregs, hbusy, hhold]; decide)
  have hitem : f.slotItem = f := (if_neg (by rw [on_congr hregs, hbusy]; decide)).trans hcopy
  have hdark (d : Display) : (f.withDisp d).slotLight = f.withDisp d := by
    refine if_neg fun h => ?_
    have hlit : f.panel = 2 := (get_congr hregs _).trans hpanel
    exact absurd (h.2.symm.trans hlit) (by decide)
  rw [hitem, f.senseSample_off ((on_congr hregs _).trans hsense), State.latchCurrents_eq, hdark]
  refine ⟨_, rfl, ?_, ?_, ?_, hfpwm, hregs, ?_⟩
  · rw [← hf]
    rfl
  · rw [← hf]
    exact tget_tset_same ..
  · rw [← hf]
    exact tget_tset_same ..
  · rw [← hf]
    rfl

theorem exec_panelBlankingSlot_fenced (vf : Nat) (s : State) :
    s.doorFenced = true → s.on DISP_COMMIT_BUSY = true →
    ∃ t, exec (.panelBlankingSlot vf) s = .next t ∧ t.get DISP_COMMIT_BUSY = 0 ∧ t.get DISP_COMMIT_STATUS = 1 ∧
      t.get DISP_COMMIT_REASON = 1 ∧ OnlyRegs [DISP_COMMIT] s t := by
  intro hlink hbusy
  have h : s.blankingSlot vf = s.commitEnd 1 1 := by
    rw [State.blankingSlot, if_pos (by simp [hlink]), hlink]
    rfl
  rw [show exec (.panelBlankingSlot vf) s = .next (s.blankingSlot vf) from rfl, h, State.commitEnd_busy hbusy]
  refine ⟨_, rfl, ?_, ?_, get_put_same _ _ _ (by decide), ?_⟩
  · rw [get_put_ne _ _ _ _ (by decide) (by decide), get_put_ne _ _ _ _ (by decide) (by decide),
      get_putB_same _ _ _ (by decide)]
    rfl
  · rw [get_put_ne _ _ _ _ (by decide) (by decide), get_put_same _ _ _ (by decide)]
    rfl
  · exact (((OnlyRegs.refl _ s).putB _ (by decide)).put _ (by decide)).put _ (by decide)

namespace State

/-! ### The ageing gains (R409) -/

/-- `t` is `s` but for the gains of the subpixels that `p` names, which were computed, and the rows of the gains that
changed, which are dirty. -/
structure Regained (p : Nat → Bool) (s t : State) : Prop where
  gain : ∀ k, t.gainOf k = if p k then (s.newGain k).1 else s.gainOf k
  marked : ∀ k, t.gainOf k ≠ s.gainOf k → (t.get DISP_DIRTY_ROWS).testBit (k / 96) = true
  kept : ∀ r, (s.get DISP_DIRTY_ROWS).testBit r = true → (t.get DISP_DIRTY_ROWS).testBit r = true
  disp : { t.disp with gain := s.disp.gain, imgDirty := s.disp.imgDirty } = s.disp
  stress : t.stress = s.stress
  regs : SameRegs [DISP_DIRTY] s t

namespace Regained
variable {p q : Nat → Bool} {s t u : State}

theorem none (s : State) : Regained (fun _ => false) s s :=
  ⟨fun _ => rfl, fun _ h => absurd rfl h, fun _ h => h, rfl, rfl, sameRegs_refl⟩

/-- The gains to come depend on nothing that a gain changes. -/
theorem newGain_eq (h : Regained p s t) (k : Nat) : t.newGain k = s.newGain k := by
  have hdisp : t.disp = { s.disp with gain := t.disp.gain, imgDirty := t.disp.imgDirty } := by rw [← h.disp]
  have hstep (c : Nat) : t.get (DISP_CURVE_STEP_STEP c) = s.get (DISP_CURVE_STEP_STEP c) :=
    h.regs.get_eq (by simp [DISP_CURVE_STEP, DISP_DIRTY]; omega)
  have huse : t.on DISP_CFG_USE_SENSE = s.on DISP_CFG_USE_SENSE := h.regs.on_eq (by decide)
  have hmax : t.get DISP_AGE_CFG_MAX_GAIN = s.get DISP_AGE_CFG_MAX_GAIN := h.regs.get_eq (by decide)
  have hcurve (c a b : Nat) : t.curveAt c a b = s.curveAt c a b := by
    rw [curveAt, curveAt, hdisp]
  rw [newGain, newGain, hcurve, hstep, huse, hmax, h.stress, hdisp]

theorem pwm (h : Regained p s t) : t.disp.pwm = s.disp.pwm := by rw [← h.disp]
theorem fb (h : Regained p s t) : t.disp.fb = s.disp.fb := by rw [← h.disp]

theorem trans (h : Regained p s t) (k : Regained q t u) : Regained (fun j => p j || q j) s u := by
  refine ⟨fun j => ?_, fun j hj => ?_, fun r hr => k.kept r (h.kept r hr), ?_, k.stress.trans h.stress,
    h.regs.next k.regs⟩
  · rw [k.gain, h.gain, h.newGain_eq]
    cases p j <;> cases q j <;> rfl
  · by_cases hu : u.gainOf j = t.gainOf j
    · exact k.kept _ (h.marked j (by rwa [← hu]))
    · exact k.marked j hu
  · rw [← h.disp, ← k.disp]

theorem each {l : List Nat} (hl : ∀ k ∈ l, k < 1536) {f : State → Nat → State}
    (hf : ∀ t, ∀ k < 1536, Regained (fun j => decide (j = k)) t (f t k)) (s : State) :
    Regained (fun k => l.any (fun i => decide (k = i))) s (s.each l f) := by
  induction l generalizing s with
  | nil => exact none s
  | cons a l ih => exact (hf s a (hl a (by simp))).trans (ih (fun k hk => hl k (by simp [hk])) (f s a))

end Regained

section Gains
variable (s : State)

theorem regained_regain {k : Nat} (hk : k < 1536) : Regained (fun j => decide (j = k)) s (s.regain k) := by
  have hrow : k / 96 < 16 := by omega
  by_cases h : (s.newGain k).1 = s.gainOf k
  · have hsame : s.regain k = s := if_pos h
    rw [hsame]
    refine ⟨fun j => ?_, fun _ hj => absurd rfl hj, fun _ hr => hr, rfl, rfl, sameRegs_refl⟩
    simp only [decide_eq_true_eq]
    split
    case isTrue hj => rw [hj, h]
    case isFalse => rfl
  · have hset : s.regain k = (s.put DISP_DIRTY_ROWS (s.get DISP_DIRTY_ROWS ||| 2 ^ (k / 96))).withDisp
        { s.disp with
          imgDirty := s.disp.imgDirty ||| 2 ^ (k / 96)
          gain := tset (fun _ => 16384) s.disp.gain k (s.newGain k).1 } := if_neg h
    have hgain (j : Nat) : (s.regain k).gainOf j = if j = k then (s.newGain k).1 else s.gainOf j := by
      rw [hset, gainOf, withDisp_disp, tget_tset]
      rfl
    have hbits (r : Nat) : ((s.regain k).get DISP_DIRTY_ROWS).testBit r =
        ((s.get DISP_DIRTY_ROWS).testBit r || decide (k / 96 = r)) := by
      rw [hset, get_withDisp]
      exact s.testBit_dirty hrow r
    refine ⟨fun j => ?_, fun j hj => ?_, fun r hr => ?_, ?_, ?_, ?_⟩
    · rw [hgain]
      simp only [decide_eq_true_eq]
      split
      case isTrue hj => rw [hj]
      case isFalse => rfl
    · have hjk : j = k := by
        by_contra hne
        exact hj (by rw [hgain, if_neg hne])
      rw [hbits, hjk]
      simp
    · rw [hbits, hr, Bool.true_or]
    · rw [hset, withDisp_disp]
    · rw [hset]
      rfl
    · rw [hset, sameRegs_withDisp, sameRegs_put (by decide)]
      exact sameRegs_refl

/-- What the hourly records of held gains leave alone (R409). -/
structure ReportKept (s t : State) : Prop where
  disp : { t.disp with heldHour := s.disp.heldHour } = s.disp
  stress : t.stress = s.stress
  regs : SameRegs [LOG_DROP portDisp, LOG_STATUS] s t

theorem ReportKept.trans {s t u : State} (h : ReportKept s t) (k : ReportKept t u) : ReportKept s u :=
  ⟨by rw [← h.disp, ← k.disp], k.stress.trans h.stress, h.regs.next k.regs⟩

theorem withDisp_stress (x : Display) : (s.withDisp x).stress = s.stress := rfl

/-- How many gains of a colour MAX_GAIN holds. -/
def heldCount (c : Nat) : Nat := ((List.range 512).filter (fun i => (s.newGain (3 * i + c)).2)).length

/-- The hour of a colour's record is noted. -/
def heldNoted (c h : Nat) : State := s.withDisp { s.disp with heldHour := tset (fun _ => 0) s.disp.heldHour c h }

theorem heldReport_eq (c : Nat) : s.heldReport c =
    if s.heldCount c = 0 ∨ tget (fun _ => 0) s.disp.heldHour c = s.opSec / 3600 + 1 then s
    else (s.ev portDisp 0xB005 c (s.heldCount c)).heldNoted c (s.opSec / 3600 + 1) := rfl

theorem ReportKept.gain {s t : State} (h : ReportKept s t) : t.disp.gain = s.disp.gain := by rw [← h.disp]
theorem ReportKept.pwm {s t : State} (h : ReportKept s t) : t.disp.pwm = s.disp.pwm := by rw [← h.disp]
theorem ReportKept.fb {s t : State} (h : ReportKept s t) : t.disp.fb = s.disp.fb := by rw [← h.disp]

theorem heldReport_kept (c : Nat) : ReportKept s (s.heldReport c) := by
  rw [heldReport_eq]
  generalize s.heldCount c = n
  generalize s.opSec / 3600 + 1 = h
  split
  · exact ⟨rfl, rfl, sameRegs_refl⟩
  · have hregs := s.sameRegs_ev (l := [LOG_DROP portDisp, LOG_STATUS]) (p := portDisp) (by simp) 0xB005 c n 0 false
    have hdisp := s.ev_disp portDisp 0xB005 c n 0 false
    have hstress := s.ev_stress portDisp 0xB005 c n 0 false
    generalize s.ev portDisp 0xB005 c n 0 false = t at *
    rw [heldNoted]
    exact ⟨by rw [withDisp_disp, hdisp], by rw [withDisp_stress, hstress], sameRegs_withDisp.mpr hregs⟩

theorem gainRecompute_up (h : s.mpUp = true) : s.gainRecompute =
    ((s.each (List.range 1536) regain).each [0, 1, 2] heldReport).put DISP_STATS_CLIPPED_PIX
      (satTo 8 ((List.range 1536).filter (fun k => (s.newGain k).2)).length) := by
  rw [gainRecompute, if_neg (by simp [h])]

theorem heldReports_kept : ReportKept s (s.each [0, 1, 2] heldReport) := by
  have h0 := s.heldReport_kept 0
  have h1 := (s.heldReport 0).heldReport_kept 1
  have h2 := ((s.heldReport 0).heldReport 1).heldReport_kept 2
  rw [each, List.foldl_cons, List.foldl_cons, List.foldl_cons, List.foldl_nil]
  exact (h0.trans h1).trans h2

end Gains

end State

theorem exec_gainRecompute_gains (s : State) :
    s.mpUp = true → ∃ t, exec .gainRecompute s = .next t ∧ (∀ k, k < 1536 → t.gainOf k = (s.newGain k).1) ∧
    (∀ k, k < 1536 → t.gainOf k ≠ s.gainOf k → (t.get DISP_DIRTY_ROWS).testBit (k / 96) = true) ∧
    t.get DISP_STATS_CLIPPED_PIX = min ((List.range 1536).filter (fun k => (s.newGain k).2)).length 255 ∧
    t.stress = s.stress ∧ t.disp.pwm = s.disp.pwm ∧ t.disp.fb = s.disp.fb := by
  intro hup
  rw [show exec .gainRecompute s = .next s.gainRecompute from rfl, s.gainRecompute_up hup]
  have hset := State.Regained.each (l := List.range 1536) (fun k hk => List.mem_range.mp hk)
    (fun t k hk => t.regained_regain hk) s
  generalize s.each (List.range 1536) State.regain = t at *
  have hrep := t.heldReports_kept
  generalize t.each [0, 1, 2] State.heldReport = u at *

  have hgain (n k : Nat) : (u.put DISP_STATS_CLIPPED_PIX n).gainOf k = t.gainOf k := by
    rw [State.gainOf, State.gainOf, State.put_disp, hrep.gain]
  have hdirty : u.get DISP_DIRTY_ROWS = t.get DISP_DIRTY_ROWS := hrep.regs.get_eq (by decide)
  refine ⟨_, rfl, fun k hk => ?_, fun k _ hk => ?_, ?_, ?_, ?_, ?_⟩
  · rw [hgain, hset.gain, if_pos (by simpa using hk)]
  · rw [get_put_ne _ _ _ _ (by decide) (by decide), hdirty]
    exact hset.marked k (by rwa [hgain] at hk)
  · generalize ((List.range 1536).filter (fun k => (s.newGain k).2)).length = n
    rw [get_put_same _ _ _ (by decide), satTo]
    exact Nat.mod_eq_of_lt (Nat.lt_succ_of_le (Nat.min_le_right n 255))
  · rw [State.put_stress, hrep.stress, hset.stress]
  · rw [State.put_disp, hrep.pwm, hset.pwm]
  · rw [State.put_disp, hrep.fb, hset.fb]

theorem exec_stressSave_saves (s : State) :
    s.mpUp = true → ∃ t, exec .stressSave s = .next t ∧ t.stress = { s.stress with
      savedS := s.stress.s, savedFrac := s.stress.frac, savedVf0 := s.disp.vf0, savedVf0Set := s.on DISP_STATUS_VF0_SET } ∧
    { t with stress := s.stress } = s := by
  intro hup
  rw [show exec .stressSave s = .next s.stressSave from rfl, State.stressSave, if_neg (by simp [hup])]
  exact ⟨_, rfl, rfl, rfl⟩

/-- Settles O54: each store, copy, ageing and gain as the lemmas above say it, clause by clause. -/
theorem panelFrames : Obligations.PanelFrames :=
  ⟨exec_dispFbWrite_stores, exec_dispCommitGo_starts, exec_panelBlankingSlot_item, exec_panelBlankingSlot_lights,
    exec_panelBlankingSlot_ages, exec_panelBlankingSlot_fenced, exec_gainRecompute_gains, exec_stressSave_saves⟩

end Sys2Proof.Machine
end

section
/-! PROOFS. What filling the quads leaves of the Millstone and of the module (R236 to R242, R281). -/

namespace Sys2Proof.Machine

open Reg State

/-- `b` is `a` but for its firm time with its results and deltas, its solve, and the entries it last received. -/
def BodyKept (a b : Body) : Prop :=
  { b with firm := a.firm, firmPubs := a.firmPubs, ring := a.ring, solving := a.solving, solveS := a.solveS,
           held := a.held } = a

/-- `n` is `m` but for its bodies, its quads, its forecasts, and the note of a snapshot that waited. -/
def MillKept (m n : Millstone) : Prop :=
  { n with bodies := m.bodies, quads := m.quads, forecasts := m.forecasts, snapWaited := m.snapWaited } = m

namespace BodyKept
variable {a b c : Body}

theorem refl (a : Body) : BodyKept a a := rfl

theorem trans (h : BodyKept a b) (k : BodyKept b c) : BodyKept a c := by
  rw [BodyKept] at h k ⊢
  rw [← h, ← k]

theorem solved (a : Body) (r : Option SolveRun) (l : List (Nat × Word)) :
    BodyKept a { a with solving := r, solveS := l } := rfl
theorem firmed (a : Body) (f : Nat) (p : List (Nat × (F32 × F32 × Bool))) (l : List Delta) :
    BodyKept a { a with firm := f, firmPubs := p, ring := l } := rfl
theorem holding (a : Body) (l : List (Nat × (Word × Word))) : BodyKept a { a with held := l } := rfl

theorem cells (h : BodyKept a b) : b.cells = a.cells := (congrArg Body.cells h :)
theorem tm (h : BodyKept a b) : b.tm = a.tm := (congrArg Body.tm h :)
theorem run (h : BodyKept a b) : b.run = a.run := (congrArg Body.run h :)
theorem readings (h : BodyKept a b) : b.readings = a.readings := (congrArg Body.readings h :)
theorem late (h : BodyKept a b) : b.late = a.late := (congrArg Body.late h :)
theorem mAged (h : BodyKept a b) : b.mAged = a.mAged := (congrArg Body.mAged h :)
theorem mOldest (h : BodyKept a b) : b.mOldest = a.mOldest := (congrArg Body.mOldest h :)
theorem rollTo (h : BodyKept a b) : b.rollTo = a.rollTo := (congrArg Body.rollTo h :)
theorem resolveTe (h : BodyKept a b) : b.resolveTe = a.resolveTe := (congrArg Body.resolveTe h :)
theorem heldOn (h : BodyKept a b) : b.heldOn = a.heldOn := (congrArg Body.heldOn h :)
theorem now (h : BodyKept a b) : b.now = a.now := by rw [Body.now, Body.now, h.rollTo, h.tm]

end BodyKept

namespace MillKept
variable {m n o : Millstone}

theorem refl (m : Millstone) : MillKept m m := rfl

theorem trans (h : MillKept m n) (k : MillKept n o) : MillKept m o := by
  rw [MillKept] at h k ⊢
  rw [← h, ← k]

theorem inbox (h : MillKept m n) : n.inbox = m.inbox := (congrArg Millstone.inbox h :)
theorem snapBusy (h : MillKept m n) : n.snapBusy = m.snapBusy := (congrArg Millstone.snapBusy h :)
theorem snapWait (h : MillKept m n) : n.snapWait = m.snapWait := (congrArg Millstone.snapWait h :)
theorem snapGot (h : MillKept m n) : n.snapGot = m.snapGot := (congrArg Millstone.snapGot h :)
theorem snapSeq (h : MillKept m n) : n.snapSeq = m.snapSeq := (congrArg Millstone.snapSeq h :)

end MillKept

/-- `t` is `s` after work of the Millstone that ends no step: the registers of `l` may differ, a body its firm time, and
with no snapshot in progress the areas and MILL_SNAP_STATUS stay. -/
structure Dispatched (l : List Nat) (s t : State) : Prop where
  body : ∀ k, BodyKept (s.body k) (t.body k)
  mill : MillKept s.mill t.mill
  regs : SameRegs l s t
  log : t.log = s.log
  est : t.est = s.est
  tim : t.tim = s.tim
  areas : s.mill.snapBusy = false → t.snaps = s.snaps ∧ t.reg MILL_SNAP_STATUS = s.reg MILL_SNAP_STATUS

namespace Dispatched
variable {l : List Nat} {s t u : State}

theorem refl (l : List Nat) (s : State) : Dispatched l s s :=
  ⟨fun _ => rfl, rfl, sameRegs_refl, rfl, rfl, rfl, fun _ => ⟨rfl, rfl⟩⟩

theorem trans (h : Dispatched l s t) (k : Dispatched l t u) : Dispatched l s u := by
  refine ⟨fun j => (h.body j).trans (k.body j), h.mill.trans k.mill, h.regs.next k.regs, k.log.trans h.log,
    k.est.trans h.est, k.tim.trans h.tim, fun hs => ?_⟩
  obtain ⟨h1, h2⟩ := h.areas hs
  obtain ⟨k1, k2⟩ := k.areas (h.mill.snapBusy.trans hs)
  exact ⟨k1.trans h1, k2.trans h2⟩

theorem mono {m : List Nat} (h : Dispatched l s t) (hl : ∀ a ∈ l, a ∈ m) : Dispatched m s t :=
  { h with regs := h.regs.mono hl }

/-- Work after work, none of which touches whether a snapshot is in progress. -/
theorem each {α : Type} {f : State → α → State} {w : List α} {s : State}
    (hf : ∀ a ∈ w, ∀ t, t.mill.snapBusy = s.mill.snapBusy → Dispatched l t (f t a)) :
    Dispatched l s (s.each w f) := by
  have hrun : ∀ (w : List α) (t : State), (∀ a ∈ w, ∀ t, t.mill.snapBusy = s.mill.snapBusy → Dispatched l t (f t a)) →
      t.mill.snapBusy = s.mill.snapBusy → Dispatched l t (t.each w f) := by
    intro w
    induction w with
    | nil => exact fun t _ _ => refl l t
    | cons a w ih =>
      intro t h ht
      have hstep := h a (by simp) t ht
      exact hstep.trans (ih (f t a) (fun b hb => h b (by simp [hb])) (hstep.mill.snapBusy.trans ht))
  exact hrun w s hf rfl

end Dispatched

namespace State

section Work
variable (l : List Nat) (s : State) (k : Nat)

/-- A state whose quads do other work. -/
def withQuads (q : List (Nat × Work)) : State := { s with mill := { s.mill with quads := q } }

/-- A state with other forecast runs. -/
def withRuns (r : List (Nat × FcRun)) (w : Bool) : State :=
  { s with mill := { s.mill with snapWaited := w, forecasts := r } }

theorem dispatched_withQuads (q : List (Nat × Work)) : Dispatched l s (s.withQuads q) :=
  ⟨fun _ => rfl, rfl, fun _ _ => rfl, rfl, rfl, rfl, fun _ => ⟨rfl, rfl⟩⟩

theorem dispatched_withRuns (r : List (Nat × FcRun)) (w : Bool) : Dispatched l s (s.withRuns r w) :=
  ⟨fun _ => rfl, rfl, fun _ _ => rfl, rfl, rfl, rfl, fun _ => ⟨rfl, rfl⟩⟩

theorem dispatched_setBody {b : Body} (hb : BodyKept (s.body k) b) : Dispatched l s (s.setBody k b) := by
  refine ⟨fun j => ?_, rfl, fun _ _ => rfl, rfl, rfl, rfl, fun _ => ⟨rfl, rfl⟩⟩
  by_cases h : j = k
  · rw [h, body_setBody_same]
    exact hb
  · rw [body_setBody_ne _ _ _ h]
    exact BodyKept.refl _

theorem dispatched_took : Dispatched l s s.took :=
  ⟨fun _ => rfl, rfl, fun _ _ => rfl, rfl, rfl, rfl, fun _ => ⟨rfl, rfl⟩⟩

/-- A field of a register that may differ, which is not MILL_SNAP_STATUS. -/
theorem dispatched_put {f : Fld} (n : Nat) (hf : f.addr ∈ l) (hs : f.addr ≠ MILL_SNAP_STATUS) :
    Dispatched l s (s.put f n) :=
  ⟨fun _ => rfl, rfl, (SameRegs.refl l s).put n hf, rfl, rfl, rfl, fun _ => ⟨rfl, reg_put_ne _ _ _ (Ne.symm hs)⟩⟩

theorem dispatched_readEntry (n : Nat) : Dispatched l s (s.readEntry k n).1 := by
  rw [readEntry]
  dsimp only
  split
  · exact dispatched_setBody l s k (BodyKept.holding _ _)
  · cases (s.body k).held.find? (fun p => p.1 = n) with
    | some p => exact Dispatched.refl l s
    | none => exact dispatched_took l s
theorem dispatched_readInputs (acts : List (Nat × Word)) : Dispatched l s (s.readInputs k acts).1 := by
  have hrun : ∀ (w : List Nat) (a : State × List (Nat × (Word × Word × Bool))),
      Dispatched l a.1 (w.foldl (fun (a : State × List (Nat × (Word × Word × Bool))) n =>
        let x := a.1.readEntry k n
        (x.1, a.2 ++ [(n, x.2)])) a).1 := by
    intro w
    induction w with
    | nil => exact fun a => Dispatched.refl l a.1
    | cons n w ih =>
      intro a
      exact (dispatched_readEntry l a.1 k n).trans (ih ((a.1.readEntry k n).1, a.2 ++ [(n, (a.1.readEntry k n).2)]))
  exact hrun (s.stepEntries k) (s, [])

theorem dispatched_firmAdvance (hk : MILL_RUN_STATUS k ∈ l) : Dispatched l s (s.firmAdvance k) := by
  rw [firmAdvance]
  dsimp only
  generalize s.leadEff k = lead
  generalize s.firmTime k = f
  generalize (if f = (s.body k).tm then (s.body k).lastPubs else if f = (s.body k).firm then (s.body k).firmPubs
    else ((s.body k).pubsAt f).getD (s.body k).firmPubs) = res
  generalize (s.body k).ring.filter (fun d => decide (f < d.te)) = ring
  have hs : MILL_RUN_STATUS k ≠ MILL_SNAP_STATUS := by simp only [MILL_RUN_STATUS, MILL_SNAP_STATUS]; omega
  split
  · exact Dispatched.refl l s
  · exact (((dispatched_setBody l s k (BodyKept.firmed _ _ _ _)).trans (dispatched_put l _ _ hk hs)).trans
      (dispatched_put l _ _ hk hs)).trans (dispatched_put l _ _ hk hs)

theorem dispatched_solveStart : Dispatched l s (s.solveStart k) := by
  rw [solveStart]
  cases (s.body k).solving with
  | none => exact Dispatched.refl l s
  | some r =>
    exact (dispatched_readInputs l s k s.est.actFront).trans (dispatched_setBody l _ k (BodyKept.solved _ _ _))

theorem dispatched_forecastBegin : Dispatched l s (s.forecastBegin k) :=
  (dispatched_readInputs l s k s.est.actFront).trans
    (dispatched_withRuns l _ _ (s.readInputs k s.est.actFront).1.mill.snapWaited)

theorem dispatched_snapshotBegin (hl : MILL_SNAP_STATUS ∈ l) (hs : s.mill.snapBusy = true) :
    Dispatched l s s.snapshotBegin := by
  rw [snapshotBegin, setArea, snapShow]
  refine ⟨fun _ => rfl, rfl, ?_, rfl, rfl, rfl, fun h => absurd h (by rw [hs]; decide)⟩
  exact SameRegs.put (fun _ _ => rfl) _ hl

theorem dispatched_quadTake {p : Nat × Work} (hl : MILL_SNAP_STATUS ∈ l)
    (hp : p.2 = Work.snapshot → s.mill.snapBusy = true) : Dispatched l s (s.quadTake p) := by
  have h : Dispatched l s (s.withQuads (s.mill.quads ++ [p])) := dispatched_withQuads l s _
  obtain ⟨q, w⟩ := p
  cases w with
  | tile k t => exact h
  | solve k => exact h.trans (dispatched_solveStart l _ k)
  | forecast k => exact h.trans (dispatched_forecastBegin l _ k)
  | snapshot => exact h.trans (dispatched_snapshotBegin l _ hl (hp rfl))

theorem dispatched_deferAll (hl : MILL_SCHED_STATS ∈ l) : Dispatched l s s.deferAll := by
  rw [deferAll]
  split
  · exact Dispatched.refl l s
  · exact (dispatched_withRuns l s _ _).trans
      (dispatched_put l (s.withRuns _ _) (f := MILL_SCHED_STATS_DEFERRED) _ hl (by decide))

theorem mem_of_mem_insertBy {α : Type} {key : α → Nat} {a x : α} {w : List α} (h : a ∈ insertBy key x w) :
    a = x ∨ a ∈ w := by
  induction w with
  | nil => exact Or.inl (List.mem_singleton.mp h)
  | cons y w ih =>
    rw [insertBy] at h
    split at h
    · exact List.mem_cons.mp h
    · rcases List.mem_cons.mp h with rfl | h
      · exact Or.inr List.mem_cons_self
      · exact (ih h).imp id (List.mem_cons_of_mem _)

theorem mem_of_mem_sortBy {α : Type} {key : α → Nat} {a : α} {w : List α} (h : a ∈ sortBy key w) : a ∈ w := by
  induction w with
  | nil => exact h
  | cons y w ih => exact List.mem_cons.mpr ((mem_of_mem_insertBy h).imp id ih)

/-- The write of a snapshot is ready work only while the snapshot is in progress. -/
theorem snapBusy_of_readyWork {p : Nat × Nat × Nat × Work} (h : p ∈ s.readyWork) (hp : p.2.2.2 = Work.snapshot) :
    s.mill.snapBusy = true := by
  rw [readyWork] at h
  simp only [List.mem_append, List.mem_flatMap, List.mem_filterMap] at h
  rcases h with (⟨j, -, hj⟩ | ⟨j, -, hj⟩) | h
  · cases hr : (s.body j).run with
    | none =>
      rw [hr] at hj
      exact absurd hj (by simp)
    | some r =>
      rw [hr] at hj
      obtain ⟨t, -, rfl⟩ := List.mem_map.mp hj
      exact absurd hp (by simp)
  · obtain ⟨r, -, rfl⟩ := Option.map_eq_some_iff.mp hj
    exact absurd hp (by simp)
  · split at h
    · exact absurd h (by simp)
    · rcases List.mem_append.mp h with h | h
      · obtain ⟨q, -, rfl⟩ := List.mem_map.mp h
        exact absurd hp (by simp)
      · split at h
        · next hlive => exact (Bool.and_eq_true_iff.mp hlive).1
        · exact absurd h (by simp)

/-- The pieces of work that free quads take (R241). -/
theorem dispatched_dispatch : Dispatched (s.millRegs k) s s.dispatch := by
  rw [dispatch]
  split
  · exact Dispatched.refl _ s
  · have hfirm : Dispatched (s.millRegs k) s (s.each (s.mill.bodies.map (fun p => p.1)) firmAdvance) := by
      refine Dispatched.each fun j hj t _ => dispatched_firmAdvance _ t j ?_
      obtain ⟨p, hp, rfl⟩ := List.mem_map.mp hj
      exact List.mem_append_right _ (List.mem_map.mpr ⟨p, hp, rfl⟩)
    dsimp only
    generalize s.each (s.mill.bodies.map (fun p => p.1)) firmAdvance = u at *
    have hsched : MILL_SCHED_STATS ∈ s.millRegs k := by simp [millRegs]
    have hsnap : MILL_SNAP_STATUS ∈ s.millRegs k := by simp [millRegs]
    have hquads : Dispatched (s.millRegs k) u
        (u.withQuads (u.mill.quads.filter (fun (p : Nat × Work) => u.workLive p.2))).deferAll :=
      (dispatched_withQuads _ u _).trans (dispatched_deferAll _ _ hsched)
    refine (hfirm.trans hquads).trans ?_
    rw [withQuads]
    generalize State.deferAll _ = v
    refine Dispatched.each fun p hp t ht => dispatched_quadTake _ t hsnap fun hw => ht.trans ?_
    obtain ⟨q, hq, hqp⟩ := List.mem_map.mp (List.of_mem_zip hp).2
    exact snapBusy_of_readyWork _ (List.mem_filter.mp (mem_of_mem_sortBy hq)).1 (hqp.trans hw)

end Work

end State

end Sys2Proof.Machine
end

section
/-! PROOFS. What becomes of a reading (R274, R276, R281, R283). -/

namespace Sys2Proof.Machine

open Reg State

namespace State

section Readings
variable {s t u : State} {k : Nat}

theorem mem_millRegs {a : Nat} (h : a ∈ s.millRegs k) :
    a = MILL_SNAP_STATUS ∨ a = MILL_SCHED_STATS ∨ ∃ j, a = MILL_RUN_STATUS j := by
  simp only [millRegs, List.mem_append, List.mem_cons, List.not_mem_nil, or_false, List.mem_map] at h
  rcases h with (h | h | h) | ⟨p, -, h⟩
  · exact Or.inl h
  · exact Or.inr (Or.inl h)
  · exact Or.inr (Or.inr ⟨k, h⟩)
  · exact Or.inr (Or.inr ⟨p.1, h.symm⟩)

theorem assimStats_apart : MILL_ASSIM_STATS ∉ s.millRegs k := by
  intro h
  rcases mem_millRegs h with h | h | ⟨j, h⟩ <;> simp only [MILL_ASSIM_STATS, MILL_SNAP_STATUS, MILL_SCHED_STATS,
    MILL_RUN_STATUS] at h <;> omega

theorem rbStats_apart (j : Nat) : MILL_RB_STATS j ∉ s.millRegs k := by
  intro h
  rcases mem_millRegs h with h | h | ⟨j, h⟩ <;> simp only [MILL_RB_STATS, MILL_SNAP_STATUS, MILL_SCHED_STATS,
    MILL_RUN_STATUS] at h <;> omega

theorem runCfg_apart (j : Nat) : MILL_RUN_CFG j ∉ s.millRegs k := by
  intro h
  rcases mem_millRegs h with h | h | ⟨j, h⟩ <;> simp only [MILL_RUN_CFG, MILL_SNAP_STATUS, MILL_SCHED_STATS,
    MILL_RUN_STATUS] at h <;> omega

/-- `t` is `s` after something happened to body `k` alone. -/
structure BodyStep (k : Nat) (s t : State) : Prop where
  regs : SameRegs (s.millRegs k) s t
  listed : ∀ a ∈ t.millRegs k, a ∈ s.millRegs k
  log : t.log = s.log
  inbox : t.mill.inbox = s.mill.inbox

theorem BodyStep.refl (k : Nat) (s : State) : BodyStep k s s := ⟨sameRegs_refl, fun _ h => h, rfl, rfl⟩

theorem BodyStep.trans (h : BodyStep k s t) (i : BodyStep k t u) : BodyStep k s u :=
  ⟨h.regs.next (i.regs.mono h.listed), fun a ha => h.listed a (i.listed a ha), i.log.trans h.log, i.inbox.trans h.inbox⟩

/-- The bodies listed after a body was set are those listed before, and it. -/
theorem key_of_mem_tset {α : Type} [DecidableEq α] {d : Nat → α} {w : List (Nat × α)} {k : Nat} {v : α} {p : Nat × α}
    (h : p ∈ tset d w k v) : p.1 = k ∨ ∃ q ∈ w, q.1 = p.1 := by
  have hinsert : ∀ w : List (Nat × α), p ∈ tinsert w k v → p = (k, v) ∨ p ∈ w := by
    intro w
    induction w with
    | nil => exact fun h => Or.inl (List.mem_singleton.mp h)
    | cons q w ih =>
      intro h
      rw [tinsert] at h
      split at h
      · exact List.mem_cons.mp h
      · rcases List.mem_cons.mp h with rfl | h
        · exact Or.inr List.mem_cons_self
        · exact (ih h).imp id (List.mem_cons_of_mem _)
  rw [tset] at h
  split at h
  · exact Or.inr ⟨p, (List.mem_filter.mp h).1, rfl⟩
  · rcases hinsert _ h with rfl | h
    · exact Or.inl rfl
    · exact Or.inr ⟨p, (List.mem_filter.mp h).1, rfl⟩

theorem bodyStep_setBody (s : State) (k : Nat) (b : Body) : BodyStep k s (s.setBody k b) := by
  refine ⟨fun _ _ => rfl, fun a ha => ?_, rfl, rfl⟩
  rw [millRegs] at ha ⊢
  rcases List.mem_append.mp ha with ha | ha
  · exact List.mem_append_left _ ha
  · obtain ⟨p, hp, rfl⟩ := List.mem_map.mp ha
    have hset : p ∈ tset (fun _ => {}) s.mill.bodies k b := hp
    rcases key_of_mem_tset hset with h | ⟨q, hq, h⟩
    · exact List.mem_append_left _ (by rw [h]; simp)
    · exact List.mem_append_right _ (List.mem_map.mpr ⟨q, hq, by rw [h]⟩)

theorem bodyStep_put (s : State) (k : Nat) {f : Fld} (n : Nat) (hf : f.addr = MILL_RUN_STATUS k) :
    BodyStep k s (s.put f n) :=
  ⟨(SameRegs.refl _ s).put n (by rw [hf]; simp [millRegs]), fun _ h => h, rfl, rfl⟩

theorem bodyStep_firmAdvance (s : State) (k : Nat) : BodyStep k s (s.firmAdvance k) := by
  rw [firmAdvance]
  dsimp only
  split
  · exact BodyStep.refl k s
  · exact (((bodyStep_setBody s k _).trans (bodyStep_put _ k _ rfl)).trans (bodyStep_put _ k _ rfl)).trans
      (bodyStep_put _ k _ rfl)

theorem firmAdvance_kept (s : State) (k j : Nat) : BodyKept (s.body j) ((s.firmAdvance k).body j) :=
  (dispatched_firmAdvance [MILL_RUN_STATUS k] s k (by simp)).body j

/-- Quads are filled after the event of a body (R241). -/
theorem bodyStep_dispatch (h : BodyStep k s t) : SameRegs (s.millRegs k) s t.dispatch ∧ t.dispatch.log = s.log ∧
    t.dispatch.mill.inbox = s.mill.inbox ∧ BodyKept (t.body k) (t.dispatch.body k) := by
  have hd := dispatched_dispatch t k
  exact ⟨h.regs.next (hd.regs.mono h.listed), hd.log.trans h.log, hd.mill.inbox.trans h.inbox, hd.body k⟩

/-- A reading was counted as discarded, and the quads are filled (R283). -/
theorem discarded_dispatch (h : BodyStep k s t) :
    (t.inc MILL_ASSIM_STATS_DISCARDED).dispatch.get MILL_ASSIM_STATS_DISCARDED =
        (s.get MILL_ASSIM_STATS_DISCARDED + 1) % 65536 ∧
      SameRegs (MILL_ASSIM_STATS :: s.millRegs k) s (t.inc MILL_ASSIM_STATS_DISCARDED).dispatch ∧
      (t.inc MILL_ASSIM_STATS_DISCARDED).dispatch.mill.inbox = s.mill.inbox ∧
      (t.inc MILL_ASSIM_STATS_DISCARDED).dispatch.log = s.log ∧
      BodyKept (t.body k) ((t.inc MILL_ASSIM_STATS_DISCARDED).dispatch.body k) := by
  have hd := dispatched_dispatch (t.inc MILL_ASSIM_STATS_DISCARDED) k
  have hcount : (t.inc MILL_ASSIM_STATS_DISCARDED).get MILL_ASSIM_STATS_DISCARDED =
      (s.get MILL_ASSIM_STATS_DISCARDED + 1) % 65536 := by
    rw [get_inc_same _ _ (by decide), h.regs.get_eq assimStats_apart]
    rfl
  have hregs : SameRegs (MILL_ASSIM_STATS :: s.millRegs k) s (t.inc MILL_ASSIM_STATS_DISCARDED) :=
    (h.regs.mono fun a ha => List.mem_cons_of_mem _ ha).inc (by simp)
  generalize hu : t.inc MILL_ASSIM_STATS_DISCARDED = u at *
  have hmill : u.mill = t.mill := by rw [← hu]; rfl
  have hlisted : ∀ a ∈ u.millRegs k, a ∈ MILL_ASSIM_STATS :: s.millRegs k := by
    intro a ha
    rw [millRegs, hmill] at ha
    exact List.mem_cons_of_mem _ (h.listed a ha)
  refine ⟨(hd.regs.get_eq assimStats_apart).trans hcount, hregs.next (hd.regs.mono hlisted), ?_, ?_, ?_⟩
  · rw [hd.mill.inbox, hmill, h.inbox]
  · rw [hd.log, ← hu]
    exact h.log
  · have hb := hd.body k
    rwa [body_congr _ _ hmill] at hb

/-! ### The branches of a reading that arrives (R281, R283) -/

/-- A body after the stamp of a reading's source was noted. -/
def Body.noted (b : Body) (l : List (Nat × Nat)) : Body := { b with lastStamp := l }

/-- A body that a reading waits in for its step. -/
def Body.taking (b : Body) (r : Reading) : Body := { b with readings := b.readings ++ [r] }

/-- A body that a late reading waits in for the rollback. -/
def Body.takingLate (b : Body) (r : Reading) : Body := { b with late := b.late ++ [r] }

/-- A body that counts a reading of an age. -/
def Body.countAged (b : Body) (age : Nat) : Body := { b with mAged := b.mAged + 1, mOldest := max b.mOldest age }

/-- Firm time takes note of a source's latest stamp (R281). -/
def stampNoted (s : State) (k : Nat) (src : Word) (stamp : Nat) : State :=
  (s.firmAdvance k).setBody k (Body.noted ((s.firmAdvance k).body k)
    (tset (fun _ => 0) ((s.firmAdvance k).body k).lastStamp src.toNat
      (max stamp (tget (fun _ => 0) ((s.firmAdvance k).body k).lastStamp src.toNat))))

theorem bodyStep_stampNoted (s : State) (k : Nat) (src : Word) (stamp : Nat) :
    BodyStep k s (s.stampNoted k src stamp) :=
  (bodyStep_firmAdvance s k).trans (bodyStep_setBody _ k _)

theorem stampNoted_body (s : State) (k : Nat) (src : Word) (stamp : Nat) :
    ∃ b l, BodyKept (s.body k) b ∧ (s.stampNoted k src stamp).body k = Body.noted b l :=
  ⟨_, _, s.firmAdvance_kept k k, body_setBody_same ..⟩

/-- A rollback takes a reading, which no later reading or field crosses (R285, R495). -/
def crossed (b : Body) (r : Reading) : Bool :=
  (b.run.any (fun q => q.field.isSome)) || (b.resolveTe.any (fun e => decide (r.stamp ≤ e * 1000000)))

theorem readingTake_eq (s : State) (a : Anchor) (r : Reading) : s.readingTake a r =
    let k := a.body
    let f := s.firmAdvance k
    let b := f.body k
    let t := s.stampNoted k a.source r.stamp
    let x := t.body k
    if s.bst k = 0 then s.inc MILL_ASSIM_STATS_DISCARDED
    else if b.heldOn then (t.firmAdvance k).inc MILL_ASSIM_STATS_DISCARDED
    else if f.bst k = 1 ∨ b.now * 1000000 < r.stamp then
      (t.setBody k (Body.taking x r)).firmAdvance k
    else if r.stamp + 3600000000000 < b.now * 1000000 then
      ((t.setBody k (Body.countAged x ((b.now * 1000000 - r.stamp) / 1000000000))).firmAdvance k).inc
        MILL_ASSIM_STATS_DISCARDED
    else if r.stamp ≤ b.firm * 1000000 || crossed b r then (t.readingAged k r).firmAdvance k
    else if b.rollTo.isSome && decide (b.tm * 1000000 < r.stamp) &&
        (b.run.all (fun q => decide (q.te * 1000000 < r.stamp))) then
      t.setBody k (Body.taking x r)
    else (t.setBody k (Body.takingLate x r)).bodyNext k := rfl

theorem bst_firmAdvance (s : State) (k : Nat) : (s.firmAdvance k).bst k = s.bst k :=
  (dispatched_firmAdvance [MILL_RUN_STATUS k] s k (by simp)).regs.get_eq (by simp [MILL_BODY_STATUS, MILL_RUN_STATUS])

section Branches
variable {s : State} {a : Anchor} {r : Reading}

theorem readingTake_absent (h : s.bst a.body = 0) : s.readingTake a r = s.inc MILL_ASSIM_STATS_DISCARDED := by
  rw [readingTake_eq]
  exact if_pos h

theorem readingTake_held (h : s.bst a.body ≠ 0) (hheld : (s.body a.body).heldOn = true) : s.readingTake a r =
    ((s.stampNoted a.body a.source r.stamp).firmAdvance a.body).inc MILL_ASSIM_STATS_DISCARDED := by
  rw [readingTake_eq]
  dsimp only
  rw [if_neg h, (s.firmAdvance_kept a.body a.body).heldOn, if_pos hheld]

section Present
variable (h : s.bst a.body ≠ 0) (hheld : (s.body a.body).heldOn = false)
include h hheld

theorem readingTake_waits (hwait : s.bst a.body = 1 ∨ (s.body a.body).now * 1000000 < r.stamp) : s.readingTake a r =
    ((s.stampNoted a.body a.source r.stamp).setBody a.body
      (Body.taking ((s.stampNoted a.body a.source r.stamp).body a.body) r)).firmAdvance a.body := by
  rw [readingTake_eq]
  dsimp only
  have hb := s.firmAdvance_kept a.body a.body
  rw [if_neg h, hb.heldOn, if_neg (by rw [hheld]; decide), bst_firmAdvance, hb.now, if_pos hwait]

variable (hrun : s.bst a.body ≠ 1)
include hrun

theorem readingTake_old (hold : r.stamp + 3600000000000 < (s.body a.body).now * 1000000) : s.readingTake a r =
    (((s.stampNoted a.body a.source r.stamp).setBody a.body
      (Body.countAged ((s.stampNoted a.body a.source r.stamp).body a.body)
        (((s.body a.body).now * 1000000 - r.stamp) / 1000000000))).firmAdvance a.body).inc
      MILL_ASSIM_STATS_DISCARDED := by
  rw [readingTake_eq]
  dsimp only
  have hb := s.firmAdvance_kept a.body a.body
  rw [if_neg h, hb.heldOn, if_neg (by rw [hheld]; decide), bst_firmAdvance, hb.now, if_neg (by omega), if_pos hold]

variable (hpast : r.stamp ≤ (s.body a.body).now * 1000000)
  (hyoung : (s.body a.body).now * 1000000 ≤ r.stamp + 3600000000000)
include hpast hyoung

theorem readingTake_aged (hfirm : r.stamp ≤ ((s.firmAdvance a.body).body a.body).firm * 1000000) : s.readingTake a r =
    ((s.stampNoted a.body a.source r.stamp).readingAged a.body r).firmAdvance a.body := by
  rw [readingTake_eq]
  dsimp only
  have hb := s.firmAdvance_kept a.body a.body
  rw [if_neg h, hb.heldOn, if_neg (by rw [hheld]; decide), bst_firmAdvance, hb.now, if_neg (by omega), if_neg (by omega),
    if_pos (by simp [hfirm])]

theorem readingTake_late (hroll : (s.body a.body).rollTo = none) (hcross : crossed (s.body a.body) r = false)
    (hfirm : ((s.firmAdvance a.body).body a.body).firm * 1000000 < r.stamp) : s.readingTake a r =
    ((s.stampNoted a.body a.source r.stamp).setBody a.body
      (Body.takingLate ((s.stampNoted a.body a.source r.stamp).body a.body) r)).bodyNext a.body := by
  rw [readingTake_eq]
  dsimp only
  have hb := s.firmAdvance_kept a.body a.body
  have hc : crossed ((s.firmAdvance a.body).body a.body) r = false := by
    rw [crossed, hb.run, hb.resolveTe]
    exact hcross
  rw [if_neg h, hb.heldOn, if_neg (by rw [hheld]; decide), bst_firmAdvance, hb.now, if_neg (by omega), if_neg (by omega),
    hc, Bool.or_false, if_neg (by simpa using hfirm), hb.rollTo, hroll]
  exact if_neg (by simp)

end Present

end Branches

/-- A body that computes a step goes on with it. -/
theorem bodyNext_busy (h : (s.body k).run.isSome = true) : s.bodyNext k = s := by
  rw [bodyNext, bodyGo]
  exact if_pos (by simp [h])

/-- A body after an aged reading (R283). -/
theorem readingAged_eq (s : State) (k : Nat) (r : Reading) : s.readingAged k r =
    (s.setBody k (Body.countAged (Body.taking (s.body k) { r with
        sigma := mmul r.sigma (madd (fofNat 1) (mdiv (fofRat ((s.body k).now * 1000000 - r.stamp : Nat) 1000000000)
          (fofNat (s.get (MILL_RUN_CFG_AGE_TAU_S k)))))
        aged := true }) (((s.body k).now * 1000000 - r.stamp) / 1000000000))).inc (MILL_RB_STATS_LATE_AGED k) := rfl

/-- A state whose forwarded readings are others. -/
def withInbox (s : State) (l : List Reading) : State := { s with mill := { s.mill with inbox := l } }

/-- A forwarded reading arrives with the record's σ, or its own (R274). -/
theorem readingArrive_taken {n : Nat} {a : Anchor} {r : Reading} (ha : s.smap.anchors[n]? = some a)
    (hr : r ∈ s.mill.inbox) (hn : r.anchor = n) (haged : r.aged = false) :
    s.readingArrive n r.value r.sigma r.stamp = (s.withInbox (s.mill.inbox.erase r)).readingTake a
      { r with sigma := if fIsNaN a.sigma then r.sigma else a.sigma } := by
  have hself : ({ anchor := n, value := r.value, sigma := r.sigma, stamp := r.stamp } : Reading) = r := by
    rw [← hn, ← haged]
  rw [readingArrive, hself, ha]
  exact if_pos hr

/-- The same of a forwarded reading that was aged. -/
theorem agedTaken_dispatch {l : List Reading} (h : BodyStep k (s.withInbox l) t) :
    ((t.inc (MILL_RB_STATS_LATE_AGED k)).firmAdvance k).dispatch.mill.inbox = l ∧
      ((t.inc (MILL_RB_STATS_LATE_AGED k)).firmAdvance k).dispatch.get (MILL_RB_STATS_LATE_AGED k) =
        (s.get (MILL_RB_STATS_LATE_AGED k) + 1) % 65536 ∧
      SameRegs (MILL_RB_STATS k :: s.millRegs k) s ((t.inc (MILL_RB_STATS_LATE_AGED k)).firmAdvance k).dispatch ∧
      ((t.inc (MILL_RB_STATS_LATE_AGED k)).firmAdvance k).dispatch.log = s.log ∧
      BodyKept (t.body k) (((t.inc (MILL_RB_STATS_LATE_AGED k)).firmAdvance k).dispatch.body k) := by
  have hcount : (t.inc (MILL_RB_STATS_LATE_AGED k)).get (MILL_RB_STATS_LATE_AGED k) =
      (s.get (MILL_RB_STATS_LATE_AGED k) + 1) % 65536 := by
    rw [get_inc_same _ _ (by simp), h.regs.get_eq (rbStats_apart k)]
    rfl
  have hregs : SameRegs (MILL_RB_STATS k :: s.millRegs k) s (t.inc (MILL_RB_STATS_LATE_AGED k)) :=
    SameRegs.inc (h.regs.mono fun a ha => List.mem_cons_of_mem _ ha) (by simp)
  generalize hu : t.inc (MILL_RB_STATS_LATE_AGED k) = u at *
  have hmill : u.mill = t.mill := by rw [← hu]; rfl
  have hlisted : ∀ a ∈ u.millRegs k, a ∈ MILL_RB_STATS k :: s.millRegs k := by
    intro a ha
    rw [millRegs, hmill] at ha
    exact List.mem_cons_of_mem _ (h.listed a ha)
  obtain ⟨hall, hlog, hin, hkept⟩ := bodyStep_dispatch (bodyStep_firmAdvance u k)
  refine ⟨?_, (hall.get_eq (rbStats_apart k)).trans hcount, hregs.next (hall.mono hlisted), ?_, ?_⟩
  · rw [hin, hmill, h.inbox]
    rfl
  · rw [hlog, ← hu]
    exact h.log
  · have hb := (u.firmAdvance_kept k k).trans hkept
    rwa [body_congr _ _ hmill] at hb

theorem readingArrive_unheard {n : Nat} {a : Anchor} {v g : F32} {st : Nat} (ha : s.smap.anchors[n]? = some a)
    (hr : ({ anchor := n, value := v, sigma := g, stamp := st } : Reading) ∉ s.mill.inbox) :
    s.readingArrive n v g st = s := by
  rw [readingArrive, ha]
  exact if_neg hr

theorem firm_firmAdvance : ((s.firmAdvance k).body k).firm =
    if (s.body k).rollTo.isSome ∨ (s.body k).late ≠ [] then (s.body k).firm else s.firmTime k := by
  rw [firmAdvance]
  dsimp only
  split
  · rfl
  · rw [body_congr _ _ (put_mill ..), body_congr _ _ (put_mill ..), body_congr _ _ (put_mill ..), body_setBody_same]

theorem firm_withInbox (l : List Reading) :
    (((s.withInbox l).firmAdvance k).body k).firm = ((s.firmAdvance k).body k).firm := by
  rw [firm_firmAdvance, firm_firmAdvance]
  rfl

/-- What the clauses say of the module once a forwarded reading was taken. -/
theorem taken_dispatch {l : List Reading} (h : BodyStep k (s.withInbox l) t) :
    t.dispatch.mill.inbox = l ∧ SameRegs (s.millRegs k) s t.dispatch ∧ t.dispatch.log = s.log ∧
      BodyKept (t.body k) (t.dispatch.body k) := by
  obtain ⟨hregs, hlog, hin, hkept⟩ := bodyStep_dispatch h
  exact ⟨hin, hregs, hlog, hkept⟩

/-- The same of a forwarded reading that was discarded. -/
theorem discardTaken_dispatch {l : List Reading} (h : BodyStep k (s.withInbox l) t) :
    (t.inc MILL_ASSIM_STATS_DISCARDED).dispatch.mill.inbox = l ∧
      (t.inc MILL_ASSIM_STATS_DISCARDED).dispatch.get MILL_ASSIM_STATS_DISCARDED =
        (s.get MILL_ASSIM_STATS_DISCARDED + 1) % 65536 ∧
      SameRegs (MILL_ASSIM_STATS :: s.millRegs k) s (t.inc MILL_ASSIM_STATS_DISCARDED).dispatch ∧
      (t.inc MILL_ASSIM_STATS_DISCARDED).dispatch.log = s.log ∧
      BodyKept (t.body k) ((t.inc MILL_ASSIM_STATS_DISCARDED).dispatch.body k) := by
  obtain ⟨hcount, hregs, hin, hlog, hkept⟩ := discarded_dispatch h
  exact ⟨hin, hcount, hregs, hlog, hkept⟩

theorem exec_readingArrive_up {n : Nat} {v g : F32} {st : Nat} (h : s.dpUp = true) :
    exec (.readingArrive n v g st) s = .next (s.readingArrive n v g st).dispatch := by
  rw [show exec (.readingArrive n v g st) s = .next (s.when s.dpUp (·.readingArrive n v g st)).dispatch from rfl, h]
  rfl

end Readings

end State

theorem exec_readingArrive_unknown (n : Nat) (v g : F32) (st : Nat) (s : State) :
    s.smap.anchors[n]? = none → s.dpUp = true →
    ∃ t, exec (.readingArrive n v g st) s = .next t ∧
      t.get MILL_ASSIM_STATS_DISCARDED = (s.get MILL_ASSIM_STATS_DISCARDED + 1) % 65536 ∧
      SameRegs (MILL_ASSIM_STATS :: s.millRegs 0) s t ∧ t.mill.inbox = s.mill.inbox ∧ t.log = s.log := by
  intro ha hup
  rw [State.exec_readingArrive_up hup, State.readingArrive, ha]
  obtain ⟨hcount, hregs, hin, hlog, -⟩ := State.discarded_dispatch (State.BodyStep.refl 0 s)
  exact ⟨_, rfl, hcount, hregs, hin, hlog⟩

theorem exec_readingArrive_notForwarded (n : Nat) (v g : F32) (st : Nat) (a : Anchor) (s : State) :
    s.smap.anchors[n]? = some a →
    (({ anchor := n, value := v, sigma := g, stamp := st } : Reading) ∉ s.mill.inbox ∨ s.dpUp = false) →
    exec (.readingArrive n v g st) s = .next s.dispatch := by
  intro ha h
  rw [show exec (.readingArrive n v g st) s = .next (s.when s.dpUp (·.readingArrive n v g st)).dispatch from rfl]
  cases hup : s.dpUp with
  | false => rfl
  | true =>
    rw [State.when, if_pos rfl, State.readingArrive_unheard ha (h.resolve_right (by rw [hup]; decide))]

theorem exec_readingArrive_discards (n : Nat) (a : Anchor) (r : Reading) (s : State) :
    s.smap.anchors[n]? = some a →
    r ∈ s.mill.inbox → s.dpUp = true → r.anchor = n → r.aged = false → (s.bst a.body = 0 ∨ (s.body a.body).heldOn = true) →
    ∃ t, exec (.readingArrive n r.value r.sigma r.stamp) s = .next t ∧ t.mill.inbox = s.mill.inbox.erase r ∧
      t.get MILL_ASSIM_STATS_DISCARDED = (s.get MILL_ASSIM_STATS_DISCARDED + 1) % 65536 ∧
      (t.body a.body).readings = (s.body a.body).readings ∧
      SameRegs (MILL_ASSIM_STATS :: s.millRegs a.body) s t ∧ t.log = s.log := by
  intro ha hr hup hn haged hout
  rw [State.exec_readingArrive_up hup, State.readingArrive_taken ha hr hn haged]
  generalize ({ r with sigma := if fIsNaN a.sigma then r.sigma else a.sigma } : Reading) = q
  by_cases habs : s.bst a.body = 0
  · rw [State.readingTake_absent (s := s.withInbox (s.mill.inbox.erase r)) habs]
    obtain ⟨hin, hcount, hregs, hlog, hkept⟩ := State.discardTaken_dispatch (State.BodyStep.refl a.body _)
    exact ⟨_, rfl, hin, hcount, hkept.readings, hregs, hlog⟩
  · rw [State.readingTake_held (s := s.withInbox (s.mill.inbox.erase r)) habs (hout.resolve_left habs)]
    obtain ⟨hin, hcount, hregs, hlog, hkept⟩ := State.discardTaken_dispatch
      ((State.bodyStep_stampNoted (s.withInbox (s.mill.inbox.erase r)) a.body a.source q.stamp).trans
        (State.bodyStep_firmAdvance _ a.body))
    obtain ⟨b, l, hb, hnoted⟩ := State.stampNoted_body (s.withInbox (s.mill.inbox.erase r)) a.body a.source q.stamp
    refine ⟨_, rfl, hin, hcount, ?_, hregs, hlog⟩
    rw [hkept.readings, (State.firmAdvance_kept _ a.body a.body).readings, hnoted]
    exact hb.readings

theorem exec_readingArrive_waits (n : Nat) (a : Anchor) (r : Reading) (s : State) :
    s.smap.anchors[n]? = some a →
    r ∈ s.mill.inbox → s.dpUp = true → r.anchor = n → r.aged = false → s.bst a.body ≠ 0 → (s.body a.body).heldOn = false →
    (s.bst a.body = 1 ∨ (s.body a.body).now * 1000000 < r.stamp) →
    ∃ t, exec (.readingArrive n r.value r.sigma r.stamp) s = .next t ∧ t.mill.inbox = s.mill.inbox.erase r ∧ t.log = s.log ∧
      (t.body a.body).readings = (s.body a.body).readings ++ [{ r with sigma := if fIsNaN a.sigma then r.sigma else a.sigma }] ∧
      (t.body a.body).cells = (s.body a.body).cells ∧ (t.body a.body).tm = (s.body a.body).tm ∧
      SameRegs (s.millRegs a.body) s t := by
  intro ha hr hup hn haged hbst hheld hwait
  rw [State.exec_readingArrive_up hup, State.readingArrive_taken ha hr hn haged]
  generalize hy : ({ r with sigma := if fIsNaN a.sigma then r.sigma else a.sigma } : Reading) = y
  have hstamp : y.stamp = r.stamp := by rw [← hy]
  rw [← hstamp] at hwait
  rw [State.readingTake_waits (s := s.withInbox (s.mill.inbox.erase r)) hbst hheld hwait]
  obtain ⟨b, l, hb, hnoted⟩ := State.stampNoted_body (s.withInbox (s.mill.inbox.erase r)) a.body a.source y.stamp
  obtain ⟨hin, hregs, hlog, hkept⟩ := State.taken_dispatch
    (((State.bodyStep_stampNoted (s.withInbox (s.mill.inbox.erase r)) a.body a.source y.stamp).trans
      (State.bodyStep_setBody _ a.body _)).trans (State.bodyStep_firmAdvance _ a.body))
  have hall := (State.firmAdvance_kept _ a.body a.body).trans hkept
  refine ⟨_, rfl, hin, hlog, ?_, ?_, ?_, hregs⟩
  · rw [hall.readings, State.body_setBody_same, hnoted]
    exact congrArg (· ++ _) hb.readings
  · rw [hall.cells, State.body_setBody_same, hnoted]
    exact hb.cells
  · rw [hall.tm, State.body_setBody_same, hnoted]
    exact hb.tm

theorem exec_readingArrive_tooOld (n : Nat) (a : Anchor) (r : Reading) (s : State) :
    s.smap.anchors[n]? = some a →
    r ∈ s.mill.inbox → s.dpUp = true → r.anchor = n → r.aged = false → s.bst a.body ≠ 0 → s.bst a.body ≠ 1 → (s.body a.body).heldOn = false →
    r.stamp + 3600000000000 < (s.body a.body).now * 1000000 →
    ∃ t, exec (.readingArrive n r.value r.sigma r.stamp) s = .next t ∧ t.mill.inbox = s.mill.inbox.erase r ∧
      t.get MILL_ASSIM_STATS_DISCARDED = (s.get MILL_ASSIM_STATS_DISCARDED + 1) % 65536 ∧
      (t.body a.body).readings = (s.body a.body).readings ∧ (t.body a.body).mAged = (s.body a.body).mAged + 1 ∧
      SameRegs (MILL_ASSIM_STATS :: s.millRegs a.body) s t ∧ t.log = s.log := by
  intro ha hr hup hn haged hbst hstart hheld hold
  rw [State.exec_readingArrive_up hup, State.readingArrive_taken ha hr hn haged]
  generalize hy : ({ r with sigma := if fIsNaN a.sigma then r.sigma else a.sigma } : Reading) = y
  have hstamp : y.stamp = r.stamp := by rw [← hy]
  rw [← hstamp] at hold
  rw [State.readingTake_old (s := s.withInbox (s.mill.inbox.erase r)) hbst hheld hstart hold]
  obtain ⟨b, l, hb, hnoted⟩ := State.stampNoted_body (s.withInbox (s.mill.inbox.erase r)) a.body a.source y.stamp
  obtain ⟨hin, hcount, hregs, hlog, hkept⟩ := State.discardTaken_dispatch
    (((State.bodyStep_stampNoted (s.withInbox (s.mill.inbox.erase r)) a.body a.source y.stamp).trans
      (State.bodyStep_setBody _ a.body _)).trans (State.bodyStep_firmAdvance _ a.body))
  have hall := (State.firmAdvance_kept _ a.body a.body).trans hkept
  refine ⟨_, rfl, hin, hcount, ?_, ?_, hregs, hlog⟩
  · rw [hall.readings, State.body_setBody_same, hnoted]
    exact hb.readings
  · rw [hall.mAged, State.body_setBody_same, hnoted]
    exact congrArg (· + 1) hb.mAged

theorem exec_readingArrive_ages (n : Nat) (a : Anchor) (r : Reading) (s : State) :
    s.smap.anchors[n]? = some a →
    r ∈ s.mill.inbox → s.dpUp = true → r.anchor = n → r.aged = false → s.bst a.body ≠ 0 → s.bst a.body ≠ 1 → (s.body a.body).heldOn = false →
    r.stamp ≤ (s.body a.body).now * 1000000 → (s.body a.body).now * 1000000 ≤ r.stamp + 3600000000000 →
    r.stamp ≤ ((s.firmAdvance a.body).body a.body).firm * 1000000 →
    ∃ t, exec (.readingArrive n r.value r.sigma r.stamp) s = .next t ∧ t.mill.inbox = s.mill.inbox.erase r ∧
      (t.body a.body).readings = (s.body a.body).readings ++ [{ r with
        aged := true
        sigma := mmul (if fIsNaN a.sigma then r.sigma else a.sigma)
          (madd (fofNat 1) (mdiv (fofRat ((s.body a.body).now * 1000000 - r.stamp : Nat) 1000000000)
          (fofNat (s.get (MILL_RUN_CFG_AGE_TAU_S a.body))))) }] ∧
      t.get (MILL_RB_STATS_LATE_AGED a.body) = (s.get (MILL_RB_STATS_LATE_AGED a.body) + 1) % 65536 ∧
      (t.body a.body).mAged = (s.body a.body).mAged + 1 ∧ SameRegs (MILL_RB_STATS a.body :: s.millRegs a.body) s t ∧ t.log = s.log := by
  intro ha hr hup hn haged hbst hstart hheld hpast hyoung hfirm
  rw [State.exec_readingArrive_up hup, State.readingArrive_taken ha hr hn haged]
  generalize hy : ({ r with sigma := if fIsNaN a.sigma then r.sigma else a.sigma } : Reading) = y
  have hstamp : y.stamp = r.stamp := by rw [← hy]
  rw [← State.firm_withInbox (s.mill.inbox.erase r)] at hfirm
  rw [← hstamp] at hpast hyoung hfirm
  rw [State.readingTake_aged (s := s.withInbox (s.mill.inbox.erase r)) hbst hheld hstart hpast hyoung hfirm,
    State.readingAged_eq]
  have hnote := State.bodyStep_stampNoted (s.withInbox (s.mill.inbox.erase r)) a.body a.source y.stamp
  obtain ⟨b, l, hb, hnoted⟩ := State.stampNoted_body (s.withInbox (s.mill.inbox.erase r)) a.body a.source y.stamp
  generalize (s.withInbox (s.mill.inbox.erase r)).stampNoted a.body a.source y.stamp = u at *
  have htau : u.get (MILL_RUN_CFG_AGE_TAU_S a.body) = s.get (MILL_RUN_CFG_AGE_TAU_S a.body) :=
    hnote.regs.get_eq (State.runCfg_apart _)
  have hnow : (Body.noted b l).now = (s.body a.body).now := hb.now
  rw [hnoted, hnow, htau]
  generalize haged' : ({ y with sigma := mmul y.sigma (madd (fofNat 1) (mdiv (fofRat ((s.body a.body).now * 1000000 -
    y.stamp : Nat) 1000000000) (fofNat (s.get (MILL_RUN_CFG_AGE_TAU_S a.body))))), aged := true } : Reading) = y'
  generalize ((s.body a.body).now * 1000000 - y.stamp) / 1000000000 = age
  have hset := hnote.trans
    (State.bodyStep_setBody u a.body (State.Body.countAged (State.Body.taking (State.Body.noted b l) y') age))
  have hbody : (u.setBody a.body (State.Body.countAged (State.Body.taking (State.Body.noted b l) y') age)).body a.body =
    State.Body.countAged (State.Body.taking (State.Body.noted b l) y') age := State.body_setBody_same ..
  generalize u.setBody a.body (State.Body.countAged (State.Body.taking (State.Body.noted b l) y') age) = v at *
  obtain ⟨hin, hcount, hregs, hlog, hkept⟩ := State.agedTaken_dispatch hset
  refine ⟨_, rfl, hin, ?_, hcount, ?_, hregs, hlog⟩
  · rw [hkept.readings, hbody]
    refine (congrArg (· ++ [y']) hb.readings).trans ?_
    rw [← haged', ← hy]
    rfl
  · rw [hkept.mAged, hbody]
    exact congrArg (· + 1) hb.mAged
theorem exec_readingArrive_late (n : Nat) (a : Anchor) (r : Reading) (q : StepRun) (s : State) :
    s.smap.anchors[n]? = some a →
    r ∈ s.mill.inbox → s.dpUp = true → r.anchor = n → r.aged = false → s.bst a.body = 2 → (s.body a.body).heldOn = false →
    (s.body a.body).rollTo = none → (s.body a.body).run = some q → q.field = none → (s.body a.body).resolveTe = none →
    r.stamp ≤ (s.body a.body).tm * 1000000 → (s.body a.body).tm * 1000000 ≤ r.stamp + 3600000000000 →
    ((s.firmAdvance a.body).body a.body).firm * 1000000 < r.stamp →
    ∃ t, exec (.readingArrive n r.value r.sigma r.stamp) s = .next t ∧ t.mill.inbox = s.mill.inbox.erase r ∧ SameRegs (s.millRegs a.body) s t ∧
      (t.body a.body).run = some q ∧ (t.body a.body).cells = (s.body a.body).cells ∧
      (t.body a.body).late = (s.body a.body).late ++ [{ r with sigma := if fIsNaN a.sigma then r.sigma else a.sigma }] := by
  intro ha hr hup hn haged hbst hheld hroll hrun hfield hsolve hpast hyoung hfirm
  have hnow : (s.body a.body).now = (s.body a.body).tm := by rw [Body.now, hroll]; rfl
  rw [State.exec_readingArrive_up hup, State.readingArrive_taken ha hr hn haged]
  generalize hy : ({ r with sigma := if fIsNaN a.sigma then r.sigma else a.sigma } : Reading) = y
  have hstamp : y.stamp = r.stamp := by rw [← hy]
  rw [← State.firm_withInbox (s.mill.inbox.erase r)] at hfirm
  rw [← hnow] at hpast hyoung
  rw [← hstamp] at hpast hyoung hfirm
  have hcross : State.crossed (s.body a.body) y = false := by rw [State.crossed, hrun, hsolve]; simp [hfield]
  have hpresent : s.bst a.body ≠ 0 := by rw [hbst]; decide
  have hstarted : s.bst a.body ≠ 1 := by rw [hbst]; decide
  rw [State.readingTake_late (s := s.withInbox (s.mill.inbox.erase r)) hpresent hheld hstarted hpast hyoung hroll hcross
    hfirm]
  have hnote := State.bodyStep_stampNoted (s.withInbox (s.mill.inbox.erase r)) a.body a.source y.stamp
  obtain ⟨b, l, hb, hnoted⟩ := State.stampNoted_body (s.withInbox (s.mill.inbox.erase r)) a.body a.source y.stamp
  generalize (s.withInbox (s.mill.inbox.erase r)).stampNoted a.body a.source y.stamp = u at *
  have hset := hnote.trans (State.bodyStep_setBody u a.body (State.Body.takingLate (u.body a.body) y))
  have hbody : (u.setBody a.body (State.Body.takingLate (u.body a.body) y)).body a.body =
    State.Body.takingLate (u.body a.body) y := State.body_setBody_same ..
  generalize u.setBody a.body (State.Body.takingLate (u.body a.body) y) = v at *
  rw [hnoted] at hbody
  have hruns : (v.body a.body).run = some q := by rw [hbody]; exact hb.run.trans hrun
  rw [State.bodyNext_busy (by rw [hruns]; rfl)]
  obtain ⟨hin, hregs, -, hkept⟩ := State.taken_dispatch hset
  refine ⟨_, rfl, hin, hregs, hkept.run.trans hruns, ?_, ?_⟩
  · rw [hkept.cells, hbody]
    exact hb.cells
  · rw [hkept.late, hbody]
    exact congrArg (· ++ [y]) hb.late

/-- Settles O44: each branch that a reading takes (`readingTake_eq`), then the quads are filled. -/
theorem millReadings : Obligations.MillReadings :=
  ⟨exec_readingArrive_unknown, exec_readingArrive_notForwarded, exec_readingArrive_discards, exec_readingArrive_waits,
    exec_readingArrive_tooOld, exec_readingArrive_ages, exec_readingArrive_late⟩

end Sys2Proof.Machine
end

section
/-! PROOFS. Coarse snapshots, cell reads and the minute's records of a body (R242, R245, R294, R295). -/

namespace Sys2Proof.Machine

open Reg State

/-! ### A snapshot file checks (R294, R295) -/

theorem crc32Byte_lt {c : Nat} (h : c < 2 ^ 32) (b : Byte) : crc32Byte c b < 2 ^ 32 := by
  have hstep (r : Nat) (hr : r < 2 ^ 32) : (if r % 2 = 1 then (r / 2) ^^^ 0xEDB88320 else r / 2) < 2 ^ 32 := by
    have hhalf : r / 2 < 2 ^ 32 := by omega
    split
    · exact Nat.xor_lt_two_pow hhalf (by decide)
    · exact hhalf
  have hrun : ∀ (l : List Nat) (r : Nat), r < 2 ^ 32 →
      l.foldl (fun r _ => if r % 2 = 1 then (r / 2) ^^^ 0xEDB88320 else r / 2) r < 2 ^ 32 := by
    intro l
    induction l with
    | nil => exact fun r hr => hr
    | cons i l ih => exact fun r hr => ih _ (hstep r hr)
  exact hrun _ _ (Nat.xor_lt_two_pow h (b.isLt.trans (by decide)))

theorem crc32_lt (l : List Byte) : crc32 l < 2 ^ 32 := by
  have hrun : ∀ (l : List Byte) (c : Nat), c < 2 ^ 32 → l.foldl crc32Byte c < 2 ^ 32 := by
    intro l
    induction l with
    | nil => exact fun c h => h
    | cons b l ih => exact fun c h => ih _ (crc32Byte_lt h b)
  exact Nat.xor_lt_two_pow (hrun l _ (by decide)) (by decide)

namespace State

section Files
variable (s : State)

theorem length_descr (d : SnapDescr) : d.bytes.length = 32 := by
  simp [SnapDescr.bytes, length_leBytes]

/-- A file is its contents with their CRC behind them, at least 576 bytes that begin with the magic word. -/
theorem snapFile_eq (version seq : Nat) (l : List SnapPart) : ∃ rest, 570 ≤ rest.length ∧
    s.snapFile version seq l = [0x4B, 0x44, 0x53, 0x4E] ++ leBytes 2 version ++ rest ++
      leBytes 4 (crc32 ([0x4B, 0x44, 0x53, 0x4E] ++ leBytes 2 version ++ rest)) := by
  have hdescr (f : Nat → List Byte) (hf : ∀ k, (f k).length = 32) : ((List.range 16).map f).flatten.length = 512 := by
    rw [List.length_flatten, List.map_map]
    have hconst : List.length ∘ f = fun _ => 32 := funext hf
    rw [hconst]
    rfl
  rw [snapFile]
  dsimp only
  generalize (l.map (fun p => p.records.flatten)).flatten = parts
  generalize hd : ((List.range 16).map _).flatten = descrs
  have hlen : descrs.length = 512 := by
    rw [← hd]
    refine hdescr _ fun k => ?_
    cases l.find? (fun p => p.body = k) with
    | some p => exact length_descr _
    | none => exact length_descr _
  refine ⟨(List.range 2).map (fun j => s.freeAt 8 (0 + j)) ++ leBytes 4 (s.reg (CADDY_SLOT_SEQ s.caddy.slot)).toNat ++
    leBytes 4 seq ++ leBytes 6 (secOf s.tim.mp) ++ leBytes 5 s.optime ++ (List.range 37).map (fun j => s.freeAt 8 (2 + j)) ++
    descrs ++ parts, ?_, congrArg (fun all : List Byte => all ++ leBytes 4 (crc32 all)) ?_⟩
  · simp only [List.length_append, length_leBytes, List.length_map, List.length_range, hlen]
    omega
  · simp only [List.append_assoc]

theorem snapOk_snapFile (version seq : Nat) (l : List SnapPart) : snapOk version (s.snapFile version seq l) = true := by
  obtain ⟨rest, hlen, hfile⟩ := s.snapFile_eq version seq l
  rw [hfile]
  generalize hall : [0x4B, 0x44, 0x53, 0x4E] ++ leBytes 2 version ++ rest = all
  have hall' : 576 ≤ all.length := by
    rw [← hall]
    simp only [List.length_append, length_leBytes, List.length_cons, List.length_nil]
    omega
  have hcrc : (leBytes 4 (crc32 all)).length = 4 := length_leBytes 4 _
  have hend : (all ++ leBytes 4 (crc32 all)).length - 4 = all.length := by
    rw [List.length_append, hcrc, Nat.add_sub_cancel]
  have hmagic : slice 0 6 (all ++ leBytes 4 (crc32 all)) = [0x4B, 0x44, 0x53, 0x4E] ++ leBytes 2 version := by
    rw [← hall, List.append_assoc (_ ++ _)]
    exact slice_append_left (by simp [length_leBytes])
  rw [snapOk, hend, List.take_left, List.drop_left, ofLe_leBytes 4 (crc32_lt all), hmagic]
  simp [hcrc]
  omega

end Files

/-! ### Contributions (R294) -/

section Snapshots
variable (s : State)

/-- A snapshot in progress, with the bodies still to contribute and what has come (R295). -/
def snapStarted (w : List Nat) (g : List (Nat × (Nat × List Byte × List (Nat × Cell)))) : State :=
  { s with mill := { s.mill with snapBusy := true, snapGot := g, snapWait := w } }

/-- What a body contributes. -/
def contribution (k : Nat) : Nat × (Nat × List Byte × List (Nat × Cell)) := (k, (s.body k).tm, (s.body k).digest, s.coarse k)

theorem each_snapContribute {l : List Nat} (hl : l.Nodup) : ∀ {w : List Nat} (g : List (Nat × (Nat × List Byte ×
    List (Nat × Cell)))), (∀ k ∈ l, k ∈ w) → (s.snapStarted w g).each l snapContribute =
      s.snapStarted (w.filter (fun k => k ∉ l)) (g ++ l.map s.contribution) := by
  induction l with
  | nil =>
    intro w g _
    rw [List.map_nil, List.append_nil, List.filter_eq_self.mpr (by simp)]
    rfl
  | cons k l ih =>
    intro w g hw
    obtain ⟨hk, hl⟩ := List.nodup_cons.mp hl
    have hone : (s.snapStarted w g).snapContribute k =
        s.snapStarted (w.filter (fun x => decide (x ≠ k))) (g ++ [s.contribution k]) := if_pos (hw k (by simp))
    have hrest : ∀ x ∈ l, x ∈ w.filter (fun x => decide (x ≠ k)) := fun x hx =>
      List.mem_filter.mpr ⟨hw x (by simp [hx]), by simpa using fun h : x = k => hk (h ▸ hx)⟩
    rw [each, List.foldl_cons, hone]
    refine (ih hl _ hrest).trans ?_
    rw [List.filter_filter, List.append_assoc]
    refine congrArg₂ s.snapStarted (List.filter_congr fun x _ => ?_) rfl
    by_cases hx : x = k <;> simp [hx]

/-- A snapshot that falls due starts, with what the bodies that stand contribute (R295). -/
theorem snapshotDue_eq (hon : s.on MILL_SNAP_CFG_ENABLE = true) (hidle : s.mill.snapBusy = false) : s.snapshotDue =
    s.snapStarted ((List.range 16).filter (fun k => s.bst k = 2))
      (((List.range 16).filter (fun k => 2 < s.bst k)).map s.contribution) := by
  have hstart : s.snapshotDue = (s.snapStarted ((List.range 16).filter (fun k => decide (2 ≤ s.bst k))) []).each
      ((List.range 16).filter (fun k => decide (2 < s.bst k))) snapContribute := if_neg (by simp [hon, hidle])
  rw [hstart, s.each_snapContribute (List.Nodup.filter _ List.nodup_range) []]
  · rw [List.filter_filter]
    refine congrArg₂ s.snapStarted (List.filter_congr fun x hx => ?_) (List.nil_append _)
    rw [Bool.eq_iff_iff]
    simp only [List.mem_filter, hx, Bool.and_eq_true, decide_eq_true_eq, true_and]
    omega
  · intro k hk
    obtain ⟨hk, hb⟩ := List.mem_filter.mp hk
    exact List.mem_filter.mpr ⟨hk, by simp only [decide_eq_true_eq] at hb ⊢; omega⟩

theorem snapshotDue_not (h : s.mill.snapBusy = true ∨ s.on MILL_SNAP_CFG_ENABLE = false) : s.snapshotDue = s :=
  if_pos (by rcases h with h | h <;> simp [h])

theorem exec_snapshotDue_eq : exec .snapshotDue s = .next (s.when s.dpUp snapshotDue).dispatch := rfl

end Snapshots

end State

theorem exec_snapshotDue_starts (s : State) :
    s.dpUp = true → s.on MILL_SNAP_CFG_ENABLE = true → s.mill.snapBusy = false →
    ∃ t, exec .snapshotDue s = .next t ∧ t.mill.snapBusy = true ∧
      t.mill.snapWait = (List.range 16).filter (fun k => s.bst k = 2) ∧
      t.mill.snapGot = ((List.range 16).filter (fun k => 2 < s.bst k)).map (fun k => (k, (s.body k).tm, (s.body k).digest, s.coarse k)) ∧
      (∀ k : Fin 16, (t.body k).cells = (s.body k).cells) ∧ SameRegs (s.millRegs 0) s t ∧ t.log = s.log := by
  intro hup hon hidle
  rw [State.exec_snapshotDue_eq, hup, State.when, if_pos rfl, s.snapshotDue_eq hon hidle]
  have hd := State.dispatched_dispatch (s.snapStarted ((List.range 16).filter (fun k => s.bst k = 2))
    (((List.range 16).filter (fun k => 2 < s.bst k)).map s.contribution)) 0
  exact ⟨_, rfl, hd.mill.snapBusy, hd.mill.snapWait, hd.mill.snapGot, fun k => (hd.body k).cells, hd.regs, hd.log⟩

theorem exec_snapshotDue_not (s : State) :
    (s.dpUp = false ∨ s.mill.snapBusy = true ∨ s.on MILL_SNAP_CFG_ENABLE = false) → exec .snapshotDue s = .next s.dispatch := by
  intro h
  rw [State.exec_snapshotDue_eq]
  cases hup : s.dpUp with
  | false => rfl
  | true => rw [State.when, if_pos rfl, s.snapshotDue_not (h.resolve_left (by rw [hup]; decide))]

namespace State

/-! ### The file that is programmed (R295) -/

section Written
variable (s : State)

/-- No snapshot is in progress any more; its number is `n`. -/
def snapEnded (n : Nat) : State :=
  ({ s.quadFree .snapshot with mill := { (s.quadFree .snapshot).mill with
      snapBusy := false, snapWaited := false, snapGot := [], snapSeq := n } } : State).tookN 39

/-- The file of the snapshot in progress. -/
def snapshotFile : List Byte := s.snapFile 1 (s.mill.snapSeq + 1) (s.mill.snapGot.map (fun p =>
  { body := p.1, tm := p.2.1, digest := p.2.2.1, records := p.2.2.2.map (fun c => c.2.bytes) }))

/-- The area holds what was programmed, and the registers show it. -/
def snapKept (f : List Byte) : State :=
  ((s.snapEnded (s.mill.snapSeq + 1)).setArea s.snapTarget f).put MILL_SNAP_STATUS_LAST_AREA s.snapTarget

theorem snapshotWritten_good {q : Nat} (h : (q, Work.snapshot) ∈ s.mill.quads) : s.snapshotWritten true =
    (s.snapKept s.snapshotFile).mev 0x6034 s.snapTarget (s.mill.snapSeq + 1) s.snapshotFile.length :=
  if_neg (by simpa using ⟨q, h⟩)

theorem snapshotWritten_failed {q : Nat} (h : (q, Work.snapshot) ∈ s.mill.quads) : s.snapshotWritten false =
    s.snapKept [] := if_neg (by simpa using ⟨q, h⟩)

theorem snapshotWritten_not (h : ∀ p ∈ s.mill.quads, p.2 ≠ Work.snapshot) (ok : Bool) : s.snapshotWritten ok = s :=
  if_pos (by simpa using h)

theorem snapTarget_lt : s.snapTarget < 2 := by
  have hlast : s.get MILL_SNAP_STATUS_LAST_AREA < 2 := s.get_lt MILL_SNAP_STATUS_LAST_AREA
  rw [snapTarget]
  split <;> omega

/-- What the registers and the flash hold of the area that was programmed and of the other. -/
structure SnapHeld (f : List Byte) (s t : State) : Prop where
  last : t.get MILL_SNAP_STATUS_LAST_AREA = s.snapTarget
  valid : (t.get MILL_SNAP_STATUS_AREA_VALID).testBit s.snapTarget = snapOk 1 f
  area : t.snapArea s.snapTarget = f
  other : t.snapArea (1 - s.snapTarget) = s.snapArea (1 - s.snapTarget)
  busy : t.mill.snapBusy = false
  seq : t.mill.snapSeq = s.mill.snapSeq + 1

/-- The bit of an area in AREA_VALID. -/
theorem testBit_areas (p q : Bool) {n : Nat} (hn : n < 2) :
    (((if p then 1 else 0) + (if q then 2 else 0)) % 4).testBit n = if n = 0 then p else q := by
  interval_cases n <;> cases p <;> cases q <;> rfl

theorem snapHeld_snapKept (f : List Byte) : SnapHeld f s (s.snapKept f) := by
  have htarget := s.snapTarget_lt
  have hkept : s.snapKept f = ((s.snapEnded (s.mill.snapSeq + 1)).setArea s.snapTarget f).put MILL_SNAP_STATUS_LAST_AREA
    s.snapTarget := rfl
  rw [hkept]
  have hsnaps : (s.snapEnded (s.mill.snapSeq + 1)).snaps = s.snaps := rfl
  have hbusy : (s.snapEnded (s.mill.snapSeq + 1)).mill.snapBusy = false := rfl
  have hseq : (s.snapEnded (s.mill.snapSeq + 1)).mill.snapSeq = s.mill.snapSeq + 1 := rfl
  generalize s.snapEnded (s.mill.snapSeq + 1) = e at *
  have harea (n : Nat) : (e.setArea s.snapTarget f).snapArea n = if n = s.snapTarget then f else s.snapArea n := by
    rw [snapArea, snapArea, ← hsnaps]
    exact tget_tset ..
  have hget : (e.setArea s.snapTarget f).get MILL_SNAP_STATUS_AREA_VALID =
      ((if snapOk 1 ((e.setArea s.snapTarget f).snapArea 0) then 1 else 0) +
        (if snapOk 1 ((e.setArea s.snapTarget f).snapArea 1) then 2 else 0)) % 4 := get_put_same _ _ _ (by decide)
  refine ⟨?_, ?_, ?_, ?_, hbusy, hseq⟩
  · rw [get_put_same _ _ _ (by decide)]
    exact Nat.mod_eq_of_lt htarget
  · rw [get_put_ne _ _ _ _ (by decide) (by decide), hget, testBit_areas _ _ htarget]
    split
    case isTrue h => rw [harea, if_pos h.symm]
    case isFalse h => rw [harea, if_pos (by omega)]
  · exact (harea _).trans (if_pos rfl)
  · exact (harea _).trans (if_neg (by omega))

theorem millRegs_snapKept (f : List Byte) : (s.snapKept f).millRegs 0 = s.millRegs 0 := rfl

theorem sameRegs_snapKept (f : List Byte) : SameRegs (s.millRegs 0) s (s.snapKept f) := by
  have hmem : MILL_SNAP_STATUS ∈ s.millRegs 0 := by simp [millRegs]
  rw [snapKept, setArea, snapShow]
  exact SameRegs.put (SameRegs.put (fun _ _ => rfl) _ hmem) _ hmem

theorem log_snapKept (f : List Byte) : (s.snapKept f).log = s.log := rfl
theorem pwr_snapKept (f : List Byte) : (s.snapKept f).pwr = s.pwr := rfl

variable {s} {t : State}

theorem SnapHeld.dispatch {f : List Byte} (h : SnapHeld f s t) : SnapHeld f s t.dispatch := by
  have hd := dispatched_dispatch t 0
  obtain ⟨hsnaps, hreg⟩ := hd.areas h.busy
  have hget (g : Fld) (hg : g.addr = MILL_SNAP_STATUS) : t.dispatch.get g = t.get g := by rw [get, get, hg, hreg]
  have harea (n : Nat) : t.dispatch.snapArea n = t.snapArea n := by rw [snapArea, snapArea, hsnaps]
  exact ⟨by rw [hget _ rfl, h.last], by rw [hget _ rfl, h.valid], by rw [harea, h.area], by rw [harea, h.other],
    hd.mill.snapBusy.trans h.busy, hd.mill.snapSeq.trans h.seq⟩

/-- A record of the Millstone changes none of it. -/
theorem SnapHeld.mev {f : List Byte} (h : SnapHeld f s t) (hroom : Room t portMill) (c k a b : Nat) :
    SnapHeld f s (t.mev c k a b) := by
  have hlogged := SameRegs.ev (SameRegs.refl [] t) portMill c k a b false hroom
  have hmill := t.ev_mill portMill c k a b false
  have hsnaps := t.ev_snaps portMill c k a b false
  rw [State.mev]
  generalize t.ev portMill c k a b false = u at *
  have harea (n : Nat) : u.snapArea n = t.snapArea n := by rw [snapArea, snapArea, hsnaps]
  exact ⟨(hlogged.get_eq (by simp)).trans h.last, by rw [hlogged.get_eq (by simp), h.valid], by rw [harea, h.area],
    by rw [harea, h.other], by rw [hmill, h.busy], by rw [hmill, h.seq]⟩

theorem exec_snapshotWriteDone_eq (ok : Bool) :
    exec (.snapshotWriteDone ok) s = .next (s.when s.dpUp (·.snapshotWritten ok)).dispatch := rfl

end Written

end State

theorem exec_snapshotWriteDone_good (q : Nat) (s : State) :
    (q, Work.snapshot) ∈ s.mill.quads → s.dpUp = true → Room s portMill →
    ∃ t, exec (.snapshotWriteDone true) s = .next t ∧ t.get MILL_SNAP_STATUS_LAST_AREA = s.snapTarget ∧
      t.mill.snapBusy = false ∧ t.mill.snapSeq = s.mill.snapSeq + 1 ∧
      t.snapArea s.snapTarget = s.snapFile 1 (s.mill.snapSeq + 1) (s.mill.snapGot.map (fun p =>
        { body := p.1, tm := p.2.1, digest := p.2.2.1, records := p.2.2.2.map (fun c => c.2.bytes) })) ∧
      (t.get MILL_SNAP_STATUS_AREA_VALID).testBit s.snapTarget = true ∧
      t.snapArea (1 - s.snapTarget) = s.snapArea (1 - s.snapTarget) ∧
      SameRegs (s.millRegs 0) s t ∧
      Logged portMill 0x6034 s.snapTarget (s.mill.snapSeq + 1) (t.snapArea s.snapTarget).length s t := by
  intro hq hup hroom
  rw [State.exec_snapshotWriteDone_eq, hup, State.when, if_pos rfl, s.snapshotWritten_good hq]
  have hkept := s.snapHeld_snapKept s.snapshotFile
  have hregs := s.sameRegs_snapKept s.snapshotFile
  have hlist := s.millRegs_snapKept s.snapshotFile
  have hlog := s.log_snapKept s.snapshotFile
  have hroom' : Room (s.snapKept s.snapshotFile) portMill := hroom.of_log hlog (s.pwr_snapKept _)
  have hok : snapOk 1 s.snapshotFile = true := s.snapOk_snapFile ..
  have hfile : s.snapshotFile = s.snapFile 1 (s.mill.snapSeq + 1) (s.mill.snapGot.map (fun p =>
    { body := p.1, tm := p.2.1, digest := p.2.2.1, records := p.2.2.2.map (fun c => c.2.bytes) })) := rfl
  generalize s.snapshotFile = f at *
  generalize s.snapKept f = u at *
  have hheld := (hkept.mev hroom' 0x6034 s.snapTarget (s.mill.snapSeq + 1) f.length).dispatch
  have hsame := hregs.ev portMill 0x6034 s.snapTarget (s.mill.snapSeq + 1) f.length false hroom'
  have hrec := logged_ev u portMill 0x6034 s.snapTarget (s.mill.snapSeq + 1) f.length hroom'
  have hmill := u.ev_mill portMill 0x6034 s.snapTarget (s.mill.snapSeq + 1) f.length false
  rw [State.mev] at hheld ⊢
  generalize u.ev portMill 0x6034 s.snapTarget (s.mill.snapSeq + 1) f.length false = v at *
  have hd := State.dispatched_dispatch v 0
  have hvlist : v.millRegs 0 = s.millRegs 0 := by rw [← hlist, State.millRegs, State.millRegs, hmill]
  rw [hvlist] at hd
  refine ⟨_, rfl, hheld.last, hheld.busy, hheld.seq, hheld.area.trans hfile, hheld.valid.trans hok, hheld.other,
    hsame.next hd.regs, ?_⟩
  rw [Logged] at hrec ⊢
  rw [hd.log, hrec, hlog, hheld.area]

theorem exec_snapshotWriteDone_failed (q : Nat) (s : State) :
    (q, Work.snapshot) ∈ s.mill.quads → s.dpUp = true →
    ∃ t, exec (.snapshotWriteDone false) s = .next t ∧ t.get MILL_SNAP_STATUS_LAST_AREA = s.snapTarget ∧
      t.mill.snapBusy = false ∧ t.snapArea s.snapTarget = [] ∧ (t.get MILL_SNAP_STATUS_AREA_VALID).testBit s.snapTarget = false ∧
      t.snapArea (1 - s.snapTarget) = s.snapArea (1 - s.snapTarget) ∧ SameRegs (s.millRegs 0) s t ∧ t.log = s.log := by
  intro hq hup
  rw [State.exec_snapshotWriteDone_eq, hup, State.when, if_pos rfl, s.snapshotWritten_failed hq]
  have hheld := (s.snapHeld_snapKept []).dispatch
  have hd := State.dispatched_dispatch (s.snapKept []) 0
  exact ⟨_, rfl, hheld.last, hheld.busy, hheld.area, hheld.valid.trans (by decide), hheld.other,
    (s.sameRegs_snapKept []).next hd.regs, hd.log⟩

theorem exec_snapshotWriteDone_not (ok : Bool) (s : State) :
    (s.dpUp = false ∨ ∀ p ∈ s.mill.quads, p.2 ≠ Work.snapshot) → exec (.snapshotWriteDone ok) s = .next s.dispatch := by
  intro h
  rw [State.exec_snapshotWriteDone_eq]
  cases hup : s.dpUp with
  | false => rfl
  | true => rw [State.when, if_pos rfl, s.snapshotWritten_not (h.resolve_left (by rw [hup]; decide))]

/-! ### A cell's words of one moment (R245) -/

/-- The cell words of a body are one latch group of the data plane. -/
theorem cellWord_group : ∀ k : Fin 16, mapped (MILL_CELL_W k 0) = true ∧ planeOf (MILL_CELL_W k 0) = .data ∧
    latchMembers (MILL_CELL_W k 0) = [MILL_CELL_W k 1, MILL_CELL_W k 2, MILL_CELL_W k 3] := by decide

/-- Where a cell word is looked up. -/
theorem cellWord_place : ∀ (k : Fin 16) (n : Fin 4), planeOf (MILL_CELL_W k n) = .data ∧
    inNodeWindow (MILL_CELL_W k n) = false ∧ MILL_CELL_W k n ≠ MILL_SNAP_STATUS ∧ MILL_CELL_W k n ≠ MILL_EST_COUNT ∧
    estAt (MILL_CELL_W k n) = none ∧ instOf 0x400000 0x4000 16 (MILL_CELL_W k n) = some (k.val, 0x28 + 4 * n.val) := by
  decide

theorem State.look_cellWord (s : State) (req : Nat) (k : Fin 16) (n : Fin 4) :
    s.look req (MILL_CELL_W k n) = s.cellWord k n := by
  obtain ⟨hplane, hnode, hsnap, hest, hent, hinst⟩ := cellWord_place k n
  rw [State.look, hplane]
  have hn := n.isLt
  refine Eq.trans (b := s.lookData (MILL_CELL_W k n)) rfl ?_
  rw [State.lookData, if_neg (by rw [hnode]; decide), if_neg hsnap, if_neg hest, hent, hinst]
  dsimp only
  rw [if_pos (by omega), Nat.add_sub_cancel_left, Nat.mul_div_cancel_left _ (by decide)]

theorem exec_millCellRead_group (req : Nat) (k : Fin 16) (s : State) :
    s.mpUp = true → s.inReset .data = false → s.loading = false →
    s.waitsBehind (MILL_CELL_W k 0) = false →
    ∃ t, exec (.millCellRead req k) s = .next t ∧ t.out = .reply req (s.cellWord k 0) :: s.out ∧
      t.captured req (MILL_CELL_W k 1) = some (s.cellWord k 1) ∧ t.captured req (MILL_CELL_W k 2) = some (s.cellWord k 2) ∧
      t.captured req (MILL_CELL_W k 3) = some (s.cellWord k 3) ∧ { t with out := s.out, fab := s.fab } = s := by
  intro hup hreset hload hwait
  obtain ⟨hmapped, hplane, hgroup⟩ := cellWord_group k
  have hlook (n : Fin 4) := s.look_cellWord req k n
  have hread : s.readAt req (MILL_CELL_W k 0) = (s.look req (MILL_CELL_W k 0),
      s.capture req [MILL_CELL_W k 1, MILL_CELL_W k 2, MILL_CELL_W k 3]) := by
    rw [← hgroup]
    exact State.readAt_group hup hmapped (by rw [hplane]; exact hreset) (by rw [hgroup]; exact List.cons_ne_nil _ _)
  have hcaptured (m : Nat) (h : m ∈ [MILL_CELL_W k 1, MILL_CELL_W k 2, MILL_CELL_W k 3]) :
      (s.capture req [MILL_CELL_W k 1, MILL_CELL_W k 2, MILL_CELL_W k 3]).captured req m = some (s.look req m) :=
    State.captured_capture h
  rw [show exec (.millCellRead req k) s = .next (s.readVia req (MILL_CELL_W k 0)) from rfl, State.readVia_now hload hwait,
    hread]
  refine ⟨_, rfl, ?_, ?_, ?_, ?_, rfl⟩
  · exact congrArg (fun w => Output.reply req w :: s.out) (hlook 0)
  · exact (hcaptured _ (by simp)).trans (congrArg some (hlook 1))
  · exact (hcaptured _ (by simp)).trans (congrArg some (hlook 2))
  · exact (hcaptured _ (by simp)).trans (congrArg some (hlook 3))

namespace State

/-! ### The minute of a body (R242) -/

/-- A body whose minute has been reported. -/
def minuteDone (b : Body) : Body :=
  { b with mLate := 0, mLag := 0, mSubst := 0, mLost := 0, mUnder := 0, mRoll := 0, mDeep := 0, mAged := 0,
           mOldest := 0, mGated := 0, mGatedLast := 0, mDropped := false }

theorem cells_minuteDone (b : Body) : (minuteDone b).cells = b.cells := rfl

/-- A record of the minute where a count gives one. -/
def minuteRecord (t : State) (c : Bool) (code k p1 p2 : Nat) : State := if c then t.mev code k p1 p2 else t

theorem minuteRecord_none (t : State) (code k p1 p2 : Nat) : t.minuteRecord false code k p1 p2 = t := rfl

theorem millMinute_eq (s : State) (k busy : Nat) : s.millMinute k busy =
    ((((((((s.minuteRecord (decide ((s.body k).mLate ≠ 0)) 0x6012 k (s.body k).mLate (s.body k).mLag).minuteRecord
      (decide ((s.body k).mSubst ≠ 0)) 0x6021 k (s.body k).mSubst 0).minuteRecord
      (flt 0 (s.body k).mLost) 0x6022 k (ftoIntScaled 1000 (s.body k).mLost).toNat 0).minuteRecord
      (decide ((s.body k).mUnder ≠ 0)) 0x6023 k (s.body k).mUnder 0).minuteRecord
      (decide ((s.body k).mRoll ≠ 0)) 0x6030 k (s.body k).mRoll (s.body k).mDeep).minuteRecord
      (decide ((s.body k).mAged ≠ 0)) 0x6031 k (s.body k).mAged (s.body k).mOldest).minuteRecord
      (decide ((s.body k).mGated ≠ 0)) 0x6032 k (s.body k).mGated (s.body k).mGatedLast).setBody k
      (minuteDone (s.body k))).put MILL_LOAD_BUSY busy := rfl

theorem sameRegs_setBody {l : List Nat} {s t : State} {k : Nat} {b : Body} :
    SameRegs l s (t.setBody k b) ↔ SameRegs l s t := sameRegs_congr rfl

end State

theorem exec_millMinuteReport_late (k : Fin 16) (busy : Nat) (s : State) :
    s.dpUp = true → (s.body k).mLate ≠ 0 → (s.body k).mSubst = 0 → (s.body k).mLost = 0 →
    (s.body k).mUnder = 0 → (s.body k).mRoll = 0 → (s.body k).mAged = 0 → (s.body k).mGated = 0 → busy < 65536 →
    Room s portMill →
    ∃ t, exec (.millMinuteReport k busy) s = .next t ∧ (t.body k).mLate = 0 ∧ (t.body k).mLag = 0 ∧
      (t.body k).cells = (s.body k).cells ∧ t.get MILL_LOAD_BUSY = busy ∧ SameRegs [MILL_LOAD] s t ∧
      Logged portMill 0x6012 k (s.body k).mLate (s.body k).mLag s t := by
  intro hup hlate hsubst hlost hunder hroll haged hgated hbusy hroom
  have hlost' : flt 0 (0 : F32) = false := by decide
  have hone : s.minuteRecord (decide ((s.body k).mLate ≠ 0)) 0x6012 k (s.body k).mLate (s.body k).mLag =
      s.ev portMill 0x6012 k (s.body k).mLate (s.body k).mLag := if_pos (by simpa using hlate)
  have hzero : decide ((0 : Nat) ≠ 0) = false := rfl
  rw [show exec (.millMinuteReport k busy) s = .next (s.when s.dpUp (·.millMinute k busy)) from rfl, hup, State.when,
    if_pos rfl, State.millMinute_eq, hone, hsubst, hlost, hunder, hroll, haged, hgated, hlost', hzero]
  simp only [State.minuteRecord_none]
  have hrec := logged_ev s portMill 0x6012 k (s.body k).mLate (s.body k).mLag hroom
  have hsame := (SameRegs.refl [MILL_LOAD] s).ev portMill 0x6012 k (s.body k).mLate (s.body k).mLag false hroom
  generalize s.ev portMill 0x6012 k (s.body k).mLate (s.body k).mLag = t at *
  have hbody : ((t.setBody k (State.minuteDone (s.body k))).put MILL_LOAD_BUSY busy).body k =
      State.minuteDone (s.body k) := by
    rw [State.body_congr _ _ (State.put_mill ..), State.body_setBody_same]
  refine ⟨_, rfl, by rw [hbody]; rfl, by rw [hbody]; rfl, by rw [hbody, State.cells_minuteDone], ?_, ?_, ?_⟩
  · rw [get_put_same _ _ _ (by decide)]
    exact Nat.mod_eq_of_lt hbusy
  · rw [sameRegs_put (by decide), State.sameRegs_setBody]
    exact hsame
  · exact hrec

/-- Settles O46: a snapshot from its start to its file, the words of a cell, and the minute's records. -/
theorem millSnapshots : Obligations.MillSnapshots :=
  ⟨exec_snapshotDue_starts, exec_snapshotDue_not, exec_snapshotWriteDone_good, exec_snapshotWriteDone_failed,
    exec_snapshotWriteDone_not, exec_millCellRead_group, exec_millMinuteReport_late⟩

end Sys2Proof.Machine
end

section
/-! PROOFS. No command touches the commands that wait behind it (O5). -/

namespace Sys2Proof.Machine

open Reg

-- one declaration after the other: elaborated together these lemmas need more memory than the check gives
set_option Elab.async false

/-! ### One rule per operation: it leaves the waiting commands

The operations in the order the model builds them, each from the rules of those it calls. `-implicitDefEqProofs` keeps
the rewriting steps in the proof: without them the kernel would unfold an operation to compare two states. -/

namespace State

/-! #### Primitive updates -/

theorem store_pending (s : State) (a : Nat) (v : Word) : (s.store a v).pending = s.pending := by
  rw [store]
  split
  · exact (apply_ite pending _ _ _).trans (ite_self _)
  · rfl

theorem tookN_pending (s : State) (n : Nat) : (s.tookN n).pending = s.pending := rfl

theorem publish_pending (s : State) (n : Nat) (a b : F32) (c : Word) (i : EntryInfo) :
    (s.publish n a b c i).pending = s.pending := rfl

theorem ite_pending {c : Prop} [Decidable c] {p : List Instr} {s t : State} (hs : s.pending = p) (ht : t.pending = p) :
    (if c then s else t).pending = p := by
  split
  · exact hs
  · exact ht

theorem when_pending {f : State → State} (hf : ∀ t, (f t).pending = t.pending) (s : State) (c : Bool) :
    (s.when c f).pending = s.pending := by
  cases c
  · rfl
  · exact hf s

theorem foldl_pending {α : Type} {f : State → α → State} (hf : ∀ t a, (f t a).pending = t.pending) (l : List α)
    (s : State) : (l.foldl f s).pending = s.pending := by
  induction l generalizing s with
  | nil => rfl
  | cons a l ih => exact (ih (f s a)).trans (hf s a)

theorem each_pending {α : Type} {f : State → α → State} (hf : ∀ t a, (f t a).pending = t.pending) (l : List α)
    (s : State) : (s.each l f).pending = s.pending := foldl_pending hf l s

theorem foldl_fst_pending {α β : Type} {f : State × β → α → State × β}
    (hf : ∀ p a, (f p a).1.pending = p.1.pending) (l : List α) (p : State × β) :
    (l.foldl f p).1.pending = p.1.pending := by
  induction l generalizing p with
  | nil => rfl
  | cons a l ih => exact (ih (f p a)).trans (hf p a)

theorem forward_pending (s : State) (c : Word) (x y : F32) (n : Nat) : (s.forward c x y n).pending = s.pending := rfl

theorem setBank_pending (s : State) (b : Nat) (k : Bank) : (s.setBank b k).pending = s.pending := rfl

/-! #### Door panel -/

theorem dirtyRows_pending (s : State) (mask : Nat) : (s.dirtyRows mask).pending = s.pending := by
  simp -implicitDefEqProofs only [State.dirtyRows, put_pending]

theorem dirtyAll_pending (s : State) : s.dirtyAll.pending = s.pending := by
  simp -implicitDefEqProofs only [State.dirtyAll, dirtyRows_pending]

theorem scanPixel_pending (s : State) (k : Nat) : (s.scanPixel k).pending = s.pending := by
  simp -implicitDefEqProofs only [State.scanPixel, putB_pending, apply_ite pending, ite_self]

theorem scanRow_pending (s : State) (y : Nat) : (s.scanRow y).pending = s.pending := by
  simp -implicitDefEqProofs only [State.scanRow, scanPixel_pending, each_pending, implies_true]

theorem copyDirty_pending (s : State) : s.copyDirty.pending = s.pending := by
  simp -implicitDefEqProofs only [State.copyDirty, scanRow_pending, put_pending, each_pending, apply_ite pending,
    ite_self, implies_true]

theorem stressPixel_pending (s : State) (e : Nat × Nat) : (s.stressPixel e).pending = s.pending := by
  simp -implicitDefEqProofs only [State.stressPixel]

theorem litRows_pending (s : State) (n : Nat) : (s.litRows n).pending = s.pending := by
  simp -implicitDefEqProofs only [State.litRows, send_pending, stressPixel_pending, each_pending, implies_true]

theorem litFrame_pending (s : State) : s.litFrame.pending = s.pending := by
  simp -implicitDefEqProofs only [State.litFrame, litRows_pending, apply_ite pending, ite_self]

theorem darken_pending (s : State) : s.darken.pending = s.pending := by
  simp -implicitDefEqProofs only [State.darken, litRows_pending, took_pending, apply_ite pending, ite_self]

theorem panelTo_pending (s : State) (lit : Bool) : (s.panelTo lit).pending = s.pending := by
  simp -implicitDefEqProofs only [State.panelTo, put_pending, dirtyAll_pending, apply_ite pending, ite_self]

theorem discharge_pending (s : State) (after : Nat) : (s.discharge after).pending = s.pending := by
  simp -implicitDefEqProofs only [State.discharge, darken_pending, put_pending, putB_pending, send_pending]

theorem dischargeDone_pending (s : State) : s.dischargeDone.pending = s.pending := by
  simp -implicitDefEqProofs only [State.dischargeDone, putB_pending, panelTo_pending, put_pending, apply_ite pending,
    ite_self]

theorem panelOffCmd_pending (s : State) : s.panelOffCmd.pending = s.pending := by
  simp -implicitDefEqProofs only [State.panelOffCmd, discharge_pending, ev_pending, apply_ite pending, ite_self]

theorem panelWake_pending (s : State) : s.panelWake.pending = s.pending := by
  simp -implicitDefEqProofs only [State.panelWake, dirtyAll_pending, ev_pending, apply_ite pending, ite_self]

theorem panelClearCrack_pending (s : State) : s.panelClearCrack.pending = s.pending := by
  simp -implicitDefEqProofs only [State.panelClearCrack, panelTo_pending, apply_ite pending, ite_self]

theorem panelClearStress_pending (s : State) (req : Nat) : (s.panelClearStress req).pending = s.pending := by
  simp -implicitDefEqProofs only [State.panelClearStress, putB_pending, ev_pending]

theorem panelVledChange_pending (s : State) (good : Bool) : (s.panelVledChange good).pending = s.pending := by
  simp -implicitDefEqProofs only [State.panelVledChange, putB_pending, dirtyAll_pending, ev_pending, panelTo_pending,
    darken_pending, apply_ite pending, ite_self]

theorem sourceChanged_pending (s : State) : s.sourceChanged.pending = s.pending := by
  simp -implicitDefEqProofs only [State.sourceChanged, dirtyAll_pending, put_pending]

theorem bindShow_pending (s : State) (code : Nat) : (s.bindShow code).pending = s.pending := by
  rw [State.bindShow]
  split <;> simp -implicitDefEqProofs only [putB_pending, sourceChanged_pending, ev_pending, apply_ite pending,
    ite_self]

theorem bindEnd_pending (s : State) : s.bindEnd.pending = s.pending := by
  simp -implicitDefEqProofs only [State.bindEnd, putB_pending, sourceChanged_pending, apply_ite pending, ite_self]

theorem panelAssets_pending (s : State) : s.panelAssets.pending = s.pending := by
  simp -implicitDefEqProofs only [State.panelAssets, bindEnd_pending, put_pending, panelTo_pending, dirtyAll_pending,
    apply_ite pending, ite_self]

theorem panelFitted_pending (s : State) : s.panelFitted.pending = s.pending := by
  simp -implicitDefEqProofs only [State.panelFitted, put_pending, apply_ite pending, ite_self]

theorem fbByte_pending (s : State) (k : Nat) (b : Byte) : (s.fbByte k b).pending = s.pending := by
  simp -implicitDefEqProofs only [State.fbByte, put_pending, apply_ite pending, ite_self]

theorem fbWrite_pending (s : State) (w : Word) : (s.fbWrite w).pending = s.pending := by
  simp -implicitDefEqProofs only [State.fbWrite, fbByte_pending, put_pending, each_pending, apply_ite pending,
    ite_self, implies_true]

theorem commitGo_pending (s : State) : s.commitGo.pending = s.pending := by
  simp -implicitDefEqProofs only [State.commitGo, putB_pending]

theorem commitEnd_pending (s : State) (status reason : Nat) : (s.commitEnd status reason).pending = s.pending := by
  simp -implicitDefEqProofs only [State.commitEnd, putB_pending, put_pending, apply_ite pending, ite_self]

theorem panelSluice_pending (s : State) : s.panelSluice.pending = s.pending := by
  simp -implicitDefEqProofs only [State.panelSluice, commitEnd_pending, discharge_pending, apply_ite pending, ite_self]

theorem latchCurrents_pending (s : State) : s.latchCurrents.pending = s.pending := by
  simp -implicitDefEqProofs only [State.latchCurrents]

theorem senseSample_pending (s : State) (vf : Nat) : (s.senseSample vf).pending = s.pending := by
  simp -implicitDefEqProofs only [State.senseSample, took_pending, putB_pending, inc_pending, apply_ite pending,
    ite_self]

theorem blankingSlot_pending (s : State) (vf : Nat) : (s.blankingSlot vf).pending = s.pending := by
  simp -implicitDefEqProofs only [State.blankingSlot, commitEnd_pending, litFrame_pending, copyDirty_pending,
    putB_pending, senseSample_pending, latchCurrents_pending, put_pending, apply_ite pending, ite_self]

theorem regain_pending (s : State) (k : Nat) : (s.regain k).pending = s.pending := by
  simp -implicitDefEqProofs only [State.regain, dirtyRows_pending, apply_ite pending, ite_self]

theorem heldReport_pending (s : State) (c : Nat) : (s.heldReport c).pending = s.pending := by
  simp -implicitDefEqProofs only [State.heldReport, ev_pending, apply_ite pending, ite_self]

theorem gainRecompute_pending (s : State) : s.gainRecompute.pending = s.pending := by
  simp -implicitDefEqProofs only [State.gainRecompute, regain_pending, heldReport_pending, put_pending, each_pending,
    apply_ite pending, ite_self, implies_true]

theorem stressSave_pending (s : State) : s.stressSave.pending = s.pending := by
  simp -implicitDefEqProofs only [State.stressSave, apply_ite pending, ite_self]

theorem crackCheck_pending (s : State) (ohms : Nat) : (s.crackCheck ohms).pending = s.pending := by
  simp -implicitDefEqProofs only [State.crackCheck, incSat_pending, putB_pending, ev_pending, discharge_pending,
    apply_ite pending, ite_self]

/-! #### Last-word strip and energy tests -/

theorem stripState_pending (s : State) (n : Nat) : (s.stripState n).pending = s.pending := by
  simp -implicitDefEqProofs only [State.stripState, put_pending]

theorem stripRest_pending (s : State) : s.stripRest.pending = s.pending := by
  simp -implicitDefEqProofs only [State.stripRest, stripState_pending]

theorem stripEnd_pending (s : State) (status reason : Nat) : (s.stripEnd status reason).pending = s.pending := by
  simp -implicitDefEqProofs only [State.stripEnd, putB_pending, put_pending]

theorem latchFlags_pending (s : State) (flags : Bool × Bool) : (s.latchFlags flags).pending = s.pending := by
  simp -implicitDefEqProofs only [State.latchFlags, putB_pending, apply_ite pending, ite_self]

theorem waveStart_pending (s : State) (kind band toSegs : Nat) (flags : Bool × Bool) :
    (s.waveStart kind band toSegs flags).pending = s.pending := by
  simp -implicitDefEqProofs only [State.waveStart, put_pending, stripState_pending, latchFlags_pending]

theorem stripAdmit_pending (s : State) : s.stripAdmit.pending = s.pending := by
  unfold State.stripAdmit
  dsimp only
  repeat' split
  all_goals simp -implicitDefEqProofs only [waveStart_pending, ev_pending, putB_pending]

theorem stripVcom_pending (s : State) (frame : Nat) : (s.stripVcom frame).pending = s.pending := by
  simp -implicitDefEqProofs only [State.stripVcom, send_pending]

theorem bandMoved_pending (s : State) (r : WaveRun) (b : Nat) : (s.bandMoved r b).pending = s.pending := by
  simp -implicitDefEqProofs only [State.bandMoved, putB_pending, ev_pending, apply_ite pending, ite_self]

theorem waveFrame_pending (s : State) (r : WaveRun) : (s.waveFrame r).pending = s.pending := by
  simp -implicitDefEqProofs only [State.waveFrame, send_pending, latchFlags_pending, bandMoved_pending, put_pending,
    putB_pending, apply_ite pending, ite_self]

theorem stripFrame_pending (s : State) : s.stripFrame.pending = s.pending := by
  unfold State.stripFrame
  repeat' split
  all_goals simp -implicitDefEqProofs only [stripVcom_pending, stripAdmit_pending, waveFrame_pending]

theorem stripMarker_pending (s : State) : s.stripMarker.pending = s.pending := by
  rw [State.stripMarker]
  split <;> simp -implicitDefEqProofs only [stripEnd_pending, stripRest_pending, apply_ite pending, ite_self]

theorem stripGo_pending (s : State) : s.stripGo.pending = s.pending := by
  simp -implicitDefEqProofs only [State.stripGo, putB_pending, stripEnd_pending, ev_pending, stripState_pending,
    apply_ite pending, ite_self]

theorem stripTimeout_pending (s : State) : s.stripTimeout.pending = s.pending := by
  simp -implicitDefEqProofs only [State.stripTimeout, stripEnd_pending, ev_pending, stripRest_pending,
    apply_ite pending, ite_self]

theorem stripPfail_pending (s : State) : s.stripPfail.pending = s.pending := by
  simp -implicitDefEqProofs only [State.stripPfail, stripEnd_pending, putB_pending, stripRest_pending,
    apply_ite pending, ite_self]

theorem stripInterrupt_pending (s : State) : s.stripInterrupt.pending = s.pending := by
  rw [State.stripInterrupt]
  split <;> simp -implicitDefEqProofs only [putB_pending, stripVcom_pending, apply_ite pending, ite_self]

theorem stripHalt_pending (s : State) : s.stripHalt.pending = s.pending := by
  simp -implicitDefEqProofs only [State.stripHalt, stripInterrupt_pending, stripRest_pending, apply_ite pending,
    ite_self]

theorem stripVepChange_pending (s : State) (good : Bool) : (s.stripVepChange good).pending = s.pending := by
  simp -implicitDefEqProofs only [State.stripVepChange, putB_pending, stripState_pending, stripInterrupt_pending,
    stripRest_pending, apply_ite pending, ite_self]

theorem stripStart_pending (s : State) : s.stripStart.pending = s.pending := by
  have h (t : State) : (if t.strip.dirty then { t with strip := { t.strip with clear := 1 } }
      else t.putB DISP_STRIP_STATUS_SHOWN_VALID true).pending = t.pending := by split <;> rfl
  exact h _

theorem stripFitted_pending (s : State) : s.stripFitted.pending = s.pending := by
  simp -implicitDefEqProofs only [State.stripFitted, stripRest_pending, apply_ite pending, ite_self]

theorem displayAssets_pending (s : State) : s.displayAssets.pending = s.pending := by
  simp -implicitDefEqProofs only [State.displayAssets, panelAssets_pending, stripFitted_pending]

/-! #### Event recorder -/

theorem pondRegs_pending (s : State) : s.pondRegs.pending = s.pending := by
  simp -implicitDefEqProofs only [State.pondRegs, put_pending, raise_pending]

theorem irqRecord_pending (s : State) (sev : Nat) : (s.irqRecord sev).pending = s.pending := by
  simp -implicitDefEqProofs only [State.irqRecord, putB_pending, apply_ite pending, ite_self]

theorem unfreeze_pending (s : State) (cause : Nat) : (s.unfreeze cause).pending = s.pending := by
  simp -implicitDefEqProofs only [State.unfreeze, putB_pending, put_pending, ev_pending, apply_ite pending, ite_self]

theorem pondEnter_pending (s : State) (src depth : Nat) (e : Submit) :
    (s.pondEnter src depth e).pending = s.pending := by
  simp -implicitDefEqProofs only [State.pondEnter, pondRegs_pending, irqRecord_pending, bindShow_pending,
    unfreeze_pending, apply_ite pending, ite_self]

theorem takePort_pending (s : State) (p : Nat) : (s.takePort p).pending = s.pending := by
  rw [takePort]
  split
  · rfl
  · exact pondEnter_pending ..

theorem overflowRecord_pending (s : State) : s.overflowRecord.pending = s.pending := by
  simp -implicitDefEqProofs only [State.overflowRecord, putB_pending, pondEnter_pending]

theorem intakeCycle_pending (s : State) (fill : Nat) : (s.intakeCycle fill).pending = s.pending := by
  unfold State.intakeCycle
  repeat' split
  all_goals simp -implicitDefEqProofs only [overflowRecord_pending, takePort_pending]

theorem arbitrate_pending (s : State) : s.arbitrate.pending = s.pending := by
  simp -implicitDefEqProofs only [State.arbitrate, intakeCycle_pending, apply_ite pending, ite_self]

theorem intakeAll_pending (s : State) : s.intakeAll.pending = s.pending := by
  simp -implicitDefEqProofs only [State.intakeAll, arbitrate_pending, each_pending, implies_true]

theorem syslogLost_pending (s : State) (gone head : List LogRec) : (s.syslogLost gone head).pending = s.pending := by
  simp -implicitDefEqProofs only [State.syslogLost, put_pending, apply_ite pending, ite_self]

theorem raceRegs_pending (s : State) : s.raceRegs.pending = s.pending := by
  simp -implicitDefEqProofs only [State.raceRegs, put_pending]

theorem headFull_pending (s : State) (was : Nat) : (s.headFull was).pending = s.pending := by
  unfold State.headFull
  dsimp only
  repeat' split
  all_goals simp -implicitDefEqProofs only [putB_pending, ev_pending]

theorem flushRecords_pending (s : State) (n : Nat) : (s.flushRecords n).pending = s.pending := by
  simp -implicitDefEqProofs only [State.flushRecords, syslogLost_pending, raceRegs_pending, put_pending,
    headFull_pending]

theorem setPool_pending (s : State) (n : Nat) : (s.setPool n).pending = s.pending := by
  simp -implicitDefEqProofs only [State.setPool, putB_pending]

theorem advancePlace_pending (s : State) (n : Nat) : (s.advancePlace n).pending = s.pending := by
  simp -implicitDefEqProofs only [State.advancePlace, setPool_pending]

theorem flushPlaced_pending (s : State) (n : Nat) : (s.flushPlaced n).pending = s.pending := by
  simp -implicitDefEqProofs only [State.flushPlaced, flushRecords_pending, advancePlace_pending]

theorem pageStart_pending (s : State) : s.pageStart.pending = s.pending := by
  simp -implicitDefEqProofs only [State.pageStart, apply_ite pending, ite_self]

theorem wearShow_pending (s : State) : s.wearShow.pending = s.pending := by
  simp -implicitDefEqProofs only [State.wearShow, put_pending, putB_pending]

theorem retire_pending (s : State) (sector : Nat) : (s.retire sector).pending = s.pending := by
  simp -implicitDefEqProofs only [State.retire, ev_pending, wearShow_pending, apply_ite pending, ite_self]

theorem pageBad_pending (s : State) : s.pageBad.pending = s.pending := by
  simp -implicitDefEqProofs only [State.pageBad, advancePlace_pending, retire_pending]

theorem pageDone_pending (s : State) (ok : Bool) : (s.pageDone ok).pending = s.pending := by
  rw [State.pageDone]
  split <;> simp -implicitDefEqProofs only [flushPlaced_pending, pageBad_pending, apply_ite pending, ite_self]

theorem wearReport_pending (s : State) : s.wearReport.pending = s.pending := by
  simp -implicitDefEqProofs only [State.wearReport, ev_pending, apply_ite pending, ite_self]

theorem tailErased_pending (s : State) (sector : Nat) (ok : Bool) : (s.tailErased sector ok).pending = s.pending := by
  simp -implicitDefEqProofs only [State.tailErased, wearShow_pending, setPool_pending, wearReport_pending,
    retire_pending, apply_ite pending, ite_self]

theorem freezeSet_pending (s : State) : s.freezeSet.pending = s.pending := by
  simp -implicitDefEqProofs only [State.freezeSet, putB_pending, put_pending, ev_pending, apply_ite pending, ite_self]

theorem freezeLift_pending (s : State) : s.freezeLift.pending = s.pending := by
  simp -implicitDefEqProofs only [State.freezeLift, unfreeze_pending, apply_ite pending, ite_self]

theorem logClear_pending (s : State) (req : Nat) : (s.logClear req).pending = s.pending := by
  simp -implicitDefEqProofs only [State.logClear, intakeAll_pending, ev_pending, putB_pending, raceRegs_pending]

theorem headErased_pending (s : State) : s.headErased.pending = s.pending := by
  rw [State.headErased]
  split <;> simp -implicitDefEqProofs only [putB_pending, raceRegs_pending, headFull_pending, apply_ite pending,
    ite_self]

theorem drainFifos_pending (s : State) : s.drainFifos.pending = s.pending := by
  simp -implicitDefEqProofs only [State.drainFifos, intakeCycle_pending, each_pending, implies_true]

theorem flushBad_pending (s : State) (bad : Nat) : (s.flushBad bad).pending = s.pending := by
  simp -implicitDefEqProofs only [State.flushBad, pageBad_pending, each_pending, implies_true]

theorem flushOnce_pending (s : State) : s.flushOnce.pending = s.pending := by
  simp -implicitDefEqProofs only [State.flushOnce, drainFifos_pending, flushPlaced_pending]

theorem flushAll_pending (s : State) (bad : Nat) : (s.flushAll bad).pending = s.pending := by
  simp -implicitDefEqProofs only [State.flushAll, flushBad_pending, flushOnce_pending]

theorem flushEndEntry_pending (s : State) : s.flushEndEntry.pending = s.pending := by
  simp -implicitDefEqProofs only [State.flushEndEntry]

theorem recorderStart_pending (s : State) : s.recorderStart.pending = s.pending := by
  simp -implicitDefEqProofs only [State.recorderStart, putB_pending, put_pending, pondEnter_pending, pondRegs_pending,
    wearShow_pending, raceRegs_pending, apply_ite pending, ite_self]

theorem logBad_pending (s : State) (sectors : List Nat) : (s.logBad sectors).pending = s.pending := by
  simp -implicitDefEqProofs only [State.logBad, ev_pending, each_pending, implies_true]

theorem syslogSend_pending (s : State) : s.syslogSend.pending = s.pending := by
  unfold State.syslogSend
  dsimp only
  repeat' split
  all_goals simp -implicitDefEqProofs only [send_pending]

theorem syslogMinute_pending (s : State) : s.syslogMinute.pending = s.pending := by
  simp -implicitDefEqProofs only [State.syslogMinute, ev_pending, apply_ite pending, ite_self]

/-! #### Valve banks -/

theorem setChan_pending (s : State) (v : Nat) (c : Channel) : (s.setChan v c).pending = s.pending := by
  simp -implicitDefEqProofs only [State.setChan]

theorem bankShow_pending (s : State) (b : Nat) : (s.bankShow b).pending = s.pending := by
  simp -implicitDefEqProofs only [State.bankShow, putB_pending, put_pending]

theorem setVst_pending (s : State) (v st : Nat) : (s.setVst v st).pending = s.pending := by
  simp -implicitDefEqProofs only [State.setVst, put_pending, setChan_pending, putB_pending, bankShow_pending,
    apply_ite pending, ite_self]

theorem vev_pending (s : State) (v code : Nat) (p1 : Nat) (p2 : Nat) : (s.vev v code p1 p2).pending = s.pending := by
  simp -implicitDefEqProofs only [State.vev, ev_pending]

theorem cqShow_pending (s : State) (b : Nat) : (s.cqShow b).pending = s.pending := by
  simp -implicitDefEqProofs only [State.cqShow, setReg_pending, put_pending]

theorem cqPush_pending (s : State) (v id status reason : Nat) : (s.cqPush v id status reason).pending = s.pending := by
  simp -implicitDefEqProofs only [cqPush, cqShow_pending, inc_pending, setBank_pending, apply_ite pending, ite_self]

theorem cqPop_pending (s : State) (b : Nat) : (s.cqPop b).pending = s.pending := by
  simp -implicitDefEqProofs only [cqPop, cqShow_pending, setBank_pending]

theorem cqMinute_pending (s : State) (b : Nat) : (s.cqMinute b).pending = s.pending := by
  simp -implicitDefEqProofs only [State.cqMinute, ev_pending, setBank_pending, apply_ite pending, ite_self]

theorem hsPut_pending (s : State) (b : Nat) (on : Bool) : (s.hsPut b on).pending = s.pending := by
  simp -implicitDefEqProofs only [State.hsPut, putB_pending]

theorem lingerEnd_pending (s : State) (b : Nat) : (s.lingerEnd b).pending = s.pending := by
  simp -implicitDefEqProofs only [State.lingerEnd, hsPut_pending, apply_ite pending, ite_self]

theorem stageStart_pending (s : State) : s.stageStart.pending = s.pending := by
  unfold State.stageStart
  dsimp only
  repeat' split
  all_goals simp -implicitDefEqProofs only []

theorem tableIn_pending (s : State) (v : Nat) : (s.tableIn v).pending = s.pending := by
  simp -implicitDefEqProofs only [State.tableIn, store_pending, setChan_pending, foldl_pending, implies_true]

theorem relItemEnd_pending (s : State) (v : Nat) : (s.relItemEnd v).pending = s.pending := by
  rw [State.relItemEnd]
  split <;> simp -implicitDefEqProofs only [setChan_pending, cqPush_pending, tableIn_pending]

theorem riseStart_pending (s : State) (v : Nat) : (s.riseStart v).pending = s.pending := by
  simp -implicitDefEqProofs only [State.riseStart, setChan_pending, put_pending, setVst_pending, apply_ite pending,
    ite_self]

theorem letIn_pending (s : State) (v id : Nat) (cont : Bool) (hold : Nat) :
    (s.letIn v id cont hold).pending = s.pending := by
  simp -implicitDefEqProofs only [State.letIn, relItemEnd_pending, setChan_pending, put_pending, putB_pending,
    riseStart_pending, hsPut_pending, setVst_pending, apply_ite pending, ite_self]

theorem unqueue_pending (s : State) (v status reason : Nat) : (s.unqueue v status reason).pending = s.pending := by
  rw [State.unqueue]
  split <;> simp -implicitDefEqProofs only [setChan_pending, cqPush_pending, setVst_pending, stageStart_pending,
    setBank_pending]

theorem serveN_pending (n b : Nat) (s : State) : (serveN n b s).pending = s.pending := by
  induction n generalizing s with
  | zero => rfl
  | succ n ih =>
    rw [serveN]
    split
    · rfl
    · split
      · simp -implicitDefEqProofs only [ih, unqueue_pending]
      · split
        · rfl
        · split
          · simp -implicitDefEqProofs only [ih, unqueue_pending]
          · split <;> simp -implicitDefEqProofs only [ih, letIn_pending, setBank_pending]

theorem serve_pending (s : State) (b : Nat) : (s.serve b).pending = s.pending := by
  simp -implicitDefEqProofs only [State.serve, serveN_pending, bankShow_pending]

theorem vfault_pending (s : State) (v cause id : Nat) : (s.vfault v cause id).pending = s.pending := by
  simp -implicitDefEqProofs only [State.vfault, put_pending, vev_pending, bankShow_pending, setVst_pending,
    apply_ite pending, ite_self]

theorem moved_pending (s : State) (v us ma : Nat) : (s.moved v us ma).pending = s.pending := by
  simp -implicitDefEqProofs only [State.moved, setChan_pending, put_pending]

theorem closeWindow_pending (s : State) (v : Nat) (samples : List Nat) :
    (s.closeWindow v samples).pending = s.pending := by
  unfold State.closeWindow
  dsimp only
  repeat' split
  all_goals simp -implicitDefEqProofs only [setChan_pending, moved_pending, put_pending, vev_pending]

theorem dropWindow_pending (s : State) (v : Nat) : (s.dropWindow v).pending = s.pending := by
  unfold State.dropWindow
  dsimp only
  repeat' split
  all_goals simp -implicitDefEqProofs only [setChan_pending, tookN_pending, moved_pending, put_pending]

theorem verdictRecord_pending (s : State) (v kind rm : Nat) : (s.verdictRecord v kind rm).pending = s.pending := by
  simp -implicitDefEqProofs only [State.verdictRecord, vev_pending]

theorem release_pending (s : State) (v : Nat) (forced : Option (Nat × Nat)) :
    (s.release v forced).pending = s.pending := by
  simp -implicitDefEqProofs only [State.release, dropWindow_pending, verdictRecord_pending, setChan_pending,
    putB_pending, setVst_pending, serve_pending, apply_ite pending, ite_self]

theorem faultVerdict_pending (s : State) (v kind reason rm : Nat) :
    (s.faultVerdict v kind reason rm).pending = s.pending := by
  simp -implicitDefEqProofs only [State.faultVerdict, verdictRecord_pending, release_pending, vfault_pending]

theorem newProfile_pending (s : State) (v id : Nat) (cont : Bool) (hold : Nat) :
    (s.newProfile v id cont hold).pending = s.pending := by
  simp -implicitDefEqProofs only [State.newProfile, cqPush_pending, letIn_pending, setChan_pending, put_pending,
    inc_pending, setVst_pending, setBank_pending, apply_ite pending, ite_self]

theorem valveStart_pending (s : State) (v id : Nat) (cont : Bool) (hold : Nat) :
    (s.valveStart v id cont hold).pending = s.pending := by
  unfold State.valveStart
  dsimp only
  repeat' split
  all_goals simp -implicitDefEqProofs only [cqPush_pending, newProfile_pending, setChan_pending, put_pending,
    putB_pending]

theorem cancelPrearm_pending (s : State) (v status reason : Nat) :
    (s.cancelPrearm v status reason).pending = s.pending := by
  simp -implicitDefEqProofs only [State.cancelPrearm, cqPush_pending, setChan_pending, tableIn_pending, setVst_pending,
    hsPut_pending, serve_pending, stageStart_pending, inc_pending, apply_ite pending, ite_self]

theorem valveStop_pending (s : State) (v id : Nat) : (s.valveStop v id).pending = s.pending := by
  simp -implicitDefEqProofs only [State.valveStop, unqueue_pending, serve_pending, cancelPrearm_pending,
    release_pending, cqPush_pending, apply_ite pending, ite_self]

theorem prearmEnd_pending (s : State) (v : Nat) : (s.prearmEnd v).pending = s.pending := by
  simp -implicitDefEqProofs only [State.prearmEnd, riseStart_pending, release_pending, apply_ite pending, ite_self]

theorem peakReached_pending (s : State) (v : Nat) (samples : List Nat) :
    (s.peakReached v samples).pending = s.pending := by
  simp -implicitDefEqProofs only [State.peakReached, closeWindow_pending, setChan_pending, setVst_pending,
    apply_ite pending, ite_self]

theorem holdStart_pending (s : State) (v : Nat) : (s.holdStart v).pending = s.pending := by
  simp -implicitDefEqProofs only [State.holdStart, setChan_pending, setVst_pending, verdictRecord_pending,
    serve_pending, release_pending, apply_ite pending, ite_self]

theorem peakLow_pending (s : State) (v hi : Nat) : (s.peakLow v hi).pending = s.pending := by
  simp -implicitDefEqProofs only [State.peakLow, putB_pending, vev_pending, apply_ite pending, ite_self]

theorem peakTimeEnd_pending (s : State) (v : Nat) (samples : List Nat) :
    (s.peakTimeEnd v samples).pending = s.pending := by
  simp -implicitDefEqProofs only [State.peakTimeEnd, closeWindow_pending, peakLow_pending, faultVerdict_pending,
    holdStart_pending, apply_ite pending, ite_self]

theorem holdFinish_pending (s : State) (v : Nat) : (s.holdFinish v).pending = s.pending := by
  simp -implicitDefEqProofs only [State.holdFinish, release_pending, apply_ite pending, ite_self]

theorem clearFault_pending (s : State) (v why : Nat) : (s.clearFault v why).pending = s.pending := by
  simp -implicitDefEqProofs only [State.clearFault, put_pending, vev_pending, setVst_pending, stageStart_pending,
    apply_ite pending, ite_self]

theorem releaseDone_pending (s : State) (v : Nat) : (s.releaseDone v).pending = s.pending := by
  simp -implicitDefEqProofs only [State.releaseDone, setChan_pending, relItemEnd_pending, vfault_pending,
    setVst_pending, stageStart_pending, clearFault_pending, apply_ite pending, ite_self]

theorem shortTrip_pending (s : State) (v : Nat) : (s.shortTrip v).pending = s.pending := by
  simp -implicitDefEqProofs only [State.shortTrip, faultVerdict_pending, apply_ite pending, ite_self]

theorem deferTimeout_pending (s : State) (v : Nat) : (s.deferTimeout v).pending = s.pending := by
  simp -implicitDefEqProofs only [State.deferTimeout, serve_pending, vev_pending, unqueue_pending, apply_ite pending,
    ite_self]

theorem probeStart_pending (s : State) (v : Nat) : (s.probeStart v).pending = s.pending := by
  simp -implicitDefEqProofs only [State.probeStart, putB_pending, apply_ite pending, ite_self]

theorem stuckVerdict_pending (s : State) (v rm : Nat) : (s.stuckVerdict v rm).pending = s.pending := by
  simp -implicitDefEqProofs only [State.stuckVerdict, verdictRecord_pending, setChan_pending, put_pending]

theorem probeDone_pending (s : State) (v dMin : Nat) (p : ProbeMean) (im mv : Nat) :
    (s.probeDone v dMin p im mv).pending = s.pending := by
  unfold State.probeDone
  dsimp only
  repeat' split
  all_goals simp -implicitDefEqProofs only [putB_pending, setChan_pending, took_pending, verdictRecord_pending,
    release_pending, cqPush_pending, stuckVerdict_pending, faultVerdict_pending]

theorem dutyJudge_pending (s : State) (v : Nat) : (s.dutyJudge v).pending = s.pending := by
  simp -implicitDefEqProofs only [State.dutyJudge, put_pending, putB_pending, vev_pending, bankShow_pending,
    release_pending, apply_ite pending, ite_self]

theorem dutyInterval_pending (s : State) (v : Nat) : (s.dutyInterval v).pending = s.pending := by
  simp -implicitDefEqProofs only [State.dutyInterval, setChan_pending, dutyJudge_pending]

theorem settle_pending (s : State) (v cancel fail : Nat) : (s.settle v cancel fail).pending = s.pending := by
  simp -implicitDefEqProofs only [State.settle, unqueue_pending, cancelPrearm_pending, release_pending,
    apply_ite pending, ite_self]

theorem settleBank_pending (s : State) (b cancel fail : Nat) : (s.settleBank b cancel fail).pending = s.pending := by
  simp -implicitDefEqProofs only [State.settleBank, unqueue_pending, settle_pending, hsPut_pending, bankShow_pending,
    each_pending, implies_true]

theorem cutBanks_pending (s : State) (banks : List Nat) (fail : Nat) : (s.cutBanks banks fail).pending = s.pending := by
  simp -implicitDefEqProofs only [State.cutBanks, settleBank_pending, each_pending, implies_true]

theorem channelOff_pending (s : State) (v : Nat) : (s.channelOff v).pending = s.pending := by
  simp -implicitDefEqProofs only [State.channelOff, setVst_pending, settle_pending, apply_ite pending, ite_self]

theorem channelOn_pending (s : State) (v : Nat) : (s.channelOn v).pending = s.pending := by
  simp -implicitDefEqProofs only [State.channelOn, setVst_pending, stageStart_pending, apply_ite pending, ite_self]

theorem bankDisable_pending (s : State) (b : Nat) : (s.bankDisable b).pending = s.pending := by
  simp -implicitDefEqProofs only [State.bankDisable, putB_pending, settleBank_pending, channelOff_pending, ev_pending,
    each_pending, implies_true]

theorem bankEnable_pending (s : State) (b : Nat) : (s.bankEnable b).pending = s.pending := by
  simp -implicitDefEqProofs only [State.bankEnable, putB_pending, setVst_pending, channelOn_pending, bankShow_pending,
    ev_pending, each_pending, apply_ite pending, ite_self, implies_true]

theorem channelDisable_pending (s : State) (v : Nat) : (s.channelDisable v).pending = s.pending := by
  simp -implicitDefEqProofs only [State.channelDisable, setChan_pending, channelOff_pending, serve_pending, ev_pending]

theorem channelEnable_pending (s : State) (v : Nat) : (s.channelEnable v).pending = s.pending := by
  simp -implicitDefEqProofs only [State.channelEnable, setChan_pending, channelOn_pending, ev_pending,
    apply_ite pending, ite_self]

theorem valveFence_pending (s : State) (v : Nat) : (s.valveFence v).pending = s.pending := by
  simp -implicitDefEqProofs only [State.valveFence, unqueue_pending, cancelPrearm_pending, release_pending,
    vfault_pending, vev_pending, serve_pending, apply_ite pending, ite_self]

theorem stageAverages_pending (s : State) (c60 c1 : List ChopRun) (h60 h1 : List HsRun) (b : Nat) :
    (s.stageAverages c60 c1 h60 h1 b).pending = s.pending := by
  simp -implicitDefEqProofs only [State.stageAverages, took_pending, put_pending]

theorem stageBudget_pending (s : State) (die : Nat) (c60 c1 : List ChopRun) (h60 h1 : List HsRun) :
    (s.stageBudget die c60 c1 h60 h1).pending = s.pending := by
  simp -implicitDefEqProofs only [State.stageBudget, stageAverages_pending, ev_pending, each_pending,
    apply_ite pending, ite_self, implies_true]

/-! #### Fans -/

theorem setFan_pending (s : State) (f : Nat) (x : Fan) : (s.setFan f x).pending = s.pending := by
  simp -implicitDefEqProofs only [State.setFan]

theorem setFst_pending (s : State) (f n : Nat) : (s.setFst f n).pending = s.pending := by
  simp -implicitDefEqProofs only [State.setFst, put_pending]

theorem fev_pending (s : State) (f code : Nat) (p1 : Nat) (p2 : Nat) : (s.fev f code p1 p2).pending = s.pending := by
  simp -implicitDefEqProofs only [State.fev, ev_pending]

theorem fanForceShow_pending (s : State) (f : Nat) : (s.fanForceShow f).pending = s.pending := by
  simp -implicitDefEqProofs only [State.fanForceShow, put_pending]

theorem fanNoWindow_pending (s : State) (f : Nat) : (s.fanNoWindow f).pending = s.pending := by
  simp -implicitDefEqProofs only [State.fanNoWindow, setFan_pending]

theorem fanStop_pending (s : State) (f : Nat) : (s.fanStop f).pending = s.pending := by
  simp -implicitDefEqProofs only [State.fanStop, fanNoWindow_pending, setFst_pending, put_pending]

theorem fanSupplied_pending (s : State) (f : Nat) : (s.fanSupplied f).pending = s.pending := by
  simp -implicitDefEqProofs only [State.fanSupplied, setFst_pending, put_pending, apply_ite pending, ite_self]

theorem fanPeriodOn_pending (s : State) (f : Nat) : (s.fanPeriodOn f).pending = s.pending := by
  simp -implicitDefEqProofs only [State.fanPeriodOn, fanForceShow_pending, put_pending, fanStop_pending,
    setFst_pending, apply_ite pending, ite_self]

theorem fanPeriod_pending (s : State) (f : Nat) : (s.fanPeriod f).pending = s.pending := by
  simp -implicitDefEqProofs only [State.fanPeriod, fanSupplied_pending, fanPeriodOn_pending, apply_ite pending,
    ite_self]

theorem fansCut_pending (s : State) : s.fansCut.pending = s.pending := by
  simp -implicitDefEqProofs only [State.fansCut, fanPeriod_pending, each_pending, implies_true]

theorem fanStarted_pending (s : State) (f : Nat) : (s.fanStarted f).pending = s.pending := by
  simp -implicitDefEqProofs only [State.fanStarted, setFst_pending, apply_ite pending, ite_self]

theorem fanWindow_pending (s : State) (f : Nat) : (s.fanWindow f).pending = s.pending := by
  simp -implicitDefEqProofs only [State.fanWindow, setFan_pending, apply_ite pending, ite_self]

theorem tachEdge_pending (s : State) (f dur t : Nat) : (s.tachEdge f dur t).pending = s.pending := by
  simp -implicitDefEqProofs only [State.tachEdge, setFan_pending, apply_ite pending, ite_self]

theorem fanOffRun_pending (s : State) (f st : Nat) : (s.fanOffRun f st).pending = s.pending := by
  simp -implicitDefEqProofs only [State.fanOffRun, fanNoWindow_pending, setFst_pending, fanForceShow_pending,
    put_pending]

theorem fanRunBegin_pending (s : State) (f kind : Nat) : (s.fanRunBegin f kind).pending = s.pending := by
  simp -implicitDefEqProofs only [State.fanRunBegin, setFan_pending]

theorem fanLoopReset_pending (s : State) (f : Nat) : (s.fanLoopReset f).pending = s.pending := by
  simp -implicitDefEqProofs only [State.fanLoopReset, setFan_pending]

theorem fanTablesLoad_pending (s : State) (f : Nat) : (s.fanTablesLoad f).pending = s.pending := by
  simp -implicitDefEqProofs only [State.fanTablesLoad, fanLoopReset_pending, setFan_pending, apply_ite pending,
    ite_self]

theorem fanRunEnd_pending (s : State) (f : Nat) : (s.fanRunEnd f).pending = s.pending := by
  simp -implicitDefEqProofs only [State.fanRunEnd, store_pending, setFan_pending, fanLoopReset_pending, foldl_pending,
    apply_ite pending, ite_self, implies_true]

theorem fanMean_pending (s : State) (samples : List Nat) : (s.fanMean samples).2.pending = s.pending := by
  simp -implicitDefEqProofs only [State.fanMean, took_pending]

theorem fanShow_pending (s : State) (f ppr : Nat) (edges : List Nat) (ima : Nat) :
    (s.fanShow f ppr edges ima).pending = s.pending := by
  rw [State.fanShow]
  split <;> simp -implicitDefEqProofs only [put_pending, took_pending, setFan_pending]

theorem fanJudge_pending (s : State) (f : Nat) (v : Verdict) (ima dips : Nat) :
    (s.fanJudge f v ima dips).pending = s.pending := by
  unfold State.fanJudge
  dsimp only
  repeat' split
  all_goals simp -implicitDefEqProofs only [fev_pending, setFst_pending, putB_pending, inc_pending,
    fanRunBegin_pending, fanOffRun_pending]

theorem fanWindowEnd_pending (s : State) (f : Nat) (samples : List Nat) (us : Nat) :
    (s.fanWindowEnd f samples us).pending = s.pending := by
  simp -implicitDefEqProofs only [State.fanWindowEnd, fanMean_pending, fanShow_pending, fanNoWindow_pending,
    fanJudge_pending, apply_ite pending, ite_self]

theorem fanRetry_pending (s : State) (f : Nat) : (s.fanRetry f).pending = s.pending := by
  simp -implicitDefEqProofs only [State.fanRetry, setFan_pending, inc_pending, setFst_pending, fanForceShow_pending,
    put_pending, apply_ite pending, ite_self]

theorem fanBurstEnd_pending (s : State) (f : Nat) (levels : List TachLevel) (samples : List Nat) (ms : Nat) :
    (s.fanBurstEnd f levels samples ms).pending = s.pending := by
  unfold State.fanBurstEnd
  dsimp only
  repeat' split
  all_goals simp -implicitDefEqProofs only [fanMean_pending, fanShow_pending, putB_pending, fanOffRun_pending,
    fanRunEnd_pending, setFst_pending, fanJudge_pending, fev_pending]

theorem fanShort_pending (s : State) (f : Nat) : (s.fanShort f).pending = s.pending := by
  simp -implicitDefEqProofs only [State.fanShort, putB_pending, fanRunBegin_pending, fev_pending, setFan_pending,
    fanOffRun_pending, apply_ite pending, ite_self]

theorem fansSupply_pending (s : State) (good : Bool) : (s.fansSupply good).pending = s.pending := by
  simp -implicitDefEqProofs only [State.fansSupply, fanSupplied_pending, fanNoWindow_pending, fanRunEnd_pending,
    setFst_pending, each_pending, apply_ite pending, ite_self, implies_true]

theorem fanFence_pending (s : State) (f : Nat) : (s.fanFence f).pending = s.pending := by
  simp -implicitDefEqProofs only [State.fanFence, fanNoWindow_pending, fanRunEnd_pending, fanPeriod_pending]

theorem fanStale_pending (s : State) (f : Nat) (stale : Bool) : (s.fanStale f stale).pending = s.pending := by
  simp -implicitDefEqProofs only [State.fanStale, putB_pending, fev_pending, apply_ite pending, ite_self]

theorem fanTick_pending (s : State) (f : Nat) : (s.fanTick f).pending = s.pending := by
  simp -implicitDefEqProofs only [State.fanTick, fanStale_pending, setFan_pending, tookN_pending, apply_ite pending,
    ite_self]

theorem fanInputStale_pending (s : State) (f : Nat) : (s.fanInputStale f).pending = s.pending := by
  simp -implicitDefEqProofs only [State.fanInputStale, setFan_pending, fanStale_pending, apply_ite pending, ite_self]

/-! #### Field inputs, analog outputs, pulse inputs -/

theorem setFin_pending (s : State) (i : Nat) (x : FieldIn) : (s.setFin i x).pending = s.pending := by
  simp -implicitDefEqProofs only [State.setFin]

theorem fev7_pending (s : State) (code i : Nat) (p1 : Nat) (p2 : Nat) : (s.fev7 code i p1 p2).pending = s.pending := by
  simp -implicitDefEqProofs only [State.fev7, ev_pending]

theorem fieldSettled_pending (s : State) (i : Nat) : (s.fieldSettled i).pending = s.pending := by
  simp -implicitDefEqProofs only [State.fieldSettled, setFin_pending, putB_pending]

theorem fieldSettle_pending (s : State) (i : Nat) : (s.fieldSettle i).pending = s.pending := by
  simp -implicitDefEqProofs only [State.fieldSettle, fieldSettled_pending, setFin_pending, putB_pending,
    apply_ite pending, ite_self]

theorem fieldPublish_pending (s : State) (i : Nat) (valid : Bool) (sigma : F32) (t : Nat) :
    (s.fieldPublish i valid sigma t).pending = s.pending := by
  simp -implicitDefEqProofs only [State.fieldPublish, publish_pending, each_pending, implies_true]

theorem fieldForward_pending (s : State) (i : Nat) (sigma : F32) (t : Nat) :
    (s.fieldForward i sigma t).pending = s.pending := by
  simp -implicitDefEqProofs only [State.fieldForward, forward_pending]

theorem fieldChange_pending (s : State) (i : Nat) : (s.fieldChange i).pending = s.pending := by
  simp -implicitDefEqProofs only [State.fieldChange, fieldPublish_pending, fieldSettle_pending, setReg_pending,
    apply_ite pending, ite_self]

theorem fieldBroken_pending (s : State) (i : Nat) : (s.fieldBroken i).pending = s.pending := by
  simp -implicitDefEqProofs only [State.fieldBroken, putB_pending, setReg_pending, fev7_pending]

theorem fieldTempSource_pending (s : State) (i t : Nat) : (s.fieldTempSource i t).pending = s.pending := by
  simp -implicitDefEqProofs only [State.fieldTempSource, putB_pending, fev7_pending, apply_ite pending, ite_self]

theorem fieldSample_pending (s : State) (i : Nat) (raw : Int) (y : List F32) (t : Nat) :
    (s.fieldSample i raw y t).pending = s.pending := by
  simp -implicitDefEqProofs only [State.fieldSample, fieldTempSource_pending, inc_pending, setReg_pending,
    setFin_pending, putB_pending, fieldBroken_pending, fev7_pending, fieldPublish_pending, fieldForward_pending,
    apply_ite pending, ite_self]

theorem shuntOverload_pending (s : State) (i : Nat) : (s.shuntOverload i).pending = s.pending := by
  simp -implicitDefEqProofs only [State.shuntOverload, setFin_pending, putB_pending, fev7_pending, apply_ite pending,
    ite_self]

theorem shuntReclose_pending (s : State) (i : Nat) : (s.shuntReclose i).pending = s.pending := by
  simp -implicitDefEqProofs only [State.shuntReclose, setFin_pending, fieldSettle_pending, apply_ite pending, ite_self]

theorem fieldTested_pending (s : State) (i : Nat) (lasting : Bool) : (s.fieldTested i lasting).pending = s.pending := by
  simp -implicitDefEqProofs only [State.fieldTested, putB_pending, fieldSettled_pending, setReg_pending, fev7_pending,
    fieldPublish_pending, fieldSettle_pending, apply_ite pending, ite_self]

theorem aoPut_pending (s : State) (n src slot code : Nat) : (s.aoPut n src slot code).pending = s.pending := by
  simp -implicitDefEqProofs only [State.aoPut, put_pending]

theorem aoIdle_pending (s : State) (n : Nat) : (s.aoIdle n).pending = s.pending := by
  rw [aoIdle]
  split
  · rfl
  · exact aoPut_pending ..

theorem aoStart_pending (s : State) : s.aoStart.pending = s.pending := by
  simp -implicitDefEqProofs only [State.aoStart, aoIdle_pending, each_pending, apply_ite pending, ite_self,
    implies_true]

theorem aoSafe_pending (s : State) : s.aoSafe.pending = s.pending := by
  simp -implicitDefEqProofs only [State.aoSafe, aoPut_pending, putB_pending, each_pending, implies_true]

theorem aoSlot_pending (s : State) (n slot : Nat) (u : F32) : (s.aoSlot n slot u).pending = s.pending := by
  unfold State.aoSlot
  repeat' split
  all_goals simp -implicitDefEqProofs only [aoPut_pending]

theorem aoMonitor_pending (s : State) (n : Nat) (v : F32) : (s.aoMonitor n v).pending = s.pending := by
  simp -implicitDefEqProofs only [State.aoMonitor, setReg_pending]

theorem aoFaultEnter_pending (s : State) (n : Nat) : (s.aoFaultEnter n).pending = s.pending := by
  simp -implicitDefEqProofs only [State.aoFaultEnter, incSat_pending, putB_pending, ev_pending, apply_ite pending,
    ite_self]

theorem aoFaultOff_pending (s : State) (n : Nat) : (s.aoFaultOff n).pending = s.pending := by
  simp -implicitDefEqProofs only [State.aoFaultOff, putB_pending, ev_pending, apply_ite pending, ite_self]

theorem aoFaultClear_pending (s : State) (n : Nat) : (s.aoFaultClear n).pending = s.pending := by
  simp -implicitDefEqProofs only [State.aoFaultClear, aoFaultOff_pending, apply_ite pending, ite_self]

theorem aoFence_pending (s : State) (n : Nat) : (s.aoFence n).pending = s.pending := by
  simp -implicitDefEqProofs only [State.aoFence, aoFaultOff_pending, setReg_pending]

theorem setPin_pending (s : State) (n : Nat) (x : Pulse) : (s.setPin n x).pending = s.pending := by
  simp -implicitDefEqProofs only [State.setPin]

theorem pulseStart_pending (s : State) (n : Nat) : (s.pulseStart n).pending = s.pending := by
  simp -implicitDefEqProofs only [State.pulseStart, setPin_pending, setReg_pending, putB_pending]

theorem pulseEdge_pending (s : State) (n : Nat) (high : Bool) (dur at_ : Nat) :
    (s.pulseEdge n high dur at_).pending = s.pending := by
  simp -implicitDefEqProofs only [State.pulseEdge, setPin_pending, inc_pending, setReg_pending, putB_pending,
    apply_ite pending, ite_self]

theorem pulseUpdate_pending (s : State) (T n : Nat) : (s.pulseUpdate T n).pending = s.pending := by
  unfold State.pulseUpdate
  dsimp only
  repeat' split
  all_goals simp -implicitDefEqProofs only [setPin_pending, setReg_pending, putB_pending]

theorem pulseTimeout_pending (s : State) (n : Nat) : (s.pulseTimeout n).pending = s.pending := by
  simp -implicitDefEqProofs only [State.pulseTimeout, setReg_pending, putB_pending, apply_ite pending, ite_self]

theorem pulseMinute_pending (s : State) (n : Nat) : (s.pulseMinute n).pending = s.pending := by
  simp -implicitDefEqProofs only [State.pulseMinute, setPin_pending, ev_pending, apply_ite pending, ite_self]

/-! #### Time unit -/

theorem timeMark_pending (s : State) : s.timeMark.pending = s.pending := by
  simp -implicitDefEqProofs only [State.timeMark, ev_pending, apply_ite pending, ite_self]

theorem timeEnter_pending (s : State) (n : Nat) : (s.timeEnter n).pending = s.pending := by
  simp -implicitDefEqProofs only [State.timeEnter, put_pending, timeMark_pending, apply_ite pending, ite_self]

theorem setTrim_pending (s : State) (v : Int) : (s.setTrim v).pending = s.pending := by
  simp -implicitDefEqProofs only [State.setTrim, put_pending]

theorem slewBy_pending (s : State) (ns : Int) : (s.slewBy ns).pending = s.pending := by
  simp -implicitDefEqProofs only [State.slewBy, putB_pending, setTrim_pending]

theorem servoHold_pending (s : State) : s.servoHold.pending = s.pending := by
  simp -implicitDefEqProofs only [State.servoHold, slewBy_pending, took_pending]

theorem stepDecide_pending (s : State) (off : Int) : (s.stepDecide off).pending = s.pending := by
  simp -implicitDefEqProofs only [State.stepDecide, slewBy_pending]

theorem offsetFound_pending (s : State) (off : Int) : (s.offsetFound off).pending = s.pending := by
  simp -implicitDefEqProofs only [State.offsetFound, stepDecide_pending, slewBy_pending, apply_ite pending, ite_self]

theorem servoTrim_pending (s : State) : s.servoTrim.pending = s.pending := by
  simp -implicitDefEqProofs only [State.servoTrim, setTrim_pending, took_pending]

theorem gnssStamp_pending (s : State) (off : Int) : (s.gnssStamp off).pending = s.pending := by
  simp -implicitDefEqProofs only [State.gnssStamp, put_pending]

theorem gnssSecond_pending (s : State) (off : Int) : (s.gnssSecond off).pending = s.pending := by
  simp -implicitDefEqProofs only [State.gnssSecond, gnssStamp_pending, timeEnter_pending, offsetFound_pending,
    servoTrim_pending, apply_ite pending, ite_self]

theorem ppsEdge_pending (s : State) (falling : Bool) (t : Nat) : (s.ppsEdge falling t).pending = s.pending := by
  simp -implicitDefEqProofs only [State.ppsEdge, putB_pending, apply_ite pending, ite_self]

theorem leapApply_pending (s : State) (d : Int) : (s.leapApply d).pending = s.pending := by
  simp -implicitDefEqProofs only [State.leapApply, put_pending, putB_pending, ev_pending]

theorem nmeaBad_pending (s : State) : s.nmeaBad.pending = s.pending := by
  simp -implicitDefEqProofs only [State.nmeaBad, putB_pending]

theorem nmeaSentence_pending (s : State) (text : List Byte) (t : Nat) :
    (s.nmeaSentence text t).pending = s.pending := by
  unfold State.nmeaSentence
  dsimp only
  repeat' split
  all_goals simp -implicitDefEqProofs only [nmeaBad_pending, leapApply_pending, putB_pending, gnssSecond_pending]

theorem gnssLost_pending (s : State) : s.gnssLost.pending = s.pending := by
  simp -implicitDefEqProofs only [State.gnssLost, putB_pending, servoHold_pending, timeEnter_pending,
    apply_ite pending, ite_self]

theorem holdoverExpire_pending (s : State) : s.holdoverExpire.pending = s.pending := by
  simp -implicitDefEqProofs only [State.holdoverExpire, timeEnter_pending, apply_ite pending, ite_self]

theorem gnssMinute_pending (s : State) : s.gnssMinute.pending = s.pending := by
  simp -implicitDefEqProofs only [State.gnssMinute, ev_pending, apply_ite pending, ite_self]

theorem gnssReset_pending (s : State) : s.gnssReset.pending = s.pending := by
  simp -implicitDefEqProofs only [State.gnssReset, ev_pending, send_pending, apply_ite pending, ite_self]

theorem gnssRelease_pending (s : State) : s.gnssRelease.pending = s.pending := by
  simp -implicitDefEqProofs only [State.gnssRelease, send_pending, apply_ite pending, ite_self]

theorem gnssSetup_pending (s : State) : s.gnssSetup.pending = s.pending := by
  simp -implicitDefEqProofs only [State.gnssSetup, send_pending, apply_ite pending, ite_self]

theorem sprinGrid_pending (s : State) (p : Nat) : (s.sprinGrid p).pending = s.pending := by
  simp -implicitDefEqProofs only [State.sprinGrid]

theorem timeStep_pending (s : State) : s.timeStep.pending = s.pending := by
  rw [State.timeStep]
  split <;> simp -implicitDefEqProofs only [sprinGrid_pending, putB_pending, ev_pending, each_pending,
    apply_ite pending, ite_self, implies_true]

theorem slewDone_pending (s : State) : s.slewDone.pending = s.pending := by
  simp -implicitDefEqProofs only [State.slewDone, slewBy_pending, apply_ite pending, ite_self]

theorem timeSet_pending (s : State) (target now : Nat) : (s.timeSet target now).pending = s.pending := by
  simp -implicitDefEqProofs only [State.timeSet, put_pending, stepDecide_pending]

theorem timeBroadcast_pending (s : State) : s.timeBroadcast.pending = s.pending := by
  simp -implicitDefEqProofs only [State.timeBroadcast]

theorem ppsFall_pending (s : State) : s.ppsFall.pending = s.pending := by
  simp -implicitDefEqProofs only [State.ppsFall, send_pending, apply_ite pending, ite_self]

theorem timeTick_pending (s : State) : s.timeTick.pending = s.pending := by
  simp -implicitDefEqProofs only [State.timeTick, ppsFall_pending]

theorem ppsOut_pending (s : State) : s.ppsOut.pending = s.pending := by
  simp -implicitDefEqProofs only [State.ppsOut, send_pending, apply_ite pending, ite_self]

theorem setPtp_pending (s : State) (n : Nat) (p : PtpPort) : (s.setPtp n p).pending = s.pending := by
  simp -implicitDefEqProofs only [State.setPtp]

theorem ptpAnnounce_pending (s : State) (n : Nat) : (s.ptpAnnounce n).pending = s.pending := by
  simp -implicitDefEqProofs only [State.ptpAnnounce, setPtp_pending, put_pending, send_pending, apply_ite pending,
    ite_self]

theorem ptpSync_pending (s : State) (n : Nat) : (s.ptpSync n).pending = s.pending := by
  simp -implicitDefEqProofs only [State.ptpSync, setPtp_pending, send_pending, apply_ite pending, ite_self]

theorem ptpDelayReq_pending (s : State) (n seq t : Nat) : (s.ptpDelayReq n seq t).pending = s.pending := by
  simp -implicitDefEqProofs only [State.ptpDelayReq, inc_pending, send_pending, apply_ite pending, ite_self]

theorem ptpForeign_pending (s : State) (n domain : Nat) (ds : List Nat) :
    (s.ptpForeign n domain ds).pending = s.pending := by
  simp -implicitDefEqProofs only [State.ptpForeign, put_pending, ev_pending, apply_ite pending, ite_self]

theorem ptpSet_pending (s : State) (n : Nat) : (s.ptpSet n).pending = s.pending := by
  simp -implicitDefEqProofs only [State.ptpSet, put_pending]

theorem ptpTimeout_pending (s : State) (n : Nat) : (s.ptpTimeout n).pending = s.pending := by
  simp -implicitDefEqProofs only [State.ptpTimeout, put_pending, apply_ite pending, ite_self]

/-! #### Sprinline -/

theorem setPort_pending (s : State) (p : Nat) (x : SprinPort) : (s.setPort p x).pending = s.pending := by
  simp -implicitDefEqProofs only [State.setPort]

theorem setPst_pending (s : State) (p n : Nat) : (s.setPst p n).pending = s.pending := by
  simp -implicitDefEqProofs only [State.setPst, put_pending]

theorem pev_pending (s : State) (p code : Nat) (p1 : Nat) (p2 : Nat) : (s.pev p code p1 p2).pending = s.pending := by
  simp -implicitDefEqProofs only [State.pev, ev_pending]

theorem setNode_pending (s : State) (p a : Nat) (n : SprinNode) : (s.setNode p a n).pending = s.pending := by
  simp -implicitDefEqProofs only [State.setNode, setPort_pending, put_pending]

theorem busSend_pending (s : State) (p type addr : Nat) (payload : List Byte) (gap : Nat) :
    (s.busSend p type addr payload gap).pending = s.pending := by
  simp -implicitDefEqProofs only [State.busSend, setPort_pending, send_pending]

theorem busAsk_pending (s : State) (p type addr : Nat) (payload : List Byte) (w : BusWait) :
    (s.busAsk p type addr payload w).pending = s.pending := by
  simp -implicitDefEqProofs only [State.busAsk, busSend_pending, setPort_pending]

theorem busTake_pending (s : State) (p rtt halves : Nat) : (s.busTake p rtt halves).pending = s.pending := by
  simp -implicitDefEqProofs only [State.busTake, setPort_pending]

theorem lineError_pending (s : State) (p reason : Nat) : (s.lineError p reason).pending = s.pending := by
  simp -implicitDefEqProofs only [State.lineError, inc_pending, setPort_pending, apply_ite pending, ite_self]

theorem hostDone_pending (s : State) (p st reason result : Nat) :
    (s.hostDone p st reason result).pending = s.pending := by
  simp -implicitDefEqProofs only [State.hostDone, putB_pending, put_pending, apply_ite pending, ite_self]

theorem hostGo_pending (s : State) (p : Nat) : (s.hostGo p).pending = s.pending := by
  simp -implicitDefEqProofs only [State.hostGo, putB_pending, hostDone_pending, apply_ite pending, ite_self]

theorem searchStart_pending (s : State) (p : Nat) : (s.searchStart p).pending = s.pending := by
  simp -implicitDefEqProofs only [State.searchStart, setPort_pending]

theorem searchEnd_pending (s : State) (p : Nat) : (s.searchEnd p).pending = s.pending := by
  rw [State.searchEnd]
  split <;> simp -implicitDefEqProofs only [setPort_pending, setPst_pending, pev_pending, apply_ite pending, ite_self]

theorem searchDo_pending (s : State) (p : Nat) (d : SearchStep) : (s.searchDo p d).pending = s.pending := by
  rw [State.searchDo]
  split <;> simp -implicitDefEqProofs only [setPort_pending]

theorem assignFailed_pending (s : State) (p : Nat) : (s.assignFailed p).pending = s.pending := by
  rw [State.assignFailed]
  split <;> simp -implicitDefEqProofs only [setPort_pending, pev_pending, searchEnd_pending, apply_ite pending,
    ite_self]

theorem nodeAssigned_pending (s : State) (p uid addr : Nat) : (s.nodeAssigned p uid addr).pending = s.pending := by
  simp -implicitDefEqProofs only [State.nodeAssigned, setNode_pending, pev_pending, searchDo_pending,
    apply_ite pending, ite_self]

theorem measured_pending (s : State) (p addr : Nat) (got : List (Option Int)) (set : Nat) (d : Option Int) :
    (s.measured p addr got set d).pending = s.pending := by
  unfold State.measured
  dsimp only
  repeat' split
  all_goals simp -implicitDefEqProofs only [searchDo_pending, took_pending, setNode_pending, pev_pending]

theorem nodeSettled_pending (s : State) (p addr : Nat) : (s.nodeSettled p addr).pending = s.pending := by
  simp -implicitDefEqProofs only [State.nodeSettled, searchDo_pending, putB_pending, pev_pending, apply_ite pending,
    ite_self]

theorem searchSend_pending (s : State) (p : Nat) : (s.searchSend p).1.pending = s.pending := by
  unfold State.searchSend
  dsimp only
  repeat' split
  all_goals simp -implicitDefEqProofs only [busSend_pending, searchDo_pending, busAsk_pending, pev_pending,
    searchEnd_pending]

theorem pollsEnd_pending (s : State) (p : Nat) (l : List Nat) (st reason : Nat) :
    (s.pollsEnd p l st reason).pending = s.pending := by
  simp -implicitDefEqProofs only [State.pollsEnd, setPort_pending]

theorem pollsDefer_pending (s : State) (p : Nat) (l : List Nat) : (s.pollsDefer p l).pending = s.pending := by
  simp -implicitDefEqProofs only [State.pollsDefer, setPort_pending, pollsEnd_pending, put_pending, putB_pending,
    apply_ite pending, ite_self]

theorem cycleEnd_pending (s : State) (p : Nat) : (s.cycleEnd p).pending = s.pending := by
  rw [cycleEnd]
  split <;> rfl

theorem busCalls_pending (s : State) (p : Nat) : (s.busCalls p).pending = s.pending := by
  simp -implicitDefEqProofs only [State.busCalls, setPort_pending, busAsk_pending, cycleEnd_pending, apply_ite pending,
    ite_self]

theorem busPolls_pending (s : State) (p : Nat) : (s.busPolls p).pending = s.pending := by
  rw [State.busPolls]
  split <;> simp -implicitDefEqProofs only [busCalls_pending, setPort_pending, busAsk_pending, pollsDefer_pending,
    apply_ite pending, ite_self]

theorem busSearch_pending (s : State) (p : Nat) : (s.busSearch p).pending = s.pending := by
  simp -implicitDefEqProofs only [State.busSearch, busPolls_pending, searchSend_pending, setPort_pending,
    busAsk_pending, apply_ite pending, ite_self]

theorem busHost_pending (s : State) (p : Nat) : (s.busHost p).pending = s.pending := by
  simp -implicitDefEqProofs only [State.busHost, busSearch_pending, setPort_pending, hostDone_pending, busAsk_pending,
    apply_ite pending, ite_self]

theorem busNext_pending (s : State) (p : Nat) : (s.busNext p).pending = s.pending := by
  rw [busNext]
  dsimp only
  split
  · exact setPort_pending ..
  · split
    · split <;> simp -implicitDefEqProofs only [busAsk_pending, busHost_pending, setPort_pending]
    · simp -implicitDefEqProofs only [busHost_pending, setPort_pending]

theorem nodePublish_pending (s : State) (p a : Nat) (valid : Nat → Bool) (raw : Nat → Nat) (stamp : Nat) :
    (s.nodePublish p a valid raw stamp).pending = s.pending := by
  simp -implicitDefEqProofs only [State.nodePublish, publish_pending, each_pending, implies_true]

theorem nodeWithdraw_pending (s : State) (p a : Nat) : (s.nodeWithdraw p a).pending = s.pending := by
  simp -implicitDefEqProofs only [State.nodeWithdraw, nodePublish_pending]

theorem nodeForward_pending (s : State) (p a : Nat) (valid : Nat → Bool) (raw : Nat → Nat) (stamp : Nat) :
    (s.nodeForward p a valid raw stamp).pending = s.pending := by
  simp -implicitDefEqProofs only [State.nodeForward, nodePublish_pending, forward_pending, each_pending,
    apply_ite pending, ite_self, implies_true]

theorem sprinFollow_pending (s : State) (p : Nat) : (s.sprinFollow p).pending = s.pending := by
  simp -implicitDefEqProofs only [State.sprinFollow, setPort_pending, pollsEnd_pending, nodeWithdraw_pending,
    each_pending, implies_true]

theorem testSend_pending (s : State) (p : Nat) : (s.testSend p).pending = s.pending := by
  simp -implicitDefEqProofs only [State.testSend, busSend_pending, tookN_pending]

theorem cycleOpen_pending (s : State) (p : Nat) : (s.cycleOpen p).pending = s.pending := by
  rw [cycleOpen, setPort_pending, sprinFollow_pending, cycleEnd_pending, pollsDefer_pending]

theorem cycleStart_pending (s : State) (p ma : Nat) : (s.cycleStart p ma).pending = s.pending := by
  simp -implicitDefEqProofs only [State.cycleStart, cycleOpen_pending, put_pending, busSend_pending, busNext_pending,
    apply_ite pending, ite_self]

theorem pollDead_pending (s : State) (p reason a : Nat) : (s.pollDead p reason a).pending = s.pending := by
  simp -implicitDefEqProofs only [State.pollDead, pollsEnd_pending, setNode_pending, nodeWithdraw_pending, pev_pending,
    apply_ite pending, ite_self]

theorem pollFailed_pending (s : State) (p a : Nat) (retry req : Bool) (reason : Nat) :
    (s.pollFailed p a retry req reason).pending = s.pending := by
  simp -implicitDefEqProofs only [State.pollFailed, lineError_pending, busAsk_pending, pollDead_pending,
    busNext_pending, apply_ite pending, ite_self]

theorem nodeStatus_pending (s : State) (p a st : Nat) (good : Bool) :
    (s.nodeStatus p a st good).pending = s.pending := by
  simp -implicitDefEqProofs only [State.nodeStatus, setNode_pending]

theorem pollReply_pending (s : State) (p a : Nat) (retry req : Bool) (pay : List Byte) (r : Nat) :
    (s.pollReply p a retry req pay r).pending = s.pending := by
  unfold State.pollReply
  dsimp only
  repeat' split
  all_goals simp -implicitDefEqProofs only [nodeStatus_pending, pollFailed_pending, setNode_pending, pollsEnd_pending,
    nodeForward_pending, pev_pending, busNext_pending]

theorem hostReply_pending (s : State) (p : Nat) (pay : List Byte) : (s.hostReply p pay).pending = s.pending := by
  simp -implicitDefEqProofs only [State.hostReply, hostDone_pending, setReg_pending, busNext_pending,
    apply_ite pending, ite_self]

theorem busFailed_pending (s : State) (p reason : Nat) : (s.busFailed p reason).pending = s.pending := by
  rw [busFailed]
  split <;> simp -implicitDefEqProofs only [busNext_pending, hostDone_pending, lineError_pending, pollFailed_pending,
    inc_pending, assignFailed_pending, measured_pending, searchDo_pending, nodeSettled_pending, apply_ite pending,
      ite_self]

theorem sprinReply_pending (s : State) (p rtt : Nat) (line : List Bool) :
    (s.sprinReply p rtt line).pending = s.pending := by
  unfold State.sprinReply
  dsimp only
  repeat' split
  all_goals simp -implicitDefEqProofs only [inc_pending, busTake_pending, busFailed_pending, pollReply_pending,
    nodeStatus_pending, hostReply_pending, busNext_pending, nodeAssigned_pending, assignFailed_pending,
    measured_pending, searchDo_pending, nodeSettled_pending]

theorem sprinTimeout_pending (s : State) (p : Nat) : (s.sprinTimeout p).pending = s.pending := by
  simp -implicitDefEqProofs only [State.sprinTimeout, busFailed_pending]

theorem alarmTaken_pending (s : State) (p a : Nat) (pay : List Byte) : (s.alarmTaken p a pay).pending = s.pending := by
  simp -implicitDefEqProofs only [State.alarmTaken, setPort_pending, busSend_pending, setNode_pending, inc_pending,
    putB_pending, pev_pending, apply_ite pending, ite_self]

theorem sprinAlarm_pending (s : State) (p rtt : Nat) (line : List Bool) :
    (s.sprinAlarm p rtt line).pending = s.pending := by
  unfold State.sprinAlarm
  dsimp only
  repeat' split
  all_goals simp -implicitDefEqProofs only [inc_pending, busTake_pending, alarmTaken_pending, busNext_pending,
    busAsk_pending, setPort_pending, pollFailed_pending]

theorem enumPresence_pending (s : State) (p : Nat) (hit : Bool) : (s.enumPresence p hit).pending = s.pending := by
  rw [State.enumPresence]
  split <;> simp -implicitDefEqProofs only [setPort_pending, searchStart_pending, busNext_pending, searchDo_pending,
    searchEnd_pending, apply_ite pending, ite_self]

theorem busStop_pending (s : State) (p st reason : Nat) : (s.busStop p st reason).pending = s.pending := by
  rw [busStop]
  dsimp only
  rw [hostDone_pending, setPort_pending]
  split
  · rw [each_pending (fun t a => pollDead_pending ..), cycleEnd_pending]
  · rw [pollsEnd_pending, cycleEnd_pending]

theorem supplyOff_pending (s : State) (p st reason : Nat) : (s.supplyOff p st reason).pending = s.pending := by
  simp -implicitDefEqProofs only [State.supplyOff, busStop_pending, setPort_pending, put_pending]

theorem portPower_pending (s : State) (p : Nat) : (s.portPower p).pending = s.pending := by
  simp -implicitDefEqProofs only [State.portPower, setPst_pending]

theorem portEnable_pending (s : State) (p : Nat) : (s.portEnable p).pending = s.pending := by
  simp -implicitDefEqProofs only [State.portEnable, portPower_pending, supplyOff_pending, setPst_pending,
    apply_ite pending, ite_self]

theorem portsVcab_pending (s : State) (good : Bool) : (s.portsVcab good).pending = s.pending := by
  simp -implicitDefEqProofs only [State.portsVcab, portPower_pending, supplyOff_pending, setPst_pending, each_pending,
    apply_ite pending, ite_self, implies_true]

theorem portTrip_pending (s : State) (p ma : Nat) : (s.portTrip p ma).pending = s.pending := by
  simp -implicitDefEqProofs only [State.portTrip, supplyOff_pending, setPst_pending, incSat_pending, putB_pending,
    pev_pending, apply_ite pending, ite_self]

theorem portRetry_pending (s : State) (p : Nat) : (s.portRetry p).pending = s.pending := by
  simp -implicitDefEqProofs only [State.portRetry, portPower_pending, apply_ite pending, ite_self]

theorem portBooted_pending (s : State) (p : Nat) : (s.portBooted p).pending = s.pending := by
  rw [portBooted]
  split
  · rw [searchStart_pending, setPst_pending]
  · rfl

theorem portStuck_pending (s : State) (p : Nat) : (s.portStuck p).pending = s.pending := by
  unfold State.portStuck
  dsimp only
  repeat' split
  all_goals simp -implicitDefEqProofs only [supplyOff_pending, setPst_pending, pev_pending, setPort_pending]

theorem portStuckEnd_pending (s : State) (p : Nat) : (s.portStuckEnd p).pending = s.pending := by
  simp -implicitDefEqProofs only [State.portStuckEnd, portPower_pending, apply_ite pending, ite_self]

theorem portReenum_pending (s : State) (p : Nat) : (s.portReenum p).pending = s.pending := by
  rw [portReenum]
  split
  · dsimp only
    rw [searchStart_pending, setPst_pending, setPort_pending, apply_ite pending, cycleEnd_pending, ite_self,
      setPort_pending, pollsEnd_pending]
  · rfl

theorem portCycle_pending (s : State) (p : Nat) : (s.portCycle p).pending = s.pending := by
  simp -implicitDefEqProofs only [State.portCycle, supplyOff_pending, setPst_pending, setPort_pending,
    apply_ite pending, ite_self]

theorem portCycleEnd_pending (s : State) (p : Nat) : (s.portCycleEnd p).pending = s.pending := by
  simp -implicitDefEqProofs only [State.portCycleEnd, setPort_pending, portPower_pending, apply_ite pending, ite_self]

theorem portIdentify_pending (s : State) (p a : Nat) : (s.portIdentify p a).pending = s.pending := by
  simp -implicitDefEqProofs only [State.portIdentify, setPort_pending, apply_ite pending, ite_self]

theorem portTest_pending (s : State) (p : Nat) : (s.portTest p).pending = s.pending := by
  simp -implicitDefEqProofs only [State.portTest, busStop_pending, setPort_pending, setPst_pending, testSend_pending,
    apply_ite pending, ite_self]

theorem portFence_pending (s : State) (p : Nat) : (s.portFence p).pending = s.pending := by
  simp -implicitDefEqProofs only [State.portFence, supplyOff_pending, setPst_pending, pev_pending, setPort_pending]

theorem portPassed_pending (s : State) (p : Nat) : (s.portPassed p).pending = s.pending := by
  simp -implicitDefEqProofs only [State.portPassed, setPst_pending, apply_ite pending, ite_self]

theorem sprinMinute_pending (s : State) (p : Nat) : (s.sprinMinute p).pending = s.pending := by
  simp -implicitDefEqProofs only [State.sprinMinute, pev_pending, setPort_pending, apply_ite pending, ite_self]

theorem sprinRemap_pending (s : State) (p : Nat) : (s.sprinRemap p).pending = s.pending := by
  simp -implicitDefEqProofs only [State.sprinRemap, sprinGrid_pending, portPower_pending, apply_ite pending, ite_self]

/-! #### Millstone bodies -/

theorem setBst_pending (s : State) (k n : Nat) : (s.setBst k n).pending = s.pending := by
  simp -implicitDefEqProofs only [State.setBst, put_pending]

theorem setBody_pending (s : State) (k : Nat) (b : Body) : (s.setBody k b).pending = s.pending := by
  simp -implicitDefEqProofs only [State.setBody]

theorem mev_pending (s : State) (code k : Nat) (p1 : Nat) (p2 : Nat) (prov : Bool) :
    (s.mev code k p1 p2 prov).pending = s.pending := by
  simp -implicitDefEqProofs only [State.mev, ev_pending]

theorem readEntry_pending (s : State) (k n : Nat) : (s.readEntry k n).1.pending = s.pending := by
  unfold State.readEntry
  dsimp only
  repeat' split
  all_goals simp -implicitDefEqProofs only [setBody_pending, took_pending]

theorem readInputs_pending (s : State) (k : Nat) (acts : List (Nat × Word)) :
    (s.readInputs k acts).1.pending = s.pending := by
  simp -implicitDefEqProofs only [State.readInputs, readEntry_pending, foldl_fst_pending, implies_true]

theorem bodyPublish_pending (s : State) (k : Nat) : (s.bodyPublish k).pending = s.pending := by
  simp -implicitDefEqProofs only [State.bodyPublish, publish_pending, putB_pending, each_pending, implies_true]

theorem firmAdvance_pending (s : State) (k : Nat) : (s.firmAdvance k).pending = s.pending := by
  simp -implicitDefEqProofs only [State.firmAdvance, setBody_pending, put_pending, apply_ite pending, ite_self]

theorem ringPush_pending (s : State) (k : Nat) (d : Delta) : (s.ringPush k d).pending = s.pending := by
  simp -implicitDefEqProofs only [State.ringPush, setBody_pending, mev_pending, apply_ite pending, ite_self]

theorem solveWant_pending (s : State) (k cls : Nat) : (s.solveWant k cls).pending = s.pending := by
  rw [State.solveWant]
  split <;> simp -implicitDefEqProofs only [setBody_pending, apply_ite pending, ite_self]

theorem solveStart_pending (s : State) (k : Nat) : (s.solveStart k).pending = s.pending := by
  rw [State.solveStart]
  split <;> simp -implicitDefEqProofs only [readInputs_pending, setBody_pending]

theorem quadFree_pending (s : State) (w : Work) : (s.quadFree w).pending = s.pending := by
  simp -implicitDefEqProofs only [State.quadFree]

theorem solveDone_pending (s : State) (k passes cycles ppm : Nat) :
    (s.solveDone k passes cycles ppm).pending = s.pending := by
  unfold State.solveDone
  dsimp only
  repeat' split
  all_goals simp -implicitDefEqProofs only [quadFree_pending, setBody_pending, put_pending, putB_pending, mev_pending]

theorem solveDue_pending (s : State) (k : Nat) : (s.solveDue k).pending = s.pending := by
  simp -implicitDefEqProofs only [State.solveDue, solveWant_pending, setBody_pending, apply_ite pending, ite_self]

theorem resumeFrom_pending (s : State) (k : Nat) (tiles : List (Nat × Cell)) (age : Nat) (area : Option Nat) :
    (s.resumeFrom k tiles age area).pending = s.pending := by
  simp -implicitDefEqProofs only [State.resumeFrom, tookN_pending, setBody_pending, readInputs_pending, setBst_pending,
    bodyPublish_pending, putB_pending, mev_pending, solveWant_pending]

theorem snapContribute_pending (s : State) (k : Nat) : (s.snapContribute k).pending = s.pending := by
  simp -implicitDefEqProofs only [State.snapContribute, apply_ite pending, ite_self]

theorem stage_pending (s : State) (k : Nat) : (s.stage k).pending = s.pending := by
  simp -implicitDefEqProofs only [State.stage, setBody_pending, snapContribute_pending]

theorem bodyHeld_pending (s : State) (k : Nat) : (s.bodyHeld k).pending = s.pending := by
  simp -implicitDefEqProofs only [State.bodyHeld, setBody_pending, stage_pending, setBst_pending, mev_pending,
    apply_ite pending, ite_self]

theorem bodyPaused_pending (s : State) (k : Nat) : (s.bodyPaused k).pending = s.pending := by
  simp -implicitDefEqProofs only [State.bodyPaused, setBody_pending, stage_pending, setBst_pending, apply_ite pending,
    ite_self]

theorem bodyStop_pending (s : State) (k : Nat) : (s.bodyStop k).pending = s.pending := by
  simp -implicitDefEqProofs only [State.bodyStop, bodyHeld_pending, bodyPaused_pending, apply_ite pending, ite_self]

theorem stepStart_pending (s : State) (k : Nat) (x : ReStep) (again : Bool) :
    (s.stepStart k x again).pending = s.pending := by
  simp -implicitDefEqProofs only [State.stepStart, setBody_pending]

theorem readingAged_pending (s : State) (k : Nat) (r : Reading) : (s.readingAged k r).pending = s.pending := by
  simp -implicitDefEqProofs only [State.readingAged, setBody_pending, inc_pending]

theorem rollStart_pending (s : State) (k : Nat) : (s.rollStart k).pending = s.pending := by
  simp -implicitDefEqProofs only [State.rollStart, setBody_pending, readingAged_pending, putB_pending, inc_pending,
    each_pending, apply_ite pending, ite_self, implies_true]

theorem bodyIdle_pending (s : State) (k : Nat) : (s.bodyIdle k).pending = s.pending := by
  unfold State.bodyIdle
  dsimp only
  repeat' split
  all_goals simp -implicitDefEqProofs only [bodyStop_pending, setBody_pending, readInputs_pending, stepStart_pending]

theorem rollStep_pending (s : State) (k : Nat) (x : ReStep) (rest : List ReStep) :
    (s.rollStep k x rest).pending = s.pending := by
  simp -implicitDefEqProofs only [State.rollStep, setBody_pending, stepStart_pending]

theorem rollEnd_pending (s : State) (k : Nat) : (s.rollEnd k).pending = s.pending := by
  simp -implicitDefEqProofs only [State.rollEnd, setBody_pending, putB_pending, firmAdvance_pending,
    bodyPublish_pending]

theorem bodyGo_pending (n : Nat) (s : State) (k : Nat) : (bodyGo n s k).pending = s.pending := by
  induction n generalizing s with
  | zero => rfl
  | succ n ih =>
    rw [bodyGo]
    split
    · rfl
    · split
      · split <;> simp -implicitDefEqProofs only [ih, rollStep_pending, rollEnd_pending]
      · split <;> simp -implicitDefEqProofs only [ih, rollStart_pending, bodyIdle_pending]

theorem bodyNext_pending (s : State) (k : Nat) : (s.bodyNext k).pending = s.pending := by
  simp -implicitDefEqProofs only [State.bodyNext, bodyGo_pending]

theorem stepReady_pending (s : State) (k : Nat) : (s.stepReady k).pending = s.pending := by
  simp -implicitDefEqProofs only [State.stepReady, setBody_pending, bodyNext_pending, apply_ite pending, ite_self]

theorem stepDone_pending (s : State) (k : Nat) (r : StepRun) : (s.stepDone k r).pending = s.pending := by
  simp -implicitDefEqProofs only [State.stepDone, setBody_pending, tookN_pending, ringPush_pending, inc_pending,
    put_pending, putB_pending, firmAdvance_pending, bodyPublish_pending, snapContribute_pending, solveWant_pending,
    bodyNext_pending, apply_ite pending, ite_self]

theorem tileDone_pending (s : State) (k tile : Nat) (bad : List Nat) (q : Nat) :
    (s.tileDone k tile bad q).pending = s.pending := by
  unfold State.tileDone
  dsimp only
  repeat' split
  all_goals simp -implicitDefEqProofs only [quadFree_pending, setBody_pending, inc_pending, mev_pending,
    stepDone_pending]

theorem readingTake_pending (s : State) (a : Anchor) (r : Reading) : (s.readingTake a r).pending = s.pending := by
  simp -implicitDefEqProofs only [State.readingTake, firmAdvance_pending, setBody_pending, inc_pending,
    readingAged_pending, bodyNext_pending, apply_ite pending, ite_self]

theorem readingArrive_pending (s : State) (anchor : Nat) (value sigma : F32) (stamp : Nat) :
    (s.readingArrive anchor value sigma stamp).pending = s.pending := by
  rw [State.readingArrive]
  split <;> simp -implicitDefEqProofs only [inc_pending, readingTake_pending, apply_ite pending, ite_self]

theorem bodyHold_pending (s : State) (k : Nat) : (s.bodyHold k).pending = s.pending := by
  simp -implicitDefEqProofs only [State.bodyHold, setBody_pending, bodyHeld_pending, apply_ite pending, ite_self]

theorem stepThrough_pending (s : State) (k : Nat) : (s.stepThrough k).pending = s.pending := by
  simp -implicitDefEqProofs only [State.stepThrough, setBst_pending, setBody_pending]

theorem resumeStaged_pending (s : State) (k : Nat) : (s.resumeStaged k).pending = s.pending := by
  simp -implicitDefEqProofs only [State.resumeStaged, resumeFrom_pending]

theorem bodyResume_pending (s : State) (k : Nat) : (s.bodyResume k).pending = s.pending := by
  simp -implicitDefEqProofs only [State.bodyResume, setBody_pending, mev_pending, resumeStaged_pending,
    stepThrough_pending, bodyNext_pending, apply_ite pending, ite_self]

theorem coast_pending (s : State) (k : Nat) : (s.coast k).pending = s.pending := by
  simp -implicitDefEqProofs only [State.coast, publish_pending, each_pending, apply_ite pending, ite_self, implies_true]

theorem coldSeed_pending (s : State) (k : Nat) : (s.coldSeed k).pending = s.pending := by
  simp -implicitDefEqProofs only [State.coldSeed, readInputs_pending, tookN_pending, setBody_pending, setBst_pending,
    putB_pending, bodyPublish_pending, mev_pending, put_pending, solveWant_pending, bodyNext_pending,
    apply_ite pending, ite_self]

/-! #### Millstone work -/

theorem forecastStart_pending (s : State) (k : Nat) : (s.forecastStart k).pending = s.pending := by
  unfold State.forecastStart
  dsimp only
  repeat' split
  all_goals simp -implicitDefEqProofs only []

theorem forecastBegin_pending (s : State) (k : Nat) : (s.forecastBegin k).pending = s.pending := by
  simp -implicitDefEqProofs only [State.forecastBegin, readInputs_pending]

theorem forecastNext_pending (s : State) (k : Nat) (r : FcRun) : (s.forecastNext k r).pending = s.pending := by
  simp -implicitDefEqProofs only [State.forecastNext, quadFree_pending]

theorem forecastDone_pending (s : State) (k ms : Nat) : (s.forecastDone k ms).pending = s.pending := by
  rw [forecastDone]
  split
  · dsimp only
    split
    · simp -implicitDefEqProofs only [inc_pending, put_pending, forecastNext_pending]
    · rw [tookN_pending, each_pending]
      · simp -implicitDefEqProofs only [inc_pending, put_pending, forecastNext_pending]
      · intro t p
        split
        · rfl
        · exact publish_pending ..
  · rfl

theorem snapshotDue_pending (s : State) : s.snapshotDue.pending = s.pending := by
  simp -implicitDefEqProofs only [State.snapshotDue, snapContribute_pending, each_pending, apply_ite pending, ite_self,
    implies_true]

theorem snapShow_pending (s : State) : s.snapShow.pending = s.pending := by
  simp -implicitDefEqProofs only [State.snapShow, put_pending]

theorem setArea_pending (s : State) (n : Nat) (f : List Byte) : (s.setArea n f).pending = s.pending := by
  simp -implicitDefEqProofs only [State.setArea, snapShow_pending]

theorem snapshotBegin_pending (s : State) : s.snapshotBegin.pending = s.pending := by
  simp -implicitDefEqProofs only [State.snapshotBegin, setArea_pending]

theorem snapshotWritten_pending (s : State) (ok : Bool) : (s.snapshotWritten ok).pending = s.pending := by
  simp -implicitDefEqProofs only [State.snapshotWritten, quadFree_pending, tookN_pending, setArea_pending, put_pending,
    mev_pending, apply_ite pending, ite_self]

theorem snapRestore_pending (s : State) : s.snapRestore.pending = s.pending := by
  simp -implicitDefEqProofs only [State.snapRestore, snapShow_pending, put_pending]

theorem bodyStart_pending (s : State) (k : Nat) (cold : Bool) : (s.bodyStart k cold).pending = s.pending := by
  rw [State.bodyStart]
  split <;> simp -implicitDefEqProofs only [setBody_pending, setBst_pending, resumeFrom_pending]

theorem quadTake_pending (s : State) (p : Nat × Work) : (s.quadTake p).pending = s.pending := by
  rw [State.quadTake]
  split <;> simp -implicitDefEqProofs only [solveStart_pending, forecastBegin_pending, snapshotBegin_pending]

theorem deferAll_pending (s : State) : s.deferAll.pending = s.pending := by
  simp -implicitDefEqProofs only [State.deferAll, put_pending, apply_ite pending, ite_self]

theorem dispatch_pending (s : State) : s.dispatch.pending = s.pending := by
  simp -implicitDefEqProofs only [State.dispatch, firmAdvance_pending, deferAll_pending, quadTake_pending,
    each_pending, apply_ite pending, ite_self, implies_true]

theorem millMinute_pending (s : State) (k busy : Nat) : (s.millMinute k busy).pending = s.pending := by
  simp -implicitDefEqProofs only [State.millMinute, mev_pending, setBody_pending, put_pending, apply_ite pending,
    ite_self]

theorem millShow_pending (s : State) : s.millShow.pending = s.pending := by
  simp -implicitDefEqProofs only [State.millShow, put_pending, took_pending, apply_ite pending, ite_self]

/-! #### Governor and cup -/

theorem setSlot_pending (s : State) (n : Nat) (x : Slot) : (s.setSlot n x).pending = s.pending := by
  simp -implicitDefEqProofs only [State.setSlot]

theorem gev_pending (s : State) (code : Nat) (p0 : Nat) (p1 : Nat) (p2 : Nat) :
    (s.gev code p0 p1 p2).pending = s.pending := by
  simp -implicitDefEqProofs only [State.gev, ev_pending]

theorem modeRequest_pending (s : State) (n m : Nat) (bySwap : Bool) :
    (s.modeRequest n m bySwap).pending = s.pending := by
  simp -implicitDefEqProofs only [State.modeRequest, setSlot_pending, putB_pending]

theorem noRequest_pending (s : State) (n : Nat) : (s.noRequest n).pending = s.pending := by
  simp -implicitDefEqProofs only [State.noRequest, setSlot_pending, putB_pending]

theorem handOver_pending (s : State) (n a : Nat) (v : F32) : (s.handOver n a v).pending = s.pending := by
  rw [handOver]
  dsimp only
  split
  · rw [aoSlot_pending, setSlot_pending]
  · split
    · rw [setFan_pending, setSlot_pending]
    · split <;> rfl

theorem idleTarget_pending (s : State) (n a : Nat) : (s.idleTarget n a).pending = s.pending := by
  simp -implicitDefEqProofs only [State.idleTarget, setSlot_pending, put_pending, aoIdle_pending, setFan_pending,
    apply_ite pending, ite_self]

theorem followStep_pending (s : State) (n a : Nat) : (s.followStep n a).pending = s.pending := by
  unfold State.followStep
  dsimp only
  repeat' split
  all_goals simp -implicitDefEqProofs only [setSlot_pending, putB_pending, gev_pending]

theorem setSup_pending (s : State) (n j : Nat) (x : Supervision) : (s.setSup n j x).pending = s.pending := by
  simp -implicitDefEqProofs only [State.setSup, setSlot_pending]

theorem supShow_pending (s : State) (n : Nat) : (s.supShow n).pending = s.pending := by
  simp -implicitDefEqProofs only [State.supShow, put_pending, putB_pending, setReg_pending]

theorem infStop_pending (s : State) (n : Nat) : (s.infStop n).pending = s.pending := by
  simp -implicitDefEqProofs only [State.infStop, putB_pending, gev_pending]

theorem setManual_pending (s : State) (n a : Nat) (q : Int) : (s.setManual n a q).pending = s.pending := by
  simp -implicitDefEqProofs only [State.setManual, setReg_pending, setSlot_pending]

theorem saturated_pending (s : State) (n k : Nat) : (s.saturated n k).pending = s.pending := by
  simp -implicitDefEqProofs only [State.saturated, setSlot_pending, putB_pending, apply_ite pending, ite_self]

theorem fromPresent_pending (s : State) (n : Nat) : (s.fromPresent n).pending = s.pending := by
  simp -implicitDefEqProofs only [State.fromPresent, setSlot_pending, saturated_pending]

theorem takeFans_pending (s : State) (n : Nat) : (s.takeFans n).pending = s.pending := by
  simp -implicitDefEqProofs only [State.takeFans, setFan_pending, each_pending, apply_ite pending, ite_self,
    implies_true]

theorem holdManual_pending (s : State) (n : Nat) : (s.holdManual n).pending = s.pending := by
  simp -implicitDefEqProofs only [State.holdManual, setManual_pending, tookN_pending, each_pending, implies_true]

theorem cupAtTest_pending (s : State) (n : Nat) : (s.cupAtTest n).pending = s.pending := by
  simp -implicitDefEqProofs only [State.cupAtTest, put_pending, apply_ite pending, ite_self]

theorem enterMode_pending (s : State) (n new cause : Nat) : (s.enterMode n new cause).pending = s.pending := by
  simp -implicitDefEqProofs only [State.enterMode, gev_pending, infStop_pending, put_pending, setSlot_pending,
    takeFans_pending, noRequest_pending, idleTarget_pending, supShow_pending, holdManual_pending, fromPresent_pending,
    cupAtTest_pending, each_pending, apply_ite pending, ite_self, implies_true]

theorem fallBack_pending (s : State) (n j : Nat) : (s.fallBack n j).pending = s.pending := by
  simp -implicitDefEqProofs only [State.fallBack, inc_pending, setSup_pending, gev_pending, apply_ite pending, ite_self]

theorem takeWords_pending (s : State) (n : Nat) (changed : Bool) : (s.takeWords n changed).pending = s.pending := by
  simp -implicitDefEqProofs only [State.takeWords, setSlot_pending, put_pending, inc_pending, apply_ite pending,
    ite_self]

theorem cascades_pending (s : State) (n : Nat) : (s.cascades n).pending = s.pending := by
  simp -implicitDefEqProofs only [State.cascades, setSlot_pending, gev_pending, supShow_pending, each_pending,
    apply_ite pending, ite_self, implies_true]

theorem swapClose_pending (s : State) (n : Nat) : (s.swapClose n).pending = s.pending := by
  simp -implicitDefEqProofs only [State.swapClose, setSlot_pending, modeRequest_pending, apply_ite pending, ite_self]

theorem latch_pending (s : State) (n : Nat) : (s.latch n).pending = s.pending := by
  unfold State.latch
  dsimp only
  repeat' split
  all_goals simp -implicitDefEqProofs only [fallBack_pending, takeWords_pending, enterMode_pending, cascades_pending,
    swapClose_pending, noRequest_pending, inc_pending, gev_pending, each_pending, implies_true]

theorem takeSource_pending (s : State) (n j key cls idx : Nat) (firm : Bool) :
    (s.takeSource n j key cls idx firm).1.pending = s.pending := by
  rw [State.takeSource]
  split <;> simp -implicitDefEqProofs only [setSlot_pending]

theorem takeInputs_pending (s : State) (n : Nat) : (s.takeInputs n).1.pending = s.pending := by
  refine foldl_fst_pending (fun q j => ?_) _ _
  dsimp only
  split <;> simp -implicitDefEqProofs only [takeSource_pending]

theorem takeRefs_pending (s : State) (n : Nat) : (s.takeRefs n).1.pending = s.pending := by
  refine foldl_fst_pending (fun q l => ?_) _ _
  dsimp only
  split <;> exact setSlot_pending ..

theorem superviseOne_pending (s : State) (n j : Nat) (cur : Seen) (prim : Option Seen) :
    (s.superviseOne n j cur prim).pending = s.pending := by
  unfold State.superviseOne
  dsimp only
  repeat' split
  all_goals simp -implicitDefEqProofs only [setSup_pending, put_pending, gev_pending, inc_pending]

theorem infuse_pending (s : State) (n : Nat) : (s.infuse n).1.pending = s.pending := by
  unfold State.infuse
  dsimp only
  repeat' split
  all_goals simp -implicitDefEqProofs only [putB_pending, setSlot_pending, put_pending]

theorem outcome_pending (s : State) (n status reason : Nat) : (s.outcome n status reason).pending = s.pending := by
  simp -implicitDefEqProofs only [State.outcome, put_pending, inc_pending, setSlot_pending, apply_ite pending, ite_self]

theorem cupForm_pending (s : State) (n status : Nat) (words : List Int) :
    (s.cupForm n status words).pending = s.pending := by
  simp -implicitDefEqProofs only [State.cupForm, apply_ite pending, ite_self]

theorem failSlot_pending (s : State) (n : Nat) : (s.failSlot n).pending = s.pending := by
  simp -implicitDefEqProofs only [State.failSlot]

theorem latchKept_pending (s : State) (n : Nat) (l : List (Nat × Taken)) (t : State) :
    (s.latchKept n l t).pending = s.pending := by
  simp -implicitDefEqProofs only [State.latchKept]

theorem sampleRun_pending (s : State) (n : Nat) (bump : Bool) (cut : SampleCut) :
    (s.sampleRun n bump cut).pending = s.pending := by
  unfold State.sampleRun
  dsimp only
  repeat' split
  all_goals simp -implicitDefEqProofs only [setSlot_pending, setReg_pending, inc_pending, takeInputs_pending,
    takeRefs_pending, each_pending, followStep_pending, infuse_pending, superviseOne_pending, tookN_pending,
    latchKept_pending, put_pending, foldl_pending, gev_pending, putB_pending, saturated_pending, incSat_pending,
    supShow_pending, cupForm_pending, outcome_pending, handOver_pending, enterMode_pending, failSlot_pending,
    apply_ite pending, ite_self, implies_true]

theorem govSample_pending (s : State) (n : Nat) (cut : SampleCut) : (s.govSample n cut).pending = s.pending := by
  simp -implicitDefEqProofs only [State.govSample, setSlot_pending, outcome_pending, failSlot_pending, latch_pending,
    sampleRun_pending, apply_ite pending, ite_self]

theorem staleTimeout_pending (s : State) (n j : Nat) (prim : Bool) : (s.staleTimeout n j prim).pending = s.pending := by
  simp -implicitDefEqProofs only [State.staleTimeout, setSup_pending, inc_pending, gev_pending, supShow_pending,
    apply_ite pending, ite_self]

theorem coastExpire_pending (s : State) (n j : Nat) : (s.coastExpire n j).pending = s.pending := by
  simp -implicitDefEqProofs only [State.coastExpire, setSup_pending, put_pending, apply_ite pending, ite_self]

theorem testLimit_pending (s : State) (n : Nat) : (s.testLimit n).pending = s.pending := by
  simp -implicitDefEqProofs only [State.testLimit, setSlot_pending, apply_ite pending, ite_self]

theorem govMinute_pending (s : State) (n : Nat) : (s.govMinute n).pending = s.pending := by
  simp -implicitDefEqProofs only [State.govMinute, setSlot_pending, gev_pending, apply_ite pending, ite_self]

theorem coefWrite_pending (s : State) (n o : Nat) (w : Word) : (s.coefWrite n o w).pending = s.pending := by
  simp -implicitDefEqProofs only [State.coefWrite, setReg_pending, setSlot_pending, put_pending, apply_ite pending,
    ite_self]

theorem govBoot_pending (s : State) : s.govBoot.pending = s.pending := by
  simp -implicitDefEqProofs only [State.govBoot, enterMode_pending, each_pending, apply_ite pending, ite_self,
    implies_true]

theorem govRemove_pending (s : State) (n : Nat) : (s.govRemove n).pending = s.pending := by
  simp -implicitDefEqProofs only [State.govRemove, setSlot_pending, noRequest_pending, enterMode_pending,
    cascades_pending, apply_ite pending, ite_self]

theorem govAdd_pending (s : State) (n : Nat) : (s.govAdd n).pending = s.pending := by
  simp -implicitDefEqProofs only [State.govAdd, setSlot_pending]

theorem infCfgWrite_pending (s : State) (n : Nat) (w : Word) : (s.infCfgWrite n w).pending = s.pending := by
  simp -implicitDefEqProofs only [State.infCfgWrite, setReg_pending, setSlot_pending, apply_ite pending, ite_self]

theorem cupShow_pending (s : State) : s.cupShow.pending = s.pending := by
  simp -implicitDefEqProofs only [State.cupShow, put_pending, setReg_pending]

theorem cupStop_pending (s : State) (state why : Nat) : (s.cupStop state why).pending = s.pending := by
  simp -implicitDefEqProofs only [State.cupStop, put_pending, gev_pending]

theorem cupPut_pending (s : State) (o : Nat) (l : List Byte) : (s.cupPut o l).pending = s.pending := by
  simp -implicitDefEqProofs only [State.cupPut]

theorem cupWrite_pending (s : State) (tk : Nat) (body : List Byte) : (s.cupWrite tk body).pending = s.pending := by
  simp -implicitDefEqProofs only [State.cupWrite, cupStop_pending, cupPut_pending, setReg_pending, cupShow_pending,
    apply_ite pending, ite_self]

theorem cupCarry_pending (s : State) : s.cupCarry.pending = s.pending := by
  simp -implicitDefEqProofs only [State.cupCarry, cupWrite_pending, foldl_pending, implies_true]

theorem cupCtrl_pending (s : State) (action : Nat) : (s.cupCtrl action).pending = s.pending := by
  simp -implicitDefEqProofs only [State.cupCtrl, put_pending, cupStop_pending, setReg_pending, cupShow_pending,
    apply_ite pending, ite_self]

theorem cupAt_pending (s : State) : s.cupAt.pending = s.pending := by
  simp -implicitDefEqProofs only [State.cupAt, put_pending, apply_ite pending, ite_self]

/-! #### Thermal guard -/

theorem aev_pending (s : State) (code : Nat) (p0 : Nat) (p1 : Nat) (p2 : Nat) :
    (s.aev code p0 p1 p2).pending = s.pending := by
  simp -implicitDefEqProofs only [State.aev, ev_pending]

theorem guardPublish_pending (s : State) (n : Nat) : (s.guardPublish n).pending = s.pending := by
  simp -implicitDefEqProofs only [State.guardPublish, publish_pending, forward_pending, each_pending,
    apply_ite pending, ite_self, implies_true]

theorem setLost_pending (s : State) (n l : Nat) : (s.setLost n l).pending = s.pending := by
  simp -implicitDefEqProofs only [State.setLost, putB_pending]

theorem goodSample_pending (s : State) (n : Nat) (code : Int) (lost : Nat) :
    (s.goodSample n code lost).pending = s.pending := by
  simp -implicitDefEqProofs only [State.goodSample, putB_pending, put_pending, aev_pending, setLost_pending,
    apply_ite pending, ite_self]

theorem badSample_pending (s : State) (n : Nat) : (s.badSample n).pending = s.pending := by
  simp -implicitDefEqProofs only [State.badSample, putB_pending, put_pending, incSat_pending, aev_pending,
    apply_ite pending, ite_self]

theorem zoneShow_pending (s : State) (z : Nat) : (s.zoneShow z).pending = s.pending := by
  simp -implicitDefEqProofs only [State.zoneShow, put_pending, putB_pending]

theorem zoneSummary_pending (s : State) : s.zoneSummary.pending = s.pending := by
  simp -implicitDefEqProofs only [State.zoneSummary, put_pending, putB_pending]

theorem dwellShow_pending (s : State) (z : Nat) (cut : Bool) : (s.dwellShow z cut).pending = s.pending := by
  simp -implicitDefEqProofs only [State.dwellShow, putB_pending]

theorem zoneEnter1_pending (s : State) (z : Nat) (cut : Bool) : (s.zoneEnter1 z cut).pending = s.pending := by
  simp -implicitDefEqProofs only [State.zoneEnter1, putB_pending, aev_pending, incSat_pending, apply_ite pending,
    ite_self]

theorem zoneEnter_pending (s : State) (z : Nat) (cut : Bool) : (s.zoneEnter z cut).pending = s.pending := by
  simp -implicitDefEqProofs only [State.zoneEnter, zoneEnter1_pending, apply_ite pending, ite_self]

theorem zoneJudge_pending (s : State) (z n : Nat) (cut : Bool) : (s.zoneJudge z n cut).pending = s.pending := by
  simp -implicitDefEqProofs only [State.zoneJudge, zoneEnter_pending, dwellShow_pending, apply_ite pending, ite_self]

theorem guardFast_pending (s : State) (n : Nat) : (s.guardFast n).pending = s.pending := by
  simp -implicitDefEqProofs only [State.guardFast, putB_pending, put_pending]

theorem overrideStart_pending (s : State) (z fans : Nat) : (s.overrideStart z fans).pending = s.pending := by
  simp -implicitDefEqProofs only [State.overrideStart, putB_pending, aev_pending]

theorem overrides_pending (s : State) : s.overrides.pending = s.pending := by
  simp -implicitDefEqProofs only [State.overrides, overrideStart_pending, apply_ite pending, ite_self]

theorem guardFans_pending (s : State) : s.guardFans.pending = s.pending := by
  simp -implicitDefEqProofs only [State.guardFans, putB_pending, overrides_pending]

theorem cutOverride_pending (s : State) (z fans : Nat) (banks : List Nat) :
    (s.cutOverride z fans banks).pending = s.pending := by
  simp -implicitDefEqProofs only [State.cutOverride, overrideStart_pending, apply_ite pending, ite_self]

theorem guardCut_pending (s : State) (die : Nat) : (s.guardCut die).pending = s.pending := by
  simp -implicitDefEqProofs only [State.guardCut, send_pending, cutOverride_pending, cutBanks_pending,
    bankShow_pending, each_pending, apply_ite pending, ite_self, implies_true]

theorem millAbandon_pending (s : State) : s.millAbandon.pending = s.pending := by
  simp -implicitDefEqProofs only [State.millAbandon]

theorem thermalHalt_pending (s : State) (z : Nat) : (s.thermalHalt z).pending = s.pending := by
  simp -implicitDefEqProofs only [State.thermalHalt, incSat_pending, put_pending, send_pending, cutOverride_pending,
    cutBanks_pending, fansCut_pending, aoSafe_pending, millAbandon_pending, aev_pending, unfreeze_pending,
    stripHalt_pending, apply_ite pending, ite_self]

theorem guardHalt_pending (s : State) : s.guardHalt.pending = s.pending := by
  simp -implicitDefEqProofs only [State.guardHalt, thermalHalt_pending, foldl_pending, apply_ite pending, ite_self,
    implies_true]

theorem guardActs_pending (s : State) : s.guardActs.pending = s.pending := by
  simp -implicitDefEqProofs only [State.guardActs, zoneSummary_pending, guardFans_pending, guardCut_pending,
    guardHalt_pending]

theorem haltWatch_pending (s : State) (n : Nat) : (s.haltWatch n).pending = s.pending := by
  simp -implicitDefEqProofs only [State.haltWatch, put_pending, putB_pending, apply_ite pending, ite_self]

theorem guardSample_pending (s : State) (n : Nat) (rawA : Word) (okA : Bool) (rawB : Word) (okB : Bool) :
    (s.guardSample n rawA okA rawB okB).pending = s.pending := by
  unfold State.guardSample
  dsimp only
  repeat' split
  all_goals simp -implicitDefEqProofs only [took_pending, goodSample_pending, badSample_pending, guardPublish_pending,
    zoneShow_pending, zoneJudge_pending, guardFast_pending, haltWatch_pending, guardActs_pending, each_pending,
    implies_true]

theorem dwellExpire_pending (s : State) (z : Nat) (cut : Bool) : (s.dwellExpire z cut).pending = s.pending := by
  simp -implicitDefEqProofs only [State.dwellExpire, putB_pending, aev_pending, guardActs_pending, apply_ite pending,
    ite_self]

/-! #### Network -/

theorem nev_pending (s : State) (code : Nat) (p0 : Nat) (p1 : Nat) (p2 : Nat) :
    (s.nev code p0 p1 p2).pending = s.pending := by
  simp -implicitDefEqProofs only [State.nev, ev_pending]

theorem wdogRelease_pending (s : State) : s.wdogRelease.pending = s.pending := by
  simp -implicitDefEqProofs only [State.wdogRelease, putB_pending, put_pending, nev_pending]

theorem heartbeat_pending (s : State) (req : Nat) : (s.heartbeat req).pending = s.pending := by
  rw [State.heartbeat]
  split <;> simp -implicitDefEqProofs only [wdogRelease_pending, put_pending, apply_ite pending, ite_self]

theorem wdogTrip_pending (s : State) : s.wdogTrip.pending = s.pending := by
  simp -implicitDefEqProofs only [State.wdogTrip, putB_pending, put_pending, incSat_pending, nev_pending,
    apply_ite pending, ite_self]

theorem setSession_pending (s : State) (n : Nat) (x : Session) : (s.setSession n x).pending = s.pending := by
  simp -implicitDefEqProofs only [State.setSession]

theorem kmpSend_pending (s : State) (n op status : Nat) (body : List Byte) :
    (s.kmpSend n op status body).pending = s.pending := by
  simp -implicitDefEqProofs only [State.kmpSend, setSession_pending, send_pending, took_pending, apply_ite pending,
    ite_self]

theorem kmpReply_pending (s : State) (n op ctr status : Nat) (body : List Byte) :
    (s.kmpReply n op ctr status body).pending = s.pending := by
  simp -implicitDefEqProofs only [State.kmpReply, kmpSend_pending]

theorem kmpTagFail_pending (s : State) (src : Nat) : (s.kmpTagFail src).pending = s.pending := by
  simp -implicitDefEqProofs only [State.kmpTagFail, inc_pending]

theorem kmpSecond_pending (s : State) : s.kmpSecond.pending = s.pending := by
  simp -implicitDefEqProofs only [State.kmpSecond, nev_pending, apply_ite pending, ite_self]

theorem busyShow_pending (s : State) : s.busyShow.pending = s.pending := by
  simp -implicitDefEqProofs only [State.busyShow, putB_pending]

theorem xferDrop_pending (s : State) (x : Xfer) : (s.xferDrop x).pending = s.pending := by
  rw [xferDrop]
  dsimp only
  split
  · rfl
  · split
    · exact busyShow_pending _
    · refine each_pending (fun t k => ?_) _ _
      rw [bodyNext_pending, setBody_pending]
    · rfl

theorem closeSession_pending (s : State) (n why : Nat) : (s.closeSession n why).pending = s.pending := by
  simp -implicitDefEqProofs only [State.closeSession, xferDrop_pending, setReg_pending, put_pending, nev_pending,
    each_pending, apply_ite pending, ite_self, implies_true]

theorem closeAll_pending (s : State) (why : Nat) : (s.closeAll why).pending = s.pending := by
  simp -implicitDefEqProofs only [State.closeAll, closeSession_pending, each_pending, implies_true]

theorem openSession_pending (s : State) (n key : Nat) (operate : Bool) (ks : List Byte) (src : Nat) :
    (s.openSession n key operate ks src).pending = s.pending := by
  simp -implicitDefEqProofs only [State.openSession, setSession_pending, setReg_pending, put_pending, nev_pending]

theorem fwRestart_pending (s : State) (why : Nat) : (s.fwRestart why).pending = s.pending := by
  simp -implicitDefEqProofs only [State.fwRestart, closeAll_pending, putB_pending]

theorem noteFrag_pending (s : State) (f : List Byte) : (s.noteFrag f).pending = s.pending := by
  rw [State.noteFrag]
  split <;> simp -implicitDefEqProofs only [apply_ite pending, ite_self]

theorem macLearn_pending (s : State) (mac port : Nat) : (s.macLearn mac port).pending = s.pending := by
  simp -implicitDefEqProofs only [State.macLearn, apply_ite pending, ite_self]

theorem setStorm_pending (s : State) (e : Nat) (x : Nat × Nat) : (s.setStorm e x).pending = s.pending := by
  simp -implicitDefEqProofs only [State.setStorm]

theorem stormCount_pending (s : State) (e : Nat) : (s.stormCount e).pending = s.pending := by
  simp -implicitDefEqProofs only [State.stormCount, setStorm_pending, incSat_pending, apply_ite pending, ite_self]

theorem ledPin_pending (s : State) (e : Nat) (high : Bool) : (s.ledPin e high).pending = s.pending := by
  simp -implicitDefEqProofs only [State.ledPin, send_pending]

theorem ledBurst_pending (s : State) (e : Nat) : (s.ledBurst e).pending = s.pending := by
  simp -implicitDefEqProofs only [State.ledBurst, ledPin_pending, apply_ite pending, ite_self]

theorem ledTick_pending (s : State) : s.ledTick.pending = s.pending := by
  simp -implicitDefEqProofs only [State.ledTick, ledPin_pending, each_pending, apply_ite pending, ite_self,
    implies_true]

theorem frameOut_pending (s : State) (e : Nat) (f : List Byte) : (s.frameOut e f).pending = s.pending := by
  simp -implicitDefEqProofs only [State.frameOut, send_pending, ledBurst_pending, apply_ite pending, ite_self]

theorem frameIn_pending (s : State) (port : Nat) (f : List Byte) : (s.frameIn port f).pending = s.pending := by
  unfold State.frameIn
  dsimp only
  repeat' split
  all_goals simp -implicitDefEqProofs only [macLearn_pending, frameOut_pending, stormCount_pending, noteFrag_pending,
    ledBurst_pending]

theorem stormSecond_pending (s : State) (e : Nat) : (s.stormSecond e).pending = s.pending := by
  simp -implicitDefEqProofs only [State.stormSecond, setStorm_pending, nev_pending, apply_ite pending, ite_self]

theorem macAge_pending (s : State) (mac : Nat) : (s.macAge mac).pending = s.pending := by
  simp -implicitDefEqProofs only [State.macAge]

theorem ip6Show_pending (s : State) (statics : List Nat) : (s.ip6Show statics).pending = s.pending := by
  simp -implicitDefEqProofs only [State.ip6Show, setReg_pending, putB_pending, foldl_pending, implies_true]

theorem setConns_pending (s : State) (l : List Nat) : (s.setConns l).pending = s.pending := by
  simp -implicitDefEqProofs only [State.setConns, put_pending]

theorem ip4Off_pending (s : State) : s.ip4Off.pending = s.pending := by
  simp -implicitDefEqProofs only [State.ip4Off, setReg_pending, putB_pending, setConns_pending]

theorem ip4On_pending (s : State) (a m g : Word) (dhcp : Bool) (lease : Nat) :
    (s.ip4On a m g dhcp lease).pending = s.pending := by
  simp -implicitDefEqProofs only [State.ip4On, setReg_pending, putB_pending, put_pending, nev_pending]

theorem probeStart4_pending (s : State) (a : Word) : (s.probeStart4 a).pending = s.pending := by
  simp -implicitDefEqProofs only [State.probeStart4, send_pending]

theorem dhcpSeek_pending (s : State) : s.dhcpSeek.pending = s.pending := by
  simp -implicitDefEqProofs only [State.dhcpSeek, put_pending, send_pending]

theorem netStart_pending (s : State) (ip6 : List Nat) : (s.netStart ip6).pending = s.pending := by
  simp -implicitDefEqProofs only [State.netStart, ip6Show_pending, dhcpSeek_pending, probeStart4_pending,
    apply_ite pending, ite_self]

theorem probeEnd4_pending (s : State) (a m g : Word) (lease : Nat) (conflict : Bool) :
    (s.probeEnd4 a m g lease conflict).pending = s.pending := by
  simp -implicitDefEqProofs only [State.probeEnd4, ip4Off_pending, put_pending, nev_pending, ip4On_pending,
    apply_ite pending, ite_self]

theorem conflictRetry_pending (s : State) : s.conflictRetry.pending = s.pending := by
  unfold State.conflictRetry
  dsimp only
  repeat' split
  all_goals simp -implicitDefEqProofs only [dhcpSeek_pending, probeStart4_pending]

theorem dhcpRenew_pending (s : State) (lease : Nat) : (s.dhcpRenew lease).pending = s.pending := by
  simp -implicitDefEqProofs only [State.dhcpRenew, send_pending, apply_ite pending, ite_self]

theorem leaseLost_pending (s : State) : s.leaseLost.pending = s.pending := by
  simp -implicitDefEqProofs only [State.leaseLost, ip4Off_pending, dhcpSeek_pending, apply_ite pending, ite_self]

theorem linkLocal_pending (s : State) (low : BitVec 16) : (s.linkLocal low).pending = s.pending := by
  simp -implicitDefEqProofs only [State.linkLocal, probeStart4_pending, apply_ite pending, ite_self]

theorem linkProbe_pending (s : State) : s.linkProbe.pending = s.pending := by
  unfold State.linkProbe
  repeat' split
  all_goals simp -implicitDefEqProofs only [probeStart4_pending]

theorem linkChange_pending (s : State) (e : Nat) (up : Bool) (speed : Nat) (full : Bool) :
    (s.linkChange e up speed full).pending = s.pending := by
  simp -implicitDefEqProofs only [State.linkChange, putB_pending, put_pending, ledPin_pending, nev_pending,
    linkProbe_pending, apply_ite pending, ite_self]

theorem neighbour_pending (s : State) (e : Nat) (ip6 : Bool) (target : Nat) :
    (s.neighbour e ip6 target).pending = s.pending := by
  simp -implicitDefEqProofs only [State.neighbour, send_pending, apply_ite pending, ite_self]

theorem echo_pending (s : State) (e : Nat) : (s.echo e).pending = s.pending := by
  simp -implicitDefEqProofs only [State.echo, send_pending, apply_ite pending, ite_self]

theorem unserved_pending (s : State) (e : Nat) (tcp : Bool) (port : Nat) :
    (s.unserved e tcp port).pending = s.pending := by
  simp -implicitDefEqProofs only [State.unserved, send_pending, apply_ite pending, ite_self]

/-! #### Reliability -/

theorem rev_pending (s : State) (code : Nat) (p0 : Nat) (p1 : Nat) (p2 : Nat) :
    (s.rev code p0 p1 p2).pending = s.pending := by
  simp -implicitDefEqProofs only [State.rev, ev_pending]

theorem relUntest_pending (s : State) (e : Element) : (s.relUntest e).pending = s.pending := by
  simp -implicitDefEqProofs only [State.relUntest]

theorem fenceList_pending (s : State) (e : Element) (cause : Nat) (spared : Bool) :
    (s.fenceList e cause spared).pending = s.pending := by
  simp -implicitDefEqProofs only [State.fenceList, putB_pending, setReg_pending, put_pending, incSat_pending,
    rev_pending, apply_ite pending, ite_self]

theorem safeAssert_pending (s : State) : s.safeAssert.pending = s.pending := by
  simp -implicitDefEqProofs only [State.safeAssert, putB_pending, send_pending, cutBanks_pending, aoSafe_pending,
    fansCut_pending, apply_ite pending, ite_self]

theorem lanesLost_pending (s : State) (tile boot : Nat) : (s.lanesLost tile boot).pending = s.pending := by
  simp -implicitDefEqProofs only [State.lanesLost, putB_pending, rev_pending, safeAssert_pending]

theorem recoveryAbandon_pending (s : State) : s.recoveryAbandon.pending = s.pending := by
  simp -implicitDefEqProofs only [State.recoveryAbandon, putB_pending, put_pending]

theorem laneFence_pending (s : State) (l tile cause : Nat) : (s.laneFence l tile cause).pending = s.pending := by
  simp -implicitDefEqProofs only [State.laneFence, inc_pending, putB_pending, fenceList_pending, rev_pending,
    recoveryAbandon_pending, lanesLost_pending, apply_ite pending, ite_self]

theorem quadSpare_pending (s : State) (q : Nat) : (s.quadSpare q).pending = s.pending := by
  simp -implicitDefEqProofs only [State.quadSpare, put_pending, putB_pending, ev_pending]

theorem quadLost_pending (s : State) (q : Nat) : (s.quadLost q).pending = s.pending := by
  simp -implicitDefEqProofs only [State.quadLost, put_pending, millShow_pending, ev_pending, rev_pending,
    apply_ite pending, ite_self]

theorem quadRerun_pending (s : State) (n : Nat) (kept : Bool) : (s.quadRerun n kept).pending = s.pending := by
  simp -implicitDefEqProofs only [State.quadRerun, put_pending, apply_ite pending, ite_self]

theorem quadFence_pending (s : State) (q : Nat) : (s.quadFence q).pending = s.pending := by
  unfold State.quadFence
  dsimp only
  repeat' split
  all_goals simp -implicitDefEqProofs only [quadRerun_pending, setReg_pending, quadSpare_pending, quadLost_pending,
    put_pending, putB_pending]

theorem doorStop_pending (s : State) : s.doorStop.pending = s.pending := by
  simp -implicitDefEqProofs only [State.doorStop, commitEnd_pending, stripInterrupt_pending, apply_ite pending,
    ite_self]

theorem fenceEffect_pending (s : State) (e : Element) : (s.fenceEffect e).pending = s.pending := by
  unfold State.fenceEffect
  repeat' split
  all_goals simp -implicitDefEqProofs only [fieldTested_pending, aoFence_pending, valveFence_pending, fanFence_pending,
    portFence_pending, quadFence_pending, doorStop_pending, each_pending, bankDisable_pending, implies_true]

theorem fence_pending (s : State) (e : Element) (cause : Nat) : (s.fence e cause).pending = s.pending := by
  unfold State.fence
  dsimp only
  repeat' split
  all_goals simp -implicitDefEqProofs only [laneFence_pending, took_pending, fenceList_pending, rev_pending,
    fenceEffect_pending]

theorem sramRepair_pending (s : State) (m : Nat) (home : Element) (cause : Nat) :
    (s.sramRepair m home cause).pending = s.pending := by
  simp -implicitDefEqProofs only [State.sramRepair, put_pending, rev_pending, fence_pending, apply_ite pending,
    ite_self]

theorem spareShow_pending (s : State) : s.spareShow.pending = s.pending := by
  simp -implicitDefEqProofs only [State.spareShow, put_pending]

theorem rowSpare_pending (s : State) (addr : Nat) : (s.rowSpare addr).pending = s.pending := by
  simp -implicitDefEqProofs only [State.rowSpare, spareShow_pending, rev_pending, putB_pending, apply_ite pending,
    ite_self]

theorem hardRepair_pending (s : State) (fits : Nat → Bool) : (s.hardRepair fits).pending = s.pending := by
  simp -implicitDefEqProofs only [State.hardRepair, spareShow_pending, incSat_pending, rev_pending, each_pending,
    implies_true]

theorem lasting_pending (s : State) (e home : Element) (cause : Nat) :
    (s.lasting e home cause).pending = s.pending := by
  unfold State.lasting
  dsimp only
  repeat' split
  all_goals simp -implicitDefEqProofs only [inc_pending, sramRepair_pending, rowSpare_pending, fence_pending]

theorem passEffect_pending (s : State) (e : Element) : (s.passEffect e).pending = s.pending := by
  unfold State.passEffect
  dsimp only
  repeat' split
  all_goals simp -implicitDefEqProofs only [fieldTested_pending, portPassed_pending, serve_pending, setChan_pending]

theorem noteTransient_pending (s : State) (e : Element) (at_ : Nat) : (s.noteTransient e at_).pending = s.pending := by
  simp -implicitDefEqProofs only [State.noteTransient]

theorem transient_pending (s : State) (e : Element) : (s.transient e).pending = s.pending := by
  simp -implicitDefEqProofs only [State.transient, inc_pending, rev_pending, noteTransient_pending, passEffect_pending]

theorem testBegin_pending (s : State) (e : Element) : (s.testBegin e).pending = s.pending := by
  unfold State.testBegin
  dsimp only
  repeat' split
  all_goals simp -implicitDefEqProofs only [putB_pending, portTest_pending]

theorem testsStart_pending (s : State) : s.testsStart.pending = s.pending := by
  simp -implicitDefEqProofs only [State.testsStart, stageStart_pending, testBegin_pending, each_pending,
    apply_ite pending, ite_self, implies_true]

theorem testWant_pending (s : State) (e home : Element) (host : Bool) :
    (s.testWant e home host).pending = s.pending := by
  simp -implicitDefEqProofs only [State.testWant, rev_pending, lasting_pending, testsStart_pending, apply_ite pending,
    ite_self]

theorem testEnd_pending (s : State) (e home : Element) (fails : Bool) :
    (s.testEnd e home fails).pending = s.pending := by
  rw [State.testEnd]
  split <;> simp -implicitDefEqProofs only [relUntest_pending, inc_pending, put_pending, lasting_pending,
    transient_pending, testsStart_pending, apply_ite pending, ite_self]

theorem relCmd_pending (s : State) (w : Word) : (s.relCmd w).pending = s.pending := by
  rw [State.relCmd]
  split <;> simp -implicitDefEqProofs only [setReg_pending, testWant_pending]

theorem remainderZero_pending (s : State) (place : Nat) : (s.remainderZero place).pending = s.pending := by
  refine each_pending (fun t p => ?_) _ _
  split <;> rfl

theorem propsLost_pending (s : State) (o : Nat) : (s.propsLost o).pending = s.pending := by
  refine each_pending (fun t p => ?_) _ _
  split <;> rfl

theorem cellLost_pending (s : State) (addr : Nat) : (s.cellLost addr).pending = s.pending := by
  rw [State.cellLost]
  split <;> simp -implicitDefEqProofs only [setBody_pending]

theorem ringCut_pending (s : State) (x : Option Nat) : (s.ringCut x).pending = s.pending := by
  unfold State.ringCut
  dsimp only
  repeat' split
  all_goals simp -implicitDefEqProofs only [setBody_pending, took_pending, firmAdvance_pending]

theorem ringLost_pending (s : State) (o : Nat) : (s.ringLost o).pending = s.pending := by
  simp -implicitDefEqProofs only [State.ringLost, ringCut_pending]

theorem fieldLost_pending (s : State) (place : Nat) : (s.fieldLost place).pending = s.pending := by
  rw [State.fieldLost]
  split <;> simp -implicitDefEqProofs only [solveWant_pending]

theorem forecastLost_pending (s : State) (k : Nat) : (s.forecastLost k).pending = s.pending := by
  simp -implicitDefEqProofs only [State.forecastLost, put_pending, apply_ite pending, ite_self]

theorem anchorLost_pending (s : State) (a : Nat) : (s.anchorLost a).pending = s.pending := by
  simp -implicitDefEqProofs only [State.anchorLost, put_pending]

theorem snapLost_pending (s : State) : s.snapLost.pending = s.pending := by
  simp -implicitDefEqProofs only [State.snapLost]

theorem cupLost_pending (s : State) (o : Nat) : (s.cupLost o).pending = s.pending := by
  simp -implicitDefEqProofs only [State.cupLost]

theorem dramLost_pending (s : State) (addr : Nat) (scrub : Bool) : (s.dramLost addr scrub).pending = s.pending := by
  unfold State.dramLost
  dsimp only
  repeat' split
  all_goals simp -implicitDefEqProofs only [cellLost_pending, ringLost_pending, propsLost_pending, fieldLost_pending,
    solveWant_pending, forecastLost_pending, anchorLost_pending, snapLost_pending, cupLost_pending,
    remainderZero_pending, fwRestart_pending, each_pending, implies_true]

theorem eccShow_pending (s : State) (addr : Nat) (uncorr : Bool) : (s.eccShow addr uncorr).pending = s.pending := by
  simp -implicitDefEqProofs only [State.eccShow, setReg_pending, incSat_pending]

theorem noteEcc_pending (s : State) (addr row at_ : Nat) : (s.noteEcc addr row at_).pending = s.pending := by
  simp -implicitDefEqProofs only [State.noteEcc]

theorem dramError_pending (s : State) (addr : Nat) (uncorr scrub : Bool) :
    (s.dramError addr uncorr scrub).pending = s.pending := by
  simp -implicitDefEqProofs only [State.dramError, eccShow_pending, testWant_pending, rev_pending, dramLost_pending,
    noteEcc_pending, apply_ite pending, ite_self]

theorem scrubStep_pending (s : State) (err : Nat) : (s.scrubStep err).pending = s.pending := by
  simp -implicitDefEqProofs only [State.scrubStep, put_pending, dramError_pending, apply_ite pending, ite_self]

theorem eccHour_pending (s : State) : s.eccHour.pending = s.pending := by
  simp -implicitDefEqProofs only [State.eccHour, rev_pending, apply_ite pending, ite_self]

theorem recoveryStart_pending (s : State) (tile : Nat) (lane : Option Nat) :
    (s.recoveryStart tile lane).pending = s.pending := by
  simp -implicitDefEqProofs only [State.recoveryStart, putB_pending, put_pending, inc_pending]

theorem lockMismatch_pending (s : State) (tile : Nat) (named : Option Nat) :
    (s.lockMismatch tile named).pending = s.pending := by
  unfold State.lockMismatch
  dsimp only
  repeat' split
  all_goals simp -implicitDefEqProofs only [rev_pending, laneFence_pending, recoveryStart_pending, put_pending]

theorem lockTested_pending (s : State) (a b : Bool) : (s.lockTested a b).pending = s.pending := by
  simp -implicitDefEqProofs only [State.lockTested, put_pending, apply_ite pending, ite_self]

theorem lockResolve_pending (s : State) (outcome cause ns holdNs : Nat) :
    (s.lockResolve outcome cause ns holdNs).pending = s.pending := by
  unfold State.lockResolve
  dsimp only
  repeat' split
  all_goals simp -implicitDefEqProofs only [put_pending, raise_pending, took_pending, recoveryAbandon_pending,
    noteTransient_pending, inc_pending, rev_pending, lanesLost_pending, laneFence_pending]

theorem lockReexecuted_pending (s : State) (agree : Bool) (ns holdNs : Nat) :
    (s.lockReexecuted agree ns holdNs).pending = s.pending := by
  simp -implicitDefEqProofs only [State.lockReexecuted, lockResolve_pending, put_pending, apply_ite pending, ite_self]

theorem lockPlaced_pending (s : State) (errA errB : Bool) (ns holdNs : Nat) :
    (s.lockPlaced errA errB ns holdNs).pending = s.pending := by
  simp -implicitDefEqProofs only [State.lockPlaced, inc_pending, lockResolve_pending, apply_ite pending, ite_self]

theorem sramCorrected_pending (s : State) (m word : Nat) (home : Element) :
    (s.sramCorrected m word home).pending = s.pending := by
  simp -implicitDefEqProofs only [State.sramCorrected, testWant_pending, apply_ite pending, ite_self]

theorem elementError_pending (s : State) (e home : Element) (uncorr : Bool) (word : Nat) :
    (s.elementError e home uncorr word).pending = s.pending := by
  unfold State.elementError
  repeat' split
  all_goals simp -implicitDefEqProofs only [fwRestart_pending, lockMismatch_pending, laneFence_pending, took_pending,
    dramError_pending, testWant_pending, sramCorrected_pending]

theorem bootTested_pending (s : State) (tested : Nat) (failed : List Element) (ms : Nat) :
    (s.bootTested tested failed ms).pending = s.pending := by
  rw [bootTested]
  split
  · rfl
  · dsimp only
    rw [apply_ite pending, putB_pending, lanesLost_pending, ite_self, rev_pending, each_pending, putB_pending]
    intro t e
    cases e <;> simp -implicitDefEqProofs only [laneFence_pending, sramRepair_pending, rowSpare_pending, fence_pending,
      apply_ite pending, ite_self]

theorem aoFaultTest_pending (s : State) (n : Nat) : (s.aoFaultTest n).pending = s.pending := by
  simp -implicitDefEqProofs only [State.aoFaultTest, aoFaultEnter_pending, testWant_pending, apply_ite pending,
    ite_self]

theorem portStuckTest_pending (s : State) (p : Nat) : (s.portStuckTest p).pending = s.pending := by
  simp -implicitDefEqProofs only [State.portStuckTest, portStuck_pending, testWant_pending, apply_ite pending, ite_self]

theorem afterGuard_pending (s : State) : s.afterGuard.pending = s.pending := by
  simp -implicitDefEqProofs only [State.afterGuard, recoveryAbandon_pending, apply_ite pending, ite_self]

/-! #### Power, resets and the sluice -/

theorem planesClear_pending (s : State) : s.planesClear.pending = s.pending := by
  simp -implicitDefEqProofs only [State.planesClear]

theorem drivePins_pending (s : State) : s.drivePins.pending = s.pending := by
  simp -implicitDefEqProofs only [State.drivePins, send_pending, each_pending, implies_true]

theorem planesReset_pending (s : State) (cause : Nat) : (s.planesReset cause).pending = s.pending := by
  simp -implicitDefEqProofs only [State.planesReset, darken_pending, planesClear_pending, putB_pending, put_pending,
    drivePins_pending, send_pending, apply_ite pending, ite_self]

theorem heldReset_pending (s : State) (cause : Nat) : (s.heldReset cause).pending = s.pending := by
  simp -implicitDefEqProofs only [State.heldReset, put_pending]

theorem sampleStraps_pending (s : State) (straps : Nat) : (s.sampleStraps straps).pending = s.pending := by
  simp -implicitDefEqProofs only [State.sampleStraps]

theorem countCycle_pending (s : State) : s.countCycle.pending = s.pending := by
  simp -implicitDefEqProofs only [State.countCycle, incSat_pending]

theorem pondNow_pending (s : State) (code : Nat) : (s.pondNow code).pending = s.pending := by
  simp -implicitDefEqProofs only [State.pondNow, intakeAll_pending, aev_pending]

theorem sluiceBegin_pending (s : State) (cmd : Bool) : (s.sluiceBegin cmd).pending = s.pending := by
  simp -implicitDefEqProofs only [State.sluiceBegin, safeAssert_pending, millAbandon_pending, recoveryAbandon_pending,
    pondNow_pending, stripPfail_pending, panelSluice_pending, busyShow_pending, putB_pending, apply_ite pending,
    ite_self]

theorem pfail_pending (s : State) : s.pfail.pending = s.pending := by
  unfold State.pfail
  dsimp only
  repeat' split
  all_goals simp -implicitDefEqProofs only [putB_pending, send_pending, aev_pending, pondNow_pending, unfreeze_pending,
    sluiceBegin_pending]

theorem commandReset_pending (s : State) : s.commandReset.pending = s.pending := by
  simp -implicitDefEqProofs only [State.commandReset, sluiceBegin_pending]

theorem setSluice_pending (s : State) (q : Sluice) : (s.setSluice q).pending = s.pending := by
  simp -implicitDefEqProofs only [State.setSluice]

theorem sluiceFlushed_pending (s : State) (time10us bad : Nat) :
    (s.sluiceFlushed time10us bad).pending = s.pending := by
  rw [State.sluiceFlushed]
  split <;> simp -implicitDefEqProofs only [flushAll_pending, flushEndEntry_pending, setSluice_pending,
    latchFlags_pending, apply_ite pending, ite_self]

theorem sluiceWordDone_pending (s : State) : s.sluiceWordDone.pending = s.pending := by
  rw [State.sluiceWordDone]
  split <;> simp -implicitDefEqProofs only [setSluice_pending, apply_ite pending, ite_self]

theorem lifeSave_pending (s : State) : s.lifeSave.pending = s.pending :=
  have h (p : Power) : ({ s with pwr := p } : State).pending = s.pending := rfl
  h _

theorem markerStrip_pending (s : State) : s.markerStrip.pending = s.pending := by
  rw [State.markerStrip]
  split <;> simp -implicitDefEqProofs only [apply_ite pending, ite_self]

theorem sluiceMarked_pending (s : State) : s.sluiceMarked.pending = s.pending := by
  rw [State.sluiceMarked]
  split <;> simp -implicitDefEqProofs only [lifeSave_pending, flushEndEntry_pending, markerStrip_pending,
    planesReset_pending, apply_ite pending, ite_self]

theorem haltEnd_pending (s : State) : s.haltEnd.pending = s.pending := by
  simp -implicitDefEqProofs only [State.haltEnd, send_pending]

theorem sluiceRestart_pending (s : State) : s.sluiceRestart.pending = s.pending := by
  simp -implicitDefEqProofs only [State.sluiceRestart, haltEnd_pending, countCycle_pending, put_pending, putB_pending,
    apply_ite pending, ite_self]

theorem inputReturned_pending (s : State) : s.inputReturned.pending = s.pending := by
  simp -implicitDefEqProofs only [State.inputReturned, putB_pending, sluiceRestart_pending, apply_ite pending, ite_self]

theorem thermalRestart_pending (s : State) : s.thermalRestart.pending = s.pending := by
  simp -implicitDefEqProofs only [State.thermalRestart, sluiceRestart_pending, haltEnd_pending, put_pending,
    apply_ite pending, ite_self]

theorem pfiLow_pending (s : State) : s.pfiLow.pending = s.pending := by
  simp -implicitDefEqProofs only [State.pfiLow, putB_pending, apply_ite pending, ite_self]

theorem pfiBack_pending (s : State) : s.pfiBack.pending = s.pending := by
  simp -implicitDefEqProofs only [State.pfiBack, apply_ite pending, ite_self]

theorem graceEnd_pending (s : State) (used records bad : Nat) : (s.graceEnd used records bad).pending = s.pending := by
  simp -implicitDefEqProofs only [State.graceEnd, put_pending, putB_pending, flushBad_pending, drainFifos_pending,
    flushOnce_pending, flushEndEntry_pending, flushPlaced_pending, planesReset_pending, apply_ite pending, ite_self]

theorem railsGood_pending (s : State) : s.railsGood.pending = s.pending := by
  simp -implicitDefEqProofs only [State.railsGood, putB_pending, apply_ite pending, ite_self]

theorem railDip_pending (s : State) (rail us : Nat) : (s.railDip rail us).pending = s.pending := by
  simp -implicitDefEqProofs only [State.railDip, putB_pending, heldReset_pending, planesReset_pending, aev_pending,
    apply_ite pending, ite_self]

theorem collapse_pending (s : State) : s.collapse.pending = s.pending := by
  simp -implicitDefEqProofs only [State.collapse, planesReset_pending]

theorem stageRail_pending (s : State) (r : Rail) (mv : Nat) : (s.stageRail r mv).pending = s.pending := by
  unfold State.stageRail
  dsimp only
  repeat' split
  all_goals simp -implicitDefEqProofs only [put_pending, bankShow_pending, putB_pending, fansSupply_pending,
    portsVcab_pending, panelVledChange_pending, stripVepChange_pending]

theorem pllLocked_pending (s : State) : s.pllLocked.pending = s.pending := by
  simp -implicitDefEqProofs only [State.pllLocked, putB_pending, apply_ite pending, ite_self]

theorem pllLost_pending (s : State) : s.pllLost.pending = s.pending := by
  simp -implicitDefEqProofs only [State.pllLost, incSat_pending, planesReset_pending, putB_pending, heldReset_pending,
    apply_ite pending, ite_self]

theorem refLost_pending (s : State) : s.refLost.pending = s.pending := by
  simp -implicitDefEqProofs only [State.refLost, putB_pending, aev_pending, apply_ite pending, ite_self]

theorem testMode_pending (s : State) : s.testMode.pending = s.pending := by
  simp -implicitDefEqProofs only [State.testMode, planesReset_pending, apply_ite pending, ite_self]

theorem testRelease_pending (s : State) : s.testRelease.pending = s.pending := by
  simp -implicitDefEqProofs only [State.testRelease, heldReset_pending, apply_ite pending, ite_self]

theorem external_pending (s : State) (straps : Nat) : (s.external straps).pending = s.pending := by
  simp -implicitDefEqProofs only [State.external, heldReset_pending, planesReset_pending, sampleStraps_pending,
    apply_ite pending, ite_self]

theorem powerClear_pending (s : State) (straps : Nat) : (s.powerClear straps).pending = s.pending := by
  simp -implicitDefEqProofs only [State.powerClear, planesClear_pending]

theorem powerOn_pending (s : State) (straps : Nat) : (s.powerOn straps).pending = s.pending := by
  simp -implicitDefEqProofs only [State.powerOn, powerClear_pending, setOptime_pending, put_pending,
    countCycle_pending, spareShow_pending, putB_pending, drivePins_pending]

theorem gaugeValid_pending (s : State) : s.gaugeValid.pending = s.pending := by
  simp -implicitDefEqProofs only [State.gaugeValid, putB_pending]

theorem gauge_pending (s : State) (code : Nat) : (s.gauge code).pending = s.pending := by
  simp -implicitDefEqProofs only [State.gauge, put_pending, took_pending, apply_ite pending, ite_self]

/-! #### Register fabric -/

theorem capture_pending (s : State) (req : Nat) (l : List Nat) : (s.capture req l).pending = s.pending := by
  simp -implicitDefEqProofs only [State.capture]

theorem violate_pending (s : State) (req : Nat) : (s.violate req).pending = s.pending := by
  simp -implicitDefEqProofs only [State.violate, inc_pending, apply_ite pending, ite_self]

theorem readAt_pending (s : State) (req a : Nat) : (s.readAt req a).2.pending = s.pending := by
  unfold State.readAt
  repeat' split
  all_goals simp -implicitDefEqProofs only [inc_pending, capture_pending]

theorem keyCommand_pending (s : State) (v : Word) : (s.keyCommand v).pending = s.pending := by
  simp -implicitDefEqProofs only [State.keyCommand, ev_pending, apply_ite pending, ite_self]

theorem tableEntry_pending (s : State) (d : Display) : (s.tableEntry d).pending = s.pending := by
  simp -implicitDefEqProofs only [State.tableEntry, dirtyAll_pending, apply_ite pending, ite_self]

theorem mgmtEffect_pending (s : State) (req a : Nat) (old v : Word) :
    (s.mgmtEffect req a old v).pending = s.pending := by
  rw [mgmtEffect]
  refine ite_pending (keyCommand_pending ..) <| ite_pending ?_ <|
    ite_pending (ite_pending rfl (ptpSet_pending ..)) <| ite_pending (ite_pending (linkChange_pending ..) rfl) <|
    ite_pending (timeSet_pending ..) <| ite_pending (ite_pending (wdogRelease_pending ..) rfl) <|
    ite_pending (heartbeat_pending ..) <| ite_pending (ite_pending (freezeSet_pending ..) (freezeLift_pending ..)) <|
    ite_pending (logClear_pending ..) <| ite_pending (ite_pending rfl (dirtyAll_pending ..)) <|
    ite_pending (stripFitted_pending ..) <| ite_pending (panelFitted_pending ..) <| ite_pending ?_ <|
    ite_pending (ite_pending rfl (sourceChanged_pending ..)) <| ite_pending (fbWrite_pending ..) <|
    ite_pending (ite_pending (commitGo_pending ..) rfl) <| ite_pending (tableEntry_pending ..) <|
    ite_pending (tableEntry_pending ..) <| ite_pending (ite_pending (stripGo_pending ..) rfl) <|
    ite_pending (relCmd_pending ..) rfl
  · have ht := ite_pending (c := old.getLsbD 16 && !v.getLsbD 16 && decide (s.tstate ≠ tFree))
      (timeEnter_pending s tFree) (rfl : s.pending = s.pending)
    exact ite_pending ht ((send_pending ..).trans ht)
  · split
    · exact panelOffCmd_pending ..
    · exact panelWake_pending ..
    · exact panelClearCrack_pending ..
    · exact panelClearStress_pending ..

theorem aonEffect_pending (s : State) (a : Nat) : (s.aonEffect a).pending = s.pending := by
  simp -implicitDefEqProofs only [State.aonEffect, commandReset_pending, guardFans_pending, gaugeValid_pending,
    apply_ite pending, ite_self]

theorem valveEffect_pending (s : State) (req v o : Nat) (old w : Word) :
    (s.valveEffect req v o old w).pending = s.pending := by
  simp -implicitDefEqProofs only [State.valveEffect, valveStart_pending, valveStop_pending, clearFault_pending,
    dutyJudge_pending, apply_ite pending, ite_self]

theorem bankEffect_pending (s : State) (b o : Nat) (w : Word) : (s.bankEffect b o w).pending = s.pending := by
  unfold State.bankEffect
  dsimp only
  repeat' split
  all_goals simp -implicitDefEqProofs only [bankDisable_pending, bankEnable_pending, channelDisable_pending,
    channelEnable_pending, clearFault_pending, cqPop_pending]

theorem fanCfgWrite_pending (s : State) (f : Nat) (old v : Word) : (s.fanCfgWrite f old v).pending = s.pending := by
  simp -implicitDefEqProofs only [State.fanCfgWrite, fanLoopReset_pending, overrides_pending, apply_ite pending,
    ite_self]

theorem ctlEffect_pending (s : State) (req a : Nat) (old v : Word) : (s.ctlEffect req a old v).pending = s.pending := by
  unfold State.ctlEffect
  repeat' split
  all_goals simp -implicitDefEqProofs only [coefWrite_pending, modeRequest_pending, valveEffect_pending,
    bankEffect_pending, fanCfgWrite_pending, aoIdle_pending, pulseStart_pending]

theorem dataEffect_pending (s : State) (a : Nat) (old v : Word) : (s.dataEffect a old v).pending = s.pending := by
  unfold State.dataEffect
  repeat' split
  all_goals simp -implicitDefEqProofs only [cupCtrl_pending, portEnable_pending, portReenum_pending, portCycle_pending,
    portIdentify_pending, hostGo_pending, fieldChange_pending, bodyHold_pending, bodyResume_pending,
    infCfgWrite_pending]

theorem effect_pending (s : State) (req a : Nat) (old v : Word) : (s.effect req a old v).pending = s.pending := by
  rw [State.effect]
  split <;> simp -implicitDefEqProofs only [mgmtEffect_pending, aonEffect_pending, ctlEffect_pending,
    dataEffect_pending]

theorem writeCore_pending (s : State) (req a : Nat) (v : Word) : (s.writeCore req a v).pending = s.pending := by
  simp -implicitDefEqProofs only [State.writeCore, violate_pending, store_pending, effect_pending, apply_ite pending,
    ite_self]

theorem setArm_pending (s : State) (d : Bool) (l : List LeatReq) : (s.setArm d l).pending = s.pending := rfl

theorem enqueue_pending (s : State) (r : LeatReq) : (s.enqueue r).pending = s.pending := by
  rw [enqueue]
  dsimp only
  split
  · exact setArm_pending ..
  · rfl

theorem unhold_pending (s : State) (d : Bool) : (s.unhold d).pending = s.pending := by
  rw [unhold]
  split
  · split
    · exact setArm_pending ..
    · rfl
  · rfl

theorem deliver_pending (s : State) (d : Bool) : (s.deliver d).pending = s.pending := by
  rw [deliver]
  split
  · rfl
  · split
    · rfl
    · dsimp only
      split
      · rw [writeCore_pending, unhold_pending, setArm_pending]
      · exact (readAt_pending ..).trans ((unhold_pending ..).trans (setArm_pending ..))

theorem drain_pending (s : State) (d : Bool) : (s.drain d).pending = s.pending := by
  simp -implicitDefEqProofs only [State.drain, deliver_pending, foldl_pending, implies_true]

theorem txnGot_pending (s : State) (id idx : Nat) (w : Word) : (s.txnGot id idx w).pending = s.pending := by
  simp -implicitDefEqProofs only [State.txnGot]

theorem issueRead_pending (s : State) (req a txn idx : Nat) : (s.issueRead req a txn idx).pending = s.pending := by
  simp -implicitDefEqProofs only [State.issueRead, enqueue_pending, readAt_pending, txnGot_pending, apply_ite pending,
    ite_self]

theorem txnStart_pending (s : State) (req : Nat) (kind : TxnKind) (addrs : List Nat) (shape : List (Nat × Bool)) :
    (s.txnStart req kind addrs shape).1.pending = s.pending := by
  simp -implicitDefEqProofs only [State.txnStart, issueRead_pending, foldl_pending, implies_true]

theorem readVia_pending (s : State) (req a : Nat) : (s.readVia req a).pending = s.pending := by
  simp -implicitDefEqProofs only [State.readVia, txnStart_pending, readAt_pending, send_pending, apply_ite pending,
    ite_self]

/-! #### Caddy file -/

theorem flashProg_pending (s : State) (a : Nat) (b : Byte) : (s.flashProg a b).pending = s.pending := by
  simp -implicitDefEqProofs only [State.flashProg]

theorem flashErase_pending (s : State) (a : Nat) : (s.flashErase a).pending = s.pending := by
  simp -implicitDefEqProofs only [State.flashErase]

theorem flashFacts_pending (s : State) (octal : Bool) (badA badB : Nat) :
    (s.flashFacts octal badA badB).pending = s.pending := by
  simp -implicitDefEqProofs only [State.flashFacts]

theorem keyRecord_pending (s : State) (n reason : Nat) : (s.keyRecord n reason).pending = s.pending := by
  simp -implicitDefEqProofs only [State.keyRecord, ev_pending, apply_ite pending, ite_self]

theorem slotShow_pending (s : State) (n reason : Nat) : (s.slotShow n reason).pending = s.pending := by
  simp -implicitDefEqProofs only [State.slotShow, setReg_pending, put_pending, putB_pending, keyRecord_pending,
    apply_ite pending, ite_self]

theorem headCheck_pending (s : State) (n : Nat) : (s.headCheck n).pending = s.pending := by
  simp -implicitDefEqProofs only [State.headCheck, slotShow_pending]

theorem slotCheck_pending (s : State) (n : Nat) : (s.slotCheck n).pending = s.pending := by
  simp -implicitDefEqProofs only [State.slotCheck, slotShow_pending]

/-! #### Caddy sections -/

theorem must_pending (s : State) (ok : Bool) : (s.must ok).pending = s.pending := by
  simp -implicitDefEqProofs only [State.must, violate_pending, apply_ite pending, ite_self]

theorem loaderWrite_pending (s : State) (a : Nat) (w : Word) : (s.loaderWrite a w).pending = s.pending := by
  rw [State.loaderWrite]
  split <;> simp -implicitDefEqProofs only [setChan_pending, violate_pending, setFan_pending, writeCore_pending,
    apply_ite pending, ite_self]

theorem putControl_pending (s : State) (l : List (Nat × Word)) : (s.putControl l).pending = s.pending := by
  simp -implicitDefEqProofs only [State.putControl, loaderWrite_pending, fanTablesLoad_pending, each_pending,
    implies_true]

theorem putImage_pending (s : State) (allowed : Nat → Bool) (l : List (Nat × Word)) :
    (s.putImage allowed l).pending = s.pending := by
  simp -implicitDefEqProofs only [State.putImage, loaderWrite_pending, violate_pending, each_pending,
    apply_ite pending, ite_self, implies_true]

theorem putCrops_pending (s : State) (b : List Byte) : (s.putCrops b).pending = s.pending := by
  simp -implicitDefEqProofs only [State.putCrops, violate_pending, setReg_pending, apply_ite pending, ite_self]

theorem dropCrops_pending (s : State) : s.dropCrops.pending = s.pending := by
  simp -implicitDefEqProofs only [State.dropCrops, setReg_pending]

theorem geometryRegs_pending (s : State) (k base : Nat) (g : Geometry) :
    (s.geometryRegs k base g).pending = s.pending := by
  simp -implicitDefEqProofs only [State.geometryRegs, setReg_pending, put_pending]

theorem workDrop_pending (s : State) (k : Nat) : (s.workDrop k).pending = s.pending := by
  simp -implicitDefEqProofs only [State.workDrop]

theorem putGeometry_pending (s : State) (boot : Bool) (k : Nat) (b digest : List Byte) :
    (s.putGeometry boot k b digest).pending = s.pending := by
  unfold putGeometry
  dsimp only
  split
  · rw [workDrop_pending, setBody_pending, setBody_pending, geometryRegs_pending]
  · exact violate_pending ..

theorem dropGeometry_pending (s : State) (k : Nat) : (s.dropGeometry k).pending = s.pending := by
  simp -implicitDefEqProofs only [State.dropGeometry, setReg_pending, setBst_pending, put_pending, workDrop_pending,
    publish_pending, setBody_pending, each_pending, implies_true]

theorem putMicrocode_pending (s : State) (inst version : Nat) : (s.putMicrocode inst version).pending = s.pending := by
  simp -implicitDefEqProofs only [State.putMicrocode, violate_pending, apply_ite pending, ite_self]

theorem dropMicrocode_pending (s : State) (inst : Nat) : (s.dropMicrocode inst).pending = s.pending := by
  simp -implicitDefEqProofs only [State.dropMicrocode]

theorem anchorCells_pending (s : State) (k : Nat) : (s.anchorCells k).pending = s.pending := by
  simp -implicitDefEqProofs only [State.anchorCells, setBody_pending]

theorem staleEntries_pending (s : State) (old : List Pub) : (s.staleEntries old).pending = s.pending := by
  simp -implicitDefEqProofs only [State.staleEntries, publish_pending, each_pending, implies_true]

theorem boundsChanged_pending (s : State) (old : List AirBound) : (s.boundsChanged old).pending = s.pending := by
  simp -implicitDefEqProofs only [State.boundsChanged, solveWant_pending, each_pending, implies_true]

theorem putSensorMap_pending (s : State) (boot : Bool) (b : List Byte) :
    (s.putSensorMap boot b).pending = s.pending := by
  simp -implicitDefEqProofs only [State.putSensorMap, violate_pending, putImage_pending, put_pending,
    anchorCells_pending, setBody_pending, staleEntries_pending, sprinRemap_pending, boundsChanged_pending,
    each_pending, apply_ite pending, ite_self, implies_true]

theorem putSlot_pending (s : State) (n : Nat) (b : List Byte) : (s.putSlot n b).pending = s.pending := by
  rw [State.putSlot]
  split <;> simp -implicitDefEqProofs only [violate_pending, writeCore_pending, each_pending, implies_true]

theorem openForSwap_pending (s : State) (n : Nat) : (s.openForSwap n).pending = s.pending := by
  rw [openForSwap]
  split
  · rfl
  · rw [modeRequest_pending, setSlot_pending]

theorem swapSlot_pending (s : State) (n : Nat) (b : List Byte) : (s.swapSlot n b).pending = s.pending := by
  simp -implicitDefEqProofs only [State.swapSlot, putSlot_pending, idleTarget_pending, setSlot_pending,
    noRequest_pending, enterMode_pending, each_pending, apply_ite pending, ite_self, implies_true]

theorem dropSlot_pending (s : State) (n : Nat) : (s.dropSlot n).pending = s.pending := by
  simp -implicitDefEqProofs only [State.dropSlot, govRemove_pending, putB_pending]

theorem putDisplay_pending (s : State) (b : List Byte) : (s.putDisplay b).pending = s.pending := by
  simp -implicitDefEqProofs only [State.putDisplay, violate_pending, putImage_pending, must_pending, apply_ite pending,
    ite_self]

theorem dropDisplay_pending (s : State) : s.dropDisplay.pending = s.pending := by
  simp -implicitDefEqProofs only [State.dropDisplay, putB_pending]

theorem putNet_pending (s : State) (x : Config.NetSection) : (s.putNet x).pending = s.pending := by
  simp -implicitDefEqProofs only [State.putNet, putImage_pending, must_pending]

theorem putSection_pending (s : State) (boot : Bool) (x : Section) (b : List Byte) :
    (s.putSection boot x b).pending = s.pending := by
  simp -implicitDefEqProofs only [State.putSection, violate_pending, putControl_pending, putMicrocode_pending,
    putCrops_pending, putGeometry_pending, putSensorMap_pending, putSlot_pending, putDisplay_pending, putNet_pending,
    apply_ite pending, ite_self]

/-! #### Caddy loader and swaps -/

theorem ctlDataClear_pending (s : State) : s.ctlDataClear.pending = s.pending := by
  simp -implicitDefEqProofs only [State.ctlDataClear]

theorem reissue_pending {write : State → Nat → Nat → Word → State}
    (hw : ∀ t r a v, (write t r a v).pending = t.pending) (s : State) (r : LeatReq) :
    (s.reissue write r).pending = s.pending := by
  rw [reissue]
  split
  · exact enqueue_pending ..
  · split <;> simp -implicitDefEqProofs only [hw, txnGot_pending, readAt_pending]

theorem releaseHeld_pending {write : State → Nat → Nat → Word → State}
    (hw : ∀ t r a v, (write t r a v).pending = t.pending) (s : State) : (s.releaseHeld write).pending = s.pending :=
  foldl_pending (fun t r => reissue_pending hw t r) _ _

theorem enterBare_pending (s : State) (reason : Nat) : (s.enterBare reason).pending = s.pending := by
  simp -implicitDefEqProofs only [State.enterBare, ctlDataClear_pending, putB_pending, put_pending, ev_pending,
    netStart_pending]

theorem firstPass_pending (s : State) (n : Nat) (fallback : Bool) : (s.firstPass n fallback).pending = s.pending := by
  simp -implicitDefEqProofs only [State.firstPass]

theorem chooseSlot_pending (s : State) : s.chooseSlot.pending = s.pending := by
  simp -implicitDefEqProofs only [State.chooseSlot, enterBare_pending, ev_pending, firstPass_pending,
    apply_ite pending, ite_self]

theorem loaderHeads_pending (s : State) : s.loaderHeads.pending = s.pending := by
  simp -implicitDefEqProofs only [State.loaderHeads, ev_pending, headCheck_pending, apply_ite pending, ite_self]

theorem loaderStart_pending (s : State) : s.loaderStart.pending = s.pending := by
  simp -implicitDefEqProofs only [State.loaderStart, loaderHeads_pending, enterBare_pending, chooseSlot_pending,
    apply_ite pending, ite_self]

theorem loadFail_pending (s : State) (reason : Nat) : (s.loadFail reason).pending = s.pending := by
  simp -implicitDefEqProofs only [State.loadFail, slotShow_pending, ctlDataClear_pending, ev_pending,
    firstPass_pending, enterBare_pending, apply_ite pending, ite_self]

theorem firstPassDone_pending (s : State) (readErr : Bool) : (s.firstPassDone readErr).pending = s.pending := by
  simp -implicitDefEqProofs only [State.firstPassDone, loadFail_pending, apply_ite pending, ite_self]

theorem bareLeft_pending (s : State) : s.bareLeft.pending = s.pending := by
  simp -implicitDefEqProofs only [State.bareLeft, ip4Off_pending, put_pending]

theorem loadSections_pending (n : Nat) (l : List Section) (s : State) : (loadSections n l s).1.pending = s.pending := by
  induction l generalizing s with
  | nil => rfl
  | cons x l ih =>
    rw [loadSections]
    split
    · rfl
    · dsimp only
      split <;> simp -implicitDefEqProofs only [ih, putSection_pending]

theorem loadDone_pending {write : State → Nat → Nat → Word → State}
    (hw : ∀ t r a v, (write t r a v).pending = t.pending) (s : State) (ms : Nat) :
    (s.loadDone ms write).pending = s.pending := by
  simp -implicitDefEqProofs only [loadDone, releaseHeld_pending hw, netStart_pending, ptpSet_pending, timeMark_pending,
    displayAssets_pending,
    bareLeft_pending, each_pending, bodyStart_pending, snapRestore_pending, millShow_pending, govBoot_pending,
    aoStart_pending, ev_pending, put_pending, putB_pending, apply_ite pending, ite_self, implies_true]

theorem secondPassDone_pending {write : State → Nat → Nat → Word → State}
    (hw : ∀ t r a v, (write t r a v).pending = t.pending) (s : State) (altered readErr : Bool) (ms : Nat) :
    (s.secondPassDone altered readErr ms write).pending = s.pending := by
  simp -implicitDefEqProofs only [secondPassDone, loadDone_pending hw, loadFail_pending, violate_pending,
    loadSections_pending,
    apply_ite pending, ite_self]

theorem startReports_pending (s : State) : s.startReports.pending = s.pending := by
  rw [State.startReports]
  split <;> simp -implicitDefEqProofs only [aev_pending, ev_pending, each_pending, apply_ite pending, ite_self,
    implies_true]

theorem planeRelease_pending (s : State) (octal : Bool) (badA badB : Nat) (repaired : List Nat) :
    (s.planeRelease octal badA badB repaired).pending = s.pending := by
  simp -implicitDefEqProofs only [State.planeRelease, send_pending, setReg_pending, zoneSummary_pending,
    recorderStart_pending, stripStart_pending, hardRepair_pending, startReports_pending, flashFacts_pending,
    loaderStart_pending, apply_ite pending, ite_self]

theorem pauseBody_pending (s : State) (k : Nat) : (s.pauseBody k).pending = s.pending := by
  simp -implicitDefEqProofs only [State.pauseBody, bodyPaused_pending, setBody_pending, apply_ite pending, ite_self]

theorem applySection_pending (s : State) (old n : Nat) (p : Nat × Nat) :
    (s.applySection old n p).pending = s.pending := by
  unfold State.applySection
  dsimp only
  repeat' split
  all_goals simp -implicitDefEqProofs only [swapSlot_pending, violate_pending, putSection_pending, govAdd_pending,
    displayAssets_pending, bodyStart_pending, dropMicrocode_pending, dropCrops_pending, dropGeometry_pending,
    dropSlot_pending, dropDisplay_pending]

theorem setSwap_pending (s : State) (w : Swap) : (s.setSwap w).pending = s.pending := by
  simp -implicitDefEqProofs only [State.setSwap, put_pending, apply_ite pending, ite_self]

theorem drainFor_pending (s : State) (ty : Nat) : (s.drainFor ty).pending = s.pending := by
  rw [State.drainFor]
  split <;> simp -implicitDefEqProofs only [drain_pending]

theorem heldAgain_pending (s : State) (k : Nat) (fresh : Bool) : (s.heldAgain k fresh).pending = s.pending := by
  simp -implicitDefEqProofs only [State.heldAgain, stage_pending, setBst_pending, apply_ite pending, ite_self]

theorem bodyGoOn_pending (s : State) (k : Nat) (fresh : Option Grid) : (s.bodyGoOn k fresh).pending = s.pending := by
  unfold State.bodyGoOn
  dsimp only
  repeat' split
  all_goals simp -implicitDefEqProofs only [resumeFrom_pending, anchorCells_pending, heldAgain_pending,
    bodyNext_pending, resumeStaged_pending, stepThrough_pending]

theorem swapEnd_pending (s : State) (st : Nat) : (s.swapEnd st).pending = s.pending := by
  simp -implicitDefEqProofs only [State.swapEnd, put_pending, putB_pending, busyShow_pending]

theorem swapDone_pending (s : State) (w : Swap) : (s.swapDone w).pending = s.pending := by
  simp -implicitDefEqProofs only [State.swapDone, put_pending, putB_pending, ev_pending, swapEnd_pending]

theorem swapAborted_pending (s : State) (w : Swap) (bad : Nat × Nat) : (s.swapAborted w bad).pending = s.pending := by
  simp -implicitDefEqProofs only [State.swapAborted, flashProg_pending, setReg_pending, ev_pending, put_pending,
    swapEnd_pending, each_pending, implies_true]

theorem swapApply_pending (w : Swap) (l done : List (Nat × Nat)) (s : State) :
    (swapApply w l done s).state.pending = s.pending := by
  induction l generalizing done s with
  | nil => rfl
  | cons p l ih =>
    rw [swapApply]
    dsimp only
    split
    · rfl
    · split
      · exact drainFor_pending ..
      · split
        · simp -implicitDefEqProofs only [openForSwap_pending, drainFor_pending]
        · split <;> simp -implicitDefEqProofs only [ih, applySection_pending, drainFor_pending]

theorem swapRest_pending (s : State) (w : Swap) : (s.swapRest w).1.pending = s.pending := by
  unfold State.swapRest
  dsimp only
  repeat' split
  all_goals simp -implicitDefEqProofs only [swapApply_pending, setSwap_pending, fwRestart_pending, swapAborted_pending,
    violate_pending, swapDone_pending, put_pending]

theorem swapNext1_pending (s : State) : (s.swapNext1).1.pending = s.pending := by
  unfold State.swapNext1
  dsimp only
  repeat' split
  all_goals simp -implicitDefEqProofs only [pauseBody_pending, swapRest_pending]

theorem swapWrite1_pending (s : State) : (s.swapWrite1).1.pending = s.pending := by
  unfold State.swapWrite1
  dsimp only
  repeat' split
  all_goals simp -implicitDefEqProofs only [swapApply_pending, millShow_pending, setSwap_pending, violate_pending]

theorem swapAbort_pending (s : State) (p : Nat × Nat) : (s.swapAbort p).pending = s.pending := by
  rw [State.swapAbort]
  split <;> simp -implicitDefEqProofs only [pauseBody_pending, each_pending, implies_true]

theorem swapStep_pending (s : State) :
    (if s.swapWrite1.2.isSome then s.swapWrite1 else s.swapWrite1.1.swapNext1).1.pending = s.pending := by
  split
  · exact swapWrite1_pending s
  · rw [swapNext1_pending, swapWrite1_pending]

theorem swapGo_pending (s : State) : s.swapGo.pending = s.pending := by
  unfold swapGo
  extract_lets step r
  have hr : r.1.pending = s.pending := swapStep_pending s
  split
  · exact (swapStep_pending _).trans ((swapAbort_pending ..).trans hr)
  · exact hr

theorem swapResume_pending (s : State) (k : Nat) : (s.swapResume k).pending = s.pending := by
  unfold State.swapResume
  dsimp only
  repeat' split
  all_goals simp -implicitDefEqProofs only [swapGo_pending, bodyGoOn_pending]

theorem swapStart_pending (s : State) (n : Nat) : (s.swapStart n).pending = s.pending := by
  simp -implicitDefEqProofs only [State.swapStart, put_pending, busyShow_pending, ev_pending, pauseBody_pending,
    swapGo_pending, each_pending, implies_true]

theorem swapRefuse_pending (s : State) (reason : Nat) : (s.swapRefuse reason).pending = s.pending := by
  simp -implicitDefEqProofs only [State.swapRefuse, put_pending, putB_pending]

theorem swapCmd_pending (s : State) : s.swapCmd.pending = s.pending := by
  rw [State.swapCmd]
  split <;> simp -implicitDefEqProofs only [loaderHeads_pending, chooseSlot_pending, swapStart_pending, put_pending,
    slotCheck_pending, swapRefuse_pending, apply_ite pending, ite_self]

theorem writeNow_pending (s : State) (req a : Nat) (v : Word) : (s.writeNow req a v).pending = s.pending := by
  simp -implicitDefEqProofs only [State.writeNow, writeCore_pending, swapCmd_pending, apply_ite pending, ite_self]

theorem writeAt_pending (s : State) (req a : Nat) (v : Word) : (s.writeAt req a v).pending = s.pending := by
  simp -implicitDefEqProofs only [State.writeAt, enqueue_pending, writeNow_pending, apply_ite pending, ite_self]

theorem issueWrite_pending (s : State) (req a : Nat) (v : Word) : (s.issueWrite req a v).pending = s.pending := by
  simp -implicitDefEqProofs only [State.issueWrite, enqueue_pending, writeAt_pending, apply_ite pending, ite_self]

/-! #### Modbus and host SPI -/

theorem mbSend_pending (s : State) (conn : Nat) (hdr pdu : List Byte) :
    (s.mbSend conn hdr pdu).pending = s.pending := by
  simp -implicitDefEqProofs only [State.mbSend, send_pending, apply_ite pending, ite_self]

theorem mbReads_pending (s : State) (conn : Nat) (hdr : List Byte) (fc : Nat) (l : List MbReg) :
    (s.mbReads conn hdr fc l).pending = s.pending := by
  simp -implicitDefEqProofs only [State.mbReads, txnStart_pending]

theorem mbIssue_pending (s : State) (l : List (Nat × Word)) : (s.mbIssue l).pending = s.pending := by
  simp -implicitDefEqProofs only [State.mbIssue, issueWrite_pending, each_pending, implies_true]

theorem mbServe_pending (s : State) (conn : Nat) (adu : List Byte) : (s.mbServe conn adu).pending = s.pending := by
  unfold State.mbServe
  dsimp only
  repeat' split
  all_goals simp -implicitDefEqProofs only [inc_pending, mbSend_pending, mbReads_pending, mbIssue_pending]

theorem txnDrop_pending (s : State) (t : Txn) : (s.txnDrop t).pending = s.pending := by
  simp -implicitDefEqProofs only [State.txnDrop]

theorem mbFinish_pending (s : State) (t : Txn) : (s.mbFinish t).pending = s.pending := by
  rw [State.mbFinish]
  split <;> simp -implicitDefEqProofs only [txnDrop_pending, mbSend_pending]

theorem mbPump_pending (n : Nat) (s : State) : (mbPump n s).pending = s.pending := by
  induction n generalizing s with
  | zero => rfl
  | succ n ih =>
    rw [mbPump]
    split
    · simp -implicitDefEqProofs only [ih, mbFinish_pending]
    · split
      · rfl
      · split
        · rfl
        · simp -implicitDefEqProofs only [ih, mbServe_pending]

theorem txnEnd_pending (s : State) (t : Txn) : (s.txnEnd t).pending = s.pending := by
  rw [State.txnEnd]
  split <;> simp -implicitDefEqProofs only [txnDrop_pending, kmpReply_pending, send_pending, each_pending, implies_true]

theorem readsSettle_pending (s : State) : s.readsSettle.pending = s.pending := by
  simp -implicitDefEqProofs only [State.readsSettle, txnEnd_pending, mbPump_pending, each_pending, apply_ite pending,
    ite_self, implies_true]

theorem readReply_pending (s : State) : s.readReply.pending = s.pending := by
  rw [State.readReply]
  split <;> simp -implicitDefEqProofs only [readsSettle_pending, txnGot_pending]

theorem mbConnect_pending (s : State) (conn src : Nat) : (s.mbConnect conn src).pending = s.pending := by
  rw [mbConnect]
  split
  · rfl
  · split
    · dsimp only
      split <;> rfl
    · simp -implicitDefEqProofs only [nev_pending, send_pending]

theorem mbIdle_pending (s : State) (conn : Nat) : (s.mbIdle conn).pending = s.pending := by
  simp -implicitDefEqProofs only [State.mbIdle, setConns_pending, send_pending, apply_ite pending, ite_self]

theorem mbRequest_pending (s : State) (own conn : Nat) (adu : List Byte) :
    (s.mbRequest own conn adu).pending = s.pending := by
  simp -implicitDefEqProofs only [State.mbRequest, readsSettle_pending, apply_ite pending, ite_self]

theorem hspiDeliver_pending (s : State) : s.hspiDeliver.pending = s.pending := by
  rw [State.hspiDeliver]
  split <;> simp -implicitDefEqProofs only [send_pending]

theorem hspiFrame_pending {run : State → State} (hr : ∀ t, (run t).pending = t.pending) (s : State) (own : Nat)
    (cmd : Word) (clocks : Nat) : (s.hspiFrame own cmd clocks run).pending = s.pending := by
  simp -implicitDefEqProofs only [hspiFrame, send_pending, inc_pending, hr, hspiDeliver_pending, apply_ite pending,
    ite_self]

theorem hspiRead_pending (s : State) (cmd : Word) : (s.hspiRead cmd).pending = s.pending := by
  simp -implicitDefEqProofs only [State.hspiRead, inc_pending, txnStart_pending, readsSettle_pending,
    apply_ite pending, ite_self]

/-! #### KMP -/

theorem kmpRun_pending {run : State → Nat → Kmp → State} (hr : ∀ t n m, (run t n m).pending = t.pending) (s : State)
    (src : Nat) (dg : List Byte) (mine operate : Kmp → Bool) (bareOk : Bool) :
    (s.kmpRun src dg mine operate bareOk run).pending = s.pending := by
  rw [kmpRun]
  split
  · rfl
  · split <;> simp -implicitDefEqProofs only [hr, kmpTagFail_pending, kmpReply_pending, inc_pending,
    setSession_pending, apply_ite pending, ite_self]

theorem kmpOp_pending {run : State → Nat → Kmp → State} (hr : ∀ t n m, (run t n m).pending = t.pending) (s : State)
    (src : Nat) (dg : List Byte) (op : Nat) (operate bareOk : Bool) :
    (s.kmpOp src dg op operate bareOk run).pending = s.pending := kmpRun_pending hr s src dg _ _ bareOk

theorem kmpDone_pending (s : State) (n : Nat) (m : Kmp) : (s.kmpDone n m).pending = s.pending := by
  simp -implicitDefEqProofs only [State.kmpDone, kmpReply_pending]

theorem kmpBad_pending (s : State) (n : Nat) (m : Kmp) : (s.kmpBad n m).pending = s.pending := by
  simp -implicitDefEqProofs only [State.kmpBad, kmpReply_pending]

theorem kmpRefuse_pending (s : State) (n : Nat) (m : Kmp) (reason : Nat) :
    (s.kmpRefuse n m reason).pending = s.pending := by
  simp -implicitDefEqProofs only [State.kmpRefuse, kmpReply_pending]

theorem kmpWelcome_pending (s : State) (psk : List Byte) (status : Nat) (body : List Byte) :
    (s.kmpWelcome psk status body).pending = s.pending := by
  simp -implicitDefEqProofs only [State.kmpWelcome, took_pending, send_pending]

theorem helloRun_pending (s : State) (src key : Nat) (psk : List Byte) (operate : Bool) (m : Kmp) :
    (s.helloRun src key psk operate m).pending = s.pending := by
  unfold State.helloRun
  dsimp only
  repeat' split
  all_goals simp -implicitDefEqProofs only [kmpWelcome_pending, took_pending, openSession_pending]

theorem hello_pending (s : State) (src : Nat) (dg : List Byte) : (s.hello src dg).pending = s.pending := by
  unfold State.hello
  dsimp only
  repeat' split
  all_goals simp -implicitDefEqProofs only [kmpTagFail_pending, kmpReply_pending, helloRun_pending]

theorem bye_pending (s : State) (n : Nat) (m : Kmp) : (s.bye n m).pending = s.pending := by
  rw [bye]
  split <;> simp -implicitDefEqProofs only [kmpBad_pending, closeSession_pending, kmpDone_pending]

theorem pendingEnd_pending (s : State) (n : Nat) : (s.pendingEnd n).pending = s.pending := by
  simp -implicitDefEqProofs only [State.pendingEnd, closeSession_pending, apply_ite pending, ite_self]

theorem idleEnd_pending (s : State) (n : Nat) : (s.idleEnd n).pending = s.pending := by
  simp -implicitDefEqProofs only [State.idleEnd, closeSession_pending, apply_ite pending, ite_self]

theorem kmpReads_pending (s : State) (n : Nat) (m : Kmp) (addrs : List Nat) :
    (s.kmpReads n m addrs).pending = s.pending := by
  simp -implicitDefEqProofs only [State.kmpReads, txnStart_pending, readsSettle_pending]

theorem kmpRead_pending (s : State) (n : Nat) (m : Kmp) : (s.kmpRead n m).pending = s.pending := by
  simp -implicitDefEqProofs only [State.kmpRead, kmpBad_pending, kmpReads_pending, apply_ite pending, ite_self]

theorem kmpBlockRead_pending (s : State) (n : Nat) (m : Kmp) : (s.kmpBlockRead n m).pending = s.pending := by
  simp -implicitDefEqProofs only [State.kmpBlockRead, kmpBad_pending, kmpReads_pending, apply_ite pending, ite_self]

theorem kmpWrite_pending (s : State) (n : Nat) (m : Kmp) : (s.kmpWrite n m).pending = s.pending := by
  simp -implicitDefEqProofs only [State.kmpWrite, kmpBad_pending, issueWrite_pending, kmpDone_pending, each_pending,
    apply_ite pending, ite_self, implies_true]

theorem kmpLogRead_pending (s : State) (bad : List (Nat × Nat)) (n : Nat) (m : Kmp) :
    (State.kmpLogRead bad s n m).pending = s.pending := by
  simp -implicitDefEqProofs only [State.kmpLogRead, kmpBad_pending, kmpReply_pending, logBad_pending,
    apply_ite pending, ite_self]

theorem kmpFreeze_pending (s : State) (n : Nat) (m : Kmp) : (s.kmpFreeze n m).pending = s.pending := by
  simp -implicitDefEqProofs only [State.kmpFreeze, issueWrite_pending, kmpDone_pending, kmpBad_pending,
    apply_ite pending, ite_self]

theorem kmpBeat_pending (s : State) (n : Nat) (m : Kmp) : (s.kmpBeat n m).pending = s.pending := by
  simp -implicitDefEqProofs only [State.kmpBeat, kmpBad_pending, heartbeat_pending, kmpDone_pending, apply_ite pending,
    ite_self]

theorem kmpSetTime_pending (s : State) (n : Nat) (m : Kmp) : (s.kmpSetTime n m).pending = s.pending := by
  simp -implicitDefEqProofs only [State.kmpSetTime, kmpBad_pending, kmpRefuse_pending, timeSet_pending,
    kmpDone_pending, apply_ite pending, ite_self]

theorem setXfer_pending (s : State) (x : Xfer) : (s.setXfer x).pending = s.pending := by
  simp -implicitDefEqProofs only [State.setXfer]

theorem xferAdd_pending (s : State) (x : Xfer) : (s.xferAdd x).pending = s.pending := by
  simp -implicitDefEqProofs only [State.xferAdd]

theorem outDone_pending (s : State) (x : Xfer) : (s.outDone x).pending = s.pending := by
  simp -implicitDefEqProofs only [State.outDone, xferDrop_pending, kmpReply_pending, apply_ite pending, ite_self]

theorem kmpCupRead_pending (s : State) (n : Nat) (m : Kmp) : (s.kmpCupRead n m).pending = s.pending := by
  simp -implicitDefEqProofs only [State.kmpCupRead, kmpBad_pending, kmpReply_pending, xferAdd_pending, outDone_pending,
    apply_ite pending, ite_self]

theorem bulkSend_pending (s : State) (i : Nat) : (s.bulkSend i).pending = s.pending := by
  rw [State.bulkSend]
  split <;> simp -implicitDefEqProofs only [setXfer_pending, kmpSend_pending, apply_ite pending, ite_self]

theorem bulkAck_pending (s : State) (n : Nat) (m : Kmp) : (s.bulkAck n m).pending = s.pending := by
  rw [State.bulkAck]
  split <;> simp -implicitDefEqProofs only [setXfer_pending, outDone_pending, apply_ite pending, ite_self]

theorem bulkResend_pending (s : State) (i : Nat) : (s.bulkResend i).pending = s.pending := by
  rw [State.bulkResend]
  split <;> simp -implicitDefEqProofs only [setXfer_pending, apply_ite pending, ite_self]

theorem ackSend_pending (s : State) (x : Xfer) : (s.ackSend x).pending = s.pending := by
  simp -implicitDefEqProofs only [State.ackSend, setXfer_pending, kmpSend_pending]

theorem bulkAckTimer_pending (s : State) (i : Nat) : (s.bulkAckTimer i).pending = s.pending := by
  rw [State.bulkAckTimer]
  split <;> simp -implicitDefEqProofs only [ackSend_pending, apply_ite pending, ite_self]

theorem bulkAbandon_pending (s : State) (i : Nat) : (s.bulkAbandon i).pending = s.pending := by
  rw [State.bulkAbandon]
  split <;> simp -implicitDefEqProofs only [xferDrop_pending, kmpReply_pending, apply_ite pending, ite_self]

theorem kmpCaddyWrite_pending (s : State) (n : Nat) (m : Kmp) : (s.kmpCaddyWrite n m).pending = s.pending := by
  simp -implicitDefEqProofs only [State.kmpCaddyWrite, kmpBad_pending, kmpRefuse_pending, kmpReply_pending,
    busyShow_pending, setReg_pending, xferAdd_pending, apply_ite pending, ite_self]

theorem caddyProgram_pending (s : State) (slot off : Nat) (l : List Byte) :
    (s.caddyProgram slot off l).pending = s.pending := by
  simp -implicitDefEqProofs only [State.caddyProgram, flashErase_pending, flashProg_pending, each_pending,
    apply_ite pending, ite_self, implies_true]

theorem noteBad_pending (s : State) (bad : Nat) : (s.noteBad bad).pending = s.pending := by
  refine each_pending (fun t x => ?_) _ _
  split <;> rfl

theorem caddyEnd_pending (s : State) (x : Xfer) (slot : Nat) (swap : Bool) :
    (s.caddyEnd x slot swap).pending = s.pending := by
  simp -implicitDefEqProofs only [State.caddyEnd, xferDrop_pending, slotCheck_pending, kmpReply_pending,
    writeAt_pending, apply_ite pending, ite_self]

theorem kmpExport_pending (s : State) (n : Nat) (m : Kmp) : (s.kmpExport n m).pending = s.pending := by
  simp -implicitDefEqProofs only [State.kmpExport, kmpBad_pending, kmpReply_pending, setBody_pending, tookN_pending,
    xferAdd_pending, each_pending, apply_ite pending, ite_self, implies_true]

theorem kmpImport_pending (s : State) (n : Nat) (m : Kmp) : (s.kmpImport n m).pending = s.pending := by
  simp -implicitDefEqProofs only [State.kmpImport, kmpBad_pending, kmpReply_pending, xferAdd_pending,
    apply_ite pending, ite_self]

theorem importBody_pending (s : State) (f : List Byte) (k : Nat) : (s.importBody f k).pending = s.pending := by
  simp -implicitDefEqProofs only [State.importBody, setBody_pending, anchorCells_pending, readInputs_pending,
    setBst_pending, bodyPublish_pending, solveWant_pending, heldAgain_pending, bodyNext_pending, mev_pending]

theorem importSettle_pending (s : State) : s.importSettle.pending = s.pending := by
  refine each_pending (fun t x => ?_) _ _
  split
  · dsimp only
    split
    · rw [swapGo_pending, kmpReply_pending, each_pending fun v j => importBody_pending ..]
    · rfl
  · rfl

theorem importEnd_pending (s : State) (x : Xfer) (k : Nat) : (s.importEnd x k).pending = s.pending := by
  simp -implicitDefEqProofs only [State.importEnd, xferDrop_pending, kmpReply_pending, mev_pending, setXfer_pending,
    pauseBody_pending, importSettle_pending, each_pending, apply_ite pending, ite_self, implies_true]

theorem bulkTake_pending (s : State) (x : Xfer) (l : List Byte) : (s.bulkTake x l).pending = s.pending := by
  rw [State.bulkTake]
  split <;> simp -implicitDefEqProofs only [caddyProgram_pending, setXfer_pending, caddyEnd_pending, ackSend_pending,
    importEnd_pending, apply_ite pending, ite_self]

theorem bulkData_pending (s : State) (n : Nat) (m : Kmp) : (s.bulkData n m).pending = s.pending := by
  rw [State.bulkData]
  split <;> simp -implicitDefEqProofs only [bulkTake_pending, ackSend_pending, setXfer_pending, apply_ite pending,
    ite_self]

/-! #### Modbus client -/

theorem setClient_pending (s : State) (m : Nat) (c : Client) : (s.setClient m c).pending = s.pending := by
  simp -implicitDefEqProofs only [State.setClient]

theorem clientDown_pending (s : State) (m : Nat) : (s.clientDown m).pending = s.pending := by
  simp -implicitDefEqProofs only [State.clientDown, nev_pending, putB_pending, send_pending, setClient_pending,
    apply_ite pending, ite_self]

theorem pollLost_pending (s : State) (m : Nat) : (s.pollLost m).pending = s.pending := by
  simp -implicitDefEqProofs only [State.pollLost, clientDown_pending, setClient_pending, apply_ite pending, ite_self]

theorem pollNext_pending (s : State) (m : Nat) : (s.pollNext m).pending = s.pending := by
  unfold State.pollNext
  dsimp only
  repeat' split
  all_goals simp -implicitDefEqProofs only [setClient_pending, send_pending, pollLost_pending, putB_pending,
    nev_pending]

theorem clientPoll_pending (s : State) (m : Nat) : (s.clientPoll m).pending = s.pending := by
  simp -implicitDefEqProofs only [State.clientPoll, setClient_pending, pollNext_pending, apply_ite pending, ite_self]

theorem pollDue_pending (s : State) (m : Nat) : (s.pollDue m).pending = s.pending := by
  simp -implicitDefEqProofs only [State.pollDue, clientPoll_pending, apply_ite pending, ite_self]

theorem pollWent_pending (s : State) (m : Nat) (bad : Bool) : (s.pollWent m bad).pending = s.pending := by
  simp -implicitDefEqProofs only [State.pollWent, setClient_pending, incSat_pending, pollNext_pending, pollDue_pending,
    apply_ite pending, ite_self]

theorem clientResponse_pending (s : State) (m : Nat) (pdu : List Byte) :
    (s.clientResponse m pdu).pending = s.pending := by
  simp -implicitDefEqProofs only [State.clientResponse, put_pending, pollWent_pending, setReg_pending,
    apply_ite pending, ite_self]

theorem clientTimeout_pending (s : State) (m : Nat) : (s.clientTimeout m).pending = s.pending := by
  simp -implicitDefEqProofs only [State.clientTimeout, pollWent_pending, apply_ite pending, ite_self]

theorem clientLost_pending (s : State) (m : Nat) : (s.clientLost m).pending = s.pending := by
  simp -implicitDefEqProofs only [State.clientLost, clientDown_pending, apply_ite pending, ite_self]

theorem clientConnect_pending (s : State) (m : Nat) (ok : Bool) : (s.clientConnect m ok).pending = s.pending := by
  simp -implicitDefEqProofs only [State.clientConnect, send_pending, putB_pending, setClient_pending, pollLost_pending,
    apply_ite pending, ite_self]

theorem fwRestarted_pending (s : State) (ms : Nat) : (s.fwRestarted ms).pending = s.pending := by
  unfold State.fwRestarted
  dsimp only
  repeat' split
  all_goals simp -implicitDefEqProofs only [ev_pending, putB_pending, ip4Off_pending, netStart_pending,
    swapDone_pending, ptpAnnounce_pending, clientPoll_pending, readsSettle_pending, each_pending, implies_true]

/-! #### Ticks -/

theorem estSwap_pending (s : State) : s.estSwap.pending = s.pending := by
  simp -implicitDefEqProofs only [State.estSwap, setReg_pending]

theorem actPass_pending (s : State) : s.actPass.pending = s.pending := by
  simp -implicitDefEqProofs only [State.actPass, publish_pending, forward_pending, each_pending, apply_ite pending,
    ite_self, implies_true]

theorem actSwap_pending (s : State) : s.actSwap.pending = s.pending := by
  simp -implicitDefEqProofs only [State.actSwap, setReg_pending, tookN_pending, actPass_pending, solveWant_pending,
    each_pending, implies_true]

theorem checkpoint_pending (s : State) : s.checkpoint.pending = s.pending := by
  simp -implicitDefEqProofs only [State.checkpoint]

theorem estTick_pending (s : State) : s.estTick.pending = s.pending := by
  simp -implicitDefEqProofs only [State.estTick, timeTick_pending, estSwap_pending, actSwap_pending, cupCarry_pending,
    ledTick_pending, pulseUpdate_pending, checkpoint_pending, dispatch_pending, each_pending, apply_ite pending,
    ite_self, implies_true]

theorem bareServe_pending (s : State) : s.bareServe.pending = s.pending := by
  simp -implicitDefEqProofs only [State.bareServe, readsSettle_pending, releaseHeld_pending, writeAt_pending,
    apply_ite pending, ite_self, implies_true]

theorem headSector_pending (s : State) : s.headSector.pending = s.pending := by
  simp -implicitDefEqProofs only [State.headSector]

/-! ### Every command -/

/-- Every command answers a next state with the same commands waiting. -/
theorem exec_pending (c : Instr) (s : State) : ∃ t, exec c s = .next t ∧ t.pending = s.pending := by
  cases c with
  | estimateTick => exact ⟨_, rfl, estTick_pending ..⟩
  | timeBroadcast => exact ⟨_, rfl, timeBroadcast_pending ..⟩
  | setpointRequestDeliver _ => exact ⟨_, rfl, deliver_pending ..⟩
  | readReply => exact ⟨_, rfl, readReply_pending ..⟩
  | latchGroupRead _ _ => exact ⟨_, rfl, readVia_pending ..⟩
  | registerWrite _ _ _ => exact ⟨_, rfl, writeAt_pending ..⟩
  | pfiBelowThreshold => exact ⟨_, rfl, pfiLow_pending ..⟩
  | pfailAssert => exact ⟨_, rfl, pfail_pending ..⟩
  | sluiceFlushDone _ => exact ⟨_, rfl, sluiceFlushed_pending ..⟩
  | sluiceLastWordDone => exact ⟨_, rfl, sluiceWordDone_pending ..⟩
  | sluiceMarkerWritten => exact ⟨_, rfl, sluiceMarked_pending ..⟩
  | sluiceRestart => exact ⟨_, rfl, inputReturned_pending ..⟩
  | railDip _ _ => exact ⟨_, rfl, railDip_pending ..⟩
  | logicRailsGood => exact ⟨_, rfl, railsGood_pending ..⟩
  | powerOnReset _ => exact ⟨_, rfl, powerOn_pending ..⟩
  | powerStageRailChange _ _ => exact ⟨_, rfl, stageRail_pending ..⟩
  | externalReset _ => exact ⟨_, rfl, external_pending ..⟩
  | testmodeAssert => exact ⟨_, rfl, testMode_pending ..⟩
  | testRelease => exact ⟨_, rfl, testRelease_pending ..⟩
  | commandReset _ => exact ⟨_, rfl, writeAt_pending ..⟩
  | pllLocked => exact ⟨_, rfl, pllLocked_pending ..⟩
  | planeRelease _ _ _ _ => exact ⟨_, rfl, (bareServe_pending ..).trans (planeRelease_pending ..)⟩
  | pllLockLoss => exact ⟨_, rfl, pllLost_pending ..⟩
  | refLost => exact ⟨_, rfl, refLost_pending ..⟩
  | lifeCounterSave => exact ⟨_, rfl, lifeSave_pending ..⟩
  | gaugeUpdate _ => exact ⟨_, rfl, gauge_pending ..⟩
  | caddyFirstPassDone _ => exact ⟨_, rfl, (bareServe_pending ..).trans (firstPassDone_pending ..)⟩
  | caddySecondPassDone _ _ _ => exact ⟨_, rfl, (bareServe_pending ..).trans
      (secondPassDone_pending (fun _ _ _ _ => writeAt_pending ..) ..)⟩
  | keyProgram _ _ => exact ⟨_, rfl, writeAt_pending ..⟩
  | keyRevoke _ _ => exact ⟨_, rfl, writeAt_pending ..⟩
  | caddySwap _ => exact ⟨_, rfl, (bareServe_pending ..).trans ((writeAt_pending ..).trans (flashFacts_pending ..))⟩
  | bodySwapResume _ => exact ⟨_, rfl, (importSettle_pending ..).trans (swapResume_pending ..)⟩
  | mgmtFwRestartDone _ => exact ⟨_, rfl, fwRestarted_pending ..⟩
  | kmpHello _ _ => exact ⟨_, rfl, hello_pending ..⟩
  | kmpBye _ _ => exact ⟨_, rfl, kmpOp_pending (fun _ _ _ => bye_pending ..) ..⟩
  | kmpRead _ _ => exact ⟨_, rfl, kmpOp_pending (fun _ _ _ => kmpRead_pending ..) ..⟩
  | kmpWrite _ _ => exact ⟨_, rfl, kmpOp_pending (fun _ _ _ => kmpWrite_pending ..) ..⟩
  | kmpBlockRead _ _ => exact ⟨_, rfl, kmpOp_pending (fun _ _ _ => kmpBlockRead_pending ..) ..⟩
  | kmpLogRead _ _ => exact ⟨_, rfl, kmpOp_pending (fun _ _ _ => kmpLogRead_pending ..) ..⟩
  | kmpLogFreeze _ _ => exact ⟨_, rfl, kmpOp_pending (fun _ _ _ => kmpFreeze_pending ..) ..⟩
  | kmpCupRead _ _ => exact ⟨_, rfl, kmpOp_pending (fun _ _ _ => kmpCupRead_pending ..) ..⟩
  | kmpCaddyWrite _ _ => exact ⟨_, rfl, kmpOp_pending (fun _ _ _ => kmpCaddyWrite_pending ..) ..⟩
  | kmpSnapshotExport _ _ => exact ⟨_, rfl, kmpRun_pending (fun _ _ _ => kmpExport_pending ..) ..⟩
  | kmpSnapshotImport _ _ => exact ⟨_, rfl, kmpRun_pending (fun _ _ _ => kmpImport_pending ..) ..⟩
  | kmpHeartbeat _ _ => exact ⟨_, rfl, kmpOp_pending (fun _ _ _ => kmpBeat_pending ..) ..⟩
  | kmpSetTime _ _ => exact ⟨_, rfl, kmpOp_pending (fun _ _ _ => kmpSetTime_pending ..) ..⟩
  | kmpData _ _ => exact ⟨_, rfl, (kmpOp_pending (fun _ _ _ => bulkData_pending ..) ..).trans (noteBad_pending ..)⟩
  | kmpAck _ _ => exact ⟨_, rfl, kmpOp_pending (fun _ _ _ => bulkAck_pending ..) ..⟩
  | bulkDataSend _ => exact ⟨_, rfl, bulkSend_pending ..⟩
  | bulkAckTimer _ => exact ⟨_, rfl, bulkAckTimer_pending ..⟩
  | bulkResendTimeout _ => exact ⟨_, rfl, bulkResend_pending ..⟩
  | bulkAbandonTimeout _ => exact ⟨_, rfl, bulkAbandon_pending ..⟩
  | kmpPendingTimeout _ => exact ⟨_, rfl, pendingEnd_pending ..⟩
  | kmpIdleTimeout _ => exact ⟨_, rfl, idleEnd_pending ..⟩
  | kmpTagFailSecond => exact ⟨_, rfl, kmpSecond_pending ..⟩
  | frameForward _ _ => exact ⟨_, rfl, frameIn_pending ..⟩
  | stormSecondEnd _ => exact ⟨_, rfl, stormSecond_pending ..⟩
  | macAgeOut _ => exact ⟨_, rfl, macAge_pending ..⟩
  | linkChange _ _ _ _ => exact ⟨_, rfl, linkChange_pending ..⟩
  | arpRequest _ _ _ => exact ⟨_, rfl, neighbour_pending ..⟩
  | echoRequest _ => exact ⟨_, rfl, echo_pending ..⟩
  | unservedPortSegment _ _ _ => exact ⟨_, rfl, unserved_pending ..⟩
  | dhcpRenew _ => exact ⟨_, rfl, dhcpRenew_pending ..⟩
  | dhcpLeaseLost => exact ⟨_, rfl, leaseLost_pending ..⟩
  | addressProbeDone _ _ _ _ _ => exact ⟨_, rfl, probeEnd4_pending ..⟩
  | conflictRetry => exact ⟨_, rfl, conflictRetry_pending ..⟩
  | modbusConnect _ _ => exact ⟨_, rfl, mbConnect_pending ..⟩
  | modbusIdleClose _ => exact ⟨_, rfl, mbIdle_pending ..⟩
  | modbusReadHolding _ _ => exact ⟨_, rfl, mbRequest_pending ..⟩
  | modbusReadInput _ _ => exact ⟨_, rfl, mbRequest_pending ..⟩
  | modbusWriteSingle _ _ => exact ⟨_, rfl, mbRequest_pending ..⟩
  | modbusWriteMultiple _ _ => exact ⟨_, rfl, mbRequest_pending ..⟩
  | modbusReadWrite _ _ => exact ⟨_, rfl, mbRequest_pending ..⟩
  | clientPoll _ => exact ⟨_, rfl, clientPoll_pending ..⟩
  | clientResponse _ _ => exact ⟨_, rfl, clientResponse_pending ..⟩
  | clientTransactionTimeout _ => exact ⟨_, rfl, clientTimeout_pending ..⟩
  | clientConnectionLost _ => exact ⟨_, rfl, clientLost_pending ..⟩
  | clientReconnect _ _ => exact ⟨_, rfl, clientConnect_pending ..⟩
  | hspiRead _ _ _ => exact ⟨_, rfl, hspiFrame_pending (fun _ => hspiRead_pending ..) ..⟩
  | hspiWrite _ _ _ => exact ⟨_, rfl, hspiFrame_pending (fun _ => issueWrite_pending ..) ..⟩
  | hspiFetch _ _ _ => exact ⟨_, rfl, hspiFrame_pending (fun _ => rfl) ..⟩
  | heartbeat _ _ => exact ⟨_, rfl, writeAt_pending ..⟩
  | watchdogTrip => exact ⟨_, rfl, wdogTrip_pending ..⟩
  | ppsEdge _ _ => exact ⟨_, rfl, ppsEdge_pending ..⟩
  | nmeaSentence _ _ => exact ⟨_, rfl, nmeaSentence_pending ..⟩
  | gnssLost => exact ⟨_, rfl, gnssLost_pending ..⟩
  | holdoverExpire => exact ⟨_, rfl, holdoverExpire_pending ..⟩
  | timeStepApply => exact ⟨_, rfl, timeStep_pending ..⟩
  | slewDone => exact ⟨_, rfl, slewDone_pending ..⟩
  | timeSetCmd _ => exact ⟨_, rfl, writeAt_pending ..⟩
  | gnssReceiverReset => exact ⟨_, rfl, gnssReset_pending ..⟩
  | gnssSetupSend => exact ⟨_, rfl, gnssSetup_pending ..⟩
  | timeMark => exact ⟨_, rfl, timeMark_pending ..⟩
  | ptpAnnounceSend _ => exact ⟨_, rfl, ptpAnnounce_pending ..⟩
  | ptpSyncSend _ => exact ⟨_, rfl, ptpSync_pending ..⟩
  | ptpDelayReq _ _ _ => exact ⟨_, rfl, ptpDelayReq_pending ..⟩
  | ptpForeignAnnounce _ _ _ => exact ⟨_, rfl, ptpForeign_pending ..⟩
  | ptpAnnounceTimeout _ => exact ⟨_, rfl, ptpTimeout_pending ..⟩
  | ppsOutEdge => exact ⟨_, rfl, ppsOut_pending ..⟩
  | sprinCycleStart _ _ => exact ⟨_, rfl, cycleStart_pending ..⟩
  | sprinReply _ _ _ _ => exact ⟨_, rfl, when_pending (fun _ => sprinReply_pending ..) ..⟩
  | sprinReplyTimeout _ => exact ⟨_, rfl, when_pending (fun _ => sprinTimeout_pending ..) ..⟩
  | sprinAlarmFrame _ _ _ _ => exact ⟨_, rfl, when_pending (fun _ => sprinAlarm_pending ..) ..⟩
  | sprinEnumPresence _ _ => exact ⟨_, rfl, when_pending (fun _ => enumPresence_pending ..) ..⟩
  | sprinSupplyTrip _ _ => exact ⟨_, rfl, when_pending (fun _ => portTrip_pending ..) ..⟩
  | sprinSupplyRetry _ => exact ⟨_, rfl, when_pending (fun _ => portRetry_pending ..) ..⟩
  | sprinBootDone _ => exact ⟨_, rfl, when_pending (fun _ => portBooted_pending ..) ..⟩
  | sprinStuck _ => exact ⟨_, rfl, when_pending (fun _ => portStuckTest_pending ..) ..⟩
  | sprinStuckEnd _ => exact ⟨_, rfl, when_pending (fun _ => portStuckEnd_pending ..) ..⟩
  | sprinReenumerate _ _ => exact ⟨_, rfl, writeAt_pending ..⟩
  | sprinPowerCycle _ _ => exact ⟨_, rfl, writeAt_pending ..⟩
  | sprinIdentify _ _ _ => exact ⟨_, rfl, writeAt_pending ..⟩
  | sprinNcmdGo _ _ _ => exact ⟨_, rfl, writeAt_pending ..⟩
  | sprinMinuteReport _ => exact ⟨_, rfl, when_pending (fun _ => sprinMinute_pending ..) ..⟩
  | fieldSample _ _ _ _ => exact ⟨_, rfl, fieldSample_pending ..⟩
  | shuntOverload _ => exact ⟨_, rfl, when_pending (fun _ => shuntOverload_pending ..) ..⟩
  | shuntReclose _ => exact ⟨_, rfl, when_pending (fun _ => shuntReclose_pending ..) ..⟩
  | aoMonitorSample _ _ => exact ⟨_, rfl, aoMonitor_pending ..⟩
  | aoFaultEnter _ => exact ⟨_, rfl, aoFaultTest_pending ..⟩
  | aoFaultClear _ => exact ⟨_, rfl, aoFaultClear_pending ..⟩
  | pulseEdge _ _ _ _ => exact ⟨_, rfl, pulseEdge_pending ..⟩
  | pulseTimeout _ => exact ⟨_, rfl, pulseTimeout_pending ..⟩
  | pulseMinuteReport _ => exact ⟨_, rfl, pulseMinute_pending ..⟩
  | bodyStepReady _ => exact ⟨_, rfl, (dispatch_pending ..).trans (stepReady_pending ..)⟩
  | tileDone _ _ _ _ => exact ⟨_, rfl, (dispatch_pending ..).trans
      ((importSettle_pending ..).trans (when_pending (fun _ => tileDone_pending ..) ..))⟩
  | readingArrive _ _ _ _ => exact ⟨_, rfl, (dispatch_pending ..).trans
      (when_pending (fun _ => readingArrive_pending ..) ..)⟩
  | airflowSolveDue _ => exact ⟨_, rfl, (dispatch_pending ..).trans (when_pending (fun _ => solveDue_pending ..) ..)⟩
  | airflowSolveDone _ _ _ _ => exact ⟨_, rfl, (dispatch_pending ..).trans
      (when_pending (fun _ => solveDone_pending ..) ..)⟩
  | forecastRunStart _ => exact ⟨_, rfl, (dispatch_pending ..).trans
      (when_pending (fun _ => forecastStart_pending ..) ..)⟩
  | forecastRunDone _ _ => exact ⟨_, rfl, (dispatch_pending ..).trans
      (when_pending (fun _ => forecastDone_pending ..) ..)⟩
  | snapshotDue => exact ⟨_, rfl, (dispatch_pending ..).trans (when_pending snapshotDue_pending ..)⟩
  | snapshotWriteDone _ => exact ⟨_, rfl, (dispatch_pending ..).trans
      (when_pending (fun _ => snapshotWritten_pending ..) ..)⟩
  | bodyHold _ _ => exact ⟨_, rfl, writeAt_pending ..⟩
  | bodyResume _ _ => exact ⟨_, rfl, writeAt_pending ..⟩
  | coastRepublish _ => exact ⟨_, rfl, when_pending (fun _ => coast_pending ..) ..⟩
  | coldSeed _ => exact ⟨_, rfl, (dispatch_pending ..).trans (when_pending (fun _ => coldSeed_pending ..) ..)⟩
  | millCellRead _ _ => exact ⟨_, rfl, readVia_pending ..⟩
  | millMinuteReport _ _ => exact ⟨_, rfl, when_pending (fun _ => millMinute_pending ..) ..⟩
  | govSample _ _ => exact ⟨_, rfl, (swapGo_pending ..).trans ((overrides_pending ..).trans (govSample_pending ..))⟩
  | govModeRequest _ _ _ => exact ⟨_, rfl, writeAt_pending ..⟩
  | govCoefWrite _ _ _ _ => exact ⟨_, rfl, when_pending (fun _ => writeAt_pending ..) ..⟩
  | staleTimeout _ _ _ => exact ⟨_, rfl, staleTimeout_pending ..⟩
  | coastExpire _ _ => exact ⟨_, rfl, coastExpire_pending ..⟩
  | testLimitExpire _ => exact ⟨_, rfl, testLimit_pending ..⟩
  | govMinuteReport _ => exact ⟨_, rfl, govMinute_pending ..⟩
  | cupArm _ => exact ⟨_, rfl, writeAt_pending ..⟩
  | cupStop _ => exact ⟨_, rfl, writeAt_pending ..⟩
  | cupClear _ => exact ⟨_, rfl, writeAt_pending ..⟩
  | cupAtTrigger => exact ⟨_, rfl, cupAt_pending ..⟩
  | cupInfCfgWrite _ _ _ => exact ⟨_, rfl, writeAt_pending ..⟩
  | valveTimed _ _ _ _ => exact ⟨_, rfl, writeAt_pending ..⟩
  | valveContinuous _ _ _ => exact ⟨_, rfl, writeAt_pending ..⟩
  | valveStop _ _ _ => exact ⟨_, rfl, writeAt_pending ..⟩
  | prearmEnd _ => exact ⟨_, rfl, prearmEnd_pending ..⟩
  | peakReached _ _ => exact ⟨_, rfl, peakReached_pending ..⟩
  | peakTimeEnd _ _ => exact ⟨_, rfl, peakTimeEnd_pending ..⟩
  | holdEnd _ => exact ⟨_, rfl, holdFinish_pending ..⟩
  | releaseDone _ => exact ⟨_, rfl, releaseDone_pending ..⟩
  | lingerEnd _ => exact ⟨_, rfl, lingerEnd_pending ..⟩
  | deferTimeout _ => exact ⟨_, rfl, deferTimeout_pending ..⟩
  | valveShortTrip _ => exact ⟨_, rfl, shortTrip_pending ..⟩
  | probeDone _ _ _ _ _ => exact ⟨_, rfl, probeDone_pending ..⟩
  | dutyIntervalEnd _ => exact ⟨_, rfl, dutyInterval_pending ..⟩
  | valveStageError _ => exact ⟨_, rfl, testWant_pending ..⟩
  | valveBankDisable _ _ => exact ⟨_, rfl, writeAt_pending ..⟩
  | valveBankEnable _ _ => exact ⟨_, rfl, writeAt_pending ..⟩
  | valveChannelDisable _ _ => exact ⟨_, rfl, writeAt_pending ..⟩
  | valveChannelEnable _ _ => exact ⟨_, rfl, writeAt_pending ..⟩
  | valveClearFault _ _ => exact ⟨_, rfl, writeAt_pending ..⟩
  | valveCqPop _ _ _ => exact ⟨_, rfl, writeAt_pending ..⟩
  | valveCqLossMinute _ => exact ⟨_, rfl, cqMinute_pending ..⟩
  | stageBudgetCheck _ _ _ _ _ => exact ⟨_, rfl, stageBudget_pending ..⟩
  | fanPeriodStart _ => exact ⟨_, rfl, fanPeriod_pending ..⟩
  | fanStartingEnd _ => exact ⟨_, rfl, fanStarted_pending ..⟩
  | fanWindowStart _ => exact ⟨_, rfl, fanWindow_pending ..⟩
  | tachEdge _ _ _ => exact ⟨_, rfl, tachEdge_pending ..⟩
  | fanWindowEnd _ _ _ => exact ⟨_, rfl, fanWindowEnd_pending ..⟩
  | fanRetryExpire _ => exact ⟨_, rfl, fanRetry_pending ..⟩
  | fanBurstEnd _ _ _ _ => exact ⟨_, rfl, (overrides_pending ..).trans (fanBurstEnd_pending ..)⟩
  | fanShort _ => exact ⟨_, rfl, fanShort_pending ..⟩
  | fanLoopTick _ => exact ⟨_, rfl, fanTick_pending ..⟩
  | fanInputStale _ => exact ⟨_, rfl, fanInputStale_pending ..⟩
  | guardSample _ _ _ _ _ => exact ⟨_, rfl, (afterGuard_pending ..).trans (guardSample_pending ..)⟩
  | zoneDwellExpire _ _ => exact ⟨_, rfl, (afterGuard_pending ..).trans (dwellExpire_pending ..)⟩
  | haltGraceEnd _ _ => exact ⟨_, rfl, graceEnd_pending ..⟩
  | thermalRestart => exact ⟨_, rfl, thermalRestart_pending ..⟩
  | panelBlankingSlot _ => exact ⟨_, rfl, blankingSlot_pending ..⟩
  | gainRecompute => exact ⟨_, rfl, gainRecompute_pending ..⟩
  | stressSave => exact ⟨_, rfl, stressSave_pending ..⟩
  | dispFbWrite _ _ => exact ⟨_, rfl, writeAt_pending ..⟩
  | dispCommitGo _ _ => exact ⟨_, rfl, writeAt_pending ..⟩
  | dispPanelOff _ => exact ⟨_, rfl, writeAt_pending ..⟩
  | dispWake _ => exact ⟨_, rfl, writeAt_pending ..⟩
  | dispClearCrack _ => exact ⟨_, rfl, writeAt_pending ..⟩
  | dispClearStress _ => exact ⟨_, rfl, writeAt_pending ..⟩
  | bindingHoldEnd => exact ⟨_, rfl, bindEnd_pending ..⟩
  | dischargeDone => exact ⟨_, rfl, dischargeDone_pending ..⟩
  | crackCheck _ => exact ⟨_, rfl, crackCheck_pending ..⟩
  | stripGo _ _ => exact ⟨_, rfl, writeAt_pending ..⟩
  | stripFrame => exact ⟨_, rfl, stripFrame_pending ..⟩
  | stripMarkerDone => exact ⟨_, rfl, stripMarker_pending ..⟩
  | stripWaitTimeout => exact ⟨_, rfl, stripTimeout_pending ..⟩
  | eventRecordSubmit _ _ _ _ _ _ _ => exact ⟨_, rfl, ite_pending (submit_pending ..) rfl⟩
  | pondRecordEntry => exact ⟨_, rfl, arbitrate_pending ..⟩
  | logPageDue => exact ⟨_, rfl, pageStart_pending ..⟩
  | logPageProgrammed _ => exact ⟨_, rfl, pageDone_pending ..⟩
  | sectorEraseDone _ _ _ => exact ⟨_, rfl, ite_pending (headSector_pending ..) (tailErased_pending ..)⟩
  | logClear _ _ => exact ⟨_, rfl, writeAt_pending ..⟩
  | headraceEraseDone => exact ⟨_, rfl, headErased_pending ..⟩
  | logFreezeSet _ => exact ⟨_, rfl, writeAt_pending ..⟩
  | logFreezeLift _ => exact ⟨_, rfl, writeAt_pending ..⟩
  | freezeTimeout => exact ⟨_, rfl, unfreeze_pending ..⟩
  | syslogSend => exact ⟨_, rfl, syslogSend_pending ..⟩
  | syslogSkipMinute => exact ⟨_, rfl, syslogMinute_pending ..⟩
  | gnssMinuteReport => exact ⟨_, rfl, gnssMinute_pending ..⟩
  | elementErrorDetected _ _ _ => exact ⟨_, rfl, elementError_pending ..⟩
  | selfTestDone _ _ _ => exact ⟨_, rfl, testEnd_pending ..⟩
  | relHostTest _ _ _ => exact ⟨_, rfl, writeAt_pending ..⟩
  | lockstepMismatch _ => exact ⟨_, rfl, lockMismatch_pending ..⟩
  | lockstepTestDone _ _ => exact ⟨_, rfl, (swapGo_pending ..).trans (lockTested_pending ..)⟩
  | lockstepReexecuteDone _ _ _ => exact ⟨_, rfl, (swapGo_pending ..).trans (lockReexecuted_pending ..)⟩
  | lockstepPlaceDone _ _ _ _ => exact ⟨_, rfl, (swapGo_pending ..).trans (lockPlaced_pending ..)⟩
  | scrubStep _ => exact ⟨_, rfl, scrubStep_pending ..⟩
  | eccHourReport => exact ⟨_, rfl, eccHour_pending ..⟩
  | bootSelfTestDone _ _ _ => exact ⟨_, rfl, bootTested_pending ..⟩
  | pfiReturn => exact ⟨_, rfl, pfiBack_pending ..⟩
  | v1p8Collapse => exact ⟨_, rfl, collapse_pending ..⟩
  | valveProbeStart _ => exact ⟨_, rfl, probeStart_pending ..⟩
  | sprinPowerCycleEnd _ => exact ⟨_, rfl, when_pending (fun _ => portCycleEnd_pending ..) ..⟩
  | linkLocalFallback _ => exact ⟨_, rfl, linkLocal_pending ..⟩
  | gnssResetRelease => exact ⟨_, rfl, gnssRelease_pending ..⟩

end State

/-- Settles O5: each command's operation keeps the waiting commands. -/
theorem execKeepsQueue : Obligations.ExecKeepsQueue := by
  unfold Obligations.ExecKeepsQueue
  exact State.exec_pending

end Sys2Proof.Machine

end
